-- ==== Sys2Proof/Word.lean ====
section
/-! DEFINITION. The word types of the LH9600 model: a register word of BAR0, one byte, a byte string,
and the names of the lanes and consist ports. -/

namespace Sys2Proof

/-- A register word: every register of BAR0 is 32 bits wide (R3, R459). -/
abbrev Word := BitVec 32

/-- One byte of a frame, a record, a table entry or a memory. -/
abbrev Byte := BitVec 8

/-- A byte string in wire order. -/
abbrev Bytes := List Byte

/-- A coupler lane: E1A = 0, E1B = 1, E2A = 2, E2B = 3 (LANE registers, chapter 02). -/
abbrev Lane := Fin 4

/-- A consist port C0 to C3 (chapter 09). -/
abbrev Port := Fin 4

/-- A vehicle end: 0 is end 1, 1 is end 2 (chapter 01). -/
abbrev VEnd := Fin 2

end Sys2Proof
end

