-- ==== Sys2Proof/Syntax.lean ====
section
/-! DEFINITION. The commands of the block: one constructor per row of spec/opcode_table.json, rows with operands before rows without (a compiled
constructor with fields must stand among the first 244). -/

namespace Sys2Proof

/-- The intervals of an IEEE 1588 port (R212): Announce, Sync, Delay_Req or Pdelay_Req. -/
inductive PtpTimer
  | announce
  | sync
  | delay
deriving DecidableEq, Repr

/-- The mPacket in which bytes came in on a consist port, by its start delimiter (IEEE 802.3br, R264): an express frame; a verify or respond
packet; the first fragment of frame `frame` modulo 4, or a later one with its fragment count; an unknown delimiter or fragment count. -/
inductive Mpacket
  | express
  | verify
  | respond
  | start (frame : Fin 4)
  | cont (frame : Fin 4) (count : Fin 4)
  | bad
deriving DecidableEq, Repr

/-- How the line stood for a training set: the code and disparity errors among its characters, IDLE has come since the lane entered ACTIVE. -/
structure TsLine where
  errors : Nat
  idle : Bool
deriving DecidableEq, Repr

/-- A command packet's slot, and the ECC errors of the recorder lines that its command reads, in order (R398, R403: 1 corrected, 2 uncorrectable). -/
structure LineRead where
  slot : Fin 64
  ecc : List (Fin 3)
deriving DecidableEq, Repr

/-- The serial flash at BOOT0, BOOT1 (R486): what it answers to command 0x5A, and its bytes from offset 0 on. -/
structure Flash where
  sfdp : Bytes
  data : Bytes
deriving DecidableEq, Repr

/-- Code and disparity errors counted in 100 µs, and the K characters received in it. -/
structure CodeErrors where
  errors : Nat
  ks : Bytes
deriving DecidableEq, Repr

/-- A Sync, and its Follow_Up when it is a two-step one. -/
structure PtpSync where
  message : Bytes
  followUp : Option Bytes
deriving DecidableEq, Repr

/-- How a frame on a consist port ended: with an SGMII error symbol inside it, and the mPacket it came in. -/
structure EthEnd where
  symbolError : Bool
  packet : Mpacket
deriving DecidableEq, Repr

/-- A command to the block, or an event at one of its pins, lanes or ports. Each names the rule its row gives. -/
inductive Instr
  /-- REGISTER_WRITE (R3): BAR0 byte address and word written (R3). -/
  | registerWrite (addr : Word) (value : Word)
  /-- WP_WRITE_TAKES_EFFECT (R4): the block, by the second hex digit of its offset (R4). -/
  | wpWriteTakesEffect (block : Fin 16)
  /-- WCP_FIRST_WORD (R5): address A of a WCP register and the word written (R5). -/
  | wcpFirstWord (addr : Word) (value : Word)
  /-- WCP_COMPLEMENT_WORD (R5): address A + 0x800 and the word written (R5). -/
  | wcpComplementWord (addr : Word) (value : Word)
  /-- WCP_PAIR_TIMEOUT (R5): the block whose pair is open (R5). -/
  | wcpPairTimeout (block : Fin 16)
  /-- VOTED_REGISTER_READ (R458): BAR0 address of the voted register (R458). -/
  | votedRegisterRead (addr : Word)
  /-- IRQ_FLAG_CLEAR (R455): address of an IRQ register and the word written (R455). -/
  | irqFlagClear (addr : Word) (value : Word)
  /-- MSIX_VECTOR_UNMASK (R455): the vector (R455). -/
  | msixVectorUnmask (vec : Fin 64)
  /-- BLOCK_COUNTER_CLEAR (R64): address of a CNTCLR register and the word written (R64 and its like). -/
  | blockCounterClear (addr : Word) (value : Word)
  /-- LANE_ENABLE_WRITE (R40): the word written to LANE_CTRL (R40). -/
  | laneEnableWrite (lane : Lane) (value : Word)
  /-- LANE_RETRAIN_WRITE (R41): the word written to LANE_CTRL (R41). -/
  | laneRetrainWrite (lane : Lane) (value : Word)
  /-- LANE_SIGNAL_DETECT (R40): the lane (R40). -/
  | laneSignalDetect (lane : Lane)
  /-- DETECT_SIGNAL_STABLE (R40): the lane (R40). -/
  | detectSignalStable (lane : Lane)
  /-- DETECT_SIGNAL_ABSENT (R40): the lane (R40). -/
  | detectSignalAbsent (lane : Lane)
  /-- TRAINING_SET_RECEIVED (R40): the seven characters after K28.1, whether all came without code error, and whether IDLE has come since the
  lane entered ACTIVE (R40, R44). -/
  | trainingSetReceived (lane : Lane) (line : TsLine) (chars : Bytes)
  /-- RECEIVER_ADAPTED (R40): the equaliser setting reached (R40, LANE_EQRES). -/
  | receiverAdapted (lane : Lane) (ctle : Nat) (dfe1 : Byte) (dfe2 : Byte) (dfe3 : Byte)
  /-- TRAINING_TIMEOUT (R40): the lane (R40). -/
  | trainingTimeout (lane : Lane)
  /-- LANE_SIGNAL_LOSS (R41): the lane (R41). -/
  | laneSignalLoss (lane : Lane)
  /-- LANE_ALIGNMENT_LOSS (R41): the lane (R41). -/
  | laneAlignmentLoss (lane : Lane)
  /-- CODE_ERROR_THRESHOLD (R41): code and disparity errors counted in the 100 µs, and the K characters received in it (R37, R41). -/
  | codeErrorThreshold (lane : Lane) (seen : CodeErrors)
  /-- CREDIT_RETURN_RECEIVED (R39): the three characters after K28.4 (R39). -/
  | creditReturnReceived (lane : Lane) (f1 : Byte) (f2 : Byte) (nf : Byte)
  /-- CREDIT_RETURN_TIMER (R39): the lane (R39). -/
  | creditReturnTimer (lane : Lane)
  /-- LANE_SF_RECEIVED (R47): the debit character (R47). -/
  | laneSfReceived (lane : Lane) (debit : Byte)
  /-- CRS_REQ_RECEIVED (R49): the three characters after K23.7 (R49). -/
  | crsReqReceived (lane : Lane) (code : Byte) (value : Byte) (check : Byte)
  /-- CRS_ACK_RECEIVED (R49): the three characters after K23.7 (R49). -/
  | crsAckReceived (lane : Lane) (code : Byte) (value : Byte) (check : Byte)
  /-- RESYNC_BUFFER_DRAINED (R49): the lane (R49). -/
  | resyncBufferDrained (lane : Lane)
  /-- CRS_DONE_RECEIVED (R49): the three characters after K23.7 (R49). -/
  | crsDoneReceived (lane : Lane) (code : Byte) (value : Byte) (check : Byte)
  /-- CREDIT_RESYNC_TIMEOUT (R50): the lane (R50). -/
  | creditResyncTimeout (lane : Lane)
  /-- STRAY_DATA_CHARACTER (R58): the data character outside a frame (R58). -/
  | strayDataCharacter (lane : Lane) (char : Byte)
  /-- PREEMPT_RECEIVED (R61): frame bytes received since the last event of the frame, before PRE (R61). -/
  | preemptReceived (lane : Lane) (bytes : Bytes)
  /-- RESUME_RECEIVED (R61): the debit character of RES (R61). -/
  | resumeReceived (lane : Lane) (debit : Byte)
  /-- LANE_FRAME_END (R57): frame bytes since the last event of the frame, EG or EB, and code errors inside the frame (R57). -/
  | laneFrameEnd (lane : Lane) (bytes : Bytes) (good : Bool) (codeErrors : Nat)
  /-- TX_SOURCE_STALL (R38): the lane (R38). -/
  | txSourceStall (lane : Lane)
  /-- LANE_ENERGY_WAKE (R63): level in mVppd and length of the burst in ns (R63). -/
  | laneEnergyWake (lane : Lane) (mv : Nat) (ns : Nat)
  /-- FRAME_DECISION (R222): frame bytes since the last event of the frame, up to the cut-through point (R222). -/
  | frameDecision (lane : Lane) (bytes : Bytes)
  /-- EGRESS_FRAME_START (R235): the lane transmitter (R235). -/
  | egressFrameStart (lane : Lane)
  /-- EXPRESS_INTERVAL_START (R145): the lane egress (R145). -/
  | expressIntervalStart (lane : Lane)
  /-- PROBE_SEND_TIMER (R69): the lane (R69). -/
  | probeSendTimer (lane : Lane)
  /-- PROBE_RECEIVED (R70): the PROBE frame (R70). -/
  | probeReceived (lane : Lane) (frame : Bytes)
  /-- QUARANTINE_EXPIRY (R132): the quarantined vehicle end (R132). -/
  | quarantineExpiry (vend : VEnd)
  /-- PROBE_ANSWER_TIMEOUT (R71): the lane (R71). -/
  | probeAnswerTimeout (lane : Lane)
  /-- LEAD_INPUT_DEBOUNCED (R73): the debounced LEAD input (R73). -/
  | leadInputDebounced (level : Bool)
  /-- INAU_EN_WRITE (R73): the word written to INAU_CTRL (R73). -/
  | inauEnWrite (value : Word)
  /-- INAU_LEADMASK_WRITE (R73): the word written to INAU_CTRL (R73). -/
  | inauLeadmaskWrite (value : Word)
  /-- INAU_REINAU_WRITE (R133): the word written to INAU_CTRL (R133). -/
  | inauReinauWrite (value : Word)
  /-- WAVE_START_RECEIVED (R77): the WAVE frame (R77). -/
  | waveStartReceived (lane : Lane) (frame : Bytes)
  /-- COUNT_RELAY_START (R83): the first 56 frame bytes of the segment (R83). -/
  | countRelayStart (lane : Lane) (head : Bytes)
  /-- WAVE_COUNT_RECEIVED (R82): the COUNT segment, and whether it ended with EG and passed Table 02.8 (R82). -/
  | waveCountReceived (lane : Lane) (frame : Bytes) (good : Bool)
  /-- AGREE_RECEIVED (R94): the RSUM frame (R94). -/
  | agreeReceived (lane : Lane) (frame : Bytes)
  /-- DISAGREE_RECEIVED (R94): the RSUM frame (R94). -/
  | disagreeReceived (lane : Lane) (frame : Bytes)
  /-- DAYBREAK_RECEIVED (R102): the RSUM frame, and how long ago its SF crossed the balls, in 1/16 ns (R102). -/
  | daybreakReceived (lane : Lane) (frame : Bytes) (ago : Nat)
  /-- MERGE_DAYBREAK_RECEIVED (R122): the RSUM frame, and how long ago its SF crossed the balls, in 1/16 ns (R122). -/
  | mergeDaybreakReceived (lane : Lane) (frame : Bytes) (ago : Nat)
  /-- OUTAGE_GRACE_EXPIRY (R108): the vehicle end (R108). -/
  | outageGraceExpiry (vend : VEnd)
  /-- COMPACT (R119): the slot that holds the command packet (R119, R438). -/
  | compact (slot : Fin 64)
  /-- INAU_MBSEL_WRITE (R106): the word written to INAU_MBSEL (R106). -/
  | inauMbselWrite (value : Word)
  /-- GUARDIAN_POINT (R146): the sweep of the own window: forward or rearward (R146). -/
  | guardianPoint (fwd : Bool)
  /-- OWN_WINDOW_OPEN (R147): the sweep of the own window (R147). -/
  | ownWindowOpen (fwd : Bool)
  /-- SUBSCRIPTION_MAXAGE_EXPIRY (R162): the subscription entry (R162). -/
  | subscriptionMaxageExpiry (entry : Nat)
  /-- SCHD_MODEREQ_GO (R165): the word written to SCHD_MODEREQ (R165). -/
  | schdModereqGo (value : Word)
  /-- SCHD_MODEDESC_WRITE (R168): the mode and the word written (R168). -/
  | schdModedescWrite (mode : Fin 8) (value : Word)
  /-- SCHD_TABLE_LOAD (R169): the word written to SCHD_TSEL (R169). -/
  | schdTableLoad (value : Word)
  /-- SCHD_TABLE_STORE (R170): the word written to SCHD_TSEL (R170). -/
  | schdTableStore (value : Word)
  /-- PDREQ_SEND_TIMER (R175): the lane (R175). -/
  | pdreqSendTimer (lane : Lane)
  /-- PDREQ_RECEIVED (R175): the PDREQ frame, the age of its SF in 1/16 ns, and whether it was stamped (R175). -/
  | pdreqReceived (lane : Lane) (frame : Bytes) (ago : Nat) (stamped : Bool)
  /-- PDRSP_RECEIVED (R176): the PDRSP frame and the age of its SF in 1/16 ns (R176). -/
  | pdrspReceived (lane : Lane) (frame : Bytes) (ago : Nat)
  /-- SYNC_WORST_CLEAR (R189): the word written to SYNC_CTRL (R189). -/
  | syncWorstClear (value : Word)
  /-- PTP_SYNC_RECEIVED (R203): a Sync on the port, stamped `ago` before now at the MAC, and its Follow_Up when two-step (R203, R216). -/
  | ptpSyncReceived (port : Port) (sync : PtpSync) (ago : Nat)
  /-- PTP_MESSAGE_RECEIVED (R212): the message, and how long before now its first bit came, 1/16 ns (R216). -/
  | ptpMessageReceived (port : Port) (message : Bytes) (ago : Nat)
  /-- PTP_MESSAGE_INTERVAL (R212): the interval that has passed: announce, sync or delay request. -/
  | ptpMessageInterval (port : Port) (timer : PtpTimer)
  /-- TOD_ARM_WRITE (R204): the word written to TIME_TODHI (R204). -/
  | todArmWrite (value : Word)
  /-- TIME_ACCEPT_WRITE (R207): the word written to TIME_CTRL (R207). -/
  | timeAcceptWrite (value : Word)
  /-- TPO_ARM_WRITE (R208): the unit and the word written at its +0x00 (R208). -/
  | tpoArmWrite (unit : Fin 4) (value : Word)
  /-- COMPARE_UNIT_FIRE (R208): the unit (R208). -/
  | compareUnitFire (unit : Fin 4)
  /-- TPO_PULSE_END (R210): the unit (R210). -/
  | tpoPulseEnd (unit : Fin 4)
  /-- CAPTURE_EDGE (R211): the input and the edge (R211). -/
  | captureEdge (input : Fin 4) (rising : Bool)
  /-- TIME_MBSEL_WRITE (R7): the word written to TIME_MBSEL (R7). -/
  | timeMbselWrite (value : Word)
  /-- CONSIST_LINK_UP (R250): the code word of the PHY: 0 10, 1 100, 2 1,000 Mbit/s (R250). -/
  | consistLinkUp (port : Port) (speed : Fin 3) (fullDuplex : Bool)
  /-- CONSIST_LINK_DOWN (R252): the port, and whether code-group synchronisation is still held (R252). -/
  | consistLinkDown (port : Port) (sync : Bool)
  /-- CONSIST_STEERING_DECISION (R256): the first 64 bytes, and the age of the first bit after the start frame delimiter in 1/16 ns (R255, R256). -/
  | consistSteeringDecision (port : Port) (latch : Bytes) (ago : Nat)
  /-- CONSIST_BUFFER_DRAW (R260): frame bytes since the last event of the frame (R260). -/
  | consistBufferDraw (port : Port) (bytes : Bytes)
  /-- CONSIST_FRAME_END (R253): frame bytes since the last event of the frame, how it ended, the age of its first bit (R253, R264). -/
  | consistFrameEnd (port : Port) (bytes : Bytes) (ending : EthEnd) (ago : Nat)
  /-- FILTER_RULE_COMMIT (R257): the rule and the word written to its W0 (R257). -/
  | filterRuleCommit (port : Port) (rule : Fin 64) (value : Word)
  /-- CONSIST_TX_FRAME_START (R263): the port (R263). -/
  | consistTxFrameStart (port : Port)
  /-- CONSIST_TX_FRAME_END (R273): the port (R273). -/
  | consistTxFrameEnd (port : Port)
  /-- TELEGRAM_LAUNCH (R265): the port (R265). -/
  | telegramLaunch (port : Port)
  /-- PREEMPTION_VERIFY_RESULT (R264): success, or the third failure (R264). -/
  | preemptionVerifyResult (port : Port) (ok : Bool)
  /-- PAUSE_RECEIVED (R267): the quanta that a valid pause frame carries (R267). -/
  | pauseReceived (port : Port) (quanta : BitVec 16)
  /-- PAUSE_HOLD_EXPIRY (R267): the port (R267). -/
  | pauseHoldExpiry (port : Port)
  /-- PAUSE_REPEAT_TIMER (R268): the port (R268). -/
  | pauseRepeatTimer (port : Port)
  /-- PAUSE_XON_REACHED (R268): the port (R268). -/
  | pauseXonReached (port : Port)
  /-- PAUSE_WATCHDOG_TRIP (R269): the port (R269). -/
  | pauseWatchdogTrip (port : Port)
  /-- PAUSE_WATCHDOG_END (R269): the port (R269). -/
  | pauseWatchdogEnd (port : Port)
  /-- TX_RING_FETCH_START (R274): the ring and its descriptors from the first one not taken up (R274). -/
  | txRingFetchStart (port : Port) (queue : Fin 8) (descs : Bytes)
  /-- RING_ENABLE_WRITE (R272): the ring and the word written to its +0x08 (R272). -/
  | ringEnableWrite (port : Port) (tx : Bool) (queue : Fin 8) (value : Word)
  /-- RING_IRQ_MODERATION (R277): the ring (R277). -/
  | ringIrqModeration (port : Port) (tx : Bool) (queue : Fin 8)
  /-- MDIO_FRAME_START (R276): the word written to CONS_MDIO (R276). -/
  | mdioFrameStart (port : Port) (value : Word)
  /-- MDIO_FRAME_END (R276): whether the PHY drove the turnaround bit low, and the bits read (R276). -/
  | mdioFrameEnd (port : Port) (driven : Bool) (data : BitVec 16)
  /-- KEY_CODE_DEBOUNCED (R279): A key code stable for 20 ms is accepted, invalid codes acting as STOP. -/
  | keyCodeDebounced (keyA : Bool) (keyB : Bool)
  /-- TASK_INSTANCE_COMPLETE (R283): A task instance finishes evaluating its blocks. -/
  | taskInstanceComplete (task : Fin 4)
  /-- TELEGRAM_ASSEMBLY (R300): At t_L − 2 µs the OUT or CFG telegram of a station is assembled from the committed view. -/
  | telegramAssembly (station : Fin 256)
  /-- IO_IN_TELEGRAM_RECEIVED (R302): An IN telegram is checked and writes inputs and station status, or is counted stray, bad or late. -/
  | ioInTelegramReceived (port : Port) (frame : Bytes)
  /-- STATION_ACCWIN_EXPIRY (R304): A station without a valid IN for ACCWIN cycles becomes LOST and records 0x0909. -/
  | stationAccwinExpiry (station : Fin 256)
  /-- CYCL_EN_WRITE (R281): A write of CYCL_CTRL.EN is stored, or a write of 0 is ignored with WIGN unless the engine is stopped. -/
  | cyclEnWrite (value : Word)
  /-- STATION_CFGALL_WRITE (R301): A write of 1 to CFGALL makes every enabled station UNCONFIGURED. -/
  | stationCfgallWrite (value : Word)
  /-- STATION_TABLE_LOAD (R306): A CYCL_SSEL load selects a station entry half or status record for reading. -/
  | stationTableLoad (value : Word)
  /-- STATION_TABLE_STORE (R306): A store of half 1 is held; a store of half 0 takes the whole entry or is refused under R297. -/
  | stationTableStore (value : Word)
  /-- PROCESS_IMAGE_HOST_WRITE (R295): A host write to the process image is ignored with WIGN or applied atomically per word to retained or non-retained memory. -/
  | processImageHostWrite (offset : Fin 262144) (data : Bytes)
  /-- LOAD_WINDOW_WRITE (R316): A write to the load window is stored into the inactive bank, or ignored with WIGN. -/
  | loadWindowWrite (offset : Fin 524288) (data : Bytes)
  /-- VALIDATE (R317): PRG_CMD VALIDATE starts checking the image in the inactive bank. -/
  | validate (value : Word)
  /-- STORE (R318): PRG_CMD STORE starts copying the validated inactive bank to MRAM, or is refused. -/
  | store (value : Word)
  /-- STORE_COMPLETE (R318): The MRAM store ends with ISTORED and 0x0912, or with MRAMERR and 0x091C. -/
  | storeComplete (ok : Bool)
  /-- SWAP (R320): PRG_CMD SWAP swaps cold at once, requests an online swap, or is refused. -/
  | swap (value : Word)
  /-- SETSTART (R319): PRG_CMD SETSTART names the start bank holding a validated stored image. -/
  | setstart (value : Word)
  /-- RELOAD (R316): PRG_CMD RELOAD copies the inactive bank's MRAM bank into it and clears IVALID. -/
  | reload (value : Word)
  /-- CANCEL (R322): PRG_CMD CANCEL cancels a pending swap with result CANCELLED. -/
  | cancel (value : Word)
  /-- FORCE_ENTRY_STORE (R325): An FRC_SEL store sets, changes or clears a force entry, or is refused with FRES. -/
  | forceEntryStore (value : Word)
  /-- FORCE_CLEAR_ALL (R330): An FRC_SEL store with CLRALL clears every force entry and records 0x0919. -/
  | forceClearAll (value : Word)
  /-- FORCE_ENTRY_LOAD (R330): An FRC_SEL load selects a force entry for reading. -/
  | forceEntryLoad (value : Word)
  /-- TWIN_HB_RECEIVED (R336): A valid twin-link heartbeat updates the partner's state, claim and release handshake. -/
  | twinHbReceived (frame : Bytes)
  /-- CONSIST_HB_RECEIVED (R336): A valid consist heartbeat from the partner updates its state and claim. -/
  | consistHbReceived (port : Port) (frame : Bytes)
  /-- TWIN_TAKE_WRITE (R343): A write of 1 to TAKE takes a claim where admitted, or is ignored with WIGN. -/
  | twinTakeWrite (value : Word)
  /-- TWIN_YIELD_WRITE (R346): A write of 1 to YIELD starts a release with RELCYC = current cycle + 4. -/
  | twinYieldWrite (value : Word)
  /-- TWIN_ENTRY_RECEIVED (R333): Twin Y takes the entry item from X's ENTRY frame and records 0x0A0C if its own differs. -/
  | twinEntryReceived (frame : Bytes)
  /-- TWIN_RELAY_RECEIVED (R349): A RELAY frame gives the other half a frame to send as a relay copy in the next cycle's window. -/
  | twinRelayReceived (frame : Bytes)
  /-- MIR_FRAME_RECEIVED (R352): The standby collects the blocks of a MIR frame for its mirror set. -/
  | mirFrameReceived (frame : Bytes)
  /-- MIRROR_SEAL_RECEIVED (R353): On SEAL the standby applies the set atomically, or discards it and requests a full resend. -/
  | mirrorSealReceived (frame : Bytes)
  /-- TWIN_WAKE_DETECTED (R335): The WAKE pattern on the twin link wakes a sleeping half, or is discarded by an ACTIVE half. -/
  | twinWakeDetected (ns : Nat)
  /-- REST_DUSK_WRITE (R363): A write of 1 to REST_CTRL.DUSK at the leader starts a Dusk round or is refused with RES. -/
  | restDuskWrite (value : Word)
  /-- DUSK_CALL_RECEIVED (R363): A CALL is relayed toward q = 1, where it originates the TOKEN. -/
  | duskCallReceived (lane : Lane) (frame : Bytes)
  /-- DUSK_TOKEN_RECEIVED (R364): A node checks its veto conditions and consents and relays, vetoes, or at q = N issues the VERDICT. -/
  | duskTokenReceived (lane : Lane) (frame : Bytes)
  /-- DUSK_VERDICT_RECEIVED (R366): A VERDICT is relayed; with commit the node arms Tc and enters COMMITTING, with abort it cancels. -/
  | duskVerdictReceived (lane : Lane) (frame : Bytes)
  /-- DUSK_RETRACT_RECEIVED (R368): A RETRACT cancels the round before dimming, or sets HELD after it. -/
  | duskRetractReceived (lane : Lane) (frame : Bytes)
  /-- WAKE_GUARD_SEND (R372): Within 2 ms after Tc a lane leaving ACTIVE gets WAKE for 200 µs starting 50 µs after the loss. -/
  | wakeGuardSend (lane : Lane)
  /-- DAWN_FRAME_RECEIVED (R377): A DAWN frame in TWILIGHT is relayed and wakes the node. -/
  | dawnFrameReceived (lane : Lane) (frame : Bytes)
  /-- WAKE_INPUT_ACTIVE (R376): The WAKE input active for 1 ms wakes the node or raises a Dusk veto or retract reason. -/
  | wakeInputActive (level : Bool)
  /-- REST_SAVE_WRITE (R380): A write of 1 to SAVE starts writing the settings over the older configuration copy. -/
  | restSaveWrite (value : Word)
  /-- SUPPRESSION_TIMEOUT (R393): 10 s after a class's first suppression without an admitted record a SUPPRESSED record is staged. -/
  | suppressionTimeout (cls : Fin 256)
  /-- RECORD_LINE_WRITTEN (R385): A record line write and verification completes; the next line or the DONE rewrite follows. -/
  | recordLineWritten (ok : Bool)
  /-- OPERATING_TIME_CALIBRATE (R390): Every second the always-on oscillator is measured against REFCLK and the counter rate corrected. -/
  | operatingTimeCalibrate (ppm : Int)
  /-- HOST_RECORD_WRITE (R401): The posted GO write stages a host record, or refuses it with HWRES. -/
  | hostRecordWrite (value : Word)
  /-- RECD_FREEZE_PAIR (R402): A completed RECD_FREEZE pair starts, restarts or ends a freeze of the ring. -/
  | recdFreezePair (value : Word)
  /-- RECORD_CURSOR_SELECT (R403): A RECD_RSEL write places the read cursor on the first line of the selected record. -/
  | recordCursorSelect (value : Word) (ecc : Fin 3)
  /-- RECORD_CURSOR_ADVANCE (R403): A read of RECD_RD3 advances the cursor by one line. -/
  | recordCursorAdvance (ecc : Fin 3)
  /-- RATE_CLASS_STORE (R392): A RECD_CSEL store sets a class's RATE and DEPTH at once. -/
  | rateClassStore (value : Word)
  /-- RATE_CLASS_LOAD (R392): A RECD_CSEL load shows a class's settings and tokens. -/
  | rateClassLoad (value : Word)
  /-- MIRROR_COPY (R404): The recorder appends written records to the QSPI mirror ring, erasing sectors as needed. -/
  | mirrorCopy (ok : Bool)
  /-- MIRROR_RETRY (R404): A second after a mirror fault the recorder retries and records 0x0B21 when it runs again. -/
  | mirrorRetry (ok : Bool)
  /-- HOST_READ (R419): A host read request to a window is served or answered with UR, CA, all ones or poison. -/
  | hostRead (tag : Nat) (bar : Fin 2) (addr : Fin 16777216) (dws : Nat) (fbe : Fin 16) (lbe : Fin 16) (ecc : Bool)
  /-- HOST_POSTED_WRITE (R420): A host posted write is applied locally or forwarded, or dropped and counted as refused. -/
  | hostPostedWrite (bar : Fin 2) (addr : Fin 16777216) (data : Bytes) (fbe : Fin 16) (lbe : Fin 16)
  /-- FAR_TIMEOUT (R419): The far side is silent for FTO; the read is answered CA or all ones, or the write logged TIMEOUT. -/
  | farTimeout (id : Nat)
  /-- FSEQ_FENCE_READ (R421): A read of BRDG_FSEQ opens a fence that waits for every earlier posted write to be confirmed or logged. -/
  | fseqFenceRead (tag : Nat)
  /-- BRDG_FSEL_WRITE (R7): A write of BRDG_FSEL selects a far-error log entry for reading. -/
  | brdgFselWrite (value : Word)
  /-- PCIE_RESET (R409): PERST#, hot, link-down or function-level reset resets the bridge block and disables every ring. -/
  | pcieReset (kind : Fin 4)
  /-- PCIE_LINK_CHANGE (R408): The PCIe link comes up or goes down and the event is recorded. -/
  | pcieLinkChange (up : Bool) (speed : Fin 2) (width : Fin 3)
  /-- FAR_LOCK_REQUEST (R422): A GO write to BRDG_LOCK requests a far-bus lock, or is ignored with WIGN. -/
  | farLockRequest (value : Word)
  /-- FAR_LOCK_GRANT (R422): The target grants the lock and STATE becomes HELD. -/
  | farLockGrant (ok : Bool)
  /-- SEMAPHORE_READ (R423): A read of a bridge semaphore acquires it if free or returns its owner. -/
  | semaphoreRead (who : Fin 5) (sem : Fin 32)
  /-- SEMAPHORE_RELEASE_WRITE (R423): A write of 0 by the owner frees the semaphore; others are ignored with WIGN. -/
  | semaphoreReleaseWrite (who : Fin 5) (sem : Fin 32) (value : Word)
  /-- STACK_WRITE_RECEIVED (R427): A stack WR packet is applied, or forwarded toward its destination. -/
  | stackWriteReceived (port : Fin 2) (packet : Bytes) (ecc : Bool)
  /-- STACK_READ_RECEIVED (R427): A stack RD packet is served with a CPL, or forwarded. -/
  | stackReadReceived (port : Fin 2) (packet : Bytes) (ecc : Bool)
  /-- STACK_COMPLETION_RECEIVED (R427): A stack CPL completes the matching open read. -/
  | stackCompletionReceived (port : Fin 2) (packet : Bytes)
  /-- STACK_FRAME_RECEIVED (R427): A stack FRAME packet enters the fabric with its tag. -/
  | stackFrameReceived (port : Fin 2) (packet : Bytes)
  /-- STACK_MSG_RECEIVED (R428): A stack MSG carries an interrupt, record, cycle boundary or write count confirmation. -/
  | stackMsgReceived (port : Fin 2) (packet : Bytes)
  /-- STACK_LOCK_RECEIVED (R422): A stack LOCK, UNLOCK or SEM packet is arbitrated at the target. -/
  | stackLockReceived (port : Fin 2) (packet : Bytes)
  /-- STACK_PORT_DOWN (R429): A stack port leaving ACTIVE fails its posted writes, ends its reads and drops its frames. -/
  | stackPortDown (port : Fin 2) (trained : Bool) (peer : Fin 4)
  /-- STACK_RESET_WRITE (R429): A write of 1 to BRDG_STACK.RSTm sends a stack reset to member m. -/
  | stackResetWrite (value : Word)
  /-- NOP (R438): The NOP command completes with OK. -/
  | nop (slot : Fin 64)
  /-- IDENT (R438): The IDENT command returns the node's identity. -/
  | ident (slot : Fin 64)
  /-- REGRD (R441): The REGRD command reads 1 to 64 register words. -/
  | regrd (slot : Fin 64)
  /-- REGWR (R440): The REGWR command writes a masked value atomically and returns the old value. -/
  | regwr (slot : Fin 64)
  /-- MBRD (R442): The MBRD command reads a mailbox consistently, retrying up to 8 times. -/
  | mbrd (slot : LineRead)
  /-- PRGLOAD (R438): The PRGLOAD command writes data to the load window. -/
  | prgload (slot : Fin 64)
  /-- PRGOP (R438): The PRGOP command acts as a PRG_CMD operation and completes when it ends. -/
  | prgop (slot : Fin 64)
  /-- FORCE (R438): The FORCE command acts as a store through FRC_SEL. -/
  | force (slot : Fin 64)
  /-- RECWR (R438): The RECWR command writes a host record as R401. -/
  | recwr (slot : Fin 64)
  /-- RECRD (R438): The RECRD command reads record lines through the cursor. -/
  | recrd (slot : LineRead)
  /-- FREEZE (R438): The FREEZE command writes RECD_FREEZE as a complete pair. -/
  | freeze (slot : Fin 64)
  /-- DUSKREQ (R438): The DUSKREQ command acts as REST_CTRL.DUSK and completes at a commit VERDICT or round end. -/
  | duskreq (slot : Fin 64)
  /-- SAVE (R438): The SAVE command acts as REST_CTRL.SAVE and completes when BUSY clears. -/
  | save (slot : Fin 64)
  /-- REINAU (R438): The REINAU command acts as a write of 1 to INAU_CTRL.REINAU. -/
  | reinau (slot : Fin 64)
  /-- MODEREQ (R438): The MODEREQ command acts as SCHD_MODEREQ and completes at DONE or FAILED. -/
  | modereq (slot : Fin 64)
  /-- KEYSET (R453): The KEYSET command installs a train key from the host in PROG with a valid arm. -/
  | keyset (slot : Fin 64)
  /-- KEYDEL (R454): The KEYDEL command erases a train key under the same conditions. -/
  | keydel (slot : Fin 64)
  /-- RSEND (R443): The RSEND command sends an inner packet in a CMD frame to a position. -/
  | rsend (slot : Fin 64)
  /-- CMD_WAIT_TIMEOUT (R439): A waiting opcode whose event has not occurred after 10 s completes with TIMEOUT. -/
  | cmdWaitTimeout (slot : Fin 64)
  /-- RSEND_TIMEOUT (R443): No matching CPL within RTO completes the RSEND with TIMEOUT. -/
  | rsendTimeout (slot : Fin 64)
  /-- CMD_FRAME_RECEIVED (R448): the CMD frame (R448). -/
  | cmdFrameReceived (lane : Lane) (frame : Bytes)
  /-- CPL_FRAME_RECEIVED (R450): the CPL frame (R450). -/
  | cplFrameReceived (lane : Lane) (frame : Bytes)
  /-- CMD_ENABLE_WRITE (R435): A change of CMD_CTRL.EN resets the ring indices and PHASE, or stops fetching. -/
  | cmdEnableWrite (value : Word)
  /-- KEY_ARM (R453): A completed CMD_KEYARM pair with code 0xA5 arms a key slot. -/
  | keyArm (value : Word)
  /-- BLOCK_RESET (R490): A completed GLB_BRST pair resets the selected blocks to defaults and stored settings. -/
  | blockReset (value : Word)
  /-- SNAPSHOT_NOW (R465): A write of 1 to HKP_CTRL.NOW triggers a snapshot. -/
  | snapshotNow (value : Word)
  /-- SNAPIN_EDGE (R465): A selected edge of SNAPIN triggers a snapshot. -/
  | snapinEdge (rising : Bool)
  /-- MIDNIGHT_REQUEST (R466): A GO write requests a Midnight, arming it and sending MIDN, or is refused. -/
  | midnightRequest (value : Word)
  /-- MIDN_FRAME_RECEIVED (R467): A MIDN frame is relayed once and its Midnight armed, refused or missed. -/
  | midnFrameReceived (lane : Lane) (frame : Bytes)
  /-- TELEMETRY_SWEEP (R469): Each millisecond or second the node measures temperature, supplies and s and raises alarms. -/
  | telemetrySweep (tj : Int) (vin : Nat) (vio1 : Nat) (vio2 : Nat) (vcore : Nat) (sp : Nat)
  /-- TELEMETRY_ALARM_END (R469): A quantity inside its limit for 100 ms ends its alarm and records 0x0E19. -/
  | telemetryAlarmEnd (quantity : Fin 6)
  /-- SCRUB_STEP (R470): The scrubber reads an SRAM word and corrects, repairs or reports an error. -/
  | scrubStep (region : Fin 8) (addr : BitVec 23) (err : Fin 3)
  /-- LANE_CALIBRATION_START (R471): A lane calibration starts on a 10 °C temperature move or first use. -/
  | laneCalibrationStart (lane : Lane)
  /-- HKP_LCAL_WRITE (R471): A write of 1 to HKP_CTRL.LCAL requests calibration of every lane. -/
  | hkpLcalWrite (value : Word)
  /-- LANE_CALIBRATION_COMPLETE (R472): A calibration result is applied in small steps, or discarded with 0x0E1C. -/
  | laneCalibrationComplete (lane : Lane) (result : Int)
  /-- HKP_MPAT_WRITE (R473): A write of 1 to HKP_CTRL.MPAT requests an MRAM patrol. -/
  | hkpMpatWrite (value : Word)
  /-- MRAM_PATROL_SECTOR (R473): The patrol reads a sector, rewrites corrected lines and reports uncorrectable ones. -/
  | mramPatrolSector (region : Fin 12) (line : Nat) (corrected : Nat) (uncorrectable : Bool) (last : Bool)
  /-- RESET_RELEASE (R484): At PLL lock and nRESET release the straps latch, the core starts and the recorder scan and loads begin. -/
  | resetRelease (stack : Fin 4) (half : Fin 2) (boot : Fin 4) (flash : Flash)
  /-- PIN_RESET (R488): nRESET low for 10 µs in ACTIVE starts a warm reset. -/
  | pinReset (low : Bool)
  /-- TWILIGHT_THERMAL_HOLD (R491): In TWILIGHT TJ at 140 °C stops the line-A transmitters until 120 °C. -/
  | twilightThermalHold (tj : Int)
  /-- VIO_BANK_LOSS (R480): A VIO bank below 1.5 V forces its inputs inactive and records 0x0010. -/
  | vioBankLoss (bank : Fin 2)
  /-- VIO_BANK_RESTORE (R480): A VIO bank above 1.6 V for 10 ms records 0x0011. -/
  | vioBankRestore (bank : Fin 2)
  /-- PACE_LEVEL_WRITE (R482): A write of GLB_PACE.LEVEL starts a voltage change, waits for an MRAM job, or is refused. -/
  | paceLevelWrite (value : Word)
  /-- RETAINED_IMAGE_SAVE (R493): A write of 1 to GLB_RST.RSAVE writes the older retained-image copy. -/
  | retainedImageSave (value : Word)
  /-- HKP_SSEL_WRITE (R7): A write of HKP_SSEL selects a copied snapshot word for reading. -/
  | hkpSselWrite (value : Word)
  /-- GIANT_BYTE_RECEIVED (R57): frame bytes since the last event of the frame, up to and including byte 2,077 (R57). -/
  | giantByteReceived (lane : Lane) (bytes : Bytes)
  /-- CONSIST_GIANT_BYTE (R253): frame bytes since the last event of the frame, up to byte MAXLEN + 1 (R253). -/
  | consistGiantByte (port : Port) (bytes : Bytes)
  /-- HOST_FETCH_COMPLETE (R266): the read, and its data (R266). -/
  | hostFetchComplete (tag : Nat) (data : Bytes)
  /-- PCIE_CONFIG_REQUEST (R409): A configuration request reaches the PCIe function, answered with CRS before 20 ms, and may change the D-state (D0/D3hot) or MSI-X enable. -/
  | pcieConfigRequest (tag : Nat) (write : Bool) (item : Fin 32) (value : Word)
  /-- CYCLE_BOUNDARY (R23): the boundary the node counts to (R23). -/
  | cycleBoundary
  /-- POOL_CONSERVATION_CHECK (R243): every 1,024 cycles (R243). -/
  | poolConservationCheck
  /-- FWD_POOLA_READ (R243): a read of FWD_POOLA (R243). -/
  | fwdPoolaRead
  /-- T_STARTUP_EXPIRY (R105): the timer (R105). -/
  | tStartupExpiry
  /-- T_SETTLE_EXPIRY (R105): the timer (R105). -/
  | tSettleExpiry
  /-- ROSTER_COMPUTE_COMPLETE (R88): the compute phase ends (R88). -/
  | rosterComputeComplete
  /-- T_WAVE_EXPIRY (R97): the timer (R97). -/
  | tWaveExpiry
  /-- T_AGREE_EXPIRY (R97): the timer (R97). -/
  | tAgreeExpiry
  /-- REPHASE_BOUNDARY (R122): the instant t_b (R122). -/
  | rephaseBoundary
  /-- MODEANN (R166): the oldest notice that waits, if it is one (R166). -/
  | modeann
  /-- PENDING_MODE_LAPSE (R166): 8 basic cycles after the last announcement accepted (R166). -/
  | pendingModeLapse
  /-- CATCH_UP_COMPLETE (R198): κ reaches 0 (R198). -/
  | catchUpComplete
  /-- TIMENOT (R200): the oldest notice that waits, if it is one (R200). -/
  | timenot
  /-- PPS_EDGE (R203): the rising edge on the PPS input (R203). -/
  | ppsEdge
  /-- REFERENCE_LOST (R205): 1.5 s without an edge, or a PTP timeout (R205). -/
  | referenceLost
  /-- STEERING_INTERVAL_END (R206): the last boundary of the interval (R206). -/
  | steeringIntervalEnd
  /-- CAPTURE_FIFO_POP (R217): a read of TIME_MBD3 (R217). -/
  | captureFifoPop
  /-- TASK_COMMIT (R287): At b + COMMITOFF each completed task whose period ends commits its output range; others overrun. -/
  | taskCommit
  /-- VALIDATE_COMPLETE (R317): Validation ends, setting IVALID or writing PRG_VSTAT, with 0x0910 or 0x0911. -/
  | validateComplete
  /-- TWIN_HB_TICK (R336): After each 100 µs tick a heartbeat is sent as an HB frame on the twin link. -/
  | twinHbTick
  /-- CONSIST_HB_SEND (R336): At b + 10 µs or every 1 ms a heartbeat is sent on HBPORT. -/
  | consistHbSend
  /-- TWIN_PATH_SILENT (R337): No HB frame for HBMISS × 100 µs makes the twin path silent, possibly the partner absent. -/
  | twinPathSilent
  /-- CONSIST_PATH_SILENT (R337): No consist heartbeat for (CBMISS − 1) × T + 500 µs makes that path silent. -/
  | consistPathSilent
  /-- SEEK_TIMEOUT (R340): 2 ms without the partner after power-on or Dawn move a SEEK half to ALONE. -/
  | seekTimeout
  /-- ROLENOT (R357): the oldest notice that waits, if it is one (R356). -/
  | rolenot
  /-- VERDICT (R358): the oldest notice that waits, if it is one (R357). -/
  | verdict
  /-- DUSK_WAKE_REASON (R367): A wake reason arising in CONSENTED or COMMITTING retracts before the deadline or is held after it. -/
  | duskWakeReason
  /-- DUSK_ROUND_TIMEOUT (R368): The leader without a VERDICT within TDUSK cycles sends an abort VERDICT with reason TIMEOUT. -/
  | duskRoundTimeout
  /-- DUSK_CONSENT_TIMEOUT (R368): TDUSK + 2 cycles after consent without a VERDICT the node cancels the round. -/
  | duskConsentTimeout
  /-- DUSK_DIMMING (R369): At Tc − 100 µs no new frame starts on any lane, port or ring. -/
  | duskDimming
  /-- DUSK_COMMIT (R369): At Tc lanes go to SLEEP or Twilight mode and the node records 0x0407. -/
  | duskCommit
  /-- DUSK_SLEEP_ENTRY (R369): Once staging is written, or at Tc + 50 ms, the node enters DUSK-SLEEP. -/
  | duskSleepEntry
  /-- HELD_DAWN_START (R370): At Tc + 50 µs a node with HELD set starts Dawn with source HELD. -/
  | heldDawnStart
  /-- ALARM_WAKE (R376): Operating-time seconds reach REST_ALARM and wake the node. -/
  | alarmWake
  /-- DAWN_WAKE_PATTERN_END (R377): After 200 µs of WAKE the node retrains every lane. -/
  | dawnWakePatternEnd
  /-- CONFIG_SAVE_COMPLETE (R380): The configuration write ends, clearing CFGDIRTY and recording 0x040A. -/
  | configSaveComplete
  /-- RECORD_STAGE (R394): An event record takes a token and enters staging whole, or is suppressed or lost. -/
  | recordStage
  /-- LOSS_RECORD_STAGE (R395): When staging falls below half full after losses, one LOSS record is staged. -/
  | lossRecordStage
  /-- RECORD_WRITE_START (R385): The recorder takes the next staged record, gives it a SEQ and writes its OPEN header line. -/
  | recordWriteStart
  /-- RECORDER_SCAN_COMPLETE (R399): The start-up scan ends; OPEN records are voided and SESSION and TORN records written. -/
  | recorderScanComplete
  /-- CHECKPOINT_WRITE (R391): Every 16 s and at each Dusk commit the older checkpoint copy is written. -/
  | checkpointWrite
  /-- FREEZE_EXPIRY (R402): The freeze's N seconds pass and the freeze ends with cause 1. -/
  | freezeExpiry
  /-- FENCE_COMPLETE (R421): Every earlier write is accounted for and the fence read returns FSEQ. -/
  | fenceComplete
  /-- PREFETCH_FLUSH (R416): A write of 1 to FLUSHPF discards every prefetch copy. -/
  | prefetchFlush
  /-- PREFETCH_EXPIRY (R416): A prefetch copy held for 1 µs is discarded. -/
  | prefetchExpiry
  /-- FAR_LOCK_RELEASE (R422): A write of REL ends the lock with LOCKRES OK. -/
  | farLockRelease
  /-- FAR_LOCK_TIMEOUT (R422): A lock held for LOCKTO µs ends with TIMEOUT and records 0x0C07. -/
  | farLockTimeout
  /-- STACK_UPLINK_TIMEOUT (R429): A member's up port out of ACTIVE for 100 ms causes a stack reset of the member. -/
  | stackUplinkTimeout
  /-- CMD_SUBMISSION_FETCH (R435): With a free slot and completion room the node fetches a submission entry and its packet. -/
  | cmdSubmissionFetch
  /-- COMMAND_RESET (R460): A write of 1 to CMD_CTRL.RST aborts every open packet and reopens the interface. -/
  | commandReset
  /-- KEY_ARM_EXPIRY (R453): An arm unused for 1 s of operating time expires. -/
  | keyArmExpiry
  /-- MIDNIGHT_FIRE (R468): A pending Midnight's compare unit fires and a snapshot is taken. -/
  | midnightFire
  /-- SCRUB_REPAIR (R470): An uncorrectable execution-bank line is copied from MRAM and 0x0E11 recorded. -/
  | scrubRepair
  /-- MRAM_PATROL_PERIOD (R473): 24 h of operating time pass and an MRAM patrol is requested. -/
  | mramPatrolPeriod
  /-- ACTIVITY_START (R474): A waiting background activity starts when the interlock admits it. -/
  | activityStart
  /-- VIN_LOSS (R479): VIN below 1.60 V for 2 µs puts the node OFF. -/
  | vinLoss
  /-- POWER_ON_RESET (R488): VIN rising above 1.65 V asserts power-on reset of the whole chip. -/
  | powerOnReset
  /-- WATCHDOG_RESET (R488): The management core's watchdog expires after 100 ms in ACTIVE and starts a warm reset. -/
  | watchdogReset
  /-- THERMAL_RESET (R488): TJ at or above 140 °C for 1 ms in ACTIVE starts a warm reset held until 120 °C. -/
  | thermalReset
  /-- WARM_RESET_HOLDOFF_END (R489): Staging drained or 2 ms passed and the warm reset takes effect. -/
  | warmResetHoldoffEnd
  /-- TWILIGHT_WATCHDOG (R491): In TWILIGHT a watchdog expiry restarts the management core alone. -/
  | twilightWatchdog
  /-- REGULATOR_CURRENT_LIMIT (R481): The inductor peak reaches 5.0 A, setting ILIM and recording 0x0012. -/
  | regulatorCurrentLimit
  /-- PACE_CHANGE_COMPLETE (R482): VCORE reaches the new level; ACT updates, PBUSY clears and 0x0013 is recorded. -/
  | paceChangeComplete
  /-- RECD_OPSEC_READ (R390): A read of RECD_OPSEC latches the fraction into RECD_OPFRAC. -/
  | recdOpsecRead
  /-- DAYBREAK_BOUNDARY (R102): The instant t_b placed from a cold-start DAYBREAK (or t_c + OFFSET at a lone time reference) arrives; the node begins counting at cycle CYC and sets its train time there. -/
  | daybreakBoundary
  /-- NOAGREE_ROUND_SPACING (R97): After NOAGREE, the spacing of one basic cycle (or 1 ms) since the node's last round start elapses, and the delayed round start is made. -/
  | noagreeRoundSpacing
  /-- NWAKEOUT_RELEASE (R377): 10 ms after Dawn the node stops driving nWAKEOUT low. -/
  | nwakeoutRelease
  /-- THERMAL_RESET_RELEASE (R488): During a thermal reset the junction temperature falls to 120 °C or below, and the reset is released. -/
  | thermalResetRelease
  /-- TWILIGHT_THERMAL_HOLD_END (R491): In TWILIGHT the junction temperature falls to 120 °C or below, and the line-A transmitters start again. -/
  | twilightThermalHoldEnd
deriving DecidableEq, Repr

end Sys2Proof
end

