-- ==== Sys2Proof/Config.lean ====
section
/-! DEFINITION. What one LH9600 is born with and what the spec leaves open: opaque constants. Nothing in Lean can
evaluate them or prove a value of them. -/

namespace Sys2Proof.Config

/-- The 64-bit UID fused at manufacture (chapter 01, "UIDs and rank"). -/
opaque chipUid : BitVec 64

/-- GLB_REV.REV, "silicon revision" (chapter 16): fixed by the part. -/
opaque siliconRev : BitVec 16

/-- BRDG_ID.VID, "Vendor ID" (chapter 15): fixed by the vendor. -/
opaque vendorId : BitVec 16

/-- The MAC address with which consist port `n` sends: the spec gives none. -/
opaque macAddr : Nat → BitVec 48

/-- The IPv4 address with which consist port `n` sends 1588 messages: the spec gives none. -/
opaque ipAddr : Nat → BitVec 32

/-- Whether the 1588 messages of consist port `n` carry an IEEE 802.1Q tag ("as set for the port", Table 07.4): the spec gives no register that
sets it (log entry 21). -/
opaque ptpTagged : Nat → Bool

/-- Number of the pool buffer that holds piece `k` of frame `fid`: the spec gives no order in which free buffers are drawn (log entry 4). -/
opaque bufferOf : Nat → Nat → Nat

/-- The revision ID in the PCIe configuration header (Table 15.1): fixed by the part. -/
opaque pcieRev : BitVec 8

/-- The time that a packet takes over one stack hop, 1/16 ns: at most 400 ns (R428, log entry 26). -/
opaque stackHop : BitVec 16

/-- What a byte of the frame pool holds that nothing has written, by its offset in W3 (log entry 4). -/
opaque poolInit : Nat → BitVec 8

/-- A value the spec leaves open, fresh at each use: `State.free` counts the uses (log entry 4). -/
opaque freeValue : Nat → BitVec 64

end Sys2Proof.Config
end

