-- ==== Sys2Proof/Machine/State.lean ====
section
/-! DEFINITION. The state of the block as plain data: what the spec names, chapter by chapter, the queue of waiting commands,
and the state after reset. -/

namespace Sys2Proof.Machine

/-- States of a coupler lane (Table 02.4). -/
inductive LaneSt
  | disabled | down | detect | align | eq | confirm | active | resync | sleep
deriving DecidableEq, Repr

/-- Power states of the node (Table 01.4). -/
inductive Power | active | twilight | duskSleep | off
deriving DecidableEq, Repr

/-- Traffic classes (Table 01.3). -/
inductive Cls | tt | vital | mgmt | bulk
deriving DecidableEq, Repr

/-- What leaves the chip: characters and frames on lanes and ports, messages to the host, pin levels. The log of them is the
model's own field `State.outs`, newest last (log entry 5). -/
inductive Out
  /-- SF and its debit character on a lane. -/
  | sf (lane debit : Nat)
  /-- RES and its debit character. -/
  | res (lane debit : Nat)
  /-- Frame bytes on a lane. -/
  | data (lane : Nat) (bytes : Bytes)
  /-- EG, EB or PRE on a lane. -/
  | eg (lane : Nat)
  | eb (lane : Nat)
  | pre (lane : Nat)
  /-- CR with F. -/
  | cr (lane f : Nat)
  /-- CRS with code and value; REQ (code 1) goes out from here on at every opportunity of R38 until `crsEnd` (R49). -/
  | crs (lane code value : Nat)
  | crsEnd (lane : Nat)
  /-- From here on IDLE fills the lane wherever no other output stands: between frames, and inside a frame while its source has no byte
  ready (R37, R38). -/
  | idle (lane : Nat)
  /-- A lane starts to send training sets TS1 (`ts2 = false`) or TS2, with EQDONE and RX_EMPTY. -/
  | ts (lane : Nat) (ts2 eqdone rxEmpty : Bool)
  /-- A lane transmitter goes quiet. -/
  | quiet (lane : Nat)
  /-- A lane starts to send WAKE. -/
  | wake (lane : Nat)
  /-- A whole Ethernet frame on a consist port, or one cut short by an error. -/
  | eth (port : Nat) (bytes : Bytes) (good : Bool)
  /-- An MDIO frame on a port. -/
  | mdio (port : Nat) (read : Bool) (phy reg data : Nat)
  /-- A verify (0) or respond (1) packet of IEEE 802.3br leaves a consist port (R264). -/
  | mpacket (port : Nat) (kind : Nat)
  /-- A frame on the twin link. -/
  | twin (bytes : Bytes)
  /-- WAKE on the twin link. -/
  | twinWake
  /-- An MSI-X message of a vector. -/
  | msix (vec : Nat) (addr data : Nat)
  /-- INTA asserted or not. -/
  | inta (level : Bool)
  /-- A memory write to the host. -/
  | hostWrite (addr : Nat) (bytes : Bytes)
  /-- A memory read request to the host under a tag. -/
  | hostRead (tag addr len : Nat)
  /-- A PCIe completion: its tag, its status (0 SC, 1 UR, 2 CRS, 4 CA), poisoned or not, the data. -/
  | cpl (tag status : Nat) (poison : Bool) (data : Bytes)
  /-- An error reported through AER (R419): 1 UR, 2 CA, 3 poisoned. -/
  | aer (code : Nat)
  /-- A packet on a stack port (0 up, 1 down). -/
  | stack (port : Nat) (bytes : Bytes)
  /-- A level on an output pin, by its name in chapter 18. -/
  | pin (name : String) (level : Nat)
  /-- The outputs of a VIO bank (0 VIO1, 1 VIO2) become high-impedance, or are driven again (R478). -/
  | bankZ (bank : Nat) (z : Bool)
  /-- A value returned by a read that the block itself answers. -/
  | rdata (addr : Nat) (value : Nat)
deriving DecidableEq, Repr

/-- An event record on its way to staging: code, context of Table 14.5 taken at the event, parameters (R388). -/
structure EventRec where
  code : Nat
  cyc : Nat
  tsec : Nat
  tns : Nat
  gen : Nat
  pos : Nat
  tsv : Bool
  stack : Nat
  ot : Nat
  params : Bytes
deriving DecidableEq, Repr

/-- How far the reception of a frame has come (R57). -/
inductive RxStage
  /-- Fewer than 32 bytes judged yet. -/
  | open_
  /-- Decided: kept in the pool as frame `fid`. -/
  | kept (fid : Nat)
  /-- Dropped: later bytes are discarded. -/
  | dropped
  /-- Dropped by policing at the decision; followed to its end for its deviation (R180). -/
  | policed
  /-- Consumed by inauguration or clock agreement (Table 08.3, step 2). -/
  | consumed
deriving DecidableEq, Repr

/-- A frame being received on a lane. -/
structure RxFrame where
  bytes : Bytes := []
  /-- Ingress stamp of its first SF, 1/16 ns of the time base (R62). -/
  stamp : Nat := 0
  stage : RxStage := .open_
  /-- A code error fell inside it (Table 02.8). -/
  codeErr : Bool := false
  /-- Byte 2,077 has arrived. -/
  giant : Bool := false
  /-- The frame is a member's timing frame on this line: the member's UID and its deviation, 1/16 ns (R180). -/
  dev : Option (Nat × Int) := none
  /-- The frame came in window under the roster its generation names: it may be delivered (R161, R239). -/
  inWin : Bool := false
  /-- Fixed at the decision (R223): UID of the source of a TT or VITAL frame, the subscription entries it goes to, whether a MGMT or BULK
  frame is for this node. -/
  uid : Nat := 0
  subs : List Nat := []
  own : Bool := false
deriving DecidableEq, Repr

/-- A frame on its way out of a lane transmitter. -/
structure TxFrame where
  fid : Nat
  /-- Egress stamp of its first SF. -/
  stamp : Nat
  /-- Instant of the first byte of the fragment in progress. -/
  from_ : Nat
  /-- Frame bytes sent before that fragment. -/
  off : Nat
  /-- Frame bytes sent so far. -/
  sent : Nat
  /-- Frame bytes after which fragments end because the ingress was preempted there while the copy was being cut through, in order (R233). -/
  stops : List Nat := []
  /-- A crossing copy (R153). -/
  crossing : Bool := false
deriving DecidableEq, Repr

/-- A copy waiting in a lane queue (R235); `exempt` are the frames of R67, R173 and R362 (R236). -/
structure QItem where
  fid : Nat
  exempt : Bool := false
  /-- A crossing VITAL copy: it waits for free time (R153). -/
  crossing : Bool := false
deriving DecidableEq, Repr

/-- What one coupler lane holds besides its registers (chapters 02, 03, 06). -/
structure LaneS where
  /-- Consecutive training sets received without code error (ALIGN). -/
  tsRun : Nat := 0
  /-- A TS1 with EQDONE was received (EQ). -/
  peerEq : Bool := false
  /-- Consecutive TS2 with RX_EMPTY received, and TS2 sent with own RX_EMPTY (CONFIRM). -/
  ts2Run : Nat := 0
  ts2Sent : Nat := 0
  /-- End of the interval of R44 in which received TS2 are discarded; none once it has ended. -/
  trailing : Option Nat := none
  /-- Instant of the last entry to the present state. -/
  since : Nat := 0
  /-- Instant of the last exit from ACTIVE; end of the WAKE that the wake guard sends (R372). -/
  lostAt : Option Nat := none
  guardEnd : Option Nat := none
  /-- Frame being received, and the preempted frame held open (R60). -/
  rx : Option RxFrame := none
  rxHeld : Option RxFrame := none
  /-- Bytes are discarded until the next SF (R61); bytes of the fragment in progress discarded so, which still allocate blocks (R47). -/
  rxSkip : Bool := false
  skipLen : Nat := 0
  /-- Code and disparity errors counted in the last 100 µs, newest first: instant and number (R41). -/
  errs : List (Nat × Nat) := []
  /-- Bytes of a frame that the receiver has discarded are skipped until its delimiter (R49, R58). -/
  rxRest : Bool := false
  /-- F of the last CR sent (R39). -/
  crF : Nat := 0
  /-- CR and CRS that wait for their place in the fragment in progress, oldest first (R38). -/
  sets : List Out := []
  /-- Frame being sent, and the one ended by PRE. -/
  tx : Option TxFrame := none
  txHeld : Option TxFrame := none
  /-- Instant at which the delimiter of the last fragment has left. -/
  freeAt : Nat := 0
  /-- Express, MGMT and BULK queues (R220), head first. -/
  qx : List QItem := []
  qm : List QItem := []
  qb : List QItem := []
  /-- MGMT frames sent since the last BULK frame (R235). -/
  run : Nat := 0
  /-- The receiver has found a credit fault; CRS REQ is being sent (R49). -/
  rsReq : Bool := false
  /-- Value of CRS ACK, while the receive buffer drains. -/
  rsAck : Option Nat := none
  /-- The transmitter has answered CRS REQ and sends no SF or RES. -/
  rsTx : Bool := false
  /-- Deadline of R50 for the resync that this receiver asked for, and for the one that the far receiver asked for. -/
  rsAt : Option Nat := none
  rsTxAt : Option Nat := none
  /-- End of the probe answer time of R71, until it has been judged. -/
  answerAt : Option Nat := none
  /-- Next probe and next PDREQ. -/
  probeAt : Option Nat := none
  pdAt : Option Nat := none
  /-- Payload of the last PROBE received (SRC 0x4 of the roster mailbox). -/
  probe : Bytes := []
  /-- CHIP_UID and ENTRY_UID held for the lane; its last PROBE had ECHO_UID equal to the own UID; its line bit was right. -/
  chipUid : Nat := 0
  entryUid : Nat := 0
  echoOk : Bool := false
  lineOk : Bool := true
  /-- Identity, generation and position of the last PROBE. -/
  nTiUid : Nat := 0
  nTiLin : Nat := 0
  nGen : Nat := 0
  nPos : Nat := 0
  nFlags : Nat := 0
  /-- Held out of service under R10 (1), R14 (2) or R72 (3); 0: not held (R503). -/
  heldOut : Nat := 0
  /-- The lane is working (R70). -/
  working : Bool := false
  /-- Consecutive PROBEs that differ from the roster in force (R131). -/
  splitRun : Nat := 0
  /-- PSEQ of the last PDREQ and its egress stamp t1 (R175, R176). -/
  pseq : Nat := 0
  t1 : Option Nat := none
  /-- Valid samples collected toward an estimate, newest first. -/
  samples : List Int := []
  /-- Consecutive rejected samples; a new estimate is being formed (R176). -/
  rejRun : Nat := 0
  reform : Bool := false
  /-- Consecutive PDRSPs in mismatch, and the mismatch itself (R177). -/
  misRun : Nat := 0
  mismatch : Bool := false
  /-- Asymmetry in use, signed 1/16 ns: SYNC_PDASYM as it stood at the last boundary (chapter 06). -/
  asym : Int := 0
  /-- SF egress corrections pending for calibration: the correction applied to stamps, 1/16 ns (R472). -/
  cal : Int := 0
deriving DecidableEq, Repr

/-- A roster entry (Table 03.6). -/
structure Entry where
  uid : Nat
  pos : Nat
  veh : Nat
  flags : BitVec 16
  budget : Nat
deriving DecidableEq, Repr

/-- An identity record (Table 03.5). -/
structure IdRec where
  tiUid : Nat
  tiLin : Nat
  gen : Nat
  sticky : Bool
  loop : Bool
deriving DecidableEq, Repr

/-- An item of a count wave. -/
inductive Item
  | entry (e : Entry)
  | ident (r : IdRec)
deriving DecidableEq, Repr

/-- A roster (Table 03.9), its entries in the order adm of R88, which R135 makes the sequence order. -/
structure Roster where
  tiUid : Nat
  tiLin : Nat
  gen : Nat
  sticky : Bool
  loop : Bool
  mode : Nat
  leader : Nat
  timeref : Nat
  loophead : Nat
  cycle : Nat
  guard_ : Nat
  nexcl : Nat
  entries : List Entry
deriving DecidableEq, Repr

/-- A roster with what the node keeps of the chain that produced it (R110, R113, R115). -/
structure Held where
  roster : Roster
  /-- UID named next to this node at end 1 and at end 2 in the chain. -/
  nb1 : Option Nat
  nb2 : Option Nat
  /-- CRC of R92. -/
  sum : Nat
  /-- More than one lead request, or a lead requester not admitted (R89, R90). -/
  leadConf : Bool
  leadNotAdm : Bool
  /-- The chain held two or more parts, or one part and a null part (R120); UID of the anchor; this node belongs to W. -/
  joining : Bool
  anchor : Nat
  inW : Bool
  /-- Nodes of the chain. -/
  m : Nat
  /-- This node's part was renumbered after a collision (R118), and kept_part changed the TI_UID (R116). -/
  collided : Bool
  tiChanged : Bool
  /-- Every part of the chain was null: a cold start (R120). -/
  coldStart : Bool
deriving DecidableEq, Repr

/-- A COUNT segment kept (R84). -/
structure Seg where
  origin : Nat
  oend : Nat
  seg : Nat
  last : Bool
  ovf : Bool
  loop : Bool
  items : List Item
  entries : Nat
  /-- End of the vehicle on which it arrived; 2 for the node's own origination. -/
  arrived : Nat
deriving DecidableEq, Repr

/-- An AGREE token held. -/
structure Agree where
  arrived : Nat
  sum : Nat
  count : Nat
  cyc : Nat
  gen : Nat
  origin : Nat
  cold : Bool
  /-- Already compared and relayed (R94). -/
  done : Bool
deriving DecidableEq, Repr

/-- Phase of the round held: open in the first four (Table 03.13, codes 2 to 4); ended without admission (R502), failed (R97), or taken into force. -/
inductive Phase | count | compute | agree | pending | noAdm | failed | committed
deriving DecidableEq, Repr

/-- The round held (R75 to R99). -/
structure Round where
  rnd : Nat
  starter : Nat
  cold : Bool
  ocyc : Nat
  phase : Phase := .count
  /-- START relayed out of end 1, end 2. -/
  st1 : Bool := false
  st2 : Bool := false
  /-- This node is the seam (R79). -/
  seam : Bool := false
  /-- The item and the identity record that the node sends in the round, from the first of its waves that carries them (R81, R82, R88). -/
  own : Option (Entry × IdRec) := none
  /-- Waves originated (not before Noon n where R98 defers them). -/
  originated : Bool := false
  segs : List Seg := []
  /-- Segments relayed or whose relay has started: origin, OEND, SEG. -/
  relayed : List (Nat × Nat × Nat) := []
  /-- Relays in progress: origin, OEND, SEG, frame, the lane they copy from. -/
  relays : List (Nat × Nat × Nat × Nat × Nat) := []
  /-- Copies that still arrive: origin, OEND, SEG, lane, payload bytes so far; copies that failed: segment and lane; waves discarded: origin
  and OEND (R83). -/
  copies : List ((Nat × Nat × Nat) × Nat × Bytes) := []
  failed : List ((Nat × Nat × Nat) × Nat) := []
  dead : List (Nat × Nat) := []
  /-- The chain C of R88: entries with `toward`, in order, and its topology. -/
  computed : Option Held := none
  agrees : List Agree := []
  /-- CYC of the node's own AGREE (R93). -/
  ownCyc : Option Nat := none
  /-- DISAGREE relayed out of end 1, end 2. -/
  dis1 : Bool := false
  dis2 : Bool := false
  /-- DAYBREAK relayed out of end 1, end 2; a DAYBREAK held until agreement completes: its t_b, CYC, TT (1/16 ns), COLD, bad correction. -/
  db1 : Bool := false
  db2 : Bool := false
  daybreak : Option (Int × Nat × Nat × Bool × Bool) := none
  /-- This node is in the minority in this round (R96). -/
  minority : Bool := false
deriving DecidableEq, Repr

/-- What one vehicle end holds (chapter 04). -/
structure EndS where
  working : Bool := false
  /-- Deadline of the outage grace, with the CHIP_UID and ENTRY_UID pairs that worked before it (R108). -/
  grace : Option Nat := none
  graceIds : List (Nat × Nat) := []
  isolated : Bool := false
  /-- End of the quarantine; instants of the joint changes counted toward it (R132). -/
  quarantine : Option Nat := none
  changes : List Nat := []
deriving DecidableEq, Repr

/-- Inauguration and composition change, besides registers (chapters 03, 04). -/
structure InauS where
  round : Option Round := none
  /-- Highest round number seen or held (R76). -/
  topRnd : Nat := 0
  /-- A joint change has occurred since the last adoption (R76); any joint change since the last Noon (recovery). -/
  changed : Bool := false
  settleAt : Option Nat := none
  startupAt : Option Nat := none
  waveAt : Option Nat := none
  agreeAt : Option Nat := none
  /-- The delayed round start of R97. -/
  spacingAt : Option Nat := none
  /-- A failed round is to be followed by a start once T_SETTLE and T_STARTUP have passed (R97). -/
  mustStart : Bool := false
  lastStart : Nat := 0
  /-- Consecutive failed rounds with no joint change; consecutive rounds in the minority. -/
  fails : Nat := 0
  minor : Nat := 0
  /-- Roster in force, the one held for one cycle after Noon (R113), the pending roster with its Noon. -/
  force : Option Held := none
  prev : Option Held := none
  pending : Option Held := none
  /-- Starter and number of the round that produced the pending roster (R119). -/
  pendingRnd : Option (Nat × Nat) := none
  /-- Cycle number of the pending Noon, once known. -/
  noon : Option Nat := none
  /-- Cycle number of the last Noon. -/
  lastNoon : Nat := 0
  /-- The roster came into force in this cycle (it was not in force throughout the cycle before: R181). -/
  noonCyc : Option Nat := none
  /-- Boundary of a DAYBREAK placed and not yet reached: t_b, cycle, train time, whether it re-phases a cycle (R102, R122). -/
  place : Option (Int × Nat × Nat) := none
  rephase : Bool := false
  /-- Compaction: 0 none, 1 first round, 2 second round; the slot that waits (R119). -/
  compact : Nat := 0
  /-- The one round in which the leader's entry carries STICKY = 0: starter and number, once it has been adopted (R119). -/
  compactRnd : Option (Nat × Nat) := none
  /-- ENTRY_UID, TWIN flag and half that owns it, where the twin pair has been formed; none: the node's own UID (R15, R74, R109). -/
  pair : Option (Nat × Nat) := none
  ends : Vector EndS 2 := Vector.replicate 2 {}
  /-- Crossover active at an egress lane (R129): (lane, SRC, PUB_ID, SEQ) sent in this sweep. -/
  crossed : List (Nat × Nat × Nat × Nat) := []
  sent : List (Nat × Nat × Nat × Nat) := []
  /-- Identity, position and orientation kept through DUSK-SLEEP or Twilight for the first round after Dawn (R379). -/
  kept : Option (IdRec × Nat × Bool) := none
deriving DecidableEq, Repr

/-- A subscription's status record (Table 05.6) with what the ageing of R162 needs. -/
structure SubStat where
  lastCyc : Nat := 0
  lastSeq : Nat := 0
  pos : Nat := 0
  /-- 0 NEVER, 1 FRESH, 2 STALE, 3 MISSING. -/
  state : Nat := 0
  lines : Nat := 0
  deliv : Nat := 0
  /-- Cycle from which the age counts. -/
  base : Nat := 0
  /-- Resolved at a Noon. -/
  resolved : Bool := false
deriving DecidableEq, Repr

/-- A publication captured at a guardian point (R146): index and contents of its table entry, and the payload with its cycle number. -/
structure Captured where
  entry : Nat
  row : Bytes
  data : Bytes
  /-- Pool frame of a stack member's frame. -/
  fid : Nat := 0
deriving DecidableEq, Repr

/-- The time-triggered cycle, besides registers (chapter 05). -/
structure SchedS where
  /-- Publication and subscription tables: entries stored, by index, 16 bytes each; unlisted entries are 0. -/
  pubs : List (Nat × Bytes) := []
  subs : List (Nat × Bytes) := []
  stats : List (Nat × SubStat) := []
  /-- Stores that take effect at the next boundary (R170). -/
  pubsNext : List (Nat × Bytes) := []
  subsNext : List (Nat × Bytes) := []
  /-- Cycle of the last mode announcement accepted (R166). -/
  annCyc : Nat := 0
  /-- Request in progress (R165): its mode; rounds started; 0 none, 1 first announcement sent, 2 second sent, 3 round started. -/
  reqMode : Nat := 0
  reqRounds : Nat := 0
  reqAnn : Nat := 0
  /-- The mode that the anchor of a joining round restores (R167); 0 none, 1 first announcement sent, 2 second sent, 4 the first is due at the
  next boundary. -/
  resMode : Nat := 0
  resAnn : Nat := 0
  /-- Cycle of the last joining Noon and the UID of its anchor (R166). -/
  joinNoon : Option (Nat × Nat) := none
  /-- Captured at the guardian point of the rearward and of the forward window. -/
  capR : List Captured := []
  capF : List Captured := []
  /-- Cycle number of the rearward, the forward window captured. -/
  cycR : Nat := 0
  cycF : Nat := 0
  /-- The local guardian keeps the rearward, the forward window silent (R154). -/
  silR : Bool := false
  silF : Bool := false
  /-- A condition of R154 was met at a guardian point of this cycle; consecutive clear cycles (R155). -/
  dirty : Bool := false
  clear : Nat := 2
  /-- SEQ of the last frame sent, per class (0 TT, 1 VITAL) and PUB_ID, with the cycle it was sent in. -/
  seqs : List (Nat × Nat × Nat × Nat) := []
  /-- Frames of the twin partner to send as relay copies: cycle, forward sweep, header bytes 0 to 15, payload (R349). -/
  relays : List (Nat × Bool × Bytes × Bytes) := []
  /-- SEQs taken at the capture, by sweep and by table entry or pool frame: those passed to the twin partner (R349). -/
  took : List (Bool × Nat × Nat) := []
  /-- Characters that the rearward, the forward window's frames have cost so far (R140). -/
  usedR : Nat := 0
  usedF : Nat := 0
  /-- TT and VITAL frames of stack members that wait for the own window: forward sweep, pool frame, bytes (R16, R137). -/
  stackQ : List (Bool × Nat × Bytes) := []
deriving DecidableEq, Repr

/-- A deviation measured in the cycle (R180): the member's UID and the values of line A and line B, 1/16 ns. -/
structure Dev where
  uid : Nat
  a : Option Int
  b : Option Int
deriving DecidableEq, Repr

/-- Clock agreement, besides registers (chapter 06). -/
structure SyncS where
  devs : List Dev := []
  /-- raw[p][·] of R181 by UID, newest cycle first. -/
  raw : List (Nat × List (Option Int)) := []
  /-- Offset slewed in this session, S. -/
  slewSum : Int := 0
  /-- Rate correction ρ and steering term σ, units of 2^-32. -/
  rho : Int := 0
  sigma : Int := 0
  /-- Slew applied over the current cycle, 1/16 ns. -/
  slew : Int := 0
  /-- c of the last round that yielded one in this session. -/
  est : Option Int := none
  /-- resid of R181; the round of this cycle yielded c; ĉ at the end of the previous cycle (R183). -/
  resid : Int := 0
  fresh : Bool := false
  carried : Int := 0
  /-- Rounds run since the last rate round. -/
  sinceRate : Nat := 0
  /-- Mark of R103. -/
  mark : Bool := false
  /-- No rate round has yielded r since the session or the re-phase began (ACQUIRE). -/
  acq : Bool := true
  /-- Windows whose first frame has been seen in this cycle: UID, line, forward sweep (R180). -/
  seen : List (Nat × Nat × Bool) := []
deriving DecidableEq, Repr

/-- A compare unit of a timed pulse output (R208, R210). -/
structure TpoS where
  /-- Armed target, 40 bits of short time, with period and width in use. -/
  target : Option Nat := none
  period : Nat := 0
  width : Nat := 0
  periodic : Bool := false
  /-- Short time at which the pulse in progress ends. -/
  endAt : Option Nat := none
deriving DecidableEq, Repr

/-- A capture input (R211): stamps held, oldest first: presented time in 1/16 ns, cycle, rising edge, OVF as it stood,
whether a catch-up ran. -/
structure TciS where
  fifo : List (Int × Nat × Bool × Bool × Bool) := []
  /-- Instant of the last edge. -/
  last : Option Nat := none
  /-- 0x0608 recorded for this filling. -/
  ovfRec : Bool := false
deriving DecidableEq, Repr

/-- A master heard on an IEEE 1588 port (R213): sourcePortIdentity, its data set as one number (the smaller is the better master), the PTP
timescale flag, instants of its last two Announce messages, newest first. -/
structure PtpMaster where
  ident : Nat
  rank : Nat
  tai : Bool
  seen : List Nat
deriving DecidableEq, Repr

/-- One IEEE 1588 port of the boundary clock (R212). -/
structure PtpS where
  seqSync : Nat := 0
  seqAnn : Nat := 0
  seqDly : Nat := 0
  /-- Masters heard on the port, and the one it follows: sourcePortIdentity (R213). -/
  masters : List PtpMaster := []
  parent : Option Nat := none
  /-- Instant of the last Sync event of the parent (R205). -/
  syncAt : Option Nat := none
  /-- A two-step Sync that waits for its Follow_Up: sequenceId, ingress instant, correctionField. -/
  sync : Option (Nat × Int × Int) := none
  /-- t1 (corrections added) and the instant t2 of the last Sync event. -/
  last : Option (Int × Int) := none
  /-- The own Delay_Req or Pdelay_Req that waits for its answer: sequenceId, egress instant once it has left. -/
  req : Option (Nat × Option Int) := none
  /-- A two-step Pdelay_Resp that waits for its follow-up: sequenceId, t2 and correctionField added, instant t4. -/
  resp : Option (Nat × Int × Int) := none
  /-- Mean path delay by the delay mechanism of the port, 1/16 ns; none before the first one (log entry 21). -/
  delay : Option Int := none
deriving DecidableEq, Repr

/-- Train time, besides registers (chapter 07). -/
structure TimeS where
  /-- Boundary map (k0, M0): M0 in 1/16 ns (R192). -/
  map : Option (Nat × Int) := none
  /-- κ at the instant `kAt`, signed 1/16 ns (R193, R198). -/
  kappa : Int := 0
  kAt : Nat := 0
  /-- Presented time, in 1/16 ns, at the instant `preAt`, while no map is held (R195, R202). -/
  pre : Int := 0
  preAt : Nat := 0
  epochOpen : Bool := true
  /-- A Noon has come in this session. -/
  noonSeen : Bool := false
  /-- Announced σ and its SIGCYC; announced epoch step (1/16 ns) and its EPCYC. -/
  sigNext : Option (Int × Nat) := none
  epNext : Option (Int × Nat) := none
  /-- A σ learnt after its SIGCYC: applied at the next boundary (R200). -/
  sigLate : Option Int := none
  /-- A reference event has set presented time in this session (R202). -/
  refSeen : Bool := false
  /-- Map to adopt at the next boundary (R201). -/
  adopt : Option (Nat × Int) := none
  lastEp : Int := 0
  lastRefused : Int := 0
  /-- Filtered term σ_f, units of 2^-32, accepting (R206, R207), reference offsets of the interval, newest first. -/
  sigmaF : Int := 0
  accepting : Bool := false
  offsets : List Int := []
  /-- Instant of the boundary at which the steering interval began; the boundary that ends it has come, and the notice of this cycle waits for
  the procedure of R206. -/
  steerAt : Option Nat := none
  notHeld : Bool := false
  /-- Map time before a forward epoch step whose internal compare units have not fired yet (R209). -/
  stepFrom : Option Int := none
  /-- The time source's own scale is TAI (R203, R214). -/
  refTai : Bool := false
  /-- Seconds of the next PPS edge when armed; seconds taken at the last edge; instant of the last edge. -/
  todArmed : Option Nat := none
  todLast : Nat := 0
  ppsAt : Option Nat := none
  tpo : Vector TpoS 4 := Vector.replicate 4 {}
  tci : Vector TciS 4 := Vector.replicate 4 {}
  ptp : Vector PtpS 4 := Vector.replicate 4 {}
  /-- QFLAGS, RSRC and UTCOFF of the last accepted notice (R214). -/
  notice : Option (Nat × Nat × Nat) := none
deriving DecidableEq, Repr

/-- What the lane transmitter writes into an own frame while it is on the wire. -/
inductive Patch
  | none
  /-- TURN of a PDRSP: the egress stamp minus this ingress stamp (R174). -/
  | turn (t2 : Nat)
  /-- OFFSET of a merge DAYBREAK: the time from its SF to this boundary (R121). -/
  | offset (tb : Nat)
  /-- DIR of a MGMT or BULK frame with DST 0, set on the copy that leaves fore (R226, Table 02.6). -/
  | dir
deriving DecidableEq, Repr

/-- What a frame of the own window carries to its start (R147, R148). -/
structure Gate where
  /-- Instants at which the window opens and closes. -/
  opens : Nat
  closes : Nat
  /-- Its publication-table entry; none: a relay copy (R349). -/
  entry : Option Nat
  /-- Cycle of the window; none: the frame keeps the SEQ that it has. -/
  number : Option Nat := none
  /-- SEQ that it took at its capture, when it was passed to the twin partner (R349). -/
  seq : Option Nat := none
  /-- Characters of the frames that follow it in the window. -/
  behind : List Nat := []
  /-- Sweep of the window: forward. -/
  fwd : Bool := false
  /-- Characters that the sweep's frames may cost (R140). -/
  budget : Nat := 0
  /-- Its first copy has started: SEQ, LASTW and its cost are settled (R157, R147). -/
  started : Bool := false
  /-- A copy has been refused, and counted. -/
  refused : Bool := false
deriving DecidableEq, Repr

/-- A frame in the pool (R220, R241): its tag, its bytes and the buffers it holds. -/
structure PFrame where
  fid : Nat
  /-- Ingress code of Table 08.1. -/
  ingress : Nat
  cls : Cls
  /-- Yeldex header and payload, or the Ethernet frame, as received so far. -/
  bytes : Bytes
  complete : Bool
  bad : Bool := false
  cut : Bool := false
  dmask : Nat := 0
  portq : Nat := 0
  /-- Ingress stamp, 1/16 ns of the time base; none when it cannot be stamped (R56). -/
  stamp : Option Nat := none
  /-- A residence correction is due at the egress (R56), with the path delay of the ingress lane, 1/16 ns. -/
  relay : Bool := false
  pd : Option Int := none
  patch : Patch := .none
  /-- ARRIVAL of the tag: short time in ns. -/
  arrival : Nat := 0
  /-- Instant of the ingress, for QAGE (R236). -/
  inAt : Nat := 0
  claim : Nat := 0
  gen : Nat := 0
  /-- Buffers drawn from the express reserve, from the ingress minimum, from the shared region. -/
  nRes : Nat := 0
  nMin : Nat := 0
  nSh : Nat := 0
  /-- Copies held by a host ring. -/
  host : Nat := 0
  /-- Bytes that the host has written over the tag in a host-held buffer (R414). -/
  wrote : List (Nat × Byte) := []
  /-- Copies due at consist ports and local sinks that have not ended yet (Table 08.1 codes). -/
  due : List Nat := []
  /-- Local egress codes chosen at the decision on a lane frame, until the frame ends (R220, R231). -/
  sinks : List Nat := []
  /-- A frame of the own window. -/
  gate : Option Gate := none
  /-- Rule index, TCI and tag flag for the receive descriptor (Table 09.5). -/
  rule : Nat := 0xFE
  rxq : Nat := 0
deriving DecidableEq, Repr

/-- The sequence window and the paths of one VITAL channel (R239, R240). -/
structure VitS where
  /-- Highest SEQ accepted and the bits of H − 63 to H (bit i: H − i); none before the first copy. -/
  win : Option (Nat × BitVec 64) := none
  /-- UID of the channel's source when the window was last judged; whether it has sent since the last Noon (R128, R239). -/
  src : Nat := 0
  heard : Bool := false
  /-- Cycle of the last valid copy on line A round 0, A round 1, B round 0, B round 1. -/
  seen : Vector (Option Nat) 4 := Vector.replicate 4 none
deriving DecidableEq, Repr

/-- The fabric, besides registers (chapter 08). -/
structure FabS where
  frames : List PFrame := []
  nextFid : Nat := 1
  /-- Free buffers, counted on its own: R28 checks it against the buffers the frames hold. -/
  free : Nat := 16384
  /-- What buffers hold beside the frames of the pool: by buffer number, its first bytes as the last frame in it and the host have left them
  (R414). -/
  left : List (Nat × Bytes) := []
  vit : List (Nat × VitS) := []
deriving DecidableEq, Repr

/-- The MSI-X capability of the host port: enable, function mask, the vectors' entries (address, data, mask bit) as listed,
the pending-bit array, INTA (R455, R456). An unlisted entry is masked with address and data 0. -/
structure MsixS where
  enable : Bool := false
  fmask : Bool := false
  table : List (Nat × (Nat × Nat × Bool)) := []
  pba : List Nat := []
  inta : Bool := false
  /-- GLB_ISUM of stack members 1 to 3 as last reported is not 0 (vectors 56 to 58). -/
  members : List Nat := []
deriving DecidableEq, Repr

/-- The three copies of a voted register field (R458). -/
structure Voted where
  c0 : Nat
  c1 : Nat
  c2 : Nat
deriving DecidableEq, Repr

/-- Registers with more behind them than a value: voted copies, the open WCP pair of each block, posted writes (R3 to R5, R458). -/
structure GlbS where
  /-- CMD_AUTH, GLB_PACE.LEVEL (as bits 1:0), GLB_EMC: whole words. -/
  auth : Voted := ⟨0x1101F0, 0x1101F0, 0x1101F0⟩
  pace : Voted := ⟨2, 2, 2⟩
  emc : Voted := ⟨0x15, 0x15, 0x15⟩
  /-- Open WCP pairs: address, value, deadline. -/
  pairs : List (Nat × Nat × Nat) := []
  /-- Posted WP writes under way: address and word. -/
  posted : List (Nat × Nat) := []
deriving DecidableEq, Repr

/-- An addressed memory: (address, byte) pairs, addresses strictly rising, no entry equal to 0, which an unlisted address reads as. -/
abbrev Memory := List Host.Cell

/-- The process image (Table 10.6): each area by offset in its own 64 KiB. The input area holds the station status region and the
system block as its first 320 bytes. -/
structure ImgS where
  /-- Receive and latched views of the input area. -/
  recv : Memory := []
  latched : Memory := []
  /-- Working and committed views of the output area. -/
  work : Memory := []
  comm : Memory := []
  retained : Memory := []
  nonret : Memory := []
deriving DecidableEq, Repr

/-- Twin operation, besides registers (chapter 12). -/
structure TwinS where
  /-- SEQ of the next twin-link frame (R334); frames that wait for the transmitter as KIND and payload, oldest first, and the instant at which
  it is free. -/
  seq : Nat := 0
  txq : List (Nat × Bytes) := []
  txFree : Nat := 0
  /-- Round and entry item of twin X's last ENTRY frame (R333); the round in which a difference was recorded. -/
  entry : Option (Nat × Bytes) := none
  diffRnd : Option Nat := none
  /-- The partner has been heard; its TSTATE, HFLAGS, GEN, CYC, RELCYC and MIRSET in its last heartbeat. -/
  heard : Bool := false
  pState : Nat := 0
  pFlags : Nat := 0
  pGen : Nat := 0
  pCyc : Nat := 0
  pRel : Nat := 0
  pMir : Nat := 0
  /-- Instant of the last valid heartbeat on the twin link and on the consist path (R337). -/
  lastTl : Option Nat := none
  lastCb : Option Nat := none
  /-- End of R74's 2 ms (R340). -/
  seekAt : Option Nat := none
  /-- Next 100 µs tick, the instant for which the last consist heartbeat was sent (R336); HSEQ of the two paths. -/
  tickAt : Nat := 0
  cbAt : Nat := 0
  hseqT : Nat := 0
  hseqC : Nat := 0
  /-- A yield and a claim due at the next boundary with the cause of R361: 1 on, in the order of Table 12.7; a renewal (R342). -/
  yieldDue : Option Nat := none
  takeDue : Option Nat := none
  renew : Bool := false
  /-- The partner became absent while this half was STANDBY: takeover at the next boundary (R341). -/
  takeover : Bool := false
  /-- The release exchange (R346): ACKREL sent, or received, for RELCYC. -/
  ackRel : Option Nat := none
  ackGot : Bool := false
  /-- Dirty blocks as region and block number, oldest first (R352); SETNO of the last set opened. -/
  dirty : List (Nat × Nat) := []
  setNo : Nat := 0
  /-- SETNO of the last set whose SEAL has left. -/
  sealed : Nat := 0
  /-- The standby has asked for a full resend since the last set was opened (R353). -/
  fullDue : Bool := false
  /-- Standby: SETNO and blocks (ADDR, data) collected; the mirror store; SETNO of the last set applied; cycle of its commit. -/
  collNo : Nat := 0
  coll : List (Nat × Bytes) := []
  store : List (Nat × Bytes) := []
  applied : Option Nat := none
  setCyc : Nat := 0
  /-- The mirror store is to be written at this boundary (R344). -/
  fill : Bool := false
  /-- Role notices seen, newest first: position, CHIP_UID, claim, cycle (R357). Verdicts sent: position, cycle. -/
  roles : List (Nat × Nat × Nat × Nat) := []
  verdTx : List (Nat × Nat) := []
  /-- Cycle from which a twin position that holds a role has been watched for vacancy. -/
  watched : List (Nat × Nat) := []
  /-- Verdicts accepted, newest first: source position, KIND, chip, cycle (R358). -/
  verdRx : List (Nat × Nat × Nat × Nat) := []
deriving DecidableEq, Repr

/-- A task of the cycle engine (R283, R288). -/
structure TaskS where
  /-- An instance is in progress; instant and cycle of its release. -/
  run : Bool := false
  relAt : Nat := 0
  relCyc : Nat := 0
  /-- The status region and the system block as the last latch of the task took them (R286). -/
  view : Memory := []
  /-- The block instance of the image that the instance in progress comes to next (R283). -/
  next : Nat := 0
  /-- A period runs that ends in the cycle given; its release was skipped; its instance has completed. -/
  ends : Option Nat := none
  skipped : Bool := false
  done_ : Bool := false
  /-- The output range of the working view as it stood at the completion: offset from 0x1_0000 and bytes. -/
  snap : Bytes := []
  /-- Consecutive overruns; the next evaluation is the first after WAIT→RUN. -/
  overs : Nat := 0
  first : Bool := true
deriving DecidableEq, Repr

/-- A station: its entry in force, its status record and the bits of its status byte (R294, R301, R304). -/
structure StationS where
  entry : Bytes := []
  /-- 0 DISABLED, 1 UNCONFIGURED, 2 CONFIGURED, 3 LOST. -/
  state : Nat := 0
  lastCyc : Nat := 0
  claim : Nat := 0
  tag : Nat := 0
  sbits : Nat := 0
  miss : Nat := 0
  /-- A valid IN arrived in this cycle; an IN has written the receive view in this cycle, and in the cycle before; an IN was late. -/
  heard : Bool := false
  wrote : Bool := false
  fresh : Bool := false
  late : Bool := false
  /-- SAFE, ERR and CLAIMHI of the last valid IN. -/
  safe : Bool := false
  err : Bool := false
  hi : Bool := false
deriving DecidableEq, Repr

/-- The cycle engine, besides registers and the process image (chapter 10). -/
structure EngS where
  /-- Debounced key code that waits for a boundary: KEYA in bit 0, KEYB in bit 1 (R280). -/
  keyNext : Option Nat := none
  tasks : Vector TaskS 4 := Vector.replicate 4 {}
  /-- Cycle whose commit instant has passed. -/
  committed : Option Nat := none
  stations : List (Nat × StationS) := []
  /-- Half 1 held by station, and entries that take effect at the next boundary (R306). -/
  half1 : List (Nat × Bytes) := []
  next : List (Nat × Bytes) := []
  /-- Station whose telegram was assembled, with the cycle. -/
  sent : List (Nat × Nat) := []
deriving DecidableEq, Repr

/-- An execution bank with its MRAM bank (chapter 11): whether the image is validated, and equal to the MRAM bank. -/
structure BankS where
  exec : Memory := []
  mram : Memory := []
  valid : Bool := false
  stored : Bool := true
  /-- Lines of the MRAM bank that the patrol has found uncorrectable (R473); bytes of the bank that a load has taken from such lines. -/
  bad : List Nat := []
  lost : List Nat := []
deriving DecidableEq, Repr

/-- The program store and the force table, besides registers (chapter 11). -/
structure PrgS where
  a : BankS := {}
  b : BankS := {}
  /-- Start bank: 0 A, 1 B (R319). -/
  start : Nat := 0
  /-- An online swap asked for and not yet checked, or pending; its FCLR (R321). -/
  swapReq : Option Bool := none
  swapFclr : Bool := false
  /-- STOREs that have failed in a row (R475). -/
  storeBad : Nat := 0
  /-- Postponements of the swap in a row (R322). -/
  postponed : Nat := 0
  /-- Cycle of the last swap, 0 before the first one or where none ran (PRG_SWCYC). -/
  swapCyc : Nat := 0
  /-- Inputs whose memory is set to the value read at the first evaluation: instance, input (R324). -/
  resync : List (Nat × Nat) := []
  /-- The force table as stored, by index, and the enabled entries in effect (R326). -/
  force : List (Nat × Bytes) := []
  forceOn : List Bytes := []
  /-- Forced bits that stand in the committed view, by byte of the process image, since the last commit of their task (R326). -/
  forcedOut : List (Nat × Nat) := []
deriving DecidableEq, Repr

/-- Where a consist frame goes (R255, R256, Table 09.3). -/
structure EthDest where
  /-- MAC control; 1588 message to the management core; Yeldex-IO telegram to the cycle engine. -/
  ctl : Bool := false
  ptp : Bool := false
  io : Bool := false
  mcore : Bool := false
  host : Option Nat := none
  /-- Class, DST and PORTMASK on the backbone. -/
  bb : Option (Cls × Nat × Nat) := none
  lports : Nat := 0
  rule : Nat := 0xFF
deriving DecidableEq, Repr

/-- A frame being received on a consist port, from its steering decision on. -/
structure EthRx where
  bytes : Bytes
  stamp : Nat
  dest : EthDest
  /-- Discarded: the bytes up to its end are ignored. -/
  skip : Bool := false
  fid : Option Nat := none
  /-- Bytes of a later fragment are arriving: its frame number and fragment count as they must be (R264). -/
  cont : Option (Nat × Nat) := none
deriving DecidableEq, Repr

/-- A preemptable frame whose fragments are being reassembled (R264): its number modulo 4, the fragment count that comes next, its bytes while
no steering decision has been made, and its reception after it. -/
structure EthFrag where
  frame : Nat
  next : Nat
  early : Bytes
  rx : Option EthRx
  stamp : Nat
deriving DecidableEq, Repr

/-- The descriptors of a host frame on its way out: ring, first index, bytes of the descriptors, TSREQ (R273). -/
structure HostTx where
  ring : Nat
  idx : Nat
  descs : Bytes
  tsreq : Bool
deriving DecidableEq, Repr

/-- A frame in a transmit queue of a consist port, as it goes on the wire, FCS included (R263). -/
structure PItem where
  q : Nat
  fid : Nat
  bytes : Bytes
  /-- Launch instant of a Yeldex-IO telegram (R265). -/
  launch : Option Nat := none
  host : Option HostTx := none
  /-- An IEEE 1588 event message whose egress stamp is due: message type and sequenceId. -/
  ptp : Option (Nat × Nat) := none
  /-- correctionField of the request that a two-step Pdelay_Resp answers: its follow-up carries it (R212). -/
  cor : Nat := 0
deriving DecidableEq, Repr

/-- A frame leaving a consist port: the start of the frame or fragment, bytes sent before it. -/
structure PTx where
  item : PItem
  /-- Instant of the first bit after the start frame delimiter of the frame. -/
  stamp : Nat
  from_ : Nat
  off : Nat := 0
deriving DecidableEq, Repr

/-- What a consist port holds besides its registers (chapter 09). -/
structure PortS where
  rx : Option EthRx := none
  /-- The preempted frame that waits for its next fragment (R264). -/
  frag : Option EthFrag := none
  /-- Filter rules as taken by a write to W0: rule, W0 to W3 (R257). -/
  rules : List (Nat × (Nat × Nat × Nat × Nat)) := []
  /-- Frames that wait, in their order of arrival; the frame on the wire; the preempted one. -/
  txq : List PItem := []
  tx : Option PTx := none
  txHeld : Option PTx := none
  /-- End of the hold by received pause, its start, end of the watchdog interval (R267, R269). -/
  holdAt : Option Nat := none
  holdFrom : Option Nat := none
  wdAt : Option Nat := none
  /-- Next repeat of the own pause frame while XOFF has been reached; pause frames that wait (R268). -/
  xoffAt : Option Nat := none
  pauseOut : List Nat := []
  /-- Half duplex already recorded in this link attempt (R251). -/
  hdxRec : Bool := false
  /-- The PREEMPTION_VERIFY exchange runs (R264). -/
  verifying : Bool := false
  /-- Transmit rings whose head frame waits for buffers and has been counted, with its length (R274). -/
  waiting : List (Nat × Nat) := []
  /-- Transmit rings found without a whole frame since their TAIL was written (R274). -/
  partTx : List Nat := []
  /-- Frames of a ring whose descriptors are written behind one that is not finished yet: transmit or receive, ring, first index, count (R270). -/
  passed : List (Bool × Nat × Nat × Nat) := []
  /-- Completed frames not yet signalled and the deadline of ITIME, per ring (transmit or receive, queue). -/
  mods : List ((Bool × Nat) × (Nat × Option Nat)) := []
  /-- End of the MDIO frame in progress. -/
  mdioAt : Option Nat := none
deriving DecidableEq, Repr

/-- A read of host memory that the node has issued and that has not completed (R266, R272, R435). -/
inductive Fetch
  /-- Receive descriptors: port, ring, first index, frame, data to write, TS, TCI, STAT without SOF, EOF and FLEN. -/
  | rxDesc (port q idx n fid : Nat) (data : Bytes) (ts tci stat : Nat)
  /-- Data of a transmit frame: port, descriptors, FCSINS, the frame whose buffers are drawn. -/
  | txData (port : Nat) (h : HostTx) (fcsins : Bool) (fid : Nat)
  /-- A submission entry of the command ring, a command packet with its submission index and buffer. -/
  | subEntry (idx : Nat)
  | packet (idx addr buflen : Nat)
deriving DecidableEq, Repr

/-- One memory read request of a read of host memory: its range, its tag once it is issued, its data once they have arrived (Table 15.1). -/
structure FetchPart where
  addr : Nat
  len : Nat
  tag : Option Nat := none
  data : Option Bytes := none
deriving DecidableEq, Repr

/-- A read of host memory: what it is for, and the requests into which the max read request size cuts it. -/
structure FetchOp where
  kind : Fetch
  parts : List FetchPart
deriving DecidableEq, Repr

/-- Reads of host memory that are not complete, oldest first; ring copies that the host has not taken: port, ring, frame; write-backs of transmit
frames that wait for D0: port, descriptors, RESULT, TS (R409). -/
structure HostS where
  fetches : List FetchOp := []
  held : List (Nat × Nat × Nat) := []
  backs : List (Nat × HostTx × Nat × Option Nat) := []
deriving DecidableEq, Repr

/-- Where a command packet came from: a submission index with its buffer, or a position of the train (R432, R449). -/
inductive CmdSrc
  | host (sidx addr buflen : Nat)
  | remote (pos : Nat) (ack : Bool)
  /-- A host packet that the stack master has passed on, from its slot (R434). -/
  | stack (slot : Nat)
deriving DecidableEq, Repr

/-- A command slot (R433): its source, its packet, when it was accepted, whether its operation has started. -/
structure CmdSlot where
  src : CmdSrc
  packet : Bytes
  at_ : Nat
  started : Bool := false
  /-- Deadline of an open RSEND (R443). -/
  rto : Option Nat := none
  /-- Waits at a stack member (R434). -/
  member : Nat := 0
  /-- It has released the interface and waits until a BUSY flag is 0 (R433, R439). -/
  waits : Bool := false
deriving DecidableEq, Repr

/-- A CMD or CPL frame that waits to be queued (R446): its type, DST, ACKREQ and packet, the line where it does not take that of FWD_LINESEL (R357),
whether it ends a slot (R433). -/
structure RemoteOut where
  type : Nat
  dst : Nat
  ack : Bool
  packet : Bytes
  line : Option Nat := none
  slot : Bool := false
deriving DecidableEq, Repr

/-- The command interface, besides registers (chapter 16). -/
structure CmdS where
  /-- Slots taken, oldest first: slot number and contents. -/
  slots : List (Nat × CmdSlot) := []
  /-- PHASE of the completion ring (R435). -/
  phase : Bool := true
  /-- Cycle and count of CMD and CPL frames originated in it (R446); frames that wait for the next cycle, oldest first. -/
  seqCyc : Nat := 0
  seqCnt : Nat := 0
  outq : List RemoteOut := []
  /-- Replay table: ORIGIN, H and the bits of H − 63 to H (R448). -/
  replay : List (Nat × (Nat × BitVec 64)) := []
  /-- Train keys by slot, 16 bytes each (R452); the arm: slot and operating time of its pair in 1/256 s (R453). -/
  keys : List (Nat × Bytes) := []
  arm : Option (Nat × Nat) := none
  /-- Notices that passed Table 16.8 and wait for their block, oldest first: whole CMD frames (R449). -/
  notices : List Bytes := []
  /-- Completions not yet signalled and the deadline of ITIME (CMD_IMOD). -/
  mods : Nat × Option Nat := (0, none)
  /-- Completions of host packets that wait for D0 (R409): slot contents, STATUS, INFO, RESULT. -/
  late : List (CmdSlot × Nat × Nat × Bytes) := []
  /-- Closed by a Dusk cycle (R444). -/
  shut : Bool := false
deriving DecidableEq, Repr

/-- A record on its way through staging: code, body, operating time in 1/256 s, the low 24 bits of the power-cycle count (Table 14.3). -/
structure StRec where
  code : Nat
  body : Bytes
  ot : Nat
  pcc : Nat
deriving DecidableEq, Repr

/-- A block of the recorder MRAM: header (Table 14.2) and its record lines from line 1 on, 16 bytes each. -/
structure RBlk where
  lblk : Nat
  bseq : Nat
  first : Nat
  bstate : Nat
  lines : List Bytes := []
deriving DecidableEq, Repr

/-- A rate class: RATE, DEPTH, tokens in 1/256 token as they stood at an operating time (R392). -/
structure RateCls where
  rate : Nat := 10
  depth : Nat := 32
  tok : Nat := 8192
  at_ : Nat := 0
deriving DecidableEq, Repr

/-- What is noted of suppressed or lost records: count, codes and operating times of the first and the last (R393, R395). -/
structure Missed where
  count : Nat
  code1 : Nat
  code2 : Nat
  ot1 : Nat
  ot2 : Nat
deriving DecidableEq, Repr

/-- The line that the recorder is writing (R385, R397). -/
inductive RecJob
  | idle
  /-- END line of the current block. -/
  | endLine
  /-- Header of a block: physical block, the block as it will stand, record lines to copy into it, record to write again first. -/
  | header (phys : Nat) (b : RBlk) (copy : List Bytes)
  /-- Lines being copied into the current block: those that remain. -/
  | copy (rest : List Bytes)
  /-- Lines of a record with its SEQ: those written, those that remain. -/
  | write (r : StRec) (seq : Nat) (rest : List Bytes)
deriving DecidableEq, Repr

/-- The read cursor (R403): area, SEQ, block and its BSEQ, first line of the record in the block, line within the record. -/
structure CurS where
  morning : Bool
  seq : Nat
  phys : Nat
  bseq : Nat
  start : Nat
  line : Nat
deriving DecidableEq, Repr

/-- The event recorder, besides registers (chapter 14). Its MRAM, the checkpoint and what stands under "always-on" survive resets. -/
structure RecS where
  /-- MRAM: blocks written, by physical number; blocks ever opened (BSEQ of the last). -/
  blocks : List (Nat × RBlk) := []
  bseq : Nat := 0
  /-- The recorder scans its blocks (R399); what it found OPEN: SEQ and CODE. -/
  scan : Bool := true
  torn : Option (Nat × Nat) := none
  /-- Whether the scan follows a reset with a SESSION record (else a Dawn). -/
  session : Bool := true
  /-- Place in use (0 to 479) and its physical block; `none` while no block is open. Place closed last. -/
  cur : Option (Nat × Nat) := none
  last : Option Nat := none
  /-- The Morning area has ended; its last SEQ goes into a MORNFULL record. -/
  evening : Bool := false
  next : Nat := 0
  /-- Records written before staging's front: RETIRED, MORNFULL, a record written again, each with the SEQ it may have. -/
  again : List (StRec × Option Nat) := []
  job : RecJob := .idle
  lineAt : Nat := 0
  stage : List StRec := []
  classes : List (Nat × RateCls) := []
  /-- Always-on: suppressed by class, lost. -/
  supp : List (Nat × Missed) := []
  lost : Option Missed := none
  /-- Records lost with staging and not yet counted in RECD_LOST (R396, R405). -/
  away : Nat := 0
  /-- Operating time at which a freeze ends (R402). -/
  freeze : Option Nat := none
  cursor : Option CurS := none
  /-- Mirror: SEQs written and not yet copied, the ring's sectors, the open sector, its block-open count; second of the next retry. -/
  mirQ : List Nat := []
  flash : List (Nat × RBlk) := []
  mirCur : Option Nat := none
  mirSeq : Nat := 0
  mirRetry : Nat := 0
  /-- Staged records that the mirror has had while the recorder is FAILED (R398). -/
  mirStage : Nat := 0
  /-- Checkpoint copies: operating time and power-cycle count (R391); operating time of the last one. -/
  ckA : Option (Nat × Nat) := none
  ckB : Option (Nat × Nat) := none
  ckAt : Nat := 0
deriving DecidableEq, Repr

/-- A copy of the configuration store (R380): sequence number, stored register fields with their values, tables, voted words. -/
structure CfgCopy where
  seq : Nat
  regs : List (Nat × Nat)
  pubs : List (Nat × Bytes)
  subs : List (Nat × Bytes)
  stations : List (Nat × Bytes)
  rules : List (List (Nat × (Nat × Nat × Nat × Nat)))
  classes : List (Nat × (Nat × Nat))
  auth : Nat
  pace : Nat
  emc : Nat
deriving DecidableEq, Repr

/-- A copy of the retained image (R493). -/
structure RetCopy where
  seq : Nat
  prog : Nat
  rev : Nat
  area : Memory
  /-- CRC-32 of R55 over what the copy holds. -/
  crc : Nat
deriving DecidableEq, Repr

/-- Dusk, Twilight and Dawn, besides registers (chapter 13). -/
structure RestS where
  /-- Rounds consented or vetoed, with the sender of the token; the cycle of the consent. -/
  answered : List (Nat × Nat) := []
  consentAt : Option Nat := none
  /-- A joint change has occurred since the consent. -/
  jointNew : Bool := false
  /-- The open round: number, TWKEEP, TWMODE, DESC. -/
  round : Nat := 0
  tw : Bool := false
  twMode : Nat := 0
  desc : Nat := 0
  /-- Consents collected in it, as far as this node knows (R362). -/
  count : Nat := 0
  /-- Cycle in which the leader started its round; a TOKEN or CALL has gone out and no VERDICT has come. -/
  leadAt : Option Nat := none
  /-- DUSK frames relayed or originated: KIND, ROUND, sending position. -/
  seen : List (Nat × Nat × Nat) := []
  /-- TOKENs received: round, sending position, line (R364). -/
  tokens : List (Nat × Nat × Nat) := []
  /-- Commit accepted for the open round: map time of Tc, 1/16 ns. -/
  commit : Option Int := none
  /-- Commit instants known of, on the time base (R371, R372). -/
  tcs : List Nat := []
  /-- Latest instant of entering DUSK-SLEEP (Tc + 50 ms) while staging is written. -/
  entering : Option Nat := none
  /-- WAKE is being sent on every lane until this instant; nWAKEOUT is low until this instant. -/
  pattern : Option Nat := none
  wakeout : Option Nat := none
  /-- Configuration store: two copies; the copy being written with its deadline. -/
  cfgA : Option CfgCopy := none
  cfgB : Option CfgCopy := none
  saving : Option (CfgCopy × Nat) := none
  /-- Retained image: two copies. -/
  retA : Option RetCopy := none
  retB : Option RetCopy := none
  /-- Level of the WAKE input after its debounce; none: it reads as inactive, whatever its polarity (R376, R480). -/
  wakeIn : Option Bool := none
  /-- A wake source that waits in TWILIGHT for the commit that lies ahead, the lowest code of those that do: code, lane, position (R369 to R371, R376). -/
  wakePend : Option (Nat × Nat × Nat) := none
  /-- Instant of the last Dawn: sources that coincide with it (R376). -/
  dawnAt : Option Nat := none
  /-- The debounced key code as read last: KEYA, KEYB. -/
  keyA : Bool := false
  keyB : Bool := false
deriving DecidableEq, Repr

/-- Power, reset and pins, besides registers (chapter 18). -/
structure PwrS where
  /-- Kind of the reset that is asserted. -/
  rst : Option Nat := none
  /-- Kind of the warm reset held off and the end of the hold-off (R489). -/
  hold : Option (Nat × Nat) := none
  /-- nRESET is low while it is not sampled (R491). -/
  low : Bool := false
  /-- TJ has reached 140 °C in ACTIVE and has not fallen to 120 °C since (R488). -/
  therm : Bool := false
  /-- VIO1, VIO2 below 1.5 V (R480). -/
  vio1 : Bool := false
  vio2 : Bool := false
  /-- INTn is low; ROLE is high (R496). -/
  intn : Bool := false
  role : Bool := false
  /-- The line-A transmitters are stopped by temperature (R491). -/
  hot : Bool := false
  /-- A PACE change waits for an MRAM write job (R482). -/
  paceWait : Bool := false
  /-- The QSPI flash from offset 0, as found at reset release; empty: absent or without a valid parameter table (R486). -/
  flash : Bytes := []
deriving DecidableEq, Repr


/-- A host or core access under way at another chip (R417, R419, R420): its tag on the stack link, the requester's tag, the requester
(0 host, 1 master core, 2 to 4 members), target, BAR0 offset, length, arrival, deadline, window kind. -/
structure FarOp where
  id : Nat
  tag : Nat
  src : Nat
  member : Nat
  addr : Nat
  len : Nat
  data : Bytes := []
  arrival : Nat
  until_ : Nat
  win : Nat
  /-- Data of a write, byte enables; the packet has gone out on the stack link (R417: it waits there for credit). -/
  pay : Bytes := []
  be : Nat := 0
  sent : Bool := true
deriving DecidableEq, Repr

/-- A host request that its requester holds back for want of a flow-control credit (R417): the operands of its command; a write carries data. -/
structure HostReq where
  write : Bool
  tag : Nat
  bar : Nat
  addr : Nat
  dws : Nat
  fbe : Nat
  lbe : Nat
  ecc : Bool
  data : Bytes
  /-- 0 a memory request, 1 a semaphore access, 2 a write of BRDG_LOCK, each by its own command. -/
  row : Nat := 0
deriving DecidableEq, Repr

/-- A read-ahead copy (R416): window kind, first BAR0 or BAR2 address, bytes, instant of its end. -/
structure Prefetched where
  win : Nat
  addr : Nat
  data : Bytes
  until_ : Nat
deriving DecidableEq, Repr

/-- The host bridge and the stack link, besides registers (chapter 15). -/
structure BrdgS where
  reads : List FarOp := []
  /-- Posted writes accepted and not yet confirmed, oldest first. -/
  writes : List FarOp := []
  /-- Posted writes that this member has forwarded and that are not yet confirmed. -/
  fwd : List FarOp := []
  nextId : Nat := 0
  /-- Host requests held back, oldest first (R417). -/
  held : List HostReq := []
  /-- Far-error log, oldest first: FSEQ, entry, read (R420). -/
  log : List (Nat × Bytes × Bool) := []
  /-- Fences open: the chip whose read it is (0: the host), its tag, and the writes it waits for (R421). -/
  fences : List (Nat × Nat × List Nat) := []
  /-- Read-ahead copies held, oldest first (R416). -/
  pre : List Prefetched := []
  /-- The far-bus lock: instant from which it has been held (R422); this chip is locked to the master's bridge. -/
  lockAt : Option Nat := none
  locked : Bool := false
  /-- Semaphore accesses of this member's core at its master, oldest first: semaphore, value written, gone out (R423, Table 15.3). -/
  semReads : List (Nat × Option Nat × Bool) := []
  /-- The LOCK of this member's core waits for the link (Table 15.3). -/
  lockWait : Bool := false
  /-- Packets to members behind a posted write that has not gone out yet: that write, the packet (R418). -/
  behind : List (Nat × Bytes) := []
  /-- The chip whose core holds this chip's lock; 0: the master's bridge (R422). -/
  lockSrc : Nat := 0
  /-- At the master: the far-bus lock that a member's core has asked for: member, target, granted (R422, log entry 26). -/
  coreLock : Option (Nat × Nat × Bool) := none
  /-- Instant at which a core that lost an arbitration asks for its lock again (R424). -/
  retryAt : Option Nat := none
  /-- Packets that wait while this chip is locked, oldest first: port, whether their buffering holds an uncorrectable error, packet (R422). -/
  waiting : List (Nat × Bool × Bytes) := []
  /-- Semaphore accesses of cores that wait while this chip is locked: requester, semaphore, value written (R422, R423). -/
  semWait : List (Nat × Nat × Option Nat) := []
  /-- Writes applied here for others, and the count last reported by each member (R421). -/
  applied : Nat := 0
  counts : List (Nat × Nat) := []
  /-- Instant from which the up port has been out of ACTIVE (R429). -/
  upSince : Option Nat := some 0
  /-- 0x0C12 has been recorded in this power session (R426). -/
  idSeen : Bool := false
  /-- Instant before which configuration requests are answered with retry status (R485). -/
  crsUntil : Nat := 0
  /-- The configuration space besides what registers show (R408): base addresses of BAR0 and BAR2, ASPM control, the AER error status. -/
  bar0 : Nat := 0
  bar2 : Nat := 0
  aspm : Nat := 0
  aer : Nat := 0
  /-- At a stack member: position and UID of every entry of its master's roster in force (R220, log entry 26). -/
  uids : List (Nat × Nat) := []
  /-- At a stack member: whether its master has a roster in force, its schedule mode, whether the train is a loop (R16, log entry 26). -/
  onTrain : Bool := false
  mode : Nat := 0
  loop : Bool := false
  /-- At a stack member: the roster generation in force, as its master's boundary MSG gives it (R16). -/
  gen : Nat := 0
  /-- At a stack member: T in force in units of 250 µs, as its master's boundary MSG gives it; 0: none yet (R16). -/
  cycle : Nat := 0
deriving DecidableEq, Repr

/-- A snapshot: its header (Table 17.1) and the words copied that are not 0, by BAR0 offset. -/
structure Snap where
  header : Bytes
  words : List (Nat × Nat)
deriving DecidableEq, Repr

/-- A pending Midnight (R468): MIDNO, REQUID, target map time in 1/16 ns. -/
structure Midnight where
  no : Nat
  uid : Nat
  target : Int
deriving DecidableEq, Repr

/-- What a telemetry sweep measures (Table 17.4): 1/8 °C, mV, mV, mV, mV, 1/256. -/
structure Telem where
  tj : Int
  vin : Nat
  vio1 : Nat
  vio2 : Nat
  vcore : Nat
  sp : Nat
deriving DecidableEq, Repr

/-- A background activity (R474). -/
inductive Act
  | tel (t : Telem)
  | lcal (lane : Nat)
  | repair (bank addr : Nat)
  | mpat
  | store
  | save
  /-- A checkpoint write; the key write of the packet in a slot. -/
  | ckpt
  | key (slot : Nat)
deriving DecidableEq, Repr

/-- Calibration of a lane (R471, R472): result in use, result toward which it steps, 1/16 ns; temperature at the last one; discarded
results in a row. -/
structure CalS where
  result : Option Int := none
  target : Int := 0
  tcal : Int := 0
  bad : Nat := 0
deriving DecidableEq, Repr

/-- Snapshots and background work, besides registers (chapter 17). -/
structure HkpS where
  bank0 : Option Snap := none
  bank1 : Option Snap := none
  snaps : Nat := 0
  /-- Instant of the newest capture (R464). -/
  capAt : Option Nat := none
  /-- Midnights that are pending (R468). -/
  mids : List Midnight := []
  /-- MIDN frames relayed or originated: REQUID, MIDNO (R467). -/
  seen : List (Nat × Nat) := []
  /-- Alarms that stand: quantity (from 1, in the order of Table 17.4), the instant from which it has been inside its limit. -/
  alarms : List (Nat × Option Nat) := []
  cals : Vector CalS 4 := Vector.replicate 4 {}
  running : List Act := []
  waiting : List Act := []
  /-- Pad delays of the TPO and of the TCI balls as last measured (R471): each edge and stamp is corrected by them to its ball. -/
  pads : Option (Nat × Nat) := none
  /-- Operating time of the last patrol's start (R473). -/
  patrolAt : Nat := 0
deriving DecidableEq, Repr


/-- Why a step can stop with a fault. No meaning raises one: the spec gives every command an effect (safe). -/
inductive Fault
  /-- Raised by nothing; it closes the type. -/
  | neverRaised
deriving DecidableEq, Repr

/-- Why a command can be refused. -/
inductive Refusal
  /-- Raised by `exec` for a command without a meaning yet (safe: nothing can be proved about it). -/
  | notModelled (mnemonic : String)
deriving DecidableEq, Repr

/-- The whole block: every register, buffer, queue, counter, mode and pin the spec gives one LH9600, and the queue of waiting commands. -/
structure State where
  /-- Commands that wait, first in first out. -/
  pending : List Instr := []
  /-- The time base, 1/16 ns (R26, R62). -/
  now : Nat := 0
  power : Power := .active
  /-- Every register field of the chapters' tables: (key, value), keys rising, no entry equal to its default. -/
  regs : List (Nat × Nat) := []
  /-- A cycle runs; its number; the instant of its boundary (R23). -/
  cycRun : Bool := false
  cyc : Nat := 0
  bnd : Nat := 0
  /-- Operating time in 1/256 s as it stood at `opAt` (R390), and the rate correction in ppm. -/
  opBase : Nat := 0
  opAt : Nat := 0
  opPpm : Int := 0
  /-- Event records on their way to staging, oldest first. -/
  events : List EventRec := []
  /-- What has left the chip, newest last. -/
  outs : List Out := []
  /-- What is recorded "once per roster generation", "once per second" (with the second) and "once per time session". -/
  onceGen : List (Nat × Nat) := []
  onceSec : List (Nat × Nat × Nat) := []
  onceSess : List (Nat × Nat) := []
  /-- Uses of `Config.freeValue`. -/
  free : Nat := 0
  lanes : Vector LaneS 4 := Vector.replicate 4 {}
  inau : InauS := {}
  sched : SchedS := {}
  sync : SyncS := {}
  time : TimeS := {}
  fab : FabS := {}
  msix : MsixS := {}
  glb : GlbS := {}
  twin : TwinS := {}
  img : ImgS := {}
  ports : Vector PortS 4 := Vector.replicate 4 {}
  host : HostS := {}
  cmd : CmdS := {}
  eng : EngS := {}
  prg : PrgS := {}
  recd : RecS := {}
  rest : RestS := {}
  pwr : PwrS := {}
  brdg : BrdgS := {}
  hkp : HkpS := {}
deriving DecidableEq, Repr

/-- The machine right after reset release: every register at its default, no roster, no cycle, lanes DOWN, T_STARTUP running (R105). -/
def State.reset : State := { inau.startupAt := some 32000000 }

end Sys2Proof.Machine
end

