-- ==== Sys2Proof/Machine/Memory.lean ====
section
/-! DEFINITION. Addressed memories in one canonical form: reading and writing bytes, ranges; the process image's areas. -/

namespace Sys2Proof.Machine

/-- The byte at an address: as listed, else 0. -/
def Memory.read : Memory → Nat → Byte
  | [], _ => 0
  | (a, b) :: m, x => if a = x then b else Memory.read m x

/-- The memory without the entry at an address. -/
def Memory.erase : Memory → Nat → Memory
  | [], _ => []
  | (a, b) :: m, x => if a = x then m else (a, b) :: Memory.erase m x

/-- The memory with an entry put in its place by address. -/
def Memory.insert : Memory → Nat → Byte → Memory
  | [], x, v => [(x, v)]
  | (a, b) :: m, x, v =>
    if x < a then (x, v) :: (a, b) :: m else if a = x then (x, v) :: m else (a, b) :: Memory.insert m x v

/-- One byte written; writing 0 removes the entry. -/
def Memory.write (m : Memory) (x : Nat) (v : Byte) : Memory := if v = 0 then m.erase x else m.insert x v

/-- Bytes written from an address on. -/
def Memory.writeAll (m : Memory) (x : Nat) : Bytes → Memory
  | [] => m
  | b :: bs => Memory.writeAll (m.write x b) (x + 1) bs

/-- `n` bytes from an address on. -/
def Memory.readN (m : Memory) (x : Nat) : Nat → Bytes
  | 0 => []
  | n + 1 => m.read x :: Memory.readN m (x + 1) n

/-- `n` bytes from an address on, in one pass. -/
def Memory.bytesFrom : Nat → Nat → Memory → Bytes
  | 0, _, _ => []
  | n + 1, x, (a, b) :: m => if a = x then b :: Memory.bytesFrom n (x + 1) m else 0 :: Memory.bytesFrom n (x + 1) ((a, b) :: m)
  | n + 1, x, [] => 0 :: Memory.bytesFrom n (x + 1) []
def Memory.bytes (m : Memory) (x n : Nat) : Bytes := Memory.bytesFrom n x (m.filter fun c => x ≤ c.1)

/-- The entries of [x, x + n) of `src` in place of those of `dst`. -/
def Memory.copyRange (dst src : Memory) (x n : Nat) : Memory :=
  dst.filter (fun c => c.1 < x) ++ src.filter (fun c => x ≤ c.1 && c.1 < x + n) ++ dst.filter (fun c => x + n ≤ c.1)

/-- The canonical form: addresses strictly rising from `lo` on, no entry equal to 0. -/
def Memory.wfFrom : Nat → Memory → Bool
  | _, [] => true
  | lo, (a, b) :: m => lo ≤ a && b ≠ 0 && Memory.wfFrom (a + 1) m

/-- The canonical form. -/
def Memory.wf (m : Memory) : Bool := Memory.wfFrom 0 m

/-- Size of the process image. -/
def imageSize : Nat := 0x40000

/-- One byte of the process image as publications, telegrams and the host read it: latched inputs, committed outputs (R287, R295). -/
def ImgS.byte (i : ImgS) (o : Nat) : Byte :=
  if o < 0x10000 then i.latched.read o
  else if o < 0x20000 then i.comm.read (o - 0x10000)
  else if o < 0x30000 then i.retained.read (o - 0x20000)
  else i.nonret.read (o - 0x30000)

/-- `n` bytes of the process image, across its areas. -/
def ImgS.read (i : ImgS) (o n : Nat) : Bytes := (List.range n).map fun k => i.byte (o + k)

/-- Bytes written as a subscription delivers them: the receive view of the input area, the retained and the non-retained area (R296). -/
def ImgS.deliver (i : ImgS) (o : Nat) (bs : Bytes) : ImgS :=
  if o < 0x10000 then { i with recv := i.recv.writeAll o bs }
  else if o < 0x20000 then i
  else
    let k := 0x30000 - o
    { i with retained := i.retained.writeAll (o - 0x20000) (bs.take k), nonret := i.nonret.writeAll (o - 0x30000) (bs.drop k) }

/-- A destination of a subscription: inside the input area beyond the system block, or the retained and non-retained areas, which follow each
other (R296). -/
def subRangeOk (o n : Nat) : Bool := (0x140 ≤ o && o + n ≤ 0x10000) || (0x20000 ≤ o && o + n ≤ 0x40000)

end Sys2Proof.Machine
end

