-- ==== Sys2Proof/Machine/Bits.lean ====
section
/-! DEFINITION. Byte-order helpers, bit fields, signed differences, the checksums of R54 and R55, and rounding. -/

namespace Sys2Proof.Machine

/-- The value of a big-endian byte string (R52: multi-byte fields are big-endian). -/
def beNat : Bytes → Nat
  | [] => 0
  | b :: bs => b.toNat * 256 ^ bs.length + beNat bs

/-- `n` bytes that hold `v` big-endian, its low-order part if it is too long. -/
def natBe : Nat → Nat → Bytes
  | 0, _ => []
  | n + 1, v => BitVec.ofNat 8 (v / 256 ^ n) :: natBe n v

/-- The field of `n` bytes at offset `o`. -/
def fieldAt (bs : Bytes) (o n : Nat) : Nat := beNat ((bs.drop o).take n)

/-- Byte `o`; 0 past the end. -/
def byteAt (bs : Bytes) (o : Nat) : Nat := fieldAt bs o 1

/-- Bits `hi` down to `lo` of `v`. -/
def bits (v hi lo : Nat) : Nat := v / 2 ^ lo % 2 ^ (hi + 1 - lo)

/-- Bit `i` of `v`. -/
def bit (v i : Nat) : Bool := v.testBit i

/-- 1 for true. -/
def b2n (b : Bool) : Nat := if b then 1 else 0

/-- `v` as a two's complement number of `w` bits. -/
def signed (w v : Nat) : Int :=
  let u := v % 2 ^ w
  if u < 2 ^ (w - 1) then u else (u : Int) - 2 ^ w

/-- The `w`-bit two's complement code of `x`. -/
def unsigned (w : Nat) (x : Int) : Nat := (x % (2 ^ w : Int)).toNat

/-- Signed 32-bit difference a − b (R23). -/
def sdiff32 (a b : Nat) : Int := signed 32 (a + (2 ^ 32 - b % 2 ^ 32))

/-- Signed 16-bit difference a − b (R75). -/
def sdiff16 (a b : Nat) : Int := signed 16 (a + (2 ^ 16 - b % 2 ^ 16))

/-- `x` held to the range from `lo` to `hi`: "values outside act as the nearer limit". -/
def clampNat (lo hi x : Nat) : Nat := if x < lo then lo else if hi < x then hi else x

/-- `x` held to the range from `lo` to `hi`. -/
def clampInt (lo hi x : Int) : Int := if x < lo then lo else if hi < x then hi else x

/-- Quotient truncated toward zero. -/
def tdivI (a b : Int) : Int := Int.tdiv a b

/-- ⌈a / b⌉. -/
def ceilDiv (a b : Nat) : Nat := if b = 0 then 0 else (a + b - 1) / b

/-- `f n`, with `n` evaluated first: a fold that runs through it stays small when it is evaluated. -/
def strict {α : Type} (n : Nat) (f : Nat → α) : α :=
  match n with
  | 0 => f 0
  | k + 1 => f (k + 1)

/-- One bit of the CRC of R54: polynomial 0x1021, most significant bit first. -/
def crc16Bit (crc : Nat) (d : Bool) : Nat :=
  let top := crc.testBit 15 != d
  let sh := crc * 2 % 65536
  if top then sh ^^^ 0x1021 else sh

/-- HCRC (R54): initial value 0xFFFF, no reflection, no final XOR. -/
def crc16 (bs : Bytes) : Nat :=
  bs.foldl (fun c b => strict c fun c => (List.range 8).foldl (fun c i => strict c fun c => crc16Bit c (b.getLsbD (7 - i))) c) 0xFFFF

/-- One step of the reflected CRC-32. -/
def crc32Step (c : Nat) : Nat := if c % 2 = 1 then (c / 2) ^^^ 0xEDB88320 else c / 2

/-- The CRC-32 value of R55: the IEEE 802.3 frame check sequence. -/
def crc32 (bs : Bytes) : Nat :=
  (bs.foldl (fun c b => strict (c ^^^ b.toNat) fun c => (List.range 8).foldl (fun c _ => strict c crc32Step) c) 0xFFFFFFFF) ^^^ 0xFFFFFFFF

/-- The four FCS bytes in the order in which IEEE 802.3 transmits them: low-order byte first (R55). -/
def fcsBytes (bs : Bytes) : Bytes :=
  let c := crc32 bs
  [BitVec.ofNat 8 c, BitVec.ofNat 8 (c / 256), BitVec.ofNat 8 (c / 65536), BitVec.ofNat 8 (c / 16777216)]

/-- Integer square-free mean: the sum divided by the count, truncated toward zero (R181). -/
def meanT (xs : List Int) : Int := tdivI xs.sum xs.length

/-- Ascending insertion sort of integers. -/
def insertI (x : Int) : List Int → List Int
  | [] => [x]
  | y :: ys => if x ≤ y then x :: y :: ys else y :: insertI x ys

/-- The list in ascending order. -/
def sortI : List Int → List Int
  | [] => []
  | x :: xs => insertI x (sortI xs)

/-- Nanoseconds, microseconds, milliseconds and seconds in the time base's unit of 1/16 ns (R62). -/
def ns (n : Nat) : Nat := n * 16
def us (n : Nat) : Nat := n * 16000
def ms (n : Nat) : Nat := n * 16000000
def sec (n : Nat) : Nat := n * 16000000000

end Sys2Proof.Machine
end

