-- ==== Sys2Proof/Machine/RegMap.lean ====
section
/-! DEFINITION. The register map of BAR0: one descriptor for every field of every register table of the spec
(chapters 02 to 18), with its offset, bits, access code of Table 00.1 and default, and the list of all of them. -/

namespace Sys2Proof.Machine

/-- The access codes of the register tables (R3); `cnt` is a saturating RO counter (R64, R107, R171 and the like). -/
inductive Acc | ro | rw | rwg | w1c | wo | wp | wcp | rwv | cnt
deriving DecidableEq, Repr

/-- One register field: BAR0 byte address of unit 0, lowest bit, width, access, default; `s1`, `n1` are the stride and
count of its units (lanes, consist ports), `s2`, `n2` those of the registers of one name inside a unit. -/
structure Fld where
  addr : Nat
  lo : Nat
  width : Nat
  acc : Acc
  dflt : Nat
  s1 : Nat := 0
  n1 : Nat := 1
  s2 : Nat := 0
  n2 : Nat := 1
deriving DecidableEq, Repr

/-- The default of the field: that of its table, but 1 for WRULE of mode 7 (SCHD_MODEDESC, chapter 05). -/
def Fld.default (f : Fld) : Nat := if f.addr * 32 + f.lo = 0x3005C * 32 + 31 then 1 else f.dflt

/-- The field of unit `i` (lane or consist port `i`). -/
def Fld.at (f : Fld) (i : Nat) : Fld := { f with addr := f.addr + i * f.s1, n1 := 1 }

/-- The field of register `j` of its name (task `j`, ring `j`, unit `j`). -/
def Fld.ix (f : Fld) (j : Nat) : Fld := { f with addr := f.addr + j * f.s2, n2 := 1 }

/-- The key under which the state holds the field. -/
def Fld.key (f : Fld) : Nat := f.addr * 32 + f.lo

namespace Reg

/-- Chapter 02, LANE_CTRL offset 0x000, bit 3. -/
abbrev LANE_CTRL.WAKEEN : Fld := { addr := 0x10000, lo := 3, width := 1, acc := .rw, dflt := 1, s1 := 0x400, n1 := 4 }
/-- Chapter 02, LANE_CTRL offset 0x000, bit 2. -/
abbrev LANE_CTRL.SPREAD : Fld := { addr := 0x10000, lo := 2, width := 1, acc := .rwg, dflt := 0, s1 := 0x400, n1 := 4 }
/-- Chapter 02, LANE_CTRL offset 0x000, bit 1. -/
abbrev LANE_CTRL.RETRAIN : Fld := { addr := 0x10000, lo := 1, width := 1, acc := .wo, dflt := 0, s1 := 0x400, n1 := 4 }
/-- Chapter 02, LANE_CTRL offset 0x000, bit 0. -/
abbrev LANE_CTRL.EN : Fld := { addr := 0x10000, lo := 0, width := 1, acc := .rw, dflt := 1, s1 := 0x400, n1 := 4 }
/-- Chapter 02, LANE_STAT offset 0x004, bit 11. -/
abbrev LANE_STAT.WIGN : Fld := { addr := 0x10004, lo := 11, width := 1, acc := .w1c, dflt := 0, s1 := 0x400, n1 := 4 }
/-- Chapter 02, LANE_STAT offset 0x004, bit 10. -/
abbrev LANE_STAT.PEER_END : Fld := { addr := 0x10004, lo := 10, width := 1, acc := .ro, dflt := 0, s1 := 0x400, n1 := 4 }
/-- Chapter 02, LANE_STAT offset 0x004, bit 9. -/
abbrev LANE_STAT.PEER_LINE : Fld := { addr := 0x10004, lo := 9, width := 1, acc := .ro, dflt := 0, s1 := 0x400, n1 := 4 }
/-- Chapter 02, LANE_STAT offset 0x004, bit 8. -/
abbrev LANE_STAT.PREOPEN : Fld := { addr := 0x10004, lo := 8, width := 1, acc := .ro, dflt := 0, s1 := 0x400, n1 := 4 }
/-- Chapter 02, LANE_STAT offset 0x004, bit 7. -/
abbrev LANE_STAT.RX_EMPTY : Fld := { addr := 0x10004, lo := 7, width := 1, acc := .ro, dflt := 1, s1 := 0x400, n1 := 4 }
/-- Chapter 02, LANE_STAT offset 0x004, bit 6. -/
abbrev LANE_STAT.EQDONE : Fld := { addr := 0x10004, lo := 6, width := 1, acc := .ro, dflt := 0, s1 := 0x400, n1 := 4 }
/-- Chapter 02, LANE_STAT offset 0x004, bit 5. -/
abbrev LANE_STAT.LOCK : Fld := { addr := 0x10004, lo := 5, width := 1, acc := .ro, dflt := 0, s1 := 0x400, n1 := 4 }
/-- Chapter 02, LANE_STAT offset 0x004, bit 4. -/
abbrev LANE_STAT.SIGDET : Fld := { addr := 0x10004, lo := 4, width := 1, acc := .ro, dflt := 0, s1 := 0x400, n1 := 4 }
/-- Chapter 02, LANE_STAT offset 0x004, bits 3:0. -/
abbrev LANE_STAT.STATE : Fld := { addr := 0x10004, lo := 0, width := 4, acc := .ro, dflt := 1, s1 := 0x400, n1 := 4 }
/-- Chapter 02, LANE_TXCFG offset 0x008, bit 9. -/
abbrev LANE_TXCFG.TXPOL : Fld := { addr := 0x10008, lo := 9, width := 1, acc := .rwg, dflt := 0, s1 := 0x400, n1 := 4 }
/-- Chapter 02, LANE_TXCFG offset 0x008, bits 8:7. -/
abbrev LANE_TXCFG.SLEW : Fld := { addr := 0x10008, lo := 7, width := 2, acc := .rwg, dflt := 1, s1 := 0x400, n1 := 4 }
/-- Chapter 02, LANE_TXCFG offset 0x008, bits 6:4. -/
abbrev LANE_TXCFG.DEEMPH : Fld := { addr := 0x10008, lo := 4, width := 3, acc := .rwg, dflt := 3, s1 := 0x400, n1 := 4 }
/-- Chapter 02, LANE_TXCFG offset 0x008, bits 2:0. -/
abbrev LANE_TXCFG.SWING : Fld := { addr := 0x10008, lo := 0, width := 3, acc := .rwg, dflt := 4, s1 := 0x400, n1 := 4 }
/-- Chapter 02, LANE_RXCFG offset 0x00C, bit 7. -/
abbrev LANE_RXCFG.RXPOL : Fld := { addr := 0x1000c, lo := 7, width := 1, acc := .rwg, dflt := 0, s1 := 0x400, n1 := 4 }
/-- Chapter 02, LANE_RXCFG offset 0x00C, bit 6. -/
abbrev LANE_RXCFG.DFE_EN : Fld := { addr := 0x1000c, lo := 6, width := 1, acc := .rwg, dflt := 1, s1 := 0x400, n1 := 4 }
/-- Chapter 02, LANE_RXCFG offset 0x00C, bit 5. -/
abbrev LANE_RXCFG.CTLE_AUTO : Fld := { addr := 0x1000c, lo := 5, width := 1, acc := .rwg, dflt := 1, s1 := 0x400, n1 := 4 }
/-- Chapter 02, LANE_RXCFG offset 0x00C, bits 3:0. -/
abbrev LANE_RXCFG.CTLE : Fld := { addr := 0x1000c, lo := 0, width := 4, acc := .rwg, dflt := 6, s1 := 0x400, n1 := 4 }
/-- Chapter 02, LANE_EQRES offset 0x010, bits 31:28. -/
abbrev LANE_EQRES.CTLE_ACT : Fld := { addr := 0x10010, lo := 28, width := 4, acc := .ro, dflt := 0, s1 := 0x400, n1 := 4 }
/-- Chapter 02, LANE_EQRES offset 0x010, bits 27:20. -/
abbrev LANE_EQRES.DFE1 : Fld := { addr := 0x10010, lo := 20, width := 8, acc := .ro, dflt := 0, s1 := 0x400, n1 := 4 }
/-- Chapter 02, LANE_EQRES offset 0x010, bits 19:12. -/
abbrev LANE_EQRES.DFE2 : Fld := { addr := 0x10010, lo := 12, width := 8, acc := .ro, dflt := 0, s1 := 0x400, n1 := 4 }
/-- Chapter 02, LANE_EQRES offset 0x010, bits 11:4. -/
abbrev LANE_EQRES.DFE3 : Fld := { addr := 0x10010, lo := 4, width := 8, acc := .ro, dflt := 0, s1 := 0x400, n1 := 4 }
/-- Chapter 02, LANE_CREDIT offset 0x014, bits 31:24. -/
abbrev LANE_CREDIT.TXD : Fld := { addr := 0x10014, lo := 24, width := 8, acc := .ro, dflt := 0, s1 := 0x400, n1 := 4 }
/-- Chapter 02, LANE_CREDIT offset 0x014, bits 23:16. -/
abbrev LANE_CREDIT.TXF : Fld := { addr := 0x10014, lo := 16, width := 8, acc := .ro, dflt := 0, s1 := 0x400, n1 := 4 }
/-- Chapter 02, LANE_CREDIT offset 0x014, bits 15:8. -/
abbrev LANE_CREDIT.RXOCC : Fld := { addr := 0x10014, lo := 8, width := 8, acc := .ro, dflt := 0, s1 := 0x400, n1 := 4 }
/-- Chapter 02, LANE_CREDIT offset 0x014, bits 7:0. -/
abbrev LANE_CREDIT.RXA : Fld := { addr := 0x10014, lo := 0, width := 8, acc := .ro, dflt := 0, s1 := 0x400, n1 := 4 }
/-- Chapter 02, LANE_IRQ offset 0x018, bit 5. -/
abbrev LANE_IRQ.WAKE : Fld := { addr := 0x10018, lo := 5, width := 1, acc := .w1c, dflt := 0, s1 := 0x400, n1 := 4 }
/-- Chapter 02, LANE_IRQ offset 0x018, bit 4. -/
abbrev LANE_IRQ.PROTO : Fld := { addr := 0x10018, lo := 4, width := 1, acc := .w1c, dflt := 0, s1 := 0x400, n1 := 4 }
/-- Chapter 02, LANE_IRQ offset 0x018, bit 3. -/
abbrev LANE_IRQ.CRSYNC : Fld := { addr := 0x10018, lo := 3, width := 1, acc := .w1c, dflt := 0, s1 := 0x400, n1 := 4 }
/-- Chapter 02, LANE_IRQ offset 0x018, bit 2. -/
abbrev LANE_IRQ.TRTO : Fld := { addr := 0x10018, lo := 2, width := 1, acc := .w1c, dflt := 0, s1 := 0x400, n1 := 4 }
/-- Chapter 02, LANE_IRQ offset 0x018, bit 1. -/
abbrev LANE_IRQ.DOWN : Fld := { addr := 0x10018, lo := 1, width := 1, acc := .w1c, dflt := 0, s1 := 0x400, n1 := 4 }
/-- Chapter 02, LANE_IRQ offset 0x018, bit 0. -/
abbrev LANE_IRQ.UP : Fld := { addr := 0x10018, lo := 0, width := 1, acc := .w1c, dflt := 0, s1 := 0x400, n1 := 4 }
/-- Chapter 02, LANE_IEN offset 0x01C, bit 5. -/
abbrev LANE_IEN.WAKE : Fld := { addr := 0x1001c, lo := 5, width := 1, acc := .rw, dflt := 0, s1 := 0x400, n1 := 4 }
/-- Chapter 02, LANE_IEN offset 0x01C, bit 4. -/
abbrev LANE_IEN.PROTO : Fld := { addr := 0x1001c, lo := 4, width := 1, acc := .rw, dflt := 0, s1 := 0x400, n1 := 4 }
/-- Chapter 02, LANE_IEN offset 0x01C, bit 3. -/
abbrev LANE_IEN.CRSYNC : Fld := { addr := 0x1001c, lo := 3, width := 1, acc := .rw, dflt := 0, s1 := 0x400, n1 := 4 }
/-- Chapter 02, LANE_IEN offset 0x01C, bit 2. -/
abbrev LANE_IEN.TRTO : Fld := { addr := 0x1001c, lo := 2, width := 1, acc := .rw, dflt := 0, s1 := 0x400, n1 := 4 }
/-- Chapter 02, LANE_IEN offset 0x01C, bit 1. -/
abbrev LANE_IEN.DOWN : Fld := { addr := 0x1001c, lo := 1, width := 1, acc := .rw, dflt := 0, s1 := 0x400, n1 := 4 }
/-- Chapter 02, LANE_IEN offset 0x01C, bit 0. -/
abbrev LANE_IEN.UP : Fld := { addr := 0x1001c, lo := 0, width := 1, acc := .rw, dflt := 0, s1 := 0x400, n1 := 4 }
/-- Chapter 02, LANE_RXGOOD offset 0x040, bits 31:0. -/
abbrev LANE_RXGOOD.COUNT : Fld := { addr := 0x10040, lo := 0, width := 32, acc := .cnt, dflt := 0, s1 := 0x400, n1 := 4 }
/-- Chapter 02, LANE_RUNT offset 0x044, bits 31:0. -/
abbrev LANE_RUNT.COUNT : Fld := { addr := 0x10044, lo := 0, width := 32, acc := .cnt, dflt := 0, s1 := 0x400, n1 := 4 }
/-- Chapter 02, LANE_GIANT offset 0x048, bits 31:0. -/
abbrev LANE_GIANT.COUNT : Fld := { addr := 0x10048, lo := 0, width := 32, acc := .cnt, dflt := 0, s1 := 0x400, n1 := 4 }
/-- Chapter 02, LANE_HCRC offset 0x04C, bits 31:0. -/
abbrev LANE_HCRC.COUNT : Fld := { addr := 0x1004c, lo := 0, width := 32, acc := .cnt, dflt := 0, s1 := 0x400, n1 := 4 }
/-- Chapter 02, LANE_HDRERR offset 0x050, bits 31:0. -/
abbrev LANE_HDRERR.COUNT : Fld := { addr := 0x10050, lo := 0, width := 32, acc := .cnt, dflt := 0, s1 := 0x400, n1 := 4 }
/-- Chapter 02, LANE_LENERR offset 0x054, bits 31:0. -/
abbrev LANE_LENERR.COUNT : Fld := { addr := 0x10054, lo := 0, width := 32, acc := .cnt, dflt := 0, s1 := 0x400, n1 := 4 }
/-- Chapter 02, LANE_CRC offset 0x058, bits 31:0. -/
abbrev LANE_CRC.COUNT : Fld := { addr := 0x10058, lo := 0, width := 32, acc := .cnt, dflt := 0, s1 := 0x400, n1 := 4 }
/-- Chapter 02, LANE_EBIN offset 0x05C, bits 31:0. -/
abbrev LANE_EBIN.COUNT : Fld := { addr := 0x1005c, lo := 0, width := 32, acc := .cnt, dflt := 0, s1 := 0x400, n1 := 4 }
/-- Chapter 02, LANE_CODEERR offset 0x060, bits 31:0. -/
abbrev LANE_CODEERR.COUNT : Fld := { addr := 0x10060, lo := 0, width := 32, acc := .cnt, dflt := 0, s1 := 0x400, n1 := 4 }
/-- Chapter 02, LANE_CRBAD offset 0x064, bits 31:0. -/
abbrev LANE_CRBAD.COUNT : Fld := { addr := 0x10064, lo := 0, width := 32, acc := .cnt, dflt := 0, s1 := 0x400, n1 := 4 }
/-- Chapter 02, LANE_CRSYNC offset 0x068, bits 31:0. -/
abbrev LANE_CRSYNC.COUNT : Fld := { addr := 0x10068, lo := 0, width := 32, acc := .cnt, dflt := 0, s1 := 0x400, n1 := 4 }
/-- Chapter 02, LANE_PROTO offset 0x06C, bits 31:0. -/
abbrev LANE_PROTO.COUNT : Fld := { addr := 0x1006c, lo := 0, width := 32, acc := .cnt, dflt := 0, s1 := 0x400, n1 := 4 }
/-- Chapter 02, LANE_RETRAIN offset 0x070, bits 31:0. -/
abbrev LANE_RETRAIN.COUNT : Fld := { addr := 0x10070, lo := 0, width := 32, acc := .cnt, dflt := 0, s1 := 0x400, n1 := 4 }
/-- Chapter 02, LANE_TRTO offset 0x074, bits 31:0. -/
abbrev LANE_TRTO.COUNT : Fld := { addr := 0x10074, lo := 0, width := 32, acc := .cnt, dflt := 0, s1 := 0x400, n1 := 4 }
/-- Chapter 02, LANE_ABORT offset 0x078, bits 31:0. -/
abbrev LANE_ABORT.COUNT : Fld := { addr := 0x10078, lo := 0, width := 32, acc := .cnt, dflt := 0, s1 := 0x400, n1 := 4 }
/-- Chapter 02, LANE_LINEMM offset 0x080, bits 31:0. -/
abbrev LANE_LINEMM.COUNT : Fld := { addr := 0x10080, lo := 0, width := 32, acc := .cnt, dflt := 0, s1 := 0x400, n1 := 4 }
/-- Chapter 02, LANE_WAKE offset 0x084, bits 31:0. -/
abbrev LANE_WAKE.COUNT : Fld := { addr := 0x10084, lo := 0, width := 32, acc := .cnt, dflt := 0, s1 := 0x400, n1 := 4 }
/-- Chapter 03, INAU_CTRL offset 0x000, bit 6. -/
abbrev INAU_CTRL.LEADMASK : Fld := { addr := 0x20000, lo := 6, width := 1, acc := .rw, dflt := 0 }
/-- Chapter 03, INAU_CTRL offset 0x000, bit 5. -/
abbrev INAU_CTRL.LEADEND : Fld := { addr := 0x20000, lo := 5, width := 1, acc := .rw, dflt := 0 }
/-- Chapter 03, INAU_CTRL offset 0x000, bit 4. -/
abbrev INAU_CTRL.LHCAND : Fld := { addr := 0x20000, lo := 4, width := 1, acc := .rw, dflt := 0 }
/-- Chapter 03, INAU_CTRL offset 0x000, bit 3. -/
abbrev INAU_CTRL.SYNCCAP : Fld := { addr := 0x20000, lo := 3, width := 1, acc := .rw, dflt := 0 }
/-- Chapter 03, INAU_CTRL offset 0x000, bit 2. -/
abbrev INAU_CTRL.STICKY : Fld := { addr := 0x20000, lo := 2, width := 1, acc := .rw, dflt := 0 }
/-- Chapter 03, INAU_CTRL offset 0x000, bit 1. -/
abbrev INAU_CTRL.REINAU : Fld := { addr := 0x20000, lo := 1, width := 1, acc := .wo, dflt := 0 }
/-- Chapter 03, INAU_CTRL offset 0x000, bit 0. -/
abbrev INAU_CTRL.EN : Fld := { addr := 0x20000, lo := 0, width := 1, acc := .rw, dflt := 1 }
/-- Chapter 03, INAU_STAT offset 0x004, bit 14. -/
abbrev INAU_STAT.DAYCORR : Fld := { addr := 0x20004, lo := 14, width := 1, acc := .ro, dflt := 0 }
/-- Chapter 03, INAU_STAT offset 0x004, bit 13. -/
abbrev INAU_STAT.LEADIN : Fld := { addr := 0x20004, lo := 13, width := 1, acc := .ro, dflt := 0 }
/-- Chapter 03, INAU_STAT offset 0x004, bit 12. -/
abbrev INAU_STAT.EXCL : Fld := { addr := 0x20004, lo := 12, width := 1, acc := .ro, dflt := 0 }
/-- Chapter 03, INAU_STAT offset 0x004, bit 11. -/
abbrev INAU_STAT.NOTADM : Fld := { addr := 0x20004, lo := 11, width := 1, acc := .ro, dflt := 0 }
/-- Chapter 03, INAU_STAT offset 0x004, bit 10. -/
abbrev INAU_STAT.NOAGREE : Fld := { addr := 0x20004, lo := 10, width := 1, acc := .ro, dflt := 0 }
/-- Chapter 03, INAU_STAT offset 0x004, bit 9. -/
abbrev INAU_STAT.LEADCONF : Fld := { addr := 0x20004, lo := 9, width := 1, acc := .ro, dflt := 0 }
/-- Chapter 03, INAU_STAT offset 0x004, bit 8. -/
abbrev INAU_STAT.MODEMM : Fld := { addr := 0x20004, lo := 8, width := 1, acc := .ro, dflt := 0 }
/-- Chapter 03, INAU_STAT offset 0x004, bit 7. -/
abbrev INAU_STAT.MODE : Fld := { addr := 0x20004, lo := 7, width := 1, acc := .ro, dflt := 0 }
/-- Chapter 03, INAU_STAT offset 0x004, bit 6. -/
abbrev INAU_STAT.ORIENT : Fld := { addr := 0x20004, lo := 6, width := 1, acc := .ro, dflt := 0 }
/-- Chapter 03, INAU_STAT offset 0x004, bit 5. -/
abbrev INAU_STAT.LOOP : Fld := { addr := 0x20004, lo := 5, width := 1, acc := .ro, dflt := 0 }
/-- Chapter 03, INAU_STAT offset 0x004, bit 4. -/
abbrev INAU_STAT.INFORCE : Fld := { addr := 0x20004, lo := 4, width := 1, acc := .ro, dflt := 0 }
/-- Chapter 03, INAU_STAT offset 0x004, bits 3:0. -/
abbrev INAU_STAT.STATE : Fld := { addr := 0x20004, lo := 0, width := 4, acc := .ro, dflt := 1 }
/-- Chapter 03, INAU_POS offset 0x008, bits 31:16. -/
abbrev INAU_POS.NPOS : Fld := { addr := 0x20008, lo := 16, width := 16, acc := .ro, dflt := 0 }
/-- Chapter 03, INAU_POS offset 0x008, bits 15:0. -/
abbrev INAU_POS.POS : Fld := { addr := 0x20008, lo := 0, width := 16, acc := .ro, dflt := 0 }
/-- Chapter 03, INAU_ROLE offset 0x00C, bits 31:16. -/
abbrev INAU_ROLE.LEADER : Fld := { addr := 0x2000c, lo := 16, width := 16, acc := .ro, dflt := 0 }
/-- Chapter 03, INAU_ROLE offset 0x00C, bits 15:0. -/
abbrev INAU_ROLE.TIMEREF : Fld := { addr := 0x2000c, lo := 0, width := 16, acc := .ro, dflt := 0 }
/-- Chapter 03, INAU_LOOP offset 0x010, bits 31:16. -/
abbrev INAU_LOOP.LOOPHEAD : Fld := { addr := 0x20010, lo := 16, width := 16, acc := .ro, dflt := 0 }
/-- Chapter 03, INAU_LOOP offset 0x010, bits 15:0. -/
abbrev INAU_LOOP.NEXCL : Fld := { addr := 0x20010, lo := 0, width := 16, acc := .ro, dflt := 0 }
/-- Chapter 03, INAU_GEN offset 0x014, bits 31:16. -/
abbrev INAU_GEN.GEN : Fld := { addr := 0x20014, lo := 16, width := 16, acc := .ro, dflt := 0 }
/-- Chapter 03, INAU_GEN offset 0x014, bits 15:0. -/
abbrev INAU_GEN.RND : Fld := { addr := 0x20014, lo := 0, width := 16, acc := .ro, dflt := 0 }
/-- Chapter 03, INAU_SUM offset 0x018, bits 31:0. -/
abbrev INAU_SUM.SUM : Fld := { addr := 0x20018, lo := 0, width := 32, acc := .ro, dflt := 0 }
/-- Chapter 03, INAU_NOON offset 0x01C, bits 31:0. -/
abbrev INAU_NOON.NOON : Fld := { addr := 0x2001c, lo := 0, width := 32, acc := .ro, dflt := 0 }
/-- Chapter 03, INAU_ITEM offset 0x020, bits 31:16. -/
abbrev INAU_ITEM.VEHNUM : Fld := { addr := 0x20020, lo := 16, width := 16, acc := .rw, dflt := 0 }
/-- Chapter 03, INAU_ITEM offset 0x020, bits 15:0. -/
abbrev INAU_ITEM.BUDGET : Fld := { addr := 0x20020, lo := 0, width := 16, acc := .rw, dflt := 4 }
/-- Chapter 03, INAU_TMR offset 0x024, bits 31:24. -/
abbrev INAU_TMR.STARTUP : Fld := { addr := 0x20024, lo := 24, width := 8, acc := .rw, dflt := 20 }
/-- Chapter 03, INAU_TMR offset 0x024, bits 23:16. -/
abbrev INAU_TMR.WAVETO : Fld := { addr := 0x20024, lo := 16, width := 8, acc := .rw, dflt := 20 }
/-- Chapter 03, INAU_TMR offset 0x024, bits 15:0. -/
abbrev INAU_TMR.SETTLE : Fld := { addr := 0x20024, lo := 0, width := 16, acc := .rw, dflt := 200 }
/-- Chapter 03, INAU_IRQ offset 0x028, bit 7. -/
abbrev INAU_IRQ.NOTADM : Fld := { addr := 0x20028, lo := 7, width := 1, acc := .w1c, dflt := 0 }
/-- Chapter 03, INAU_IRQ offset 0x028, bit 6. -/
abbrev INAU_IRQ.LEAD : Fld := { addr := 0x20028, lo := 6, width := 1, acc := .w1c, dflt := 0 }
/-- Chapter 03, INAU_IRQ offset 0x028, bit 5. -/
abbrev INAU_IRQ.MODEMM : Fld := { addr := 0x20028, lo := 5, width := 1, acc := .w1c, dflt := 0 }
/-- Chapter 03, INAU_IRQ offset 0x028, bit 4. -/
abbrev INAU_IRQ.NOAGREE : Fld := { addr := 0x20028, lo := 4, width := 1, acc := .w1c, dflt := 0 }
/-- Chapter 03, INAU_IRQ offset 0x028, bit 3. -/
abbrev INAU_IRQ.DISAG : Fld := { addr := 0x20028, lo := 3, width := 1, acc := .w1c, dflt := 0 }
/-- Chapter 03, INAU_IRQ offset 0x028, bit 2. -/
abbrev INAU_IRQ.COMMIT : Fld := { addr := 0x20028, lo := 2, width := 1, acc := .w1c, dflt := 0 }
/-- Chapter 03, INAU_IRQ offset 0x028, bit 1. -/
abbrev INAU_IRQ.PENDING : Fld := { addr := 0x20028, lo := 1, width := 1, acc := .w1c, dflt := 0 }
/-- Chapter 03, INAU_IRQ offset 0x028, bit 0. -/
abbrev INAU_IRQ.ROUND : Fld := { addr := 0x20028, lo := 0, width := 1, acc := .w1c, dflt := 0 }
/-- Chapter 03, INAU_IEN offset 0x02C, bit 7. -/
abbrev INAU_IEN.NOTADM : Fld := { addr := 0x2002c, lo := 7, width := 1, acc := .rw, dflt := 0 }
/-- Chapter 03, INAU_IEN offset 0x02C, bit 6. -/
abbrev INAU_IEN.LEAD : Fld := { addr := 0x2002c, lo := 6, width := 1, acc := .rw, dflt := 0 }
/-- Chapter 03, INAU_IEN offset 0x02C, bit 5. -/
abbrev INAU_IEN.MODEMM : Fld := { addr := 0x2002c, lo := 5, width := 1, acc := .rw, dflt := 0 }
/-- Chapter 03, INAU_IEN offset 0x02C, bit 4. -/
abbrev INAU_IEN.NOAGREE : Fld := { addr := 0x2002c, lo := 4, width := 1, acc := .rw, dflt := 0 }
/-- Chapter 03, INAU_IEN offset 0x02C, bit 3. -/
abbrev INAU_IEN.DISAG : Fld := { addr := 0x2002c, lo := 3, width := 1, acc := .rw, dflt := 0 }
/-- Chapter 03, INAU_IEN offset 0x02C, bit 2. -/
abbrev INAU_IEN.COMMIT : Fld := { addr := 0x2002c, lo := 2, width := 1, acc := .rw, dflt := 0 }
/-- Chapter 03, INAU_IEN offset 0x02C, bit 1. -/
abbrev INAU_IEN.PENDING : Fld := { addr := 0x2002c, lo := 1, width := 1, acc := .rw, dflt := 0 }
/-- Chapter 03, INAU_IEN offset 0x02C, bit 0. -/
abbrev INAU_IEN.ROUND : Fld := { addr := 0x2002c, lo := 0, width := 1, acc := .rw, dflt := 0 }
/-- Chapter 03, INAU_ROUNDS offset 0x060, bits 31:0. -/
abbrev INAU_ROUNDS.COUNT : Fld := { addr := 0x20060, lo := 0, width := 32, acc := .cnt, dflt := 0 }
/-- Chapter 03, INAU_STARTED offset 0x064, bits 31:0. -/
abbrev INAU_STARTED.COUNT : Fld := { addr := 0x20064, lo := 0, width := 32, acc := .cnt, dflt := 0 }
/-- Chapter 03, INAU_STALE offset 0x068, bits 31:0. -/
abbrev INAU_STALE.COUNT : Fld := { addr := 0x20068, lo := 0, width := 32, acc := .cnt, dflt := 0 }
/-- Chapter 03, INAU_DISAG offset 0x06C, bits 31:0. -/
abbrev INAU_DISAG.COUNT : Fld := { addr := 0x2006c, lo := 0, width := 32, acc := .cnt, dflt := 0 }
/-- Chapter 03, INAU_WAVETO offset 0x070, bits 31:0. -/
abbrev INAU_WAVETO.COUNT : Fld := { addr := 0x20070, lo := 0, width := 32, acc := .cnt, dflt := 0 }
/-- Chapter 03, INAU_PROBETO offset 0x074, bits 31:0. -/
abbrev INAU_PROBETO.COUNT : Fld := { addr := 0x20074, lo := 0, width := 32, acc := .cnt, dflt := 0 }
/-- Chapter 03, INAU_COMMITS offset 0x078, bits 31:0. -/
abbrev INAU_COMMITS.COUNT : Fld := { addr := 0x20078, lo := 0, width := 32, acc := .cnt, dflt := 0 }
/-- Chapter 05, SCHD_CTRL offset 0x000, bit 0. -/
abbrev SCHD_CTRL.EN : Fld := { addr := 0x30000, lo := 0, width := 1, acc := .rw, dflt := 1 }
/-- Chapter 05, SCHD_STAT offset 0x004, bit 14. -/
abbrev SCHD_STAT.WIGN : Fld := { addr := 0x30004, lo := 14, width := 1, acc := .w1c, dflt := 0 }
/-- Chapter 05, SCHD_STAT offset 0x004, bit 13. -/
abbrev SCHD_STAT.HOPLONG : Fld := { addr := 0x30004, lo := 13, width := 1, acc := .ro, dflt := 0 }
/-- Chapter 05, SCHD_STAT offset 0x004, bit 12. -/
abbrev SCHD_STAT.PUBOVER : Fld := { addr := 0x30004, lo := 12, width := 1, acc := .ro, dflt := 0 }
/-- Chapter 05, SCHD_STAT offset 0x004, bit 11. -/
abbrev SCHD_STAT.NOFIT : Fld := { addr := 0x30004, lo := 11, width := 1, acc := .ro, dflt := 0 }
/-- Chapter 05, SCHD_STAT offset 0x004, bit 10. -/
abbrev SCHD_STAT.MARGIN : Fld := { addr := 0x30004, lo := 10, width := 1, acc := .ro, dflt := 0 }
/-- Chapter 05, SCHD_STAT offset 0x004, bit 9. -/
abbrev SCHD_STAT.OOP : Fld := { addr := 0x30004, lo := 9, width := 1, acc := .ro, dflt := 0 }
/-- Chapter 05, SCHD_STAT offset 0x004, bit 8. -/
abbrev SCHD_STAT.SILENT : Fld := { addr := 0x30004, lo := 8, width := 1, acc := .ro, dflt := 0 }
/-- Chapter 05, SCHD_STAT offset 0x004, bit 7. -/
abbrev SCHD_STAT.INFORCE : Fld := { addr := 0x30004, lo := 7, width := 1, acc := .ro, dflt := 0 }
/-- Chapter 05, SCHD_STAT offset 0x004, bits 6:4. -/
abbrev SCHD_STAT.PENDMODE : Fld := { addr := 0x30004, lo := 4, width := 3, acc := .ro, dflt := 0 }
/-- Chapter 05, SCHD_STAT offset 0x004, bit 3. -/
abbrev SCHD_STAT.PENDV : Fld := { addr := 0x30004, lo := 3, width := 1, acc := .ro, dflt := 0 }
/-- Chapter 05, SCHD_STAT offset 0x004, bits 2:0. -/
abbrev SCHD_STAT.MODE : Fld := { addr := 0x30004, lo := 0, width := 3, acc := .ro, dflt := 0 }
/-- Chapter 05, SCHD_CFG offset 0x008, bits 30:24. -/
abbrev SCHD_CFG.CYCLE : Fld := { addr := 0x30008, lo := 24, width := 7, acc := .rwg, dflt := 4 }
/-- Chapter 05, SCHD_CFG offset 0x008, bits 10:0. -/
abbrev SCHD_CFG.GUARD : Fld := { addr := 0x30008, lo := 0, width := 11, acc := .rwg, dflt := 200 }
/-- Chapter 05, SCHD_SELF offset 0x00C, bits 26:16. -/
abbrev SCHD_SELF.SEQ : Fld := { addr := 0x3000c, lo := 16, width := 11, acc := .ro, dflt := 0 }
/-- Chapter 05, SCHD_SELF offset 0x00C, bits 12:0. -/
abbrev SCHD_SELF.BEFF : Fld := { addr := 0x3000c, lo := 0, width := 13, acc := .ro, dflt := 0 }
/-- Chapter 05, SCHD_SPAN offset 0x01C, bits 31:0. -/
abbrev SCHD_SPAN.SPAN : Fld := { addr := 0x3001c, lo := 0, width := 32, acc := .ro, dflt := 0 }
/-- Chapter 05, SCHD_FIT offset 0x020, bits 31:24. -/
abbrev SCHD_FIT.TMIN : Fld := { addr := 0x30020, lo := 24, width := 8, acc := .ro, dflt := 0 }
/-- Chapter 05, SCHD_FIT offset 0x020, bits 21:11. -/
abbrev SCHD_FIT.NWIN : Fld := { addr := 0x30020, lo := 11, width := 11, acc := .ro, dflt := 0 }
/-- Chapter 05, SCHD_FIT offset 0x020, bits 10:0. -/
abbrev SCHD_FIT.NCUT : Fld := { addr := 0x30020, lo := 0, width := 11, acc := .ro, dflt := 0 }
/-- Chapter 05, SCHD_MODEREQ offset 0x024, bit 31. -/
abbrev SCHD_MODEREQ.GO : Fld := { addr := 0x30024, lo := 31, width := 1, acc := .wo, dflt := 0 }
/-- Chapter 05, SCHD_MODEREQ offset 0x024, bits 17:16. -/
abbrev SCHD_MODEREQ.MRSTAT : Fld := { addr := 0x30024, lo := 16, width := 2, acc := .ro, dflt := 0 }
/-- Chapter 05, SCHD_MODEREQ offset 0x024, bits 2:0. -/
abbrev SCHD_MODEREQ.MODE : Fld := { addr := 0x30024, lo := 0, width := 3, acc := .rw, dflt := 0 }
/-- Chapter 05, SCHD_IRQ offset 0x028, bit 8. -/
abbrev SCHD_IRQ.GATE : Fld := { addr := 0x30028, lo := 8, width := 1, acc := .w1c, dflt := 0 }
/-- Chapter 05, SCHD_IRQ offset 0x028, bit 7. -/
abbrev SCHD_IRQ.HOPLONG : Fld := { addr := 0x30028, lo := 7, width := 1, acc := .w1c, dflt := 0 }
/-- Chapter 05, SCHD_IRQ offset 0x028, bit 6. -/
abbrev SCHD_IRQ.SUBSTALE : Fld := { addr := 0x30028, lo := 6, width := 1, acc := .w1c, dflt := 0 }
/-- Chapter 05, SCHD_IRQ offset 0x028, bit 5. -/
abbrev SCHD_IRQ.PUBSKIP : Fld := { addr := 0x30028, lo := 5, width := 1, acc := .w1c, dflt := 0 }
/-- Chapter 05, SCHD_IRQ offset 0x028, bit 4. -/
abbrev SCHD_IRQ.NOFIT : Fld := { addr := 0x30028, lo := 4, width := 1, acc := .w1c, dflt := 0 }
/-- Chapter 05, SCHD_IRQ offset 0x028, bit 3. -/
abbrev SCHD_IRQ.MODEREF : Fld := { addr := 0x30028, lo := 3, width := 1, acc := .w1c, dflt := 0 }
/-- Chapter 05, SCHD_IRQ offset 0x028, bit 2. -/
abbrev SCHD_IRQ.MODESW : Fld := { addr := 0x30028, lo := 2, width := 1, acc := .w1c, dflt := 0 }
/-- Chapter 05, SCHD_IRQ offset 0x028, bit 1. -/
abbrev SCHD_IRQ.SILENT : Fld := { addr := 0x30028, lo := 1, width := 1, acc := .w1c, dflt := 0 }
/-- Chapter 05, SCHD_IRQ offset 0x028, bit 0. -/
abbrev SCHD_IRQ.POLICE : Fld := { addr := 0x30028, lo := 0, width := 1, acc := .w1c, dflt := 0 }
/-- Chapter 05, SCHD_IEN offset 0x02C, bit 8. -/
abbrev SCHD_IEN.GATE : Fld := { addr := 0x3002c, lo := 8, width := 1, acc := .rw, dflt := 0 }
/-- Chapter 05, SCHD_IEN offset 0x02C, bit 7. -/
abbrev SCHD_IEN.HOPLONG : Fld := { addr := 0x3002c, lo := 7, width := 1, acc := .rw, dflt := 0 }
/-- Chapter 05, SCHD_IEN offset 0x02C, bit 6. -/
abbrev SCHD_IEN.SUBSTALE : Fld := { addr := 0x3002c, lo := 6, width := 1, acc := .rw, dflt := 0 }
/-- Chapter 05, SCHD_IEN offset 0x02C, bit 5. -/
abbrev SCHD_IEN.PUBSKIP : Fld := { addr := 0x3002c, lo := 5, width := 1, acc := .rw, dflt := 0 }
/-- Chapter 05, SCHD_IEN offset 0x02C, bit 4. -/
abbrev SCHD_IEN.NOFIT : Fld := { addr := 0x3002c, lo := 4, width := 1, acc := .rw, dflt := 0 }
/-- Chapter 05, SCHD_IEN offset 0x02C, bit 3. -/
abbrev SCHD_IEN.MODEREF : Fld := { addr := 0x3002c, lo := 3, width := 1, acc := .rw, dflt := 0 }
/-- Chapter 05, SCHD_IEN offset 0x02C, bit 2. -/
abbrev SCHD_IEN.MODESW : Fld := { addr := 0x3002c, lo := 2, width := 1, acc := .rw, dflt := 0 }
/-- Chapter 05, SCHD_IEN offset 0x02C, bit 1. -/
abbrev SCHD_IEN.SILENT : Fld := { addr := 0x3002c, lo := 1, width := 1, acc := .rw, dflt := 0 }
/-- Chapter 05, SCHD_IEN offset 0x02C, bit 0. -/
abbrev SCHD_IEN.POLICE : Fld := { addr := 0x3002c, lo := 0, width := 1, acc := .rw, dflt := 0 }
/-- Chapter 05, SCHD_LASTPOL offset 0x030, bit 31. -/
abbrev SCHD_LASTPOL.LATE : Fld := { addr := 0x30030, lo := 31, width := 1, acc := .ro, dflt := 0 }
/-- Chapter 05, SCHD_LASTPOL offset 0x030, bit 30. -/
abbrev SCHD_LASTPOL.LATER : Fld := { addr := 0x30030, lo := 30, width := 1, acc := .ro, dflt := 0 }
/-- Chapter 05, SCHD_LASTPOL offset 0x030, bits 29:28. -/
abbrev SCHD_LASTPOL.LANE : Fld := { addr := 0x30030, lo := 28, width := 2, acc := .ro, dflt := 0 }
/-- Chapter 05, SCHD_LASTPOL offset 0x030, bits 15:0. -/
abbrev SCHD_LASTPOL.SRC : Fld := { addr := 0x30030, lo := 0, width := 16, acc := .ro, dflt := 0 }
/-- Chapter 05, SCHD_POLEARLY offset 0x0A0, bits 31:0. -/
abbrev SCHD_POLEARLY.COUNT : Fld := { addr := 0x300a0, lo := 0, width := 32, acc := .cnt, dflt := 0 }
/-- Chapter 05, SCHD_POLLATE offset 0x0A4, bits 31:0. -/
abbrev SCHD_POLLATE.COUNT : Fld := { addr := 0x300a4, lo := 0, width := 32, acc := .cnt, dflt := 0 }
/-- Chapter 05, SCHD_NOWIN offset 0x0A8, bits 31:0. -/
abbrev SCHD_NOWIN.COUNT : Fld := { addr := 0x300a8, lo := 0, width := 32, acc := .cnt, dflt := 0 }
/-- Chapter 05, SCHD_NOCORR offset 0x0AC, bits 31:0. -/
abbrev SCHD_NOCORR.COUNT : Fld := { addr := 0x300ac, lo := 0, width := 32, acc := .cnt, dflt := 0 }
/-- Chapter 05, SCHD_STALE offset 0x0B0, bits 31:0. -/
abbrev SCHD_STALE.COUNT : Fld := { addr := 0x300b0, lo := 0, width := 32, acc := .cnt, dflt := 0 }
/-- Chapter 05, SCHD_SILENT offset 0x0B4, bits 31:0. -/
abbrev SCHD_SILENT.COUNT : Fld := { addr := 0x300b4, lo := 0, width := 32, acc := .cnt, dflt := 0 }
/-- Chapter 05, SCHD_GATE offset 0x0B8, bits 31:0. -/
abbrev SCHD_GATE.COUNT : Fld := { addr := 0x300b8, lo := 0, width := 32, acc := .cnt, dflt := 0 }
/-- Chapter 05, SCHD_PUBSKIP offset 0x0BC, bits 31:0. -/
abbrev SCHD_PUBSKIP.COUNT : Fld := { addr := 0x300bc, lo := 0, width := 32, acc := .cnt, dflt := 0 }
/-- Chapter 05, SCHD_SUBLEN offset 0x0C0, bits 31:0. -/
abbrev SCHD_SUBLEN.COUNT : Fld := { addr := 0x300c0, lo := 0, width := 32, acc := .cnt, dflt := 0 }
/-- Chapter 05, SCHD_SUBSTALE offset 0x0C4, bits 31:0. -/
abbrev SCHD_SUBSTALE.COUNT : Fld := { addr := 0x300c4, lo := 0, width := 32, acc := .cnt, dflt := 0 }
/-- Chapter 06, SYNC_CTRL offset 0x000, bit 2. -/
abbrev SYNC_CTRL.WCLR : Fld := { addr := 0x40000, lo := 2, width := 1, acc := .wo, dflt := 0 }
/-- Chapter 06, SYNC_CTRL offset 0x000, bit 1. -/
abbrev SYNC_CTRL.RATEHOLD : Fld := { addr := 0x40000, lo := 1, width := 1, acc := .rw, dflt := 0 }
/-- Chapter 06, SYNC_CTRL offset 0x000, bit 0. -/
abbrev SYNC_CTRL.EN : Fld := { addr := 0x40000, lo := 0, width := 1, acc := .rw, dflt := 1 }
/-- Chapter 06, SYNC_STAT offset 0x004, bits 15:12. -/
abbrev SYNC_STAT.NKEPT : Fld := { addr := 0x40004, lo := 12, width := 4, acc := .ro, dflt := 0 }
/-- Chapter 06, SYNC_STAT offset 0x004, bits 11:8. -/
abbrev SYNC_STAT.NVAL : Fld := { addr := 0x40004, lo := 8, width := 4, acc := .ro, dflt := 0 }
/-- Chapter 06, SYNC_STAT offset 0x004, bit 7. -/
abbrev SYNC_STAT.WIGN : Fld := { addr := 0x40004, lo := 7, width := 1, acc := .w1c, dflt := 0 }
/-- Chapter 06, SYNC_STAT offset 0x004, bit 6. -/
abbrev SYNC_STAT.PDMISM : Fld := { addr := 0x40004, lo := 6, width := 1, acc := .ro, dflt := 0 }
/-- Chapter 06, SYNC_STAT offset 0x004, bit 5. -/
abbrev SYNC_STAT.RCLAMP : Fld := { addr := 0x40004, lo := 5, width := 1, acc := .ro, dflt := 0 }
/-- Chapter 06, SYNC_STAT offset 0x004, bit 4. -/
abbrev SYNC_STAT.MEMBER : Fld := { addr := 0x40004, lo := 4, width := 1, acc := .ro, dflt := 0 }
/-- Chapter 06, SYNC_STAT offset 0x004, bit 3. -/
abbrev SYNC_STAT.OOP : Fld := { addr := 0x40004, lo := 3, width := 1, acc := .ro, dflt := 0 }
/-- Chapter 06, SYNC_STAT offset 0x004, bits 2:0. -/
abbrev SYNC_STAT.STATE : Fld := { addr := 0x40004, lo := 0, width := 3, acc := .ro, dflt := 0 }
/-- Chapter 06, SYNC_CFG offset 0x008, bits 31:24. -/
abbrev SYNC_CFG.HOLDMAX : Fld := { addr := 0x40008, lo := 24, width := 8, acc := .rw, dflt := 64 }
/-- Chapter 06, SYNC_CFG offset 0x008, bits 18:16. -/
abbrev SYNC_CFG.RINTV : Fld := { addr := 0x40008, lo := 16, width := 3, acc := .rw, dflt := 3 }
/-- Chapter 06, SYNC_CFG offset 0x008, bits 13:0. -/
abbrev SYNC_CFG.PI : Fld := { addr := 0x40008, lo := 0, width := 14, acc := .rw, dflt := 400 }
/-- Chapter 06, SYNC_WORST offset 0x018, bits 31:16. -/
abbrev SYNC_WORST.PEAK : Fld := { addr := 0x40018, lo := 16, width := 16, acc := .ro, dflt := 0 }
/-- Chapter 06, SYNC_WORST offset 0x018, bits 15:0. -/
abbrev SYNC_WORST.LAST : Fld := { addr := 0x40018, lo := 0, width := 16, acc := .ro, dflt := 0 }
/-- Chapter 06, SYNC_SETINFO offset 0x01C, bits 31:16. -/
abbrev SYNC_SETINFO.HOLDCNT : Fld := { addr := 0x4001c, lo := 16, width := 16, acc := .ro, dflt := 0 }
/-- Chapter 06, SYNC_SETINFO offset 0x01C, bits 7:4. -/
abbrev SYNC_SETINFO.SELFIDX : Fld := { addr := 0x4001c, lo := 4, width := 4, acc := .ro, dflt := 15 }
/-- Chapter 06, SYNC_SETINFO offset 0x01C, bits 3:0. -/
abbrev SYNC_SETINFO.NSET : Fld := { addr := 0x4001c, lo := 0, width := 4, acc := .ro, dflt := 0 }
/-- Chapter 06, SYNC_IRQ offset 0x0A0, bit 5. -/
abbrev SYNC_IRQ.PDMISM : Fld := { addr := 0x400a0, lo := 5, width := 1, acc := .w1c, dflt := 0 }
/-- Chapter 06, SYNC_IRQ offset 0x0A0, bit 4. -/
abbrev SYNC_IRQ.PDREST : Fld := { addr := 0x400a0, lo := 4, width := 1, acc := .w1c, dflt := 0 }
/-- Chapter 06, SYNC_IRQ offset 0x0A0, bit 3. -/
abbrev SYNC_IRQ.RCLAMP : Fld := { addr := 0x400a0, lo := 3, width := 1, acc := .w1c, dflt := 0 }
/-- Chapter 06, SYNC_IRQ offset 0x0A0, bit 2. -/
abbrev SYNC_IRQ.HOLD : Fld := { addr := 0x400a0, lo := 2, width := 1, acc := .w1c, dflt := 0 }
/-- Chapter 06, SYNC_IRQ offset 0x0A0, bit 1. -/
abbrev SYNC_IRQ.DEGR : Fld := { addr := 0x400a0, lo := 1, width := 1, acc := .w1c, dflt := 0 }
/-- Chapter 06, SYNC_IRQ offset 0x0A0, bit 0. -/
abbrev SYNC_IRQ.OOP : Fld := { addr := 0x400a0, lo := 0, width := 1, acc := .w1c, dflt := 0 }
/-- Chapter 06, SYNC_IEN offset 0x0A4, bit 5. -/
abbrev SYNC_IEN.PDMISM : Fld := { addr := 0x400a4, lo := 5, width := 1, acc := .rw, dflt := 0 }
/-- Chapter 06, SYNC_IEN offset 0x0A4, bit 4. -/
abbrev SYNC_IEN.PDREST : Fld := { addr := 0x400a4, lo := 4, width := 1, acc := .rw, dflt := 0 }
/-- Chapter 06, SYNC_IEN offset 0x0A4, bit 3. -/
abbrev SYNC_IEN.RCLAMP : Fld := { addr := 0x400a4, lo := 3, width := 1, acc := .rw, dflt := 0 }
/-- Chapter 06, SYNC_IEN offset 0x0A4, bit 2. -/
abbrev SYNC_IEN.HOLD : Fld := { addr := 0x400a4, lo := 2, width := 1, acc := .rw, dflt := 0 }
/-- Chapter 06, SYNC_IEN offset 0x0A4, bit 1. -/
abbrev SYNC_IEN.DEGR : Fld := { addr := 0x400a4, lo := 1, width := 1, acc := .rw, dflt := 0 }
/-- Chapter 06, SYNC_IEN offset 0x0A4, bit 0. -/
abbrev SYNC_IEN.OOP : Fld := { addr := 0x400a4, lo := 0, width := 1, acc := .rw, dflt := 0 }
/-- Chapter 06, SYNC_ROUNDS offset 0x0C0, bits 31:0. -/
abbrev SYNC_ROUNDS.COUNT : Fld := { addr := 0x400c0, lo := 0, width := 32, acc := .cnt, dflt := 0 }
/-- Chapter 06, SYNC_MISS offset 0x0C4, bits 31:0. -/
abbrev SYNC_MISS.COUNT : Fld := { addr := 0x400c4, lo := 0, width := 32, acc := .cnt, dflt := 0 }
/-- Chapter 06, SYNC_DISC offset 0x0C8, bits 31:0. -/
abbrev SYNC_DISC.COUNT : Fld := { addr := 0x400c8, lo := 0, width := 32, acc := .cnt, dflt := 0 }
/-- Chapter 06, SYNC_PDREJ offset 0x0CC, bits 31:0. -/
abbrev SYNC_PDREJ.COUNT : Fld := { addr := 0x400cc, lo := 0, width := 32, acc := .cnt, dflt := 0 }
/-- Chapter 06, SYNC_CLAMP offset 0x0D0, bits 31:0. -/
abbrev SYNC_CLAMP.COUNT : Fld := { addr := 0x400d0, lo := 0, width := 32, acc := .cnt, dflt := 0 }
/-- Chapter 06, SYNC_OOPCYC offset 0x0D4, bits 31:0. -/
abbrev SYNC_OOPCYC.COUNT : Fld := { addr := 0x400d4, lo := 0, width := 32, acc := .cnt, dflt := 0 }
/-- Chapter 06, SYNC_HOLDCYC offset 0x0D8, bits 31:0. -/
abbrev SYNC_HOLDCYC.COUNT : Fld := { addr := 0x400d8, lo := 0, width := 32, acc := .cnt, dflt := 0 }
/-- Chapter 07, TIME_CTRL offset 0x000, bit 4. -/
abbrev TIME_CTRL.EPBACK : Fld := { addr := 0x50000, lo := 4, width := 1, acc := .rw, dflt := 0 }
/-- Chapter 07, TIME_CTRL offset 0x000, bit 3. -/
abbrev TIME_CTRL.EPOCHEN : Fld := { addr := 0x50000, lo := 3, width := 1, acc := .rw, dflt := 1 }
/-- Chapter 07, TIME_CTRL offset 0x000, bit 2. -/
abbrev TIME_CTRL.ACCEPT : Fld := { addr := 0x50000, lo := 2, width := 1, acc := .wo, dflt := 0 }
/-- Chapter 07, TIME_CTRL offset 0x000, bit 0. -/
abbrev TIME_CTRL.EN : Fld := { addr := 0x50000, lo := 0, width := 1, acc := .rw, dflt := 1 }
/-- Chapter 07, TIME_STAT offset 0x004, bit 10. -/
abbrev TIME_STAT.TAI : Fld := { addr := 0x50004, lo := 10, width := 1, acc := .ro, dflt := 0 }
/-- Chapter 07, TIME_STAT offset 0x004, bit 9. -/
abbrev TIME_STAT.WIGN : Fld := { addr := 0x50004, lo := 9, width := 1, acc := .w1c, dflt := 0 }
/-- Chapter 07, TIME_STAT offset 0x004, bit 8. -/
abbrev TIME_STAT.TREF : Fld := { addr := 0x50004, lo := 8, width := 1, acc := .ro, dflt := 0 }
/-- Chapter 07, TIME_STAT offset 0x004, bit 7. -/
abbrev TIME_STAT.MAP : Fld := { addr := 0x50004, lo := 7, width := 1, acc := .ro, dflt := 0 }
/-- Chapter 07, TIME_STAT offset 0x004, bit 6. -/
abbrev TIME_STAT.TODMISS : Fld := { addr := 0x50004, lo := 6, width := 1, acc := .w1c, dflt := 0 }
/-- Chapter 07, TIME_STAT offset 0x004, bit 5. -/
abbrev TIME_STAT.REFUSED : Fld := { addr := 0x50004, lo := 5, width := 1, acc := .w1c, dflt := 0 }
/-- Chapter 07, TIME_STAT offset 0x004, bit 4. -/
abbrev TIME_STAT.CATCHUP : Fld := { addr := 0x50004, lo := 4, width := 1, acc := .ro, dflt := 0 }
/-- Chapter 07, TIME_STAT offset 0x004, bit 3. -/
abbrev TIME_STAT.EPUSED : Fld := { addr := 0x50004, lo := 3, width := 1, acc := .ro, dflt := 0 }
/-- Chapter 07, TIME_STAT offset 0x004, bits 2:0. -/
abbrev TIME_STAT.REFST : Fld := { addr := 0x50004, lo := 0, width := 3, acc := .ro, dflt := 0 }
/-- Chapter 07, TIME_CFG offset 0x008, bits 29:0. -/
abbrev TIME_CFG.JUMP : Fld := { addr := 0x50008, lo := 0, width := 30, acc := .rw, dflt := 1000 }
/-- Chapter 07, TIME_CFG2 offset 0x00C, bits 25:16. -/
abbrev TIME_CFG2.CATCH : Fld := { addr := 0x5000c, lo := 16, width := 10, acc := .rw, dflt := 100 }
/-- Chapter 07, TIME_CFG2 offset 0x00C, bits 6:0. -/
abbrev TIME_CFG2.TAU : Fld := { addr := 0x5000c, lo := 0, width := 7, acc := .rw, dflt := 8 }
/-- Chapter 07, TIME_REF offset 0x010, bits 23:16. -/
abbrev TIME_REF.DOMAIN : Fld := { addr := 0x50010, lo := 16, width := 8, acc := .rwg, dflt := 0 }
/-- Chapter 07, TIME_REF offset 0x010, bit 10. -/
abbrev TIME_REF.PPSTAI : Fld := { addr := 0x50010, lo := 10, width := 1, acc := .rwg, dflt := 0 }
/-- Chapter 07, TIME_REF offset 0x010, bits 9:8. -/
abbrev TIME_REF.PORT : Fld := { addr := 0x50010, lo := 8, width := 2, acc := .rwg, dflt := 0 }
/-- Chapter 07, TIME_REF offset 0x010, bits 5:4. -/
abbrev TIME_REF.PPSIN : Fld := { addr := 0x50010, lo := 4, width := 2, acc := .rwg, dflt := 0 }
/-- Chapter 07, TIME_REF offset 0x010, bits 1:0. -/
abbrev TIME_REF.SRC : Fld := { addr := 0x50010, lo := 0, width := 2, acc := .rwg, dflt := 0 }
/-- Chapter 07, TIME_UTCOFF offset 0x01C, bits 15:0. -/
abbrev TIME_UTCOFF.UTCOFF : Fld := { addr := 0x5001c, lo := 0, width := 16, acc := .rw, dflt := 0 }
/-- Chapter 07, TIME_IRQ offset 0x030, bit 6. -/
abbrev TIME_IRQ.NOTREJ : Fld := { addr := 0x50030, lo := 6, width := 1, acc := .w1c, dflt := 0 }
/-- Chapter 07, TIME_IRQ offset 0x030, bit 5. -/
abbrev TIME_IRQ.CAPOVF : Fld := { addr := 0x50030, lo := 5, width := 1, acc := .w1c, dflt := 0 }
/-- Chapter 07, TIME_IRQ offset 0x030, bit 4. -/
abbrev TIME_IRQ.LATE : Fld := { addr := 0x50030, lo := 4, width := 1, acc := .w1c, dflt := 0 }
/-- Chapter 07, TIME_IRQ offset 0x030, bit 3. -/
abbrev TIME_IRQ.REF : Fld := { addr := 0x50030, lo := 3, width := 1, acc := .w1c, dflt := 0 }
/-- Chapter 07, TIME_IRQ offset 0x030, bit 2. -/
abbrev TIME_IRQ.CATCH : Fld := { addr := 0x50030, lo := 2, width := 1, acc := .w1c, dflt := 0 }
/-- Chapter 07, TIME_IRQ offset 0x030, bit 1. -/
abbrev TIME_IRQ.REFUSED : Fld := { addr := 0x50030, lo := 1, width := 1, acc := .w1c, dflt := 0 }
/-- Chapter 07, TIME_IRQ offset 0x030, bit 0. -/
abbrev TIME_IRQ.EPOCH : Fld := { addr := 0x50030, lo := 0, width := 1, acc := .w1c, dflt := 0 }
/-- Chapter 07, TIME_IEN offset 0x034, bit 6. -/
abbrev TIME_IEN.NOTREJ : Fld := { addr := 0x50034, lo := 6, width := 1, acc := .rw, dflt := 0 }
/-- Chapter 07, TIME_IEN offset 0x034, bit 5. -/
abbrev TIME_IEN.CAPOVF : Fld := { addr := 0x50034, lo := 5, width := 1, acc := .rw, dflt := 0 }
/-- Chapter 07, TIME_IEN offset 0x034, bit 4. -/
abbrev TIME_IEN.LATE : Fld := { addr := 0x50034, lo := 4, width := 1, acc := .rw, dflt := 0 }
/-- Chapter 07, TIME_IEN offset 0x034, bit 3. -/
abbrev TIME_IEN.REF : Fld := { addr := 0x50034, lo := 3, width := 1, acc := .rw, dflt := 0 }
/-- Chapter 07, TIME_IEN offset 0x034, bit 2. -/
abbrev TIME_IEN.CATCH : Fld := { addr := 0x50034, lo := 2, width := 1, acc := .rw, dflt := 0 }
/-- Chapter 07, TIME_IEN offset 0x034, bit 1. -/
abbrev TIME_IEN.REFUSED : Fld := { addr := 0x50034, lo := 1, width := 1, acc := .rw, dflt := 0 }
/-- Chapter 07, TIME_IEN offset 0x034, bit 0. -/
abbrev TIME_IEN.EPOCH : Fld := { addr := 0x50034, lo := 0, width := 1, acc := .rw, dflt := 0 }
/-- Chapter 07, TIME_REFUSED offset 0x1A0, bits 31:0. -/
abbrev TIME_REFUSED.COUNT : Fld := { addr := 0x501a0, lo := 0, width := 32, acc := .cnt, dflt := 0 }
/-- Chapter 07, TIME_LATE offset 0x1A4, bits 31:0. -/
abbrev TIME_LATE.COUNT : Fld := { addr := 0x501a4, lo := 0, width := 32, acc := .cnt, dflt := 0 }
/-- Chapter 07, TIME_CAPOVF offset 0x1A8, bits 31:0. -/
abbrev TIME_CAPOVF.COUNT : Fld := { addr := 0x501a8, lo := 0, width := 32, acc := .cnt, dflt := 0 }
/-- Chapter 07, TIME_NOTREJ offset 0x1AC, bits 31:0. -/
abbrev TIME_NOTREJ.COUNT : Fld := { addr := 0x501ac, lo := 0, width := 32, acc := .cnt, dflt := 0 }
/-- Chapter 07, TIME_NOTLATE offset 0x1B0, bits 31:0. -/
abbrev TIME_NOTLATE.COUNT : Fld := { addr := 0x501b0, lo := 0, width := 32, acc := .cnt, dflt := 0 }
/-- Chapter 07, TIME_REFLOSS offset 0x1B4, bits 31:0. -/
abbrev TIME_REFLOSS.COUNT : Fld := { addr := 0x501b4, lo := 0, width := 32, acc := .cnt, dflt := 0 }
/-- Chapter 08, FWD_CTRL offset 0x000, bit 0. -/
abbrev FWD_CTRL.EN : Fld := { addr := 0x60000, lo := 0, width := 1, acc := .rw, dflt := 1 }
/-- Chapter 08, FWD_STAT offset 0x004, bit 3. -/
abbrev FWD_STAT.WIGN : Fld := { addr := 0x60004, lo := 3, width := 1, acc := .w1c, dflt := 0 }
/-- Chapter 08, FWD_STAT offset 0x004, bit 2. -/
abbrev FWD_STAT.SUMERR : Fld := { addr := 0x60004, lo := 2, width := 1, acc := .ro, dflt := 0 }
/-- Chapter 08, FWD_STAT offset 0x004, bit 1. -/
abbrev FWD_STAT.BULKFL : Fld := { addr := 0x60004, lo := 1, width := 1, acc := .ro, dflt := 0 }
/-- Chapter 08, FWD_STAT offset 0x004, bit 0. -/
abbrev FWD_STAT.BREAK : Fld := { addr := 0x60004, lo := 0, width := 1, acc := .ro, dflt := 0 }
/-- Chapter 08, FWD_QCFG offset 0x010, bits 31:24. -/
abbrev FWD_QCFG.MGMTRUN : Fld := { addr := 0x60010, lo := 24, width := 8, acc := .rw, dflt := 8 }
/-- Chapter 08, FWD_QCFG offset 0x010, bits 15:0. -/
abbrev FWD_QCFG.QAGE : Fld := { addr := 0x60010, lo := 0, width := 16, acc := .rw, dflt := 80 }
/-- Chapter 08, FWD_QLIM offset 0x014, bits 31:16. -/
abbrev FWD_QLIM.MGMTLIM : Fld := { addr := 0x60014, lo := 16, width := 16, acc := .rw, dflt := 512 }
/-- Chapter 08, FWD_QLIM offset 0x014, bits 15:0. -/
abbrev FWD_QLIM.BULKLIM : Fld := { addr := 0x60014, lo := 0, width := 16, acc := .rw, dflt := 2048 }
/-- Chapter 08, FWD_LINESEL offset 0x018, bit 1. -/
abbrev FWD_LINESEL.BULK : Fld := { addr := 0x60018, lo := 1, width := 1, acc := .rw, dflt := 1 }
/-- Chapter 08, FWD_LINESEL offset 0x018, bit 0. -/
abbrev FWD_LINESEL.MGMT : Fld := { addr := 0x60018, lo := 0, width := 1, acc := .rw, dflt := 0 }
/-- Chapter 08, FWD_VCFG offset 0x01C, bits 7:0. -/
abbrev FWD_VCFG.PAGE : Fld := { addr := 0x6001c, lo := 0, width := 8, acc := .rw, dflt := 4 }
/-- Chapter 08, FWD_IRQ offset 0x030, bit 5. -/
abbrev FWD_IRQ.SUMERR : Fld := { addr := 0x60030, lo := 5, width := 1, acc := .w1c, dflt := 0 }
/-- Chapter 08, FWD_IRQ offset 0x030, bit 4. -/
abbrev FWD_IRQ.VNONE : Fld := { addr := 0x60030, lo := 4, width := 1, acc := .w1c, dflt := 0 }
/-- Chapter 08, FWD_IRQ offset 0x030, bit 3. -/
abbrev FWD_IRQ.VPATH : Fld := { addr := 0x60030, lo := 3, width := 1, acc := .w1c, dflt := 0 }
/-- Chapter 08, FWD_IRQ offset 0x030, bit 2. -/
abbrev FWD_IRQ.AGED : Fld := { addr := 0x60030, lo := 2, width := 1, acc := .w1c, dflt := 0 }
/-- Chapter 08, FWD_IRQ offset 0x030, bit 1. -/
abbrev FWD_IRQ.QDROP : Fld := { addr := 0x60030, lo := 1, width := 1, acc := .w1c, dflt := 0 }
/-- Chapter 08, FWD_IRQ offset 0x030, bit 0. -/
abbrev FWD_IRQ.NOBUF : Fld := { addr := 0x60030, lo := 0, width := 1, acc := .w1c, dflt := 0 }
/-- Chapter 08, FWD_IEN offset 0x034, bit 5. -/
abbrev FWD_IEN.SUMERR : Fld := { addr := 0x60034, lo := 5, width := 1, acc := .rw, dflt := 0 }
/-- Chapter 08, FWD_IEN offset 0x034, bit 4. -/
abbrev FWD_IEN.VNONE : Fld := { addr := 0x60034, lo := 4, width := 1, acc := .rw, dflt := 0 }
/-- Chapter 08, FWD_IEN offset 0x034, bit 3. -/
abbrev FWD_IEN.VPATH : Fld := { addr := 0x60034, lo := 3, width := 1, acc := .rw, dflt := 0 }
/-- Chapter 08, FWD_IEN offset 0x034, bit 2. -/
abbrev FWD_IEN.AGED : Fld := { addr := 0x60034, lo := 2, width := 1, acc := .rw, dflt := 0 }
/-- Chapter 08, FWD_IEN offset 0x034, bit 1. -/
abbrev FWD_IEN.QDROP : Fld := { addr := 0x60034, lo := 1, width := 1, acc := .rw, dflt := 0 }
/-- Chapter 08, FWD_IEN offset 0x034, bit 0. -/
abbrev FWD_IEN.NOBUF : Fld := { addr := 0x60034, lo := 0, width := 1, acc := .rw, dflt := 0 }
/-- Chapter 08, FWD_VPSUM offset 0x038, bits 22:16. -/
abbrev FWD_VPSUM.NONE : Fld := { addr := 0x60038, lo := 16, width := 7, acc := .ro, dflt := 0 }
/-- Chapter 08, FWD_VPSUM offset 0x038, bits 6:0. -/
abbrev FWD_VPSUM.ONE : Fld := { addr := 0x60038, lo := 0, width := 7, acc := .ro, dflt := 0 }
/-- Chapter 08, FWD_FWDTT offset 0x200, bits 31:0. -/
abbrev FWD_FWDTT.COUNT : Fld := { addr := 0x60200, lo := 0, width := 32, acc := .cnt, dflt := 0 }
/-- Chapter 08, FWD_FWDVIT offset 0x204, bits 31:0. -/
abbrev FWD_FWDVIT.COUNT : Fld := { addr := 0x60204, lo := 0, width := 32, acc := .cnt, dflt := 0 }
/-- Chapter 08, FWD_FWDMG offset 0x208, bits 31:0. -/
abbrev FWD_FWDMG.COUNT : Fld := { addr := 0x60208, lo := 0, width := 32, acc := .cnt, dflt := 0 }
/-- Chapter 08, FWD_FWDBK offset 0x20C, bits 31:0. -/
abbrev FWD_FWDBK.COUNT : Fld := { addr := 0x6020c, lo := 0, width := 32, acc := .cnt, dflt := 0 }
/-- Chapter 08, FWD_ISOL offset 0x210, bits 31:0. -/
abbrev FWD_ISOL.COUNT : Fld := { addr := 0x60210, lo := 0, width := 32, acc := .cnt, dflt := 0 }
/-- Chapter 08, FWD_NOROST offset 0x214, bits 31:0. -/
abbrev FWD_NOROST.COUNT : Fld := { addr := 0x60214, lo := 0, width := 32, acc := .cnt, dflt := 0 }
/-- Chapter 08, FWD_BREAK offset 0x218, bits 31:0. -/
abbrev FWD_BREAK.COUNT : Fld := { addr := 0x60218, lo := 0, width := 32, acc := .cnt, dflt := 0 }
/-- Chapter 08, FWD_GENERR offset 0x21C, bits 31:0. -/
abbrev FWD_GENERR.COUNT : Fld := { addr := 0x6021c, lo := 0, width := 32, acc := .cnt, dflt := 0 }
/-- Chapter 08, FWD_NOSRC offset 0x220, bits 31:0. -/
abbrev FWD_NOSRC.COUNT : Fld := { addr := 0x60220, lo := 0, width := 32, acc := .cnt, dflt := 0 }
/-- Chapter 08, FWD_UNDELIV offset 0x224, bits 31:0. -/
abbrev FWD_UNDELIV.COUNT : Fld := { addr := 0x60224, lo := 0, width := 32, acc := .cnt, dflt := 0 }
/-- Chapter 08, FWD_NOBUFX offset 0x228, bits 31:0. -/
abbrev FWD_NOBUFX.COUNT : Fld := { addr := 0x60228, lo := 0, width := 32, acc := .cnt, dflt := 0 }
/-- Chapter 08, FWD_NOBUFM offset 0x22C, bits 31:0. -/
abbrev FWD_NOBUFM.COUNT : Fld := { addr := 0x6022c, lo := 0, width := 32, acc := .cnt, dflt := 0 }
/-- Chapter 08, FWD_NOBUFB offset 0x230, bits 31:0. -/
abbrev FWD_NOBUFB.COUNT : Fld := { addr := 0x60230, lo := 0, width := 32, acc := .cnt, dflt := 0 }
/-- Chapter 08, FWD_QDROP offset 0x234, bits 31:0. -/
abbrev FWD_QDROP.COUNT : Fld := { addr := 0x60234, lo := 0, width := 32, acc := .cnt, dflt := 0 }
/-- Chapter 08, FWD_AGED offset 0x238, bits 31:0. -/
abbrev FWD_AGED.COUNT : Fld := { addr := 0x60238, lo := 0, width := 32, acc := .cnt, dflt := 0 }
/-- Chapter 08, FWD_BADDROP offset 0x23C, bits 31:0. -/
abbrev FWD_BADDROP.COUNT : Fld := { addr := 0x6023c, lo := 0, width := 32, acc := .cnt, dflt := 0 }
/-- Chapter 08, FWD_SINKFULL offset 0x240, bits 31:0. -/
abbrev FWD_SINKFULL.COUNT : Fld := { addr := 0x60240, lo := 0, width := 32, acc := .cnt, dflt := 0 }
/-- Chapter 08, FWD_XOVER offset 0x244, bits 31:0. -/
abbrev FWD_XOVER.COUNT : Fld := { addr := 0x60244, lo := 0, width := 32, acc := .cnt, dflt := 0 }
/-- Chapter 08, FWD_NOPATH offset 0x248, bits 31:0. -/
abbrev FWD_NOPATH.COUNT : Fld := { addr := 0x60248, lo := 0, width := 32, acc := .cnt, dflt := 0 }
/-- Chapter 08, FWD_VDUP offset 0x24C, bits 31:0. -/
abbrev FWD_VDUP.COUNT : Fld := { addr := 0x6024c, lo := 0, width := 32, acc := .cnt, dflt := 0 }
/-- Chapter 08, FWD_VOLD offset 0x250, bits 31:0. -/
abbrev FWD_VOLD.COUNT : Fld := { addr := 0x60250, lo := 0, width := 32, acc := .cnt, dflt := 0 }
/-- Chapter 08, FWD_ETHLONG offset 0x254, bits 31:0. -/
abbrev FWD_ETHLONG.COUNT : Fld := { addr := 0x60254, lo := 0, width := 32, acc := .cnt, dflt := 0 }
/-- Chapter 09, CONS_CTRL offset 0x000, bit 2. -/
abbrev CONS_CTRL.BBHOST : Fld := { addr := 0x70000, lo := 2, width := 1, acc := .rw, dflt := 0, s1 := 0x4000, n1 := 4 }
/-- Chapter 09, CONS_CTRL offset 0x000, bit 1. -/
abbrev CONS_CTRL.IOEN : Fld := { addr := 0x70000, lo := 1, width := 1, acc := .rw, dflt := 0, s1 := 0x4000, n1 := 4 }
/-- Chapter 09, CONS_CTRL offset 0x000, bit 0. -/
abbrev CONS_CTRL.EN : Fld := { addr := 0x70000, lo := 0, width := 1, acc := .rw, dflt := 0, s1 := 0x4000, n1 := 4 }
/-- Chapter 09, CONS_STAT offset 0x004, bit 9. -/
abbrev CONS_STAT.WIGN : Fld := { addr := 0x70004, lo := 9, width := 1, acc := .w1c, dflt := 0, s1 := 0x4000, n1 := 4 }
/-- Chapter 09, CONS_STAT offset 0x004, bit 8. -/
abbrev CONS_STAT.PWD : Fld := { addr := 0x70004, lo := 8, width := 1, acc := .ro, dflt := 0, s1 := 0x4000, n1 := 4 }
/-- Chapter 09, CONS_STAT offset 0x004, bit 7. -/
abbrev CONS_STAT.PAUSED : Fld := { addr := 0x70004, lo := 7, width := 1, acc := .ro, dflt := 0, s1 := 0x4000, n1 := 4 }
/-- Chapter 09, CONS_STAT offset 0x004, bit 6. -/
abbrev CONS_STAT.PVFAIL : Fld := { addr := 0x70004, lo := 6, width := 1, acc := .ro, dflt := 0, s1 := 0x4000, n1 := 4 }
/-- Chapter 09, CONS_STAT offset 0x004, bit 5. -/
abbrev CONS_STAT.PACT : Fld := { addr := 0x70004, lo := 5, width := 1, acc := .ro, dflt := 0, s1 := 0x4000, n1 := 4 }
/-- Chapter 09, CONS_STAT offset 0x004, bit 4. -/
abbrev CONS_STAT.HDX : Fld := { addr := 0x70004, lo := 4, width := 1, acc := .ro, dflt := 0, s1 := 0x4000, n1 := 4 }
/-- Chapter 09, CONS_STAT offset 0x004, bits 3:2. -/
abbrev CONS_STAT.SPEED : Fld := { addr := 0x70004, lo := 2, width := 2, acc := .ro, dflt := 0, s1 := 0x4000, n1 := 4 }
/-- Chapter 09, CONS_STAT offset 0x004, bit 1. -/
abbrev CONS_STAT.SYNC : Fld := { addr := 0x70004, lo := 1, width := 1, acc := .ro, dflt := 0, s1 := 0x4000, n1 := 4 }
/-- Chapter 09, CONS_STAT offset 0x004, bit 0. -/
abbrev CONS_STAT.LINK : Fld := { addr := 0x70004, lo := 0, width := 1, acc := .ro, dflt := 0, s1 := 0x4000, n1 := 4 }
/-- Chapter 09, CONS_PCPMAP offset 0x014, bits 23:0. -/
abbrev CONS_PCPMAP.MAP : Fld := { addr := 0x70014, lo := 0, width := 24, acc := .rw, dflt := 16434824, s1 := 0x4000, n1 := 4 }
/-- Chapter 09, CONS_TXCFG offset 0x018, bits 15:8. -/
abbrev CONS_TXCFG.EXPQ : Fld := { addr := 0x70018, lo := 8, width := 8, acc := .rwg, dflt := 192, s1 := 0x4000, n1 := 4 }
/-- Chapter 09, CONS_TXCFG offset 0x018, bit 7. -/
abbrev CONS_TXCFG.PREEN : Fld := { addr := 0x70018, lo := 7, width := 1, acc := .rwg, dflt := 0, s1 := 0x4000, n1 := 4 }
/-- Chapter 09, CONS_TXCFG offset 0x018, bit 6. -/
abbrev CONS_TXCFG.VERIFY : Fld := { addr := 0x70018, lo := 6, width := 1, acc := .rwg, dflt := 1, s1 := 0x4000, n1 := 4 }
/-- Chapter 09, CONS_TXCFG offset 0x018, bits 5:4. -/
abbrev CONS_TXCFG.ADDFRAG : Fld := { addr := 0x70018, lo := 4, width := 2, acc := .rwg, dflt := 0, s1 := 0x4000, n1 := 4 }
/-- Chapter 09, CONS_TXCFG offset 0x018, bits 2:0. -/
abbrev CONS_TXCFG.IOQ : Fld := { addr := 0x70018, lo := 0, width := 3, acc := .rwg, dflt := 6, s1 := 0x4000, n1 := 4 }
/-- Chapter 09, CONS_MDIO offset 0x024, bit 31. -/
abbrev CONS_MDIO.GO : Fld := { addr := 0x70024, lo := 31, width := 1, acc := .wo, dflt := 0, s1 := 0x4000, n1 := 4 }
/-- Chapter 09, CONS_MDIO offset 0x024, bit 30. -/
abbrev CONS_MDIO.BUSY : Fld := { addr := 0x70024, lo := 30, width := 1, acc := .ro, dflt := 0, s1 := 0x4000, n1 := 4 }
/-- Chapter 09, CONS_MDIO offset 0x024, bit 29. -/
abbrev CONS_MDIO.RDERR : Fld := { addr := 0x70024, lo := 29, width := 1, acc := .ro, dflt := 0, s1 := 0x4000, n1 := 4 }
/-- Chapter 09, CONS_MDIO offset 0x024, bit 28. -/
abbrev CONS_MDIO.OP : Fld := { addr := 0x70024, lo := 28, width := 1, acc := .rw, dflt := 0, s1 := 0x4000, n1 := 4 }
/-- Chapter 09, CONS_MDIO offset 0x024, bits 27:26. -/
abbrev CONS_MDIO.MDCDIV : Fld := { addr := 0x70024, lo := 26, width := 2, acc := .rw, dflt := 0, s1 := 0x4000, n1 := 4 }
/-- Chapter 09, CONS_MDIO offset 0x024, bits 25:21. -/
abbrev CONS_MDIO.PHYAD : Fld := { addr := 0x70024, lo := 21, width := 5, acc := .rw, dflt := 0, s1 := 0x4000, n1 := 4 }
/-- Chapter 09, CONS_MDIO offset 0x024, bits 20:16. -/
abbrev CONS_MDIO.REGAD : Fld := { addr := 0x70024, lo := 16, width := 5, acc := .rw, dflt := 0, s1 := 0x4000, n1 := 4 }
/-- Chapter 09, CONS_MDIO offset 0x024, bits 15:0. -/
abbrev CONS_MDIO.DATA : Fld := { addr := 0x70024, lo := 0, width := 16, acc := .rw, dflt := 0, s1 := 0x4000, n1 := 4 }
/-- Chapter 09, CONS_IRQ offset 0x030, bit 24. -/
abbrev CONS_IRQ.TXQ0 : Fld := { addr := 0x70030, lo := 24, width := 1, acc := .w1c, dflt := 0, s1 := 0x4000, n1 := 4 }
/-- Chapter 09, CONS_IRQ offset 0x030, bit 25. -/
abbrev CONS_IRQ.TXQ1 : Fld := { addr := 0x70030, lo := 25, width := 1, acc := .w1c, dflt := 0, s1 := 0x4000, n1 := 4 }
/-- Chapter 09, CONS_IRQ offset 0x030, bit 26. -/
abbrev CONS_IRQ.TXQ2 : Fld := { addr := 0x70030, lo := 26, width := 1, acc := .w1c, dflt := 0, s1 := 0x4000, n1 := 4 }
/-- Chapter 09, CONS_IRQ offset 0x030, bit 27. -/
abbrev CONS_IRQ.TXQ3 : Fld := { addr := 0x70030, lo := 27, width := 1, acc := .w1c, dflt := 0, s1 := 0x4000, n1 := 4 }
/-- Chapter 09, CONS_IRQ offset 0x030, bit 28. -/
abbrev CONS_IRQ.TXQ4 : Fld := { addr := 0x70030, lo := 28, width := 1, acc := .w1c, dflt := 0, s1 := 0x4000, n1 := 4 }
/-- Chapter 09, CONS_IRQ offset 0x030, bit 29. -/
abbrev CONS_IRQ.TXQ5 : Fld := { addr := 0x70030, lo := 29, width := 1, acc := .w1c, dflt := 0, s1 := 0x4000, n1 := 4 }
/-- Chapter 09, CONS_IRQ offset 0x030, bit 30. -/
abbrev CONS_IRQ.TXQ6 : Fld := { addr := 0x70030, lo := 30, width := 1, acc := .w1c, dflt := 0, s1 := 0x4000, n1 := 4 }
/-- Chapter 09, CONS_IRQ offset 0x030, bit 31. -/
abbrev CONS_IRQ.TXQ7 : Fld := { addr := 0x70030, lo := 31, width := 1, acc := .w1c, dflt := 0, s1 := 0x4000, n1 := 4 }
/-- Chapter 09, CONS_IRQ offset 0x030, bit 16. -/
abbrev CONS_IRQ.RXQ0 : Fld := { addr := 0x70030, lo := 16, width := 1, acc := .w1c, dflt := 0, s1 := 0x4000, n1 := 4 }
/-- Chapter 09, CONS_IRQ offset 0x030, bit 17. -/
abbrev CONS_IRQ.RXQ1 : Fld := { addr := 0x70030, lo := 17, width := 1, acc := .w1c, dflt := 0, s1 := 0x4000, n1 := 4 }
/-- Chapter 09, CONS_IRQ offset 0x030, bit 18. -/
abbrev CONS_IRQ.RXQ2 : Fld := { addr := 0x70030, lo := 18, width := 1, acc := .w1c, dflt := 0, s1 := 0x4000, n1 := 4 }
/-- Chapter 09, CONS_IRQ offset 0x030, bit 19. -/
abbrev CONS_IRQ.RXQ3 : Fld := { addr := 0x70030, lo := 19, width := 1, acc := .w1c, dflt := 0, s1 := 0x4000, n1 := 4 }
/-- Chapter 09, CONS_IRQ offset 0x030, bit 20. -/
abbrev CONS_IRQ.RXQ4 : Fld := { addr := 0x70030, lo := 20, width := 1, acc := .w1c, dflt := 0, s1 := 0x4000, n1 := 4 }
/-- Chapter 09, CONS_IRQ offset 0x030, bit 21. -/
abbrev CONS_IRQ.RXQ5 : Fld := { addr := 0x70030, lo := 21, width := 1, acc := .w1c, dflt := 0, s1 := 0x4000, n1 := 4 }
/-- Chapter 09, CONS_IRQ offset 0x030, bit 22. -/
abbrev CONS_IRQ.RXQ6 : Fld := { addr := 0x70030, lo := 22, width := 1, acc := .w1c, dflt := 0, s1 := 0x4000, n1 := 4 }
/-- Chapter 09, CONS_IRQ offset 0x030, bit 23. -/
abbrev CONS_IRQ.RXQ7 : Fld := { addr := 0x70030, lo := 23, width := 1, acc := .w1c, dflt := 0, s1 := 0x4000, n1 := 4 }
/-- Chapter 09, CONS_IRQ offset 0x030, bit 4. -/
abbrev CONS_IRQ.PWD : Fld := { addr := 0x70030, lo := 4, width := 1, acc := .w1c, dflt := 0, s1 := 0x4000, n1 := 4 }
/-- Chapter 09, CONS_IRQ offset 0x030, bit 3. -/
abbrev CONS_IRQ.PVFAIL : Fld := { addr := 0x70030, lo := 3, width := 1, acc := .w1c, dflt := 0, s1 := 0x4000, n1 := 4 }
/-- Chapter 09, CONS_IRQ offset 0x030, bit 2. -/
abbrev CONS_IRQ.DROP : Fld := { addr := 0x70030, lo := 2, width := 1, acc := .w1c, dflt := 0, s1 := 0x4000, n1 := 4 }
/-- Chapter 09, CONS_IRQ offset 0x030, bit 1. -/
abbrev CONS_IRQ.MDIO : Fld := { addr := 0x70030, lo := 1, width := 1, acc := .w1c, dflt := 0, s1 := 0x4000, n1 := 4 }
/-- Chapter 09, CONS_IRQ offset 0x030, bit 0. -/
abbrev CONS_IRQ.LINK : Fld := { addr := 0x70030, lo := 0, width := 1, acc := .w1c, dflt := 0, s1 := 0x4000, n1 := 4 }
/-- Chapter 09, CONS_IEN offset 0x034, bit 24. -/
abbrev CONS_IEN.TXQ0 : Fld := { addr := 0x70034, lo := 24, width := 1, acc := .rw, dflt := 0, s1 := 0x4000, n1 := 4 }
/-- Chapter 09, CONS_IEN offset 0x034, bit 25. -/
abbrev CONS_IEN.TXQ1 : Fld := { addr := 0x70034, lo := 25, width := 1, acc := .rw, dflt := 0, s1 := 0x4000, n1 := 4 }
/-- Chapter 09, CONS_IEN offset 0x034, bit 26. -/
abbrev CONS_IEN.TXQ2 : Fld := { addr := 0x70034, lo := 26, width := 1, acc := .rw, dflt := 0, s1 := 0x4000, n1 := 4 }
/-- Chapter 09, CONS_IEN offset 0x034, bit 27. -/
abbrev CONS_IEN.TXQ3 : Fld := { addr := 0x70034, lo := 27, width := 1, acc := .rw, dflt := 0, s1 := 0x4000, n1 := 4 }
/-- Chapter 09, CONS_IEN offset 0x034, bit 28. -/
abbrev CONS_IEN.TXQ4 : Fld := { addr := 0x70034, lo := 28, width := 1, acc := .rw, dflt := 0, s1 := 0x4000, n1 := 4 }
/-- Chapter 09, CONS_IEN offset 0x034, bit 29. -/
abbrev CONS_IEN.TXQ5 : Fld := { addr := 0x70034, lo := 29, width := 1, acc := .rw, dflt := 0, s1 := 0x4000, n1 := 4 }
/-- Chapter 09, CONS_IEN offset 0x034, bit 30. -/
abbrev CONS_IEN.TXQ6 : Fld := { addr := 0x70034, lo := 30, width := 1, acc := .rw, dflt := 0, s1 := 0x4000, n1 := 4 }
/-- Chapter 09, CONS_IEN offset 0x034, bit 31. -/
abbrev CONS_IEN.TXQ7 : Fld := { addr := 0x70034, lo := 31, width := 1, acc := .rw, dflt := 0, s1 := 0x4000, n1 := 4 }
/-- Chapter 09, CONS_IEN offset 0x034, bit 16. -/
abbrev CONS_IEN.RXQ0 : Fld := { addr := 0x70034, lo := 16, width := 1, acc := .rw, dflt := 0, s1 := 0x4000, n1 := 4 }
/-- Chapter 09, CONS_IEN offset 0x034, bit 17. -/
abbrev CONS_IEN.RXQ1 : Fld := { addr := 0x70034, lo := 17, width := 1, acc := .rw, dflt := 0, s1 := 0x4000, n1 := 4 }
/-- Chapter 09, CONS_IEN offset 0x034, bit 18. -/
abbrev CONS_IEN.RXQ2 : Fld := { addr := 0x70034, lo := 18, width := 1, acc := .rw, dflt := 0, s1 := 0x4000, n1 := 4 }
/-- Chapter 09, CONS_IEN offset 0x034, bit 19. -/
abbrev CONS_IEN.RXQ3 : Fld := { addr := 0x70034, lo := 19, width := 1, acc := .rw, dflt := 0, s1 := 0x4000, n1 := 4 }
/-- Chapter 09, CONS_IEN offset 0x034, bit 20. -/
abbrev CONS_IEN.RXQ4 : Fld := { addr := 0x70034, lo := 20, width := 1, acc := .rw, dflt := 0, s1 := 0x4000, n1 := 4 }
/-- Chapter 09, CONS_IEN offset 0x034, bit 21. -/
abbrev CONS_IEN.RXQ5 : Fld := { addr := 0x70034, lo := 21, width := 1, acc := .rw, dflt := 0, s1 := 0x4000, n1 := 4 }
/-- Chapter 09, CONS_IEN offset 0x034, bit 22. -/
abbrev CONS_IEN.RXQ6 : Fld := { addr := 0x70034, lo := 22, width := 1, acc := .rw, dflt := 0, s1 := 0x4000, n1 := 4 }
/-- Chapter 09, CONS_IEN offset 0x034, bit 23. -/
abbrev CONS_IEN.RXQ7 : Fld := { addr := 0x70034, lo := 23, width := 1, acc := .rw, dflt := 0, s1 := 0x4000, n1 := 4 }
/-- Chapter 09, CONS_IEN offset 0x034, bit 4. -/
abbrev CONS_IEN.PWD : Fld := { addr := 0x70034, lo := 4, width := 1, acc := .rw, dflt := 0, s1 := 0x4000, n1 := 4 }
/-- Chapter 09, CONS_IEN offset 0x034, bit 3. -/
abbrev CONS_IEN.PVFAIL : Fld := { addr := 0x70034, lo := 3, width := 1, acc := .rw, dflt := 0, s1 := 0x4000, n1 := 4 }
/-- Chapter 09, CONS_IEN offset 0x034, bit 2. -/
abbrev CONS_IEN.DROP : Fld := { addr := 0x70034, lo := 2, width := 1, acc := .rw, dflt := 0, s1 := 0x4000, n1 := 4 }
/-- Chapter 09, CONS_IEN offset 0x034, bit 1. -/
abbrev CONS_IEN.MDIO : Fld := { addr := 0x70034, lo := 1, width := 1, acc := .rw, dflt := 0, s1 := 0x4000, n1 := 4 }
/-- Chapter 09, CONS_IEN offset 0x034, bit 0. -/
abbrev CONS_IEN.LINK : Fld := { addr := 0x70034, lo := 0, width := 1, acc := .rw, dflt := 0, s1 := 0x4000, n1 := 4 }
/-- Chapter 09, CONS_RXGOOD offset 0x300, bits 31:0. -/
abbrev CONS_RXGOOD.COUNT : Fld := { addr := 0x70300, lo := 0, width := 32, acc := .cnt, dflt := 0, s1 := 0x4000, n1 := 4 }
/-- Chapter 09, CONS_RXRUNT offset 0x304, bits 31:0. -/
abbrev CONS_RXRUNT.COUNT : Fld := { addr := 0x70304, lo := 0, width := 32, acc := .cnt, dflt := 0, s1 := 0x4000, n1 := 4 }
/-- Chapter 09, CONS_RXGIANT offset 0x308, bits 31:0. -/
abbrev CONS_RXGIANT.COUNT : Fld := { addr := 0x70308, lo := 0, width := 32, acc := .cnt, dflt := 0, s1 := 0x4000, n1 := 4 }
/-- Chapter 09, CONS_RXFCS offset 0x30C, bits 31:0. -/
abbrev CONS_RXFCS.COUNT : Fld := { addr := 0x7030c, lo := 0, width := 32, acc := .cnt, dflt := 0, s1 := 0x4000, n1 := 4 }
/-- Chapter 09, CONS_RXERR offset 0x310, bits 31:0. -/
abbrev CONS_RXERR.COUNT : Fld := { addr := 0x70310, lo := 0, width := 32, acc := .cnt, dflt := 0, s1 := 0x4000, n1 := 4 }
/-- Chapter 09, CONS_RXNOBUF offset 0x314, bits 31:0. -/
abbrev CONS_RXNOBUF.COUNT : Fld := { addr := 0x70314, lo := 0, width := 32, acc := .cnt, dflt := 0, s1 := 0x4000, n1 := 4 }
/-- Chapter 09, CONS_RXDRY offset 0x318, bits 31:0. -/
abbrev CONS_RXDRY.COUNT : Fld := { addr := 0x70318, lo := 0, width := 32, acc := .cnt, dflt := 0, s1 := 0x4000, n1 := 4 }
/-- Chapter 09, CONS_FILTDROP offset 0x31C, bits 31:0. -/
abbrev CONS_FILTDROP.COUNT : Fld := { addr := 0x7031c, lo := 0, width := 32, acc := .cnt, dflt := 0, s1 := 0x4000, n1 := 4 }
/-- Chapter 09, CONS_MACCTL offset 0x320, bits 31:0. -/
abbrev CONS_MACCTL.COUNT : Fld := { addr := 0x70320, lo := 0, width := 32, acc := .cnt, dflt := 0, s1 := 0x4000, n1 := 4 }
/-- Chapter 09, CONS_PAUSERX offset 0x324, bits 31:0. -/
abbrev CONS_PAUSERX.COUNT : Fld := { addr := 0x70324, lo := 0, width := 32, acc := .cnt, dflt := 0, s1 := 0x4000, n1 := 4 }
/-- Chapter 09, CONS_PAUSETX offset 0x328, bits 31:0. -/
abbrev CONS_PAUSETX.COUNT : Fld := { addr := 0x70328, lo := 0, width := 32, acc := .cnt, dflt := 0, s1 := 0x4000, n1 := 4 }
/-- Chapter 09, CONS_PAUSEWD offset 0x32C, bits 31:0. -/
abbrev CONS_PAUSEWD.COUNT : Fld := { addr := 0x7032c, lo := 0, width := 32, acc := .cnt, dflt := 0, s1 := 0x4000, n1 := 4 }
/-- Chapter 09, CONS_TXGOOD offset 0x330, bits 31:0. -/
abbrev CONS_TXGOOD.COUNT : Fld := { addr := 0x70330, lo := 0, width := 32, acc := .cnt, dflt := 0, s1 := 0x4000, n1 := 4 }
/-- Chapter 09, CONS_TXLEN offset 0x334, bits 31:0. -/
abbrev CONS_TXLEN.COUNT : Fld := { addr := 0x70334, lo := 0, width := 32, acc := .cnt, dflt := 0, s1 := 0x4000, n1 := 4 }
/-- Chapter 09, CONS_TXFLUSH offset 0x338, bits 31:0. -/
abbrev CONS_TXFLUSH.COUNT : Fld := { addr := 0x70338, lo := 0, width := 32, acc := .cnt, dflt := 0, s1 := 0x4000, n1 := 4 }
/-- Chapter 09, CONS_TXWAIT offset 0x33C, bits 31:0. -/
abbrev CONS_TXWAIT.COUNT : Fld := { addr := 0x7033c, lo := 0, width := 32, acc := .cnt, dflt := 0, s1 := 0x4000, n1 := 4 }
/-- Chapter 09, CONS_LAUNCHLATE offset 0x340, bits 31:0. -/
abbrev CONS_LAUNCHLATE.COUNT : Fld := { addr := 0x70340, lo := 0, width := 32, acc := .cnt, dflt := 0, s1 := 0x4000, n1 := 4 }
/-- Chapter 09, CONS_SMDERR offset 0x344, bits 31:0. -/
abbrev CONS_SMDERR.COUNT : Fld := { addr := 0x70344, lo := 0, width := 32, acc := .cnt, dflt := 0, s1 := 0x4000, n1 := 4 }
/-- Chapter 10, CYCL_CTRL offset 0x000, bit 1. -/
abbrev CYCL_CTRL.CFGALL : Fld := { addr := 0x80000, lo := 1, width := 1, acc := .wo, dflt := 0 }
/-- Chapter 10, CYCL_CTRL offset 0x000, bit 0. -/
abbrev CYCL_CTRL.EN : Fld := { addr := 0x80000, lo := 0, width := 1, acc := .rw, dflt := 0 }
/-- Chapter 10, CYCL_STAT offset 0x004, bits 23:20. -/
abbrev CYCL_STAT.TRUN : Fld := { addr := 0x80004, lo := 20, width := 4, acc := .ro, dflt := 0 }
/-- Chapter 10, CYCL_STAT offset 0x004, bits 19:16. -/
abbrev CYCL_STAT.OVR : Fld := { addr := 0x80004, lo := 16, width := 4, acc := .ro, dflt := 0 }
/-- Chapter 10, CYCL_STAT offset 0x004, bits 15:12. -/
abbrev CYCL_STAT.CAUSE : Fld := { addr := 0x80004, lo := 12, width := 4, acc := .ro, dflt := 0 }
/-- Chapter 10, CYCL_STAT offset 0x004, bit 11. -/
abbrev CYCL_STAT.WIGN : Fld := { addr := 0x80004, lo := 11, width := 1, acc := .w1c, dflt := 0 }
/-- Chapter 10, CYCL_STAT offset 0x004, bit 10. -/
abbrev CYCL_STAT.KEYINV : Fld := { addr := 0x80004, lo := 10, width := 1, acc := .ro, dflt := 0 }
/-- Chapter 10, CYCL_STAT offset 0x004, bit 9. -/
abbrev CYCL_STAT.KEYA : Fld := { addr := 0x80004, lo := 9, width := 1, acc := .ro, dflt := 0 }
/-- Chapter 10, CYCL_STAT offset 0x004, bit 8. -/
abbrev CYCL_STAT.KEYB : Fld := { addr := 0x80004, lo := 8, width := 1, acc := .ro, dflt := 0 }
/-- Chapter 10, CYCL_STAT offset 0x004, bits 7:6. -/
abbrev CYCL_STAT.KEY : Fld := { addr := 0x80004, lo := 6, width := 2, acc := .ro, dflt := 0 }
/-- Chapter 10, CYCL_STAT offset 0x004, bits 2:0. -/
abbrev CYCL_STAT.ESTATE : Fld := { addr := 0x80004, lo := 0, width := 3, acc := .ro, dflt := 0 }
/-- Chapter 10, CYCL_TIMING offset 0x008, bits 15:0. -/
abbrev CYCL_TIMING.COMMITOFF : Fld := { addr := 0x80008, lo := 0, width := 16, acc := .rwg, dflt := 500 }
/-- Chapter 10, CYCL_IRQ offset 0x088, bit 7. -/
abbrev CYCL_IRQ.KEYINV : Fld := { addr := 0x80088, lo := 7, width := 1, acc := .w1c, dflt := 0 }
/-- Chapter 10, CYCL_IRQ offset 0x088, bit 6. -/
abbrev CYCL_IRQ.CLAIMHI : Fld := { addr := 0x80088, lo := 6, width := 1, acc := .w1c, dflt := 0 }
/-- Chapter 10, CYCL_IRQ offset 0x088, bit 5. -/
abbrev CYCL_IRQ.STCFG : Fld := { addr := 0x80088, lo := 5, width := 1, acc := .w1c, dflt := 0 }
/-- Chapter 10, CYCL_IRQ offset 0x088, bit 4. -/
abbrev CYCL_IRQ.STLOST : Fld := { addr := 0x80088, lo := 4, width := 1, acc := .w1c, dflt := 0 }
/-- Chapter 10, CYCL_IRQ offset 0x088, bit 3. -/
abbrev CYCL_IRQ.FAULT : Fld := { addr := 0x80088, lo := 3, width := 1, acc := .w1c, dflt := 0 }
/-- Chapter 10, CYCL_IRQ offset 0x088, bit 2. -/
abbrev CYCL_IRQ.OVERRUN : Fld := { addr := 0x80088, lo := 2, width := 1, acc := .w1c, dflt := 0 }
/-- Chapter 10, CYCL_IRQ offset 0x088, bit 1. -/
abbrev CYCL_IRQ.REFUSED : Fld := { addr := 0x80088, lo := 1, width := 1, acc := .w1c, dflt := 0 }
/-- Chapter 10, CYCL_IRQ offset 0x088, bit 0. -/
abbrev CYCL_IRQ.MODE : Fld := { addr := 0x80088, lo := 0, width := 1, acc := .w1c, dflt := 0 }
/-- Chapter 10, CYCL_IEN offset 0x08C, bit 7. -/
abbrev CYCL_IEN.KEYINV : Fld := { addr := 0x8008c, lo := 7, width := 1, acc := .rw, dflt := 0 }
/-- Chapter 10, CYCL_IEN offset 0x08C, bit 6. -/
abbrev CYCL_IEN.CLAIMHI : Fld := { addr := 0x8008c, lo := 6, width := 1, acc := .rw, dflt := 0 }
/-- Chapter 10, CYCL_IEN offset 0x08C, bit 5. -/
abbrev CYCL_IEN.STCFG : Fld := { addr := 0x8008c, lo := 5, width := 1, acc := .rw, dflt := 0 }
/-- Chapter 10, CYCL_IEN offset 0x08C, bit 4. -/
abbrev CYCL_IEN.STLOST : Fld := { addr := 0x8008c, lo := 4, width := 1, acc := .rw, dflt := 0 }
/-- Chapter 10, CYCL_IEN offset 0x08C, bit 3. -/
abbrev CYCL_IEN.FAULT : Fld := { addr := 0x8008c, lo := 3, width := 1, acc := .rw, dflt := 0 }
/-- Chapter 10, CYCL_IEN offset 0x08C, bit 2. -/
abbrev CYCL_IEN.OVERRUN : Fld := { addr := 0x8008c, lo := 2, width := 1, acc := .rw, dflt := 0 }
/-- Chapter 10, CYCL_IEN offset 0x08C, bit 1. -/
abbrev CYCL_IEN.REFUSED : Fld := { addr := 0x8008c, lo := 1, width := 1, acc := .rw, dflt := 0 }
/-- Chapter 10, CYCL_IEN offset 0x08C, bit 0. -/
abbrev CYCL_IEN.MODE : Fld := { addr := 0x8008c, lo := 0, width := 1, acc := .rw, dflt := 0 }
/-- Chapter 10, CYCL_CYC offset 0x090, bits 31:0. -/
abbrev CYCL_CYC.CYC : Fld := { addr := 0x80090, lo := 0, width := 32, acc := .ro, dflt := 0 }
/-- Chapter 10, CYCL_OUTSENT offset 0x100, bits 31:0. -/
abbrev CYCL_OUTSENT.COUNT : Fld := { addr := 0x80100, lo := 0, width := 32, acc := .cnt, dflt := 0 }
/-- Chapter 10, CYCL_CFGSENT offset 0x104, bits 31:0. -/
abbrev CYCL_CFGSENT.COUNT : Fld := { addr := 0x80104, lo := 0, width := 32, acc := .cnt, dflt := 0 }
/-- Chapter 10, CYCL_INGOOD offset 0x108, bits 31:0. -/
abbrev CYCL_INGOOD.COUNT : Fld := { addr := 0x80108, lo := 0, width := 32, acc := .cnt, dflt := 0 }
/-- Chapter 10, CYCL_INBAD offset 0x10C, bits 31:0. -/
abbrev CYCL_INBAD.COUNT : Fld := { addr := 0x8010c, lo := 0, width := 32, acc := .cnt, dflt := 0 }
/-- Chapter 10, CYCL_INSTRAY offset 0x110, bits 31:0. -/
abbrev CYCL_INSTRAY.COUNT : Fld := { addr := 0x80110, lo := 0, width := 32, acc := .cnt, dflt := 0 }
/-- Chapter 10, CYCL_INLATE offset 0x114, bits 31:0. -/
abbrev CYCL_INLATE.COUNT : Fld := { addr := 0x80114, lo := 0, width := 32, acc := .cnt, dflt := 0 }
/-- Chapter 10, CYCL_OVERRUN offset 0x118, bits 31:0. -/
abbrev CYCL_OVERRUN.COUNT : Fld := { addr := 0x80118, lo := 0, width := 32, acc := .cnt, dflt := 0 }
/-- Chapter 10, CYCL_KEYINV offset 0x11C, bits 31:0. -/
abbrev CYCL_KEYINV.COUNT : Fld := { addr := 0x8011c, lo := 0, width := 32, acc := .cnt, dflt := 0 }
/-- Chapter 10, CYCL_STLOST offset 0x120, bits 31:0. -/
abbrev CYCL_STLOST.COUNT : Fld := { addr := 0x80120, lo := 0, width := 32, acc := .cnt, dflt := 0 }
/-- Chapter 11, PRG_STAT offset 0x140, bits 31:28. -/
abbrev PRG_STAT.RES : Fld := { addr := 0x80140, lo := 28, width := 4, acc := .ro, dflt := 0 }
/-- Chapter 11, PRG_STAT offset 0x140, bits 27:25. -/
abbrev PRG_STAT.OPRUN : Fld := { addr := 0x80140, lo := 25, width := 3, acc := .ro, dflt := 0 }
/-- Chapter 11, PRG_STAT offset 0x140, bit 24. -/
abbrev PRG_STAT.SWPEND : Fld := { addr := 0x80140, lo := 24, width := 1, acc := .ro, dflt := 0 }
/-- Chapter 11, PRG_STAT offset 0x140, bit 19. -/
abbrev PRG_STAT.ISTORED : Fld := { addr := 0x80140, lo := 19, width := 1, acc := .ro, dflt := 0 }
/-- Chapter 11, PRG_STAT offset 0x140, bit 18. -/
abbrev PRG_STAT.IVALID : Fld := { addr := 0x80140, lo := 18, width := 1, acc := .ro, dflt := 0 }
/-- Chapter 11, PRG_STAT offset 0x140, bit 17. -/
abbrev PRG_STAT.AVALID : Fld := { addr := 0x80140, lo := 17, width := 1, acc := .ro, dflt := 0 }
/-- Chapter 11, PRG_STAT offset 0x140, bit 16. -/
abbrev PRG_STAT.STARTB : Fld := { addr := 0x80140, lo := 16, width := 1, acc := .ro, dflt := 0 }
/-- Chapter 11, PRG_STAT offset 0x140, bit 15. -/
abbrev PRG_STAT.ACTB : Fld := { addr := 0x80140, lo := 15, width := 1, acc := .ro, dflt := 0 }
/-- Chapter 11, PRG_STAT offset 0x140, bit 1. -/
abbrev PRG_STAT.BUSY : Fld := { addr := 0x80140, lo := 1, width := 1, acc := .ro, dflt := 0 }
/-- Chapter 11, PRG_CMD offset 0x144, bits 31:28. -/
abbrev PRG_CMD.OP : Fld := { addr := 0x80144, lo := 28, width := 4, acc := .wp, dflt := 0 }
/-- Chapter 11, PRG_CMD offset 0x144, bit 8. -/
abbrev PRG_CMD.FCLR : Fld := { addr := 0x80144, lo := 8, width := 1, acc := .wp, dflt := 0 }
/-- Chapter 11, PRG_CMD offset 0x144, bit 0. -/
abbrev PRG_CMD.BANK : Fld := { addr := 0x80144, lo := 0, width := 1, acc := .wp, dflt := 0 }
/-- Chapter 11, PRG_VSTAT offset 0x148, bits 31:27. -/
abbrev PRG_VSTAT.RESULT : Fld := { addr := 0x80148, lo := 27, width := 5, acc := .ro, dflt := 0 }
/-- Chapter 11, PRG_VSTAT offset 0x148, bit 26. -/
abbrev PRG_VSTAT.IDXV : Fld := { addr := 0x80148, lo := 26, width := 1, acc := .ro, dflt := 0 }
/-- Chapter 11, PRG_VSTAT offset 0x148, bits 16:0. -/
abbrev PRG_VSTAT.INDEX : Fld := { addr := 0x80148, lo := 0, width := 17, acc := .ro, dflt := 0 }
/-- Chapter 11, PRG_SWCYC offset 0x164, bits 31:0. -/
abbrev PRG_SWCYC.CYC : Fld := { addr := 0x80164, lo := 0, width := 32, acc := .ro, dflt := 0 }
/-- Chapter 11, PRG_IRQ offset 0x168, bit 4. -/
abbrev PRG_IRQ.STARTALT : Fld := { addr := 0x80168, lo := 4, width := 1, acc := .w1c, dflt := 0 }
/-- Chapter 11, PRG_IRQ offset 0x168, bit 3. -/
abbrev PRG_IRQ.FREF : Fld := { addr := 0x80168, lo := 3, width := 1, acc := .w1c, dflt := 0 }
/-- Chapter 11, PRG_IRQ offset 0x168, bit 2. -/
abbrev PRG_IRQ.SWREF : Fld := { addr := 0x80168, lo := 2, width := 1, acc := .w1c, dflt := 0 }
/-- Chapter 11, PRG_IRQ offset 0x168, bit 1. -/
abbrev PRG_IRQ.SWAP : Fld := { addr := 0x80168, lo := 1, width := 1, acc := .w1c, dflt := 0 }
/-- Chapter 11, PRG_IRQ offset 0x168, bit 0. -/
abbrev PRG_IRQ.OPDONE : Fld := { addr := 0x80168, lo := 0, width := 1, acc := .w1c, dflt := 0 }
/-- Chapter 11, PRG_IEN offset 0x16C, bit 4. -/
abbrev PRG_IEN.STARTALT : Fld := { addr := 0x8016c, lo := 4, width := 1, acc := .rw, dflt := 0 }
/-- Chapter 11, PRG_IEN offset 0x16C, bit 3. -/
abbrev PRG_IEN.FREF : Fld := { addr := 0x8016c, lo := 3, width := 1, acc := .rw, dflt := 0 }
/-- Chapter 11, PRG_IEN offset 0x16C, bit 2. -/
abbrev PRG_IEN.SWREF : Fld := { addr := 0x8016c, lo := 2, width := 1, acc := .rw, dflt := 0 }
/-- Chapter 11, PRG_IEN offset 0x16C, bit 1. -/
abbrev PRG_IEN.SWAP : Fld := { addr := 0x8016c, lo := 1, width := 1, acc := .rw, dflt := 0 }
/-- Chapter 11, PRG_IEN offset 0x16C, bit 0. -/
abbrev PRG_IEN.OPDONE : Fld := { addr := 0x8016c, lo := 0, width := 1, acc := .rw, dflt := 0 }
/-- Chapter 12, TWIN_CTRL offset 0x000, bit 3. -/
abbrev TWIN_CTRL.TAKE : Fld := { addr := 0x90000, lo := 3, width := 1, acc := .wo, dflt := 0 }
/-- Chapter 12, TWIN_CTRL offset 0x000, bit 2. -/
abbrev TWIN_CTRL.YIELD : Fld := { addr := 0x90000, lo := 2, width := 1, acc := .wo, dflt := 0 }
/-- Chapter 12, TWIN_CTRL offset 0x000, bit 1. -/
abbrev TWIN_CTRL.MIREN : Fld := { addr := 0x90000, lo := 1, width := 1, acc := .rw, dflt := 1 }
/-- Chapter 12, TWIN_CTRL offset 0x000, bit 0. -/
abbrev TWIN_CTRL.EN : Fld := { addr := 0x90000, lo := 0, width := 1, acc := .rw, dflt := 1 }
/-- Chapter 12, TWIN_CFG offset 0x004, bit 31. -/
abbrev TWIN_CFG.TWEN : Fld := { addr := 0x90004, lo := 31, width := 1, acc := .rw, dflt := 0 }
/-- Chapter 12, TWIN_CFG offset 0x004, bits 25:24. -/
abbrev TWIN_CFG.HBPORT : Fld := { addr := 0x90004, lo := 24, width := 2, acc := .rwg, dflt := 3 }
/-- Chapter 12, TWIN_CFG offset 0x004, bits 19:16. -/
abbrev TWIN_CFG.CBMISS : Fld := { addr := 0x90004, lo := 16, width := 4, acc := .rwg, dflt := 3 }
/-- Chapter 12, TWIN_CFG offset 0x004, bits 15:12. -/
abbrev TWIN_CFG.HBMISS : Fld := { addr := 0x90004, lo := 12, width := 4, acc := .rwg, dflt := 5 }
/-- Chapter 12, TWIN_CFG offset 0x004, bits 7:0. -/
abbrev TWIN_CFG.VACWIN : Fld := { addr := 0x90004, lo := 0, width := 8, acc := .rwg, dflt := 32 }
/-- Chapter 12, TWIN_HBETYPE offset 0x008, bits 15:0. -/
abbrev TWIN_HBETYPE.ETYPE : Fld := { addr := 0x90008, lo := 0, width := 16, acc := .rwg, dflt := 34998 }
/-- Chapter 12, TWIN_STAT offset 0x00C, bit 15. -/
abbrev TWIN_STAT.WIGN : Fld := { addr := 0x9000c, lo := 15, width := 1, acc := .w1c, dflt := 0 }
/-- Chapter 12, TWIN_STAT offset 0x00C, bit 14. -/
abbrev TWIN_STAT.NEEDFULL : Fld := { addr := 0x9000c, lo := 14, width := 1, acc := .ro, dflt := 0 }
/-- Chapter 12, TWIN_STAT offset 0x00C, bit 13. -/
abbrev TWIN_STAT.MIRCONS : Fld := { addr := 0x9000c, lo := 13, width := 1, acc := .ro, dflt := 0 }
/-- Chapter 12, TWIN_STAT offset 0x00C, bit 12. -/
abbrev TWIN_STAT.MIRSLOT : Fld := { addr := 0x9000c, lo := 12, width := 1, acc := .ro, dflt := 0 }
/-- Chapter 12, TWIN_STAT offset 0x00C, bit 11. -/
abbrev TWIN_STAT.RELPEND : Fld := { addr := 0x9000c, lo := 11, width := 1, acc := .ro, dflt := 0 }
/-- Chapter 12, TWIN_STAT offset 0x00C, bit 10. -/
abbrev TWIN_STAT.ROLEACT : Fld := { addr := 0x9000c, lo := 10, width := 1, acc := .ro, dflt := 0 }
/-- Chapter 12, TWIN_STAT offset 0x00C, bit 9. -/
abbrev TWIN_STAT.CBOK : Fld := { addr := 0x9000c, lo := 9, width := 1, acc := .ro, dflt := 0 }
/-- Chapter 12, TWIN_STAT offset 0x00C, bit 8. -/
abbrev TWIN_STAT.TLOK : Fld := { addr := 0x9000c, lo := 8, width := 1, acc := .ro, dflt := 0 }
/-- Chapter 12, TWIN_STAT offset 0x00C, bit 7. -/
abbrev TWIN_STAT.TWON : Fld := { addr := 0x9000c, lo := 7, width := 1, acc := .ro, dflt := 0 }
/-- Chapter 12, TWIN_STAT offset 0x00C, bit 3. -/
abbrev TWIN_STAT.HALF : Fld := { addr := 0x9000c, lo := 3, width := 1, acc := .ro, dflt := 0 }
/-- Chapter 12, TWIN_STAT offset 0x00C, bits 2:0. -/
abbrev TWIN_STAT.TSTATE : Fld := { addr := 0x9000c, lo := 0, width := 3, acc := .ro, dflt := 0 }
/-- Chapter 12, TWIN_IRQ offset 0x030, bit 7. -/
abbrev TWIN_IRQ.MIRBAD : Fld := { addr := 0x90030, lo := 7, width := 1, acc := .w1c, dflt := 0 }
/-- Chapter 12, TWIN_IRQ offset 0x030, bit 6. -/
abbrev TWIN_IRQ.VERDICT : Fld := { addr := 0x90030, lo := 6, width := 1, acc := .w1c, dflt := 0 }
/-- Chapter 12, TWIN_IRQ offset 0x030, bit 5. -/
abbrev TWIN_IRQ.ONEPATH : Fld := { addr := 0x90030, lo := 5, width := 1, acc := .w1c, dflt := 0 }
/-- Chapter 12, TWIN_IRQ offset 0x030, bit 4. -/
abbrev TWIN_IRQ.PBACK : Fld := { addr := 0x90030, lo := 4, width := 1, acc := .w1c, dflt := 0 }
/-- Chapter 12, TWIN_IRQ offset 0x030, bit 3. -/
abbrev TWIN_IRQ.PLOST : Fld := { addr := 0x90030, lo := 3, width := 1, acc := .w1c, dflt := 0 }
/-- Chapter 12, TWIN_IRQ offset 0x030, bit 2. -/
abbrev TWIN_IRQ.YIELD : Fld := { addr := 0x90030, lo := 2, width := 1, acc := .w1c, dflt := 0 }
/-- Chapter 12, TWIN_IRQ offset 0x030, bit 1. -/
abbrev TWIN_IRQ.TAKE : Fld := { addr := 0x90030, lo := 1, width := 1, acc := .w1c, dflt := 0 }
/-- Chapter 12, TWIN_IRQ offset 0x030, bit 0. -/
abbrev TWIN_IRQ.STATE : Fld := { addr := 0x90030, lo := 0, width := 1, acc := .w1c, dflt := 0 }
/-- Chapter 12, TWIN_IEN offset 0x034, bit 7. -/
abbrev TWIN_IEN.MIRBAD : Fld := { addr := 0x90034, lo := 7, width := 1, acc := .rw, dflt := 0 }
/-- Chapter 12, TWIN_IEN offset 0x034, bit 6. -/
abbrev TWIN_IEN.VERDICT : Fld := { addr := 0x90034, lo := 6, width := 1, acc := .rw, dflt := 0 }
/-- Chapter 12, TWIN_IEN offset 0x034, bit 5. -/
abbrev TWIN_IEN.ONEPATH : Fld := { addr := 0x90034, lo := 5, width := 1, acc := .rw, dflt := 0 }
/-- Chapter 12, TWIN_IEN offset 0x034, bit 4. -/
abbrev TWIN_IEN.PBACK : Fld := { addr := 0x90034, lo := 4, width := 1, acc := .rw, dflt := 0 }
/-- Chapter 12, TWIN_IEN offset 0x034, bit 3. -/
abbrev TWIN_IEN.PLOST : Fld := { addr := 0x90034, lo := 3, width := 1, acc := .rw, dflt := 0 }
/-- Chapter 12, TWIN_IEN offset 0x034, bit 2. -/
abbrev TWIN_IEN.YIELD : Fld := { addr := 0x90034, lo := 2, width := 1, acc := .rw, dflt := 0 }
/-- Chapter 12, TWIN_IEN offset 0x034, bit 1. -/
abbrev TWIN_IEN.TAKE : Fld := { addr := 0x90034, lo := 1, width := 1, acc := .rw, dflt := 0 }
/-- Chapter 12, TWIN_IEN offset 0x034, bit 0. -/
abbrev TWIN_IEN.STATE : Fld := { addr := 0x90034, lo := 0, width := 1, acc := .rw, dflt := 0 }
/-- Chapter 12, TWIN_TLHB offset 0x040, bits 31:0. -/
abbrev TWIN_TLHB.COUNT : Fld := { addr := 0x90040, lo := 0, width := 32, acc := .cnt, dflt := 0 }
/-- Chapter 12, TWIN_CBHB offset 0x044, bits 31:0. -/
abbrev TWIN_CBHB.COUNT : Fld := { addr := 0x90044, lo := 0, width := 32, acc := .cnt, dflt := 0 }
/-- Chapter 12, TWIN_TLERR offset 0x048, bits 31:0. -/
abbrev TWIN_TLERR.COUNT : Fld := { addr := 0x90048, lo := 0, width := 32, acc := .cnt, dflt := 0 }
/-- Chapter 12, TWIN_TAKES offset 0x04C, bits 31:0. -/
abbrev TWIN_TAKES.COUNT : Fld := { addr := 0x9004c, lo := 0, width := 32, acc := .cnt, dflt := 0 }
/-- Chapter 12, TWIN_YIELDS offset 0x050, bits 31:0. -/
abbrev TWIN_YIELDS.COUNT : Fld := { addr := 0x90050, lo := 0, width := 32, acc := .cnt, dflt := 0 }
/-- Chapter 12, TWIN_RLYSENT offset 0x054, bits 31:0. -/
abbrev TWIN_RLYSENT.COUNT : Fld := { addr := 0x90054, lo := 0, width := 32, acc := .cnt, dflt := 0 }
/-- Chapter 12, TWIN_RLYSKIP offset 0x058, bits 31:0. -/
abbrev TWIN_RLYSKIP.COUNT : Fld := { addr := 0x90058, lo := 0, width := 32, acc := .cnt, dflt := 0 }
/-- Chapter 12, TWIN_MIRSETS offset 0x05C, bits 31:0. -/
abbrev TWIN_MIRSETS.COUNT : Fld := { addr := 0x9005c, lo := 0, width := 32, acc := .cnt, dflt := 0 }
/-- Chapter 12, TWIN_MIRBAD offset 0x060, bits 31:0. -/
abbrev TWIN_MIRBAD.COUNT : Fld := { addr := 0x90060, lo := 0, width := 32, acc := .cnt, dflt := 0 }
/-- Chapter 12, TWIN_VERDTX offset 0x064, bits 31:0. -/
abbrev TWIN_VERDTX.COUNT : Fld := { addr := 0x90064, lo := 0, width := 32, acc := .cnt, dflt := 0 }
/-- Chapter 12, TWIN_VERDRX offset 0x068, bits 31:0. -/
abbrev TWIN_VERDRX.COUNT : Fld := { addr := 0x90068, lo := 0, width := 32, acc := .cnt, dflt := 0 }
/-- Chapter 13, REST_CTRL offset 0x000, bit 4. -/
abbrev REST_CTRL.SAVE : Fld := { addr := 0xa0000, lo := 4, width := 1, acc := .wo, dflt := 0 }
/-- Chapter 13, REST_CTRL offset 0x000, bit 3. -/
abbrev REST_CTRL.HOLD : Fld := { addr := 0xa0000, lo := 3, width := 1, acc := .rw, dflt := 0 }
/-- Chapter 13, REST_CTRL offset 0x000, bit 2. -/
abbrev REST_CTRL.TWL : Fld := { addr := 0xa0000, lo := 2, width := 1, acc := .wo, dflt := 0 }
/-- Chapter 13, REST_CTRL offset 0x000, bit 1. -/
abbrev REST_CTRL.DUSK : Fld := { addr := 0xa0000, lo := 1, width := 1, acc := .wo, dflt := 0 }
/-- Chapter 13, REST_CTRL offset 0x000, bit 0. -/
abbrev REST_CTRL.EN : Fld := { addr := 0xa0000, lo := 0, width := 1, acc := .rw, dflt := 1 }
/-- Chapter 13, REST_STAT offset 0x004, bits 15:12. -/
abbrev REST_STAT.RES : Fld := { addr := 0xa0004, lo := 12, width := 4, acc := .ro, dflt := 0 }
/-- Chapter 13, REST_STAT offset 0x004, bit 11. -/
abbrev REST_STAT.WIGN : Fld := { addr := 0xa0004, lo := 11, width := 1, acc := .w1c, dflt := 0 }
/-- Chapter 13, REST_STAT offset 0x004, bit 9. -/
abbrev REST_STAT.BUSY : Fld := { addr := 0xa0004, lo := 9, width := 1, acc := .ro, dflt := 0 }
/-- Chapter 13, REST_STAT offset 0x004, bit 8. -/
abbrev REST_STAT.CFGBAD : Fld := { addr := 0xa0004, lo := 8, width := 1, acc := .ro, dflt := 0 }
/-- Chapter 13, REST_STAT offset 0x004, bit 7. -/
abbrev REST_STAT.CFGDIRTY : Fld := { addr := 0xa0004, lo := 7, width := 1, acc := .ro, dflt := 0 }
/-- Chapter 13, REST_STAT offset 0x004, bit 6. -/
abbrev REST_STAT.HELD : Fld := { addr := 0xa0004, lo := 6, width := 1, acc := .ro, dflt := 0 }
/-- Chapter 13, REST_STAT offset 0x004, bits 5:3. -/
abbrev REST_STAT.DSTATE : Fld := { addr := 0xa0004, lo := 3, width := 3, acc := .ro, dflt := 0 }
/-- Chapter 13, REST_STAT offset 0x004, bits 2:0. -/
abbrev REST_STAT.PSTATE : Fld := { addr := 0xa0004, lo := 0, width := 3, acc := .ro, dflt := 0 }
/-- Chapter 13, REST_CFG offset 0x008, bits 31:24. -/
abbrev REST_CFG.TDUSK : Fld := { addr := 0xa0008, lo := 24, width := 8, acc := .rw, dflt := 8 }
/-- Chapter 13, REST_CFG offset 0x008, bits 18:16. -/
abbrev REST_CFG.TWMODE : Fld := { addr := 0xa0008, lo := 16, width := 3, acc := .rwg, dflt := 7 }
/-- Chapter 13, REST_CFG offset 0x008, bit 7. -/
abbrev REST_CFG.VSAVE : Fld := { addr := 0xa0008, lo := 7, width := 1, acc := .rw, dflt := 0 }
/-- Chapter 13, REST_CFG offset 0x008, bit 6. -/
abbrev REST_CFG.VLEAD : Fld := { addr := 0xa0008, lo := 6, width := 1, acc := .rw, dflt := 0 }
/-- Chapter 13, REST_CFG offset 0x008, bit 5. -/
abbrev REST_CFG.VPIN : Fld := { addr := 0xa0008, lo := 5, width := 1, acc := .rw, dflt := 1 }
/-- Chapter 13, REST_CFG offset 0x008, bit 4. -/
abbrev REST_CFG.VENG : Fld := { addr := 0xa0008, lo := 4, width := 1, acc := .rw, dflt := 1 }
/-- Chapter 13, REST_CFG offset 0x008, bit 3. -/
abbrev REST_CFG.VKEY : Fld := { addr := 0xa0008, lo := 3, width := 1, acc := .rw, dflt := 1 }
/-- Chapter 13, REST_CFG offset 0x008, bit 0. -/
abbrev REST_CFG.TWKEEP : Fld := { addr := 0xa0008, lo := 0, width := 1, acc := .rw, dflt := 0 }
/-- Chapter 13, REST_WAKE offset 0x00C, bit 4. -/
abbrev REST_WAKE.WPOL : Fld := { addr := 0xa000c, lo := 4, width := 1, acc := .rw, dflt := 0 }
/-- Chapter 13, REST_WAKE offset 0x00C, bit 3. -/
abbrev REST_WAKE.WALARM : Fld := { addr := 0xa000c, lo := 3, width := 1, acc := .rw, dflt := 0 }
/-- Chapter 13, REST_WAKE offset 0x00C, bit 2. -/
abbrev REST_WAKE.WLEAD : Fld := { addr := 0xa000c, lo := 2, width := 1, acc := .rw, dflt := 0 }
/-- Chapter 13, REST_WAKE offset 0x00C, bit 1. -/
abbrev REST_WAKE.WKEY : Fld := { addr := 0xa000c, lo := 1, width := 1, acc := .rw, dflt := 0 }
/-- Chapter 13, REST_WAKE offset 0x00C, bit 0. -/
abbrev REST_WAKE.WPIN : Fld := { addr := 0xa000c, lo := 0, width := 1, acc := .rw, dflt := 1 }
/-- Chapter 13, REST_WAKESRC offset 0x01C, bits 31:28. -/
abbrev REST_WAKESRC.SRC : Fld := { addr := 0xa001c, lo := 28, width := 4, acc := .ro, dflt := 0 }
/-- Chapter 13, REST_WAKESRC offset 0x01C, bits 27:26. -/
abbrev REST_WAKESRC.LANE : Fld := { addr := 0xa001c, lo := 26, width := 2, acc := .ro, dflt := 0 }
/-- Chapter 13, REST_WAKESRC offset 0x01C, bits 15:0. -/
abbrev REST_WAKESRC.POS : Fld := { addr := 0xa001c, lo := 0, width := 16, acc := .ro, dflt := 0 }
/-- Chapter 13, REST_IRQ offset 0x020, bit 6. -/
abbrev REST_IRQ.SAVED : Fld := { addr := 0xa0020, lo := 6, width := 1, acc := .w1c, dflt := 0 }
/-- Chapter 13, REST_IRQ offset 0x020, bit 5. -/
abbrev REST_IRQ.CFGBAD : Fld := { addr := 0xa0020, lo := 5, width := 1, acc := .w1c, dflt := 0 }
/-- Chapter 13, REST_IRQ offset 0x020, bit 4. -/
abbrev REST_IRQ.DAWN : Fld := { addr := 0xa0020, lo := 4, width := 1, acc := .w1c, dflt := 0 }
/-- Chapter 13, REST_IRQ offset 0x020, bit 3. -/
abbrev REST_IRQ.VETO : Fld := { addr := 0xa0020, lo := 3, width := 1, acc := .w1c, dflt := 0 }
/-- Chapter 13, REST_IRQ offset 0x020, bit 2. -/
abbrev REST_IRQ.CANCEL : Fld := { addr := 0xa0020, lo := 2, width := 1, acc := .w1c, dflt := 0 }
/-- Chapter 13, REST_IRQ offset 0x020, bit 1. -/
abbrev REST_IRQ.COMMIT : Fld := { addr := 0xa0020, lo := 1, width := 1, acc := .w1c, dflt := 0 }
/-- Chapter 13, REST_IRQ offset 0x020, bit 0. -/
abbrev REST_IRQ.ROUND : Fld := { addr := 0xa0020, lo := 0, width := 1, acc := .w1c, dflt := 0 }
/-- Chapter 13, REST_IEN offset 0x024, bit 6. -/
abbrev REST_IEN.SAVED : Fld := { addr := 0xa0024, lo := 6, width := 1, acc := .rw, dflt := 0 }
/-- Chapter 13, REST_IEN offset 0x024, bit 5. -/
abbrev REST_IEN.CFGBAD : Fld := { addr := 0xa0024, lo := 5, width := 1, acc := .rw, dflt := 0 }
/-- Chapter 13, REST_IEN offset 0x024, bit 4. -/
abbrev REST_IEN.DAWN : Fld := { addr := 0xa0024, lo := 4, width := 1, acc := .rw, dflt := 0 }
/-- Chapter 13, REST_IEN offset 0x024, bit 3. -/
abbrev REST_IEN.VETO : Fld := { addr := 0xa0024, lo := 3, width := 1, acc := .rw, dflt := 0 }
/-- Chapter 13, REST_IEN offset 0x024, bit 2. -/
abbrev REST_IEN.CANCEL : Fld := { addr := 0xa0024, lo := 2, width := 1, acc := .rw, dflt := 0 }
/-- Chapter 13, REST_IEN offset 0x024, bit 1. -/
abbrev REST_IEN.COMMIT : Fld := { addr := 0xa0024, lo := 1, width := 1, acc := .rw, dflt := 0 }
/-- Chapter 13, REST_IEN offset 0x024, bit 0. -/
abbrev REST_IEN.ROUND : Fld := { addr := 0xa0024, lo := 0, width := 1, acc := .rw, dflt := 0 }
/-- Chapter 13, REST_ROUNDS offset 0x040, bits 31:0. -/
abbrev REST_ROUNDS.COUNT : Fld := { addr := 0xa0040, lo := 0, width := 32, acc := .cnt, dflt := 0 }
/-- Chapter 13, REST_VETO offset 0x044, bits 31:0. -/
abbrev REST_VETO.COUNT : Fld := { addr := 0xa0044, lo := 0, width := 32, acc := .cnt, dflt := 0 }
/-- Chapter 13, REST_RETRACT offset 0x048, bits 31:0. -/
abbrev REST_RETRACT.COUNT : Fld := { addr := 0xa0048, lo := 0, width := 32, acc := .cnt, dflt := 0 }
/-- Chapter 13, REST_CANCEL offset 0x04C, bits 31:0. -/
abbrev REST_CANCEL.COUNT : Fld := { addr := 0xa004c, lo := 0, width := 32, acc := .cnt, dflt := 0 }
/-- Chapter 13, REST_COMMITS offset 0x050, bits 31:0. -/
abbrev REST_COMMITS.COUNT : Fld := { addr := 0xa0050, lo := 0, width := 32, acc := .cnt, dflt := 0 }
/-- Chapter 13, REST_DAWNS offset 0x054, bits 31:0. -/
abbrev REST_DAWNS.COUNT : Fld := { addr := 0xa0054, lo := 0, width := 32, acc := .cnt, dflt := 0 }
/-- Chapter 13, REST_GUARD offset 0x058, bits 31:0. -/
abbrev REST_GUARD.COUNT : Fld := { addr := 0xa0058, lo := 0, width := 32, acc := .cnt, dflt := 0 }
/-- Chapter 14, RECD_CTRL offset 0x000, bit 1. -/
abbrev RECD_CTRL.MIREN : Fld := { addr := 0xb0000, lo := 1, width := 1, acc := .rwg, dflt := 0 }
/-- Chapter 14, RECD_CTRL offset 0x000, bit 0. -/
abbrev RECD_CTRL.EN : Fld := { addr := 0xb0000, lo := 0, width := 1, acc := .rw, dflt := 1 }
/-- Chapter 14, RECD_STAT offset 0x004, bit 12. -/
abbrev RECD_STAT.MIRFAIL : Fld := { addr := 0xb0004, lo := 12, width := 1, acc := .ro, dflt := 0 }
/-- Chapter 14, RECD_STAT offset 0x004, bit 11. -/
abbrev RECD_STAT.CKBAD : Fld := { addr := 0xb0004, lo := 11, width := 1, acc := .ro, dflt := 0 }
/-- Chapter 14, RECD_STAT offset 0x004, bits 10:8. -/
abbrev RECD_STAT.HWRES : Fld := { addr := 0xb0004, lo := 8, width := 3, acc := .ro, dflt := 0 }
/-- Chapter 14, RECD_STAT offset 0x004, bit 6. -/
abbrev RECD_STAT.BUSY : Fld := { addr := 0xb0004, lo := 6, width := 1, acc := .ro, dflt := 0 }
/-- Chapter 14, RECD_STAT offset 0x004, bit 5. -/
abbrev RECD_STAT.CPERR : Fld := { addr := 0xb0004, lo := 5, width := 1, acc := .w1c, dflt := 0 }
/-- Chapter 14, RECD_STAT offset 0x004, bit 4. -/
abbrev RECD_STAT.WIGN : Fld := { addr := 0xb0004, lo := 4, width := 1, acc := .w1c, dflt := 0 }
/-- Chapter 14, RECD_STAT offset 0x004, bit 3. -/
abbrev RECD_STAT.FROZEN : Fld := { addr := 0xb0004, lo := 3, width := 1, acc := .ro, dflt := 0 }
/-- Chapter 14, RECD_STAT offset 0x004, bits 2:0. -/
abbrev RECD_STAT.STATE : Fld := { addr := 0xb0004, lo := 0, width := 3, acc := .ro, dflt := 0 }
/-- Chapter 14, RECD_FREEZE offset 0x008, bits 3:0. -/
abbrev RECD_FREEZE.SECS : Fld := { addr := 0xb0008, lo := 0, width := 4, acc := .wcp, dflt := 0 }
/-- Chapter 14, RECD_IRQ offset 0x070, bit 6. -/
abbrev RECD_IRQ.MIR : Fld := { addr := 0xb0070, lo := 6, width := 1, acc := .w1c, dflt := 0 }
/-- Chapter 14, RECD_IRQ offset 0x070, bit 5. -/
abbrev RECD_IRQ.FAILED : Fld := { addr := 0xb0070, lo := 5, width := 1, acc := .w1c, dflt := 0 }
/-- Chapter 14, RECD_IRQ offset 0x070, bit 4. -/
abbrev RECD_IRQ.RETIRE : Fld := { addr := 0xb0070, lo := 4, width := 1, acc := .w1c, dflt := 0 }
/-- Chapter 14, RECD_IRQ offset 0x070, bit 3. -/
abbrev RECD_IRQ.FREEZE : Fld := { addr := 0xb0070, lo := 3, width := 1, acc := .w1c, dflt := 0 }
/-- Chapter 14, RECD_IRQ offset 0x070, bit 2. -/
abbrev RECD_IRQ.LOST : Fld := { addr := 0xb0070, lo := 2, width := 1, acc := .w1c, dflt := 0 }
/-- Chapter 14, RECD_IRQ offset 0x070, bit 1. -/
abbrev RECD_IRQ.SUPPR : Fld := { addr := 0xb0070, lo := 1, width := 1, acc := .w1c, dflt := 0 }
/-- Chapter 14, RECD_IRQ offset 0x070, bit 0. -/
abbrev RECD_IRQ.HW : Fld := { addr := 0xb0070, lo := 0, width := 1, acc := .w1c, dflt := 0 }
/-- Chapter 14, RECD_IEN offset 0x074, bit 6. -/
abbrev RECD_IEN.MIR : Fld := { addr := 0xb0074, lo := 6, width := 1, acc := .rw, dflt := 0 }
/-- Chapter 14, RECD_IEN offset 0x074, bit 5. -/
abbrev RECD_IEN.FAILED : Fld := { addr := 0xb0074, lo := 5, width := 1, acc := .rw, dflt := 0 }
/-- Chapter 14, RECD_IEN offset 0x074, bit 4. -/
abbrev RECD_IEN.RETIRE : Fld := { addr := 0xb0074, lo := 4, width := 1, acc := .rw, dflt := 0 }
/-- Chapter 14, RECD_IEN offset 0x074, bit 3. -/
abbrev RECD_IEN.FREEZE : Fld := { addr := 0xb0074, lo := 3, width := 1, acc := .rw, dflt := 0 }
/-- Chapter 14, RECD_IEN offset 0x074, bit 2. -/
abbrev RECD_IEN.LOST : Fld := { addr := 0xb0074, lo := 2, width := 1, acc := .rw, dflt := 0 }
/-- Chapter 14, RECD_IEN offset 0x074, bit 1. -/
abbrev RECD_IEN.SUPPR : Fld := { addr := 0xb0074, lo := 1, width := 1, acc := .rw, dflt := 0 }
/-- Chapter 14, RECD_IEN offset 0x074, bit 0. -/
abbrev RECD_IEN.HW : Fld := { addr := 0xb0074, lo := 0, width := 1, acc := .rw, dflt := 0 }
/-- Chapter 14, RECD_WRITTEN offset 0x080, bits 31:0. -/
abbrev RECD_WRITTEN.COUNT : Fld := { addr := 0xb0080, lo := 0, width := 32, acc := .cnt, dflt := 0 }
/-- Chapter 14, RECD_SUPPR offset 0x084, bits 31:0. -/
abbrev RECD_SUPPR.COUNT : Fld := { addr := 0xb0084, lo := 0, width := 32, acc := .cnt, dflt := 0 }
/-- Chapter 14, RECD_LOST offset 0x088, bits 31:0. -/
abbrev RECD_LOST.COUNT : Fld := { addr := 0xb0088, lo := 0, width := 32, acc := .cnt, dflt := 0 }
/-- Chapter 14, RECD_TORN offset 0x08C, bits 31:0. -/
abbrev RECD_TORN.COUNT : Fld := { addr := 0xb008c, lo := 0, width := 32, acc := .cnt, dflt := 0 }
/-- Chapter 14, RECD_ECCCOR offset 0x090, bits 31:0. -/
abbrev RECD_ECCCOR.COUNT : Fld := { addr := 0xb0090, lo := 0, width := 32, acc := .cnt, dflt := 0 }
/-- Chapter 14, RECD_ECCUNC offset 0x094, bits 31:0. -/
abbrev RECD_ECCUNC.COUNT : Fld := { addr := 0xb0094, lo := 0, width := 32, acc := .cnt, dflt := 0 }
/-- Chapter 14, RECD_RETIRE offset 0x098, bits 31:0. -/
abbrev RECD_RETIRE.COUNT : Fld := { addr := 0xb0098, lo := 0, width := 32, acc := .cnt, dflt := 0 }
/-- Chapter 14, RECD_MIRERR offset 0x09C, bits 31:0. -/
abbrev RECD_MIRERR.COUNT : Fld := { addr := 0xb009c, lo := 0, width := 32, acc := .cnt, dflt := 0 }
/-- Chapter 14, RECD_HWREF offset 0x0A0, bits 31:0. -/
abbrev RECD_HWREF.COUNT : Fld := { addr := 0xb00a0, lo := 0, width := 32, acc := .cnt, dflt := 0 }
/-- Chapter 15, BRDG_CTRL offset 0x000, bit 2. -/
abbrev BRDG_CTRL.FLUSHPF : Fld := { addr := 0xc0000, lo := 2, width := 1, acc := .wo, dflt := 0 }
/-- Chapter 15, BRDG_CTRL offset 0x000, bit 1. -/
abbrev BRDG_CTRL.ERRMODE : Fld := { addr := 0xc0000, lo := 1, width := 1, acc := .rwg, dflt := 0 }
/-- Chapter 15, BRDG_CTRL offset 0x000, bit 0. -/
abbrev BRDG_CTRL.EN : Fld := { addr := 0xc0000, lo := 0, width := 1, acc := .rw, dflt := 1 }
/-- Chapter 15, BRDG_STAT offset 0x004, bit 8. -/
abbrev BRDG_STAT.IDERR : Fld := { addr := 0xc0004, lo := 8, width := 1, acc := .ro, dflt := 0 }
/-- Chapter 15, BRDG_STAT offset 0x004, bit 7. -/
abbrev BRDG_STAT.FOVF : Fld := { addr := 0xc0004, lo := 7, width := 1, acc := .w1c, dflt := 0 }
/-- Chapter 15, BRDG_STAT offset 0x004, bit 6. -/
abbrev BRDG_STAT.WIGN : Fld := { addr := 0xc0004, lo := 6, width := 1, acc := .w1c, dflt := 0 }
/-- Chapter 15, BRDG_STAT offset 0x004, bit 5. -/
abbrev BRDG_STAT.D3 : Fld := { addr := 0xc0004, lo := 5, width := 1, acc := .ro, dflt := 0 }
/-- Chapter 15, BRDG_STAT offset 0x004, bit 4. -/
abbrev BRDG_STAT.LINKUP : Fld := { addr := 0xc0004, lo := 4, width := 1, acc := .ro, dflt := 0 }
/-- Chapter 15, BRDG_STAT offset 0x004, bit 3. -/
abbrev BRDG_STAT.MASTER : Fld := { addr := 0xc0004, lo := 3, width := 1, acc := .ro, dflt := 0 }
/-- Chapter 15, BRDG_STAT offset 0x004, bits 1:0. -/
abbrev BRDG_STAT.STACKID : Fld := { addr := 0xc0004, lo := 0, width := 2, acc := .ro, dflt := 0 }
/-- Chapter 15, BRDG_WIN offset 0x008, bit 7. -/
abbrev BRDG_WIN.PF3 : Fld := { addr := 0xc0008, lo := 7, width := 1, acc := .rwg, dflt := 1 }
/-- Chapter 15, BRDG_WIN offset 0x008, bit 6. -/
abbrev BRDG_WIN.BO3 : Fld := { addr := 0xc0008, lo := 6, width := 1, acc := .rwg, dflt := 0 }
/-- Chapter 15, BRDG_WIN offset 0x008, bit 5. -/
abbrev BRDG_WIN.PF2 : Fld := { addr := 0xc0008, lo := 5, width := 1, acc := .rwg, dflt := 0 }
/-- Chapter 15, BRDG_WIN offset 0x008, bit 4. -/
abbrev BRDG_WIN.BO2 : Fld := { addr := 0xc0008, lo := 4, width := 1, acc := .rwg, dflt := 0 }
/-- Chapter 15, BRDG_WIN offset 0x008, bit 3. -/
abbrev BRDG_WIN.PF1 : Fld := { addr := 0xc0008, lo := 3, width := 1, acc := .rwg, dflt := 0 }
/-- Chapter 15, BRDG_WIN offset 0x008, bit 2. -/
abbrev BRDG_WIN.BO1 : Fld := { addr := 0xc0008, lo := 2, width := 1, acc := .rwg, dflt := 0 }
/-- Chapter 15, BRDG_WIN offset 0x008, bit 1. -/
abbrev BRDG_WIN.PF0 : Fld := { addr := 0xc0008, lo := 1, width := 1, acc := .ro, dflt := 0 }
/-- Chapter 15, BRDG_WIN offset 0x008, bit 0. -/
abbrev BRDG_WIN.BO0 : Fld := { addr := 0xc0008, lo := 0, width := 1, acc := .rwg, dflt := 1 }
/-- Chapter 15, BRDG_CFG offset 0x00C, bits 17:16. -/
abbrev BRDG_CFG.EXPECT : Fld := { addr := 0xc000c, lo := 16, width := 2, acc := .rwg, dflt := 0 }
/-- Chapter 15, BRDG_CFG offset 0x00C, bits 15:8. -/
abbrev BRDG_CFG.LOCKTO : Fld := { addr := 0xc000c, lo := 8, width := 8, acc := .rw, dflt := 20 }
/-- Chapter 15, BRDG_CFG offset 0x00C, bits 5:0. -/
abbrev BRDG_CFG.FTO : Fld := { addr := 0xc000c, lo := 0, width := 6, acc := .rw, dflt := 30 }
/-- Chapter 15, BRDG_LOCK offset 0x024, bit 31. -/
abbrev BRDG_LOCK.GO : Fld := { addr := 0xc0024, lo := 31, width := 1, acc := .wo, dflt := 0 }
/-- Chapter 15, BRDG_LOCK offset 0x024, bit 30. -/
abbrev BRDG_LOCK.REL : Fld := { addr := 0xc0024, lo := 30, width := 1, acc := .wo, dflt := 0 }
/-- Chapter 15, BRDG_LOCK offset 0x024, bits 10:8. -/
abbrev BRDG_LOCK.LOCKRES : Fld := { addr := 0xc0024, lo := 8, width := 3, acc := .ro, dflt := 0 }
/-- Chapter 15, BRDG_LOCK offset 0x024, bits 5:4. -/
abbrev BRDG_LOCK.STATE : Fld := { addr := 0xc0024, lo := 4, width := 2, acc := .ro, dflt := 0 }
/-- Chapter 15, BRDG_LOCK offset 0x024, bits 1:0. -/
abbrev BRDG_LOCK.MEMBER : Fld := { addr := 0xc0024, lo := 0, width := 2, acc := .rw, dflt := 0 }
/-- Chapter 15, BRDG_IRQ offset 0x048, bit 5. -/
abbrev BRDG_IRQ.STACK : Fld := { addr := 0xc0048, lo := 5, width := 1, acc := .w1c, dflt := 0 }
/-- Chapter 15, BRDG_IRQ offset 0x048, bit 4. -/
abbrev BRDG_IRQ.LOCK : Fld := { addr := 0xc0048, lo := 4, width := 1, acc := .w1c, dflt := 0 }
/-- Chapter 15, BRDG_IRQ offset 0x048, bit 3. -/
abbrev BRDG_IRQ.POISON : Fld := { addr := 0xc0048, lo := 3, width := 1, acc := .w1c, dflt := 0 }
/-- Chapter 15, BRDG_IRQ offset 0x048, bit 2. -/
abbrev BRDG_IRQ.RDERR : Fld := { addr := 0xc0048, lo := 2, width := 1, acc := .w1c, dflt := 0 }
/-- Chapter 15, BRDG_IRQ offset 0x048, bit 1. -/
abbrev BRDG_IRQ.FERR : Fld := { addr := 0xc0048, lo := 1, width := 1, acc := .w1c, dflt := 0 }
/-- Chapter 15, BRDG_IRQ offset 0x048, bit 0. -/
abbrev BRDG_IRQ.LINK : Fld := { addr := 0xc0048, lo := 0, width := 1, acc := .w1c, dflt := 0 }
/-- Chapter 15, BRDG_IEN offset 0x04C, bit 5. -/
abbrev BRDG_IEN.STACK : Fld := { addr := 0xc004c, lo := 5, width := 1, acc := .rw, dflt := 0 }
/-- Chapter 15, BRDG_IEN offset 0x04C, bit 4. -/
abbrev BRDG_IEN.LOCK : Fld := { addr := 0xc004c, lo := 4, width := 1, acc := .rw, dflt := 0 }
/-- Chapter 15, BRDG_IEN offset 0x04C, bit 3. -/
abbrev BRDG_IEN.POISON : Fld := { addr := 0xc004c, lo := 3, width := 1, acc := .rw, dflt := 0 }
/-- Chapter 15, BRDG_IEN offset 0x04C, bit 2. -/
abbrev BRDG_IEN.RDERR : Fld := { addr := 0xc004c, lo := 2, width := 1, acc := .rw, dflt := 0 }
/-- Chapter 15, BRDG_IEN offset 0x04C, bit 1. -/
abbrev BRDG_IEN.FERR : Fld := { addr := 0xc004c, lo := 1, width := 1, acc := .rw, dflt := 0 }
/-- Chapter 15, BRDG_IEN offset 0x04C, bit 0. -/
abbrev BRDG_IEN.LINK : Fld := { addr := 0xc004c, lo := 0, width := 1, acc := .rw, dflt := 0 }
/-- Chapter 15, BRDG_NPREQ offset 0x100, bits 31:0. -/
abbrev BRDG_NPREQ.COUNT : Fld := { addr := 0xc0100, lo := 0, width := 32, acc := .cnt, dflt := 0 }
/-- Chapter 15, BRDG_PWR offset 0x104, bits 31:0. -/
abbrev BRDG_PWR.COUNT : Fld := { addr := 0xc0104, lo := 0, width := 32, acc := .cnt, dflt := 0 }
/-- Chapter 15, BRDG_UR offset 0x108, bits 31:0. -/
abbrev BRDG_UR.COUNT : Fld := { addr := 0xc0108, lo := 0, width := 32, acc := .cnt, dflt := 0 }
/-- Chapter 15, BRDG_CA offset 0x10C, bits 31:0. -/
abbrev BRDG_CA.COUNT : Fld := { addr := 0xc010c, lo := 0, width := 32, acc := .cnt, dflt := 0 }
/-- Chapter 15, BRDG_POISON offset 0x110, bits 31:0. -/
abbrev BRDG_POISON.COUNT : Fld := { addr := 0xc0110, lo := 0, width := 32, acc := .cnt, dflt := 0 }
/-- Chapter 15, BRDG_REFUSED offset 0x114, bits 31:0. -/
abbrev BRDG_REFUSED.COUNT : Fld := { addr := 0xc0114, lo := 0, width := 32, acc := .cnt, dflt := 0 }
/-- Chapter 15, BRDG_FERR offset 0x118, bits 31:0. -/
abbrev BRDG_FERR.COUNT : Fld := { addr := 0xc0118, lo := 0, width := 32, acc := .cnt, dflt := 0 }
/-- Chapter 15, BRDG_FTO offset 0x11C, bits 31:0. -/
abbrev BRDG_FTO.COUNT : Fld := { addr := 0xc011c, lo := 0, width := 32, acc := .cnt, dflt := 0 }
/-- Chapter 15, BRDG_LOCKTO offset 0x120, bits 31:0. -/
abbrev BRDG_LOCKTO.COUNT : Fld := { addr := 0xc0120, lo := 0, width := 32, acc := .cnt, dflt := 0 }
/-- Chapter 15, BRDG_SEMBUSY offset 0x124, bits 31:0. -/
abbrev BRDG_SEMBUSY.COUNT : Fld := { addr := 0xc0124, lo := 0, width := 32, acc := .cnt, dflt := 0 }
/-- Chapter 15, BRDG_STKCRC offset 0x128, bits 31:0. -/
abbrev BRDG_STKCRC.COUNT : Fld := { addr := 0xc0128, lo := 0, width := 32, acc := .cnt, dflt := 0 }
/-- Chapter 15, BRDG_STKRETR offset 0x12C, bits 31:0. -/
abbrev BRDG_STKRETR.COUNT : Fld := { addr := 0xc012c, lo := 0, width := 32, acc := .cnt, dflt := 0 }
/-- Chapter 16, CMD_ACCEPT offset 0x080, bits 31:0. -/
abbrev CMD_ACCEPT.COUNT : Fld := { addr := 0xd0080, lo := 0, width := 32, acc := .cnt, dflt := 0 }
/-- Chapter 16, CMD_RACCEPT offset 0x084, bits 31:0. -/
abbrev CMD_RACCEPT.COUNT : Fld := { addr := 0xd0084, lo := 0, width := 32, acc := .cnt, dflt := 0 }
/-- Chapter 16, CMD_RBUSY offset 0x088, bits 31:0. -/
abbrev CMD_RBUSY.COUNT : Fld := { addr := 0xd0088, lo := 0, width := 32, acc := .cnt, dflt := 0 }
/-- Chapter 16, CMD_REJFMT offset 0x08C, bits 31:0. -/
abbrev CMD_REJFMT.COUNT : Fld := { addr := 0xd008c, lo := 0, width := 32, acc := .cnt, dflt := 0 }
/-- Chapter 16, CMD_REJGEN offset 0x090, bits 31:0. -/
abbrev CMD_REJGEN.COUNT : Fld := { addr := 0xd0090, lo := 0, width := 32, acc := .cnt, dflt := 0 }
/-- Chapter 16, CMD_REJSTALE offset 0x094, bits 31:0. -/
abbrev CMD_REJSTALE.COUNT : Fld := { addr := 0xd0094, lo := 0, width := 32, acc := .cnt, dflt := 0 }
/-- Chapter 16, CMD_REJMAC offset 0x098, bits 31:0. -/
abbrev CMD_REJMAC.COUNT : Fld := { addr := 0xd0098, lo := 0, width := 32, acc := .cnt, dflt := 0 }
/-- Chapter 16, CMD_REJREPLAY offset 0x09C, bits 31:0. -/
abbrev CMD_REJREPLAY.COUNT : Fld := { addr := 0xd009c, lo := 0, width := 32, acc := .cnt, dflt := 0 }
/-- Chapter 16, CMD_CPLLATE offset 0x0A0, bits 31:0. -/
abbrev CMD_CPLLATE.COUNT : Fld := { addr := 0xd00a0, lo := 0, width := 32, acc := .cnt, dflt := 0 }
/-- Chapter 16, CMD_ABORTED offset 0x0A4, bits 31:0. -/
abbrev CMD_ABORTED.COUNT : Fld := { addr := 0xd00a4, lo := 0, width := 32, acc := .cnt, dflt := 0 }
/-- Chapter 17, HKP_CTRL offset 0x000, bits 6:5. -/
abbrev HKP_CTRL.SNAPEDGE : Fld := { addr := 0xe0000, lo := 5, width := 2, acc := .rwg, dflt := 0 }
/-- Chapter 17, HKP_CTRL offset 0x000, bit 3. -/
abbrev HKP_CTRL.MPAT : Fld := { addr := 0xe0000, lo := 3, width := 1, acc := .wo, dflt := 0 }
/-- Chapter 17, HKP_CTRL offset 0x000, bit 2. -/
abbrev HKP_CTRL.LCAL : Fld := { addr := 0xe0000, lo := 2, width := 1, acc := .wo, dflt := 0 }
/-- Chapter 17, HKP_CTRL offset 0x000, bit 1. -/
abbrev HKP_CTRL.NOW : Fld := { addr := 0xe0000, lo := 1, width := 1, acc := .wo, dflt := 0 }
/-- Chapter 17, HKP_CTRL offset 0x000, bit 0. -/
abbrev HKP_CTRL.EN : Fld := { addr := 0xe0000, lo := 0, width := 1, acc := .rw, dflt := 1 }
/-- Chapter 17, HKP_STAT offset 0x004, bits 12:7. -/
abbrev HKP_STAT.ACT : Fld := { addr := 0xe0004, lo := 7, width := 6, acc := .ro, dflt := 0 }
/-- Chapter 17, HKP_STAT offset 0x004, bit 2. -/
abbrev HKP_STAT.SUSP : Fld := { addr := 0xe0004, lo := 2, width := 1, acc := .ro, dflt := 0 }
/-- Chapter 17, HKP_STAT offset 0x004, bit 1. -/
abbrev HKP_STAT.BUSY : Fld := { addr := 0xe0004, lo := 1, width := 1, acc := .ro, dflt := 0 }
/-- Chapter 17, HKP_STAT offset 0x004, bit 0. -/
abbrev HKP_STAT.WIGN : Fld := { addr := 0xe0004, lo := 0, width := 1, acc := .w1c, dflt := 0 }
/-- Chapter 17, HKP_IRQ offset 0x050, bit 8. -/
abbrev HKP_IRQ.SUSP : Fld := { addr := 0xe0050, lo := 8, width := 1, acc := .w1c, dflt := 0 }
/-- Chapter 17, HKP_IRQ offset 0x050, bit 7. -/
abbrev HKP_IRQ.MPATUNC : Fld := { addr := 0xe0050, lo := 7, width := 1, acc := .w1c, dflt := 0 }
/-- Chapter 17, HKP_IRQ offset 0x050, bit 6. -/
abbrev HKP_IRQ.SCRUNC : Fld := { addr := 0xe0050, lo := 6, width := 1, acc := .w1c, dflt := 0 }
/-- Chapter 17, HKP_IRQ offset 0x050, bit 5. -/
abbrev HKP_IRQ.SUPPLY : Fld := { addr := 0xe0050, lo := 5, width := 1, acc := .w1c, dflt := 0 }
/-- Chapter 17, HKP_IRQ offset 0x050, bit 4. -/
abbrev HKP_IRQ.SPEED : Fld := { addr := 0xe0050, lo := 4, width := 1, acc := .w1c, dflt := 0 }
/-- Chapter 17, HKP_IRQ offset 0x050, bit 3. -/
abbrev HKP_IRQ.TEMP : Fld := { addr := 0xe0050, lo := 3, width := 1, acc := .w1c, dflt := 0 }
/-- Chapter 17, HKP_IRQ offset 0x050, bit 2. -/
abbrev HKP_IRQ.MIDLATE : Fld := { addr := 0xe0050, lo := 2, width := 1, acc := .w1c, dflt := 0 }
/-- Chapter 17, HKP_IRQ offset 0x050, bit 1. -/
abbrev HKP_IRQ.SNAPLOST : Fld := { addr := 0xe0050, lo := 1, width := 1, acc := .w1c, dflt := 0 }
/-- Chapter 17, HKP_IRQ offset 0x050, bit 0. -/
abbrev HKP_IRQ.SNAP : Fld := { addr := 0xe0050, lo := 0, width := 1, acc := .w1c, dflt := 0 }
/-- Chapter 17, HKP_IEN offset 0x054, bit 8. -/
abbrev HKP_IEN.SUSP : Fld := { addr := 0xe0054, lo := 8, width := 1, acc := .rw, dflt := 0 }
/-- Chapter 17, HKP_IEN offset 0x054, bit 7. -/
abbrev HKP_IEN.MPATUNC : Fld := { addr := 0xe0054, lo := 7, width := 1, acc := .rw, dflt := 0 }
/-- Chapter 17, HKP_IEN offset 0x054, bit 6. -/
abbrev HKP_IEN.SCRUNC : Fld := { addr := 0xe0054, lo := 6, width := 1, acc := .rw, dflt := 0 }
/-- Chapter 17, HKP_IEN offset 0x054, bit 5. -/
abbrev HKP_IEN.SUPPLY : Fld := { addr := 0xe0054, lo := 5, width := 1, acc := .rw, dflt := 0 }
/-- Chapter 17, HKP_IEN offset 0x054, bit 4. -/
abbrev HKP_IEN.SPEED : Fld := { addr := 0xe0054, lo := 4, width := 1, acc := .rw, dflt := 0 }
/-- Chapter 17, HKP_IEN offset 0x054, bit 3. -/
abbrev HKP_IEN.TEMP : Fld := { addr := 0xe0054, lo := 3, width := 1, acc := .rw, dflt := 0 }
/-- Chapter 17, HKP_IEN offset 0x054, bit 2. -/
abbrev HKP_IEN.MIDLATE : Fld := { addr := 0xe0054, lo := 2, width := 1, acc := .rw, dflt := 0 }
/-- Chapter 17, HKP_IEN offset 0x054, bit 1. -/
abbrev HKP_IEN.SNAPLOST : Fld := { addr := 0xe0054, lo := 1, width := 1, acc := .rw, dflt := 0 }
/-- Chapter 17, HKP_IEN offset 0x054, bit 0. -/
abbrev HKP_IEN.SNAP : Fld := { addr := 0xe0054, lo := 0, width := 1, acc := .rw, dflt := 0 }
/-- Chapter 17, HKP_SNAPS offset 0x080, bits 31:0. -/
abbrev HKP_SNAPS.COUNT : Fld := { addr := 0xe0080, lo := 0, width := 32, acc := .cnt, dflt := 0 }
/-- Chapter 17, HKP_SNAPLOST offset 0x084, bits 31:0. -/
abbrev HKP_SNAPLOST.COUNT : Fld := { addr := 0xe0084, lo := 0, width := 32, acc := .cnt, dflt := 0 }
/-- Chapter 17, HKP_MIDLATE offset 0x088, bits 31:0. -/
abbrev HKP_MIDLATE.COUNT : Fld := { addr := 0xe0088, lo := 0, width := 32, acc := .cnt, dflt := 0 }
/-- Chapter 17, HKP_MIDREF offset 0x08C, bits 31:0. -/
abbrev HKP_MIDREF.COUNT : Fld := { addr := 0xe008c, lo := 0, width := 32, acc := .cnt, dflt := 0 }
/-- Chapter 17, HKP_SCRCOR offset 0x090, bits 31:0. -/
abbrev HKP_SCRCOR.COUNT : Fld := { addr := 0xe0090, lo := 0, width := 32, acc := .cnt, dflt := 0 }
/-- Chapter 17, HKP_SCRUNC offset 0x094, bits 31:0. -/
abbrev HKP_SCRUNC.COUNT : Fld := { addr := 0xe0094, lo := 0, width := 32, acc := .cnt, dflt := 0 }
/-- Chapter 17, HKP_SCRREP offset 0x098, bits 31:0. -/
abbrev HKP_SCRREP.COUNT : Fld := { addr := 0xe0098, lo := 0, width := 32, acc := .cnt, dflt := 0 }
/-- Chapter 17, HKP_MPATCOR offset 0x09C, bits 31:0. -/
abbrev HKP_MPATCOR.COUNT : Fld := { addr := 0xe009c, lo := 0, width := 32, acc := .cnt, dflt := 0 }
/-- Chapter 17, HKP_MPATUNC offset 0x0A0, bits 31:0. -/
abbrev HKP_MPATUNC.COUNT : Fld := { addr := 0xe00a0, lo := 0, width := 32, acc := .cnt, dflt := 0 }
/-- Chapter 17, HKP_LCALRUN offset 0x0A4, bits 31:0. -/
abbrev HKP_LCALRUN.COUNT : Fld := { addr := 0xe00a4, lo := 0, width := 32, acc := .cnt, dflt := 0 }
/-- Chapter 17, HKP_ILWAIT offset 0x0A8, bits 31:0. -/
abbrev HKP_ILWAIT.COUNT : Fld := { addr := 0xe00a8, lo := 0, width := 32, acc := .cnt, dflt := 0 }
/-- Chapter 18, GLB_PACE offset 0x100, bit 15. -/
abbrev GLB_PACE.REF : Fld := { addr := 0x100, lo := 15, width := 1, acc := .w1c, dflt := 0 }
/-- Chapter 18, GLB_PACE offset 0x100, bit 8. -/
abbrev GLB_PACE.PBUSY : Fld := { addr := 0x100, lo := 8, width := 1, acc := .ro, dflt := 0 }
/-- Chapter 18, GLB_PACE offset 0x100, bits 5:4. -/
abbrev GLB_PACE.ACT : Fld := { addr := 0x100, lo := 4, width := 2, acc := .ro, dflt := 2 }
/-- Chapter 18, GLB_PACE offset 0x100, bits 1:0. -/
abbrev GLB_PACE.LEVEL : Fld := { addr := 0x100, lo := 0, width := 2, acc := .rwv, dflt := 2 }
/-- Chapter 18, GLB_REG offset 0x104, bit 2. -/
abbrev GLB_REG.ILIM : Fld := { addr := 0x104, lo := 2, width := 1, acc := .w1c, dflt := 0 }
/-- Chapter 18, GLB_REG offset 0x104, bit 1. -/
abbrev GLB_REG.VIOOK : Fld := { addr := 0x104, lo := 1, width := 1, acc := .ro, dflt := 0 }
/-- Chapter 18, GLB_REG offset 0x104, bit 0. -/
abbrev GLB_REG.VCOREOK : Fld := { addr := 0x104, lo := 0, width := 1, acc := .ro, dflt := 1 }
/-- Chapter 18, GLB_EMC offset 0x108, bits 5:4. -/
abbrev GLB_EMC.VIO2SLEW : Fld := { addr := 0x108, lo := 4, width := 2, acc := .rwv, dflt := 1 }
/-- Chapter 18, GLB_EMC offset 0x108, bits 3:2. -/
abbrev GLB_EMC.VIO1SLEW : Fld := { addr := 0x108, lo := 2, width := 2, acc := .rwv, dflt := 1 }
/-- Chapter 18, GLB_EMC offset 0x108, bit 1. -/
abbrev GLB_EMC.SLSPREAD : Fld := { addr := 0x108, lo := 1, width := 1, acc := .rwv, dflt := 0 }
/-- Chapter 18, GLB_EMC offset 0x108, bit 0. -/
abbrev GLB_EMC.BUCKSS : Fld := { addr := 0x108, lo := 0, width := 1, acc := .rwv, dflt := 1 }
/-- Chapter 18, GLB_RST offset 0x10C, bits 31:24. -/
abbrev GLB_RST.WARMCNT : Fld := { addr := 0x10c, lo := 24, width := 8, acc := .ro, dflt := 0 }
/-- Chapter 18, GLB_RST offset 0x10C, bit 8. -/
abbrev GLB_RST.RSAVE : Fld := { addr := 0x10c, lo := 8, width := 1, acc := .wo, dflt := 0 }
/-- Chapter 18, GLB_RST offset 0x10C, bits 2:0. -/
abbrev GLB_RST.KIND : Fld := { addr := 0x10c, lo := 0, width := 3, acc := .ro, dflt := 1 }
/-- Chapter 18, GLB_STRAP offset 0x110, bits 7:6. -/
abbrev GLB_STRAP.BOOTSRC : Fld := { addr := 0x110, lo := 6, width := 2, acc := .ro, dflt := 0 }
/-- Chapter 18, GLB_STRAP offset 0x110, bit 5. -/
abbrev GLB_STRAP.TWIN_HALF : Fld := { addr := 0x110, lo := 5, width := 1, acc := .ro, dflt := 0 }
/-- Chapter 18, GLB_STRAP offset 0x110, bits 4:3. -/
abbrev GLB_STRAP.BOOT : Fld := { addr := 0x110, lo := 3, width := 2, acc := .ro, dflt := 0 }
/-- Chapter 18, GLB_STRAP offset 0x110, bits 1:0. -/
abbrev GLB_STRAP.STACK_ID : Fld := { addr := 0x110, lo := 0, width := 2, acc := .ro, dflt := 0 }
/-- Chapter 03, INAU_MBSEL offset 0x040, bits 31:28. -/
abbrev INAU_MBSEL.SRC : Fld := { addr := 0x20040, lo := 28, width := 4, acc := .rw, dflt := 0 }
/-- Chapter 03, INAU_MBSEL offset 0x040, bits 10:0. -/
abbrev INAU_MBSEL.INDEX : Fld := { addr := 0x20040, lo := 0, width := 11, acc := .rw, dflt := 0 }
/-- Chapter 03, INAU_MBSTAT offset 0x044, bit 0. -/
abbrev INAU_MBSTAT.VALID : Fld := { addr := 0x20044, lo := 0, width := 1, acc := .ro, dflt := 0 }
/-- Chapter 03, INAU_MBD0 offset 0x048, bits 31:0. -/
abbrev INAU_MBD0.DATA : Fld := { addr := 0x20048, lo := 0, width := 32, acc := .ro, dflt := 0 }
/-- Chapter 03, INAU_MBD1 offset 0x04C, bits 31:0. -/
abbrev INAU_MBD1.DATA : Fld := { addr := 0x2004c, lo := 0, width := 32, acc := .ro, dflt := 0 }
/-- Chapter 03, INAU_MBD2 offset 0x050, bits 31:0. -/
abbrev INAU_MBD2.DATA : Fld := { addr := 0x20050, lo := 0, width := 32, acc := .ro, dflt := 0 }
/-- Chapter 03, INAU_MBD3 offset 0x054, bits 31:0. -/
abbrev INAU_MBD3.DATA : Fld := { addr := 0x20054, lo := 0, width := 32, acc := .ro, dflt := 0 }
/-- Chapter 05, SCHD_TSEL offset 0x080, bits 31:28. -/
abbrev SCHD_TSEL.TAB : Fld := { addr := 0x30080, lo := 28, width := 4, acc := .wp, dflt := 0 }
/-- Chapter 05, SCHD_TSEL offset 0x080, bit 27. -/
abbrev SCHD_TSEL.WR : Fld := { addr := 0x30080, lo := 27, width := 1, acc := .wp, dflt := 0 }
/-- Chapter 05, SCHD_TSEL offset 0x080, bits 11:0. -/
abbrev SCHD_TSEL.INDEX : Fld := { addr := 0x30080, lo := 0, width := 12, acc := .wp, dflt := 0 }
/-- Chapter 05, SCHD_TSTAT offset 0x084, bit 1. -/
abbrev SCHD_TSTAT.BUSY : Fld := { addr := 0x30084, lo := 1, width := 1, acc := .ro, dflt := 0 }
/-- Chapter 05, SCHD_TSTAT offset 0x084, bit 0. -/
abbrev SCHD_TSTAT.VALID : Fld := { addr := 0x30084, lo := 0, width := 1, acc := .ro, dflt := 0 }
/-- Chapter 05, SCHD_TD0 offset 0x088, bits 31:0. -/
abbrev SCHD_TD0.DATA : Fld := { addr := 0x30088, lo := 0, width := 32, acc := .rw, dflt := 0 }
/-- Chapter 05, SCHD_TD1 offset 0x08C, bits 31:0. -/
abbrev SCHD_TD1.DATA : Fld := { addr := 0x3008c, lo := 0, width := 32, acc := .rw, dflt := 0 }
/-- Chapter 05, SCHD_TD2 offset 0x090, bits 31:0. -/
abbrev SCHD_TD2.DATA : Fld := { addr := 0x30090, lo := 0, width := 32, acc := .rw, dflt := 0 }
/-- Chapter 05, SCHD_TD3 offset 0x094, bits 31:0. -/
abbrev SCHD_TD3.DATA : Fld := { addr := 0x30094, lo := 0, width := 32, acc := .rw, dflt := 0 }
/-- Chapter 07, TIME_MBSEL offset 0x040, bits 31:28. -/
abbrev TIME_MBSEL.SRC : Fld := { addr := 0x50040, lo := 28, width := 4, acc := .rw, dflt := 0 }
/-- Chapter 07, TIME_MBSEL offset 0x040, bits 1:0. -/
abbrev TIME_MBSEL.INDEX : Fld := { addr := 0x50040, lo := 0, width := 2, acc := .rw, dflt := 0 }
/-- Chapter 07, TIME_MBSTAT offset 0x044, bit 0. -/
abbrev TIME_MBSTAT.VALID : Fld := { addr := 0x50044, lo := 0, width := 1, acc := .ro, dflt := 0 }
/-- Chapter 07, TIME_MBD0 offset 0x048, bits 31:0. -/
abbrev TIME_MBD0.DATA : Fld := { addr := 0x50048, lo := 0, width := 32, acc := .ro, dflt := 0 }
/-- Chapter 07, TIME_MBD1 offset 0x04C, bits 31:0. -/
abbrev TIME_MBD1.DATA : Fld := { addr := 0x5004c, lo := 0, width := 32, acc := .ro, dflt := 0 }
/-- Chapter 07, TIME_MBD2 offset 0x050, bits 31:0. -/
abbrev TIME_MBD2.DATA : Fld := { addr := 0x50050, lo := 0, width := 32, acc := .ro, dflt := 0 }
/-- Chapter 07, TIME_MBD3 offset 0x054, bits 31:0. -/
abbrev TIME_MBD3.DATA : Fld := { addr := 0x50054, lo := 0, width := 32, acc := .ro, dflt := 0 }
/-- Chapter 10, CYCL_SSEL offset 0x0A0, bits 31:28. -/
abbrev CYCL_SSEL.TAB : Fld := { addr := 0x800a0, lo := 28, width := 4, acc := .wp, dflt := 0 }
/-- Chapter 10, CYCL_SSEL offset 0x0A0, bit 27. -/
abbrev CYCL_SSEL.WR : Fld := { addr := 0x800a0, lo := 27, width := 1, acc := .wp, dflt := 0 }
/-- Chapter 10, CYCL_SSEL offset 0x0A0, bits 7:0. -/
abbrev CYCL_SSEL.INDEX : Fld := { addr := 0x800a0, lo := 0, width := 8, acc := .wp, dflt := 0 }
/-- Chapter 10, CYCL_SSTAT offset 0x0A4, bit 2. -/
abbrev CYCL_SSTAT.REFUSED : Fld := { addr := 0x800a4, lo := 2, width := 1, acc := .w1c, dflt := 0 }
/-- Chapter 10, CYCL_SSTAT offset 0x0A4, bit 1. -/
abbrev CYCL_SSTAT.BUSY : Fld := { addr := 0x800a4, lo := 1, width := 1, acc := .ro, dflt := 0 }
/-- Chapter 10, CYCL_SSTAT offset 0x0A4, bit 0. -/
abbrev CYCL_SSTAT.VALID : Fld := { addr := 0x800a4, lo := 0, width := 1, acc := .ro, dflt := 0 }
/-- Chapter 10, CYCL_SD0 offset 0x0A8, bits 31:0. -/
abbrev CYCL_SD0.DATA : Fld := { addr := 0x800a8, lo := 0, width := 32, acc := .rw, dflt := 0 }
/-- Chapter 10, CYCL_SD1 offset 0x0AC, bits 31:0. -/
abbrev CYCL_SD1.DATA : Fld := { addr := 0x800ac, lo := 0, width := 32, acc := .rw, dflt := 0 }
/-- Chapter 10, CYCL_SD2 offset 0x0B0, bits 31:0. -/
abbrev CYCL_SD2.DATA : Fld := { addr := 0x800b0, lo := 0, width := 32, acc := .rw, dflt := 0 }
/-- Chapter 10, CYCL_SD3 offset 0x0B4, bits 31:0. -/
abbrev CYCL_SD3.DATA : Fld := { addr := 0x800b4, lo := 0, width := 32, acc := .rw, dflt := 0 }
/-- Chapter 11, FRC_SEL offset 0x170, bit 31. -/
abbrev FRC_SEL.CLRALL : Fld := { addr := 0x80170, lo := 31, width := 1, acc := .wp, dflt := 0 }
/-- Chapter 11, FRC_SEL offset 0x170, bit 30. -/
abbrev FRC_SEL.WR : Fld := { addr := 0x80170, lo := 30, width := 1, acc := .wp, dflt := 0 }
/-- Chapter 11, FRC_SEL offset 0x170, bits 9:0. -/
abbrev FRC_SEL.INDEX : Fld := { addr := 0x80170, lo := 0, width := 10, acc := .wp, dflt := 0 }
/-- Chapter 11, FRC_STAT offset 0x174, bits 26:16. -/
abbrev FRC_STAT.NACT : Fld := { addr := 0x80174, lo := 16, width := 11, acc := .ro, dflt := 0 }
/-- Chapter 11, FRC_STAT offset 0x174, bits 6:4. -/
abbrev FRC_STAT.FRES : Fld := { addr := 0x80174, lo := 4, width := 3, acc := .ro, dflt := 0 }
/-- Chapter 11, FRC_STAT offset 0x174, bit 1. -/
abbrev FRC_STAT.BUSY : Fld := { addr := 0x80174, lo := 1, width := 1, acc := .ro, dflt := 0 }
/-- Chapter 11, FRC_STAT offset 0x174, bit 0. -/
abbrev FRC_STAT.VALID : Fld := { addr := 0x80174, lo := 0, width := 1, acc := .ro, dflt := 0 }
/-- Chapter 11, FRC_D0 offset 0x178, bits 31:0. -/
abbrev FRC_D0.DATA : Fld := { addr := 0x80178, lo := 0, width := 32, acc := .rw, dflt := 0 }
/-- Chapter 11, FRC_D1 offset 0x17C, bits 31:0. -/
abbrev FRC_D1.DATA : Fld := { addr := 0x8017c, lo := 0, width := 32, acc := .rw, dflt := 0 }
/-- Chapter 11, FRC_D2 offset 0x180, bits 31:0. -/
abbrev FRC_D2.DATA : Fld := { addr := 0x80180, lo := 0, width := 32, acc := .rw, dflt := 0 }
/-- Chapter 11, FRC_D3 offset 0x184, bits 31:0. -/
abbrev FRC_D3.DATA : Fld := { addr := 0x80184, lo := 0, width := 32, acc := .rw, dflt := 0 }
/-- Chapter 14, RECD_RSEL offset 0x040, bits 31:0. -/
abbrev RECD_RSEL.SEQ : Fld := { addr := 0xb0040, lo := 0, width := 32, acc := .wp, dflt := 0 }
/-- Chapter 14, RECD_RSTAT offset 0x044, bits 14:8. -/
abbrev RECD_RSTAT.LINE : Fld := { addr := 0xb0044, lo := 8, width := 7, acc := .ro, dflt := 0 }
/-- Chapter 14, RECD_RSTAT offset 0x044, bits 6:4. -/
abbrev RECD_RSTAT.RES : Fld := { addr := 0xb0044, lo := 4, width := 3, acc := .ro, dflt := 0 }
/-- Chapter 14, RECD_RSTAT offset 0x044, bit 1. -/
abbrev RECD_RSTAT.BUSY : Fld := { addr := 0xb0044, lo := 1, width := 1, acc := .ro, dflt := 0 }
/-- Chapter 14, RECD_RSTAT offset 0x044, bit 0. -/
abbrev RECD_RSTAT.VALID : Fld := { addr := 0xb0044, lo := 0, width := 1, acc := .ro, dflt := 0 }
/-- Chapter 14, RECD_RD0 offset 0x048, bits 31:0. -/
abbrev RECD_RD0.DATA : Fld := { addr := 0xb0048, lo := 0, width := 32, acc := .ro, dflt := 0 }
/-- Chapter 14, RECD_RD1 offset 0x04C, bits 31:0. -/
abbrev RECD_RD1.DATA : Fld := { addr := 0xb004c, lo := 0, width := 32, acc := .ro, dflt := 0 }
/-- Chapter 14, RECD_RD2 offset 0x050, bits 31:0. -/
abbrev RECD_RD2.DATA : Fld := { addr := 0xb0050, lo := 0, width := 32, acc := .ro, dflt := 0 }
/-- Chapter 14, RECD_RD3 offset 0x054, bits 31:0. -/
abbrev RECD_RD3.DATA : Fld := { addr := 0xb0054, lo := 0, width := 32, acc := .ro, dflt := 0 }
/-- Chapter 14, RECD_RAREA offset 0x058, bit 0. -/
abbrev RECD_RAREA.MORNING : Fld := { addr := 0xb0058, lo := 0, width := 1, acc := .rw, dflt := 0 }
/-- Chapter 15, BRDG_FSEQ offset 0x028, bits 15:0. -/
abbrev BRDG_FSEQ.FSEQ : Fld := { addr := 0xc0028, lo := 0, width := 16, acc := .ro, dflt := 0 }
/-- Chapter 15, BRDG_FSEL offset 0x030, bits 15:0. -/
abbrev BRDG_FSEL.FSEQ : Fld := { addr := 0xc0030, lo := 0, width := 16, acc := .rw, dflt := 0 }
/-- Chapter 15, BRDG_FSTAT offset 0x034, bit 0. -/
abbrev BRDG_FSTAT.VALID : Fld := { addr := 0xc0034, lo := 0, width := 1, acc := .ro, dflt := 0 }
/-- Chapter 15, BRDG_FD0 offset 0x038, bits 31:0. -/
abbrev BRDG_FD0.DATA : Fld := { addr := 0xc0038, lo := 0, width := 32, acc := .ro, dflt := 0 }
/-- Chapter 15, BRDG_FD1 offset 0x03C, bits 31:0. -/
abbrev BRDG_FD1.DATA : Fld := { addr := 0xc003c, lo := 0, width := 32, acc := .ro, dflt := 0 }
/-- Chapter 15, BRDG_FD2 offset 0x040, bits 31:0. -/
abbrev BRDG_FD2.DATA : Fld := { addr := 0xc0040, lo := 0, width := 32, acc := .ro, dflt := 0 }
/-- Chapter 15, BRDG_FD3 offset 0x044, bits 31:0. -/
abbrev BRDG_FD3.DATA : Fld := { addr := 0xc0044, lo := 0, width := 32, acc := .ro, dflt := 0 }
/-- Chapter 17, HKP_SSEL offset 0x018, bits 31:28. -/
abbrev HKP_SSEL.BLOCK : Fld := { addr := 0xe0018, lo := 28, width := 4, acc := .rw, dflt := 0 }
/-- Chapter 17, HKP_SSEL offset 0x018, bits 27:26. -/
abbrev HKP_SSEL.UNIT : Fld := { addr := 0xe0018, lo := 26, width := 2, acc := .rw, dflt := 0 }
/-- Chapter 17, HKP_SSEL offset 0x018, bit 25. -/
abbrev HKP_SSEL.BANK : Fld := { addr := 0xe0018, lo := 25, width := 1, acc := .rw, dflt := 0 }
/-- Chapter 17, HKP_SSEL offset 0x018, bits 9:0. -/
abbrev HKP_SSEL.OFFSET : Fld := { addr := 0xe0018, lo := 0, width := 10, acc := .rw, dflt := 0 }
/-- Chapter 17, HKP_SSTAT offset 0x01C, bit 5. -/
abbrev HKP_SSTAT.FULL1 : Fld := { addr := 0xe001c, lo := 5, width := 1, acc := .ro, dflt := 0 }
/-- Chapter 17, HKP_SSTAT offset 0x01C, bit 4. -/
abbrev HKP_SSTAT.FULL0 : Fld := { addr := 0xe001c, lo := 4, width := 1, acc := .ro, dflt := 0 }
/-- Chapter 17, HKP_SSTAT offset 0x01C, bit 3. -/
abbrev HKP_SSTAT.NEWEST : Fld := { addr := 0xe001c, lo := 3, width := 1, acc := .ro, dflt := 0 }
/-- Chapter 17, HKP_SSTAT offset 0x01C, bit 2. -/
abbrev HKP_SSTAT.HOLD1 : Fld := { addr := 0xe001c, lo := 2, width := 1, acc := .rw, dflt := 0 }
/-- Chapter 17, HKP_SSTAT offset 0x01C, bit 1. -/
abbrev HKP_SSTAT.HOLD0 : Fld := { addr := 0xe001c, lo := 1, width := 1, acc := .rw, dflt := 0 }
/-- Chapter 17, HKP_SSTAT offset 0x01C, bit 0. -/
abbrev HKP_SSTAT.VALID : Fld := { addr := 0xe001c, lo := 0, width := 1, acc := .ro, dflt := 0 }
/-- Chapter 17, HKP_SD offset 0x020, bits 31:0. -/
abbrev HKP_SD.DATA : Fld := { addr := 0xe0020, lo := 0, width := 32, acc := .ro, dflt := 0 }
/-- Chapter 05, SCHD_WINR offset 0x010, bits 23:0. -/
abbrev SCHD_WINR.OPEN : Fld := { addr := 0x30010, lo := 0, width := 24, acc := .ro, dflt := 0 }
/-- Chapter 05, SCHD_WINF offset 0x014, bits 23:0. -/
abbrev SCHD_WINF.OPEN : Fld := { addr := 0x30014, lo := 0, width := 24, acc := .ro, dflt := 0 }
/-- Chapter 05, SCHD_WLEN offset 0x018, bits 19:0. -/
abbrev SCHD_WLEN.LEN : Fld := { addr := 0x30018, lo := 0, width := 20, acc := .ro, dflt := 0 }
/-- Chapter 05, SCHD_MODEDESC offset 0x040, bit 31. -/
abbrev SCHD_MODEDESC.WRULE : Fld := { addr := 0x30040, lo := 31, width := 1, acc := .rw, dflt := 0, s2 := 4, n2 := 8 }
/-- Chapter 05, SCHD_MODEDESC offset 0x040, bits 25:24. -/
abbrev SCHD_MODEDESC.BSHIFT : Fld := { addr := 0x30040, lo := 24, width := 2, acc := .rw, dflt := 0, s2 := 4, n2 := 8 }
/-- Chapter 05, SCHD_MODEDESC offset 0x040, bits 15:0. -/
abbrev SCHD_MODEDESC.TAG : Fld := { addr := 0x30040, lo := 0, width := 16, acc := .rw, dflt := 0, s2 := 4, n2 := 8 }
/-- Chapter 06, SYNC_DEV offset 0x00C, bits 31:0. -/
abbrev SYNC_DEV.VALUE : Fld := { addr := 0x4000c, lo := 0, width := 32, acc := .ro, dflt := 0 }
/-- Chapter 06, SYNC_RESID offset 0x010, bits 31:0. -/
abbrev SYNC_RESID.VALUE : Fld := { addr := 0x40010, lo := 0, width := 32, acc := .ro, dflt := 0 }
/-- Chapter 06, SYNC_RATE offset 0x014, bits 31:0. -/
abbrev SYNC_RATE.VALUE : Fld := { addr := 0x40014, lo := 0, width := 32, acc := .ro, dflt := 0 }
/-- Chapter 06, SYNC_MEM offset 0x040, bits 31:30. -/
abbrev SYNC_MEM.RESULT : Fld := { addr := 0x40040, lo := 30, width := 2, acc := .ro, dflt := 0, s2 := 4, n2 := 15 }
/-- Chapter 06, SYNC_MEM offset 0x040, bits 29:16. -/
abbrev SYNC_MEM.DEV : Fld := { addr := 0x40040, lo := 16, width := 14, acc := .ro, dflt := 0, s2 := 4, n2 := 15 }
/-- Chapter 06, SYNC_MEM offset 0x040, bits 15:0. -/
abbrev SYNC_MEM.POS : Fld := { addr := 0x40040, lo := 0, width := 16, acc := .ro, dflt := 0, s2 := 4, n2 := 15 }
/-- Chapter 06, SYNC_PD offset 0x080, bit 31. -/
abbrev SYNC_PD.MEAS : Fld := { addr := 0x40080, lo := 31, width := 1, acc := .ro, dflt := 0, s2 := 4, n2 := 4 }
/-- Chapter 06, SYNC_PD offset 0x080, bits 19:0. -/
abbrev SYNC_PD.PD : Fld := { addr := 0x40080, lo := 0, width := 20, acc := .ro, dflt := 0, s2 := 4, n2 := 4 }
/-- Chapter 06, SYNC_PDASYM offset 0x090, bits 15:0. -/
abbrev SYNC_PDASYM.ASYM : Fld := { addr := 0x40090, lo := 0, width := 16, acc := .rw, dflt := 0, s2 := 4, n2 := 4 }
/-- Chapter 07, TIME_TODHI offset 0x014, bits 15:0. -/
abbrev TIME_TODHI.TOD : Fld := { addr := 0x50014, lo := 0, width := 16, acc := .rw, dflt := 0 }
/-- Chapter 07, TIME_TODLO offset 0x018, bits 31:0. -/
abbrev TIME_TODLO.TOD : Fld := { addr := 0x50018, lo := 0, width := 32, acc := .rw, dflt := 0 }
/-- Chapter 07, TIME_SIGMA offset 0x020, bits 31:0. -/
abbrev TIME_SIGMA.VALUE : Fld := { addr := 0x50020, lo := 0, width := 32, acc := .ro, dflt := 0 }
/-- Chapter 07, TIME_EOFF offset 0x024, bits 31:0. -/
abbrev TIME_EOFF.VALUE : Fld := { addr := 0x50024, lo := 0, width := 32, acc := .ro, dflt := 0 }
/-- Chapter 07, TIME_KAPPA offset 0x028, bits 31:0. -/
abbrev TIME_KAPPA.VALUE : Fld := { addr := 0x50028, lo := 0, width := 32, acc := .ro, dflt := 0 }
/-- Chapter 07, TPO_CTRL offset 0x080, bit 3. -/
abbrev TPO_CTRL.LATE : Fld := { addr := 0x50080, lo := 3, width := 1, acc := .w1c, dflt := 0, s2 := 32, n2 := 4 }
/-- Chapter 07, TPO_CTRL offset 0x080, bit 2. -/
abbrev TPO_CTRL.POL : Fld := { addr := 0x50080, lo := 2, width := 1, acc := .rw, dflt := 0, s2 := 32, n2 := 4 }
/-- Chapter 07, TPO_CTRL offset 0x080, bit 1. -/
abbrev TPO_CTRL.PER : Fld := { addr := 0x50080, lo := 1, width := 1, acc := .rw, dflt := 0, s2 := 32, n2 := 4 }
/-- Chapter 07, TPO_CTRL offset 0x080, bit 0. -/
abbrev TPO_CTRL.ARM : Fld := { addr := 0x50080, lo := 0, width := 1, acc := .rw, dflt := 0, s2 := 32, n2 := 4 }
/-- Chapter 07, TPO_TGTHI offset 0x084, bits 7:0. -/
abbrev TPO_TGTHI.TGTHI : Fld := { addr := 0x50084, lo := 0, width := 8, acc := .rw, dflt := 0, s2 := 32, n2 := 4 }
/-- Chapter 07, TPO_TGTLO offset 0x088, bits 31:0. -/
abbrev TPO_TGTLO.TGTLO : Fld := { addr := 0x50088, lo := 0, width := 32, acc := .rw, dflt := 0, s2 := 32, n2 := 4 }
/-- Chapter 07, TPO_PERIOD offset 0x08C, bits 31:0. -/
abbrev TPO_PERIOD.PERIOD : Fld := { addr := 0x5008c, lo := 0, width := 32, acc := .rw, dflt := 1000000000, s2 := 32, n2 := 4 }
/-- Chapter 07, TPO_WIDTH offset 0x090, bits 31:0. -/
abbrev TPO_WIDTH.WIDTH : Fld := { addr := 0x50090, lo := 0, width := 32, acc := .rw, dflt := 1000, s2 := 32, n2 := 4 }
/-- Chapter 07, TCI_CTRL offset 0x100, bits 7:3. -/
abbrev TCI_CTRL.FILL : Fld := { addr := 0x50100, lo := 3, width := 5, acc := .ro, dflt := 0, s2 := 16, n2 := 4 }
/-- Chapter 07, TCI_CTRL offset 0x100, bit 2. -/
abbrev TCI_CTRL.OVF : Fld := { addr := 0x50100, lo := 2, width := 1, acc := .w1c, dflt := 0, s2 := 16, n2 := 4 }
/-- Chapter 07, TCI_CTRL offset 0x100, bits 1:0. -/
abbrev TCI_CTRL.EDGE : Fld := { addr := 0x50100, lo := 0, width := 2, acc := .rw, dflt := 0, s2 := 16, n2 := 4 }
/-- Chapter 07, TIME_PCOR_S0 offset 0x140, bits 31:16. -/
abbrev TIME_PCOR_S0.RX : Fld := { addr := 0x50140, lo := 16, width := 16, acc := .rw, dflt := 0, s2 := 16, n2 := 4 }
/-- Chapter 07, TIME_PCOR_S0 offset 0x140, bits 15:0. -/
abbrev TIME_PCOR_S0.TX : Fld := { addr := 0x50140, lo := 0, width := 16, acc := .rw, dflt := 0, s2 := 16, n2 := 4 }
/-- Chapter 07, TIME_PCOR_S1 offset 0x144, bits 31:16. -/
abbrev TIME_PCOR_S1.RX : Fld := { addr := 0x50144, lo := 16, width := 16, acc := .rw, dflt := 0, s2 := 16, n2 := 4 }
/-- Chapter 07, TIME_PCOR_S1 offset 0x144, bits 15:0. -/
abbrev TIME_PCOR_S1.TX : Fld := { addr := 0x50144, lo := 0, width := 16, acc := .rw, dflt := 0, s2 := 16, n2 := 4 }
/-- Chapter 07, TIME_PCOR_S2 offset 0x148, bits 31:16. -/
abbrev TIME_PCOR_S2.RX : Fld := { addr := 0x50148, lo := 16, width := 16, acc := .rw, dflt := 0, s2 := 16, n2 := 4 }
/-- Chapter 07, TIME_PCOR_S2 offset 0x148, bits 15:0. -/
abbrev TIME_PCOR_S2.TX : Fld := { addr := 0x50148, lo := 0, width := 16, acc := .rw, dflt := 0, s2 := 16, n2 := 4 }
/-- Chapter 07, TIME_PTP offset 0x180, bits 15:12. -/
abbrev TIME_PTP.LOGSYNC : Fld := { addr := 0x50180, lo := 12, width := 4, acc := .rwg, dflt := 13, s2 := 4, n2 := 4 }
/-- Chapter 07, TIME_PTP offset 0x180, bits 11:8. -/
abbrev TIME_PTP.LOGANN : Fld := { addr := 0x50180, lo := 8, width := 4, acc := .rwg, dflt := 1, s2 := 4, n2 := 4 }
/-- Chapter 07, TIME_PTP offset 0x180, bits 7:6. -/
abbrev TIME_PTP.PROFILE : Fld := { addr := 0x50180, lo := 6, width := 2, acc := .rwg, dflt := 0, s2 := 4, n2 := 4 }
/-- Chapter 07, TIME_PTP offset 0x180, bit 5. -/
abbrev TIME_PTP.TRANS : Fld := { addr := 0x50180, lo := 5, width := 1, acc := .rwg, dflt := 0, s2 := 4, n2 := 4 }
/-- Chapter 07, TIME_PTP offset 0x180, bit 4. -/
abbrev TIME_PTP.STEP : Fld := { addr := 0x50180, lo := 4, width := 1, acc := .rwg, dflt := 1, s2 := 4, n2 := 4 }
/-- Chapter 07, TIME_PTP offset 0x180, bit 3. -/
abbrev TIME_PTP.DELAYM : Fld := { addr := 0x50180, lo := 3, width := 1, acc := .rwg, dflt := 0, s2 := 4, n2 := 4 }
/-- Chapter 07, TIME_PTP offset 0x180, bit 0. -/
abbrev TIME_PTP.PEN : Fld := { addr := 0x50180, lo := 0, width := 1, acc := .rwg, dflt := 0, s2 := 4, n2 := 4 }
/-- Chapter 07, TIME_PTPDS offset 0x190, bits 31:24. -/
abbrev TIME_PTPDS.PRIO1 : Fld := { addr := 0x50190, lo := 24, width := 8, acc := .rw, dflt := 128 }
/-- Chapter 07, TIME_PTPDS offset 0x190, bits 23:16. -/
abbrev TIME_PTPDS.PRIO2 : Fld := { addr := 0x50190, lo := 16, width := 8, acc := .rw, dflt := 128 }
/-- Chapter 08, FWD_POOLCFG offset 0x008, bits 28:16. -/
abbrev FWD_POOLCFG.EXRES : Fld := { addr := 0x60008, lo := 16, width := 13, acc := .rwg, dflt := 1024 }
/-- Chapter 08, FWD_POOLCFG offset 0x008, bits 9:0. -/
abbrev FWD_POOLCFG.MINRES : Fld := { addr := 0x60008, lo := 0, width := 10, acc := .rwg, dflt := 128 }
/-- Chapter 08, FWD_POOLCFG2 offset 0x00C, bits 13:0. -/
abbrev FWD_POOLCFG2.BULKFLOOR : Fld := { addr := 0x6000c, lo := 0, width := 14, acc := .rwg, dflt := 2048 }
/-- Chapter 08, FWD_POOLA offset 0x020, bits 30:16. -/
abbrev FWD_POOLA.HI : Fld := { addr := 0x60020, lo := 16, width := 15, acc := .ro, dflt := 16384 }
/-- Chapter 08, FWD_POOLA offset 0x020, bits 14:0. -/
abbrev FWD_POOLA.LO : Fld := { addr := 0x60020, lo := 0, width := 15, acc := .ro, dflt := 0 }
/-- Chapter 08, FWD_POOLB offset 0x024, bits 30:16. -/
abbrev FWD_POOLB.HI : Fld := { addr := 0x60024, lo := 16, width := 15, acc := .ro, dflt := 0 }
/-- Chapter 08, FWD_POOLB offset 0x024, bits 14:0. -/
abbrev FWD_POOLB.LO : Fld := { addr := 0x60024, lo := 0, width := 15, acc := .ro, dflt := 0 }
/-- Chapter 08, FWD_POOLC offset 0x028, bits 30:16. -/
abbrev FWD_POOLC.HI : Fld := { addr := 0x60028, lo := 16, width := 15, acc := .ro, dflt := 0 }
/-- Chapter 08, FWD_POOLC offset 0x028, bits 14:0. -/
abbrev FWD_POOLC.LO : Fld := { addr := 0x60028, lo := 0, width := 15, acc := .ro, dflt := 0 }
/-- Chapter 08, FWD_VPATH offset 0x100, bits 31:30. -/
abbrev FWD_VPATH.STATUS : Fld := { addr := 0x60100, lo := 30, width := 2, acc := .ro, dflt := 0, s2 := 4, n2 := 64 }
/-- Chapter 08, FWD_VPATH offset 0x100, bit 29. -/
abbrev FWD_VPATH.A0 : Fld := { addr := 0x60100, lo := 29, width := 1, acc := .ro, dflt := 0, s2 := 4, n2 := 64 }
/-- Chapter 08, FWD_VPATH offset 0x100, bit 28. -/
abbrev FWD_VPATH.A1 : Fld := { addr := 0x60100, lo := 28, width := 1, acc := .ro, dflt := 0, s2 := 4, n2 := 64 }
/-- Chapter 08, FWD_VPATH offset 0x100, bit 27. -/
abbrev FWD_VPATH.B0 : Fld := { addr := 0x60100, lo := 27, width := 1, acc := .ro, dflt := 0, s2 := 4, n2 := 64 }
/-- Chapter 08, FWD_VPATH offset 0x100, bit 26. -/
abbrev FWD_VPATH.B1 : Fld := { addr := 0x60100, lo := 26, width := 1, acc := .ro, dflt := 0, s2 := 4, n2 := 64 }
/-- Chapter 08, FWD_VPATH offset 0x100, bits 15:0. -/
abbrev FWD_VPATH.SRC : Fld := { addr := 0x60100, lo := 0, width := 16, acc := .ro, dflt := 0, s2 := 4, n2 := 64 }
/-- Chapter 09, CONS_CFG offset 0x008, bit 15. -/
abbrev CONS_CFG.KEEPFCS : Fld := { addr := 0x70008, lo := 15, width := 1, acc := .rwg, dflt := 0, s1 := 0x4000, n1 := 4 }
/-- Chapter 09, CONS_CFG offset 0x008, bits 13:0. -/
abbrev CONS_CFG.MAXLEN : Fld := { addr := 0x70008, lo := 0, width := 14, acc := .rwg, dflt := 1522, s1 := 0x4000, n1 := 4 }
/-- Chapter 09, CONS_PVID offset 0x00C, bits 14:12. -/
abbrev CONS_PVID.PCP : Fld := { addr := 0x7000c, lo := 12, width := 3, acc := .rw, dflt := 0, s1 := 0x4000, n1 := 4 }
/-- Chapter 09, CONS_PVID offset 0x00C, bits 11:0. -/
abbrev CONS_PVID.PVID : Fld := { addr := 0x7000c, lo := 0, width := 12, acc := .rw, dflt := 1, s1 := 0x4000, n1 := 4 }
/-- Chapter 09, CONS_IOETYPE offset 0x010, bits 15:0. -/
abbrev CONS_IOETYPE.ETYPE : Fld := { addr := 0x70010, lo := 0, width := 16, acc := .rwg, dflt := 34997, s1 := 0x4000, n1 := 4 }
/-- Chapter 09, CONS_PAUSE offset 0x01C, bit 31. -/
abbrev CONS_PAUSE.RXEN : Fld := { addr := 0x7001c, lo := 31, width := 1, acc := .rw, dflt := 0, s1 := 0x4000, n1 := 4 }
/-- Chapter 09, CONS_PAUSE offset 0x01C, bit 30. -/
abbrev CONS_PAUSE.TXEN : Fld := { addr := 0x7001c, lo := 30, width := 1, acc := .rw, dflt := 0, s1 := 0x4000, n1 := 4 }
/-- Chapter 09, CONS_PAUSE offset 0x01C, bits 25:16. -/
abbrev CONS_PAUSE.WDMS : Fld := { addr := 0x7001c, lo := 16, width := 10, acc := .rw, dflt := 10, s1 := 0x4000, n1 := 4 }
/-- Chapter 09, CONS_PAUSE offset 0x01C, bits 15:0. -/
abbrev CONS_PAUSE.XOFFQ : Fld := { addr := 0x7001c, lo := 0, width := 16, acc := .rw, dflt := 65535, s1 := 0x4000, n1 := 4 }
/-- Chapter 09, CONS_PAUSETH offset 0x020, bits 31:16. -/
abbrev CONS_PAUSETH.XOFF : Fld := { addr := 0x70020, lo := 16, width := 16, acc := .rw, dflt := 256, s1 := 0x4000, n1 := 4 }
/-- Chapter 09, CONS_PAUSETH offset 0x020, bits 15:0. -/
abbrev CONS_PAUSETH.XON : Fld := { addr := 0x70020, lo := 0, width := 16, acc := .rw, dflt := 128, s1 := 0x4000, n1 := 4 }
/-- Chapter 09, CONS_DEFA offset 0x028, bits 31:0. -/
abbrev CONS_DEFA.W2 : Fld := { addr := 0x70028, lo := 0, width := 32, acc := .rw, dflt := 1073741824, s1 := 0x4000, n1 := 4 }
/-- Chapter 09, CONS_DEFB offset 0x02C, bits 31:0. -/
abbrev CONS_DEFB.W3 : Fld := { addr := 0x7002c, lo := 0, width := 32, acc := .rw, dflt := 0, s1 := 0x4000, n1 := 4 }
/-- Chapter 09, CONS_RXQ_BASELO offset 0x100, bits 31:6. -/
abbrev CONS_RXQ_BASELO.BASELO : Fld := { addr := 0x70100, lo := 6, width := 26, acc := .rwg, dflt := 0, s1 := 0x4000, n1 := 4, s2 := 32, n2 := 8 }
/-- Chapter 09, CONS_RXQ_BASEHI offset 0x104, bits 31:0. -/
abbrev CONS_RXQ_BASEHI.BASEHI : Fld := { addr := 0x70104, lo := 0, width := 32, acc := .rwg, dflt := 0, s1 := 0x4000, n1 := 4, s2 := 32, n2 := 8 }
/-- Chapter 09, CONS_RXQ_CFG offset 0x108, bit 31. -/
abbrev CONS_RXQ_CFG.EN : Fld := { addr := 0x70108, lo := 31, width := 1, acc := .rw, dflt := 0, s1 := 0x4000, n1 := 4, s2 := 32, n2 := 8 }
/-- Chapter 09, CONS_RXQ_CFG offset 0x108, bits 10:8. -/
abbrev CONS_RXQ_CFG.SIZE : Fld := { addr := 0x70108, lo := 8, width := 3, acc := .rwg, dflt := 0, s1 := 0x4000, n1 := 4, s2 := 32, n2 := 8 }
/-- Chapter 09, CONS_RXQ_CFG offset 0x108, bits 7:0. -/
abbrev CONS_RXQ_CFG.BUFSZ : Fld := { addr := 0x70108, lo := 0, width := 8, acc := .rwg, dflt := 4, s1 := 0x4000, n1 := 4, s2 := 32, n2 := 8 }
/-- Chapter 09, CONS_RXQ_HEAD offset 0x10C, bits 11:0. -/
abbrev CONS_RXQ_HEAD.HEAD : Fld := { addr := 0x7010c, lo := 0, width := 12, acc := .ro, dflt := 0, s1 := 0x4000, n1 := 4, s2 := 32, n2 := 8 }
/-- Chapter 09, CONS_RXQ_TAIL offset 0x110, bits 11:0. -/
abbrev CONS_RXQ_TAIL.TAIL : Fld := { addr := 0x70110, lo := 0, width := 12, acc := .rw, dflt := 0, s1 := 0x4000, n1 := 4, s2 := 32, n2 := 8 }
/-- Chapter 09, CONS_RXQ_IMOD offset 0x114, bits 31:16. -/
abbrev CONS_RXQ_IMOD.ITIME : Fld := { addr := 0x70114, lo := 16, width := 16, acc := .rw, dflt := 0, s1 := 0x4000, n1 := 4, s2 := 32, n2 := 8 }
/-- Chapter 09, CONS_RXQ_IMOD offset 0x114, bits 15:0. -/
abbrev CONS_RXQ_IMOD.IFRAMES : Fld := { addr := 0x70114, lo := 0, width := 16, acc := .rw, dflt := 1, s1 := 0x4000, n1 := 4, s2 := 32, n2 := 8 }
/-- Chapter 09, CONS_TXQ_BASELO offset 0x200, bits 31:6. -/
abbrev CONS_TXQ_BASELO.BASELO : Fld := { addr := 0x70200, lo := 6, width := 26, acc := .rwg, dflt := 0, s1 := 0x4000, n1 := 4, s2 := 32, n2 := 8 }
/-- Chapter 09, CONS_TXQ_BASEHI offset 0x204, bits 31:0. -/
abbrev CONS_TXQ_BASEHI.BASEHI : Fld := { addr := 0x70204, lo := 0, width := 32, acc := .rwg, dflt := 0, s1 := 0x4000, n1 := 4, s2 := 32, n2 := 8 }
/-- Chapter 09, CONS_TXQ_CFG offset 0x208, bit 31. -/
abbrev CONS_TXQ_CFG.EN : Fld := { addr := 0x70208, lo := 31, width := 1, acc := .rw, dflt := 0, s1 := 0x4000, n1 := 4, s2 := 32, n2 := 8 }
/-- Chapter 09, CONS_TXQ_CFG offset 0x208, bits 10:8. -/
abbrev CONS_TXQ_CFG.SIZE : Fld := { addr := 0x70208, lo := 8, width := 3, acc := .rwg, dflt := 0, s1 := 0x4000, n1 := 4, s2 := 32, n2 := 8 }
/-- Chapter 09, CONS_TXQ_HEAD offset 0x20C, bits 11:0. -/
abbrev CONS_TXQ_HEAD.HEAD : Fld := { addr := 0x7020c, lo := 0, width := 12, acc := .ro, dflt := 0, s1 := 0x4000, n1 := 4, s2 := 32, n2 := 8 }
/-- Chapter 09, CONS_TXQ_TAIL offset 0x210, bits 11:0. -/
abbrev CONS_TXQ_TAIL.TAIL : Fld := { addr := 0x70210, lo := 0, width := 12, acc := .rw, dflt := 0, s1 := 0x4000, n1 := 4, s2 := 32, n2 := 8 }
/-- Chapter 09, CONS_TXQ_IMOD offset 0x214, bits 31:16. -/
abbrev CONS_TXQ_IMOD.ITIME : Fld := { addr := 0x70214, lo := 16, width := 16, acc := .rw, dflt := 0, s1 := 0x4000, n1 := 4, s2 := 32, n2 := 8 }
/-- Chapter 09, CONS_TXQ_IMOD offset 0x214, bits 15:0. -/
abbrev CONS_TXQ_IMOD.IFRAMES : Fld := { addr := 0x70214, lo := 0, width := 16, acc := .rw, dflt := 1, s1 := 0x4000, n1 := 4, s2 := 32, n2 := 8 }
/-- Chapter 09, CONS_FILT_W0 offset 0x400, bits 31:0. -/
abbrev CONS_FILT_W0.W0 : Fld := { addr := 0x70400, lo := 0, width := 32, acc := .rw, dflt := 0, s1 := 0x4000, n1 := 4, s2 := 16, n2 := 64 }
/-- Chapter 09, CONS_FILT_W1 offset 0x404, bits 31:0. -/
abbrev CONS_FILT_W1.W1 : Fld := { addr := 0x70404, lo := 0, width := 32, acc := .rw, dflt := 0, s1 := 0x4000, n1 := 4, s2 := 16, n2 := 64 }
/-- Chapter 09, CONS_FILT_W2 offset 0x408, bits 31:0. -/
abbrev CONS_FILT_W2.W2 : Fld := { addr := 0x70408, lo := 0, width := 32, acc := .rw, dflt := 0, s1 := 0x4000, n1 := 4, s2 := 16, n2 := 64 }
/-- Chapter 09, CONS_FILT_W3 offset 0x40C, bits 31:0. -/
abbrev CONS_FILT_W3.W3 : Fld := { addr := 0x7040c, lo := 0, width := 32, acc := .rw, dflt := 0, s1 := 0x4000, n1 := 4, s2 := 16, n2 := 64 }
/-- Chapter 10, CYCL_TASK offset 0x010, bit 31. -/
abbrev CYCL_TASK.TEN : Fld := { addr := 0x80010, lo := 31, width := 1, acc := .rwg, dflt := 0, s2 := 4, n2 := 4 }
/-- Chapter 10, CYCL_TASK offset 0x010, bits 2:0. -/
abbrev CYCL_TASK.PERIOD : Fld := { addr := 0x80010, lo := 0, width := 3, acc := .rwg, dflt := 0, s2 := 4, n2 := 4 }
/-- Chapter 10, CYCL_TIN offset 0x020, bits 26:16. -/
abbrev CYCL_TIN.LEN : Fld := { addr := 0x80020, lo := 16, width := 11, acc := .rwg, dflt := 0, s2 := 8, n2 := 4 }
/-- Chapter 10, CYCL_TIN offset 0x020, bits 9:0. -/
abbrev CYCL_TIN.START : Fld := { addr := 0x80020, lo := 0, width := 10, acc := .rwg, dflt := 0, s2 := 8, n2 := 4 }
/-- Chapter 10, CYCL_TOUT offset 0x024, bits 26:16. -/
abbrev CYCL_TOUT.LEN : Fld := { addr := 0x80024, lo := 16, width := 11, acc := .rwg, dflt := 0, s2 := 8, n2 := 4 }
/-- Chapter 10, CYCL_TOUT offset 0x024, bits 9:0. -/
abbrev CYCL_TOUT.START : Fld := { addr := 0x80024, lo := 0, width := 10, acc := .rwg, dflt := 0, s2 := 8, n2 := 4 }
/-- Chapter 10, CYCL_COST offset 0x040, bits 31:0. -/
abbrev CYCL_COST.VALUE : Fld := { addr := 0x80040, lo := 0, width := 32, acc := .ro, dflt := 0, s2 := 4, n2 := 4 }
/-- Chapter 10, CYCL_DEM offset 0x050, bits 31:0. -/
abbrev CYCL_DEM.VALUE : Fld := { addr := 0x80050, lo := 0, width := 32, acc := .ro, dflt := 0, s2 := 4, n2 := 4 }
/-- Chapter 10, CYCL_WIN offset 0x060, bits 31:0. -/
abbrev CYCL_WIN.VALUE : Fld := { addr := 0x80060, lo := 0, width := 32, acc := .ro, dflt := 0, s2 := 4, n2 := 4 }
/-- Chapter 10, CYCL_EVAL offset 0x070, bits 31:16. -/
abbrev CYCL_EVAL.MAX : Fld := { addr := 0x80070, lo := 16, width := 16, acc := .ro, dflt := 0, s2 := 4, n2 := 4 }
/-- Chapter 10, CYCL_EVAL offset 0x070, bits 15:0. -/
abbrev CYCL_EVAL.LAST : Fld := { addr := 0x80070, lo := 0, width := 16, acc := .ro, dflt := 0, s2 := 4, n2 := 4 }
/-- Chapter 10, CYCL_IOCFG offset 0x080, bit 3. -/
abbrev CYCL_IOCFG.TAGEN : Fld := { addr := 0x80080, lo := 3, width := 1, acc := .rwg, dflt := 0 }
/-- Chapter 10, CYCL_IOCFG offset 0x080, bits 2:0. -/
abbrev CYCL_IOCFG.PCP : Fld := { addr := 0x80080, lo := 0, width := 3, acc := .rwg, dflt := 6 }
/-- Chapter 10, CYCL_HVIEW offset 0x084, bit 1. -/
abbrev CYCL_HVIEW.OUTW : Fld := { addr := 0x80084, lo := 1, width := 1, acc := .rw, dflt := 0 }
/-- Chapter 10, CYCL_HVIEW offset 0x084, bit 0. -/
abbrev CYCL_HVIEW.INR : Fld := { addr := 0x80084, lo := 0, width := 1, acc := .rw, dflt := 0 }
/-- Chapter 11, PRG_AID offset 0x14C, bits 31:0. -/
abbrev PRG_AID.VALUE : Fld := { addr := 0x8014c, lo := 0, width := 32, acc := .ro, dflt := 0 }
/-- Chapter 11, PRG_AREV offset 0x150, bits 31:0. -/
abbrev PRG_AREV.VALUE : Fld := { addr := 0x80150, lo := 0, width := 32, acc := .ro, dflt := 0 }
/-- Chapter 11, PRG_IID offset 0x154, bits 31:0. -/
abbrev PRG_IID.VALUE : Fld := { addr := 0x80154, lo := 0, width := 32, acc := .ro, dflt := 0 }
/-- Chapter 11, PRG_IREV offset 0x158, bits 31:0. -/
abbrev PRG_IREV.VALUE : Fld := { addr := 0x80158, lo := 0, width := 32, acc := .ro, dflt := 0 }
/-- Chapter 11, PRG_XFER offset 0x15C, bits 31:16. -/
abbrev PRG_XFER.KEPT : Fld := { addr := 0x8015c, lo := 16, width := 16, acc := .ro, dflt := 0 }
/-- Chapter 11, PRG_XFER offset 0x15C, bits 15:0. -/
abbrev PRG_XFER.INIT : Fld := { addr := 0x8015c, lo := 0, width := 16, acc := .ro, dflt := 0 }
/-- Chapter 11, PRG_XFER2 offset 0x160, bits 31:16. -/
abbrev PRG_XFER2.MISM : Fld := { addr := 0x80160, lo := 16, width := 16, acc := .ro, dflt := 0 }
/-- Chapter 11, PRG_XFER2 offset 0x160, bits 15:0. -/
abbrev PRG_XFER2.ORPH : Fld := { addr := 0x80160, lo := 0, width := 16, acc := .ro, dflt := 0 }
/-- Chapter 12, TWIN_CLAIM offset 0x010, bits 31:0. -/
abbrev TWIN_CLAIM.VALUE : Fld := { addr := 0x90010, lo := 0, width := 32, acc := .ro, dflt := 0 }
/-- Chapter 12, TWIN_PCLAIM offset 0x014, bits 31:0. -/
abbrev TWIN_PCLAIM.VALUE : Fld := { addr := 0x90014, lo := 0, width := 32, acc := .ro, dflt := 0 }
/-- Chapter 12, TWIN_HCLAIM offset 0x018, bits 31:0. -/
abbrev TWIN_HCLAIM.VALUE : Fld := { addr := 0x90018, lo := 0, width := 32, acc := .ro, dflt := 0 }
/-- Chapter 12, TWIN_PUIDHI offset 0x01C, bits 31:0. -/
abbrev TWIN_PUIDHI.UID : Fld := { addr := 0x9001c, lo := 0, width := 32, acc := .ro, dflt := 0 }
/-- Chapter 12, TWIN_PUIDLO offset 0x020, bits 31:0. -/
abbrev TWIN_PUIDLO.UID : Fld := { addr := 0x90020, lo := 0, width := 32, acc := .ro, dflt := 0 }
/-- Chapter 12, TWIN_RANK offset 0x024, bits 31:16. -/
abbrev TWIN_RANK.EPOCH : Fld := { addr := 0x90024, lo := 16, width := 16, acc := .ro, dflt := 0 }
/-- Chapter 12, TWIN_RANK offset 0x024, bits 15:0. -/
abbrev TWIN_RANK.RANK : Fld := { addr := 0x90024, lo := 0, width := 16, acc := .ro, dflt := 0 }
/-- Chapter 12, TWIN_MIR offset 0x028, bits 31:16. -/
abbrev TWIN_MIR.AGE : Fld := { addr := 0x90028, lo := 16, width := 16, acc := .ro, dflt := 0 }
/-- Chapter 12, TWIN_MIR offset 0x028, bits 15:0. -/
abbrev TWIN_MIR.DIRTY : Fld := { addr := 0x90028, lo := 0, width := 16, acc := .ro, dflt := 0 }
/-- Chapter 12, TWIN_RELCYC offset 0x02C, bits 31:0. -/
abbrev TWIN_RELCYC.RELCYC : Fld := { addr := 0x9002c, lo := 0, width := 32, acc := .ro, dflt := 0 }
/-- Chapter 13, REST_ALARM offset 0x010, bits 31:0. -/
abbrev REST_ALARM.ALARM : Fld := { addr := 0xa0010, lo := 0, width := 32, acc := .wp, dflt := 0 }
/-- Chapter 13, REST_ROUND offset 0x014, bits 31:16. -/
abbrev REST_ROUND.VPOS : Fld := { addr := 0xa0014, lo := 16, width := 16, acc := .ro, dflt := 0 }
/-- Chapter 13, REST_ROUND offset 0x014, bits 15:0. -/
abbrev REST_ROUND.ROUND : Fld := { addr := 0xa0014, lo := 0, width := 16, acc := .ro, dflt := 0 }
/-- Chapter 13, REST_COMMIT offset 0x018, bits 31:0. -/
abbrev REST_COMMIT.CCYC : Fld := { addr := 0xa0018, lo := 0, width := 32, acc := .ro, dflt := 0 }
/-- Chapter 14, RECD_NEXTSEQ offset 0x00C, bits 31:0. -/
abbrev RECD_NEXTSEQ.SEQ : Fld := { addr := 0xb000c, lo := 0, width := 32, acc := .ro, dflt := 0 }
/-- Chapter 14, RECD_OLDSEQ offset 0x010, bits 31:0. -/
abbrev RECD_OLDSEQ.SEQ : Fld := { addr := 0xb0010, lo := 0, width := 32, acc := .ro, dflt := 0 }
/-- Chapter 14, RECD_MORNSEQ offset 0x014, bits 31:0. -/
abbrev RECD_MORNSEQ.SEQ : Fld := { addr := 0xb0014, lo := 0, width := 32, acc := .ro, dflt := 0 }
/-- Chapter 14, RECD_OPSEC offset 0x018, bits 31:0. -/
abbrev RECD_OPSEC.VALUE : Fld := { addr := 0xb0018, lo := 0, width := 32, acc := .ro, dflt := 0 }
/-- Chapter 14, RECD_OPFRAC offset 0x01C, bits 7:0. -/
abbrev RECD_OPFRAC.FRAC : Fld := { addr := 0xb001c, lo := 0, width := 8, acc := .ro, dflt := 0 }
/-- Chapter 14, RECD_PCC offset 0x020, bits 31:0. -/
abbrev RECD_PCC.VALUE : Fld := { addr := 0xb0020, lo := 0, width := 32, acc := .ro, dflt := 0 }
/-- Chapter 14, RECD_STAGE offset 0x024, bits 31:16. -/
abbrev RECD_STAGE.FILL : Fld := { addr := 0xb0024, lo := 16, width := 16, acc := .ro, dflt := 0 }
/-- Chapter 14, RECD_STAGE offset 0x024, bits 15:0. -/
abbrev RECD_STAGE.PEAK : Fld := { addr := 0xb0024, lo := 0, width := 16, acc := .ro, dflt := 0 }
/-- Chapter 14, RECD_BLK offset 0x028, bits 31:24. -/
abbrev RECD_BLK.SPARE : Fld := { addr := 0xb0028, lo := 24, width := 8, acc := .ro, dflt := 32 }
/-- Chapter 14, RECD_BLK offset 0x028, bits 23:16. -/
abbrev RECD_BLK.RETIRED : Fld := { addr := 0xb0028, lo := 16, width := 8, acc := .ro, dflt := 0 }
/-- Chapter 14, RECD_BLK offset 0x028, bits 8:0. -/
abbrev RECD_BLK.RINGBLK : Fld := { addr := 0xb0028, lo := 0, width := 9, acc := .ro, dflt := 416 }
/-- Chapter 14, RECD_HWCTL offset 0x02C, bit 31. -/
abbrev RECD_HWCTL.GO : Fld := { addr := 0xb002c, lo := 31, width := 1, acc := .wp, dflt := 0 }
/-- Chapter 14, RECD_HWCTL offset 0x02C, bits 23:16. -/
abbrev RECD_HWCTL.CLASS : Fld := { addr := 0xb002c, lo := 16, width := 8, acc := .wp, dflt := 0 }
/-- Chapter 14, RECD_HWCTL offset 0x02C, bits 8:0. -/
abbrev RECD_HWCTL.BLEN : Fld := { addr := 0xb002c, lo := 0, width := 9, acc := .wp, dflt := 0 }
/-- Chapter 14, RECD_HWCODE offset 0x030, bits 15:0. -/
abbrev RECD_HWCODE.CODE : Fld := { addr := 0xb0030, lo := 0, width := 16, acc := .rw, dflt := 0 }
/-- Chapter 14, RECD_CSEL offset 0x034, bit 31. -/
abbrev RECD_CSEL.WR : Fld := { addr := 0xb0034, lo := 31, width := 1, acc := .wp, dflt := 0 }
/-- Chapter 14, RECD_CSEL offset 0x034, bits 7:0. -/
abbrev RECD_CSEL.CLASS : Fld := { addr := 0xb0034, lo := 0, width := 8, acc := .wp, dflt := 0 }
/-- Chapter 14, RECD_CDATA offset 0x038, bits 31:16. -/
abbrev RECD_CDATA.RATE : Fld := { addr := 0xb0038, lo := 16, width := 16, acc := .rw, dflt := 10 }
/-- Chapter 14, RECD_CDATA offset 0x038, bits 15:8. -/
abbrev RECD_CDATA.DEPTH : Fld := { addr := 0xb0038, lo := 8, width := 8, acc := .rw, dflt := 32 }
/-- Chapter 14, RECD_CDATA offset 0x038, bits 7:0. -/
abbrev RECD_CDATA.TOK : Fld := { addr := 0xb0038, lo := 0, width := 8, acc := .ro, dflt := 0 }
/-- Chapter 14, RECD_MIRBASE offset 0x060, bits 31:12. -/
abbrev RECD_MIRBASE.ADDR : Fld := { addr := 0xb0060, lo := 12, width := 20, acc := .rwg, dflt := 0 }
/-- Chapter 14, RECD_MIRSIZE offset 0x064, bits 31:12. -/
abbrev RECD_MIRSIZE.SIZE : Fld := { addr := 0xb0064, lo := 12, width := 20, acc := .rwg, dflt := 0 }
/-- Chapter 14, RECD_MIRSTAT offset 0x068, bits 31:16. -/
abbrev RECD_MIRSTAT.GAP : Fld := { addr := 0xb0068, lo := 16, width := 16, acc := .ro, dflt := 0 }
/-- Chapter 14, RECD_MIRSTAT offset 0x068, bits 15:0. -/
abbrev RECD_MIRSTAT.LAG : Fld := { addr := 0xb0068, lo := 0, width := 16, acc := .ro, dflt := 0 }
/-- Chapter 14, RECD_HBODY offset 0x200, bits 31:0. -/
abbrev RECD_HBODY.BODY : Fld := { addr := 0xb0200, lo := 0, width := 32, acc := .rw, dflt := 0, s2 := 4, n2 := 124 }
/-- Chapter 15, BRDG_ID offset 0x010, bits 31:16. -/
abbrev BRDG_ID.DEVID : Fld := { addr := 0xc0010, lo := 16, width := 16, acc := .ro, dflt := 38400 }
/-- Chapter 15, BRDG_ID offset 0x010, bits 15:0. -/
abbrev BRDG_ID.VID : Fld := { addr := 0xc0010, lo := 0, width := 16, acc := .ro, dflt := Config.vendorId.toNat }
/-- Chapter 15, BRDG_PCIE offset 0x014, bits 9:8. -/
abbrev BRDG_PCIE.DSTATE : Fld := { addr := 0xc0014, lo := 8, width := 2, acc := .ro, dflt := 0 }
/-- Chapter 15, BRDG_PCIE offset 0x014, bits 7:5. -/
abbrev BRDG_PCIE.MRRS : Fld := { addr := 0xc0014, lo := 5, width := 3, acc := .ro, dflt := 2 }
/-- Chapter 15, BRDG_PCIE offset 0x014, bits 4:3. -/
abbrev BRDG_PCIE.MPS : Fld := { addr := 0xc0014, lo := 3, width := 2, acc := .ro, dflt := 0 }
/-- Chapter 15, BRDG_PCIE offset 0x014, bits 2:1. -/
abbrev BRDG_PCIE.WIDTH : Fld := { addr := 0xc0014, lo := 1, width := 2, acc := .ro, dflt := 0 }
/-- Chapter 15, BRDG_PCIE offset 0x014, bit 0. -/
abbrev BRDG_PCIE.SPEED : Fld := { addr := 0xc0014, lo := 0, width := 1, acc := .ro, dflt := 0 }
/-- Chapter 15, BRDG_STACK offset 0x018, bits 11:9. -/
abbrev BRDG_STACK.RST : Fld := { addr := 0xc0018, lo := 9, width := 3, acc := .wo, dflt := 0 }
/-- Chapter 15, BRDG_STACK offset 0x018, bits 3:1. -/
abbrev BRDG_STACK.PRESENT : Fld := { addr := 0xc0018, lo := 1, width := 3, acc := .ro, dflt := 0 }
/-- Chapter 15, BRDG_SPUP offset 0x01C, bits 7:6. -/
abbrev BRDG_SPUP.PEERID : Fld := { addr := 0xc001c, lo := 6, width := 2, acc := .ro, dflt := 0 }
/-- Chapter 15, BRDG_SPUP offset 0x01C, bits 3:0. -/
abbrev BRDG_SPUP.STATE : Fld := { addr := 0xc001c, lo := 0, width := 4, acc := .ro, dflt := 1 }
/-- Chapter 15, BRDG_SPDN offset 0x020, bits 7:6. -/
abbrev BRDG_SPDN.PEERID : Fld := { addr := 0xc0020, lo := 6, width := 2, acc := .ro, dflt := 0 }
/-- Chapter 15, BRDG_SPDN offset 0x020, bits 3:0. -/
abbrev BRDG_SPDN.STATE : Fld := { addr := 0xc0020, lo := 0, width := 4, acc := .ro, dflt := 1 }
/-- Chapter 15, BRDG_SEM offset 0x080, bits 2:0. -/
abbrev BRDG_SEM.OWNER : Fld := { addr := 0xc0080, lo := 0, width := 3, acc := .rw, dflt := 0, s2 := 4, n2 := 32 }
/-- Chapter 17, HKP_MIDSECHI offset 0x008, bits 15:0. -/
abbrev HKP_MIDSECHI.SECHI : Fld := { addr := 0xe0008, lo := 0, width := 16, acc := .rw, dflt := 0 }
/-- Chapter 17, HKP_MIDSECLO offset 0x00C, bits 31:0. -/
abbrev HKP_MIDSECLO.SECLO : Fld := { addr := 0xe000c, lo := 0, width := 32, acc := .rw, dflt := 0 }
/-- Chapter 17, HKP_MIDNS offset 0x010, bit 31. -/
abbrev HKP_MIDNS.GO : Fld := { addr := 0xe0010, lo := 31, width := 1, acc := .wo, dflt := 0 }
/-- Chapter 17, HKP_MIDNS offset 0x010, bits 29:0. -/
abbrev HKP_MIDNS.NS : Fld := { addr := 0xe0010, lo := 0, width := 30, acc := .rw, dflt := 0 }
/-- Chapter 17, HKP_MIDSTAT offset 0x014, bits 31:16. -/
abbrev HKP_MIDSTAT.MIDNO : Fld := { addr := 0xe0014, lo := 16, width := 16, acc := .ro, dflt := 0 }
/-- Chapter 17, HKP_MIDSTAT offset 0x014, bits 10:8. -/
abbrev HKP_MIDSTAT.RES : Fld := { addr := 0xe0014, lo := 8, width := 3, acc := .ro, dflt := 0 }
/-- Chapter 17, HKP_MIDSTAT offset 0x014, bits 2:0. -/
abbrev HKP_MIDSTAT.PEND : Fld := { addr := 0xe0014, lo := 0, width := 3, acc := .ro, dflt := 0 }
/-- Chapter 17, HKP_TEMP offset 0x030, bits 31:16. -/
abbrev HKP_TEMP.TMAX : Fld := { addr := 0xe0030, lo := 16, width := 16, acc := .ro, dflt := 0 }
/-- Chapter 17, HKP_TEMP offset 0x030, bits 15:0. -/
abbrev HKP_TEMP.TJ : Fld := { addr := 0xe0030, lo := 0, width := 16, acc := .ro, dflt := 0 }
/-- Chapter 17, HKP_VIN offset 0x034, bits 31:16. -/
abbrev HKP_VIN.VIN : Fld := { addr := 0xe0034, lo := 16, width := 16, acc := .ro, dflt := 0 }
/-- Chapter 17, HKP_VIN offset 0x034, bits 15:0. -/
abbrev HKP_VIN.VCORE : Fld := { addr := 0xe0034, lo := 0, width := 16, acc := .ro, dflt := 0 }
/-- Chapter 17, HKP_VIO offset 0x038, bits 31:16. -/
abbrev HKP_VIO.VIO2 : Fld := { addr := 0xe0038, lo := 16, width := 16, acc := .ro, dflt := 0 }
/-- Chapter 17, HKP_VIO offset 0x038, bits 15:0. -/
abbrev HKP_VIO.VIO1 : Fld := { addr := 0xe0038, lo := 0, width := 16, acc := .ro, dflt := 0 }
/-- Chapter 17, HKP_SPEED offset 0x03C, bits 31:16. -/
abbrev HKP_SPEED.SMAX : Fld := { addr := 0xe003c, lo := 16, width := 16, acc := .ro, dflt := 0 }
/-- Chapter 17, HKP_SPEED offset 0x03C, bits 15:0. -/
abbrev HKP_SPEED.S : Fld := { addr := 0xe003c, lo := 0, width := 16, acc := .ro, dflt := 256 }
/-- Chapter 17, HKP_TLIM offset 0x040, bits 31:16. -/
abbrev HKP_TLIM.THI : Fld := { addr := 0xe0040, lo := 16, width := 16, acc := .rw, dflt := 960 }
/-- Chapter 17, HKP_TLIM offset 0x040, bits 15:0. -/
abbrev HKP_TLIM.SHI : Fld := { addr := 0xe0040, lo := 0, width := 16, acc := .rw, dflt := 397 }
/-- Chapter 17, HKP_SCRUB offset 0x044, bit 31. -/
abbrev HKP_SCRUB.SEN : Fld := { addr := 0xe0044, lo := 31, width := 1, acc := .rw, dflt := 1 }
/-- Chapter 17, HKP_SCRUB offset 0x044, bits 15:0. -/
abbrev HKP_SCRUB.PERIOD : Fld := { addr := 0xe0044, lo := 0, width := 16, acc := .rw, dflt := 60 }
/-- Chapter 17, HKP_SCRADDR offset 0x048, bits 31:24. -/
abbrev HKP_SCRADDR.REGION : Fld := { addr := 0xe0048, lo := 24, width := 8, acc := .ro, dflt := 0 }
/-- Chapter 17, HKP_SCRADDR offset 0x048, bits 22:0. -/
abbrev HKP_SCRADDR.ADDR : Fld := { addr := 0xe0048, lo := 0, width := 23, acc := .ro, dflt := 0 }
/-- Chapter 17, HKP_LCALST offset 0x04C, bits 31:16. -/
abbrev HKP_LCALST.TCAL : Fld := { addr := 0xe004c, lo := 16, width := 16, acc := .ro, dflt := 0 }
/-- Chapter 17, HKP_LCALST offset 0x04C, bits 7:4. -/
abbrev HKP_LCALST.SUSP : Fld := { addr := 0xe004c, lo := 4, width := 4, acc := .ro, dflt := 0 }
/-- Chapter 17, HKP_LCALST offset 0x04C, bits 3:0. -/
abbrev HKP_LCALST.CALD : Fld := { addr := 0xe004c, lo := 0, width := 4, acc := .ro, dflt := 0 }
/-- Chapter 16, GLB_UIDHI offset 0x000, bits 31:0. -/
abbrev GLB_UIDHI.UID : Fld := { addr := 0x0, lo := 0, width := 32, acc := .ro, dflt := Config.chipUid.toNat / 4294967296 }
/-- Chapter 16, GLB_UIDLO offset 0x004, bits 31:0. -/
abbrev GLB_UIDLO.UID : Fld := { addr := 0x4, lo := 0, width := 32, acc := .ro, dflt := Config.chipUid.toNat % 4294967296 }
/-- Chapter 16, GLB_REV offset 0x008, bits 31:16. -/
abbrev GLB_REV.FAMILY : Fld := { addr := 0x8, lo := 16, width := 16, acc := .ro, dflt := 38400 }
/-- Chapter 16, GLB_REV offset 0x008, bits 15:0. -/
abbrev GLB_REV.REV : Fld := { addr := 0x8, lo := 0, width := 16, acc := .ro, dflt := Config.siliconRev.toNat }
/-- Chapter 16, GLB_STAT offset 0x00C, bit 1. -/
abbrev GLB_STAT.CPERR : Fld := { addr := 0xc, lo := 1, width := 1, acc := .w1c, dflt := 0 }
/-- Chapter 16, GLB_STAT offset 0x00C, bit 0. -/
abbrev GLB_STAT.NFAULT : Fld := { addr := 0xc, lo := 0, width := 1, acc := .ro, dflt := 0 }
/-- Chapter 16, GLB_ISUM offset 0x010, bits 14:0. -/
abbrev GLB_ISUM.BLK : Fld := { addr := 0x10, lo := 0, width := 15, acc := .ro, dflt := 0 }
/-- Chapter 16, GLB_BRST offset 0x014, bits 14:1. -/
abbrev GLB_BRST.BLK : Fld := { addr := 0x14, lo := 1, width := 14, acc := .wcp, dflt := 0 }
/-- Chapter 16, GLB_RWVCNT offset 0x018, bits 31:0. -/
abbrev GLB_RWVCNT.COUNT : Fld := { addr := 0x18, lo := 0, width := 32, acc := .ro, dflt := 0 }
/-- Chapter 16, GLB_FAULT offset 0x01C, bit 2. -/
abbrev GLB_FAULT.RWV : Fld := { addr := 0x1c, lo := 2, width := 1, acc := .w1c, dflt := 0 }
/-- Chapter 16, GLB_FAULT offset 0x01C, bit 1. -/
abbrev GLB_FAULT.RECFAIL : Fld := { addr := 0x1c, lo := 1, width := 1, acc := .w1c, dflt := 0 }
/-- Chapter 16, GLB_FAULT offset 0x01C, bit 0. -/
abbrev GLB_FAULT.SUMERR : Fld := { addr := 0x1c, lo := 0, width := 1, acc := .w1c, dflt := 0 }
/-- Chapter 16, GLB_IRQ offset 0x020, bit 0. -/
abbrev GLB_IRQ.FAULT : Fld := { addr := 0x20, lo := 0, width := 1, acc := .w1c, dflt := 0 }
/-- Chapter 16, GLB_IEN offset 0x024, bit 0. -/
abbrev GLB_IEN.FAULT : Fld := { addr := 0x24, lo := 0, width := 1, acc := .rw, dflt := 0 }
/-- Chapter 16, CMD_CTRL offset 0x000, bit 1. -/
abbrev CMD_CTRL.RST : Fld := { addr := 0xd0000, lo := 1, width := 1, acc := .wo, dflt := 0 }
/-- Chapter 16, CMD_CTRL offset 0x000, bit 0. -/
abbrev CMD_CTRL.EN : Fld := { addr := 0xd0000, lo := 0, width := 1, acc := .rw, dflt := 0 }
/-- Chapter 16, CMD_STAT offset 0x004, bit 16. -/
abbrev CMD_STAT.LOCKWAIT : Fld := { addr := 0xd0004, lo := 16, width := 1, acc := .ro, dflt := 0 }
/-- Chapter 16, CMD_STAT offset 0x004, bits 15:8. -/
abbrev CMD_STAT.OPEN : Fld := { addr := 0xd0004, lo := 8, width := 8, acc := .ro, dflt := 0 }
/-- Chapter 16, CMD_STAT offset 0x004, bit 1. -/
abbrev CMD_STAT.CPERR : Fld := { addr := 0xd0004, lo := 1, width := 1, acc := .w1c, dflt := 0 }
/-- Chapter 16, CMD_STAT offset 0x004, bit 0. -/
abbrev CMD_STAT.WIGN : Fld := { addr := 0xd0004, lo := 0, width := 1, acc := .w1c, dflt := 0 }
/-- Chapter 16, CMD_CFG offset 0x008, bits 25:16. -/
abbrev CMD_CFG.RTO : Fld := { addr := 0xd0008, lo := 16, width := 10, acc := .rw, dflt := 50 }
/-- Chapter 16, CMD_CFG offset 0x008, bits 7:0. -/
abbrev CMD_CFG.FRESH : Fld := { addr := 0xd0008, lo := 0, width := 8, acc := .rw, dflt := 16 }
/-- Chapter 16, CMD_AUTH offset 0x00C, bits 20:16. -/
abbrev CMD_AUTH.RPERM : Fld := { addr := 0xd000c, lo := 16, width := 5, acc := .rwv, dflt := 17 }
/-- Chapter 16, CMD_AUTH offset 0x00C, bit 8. -/
abbrev CMD_AUTH.OPEN : Fld := { addr := 0xd000c, lo := 8, width := 1, acc := .rwv, dflt := 1 }
/-- Chapter 16, CMD_AUTH offset 0x00C, bits 7:4. -/
abbrev CMD_AUTH.RXMASK : Fld := { addr := 0xd000c, lo := 4, width := 4, acc := .rwv, dflt := 15 }
/-- Chapter 16, CMD_AUTH offset 0x00C, bits 1:0. -/
abbrev CMD_AUTH.TXSLOT : Fld := { addr := 0xd000c, lo := 0, width := 2, acc := .rwv, dflt := 0 }
/-- Chapter 16, CMD_KEYARM offset 0x010, bits 15:8. -/
abbrev CMD_KEYARM.CODE : Fld := { addr := 0xd0010, lo := 8, width := 8, acc := .wcp, dflt := 0 }
/-- Chapter 16, CMD_KEYARM offset 0x010, bits 1:0. -/
abbrev CMD_KEYARM.SLOT : Fld := { addr := 0xd0010, lo := 0, width := 2, acc := .wcp, dflt := 0 }
/-- Chapter 16, CMD_KEYSTAT offset 0x014, bit 31. -/
abbrev CMD_KEYSTAT.SET : Fld := { addr := 0xd0014, lo := 31, width := 1, acc := .ro, dflt := 0, s2 := 4, n2 := 4 }
/-- Chapter 16, CMD_KEYSTAT offset 0x014, bits 23:0. -/
abbrev CMD_KEYSTAT.KCV : Fld := { addr := 0xd0014, lo := 0, width := 24, acc := .ro, dflt := 0, s2 := 4, n2 := 4 }
/-- Chapter 16, CMD_SQBASELO offset 0x040, bits 31:6. -/
abbrev CMD_SQBASELO.BASELO : Fld := { addr := 0xd0040, lo := 6, width := 26, acc := .rwg, dflt := 0 }
/-- Chapter 16, CMD_SQBASEHI offset 0x044, bits 31:0. -/
abbrev CMD_SQBASEHI.BASEHI : Fld := { addr := 0xd0044, lo := 0, width := 32, acc := .rwg, dflt := 0 }
/-- Chapter 16, CMD_CQBASELO offset 0x048, bits 31:6. -/
abbrev CMD_CQBASELO.BASELO : Fld := { addr := 0xd0048, lo := 6, width := 26, acc := .rwg, dflt := 0 }
/-- Chapter 16, CMD_CQBASEHI offset 0x04C, bits 31:0. -/
abbrev CMD_CQBASEHI.BASEHI : Fld := { addr := 0xd004c, lo := 0, width := 32, acc := .rwg, dflt := 0 }
/-- Chapter 16, CMD_RING offset 0x050, bits 2:0. -/
abbrev CMD_RING.SIZE : Fld := { addr := 0xd0050, lo := 0, width := 3, acc := .rwg, dflt := 0 }
/-- Chapter 16, CMD_SQHEAD offset 0x054, bits 11:0. -/
abbrev CMD_SQHEAD.HEAD : Fld := { addr := 0xd0054, lo := 0, width := 12, acc := .ro, dflt := 0 }
/-- Chapter 16, CMD_SQTAIL offset 0x058, bits 11:0. -/
abbrev CMD_SQTAIL.TAIL : Fld := { addr := 0xd0058, lo := 0, width := 12, acc := .rw, dflt := 0 }
/-- Chapter 16, CMD_CQHEAD offset 0x05C, bits 11:0. -/
abbrev CMD_CQHEAD.HEAD : Fld := { addr := 0xd005c, lo := 0, width := 12, acc := .rw, dflt := 0 }
/-- Chapter 16, CMD_CQTAIL offset 0x060, bits 11:0. -/
abbrev CMD_CQTAIL.TAIL : Fld := { addr := 0xd0060, lo := 0, width := 12, acc := .ro, dflt := 0 }
/-- Chapter 16, CMD_IMOD offset 0x064, bits 31:16. -/
abbrev CMD_IMOD.ITIME : Fld := { addr := 0xd0064, lo := 16, width := 16, acc := .rw, dflt := 0 }
/-- Chapter 16, CMD_IMOD offset 0x064, bits 15:0. -/
abbrev CMD_IMOD.ICPL : Fld := { addr := 0xd0064, lo := 0, width := 16, acc := .rw, dflt := 1 }
/-- Chapter 16, CMD_IRQ offset 0x070, bit 0. -/
abbrev CMD_IRQ.CPL : Fld := { addr := 0xd0070, lo := 0, width := 1, acc := .w1c, dflt := 0 }
/-- Chapter 16, CMD_IRQ offset 0x070, bit 1. -/
abbrev CMD_IRQ.RREJ : Fld := { addr := 0xd0070, lo := 1, width := 1, acc := .w1c, dflt := 0 }
/-- Chapter 16, CMD_IRQ offset 0x070, bit 2. -/
abbrev CMD_IRQ.KEY : Fld := { addr := 0xd0070, lo := 2, width := 1, acc := .w1c, dflt := 0 }
/-- Chapter 16, CMD_IRQ offset 0x070, bit 3. -/
abbrev CMD_IRQ.FORMAT : Fld := { addr := 0xd0070, lo := 3, width := 1, acc := .w1c, dflt := 0 }
/-- Chapter 16, CMD_IRQ offset 0x070, bit 4. -/
abbrev CMD_IRQ.RTO : Fld := { addr := 0xd0070, lo := 4, width := 1, acc := .w1c, dflt := 0 }
/-- Chapter 16, CMD_IEN offset 0x074, bit 0. -/
abbrev CMD_IEN.CPL : Fld := { addr := 0xd0074, lo := 0, width := 1, acc := .rw, dflt := 0 }
/-- Chapter 16, CMD_IEN offset 0x074, bit 1. -/
abbrev CMD_IEN.RREJ : Fld := { addr := 0xd0074, lo := 1, width := 1, acc := .rw, dflt := 0 }
/-- Chapter 16, CMD_IEN offset 0x074, bit 2. -/
abbrev CMD_IEN.KEY : Fld := { addr := 0xd0074, lo := 2, width := 1, acc := .rw, dflt := 0 }
/-- Chapter 16, CMD_IEN offset 0x074, bit 3. -/
abbrev CMD_IEN.FORMAT : Fld := { addr := 0xd0074, lo := 3, width := 1, acc := .rw, dflt := 0 }
/-- Chapter 16, CMD_IEN offset 0x074, bit 4. -/
abbrev CMD_IEN.RTO : Fld := { addr := 0xd0074, lo := 4, width := 1, acc := .rw, dflt := 0 }
/-- Chapter 02, LANE_CNTCLR offset 0x07C, bit 0. -/
abbrev LANE_CNTCLR.CLR : Fld := { addr := 0x1007c, lo := 0, width := 1, acc := .wo, dflt := 0, s1 := 0x400, n1 := 4 }
/-- Chapter 03, INAU_CNTCLR offset 0x07C, bit 0. -/
abbrev INAU_CNTCLR.CLR : Fld := { addr := 0x2007c, lo := 0, width := 1, acc := .wo, dflt := 0 }
/-- Chapter 05, SCHD_CNTCLR offset 0x0DC, bit 0. -/
abbrev SCHD_CNTCLR.CLR : Fld := { addr := 0x300dc, lo := 0, width := 1, acc := .wo, dflt := 0 }
/-- Chapter 06, SYNC_CNTCLR offset 0x0FC, bit 0. -/
abbrev SYNC_CNTCLR.CLR : Fld := { addr := 0x400fc, lo := 0, width := 1, acc := .wo, dflt := 0 }
/-- Chapter 07, TIME_CNTCLR offset 0x1BC, bit 0. -/
abbrev TIME_CNTCLR.CLR : Fld := { addr := 0x501bc, lo := 0, width := 1, acc := .wo, dflt := 0 }
/-- Chapter 08, FWD_CNTCLR offset 0x27C, bit 0. -/
abbrev FWD_CNTCLR.CLR : Fld := { addr := 0x6027c, lo := 0, width := 1, acc := .wo, dflt := 0 }
/-- Chapter 09, CONS_CNTCLR offset 0x3FC, bit 0. -/
abbrev CONS_CNTCLR.CLR : Fld := { addr := 0x703fc, lo := 0, width := 1, acc := .wo, dflt := 0, s1 := 0x4000, n1 := 4 }
/-- Chapter 10, CYCL_CNTCLR offset 0x13C, bit 0. -/
abbrev CYCL_CNTCLR.CLR : Fld := { addr := 0x8013c, lo := 0, width := 1, acc := .wo, dflt := 0 }
/-- Chapter 12, TWIN_CNTCLR offset 0x07C, bit 0. -/
abbrev TWIN_CNTCLR.CLR : Fld := { addr := 0x9007c, lo := 0, width := 1, acc := .wo, dflt := 0 }
/-- Chapter 13, REST_CNTCLR offset 0x07C, bit 0. -/
abbrev REST_CNTCLR.CLR : Fld := { addr := 0xa007c, lo := 0, width := 1, acc := .wo, dflt := 0 }
/-- Chapter 14, RECD_CNTCLR offset 0x0BC, bit 0. -/
abbrev RECD_CNTCLR.CLR : Fld := { addr := 0xb00bc, lo := 0, width := 1, acc := .wo, dflt := 0 }
/-- Chapter 15, BRDG_CNTCLR offset 0x17C, bit 0. -/
abbrev BRDG_CNTCLR.CLR : Fld := { addr := 0xc017c, lo := 0, width := 1, acc := .wo, dflt := 0 }
/-- Chapter 16, CMD_CNTCLR offset 0x0FC, bit 0. -/
abbrev CMD_CNTCLR.CLR : Fld := { addr := 0xd00fc, lo := 0, width := 1, acc := .wo, dflt := 0 }
/-- Chapter 17, HKP_CNTCLR offset 0x0FC, bit 0. -/
abbrev HKP_CNTCLR.CLR : Fld := { addr := 0xe00fc, lo := 0, width := 1, acc := .wo, dflt := 0 }

/-- The LANE fields. -/
def tableLANE : List Fld :=
  [LANE_CTRL.WAKEEN, LANE_CTRL.SPREAD, LANE_CTRL.RETRAIN, LANE_CTRL.EN, LANE_STAT.WIGN,
   LANE_STAT.PEER_END, LANE_STAT.PEER_LINE, LANE_STAT.PREOPEN, LANE_STAT.RX_EMPTY, LANE_STAT.EQDONE,
   LANE_STAT.LOCK, LANE_STAT.SIGDET, LANE_STAT.STATE, LANE_TXCFG.TXPOL, LANE_TXCFG.SLEW,
   LANE_TXCFG.DEEMPH, LANE_TXCFG.SWING, LANE_RXCFG.RXPOL, LANE_RXCFG.DFE_EN, LANE_RXCFG.CTLE_AUTO,
   LANE_RXCFG.CTLE, LANE_EQRES.CTLE_ACT, LANE_EQRES.DFE1, LANE_EQRES.DFE2, LANE_EQRES.DFE3,
   LANE_CREDIT.TXD, LANE_CREDIT.TXF, LANE_CREDIT.RXOCC, LANE_CREDIT.RXA, LANE_IRQ.WAKE,
   LANE_IRQ.PROTO, LANE_IRQ.CRSYNC, LANE_IRQ.TRTO, LANE_IRQ.DOWN, LANE_IRQ.UP,
   LANE_IEN.WAKE, LANE_IEN.PROTO, LANE_IEN.CRSYNC, LANE_IEN.TRTO, LANE_IEN.DOWN,
   LANE_IEN.UP, LANE_RXGOOD.COUNT, LANE_RUNT.COUNT, LANE_GIANT.COUNT, LANE_HCRC.COUNT,
   LANE_HDRERR.COUNT, LANE_LENERR.COUNT, LANE_CRC.COUNT, LANE_EBIN.COUNT, LANE_CODEERR.COUNT,
   LANE_CRBAD.COUNT, LANE_CRSYNC.COUNT, LANE_PROTO.COUNT, LANE_RETRAIN.COUNT, LANE_TRTO.COUNT,
   LANE_ABORT.COUNT, LANE_LINEMM.COUNT, LANE_WAKE.COUNT, LANE_CNTCLR.CLR]
/-- The INAU fields. -/
def tableINAU0 : List Fld :=
  [INAU_CTRL.LEADMASK, INAU_CTRL.LEADEND, INAU_CTRL.LHCAND, INAU_CTRL.SYNCCAP, INAU_CTRL.STICKY,
   INAU_CTRL.REINAU, INAU_CTRL.EN, INAU_STAT.DAYCORR, INAU_STAT.LEADIN, INAU_STAT.EXCL,
   INAU_STAT.NOTADM, INAU_STAT.NOAGREE, INAU_STAT.LEADCONF, INAU_STAT.MODEMM, INAU_STAT.MODE,
   INAU_STAT.ORIENT, INAU_STAT.LOOP, INAU_STAT.INFORCE, INAU_STAT.STATE, INAU_POS.NPOS,
   INAU_POS.POS, INAU_ROLE.LEADER, INAU_ROLE.TIMEREF, INAU_LOOP.LOOPHEAD, INAU_LOOP.NEXCL,
   INAU_GEN.GEN, INAU_GEN.RND, INAU_SUM.SUM, INAU_NOON.NOON, INAU_ITEM.VEHNUM,
   INAU_ITEM.BUDGET, INAU_TMR.STARTUP, INAU_TMR.WAVETO, INAU_TMR.SETTLE, INAU_IRQ.NOTADM,
   INAU_IRQ.LEAD, INAU_IRQ.MODEMM, INAU_IRQ.NOAGREE, INAU_IRQ.DISAG, INAU_IRQ.COMMIT,
   INAU_IRQ.PENDING, INAU_IRQ.ROUND, INAU_IEN.NOTADM, INAU_IEN.LEAD, INAU_IEN.MODEMM,
   INAU_IEN.NOAGREE, INAU_IEN.DISAG, INAU_IEN.COMMIT, INAU_IEN.PENDING, INAU_IEN.ROUND,
   INAU_ROUNDS.COUNT, INAU_STARTED.COUNT, INAU_STALE.COUNT, INAU_DISAG.COUNT, INAU_WAVETO.COUNT,
   INAU_PROBETO.COUNT, INAU_COMMITS.COUNT, INAU_MBSEL.SRC, INAU_MBSEL.INDEX, INAU_MBSTAT.VALID]
/-- The INAU fields. -/
def tableINAU1 : List Fld :=
  [INAU_MBD0.DATA, INAU_MBD1.DATA, INAU_MBD2.DATA, INAU_MBD3.DATA, INAU_CNTCLR.CLR]
/-- The SCHD fields. -/
def tableSCHD0 : List Fld :=
  [SCHD_CTRL.EN, SCHD_STAT.WIGN, SCHD_STAT.HOPLONG, SCHD_STAT.PUBOVER, SCHD_STAT.NOFIT,
   SCHD_STAT.MARGIN, SCHD_STAT.OOP, SCHD_STAT.SILENT, SCHD_STAT.INFORCE, SCHD_STAT.PENDMODE,
   SCHD_STAT.PENDV, SCHD_STAT.MODE, SCHD_CFG.CYCLE, SCHD_CFG.GUARD, SCHD_SELF.SEQ,
   SCHD_SELF.BEFF, SCHD_SPAN.SPAN, SCHD_FIT.TMIN, SCHD_FIT.NWIN, SCHD_FIT.NCUT,
   SCHD_MODEREQ.GO, SCHD_MODEREQ.MRSTAT, SCHD_MODEREQ.MODE, SCHD_IRQ.GATE, SCHD_IRQ.HOPLONG,
   SCHD_IRQ.SUBSTALE, SCHD_IRQ.PUBSKIP, SCHD_IRQ.NOFIT, SCHD_IRQ.MODEREF, SCHD_IRQ.MODESW,
   SCHD_IRQ.SILENT, SCHD_IRQ.POLICE, SCHD_IEN.GATE, SCHD_IEN.HOPLONG, SCHD_IEN.SUBSTALE,
   SCHD_IEN.PUBSKIP, SCHD_IEN.NOFIT, SCHD_IEN.MODEREF, SCHD_IEN.MODESW, SCHD_IEN.SILENT,
   SCHD_IEN.POLICE, SCHD_LASTPOL.LATE, SCHD_LASTPOL.LATER, SCHD_LASTPOL.LANE, SCHD_LASTPOL.SRC,
   SCHD_POLEARLY.COUNT, SCHD_POLLATE.COUNT, SCHD_NOWIN.COUNT, SCHD_NOCORR.COUNT, SCHD_STALE.COUNT,
   SCHD_SILENT.COUNT, SCHD_GATE.COUNT, SCHD_PUBSKIP.COUNT, SCHD_SUBLEN.COUNT, SCHD_SUBSTALE.COUNT,
   SCHD_TSEL.TAB, SCHD_TSEL.WR, SCHD_TSEL.INDEX, SCHD_TSTAT.BUSY, SCHD_TSTAT.VALID]
/-- The SCHD fields. -/
def tableSCHD1 : List Fld :=
  [SCHD_TD0.DATA, SCHD_TD1.DATA, SCHD_TD2.DATA, SCHD_TD3.DATA, SCHD_WINR.OPEN,
   SCHD_WINF.OPEN, SCHD_WLEN.LEN, SCHD_MODEDESC.WRULE, SCHD_MODEDESC.BSHIFT, SCHD_MODEDESC.TAG,
   SCHD_CNTCLR.CLR]
/-- The SYNC fields. -/
def tableSYNC : List Fld :=
  [SYNC_CTRL.WCLR, SYNC_CTRL.RATEHOLD, SYNC_CTRL.EN, SYNC_STAT.NKEPT, SYNC_STAT.NVAL,
   SYNC_STAT.WIGN, SYNC_STAT.PDMISM, SYNC_STAT.RCLAMP, SYNC_STAT.MEMBER, SYNC_STAT.OOP,
   SYNC_STAT.STATE, SYNC_CFG.HOLDMAX, SYNC_CFG.RINTV, SYNC_CFG.PI, SYNC_WORST.PEAK,
   SYNC_WORST.LAST, SYNC_SETINFO.HOLDCNT, SYNC_SETINFO.SELFIDX, SYNC_SETINFO.NSET, SYNC_IRQ.PDMISM,
   SYNC_IRQ.PDREST, SYNC_IRQ.RCLAMP, SYNC_IRQ.HOLD, SYNC_IRQ.DEGR, SYNC_IRQ.OOP,
   SYNC_IEN.PDMISM, SYNC_IEN.PDREST, SYNC_IEN.RCLAMP, SYNC_IEN.HOLD, SYNC_IEN.DEGR,
   SYNC_IEN.OOP, SYNC_ROUNDS.COUNT, SYNC_MISS.COUNT, SYNC_DISC.COUNT, SYNC_PDREJ.COUNT,
   SYNC_CLAMP.COUNT, SYNC_OOPCYC.COUNT, SYNC_HOLDCYC.COUNT, SYNC_DEV.VALUE, SYNC_RESID.VALUE,
   SYNC_RATE.VALUE, SYNC_MEM.RESULT, SYNC_MEM.DEV, SYNC_MEM.POS, SYNC_PD.MEAS,
   SYNC_PD.PD, SYNC_PDASYM.ASYM, SYNC_CNTCLR.CLR]
/-- The TIME fields. -/
def tableTIME0 : List Fld :=
  [TIME_CTRL.EPBACK, TIME_CTRL.EPOCHEN, TIME_CTRL.ACCEPT, TIME_CTRL.EN, TIME_STAT.TAI,
   TIME_STAT.WIGN, TIME_STAT.TREF, TIME_STAT.MAP, TIME_STAT.TODMISS, TIME_STAT.REFUSED,
   TIME_STAT.CATCHUP, TIME_STAT.EPUSED, TIME_STAT.REFST, TIME_CFG.JUMP, TIME_CFG2.CATCH,
   TIME_CFG2.TAU, TIME_REF.DOMAIN, TIME_REF.PPSTAI, TIME_REF.PORT, TIME_REF.PPSIN,
   TIME_REF.SRC, TIME_UTCOFF.UTCOFF, TIME_IRQ.NOTREJ, TIME_IRQ.CAPOVF, TIME_IRQ.LATE,
   TIME_IRQ.REF, TIME_IRQ.CATCH, TIME_IRQ.REFUSED, TIME_IRQ.EPOCH, TIME_IEN.NOTREJ,
   TIME_IEN.CAPOVF, TIME_IEN.LATE, TIME_IEN.REF, TIME_IEN.CATCH, TIME_IEN.REFUSED,
   TIME_IEN.EPOCH, TIME_REFUSED.COUNT, TIME_LATE.COUNT, TIME_CAPOVF.COUNT, TIME_NOTREJ.COUNT,
   TIME_NOTLATE.COUNT, TIME_REFLOSS.COUNT, TIME_MBSEL.SRC, TIME_MBSEL.INDEX, TIME_MBSTAT.VALID,
   TIME_MBD0.DATA, TIME_MBD1.DATA, TIME_MBD2.DATA, TIME_MBD3.DATA, TIME_TODHI.TOD,
   TIME_TODLO.TOD, TIME_SIGMA.VALUE, TIME_EOFF.VALUE, TIME_KAPPA.VALUE, TPO_CTRL.LATE,
   TPO_CTRL.POL, TPO_CTRL.PER, TPO_CTRL.ARM, TPO_TGTHI.TGTHI, TPO_TGTLO.TGTLO]
/-- The TIME fields. -/
def tableTIME1 : List Fld :=
  [TPO_PERIOD.PERIOD, TPO_WIDTH.WIDTH, TCI_CTRL.FILL, TCI_CTRL.OVF, TCI_CTRL.EDGE,
   TIME_PCOR_S0.RX, TIME_PCOR_S0.TX, TIME_PCOR_S1.RX, TIME_PCOR_S1.TX, TIME_PCOR_S2.RX,
   TIME_PCOR_S2.TX, TIME_PTP.LOGSYNC, TIME_PTP.LOGANN, TIME_PTP.PROFILE, TIME_PTP.TRANS,
   TIME_PTP.STEP, TIME_PTP.DELAYM, TIME_PTP.PEN, TIME_PTPDS.PRIO1, TIME_PTPDS.PRIO2,
   TIME_CNTCLR.CLR]
/-- The FWD fields. -/
def tableFWD0 : List Fld :=
  [FWD_CTRL.EN, FWD_STAT.WIGN, FWD_STAT.SUMERR, FWD_STAT.BULKFL, FWD_STAT.BREAK,
   FWD_QCFG.MGMTRUN, FWD_QCFG.QAGE, FWD_QLIM.MGMTLIM, FWD_QLIM.BULKLIM, FWD_LINESEL.BULK,
   FWD_LINESEL.MGMT, FWD_VCFG.PAGE, FWD_IRQ.SUMERR, FWD_IRQ.VNONE, FWD_IRQ.VPATH,
   FWD_IRQ.AGED, FWD_IRQ.QDROP, FWD_IRQ.NOBUF, FWD_IEN.SUMERR, FWD_IEN.VNONE,
   FWD_IEN.VPATH, FWD_IEN.AGED, FWD_IEN.QDROP, FWD_IEN.NOBUF, FWD_VPSUM.NONE,
   FWD_VPSUM.ONE, FWD_FWDTT.COUNT, FWD_FWDVIT.COUNT, FWD_FWDMG.COUNT, FWD_FWDBK.COUNT,
   FWD_ISOL.COUNT, FWD_NOROST.COUNT, FWD_BREAK.COUNT, FWD_GENERR.COUNT, FWD_NOSRC.COUNT,
   FWD_UNDELIV.COUNT, FWD_NOBUFX.COUNT, FWD_NOBUFM.COUNT, FWD_NOBUFB.COUNT, FWD_QDROP.COUNT,
   FWD_AGED.COUNT, FWD_BADDROP.COUNT, FWD_SINKFULL.COUNT, FWD_XOVER.COUNT, FWD_NOPATH.COUNT,
   FWD_VDUP.COUNT, FWD_VOLD.COUNT, FWD_ETHLONG.COUNT, FWD_POOLCFG.EXRES, FWD_POOLCFG.MINRES,
   FWD_POOLCFG2.BULKFLOOR, FWD_POOLA.HI, FWD_POOLA.LO, FWD_POOLB.HI, FWD_POOLB.LO,
   FWD_POOLC.HI, FWD_POOLC.LO, FWD_VPATH.STATUS, FWD_VPATH.A0, FWD_VPATH.A1]
/-- The FWD fields. -/
def tableFWD1 : List Fld :=
  [FWD_VPATH.B0, FWD_VPATH.B1, FWD_VPATH.SRC, FWD_CNTCLR.CLR]
/-- The CONS fields. -/
def tableCONS0 : List Fld :=
  [CONS_CTRL.BBHOST, CONS_CTRL.IOEN, CONS_CTRL.EN, CONS_STAT.WIGN, CONS_STAT.PWD,
   CONS_STAT.PAUSED, CONS_STAT.PVFAIL, CONS_STAT.PACT, CONS_STAT.HDX, CONS_STAT.SPEED,
   CONS_STAT.SYNC, CONS_STAT.LINK, CONS_PCPMAP.MAP, CONS_TXCFG.EXPQ, CONS_TXCFG.PREEN,
   CONS_TXCFG.VERIFY, CONS_TXCFG.ADDFRAG, CONS_TXCFG.IOQ, CONS_MDIO.GO, CONS_MDIO.BUSY,
   CONS_MDIO.RDERR, CONS_MDIO.OP, CONS_MDIO.MDCDIV, CONS_MDIO.PHYAD, CONS_MDIO.REGAD,
   CONS_MDIO.DATA, CONS_IRQ.TXQ0, CONS_IRQ.TXQ1, CONS_IRQ.TXQ2, CONS_IRQ.TXQ3,
   CONS_IRQ.TXQ4, CONS_IRQ.TXQ5, CONS_IRQ.TXQ6, CONS_IRQ.TXQ7, CONS_IRQ.RXQ0,
   CONS_IRQ.RXQ1, CONS_IRQ.RXQ2, CONS_IRQ.RXQ3, CONS_IRQ.RXQ4, CONS_IRQ.RXQ5,
   CONS_IRQ.RXQ6, CONS_IRQ.RXQ7, CONS_IRQ.PWD, CONS_IRQ.PVFAIL, CONS_IRQ.DROP,
   CONS_IRQ.MDIO, CONS_IRQ.LINK, CONS_IEN.TXQ0, CONS_IEN.TXQ1, CONS_IEN.TXQ2,
   CONS_IEN.TXQ3, CONS_IEN.TXQ4, CONS_IEN.TXQ5, CONS_IEN.TXQ6, CONS_IEN.TXQ7,
   CONS_IEN.RXQ0, CONS_IEN.RXQ1, CONS_IEN.RXQ2, CONS_IEN.RXQ3, CONS_IEN.RXQ4]
/-- The CONS fields. -/
def tableCONS1 : List Fld :=
  [CONS_IEN.RXQ5, CONS_IEN.RXQ6, CONS_IEN.RXQ7, CONS_IEN.PWD, CONS_IEN.PVFAIL,
   CONS_IEN.DROP, CONS_IEN.MDIO, CONS_IEN.LINK, CONS_RXGOOD.COUNT, CONS_RXRUNT.COUNT,
   CONS_RXGIANT.COUNT, CONS_RXFCS.COUNT, CONS_RXERR.COUNT, CONS_RXNOBUF.COUNT, CONS_RXDRY.COUNT,
   CONS_FILTDROP.COUNT, CONS_MACCTL.COUNT, CONS_PAUSERX.COUNT, CONS_PAUSETX.COUNT, CONS_PAUSEWD.COUNT,
   CONS_TXGOOD.COUNT, CONS_TXLEN.COUNT, CONS_TXFLUSH.COUNT, CONS_TXWAIT.COUNT, CONS_LAUNCHLATE.COUNT,
   CONS_SMDERR.COUNT, CONS_CFG.KEEPFCS, CONS_CFG.MAXLEN, CONS_PVID.PCP, CONS_PVID.PVID,
   CONS_IOETYPE.ETYPE, CONS_PAUSE.RXEN, CONS_PAUSE.TXEN, CONS_PAUSE.WDMS, CONS_PAUSE.XOFFQ,
   CONS_PAUSETH.XOFF, CONS_PAUSETH.XON, CONS_DEFA.W2, CONS_DEFB.W3, CONS_RXQ_BASELO.BASELO,
   CONS_RXQ_BASEHI.BASEHI, CONS_RXQ_CFG.EN, CONS_RXQ_CFG.SIZE, CONS_RXQ_CFG.BUFSZ, CONS_RXQ_HEAD.HEAD,
   CONS_RXQ_TAIL.TAIL, CONS_RXQ_IMOD.ITIME, CONS_RXQ_IMOD.IFRAMES, CONS_TXQ_BASELO.BASELO, CONS_TXQ_BASEHI.BASEHI,
   CONS_TXQ_CFG.EN, CONS_TXQ_CFG.SIZE, CONS_TXQ_HEAD.HEAD, CONS_TXQ_TAIL.TAIL, CONS_TXQ_IMOD.ITIME,
   CONS_TXQ_IMOD.IFRAMES, CONS_FILT_W0.W0, CONS_FILT_W1.W1, CONS_FILT_W2.W2, CONS_FILT_W3.W3]
/-- The CONS fields. -/
def tableCONS2 : List Fld :=
  [CONS_CNTCLR.CLR]
/-- The CYCL fields. -/
def tableCYCL0 : List Fld :=
  [CYCL_CTRL.CFGALL, CYCL_CTRL.EN, CYCL_STAT.TRUN, CYCL_STAT.OVR, CYCL_STAT.CAUSE,
   CYCL_STAT.WIGN, CYCL_STAT.KEYINV, CYCL_STAT.KEYA, CYCL_STAT.KEYB, CYCL_STAT.KEY,
   CYCL_STAT.ESTATE, CYCL_TIMING.COMMITOFF, CYCL_IRQ.KEYINV, CYCL_IRQ.CLAIMHI, CYCL_IRQ.STCFG,
   CYCL_IRQ.STLOST, CYCL_IRQ.FAULT, CYCL_IRQ.OVERRUN, CYCL_IRQ.REFUSED, CYCL_IRQ.MODE,
   CYCL_IEN.KEYINV, CYCL_IEN.CLAIMHI, CYCL_IEN.STCFG, CYCL_IEN.STLOST, CYCL_IEN.FAULT,
   CYCL_IEN.OVERRUN, CYCL_IEN.REFUSED, CYCL_IEN.MODE, CYCL_CYC.CYC, CYCL_OUTSENT.COUNT,
   CYCL_CFGSENT.COUNT, CYCL_INGOOD.COUNT, CYCL_INBAD.COUNT, CYCL_INSTRAY.COUNT, CYCL_INLATE.COUNT,
   CYCL_OVERRUN.COUNT, CYCL_KEYINV.COUNT, CYCL_STLOST.COUNT, CYCL_SSEL.TAB, CYCL_SSEL.WR,
   CYCL_SSEL.INDEX, CYCL_SSTAT.REFUSED, CYCL_SSTAT.BUSY, CYCL_SSTAT.VALID, CYCL_SD0.DATA,
   CYCL_SD1.DATA, CYCL_SD2.DATA, CYCL_SD3.DATA, CYCL_TASK.TEN, CYCL_TASK.PERIOD,
   CYCL_TIN.LEN, CYCL_TIN.START, CYCL_TOUT.LEN, CYCL_TOUT.START, CYCL_COST.VALUE,
   CYCL_DEM.VALUE, CYCL_WIN.VALUE, CYCL_EVAL.MAX, CYCL_EVAL.LAST, CYCL_IOCFG.TAGEN]
/-- The CYCL fields. -/
def tableCYCL1 : List Fld :=
  [CYCL_IOCFG.PCP, CYCL_HVIEW.OUTW, CYCL_HVIEW.INR, CYCL_CNTCLR.CLR]
/-- The PRG fields. -/
def tablePRG : List Fld :=
  [PRG_STAT.RES, PRG_STAT.OPRUN, PRG_STAT.SWPEND, PRG_STAT.ISTORED, PRG_STAT.IVALID,
   PRG_STAT.AVALID, PRG_STAT.STARTB, PRG_STAT.ACTB, PRG_STAT.BUSY, PRG_CMD.OP,
   PRG_CMD.FCLR, PRG_CMD.BANK, PRG_VSTAT.RESULT, PRG_VSTAT.IDXV, PRG_VSTAT.INDEX,
   PRG_SWCYC.CYC, PRG_IRQ.STARTALT, PRG_IRQ.FREF, PRG_IRQ.SWREF, PRG_IRQ.SWAP,
   PRG_IRQ.OPDONE, PRG_IEN.STARTALT, PRG_IEN.FREF, PRG_IEN.SWREF, PRG_IEN.SWAP,
   PRG_IEN.OPDONE, PRG_AID.VALUE, PRG_AREV.VALUE, PRG_IID.VALUE, PRG_IREV.VALUE,
   PRG_XFER.KEPT, PRG_XFER.INIT, PRG_XFER2.MISM, PRG_XFER2.ORPH]
/-- The TWIN fields. -/
def tableTWIN : List Fld :=
  [TWIN_CTRL.TAKE, TWIN_CTRL.YIELD, TWIN_CTRL.MIREN, TWIN_CTRL.EN, TWIN_CFG.TWEN,
   TWIN_CFG.HBPORT, TWIN_CFG.CBMISS, TWIN_CFG.HBMISS, TWIN_CFG.VACWIN, TWIN_HBETYPE.ETYPE,
   TWIN_STAT.WIGN, TWIN_STAT.NEEDFULL, TWIN_STAT.MIRCONS, TWIN_STAT.MIRSLOT, TWIN_STAT.RELPEND,
   TWIN_STAT.ROLEACT, TWIN_STAT.CBOK, TWIN_STAT.TLOK, TWIN_STAT.TWON, TWIN_STAT.HALF,
   TWIN_STAT.TSTATE, TWIN_IRQ.MIRBAD, TWIN_IRQ.VERDICT, TWIN_IRQ.ONEPATH, TWIN_IRQ.PBACK,
   TWIN_IRQ.PLOST, TWIN_IRQ.YIELD, TWIN_IRQ.TAKE, TWIN_IRQ.STATE, TWIN_IEN.MIRBAD,
   TWIN_IEN.VERDICT, TWIN_IEN.ONEPATH, TWIN_IEN.PBACK, TWIN_IEN.PLOST, TWIN_IEN.YIELD,
   TWIN_IEN.TAKE, TWIN_IEN.STATE, TWIN_TLHB.COUNT, TWIN_CBHB.COUNT, TWIN_TLERR.COUNT,
   TWIN_TAKES.COUNT, TWIN_YIELDS.COUNT, TWIN_RLYSENT.COUNT, TWIN_RLYSKIP.COUNT, TWIN_MIRSETS.COUNT,
   TWIN_MIRBAD.COUNT, TWIN_VERDTX.COUNT, TWIN_VERDRX.COUNT, TWIN_CLAIM.VALUE, TWIN_PCLAIM.VALUE,
   TWIN_HCLAIM.VALUE, TWIN_PUIDHI.UID, TWIN_PUIDLO.UID, TWIN_RANK.EPOCH, TWIN_RANK.RANK,
   TWIN_MIR.AGE, TWIN_MIR.DIRTY, TWIN_RELCYC.RELCYC, TWIN_CNTCLR.CLR]
/-- The REST fields. -/
def tableREST : List Fld :=
  [REST_CTRL.SAVE, REST_CTRL.HOLD, REST_CTRL.TWL, REST_CTRL.DUSK, REST_CTRL.EN,
   REST_STAT.RES, REST_STAT.WIGN, REST_STAT.BUSY, REST_STAT.CFGBAD, REST_STAT.CFGDIRTY,
   REST_STAT.HELD, REST_STAT.DSTATE, REST_STAT.PSTATE, REST_CFG.TDUSK, REST_CFG.TWMODE,
   REST_CFG.VSAVE, REST_CFG.VLEAD, REST_CFG.VPIN, REST_CFG.VENG, REST_CFG.VKEY,
   REST_CFG.TWKEEP, REST_WAKE.WPOL, REST_WAKE.WALARM, REST_WAKE.WLEAD, REST_WAKE.WKEY,
   REST_WAKE.WPIN, REST_WAKESRC.SRC, REST_WAKESRC.LANE, REST_WAKESRC.POS, REST_IRQ.SAVED,
   REST_IRQ.CFGBAD, REST_IRQ.DAWN, REST_IRQ.VETO, REST_IRQ.CANCEL, REST_IRQ.COMMIT,
   REST_IRQ.ROUND, REST_IEN.SAVED, REST_IEN.CFGBAD, REST_IEN.DAWN, REST_IEN.VETO,
   REST_IEN.CANCEL, REST_IEN.COMMIT, REST_IEN.ROUND, REST_ROUNDS.COUNT, REST_VETO.COUNT,
   REST_RETRACT.COUNT, REST_CANCEL.COUNT, REST_COMMITS.COUNT, REST_DAWNS.COUNT, REST_GUARD.COUNT,
   REST_ALARM.ALARM, REST_ROUND.VPOS, REST_ROUND.ROUND, REST_COMMIT.CCYC, REST_CNTCLR.CLR]
/-- The RECD fields. -/
def tableRECD0 : List Fld :=
  [RECD_CTRL.MIREN, RECD_CTRL.EN, RECD_STAT.MIRFAIL, RECD_STAT.CKBAD, RECD_STAT.HWRES,
   RECD_STAT.BUSY, RECD_STAT.CPERR, RECD_STAT.WIGN, RECD_STAT.FROZEN, RECD_STAT.STATE,
   RECD_FREEZE.SECS, RECD_IRQ.MIR, RECD_IRQ.FAILED, RECD_IRQ.RETIRE, RECD_IRQ.FREEZE,
   RECD_IRQ.LOST, RECD_IRQ.SUPPR, RECD_IRQ.HW, RECD_IEN.MIR, RECD_IEN.FAILED,
   RECD_IEN.RETIRE, RECD_IEN.FREEZE, RECD_IEN.LOST, RECD_IEN.SUPPR, RECD_IEN.HW,
   RECD_WRITTEN.COUNT, RECD_SUPPR.COUNT, RECD_LOST.COUNT, RECD_TORN.COUNT, RECD_ECCCOR.COUNT,
   RECD_ECCUNC.COUNT, RECD_RETIRE.COUNT, RECD_MIRERR.COUNT, RECD_HWREF.COUNT, RECD_RSEL.SEQ,
   RECD_RSTAT.LINE, RECD_RSTAT.RES, RECD_RSTAT.BUSY, RECD_RSTAT.VALID, RECD_RD0.DATA,
   RECD_RD1.DATA, RECD_RD2.DATA, RECD_RD3.DATA, RECD_RAREA.MORNING, RECD_NEXTSEQ.SEQ,
   RECD_OLDSEQ.SEQ, RECD_MORNSEQ.SEQ, RECD_OPSEC.VALUE, RECD_OPFRAC.FRAC, RECD_PCC.VALUE,
   RECD_STAGE.FILL, RECD_STAGE.PEAK, RECD_BLK.SPARE, RECD_BLK.RETIRED, RECD_BLK.RINGBLK,
   RECD_HWCTL.GO, RECD_HWCTL.CLASS, RECD_HWCTL.BLEN, RECD_HWCODE.CODE, RECD_CSEL.WR]
/-- The RECD fields. -/
def tableRECD1 : List Fld :=
  [RECD_CSEL.CLASS, RECD_CDATA.RATE, RECD_CDATA.DEPTH, RECD_CDATA.TOK, RECD_MIRBASE.ADDR,
   RECD_MIRSIZE.SIZE, RECD_MIRSTAT.GAP, RECD_MIRSTAT.LAG, RECD_HBODY.BODY, RECD_CNTCLR.CLR]
/-- The BRDG fields. -/
def tableBRDG0 : List Fld :=
  [BRDG_CTRL.FLUSHPF, BRDG_CTRL.ERRMODE, BRDG_CTRL.EN, BRDG_STAT.IDERR, BRDG_STAT.FOVF,
   BRDG_STAT.WIGN, BRDG_STAT.D3, BRDG_STAT.LINKUP, BRDG_STAT.MASTER, BRDG_STAT.STACKID,
   BRDG_WIN.PF3, BRDG_WIN.BO3, BRDG_WIN.PF2, BRDG_WIN.BO2, BRDG_WIN.PF1,
   BRDG_WIN.BO1, BRDG_WIN.PF0, BRDG_WIN.BO0, BRDG_CFG.EXPECT, BRDG_CFG.LOCKTO,
   BRDG_CFG.FTO, BRDG_LOCK.GO, BRDG_LOCK.REL, BRDG_LOCK.LOCKRES, BRDG_LOCK.STATE,
   BRDG_LOCK.MEMBER, BRDG_IRQ.STACK, BRDG_IRQ.LOCK, BRDG_IRQ.POISON, BRDG_IRQ.RDERR,
   BRDG_IRQ.FERR, BRDG_IRQ.LINK, BRDG_IEN.STACK, BRDG_IEN.LOCK, BRDG_IEN.POISON,
   BRDG_IEN.RDERR, BRDG_IEN.FERR, BRDG_IEN.LINK, BRDG_NPREQ.COUNT, BRDG_PWR.COUNT,
   BRDG_UR.COUNT, BRDG_CA.COUNT, BRDG_POISON.COUNT, BRDG_REFUSED.COUNT, BRDG_FERR.COUNT,
   BRDG_FTO.COUNT, BRDG_LOCKTO.COUNT, BRDG_SEMBUSY.COUNT, BRDG_STKCRC.COUNT, BRDG_STKRETR.COUNT,
   BRDG_FSEQ.FSEQ, BRDG_FSEL.FSEQ, BRDG_FSTAT.VALID, BRDG_FD0.DATA, BRDG_FD1.DATA,
   BRDG_FD2.DATA, BRDG_FD3.DATA, BRDG_ID.DEVID, BRDG_ID.VID, BRDG_PCIE.DSTATE]
/-- The BRDG fields. -/
def tableBRDG1 : List Fld :=
  [BRDG_PCIE.MRRS, BRDG_PCIE.MPS, BRDG_PCIE.WIDTH, BRDG_PCIE.SPEED, BRDG_STACK.RST,
   BRDG_STACK.PRESENT, BRDG_SPUP.PEERID, BRDG_SPUP.STATE, BRDG_SPDN.PEERID, BRDG_SPDN.STATE,
   BRDG_SEM.OWNER, BRDG_CNTCLR.CLR]
/-- The CMD fields. -/
def tableCMD : List Fld :=
  [CMD_ACCEPT.COUNT, CMD_RACCEPT.COUNT, CMD_RBUSY.COUNT, CMD_REJFMT.COUNT, CMD_REJGEN.COUNT,
   CMD_REJSTALE.COUNT, CMD_REJMAC.COUNT, CMD_REJREPLAY.COUNT, CMD_CPLLATE.COUNT, CMD_ABORTED.COUNT,
   CMD_CTRL.RST, CMD_CTRL.EN, CMD_STAT.LOCKWAIT, CMD_STAT.OPEN, CMD_STAT.CPERR,
   CMD_STAT.WIGN, CMD_CFG.RTO, CMD_CFG.FRESH, CMD_AUTH.RPERM, CMD_AUTH.OPEN,
   CMD_AUTH.RXMASK, CMD_AUTH.TXSLOT, CMD_KEYARM.CODE, CMD_KEYARM.SLOT, CMD_KEYSTAT.SET,
   CMD_KEYSTAT.KCV, CMD_SQBASELO.BASELO, CMD_SQBASEHI.BASEHI, CMD_CQBASELO.BASELO, CMD_CQBASEHI.BASEHI,
   CMD_RING.SIZE, CMD_SQHEAD.HEAD, CMD_SQTAIL.TAIL, CMD_CQHEAD.HEAD, CMD_CQTAIL.TAIL,
   CMD_IMOD.ITIME, CMD_IMOD.ICPL, CMD_IRQ.CPL, CMD_IRQ.RREJ, CMD_IRQ.KEY,
   CMD_IRQ.FORMAT, CMD_IRQ.RTO, CMD_IEN.CPL, CMD_IEN.RREJ, CMD_IEN.KEY,
   CMD_IEN.FORMAT, CMD_IEN.RTO, CMD_CNTCLR.CLR]
/-- The HKP fields. -/
def tableHKP0 : List Fld :=
  [HKP_CTRL.SNAPEDGE, HKP_CTRL.MPAT, HKP_CTRL.LCAL, HKP_CTRL.NOW, HKP_CTRL.EN,
   HKP_STAT.ACT, HKP_STAT.SUSP, HKP_STAT.BUSY, HKP_STAT.WIGN, HKP_IRQ.SUSP,
   HKP_IRQ.MPATUNC, HKP_IRQ.SCRUNC, HKP_IRQ.SUPPLY, HKP_IRQ.SPEED, HKP_IRQ.TEMP,
   HKP_IRQ.MIDLATE, HKP_IRQ.SNAPLOST, HKP_IRQ.SNAP, HKP_IEN.SUSP, HKP_IEN.MPATUNC,
   HKP_IEN.SCRUNC, HKP_IEN.SUPPLY, HKP_IEN.SPEED, HKP_IEN.TEMP, HKP_IEN.MIDLATE,
   HKP_IEN.SNAPLOST, HKP_IEN.SNAP, HKP_SNAPS.COUNT, HKP_SNAPLOST.COUNT, HKP_MIDLATE.COUNT,
   HKP_MIDREF.COUNT, HKP_SCRCOR.COUNT, HKP_SCRUNC.COUNT, HKP_SCRREP.COUNT, HKP_MPATCOR.COUNT,
   HKP_MPATUNC.COUNT, HKP_LCALRUN.COUNT, HKP_ILWAIT.COUNT, HKP_SSEL.BLOCK, HKP_SSEL.UNIT,
   HKP_SSEL.BANK, HKP_SSEL.OFFSET, HKP_SSTAT.FULL1, HKP_SSTAT.FULL0, HKP_SSTAT.NEWEST,
   HKP_SSTAT.HOLD1, HKP_SSTAT.HOLD0, HKP_SSTAT.VALID, HKP_SD.DATA, HKP_MIDSECHI.SECHI,
   HKP_MIDSECLO.SECLO, HKP_MIDNS.GO, HKP_MIDNS.NS, HKP_MIDSTAT.MIDNO, HKP_MIDSTAT.RES,
   HKP_MIDSTAT.PEND, HKP_TEMP.TMAX, HKP_TEMP.TJ, HKP_VIN.VIN, HKP_VIN.VCORE]
/-- The HKP fields. -/
def tableHKP1 : List Fld :=
  [HKP_VIO.VIO2, HKP_VIO.VIO1, HKP_SPEED.SMAX, HKP_SPEED.S, HKP_TLIM.THI,
   HKP_TLIM.SHI, HKP_SCRUB.SEN, HKP_SCRUB.PERIOD, HKP_SCRADDR.REGION, HKP_SCRADDR.ADDR,
   HKP_LCALST.TCAL, HKP_LCALST.SUSP, HKP_LCALST.CALD, HKP_CNTCLR.CLR]
/-- The GLB fields. -/
def tableGLB : List Fld :=
  [GLB_PACE.REF, GLB_PACE.PBUSY, GLB_PACE.ACT, GLB_PACE.LEVEL, GLB_REG.ILIM,
   GLB_REG.VIOOK, GLB_REG.VCOREOK, GLB_EMC.VIO2SLEW, GLB_EMC.VIO1SLEW, GLB_EMC.SLSPREAD,
   GLB_EMC.BUCKSS, GLB_RST.WARMCNT, GLB_RST.RSAVE, GLB_RST.KIND, GLB_STRAP.BOOTSRC,
   GLB_STRAP.TWIN_HALF, GLB_STRAP.BOOT, GLB_STRAP.STACK_ID, GLB_UIDHI.UID, GLB_UIDLO.UID,
   GLB_REV.FAMILY, GLB_REV.REV, GLB_STAT.CPERR, GLB_STAT.NFAULT, GLB_ISUM.BLK,
   GLB_BRST.BLK, GLB_RWVCNT.COUNT, GLB_FAULT.RWV, GLB_FAULT.RECFAIL, GLB_FAULT.SUMERR,
   GLB_IRQ.FAULT, GLB_IEN.FAULT]
/-- The FRC fields. -/
def tableFRC : List Fld :=
  [FRC_SEL.CLRALL, FRC_SEL.WR, FRC_SEL.INDEX, FRC_STAT.NACT, FRC_STAT.FRES,
   FRC_STAT.BUSY, FRC_STAT.VALID, FRC_D0.DATA, FRC_D1.DATA, FRC_D2.DATA,
   FRC_D3.DATA]

/-- Every register field of the spec. -/
def table : List Fld :=
  tableLANE ++ tableINAU0 ++ tableINAU1 ++ tableSCHD0 ++ tableSCHD1 ++ tableSYNC ++ tableTIME0 ++ tableTIME1 ++ tableFWD0 ++ tableFWD1 ++ tableCONS0 ++ tableCONS1 ++ tableCONS2 ++ tableCYCL0 ++ tableCYCL1 ++ tablePRG ++ tableTWIN ++ tableREST ++ tableRECD0 ++ tableRECD1 ++ tableBRDG0 ++ tableBRDG1 ++ tableCMD ++ tableHKP0 ++ tableHKP1 ++ tableGLB ++ tableFRC

end Reg

end Sys2Proof.Machine
end

