-- ==== Sys2Proof/Machine/Regs.lean ====
section
/-! DEFINITION. Register fields: the one place that reads and writes them, the word a register reads as, counters. -/

namespace Sys2Proof.Machine

/-- The value listed under a key. -/
def lookupKey (k : Nat) : List (Nat × Nat) → Option Nat
  | [] => none
  | (a, v) :: r => if a = k then some v else lookupKey k r

/-- The list without a key. -/
def eraseKey (k : Nat) : List (Nat × Nat) → List (Nat × Nat)
  | [] => []
  | (a, v) :: r => if a = k then eraseKey k r else (a, v) :: eraseKey k r

/-- The list with a key put in its place in rising order. -/
def insertKey (k v : Nat) : List (Nat × Nat) → List (Nat × Nat)
  | [] => [(k, v)]
  | (a, w) :: r => if k < a then (k, v) :: (a, w) :: r else (a, w) :: insertKey k v r

/-- The field's value: as listed, else its default. -/
def State.get (s : State) (f : Fld) : Nat := (lookupKey f.key s.regs).getD f.default

/-- The field set to `v`, cut to its width. A field at its default is not listed. -/
def State.put (s : State) (f : Fld) (v : Nat) : State :=
  let w := v % 2 ^ f.width
  { s with regs := if w = f.default then eraseKey f.key s.regs else insertKey f.key w (eraseKey f.key s.regs) }

/-- The field as a flag. -/
def State.flag (s : State) (f : Fld) : Bool := s.get f != 0

/-- The flag set or cleared. -/
def State.putB (s : State) (f : Fld) (b : Bool) : State := s.put f (b2n b)

/-- A counter register counts `n`, saturating at 0xFFFF_FFFF (R64 and its like). -/
def State.bumpBy (s : State) (f : Fld) (n : Nat) : State := s.put f (min (s.get f + n) 0xFFFFFFFF)

/-- A counter register counts 1. -/
def State.bump (s : State) (f : Fld) : State := s.bumpBy f 1

/-- A field that counts and saturates at the top of its own width. -/
def State.satInc (s : State) (f : Fld) : State := s.put f (min (s.get f + 1) (2 ^ f.width - 1))

/-- Unit and register number of the address `a` within the descriptor's arrays, if it lies there. -/
def Fld.locate (f : Fld) (a : Nat) : Option (Nat × Nat) :=
  if a < f.addr then none
  else
    let d := a - f.addr
    let i := if f.s1 = 0 then 0 else d / f.s1
    let r := d - i * f.s1
    let j := if f.s2 = 0 then 0 else r / f.s2
    if r = j * f.s2 ∧ i < f.n1 ∧ j < f.n2 then some (i, j) else none

/-- The fields of the register at address `a`, for that unit. -/
def fieldsAt (a : Nat) : List Fld :=
  Reg.table.filterMap fun f => (f.locate a).map fun ij => (f.at ij.1).ix ij.2

/-- The majority of three copies; copy 0 where all three disagree (R458). -/
def Voted.value (v : Voted) : Nat := if v.c1 = v.c2 then v.c1 else v.c0

/-- Three equal copies. -/
def Voted.all (n : Nat) : Voted := ⟨n, n, n⟩

/-- CMD_AUTH as the hardware reads it. -/
def State.auth (s : State) : Nat := s.glb.auth.value

/-- Second hex digit of a BAR0 offset: the number of its block (R459). -/
def blockOf (a : Nat) : Nat := a / 0x10000 % 16

/-- The EN bit that governs the RWG fields of the register at `a` (R3, R457; for a ring its own EN bit, chapter 09). -/
def enOf (a : Nat) : Option Fld :=
  match a / 0x10000 with
  | 1 => some (Reg.LANE_CTRL.EN.at ((a - 0x10000) / 0x400))
  | 3 => some Reg.SCHD_CTRL.EN
  | 4 => some Reg.SYNC_CTRL.EN
  | 5 => some Reg.TIME_CTRL.EN
  | 6 => some Reg.FWD_CTRL.EN
  | 7 =>
    let p := (a - 0x70000) / 0x4000
    let o := (a - 0x70000) % 0x4000
    if 0x100 ≤ o ∧ o < 0x200 then some ((Reg.CONS_RXQ_CFG.EN.at p).ix ((o - 0x100) / 0x20))
    else if 0x200 ≤ o ∧ o < 0x300 then some ((Reg.CONS_TXQ_CFG.EN.at p).ix ((o - 0x200) / 0x20))
    else some (Reg.CONS_CTRL.EN.at p)
  | 8 => some Reg.CYCL_CTRL.EN
  | 9 => some Reg.TWIN_CTRL.EN
  | 10 => some Reg.REST_CTRL.EN
  | 11 => some Reg.RECD_CTRL.EN
  | 12 => some Reg.BRDG_CTRL.EN
  | 13 => some Reg.CMD_CTRL.EN
  | 14 => some Reg.HKP_CTRL.EN
  | _ => none

/-- The WIGN flag of the block (R457). INAU and GLB have none. -/
def wignOf (a : Nat) : Option Fld :=
  match a / 0x10000 with
  | 1 => some (Reg.LANE_STAT.WIGN.at ((a - 0x10000) / 0x400))
  | 3 => some Reg.SCHD_STAT.WIGN
  | 4 => some Reg.SYNC_STAT.WIGN
  | 5 => some Reg.TIME_STAT.WIGN
  | 6 => some Reg.FWD_STAT.WIGN
  | 7 => some (Reg.CONS_STAT.WIGN.at ((a - 0x70000) / 0x4000))
  | 8 => some Reg.CYCL_STAT.WIGN
  | 9 => some Reg.TWIN_STAT.WIGN
  | 10 => some Reg.REST_STAT.WIGN
  | 11 => some Reg.RECD_STAT.WIGN
  | 12 => some Reg.BRDG_STAT.WIGN
  | 13 => some Reg.CMD_STAT.WIGN
  | 14 => some Reg.HKP_STAT.WIGN
  | _ => none

/-- The CPERR flag of a block with WCP registers (R5, R457). -/
def cperrOf (a : Nat) : Option Fld :=
  match a / 0x10000 with
  | 0 => some Reg.GLB_STAT.CPERR
  | 11 => some Reg.RECD_STAT.CPERR
  | 13 => some Reg.CMD_STAT.CPERR
  | _ => none

/-- The BUSY flag that a posted write to the register at `a` sets: that of the mailbox concerned, else the block's (R4, R457). -/
def busyOf (a : Nat) : Option Fld :=
  match a with
  | 0x30080 => some Reg.SCHD_TSTAT.BUSY
  | 0x800A0 => some Reg.CYCL_SSTAT.BUSY
  | 0x80144 => some Reg.PRG_STAT.BUSY
  | 0x80170 => some Reg.FRC_STAT.BUSY
  | 0xA0010 => some Reg.REST_STAT.BUSY
  | 0xB0040 => some Reg.RECD_RSTAT.BUSY
  | 0xB002C => some Reg.RECD_STAT.BUSY
  | 0xB0034 => some Reg.RECD_STAT.BUSY
  | _ => none

/-- The field at bit `lo` of the register at `a` is one that SAVE stores (Table 18.9), among those with an access of RW or RWG. -/
def storedAt (a lo : Nat) : Bool :=
  let o := a % 0x10000
  match a / 0x10000 with
  | 1 => let l := o % 0x400
         l = 0 || l = 8 || l = 0xC
  | 2 => o = 0 || o = 0x20 || o = 0x24
  | 3 => o = 0 || o = 8 || (0x40 ≤ o && o < 0x60)
  | 4 => o = 0 || o = 8 || (0x90 ≤ o && o < 0xA0)
  | 5 => o = 0 || o = 8 || o = 0xC || o = 0x10 || o = 0x1C || (0x140 ≤ o && o < 0x194)
  | 6 => o = 0 || (8 ≤ o && o < 0x20)
  | 7 => let l := o % 0x4000
         l = 0 || (8 ≤ l && l < 0x24) || l = 0x28 || l = 0x2C || (0x400 ≤ l && l < 0x800)
  | 8 => (o = 0 && lo = 0) || (8 ≤ o && o < 0x40) || o = 0x80
  | 9 => o = 0 || o = 4 || o = 8
  | 10 => (o = 0 && lo = 0) || o = 8 || o = 0xC
  | 11 => o = 0 || o = 0x60 || o = 0x64
  | 12 => (o = 0 && lo = 1) || o = 8 || o = 0xC
  | 13 => o = 8
  | 14 => o = 0 || o = 0x40 || o = 0x44
  | _ => false

/-- A stored setting: by address, place and access. -/
def Fld.stored (f : Fld) : Bool := (match f.acc with | .rw => true | .rwg => true | _ => false) && storedAt f.addr f.lo

/-- A flag set where the block has it. -/
def State.setOpt (s : State) (f : Option Fld) : State :=
  match f with
  | some g => s.put g 1
  | none => s

/-- A stored setting has changed since the last SAVE. -/
def State.dirtyCfg (s : State) : State := s.put Reg.REST_STAT.CFGDIRTY 1

end Sys2Proof.Machine
end

