-- ==== Sys2Proof/Machine/Link.lean ====
section
/-! DEFINITION. Packets on the stack link (R427, Table 15.6): their form and their way out. -/

namespace Sys2Proof.Machine

/-- A stack packet: header, payload, CRC-32. -/
def stackPacket (kind cls dst src tag addr bestat : Nat) (pl : Bytes) : Bytes :=
  let h := natBe 1 kind ++ natBe 1 (64 * cls + 16 * dst + 4 * src) ++ natBe 2 tag ++ natBe 4 addr ++ natBe 2 pl.length ++ natBe 1 bestat ++ [0]
  h ++ pl ++ fcsBytes (h ++ pl)

/-- Fields of a stack packet (Table 15.6). -/
def spKind (p : Bytes) : Nat := byteAt p 0
def spDst (p : Bytes) : Nat := bits (byteAt p 1) 5 4
def spSrc (p : Bytes) : Nat := bits (byteAt p 1) 3 2
def spTag (p : Bytes) : Nat := fieldAt p 2 2
def spAddr (p : Bytes) : Nat := fieldAt p 4 4 % 0x200000
def spLen (p : Bytes) : Nat := fieldAt p 8 2
def spBe (p : Bytes) : Nat := byteAt p 10
def spPay (p : Bytes) : Bytes := (p.drop 12).take (spLen p)

/-- Length and CRC-32 of a stack packet are right (R427). An RD carries no payload: its LEN is the length asked for (log entry 26). -/
def spOk (p : Bytes) : Bool :=
  let n := if spKind p = 2 then 12 else 12 + spLen p
  spLen p ≤ 2092 && p.length = n + 4 && p.drop n = fcsBytes (p.take n)

/-- Requester code of the chip `src` (Table 15.5): what comes from the master is the host's. -/
def requester (src : Nat) : Nat := if src = 0 then 0 else src + 1

namespace State

/-- The own stack ID, as latched at power-on (R425). -/
def stackId (s : State) : Nat := s.get Reg.BRDG_STAT.STACKID

/-- The stack port toward a chip: 0 up, 1 down (R425). -/
def stackToward (s : State) (dst : Nat) : Nat := if s.stackId < dst then 1 else 0

/-- A stack port is ACTIVE. -/
def stackUp (s : State) (p : Nat) : Bool := s.get (if p = 0 then Reg.BRDG_SPUP.STATE else Reg.BRDG_SPDN.STATE) = 6

/-- The newest posted write that the master has not sent yet, since 32 are in flight (Table 15.3). -/
def unsent (s : State) : Option Nat := ((s.brdg.writes.filter fun (w : FarOp) => !w.sent).getLast?).map (·.id)

/-- A packet to another chip leaves by the port toward it, if that port is ACTIVE; at the master it goes behind the posted writes that wait there
(R418). -/
def stackSend (s : State) (kind cls dst tag addr bestat : Nat) (pl : Bytes) : State :=
  let p := s.stackToward dst
  let b := stackPacket kind cls dst s.stackId tag addr bestat pl
  if !s.stackUp p then s
  else match (if s.stackId = 0 then s.unsent else none) with
    | some id => { s with brdg.behind := s.brdg.behind ++ [(id, b)] }
    | none => { s with outs := s.outs ++ [.stack p b] }

/-- A MSG packet. Its payload begins with what it carries: 1 interrupt, 2 event record, 3 time, 4 write count, 5 failed write, 6 Dusk commit,
7 stack reset, 8 command packet, 9 completion packet, 10 members below, 11 CMD or CPL frame of a member, 12 CPL packet, 13 claim, 14 roster,
15 path lost (DESIGN CHOICE, log entry 26). -/
def stackMsg (s : State) (dst sub : Nat) (pl : Bytes) : State := s.stackSend 5 0 dst 0 0 0 (natBe 1 sub ++ [0] ++ pl)

/-- Members that are present (BRDG_STACK.PRESENT). -/
def members (s : State) : List Nat := [1, 2, 3].filter fun m => bit (s.get Reg.BRDG_STACK.PRESENT) (m - 1)

end State

end Sys2Proof.Machine
end

