-- ==== Sys2Proof/Machine/Flags.lean ====
section
/-! DEFINITION. Interrupt flags: the vector map of Table 16.10, pending vectors, MSI-X messages and INTA (R455, R456). -/

namespace Sys2Proof.Machine

/-- A raw single-bit field by its key; every IRQ and IEN bit has default 0. -/
def State.rawBit (s : State) (k : Nat) : Bool := (lookupKey k s.regs).getD 0 != 0

/-- The sources of a vector: IRQ register address, lowest and highest bit (Table 16.10). Its IEN register follows the IRQ register. -/
def vecSrc (v : Nat) : List (Nat × Nat × Nat) :=
  if v = 0 then [(0x20, 0, 0)]
  else if v ≤ 4 then [(0x10018 + (v - 1) * 0x400, 0, 5)]
  else if v = 5 then [(0x20028, 0, 7)]
  else if v = 6 then [(0x30028, 0, 8)]
  else if v = 7 then [(0x400A0, 0, 5)]
  else if v = 8 then [(0x50030, 0, 6)]
  else if v = 9 then [(0x60030, 0, 5)]
  else if v ≤ 13 then [(0x70030 + (v - 10) * 0x4000, 0, 15)]
  else if v = 14 then [(0x80088, 0, 7), (0x80168, 0, 4)]
  else if v = 15 then [(0x90030, 0, 7)]
  else if v = 16 then [(0xA0020, 0, 6)]
  else if v = 17 then [(0xB0070, 0, 6)]
  else if v = 18 then [(0xC0048, 0, 5)]
  else if v = 19 then [(0xD0070, 0, 0)]
  else if v = 20 then [(0xD0070, 1, 4)]
  else if v = 21 then [(0xE0050, 0, 8)]
  else if 24 ≤ v ∧ v < 56 then
    let p := (v - 24) / 8
    let q := (v - 24) % 8
    [(0x70030 + p * 0x4000, 16 + q, 16 + q), (0x70030 + p * 0x4000, 24 + q, 24 + q)]
  else []

/-- The vector of an IRQ bit. -/
def vecOf (f : Fld) : Nat :=
  match f.addr / 0x10000 with
  | 0 => 0
  | 1 => 1 + (f.addr - 0x10000) / 0x400
  | 7 =>
    let p := (f.addr - 0x70000) / 0x4000
    if f.lo < 16 then 10 + p else if f.lo < 24 then 24 + 8 * p + (f.lo - 16) else 24 + 8 * p + (f.lo - 24)
  | 8 => 14
  | 9 => 15
  | 10 => 16
  | 11 => 17
  | 12 => 18
  | 13 => if f.lo = 0 then 19 else 20
  | 14 => 21
  | b => b + 3

/-- A vector is pending while any enabled IRQ bit mapped to it is 1; vectors 56 to 58 stand for GLB_ISUM of the stack members. -/
def State.vecPending (s : State) (v : Nat) : Bool :=
  ((vecSrc v).any fun (a, lo, hi) => (List.range (hi + 1 - lo)).any fun i =>
    s.rawBit (a * 32 + lo + i) && s.rawBit ((a + 4) * 32 + lo + i))
  || (56 ≤ v && v ≤ 58 && (s.msix.members.contains (v - 55)))

/-- Address, data and mask of a vector's MSI-X entry. -/
def State.msixEntry (s : State) (v : Nat) : Nat × Nat × Bool :=
  match s.msix.table.find? (fun e => e.1 = v) with
  | some e => e.2
  | none => (0, 0, true)

/-- An output that does not leave the chip: a pin of a VIO bank below 1.5 V (R478, Table 18.1), and what a line-A transmitter that temperature has
stopped would send (R491). -/
def State.mutes (s : State) (o : Out) : Bool :=
  match o with
  | .pin _ _ => s.pwr.vio1
  | .mdio _ _ _ _ _ => s.pwr.vio2
  | .sf n _ | .res n _ | .data n _ | .eg n | .eb n | .pre n | .cr n _ | .crs n _ _ | .crsEnd n | .idle n | .ts n _ _ _ | .wake n =>
    s.pwr.hot && n % 2 = 0
  | _ => false

/-- An output leaves the chip, unless its pins are without supply or its transmitter is stopped. -/
def State.emit (s : State) (o : Out) : State := { s with outs := s.outs ++ if s.mutes o then [] else [o] }

/-- The function is in D3hot: no request leaves on the link (R409). -/
def State.inD3 (s : State) : Bool := s.get Reg.BRDG_PCIE.DSTATE = 3

/-- The host port takes no request of this chip: D3hot (R409), or a stack member, whose PCIe port is powered down (R425). -/
def State.portOff (s : State) : Bool := s.inD3 || s.stackId ≠ 0

/-- Requests may leave the host port: this is the stack master (R425), the node is ACTIVE (R374, R410), the function is in D0 (R409). -/
def State.hostOpen (s : State) : Bool := s.stackId = 0 && s.power = .active && !s.inD3

/-- INTA follows the pending vectors while MSI-X is disabled; where no request may leave, it is not asserted. -/
def State.refreshInta (s : State) : State :=
  let lvl := s.hostOpen && !s.msix.enable && (List.range 64).any s.vecPending
  if lvl = s.msix.inta then s
  else
    let t : State := { s with msix.inta := lvl }
    if s.hostOpen then t.emit (.inta lvl) else t

/-- The vector's message is sent, or its pending bit set while it is masked (R455) or no request may leave (R374, R409). -/
def State.signal (s : State) (v : Nat) : State :=
  if s.msix.enable then
    let e := s.msixEntry v
    if e.2.2 || s.msix.fmask || !s.hostOpen then
      if s.msix.pba.contains v then s else { s with msix.pba := s.msix.pba ++ [v] }
    else s.emit (.msix v e.1 e.2.1)
  else s.refreshInta

/-- An IRQ bit is set; its vector signals when this makes it pending (R455). -/
def State.raise (s : State) (f : Fld) : State :=
  let v := vecOf f
  let s1 := s.put f 1
  if s.vecPending v then s1 else if s1.vecPending v then s1.signal v else s1

/-- nFAULT is low while any GLB_FAULT bit is 1 (chapter 16). -/
def State.refreshFault (s : State) : State :=
  let low := s.flag Reg.GLB_FAULT.RWV || s.flag Reg.GLB_FAULT.RECFAIL || s.flag Reg.GLB_FAULT.SUMERR
  if low = s.flag Reg.GLB_STAT.NFAULT then s
  else (s.putB Reg.GLB_STAT.NFAULT low).emit (.pin "nFAULT" (if low then 0 else 1))

/-- Completions moderated by CMD_IMOD.ITIME are signalled once it has passed (chapter 16). -/
def State.refreshCpl (s : State) : State :=
  if s.cmd.mods.2.any (· ≤ s.now) then { s with cmd.mods := (0, none) }.raise Reg.CMD_IRQ.CPL else s

/-- GLB_ISUM is not 0: some block has an enabled IRQ bit set. -/
def State.irqAny (s : State) : Bool := (List.range 56).any s.vecPending

/-- INTn is low while GLB_ISUM is not 0, whether MSI-X is enabled or not (R496); a stack member tells its master (R427). -/
def State.refreshIntn (s : State) : State :=
  let low := s.irqAny
  if low = s.pwr.intn then s
  else
    let s := { s with pwr.intn := low }.emit (.pin "INTn" (if low then 0 else 1))
    if s.stackId = 0 then s else s.stackMsg 0 1 (natBe 4 (b2n low))

/-- The node holds a claim: a single node from its first Noon on (R332, R496). -/
def State.roleHigh (s : State) : Bool :=
  if s.get Reg.TWIN_STAT.TWON ≠ 0 then s.get Reg.TWIN_CLAIM.VALUE ≠ 0 else s.inau.force.isSome

/-- ROLE is high while the node holds a claim (R496). -/
def State.refreshRolePin (s : State) : State :=
  let up := s.roleHigh
  if up = s.pwr.role then s else { s with pwr.role := up }.emit (.pin "ROLE" (if up then 1 else 0))

/-- The outputs that follow registers and time at every instant: CMD_IRQ.CPL, INTA, INTn, ROLE and nFAULT (R455, R496, chapter 16). -/
def State.settle (s : State) : State := s.refreshCpl.refreshInta.refreshIntn.refreshRolePin.refreshFault

/-- A GLB_FAULT bit is set: nFAULT goes low and GLB_IRQ.FAULT is set. -/
def State.fault (s : State) (f : Fld) : State :=
  ((s.put f 1).raise Reg.GLB_IRQ.FAULT).refreshFault

end Sys2Proof.Machine
end

