-- ==== Sys2Proof/Machine/Operands.lean ====
section
/-! DEFINITION. The settings as they act: register fields with the limits their tables give ("values outside act as the nearer
limit", "0 acts as 1"). -/

namespace Sys2Proof.Machine

namespace State

variable (s : State)

/-- T_STARTUP, T_WAVE and T_SETTLE of INAU_TMR, in 1/16 ns (chapter 03). -/
def tStartup : Nat := us (100 * s.get Reg.INAU_TMR.STARTUP)
def tWave : Nat := us (100 * max 5 (s.get Reg.INAU_TMR.WAVETO))
def tSettle : Nat := us (clampNat 50 5000 (s.get Reg.INAU_TMR.SETTLE))

/-- The node's own basic cycle in 250 µs units and its guard in ns: SCHD_CFG. -/
def cycleUnits : Nat := clampNat 1 64 (s.get Reg.SCHD_CFG.CYCLE)
def ownGuard : Nat := clampNat 40 2000 (s.get Reg.SCHD_CFG.GUARD)

/-- HOLDMAX, the rate interval and Π (ns) of SYNC_CFG. -/
def holdMax : Nat := max 1 (s.get Reg.SYNC_CFG.HOLDMAX)
def rateInterval : Nat := 2 ^ clampNat 2 6 (s.get Reg.SYNC_CFG.RINTV)
def piNs : Nat := clampNat 50 10000 (s.get Reg.SYNC_CFG.PI)

/-- J in ns, the catch-up rate in ppm, TAU in s, the reference source, the 1588 domain. -/
def jumpNs : Nat := clampNat 100 1000000000 (s.get Reg.TIME_CFG.JUMP)
def catchPpm : Nat := clampNat 10 1000 (s.get Reg.TIME_CFG2.CATCH)
def tauS : Nat := clampNat 1 100 (s.get Reg.TIME_CFG2.TAU)
def refSrc : Nat := if s.get Reg.TIME_REF.SRC = 3 then 0 else s.get Reg.TIME_REF.SRC
def ptpDomain : Nat := min 127 (s.get Reg.TIME_REF.DOMAIN)

/-- Regions of the frame pool and limits of the queues (chapter 08). -/
def exRes : Nat := min 4096 (s.get Reg.FWD_POOLCFG.EXRES)
def minRes : Nat := min 512 (s.get Reg.FWD_POOLCFG.MINRES)
def bulkFloor : Nat := min 8192 (s.get Reg.FWD_POOLCFG2.BULKFLOOR)
def mgmtRun : Nat := max 1 (s.get Reg.FWD_QCFG.MGMTRUN)
def qAge : Nat := us (100 * clampNat 1 10000 (s.get Reg.FWD_QCFG.QAGE))
def mgmtLim : Nat := clampNat 16 8192 (s.get Reg.FWD_QLIM.MGMTLIM)
def bulkLim : Nat := clampNat 16 8192 (s.get Reg.FWD_QLIM.BULKLIM)
def pathAge : Nat := max 1 (s.get Reg.FWD_VCFG.PAGE)

/-- Settings of consist port `p` (chapter 09). -/
def maxLen (p : Nat) : Nat := clampNat 1518 9216 (s.get (Reg.CONS_CFG.MAXLEN.at p))
def wdms (p : Nat) : Nat := clampNat 1 1000 (s.get (Reg.CONS_PAUSE.WDMS.at p))
def xoff (p : Nat) : Nat := clampNat 16 8192 (s.get (Reg.CONS_PAUSETH.XOFF.at p))
def xon (p : Nat) : Nat := min (s.get (Reg.CONS_PAUSETH.XON.at p)) (s.xoff p - 1)

/-- Descriptors of receive ring `q` and transmit ring `q` of port `p`, the receive buffer size, IFRAMES. -/
def rxSize (p q : Nat) : Nat := 64 * 2 ^ min 6 (s.get ((Reg.CONS_RXQ_CFG.SIZE.at p).ix q))
def txSize (p q : Nat) : Nat := 64 * 2 ^ min 6 (s.get ((Reg.CONS_TXQ_CFG.SIZE.at p).ix q))
def rxBufSz (p q : Nat) : Nat :=
  let b := s.get ((Reg.CONS_RXQ_CFG.BUFSZ.at p).ix q)
  64 * (if b = 0 then 256 else max 4 b)

/-- Task period in cycles and range length in bytes (chapter 10). -/
def taskPeriod (n : Nat) : Nat := 2 ^ min 6 (s.get (Reg.CYCL_TASK.PERIOD.ix n))
def tinLen (n : Nat) : Nat := 64 * min 1024 (s.get (Reg.CYCL_TIN.LEN.ix n))
def toutLen (n : Nat) : Nat := 64 * min 1024 (s.get (Reg.CYCL_TOUT.LEN.ix n))

/-- CBMISS, HBMISS and VACWIN of TWIN_CFG; TDUSK of REST_CFG. -/
def cbMiss : Nat := max 1 (s.get Reg.TWIN_CFG.CBMISS)
def hbMiss : Nat := max 3 (s.get Reg.TWIN_CFG.HBMISS)
def vacWin : Nat := max 16 (s.get Reg.TWIN_CFG.VACWIN)
def tDusk : Nat := max 4 (s.get Reg.REST_CFG.TDUSK)

/-- Lock limit and far timeout in 1/16 ns (chapter 15). -/
def lockTo : Nat := us (clampNat 2 100 (s.get Reg.BRDG_CFG.LOCKTO))
def fto : Nat := us (clampNat 5 35 (s.get Reg.BRDG_CFG.FTO))

/-- RSEND timeout, freshness, ring size and completion moderation (chapter 16). -/
def rto : Nat := ms (clampNat 1 1000 (s.get Reg.CMD_CFG.RTO))
def freshCycles : Nat := max 1 (s.get Reg.CMD_CFG.FRESH)
def cmdRing : Nat := 64 * 2 ^ min 6 (s.get Reg.CMD_RING.SIZE)

/-- Scrubber pass time in s (chapter 17). -/
def scrubPass : Nat := clampNat 10 3600 (s.get Reg.HKP_SCRUB.PERIOD)

end State

end Sys2Proof.Machine
end

