-- ==== Sys2Proof/Machine/Ops.lean ====
section
/-! DEFINITION. The named operations that every family uses: lanes and ends of the state, time, train time, event records,
free values. -/

namespace Sys2Proof.Machine

/-- The answer of a meaning that completes: INTA and nFAULT stand as the registers say. -/
def done (s : State) : Host.Outcome State Fault Refusal := .next s.settle

/-- What stands under a key of a table. -/
def tabGet {α : Type} (k : Nat) : List (Nat × α) → Option α
  | [] => none
  | (a, v) :: r => if a = k then some v else tabGet k r

/-- The table with a key's entry put in its place in rising order, or without it. -/
def tabErase {α : Type} (k : Nat) (t : List (Nat × α)) : List (Nat × α) := t.filter fun e => e.1 ≠ k
def tabPut {α : Type} (k : Nat) (v : α) (t : List (Nat × α)) : List (Nat × α) :=
  t.filter (fun e => e.1 < k) ++ (k, v) :: t.filter (fun e => k < e.1)

namespace State

/-- The node runs: ACTIVE or TWILIGHT, no reset asserted (Table 01.4). -/
def awake (s : State) : Bool := (s.power = .active || s.power = .twilight) && s.pwr.rst.isNone

/-- The node is ACTIVE, no reset asserted: host port, consist ports, engine, stack and twin operation run (R374). -/
def active (s : State) : Bool := s.power = .active && s.pwr.rst.isNone

/-- What lane `n` holds. -/
def lane (s : State) (n : Nat) : LaneS := s.lanes[n]?.getD {}

/-- Lane `n` changed by `f`. -/
def onLane (s : State) (n : Nat) (f : LaneS → LaneS) : State :=
  { s with lanes := s.lanes.setIfInBounds n (f (s.lane n)) }

/-- What vehicle end `e` holds. -/
def vend (s : State) (e : Nat) : EndS := s.inau.ends[e]?.getD {}

/-- Vehicle end `e` changed by `f`. -/
def onEnd (s : State) (e : Nat) (f : EndS → EndS) : State :=
  { s with inau.ends := s.inau.ends.setIfInBounds e (f (s.vend e)) }

/-- Time moves on to the instant `t`, if that lies ahead: a timer's command says that its time has come (log entry 2). -/
def reach (s : State) (t : Nat) : State := { s with now := max s.now t }

/-- The next free value (log entry 4). -/
def freshFree (s : State) : Nat × State := ((Config.freeValue s.free).toNat, { s with free := s.free + 1 })

/-- The roster in force. -/
def roster (s : State) : Option Roster := s.inau.force.map (·.roster)

/-- Roster generation and own position in force; 0 if none (INAU_GEN, INAU_POS). -/
def gen (s : State) : Nat := s.get Reg.INAU_GEN.GEN
def pos (s : State) : Nat := s.get Reg.INAU_POS.POS

/-- The basic cycle T in force, in 1/16 ns: that of the roster in force, at a stack member that of its master (R16), else the node's own setting. -/
def tLen (s : State) : Nat :=
  us (250 * (match s.roster with | some r => r.cycle | none => if s.brdg.cycle ≠ 0 then s.brdg.cycle else s.cycleUnits))

/-- The guard in force, ns. -/
def guardNs (s : State) : Nat := match s.roster with | some r => r.guard_ | none => s.ownGuard

/-- Operating time in 1/256 s (R390), wrapping at 2^40. -/
def opTime (s : State) : Nat :=
  (s.opBase + ((s.now - s.opAt : Nat) * (1000000 + s.opPpm).toNat / 1000000) / 62500000) % 2 ^ 40

/-- The instant at which operating time reaches `target` (1/256 s), if that lies ahead within half its range. -/
def reachOp (s : State) (target : Nat) : State :=
  let ahead := (target + 2 ^ 40 - s.opTime) % 2 ^ 40
  if ahead = 0 ∨ 2 ^ 39 ≤ ahead then s
  else
    let need := (target + 2 ^ 40 - s.opBase % 2 ^ 40) % 2 ^ 40
    { s with now := max s.now (s.opAt + ceilDiv (need * 62500000 * 1000000) (1000000 + s.opPpm).toNat) }

/-- Operating-time seconds. -/
def opSec (s : State) : Nat := s.opTime / 256

/-- Map time of the instant `t`, 1/16 ns, while a map is held (R192). Without a running cycle the map counts from its own boundary. -/
def mapAt (s : State) (t : Nat) : Option Int :=
  s.time.map.map fun (k0, m0) => m0 + sdiff32 s.cyc k0 * s.tLen + ((t : Int) - s.bnd)

/-- κ at the instant `t` (R198): it moves toward 0 at CATCH ppm of the time elapsed. -/
def kappaAt (s : State) (t : Nat) : Int :=
  let d : Int := ((t - s.time.kAt : Nat) * s.catchPpm / 1000000 : Nat)
  if s.time.kappa > 0 then max 0 (s.time.kappa - d) else min 0 (s.time.kappa + d)

/-- Presented train time of the instant `t`, 1/16 ns (R193, R195). -/
def presentedAt (s : State) (t : Nat) : Int :=
  match s.mapAt t with
  | some m => m + s.kappaAt t
  | none => s.time.pre + ((t : Int) - s.time.preAt)

/-- Presented train time now. -/
def presented (s : State) : Int := s.presentedAt s.now

end State

/-- The meaning of a command that needs a running node: without one it changes nothing. -/
def live (s : State) (f : State → Host.Outcome State Fault Refusal) : Host.Outcome State Fault Refusal :=
  if s.awake then f s else done s

/-- The meaning of a command to a part that only an ACTIVE node runs. -/
def liveActive (s : State) (f : State → Host.Outcome State Fault Refusal) : Host.Outcome State Fault Refusal :=
  if s.active then f s else done s

/-- Seconds and nanoseconds of a train time in 1/16 ns (R191): the seconds wrap at 2^48. -/
def secNs (t : Int) : Nat × Nat :=
  ((t / 16000000000 % 2 ^ 48).toNat, (t % 16000000000 / 16).toNat)

/-- The train time in 1/16 ns of seconds and nanoseconds. -/
def ofSecNs (s n : Nat) : Int := (s : Int) * 16000000000 + (n : Int) * 16

/-- The 16-byte time value of Table 07.6; a signed value keeps one sign in both parts. -/
def timeValue (t : Int) (vflags cyc : Nat) : Bytes :=
  let q := Int.tdiv t 16000000000
  let r := Int.tmod t 16000000000
  let n := Int.tdiv r 16
  let f := (Int.tmod r 16).natAbs
  natBe 6 (unsigned 48 q) ++ natBe 4 (unsigned 30 n) ++ natBe 1 f ++ natBe 1 vflags ++ natBe 4 cyc

/-- The 16-byte value of a train time (Table 07.6), which no session makes negative or longer than its fields (R191). -/
def timeStamp (t : Int) (vflags cyc : Nat) : Bytes :=
  natBe 6 (secNs t).1 ++ natBe 4 (secNs t).2 ++ natBe 1 (t % 16).toNat ++ natBe 1 vflags ++ natBe 4 cyc

/-- A difference of two train times taken under the wrap of the seconds at 2^48 (R191), 1/16 ns. -/
def wrapT (x : Int) : Int := (x + 2 ^ 47 * 16000000000) % (2 ^ 48 * 16000000000) - 2 ^ 47 * 16000000000

/-- Short time in ns of a presented time (R194). -/
def shortNs (t : Int) : Nat := (t / 16 % 2 ^ 40).toNat

/-- Short time in 1/16 ns, 44 bits (Table 09.5). -/
def short16 (t : Int) : Nat := (t % 2 ^ 44).toNat

namespace State

/-- An event record with its context of Table 14.5 and its parameters goes toward staging (R388). -/
def record (s : State) (code : Nat) (params : Bytes := []) : State :=
  let held := s.time.map.isSome
  let t := secNs s.presented
  { s with events := s.events ++ [
      { code := code
        cyc := if s.cycRun then s.cyc else 0
        tsec := if held then t.1 else 0
        tns := if held then t.2 else 0
        gen := s.gen
        pos := s.pos
        tsv := held
        stack := s.get Reg.BRDG_STAT.STACKID
        ot := s.opTime
        params := params }] }

/-- A second fault within a recovery time, with both causes as event codes (R475). -/
def secondFault (s : State) (c1 c2 : Nat) : State := s.record 0x0E20 (natBe 4 c1 ++ natBe 4 c2)

/-- Recorded once per roster generation and key. -/
def recordGen (s : State) (code key : Nat) (params : Bytes := []) : State :=
  if s.onceGen.contains (code, key) then s
  else { s with onceGen := (code, key) :: s.onceGen }.record code params

/-- Recorded once per key and second of operating time. -/
def recordSec (s : State) (code key : Nat) (params : Bytes := []) : State :=
  if s.onceSec.contains (code, key, s.opSec) then s
  else { s with onceSec := (code, key, s.opSec) :: s.onceSec.filter (fun e => e.2.2 = s.opSec) }.record code params

/-- Recorded once per time session and key. -/
def recordSess (s : State) (code key : Nat) (params : Bytes := []) : State :=
  if s.onceSess.contains (code, key) then s
  else { s with onceSess := (code, key) :: s.onceSess }.record code params

end State

/-- LANE_STAT.STATE codes (Table 02.4). -/
def LaneSt.code : LaneSt → Nat
  | .disabled => 0 | .down => 1 | .detect => 2 | .align => 3 | .eq => 4 | .confirm => 5 | .active => 6 | .resync => 7 | .sleep => 8

/-- The state of a code. -/
def LaneSt.ofCode : Nat → LaneSt
  | 0 => .disabled | 1 => .down | 2 => .detect | 3 => .align | 4 => .eq | 5 => .confirm | 6 => .active | 7 => .resync | _ => .sleep

/-- State of lane `n`: LANE_STAT.STATE. -/
def State.laneSt (s : State) (n : Nat) : LaneSt := LaneSt.ofCode (s.get (Reg.LANE_STAT.STATE.at n))

/-- Lane `n` moves to a state. -/
def State.setLaneSt (s : State) (n : Nat) (t : LaneSt) : State :=
  (s.put (Reg.LANE_STAT.STATE.at n) t.code).onLane n fun l => { l with since := s.now }

/-- What calibration holds of lane `n` (R471). -/
def State.cal (s : State) (n : Nat) : CalS := (s.hkp.cals[n]?).getD {}

/-- ACTIVE, RESYNC counting as ACTIVE (R41). -/
def State.laneUp (s : State) (n : Nat) : Bool := s.laneSt n = .active || s.laneSt n = .resync

/-- Line and vehicle end of a lane: E1A, E1B, E2A, E2B. -/
def lineOf (n : Nat) : Nat := n % 2
def endOf (n : Nat) : Nat := n / 2
/-- The lane of end `e` and line `l`. -/
def laneAt (e l : Nat) : Nat := 2 * e + l
/-- The other vehicle end. -/
def oppEnd (e : Nat) : Nat := 1 - e

/-- The node is a twin half in twin operation, and its half: 0 X, 1 Y (chapter 12). -/
def State.twinOn (s : State) : Bool := s.flag Reg.TWIN_STAT.TWON
def State.half (s : State) : Nat := s.get Reg.TWIN_STAT.HALF

/-- This node acts for its position: a single node, or the half that holds the claim (R349, R355). -/
def State.holdsClaim (s : State) : Bool := !s.twinOn || s.get Reg.TWIN_CLAIM.VALUE ≠ 0

/-- The partner half is heard on some path (R337). -/
def State.partnerPresent (s : State) : Bool := s.flag Reg.TWIN_STAT.TLOK || s.flag Reg.TWIN_STAT.CBOK

/-- The 64-byte blocks of [o, o + n) of a mirrored region become dirty: 0 retained, 1 non-retained, 2 output, 3 state slots (R352). -/
def State.markDirty (s : State) (region o n : Nat) : State :=
  if !s.twinOn || n = 0 then s
  else
    let bs := (List.range ((o + n - 1) / 64 + 1 - o / 64)).map fun i => (region, o / 64 + i)
    { s with twin.dirty := s.twin.dirty ++ bs.filter fun b => !s.twin.dirty.contains b }

/-- The node's own UID (GLB_UIDHI, GLB_UIDLO). -/
def State.uid (s : State) : Nat := s.get Reg.GLB_UIDHI.UID * 2 ^ 32 + s.get Reg.GLB_UIDLO.UID

/-- A higher rank is a lower UID (R17). -/
def outranks (a b : Nat) : Bool := a < b

end Sys2Proof.Machine
end

