-- ==== Sys2Proof/Machine/Image.lean ====
section
/-! DEFINITION. Program images: header and sections (R309 to R312), the block library (R314, R315), validation (R317), evaluation. -/

namespace Sys2Proof.Machine

/-- A block instance: type, task, operand words, key, offset of its state slot. -/
structure Inst where
  type : Nat
  task : Nat
  ops : List Nat
  key : Nat
  slot : Nat
deriving DecidableEq, Repr

/-- A section of the directory. -/
structure Sect where
  kind : Nat
  optional : Bool
  off : Nat
  len : Nat
deriving DecidableEq, Repr

/-- Header fields (Table 11.1). -/
def imMagic (b : Bytes) : Nat := fieldAt b 0 4
def imFver (b : Bytes) : Nat := fieldAt b 4 2
def imNsect (b : Bytes) : Nat := fieldAt b 6 2
def imLen (b : Bytes) : Nat := fieldAt b 8 4
def imProg (b : Bytes) : Nat := fieldAt b 12 4
def imRev (b : Bytes) : Nat := fieldAt b 16 4
def imBase (b : Bytes) : Nat := fieldAt b 20 4
def imNinst (b : Bytes) : Nat := fieldAt b 24 4
def imState (b : Bytes) : Nat := fieldAt b 28 4
def imMask (b : Bytes) : Nat := byteAt b 32
def imPeriod (b : Bytes) (n : Nat) : Nat := byteAt b (36 + n)

/-- The section directory. -/
def sections (b : Bytes) : List Sect :=
  (List.range (imNsect b)).map fun i =>
    let e := (b.drop (64 + 12 * i)).take 12
    ⟨fieldAt e 0 2, bit (fieldAt e 2 2) 15, fieldAt e 4 4, fieldAt e 8 4⟩

/-- The bytes of the section of a kind; none if the image has none. -/
def partOf? (b : Bytes) (kind : Nat) : Option Bytes :=
  ((sections b).find? (·.kind = kind)).map fun x => (b.drop x.off).take x.len
def sectionOf (b : Bytes) (kind : Nat) : Bytes := (partOf? b kind).getD []

/-- State bytes of a type (Table 11.5). -/
def typeState (t : Nat) : Nat :=
  if 0x10 ≤ t ∧ t ≤ 0x13 then 4 else if (0x20 ≤ t ∧ t ≤ 0x22) ∨ (0x28 ≤ t ∧ t ≤ 0x2A) then 8 else 0

/-- Library cost of a type (Table 11.5); none for an unknown type. -/
def typeCost (t : Nat) : Option Nat :=
  match t with
  | 0x01 => some 1 | 0x02 => some 1 | 0x03 => some 1 | 0x04 => some 1 | 0x05 => some 1
  | 0x06 => some 2 | 0x07 => some 2 | 0x08 => some 3 | 0x09 => some 8 | 0x0A => some 2 | 0x0B => some 1 | 0x0C => some 2
  | 0x10 => some 1 | 0x11 => some 1 | 0x12 => some 1 | 0x13 => some 1
  | 0x20 => some 4 | 0x21 => some 4 | 0x22 => some 4 | 0x28 => some 3 | 0x29 => some 3 | 0x2A => some 4
  | _ => none

/-- How many operands of the type are inputs, of `n` operands. -/
def typeInputs (t n : Nat) : Nat :=
  match t with
  | 0x01 => n - 1 | 0x02 => n - 1 | 0x03 => 2 | 0x04 => 1 | 0x05 => 1
  | 0x06 => 2 | 0x07 => 2 | 0x08 => 2 | 0x09 => 2 | 0x0A => 2 | 0x0B => 3 | 0x0C => 3
  | 0x10 => 2 | 0x11 => 2 | 0x12 => 1 | 0x13 => 1
  | 0x20 => 2 | 0x21 => 2 | 0x22 => 2 | 0x28 => 3 | 0x29 => 3 | 0x2A => 5 | _ => 0

/-- Fields of an operand word (Table 11.4). -/
def opKind (w : Nat) : Nat := bits w 31 30
def opDt (w : Nat) : Nat := bits w 29 28
def opBit (w : Nat) : Nat := bits w 27 25
def opLoc (w : Nat) : Nat := bits w 17 0

/-- The data types of the operands fit the type (Table 11.5): 0 BOOL, 1 INT16, 2 INT32. -/
def typesFit (t : Nat) (d : List Nat) : Bool :=
  let int (x : Nat) : Bool := x = 1 || x = 2
  match t, d with
  | 0x01, d => 3 ≤ d.length && d.length ≤ 9 && d.all (· = 0)
  | 0x02, d => 3 ≤ d.length && d.length ≤ 9 && d.all (· = 0)
  | 0x03, d => d = [0, 0, 0]
  | 0x04, d => d = [0, 0]
  | 0x05, [a, b] => a ≤ 2 && b ≤ 2 && (a = 0 || b ≠ 0)
  | 0x06, [a, b, c] => int a && a = b && b = c
  | 0x07, [a, b, c] => int a && a = b && b = c
  | 0x08, [a, b, c] => int a && a = b && b = c
  | 0x09, [a, b, c, z] => int a && a = b && b = c && z = 0
  | 0x0A, [a, b, x, y, z] => int a && a = b && x = 0 && y = 0 && z = 0
  | 0x0B, [g, a, b, c] => g = 0 && a ≤ 2 && a = b && b = c
  | 0x0C, [a, b, c, e] => int a && a = b && b = c && c = e
  | 0x10, d => d = [0, 0, 0]
  | 0x11, d => d = [0, 0, 0]
  | 0x12, d => d = [0, 0]
  | 0x13, d => d = [0, 0]
  | 0x20, d => d = [0, 2, 0, 2]
  | 0x21, d => d = [0, 2, 0, 2]
  | 0x22, d => d = [0, 2, 0, 2]
  | 0x28, d => d = [0, 0, 2, 0, 2]
  | 0x29, d => d = [0, 0, 2, 0, 2]
  | 0x2A, d => d = [0, 0, 0, 0, 2, 0, 0, 2]
  | _, _ => false

/-- The instance records, up to `n` of them, with their slots from `slot` on; the bytes that remain (R312, R315). -/
def parseInsts : Nat → Nat → Bytes → List Inst × Bytes
  | 0, _, b => ([], b)
  | n + 1, slot, b =>
    if b.length < 8 then ([], b)
    else
      let k := byteAt b 2
      if b.length < 8 + 4 * k then ([], b)
      else
        let t := byteAt b 0
        let i : Inst := ⟨t, bits (byteAt b 1) 7 6, (List.range k).map fun j => fieldAt b (8 + 4 * j) 4, fieldAt b 4 4, slot⟩
        let r := parseInsts n (slot + typeState t) (b.drop (8 + 4 * k))
        (i :: r.1, r.2)

/-- The instances of an image in evaluation order; slots stand directly after the image. -/
def insts (b : Bytes) : List Inst := (parseInsts (imNinst b) (imLen b) (sectionOf b 2)).1

/-- COST of a type in the COST section (R310). -/
def costOf (b : Bytes) (t : Nat) : Option Nat :=
  let c := sectionOf b 1
  ((List.range (c.length / 4)).find? fun i => byteAt c (4 * i) = t).map fun i => fieldAt c (4 * i + 2) 2

/-- XFER entries: NEWKEY, OLDKEY, ACTION (R324). -/
def xfers (b : Bytes) : List (Nat × Nat × Nat) :=
  let x := sectionOf b 4
  (List.range (x.length / 12)).map fun i => (fieldAt x (12 * i) 4, fieldAt x (12 * i + 4) 4, byteAt x (12 * i + 8))

def Inst.stateful (i : Inst) : Bool := typeState i.type ≠ 0

/-! Validation. -/

/-- The directory is sound (result 3). -/
def dirOk (b : Bytes) : Bool :=
  let n := imNsect b
  let ss := sections b
  2 ≤ n && n ≤ 4 && [1, 2].all (fun k => ss.any (·.kind = k))
  && ss.all (fun x => (1 ≤ x.kind && x.kind ≤ 4) || x.optional)
  && (ss.map (·.kind)).Nodup
  && ss.all (fun x => x.off % 4 = 0 && x.len % 4 = 0 && 64 + 12 * n ≤ x.off && x.off + x.len ≤ imLen b)
  && (List.range n).all fun i => (List.range i).all fun j =>
      match ss[i]?, ss[j]? with
      | some x, some y => x.len = 0 || y.len = 0 || x.off + x.len ≤ y.off || y.off + y.len ≤ x.off
      | _, _ => true

/-- A process-image location may be read (`out = false`) or written by the program (R313). -/
def locOk (w : Nat) (out : Bool) : Bool :=
  let a := opLoc w
  let al := match opDt w with | 1 => a % 2 = 0 | 2 => a % 4 = 0 | _ => true
  if out then opKind w = 0 && al && 0x10000 ≤ a else opKind w ≠ 0 || al

/-- The first instance that fails a test, by index. -/
def firstBad (is : List Inst) (bad : Inst → Bool) : Option Nat := is.findIdx? bad

/-- The first later instance that repeats a key of an earlier one. -/
def dupKey : List Nat → Nat → List Inst → Option Nat
  | _, _, [] => none
  | seen, n, i :: is =>
    if i.stateful ∧ i.key ≠ 0 then (if seen.contains i.key then some n else dupKey (i.key :: seen) (n + 1) is)
    else dupKey seen (n + 1) is

/-- RESULT and INDEX of R317 on the bytes of a bank; (0, none) where the image is valid. -/
def validateImage (bank : Memory) : Nat × Option Nat :=
  let h := bank.bytes 0 64
  if imMagic h ≠ 0x4C485047 || imFver h ≠ 1 then (1, none)
  else
    let n := imLen h
    if n % 4 ≠ 0 || n < 128 || 524288 < n then (2, none)
    else
      let b := bank.bytes 0 n
      if crc32 (b.take 40 ++ List.replicate 4 0 ++ b.drop 44) ≠ fieldAt b 40 4 then (2, none)
      else if !dirOk b then (3, none)
      else
        let blk := sectionOf b 2
        let (is, rest) := parseInsts (imNinst b) n blk
        let ops (i : Inst) := (List.range i.ops.length).zip i.ops
        match firstBad is fun i => (typeCost i.type).isNone || !bit (imMask b) i.task with
        | some k => (4, some k)
        | none =>
          match firstBad is fun i => !typesFit i.type (i.ops.map opDt) || (ops i).any fun x => opKind x.2 = 3 || (opKind x.2 = 2 && x.1 < typeInputs i.type i.ops.length) with
          | some k => (5, some k)
          | none =>
            match firstBad is fun i => (ops i).any fun x => !locOk x.2 (typeInputs i.type i.ops.length ≤ x.1) with
            | some k => (6, some k)
            | none =>
              let nc := min 65536 ((sectionOf b 3).length / 4)
              match firstBad is fun i => i.ops.any fun w => opKind w = 1 && nc ≤ opLoc w with
              | some k => (7, some k)
              | none =>
                if is.any fun i => match costOf b i.type, typeCost i.type with | some c, some l => c < l | _, _ => true then (8, none)
                else match dupKey [] 0 is with
                  | some k => (9, some k)
                  | none =>
                    if imState b ≠ (is.map fun i => typeState i.type).sum || 524288 < n + imState b then (10, none)
                    else if imNinst b = 0 || 65536 < imNinst b || is.length ≠ imNinst b || !rest.isEmpty then (11, none)
                    else
                      let xs := xfers b
                      let bad := (sectionOf b 4).length % 12 ≠ 0 || !(xs.map (·.1)).Nodup
                        || xs.any fun x => !(x.2.2 = 1 || x.2.2 = 2) || x.1 = 0 || !(is.any fun i => i.stateful && i.key = x.1)
                      if bad then (12, none) else (0, none)

/-! Evaluation. -/

/-- What an evaluation works on: the process image, the status region and the system block as the task latched them, the execution bank,
forced bits of the retained and the non-retained area, and the ranges written (region, offset, length) in the regions of R352. -/
structure Ev where
  img : ImgS
  view : Memory
  exec : Memory
  forced : List (Nat × Nat)
  wrote : List (Nat × Nat × Nat)
deriving DecidableEq, Repr

/-- Bytes at a process-image location as the program sees them (R313). -/
def Ev.bytesAt (e : Ev) (a n : Nat) : Bytes :=
  if a < 0x140 then e.view.readN a n
  else if a < 0x10000 then e.img.latched.readN a n
  else if a < 0x20000 then e.img.work.readN (a - 0x10000) n
  else if a < 0x30000 then e.img.retained.readN (a - 0x20000) n
  else e.img.nonret.readN (a - 0x30000) n

/-- The bits of byte `a` that a force holds. -/
def forcedMask (f : List (Nat × Nat)) (a : Nat) : Nat := (f.filter (·.1 = a)).foldl (fun m x => m ||| x.2) 0

/-- One byte written by the program; forced bits of the retained and the non-retained area keep their value (R326). -/
def Ev.putByte (e : Ev) (a v : Nat) : Ev :=
  if a < 0x10000 then e
  else if a < 0x20000 then { e with img.work := e.img.work.write (a - 0x10000) (BitVec.ofNat 8 v) }
  else
    let m := forcedMask e.forced a
    let old := beNat (e.bytesAt a 1)
    let b := BitVec.ofNat 8 ((old &&& m) ||| (v &&& (255 - m)))
    if a < 0x30000 then { e with img.retained := e.img.retained.write (a - 0x20000) b, wrote := (0, a - 0x20000, 1) :: e.wrote }
    else { e with img.nonret := e.img.nonret.write (a - 0x30000) b, wrote := (1, a - 0x30000, 1) :: e.wrote }

/-- Bytes written by the program from a location on. -/
def Ev.putBytes (e : Ev) (a : Nat) : Bytes → Ev
  | [] => e
  | b :: bs => Ev.putBytes (e.putByte a b.toNat) (a + 1) bs

/-- The value of an operand (Table 11.4, R311). -/
def Ev.value (e : Ev) (consts : Bytes) (w : Nat) : Int :=
  let a := opLoc w
  if opKind w = 1 then
    let c := fieldAt consts (4 * a) 4
    match opDt w with | 0 => c % 2 | 1 => signed 16 c | _ => signed 32 c
  else match opDt w with
    | 0 => b2n (bit (beNat (e.bytesAt a 1)) (opBit w))
    | 1 => signed 16 (beNat (e.bytesAt a 2))
    | _ => signed 32 (beNat (e.bytesAt a 4))

/-- A value held to the limits of a data type (R313). -/
def satTo (dt : Nat) (v : Int) : Int :=
  match dt with
  | 0 => if v = 0 then 0 else 1
  | 1 => clampInt (-32768) 32767 v
  | _ => clampInt (-2147483648) 2147483647 v

/-- An output operand takes a value. -/
def Ev.set (e : Ev) (w : Nat) (v : Int) : Ev :=
  let a := opLoc w
  let v := satTo (opDt w) v
  match opDt w with
  | 0 =>
    let old := beNat (e.bytesAt a 1)
    let m := 2 ^ opBit w
    e.putByte a (if v = 0 then old &&& (255 - m) else old ||| m)
  | 1 => e.putBytes a (natBe 2 (unsigned 16 v))
  | _ => e.putBytes a (natBe 4 (unsigned 32 v))

/-- Outputs take their values in order. -/
def Ev.setAll (e : Ev) : List Nat → List Int → Ev
  | w :: ws, v :: vs => Ev.setAll (e.set w v) ws vs
  | _, _ => e

/-- A slot's first word and flag byte: a latch and an edge detector hold their bit in byte 0, a timer or counter a word and flags. -/
def Ev.slot (e : Ev) (i : Inst) : Int × Nat :=
  if typeState i.type = 4 then (0, byteAt (e.exec.readN i.slot 1) 0 % 2)
  else (signed 32 (beNat (e.exec.readN i.slot 4)), byteAt (e.exec.readN (i.slot + 4) 1) 0)

/-- The slot as stored; the remaining bytes are 0 (R315). -/
def slotBytes (type : Nat) (v : Int) (fl : Nat) : Bytes :=
  if typeState type = 4 then natBe 1 fl ++ natBe 3 0 else natBe 4 (unsigned 32 v) ++ natBe 1 fl ++ natBe 3 0

def Ev.setSlot (e : Ev) (base : Nat) (i : Inst) (v : Int) (fl : Nat) : Ev :=
  { e with exec := e.exec.writeAll i.slot (slotBytes i.type v fl), wrote := (3, i.slot - base, typeState i.type) :: e.wrote }

/-- Outputs and new slot (word, flags) of an instance from its inputs, its slot, Δ in µs (Table 11.5). -/
def evalType (t : Nat) (x : List Int) (v : Int) (fl : Nat) (dt : Int) : List Int × Int × Nat :=
  let i (k : Nat) : Int := x.getD k 0
  let on (k : Nat) : Bool := i k ≠ 0
  let q (b : Bool) : Int := b2n b
  let mem (k : Nat) : Bool := bit fl k
  let pt : Int := max 0 (i 1)
  let flags (a b c : Bool) : Nat := b2n a + 2 * b2n b + 4 * b2n c
  match t with
  | 0x01 => ([q (x.all (· ≠ 0))], v, fl)
  | 0x02 => ([q (x.any (· ≠ 0))], v, fl)
  | 0x03 => ([q (on 0 != on 1)], v, fl)
  | 0x04 => ([q (!on 0)], v, fl)
  | 0x05 => ([i 0], v, fl)
  | 0x06 => ([i 0 + i 1], v, fl)
  | 0x07 => ([i 0 - i 1], v, fl)
  | 0x08 => ([i 0 * i 1], v, fl)
  | 0x09 => if i 1 = 0 then ([0, 1], v, fl) else ([tdivI (i 0) (i 1), 0], v, fl)
  | 0x0A => ([q (i 1 < i 0), q (i 0 = i 1), q (i 0 < i 1)], v, fl)
  | 0x0B => ([if on 0 then i 2 else i 1], v, fl)
  | 0x0C => ([min (max (i 1) (i 0)) (i 2)], v, fl)
  | 0x10 => let r := on 0 || (mem 0 && !on 1); ([q r], v, b2n r)
  | 0x11 => let r := !on 1 && (on 0 || mem 0); ([q r], v, b2n r)
  | 0x12 => ([q (on 0 && !mem 0)], v, b2n (on 0))
  | 0x13 => ([q (!on 0 && mem 0)], v, b2n (on 0))
  | 0x20 =>
    let et := if on 0 then min (v + dt) pt else 0
    let r := on 0 && pt ≤ et
    ([q r, et], et, flags r false (on 0))
  | 0x21 =>
    if on 0 then ([1, 0], 0, flags true false true)
    else if mem 0 then
      let et := min (v + dt) pt
      ([q (et < pt), et], et, flags (et < pt) false false)
    else ([0, v], v, flags false false false)
  | 0x22 =>
    let edge := on 0 && !mem 2
    if mem 1 then
      let et := min (v + dt) pt
      let go : Bool := et < pt
      ([q go, et], et, flags go go (on 0))
    else if edge then ([1, 0], 0, flags true true true)
    else
      let et := if on 0 then v else 0
      ([0, et], et, flags false false (on 0))
  | 0x28 =>
    let pv := max 0 (i 2)
    let cv := if on 1 then 0 else if on 0 && !mem 0 then satTo 2 (v + 1) else v
    ([q (pv ≤ cv), cv], cv, flags (on 0) false false)
  | 0x29 =>
    let pv := max 0 (i 2)
    let cv := if on 1 then pv else if on 0 && !mem 1 then satTo 2 (v - 1) else v
    ([q (cv ≤ 0), cv], cv, flags false (on 0) false)
  | 0x2A =>
    let pv := max 0 (i 4)
    let up := on 0 && !mem 0
    let dn := on 1 && !mem 1
    let cv := if on 2 then 0 else if on 3 then pv else if up && !dn then satTo 2 (v + 1) else if dn && !up then satTo 2 (v - 1) else v
    ([q (pv ≤ cv), q (cv ≤ 0), cv], cv, flags (on 0) (on 1) false)
  | _ => ([], v, fl)

/-- Flag bit of a slot that remembers input `k` of a type, for the edge-sensitive inputs of R324. -/
def edgeBit (t k : Nat) : Option Nat :=
  match t, k with
  | 0x12, 0 => some 0 | 0x13, 0 => some 0 | 0x22, 0 => some 2 | 0x28, 0 => some 0 | 0x29, 0 => some 1
  | 0x2A, 0 => some 0 | 0x2A, 1 => some 1 | _, _ => none

/-- Flag bit `k` set to `b`. -/
def putFlag (fl k : Nat) (b : Bool) : Nat := if b then fl ||| 2 ^ k else fl - (fl &&& 2 ^ k)

/-- One instance is evaluated; `sync` are the inputs whose memory first takes the value read (R324). -/
def Ev.inst (consts : Bytes) (base : Nat) (dt : Int) (sync : List Nat) (e : Ev) (i : Inst) : Ev :=
  let k := typeInputs i.type i.ops.length
  let x := (i.ops.take k).map (e.value consts)
  let (v, fl) := e.slot i
  let fl := sync.foldl (fun fl j => match edgeBit i.type j with
    | some b => putFlag fl b (x.getD j 0 ≠ 0)
    | none => fl) fl
  let (out, v', fl') := evalType i.type x v fl dt
  let e := if i.stateful then e.setSlot base i v' fl' else e
  e.setAll (i.ops.drop k) out

/-- Block instances, each with its index, evaluated one after the other (R312). -/
def Ev.blocks (b : Bytes) (dt : Int) (resync : List (Nat × Nat)) (e : Ev) (is : List (Nat × Inst)) : Ev :=
  is.foldl (fun e x => e.inst (sectionOf b 3) (imLen b) dt ((resync.filter (·.1 = x.1)).map (·.2)) x.2) e

/-- The instances of task `n` from index `from_` on, in evaluation order, each with its index (R312). -/
def instsOf (b : Bytes) (n from_ : Nat) : List (Nat × Inst) :=
  let is := insts b
  ((List.range is.length).zip is).filter fun x => from_ ≤ x.1 && x.2.task = n

end Sys2Proof.Machine
end

