-- ==== Sys2Proof/Machine/Store.lean ====
section
/-! DEFINITION. Writing a register word field by field under the access codes of Table 00.1 (R3, R501), the word a register holds,
interrupt flags (R455), posted writes (R4). -/

namespace Sys2Proof.Machine

/-- The bits of the word `v` that the field covers. -/
def Fld.of (f : Fld) (v : Nat) : Nat := v / 2 ^ f.lo % 2 ^ f.width

namespace State

/-- The EN bit that governs the RWG fields at `a` stands at 1. -/
def enAt (s : State) (a : Nat) : Bool := match enOf a with | some f => s.flag f | none => false

/-- One field takes its bits of the word; `ok` admits the register's RWG fields. -/
def storeField (ok : Bool) (v : Nat) (s : State) (f : Fld) : State :=
  match f.acc with
  | .rw => s.put f (f.of v)
  | .rwg => if ok then s.put f (f.of v) else s
  | .w1c => s.put f (s.get f &&& ((f.of v) ^^^ (2 ^ f.width - 1)))
  | _ => s

/-- A word written to the register at `a` stores or ignores each field by its access code; RWG fields are judged against EN as it
stood before (R3, R501). -/
def storeWord (s : State) (a v : Nat) : State :=
  let fs := fieldsAt a
  let changes := fs.any fun f => f.acc = .rwg && s.get f ≠ f.of v
  let refused := s.enAt a && changes
  let s' := fs.foldl (storeField (!refused) v) s
  let s' := if fs.any (fun f => f.stored && s'.get f ≠ s.get f) then s'.dirtyCfg else s'
  (if refused then s'.setOpt (wignOf a) else s').refreshFault

/-- The copies of the voted register at `a`. -/
def votedAt (s : State) (a : Nat) : Option Voted :=
  if a = 0xD000C then some s.glb.auth else if a = 0x100 then some s.glb.pace else if a = 0x108 then some s.glb.emc else none

/-- The copies of the voted register at `a` replaced. -/
def setVoted (s : State) (a : Nat) (v : Voted) : State :=
  if a = 0xD000C then { s with glb.auth := v }
  else if a = 0x100 then { s with glb.pace := v }
  else if a = 0x108 then { s with glb.emc := v }
  else s

/-- A read of a voted register: the majority, a disagreeing copy rewritten and counted, 0x0F03 with the offset at most once per
register and second, copy 0 and GLB_FAULT.RWV where all three disagree (R458). -/
def readVoted (s : State) (a : Nat) : State :=
  match s.votedAt a with
  | none => s
  | some v =>
    let m := v.value
    if v = Voted.all m then s
    else
      let n := b2n (v.c0 ≠ m) + b2n (v.c1 ≠ m) + b2n (v.c2 ≠ m)
      let s' := ((s.setVoted a (Voted.all m)).bumpBy Reg.GLB_RWVCNT.COUNT n).recordSec 0x0F03 a (natBe 4 a)
      if v.c0 ≠ v.c1 ∧ v.c0 ≠ v.c2 ∧ v.c1 ≠ v.c2 then s'.fault Reg.GLB_FAULT.RWV else s'

/-- The bits of the word at `a` that Table 09.3 does not reserve, for the filter-rule words W0 to W3 and for CONS_DEFA and CONS_DEFB,
which have their layouts; every bit elsewhere. -/
def openBits (a : Nat) : Nat :=
  let o := (a - 0x70000) % 0x4000
  if a / 0x10000 ≠ 7 then 0xFFFFFFFF
  else if o = 0x28 || (0x400 ≤ o && o < 0x800 && o % 16 = 8) then 0xFFF00000
  else if o = 0x2C || (0x400 ≤ o && o < 0x800 && o % 16 = 12) then 0xFFFF1F00
  else if 0x400 ≤ o && o < 0x800 && o % 16 = 0 then 0xFFFFEFFF
  else if 0x400 ≤ o && o < 0x800 && o % 16 = 4 then 0xFC000000
  else 0xFFFFFFFF

/-- The word that the fields of the register at `a` hold; WO fields and reserved bits read 0 (R3, R6). -/
def wordAt (s : State) (a : Nat) : Nat :=
  let v := ((s.votedAt a).map Voted.value).getD 0
  openBits a &&& ((fieldsAt a).map fun f => match f.acc with
    | .wo => 0
    | .rwv => f.of v * 2 ^ f.lo
    | _ => s.get f * 2 ^ f.lo).sum

/-- Bits of the IRQ register at `a` are cleared where the word has ones; a vector that stays pending resends its message (R455). -/
def clearIrq (s : State) (a v : Nat) : State :=
  let fs := (fieldsAt a).filter (·.acc = .w1c)
  let hit := fs.filter fun f => f.of v ≠ 0 && s.get f ≠ 0
  let s := hit.foldl (fun s f => s.put f 0) s
  let vecs := (hit.map vecOf).dedup
  vecs.foldl (fun s v => if s.vecPending v then s.signal v else
    { s with msix.pba := s.msix.pba.filter (· ≠ v) }.refreshInta) s

/-- The flag BUSY of the write posted at `a`, or that of its block. -/
def busyAt (s : State) (a : Nat) : Bool := match busyOf a with | some f => s.flag f | none => false

/-- A WP write is posted, or ignored with WIGN while BUSY is 1 (R4). -/
def post (s : State) (a v : Nat) : State :=
  if s.busyAt a then s.setOpt (wignOf a)
  else { s with glb.posted := s.glb.posted ++ [(a, v)] }.setOpt (busyOf a)

/-- A flag cleared where the block has it. -/
def clearOpt (s : State) (f : Option Fld) : State := match f with | some g => s.put g 0 | none => s

end State

end Sys2Proof.Machine
end

