-- ==== Sys2Proof/Machine/Force.lean ====
section
/-! DEFINITION. Forcing (R325 to R330): the force table, where its entries act, its mailbox; ranges of tasks (R284). -/

namespace Sys2Proof.Machine

/-- Fields of a force entry (Table 11.10). -/
def fcAddr (e : Bytes) : Nat := fieldAt e 0 4 % 2 ^ 18
def fcEn (e : Bytes) : Bool := bit (byteAt e 4) 7
def fcBit (e : Bytes) : Nat := bits (byteAt e 4) 6 4
def fcWidth (e : Bytes) : Nat := byteAt e 4 % 4
def fcValue (e : Bytes) : Nat := fieldAt e 8 4
/-- Bytes that the location takes. -/
def fcSize (e : Bytes) : Nat := match fcWidth e with | 2 => 2 | 3 => 4 | _ => 1

/-- The forced bits of an entry: byte address, mask, value. -/
def fcBits (e : Bytes) : List (Nat × Nat × Nat) :=
  if fcWidth e = 0 then [(fcAddr e, 2 ^ fcBit e, fcValue e % 2 * 2 ^ fcBit e)]
  else
    let v := natBe (fcSize e) (fcValue e)
    (List.range (fcSize e)).map fun i => (fcAddr e + i, 255, byteAt v i)

/-- Two locations overlap. -/
def fcOverlap (x y : Bytes) : Bool := (fcBits x).any fun a => (fcBits y).any fun b => a.1 = b.1 && (a.2.1 &&& b.2.1) ≠ 0

/-- Forced bits put into a memory that stands at `base`, within [lo, hi) of the process image. -/
def applyBits (m : Memory) (base lo hi : Nat) (fs : List (Nat × Nat × Nat)) : Memory :=
  fs.foldl (fun m f =>
    if lo ≤ f.1 ∧ f.1 < hi then
      let o := f.1 - base
      m.write o (BitVec.ofNat 8 (((m.read o).toNat &&& (255 - f.2.1)) ||| f.2.2))
    else m) m

namespace State

/-- Task `n` is enabled; its ranges in the process image as start and length. -/
def taskOn (s : State) (n : Nat) : Bool := s.flag (Reg.CYCL_TASK.TEN.ix n)
def taskIn (s : State) (n : Nat) : Nat × Nat := (64 * s.get (Reg.CYCL_TIN.START.ix n), s.tinLen n)
def taskOut (s : State) (n : Nat) : Nat × Nat := (0x10000 + 64 * s.get (Reg.CYCL_TOUT.START.ix n), s.toutLen n)

/-- Forced bits in effect. -/
def forces (s : State) : List (Nat × Nat × Nat) := s.prg.forceOn.flatMap fcBits
def anyForce (s : State) : Bool := !s.prg.forceOn.isEmpty

/-- Forced bits of the retained and the non-retained area, as byte and mask. -/
def forcedMem (s : State) : List (Nat × Nat) := (s.forces.filter fun f => 0x20000 ≤ f.1).map fun f => (f.1, f.2.1)

/-- The force table takes effect (R326). -/
def applyForceTable (s : State) : State :=
  { s with prg.forceOn := (s.prg.force.map (·.2)).filter fcEn }

/-- FRC_STAT.NACT. -/
def refreshNact (s : State) : State := s.put Reg.FRC_STAT.NACT (s.prg.force.filter fun e => fcEn e.2).length

/-- A force store that R325 or R327 refuses: its FRES code. -/
def forceCause (s : State) (i : Nat) (e : Bytes) : Nat :=
  if !fcEn e then 0
  else if s.get Reg.CYCL_STAT.KEY = 1 then 1
  else if s.prg.force.any fun x => x.1 ≠ i && fcEn x.2 && fcOverlap x.2 e then 2
  else
    let a := fcAddr e
    let n := fcSize e
    if 0x100 ≤ a ∧ a < 0x140 then 3
    else if a % n ≠ 0 then 4
    else if 0x10000 ≤ a ∧ a < 0x20000 ∧
        !((List.range 4).any fun t => s.taskOn t && (s.taskOut t).1 ≤ a && a + n ≤ (s.taskOut t).1 + (s.taskOut t).2) then 5
    else 0

/-- Every entry is cleared (R330). -/
def clearForces (s : State) : State := (({ s with prg.force := [] }.record 0x0919).refreshNact).put Reg.FRC_STAT.VALID 0

/-- A store of an entry (R325, R330). -/
def storeForce (s : State) (i : Nat) (e : Bytes) : State :=
  let c := s.forceCause i e
  let s := s.put Reg.FRC_STAT.FRES c
  if c ≠ 0 then (s.raise Reg.PRG_IRQ.FREF).record 0x091A (natBe 1 c)
  else
    let rest := s.prg.force.filter (·.1 ≠ i)
    let s : State := { s with prg.force := if e.all (· = 0) then rest else rest ++ [(i, e)] }
    let s := s.refreshNact
    if fcEn e then s.record 0x0917 (natBe 4 (fcAddr e) ++ natBe 1 (fcWidth e) ++ natBe 1 (fcBit e) ++ natBe 4 (fcValue e))
    else s.record 0x0918 (natBe 4 (fcAddr e))

/-- The 16 bytes in FRC_D0 to FRC_D3. -/
def frcBytes (s : State) : Bytes :=
  natBe 4 (s.get Reg.FRC_D0.DATA) ++ natBe 4 (s.get Reg.FRC_D1.DATA) ++ natBe 4 (s.get Reg.FRC_D2.DATA) ++ natBe 4 (s.get Reg.FRC_D3.DATA)

/-- A write of FRC_SEL takes effect (Table 11.14). -/
def frcSel (s : State) (v : Nat) : State :=
  let s := ((s.put Reg.FRC_SEL.CLRALL (Reg.FRC_SEL.CLRALL.of v)).put Reg.FRC_SEL.WR (Reg.FRC_SEL.WR.of v)).put Reg.FRC_SEL.INDEX (Reg.FRC_SEL.INDEX.of v)
  let i := s.get Reg.FRC_SEL.INDEX
  if s.flag Reg.FRC_SEL.CLRALL then (s.put Reg.FRC_STAT.FRES 0).clearForces
  else if s.flag Reg.FRC_SEL.WR then (s.storeForce i s.frcBytes).put Reg.FRC_STAT.VALID 0
  else
    let b := ((s.prg.force.find? (·.1 = i)).map (·.2)).getD (List.replicate 16 0)
    let s := (s.put Reg.FRC_D0.DATA (fieldAt b 0 4)).put Reg.FRC_D1.DATA (fieldAt b 4 4)
    ((s.put Reg.FRC_D2.DATA (fieldAt b 8 4)).put Reg.FRC_D3.DATA (fieldAt b 12 4)).put Reg.FRC_STAT.VALID 1

/-- A write posted at `a` that waits for nothing: ignored with WIGN while BUSY is 1 (R4). -/
def posted (s : State) (a : Nat) (f : State → State) : State := if s.busyAt a then s.setOpt (wignOf a) else f s

end State

/-- FORCE_ENTRY_STORE (R325). -/
def execForceEntryStore (value : Word) (s : State) : Host.Outcome State Fault Refusal := live s fun s => done (s.posted 0x80170 (·.frcSel value.toNat))

/-- FORCE_CLEAR_ALL (R330). -/
def execForceClearAll (value : Word) (s : State) : Host.Outcome State Fault Refusal := live s fun s => done (s.posted 0x80170 (·.frcSel value.toNat))

/-- FORCE_ENTRY_LOAD (R330). -/
def execForceEntryLoad (value : Word) (s : State) : Host.Outcome State Fault Refusal := live s fun s => done (s.posted 0x80170 (·.frcSel value.toNat))

end Sys2Proof.Machine
end

