-- ==== Sys2Proof/Machine/Claim.lean ====
section
/-! DEFINITION. Claims of a twin half (R338 to R346): taking, yielding, what each cycle boundary decides; the mirror written at a
takeover (R344). -/

namespace Sys2Proof.Machine

/-- Epoch and rank of a claim (R338). -/
def claimEpoch (c : Nat) : Nat := c / 65536
def claimRank (c : Nat) : Nat := c % 65536

namespace State

/-- The rank of this node (R338). -/
def ownRank (s : State) : Nat := (if s.twinOn && s.half = 1 then 0 else 0x8000) + s.uid % 2 ^ 15

/-- The claim in force; 0: none. -/
def claim (s : State) : Nat := s.get Reg.TWIN_CLAIM.VALUE

/-- E takes in the epoch of a claim seen (R339). -/
def noteEpoch (s : State) (c : Nat) : State :=
  s.put Reg.TWIN_RANK.EPOCH (max (s.get Reg.TWIN_RANK.EPOCH) (claimEpoch c))

/-- TSTATE, with TWIN_IRQ.STATE where it changes. -/
def setTstate (s : State) (c : Nat) : State :=
  if s.get Reg.TWIN_STAT.TSTATE = c then s else (s.put Reg.TWIN_STAT.TSTATE c).raise Reg.TWIN_IRQ.STATE

/-- ROLEACT: this half acts the roles of its position (R355). -/
def refreshRole (s : State) : State := s.putB Reg.TWIN_STAT.ROLEACT s.holdsClaim

/-- A new claim under R339. -/
def newClaim (s : State) : State :=
  let e := s.get Reg.TWIN_RANK.EPOCH
  let s := if e = 0xFFFF then s.record 0x0A07 else s
  let c := min (e + 1) 0xFFFF * 65536 + s.ownRank
  ((s.put Reg.TWIN_CLAIM.VALUE c).noteEpoch c).refreshRole

/-- A half takes a claim, cause 1 start, 2 takeover, 3 release, 4 command, 5 verdict (R340, R341, R343, R346, R351, R354, R359). -/
def takeClaim (s : State) (cause : Nat) : State :=
  let s := s.newClaim
  let s := ((s.bump Reg.TWIN_TAKES.COUNT).raise Reg.TWIN_IRQ.TAKE).record 0x0A04 (natBe 4 s.claim ++ natBe 1 cause)
  let s := if !s.flag Reg.TWIN_STAT.MIRCONS || s.twin.applied.isNone then s.record 0x0A0A else s
  let s : State := { s with twin := { s.twin with fill := true, ackRel := none, fullDue := false }
                            sched.seqs := s.sched.seqs.map fun (q : Nat × Nat × Nat × Nat) => (q.1, q.2.1, (q.2.2.1 + 1023) % 2 ^ 32, q.2.2.2) }
  s.setTstate (if s.partnerPresent then 3 else 2)

/-- A half that becomes STANDBY after it held a claim asks for a full resend of the mirror (R353, Table 12.5). -/
def needFull (s : State) : State := (s.put Reg.TWIN_STAT.NEEDFULL 1).put Reg.TWIN_STAT.MIRCONS 0

/-- The release exchange ends at the holder (R346). -/
def endRelease (s : State) : State :=
  { (s.put Reg.TWIN_STAT.RELPEND 0).put Reg.TWIN_RELCYC.RELCYC 0 with twin.ackGot := false }

/-- A half yields its claim, cause 1 heartbeat, 2 station, 3 verdict, 4 release, 5 EN (R342); a release that is pending ends with it (R346). -/
def yieldClaim (s : State) (cause : Nat) : State :=
  let s := if s.flag Reg.TWIN_STAT.RELPEND then s.endRelease else s
  let s := (s.put Reg.TWIN_CLAIM.VALUE 0).refreshRole
  let s := ((s.bump Reg.TWIN_YIELDS.COUNT).raise Reg.TWIN_IRQ.YIELD).record 0x0A05 (natBe 1 cause)
  if s.get Reg.TWIN_STAT.TSTATE = 3 || s.partnerPresent then (s.needFull).setTstate 4 else s.setTstate 5

/-- A claim is to be yielded at the next boundary, for a cause (R342); another cause while one is due is a second fault (R475). -/
def dueYield (s : State) (cause : Nat) : State :=
  match s.twin.yieldDue with
  | none => { s with twin.yieldDue := some cause }
  | some c => if c = cause then s else s.secondFault 0x0A05 0x0A05

/-- A station reports a claim (R304, R342); a stack member, which has its master's claim, tells the master (R16, log entry 26). -/
def stationClaim (s : State) (c : Nat) : State :=
  let s := (s.noteEpoch c).put Reg.TWIN_HCLAIM.VALUE (max c (s.get Reg.TWIN_HCLAIM.VALUE))
  if s.claim = 0 || c ≤ s.claim then s
  else if s.stackId ≠ 0 then s.stackMsg 0 13 (natBe 4 c)
  else if claimRank c = s.ownRank then { s with twin.renew := true }
  else if s.twinOn then s.dueYield 2
  else s

/-- A release that the standby has acknowledged ends with the boundary RELCYC, whether or not the claim was taken there (R346). -/
def dropAck (s : State) : State :=
  { s with twin.ackRel := s.twin.ackRel.filter fun r => decide (0 < sdiff32 r s.cyc) && decide (sdiff32 r s.cyc ≤ 8) }

/-- The claim that a boundary takes, yields or keeps (R339 to R346); `noon` where it is the first Noon of the time session. -/
def judgeClaim (s : State) (noon : Bool) : State :=
  if !s.twinOn then
    let s := if noon && s.claim = 0 then s.newClaim else s
    if s.twin.renew then ({ s with twin.renew := false }.newClaim).record 0x0A06 else s
  else
    let en := s.flag Reg.TWIN_CTRL.EN
    let t := s.twin
    let s : State := { s with twin := { s.twin with yieldDue := none, takeDue := none, renew := false, takeover := false } }
    let rel := s.get Reg.TWIN_RELCYC.RELCYC
    let pend := s.flag Reg.TWIN_STAT.RELPEND
    if s.claim ≠ 0 then
      if !en then s.yieldClaim 5
      else match t.yieldDue with
        | some c => s.yieldClaim c
        | none =>
          if pend && t.ackGot && s.cyc = rel then s.yieldClaim 4
          else
            let s := if pend && -1 ≤ sdiff32 s.cyc rel && (!t.ackGot || 0 < sdiff32 s.cyc rel) then s.endRelease else s
            if t.renew then (((s.newClaim).bump Reg.TWIN_TAKES.COUNT).raise Reg.TWIN_IRQ.TAKE).record 0x0A06 else s
    else if !en then s
    else if t.ackRel = some s.cyc then ({ s with twin.ackRel := none }).takeClaim 3
    else if t.takeover && !s.partnerPresent && s.get Reg.TWIN_STAT.TSTATE = 4 then s.takeClaim 2
    else match t.takeDue with
      | some c => s.takeClaim c
      | none =>
        if noon then
          let st := s.get Reg.TWIN_STAT.TSTATE
          if st = 2 || (st = 4 && s.half = 0 && s.get Reg.TWIN_PCLAIM.VALUE = 0) then s.takeClaim 1 else s
        else s

/-- What a boundary decides about the claim and the release. -/
def claimBoundary (s : State) (noon : Bool) : State := (s.judgeClaim noon).dropAck

/-- The active and the inactive bank. -/
def bank (s : State) (n : Nat) : BankS := if n = 0 then s.prg.a else s.prg.b
def onBank (s : State) (n : Nat) (f : BankS → BankS) : State :=
  if n = 0 then { s with prg.a := f s.prg.a } else { s with prg.b := f s.prg.b }
def actBank (s : State) : Nat := s.get Reg.PRG_STAT.ACTB
def inaBank (s : State) : Nat := 1 - s.actBank

/-- The active image's bytes, where it is validated. -/
def image? (s : State) : Option Bytes :=
  let b := s.bank s.actBank
  if b.valid then some (b.exec.bytes 0 (imLen (b.exec.bytes 0 64))) else none

/-- The mirror store is written into the areas of R352 (R344), whose blocks this half, now the holder, marks dirty (R352). -/
def fillMirror (s : State) : State :=
  if !s.twin.fill then s
  else
    let s : State := { s with twin.fill := false }
    s.twin.store.foldl (fun s x =>
      let o := x.1 % 2 ^ 20
      match x.1 / 2 ^ 28 with
      | 0 => ({ s with img.retained := s.img.retained.writeAll o x.2 } : State).markDirty 0 o x.2.length
      | 1 => ({ s with img.nonret := s.img.nonret.writeAll o x.2 } : State).markDirty 1 o x.2.length
      | 2 => ({ s with img.comm := s.img.comm.writeAll o x.2 } : State).markDirty 2 o x.2.length
      | _ =>
        if !s.flag Reg.TWIN_STAT.MIRSLOT then s
        else match s.image? with
          | some b => (s.onBank s.actBank fun k => { k with exec := k.exec.writeAll (imLen b + o) x.2 }).markDirty 3 o x.2.length
          | none => s) s

end State

end Sys2Proof.Machine
end

