-- ==== Sys2Proof/Machine/Evaluate.lean ====
section
/-! DEFINITION. Evaluation block by block (R283): the tasks of the engine, the blocks that an instance still has to evaluate, and how far the
running task has come. -/

namespace Sys2Proof.Machine

namespace State

/-- Task `n` of the engine. -/
def task (s : State) (n : Nat) : TaskS := s.eng.tasks[n]?.getD {}
def onTask (s : State) (n : Nat) (f : TaskS → TaskS) : State :=
  { s with eng.tasks := s.eng.tasks.setIfInBounds n (f (s.task n)) }

/-- T in force in ns. -/
def tNs (s : State) : Nat := s.tLen / 16

/-- The engine evaluates (ESTATE RUN). -/
def engineRuns (s : State) : Bool := s.get Reg.CYCL_STAT.ESTATE = 2

/-- The blocks that the instance of task `n` in progress has not evaluated yet. -/
def blocksLeft (s : State) (b : Bytes) (n : Nat) : List (Nat × Inst) := instsOf b n (s.task n).next

/-- Task `n` evaluates blocks of its instance, in their order (R312, R314). -/
def evalBlocks (s : State) (b : Bytes) (n : Nat) (is : List (Nat × Inst)) : State :=
  let t := s.task n
  let dt : Int := if t.first then 0 else (s.taskPeriod n * s.tNs / 1000 : Nat)
  let e : Ev := { img := s.img, view := t.view, exec := (s.bank s.actBank).exec, forced := s.forcedMem, wrote := [] }
  let e := e.blocks b dt s.prg.resync is
  let s : State := { s with img := e.img, prg.resync := s.prg.resync.filter fun x => !(is.any (·.1 = x.1)) }
  let s := s.onBank s.actBank fun k => { k with exec := e.exec }
  let s := e.wrote.foldl (fun s (w : Nat × Nat × Nat) => s.markDirty w.1 w.2.1 w.2.2) s
  s.onTask n fun t => { t with next := (is.getLast?).elim t.next (·.1 + 1) }

/-- The task that evaluates: the highest in priority of those with an instance in progress (R283). -/
def evaluating (s : State) : Option Nat := if s.engineRuns then (List.range 4).find? fun n => (s.task n).run else none

/-- Evaluation has gone on up to here: the task that evaluates has come by a free number of blocks further (R283, log entry 22). Called
wherever memory that tasks share is written from elsewhere or read, and before a release that may preempt. -/
def progress (s : State) : State :=
  match s.evaluating, s.image? with
  | some n, some b =>
    let is := s.blocksLeft b n
    if is.isEmpty then s
    else
      let q := s.freshFree
      q.2.evalBlocks b n (is.take (q.1 % (is.length + 1)))
  | _, _ => s

end State

end Sys2Proof.Machine
end

