-- ==== Sys2Proof/Machine/Budget.lean ====
section
/-! DEFINITION. Start conditions of the cycle engine: task ranges (R284), station entries (R297), the budget check (R290, R291), the order of
task periods (R282). -/

namespace Sys2Proof.Machine

/-- Fields of a station entry (Table 10.8). -/
def seMac (e : Bytes) : Nat := fieldAt e 0 6
def seEn (e : Bytes) : Bool := bit (byteAt e 6) 7
def sePort (e : Bytes) : Nat := bits (byteAt e 6) 6 5
def seTask (e : Bytes) : Nat := bits (byteAt e 6) 4 3
def seHold (e : Bytes) : Bool := bit (byteAt e 6) 2
def seSafeHold (e : Bytes) : Bool := bit (byteAt e 6) 1
def seAccWin (e : Bytes) : Nat := if byteAt e 7 = 0 then 16 else byteAt e 7
def seIn (e : Bytes) : Nat := 4 * fieldAt e 8 2
def seOut (e : Bytes) : Nat := 4 * fieldAt e 10 2
def seInLen (e : Bytes) : Nat := 4 * byteAt e 12
def seOutLen (e : Bytes) : Nat := 4 * byteAt e 13
def seTxOff (e : Bytes) : Nat := max 20 (fieldAt e 14 2)
def seIndly (e : Bytes) : Nat := fieldAt e 16 2
def seParLen (e : Bytes) : Nat := min 448 (fieldAt e 18 2)
def seParOff (e : Bytes) : Nat := fieldAt e 20 4
def seTag (e : Bytes) : Nat := fieldAt e 24 4

/-- [a, a + n) lies inside [lo, lo + len); empty data lie inside any range. -/
def inside (a n lo len : Nat) : Bool := n = 0 || (lo ≤ a && a + n ≤ lo + len)

/-- Two ranges share a byte. -/
def rangesMeet (x y : Nat × Nat) : Bool := 0 < x.2 && 0 < y.2 && x.1 < y.1 + y.2 && y.1 < x.1 + x.2

namespace State

/-- Enabled tasks, in rising order. -/
def tasksOn (s : State) : List Nat := (List.range 4).filter s.taskOn

/-- COMMITOFF in ns, held to 10 µs to T − 10 µs (R291). -/
def commitNs (s : State) : Nat := 1000 * clampNat 10 (s.tNs / 1000 - 10) (s.get Reg.CYCL_TIMING.COMMITOFF)

/-- Every range of the enabled tasks keeps R284. -/
def rangesOk (s : State) : Bool :=
  let ts := s.tasksOn
  ts.all (fun n => 320 ≤ (s.taskIn n).1 && (s.taskIn n).1 + (s.taskIn n).2 ≤ 0x10000 && (s.taskOut n).1 + (s.taskOut n).2 ≤ 0x20000)
  && ts.all fun n => ts.all fun m => n = m || (!rangesMeet (s.taskIn n) (s.taskIn m) && !rangesMeet (s.taskOut n) (s.taskOut m))

/-- A station entry is valid (R297); its task is enabled and its tag is not 0. -/
def stationOk (s : State) (e : Bytes) : Bool :=
  let n := seTask e
  s.taskOn n && inside (seIn e) (seInLen e) (s.taskIn n).1 (s.taskIn n).2
  && inside (0x10000 + seOut e) (seOutLen e) (s.taskOut n).1 (s.taskOut n).2
  && seParOff e + seParLen e ≤ 0x10000 && seTxOff e * 100 < s.tNs - s.commitNs && seTag e ≠ 0

/-- The entry in force of a station, 32 bytes; none where nothing was stored. -/
def stations (s : State) : List (Nat × StationS) := s.eng.stations
def station? (s : State) (n : Nat) : Option StationS := (s.eng.stations.find? (·.1 = n)).map (·.2)
def onStation (s : State) (n : Nat) (f : StationS → StationS) : State :=
  { s with eng.stations := s.eng.stations.map fun x => if x.1 = n then (n, f x.2) else x }

/-- A schedule is in force and a claim is held (Table 01.7, R344): at a stack member those of its master (R16, R428). -/
def mayRun (s : State) : Bool := s.cycRun && s.claim ≠ 0 && (if s.stackId = 0 then s.inau.force.isSome else s.brdg.onTrain)

/-- t_L of a station in this cycle (Table 10.4). -/
def launchAt (s : State) (e : Bytes) : Nat := s.bnd + ns s.commitNs + ns (100 * seTxOff e)

/-- Every enabled station entry is valid. -/
def stationsOk (s : State) : Bool := s.eng.stations.all fun x => !seEn x.2.entry || s.stationOk x.2.entry

/-- The periods of the enabled tasks do not decrease with the task number. -/
def orderOk (s : State) : Bool :=
  s.tasksOn.all fun n => s.tasksOn.all fun m => !(n < m) || s.taskPeriod n ≤ s.taskPeriod m

/-- U_n and the largest cost of one block instance of task `n` (R290, R310). -/
def taskCosts (b : Bytes) (n : Nat) : Nat × Nat :=
  let cs := ((insts b).filter (·.task = n)).map fun i => (costOf b i.type).getD 0
  (cs.sum, cs.foldl max 0)

/-- C_n(1.55) in 1/10000 ns. -/
def taskC (s : State) (b : Bytes) (n : Nat) : Nat :=
  124000 * (taskCosts b n).1 + 3875 * (s.tinLen n + s.toutLen n + 320) + 4650000

/-- C_n, D_n and W_n of an enabled task in 1/10000 ns; `extra` is added to the demand (R290, R321). -/
def taskBudget (s : State) (b : Bytes) (extra n : Nat) : Nat × Nat × Nat :=
  let ts := s.tasksOn
  let p := s.taskPeriod n
  let k := ((ts.filter (n < ·)).map fun j => (taskCosts b j).2).foldl max 0
  let d := ((ts.filter (· ≤ n)).map fun j => p * s.taskC b j / s.taskPeriod j).sum + 124000 * k + extra
  (s.taskC b n, d, ((p - 1) * s.tNs + s.commitNs) * 10000)

/-- The check passes. -/
def budgetOk (s : State) (b : Bytes) (extra : Nat) : Bool :=
  s.tasksOn.all fun n => let x := s.taskBudget b extra n; x.2.1 ≤ x.2.2

/-- The check on the image `b`, shown in CYCL_COSTn, CYCL_DEMn and CYCL_WINn; a task that is not enabled shows 0. -/
def showBudget (s : State) (b : Bytes) : State :=
  (List.range 4).foldl (fun s n =>
    let x := if s.taskOn n then s.taskBudget b 0 n else (0, 0, 0)
    ((s.put (Reg.CYCL_COST.VALUE.ix n) (min 0xFFFFFFFF (x.1 / 10000))).put (Reg.CYCL_DEM.VALUE.ix n) (min 0xFFFFFFFF (x.2.1 / 10000))).put
      (Reg.CYCL_WIN.VALUE.ix n) (min 0xFFFFFFFF (x.2.2 / 10000))) s

/-- The start condition of R282 that fails, as its cause: program 1, configuration 4, order 3, budget 2; 0 where all hold. -/
def startCause (s : State) : Nat :=
  match s.image? with
  | none => 1
  | some b =>
    if !s.flag Reg.CYCL_CTRL.EN || !s.rangesOk || !s.stationsOk then 4
    else if !s.orderOk then 3
    else if !s.budgetOk b 0 then 2
    else 0

end State

end Sys2Proof.Machine
end

