-- ==== Sys2Proof/Machine/Frames.lean ====
section
/-! DEFINITION. The Yeldex frame: header fields, building a frame, the checks of Table 02.8 and R53, the residence correction (R51 to R57). -/

namespace Sys2Proof.Machine

/-- Class codes (Table 01.3). -/
def Cls.code : Cls → Nat
  | .tt => 0 | .vital => 1 | .mgmt => 2 | .bulk => 3

def Cls.ofCode : Nat → Cls
  | 0 => .tt | 1 => .vital | 2 => .mgmt | _ => .bulk

/-- TT and VITAL are the express classes. -/
def Cls.express : Cls → Bool
  | .tt => true | .vital => true | .mgmt => false | .bulk => false

/-- Header fields of a frame (Table 02.5). -/
def hCls (f : Bytes) : Cls := Cls.ofCode (bits (byteAt f 0) 7 6)
def hType (f : Bytes) : Nat := bits (byteAt f 0) 5 0
def hFlags (f : Bytes) : Nat := byteAt f 1
def hDir (f : Bytes) : Bool := bit (hFlags f) 7
def hRound (f : Bytes) : Bool := bit (hFlags f) 6
def hAckReq (f : Bytes) : Bool := bit (hFlags f) 5
def hSrc (f : Bytes) : Nat := fieldAt f 2 2
def hDst (f : Bytes) : Nat := fieldAt f 4 2
def hPub (f : Bytes) : Nat := fieldAt f 6 2
def hGen (f : Bytes) : Nat := fieldAt f 8 2
def hLen (f : Bytes) : Nat := fieldAt f 10 2
def hSeq (f : Bytes) : Nat := fieldAt f 12 4
def hCorr (f : Bytes) : Nat := fieldAt f 16 6
def hHcrc (f : Bytes) : Nat := fieldAt f 22 2
/-- The payload. -/
def payload (f : Bytes) : Bytes := (f.drop 24).take (hLen f)

/-- "Correction invalid" (R56). -/
def corrInvalid : Nat := 0x800000000000

/-- A frame's length: 28 + PAY_LEN. -/
def frameLen (f : Bytes) : Nat := 28 + hLen f

/-- Types and the classes they may travel in (R53, Table 02.7). -/
def typeAllowed (c : Cls) (t : Nat) : Bool :=
  match t with
  | 0x01 => c = .tt
  | 0x02 => c = .vital
  | 0x04 => c = .mgmt
  | 0x05 => c = .mgmt
  | 0x06 => c = .mgmt || c = .bulk
  | 0x10 => c = .mgmt
  | 0x11 => c = .mgmt
  | 0x12 => c = .mgmt
  | 0x13 => c = .mgmt
  | 0x14 => c = .mgmt
  | 0x18 => c = .mgmt
  | 0x19 => c = .mgmt
  | _ => false

/-- Result of the header check after 32 bytes (R57). -/
inductive HdrCheck | ok | hcrc | hdr
deriving DecidableEq, Repr

/-- HCRC, then PAY_LEN from 4 to 2,048, then class and type. -/
def headerCheck (f : Bytes) : HdrCheck :=
  if crc16 (f.take 22) ≠ hHcrc f then .hcrc
  else if hLen f < 4 ∨ 2048 < hLen f then .hdr
  else if !typeAllowed (hCls f) (hType f) then .hdr
  else .ok

/-- FCS over bytes 0 to 15 and the payload (R55). -/
def fcsOf (f : Bytes) : Bytes := fcsBytes (f.take 16 ++ payload f)

/-- FCS as received is right. -/
def fcsOk (f : Bytes) : Bool := (f.drop (24 + hLen f)).take 4 = fcsOf f

/-- The frame with CORR and HCRC rewritten (R56). -/
def withCorr (f : Bytes) (corr : Nat) : Bytes :=
  let h := f.take 16 ++ natBe 6 corr
  h ++ natBe 2 (crc16 h) ++ f.drop 24

/-- CORR plus a residence, "invalid" kept and written for any sum outside 48 bits (R56). -/
def addCorr (corr : Nat) (d : Int) : Nat :=
  if corr = corrInvalid then corrInvalid
  else
    let x := signed 48 corr + d
    if x < -(2 ^ 47 : Int) + 1 ∨ (2 ^ 47 : Int) - 1 < x then corrInvalid else unsigned 48 x

/-- Header fields of a frame to be built. -/
structure Hdr where
  cls : Cls
  type : Nat
  flags : Nat := 0
  src : Nat := 0
  dst : Nat := 0
  pub : Nat := 0
  gen : Nat := 0
  seq : Nat := 0
  corr : Nat := 0
deriving DecidableEq, Repr

/-- The bytes of a frame (R52, R54, R55). -/
def mkFrame (h : Hdr) (pl : Bytes) : Bytes :=
  let h16 := natBe 1 (h.cls.code * 64 + h.type) ++ natBe 1 h.flags ++ natBe 2 h.src ++ natBe 2 h.dst ++ natBe 2 h.pub
    ++ natBe 2 h.gen ++ natBe 2 pl.length ++ natBe 4 h.seq
  let h22 := h16 ++ natBe 6 h.corr
  h22 ++ natBe 2 (crc16 h22) ++ pl ++ fcsBytes (h16 ++ pl)

/-- The frame with another payload of the same length: FCS anew. -/
def withPayload (f : Bytes) (pl : Bytes) : Bytes := f.take 24 ++ pl ++ fcsBytes (f.take 16 ++ pl)

/-- The frame with another FLAGS byte: HCRC and FCS anew. -/
def withFlags (f : Bytes) (fl : Nat) : Bytes :=
  let h := f.take 1 ++ natBe 1 fl ++ (f.drop 2).take 20
  h ++ natBe 2 (crc16 h) ++ payload f ++ fcsBytes (h.take 16 ++ payload f)

/-- The frame with another SEQ and LASTW: HCRC and FCS anew. -/
def withSeq (f : Bytes) (q : Nat) (lastw : Bool) : Bytes :=
  let h := f.take 1 ++ natBe 1 (byteAt f 1 &&& 0xEF ||| 16 * b2n lastw) ++ (f.drop 2).take 10 ++ natBe 4 q
  let h22 := h ++ (f.drop 16).take 6
  h22 ++ natBe 2 (crc16 h22) ++ payload f ++ fcsBytes (h ++ payload f)

/-- The blocks of `n` frame bytes (R45). -/
def blocksOf (n : Nat) : Nat := ceilDiv n 64

/-- A frame with SRC and ROSTER_GEN of R65 in class MGMT, DST 0, PUB_ID 0, FLAGS 0. -/
def State.inauFrame (s : State) (type : Nat) (pl : Bytes) : Bytes :=
  mkFrame { cls := .mgmt, type := type, src := s.pos, gen := s.gen } pl

end Sys2Proof.Machine
end

