-- ==== Sys2Proof/Machine/Roster.lean ====
section
/-! DEFINITION. The roster as one function of the chain: items of the count waves, the canonical chain, the procedure of R88 with
prior_fore, sticky_assign and kept_part (R114 to R118), the roster's bytes and checksum (R92). -/

namespace Sys2Proof.Machine

/-- Flags of a roster entry (Table 03.7). -/
def Entry.twin (e : Entry) : Bool := e.flags.getLsbD 15
def Entry.thalf (e : Entry) : Bool := e.flags.getLsbD 14
def Entry.syncCap (e : Entry) : Bool := e.flags.getLsbD 12
def Entry.leadReq (e : Entry) : Bool := e.flags.getLsbD 11
def Entry.leadEnd (e : Entry) : Nat := b2n (e.flags.getLsbD 10)
def Entry.orient (e : Entry) : Bool := e.flags.getLsbD 9
def Entry.twkeep (e : Entry) : Bool := e.flags.getLsbD 8
def Entry.sticky (e : Entry) : Bool := e.flags.getLsbD 7
def Entry.wout (e : Entry) : Nat := b2n (e.flags.getLsbD 6)
def Entry.lhcand (e : Entry) : Bool := e.flags.getLsbD 5
def Entry.excl (e : Entry) : Bool := e.flags.getLsbD 4

/-- Bit `i` of a FLAGS field as asked. -/
def flagBit (i : Nat) (b : Bool) : BitVec 16 := if b then BitVec.ofNat 16 (2 ^ i) else 0

/-- The FLAGS field with bit `i` set to `b`. -/
def setFlagBit (f : BitVec 16) (i : Nat) (b : Bool) : BitVec 16 := (f &&& ~~~ (BitVec.ofNat 16 (2 ^ i))) ||| flagBit i b

/-- The 16 bytes of an entry (Table 03.6). -/
def Entry.bytes (e : Entry) : Bytes :=
  natBe 8 e.uid ++ natBe 2 e.pos ++ natBe 2 e.veh ++ natBe 2 e.flags.toNat ++ natBe 2 e.budget

/-- The 16 bytes of an identity record (Table 03.5). -/
def IdRec.bytes (r : IdRec) : Bytes :=
  natBe 2 0 ++ natBe 8 r.tiUid ++ natBe 2 r.tiLin ++ natBe 2 r.gen ++ natBe 1 (128 * b2n r.sticky + 64 * b2n r.loop) ++ [0]

/-- The 16 bytes of an item. -/
def Item.bytes : Item → Bytes
  | .entry e => e.bytes
  | .ident r => r.bytes

/-- The item of 16 bytes: first two bytes 0 mark an identity record. -/
def parseItem (b : Bytes) : Item :=
  if fieldAt b 0 2 = 0 then
    .ident ⟨fieldAt b 2 8, fieldAt b 10 2, fieldAt b 12 2, bit (byteAt b 14) 7, bit (byteAt b 14) 6⟩
  else .entry ⟨fieldAt b 0 8, fieldAt b 8 2, fieldAt b 10 2, BitVec.ofNat 16 (fieldAt b 12 2), fieldAt b 14 2⟩

/-- `n` items. -/
def parseItems : Nat → Bytes → List Item
  | 0, _ => []
  | n + 1, b => parseItem (b.take 16) :: parseItems n (b.drop 16)

/-- The null identity (Table 03.5). -/
def IdRec.isNull (r : IdRec) : Bool := r.tiUid = 0

def IdRec.null : IdRec := ⟨0, 0, 0, false, false⟩

/-- One node of the canonical chain: its entry, the end that faces C[0], the identity record it belongs to. -/
structure Link where
  e : Entry
  toward : Nat
  id : IdRec
deriving DecidableEq, Repr

/-- The entries of a wave with the identity record that precedes each. -/
def withIds : IdRec → List Item → List (Entry × IdRec)
  | _, [] => []
  | _, .ident r :: is => withIds r is
  | r, .entry e :: is => (e, r) :: withIds r is

/-- Links of a wave sent out from C[0]'s side: toward is the complement of WOUT. -/
def linksOut (is : List Item) : List Link := (withIds .null is).map fun p => ⟨p.1, 1 - p.1.wout, p.2⟩

/-- Links of a wave from the other side, in chain order: toward is WOUT. -/
def linksIn (is : List Item) : List Link := ((withIds .null is).map fun p => ⟨p.1, p.1.wout, p.2⟩).reverse

/-- The chain of a line at a node whose own entry is `me`: `w0`, `w1` are the items that arrived on end 1 and end 2. C[0] is the end
node with the higher UID rank. -/
def lineChain (me : Entry) (id : IdRec) (w0 w1 : Option (List Item)) : List Link :=
  let far (w : Option (List Item)) : Nat := match w with
    | some is => (withIds .null is).head?.elim me.uid (·.1.uid)
    | none => me.uid
  let build (e : Nat) (near other : Option (List Item)) : List Link :=
    (near.elim [] linksOut) ++ [⟨me, e, id⟩] ++ (other.elim [] linksIn)
  if w0.isNone ∧ w1.isNone then [⟨me, 0, id⟩]
  else if outranks (far w0) (far w1) then build 0 w0 w1
  else build 1 w1 w0

/-- The chain of a loop: `w2`, `w1` are the items of the seam's end-2 and end-1 waves; `me` stands between them unless it is the
seam itself, whose end-2 wave holds every node. -/
def loopChain (seam : Bool) (me : Entry) (id : IdRec) (arrived2 : Nat) (w2 w1 : List Item) : List Link :=
  match linksOut w2 with
  | [] => []
  | c0 :: rest =>
    let c0 := { c0 with toward := 0 }
    if seam then c0 :: rest
    else c0 :: rest ++ [⟨me, arrived2, id⟩] ++ (linksIn w1).dropLast

/-- The element with the least key, the first of equals. -/
def argMin {α : Type} (key : α → Nat) : List α → Option α
  | [] => none
  | x :: xs => match argMin key xs with
    | none => some x
    | some y => if key x ≤ key y then some x else some y

/-- A part of the chain (R114): its identity, generation, whether it was STICKY, a loop, and its entries. -/
structure Part where
  id : IdRec
  members : List Link
deriving DecidableEq, Repr

def sameId (a b : IdRec) : Bool := a.tiUid = b.tiUid && a.tiLin = b.tiLin && a.gen = b.gen

/-- The non-null parts, in order of first appearance. -/
def partsOf (c : List Link) : List Part :=
  let ids := c.foldl (fun acc l => if l.id.isNull || acc.any (sameId l.id) then acc else acc ++ [l.id]) ([] : List IdRec)
  ids.map fun r => ⟨r, c.filter fun l => sameId l.id r⟩

/-- Part `a` stands before part `b` in the order of R115. -/
def partBefore (a b : Part) : Bool :=
  if a.members.length ≠ b.members.length then b.members.length < a.members.length
  else if a.id.tiUid ≠ b.id.tiUid then outranks a.id.tiUid b.id.tiUid
  else if a.id.gen ≠ b.id.gen then 0 < sdiff16 a.id.gen b.id.gen
  else b.id.tiLin < a.id.tiLin

def insertPart (p : Part) : List Part → List Part
  | [] => [p]
  | q :: qs => if partBefore q p then q :: insertPart p qs else p :: q :: qs

/-- The parts in the order of R115: the governing part W comes first. -/
def partsOrdered (c : List Link) : List Part := (partsOf c).foldl (fun acc p => insertPart p acc) []

/-- prior_fore (R117). -/
def priorFore (c : List Link) : Bool :=
  let ps := partsOrdered c
  match ps.find? (fun p => p.members.any fun l => l.e.pos ≠ 0) with
  | none => true
  | some p =>
    match argMin (fun l => l.e.pos) (p.members.filter fun l => l.e.pos ≠ 0) with
    | none => true
    | some l => b2n l.e.orient = l.toward

/-- The lowest number from 1 on that is not in the list. -/
def lowestFree (taken : List Nat) : Nat → Nat → Nat
  | 0, k => k
  | fuel + 1, k => if taken.contains k then lowestFree taken fuel (k + 1) else k

/-- State of sticky_assign: numbers taken, UIDs marked, identities whose part collided. -/
structure Sticky where
  taken : List Nat := []
  marked : List Nat := []
  hit : List IdRec := []
deriving DecidableEq, Repr

/-- One part of sticky_assign (R118); `nul` for the null part. -/
def stickyPart (nul : Bool) (id : IdRec) (es : List Link) (st : Sticky) : Sticky :=
  let k := es.filter fun l => l.e.pos ≠ 0
  let ks := k.map (·.e.pos)
  if !nul && !(ks.any st.taken.contains) && ks.Nodup then
    { st with taken := st.taken ++ ks, marked := st.marked ++ (es.filter fun l => l.e.pos = 0).map (·.e.uid) }
  else { st with marked := st.marked ++ es.map (·.e.uid), hit := if nul then st.hit else id :: st.hit }

/-- sticky_assign (R118): position by UID for the admitted entries, and the parts that collided. -/
def stickyAssign (adm : List Link) (parts : List Part) : List (Nat × Nat) × List IdRec :=
  let inAdm (p : Link → Bool) := adm.filter p
  let st := parts.foldl (fun st p => stickyPart false p.id (inAdm fun l => sameId l.id p.id) st) ({} : Sticky)
  let st := stickyPart true .null (inAdm fun l => l.id.isNull) st
  let r := adm.foldl (fun (acc : List Nat × List (Nat × Nat)) l =>
      if st.marked.contains l.e.uid then
        let n := lowestFree acc.1 1024 1
        (n :: acc.1, acc.2 ++ [(l.e.uid, n)])
      else (acc.1, acc.2 ++ [(l.e.uid, l.e.pos)])) (st.taken, ([] : List (Nat × Nat)))
  (r.2, st.hit)

/-- kept_part (R116): identity and generation, and whether the TI_UID changed. -/
def keptPart (c : List Link) (leader : Nat) : (Nat × Nat) × Nat × Bool :=
  match partsOrdered c with
  | [] => ((leader, 0), 1, false)
  | w :: rest =>
    let founder := c.any fun l => l.e.uid = w.id.tiUid
    let lin := (w.id.tiLin + 1) % 65536
    let identity :=
      if rest.isEmpty then (if founder then (w.id.tiUid, w.id.tiLin) else (leader, lin))
      else if founder then (w.id.tiUid, lin) else (leader, lin)
    let gen := if w.id.gen = 65535 then 1 else w.id.gen + 1
    (identity, gen, identity.1 ≠ w.id.tiUid)

/-- Header bytes of a roster (Table 03.9). -/
def Roster.header (r : Roster) : Bytes :=
  natBe 8 r.tiUid ++ natBe 2 r.tiLin ++ natBe 2 r.gen ++ natBe 2 r.entries.length
  ++ natBe 1 (128 * b2n r.sticky + 64 * b2n r.loop + r.mode % 8) ++ [0]
  ++ natBe 2 r.leader ++ natBe 2 r.timeref ++ natBe 2 r.loophead ++ natBe 2 r.cycle ++ natBe 2 r.guard_ ++ natBe 2 r.nexcl ++ natBe 4 0

def insertByPos (e : Entry) : List Entry → List Entry
  | [] => [e]
  | x :: xs => if e.pos ≤ x.pos then e :: x :: xs else x :: insertByPos e xs

/-- The entries in ascending order of position. -/
def Roster.byPos (r : Roster) : List Entry := r.entries.foldl (fun acc e => insertByPos e acc) []

/-- The roster checksum (R92). -/
def Roster.checksum (r : Roster) : Nat := crc32 (r.header ++ r.byPos.flatMap Entry.bytes)

/-- The entry at a position; the entry of a UID; the sequence index q of a position (R135). -/
def Roster.atPos (r : Roster) (p : Nat) : Option Entry := if p = 0 then none else r.entries.find? (·.pos = p)
def Roster.ofUid (r : Roster) (u : Nat) : Option Entry := r.entries.find? (·.uid = u)
def Roster.seqOf (r : Roster) (p : Nat) : Nat :=
  match r.entries.findIdx? (·.pos = p) with
  | some i => if p = 0 then 0 else i + 1
  | none => 0
def Roster.n (r : Roster) : Nat := r.entries.length

/-- Rotation of a list so that it starts at index `i`. -/
def rotateTo {α : Type} (i : Nat) (l : List α) : List α := l.drop i ++ l.take i

/-- The procedure of R88. `sched` is the schedule mode (R164), `cyc` and `grd` the node's own cycle units and guard. None where
step 6 admits no entry (R502). -/
def computeRoster (c : List Link) (loop : Bool) (me cyc grd sched : Nat) : Option Held :=
  -- 1 lead request
  let reqs := c.filter fun l => l.e.leadReq && !l.e.excl
  let lr := argMin (fun l => l.e.uid) reqs
  -- 2 loop head
  let h : Option Link := if !loop then none else
    match lr with
    | some l => some l
    | none => match argMin (fun l => l.e.uid) (c.filter fun l => l.e.lhcand && !l.e.excl) with
      | some l => some l
      | none => argMin (fun l => l.e.uid) (c.filter fun l => !l.e.excl)
  let anyPos := c.any fun l => l.e.pos ≠ 0
  -- 3 fore direction
  let fwd : Bool := match lr with
    | some l => l.e.leadEnd = l.toward
    | none => if anyPos then priorFore c else if loop then (match h with | some l => l.toward = 0 | none => true) else true
  -- 4 order
  let idx := match h with | some l => (c.findIdx? fun x => x.e.uid = l.e.uid).getD 0 | none => 0
  let order : List Link :=
    if !loop then (if fwd then c else c.reverse)
    else if fwd then rotateTo idx c else rotateTo (c.length - 1 - idx) c.reverse
  -- 5 orientation
  let order := order.map fun l =>
    let fore := if fwd then l.toward else 1 - l.toward
    { l with e := { l.e with flags := setFlagBit (setFlagBit l.e.flags 9 (fore = 1)) 6 false } }
  -- 6 admission
  let adm := (order.filter fun l => !l.e.excl).take 1024
  match adm with
  | [] => none
  | first :: _ =>
    let nexcl := c.length - adm.length
    -- 7 roles and mode
    let inAdm (u : Nat) := adm.any fun l => l.e.uid = u
    let leader : Nat := match lr with
      | some l => if inAdm l.e.uid then l.e.uid else if loop then h.elim first.e.uid (·.e.uid) else first.e.uid
      | none => if loop then h.elim first.e.uid (·.e.uid) else first.e.uid
    let leaderSticky := (adm.find? fun l => l.e.uid = leader).elim false (·.e.sticky)
    let timeref := (argMin (fun l => l.e.uid) (adm.filter fun l => l.e.syncCap)).elim leader (·.e.uid)
    -- 8 numbering
    let parts := partsOrdered c
    let numbered : List (Nat × Nat) × List IdRec :=
      if leaderSticky && anyPos then stickyAssign adm parts
      else (((List.range adm.length).zip adm).map fun p => (p.2.e.uid, p.1 + 1), [])
    let posOf (u : Nat) : Nat := (numbered.1.find? fun p => p.1 = u).elim 0 (·.2)
    -- 9 identity and generation
    let allNull := parts.isEmpty
    let kp := if allNull then ((leader, 0), 1, false) else keptPart c leader
    let hasNull := c.any fun l => l.id.isNull
    let joining := !allNull && (decide (1 < parts.length) || hasNull)
    let w := parts.head?
    let anchor := (w.bind fun p => argMin (fun l => l.e.uid) p.members).elim 0 (·.e.uid)
    let myIdx := (c.findIdx? fun l => l.e.uid = me).getD 0
    let mine := (c.drop myIdx).head?
    let prevU := if myIdx = 0 then (if loop then (c.getLast?).map (·.e.uid) else none) else ((c.drop (myIdx - 1)).head?).map (·.e.uid)
    let nextU := if myIdx + 1 = c.length then (if loop then (c.head?).map (·.e.uid) else none) else ((c.drop (myIdx + 1)).head?).map (·.e.uid)
    let t := mine.elim 0 (·.toward)
    let r : Roster :=
      { tiUid := kp.1.1, tiLin := kp.1.2, gen := kp.2.1, sticky := leaderSticky, loop := loop,
        mode := if allNull || joining then 0 else sched,
        leader := posOf leader, timeref := posOf timeref, loophead := h.elim 0 (fun l => posOf l.e.uid),
        cycle := cyc, guard_ := grd, nexcl := nexcl,
        entries := adm.map fun l => { l.e with pos := posOf l.e.uid } }
    some
      { roster := r, sum := r.checksum
        nb1 := if t = 0 then prevU else nextU
        nb2 := if t = 0 then nextU else prevU
        leadConf := 1 < reqs.length
        leadNotAdm := (lr.elim false fun l => !inAdm l.e.uid)
        joining := joining, anchor := anchor
        inW := (mine.elim false fun l => w.elim false fun p => sameId l.id p.id && !l.id.isNull)
        m := c.length
        collided := (mine.elim false fun l => numbered.2.any (sameId l.id))
        tiChanged := kp.2.2
        coldStart := allNull }

/-- The checks of R87 on the union of the waves: no UID twice, at most 2,048 entries. -/
def chainOk (c : List Link) : Bool := (c.map (·.e.uid)).Nodup && c.length ≤ 2048

end Sys2Proof.Machine
end

