-- ==== Sys2Proof/Machine/Schedule.lean ====
section
/-! DEFINITION. The schedule that every node derives from a roster (R135 to R144): effective budgets, windows of both sweeps, span,
minimum cycle, and the express intervals of an egress (R141, R145). All offsets in ns after the cycle boundary. -/

namespace Sys2Proof.Machine

/-- Hop allowance H and lower hop bound H_lo, ns (R141). -/
def hopH : Nat := 300
def hopLo : Nat := 200

/-- The effective budget B_eff (R138). -/
def bEff (twkeepOnly : Bool) (shift : Nat) (e : Entry) : Nat :=
  if twkeepOnly && !e.twkeep then 0
  else
    let b := min e.budget 4096 / 2 ^ shift
    if b < 3 then 0 else b

/-- The window length D_q, ns (R139). -/
def winLen (b : Nat) : Nat := ceilDiv (b * 64192) 1000

/-- The windows of one entry. -/
structure Win where
  q : Nat
  pos : Nat
  uid : Nat
  /-- Effective budget, window length (0: no window), rearward and forward open offsets. -/
  b : Nat
  d : Nat
  oR : Nat
  oF : Nat
deriving DecidableEq, Repr

/-- A schedule: N, guard, basic cycle in ns, windows in sequence order, span A, T_min in 250 µs units, entries with a window, entries cut. -/
structure Sched where
  n : Nat
  g : Nat
  t : Nat
  wins : List Win
  span : Nat
  tmin : Nat
  nwin : Nat
  ncut : Nat
deriving DecidableEq, Repr

/-- Grants windows in ascending q and stops at the first that would make A exceed T or X exceed 0.8 T (R144). -/
def grant (base baseX t g : Nat) : List Nat → Nat → List Nat
  | [], _ => []
  | b :: bs, sum =>
    if b = 0 then 0 :: grant base baseX t g bs sum
    else
      let s' := sum + winLen b + 2 * g
      if t < base + s' ∨ 4 * t < 5 * (baseX + s') then (b :: bs).map fun _ => 0
      else b :: grant base baseX t g bs s'

/-- Open offsets in the order of a sweep (R141). -/
def offsets (g : Nat) : Nat → List Nat → List Nat
  | _, [] => []
  | o, d :: ds => o :: offsets g (if d = 0 then o + hopH else o + hopH + d + 2 * g) ds

/-- The schedule of a roster under a mode descriptor (R138 to R144). -/
def deriveSched (r : Roster) (twkeepOnly : Bool) (shift : Nat) : Sched :=
  let n := r.n
  let g := r.guard_
  let t := r.cycle * 250000
  let bs := r.entries.map (bEff twkeepOnly shift)
  let full := (bs.map fun b => if b = 0 then 0 else winLen b + 2 * g).sum
  let base := (n - 1) * hopH
  let baseX := (n - 1) * (hopH - hopLo)
  -- T_min: A and X / 0.8, rounded up to 250 µs
  let tmin := max (ceilDiv (base + full) 250000) (ceilDiv (5 * (baseX + full)) 1000000)
  let granted := if t < tmin * 250000 then grant base baseX t g bs 0 else bs
  let ds := granted.map fun b => if b = 0 then 0 else winLen b
  let oRs := offsets g g ds
  let oFs := (offsets g g ds.reverse).reverse
  let sumG := (ds.map fun d => if d = 0 then 0 else d + 2 * g).sum
  let rows := (List.range n).zip (r.entries.zip (granted.zip (ds.zip (oRs.zip oFs))))
  { n := n, g := g, t := t
    wins := rows.map fun (i, e, b, d, oR, oF) => ⟨i + 1, e.pos, e.uid, b, d, oR, oF⟩
    span := base + sumG
    tmin := tmin
    nwin := (ds.filter (· ≠ 0)).length
    ncut := ((bs.zip granted).filter fun p => p.1 ≠ 0 && p.2 = 0).length }

/-- The mode descriptor's WRULE and BSHIFT; mode 0 is fixed at 0 (R163). -/
def State.modeRule (s : State) (m : Nat) : Bool × Nat :=
  if m = 0 then (false, 0) else (s.flag (Reg.SCHD_MODEDESC.WRULE.ix m), s.get (Reg.SCHD_MODEDESC.BSHIFT.ix m))

/-- The schedule of a roster at this node. -/
def State.schedOf (s : State) (r : Roster) : Sched :=
  let d := s.modeRule r.mode
  deriveSched r d.1 d.2

/-- The schedule in force. -/
def State.schedNow (s : State) : Option Sched := s.roster.map s.schedOf

/-- The window row of a position, of a UID. -/
def Sched.ofPos (c : Sched) (p : Nat) : Option Win := if p = 0 then none else c.wins.find? (·.pos = p)
def Sched.ofUid (c : Sched) (u : Nat) : Option Win := c.wins.find? (·.uid = u)

/-- The express interval [S, E) at the egress of `w` in a sweep, ns; none when it is empty (R141). -/
def Sched.express (c : Sched) (w : Win) (fwd : Bool) : Option (Nat × Nat) :=
  let s := (if fwd then c.n - w.q else w.q - 1) * hopLo
  let o := if fwd then w.oF else w.oR
  let e := if w.d = 0 then o - c.g else o + w.d + c.g
  if e ≤ s then none else some (s, e)

/-- The node's entry UID (R15). -/
def State.entryUid (s : State) : Nat := match s.inau.pair with | some (u, _) => u | none => s.uid

/-- The node's own window row in the schedule in force. -/
def State.ownWin (s : State) : Option Win := s.schedNow.bind fun c => c.ofUid s.entryUid

/-- The node's orientation in force: end 2 is fore. -/
def State.orient (s : State) : Bool := s.flag Reg.INAU_STAT.ORIENT

/-- The vehicle end that faces aft, the one that faces fore (0: end 1). -/
def State.aftEnd (s : State) : Nat := if s.orient then 0 else 1
def State.foreEnd (s : State) : Nat := if s.orient then 1 else 0

/-- This node stands beside the break joint (R227): the end the joint lies at. -/
def State.breakEnd (s : State) : Option Nat :=
  match s.roster with
  | none => none
  | some r =>
    if !r.loop then none
    else
      let q := r.seqOf s.pos
      if q = 1 then some s.foreEnd else if q = r.n then some s.aftEnd else none

end Sys2Proof.Machine
end

