-- ==== Sys2Proof/Machine/Fabric.lean ====
section
/-! DEFINITION. The frame pool and the lane transmitters: buffers and regions (R241, R243), copies, queues (R235, R236), the start of a
frame under credit (R45, R46) and express intervals (R145), its bytes as time passes, its end. -/

namespace Sys2Proof.Machine

/-- Buffers a frame of `len` bytes needs (R241). -/
def bufsFor (len : Nat) : Nat := ceilDiv (16 + len) 256

/-- Buffers a frame holds. -/
def PFrame.bufs (f : PFrame) : Nat := f.nRes + f.nMin + f.nSh

/-- The fabric tag of a frame in the pool (Table 08.2). -/
def PFrame.tag (f : PFrame) : Bytes :=
  natBe 2 f.dmask ++ natBe 1 (64 * f.cls.code + 32 * b2n f.cut + 16 * b2n f.bad) ++ natBe 1 (f.ingress % 16 + 16 * (f.portq % 8))
    ++ natBe 2 f.bytes.length ++ natBe 4 f.arrival ++ natBe 4 f.claim ++ natBe 2 f.gen

/-- What the frame's buffer `k` holds of it: its tag and its bytes, and what the host has written over the tag (R221, R414). -/
def pieceOf (f : PFrame) (k : Nat) : Bytes :=
  let b := (((f.tag ++ f.bytes).drop (256 * k)).take 256)
  (List.range b.length).map fun i => ((f.wrote.find? (·.1 = 256 * k + i)).map (·.2)).getD (b[i]?.getD 0)

/-- The frame's buffers keep its bytes when they become free (R414). -/
def leaveBytes (f : PFrame) (l : List (Nat × Bytes)) : List (Nat × Bytes) :=
  (List.range f.bufs).foldl (fun l k =>
    let n := Config.bufferOf f.fid k % 16384
    let p := pieceOf f k
    tabPut n (p ++ ((tabGet n l).getD []).drop p.length) l) l

namespace State

/-- The frame `fid` of the pool. -/
def frame? (s : State) (fid : Nat) : Option PFrame := s.fab.frames.find? (·.fid = fid)

/-- The frame `fid` changed by `g`. -/
def onFrame (s : State) (fid : Nat) (g : PFrame → PFrame) : State :=
  { s with fab.frames := s.fab.frames.map fun f => if f.fid = fid then g f else f }

/-- Buffers held of the express reserve, of an ingress minimum. -/
def resHeld (s : State) : Nat := (s.fab.frames.map (·.nRes)).sum
def minHeld (s : State) (code : Nat) : Nat := ((s.fab.frames.filter (·.ingress = code)).map (·.nMin)).sum

/-- Free buffers of the express reserve, of an ingress minimum, of the shared region. A region that FWD_POOLCFG has made smaller than what
its frames hold takes up what they hold. -/
def resFree (s : State) : Nat := s.exRes - s.resHeld
def minFree (s : State) (code : Nat) : Nat := if code < 12 then s.minRes - s.minHeld code else 0
def shFree (s : State) : Nat :=
  16384 - max s.exRes s.resHeld - ((List.range 12).map fun c => max s.minRes (s.minHeld c)).sum - (s.fab.frames.map (·.nSh)).sum

/-- Buffers for a frame of `n` buffers, by class: express reserve, ingress minimum, shared region (R241); none if it does not fit, or if
fewer are free because regions that FWD_POOLCFG has made larger are still held by others. -/
def draw (s : State) (cls : Cls) (code n : Nat) : Option (Nat × Nat × Nat) :=
  if s.fab.free < n then none
  else if cls.express then
    let r := min n s.resFree
    if n - r ≤ s.shFree then some (r, 0, n - r) else none
  else
    let m := min n (s.minFree code)
    let sh := n - m
    if s.shFree < sh then none
    else if cls = .bulk ∧ 0 < sh ∧ s.shFree - sh < s.bulkFloor then none
    else some (0, m, sh)

/-- A frame refused for buffers is counted by class; FWD_IRQ.NOBUF; 0x0701 for the first of each class in each second (R241). -/
def refuseBuf (s : State) (cls : Cls) : State :=
  let c := match cls with | .mgmt => Reg.FWD_NOBUFM.COUNT | .bulk => Reg.FWD_NOBUFB.COUNT | _ => Reg.FWD_NOBUFX.COUNT
  ((s.bump c).raise Reg.FWD_IRQ.NOBUF).recordSec 0x0701 cls.code

/-- FWD_STAT.BULKFL: the shared region has BULKFLOOR or fewer free buffers. -/
def refreshFloor (s : State) : State := s.putB Reg.FWD_STAT.BULKFL (s.shFree ≤ s.bulkFloor)

/-- The frame enters the pool with its buffers, if it is admitted; its number. ARRIVAL is that of the ingress (Table 08.2). -/
def enterPool (s : State) (f : PFrame) (len : Nat) : Option (Nat × State) :=
  (s.draw f.cls f.ingress (bufsFor len)).map fun (r, m, sh) =>
    let fid := s.fab.nextFid
    let t := f.stamp.getD s.now
    let f := { f with fid := fid, nRes := r, nMin := m, nSh := sh, gen := s.gen, inAt := t,
                      arrival := shortNs (s.presentedAt t) % 2 ^ 32 }
    (fid, { s with fab := { s.fab with frames := s.fab.frames ++ [f], nextFid := fid + 1, free := s.fab.free - (r + m + sh) } }.refreshFloor)

/-- The frame's buffers return to free (R28). -/
def freeFrame (s : State) (fid : Nat) : State :=
  match s.frame? fid with
  | none => s
  | some f =>
    { s with fab := { s.fab with frames := s.fab.frames.filter (·.fid ≠ fid), free := s.fab.free + f.bufs
                                 left := leaveBytes f s.fab.left } }.refreshFloor

/-- A copy of the frame waits or is being sent on a lane. -/
def laneHas (l : LaneS) (fid : Nat) : Bool :=
  l.qx.any (·.fid = fid) || l.qm.any (·.fid = fid) || l.qb.any (·.fid = fid)
  || l.tx.any (·.fid = fid) || l.txHeld.any (·.fid = fid)

/-- Any copy of the frame is left. -/
def hasCopy (s : State) (f : PFrame) : Bool :=
  s.lanes.toList.any (laneHas · f.fid) || !f.due.isEmpty || 0 < f.host

/-- The frame's buffers return to free once it has arrived and its last copy has ended. -/
def gc (s : State) (fid : Nat) : State :=
  match s.frame? fid with
  | none => s
  | some f => if f.complete && !s.hasCopy f then s.freeFrame fid else s

/-- pd_in of lane `n`: the estimate plus half the asymmetry (R177), truncated toward zero (log entry 38); none without an
estimate. -/
def pdIn (s : State) (n : Nat) : Option Int :=
  if s.flag (Reg.SYNC_PD.MEAS.ix n) then
    some ((s.get (Reg.SYNC_PD.PD.ix n) : Int) + tdivI (s.lane n).asym 2)
  else none

/-- Credits the transmitter of lane `n` holds (R45). -/
def credits (s : State) (n : Nat) : Nat :=
  128 - (s.get (Reg.LANE_CREDIT.TXD.at n) + 256 - s.get (Reg.LANE_CREDIT.TXF.at n)) % 256

/-- No new frame starts from the Dusk dimming on (R369), while a warm reset is held off (R489), or while temperature has stopped the
transmitters (R491). -/
def dimmed (s : State) : Bool := s.get Reg.REST_STAT.DSTATE = 4 || s.pwr.hold.isSome || s.pwr.hot

end State

/-- The frame as it leaves at the egress stamp `t`, fore or aft (R56, R121, R174, R175, R226). -/
def egressBytes (f : PFrame) (t : Nat) (fore : Bool) : Bytes :=
  let b := match f.patch with
    | .none => f.bytes
    | .turn t2 =>
      let p := payload f.bytes
      let ok := t - t2 ≤ us 50
      withPayload f.bytes (p.take 2 ++ natBe 1 (if ok then byteAt p 2 else byteAt p 2 &&& 0x7F) ++ (p.drop 3).take 1
        ++ natBe 6 (if ok then t - t2 else 0) ++ p.drop 10)
    | .offset tb => withPayload f.bytes ((payload f.bytes).take 28 ++ natBe 4 ((tb - t) / 16) ++ (payload f.bytes).drop 32)
    | .dir => if fore then withFlags f.bytes (byteAt f.bytes 1 ||| 0x80) else f.bytes
  if !f.relay then b
  else
    let c := match f.stamp, f.pd with
      | some i, some p => addCorr (hCorr b) ((t : Int) - i + p)
      | _, _ => corrInvalid
    withCorr b c

/-- The first byte offset after `off` at which R59 allows PRE in a frame of `total` bytes. -/
def prePoint (off total : Nat) : Option Nat :=
  let p := (off / 64 + 1) * 64
  if p + 64 ≤ total then some p else none

/-- The last PRE point of R59 at or before byte `k` of a frame of `total` bytes whose fragment began at `off`. -/
def lastPre (off total k : Nat) : Option Nat :=
  let p := min k (total - 64) / 64 * 64
  if 64 ≤ total ∧ off < p then some p else none

namespace State

/-- Boundary that ends the present cycle, the cycle it begins, and the roster of that cycle (R24, R122): t_b of a re-phase where it falls into
this cycle, or where no cycle runs. -/
def nextCycle (s : State) : Nat × Nat × Option Roster :=
  let e := s.bnd + s.tLen
  let p := if s.inau.rephase then s.inau.place.filter fun q => !s.cycRun || q.1 ≤ (e : Int) else none
  let b := p.elim e (·.1.toNat)
  let k := p.elim ((s.cyc + 1) % 2 ^ 32) (·.2.1)
  let new := s.inau.pending.isSome && s.inau.noon = some k && (p.isSome || !s.inau.rephase)
  (b, k, if new then s.inau.pending.map (·.roster) else s.roster)

/-- Boundaries from `b` on, that of cycle `k` first: each with its cycle number, the roster of the cycle and the boundary after it. The
pending roster is that of the cycles from its Noon on; t_b of a re-phase ends the cycle it falls into (R122, R145). -/
def cyclesFrom (s : State) (b k : Nat) : Nat → List (Nat × Option Roster × Nat)
  | 0 => []
  | fuel + 1 =>
    -- a node that re-phases keeps its roster until t_b
    let wait := s.inau.rephase && s.inau.place.any fun p => (b : Int) < p.1
    let new := !wait && s.inau.pending.isSome && s.inau.noon.any fun n => 0 ≤ sdiff32 k n
    let r := if new then s.inau.pending.map (·.roster) else s.roster
    let e := b + (if new then r.elim s.tLen (fun r => us (250 * r.cycle)) else s.tLen)
    match (if s.inau.rephase then s.inau.place else none) with
    | some (tb, kb, _) =>
      let cut := (b : Int) < tb && tb < (e : Int)
      let e := if cut then tb.toNat else e
      (b, r, e) :: cyclesFrom s e (if cut then kb else (k + 1) % 2 ^ 32) fuel
    | none => (b, r, e) :: cyclesFrom s e ((k + 1) % 2 ^ 32) fuel

/-- Express intervals of the sweep that leaves lane `n`, as instants: of the cycle before this one, this one and the next two, under the
roster of each cycle (R145). -/
def expressIvs (s : State) (n : Nat) : List (Nat × Nat) :=
  if !s.cycRun then [] else
  let own (r : Roster) (b e : Nat) : List (Nat × Nat) :=
    let c := s.schedOf r
    match c.ofUid s.entryUid with
    | none => []
    | some w =>
      -- orientation under that roster
      let fore := match r.ofUid s.entryUid with | some e => if e.orient then 1 else 0 | none => 0
      match c.express w (endOf n = fore) with
      | some (x, y) => if b + ns x < e then [(b + ns x, min (b + ns y) e)] else []
      | none => []
  let before := if s.tLen ≤ s.bnd then s.roster.elim [] (own · (s.bnd - s.tLen) s.bnd) else []
  before ++ (s.cyclesFrom s.bnd s.cyc 3).flatMap fun (b, r, e) => r.elim [] (own · b e)

/-- Nothing of [t, u) on lane `n` lies inside an express interval. -/
def clear (s : State) (n t u : Nat) : Bool := (s.expressIvs n).all fun (x, y) => u ≤ x || y ≤ t

/-- Bytes of the frame in progress on lane `n` that have left by the instant `t`, at 4 ns a character. Of a frame that is still arriving
only whole groups of four leave, so that IDLE may follow (R38). -/
def sentBy (f : PFrame) (x : TxFrame) (t : Nat) : Nat :=
  max x.sent (min (x.off + (t - x.from_) / ns 4) (if f.complete then f.bytes.length else f.bytes.length / 4 * 4))

/-- Frame bytes after which the fragment in progress on lane `n` ends with PRE: where its ingress was preempted (R233); of a MGMT or BULK
frame that cannot reach EG before the next express interval, the last point of R59 that it reaches at or before its start, or the first
one ahead where none is left (R145). None where it runs to its end: an express frame that becomes ready outside an express interval waits
for all of it, since R145 lets no arrival preempt, whatever bound R61 and R245 give (log entry 38). -/
def fragEnd (s : State) (n : Nat) (f : PFrame) (x : TxFrame) : Option Nat :=
  let total := frameLen f.bytes
  let byIv := if f.cls.express then none else
    match ((s.expressIvs n).filter fun iv => x.from_ ≤ iv.1 + ns 8).foldl
        (fun (a : Option Nat) iv => some (a.elim iv.1 (min iv.1))) none with
    | none => none
    | some i =>
      if x.from_ + ns 4 * (total - x.off + 1) ≤ i then none
      else match lastPre x.off total (x.off + (i - x.from_) / ns 4) with
        | some p => if x.sent ≤ p then some p else prePoint (x.sent - 1) total
        | none => prePoint (max x.off (x.sent - 1)) total
  (x.stops ++ byIv.toList).min?

/-- Frame bytes up to `k` leave lane `n`: emitted, their blocks debited (R45). -/
def sendTo (s : State) (n k : Nat) : State :=
  match (s.lane n).tx with
  | none => s
  | some x =>
    match s.frame? x.fid with
    | none => s
    | some f =>
      if k ≤ x.sent then s
      else
        let bytes := ((egressBytes f x.stamp (endOf n = s.foreEnd)).take k).drop x.sent
        let d := blocksOf k - blocksOf x.sent
        ((s.emit (.data n bytes)).put (Reg.LANE_CREDIT.TXD.at n) ((s.get (Reg.LANE_CREDIT.TXD.at n) + d) % 256)).onLane n
          fun l => { l with tx := some { x with sent := k } }

/-- CR and CRS that waited on lane `n` go out (R38). -/
def flushSets (s : State) (n : Nat) : State :=
  ((s.lane n).sets.foldl emit s).onLane n fun l => { l with sets := [] }

/-- The frame in progress on lane `n` ends with EG or EB, and its copy with it. The transmitter is free once that character has left: EG follows
the last byte, EB what has left by now. -/
def endTx (s : State) (n : Nat) (good : Bool) : State :=
  match (s.lane n).tx with
  | none => s
  | some x =>
    let t := if good then min s.now (x.from_ + ns 4 * (x.sent - x.off)) else s.now
    let s := (s.emit (if good then .eg n else .eb n)).onLane n fun l => { l with tx := none, freeAt := t + ns 4 }
    (s.flushSets n).gc x.fid

/-- The fragment of lane `n` ends with PRE after `p` frame bytes (R59, R60). -/
def preTx (s : State) (n p : Nat) : State :=
  let s := (s.sendTo n p).emit (.pre n)
  (s.onLane n fun l =>
    { l with txHeld := l.tx.map fun x => { x with sent := p, stops := x.stops.filter (p < ·) }, tx := none
             freeAt := (l.tx.elim s.now fun x => min s.now (x.from_ + ns 4 * (p - x.off))) + ns 4 }).flushSets n

/-- The fragment in progress still ends at its EG or at a point of R59 before the express interval when its rest comes later, as `x` says; that
binds a crossing copy too (R145). -/
def endsClear (s : State) (n : Nat) (f : PFrame) (x : TxFrame) : Bool :=
  (f.cls.express && !x.crossing) || s.clear n x.from_ (x.from_ + ns 4 * (match s.fragEnd n f x with
    | some p => p - x.off
    | none => frameLen f.bytes - x.off + 1))

/-- CR and CRS that wait on lane `n` go into the fragment in progress after the next frame byte whose offset plus 1 is a multiple of 4, as
soon as that byte is there, and hold its rest back by 16 ns each; where that would take the rest into an express interval, and behind
the frame's last byte, they follow its delimiter (R38, R145). -/
def placeSets (s : State) (n : Nat) : State :=
  match (s.lane n).tx with
  | none => s.flushSets n
  | some x =>
    match s.frame? x.fid with
    | none => s
    | some f =>
      let k := if x.sent = x.off then x.off + 4 else ceilDiv x.sent 4 * 4
      let later : TxFrame := { x with from_ := x.from_ + ns 16 * (s.lane n).sets.length }
      if (s.lane n).sets.isEmpty || f.bad || f.bytes.length < k || (s.fragEnd n f x).any (· < k) || !s.endsClear n f later then s
      else
        ((s.sendTo n k).flushSets n).onLane n fun l => { l with tx := l.tx.map fun (x : TxFrame) => { x with from_ := later.from_ } }

/-- The transmitter of lane `n` up to now: bytes that have left, the PRE that ends its fragment, and the end of a frame all of whose
bytes have left. -/
def advance (s : State) (n : Nat) : State :=
  let s := s.placeSets n
  match (s.lane n).tx with
  | none => s
  | some x =>
    match s.frame? x.fid with
    | none => s.onLane n fun l => { l with tx := none }
    | some f =>
      let k := sentBy f x s.now
      let stop := (s.fragEnd n f x).filter (· ≤ k)
      if f.bad then (s.sendTo n (stop.getD k)).endTx n false
      else match stop with
        | some p => s.preTx n p
        | none =>
          let s := s.sendTo n k
          if f.complete && f.bytes.length ≤ k then s.endTx n true else s

/-- Every lane transmitter up to now. -/
def advanceAll (s : State) : State := (List.range 4).foldl (fun s n => s.advance n) s

/-- CR or CRS goes into the characters of lane `n`: at once between frames, inside a frame at its place (R38). -/
def insertSet (s : State) (n : Nat) (o : Out) : State :=
  let s := s.advance n
  (s.onLane n fun l => { l with sets := l.sets ++ [o] }).placeSets n

/-- Instant at which the fragment in progress on lane `n` has sent its last byte, if that has arrived. -/
def txEnd (s : State) (n : Nat) : Option Nat :=
  match (s.lane n).tx with
  | none => none
  | some x => match s.frame? x.fid with
    | none => none
    | some f =>
      match s.fragEnd n f x with
      | some p => if p ≤ f.bytes.length then some (x.from_ + ns 4 * (p - x.off)) else none
      | none => if f.complete then some (x.from_ + ns 4 * (f.bytes.length - x.off)) else none

/-- The transmitter is free, or its frame runs to its end first: time moves to the end of its delimiter (log entry 2). -/
def finishTx (s : State) (n : Nat) : State :=
  let s := s.advance n
  let s := match s.txEnd n with
    | some t => (s.reach t).advance n
    | none => s
  if (s.lane n).tx.isNone then s.reach (s.lane n).freeAt else s

/-- Lane `n` sends no fragment and may begin one: ACTIVE (in RESYNC no SF or RES is sent), the last delimiter has left. -/
def txFree (s : State) (n : Nat) : Bool := s.laneSt n = .active && (s.lane n).tx.isNone && (s.lane n).freeAt ≤ s.now

/-- Lane `n` may start a frame: free, not dimmed. -/
def txReady (s : State) (n : Nat) : Bool := s.txFree n && !s.dimmed

/-- SEQ of the last frame sent of a class and PUB_ID, and the cycle it was sent in. -/
def seqOf? (s : State) (cls id : Nat) : Option (Nat × Nat) :=
  (s.sched.seqs.find? fun e => e.1 = cls && e.2.1 = id).map fun e => (e.2.2.1, e.2.2.2)

def setSeq (s : State) (cls id q c : Nat) : State :=
  { s with sched.seqs := (cls, id, q, c) :: s.sched.seqs.filter fun e => !(e.1 = cls && e.2.1 = id) }

/-- SEQ of the next frame: + 1 per frame of a TT publication (R157), per cycle of a VITAL channel (R238); the first after a reset is 0
(log entry 38). -/
def nextSeq (s : State) (cls id c : Nat) : Nat × State :=
  match s.seqOf? cls id with
  | none => (0, s.setSeq cls id 0 c)
  | some (q, k) =>
    if cls = 1 ∧ k = c then (q, s)
    else
      let q' := (q + 1) % 2 ^ 32
      (q', s.setSeq cls id q' c)

/-- Characters that the frames of a sweep's window have cost so far (R140). -/
def windowUsed (s : State) (fwd : Bool) : Nat := if fwd then s.sched.usedF else s.sched.usedR
def setUsed (s : State) (fwd : Bool) (k : Nat) : State := if fwd then { s with sched.usedF := k } else { s with sched.usedR := k }

/-- The first copy of a frame of the own window starts now: the window's budget pays for it, and it takes its SEQ, and LASTW where no frame
behind it, started when this one has left, could end in the window within the budget (R140, R147, R157). -/
def numberOwn (s : State) (fid : Nat) : State :=
  match s.frame? fid with
  | none => s
  | some f => match f.gate with
    | none => s
    | some g =>
      if g.started then s
      else
        let cost := frameLen f.bytes + 3
        let used := s.windowUsed g.fwd + cost
        let last := g.behind.all fun c => g.budget < used + c || 1000 * g.closes < 1000 * (s.now + ns 4 * cost) + 16 * 4012 * c
        let s := s.setUsed g.fwd used
        let g := { g with started := true }
        match g.number with
        | none => s.onFrame fid fun f => { f with gate := some g }
        | some k =>
          let q := match g.seq with
            | some q => (q, s)
            | none => s.nextSeq f.cls.code (hPub f.bytes) k
          q.2.onFrame fid fun f => { f with bytes := withSeq f.bytes q.1 last, gate := some g }

/-- Bytes after which the ingress of frame `fid` holds it preempted. -/
def heldAt (s : State) (fid : Nat) : List Nat :=
  (s.lanes.toList.filterMap (·.rxHeld)).filterMap fun f => if f.stage = .kept fid then some f.bytes.length else none

/-- The first SF of a frame leaves lane `n` now (R45, R47, R62); t1 of a PDREQ is its egress stamp (R176). Where the ingress is held preempted the
fragment will end where its own did (R233). -/
def startTx (s : State) (n fid : Nat) (crossing : Bool := false) : State :=
  match s.frame? fid with
  | none => s
  | some f =>
    let s := s.numberOwn fid
    let d := s.get (Reg.LANE_CREDIT.TXD.at n)
    let t := s.now
    let s := s.emit (.sf n d)
    s.onLane n fun l =>
      { l with
        tx := some { fid := fid, stamp := t, from_ := t + ns 8, off := 0, sent := 0, stops := s.heldAt fid, crossing := crossing }
        t1 := if hType f.bytes = 0x13 ∧ f.cls = .mgmt ∧ f.ingress = 11 then some t else l.t1
        run := if f.cls = .mgmt then l.run + 1 else if f.cls = .bulk then 0 else l.run }

/-- Credits cover every block still to be sent of the frame (R46). -/
def creditFor (s : State) (n : Nat) (total sent : Nat) : Bool := blocksOf total - blocksOf sent ≤ s.credits n

/-- The time to the first PRE point after `off`, or to the end of EG, in 1/16 ns: SF and debit 8 ns, then 4 ns each (R145). -/
def chunkTime (off total : Nat) : Nat := ns 8 + ns 4 * ((prePoint off total).getD (total + 1) - off)

/-- Total bytes of a frame in the pool. -/
def totalOf (f : PFrame) : Nat := frameLen f.bytes

/-- The copy's queue entry is taken off lane `n`. -/
def dropItem (s : State) (n fid : Nat) : State :=
  (s.onLane n fun l => { l with qx := l.qx.filter (·.fid ≠ fid), qm := l.qm.filter (·.fid ≠ fid), qb := l.qb.filter (·.fid ≠ fid) }).gc fid

/-- A MGMT or BULK frame may start on lane `n` now (R145, R46). -/
def mayStart (s : State) (n : Nat) (f : PFrame) : Bool :=
  s.creditFor n (totalOf f) 0 && s.clear n s.now (s.now + chunkTime 0 (totalOf f))

/-- Copies at the head of a MGMT or BULK queue that have aged beyond QAGE are removed (R236). -/
def dropAged (s : State) (n : Nat) (q : List QItem) : Nat → State × List QItem
  | 0 => (s, q)
  | fuel + 1 =>
    match q with
    | [] => (s, [])
    | it :: r =>
      match s.frame? it.fid with
      | none => (s, q)
      | some f =>
        if !it.exempt && s.qAge < s.now - f.inAt then
          let s := (((s.dropItem n it.fid).bump Reg.FWD_AGED.COUNT).raise Reg.FWD_IRQ.AGED).recordSec 0x0702 n
          dropAged s n r fuel
        else (s, q)

/-- The preempted frame of lane `n` continues with RES once bytes of the rest have arrived, if credit and the express intervals admit it
(R46, R145, R233). A frame that has ended bad meanwhile is resumed and ended with EB, so that PRE and RES stay paired (R60, R232). -/
def resumeTx (s : State) (n : Nat) : State :=
  match (s.lane n).txHeld with
  | none => s
  | some x =>
    match s.frame? x.fid with
    | none => s.onLane n fun l => { l with txHeld := none }
    | some f =>
      let go (s : State) : State := (s.emit (.res n (s.get (Reg.LANE_CREDIT.TXD.at n)))).onLane n fun l =>
        { l with txHeld := none, tx := some { x with from_ := s.now + ns 8, off := x.sent } }
      if f.bad then if s.clear n s.now (s.now + ns 12) then (go s).endTx n false else s
      else if (f.complete || x.sent + 4 ≤ f.bytes.length) && s.creditFor n (totalOf f) x.sent
          && s.clear n s.now (s.now + chunkTime x.sent (totalOf f)) then go s
      else s

/-- A frame that lane `n` carries: held out of service PROBE, PDREQ and PDRSP alone (R503), across an isolated joint WAVE and RSUM too
(R110). -/
def lanePass (s : State) (n : Nat) (f : PFrame) : Bool :=
  let t := hType f.bytes
  let pd := f.cls = .mgmt && (t = 0x10 || t = 0x13 || t = 0x14)
  let wave := f.cls = .mgmt && (t = 0x11 || t = 0x12)
  ((s.lane n).heldOut = 0 || pd) && (!(s.vend (endOf n)).isolated || pd || wave)

/-- Copies that wait for lane `n` and that it no longer carries leave its queues (R110, R503). -/
def purgeLane (s : State) (n : Nat) : State :=
  let l := s.lane n
  (l.qx ++ l.qm ++ l.qb).foldl (fun s it => if (s.frame? it.fid).any (s.lanePass n) then s else s.dropItem n it.fid) s

/-- What the scheduler and the transmit gate say of an own frame that would start now: 0 it may, 1 it would not end in the window at
4.012 ns a character, or its cost exceeds what is left of the budget (R140, R147), 2 the gate refuses it (R148). -/
def gateCode (s : State) (f : PFrame) : Nat :=
  match f.gate with
  | none => 0
  | some g =>
    let cost := totalOf f + 3
    if g.refused || 1000 * g.closes < 1000 * s.now + 16 * 4012 * cost || (!g.started && g.budget < s.windowUsed g.fwd + cost) then 1
    else if s.now < g.opens || g.closes < s.now + ns 4 * cost then 2
    else 0

/-- An own frame is not sent in this cycle: its copy leaves lane `n`'s queue; the first refusal of the frame counts as SCHD_PUBSKIP with
0x0304, as a skipped relay copy with 0x0A0B, or as SCHD_GATE with 0x030A (R147, R148, R349). -/
def refuseOwn (s : State) (n fid code : Nat) : State :=
  match s.frame? fid with
  | none => s
  | some f =>
    let s := s.onFrame fid fun f => { f with gate := f.gate.map fun g => { g with refused := true } }
    let s := match f.gate with
      | some g =>
        if g.refused then s
        else if code = 2 then ((s.bump Reg.SCHD_GATE.COUNT).raise Reg.SCHD_IRQ.GATE).recordGen 0x030A 0
        else match g.entry with
          | some i => ((s.bump Reg.SCHD_PUBSKIP.COUNT).raise Reg.SCHD_IRQ.PUBSKIP).recordGen 0x0304 i
          | none => (s.bump Reg.TWIN_RLYSKIP.COUNT).recordGen 0x0A0B 0
      | none => s
    s.dropItem n fid

/-- Copies of own frames at the head of the express queue that can no longer end in their window leave it (R147, R148). -/
def dropLate (s : State) (n : Nat) : List QItem → State
  | [] => s
  | it :: r =>
    match s.frame? it.fid with
    | none => s
    | some f => if s.gateCode f = 0 then s else dropLate (s.refuseOwn n it.fid (s.gateCode f)) n r

/-- Starts the head of a queue if `ok` admits it. -/
def startHead (s : State) (n : Nat) (q : List QItem) (ok : QItem → PFrame → Bool) : Option State :=
  match q with
  | [] => none
  | it :: _ =>
    match s.frame? it.fid with
    | none => some (s.dropItem n it.fid)
    | some f =>
      if s.lanePass n f && ok it f then
        some ((s.startTx n it.fid it.crossing).onLane n fun l =>
          { l with qx := l.qx.filter (·.fid ≠ it.fid), qm := l.qm.filter (·.fid ≠ it.fid), qb := l.qb.filter (·.fid ≠ it.fid) })
      else none

/-- A copy of the express queue may start on lane `n` now: credit, and free time for a crossing copy (R46, R153). -/
def mayExpress (s : State) (n : Nat) (it : QItem) (f : PFrame) : Bool :=
  s.creditFor n (totalOf f) 0 && (!it.crossing || s.clear n s.now (s.now + ns 8 + ns 4 * (totalOf f + 1)))

/-- The next frame of lane `n`: express, then a preempted frame, then MGMT, then BULK, one BULK after MGMTRUN MGMT frames (R235, R60).
A crossing copy that waits for free time holds back no other express frame (R153); the frames of R67, R173 and R362 go ahead of
every BULK frame; a lane held out of service passes over what it does not carry (R503). -/
def chooseTx (s : State) (n : Nat) : State :=
  if !s.txReady n then
    -- a frame that PRE has ended is in progress: it ends while the node is dimmed (R369)
    (if s.txFree n && (s.lane n).txHeld.isSome && !s.pwr.hot then s.resumeTx n else s)
  else
  let s := s.dropLate n ((s.lane n).qx.filter (!·.crossing))
  let l := s.lane n
  match (s.startHead n l.qx (s.mayExpress n)).orElse fun _ => s.startHead n (l.qx.filter (!·.crossing)) (s.mayExpress n) with
  | some s' => s'
  | none =>
    if l.txHeld.isSome then s.resumeTx n
    else
      let pass (q : List QItem) : List QItem := q.filter fun it => (s.frame? it.fid).elim true (s.lanePass n)
      let (s, qm) := s.dropAged n (pass l.qm) l.qm.length
      let (s, qb) := s.dropAged n (pass l.qb) l.qb.length
      let ok := fun (_ : QItem) f => s.mayStart n f
      let mFirst := qb.isEmpty || l.run < s.mgmtRun || qm.head?.any (·.exempt)
      let a := if mFirst then qm else qb
      let b := if mFirst then qb else qm
      match s.startHead n a ok with
      | some s' => s'
      | none => if a.isEmpty then (s.startHead n b ok).getD s else s

/-- Buffers of the copies in a queue. -/
def queueBufs (s : State) (q : List QItem) : Nat := (q.map fun it => (s.frame? it.fid).elim 0 PFrame.bufs).sum

/-- A copy joins the queue of its class at lane `n`; MGMT and BULK copies only below FWD_QLIM (R236); exempt frames stand ahead of
every other MGMT frame that waits. -/
def enqueue (s : State) (n fid : Nat) (exempt : Bool := false) (crossing : Bool := false) : State :=
  match s.frame? fid with
  | none => s
  | some f =>
    let it : QItem := ⟨fid, exempt, crossing⟩
    let l := s.lane n
    match f.cls with
    | .mgmt =>
      if exempt then s.onLane n fun l => { l with qm := l.qm.filter (·.exempt) ++ [it] ++ l.qm.filter (!·.exempt) }
      else if s.queueBufs l.qm < s.mgmtLim then s.onLane n fun l => { l with qm := l.qm ++ [it] }
      else ((s.bump Reg.FWD_QDROP.COUNT).raise Reg.FWD_IRQ.QDROP)
    | .bulk =>
      if s.queueBufs l.qb < s.bulkLim then s.onLane n fun l => { l with qb := l.qb ++ [it] }
      else ((s.bump Reg.FWD_QDROP.COUNT).raise Reg.FWD_IRQ.QDROP)
    | _ => s.onLane n fun l => { l with qx := l.qx ++ [it] }

/-- A frame that the node itself originates (management core, code 11, or scheduler, code 12) is queued on the lanes given and leaves
as soon as each lane admits it. -/
def originate (s : State) (bytes : Bytes) (lanes : List Nat) (exempt : Bool := true) (code : Nat := 11)
    (g : PFrame → PFrame := id) : State :=
  if lanes.isEmpty then s else
  let f : PFrame := g { fid := 0, ingress := code, cls := hCls bytes, bytes := bytes, complete := true, stamp := some s.now }
  match s.enterPool f (frameLen bytes) with
  | none => s.refuseBuf f.cls
  | some (fid, s) =>
    let s := s.onFrame fid fun f => { f with dmask := (lanes.map (2 ^ ·)).sum }
    let s := lanes.foldl (fun s n => s.enqueue n fid exempt) s
    (lanes.foldl (fun s n => (s.advance n).chooseTx n) s).gc fid

/-- Every lane of vehicle end `e` that is working; a twin half uses its own line only (R84, R228). -/
def workingLanes (s : State) (e : Nat) : List Nat :=
  [0, 1].filterMap fun l =>
    let n := laneAt e l
    if (s.lane n).working && (!s.twinOn || l = s.half) then some n else none

/-- When a lane egress leaves ACTIVE, every copy queued for it is removed and the copy in progress ends (R237, R43). -/
def flushLane (s : State) (n : Nat) : State :=
  let l := s.lane n
  let fids := (l.qx ++ l.qm ++ l.qb).map (·.fid) ++ (l.tx.map (·.fid)).toList ++ (l.txHeld.map (·.fid)).toList
  let s := s.onLane n fun l => { l with qx := [], qm := [], qb := [], tx := none, txHeld := none, run := 0, sets := [] }
  fids.foldl gc s

/-- Every copy of a frame that ended bad: started lane copies end with EB, a preempted one after its RES, unstarted copies leave their
queues and are counted (R60, R232). -/
def badFrame (s : State) (fid : Nat) : State :=
  let s := s.onFrame fid fun f => { f with bad := true, complete := true }
  let s := (List.range 4).foldl (fun s n =>
    let l := s.lane n
    let queued := ((l.qx ++ l.qm ++ l.qb).filter (·.fid = fid)).length
    let s := s.bumpBy Reg.FWD_BADDROP.COUNT queued
    let s := s.onLane n fun l =>
      { l with qx := l.qx.filter (·.fid ≠ fid), qm := l.qm.filter (·.fid ≠ fid), qb := l.qb.filter (·.fid ≠ fid) }
    if l.tx.any (·.fid = fid) then s.advance n
    else if l.txHeld.any (·.fid = fid) then s.chooseTx n
    else s) s
  let due := (s.frame? fid).elim 0 fun f => f.due.length + f.sinks.length
  let s := s.bumpBy Reg.FWD_BADDROP.COUNT due
  (s.onFrame fid fun f => { f with due := [], sinks := [] }).gc fid

/-- A frame is treated as bad while it still arrives: its copies end, and no delivery is made at its end (R232, R234). -/
def stallFrame (s : State) (fid : Nat) : State :=
  let stop (f : RxFrame) : RxFrame := if f.stage = .kept fid then { f with stage := .dropped } else f
  (List.range 4).foldl (fun s n => s.onLane n fun l => { l with rx := l.rx.map stop, rxHeld := l.rxHeld.map stop }) (s.badFrame fid)

/-- A copy of the frame is being sent; the host holds the frame's buffers (R243). -/
def sending (s : State) (f : PFrame) : Bool :=
  s.lanes.toList.any (fun l => l.tx.any (·.fid = f.fid)) || s.ports.toList.any fun p => p.tx.any (·.item.fid = f.fid)
def hostHeld (s : State) (f : PFrame) : Bool := f.complete && !s.sending f && 0 < f.host

/-- The frame, and which of its buffers, that pool buffer `n` holds. -/
def bufferFrame (s : State) (n : Nat) : Option (PFrame × Nat) :=
  s.fab.frames.findSome? fun f => ((List.range f.bufs).find? fun k => Config.bufferOf f.fid k % 16384 = n).map fun k => (f, k)

/-- The byte at offset `a` of W3 (R221, R414): the tag and the frame, as far as it has arrived; bytes that the host has written over the tag; none
where the buffer holds no byte of a frame there. -/
def poolByte (s : State) (a : Nat) : Byte :=
  let old := ((tabGet (a / 256) s.fab.left).bind fun b => b[a % 256]?).getD (Config.poolInit a)
  match s.bufferFrame (a / 256) with
  | none => old
  | some (f, k) => ((pieceOf f k)[a % 256]?).getD old

/-- A host write of a byte of W3: stored where the buffer is host-held, beyond the frame's end too (R414). -/
def setPoolByte (s : State) (a : Nat) (v : Byte) : State :=
  match s.bufferFrame (a / 256) with
  | none => s
  | some (f, k) =>
    let o := 256 * k + a % 256
    if !s.hostHeld f then s
    else if o < 16 then s.onFrame f.fid fun f => { f with wrote := (o, v) :: f.wrote.filter fun x => x.1 ≠ o }
    else if o < 16 + f.bytes.length then s.onFrame f.fid fun f => { f with bytes := f.bytes.set (o - 16) v }
    else
      let n := a / 256
      let old := (tabGet n s.fab.left).getD []
      let b := (List.range (max old.length (a % 256 + 1))).map fun i => if i = a % 256 then v else old[i]?.getD (Config.poolInit (256 * n + i))
      { s with fab.left := tabPut n b s.fab.left }

/-- FWD_POOLA to FWD_POOLC as they stand: free, receiving, queued, transmitting, host-held (R243). -/
def poolCounts (s : State) : Nat × Nat × Nat × Nat × Nat :=
  s.fab.frames.foldl (fun (fr, rx, q, tx, h) f =>
    if !f.complete then (fr, rx + f.bufs, q, tx, h)
    else if s.sending f then (fr, rx, q, tx + f.bufs, h)
    else if 0 < f.host then (fr, rx, q, tx, h + f.bufs)
    else (fr, rx, q + f.bufs, tx, h)) (s.fab.free, 0, 0, 0, 0)

/-- The five counts sum to 16,384 (R28). -/
def poolSumOk (s : State) : Bool :=
  let c := s.poolCounts
  c.1 + c.2.1 + c.2.2.1 + c.2.2.2.1 + c.2.2.2.2 = 16384

end State

end Sys2Proof.Machine
end

