-- ==== Sys2Proof/Machine/Joint.lean ====
section
/-! DEFINITION. Joints and ends: a lane that leaves ACTIVE (R43), working lanes and joints (R70 to R73), held lanes (R503), the outage
grace (R108), isolation (R110), quarantine (R132), the inauguration state. -/

namespace Sys2Proof.Machine.State

/-- T in force, or 1 ms while no cycle runs (R97, R132). -/
def tOrMs (s : State) : Nat := if s.cycRun then s.tLen else ms 1

/-- A round is open (R97, R131). -/
def roundOpen (s : State) : Bool :=
  match s.inau.round with
  | none => false
  | some r => r.phase = .count || r.phase = .compute || r.phase = .agree || r.phase = .pending

/-- INAU_STAT.STATE (Table 03.13, R97, R502). -/
def inauCode (s : State) : Nat :=
  if !s.flag Reg.INAU_CTRL.EN then 5
  else match s.inau.round.map Round.phase with
    | some .count => 2
    | some .compute => 2
    | some .agree => 3
    | some .pending => 4
    | _ => if s.inau.settleAt.isSome || s.inau.startupAt.isSome then 1 else 0

/-- INAU_STAT.STATE as it stands. -/
def refreshInau (s : State) : State := s.put Reg.INAU_STAT.STATE s.inauCode

/-- The lanes of end `e` are held in DISABLED although EN is 1: quarantine (R132), PACE level 0 or 1 (R483), a stack member (R425). -/
def endHeld (s : State) (e : Nat) : Bool :=
  (s.vend e).quarantine.isSome || s.get Reg.GLB_PACE.ACT < 2 || s.get Reg.BRDG_STAT.STACKID ≠ 0

/-- DOWN, or DISABLED where EN is 0 or the lane is held. The receiver has to adapt again (Table 02.4). -/
def restLane (s : State) (n : Nat) : State :=
  let on := s.flag (Reg.LANE_CTRL.EN.at n) && !s.endHeld (endOf n)
  let s := (s.setLaneSt n (if on then .down else .disabled)).put (Reg.LANE_STAT.EQDONE.at n) 0
  s.emit (if on then .ts n false false (s.flag (Reg.LANE_STAT.RX_EMPTY.at n)) else .quiet n)

/-- The receiver of lane `n` drops a frame it holds open: its cut-through copies end with EB (R232). -/
def abortRx (s : State) (r : Option RxFrame) : State :=
  match r.map RxFrame.stage with
  | some (.kept fid) => s.badFrame fid
  | _ => s

/-- Steps 1 to 4 of R43 at lane `n`: open frames end, their blocks are free, the transmitter stops, credits are discarded (R237). -/
def dropLane (s : State) (n : Nat) : State :=
  let l := s.lane n
  let open_ := l.rx.toList.length + l.rxHeld.toList.length
  let s := (s.abortRx l.rx).abortRx l.rxHeld
  let s := (s.bumpBy (Reg.LANE_ABORT.COUNT.at n) open_).advance n
  let s := s.flushLane n
  let s := s.onLane n fun l =>
    { l with rx := none, rxHeld := none, rxSkip := false, skipLen := 0, errs := [], rxRest := false, crF := 0, rsReq := false, rsAck := none, rsTx := false,
             rsAt := none, rsTxAt := none, trailing := none, answerAt := none, probeAt := none, pdAt := none, tsRun := 0, peerEq := false, ts2Run := 0, ts2Sent := 0, heldOut := 0,
             echoOk := false, splitRun := 0 }
  let s := (s.put (Reg.LANE_CREDIT.TXD.at n) 0).put (Reg.LANE_CREDIT.TXF.at n) 0
  let s := (s.put (Reg.LANE_CREDIT.RXOCC.at n) 0).put (Reg.LANE_CREDIT.RXA.at n) 0
  (s.put (Reg.LANE_STAT.RX_EMPTY.at n) 1).put (Reg.LANE_STAT.PREOPEN.at n) 0

/-- SCHD_STAT.HOPLONG: a measured path delay beyond 66 ns (R142). -/
def refreshHop (s : State) : State :=
  let long := (List.range 4).any fun n => s.flag (Reg.SYNC_PD.MEAS.ix n) && ns 66 < s.get (Reg.SYNC_PD.PD.ix n)
  let was := s.flag Reg.SCHD_STAT.HOPLONG
  let s := s.putB Reg.SCHD_STAT.HOPLONG long
  if long then (if was then s else s.raise Reg.SCHD_IRQ.HOPLONG).recordGen 0x0308 0 else s

/-- Path delay of lane `n` is no longer measured: the estimate falls with the lane (R177), and HOPLONG is judged without it. -/
def dropPd (s : State) (n : Nat) : State :=
  let s := ((s.put (Reg.SYNC_PD.MEAS.ix n) 0).put (Reg.SYNC_PD.PD.ix n) 0).onLane n fun l =>
    { l with samples := [], rejRun := 0, reform := false, misRun := 0, mismatch := false, t1 := none }
  (s.putB Reg.SYNC_STAT.PDMISM (s.lanes.toList.any (·.mismatch))).refreshHop

/-- A joint change at end `e`, or one that belongs to no end: T_SETTLE restarts (R73, R76, R105), and an end counts it toward its
quarantine (R132). -/
def markChange (s : State) (e : Option Nat) : State :=
  let open_ := s.inau.force.isSome && (s.inau.settleAt.isSome || s.roundOpen)
  let s := { s with inau := { s.inau with changed := true, settleAt := some (s.now + s.tSettle), fails := 0 }, rest.jointNew := true }
  -- a joint change while the recovery of a round or of this joint is open (R130, R132, R475)
  let s := if e.isSome && (open_ || e.any fun e => (s.vend e).changes.any fun t => s.now - t ≤ 256 * s.tOrMs) then s.secondFault 0x0222 0x0222 else s
  match e with
  | none => s.refreshInau
  | some e =>
    (s.onEnd e fun v => { v with changes := s.now :: v.changes.filter fun t => s.now - t ≤ 256 * s.tOrMs }).refreshInau

/-- A joint at end `e` has stopped being working: outage grace while a roster is in force (R108), else a joint change. -/
def jointLost (s : State) (e : Nat) : State :=
  if s.inau.force.isSome then
    (s.onEnd e fun v => { v with grace := some (s.now + ms 3)
                                 graceIds := [s.lane (2 * e), s.lane (2 * e + 1)].map fun l => (l.chipUid, l.entryUid) }).record 0x0220
  else s.markChange (some e)

/-- Four joint changes at end `e` within 256 T: its lanes are held in DISABLED for 1,024 T (R132). The changes that led to it count no more
(log entry 38). -/
def checkQuarantine (s : State) (e : Nat) : State :=
  if (s.vend e).changes.length < 4 ∨ (s.vend e).quarantine.isSome then s
  else
    let s := (s.onEnd e fun v => { v with quarantine := some (s.now + 1024 * s.tOrMs), changes := [] }).record 0x022D
    let was := (s.vend e).working
    let s := [laneAt e 0, laneAt e 1].foldl (fun s n =>
      let up := s.laneUp n
      let s := if up then ((((s.onLane n fun l => { l with lostAt := some s.now }).dropLane n).dropPd n).raise (Reg.LANE_IRQ.DOWN.at n)) else s
      (s.restLane n).onLane n fun l => { l with working := false }) s
    let s := s.onEnd e fun v => { v with working := false }
    if was then s.jointLost e else s

/-- A joint is lost; with no roster in force that is a joint change, with the quarantine it may start (R132). -/
def jointGone (s : State) (e : Nat) : State := (s.jointLost e).checkQuarantine e

/-- A joint change, with the quarantine it may start. -/
def jointChange (s : State) (e : Option Nat) : State :=
  let s := s.markChange e
  match e with
  | some e => s.checkQuarantine e
  | none => s

/-- UID of the neighbour that the chain of the roster in force names at end `e`. -/
def namedAt (s : State) (e : Nat) : Option Nat := s.inau.force.bind fun h => if e = 0 then h.nb1 else h.nb2

/-- ENTRY_UID of the node across a working joint. -/
def acrossUid (s : State) (e : Nat) : Nat :=
  let a := s.lane (laneAt e 0)
  if a.working then a.entryUid else (s.lane (laneAt e 1)).entryUid

/-- Isolation of a working joint at end `e` as R110 states it; 0x0223 when it begins. A joint that is not working keeps its mark (R111). -/
def refreshIsolation (s : State) (e : Nat) : State :=
  let v := s.vend e
  if s.inau.force.isNone then s.onEnd e fun v => { v with isolated := false }
  else if !v.working then s
  else
    let iso := s.namedAt e ≠ some (s.acrossUid e)
    let s' := s.onEnd e fun v => { v with isolated := iso }
    if iso && !v.isolated then ((s'.purgeLane (laneAt e 0)).purgeLane (laneAt e 1)).record 0x0223 else s'

/-- Lane `n` is on the line of the other twin half (R14). -/
def wrongHalf (s : State) (n : Nat) : Bool := s.twinOn && lineOf n ≠ s.half

/-- Lane `n` meets every condition of R70. -/
def laneOk (s : State) (n : Nat) : Bool :=
  let l := s.lane n
  s.laneUp n && l.echoOk && l.lineOk && l.heldOut = 0 && !s.wrongHalf n && s.flag (Reg.SYNC_PD.MEAS.ix n)

/-- The neighbour on lane `n` is the one that the joint had when the outage grace began (R108): CHIP_UID and ENTRY_UID are those of the lane
then, or, where no PROBE had come on it, ENTRY_UID is that of the other lane. -/
def sameAcross (s : State) (e n : Nat) : Bool :=
  let ids := (s.vend e).graceIds
  let l := s.lane n
  match ids[lineOf n]?, ids[1 - lineOf n]? with
  | some (0, 0), some (_, u) => u = l.entryUid
  | some x, _ => x = (l.chipUid, l.entryUid)
  | none, _ => false

/-- Joint of end `e` after its lanes have been judged: gained (R108 bridges a return), lost, or unchanged. -/
def judgeJoint (s : State) (e : Nat) : State :=
  let was := (s.vend e).working
  let is := (s.lane (laneAt e 0)).working || (s.lane (laneAt e 1)).working
  let s := s.onEnd e fun v => { v with working := is }
  let s :=
    if is && !was then
      let v := s.vend e
      let same := [laneAt e 0, laneAt e 1].all fun n => !(s.lane n).working || s.sameAcross e n
      if v.grace.isSome then
        let s := s.onEnd e fun v => { v with grace := none, graceIds := [] }
        if same then s.record 0x0221 else s.jointChange (some e)
      else s.jointChange (some e)
    else if was && !is then s.jointGone e
    else s
  s.refreshIsolation e

/-- Both lanes of end `e` work with different ENTRY_UIDs: the B lane is held (R72); it is released once they agree (R503). -/
def judgePair (s : State) (e : Nat) : State :=
  let a := s.lane (laneAt e 0)
  let b := s.lane (laneAt e 1)
  if a.working && b.working && a.entryUid ≠ b.entryUid then
    ((s.onLane (laneAt e 1) fun l => { l with heldOut := 3, working := false }).purgeLane (laneAt e 1)).record 0x0109
  else if b.heldOut = 3 && a.entryUid = b.entryUid then
    let s := s.onLane (laneAt e 1) fun l => { l with heldOut := 0 }
    s.onLane (laneAt e 1) fun l => { l with working := s.laneOk (laneAt e 1) }
  else s

/-- Lane `n` judged against R70, and its joint with it. -/
def judgeLane (s : State) (n : Nat) : State :=
  let s := s.onLane n fun l => { l with working := s.laneOk n }
  (s.judgePair (endOf n)).judgeJoint (endOf n)

/-- Lane `n` leaves ACTIVE (R42, R43): its frames end, it goes to DOWN or DISABLED, and its joint is judged. -/
def leaveActive (s : State) (n : Nat) : State :=
  let s := (((s.onLane n fun l => { l with lostAt := some s.now }).dropLane n).dropPd n).restLane n
  let s := s.raise (Reg.LANE_IRQ.DOWN.at n)
  s.judgeLane n

/-- A retrain under R41: counted and recorded. An exit from ACTIVE that R41 does not list (EN = 0, quarantine, PACE 0 and 1, SLEEP, the end
of the WAKE pattern) is neither counted in LANE_RETRAIN nor recorded (log entry 38). -/
def retrain (s : State) (n : Nat) : State :=
  ((s.leaveActive n).bump (Reg.LANE_RETRAIN.COUNT.at n)).record 0x0102

/-- `k` code or disparity errors on lane `n`, each counted once (R64), kept for 100 µs (R41). -/
def codeErrors (s : State) (n k : Nat) : State :=
  if k = 0 then s
  else (s.bumpBy (Reg.LANE_CODEERR.COUNT.at n) k).onLane n fun l => { l with errs := (s.now, k) :: l.errs.filter fun e => s.now - e.1 ≤ us 100 }

/-- More than 64 errors within 100 µs retrain an ACTIVE lane (R41). -/
def judgeErrors (s : State) (n : Nat) : State :=
  let k := (((s.lane n).errs.filter fun e => s.now - e.1 ≤ us 100).map (·.2)).sum
  if 64 < k ∧ s.laneUp n then s.retrain n else s

end Sys2Proof.Machine.State
end

