-- ==== Sys2Proof/Machine/Ports.lean ====
section
/-! DEFINITION. Routes of MGMT and BULK frames that the node originates (R226 to R228), and what consist ports, host rings and reads of
host memory share (R259 to R275). -/

namespace Sys2Proof.Machine

/-- `n` bytes that hold `v` little-endian (R2: descriptor rings). -/
def natLe (n v : Nat) : Bytes := (natBe n v).reverse

/-- The value of a little-endian byte string. -/
def leNat (b : Bytes) : Nat := beNat b.reverse

/-- The outer tag, the EtherType after it, the offset of the next header (R249, Table 09.1). -/
def ethTagged (b : Bytes) : Bool := fieldAt b 12 2 = 0x8100
def ethTci (b : Bytes) : Nat := if ethTagged b then fieldAt b 14 2 else 0
def ethNext (b : Bytes) : Nat := if ethTagged b then 18 else 14
def ethType (b : Bytes) : Nat := fieldAt b (ethNext b - 2) 2

/-- Destination port of UDP over IPv4 without options. -/
def udpPort (b : Bytes) : Option Nat :=
  let n := ethNext b
  if ethType b = 0x0800 ∧ byteAt b n = 0x45 ∧ byteAt b (n + 9) = 17 then some (fieldAt b (n + 22) 2) else none

/-- The frame with its FCS (R254, R266). -/
def withFcs (b : Bytes) : Bytes := b ++ fcsBytes b

/-- Data of a frame of at least 4 bytes, its FCS stripped; the FCS is right. -/
def ethData (b : Bytes) : Bytes := b.take (b.length - 4)
def ethFcsOk (b : Bytes) : Bool := b.drop (b.length - 4) = fcsBytes (ethData b)

namespace State

/-- What consist port `p` holds. -/
def port (s : State) (p : Nat) : PortS := s.ports[p]?.getD {}

/-- Consist port `p` changed by `f`. -/
def onPort (s : State) (p : Nat) (f : PortS → PortS) : State :=
  { s with ports := s.ports.setIfInBounds p (f (s.port p)) }

/-- One byte on the wire of port `p` at the link speed, 1/16 ns. -/
def byteTime (s : State) (p : Nat) : Nat :=
  match s.get (Reg.CONS_STAT.SPEED.at p) with | 0 => ns 800 | 1 => ns 80 | _ => ns 8

/-- The correction of R216 for the speed in force, ns: receive, transmit. -/
def pcor (s : State) (p : Nat) : Nat × Nat :=
  match s.get (Reg.CONS_STAT.SPEED.at p) with
  | 0 => (s.get (Reg.TIME_PCOR_S0.RX.ix p), s.get (Reg.TIME_PCOR_S0.TX.ix p))
  | 1 => (s.get (Reg.TIME_PCOR_S1.RX.ix p), s.get (Reg.TIME_PCOR_S1.TX.ix p))
  | _ => (s.get (Reg.TIME_PCOR_S2.RX.ix p), s.get (Reg.TIME_PCOR_S2.TX.ix p))

/-- The port's link is up (R250). -/
def linkUp (s : State) (p : Nat) : Bool := s.flag (Reg.CONS_STAT.LINK.at p)

/-! Routes. -/

/-- The vehicle end ends the train for MGMT and BULK: no neighbour in the chain in force, or the break joint. -/
def endsHere (s : State) (e : Nat) : Bool := s.breakEnd = some e || (s.namedAt e).isNone

/-- The lane at end `e` for a frame of the preferred line `l`, single node or twin half (R228), and whether it changed line. -/
def pickLane (s : State) (e l : Nat) : Option (Nat × Bool) :=
  if s.twinOn then
    if (s.lane (laneAt e s.half)).working then some (laneAt e s.half, false) else none
  else if (s.lane (laneAt e l)).working then some (laneAt e l, false)
  else if (s.lane (laneAt e (1 - l))).working then some (laneAt e (1 - l), true)
  else none

/-- The lanes on which the originator sends a MGMT or BULK frame to `dst` (R226, R228), never across an isolated joint (R110); a twin
half without its lane counts FWD_NOPATH. The line is that of FWD_LINESEL unless one is given. -/
def routeOut (s : State) (cls : Cls) (dst : Nat) (line? : Option Nat := none) : List Nat × State :=
  match s.roster with
  | none => ([], s)
  | some r =>
    let q := r.seqOf s.pos
    let ends := if dst = 0 then [s.aftEnd, s.foreEnd] else if q < r.seqOf dst then [s.aftEnd] else [s.foreEnd]
    let line := line?.getD (if cls = .mgmt then s.get Reg.FWD_LINESEL.MGMT else s.get Reg.FWD_LINESEL.BULK)
    ends.foldl (fun (acc : List Nat × State) e =>
      if s.endsHere e then (acc.1, if dst = 0 then acc.2 else acc.2.bump Reg.FWD_UNDELIV.COUNT)
      else if (s.vend e).isolated then acc
      else match s.pickLane e line with
        | some (n, _) => (acc.1 ++ [n], acc.2)
        | none => (acc.1, if s.twinOn then acc.2.bump Reg.FWD_NOPATH.COUNT else acc.2)) ([], s)

/-- DIR of a frame to `dst` (Table 02.6); a frame to all positions takes it per copy. -/
def dirFlag (s : State) (dst : Nat) : Nat :=
  match s.roster with
  | some r => if dst ≠ 0 && !(r.seqOf s.pos < r.seqOf dst) then 0x80 else 0
  | none => 0

/-- A CMD, CPL or ETH frame that the node originates leaves by its route (R226, R236); false where buffers are refused or none of its
lanes can take it. Nothing leaves while FWD_CTRL.EN is 0 or no roster is in force. -/
def sendRouted (s : State) (h : Hdr) (pl : Bytes) (exempt : Bool := false) : State :=
  if !s.flag Reg.FWD_CTRL.EN then s
  else if s.inau.force.isNone then s.bump Reg.FWD_NOROST.COUNT
  else
    let f := mkFrame { h with flags := h.flags ||| s.dirFlag h.dst, src := s.pos, gen := s.gen } pl
    let (lanes, s) := s.routeOut h.cls h.dst
    s.originate f lanes exempt 11 fun x => { x with patch := if h.dst = 0 then .dir else .none }

/-- A frame that stands in the pool leaves the backbone by its route as `bytes`: every copy is a reference to its buffers (R220, R226). -/
def routeFrame (s : State) (fid : Nat) (c : Cls) (dst : Nat) (bytes : Bytes) : State :=
  let s := s.onFrame fid fun f => { f with bytes := bytes, cls := c, patch := if dst = 0 then .dir else .none }
  let (lanes, s) := s.routeOut c dst
  let s := s.onFrame fid fun f => { f with dmask := f.dmask ||| (lanes.map (2 ^ ·)).sum }
  let s := lanes.foldl (fun s n => s.enqueue n fid) s
  lanes.foldl (fun s n => (s.advance n).chooseTx n) s

/-- A FRAME packet to chip `dst` of the stack (R427): the fabric tag with DMASK `mask` and the frame (log entry 28). -/
def frameTo (s : State) (dst mask : Nat) (c : Cls) (code : Nat) (data : Bytes) : State :=
  s.stackSend 4 0 dst 0 0 0 (natBe 2 mask ++ natBe 1 (64 * c.code) ++ natBe 1 code ++ natBe 2 data.length ++ natBe 4 (shortNs s.presented % 2 ^ 32)
    ++ natBe 4 0 ++ natBe 2 s.gen ++ data)

/-- A FRAME packet from a stack member to its master. -/
def frameUp (s : State) (mask : Nat) (c : Cls) (code : Nat) (data : Bytes) : State := s.frameTo 0 mask c code data

/-- A TT or VITAL frame goes to every stack member, which delivers it to the subscriptions of its own table (R16, R220: egress code 10). -/
def toMembers (s : State) (n : Nat) (f : Bytes) : State := s.members.foldl (fun s m => s.frameTo m (2 ^ 12) (hCls f) n f) s

/-! Reads and writes of host memory. -/

/-- The range of `len` bytes from `addr` on, cut at multiples of `m`. -/
def cutAt (m addr len : Nat) : List (Nat × Nat) :=
  if len = 0 then [] else
  (List.range ((addr + len - 1) / m + 1 - addr / m)).map fun i =>
    let lo := max addr ((addr / m + i) * m)
    (lo, min (addr + len) ((addr / m + i + 1) * m) - lo)

/-- Max read request size and max payload size in force, bytes (Table 15.1): 512 for every larger read request size. -/
def mrrs (s : State) : Nat := 128 * 2 ^ min 2 (s.get Reg.BRDG_PCIE.MRRS)
def mps (s : State) : Nat := 128 * 2 ^ min 1 (s.get Reg.BRDG_PCIE.MPS)

/-- Bytes are written to host memory, a memory write for each payload. -/
def hostPut (s : State) (addr : Nat) (b : Bytes) : State :=
  (cutAt s.mps addr b.length).foldl (fun s r => s.emit (.hostWrite r.1 ((b.drop (r.1 - addr)).take r.2))) s

/-- Every read of host memory not yet complete. -/
def allFetches (s : State) : List Fetch := s.host.fetches.map (·.kind)

/-- A read of host memory is discarded with its frame. -/
def dropFetch (s : State) (x : Fetch) : State :=
  match x with
  | .rxDesc _ _ _ _ fid _ _ _ _ => (s.onFrame fid fun f => { f with host := f.host - 1 }).gc fid
  | .txData _ _ _ fid => s.freeFrame fid
  | _ => s

/-- A request is issued and its data have not come. -/
def partOpen (p : FetchPart) : Bool := p.tag.isSome && p.data.isNone

/-- The tags of 0 to 31 that no open request holds, lowest first (Table 15.1). -/
def freeTags (s : State) : List Nat :=
  let used := s.host.fetches.flatMap fun o => (o.parts.filter partOpen).filterMap (·.tag)
  (List.range 32).filter fun t => !used.contains t

/-- Tags for the requests of a list that have none yet, as far as there are tags; the tags left. -/
def tagParts : List Nat → List FetchPart → List FetchPart × List Nat
  | ts, [] => ([], ts)
  | [], ps => (ps, [])
  | t :: ts, p :: ps =>
    if p.tag.isSome then
      let r := tagParts (t :: ts) ps
      (p :: r.1, r.2)
    else
      let r := tagParts ts ps
      ({ p with tag := some t } :: r.1, r.2)

/-- The same over reads, the oldest first. -/
def tagOps : List Nat → List FetchOp → List FetchOp
  | _, [] => []
  | ts, o :: os =>
    let r := tagParts ts o.parts
    { o with parts := r.1 } :: tagOps r.2 os

/-- Requests that wait are issued in order, each under the lowest free tag; they wait while all tags are taken (Table 15.1, log entry 28). -/
def issueReads (s : State) : State :=
  let new := tagOps s.freeTags s.host.fetches
  let out (o n : FetchPart) : List Out := match o.tag, n.tag with | none, some t => [.hostRead t n.addr n.len] | _, _ => []
  let outs := (s.host.fetches.zip new).flatMap fun x => (x.1.parts.zip x.2.parts).flatMap fun p => out p.1 p.2
  outs.foldl emit { s with host.fetches := new }

/-- A read of host memory: its ranges, cut by the max read request size, are read under a tag each (Table 15.1). -/
def fetch (s : State) (k : Fetch) (reads : List (Nat × Nat)) : State :=
  let parts := (reads.flatMap fun r => cutAt s.mrrs r.1 r.2).map fun r => ({ addr := r.1, len := r.2 } : FetchPart)
  State.issueReads { s with host.fetches := s.host.fetches ++ [{ kind := k, parts := parts }] }

/-- Base address of a ring. -/
def rxBase (s : State) (p q : Nat) : Nat :=
  s.get ((Reg.CONS_RXQ_BASEHI.BASEHI.at p).ix q) * 2 ^ 32 + s.get ((Reg.CONS_RXQ_BASELO.BASELO.at p).ix q) * 64
def txBase (s : State) (p q : Nat) : Nat :=
  s.get ((Reg.CONS_TXQ_BASEHI.BASEHI.at p).ix q) * 2 ^ 32 + s.get ((Reg.CONS_TXQ_BASELO.BASELO.at p).ix q) * 64

/-- Address ranges of `n` entries of `sz` bytes from index `i` of a ring of `size` entries. -/
def ringSpan (base size sz i n : Nat) : List (Nat × Nat) :=
  if i + n ≤ size then [(base + sz * i, sz * n)] else [(base + sz * i, sz * (size - i)), (base, sz * (n - (size - i)))]

/-- The moderation entry of a ring of port `p`. -/
def modOf (s : State) (p : Nat) (k : Bool × Nat) : Nat × Option Nat := (((s.port p).mods.find? (·.1 = k)).map (·.2)).getD (0, none)
def setMod (s : State) (p : Nat) (k : Bool × Nat) (m : Nat × Option Nat) : State :=
  s.onPort p fun t => { t with mods := (t.mods.filter (·.1 ≠ k)) ++ (if m = (0, none) then [] else [(k, m)]) }

/-- The interrupt bit of a ring: TXQ or RXQ of CONS_IRQ, bit `q`. -/
def ringBit (p : Nat) (tx : Bool) (q : Nat) : Fld :=
  let f := if tx then Reg.CONS_IRQ.TXQ0 else Reg.CONS_IRQ.RXQ0
  { f.at p with lo := f.lo + q }

/-- A frame of a ring has completed: after IFRAMES frames the ring's bit is set, and ITIME runs from the first unsignalled one. -/
def ringDone (s : State) (p : Nat) (tx : Bool) (q : Nat) : State :=
  let fr := max 1 (s.get (((if tx then Reg.CONS_TXQ_IMOD.IFRAMES else Reg.CONS_RXQ_IMOD.IFRAMES).at p).ix q))
  let ti := s.get (((if tx then Reg.CONS_TXQ_IMOD.ITIME else Reg.CONS_RXQ_IMOD.ITIME).at p).ix q)
  let (c, d) := s.modOf p (tx, q)
  if fr ≤ c + 1 then (s.setMod p (tx, q) (0, none)).raise (ringBit p tx q)
  else s.setMod p (tx, q) (c + 1, if d.isSome then d else if ti = 0 then none else some (s.now + us ti))

/-- Descriptors of a ring written behind an unfinished frame (R270). -/
def passedOf (s : State) (p : Nat) (tx : Bool) (q : Nat) : Nat :=
  (((s.port p).passed.filter fun x => x.1 = tx && x.2.1 = q).map fun x => x.2.2.2).sum

/-- HEAD moves past every frame from it on whose descriptors are written (R270); `n` descriptors from `idx` on have been written now. -/
def passHead (s : State) (p : Nat) (tx : Bool) (q idx n : Nat) : State :=
  let head := ((if tx then Reg.CONS_TXQ_HEAD.HEAD else Reg.CONS_RXQ_HEAD.HEAD).at p).ix q
  let size := if tx then s.txSize p q else s.rxSize p q
  let s := s.onPort p fun t => { t with passed := t.passed ++ [(tx, q, idx, n)] }
  (List.range (s.port p).passed.length).foldl (fun s _ =>
    match (s.port p).passed.find? fun x => x.1 = tx && x.2.1 = q && x.2.2.1 = s.get head % size with
    | none => s
    | some x => (s.onPort p fun t => { t with passed := t.passed.erase x }).put head ((x.2.2.1 + x.2.2.2) % size)) s

/-! Receive rings (R270 to R272). -/

/-- Descriptors of receive ring `q` behind HEAD that a frame has taken. -/
def rxUsed (s : State) (p q : Nat) : Nat :=
  (s.allFetches.map fun k => match k with
    | .rxDesc p' q' _ n _ _ _ _ _ => if p' = p ∧ q' = q then n else 0
    | _ => 0).sum + s.passedOf p false q

/-- Descriptors of receive ring `q` that belong to the node and await no frame yet. -/
def rxOwned (s : State) (p q : Nat) : Nat :=
  let size := s.rxSize p q
  let used := s.rxUsed p q
  (s.get ((Reg.CONS_RXQ_TAIL.TAIL.at p).ix q) + size - s.get ((Reg.CONS_RXQ_HEAD.HEAD.at p).ix q) % size) % size - used

/-- Next index of receive ring `q` for a frame. -/
def rxNext (s : State) (p q : Nat) : Nat :=
  (s.get ((Reg.CONS_RXQ_HEAD.HEAD.at p).ix q) + s.rxUsed p q) % s.rxSize p q

/-- A complete frame for receive ring `q` of port `p`: TAIL is sampled once; a disabled or dry ring drops the copy (R272), as does any
ring in D3hot (R409), and no copy starts from the Dusk dimming on (Table 13.3). -/
def toRing (s : State) (p q fid : Nat) (data : Bytes) (ts tci stat : Nat) : State :=
  let n := ceilDiv data.length (s.rxBufSz p q)
  if !s.flag ((Reg.CONS_RXQ_CFG.EN.at p).ix q) || s.portOff || s.dimmed || s.rxOwned p q < n then
    ((s.bump (Reg.CONS_RXDRY.COUNT.at p)).bump Reg.FWD_SINKFULL.COUNT).raise (Reg.CONS_IRQ.DROP.at p)
  else
    let i := s.rxNext p q
    let s := s.onFrame fid fun f => { f with host := f.host + 1, dmask := f.dmask ||| 0x100 }
    s.fetch (.rxDesc p q i n fid data ts tci stat) (ringSpan (s.rxBase p q) (s.rxSize p q) 16 i n)

/-- The descriptors of a receive frame have arrived: data, then descriptors (Table 09.5), then HEAD (R270). -/
def rxWrite (s : State) (p q idx n fid : Nat) (data : Bytes) (ts tci stat : Nat) (descs : Bytes) : State :=
  let bs := s.rxBufSz p q
  let size := s.rxSize p q
  let part (i : Nat) : Bytes := (data.drop (bs * i)).take bs
  let s := (List.range n).foldl (fun s i => s.hostPut (leNat ((descs.drop (16 * i)).take 8) / 64 * 64) (part i)) s
  let s := (List.range n).foldl (fun s i =>
    let first := i = 0
    let last := i + 1 = n
    let st := stat + 2 ^ 31 + (if first then 2 ^ 30 else 0) + (if last then 2 ^ 29 + data.length % 2 ^ 14 else 0)
    let d := natLe 8 ts ++ natLe 2 (part i).length ++ natLe 2 (if first then tci else 0) ++ natLe 4 st
    s.hostPut (s.rxBase p q + 16 * ((idx + i) % size)) d) s
  let s := s.passHead p false q idx n
  let s := { s with host.held := s.host.held ++ [(p, q, fid)] }
  s.ringDone p false q

/-- A write of TAIL of a receive ring: the host has taken the frames written so far, and their copies end (chapter 09, Table 09.7). -/
def rxTaken (s : State) (p q : Nat) : State :=
  let mine := s.host.held.filter fun (h : Nat × Nat × Nat) => h.1 = p && h.2.1 = q
  let s := { s with host.held := s.host.held.filter fun (h : Nat × Nat × Nat) => !(h.1 = p && h.2.1 = q) }
  mine.foldl (fun s h => (s.onFrame h.2.2 fun f => { f with host := f.host - 1 }).gc h.2.2) s

/-! Transmit queues (R252, R263, R273). -/

/-- The descriptors of a host frame are written back with a result, and HEAD moves past them (R270, R273). -/
def backNow (s : State) (p : Nat) (h : HostTx) (result : Nat) (ts : Option Nat) : State :=
  let n := h.descs.length / 16
  let size := s.txSize p h.ring
  let s := (List.range n).foldl (fun s i =>
    let d := (h.descs.drop (16 * i)).take 16
    let ctl := leNat (d.drop 12)
    let last := i + 1 = n
    let st := 2 ^ 31 + bits ctl 30 27 * 2 ^ 27 + (if last then (if ts.isSome then 2 ^ 26 else 0) + result * 2 ^ 22 else 0)
    let head := match ts with | some t => if last then natLe 8 t else d.take 8 | none => d.take 8
    s.hostPut (s.txBase p h.ring + 16 * ((h.idx + i) % size)) (head ++ (d.drop 8).take 2 ++ [0, 0] ++ natLe 4 st)) s
  let s := s.passHead p true h.ring h.idx n
  s.ringDone p true h.ring

/-- A host frame is done with a result: written back, or kept until the function is back in D0 (R409). -/
def writeBack (s : State) (p : Nat) (h : HostTx) (result : Nat) (ts : Option Nat) : State :=
  if s.inD3 then { s with host.backs := s.host.backs ++ [(p, h, result, ts)] } else s.backNow p h result ts

/-- The copy of frame `fid` at consist port `p` has ended. -/
def endCopy (s : State) (p fid : Nat) : State := (s.onFrame fid fun f => { f with due := f.due.erase (4 + p) }).gc fid

/-- A frame that cannot leave because the link is down: RESULT LINK, or counted in CONS_TXFLUSH (R252). -/
def flushItem (s : State) (p : Nat) (it : PItem) : State :=
  let s := match it.host with
    | some h => s.writeBack p h 3 none
    | none => s.bump (Reg.CONS_TXFLUSH.COUNT.at p)
  s.endCopy p it.fid

/-- A frame reaches a transmit queue of port `p` (R263, R252, R259). -/
def pushTx (s : State) (p : Nat) (it : PItem) : State :=
  let s := s.onFrame it.fid fun f => { f with due := (4 + p) :: f.due, dmask := f.dmask ||| 2 ^ (4 + p), portq := it.q }
  if it.host.isNone && s.maxLen p < it.bytes.length then (s.bump (Reg.CONS_TXLEN.COUNT.at p)).endCopy p it.fid
  else if !s.linkUp p then s.flushItem p it
  else s.onPort p fun t => { t with txq := t.txq ++ [it] }

/-- The transmit queue for a priority (CONS_PCPMAP). -/
def pcpQueue (s : State) (p pcp : Nat) : Nat := s.get (Reg.CONS_PCPMAP.MAP.at p) / 2 ^ (3 * pcp) % 8

/-- A frame of the management core for port `p`, FCS included: queue 7 unless it says otherwise (R263). -/
def sendEth (s : State) (p : Nat) (data : Bytes) (q : Nat := 7) (ptp : Option (Nat × Nat) := none) (launch : Option Nat := none)
    (cor : Nat := 0) (code : Nat := 11) (claim : Nat := 0) : State :=
  let b := withFcs (data ++ List.replicate (60 - data.length) 0)
  let cls : Cls := if code = 13 then .tt else .mgmt
  let f : PFrame := { fid := 0, ingress := code, cls := cls, bytes := b, complete := true, stamp := some s.now, claim := claim }
  match s.enterPool f b.length with
  | none => s.refuseBuf cls
  | some (fid, s) => (s.pushTx p { q := q, fid := fid, bytes := b, ptp := ptp, launch := launch, cor := cor }).gc fid

/-! Pause frames (R268). -/

/-- Buffers held by frames of the port's ingress that are not yet sent or delivered. -/
def ingressBufs (s : State) (p : Nat) : Nat :=
  let rings (f : PFrame) : Nat := (s.allFetches.filter fun | .rxDesc _ _ _ _ fid _ _ _ _ => fid = f.fid | _ => false).length
  ((s.fab.frames.filter fun f => f.ingress = 4 + p && (!f.complete || s.hasCopy { f with host := rings f })).map PFrame.bufs).sum

/-- The MAC control frame that carries `quanta` (IEEE 802.3 Annex 31B). -/
def pauseFrame (p quanta : Nat) : Bytes :=
  withFcs (natBe 6 0x0180C2000001 ++ natBe 6 (Config.macAddr p).toNat ++ natBe 2 0x8808 ++ natBe 2 1 ++ natBe 2 quanta
    ++ List.replicate 42 0)

/-- Pause frames that wait go out between frames, ahead of queue 7; none starts while the node is dimmed (R369). -/
def flushPause (s : State) (p : Nat) : State :=
  let t := s.port p
  if t.tx.isSome || !s.linkUp p || s.dimmed then s
  else
    let s := t.pauseOut.foldl (fun s q => (s.emit (.eth p (pauseFrame p q) true)).bump (Reg.CONS_PAUSETX.COUNT.at p)) s
    s.onPort p fun t => { t with pauseOut := [] }

/-- Half of XOFFQ, 1/16 ns: a quantum is 512 bit times. -/
def halfXoffq (s : State) (p : Nat) : Nat := s.get (Reg.CONS_PAUSE.XOFFQ.at p) * 64 * s.byteTime p / 2

/-- XOFF is reached: the first pause frame goes out (R268). -/
def checkXoff (s : State) (p : Nat) : State :=
  if !s.flag (Reg.CONS_PAUSE.TXEN.at p) then s.onPort p fun t => { t with xoffAt := none }
  else if s.flag (Reg.CONS_PAUSE.TXEN.at p) && (s.port p).xoffAt.isNone && decide (s.xoff p ≤ s.ingressBufs p) then
    (s.onPort p fun t => { t with pauseOut := t.pauseOut ++ [s.get (Reg.CONS_PAUSE.XOFFQ.at p)],
                                  xoffAt := some (s.now + s.halfXoffq p) }).flushPause p
  else s

end State

end Sys2Proof.Machine
end

