-- ==== Sys2Proof/Machine/Consist.lean ====
section
/-! DEFINITION. Consist ports: link (R250 to R252), steering and filter rules (R255 to R259), reception (R253, R260 to R262),
transmission (R263 to R266), pause (R267 to R269), transmit rings (R272 to R275), MDIO (R276). -/

namespace Sys2Proof.Machine

namespace State

/-! Link. -/

/-- The link goes down: the four steps of R252, then the events of R250. -/
def linkDown (s : State) (p : Nat) : State :=
  if !s.linkUp p then s
  else
    let t := s.port p
    let s := (t.rx.toList ++ (t.frag.bind EthFrag.rx).toList).foldl (fun s (r : EthRx) =>
      match r.fid with | some fid => s.freeFrame fid | none => s) s
    let s := s.onPort p fun t => { t with rx := none, frag := none, tx := none, txHeld := none, txq := [], pauseOut := [], hdxRec := false, verifying := false }
    let cut := t.tx.toList ++ t.txHeld.toList
    let s := cut.foldl (fun s (x : PTx) =>
      let s := s.emit (.eth p x.item.bytes false)
      let s := match x.item.host with | some h => s.writeBack p h 3 none | none => s
      s.endCopy p x.item.fid) s
    let s := (s.put (Reg.CONS_STAT.LINK.at p) 0).put (Reg.CONS_STAT.PACT.at p) 0
    let s := t.txq.foldl (fun s it => s.flushItem p it) s
    (s.raise (Reg.CONS_IRQ.LINK.at p)).record 0x0803

/-- The link comes up at full duplex (R250); preemption is active without verification, or its exchange starts (R264). -/
def linkGain (s : State) (p speed : Nat) : State :=
  let s := ((s.put (Reg.CONS_STAT.LINK.at p) 1).put (Reg.CONS_STAT.SPEED.at p) speed).put (Reg.CONS_STAT.HDX.at p) 0
  let pre := s.flag (Reg.CONS_TXCFG.PREEN.at p)
  let ver := s.flag (Reg.CONS_TXCFG.VERIFY.at p)
  let s := (s.put (Reg.CONS_STAT.PVFAIL.at p) 0).putB (Reg.CONS_STAT.PACT.at p) (pre && !ver)
  let s := s.onPort p fun t => { t with hdxRec := false, verifying := pre && ver }
  let s := if pre && ver then s.emit (.mpacket p 0) else s
  (s.raise (Reg.CONS_IRQ.LINK.at p)).record 0x0802

/-- The PHY's code word reports a link (R250, R251). -/
def takeLink (s : State) (p speed : Nat) (full : Bool) : State :=
  if !s.flag (Reg.CONS_CTRL.EN.at p) then s
  else
    let s := s.put (Reg.CONS_STAT.SYNC.at p) 1
    if !full then
      let rec_ := (s.port p).hdxRec
      let s := (s.linkDown p).put (Reg.CONS_STAT.HDX.at p) 1
      let s := s.onPort p fun t => { t with hdxRec := true }
      if rec_ then s else s.record 0x0804
    else if !s.linkUp p then s.linkGain p speed
    else if s.get (Reg.CONS_STAT.SPEED.at p) = speed then s
    else (s.linkDown p).linkGain p speed

/-! Steering. -/

/-- PCP and VID of a frame, those of CONS_PVID for an untagged one. -/
def ethPcp (s : State) (p : Nat) (b : Bytes) : Nat := if ethTagged b then ethTci b / 8192 else s.get (Reg.CONS_PVID.PCP.at p)
def ethVid (s : State) (p : Nat) (b : Bytes) : Nat := if ethTagged b then ethTci b % 4096 else s.get (Reg.CONS_PVID.PVID.at p)

/-- A rule's match (Table 09.3). -/
def ruleHits (s : State) (p : Nat) (b : Bytes) (w0 w1 : Nat) : Bool :=
  bit w1 31
    && (!bit w1 30 || bits w0 31 16 = ethType b)
    && (!bit w1 29 || bits w0 15 13 = s.ethPcp p b)
    && (!bit w1 28 || bits w0 11 0 = s.ethVid p b)
    && (match bits w1 27 26 with | 1 => !ethTagged b | 2 => ethTagged b | _ => true)

/-- The destinations that W2 and W3 name (Table 09.3). -/
def actionOf (p w2 w3 rule : Nat) : EthDest :=
  if bit w2 31 then { rule := rule }
  else
    { mcore := bit w2 20
      host := if bit w2 30 then some (bits w2 29 27) else none
      bb := if bit w2 26 then some (if bit w2 25 then .mgmt else .bulk, bits w3 31 16, bits w3 12 8) else none
      lports := bits w2 24 21 &&& (15 ^^^ 2 ^ p)
      rule := rule }

/-- No destination is named (R257). -/
def noDest (d : EthDest) : Bool := !d.ctl && !d.ptp && !d.io && !d.mcore && d.host.isNone && d.bb.isNone && d.lports = 0

/-- The lowest rule that matches; the rules are kept in rising order. -/
def firstRule (s : State) (p : Nat) (b : Bytes) : Option (Nat × (Nat × Nat × Nat × Nat)) :=
  (List.range 64).findSome? fun r =>
    match (s.port p).rules.find? (fun e => e.1 = r && s.ruleHits p b e.2.1 e.2.2.1) with
    | some e => some e
    | none => none

/-- The steering decision (R255, R256). -/
def steer (s : State) (p : Nat) (b : Bytes) : EthDest :=
  let ty := ethType b
  let u := udpPort b
  if ty = 0x8808 then { ctl := true }
  else if s.flag (Reg.TIME_PTP.PEN.ix p) && (ty = 0x88F7 || u = some 319 || u = some 320) then { ptp := true }
  else if s.flag (Reg.CONS_CTRL.IOEN.at p) && ty = s.get (Reg.CONS_IOETYPE.ETYPE.at p) then { io := true }
  else match s.firstRule p b with
    | some (r, _, _, w2, w3) => actionOf p w2 w3 r
    | none => actionOf p (s.get (Reg.CONS_DEFA.W2.at p)) (s.get (Reg.CONS_DEFB.W3.at p)) 0xFF

/-- The class by which a received frame draws buffers (R260). -/
def ethClass (d : EthDest) : Cls :=
  if d.io then .tt
  else if d.ptp || d.mcore then .mgmt
  else match d.bb with | some (c, _, _) => c | none => .bulk

/-- The entry latch is full: the destinations are chosen (R255 to R257). A frame without one is counted in CONS_FILTDROP. -/
def openRx (s : State) (p : Nat) (latch : Bytes) (stamp : Nat) : State :=
  let d := s.steer p latch
  let drop := noDest d
  let s := if drop then s.bump (Reg.CONS_FILTDROP.COUNT.at p) else s
  s.onPort p fun t => { t with rx := some { bytes := latch, stamp := stamp, dest := d, skip := drop } }

/-! Buffers on the way in. -/

/-- Bytes that arrive inside the open frame. -/
def rxBytes (s : State) (p : Nat) (bs : Bytes) : State :=
  s.onPort p fun t => { t with rx := t.rx.map fun r => { r with bytes := r.bytes ++ bs } }

/-- Buffers that the open frame holds. -/
def rxHolds (s : State) (r : EthRx) : Nat := (r.fid.bind s.frame?).elim 0 PFrame.bufs

/-- The open frame is discarded and every buffer it holds is free (R253, R261). -/
def dropEth (s : State) (p : Nat) : State :=
  let s := match (s.port p).rx.bind (·.fid) with | some fid => s.freeFrame fid | none => s
  s.onPort p fun t => { t with rx := t.rx.map fun r => { r with skip := true, fid := none } }

/-- One buffer for the open frame, or the frame is dropped (R260, R261). -/
def drawEth (s : State) (p : Nat) : State :=
  match (s.port p).rx with
  | none => s
  | some r =>
    if r.skip || r.dest.ctl then s
    else match s.draw (ethClass r.dest) (4 + p) 1 with
      | none =>
        let s := ((s.dropEth p).bump (Reg.CONS_RXNOBUF.COUNT.at p)).raise (Reg.CONS_IRQ.DROP.at p)
        s.recordSec 0x0806 p
      | some (a, m, h) =>
        let s := match r.fid with
          | some fid => s.onFrame fid fun f => { f with nRes := f.nRes + a, nMin := f.nMin + m, nSh := f.nSh + h }
          | none =>
            let fid := s.fab.nextFid
            let f : PFrame := { fid := fid, ingress := 4 + p, cls := ethClass r.dest, bytes := [], complete := false,
                                stamp := some r.stamp, nRes := a, nMin := m, nSh := h, gen := s.gen, inAt := s.now,
                                arrival := shortNs s.presented % 2 ^ 32 }
            let s : State := { s with fab := { s.fab with frames := s.fab.frames ++ [f], nextFid := fid + 1 } }
            s.onPort p fun t => { t with rx := t.rx.map fun (r : EthRx) => { r with fid := some fid } }
        let s : State := { s with fab := { s.fab with free := s.fab.free - 1 } }
        (s.refreshFloor).checkXoff p

/-- Buffers for every byte of the open frame so far. -/
def drawNeeded (s : State) (p : Nat) : Nat → State
  | 0 => s
  | fuel + 1 =>
    match (s.port p).rx with
    | none => s
    | some r => if r.skip || r.dest.ctl || bufsFor r.bytes.length ≤ s.rxHolds r then s else drawNeeded (s.drawEth p) p fuel

/-! The end of a received frame. -/

/-- The ETH frame of R258. -/
def ethFrame (s : State) (p : Nat) (c : Cls) (dst pmask : Nat) (data : Bytes) : Bytes :=
  mkFrame { cls := c, type := 0x06, flags := s.dirFlag dst, src := s.pos, dst := dst, gen := s.gen }
    (natBe 1 pmask ++ natBe 1 (s.ethPcp p data) ++ [0, 0] ++ data)

/-- The backbone copy of an accepted frame (R229, R258): its lanes, or the reason it does not leave. -/
def bbCopy (s : State) (p fid : Nat) (c : Cls) (dst pmask : Nat) (data : Bytes) : State :=
  if data.length < 60 || 2044 < data.length then (s.bump Reg.FWD_ETHLONG.COUNT).recordSec 0x0705 p
  else if !s.flag Reg.FWD_CTRL.EN then s
  -- R16: a stack member's frame leaves through its master
  else if s.stackId ≠ 0 then s.frameUp 15 c (4 + p) (s.ethFrame p c dst pmask data)
  else if s.inau.force.isNone then s.bump Reg.FWD_NOROST.COUNT
  else s.routeFrame fid c dst (s.ethFrame p c dst pmask data)

/-- An accepted frame goes to its destinations (R254, R257 to R259, R262). -/
def acceptEth (s : State) (p : Nat) (r : EthRx) : State :=
  let s := s.bump (Reg.CONS_RXGOOD.COUNT.at p)
  match r.fid with
  | none => s
  | some fid =>
    let data := ethData r.bytes
    let kept := if s.flag (Reg.CONS_CFG.KEEPFCS.at p) then r.bytes else data
    -- the frame keeps its buffers until every destination has been looked at (R260)
    let s := s.onFrame fid fun f => { f with bytes := data, complete := true, host := f.host + 1 }
    let pcp := s.ethPcp p data
    let s := match r.dest.bb with | some (c, dst, pm) => s.bbCopy p fid c dst pm data | none => s
    let s := match r.dest.host with
      | some q =>
        let ts := short16 (s.presentedAt r.stamp - ns (s.pcor p).1)
        let stat := (if ethTagged data then 2 ^ 28 else 0) + 2 ^ 26 + r.dest.rule * 2 ^ 16
        s.toRing p q fid kept ts (ethTci data) stat
      | none => s
    let s := (List.range 4).foldl (fun s n =>
      if bit r.dest.lports n then s.pushTx n { q := s.pcpQueue n pcp, fid := fid, bytes := withFcs data } else s) s
    (s.onFrame fid fun f => { f with host := f.host - 1 }).gc fid

/-- A received frame ends (Table 09.2). Pause frames and unsupported MAC control frames: R249, R253. -/
def endRx (s : State) (p : Nat) (bs : Bytes) (err : Bool) (stamp : Nat) : State :=
  let s := match (s.port p).rx with
    | some _ => s.rxBytes p bs
    | none => if bs.length < 64 then s else (s.openRx p (bs.take 64) stamp).rxBytes p (bs.drop 64)
  match (s.port p).rx with
  | none => s.bump (Reg.CONS_RXRUNT.COUNT.at p)
  | some r =>
    let giant := s.maxLen p < r.bytes.length
    let s := if r.skip || giant then s else s.drawNeeded p (bufsFor r.bytes.length)
    match (s.port p).rx with
    | none => s
    | some r =>
      let shut (s : State) : State := (s.dropEth p).onPort p fun t => { t with rx := none }
      if r.skip then shut s
      else if giant then (shut s).bump (Reg.CONS_RXGIANT.COUNT.at p)
      else if err then (shut s).bump (Reg.CONS_RXERR.COUNT.at p)
      else if !ethFcsOk r.bytes then (shut s).bump (Reg.CONS_RXFCS.COUNT.at p)
      else if r.dest.ctl then
        -- a pause frame has its own command (R267)
        let s := shut s
        if r.bytes.length = 64 && fieldAt r.bytes (ethNext r.bytes) 2 = 1 then s else s.bump (Reg.CONS_MACCTL.COUNT.at p)
      else (s.onPort p fun t => { t with rx := none }).acceptEth p r

/-! Reassembly (R264). -/

/-- The last four bytes are the CRC of a fragment that does not end its frame: the FCS so far with its last two bytes inverted (log entry 42). -/
def mcrcOk (b : Bytes) : Bool :=
  let f := fcsBytes (ethData b)
  b.drop (b.length - 4) = f.take 2 ++ (f.drop 2).map fun x => x ^^^ 0xFF

/-- A reassembly error: counted, and the frame whose fragments were awaited is discarded. -/
def smdError (s : State) (p : Nat) : State :=
  let s := match (((s.port p).frag.bind EthFrag.rx).bind EthRx.fid) with | some fid => s.freeFrame fid | none => s
  (s.onPort p fun t => { t with frag := none }).bump (Reg.CONS_SMDERR.COUNT.at p)

/-- The frame whose fragments are awaited is the open one again. -/
def reopenFrag (s : State) (p : Nat) (g : EthFrag) : State := s.onPort p fun t => { t with frag := none, rx := g.rx }

/-- A packet of a preemptable frame ends: `bs` since the last command of the port, `early` before them where no steering decision has been made.
With a fragment's CRC the frame waits for fragment `next`; else it ends. -/
def endFragment (s : State) (p : Nat) (early bs : Bytes) (err : Bool) (stamp frame next : Nat) : State :=
  let all := match (s.port p).rx with | some r => r.bytes ++ bs | none => early ++ bs
  if err || !mcrcOk all then s.endRx p (if (s.port p).rx.isSome then bs else all) err stamp
  else
    let k := all.length - 4
    let g : EthFrag := { frame := frame, next := next, early := if (s.port p).rx.isSome then [] else all.take k, stamp := stamp
                         rx := (s.port p).rx.map fun r => { r with bytes := r.bytes.take k ++ bs.take (k - r.bytes.length) } }
    s.onPort p fun t => { t with rx := none, frag := some g }

/-- The end of a packet of a received frame (R249, R253, R264). -/
def endPacket (s : State) (p : Nat) (bs : Bytes) (err : Bool) (stamp : Nat) (k : Mpacket) : State :=
  match k with
  | .express => s.endRx p bs err stamp
  | .verify => if err || bs.length ≠ 64 || !mcrcOk bs then s.bump (Reg.CONS_SMDERR.COUNT.at p) else s.emit (.mpacket p 1)
  | .respond =>
    if err || bs.length ≠ 64 || !mcrcOk bs then s.bump (Reg.CONS_SMDERR.COUNT.at p)
    else if !(s.port p).verifying then s
    else (s.onPort p fun t => { t with verifying := false }).put (Reg.CONS_STAT.PACT.at p) 1
  | .start n => (if (s.port p).frag.isSome then s.smdError p else s).endFragment p [] bs err stamp n 0
  | .cont n c =>
    match (s.port p).frag with
    | none =>
      -- the awaited frame is open again since its continuation drew a buffer, or there is none
      match (s.port p).rx with
      | none => s.smdError p
      | some r => if r.cont = some (n.val, c.val) then s.endFragment p [] bs err r.stamp n ((c + 1) % 4)
        else ((s.dropEth p).onPort p fun t => { t with rx := none }).smdError p
    | some g =>
      if g.frame = n && g.next = c && (s.port p).rx.isNone then (s.reopenFrag p g).endFragment p g.early bs err g.stamp n ((c + 1) % 4)
      else ((s.dropEth p).onPort p fun t => { t with rx := none }).smdError p
  | .bad => ((s.dropEth p).onPort p fun t => { t with rx := none }).smdError p

/-- The entry latch is full: the destinations of the frame are chosen. A preempted frame whose first fragment was shorter than the latch, and whose
bytes the latch begins with, has its decision in the continuation (R255, R264). -/
def decideRx (s : State) (p : Nat) (latch : Bytes) (stamp : Nat) : State :=
  match (s.port p).frag with
  | some g =>
    if g.rx.isNone && latch.take g.early.length = g.early then
      (s.openRx p latch g.stamp).onPort p fun t =>
        { t with frag := none, rx := t.rx.map fun r => { r with cont := some (g.frame, g.next) } }
    else s.openRx p latch stamp
  | none => s.openRx p latch stamp

/-- Bytes arrive while no frame is open and a preempted one awaits its next fragment: they are of that fragment. -/
def openCont (s : State) (p : Nat) : State :=
  match (s.port p).rx, (s.port p).frag with
  | none, some g => match g.rx with
    | some r => s.onPort p fun t => { t with frag := none, rx := some { r with cont := some (g.frame, g.next) } }
    | none => s
  | _, _ => s

/-! Transmission. -/

/-- Time on the wire of a frame of `len` bytes with preamble and inter-frame gap. -/
def ethTime (s : State) (p len : Nat) : Nat := (8 + len + 12) * s.byteTime p

/-- Queue `q` of port `p` is express (R264). -/
def isExpress (s : State) (p q : Nat) : Bool := s.flag (Reg.CONS_STAT.PACT.at p) && bit (s.get (Reg.CONS_TXCFG.EXPQ.at p)) q

/-- Entries of the I/O stations with their numbers: of this cycle, and of the next, where what is stored for it counts (R301). -/
def stationEntries (s : State) (next : Bool) : List (Nat × Bytes) :=
  let now := s.eng.stations.map fun (x : Nat × StationS) => (x.1, x.2.entry)
  if next then now.filter (fun x => !(s.eng.next.any (·.1 = x.1))) ++ s.eng.next else now

/-- Launch instants of the port's telegrams with their queues: those queued, and those of this cycle and the next that are still to be assembled
(R265, R300); none after t_b in the cycles before it (R123). -/
def launches (s : State) (p : Nat) : List (Nat × Nat) :=
  let q := s.get (Reg.CONS_TXCFG.IOQ.at p)
  let b := s.nextCycle.1
  let past (t : Nat) : Bool := s.inau.rephase && s.inau.place.any fun x => x.1 < (t : Int)
  let mine (next : Bool) : List (Nat × Bytes) := (s.stationEntries next).filter fun x => seEn x.2 && sePort x.2 = p
  let due := if !s.mayRun then [] else
    ((mine false).filterMap fun x => if s.eng.sent.contains (x.1, s.cyc) || past (s.launchAt x.2) then none else some (q, s.launchAt x.2))
      ++ (mine true).filterMap fun x =>
        let t := b + (s.launchAt x.2 - s.bnd)
        -- t_b itself begins a cycle of its own
        if past t && !(s.inau.place.any fun y => y.1 ≤ (b : Int)) then none else some (q, t)
  ((s.port p).txq.filterMap fun it => it.launch.map fun t => (it.q, t)) ++ due

/-- A frame or fragment of `len` bytes of queue `q` may start now: it ends before every launch instant of another queue (R265). -/
def beforeLaunch (s : State) (p q len : Nat) : Bool :=
  (s.launches p).all fun x => x.1 = q || x.2 < s.now || s.now + s.ethTime p len ≤ x.2

/-- The head of queue `q`. -/
def headOf (s : State) (p q : Nat) : Option PItem := (s.port p).txq.find? (·.q = q)

/-- The head of queue `q` may start now: a telegram from its launch instant on, another frame as R265 allows. -/
def headReady (s : State) (p q : Nat) : Option PItem :=
  (s.headOf p q).filter fun it => match it.launch with
    | some t => t ≤ s.now
    | none => s.beforeLaunch p q it.bytes.length

/-- The frame starts: it leaves its queue; a telegram later than two byte times is counted (R265). -/
def startEth (s : State) (p : Nat) (it : PItem) : State :=
  let late := it.launch.any fun t => t + 2 * s.byteTime p < s.now
  let s := if late then s.bump (Reg.CONS_LAUNCHLATE.COUNT.at p) else s
  s.onPort p fun t =>
    { t with txq := t.txq.erase it, tx := some { item := it, stamp := s.now + 8 * s.byteTime p, from_ := s.now } }

/-- Bytes of the frame on the wire that have left. -/
def ethSent (s : State) (p : Nat) (x : PTx) : Nat :=
  min x.item.bytes.length (x.off + ((s.now - x.from_) / s.byteTime p - 8))

/-- The fragment on the wire may end here for an express frame: ADDFRAG allows the boundary and 64 bytes remain (R264). -/
def fragOk (s : State) (p : Nat) (x : PTx) : Bool :=
  let k := s.ethSent p x
  64 * (1 + s.get (Reg.CONS_TXCFG.ADDFRAG.at p)) - 4 ≤ k - x.off && k + 64 ≤ x.item.bytes.length

/-- The highest queue of `qs` with a head that may start. -/
def bestHead (s : State) (p : Nat) (qs : List Nat) : Option PItem := qs.findSome? fun q => s.headReady p q

/-- Starts the frame that R263 to R265 choose; an express one preempts at a fragment boundary, a preempted one goes on before any
other preemptable frame. While the node is dimmed none starts, but a preempted one, which is in progress, ends (R369). -/
def runEth (s : State) (p : Nat) : State :=
  let s := s.flushPause p
  let t := s.port p
  -- a fragment of the telegram's own queue is no exception
  let resume (x : PTx) : State := if s.beforeLaunch p 8 (x.item.bytes.length - x.off) then
      s.onPort p fun t => { t with txHeld := none, tx := some { x with from_ := s.now } }
    else s
  if !s.linkUp p || t.holdAt.isSome then s
  else if s.dimmed then
    match t.tx, t.txHeld with
    | none, some x => if s.pwr.hot then s else resume x
    | _, _ => s
  else
    let qs := [7, 6, 5, 4, 3, 2, 1, 0]
    let ex := qs.filter (s.isExpress p)
    match t.tx with
    | some x =>
      match s.bestHead p ex with
      | some it =>
        if !s.isExpress p x.item.q && s.fragOk p x then
          let s := s.onPort p fun t => { t with txHeld := some { x with off := s.ethSent p x }, tx := none }
          s.startEth p it
        else s
      | none => s
    | none =>
      match t.txHeld with
      | some x =>
        match s.bestHead p ex with
        | some it => s.startEth p it
        | none => resume x
      | none => match s.bestHead p qs with | some it => s.startEth p it | none => s

/-- The end of the frame on the wire: counted, written back for a host ring (R273); what its end was for. -/
def endEth (s : State) (p : Nat) : Option (PTx × State) :=
  (s.port p).tx.map fun x =>
    let s := s.reach (x.from_ + (8 + (x.item.bytes.length - x.off)) * s.byteTime p)
    let s := (s.emit (.eth p x.item.bytes true)).bump (Reg.CONS_TXGOOD.COUNT.at p)
    let s := s.onPort p fun t => { t with tx := none }
    let s := match x.item.host with
      | some h => s.writeBack p h 0 (if h.tsreq then some (short16 (s.presentedAt x.stamp + ns (s.pcor p).2)) else none)
      | none => s
    (x, (s.endCopy p x.item.fid).flushPause p)

/-! Pause. -/

/-- A valid pause frame has been received (R267, R269). -/
def takePause (s : State) (p quanta : Nat) : State :=
  let s := s.bump (Reg.CONS_PAUSERX.COUNT.at p)
  if !s.flag (Reg.CONS_PAUSE.RXEN.at p) || (s.port p).wdAt.isSome then s
  else if quanta = 0 then
    ((s.onPort p fun t => { t with holdAt := none, holdFrom := none }).put (Reg.CONS_STAT.PAUSED.at p) 0).runEth p
  else
    let at_ := s.now + quanta * 64 * s.byteTime p
    (s.onPort p fun t => { t with holdAt := some at_, holdFrom := some (t.holdFrom.getD s.now) }).put (Reg.CONS_STAT.PAUSED.at p) 1

/-- The hold by received pause ends. -/
def endHold (s : State) (p : Nat) : State :=
  ((s.onPort p fun t => { t with holdAt := none, holdFrom := none }).put (Reg.CONS_STAT.PAUSED.at p) 0).runEth p

/-! Transmit rings. -/

/-- Descriptors of transmit ring `q` already taken up by frames not yet written back. -/
def txInFlight (s : State) (p q : Nat) : Nat :=
  let t := s.port p
  let n (h : HostTx) : Nat := if h.ring = q then h.descs.length / 16 else 0
  let items := t.txq ++ (t.tx.toList ++ t.txHeld.toList).map (·.item)
  (items.map fun it => it.host.elim 0 n).sum
    + (s.allFetches.map fun k => match k with | .txData p' h _ _ => if p' = p then n h else 0 | _ => 0).sum + s.passedOf p true q
    + (s.host.backs.map fun x => if x.1 = p then n x.2.1 else 0).sum

/-- Descriptors of transmit ring `q` that belong to the node and are not taken up. -/
def txOwned (s : State) (p q : Nat) : Nat :=
  let size := s.txSize p q
  (s.get ((Reg.CONS_TXQ_TAIL.TAIL.at p).ix q) + size - s.get ((Reg.CONS_TXQ_HEAD.HEAD.at p).ix q) % size) % size - s.txInFlight p q

/-- Buffers for a frame of `len` bytes of the host can be drawn (R274). -/
def hostDraws (s : State) (len : Nat) : Bool :=
  (s.enterPool { fid := 0, ingress := 8, cls := .bulk, bytes := [], complete := false } len).isSome

/-- A ring of a higher queue has a frame to be served first (R274): it is enabled, owns descriptors, does not wait for buffers that are still short,
and has not been found without a whole frame since its TAIL was written. -/
def ringAbove (s : State) (p q : Nat) : Bool :=
  (List.range 8).any fun k => q < k && s.flag ((Reg.CONS_TXQ_CFG.EN.at p).ix k) && 0 < s.txOwned p k
    && !((s.port p).waiting.any fun w => w.1 = k && !s.hostDraws w.2)
    && !(s.port p).partTx.contains k

/-- Fields of a transmit descriptor (Table 09.6). -/
def dLen (d : Bytes) : Nat := leNat ((d.drop 8).take 2)
def dCtl (d : Bytes) : Nat := leNat ((d.drop 12).take 4)
def dSof (d : Bytes) : Bool := bit (dCtl d) 30
def dEof (d : Bytes) : Bool := bit (dCtl d) 29

/-- How the descriptors from the head on form a frame: a good one of `n`, a bad one of `n` with its second SOF (R275), or not whole yet. -/
inductive TxShape | good (n : Nat) | bad (n : Nat) (sof : Bool) | open_
deriving DecidableEq, Repr

/-- Descriptors up to the first one after them that carries SOF, or up to EOF. -/
def badRun : Nat → List Bytes → Nat
  | n, [] => n
  | n, d :: ds => if 0 < n && dSof d then n else if dEof d then n + 1 else badRun (n + 1) ds

/-- The shape of the descriptors (R273, R275). -/
def txShape (ds : List Bytes) : Nat → List Bytes → TxShape
  | n, [] => if n < 64 then .open_ else .bad (badRun 0 ds) false
  | n, d :: r =>
    if 64 ≤ n then .bad (badRun 0 ds) false
    else if n = 0 && !dSof d then .bad (badRun 0 ds) false
    else if 0 < n && dSof d then .bad n true
    else if dLen d = 0 || 16384 < dLen d then .bad (badRun 0 ds) false
    else if dEof d then .good (n + 1)
    else txShape ds (n + 1) r

/-- A byte string cut into descriptors. -/
def descList (b : Bytes) : List Bytes := (List.range (b.length / 16)).map fun i => (b.drop (16 * i)).take 16

/-- The frame at the head of transmit ring `q` is taken up (R266, R274, R275). -/
def fetchTx (s : State) (p q : Nat) (descs : Bytes) : State :=
  let size := s.txSize p q
  let head := s.get ((Reg.CONS_TXQ_HEAD.HEAD.at p).ix q)
  let idx := (head + s.txInFlight p q) % size
  let ds := (descList descs).take (s.txOwned p q)
  let free (s : State) : State := s.onPort p fun t => { t with waiting := t.waiting.filter (·.1 ≠ q) }
  if !s.flag ((Reg.CONS_TXQ_CFG.EN.at p).ix q) || ds.isEmpty || s.dimmed || s.portOff || s.ringAbove p q then s
  else match txShape ds 0 ds with
    | .open_ => s.onPort p fun t => { t with partTx := q :: t.partTx.filter (· ≠ q) }
    | .bad n sof =>
      let s := free s
      let s := s.writeBack p ⟨q, idx, descs.take (16 * n), false⟩ 2 none
      if sof then s else s.recordSec 0x0807 (8 * p + q)
    | .good n =>
      let h : HostTx := ⟨q, idx, descs.take (16 * n), (ds.take 1).any fun d => bit (dCtl d) 28⟩
      if !s.linkUp p then (free s).writeBack p h 3 none
      else
        let len := ((ds.take n).map dLen).sum
        let f : PFrame := { fid := 0, ingress := 8, cls := .bulk, bytes := [], complete := false }
        match s.enterPool f len with
        | none =>
          if (s.port p).waiting.any (·.1 = q) then s
          else (s.bump (Reg.CONS_TXWAIT.COUNT.at p)).onPort p fun t => { t with waiting := (q, len) :: t.waiting }
        | some (fid, s) =>
          let s := free s
          let fcs := (ds.take 1).any fun d => bit (dCtl d) 27
          s.fetch (.txData p h fcs fid) ((ds.take n).map fun d => (leNat (d.take 8), dLen d))

/-- The data of a host frame have arrived: padded, checked for length, queued (R266). -/
def queueTx (s : State) (p : Nat) (h : HostTx) (fcsins : Bool) (fid : Nat) (data : Bytes) : State :=
  let b := if fcsins then withFcs (data ++ List.replicate (60 - data.length) 0) else data
  if b.length < 64 || s.maxLen p < b.length then
    ((s.writeBack p h 1 none).bump (Reg.CONS_TXLEN.COUNT.at p)).freeFrame fid
  else
    let s := s.onFrame fid fun f => { f with bytes := b, complete := true }
    ((s.pushTx p { q := h.ring, fid := fid, bytes := b, host := some h }).gc fid)

/-- The filter rule takes its four words (R257). -/
def takeRule (s : State) (p r v : Nat) : State :=
  let s := s.put ((Reg.CONS_FILT_W0.W0.at p).ix r) v
  let w := (v, s.get ((Reg.CONS_FILT_W1.W1.at p).ix r), s.get ((Reg.CONS_FILT_W2.W2.at p).ix r), s.get ((Reg.CONS_FILT_W3.W3.at p).ix r))
  s.onPort p fun t => { t with rules := t.rules.filter (·.1 ≠ r) ++ [(r, w)] }

/-- A write of a ring's +0x08: a change of EN from 0 to 1 sets HEAD to 0. -/
def writeRingCfg (s : State) (p : Nat) (tx : Bool) (q v : Nat) : State :=
  let en := ((if tx then Reg.CONS_TXQ_CFG.EN else Reg.CONS_RXQ_CFG.EN).at p).ix q
  let was := s.flag en
  let s := s.storeWord en.addr v
  if !was && s.flag en then
    (s.put (((if tx then Reg.CONS_TXQ_HEAD.HEAD else Reg.CONS_RXQ_HEAD.HEAD).at p).ix q) 0).onPort p fun t =>
      { t with passed := t.passed.filter fun x => !(x.1 = tx && x.2.1 = q), partTx := if tx then t.partTx.filter (· ≠ q) else t.partTx
               waiting := if tx then t.waiting.filter (·.1 ≠ q) else t.waiting }
  else s

/-- A write of CONS_MDIO (R276). -/
def writeMdio (s : State) (p v : Nat) : State :=
  if s.flag (Reg.CONS_MDIO.BUSY.at p) then s.put (Reg.CONS_STAT.WIGN.at p) 1
  else
    let s := s.storeWord (Reg.CONS_MDIO.GO.at p).addr v
    if !bit v 31 then s
    else
      let period := match s.get (Reg.CONS_MDIO.MDCDIV.at p) with | 1 => ns 800 | 2 => ns 1600 | _ => ns 400
      let s := s.put (Reg.CONS_MDIO.BUSY.at p) 1
      let s := s.emit (.mdio p (s.flag (Reg.CONS_MDIO.OP.at p)) (s.get (Reg.CONS_MDIO.PHYAD.at p)) (s.get (Reg.CONS_MDIO.REGAD.at p))
        (s.get (Reg.CONS_MDIO.DATA.at p)))
      s.onPort p fun t => { t with mdioAt := some (s.now + 64 * period) }

/-- A write of CONS_CTRL: with EN at 0 the SGMII idles and the link is down. -/
def writeConsCtrl (s : State) (p v : Nat) : State :=
  let s := s.storeWord (Reg.CONS_CTRL.EN.at p).addr v
  if s.flag (Reg.CONS_CTRL.EN.at p) then s else (s.linkDown p).put (Reg.CONS_STAT.SYNC.at p) 0

end State

/-- CONSIST_LINK_UP (R250, R251). -/
def execConsistLinkUp (port : Port) (speed : Fin 3) (fullDuplex : Bool) (s : State) : Host.Outcome State Fault Refusal :=
  liveActive s fun s =>
  done (s.takeLink port speed fullDuplex)

/-- CONSIST_LINK_DOWN (R252). -/
def execConsistLinkDown (port : Port) (sync : Bool) (s : State) : Host.Outcome State Fault Refusal :=
  liveActive s fun s =>
  let s := (s.linkDown port).putB (Reg.CONS_STAT.SYNC.at port) (sync && s.flag (Reg.CONS_CTRL.EN.at port))
  done (s.onPort port fun t => { t with hdxRec := false })

/-- CONSIST_STEERING_DECISION (R255, R256). -/
def execConsistSteeringDecision (port : Port) (latch : Bytes) (ago : Nat) (s : State) : Host.Outcome State Fault Refusal :=
  liveActive s fun s =>
  done (if s.linkUp port && (s.port port).rx.isNone && 64 ≤ latch.length then s.decideRx port latch (s.now - ago) else s)

/-- CONSIST_BUFFER_DRAW (R260, R261). -/
def execConsistBufferDraw (port : Port) (bytes : Bytes) (s : State) : Host.Outcome State Fault Refusal :=
  liveActive s fun s =>
  let s := s.openCont port
  done (if (s.port port).rx.isSome then (s.rxBytes port bytes).drawEth port else s)

/-- CONSIST_GIANT_BYTE (R253): byte MAXLEN + 1. -/
def execConsistGiantByte (port : Port) (bytes : Bytes) (s : State) : Host.Outcome State Fault Refusal :=
  liveActive s fun s =>
  let s := s.openCont port
  done (match (s.port port).rx with
    | none => s
    | some r => if r.skip then s else ((s.rxBytes port bytes).dropEth port).bump (Reg.CONS_RXGIANT.COUNT.at port))

/-- CONSIST_FRAME_END (R253, R264). -/
def execConsistFrameEnd (port : Port) (bytes : Bytes) (ending : EthEnd) (ago : Nat) (s : State) :
    Host.Outcome State Fault Refusal :=
  liveActive s fun s =>
  done (if s.linkUp port then s.endPacket port bytes ending.symbolError (s.now - ago) ending.packet else s)

/-- FILTER_RULE_COMMIT (R257). -/
def execFilterRuleCommit (port : Port) (rule : Fin 64) (value : Word) (s : State) : Host.Outcome State Fault Refusal :=
  live s fun s =>
  done (s.takeRule port rule value.toNat)

/-- CONSIST_TX_FRAME_START (R263). -/
def execConsistTxFrameStart (port : Port) (s : State) : Host.Outcome State Fault Refusal := liveActive s fun s => done (s.runEth port)

/-- TELEGRAM_LAUNCH (R265): the earliest launch instant of the port's telegrams has come. -/
def execTelegramLaunch (port : Port) (s : State) : Host.Outcome State Fault Refusal :=
  liveActive s fun s =>
  let ls := (s.port port).txq.filterMap (·.launch)
  done (match ls.min? with
    | none => s
    | some t => (s.reach t).runEth port)

/-- PREEMPTION_VERIFY_RESULT (R264): the exchange has succeeded, or its third attempt has failed. -/
def execPreemptionVerifyResult (port : Port) (ok : Bool) (s : State) : Host.Outcome State Fault Refusal :=
  liveActive s fun s =>
  done (if !(s.port port).verifying then s
    else
      let s := s.onPort port fun t => { t with verifying := false }
      if ok then s.put (Reg.CONS_STAT.PACT.at port) 1
      else ((s.put (Reg.CONS_STAT.PVFAIL.at port) 1).raise (Reg.CONS_IRQ.PVFAIL.at port)).record 0x0805)

/-- PAUSE_RECEIVED (R253, R267): a MAC control frame with opcode 0x0001, a good FCS and 64 bytes. -/
def execPauseReceived (port : Port) (quanta : BitVec 16) (s : State) : Host.Outcome State Fault Refusal :=
  liveActive s fun s =>
  done (if s.linkUp port then s.takePause port quanta.toNat else s)

/-- PAUSE_HOLD_EXPIRY (R267). -/
def execPauseHoldExpiry (port : Port) (s : State) : Host.Outcome State Fault Refusal :=
  liveActive s fun s =>
  done (match (s.port port).holdAt with
    | none => s
    | some t => (s.reach t).endHold port)

/-- PAUSE_REPEAT_TIMER (R268). -/
def execPauseRepeatTimer (port : Port) (s : State) : Host.Outcome State Fault Refusal :=
  liveActive s fun s =>
  done (match (s.port port).xoffAt with
    | none => s
    | some t =>
      let s := s.reach t
      if !s.flag (Reg.CONS_PAUSE.TXEN.at port) then s.onPort port fun t => { t with xoffAt := none }
      else if s.xon port ≤ s.ingressBufs port then
        (s.onPort port fun t => { t with pauseOut := t.pauseOut ++ [s.get (Reg.CONS_PAUSE.XOFFQ.at port)],
                                         xoffAt := some (s.now + s.halfXoffq port) }).flushPause port
      else s)

/-- PAUSE_XON_REACHED (R268). -/
def execPauseXonReached (port : Port) (s : State) : Host.Outcome State Fault Refusal :=
  liveActive s fun s =>
  done (if (s.port port).xoffAt.isSome && s.ingressBufs port < s.xon port && s.flag (Reg.CONS_PAUSE.TXEN.at port) then
      (s.onPort port fun t => { t with pauseOut := t.pauseOut ++ [0], xoffAt := none }).flushPause port
    else s)

/-- PAUSE_WATCHDOG_TRIP (R269). -/
def execPauseWatchdogTrip (port : Port) (s : State) : Host.Outcome State Fault Refusal :=
  liveActive s fun s =>
  done (match (s.port port).holdFrom, (s.port port).holdAt with
    | some a, some b =>
      if b < a + ms (s.wdms port) then s
      else
        let s := s.reach (a + ms (s.wdms port))
        let s := s.onPort port fun t => { t with wdAt := some (s.now + ms (s.wdms port)) }
        let s := ((s.put (Reg.CONS_STAT.PWD.at port) 1).bump (Reg.CONS_PAUSEWD.COUNT.at port)).record 0x0801
        (s.raise (Reg.CONS_IRQ.PWD.at port)).endHold port
    | _, _ => s)

/-- PAUSE_WATCHDOG_END (R269). -/
def execPauseWatchdogEnd (port : Port) (s : State) : Host.Outcome State Fault Refusal :=
  liveActive s fun s =>
  done (match (s.port port).wdAt with
    | none => s
    | some t => ((s.reach t).onPort port fun t => { t with wdAt := none }).put (Reg.CONS_STAT.PWD.at port) 0)

/-- TX_RING_FETCH_START (R274, R275). -/
def execTxRingFetchStart (port : Port) (queue : Fin 8) (descs : Bytes) (s : State) : Host.Outcome State Fault Refusal :=
  liveActive s fun s =>
  done (s.fetchTx port queue descs)

/-- RING_ENABLE_WRITE (R272). -/
def execRingEnableWrite (port : Port) (tx : Bool) (queue : Fin 8) (value : Word) (s : State) : Host.Outcome State Fault Refusal :=
  live s fun s =>
  done (s.writeRingCfg port tx queue value.toNat)

/-- RING_IRQ_MODERATION (R277): ITIME has passed since the first unsignalled completion. -/
def execRingIrqModeration (port : Port) (tx : Bool) (queue : Fin 8) (s : State) : Host.Outcome State Fault Refusal :=
  liveActive s fun s =>
  done (match s.modOf port (tx, queue) with
    | (_, some t) => ((s.reach t).setMod port (tx, queue) (0, none)).raise (State.ringBit port tx queue)
    | _ => s)

/-- MDIO_FRAME_START (R276). -/
def execMdioFrameStart (port : Port) (value : Word) (s : State) : Host.Outcome State Fault Refusal :=
  liveActive s fun s =>
  done (s.writeMdio port value.toNat)

/-- MDIO_FRAME_END (R276): for a read, whether the PHY drove the turnaround and the sixteen bits. -/
def execMdioFrameEnd (port : Port) (driven : Bool) (data : BitVec 16) (s : State) : Host.Outcome State Fault Refusal :=
  liveActive s fun s =>
  done (match (s.port port).mdioAt with
    | none => s
    | some t =>
      let s := ((s.reach t).onPort port fun t => { t with mdioAt := none }).put (Reg.CONS_MDIO.BUSY.at port) 0
      let s := if s.flag (Reg.CONS_MDIO.OP.at port) then
          (s.put (Reg.CONS_MDIO.DATA.at port) data.toNat).putB (Reg.CONS_MDIO.RDERR.at port) (!driven)
        else s
      s.raise (Reg.CONS_IRQ.MDIO.at port))

end Sys2Proof.Machine
end

