-- ==== Sys2Proof/Machine/Interlock.lean ====
section
/-! DEFINITION. The maintenance interlock (R474): background activities that run, wait and end; suspension and second
faults (R475). -/

namespace Sys2Proof.Machine

/-- Row of Table 17.5: 0 TEL, 1 LCAL, 2 SCRUB, 3 REPAIR, 4 MPAT, 5 MWR. -/
def Act.kind : Act → Nat
  | .tel _ => 0
  | .lcal _ => 1
  | .repair _ _ => 3
  | .mpat => 4
  | .store => 5
  | .save => 5
  | .ckpt => 5
  | .key _ => 5

/-- Table 17.5: the two kinds may run together. -/
def kindsTogether (a b : Nat) : Bool :=
  let lo := min a b
  let hi := max a b
  !((lo = hi && lo ≠ 2) || (lo = 0 && hi = 1) || (3 ≤ lo && 3 ≤ hi))

/-- Order of starting among waiting activities (R474). -/
def Act.rank (a : Act) : Nat :=
  match a.kind with | 5 => if a = .ckpt then 1 else 2 | 1 => 3 | 0 => 4 | 3 => 5 | _ => 6

/-- The list without its first `a`. -/
def dropAct (a : Act) (l : List Act) : List Act := l.erase a

namespace State

/-- HKP_STAT.ACT follows the running activities. -/
def refreshAct (s : State) : State :=
  s.put Reg.HKP_STAT.ACT (((List.range 6).map fun k => if s.hkp.running.any (·.kind = k) then 2 ^ k else 0).sum)

/-- The interlock admits an activity now. -/
def actFits (s : State) (a : Act) : Bool := s.hkp.running.all fun b => kindsTogether a.kind b.kind

/-- An activity may start now: the interlock admits it, and none that comes before it in the order of R474 waits and is admitted too. -/
def actTurn (s : State) (a : Act) : Bool :=
  s.actFits a && !(s.hkp.waiting.any fun b => b ≠ a && b.rank ≤ a.rank && s.actFits b)

/-- An activity starts, or waits and is counted (R474). -/
def requestAct (s : State) (a : Act) : State :=
  if s.hkp.running.contains a || s.hkp.waiting.contains a then s
  else if s.actTurn a then { s with hkp.running := s.hkp.running ++ [a] }.refreshAct
  else { s with hkp.waiting := s.hkp.waiting ++ [a] }.bump Reg.HKP_ILWAIT.COUNT

/-- The PACE change that waited for an MRAM write job starts (R482). -/
def pacePending (s : State) : State :=
  if s.pwr.paceWait && !(s.hkp.running.any (·.kind = 5)) then { s with pwr.paceWait := false }.put Reg.GLB_PACE.PBUSY 1 else s

/-- An activity ends, running or waiting. -/
def endAct (s : State) (a : Act) : State :=
  ({ s with hkp := { s.hkp with running := dropAct a s.hkp.running, waiting := dropAct a s.hkp.waiting } }.refreshAct).pacePending

/-- The activity that starts next: the first in order of rank that the interlock admits. -/
def nextAct (s : State) : Option Act :=
  s.hkp.waiting.foldl (fun (acc : Option Act) a =>
    if !s.actFits a then acc
    else match acc with
      | none => some a
      | some b => if a.rank < b.rank then some a else some b) none

/-- A background activity is suspended. -/
def suspendAct (s : State) : State := ((s.put Reg.HKP_STAT.SUSP 1).raise Reg.HKP_IRQ.SUSP).record 0x0E21

end State

end Sys2Proof.Machine
end

