-- ==== Sys2Proof/Machine/LineCode.lean ====
section
/-! DEFINITION. The line code of the lanes (R36, R37): characters of Table 02.3, the 8b/10b code with running disparity, the bits of what a
lane sends, and the characters that a receiver reads. The code's own tables are those of IEEE 802.3 Clause 36, which R36 names and whose
text is not in the spec (PRESUMED, log entry 42). -/

namespace Sys2Proof.Machine

/-- A character of a lane: a K or a D character, by its byte (K28.5 is K with 0xBC). -/
structure LineChar where
  k : Bool
  byte : Nat
deriving DecidableEq, Repr

/-- Dx.y and Kx.y. -/
def dChar (x y : Nat) : LineChar := ⟨false, 32 * y + x⟩
def kChar (x y : Nat) : LineChar := ⟨true, 32 * y + x⟩

/-- The six bits abcdei of D.x at negative running disparity, a first. -/
def code6 (x : Nat) : Nat :=
  match x with
  | 0 => 0b100111 | 1 => 0b011101 | 2 => 0b101101 | 3 => 0b110001 | 4 => 0b110101 | 5 => 0b101001 | 6 => 0b011001 | 7 => 0b111000
  | 8 => 0b111001 | 9 => 0b100101 | 10 => 0b010101 | 11 => 0b110100 | 12 => 0b001101 | 13 => 0b101100 | 14 => 0b011100 | 15 => 0b010111
  | 16 => 0b011011 | 17 => 0b100011 | 18 => 0b010011 | 19 => 0b110010 | 20 => 0b001011 | 21 => 0b101010 | 22 => 0b011010 | 23 => 0b111010
  | 24 => 0b110011 | 25 => 0b100110 | 26 => 0b010110 | 27 => 0b110110 | 28 => 0b001110 | 29 => 0b101110 | 30 => 0b011110 | _ => 0b101011

/-- The four bits fghj of D.x.y at negative running disparity; y = 7 is the primary form. -/
def code4 (y : Nat) : Nat :=
  match y with
  | 0 => 0b1011 | 1 => 0b1001 | 2 => 0b0101 | 3 => 0b1100 | 4 => 0b1101 | 5 => 0b1010 | 6 => 0b0110 | _ => 0b1110

/-- The ten bits of Kx.y at negative running disparity: K28.0 to K28.7, K23.7, K27.7, K29.7, K30.7. -/
def codeK (x y : Nat) : Nat :=
  match x, y with
  | 28, 0 => 0b0011110100 | 28, 1 => 0b0011111001 | 28, 2 => 0b0011110101 | 28, 3 => 0b0011110011
  | 28, 4 => 0b0011110010 | 28, 5 => 0b0011111010 | 28, 6 => 0b0011110110 | 28, 7 => 0b0011111000
  | 23, 7 => 0b1110101000 | 27, 7 => 0b1101101000 | 29, 7 => 0b1011101000 | _, _ => 0b0111101000

/-- The low `n` bits of a number, most significant first. -/
def msbBits (n v : Nat) : List Bool := (List.range n).map fun i => v.testBit (n - 1 - i)

/-- Ones less zeros of a bit string. -/
def disparity (b : List Bool) : Int := (b.filter id).length - (b.filter (!·)).length

/-- The running disparity after a sub-block: positive after more ones than zeros and after 000111 and 0011, negative after fewer and after
111000 and 1100, else as before. -/
def afterBlock (rd : Bool) (b : List Bool) : Bool :=
  if 0 < disparity b || b = msbBits 6 0b000111 || b = msbBits 4 0b0011 then true
  else if disparity b < 0 || b = msbBits 6 0b111000 || b = msbBits 4 0b1100 then false
  else rd

/-- A sub-block at a running disparity (true: positive): at positive one it is complemented, if its form depends on the disparity. -/
def atDisparity (rd dep : Bool) (b : List Bool) : List Bool := if rd && (dep || disparity b ≠ 0) then b.map (!·) else b

/-- A character in the order in which its bits leave, and the running disparity after it. -/
def encodeChar (rd : Bool) (c : LineChar) : List Bool × Bool :=
  let x := c.byte % 32
  let y := c.byte / 32 % 8
  if c.k then
    let b := atDisparity rd true (msbBits 10 (codeK x y))
    (b, afterBlock rd b)
  else
    let b6 := atDisparity rd (x = 7) (msbBits 6 (code6 x))
    let rd := afterBlock rd b6
    -- the alternate form of y = 7 where the primary one would give five equal bits in a row
    let alt := y = 7 && (if rd then x = 11 || x = 13 || x = 14 else x = 17 || x = 18 || x = 20)
    let b4 := if alt then (if rd then msbBits 4 0b1000 else msbBits 4 0b0111) else atDisparity rd (y = 3) (msbBits 4 (code4 y))
    (b6 ++ b4, afterBlock rd b4)

/-- Characters one after the other. -/
def encodeChars (rd : Bool) : List LineChar → List Bool × Bool
  | [] => ([], rd)
  | c :: cs =>
    let r := encodeChar rd c
    let q := encodeChars r.2 cs
    (r.1 ++ q.1, q.2)

/-- Every character of the code. -/
def allChars : List LineChar :=
  (List.range 256).map (LineChar.mk false) ++ (List.range 8).map (fun y => kChar 28 y) ++ [kChar 23 7, kChar 27 7, kChar 29 7, kChar 30 7]

/-- The character that ten bits spell at a running disparity; none is a code error. -/
def decodeChar (rd : Bool) (b : List Bool) : Option LineChar := allChars.find? fun c => (encodeChar rd c).1 = b

/-- The running disparity of a receiver after ten bits, read well or not: sub-block by sub-block. -/
def disparityAfter (rd : Bool) (b : List Bool) : Bool := afterBlock (afterBlock rd (b.take 6)) (b.drop 6)

/-- The characters that a bit string spells, ten bits each; none where a group is a code error. -/
def decodeChars : Nat → Bool → List Bool → List (Option LineChar)
  | 0, _, _ => []
  | n + 1, rd, b => decodeChar rd (b.take 10) :: decodeChars n (disparityAfter rd (b.take 10)) (b.drop 10)

/-- A character that a node may send (Table 02.3): any D character, and the K characters listed with a use. -/
def LineChar.sent (c : LineChar) : Bool :=
  c.byte < 256 && (!c.k || [kChar 27 7, kChar 29 7, kChar 30 7, kChar 28 0, kChar 28 2, kChar 28 5, kChar 28 4, kChar 23 7, kChar 28 1,
    kChar 28 6].contains c)

/-- IDLE and WAKE (Table 02.3). -/
def idleSet : List LineChar := [kChar 28 5, dChar 16 2, dChar 16 2, dChar 16 2]
def wakeSet : List LineChar := [kChar 28 6, dChar 10 2, dChar 10 2, dChar 10 2]

/-- A training set of line `b` at vehicle end `e` (R40's text): CHECK is the XOR of the six characters after K28.1. -/
def trainingSet (ts2 eqdone rxEmpty : Bool) (line vend : Nat) : List LineChar :=
  let ty := if ts2 then 0x45 else 0x4A
  let fl := 128 * b2n eqdone + 64 * b2n rxEmpty + 32 * line + 16 * vend
  kChar 28 1 :: ([ty, fl, 0, 0, 0, 0, ty ^^^ fl].map (LineChar.mk false))

/-- What an output puts on the lane that it names, once; IDLE, WAKE, training sets and CRS REQ repeat from there on. -/
def Out.chars : Out → Option (Nat × List LineChar)
  | .sf n d => some (n, [kChar 27 7, ⟨false, d % 256⟩])
  | .res n d => some (n, [kChar 28 2, ⟨false, d % 256⟩])
  | .data n bs => some (n, bs.map fun b => ⟨false, b.toNat⟩)
  | .eg n => some (n, [kChar 29 7])
  | .eb n => some (n, [kChar 30 7])
  | .pre n => some (n, [kChar 28 0])
  | .cr n f => some (n, [kChar 28 4, ⟨false, f % 256⟩, ⟨false, f % 256⟩, ⟨false, 255 - f % 256⟩])
  | .crs n c v => some (n, [kChar 23 7, ⟨false, c % 256⟩, ⟨false, v % 256⟩, ⟨false, 255 - ((c ^^^ v) % 256)⟩])
  | .idle n => some (n, idleSet)
  | .ts n ts2 eqdone rxEmpty => some (n, trainingSet ts2 eqdone rxEmpty (n % 2) (n / 2))
  | .wake n => some (n, wakeSet)
  | _ => none

/-- The bits of an output on its lane, at the running disparity that the lane stands at, in sending order (R36). -/
def Out.bits (rd : Bool) (o : Out) : Option (Nat × List Bool) := o.chars.map fun x => (x.1, (encodeChars rd x.2).1)

end Sys2Proof.Machine
end

