-- ==== Sys2Proof/Machine/Lanes.lean ====
section
/-! DEFINITION. Coupler lanes: training (R40 to R44), credit flow and resync (R39, R45 to R50), reception of frames across PRE and RES
(R57, R58, R61), the transmitter's commands (R38, R235, R145). -/

namespace Sys2Proof.Machine

namespace State

/-- F of lane `n`: A − O (R48). -/
def rxF (s : State) (n : Nat) : Nat :=
  (s.get (Reg.LANE_CREDIT.RXA.at n) + 256 - s.get (Reg.LANE_CREDIT.RXOCC.at n)) % 256

/-- Blocks that an open frame occupies: all of them before its decision, afterwards the one still filling (R48, R242). -/
def rxBlocks (f : RxFrame) : Nat :=
  if f.stage = .open_ then blocksOf f.bytes.length else if f.bytes.length % 64 = 0 then 0 else 1

/-- A CR with F as it stands goes out on lane `n` (R39). -/
def sendCr (s : State) (n : Nat) : State :=
  let f := s.rxF n
  (s.onLane n fun l => { l with crF := f }).insertSet n (.cr n f)

/-- O as it stands after a change at lane `n`; a CR goes out whenever F differs from the one sent last (R39). -/
def refreshOcc (s : State) (n : Nat) : State :=
  let l := s.lane n
  let o := ((l.rx.toList ++ l.rxHeld.toList).map rxBlocks).sum
  let s := (s.put (Reg.LANE_CREDIT.RXOCC.at n) o).putB (Reg.LANE_STAT.RX_EMPTY.at n) (o = 0)
  if s.rxF n = (s.lane n).crF then s else s.sendCr n

/-- The peer has sent IDLE, CR, CRS or SF: TS2 are no longer trailing (R44). -/
def endTrailing (s : State) (n : Nat) : State := s.onLane n fun l => { l with trailing := none }

/-- The open frame of lane `n` ends as with EB (R58, R61, Table 02.8). -/
def endAsEb (s : State) (n : Nat) : State :=
  match (s.lane n).rx with
  | none => s
  | some f =>
    let s := (s.abortRx (some f)).onLane n fun l => { l with rx := none }
    s.refreshOcc n

/-- SF arrives inside the open frame of lane `n`: it ends and is counted as Table 02.8 says for EB (R58). -/
def cutOpen (s : State) (n : Nat) : State :=
  match (s.lane n).rx with
  | none => s
  | some f =>
    let s := s.endAsEb n
    if f.giant then s
    else if f.bytes.length ≤ 31 then s.bump (Reg.LANE_RUNT.COUNT.at n)
    else s.bump (Reg.LANE_EBIN.COUNT.at n)

/-- The preempted frame held by lane `n` ends as with EB. -/
def endHeldAsEb (s : State) (n : Nat) : State :=
  let s := (s.abortRx (s.lane n).rxHeld).onLane n fun l => { l with rxHeld := none }
  (s.put (Reg.LANE_STAT.PREOPEN.at n) 0).refreshOcc n

/-- A preemption protocol error (R61). -/
def protoErr (s : State) (n : Nat) : State := (s.bump (Reg.LANE_PROTO.COUNT.at n)).raise (Reg.LANE_IRQ.PROTO.at n)

/-- Frame bytes arrive on lane `n` inside the open frame: a block is allocated at its first byte (R47), also where RES has come with no
preempted frame open and they are discarded. The first byte of a MGMT or BULK frame while a preempted frame is held is a protocol error
that ends the held one (R61). -/
def takeBytes (s : State) (n : Nat) (bs : Bytes) : State :=
  match (s.lane n).rx with
  | none =>
    let l := s.lane n
    if !l.rxSkip then s
    else
      let a := (s.get (Reg.LANE_CREDIT.RXA.at n) + (blocksOf (l.skipLen + bs.length) - blocksOf l.skipLen)) % 256
      (s.put (Reg.LANE_CREDIT.RXA.at n) a).onLane n fun l => { l with skipLen := l.skipLen + bs.length }
  | some f =>
    let k := f.bytes.length
    let a := (s.get (Reg.LANE_CREDIT.RXA.at n) + (blocksOf (k + bs.length) - blocksOf k)) % 256
    let s := (s.put (Reg.LANE_CREDIT.RXA.at n) a).onLane n fun l => { l with rx := some { f with bytes := f.bytes ++ bs } }
    if k = 0 && !bs.isEmpty && (s.lane n).rxHeld.isSome && !(hCls bs).express then (s.endHeldAsEb n).protoErr n else s

/-- Bytes arrive on lane `n` while no frame is open, with their delimiter: what was left of a discarded frame, or of one that RES began with no
preempted frame open, whose blocks are freed at once (R47, R49, R61). -/
def passRest (s : State) (n : Nat) (bs : Bytes) : State :=
  ((s.takeBytes n bs).onLane n fun l => { l with rxRest := false, skipLen := 0 }).refreshOcc n

/-- Step 1 of R49 at the receiver of lane `n`: the frame in progress is discarded, what still arrives of it up to its delimiter with it; a
second fault joins the open resync (R50). A preempted frame held open is discarded too, and the far transmitter drops its own (log entry 38). -/
def startResync (s : State) (n : Nat) : State :=
  let l := s.lane n
  let s := ((s.abortRx l.rx).abortRx l.rxHeld).onLane n fun l => { l with rx := none, rxHeld := none, rxRest := true }
  let s := (s.put (Reg.LANE_STAT.PREOPEN.at n) 0).refreshOcc n
  if l.rsReq || l.rsAck.isSome then s.secondFault 0x0104 0x0104
  else
    let s := s.onLane n fun l => { l with rsReq := true, rsAt := some (s.now + us 100) }
    (((s.bump (Reg.LANE_CRSYNC.COUNT.at n)).raise (Reg.LANE_IRQ.CRSYNC.at n)).record 0x0104).insertSet n (.crs n 1 0)

/-- A CRS with the code asked for and a right check byte (R37); any other is ignored and counted nowhere (log entry 38). -/
def crsOk (want : Nat) (code value check : Byte) : Bool :=
  code.toNat = want && check = ~~~(code ^^^ value)

/-- The transmitter may have gained credit, time or a frame: the running frame goes on, a free transmitter chooses (R235). -/
def runTx (s : State) (n : Nat) : State := (s.advance n).chooseTx n

/-- The first express interval of lane `n` that has not ended, as start and end. -/
def nextExpress (s : State) (n : Nat) : Option (Nat × Nat) :=
  (s.expressIvs n).foldl (fun acc iv =>
    if iv.2 ≤ s.now then acc
    else match acc with
      | none => some iv
      | some a => if iv.1 < a.1 then some iv else some a) none

/-- Copies of frame `fid` being cut through, `k` bytes of which have arrived before PRE, end a fragment with PRE there, one that waits for RES
too (R233). -/
def preemptCopies (s : State) (fid k : Nat) : State :=
  let mark (x : TxFrame) : TxFrame := if x.fid = fid && x.off < k && x.sent < k then { x with stops := x.stops ++ [k] } else x
  (List.range 4).foldl (fun s n => (s.onLane n fun l => { l with tx := l.tx.map mark, txHeld := l.txHeld.map mark }).runTx n) s

/-- The write of LANE_CTRL: EN moves the lane between DISABLED and DOWN (R40, R43); RETRAIN acts as R41 says. -/
def writeLaneCtrl (s : State) (n v : Nat) : State :=
  let was := s.flag (Reg.LANE_CTRL.EN.at n)
  let s := s.storeWord (Reg.LANE_CTRL.EN.at n).addr v
  let is := s.flag (Reg.LANE_CTRL.EN.at n)
  let s :=
    if was && !is then if s.laneUp n then s.leaveActive n else s.restLane n
    else if !was && is && s.laneSt n = .disabled then s.restLane n
    else s
  if !bit v 1 then s
  else match s.laneSt n with
    | .active => s.retrain n
    | .resync => s.retrain n
    | .detect => s.restLane n
    | .align => s.restLane n
    | .eq => s.restLane n
    | .confirm => s.restLane n
    | _ => s

/-- R44: the lane enters ACTIVE with 128 credits and D, A and F at 0, sends a CR with F = 0 and reports up; a twin half holds a lane of
the other line (R14). -/
def enterActive (s : State) (n : Nat) : State :=
  let s := s.setLaneSt n .active
  let s := (s.put (Reg.LANE_CREDIT.TXD.at n) 0).put (Reg.LANE_CREDIT.TXF.at n) 0
  let s := (s.put (Reg.LANE_CREDIT.RXA.at n) 0).put (Reg.LANE_CREDIT.RXOCC.at n) 0
  let s := s.onLane n fun l =>
    { l with trailing := some (s.now + us 200), answerAt := some (s.now + us 500), probeAt := some s.now, pdAt := some s.now, echoOk := false, lineOk := true,
             heldOut := if s.wrongHalf n then 2 else 0, working := false, splitRun := 0, crF := 0 }
  let s := (((s.emit (.cr n 0)).emit (.idle n)).record 0x0101).raise (Reg.LANE_IRQ.UP.at n)
  if s.wrongHalf n then s.record 0x0106 else s

/-- A lane in CONFIRM that has met both halves of its exit condition enters ACTIVE (Table 02.4, R44). -/
def tryActive (s : State) (n : Nat) : State :=
  let l := s.lane n
  if 16 ≤ l.ts2Run ∧ 16 ≤ l.ts2Sent ∧ s.flag (Reg.LANE_STAT.RX_EMPTY.at n) then s.enterActive n else s

/-- EQ ends once the own receiver has adapted and a TS1 with EQDONE has been received (Table 02.4). -/
def tryConfirm (s : State) (n : Nat) : State :=
  if (s.lane n).peerEq && s.flag (Reg.LANE_STAT.EQDONE.at n) then
    let s := (s.setLaneSt n .confirm).onLane n fun l => { l with ts2Run := 0, ts2Sent := 0 }
    s.emit (.ts n true true (s.flag (Reg.LANE_STAT.RX_EMPTY.at n)))
  else s

/-- A training set: CHECK is the XOR of the six characters after K28.1, the reserved bytes are 0, TYPE is TS1 or TS2. -/
def tsOk (c : Bytes) : Bool :=
  let at_ (i : Nat) := byteAt c i
  c.length = 7 && (at_ 0 = 0x4A || at_ 0 = 0x45) && fieldAt c 2 4 = 0 && (at_ 0 ^^^ at_ 1) = at_ 6

/-- A training set that has arrived without code error, in each state of Table 02.4. -/
def takeTs (s : State) (n : Nat) (c : Bytes) : State :=
  let ts2 := byteAt c 0 = 0x45
  let fl := byteAt c 1
  let s := (s.putB (Reg.LANE_STAT.PEER_LINE.at n) (bit fl 5)).putB (Reg.LANE_STAT.PEER_END.at n) (bit fl 4)
  match s.laneSt n with
  | .align =>
    let s := (s.put (Reg.LANE_STAT.LOCK.at n) 1).onLane n fun l => { l with tsRun := l.tsRun + 1 }
    if 32 ≤ (s.lane n).tsRun then (s.setLaneSt n .eq).onLane n fun l => { l with tsRun := 0, peerEq := false } else s
  | .eq =>
    if !ts2 && bit fl 7 then (s.onLane n fun l => { l with peerEq := true }).tryConfirm n else s
  | .confirm =>
    let own := s.flag (Reg.LANE_STAT.RX_EMPTY.at n)
    let s := s.onLane n fun l =>
      { l with ts2Run := if ts2 && bit fl 6 then l.ts2Run + 1 else 0, ts2Sent := l.ts2Sent + b2n own }
    s.tryActive n
  | .active =>
    if ts2 && (s.lane n).trailing.any (s.now ≤ ·) then s else s.retrain n
  | .resync => if ts2 && (s.lane n).trailing.any (s.now ≤ ·) then s else s.retrain n
  | _ => s

/-- A training set with a code error, a wrong CHECK, another TYPE or a reserved byte that is not 0 counts as a code error and ends the run of
consecutive ones; for the last three the spec gives no action (log entry 38). Each of its `k` errors counts (R64). -/
def badTs (s : State) (n k : Nat) : State :=
  ((s.codeErrors n (max 1 k)).onLane n fun l => { l with tsRun := 0, ts2Run := 0 }).judgeErrors n

/-- A K character that counts as a code error: K28.3, K28.7 and any that Table 02.3 does not list (R37), and WAKE on an ACTIVE lane (R63). -/
def kError (up : Bool) (k : Byte) : Bool := let c : LineChar := ⟨true, k.toNat⟩; !c.sent || up && c = kChar 28 6

/-- Timeout of a training state, 1/16 ns (Table 02.4). -/
def trainLimit : LaneSt → Option Nat
  | .align => some (us 200)
  | .eq => some (us 1000)
  | .confirm => some (us 200)
  | _ => none

end State

/-- LANE_ENABLE_WRITE (R40). -/
def execLaneEnableWrite (lane : Lane) (value : Word) (s : State) : Host.Outcome State Fault Refusal :=
  live s fun s =>
  done (s.writeLaneCtrl lane value.toNat)

/-- LANE_RETRAIN_WRITE (R41). -/
def execLaneRetrainWrite (lane : Lane) (value : Word) (s : State) : Host.Outcome State Fault Refusal :=
  live s fun s =>
  done (s.writeLaneCtrl lane value.toNat)

/-- LANE_SIGNAL_DETECT (R40): DOWN goes to DETECT, once the lane's first calibration has run (R471). -/
def execLaneSignalDetect (lane : Lane) (s : State) : Host.Outcome State Fault Refusal :=
  live s fun s =>
  let s := s.put (Reg.LANE_STAT.SIGDET.at lane) 1
  done (if s.laneSt lane = .down && (s.cal lane).result.isSome then s.setLaneSt lane .detect else s)

/-- DETECT_SIGNAL_STABLE (R40): 50 µs of signal, DETECT goes to ALIGN. -/
def execDetectSignalStable (lane : Lane) (s : State) : Host.Outcome State Fault Refusal :=
  live s fun s =>
  done (if s.laneSt lane = .detect then
      ((s.reach ((s.lane lane).since + us 50)).setLaneSt lane .align).onLane lane fun l => { l with tsRun := 0 }
    else s)

/-- DETECT_SIGNAL_ABSENT (R40): 50 µs without signal, DETECT goes back to DOWN. This is no timeout that LANE_TRTO and 0x0103 count, although it
stands in that column of Table 02.4 (log entry 38). -/
def execDetectSignalAbsent (lane : Lane) (s : State) : Host.Outcome State Fault Refusal :=
  live s fun s =>
  let s := s.put (Reg.LANE_STAT.SIGDET.at lane) 0
  done (if s.laneSt lane = .detect then s.setLaneSt lane .down else s)

/-- TRAINING_SET_RECEIVED (R40, R41, R44). -/
def execTrainingSetReceived (lane : Lane) (line : TsLine) (chars : Bytes) (s : State) : Host.Outcome State Fault Refusal :=
  live s fun s =>
  let s := if line.idle && s.laneUp lane then s.endTrailing lane else s
  done (if line.errors = 0 && State.tsOk chars then s.takeTs lane chars else s.badTs lane line.errors)

/-- RECEIVER_ADAPTED (R40): the equaliser setting stands in LANE_EQRES; fixed parts follow LANE_RXCFG. -/
def execReceiverAdapted (lane : Lane) (ctle : Nat) (dfe1 dfe2 dfe3 : Byte) (s : State) : Host.Outcome State Fault Refusal :=
  live s fun s =>
  done (if s.laneSt lane = .eq then
      let c := if s.flag (Reg.LANE_RXCFG.CTLE_AUTO.at lane) then ctle else s.get (Reg.LANE_RXCFG.CTLE.at lane)
      let d := s.flag (Reg.LANE_RXCFG.DFE_EN.at lane)
      let tap (b : Byte) : Nat := if d then b.toNat else 0
      let s := (s.put (Reg.LANE_EQRES.CTLE_ACT.at lane) c).put (Reg.LANE_EQRES.DFE1.at lane) (tap dfe1)
      let s := (s.put (Reg.LANE_EQRES.DFE2.at lane) (tap dfe2)).put (Reg.LANE_EQRES.DFE3.at lane) (tap dfe3)
      ((s.put (Reg.LANE_STAT.EQDONE.at lane) 1).emit (.ts lane false true (s.flag (Reg.LANE_STAT.RX_EMPTY.at lane)))).tryConfirm lane
    else s)

/-- TRAINING_TIMEOUT (R40): back to DOWN, counted, recorded, and at once in DETECT again. -/
def execTrainingTimeout (lane : Lane) (s : State) : Host.Outcome State Fault Refusal :=
  live s fun s =>
  done (match State.trainLimit (s.laneSt lane) with
    | none => s
    | some t =>
      let s := s.reach ((s.lane lane).since + t)
      let s := ((s.bump (Reg.LANE_TRTO.COUNT.at lane)).raise (Reg.LANE_IRQ.TRTO.at lane)).record 0x0103
      (s.restLane lane).setLaneSt lane .detect)

/-- LANE_SIGNAL_LOSS (R41). -/
def execLaneSignalLoss (lane : Lane) (s : State) : Host.Outcome State Fault Refusal :=
  live s fun s =>
  let s := (s.put (Reg.LANE_STAT.SIGDET.at lane) 0).put (Reg.LANE_STAT.LOCK.at lane) 0
  done (if s.laneUp lane then s.retrain lane else s)

/-- LANE_ALIGNMENT_LOSS (R41). -/
def execLaneAlignmentLoss (lane : Lane) (s : State) : Host.Outcome State Fault Refusal :=
  live s fun s =>
  let s := s.put (Reg.LANE_STAT.LOCK.at lane) 0
  done (if s.laneUp lane then s.retrain lane else s)

/-- CODE_ERROR_THRESHOLD (R41): more than 64 errors within 100 µs. The operand names those that no other row counts: they came outside frames
and training sets, characters that R37 calls code errors among them, or in a frame that SF, RES or a resync cut off; LANE_FRAME_END and
TRAINING_SET_RECEIVED count the others (R64). -/
def execCodeErrorThreshold (lane : Lane) (seen : CodeErrors) (s : State) : Host.Outcome State Fault Refusal :=
  live s fun s =>
  let errors := seen.errors + (seen.ks.filter (State.kError (s.laneUp lane))).length
  done ((s.codeErrors lane errors).judgeErrors lane)

/-- CREDIT_RETURN_RECEIVED (R39). -/
def execCreditReturnReceived (lane : Lane) (f1 f2 nf : Byte) (s : State) : Host.Outcome State Fault Refusal :=
  live s fun s =>
  done (if s.laneUp lane then
      let s := s.endTrailing lane
      if f1 = f2 ∧ nf = ~~~f1 then (s.put (Reg.LANE_CREDIT.TXF.at lane) f1.toNat).runTx lane
      else s.bump (Reg.LANE_CRBAD.COUNT.at lane)
    else s)

/-- CREDIT_RETURN_TIMER (R39). -/
def execCreditReturnTimer (lane : Lane) (s : State) : Host.Outcome State Fault Refusal :=
  live s fun s =>
  done (if s.laneUp lane then s.sendCr lane else s)

/-- LANE_SF_RECEIVED (R47, R58, R62). -/
def execLaneSfReceived (lane : Lane) (debit : Byte) (s : State) : Host.Outcome State Fault Refusal :=
  live s fun s =>
  done (if s.laneUp lane then
      let s := s.endTrailing lane
      -- R58: SF inside an open frame ends that frame as EB
      let s := (s.cutOpen lane).onLane lane fun l => { l with rxRest := false, rxSkip := false, skipLen := 0 }
      if debit.toNat ≠ s.get (Reg.LANE_CREDIT.RXA.at lane) then s.startResync lane
      else s.onLane lane fun l => { l with rx := some { stamp := s.now } }
    else s)

/-- CRS_REQ_RECEIVED (R49, step 2): one EB ends what is in progress, a preempted frame with it (log entry 38); then CRS ACK with D. -/
def execCrsReqReceived (lane : Lane) (code value check : Byte) (s : State) : Host.Outcome State Fault Refusal :=
  live s fun s =>
  done (if s.laneUp lane && State.crsOk 1 code value check && value = 0 then
      let s := (s.endTrailing lane).advance lane
      let l := s.lane lane
      let s := if l.tx.isNone && l.txHeld.isSome then s.emit (.eb lane) else s.endTx lane false
      let s := match l.txHeld with
        | some x => (s.onLane lane fun l => { l with txHeld := none }).gc x.fid
        | none => s
      let s := s.emit (.crs lane 2 (s.get (Reg.LANE_CREDIT.TXD.at lane)))
      (s.setLaneSt lane .resync).onLane lane fun l => { l with rsTx := true, rsTxAt := some (l.rsTxAt.getD (s.now + us 100)) }
    else s)

/-- CRS_ACK_RECEIVED (R49, step 3): REQ is no longer sent, and what was left of the discarded frame has come: a data character from here on is
a stray one (R58). -/
def execCrsAckReceived (lane : Lane) (code value check : Byte) (s : State) : Host.Outcome State Fault Refusal :=
  live s fun s =>
  let s := if s.laneUp lane && State.crsOk 2 code value check then s.endTrailing lane else s
  done (if s.laneUp lane && State.crsOk 2 code value check && (s.lane lane).rsReq then
      (s.onLane lane fun l => { l with rsReq := false, rsAck := some value.toNat, rxRest := false }).emit (.crsEnd lane)
    else s)

/-- RESYNC_BUFFER_DRAINED (R49, step 3): with O = 0 A and F take the value of CRS ACK; CR, then CRS DONE. -/
def execResyncBufferDrained (lane : Lane) (s : State) : Host.Outcome State Fault Refusal :=
  live s fun s =>
  done (match (s.lane lane).rsAck with
    | none => s
    | some v =>
      if s.get (Reg.LANE_CREDIT.RXOCC.at lane) ≠ 0 then s
      else
        let s := (s.put (Reg.LANE_CREDIT.RXA.at lane) v).onLane lane fun l => { l with rsAck := none, rsAt := none }
        (s.sendCr lane).insertSet lane (.crs lane 3 0))

/-- CRS_DONE_RECEIVED (R49, step 4). -/
def execCrsDoneReceived (lane : Lane) (code value check : Byte) (s : State) : Host.Outcome State Fault Refusal :=
  live s fun s =>
  let s := if s.laneUp lane && State.crsOk 3 code value check then s.endTrailing lane else s
  done (if State.crsOk 3 code value check && value = 0 && (s.lane lane).rsTx then
      let s := s.put (Reg.LANE_CREDIT.TXF.at lane) (s.get (Reg.LANE_CREDIT.TXD.at lane))
      let s := s.onLane lane fun l => { l with rsTx := false, rsTxAt := none }
      (s.setLaneSt lane .active).runTx lane
    else s)

/-- CREDIT_RESYNC_TIMEOUT (R50): the earlier of the two deadlines that may stand has come. -/
def execCreditResyncTimeout (lane : Lane) (s : State) : Host.Outcome State Fault Refusal :=
  live s fun s =>
  let l := s.lane lane
  done (match l.rsAt, l.rsTxAt with
    | none, none => s
    | some t, none => ((s.reach t).record 0x0107).retrain lane
    | none, some t => ((s.reach t).record 0x0107).retrain lane
    | some t, some u => ((s.reach (min t u)).record 0x0107).retrain lane)

/-- STRAY_DATA_CHARACTER (R58): it opens a frame, of which it is the first byte, and the resync discards that frame. -/
def execStrayDataCharacter (lane : Lane) (char : Byte) (s : State) : Host.Outcome State Fault Refusal :=
  live s fun s =>
  let l := s.lane lane
  done (if s.laneUp lane && l.rx.isNone && !l.rxSkip && !l.rxRest then
      let s := s.onLane lane fun l => { l with rx := some { stamp := s.now, bytes := [char] } }
      let s := s.put (Reg.LANE_CREDIT.RXA.at lane) ((s.get (Reg.LANE_CREDIT.RXA.at lane) + 1) % 256)
      ((s.codeErrors lane 1).startResync lane).judgeErrors lane
    else s)

/-- PREEMPT_RECEIVED (R61): the fragment is held, a cut-through copy ends its own fragment there too (R233); PRE in an express frame or at
an offset that R59 does not allow ends the frame as EB. With no frame open PRE changes and counts nothing, as EG and EB do (log entry 38). -/
def execPreemptReceived (lane : Lane) (bytes : Bytes) (s : State) : Host.Outcome State Fault Refusal :=
  live s fun s =>
  done (match (s.lane lane).rx with
    | none => s.passRest lane bytes
    | some _ =>
      let s := s.takeBytes lane bytes
      match (s.lane lane).rx with
      | none => s
      | some f =>
        let k := f.bytes.length
        let allowed := !(hCls f.bytes).express && k % 64 = 0 && 64 ≤ k && k + 64 ≤ frameLen f.bytes && (s.lane lane).rxHeld.isNone
        if allowed then
          let s := s.onLane lane fun l => { l with rx := none, rxHeld := some f }
          let s := match f.stage with
            | .kept fid => (s.onFrame fid fun p => { p with bytes := f.bytes }).preemptCopies fid k
            | _ => s
          (s.put (Reg.LANE_STAT.PREOPEN.at lane) 1).refreshOcc lane
        else (s.endAsEb lane).protoErr lane)

/-- RESUME_RECEIVED (R47, R61): its counter is compared with A whether or not a preempted frame is open. A frame open and not preempted
ends as with EB and is counted nowhere (log entry 38). -/
def execResumeReceived (lane : Lane) (debit : Byte) (s : State) : Host.Outcome State Fault Refusal :=
  live s fun s =>
  done (if s.laneUp lane then
      let s := s.endAsEb lane
      let held := (s.lane lane).rxHeld
      let s := if held.isNone then (s.protoErr lane).onLane lane fun l => { l with rxSkip := true, skipLen := 0 } else s
      if debit.toNat ≠ s.get (Reg.LANE_CREDIT.RXA.at lane) then s.startResync lane
      else match held with
        | none => s
        | some f =>
          (s.put (Reg.LANE_STAT.PREOPEN.at lane) 0).onLane lane fun l =>
            { l with rx := some f, rxHeld := none, rxSkip := false, rxRest := false }
    else s)

/-- TX_SOURCE_STALL (R38, R234): no byte of the frame in progress has been ready for 2 µs; it ends with EB, and the frame is a bad one. -/
def execTxSourceStall (lane : Lane) (s : State) : Host.Outcome State Fault Refusal :=
  live s fun s =>
  let s := s.advance lane
  done (match (s.lane lane).tx with
    | none => s
    | some x =>
      match s.frame? x.fid with
      | some f => if f.complete || x.sent < f.bytes.length / 4 * 4 then s else (s.stallFrame x.fid).runTx lane
      | none => s)

/-- EGRESS_FRAME_START (R235): the frame in progress runs to its end, then the transmitter chooses. -/
def execEgressFrameStart (lane : Lane) (s : State) : Host.Outcome State Fault Refusal :=
  live s fun s =>
  done ((s.finishTx lane).chooseTx lane)

/-- EXPRESS_INTERVAL_START (R145): time reaches the interval; a MGMT or BULK fragment has ended before it where R59 lets it. -/
def execExpressIntervalStart (lane : Lane) (s : State) : Host.Outcome State Fault Refusal :=
  live s fun s =>
  done (match s.nextExpress lane with
    | none => s
    | some (x, _) => ((s.reach x).advance lane).chooseTx lane)

/-- GIANT_BYTE_RECEIVED (R57): byte 2,077; every forwarded copy ends with EB at once, later bytes are discarded. -/
def execGiantByteReceived (lane : Lane) (bytes : Bytes) (s : State) : Host.Outcome State Fault Refusal :=
  live s fun s =>
  done (match (s.lane lane).rx with
    | none => (s.takeBytes lane bytes).refreshOcc lane
    | some _ =>
      let s := s.takeBytes lane bytes
      match (s.lane lane).rx with
      | none => s
      | some f =>
        if f.bytes.length < 2077 ∨ f.giant then s.refreshOcc lane
        else
          let s := (s.abortRx (some f)).bump (Reg.LANE_GIANT.COUNT.at lane)
          (s.onLane lane fun l => { l with rx := some { f with giant := true, stage := .dropped } }).refreshOcc lane)

end Sys2Proof.Machine
end

