-- ==== Sys2Proof/Machine/Rounds.lean ====
section
/-! DEFINITION. Rounds of inauguration: start and adoption (R75 to R78, R98), count waves (R80 to R87), the roster (R88 to R92),
agreement (R93 to R99), DAYBREAK (R101 to R104, R120 to R122, R504, R505). -/

namespace Sys2Proof.Machine

/-- Payload of a START (Table 03.3). -/
def startPayload (r : Round) : Bytes :=
  [1] ++ natBe 1 (128 * b2n r.cold) ++ natBe 2 r.rnd ++ natBe 8 r.starter ++ natBe 4 r.ocyc

/-- Payload of a COUNT segment up to its items, and with them (Table 03.4). -/
def countHead (r : Round) (loop last ovf : Bool) (origin seg items entries oend : Nat) : Bytes :=
  [2] ++ natBe 1 (128 * b2n loop + 64 * b2n last + 32 * b2n ovf + 16 * b2n r.cold) ++ natBe 2 r.rnd ++ natBe 8 r.starter
  ++ natBe 8 origin ++ natBe 2 seg ++ natBe 2 items ++ natBe 2 entries ++ natBe 1 oend ++ [0] ++ natBe 4 r.ocyc

def countPayload (r : Round) (loop last ovf : Bool) (origin seg entries oend : Nat) (items : List Item) : Bytes :=
  countHead r loop last ovf origin seg items.length entries oend ++ items.flatMap Item.bytes

/-- Payload of an RSUM (Table 03.10). -/
def rsumPayload (kind : Nat) (cold : Bool) (rnd sum count gen cyc origin own offset ttSec ttNs : Nat) : Bytes :=
  natBe 1 kind ++ natBe 1 (128 * b2n cold) ++ natBe 2 rnd ++ natBe 4 sum ++ natBe 2 count ++ natBe 2 gen ++ natBe 4 cyc
  ++ natBe 8 origin ++ natBe 4 own ++ natBe 4 offset ++ natBe 6 ttSec ++ natBe 4 ttNs ++ natBe 6 0

/-- Round p is better than round q (R75). -/
def betterRound (rnd starter rnd' starter' : Nat) : Bool :=
  if rnd' = 0 then true
  else if rnd = rnd' then outranks starter starter' else 0 < sdiff16 rnd rnd'

/-- Items with entries: how many roster entries. -/
def entryCount (is : List Item) : Nat := (is.filter fun i => match i with | .entry _ => true | .ident _ => false).length

/-- The last identity record of the items, else `d`. -/
def lastIdent (d : Option IdRec) : List Item → Option IdRec
  | [] => d
  | .ident r :: is => lastIdent (some r) is
  | .entry _ :: is => lastIdent d is

/-- The items of a wave, once every segment up to LAST is held. -/
def wholeWave (segs : List Seg) : Option (List Item) :=
  match segs.find? (·.last) with
  | none => none
  | some l =>
    let at_ (k : Nat) := segs.find? (·.seg = k)
    if (List.range (l.seg + 1)).all fun k => (at_ k).isSome then
      some ((List.range (l.seg + 1)).flatMap fun k => (at_ k).elim [] (·.items))
    else none

namespace State

/-- The 16 bytes that INAU_MBSEL selects (Table 03.18, R106). An index that the table does not name, and a header while no roster
is in force, read as 0 (log entry 38). -/
def mailBytes (s : State) (src ix : Nat) : Bytes :=
  let entryOf (r : Option Roster) : Bytes := ((r.bind fun r => r.atPos ix).elim [] Entry.bytes)
  let headOf (r : Option Roster) : Bytes := if 2 ≤ ix then [] else (r.elim [] fun r => (r.header.drop (16 * ix)).take 16)
  let b := match src with
    | 0 => entryOf s.roster
    | 1 => entryOf (s.inau.pending.map (·.roster))
    | 2 => headOf s.roster
    | 3 => headOf (s.inau.pending.map (·.roster))
    | 4 => if ix < 4 then (s.lane ix).probe.take 16 else []
    | _ => []
  b ++ List.replicate (16 - b.length) 0

/-- INAU_MBSTAT.VALID falls where the value selected is no longer the one shown (R7). -/
def mailCheck (s : State) : State :=
  let b := s.mailBytes (s.get Reg.INAU_MBSEL.SRC) (s.get Reg.INAU_MBSEL.INDEX)
  if fieldAt b 0 4 = s.get Reg.INAU_MBD0.DATA && fieldAt b 4 4 = s.get Reg.INAU_MBD1.DATA && fieldAt b 8 4 = s.get Reg.INAU_MBD2.DATA
    && fieldAt b 12 4 = s.get Reg.INAU_MBD3.DATA then s
  else s.put Reg.INAU_MBSTAT.VALID 0

/-- The held round changed. -/
def onRound (s : State) (f : Round → Round) : State := { s with inau.round := s.inau.round.map f }

/-- Ends with a working joint; every lane of every working joint that the node sends inauguration frames on. -/
def workEnds (s : State) : List Nat := [0, 1].filter fun e => (s.vend e).working
def allWorking (s : State) : List Nat := s.workEnds.flatMap s.workingLanes

/-- A round number has been seen (R76). -/
def noteRnd (s : State) (r : Nat) : State :=
  if r ≠ 0 ∧ (s.inau.topRnd = 0 ∨ 0 < sdiff16 r s.inau.topRnd) then { s with inau.topRnd := r } else s

/-- A frame of a worse round is discarded (R77, R78). -/
def stale (s : State) : State := s.bump Reg.INAU_STALE.COUNT

/-- The node holds a stack master with members (Table 03.7, STKM). -/
def stkm (s : State) : Bool := s.get Reg.GLB_STRAP.STACK_ID = 0 && s.get Reg.BRDG_STACK.PRESENT ≠ 0

/-- Generation, position and orientation that PROBE and wave items carry: those in force, after Dawn those kept for the first round (R379). -/
def idGen (s : State) : Nat :=
  match s.roster, s.inau.kept with
  | none, some k => k.1.gen
  | _, _ => s.gen
def idPos (s : State) : Nat :=
  match s.roster, s.inau.kept with
  | none, some k => k.2.1
  | _, _ => s.pos
def idOrient (s : State) : Bool :=
  match s.roster, s.inau.kept with
  | none, some k => k.2.2
  | _, _ => s.orient

/-- The round held is the one in which a compaction sends STICKY = 0 (R119). -/
def compacting (s : State) : Bool :=
  s.inau.compact = 1 && s.inau.compactRnd.isSome && s.inau.compactRnd = s.inau.round.map fun r => (r.starter, r.rnd)

/-- The node's own entry in a wave sent out of end `wout` (Tables 03.6, 03.7). -/
def ownEntry (s : State) (wout : Nat) : Entry :=
  let half := match s.inau.pair with | some (_, h) => h = 1 | none => false
  { uid := s.entryUid, pos := s.idPos, veh := s.get Reg.INAU_ITEM.VEHNUM, budget := s.get Reg.INAU_ITEM.BUDGET
    flags := flagBit 15 s.inau.pair.isSome ||| flagBit 14 half ||| flagBit 13 s.stkm ||| flagBit 12 (s.flag Reg.INAU_CTRL.SYNCCAP)
      ||| flagBit 11 (s.flag Reg.INAU_STAT.LEADIN && !s.flag Reg.INAU_CTRL.LEADMASK) ||| flagBit 10 (s.flag Reg.INAU_CTRL.LEADEND)
      ||| flagBit 9 s.idOrient ||| flagBit 8 (s.flag Reg.REST_CFG.TWKEEP)
      ||| flagBit 7 (s.flag Reg.INAU_CTRL.STICKY && !s.compacting) ||| flagBit 6 (wout = 1)
      ||| flagBit 5 (s.flag Reg.INAU_CTRL.LHCAND) ||| flagBit 4 (!s.flag Reg.INAU_CTRL.EN || s.flag Reg.INAU_STAT.EXCL) }

/-- The entry that a wave of round `rnd` takes: a twin Y half takes the item of twin X's ENTRY frame for that round (R333). -/
def waveEntry (s : State) (rnd wout : Nat) : Entry :=
  match s.twin.entry with
  | some (r, b) =>
    if s.twinOn && s.half = 1 && r = rnd then
      match parseItem b with
      | .entry e => { e with flags := setFlagBit e.flags 6 (wout = 1) }
      | .ident _ => s.ownEntry wout
    else s.ownEntry wout
  | none => s.ownEntry wout

/-- The node's own identity record (Table 03.5). -/
def ownId (s : State) : IdRec :=
  match s.roster with
  | some r => ⟨r.tiUid, r.tiLin, r.gen, r.sticky, r.loop⟩
  | none => match s.inau.kept with
    | some k => k.1
    | none => .null

/-- A frame leaves on the twin link at the instant `t` (Table 12.1); it takes 80 ns a character, SF and EG included (125 MBd). A SEAL seals
its mirror set (Table 12.6). -/
def twinEmit (s : State) (t kind : Nat) (pl : Bytes) : State :=
  let s : State := if kind = 5 then { s.bump Reg.TWIN_MIRSETS.COUNT with twin.sealed := fieldAt pl 0 4 } else s
  let b := natBe 1 kind ++ [0] ++ natBe 2 pl.length ++ natBe 2 s.twin.seq ++ natBe 2 0 ++ pl
  { s with twin.seq := (s.twin.seq + 1) % 65536, twin.txFree := t + ns 80 * (14 + pl.length) }.emit (.twin (b ++ fcsBytes b))

/-- Place of a KIND in the order of sending (R334): HB, ENTRY, RELAY, then MIR and SEAL. -/
def twinRank (kind : Nat) : Nat := min kind 4

/-- The frame that leaves next: the oldest of those first in order. -/
def twinNext (q : List (Nat × Bytes)) : Option (Nat × Bytes) :=
  q.foldl (fun a x => match a with | none => some x | some y => if twinRank x.1 < twinRank y.1 then some x else some y) none

/-- Waiting frames whose turn has come leave, each as the one before it ends; `n` bounds their number. -/
def twinPump (s : State) : Nat → State
  | 0 => s
  | n + 1 =>
    match twinNext s.twin.txq with
    | none => s
    | some x => if s.now < s.twin.txFree then s
      else (({ s with twin.txq := s.twin.txq.erase x } : State).twinEmit s.twin.txFree x.1 x.2).twinPump n

/-- The transmitter of the twin link has come up to now: frames that waited have left. -/
def twinRun (s : State) : State := s.twinPump s.twin.txq.length

/-- A frame for the twin link: it leaves at once where the transmitter is free, or waits for its turn (R334, log entry 43). -/
def twinSend (s : State) (kind : Nat) (pl : Bytes) : State :=
  let s := s.twinRun
  if s.twin.txq.isEmpty && s.twin.txFree ≤ s.now then s.twinEmit s.now kind pl
  else { s with twin.txq := s.twin.txq ++ [(kind, pl)] }

/-- The item and the identity record of this node in round `r`, as far as its waves have fixed them. -/
def roundEntry (s : State) (r : Round) (wout : Nat) : Entry :=
  match r.own with
  | some (e, _) => { e with flags := setFlagBit e.flags 6 (wout = 1) }
  | none => s.waveEntry r.rnd wout
def roundId (s : State) (r : Round) : IdRec := match r.own with | some (_, i) => i | none => s.ownId

/-- Twin Y waits for the item that twin X appends in round `r`: both append the same one while the twin link works (R84, R333). -/
def entryDue (s : State) (r : Round) : Bool :=
  s.twinOn && s.half = 1 && s.inau.pair.isSome && s.flag Reg.TWIN_STAT.TLOK && r.own.isNone
    && !s.twin.entry.any (fun (e : Nat × Bytes) => e.1 = r.rnd)

/-- The node's item in the held round stands from here on: every wave carries the same, and its roster is computed from it (R88). -/
def fixItem (s : State) : State :=
  s.onRound fun r => if r.own.isSome || s.entryDue r then r else { r with own := some (s.waveEntry r.rnd 0, s.ownId) }

/-- Twin X tells twin Y the item it appends in the held round (R333, Table 12.2). -/
def sendEntry (s : State) : State :=
  if s.twinOn && s.half = 0 && s.inau.pair.isSome then
    let s := s.fixItem
    match s.inau.round with
    | none => s
    | some r => s.twinSend 2 (natBe 8 s.uid ++ natBe 2 r.rnd ++ natBe 6 0 ++ (s.roundEntry r 0).bytes)
  else s

/-- A WAVE or RSUM frame on the lanes given. -/
def sendWave (s : State) (pl : Bytes) (lanes : List Nat) : State := s.originate (s.inauFrame 0x11 pl) lanes
def sendRsum (s : State) (pl : Bytes) (lanes : List Nat) : State := s.originate (s.inauFrame 0x12 pl) lanes

/-- The wave that this node originates out of end `e` (R80, R81). -/
def originWave (s : State) (r : Round) (e : Nat) (loop : Bool) : State :=
  s.sendWave (countPayload r loop true false s.uid 0 1 e [.ident (s.roundId r), .entry (s.roundEntry r e)]) (s.workingLanes e)

/-- An end node or a seam originates its waves, twin Y once it has twin X's item; a node with no working joint goes straight to the compute
phase (R80, R333). -/
def originWaves (s : State) : State :=
  let s := if s.workEnds.length < 2 || s.inau.round.any (·.seam) then s.fixItem else s
  match s.inau.round with
  | none => s
  | some r =>
    if r.seam then
      if r.originated || s.entryDue r then s
      else (((s.onRound fun r => { r with originated := true }).originWave r 1 true).originWave r 0 true)
    else match s.workEnds with
      | [] => { s.onRound fun r => { r with phase := .compute } with inau.waveAt := none }
      | [e] => if r.originated || s.entryDue r then s else (s.onRound fun r => { r with originated := true }).originWave r e false
      | _ => s

/-- The pending roster is discarded: INAU_NOON shows the last Noon again. -/
def dropPending (s : State) : State :=
  ({ s with inau := { s.inau with pending := none, pendingRnd := none, noon := none, place := none, rephase := false } }.put
    Reg.INAU_NOON.NOON s.inau.lastNoon).mailCheck

/-- A frame of the pool that relays a frame of round `r`: a WAVE of that round from another starter or origin, an RSUM of its number from
another origin. -/
def relayOf (s : State) (r : Round) (f : PFrame) : Bool :=
  let pl := f.bytes.drop 24
  f.ingress = 11 && f.cls = .mgmt && fieldAt pl 2 2 = r.rnd &&
    match hType f.bytes, byteAt pl 0 with
    | 0x11, 1 => fieldAt pl 4 8 = r.starter && r.starter ≠ s.uid
    | 0x11, _ => fieldAt pl 4 8 = r.starter && fieldAt pl 12 8 ≠ s.uid
    | 0x12, _ => fieldAt pl 16 8 ≠ s.uid
    | _, _ => false

/-- Relays of round `r` that have not left the node yet. -/
def roundRelays (s : State) (r : Round) : List Nat := (s.fab.frames.filter (s.relayOf r)).map (·.fid)

/-- Relays in progress of the held round end with EB (R78); one whose last byte has left by now is none of them. -/
def endRelays (s : State) : State :=
  let s := s.advanceAll
  match s.inau.round with
  | none => s
  | some r => (s.roundRelays r).foldl badFrame s

/-- A round is adopted (R78, R98): the held one falls with all its state, a pending roster is kept for its Noon or discarded, and the
count waves start now or at that Noon. The first round adopted after a compaction round has been asked for is that round (R119). The count of
consecutive minority rounds is kept: a round given up for a better one, or abandoned, does not break it (R96, log entry 38). -/
def adopt (s : State) (rnd starter : Nat) (cold : Bool) (ocyc : Nat) : State :=
  let s := (s.endRelays.noteRnd rnd)
  let keep := match s.inau.noon with
    | some n => s.inau.pending.isSome && (cold || sdiff32 n ocyc ≤ 1)
    | none => false
  let s := if s.inau.pending.isSome && !keep then s.dropPending else s
  let r : Round := { rnd := rnd, starter := starter, cold := cold, ocyc := ocyc }
  let s := { s with inau := { s.inau with round := some r, compactRnd := s.inau.compactRnd.orElse fun _ => if s.inau.compact ≠ 0 then some (starter, rnd) else none
                                          changed := false, mustStart := false, spacingAt := none, agreeAt := none
                                          waveAt := if keep then none else some (s.now + s.tWave) } }
  let s := ((s.bump Reg.INAU_ROUNDS.COUNT).raise Reg.INAU_IRQ.ROUND).put Reg.INAU_GEN.RND rnd
  (if keep then s else s.sendEntry.originWaves).refreshInau

/-- The node starts a round (R76). An end node sends its count wave ahead of the START (log entry 38). -/
def startRound (s : State) : State :=
  let n := if s.inau.topRnd = 65535 then 1 else s.inau.topRnd + 1
  let cold := s.inau.force.isNone
  let ocyc := if cold then 0 else s.cyc
  let s := { s.record 0x0201 with inau.lastStart := s.now }
  let s := (s.bump Reg.INAU_STARTED.COUNT).adopt n s.uid cold ocyc
  let s := s.onRound fun r => { r with st1 := true, st2 := true }
  match s.inau.round with
  | some r => s.sendWave (startPayload r) s.allWorking
  | none => s

/-- T_SETTLE and T_STARTUP have passed (R76). A stack member runs no round: its master holds the position (R16). At PACE 0 and 1 no roster can form
(R483). -/
def mayStartRound (s : State) : Bool :=
  s.inau.settleAt.isNone && s.inau.startupAt.isNone && s.stackId = 0 && 2 ≤ s.get Reg.GLB_PACE.ACT

/-- A round start that R76 admits, held off by the spacing of R97 while NOAGREE is set. -/
def tryStart (s : State) : State :=
  if !s.mayStartRound then { s with inau.mustStart := true }
  else
    let t := s.inau.lastStart + s.tOrMs
    if s.flag Reg.INAU_STAT.NOAGREE ∧ s.now < t then { s with inau := { s.inau with spacingAt := some t, mustStart := true } }.refreshInau
    else s.startRound

/-- The conditions of R76 are judged. -/
def judgeStart (s : State) : State :=
  if s.mayStartRound ∧ (s.inau.mustStart ∨ s.inau.changed ∨ (s.inau.force.isNone ∧ s.inau.round.isNone)) then s.tryStart
  else s.refreshInau

/-- This node is in the minority of the held round (R96). -/
def minorityNow (r : Round) : Bool :=
  match r.computed, r.agrees with
  | some h, a :: as =>
    (a :: as).all (fun x => x.sum ≠ h.sum) && (a :: as).any (fun x => 2 ≤ x.count) && as.all (fun x => x.sum = a.sum)
  | _, _ => false

/-- The held round has failed (R96, R97); `start` where this node starts the next one. Its frames are relayed on until a better round is adopted
(R78, R86, R94). -/
def failRound (s : State) (start : Bool) : State :=
  match s.inau.round with
  | none => s
  | some r =>
    let mi := minorityNow r
    let s := s.onRound fun r => { r with phase := .failed, minority := mi }
    -- a round that fails behind a failed one (R97, R475)
    let s := if s.inau.fails = 0 then s else s.secondFault 0x0204 0x0204
    let minor := if mi then s.inau.minor + 1 else 0
    let s := { s with inau := { s.inau with waveAt := none, agreeAt := none, fails := s.inau.fails + 1, minor := minor, kept := none } }
    let s := if 2 ≤ minor ∧ !s.flag Reg.INAU_STAT.EXCL then (s.put Reg.INAU_STAT.EXCL 1).record 0x0205 else s
    let s := if 3 ≤ s.inau.fails ∧ !s.flag Reg.INAU_STAT.NOAGREE then
        ((s.put Reg.INAU_STAT.NOAGREE 1).raise Reg.INAU_IRQ.NOAGREE).record 0x0209 else s
    (if start then s.tryStart else s).refreshInau

/-- A failed check of R87: the round is abandoned as if a joint change had occurred. -/
def abandonRound (s : State) : State :=
  let s := (s.onRound fun r => { r with phase := .failed }).bump Reg.INAU_WAVETO.COUNT
  { s with inau := { s.inau with waveAt := none, agreeAt := none, changed := true, settleAt := some (s.now + s.tSettle) } }.refreshInau

/-- START relayed out of the end opposite to `e`, once in that direction (R77). -/
def relayStart (s : State) (e : Nat) : State :=
  match s.inau.round with
  | none => s
  | some r =>
    let o := oppEnd e
    if (if o = 0 then r.st1 else r.st2) then s.stale
    else
      let s := s.onRound fun r => if o = 0 then { r with st1 := true } else { r with st2 := true }
      s.sendWave (startPayload r) (s.workingLanes o)

/-- A better round than the held one is adopted as its START asks, and the START relayed (R77, R78). -/
def adoptFrom (s : State) (e rnd starter : Nat) (cold : Bool) (ocyc : Nat) : State :=
  (s.adopt rnd starter cold ocyc).relayStart e

/-- The held round has that identity; the named round is better than the held one. -/
def heldIs (s : State) (rnd starter : Nat) : Bool := s.inau.round.any fun r => r.rnd = rnd && r.starter = starter
def isBetter (s : State) (rnd starter : Nat) : Bool :=
  rnd ≠ 0 && match s.inau.round with | none => true | some r => betterRound rnd starter r.rnd r.starter

/-- A START arrives at end `e` (R77, R79). -/
def takeStart (s : State) (e : Nat) (pl : Bytes) : State :=
  let rnd := fieldAt pl 2 2
  let starter := fieldAt pl 4 8
  let s := s.noteRnd rnd
  if s.isBetter rnd starter then s.adoptFrom e rnd starter (bit (byteAt pl 1) 7) (fieldAt pl 12 4)
  else if s.heldIs rnd starter then
    match s.inau.round with
    | some r =>
      if starter = s.uid && r.phase = .count && !r.seam then
        let s := s.onRound fun r => { r with seam := true }
        -- R98: while a kept roster is pending, the seam too originates its waves at that Noon
        if s.inau.pending.isSome then s else s.originWaves
      else s.relayStart e
    | none => s
  else s.stale

/-- Segments of the line wave that arrived at end `e`; of the loop wave sent out of the seam's end `o`. -/
def lineSegs (r : Round) (e : Nat) : List Seg := r.segs.filter fun g => !g.loop && g.arrived = e
def loopSegs (r : Round) (o : Nat) : List Seg := r.segs.filter fun g => g.loop && g.oend = o

/-- The chain that the node holds, and whether it is a loop, once it has every wave of Table 03.8. -/
def heldChain (s : State) (r : Round) : Option (List Link × Bool) :=
  let me := s.roundEntry r 0
  let id := s.roundId r
  if r.seam || r.segs.any (·.loop) then
    match wholeWave (loopSegs r 1), wholeWave (loopSegs r 0) with
    | some w2, some w1 =>
      let arr := ((loopSegs r 1).head?).elim 0 (·.arrived)
      some (loopChain r.seam me id arr w2 w1, true)
    | _, _ => none
  else match s.workEnds with
    | [] => some (lineChain me id none none, false)
    | [e] => (wholeWave (lineSegs r e)).map fun w => (lineChain me id (if e = 0 then some w else none) (if e = 0 then none else some w), false)
    | _ => match wholeWave (lineSegs r 0), wholeWave (lineSegs r 1) with
      | some a, some b => some (lineChain me id (some a) (some b), false)
      | _, _ => none

/-- After a segment has been kept: the chain may be held (R86, R87). -/
def judgeChain (s : State) : State :=
  match s.inau.round with
  | none => s
  | some r =>
    if r.phase ≠ .count || s.entryDue r then s
    else if r.segs.any fun g => g.ovf && (wholeWave (r.segs.filter fun x => x.origin = g.origin && x.oend = g.oend)).isSome then ((s.record 0x0207).bump Reg.INAU_WAVETO.COUNT).failRound false
    else match s.heldChain r with
      | none => s
      | some (c, _) =>
        if chainOk c then { s.onRound fun r => { r with phase := .compute } with inau.waveAt := none }
        else s.abandonRound

/-- What this node appends to the LAST segment of a wave whose last identity record is `lid` and which holds `n` entries (R82, R86); `ident`
where a header that has left has announced an identity record, needed or not (log entry 10). -/
def appended (s : State) (r : Round) (lid : Option IdRec) (n wout : Nat) (ident : Bool := false) : List Item :=
  if 2048 ≤ n then []
  else (if lid = some (s.roundId r) && !ident then [] else [Item.ident (s.roundId r)]) ++ [.entry (s.roundEntry r wout)]

/-- The payloads that relay a whole segment out of end `o`, as SEG and payload (R82). -/
def relayPayloads (s : State) (r : Round) (g : Seg) (lid : Option IdRec) (o : Nat) (ident : Bool := false) : List (Nat × Bytes) :=
  if !g.last then [(g.seg, countPayload r g.loop false g.ovf g.origin g.seg g.entries g.oend g.items)]
  else
    let add := s.appended r lid g.entries o ident
    let ovf := g.ovf || 2048 ≤ g.entries
    let all := g.items ++ add
    let total := g.entries + entryCount add
    if all.length ≤ 126 then [(g.seg, countPayload r g.loop true ovf g.origin g.seg total g.oend all)]
    else
      let fst := all.take 126
      let snd := all.drop 126
      [(g.seg, countPayload r g.loop false ovf g.origin g.seg (total - entryCount snd) g.oend fst),
       (g.seg + 1, countPayload r g.loop true ovf g.origin (g.seg + 1) total g.oend snd)]

/-- Segment key: origin, OEND, SEG. -/
def segKey (g : Seg) : Nat × Nat × Nat := (g.origin, g.oend, g.seg)

/-- The last identity record that stands before the end of segment `g` in its wave. -/
def identBefore (r : Round) (g : Seg) : Option IdRec :=
  let earlier := (List.range g.seg).flatMap fun k =>
    (r.segs.find? fun x => x.origin = g.origin && x.oend = g.oend && x.seg = k).elim [] (·.items)
  lastIdent none (earlier ++ g.items)

/-- The segment that a COUNT payload holds. -/
def parseSeg (pl : Bytes) (e : Nat) : Seg :=
  let n := min 126 (fieldAt pl 22 2)
  { origin := fieldAt pl 12 8, oend := byteAt pl 26, seg := fieldAt pl 20 2, last := bit (byteAt pl 1) 6, ovf := bit (byteAt pl 1) 5
    loop := bit (byteAt pl 1) 7, items := parseItems n (pl.drop 32), entries := fieldAt pl 24 2, arrived := e }

/-- Bytes of the items of a segment that stand in the payload bytes that have arrived. -/
def itemBytes (pl : Bytes) : Bytes := (pl.drop 32).take (16 * min 126 (fieldAt pl 22 2))

/-- The node relays segment `g` of its round (R82, R84, R85): its own waves do not go on from a seam, and twin Y appends nothing before it has
twin X's item. -/
def relaysOut (s : State) (r : Round) (g : Seg) : Bool :=
  !(r.seam && g.origin = s.uid) && !(s.workingLanes (oppEnd g.arrived)).isEmpty && !(g.last && s.entryDue r)

/-- The segments of the wave before segment `g` are held and have been relayed: `g` may follow them (R82). -/
def relayReady (r : Round) (g : Seg) : Bool :=
  (List.range g.seg).all fun k => r.segs.any (fun x => segKey x = (g.origin, g.oend, k)) && r.relayed.contains (g.origin, g.oend, k)

/-- The relay of a whole segment out of the opposite end: a relay that has started is completed if what it sent still stands, with an identity
record where its header announced one (log entry 10), else it ends with EB and the segment is relayed afresh (R83, R84). -/
def relaySeg (s : State) (g : Seg) : State :=
  match s.inau.round with
  | none => s
  | some r =>
    let o := oppEnd g.arrived
    let send (s : State) (ps : List (Nat × Bytes)) : State := ps.foldl (fun s q => s.sendWave q.2 (s.workingLanes o)) s
    if !s.relaysOut r g || !relayReady r g then s
    else
      let ps := s.relayPayloads r g (identBefore r g) o
      let begun := r.relays.find? fun k => (k.1, k.2.1, k.2.2.1) = segKey g
      let s := s.onRound fun r => { r with relayed := segKey g :: r.relayed.filter (· ≠ segKey g)
                                           relays := r.relays.filter fun k => (k.1, k.2.1, k.2.2.1) ≠ segKey g }
      match begun, ps with
      | some (_, _, _, fid, _), (_, p) :: rest =>
        let full (s : State) (b : Bytes) (rest : List (Nat × Bytes)) : State :=
          let s := s.onFrame fid fun f => { f with bytes := b, complete := true }
          send ((s.workingLanes o).foldl (fun s n => s.runTx n) s) rest
        let more := s.relayPayloads r g (identBefore r g) o true
        match s.frame? fid, more with
        | some f, (_, p') :: rest' =>
          if f.bytes.isPrefixOf (s.inauFrame 0x11 p) then full s (s.inauFrame 0x11 p) rest
          else if f.bytes.isPrefixOf (s.inauFrame 0x11 p') then full s (s.inauFrame 0x11 p') rest'
          else send (s.badFrame fid) ps
        | _, _ => send s ps
      | _, _ => send s ps

/-- The relay of a segment starts from the payload bytes that have arrived on lane `n`, once they are 32 and the segment is next (R82,
R83). The length of the relay follows from the identity that the neighbour's PROBEs name: it is the last identity record of the wave. While a
Noon is pending that identity is about to change, and a LAST segment waits for its end (log entry 10). -/
def beginRelay (s : State) (n : Nat) (pl : Bytes) : State :=
  match s.inau.round with
  | none => s
  | some r =>
    let g := parseSeg pl (endOf n)
    let lanes := s.workingLanes (oppEnd (endOf n))
    let l := s.lane n
    let items := fieldAt pl 22 2
    let id := s.roundId r
    let same := l.nTiUid = id.tiUid && l.nTiLin = id.tiLin && l.nGen = id.gen
    let add := if g.last then (if 2048 ≤ g.entries then 0 else if same then 1 else 2) else 0
    -- a LAST segment that its own items would make too long goes on as one that is not the last, without this node's entry
    let split := 126 < items + add
    let ents := if g.last && g.entries < 2048 && !split then g.entries + 1 else g.entries
    if r.relayed.contains (segKey g) || !relayReady r g || !s.relaysOut r g || (g.last && s.inau.pending.isSome) then s
    else
      let ovf := g.ovf || (g.last && 2048 ≤ g.entries)
      let count := min 126 (items + add)
      let head := countHead r g.loop (g.last && !split) ovf g.origin g.seg count ents g.oend
      let whole := s.inauFrame 0x11 (head ++ List.replicate (16 * count) 0)
      let f : PFrame := { fid := 0, ingress := 11, cls := .mgmt, bytes := whole.take 56 ++ itemBytes pl, complete := false, stamp := some s.now }
      match s.enterPool f whole.length with
      | none => s.refuseBuf .mgmt
      | some (fid, s) =>
        let s := lanes.foldl (fun s k => (s.enqueue k fid true).runTx k) s
        s.onRound fun r => { r with relayed := segKey g :: r.relayed, relays := (g.origin, g.oend, g.seg, fid, n) :: r.relays }

/-- The bytes of a copy on lane `n` that have arrived go on in the relay that copies from it (R83). -/
def copyRelay (s : State) (n fid : Nat) (pl : Bytes) : State :=
  let s := s.onFrame fid fun f => { f with bytes := f.bytes.take 56 ++ itemBytes pl }
  (s.workingLanes (oppEnd (endOf n))).foldl (fun s k => s.runTx k) s

/-- Segments that waited for an earlier one of their wave are relayed in order (R82). -/
def relayWaiting (s : State) : State :=
  (List.range (s.inau.round.elim 0 fun r => r.segs.length)).foldl (fun s _ =>
    match s.inau.round with
    | none => s
    | some r =>
      match r.segs.find? fun g => !r.relayed.contains (segKey g) && s.relaysOut r g && relayReady r g with
      | some g => s.relaySeg g
      | none => s) s

/-- A COUNT of a better round is adopted as if its START had come first (R78); whether the COUNT belongs to the held round. `whole` where
the frame has ended: one of a worse round is counted then (R107). -/
def countRound (s : State) (e : Nat) (pl : Bytes) (whole : Bool) : State × Bool :=
  let rnd := fieldAt pl 2 2
  let starter := fieldAt pl 4 8
  let s := s.noteRnd rnd
  if s.isBetter rnd starter then (s.adoptFrom e rnd starter (bit (byteAt pl 1) 4) (fieldAt pl 28 4), true)
  else if s.heldIs rnd starter then (s, true)
  else (if whole then s.stale else s, false)

/-- Payload bytes of a segment have arrived on lane `n`, 32 or more, its frame still open (R83): its relay starts, or copies them. -/
def startRelay (s : State) (n : Nat) (pl : Bytes) : State :=
  match s.countRound (endOf n) pl false with
  | (s, false) => s
  | (s, true) =>
    let s := s.fixItem
    match s.inau.round with
    | none => s
    | some r =>
      let g := parseSeg pl (endOf n)
      if r.dead.contains (g.origin, g.oend) then s
      else
        let s := s.onRound fun r => { r with copies := (segKey g, n, pl) :: r.copies.filter fun c => c.2.1 ≠ n }
        match r.relays.find? fun k => (k.1, k.2.1, k.2.2.1) = segKey g && k.2.2.2.2 = n with
        | some k => s.copyRelay n k.2.2.2.1 pl
        | none => s.beginRelay n pl

/-- A wave of which both copies of a segment have failed is discarded: the round relies on T_WAVE (R83). -/
def discardWave (s : State) (w : Nat × Nat) : State :=
  s.onRound fun r => { r with dead := w :: r.dead
                              segs := r.segs.filter fun x => (x.origin, x.oend) ≠ w
                              copies := r.copies.filter fun c => (c.1.1, c.1.2.1) ≠ w }

/-- The copy of a segment on lane `n` has failed: its relay ends with EB, and the segment is relayed afresh from the other line's copy, held
or still arriving; with both copies failed the wave is discarded (R83). -/
def failCopy (s : State) (n : Nat) (key : Nat × Nat × Nat) : State :=
  match s.inau.round with
  | none => s
  | some r =>
    let other := laneAt (endOf n) (1 - lineOf n)
    let s := s.onRound fun r => { r with failed := (key, n) :: r.failed }
    let s := match r.relays.find? fun k => (k.1, k.2.1, k.2.2.1) = key && k.2.2.2.2 = n with
      | none => s
      | some k =>
        let s := (s.badFrame k.2.2.2.1).onRound fun r =>
          { r with relayed := r.relayed.filter (· ≠ key), relays := r.relays.filter (· ≠ k) }
        match r.segs.find? (fun x => segKey x = key), r.copies.find? (fun c => c.1 = key && c.2.1 = other) with
        | some x, _ => s.relaySeg x
        | none, some c => s.beginRelay other c.2.2
        | none, none => s
    if r.segs.any (fun x => segKey x = key) then s
    else if r.failed.contains (key, other) || !(s.lane other).working then s.discardWave (key.1, key.2.1)
    else s

/-- A COUNT segment has ended on lane `n` (R82 to R87): the first valid copy is kept, the relay from this copy is completed, and where no
relay is under way from the other line's copy the segment is relayed in its turn. -/
def takeCount (s : State) (n : Nat) (pl : Bytes) (good : Bool) : State :=
  let e := endOf n
  let g := parseSeg pl e
  -- the segment of the held round whose bytes have been arriving on this lane
  let began := s.inau.round.bind fun r => (r.copies.find? fun c => c.2.1 = n).map (·.1)
  let s := s.onRound fun r => { r with copies := r.copies.filter fun c => c.2.1 ≠ n }
  if !good then
    match began with
    | some key => s.failCopy n key
    | none => if s.heldIs (fieldAt pl 2 2) (fieldAt pl 4 8) then s.failCopy n (segKey g) else s
  else
    match s.countRound e pl true with
    | (s, false) => s
    | (s, true) =>
      let s := s.fixItem
      match s.inau.round with
      | none => s
      | some r =>
        if r.dead.contains (g.origin, g.oend) then s
        else
          let keep := (r.phase = .count || r.phase = .failed) && !r.segs.any fun x => segKey x = segKey g
          let s := if keep then s.onRound fun r => { r with segs := r.segs ++ [g] } else s
          let from_ := r.relays.find? fun k => (k.1, k.2.1, k.2.2.1) = segKey g
          let mine := from_.any fun k => k.2.2.2.2 = n
          let s := if mine || (keep && from_.isNone) then s.relaySeg g else s
          s.relayWaiting.judgeChain

/-- The mode that a computed roster carries unless the round is a cold start or joins (R164). -/
def roundMode (s : State) : Nat :=
  if s.flag Reg.SCHD_STAT.PENDV then s.get Reg.SCHD_STAT.PENDMODE else s.roster.elim 0 (·.mode)

/-- The node's entry is the time reference, the anchor of a computed roster. -/
def isTimeref (s : State) (h : Held) : Bool := (h.roster.atPos h.roster.timeref).any (·.uid = s.entryUid)
def isAnchor (s : State) (h : Held) : Bool := h.anchor = s.entryUid

/-- The DAYBREAK of R101 and R505: boundary of cycle 0 after 500,000 ns, Noon at cycle 2 (R102, R504). -/
def coldDaybreak (s : State) (h : Held) (rnd : Nat) : State :=
  let tb : Int := s.now + ns 500000
  let tt := s.presentedAt (s.now + ns 500000) / 16 * 16
  let sn := secNs tt
  let pl := rsumPayload 3 true rnd h.sum 0 h.roster.gen 0 s.uid 0 500000 sn.1 sn.2
  let s := (s.onRound fun r => { r with db1 := true, db2 := true }).sendRsum pl s.allWorking
  let s := { s with inau := { s.inau with place := some (tb, 0, tt.toNat), rephase := s.cycRun, noon := some 2, agreeAt := none } }
  s.put Reg.INAU_NOON.NOON 2

/-- The merge DAYBREAK of R121: the anchor's own boundary of its cycle + 3 is Noon. -/
def mergeDaybreak (s : State) (h : Held) (rnd : Nat) : State :=
  let k := (s.cyc + 3) % 2 ^ 32
  let tb := s.bnd + 3 * s.tLen
  -- the map's train time at the boundary (R192, R196)
  let sn := secNs ((s.mapAt tb).getD (s.presentedAt tb))
  let pl := rsumPayload 3 false rnd h.sum 0 h.roster.gen k s.uid 0 0 sn.1 sn.2
  let s := s.onRound fun r => { r with db1 := true, db2 := true }
  let s := s.originate (s.inauFrame 0x12 pl) s.allWorking true 11 fun f => { f with patch := .offset tb }
  { s with inau := { s.inau with noon := some k, agreeAt := none } }.put Reg.INAU_NOON.NOON k

/-- A DAYBREAK acts at a node in PENDING (R102, R103, R122, R505): boundary and Noon are placed. DAYCORR, once set, stays until a reset or Dawn
(log entry 38). -/
def applyDaybreak (s : State) (tb : Int) (k tt : Nat) (cold bad : Bool) : State :=
  match s.inau.pending with
  | none => s
  | some h =>
    let stays := !cold && h.inW
    let s := if bad && !stays then
        { (s.put Reg.INAU_STAT.DAYCORR 1).record 0x0213 with sync.mark := true } else s
    let noon := if cold then (k + 2) % 2 ^ 32 else k
    let s := { s with inau := { s.inau with
      place := if stays then none else some (tb, k, tt)
      rephase := if cold then s.cycRun else !stays
      noon := some noon, agreeAt := none } }
    s.put Reg.INAU_NOON.NOON noon

/-- The tokens of the round carried COLD = 1 (R93, R101). -/
def coldTokens (s : State) (r : Round) : Bool := r.agrees.any (·.cold) || (r.ownCyc.isSome && s.inau.force.isNone)

/-- The Noon that a DAYBREAK held would place has begun (R99): in the cold form the second boundary after t_b, at a node that keeps its own
cycles the boundary of its cycle k, at every other node t_b. -/
def daybreakLate (s : State) (h : Held) (d : Int × Nat × Nat × Bool × Bool) : Bool :=
  if d.2.2.2.1 then decide (d.1 + 2 * s.tLen ≤ s.now)
  else if h.inW then s.cycRun && decide (0 ≤ sdiff32 s.cyc d.2.1)
  else decide (d.1 ≤ s.now)

/-- Agreement is complete (R95): PENDING with the pending roster, or a failure where its Noon has begun (R99); the DAYBREAK that the round
needs is sent or taken (R101, R121, R504, R505). Where the time reference is a twin pair both halves send the cold DAYBREAK, since no claim
exists before the first Noon (log entry 38). -/
def agreed (s : State) (h : Held) : State :=
  match s.inau.round with
  | none => s
  | some r =>
    let cold := !h.joining && (h.coldStart || s.coldTokens r)
    let byDaybreak := h.joining || cold
    let cycs := (r.ownCyc.toList ++ r.agrees.map (·.cyc))
    let noon : Option Nat := if byDaybreak then none else
      cycs.foldl (fun acc c => match acc with
        | none => some c
        | some a => if 0 < sdiff32 c a then some c else some a) none
    let late := noon.any (fun n => s.cycRun && 0 ≤ sdiff32 s.cyc n) || (byDaybreak && r.daybreak.any (s.daybreakLate h))
    if late then (s.record 0x0208).failRound true
    else
      let s := (s.onRound fun r => { r with phase := .pending }).raise Reg.INAU_IRQ.PENDING
      let s := { s with inau := { s.inau with pending := some h, pendingRnd := some (r.starter, r.rnd), noon := noon
                                              agreeAt := if byDaybreak then s.inau.agreeAt else none } }.mailCheck
      let s := match noon with | some n => s.put Reg.INAU_NOON.NOON n | none => s
      let s :=
        if cold && s.isTimeref h then s.coldDaybreak h r.rnd
        else if h.joining && s.isAnchor h && (!s.cycRun || s.holdsClaim) then
          if s.cycRun then s.mergeDaybreak h r.rnd else s.coldDaybreak h r.rnd
        else match r.daybreak with
          | some (tb, k, tt, cold, bad) => s.applyDaybreak tb k tt cold bad
          | none => s
      s.refreshInau

/-- The tokens held cover the chain with the own checksum (R95). -/
def covered (s : State) (r : Round) (h : Held) : Bool :=
  let good := r.agrees.filter fun a => a.sum = h.sum
  let loop := h.roster.loop
  if r.seam then
    let own := good.filter fun a => a.origin = s.uid && a.count = h.m
    [0, 1].all fun e => own.any (·.arrived = e)
  else
    let dirs := s.workEnds
    dirs.all (fun e => good.any (·.arrived = e)) &&
      (dirs.map fun e => (good.find? (·.arrived = e)).elim 0 (·.count)).sum = (if loop then h.m else h.m - 1)

/-- This node found a disagreement (R94): DISAGREE out of every working joint, and the round has failed. -/
def disagree (s : State) (r : Round) (h : Held) (sum : Nat) : State :=
  let s := ((s.record 0x0204).bump Reg.INAU_DISAG.COUNT).raise Reg.INAU_IRQ.DISAG
  let s := s.onRound fun r => { r with dis1 := true, dis2 := true }
  (s.sendRsum (rsumPayload 2 s.inau.force.isNone r.rnd sum 0 h.roster.gen 0 s.uid h.sum 0 0 0) s.allWorking).failRound true

/-- One AGREE token held is compared and relayed (R94) while the round is in agreement: one that arrives after the round has failed here is
kept and nothing else (log entry 38). -/
def judgeAgree (s : State) (a : Agree) : State :=
  match s.inau.round with
  | none => s
  | some r =>
    match r.computed with
    | none => s
    | some h =>
      if a.done ∨ r.phase ≠ .agree then s
      else
        let s := s.onRound fun r => { r with agrees := r.agrees.map fun x => if x = a then { x with done := true } else x }
        if a.sum ≠ h.sum then s.disagree r h a.sum
        else if r.seam && a.origin = s.uid then s
        else s.sendRsum (rsumPayload 1 a.cold r.rnd a.sum (a.count + 1) a.gen a.cyc a.origin 0 0 0 0) (s.workingLanes (oppEnd a.arrived))

/-- Every AGREE token held is judged, and agreement may complete (R94, R95). -/
def judgeAgrees (s : State) : State :=
  match s.inau.round with
  | none => s
  | some r =>
    let s := r.agrees.foldl judgeAgree s
    match s.inau.round with
    | none => s
    | some r =>
      match r.computed with
      | none => s
      | some h => if r.phase = .agree && s.covered r h then s.agreed h else s

/-- The AGREE that an end node or a seam originates (R93). -/
def originAgree (s : State) (r : Round) (h : Held) : State :=
  let cold := s.inau.force.isNone
  let k := if cold then 0 else (s.cyc + 2) % 2 ^ 32
  let pl := rsumPayload 1 cold r.rnd h.sum 1 h.roster.gen k s.uid 0 0 0 0
  let s := s.onRound fun r => { r with ownCyc := some k }
  if r.seam then s.sendRsum pl s.allWorking
  else match s.workEnds with
    | [e] => s.sendRsum pl (s.workingLanes e)
    | _ => s

/-- What kept_part and sticky_assign report as they run (R116, R118). -/
def computeEvents (s : State) (h : Held) : State :=
  let s := if h.tiChanged then s.record 0x0224 else s
  if h.collided then s.record 0x0227 else s

/-- No node of the chain is admitted (R502): the round ends without a roster; a lone node holds no roster in force after it. -/
def noAdmission (s : State) (lone : Bool) : State :=
  let s := ((s.onRound fun r => { r with phase := .noAdm }).put Reg.INAU_STAT.NOTADM 1).raise Reg.INAU_IRQ.NOTADM
  let s : State := { s.put Reg.INAU_POS.POS 0 with inau.agreeAt := none }
  (if lone then { s with inau := { s.inau with force := none, prev := none } } else s).refreshInau

/-- The compute phase ends (R88 to R93, R502). A chain of one node that is excluded holds no roster in force from here on: the last paragraph
of R502 goes before its third bullet (log entry 38). -/
def computed (s : State) : State :=
  match s.inau.round with
  | none => s
  | some r =>
    if r.phase ≠ .compute then s
    else match s.heldChain r with
      | none => s
      | some (c, loop) =>
        match computeRoster c loop s.entryUid s.cycleUnits s.ownGuard s.roundMode with
        | none => s.noAdmission (c.length = 1)
        | some h =>
          let s := (s.computeEvents h).onRound fun r => { r with computed := some h, phase := .agree }
          let s := { s with inau.agreeAt := some (s.now + if s.cycRun then 3 * s.tLen else ms 3) }
          let s := match s.workEnds with
            | [] => s.originAgree r h
            | [_] => s.originAgree r h
            | _ => if r.seam then s.originAgree r h else s
          let s := s.refreshInau
          if s.workEnds.isEmpty && !r.seam then s.agreed h else s.judgeAgrees

/-- An RSUM that names another round is discarded (R78); whether it belongs to the held round. From the Noon of the round's roster on an AGREE or
a DAYBREAK of it is discarded and counted as a DISAGREE is (R94, log entry 38). -/
def rsumRound (s : State) (rnd : Nat) : State × Bool :=
  let s := s.noteRnd rnd
  if s.inau.round.any fun r => r.rnd = rnd && r.phase ≠ .committed then (s, true) else (s.stale, false)

/-- An AGREE arrives at end `e`. Of its copies on the two lines the second is dropped and counted nowhere (log entry 38). -/
def takeAgree (s : State) (e : Nat) (pl : Bytes) : State :=
  match s.rsumRound (fieldAt pl 2 2) with
  | (s, false) => s
  | (s, true) =>
    let a : Agree := { arrived := e, sum := fieldAt pl 4 4, count := fieldAt pl 8 2, cyc := fieldAt pl 12 4, gen := fieldAt pl 10 2,
                       origin := fieldAt pl 16 8, cold := bit (byteAt pl 1) 7, done := false }
    if s.inau.round.any fun r => r.agrees.any fun x => x.origin = a.origin && x.arrived = e then s
    else (s.onRound fun r => { r with agrees := r.agrees ++ [a] }).judgeAgrees

/-- A DISAGREE arrives at end `e` (R94): relayed once in each direction; the round has failed, a pending roster falls. The OWNSUM that goes
on is that of the node that relays, 0 where it has computed none (log entry 38). -/
def takeDisagree (s : State) (e : Nat) (pl : Bytes) : State :=
  match s.rsumRound (fieldAt pl 2 2) with
  | (s, false) => s
  | (s, true) =>
    match s.inau.round with
    | none => s
    | some r =>
      let o := oppEnd e
      let own := r.computed.elim 0 (·.sum)
      let s := if (if o = 0 then r.dis1 else r.dis2) then s
        else
          let s := s.onRound fun r => if o = 0 then { r with dis1 := true } else { r with dis2 := true }
          s.sendRsum (rsumPayload 2 (bit (byteAt pl 1) 7) r.rnd (fieldAt pl 4 4) 0 (fieldAt pl 10 2) 0 (fieldAt pl 16 8) own 0 0 0) (s.workingLanes o)
      if !s.roundOpen then s
      else
        let s := s.raise Reg.INAU_IRQ.DISAG
        (if r.phase = .pending then s.dropPending else s).failRound false

/-- A DAYBREAK arrives on lane `n`, its SF `ago` before now (R102, R103, R121): relayed once in each direction with its residence, and
taken, or held until agreement completes. Of two copies the first to arrive places the boundary, whichever of them has a valid correction
(log entry 38). -/
def takeDaybreak (s : State) (n : Nat) (frame : Bytes) (ago : Nat) : State :=
  let pl := payload frame
  match s.rsumRound (fieldAt pl 2 2) with
  | (s, false) => s
  | (s, true) =>
    match s.inau.round with
    | none => s
    | some r =>
      let e := endOf n
      let o := oppEnd e
      let stamp := s.now - ago
      let s := if (if o = 0 then r.db1 else r.db2) then s
        else
          let s := s.onRound fun r => if o = 0 then { r with db1 := true } else { r with db2 := true }
          let f := withCorr (s.inauFrame 0x12 pl) (hCorr frame)
          s.originate f (s.workingLanes o) true 11 fun p => { p with relay := true, stamp := some stamp, pd := s.pdIn n }
      let bad := hCorr frame = corrInvalid || (s.pdIn n).isNone
      let delay : Int := if bad then 0 else signed 48 (hCorr frame) + (s.pdIn n).getD 0
      let cold := bit (byteAt pl 1) 7
      let tb : Int := (stamp : Int) - delay + ns (fieldAt pl 28 4)
      let tt := (ofSecNs (fieldAt pl 32 6) (fieldAt pl 38 4)).toNat
      let k := fieldAt pl 12 4
      if r.phase = .pending then
        if s.inau.noon.isSome then s else s.applyDaybreak tb k tt cold bad
      else if r.daybreak.isSome then s
      else s.onRound fun r => { r with daybreak := some (tb, k, tt, cold, bad) }

end State

end Sys2Proof.Machine
end

