-- ==== Sys2Proof/Machine/Inauguration.lean ====
section
/-! DEFINITION. Inauguration and composition change: the commands of chapters 03 and 04 (R65 to R133, R502 to R505). -/

namespace Sys2Proof.Machine

namespace State

/-- The PROBE payload that lane `n` sends (R68). THALF names the half that owns ENTRY_UID, as in a roster entry (log entry 38). -/
def probePayload (s : State) (n : Nat) : Bytes :=
  let l := s.lane n
  let id := s.ownId
  let half := match s.inau.pair with | some (_, h) => h = 1 | none => false
  natBe 8 s.uid ++ natBe 8 s.entryUid ++ natBe 8 l.chipUid ++ natBe 8 id.tiUid ++ natBe 2 id.tiLin ++ natBe 2 s.idGen ++ natBe 2 s.idPos
  ++ natBe 2 (s.inau.round.elim 0 (·.rnd))
  ++ natBe 1 (128 * lineOf n + 64 * endOf n + 32 * b2n s.inau.pair.isSome + 16 * b2n half + 8 * b2n s.stkm)
  ++ natBe 1 (s.get Reg.INAU_STAT.STATE) ++ natBe 6 0

/-- A twin half that has not yet heard its partner sends no PROBE (R74). -/
def seeking (s : State) : Bool := s.twinOn && s.get Reg.TWIN_STAT.TSTATE = 1

/-- Two consecutive PROBEs of another identity or generation on a working joint that is not isolated, no round being open (R131). The
write of REINAU that follows clears no self-exclusion. -/
def splitSeen (s : State) (n : Nat) : Bool :=
  let l := s.lane n
  let id := s.ownId
  let v := s.vend (endOf n)
  s.inau.force.isSome && !s.roundOpen && v.working && !v.isolated && (l.nTiUid ≠ id.tiUid || l.nTiLin ≠ id.tiLin || l.nGen ≠ id.gen)

/-- The quarantine of end `e` ends with cause `c`: its lanes train again (R132, R133). -/
def endQuarantine (s : State) (e c : Nat) : State :=
  if (s.vend e).quarantine.isNone then s
  else
    let s := (s.onEnd e fun v => { v with quarantine := none }).record 0x022E (natBe 1 c)
    [laneAt e 0, laneAt e 1].foldl (fun s n => if s.laneSt n = .disabled then s.restLane n else s) s

/-- A write of 1 to REINAU (R133): a joint change that ends every quarantine; `clear` where it also clears a self-exclusion. -/
def reinau (s : State) (clear : Bool) : State :=
  let s := if clear then { s.put Reg.INAU_STAT.EXCL 0 with inau.minor := 0 } else s
  ((s.endQuarantine 0 2).endQuarantine 1 2).jointChange none

/-- The write of INAU_CTRL: a change of EN or LEADMASK is a joint change (R73), REINAU acts (R133). -/
def writeInauCtrl (s : State) (v : Nat) : State :=
  let en := s.get Reg.INAU_CTRL.EN
  let lm := s.get Reg.INAU_CTRL.LEADMASK
  let s := s.storeWord Reg.INAU_CTRL.EN.addr v
  let s := if s.get Reg.INAU_CTRL.EN ≠ en then s.jointChange none else s
  let s := if s.get Reg.INAU_CTRL.LEADMASK ≠ lm then s.jointChange none else s
  (if bit v 1 then s.reinau true else s).refreshInau

/-- The debounced LEAD input changes (R73). -/
def takeLead (s : State) (level : Bool) : State :=
  if s.flag Reg.INAU_STAT.LEADIN = level then s
  else ((s.putB Reg.INAU_STAT.LEADIN level).raise Reg.INAU_IRQ.LEAD).jointChange none

/-- A PROBE on lane `n` (R70, R72, R131, R503). The last PROBE counts: one that carries another ECHO_UID makes the lane not working although an
earlier one matched (log entry 38). -/
def takeProbe (s : State) (n : Nat) (pl : Bytes) : State :=
  let was := s.lane n
  let chip := fieldAt pl 0 8
  let ent := fieldAt pl 8 8
  let fl := byteAt pl 40
  let lineOk := bits fl 7 7 = lineOf n
  let differs := was.chipUid ≠ 0 && (was.chipUid ≠ chip || was.entryUid ≠ ent)
  let s := (s.noteRnd (fieldAt pl 38 2)).onLane n fun l =>
    { l with probe := pl, chipUid := chip, entryUid := ent, echoOk := fieldAt pl 16 8 = s.uid, lineOk := lineOk,
             nTiUid := fieldAt pl 24 8, nTiLin := fieldAt pl 32 2, nGen := fieldAt pl 34 2, nPos := fieldAt pl 36 2, nFlags := fl }
  let s := s.mailCheck
  -- R10: a line mismatch holds the lane out of service
  let s := if !lineOk && was.heldOut ≠ 1 then
      ((s.onLane n fun l => { l with heldOut := 1 }).bump (Reg.LANE_LINEMM.COUNT.at n)).record 0x0105
    else s
  let s := if (s.lane n).heldOut ≠ was.heldOut then s.purgeLane n else s
  -- R73: another UID than the one held is a joint change; one that the lane's judgement makes of this PROBE is the same change
  let old := s.rest.jointNew
  let s := { s with rest.jointNew := false }.judgeLane n
  let s := if differs && !s.rest.jointNew then s.jointChange (some (endOf n)) else s
  let s : State := { s with rest.jointNew := s.rest.jointNew || old }
  if s.splitSeen n then
    if (s.lane n).splitRun + 1 < 2 then s.onLane n fun l => { l with splitRun := l.splitRun + 1 }
    else ((s.onLane n fun l => { l with splitRun := 0 }).record 0x022C).reinau false
  else s.onLane n fun l => { l with splitRun := 0 }

/-- A write of INAU_MBSEL loads what it selects (R7, R106). -/
def writeInauMb (s : State) (v : Nat) : State :=
  let s := s.storeWord Reg.INAU_MBSEL.SRC.addr v
  let b := s.mailBytes (s.get Reg.INAU_MBSEL.SRC) (s.get Reg.INAU_MBSEL.INDEX)
  let s := (s.put Reg.INAU_MBD0.DATA (fieldAt b 0 4)).put Reg.INAU_MBD1.DATA (fieldAt b 4 4)
  let s := (s.put Reg.INAU_MBD2.DATA (fieldAt b 8 4)).put Reg.INAU_MBD3.DATA (fieldAt b 12 4)
  s.put Reg.INAU_MBSTAT.VALID 1

/-- This node acts as the leader of the roster in force (R355). -/
def isLeader (s : State) : Bool := s.holdsClaim && s.roster.any fun r => s.pos ≠ 0 && r.leader = s.pos

/-- Compaction begins at the leader (R119). -/
def startCompact (s : State) : State := ({ s with inau := { s.inau with compact := 1, compactRnd := none } }.record 0x022A).reinau false

/-- A lane frame of the type with a payload of the length given is taken by the inauguration logic (R66): the lane is up and not held out
of service (R503). -/
def inauFrameOk (s : State) (n : Nat) (f : Bytes) (type : Nat) : Bool :=
  s.laneUp n && headerCheck f = .ok && hCls f = .mgmt && hType f = type && (s.lane n).heldOut = 0

end State

/-- PROBE_SEND_TIMER (R69, R503): every 20 µs until the lane is working, every 1 ms after that and on a held lane. -/
def execProbeSendTimer (lane : Lane) (s : State) : Host.Outcome State Fault Refusal :=
  live s fun s =>
  done (match (s.lane lane).probeAt with
    | none => s
    | some t =>
      if !s.laneUp lane then s
      else
        let s := s.reach t
        let l := s.lane lane
        let next := s.now + if l.working || l.heldOut ≠ 0 then ms 1 else us 20
        let s := s.onLane lane fun l => { l with probeAt := some next }
        if s.seeking then s else s.originate (s.inauFrame 0x10 (s.probePayload lane)) [lane.val])

/-- PROBE_RECEIVED (R70). -/
def execProbeReceived (lane : Lane) (frame : Bytes) (s : State) : Host.Outcome State Fault Refusal :=
  live s fun s =>
  done (if s.laneUp lane && headerCheck frame = .ok && hCls frame = .mgmt && hType frame = 0x10 && hLen frame = 48 then
      s.takeProbe lane (payload frame)
    else s)

/-- QUARANTINE_EXPIRY (R132). -/
def execQuarantineExpiry (vend : VEnd) (s : State) : Host.Outcome State Fault Refusal :=
  live s fun s =>
  done (match (s.vend vend).quarantine with
    | none => s
    | some t => (s.reach t).endQuarantine vend 1)

/-- PROBE_ANSWER_TIMEOUT (R71, R105): judged once, 500 µs after the lane entered ACTIVE. -/
def execProbeAnswerTimeout (lane : Lane) (s : State) : Host.Outcome State Fault Refusal :=
  live s fun s =>
  done (match (s.lane lane).answerAt with
    | none => s
    | some t =>
      let s := (s.reach t).onLane lane fun l => { l with answerAt := none }
      let l := s.lane lane
      if s.laneUp lane && !l.working && l.heldOut = 0 then (s.bump Reg.INAU_PROBETO.COUNT).record 0x0206 else s)

/-- INAU_EN_WRITE (R73). -/
def execInauEnWrite (value : Word) (s : State) : Host.Outcome State Fault Refusal := live s fun s => done (s.writeInauCtrl value.toNat)

/-- INAU_LEADMASK_WRITE (R73). -/
def execInauLeadmaskWrite (value : Word) (s : State) : Host.Outcome State Fault Refusal := live s fun s => done (s.writeInauCtrl value.toNat)

/-- INAU_REINAU_WRITE (R133). -/
def execInauReinauWrite (value : Word) (s : State) : Host.Outcome State Fault Refusal := live s fun s => done (s.writeInauCtrl value.toNat)

/-- T_STARTUP_EXPIRY (R105). -/
def execTStartupExpiry (s : State) : Host.Outcome State Fault Refusal :=
  live s fun s =>
  done (match s.inau.startupAt with
    | none => s
    | some t => { s.reach t with inau.startupAt := none }.judgeStart)

/-- T_SETTLE_EXPIRY (R105). -/
def execTSettleExpiry (s : State) : Host.Outcome State Fault Refusal :=
  live s fun s =>
  done (match s.inau.settleAt with
    | none => s
    | some t => { s.reach t with inau.settleAt := none }.judgeStart)

/-- WAVE_START_RECEIVED (R77). -/
def execWaveStartReceived (lane : Lane) (frame : Bytes) (s : State) : Host.Outcome State Fault Refusal :=
  live s fun s =>
  done (if s.inauFrameOk lane frame 0x11 && hLen frame = 16 && byteAt (payload frame) 0 = 1 then
      s.takeStart (endOf lane) (payload frame)
    else s)

/-- COUNT_RELAY_START (R83): the bytes of a COUNT segment that have arrived, 56 or more; a later one with more bytes goes on with the copy. -/
def execCountRelayStart (lane : Lane) (head : Bytes) (s : State) : Host.Outcome State Fault Refusal :=
  live s fun s =>
  done (if 56 ≤ head.length && s.inauFrameOk lane head 0x11 && byteAt head 24 = 2 then
      s.startRelay lane (head.drop 24)
    else s)

/-- WAVE_COUNT_RECEIVED (R82). -/
def execWaveCountReceived (lane : Lane) (frame : Bytes) (good : Bool) (s : State) : Host.Outcome State Fault Refusal :=
  live s fun s =>
  done (if s.inauFrameOk lane frame 0x11 && byteAt (payload frame) 0 = 2 then
      s.takeCount lane (payload frame) (good && hLen frame = 32 + 16 * fieldAt (payload frame) 22 2)
    else s)

/-- AGREE_RECEIVED (R94). -/
def execAgreeReceived (lane : Lane) (frame : Bytes) (s : State) : Host.Outcome State Fault Refusal :=
  live s fun s =>
  done (if s.inauFrameOk lane frame 0x12 && hLen frame = 48 && byteAt (payload frame) 0 = 1 then
      s.takeAgree (endOf lane) (payload frame)
    else s)

/-- DISAGREE_RECEIVED (R94). -/
def execDisagreeReceived (lane : Lane) (frame : Bytes) (s : State) : Host.Outcome State Fault Refusal :=
  live s fun s =>
  done (if s.inauFrameOk lane frame 0x12 && hLen frame = 48 && byteAt (payload frame) 0 = 2 then
      s.takeDisagree (endOf lane) (payload frame)
    else s)

/-- T_WAVE_EXPIRY (R97). -/
def execTWaveExpiry (s : State) : Host.Outcome State Fault Refusal :=
  live s fun s =>
  done (match s.inau.waveAt with
    | none => s
    | some t => ((s.reach t).bump Reg.INAU_WAVETO.COUNT).failRound true)

/-- T_AGREE_EXPIRY (R97, R104): no agreement, or no DAYBREAK in a round that needs one. -/
def execTAgreeExpiry (s : State) : Host.Outcome State Fault Refusal :=
  live s fun s =>
  done (match s.inau.agreeAt with
    | none => s
    | some t =>
      let s := s.reach t
      if s.inau.round.any (·.phase = .pending) then s.dropPending.failRound true else s.failRound true)

/-- DAYBREAK_RECEIVED (R102). -/
def execDaybreakReceived (lane : Lane) (frame : Bytes) (ago : Nat) (s : State) : Host.Outcome State Fault Refusal :=
  live s fun s =>
  done (if s.inauFrameOk lane frame 0x12 && hLen frame = 48 && byteAt (payload frame) 0 = 3 then s.takeDaybreak lane frame ago else s)

/-- MERGE_DAYBREAK_RECEIVED (R122). -/
def execMergeDaybreakReceived (lane : Lane) (frame : Bytes) (ago : Nat) (s : State) : Host.Outcome State Fault Refusal :=
  live s fun s =>
  done (if s.inauFrameOk lane frame 0x12 && hLen frame = 48 && byteAt (payload frame) 0 = 3 then s.takeDaybreak lane frame ago else s)

/-- OUTAGE_GRACE_EXPIRY (R108): the loss becomes a joint change. -/
def execOutageGraceExpiry (vend : VEnd) (s : State) : Host.Outcome State Fault Refusal :=
  live s fun s =>
  done (match (s.vend vend).grace with
    | none => s
    | some t =>
      let s := ((s.reach t).onEnd vend fun v => { v with grace := none, graceIds := [] }).record 0x0222
      s.jointChange (some vend.val))

/-- INAU_MBSEL_WRITE (R106). -/
def execInauMbselWrite (value : Word) (s : State) : Host.Outcome State Fault Refusal := live s fun s => done (s.writeInauMb value.toNat)

/-- NOAGREE_ROUND_SPACING (R97): the spacing since the last round start has passed. -/
def execNoagreeRoundSpacing (s : State) : Host.Outcome State Fault Refusal :=
  live s fun s =>
  done (match s.inau.spacingAt with
    | none => s
    | some t =>
      let s := { s.reach t with inau.spacingAt := none }
      if s.mayStartRound then s.startRound else s)

end Sys2Proof.Machine
end

