-- ==== Sys2Proof/Machine/Tt.lean ====
section
/-! DEFINITION. The time-triggered cycle (chapter 05): the schedule's registers, publications and the own window (R146 to R148, R154 to
R159), subscriptions (R160 to R162), mode descriptors (R163, R168), table access (R169, R170). -/

namespace Sys2Proof.Machine

/-- The entry listed under an index, else 16 zero bytes. -/
def tableEntry (t : List (Nat × Bytes)) (i : Nat) : Bytes :=
  match t.find? (·.1 = i) with | some e => e.2 | none => List.replicate 16 0

/-- The entry at an index replaced; an all-zero entry is not listed. -/
def setEntry (t : List (Nat × Bytes)) (i : Nat) (b : Bytes) : List (Nat × Bytes) :=
  let t := t.filter (·.1 ≠ i)
  if b.all (· = 0) then t else t.filter (·.1 < i) ++ [(i, b)] ++ t.filter (i < ·.1)

/-- Fields of a publication-table entry (Table 05.4). -/
def pubId (e : Bytes) : Nat := fieldAt e 0 2
def pubEn (e : Bytes) : Bool := bit (byteAt e 2) 7
def pubVital (e : Bytes) : Bool := bit (byteAt e 2) 6
def pubSweeps (e : Bytes) : Nat := bits (byteAt e 2) 5 4
def pubMode (e : Bytes) (m : Nat) : Bool := bit (byteAt e 3) m
def pubLen (e : Bytes) : Nat := min 2044 (fieldAt e 4 2)
def pubPeriod (e : Bytes) : Nat := byteAt e 6
def pubPhase (e : Bytes) : Nat := byteAt e 7
def pubSrc (e : Bytes) : Nat := fieldAt e 8 4

/-- The entry can be due at all (R158). -/
def pubSound (e : Bytes) : Bool :=
  pubEn e && pubPeriod e ≤ 6 && 1 ≤ pubId e && pubId e ≤ (if pubVital e then 0x40 else 0x4000) && pubSweeps e ≠ 0
  && pubPhase e < 2 ^ pubPeriod e && pubSrc e < imageSize && pubSrc e + pubLen e ≤ imageSize

/-- The entry is due in cycle `c` under mode `m` (R158). -/
def pubDue (e : Bytes) (c m : Nat) : Bool := pubSound e && pubMode e m && c % 2 ^ pubPeriod e = pubPhase e

/-- The entry is sent in the sweep; on a loop a VITAL entry goes in both (R225). -/
def pubInSweep (e : Bytes) (fwd loop : Bool) : Bool := (loop && pubVital e) || bit (pubSweeps e) (if fwd then 1 else 0)

/-- Characters that a frame of `l` bytes costs (R140). -/
def frameCost (l : Nat) : Nat := l + 3

/-- Fields of a subscription-table entry (Table 05.5). -/
def subUid (e : Bytes) : Nat := fieldAt e 0 8
def subId (e : Bytes) : Nat := fieldAt e 8 2
def subEn (e : Bytes) : Bool := bit (byteAt e 10) 7
def subVital (e : Bytes) : Bool := bit (byteAt e 10) 6
def subFwd (e : Bytes) : Bool := bit (byteAt e 10) 5
def subHold (e : Bytes) : Bool := bit (byteAt e 10) 4
def subAge (e : Bytes) : Nat := max 1 (byteAt e 11)
def subDst (e : Bytes) : Nat := 4 * fieldAt e 12 2
def subLen (e : Bytes) : Nat := fieldAt e 14 2

/-- Bytes of a status record (Table 05.6). -/
def SubStat.bytes (t : SubStat) : Bytes :=
  natBe 4 t.lastCyc ++ natBe 4 t.lastSeq ++ natBe 2 t.pos ++ natBe 1 t.state ++ natBe 1 t.lines ++ natBe 4 t.deliv

/-- Index that stands for a stack member's frame, also in the record of R147: beyond every table entry (log entry 28). -/
def memberEntry : Nat := 0xFFFF

/-- The name of what waits for a window: its table entry, or the pool frame of a stack member's frame. -/
def Captured.key (x : Captured) : Nat := if x.entry = memberEntry then 0x10000 + x.fid else x.entry

/-- What waits is VITAL. -/
def Captured.vital (x : Captured) : Bool := if x.entry = memberEntry then hCls x.row = .vital else pubVital x.row

namespace State

/-- The schedule mode in force. -/
def modeNow (s : State) : Nat := s.roster.elim 0 (·.mode)
/-- The roster in force is a loop. -/
def onLoop (s : State) : Bool := s.roster.any (·.loop)

/-- B_eff of the own entry under mode `m`. -/
def ownBudget (s : State) (m : Nat) : Nat :=
  match s.roster.bind fun r => r.ofUid s.entryUid with
  | some e => let d := s.modeRule m; bEff d.1 d.2 e
  | none => 0

/-- SCHD_STAT.PUBOVER (R159). -/
def refreshPubOver (s : State) : State :=
  let exceeds := s.inau.force.isSome && (List.range 8).any fun m =>
    [false, true].any fun fwd =>
      let es := (s.sched.pubs.map (·.2)).filter fun e => pubSound e && pubMode e m && pubInSweep e fwd s.onLoop
      16 * s.ownBudget m < (es.map fun e => frameCost (32 + pubLen e)).sum
  s.putB Reg.SCHD_STAT.PUBOVER exceeds

/-- The schedule's registers under the roster in force (R135 to R144); NOFIT with 0x0305 once per generation. -/
def refreshSchd (s : State) : State :=
  match s.schedNow with
  | none =>
    let s := (s.put Reg.SCHD_STAT.INFORCE 0).put Reg.SCHD_STAT.NOFIT 0
    let s := ((s.put Reg.SCHD_SELF.SEQ 0).put Reg.SCHD_SELF.BEFF 0).put Reg.SCHD_SPAN.SPAN 0
    let s := ((s.put Reg.SCHD_WINR.OPEN 0).put Reg.SCHD_WINF.OPEN 0).put Reg.SCHD_WLEN.LEN 0
    ((s.put Reg.SCHD_FIT.TMIN 0).put Reg.SCHD_FIT.NWIN 0).put Reg.SCHD_FIT.NCUT 0
  | some c =>
    let w := c.ofUid s.entryUid
    let has := w.any (·.d ≠ 0)
    let s := (s.put Reg.SCHD_STAT.INFORCE 1).put Reg.SCHD_STAT.MODE s.modeNow
    let s := (s.put Reg.SCHD_SELF.SEQ (w.elim 0 (·.q))).put Reg.SCHD_SELF.BEFF (s.ownBudget s.modeNow)
    let s := (s.put Reg.SCHD_WINR.OPEN (if has then w.elim 0 (·.oR) else 0)).put Reg.SCHD_WINF.OPEN (if has then w.elim 0 (·.oF) else 0)
    let s := (s.put Reg.SCHD_WLEN.LEN (w.elim 0 (·.d))).put Reg.SCHD_SPAN.SPAN c.span
    let s := ((s.put Reg.SCHD_FIT.TMIN (min 255 c.tmin)).put Reg.SCHD_FIT.NWIN c.nwin).put Reg.SCHD_FIT.NCUT c.ncut
    let s := s.putB Reg.SCHD_STAT.NOFIT (c.ncut ≠ 0)
    (if c.ncut ≠ 0 then (s.raise Reg.SCHD_IRQ.NOFIT).recordGen 0x0305 0 else s).refreshPubOver

/-- A condition of R154 holds. -/
def guardHit (s : State) : Bool × Bool × Bool :=
  let oop := s.flag Reg.SYNC_STAT.OOP || s.sync.mark
  let margin := s.sync.est.any fun c => 8 * (s.guardNs : Int) < c.natAbs
  (oop, margin, !s.flag Reg.SCHD_CTRL.EN)

/-- The local guardian's decision at a guardian point (R154, R155): whether the window stays silent. -/
def guardian (s : State) : Bool × State :=
  let h := s.guardHit
  let hit := h.1 || h.2.1 || h.2.2
  let silent := hit || s.sched.clear < 2
  let was := s.flag Reg.SCHD_STAT.SILENT
  let s := { s with sched := { s.sched with dirty := s.sched.dirty || hit, clear := if hit then 0 else s.sched.clear } }
  let s := ((s.putB Reg.SCHD_STAT.OOP h.1).putB Reg.SCHD_STAT.MARGIN h.2.1).putB Reg.SCHD_STAT.SILENT silent
  let s := if silent then s.bump Reg.SCHD_SILENT.COUNT else s
  let s := if silent && !was then (s.raise Reg.SCHD_IRQ.SILENT).record 0x0302
    else if !silent && was then (s.raise Reg.SCHD_IRQ.SILENT).record 0x0303 else s
  (silent, s)

/-- The frame of a captured publication: header fields, payload with its cycle number (R157, R238). -/
def pubFrame (s : State) (e data : Bytes) (fwd lastw : Bool) (seq : Nat) : Bytes :=
  let v := pubVital e
  let round := v && s.onLoop && fwd
  mkFrame { cls := if v then .vital else .tt, type := if v then 2 else 1
            flags := 128 * b2n fwd + 64 * b2n round + 16 * b2n lastw
            src := s.pos, pub := pubId e, gen := s.gen, seq := seq } data

/-- The lanes of a sweep: those of the aft end rearward, of the fore end forward; none across an isolated joint (R110), and none for TT
across the break joint (R227). -/
def sweepLanes (s : State) (fwd vital : Bool) : List Nat :=
  let e := if fwd then s.foreEnd else s.aftEnd
  if (s.vend e).isolated || (!vital && s.breakEnd = some e) then [] else s.workingLanes e

/-- Which captured publications fit the window [t, c] and the budget, in table order (R140, R147): kept or skipped, in 1/1000 ns. -/
def fitWindow (budget : Nat) : Nat → Nat → Nat → List Captured → List (Captured × Bool)
  | _, _, _, [] => []
  | t, close, used, x :: xs =>
    let cost := frameCost (28 + x.data.length)
    if t + 4012 * cost ≤ close ∧ used + cost ≤ budget then (x, true) :: fitWindow budget (t + 4012 * cost) close (used + cost) xs
    else (x, false) :: fitWindow budget t close used xs

/-- A publication is not sent (R147). -/
def skipPub (s : State) (i : Nat) : State :=
  ((s.bump Reg.SCHD_PUBSKIP.COUNT).raise Reg.SCHD_IRQ.PUBSKIP).recordGen 0x0304 i

/-- A frame of the own window goes to the lane transmitters of its sweep, each of which holds the transmit gate at its start (R147, R148). -/
def sendOwn (s : State) (g : Gate) (fwd : Bool) (f : Bytes) : State :=
  s.originate f (s.sweepLanes fwd (hCls f = .vital)) false 12 fun p => { p with gate := some g }

/-- The frame of a stack member under this position (R16): header anew, payload as the member gave it. -/
def memberFrame (s : State) (f : Bytes) (fwd lastw : Bool) : Bytes :=
  let round := hCls f = .vital && s.onLoop && fwd
  mkFrame { cls := hCls f, type := hType f, flags := 128 * b2n fwd + 64 * b2n round + 16 * b2n lastw
            src := s.pos, pub := hPub f, gen := s.gen, seq := hSeq f } (payload f)

/-- What waits for the window of a sweep: captured publications, then frames of stack members (R137). -/
def windowCaps (s : State) (fwd : Bool) : List Captured :=
  (if fwd then s.sched.capF else s.sched.capR)
    ++ (s.sched.stackQ.filter (·.1 = fwd)).map fun x => { entry := memberEntry, row := x.2.2, data := payload x.2.2, fid := x.2.1 }

/-- The frame of what waits for a window, with the SEQ and the LASTW given. -/
def ownFrame (s : State) (x : Captured) (fwd last : Bool) (seq : Nat) : Bytes :=
  if x.entry = memberEntry then withSeq (s.memberFrame x.row fwd last) seq last else s.pubFrame x.row x.data fwd last seq

/-- Frames of stack members that waited for a window of the sweep are gone with it, sent or not: their buffers are free. -/
def dropMemberFrames (s : State) (fwd : Bool) : State :=
  let gone := (s.sched.stackQ.filter (·.1 = fwd)).map (·.2.1)
  gone.foldl freeFrame { s with sched.stackQ := s.sched.stackQ.filter (·.1 ≠ fwd) }

/-- The frames of a sweep's window in order if it opens at `t`, 1/1000 ns after the boundary: each with its name and its SEQ, and the state with
those SEQs (R140, R147, R157). -/
def windowFrames (s : State) (fwd : Bool) (w : Win) (t : Nat) : List (Nat × Nat × Bytes) × State :=
  let o := if fwd then w.oF else w.oR
  let k := if fwd then s.sched.cycF else s.sched.cycR
  let xs := ((fitWindow (16 * w.b) t ((o + w.d) * 1000) 0 (s.windowCaps fwd)).filter (·.2)).map (·.1)
  xs.foldl (fun acc x =>
    let q := acc.2.nextSeq (b2n x.vital) (if x.entry = memberEntry then hPub x.row else pubId x.row) k
    (acc.1 ++ [(x.key, q.1, q.2.ownFrame x fwd (acc.1.length + 1 = xs.length) q.1)], q.2)) ([], s)

/-- Each element with the elements behind it. -/
def withTails {α : Type} : List α → List (α × List α)
  | [] => []
  | x :: xs => (x, xs) :: withTails xs

/-- What waits for the window of a sweep is sent (R147): each frame is judged, and takes its SEQ and LASTW, at its start (`gateCode`, `numberOwn`).
Where the sweep has no lane, what would not have fitted is skipped all the same. -/
def sendWindow (s : State) (fwd : Bool) (w : Win) : State :=
  let b := s.bnd
  let o := if fwd then w.oF else w.oR
  let k := if fwd then s.sched.cycF else s.sched.cycR
  let caps := s.windowCaps fwd
  let skipped := ((fitWindow (16 * w.b) ((s.now - b) * 1000 / 16) ((o + w.d) * 1000) 0 caps).filter (!·.2)).map fun x => x.1.key
  (withTails caps).foldl (fun s x =>
    if (s.sweepLanes fwd x.1.vital).isEmpty then (if skipped.contains x.1.key then s.skipPub x.1.entry else s)
    else s.sendOwn { opens := b + ns o, closes := b + ns (o + w.d), entry := some x.1.entry, number := some k
                     seq := (s.sched.took.find? fun y => y.1 = fwd && y.2.1 = x.1.key).map (·.2.2)
                     behind := x.2.map fun y => frameCost (28 + y.data.length), fwd := fwd, budget := 16 * w.b }
      fwd (s.ownFrame x.1 fwd false 0)) (s.setUsed fwd 0)

/-- The claim holder of a twin pair passes each frame of the sweep to its partner at the capture, where it takes its SEQ (R349, Table 12.2). -/
def passRelays (s : State) (fwd : Bool) (w : Win) (k : Nat) : State :=
  let s : State := { s with sched.took := s.sched.took.filter (·.1 ≠ fwd) }
  if !s.twinOn || !s.holdsClaim then s
  else
    let r := s.windowFrames fwd w ((if fwd then w.oF else w.oR) * 1000)
    let s : State := { r.2 with sched.took := r.2.sched.took ++ r.1.map fun x => (fwd, x.1, x.2.1) }
    r.1.foldl (fun s f =>
      (s.twinSend 3 (natBe 4 k ++ natBe 1 (b2n fwd) ++ natBe 3 0 ++ f.2.2.take 16 ++ payload f.2.2)).bump Reg.TWIN_RLYSENT.COUNT) s

/-- The relay copies of the partner's frames captured in the cycle before, with CORR 0 and HCRC anew (R349); none in a Noon cycle. -/
def sendRelays (s : State) (fwd : Bool) (w : Win) : State :=
  let b := s.bnd
  let o := if fwd then w.oF else w.oR
  let mine := s.sched.relays.filter fun (x : Nat × Bool × Bytes × Bytes) => x.1 = (s.cyc + 2 ^ 32 - 1) % 2 ^ 32 && x.2.1 = fwd
  let ok := s.inau.noonCyc ≠ some s.cyc
  let s := { s with sched.relays := s.sched.relays.filter fun x => !(x.2.1 = fwd && 0 < sdiff32 s.cyc x.1) }
  if !ok then s
  else
    mine.foldl (fun s x =>
      let h := x.2.2.1 ++ natBe 6 0
      let f := h ++ natBe 2 (crc16 h) ++ x.2.2.2 ++ fcsBytes (x.2.2.1 ++ x.2.2.2)
      s.sendOwn { opens := b + ns o, closes := b + ns (o + w.d), entry := none, fwd := fwd, budget := 16 * w.b } fwd f) (s.setUsed fwd 0)

/-- The subscription entry and status of an index. -/
def subEntry (s : State) (i : Nat) : Bytes := tableEntry s.sched.subs i
def subStat (s : State) (i : Nat) : SubStat := ((s.sched.stats.find? (·.1 = i)).map (·.2)).getD {}
def setStat (s : State) (i : Nat) (t : SubStat) : State :=
  -- a record shown in the mailbox is no longer consistent (R7)
  let s := if s.get Reg.SCHD_TSEL.TAB = 2 && s.get Reg.SCHD_TSEL.INDEX = i && s.subStat i ≠ t then s.put Reg.SCHD_TSTAT.VALID 0 else s
  let r := s.sched.stats.filter (·.1 ≠ i)
  { s with sched.stats := if t = {} then r else (i, t) :: r }

/-- Bytes delivered to the process image; blocks of the retained and the non-retained area become dirty (R296, R352). -/
def deliverImg (s : State) (o : Nat) (bs : Bytes) : State :=
  if o < 0x20000 then { s with img := s.img.deliver o bs }
  else
    let s := s.progress
    let f := s.forcedMem
    let new (a : Nat) (b : Byte) : Byte :=
      let m := forcedMask f a
      BitVec.ofNat 8 ((beNat (s.img.read a 1) &&& m) ||| (b.toNat &&& (255 - m)))
    let bs := (List.range bs.length).zipWith (fun i b => new (o + i) b) bs
    let k := 0x30000 - o
    let s : State := { s with img := s.img.deliver o bs }
    let s := if o < 0x30000 then s.markDirty 0 (o - 0x20000) (min k bs.length) else s
    if k < bs.length then s.markDirty 1 (o + k - 0x30000) (bs.length - k) else s

/-- The destination range reads 0 from now on, unless HOLD keeps it (R162). -/
def clearSub (s : State) (e : Bytes) : State :=
  if subHold e || !subRangeOk (subDst e) (subLen e) then s
  else s.deliverImg (subDst e) (List.replicate (subLen e) 0)

/-- An entry becomes STALE: no copy for MAXAGE cycles (R162). -/
def goStale (s : State) (i : Nat) : State :=
  let t := s.subStat i
  (((s.setStat i { t with state := 2 }).bump Reg.SCHD_SUBSTALE.COUNT).raise Reg.SCHD_IRQ.SUBSTALE).clearSub (s.subEntry i)

/-- A roster is in force, at a stack member that of its master (R16, log entry 26); the position of a UID in it. -/
def hasRoster (s : State) : Bool := if s.stackId = 0 then s.inau.force.isSome else !s.brdg.uids.isEmpty
def posOfUid (s : State) (u : Nat) : Option Nat :=
  if s.stackId = 0 then (s.roster.bind fun r => r.ofUid u).map (·.pos) else (s.brdg.uids.find? (·.2 = u)).map (·.1)

/-- The master tells members `ms` which UID holds which position, 128 entries a MSG; an empty list where no roster is in force (R220, log entry 26). -/
def tellRoster (s : State) (ms : List Nat) : State :=
  let es := s.roster.elim [] (·.entries)
  let k := max 1 (ceilDiv es.length 128)
  ms.foldl (fun s m => (List.range k).foldl (fun s i =>
    s.stackMsg m 14 (natBe 1 i ++ natBe 1 (b2n (i + 1 = k))
      ++ ((es.drop (128 * i)).take 128).flatMap fun (e : Entry) => natBe 2 e.pos ++ natBe 8 e.uid)) s) s

/-- Every enabled entry is resolved against the roster that has come into force (R161, R162). -/
def resolveSubs (s : State) : State :=
  if !s.hasRoster then s
  else
    s.sched.subs.foldl (fun s ie =>
      let (i, e) := ie
      if !subEn e then s
      else
        let t := s.subStat i
        match s.posOfUid (subUid e) with
        | some p =>
          let st := if t.state = 3 then (if t.deliv = 0 then 0 else 2) else t.state
          s.setStat i { t with pos := p, state := st, resolved := true, base := if t.state = 3 || !t.resolved then s.cyc else t.base }
        | none =>
          let s1 := s.setStat i { t with pos := 0, state := 3, resolved := true }
          let s1 := s1.recordGen 0x0309 0
          if t.state = 3 then s1 else ((s1.raise Reg.SCHD_IRQ.SUBSTALE).clearSub e)) s

/-- A later copy of the SEQ that entry `i` has delivered only adds its line (Table 05.6). -/
def markLine (s : State) (i line seq : Nat) : State :=
  let t := s.subStat i
  if t.deliv ≠ 0 && t.lastSeq = seq then s.setStat i { t with lines := t.lines ||| 2 ^ line } else s

/-- A copy is delivered to one matching entry (R161, R296): length, newer SEQ (TT), then the atomic write. The cycles without a delivery
count from the next one (R162). -/
def deliverOne (s : State) (i line : Nat) (vital : Bool) (seq : Nat) (data : Bytes) : State :=
  let e := s.subEntry i
  let t := s.subStat i
  let d := data.drop 4
  if t.deliv ≠ 0 && t.lastSeq = seq then s.markLine i line seq
  else if !vital && t.deliv ≠ 0 && sdiff32 seq t.lastSeq ≤ 0 then s
  else if d.length ≠ subLen e || !subRangeOk (subDst e) (subLen e) then s.bump Reg.SCHD_SUBLEN.COUNT
  else
    let s := s.deliverImg (subDst e) d
    s.setStat i { t with lastCyc := fieldAt data 0 4, lastSeq := seq, state := 1, lines := 2 ^ line,
                         deliv := min (t.deliv + 1) 0xFFFFFFFF, base := (s.cyc + 1) % 2 ^ 32 }

/-- Subscription entry `i` takes frames of the publisher `uid` with the class, ID and, for TT, sweep of the frame `f` (R161). -/
def subMatches (s : State) (i uid : Nat) (f : Bytes) : Bool :=
  let e := s.subEntry i
  let vital := hCls f = .vital
  subEn e && subVital e = vital && subId e = hPub f && subUid e = uid && (s.subStat i).resolved && (vital || subFwd e = hDir f)

/-- The subscription entries to which a TT or VITAL frame of the publisher `uid` goes, as the decision fixes them (R161, R223). -/
def subTargets (s : State) (uid : Nat) (f : Bytes) : List Nat :=
  (s.sched.subs.map (·.1)).filter fun i => s.subMatches i uid f && (s.subStat i).state ≠ 3

/-- A TT or VITAL copy that may be delivered goes to the entries `is` (R161). -/
def deliverSubs (s : State) (line uid : Nat) (is : List Nat) (f : Bytes) : State :=
  is.foldl (fun s i => if s.subMatches i uid f then s.deliverOne i line (hCls f = .vital) (hSeq f) (payload f) else s) s

/-- Table stores take effect (R170): at a boundary, or at once while no cycle runs. A subscription whose publisher is not in the roster in force is
MISSING from that boundary on, with SCHD_IRQ.SUBSTALE and 0x0309 and its destination range as it was; R161 and R162 speak only of Noons
(log entry 38). -/
def applyTables (s : State) : State :=
  let pubs := s.sched.pubsNext.foldl (fun t e => setEntry t e.1 e.2) s.sched.pubs
  let subs := s.sched.subsNext.foldl (fun t e => setEntry t e.1 e.2) s.sched.subs
  let touched := s.sched.subsNext.map (·.1)
  let touchedPub := !s.sched.pubsNext.isEmpty
  -- an entry shown in the mailbox that takes another value is no longer consistent (R7, R169)
  let sel := s.get Reg.SCHD_TSEL.INDEX
  let stale := (s.get Reg.SCHD_TSEL.TAB = 0 && tableEntry pubs sel ≠ tableEntry s.sched.pubs sel)
    || (s.get Reg.SCHD_TSEL.TAB = 1 && tableEntry subs sel ≠ tableEntry s.sched.subs sel)
  let s := if stale then s.put Reg.SCHD_TSTAT.VALID 0 else s
  let s := { s with sched := { s.sched with pubs := pubs, subs := subs, pubsNext := [], subsNext := [] } }
  let s := touched.foldl (fun s i =>
    let e := s.subEntry i
    if !subEn e || !s.hasRoster then s.setStat i { base := s.cyc }
    else match s.posOfUid (subUid e) with
      | some p => s.setStat i { pos := p, resolved := true, base := s.cyc }
      | none => ((s.setStat i { state := 3, resolved := true, base := s.cyc }).raise Reg.SCHD_IRQ.SUBSTALE).recordGen 0x0309 0) s
  if touchedPub then s.refreshPubOver else s

/-- The 16 bytes shown in SCHD_TD0 to SCHD_TD3. -/
def tdBytes (s : State) : Bytes :=
  natBe 4 (s.get Reg.SCHD_TD0.DATA) ++ natBe 4 (s.get Reg.SCHD_TD1.DATA) ++ natBe 4 (s.get Reg.SCHD_TD2.DATA) ++ natBe 4 (s.get Reg.SCHD_TD3.DATA)

def putTd (s : State) (b : Bytes) : State :=
  let s := (s.put Reg.SCHD_TD0.DATA (fieldAt b 0 4)).put Reg.SCHD_TD1.DATA (fieldAt b 4 4)
  (s.put Reg.SCHD_TD2.DATA (fieldAt b 8 4)).put Reg.SCHD_TD3.DATA (fieldAt b 12 4)

/-- A write of SCHD_TSEL takes effect (Table 05.8, R169, R170). -/
def schdSel (s : State) (v : Nat) : State :=
  let s := ((s.put Reg.SCHD_TSEL.TAB (Reg.SCHD_TSEL.TAB.of v)).put Reg.SCHD_TSEL.WR (Reg.SCHD_TSEL.WR.of v)).put Reg.SCHD_TSEL.INDEX (Reg.SCHD_TSEL.INDEX.of v)
  let tab := s.get Reg.SCHD_TSEL.TAB
  let i := s.get Reg.SCHD_TSEL.INDEX
  if s.flag Reg.SCHD_TSEL.WR then
    let s := s.put Reg.SCHD_TSTAT.VALID 0
    if 2 ≤ tab then s.put Reg.SCHD_STAT.WIGN 1
    else if tab = 0 then
      if 64 ≤ i then s
      else
        let s := { s.dirtyCfg with sched.pubsNext := s.sched.pubsNext.filter (·.1 ≠ i) ++ [(i, s.tdBytes)] }
        if s.cycRun then s else s.applyTables
    else
      let s : State := { s.dirtyCfg with sched.subsNext := s.sched.subsNext.filter (·.1 ≠ i) ++ [(i, s.tdBytes)] }
      -- the previous entry stays in use, with its status at NEVER and DELIV 0
      let t := s.subStat i
      let s := s.setStat i { pos := t.pos, resolved := t.resolved, base := t.base }
      if s.cycRun then s else s.applyTables
  else
    let b := match tab with
      | 0 => if i < 64 then tableEntry s.sched.pubs i else List.replicate 16 0
      | 1 => s.subEntry i
      | 2 => (s.subStat i).bytes
      | _ => List.replicate 16 0
    (s.putTd b).put Reg.SCHD_TSTAT.VALID 1

/-- A WP write whose effect comes with it: ignored with WIGN while BUSY is 1 (R4). -/
def ifIdle (s : State) (a : Nat) (f : State → State) : State := if s.busyAt a then s.setOpt (wignOf a) else f s

/-- Guardian points of a sweep that fall in the present cycle: instant, cycle of the window, roster of that cycle, window. A window that
opens less than 1 µs after its boundary has its guardian point in the cycle before, and one that would begin after t_b has none (R146, R123). -/
def guardPoints (s : State) (fwd : Bool) : List (Nat × Nat × Roster × Win) :=
  let n := s.nextCycle
  let at_ (b k : Nat) (r : Roster) (early : Bool) : List (Nat × Nat × Roster × Win) :=
    match (s.schedOf r).ofUid s.entryUid with
    | none => []
    | some w =>
      let o := if fwd then w.oF else w.oR
      if w.d ≠ 0 && (o < 1000) = early && (early || b + ns o ≤ n.1) then [(b + ns o - us 1, k, r, w)] else []
  (if s.cycRun then s.roster.elim [] (at_ s.bnd s.cyc · false) else [])
    ++ (if s.cycRun || (s.inau.rephase && s.inau.place.isSome) then n.2.2.elim [] (at_ n.1 n.2.1 · true) else [])

/-- The guardian point that is due: the first that does not lie behind, else the last. -/
def nextGuard (s : State) (fwd : Bool) : Option (Nat × Nat × Roster × Win) :=
  let ps := s.guardPoints fwd
  (ps.find? fun p => s.now ≤ p.1).orElse fun _ => ps.getLast?

/-- A write of a mode descriptor (R163, R168). -/
def writeModeDesc (s : State) (m v : Nat) : State :=
  let a := (Reg.SCHD_MODEDESC.WRULE.ix m).addr
  let pend := s.flag Reg.SCHD_STAT.PENDV && s.get Reg.SCHD_STAT.PENDMODE = m
  if s.modeNow = m || pend then s.put Reg.SCHD_STAT.WIGN 1
  else if m = 0 then s
  else s.storeWord a v

end State

/-- OWN_WINDOW_OPEN (R147): at o_q the captured publications and the relay copies leave in order; a twin half passes its own to its
partner (R349). -/
def execOwnWindowOpen (fwd : Bool) (s : State) : Host.Outcome State Fault Refusal :=
  live s fun s =>
  done (match s.ownWin with
    | none => s
    | some w =>
      if !s.cycRun || w.d = 0 then s
      else
        let o := if fwd then w.oF else w.oR
        let s := s.reach (s.bnd + ns o)
        let silent := if fwd then s.sched.silF else s.sched.silR
        -- what the guardian point of another cycle captured is not sent
        let s := if (if fwd then s.sched.cycF else s.sched.cycR) = s.cyc then s
          else if fwd then { s with sched.capF := [] } else { s with sched.capR := [] }
        -- R123: no window that would begin after t_b in a re-phase cycle
        let past := s.inau.rephase && s.inau.place.any fun (p : Int × Nat × Nat) => p.1 < (s.bnd + ns o : Int)
        let s := if silent || past then s
          else if s.holdsClaim then s.sendWindow fwd w
          else if s.partnerPresent then s.sendRelays fwd w
          else s
        let s := s.dropMemberFrames fwd
        if fwd then { s with sched.capF := [] } else { s with sched.capR := [] })

/-- SUBSCRIPTION_MAXAGE_EXPIRY (R162). -/
def execSubscriptionMaxageExpiry (entry : Nat) (s : State) : Host.Outcome State Fault Refusal :=
  live s fun s =>
  let e := s.subEntry entry
  let t := s.subStat entry
  done (if subEn e && t.resolved && (t.state = 0 || t.state = 1) && (subAge e : Int) ≤ sdiff32 s.cyc t.base then s.goStale entry else s)

/-- SCHD_MODEDESC_WRITE (R168). -/
def execSchdModedescWrite (mode : Fin 8) (value : Word) (s : State) : Host.Outcome State Fault Refusal :=
  live s fun s =>
  done (s.writeModeDesc mode value.toNat)

/-- SCHD_TABLE_LOAD (R169). -/
def execSchdTableLoad (value : Word) (s : State) : Host.Outcome State Fault Refusal :=
  live s fun s =>
  done (s.ifIdle 0x30080 (·.schdSel value.toNat))

/-- SCHD_TABLE_STORE (R170). -/
def execSchdTableStore (value : Word) (s : State) : Host.Outcome State Fault Refusal :=
  live s fun s =>
  done (s.ifIdle 0x30080 (·.schdSel value.toNat))

end Sys2Proof.Machine
end

