-- ==== Sys2Proof/Machine/Decision.lean ====
section
/-! DEFINITION. The decision of the fabric on a lane frame (Table 08.3, R149 to R153, R223 to R233), its end (Table 02.8), and the delivery
of what it carries (R161, R229, R239, R259). -/

namespace Sys2Proof.Machine

/-- A residence correction as a signed number, 1/16 ns; none for "correction invalid" (R56). -/
def corrOf (f : Bytes) : Option Int := if hCorr f = corrInvalid then none else some (signed 48 (hCorr f))

/-- The instance of a window open `o` ns after boundaries `t` apart, nearest to `t0` among that of the cycle of `t0` and its two
neighbours (R149); `b` is one boundary, the result the instance's boundary. -/
def nearestBoundary (b t : Int) (o : Nat) (t0 : Int) : Int :=
  let i := (t0 - b) / t
  let at_ (j : Int) : Int := b + j * t
  let dist (j : Int) : Nat := (t0 - (at_ j + 16 * (o : Int))).natAbs
  let best := if dist i ≤ dist (i - 1) then i else i - 1
  if dist (i + 1) < dist best then at_ (i + 1) else at_ best

namespace State

/-- The stage of the frame being received on lane `n`. -/
def setStage (s : State) (n : Nat) (t : RxStage) : State :=
  s.onLane n fun l => { l with rx := l.rx.map fun (f : RxFrame) => { f with stage := t } }

/-- Residual ĉ now (R183); the part of the slew applied so far is truncated toward zero to 1/16 ns (log entry 38). -/
def residNow (s : State) : Int :=
  if s.sync.fresh then s.sync.resid - tdivI (s.sync.slew * ((s.now - s.bnd : Nat) : Int)) s.tLen else s.sync.carried

/-- The roster that a frame's generation names: in force, or held for one cycle after Noon (R113, R149). -/
def rosterOf (s : State) (g : Nat) : Option Roster :=
  match s.inau.force, s.inau.prev with
  | some h, p => if h.roster.gen = g then some h.roster else p.bind fun h => if h.roster.gen = g then some h.roster else none
  | none, _ => none

/-- Sequence index of the node itself under a roster. -/
def ownQ (s : State) (r : Roster) : Nat := match r.ofUid s.entryUid with | some e => r.seqOf e.pos | none => 0

/-- Local egress codes of Table 08.1 to which a TT or VITAL frame with targets `subs`, a MGMT or BULK frame that is or is not for this
node, goes (R161, R226, R229). -/
def localSinks (s : State) (f : Bytes) (subs : List Nat) (own : Bool) : List Nat :=
  match hCls f with
  | .tt => (if subs.isEmpty then [] else [12]) ++ (if s.members.isEmpty then [] else [10])
  | .vital => (if subs.isEmpty then [] else [12]) ++ (if s.members.isEmpty then [] else [10])
  | _ =>
    if !own || !s.flag Reg.FWD_CTRL.EN then []
    else if hType f = 0x06 then
      (List.range 4).filterMap (fun p => if bit (byteAt f 24) p then some (4 + p) else none) ++ if bit (byteAt f 24) 4 then [8] else []
    else [11]

/-- The frame is kept in the pool for its copies, or refused for buffers (Table 08.3, step 9). What the decision fixes for the copies of
this node is kept with the reception (R223). -/
def keepFrame (s : State) (n uid : Nat) (subs : List Nat) (own : Bool) : Option (Nat × State) :=
  match (s.lane n).rx with
  | none => none
  | some f =>
    let p : PFrame := { fid := 0, ingress := n, cls := hCls f.bytes, bytes := f.bytes, complete := false, stamp := some f.stamp,
                        relay := true, pd := s.pdIn n, sinks := s.localSinks f.bytes subs own }
    (s.enterPool p (frameLen f.bytes)).map fun (fid, s) =>
      (fid, s.onLane n fun l => { l with rx := some { f with stage := .kept fid, uid := uid, subs := subs, own := own } })

/-- Copies of a kept frame toward lanes, those that a queue takes counted (Table 08.7); DMASK names every copy, CUT is set where an idle
egress takes the frame at once (R221, R230). -/
def forward (s : State) (fid : Nat) (cls : Cls) (lanes : List Nat) (crossing : Bool) : State :=
  let cnt := match cls with
    | .tt => Reg.FWD_FWDTT.COUNT | .vital => Reg.FWD_FWDVIT.COUNT | .mgmt => Reg.FWD_FWDMG.COUNT | .bulk => Reg.FWD_FWDBK.COUNT
  let s := lanes.foldl (fun s m =>
    let s := (s.advance m).enqueue m fid false crossing
    if laneHas (s.lane m) fid then s.bump cnt else s) s
  let s := s.onFrame fid fun f => { f with dmask := ((lanes.eraseDups ++ f.sinks).map (2 ^ ·)).sum }
  let s := lanes.foldl (fun s m => s.chooseTx m) s
  s.onFrame fid fun f => { f with cut := lanes.any fun m => (s.lane m).tx.any (·.fid = fid) }

/-- Lanes that take a TT frame onward (R224, R129), with what has been sent in this sweep. 0x022B is recorded at the first frame for which the
lane of its line is lost, also where the other lane has sent it already (log entry 38). -/
def ttLanes (s : State) (n : Nat) (f : Bytes) : List Nat × State :=
  let e := oppEnd (endOf n)
  if s.endsHere e || (s.vend e).isolated then ([], s)
  else
    let m := laneAt e (lineOf n)
    let x := laneAt e (1 - lineOf n)
    let key (l : Nat) := (l, hSrc f, hPub f, hSeq f)
    let mark (s : State) (l : Nat) : State := { s with inau.sent := key l :: s.inau.sent }
    if (s.lane m).working then
      let s : State := { s with inau.crossed := s.inau.crossed.filter (·.1 ≠ m) }
      -- a duplicate is dropped only where the other line crosses over onto this lane
      if s.inau.crossed.any (·.1 = x) && s.inau.sent.contains (key m) then ([], s) else ([m], mark s m)
    else if (s.lane x).working && !s.twinOn then
      let s := if s.inau.crossed.any (·.1 = m) then s
        else { s with inau.crossed := (m, 0, 0, 0) :: s.inau.crossed }.record 0x022B
      if s.inau.sent.contains (key x) then ([], s) else ([x], mark s x)
    else ([], s)

/-- The lane that takes a VITAL frame onward (R225): none where the neighbour holds SRC. -/
def vitalLanes (s : State) (n src : Nat) : List Nat :=
  let e := oppEnd (endOf n)
  let m := laneAt e (lineOf n)
  if (s.lane m).working && !(s.vend e).isolated && s.namedAt e ≠ some src then [m] else []

/-- The copy has crossed the loop-head break (R153): travelling aft it comes from a position with a higher q, travelling fore from a
lower one. -/
def isCrossing (s : State) (r : Roster) (n q : Nat) : Bool :=
  r.loop && (if endOf n = s.foreEnd then s.ownQ r < q else q < s.ownQ r)

/-- A frame of `uid`'s window of a sweep has come on the line of lane `n`; whether it is the first of that window in this cycle, its timing
frame (R180). -/
def timingFrame (s : State) (n uid : Nat) (fwd : Bool) : Bool × State :=
  let k := (uid, lineOf n, fwd)
  if s.sync.seen.contains k then (false, s) else (true, { s with sync.seen := k :: s.sync.seen })

/-- The deviation of R180 goes with a timing frame. -/
def markTiming (s : State) (n uid : Nat) (first : Bool) (d : Int) : State :=
  if first then s.onLane n fun l => { l with rx := l.rx.map fun (f : RxFrame) => { f with dev := some (uid, d) } } else s

/-- A TT or VITAL frame whose header fails its check on lane `n`: no later frame of the window it names is its timing frame (R187). -/
def spoilTiming (s : State) (n : Nat) (f : Bytes) : State :=
  if !(hCls f).express then s
  else match (s.rosterOf (hGen f)).bind fun r => (s.schedOf r).ofPos (hSrc f) with
    | some w => (s.timingFrame n w.uid (hDir f)).2
    | none => s

/-- A frame dropped by policing (R150). -/
def police (s : State) (n src : Nat) (late later : Bool) : State :=
  let s := s.bump (if late then Reg.SCHD_POLLATE.COUNT else Reg.SCHD_POLEARLY.COUNT)
  let s := ((s.putB Reg.SCHD_LASTPOL.LATE late).putB Reg.SCHD_LASTPOL.LATER later).put Reg.SCHD_LASTPOL.LANE n
  (((s.put Reg.SCHD_LASTPOL.SRC src).raise Reg.SCHD_IRQ.POLICE).recordGen 0x0301 src).setStage n .policed

/-- Steps 5 to 9 for a TT or VITAL frame. A node at position 0 carries none of them (R21), yet takes their deviations (R180). A crossing copy
(R153) is left out of the deviations (log entry 38). -/
def decideExpress (s : State) (n : Nat) (f : Bytes) (stamp : Nat) : State :=
  let vital := hCls f = .vital
  let drop (s : State) : State := s.setStage n .dropped
  if !vital && s.breakEnd = some (endOf n) then (drop s).bump Reg.FWD_BREAK.COUNT
  else match s.rosterOf (hGen f) with
    | none => (drop s).bump Reg.FWD_GENERR.COUNT
    | some r =>
      let c := s.schedOf r
      match c.ofPos (hSrc f), corrOf f, s.pdIn n with
      | none, _, _ => (drop s).bump Reg.SCHD_NOWIN.COUNT
      | some w, corr, pd =>
        if w.d = 0 then (drop s).bump Reg.SCHD_NOWIN.COUNT
        else
          let fwd := hDir f
          let crossing := vital && s.isCrossing r n w.q
          let m := if crossing then (false, s) else s.timingFrame n w.uid fwd
          let s := m.2
          match corr, pd with
          | some corr, some pd =>
            let o := if fwd then w.oF else w.oR
            let t0 : Int := (stamp : Int) - (corr + pd)
            let b := nearestBoundary ((s.bnd : Int) + s.residNow) (16 * c.t) o t0
            let first := !crossing && s.namedAt (endOf n) = some w.uid
            let tau := if first then c.g else 2 * c.g
            let s := s.markTiming n w.uid m.1 (t0 - (b - s.residNow) - 16 * o)
            let x := t0 - b
            if x < 16 * ((o : Int) - tau) then s.police n (hSrc f) false (!first)
            else if 16 * ((o + w.d + tau : Nat) : Int) < x + 64 * (31 + hLen f) then s.police n (hSrc f) true (!first)
            else if crossing && t0 + 2 * s.tLen < s.now then (drop s).bump Reg.SCHD_STALE.COUNT
            else if s.pos = 0 then drop s
            else
              let s := s.onLane n fun l => { l with rx := l.rx.map fun (f : RxFrame) => { f with inWin := true } }
              match s.keepFrame n w.uid (s.subTargets w.uid f) false with
              | none => (drop s).refuseBuf (hCls f)
              | some (fid, s) =>
                if vital then s.forward fid .vital (s.vitalLanes n w.uid) crossing
                else
                  let (lanes, s) := s.ttLanes n f
                  s.forward fid .tt lanes false
          | _, _ => (drop s).bump Reg.SCHD_NOCORR.COUNT

/-- A MGMT or BULK frame of the previous generation names the same nodes under both rosters (R113). -/
def sameNodes (s : State) (f : Bytes) : Bool :=
  match s.inau.force, s.inau.prev with
  | some a, some b =>
    let same (p : Nat) : Bool := (a.roster.atPos p).map Entry.uid = (b.roster.atPos p).map Entry.uid
    same (hSrc f) && (hDst f = 0 || same (hDst f))
  | _, _ => false

/-- Lanes that take a MGMT or BULK frame onward (R226 to R228). -/
def mbLanes (s : State) (n : Nat) (f : Bytes) : List Nat × State :=
  let e := oppEnd (endOf n)
  if hDst f = s.pos then ([], s)
  else if s.endsHere e then ([], if hDst f = 0 then s else s.bump Reg.FWD_UNDELIV.COUNT)
  else if (s.vend e).isolated then ([], s)
  else match s.pickLane e (lineOf n) with
    | some (m, moved) => ([m], if moved then s.bump Reg.FWD_XOVER.COUNT else s)
    | none => ([], if s.twinOn then s.bump Reg.FWD_NOPATH.COUNT else s)

/-- Steps 5 to 9 for a MGMT or BULK frame. -/
def decidePlain (s : State) (n : Nat) (f : Bytes) : State :=
  let drop (s : State) : State := s.setStage n .dropped
  if s.breakEnd = some (endOf n) then (drop s).bump Reg.FWD_BREAK.COUNT
  else match s.rosterOf (hGen f) with
    | none => (drop s).bump Reg.FWD_GENERR.COUNT
    | some r =>
      if hGen f ≠ s.gen && !s.sameNodes f then (drop s).bump Reg.FWD_GENERR.COUNT
      else if (r.atPos (hSrc f)).isNone then (drop s).bump Reg.FWD_NOSRC.COUNT
      else match s.keepFrame n 0 [] (hDst f = 0 || hDst f = s.pos) with
        | none => (drop s).refuseBuf (hCls f)
        | some (fid, s) =>
          let (lanes, s) := s.mbLanes n f
          s.forward fid (hCls f) lanes false

/-- The decision on the frame being received on lane `n`, once 32 of its bytes are there (R57, R222). -/
def decideFrame (s : State) (n : Nat) : State :=
  match (s.lane n).rx with
  | none => s
  | some r =>
    if r.stage ≠ .open_ || r.bytes.length < 32 then s
    else
      let f := r.bytes
      let drop (s : State) : State := s.setStage n .dropped
      match headerCheck f with
      | .hcrc => ((drop s).spoilTiming n f).bump (Reg.LANE_HCRC.COUNT.at n)
      | .hdr => ((drop s).spoilTiming n f).bump (Reg.LANE_HDRERR.COUNT.at n)
      | .ok =>
        let ty := hType f
        let pd := ty = 0x13 || ty = 0x14
        -- R503: a held lane carries PROBE, PDREQ and PDRSP alone
        if (s.lane n).heldOut ≠ 0 && ty ≠ 0x10 && !pd then drop s
        else if (0x10 ≤ ty && ty ≤ 0x14) then s.setStage n .consumed
        -- DUSK, DAWN and MIDN frames are judged by the rows that take them (R362, R467)
        else if ty = 0x18 || ty = 0x19 then s.setStage n .consumed
        else if (s.vend (endOf n)).isolated then (drop s).bump Reg.FWD_ISOL.COUNT
        else if s.inau.force.isNone then
          if (hCls f).express then drop s else (drop s).bump Reg.FWD_NOROST.COUNT
        else if (hCls f).express then s.decideExpress n f r.stamp
        else if s.pos = 0 then drop s
        else s.decidePlain n f

/-- Every lane that has a copy of the frame goes on. -/
def runCopies (s : State) (fid : Nat) : State :=
  (List.range 4).foldl (fun s n => if laneHas (s.lane n) fid then s.runTx n else s) s

/-- Bytes of the frame being received reach the pool, and the lanes that send it go on (R233). -/
def feedFrame (s : State) (n : Nat) : State :=
  match (s.lane n).rx with
  | none => s
  | some r => match r.stage with
    | .kept fid => (s.onFrame fid fun f => { f with bytes := r.bytes }).runCopies fid
    | _ => s

/-! Deliveries at a good end. -/

/-- The path of a VITAL copy: line, and on a loop its round (R240). -/
def pathOf (n : Nat) (f : Bytes) : Nat := 2 * lineOf n + b2n (hRound f)

/-- What the node keeps of VITAL channel `id`. -/
def vitS (s : State) (id : Nat) : VitS := ((s.fab.vit.find? (·.1 = id)).map (·.2)).getD {}
def setVit (s : State) (id : Nat) (v : VitS) : State := { s with fab.vit := s.fab.vit.filter (·.1 ≠ id) ++ [(id, v)] }

/-- A VCH copy in window and ended good: the channel's source (R128), its path (R240), its sequence window (R239), its delivery to the
entries `is`. A source counts as publishing until a Noon after its last copy (log entry 39). -/
def takeVital (s : State) (n : Nat) (f : Bytes) (uid : Nat) (is : List Nat) : State :=
  let id := hPub f
  if id = 0 || 64 < id then s
  else
    let v := s.vitS id
    let known := v.heard && v.src ≠ 0 && s.roster.any fun r => (r.ofUid v.src).isSome
    let two := known && v.src ≠ uid
    let s := if two then s.recordGen 0x022F id else s
    if two && outranks v.src uid then s
    else
      let v := if v.src = uid then { v with heard := true } else { src := uid, heard := true }
      let v := { v with seen := v.seen.setIfInBounds (pathOf n f) (some s.cyc) }
      let s := s.toMembers n f
      let s := s.put (Reg.FWD_VPATH.SRC.ix (id - 1)) (hSrc f)
      let q := hSeq f
      let give (s : State) (v : VitS) : State := (s.setVit id v).deliverSubs (lineOf n) uid is f
      match v.win with
      | none => give s { v with win := some (q, 1) }
      | some (h, bits) =>
        let d := sdiff32 q h
        if 0 < d then
          let nb : BitVec 64 := (if d < 64 then bits <<< d.toNat else 0) ||| 1
          give s { v with win := some (q, nb) }
        else if d < -63 then (s.setVit id v).bump Reg.FWD_VOLD.COUNT
        else if bits.getLsbD (-d).toNat then
          is.foldl (fun s i => if s.subMatches i uid f then s.markLine i (lineOf n) q else s) ((s.setVit id v).bump Reg.FWD_VDUP.COUNT)
        else give s { v with win := some (h, bits ||| BitVec.ofNat 64 (2 ^ (-d).toNat)) }

/-- An ETH frame for this node: copies for its consist ports and for the host (R229, R259, R263). -/
def deliverEth (s : State) (fid : Nat) (f : Bytes) : State :=
  if !s.flag Reg.FWD_CTRL.EN then s
  else
    let pl := payload f
    let mask := byteAt pl 0
    let data := pl.drop 4
    let s := (List.range 4).foldl (fun s p =>
      if bit mask p then s.pushTx p { q := s.pcpQueue p (bits (byteAt pl 1) 2 0), fid := fid, bytes := withFcs data } else s) s
    if !bit mask 4 then s
    else match (List.range 4).find? fun p => s.flag (Reg.CONS_CTRL.BBHOST.at p) with
      | none => s.bump Reg.FWD_SINKFULL.COUNT
      | some p => s.toRing p 7 fid data 0 (ethTci data)
          ((if ethTagged data then 2 ^ 28 else 0) + 2 ^ 27 + 0xFE * 2 ^ 16)

/-- Deliveries of a frame that ended good, as its decision fixed them (R223, R231). Command packets, Dusk and Midnight frames have
commands of their own. -/
def deliver (s : State) (n : Nat) (r : RxFrame) : State :=
  let f := r.bytes
  match r.stage with
  | .kept fid =>
    let s := s.onFrame fid fun p => { p with sinks := [] }
    match hCls f with
    | .tt => if r.inWin then (s.deliverSubs (lineOf n) r.uid r.subs f).toMembers n f else s
    | .vital => if r.inWin then s.takeVital n f r.uid r.subs else s
    | _ => if hType f = 0x06 && r.own then s.deliverEth fid f else s
  | _ => s

/-- The deviation of a timing frame that ended good counts (R180). -/
def takeDev (s : State) (n : Nat) (dev : Option (Nat × Int)) : State :=
  match dev with
  | none => s
  | some (uid, d) =>
    let old : Dev := (s.sync.devs.find? (·.uid = uid)).getD ⟨uid, none, none⟩
    let new : Dev := if lineOf n = 0 then { old with a := some (old.a.getD d) } else { old with b := some (old.b.getD d) }
    { s with sync.devs := s.sync.devs.filter (·.uid ≠ uid) ++ [new] }

/-- The frame being received on lane `n` ends, with EG or EB (Table 02.8). -/
def endFrame (s : State) (n : Nat) (eg : Bool) (codeErrs : Nat) : State :=
  let s := s.codeErrors n codeErrs
  let s := s.decideFrame n
  match (s.lane n).rx with
  | none => s
  | some r =>
    let len := r.bytes.length
    let s := s.feedFrame n
    let close (s : State) : State := ((s.onLane n fun l => { l with rx := none }).refreshOcc n)
    let bad (s : State) : State := close (match r.stage with | .kept fid => s.badFrame fid | _ => s)
    if r.giant then close s
    else if len ≤ 31 then (close s).bump (Reg.LANE_RUNT.COUNT.at n)
    else if !eg then (bad s).bump (Reg.LANE_EBIN.COUNT.at n)
    else if headerCheck r.bytes ≠ .ok then close s
    else if codeErrs ≠ 0 || r.codeErr then (bad s).bump (Reg.LANE_CRC.COUNT.at n)
    else if len ≠ frameLen r.bytes then (bad s).bump (Reg.LANE_LENERR.COUNT.at n)
    else if !fcsOk r.bytes then (bad s).bump (Reg.LANE_CRC.COUNT.at n)
    else
      let s := s.bump (Reg.LANE_RXGOOD.COUNT.at n)
      let s := (s.takeDev n r.dev).deliver n r
      let s := match r.stage with
        | .kept fid => ((s.onFrame fid fun f => { f with complete := true }).runCopies fid).gc fid
        | _ => s
      close s

end State

/-- FRAME_DECISION (R57, R222). -/
def execFrameDecision (lane : Lane) (bytes : Bytes) (s : State) : Host.Outcome State Fault Refusal :=
  live s fun s =>
  done (if (s.lane lane).rx.isSome then (((s.takeBytes lane bytes).decideFrame lane).feedFrame lane).refreshOcc lane
    else (s.takeBytes lane bytes).refreshOcc lane)

/-- LANE_FRAME_END (R57). With no frame open it ends what was left of a discarded one, and counts nothing (log entry 38). -/
def execLaneFrameEnd (lane : Lane) (bytes : Bytes) (good : Bool) (codeErrors : Nat) (s : State) : Host.Outcome State Fault Refusal :=
  live s fun s =>
  done (if (s.lane lane).rx.isSome then ((s.takeBytes lane bytes).endFrame lane good codeErrors).judgeErrors lane
    else ((s.codeErrors lane codeErrors).passRest lane bytes).judgeErrors lane)

end Sys2Proof.Machine
end

