-- ==== Sys2Proof/Machine/Remote.lean ====
section
/-! DEFINITION. Command packets: their fields (R432, R438), slots and completions (R433, R435, R449), CMD and CPL frames with their
checks (R445 to R450), notices. -/

namespace Sys2Proof.Machine

/-- Fields of a command packet (Table 16.1). -/
def pkOp (p : Bytes) : Nat := fieldAt p 0 2
def pkTag (p : Bytes) : Nat := fieldAt p 2 2
def pkPlen (p : Bytes) : Nat := fieldAt p 4 2
def pkMember (p : Bytes) : Nat := byteAt p 6 % 4
def pkParams (p : Bytes) : Bytes := (p.drop 8).take (pkPlen p)

/-- Notice opcodes. -/
def isNotice (op : Nat) : Bool := 0x50 ≤ op && op ≤ 0x53

/-- The remote group of an opcode; none where no remote sender is admitted (Table 16.6). -/
def opGroup (op : Nat) : Option Nat :=
  match op with
  | 0x01 => some 0 | 0x02 => some 0 | 0x10 => some 0 | 0x11 => some 1 | 0x12 => some 0
  | 0x20 => some 2 | 0x21 => some 2 | 0x22 => some 2
  | 0x30 => some 3 | 0x31 => some 0 | 0x32 => some 3
  | 0x40 => some 4 | 0x41 => some 4 | 0x42 => some 4 | 0x43 => some 4 | 0x44 => some 4
  | _ => none

/-- The opcode stands in Table 16.6. -/
def opKnown (op : Nat) : Bool := (opGroup op).isSome || isNotice op || op = 0x60 || op = 0x61 || op = 0x70

/-- PLEN fits the opcode, and no packet has more than 1,008 parameter bytes (Tables 16.1, 16.6). -/
def plenOk (p : Bytes) : Bool :=
  let n := pkPlen p
  let a := pkParams p
  n ≤ 1008 && match pkOp p with
  | 0x01 => n = 0 | 0x02 => n = 0 | 0x10 => n = 8 | 0x11 => n = 12 | 0x12 => n = 8
  | 0x20 => 8 ≤ n | 0x21 => n = 4 | 0x22 => n = 20
  | 0x30 => 8 ≤ n && n = 8 + fieldAt a 4 2
  | 0x31 => n = 8 | 0x32 => n = 4 | 0x40 => n = 4 | 0x41 => n = 0 | 0x42 => n = 0 | 0x43 => n = 0 | 0x44 => n = 4
  | 0x60 => n = 20 | 0x61 => n = 4
  | 0x70 => 12 ≤ n && n = 12 + fieldAt a 8 2
  | _ => true

/-- Largest result of an opcode executed locally (Table 16.6, R438). -/
def opResultMax (op : Nat) : Nat :=
  match op with
  | 0x02 => 24 | 0x10 => 256 | 0x11 => 4 | 0x12 => 16 | 0x31 => 992 | 0x60 => 4 | _ => 0

/-- Largest result of a packet: an RSEND carries its inner opcode's completion packet, whatever its DST (R438). -/
def resultMax (p : Bytes) : Nat := if pkOp p = 0x70 then 12 + opResultMax (fieldAt (pkParams p) 4 2) else opResultMax (pkOp p)

/-- Waiting opcodes (Table 16.6). -/
def isWaiting (op : Nat) : Bool := [0x21, 0x40, 0x41, 0x43, 0x44, 0x70].contains op

/-- A completion packet (Table 16.2). -/
def cplPacket (p : Bytes) (status info : Nat) (result : Bytes) : Bytes :=
  natBe 2 (pkOp p) ++ natBe 2 (pkTag p) ++ natBe 2 status ++ natBe 2 result.length ++ natBe 4 info ++ result

/-- Fields of the wrapper (Table 16.7). -/
def wrCyc (pl : Bytes) : Nat := fieldAt pl 4 4
def wrOrigin (pl : Bytes) : Nat := fieldAt pl 8 8
/-- The command or completion packet inside. -/
def wrPacket (pl : Bytes) : Bytes := (pl.drop 16).take (pl.length - 24)

namespace State

/-! Sending (R445 to R447). -/

/-- The train key in a slot. -/
def trainKey (s : State) (k : Nat) : Option Bytes := (s.cmd.keys.find? (·.1 = k)).map (·.2)

/-- The frame of type `ty` for `dst` with DIR as given, signed with the slot TXSLOT if it holds a key. -/
def wrapped (s : State) (ty dst seq : Nat) (ack fore : Bool) (packet : Bytes) : Bytes :=
  let slot := s.auth % 4
  let key := s.trainKey slot
  let w := natBe 1 1 ++ natBe 1 (if key.isSome then slot else 0xFF) ++ [0, 0] ++ natBe 4 s.cyc ++ natBe 8 s.uid ++ packet
  let h : Hdr := { cls := .mgmt, type := ty, flags := (if fore then 0x80 else 0) + (if ack then 0x20 else 0), src := s.pos, dst := dst,
                   gen := s.gen, seq := seq }
  let f0 := mkFrame h (w ++ List.replicate 8 0)
  match key with
  | none => f0
  | some k => mkFrame h (w ++ (cmac k (f0.take 16 ++ w)).take 8)

/-- A CMD (0x04) or CPL (0x05) frame is queued now. -/
def sendNow (s : State) (x : RemoteOut) : State :=
  let s := s.readVoted 0xD000C
  if !s.flag Reg.FWD_CTRL.EN then s
  else if s.inau.force.isNone then s.bump Reg.FWD_NOROST.COUNT
  else
    let n := if s.cmd.seqCyc = s.cyc then s.cmd.seqCnt else 0
    let s : State := { s with cmd := { s.cmd with seqCyc := s.cyc, seqCnt := n + 1 } }
    let seq := s.cyc % 2 ^ 24 * 256 + n
    let (lanes, s) := s.routeOut .mgmt x.dst x.line
    let go (s : State) (fore : Bool) : State :=
      s.originate (s.wrapped x.type x.dst seq x.ack fore x.packet) (lanes.filter fun m => (endOf m = s.foreEnd) = fore) false
    go (go s false) true

/-- Slots taken (R433): open packets, and those whose completion has not been written or sent yet. -/
def slotsTaken (s : State) : Nat := s.cmd.slots.length + s.cmd.late.length + (s.cmd.outq.filter (·.slot)).length

/-- CMD_STAT.OPEN follows the slots taken. -/
def refreshOpen (s : State) : State := s.put Reg.CMD_STAT.OPEN s.slotsTaken

/-- At most 256 CMD and CPL frames leave in one cycle; the others wait (R446). A stack member has its master send the frame, under the master's
position (R16, log entry 26). -/
def sendOut (s : State) (x : RemoteOut) : State :=
  if s.stackId ≠ 0 then s.stackMsg 0 11 (natBe 1 x.type ++ natBe 2 x.dst ++ natBe 1 (b2n x.ack) ++ x.packet)
  else if s.cmd.seqCyc = s.cyc && 256 ≤ s.cmd.seqCnt || !s.cmd.outq.isEmpty then
    { s with cmd.outq := s.cmd.outq ++ [x] }.refreshOpen
  else s.sendNow x
def sendRemote (s : State) (ty dst : Nat) (ack : Bool) (packet : Bytes) : State := s.sendOut { type := ty, dst := dst, ack := ack, packet := packet }

/-- At a boundary the frames that waited leave, 256 of them. -/
def drainRemote (s : State) : State :=
  let go := s.cmd.outq.take 256
  let s : State := { s with cmd.outq := s.cmd.outq.drop 256 }
  (go.foldl sendNow s).refreshOpen

/-- A notice of the node for every position: a CMD frame without ACKREQ. -/
def sendNotice (s : State) (op : Nat) (params : Bytes) : State :=
  s.sendRemote 0x04 0 false (natBe 2 op ++ natBe 2 0 ++ natBe 2 params.length ++ [0, 0] ++ params)

/-! Completions (R435, R437, R449). -/

/-- Slot `n`. -/
def slot? (s : State) (n : Nat) : Option CmdSlot := (s.cmd.slots.find? (·.1 = n)).map (·.2)
def onSlot (s : State) (n : Nat) (f : CmdSlot → CmdSlot) : State :=
  { s with cmd.slots := s.cmd.slots.map fun x => if x.1 = n then (x.1, f x.2) else x }

/-- A completion entry with its result is written to the host (Table 16.4, R435). -/
def writeCompletion (s : State) (sidx addr tag status op info : Nat) (result : Bytes) : State :=
  let size := s.cmdRing
  let tail := s.get Reg.CMD_CQTAIL.TAIL % size
  let base := s.get Reg.CMD_CQBASEHI.BASEHI * 2 ^ 32 + s.get Reg.CMD_CQBASELO.BASELO * 64
  let s := s.hostPut addr result
  let ctl := (if s.cmd.phase then 2 ^ 31 else 0) + sidx % 2 ^ 12
  let e := natLe 2 tag ++ natLe 2 status ++ natLe 2 op ++ natLe 2 result.length ++ natLe 4 info ++ natLe 4 ctl
  let s := (s.hostPut (base + 16 * tail) e).put Reg.CMD_CQTAIL.TAIL ((tail + 1) % size)
  let s : State := if tail + 1 = size then { s with cmd.phase := !s.cmd.phase } else s
  let n := s.cmd.mods.1 + 1
  if max 1 (s.get Reg.CMD_IMOD.ICPL) ≤ n then { s with cmd.mods := (0, none) }.raise Reg.CMD_IRQ.CPL
  else
    let t := s.get Reg.CMD_IMOD.ITIME
    { s with cmd.mods := (n, if s.cmd.mods.2.isSome then s.cmd.mods.2 else if t = 0 then none else some (s.now + us t)) }

/-- The key write of the packet in slot `n` ends with the packet, running or waiting (R474). -/
def dropKey (s : State) (n : Nat) : State :=
  if s.hkp.running.contains (.key n) || s.hkp.waiting.contains (.key n) then s.endAct (.key n) else s

/-- The packet in slot `n` completes: to the host, as a CPL, or with nothing where ACKREQ was 0; the slot is free once that has been written or sent
(R433). In D3hot a host completion waits for D0 (R409). -/
def complete (s : State) (n status info : Nat) (result : Bytes) : State :=
  match s.slot? n with
  | none => s
  | some c =>
    let s : State := { s with cmd.slots := s.cmd.slots.filter (·.1 ≠ n) }.dropKey n
    let s := s.refreshOpen
    let s := if status = 1 then s.bump Reg.CMD_ABORTED.COUNT else s
    match c.src with
    | .host sidx addr _ =>
      if s.inD3 then { s with cmd.late := s.cmd.late ++ [(c, status, info, result)] }.refreshOpen
      else s.writeCompletion sidx addr (pkTag c.packet) status (pkOp c.packet) info result
    | .remote pos ack =>
      if ack then s.sendOut { type := 0x05, dst := pos, ack := false, packet := cplPacket c.packet status info result, slot := true } else s
    | .stack k => s.stackMsg 0 9 (natBe 1 k ++ cplPacket c.packet status info result)

/-- Every waiting packet of an opcode that has started on this chip completes. -/
def completeOp (s : State) (op status info : Nat) : State :=
  (s.cmd.slots.filter fun x => pkOp x.2.packet = op && x.2.started && !x.2.waits && x.2.member = 0).foldl (fun s x => s.complete x.1 status info []) s

/-- A packet takes the lowest free slot (R433). -/
def freeSlot (s : State) : Option Nat := (List.range 64).find? fun n => (s.slot? n).isNone
def accept (s : State) (n : Nat) (src : CmdSrc) (packet : Bytes) : State :=
  let c : CmdSlot := { src := src, packet := packet, at_ := s.now }
  let s : State := { s with cmd.slots := s.cmd.slots ++ [(n, c)] }
  s.refreshOpen

/-- A packet that no row of Table 16.6 executes completes at once: an unknown opcode, or a notice, KEYSET, KEYDEL or RSEND from a source
that the From column does not name (R438). -/
def screen (s : State) (n : Nat) : State :=
  match s.slot? n with
  | none => s
  | some c =>
    let op := pkOp c.packet
    if !opKnown op then s.complete n 2 0 []
    else match c.src with
      | .remote _ _ => if (opGroup op).isNone then s.complete n 5 0 [] else s
      | _ => if isNotice op then s.complete n 5 0 [] else s

/-! Receiving (R448 to R450). -/

/-- The cause of a refusal under Table 16.8, by step; 0: none. -/
def remoteCause (s : State) (f : Bytes) : Nat :=
  let pl := payload f
  let cpl := hType f = 0x05
  let k := byteAt pl 1
  let len := if cpl then 36 + fieldAt pl 22 2 else 32 + fieldAt pl 20 2
  let d := sdiff32 s.cyc (wrCyc pl)
  if byteAt pl 0 ≠ 1 || hLen f ≠ len || hSeq f / 256 ≠ wrCyc pl % 2 ^ 24 then 1
  else if (s.rosterOf (hGen f)).isNone || (hGen f ≠ s.gen && !s.sameNodes f) then 2
  else if d < -1 || (s.freshCycles : Int) < d then 3
  else if k = 0xFF then (if bit s.auth 8 then 0 else 4)
  else match (if k < 4 && bit s.auth (4 + k) then s.trainKey k else none) with
    | none => 4
    | some key => if (cmac key (f.take 16 ++ pl.take (pl.length - 8))).take 8 = pl.drop (pl.length - 8) then 0 else 4

/-- Step 5: SEQ is new in the window of its ORIGIN; the table then holds it (R239, R448). -/
def replayNew (s : State) (origin seq : Nat) : Option State :=
  let t := s.cmd.replay
  match t.find? (·.1 = origin) with
  | none =>
    let full := 2048 ≤ t.length
    let oldest := t.foldl (fun (acc : Option (Nat × Nat)) e => match acc with
      | none => some (e.1, e.2.1)
      | some a => if sdiff32 e.2.1 a.2 < 0 then some (e.1, e.2.1) else some a) none
    let t := if full then t.filter fun e => some e.1 ≠ oldest.map (·.1) else t
    some { s with cmd.replay := t ++ [(origin, (seq, 1))] }
  | some (_, h, b) =>
    let d := sdiff32 seq h
    let put (h : Nat) (b : BitVec 64) : State := { s with cmd.replay := t.map fun e => if e.1 = origin then (origin, (h, b)) else e }
    if 0 < d then some (put seq ((if d < 64 then b <<< d.toNat else 0) ||| 1))
    else if d < -63 || b.getLsbD (-d).toNat then none
    else some (put h (b ||| BitVec.ofNat 64 (2 ^ (-d).toNat)))

/-- A remote frame is refused: counted by cause, 0x0D10 once per source position and second (R448). -/
def refuseRemote (s : State) (cause src : Nat) : State :=
  let c := match cause with
    | 1 => Reg.CMD_REJFMT.COUNT | 2 => Reg.CMD_REJGEN.COUNT | 3 => Reg.CMD_REJSTALE.COUNT | 4 => Reg.CMD_REJMAC.COUNT
    | _ => Reg.CMD_REJREPLAY.COUNT
  ((s.bump c).raise Reg.CMD_IRQ.RREJ).recordSec 0x0D10 src (natBe 1 cause ++ natBe 2 src)

/-- Table 16.8 on a CMD or CPL frame. -/
def remoteChecks (s : State) (f : Bytes) : Bool × State :=
  let s := s.readVoted 0xD000C
  let c := s.remoteCause f
  if c ≠ 0 then (false, s.refuseRemote c (hSrc f))
  else match s.replayNew (wrOrigin (payload f)) (hSeq f) with
    | some s => (true, s)
    | none => (false, s.refuseRemote 5 (hSrc f))

/-- A time notice is rejected (R200). -/
def rejectTimeNot (s : State) : State := ((s.bump Reg.TIME_NOTREJ.COUNT).raise Reg.TIME_IRQ.NOTREJ).recordGen 0x060A 0

/-- Host packets that are being fetched; each has its slot set aside (R435). -/
def cmdFetches (s : State) : Nat :=
  (s.allFetches.filter fun x => match x with | .subEntry _ => true | .packet _ _ _ => true | _ => false).length

/-- A CMD frame for this node that ended good: passed as a notice, accepted, or refused (R449). -/
def takeCmd (s : State) (f : Bytes) : State :=
  let (ok, s) := s.remoteChecks f
  if !ok then (if pkOp (wrPacket (payload f)) = 0x51 then s.rejectTimeNot else s)
  else
    let p := wrPacket (payload f)
    let ack := hAckReq f
    if isNotice (pkOp p) then { s with cmd.notices := s.cmd.notices ++ [f] }
    else match (if s.cmd.shut || 64 ≤ s.slotsTaken + s.cmdFetches then none else s.freeSlot) with
      | none =>
        let s := s.bump Reg.CMD_RBUSY.COUNT
        if ack then s.sendRemote 0x05 (hSrc f) false (cplPacket p 8 0 []) else s
      | some n => ((s.bump Reg.CMD_RACCEPT.COUNT).accept n (.remote (hSrc f) ack) p).screen n

/-- The open RSEND that a CPL from `src` with `tag` answers (R450). -/
def openRsend (s : State) (src tag : Nat) : Option Nat :=
  (s.cmd.slots.find? fun x =>
    let a := pkParams x.2.packet
    x.2.rto.isSome && pkOp x.2.packet = 0x70 && fieldAt a 0 2 = src && fieldAt a 6 2 = tag).map (·.1)

/-- The stack member at which an RSEND is open that such a CPL answers (R434, log entry 26). -/
def memberRsend (s : State) (src tag : Nat) : Option Nat :=
  (s.cmd.slots.find? fun x =>
    let a := pkParams x.2.packet
    x.2.member ≠ 0 && pkOp x.2.packet = 0x70 && fieldAt a 0 2 = src && fieldAt a 6 2 = tag).map (·.2.member)

/-- A CPL frame for this node (R450). -/
def takeCpl (s : State) (f : Bytes) : State :=
  let (ok, s) := s.remoteChecks f
  if !ok then s
  else
    let p := wrPacket (payload f)
    match s.openRsend (hSrc f) (fieldAt p 2 2), s.memberRsend (hSrc f) (fieldAt p 2 2) with
    | some n, _ => s.complete n 0 0 p
    | none, some m => s.stackMsg m 12 (natBe 2 (hSrc f) ++ p)
    | none, none => s.bump Reg.CMD_CPLLATE.COUNT

/-- A frame of the type, consumed by this node: a roster is in force, FWD_CTRL.EN is 1, and DST is 0 or the own position. -/
def remoteFrameOk (s : State) (n : Nat) (f : Bytes) (ty : Nat) : Bool :=
  s.laneUp n && headerCheck f = .ok && hCls f = .mgmt && hType f = ty && s.flag Reg.FWD_CTRL.EN && s.inau.force.isSome
    && !(s.vend (endOf n)).isolated && s.breakEnd ≠ some (endOf n)
    && (hDst f = 0 || hDst f = s.pos)

/-- The oldest notice, if it has the opcode: its frame, and the state without it. -/
def popNotice (s : State) (op : Nat) : Option (Bytes × State) :=
  match s.cmd.notices with
  | [] => none
  | f :: r => if pkOp (wrPacket (payload f)) = op then some (f, { s with cmd.notices := r }) else none

end State

/-- CMD_FRAME_RECEIVED (R448, R449). -/
def execCmdFrameReceived (lane : Lane) (frame : Bytes) (s : State) : Host.Outcome State Fault Refusal :=
  live s fun s =>
  done (if s.remoteFrameOk lane frame 0x04 then s.takeCmd frame else s)

/-- CPL_FRAME_RECEIVED (R448, R450). -/
def execCplFrameReceived (lane : Lane) (frame : Bytes) (s : State) : Host.Outcome State Fault Refusal :=
  live s fun s =>
  done (if s.remoteFrameOk lane frame 0x05 then s.takeCpl frame else s)

end Sys2Proof.Machine
end

