-- ==== Sys2Proof/Machine/Program.lean ====
section
/-! DEFINITION. Program change (R316 to R324): the load window, validation, store, reload, start bank, cold and online swaps, transfer of
state, the load at power-on and Dawn. -/

namespace Sys2Proof.Machine

/-- Row of Table 11.7 of a stateful type. -/
def typeFamily (t : Nat) : Nat :=
  if t = 0x10 ∨ t = 0x11 then 1 else if t = 0x12 ∨ t = 0x13 then 2 else if 0x20 ≤ t ∧ t ≤ 0x22 then 3
  else if 0x28 ≤ t ∧ t ≤ 0x2A then 4 else 0

/-- The types transfer state: one row of Table 11.7, and in the Timer row one type. -/
def transfers (a b : Nat) : Bool := typeFamily a = typeFamily b && (typeFamily a ≠ 3 || a = b)

/-- Edge-sensitive inputs of a type with the flag bit that remembers each (R324). -/
def edgeInputs (t : Nat) : List (Nat × Nat) := [0, 1].filterMap fun k => (edgeBit t k).map fun b => (k, b)

/-- The source of instance `n` (R323, R324). -/
def sourceOf (old : List Inst) (xs : List (Nat × Nat × Nat)) (n : Inst) : Option Inst :=
  let byKey (k : Nat) : Option Inst := if k = 0 then none else old.find? fun o => o.stateful && o.key = k
  match xs.find? (·.1 = n.key) with
  | some x => if x.2.2 = 1 then byKey x.2.1 else none
  | none => byKey n.key

/-- What an instance takes: its slot, the inputs to set at the first evaluation, and 0 kept, 1 initialised, 2 type mismatch. -/
structure Taken where
  slot : Bytes
  sync : List Nat
  how : Nat
deriving DecidableEq, Repr

/-- The state of instance `n` at an online swap; `rd` reads a slot of the old bank (Table 11.7). -/
def takeState (rd : Nat → Nat → Bytes) (n : Inst) (src : Option Inst) : Taken :=
  match src with
  | none => ⟨List.replicate (typeState n.type) 0, [], 1⟩
  | some o =>
    if !transfers n.type o.type then ⟨List.replicate (typeState n.type) 0, [], 2⟩
    else
      let b := rd o.slot (typeState o.type)
      let v : Int := if typeState o.type = 4 then 0 else signed 32 (beNat (b.take 4))
      let f := if typeState o.type = 4 then byteAt b 0 % 2 else byteAt b 4
      let mine := edgeInputs n.type
      let has (k : Nat) : Bool := (edgeInputs o.type).any (·.2 = k)
      let fl := if typeFamily n.type = 4 then (mine.map fun e => if has e.2 && bit f e.2 then 2 ^ e.2 else 0).sum else f
      let word (x : Inst) (k : Nat) : Option Nat := ((edgeInputs x.type).find? (·.2 = k)).map fun e => x.ops.getD e.1 0
      let sync := (mine.filter fun e => word n e.2 ≠ word o e.2).map (·.1)
      ⟨slotBytes n.type v fl, sync, 0⟩

/-- Forced bits that an operand addresses. -/
def opBits (w : Nat) : List (Nat × Nat) :=
  let a := opLoc w
  match opDt w with
  | 0 => [(a, 2 ^ opBit w)]
  | 1 => [(a, 255), (a + 1, 255)]
  | _ => (List.range 4).map fun i => (a + i, 255)

namespace State

/-- PRG_STAT and the image registers follow the banks. -/
def refreshPrg (s : State) : State :=
  let a := s.bank s.actBank
  let i := s.bank s.inaBank
  let ha := a.exec.bytes 0 64
  let hi := i.exec.bytes 0 64
  let s := ((s.putB Reg.PRG_STAT.AVALID a.valid).putB Reg.PRG_STAT.IVALID i.valid).putB Reg.PRG_STAT.ISTORED i.stored
  let s := (s.put Reg.PRG_AID.VALUE (if a.valid then imProg ha else 0)).put Reg.PRG_AREV.VALUE (if a.valid then imRev ha else 0)
  let s := (s.put Reg.PRG_IID.VALUE (if i.valid then imProg hi else 0)).put Reg.PRG_IREV.VALUE (if i.valid then imRev hi else 0)
  s.put Reg.PRG_STAT.STARTB s.prg.start

/-- The result of an operation that ends where it is given. -/
def opResult (s : State) (r : Nat) : State := (s.put Reg.PRG_STAT.RES r).raise Reg.PRG_IRQ.OPDONE

/-- The operation `op` is refused with result `r`; a SWAP with PRG_IRQ.SWREF and 0x0915 (R320, R331). -/
def refuseOp (s : State) (op r : Nat) : State :=
  let s := s.opResult r
  if op = 3 then (s.raise Reg.PRG_IRQ.SWREF).record 0x0915 (natBe 1 r) else s

/-- The operation in progress ends; PRGOP commands that wait complete (Table 16.6). -/
def endOp (s : State) (r : Nat) : State :=
  ((s.put Reg.PRG_STAT.OPRUN 0).opResult r).completeOp 0x21 (if r = 0 then 0 else 10) r

/-- The inactive image, where it is validated. -/
def inaImage? (s : State) : Option Bytes :=
  let b := s.bank s.inaBank
  if b.valid then some (b.exec.bytes 0 (imLen (b.exec.bytes 0 64))) else none

/-! The load window and the operations on a bank. -/

/-- The bank takes its MRAM bank's contents, with what is lost in uncorrectable lines of 16 bytes (R316, R319, R473). -/
def fromMram (b : BankS) : BankS :=
  { b with exec := b.mram, lost := b.bad.flatMap fun l => (List.range 16).map (16 * l + ·), valid := false, stored := true }

/-- RESULT and INDEX of R317 for a bank: a load from an MRAM bank with an uncorrectable line fails (R473), and so does an image that still holds
bytes of one, as an ICRC that is wrong (log entry 18). -/
def validateBank (b : BankS) : Nat × Option Nat :=
  if (b.stored && !b.lost.isEmpty) || b.lost.any (· < max 64 (imLen (b.exec.bytes 0 64))) then (2, none) else validateImage b.exec

/-- A write to the load window (R316). -/
def loadWrite (s : State) (off : Nat) (data : Bytes) : State :=
  let s : State := { s with brdg.pre := s.brdg.pre.filter (·.win ≠ 2) }
  if s.get Reg.CYCL_STAT.KEY = 1 || s.flag Reg.PRG_STAT.BUSY || s.flag Reg.PRG_STAT.SWPEND then s.put Reg.CYCL_STAT.WIGN 1
  else
    (s.onBank s.inaBank fun b =>
      { b with exec := b.exec.writeAll off (data.take (0x80000 - off)), valid := false, stored := false
               lost := b.lost.filter fun a => a < off || off + data.length ≤ a }).refreshPrg

/-- Validation of the inactive bank ends (R317). -/
def validated (s : State) : State :=
  if s.get Reg.PRG_STAT.OPRUN ≠ 1 then s
  else
    let r := validateBank (s.bank s.inaBank)
    let s := (s.put Reg.PRG_VSTAT.RESULT r.1).putB Reg.PRG_VSTAT.IDXV r.2.isSome
    let s := s.put Reg.PRG_VSTAT.INDEX (r.2.getD 0)
    if r.1 = 0 then
      let s := (s.onBank s.inaBank fun b => { b with valid := true }).refreshPrg
      (s.record 0x0910 (natBe 1 s.inaBank)).endOp 0
    else
      let s := (s.onBank s.inaBank fun b => { b with valid := false }).refreshPrg
      (s.record 0x0911 (natBe 1 r.1 ++ natBe 3 (r.2.getD 0))).endOp 11

/-- The store of the inactive bank ends: its image stands in the MRAM bank, or the copy has failed and its header is not there (R318). -/
def storeDone (s : State) (ok : Bool) : State :=
  if s.get Reg.PRG_STAT.OPRUN ≠ 2 || !s.hkp.running.contains .store then s
  else
    let s := s.endAct .store
    let n := s.inaBank
    if ok then
      let s := (s.onBank n fun b => { b with mram := b.exec, stored := true, bad := [] }).refreshPrg
      { (s.record 0x0912 (natBe 1 n)).endOp 0 with prg.storeBad := 0 }
    else
      let s := (s.onBank n fun b => { b with mram := b.mram.writeAll 0 (List.replicate 64 0), stored := false, bad := b.bad.filter (4 ≤ ·) }).refreshPrg
      let s : State := { s with prg.storeBad := s.prg.storeBad + 1 }
      -- twice in a row: a background activity is suspended (R475)
      let s := (s.record 0x091C).endOp 9
      if s.prg.storeBad = 2 then (s.secondFault 0x091C 0x091C).suspendAct else s

/-! Swaps. -/

/-- Enabled forces that no operand of the image addresses (R329). -/
def orphans (s : State) (b : Bytes) : Nat :=
  let ws := ((insts b).flatMap (·.ops)).filter fun w => opKind w = 0
  (s.prg.force.filter fun e => fcEn e.2 && !(ws.any fun w => (opBits w).any fun x =>
    (fcBits e.2).any fun f => f.1 = x.1 && (f.2.1 &&& x.2) ≠ 0)).length

/-- The force table is cleared at a swap with FCLR, and at once in effect (R329). -/
def swapForces (s : State) : State := if s.prg.swapFclr then s.clearForces.applyForceTable else s

/-- The banks exchange roles; orphans counted; 0x0914 (R320, R322). -/
def exchange (s : State) (online : Bool) (kept init mism : Nat) : State :=
  let s := (s.put Reg.PRG_STAT.ACTB s.inaBank).refreshPrg
  let s : State := { s with prg := { s.prg with swapReq := none, swapFclr := false, postponed := 0 } }
  let s := s.put Reg.PRG_XFER2.ORPH (min 0xFFFF (match s.image? with | some b => s.orphans b | none => 0))
  let c := if s.cycRun then s.cyc else 0
  let s : State := { (s.put Reg.PRG_STAT.SWPEND 0).put Reg.PRG_SWCYC.CYC c with prg.swapCyc := c }
  let p := natBe 1 s.actBank ++ natBe 1 (if online then 2 else 1) ++ natBe 2 kept ++ natBe 2 init ++ natBe 2 mism
  (s.record 0x0914 p).raise Reg.PRG_IRQ.SWAP

/-- A cold swap (R320). -/
def coldSwap (s : State) : State := s.swapForces.exchange false 0 0 0

/-- The transfer of state and the exchange of banks of an online swap (R323, R324). -/
def onlineSwap (s : State) : State :=
  match s.image?, s.inaImage? with
  | some bo, some bn =>
    let s := s.swapForces
    let old := insts bo
    let new := insts bn
    let xs := xfers bn
    let oldExec := (s.bank s.actBank).exec
    let rd (o n : Nat) : Bytes := oldExec.readN o n
    let ts := ((List.range new.length).zip new).filterMap fun (x : Nat × Inst) =>
      if x.2.stateful then some (x, takeState rd x.2 (sourceOf old xs x.2)) else none
    let count (k : Nat) : Nat := min 0xFFFF ((ts.filter fun t => t.2.how = k).length)
    let s := s.onBank s.inaBank fun b => { b with exec := ts.foldl (fun m t => m.writeAll t.1.2.slot t.2.slot) b.exec }
    let s : State := { s with prg.resync := ts.flatMap fun t => t.2.sync.map fun k => (t.1.1, k) }
    let s := ((s.put Reg.PRG_XFER.KEPT (count 0)).put Reg.PRG_XFER.INIT (count 1)).put Reg.PRG_XFER2.MISM (count 2)
    let s := if count 2 ≠ 0 then s.record 0x0916 else s
    let s := (s.exchange true (count 0) (count 1) (count 2)).showBudget bn
    (s.markDirty 3 0 (imState bn)).endOp 0
  | _, _ => s

/-- A swap is refused or cancelled (R321, R322); PRG_SWCYC shows the last swap again. -/
def failSwap (s : State) (r : Nat) : State :=
  let s := s.put Reg.PRG_SWCYC.CYC s.prg.swapCyc
  let s : State := { s.put Reg.PRG_STAT.BUSY 0 with prg := { s.prg with swapReq := none, swapFclr := false, postponed := 0 } }
  (((s.put Reg.PRG_STAT.SWPEND 0).record 0x0915 (natBe 1 r)).raise Reg.PRG_IRQ.SWREF).endOp r

/-- A swap that has been asked for ends with a result, if there is one. -/
def cancelSwap (s : State) (r : Nat) : State := if s.prg.swapReq.isSome then s.failSwap r else s

/-- Longest period among the enabled tasks. -/
def pMax (s : State) : Nat := (s.tasksOn.map s.taskPeriod).foldl max 1

/-- An operand lies outside the ranges of its task (R321): input and output area only. -/
def operandOut (s : State) (i : Inst) : Bool :=
  i.ops.any fun w =>
    let a := opLoc w
    let n := match opDt w with | 0 => 1 | 1 => 2 | _ => 4
    opKind w = 0 && ((0x140 ≤ a && a < 0x10000 && !inside a n (s.taskIn i.task).1 (s.taskIn i.task).2)
      || (0x10000 ≤ a && a < 0x20000 && !inside a n (s.taskOut i.task).1 (s.taskOut i.task).2))

/-- The check of an online swap (R321): its result. -/
def swapCause (s : State) : Nat :=
  match s.image?, s.inaImage? with
  | some bo, some bn =>
    let base := imBase bn
    let is := insts bn
    if base = 0 || (base ≠ 0xFFFFFFFF && base ≠ imRev bo) then 7
    else if ((List.range 4).any fun n => bit (imMask bn) n && !s.taskOn n)
        || (s.tasksOn.any fun n => imPeriod bn n ≠ 0xFF && 2 ^ min 6 (imPeriod bn n) ≠ s.taskPeriod n)
        || is.any s.operandOut then 6
    else if !s.budgetOk bn (124000 * (is.filter (·.stateful)).length) then 5
    else 0
  | _, _ => 2

/-- The first boundary after this one with c mod p_max = 0. -/
def nextPoint (s : State) : Nat := (s.cyc / s.pMax + 1) * s.pMax % 2 ^ 32

/-- An online swap at a cycle boundary (R321, R322): its check, or its swap point; `reph`: the boundary is t_b of a re-phase. -/
def swapBoundary (s : State) (reph : Bool) : State :=
  match s.prg.swapReq with
  | none => s
  | some false =>
    -- an online swap has been accepted with BUSY, which ends with its check (Table 11.8)
    let r := s.swapCause
    let s := s.put Reg.PRG_STAT.BUSY 0
    if r ≠ 0 then s.failSwap r
    else { (s.put Reg.PRG_STAT.SWPEND 1).put Reg.PRG_SWCYC.CYC s.nextPoint with prg.swapReq := some true }
  | some true =>
    if s.cyc % s.pMax ≠ 0 then s.put Reg.PRG_SWCYC.CYC s.nextPoint
    else if reph || s.eng.tasks.toList.any (·.run) then
      let s : State := { s with prg.postponed := s.prg.postponed + 1 }
      if 4 ≤ s.prg.postponed then s.failSwap 10 else s.put Reg.PRG_SWCYC.CYC s.nextPoint
    else s.onlineSwap

/-! PRG_CMD. -/

/-- A write of PRG_CMD takes effect. -/
def prgCmd (s : State) (v : Nat) : State :=
  let s := ((s.put Reg.PRG_CMD.OP (Reg.PRG_CMD.OP.of v)).put Reg.PRG_CMD.FCLR (Reg.PRG_CMD.FCLR.of v)).put Reg.PRG_CMD.BANK (Reg.PRG_CMD.BANK.of v)
  let op := s.get Reg.PRG_CMD.OP
  let key := s.get Reg.CYCL_STAT.KEY = 1
  if op = 6 then (if s.prg.swapReq.isSome then s.failSwap 8 else s.opResult 0)
  else if op = 0 || 6 < op then s
  else if s.get Reg.PRG_STAT.OPRUN ≠ 0 then s.refuseOp op 3
  else if op = 1 then s.put Reg.PRG_STAT.OPRUN 1
  else if key then s.refuseOp op 1
  else if op = 2 then
    if !s.flag Reg.PRG_STAT.IVALID then s.opResult 2
    else if s.inaBank = s.prg.start then s.opResult 4
    else
      -- the command that starts a suspended activity ends its suspension (R475)
      let s : State := if 2 ≤ s.prg.storeBad then
          { s.putB Reg.HKP_STAT.SUSP (s.get Reg.HKP_LCALST.SUSP ≠ 0) with prg.storeBad := 0 } else s
      (s.put Reg.PRG_STAT.OPRUN 2).requestAct .store
  else if op = 3 then
    if !s.flag Reg.PRG_STAT.IVALID then s.refuseOp op 2
    else
      let s : State := { s with prg.swapFclr := s.flag Reg.PRG_CMD.FCLR }
      if s.engineRuns then { (s.put Reg.PRG_STAT.OPRUN 3).put Reg.PRG_STAT.BUSY 1 with prg.swapReq := some false } else s.coldSwap.opResult 0
  else if op = 4 then
    let n := s.get Reg.PRG_CMD.BANK
    let b := s.bank n
    if !b.valid || !b.stored then s.opResult 2
    else (({ s with prg.start := n } : State).refreshPrg.record 0x0913 (natBe 1 n)).opResult 0
  else
    ((s.onBank s.inaBank fromMram).refreshPrg).opResult 0

/-- A write of PRG_CMD: ignored with WIGN while BUSY is 1 (R4). -/
def writePrgCmd (s : State) (v : Nat) : State := s.posted 0x80144 (·.prgCmd v)

/-- The program store at power-on reset and at Dawn (R319); the force table is clear (R329). -/
def loadPrograms (s : State) : State :=
  let load (b : BankS) : BankS := let b := fromMram b; { b with valid := (validateBank b).1 = 0 }
  let s : State := { s with prg := { s.prg with a := load s.prg.a, b := load s.prg.b, swapReq := none, swapFclr := false, postponed := 0,
                                                resync := [], force := [], forceOn := [] } }
  let st := s.prg.start
  let alt := !(s.bank st).valid && (s.bank (1 - st)).valid
  let s := (s.put Reg.PRG_STAT.ACTB (if alt then 1 - st else st)).refreshPrg.refreshNact
  if alt then (s.record 0x091B).raise Reg.PRG_IRQ.STARTALT else s

end State

/-- LOAD_WINDOW_WRITE (R316). -/
def execLoadWindowWrite (offset : Fin 524288) (data : Bytes) (s : State) : Host.Outcome State Fault Refusal :=
  liveActive s fun s =>
  done (s.loadWrite offset data)

/-- VALIDATE (R317). -/
def execValidate (value : Word) (s : State) : Host.Outcome State Fault Refusal := live s fun s => done (s.writePrgCmd value.toNat)

/-- VALIDATE_COMPLETE (R317). -/
def execValidateComplete (s : State) : Host.Outcome State Fault Refusal := live s fun s => done s.validated

/-- STORE (R318). -/
def execStore (value : Word) (s : State) : Host.Outcome State Fault Refusal := live s fun s => done (s.writePrgCmd value.toNat)

/-- STORE_COMPLETE (R318). -/
def execStoreComplete (ok : Bool) (s : State) : Host.Outcome State Fault Refusal := live s fun s => done (s.storeDone ok)

/-- SWAP (R320, R321). -/
def execSwap (value : Word) (s : State) : Host.Outcome State Fault Refusal := live s fun s => done (s.writePrgCmd value.toNat)

/-- SETSTART (R319). -/
def execSetstart (value : Word) (s : State) : Host.Outcome State Fault Refusal := live s fun s => done (s.writePrgCmd value.toNat)

/-- RELOAD (R316). -/
def execReload (value : Word) (s : State) : Host.Outcome State Fault Refusal := live s fun s => done (s.writePrgCmd value.toNat)

/-- CANCEL (R322). -/
def execCancel (value : Word) (s : State) : Host.Outcome State Fault Refusal := live s fun s => done (s.writePrgCmd value.toNat)

end Sys2Proof.Machine
end

