-- ==== Sys2Proof/Machine/Modes.lean ====
section
/-! DEFINITION. Switching the schedule mode: requests at the leader (R165), announcements (R166), the restore after a joining Noon (R167). -/

namespace Sys2Proof.Machine

namespace State

/-- The descriptor word of a mode as SCHD_MODEDESC holds it. -/
def modeDesc (s : State) (m : Nat) : Nat := s.wordAt (Reg.SCHD_MODEDESC.WRULE.ix m).addr

/-- A mode is pending from an announcement of this cycle on (R165, R166). -/
def setPendMode (s : State) (m : Nat) : State :=
  { (s.put Reg.SCHD_STAT.PENDV 1).put Reg.SCHD_STAT.PENDMODE m with sched.annCyc := s.cyc }

/-- The announcement of mode `m` (R165, step 1); it is pending at the sender at once. -/
def announceMode (s : State) (m : Nat) : State :=
  let p := natBe 1 m ++ [0] ++ natBe 2 s.gen ++ natBe 4 (s.modeDesc m) ++ natBe 4 s.cyc ++ natBe 4 0
  (s.sendNotice 0x50 p).setPendMode m

/-- The request ends as MRSTAT shows it: 2 DONE, or 3 FAILED with 0x030B (R165); MODEREQ commands that wait complete (Table 16.6). -/
def endModeReq (s : State) (code : Nat) : State :=
  let s : State := { s with sched := { s.sched with reqAnn := 0, reqRounds := 0 } }
  let s := s.put Reg.SCHD_MODEREQ.MRSTAT code
  if code = 2 then s.completeOp 0x44 0 2
  else ((s.raise Reg.SCHD_IRQ.MODEREF).record 0x030B).completeOp 0x44 10 3

/-- A write of SCHD_MODEREQ (R165). A GO while a request is in progress changes nothing but MODE. -/
def writeModeReq (s : State) (v : Nat) : State :=
  let s := s.storeWord Reg.SCHD_MODEREQ.MODE.addr v
  if !bit v 31 || s.get Reg.SCHD_MODEREQ.MRSTAT = 1 then s
  else if !s.isLeader then
    ((s.put Reg.SCHD_MODEREQ.MRSTAT 3).raise Reg.SCHD_IRQ.MODEREF).completeOp 0x44 10 3
  else
    let s := s.put Reg.SCHD_MODEREQ.MRSTAT 1
    let s : State := { s with sched := { s.sched with reqMode := s.get Reg.SCHD_MODEREQ.MODE, reqRounds := 0, reqAnn := 1 } }
    s.announceMode s.sched.reqMode

/-- The round of a request has ended (R165, step 3). -/
def modeRoundOver (s : State) : Bool :=
  (!s.roundOpen && s.inau.settleAt.isNone) || !s.flag Reg.SCHD_STAT.PENDV

/-- The restore of W's mode at a cycle boundary (R167): two announcements, then the round. -/
def restoreBoundary (s : State) : State :=
  if s.sched.resAnn = 4 then { s with sched.resAnn := 1 }.announceMode s.sched.resMode
  else if s.sched.resAnn = 1 then { s with sched.resAnn := 2 }.announceMode s.sched.resMode
  else { s with sched.resAnn := 0 }.reinau false

/-- A request in progress at a cycle boundary (R165). A restore goes first: a request in progress waits for it (R167, log entry 40). -/
def modeBoundary (s : State) : State :=
  if s.sched.reqAnn ≠ 0 && !s.isLeader then s.endModeReq 3
  else if s.sched.resAnn ≠ 0 then s.restoreBoundary
  else if s.sched.reqAnn = 0 then s
  else if s.sched.reqAnn = 1 then { s with sched.reqAnn := 2 }.announceMode s.sched.reqMode
  else if s.sched.reqAnn = 2 then
    { s with sched := { s.sched with reqAnn := 3, reqRounds := s.sched.reqRounds + 1 } }.reinau false
  else if !s.modeRoundOver then s
  else if s.modeNow = s.sched.reqMode then s.endModeReq 2
  else if 3 ≤ s.sched.reqRounds then s.endModeReq 3
  else { s with sched.reqAnn := 1 }.announceMode s.sched.reqMode

/-- A mode announcement that has passed Table 16.8 (R166). -/
def takeModeAnn (s : State) (f : Bytes) : State :=
  let p := pkParams (wrPacket (payload f))
  let m := byteAt p 0
  let fromLeader := s.roster.any fun r => r.leader = hSrc f
  let fromAnchor := s.sched.joinNoon.any fun (j : Nat × Nat) =>
    0 ≤ sdiff32 s.cyc j.1 && sdiff32 s.cyc j.1 < 8 && ((s.roster.bind fun r => r.atPos (hSrc f)).any fun e => e.uid = j.2)
  if m ≤ 7 && (fromLeader || fromAnchor) && fieldAt p 2 2 = s.gen && fieldAt p 4 4 = s.modeDesc m then s.setPendMode m
  else (s.raise Reg.SCHD_IRQ.MODEREF).record 0x0307

end State

/-- SCHD_MODEREQ_GO (R165). -/
def execSchdModereqGo (value : Word) (s : State) : Host.Outcome State Fault Refusal := live s fun s => done (s.writeModeReq value.toNat)

/-- MODEANN (R166): the oldest notice, if it is a mode announcement. -/
def execModeann (s : State) : Host.Outcome State Fault Refusal :=
  live s fun s =>
  done (match s.popNotice 0x50 with
    | some (f, s) => s.takeModeAnn f
    | none => s)

/-- PENDING_MODE_LAPSE (R166): 8 basic cycles after the last announcement accepted. -/
def execPendingModeLapse (s : State) : Host.Outcome State Fault Refusal :=
  live s fun s =>
  done (if s.flag Reg.SCHD_STAT.PENDV && 8 ≤ sdiff32 s.cyc s.sched.annCyc then
      (s.put Reg.SCHD_STAT.PENDV 0).put Reg.SCHD_STAT.PENDMODE 0 else s)

end Sys2Proof.Machine
end

