-- ==== Sys2Proof/Machine/TrainTime.lean ====
section
/-! DEFINITION. Train time: the boundary map and its changes (R192 to R198), pulse outputs (R208 to R210), the time notice (R199 to R201),
steering to a reference (R202 to R207). -/

namespace Sys2Proof.Machine

/-- 100,000 ppb in units of 2^-32, which is 429,496.7: the spec gives no rounding, the model truncates toward zero (log entry 38, R206). -/
def ppb100k : Int := 429496

/-- A signed number of ns held to 32 bits. -/
def sat32 (x : Int) : Nat := unsigned 32 (clampInt (-2147483648) 2147483647 x)

/-- Signed 40-bit difference a − b of two short times (R208). -/
def sdiff40 (a b : Nat) : Int := signed 40 (a + (2 ^ 40 - b % 2 ^ 40))

namespace State

/-! Pulse outputs. -/

def tpo (s : State) (n : Nat) : TpoS := s.time.tpo[n]?.getD {}
def onTpo (s : State) (n : Nat) (f : TpoS → TpoS) : State := { s with time.tpo := s.time.tpo.setIfInBounds n (f (s.tpo n)) }

/-- The ball TPOn goes active or inactive (POL). -/
def tpoPin (s : State) (n : Nat) (active : Bool) : State :=
  s.emit (.pin ("TPO" ++ toString n) (b2n (active != s.flag (Reg.TPO_CTRL.POL.ix n))))

/-- First target of a periodic unit after the short time `now` (R209). -/
def nextTarget (t : TpoS) (now target : Nat) : Nat :=
  let d := sdiff40 now target
  if d < 0 then target else (target + (d.toNat / t.period + 1) * t.period) % 2 ^ 40

/-- A compare unit fires late (R208). -/
def lateUnit (s : State) : State := ((s.bump Reg.TIME_LATE.COUNT).raise Reg.TIME_IRQ.LATE).record 0x0609

/-- The value that the time mailbox selects by SRC `k` is updated (R7). -/
def staleMb (s : State) (k : Nat) : State := if s.get Reg.TIME_MBSEL.SRC = k then s.put Reg.TIME_MBSTAT.VALID 0 else s

/-- The unit fires (R208, R210): a single one disarms, a periodic one goes on to its next target after `now`. -/
def fireTpo (s : State) (n : Nat) (late : Bool) (now : Nat) : State :=
  let t := s.tpo n
  match t.target with
  | none => s
  | some target =>
    let s := if late then (s.put (Reg.TPO_CTRL.LATE.ix n) 1).lateUnit else s
    let start := if late then now else target
    let s := (s.onTpo n fun t => { t with endAt := some ((start + t.width) % 2 ^ 40)
                                          target := if t.periodic then some (nextTarget t now target) else none }).tpoPin n true
    if t.periodic then s else s.put (Reg.TPO_CTRL.ARM.ix n) 0

/-- Compare units at an epoch step from the presented time `p` by `e`, 1/16 ns (R209): a target stepped over fires late, a periodic unit goes
on to its first target after the new time, by whole periods however long the step is. -/
def stepUnits (s : State) (p e : Int) : State :=
  let old := shortNs p
  (List.range 4).foldl (fun s n =>
    match (s.tpo n).target with
    | none => s
    | some g =>
      let t := s.tpo n
      -- ns from the old time to the target and to the new time
      let ahead : Int := ((g + (2 ^ 40 - old)) % 2 ^ 40 : Nat)
      let gone := (p + e) / 16 - p / 16
      let next : Int := if 0 < ahead ∧ ahead ≤ gone then ahead + ((gone - ahead) / (t.period : Int) + 1) * t.period else ahead
      let s := if 0 < ahead ∧ ahead ≤ gone then s.fireTpo n true (shortNs (p + e)) else s
      if t.periodic then s.onTpo n fun t => { t with target := some (((old : Int) + next) % 2 ^ 40).toNat } else s) s

/-- The first instant from `t` on at which presented time is at the short time `target` or past it (R208): it runs at no more than 1 + CATCH ppm
of the time base (R198), so each of the `k` steps stays before the target or reaches it by its last unit. -/
def firstAt (s : State) (target : Nat) : Nat → Nat → Nat
  | 0, t => t
  | k + 1, t =>
    let p := s.presentedAt t
    let d := sdiff40 target (shortNs p)
    if d ≤ 0 then t else s.firstAt target k (t + max 1 ((16 * d - p % 16).toNat * 1000000 / (1000000 + s.catchPpm)))

/-- Time moves on until presented time reaches the short time `target`: a compare unit's command says so (log entry 2). -/
def reachShort (s : State) (target : Nat) : State := s.reach (s.firstAt target 64 s.now)

/-! The map. -/

/-- TIME_STAT.MAP and EPUSED, TIME_SIGMA. -/
def refreshTime (s : State) : State :=
  ((s.putB Reg.TIME_STAT.MAP s.time.map.isSome).putB Reg.TIME_STAT.EPUSED (!s.time.epochOpen)).put Reg.TIME_SIGMA.VALUE
    (unsigned 32 s.sync.sigma)

/-- A jump is refused (R197, R206). -/
def refuseJump (s : State) (e : Int) : State :=
  let s := { (s.put Reg.TIME_STAT.REFUSED 1).bump Reg.TIME_REFUSED.COUNT with time.lastRefused := e }.staleMb 5
  (s.raise Reg.TIME_IRQ.REFUSED).record 0x0602 (timeValue e 0 s.cyc)

/-- The epoch step may be taken by `e` (R197). -/
def mayStep (s : State) (e : Int) : Bool :=
  s.time.epochOpen && s.flag Reg.TIME_CTRL.EPOCHEN && (0 < e || s.flag Reg.TIME_CTRL.EPBACK)

/-- The procedure of R197 for a change of map by `e`, 1/16 ns, at this boundary; the map has been changed. The internal compare units that a
forward epoch step passes fire when the boundary has run (R209, `fireStepped`). -/
def changeMap (s : State) (e : Int) : State :=
  let k := s.kappaAt s.now - e
  let s : State := { s with time := { s.time with kappa := k, kAt := s.now } }
  let s :=
    if e.natAbs ≤ 16 * s.jumpNs then s
    else if s.mayStep e then
      let p := s.presented
      let from_ : Option Int := if 0 < e then (s.mapAt s.now).map fun m => m - e else none
      let s : State := { s with time := { s.time with kappa := k + e, epochOpen := false, lastEp := e, stepFrom := from_ } }
      (((s.record 0x0601).raise Reg.TIME_IRQ.EPOCH).stepUnits p e).staleMb 3
    else s.refuseJump e
  let s := if s.time.kappa ≠ 0 && !s.flag Reg.TIME_STAT.CATCHUP then
      ((s.put Reg.TIME_STAT.CATCHUP 1).raise Reg.TIME_IRQ.CATCH).record 0x0603 else s
  ((s.staleMb 1).staleMb 4).refreshTime

/-- The map names the present boundary (R192): taken under the basic cycle of the cycles that have passed. -/
def rebaseMap (s : State) : State :=
  match s.mapAt s.bnd with
  | some m => { s with time.map := some (s.cyc, m) }
  | none => s

/-- The first map of the session (R102, R195): presented time moves to it. -/
def setMap (s : State) (k : Nat) (tt : Int) : State :=
  ((({ s with time := { s.time with map := some (k, tt), kappa := 0, kAt := s.now } }.put Reg.TIME_STAT.CATCHUP 0).staleMb 1).staleMb 4).refreshTime

/-- Another map is adopted at this boundary, of cycle `k`, and R197 runs with the difference (R196, R201). -/
def adoptMap (s : State) (k : Nat) (tt : Int) : State :=
  match s.mapAt s.now with
  | none => s.setMap k tt
  | some old =>
    let s : State := { s with time.map := some (k, tt) }
    s.changeMap (wrapT ((s.mapAt s.now).getD old - old))

/-- A time session begins (R195). -/
def timeSession (s : State) : State :=
  let t : TimeS := { s.time with
    map := none, kappa := 0, kAt := s.now, pre := 0, preAt := s.now, epochOpen := true, noonSeen := false, sigNext := none, epNext := none,
    sigLate := none, refSeen := false, adopt := none, sigmaF := 0, accepting := false, offsets := [], steerAt := none, notHeld := false,
    stepFrom := none, ppsAt := none, notice := none }
  let s : State := { s with time := t, onceSess := [] }
  (s.put Reg.TIME_STAT.CATCHUP 0).refreshTime

/-! The reference. -/

/-- This node acts as the time reference of the roster in force (TIME_STAT.TREF, R355). -/
def isTref (s : State) : Bool := s.holdsClaim && s.roster.any fun r => s.pos ≠ 0 && r.timeref = s.pos

/-- The time reference acts on its source (R202). -/
def refActs (s : State) : Bool := s.isTref && s.time.noonSeen && s.flag Reg.TIME_CTRL.EN && s.refSrc ≠ 0

/-- REFST, with the events of R205. -/
def setRefst (s : State) (c : Nat) : State :=
  if s.get Reg.TIME_STAT.REFST = c then s
  else
    let s := (s.put Reg.TIME_STAT.REFST c).raise Reg.TIME_IRQ.REF
    if c = 3 then (s.record 0x0605).bump Reg.TIME_REFLOSS.COUNT else if c = 2 then s.record 0x0606 else s

/-- A node that becomes time reference starts with σ_f equal to σ in force and with accepting cleared (R207). REFST is NONE where the node does
not act on a source, else at least ACQUIRE. -/
def refreshRef (s : State) : State :=
  let s : State := if s.isTref && !s.flag Reg.TIME_STAT.TREF then
      { s with time := { s.time with sigmaF := s.sync.sigma, accepting := false, offsets := [], steerAt := none } } else s
  let s := s.putB Reg.TIME_STAT.TREF s.isTref
  if !s.refActs then s.setRefst 0 else if s.get Reg.TIME_STAT.REFST = 0 then s.setRefst 1 else s

/-- NCYC of the next notice: this cycle's while it waits for the end of a steering interval, else the next cycle's (R200). -/
def noticeCyc (s : State) : Nat := if s.time.notHeld then s.cyc else (s.cyc + 1) % 2 ^ 32

/-- σ is announced for 3 cycles after the next notice, if it differs from σ in force and none is announced (R200, R206). -/
def announceSigma (s : State) (x : Int) : State :=
  if x = s.sync.sigma || s.time.sigNext.isSome then s else { s with time.sigNext := some (x, (s.noticeCyc + 3) % 2 ^ 32) }

/-- The TAI flag that the time reference declares (R214). -/
def ownTai (s : State) : Bool :=
  (s.refSrc = 2 && s.time.refTai) || (s.refSrc = 1 && s.flag Reg.TIME_REF.PPSTAI)

/-- QFLAGS and RSRC of the own state (Table 07.1). -/
def ownQ' (s : State) : Nat × Nat :=
  let st := s.get Reg.TIME_STAT.REFST
  (128 * b2n (st = 2) + 64 * b2n (st = 3 || st = 4) + 32 * b2n s.ownTai + 16 * b2n (!s.time.epochOpen),
   if s.flag Reg.TIME_CTRL.EN then s.refSrc else 0)

/-- TIME_STAT.TAI: the timescale in force. -/
def refreshTai (s : State) : State :=
  s.putB Reg.TIME_STAT.TAI (if s.isTref then s.ownTai else s.time.notice.any fun (n : Nat × Nat × Nat) => bit n.1 5)

/-- The parameters of the time notice of this cycle (Table 07.1). -/
def noticeParams (s : State) (m : Int) : Bytes :=
  let q := s.ownQ'
  let t := secNs m
  let sg := s.time.sigNext.getD (s.sync.sigma, s.cyc)
  let ep := s.time.epNext.getD (0, 0)
  natBe 4 s.cyc ++ natBe 6 t.1 ++ natBe 4 t.2 ++ natBe 1 q.2 ++ natBe 1 q.1 ++ natBe 4 (unsigned 32 s.sync.sigma)
  ++ natBe 4 (unsigned 32 sg.1) ++ natBe 4 sg.2 ++ natBe 6 (unsigned 48 (Int.tdiv ep.1 16000000000))
  ++ natBe 4 (unsigned 32 (Int.tdiv (Int.tmod ep.1 16000000000) 16)) ++ natBe 4 ep.2
  ++ natBe 2 (s.get Reg.TIME_UTCOFF.UTCOFF) ++ natBe 4 0

/-- Announced steps and a map to adopt take effect at the boundary of their cycle, an epoch step first (R200, R201); it moves the map of the
notice too, which is of a cycle before it. -/
def applyAnnounced (s : State) : State :=
  let s := match s.time.epNext with
    | some (e, k) => if 0 ≤ sdiff32 s.cyc k then
        let up := fun (m : Nat × Int) => (m.1, m.2 + e)
        { s with time := { s.time with epNext := none, map := s.time.map.map up, adopt := s.time.adopt.map up } }.changeMap e else s
    | none => s
  let s : State := match s.time.sigNext with
    | some (x, k) => if 0 ≤ sdiff32 s.cyc k then { s with sync.sigma := x, time.sigNext := none } else s
    | none => s
  let s : State := match s.time.sigLate with
    | some x => { s with sync.sigma := x, time.sigLate := none }
    | none => s
  match s.time.adopt with
  | some (k, tt) => ({ s with time.adopt := none } : State).adoptMap k tt
  | none => s

/-- A Noon of train time: a change of time reference discards what is announced (R200); `old` is the UID of the one before. -/
def timeNoon (s : State) (old : Option Nat) : State :=
  let new := s.roster.bind fun r => (r.atPos r.timeref).map Entry.uid
  let s : State := { s with time.noonSeen := true }
  if old = new then s
  else { s with time := { s.time with sigNext := none, epNext := none, sigLate := none } }

/-- A time notice of the time reference (R200, R201). -/
def takeTimeNot (s : State) (f : Bytes) : State :=
  if !(s.roster.any fun r => r.timeref = hSrc f && hSrc f ≠ 0) || hGen f ≠ s.gen then s.rejectTimeNot
  else
    let p := pkParams (wrPacket (payload f))
    let n := fieldAt p 0 4
    let m := ofSecNs (fieldAt p 4 6) (fieldAt p 10 4)  -- map time of the boundary of NCYC
    let sg := signed 32 (fieldAt p 16 4)
    let sgn := signed 32 (fieldAt p 20 4)
    let sgc := fieldAt p 24 4
    let e := signed 48 (fieldAt p 28 6) * 16000000000 + signed 32 (fieldAt p 34 4) * 16
    let epc := fieldAt p 38 4
    let s := { s with time.notice := some (byteAt p 15, byteAt p 14, fieldAt p 42 2) }.refreshTai
    -- σ
    let pend := sgc ≠ n
    let past := pend && decide (sdiff32 sgc s.cyc ≤ 0)
    let late (s : State) (x : Int) : State :=
      if x = s.sync.sigma || s.time.sigLate = some x then s
      else { s.bump Reg.TIME_NOTLATE.COUNT with time.sigLate := some x }
    let s := if past then late s sgn else if s.time.sigNext.any (fun (x : Int × Nat) => sdiff32 x.2 s.cyc ≤ 0) then s else late s sg
    let s : State := if pend && !past then { s with time.sigNext := some (sgn, sgc) } else s
    -- epoch step
    let s : State := if epc ≠ 0 && 0 < sdiff32 epc s.cyc then { s with time.epNext := some (e, epc) } else s
    -- map
    let taken := epc ≠ 0 && 0 ≤ sdiff32 s.cyc epc
    match s.time.map with
    | some (k0, m0) =>
      if !taken && wrapT ((m0 + sdiff32 n k0 * s.tLen) / 16 * 16 - m) ≠ 0 then { s with time.adopt := some (n, m) } else s
    | none => s

/-- 2^l s in ns. -/
def log2Ns (_s : State) (l : Int) : Nat := if l < 0 then 1000000000 / 2 ^ (-l).toNat else 1000000000 * 2 ^ l.toNat

/-- Sync and announce intervals of port `p`, ns. -/
def syncNs (s : State) (p : Nat) : Nat := s.log2Ns (clampInt (-7) 1 (signed 4 (s.get (Reg.TIME_PTP.LOGSYNC.ix p))))
def annNs (s : State) (p : Nat) : Nat := s.log2Ns (clampInt (-3) 4 (signed 4 (s.get (Reg.TIME_PTP.LOGANN.ix p))))

/-- Steering interval I in ns: 4 basic cycles or the source's event interval, whichever is longer (R206). -/
def steerNs (s : State) : Nat :=
  let ev := match s.refSrc with
    | 1 => 1000000000
    | 2 => s.syncNs (s.get Reg.TIME_REF.PORT)
    | _ => 0
  max (4 * s.tLen / 16) ev

/-- The procedure of R206 on the mean offset `e`, 1/16 ns. The spec gives no rounding: the mean, σ_f and σ are truncated toward zero, to 1/16 ns and
to units of 2^-32 (log entry 38, R206). -/
def steerBy (s : State) (e : Int) : State :=
  if 16 * s.jumpNs < e.natAbs && !s.time.accepting then
    if s.mayStep e then
      { s with time.epNext := some (tdivI e 16 * 16, (s.noticeCyc + 8) % 2 ^ 32) }
    else
      let s := if s.get Reg.TIME_STAT.REFST = 4 then s else s.refuseJump e
      (s.setRefst 4).announceSigma s.time.sigmaF
  else
    let s := if e.natAbs ≤ 16 * s.jumpNs then { s with time.accepting := false }.setRefst 2 else s
    let df := tdivI (e * s.steerNs * 2 ^ 32) (256 * (s.tauS * s.tauS : Nat) * 10 ^ 18)
    let sf := clampInt (-ppb100k) ppb100k (s.time.sigmaF + df)
    let sg := clampInt (-ppb100k) ppb100k (sf + tdivI (e * 2 ^ 32) (16 * s.tauS * 10 ^ 9))
    ({ s with time.sigmaF := sf } : State).announceSigma sg

/-- The procedure of R206 with the events of the interval, which are then spent; σ of a node without a source is 0 (Table 07.2), of a lost
reference σ_f (R205). -/
def steerMean (s : State) : State :=
  let es := s.time.offsets
  let s : State := { s with time.offsets := [] }
  if !s.isTref || !s.time.noonSeen then s
  else if !s.refActs then s.announceSigma 0
  else if s.get Reg.TIME_STAT.REFST = 3 && es.isEmpty then s.announceSigma s.time.sigmaF
  else if es.isEmpty || s.time.epNext.isSome then s
  else s.steerBy (meanT es)

/-- The time notice of this cycle (R199). -/
def notify (s : State) : State :=
  match s.mapAt s.bnd with
  | some m => if s.isTref && s.time.noonSeen then s.sendNotice 0x51 (s.noticeParams m) else s
  | none => s

/-- The steering interval ends, at the boundary that has come (R206): the procedure, then the notice of the cycle, and the next interval
begins. -/
def endSteer (s : State) : State :=
  if !s.time.notHeld then s
  else
    let s := s.refreshRef.steerMean
    ({ s with time := { s.time with notHeld := false, steerAt := some s.bnd } } : State).notify

/-- The boundary that has come is the last one of the steering interval (R206). -/
def steerOver (s : State) : Bool := s.time.steerAt.any fun t => t + ns s.steerNs ≤ s.bnd

/-- Train time at a cycle boundary after the Noon part: announced changes, the reference's flags, the notice (R199), which waits where a
steering interval ends here. -/
def timeBoundary (s : State) : State :=
  let s := (s.staleMb 1).applyAnnounced.refreshTime.refreshRef.refreshTai
  if !(s.isTref && s.time.noonSeen) then { s with time.steerAt := none }
  else if s.steerOver then { s with time.notHeld := true }
  else ({ s with time.steerAt := some (s.time.steerAt.getD s.bnd) } : State).notify

/-- A reference event of a node without a map whose reference value lies `off` ahead of presented time (R202). -/
def presetTime (s : State) (off : Int) : State :=
  if !s.time.refSeen || 16 * s.jumpNs < off.natAbs then
    { s with time := { s.time with pre := s.presented + off, preAt := s.now, refSeen := true } }
  else s

/-- A reference offset `e`, 1/16 ns, at the time reference (R203). -/
def takeOffset (s : State) (e : Int) : State :=
  { s.put Reg.TIME_EOFF.VALUE (sat32 (tdivI e 16)) with time.offsets := e :: s.time.offsets }

/-- A PPS edge (R202 to R204); the loss of R205 counts from the last edge, taken or not. -/
def takePps (s : State) : State :=
  let s := s.refreshRef
  let s : State := if s.refSrc = 1 then { s with time.ppsAt := some s.now } else s
  if s.refSrc ≠ 1 || !s.flag Reg.TIME_CTRL.EN || (s.time.map.isSome && !s.refActs) then s
  else
    let (tod, s) := match s.time.todArmed with
      | some t => (t, s)
      | none => ((s.time.todLast + 1) % 2 ^ 48, (s.put Reg.TIME_STAT.TODMISS 1).record 0x0607)
    let s : State := { s with time := { s.time with todArmed := none, todLast := tod } }
    match s.mapAt s.now with
    | some m => s.takeOffset (wrapT (ofSecNs tod 0 - m))
    | none => s.presetTime (wrapT (ofSecNs tod 0 - s.presented))

end State

/-- CATCH_UP_COMPLETE (R198). -/
def execCatchUpComplete (s : State) : Host.Outcome State Fault Refusal :=
  live s fun s =>
  done (if !s.flag Reg.TIME_STAT.CATCHUP then s
    else
      let s := s.reach (s.time.kAt + ceilDiv (s.time.kappa.natAbs * 1000000) s.catchPpm)
      let s : State := { s with time := { s.time with kappa := 0, kAt := s.now } }
      (((s.put Reg.TIME_STAT.CATCHUP 0).raise Reg.TIME_IRQ.CATCH).staleMb 4).record 0x0604)

/-- TIMENOT (R200, R201): the oldest notice, if it is a time notice. -/
def execTimenot (s : State) : Host.Outcome State Fault Refusal :=
  live s fun s =>
  done (match s.popNotice 0x51 with
    | some (f, s) => s.takeTimeNot f
    | none => s)

/-- STEERING_INTERVAL_END (R206): at the last boundary of the interval. -/
def execSteeringIntervalEnd (s : State) : Host.Outcome State Fault Refusal := live s fun s => done s.endSteer

/-- TOD_ARM_WRITE (R204). -/
def execTodArmWrite (value : Word) (s : State) : Host.Outcome State Fault Refusal :=
  live s fun s =>
  let s := s.storeWord Reg.TIME_TODHI.TOD.addr value.toNat
  done { s with time.todArmed := some (s.get Reg.TIME_TODHI.TOD * 2 ^ 32 + s.get Reg.TIME_TODLO.TOD) }

namespace State

/-- A write of TIME_CTRL: ACCEPT while HELD (R207). -/
def writeTimeCtrl (s : State) (v : Nat) : State :=
  let s := (s.storeWord Reg.TIME_CTRL.EN.addr v).refreshRef
  if bit v 2 && s.isTref && s.get Reg.TIME_STAT.REFST = 4 then ({ s with time.accepting := true }.setRefst 5).record 0x060B else s

end State

/-- TIME_ACCEPT_WRITE (R207). -/
def execTimeAcceptWrite (value : Word) (s : State) : Host.Outcome State Fault Refusal := live s fun s => done (s.writeTimeCtrl value.toNat)

end Sys2Proof.Machine
end

