-- ==== Sys2Proof/Machine/Engine.lean ====
section
/-! DEFINITION. The cycle engine (chapter 10): key switch, engine states, latches, releases, evaluation, commits and overruns; the mirror set
that a commit opens (R352). -/

namespace Sys2Proof.Machine

/-- A station's status record (Table 10.12). -/
def stationRecord (t : StationS) : Bytes :=
  natBe 4 t.lastCyc ++ natBe 4 t.claim ++ natBe 4 t.tag ++ natBe 1 t.state ++ natBe 1 t.sbits ++ natBe 2 t.miss

namespace State

/-- CYCL_STAT.TRUN. -/
def refreshTrun (s : State) : State :=
  s.put Reg.CYCL_STAT.TRUN (((List.range 4).map fun n => if (s.task n).run then 2 ^ n else 0).sum)

/-- ESTATE and CAUSE. -/
def setEngine (s : State) (st cause : Nat) : State := (s.put Reg.CYCL_STAT.ESTATE st).put Reg.CYCL_STAT.CAUSE cause

/-- Nothing is evaluated or committed from here on (R289); what an instance in progress has written stays. -/
def haltTasks (s : State) : State := ({ s.progress with eng.tasks := Vector.replicate 4 {} } : State).refreshTrun

/-- FAULT with its cause (R288, R291). -/
def engineFault (s : State) (cause : Nat) : State :=
  ((((s.haltTasks.cancelSwap 3).setEngine 4 cause).record 0x0906).raise Reg.CYCL_IRQ.FAULT)

/-- REFUSED with its cause (R282). -/
def engineRefuse (s : State) (cause : Nat) : State :=
  ((s.setEngine 3 cause).record (if cause = 2 ∨ cause = 3 then 0x0903 else 0x0904)).raise Reg.CYCL_IRQ.REFUSED

/-- The check of R291 and the conditions of R282 but for the schedule: REFUSED where one fails. -/
def checkStart (s : State) : State :=
  let s := match s.image? with | some b => s.showBudget b | none => s
  let c := s.startCause
  if c ≠ 0 then s.engineRefuse c else s

/-- The mode of a debounced key code: KEYA in bit 0, KEYB in bit 1 (Table 10.1). -/
def keyMode (code : Nat) : Nat := if code = 1 then 1 else if code = 2 then 2 else 0

/-- A debounced key code takes effect (R280, Table 10.2). -/
def applyKey (s : State) : State :=
  match s.eng.keyNext with
  | none => s
  | some code =>
    let s : State := { s with eng.keyNext := none }
    let m := keyMode code
    if m = s.get Reg.CYCL_STAT.KEY then s
    else
      let s := (((s.put Reg.CYCL_STAT.KEY m).record 0x0901 (natBe 1 m)).raise Reg.CYCL_IRQ.MODE).cancelSwap 1
      let st := s.get Reg.CYCL_STAT.ESTATE
      if m = 0 then
        let s := if st = 4 then s.record 0x0907 else s
        s.haltTasks.setEngine 0 0
      else if st = 0 then (s.setEngine 1 0).checkStart
      else s

/-- A key code has been stable for 20 ms (R279, R280). -/
def takeKey (s : State) (a b : Bool) : State :=
  let code := b2n a + 2 * b2n b
  let s := (s.putB Reg.CYCL_STAT.KEYA a).putB Reg.CYCL_STAT.KEYB b
  let s := s.putB Reg.CYCL_STAT.KEYINV (code = 3)
  let s := if code = 3 then ((s.bump Reg.CYCL_KEYINV.COUNT).record 0x0902).raise Reg.CYCL_IRQ.KEYINV else s
  let s : State := { s with eng.keyNext := some code }
  if s.cycRun then s else s.applyKey

/-! Latches. -/

/-- The system block of a latch (Table 10.7). -/
def systemBlock (s : State) (task : Nat) : Bytes :=
  let m := match s.mapAt s.bnd with | some m => secNs m | none => (0, 0)
  let fl := 128 * b2n (s.flag Reg.SYNC_STAT.OOP) + 64 * b2n (s.flag Reg.SCHD_STAT.SILENT) + 32 * b2n (s.claim ≠ 0)
    + 16 * b2n (s.get Reg.FRC_STAT.NACT ≠ 0)
  let b := natBe 4 s.cyc ++ natBe 6 m.1 ++ natBe 4 m.2 ++ natBe 2 s.pos ++ natBe 2 (if s.stackId = 0 then s.gen else s.brdg.gen) ++ natBe 1 (s.get Reg.CYCL_STAT.KEY) ++ natBe 1 fl
    ++ natBe 4 s.claim ++ natBe 1 task
  b ++ List.replicate (64 - b.length) 0

/-- Station `n` changes; where that changes its status record and the mailbox shows it, what is shown is no longer consistent (R7). -/
def updStation (s : State) (n : Nat) (f : StationS → StationS) : State :=
  let t := s.onStation n f
  if t.get Reg.CYCL_SSEL.TAB = 2 && t.get Reg.CYCL_SSEL.INDEX = n
      && (s.station? n).map stationRecord ≠ (t.station? n).map stationRecord then t.put Reg.CYCL_SSTAT.VALID 0 else t

/-- The status byte of station `n` at a latch of its task, and its inputs where it is stale (R294, R304). -/
def latchStation (s : State) (n : Nat) (t : StationS) : State :=
  let b := b2n t.fresh + 2 * b2n (t.state = 2) + 4 * b2n t.safe + 8 * b2n t.err + 16 * b2n t.late + 32 * b2n t.hi
  let s := s.updStation n fun t => { t with sbits := b, late := false }
  let r := s.img.recv.write n (BitVec.ofNat 8 b)
  let e := t.entry
  { s with img.recv := if t.fresh || seHold e then r else r.writeAll (seIn e) (List.replicate (seInLen e) 0) }

/-- The latch of task `n`, or one without a task (R286, R289): status region, system block, input range; forces act (Table 11.11). The task
keeps the status region and the system block of its own latch until its next one. -/
def latch (s : State) (task : Option Nat) : State :=
  let s := match task with
    | some n => s.eng.stations.foldl (fun (s : State) (x : Nat × StationS) =>
        if seEn x.2.entry && seTask x.2.entry = n then s.latchStation x.1 x.2 else s) s
    | none => s
  let r := s.img.recv.writeAll 0x100 (s.systemBlock (task.getD 0))
  let l := s.img.latched.copyRange r 0 0x140
  let ti := match task with | some n => s.taskIn n | none => (0, 0)
  let l := l.copyRange r ti.1 ti.2
  let fs := s.forces
  let l := applyBits (applyBits l 0 0 0x100 fs) 0 ti.1 (ti.1 + ti.2) fs
  let ret := applyBits s.img.retained 0x20000 0x20000 0x30000 fs
  let non := applyBits s.img.nonret 0x30000 0x30000 0x40000 fs
  let s : State := { s with img := { s.img with recv := r, latched := l, retained := ret, nonret := non }, brdg := { s.brdg with pre := [] } }
  let s := match task with | some n => s.onTask n fun t => { t with view := l.filter fun c => c.1 < 0x140 } | none => s
  let s := fs.foldl (fun s f => if 0x30000 ≤ f.1 then s.markDirty 1 (f.1 - 0x30000) 1
    else if 0x20000 ≤ f.1 then s.markDirty 0 (f.1 - 0x20000) 1 else s) s
  s.put Reg.CYCL_CYC.CYC s.cyc

/-! Boundaries. -/

/-- A task that is enabled is released at this boundary (R283). -/
def released (s : State) (n : Nat) : Bool := s.taskOn n && s.cyc % s.taskPeriod n = 0

/-- Task `n` is released: its period runs to the cycle before the next release; a release while its instance runs is skipped (R288). -/
def release (s : State) (n : Nat) : State :=
  let ends := (s.cyc + s.taskPeriod n - 1) % 2 ^ 32
  if (s.task n).run then s.onTask n fun t => { t with ends := some ends, skipped := true, done_ := false }
  else
    (s.latch (some n)).onTask n fun t =>
      { t with run := true, next := 0, relAt := s.now, relCyc := s.cyc, ends := some ends, skipped := false, done_ := false }

/-- WAIT to RUN (R282, R315): the non-retained area and every state slot are zeroed. -/
def startRun (s : State) : State :=
  let s := s.haltTasks.setEngine 2 0
  let s := (({ s with img.nonret := [] } : State).markDirty 1 0 0x10000).put Reg.CYCL_STAT.OVR 0
  match s.image? with
  | none => s
  | some b =>
    let s := s.onBank s.actBank fun k => { k with exec := k.exec.copyRange [] (imLen b) (imState b) }
    ({ s with prg.resync := [] } : State).markDirty 3 0 (imState b)

/-- The boundary in WAIT (R282, R291). -/
def waitBoundary (s : State) : State :=
  if s.get Reg.CYCL_STAT.ESTATE ≠ 1 then s
  else
    let s := s.checkStart
    if s.get Reg.CYCL_STAT.ESTATE = 1 && s.mayRun && s.tasksOn.any s.released then s.startRun else s

/-- RUN ends where the schedule or the claim is lost (Table 10.2, R344). -/
def loseRun (s : State) : State :=
  if s.engineRuns && !s.mayRun then (s.haltTasks.setEngine 1 0).cancelSwap 3 else s

/-- The check at a Noon at which T has changed (R291). -/
def noonCheck (s : State) (changed : Bool) : State :=
  if !changed || !s.engineRuns then s
  else match s.image? with
    | none => s
    | some b =>
      let s := s.showBudget b
      if s.budgetOk b 0 then s else s.engineFault 6

/-- Station entries stored in the cycle that has ended take effect (R301, R306). -/
def applyStations (s : State) : State :=
  let nx := s.eng.next
  let s : State := { s with eng.next := [] }
  nx.foldl (fun s (x : Nat × Bytes) =>
    let t : StationS := { entry := x.2, state := b2n (seEn x.2) }
    let s : State := { s with eng.stations := s.eng.stations.filter (·.1 ≠ x.1) ++ [(x.1, t)] }
    let s : State := if seEn x.2 then s else { s with img.recv := s.img.recv.write x.1 0 }
    if s.get Reg.CYCL_SSEL.INDEX = x.1 then s.put Reg.CYCL_SSTAT.VALID 0 else s) s

/-- Cycles without a valid IN are counted (Table 10.12); what was written in the cycle that has ended is fresh for this boundary (R294). -/
def countMiss (s : State) : State :=
  s.eng.stations.foldl (fun s (x : Nat × StationS) =>
    if !seEn x.2.entry then s
    else s.updStation x.1 fun t =>
      { t with miss := if t.heard then 0 else min 0xFFFF (t.miss + 1), heard := false, fresh := t.wrote, wrote := false }) s

/-- The engine at a cycle boundary: `reph` at t_b of a re-phase, `tchg` at a Noon at which T has changed. The order is that of R322 and
R344. A period that t_b of a re-phase cuts off commits nothing and is no overrun (log entry 38). -/
def engineBoundary (s : State) (reph tchg : Bool) : State :=
  let s := s.progress.countMiss.applyStations
  let s := s.applyKey.applyForceTable
  let s : State := if reph then { s with eng.tasks := s.eng.tasks.map fun t => if t.ends.isSome then { t with ends := none, overs := 0 } else t } else s
  let s := (s.loseRun.noonCheck tchg).swapBoundary reph
  let s := s.waitBoundary.fillMirror
  let rel := (List.range 4).filter s.released
  let s := if s.engineRuns then rel.foldl (fun s n => s.release n) s
    else if rel.isEmpty then s.latch none else rel.foldl (fun s n => s.latch (some n)) s
  s.refreshTrun

/-! Evaluation and commits. -/

/-- Microseconds since `t`, held to 16 bits. -/
def usSince (s : State) (t : Nat) : Nat := min 0xFFFF ((s.now - t) / us 1)

/-- This cycle commits nothing: it ends at t_b of a re-phase (R123), or it is the Dusk cycle (R369). -/
def duskCycle (s : State) : Bool :=
  (s.get Reg.REST_STAT.DSTATE = 3 || s.get Reg.REST_STAT.DSTATE = 4)
    && s.cyc = (s.get Reg.REST_COMMIT.CCYC + 2 ^ 32 - 1) % 2 ^ 32
def rephCycle (s : State) : Bool := s.inau.rephase && s.inau.place.any fun (p : Int × Nat × Nat) => p.1 ≤ (s.bnd + s.tLen : Nat)

/-- A task overruns its period (R288). -/
def overrun (s : State) (n : Nat) : State :=
  let s := s.bump Reg.CYCL_OVERRUN.COUNT
  let s := s.put Reg.CYCL_STAT.OVR (s.get Reg.CYCL_STAT.OVR ||| 2 ^ n)
  let s := (s.record 0x0905).raise Reg.CYCL_IRQ.OVERRUN
  let s := s.onTask n fun t => { t with overs := t.overs + 1 }
  if 2 ≤ (s.task n).overs then (s.secondFault 0x0905 0x0905).engineFault 5 else s

/-- The committed view of a task's output range takes on the working view as it stood at the completion, with the forces (R287, R326). -/
def commit (s : State) (n : Nat) : State :=
  let t := s.task n
  let o := s.taskOut n
  let c := s.img.comm.writeAll (o.1 - 0x10000) t.snap
  let c := applyBits c 0x10000 o.1 (o.1 + o.2) s.forces
  let mine (a : Nat) : Bool := o.1 ≤ a && a < o.1 + o.2
  let fo := s.prg.forcedOut.filter (fun x => !mine x.1) ++ (s.forces.filter fun f => mine f.1).map fun f => (f.1, f.2.1)
  let s := ({ s with img.comm := c, brdg.pre := [], prg.forcedOut := fo } : State).markDirty 2 (o.1 - 0x10000) o.2
  let s := s.put Reg.CYCL_STAT.OVR (s.get Reg.CYCL_STAT.OVR &&& (15 - 2 ^ n))
  s.onTask n fun t => { t with overs := 0 }

/-- The commit instant for task `n`. A period that commits nothing under R123 or R369 parts the overruns around it (R288). -/
def commitTask (s : State) (n : Nat) : State :=
  let t := s.task n
  if !s.engineRuns || t.ends ≠ some s.cyc then s
  else
    let s := s.onTask n fun t => { t with ends := none }
    if s.rephCycle || s.duskCycle then s.onTask n fun t => { t with overs := 0 } else if t.skipped || !t.done_ then s.overrun n else s.commit n

/-! The mirror (R352). -/

/-- The 64 bytes of a mirrored block. -/
def mirrorBlock (s : State) (b : Nat × Nat) : Bytes :=
  match b.1 with
  | 0 => s.img.retained.bytes (64 * b.2) 64
  | 1 => s.img.nonret.bytes (64 * b.2) 64
  | 2 => s.img.comm.bytes (64 * b.2) 64
  | _ => (s.bank s.actBank).exec.bytes (((s.image?).elim 0 imLen) + 64 * b.2) 64

/-- Every mirrored block becomes dirty. -/
def allDirty (s : State) : State :=
  ((((s.markDirty 0 0 0x10000).markDirty 1 0 0x10000).markDirty 2 0 0x10000)).markDirty 3 0 ((s.image?).elim 0 imState)

/-- MIR frames of up to 30 blocks. -/
def sendMir (s : State) (no : Nat) : Nat → List Bytes → State
  | 0, _ => s
  | fuel + 1, bs =>
    if bs.isEmpty then s else ((s.twinSend 4 (natBe 4 no ++ (bs.take 30).flatten))).sendMir no fuel (bs.drop 30)

/-- A mirror set is opened, sent and sealed. -/
def openMirror (s : State) : State :=
  if !s.twinOn || s.claim = 0 || !s.flag Reg.TWIN_CTRL.MIREN || !s.partnerPresent || s.eng.tasks.toList.any (·.run) then s
  else
    let s := s.twinRun
    -- a set is open until its SEAL has left
    if s.twin.txq.any (4 ≤ ·.1) then s else
    -- a heartbeat of the standby since the last set has asked for a full resend (R353)
    let s : State := if s.twin.fullDue then { s.allDirty with twin.fullDue := false } else s
    let take := s.twin.dirty.take 1024
    let rest := s.twin.dirty.drop 1024
    let no := (s.twin.setNo + 1) % 2 ^ 32
    let bs := take.map fun b => natBe 4 (b.1 * 2 ^ 28 + 64 * b.2) ++ s.mirrorBlock b
    let h := (s.image?).getD []
    let s : State := { s with twin := { s.twin with dirty := rest, setNo := no, setCyc := s.cyc } }
    let s := s.sendMir no 40 bs
    let sl := natBe 4 no ++ natBe 4 s.cyc ++ natBe 2 take.length
      ++ natBe 1 (128 * b2n (!rest.isEmpty) + 64 * b2n (take.any (·.1 = 3))) ++ [0] ++ natBe 4 (imProg h) ++ natBe 4 (imRev h)
      ++ natBe 4 (crc32 bs.flatten)
    s.twinSend 5 sl

/-- The commit instant of the cycle (R287, R288, R352). -/
def commitPoint (s : State) : State :=
  if !s.cycRun || s.eng.committed = some s.cyc then s
  else
    let s := s.reach (s.bnd + ns s.commitNs)
    let s : State := { s.progress with eng.committed := some s.cyc }
    ((List.range 4).foldl (fun s n => s.commitTask n) s).openMirror

/-- The commit instant of the cycle lies before `t`, or at it, and has not been taken: what stands at `t` comes after it (R285). -/
def commitBy (s : State) (t : Nat) : State := if s.bnd + ns s.commitNs ≤ t then s.commitPoint else s

/-- An instance of task `n` completes: the blocks that are left are evaluated (R283, R314). A task that another of higher priority holds up
completes only where its last block was in progress as the other was released. A commit instant that has passed comes first (R288). -/
def completeTask (s : State) (n : Nat) : State :=
  let s := if s.bnd + ns s.commitNs < s.now then s.commitPoint else s
  let t := s.task n
  match s.image? with
  | none => s
  | some b =>
    if !t.run || !s.engineRuns || (s.evaluating ≠ some n && !(s.blocksLeft b n).isEmpty) then s
    else
      let s := s.evalBlocks b n (s.blocksLeft b n)
      let own := !t.skipped && t.ends = some ((t.relCyc + s.taskPeriod n - 1) % 2 ^ 32)
      let out := s.taskOut n
      let s := s.onTask n fun t =>
        { t with run := false, first := false, done_ := own, snap := if own then s.img.work.bytes (out.1 - 0x10000) out.2 else t.snap }
      let d := s.usSince t.relAt
      let s := (s.put (Reg.CYCL_EVAL.LAST.ix n) d).put (Reg.CYCL_EVAL.MAX.ix n) (max d (s.get (Reg.CYCL_EVAL.MAX.ix n)))
      s.refreshTrun

/-- A write of CYCL_CTRL (R281, R301). -/
def writeCyclCtrl (s : State) (v : Nat) : State :=
  let st := s.get Reg.CYCL_STAT.ESTATE
  let s := if !bit v 0 && s.flag Reg.CYCL_CTRL.EN && !(st = 0 || st = 3 || st = 4) then s.put Reg.CYCL_STAT.WIGN 1
    else s.putB Reg.CYCL_CTRL.EN (bit v 0)
  if !bit v 1 then s
  else s.eng.stations.foldl (fun s (x : Nat × StationS) =>
    if seEn x.2.entry then s.updStation x.1 fun t => { t with state := 1 } else s) s

/-- A host write to the process image at byte offset `o` (R295, R326). -/
def imageWrite (s : State) (o : Nat) (data : Bytes) : State :=
  let s : State := { s.progress with brdg.pre := s.brdg.pre.filter (·.win ≠ 1) }
  ((List.range data.length).zip data).foldl (fun s (x : Nat × Byte) =>
    let a := o + x.1
    if a < 0x20000 || imageSize ≤ a then s.put Reg.CYCL_STAT.WIGN 1
    else
      let m := forcedMask s.forcedMem a
      let s := if m ≠ 0 then s.put Reg.CYCL_STAT.WIGN 1 else s
      let keep (old : Byte) : Byte := BitVec.ofNat 8 ((old.toNat &&& m) ||| (x.2.toNat &&& (255 - m)))
      if a < 0x30000 then
        let i := a - 0x20000
        ({ s with img.retained := s.img.retained.write i (keep (s.img.retained.read i)) } : State).markDirty 0 i 1
      else
        let i := a - 0x30000
        ({ s with img.nonret := s.img.nonret.write i (keep (s.img.nonret.read i)) } : State).markDirty 1 i 1) s

end State

/-- TASK_INSTANCE_COMPLETE (R283). -/
def execTaskInstanceComplete (task : Fin 4) (s : State) : Host.Outcome State Fault Refusal := liveActive s fun s => done (s.completeTask task)

/-- GUARDIAN_POINT (R146, R154): 1 µs before the own window the guardian decides and the due publications are captured; a
commit of the same instant or an earlier one comes first (R285). -/
def execGuardianPoint (fwd : Bool) (s : State) : Host.Outcome State Fault Refusal :=
  live s fun s =>
  done (match s.nextGuard fwd with
    | none => s
    | some (t, k, r, w) =>
        let g := ((s.reach t).commitBy t).progress.guardian
        let s := g.2
        let caps : List Captured := if s.holdsClaim then
            s.sched.pubs.filterMap fun ie =>
              if pubDue ie.2 k r.mode && pubInSweep ie.2 fwd r.loop then
                some ⟨ie.1, ie.2, natBe 4 k ++ s.img.read (pubSrc ie.2) (pubLen ie.2), 0⟩
              else none
          else []
        let s := if fwd then { s with sched := { s.sched with silF := g.1, capF := caps, cycF := k } }
          else { s with sched := { s.sched with silR := g.1, capR := caps, cycR := k } }
        if g.1 then s else s.passRelays fwd w k)

/-- TASK_COMMIT (R287). -/
def execTaskCommit (s : State) : Host.Outcome State Fault Refusal := liveActive s fun s => done s.commitPoint

/-- CYCL_EN_WRITE (R281). -/
def execCyclEnWrite (value : Word) (s : State) : Host.Outcome State Fault Refusal := live s fun s => done (s.writeCyclCtrl value.toNat)

/-- STATION_CFGALL_WRITE (R301). -/
def execStationCfgallWrite (value : Word) (s : State) : Host.Outcome State Fault Refusal := live s fun s => done (s.writeCyclCtrl value.toNat)

/-- PROCESS_IMAGE_HOST_WRITE (R295). -/
def execProcessImageHostWrite (offset : Fin 262144) (data : Bytes) (s : State) : Host.Outcome State Fault Refusal :=
  liveActive s fun s =>
  done (s.imageWrite offset data)

end Sys2Proof.Machine
end

