-- ==== Sys2Proof/Machine/Stations.lean ====
section
/-! DEFINITION. I/O stations (R297 to R306): telegrams out and in, station states, the station table. -/

namespace Sys2Proof.Machine

/-- A Yeldex-IO telegram (Table 10.9), padded to the 46-byte minimum payload (R298, R299). -/
def telegram (kind station tflags cyc claim tag : Nat) (data : Bytes) : Bytes :=
  let b := [1] ++ natBe 1 kind ++ natBe 1 station ++ natBe 1 tflags ++ natBe 4 cyc ++ natBe 4 claim ++ natBe 4 tag ++ natBe 2 data.length
    ++ [0, 0] ++ data
  let b := b ++ natBe 2 (crc16 b)
  b ++ List.replicate (46 - b.length) 0

namespace State

/-- The node's I/O address (R298). -/
def ioAddress (s : State) : Nat := 2 * 2 ^ 40 + s.uid % 2 ^ 40

/-- CFG data of a station (Table 10.10). -/
def cfgData (s : State) (e : Bytes) : Bytes :=
  natBe 4 (seTag e) ++ natBe 1 (seAccWin e) ++ natBe 1 (128 * b2n (seSafeHold e)) ++ natBe 1 (seInLen e / 4) ++ natBe 1 (seOutLen e / 4)
  ++ natBe 2 (seIndly e) ++ natBe 1 (s.tNs / 250000) ++ [0] ++ natBe 2 (seParLen e) ++ [0, 0]
  ++ s.img.retained.readN (seParOff e) (seParLen e)

/-- A forced bit stands in the data of a station's OUT (R300): in the committed view since the last commit, else in the forces in effect (R326,
R328). -/
def outForced (s : State) (e : Bytes) (valid : Bool) : Bool :=
  (if valid then s.prg.forcedOut else s.forces.map fun f => (f.1, f.2.1)).any fun f =>
    0x10000 + seOut e ≤ f.1 && f.1 < 0x10000 + seOut e + seOutLen e

/-- OUT data: the committed view where it is valid, else zeros but for forced bits (R287, R289, R328). -/
def outData (s : State) (e : Bytes) (valid : Bool) : Bytes :=
  if valid then s.img.comm.readN (seOut e) (seOutLen e)
  else (applyBits [] 0x10000 (0x10000 + seOut e) (0x10000 + seOut e + seOutLen e) s.forces).readN (seOut e) (seOutLen e)

/-- The telegram of station `n` is assembled and queued for t_L (R298, R300), after the commit of the cycle (R285). -/
def assemble (s : State) (n : Nat) : State :=
  match s.station? n with
  | none => s
  | some t =>
    let e := t.entry
    let tl := s.launchAt e
    let past := s.inau.rephase && s.inau.place.any fun (p : Int × Nat × Nat) => p.1 < (tl : Int)
    if !seEn e || !s.mayRun || past || s.eng.sent.contains (n, s.cyc) then s
    else
      let s := ((s.reach (tl - us 2)).commitBy (tl - us 2)).progress
      let s : State := { s with eng.sent := (n, s.cyc) :: s.eng.sent.filter (·.2 = s.cyc) }
      let cfg := t.state = 1 || t.state = 3
      let valid := s.engineRuns && !s.duskCycle
      let tg := if cfg then telegram 3 n 0 s.cyc s.claim (seTag e) (s.cfgData e)
        else telegram 1 n (128 * b2n valid + 64 * b2n (s.outForced e valid)) s.cyc s.claim (seTag e) (s.outData e valid)
      let p := sePort e
      let tag := if s.flag Reg.CYCL_IOCFG.TAGEN then
          natBe 2 0x8100 ++ natBe 2 (s.get Reg.CYCL_IOCFG.PCP * 8192 + s.get (Reg.CONS_PVID.PVID.at p)) else []
      let f := natBe 6 (seMac e) ++ natBe 6 s.ioAddress ++ tag ++ natBe 2 (s.get (Reg.CONS_IOETYPE.ETYPE.at p)) ++ tg
      let s := s.bump (if cfg then Reg.CYCL_CFGSENT.COUNT else Reg.CYCL_OUTSENT.COUNT)
      s.sendEth p f (s.get (Reg.CONS_TXCFG.IOQ.at p)) none (some tl) 0 13 s.claim

/-- A valid IN updates the station (R301 to R304); `g` is the telegram. -/
def takeIn (s : State) (n : Nat) (t : StationS) (g : Bytes) : State :=
  let e := t.entry
  let fl := byteAt g 3
  let cyc := fieldAt g 4 4
  let claim := fieldAt g 8 4
  let tag := fieldAt g 12 4
  let dlen := fieldAt g 16 2
  let s := s.bump Reg.CYCL_INGOOD.COUNT
  let ok := bit fl 6 && tag = seTag e
  let err := bit fl 4
  let hi : Bool := s.claim < claim
  let s := s.updStation n fun t =>
    { t with lastCyc := cyc, claim := claim, tag := tag, heard := true, safe := bit fl 5, err := err, hi := hi
             state := if ok then 2 else 1 }
  let s := if ok && t.state ≠ 2 then (s.record 0x0908).raise Reg.CYCL_IRQ.STCFG else s
  let s := if err && !t.err then s.record 0x090C else s
  let s := if hi then (s.raise Reg.CYCL_IRQ.CLAIMHI).recordGen 0x090A n else s
  let s := s.stationClaim claim
  if s.cycRun && cyc = s.cyc then
    if dlen = 0 then s
    else ({ s with img.recv := s.img.recv.writeAll (seIn e) ((g.drop 20).take dlen) } : State).onStation n fun t => { t with wrote := true }
  else if s.cycRun && 0 < sdiff32 s.cyc cyc then (s.bump Reg.CYCL_INLATE.COUNT).onStation n fun t => { t with late := true }
  else s

/-- A frame steered to the cycle engine: stray, bad or valid (R302). -/
def ioFrame (s : State) (p : Nat) (f : Bytes) : State :=
  let g := f.drop (ethNext f)
  let n := byteAt g 2
  match s.station? n with
  | none => s.bump Reg.CYCL_INSTRAY.COUNT
  | some t =>
    let e := t.entry
    let dlen := fieldAt g 16 2
    if fieldAt f 0 6 ≠ s.ioAddress || !seEn e || sePort e ≠ p || fieldAt f 6 6 ≠ seMac e || g.length < 3 then s.bump Reg.CYCL_INSTRAY.COUNT
    else if byteAt g 0 ≠ 1 || byteAt g 1 ≠ 2 || !(dlen = 0 || dlen = seInLen e) || g.length < 22 + dlen
        || crc16 (g.take (20 + dlen)) ≠ fieldAt g (20 + dlen) 2 then s.bump Reg.CYCL_INBAD.COUNT
    else s.takeIn n t g

/-- A station without a valid IN for its acceptance window becomes LOST (R304). -/
def loseStation (s : State) (n : Nat) : State :=
  match s.station? n with
  | none => s
  | some t =>
    if seEn t.entry && t.state ≠ 3 && seAccWin t.entry ≤ t.miss then
      ((s.updStation n fun t => { t with state := 3 }).bump Reg.CYCL_STLOST.COUNT).raise Reg.CYCL_IRQ.STLOST |>.record 0x0909
    else s

/-- A write of CYCL_SSEL takes effect (R306). -/
def stationSel (s : State) (v : Nat) : State :=
  let s := ((s.put Reg.CYCL_SSEL.TAB (Reg.CYCL_SSEL.TAB.of v)).put Reg.CYCL_SSEL.WR (Reg.CYCL_SSEL.WR.of v)).put Reg.CYCL_SSEL.INDEX (Reg.CYCL_SSEL.INDEX.of v)
  let tab := s.get Reg.CYCL_SSEL.TAB
  let n := s.get Reg.CYCL_SSEL.INDEX
  let cur := ((s.station? n).map (·.entry)).getD (List.replicate 32 0)
  let sd := natBe 4 (s.get Reg.CYCL_SD0.DATA) ++ natBe 4 (s.get Reg.CYCL_SD1.DATA) ++ natBe 4 (s.get Reg.CYCL_SD2.DATA) ++ natBe 4 (s.get Reg.CYCL_SD3.DATA)
  if s.flag Reg.CYCL_SSEL.WR then
    let s := s.put Reg.CYCL_SSTAT.VALID 0
    if tab = 1 then { s with eng.half1 := s.eng.half1.filter (·.1 ≠ n) ++ [(n, sd)] }
    else if tab = 0 then
      let h1 := ((s.eng.half1.find? (·.1 = n)).map (·.2)).getD (cur.drop 16)
      let e := sd ++ h1
      if seEn e && !s.stationOk e then (s.put Reg.CYCL_SSTAT.REFUSED 1).record 0x090B
      else
        let s : State := { s.dirtyCfg with eng := { s.eng with half1 := s.eng.half1.filter (·.1 ≠ n),
                                                               next := s.eng.next.filter (·.1 ≠ n) ++ [(n, e)] } }
        if s.cycRun then s else s.applyStations
    else s.put Reg.CYCL_STAT.WIGN 1
  else
    let b := match tab with
      | 0 => cur.take 16
      | 1 => cur.drop 16
      | 2 => stationRecord ((s.station? n).getD {})
      | _ => List.replicate 16 0
    let s := (s.put Reg.CYCL_SD0.DATA (fieldAt b 0 4)).put Reg.CYCL_SD1.DATA (fieldAt b 4 4)
    ((s.put Reg.CYCL_SD2.DATA (fieldAt b 8 4)).put Reg.CYCL_SD3.DATA (fieldAt b 12 4)).put Reg.CYCL_SSTAT.VALID 1

end State

/-- TELEGRAM_ASSEMBLY (R300). -/
def execTelegramAssembly (station : Fin 256) (s : State) : Host.Outcome State Fault Refusal := liveActive s fun s => done (s.assemble station)

/-- IO_IN_TELEGRAM_RECEIVED (R302, R303): a good frame, FCS stripped, that steering gives to the cycle engine. -/
def execIoInTelegramReceived (port : Port) (frame : Bytes) (s : State) : Host.Outcome State Fault Refusal :=
  liveActive s fun s =>
  done (if s.linkUp port && (s.steer port frame).io then s.ioFrame port frame else s)

/-- STATION_ACCWIN_EXPIRY (R304). -/
def execStationAccwinExpiry (station : Fin 256) (s : State) : Host.Outcome State Fault Refusal := liveActive s fun s => done (s.loseStation station)

/-- STATION_TABLE_LOAD (R306). -/
def execStationTableLoad (value : Word) (s : State) : Host.Outcome State Fault Refusal :=
  live s fun s =>
  done (s.posted 0x800A0 (·.stationSel value.toNat))

/-- STATION_TABLE_STORE (R306). -/
def execStationTableStore (value : Word) (s : State) : Host.Outcome State Fault Refusal :=
  live s fun s =>
  done (s.posted 0x800A0 (·.stationSel value.toNat))

end Sys2Proof.Machine
end

