-- ==== Sys2Proof/Machine/Clock.lean ====
section
/-! DEFINITION. Clock agreement: path delay (R173 to R177, R142), the sync set (R178), the agreement round and its states (R181 to R187). -/

namespace Sys2Proof.Machine

/-- Bounds of R181 and R182 in units of 2^-32: 50 ppm and 150 ppm. -/
def ppm50 : Int := 214748
def ppm150 : Int := 644245

/-- An entry put among entries of rising UID, that is of falling rank (R17). -/
def insertByUid (e : Entry) : List Entry → List Entry
  | [] => [e]
  | x :: xs => if e.uid ≤ x.uid then e :: x :: xs else x :: insertByUid e xs

/-- Values with their index, ascending by value. -/
def insertV (x : Int × Nat) : List (Int × Nat) → List (Int × Nat)
  | [] => [x]
  | y :: ys => if x.1 ≤ y.1 then x :: y :: ys else y :: insertV x ys

/-- How many values fta removes at each end. -/
def ftaCut (m : Nat) : Nat := if 8 ≤ m then 2 else if 4 ≤ m then 1 else 0

/-- The values in ascending order: removed low, kept, removed high (R181). -/
def ftaSplit (v : List (Int × Nat)) : List (Int × Nat) × List (Int × Nat) × List (Int × Nat) :=
  let a := v.foldl (fun acc x => insertV x acc) []
  let k := ftaCut a.length
  (a.take k, (a.drop k).take (a.length - 2 * k), a.drop (a.length - k))

namespace State

/-! Path delay. -/

/-- SYNC_STAT.PDMISM follows the lanes' mismatch; SYNC_IRQ.PDMISM at each rise (R177). -/
def refreshMismatch (s : State) : State :=
  let any := s.lanes.toList.any (·.mismatch)
  let rise := any && !s.flag Reg.SYNC_STAT.PDMISM
  let s := s.putB Reg.SYNC_STAT.PDMISM any
  if rise then s.raise Reg.SYNC_IRQ.PDMISM else s

/-- PDOWN of a PDRSP with PDV = 1 against the own estimate (R177). A mismatch that goes on under a new roster is recorded in its generation too. -/
def takePdown (s : State) (n pdown : Nat) : State :=
  if !s.flag (Reg.SYNC_PD.MEAS.ix n) then s
  else
    let est := s.get (Reg.SYNC_PD.PD.ix n)
    if ((pdown : Int) - est).natAbs ≤ 64 then
      (s.onLane n fun l => { l with misRun := 0, mismatch := false }).refreshMismatch
    else
      let run := (s.lane n).misRun + 1
      let s := s.onLane n fun l => { l with misRun := run, mismatch := l.mismatch || 16 ≤ run }
      (if (s.lane n).mismatch then s.recordGen 0x0508 n else s).refreshMismatch

/-- The median of 8 samples: the mean of the 4th and 5th, truncated toward zero (R175). -/
def median8 (xs : List Int) : Int :=
  let a := sortI xs
  tdivI (a.getD 3 0 + a.getD 4 0) 2

/-- A sample within the bounds of R176 on lane `n` (its quotient by 16 is truncated toward zero, log entry 38): it joins a first or new estimate,
is rejected, or updates the estimate. While a new estimate is formed the samples are collected for its median and not judged against the old
one (log entry 38). -/
def takeSample (s : State) (n : Nat) (pd : Int) : State :=
  let l := s.lane n
  let meas := s.flag (Reg.SYNC_PD.MEAS.ix n)
  if !meas || l.reform then
    let xs := pd :: l.samples
    if xs.length < 8 then s.onLane n fun l => { l with samples := xs }
    else
      let s := (s.put (Reg.SYNC_PD.MEAS.ix n) 1).put (Reg.SYNC_PD.PD.ix n) (median8 xs).toNat
      let s := s.onLane n fun l => { l with samples := [], reform := false, rejRun := 0 }
      let s := if l.reform then (s.raise Reg.SYNC_IRQ.PDREST).record 0x0507 else s
      (s.judgeLane n).refreshHop
  else
    let est : Int := s.get (Reg.SYNC_PD.PD.ix n)
    if 128 < (pd - est).natAbs then
      let s := s.bump Reg.SYNC_PDREJ.COUNT
      let run := l.rejRun + 1
      if 16 ≤ run then s.onLane n fun l => { l with rejRun := 0, reform := true, samples := [], pdAt := some s.now }
      else s.onLane n fun l => { l with rejRun := run }
    else
      let s := s.onLane n fun l => { l with rejRun := 0 }
      (s.put (Reg.SYNC_PD.PD.ix n) (est + tdivI (pd - est) 16).toNat).refreshHop

/-- A PDRSP that ended good on lane `n`, its SF stamped at `t4` (R176, R177); half the difference is truncated toward zero to 1/16 ns
(log entry 38). -/
def takePdrsp (s : State) (n : Nat) (pl : Bytes) (t4 : Nat) : State :=
  let l := s.lane n
  let fl := byteAt pl 2
  let s := if bit fl 6 then s.takePdown n (fieldAt pl 10 4) else s
  let turn := signed 48 (fieldAt pl 4 6)
  match l.t1 with
  | none => s
  | some t1 =>
    if !bit fl 7 || fieldAt pl 0 2 ≠ (l.pseq + 65535) % 65536 || (us 50 : Int) < turn then s
    else
      let s := s.onLane n fun l => { l with t1 := none }
      let pd := tdivI (((t4 : Int) - t1) - turn) 2
      if pd < -32 || 80000 < pd then s else s.takeSample n (max pd 0)

/-! The sync set. -/

/-- The sync set of a roster: its time reference and up to 14 further sync-capable entries by rank, each with a window (R178). Where
the time reference has no window the set holds up to 14 entries, not 15 (log entry 38). -/
def syncSet (s : State) (r : Roster) : List Entry :=
  let c := s.schedOf r
  let win (e : Entry) : Bool := (c.ofPos e.pos).any (·.d ≠ 0)
  let ref := (r.atPos r.timeref).toList.filter win
  let rest := (r.entries.filter fun e => e.syncCap && e.pos ≠ r.timeref && win e).foldl (fun acc e => insertByUid e acc) []
  ref ++ rest.take 14

/-- SYNC_SETINFO, SYNC_STAT.MEMBER and the positions of SYNC_MEM under the roster in force. -/
def refreshSet (s : State) : State :=
  let m := match s.roster with | some r => s.syncSet r | none => []
  let self := m.findIdx? (·.uid = s.entryUid)
  let s := (s.put Reg.SYNC_SETINFO.NSET m.length).put Reg.SYNC_SETINFO.SELFIDX (self.getD 15)
  let s := s.putB Reg.SYNC_STAT.MEMBER self.isSome
  (List.range 15).foldl (fun s i =>
    let s := (s.put (Reg.SYNC_MEM.RESULT.ix i) 0).put (Reg.SYNC_MEM.DEV.ix i) 0
    s.put (Reg.SYNC_MEM.POS.ix i) ((m[i]?).elim 0 Entry.pos)) s

/-! The agreement round. -/

/-- SYNC_STAT.STATE with the events of R184. -/
def setSyncState (s : State) (c : Nat) : State :=
  let old := s.get Reg.SYNC_STAT.STATE
  let s := s.put Reg.SYNC_STAT.STATE c
  let s := if old = 3 && c ≠ 3 then (s.raise Reg.SYNC_IRQ.DEGR).record 0x0504 else s
  let s := if c = 3 && old ≠ 3 then (s.raise Reg.SYNC_IRQ.DEGR).record 0x0503 else s
  let s := if c = 4 && old ≠ 4 then (s.raise Reg.SYNC_IRQ.HOLD).record 0x0505 else s
  -- members lost to a set that lacks some already (R187, R475)
  if c = 4 && old = 3 then s.secondFault 0x0503 0x0505 else s

/-- The deviation of a member in the cycle that ends: 0 for the node itself, else the mean of its lines (R180), truncated
toward zero to 1/16 ns (log entry 38). -/
def devOf (s : State) (e : Entry) : Option Int :=
  if e.uid = s.entryUid then some 0
  else match s.sync.devs.find? (·.uid = e.uid) with
    | none => none
    | some d => match d.a, d.b with
      | some a, some b => some (tdivI (a + b) 2)
      | some a, none => some a
      | none, b => b

/-- Out of precision after a round (R185). -/
def judgePrecision (s : State) (c : Option Int) : State :=
  let pi : Nat := 16 * s.piNs
  let good := c.any fun c => c.natAbs ≤ pi
  let s : State := if good then { s with sync.mark := false } else s
  let bad := (c.any fun c => pi < c.natAbs) || s.holdMax < s.get Reg.SYNC_SETINFO.HOLDCNT || s.sync.mark
  let was := s.flag Reg.SYNC_STAT.OOP
  let is := bad || (was && !good)
  let s := s.putB Reg.SYNC_STAT.OOP is
  let s := if is then s.bump Reg.SYNC_OOPCYC.COUNT else s
  if is && !was then
    let s := (s.raise Reg.SYNC_IRQ.OOP).record 0x0501
    let st := s.get Reg.SYNC_STAT.STATE
    if st = 3 then s.secondFault 0x0503 0x0501 else if st = 4 then s.secondFault 0x0505 0x0501 else s
  else if was && !is then (s.raise Reg.SYNC_IRQ.OOP).record 0x0502
  else s

/-- The rate round: r from the members' drift over `n` cycles, ρ clamped (R181, R182). -/
def rateRound (s : State) (m : List Entry) (n : Nat) : State :=
  let hist (u : Nat) : List (Option Int) := ((s.sync.raw.find? (·.1 = u)).map (·.2)).getD []
  let diffs := m.filterMap fun e => match (hist e.uid).head?, (hist e.uid)[n]? with
    | some (some a), some (some b) => some (a - b, 0)
    | _, _ => none
  let (lo, kept, hi) := ftaSplit diffs
  let s := s.bumpBy Reg.SYNC_DISC.COUNT (lo.length + hi.length)
  if kept.isEmpty then s
  else
    let r := tdivI ((kept.map (·.1)).sum * 2 ^ 32) (kept.length * n * s.tLen)
    let s : State := { s with sync.acq := false }
    if s.flag Reg.SYNC_CTRL.RATEHOLD || !s.flag Reg.SYNC_CTRL.EN then s
    else
      let rc := clampInt (-ppm50) ppm50 r
      let raw := s.sync.rho - rc
      let rho := clampInt (-ppm150) ppm150 raw
      let s := if rc ≠ r || rho ≠ raw then s.bump Reg.SYNC_CLAMP.COUNT else s
      let lim := rho = ppm150 || rho = -ppm150
      let s := { s with sync.rho := rho }.put Reg.SYNC_RATE.VALUE (unsigned 32 rho)
      let rise := lim && !s.flag Reg.SYNC_STAT.RCLAMP
      let s := s.putB Reg.SYNC_STAT.RCLAMP lim
      if rise then (s.raise Reg.SYNC_IRQ.RCLAMP).recordSess 0x0506 0 else s

/-- The boundary whose number stands is the Noon of the pending roster; a node that re-phases has its Noon at t_b, whatever its own count has
reached before (R100, R122). -/
def noonNow (s : State) : Bool := s.inau.pending.isSome && s.inau.noon = some s.cyc && !s.inau.rephase

/-- The basic cycle of the cycle that begins, 1/16 ns. -/
def tAhead (s : State) : Nat := if s.noonNow then us (250 * s.inau.pending.elim 0 (·.roster.cycle)) else s.tLen

/-- The agreement round at a boundary the node reaches by counting, `r` having been in force throughout the cycle that ends, at whose end the
residual was `carried` (R181, R183). The slew is limited to 50 ppm of the cycle in which it is applied (R182). -/
def syncRound (s : State) (r : Roster) (carried : Int) : State :=
  let m := s.syncSet r
  let s := s.bump Reg.SYNC_ROUNDS.COUNT
  let ds := m.map fun e => (e, s.devOf e)
  let v := (ds.zip (List.range ds.length)).filterMap fun x => x.1.2.map fun d => (d, x.2)
  let n := if s.sync.acq then 1 else s.rateInterval
  -- raw deviations, newest first
  let raws := ds.map fun x => (x.1.uid, (x.2.map (· + s.sync.slewSum)) :: (((s.sync.raw.find? (·.1 = x.1.uid)).map (·.2)).getD []).take 64)
  let s : State := { s with sync.raw := raws }
  let (lo, kept, hi) := ftaSplit v
  let s := (s.bumpBy Reg.SYNC_MISS.COUNT (ds.length - v.length)).bumpBy Reg.SYNC_DISC.COUNT (lo.length + hi.length)
  let s := (s.put Reg.SYNC_STAT.NVAL v.length).put Reg.SYNC_STAT.NKEPT kept.length
  let s := (ds.zip (List.range ds.length)).foldl (fun s x =>
    let i := x.2
    let res := if kept.any (·.2 = i) then 1 else if lo.any (·.2 = i) then 2 else if hi.any (·.2 = i) then 3 else 0
    let d := (x.1.2.map fun d => clampInt (-8191) 8191 (tdivI d 16)).getD 0
    (s.put (Reg.SYNC_MEM.RESULT.ix i) res).put (Reg.SYNC_MEM.DEV.ix i) (unsigned 14 d)) s
  let last := min 65535 ((kept.map fun (x : Int × Nat) => x.1.natAbs / 16).foldl max 0)
  let s := (s.put Reg.SYNC_WORST.LAST last).put Reg.SYNC_WORST.PEAK (max last (s.get Reg.SYNC_WORST.PEAK))
  let s := match kept with
    | [] =>
      let h := min 65535 (s.get Reg.SYNC_SETINFO.HOLDCNT + 1)
      let s := (s.put Reg.SYNC_SETINFO.HOLDCNT h).bump Reg.SYNC_HOLDCYC.COUNT
      { s with sync := { s.sync with slew := 0, fresh := false, carried := carried } }.setSyncState 4
    | _ =>
      let c := meanT (kept.map Prod.fst)
      let lim : Int := s.tAhead * 50 / 1000000
      let sl := if s.flag Reg.SYNC_CTRL.EN then clampInt (-lim) lim c else 0
      let s := if s.flag Reg.SYNC_CTRL.EN && sl ≠ c then s.bump Reg.SYNC_CLAMP.COUNT else s
      let s := (s.put Reg.SYNC_SETINFO.HOLDCNT 0).put Reg.SYNC_DEV.VALUE (unsigned 32 c)
      { s with sync := { s.sync with slew := sl, slewSum := s.sync.slewSum + sl, resid := c, fresh := true, est := some c } }
  let due := n ≤ s.sync.sinceRate + 1
  let s : State := { s with sync.sinceRate := if due then 0 else s.sync.sinceRate + 1 }
  let s := if due then s.rateRound m n else s
  let s := if kept.isEmpty then s else s.setSyncState (if s.sync.acq then 1 else if 4 ≤ v.length then 2 else 3)
  s.judgePrecision (if kept.isEmpty then none else some (meanT (kept.map Prod.fst)))

/-- Measurements of a cycle that has ended are discarded; SYNC_PDASYM takes effect (R177, R181); before the first boundary of a session 0
is in effect, whatever has been restored (log entry 38). -/
def clearDevs (s : State) : State :=
  let s : State := { s with sync := { s.sync with devs := [], seen := [] } }
  (List.range 4).foldl (fun s n => s.onLane n fun l => { l with asym := signed 16 (s.get (Reg.SYNC_PDASYM.ASYM.ix n)) }) s

/-- SYNC_STAT.STATE is OFF without a roster in force or a boundary, and leaves OFF for ACQUIRE once both stand (Table 06.3). -/
def refreshSyncOff (s : State) : State :=
  if s.inau.force.isNone || !s.cycRun then s.setSyncState 0
  else if s.get Reg.SYNC_STAT.STATE = 0 then s.setSyncState 1
  else s

/-- A re-phase discards raw deviations and S and returns to ACQUIRE (R183, R186). -/
def syncRephase (s : State) : State :=
  let s : State :=
    { s with sync := { s.sync with raw := [], slewSum := 0, slew := 0, resid := 0, fresh := false, carried := 0, sinceRate := 0, acq := true } }
  (s.setSyncState 1).refreshSyncOff

/-- A new time session: ρ, S and σ are 0 and the state is ACQUIRE (R186). -/
def syncSession (s : State) : State :=
  let s := s.syncRephase
  ({ s with sync := { s.sync with rho := 0, sigma := 0, est := none } }.put Reg.SYNC_RATE.VALUE 0).put Reg.SYNC_STAT.RCLAMP 0

/-- A path-delay frame of the type has ended on lane `n`: taken while the lane is up; another length than 16 counts in SYNC_PDREJ (R174). -/
def pdFrame (s : State) (n : Nat) (f : Bytes) (type : Nat) (take_ : State → Bytes → State) : State :=
  if s.laneUp n && headerCheck f = .ok && hCls f = .mgmt && hType f = type then
    if hLen f ≠ 16 then s.bump Reg.SYNC_PDREJ.COUNT else take_ s (payload f)
  else s

end State

/-- PDREQ_SEND_TIMER (R173, R175). -/
def execPdreqSendTimer (lane : Lane) (s : State) : Host.Outcome State Fault Refusal :=
  live s fun s =>
  done (match (s.lane lane).pdAt with
    | none => s
    | some t =>
      if !s.laneUp lane then s
      else
        let s := s.reach t
        let l := s.lane lane
        let fast := !s.flag (Reg.SYNC_PD.MEAS.ix lane) || l.reform
        let s := s.onLane lane fun l => { l with pdAt := some (s.now + if fast then us 20 else ms 1), pseq := (l.pseq + 1) % 65536, t1 := none }
        s.originate (s.inauFrame 0x13 (natBe 2 l.pseq ++ List.replicate 14 0)) [lane.val])

/-- PDREQ_RECEIVED (R173 to R175): answered on the same lane. -/
def execPdreqReceived (lane : Lane) (frame : Bytes) (ago : Nat) (stamped : Bool) (s : State) : Host.Outcome State Fault Refusal :=
  live s fun s =>
  done (s.pdFrame lane frame 0x13 fun s pl =>
    let meas := s.flag (Reg.SYNC_PD.MEAS.ix lane)
    let t2 := s.now - ago
    let fl := (if stamped then 0x80 else 0) + (if meas then 0x40 else 0)
    let ans := pl.take 2 ++ natBe 1 fl ++ [0] ++ natBe 6 0 ++ natBe 4 (if meas then s.get (Reg.SYNC_PD.PD.ix lane) else 0) ++ [0, 0]
    s.originate (s.inauFrame 0x14 ans) [lane.val] true 11 fun f => { f with patch := if stamped then .turn t2 else .none })

/-- PDRSP_RECEIVED (R176, R177). -/
def execPdrspReceived (lane : Lane) (frame : Bytes) (ago : Nat) (s : State) : Host.Outcome State Fault Refusal :=
  live s fun s =>
  done (s.pdFrame lane frame 0x14 fun s pl => s.takePdrsp lane pl (s.now - ago))

/-- SYNC_WORST_CLEAR (R189). -/
def execSyncWorstClear (value : Word) (s : State) : Host.Outcome State Fault Refusal :=
  live s fun s =>
  let s := s.storeWord Reg.SYNC_CTRL.EN.addr value.toNat
  done (if bit value.toNat 2 then s.put Reg.SYNC_WORST.PEAK 0 else s)

end Sys2Proof.Machine
end

