-- ==== Sys2Proof/Machine/Twin.lean ====
section
/-! DEFINITION. Twin operation (chapter 12): the twin link (R334), heartbeats (R336, R337), states (R340 to R343), the release (R346),
relays (R349), the mirror at the standby (R353), role notices and verdicts (R356 to R359). -/

namespace Sys2Proof.Machine

/-- KIND and payload of a twin-link frame; none where its CRC, its length or its KIND is wrong (R334). -/
def twinFrame (b : Bytes) : Option (Nat × Bytes) :=
  let n := fieldAt b 2 2
  let k := byteAt b 0
  let pl := (b.drop 8).take n
  let len : Bool := match k with
    | 1 => n = 32
    | 2 => n = 32
    | 3 => 24 ≤ n && n ≤ 2072
    | 4 => 72 ≤ n && n ≤ 2044 && (n - 4) % 68 = 0
    | 5 => n = 24
    | _ => false
  if b.length = 12 + n && b.drop (8 + n) = fcsBytes (b.take (8 + n)) && len then some (k, pl) else none

/-- A list without the entries older than `w` cycles. -/
def recent {α : Type} (cyc w : Nat) (at_ : α → Nat) (l : List α) : List α := l.filter fun x => decide (sdiff32 cyc (at_ x) < (w : Int))

namespace State

/-- The partner's UID (TWIN_PUIDHI, TWIN_PUIDLO); 0 if never heard. -/
def partnerUid (s : State) : Nat := s.get Reg.TWIN_PUIDHI.UID * 2 ^ 32 + s.get Reg.TWIN_PUIDLO.UID

/-- The heartbeat payload on a path with its HSEQ (Table 12.3); the release exchange runs in those of the twin link (R346). -/
def heartbeat (s : State) (link : Bool) (hseq : Nat) : Bytes :=
  let ack := if link then s.twin.ackRel else none
  let rel := link && s.flag Reg.TWIN_STAT.RELPEND
  let fl := 128 * b2n rel + 64 * b2n ack.isSome + 32 * b2n (!s.flag Reg.SYNC_STAT.OOP) + 16 * b2n s.inau.force.isSome
    + 8 * b2n (s.flag Reg.TWIN_STAT.NEEDFULL)
  natBe 8 s.uid ++ natBe 1 (s.get Reg.TWIN_STAT.TSTATE) ++ natBe 1 fl ++ natBe 2 s.gen ++ natBe 4 s.claim ++ natBe 4 s.cyc
  ++ natBe 4 (if rel then s.get Reg.TWIN_RELCYC.RELCYC else ack.getD 0)
  ++ natBe 4 (if s.claim ≠ 0 then s.twin.sealed else s.twin.applied.getD 0) ++ natBe 2 hseq ++ natBe 2 0

/-- A 100 µs tick (R336). -/
def hbTick (s : State) : State :=
  if !s.twinOn || s.power ≠ .active then s
  else
    let s := (s.reach s.twin.tickAt).twinRun
    let q := s.twin.hseqT
    let s := s.twinSend 1 (s.heartbeat true q)
    { s with twin := { s.twin with tickAt := s.now + us 100, hseqT := (q + 1) % 65536 } }

/-- The consist heartbeat of this cycle, or of this millisecond while no cycle runs (R336). -/
def hbConsist (s : State) : State :=
  let due := if s.cycRun then s.bnd + us 10 else s.twin.cbAt + ms 1
  if !s.twinOn || s.power ≠ .active || s.partnerUid = 0 || (s.cycRun && s.twin.cbAt = due) then s
  else
    let s := (s.reach due).twinRun
    let q := s.twin.hseqC
    let s : State := { s with twin := { s.twin with cbAt := due, hseqC := (q + 1) % 65536 } }
    let b := natBe 6 (2 * 2 ^ 40 + s.partnerUid % 2 ^ 40) ++ natBe 6 s.ioAddress ++ natBe 2 (s.get Reg.TWIN_HBETYPE.ETYPE) ++ s.heartbeat false q
    s.sendEth (s.get Reg.TWIN_CFG.HBPORT) b

/-- The entry UID and the flag of the pair are formed when the partner is first heard (R15, R74); after SEEK that is a joint change. -/
def formPair (s : State) (seek : Bool) : State :=
  if s.inau.pair.isSome then s
  else
    let p := s.partnerUid
    let s : State := { s with inau.pair := some (if s.uid < p then (s.uid, s.half) else (p, 1 - s.half)) }
    if seek then s else s.jointChange none

/-- The partner is heard, for the first time or again (R337, R340, R341, R343, R353). -/
def partnerBack (s : State) : State :=
  let st := s.get Reg.TWIN_STAT.TSTATE
  let s := (s.record 0x0A01).raise Reg.TWIN_IRQ.PBACK
  let s := s.formPair (st = 1)
  let s : State := { s with twin.seekAt := none }
  if s.claim ≠ 0 then (s.allDirty).setTstate 3
  else
    let s := if st = 5 then s.needFull else s
    s.setTstate 4

/-- A heartbeat of the partner on a path (R337 to R342, R346, R353). A release that the holder's twin-link heartbeats no longer announce falls at
the standby too (log entry 43). -/
def takeHb (s : State) (link : Bool) (h : Bytes) : State :=
  let was := s.partnerPresent
  let claim := fieldAt h 12 4
  let fl := byteAt h 9
  let rel := fieldAt h 20 4
  let s := if link then (s.bump Reg.TWIN_TLHB.COUNT).put Reg.TWIN_STAT.TLOK 1 else (s.bump Reg.TWIN_CBHB.COUNT).put Reg.TWIN_STAT.CBOK 1
  let s : State := if link then { s with twin.lastTl := some s.now } else { s with twin.lastCb := some s.now }
  let s := ((s.put Reg.TWIN_PUIDHI.UID (fieldAt h 0 4)).put Reg.TWIN_PUIDLO.UID (fieldAt h 4 4)).put Reg.TWIN_PCLAIM.VALUE claim
  let s := s.noteEpoch claim
  let s : State := { s with twin := { s.twin with heard := true, pState := byteAt h 8, pFlags := fl, pGen := fieldAt h 10 2
                                                  pCyc := fieldAt h 16 4, pRel := rel, pMir := fieldAt h 24 4 } }
  let s := if was then s else s.partnerBack
  if s.claim ≠ 0 then
    let s : State := if s.claim < claim then s.dueYield 1 else s
    let s : State := if bit fl 3 then { s with twin.fullDue := true } else s
    if link && s.flag Reg.TWIN_STAT.RELPEND && bit fl 6 && rel = s.get Reg.TWIN_RELCYC.RELCYC then { s with twin.ackGot := true } else s
  else if !link then s
  else if bit fl 7 && s.get Reg.TWIN_STAT.TSTATE = 4 then { s with twin.ackRel := some rel }
  else if claim ≠ 0 then { s with twin.ackRel := none }
  else s

/-- Twin X's item is known, or the link it comes by is lost: waves that waited for it go out (R84, R333). -/
def entryCame (s : State) : State :=
  if s.inau.round.any (fun r => r.phase = .count && r.own.isNone) && s.inau.waveAt.isSome && s.half = 1 then
    s.fixItem.originWaves.relayWaiting.judgeChain
  else s

/-- One path has fallen silent (R337). -/
def pathSilent (s : State) (link : Bool) : State :=
  let s := if link then (s.put Reg.TWIN_STAT.TLOK 0).entryCame else s.put Reg.TWIN_STAT.CBOK 0
  if s.partnerPresent then (s.record 0x0A03).raise Reg.TWIN_IRQ.ONEPATH
  else
    let s := (s.record 0x0A02).raise Reg.TWIN_IRQ.PLOST
    let st := s.get Reg.TWIN_STAT.TSTATE
    if st = 3 then s.setTstate 2 else if st = 4 then { s with twin.takeover := true } else s

/-- A write of TWIN_CTRL (R342, R343, R346). -/
def writeTwinCtrl (s : State) (v : Nat) : State :=
  let s := s.storeWord Reg.TWIN_CTRL.EN.addr v
  let st := s.get Reg.TWIN_STAT.TSTATE
  let s : State :=
    if !bit v 3 then s
    else if s.twinOn && (st = 5 || (st = 4 && !s.partnerPresent)) then { s with twin.takeDue := some 4 }
    else s.put Reg.TWIN_STAT.WIGN 1
  if bit v 2 && s.claim ≠ 0 && s.twinOn && s.partnerPresent && s.twin.pState = 4 && !s.flag Reg.TWIN_STAT.RELPEND then
    { (s.put Reg.TWIN_STAT.RELPEND 1).put Reg.TWIN_RELCYC.RELCYC ((s.cyc + 4) % 2 ^ 32) with twin.ackGot := false }
  else s

/-- A twin-link frame: its payload where it has the KIND; a bad frame is counted (R334). -/
def twinRx (s : State) (kind : Nat) (b : Bytes) (f : State → Bytes → State) : State :=
  if !s.twinOn || s.power ≠ .active then s
  else match twinFrame b with
    | none => s.bump Reg.TWIN_TLERR.COUNT
    | some (k, pl) => if k = kind then f s pl else s

/-- An ENTRY frame at twin Y (R333). -/
def takeEntry (s : State) (pl : Bytes) : State :=
  if s.half ≠ 1 then s
  else
    let r := fieldAt pl 8 2
    let it := (pl.drop 16).take 16
    let s : State := { s with twin.entry := some (r, it) }
    let s : State := if it = (s.ownEntry 0).bytes || s.twin.diffRnd = some r then s else { s.record 0x0A0C with twin.diffRnd := some r }
    s.entryCame

/-- A RELAY frame (R349, R351): kept for the window of the next cycle, unless its guardian point has passed. -/
def takeRelay (s : State) (pl : Bytes) : State :=
  let k := fieldAt pl 0 4
  let fwd : Bool := byteAt pl 4 = 1
  let h := (pl.drop 8).take 16
  let s := s.bump Reg.TWIN_RLYSENT.COUNT
  let s := s.setSeq (b2n (hCls h = .vital)) (hPub h) (hSeq h) k
  let d := sdiff32 s.cyc k
  let late := match s.ownWin with
    | some w => 1 < d || (d = 1 && decide (s.bnd + ns (if fwd then w.oF else w.oR) ≤ s.now + us 1))
    | none => true
  if late then (s.bump Reg.TWIN_RLYSKIP.COUNT).recordGen 0x0A0B 0
  else { s with sched.relays := s.sched.relays ++ [(k, fwd, h, pl.drop 24)] }

/-- Blocks of a MIR frame: ADDR and data. -/
def mirBlocks : Nat → Bytes → List (Nat × Bytes)
  | 0, _ => []
  | n + 1, b => if b.length < 68 then [] else (fieldAt b 0 4, (b.drop 4).take 64) :: mirBlocks n (b.drop 68)

/-- A mirror set is discarded (R353). -/
def discardSet (s : State) : State := ((s.bump Reg.TWIN_MIRBAD.COUNT).raise Reg.TWIN_IRQ.MIRBAD).needFull

/-- Set `no` goes on at the standby: blocks of another set that has had no SEAL are discarded (R353). -/
def openSet (s : State) (no : Nat) : State :=
  if s.twin.collNo = no || s.twin.coll.isEmpty then s else { s with twin.coll := [] }.discardSet

/-- A MIR frame at the standby (R352). -/
def takeMir (s : State) (pl : Bytes) : State :=
  if s.claim ≠ 0 then s
  else
    let no := fieldAt pl 0 4
    let s := s.openSet no
    let old := if s.twin.collNo = no then s.twin.coll else []
    { s with twin := { s.twin with collNo := no, coll := old ++ mirBlocks 30 (pl.drop 4) } }

/-- A SEAL at the standby (R353). -/
def takeSeal (s : State) (pl : Bytes) : State :=
  if s.claim ≠ 0 then s
  else
    let no := fieldAt pl 0 4
    let n := fieldAt pl 8 2
    let s := s.openSet no
    let got := if s.twin.collNo = no then s.twin.coll else []
    let s : State := { s with twin.coll := [] }
    let good : Bool := got.length = n && crc32 (got.flatMap fun b => natBe 4 b.1 ++ b.2) = fieldAt pl 20 4
    if !good then s.discardSet
    else
      let slots := match s.image? with
        | some b => imProg b = fieldAt pl 12 4 && imRev b = fieldAt pl 16 4
        | none => false
      let s := s.putB Reg.TWIN_STAT.MIRSLOT slots
      let take := got.filter fun b => slots || b.1 / 2 ^ 28 ≠ 3
      let store := s.twin.store.filter (fun b => !(take.any fun t => t.1 = b.1)) ++ take
      let s : State := { s with twin := { s.twin with store := store, applied := some no, setCyc := fieldAt pl 4 4 } }
      ((s.putB Reg.TWIN_STAT.MIRCONS (!bit (byteAt pl 10) 7)).put Reg.TWIN_STAT.NEEDFULL 0).bump Reg.TWIN_MIRSETS.COUNT

/-! Roles. -/

/-- The roles of a position: leader, time reference, loop head, in bits 7 to 5. -/
def rolesOf (r : Roster) (p : Nat) : Nat := 128 * b2n (r.leader = p) + 64 * b2n (r.timeref = p) + 32 * b2n (r.loophead = p)

/-- The role notice of every eighth cycle (R356). -/
def sendRole (s : State) : State :=
  match s.roster with
  | none => s
  | some r =>
    let ro := if s.pos = 0 then 0 else rolesOf r s.pos
    if ro = 0 || s.claim = 0 || s.cyc % 8 ≠ 0 then s
    else s.sendNotice 0x52 (natBe 8 s.uid ++ natBe 4 s.claim ++ natBe 1 ro ++ natBe 3 0)

/-- A role notice is kept (R357). -/
def takeRole (s : State) (f : Bytes) : State :=
  let p := pkParams (wrPacket (payload f))
  { s with twin.roles := (hSrc f, fieldAt p 0 8, fieldAt p 8 4, s.cyc) :: recent s.cyc 256 (·.2.2.2) s.twin.roles }

/-- A verdict for a position, once on each line (R357); a twin half sends on its own line only (R228). -/
def sendVerdict (s : State) (pos kind chip claim : Nat) : State :=
  let q := natBe 2 pos ++ natBe 1 kind ++ [0] ++ natBe 8 chip ++ natBe 4 claim
  let pk := natBe 2 0x53 ++ natBe 2 0 ++ natBe 2 16 ++ [0, 0] ++ q
  let s := (if s.twinOn then [s.half] else [0, 1]).foldl (fun s l => s.sendOut { type := 0x04, dst := pos, ack := false, packet := pk, line := some l }) s
  let s := s.bump Reg.TWIN_VERDTX.COUNT
  ({ s with twin.verdTx := (pos, s.cyc) :: recent s.cyc 8 (·.2) s.twin.verdTx } : State).record 0x0A08 (natBe 2 pos ++ natBe 1 kind)

/-- What a member decides about a position at a boundary (R357): KIND, chip, claim. -/
def judgeRole (s : State) (pos : Nat) : Option (Nat × Nat × Nat) :=
  let mine := s.twin.roles.filter (·.1 = pos)
  let prd := fun (x : Nat × Nat × Nat × Nat) => x.2.2.2 / 8
  let dual := mine.findSome? fun x => (mine.find? fun y => y.2.1 ≠ x.2.1 && prd y = prd x).map fun y => if x.2.2.1 < y.2.2.1 then y else x
  match dual with
  | some x => some (1, x.2.1, x.2.2.1)
  | none =>
    let quiet (c : Nat) : Bool := (s.vacWin : Int) ≤ sdiff32 s.cyc c
    match mine.head? with
    | some x => if quiet x.2.2.2 then some (2, 0, 0) else none
    | none => match s.twin.watched.find? (·.1 = pos) with
      | some w => if quiet w.2 then some (2, 0, 0) else none
      | none => none

/-- A cycle number stays comparable with the present one: an age of 2^30 cycles grows no more. -/
def capAge (s : State) (c : Nat) : Nat := if (2 ^ 30 : Int) ≤ sdiff32 s.cyc c then (s.cyc + 2 ^ 32 - 2 ^ 30) % 2 ^ 32 else c

/-- A sync-set member in service judges each twin position that holds a role (R357, R374). -/
def watchRoles (s : State) : State :=
  match (if s.active then s.roster else none) with
  | none => s
  | some r =>
    let ps := (r.entries.filter fun e => e.twin && rolesOf r e.pos ≠ 0 && e.pos ≠ s.pos).map (·.pos)
    let w := ps.map fun p => (p, ((s.twin.watched.find? (·.1 = p)).map (s.capAge ·.2)).getD s.cyc)
    let s : State := { s with twin := { s.twin with watched := w, roles := (s.twin.roles.filter fun x => ps.contains x.1).map fun x =>
      (x.1, x.2.1, x.2.2.1, s.capAge x.2.2.2) } }
    if !((s.syncSet r).any fun e => e.uid = s.entryUid) then s
    else ps.foldl (fun s p =>
      if (recent s.cyc 8 (·.2) s.twin.verdTx).any (·.1 = p) then s
      else match s.judgeRole p with
        | some (k, chip, claim) =>
          -- the notices judged count no more, but for the newest, from which a vacancy counts
          let s : State := if k = 1 then
              { s with twin.roles := ((s.twin.roles.find? (·.1 = p)).toList) ++ s.twin.roles.filter (·.1 ≠ p) } else s
          s.sendVerdict p k chip claim
        | none => s) s

/-- The members whose verdicts count at this position (R358). -/
def voters (s : State) : List Nat :=
  match s.roster with
  | none => []
  | some r => ((s.syncSet r).map (·.pos)).filter (· ≠ s.pos)

/-- A verdict for the own position (R358). -/
def takeVerdict (s : State) (f : Bytes) : State :=
  let p := pkParams (wrPacket (payload f))
  if !s.twinOn || !s.voters.contains (hSrc f) || hGen f ≠ s.gen || fieldAt p 0 2 ≠ s.pos then s
  else
    let s := s.bump Reg.TWIN_VERDRX.COUNT
    { s with twin.verdRx := (hSrc f, byteAt p 2, fieldAt p 4 8, s.cyc) :: recent s.cyc 16 (·.2.2.2) s.twin.verdRx }

/-- KIND and chip on which more than half of the members agree within 16 cycles (R358); a Noon ends the verdicts of the generation before. -/
def majority (s : State) : Option (Nat × Nat) :=
  let n := s.voters.length
  let vs := (recent s.cyc 16 (·.2.2.2) s.twin.verdRx).filter fun v => s.voters.contains v.1
  let by_ (k c : Nat) : Nat := ((vs.filter fun v => v.2.1 = k && (k = 2 || v.2.2.1 = c)).map (·.1)).dedup.length
  (vs.find? fun v => (v.2.1 = 1 || v.2.1 = 2) && n < 2 * by_ v.2.1 v.2.2.1).map fun v => (v.2.1, v.2.2.1)

/-- A majority is acted on at the boundary (R359). -/
def actVerdict (s : State) : State :=
  if !s.twinOn then s
  else match s.majority with
    | none => s
    | some (k, c) =>
      let s := (({ s with twin.verdRx := [] } : State).record 0x0A09).raise Reg.TWIN_IRQ.VERDICT
      if k = 1 then
        if c = s.uid || s.claim = 0 then s else s.dueYield 3
      else if s.claim ≠ 0 then (if s.partnerPresent then s.dueYield 3 else s)
      else if s.partnerPresent && s.get Reg.TWIN_PCLAIM.VALUE = 0 && s.half = 1 then s
      else { s with twin.takeDue := some 5 }

/-- TWIN_MIR (R353): cycles since the commit of the last set, dirty blocks. -/
def twinMir (s : State) : Nat × Nat :=
  (if s.twinOn && s.cycRun then min 0xFFFF ((s.cyc + (2 ^ 32 - s.twin.setCyc % 2 ^ 32)) % 2 ^ 32) else 0, min 0xFFFF s.twin.dirty.length)

end State

/-- TWIN_HB_TICK (R336). -/
def execTwinHbTick (s : State) : Host.Outcome State Fault Refusal := liveActive s fun s => done s.hbTick

/-- CONSIST_HB_SEND (R336). -/
def execConsistHbSend (s : State) : Host.Outcome State Fault Refusal := liveActive s fun s => done s.hbConsist

/-- TWIN_HB_RECEIVED (R336): once the partner is known, a heartbeat of another chip is discarded. -/
def execTwinHbReceived (frame : Bytes) (s : State) : Host.Outcome State Fault Refusal :=
  liveActive s fun s =>
  done (s.twinRx 1 frame fun s pl => if s.partnerUid = 0 || fieldAt pl 0 8 = s.partnerUid then s.takeHb true pl else s)

/-- CONSIST_HB_RECEIVED (R336): a good frame, FCS stripped; a heartbeat on another port or of another chip is discarded. -/
def execConsistHbReceived (port : Port) (frame : Bytes) (s : State) : Host.Outcome State Fault Refusal :=
  liveActive s fun s =>
  let h := (frame.drop (ethNext frame)).take 32
  done (if s.twinOn && s.power = .active && s.linkUp port && s.get Reg.TWIN_CFG.HBPORT = port && (s.steer port frame).mcore
      && ethType frame = s.get Reg.TWIN_HBETYPE.ETYPE && fieldAt frame 0 6 = s.ioAddress && s.partnerUid ≠ 0
      && fieldAt h 0 8 = s.partnerUid && h.length = 32 then s.takeHb false h else s)

/-- TWIN_PATH_SILENT (R337). -/
def execTwinPathSilent (s : State) : Host.Outcome State Fault Refusal :=
  liveActive s fun s =>
  done (match s.twin.lastTl with
    | some t => if s.flag Reg.TWIN_STAT.TLOK then (s.reach (t + us 100 * s.hbMiss)).pathSilent true else s
    | none => s)

/-- CONSIST_PATH_SILENT (R337). -/
def execConsistPathSilent (s : State) : Host.Outcome State Fault Refusal :=
  liveActive s fun s =>
  done (match s.twin.lastCb with
    | some t => if s.flag Reg.TWIN_STAT.CBOK then (s.reach (t + (s.cbMiss - 1) * s.tOrMs + us 500)).pathSilent false else s
    | none => s)

/-- SEEK_TIMEOUT (R340). -/
def execSeekTimeout (s : State) : Host.Outcome State Fault Refusal :=
  liveActive s fun s =>
  done (match s.twin.seekAt with
    | some t => if s.seeking then ({ s.reach t with twin.seekAt := none } : State).setTstate 2 else s
    | none => s)

/-- TWIN_TAKE_WRITE (R343). -/
def execTwinTakeWrite (value : Word) (s : State) : Host.Outcome State Fault Refusal := liveActive s fun s => done (s.writeTwinCtrl value.toNat)

/-- TWIN_YIELD_WRITE (R346). -/
def execTwinYieldWrite (value : Word) (s : State) : Host.Outcome State Fault Refusal := liveActive s fun s => done (s.writeTwinCtrl value.toNat)

/-- TWIN_ENTRY_RECEIVED (R333). -/
def execTwinEntryReceived (frame : Bytes) (s : State) : Host.Outcome State Fault Refusal := liveActive s fun s => done (s.twinRx 2 frame State.takeEntry)

/-- TWIN_RELAY_RECEIVED (R349). -/
def execTwinRelayReceived (frame : Bytes) (s : State) : Host.Outcome State Fault Refusal := liveActive s fun s => done (s.twinRx 3 frame State.takeRelay)

/-- MIR_FRAME_RECEIVED (R352). -/
def execMirFrameReceived (frame : Bytes) (s : State) : Host.Outcome State Fault Refusal := liveActive s fun s => done (s.twinRx 4 frame State.takeMir)

/-- MIRROR_SEAL_RECEIVED (R353). -/
def execMirrorSealReceived (frame : Bytes) (s : State) : Host.Outcome State Fault Refusal := liveActive s fun s => done (s.twinRx 5 frame State.takeSeal)

/-- ROLENOT (R356, R357): the oldest notice, if it is a role notice. -/
def execRolenot (s : State) : Host.Outcome State Fault Refusal :=
  live s fun s =>
  done (match s.popNotice 0x52 with
    | some (f, s) => s.takeRole f
    | none => s)

/-- VERDICT (R357, R358): the oldest notice, if it is a verdict. -/
def execVerdict (s : State) : Host.Outcome State Fault Refusal :=
  live s fun s =>
  done (match s.popNotice 0x53 with
    | some (f, s) => s.takeVerdict f
    | none => s)

end Sys2Proof.Machine
end

