-- ==== Sys2Proof/Machine/Noon.lean ====
section
/-! DEFINITION. Noon: a roster comes into force (R24, R98, R100, R112, R113, R119, R125, R126, R161, R164 to R167, R186, R448). -/

namespace Sys2Proof.Machine

/-- The generation after `g` (R91). -/
def genAfter (g : Nat) : Nat := if g = 65535 then 1 else g + 1

namespace State

/-- The registers of INAU that show the roster in force; every read-out of a roster ends (R7, R106). -/
def showRoster (s : State) (h : Held) : State :=
  let r := h.roster
  let me := r.ofUid s.entryUid
  let s := ((s.put Reg.INAU_GEN.GEN r.gen).put Reg.INAU_POS.POS (me.elim 0 (·.pos))).put Reg.INAU_POS.NPOS r.n
  let s := ((s.put Reg.INAU_ROLE.LEADER r.leader).put Reg.INAU_ROLE.TIMEREF r.timeref).put Reg.INAU_LOOP.LOOPHEAD r.loophead
  let s := ((s.put Reg.INAU_LOOP.NEXCL r.nexcl).put Reg.INAU_SUM.SUM h.sum).put Reg.INAU_NOON.NOON s.cyc
  let s := (s.put Reg.INAU_STAT.INFORCE 1).putB Reg.INAU_STAT.LOOP r.loop
  let s := s.putB Reg.INAU_STAT.MODE r.sticky
  let s := match me with
    | some e => s.putB Reg.INAU_STAT.ORIENT e.orient
    | none => s
  if s.get Reg.INAU_MBSEL.SRC ≤ 3 then s.put Reg.INAU_MBSTAT.VALID 0 else s

/-- INAU_STAT.MODEMM (R20): the key and the roster differ in mode. -/
def showModeMismatch (s : State) (r : Roster) : State :=
  let mm := s.flag Reg.INAU_CTRL.STICKY != r.sticky
  let s := s.putB Reg.INAU_STAT.MODEMM mm
  if mm then (s.raise Reg.INAU_IRQ.MODEMM).recordGen 0x0210 0 else s

/-- A loop opened or closed (R125, R126), a mode changed (R166, R167) by the roster `r`. -/
def forceEvents (s : State) (r : Roster) (had oldLoop : Bool) (oldMode : Nat) : State :=
  let s := if had && oldLoop && !r.loop then s.record 0x0228 else s
  let s := if had && !oldLoop && r.loop then s.record 0x0229 else s
  let s := if had && oldMode ≠ r.mode then (s.raise Reg.SCHD_IRQ.MODESW).record 0x0306 else s
  (s.put Reg.SCHD_STAT.PENDV 0).put Reg.SCHD_STAT.PENDMODE 0

/-- What follows the roster in force: isolation, subscriptions, those of stack members, schedule, the break joint, train time, the role. -/
def forceFollow (s : State) (oldRef : Option Nat) : State :=
  let s := (s.refreshIsolation 0).refreshIsolation 1
  let s := (s.resolveSubs.tellRoster s.members).refreshSchd.refreshSet
  let s := s.putB Reg.FWD_STAT.BREAK s.breakEnd.isSome
  (s.timeNoon oldRef).refreshRole

/-- A roster comes into force at this boundary, at a Noon or at the Twilight commit: what R24, R113 and R167 ask of every node. -/
def takeForce (s : State) (h : Held) : State :=
  let r := h.roster
  let old := s.inau.force
  let oldRef := (old.bind fun o => o.roster.atPos o.roster.timeref).map Entry.uid
  let oldMode := s.modeNow
  let oldLoop := old.any fun o => o.roster.loop
  let s : State := { s with onceGen := [], cmd.replay := [], twin.verdRx := [], fab.vit := s.fab.vit.map fun x => (x.1, { x.2 with heard := false })
                            inau := { s.inau with force := some h, prev := old, noonCyc := some s.cyc, lastNoon := s.cyc, kept := none } }
  let s := (s.showRoster h).bump Reg.INAU_COMMITS.COUNT
  ((s.showModeMismatch r).forceEvents r old.isSome oldLoop oldMode).forceFollow oldRef

/-- What the chain of the roster committed says of its lead requests (R89, R90): LEADCONF and 0x0212 follow the roster that comes into force
(log entry 38). -/
def commitFlags (s : State) (h : Held) : State :=
  let s := s.putB Reg.INAU_STAT.LEADCONF (h.leadConf || h.leadNotAdm)
  let s := if h.leadConf then s.recordGen 0x0212 0 else s
  if h.leadNotAdm then s.recordGen 0x0214 0 else s

/-- INAU_STAT.NOTADM follows the roster committed. -/
def commitAdmission (s : State) : State :=
  let out := s.pos = 0
  let s := s.putB Reg.INAU_STAT.NOTADM out
  let s := if out then s.raise Reg.INAU_IRQ.NOTADM else s
  if out && s.flag Reg.INAU_CTRL.EN && !s.flag Reg.INAU_STAT.EXCL then s.record 0x0211 else s

/-- A joining Noon (R166, R167): the anchor restores the mode of W. -/
def commitJoin (s : State) (h : Held) (oldMode : Nat) (had : Bool) : State :=
  if !h.joining then s
  else
    let s : State := { s with sched.joinNoon := some (s.cyc, h.anchor) }
    if had && s.isAnchor h && s.holdsClaim && oldMode ≠ 0 && h.roster.mode = 0 then
      { s with sched := { s.sched with resMode := oldMode, resAnn := 4 } }
    else s

/-- The round held at Noon: the one that produced the roster is over, one whose waves R98 deferred starts them. -/
def commitRound (s : State) : State :=
  match s.inau.round.map Round.phase with
  | some .pending => s.onRound fun r => { r with phase := .committed }
  | some .count => if s.inau.waveAt.isNone then { s.sendEntry with inau.waveAt := some (s.now + s.tWave) }.originWaves else s
  | _ => s

/-- The two rounds of a compaction (R119): the roster that has come into force is the result of round `rnd`. -/
def commitCompact (s : State) (rnd : Option (Nat × Nat)) : State :=
  if s.inau.compact = 0 || s.inau.compactRnd.isNone || s.inau.compactRnd ≠ rnd then s
  else if s.inau.compact = 1 then
    let s : State := { s with inau := { s.inau with compact := 2, compactRnd := none } }
    if s.isLeader then s.reinau false else { s with inau.compact := 0 }
  else { s with inau := { s.inau with compact := 0, compactRnd := none } }.completeOp 0x43 0 0

/-- The pending roster comes into force at Noon (R100): the round that produced it is over, or the waves that R98 deferred start. -/
def commitPending (s : State) : State :=
  match s.inau.pending with
  | none => s
  | some h =>
    let oldMode := s.modeNow
    let had := s.inau.force.isSome
    let rnd := s.inau.pendingRnd
    let s : State := { s with inau := { s.inau with pending := none, pendingRnd := none, noon := none, place := none, rephase := false, fails := 0, minor := 0 } }
    let s := (s.takeForce h).record 0x0202
    let s := s.raise Reg.INAU_IRQ.COMMIT
    let s := s.put Reg.INAU_STAT.NOAGREE 0
    let s := ((s.commitFlags h).commitAdmission).commitJoin h oldMode had
    ((s.commitRound).commitCompact rnd).refreshInau

/-- A lone excluded node holds no roster in force any more: no generation, position or role (R502). -/
def forceGone (s : State) : State :=
  let s := ((s.put Reg.INAU_GEN.GEN 0).put Reg.INAU_POS.POS 0).put Reg.INAU_POS.NPOS 0
  let s := ((s.put Reg.INAU_ROLE.LEADER 0).put Reg.INAU_ROLE.TIMEREF 0).put Reg.INAU_LOOP.LOOPHEAD 0
  let s := ((s.put Reg.INAU_LOOP.NEXCL 0).put Reg.INAU_SUM.SUM 0).put Reg.INAU_STAT.INFORCE 0
  let s := ((s.put Reg.INAU_STAT.LOOP 0).put Reg.INAU_STAT.MODE 0).put Reg.INAU_STAT.ORIENT 0
  (((s.put Reg.INAU_STAT.MODEMM 0).forceFollow none).refreshSyncOff).mailCheck

/-- ROSTER_COMPUTE_COMPLETE's effect (R88, R502). -/
def computeComplete (s : State) : State :=
  let had := s.inau.force.isSome
  let s := s.computed
  if had && s.inau.force.isNone then s.forceGone else s

end State

/-- ROSTER_COMPUTE_COMPLETE (R88, R502). -/
def execRosterComputeComplete (s : State) : Host.Outcome State Fault Refusal := live s fun s => done s.computeComplete

end Sys2Proof.Machine
end

