-- ==== Sys2Proof/Machine/Recorder.lean ====
section
/-! DEFINITION. The event recorder (R383 to R407): rate classes, staging, the MRAM blocks and their writes, retirement, the start-up scan,
host records, the freeze, the read cursor, the mirror, operating time and checkpoint. -/

namespace Sys2Proof.Machine

/-- Reporting block of a device code, by the second hex digit of its BAR0 offset (Tables 14.5, 14.6); 0x0F codes report for GLB. -/
def srcBlock (code : Nat) : Nat :=
  match code / 256 with
  | 1 => 1 | 2 => 2 | 3 => 3 | 4 => 10 | 5 => 4 | 6 => 5 | 7 => 6 | 8 => 7 | 9 => 8 | 10 => 9 | 11 => 11 | 12 => 12 | 13 => 13 | 14 => 14
  | _ => 0

/-- Body of a device record: the context of Table 14.5, then its parameters. -/
def EventRec.body (e : EventRec) : Bytes :=
  natBe 4 e.cyc ++ natBe 6 e.tsec ++ natBe 4 e.tns ++ natBe 2 e.gen ++ natBe 2 e.pos ++ natBe 1 (srcBlock e.code)
    ++ natBe 1 (128 * b2n e.tsv + (if e.stack = 0 then 0 else 64 + e.stack)) ++ e.params

/-- Lines that a record takes (R384). -/
def StRec.lines (r : StRec) : Nat := ceilDiv (16 + r.body.length) 16

/-- SYNC values (Table 14.4). -/
def syncDone : Nat := 0x5B
def syncOpen : Nat := 0x2D
def syncVoid : Nat := 0x36
def syncEnd : Nat := 0x47

/-- SYNCLEN of a record. -/
def syncLen (sync len : Nat) : Bytes := natBe 2 (sync * 512 + len % 512)

/-- The lines of a record as it is written: header with SYNC = OPEN, then the body padded with 0 (R384, R385). -/
def StRec.toLines (r : StRec) (seq : Nat) : List Bytes :=
  let head := syncLen syncOpen r.body.length ++ natBe 2 r.code ++ natBe 4 seq ++ natBe 4 (r.ot / 256) ++ natBe 1 (r.ot % 256) ++ natBe 3 r.pcc
  let n := r.lines - 1
  let body := r.body ++ List.replicate (16 * n - r.body.length) 0
  head :: (List.range n).map fun i => (body.drop (16 * i)).take 16

/-- SYNC and BLEN in a header line. -/
def lineSync (l : Bytes) : Nat := fieldAt l 0 2 / 512
def lineLen (l : Bytes) : Nat := fieldAt l 0 2 % 512
def lineCode (l : Bytes) : Nat := fieldAt l 2 2
def lineSeq (l : Bytes) : Nat := fieldAt l 4 4
def lineOt (l : Bytes) : Nat := fieldAt l 8 4 * 256 + byteAt l 12

/-- The header line with another SYNC. -/
def reSync (sync : Nat) (l : Bytes) : Bytes := syncLen sync (lineLen l) ++ l.drop 2

/-- Lines of the record that a header line begins. -/
def lineCount (l : Bytes) : Nat := ceilDiv (16 + lineLen l) 16

/-- The records of a block in order: index of the header line (from 0) and the header line. A line that is no header ends them. -/
def blkRecs : Nat → Nat → List Bytes → List (Nat × Bytes)
  | 0, _, _ => []
  | n + 1, i, ls =>
    match ls.drop i with
    | [] => []
    | l :: _ =>
      if lineSync l = syncDone ∨ lineSync l = syncOpen ∨ lineSync l = syncVoid then (i, l) :: blkRecs n (i + lineCount l) ls else []
def RBlk.recs (b : RBlk) : List (Nat × Bytes) := blkRecs 255 0 b.lines

/-- Readable records of a block: written whole, or voided. -/
def RBlk.readable (b : RBlk) : List (Nat × Bytes) := b.recs.filter fun r => lineSync r.2 ≠ syncOpen

/-- Of header lines, the one with the newest SEQ (R387). -/
def newestOf (ls : List Bytes) : Option Bytes :=
  ls.foldl (fun (acc : Option Bytes) l => if acc.any fun a => sdiff32 (lineSeq l) (lineSeq a) < 0 then acc else some l) none

/-- The rate class of a device code (R392). -/
def devClass (code : Nat) : Nat := code / 16 % 256

/-- Classes that are always unlimited. -/
def freeClass (c : Nat) : Bool := c = 0 || (0xB0 ≤ c && c ≤ 0xB2) || c = 0xF0

/-- One more is noted. -/
def noteMissed (m : Option Missed) (code ot : Nat) : Missed :=
  match m with
  | none => ⟨1, code, code, ot, ot⟩
  | some m => { m with count := min (m.count + 1) 0xFFFFFFFF, code2 := code, ot2 := ot }

/-- Body of a SUPPRESSED or LOSS record after the context (R393, R395). -/
def Missed.body (m : Missed) (cls : Nat) : Bytes :=
  natBe 1 cls ++ [0] ++ natBe 4 m.count ++ natBe 2 m.code1 ++ natBe 2 m.code2 ++ natBe 5 m.ot1 ++ natBe 5 m.ot2

namespace State

/-- The recorder runs: in ACTIVE and TWILIGHT, and after Tc until DUSK-SLEEP is entered (R369, R396). -/
def recRuns (s : State) : Bool := s.awake || s.rest.entering.isSome

/-- RECD_STAT.STATE: 0 SCAN, 1 MORNING, 2 EVENING, 3 FAILED. -/
def recFailed (s : State) : Bool := s.get Reg.RECD_STAT.STATE = 3
def refreshRecState (s : State) : State :=
  if s.recFailed then s else s.put Reg.RECD_STAT.STATE (if s.recd.scan then 0 else if s.recd.evening then 2 else 1)

/-- A record of the recorder itself, with its context as of now (R388). -/
def recRecord (s : State) (code : Nat) (params : Bytes) : StRec :=
  let s' := { s with events := [] }.record code params
  match s'.events with
  | e :: _ => ⟨code, e.body, e.ot, s.get Reg.RECD_PCC.VALUE % 2 ^ 24⟩
  | [] => ⟨code, params, s.opTime, 0⟩

/-! Rate classes (R392, R393). -/

/-- A class as it stands, its tokens accrued to now in units of 1/256 token. -/
def cls (s : State) (c : Nat) : RateCls :=
  let k := (tabGet c s.recd.classes).getD { at_ := s.opTime }
  let dt := (s.opTime + 2 ^ 40 - k.at_) % 2 ^ 40
  let full := 256 * k.depth
  { k with tok := if freeClass c || k.rate = 0 then full else min full (k.tok + k.rate * dt), at_ := s.opTime }

/-- The class admits a record: unlimited, or it holds a token. -/
def clsUnlimited (s : State) (c : Nat) : Bool := freeClass c || (s.cls c).rate = 0
def clsAdmits (s : State) (c : Nat) : Bool := s.clsUnlimited c || 256 ≤ (s.cls c).tok

/-- A token is taken. -/
def takeToken (s : State) (c : Nat) : State :=
  if s.clsUnlimited c then s
  else
    let k := s.cls c
    { s with recd.classes := tabPut c { k with tok := k.tok - 256 } s.recd.classes }

/-- A record finds no token (R393). -/
def suppress (s : State) (c code ot : Nat) : State :=
  let s : State := { s with recd.supp := tabPut c (noteMissed (tabGet c s.recd.supp) code ot) s.recd.supp }
  (s.bump Reg.RECD_SUPPR.COUNT).raise Reg.RECD_IRQ.SUPPR

/-! Staging (R394, R395). -/

/-- Lines staged. -/
def stageFill (s : State) : Nat := (s.recd.stage.map StRec.lines).sum

/-- RECD_STAGE follows staging. -/
def refreshStage (s : State) : State :=
  let f := s.stageFill
  (s.put Reg.RECD_STAGE.FILL f).put Reg.RECD_STAGE.PEAK (max f (s.get Reg.RECD_STAGE.PEAK))

/-- Codes for which the last 1 KiB is kept. -/
def keepCode (code : Nat) : Bool := (0x0B01 ≤ code && code ≤ 0x0BFF) || (0x0F00 ≤ code && code ≤ 0x0FFF)

/-- The record fits in staging now. -/
def stageFits (s : State) (r : StRec) : Bool := s.stageFill + r.lines ≤ (if keepCode r.code then 4096 else 4032)

/-- A record is lost (R395). -/
def loseRec (s : State) (r : StRec) : State :=
  let s : State := { s with recd.lost := some (noteMissed s.recd.lost r.code r.ot) }
  (s.bump Reg.RECD_LOST.COUNT).raise Reg.RECD_IRQ.LOST

/-- A record enters staging whole, or is lost. -/
def stageRec (s : State) (r : StRec) : State :=
  if s.stageFits r then { s with recd.stage := s.recd.stage ++ [r] }.refreshStage else s.loseRec r

/-- A record goes to the stack master's recorder (R388, R427). -/
def toMaster (s : State) (r : StRec) : State := s.stackMsg 0 2 (natBe 2 r.code ++ natBe 5 r.ot ++ natBe 3 r.pcc ++ r.body)

/-- A record of the recorder itself is staged; a stack member's goes to its master (R388). -/
def stageOwn (s : State) (r : StRec) : State := if s.stackId = 0 then s.stageRec r else s.toMaster r

/-- A record of the recorder itself is written before any other; a stack member's goes to its master (R388). -/
def putFirst (s : State) (r : StRec) : State :=
  if s.stackId = 0 then { s with recd.again := (r, none) :: s.recd.again } else s.toMaster r

/-- The SUPPRESSED record owed by a class is staged and its counts restart. -/
def stageSuppressed (s : State) (c : Nat) : State :=
  match tabGet c s.recd.supp with
  | none => s
  | some m => { s with recd.supp := tabErase c s.recd.supp }.stageOwn (s.recRecord 0x0B03 (m.body c))

/-- A record of class `c` is staged under R392 to R395. -/
def stageIn (s : State) (c : Nat) (r : StRec) : State :=
  if !s.clsAdmits c then s.suppress c r.code r.ot
  else
    let s := if s.clsUnlimited c then s else s.stageSuppressed c
    (s.takeToken c).stageRec r

/-- The oldest event record goes into staging. A stack member's records go to the stack master's recorder (R388, R427). -/
def stageEvent (s : State) : State :=
  match s.events with
  | [] => s
  | e :: es =>
    let s : State := { s with events := es }
    let r : StRec := ⟨e.code, e.body, e.ot, s.get Reg.RECD_PCC.VALUE % 2 ^ 24⟩
    if s.stackId = 0 then s.stageIn (devClass e.code) r
    else s.toMaster r

/-! Blocks (R383, R397, R398, R400). -/

/-- A block of the MRAM. -/
def rblk (s : State) (p : Nat) : Option RBlk := tabGet p s.recd.blocks
def onRblk (s : State) (p : Nat) (f : RBlk → RBlk) : State :=
  match s.rblk p with
  | some b => { s with recd.blocks := tabPut p (f b) s.recd.blocks }
  | none => s

/-- The block in use for a place: the place's own block, or the spare whose LBLK names it (R397, R398). -/
def physOf (s : State) (place : Nat) : Nat :=
  match s.recd.blocks.find? (fun e => 480 ≤ e.1 && e.2.lblk = place && e.2.bstate ≠ 15) with
  | some e => e.1
  | none => place

/-- A place is dropped: its own block is retired and no spare stands for it. -/
def droppedAt (s : State) (place : Nat) : Bool :=
  let p := s.physOf place
  p = place && (s.rblk p).any fun b => b.bstate = 15

/-- Spares that are free: never written. -/
def freeSpares (s : State) : List Nat := ((List.range 32).map (· + 480)).filter fun p => (s.rblk p).isNone

/-- Blocks retired or dropped. -/
def retiredCount (s : State) : Nat := (s.recd.blocks.filter fun e => e.2.bstate = 15).length

/-- Usable ring blocks. -/
def ringUsable (s : State) : Nat := (((List.range 416).map (· + 64)).filter fun p => !s.droppedAt p).length

/-- Blocks of the ring, or of the Morning area, that hold records, oldest first by BSEQ. -/
def insertBseq (x : Nat × RBlk) : List (Nat × RBlk) → List (Nat × RBlk)
  | [] => [x]
  | y :: ys => if x.2.bseq ≤ y.2.bseq then x :: y :: ys else y :: insertBseq x ys
def areaBlocks (s : State) (morning : Bool) : List (Nat × RBlk) :=
  (s.recd.blocks.filter fun e => e.2.bstate ≠ 15 && e.2.bstate ≠ 0 && (if morning then e.2.lblk < 64 else 64 ≤ e.2.lblk)).foldr insertBseq []

/-- RECD_OLDSEQ and RECD_BLK follow the blocks. -/
def refreshBlocks (s : State) : State :=
  let old := match s.areaBlocks false with | e :: _ => e.2.first | [] => 0
  let s := (s.put Reg.RECD_OLDSEQ.SEQ old).put Reg.RECD_BLK.SPARE s.freeSpares.length
  (s.put Reg.RECD_BLK.RETIRED s.retiredCount).put Reg.RECD_BLK.RINGBLK s.ringUsable

/-- The next SEQ to be given (RECD_NEXTSEQ). -/
def nextRecSeq (s : State) : Nat := s.get Reg.RECD_NEXTSEQ.SEQ
def giveSeq (s : State) : Nat × State := (s.nextRecSeq, s.put Reg.RECD_NEXTSEQ.SEQ (s.nextRecSeq + 1))

/-- The record that is written next. -/
def headRec (s : State) : Option (StRec × Option Nat) :=
  match s.recd.again with
  | x :: _ => some x
  | [] => s.recd.stage.head?.map fun r => (r, none)

/-- That record is done with. -/
def popHead (s : State) : State :=
  match s.recd.again with
  | _ :: r => { s with recd.again := r }
  | [] => { s with recd.stage := s.recd.stage.drop 1 }.refreshStage

/-- The place that is opened next; `none` when the Morning area ends first. -/
def ringNext (s : State) : Nat → Nat → Option Nat
  | 0, _ => none
  | n + 1, p =>
    let q := if p < 64 ∨ 479 ≤ p then 64 else p + 1
    if s.droppedAt q then ringNext s n q else some q
def nextPlace (s : State) : Option Nat :=
  if s.recd.evening then s.ringNext 416 (s.recd.last.getD 479)
  else
    -- a Morning block that failed without a spare has ended the area (R398)
    let p := (s.recd.last.map (· + 1)).getD 0
    if p < 64 && !s.droppedAt p then some p else none

/-- The Morning area has ended: RECD_MORNSEQ keeps the SEQ of the last record written there, and a MORNFULL record comes first in the ring
(R400). -/
def endMorning (s : State) : State :=
  let recs := (s.recd.blocks.filter fun e => e.2.lblk < 64).flatMap fun e => e.2.readable.map (·.2)
  let last := ((newestOf recs).map lineSeq).getD ((s.nextRecSeq + 2 ^ 32 - 1) % 2 ^ 32)
  let s := (s.put Reg.RECD_MORNSEQ.SEQ last)
  let s := s.putFirst (s.recRecord 0x0B08 (natBe 4 last))
  { s with recd := { s.recd with evening := true, last := none } }.refreshRecState

/-- A spare that stands for a place, its header not verified yet: it holds no record (R397, R398). -/
def unwritten (pl : Nat) : RBlk := ⟨pl, 0, 0, 0, []⟩

/-- The header of the next block is being written, its earlier records gone; while a freeze is in force no ring block that holds a record is
opened, and the record waits (R400, R402). -/
def openBlock (s : State) : State :=
  let s := if !s.recd.evening && s.nextPlace.isNone then s.endMorning else s
  match s.nextPlace, s.headRec with
  | some pl, some h =>
    let p := s.physOf pl
    if s.recd.freeze.isSome && (s.rblk p).any (fun b => b.bstate ≠ 0) then s
    else
      let b : RBlk := ⟨pl, s.recd.bseq + 1, h.2.getD s.nextRecSeq, 1, []⟩
      -- a spare keeps its LBLK meanwhile
      let gone := if 480 ≤ p then tabPut p (unwritten pl) s.recd.blocks else tabErase p s.recd.blocks
      let s : State := { s with recd := { s.recd with blocks := gone, bseq := s.recd.bseq + 1, cur := some (pl, p), job := .header p b [], lineAt := s.now + ns 400 } }
      s.refreshBlocks
  | _, _ => s

/-- The current block is closed. -/
def closeBlock (s : State) : State :=
  match s.recd.cur with
  | none => s
  | some (pl, p) =>
    let s := s.onRblk p fun b => { b with bstate := 2 }
    { s with recd := { s.recd with cur := none, last := some pl } }

/-- The recorder goes on with the record it has taken up: into the current block if it fits, else END, close and open (R400). -/
def place (s : State) : State :=
  match s.headRec with
  | none => s
  | some (r, q) =>
    match s.recd.cur with
    | none => s.openBlock
    | some (_, p) =>
      let used := ((s.rblk p).map fun b => b.lines.length).getD 0
      if used + r.lines ≤ 255 then
        let (seq, s) := match q with | some n => (n, s) | none => s.giveSeq
        { s with recd := { s.recd with job := .write r seq (r.toLines seq), lineAt := s.now + ns 400 } }
      else if used < 255 then { s with recd := { s.recd with job := .endLine, lineAt := s.now + ns 400 } }
      else s.closeBlock.openBlock

/-- The recorder is FAILED (R398): what it had taken up stands in staging again. -/
def recFail (s : State) : State :=
  let s : State := { s with recd := { s.recd with job := .idle, again := [], stage := s.recd.again.map (·.1) ++ s.recd.stage } }
  let s := s.put Reg.RECD_STAT.STATE 3
  ((s.stageOwn (s.recRecord 0x0B15 [])).raise Reg.RECD_IRQ.FAILED).fault Reg.GLB_FAULT.RECFAIL

/-- A line of physical block `p`, in place `pl`, has failed its verification (R397, R398): `cause` 1 header, 2 record line, 3 END line. -/
def retire (s : State) (pl p cause line : Nat) (copy : List Bytes) : State :=
  -- the record cut short is written again with its SEQ
  let s : State := match s.recd.job, s.recd.again with
    | .write r q _, [] => { s with recd := { s.recd with again := [(r, some q)], stage := s.recd.stage.drop 1 } }.refreshStage
    | .write r q _, _ :: rest => { s with recd.again := (r, some q) :: rest }
    | _, _ => s
  let again := s.retiredCount
  let b : RBlk := (s.rblk p).getD ⟨if 480 ≤ p then pl else p, 0, 0, 15, []⟩
  let s : State := { s with recd.blocks := tabPut p { b with bstate := 15 } s.recd.blocks }
  let s := (s.bump Reg.RECD_RETIRE.COUNT).raise Reg.RECD_IRQ.RETIRE
  let s := if (match s.recd.job with | .header q _ _ => decide (480 ≤ q) && (s.headRec.any fun h => h.1.code = 0x0B10) | .copy _ => true | _ => false) && again ≠ 0 then
      s.secondFault 0x0B10 0x0B10 else s
  match s.freeSpares with
  | sp :: _ =>
    let first := match copy with | l :: _ => lineSeq l | [] => s.nextRecSeq
    let n := s.freeSpares.length - 1
    let r := s.recRecord 0x0B10 (natBe 2 p ++ natBe 2 sp ++ natBe 1 n ++ natBe 1 cause ++ natBe 1 line)
    let hb : RBlk := ⟨pl, s.recd.bseq + 1, first, 1, []⟩
    let s := s.putFirst r
    let s : State := { s with recd := { s.recd with blocks := tabPut sp (unwritten pl) s.recd.blocks, bseq := s.recd.bseq + 1, cur := some (pl, sp)
                                                    job := .header sp hb copy, lineAt := s.now + ns 400 } }
    (if n = 0 then s.record 0x0B11 else s).refreshBlocks
  | [] =>
    let s : State := { s with recd := { s.recd with cur := none, last := some pl, job := .idle } }
    if pl < 64 then s.endMorning.refreshBlocks
    else
      let s := (s.record 0x0B12).refreshBlocks
      if s.ringUsable < 8 then s.recFail else s

/-- A record has been written whole: SYNC = DONE; it leaves staging; the mirror owes it (R385, R404). -/
def recDone (s : State) (p seq : Nat) (r : StRec) : State :=
  let s := s.onRblk p fun b =>
    let i := b.lines.length - r.lines
    { b with lines := b.lines.mapIdx fun k l => if k = i then reSync syncDone l else l }
  let s := ({ s with recd.job := .idle }.popHead).bump Reg.RECD_WRITTEN.COUNT
  if s.flag Reg.RECD_CTRL.MIREN then
    let s : State := { s with recd.mirQ := s.recd.mirQ ++ [seq] }
    s.put Reg.RECD_MIRSTAT.LAG (min 0xFFFF s.recd.mirQ.length)
  else s

/-- A record line write with its verification completes (R385, R397). -/
def lineWritten (s : State) (ok : Bool) : State :=
  let s := s.reach s.recd.lineAt
  let used (s : State) (p : Nat) : Nat := ((s.rblk p).map fun b => b.lines.length).getD 0
  match s.recd.job, s.recd.cur with
  | .idle, _ => s
  | _, none => s
  | .endLine, some (pl, p) =>
    if ok then
      let s := s.onRblk p fun b => { b with lines := b.lines ++ [syncLen syncEnd 0 ++ List.replicate 14 0] }
      { s with recd.job := .idle }.closeBlock.openBlock
    else s.retire pl p 3 (used s p + 1) (((s.rblk p).map (·.lines)).getD [])
  | .header p b copy, some (pl, _) =>
    if ok then
      let s : State := { s with recd := { s.recd with blocks := tabPut p b s.recd.blocks, job := .idle } }
      let s := s.refreshBlocks
      match copy with
      | [] => s.place
      | _ :: _ => { s with recd := { s.recd with job := .copy copy, lineAt := s.now + ns 400 } }
    else s.retire pl p 1 0 copy
  | .copy rest, some (pl, p) =>
    match rest with
    | [] => { s with recd.job := .idle }
    | l :: ls =>
      if ok then
        let s := s.onRblk p fun b => { b with lines := b.lines ++ [l] }
        match ls with
        | [] => { s with recd.job := .idle }.place
        | _ :: _ => { s with recd := { s.recd with job := .copy ls, lineAt := s.now + ns 400 } }
      else s.retire pl p 2 (used s p + 1) (((s.rblk p).map (·.lines)).getD [] ++ rest)
  | .write r q rest, some (pl, p) =>
    match rest with
    | [] => { s with recd.job := .idle }
    | l :: ls =>
      if ok then
        let s := s.onRblk p fun b => { b with lines := b.lines ++ [l] }
        match ls with
        | [] => s.recDone p q r
        | _ :: _ => { s with recd := { s.recd with job := .write r q ls, lineAt := s.now + ns 400 } }
      else
        -- the whole records before it are copied
        let done_ := used s p - (r.lines - rest.length)
        s.retire pl p 2 (used s p + 1) ((((s.rblk p).map (·.lines)).getD []).take done_)

/-- The recorder takes up the next record (R385, R386): none while it scans, has FAILED or is writing. -/
def writeStart (s : State) : State :=
  if s.recd.scan || s.recFailed || s.recd.job ≠ .idle then s else s.place

/-! Start-up (R399). -/

/-- The header line of the newest record that blocks in use hold: in the ring, else in the Morning area. -/
def newestHead (s : State) : Option Bytes :=
  let heads (morning : Bool) : List Bytes := (s.areaBlocks morning).flatMap fun e => e.2.recs.map (·.2)
  match newestOf (heads false) with | some l => some l | none => newestOf (heads true)

/-- What the blocks hold is found again: open block, areas, next SEQ, OPEN records voided. -/
def scanBlocks (s : State) : State :=
  -- records found OPEN keep their header and their lines; the rest of their place is blank
  let fix (b : RBlk) : RBlk × List (Nat × Nat) :=
    let opens := b.recs.filter fun r => lineSync r.2 = syncOpen
    let ls := b.lines.mapIdx fun k l => if opens.any (·.1 = k) then reSync syncVoid l else l
    let need := (b.recs.map fun r => r.1 + lineCount r.2).foldl max ls.length
    ({ b with lines := ls ++ List.replicate (min 255 need - ls.length) (List.replicate 16 0) }, opens.map fun r => (lineSeq r.2, lineCode r.2))
  let live := s.recd.blocks.filter fun e => e.2.bstate ≠ 15
  let torn := (live.flatMap fun e => (fix e.2).2).head?
  let blocks := s.recd.blocks.map fun (e : Nat × RBlk) => if e.2.bstate = 15 then e else (e.1, (fix e.2).1)
  let s : State := { s with recd := { s.recd with blocks := blocks, torn := torn, cursor := none } }
  let newest := s.recd.blocks.foldl (fun (acc : Option (Nat × RBlk)) e =>
    if e.2.bstate = 15 || e.2.bstate = 0 then acc
    else match acc with
      | none => some e
      | some a => if a.2.bseq < e.2.bseq then some e else acc) none
  let evening := s.recd.blocks.any fun e => 64 ≤ e.2.lblk && e.2.bstate ≠ 15 && e.2.bstate ≠ 0
  match newest with
  | none => { s with recd := { s.recd with cur := none, last := none, evening := false } }
  | some (p, b) =>
    let seq := (s.newestHead.map fun l => lineSeq l + 1).getD b.first
    let full := b.bstate = 2
    let s : State := { s with recd := { s.recd with bseq := b.bseq, evening := evening, cur := if full then none else some (b.lblk, p), last := if full then some b.lblk else none } }
    s.put Reg.RECD_NEXTSEQ.SEQ seq

/-- Operating time, and the power-cycle count (24 bits), of the newest record (R391). -/
def newestOt (s : State) : Option Nat := s.newestHead.map lineOt
def newestPcc (s : State) : Option Nat := s.newestHead.map fun l => fieldAt l 13 3

/-- Records that were lost with staging are counted (R396, Table 14.8). -/
def countAway (s : State) : State :=
  if s.recd.away = 0 then s
  else ({ s with recd.away := 0 }.bumpBy Reg.RECD_LOST.COUNT s.recd.away).raise Reg.RECD_IRQ.LOST

/-- The start-up scan ends: SESSION (after a reset), TORN, every SUPPRESSED and the LOSS still owed go ahead of what was staged meanwhile. -/
def scanComplete (s : State) : State :=
  if !s.recd.scan then s
  else
    let s := if s.recd.job = .idle && !s.recFailed then s.scanBlocks else s
    let s := s.countAway
    let waiting := s.recd.stage
    let s : State := { s with recd := { s.recd with scan := false, stage := [], mirStage := 0 } }
    let s := if s.recd.session then
        s.stageOwn (s.recRecord 0x0B01 (natBe 4 (s.get Reg.RECD_PCC.VALUE) ++ natBe 1 (s.get Reg.GLB_RST.KIND) ++ natBe 3 0)) else s
    let s := match s.recd.torn with
      | some t => (s.stageOwn (s.recRecord 0x0B05 (natBe 4 t.1 ++ natBe 2 t.2))).bump Reg.RECD_TORN.COUNT
      | none => s
    let s := (s.recd.supp.map (·.1)).foldl stageSuppressed s
    let s := match s.recd.lost with
      | some m => { s with recd.lost := none }.stageOwn (s.recRecord 0x0B04 (m.body 0xFF))
      | none => s
    let s := waiting.foldl stageRec s
    let s : State := { s with recd := { s.recd with torn := none } }
    let s := (s.refreshRecState).refreshBlocks
    if s.ringUsable < 8 && !s.recFailed then s.recFail else s

/-! Host records (R401). -/

/-- A host record of code, class and body: staged, or refused with a result code. -/
def hostRecord (s : State) (code c : Nat) (body : Bytes) : Nat × State :=
  let refuse (s : State) (n : Nat) : Nat × State :=
    (n, ((s.put Reg.RECD_STAT.HWRES n).bump Reg.RECD_HWREF.COUNT).raise Reg.RECD_IRQ.HW)
  let r : StRec := ⟨code, body, s.opTime, s.get Reg.RECD_PCC.VALUE % 2 ^ 24⟩
  if code < 0x1000 then refuse s 1
  else if 496 < body.length then refuse s 2
  else if !s.clsAdmits c then refuse (s.suppress c code s.opTime) 3
  else
    let s' := if s.clsUnlimited c then s else s.stageSuppressed c
    if !s'.stageFits r then refuse s 4
    else if s.recFailed then refuse s 5
    else (0, (((s'.takeToken c).stageRec r).put Reg.RECD_STAT.HWRES 0).raise Reg.RECD_IRQ.HW)

/-- A write of RECD_HWCTL takes effect. -/
def hwctl (s : State) (v : Nat) : State :=
  let s := ((s.put Reg.RECD_HWCTL.GO (Reg.RECD_HWCTL.GO.of v)).put Reg.RECD_HWCTL.CLASS (Reg.RECD_HWCTL.CLASS.of v)).put
    Reg.RECD_HWCTL.BLEN (Reg.RECD_HWCTL.BLEN.of v)
  if !bit v 31 then s
  else
    let n := s.get Reg.RECD_HWCTL.BLEN
    let words := (List.range 124).flatMap fun i => natBe 4 (s.get (Reg.RECD_HBODY.BODY.ix i))
    -- a length above the mailbox is refused as LEN
    let body := if 496 < n then List.replicate n 0 else words.take n
    (s.hostRecord (s.get Reg.RECD_HWCODE.CODE) (s.get Reg.RECD_HWCTL.CLASS) body).2

/-! Freeze (R402). -/

/-- The freeze ends with a cause: 1 expired, 2 written, 3 Dusk. -/
def endFreeze (s : State) (cause : Nat) : State :=
  if s.recd.freeze.isNone then s
  else
    let s : State := { s with recd.freeze := none }
    (((s.put Reg.RECD_STAT.FROZEN 0).record 0x0B07 (natBe 1 cause)).raise Reg.RECD_IRQ.FREEZE)

/-- A completed pair of RECD_FREEZE. -/
def writeFreeze (s : State) (v : Nat) : State :=
  let n := min 10 (v % 16)
  let s := s.put Reg.RECD_FREEZE.SECS v
  if n = 0 then s.endFreeze 2
  else
    let was := s.recd.freeze.isSome
    let s : State := { s with recd.freeze := some ((s.opTime + 256 * n) % 2 ^ 40) }
    if was then s else ((s.put Reg.RECD_STAT.FROZEN 1).record 0x0B06 (natBe 1 n)).raise Reg.RECD_IRQ.FREEZE

/-! The read cursor (R403). -/

/-- Records of an area with their block: block number, block, header index, header line. -/
def areaRecs (s : State) (morning : Bool) : List (Nat × RBlk × Nat × Bytes) :=
  (s.areaBlocks morning).flatMap fun e => e.2.readable.map fun r => (e.1, e.2, r.1, r.2)

/-- The record of an area with a SEQ. -/
def findRec (s : State) (morning : Bool) (seq : Nat) : Option (Nat × RBlk × Nat × Bytes) :=
  (s.areaRecs morning).find? fun x => lineSeq x.2.2.2 = seq

/-- The record that follows in an area: the oldest that is newer (R387). -/
def recAfter (s : State) (morning : Bool) (seq : Nat) : Option (Nat × RBlk × Nat × Bytes) :=
  (s.areaRecs morning).foldl (fun (acc : Option (Nat × RBlk × Nat × Bytes)) x =>
    if sdiff32 (lineSeq x.2.2.2) seq ≤ 0 then acc
    else match acc with
      | none => some x
      | some a => if sdiff32 (lineSeq x.2.2.2) (lineSeq a.2.2.2) < 0 then some x else acc) none

/-- The cursor shows a line, with an error of the line's code as found: 0 none, 1 corrected, 2 uncorrectable. -/
def showLine (s : State) (res ecc : Nat) : State :=
  match s.recd.cursor with
  | none => s
  | some c =>
    let l := ((s.rblk c.phys).bind fun b => (b.lines.drop (c.start + c.line)).head?).getD []
    let l := if ecc = 2 then List.replicate 16 0 else l
    let s := if ecc = 1 then s.bump Reg.RECD_ECCCOR.COUNT else if ecc = 2 then s.bump Reg.RECD_ECCUNC.COUNT else s
    let s := (s.put Reg.RECD_RD0.DATA (fieldAt l 0 4)).put Reg.RECD_RD1.DATA (fieldAt l 4 4)
    let s := (s.put Reg.RECD_RD2.DATA (fieldAt l 8 4)).put Reg.RECD_RD3.DATA (fieldAt l 12 4)
    let s := (s.put Reg.RECD_RSTAT.LINE c.line).put Reg.RECD_RSTAT.RES (if ecc = 2 then 1 else res)
    s.put Reg.RECD_RSTAT.VALID 1

/-- The cursor stands on no line: GONE or END. -/
def showNone (s : State) (res : Nat) : State := (s.put Reg.RECD_RSTAT.RES res).put Reg.RECD_RSTAT.VALID 0

/-- The cursor is set on a record. -/
def setCursor (s : State) (morning : Bool) (x : Nat × RBlk × Nat × Bytes) (res ecc : Nat) : State :=
  { s with recd.cursor := some ⟨morning, lineSeq x.2.2.2, x.1, x.2.1.bseq, x.2.2.1, 0⟩ }.showLine res ecc

/-- A write of RECD_RSEL takes effect. -/
def cursorSelect (s : State) (morning : Bool) (seq ecc : Nat) : State :=
  match s.findRec morning seq with
  | some x => s.setCursor morning x 0 ecc
  | none => { s with recd.cursor := none }.showNone 2

/-- A read of RECD_RD3 moves the cursor on by one line. -/
def cursorAdvance (s : State) (ecc : Nat) : State :=
  match s.recd.cursor with
  | none => s
  | some c =>
    let here := (s.rblk c.phys).filter fun b => b.bseq = c.bseq && b.bstate ≠ 15
    match here with
    | none =>
      -- overwritten, or moved into a spare
      match s.findRec c.morning c.seq with
      | some x => { s with recd.cursor := some ⟨c.morning, c.seq, x.1, x.2.1.bseq, x.2.2.1, c.line⟩ }|> fun s => cursorStep s ecc
      | none => match s.findRec false (s.get Reg.RECD_OLDSEQ.SEQ) with
        | some x => s.setCursor false x 3 ecc
        | none => s.showNone 4
    | some _ => cursorStep s ecc
where
  cursorStep (s : State) (ecc : Nat) : State :=
    match s.recd.cursor with
    | none => s
    | some c =>
      let n := ((s.findRec c.morning c.seq).map fun x => lineCount x.2.2.2).getD 0
      if c.line + 1 < n then { s with recd.cursor := some { c with line := c.line + 1 } }.showLine 0 ecc
      else match s.recAfter c.morning c.seq with
        | some x => s.setCursor c.morning x 0 ecc
        | none =>
          match (if c.morning then (s.areaRecs false).head? else none) with
          | some x => s.setCursor false x 0 ecc
          | none => s.showNone 4

/-! Rate classes by register (chapter 14). -/

/-- A write of RECD_CSEL takes effect: stored at once, or loaded. -/
def classSel (s : State) (v : Nat) : State :=
  let s := (s.put Reg.RECD_CSEL.WR (Reg.RECD_CSEL.WR.of v)).put Reg.RECD_CSEL.CLASS (Reg.RECD_CSEL.CLASS.of v)
  let c := s.get Reg.RECD_CSEL.CLASS
  let k := s.cls c
  if s.flag Reg.RECD_CSEL.WR then
    let d := max 1 (s.get Reg.RECD_CDATA.DEPTH)
    let k' : RateCls := { k with rate := s.get Reg.RECD_CDATA.RATE, depth := d, tok := min k.tok (256 * d) }
    { s.dirtyCfg with recd.classes := tabPut c (if s.clsUnlimited c then { k' with tok := 256 * d } else k') s.recd.classes }
  else
    ((s.put Reg.RECD_CDATA.RATE k.rate).put Reg.RECD_CDATA.DEPTH k.depth).put Reg.RECD_CDATA.TOK (k.tok / 256)

/-! The mirror (R404). -/

/-- The mirror is in fault. -/
def mirrorFault (s : State) : State :=
  let s := if s.flag Reg.RECD_STAT.MIRFAIL then s else ((s.put Reg.RECD_STAT.MIRFAIL 1).raise Reg.RECD_IRQ.MIR).put Reg.RECD_MIRSTAT.GAP 0
  { (s.bump Reg.RECD_MIRERR.COUNT).record 0x0B20 with recd.mirRetry := (s.opSec + 1) * 256 }

/-- Records that the MRAM no longer holds are not mirrored any more: GAP. -/
def mirrorSkip (s : State) : State :=
  let held (q : Nat) : Bool := (s.findRec false q).isSome || (s.findRec true q).isSome
  let kept := s.recd.mirQ.filter held
  let gap := min 0xFFFF (s.get Reg.RECD_MIRSTAT.GAP + (s.recd.mirQ.length - kept.length))
  (({ s with recd.mirQ := kept } : State).put Reg.RECD_MIRSTAT.GAP gap).put Reg.RECD_MIRSTAT.LAG (min 0xFFFF kept.length)

/-- The lines of one record are appended to the ring in flash: in its open sector, else the sector is closed and the next one erased and
opened. -/
def mirrorPut (s : State) (seq : Nat) (ls : List Bytes) : State :=
    let size := s.get Reg.RECD_MIRSIZE.SIZE
    let base := s.get Reg.RECD_MIRBASE.ADDR
    let room := match s.recd.mirCur with
      | some k => ((tabGet k s.recd.flash).map fun b => 255 - b.lines.length).getD 0
      | none => 0
    let s : State :=
      if s.recd.mirCur.isSome && ls.length ≤ room then s
      else
        let s : State := match s.recd.mirCur with
          | some k => { s with recd.flash := s.recd.flash.map fun e => if e.1 = k then
              (k, { e.2 with bstate := 2, lines := e.2.lines ++ (if e.2.lines.length < 255 then [syncLen syncEnd 0 ++ List.replicate 14 0] else []) }) else e }
          | none => s
        let k := match s.recd.mirCur with | some k => base + (k - base + 1) % size | none => base
        { s with recd := { s.recd with mirCur := some k, mirSeq := s.recd.mirSeq + 1, flash := tabPut k ⟨k - base, s.recd.mirSeq + 1, seq, 1, []⟩ s.recd.flash } }
    match s.recd.mirCur with
    | none => s
    | some k => { s with recd.flash := s.recd.flash.map fun e => if e.1 = k then (k, { e.2 with lines := e.2.lines ++ ls }) else e }

/-- A record that the MRAM holds is appended to the ring in flash. -/
def mirrorAppend (s : State) (seq : Nat) : State :=
  match (match s.findRec false seq with | some x => some x | none => s.findRec true seq) with
  | none => s
  | some x => s.mirrorPut seq ((x.2.1.lines.drop x.2.2.1).take (lineCount x.2.2.2))

/-- Records in staging that the mirror has not had; it is sent them while the recorder is FAILED (R398). -/
def mirrorStaged (s : State) : List StRec := if s.recFailed then s.recd.stage.drop s.recd.mirStage else []

/-- A staged record is copied as a record complete; its SEQ, which no write has given it, is free (log entry 44). -/
def mirrorStage (s : State) (r : StRec) : State :=
  let v := s.freshFree
  let q := v.1 % 2 ^ 32
  let s := v.2.mirrorPut q (match r.toLines q with | l :: ls => reSync syncDone l :: ls | [] => [])
  { s with recd.mirStage := s.recd.mirStage + 1 }

/-- The mirror may run: enabled, ACTIVE, a ring of at least 16 sectors. -/
def mirrorOn (s : State) : Bool := s.flag Reg.RECD_CTRL.MIREN && s.active && 16 ≤ s.get Reg.RECD_MIRSIZE.SIZE

/-- One record is copied, or the flash fails. -/
def mirrorCopy (s : State) (ok : Bool) : State :=
  if !s.mirrorOn || s.flag Reg.RECD_STAT.MIRFAIL || s.recd.mirQ.isEmpty && s.mirrorStaged.isEmpty then s
  else if !ok then s.mirrorFault
  else
    let s := s.mirrorSkip
    match s.recd.mirQ with
    | [] => match s.mirrorStaged with | r :: _ => s.mirrorStage r | [] => s
    | q :: r => ({ s.mirrorAppend q with recd.mirQ := r } : State).put Reg.RECD_MIRSTAT.LAG (min 0xFFFF r.length)

/-! Operating time and checkpoint (R390, R391). -/

/-- The rate of the counter is corrected: operating time goes on from where it stands. -/
def calibrate (s : State) (ppm : Int) : State :=
  { s with opBase := s.opTime, opAt := s.now, opPpm := ppm }

/-- The older checkpoint copy is written now. -/
def writeCheckpoint (s : State) : State :=
  let v := (s.opTime, s.get Reg.RECD_PCC.VALUE)
  let older := match s.recd.ckA, s.recd.ckB with
    | none, _ => true
    | _, none => false
    | some a, some b => a.2 < b.2 || (a.2 = b.2 && a.1 ≤ b.1)
  { s with recd := if older then { s.recd with ckA := some v, ckAt := s.opTime } else { s.recd with ckB := some v, ckAt := s.opTime } }

/-- A checkpoint write is due: it is written, or waits ahead of every other activity (R391, R474). -/
def dueCheckpoint (s : State) : State := if s.actTurn .ckpt then s.writeCheckpoint else s.requestAct .ckpt

/-- Power-cycle count and operating time at power-on (R391): from the valid copy with the higher count, else from the newest record. -/
def resumeCounts (s : State) : State :=
  let best := match s.recd.ckA, s.recd.ckB with
    | none, b => b
    | a, none => a
    | some a, some b => if a.2 < b.2 || (a.2 = b.2 && a.1 < b.1) then some b else some a
  let ot := max ((best.map (·.1)).getD 0) (s.newestOt.getD 0)
  let pcc := ((match best with | some b => b.2 | none => s.newestPcc.getD 0) + 1) % 2 ^ 32
  let s : State := { s with opBase := ot, opAt := s.now }
  let s := s.put Reg.RECD_PCC.VALUE pcc
  let s := if best.isNone then (s.put Reg.RECD_STAT.CKBAD 1).record 0x0B16 else s
  s.writeCheckpoint

end State

/-- The meaning of a command to the recorder, which also runs from Tc until DUSK-SLEEP is entered. -/
def liveRec (s : State) (f : State → Host.Outcome State Fault Refusal) : Host.Outcome State Fault Refusal :=
  if s.recRuns then f s else done s

/-- RECORD_STAGE (R392 to R395): the oldest event record. -/
def execRecordStage (s : State) : Host.Outcome State Fault Refusal := liveRec s fun s => done s.stageEvent

/-- SUPPRESSION_TIMEOUT (R393): 10 s after the class's first suppression. -/
def execSuppressionTimeout (cls : Fin 256) (s : State) : Host.Outcome State Fault Refusal :=
  liveRec s fun s => done (match tabGet cls.val s.recd.supp with
    | none => s
    | some m => (s.reachOp ((m.ot1 + 2560) % 2 ^ 40)).stageSuppressed cls)

/-- LOSS_RECORD_STAGE (R395). -/
def execLossRecordStage (s : State) : Host.Outcome State Fault Refusal :=
  liveRec s fun s => done (match s.recd.lost with
    | some m => if s.stageFill < 2048 && !s.recd.scan then { s with recd.lost := none }.stageOwn (s.recRecord 0x0B04 (m.body 0xFF)) else s
    | none => s)

/-- RECORD_WRITE_START (R385, R386). -/
def execRecordWriteStart (s : State) : Host.Outcome State Fault Refusal := liveRec s fun s => done s.writeStart

/-- RECORD_LINE_WRITTEN (R385, R397). -/
def execRecordLineWritten (ok : Bool) (s : State) : Host.Outcome State Fault Refusal := liveRec s fun s => done (s.lineWritten ok)

/-- RECORDER_SCAN_COMPLETE (R399). -/
def execRecorderScanComplete (s : State) : Host.Outcome State Fault Refusal := liveRec s fun s => done s.scanComplete

/-- OPERATING_TIME_CALIBRATE (R390): the error that remains, within ±100 ppm. -/
def execOperatingTimeCalibrate (ppm : Int) (s : State) : Host.Outcome State Fault Refusal :=
  live s fun s => done (s.calibrate (clampInt (-100) 100 ppm))

/-- CHECKPOINT_WRITE (R391): every 16 s of operating time. -/
def execCheckpointWrite (s : State) : Host.Outcome State Fault Refusal :=
  liveRec s fun s => done (s.reachOp ((s.recd.ckAt + 4096) % 2 ^ 40)).dueCheckpoint

/-- HOST_RECORD_WRITE (R401). -/
def execHostRecordWrite (value : Word) (s : State) : Host.Outcome State Fault Refusal :=
  live s fun s => done (if s.flag Reg.RECD_STAT.BUSY then s.put Reg.RECD_STAT.WIGN 1 else s.hwctl value.toNat)

/-- RECD_FREEZE_PAIR (R402). -/
def execRecdFreezePair (value : Word) (s : State) : Host.Outcome State Fault Refusal := live s fun s => done (s.writeFreeze value.toNat)

/-- FREEZE_EXPIRY (R402). -/
def execFreezeExpiry (s : State) : Host.Outcome State Fault Refusal :=
  liveRec s fun s => done (match s.recd.freeze with
    | none => s
    | some t => (s.reachOp t).endFreeze 1)

/-- RECORD_CURSOR_SELECT (R387, R403). -/
def execRecordCursorSelect (value : Word) (ecc : Fin 3) (s : State) : Host.Outcome State Fault Refusal :=
  live s fun s => done (if s.flag Reg.RECD_RSTAT.BUSY then s.put Reg.RECD_STAT.WIGN 1
    else (s.put Reg.RECD_RSEL.SEQ value.toNat).cursorSelect (s.flag Reg.RECD_RAREA.MORNING) value.toNat ecc)

/-- RECORD_CURSOR_ADVANCE (R403). -/
def execRecordCursorAdvance (ecc : Fin 3) (s : State) : Host.Outcome State Fault Refusal :=
  live s fun s => done ((s.emit (.rdata 0xB0054 (s.get Reg.RECD_RD3.DATA))).cursorAdvance ecc)

/-- RATE_CLASS_STORE (R392). -/
def execRateClassStore (value : Word) (s : State) : Host.Outcome State Fault Refusal :=
  live s fun s => done (if s.flag Reg.RECD_STAT.BUSY then s.put Reg.RECD_STAT.WIGN 1 else s.classSel value.toNat)

/-- RATE_CLASS_LOAD (R392). -/
def execRateClassLoad (value : Word) (s : State) : Host.Outcome State Fault Refusal :=
  live s fun s => done (if s.flag Reg.RECD_STAT.BUSY then s.put Reg.RECD_STAT.WIGN 1 else s.classSel value.toNat)

/-- MIRROR_COPY (R404). -/
def execMirrorCopy (ok : Bool) (s : State) : Host.Outcome State Fault Refusal := liveActive s fun s => done (s.mirrorCopy ok)

/-- MIRROR_RETRY (R404): at the next second. -/
def execMirrorRetry (ok : Bool) (s : State) : Host.Outcome State Fault Refusal :=
  liveActive s fun s => done (if !s.mirrorOn || !s.flag Reg.RECD_STAT.MIRFAIL then s
    else
      let s := s.reachOp (s.recd.mirRetry % 2 ^ 40)
      if !ok then s.mirrorFault
      else (((s.put Reg.RECD_STAT.MIRFAIL 0).raise Reg.RECD_IRQ.MIR).record 0x0B21).mirrorSkip)

/-- RECD_OPSEC_READ (R390): the seconds, with the fraction latched. -/
def execRecdOpsecRead (s : State) : Host.Outcome State Fault Refusal :=
  live s fun s => done ((s.put Reg.RECD_OPFRAC.FRAC (s.opTime % 256)).emit (.rdata 0xB0018 s.opSec))

end Sys2Proof.Machine
end

