-- ==== Sys2Proof/Machine/Reset.lean ====
section
/-! DEFINITION. What a reset, a block reset and a Dawn keep, restore and start again (R377, R380, R488 to R494, Tables 18.8, 18.9). -/

namespace Sys2Proof.Machine

namespace State

/-! The configuration store (R380, R494). -/

/-- The stored settings as they stand. -/
def cfgNow (s : State) (seq : Nat) : CfgCopy :=
  { seq := seq
    regs := s.regs.filter fun e => storedAt (e.1 / 32) (e.1 % 32)
    pubs := s.sched.pubsNext.foldl (fun t e => tabPut e.1 e.2 t) s.sched.pubs
    subs := s.sched.subsNext.foldl (fun t e => tabPut e.1 e.2 t) s.sched.subs
    stations := s.eng.next.foldl (fun t e => tabPut e.1 e.2 t) (s.eng.stations.map fun x => (x.1, x.2.entry))
    rules := s.ports.toList.map (·.rules)
    classes := s.recd.classes.map fun x => (x.1, (x.2.rate, x.2.depth))
    auth := s.glb.auth.value, pace := s.glb.pace.value % 4, emc := s.glb.emc.value }

/-- The valid copy with the higher sequence number. -/
def cfgBest (s : State) : Option CfgCopy :=
  match s.rest.cfgA, s.rest.cfgB with
  | some a, some b => if b.seq < a.seq then some a else some b
  | some a, none => some a
  | none, b => b

/-- The stored settings of one block written from a copy: the block `b` by the second hex digit of its BAR0 offset. -/
def applyCfg (s : State) (c : CfgCopy) (b : Nat) : State :=
  let mine := c.regs.filter fun e => e.1 / 32 / 0x10000 = b
  let s : State := { s with regs := mine.foldl (fun r e => insertKey e.1 e.2 (eraseKey e.1 r)) s.regs }
  match b with
  | 0 => { s with glb := { s.glb with pace := Voted.all c.pace, emc := Voted.all c.emc } }
  | 3 =>
    let s : State := { s with sched := { s.sched with pubsNext := c.pubs, subsNext := c.subs } }
    if s.cycRun then s else s.applyTables
  | 7 => { s with ports := s.ports.mapFinIdx fun i p _ => { p with rules := (c.rules.drop i).head?.getD [] } }
  | 8 =>
    let s : State := { s with eng.next := c.stations }
    if s.cycRun then s else s.applyStations
  | 11 =>
    let full (x : Nat × Nat × Nat) : Nat × RateCls := (x.1, { rate := x.2.1, depth := x.2.2, tok := 256 * x.2.2, at_ := s.opTime })
    { s with recd.classes := c.classes.map full }
  | 13 => { s with glb.auth := Voted.all c.auth }
  | _ => s

/-- The configuration at power-on, after a warm reset and at Dawn: the valid copy with the higher sequence number, else the defaults. -/
def restoreCfg (s : State) : State :=
  match s.cfgBest with
  | some c => (List.range 15).foldl (fun s b => s.applyCfg c b) s
  | none => (((s.put Reg.REST_STAT.CFGBAD 1).raise Reg.REST_IRQ.CFGBAD).record 0x0409)

/-- SAVE starts: the current settings are written over the older copy (R380). -/
def saveStart (s : State) : State :=
  let s := ((s.readVoted 0xD000C).readVoted 0x100).readVoted 0x108
  let seq := ((s.cfgBest).map (·.seq)).getD 0 + 1
  let s : State := { s.put Reg.REST_STAT.BUSY 1 with rest.saving := some (s.cfgNow seq, s.now + ms 200) }
  s.requestAct .save

/-- The write is complete: the older copy is the newer one now. -/
def saveDone (s : State) : State :=
  match s.rest.saving with
  | none => s
  | some (c, _) =>
    if !s.hkp.running.contains .save then s
    else
      let older := match s.rest.cfgA, s.rest.cfgB with
        | none, _ => true
        | some _, none => false
        | some a, some b => a.seq ≤ b.seq
      let s : State := { s with rest := { s.rest with saving := none, cfgA := if older then some c else s.rest.cfgA, cfgB := if older then s.rest.cfgB else some c } }
      let s := (s.endAct .save).put Reg.REST_STAT.BUSY 0
      ((s.put Reg.REST_STAT.CFGDIRTY 0).raise Reg.REST_IRQ.SAVED).record 0x040A |>.completeOp 0x41 0 0

/-! The retained image (R493). -/

/-- The CRC of a copy: over the retained area, PROGID, REV and sequence number, in the order in which R493 names them (DESIGN CHOICE, log entry 38). -/
def retCrc (prog rev seq : Nat) (area : Memory) : Nat := crc32 (area.readN 0 65536 ++ natBe 4 prog ++ natBe 4 rev ++ natBe 4 seq)

/-- A copy is valid: its CRC holds. -/
def retValid (c : RetCopy) : Bool := c.crc = retCrc c.prog c.rev c.seq c.area

/-- The older copy of the retained image is written. -/
def saveRetained (s : State) : State :=
  let seq := max ((s.rest.retA.map (·.seq)).getD 0) ((s.rest.retB.map (·.seq)).getD 0) + 1
  let prog := s.get Reg.PRG_AID.VALUE
  let rev := s.get Reg.PRG_AREV.VALUE
  let c : RetCopy := ⟨seq, prog, rev, s.img.retained, retCrc prog rev seq s.img.retained⟩
  let older := match s.rest.retA, s.rest.retB with
    | none, _ => true
    | some _, none => false
    | some a, some b => a.seq ≤ b.seq
  { s with rest := if older then { s.rest with retA := some c } else { s.rest with retB := some c } }

/-- The retained area from the valid copy with the higher sequence number, if it is of the active program. -/
def loadRetained (s : State) : State :=
  let best := match s.rest.retA.filter retValid, s.rest.retB.filter retValid with
    | some a, some b => if b.seq < a.seq then some a else some b
    | some a, none => some a
    | none, b => b
  match best with
  | none => s.record 0x0061 (natBe 4 1)
  | some c =>
    if s.get Reg.PRG_AID.VALUE = c.prog ∧ s.flag Reg.PRG_STAT.AVALID then { s with img.retained := c.area }.record 0x0060 (natBe 4 c.rev)
    else s.record 0x0061 (natBe 4 2)

/-! Resets (Table 18.8). -/

/-- The record being written has its header line in the MRAM: cut short, it is found OPEN there (R396, R399). -/
def begun (j : RecJob) : Bool := match j with | .write r _ ls => ls.length < r.lines | _ => false

/-- Records that stand in staging are lost, but for one found OPEN later; their count is kept (R396, R489). -/
def loseStaged (s : State) : State :=
  let rest := ((s.recd.again.map (·.1)) ++ s.recd.stage).drop (b2n (begun s.recd.job))
  let codes := rest.map (fun r => (r.code, r.ot)) ++ s.events.map fun e => (e.code, e.ot)
  { s with events := []
           recd := { s.recd with again := [], stage := [], job := .idle, mirStage := 0, away := s.recd.away + codes.length
                                 lost := codes.foldl (fun m x => some (noteMissed m x.1 x.2)) s.recd.lost } }

/-- A field kept whatever is reset: straps, the reset registers, key slots, the power-cycle count, pad state. -/
def keptField (k : Nat) (aon : Bool) : Bool :=
  let is (f : Fld) : Bool := f.key = k
  is Reg.GLB_STRAP.BOOTSRC || is Reg.GLB_STRAP.TWIN_HALF || is Reg.GLB_STRAP.BOOT || is Reg.GLB_STRAP.STACK_ID
    || is Reg.BRDG_STAT.STACKID || is Reg.BRDG_STAT.MASTER || is Reg.GLB_RST.KIND || is Reg.GLB_RST.WARMCNT || is Reg.RECD_PCC.VALUE
    || is Reg.GLB_REG.VIOOK || is Reg.RECD_NEXTSEQ.SEQ || is Reg.RECD_MORNSEQ.SEQ
    || (List.range 4).any (fun i => is (Reg.CMD_KEYSTAT.SET.ix i) || is (Reg.CMD_KEYSTAT.KCV.ix i))
    || (aon && (is Reg.REST_ALARM.ALARM || is Reg.INAU_STAT.LEADIN || is Reg.GLB_PACE.ACT))

/-- An MRAM bank whose store a reset or a loss of power cuts short fails validation: the image header is written last (R318, R491). -/
def cutStore (s : State) : State :=
  if s.hkp.running.contains .store then s.onBank s.inaBank fun b => { b with mram := b.mram.writeAll 0 (List.replicate 64 0) } else s

/-- What survives: queue, time, stores, recorder, and the always-on domain where `aon` (all but a power-on reset); everything else is new. -/
def carry (s : State) (aon : Bool) : State :=
  let s := s.cutStore
  { pending := s.pending, now := s.now, outs := s.outs, free := s.free, opBase := s.opTime, opAt := s.now, opPpm := s.opPpm
    -- only a power-on reset leaves FAILED (R398)
    regs := s.regs.filter fun e => keptField e.1 aon
      || (aon && s.recFailed && (e.1 = Reg.RECD_STAT.STATE.key || e.1 = Reg.GLB_FAULT.RECFAIL.key))
    events := s.events
    recd := { s.recd with scan := true, torn := none, classes := [], freeze := none, cursor := none
                          supp := if aon then s.recd.supp else [], lost := if aon then s.recd.lost else none, away := if aon then s.recd.away else 0 }
    rest := { cfgA := s.rest.cfgA, cfgB := s.rest.cfgB, retA := s.rest.retA, retB := s.rest.retB
              wakeIn := if aon then s.rest.wakeIn else none, keyA := aon && s.rest.keyA, keyB := aon && s.rest.keyB
              wakeout := if aon then s.rest.wakeout else none }
    pwr := { s.pwr with hold := none, hot := false, paceWait := false }
    prg := { a := { mram := s.prg.a.mram, bad := s.prg.a.bad }, b := { mram := s.prg.b.mram, bad := s.prg.b.bad }, start := s.prg.start }
    cmd := { keys := s.cmd.keys }
    inau := { kept := if aon then s.inau.kept else none }
    brdg := { crsUntil := s.now + ms 20, upSince := some s.now, idSeen := aon && s.brdg.idSeen } }

/-- The registers that follow what was carried, the configuration, programs, time session, timers, twin seeking, key. -/
def startUp (s : State) : State :=
  let s := s.timeSession.restoreCfg.readVoted 0x100
  let s := if s.glb.pace.value % 4 ≠ s.get Reg.GLB_PACE.ACT then s.put Reg.GLB_PACE.PBUSY 1 else s
  -- at PACE 0 and 1 the stack ports stay in DISABLED (R483)
  let s := if s.get Reg.GLB_PACE.ACT < 2 then (s.put Reg.BRDG_SPUP.STATE 0).put Reg.BRDG_SPDN.STATE 0 else s
  let s := s.loadPrograms
  let tw := s.flag Reg.TWIN_CFG.TWEN
  let s := (s.putB Reg.TWIN_STAT.TWON tw).putB Reg.TWIN_STAT.HALF (tw && s.flag Reg.GLB_STRAP.TWIN_HALF)
  let s := if tw then { s with twin.seekAt := some (s.now + ms 2) }.setTstate 1 else s
  let s : State := { s with inau.startupAt := if s.stackId = 0 then some (s.now + s.tStartup) else none }
  let s := (s.takeKey s.rest.keyA s.rest.keyB).refreshRole
  ((s.refreshInau).refreshBlocks).refreshStage

/-- A warm reset of a kind from 2 to 5 starts (R489): 0x0001 is recorded, no new frame starts, the hold-off runs; the first kind stays. -/
def startWarm (s : State) (kind : Nat) : State :=
  if s.pwr.hold.isSome || s.pwr.rst.isSome then s else { s.record 0x0001 (natBe 1 kind) with pwr.hold := some (kind, s.now + ms 2) }

/-- A warm reset takes effect (R489): kinds 2 to 5. -/
def warmReset (s : State) (kind : Nat) : State :=
  let s := s.progress.loseStaged
  let area := s.img.retained
  let s := { s with recd.session := true }.carry true
  let s := (s.put Reg.GLB_RST.KIND kind).satInc Reg.GLB_RST.WARMCNT
  { s with img.retained := area, inau.kept := none, pwr.rst := some kind, power := .active }

/-- The straps latch at power-on (R484, Table 18.5). -/
def latchStraps (s : State) (stack half boot : Nat) : State :=
  let s := (s.put Reg.GLB_STRAP.STACK_ID stack).put Reg.GLB_STRAP.TWIN_HALF half
  let s := s.put Reg.GLB_STRAP.BOOT boot
  (s.put Reg.BRDG_STAT.STACKID stack).putB Reg.BRDG_STAT.MASTER (stack = 0)

/-- The size in bytes that a JESD216 parameter table declares, where the answer to command 0x5A offers one: the SFDP signature, and a basic table of
at least 9 words whose second word gives the density in bits less 1, or its exponent (PRESUMED: the layout is that of JESD216; log entry 38). -/
def sfdpSize (t : Bytes) : Option Nat :=
  let p := leNat ((t.drop 12).take 3)
  let d := leNat ((t.drop (p + 4)).take 4)
  if leNat (t.take 4) ≠ 0x50444653 || byteAt t 11 < 9 || t.length < p + 36 then none
  else if d < 2 ^ 31 then some ((d + 1) / 8)
  else if d - 2 ^ 31 ≤ 40 then some (2 ^ (d - 2 ^ 31) / 8) else none

/-- The flash as the node uses it: absent unless it offers a valid table and its size lies from 1 MiB to 256 MiB (R486). -/
def flashOf (sfdp flash : Bytes) : Bytes := if (sfdpSize sfdp).any fun n => 2 ^ 20 ≤ n && n ≤ 2 ^ 28 then flash else []

/-- The check of a QSPI override image that fails, in the order of R487, from 1; 0: none. -/
def overrideCause (s : State) (b : Bytes) : Nat :=
  let len := fieldAt b 8 4
  let img := b.take len
  let blank (o n : Nat) (x : Bytes) : Bytes := x.take o ++ List.replicate n 0 ++ x.drop (o + n)
  if fieldAt b 0 4 ≠ 0x4C484250 ∨ b.length < 32 then 1
  else if len < 64 ∨ 131072 < len ∨ b.length < len then 2
  else if crc32 (blank 24 8 (blank 16 4 img)) ≠ fieldAt b 16 4 then 3
  else match (if byteAt b 6 < 4 then s.trainKey (byteAt b 6) else none) with
    | none => 4
    | some k => if (cmac k (img.take 24 ++ img.drop 32)).take 8 = (img.drop 24).take 8 then 0 else 4

/-- The firmware that runs (R487, GLB_STRAP.BOOTSRC). -/
def bootFirmware (s : State) : State :=
  match s.get Reg.GLB_STRAP.BOOT with
  | 1 =>
    let c := s.overrideCause s.pwr.flash
    if c = 0 then (s.put Reg.GLB_STRAP.BOOTSRC 1).record 0x0031 (natBe 4 (fieldAt s.pwr.flash 12 4))
    else (s.put Reg.GLB_STRAP.BOOTSRC 0).record 0x0032 (natBe 4 c)
  | 2 => s.put Reg.GLB_STRAP.BOOTSRC 2
  | 3 => (s.put Reg.GLB_STRAP.BOOTSRC 0).record 0x0030
  | _ => s.put Reg.GLB_STRAP.BOOTSRC 0

/-- Reset release: the node starts (R484, Table 18.4). After a power-on reset operating time and power-cycle count resume first (R391). -/
def releaseReset (s : State) (kind stack half boot : Nat) (flash : Bytes) : State :=
  let s : State := { s with power := .active, pwr := { s.pwr with rst := none, flash := flash } }
  let s := s.putB Reg.GLB_REG.VIOOK (!s.pwr.vio1 && !s.pwr.vio2)
  let s := if kind = 1 then (s.latchStraps stack half boot).resumeCounts else s
  let s := s.bootFirmware.startUp
  let s := (List.range 4).foldl (fun s n => s.restLane n) s
  if kind = 1 then s.loadRetained else s

/-! Block resets (R460, R490). -/

/-- Read-only fields that hold a result, a peak or a mailbox's words, by block: a block reset returns them to their defaults (R457, Table 18.8). The
other read-only fields report what goes on or what the reset keeps. -/
def resultFields (b : Nat) : List Fld :=
  match b with
  | 1 => (List.range 4).flatMap fun n => [Reg.LANE_EQRES.CTLE_ACT, Reg.LANE_EQRES.DFE1, Reg.LANE_EQRES.DFE2, Reg.LANE_EQRES.DFE3,
      Reg.LANE_STAT.PEER_END, Reg.LANE_STAT.PEER_LINE].map (Fld.at · n)
  | 2 => [Reg.INAU_STAT.DAYCORR, Reg.INAU_STAT.NOAGREE, Reg.INAU_MBSTAT.VALID, Reg.INAU_MBD0.DATA, Reg.INAU_MBD1.DATA, Reg.INAU_MBD2.DATA,
      Reg.INAU_MBD3.DATA]
  | 3 => [Reg.SCHD_MODEREQ.MRSTAT, Reg.SCHD_LASTPOL.LATE, Reg.SCHD_LASTPOL.LATER, Reg.SCHD_LASTPOL.LANE, Reg.SCHD_LASTPOL.SRC, Reg.SCHD_TSTAT.VALID]
  | 4 => [Reg.SYNC_STAT.NKEPT, Reg.SYNC_STAT.NVAL, Reg.SYNC_WORST.PEAK, Reg.SYNC_WORST.LAST, Reg.SYNC_DEV.VALUE]
      ++ (List.range 15).flatMap fun i => [Reg.SYNC_MEM.RESULT.ix i, Reg.SYNC_MEM.DEV.ix i]
  | 5 => [Reg.TIME_MBSTAT.VALID, Reg.TIME_MBD0.DATA, Reg.TIME_MBD1.DATA, Reg.TIME_MBD2.DATA, Reg.TIME_MBD3.DATA, Reg.TIME_EOFF.VALUE]
      ++ (List.range 4).map fun i => Reg.TCI_CTRL.FILL.ix i
  | 6 => [Reg.FWD_STAT.SUMERR]
  | 7 => (List.range 4).flatMap fun p => [Reg.CONS_STAT.PVFAIL, Reg.CONS_MDIO.BUSY, Reg.CONS_MDIO.RDERR].map (Fld.at · p)
      ++ (List.range 8).flatMap fun q => [(Reg.CONS_RXQ_HEAD.HEAD.at p).ix q, (Reg.CONS_TXQ_HEAD.HEAD.at p).ix q]
  | 8 => [Reg.CYCL_STAT.OVR, Reg.CYCL_EVAL.MAX, Reg.CYCL_EVAL.LAST, Reg.CYCL_SSTAT.VALID, Reg.PRG_STAT.RES, Reg.PRG_VSTAT.RESULT, Reg.PRG_VSTAT.IDXV,
      Reg.PRG_VSTAT.INDEX, Reg.FRC_STAT.FRES, Reg.FRC_STAT.VALID, Reg.PRG_XFER.KEPT, Reg.PRG_XFER.INIT, Reg.PRG_XFER2.MISM, Reg.PRG_XFER2.ORPH, Reg.PRG_SWCYC.CYC]
  | 10 => [Reg.REST_STAT.RES, Reg.REST_STAT.CFGBAD, Reg.REST_WAKESRC.SRC, Reg.REST_WAKESRC.LANE, Reg.REST_WAKESRC.POS, Reg.REST_ROUND.VPOS]
  | 11 => [Reg.RECD_STAT.HWRES, Reg.RECD_STAT.CKBAD, Reg.RECD_STAT.MIRFAIL, Reg.RECD_RSTAT.LINE, Reg.RECD_RSTAT.RES, Reg.RECD_RSTAT.VALID,
      Reg.RECD_RD0.DATA, Reg.RECD_RD1.DATA, Reg.RECD_RD2.DATA, Reg.RECD_RD3.DATA, Reg.RECD_STAGE.PEAK, Reg.RECD_CDATA.TOK, Reg.RECD_MIRSTAT.GAP, Reg.RECD_STAT.FROZEN]
  | 12 => [Reg.BRDG_FSEQ.FSEQ, Reg.BRDG_FSTAT.VALID, Reg.BRDG_FD0.DATA, Reg.BRDG_FD1.DATA, Reg.BRDG_FD2.DATA, Reg.BRDG_FD3.DATA, Reg.BRDG_STAT.IDERR]
  | 14 => [Reg.HKP_SSTAT.FULL0, Reg.HKP_SSTAT.FULL1, Reg.HKP_SSTAT.NEWEST, Reg.HKP_SSTAT.VALID, Reg.HKP_SD.DATA, Reg.HKP_MIDSTAT.MIDNO,
      Reg.HKP_MIDSTAT.RES, Reg.HKP_MIDSTAT.PEND, Reg.HKP_TEMP.TMAX, Reg.HKP_SPEED.SMAX, Reg.HKP_SCRADDR.REGION, Reg.HKP_SCRADDR.ADDR, Reg.HKP_LCALST.TCAL, Reg.HKP_LCALST.SUSP, Reg.HKP_STAT.SUSP]
  | _ => []

/-- A field that a block reset returns to its default: every one but what the hardware itself reports (RO), and of those the results. -/
def blockField (b : Nat) (f : Fld) : Bool := match f.acc with | .ro => (resultFields b).any (·.key = f.key) | _ => true

/-- Every field of block `b` that a reset returns to its default does so; `all` where its counters and its log do too (not at a PCIe reset,
R409). -/
def clearRegs (s : State) (b : Nat) (all : Bool) : State :=
  let keep (k : Nat) : Bool :=
    k / 32 / 0x10000 ≠ b || (fieldsAt (k / 32)).all fun f => f.key ≠ k || !blockField b f || ((f.acc = .cnt || f.acc = .ro) && !all)
  { s with regs := s.regs.filter fun e => keep e.1 }

/-- Frames that block `b` holds end, and their buffers are free (R28, R490). -/
def endFrames (s : State) (b : Nat) : State :=
  match b with
  | 1 => (List.range 4).foldl (fun s n => if s.laneUp n then s.leaveActive n else (s.dropLane n).restLane n) s
  | 6 => ((s.fab.frames.map (·.fid)).foldl badFrame s)
  | 7 =>
    -- frames that its rings hold end too, with their reads of host memory
    let ring (k : Fetch) : Bool := match k with | .rxDesc _ _ _ _ _ _ _ _ _ => true | .txData _ _ _ _ => true | _ => false
    let s := (s.allFetches.filter ring).foldl dropFetch { s with host := { s.host with fetches := s.host.fetches.filter (fun o => !ring o.kind), backs := [] } }
    let s := (List.range 4).foldl (fun s p => (List.range 8).foldl (fun s q => s.rxTaken p q) s) s
    (List.range 4).foldl (fun s p => (s.linkDown p).onPort p fun t =>
      { t with holdAt := none, holdFrom := none, wdAt := none, xoffAt := none, waiting := [], passed := [], partTx := [], mods := [], mdioAt := none }) s
  | 12 =>
    let s := if s.get Reg.BRDG_LOCK.STATE = 0 then s
      else if s.stackId ≠ 0 then s.stackSend 7 0 0 0 0 0 []
      else if s.get Reg.BRDG_LOCK.MEMBER ≠ 0 then s.stackSend 7 0 (s.get Reg.BRDG_LOCK.MEMBER) 0 0 0 []
      else s
    match s.brdg.coreLock with
    | none => s
    | some (h, t, _) => (if t ≠ 0 then s.stackSend 7 0 t 0 0 0 [] else s).stackMsg h 15 [1]
  | _ => s

/-- What a reset of block `b` does besides its registers. -/
def blockExtra (s : State) (b : Nat) : State :=
  match b with
  | 3 => { s with sched := { s.sched with pubs := [], subs := [], pubsNext := [], subsNext := [], reqRounds := 0, reqAnn := 0, resAnn := 0 } }
  | 5 => { s with time := { s.time with todArmed := none, tpo := Vector.replicate 4 {}, tci := Vector.replicate 4 {} } }
  | 7 => { s with ports := s.ports.map fun p => { p with rules := [] } }
  | 8 =>
    let s := s.clearForces.applyForceTable
    -- no swap is pending any more, and none has run (R316)
    let s := s.put Reg.PRG_STAT.SWPEND 0
    let s := if s.get Reg.PRG_STAT.OPRUN = 3 then s.put Reg.PRG_STAT.OPRUN 0 else s
    { s with eng := { s.eng with stations := [], half1 := [], next := [] }
             prg := { s.prg with swapReq := none, swapFclr := false, postponed := 0, swapCyc := 0 } }
  | 10 => { s with rest.saving := none }.endAct .save
  | 11 => { s with recd := { s.recd with classes := [], cursor := none, freeze := none } }
  | 12 =>
    let s := (s.put Reg.BRDG_LOCK.STATE 0).put Reg.BRDG_LOCK.LOCKRES 0
    let s := s.put Reg.CMD_STAT.LOCKWAIT 0
    { s with brdg := { s.brdg with reads := [], writes := [], held := [], fences := s.brdg.fences.filter (·.1 ≠ 0), pre := [], lockAt := none
                                   locked := false, lockSrc := 0, coreLock := none, retryAt := none, lockWait := false
                                   semWait := s.brdg.semWait.filter (·.1 ≠ 0) } }
  | 14 => { s with hkp := { s.hkp with bank0 := none, bank1 := none, mids := [], capAt := none } }
  | _ => s

/-- A block reset (R490): frames end, registers return to defaults and stored settings, WP and WCP writes in progress are discarded. -/
def blockReset (s : State) (b : Nat) (counters : Bool := true) : State :=
  let s := s.endFrames b
  -- κ has come to its present value under the rate that falls
  let s : State := if b = 5 then { s with time := { s.time with kappa := s.kappaAt s.now, kAt := s.now } } else s
  let was := (s.get Reg.INAU_CTRL.EN, s.get Reg.INAU_CTRL.LEADMASK)
  let s : State := { s with glb := { s.glb with pairs := s.glb.pairs.filter fun (p : Nat × Nat × Nat) => p.1 / 0x10000 ≠ b
                                                posted := s.glb.posted.filter fun (p : Nat × Nat) => p.1 / 0x10000 ≠ b } }
  let busy : List Fld := match b with
    | 3 => [Reg.SCHD_TSTAT.BUSY] | 8 => [Reg.CYCL_SSTAT.BUSY, Reg.PRG_STAT.BUSY, Reg.FRC_STAT.BUSY] | 10 => [Reg.REST_STAT.BUSY]
    | 11 => [Reg.RECD_STAT.BUSY, Reg.RECD_RSTAT.BUSY] | _ => []
  let s := busy.foldl (fun s f => s.put f 0) s
  let s := (s.clearRegs b counters).blockExtra b
  -- the far-error log is a result like any other, but stays at a PCIe reset (R409)
  let s : State := if b = 12 && counters then { s with brdg.log := [] } else s
  let s := match s.cfgBest with | some c => s.applyCfg c b | none => s
  -- R73: a change of EN or LEADMASK is a joint change, whatever has brought it about
  let s := if b = 2 && was ≠ (s.get Reg.INAU_CTRL.EN, s.get Reg.INAU_CTRL.LEADMASK) then s.jointChange none else s
  if b = 1 then (List.range 4).foldl (fun s n => s.restLane n) s else s

end State

end Sys2Proof.Machine
end

