-- ==== Sys2Proof/Machine/Dusk.lean ====
section
/-! DEFINITION. The Dusk round (R362 to R368, R444): call, token, verdict, retract, cancellation, dimming. -/

namespace Sys2Proof.Machine

/-- A DUSK payload (Table 13.1). -/
structure DuskMsg where
  kind : Nat
  tw : Bool := false
  commit : Bool := false
  round : Nat := 0
  count : Nat := 0
  vpos : Nat := 0
  reason : Nat := 0
  twMode : Nat := 0
  desc : Nat := 0
  ccyc : Nat := 0
  csec : Nat := 0
  cns : Nat := 0
deriving DecidableEq, Repr

def DuskMsg.bytes (m : DuskMsg) : Bytes :=
  natBe 1 m.kind ++ natBe 1 (128 * b2n m.tw + 64 * b2n m.commit) ++ natBe 2 m.round ++ natBe 2 m.count ++ natBe 2 m.vpos ++ natBe 1 m.reason
    ++ natBe 1 m.twMode ++ [0, 0] ++ natBe 4 m.desc ++ natBe 4 m.ccyc ++ natBe 6 m.csec ++ natBe 4 m.cns ++ [0, 0]

def duskMsg (p : Bytes) : DuskMsg :=
  { kind := byteAt p 0, tw := bit (byteAt p 1) 7, commit := bit (byteAt p 1) 6, round := fieldAt p 2 2, count := fieldAt p 4 2,
    vpos := fieldAt p 6 2, reason := byteAt p 8, twMode := byteAt p 9, desc := fieldAt p 12 4, ccyc := fieldAt p 16 4,
    csec := fieldAt p 20 6, cns := fieldAt p 26 4 }

namespace State

/-- REST_STAT.DSTATE: 0 IDLE, 1 CALLED, 2 CONSENTED, 3 COMMITTING, 4 DIMMING. -/
def dState (s : State) : Nat := s.get Reg.REST_STAT.DSTATE

/-- The lanes by which a DUSK frame leaves at end `e`: every working lane, none across the break joint or an isolated joint (R362, R364). -/
def duskLanes (s : State) (e : Nat) : List Nat :=
  if s.breakEnd = some e || (s.vend e).isolated then [] else s.workingLanes e

/-- A DUSK frame is originated on the lanes of the ends given. -/
def sendDusk (s : State) (m : DuskMsg) (ends : List Nat) : State := s.originate (s.inauFrame 0x18 m.bytes) (ends.flatMap s.duskLanes)

/-- The message of the open round. -/
def duskOf (s : State) (kind : Nat) : DuskMsg :=
  { kind := kind, tw := s.rest.tw, round := s.rest.round, twMode := s.rest.twMode, desc := s.rest.desc }

/-- What tells apart the copies of a DUSK frame: KIND, round and sending position; for a VERDICT or RETRACT its originator (R362, R366). -/
def duskKey (m : DuskMsg) (src : Nat) : Nat × Nat × Nat :=
  if m.kind = 3 || m.kind = 4 then (m.kind + 8 * b2n m.commit, m.round, m.vpos) else (m.kind, m.round, src)

/-- The highest Dusk round number seen in this time session, plus 1 (R363). -/
def nextDuskRound (s : State) : Nat :=
  let top := s.rest.seen.foldl (fun t (k : Nat × Nat × Nat) => if k.1 ≠ 5 && (t = 0 || 0 < sdiff16 k.2.1 t) then k.2.1 else t) 0
  if top = 65535 then 1 else top + 1

/-- A round reaches this node for the first time (REST_ROUNDS, REST_IRQ.ROUND, REST_ROUND). -/
def noteDusk (s : State) (round : Nat) : State :=
  if s.get Reg.REST_ROUND.ROUND = round then s
  else (((s.put Reg.REST_ROUND.ROUND round).put Reg.REST_ROUND.VPOS 0).bump Reg.REST_ROUNDS.COUNT).raise Reg.REST_IRQ.ROUND

/-- The WAKE input is active: its level after the debounce under the polarity REST_WAKE.WPOL (R376); it reads as inactive while VIO1 is lost
(R480). -/
def wakeActive (s : State) : Bool := s.rest.wakeIn.any (· ≠ s.flag Reg.REST_WAKE.WPOL)

/-- Table 13.2: the conditions of codes 1 to 8, 10 and 11 that hold and count at this node, lowest code first. -/
def duskReasons (s : State) : List Nat :=
  let key := keyMode (b2n s.rest.keyA + 2 * b2n s.rest.keyB)
  [(1, s.flag Reg.REST_CTRL.HOLD),
   (2, s.flag Reg.REST_CFG.VKEY && (key = 1 || key = 2)),
   (3, s.flag Reg.REST_CFG.VENG && s.engineRuns),
   (4, s.flag Reg.REST_CFG.VPIN && s.wakeActive),
   (5, s.flag Reg.REST_CFG.VLEAD && s.flag Reg.INAU_STAT.LEADIN),
   (6, s.flag Reg.REST_CFG.VSAVE && s.flag Reg.REST_STAT.CFGDIRTY),
   (7, s.time.map.isNone),
   (8, s.time.epNext.isSome),
   (10, !s.flag Reg.REST_CTRL.EN),
   (11, s.get Reg.INAU_STAT.STATE ≠ 0 || s.rest.jointNew)].filterMap fun (x : Nat × Bool) => if x.2 then some x.1 else none

/-- The open round ends at this node without a commit (R368): cause 1 verdict of abort, 2 retract, 3 Noon, 4 timeout. -/
def endDusk (s : State) (cause : Nat) : State :=
  if s.dState = 0 then s
  else
    let led := s.rest.leadAt.isSome
    let s : State := { s with cmd.shut := false
                              rest := { s.rest with leadAt := none, consentAt := none, commit := none } }
    let s := (s.put Reg.REST_STAT.DSTATE 0).put Reg.REST_STAT.HELD 0
    let s := ((s.bump Reg.REST_CANCEL.COUNT).raise Reg.REST_IRQ.CANCEL).record 0x0406 (natBe 4 cause)
    if led then
      let res := match cause with | 1 => 7 | 2 => 8 | 3 => 10 | _ => 9
      (s.put Reg.REST_STAT.RES res).completeOp 0x40 10 res
    else s

/-- This node stops the round with a reason, `count` consents having been collected: VERDICT of abort out of both ends (R362, R364, R365). -/
def vetoDusk (s : State) (reason count : Nat) : State :=
  let m := { s.duskOf 3 with vpos := s.pos, reason := reason, count := count }
  let s : State := { s with rest.seen := duskKey m s.pos :: s.rest.seen }
  let s := (s.sendDusk m [0, 1]).put Reg.REST_ROUND.VPOS s.pos
  (((s.bump Reg.REST_VETO.COUNT).raise Reg.REST_IRQ.VETO).record 0x0403 (natBe 1 reason)).endDusk 1

/-- A commit is accepted for map time `tc` (R366): the compare unit is armed, and Tc is known of (R371, R372). -/
def acceptCommit (s : State) (ccyc : Nat) (tc : Int) : State :=
  match s.mapAt s.now with
  | none => s
  | some m =>
    let at_ := ((s.now : Int) + wrapT (tc - m)).toNat
    let s : State := { s with rest := { s.rest with commit := some tc, tcs := at_ :: s.rest.tcs } }
    let s := (s.put Reg.REST_STAT.DSTATE 3).put Reg.REST_COMMIT.CCYC ccyc
    let s := (s.raise Reg.REST_IRQ.COMMIT).record 0x0405 (natBe 4 ccyc)
    if s.rest.leadAt.isSome then s.completeOp 0x40 0 (s.get Reg.REST_STAT.RES) else s

/-- The last node of the train has consented (R365): the round ends, or COUNT vetoes it. -/
def lastConsent (s : State) (count : Nat) : State :=
  if count ≠ s.get Reg.INAU_POS.NPOS then s.vetoDusk 12 count
  else match s.mapAt (s.bnd + 3 * s.tLen) with
    | none => s
    | some tc =>
      let k := (s.cyc + 3) % 2 ^ 32
      let sn := secNs tc
      let m := { s.duskOf 3 with commit := true, count := count, ccyc := k, csec := sn.1, cns := sn.2 }
      let s : State := { s with rest.seen := duskKey m s.pos :: s.rest.seen }
      (s.sendDusk m [0, 1]).acceptCommit k tc

/-- The token of the open round visits this node with COUNT (R364). -/
def visitToken (s : State) (count : Nat) : State :=
  let bad9 := s.rest.tw && (s.rest.twMode ≠ s.get Reg.REST_CFG.TWMODE || s.rest.desc ≠ s.modeDesc s.rest.twMode)
  let s : State := { s with rest := { s.rest with answered := (s.rest.round, s.pos) :: s.rest.answered, jointNew := false } }
  let rs := s.duskReasons ++ (if bad9 then [9] else [])
  match rs with
  | r :: rest => s.vetoDusk (rest.foldl min r) count
  | [] =>
    let count := if s.pos ≠ 0 then count + 1 else count
    let s : State := { s.put Reg.REST_STAT.DSTATE 2 with rest := { s.rest with consentAt := some s.cyc, count := count } }
    let last := s.roster.any fun r => s.pos ≠ 0 && r.seqOf s.pos = r.n
    if last then s.lastConsent count else s.sendDusk { s.duskOf 2 with count := count } [s.aftEnd]

/-- A DUSK frame of this key has been seen. -/
def noteSeen (s : State) (k : Nat × Nat × Nat) : State := { s with rest.seen := k :: s.rest.seen }

/-- A round is taken up: its parameters as the CALL or TOKEN gives them. -/
def openDusk (s : State) (m : DuskMsg) : State :=
  { s with rest := { s.rest with round := m.round, tw := m.tw, twMode := m.twMode, desc := m.desc, count := m.count } }

/-- A request for a Dusk round (R363): refused with RES, or started. -/
def requestDusk (s : State) (twl : Bool) : State :=
  let refuse (c : Nat) : State := s.put Reg.REST_STAT.RES c
  match s.roster with
  | none => refuse 6
  | some r =>
    let mode := s.get Reg.REST_CFG.TWMODE
    let d := s.modeRule mode
    if !s.isLeader then refuse 2
    else if s.dState ≠ 0 then refuse 3
    else if twl && s.power = .twilight then refuse 5
    else if twl && !(r.entries.any fun e => e.twkeep && e.syncCap && bEff d.1 d.2 e ≠ 0) then refuse 4
    else
      let m : DuskMsg := { kind := 1, tw := twl, round := s.nextDuskRound, twMode := if twl then mode else 0, desc := if twl then s.modeDesc mode else 0 }
      let s := (s.put Reg.REST_STAT.RES 1).record 0x0401 (natBe 2 m.round ++ natBe 1 (b2n twl))
      let s : State := { s.openDusk m with rest.seen := (1, m.round, s.pos) :: s.rest.seen }
      let s : State := { s.noteDusk m.round with rest.leadAt := some s.cyc }
      let s := s.put Reg.REST_STAT.DSTATE 1
      if r.seqOf s.pos = 1 then s.visitToken 0 else s.sendDusk m [s.foreEnd]

/-- A DUSK frame of the kind given, for this node: on a lane that is up and not across an isolated joint or the break joint (R227), first copy,
generation in force (R362). A TOKEN that comes again from its sender on one line is a second token of its round; its copy on the other line is none (R30,
R364). -/
def takeDusk (s : State) (n : Nat) (f : Bytes) (kind : Nat) (act : State → DuskMsg → State) : State :=
  let m := duskMsg (payload f)
  if !(s.laneUp n && headerCheck f = .ok && hCls f = .mgmt && hType f = 0x18 && hLen f = 32 && m.kind = kind) then s
  else if (s.vend (endOf n)).isolated then s.bump Reg.FWD_ISOL.COUNT
  else if s.breakEnd = some (endOf n) then s.bump Reg.FWD_BREAK.COUNT
  else if s.inau.force.isNone || hGen f ≠ s.gen then s
  else
    let tok := (m.round, hSrc f, lineOf n)
    let again := kind = 2 && s.rest.tokens.contains tok
    let s : State := if kind = 2 && !again then { s with rest.tokens := tok :: s.rest.tokens } else s
    if s.rest.seen.contains (duskKey m (hSrc f)) then (if again then s.record 0x0402 else s)
    else act { s with rest.seen := duskKey m (hSrc f) :: s.rest.seen } m

/-- A CALL (R363): relayed toward q = 1, which originates the TOKEN. -/
def takeCall (s : State) (m : DuskMsg) : State :=
  let s := s.noteDusk m.round
  if (s.roster.any fun r => s.pos ≠ 0 && r.seqOf s.pos = 1) then
    if s.rest.answered.any (·.1 = m.round) then s else (s.openDusk m).visitToken 0
  else s.sendDusk m [s.foreEnd]

/-- A TOKEN (R364): a second one of an answered round is discarded. -/
def takeToken2 (s : State) (m : DuskMsg) : State :=
  if s.rest.answered.any (·.1 = m.round) then s.record 0x0402
  else ((s.noteDusk m.round).openDusk m).visitToken m.count

/-- Instant of the armed commit on the time base, by the map as it stands. -/
def commitAt (s : State) : Option Nat :=
  match s.rest.commit, s.mapAt s.now with
  | some tc, some m => some ((s.now : Int) + wrapT (tc - m)).toNat
  | _, _ => none

/-- A VERDICT (R366, R368): relayed; a commit is accepted, or discarded once the own dimming would have begun. -/
def takeVerdict2 (s : State) (e : Nat) (m : DuskMsg) : State :=
  let s := s.sendDusk m [oppEnd e]
  if m.commit then
    let tc := ofSecNs m.csec m.cns
    let late := match s.mapAt s.now with
      | some now => wrapT (tc - now) < us 100
      | none => true
    if s.dState = 2 && m.round = s.rest.round && !late then s.acceptCommit m.ccyc tc
    else match s.mapAt s.now with
      | some now => { s with rest.tcs := ((s.now : Int) + wrapT (tc - now)).toNat :: s.rest.tcs }
      | none => s
  else
    let s := if s.get Reg.REST_ROUND.ROUND = m.round then s.put Reg.REST_ROUND.VPOS m.vpos else s
    if m.round = s.rest.round then s.endDusk (if m.reason = 13 then 4 else 1) else s

/-- A RETRACT (R366, R368): relayed; it ends the round before dimming, and holds its reason after it. -/
def takeRetract (s : State) (e : Nat) (m : DuskMsg) : State :=
  let s := s.sendDusk m [oppEnd e]
  let s := if s.get Reg.REST_ROUND.ROUND = m.round then s.put Reg.REST_ROUND.VPOS m.vpos else s
  if m.round ≠ s.rest.round then s
  else if s.dState = 4 then (if s.flag Reg.REST_STAT.HELD then s else (s.put Reg.REST_STAT.HELD 1).record 0x040C)
  else s.endDusk 2

/-- A wake reason at a node that has consented (R367): retracted before the deadline, held after it. -/
def wakeReason (s : State) : State :=
  if s.dState < 2 then s
  else match s.duskReasons with
    | [] => s
    | r :: _ =>
      let open_ := s.dState = 2 || (s.dState = 3 && 0 < sdiff32 (s.get Reg.REST_COMMIT.CCYC + (2 ^ 32 - 2)) s.cyc)
      if open_ then
        let m := { s.duskOf 4 with vpos := s.pos, reason := r }
        let s : State := { s with rest.seen := duskKey m s.pos :: s.rest.seen }
        let s := (s.sendDusk m [0, 1]).put Reg.REST_ROUND.VPOS s.pos
        (((s.bump Reg.REST_RETRACT.COUNT).raise Reg.REST_IRQ.VETO).record 0x0404 (natBe 1 r)).endDusk 2
      else if s.flag Reg.REST_STAT.HELD then s
      else (s.put Reg.REST_STAT.HELD 1).record 0x040C

/-- The writes of REST_CTRL: DUSK with TWL, SAVE (ignored while BUSY), EN and HOLD. -/
def writeRestCtrl (s : State) (v : Nat) : State :=
  let s := s.storeWord Reg.REST_CTRL.EN.addr v
  let s := if bit v 1 then s.requestDusk (bit v 2) else s
  let s := if bit v 4 then (if s.flag Reg.REST_STAT.BUSY then s.put Reg.REST_STAT.WIGN 1 else s.saveStart) else s
  s.wakeReason

/-- Every open packet from every source completes with ABORTED (R32, R444, R460). -/
def abortSlots (s : State) : State := (s.cmd.slots.map (·.1)).foldl (fun s n => s.complete n 1 0 []) s

/-- The boundary of a Dusk cycle (R444): the interface closes. -/
def duskBoundary (s : State) : State :=
  if 3 ≤ s.dState && s.cyc = (s.get Reg.REST_COMMIT.CCYC + (2 ^ 32 - 1)) % 2 ^ 32 then { s with cmd.shut := true }.abortSlots else s

end State

/-- REST_DUSK_WRITE (R363). -/
def execRestDuskWrite (value : Word) (s : State) : Host.Outcome State Fault Refusal := live s fun s => done (s.writeRestCtrl value.toNat)

/-- REST_SAVE_WRITE (R380). -/
def execRestSaveWrite (value : Word) (s : State) : Host.Outcome State Fault Refusal := live s fun s => done (s.writeRestCtrl value.toNat)

/-- CONFIG_SAVE_COMPLETE (R380). -/
def execConfigSaveComplete (s : State) : Host.Outcome State Fault Refusal := live s fun s => done s.saveDone

/-- DUSK_CALL_RECEIVED (R363). -/
def execDuskCallReceived (lane : Lane) (frame : Bytes) (s : State) : Host.Outcome State Fault Refusal :=
  live s fun s => done (s.takeDusk lane frame 1 State.takeCall)

/-- DUSK_TOKEN_RECEIVED (R364, R365). -/
def execDuskTokenReceived (lane : Lane) (frame : Bytes) (s : State) : Host.Outcome State Fault Refusal :=
  live s fun s => done (s.takeDusk lane frame 2 State.takeToken2)

/-- DUSK_VERDICT_RECEIVED (R366). -/
def execDuskVerdictReceived (lane : Lane) (frame : Bytes) (s : State) : Host.Outcome State Fault Refusal :=
  live s fun s => done (s.takeDusk lane frame 3 fun s m => s.takeVerdict2 (endOf lane) m)

/-- DUSK_RETRACT_RECEIVED (R368). -/
def execDuskRetractReceived (lane : Lane) (frame : Bytes) (s : State) : Host.Outcome State Fault Refusal :=
  live s fun s => done (s.takeDusk lane frame 4 fun s m => s.takeRetract (endOf lane) m)

/-- DUSK_ROUND_TIMEOUT (R368): the leader has had no VERDICT for TDUSK cycles. -/
def execDuskRoundTimeout (s : State) : Host.Outcome State Fault Refusal :=
  live s fun s => done (match s.rest.leadAt with
    | none => s
    | some c =>
      if (s.dState = 1 || s.dState = 2) && (s.tDusk : Int) ≤ sdiff32 s.cyc c then
        let m := { s.duskOf 3 with vpos := s.pos, reason := 13, count := s.rest.count }
        let s : State := { s with rest.seen := State.duskKey m s.pos :: s.rest.seen }
        ((s.sendDusk m [0, 1]).put Reg.REST_ROUND.VPOS s.pos).endDusk 4
      else s)

/-- DUSK_CONSENT_TIMEOUT (R368): TDUSK + 2 cycles after the consent. -/
def execDuskConsentTimeout (s : State) : Host.Outcome State Fault Refusal :=
  live s fun s => done (match s.rest.consentAt with
    | none => s
    | some c => if s.dState = 2 && (s.tDusk + 2 : Int) ≤ sdiff32 s.cyc c then s.endDusk 4 else s)

/-- DUSK_DIMMING (R369): 100 µs before Tc; the stack master tells its members. -/
def execDuskDimming (s : State) : Host.Outcome State Fault Refusal :=
  live s fun s => done (match s.commitAt with
    | none => s
    | some t =>
      if s.dState ≠ 3 then s
      else
        let s := (s.reach (t - us 100)).put Reg.REST_STAT.DSTATE 4
        let left := t - s.now
        s.members.foldl (fun s m => s.stackMsg m 6 (natBe 4 (left / 16))) s)

end Sys2Proof.Machine
end

