-- ==== Sys2Proof/Machine/Boundary.lean ====
section
/-! DEFINITION. Cycle boundaries: reached by counting (R23), placed by a DAYBREAK (R102), or placed by a re-phase (R122, R123), with
what runs at them; the conservation check of the pool (R28, R33, R243). -/

namespace Sys2Proof.Machine

/-- Value moved toward a target by at most `d`. -/
def stepToward (d : Nat) (x target : Int) : Int := if x < target then min target (x + d) else max target (x - d)

namespace State

/-- Path status of a VITAL channel at a boundary (R240): STATUS and the live flags A0, A1, B0, B1. -/
def vitalPaths (s : State) (v : VitS) : Nat × List Bool :=
  let live := v.seen.toList.map fun c => c.any fun c => decide (sdiff32 s.cyc c ≤ (s.pathAge : Int))
  let at_ (i : Nat) : Bool := (live[i]?).getD false
  let a := at_ 0 || at_ 1
  let b := at_ 2 || at_ 3
  ((if a && b then 3 else if a then 1 else if b then 2 else 0), live)

/-- FWD_VPATHn of one channel follows its paths; a narrowed or a lost status is reported once per channel and generation (R240). -/
def refreshVital (s : State) (id : Nat) (v : VitS) : State :=
  let p := s.vitalPaths v
  let i := id - 1
  let old := s.get (Reg.FWD_VPATH.STATUS.ix i)
  let flag (k : Nat) : Bool := (p.2[k]?).getD false
  let src := ((s.roster.bind fun r => r.ofUid v.src).map Entry.pos).getD 0
  let s := ((s.put (Reg.FWD_VPATH.STATUS.ix i) p.1).put (Reg.FWD_VPATH.SRC.ix i) src).putB (Reg.FWD_VPATH.A0.ix i) (flag 0)
  let s := ((s.putB (Reg.FWD_VPATH.A1.ix i) (flag 1)).putB (Reg.FWD_VPATH.B0.ix i) (flag 2)).putB (Reg.FWD_VPATH.B1.ix i) (flag 3)
  if old = 3 && (p.1 = 1 || p.1 = 2) then (s.raise Reg.FWD_IRQ.VPATH).recordGen 0x0703 id
  else if old ≠ 0 && p.1 = 0 then (s.raise Reg.FWD_IRQ.VNONE).recordGen 0x0704 id
  else s

/-- Every channel is judged, and FWD_VPSUM counts them. A path on which no copy comes stays dead, however long (R240). -/
def vitalBoundary (s : State) : State :=
  let s : State := { s with fab.vit := s.fab.vit.map fun (x : Nat × VitS) => (x.1, { x.2 with seen := x.2.seen.map fun c => c.map s.capAge }) }
  let s := s.fab.vit.foldl (fun s (x : Nat × VitS) => s.refreshVital x.1 x.2) s
  let one := (s.fab.vit.filter fun x => let t := s.get (Reg.FWD_VPATH.STATUS.ix (x.1 - 1)); t = 1 || t = 2).length
  let none_ := (s.fab.vit.filter fun x => s.get (Reg.FWD_VPATH.STATUS.ix (x.1 - 1)) = 0 && s.get (Reg.FWD_VPATH.SRC.ix (x.1 - 1)) ≠ 0).length
  (s.put Reg.FWD_VPSUM.ONE one).put Reg.FWD_VPSUM.NONE none_

/-- Calibration corrections move by at most 0.25 ns in each cycle (R472). -/
def calStep (s : State) : State :=
  (List.range 4).foldl (fun s n =>
    let t := ((s.hkp.cals[n]?).getD {}).target
    if (s.lane n).cal = t then s else s.onLane n fun l => { l with cal := stepToward 4 l.cal t }) s

/-- What the cycle that has ended leaves: measurements, the guardian's clear cycles, crossover, the previous roster (R113, R129, R155). -/
def closeCycle (s : State) : State :=
  let s := s.clearDevs
  { s with sched := { s.sched with clear := if s.sched.dirty then 0 else min 2 (s.sched.clear + 1), dirty := false
                                   joinNoon := s.sched.joinNoon.filter fun j => decide (0 ≤ sdiff32 s.cyc j.1) && decide (sdiff32 s.cyc j.1 < 8) }
           inau := { s.inau with sent := [], prev := if s.inau.noonCyc = some s.cyc then s.inau.prev else none } }

/-- Numbers of the cycles before a boundary that a DAYBREAK places say nothing of the cycle that begins there (R102, R122, R127): its
telegrams, commit, captures and VITAL sequence numbers are its own. -/
def freshCycle (s : State) : State :=
  let r := if s.inau.pending.isSome && s.inau.noon = some s.cyc then s.inau.pending.map (·.roster) else s.roster
  -- a window that opens less than 1 µs after the boundary has been captured for this cycle (R146)
  let early (fwd : Bool) : Bool := r.any fun r => ((s.schedOf r).ofUid s.entryUid).any fun w => (if fwd then w.oF else w.oR) < 1000
  { s with eng := { s.eng with sent := [], committed := none }
           sched := { s.sched with seqs := s.sched.seqs.map (fun x => (x.1, x.2.1, x.2.2.1, 2 ^ 32))
                                   cycR := if early false then s.sched.cycR else 2 ^ 32
                                   cycF := if early true then s.sched.cycF else 2 ^ 32 } }

/-- Ages that count by cycle numbers go on where a boundary numbers the cycles anew, by `d` more than counting would (R102, R122, R127): path ages of
VITAL channels (R240), ages of subscriptions (R162), joining Noon and pending mode (R166), role notices, watched positions and verdicts of twins
(R357, R358), the release (R346), the mirror (R353). -/
def rebaseAges (s : State) (d : Int) : State :=
  let mv (c : Nat) : Nat := (((c : Int) + d) % 2 ^ 32).toNat
  let s := if s.flag Reg.TWIN_STAT.RELPEND then s.put Reg.TWIN_RELCYC.RELCYC (mv (s.get Reg.TWIN_RELCYC.RELCYC)) else s
  { s with fab.vit := s.fab.vit.map fun (x : Nat × VitS) => (x.1, { x.2 with seen := x.2.seen.map fun c => c.map mv })
           sched := { s.sched with stats := s.sched.stats.map fun (x : Nat × SubStat) => (x.1, { x.2 with base := mv x.2.base })
                                   joinNoon := s.sched.joinNoon.map fun j => (mv j.1, j.2), annCyc := mv s.sched.annCyc }
           twin := { s.twin with roles := s.twin.roles.map fun x => (x.1, x.2.1, x.2.2.1, mv x.2.2.2)
                                 watched := s.twin.watched.map fun x => (x.1, mv x.2)
                                 verdTx := s.twin.verdTx.map fun x => (x.1, mv x.2)
                                 verdRx := s.twin.verdRx.map fun x => (x.1, x.2.1, x.2.2.1, mv x.2.2.2)
                                 ackRel := s.twin.ackRel.map mv
                                 setCyc := mv s.twin.setCyc } }

/-- This boundary is the commit instant of an accepted commit. -/
def atCommit (s : State) : Bool := 3 ≤ s.dState && s.cyc = s.get Reg.REST_COMMIT.CCYC

/-- The pending roster comes into force where this boundary is its Noon; an open Dusk round ends, unless its commit instant is this very boundary
(R100, R368). -/
def noonHere (s : State) : State :=
  if s.noonNow then (if s.atCommit then s else s.endDusk 3).commitPending else s

/-- The master's boundary goes to every stack member in every cycle (R428), with the time since it, 1/16 ns, the map time where a map is held, the
schedule mode, the claim, the generation and T in force (R16, log entry 26). -/
def tellMembers (s : State) : State :=
  let m := secNs ((s.mapAt s.bnd).getD 0)
  let fl := 128 * b2n s.inau.force.isSome + 64 * b2n s.onLoop + 32 * b2n (s.mapAt s.bnd).isSome
  s.members.foldl (fun s k => s.stackMsg k 3 (natBe 4 s.cyc ++ natBe 6 m.1 ++ natBe 4 m.2 ++ natBe 1 s.modeNow ++ natBe 1 fl
    ++ natBe 4 s.claim ++ natBe 4 (s.now - s.bnd)
    ++ natBe 2 s.gen ++ natBe 1 (s.tLen / us 250))) s

/-- What runs at every boundary once the roster of the new cycle stands; `noon` at the first Noon of the session, `tchg` where T has
changed, `reph` at a re-phase. -/
def openCycle (s : State) (noon tchg reph : Bool) : State :=
  let s := s.refreshSyncOff
  let s := s.timeBoundary.actVerdict
  let s := if s.active then s.claimBoundary noon else s
  let s := (s.refreshRole).refreshRef.sendRole.watchRoles
  let s := s.applyTables.vitalBoundary
  let s := if s.active then s.engineBoundary reph tchg else s
  let s := s.modeBoundary.drainRemote.duskBoundary
  let s := s.calStep
  s.tellMembers

/-- The boundary that the node reaches by counting (R23, R181). -/
def cycleBoundary (s : State) : State :=
  if !s.cycRun || s.rephCycle || s.stackId ≠ 0 then s
  else
    let s := s.endSteer.reach (s.bnd + s.tLen)
    let carried := s.residNow
    let s : State := { s with bnd := s.bnd + s.tLen, cyc := (s.cyc + 1) % 2 ^ 32 }
    let s := s.rebaseMap
    let s := match s.roster with
      | some r => s.syncRound r carried
      | none => s
    let s := s.closeCycle
    let t := s.tLen
    let seen := s.time.noonSeen
    let s := s.noonHere
    s.openCycle (!seen && s.time.noonSeen) (t ≠ s.tLen) false

/-- The number of whole cycles that have passed since an instant (R102). -/
def cyclesSince (s : State) (tb : Int) : Nat := (((s.now : Int) - tb) / (s.tLen : Int)).toNat

/-- A boundary placed by a DAYBREAK without a re-phase arrives (R102): the node counts from cycle `k`, and sets its train time. -/
def daybreakBoundary (s : State) : State :=
  match s.inau.place with
  | none => s
  | some (tb, k, tt) =>
    if s.inau.rephase || s.cycRun then s
    else
      let s := s.reach tb.toNat
      let n := s.cyclesSince tb
      let s := s.rebaseAges (((k + n : Nat) : Int) - (s.cyc + 1 : Nat))
      let s : State := { s with cycRun := true, cyc := (k + n) % 2 ^ 32, bnd := (tb + n * s.tLen).toNat
                                inau := { s.inau with place := none } }
      let s := s.setMap k tt
      let s := s.syncRephase.closeCycle.freshCycle
      let seen := s.time.noonSeen
      let s := s.noonHere
      s.openCycle (!seen && s.time.noonSeen) false false

/-- t_b of a re-phase arrives (R122, R123, R124, R196, R505): the cycle ends, cycle `k` begins. -/
def rephaseBoundary (s : State) : State :=
  match s.inau.place with
  | none => s
  | some (tb, k, tt) =>
    if !s.inau.rephase then s
    else
      let s := s.endSteer.reach tb.toNat
      let merge := s.inau.noon = some k
      let ran := s.cycRun
      let t := s.tLen
      let n := s.cyclesSince tb
      let bnd := (tb + n * s.tLen).toNat
      let cyc := (k + n) % 2 ^ 32
      let old := s.mapAt bnd
      let s := s.rebaseAges (((cyc : Nat) : Int) - (s.cyc + 1 : Nat))
      let s : State := { s with cycRun := true, cyc := cyc, bnd := bnd
                                time.map := if s.time.map.isSome then old.map fun m => (cyc, m) else none
                                inau := { s.inau with place := none, rephase := false, noon := if merge then some cyc else s.inau.noon } }
      let s := s.syncRephase.closeCycle.freshCycle
      let seen := s.time.noonSeen
      let s := if merge || ran then s.record 0x0226 else s
      let s := s.noonHere
      -- R124: the map of the merge DAYBREAK; a cold DAYBREAK sets the time of a node without a map
      let s := if merge then s.adoptMap k tt else if s.time.map.isNone then s.setMap k tt else s
      s.openCycle (!seen && s.time.noonSeen) (ran && t ≠ s.tLen) true

/-- The conservation check of the pool (R28, R33). -/
def poolCheck (s : State) : State :=
  if s.poolSumOk then s
  else (((s.put Reg.FWD_STAT.SUMERR 1).raise Reg.FWD_IRQ.SUMERR).record 0x0F01).fault Reg.GLB_FAULT.SUMERR

end State

/-- POOL_CONSERVATION_CHECK (R243): every 1,024 cycles. -/
def execPoolConservationCheck (s : State) : Host.Outcome State Fault Refusal := live s fun s => done s.poolCheck

end Sys2Proof.Machine
end

