-- ==== Sys2Proof/Machine/Reads.lean ====
section
/-! DEFINITION. The word that a register reads as, with what is computed at the read (R463: without any side effect), and the list of
register addresses that a snapshot copies. -/

namespace Sys2Proof.Machine

/-- The block of a vector's source register. -/
def vecBlock (x : Nat × Nat × Nat) : Nat := x.1 / 0x10000

namespace State

/-- GLB_ISUM.BLK: bit b for the block whose offset has b as its second hex digit. -/
def isum (s : State) : Nat :=
  let hot : List Nat := (List.range 56).flatMap fun v => (vecSrc v).filterMap fun x =>
    if (List.range (x.2.2 + 1 - x.2.1)).any (fun i => s.rawBit (x.1 * 32 + x.2.1 + i) && s.rawBit ((x.1 + 4) * 32 + x.2.1 + i))
    then some (vecBlock x) else none
  ((List.range 15).map fun b => if hot.contains b then 2 ^ b else 0).sum

/-- The word at a BAR0 offset as a read returns it: stored fields, or the value as it stands for those computed at the read. -/
def readWord (s : State) (a : Nat) : Nat :=
  match a with
  | 0x10 => s.isum
  | 0x40010 => unsigned 32 s.residNow
  | 0x50028 => sat32 (tdivI (s.kappaAt s.now) 16)
  | 0x60020 => let c := s.poolCounts; c.1 * 65536 + c.2.1
  | 0x90024 => s.get Reg.TWIN_RANK.EPOCH * 65536 + s.ownRank
  | 0x9005C => s.twinRun.get Reg.TWIN_MIRSETS.COUNT
  | 0x90028 => let m := s.twinMir; m.1 * 65536 + m.2
  | 0xB0018 => s.opSec
  | _ => s.wordAt a

end State

/-- Data words of the mailboxes (R7, R463). -/
def mailboxData (a : Nat) : Bool :=
  [0x20048, 0x30088, 0x50048, 0x800A8, 0x80178, 0xB0048, 0xC0038].any (fun b => b ≤ a && a < b + 16) || a = 0xE0020

/-- Offset of a register within its block, lane space or port space (R463). -/
def spaceOffset (a : Nat) : Nat :=
  if 0x10000 ≤ a ∧ a < 0x20000 then (a - 0x10000) % 0x400
  else if 0x70000 ≤ a ∧ a < 0x80000 then (a - 0x70000) % 0x4000
  else a % 0x10000

/-- Addresses of the registers at offsets 0x000 to 0x3FF of every block, lane space and port space. -/
def snapAddrs : List Nat :=
  (Reg.table.flatMap fun f => (List.range f.n1).flatMap fun i => (List.range f.n2).map fun j => f.addr + i * f.s1 + j * f.s2).filter
    (fun a => spaceOffset a < 0x400) |>.dedup

/-- The word that a snapshot copies: mailbox data as 0, FWD_POOLB and FWD_POOLC of the capture instant (R243, R463). -/
def State.snapWord (s : State) (a : Nat) : Nat :=
  if mailboxData a then 0
  else if a = 0x60024 then let c := s.poolCounts; c.2.2.1 * 65536 + c.2.2.2.1
  else if a = 0x60028 then s.poolCounts.2.2.2.2
  else s.readWord a

end Sys2Proof.Machine
end

