-- ==== Sys2Proof/Machine/Stack.lean ====
section
/-! DEFINITION. The register side of the host bridge: far-error log (R420), far-bus lock (R422), semaphores (R423), members that join
and leave (R429). Requester codes: 0 host, 1 the master's management core, 2 to 4 those of members 1 to 3 (Table 15.5). -/

namespace Sys2Proof.Machine

namespace State

/-- A far access may reach member `m`: this chip is the master, member windows are open, the member is present (R411). -/
def reachable (s : State) (m : Nat) : Bool := s.stackId = 0 && s.flag Reg.BRDG_CTRL.EN && s.members.contains m

/-! The far-error log (R420, Table 15.5). -/

/-- The entry with failure number `q`. -/
def farEntry (s : State) (q : Nat) : Option Bytes := (s.brdg.log.find? (·.1 = q)).map (·.2.1)

/-- A posted write has failed: an entry, FSEQ, the counter, the interrupt and 0x0C05; an entry overwritten unread sets FOVF. -/
def farError (s : State) (cause src member addr : Nat) (data : Bytes) (arrival : Nat) : State :=
  let q := if s.get Reg.BRDG_FSEQ.FSEQ = 65535 then 1 else s.get Reg.BRDG_FSEQ.FSEQ + 1
  let e := natBe 2 q ++ natBe 1 cause ++ natBe 1 (16 * src + member) ++ natBe 4 addr ++ (data ++ [0, 0, 0, 0]).take 4 ++ natBe 4 arrival
  let full := 32 ≤ s.brdg.log.length
  let lost := full && (s.brdg.log.take 1).any fun (x : Nat × Bytes × Bool) => !x.2.2
  let gone := full && (s.brdg.log.take 1).any fun (x : Nat × Bytes × Bool) => x.1 = s.get Reg.BRDG_FSEL.FSEQ
  let s : State := { s with brdg.log := s.brdg.log.drop (b2n full) ++ [(q, e, false)] }
  let s := if lost then (s.put Reg.BRDG_STAT.FOVF 1).record 0x0C06 else s
  let s := if gone then s.put Reg.BRDG_FSTAT.VALID 0 else s
  let s := (s.put Reg.BRDG_FSEQ.FSEQ q).bump Reg.BRDG_FERR.COUNT
  (s.raise Reg.BRDG_IRQ.FERR).recordSec 0x0C05 0 (natBe 2 q)

/-- The posted write `w` of this bridge fails. -/
def failWrite (s : State) (cause : Nat) (w : FarOp) : State := s.farError cause w.src w.member w.addr w.data w.arrival

/-- A write of BRDG_FSEL selects an entry: its words, VALID 1; an entry no longer held reads 0 (R7). -/
def selectFar (s : State) (v : Nat) : State :=
  let q := v % 65536
  let e := s.farEntry q
  let b := e.getD []
  let s := s.put Reg.BRDG_FSEL.FSEQ q
  let s : State := { s with brdg.log := s.brdg.log.map fun (x : Nat × Bytes × Bool) => if x.1 = q then (x.1, x.2.1, true) else x }
  let s := (s.put Reg.BRDG_FD0.DATA (fieldAt b 0 4)).put Reg.BRDG_FD1.DATA (fieldAt b 4 4)
  ((s.put Reg.BRDG_FD2.DATA (fieldAt b 8 4)).put Reg.BRDG_FD3.DATA (fieldAt b 12 4)).put Reg.BRDG_FSTAT.VALID 1

/-! The far-bus lock (R422). -/

/-- This chip is locked by the chip `src` (0: the master's bridge), or free again: CMD_STAT.LOCKWAIT. No packet times out because of the
pause (R433). -/
def setLocked (s : State) (on : Bool) (src : Nat := 0) : State :=
  let s := s.putB Reg.CMD_STAT.LOCKWAIT on
  if on then { s with brdg := { s.brdg with locked := true, lockSrc := src, lockAt := some (s.brdg.lockAt.getD s.now) } }
  else
    let d := s.now - s.brdg.lockAt.getD s.now
    let late (c : CmdSlot) : CmdSlot := { c with at_ := c.at_ + d, rto := c.rto.map (· + d) }
    { s with brdg := { s.brdg with locked := false, lockAt := none }, cmd.slots := s.cmd.slots.map fun x => (x.1, late x.2) }

/-- A request for the lock ends without it: STATE FREE, LOCKRES, BRDG_IRQ.LOCK. -/
def refuseLock (s : State) (res : Nat) : State :=
  ((s.put Reg.BRDG_LOCK.STATE 0).put Reg.BRDG_LOCK.LOCKRES res).raise Reg.BRDG_IRQ.LOCK

/-- The lock that chip `t` is held by ends: the master releases it itself, or tells its member `t`. -/
def releaseTarget (s : State) (t : Nat) : State := if t = s.stackId then s.setLocked false else s.stackSend 7 0 t 0 0 0 []

/-- The lock leaves PENDING or HELD with LOCKRES; its target is told, by way of the master, which arbitrates (log entry 26). -/
def endLock (s : State) (res : Nat) : State :=
  let s := if s.stackId = 0 then s.releaseTarget (s.get Reg.BRDG_LOCK.MEMBER)
    else if s.brdg.lockWait then s else s.stackSend 7 0 0 0 0 0 []
  let s := (s.put Reg.BRDG_LOCK.STATE 0).put Reg.BRDG_LOCK.LOCKRES res
  { s with brdg := { s.brdg with lockAt := none, lockWait := false } }.raise Reg.BRDG_IRQ.LOCK

/-- A lock request can start on its way to chip `m`: at the master this chip itself or a present member, from a member's core the link to the
master, which arbitrates (R422, R424, log entry 26). -/
def lockReach (s : State) (m : Nat) : Bool := if s.stackId = 0 then m = 0 || s.reachable m else s.stackUp 0

/-- The lock of a member's core ends at the master: the target is free, and the core is told that its lock has lost its path (MSG 15), or that
its request is refused with LOCKRES `res`. -/
def dropCore (s : State) (res : Option Nat) : State :=
  match s.brdg.coreLock with
  | none => s
  | some (h, t, granted) =>
    let s : State := { s with brdg.coreLock := none }.releaseTarget t
    match res with
    | none => s
    | some r => if granted then s.stackMsg h 15 [1] else s.stackSend 3 2 h 0xFFFF 0 2 [BitVec.ofNat 8 r]

/-- A member's core asks the master for the far-bus lock of chip `t`. There is one lock in the stack (R422); of requests not yet granted the
earlier in the order of R424 wins: the host, then the lower member. -/
def takeCore (s : State) (h t : Nat) : State :=
  let busy := s.get Reg.BRDG_LOCK.STATE ≠ 0 || (match s.brdg.coreLock with | some (k, _, g) => g || k ≤ h | none => false)
  if busy then s.stackSend 3 2 h 0xFFFF 0 2 [1]
  else if t ≠ 0 && !s.members.contains t then s.stackSend 3 2 h 0xFFFF 0 2 [4]
  else
    let s : State := { s.dropCore (some 1) with brdg.coreLock := some (h, t, t = 0) }
    if t = 0 then (s.setLocked true h).stackSend 3 2 h 0xFFFF 0 0 []
    else s.stackSend 6 1 t (0xFFF0 + h) 0 0 [BitVec.ofNat 8 h]

/-- The target of a member core's lock has answered the master. -/
def coreAnswer (s : State) (h : Nat) (ok : Bool) : State :=
  match s.brdg.coreLock with
  | some (k, t, false) =>
    if k ≠ h then s
    else if ok then { s with brdg.coreLock := some (h, t, true) }.stackSend 3 2 h 0xFFFF 0 0 []
    else { s with brdg.coreLock := none }.stackSend 3 2 h 0xFFFF 0 2 []
  | _ => s

/-- Semaphore accesses of this member's core that are under way at the master. -/
def semOpen (s : State) : Nat := (s.brdg.semReads.filter (·.2.2)).length

/-- A write of BRDG_LOCK: GO asks for a lock, or is ignored with WIGN while STATE is not FREE; REL ends it. At the master a request goes before
one of a member's core that is not granted yet, and finds the lock taken by one that is; the master's own core asks again 2 µs later (R424). -/
def writeLock (s : State) (v : Nat) (who : Nat := 0) : State :=
  let st := s.get Reg.BRDG_LOCK.STATE
  let m := v % 4
  if bit v 31 then
    if st ≠ 0 then s.put Reg.BRDG_STAT.WIGN 1
    else
      let s : State := { s.put Reg.BRDG_LOCK.MEMBER m with brdg.retryAt := none }
      if !s.lockReach m then s.refuseLock 4
      else if s.stackId ≠ 0 then
        let s := s.put Reg.BRDG_LOCK.STATE 1
        if 32 ≤ s.semOpen then { s with brdg.lockWait := true } else s.stackSend 6 1 0 0xFFFF 0 0 [BitVec.ofNat 8 m]
      else if s.brdg.coreLock.any (·.2.2) then
        let s := s.refuseLock 1
        if who = 1 then { s with brdg.retryAt := some (s.now + us 2) } else s
      else
        let s := (s.dropCore (some 1)).put Reg.BRDG_LOCK.STATE 1
        if m = 0 then s else s.stackSend 6 1 m 0xFFFF 0 0 []
  else if bit v 30 then
    let s : State := { s with brdg.retryAt := none }
    if st = 0 then s else s.endLock 0
  else if st = 0 then s.put Reg.BRDG_LOCK.MEMBER m
  else s

/-- A pending lock is answered: granted, or refused with LOCKRES `res`. A core that finds it taken asks again 2 µs later (R424). -/
def lockAnswer (s : State) (ok : Bool) (res : Nat := 1) : State :=
  if s.get Reg.BRDG_LOCK.STATE ≠ 1 then s
  else if ok then
    let s : State := { s.put Reg.BRDG_LOCK.STATE 2 with brdg.lockAt := some s.now }
    let s := s.put Reg.BRDG_LOCK.LOCKRES 0
    let s := s.raise Reg.BRDG_IRQ.LOCK
    if s.get Reg.BRDG_LOCK.MEMBER = s.stackId then s.setLocked true s.stackId else s
  else
    let s := s.refuseLock res
    if s.stackId ≠ 0 && res = 1 then { s with brdg.retryAt := some (s.now + us 2) } else s

/-- A core that lost an arbitration asks for its lock again once its 2 µs are over (R424). -/
def lockRetry (s : State) : State :=
  if s.brdg.retryAt.any (· ≤ s.now) && s.get Reg.BRDG_LOCK.STATE = 0 then s.writeLock (2 ^ 31 + s.get Reg.BRDG_LOCK.MEMBER) 1 else s

/-- This member has lost its path to the master, or, `path` false, the path of its lock alone (R422, R429). -/
def pathGone (s : State) (path : Bool) : State :=
  let s := if s.get Reg.BRDG_LOCK.STATE ≠ 0 then s.endLock 3 else s
  if !path then s
  else
    let s := if s.brdg.locked then s.setLocked false else s
    { s with brdg := { s.brdg with semReads := [], lockWait := false, retryAt := none } }

/-- The lock has been held for LOCKTO. -/
def lockTimeout (s : State) : State :=
  match s.brdg.lockAt with
  | none => s
  | some t =>
    if s.get Reg.BRDG_LOCK.STATE ≠ 2 then s
    else (((s.reach (t + s.lockTo)).endLock 2).bump Reg.BRDG_LOCKTO.COUNT).record 0x0C07

/-! Semaphores (R423, R424). -/

/-- Owner code of a requester (Table 15.8). -/
def ownerCode (who : Nat) : Nat := who + 1

/-- A read of semaphore `n`: 0 and taken, or its owner. -/
def semRead (s : State) (n who : Nat) : Nat × State :=
  let o := s.get (Reg.BRDG_SEM.OWNER.ix n)
  if o = 0 then (0, s.put (Reg.BRDG_SEM.OWNER.ix n) (ownerCode who)) else (o, s.bump Reg.BRDG_SEMBUSY.COUNT)

/-- A write to semaphore `n`: 0 by its owner frees it; a write by any other requester is ignored and sets WIGN. -/
def semWrite (s : State) (n v who : Nat) : State :=
  if s.get (Reg.BRDG_SEM.OWNER.ix n) ≠ ownerCode who then s.put Reg.BRDG_STAT.WIGN 1
  else if v % 8 = 0 then s.put (Reg.BRDG_SEM.OWNER.ix n) 0
  else s

/-! Host reads that end without their data (R419, Table 15.4). -/

/-- An error is reported through AER: 1 unsupported request, 2 completer abort, 3 poisoned; its status bit is that of the standard. -/
def aerReport (s : State) (k : Nat) : State :=
  { s.emit (.aer k) with brdg.aer := s.brdg.aer ||| 2 ^ (if k = 1 then 20 else if k = 2 then 15 else 12) }

/-- A UR answer is reported, counted and recorded. -/
def countUr (s : State) : State :=
  let s := (s.aerReport 1).bump Reg.BRDG_UR.COUNT
  (s.raise Reg.BRDG_IRQ.RDERR).recordSec 0x0C03 0

/-- A read refused with UR. -/
def answerUr (s : State) (tag : Nat) : State := (s.emit (.cpl tag 1 false [])).countUr

/-- A CA answer, or one of all ones (ERRMODE), is counted; CA is reported. -/
def countCa (s : State) (c : Fld) : State :=
  let s := if s.flag Reg.BRDG_CTRL.ERRMODE then s else s.aerReport 2
  (s.bump c).raise Reg.BRDG_IRQ.RDERR

/-- A read answered CA, or with all ones (ERRMODE); the same is counted and reported. -/
def answerCa (s : State) (tag len : Nat) (c : Fld) : State :=
  (s.emit (if s.flag Reg.BRDG_CTRL.ERRMODE then .cpl tag 0 false (List.replicate len 0xFF) else .cpl tag 4 false [])).countCa c

/-- CA with its cause: 1 ABSENT, 2 LINK, 3 TIMEOUT. -/
def failRead (s : State) (cause tag len : Nat) : State :=
  (s.answerCa tag len (if cause = 3 then Reg.BRDG_FTO.COUNT else Reg.BRDG_CA.COUNT)).recordSec 0x0C04 0 (natBe 1 cause)

/-! Fences (R421). -/

/-- The oldest fence completes once every write that it waits for is confirmed or logged. -/
def fenceDone (s : State) : State :=
  match s.brdg.fences with
  | [] => s
  | (src, tag, ids) :: r =>
    let b := natBe 4 (s.get Reg.BRDG_FSEQ.FSEQ)
    if s.brdg.writes.any fun (w : FarOp) => ids.contains w.id then s
    else if src = 0 then { s with brdg.fences := r }.emit (.cpl tag 0 false (if s.flag Reg.BRDG_WIN.BO0 then b.reverse else b))
    else { s with brdg.fences := r }.stackSend 3 2 src tag 0 0 b

/-- A read of BRDG_FSEQ, by the host or from the chip `src`, opens a fence behind every posted write not yet accounted for. -/
def openFence (s : State) (tag : Nat) (src : Nat := 0) : State :=
  let ids := s.brdg.writes.map fun (w : FarOp) => w.id
  let s : State := { s with brdg.fences := s.brdg.fences ++ [(src, tag, ids)] }
  if ids.isEmpty && s.brdg.fences.length = 1 then s.fenceDone else s

/-! Members (R429). -/

/-- BRDG_IRQ.STACK where fewer members than EXPECT are present. -/
def checkExpect (s : State) : State :=
  if s.members.length < s.get Reg.BRDG_CFG.EXPECT then s.raise Reg.BRDG_IRQ.STACK else s

/-- A member has been lost: what waits for it ends. -/
def memberLost (s : State) (m : Nat) : State :=
  let s := s.put Reg.BRDG_STACK.PRESENT (s.get Reg.BRDG_STACK.PRESENT &&& (7 - 2 ^ (m - 1)))
  let ws := s.brdg.writes.filter fun (w : FarOp) => w.member = m
  let rs := s.brdg.reads.filter fun (r : FarOp) => r.member = m
  let s : State := { s with brdg := { s.brdg with writes := s.brdg.writes.filter fun (w : FarOp) => w.member ≠ m
                                                  reads := s.brdg.reads.filter fun (r : FarOp) => r.member ≠ m }
                            msix := { s.msix with members := s.msix.members.filter (· ≠ m) } }
  let s := ws.foldl (fun s w => s.failWrite 2 w) s
  let s := rs.foldl (fun s r => s.failRead 2 r.tag r.len) s
  let s := if s.get Reg.BRDG_LOCK.STATE ≠ 0 && s.get Reg.BRDG_LOCK.MEMBER = m then s.endLock 3 else s
  let s := match s.brdg.coreLock with
    | some (h, t, _) => if h = m then s.dropCore none else if t = m then s.dropCore (some 3) else s
    | none => s
  let s : State := { s with brdg := { s.brdg with semWait := s.brdg.semWait.filter (fun x => x.1 ≠ m + 1), fences := s.brdg.fences.filter (·.1 ≠ m) } }
  let s := (List.range 32).foldl (fun s n =>
    if s.get (Reg.BRDG_SEM.OWNER.ix n) = m + 2 then s.put (Reg.BRDG_SEM.OWNER.ix n) 0 else s) s
  let s := (s.cmd.slots.filter fun (x : Nat × CmdSlot) => x.2.member = m).foldl (fun s x => s.complete x.1 12 0 []) s
  if s.stackId = 0 then ((s.record 0x0C11 (natBe 1 m)).raise Reg.BRDG_IRQ.STACK).checkExpect else s

/-- A member has joined. -/
def memberJoined (s : State) (m : Nat) : State :=
  let s := s.put Reg.BRDG_STACK.PRESENT (s.get Reg.BRDG_STACK.PRESENT ||| 2 ^ (m - 1))
  if s.stackId = 0 then (((s.tellRoster [m]).record 0x0C10 (natBe 1 m)).raise Reg.BRDG_IRQ.STACK).checkExpect else s

/-- The members below this chip are those of the mask: joined and lost ones are told apart from those known before. -/
def setBelow (s : State) (mask : Nat) : State :=
  -- a path that fails while an expected member is absent (R429, R475)
  let s := if s.stackId = 0 && s.members.length < s.get Reg.BRDG_CFG.EXPECT && s.members.any (fun m => !bit mask (m - 1)) then
      s.secondFault 0x0C11 0x0C11 else s
  [1, 2, 3].foldl (fun s m =>
    let was := s.members.contains m
    let now := s.stackId < m && bit mask (m - 1)
    if was && !now then s.memberLost m else if now && !was then s.memberJoined m else s) s

/-- A member tells the chip above which members are below it (log entry 26). -/
def reportBelow (s : State) : State :=
  if s.stackId = 0 then s else s.stackMsg (s.stackId - 1) 10 (natBe 1 (s.get Reg.BRDG_STACK.PRESENT))

/-- A failed write is reported to the master: cause, tag, target, requester, address, data; the master logs it (R420, R421). -/
def reportFailed (s : State) (cause : Nat) (w : FarOp) : State :=
  if s.stackId = 0 then s.failWrite cause w
  else s.stackMsg 0 5 (natBe 1 cause ++ natBe 2 w.tag ++ natBe 1 w.member ++ natBe 1 w.src ++ natBe 4 w.addr ++ (w.data ++ [0, 0, 0, 0]).take 4)

/-- What is kept of a WR for the chip `dst`, until it is confirmed or has failed. -/
def writeOf (s : State) (p : Bytes) : FarOp :=
  { id := spTag p, tag := spTag p, src := requester (spSrc p), member := spDst p, addr := 0x800000 + spDst p * 0x200000 + spAddr p,
    len := spLen p, data := (spPay p).take 4, arrival := shortNs s.presented % 2 ^ 32, until_ := s.now + s.fto, win := 0 }

/-- A stack port leaves ACTIVE: every operation in flight across it ends (R429). -/
def portDown (s : State) (port : Nat) : State :=
  if !s.stackUp port then s
  else
    let s := (s.put (if port = 0 then Reg.BRDG_SPUP.STATE else Reg.BRDG_SPDN.STATE) 1).bump Reg.BRDG_STKRETR.COUNT
    let mine (w : FarOp) : Bool := s.stackToward w.member = port
    let late := (s.brdg.waiting.filter fun x => x.1 = port && spKind x.2.2 = 1).map fun x => s.writeOf x.2.2
    let ws := s.brdg.fwd.filter mine ++ late
    let s : State := { s with brdg := { s.brdg with fwd := s.brdg.fwd.filter fun w => !mine w
                                                    waiting := s.brdg.waiting.filter fun x => x.1 ≠ port } }
    let s := ws.foldl (fun s w => s.reportFailed 2 w) s
    let s : State := if port = 1 then { s with brdg.behind := [] } else s
    if port = 1 then ((if s.stackId ≠ 0 && s.brdg.upSince.isSome then s.secondFault 0x0C11 0x0C11 else s).setBelow 0).reportBelow
    else
      let s := s.members.foldl (fun s k => s.stackMsg k 15 [0]) s
      ({ s with brdg.upSince := some s.now } : State).pathGone true

/-- A write of BRDG_STACK: RSTm sends a stack reset to member m (R429); master only. -/
def writeStack (s : State) (v : Nat) : State :=
  if s.stackId ≠ 0 then s
  else [1, 2, 3].foldl (fun s m =>
    if bit v (8 + m) then (s.stackMsg m 7 []).record 0x0C14 (natBe 1 m) else s) s

end State

end Sys2Proof.Machine
end

