-- ==== Sys2Proof/Machine/Dawn.lean ====
section
/-! DEFINITION. The Dusk commit, Twilight and Dawn (R63, R369 to R379, R335). -/

namespace Sys2Proof.Machine

namespace State

/-- Lane `n` goes to SLEEP: its frames end, its transmitter is quiet, its energy detector is armed (R63, Table 13.3). -/
def sleepLane (s : State) (n : Nat) : State :=
  let up := s.laneUp n
  let s := (((s.dropLane n).dropPd n).setLaneSt n .sleep).emit (.quiet n)
  let s := if up then s.raise (Reg.LANE_IRQ.DOWN.at n) else s
  s.onLane n fun l => { l with working := false }

/-- Identity, position and orientation that the always-on domain keeps from Tc (R379). -/
def keepIdentity (s : State) : State :=
  { s with inau.kept := if s.inau.force.isSome then some (s.ownId, s.pos, s.orient) else none }

/-- Consist ports, host port, stack link, engine and everything pending end at Tc (Table 13.3, R374); so does the hold-off of a warm reset, since no reset
may move the node out of the state it enters (R25, R491; log entry 38). -/
def stopForTc (s : State) : State :=
  let s := (((s.cancelSwap 3).endFreeze 3).dueCheckpoint).haltTasks.setEngine 0 0
  let s := (List.range 4).foldl (fun s p => s.linkDown p) s
  -- the stack ports leave ACTIVE: what crosses them ends (R429)
  let s := (s.portDown 0).portDown 1
  let s := if s.get Reg.BRDG_LOCK.STATE = 0 then s else s.endLock 3
  let s : State := { s with hkp := { s.hkp with mids := [] }
                            brdg := { s.brdg with reads := [], writes := [], held := [], fwd := [], fences := [], pre := [], lockAt := none, locked := false
                                                  lockSrc := 0, coreLock := none, retryAt := none, waiting := [], semWait := [], semReads := []
                                                  lockWait := false, behind := [] } }
  let s := (s.put Reg.BRDG_STAT.LINKUP 0).put Reg.HKP_MIDSTAT.PEND 0
  -- the PCIe port is powered down with the host's settings of the function (R410)
  let s : State := { (s.put Reg.BRDG_PCIE.WIDTH 0).put Reg.BRDG_PCIE.SPEED 0 with msix := { inta := s.msix.inta } }
  let s := (s.put Reg.BRDG_SPUP.STATE 0).put Reg.BRDG_SPDN.STATE 0
  -- no reset moves a node out of the state it now enters (R25, R491)
  let s : State := { s with rest := { s.rest with commit := none, consentAt := none, leadAt := none }, pwr.hold := none }
  s.put Reg.REST_STAT.DSTATE 0

/-- The roster that comes into force at the commit of a round with TWKEEP = 1 (R373). -/
def twilightRoster (s : State) (h : Held) : Held :=
  let r := { h.roster with gen := genAfter h.roster.gen, mode := s.rest.twMode }
  { h with roster := r, sum := r.checksum, joining := false, coldStart := false, collided := false, tiChanged := false, leadConf := false, leadNotAdm := false }

/-- The Noon of a round with TWKEEP = 1 at its commit instant (R373). -/
def twilightNoon (s : State) : State :=
  match s.inau.force with
  | some h => s.takeForce (s.twilightRoster h)
  | none => s

/-- The node enters TWILIGHT (R373, R374): lines B sleep, twin operation is off, the Twilight Noon. -/
def enterTwilight (s : State) : State :=
  -- the host port is down already: what the lanes report raises no interrupt on it (R410)
  let s : State := { s with power := .twilight }
  let s := [1, 3].foldl (fun s n => s.sleepLane n) s
  let s := ((s.judgePair 0).judgeJoint 0)
  let s := ((s.judgePair 1).judgeJoint 1)
  let s := ((s.put Reg.TWIN_STAT.TWON 0).put Reg.TWIN_CLAIM.VALUE 0).setTstate 0
  let s : State := { s.put Reg.REST_STAT.PSTATE 1 with power := .twilight, cmd.shut := false }
  { s.twilightNoon.refreshRole.keepIdentity with rest.jointNew := false }

/-- The node goes toward DUSK-SLEEP (Table 13.3): every lane sleeps, the core is off; the recorder writes its staging first. -/
def enterSleep (s : State) (tc : Nat) : State :=
  let s : State := { s with power := .duskSleep }
  let s := (List.range 4).foldl (fun s n => s.sleepLane n) s
  { s with power := .duskSleep, cycRun := false, rest.entering := some (tc + ms 50) }

/-- A wake source waits for the commit that lies ahead; of several the lowest code stays (R376). -/
def holdWake (s : State) (src lane pos : Nat) : State :=
  if s.rest.wakePend.any (·.1 ≤ src) then s else { s with rest.wakePend := some (src, lane, pos) }

/-- The WAKE input is an enabled wake source that is active (Table 13.4). -/
def pinWakes (s : State) : Bool := s.wakeActive && s.flag Reg.REST_WAKE.WPIN

/-- What happens at Tc (Table 13.3, R373). A WAKE input that is active then wakes the node as soon as R371 admits it (R376). -/
def commitNow (s : State) (tc : Nat) : State :=
  let s := s.reach tc
  let toTw := s.rest.tw && !(s.twinOn && s.half = 1) && s.stackId = 0
  let s := (s.record 0x0407 (natBe 1 (if toTw then 1 else 2))).bump Reg.REST_COMMITS.COUNT
  -- a twin Y half has the Noon of R373 too, before it sleeps
  let s := (if s.rest.tw && !toTw then s.twilightNoon else s).keepIdentity.stopForTc
  let s := if toTw then s.enterTwilight else s.enterSleep tc
  if s.pinWakes then s.holdWake 3 0 0 else s

/-- The commit of a Dusk round at Tc, unless a Noon before it has ended the round (R368, R369, R373). -/
def duskCommit (s : State) : State :=
  match s.commitAt with
  | none => s
  | some tc =>
    if s.dState < 3 then s
    else
      let s := if s.cyc = s.get Reg.REST_COMMIT.CCYC then s else s.cycleBoundary
      if s.dState < 3 then s else s.commitNow tc

/-- A checkpoint write of the commit that still waits for the interlock is done before the core goes off (R391, R474), and the retained image is
written (R493). -/
def finishEntry (s : State) : State :=
  (if s.hkp.waiting.contains .ckpt then (s.endAct .ckpt).writeCheckpoint else s).saveRetained

/-- DUSK-SLEEP is entered: the retained image is written, and only the always-on oscillator runs, within ±2 % (R390, R396, R493). -/
def sleepEntry (s : State) : State :=
  match s.rest.entering with
  | none => s
  | some t =>
    let written := s.recd.stage.isEmpty && s.recd.again.isEmpty && s.events.isEmpty && s.recd.job = .idle
    let s := if written then s else (s.reach t).loseStaged
    let s : State := { s.finishEntry with rest.entering := none }
    let v := s.freshFree
    v.2.calibrate ((v.1 % 40001 : Nat) - 20000)

/-! Waking. -/

/-- The node sleeps or is in TWILIGHT: a wake source may wake it (R376). -/
def wakeable (s : State) : Bool := s.power = .twilight || s.power = .duskSleep

/-- A DAWN frame leaves lane `n` right behind the frame in progress and one held by PRE (R60, R377), with MGMT buffers of the pool (R236, R241);
true where it waits, since the lane does not start frames or lacks the credit (R46). -/
def sendDawn (s : State) (f : Bytes) (n : Nat) : Bool × State :=
  let s := s.finishTx n
  let s := if (s.lane n).txHeld.isSome && s.txReady n then (s.resumeTx n).finishTx n else s
  if s.txReady n && (s.lane n).txHeld.isNone && s.creditFor n f.length 0 then
    match s.enterPool { fid := 0, ingress := 11, cls := .mgmt, bytes := f, complete := true } f.length with
    | none => (false, s.refuseBuf .mgmt)
    | some (fid, s) =>
      let d := s.get (Reg.LANE_CREDIT.TXD.at n)
      let s := ((s.emit (.sf n d)).emit (.data n f)).emit (.eg n)
      (false, (s.freeFrame fid).put (Reg.LANE_CREDIT.TXD.at n) ((d + blocksOf f.length) % 256))
  else (true, s)

/-- A DAWN frame goes out of lane `n`: it is up, and its joint is neither isolated (R110, R362) nor the break joint (R227). -/
def dawnLane (s : State) (n : Nat) : Bool := s.laneUp n && !(s.vend (endOf n)).isolated && s.breakEnd ≠ some (endOf n)

/-- DAWN frames with their lanes go out; those that wait are left. -/
def sendDawns (s : State) (l : List (Nat × Bytes)) : List (Nat × Bytes) × State :=
  l.foldl (fun (acc : List (Nat × Bytes) × State) x =>
    if !acc.2.dawnLane x.1 then acc
    else
      let r := acc.2.sendDawn x.2 x.1
      (if r.1 then acc.1 ++ [x] else acc.1, r.2)) ([], s)

/-- Step 1 of R377 from TWILIGHT: DAWN out of both ends on line A. -/
def dawnFrames (s : State) : List (Nat × Bytes) × State :=
  let f := s.inauFrame 0x18 { kind := 5, vpos := s.pos : DuskMsg }.bytes
  s.sendDawns [(0, f), (2, f)]

/-- The record that the recorder is writing is finished before it scans (R399). -/
def finishRec (s : State) : State :=
  (List.range 2048).foldl (fun s _ => if s.recd.job = .idle then s else s.lineWritten true) s

/-- Lanes while WAKE is sent: those of `wake` in SLEEP, sending WAKE; a line-A lane that was ACTIVE in TWILIGHT stays so (R377). -/
def wakeLanes (s : State) (upA wake : List Nat) : State :=
  (List.range 4).foldl (fun s n =>
    if s.stackId ≠ 0 then s.restLane n
    else if upA.contains n then s.setLaneSt n .active
    else if wake.contains n then s.setLaneSt n .sleep
    else s.restLane n) s

/-- No WAKE before Tc + 50 µs of a commit known of (R371). -/
def dawnStart (s : State) : State :=
  let last := s.rest.tcs.foldl max 0
  if last = 0 then s else s.reach (last + us 50)

/-- Step 2 of R377: nWAKEOUT is driven low; a twin half wakes its partner over the twin link (R335). -/
def dawnTwin (s : State) : State :=
  let s := s.emit (.pin "nWAKEOUT" 0)
  if s.flag Reg.TWIN_CFG.TWEN then s.emit .twinWake else s

/-- Step 3 of R377, R379: the core starts up; what R492 keeps is kept, from TWILIGHT the retained area as it stands. -/
def dawnCore (s : State) (tw : Bool) : State :=
  let area := s.img.retained
  let tcs := s.rest.tcs
  let s := (s.calibrate 0)
  let s : State := { { s with recd.session := false }.carry true with power := .active }
  -- from DUSK-SLEEP the core and its regulator start at the default level (Table 18.8)
  let s := if tw then s else s.put Reg.GLB_PACE.ACT Reg.GLB_PACE.ACT.dflt
  let s : State := { s with rest := { s.rest with tcs := tcs, wakeout := some (s.now + ms 10), pattern := some (s.now + us 200) } }
  let s := s.startUp
  if tw then { s with img.retained := area } else s.loadRetained

/-- Dawn is counted and recorded with its source (Table 13.4). -/
def dawnNote (s : State) (src lane pos : Nat) : State :=
  let s := ((s.bump Reg.REST_DAWNS.COUNT).raise Reg.REST_IRQ.DAWN).record 0x0408 (natBe 1 src)
  ((s.put Reg.REST_WAKESRC.SRC src).put Reg.REST_WAKESRC.LANE lane).put Reg.REST_WAKESRC.POS pos

/-- A source wakes the node on its way to DUSK-SLEEP: the record in progress is finished, the retained image written (R396, R493). -/
def cutEntry (s : State) : State :=
  if s.rest.entering.isSome then { s.finishRec.finishEntry with rest.entering := none } else s

/-- The lanes that stay ACTIVE keep the credit of their links, and a DAWN frame that waited for it goes out as it comes (R46, R236, R377). -/
def keepCredit (s old : State) (upA : List Nat) (waits : List (Nat × Bytes)) : State :=
  let s := upA.foldl (fun s n => [Reg.LANE_CREDIT.TXD, Reg.LANE_CREDIT.TXF, Reg.LANE_CREDIT.RXOCC, Reg.LANE_CREDIT.RXA].foldl
    (fun s f => s.put (f.at n) (old.get (f.at n))) s) s
  waits.foldl (fun s x => s.originate x.2 [x.1]) s

/-- Dawn from source `src` of Table 13.4 in the order of R377 (R371, R379); `relay` are DAWN frames relayed that still wait. -/
def dawn (s : State) (src lane pos : Nat) (relay : List (Nat × Bytes) := []) : State :=
  let s := s.dawnStart
  let tw : Bool := s.power = .twilight
  let d := if tw then s.abortSlots.dawnFrames else ([], s)
  let s := d.2
  let upA := if tw then [0, 2].filter s.laneUp else []
  let wake := if s.stackId ≠ 0 then [] else if tw then [1, 3] else List.range 4
  let s := wake.foldl (fun s n => s.emit (.wake n)) s
  let s := (if tw then s.finishRec else s.cutEntry).dawnTwin
  let low := s.pwr.low
  let t := ((s.dawnCore tw).wakeLanes upA wake).keepCredit s upA (relay ++ d.1)
  let t := t.dawnNote src lane pos
  let t : State := { t with rest.dawnAt := some t.now }
  if low then t.startWarm 2 else t

/-- Dawn from a source; energy on a lane is counted and recorded at the lane besides (R63). -/
def dawnFrom (s : State) (src lane pos : Nat) (relay : List (Nat × Bytes) := []) : State :=
  let t := s.dawn src lane pos relay
  if src = 0 then ((t.bump (Reg.LANE_WAKE.COUNT.at lane)).raise (Reg.LANE_IRQ.WAKE.at lane)).record 0x0108 else t

/-- A wake source at a node in TWILIGHT or DUSK-SLEEP (R376). In an open Dusk round a reason that holds now is retracted or held first (R367); while
a commit of this node lies ahead the source waits for it, since the commit is carried out and WAKE is not sent before Tc + 50 µs (R369 to R371; log
entry 24). -/
def wakeUp (s : State) (src lane pos : Nat) (relay : List (Nat × Bytes) := []) : State :=
  let s := s.wakeReason
  if s.power = .twilight && 3 ≤ s.dState then relay.foldl (fun s x => s.originate x.2 [x.1]) (s.holdWake src lane pos)
  else s.dawnFrom src lane pos relay

/-- Dawn at Tc + 50 µs for what waited: a held reason, code 8, or a source with a lower code (R370, R376). -/
def heldDawn (s : State) : State :=
  if !s.wakeable || 3 ≤ s.dState then s
  else match s.rest.wakePend with
    | some (c, l, p) => s.dawnFrom c l p
    | none => if s.flag Reg.REST_STAT.HELD then s.dawn 8 0 0 else s

/-- The WAKE of the wake guard ends, and its lanes train again (R372). -/
def guardEnds (s : State) : State :=
  let t := s.lanes.toList.foldl (fun (a : Option Nat) l => match l.guardEnd with | some t => some (a.elim t (min t)) | none => a) none
  match t with
  | none => s
  | some t => (List.range 4).foldl (fun s n =>
      if (s.lane n).guardEnd.any (· ≤ t) then (s.onLane n fun l => { l with guardEnd := none }).restLane n else s) (s.reach t)

/-- After 200 µs of WAKE every lane is trained again (R377), as is a lane after the WAKE of the wake guard (R372). -/
def patternEnd (s : State) : State :=
  match s.rest.pattern with
  | none => s.guardEnds
  | some t =>
    let s : State := { s.reach t with rest.pattern := none }
    (List.range 4).foldl (fun s n =>
      if s.laneUp n then s.leaveActive n else if s.laneSt n = .sleep then s.restLane n else s) s

/-- A wake source that coincides with the Dawn of another: REST_WAKESRC.SRC holds the lowest code (R376). -/
def alsoWoke (s : State) (src : Nat) : State :=
  if s.rest.dawnAt = some s.now && src < s.get Reg.REST_WAKESRC.SRC then s.put Reg.REST_WAKESRC.SRC src else s

/-- An enabled wake source `src`: Dawn from TWILIGHT or DUSK-SLEEP; once awake it may coincide with the source that woke the node. -/
def wakeBy (s : State) (src : Nat) : State := if s.wakeable then s.wakeUp src 0 0 else s.alsoWoke src

/-- Energy of `mv` mVppd for `d` ns on a lane in SLEEP (R63): between the limits the outcome is free. Qualified energy that coincides with the
Dawn of another source has the lowest code (R376). -/
def laneEnergy (s : State) (n mv d : Nat) : State :=
  if s.active && s.flag (Reg.LANE_CTRL.WAKEEN.at n) && s.laneSt n = .sleep && 100 ≤ mv && 16000 ≤ d then s.alsoWoke 0
  else if !((s.power = .twilight || s.power = .duskSleep) && s.flag (Reg.LANE_CTRL.WAKEEN.at n) && s.laneSt n = .sleep) then s
  else
    if mv ≤ 40 || d < 12000 then s
    else if 100 ≤ mv && 16000 ≤ d then s.wakeUp 0 n 0
    else
      let v := s.freshFree
      if v.1 % 2 = 1 then v.2.wakeUp 0 n 0 else v.2

/-- A DAWN frame: relayed as a frame of this node, then acted on in TWILIGHT (R362, R377). An ACTIVE node relays the first copy for each sending
position, and the frame may coincide with the source that woke it (R362, R376). -/
def takeDawn (s : State) (n : Nat) (f : Bytes) : State :=
  let m := duskMsg (payload f)
  if !(s.laneUp n && headerCheck f = .ok && hCls f = .mgmt && hType f = 0x18 && hLen f = 32 && m.kind = 5) then s
  else if (s.vend (endOf n)).isolated then s.bump Reg.FWD_ISOL.COUNT
  else if s.breakEnd = some (endOf n) then s.bump Reg.FWD_BREAK.COUNT
  else if s.power = .twilight then
    let r := s.sendDawns [(laneAt (oppEnd (endOf n)) 0, s.inauFrame 0x18 (payload f))]
    r.2.wakeUp 1 0 m.vpos r.1
  else if s.rest.seen.contains (duskKey m (hSrc f)) then s.alsoWoke 1
  else (s.sendDusk m [oppEnd (endOf n)]).noteSeen (duskKey m (hSrc f)) |>.alsoWoke 1

/-- The WAKE input, its polarity or its enable has changed: a wake source, and a reason against sleep (R367, R376). -/
def judgePin (s : State) : State :=
  let s := if s.pinWakes then s.wakeBy 3 else s
  if s.awake then s.wakeReason else s

/-- The level of the WAKE input after its debounce (R376); while VIO1 is lost it reads as inactive (R480). -/
def wakeInput (s : State) (level : Bool) : State :=
  { s with rest.wakeIn := if s.pwr.vio1 then none else some level }.judgePin

/-- A write of REST_WAKE: enables and polarity take effect on an input that is active already (R376). -/
def writeRestWake (s : State) (v : Nat) : State := (s.storeWord Reg.REST_WAKE.WPIN.addr v).judgePin

/-- The wake guard (R372): 50 µs after a lane has left ACTIVE within 2 ms after a Tc of which the node knew, WAKE starts on it for 200 µs,
whatever its training has reached. -/
def wakeGuard (s : State) (n : Nat) : State :=
  match (s.lane n).lostAt with
  | none => s
  | some t =>
    if s.active && !s.laneUp n && s.rest.tcs.any (fun tc => tc ≤ t && t ≤ tc + ms 2) then
      let s := ((s.reach (t + us 50)).dropLane n).restLane n
      let s := s.onLane n fun l => { l with lostAt := none, guardEnd := some (s.now + us 200) }
      ((s.emit (.wake n)).bump Reg.REST_GUARD.COUNT).record 0x040B
    else s

/-- What stands against the node's sleep becomes true (R367), or in TWILIGHT a joint changes (R375). -/
def duskWakeReason (s : State) : State :=
  if s.power = .twilight && s.rest.jointNew then s.wakeUp 7 0 0 else s.wakeReason

end State

/-- The meaning of a command to the always-on domain: nothing while the chip is OFF or a power-on reset is asserted; a warm reset leaves the
domain running (R488, R489). -/
def liveAon (s : State) (f : State → Host.Outcome State Fault Refusal) : Host.Outcome State Fault Refusal :=
  if s.power ≠ .off && s.pwr.rst ≠ some 1 then f s else done s

/-- DUSK_COMMIT (R369). -/
def execDuskCommit (s : State) : Host.Outcome State Fault Refusal := live s fun s => done s.duskCommit

/-- DUSK_SLEEP_ENTRY (R369, R396). -/
def execDuskSleepEntry (s : State) : Host.Outcome State Fault Refusal := liveAon s fun s => done s.sleepEntry

/-- HELD_DAWN_START (R370). -/
def execHeldDawnStart (s : State) : Host.Outcome State Fault Refusal :=
  liveAon s fun s => done s.heldDawn

/-- WAKE_GUARD_SEND (R372). -/
def execWakeGuardSend (lane : Lane) (s : State) : Host.Outcome State Fault Refusal := liveActive s fun s => done (s.wakeGuard lane)

/-- DAWN_FRAME_RECEIVED (R377). -/
def execDawnFrameReceived (lane : Lane) (frame : Bytes) (s : State) : Host.Outcome State Fault Refusal :=
  live s fun s => done (s.takeDawn lane frame)

/-- DAWN_WAKE_PATTERN_END (R377). -/
def execDawnWakePatternEnd (s : State) : Host.Outcome State Fault Refusal := live s fun s => done s.patternEnd

/-- WAKE_INPUT_ACTIVE (R376): the input's electrical level after its debounce of 1 ms. -/
def execWakeInputActive (level : Bool) (s : State) : Host.Outcome State Fault Refusal := liveAon s fun s => done (s.wakeInput level)

/-- ALARM_WAKE (R376): operating-time seconds reach REST_ALARM. -/
def execAlarmWake (s : State) : Host.Outcome State Fault Refusal :=
  liveAon s fun s => done (
    let a := s.get Reg.REST_ALARM.ALARM
    if s.flag Reg.REST_WAKE.WALARM && a ≠ 0 then (if s.wakeable then s.reachOp (256 * a) else s).wakeBy 6 else s)

/-- DUSK_WAKE_REASON (R367, R375). -/
def execDuskWakeReason (s : State) : Host.Outcome State Fault Refusal := live s fun s => done s.duskWakeReason

/-- LANE_ENERGY_WAKE (R63): a burst of `mv` mVppd that lasts `ns` nanoseconds. -/
def execLaneEnergyWake (lane : Lane) (mv ns : Nat) (s : State) : Host.Outcome State Fault Refusal :=
  liveAon s fun s => done (s.laneEnergy lane mv ns)

/-- TWIN_WAKE_DETECTED (R335): a burst that changes polarity for `ns` nanoseconds; a WAKE ordered set is four characters of 80 ns. -/
def execTwinWakeDetected (ns : Nat) (s : State) : Host.Outcome State Fault Refusal :=
  liveAon s fun s => done (
    if s.active then (s.bumpBy Reg.TWIN_TLERR.COUNT (ns / 320)).alsoWoke (if s.flag Reg.TWIN_CFG.TWEN && 20000 ≤ ns then 2 else 9)
    else if s.flag Reg.TWIN_CFG.TWEN && 20000 ≤ ns then s.wakeBy 2 else s)

/-- KEY_CODE_DEBOUNCED (R279, R376, R480): a code stable for 20 ms. -/
def execKeyCodeDebounced (keyA keyB : Bool) (s : State) : Host.Outcome State Fault Refusal :=
  liveAon s fun s => done (
    let keyA := keyA && !s.pwr.vio1
    let keyB := keyB && !s.pwr.vio1
    let changed := s.rest.keyA ≠ keyA || s.rest.keyB ≠ keyB
    let s : State := { s with rest := { s.rest with keyA := keyA, keyB := keyB } }
    if !changed then s
    else
      let s := if s.awake then s.takeKey keyA keyB else s
      let s := if s.flag Reg.REST_WAKE.WKEY then s.wakeBy 4 else s
      if s.awake then s.wakeReason else s)

/-- LEAD_INPUT_DEBOUNCED (R73, R376, R480): the level after its debounce of 10 ms. -/
def execLeadInputDebounced (level : Bool) (s : State) : Host.Outcome State Fault Refusal :=
  liveAon s fun s => done (
    let level := level && !s.pwr.vio1
    if s.flag Reg.INAU_STAT.LEADIN = level then s
    else if s.wakeable then
      -- in TWILIGHT the change is a joint change (R73), which DUSK_WAKE_REASON finds where WLEAD does not enable the input (R375)
      let s := if s.power = .twilight then s.takeLead level else s.putB Reg.INAU_STAT.LEADIN level
      if s.flag Reg.REST_WAKE.WLEAD then s.wakeUp 5 0 0 else s.wakeReason
    else if s.active then (if s.flag Reg.REST_WAKE.WLEAD then (s.takeLead level).alsoWoke 5 else s.takeLead level).wakeReason
    else s.putB Reg.INAU_STAT.LEADIN level)

/-- NWAKEOUT_RELEASE (R377): 10 ms after Dawn. -/
def execNwakeoutRelease (s : State) : Host.Outcome State Fault Refusal :=
  liveAon s fun s => done (match s.rest.wakeout with
    | some t => { s.reach t with rest.wakeout := none }.emit (.pin "nWAKEOUT" 1)
    | none => s)

end Sys2Proof.Machine
end

