-- ==== Sys2Proof/Machine/CmdCtl.lean ====
section
/-! DEFINITION. The command interface as its registers drive it (R435, R453, R460): command reset, ring enable, the key arm. -/

namespace Sys2Proof.Machine

namespace State

/-- A command reset (R460): every open packet ABORTED, EN at 0, 0x0D04 with their number; train keys, CMD_AUTH and replay table are kept,
the block's registers are reset as by any block reset (Table 18.7). -/
def commandReset (s : State) : State :=
  let n := s.cmd.slots.length
  let s := s.abortSlots
  let auth := s.glb.auth
  let mine (k : Fetch) : Bool := match k with | .subEntry _ => true | .packet _ _ _ => true | _ => false
  let s : State := { s with host := { s.host with fetches := s.host.fetches.filter fun x => !mine x.kind } }
  let s := s.blockReset 13
  let s : State := { s with glb.auth := auth, cmd := { s.cmd with arm := none, mods := (0, none), shut := false } }
  let s := s.refreshOpen
  (s.put Reg.CMD_CTRL.EN 0).record 0x0D04 (natBe 4 n)

/-- A write of CMD_CTRL: RST is a command reset, after which EN is 0 whatever the word holds there (R460); a change of EN from 0 to 1
starts the rings afresh (R435). -/
def writeCmdCtrl (s : State) (v : Nat) : State :=
  if bit v 1 then s.commandReset
  else
    let t := s.storeWord Reg.CMD_CTRL.EN.addr v
    if !s.flag Reg.CMD_CTRL.EN && t.flag Reg.CMD_CTRL.EN then
      { (t.put Reg.CMD_SQHEAD.HEAD 0).put Reg.CMD_CQTAIL.TAIL 0 with cmd.phase := true }
    else t

/-- CMD_KEYARM reads 0 once its arm is used or has expired. -/
def dropArm (s : State) : State := { (s.put Reg.CMD_KEYARM.CODE 0).put Reg.CMD_KEYARM.SLOT 0 with cmd.arm := none }

/-- A completed CMD_KEYARM pair (R453): code 0xA5 arms the slot. -/
def keyArm (s : State) (v : Nat) : State :=
  let s := (s.put Reg.CMD_KEYARM.CODE (v / 256)).put Reg.CMD_KEYARM.SLOT v
  { s with cmd.arm := if v / 256 % 256 = 0xA5 then some (v % 4, s.opTime) else none }

/-- An arm is 1 s of operating time old (R453). -/
def armExpiry (s : State) : State :=
  match s.cmd.arm with
  | none => s
  | some (_, t) => (s.reachOp ((t + 256) % 2 ^ 40)).dropArm

/-- The slot armed less than 1 s ago. -/
def armed (s : State) : Option Nat :=
  s.cmd.arm.bind fun a => if (s.opTime + 2 ^ 40 - a.2) % 2 ^ 40 < 256 then some a.1 else none

end State

/-- COMMAND_RESET (R460): a write of 1 to CMD_CTRL.RST. -/
def execCommandReset (s : State) : Host.Outcome State Fault Refusal :=
  liveActive s fun s => done (s.writeCmdCtrl 2)

/-- CMD_ENABLE_WRITE (R435). -/
def execCmdEnableWrite (value : Word) (s : State) : Host.Outcome State Fault Refusal :=
  liveActive s fun s => done (s.writeCmdCtrl value.toNat)

/-- KEY_ARM (R453): a completed pair of CMD_KEYARM. -/
def execKeyArm (value : Word) (s : State) : Host.Outcome State Fault Refusal := live s fun s => done (s.keyArm value.toNat)

/-- KEY_ARM_EXPIRY (R453). -/
def execKeyArmExpiry (s : State) : Host.Outcome State Fault Refusal := live s fun s => done s.armExpiry

end Sys2Proof.Machine
end

