-- ==== Sys2Proof/Machine/Housekeeping.lean ====
section
/-! DEFINITION. Snapshots and Midnights, telemetry, scrubber, lane calibration, MRAM patrol, the interlock's starts (R463 to R475). -/

namespace Sys2Proof.Machine

/-- A MIDN payload (Table 17.2). -/
def midnPayload (no uid : Nat) (target : Int) : Bytes :=
  let t := secNs target
  [1, 0] ++ natBe 2 no ++ natBe 8 uid ++ natBe 6 t.1 ++ natBe 4 t.2 ++ List.replicate 10 0

/-- Volts of a PACE level, mV (Table 01.5). -/
def paceMv (l : Nat) : Nat := match l with | 0 => 720 | 1 => 800 | 2 => 880 | _ => 950

namespace State

/-! Snapshots. -/

/-- The header of a snapshot taken now (Table 17.1). -/
def snapHeader (s : State) (src : Nat) (mid : Option Midnight) : Bytes :=
  let t := secNs s.presented
  natBe 4 (s.hkp.snaps + 1) ++ natBe 4 (src + 256 * b2n s.poolSumOk) ++ natBe 4 (if s.cycRun then s.cyc else 0)
    ++ natBe 4 (t.1 / 2 ^ 32) ++ natBe 4 t.1 ++ natBe 4 t.2 ++ natBe 4 (mid.elim 0 Midnight.no) ++ natBe 8 (mid.elim 0 Midnight.uid)

/-- A snapshot bank. -/
def snapBank (s : State) (b : Nat) : Option Snap := if b = 0 then s.hkp.bank0 else s.hkp.bank1
def setBank (s : State) (b : Nat) (x : Snap) : State :=
  if b = 0 then { s with hkp.bank0 := some x } else { s with hkp.bank1 := some x }

/-- The bank of the newest snapshot. -/
def newestBank (s : State) : Nat := s.get Reg.HKP_SSTAT.NEWEST

/-- The host holds a bank (R464). -/
def bankHeld (s : State) (b : Nat) : Bool := s.flag (if b = 0 then Reg.HKP_SSTAT.HOLD0 else Reg.HKP_SSTAT.HOLD1)

/-- The bank that the next snapshot goes into (R464); with none taken yet, bank 0 stands as the one that does not hold the newest. -/
def nextBank (s : State) : Option Nat :=
  let first := if s.hkp.bank0.isNone && s.hkp.bank1.isNone then 0 else 1 - s.newestBank
  if !s.bankHeld first then some first else if !s.bankHeld (1 - first) then some (1 - first) else none

/-- Triggers that fall within one capture make one snapshot (R464): the newest one was taken at this instant. -/
def sameCapture (s : State) : Bool := s.hkp.capAt = some s.now

/-- The capture of a snapshot into the next bank (R463, R464). -/
def capture (s : State) (h : Bytes) : State :=
  match s.nextBank with
  | none => ((s.bump Reg.HKP_SNAPLOST.COUNT).raise Reg.HKP_IRQ.SNAPLOST).record 0x0E02
  | some b =>
    let words := snapAddrs.filterMap fun a => let w := s.snapWord a; if w = 0 then none else some (a, w)
    let s := s.setBank b ⟨h, words⟩
    let s : State := { s with hkp := { s.hkp with snaps := (s.hkp.snaps + 1) % 2 ^ 32, capAt := some s.now } }
    let s := (s.put Reg.HKP_SSTAT.NEWEST b).put (if b = 0 then Reg.HKP_SSTAT.FULL0 else Reg.HKP_SSTAT.FULL1) 1
    let s := if s.get Reg.HKP_SSEL.BANK = b then s.put Reg.HKP_SSTAT.VALID 0 else s
    (s.bump Reg.HKP_SNAPS.COUNT).raise Reg.HKP_IRQ.SNAP

/-- A trigger of a snapshot: SOURCE bit 0 NOW, 1 SNAPIN, 2 Midnight (R463 to R465). -/
def snapshot (s : State) (src : Nat) (mid : Option Midnight) : State :=
  let s := s.poolCheck
  let h := s.snapHeader src mid
  match s.snapBank s.newestBank with
  | some x =>
    if s.sameCapture then
      let m := if fieldAt x.header 24 4 = 0 then h.drop 24 else x.header.drop 24
      let s := if s.get Reg.HKP_SSEL.BANK = s.newestBank then s.put Reg.HKP_SSTAT.VALID 0 else s
      s.setBank s.newestBank { x with header := x.header.take 4 ++ natBe 4 (fieldAt x.header 4 4 ||| fieldAt h 4 4) ++ (x.header.drop 8).take 16 ++ m }
    else s.capture h
  | none => s.capture h

/-- A write of HKP_SSEL (R7): the selected word, VALID where the bank holds a snapshot. -/
def snapSel (s : State) (v : Nat) : State :=
  let s := s.storeWord Reg.HKP_SSEL.BANK.addr v
  let s := s.put Reg.HKP_SSEL.OFFSET (s.get Reg.HKP_SSEL.OFFSET / 4 * 4)
  let o := s.get Reg.HKP_SSEL.OFFSET
  let u := s.get Reg.HKP_SSEL.UNIT
  match s.snapBank (s.get Reg.HKP_SSEL.BANK) with
  | none => (s.put Reg.HKP_SD.DATA 0).put Reg.HKP_SSTAT.VALID 0
  | some x =>
    let w := match s.get Reg.HKP_SSEL.BLOCK with
      | 15 => fieldAt (x.header ++ List.replicate 4 0) o 4
      | 1 => (lookupKey (0x10000 + 0x400 * u + o) x.words).getD 0
      | 7 => (lookupKey (0x70000 + 0x4000 * u + o) x.words).getD 0
      | b => (lookupKey (0x10000 * b + o) x.words).getD 0
    (s.put Reg.HKP_SD.DATA w).put Reg.HKP_SSTAT.VALID 1

/-! Midnight. -/

/-- HKP_MIDSTAT.PEND follows the table. -/
def refreshMids (s : State) : State := s.put Reg.HKP_MIDSTAT.PEND s.hkp.mids.length

/-- A fifth Midnight is refused (R468). -/
def midFull (s : State) : State := ((s.bump Reg.HKP_MIDREF.COUNT).raise Reg.HKP_IRQ.MIDLATE).record 0x0E04

/-- A Midnight is armed, refused for a full table, or missed (R468). -/
def armMidnight (s : State) (m : Midnight) : State :=
  if s.mapAt s.now |>.any (fun t => wrapT (m.target - t) ≤ 0) then
    ((s.bump Reg.HKP_MIDLATE.COUNT).raise Reg.HKP_IRQ.MIDLATE).record 0x0E03 (natBe 2 m.no)
  else if 4 ≤ s.hkp.mids.length then s.midFull
  else { s with hkp.mids := s.hkp.mids ++ [m] }.refreshMids

/-- A MIDN frame leaves by the ends given (R467). -/
def sendMidn (s : State) (m : Midnight) (ends : List Nat) : State :=
  s.originate (s.inauFrame 0x19 (midnPayload m.no m.uid m.target)) (ends.flatMap s.duskLanes) false

/-- A write of HKP_MIDNS: with GO, a request (R466). -/
def writeMidns (s : State) (v : Nat) : State :=
  let s := s.storeWord Reg.HKP_MIDNS.NS.addr v
  if !bit v 31 then s
  else
    let target := ofSecNs (s.get Reg.HKP_MIDSECHI.SECHI * 2 ^ 32 + s.get Reg.HKP_MIDSECLO.SECLO) (s.get Reg.HKP_MIDNS.NS)
    match s.mapAt s.now, s.inau.force.isSome with
    | some t, true =>
      if wrapT (target - t) < 4 * s.tLen then s.put Reg.HKP_MIDSTAT.RES 2
      else if 16 * 2 ^ 39 < wrapT (target - t) then s.put Reg.HKP_MIDSTAT.RES 3
      else if 4 ≤ s.hkp.mids.length then (s.midFull).put Reg.HKP_MIDSTAT.RES 4
      else
        let no := if s.get Reg.HKP_MIDSTAT.MIDNO = 0xFFFF then 1 else s.get Reg.HKP_MIDSTAT.MIDNO + 1
        let m : Midnight := ⟨no, s.uid, target⟩
        let s := (s.put Reg.HKP_MIDSTAT.RES 0).put Reg.HKP_MIDSTAT.MIDNO no
        let s : State := { s with hkp := { s.hkp with mids := s.hkp.mids ++ [m], seen := (m.uid, m.no) :: s.hkp.seen } }
        ((s.refreshMids).sendMidn m [0, 1]).record 0x0E05 (natBe 2 no ++ timeValue target 0 (if s.cycRun then s.cyc else 0))
    | _, _ => s.put Reg.HKP_MIDSTAT.RES 1

/-- The generation of a MIDN frame is in force, or the previous one with its SRC the same node under both rosters (R113). -/
def midnGen (s : State) (f : Bytes) : Bool :=
  (s.rosterOf (hGen f)).isSome && (hGen f = s.gen || s.sameNodes f)

/-- A MIDN frame (R467): relayed once for its REQUID and MIDNO, then armed. -/
def takeMidn (s : State) (n : Nat) (f : Bytes) : State :=
  let p := payload f
  let m : Midnight := ⟨fieldAt p 2 2, fieldAt p 4 8, ofSecNs (fieldAt p 12 6) (fieldAt p 18 4)⟩
  if !(s.laneUp n && headerCheck f = .ok && hCls f = .mgmt && hType f = 0x19 && hLen f = 32 && byteAt p 0 = 1) then s
  else if (s.vend (endOf n)).isolated then s.bump Reg.FWD_ISOL.COUNT
  else if s.breakEnd = some (endOf n) then s.bump Reg.FWD_BREAK.COUNT
  else if !s.midnGen f || s.hkp.seen.contains (m.uid, m.no) then s
  else
    let s : State := { s with hkp.seen := (m.uid, m.no) :: s.hkp.seen }
    (s.sendMidn m [oppEnd (endOf n)]).armMidnight m

/-- The compare unit of the pending Midnight that comes first fires (R468); others at the same capture share its snapshot. -/
def fireMidnight (s : State) : State :=
  match s.mapAt s.now, s.hkp.mids with
  | some t, m :: ms =>
    let first := ms.foldl (fun a x => min a (wrapT (x.target - t))) (wrapT (m.target - t))
    let s := s.reach ((s.now : Int) + first).toNat
    let ahead := max 0 first
    let due := s.hkp.mids.filter fun x => wrapT (x.target - t) ≤ ahead
    let s : State := { s with hkp.mids := s.hkp.mids.filter fun x => ahead < wrapT (x.target - t) }
    (s.snapshot 4 due.head?).refreshMids
  | _, _ => s

/-! Telemetry (R469). -/

/-- Quantities of Table 17.4 from 1: TJ, VIN, VIO1, VIO2, VCORE, s; whether one is outside its limit, and its value as a register holds it. -/
def telOutside (s : State) (t : Telem) : List (Nat × Bool × Nat) :=
  let supply (v : Nat) : Bool := v < 1700 || 3600 < v
  let want := paceMv (s.get Reg.GLB_PACE.ACT)
  [(1, decide (signed 16 (s.get Reg.HKP_TLIM.THI) < t.tj), unsigned 16 t.tj), (2, supply t.vin, t.vin), (3, supply t.vio1, t.vio1),
   (4, supply t.vio2, t.vio2), (5, 100 * t.vcore < 97 * want || 103 * want < 100 * t.vcore, t.vcore),
   (6, decide (s.get Reg.HKP_TLIM.SHI < t.sp), t.sp)]

/-- The interrupt flag of a quantity. -/
def telIrq (q : Nat) : Fld := if q = 1 then Reg.HKP_IRQ.TEMP else if q = 6 then Reg.HKP_IRQ.SPEED else Reg.HKP_IRQ.SUPPLY

/-- A quantity's alarm after a sweep. -/
def judgeAlarm (s : State) (x : Nat × Bool × Nat) : State :=
  let others := s.hkp.alarms.filter fun a => a.1 ≠ x.1
  match s.hkp.alarms.find? fun a => a.1 = x.1, x.2.1 with
  | none, true => ({ s with hkp.alarms := others ++ [(x.1, none)] }.raise (telIrq x.1)).record 0x0E18 (natBe 4 x.1 ++ natBe 2 x.2.2)
  | some _, true => { s with hkp.alarms := others ++ [(x.1, none)] }
  | some (_, none), false => { s with hkp.alarms := others ++ [(x.1, some s.now)] }
  | _, false => s

/-- A telemetry sweep: the registers, the peaks, the alarms. The speed factor never reads below 0.70. -/
def telemetry (s : State) (t : Telem) : State :=
  let t := { t with sp := max 180 t.sp }
  let top := if signed 16 (s.get Reg.HKP_TEMP.TMAX) < t.tj then t.tj else signed 16 (s.get Reg.HKP_TEMP.TMAX)
  let s := (s.put Reg.HKP_TEMP.TJ (unsigned 16 t.tj)).put Reg.HKP_TEMP.TMAX (unsigned 16 top)
  let s := ((s.put Reg.HKP_VIN.VIN t.vin).put Reg.HKP_VIN.VCORE t.vcore)
  let s := (s.put Reg.HKP_VIO.VIO1 t.vio1).put Reg.HKP_VIO.VIO2 t.vio2
  let s := (s.put Reg.HKP_SPEED.S t.sp).put Reg.HKP_SPEED.SMAX (max t.sp (s.get Reg.HKP_SPEED.SMAX))
  (s.telOutside t).foldl judgeAlarm s

/-- A sweep is due: it runs, or waits for a lane calibration (R474). -/
def sweep (s : State) (t : Telem) : State := if s.actTurn (.tel t) then s.telemetry t else s.requestAct (.tel t)

/-- 100 ms inside its limit end a quantity's alarm. -/
def alarmEnd (s : State) (q : Nat) : State :=
  match s.hkp.alarms.find? fun a => a.1 = q with
  | some (_, some t) =>
    let s := s.reach (t + ms 100)
    ({ s with hkp.alarms := s.hkp.alarms.filter fun a => a.1 ≠ q }.raise (telIrq q)).record 0x0E19
  | _ => s

/-! Scrubber (R470). -/

/-- The image of execution bank `b` equals its MRAM bank. -/
def bankSame (s : State) (b : Nat) : Bool := let k := s.bank b; k.valid && k.stored

/-- A scrubber step that found nothing (0), a correctable (1) or an uncorrectable error (2). -/
def scrub (s : State) (region addr err : Nat) : State :=
  if !s.flag Reg.HKP_SCRUB.SEN then s
  else match err with
    | 0 => s
    | 1 => s.bump Reg.HKP_SCRCOR.COUNT
    | _ =>
      if (region = 1 || region = 2) && s.bankSame (region - 1) then s.requestAct (.repair (region - 1) (addr % 0x80000 / 64 * 64))
      else
        let s := (s.put Reg.HKP_SCRADDR.REGION region).put Reg.HKP_SCRADDR.ADDR addr
        ((s.bump Reg.HKP_SCRUNC.COUNT).raise Reg.HKP_IRQ.SCRUNC).record 0x0E10 (natBe 1 region ++ natBe 3 addr)

/-- The repair that runs: the 64-byte line is copied from MRAM. -/
def scrubRepair (s : State) : State :=
  match s.hkp.running.find? fun a => a.kind = 3 with
  | some (.repair b o) =>
    let s := s.onBank b fun k => { k with exec := k.exec.copyRange k.mram o 64 }
    ((s.endAct (.repair b o)).bump Reg.HKP_SCRREP.COUNT).record 0x0E11
  | _ => s

/-! Lane calibration (R471, R472). -/

def onCal (s : State) (n : Nat) (f : CalS → CalS) : State := { s with hkp.cals := s.hkp.cals.setIfInBounds n (f (s.cal n)) }

/-- TJ as last measured, 1/8 °C. -/
def tjNow (s : State) : Int := signed 16 (s.get Reg.HKP_TEMP.TJ)

/-- Calibration of lane `n` is suspended. -/
def calSusp (s : State) (n : Nat) : Bool := bit (s.get Reg.HKP_LCALST.SUSP) n

/-- A calibration is due after a move of 10 °C; the first one of a lane is no activity (R471). -/
def calStart (s : State) (n : Nat) : State :=
  if (s.cal n).result.isSome && !s.calSusp n && 80 ≤ (s.tjNow - (s.cal n).tcal).natAbs then s.requestAct (.lcal n) else s

/-- HKP_CTRL.LCAL: every lane is calibrated, a suspended one again, for which discarded results count anew (R472, R475). -/
def calAll (s : State) : State :=
  let susp := s.calSusp
  let s := (s.put Reg.HKP_LCALST.SUSP 0).putB Reg.HKP_STAT.SUSP (2 ≤ s.prg.storeBad)
  (List.range 4).foldl (fun s n => (if susp n then s.onCal n fun c => { c with bad := 0 } else s).requestAct (.lcal n)) s

/-- A calibration of lane `n` ends with its result, 1/16 ns (R472); its first one lets a lane with signal leave DOWN (R40, R471). -/
def calDone (s : State) (n : Nat) (result : Int) : State :=
  -- the pad delays of the TPO and TCI balls are measured with it: what they are is left open (R471)
  let v := s.freshFree
  let s : State := { v.2 with hkp.pads := some (v.1 % 2 ^ 16, v.1 / 2 ^ 16 % 2 ^ 16) }
  let shown (s : State) : State :=
    ((s.put Reg.HKP_LCALST.TCAL (s.get Reg.HKP_TEMP.TJ)).put Reg.HKP_LCALST.CALD (s.get Reg.HKP_LCALST.CALD ||| 2 ^ n)).bump Reg.HKP_LCALRUN.COUNT
  match (s.cal n).result with
  | none =>
    let s := (s.endAct (.lcal n)).onCal n fun c => { c with result := some result, target := result, tcal := s.tjNow }
    let s := shown (s.onLane n fun l => { l with cal := result })
    if s.laneSt n = .down && s.flag (Reg.LANE_STAT.SIGDET.at n) then s.setLaneSt n .detect else s
  | some r =>
    if !s.hkp.running.contains (.lcal n) then s
    else
      let s := s.endAct (.lcal n)
      if 80 < (result - r).natAbs then
        let again := 0 < (s.cal n).bad
        let s := (s.onCal n fun c => { c with bad := c.bad + 1, tcal := s.tjNow }).bump Reg.HKP_LCALRUN.COUNT
        let s := s.record 0x0E1C (natBe 1 n)
        if again then ((s.put Reg.HKP_LCALST.SUSP (s.get Reg.HKP_LCALST.SUSP ||| 2 ^ n)).secondFault 0x0E1C 0x0E1C).suspendAct else s
      else shown (s.onCal n fun c => { c with result := some result, target := result, tcal := s.tjNow, bad := 0 })

/-! MRAM patrol (R473). -/

/-- 24 h of operating time, 1/256 s. -/
def patrolPeriod : Nat := 24 * 3600 * 256

/-- A multiple of 24 h of operating time is reached: a patrol is due. -/
def patrolDue (s : State) : State :=
  let t := (s.opTime / patrolPeriod + 1) * patrolPeriod
  let s := s.reachOp (t % 2 ^ 40)
  { s with hkp.patrolAt := s.opTime }.requestAct .mpat

/-- An uncorrectable line: what it makes invalid, by region: 0, 1 program banks; 2, 3 configuration copies; 4, 5 checkpoint copies; 6, 7
retained-image copies; 8 to 11 key slots. -/
def mramBad (s : State) (region line : Nat) : State :=
  match region with
  | 0 => s.onBank 0 fun k => { k with bad := k.bad.filter (· ≠ line) ++ [line] }
  | 1 => s.onBank 1 fun k => { k with bad := k.bad.filter (· ≠ line) ++ [line] }
  | 2 => { s with rest.cfgA := none }
  | 3 => { s with rest.cfgB := none }
  | 4 => { s with recd.ckA := none }
  | 5 => { s with recd.ckB := none }
  | 6 => { s with rest.retA := none }
  | 7 => { s with rest.retB := none }
  | r => { (s.put (Reg.CMD_KEYSTAT.SET.ix (r - 8)) 0).put (Reg.CMD_KEYSTAT.KCV.ix (r - 8)) 0 with cmd.keys := s.cmd.keys.filter fun k => k.1 ≠ r - 8 }

/-- A sector of the patrol has been read: corrected lines, an uncorrectable line, the last sector of all. It pauses where an MRAM write
job waits. -/
def patrolSector (s : State) (region line corrected : Nat) (bad last : Bool) : State :=
  if !s.hkp.running.contains .mpat then s
  else
    let s := s.bumpBy Reg.HKP_MPATCOR.COUNT corrected
    let s := if bad then ((((s.mramBad region line).bump Reg.HKP_MPATUNC.COUNT).raise Reg.HKP_IRQ.MPATUNC).record 0x0E12 (natBe 4 region ++ natBe 4 line)) else s
    if last then s.endAct .mpat
    else if s.hkp.waiting.any (·.kind = 5) then
      { s with hkp := { s.hkp with running := dropAct Act.mpat s.hkp.running, waiting := s.hkp.waiting ++ [Act.mpat] } }.refreshAct
    else s

/-! Control. -/

/-- A write of HKP_CTRL: NOW, LCAL, MPAT, EN, SNAPEDGE. -/
def writeHkpCtrl (s : State) (v : Nat) : State :=
  let s := s.storeWord Reg.HKP_CTRL.EN.addr v
  let s := if bit v 1 then s.snapshot 1 none else s
  let s := if bit v 2 then s.calAll else s
  if bit v 3 then s.requestAct .mpat else s

/-- An edge of SNAPIN (R465). -/
def snapEdge (s : State) (rising : Bool) : State :=
  let e := s.get Reg.HKP_CTRL.SNAPEDGE
  if e = 3 || (e = 1 && rising) || (e = 2 && !rising) then s.snapshot 2 none else s

/-- The waiting activity that comes next starts, if the interlock admits one (R474). -/
def startAct (s : State) : State :=
  match s.nextAct with
  | none => s
  | some a =>
    let s : State := { s with hkp.waiting := dropAct a s.hkp.waiting }
    match a with
    | .tel t => s.telemetry t
    | .ckpt => s.writeCheckpoint
    | _ => { s with hkp.running := s.hkp.running ++ [a] }.refreshAct

end State

/-- SNAPSHOT_NOW (R465). -/
def execSnapshotNow (value : Word) (s : State) : Host.Outcome State Fault Refusal := live s fun s => done (s.writeHkpCtrl value.toNat)

/-- SNAPIN_EDGE (R465). -/
def execSnapinEdge (rising : Bool) (s : State) : Host.Outcome State Fault Refusal := live s fun s => done (s.snapEdge rising)

/-- MIDNIGHT_REQUEST (R466): a write of HKP_MIDNS. -/
def execMidnightRequest (value : Word) (s : State) : Host.Outcome State Fault Refusal := live s fun s => done (s.writeMidns value.toNat)

/-- MIDN_FRAME_RECEIVED (R467). -/
def execMidnFrameReceived (lane : Lane) (frame : Bytes) (s : State) : Host.Outcome State Fault Refusal :=
  live s fun s => done (s.takeMidn lane frame)

/-- MIDNIGHT_FIRE (R468). -/
def execMidnightFire (s : State) : Host.Outcome State Fault Refusal := live s fun s => done s.fireMidnight

/-- TELEMETRY_SWEEP (R469): junction temperature in 1/8 °C, VIN, VIO1, VIO2 and VCORE in mV, the speed factor in 1/256. -/
def execTelemetrySweep (tj : Int) (vin vio1 vio2 vcore sp : Nat) (s : State) : Host.Outcome State Fault Refusal :=
  live s fun s => done (s.sweep ⟨tj, vin, vio1, vio2, vcore, sp⟩)

/-- TELEMETRY_ALARM_END (R469): of quantity `quantity` + 1. -/
def execTelemetryAlarmEnd (quantity : Fin 6) (s : State) : Host.Outcome State Fault Refusal :=
  live s fun s => done (s.alarmEnd (quantity + 1))

/-- SCRUB_STEP (R470): what the step found. -/
def execScrubStep (region : Fin 8) (addr : BitVec 23) (err : Fin 3) (s : State) : Host.Outcome State Fault Refusal :=
  live s fun s => done (s.scrub region addr.toNat err)

/-- SCRUB_REPAIR (R470). -/
def execScrubRepair (s : State) : Host.Outcome State Fault Refusal := live s fun s => done s.scrubRepair

/-- LANE_CALIBRATION_START (R471). -/
def execLaneCalibrationStart (lane : Lane) (s : State) : Host.Outcome State Fault Refusal := live s fun s => done (s.calStart lane)

/-- HKP_LCAL_WRITE (R471). -/
def execHkpLcalWrite (value : Word) (s : State) : Host.Outcome State Fault Refusal := live s fun s => done (s.writeHkpCtrl value.toNat)

/-- LANE_CALIBRATION_COMPLETE (R472): the result in 1/16 ns. -/
def execLaneCalibrationComplete (lane : Lane) (result : Int) (s : State) : Host.Outcome State Fault Refusal :=
  live s fun s => done (s.calDone lane result)

/-- MRAM_PATROL_PERIOD (R473). -/
def execMramPatrolPeriod (s : State) : Host.Outcome State Fault Refusal := live s fun s => done s.patrolDue

/-- HKP_MPAT_WRITE (R473). -/
def execHkpMpatWrite (value : Word) (s : State) : Host.Outcome State Fault Refusal := live s fun s => done (s.writeHkpCtrl value.toNat)

/-- MRAM_PATROL_SECTOR (R473). -/
def execMramPatrolSector (region : Fin 12) (line corrected : Nat) (uncorrectable last : Bool) (s : State) : Host.Outcome State Fault Refusal :=
  live s fun s => done (s.patrolSector region line corrected uncorrectable last)

/-- ACTIVITY_START (R474). -/
def execActivityStart (s : State) : Host.Outcome State Fault Refusal := live s fun s => done s.startAct

/-- HKP_SSEL_WRITE (R7). -/
def execHkpSselWrite (value : Word) (s : State) : Host.Outcome State Fault Refusal := live s fun s => done (s.snapSel value.toNat)

end Sys2Proof.Machine
end

