-- ==== Sys2Proof/Machine/Power.lean ====
section
/-! DEFINITION. Supplies, resets, PACE levels (R479 to R493). -/

namespace Sys2Proof.Machine

namespace State

/-- Recorder staging is written to MRAM. -/
def stagingDone (s : State) : Bool := s.recd.stage.isEmpty && s.recd.again.isEmpty && s.events.isEmpty && s.recd.job = .idle

/-- Loss of VIN (R479, R396): the node is OFF; records in staging are lost without a record. -/
def vinLoss (s : State) : State :=
  { s with power := .off
           events := []
           recd := { s.recd with stage := [], again := [], job := .idle, mirStage := 0, lost := none }
           rest := { s.rest with entering := none }
           pwr := { s.pwr with rst := none, hold := none } }

/-- A power-on reset is asserted (R488): the whole chip, the always-on domain included; key, LEAD and WAKE debounce starts again. -/
def powerOn (s : State) : State :=
  let s := s.vinLoss
  let s := { s with recd.session := true, inau.kept := none }.carry false
  let s := (s.put Reg.GLB_RST.KIND 1).put Reg.GLB_RST.WARMCNT 0
  { s with power := .active, pwr := { s.pwr with rst := some 1, therm := false } }

/-- VIOOK follows the banks. -/
def refreshVio (s : State) : State := s.putB Reg.GLB_REG.VIOOK (!s.pwr.vio1 && !s.pwr.vio2)

/-- The outputs of bank 1 at the levels of their registers, once the bank is supplied again (R478). -/
def driveBank1 (s : State) : State :=
  let s := ((s.emit (.pin "INTn" (b2n (!s.pwr.intn)))).emit (.pin "nFAULT" (b2n (!s.flag Reg.GLB_STAT.NFAULT)))).emit (.pin "ROLE" (b2n s.pwr.role))
  let s := s.emit (.pin "nWAKEOUT" (b2n s.rest.wakeout.isNone))
  (List.range 4).foldl (fun s n => s.tpoPin n (s.tpo n).endAt.isSome) s

/-- A VIO bank falls below 1.5 V, its outputs being high-impedance from then on (R478), or has stood above 1.6 V for 10 ms (R480). DESIGN CHOICE:
its outputs are driven again with the latter; between 1.5 V and that instant the spec says nothing of them (log entry 38). -/
def vioBank (s : State) (bank : Nat) (lost : Bool) : State :=
  let s := s.emit (.bankZ bank lost)
  let s : State := if bank = 0 then { s with pwr.vio1 := lost } else { s with pwr.vio2 := lost }
  let s := if bank = 0 && !lost then s.driveBank1 else s
  (s.refreshVio).record (if lost then 0x0010 else 0x0011) (natBe 4 (bank + 1))

/-- A write of GLB_PACE (R482, R483): refused at 0 or 1 while a roster is in force; it waits for an MRAM write job. -/
def writePace (s : State) (v : Nat) : State :=
  let s := (s.readVoted 0x100).storeWord Reg.GLB_PACE.LEVEL.addr v
  let l := v % 4
  if l < 2 && s.inau.force.isSome then (s.put Reg.GLB_PACE.REF 1).record 0x0014
  else
    let s := if s.glb.pace.value % 4 = l then s else s.dirtyCfg
    let s : State := { s with glb.pace := Voted.all l }
    if l = s.get Reg.GLB_PACE.ACT then { s with pwr.paceWait := false }
    else if s.hkp.running.any (·.kind = 5) then { s with pwr.paceWait := true }
    else s.put Reg.GLB_PACE.PBUSY 1

/-- The stack ports held in DISABLED, where what crosses them ends (R429), or let into DOWN (R483). -/
def holdStack (s : State) (held : Bool) : State :=
  let s := if held then (s.portDown 0).portDown 1 else s
  (s.put Reg.BRDG_SPUP.STATE (b2n (!held))).put Reg.BRDG_SPDN.STATE (b2n (!held))

/-- VCORE has reached the level (R482); levels 0 and 1 hold lanes and stack ports in DISABLED (R483). -/
def paceDone (s : State) : State :=
  if !s.flag Reg.GLB_PACE.PBUSY then s
  else
    let s := s.readVoted 0x100
    let old := s.get Reg.GLB_PACE.ACT
    let new := s.glb.pace.value % 4
    let s := (s.put Reg.GLB_PACE.ACT new).put Reg.GLB_PACE.PBUSY 0
    let s := if old = new then s else s.record 0x0013 (natBe 1 old ++ natBe 1 new)
    if new < 2 && 2 ≤ old then
      -- a round that is open forms no roster any more
      (((List.range 4).foldl (fun s n => if s.laneUp n then s.leaveActive n else (s.dropLane n).restLane n) (s.holdStack true)).failRound false)
    else if 2 ≤ new && old < 2 then ((List.range 4).foldl (fun s n => s.restLane n) (s.holdStack false)).judgeStart
    else s

/-- The transmitter of lane `n` stops: the frame in progress and one held by PRE do not go on, and what waits to be inserted falls (R491). -/
def cutLineA (s : State) (n : Nat) : State :=
  let s := s.advance n
  let fids := ((s.lane n).tx.map (·.fid)).toList ++ ((s.lane n).txHeld.map (·.fid)).toList
  (fids.foldl gc (s.onLane n fun l => { l with tx := none, txHeld := none, sets := [] })).emit (.quiet n)

/-- The warm reset that is held off takes effect: staging is written, or 2 ms have passed (R489). -/
def holdoffEnd (s : State) : State :=
  match s.pwr.hold with
  | none => s
  | some (k, t) => (if s.stagingDone then s else s.reach t).warmReset k

/-- A write of GLB_RST (R493). -/
def writeGlbRst (s : State) (v : Nat) : State := if bit v 8 then s.saveRetained else s

end State

/-- VIN_LOSS (R479). -/
def execVinLoss (s : State) : Host.Outcome State Fault Refusal := done s.vinLoss

/-- POWER_ON_RESET (R488). -/
def execPowerOnReset (s : State) : Host.Outcome State Fault Refusal := done s.powerOn

/-- RESET_RELEASE (R484): nRESET is high; the straps, what the flash answers to command 0x5A, and its bytes from offset 0 on (R486). While temperature
holds the reset besides, it goes on (R488, R489). -/
def execResetRelease (stack : Fin 4) (half : Fin 2) (boot : Fin 4) (flash : Flash) (s : State) : Host.Outcome State Fault Refusal :=
  done (match s.pwr.rst with
    | some k =>
      let t : State := { s with pwr.low := false }
      if s.pwr.therm then t else t.releaseReset k stack half boot (State.flashOf flash.sfdp flash.data)
    | none => s)

/-- PIN_RESET (R488, R491): nRESET has been low, or is high again; in TWILIGHT and DUSK-SLEEP it takes effect at Dawn. -/
def execPinReset (low : Bool) (s : State) : Host.Outcome State Fault Refusal :=
  done (
    let t : State := { s with pwr.low := low }
    if low && s.active then t.startWarm 2 else t)

/-- WATCHDOG_RESET (R488). -/
def execWatchdogReset (s : State) : Host.Outcome State Fault Refusal := liveActive s fun s => done (s.startWarm 3)

/-- THERMAL_RESET (R488): temperature holds the reset, also one that it joins (R489). -/
def execThermalReset (s : State) : Host.Outcome State Fault Refusal :=
  liveActive s fun s => done (({ s with pwr.therm := true } : State).startWarm 5)

/-- THERMAL_RESET_RELEASE (R488): TJ has fallen; a reset that nRESET does not hold is released. -/
def execThermalResetRelease (s : State) : Host.Outcome State Fault Refusal :=
  done (
    let t : State := { s with pwr.therm := false }
    match s.pwr.rst with
    | some k =>
      if s.pwr.therm && !s.pwr.low && k ≠ 1 then
        t.releaseReset k (s.get Reg.GLB_STRAP.STACK_ID) (s.get Reg.GLB_STRAP.TWIN_HALF) (s.get Reg.GLB_STRAP.BOOT) s.pwr.flash
      else t
    | none => t)

/-- WARM_RESET_HOLDOFF_END (R489). -/
def execWarmResetHoldoffEnd (s : State) : Host.Outcome State Fault Refusal := live s fun s => done s.holdoffEnd

/-- TWILIGHT_WATCHDOG (R491): the management core alone restarts. -/
def execTwilightWatchdog (s : State) : Host.Outcome State Fault Refusal :=
  live s fun s => done (if s.power = .twilight then s.record 0x0020 else s)

/-- TWILIGHT_THERMAL_HOLD (R491): TJ in 1/8 °C. -/
def execTwilightThermalHold (tj : Int) (s : State) : Host.Outcome State Fault Refusal :=
  live s fun s => done (
    if s.power = .twilight && !s.pwr.hot then
      { (s.cutLineA 0).cutLineA 2 with pwr.hot := true }.record 0x0002 (natBe 2 (unsigned 16 tj))
    else s)

/-- TWILIGHT_THERMAL_HOLD_END (R491). -/
def execTwilightThermalHoldEnd (s : State) : Host.Outcome State Fault Refusal :=
  live s fun s => done (
    if s.pwr.hot then [0, 2].foldl (fun s n => s.chooseTx n) { s with pwr.hot := false } else s)

/-- VIO_BANK_LOSS (R480). -/
def execVioBankLoss (bank : Fin 2) (s : State) : Host.Outcome State Fault Refusal := liveAon s fun s => done (s.vioBank bank true)

/-- VIO_BANK_RESTORE (R480). -/
def execVioBankRestore (bank : Fin 2) (s : State) : Host.Outcome State Fault Refusal := liveAon s fun s => done (s.vioBank bank false)

/-- REGULATOR_CURRENT_LIMIT (R481). -/
def execRegulatorCurrentLimit (s : State) : Host.Outcome State Fault Refusal :=
  live s fun s => done ((s.put Reg.GLB_REG.ILIM 1).recordSec 0x0012 0)

/-- PACE_LEVEL_WRITE (R482). -/
def execPaceLevelWrite (value : Word) (s : State) : Host.Outcome State Fault Refusal := live s fun s => done (s.writePace value.toNat)

/-- RETAINED_IMAGE_SAVE (R493): a write of GLB_RST. -/
def execRetainedImageSave (value : Word) (s : State) : Host.Outcome State Fault Refusal := live s fun s => done (s.writeGlbRst value.toNat)

end Sys2Proof.Machine
end

