-- ==== Sys2Proof/Machine/TimeIo.lean ====
section
/-! DEFINITION. Time I/O: arming and firing compare units (R208, R210), capture inputs (R211), the time mailbox (Table 07.6, R217). -/

namespace Sys2Proof.Machine

namespace State

/-- A write at +0x00 of unit `n` (R208, R210): writing 1 to ARM takes target, period and width into use. -/
def armTpo (s : State) (n v : Nat) : State :=
  let s := s.storeWord (Reg.TPO_CTRL.ARM.ix n).addr v
  if !bit v 0 then (s.onTpo n fun t => { t with target := none }).tpoPin n (s.tpo n).endAt.isSome
  else
    let per := max 100 (s.get (Reg.TPO_PERIOD.PERIOD.ix n))
    let g := s.get (Reg.TPO_TGTHI.TGTHI.ix n) * 2 ^ 32 + s.get (Reg.TPO_TGTLO.TGTLO.ix n)
    let s := s.onTpo n fun t =>
      { t with target := some g, period := per, width := clampNat 8 (per - 8) (s.get (Reg.TPO_WIDTH.WIDTH.ix n))
               periodic := s.flag (Reg.TPO_CTRL.PER.ix n) }
    let now := shortNs s.presented
    if 0 ≤ sdiff40 now g then s.fireTpo n true now else s.tpoPin n (s.tpo n).endAt.isSome

def tci (s : State) (n : Nat) : TciS := s.time.tci[n]?.getD {}
def onTci (s : State) (n : Nat) (f : TciS → TciS) : State := { s with time.tci := s.time.tci.setIfInBounds n (f (s.tci n)) }

/-- TCI_CTRL.FILL; an empty FIFO begins a new filling (R211). -/
def refreshFill (s : State) (n : Nat) : State :=
  let k := (s.tci n).fifo.length
  let s := s.put (Reg.TCI_CTRL.FILL.ix n) k
  if k = 0 then s.onTci n fun t => { t with ovfRec := false } else s

/-- EDGE of capture input `n` selects the edge (R211). -/
def edgeSelected (s : State) (n : Nat) (rising : Bool) : Bool := bit (s.get (Reg.TCI_CTRL.EDGE.ix n)) (if rising then 0 else 1)

/-- The stamp of an edge on capture input `n` (R211). -/
def stampEdge (s : State) (n : Nat) (rising : Bool) : State :=
  let t := s.tci n
  let close := t.last.any fun x => s.now - x < ns 40
  let s := s.onTci n fun t => { t with last := some s.now }
  if close || 16 ≤ t.fifo.length then
    let s := ((s.put (Reg.TCI_CTRL.OVF.ix n) 1).bump Reg.TIME_CAPOVF.COUNT).raise Reg.TIME_IRQ.CAPOVF
    if t.ovfRec then s else (s.onTci n fun t => { t with ovfRec := true }).record 0x0608
  else
    let c := if s.cycRun then s.cyc else 0
    let s := if t.fifo.isEmpty && s.get Reg.TIME_MBSEL.INDEX = n then s.staleMb 2 else s
    (s.onTci n fun t => { t with fifo := t.fifo ++ [(s.presented, c, rising, s.flag (Reg.TCI_CTRL.OVF.ix n), s.flag Reg.TIME_STAT.CATCHUP)] }).refreshFill n

/-- An edge on capture input `n` (R211). -/
def takeEdge (s : State) (n : Nat) (rising : Bool) : State := if s.edgeSelected n rising then s.stampEdge n rising else s

/-- A rising edge on the input that TIME_REF.PPSIN names (R203, R211): as the PPS source it is stamped whatever EDGE selects (log entry 41). -/
def takePpsEdge (s : State) : State :=
  let n := s.get Reg.TIME_REF.PPSIN
  let s := if s.refSrc = 1 || s.edgeSelected n true then s.stampEdge n true else s
  s.takePps

/-- The 16 bytes that TIME_MBSEL selects (Tables 07.6, 07.7). -/
def timeMail (s : State) : Bytes :=
  let c := if s.cycRun then s.cyc else 0
  let cu := 32 * b2n (s.flag Reg.TIME_STAT.CATCHUP)
  match s.get Reg.TIME_MBSEL.SRC with
  | 0 => timeStamp s.presented cu c
  | 1 => match s.mapAt s.bnd with | some m => timeStamp m cu c | none => List.replicate 16 0
  | 2 => match (s.tci (s.get Reg.TIME_MBSEL.INDEX)).fifo with
    | (t, k, r, o, u) :: _ => timeStamp t (128 + 64 * b2n o + 32 * b2n u + 16 * b2n r) k
    | [] => List.replicate 16 0
  | 3 => timeValue s.time.lastEp cu c
  | 4 => timeValue (s.kappaAt s.now) cu c
  | 5 => timeValue s.time.lastRefused cu c
  | _ => List.replicate 16 0

/-- The mailbox shows what its selector names. -/
def loadTimeMb (s : State) : State :=
  let b := s.timeMail
  let s := (s.put Reg.TIME_MBD0.DATA (fieldAt b 0 4)).put Reg.TIME_MBD1.DATA (fieldAt b 4 4)
  ((s.put Reg.TIME_MBD2.DATA (fieldAt b 8 4)).put Reg.TIME_MBD3.DATA (fieldAt b 12 4)).put Reg.TIME_MBSTAT.VALID 1

/-- A write of TIME_MBSEL (R7). -/
def writeTimeMb (s : State) (v : Nat) : State := (s.storeWord Reg.TIME_MBSEL.SRC.addr v).loadTimeMb

/-- A read of TIME_MBD3: with SRC 0x2 it removes the head of the FIFO and loads the next one (R217). -/
def popCapture (s : State) : State :=
  if s.get Reg.TIME_MBSEL.SRC = 2 && s.flag Reg.TIME_MBSTAT.VALID then
    let n := s.get Reg.TIME_MBSEL.INDEX
    ((s.onTci n fun t => { t with fifo := t.fifo.drop 1 }).refreshFill n).loadTimeMb
  else s

end State

/-- TPO_ARM_WRITE (R208). -/
def execTpoArmWrite (unit : Fin 4) (value : Word) (s : State) : Host.Outcome State Fault Refusal := live s fun s => done (s.armTpo unit value.toNat)

/-- COMPARE_UNIT_FIRE (R208): the armed target is reached. -/
def execCompareUnitFire (unit : Fin 4) (s : State) : Host.Outcome State Fault Refusal :=
  liveActive s fun s =>
  done (match (s.tpo unit).target with
    | none => s
    | some g =>
      let s := s.reachShort g
      s.fireTpo unit false (shortNs s.presented))

/-- TPO_PULSE_END (R210). -/
def execTpoPulseEnd (unit : Fin 4) (s : State) : Host.Outcome State Fault Refusal :=
  liveActive s fun s =>
  done (match (s.tpo unit).endAt with
    | none => s
    | some t => ((s.reachShort t).onTpo unit fun t => { t with endAt := none }).tpoPin unit false)

/-- CAPTURE_EDGE (R211). -/
def execCaptureEdge (input : Fin 4) (rising : Bool) (s : State) : Host.Outcome State Fault Refusal := liveActive s fun s => done (s.takeEdge input rising)

/-- PPS_EDGE (R203, R211). -/
def execPpsEdge (s : State) : Host.Outcome State Fault Refusal := liveActive s fun s => done s.takePpsEdge

/-- TIME_MBSEL_WRITE (R7). -/
def execTimeMbselWrite (value : Word) (s : State) : Host.Outcome State Fault Refusal := live s fun s => done (s.writeTimeMb value.toNat)

/-- CAPTURE_FIFO_POP (R217). -/
def execCaptureFifoPop (s : State) : Host.Outcome State Fault Refusal :=
  live s fun s =>
  done ((s.emit (.rdata Reg.TIME_MBD3.DATA.addr (s.get Reg.TIME_MBD3.DATA))).popCapture)

end Sys2Proof.Machine
end

