-- ==== Sys2Proof/Machine/Access.lean ====
section
/-! DEFINITION. A read or a write of one register word: what each register does (R3 to R7, R217, R455, R458), WP and WCP writes, counter
clears. `who` is the requester: 0 host, 1 master core, 2 to 4 member cores. -/

namespace Sys2Proof.Machine

/-- The address lies in the same block, lane space or port space (R459). -/
def sameSpace (a b : Nat) : Bool :=
  let unit (x : Nat) : Nat := if x / 0x10000 = 1 then x / 0x400 else if x / 0x10000 = 7 then x / 0x4000 else 64 * (x / 0x10000) + 2 ^ 20
  unit a = unit b

/-- The CNTCLR registers. -/
def isCntClr (a : Nat) : Bool :=
  (a / 0x10000 = 1 && (a - 0x10000) % 0x400 = 0x7C && a < 0x11000) || (a / 0x10000 = 7 && (a - 0x70000) % 0x4000 = 0x3FC)
  || [0x2007C, 0x300DC, 0x400FC, 0x501BC, 0x6027C, 0x8013C, 0x9007C, 0xA007C, 0xB00BC, 0xC017C, 0xD00FC, 0xE00FC].contains a

/-- The IRQ registers. -/
def isIrq (a : Nat) : Bool :=
  (a / 0x10000 = 1 && (a - 0x10000) % 0x400 = 0x18 && a < 0x11000) || (a / 0x10000 = 7 && (a - 0x70000) % 0x4000 = 0x30)
  || [0x20, 0x20028, 0x30028, 0x400A0, 0x50030, 0x60030, 0x80088, 0x80168, 0x90030, 0xA0020, 0xB0070, 0xC0048, 0xD0070, 0xE0050].contains a

/-- The IEN registers: each follows its IRQ register. -/
def isIen (a : Nat) : Bool := 4 ≤ a && isIrq (a - 4)

/-- The WP registers and the WCP registers (R3). -/
def isWp (a : Nat) : Bool := [0x30080, 0x800A0, 0x80144, 0x80170, 0xA0010, 0xB002C, 0xB0034, 0xB0040].contains a
def isWcp (a : Nat) : Bool := [0x14, 0xB0008, 0xD0010].contains a

namespace State

/-- The counters in the space of the CNTCLR register at `a` go to 0 at once, with the block's peak fields (R64 and its like). -/
def clearCounters (s : State) (a : Nat) : State :=
  let hit (k : Nat) : Bool := sameSpace (k / 32) a && (fieldsAt (k / 32)).any fun f => f.key = k && f.acc = .cnt
  let s : State := { s with regs := s.regs.filter fun e => !hit e.1 }
  match a with
  | 0x8013C => (List.range 4).foldl (fun s n => s.put (Reg.CYCL_EVAL.MAX.ix n) 0) s
  | 0xB00BC => s.put Reg.RECD_STAGE.PEAK 0
  | 0xE00FC => (s.put Reg.HKP_TEMP.TMAX 0).put Reg.HKP_SPEED.SMAX 0
  | _ => s

/-- GLB_FAULT: ones clear; a bit whose condition persists is set again at once. -/
def writeFault (s : State) (v : Nat) : State :=
  let s := s.storeWord 0x1C v
  let s := if bit v 1 && s.recFailed then s.fault Reg.GLB_FAULT.RECFAIL else s
  let s := if bit v 0 && !s.poolSumOk then s.fault Reg.GLB_FAULT.SUMERR else s
  s.refreshFault

/-- GLB_EMC and CMD_AUTH: three copies of the fields that the register has; a change of GLB_EMC or CMD_AUTH leaves the configuration unsaved. -/
def writeVoted (s : State) (a v : Nat) : State :=
  let w := ((fieldsAt a).map fun f => if f.acc = .rwv then f.of v * 2 ^ f.lo else 0).sum
  let s' := s.setVoted a (Voted.all w)
  if (s.votedAt a).map Voted.value = some w then s' else s'.dirtyCfg

/-- A posted write takes effect: BUSY clears, then the register acts (R4). -/
def wpEffect (s : State) (a v : Nat) : State :=
  let s := s.clearOpt (busyOf a)
  match a with
  | 0x30080 => s.schdSel v
  | 0x800A0 => s.stationSel v
  | 0x80144 => s.prgCmd v
  | 0x80170 => s.frcSel v
  | 0xA0010 => s.put Reg.REST_ALARM.ALARM v
  | 0xB002C => s.hwctl v
  | 0xB0034 => s.classSel v
  | 0xB0040 => (s.put Reg.RECD_RSEL.SEQ v).cursorSelect (s.flag Reg.RECD_RAREA.MORNING) v 0
  | _ => s

/-- The oldest write posted to a block takes effect. -/
def wpNext (s : State) (b : Nat) : State :=
  match s.glb.posted.find? (fun p => p.1 / 0x10000 = b) with
  | none => s
  | some p => { s with glb.posted := s.glb.posted.erase p }.wpEffect p.1 p.2

/-! WCP pairs (R5). -/

/-- The open pair of a block is discarded: CPERR. -/
def dropPair (s : State) (b : Nat) : State :=
  { s with glb.pairs := s.glb.pairs.filter fun (p : Nat × Nat × Nat) => p.1 / 0x10000 ≠ b }.setOpt (cperrOf (b * 0x10000))

/-- The open pair of a block. -/
def pairOf (s : State) (b : Nat) : Option (Nat × Nat × Nat) := s.glb.pairs.find? fun p => p.1 / 0x10000 = b

/-- The first word of a pair. -/
def wcpFirst (s : State) (a v : Nat) : State :=
  let b := a / 0x10000
  let s := if (s.pairOf b).isSome then s.dropPair b else s
  { s with glb.pairs := s.glb.pairs ++ [(a, v, s.now + us 10)] }

/-- A completed GLB_BRST pair is stored (R3) and resets every block whose bit it sets (R460); every open command packet completes with ABORTED
before that (R32, Table 18.7), the command reset's own count being that of the packets it finds (R460). -/
def blockResets (s : State) (v : Nat) : State :=
  let bs := ((List.range 15).drop 1).filter (bit v)
  let s := s.put Reg.GLB_BRST.BLK (Reg.GLB_BRST.BLK.of v)
  let s := if bs.contains 13 then s.commandReset else if bs.isEmpty then s else s.abortSlots
  bs.foldl (fun s b => if b = 13 then s else s.blockReset b) s

/-- A complete pair takes effect. -/
def wcpEffect (s : State) (a v : Nat) : State :=
  match a with
  | 0x14 => s.blockResets v
  | 0xB0008 => s.writeFreeze v
  | 0xD0010 => s.keyArm v
  | _ => s

/-- The second word of a pair, written to A + 0x800. -/
def wcpSecond (s : State) (a v : Nat) : State :=
  let b := a / 0x10000
  match s.pairOf b with
  | none => s.dropPair b
  | some p =>
    if p.1 = a && p.2.1 + v = 0xFFFFFFFF && s.now ≤ p.2.2 then
      { s with glb.pairs := s.glb.pairs.filter fun (x : Nat × Nat × Nat) => x.1 / 0x10000 ≠ b }.wcpEffect a p.2.1
    else s.dropPair b

/-- A pair is incomplete after 10 µs. -/
def wcpTimeout (s : State) (b : Nat) : State :=
  match s.pairOf b with
  | none => s
  | some p => (s.reach p.2.2).dropPair b

/-! One word written. -/

/-- A write to a block before lanes: GLB, INAU, SCHD, SYNC, TIME, FWD. -/
def writeLow (s : State) (a v : Nat) : State :=
  match a with
  | 0x1C => s.writeFault v
  | 0x100 => s.writePace v
  | 0x108 => s.writeVoted a v
  | 0x10C => s.writeGlbRst v
  | 0x20000 => s.writeInauCtrl v
  | 0x20040 => s.writeInauMb v
  | 0x30024 => s.writeModeReq v
  | 0x40000 =>
    let s := s.storeWord a v
    if bit v 2 then s.put Reg.SYNC_WORST.PEAK 0 else s
  | 0x50000 => s.writeTimeCtrl v
  | 0x5000C => { s with time := { s.time with kappa := s.kappaAt s.now, kAt := s.now } }.storeWord a v
  | 0x50010 => (s.storeWord a v).refreshRef
  | 0x50014 =>
    let s := s.storeWord a v
    { s with time.todArmed := some (s.get Reg.TIME_TODHI.TOD * 2 ^ 32 + s.get Reg.TIME_TODLO.TOD) }
  | 0x50040 => s.writeTimeMb v
  | 0x60008 => (s.storeWord a v).refreshFloor
  | 0x6000C => (s.storeWord a v).refreshFloor
  | _ =>
    if 0x30040 ≤ a ∧ a < 0x30060 then s.writeModeDesc ((a - 0x30040) / 4) v
    else if 0x50080 ≤ a ∧ a < 0x50100 ∧ a % 0x20 = 0 then s.armTpo ((a - 0x50080) / 0x20) v
    else s.storeWord a v

/-- A write to a consist port's registers. -/
def writeCons (s : State) (a v : Nat) : State :=
  let p := (a - 0x70000) / 0x4000
  let o := (a - 0x70000) % 0x4000
  if o = 0 then s.writeConsCtrl p v
  else if a = (Reg.CONS_MDIO.GO.at p).addr then s.writeMdio p v
  else if a = (Reg.CONS_PAUSE.TXEN.at p).addr then
    let s := s.storeWord a v
    if s.flag (Reg.CONS_PAUSE.TXEN.at p) then s else s.onPort p fun t => { t with xoffAt := none }
  else if 0x100 ≤ o ∧ o < 0x200 ∧ o % 0x20 = 8 then s.writeRingCfg p false ((o - 0x100) / 0x20) v
  else if 0x200 ≤ o ∧ o < 0x300 ∧ o % 0x20 = 8 then s.writeRingCfg p true ((o - 0x200) / 0x20) v
  else if a = ((Reg.CONS_RXQ_TAIL.TAIL.at p).ix ((o - 0x100) / 0x20)).addr ∧ 0x100 ≤ o ∧ o < 0x200 then
    (s.storeWord a v).rxTaken p ((o - 0x100) / 0x20)
  else if 0x200 ≤ o ∧ o < 0x300 ∧ o % 0x20 = 0x10 then
    -- descriptors that the host adds may complete the frame at the head (R274)
    (s.storeWord a v).onPort p fun t => { t with partTx := t.partTx.filter (· ≠ (o - 0x200) / 0x20) }
  else if 0x400 ≤ o ∧ o < 0x800 ∧ o % 0x10 = 0 then s.takeRule p ((o - 0x400) / 0x10) v
  else s.storeWord a v

/-- A write to a block from CYCL on. -/
def writeHigh (s : State) (a v who : Nat) : State :=
  match a with
  | 0x80000 => s.writeCyclCtrl v
  | 0x90000 => s.writeTwinCtrl v
  | 0xA0000 => s.writeRestCtrl v
  | 0xA000C => s.writeRestWake v
  | 0xC0000 =>
    let s := s.storeWord a v
    if bit v 2 then { s with brdg.pre := [] } else s
  | 0xC0018 => s.writeStack v
  | 0xC0024 => s.writeLock v who
  | 0xC0030 => s.selectFar v
  | 0xD0000 => s.writeCmdCtrl v
  | 0xD000C => s.writeVoted a v
  | 0xE0000 => s.writeHkpCtrl v
  | 0xE0010 => s.writeMidns v
  | 0xE0018 => s.snapSel v
  | _ => if 0xC0080 ≤ a ∧ a < 0xC0100 then s.semWrite ((a - 0xC0080) / 4) v who else s.storeWord a v

/-- A write to the IEN register at `a`: a vector that becomes pending by it signals (R455). -/
def writeIen (s : State) (a v : Nat) : State :=
  let t := s.storeWord a v
  (List.range 56).foldl (fun t v => if !s.vecPending v && t.vecPending v then t.signal v else t) t

/-- A word written to the register at `a`, whatever its access codes; a WP write is posted (R4). -/
def regWrite (s : State) (a v who : Nat) : State :=
  if isWp a then s.post a v
  else if isWcp a then s.wcpFirst a v
  else if isWcp (a - 0x800) then s.wcpSecond (a - 0x800) v
  else if isIrq a then s.clearIrq a v
  else if isCntClr a then (if bit v 0 then s.clearCounters a else s)
  else if isIen a then s.writeIen a v
  else match a / 0x10000 with
    | 1 => if (a - 0x10000) % 0x400 = 0 ∧ a < 0x11000 then s.writeLaneCtrl ((a - 0x10000) / 0x400) v else s.storeWord a v
    | 7 => s.writeCons a v
    | n => if n < 7 then s.writeLow a v else s.writeHigh a v who

/-- A read of the register at `a`: its word, and the state after what the read does (R7, R217, R243, R403, R423, R458). A read of
BRDG_FSEQ by the host is a fence, which the bridge serves. -/
def regRead (s : State) (a who : Nat) : Nat × State :=
  if 0xC0080 ≤ a ∧ a < 0xC0100 ∧ a % 4 = 0 then s.semRead ((a - 0xC0080) / 4) who
  else
    let s := s.readVoted a
    let w := s.readWord a
    match a with
    | 0x60020 =>
      let c := s.poolCounts
      let s := (s.put Reg.FWD_POOLB.HI c.2.2.1).put Reg.FWD_POOLB.LO c.2.2.2.1
      (w, (s.put Reg.FWD_POOLC.HI (c.2.2.2.2 / 65536)).put Reg.FWD_POOLC.LO (c.2.2.2.2 % 65536))
    | 0x50054 => (w, s.popCapture)
    | 0xB0018 => (w, s.put Reg.RECD_OPFRAC.FRAC (s.opTime % 256))
    | 0xB0054 => (w, s.cursorAdvance 0)
    | _ => (w, s)

end State

/-- REGISTER_WRITE (R3, R501): a write of a register that has no row of its own acts as the register's chapter says. -/
def execRegisterWrite (addr value : Word) (s : State) : Host.Outcome State Fault Refusal :=
  live s fun s => done (s.regWrite addr.toNat value.toNat 0)

/-- WP_WRITE_TAKES_EFFECT (R4): the oldest write posted to the block. -/
def execWpWriteTakesEffect (block : Fin 16) (s : State) : Host.Outcome State Fault Refusal := live s fun s => done (s.wpNext block)

/-- WCP_FIRST_WORD (R5): an address that is no WCP register opens no pair. -/
def execWcpFirstWord (addr value : Word) (s : State) : Host.Outcome State Fault Refusal :=
  live s fun s => done (if isWcp addr.toNat then s.wcpFirst addr.toNat value.toNat else s)

/-- WCP_COMPLEMENT_WORD (R5): a write to the complement address A + 0x800 of a WCP register. -/
def execWcpComplementWord (addr value : Word) (s : State) : Host.Outcome State Fault Refusal :=
  live s fun s => done (if isWcp (addr.toNat - 0x800) then s.wcpSecond (addr.toNat - 0x800) value.toNat else s)

/-- WCP_PAIR_TIMEOUT (R5). -/
def execWcpPairTimeout (block : Fin 16) (s : State) : Host.Outcome State Fault Refusal := live s fun s => done (s.wcpTimeout block)

/-- VOTED_REGISTER_READ (R458). -/
def execVotedRegisterRead (addr : Word) (s : State) : Host.Outcome State Fault Refusal :=
  live s fun s => done (
    if (s.votedAt addr.toNat).isNone then s
    else
      let t := s.readVoted addr.toNat
      t.emit (.rdata addr.toNat (t.readWord addr.toNat)))

/-- IRQ_FLAG_CLEAR (R455). -/
def execIrqFlagClear (addr value : Word) (s : State) : Host.Outcome State Fault Refusal :=
  live s fun s => done (if isIrq addr.toNat then s.clearIrq addr.toNat value.toNat else s)

/-- BLOCK_COUNTER_CLEAR (R64 and its like). -/
def execBlockCounterClear (addr value : Word) (s : State) : Host.Outcome State Fault Refusal :=
  live s fun s => done (if isCntClr addr.toNat && bit value.toNat 0 then s.clearCounters addr.toNat else s)

/-- FWD_POOLA_READ (R243). -/
def execFwdPoolaRead (s : State) : Host.Outcome State Fault Refusal :=
  live s fun s => done (
    let r := s.regRead 0x60020 0
    r.2.emit (.rdata 0x60020 r.1))

/-- BLOCK_RESET (R490, R460): a completed pair of GLB_BRST. -/
def execBlockReset (value : Word) (s : State) : Host.Outcome State Fault Refusal := live s fun s => done (s.blockResets value.toNat)

/-- BRDG_FSEL_WRITE (R7). -/
def execBrdgFselWrite (value : Word) (s : State) : Host.Outcome State Fault Refusal := liveActive s fun s => done (s.selectFar value.toNat)

/-- PREFETCH_FLUSH (R416): a write of 1 to BRDG_CTRL.FLUSHPF. -/
def execPrefetchFlush (s : State) : Host.Outcome State Fault Refusal := liveActive s fun s => done { s with brdg.pre := [] }

end Sys2Proof.Machine
end

