-- ==== Sys2Proof/Machine/Windows.lean ====
section
/-! DEFINITION. The windows of BAR0 on this chip (R411, R413): registers, MSI-X table, process image, load window; bytes in fabric order. -/

namespace Sys2Proof.Machine

/-- The window kind of a local offset (Table 15.2): W0 0, W1 1, W2 2; none where it lies in no window. -/
def winKind (a : Nat) : Option Nat :=
  if a < 0xF0000 then some 0
  else if 0x100000 ≤ a ∧ a < 0x140000 then some 1
  else if 0x180000 ≤ a ∧ a < 0x200000 then some 2
  else if 0x200000 ≤ a ∧ a < 0x200400 then some 0
  else if 0x201000 ≤ a ∧ a < 0x201008 then some 0
  else none

/-- End of the window that a local offset lies in. -/
def winEnd (a : Nat) : Nat := if a < 0xF0000 then 0xF0000 else if a < 0x140000 then 0x140000 else if a < 0x200000 then 0x200000 else a + 4

/-- The bytes of a write that its byte enables admit, as offset and byte: `data` in fabric order from a word boundary on, the enables of
its first and last word with bit 0 for the word's first byte. -/
def enabled (data : Bytes) (fbe lbe : Nat) : List (Nat × Byte) :=
  ((List.range data.length).zip data).filter fun x =>
    let w := x.1 / 4
    let last := (data.length - 1) / 4
    if w = 0 then bit fbe (x.1 % 4) else if w = last then bit lbe (x.1 % 4) else true

/-- Runs of bytes that follow each other. -/
def runs : List (Nat × Byte) → List (Nat × Bytes)
  | [] => []
  | (a, b) :: r =>
    match runs r with
    | (a', bs) :: t => if a' = a + 1 then (a, b :: bs) :: t else (a, [b]) :: (a', bs) :: t
    | [] => [(a, [b])]

/-- The four bytes of every word turned round: fabric order to PCIe order under BO = 1, and back (R412). -/
def swapWords : Nat → Bytes → Bytes
  | 0, _ => []
  | n + 1, b => (b.take 4).reverse ++ swapWords n (b.drop 4)

/-- Byte enables under BO = 1. -/
def swapBe (be : Nat) : Nat := bits be 0 0 * 8 + bits be 1 1 * 4 + bits be 2 2 * 2 + bits be 3 3

namespace State

/-! MSI-X (R455). -/

/-- A vector's mask is removed: a pending vector sends its message. -/
def unmask (s : State) (v : Nat) : State :=
  let e := s.msixEntry v
  let s : State := { s with msix.table := s.msix.table.filter (·.1 ≠ v) ++ [(v, (e.1, e.2.1, false))] }
  if !e.2.2 then s
  else
    let s : State := if s.inD3 || s.msix.fmask then s else { s with msix.pba := s.msix.pba.filter (· ≠ v) }
    if s.vecPending v then s.signal v else s

/-- A word of the MSI-X table: message address low and high, data, vector control. -/
def msixWord (s : State) (o : Nat) : Nat :=
  let e := s.msixEntry (o / 16)
  match o % 16 / 4 with
  | 0 => e.1 % 2 ^ 32
  | 1 => e.1 / 2 ^ 32
  | 2 => e.2.1
  | _ => b2n e.2.2
def msixWrite (s : State) (o v : Nat) : State :=
  let n := o / 16
  let e := s.msixEntry n
  let set (x : Nat × Nat × Bool) : State := { s with msix.table := s.msix.table.filter (·.1 ≠ n) ++ [(n, x)] }
  match o % 16 / 4 with
  | 0 => set (e.1 / 2 ^ 32 * 2 ^ 32 + v / 4 * 4, e.2)
  | 1 => set (v * 2 ^ 32 + e.1 % 2 ^ 32, e.2)
  | 2 => set (e.1, v, e.2.2)
  | _ => if bit v 0 then set (e.1, e.2.1, true) else s.unmask n

/-- A word of the pending-bit array. -/
def pbaWord (s : State) (o : Nat) : Nat := ((List.range 32).map fun i => if s.msix.pba.contains (8 * o + i) then 2 ^ i else 0).sum

/-! One word of W0. -/

/-- A word of W0 is read. -/
def w0Read (s : State) (a who : Nat) : Nat × State :=
  if a < 0xF0000 then s.regRead a who
  else if a < 0x200400 then (s.msixWord (a - 0x200000), s)
  else (s.pbaWord (a - 0x201000), s)

/-- A word of W0 is written. -/
def w0Write (s : State) (a v who : Nat) : State :=
  if a < 0xF0000 then s.regWrite a v who
  else if a < 0x200400 then s.msixWrite (a - 0x200000) v
  else s

/-! Bytes of W1 and W2. -/

/-- Process-image bytes as the host reads them, by CYCL_HVIEW (R295). -/
def imageByte (s : State) (o : Nat) : Byte :=
  if o < 0x10000 then (if s.flag Reg.CYCL_HVIEW.INR then s.img.recv else s.img.latched).read o
  else if o < 0x20000 then (if s.flag Reg.CYCL_HVIEW.OUTW then s.img.work else s.img.comm).read (o - 0x10000)
  else if o < 0x30000 then s.img.retained.read (o - 0x20000)
  else s.img.nonret.read (o - 0x30000)

/-- `n` bytes of W1 or W2 from the local offset `a` on; an offset outside the windows reads 0 (R6). The load window shows the inactive
bank (R316). -/
def winBytes (s : State) (a n : Nat) : Bytes :=
  (List.range n).map fun i =>
    match winKind (a + i) with
    | some 1 => s.imageByte (a + i - 0x100000)
    | some 2 => (s.bank s.inaBank).exec.read (a + i - 0x180000)
    | _ => 0

/-- A local access to W1 or W2 of bytes in runs. -/
def winWrite (s : State) (a : Nat) (rs : List (Nat × Bytes)) : State :=
  rs.foldl (fun s r =>
    match winKind (a + r.1) with
    | some 1 => s.imageWrite (a + r.1 - 0x100000) r.2
    | some 2 => s.loadWrite (a + r.1 - 0x180000) r.2
    | _ => s) s

/-- `n` bytes at a local offset, read with what the read does. -/
def localRead (s : State) (a n who : Nat) : Bytes × State :=
  match winKind a with
  | some 0 =>
    let r := s.w0Read (a / 4 * 4) who
    (natBe 4 r.1, r.2)
  | _ => let s := s.progress; (s.winBytes a n, s)

/-- A write at a local offset: data in fabric order, byte enables. -/
def localWrite (s : State) (a : Nat) (data : Bytes) (fbe lbe who : Nat) : State :=
  match winKind a with
  | some 0 => s.w0Write (a / 4 * 4) (beNat (data.take 4)) who
  | _ => s.winWrite a (runs (enabled data fbe lbe))

end State

/-- MSIX_VECTOR_UNMASK (R455). -/
def execMsixVectorUnmask (vec : Fin 64) (s : State) : Host.Outcome State Fault Refusal := liveActive s fun s => done (s.unmask vec)

end Sys2Proof.Machine
end

