-- ==== Sys2Proof/Machine/Commands.lean ====
section
/-! DEFINITION. Command packets: fetching them (R435, R436), what each opcode does (Table 16.6, R438 to R444, R453, R454), timeouts. -/

namespace Sys2Proof.Machine

/-- PHASE-independent count of entries from `a` to `b` in a ring of `size`. -/
def ringGap (size a b : Nat) : Nat := (b + size - a % size) % size

/-- The sender of a packet is another node. -/
def CmdSrc.isRemote : CmdSrc → Bool
  | .remote _ _ => true
  | _ => false

/-- The packet came from this chip's own host rings. -/
def CmdSrc.isHost : CmdSrc → Bool
  | .host _ _ _ => true
  | _ => false

/-- Mailbox selectors that MBRD may name (R442). -/
def mailboxSels : List Nat := [0x20040, 0x30080, 0x50040, 0x800A0, 0x80170, 0xB0040, 0xC0030]

namespace State

/-! Fetching (R435, R436). -/

/-- The gate of R435: a free slot, and a free completion entry for every host packet that is open plus this one. -/
def fetchGate (s : State) : Bool :=
  let size := s.cmdRing
  let host := (s.cmd.slots.filter fun (x : Nat × CmdSlot) => x.2.src.isHost).length + s.cmd.late.length
  let used := ringGap size (s.get Reg.CMD_CQHEAD.HEAD) (s.get Reg.CMD_CQTAIL.TAIL)
  s.flag Reg.CMD_CTRL.EN && !s.cmd.shut && !s.portOff && !s.dimmed && s.cmdFetches = 0 && s.slotsTaken < 64
    && host + 1 + used < size

/-- The next submission entry is read. -/
def submissionFetch (s : State) : State :=
  let size := s.cmdRing
  let head := s.get Reg.CMD_SQHEAD.HEAD % size
  let base := s.get Reg.CMD_SQBASEHI.BASEHI * 2 ^ 32 + s.get Reg.CMD_SQBASELO.BASELO * 64
  if s.fetchGate && head ≠ s.get Reg.CMD_SQTAIL.TAIL % size then s.fetch (.subEntry head) [(base + 16 * head, 16)] else s

/-- CMD_SQHEAD moves past the entry. -/
def advanceSq (s : State) : State := s.put Reg.CMD_SQHEAD.HEAD ((s.get Reg.CMD_SQHEAD.HEAD + 1) % s.cmdRing)

/-- A submission entry has arrived: malformed (FORMAT), or its packet is read. -/
def takeEntry' (s : State) (idx : Nat) (e : Bytes) : State :=
  let addr := leNat (e.take 8)
  let len := leNat ((e.drop 8).take 2)
  if addr % 64 ≠ 0 ∨ len < 8 ∨ 2048 < len then
    let s := s.advanceSq.writeCompletion idx addr 0xFFFF 14 0 0 []
    (s.raise Reg.CMD_IRQ.FORMAT).recordSec 0x0D03 0
  else s.fetch (.packet idx addr len) [(addr, len)]

/-- A command packet has arrived: BADLEN at once, or accepted. -/
def takePacket (s : State) (idx addr len : Nat) (data : Bytes) : State :=
  let p := data.take (8 + pkPlen data)
  let s := s.advanceSq
  if len < 8 + pkPlen p ∨ 1008 < pkPlen p ∨ len < resultMax p then s.writeCompletion idx addr (pkTag p) 3 (pkOp p) 0 []
  else match s.freeSlot with
    | none => s.writeCompletion idx addr (pkTag p) 8 (pkOp p) 0 []
    | some n => ((s.bump Reg.CMD_ACCEPT.COUNT).accept n (.host idx addr len) p).screen n

/-- All data of a read of host memory are there (R266, R270, R435). In a Dusk cycle no packet is accepted: its entry is fetched again (R444). -/
def fetchDone (s : State) (k : Fetch) (data : Bytes) : State :=
  match k with
  | .rxDesc p q i n fid fd ts tci stat => s.rxWrite p q i n fid fd ts tci stat data
  | .txData p h fcs fid => s.queueTx p h fcs fid data
  | .subEntry i => if s.cmd.shut then s else s.takeEntry' i data
  | .packet i a l => if s.cmd.shut then s else s.takePacket i a l data

/-- The open request with this tag. -/
def partIs (tag : Nat) (p : FetchPart) : Bool := p.tag = some tag && p.data.isNone

/-- The data of the request with this tag have arrived; its tag is free for a request that waits. The read they belong to is complete with the last of
its requests. -/
def hostFetched (s : State) (tag : Nat) (data : Bytes) : State :=
  match s.host.fetches.find? fun o => o.parts.any (partIs tag) with
  | none => s
  | some o =>
    let n : FetchOp := { o with parts := o.parts.map fun p => if partIs tag p then { p with data := some data } else p }
    if n.parts.all fun (p : FetchPart) => p.data.isSome then
      ({ s with host.fetches := s.host.fetches.erase o }.issueReads).fetchDone o.kind (n.parts.flatMap fun (p : FetchPart) => p.data.getD [])
    else { s with host.fetches := s.host.fetches.map fun x => if x = o then n else x }.issueReads

/-! Execution (R433, R434, R451). -/

/-- The packet in slot `n` may execute now: it holds the opcode, has not started, nothing older waits to start, no lock is held. One that waits for
a BUSY flag has released the interface and goes on when it is named again, after older ones of its opcode (R433, Table 16.6). -/
def cmdTurn (s : State) (n op : Nat) : Option CmdSlot :=
  if s.brdg.locked then none
  else if (s.slot? n).any (fun c => c.waits) then
    (((s.cmd.slots.filter fun (x : Nat × CmdSlot) => x.2.waits && pkOp x.2.packet = op).head?).filter (·.1 = n)).map (·.2)
  else match (s.cmd.slots.filter fun (x : Nat × CmdSlot) => !x.2.started).head? with
    | none => none
    | some x => if x.1 = n && pkOp x.2.packet = op then some x.2 else none

/-- The packet in slot `n` has started and waits for its event. -/
def startSlot (s : State) (n : Nat) : State := s.onSlot n fun c => { c with started := true, waits := false }

/-- The packet in slot `n` waits for a BUSY flag, and releases the interface (R433). -/
def waitSlot (s : State) (n : Nat) : State := s.onSlot n fun c => { c with started := true, waits := true }

/-- The host packet in slot `n` goes to stack member `m`, whether or not the member windows are open (R411, R434). -/
def passOn (s : State) (n m : Nat) (p : Bytes) : State :=
  if !(s.stackId = 0 && s.members.contains m) then s.complete n 12 0 []
  else
    let q := p.take 6 ++ natBe 1 (byteAt p 6 - m) ++ p.drop 7
    (s.onSlot n fun c => { c with started := true, member := m }).stackMsg m 8 (natBe 1 n ++ q)

/-- A KEYSET or KEYDEL uses up the arm whatever its outcome (R453, R454). -/
def useArm (s : State) (op : Nat) : State := if op = 0x60 || op = 0x61 then s.dropArm else s

/-- What every opcode asks first: MEMBER, the remote group, PLEN, reserved fields of the header. -/
def runCmd (s : State) (slot : Fin 64) (op : Nat) (f : CmdSlot → Bytes → State → State) : State :=
  let n := slot.val
  match s.cmdTurn n op with
  | none => s
  | some c =>
    let p := c.packet
    let remote := c.src.isRemote
    let s := if remote then s.readVoted 0xD000C else s
    let allowed := match opGroup op with | some g => bit s.auth (16 + g) | none => false
    if remote && !allowed then s.complete n 5 0 []
    else if remote && byteAt p 6 ≠ 0 then s.complete n 4 0 []
    else if pkMember p ≠ 0 then s.passOn n (pkMember p) p
    else if !plenOk p then (s.useArm op).complete n 3 0 []
    else if byteAt p 6 ≠ 0 ∨ byteAt p 7 ≠ 0 then (s.useArm op).complete n 4 0 []
    else f c (pkParams p) s

/-- OK, or REFUSED with the block's result code (R438). -/
def finish (s : State) (n code : Nat) (result : Bytes) : State := s.complete n (if code = 0 then 0 else 10) code result

/-- The completion of an immediate opcode in its slot. -/
def bad (s : State) (n : Nat) : State := s.complete n 4 0 []

/-! Registers and mailboxes (R440 to R442). -/

/-- The identity that IDENT reports. -/
def identity (s : State) : Bytes :=
  natBe 8 s.uid ++ natBe 2 s.pos ++ natBe 2 s.gen ++ natBe 8 (s.roster.elim 0 (·.tiUid)) ++ natBe 2 (s.roster.elim 0 (·.tiLin))
  ++ natBe 1 s.stackId ++ natBe 1 (s.get Reg.TWIN_STAT.TSTATE)

/-- A word of W0 or W1. -/
def wordRead (s : State) (a who : Nat) : Bytes × State := s.localRead a 4 who

/-- `n` words from `a` on. -/
def wordsRead (who : Nat) : Nat → Nat → State → Bytes × State
  | 0, _, s => ([], s)
  | n + 1, a, s =>
    let r := s.wordRead a who
    let t := wordsRead who n (a + 4) r.2
    (r.1 ++ t.1, t.2)

/-- The whole range of a REGRD lies in one window W0 or W1. -/
def regRange (a n : Nat) : Bool :=
  a % 4 = 0 && match winKind a with
  | some 2 => false
  | none => false
  | some _ => winKind (a + 4 * n - 4) = winKind a && (a < 0x200000 || a + 4 * n ≤ 0x200400 || 0x201000 ≤ a) && (a + 4 * n ≤ 0x200000 || 0x200000 ≤ a)

/-- REGRD. A read of BRDG_FSEQ waits as a fence does (R421). -/
def doRegrd (n : Nat) (c : CmdSlot) (a : Bytes) (s : State) : State :=
  let addr := fieldAt a 0 4
  let cnt := fieldAt a 4 2
  let fence := addr ≤ 0xC0028 && 0xC0028 < addr + 4 * cnt && !s.brdg.writes.isEmpty
  if cnt = 0 ∨ 64 < cnt ∨ fieldAt a 6 2 ≠ 0 ∨ !regRange addr cnt then s.bad n
  else if fence then s
  else
    let r := wordsRead (if c.src.isRemote then 1 else 0) cnt addr s
    r.2.complete n 0 0 r.1

/-- A word is written so that a WP write has taken effect and a WCP pair is whole (R439, R440). -/
def wholeWrite (s : State) (a v who : Nat) : State :=
  if isWp a then s.wpEffect a v
  else if isWcp a then (s.wcpFirst a v).wcpSecond a (0xFFFFFFFF - v)
  else s.localWrite a (natBe 4 v) 15 15 who

/-- The WIGN flag that a write at `a` can set: of the block, or of CYCL for the process image (R295). -/
def wignAt (a : Nat) : Option Fld := if 0x100000 ≤ a then (if a < 0x140000 then some Reg.CYCL_STAT.WIGN else none) else wignOf a

/-- The write sets the flag. -/
def sets (s : State) (f : Option Fld) (g : State → State) : Bool := match f with | none => false | some x => (g (s.put x 0)).flag x

/-- REGWR (R440): a read and a write with nothing between. -/
def doRegwr (n : Nat) (c : CmdSlot) (a : Bytes) (s : State) : State :=
  let addr := fieldAt a 0 4
  let mask := fieldAt a 4 4
  let val := fieldAt a 8 4
  let remote := c.src.isRemote
  if remote && (addr / 0x10000 = 13 || addr = 0x14 || addr = 0x814) then s.complete n 5 0 []
  else if !regRange addr 1 then s.bad n
  else if s.busyAt addr then s.waitSlot n
  else
    let who := if remote then 1 else 0
    let r := s.wordRead addr who
    let old := beNat r.1
    let new := (old &&& (mask ^^^ 0xFFFFFFFF)) ||| (val &&& mask)
    let go (s : State) : State := s.wholeWrite addr new who
    let code := if r.2.sets (wignAt addr) go then 1 else if r.2.sets (cperrOf addr) go then 2 else 0
    (go r.2).finish n code r.1

/-- One read-out of a mailbox, `ecc` being the error of the recorder line that it shows, if it shows one (R403): the data words if VALID stood at both status reads. -/
def readOut (s : State) (sel v ecc : Nat) : Option Bytes × State :=
  let s := s.wholeWrite sel v 1
  let s := if sel = 0xB0040 && ecc ≠ 0 then s.cursorSelect (s.flag Reg.RECD_RAREA.MORNING) v ecc else s
  let v1 := s.readWord (sel + 4) % 2
  let r := wordsRead 1 4 (sel + 8) s
  let v2 := r.2.readWord (sel + 4) % 2
  (if v1 = 1 ∧ v2 = 1 then some r.1 else none, r.2)

/-- Up to `k` read-outs. -/
def readOuts (sel v ecc : Nat) : Nat → State → Option Bytes × State
  | 0, s => (none, s)
  | k + 1, s =>
    let r := s.readOut sel v ecc
    match r.1 with
    | some b => (some b, r.2)
    | none => readOuts sel v ecc k r.2

/-- MBRD (R442). -/
def doMbrd (n ecc : Nat) (a : Bytes) (s : State) : State :=
  let sel := fieldAt a 0 4
  if !mailboxSels.contains sel then s.bad n
  else if s.busyAt sel then s
  else
    let r := readOuts sel (fieldAt a 4 4) ecc 8 s
    match r.1 with
    | some b => r.2.complete n 0 0 b
    | none => r.2.complete n 11 0 []

/-! Program, forces, recorder. -/

/-- PRGLOAD: a write to the load window (R316). -/
def doPrgload (n : Nat) (a : Bytes) (s : State) : State :=
  let off := fieldAt a 0 4
  let data := a.drop 4
  if s.get Reg.CYCL_STAT.KEY = 1 then s.complete n 6 0 []
  else if 0x80000 < off + data.length then s.bad n
  else
    let go (s : State) : State := s.loadWrite off data
    (go s).finish n (b2n (s.sets (some Reg.CYCL_STAT.WIGN) go)) []

/-- PRGOP: a write of PRG_CMD; the packet waits where the operation goes on. -/
def doPrgop (n : Nat) (a : Bytes) (s : State) : State :=
  let op := byteAt a 0
  let fl := byteAt a 1
  if 15 < op ∨ fl &&& 0x7E ≠ 0 ∨ fieldAt a 2 2 ≠ 0 then s.bad n
  else if s.flag Reg.PRG_STAT.BUSY then s.waitSlot n
  else
    let was := s.get Reg.PRG_STAT.OPRUN
    let s := s.prgCmd (op * 2 ^ 28 + fl / 128 * 256 + fl % 2)
    if s.get Reg.PRG_STAT.OPRUN ≠ 0 && was = 0 then s.startSlot n else s.finish n (s.get Reg.PRG_STAT.RES) []

/-- FORCE: a store through FRC_SEL (Table 11.14). -/
def doForce (n : Nat) (a : Bytes) (s : State) : State :=
  let i := fieldAt a 0 2
  let fl := byteAt a 2
  if 1023 < i ∨ fl &&& 0x7F ≠ 0 ∨ byteAt a 3 ≠ 0 then s.bad n
  else if s.flag Reg.FRC_STAT.BUSY then s
  else
    let s := (s.put Reg.FRC_D0.DATA (fieldAt a 4 4)).put Reg.FRC_D1.DATA (fieldAt a 8 4)
    let s := (s.put Reg.FRC_D2.DATA (fieldAt a 12 4)).put Reg.FRC_D3.DATA (fieldAt a 16 4)
    let s := s.frcSel (fl / 128 * 2 ^ 31 + 2 ^ 30 + i)
    s.finish n (s.get Reg.FRC_STAT.FRES) []

/-- RECWR: a host record (R401). -/
def doRecwr (n : Nat) (a : Bytes) (s : State) : State :=
  if byteAt a 3 ≠ 0 ∨ fieldAt a 6 2 ≠ 0 then s.bad n
  else if s.flag Reg.RECD_STAT.BUSY then s
  else
    let r := s.hostRecord (fieldAt a 0 2) (byteAt a 2) (a.drop 8)
    r.2.finish n r.1 []

/-- Lines through the cursor, until END or GONE; `ecc` are the errors of the lines behind the first. -/
def readLines : Nat → List Nat → State → Bytes × State
  | 0, _, s => ([], s)
  | k + 1, ecc, s =>
    if !s.flag Reg.RECD_RSTAT.VALID then ([], s)
    else
      let b := (wordsRead 1 3 0xB0048 s).1 ++ natBe 4 (s.get Reg.RECD_RD3.DATA)
      let s' := if k = 0 then s else s.cursorAdvance (ecc.head?.getD 0)
      let t := readLines k (ecc.drop 1) s'
      (b ++ t.1, t.2)

/-- RECRD (R403). -/
def doRecrd (n : Nat) (ecc : List Nat) (a : Bytes) (s : State) : State :=
  let lines := fieldAt a 4 2
  let fl := byteAt a 6
  if lines = 0 ∨ 62 < lines ∨ fl &&& 0x7F ≠ 0 ∨ byteAt a 7 ≠ 0 then s.bad n
  else if s.flag Reg.RECD_RSTAT.BUSY then s
  else
    let s := (s.put Reg.RECD_RSEL.SEQ (fieldAt a 0 4)).put Reg.RECD_RAREA.MORNING (fl / 128)
    let r := readLines lines (ecc.drop 1) (s.cursorSelect (bit fl 7) (fieldAt a 0 4) (ecc.head?.getD 0))
    r.2.complete n 0 (r.2.get Reg.RECD_RSTAT.RES) r.1

/-- FREEZE: RECD_FREEZE as a complete pair (R402). -/
def doFreeze (n : Nat) (a : Bytes) (s : State) : State :=
  if fieldAt a 1 3 ≠ 0 then s.bad n
  else if s.flag Reg.RECD_STAT.BUSY then s
  else (s.wholeWrite 0xB0008 (byteAt a 0) 1).complete n 0 0 []

/-! Train operation. -/

/-- DUSKREQ (R363): it waits unless the request is refused. -/
def doDuskreq (n : Nat) (a : Bytes) (s : State) : State :=
  if byteAt a 0 &&& 0xFE ≠ 0 ∨ fieldAt a 1 3 ≠ 0 then s.bad n
  else
    let s := (s.startSlot n).requestDusk (bit (byteAt a 0) 0)
    let r := s.get Reg.REST_STAT.RES
    if 2 ≤ r && r ≤ 6 then s.complete n 10 r [] else s

/-- SAVE (R380). -/
def doSave (n : Nat) (s : State) : State := if s.flag Reg.REST_STAT.BUSY then s.waitSlot n else (s.startSlot n).saveStart

/-- REINAU (R133). -/
def doReinau (n : Nat) (s : State) : State := (s.reinau true).refreshInau.complete n 0 0 []

/-- COMPACT (R119). -/
def doCompact (n : Nat) (s : State) : State :=
  if !s.isLeader then s.complete n 7 0 []
  -- a compaction that a packet still waits for is not overtaken; one whose packet has timed out gives way (log entry 38)
  else if s.inau.compact ≠ 0 && (s.cmd.slots.any fun x => pkOp x.2.packet = 0x43 && x.2.started && x.2.member = 0) then s.complete n 8 0 []
  else (s.startSlot n).startCompact

/-- MODEREQ (R165). -/
def doModereq (n : Nat) (a : Bytes) (s : State) : State :=
  if 7 < byteAt a 0 ∨ fieldAt a 1 3 ≠ 0 then s.bad n else (s.startSlot n).writeModeReq (2 ^ 31 + byteAt a 0)

/-! Train keys (R453, R454). -/

/-- KEYSET and KEYDEL: status from the arm and the key mode. -/
def keyCause (s : State) (slot : Nat) : Nat :=
  if s.armed ≠ some slot then 13 else if s.get Reg.CYCL_STAT.KEY ≠ 2 then 6 else 0

/-- KCV of a key. -/
def kcv (key : Bytes) : Nat := fieldAt (aesEncrypt key (List.replicate 16 0)) 0 3

/-- The key write of the packet in slot `n` is an MRAM write job: it goes on now, or waits for the interlock (R474). KEYSET and KEYDEL are Immediate:
the packet keeps its turn meanwhile, and later packets wait behind it (R433). -/
def keyJob (s : State) (n : Nat) (f : State → State) : State :=
  if s.hkp.running.contains (.key n) then (f s).endAct (.key n)
  else if s.actTurn (.key n) then f s
  else s.requestAct (.key n)

/-- KEYSET. -/
def doKeyset (n : Nat) (a : Bytes) (s : State) : State :=
  s.keyJob n fun s =>
  let k := byteAt a 0
  if 3 < k ∨ fieldAt a 1 3 ≠ 0 then s.dropArm.bad n
  else
    let c := s.keyCause k
    let s := s.dropArm
    if c ≠ 0 then s.complete n c 0 []
    else
      let key := (a.drop 4).take 16
      let v := kcv key
      let s : State := { s with cmd.keys := s.cmd.keys.filter (·.1 ≠ k) ++ [(k, key)] }
      let s := (s.put (Reg.CMD_KEYSTAT.SET.ix k) 1).put (Reg.CMD_KEYSTAT.KCV.ix k) v
      let s := (s.raise Reg.CMD_IRQ.KEY).record 0x0D01 (natBe 1 k ++ natBe 3 v)
      s.complete n 0 0 (0 :: natBe 3 v)

/-- KEYDEL. -/
def doKeydel (n : Nat) (a : Bytes) (s : State) : State :=
  s.keyJob n fun s =>
  let k := byteAt a 0
  if 3 < k ∨ fieldAt a 1 3 ≠ 0 then s.dropArm.bad n
  else
    let c := s.keyCause k
    let s := s.dropArm
    if c ≠ 0 then s.complete n c 0 []
    else
      let s : State := { s with cmd.keys := s.cmd.keys.filter (·.1 ≠ k) }
      let s := (s.put (Reg.CMD_KEYSTAT.SET.ix k) 0).put (Reg.CMD_KEYSTAT.KCV.ix k) 0
      ((s.raise Reg.CMD_IRQ.KEY).record 0x0D02 (natBe 1 k)).complete n 0 0 []

/-- RSEND (R443). -/
def doRsend (n : Nat) (a : Bytes) (s : State) : State :=
  let dst := fieldAt a 0 2
  let p := a.drop 4
  let inner := p.take 6 ++ [0] ++ p.drop 7
  if 1024 < dst ∨ fieldAt a 2 2 ≠ 0 then s.bad n
  else if dst = 0 then (s.sendRemote 0x04 0 false inner).complete n 0 0 []
  else if (s.openRsend dst (pkTag p)).isSome then s.complete n 8 0 []
  else (s.onSlot n fun c => { c with started := true, rto := some (s.now + s.rto) }).sendRemote 0x04 dst true inner

/-! Timeouts. -/

/-- A waiting opcode, or a REGWR that waits for a BUSY flag, whose event has not occurred 10 s after its acceptance (R439). -/
def waitTimeout (s : State) (n : Nat) : State :=
  match s.slot? n with
  | none => s
  | some c => if (c.waits || isWaiting (pkOp c.packet)) && c.member = 0 && c.rto.isNone && !s.brdg.locked then (s.reach (c.at_ + sec 10)).complete n 9 0 [] else s

/-- An RSEND without its CPL (R443). -/
def rsendTimeout (s : State) (n : Nat) : State :=
  match (s.slot? n).bind fun c => c.rto.map fun t => (c, t) with
  | none => s
  | some (c, t) =>
    if s.brdg.locked then s
    else
      let s := ((s.reach t).raise Reg.CMD_IRQ.RTO).recordSec 0x0D11 0 ((pkParams c.packet).take 2)
      s.complete n 9 0 []

end State

/-- A command that names a slot: what the packet in it does when its turn has come. -/
def packetRow (s : State) (slot : Fin 64) (op : Nat) (f : CmdSlot → Bytes → State → State) : Host.Outcome State Fault Refusal :=
  live s fun s => done (s.runCmd slot op f)

/-- CMD_SUBMISSION_FETCH (R435). -/
def execCmdSubmissionFetch (s : State) : Host.Outcome State Fault Refusal := liveActive s fun s => done s.submissionFetch

/-- HOST_FETCH_COMPLETE (R266). -/
def execHostFetchComplete (tag : Nat) (data : Bytes) (s : State) : Host.Outcome State Fault Refusal :=
  liveActive s fun s => done (if s.inD3 then s else s.hostFetched tag data)

/-- NOP (R438). -/
def execNop (slot : Fin 64) (s : State) : Host.Outcome State Fault Refusal := packetRow s slot 0x01 fun _ _ s => s.complete slot 0 0 []

/-- IDENT (R438). -/
def execIdent (slot : Fin 64) (s : State) : Host.Outcome State Fault Refusal :=
  packetRow s slot 0x02 fun _ _ s => s.complete slot 0 0 s.identity

/-- REGRD (R441). -/
def execRegrd (slot : Fin 64) (s : State) : Host.Outcome State Fault Refusal := packetRow s slot 0x10 (State.doRegrd slot)

/-- REGWR (R440). -/
def execRegwr (slot : Fin 64) (s : State) : Host.Outcome State Fault Refusal := packetRow s slot 0x11 (State.doRegwr slot)

/-- MBRD (R442). -/
def execMbrd (slot : LineRead) (s : State) : Host.Outcome State Fault Refusal :=
  packetRow s slot.slot 0x12 fun _ a s => s.doMbrd slot.slot (slot.ecc.head?.getD 0) a

/-- PRGLOAD (R438, R316). -/
def execPrgload (slot : Fin 64) (s : State) : Host.Outcome State Fault Refusal := packetRow s slot 0x20 fun _ a s => s.doPrgload slot a

/-- PRGOP (R438). -/
def execPrgop (slot : Fin 64) (s : State) : Host.Outcome State Fault Refusal := packetRow s slot 0x21 fun _ a s => s.doPrgop slot a

/-- FORCE (R438). -/
def execForce (slot : Fin 64) (s : State) : Host.Outcome State Fault Refusal := packetRow s slot 0x22 fun _ a s => s.doForce slot a

/-- RECWR (R438). -/
def execRecwr (slot : Fin 64) (s : State) : Host.Outcome State Fault Refusal := packetRow s slot 0x30 fun _ a s => s.doRecwr slot a

/-- RECRD (R438). -/
def execRecrd (slot : LineRead) (s : State) : Host.Outcome State Fault Refusal :=
  packetRow s slot.slot 0x31 fun _ a s => s.doRecrd slot.slot (slot.ecc.map (·.val)) a

/-- FREEZE (R438). -/
def execFreeze (slot : Fin 64) (s : State) : Host.Outcome State Fault Refusal := packetRow s slot 0x32 fun _ a s => s.doFreeze slot a

/-- DUSKREQ (R438). -/
def execDuskreq (slot : Fin 64) (s : State) : Host.Outcome State Fault Refusal := packetRow s slot 0x40 fun _ a s => s.doDuskreq slot a

/-- SAVE (R438). -/
def execSave (slot : Fin 64) (s : State) : Host.Outcome State Fault Refusal := packetRow s slot 0x41 fun _ _ s => s.doSave slot

/-- REINAU (R438). -/
def execReinau (slot : Fin 64) (s : State) : Host.Outcome State Fault Refusal := packetRow s slot 0x42 fun _ _ s => s.doReinau slot

/-- COMPACT (R119). -/
def execCompact (slot : Fin 64) (s : State) : Host.Outcome State Fault Refusal := packetRow s slot 0x43 fun _ _ s => s.doCompact slot

/-- MODEREQ (R438). -/
def execModereq (slot : Fin 64) (s : State) : Host.Outcome State Fault Refusal := packetRow s slot 0x44 fun _ a s => s.doModereq slot a

/-- KEYSET (R453). -/
def execKeyset (slot : Fin 64) (s : State) : Host.Outcome State Fault Refusal := packetRow s slot 0x60 fun _ a s => s.doKeyset slot a

/-- KEYDEL (R454). -/
def execKeydel (slot : Fin 64) (s : State) : Host.Outcome State Fault Refusal := packetRow s slot 0x61 fun _ a s => s.doKeydel slot a

/-- RSEND (R443). -/
def execRsend (slot : Fin 64) (s : State) : Host.Outcome State Fault Refusal := packetRow s slot 0x70 fun _ a s => s.doRsend slot a

/-- CMD_WAIT_TIMEOUT (R439). -/
def execCmdWaitTimeout (slot : Fin 64) (s : State) : Host.Outcome State Fault Refusal := live s fun s => done (s.waitTimeout slot)

/-- RSEND_TIMEOUT (R443). -/
def execRsendTimeout (slot : Fin 64) (s : State) : Host.Outcome State Fault Refusal := live s fun s => done (s.rsendTimeout slot)

end Sys2Proof.Machine
end

