-- ==== Sys2Proof/Machine/Bridge.lean ====
section
/-! DEFINITION. Host accesses through the windows (R410 to R421), the PCIe function (R408, R409), packets on the stack link (R427 to
R429). -/

namespace Sys2Proof.Machine

/-- An RD packet for `len` bytes. -/
def rdPacket (dst src tag addr be len : Nat) : Bytes :=
  let h := natBe 1 2 ++ natBe 1 (64 + 16 * dst + 4 * src) ++ natBe 2 tag ++ natBe 4 addr ++ natBe 2 len ++ natBe 1 be ++ [0]
  h ++ fcsBytes h

namespace State

/-! Host reads (R413, R416, R419). -/

/-- BO and PF of a window kind (BRDG_WIN). -/
def winBo (s : State) (k : Nat) : Bool := bit (s.get Reg.BRDG_WIN.BO0 + 2 * s.get Reg.BRDG_WIN.BO1 + 4 * s.get Reg.BRDG_WIN.BO2 + 8 * s.get Reg.BRDG_WIN.BO3) k
def winPf (s : State) (k : Nat) : Bool := if k = 1 then s.flag Reg.BRDG_WIN.PF1 else k = 2 && s.flag Reg.BRDG_WIN.PF2

/-- Fabric bytes in the order of the window's byte lanes, and back (R412). -/
def laned (s : State) (k : Nat) (b : Bytes) : Bytes := if s.winBo k then swapWords (b.length / 4) b else b

/-- The completion of a read whose data are `b` in fabric order; poisoned where they hold an uncorrectable error. -/
def answerData (s : State) (tag k : Nat) (b : Bytes) (ecc : Bool) : State :=
  let s' := s.emit (.cpl tag 0 ecc (s.laned k b))
  if ecc then (((s'.aerReport 3).bump Reg.BRDG_POISON.COUNT).raise Reg.BRDG_IRQ.POISON).recordSec 0x0C08 0 else s'

/-- `n` bytes of W3 from offset `a` on (R414). -/
def poolBytes (s : State) (a n : Nat) : Bytes := (List.range n).map fun i => s.poolByte (a + i)

/-- The read-ahead copy that holds [a, a + n), if one does (R416). -/
def copyOf (s : State) (k a n : Nat) : Option Bytes :=
  (s.brdg.pre.find? fun c => c.win = k && c.addr ≤ a && a + n ≤ c.addr + c.data.length && s.now < c.until_).map
    fun c => (c.data.drop (a - c.addr)).take n

/-- A read of W1 or W2: from a copy, or from the window with a read-ahead behind it. -/
def readAhead (s : State) (k a n : Nat) : Bytes × State :=
  match s.copyOf k a n with
  | some b => (b, s)
  | none =>
    let s := s.progress
    let more := min 256 (winEnd a - (a + n))
    let c : Prefetched := { win := k, addr := a + n, data := s.winBytes (a + n) more, until_ := s.now + us 1 }
    (s.winBytes a n, if s.winPf k && 0 < more then { s with brdg.pre := s.brdg.pre ++ [c] } else s)

/-- A read at a local offset of this chip. -/
def readHere (s : State) (tag a dws fbe : Nat) (ecc : Bool) : State :=
  match winKind a with
  | none => s.emit (.cpl tag 0 false (List.replicate (4 * dws) 0))
  | some 0 =>
    if dws ≠ 1 ∨ fbe ≠ 15 then s.answerUr tag
    else if a = 0xC0028 then s.openFence tag
    else
      let r := s.w0Read a 0
      r.2.answerData tag 0 (natBe 4 r.1) ecc
  | some k =>
    let r := s.readAhead k a (4 * dws)
    r.2.answerData tag k r.1 ecc

/-- Writes of the host in flight on the stack link. A FRAME, MSG or UNLOCK is in flight only while it crosses the link, which the model does at once
(log entry 26). -/
def farPosted (s : State) : Nat := (s.brdg.writes.filter (·.sent)).length

/-- A LOCK of the master is under way to a member. -/
def lockOut (s : State) : Bool :=
  s.get Reg.BRDG_LOCK.STATE = 1 && s.get Reg.BRDG_LOCK.MEMBER ≠ 0
  || (match s.brdg.coreLock with | some (_, t, g) => t ≠ 0 && !g | none => false)

/-- Reads of the host and LOCKs in flight on the stack link (Table 15.3). -/
def farAsked (s : State) : Nat := (s.brdg.reads.filter (·.sent)).length + b2n s.lockOut

/-- A far operation goes out on the stack link. -/
def putFar (s : State) (write : Bool) (w : FarOp) : State :=
  let a := w.addr - 0x800000 - w.member * 0x200000
  if !s.stackUp 1 then s
  else s.emit (.stack 1 (if write then stackPacket 1 0 w.member 0 w.id a w.be w.pay else rdPacket w.member 0 w.id a w.be w.len))

/-- Packets that waited behind posted writes go out as soon as those have (R418). -/
def flushBehind (s : State) : State :=
  let waits := (s.brdg.writes.filter fun (w : FarOp) => !w.sent).map (·.id)
  let go := s.brdg.behind.takeWhile fun x => !waits.contains x.1
  go.foldl (fun s x => s.emit (.stack 1 x.2)) { s with brdg.behind := s.brdg.behind.drop go.length }

/-- Operations that wait for the link go out as it has room for 32 posted and 32 non-posted ones: posted writes in order, every other packet behind
the posted writes before it (R417, R418). -/
def pumpFar (s : State) : State :=
  let s := s.brdg.writes.foldl (fun s (w : FarOp) =>
    if w.sent || 32 ≤ s.farPosted then s
    else ({ s with brdg.writes := s.brdg.writes.map fun (x : FarOp) => if x.id = w.id then { x with sent := true } else x }.putFar true w).flushBehind)
    s.flushBehind
  s.brdg.reads.foldl (fun s (r : FarOp) =>
    if r.sent || 32 ≤ s.farAsked || s.unsent.isSome then s
    else { s with brdg.reads := s.brdg.reads.map fun (x : FarOp) => if x.id = r.id then { x with sent := true } else x }.putFar false r) s

/-- A read of member `m` at the local offset `a` (R417, R419). -/
def readFar (s : State) (tag m a dws be : Nat) : State :=
  let k := (winKind a).getD 1
  if k = 0 && (dws ≠ 1 || be / 16 ≠ 15) then s.answerUr tag
  else if !s.reachable m then s.failRead 1 tag (4 * dws)
  else
    let id := s.brdg.nextId % 0xFFF0
    let go := s.farAsked < 32 && s.unsent.isNone && s.brdg.reads.all (fun (x : FarOp) => x.sent)
    let op : FarOp := { id := id, tag := tag, src := 0, member := m, addr := 0x800000 + m * 0x200000 + a, len := 4 * dws,
                        arrival := shortNs s.presented % 2 ^ 32, until_ := s.now + s.fto, win := k, be := be, sent := go }
    let s : State := { s with brdg := { s.brdg with reads := s.brdg.reads ++ [op], nextId := s.brdg.nextId + 1 } }
    if go then s.putFar false op else s

/-- The node has dimmed for a Dusk commit (R410). -/
def hostDim (s : State) : Bool := s.get Reg.REST_STAT.DSTATE = 4

/-- A host request is for a member's window. -/
def farTarget (bar addr : Nat) : Bool := bar = 0 && 0xA00000 ≤ addr

/-- A host request of the kind finds no entry of Table 15.3, or one before it waits: its requester holds it back (R417). While a posted write has not
gone out yet, a read waits whatever its window, and so does a write to this chip, since neither passes a posted write (R418). While a member's core
holds this chip's lock, the host waits for it (R422). -/
def noEntry (s : State) (write far : Bool) : Bool :=
  !s.brdg.held.isEmpty
  || (!far && s.brdg.locked && s.brdg.lockSrc ≠ 0)
  || (s.unsent.isSome && !(write && far))
  || (if write then 128 ≤ s.brdg.writes.length else 128 ≤ s.brdg.reads.length + (s.brdg.fences.filter (·.1 = 0)).length)

/-- A host request is held back by flow control. -/
def holdHost (s : State) (h : HostReq) : State := { s with brdg.held := s.brdg.held ++ [h] }

/-- A host read of `dws` words from the word at `addr` on; no entry of the bridge is lacking. -/
def serveRead (s : State) (tag bar addr dws fbe lbe : Nat) (ecc : Bool) : State :=
  if bar ≠ 0 then
    if 0x400000 ≤ addr then s.emit (.cpl tag 0 false (List.replicate (4 * dws) 0)) else
    s.answerData tag 3 (s.poolBytes addr (4 * dws)) ecc
  else if addr < 0x800000 then s.readHere tag addr dws fbe ecc
  else
    let m := (addr - 0x800000) / 0x200000
    let a := (addr - 0x800000) % 0x200000
    if m = 0 then s.readHere tag a dws fbe ecc else s.readFar tag m a dws (16 * fbe + lbe)

/-- A host read arrives, or is held back by flow control. -/
def hostRead (s : State) (tag bar addr dws fbe lbe : Nat) (ecc : Bool) : State :=
  let t := s.bump Reg.BRDG_NPREQ.COUNT
  if s.inD3 then t.answerUr tag
  else if s.hostDim then t.answerCa tag (4 * dws) Reg.BRDG_CA.COUNT
  else if s.noEntry false (farTarget bar addr) then
    s.holdHost { write := false, tag := tag, bar := bar, addr := addr, dws := dws, fbe := fbe, lbe := lbe, ecc := ecc, data := [] }
  else t.serveRead tag bar addr dws fbe lbe ecc

/-! Host writes (R413, R414, R420). -/

/-- A write is refused (BRDG_REFUSED). -/
def refuseWrite (s : State) : State := s.bump Reg.BRDG_REFUSED.COUNT

/-- A write at a local offset of this chip, data in fabric order. -/
def writeHere (s : State) (a : Nat) (data : Bytes) (fbe lbe : Nat) : State :=
  match winKind a with
  | none => s
  | some 0 => if data.length ≠ 4 ∨ fbe ≠ 15 then s.refuseWrite else s.w0Write a (beNat data) 0
  | some _ => s.winWrite a (runs (enabled data fbe lbe))

/-- A write to member `m`: sent, and kept until it is confirmed (R420, R421). -/
def writeFar (s : State) (m a : Nat) (data : Bytes) (fbe lbe : Nat) : State :=
  let k := (winKind a).getD 1
  let addr := 0x800000 + m * 0x200000 + a
  let arr := shortNs s.presented % 2 ^ 32
  if k = 0 && (data.length ≠ 4 || fbe ≠ 15) then s.refuseWrite
  else if !s.reachable m then s.farError 1 0 m addr data arr
  else
    let id := s.brdg.nextId % 0xFFF0
    let go := s.farPosted < 32 && s.unsent.isNone
    let op : FarOp := { id := id, tag := id, src := 0, member := m, addr := addr, len := data.length, data := data.take 4,
                        arrival := arr, until_ := s.now + s.fto, win := k, pay := data, be := 16 * fbe + lbe, sent := go }
    let s : State := { s with brdg := { s.brdg with writes := s.brdg.writes ++ [op], nextId := s.brdg.nextId + 1 } }
    if go then s.putFar true op else s

/-- A write to W3 (R414): a byte is stored where its buffer is host-held; what falls elsewhere is dropped, and the write counted. -/
def writePool (s : State) (addr : Nat) (ws : List (Nat × Byte)) : State :=
  let held (a : Nat) : Bool := (s.bufferFrame (a / 256)).any fun x => s.hostHeld x.1
  let t := ws.foldl (fun t x => t.setPoolByte (addr + x.1) x.2) s
  if ws.all fun x => held (addr + x.1) then t else t.refuseWrite

/-- A host write of words from the word at `addr` on; no entry of the bridge is lacking. -/
def serveWrite (s : State) (bar addr : Nat) (data : Bytes) (fbe lbe : Nat) : State :=
  if bar ≠ 0 then
    if 0x400000 ≤ addr then s else
    let b := s.laned 3 data
    s.writePool addr (if s.winBo 3 then enabled b (swapBe fbe) (swapBe lbe) else enabled b fbe lbe)
  else
    let m := (addr - 0x800000) / 0x200000
    let a := if addr < 0x800000 then addr else (addr - 0x800000) % 0x200000
    let k := (winKind a).getD 1
    let b := s.laned k data
    let f := if s.winBo k then swapBe fbe else fbe
    let l := if s.winBo k then swapBe lbe else lbe
    if addr < 0x800000 ∨ m = 0 then s.writeHere a b f l else s.writeFar m a b f l

/-- A host write arrives, or is held back by flow control. -/
def hostWrite (s : State) (bar addr : Nat) (data : Bytes) (fbe lbe : Nat) : State :=
  let t := s.bump Reg.BRDG_PWR.COUNT
  if s.inD3 || s.hostDim then t
  else if s.noEntry true (farTarget bar addr) then
    s.holdHost { write := true, tag := 0, bar := bar, addr := addr, dws := 0, fbe := fbe, lbe := lbe, ecc := false, data := data }
  else t.serveWrite bar addr data fbe lbe

/-- A semaphore access of a requester at this chip waits while another holds the chip's lock (R422). -/
def semMustWait (s : State) (who : Nat) : Bool := s.brdg.locked && who ≠ requester s.brdg.lockSrc

/-- A semaphore access of a requester at this chip: a read, or a write of `v`. -/
def semAccess (s : State) (who n : Nat) (v : Option Nat) : State :=
  match v with
  | none =>
    let r := s.semRead n who
    r.2.emit (.rdata (0xC0080 + 4 * n) r.1)
  | some v => s.semWrite n v who

/-- The host's access to semaphore `n`, like any other host request: refused in D3hot and from dimming on (R409, R410), held back by flow control and
order (R417, R418). Its command names no tag, so that an answer without data is counted and reported only. -/
def hostSem (s : State) (n : Nat) (v : Option Nat) : State :=
  let t := s.bump (if v.isNone then Reg.BRDG_NPREQ.COUNT else Reg.BRDG_PWR.COUNT)
  if s.inD3 then (if v.isNone then t.countUr else t)
  else if s.hostDim then (if v.isNone then t.countCa Reg.BRDG_CA.COUNT else t)
  else if s.noEntry v.isSome false then
    s.holdHost { write := v.isSome, tag := 0, bar := 0, addr := 0xC0080 + 4 * n, dws := 1, fbe := 15, lbe := 0, ecc := false, data := natBe 4 (v.getD 0), row := 1 }
  else t.semAccess 0 n v

/-- A write of BRDG_LOCK at the master, behind the posted writes that have not gone out, and held back while 32 reads are in flight (R417, R418). -/
def hostLock (s : State) (v : Nat) : State :=
  if s.stackId = 0 && (s.noEntry true false || (bit v 31 && v % 4 ≠ 0 && 32 ≤ s.farAsked && s.get Reg.BRDG_LOCK.STATE = 0)) then
    s.holdHost { write := true, tag := 0, bar := 0, addr := 0xC0024, dws := 1, fbe := 15, lbe := 0, ecc := false, data := natBe 4 v, row := 2 }
  else s.writeLock v

/-- A request held back arrives again. -/
def arriveAgain (s : State) (h : HostReq) : State :=
  match h.row with
  | 1 => s.hostSem ((h.addr - 0xC0080) / 4) (if h.write then some (beNat h.data) else none)
  | 2 => s.hostLock (beNat h.data)
  | _ => if h.write then s.hostWrite h.bar h.addr h.data h.fbe h.lbe else s.hostRead h.tag h.bar h.addr h.dws h.fbe h.lbe h.ecc

/-- Entries have become free: what waits for the stack link goes out, and requests held back arrive, in order (R417). -/
def bridgeRoom (s : State) : State :=
  let s := s.pumpFar.lockRetry
  s.brdg.held.foldl arriveAgain { s with brdg.held := [] }

/-- A far operation is silent for FTO: the read is answered, the write logged (R419, R420). -/
def farTimeout (s : State) (id : Nat) : State :=
  match s.brdg.reads.find? (·.id = id) with
  | some r =>
    { s.reach r.until_ with brdg.reads := s.brdg.reads.filter (·.id ≠ id) }.failRead 3 r.tag r.len
  | none =>
    match s.brdg.writes.find? (·.id = id) with
    | none => s
    | some w => ({ s.reach w.until_ with brdg.writes := s.brdg.writes.filter (·.id ≠ id) }.bump Reg.BRDG_FTO.COUNT).failWrite 3 w

/-- The copy that has been held longest is dropped after its 1 µs (R416). -/
def prefetchExpiry (s : State) : State :=
  match s.brdg.pre with
  | [] => s
  | c :: _ =>
    let s := s.reach c.until_
    { s with brdg.pre := s.brdg.pre.filter fun (x : Prefetched) => s.now < x.until_ }

/-! The PCIe function (R408, R409, R455, R485). -/

/-- Every ring is disabled; frames that rings hold end (R409). -/
def dropRings (s : State) : State :=
  let s := s.allFetches.foldl dropFetch { s with host := { s.host with fetches := [], backs := [] } }
  let s := (List.range 4).foldl (fun s p => (List.range 8).foldl (fun s q =>
    let s := (s.put ((Reg.CONS_RXQ_CFG.EN.at p).ix q) 0).put ((Reg.CONS_TXQ_CFG.EN.at p).ix q) 0
    s.rxTaken p q) s) s
  let loose (it : PItem) : PItem := { it with host := none }
  let cut (x : PTx) : PTx := { x with item := loose x.item }
  { s with ports := s.ports.map fun t => { t with txq := t.txq.map loose, tx := t.tx.map cut, txHeld := t.txHeld.map cut, waiting := [] } }

/-- Completions that waited are written to the host. -/
def drainLate (s : State) : State :=
  let l := s.cmd.late
  l.foldl (fun s x => match x.1.src with
    | .host sidx addr _ => s.writeCompletion sidx addr (pkTag x.1.packet) x.2.1 (pkOp x.1.packet) x.2.2.1 x.2.2.2
    | _ => s) { s with cmd.late := [] }.refreshOpen

/-- Every open packet completes with ABORTED (R32, R409); while the link is down the completions to the host wait for it. -/
def abortOpen (s : State) (down : Bool) : State :=
  let mine := s.cmd.slots.filter fun x => x.2.src.isHost
  let s : State := { s with cmd := { s.cmd with slots := s.cmd.slots.filter fun x => !x.2.src.isHost
                                                late := s.cmd.late ++ mine.map fun x => (x.2, 1, 0, []) } }
  let s := mine.foldl (fun s x => s.dropKey x.1) s
  let s := (s.refreshOpen.bumpBy Reg.CMD_ABORTED.COUNT mine.length).abortSlots
  if down then s else s.drainLate

/-- A reset of the PCIe function: 1 PERST#, 2 hot, 3 link-down, 4 function-level. -/
def pcieReset (s : State) (cause : Nat) : State :=
  let was := s.flag Reg.BRDG_STAT.LINKUP
  let s := (s.dropRings.blockReset 12 false).abortOpen (cause ≠ 4)
  let s := (s.put Reg.BRDG_PCIE.DSTATE 0).put Reg.BRDG_STAT.D3 0
  let s := (s.put Reg.BRDG_PCIE.MRRS 2).put Reg.BRDG_PCIE.MPS 0
  let s : State := { s with brdg := { s.brdg with bar0 := 0, bar2 := 0, aspm := 0, aer := if cause = 1 then 0 else s.brdg.aer } }
  let s : State := { s with msix := { members := s.msix.members, inta := s.msix.inta } }
  let s := if cause = 4 then s else ((s.put Reg.BRDG_STAT.LINKUP 0).put Reg.BRDG_PCIE.WIDTH 0).put Reg.BRDG_PCIE.SPEED 0
  let s : State := if cause = 1 then { s with brdg.crsUntil := s.now + ms 20 } else s
  let s := s.record 0x0C02 (natBe 1 cause)
  if was && cause ≠ 4 then s.raise Reg.BRDG_IRQ.LINK else s

/-- The link comes up with speed and width, or goes down, which resets the function. -/
def pcieLink (s : State) (up : Bool) (speed width : Nat) : State :=
  if !up then (if s.flag Reg.BRDG_STAT.LINKUP then s.pcieReset 3 else s)
  else
    let s := (s.put Reg.BRDG_STAT.LINKUP 1).put Reg.BRDG_PCIE.SPEED speed
    (((s.put Reg.BRDG_PCIE.WIDTH width).raise Reg.BRDG_IRQ.LINK).record 0x0C01 (natBe 1 speed ++ natBe 1 width)).drainLate

/-- Vectors that wait in the pending-bit array send when no mask holds them back any more. -/
def resendPba (s : State) : State :=
  s.msix.pba.foldl (fun s v =>
    if !s.msix.enable || s.msix.fmask || !s.hostOpen || (s.msixEntry v).2.2 then s
    else
      let s : State := { s with msix.pba := s.msix.pba.filter (· ≠ v) }
      if s.vecPending v then s.signal v else s) s

/-- The function mask falls: every vector that its own entry does not mask is unmasked, and sends where it is pending (R455). -/
def unmaskAll (s : State) : State :=
  (List.range 64).foldl (fun s v =>
    if (s.msixEntry v).2.2 then s
    else
      let s : State := { s with msix.pba := s.msix.pba.filter (· ≠ v) }
      if s.vecPending v then s.signal v else s) s

/-- Back in D0: descriptors and completions that waited are written. -/
def enterD0 (s : State) : State :=
  let s := s.host.backs.foldl (fun s x => s.backNow x.1 x.2.1 x.2.2.1 x.2.2.2) { s with host.backs := [] }
  s.drainLate.resendPba

/-- What a configuration read returns (Table 15.1, log entry 28): 0 IDs, 1 class code and revision, 2 power management, 3 device control,
4 MSI-X control, 5 and 6 the serial number's halves, 7 and 8 BAR0/1, 9 and 10 BAR2/3, 11 BAR4, 12 BAR5, 13 AER error status, 14 link control
and status, 16 power management capabilities (version 3, neither D1 nor D2), 17 and 18 the places of the MSI-X table and of the pending-bit array in
BAR0. -/
def cfgRead (s : State) (item : Nat) : Nat :=
  match item with
  | 0 => 0x9600 * 65536 + s.get Reg.BRDG_ID.VID
  | 1 => 0x028000 * 256 + Config.pcieRev.toNat
  | 2 => s.get Reg.BRDG_PCIE.DSTATE
  | 3 => s.get Reg.BRDG_PCIE.MPS * 32 + s.get Reg.BRDG_PCIE.MRRS * 4096
  | 4 => b2n s.msix.enable * 32768 + b2n s.msix.fmask * 16384 + 63
  | 5 => s.uid % 2 ^ 32
  | 6 => s.uid / 2 ^ 32
  | 7 => s.brdg.bar0 % 2 ^ 32 + 4
  | 8 => s.brdg.bar0 / 2 ^ 32
  | 9 => s.brdg.bar2 % 2 ^ 32 + 12
  | 10 => s.brdg.bar2 / 2 ^ 32
  | 13 => s.brdg.aer
  | 14 => (s.get Reg.BRDG_PCIE.WIDTH * 16 + s.get Reg.BRDG_PCIE.SPEED + 1) * 65536 + s.brdg.aspm
  | 16 => 0x0003
  | 17 => 0x200000
  | 18 => 0x201000
  | _ => 0

/-- One half of a 64-bit base address is written; its low bits stand for the size and read 0. -/
def barWrite (old : Nat) (high : Bool) (size v : Nat) : Nat :=
  if high then v % 2 ^ 32 * 2 ^ 32 + old % 2 ^ 32 else old / 2 ^ 32 * 2 ^ 32 + v % 2 ^ 32 / size * size

/-- What a configuration write sets. -/
def cfgWrite (s : State) (item v : Nat) : State :=
  match item with
  | 2 =>
    if v % 4 = 3 then (s.put Reg.BRDG_PCIE.DSTATE 3).put Reg.BRDG_STAT.D3 1
    else if v % 4 = 0 && s.inD3 then ((s.put Reg.BRDG_PCIE.DSTATE 0).put Reg.BRDG_STAT.D3 0).enterD0
    else s
  | 3 =>
    let s := if bits v 7 5 ≤ 1 then s.put Reg.BRDG_PCIE.MPS (bits v 7 5) else s
    s.put Reg.BRDG_PCIE.MRRS (bits v 14 12)
  | 4 =>
    let was := s.msix.fmask
    let s : State := { s with msix := { s.msix with enable := bit v 15, fmask := bit v 14 } }
    if was && !s.msix.fmask && s.msix.enable then s.unmaskAll else
    let fresh := (List.range 64).filter fun v => s.vecPending v && s.msix.pba.contains v
    if fresh.isEmpty then s else s.resendPba
  | 7 => { s with brdg.bar0 := barWrite s.brdg.bar0 false 0x1000000 v }
  | 8 => { s with brdg.bar0 := barWrite s.brdg.bar0 true 0x1000000 v }
  | 9 => { s with brdg.bar2 := barWrite s.brdg.bar2 false 0x400000 v }
  | 10 => { s with brdg.bar2 := barWrite s.brdg.bar2 true 0x400000 v }
  | 13 => { s with brdg.aer := s.brdg.aer &&& (2 ^ 32 - 1 - v % 2 ^ 32) }
  | 14 => { s with brdg.aspm := v &&& 2 }
  | _ => s

/-- A configuration request: retry status at first (R485). Item 15 stands for a request that Table 15.1 has refused with UR: MRdLk, AtomicOp,
I/O, a configuration request of another type; as a write, for a message the standard does not require, which has no completion. -/
def cfgRequest (s : State) (tag : Nat) (write : Bool) (item v : Nat) : State :=
  if item = 15 then (if write then s.aerReport 1 else (s.bump Reg.BRDG_NPREQ.COUNT).answerUr tag)
  else if s.now < s.brdg.crsUntil then s.emit (.cpl tag 2 false [])
  else if write then (s.cfgWrite item v).emit (.cpl tag 0 false [])
  else s.emit (.cpl tag 0 false (natLe 4 (s.cfgRead item)))

/-! Packets on the stack link (R427). -/

/-- Writes of the requester `r` to chip `m` up to the one with `tag` are confirmed. -/
def confirmUpTo (m r tag : Nat) (ws : List FarOp) : List FarOp :=
  let mine := ws.filter fun w => w.member = m && w.src = r
  match mine.findIdx? (·.tag = tag) with
  | none => ws
  | some i =>
    let ids := (mine.take (i + 1)).map (·.id)
    ws.filter fun w => !(w.member = m && w.src = r && ids.contains w.id)

/-- A packet for another chip leaves by the other port, or ends there (R427, R429). -/
def forwardStack (s : State) (port : Nat) (p : Bytes) : State :=
  let out := 1 - port
  let w := s.writeOf p
  let s : State := if spKind p = 5 && byteAt (spPay p) 0 = 4 then
      { s with brdg.fwd := confirmUpTo (spSrc p) (byteAt (spPay p) 8) (fieldAt (spPay p) 6 2) s.brdg.fwd } else s
  if s.stackUp out then
    let s : State := if spKind p = 1 then { s with brdg.fwd := s.brdg.fwd ++ [w] } else s
    s.emit (.stack out p)
  -- the master sends only to members that were present; a member's write to one that is absent all along fails as such (R420)
  else if spKind p = 1 then s.reportFailed (if spSrc p = 0 then 2 else 1) w
  else if spKind p = 2 || spKind p = 6 || spKind p = 8 then s.stackSend 3 2 (spSrc p) (spTag p) 0 2 []
  else s

/-- A packet for this chip waits: an access while another requester holds its lock (R422), and whatever may not pass a posted write of the
same source that waits (R418). -/
def mustWait (s : State) (port : Nat) (p : Bytes) : Bool :=
  let k := spKind p
  s.brdg.locked && spSrc p ≠ s.brdg.lockSrc && (k = 1 || k = 2 || k = 8)
  || (k ≤ 5 || k = 8) && s.brdg.waiting.any fun x => x.1 = port && spSrc x.2.2 = spSrc p && spKind x.2.2 = 1

/-- A packet of the kinds given has arrived at a port: discarded where it is damaged, forwarded, held back, or taken. `ecc`: its buffering
here holds an uncorrectable error. -/
def takeStack (s : State) (port : Nat) (p : Bytes) (kinds : List Nat) (f : State → Bytes → State) (ecc : Bool := false) : State :=
  if !s.stackUp port then s
  else if !spOk p then s.bump Reg.BRDG_STKCRC.COUNT
  else if !kinds.contains (spKind p) then s
  else if spDst p ≠ s.stackId then s.forwardStack port p
  else if s.mustWait port p then { s with brdg.waiting := s.brdg.waiting ++ [(port, ecc, p)] }
  else f s p

/-- A WR for this chip is applied and confirmed (R421), or fails where its buffering holds an uncorrectable error (R420). -/
def stackWrite (s : State) (ecc : Bool) (p : Bytes) : State :=
  let src := requester (spSrc p)
  let s' := if ecc then s.reportFailed 4 (s.writeOf p)
    else s.localWrite (spAddr p) (spPay p) (bits (spBe p) 7 4) (spBe p % 16) src
  let s' : State := { s' with brdg.applied := s'.brdg.applied + 1 }
  let tell (s : State) (dst : Nat) : State := s.stackMsg dst 4 (natBe 4 s.brdg.applied ++ natBe 2 (spTag p) ++ natBe 1 src)
  let s' := if s'.stackId = 0 then s' else tell s' 0
  if s'.stackId < spSrc p then tell s' (spSrc p) else s'

/-- An RD for this chip is served with a CPL; at the master one of BRDG_FSEQ is a fence (R421). -/
def stackRead (s : State) (ecc : Bool) (p : Bytes) : State :=
  let a := spAddr p
  let src := spSrc p
  if winKind a = some 0 && spLen p ≠ 4 then s.stackSend 3 2 src (spTag p) 0 1 []
  else if s.stackId = 0 && a = 0xC0028 then s.openFence (spTag p) src
  else
    let r := s.localRead a (spLen p) (requester src)
    r.2.stackSend 3 2 src (spTag p) 0 (if ecc then 3 else 0) r.1

/-- What this member's core waits to ask of its master goes out as the link has room for 32 non-posted operations: its LOCK, then accesses to
semaphores in order (R423, Table 15.3). -/
def pumpCore (s : State) : State :=
  let s : State := if s.brdg.lockWait && s.semOpen < 32 then
      { s with brdg.lockWait := false }.stackSend 6 1 0 0xFFFF 0 0 [BitVec.ofNat 8 (s.get Reg.BRDG_LOCK.MEMBER)] else s
  let asked (s : State) : Nat := s.semOpen + b2n (s.get Reg.BRDG_LOCK.STATE = 1 && !s.brdg.lockWait)
  (List.range s.brdg.semReads.length).foldl (fun s i =>
    match s.brdg.semReads[i]? with
    | some (n, v, false) =>
      if 32 ≤ asked s then s
      else { s with brdg.semReads := s.brdg.semReads.set i (n, v, true) }.stackSend 8 1 0 0xFFFE (0xC0080 + 4 * n) 0 (v.elim [] (natBe 4))
    | _ => s) s

/-- A member core's access to semaphore `n` (R423). -/
def coreSem (s : State) (n : Nat) (v : Option Nat) : State :=
  if !s.stackUp 0 then s else { s with brdg.semReads := s.brdg.semReads ++ [(n, v, false)] }.pumpCore

/-- A CPL ends the read with its tag, or answers a lock: without a LOCKRES in it, its path is lost (R429). What waits for the link's 32 to become fewer
goes out (Table 15.3). -/
def stackCpl (s : State) (p : Bytes) : State :=
  if spTag p = 0xFFFF then (s.lockAnswer (spBe p = 0) (if (spPay p).isEmpty then 3 else byteAt (spPay p) 0)).pumpCore
  else if 0xFFF1 ≤ spTag p && spTag p ≤ 0xFFF3 then s.coreAnswer (spTag p - 0xFFF0) (spBe p = 0)
  else if spTag p = 0xFFFE then
    match s.brdg.semReads with
    | [] => s
    | (n, v, _) :: r =>
      let s : State := { s with brdg.semReads := r }
      (if spBe p = 0 && v.isNone then s.emit (.rdata (0xC0080 + 4 * n) (beNat (spPay p))) else s).pumpCore
  else match s.brdg.reads.find? fun r => r.id = spTag p && r.member = spSrc p with
    | none => s
    | some r =>
      let s : State := { s with brdg.reads := s.brdg.reads.filter (·.id ≠ r.id) }
      match spBe p with
      | 0 => s.answerData r.tag r.win (spPay p) false
      | 1 => s.answerUr r.tag
      | 3 => s.answerData r.tag r.win (spPay p) true
      | _ => s.failRead 2 r.tag r.len

/-- A member's backbone frame at the master: TT and VITAL wait for the own window, MGMT and BULK leave under this position from the buffers they
stand in (R16, R137, R220). Without a roster they are dropped, TT and VITAL without count (Table 08.3). -/
def memberBackbone (s : State) (fid : Nat) (f : Bytes) : State :=
  if s.inau.force.isNone then (if (hCls f).express then s else s.bump Reg.FWD_NOROST.COUNT)
  else if (hCls f).express then
    { s.onFrame fid (fun x => { x with due := [12] }) with sched.stackQ := s.sched.stackQ ++ [(bit (byteAt f 1) 7, fid, f)] }
  else if !s.flag Reg.FWD_CTRL.EN then s
  else s.routeFrame fid (hCls f) (hDst f) (mkFrame { cls := hCls f, type := hType f, flags := s.dirFlag (hDst f), src := s.pos, dst := hDst f,
                                                      pub := hPub f, gen := s.gen, seq := hSeq f } (payload f))

/-- A TT or VITAL frame that the master's lane `n` took is delivered to the subscriptions of this member (R16, R161, R239). -/
def memberDeliver (s : State) (n : Nat) (f : Bytes) : State :=
  match s.brdg.uids.find? (·.1 = hSrc f) with
  | none => s
  | some x =>
    let is := s.subTargets x.2 f
    if hCls f = .vital then s.takeVital n f x.2 is else s.deliverSubs (lineOf n) x.2 is f

/-- A FRAME enters the fabric with its tag (Table 08.2). -/
def stackFrame (s : State) (port : Nat) (p : Bytes) : State :=
  let t := spPay p
  let mask := fieldAt t 0 2
  let cls := Cls.ofCode (byteAt t 2 / 64)
  let data := (t.drop 16).take (fieldAt t 4 2)
  let f : PFrame := { fid := 0, ingress := 9 + port, cls := cls, bytes := data, complete := true, stamp := none, claim := fieldAt t 10 4 }
  if t.length < 16 then s
  else match s.enterPool f data.length with
  | none => s.refuseBuf cls
  | some (fid, s) =>
    let q := bits (byteAt t 3) 6 4
    let s := if mask % 16 = 0 || s.stackId ≠ 0 then s else s.memberBackbone fid data
    let s := if bit mask 12 && s.stackId ≠ 0 then s.memberDeliver (byteAt t 3 % 16) data else s
    let s := (List.range 4).foldl (fun s i => if bit mask (4 + i) then s.pushTx i { q := q, fid := fid, bytes := withFcs data } else s) s
    let s := if !bit mask 8 then s
      else match (List.range 4).find? fun i => s.flag (Reg.CONS_CTRL.BBHOST.at i) with
        | none => s.bump Reg.FWD_SINKFULL.COUNT
        | some i => s.toRing i 7 fid data 0 (ethTci data) ((if ethTagged data then 2 ^ 28 else 0) + 2 ^ 27 + 0xFE * 2 ^ 16)
    s.gc fid

/-- A stack member captures the publications due in a cycle at its boundary and passes them up, sweep by sweep in table order (R16, log
entry 28). -/
def memberPublish (s : State) : State :=
  if !s.brdg.onTrain then s
  else [false, true].foldl (fun s fwd =>
    (s.sched.pubs.filter fun (ie : Nat × Bytes) => pubDue ie.2 s.cyc s.brdg.mode && pubInSweep ie.2 fwd s.brdg.loop).foldl (fun s ie =>
      let q := s.nextSeq (b2n (pubVital ie.2)) (pubId ie.2) s.cyc
      let f := q.2.pubFrame ie.2 (natBe 4 s.cyc ++ s.img.read (pubSrc ie.2) (pubLen ie.2)) fwd false q.1
      q.2.frameUp 15 (hCls f) 12 f) s) s

/-- A member's boundary is placed by its master's (R428): the time since it, and one hop for each stack link on the way, are taken off (log entry 26).
The claim, the generation and T in force are the master's (R16); where T changes its engine runs the check of R291. -/
def memberBoundary (s : State) (b : Bytes) : State :=
  let t := s.tLen
  let c := fieldAt b 0 4
  let m := ofSecNs (fieldAt b 4 6) (fieldAt b 10 4)
  let late := fieldAt b 20 4 + s.stackId * (Config.stackHop.toNat % 6401)
  let s : State := { s with cycRun := true, cyc := c, bnd := s.now - late, time := { s.time with map := if bit (byteAt b 15) 5 then some (c, m) else none }
                            brdg := { s.brdg with mode := byteAt b 14, onTrain := bit (byteAt b 15) 7, loop := bit (byteAt b 15) 6
                                                  gen := fieldAt b 24 2, cycle := byteAt b 26 } }
  let s := (s.put Reg.TWIN_CLAIM.VALUE (fieldAt b 16 4)).refreshRole
  (s.applyTables.engineBoundary false (t ≠ s.tLen)).memberPublish

/-- What a MSG carries (log entry 26). -/
def stackMsgIn (s : State) (p : Bytes) : State :=
  let src := spSrc p
  let b := (spPay p).drop 2
  match byteAt (spPay p) 0 with
  | 1 =>
    let on := fieldAt b 0 4 ≠ 0
    let was := s.msix.members.contains src
    let s : State := { s with msix.members := (s.msix.members.filter (· ≠ src)) ++ (if on then [src] else []) }
    if on && !was then s.signal (55 + src) else s
  | 2 =>
    let code := fieldAt b 0 2
    s.stageIn (devClass code) { code := code, body := b.drop 10, ot := fieldAt b 2 5, pcc := fieldAt b 7 3 }
  | 3 => if s.stackId = 0 then s else s.memberBoundary b
  | 4 =>
    { s with brdg := { s.brdg with writes := confirmUpTo src (byteAt b 6) (fieldAt b 4 2) s.brdg.writes
                                   counts := s.brdg.counts.filter (·.1 ≠ src) ++ [(src, fieldAt b 0 4)] } }
  | 5 =>
    let tag := fieldAt b 1 2
    let m := byteAt b 3
    match s.brdg.writes.find? fun w => w.tag = tag && w.member = m && byteAt b 4 = 0 with
    | some w => { s with brdg.writes := s.brdg.writes.filter (·.id ≠ w.id) }.failWrite (byteAt b 0) w
    | none => if byteAt b 4 = 0 then s else s.farError (byteAt b 0) (byteAt b 4) m (fieldAt b 5 4) ((b.drop 9).take 4) (shortNs s.presented % 2 ^ 32)
  | 6 =>
    match s.mapAt s.now with
    | none => s
    | some m => if s.stackId = 0 then s else (s.acceptCommit ((s.cyc + 1) % 2 ^ 32) (m + fieldAt b 0 4 * 16)).put Reg.REST_STAT.DSTATE 4
  | 7 => if s.stackId = 0 then s else s.startWarm 4
  | 8 =>
    let pk := b.drop 1
    match (if s.cmd.shut || 64 ≤ s.slotsTaken then none else s.freeSlot) with
    | none => s.stackMsg 0 9 (b.take 1 ++ cplPacket pk 8 0 [])
    | some n => ((s.bump Reg.CMD_ACCEPT.COUNT).accept n (.stack (byteAt b 0)) (pk.take (8 + pkPlen pk))).screen n
  | 9 =>
    let n := byteAt b 0
    let c := b.drop 1
    match s.slot? n with
    | some x => if x.member = src && src ≠ 0 then s.complete n (fieldAt c 4 2) (fieldAt c 8 4) (c.drop 12) else s
    | none => s
  | 11 => if s.stackId = 0 then s.sendRemote (byteAt b 0) (fieldAt b 1 2) (byteAt b 3 ≠ 0) (b.drop 4) else s
  | 12 =>
    match s.openRsend (fieldAt b 0 2) (fieldAt b 4 2) with
    | some n => s.complete n 0 0 (b.drop 2)
    | none => s.bump Reg.CMD_CPLLATE.COUNT
  | 13 => if s.stackId = 0 then s.stationClaim (fieldAt b 0 4) else s
  | 14 =>
    let n := b.length / 10
    let es := (List.range n).map fun i => (fieldAt b (2 + 10 * i) 2, fieldAt b (4 + 10 * i) 8)
    if s.stackId = 0 then s
    else
      let s : State := { s with brdg.uids := (if byteAt b 0 = 0 then [] else s.brdg.uids) ++ es }
      if byteAt b 1 = 0 then s else s.resolveSubs
  | 15 => if s.stackId = 0 then s else s.pathGone (byteAt b 0 = 0)
  | 10 => if src = s.stackId + 1 then (s.setBelow (byteAt b 0 ||| 2 ^ (src - 1))).reportBelow else s
  | _ => s

/-- A SEM packet at the master: a read, or a write of a semaphore (R423). -/
def stackSem (s : State) (p : Bytes) : State :=
  let src := spSrc p
  let reply (s : State) (be : Nat) (pl : Bytes) : State := s.stackSend 3 2 src (spTag p) 0 be pl
  let a := spAddr p
  if a < 0xC0080 ∨ 0xC0100 ≤ a then reply s 1 []
  else
    let n := (a - 0xC0080) / 4
    if spLen p = 0 then
      let r := s.semRead n (requester src)
      reply r.2 0 (natBe 4 r.1)
    else reply (s.semWrite n (beNat (spPay p)) (requester src)) 0 []

/-- LOCK, UNLOCK and SEM at their target (R422 to R424). The master arbitrates locks; a member is locked and freed as the master says. -/
def stackLock (s : State) (p : Bytes) : State :=
  let src := spSrc p
  match spKind p with
  | 6 =>
    if s.stackId = 0 then s.takeCore src (byteAt (spPay p) 0 % 4)
    else (s.setLocked true (byteAt (spPay p) 0)).stackSend 3 2 src (spTag p) 0 0 []
  | 7 =>
    if s.stackId ≠ 0 then (if s.brdg.locked then s.setLocked false else s)
    else if s.brdg.coreLock.any (·.1 = src) then s.dropCore none
    else s
  | _ => s.stackSem p

/-- A packet that waited is served. -/
def servePacket (s : State) (port : Nat) (ecc : Bool) (p : Bytes) : State :=
  match spKind p with
  | 1 => s.stackWrite ecc p
  | 2 => s.stackRead ecc p
  | 3 => s.stackCpl p
  | 4 => s.stackFrame port p
  | 5 => s.stackMsgIn p
  | _ => s.stackSem p

/-- What was held back while this chip was locked is served once it is free in the order of R424: the host, the master's core, the members in
ascending order, each in the order of arrival. -/
def drainWaiting (s : State) : State :=
  if s.brdg.locked then s
  else
    let s := s.brdg.held.foldl arriveAgain { s with brdg.held := [] }
    let s := s.brdg.semWait.foldl (fun s x =>
      if s.semMustWait x.1 then { s with brdg.semWait := s.brdg.semWait ++ [x] } else s.semAccess x.1 x.2.1 x.2.2) { s with brdg.semWait := [] }
    ([0, 1, 2, 3].flatMap fun k => s.brdg.waiting.filter fun x => spSrc x.2.2 = k).foldl (fun s x =>
      if s.mustWait x.1 x.2.2 then { s with brdg.waiting := s.brdg.waiting ++ [x] } else s.servePacket x.1 x.2.1 x.2.2) { s with brdg.waiting := [] }

/-! Stack ports (R426, R429). -/

/-- A port has trained up to its peer's stack ID: it enters ACTIVE only beside the right peer (R426). -/
def stackTrained (s : State) (port peer : Nat) : State :=
  let st := if port = 0 then Reg.BRDG_SPUP.STATE else Reg.BRDG_SPDN.STATE
  let id := if port = 0 then Reg.BRDG_SPUP.PEERID else Reg.BRDG_SPDN.PEERID
  if s.get st = 0 || s.stackUp port then s
  else
    let s := s.put id peer
    let right := if port = 0 then s.stackId = peer + 1 else peer = s.stackId + 1
    if right then
      let s := s.put st 6
      if port = 1 then (s.setBelow (s.get Reg.BRDG_STACK.PRESENT ||| 2 ^ (peer - 1))).reportBelow
      else { s with brdg.upSince := none }.reportBelow
    else
      let s := (s.put st 1).put Reg.BRDG_STAT.IDERR 1
      if s.brdg.idSeen then s else { s with brdg.idSeen := true }.record 0x0C12

end State

/-- HOST_READ (R419): `dws` words from the word at `addr` of BAR0 or BAR2 on; `ecc`: the data hold an uncorrectable error. -/
def execHostRead (tag : Nat) (bar : Fin 2) (addr : Fin 16777216) (dws : Nat) (fbe lbe : Fin 16) (ecc : Bool) (s : State) :
    Host.Outcome State Fault Refusal :=
  liveActive s fun s => done (if s.stackId ≠ 0 then s else s.hostRead tag bar (addr / 4 * 4) dws fbe lbe ecc)

/-- HOST_POSTED_WRITE (R420): words as they stand on PCIe, with byte enables of the first and the last. -/
def execHostPostedWrite (bar : Fin 2) (addr : Fin 16777216) (data : Bytes) (fbe lbe : Fin 16) (s : State) :
    Host.Outcome State Fault Refusal :=
  liveActive s fun s => done (if s.stackId ≠ 0 then s else (s.hostWrite bar (addr / 4 * 4) data fbe lbe).drainWaiting)

/-- FAR_TIMEOUT (R419, R420): the operation with this number. -/
def execFarTimeout (id : Nat) (s : State) : Host.Outcome State Fault Refusal := liveActive s fun s => done (s.farTimeout id).bridgeRoom

/-- FSEQ_FENCE_READ (R421): a host read of BRDG_FSEQ. -/
def execFseqFenceRead (tag : Nat) (s : State) : Host.Outcome State Fault Refusal :=
  liveActive s fun s => done (if s.stackId ≠ 0 then s else s.hostRead tag 0 0xC0028 1 15 0 false)

/-- FENCE_COMPLETE (R421). -/
def execFenceComplete (s : State) : Host.Outcome State Fault Refusal := liveActive s fun s => done s.fenceDone

/-- PREFETCH_EXPIRY (R416). -/
def execPrefetchExpiry (s : State) : Host.Outcome State Fault Refusal := liveActive s fun s => done s.prefetchExpiry

/-- PCIE_RESET (R409): 0 PERST#, 1 hot reset, 2 link-down, 3 function-level reset. -/
def execPcieReset (kind : Fin 4) (s : State) : Host.Outcome State Fault Refusal := liveActive s fun s => 
  done (if s.stackId ≠ 0 then s else (s.pcieReset (kind + 1)).drainWaiting)

/-- PCIE_LINK_CHANGE (R408): speed 0 or 1, width code 1 or 2. -/
def execPcieLinkChange (up : Bool) (speed : Fin 2) (width : Fin 3) (s : State) : Host.Outcome State Fault Refusal :=
  liveActive s fun s => done (if s.stackId ≠ 0 then s else (s.pcieLink up speed width).drainWaiting)

/-- PCIE_CONFIG_REQUEST (R409, R485): the item as `cfgRead` numbers them. -/
def execPcieConfigRequest (tag : Nat) (write : Bool) (item : Fin 32) (value : Word) (s : State) : Host.Outcome State Fault Refusal :=
  liveActive s fun s => done (if s.stackId ≠ 0 then s else s.cfgRequest tag write item value.toNat)

/-- FAR_LOCK_REQUEST (R422): a write of BRDG_LOCK. -/
def execFarLockRequest (value : Word) (s : State) : Host.Outcome State Fault Refusal :=
  liveActive s fun s => done (s.hostLock value.toNat).drainWaiting

/-- FAR_LOCK_GRANT (R422, R424): the target grants the pending lock, or finds itself taken. -/
def execFarLockGrant (ok : Bool) (s : State) : Host.Outcome State Fault Refusal := liveActive s fun s => 
  done (s.lockAnswer ok)

/-- FAR_LOCK_RELEASE (R422): a write of 1 to REL. -/
def execFarLockRelease (s : State) : Host.Outcome State Fault Refusal :=
  liveActive s fun s => done (s.writeLock (2 ^ 30 + s.get Reg.BRDG_LOCK.MEMBER)).drainWaiting

/-- FAR_LOCK_TIMEOUT (R422). -/
def execFarLockTimeout (s : State) : Host.Outcome State Fault Refusal := liveActive s fun s => done s.lockTimeout.drainWaiting

/-- SEMAPHORE_READ (R423): by requester 0 host, 1 master core, 2 to 4 member cores. On a member its core asks the master: 32 reads at a time are
on the link (Table 15.3). -/
def execSemaphoreRead (who : Fin 5) (sem : Fin 32) (s : State) : Host.Outcome State Fault Refusal :=
  liveActive s fun s => done (
    if s.stackId ≠ 0 then s.coreSem sem none
    else if who.val = 0 then s.hostSem sem none
    else if s.semMustWait who then { s with brdg.semWait := s.brdg.semWait ++ [(who.val, sem.val, none)] }
    else s.semAccess who sem none)

/-- SEMAPHORE_RELEASE_WRITE (R423). -/
def execSemaphoreReleaseWrite (who : Fin 5) (sem : Fin 32) (value : Word) (s : State) : Host.Outcome State Fault Refusal :=
  liveActive s fun s => done (
    if s.stackId ≠ 0 then s.coreSem sem (some value.toNat)
    else if who.val = 0 then s.hostSem sem (some value.toNat)
    else if s.semMustWait who then { s with brdg.semWait := s.brdg.semWait ++ [(who.val, sem.val, some value.toNat)] }
    else s.semAccess who sem (some value.toNat))

/-- STACK_WRITE_RECEIVED (R427, R420). -/
def execStackWriteReceived (port : Fin 2) (packet : Bytes) (ecc : Bool) (s : State) : Host.Outcome State Fault Refusal :=
  liveActive s fun s => done (s.takeStack port packet [1] (fun s p => s.stackWrite ecc p) ecc).drainWaiting

/-- STACK_READ_RECEIVED (R427). -/
def execStackReadReceived (port : Fin 2) (packet : Bytes) (ecc : Bool) (s : State) : Host.Outcome State Fault Refusal :=
  liveActive s fun s => done (s.takeStack port packet [2] (fun s p => s.stackRead ecc p) ecc)

/-- STACK_COMPLETION_RECEIVED (R427). -/
def execStackCompletionReceived (port : Fin 2) (packet : Bytes) (s : State) : Host.Outcome State Fault Refusal :=
  liveActive s fun s => done (s.takeStack port packet [3] State.stackCpl).bridgeRoom

/-- STACK_FRAME_RECEIVED (R427). -/
def execStackFrameReceived (port : Fin 2) (packet : Bytes) (s : State) : Host.Outcome State Fault Refusal :=
  liveActive s fun s => done (s.takeStack port packet [4] fun s p => s.stackFrame port p)

/-- STACK_MSG_RECEIVED (R427, R428, R421). -/
def execStackMsgReceived (port : Fin 2) (packet : Bytes) (s : State) : Host.Outcome State Fault Refusal :=
  liveActive s fun s => done (s.takeStack port packet [5] State.stackMsgIn).drainWaiting.bridgeRoom

/-- STACK_LOCK_RECEIVED (R422, R423). -/
def execStackLockReceived (port : Fin 2) (packet : Bytes) (s : State) : Host.Outcome State Fault Refusal :=
  liveActive s fun s => done (s.takeStack port packet [6, 7, 8] State.stackLock).drainWaiting

/-- STACK_PORT_DOWN (R426, R429): the port leaves ACTIVE, or its training has reached the check of the peer's stack ID. -/
def execStackPortDown (port : Fin 2) (trained : Bool) (peer : Fin 4) (s : State) : Host.Outcome State Fault Refusal :=
  liveActive s fun s => done (if trained then s.stackTrained port peer else s.portDown port).drainWaiting.bridgeRoom

/-- STACK_UPLINK_TIMEOUT (R429). -/
def execStackUplinkTimeout (s : State) : Host.Outcome State Fault Refusal :=
  liveActive s fun s => done (match s.brdg.upSince with
    | none => s
    | some t => if s.stackId = 0 then s else (s.reach (t + ms 100)).startWarm 4)

/-- PACE_CHANGE_COMPLETE (R482): stack ports that are held let go what waited for a lock (R429). -/
def execPaceChangeComplete (s : State) : Host.Outcome State Fault Refusal := live s fun s => done s.paceDone.drainWaiting.bridgeRoom

/-- STACK_RESET_WRITE (R429): a write of BRDG_STACK. -/
def execStackResetWrite (value : Word) (s : State) : Host.Outcome State Fault Refusal := liveActive s fun s => done (s.writeStack value.toNat)

end Sys2Proof.Machine
end

