-- ==== Sys2Proof/Machine/EpochStep.lean ====
section
/-! DEFINITION. The commands of a cycle boundary, with the internal compare units that an epoch step at it passes (R209). -/

namespace Sys2Proof.Machine

namespace State

/-- An internal compare unit on map time whose target a step from `a` to `b` has passed. -/
def steppedOver (a b target : Int) : Bool := 0 < wrapT (target - a) && wrapT (target - b) ≤ 0

/-- The pending Midnights and the Dusk commit that a forward epoch step has passed fire at the step, each late (R208, R209, R468). -/
def fireStepped (s : State) : State :=
  match s.time.stepFrom, s.mapAt s.now with
  | some a, some b =>
    let s : State := { s with time.stepFrom := none }
    let hit := s.hkp.mids.filter fun x => steppedOver a b x.target
    let s := hit.foldl (fun s _ => s.lateUnit) s
    let s := if hit.isEmpty then s else s.fireMidnight
    if s.rest.commit.any (steppedOver a b) && 3 ≤ s.dState then s.lateUnit.commitNow s.now else s
  | _, _ => { s with time.stepFrom := none }

end State

/-- CYCLE_BOUNDARY (R23). -/
def execCycleBoundary (s : State) : Host.Outcome State Fault Refusal := live s fun s => done s.cycleBoundary.fireStepped

/-- DAYBREAK_BOUNDARY (R102). -/
def execDaybreakBoundary (s : State) : Host.Outcome State Fault Refusal := live s fun s => done s.daybreakBoundary.fireStepped

/-- REPHASE_BOUNDARY (R122). -/
def execRephaseBoundary (s : State) : Host.Outcome State Fault Refusal := live s fun s => done s.rephaseBoundary.fireStepped

end Sys2Proof.Machine
end

