-- ==== Sys2Proof/Machine/Ptp.lean ====
section
/-! DEFINITION. IEEE 1588 on the consist ports (R212 to R216): the boundary clock's messages. The message layouts are those of
IEEE 1588-2019, which R212 names (log entry 21). -/

namespace Sys2Proof.Machine

/-- Fields of a message. -/
def ptpType (m : Bytes) : Nat := byteAt m 0 % 16
def ptpDom (m : Bytes) : Nat := byteAt m 4
def ptpSeq (m : Bytes) : Nat := fieldAt m 30 2
def ptpPort (m : Bytes) : Bytes := (m.drop 20).take 10
/-- sourcePortIdentity as a number; flags: two-step, alternate master. -/
def ptpIdent (m : Bytes) : Nat := fieldAt m 20 10
def ptpTwo (m : Bytes) : Bool := bit (byteAt m 6) 1
def ptpAlt (m : Bytes) : Bool := bit (byteAt m 6) 0
/-- correctionField, and the timestamp at offset 34, in 1/16 ns. -/
def ptpCorr (m : Bytes) : Int := signed 64 (fieldAt m 8 8) / 4096
def ptpTime (m : Bytes) : Int := ofSecNs (fieldAt m 34 6) (fieldAt m 40 4)

/-- The 10-byte timestamp of a train time. -/
def ptpStamp (t : Int) : Bytes := natBe 6 (secNs t).1 ++ natBe 4 (secNs t).2

/-- Ones' complement checksum of an IPv4 header. -/
def ipSum : Bytes → Nat
  | a :: b :: r => a.toNat * 256 + b.toNat + ipSum r
  | [a] => a.toNat * 256
  | [] => 0
def ipCheck (h : Bytes) : Nat :=
  let s := ipSum h
  let s := s % 65536 + s / 65536
  65535 - (s % 65536 + s / 65536)

namespace State

def ptpOf (s : State) (p : Nat) : PtpS := s.time.ptp[p]?.getD {}
def onPtp (s : State) (p : Nat) (f : PtpS → PtpS) : State := { s with time.ptp := s.time.ptp.setIfInBounds p (f (s.ptpOf p)) }

/-- Settings of the port: peer-to-peer, Layer 2 (Table 07.4: the power utility profile uses both). -/
def ptpPeer (s : State) (p : Nat) : Bool :=
  match s.get (Reg.TIME_PTP.PROFILE.ix p) with
  | 1 => true
  | 2 => true
  | _ => s.flag (Reg.TIME_PTP.DELAYM.ix p)
def ptpL2 (s : State) (p : Nat) : Bool := s.get (Reg.TIME_PTP.PROFILE.ix p) = 2 || !s.flag (Reg.TIME_PTP.TRANS.ix p)
def ptpTwoStep (s : State) (p : Nat) : Bool := s.flag (Reg.TIME_PTP.STEP.ix p)

/-- 1588 runs on port `p`. -/
def ptpOn (s : State) (p : Nat) : Bool := s.flag Reg.TIME_CTRL.EN && s.flag (Reg.TIME_PTP.PEN.ix p) && s.linkUp p

/-- The port may be slave: TIME_REF.PORT at the time reference, SRC being PTP (R213); likewise before the first map (R202). -/
def mayBeSlave (s : State) (p : Nat) : Bool :=
  s.refSrc = 2 && s.get Reg.TIME_REF.PORT = p && (s.isTref || s.time.map.isNone)

/-- The master that the port follows, if its last Announce is younger than three announce intervals (R205). -/
def ptpParent (s : State) (p : Nat) : Option PtpMaster :=
  match (s.ptpOf p).parent with
  | none => none
  | some k => (s.ptpOf p).masters.find? fun m => m.ident = k && m.seen.head?.any fun t => decide (s.now < t + 3 * ns (s.annNs p))
def ptpSlave (s : State) (p : Nat) : Bool := s.mayBeSlave p && (s.ptpParent p).isSome

/-- The 802.1Q tag of the messages of a port (Table 07.4; log entry 21): priority and VLAN of CONS_PVID. -/
def ptpTag (s : State) (p : Nat) : Bytes :=
  if Config.ptpTagged p then natBe 2 0x8100 ++ natBe 2 (s.get (Reg.CONS_PVID.PCP.at p) * 8192 + s.get (Reg.CONS_PVID.PVID.at p)) else []

/-- Offset of the message in a frame of the port's transport. -/
def ptpOff (s : State) (p : Nat) : Nat := (if s.ptpL2 p then 14 else 42) + (s.ptpTag p).length

/-- The frame data that carries a message: multicast, Layer 2 or UDP over IPv4 (Table 07.4). -/
def ptpWrap (s : State) (p : Nat) (m : Bytes) : Bytes :=
  let peer := ptpType m = 2 || ptpType m = 3 || ptpType m = 10
  let mac := (Config.macAddr p).toNat
  if s.ptpL2 p then natBe 6 (if peer then 0x0180C200000E else 0x011B19000000) ++ natBe 6 mac ++ s.ptpTag p ++ natBe 2 0x88F7 ++ m
  else
    let dst := if peer then 0xE000006B else 0xE0000181
    let udp := if ptpType m < 8 then 319 else 320
    let ip0 := natBe 2 0x4500 ++ natBe 2 (28 + m.length) ++ natBe 4 0 ++ natBe 1 (if peer then 1 else 64) ++ natBe 1 17
    let ip1 := natBe 4 (Config.ipAddr p).toNat ++ natBe 4 dst
    natBe 6 (0x01005E000000 + dst % 2 ^ 23) ++ natBe 6 mac ++ s.ptpTag p ++ natBe 2 0x0800
      ++ ip0 ++ natBe 2 (ipCheck (ip0 ++ natBe 2 0 ++ ip1)) ++ ip1
      ++ natBe 2 udp ++ natBe 2 udp ++ natBe 2 (8 + m.length) ++ natBe 2 0 ++ m

/-- A message of the port: common header (versionPTP 2, minorVersionPTP 1), body. `fl` are the two flag bytes, `cor` the correctionField, `log` logMessageInterval. -/
def ptpMsg (s : State) (p type fl cor seq log : Nat) (body : Bytes) : Bytes :=
  let ctl := match type with | 0 => 0 | 1 => 1 | 8 => 2 | 9 => 3 | _ => 5
  natBe 1 type ++ [0x12] ++ natBe 2 (34 + body.length) ++ natBe 1 s.ptpDomain ++ [0] ++ natBe 2 fl ++ natBe 8 cor ++ natBe 4 0
  ++ natBe 8 s.uid ++ natBe 2 (p + 1) ++ natBe 2 seq ++ natBe 1 ctl ++ natBe 1 log ++ body

def ptpSend (s : State) (p : Nat) (m : Bytes) (kind : Option (Nat × Nat) := none) (cor : Nat := 0) : State :=
  s.sendEth p (s.ptpWrap p m) 7 kind cor

/-- QFLAGS, RSRC and UTC offset of the dataset (R214); none where no notice has been accepted. -/
def ptpData (s : State) : Option (Nat × Nat × Nat) :=
  if s.isTref then some (s.ownQ'.1, s.ownQ'.2, s.get Reg.TIME_UTCOFF.UTCOFF) else s.time.notice

/-- clockClass, clockAccuracy, timeSource, currentUtcOffset, PTP timescale flag (R214). -/
def ptpClock (s : State) : Nat × Nat × Nat × Nat × Bool :=
  match s.ptpData with
  | none => (248, 0xFE, 0xA0, 0, false)
  | some (q, r, u) =>
    let lock := bit q 7
    let hold := bit q 6
    let tai := bit q 5
    let cls := if r = 0 then 248 else if lock then (if tai then 6 else 13) else if hold then (if tai then 7 else 14) else 248
    (cls, if lock then 0x22 else 0xFE, if r = 2 then 0x40 else if r = 1 then 0x90 else 0xA0, u, tai)

/-- An Announce of the port: body from originTimestamp to timeSource; stepsRemoved is 0 (R214). -/
def sendAnnounce (s : State) (p : Nat) : State :=
  let (cls, acc, src, utc, tai) := s.ptpClock
  let body := List.replicate 10 0 ++ natBe 2 utc ++ [0] ++ natBe 1 (s.get Reg.TIME_PTPDS.PRIO1) ++ natBe 1 cls ++ natBe 1 acc ++ natBe 2 0xFFFF
    ++ natBe 1 (s.get Reg.TIME_PTPDS.PRIO2) ++ natBe 8 s.uid ++ natBe 2 0 ++ natBe 1 src
  let q := (s.ptpOf p).seqAnn
  let s := s.onPtp p fun t => { t with seqAnn := (q + 1) % 65536 }
  s.ptpSend p (s.ptpMsg p 11 (8 * b2n tai) 0 q (unsigned 8 (clampInt (-3) 4 (signed 4 (s.get (Reg.TIME_PTP.LOGANN.ix p))))) body)

/-- logMessageInterval of Sync and Delay_Resp. -/
def logSync (s : State) (p : Nat) : Nat := unsigned 8 (clampInt (-7) 1 (signed 4 (s.get (Reg.TIME_PTP.LOGSYNC.ix p))))

/-- A Sync of the port: its egress stamp goes into a Follow_Up (two-step) or into the message itself (R216). -/
def sendSync (s : State) (p : Nat) : State :=
  let q := (s.ptpOf p).seqSync
  let two := s.ptpTwoStep p
  let s := s.onPtp p fun t => { t with seqSync := (q + 1) % 65536 }
  s.ptpSend p (s.ptpMsg p 0 (if two then 0x200 else 0) 0 q (s.logSync p) (List.replicate 10 0)) (some (if two then 0 else 16, q))

/-- Pdelay_Req of a peer-to-peer port; Delay_Req of an end-to-end port that is slave. Its egress instant is taken when it has left. -/
def sendDelayReq (s : State) (p : Nat) : State :=
  let q := (s.ptpOf p).seqDly
  let ty := if s.ptpPeer p then 2 else 1
  if ty = 1 && !s.ptpSlave p then s
  else
    let s := s.onPtp p fun t => { t with seqDly := (q + 1) % 65536, req := some (q, none), resp := none }
    s.ptpSend p (s.ptpMsg p ty 0 0 q 0x7F (List.replicate (if ty = 2 then 20 else 10) 0)) (some (ty, q))

/-! The own port as slave (R203, R205, R213). -/

/-- A data set as one number, in the order of the comparison of IEEE 1588: the smaller is the better master. -/
def ptpRank (prio1 cls acc var prio2 gm steps ident : Nat) : Nat :=
  ((((((prio1 * 256 + cls) * 256 + acc) * 65536 + var) * 256 + prio2) * 2 ^ 64 + gm) * 65536 + steps) * 2 ^ 80 + ident

/-- The data set of the port itself (log entry 21: its clockClass is 248, whatever it follows). -/
def ptpOwnRank (s : State) : Nat := ptpRank (s.get Reg.TIME_PTPDS.PRIO1) 248 0xFE 0xFFFF (s.get Reg.TIME_PTPDS.PRIO2) s.uid 0 0

/-- A master is qualified: two Announce messages within four announce intervals, the last one within three (R205). -/
def ptpQualified (s : State) (p : Nat) (m : PtpMaster) : Bool :=
  m.seen.head?.any (fun t => decide (s.now < t + 3 * ns (s.annNs p)))
    && (m.seen[1]?).any fun t => decide (s.now ≤ t + 4 * ns (s.annNs p))

/-- The best-master algorithm on the masters heard (R213): the best one that is qualified and better than the port itself is followed. With
another master, what was measured to the old one ends; the three sync intervals of R205 run on from the last Sync, or begin here. -/
def ptpDecide (s : State) (p : Nat) : State :=
  let t := s.ptpOf p
  let good := t.masters.filter fun m => s.ptpQualified p m && m.rank < s.ptpOwnRank
  let best := (good.foldl (fun (a : Option PtpMaster) m => match a with
    | none => some m
    | some b => if m.rank < b.rank then some m else some b) none).map PtpMaster.ident
  if best = t.parent then s
  else s.onPtp p fun t => { t with parent := best, syncAt := some (t.syncAt.getD s.now), sync := none, last := none, delay := if s.ptpPeer p then t.delay else none }

/-- An Announce at a port that may be slave (R213). One of the own clock, of an alternate master, or of a master 255 steps away is ignored. -/
def takeAnnounce (s : State) (p : Nat) (m : Bytes) : State :=
  if !s.mayBeSlave p || fieldAt m 20 8 = s.uid || ptpAlt m || m.length < 64 || 255 ≤ fieldAt m 61 2 then s
  else
    let old := (s.ptpOf p).masters
    let seen := ((old.find? (·.ident = ptpIdent m)).map PtpMaster.seen).getD []
    let r := ptpRank (byteAt m 47) (byteAt m 48) (byteAt m 49) (fieldAt m 50 2) (byteAt m 52) (fieldAt m 53 8) (fieldAt m 61 2) (ptpIdent m)
    let x : PtpMaster := ⟨ptpIdent m, r, bit (byteAt m 7) 3, s.now :: seen.take 1⟩
    let rest := old.filter fun y => y.ident ≠ x.ident && y.seen.head?.any fun t => decide (s.now ≤ t + 4 * ns (s.annNs p))
    (s.onPtp p fun t => { t with masters := x :: rest }).ptpDecide p

/-- Train time of the instant `t` as offsets take it: map time (R203), presented time before the first map (R202). -/
def ptpLocal (s : State) (t : Int) : Int := (s.mapAt t.toNat).getD (s.presentedAt t.toNat)

/-- A reference event of the PTP source by an offset from the master (R202, R203). -/
def takeSync (s : State) (p : Nat) (offset : Int) (tai : Bool) : State :=
  let s := s.refreshRef
  if !s.ptpOn p || s.refSrc ≠ 2 || s.get Reg.TIME_REF.PORT ≠ p || (s.time.map.isSome && !s.refActs) then s
  else
    let s : State := { s with time.refTai := tai }
    if s.time.map.isSome then s.refreshTai.takeOffset (-offset) else s.presetTime (-offset)

/-- A Sync event is complete: t1 with its corrections, ingress instant t2. Its offset is t2 − t1 − mean path delay (R203). -/
def endSync (s : State) (p : Nat) (t1 t2 : Int) : State :=
  let s := s.onPtp p fun t => { t with sync := none, last := some (t1, t2), syncAt := some s.now }
  match (s.ptpOf p).delay with
  | none => s
  | some d => s.takeSync p (wrapT (s.ptpLocal t2 - t1 - d)) ((s.ptpParent p).any PtpMaster.tai)

/-- A Sync, or the Follow_Up of one, at a slave port, from the master it follows; `at_` is the ingress instant (R203). -/
def takeSyncMsg (s : State) (p : Nat) (m : Bytes) (at_ : Int) : State :=
  if !s.ptpSlave p || (s.ptpOf p).parent ≠ some (ptpIdent m) || ptpAlt m || m.length < 44 then s
  else if ptpType m = 0 then
    if ptpTwo m then s.onPtp p fun t => { t with sync := some (ptpSeq m, at_, ptpCorr m) } else s.endSync p (ptpTime m + ptpCorr m) at_
  else match (s.ptpOf p).sync with
    | some (q, t2, c) => if q = ptpSeq m then s.endSync p (ptpTime m + c + ptpCorr m) t2 else s
    | none => s

/-- The message answers the own request with that sequenceId (requestingPortIdentity, offset 44). -/
def ptpAnswers (s : State) (p : Nat) (m : Bytes) : Option Int :=
  match (s.ptpOf p).req with
  | some (q, some t) => if 54 ≤ m.length && q = ptpSeq m && fieldAt m 44 8 = s.uid && fieldAt m 52 2 = p + 1 then some t else none
  | _ => none

/-- A Delay_Resp of the master followed: mean path delay ((t2 − t3) + (t4 − t1)) / 2. -/
def takeDelayResp (s : State) (p : Nat) (m : Bytes) : State :=
  if !s.ptpSlave p || s.ptpPeer p || (s.ptpOf p).parent ≠ some (ptpIdent m) then s
  else match s.ptpAnswers p m, (s.ptpOf p).last with
    | some t3, some (t1, t2) =>
      let d := tdivI (t2 - t3 + wrapT (ptpTime m - ptpCorr m - t1)) 2
      s.onPtp p fun t => { t with req := none, delay := some d }
    | _, _ => s

/-- The peer's delay: ((t4 − t1) − (t3 − t2)) / 2, `turn` being t3 − t2 with the corrections. -/
def endPdelay (s : State) (p : Nat) (t1 t4 turn : Int) : State :=
  s.onPtp p fun t => { t with req := none, resp := none, delay := some (tdivI (t4 - t1 - turn) 2) }

/-- A Pdelay_Resp at the instant `at_`, or the follow-up of a two-step one. -/
def takePdelayResp (s : State) (p : Nat) (m : Bytes) (at_ : Int) : State :=
  if !s.ptpPeer p then s
  else match s.ptpAnswers p m with
    | none => s
    | some t1 =>
      if ptpType m = 3 then
        if ptpTwo m then s.onPtp p fun t => { t with resp := some (ptpSeq m, ptpTime m - ptpCorr m, at_) } else s.endPdelay p t1 at_ (ptpCorr m)
      else match (s.ptpOf p).resp with
        | some (q, t2, t4) => if q = ptpSeq m then s.endPdelay p t1 t4 (wrapT (ptpTime m + ptpCorr m - t2)) else s
        | none => s

/-- A message from the consist network, stamped `ago` before now at the MAC (R212, R213, R216). Management messages and what Table 07.4 does not
list, the sdoId of IEEE 802.1AS among it (minorSdoId is a reserved byte in version 2.0), are discarded. -/
def takePtp (s : State) (p : Nat) (m : Bytes) (ago : Nat) : State :=
  if !s.ptpOn p || byteAt m 1 % 16 ≠ 2 || 16 ≤ byteAt m 0 || (16 ≤ byteAt m 1 && byteAt m 5 ≠ 0) || ptpDom m ≠ s.ptpDomain || m.length < 34 then s
  else
    let rx := s.presentedAt (s.now - ago) - ns (s.pcor p).1
    let at_ : Int := (s.now - ago : Nat) - ns (s.pcor p).1
    match ptpType m with
    | 1 =>
      if s.ptpPeer p || s.ptpSlave p then s
      else s.ptpSend p (s.ptpMsg p 9 0 (fieldAt m 8 8) (ptpSeq m) (s.logSync p) (ptpStamp rx ++ ptpPort m))
    | 2 =>
      if !s.ptpPeer p then s
      else
        let two := s.ptpTwoStep p
        s.ptpSend p (s.ptpMsg p 3 (if two then 0x200 else 0) (if two then 0 else fieldAt m 8 8) (ptpSeq m) 0x7F (ptpStamp rx ++ ptpPort m))
          (some (if two then 3 else 19, ptpSeq m)) (if two then fieldAt m 8 8 else 0)
    | 0 => s.takeSyncMsg p m at_
    | 8 => s.takeSyncMsg p m at_
    | 9 => s.takeDelayResp p m
    | 3 => s.takePdelayResp p m at_
    | 10 => s.takePdelayResp p m at_
    | 11 => s.takeAnnounce p m
    | _ => s

/-- The instant at which the port loses its master: no Announce for three announce intervals, or no Sync for three sync intervals (R205). -/
def ptpLossAt (s : State) (p : Nat) : Option Nat :=
  let t := s.ptpOf p
  let ann := (t.parent.bind fun k => t.masters.find? (·.ident = k)).bind fun m => m.seen.head?.map fun x => x + 3 * ns (s.annNs p)
  let syn := t.syncAt.map fun x => x + 3 * ns (s.syncNs p)
  match ann, syn with
  | some a, some b => some (min a b)
  | some a, none => some a
  | none, b => b

/-- The reference is lost at the instant `t` (R205): HOLDOVER, and σ_f is announced; the offsets taken before are spent. -/
def loseRef (s : State) (t : Nat) : State :=
  let s := { s.reach t with time.offsets := [] }
  (s.setRefst 3).announceSigma s.time.sigmaF

/-- The one-step message on the wire of port `p` takes its corrected egress stamp (R216). -/
def patchPtp (s : State) (p : Nat) : State :=
  match (s.port p).tx with
  | none => s
  | some x =>
    match x.item.ptp with
    | none => s
    | some (k, _) =>
      if k < 16 then s
      else
        let o := s.ptpOff p
        let d := ethData x.item.bytes
        let t := s.presentedAt x.stamp + ns (s.pcor p).2
        let m := d.drop o
        let m' :=
          if k = 16 then m.take 34 ++ ptpStamp t ++ m.drop 44
          else
            -- Pdelay_Resp: correctionField += t3 − t2, requestReceiptTimestamp 0
            let t2 := ofSecNs (fieldAt m 34 6) (fieldAt m 40 4)
            m.take 8 ++ natBe 8 (unsigned 64 (signed 64 (fieldAt m 8 8) + (t - t2) * 4096)) ++ (m.drop 16).take 18 ++ List.replicate 10 0 ++ m.drop 44
        let b := withFcs (d.take o ++ m')
        s.onPort p fun t => { t with tx := some { x with item := { x.item with bytes := b } } }

/-- What follows an event message with a stamp due: Follow_Up of a Sync, Pdelay_Resp_Follow_Up, the egress instant of an own request (R212). -/
def followUp (s : State) (p : Nat) (x : PTx) : State :=
  match x.item.ptp with
  | none => s
  | some (k, q) =>
    let t := ptpStamp (s.presentedAt x.stamp + ns (s.pcor p).2)
    if k = 1 || k = 2 then
      if (s.ptpOf p).req = some (q, none) then s.onPtp p fun t => { t with req := some (q, some ((x.stamp : Int) + ns (s.pcor p).2)) } else s
    else if k = 0 then s.ptpSend p (s.ptpMsg p 8 0 0 q (s.logSync p) t)
    else if k = 3 then
      let m := (ethData x.item.bytes).drop (s.ptpOff p)
      s.ptpSend p (s.ptpMsg p 10 0 x.item.cor q 0x7F (t ++ (m.drop 44).take 10))
    else s

end State

/-- PTP_MESSAGE_RECEIVED (R212). -/
def execPtpMessageReceived (port : Port) (message : Bytes) (ago : Nat) (s : State) : Host.Outcome State Fault Refusal :=
  liveActive s fun s =>
  done (s.takePtp port message ago)

/-- PTP_SYNC_RECEIVED (R203): the Sync, and the Follow_Up of a two-step one, at the PTP source. -/
def execPtpSyncReceived (port : Port) (sync : PtpSync) (ago : Nat) (s : State) : Host.Outcome State Fault Refusal :=
  liveActive s fun s =>
  done (if ptpType sync.message ≠ 0 then s
    else match sync.followUp with
      | none => s.takePtp port sync.message ago
      | some f => if ptpType f = 8 then (s.takePtp port sync.message ago).takePtp port f 0 else s.takePtp port sync.message ago)

/-- PTP_MESSAGE_INTERVAL (R212): a port that is not slave sends Announce and Sync; delay requests go out by the delay mechanism. -/
def execPtpMessageInterval (port : Port) (timer : PtpTimer) (s : State) : Host.Outcome State Fault Refusal :=
  liveActive s fun s =>
  done (if !s.ptpOn port then s
    else match timer with
      | .announce => if s.ptpSlave port then s else s.sendAnnounce port
      | .sync => if s.ptpSlave port then s else s.sendSync port
      | .delay => s.sendDelayReq port)

/-- REFERENCE_LOST (R205): no PPS edge for 1.5 s, no Announce for three announce intervals, or no Sync for three sync intervals. -/
def execReferenceLost (s : State) : Host.Outcome State Fault Refusal :=
  live s fun s =>
  let s := s.refreshRef
  done (if !s.refActs || s.get Reg.TIME_STAT.REFST = 3 then s
    else if s.refSrc = 1 then match s.time.ppsAt with
      | none => s
      | some t => s.loseRef (t + ms 1500)
    else
      let p := s.get Reg.TIME_REF.PORT
      match s.ptpLossAt p with
      | none => s
      | some t => (s.loseRef t).ptpDecide p)

/-- CONSIST_TX_FRAME_END (R273, R216). -/
def execConsistTxFrameEnd (port : Port) (s : State) : Host.Outcome State Fault Refusal :=
  liveActive s fun s =>
  done (match (s.patchPtp port).endEth port with
    | some (x, s) => (s.followUp port x).runEth port
    | none => s)

end Sys2Proof.Machine
end

