-- ==== Sys2Proof/Machine/Dispatch.lean ====
section
/-! DEFINITION. One arm per command: its meaning. -/

namespace Sys2Proof.Machine

/-- The effect of a command on everything but the queue. -/
def exec (i : Instr) (s : State) : Host.Outcome State Fault Refusal :=
  match i with
  | .registerWrite addr value => Sys2Proof.Machine.execRegisterWrite addr value s
  | .wpWriteTakesEffect block => Sys2Proof.Machine.execWpWriteTakesEffect block s
  | .wcpFirstWord addr value => Sys2Proof.Machine.execWcpFirstWord addr value s
  | .wcpComplementWord addr value => Sys2Proof.Machine.execWcpComplementWord addr value s
  | .wcpPairTimeout block => Sys2Proof.Machine.execWcpPairTimeout block s
  | .votedRegisterRead addr => Sys2Proof.Machine.execVotedRegisterRead addr s
  | .irqFlagClear addr value => Sys2Proof.Machine.execIrqFlagClear addr value s
  | .msixVectorUnmask vec => Sys2Proof.Machine.execMsixVectorUnmask vec s
  | .blockCounterClear addr value => Sys2Proof.Machine.execBlockCounterClear addr value s
  | .laneEnableWrite lane value => Sys2Proof.Machine.execLaneEnableWrite lane value s
  | .laneRetrainWrite lane value => Sys2Proof.Machine.execLaneRetrainWrite lane value s
  | .laneSignalDetect lane => Sys2Proof.Machine.execLaneSignalDetect lane s
  | .detectSignalStable lane => Sys2Proof.Machine.execDetectSignalStable lane s
  | .detectSignalAbsent lane => Sys2Proof.Machine.execDetectSignalAbsent lane s
  | .trainingSetReceived lane line chars => Sys2Proof.Machine.execTrainingSetReceived lane line chars s
  | .receiverAdapted lane ctle dfe1 dfe2 dfe3 => Sys2Proof.Machine.execReceiverAdapted lane ctle dfe1 dfe2 dfe3 s
  | .trainingTimeout lane => Sys2Proof.Machine.execTrainingTimeout lane s
  | .laneSignalLoss lane => Sys2Proof.Machine.execLaneSignalLoss lane s
  | .laneAlignmentLoss lane => Sys2Proof.Machine.execLaneAlignmentLoss lane s
  | .codeErrorThreshold lane seen => Sys2Proof.Machine.execCodeErrorThreshold lane seen s
  | .creditReturnReceived lane f1 f2 nf => Sys2Proof.Machine.execCreditReturnReceived lane f1 f2 nf s
  | .creditReturnTimer lane => Sys2Proof.Machine.execCreditReturnTimer lane s
  | .laneSfReceived lane debit => Sys2Proof.Machine.execLaneSfReceived lane debit s
  | .crsReqReceived lane code value check => Sys2Proof.Machine.execCrsReqReceived lane code value check s
  | .crsAckReceived lane code value check => Sys2Proof.Machine.execCrsAckReceived lane code value check s
  | .resyncBufferDrained lane => Sys2Proof.Machine.execResyncBufferDrained lane s
  | .crsDoneReceived lane code value check => Sys2Proof.Machine.execCrsDoneReceived lane code value check s
  | .creditResyncTimeout lane => Sys2Proof.Machine.execCreditResyncTimeout lane s
  | .strayDataCharacter lane char => Sys2Proof.Machine.execStrayDataCharacter lane char s
  | .preemptReceived lane bytes => Sys2Proof.Machine.execPreemptReceived lane bytes s
  | .resumeReceived lane debit => Sys2Proof.Machine.execResumeReceived lane debit s
  | .laneFrameEnd lane bytes good codeErrors => Sys2Proof.Machine.execLaneFrameEnd lane bytes good codeErrors s
  | .txSourceStall lane => Sys2Proof.Machine.execTxSourceStall lane s
  | .laneEnergyWake lane mv ns => Sys2Proof.Machine.execLaneEnergyWake lane mv ns s
  | .frameDecision lane bytes => Sys2Proof.Machine.execFrameDecision lane bytes s
  | .egressFrameStart lane => Sys2Proof.Machine.execEgressFrameStart lane s
  | .expressIntervalStart lane => Sys2Proof.Machine.execExpressIntervalStart lane s
  | .probeSendTimer lane => Sys2Proof.Machine.execProbeSendTimer lane s
  | .probeReceived lane frame => Sys2Proof.Machine.execProbeReceived lane frame s
  | .quarantineExpiry vend => Sys2Proof.Machine.execQuarantineExpiry vend s
  | .probeAnswerTimeout lane => Sys2Proof.Machine.execProbeAnswerTimeout lane s
  | .leadInputDebounced level => Sys2Proof.Machine.execLeadInputDebounced level s
  | .inauEnWrite value => Sys2Proof.Machine.execInauEnWrite value s
  | .inauLeadmaskWrite value => Sys2Proof.Machine.execInauLeadmaskWrite value s
  | .inauReinauWrite value => Sys2Proof.Machine.execInauReinauWrite value s
  | .waveStartReceived lane frame => Sys2Proof.Machine.execWaveStartReceived lane frame s
  | .countRelayStart lane head => Sys2Proof.Machine.execCountRelayStart lane head s
  | .waveCountReceived lane frame good => Sys2Proof.Machine.execWaveCountReceived lane frame good s
  | .agreeReceived lane frame => Sys2Proof.Machine.execAgreeReceived lane frame s
  | .disagreeReceived lane frame => Sys2Proof.Machine.execDisagreeReceived lane frame s
  | .daybreakReceived lane frame ago => Sys2Proof.Machine.execDaybreakReceived lane frame ago s
  | .mergeDaybreakReceived lane frame ago => Sys2Proof.Machine.execMergeDaybreakReceived lane frame ago s
  | .outageGraceExpiry vend => Sys2Proof.Machine.execOutageGraceExpiry vend s
  | .compact slot => Sys2Proof.Machine.execCompact slot s
  | .inauMbselWrite value => Sys2Proof.Machine.execInauMbselWrite value s
  | .guardianPoint fwd => Sys2Proof.Machine.execGuardianPoint fwd s
  | .ownWindowOpen fwd => Sys2Proof.Machine.execOwnWindowOpen fwd s
  | .subscriptionMaxageExpiry entry => Sys2Proof.Machine.execSubscriptionMaxageExpiry entry s
  | .schdModereqGo value => Sys2Proof.Machine.execSchdModereqGo value s
  | .schdModedescWrite mode value => Sys2Proof.Machine.execSchdModedescWrite mode value s
  | .schdTableLoad value => Sys2Proof.Machine.execSchdTableLoad value s
  | .schdTableStore value => Sys2Proof.Machine.execSchdTableStore value s
  | .pdreqSendTimer lane => Sys2Proof.Machine.execPdreqSendTimer lane s
  | .pdreqReceived lane frame ago stamped => Sys2Proof.Machine.execPdreqReceived lane frame ago stamped s
  | .pdrspReceived lane frame ago => Sys2Proof.Machine.execPdrspReceived lane frame ago s
  | .syncWorstClear value => Sys2Proof.Machine.execSyncWorstClear value s
  | .ptpSyncReceived port sync ago => Sys2Proof.Machine.execPtpSyncReceived port sync ago s
  | .ptpMessageReceived port message ago => Sys2Proof.Machine.execPtpMessageReceived port message ago s
  | .ptpMessageInterval port timer => Sys2Proof.Machine.execPtpMessageInterval port timer s
  | .todArmWrite value => Sys2Proof.Machine.execTodArmWrite value s
  | .timeAcceptWrite value => Sys2Proof.Machine.execTimeAcceptWrite value s
  | .tpoArmWrite unit value => Sys2Proof.Machine.execTpoArmWrite unit value s
  | .compareUnitFire unit => Sys2Proof.Machine.execCompareUnitFire unit s
  | .tpoPulseEnd unit => Sys2Proof.Machine.execTpoPulseEnd unit s
  | .captureEdge input rising => Sys2Proof.Machine.execCaptureEdge input rising s
  | .timeMbselWrite value => Sys2Proof.Machine.execTimeMbselWrite value s
  | .consistLinkUp port speed fullDuplex => Sys2Proof.Machine.execConsistLinkUp port speed fullDuplex s
  | .consistLinkDown port sync => Sys2Proof.Machine.execConsistLinkDown port sync s
  | .consistSteeringDecision port latch ago => Sys2Proof.Machine.execConsistSteeringDecision port latch ago s
  | .consistBufferDraw port bytes => Sys2Proof.Machine.execConsistBufferDraw port bytes s
  | .consistFrameEnd port bytes ending ago => Sys2Proof.Machine.execConsistFrameEnd port bytes ending ago s
  | .filterRuleCommit port rule value => Sys2Proof.Machine.execFilterRuleCommit port rule value s
  | .consistTxFrameStart port => Sys2Proof.Machine.execConsistTxFrameStart port s
  | .consistTxFrameEnd port => Sys2Proof.Machine.execConsistTxFrameEnd port s
  | .telegramLaunch port => Sys2Proof.Machine.execTelegramLaunch port s
  | .preemptionVerifyResult port ok => Sys2Proof.Machine.execPreemptionVerifyResult port ok s
  | .pauseReceived port quanta => Sys2Proof.Machine.execPauseReceived port quanta s
  | .pauseHoldExpiry port => Sys2Proof.Machine.execPauseHoldExpiry port s
  | .pauseRepeatTimer port => Sys2Proof.Machine.execPauseRepeatTimer port s
  | .pauseXonReached port => Sys2Proof.Machine.execPauseXonReached port s
  | .pauseWatchdogTrip port => Sys2Proof.Machine.execPauseWatchdogTrip port s
  | .pauseWatchdogEnd port => Sys2Proof.Machine.execPauseWatchdogEnd port s
  | .txRingFetchStart port queue descs => Sys2Proof.Machine.execTxRingFetchStart port queue descs s
  | .ringEnableWrite port tx queue value => Sys2Proof.Machine.execRingEnableWrite port tx queue value s
  | .ringIrqModeration port tx queue => Sys2Proof.Machine.execRingIrqModeration port tx queue s
  | .mdioFrameStart port value => Sys2Proof.Machine.execMdioFrameStart port value s
  | .mdioFrameEnd port driven data => Sys2Proof.Machine.execMdioFrameEnd port driven data s
  | .keyCodeDebounced keyA keyB => Sys2Proof.Machine.execKeyCodeDebounced keyA keyB s
  | .taskInstanceComplete task => Sys2Proof.Machine.execTaskInstanceComplete task s
  | .telegramAssembly station => Sys2Proof.Machine.execTelegramAssembly station s
  | .ioInTelegramReceived port frame => Sys2Proof.Machine.execIoInTelegramReceived port frame s
  | .stationAccwinExpiry station => Sys2Proof.Machine.execStationAccwinExpiry station s
  | .cyclEnWrite value => Sys2Proof.Machine.execCyclEnWrite value s
  | .stationCfgallWrite value => Sys2Proof.Machine.execStationCfgallWrite value s
  | .stationTableLoad value => Sys2Proof.Machine.execStationTableLoad value s
  | .stationTableStore value => Sys2Proof.Machine.execStationTableStore value s
  | .processImageHostWrite offset data => Sys2Proof.Machine.execProcessImageHostWrite offset data s
  | .loadWindowWrite offset data => Sys2Proof.Machine.execLoadWindowWrite offset data s
  | .validate value => Sys2Proof.Machine.execValidate value s
  | .store value => Sys2Proof.Machine.execStore value s
  | .storeComplete ok => Sys2Proof.Machine.execStoreComplete ok s
  | .swap value => Sys2Proof.Machine.execSwap value s
  | .setstart value => Sys2Proof.Machine.execSetstart value s
  | .reload value => Sys2Proof.Machine.execReload value s
  | .cancel value => Sys2Proof.Machine.execCancel value s
  | .forceEntryStore value => Sys2Proof.Machine.execForceEntryStore value s
  | .forceClearAll value => Sys2Proof.Machine.execForceClearAll value s
  | .forceEntryLoad value => Sys2Proof.Machine.execForceEntryLoad value s
  | .twinHbReceived frame => Sys2Proof.Machine.execTwinHbReceived frame s
  | .consistHbReceived port frame => Sys2Proof.Machine.execConsistHbReceived port frame s
  | .twinTakeWrite value => Sys2Proof.Machine.execTwinTakeWrite value s
  | .twinYieldWrite value => Sys2Proof.Machine.execTwinYieldWrite value s
  | .twinEntryReceived frame => Sys2Proof.Machine.execTwinEntryReceived frame s
  | .twinRelayReceived frame => Sys2Proof.Machine.execTwinRelayReceived frame s
  | .mirFrameReceived frame => Sys2Proof.Machine.execMirFrameReceived frame s
  | .mirrorSealReceived frame => Sys2Proof.Machine.execMirrorSealReceived frame s
  | .twinWakeDetected ns => Sys2Proof.Machine.execTwinWakeDetected ns s
  | .restDuskWrite value => Sys2Proof.Machine.execRestDuskWrite value s
  | .duskCallReceived lane frame => Sys2Proof.Machine.execDuskCallReceived lane frame s
  | .duskTokenReceived lane frame => Sys2Proof.Machine.execDuskTokenReceived lane frame s
  | .duskVerdictReceived lane frame => Sys2Proof.Machine.execDuskVerdictReceived lane frame s
  | .duskRetractReceived lane frame => Sys2Proof.Machine.execDuskRetractReceived lane frame s
  | .wakeGuardSend lane => Sys2Proof.Machine.execWakeGuardSend lane s
  | .dawnFrameReceived lane frame => Sys2Proof.Machine.execDawnFrameReceived lane frame s
  | .wakeInputActive active => Sys2Proof.Machine.execWakeInputActive active s
  | .restSaveWrite value => Sys2Proof.Machine.execRestSaveWrite value s
  | .suppressionTimeout cls => Sys2Proof.Machine.execSuppressionTimeout cls s
  | .recordLineWritten ok => Sys2Proof.Machine.execRecordLineWritten ok s
  | .operatingTimeCalibrate ppm => Sys2Proof.Machine.execOperatingTimeCalibrate ppm s
  | .hostRecordWrite value => Sys2Proof.Machine.execHostRecordWrite value s
  | .recdFreezePair value => Sys2Proof.Machine.execRecdFreezePair value s
  | .recordCursorSelect value ecc => Sys2Proof.Machine.execRecordCursorSelect value ecc s
  | .recordCursorAdvance ecc => Sys2Proof.Machine.execRecordCursorAdvance ecc s
  | .rateClassStore value => Sys2Proof.Machine.execRateClassStore value s
  | .rateClassLoad value => Sys2Proof.Machine.execRateClassLoad value s
  | .mirrorCopy ok => Sys2Proof.Machine.execMirrorCopy ok s
  | .mirrorRetry ok => Sys2Proof.Machine.execMirrorRetry ok s
  | .hostRead tag bar addr dws fbe lbe ecc => Sys2Proof.Machine.execHostRead tag bar addr dws fbe lbe ecc s
  | .hostPostedWrite bar addr data fbe lbe => Sys2Proof.Machine.execHostPostedWrite bar addr data fbe lbe s
  | .farTimeout id => Sys2Proof.Machine.execFarTimeout id s
  | .fseqFenceRead tag => Sys2Proof.Machine.execFseqFenceRead tag s
  | .brdgFselWrite value => Sys2Proof.Machine.execBrdgFselWrite value s
  | .pcieReset kind => Sys2Proof.Machine.execPcieReset kind s
  | .pcieLinkChange up speed width => Sys2Proof.Machine.execPcieLinkChange up speed width s
  | .farLockRequest value => Sys2Proof.Machine.execFarLockRequest value s
  | .farLockGrant ok => Sys2Proof.Machine.execFarLockGrant ok s
  | .semaphoreRead who sem => Sys2Proof.Machine.execSemaphoreRead who sem s
  | .semaphoreReleaseWrite who sem value => Sys2Proof.Machine.execSemaphoreReleaseWrite who sem value s
  | .stackWriteReceived port packet ecc => Sys2Proof.Machine.execStackWriteReceived port packet ecc s
  | .stackReadReceived port packet ecc => Sys2Proof.Machine.execStackReadReceived port packet ecc s
  | .stackCompletionReceived port packet => Sys2Proof.Machine.execStackCompletionReceived port packet s
  | .stackFrameReceived port packet => Sys2Proof.Machine.execStackFrameReceived port packet s
  | .stackMsgReceived port packet => Sys2Proof.Machine.execStackMsgReceived port packet s
  | .stackLockReceived port packet => Sys2Proof.Machine.execStackLockReceived port packet s
  | .stackPortDown port trained peer => Sys2Proof.Machine.execStackPortDown port trained peer s
  | .stackResetWrite value => Sys2Proof.Machine.execStackResetWrite value s
  | .nop slot => Sys2Proof.Machine.execNop slot s
  | .ident slot => Sys2Proof.Machine.execIdent slot s
  | .regrd slot => Sys2Proof.Machine.execRegrd slot s
  | .regwr slot => Sys2Proof.Machine.execRegwr slot s
  | .mbrd slot => Sys2Proof.Machine.execMbrd slot s
  | .prgload slot => Sys2Proof.Machine.execPrgload slot s
  | .prgop slot => Sys2Proof.Machine.execPrgop slot s
  | .force slot => Sys2Proof.Machine.execForce slot s
  | .recwr slot => Sys2Proof.Machine.execRecwr slot s
  | .recrd slot => Sys2Proof.Machine.execRecrd slot s
  | .freeze slot => Sys2Proof.Machine.execFreeze slot s
  | .duskreq slot => Sys2Proof.Machine.execDuskreq slot s
  | .save slot => Sys2Proof.Machine.execSave slot s
  | .reinau slot => Sys2Proof.Machine.execReinau slot s
  | .modereq slot => Sys2Proof.Machine.execModereq slot s
  | .keyset slot => Sys2Proof.Machine.execKeyset slot s
  | .keydel slot => Sys2Proof.Machine.execKeydel slot s
  | .rsend slot => Sys2Proof.Machine.execRsend slot s
  | .cmdWaitTimeout slot => Sys2Proof.Machine.execCmdWaitTimeout slot s
  | .rsendTimeout slot => Sys2Proof.Machine.execRsendTimeout slot s
  | .cmdFrameReceived lane frame => Sys2Proof.Machine.execCmdFrameReceived lane frame s
  | .cplFrameReceived lane frame => Sys2Proof.Machine.execCplFrameReceived lane frame s
  | .cmdEnableWrite value => Sys2Proof.Machine.execCmdEnableWrite value s
  | .keyArm value => Sys2Proof.Machine.execKeyArm value s
  | .blockReset value => Sys2Proof.Machine.execBlockReset value s
  | .snapshotNow value => Sys2Proof.Machine.execSnapshotNow value s
  | .snapinEdge rising => Sys2Proof.Machine.execSnapinEdge rising s
  | .midnightRequest value => Sys2Proof.Machine.execMidnightRequest value s
  | .midnFrameReceived lane frame => Sys2Proof.Machine.execMidnFrameReceived lane frame s
  | .telemetrySweep tj vin vio1 vio2 vcore sp => Sys2Proof.Machine.execTelemetrySweep tj vin vio1 vio2 vcore sp s
  | .telemetryAlarmEnd quantity => Sys2Proof.Machine.execTelemetryAlarmEnd quantity s
  | .scrubStep region addr err => Sys2Proof.Machine.execScrubStep region addr err s
  | .laneCalibrationStart lane => Sys2Proof.Machine.execLaneCalibrationStart lane s
  | .hkpLcalWrite value => Sys2Proof.Machine.execHkpLcalWrite value s
  | .laneCalibrationComplete lane result => Sys2Proof.Machine.execLaneCalibrationComplete lane result s
  | .hkpMpatWrite value => Sys2Proof.Machine.execHkpMpatWrite value s
  | .mramPatrolSector region line corrected uncorrectable last => Sys2Proof.Machine.execMramPatrolSector region line corrected uncorrectable last s
  | .resetRelease stack half boot flash => Sys2Proof.Machine.execResetRelease stack half boot flash s
  | .pinReset low => Sys2Proof.Machine.execPinReset low s
  | .twilightThermalHold tj => Sys2Proof.Machine.execTwilightThermalHold tj s
  | .vioBankLoss bank => Sys2Proof.Machine.execVioBankLoss bank s
  | .vioBankRestore bank => Sys2Proof.Machine.execVioBankRestore bank s
  | .paceLevelWrite value => Sys2Proof.Machine.execPaceLevelWrite value s
  | .retainedImageSave value => Sys2Proof.Machine.execRetainedImageSave value s
  | .hkpSselWrite value => Sys2Proof.Machine.execHkpSselWrite value s
  | .giantByteReceived lane bytes => Sys2Proof.Machine.execGiantByteReceived lane bytes s
  | .consistGiantByte port bytes => Sys2Proof.Machine.execConsistGiantByte port bytes s
  | .hostFetchComplete tag data => Sys2Proof.Machine.execHostFetchComplete tag data s
  | .pcieConfigRequest tag write item value => Sys2Proof.Machine.execPcieConfigRequest tag write item value s
  | .cycleBoundary => Sys2Proof.Machine.execCycleBoundary s
  | .poolConservationCheck => Sys2Proof.Machine.execPoolConservationCheck s
  | .fwdPoolaRead => Sys2Proof.Machine.execFwdPoolaRead s
  | .tStartupExpiry => Sys2Proof.Machine.execTStartupExpiry s
  | .tSettleExpiry => Sys2Proof.Machine.execTSettleExpiry s
  | .rosterComputeComplete => Sys2Proof.Machine.execRosterComputeComplete s
  | .tWaveExpiry => Sys2Proof.Machine.execTWaveExpiry s
  | .tAgreeExpiry => Sys2Proof.Machine.execTAgreeExpiry s
  | .rephaseBoundary => Sys2Proof.Machine.execRephaseBoundary s
  | .modeann => Sys2Proof.Machine.execModeann s
  | .pendingModeLapse => Sys2Proof.Machine.execPendingModeLapse s
  | .catchUpComplete => Sys2Proof.Machine.execCatchUpComplete s
  | .timenot => Sys2Proof.Machine.execTimenot s
  | .ppsEdge => Sys2Proof.Machine.execPpsEdge s
  | .referenceLost => Sys2Proof.Machine.execReferenceLost s
  | .steeringIntervalEnd => Sys2Proof.Machine.execSteeringIntervalEnd s
  | .captureFifoPop => Sys2Proof.Machine.execCaptureFifoPop s
  | .taskCommit => Sys2Proof.Machine.execTaskCommit s
  | .validateComplete => Sys2Proof.Machine.execValidateComplete s
  | .twinHbTick => Sys2Proof.Machine.execTwinHbTick s
  | .consistHbSend => Sys2Proof.Machine.execConsistHbSend s
  | .twinPathSilent => Sys2Proof.Machine.execTwinPathSilent s
  | .consistPathSilent => Sys2Proof.Machine.execConsistPathSilent s
  | .seekTimeout => Sys2Proof.Machine.execSeekTimeout s
  | .rolenot => Sys2Proof.Machine.execRolenot s
  | .verdict => Sys2Proof.Machine.execVerdict s
  | .duskWakeReason => Sys2Proof.Machine.execDuskWakeReason s
  | .duskRoundTimeout => Sys2Proof.Machine.execDuskRoundTimeout s
  | .duskConsentTimeout => Sys2Proof.Machine.execDuskConsentTimeout s
  | .duskDimming => Sys2Proof.Machine.execDuskDimming s
  | .duskCommit => Sys2Proof.Machine.execDuskCommit s
  | .duskSleepEntry => Sys2Proof.Machine.execDuskSleepEntry s
  | .heldDawnStart => Sys2Proof.Machine.execHeldDawnStart s
  | .alarmWake => Sys2Proof.Machine.execAlarmWake s
  | .dawnWakePatternEnd => Sys2Proof.Machine.execDawnWakePatternEnd s
  | .configSaveComplete => Sys2Proof.Machine.execConfigSaveComplete s
  | .recordStage => Sys2Proof.Machine.execRecordStage s
  | .lossRecordStage => Sys2Proof.Machine.execLossRecordStage s
  | .recordWriteStart => Sys2Proof.Machine.execRecordWriteStart s
  | .recorderScanComplete => Sys2Proof.Machine.execRecorderScanComplete s
  | .checkpointWrite => Sys2Proof.Machine.execCheckpointWrite s
  | .freezeExpiry => Sys2Proof.Machine.execFreezeExpiry s
  | .fenceComplete => Sys2Proof.Machine.execFenceComplete s
  | .prefetchFlush => Sys2Proof.Machine.execPrefetchFlush s
  | .prefetchExpiry => Sys2Proof.Machine.execPrefetchExpiry s
  | .farLockRelease => Sys2Proof.Machine.execFarLockRelease s
  | .farLockTimeout => Sys2Proof.Machine.execFarLockTimeout s
  | .stackUplinkTimeout => Sys2Proof.Machine.execStackUplinkTimeout s
  | .cmdSubmissionFetch => Sys2Proof.Machine.execCmdSubmissionFetch s
  | .commandReset => Sys2Proof.Machine.execCommandReset s
  | .keyArmExpiry => Sys2Proof.Machine.execKeyArmExpiry s
  | .midnightFire => Sys2Proof.Machine.execMidnightFire s
  | .scrubRepair => Sys2Proof.Machine.execScrubRepair s
  | .mramPatrolPeriod => Sys2Proof.Machine.execMramPatrolPeriod s
  | .activityStart => Sys2Proof.Machine.execActivityStart s
  | .vinLoss => Sys2Proof.Machine.execVinLoss s
  | .powerOnReset => Sys2Proof.Machine.execPowerOnReset s
  | .watchdogReset => Sys2Proof.Machine.execWatchdogReset s
  | .thermalReset => Sys2Proof.Machine.execThermalReset s
  | .warmResetHoldoffEnd => Sys2Proof.Machine.execWarmResetHoldoffEnd s
  | .twilightWatchdog => Sys2Proof.Machine.execTwilightWatchdog s
  | .regulatorCurrentLimit => Sys2Proof.Machine.execRegulatorCurrentLimit s
  | .paceChangeComplete => Sys2Proof.Machine.execPaceChangeComplete s
  | .recdOpsecRead => Sys2Proof.Machine.execRecdOpsecRead s
  | .daybreakBoundary => Sys2Proof.Machine.execDaybreakBoundary s
  | .noagreeRoundSpacing => Sys2Proof.Machine.execNoagreeRoundSpacing s
  | .nwakeoutRelease => Sys2Proof.Machine.execNwakeoutRelease s
  | .thermalResetRelease => Sys2Proof.Machine.execThermalResetRelease s
  | .twilightThermalHoldEnd => Sys2Proof.Machine.execTwilightThermalHoldEnd s

end Sys2Proof.Machine
end

