-- ==== Sys2Proof/Safety.lean ====
section
/-! DEFINITION. What the statements call a sound state: outputs that follow the registers, tables and memories in canonical form. -/

namespace Sys2Proof

open Machine

/-- Keys strictly rising from `lo` on. -/
def keysRise : Nat → List (Nat × Nat) → Bool
  | _, [] => true
  | lo, (k, _) :: r => lo ≤ k && keysRise (k + 1) r

/-- The register table is canonical: keys strictly rising. -/
def regsRise (s : State) : Bool := keysRise 0 s.regs

/-- Every memory of the process image is canonical. -/
def imageWf (s : State) : Bool :=
  s.img.recv.wf && s.img.latched.wf && s.img.work.wf && s.img.comm.wf && s.img.retained.wf && s.img.nonret.wf

/-- The retained copies in MRAM are canonical (R493). -/
def copiesWf (s : State) : Bool := s.rest.retA.all (·.area.wf) && s.rest.retB.all (·.area.wf)

/-- The counters of Table 05.9. -/
def schdCounters : List Fld :=
  [Reg.SCHD_POLEARLY.COUNT, Reg.SCHD_POLLATE.COUNT, Reg.SCHD_NOWIN.COUNT, Reg.SCHD_NOCORR.COUNT, Reg.SCHD_STALE.COUNT,
   Reg.SCHD_SILENT.COUNT, Reg.SCHD_GATE.COUNT, Reg.SCHD_PUBSKIP.COUNT, Reg.SCHD_SUBLEN.COUNT, Reg.SCHD_SUBSTALE.COUNT]

/-- The pins and INTA follow the registers (R374, R409, R455, R496, GLB_STAT.NFAULT). -/
def pinsFollow (s : State) : Bool :=
  (s.msix.inta == (s.hostOpen && !s.msix.enable && (List.range 64).any s.vecPending))
  && (s.pwr.intn == s.irqAny)
  && (s.pwr.role == s.roleHigh)
  && (s.flag Reg.GLB_STAT.NFAULT == (s.flag Reg.GLB_FAULT.RWV || s.flag Reg.GLB_FAULT.RECFAIL || s.flag Reg.GLB_FAULT.SUMERR))

/-- No completion waits for its moderation time to pass that has already passed (CMD_IMOD). -/
def cplSignalled (s : State) : Bool := s.cmd.mods.2.all fun t => s.now < t

/-- The code of the newest event. -/
def newest (s : State) : Option Nat := s.events.getLast?.map (·.code)

/-- The outputs that only follow registers and time (R455, R496, chapter 16): INTA, MSI-X messages, INTn, ROLE, nFAULT, and the MSG by which a
stack member tells its master of its INTn (sub code 1 of log entry 26, R427). -/
def outFollows : Out → Bool
  | .inta _ => true
  | .msix .. => true
  | .pin name _ => name == "INTn" || name == "ROLE" || name == "nFAULT"
  | .stack 0 p => spKind p == 5 && byteAt (spPay p) 0 == 1
  | _ => false

/-- Between `s` and `t` the outputs `l` left the chip, but for those that a lost bank or a hot line mutes, and no other output besides those that
follow the registers. -/
def sent (s t : State) (l : List Out) : Prop :=
  ∃ o, t.outs = s.outs ++ o ∧ (o.filter fun x => !outFollows x) = l.filter fun x => !s.mutes x

/-- Every register field but those listed reads as before; CMD_IRQ.CPL and GLB_STAT.NFAULT follow other state. -/
def regsBut (s t : State) (fs : List Fld) : Prop :=
  ∀ f : Fld, f.key ∉ (Reg.GLB_STAT.NFAULT :: Reg.CMD_IRQ.CPL :: fs).map Fld.key → t.get f = s.get f

/-- Every byte of the process image, the program banks, the recorder, the configuration store and the snapshot banks stands. -/
def memSame (s t : State) : Prop := t.img = s.img ∧ t.prg = s.prg ∧ t.recd = s.recd ∧ t.rest = s.rest ∧ t.hkp = s.hkp

/-- Nothing waits at the host bridge: no host request, no packet or access held back by a lock, no far operation for the link, no lock to ask for. -/
def bridgeIdle (s : State) : Bool :=
  s.brdg.held.isEmpty && s.brdg.waiting.isEmpty && s.brdg.semWait.isEmpty && s.brdg.behind.isEmpty && s.brdg.retryAt.isNone
    && s.brdg.reads.all (fun x : FarOp => x.sent) && s.brdg.writes.all (fun x : FarOp => x.sent)

/-- Lane `n` has no frame to send: none on the wire, none preempted, none queued. -/
def txIdle (s : State) (n : Nat) : Bool :=
  (s.lane n).tx.isNone && (s.lane n).txHeld.isNone && (s.lane n).qx.isEmpty && (s.lane n).qm.isEmpty && (s.lane n).qb.isEmpty

/-- Lane `n` has nothing open: no frame to send and none being received or held. -/
def laneIdle (s : State) (n : Nat) : Bool := txIdle s n && (s.lane n).rx.isNone && (s.lane n).rxHeld.isNone

/-- The joint of end `e` is not working and neither of its lanes is, so that a lane that leaves ACTIVE changes no joint (R43, R70). -/
def noJoint (s : State) (e : Nat) : Bool :=
  !(s.vend e).working && !(s.lane (laneAt e 0)).working && !(s.lane (laneAt e 1)).working && (s.lane (laneAt e 1)).heldOut != 3

/-- Where a lane that leaves ACTIVE goes: DOWN, or DISABLED where EN is 0 or its end is held (R42, R132, R425, R483). -/
def restOf (s : State) (n : Nat) : LaneSt :=
  if s.flag (Reg.LANE_CTRL.EN.at n) && !s.endHeld (endOf n) then .down else .disabled

/-- A retrain of lane `n` from `s` to `t`, with nothing open and its joint not working (R41 to R43, R177): the lane rests, the credits are
discarded, the path delay is no longer measured, the retrain is counted, signalled and recorded. -/
def retrained (s t : State) (n : Nat) : Prop :=
  t.laneSt n = restOf s n ∧ newest t = some 0x0102 ∧ t.get (Reg.LANE_RETRAIN.COUNT.at n) = min (s.get (Reg.LANE_RETRAIN.COUNT.at n) + 1) 0xFFFFFFFF
    ∧ t.flag (Reg.LANE_IRQ.DOWN.at n) = true ∧ t.get (Reg.LANE_STAT.EQDONE.at n) = 0 ∧ t.get (Reg.LANE_STAT.RX_EMPTY.at n) = 1 ∧ t.get (Reg.LANE_STAT.PREOPEN.at n) = 0
    ∧ t.get (Reg.LANE_CREDIT.TXD.at n) = 0 ∧ t.get (Reg.LANE_CREDIT.TXF.at n) = 0 ∧ t.get (Reg.LANE_CREDIT.RXA.at n) = 0 ∧ t.get (Reg.LANE_CREDIT.RXOCC.at n) = 0
    ∧ t.get (Reg.SYNC_PD.MEAS.ix n) = 0 ∧ t.get (Reg.SYNC_PD.PD.ix n) = 0 ∧ (t.lane n).working = false ∧ (t.lane n).probeAt = none ∧ memSame s t

/-- The packet `c` in slot `n` may execute now with the opcode `op`: it came from the host or the stack, its header fields are 0, its length
fits the opcode (R433, R438). -/
def turn (s : State) (n : Fin 64) (op : Nat) (c : CmdSlot) : Bool :=
  decide (s.cmdTurn n op = some c) && !c.src.isRemote && byteAt c.packet 6 == 0 && byteAt c.packet 7 == 0 && plenOk c.packet

/-- A sound state: what every step leaves behind. -/
def sound (s : State) : Bool := pinsFollow s && cplSignalled s

/-- The commands of the supply and of the chip's resets (Tables 18.1 and 18.7): they act whatever runs. -/
def Instr.supply : Instr → Bool
  | .vinLoss => true
  | .powerOnReset => true
  | .resetRelease .. => true
  | .pinReset .. => true
  | .thermalResetRelease => true
  | _ => false

/-- The commands that can wake a node out of DUSK-SLEEP (R370, R376). -/
def Instr.wakes : Instr → Bool
  | .heldDawnStart => true
  | .wakeInputActive .. => true
  | .alarmWake => true
  | .laneEnergyWake .. => true
  | .twinWakeDetected .. => true
  | .keyCodeDebounced .. => true
  | .leadInputDebounced .. => true
  | _ => false

/-- The commands of the always-on domain and the wake detectors, which DUSK-SLEEP leaves running (Table 01.4). -/
def Instr.aon : Instr → Bool
  | .vioBankLoss .. => true
  | .vioBankRestore .. => true
  | .duskSleepEntry => true
  | .nwakeoutRelease => true
  | c => c.wakes

end Sys2Proof
end

