-- ==== Sys2Proof/Certificates/Slice0/Obligations.lean ====
section
/-! DEFINITION. What the provers are asked to prove: one statement per definition, from the rules of spec/. -/

open Sys2Proof Sys2Proof.Machine

/-- Posted register writes wait and exclude one another. A write to a WP register that is not busy is queued behind the posted writes and its BUSY flag is 1; one that finds BUSY at 1 leaves the posted writes as they are and sets the WIGN flag of the block; when the write posted to REST_ALARM takes effect it leaves the queue, and REST_ALARM holds its word with BUSY at 0; the oldest write posted to any block leaves the queue and acts as its register does, and without one posted to the block nothing changes; a word written to any register acts as the model's function of that register says. The posted queue, a row as the whole write and the instant at which a posted write takes effect are the model’s reading (log entry 9). -/
def Obligations.PostedWrites : Prop :=
  (∀ (a v : Word) (s : State), s.awake = true → isWp a.toNat = true → s.busyAt a.toNat = false →
    ∃ t, exec (.registerWrite a v) s = .next t ∧ t.glb.posted = s.glb.posted ++ [(a.toNat, v.toNat)]
      ∧ (∀ f, busyOf a.toNat = some f → t.get f = 1) ∧ t.img = s.img ∧ t.prg = s.prg ∧ t.recd = s.recd) ∧
  (∀ (a v : Word) (s : State) (g : Fld), s.awake = true → isWp a.toNat = true → s.busyAt a.toNat = true → wignOf a.toNat = some g →
    ∃ t, exec (.registerWrite a v) s = .next t ∧ t.glb = s.glb ∧ t.get g = 1) ∧
  (∀ (w : Nat) (rest : List (Nat × Nat)) (s : State), s.awake = true → s.glb.posted = (0xA0010, w) :: rest →
    ∃ t, exec (.wpWriteTakesEffect 10) s = .next t ∧ t.glb.posted = rest ∧ t.get Reg.REST_ALARM.ALARM = w % 2 ^ 32
      ∧ t.get Reg.REST_STAT.BUSY = 0 ∧ t.events = s.events ∧ t.img = s.img ∧ t.prg = s.prg) ∧
  (∀ (b : Fin 16) (p : Nat × Nat) (s : State), s.awake = true → s.glb.posted.find? (fun p => p.1 / 0x10000 = b.val) = some p →
    exec (.wpWriteTakesEffect b) s = .next (({ s with glb.posted := s.glb.posted.erase p } : State).wpEffect p.1 p.2).settle) ∧
  (∀ (b : Fin 16) (s : State), s.awake = true → s.glb.posted.find? (fun p => p.1 / 0x10000 = b.val) = none → exec (.wpWriteTakesEffect b) s = .next s.settle) ∧
  (∀ (a v : Word) (s : State), s.awake = true → exec (.registerWrite a v) s = .next (s.regWrite a.toNat v.toNat 0).settle)

/-- RWG fields are judged against EN, read-only registers keep their values. While SCHD_CTRL.EN is 1 a write that would change an RWG field of SCHD_CFG leaves CYCLE and GUARD as they are and sets SCHD_STAT.WIGN; a write whose RWG fields equal the stored ones leaves WIGN as it is; while EN is 0 the write stores both fields and leaves WIGN as it is; a write to SCHD_SELF, whose fields are all RO, changes no register field. -/
def Obligations.AccessCodes : Prop :=
  (∀ (v : Word) (s : State), s.awake = true → s.flag Reg.SCHD_CTRL.EN = true →
    (s.get Reg.SCHD_CFG.CYCLE ≠ Reg.SCHD_CFG.CYCLE.of v.toNat ∨ s.get Reg.SCHD_CFG.GUARD ≠ Reg.SCHD_CFG.GUARD.of v.toNat) →
    ∃ t, exec (.registerWrite 0x30008 v) s = .next t ∧ t.get Reg.SCHD_CFG.CYCLE = s.get Reg.SCHD_CFG.CYCLE
      ∧ t.get Reg.SCHD_CFG.GUARD = s.get Reg.SCHD_CFG.GUARD ∧ t.get Reg.SCHD_STAT.WIGN = 1 ∧ t.events = s.events ∧ t.img = s.img) ∧
  (∀ (v : Word) (s : State), s.awake = true →
    s.get Reg.SCHD_CFG.CYCLE = Reg.SCHD_CFG.CYCLE.of v.toNat → s.get Reg.SCHD_CFG.GUARD = Reg.SCHD_CFG.GUARD.of v.toNat →
    ∃ t, exec (.registerWrite 0x30008 v) s = .next t ∧ t.get Reg.SCHD_STAT.WIGN = s.get Reg.SCHD_STAT.WIGN) ∧
  (∀ (v : Word) (s : State), s.awake = true → s.flag Reg.SCHD_CTRL.EN = false →
    ∃ t, exec (.registerWrite 0x30008 v) s = .next t ∧ t.get Reg.SCHD_CFG.CYCLE = v.toNat / 2 ^ 24 % 2 ^ 7
      ∧ t.get Reg.SCHD_CFG.GUARD = v.toNat % 2 ^ 11 ∧ t.get Reg.SCHD_STAT.WIGN = s.get Reg.SCHD_STAT.WIGN ∧ t.events = s.events ∧ t.img = s.img) ∧
  (∀ (v : Word) (s : State) (f : Fld), s.awake = true → f.key ≠ Reg.GLB_STAT.NFAULT.key → f.key ≠ Reg.CMD_IRQ.CPL.key →
    ∃ t, exec (.registerWrite 0x3000C v) s = .next t ∧ t.get f = s.get f ∧ t.glb = s.glb ∧ t.events = s.events ∧ t.img = s.img)

/-- A WCP pair opens, completes, fails and expires. The first word of a pair opens it for 10 µs; if a pair of the block is open it is discarded and CPERR is set; a matching complement within 10 µs closes the pair and performs the register's effect with the first word, and for CMD_KEYARM with code 0xA5 the slot is armed; a complement write without an open pair, or that does not match, discards the pair of the block and sets CPERR; a pair whose 10 µs have passed is discarded with CPERR, and without an open pair the timeout changes nothing; an address that is no WCP register opens and closes no pair. -/
def Obligations.WriteConfirmPairs : Prop :=
  (∀ (a v : Word) (s : State), s.awake = true → isWcp a.toNat = true → s.pairOf (a.toNat / 0x10000) = none →
    ∃ t, exec (.wcpFirstWord a v) s = .next t ∧ t.glb.pairs = s.glb.pairs ++ [(a.toNat, v.toNat, s.now + us 10)] ∧ t.img = s.img ∧ t.prg = s.prg ∧ t.recd = s.recd) ∧
  (∀ (a v : Word) (p : Nat × Nat × Nat) (s : State) (g : Fld), s.awake = true → isWcp a.toNat = true → s.pairOf (a.toNat / 0x10000) = some p →
    cperrOf (a.toNat / 0x10000 * 0x10000) = some g →
    ∃ t, exec (.wcpFirstWord a v) s = .next t ∧ t.glb.pairs = (s.glb.pairs.filter fun p => p.1 / 0x10000 ≠ a.toNat / 0x10000) ++ [(a.toNat, v.toNat, s.now + us 10)]
      ∧ t.get g = 1) ∧
  (∀ (w d : Nat) (c : Word) (rest : List (Nat × Nat × Nat)) (s : State), s.awake = true → s.glb.pairs = (0xD0010, w, d) :: rest → w + c.toNat = 0xFFFFFFFF → s.now ≤ d →
    w / 256 % 256 = 0xA5 → rest.all (fun p => p.1 / 0x10000 ≠ 0xD) = true →
    ∃ t, exec (.wcpComplementWord 0xD0810 c) s = .next t ∧ t.glb.pairs = rest ∧ t.cmd.arm = some (w % 4, s.opTime)) ∧
  (∀ (a v : Word) (s : State) (g : Fld), s.awake = true → isWcp (a.toNat - 0x800) = true → cperrOf ((a.toNat - 0x800) / 0x10000 * 0x10000) = some g →
    (∀ p, s.pairOf ((a.toNat - 0x800) / 0x10000) = some p → ¬ (p.1 = a.toNat - 0x800 ∧ p.2.1 + v.toNat = 0xFFFFFFFF ∧ s.now ≤ p.2.2)) →
    ∃ t, exec (.wcpComplementWord a v) s = .next t ∧ t.glb.pairs = (s.glb.pairs.filter fun p => p.1 / 0x10000 ≠ (a.toNat - 0x800) / 0x10000) ∧ t.get g = 1
      ∧ t.img = s.img ∧ t.recd = s.recd ∧ t.cmd.arm = s.cmd.arm) ∧
  (∀ (b : Fin 16) (p : Nat × Nat × Nat) (s : State) (g : Fld), s.awake = true → s.pairOf b.val = some p → cperrOf (b.val * 0x10000) = some g →
    ∃ t, exec (.wcpPairTimeout b) s = .next t ∧ t.glb.pairs = (s.glb.pairs.filter fun p => p.1 / 0x10000 ≠ b.val) ∧ t.get g = 1 ∧ t.now = max s.now p.2.2) ∧
  (∀ (a v : Word) (p : Nat × Nat × Nat) (s : State), s.awake = true → isWcp (a.toNat - 0x800) = true → s.pairOf ((a.toNat - 0x800) / 0x10000) = some p → p.1 = a.toNat - 0x800 → p.2.1 + v.toNat = 0xFFFFFFFF → s.now ≤ p.2.2 →
    exec (.wcpComplementWord a v) s = .next (({ s with glb.pairs := s.glb.pairs.filter fun (x : Nat × Nat × Nat) => x.1 / 0x10000 ≠ (a.toNat - 0x800) / 0x10000 } : State).wcpEffect (a.toNat - 0x800) p.2.1).settle) ∧
  (∀ (b : Fin 16) (s : State), s.awake = true → s.pairOf b.val = none → exec (.wcpPairTimeout b) s = .next s.settle) ∧
  (∀ (a v : Word) (s : State), s.awake = true → (isWcp a.toNat = false → exec (.wcpFirstWord a v) s = .next s.settle) ∧ (isWcp (a.toNat - 0x800) = false → exec (.wcpComplementWord a v) s = .next s.settle))

/-- A read of a voted register answers the majority and mends the odd copy. The voted registers are CMD_AUTH, GLB_PACE.LEVEL and GLB_EMC; a read of CMD_AUTH whose three copies agree leaves every copy as it is and answers the register's word; where one copy of a voted register differs from the two others, the word of the majority is answered, the three copies agree afterwards and GLB_RWVCNT counts one; where all three differ, copy 0 is kept, GLB_FAULT.RWV is set and nFAULT driven low; 0x0F03 with the offset is recorded once for a register and second; a read of an address that is no voted register changes nothing. -/
def Obligations.VotedReads : Prop :=
  (∀ (a : Word) (s : State), (s.votedAt a.toNat).isSome = true ↔ a.toNat = 0xD000C ∨ a.toNat = 0x100 ∨ a.toNat = 0x108) ∧
  (∀ (n : Nat) (s : State), s.awake = true → s.glb.auth = ⟨n, n, n⟩ →
    ∃ t, exec (.votedRegisterRead 0xD000C) s = .next t ∧ t.glb = s.glb ∧ t.events = s.events ∧ t.img = s.img
      ∧ sent s t [.rdata 0xD000C (s.wordAt 0xD000C)]) ∧
  (∀ (n m : Nat) (s : State), s.awake = true → s.glb.emc = ⟨n, m, n⟩ → m ≠ n → s.get Reg.GLB_RWVCNT.COUNT < 0xFFFFFFFF →
    ∃ t, exec (.votedRegisterRead 0x108) s = .next t ∧ t.glb.emc = ⟨n, n, n⟩ ∧ t.glb.auth = s.glb.auth ∧ t.glb.pace = s.glb.pace
      ∧ t.get Reg.GLB_RWVCNT.COUNT = s.get Reg.GLB_RWVCNT.COUNT + 1 ∧ t.img = s.img) ∧
  (∀ (a : Word) (v : Voted) (m : Nat) (s : State), s.awake = true → s.votedAt a.toNat = some v → v = ⟨m, m, v.c2⟩ ∨ v = ⟨m, v.c1, m⟩ ∨ v = ⟨v.c0, m, m⟩ → v ≠ ⟨m, m, m⟩ →
    ∃ t, exec (.votedRegisterRead a) s = .next t ∧ t.votedAt a.toNat = some ⟨m, m, m⟩ ∧ t.get Reg.GLB_RWVCNT.COUNT = min (s.get Reg.GLB_RWVCNT.COUNT + 1) 0xFFFFFFFF ∧ sent s t [.rdata a.toNat ((s.setVoted a.toNat ⟨m, m, m⟩).wordAt a.toNat)]
      ∧ regsBut s t [Reg.GLB_RWVCNT.COUNT] ∧ memSame s t) ∧
  (∀ (a : Word) (s : State), s.awake = true → s.votedAt a.toNat = none → exec (.votedRegisterRead a) s = .next s.settle) ∧
  (∀ (a : Word) (v : Voted) (s : State), s.awake = true → s.votedAt a.toNat = some v → v.c0 ≠ v.c1 → v.c1 ≠ v.c2 → v.c0 ≠ v.c2 →
    ∃ t, exec (.votedRegisterRead a) s = .next t ∧ t.votedAt a.toNat = some ⟨v.c0, v.c0, v.c0⟩ ∧ t.get Reg.GLB_RWVCNT.COUNT = min (s.get Reg.GLB_RWVCNT.COUNT + 2) 0xFFFFFFFF ∧ t.flag Reg.GLB_FAULT.RWV = true ∧ t.flag Reg.GLB_STAT.NFAULT = true ∧ t.flag Reg.GLB_IRQ.FAULT = true
      ∧ sent s t [.rdata a.toNat ((s.setVoted a.toNat ⟨v.c0, v.c0, v.c0⟩).wordAt a.toNat)] ∧ regsBut s t [Reg.GLB_RWVCNT.COUNT, Reg.GLB_FAULT.RWV, Reg.GLB_IRQ.FAULT] ∧ memSame s t) ∧
  (∀ (a : Word) (v : Voted) (s : State), s.awake = true → s.votedAt a.toNat = some v → v ≠ ⟨v.c0, v.c0, v.c0⟩ → s.onceSec.contains (0x0F03, a.toNat, s.opSec) = false →
    ∃ t, exec (.votedRegisterRead a) s = .next t ∧ newest t = some 0x0F03 ∧ t.events.getLast?.map (·.params) = some (natBe 4 a.toNat) ∧ t.events.dropLast = s.events ∧ t.onceSec.contains (0x0F03, a.toNat, s.opSec) = true) ∧
  (∀ (a : Word) (v : Voted) (s : State), s.awake = true → s.votedAt a.toNat = some v → s.onceSec.contains (0x0F03, a.toNat, s.opSec) = true → ∃ t, exec (.votedRegisterRead a) s = .next t ∧ t.events = s.events)

/-- Writing 1 clears the flags written and a counter clear returns the block's counters to 0. IRQ_FLAG_CLEAR of SCHD_IRQ clears each bit whose place in the word holds 1 and keeps the others; a write of 1 to SCHD_CNTCLR returns every counter of the SCHD block to 0 and leaves the registers of other blocks as they are; a write of 0 to a counter-clear register clears nothing; the same commands act on every other IRQ register and counter-clear register as the model's functions of them say, and change nothing at any other address; MSIX_VECTOR_UNMASK of a vector without pending bit takes its mask away, and of one with a pending bit acts as the model's function says. -/
def Obligations.FlagAndCounterClears : Prop :=
  (∀ (v : Word) (s : State) (f : Fld), s.awake = true → f ∈ fieldsAt 0x30028 → (f.of v.toNat ≠ 0 → f.acc = .w1c) →
    ∃ t, exec (.irqFlagClear 0x30028 v) s = .next t ∧ t.get f = (if f.of v.toNat ≠ 0 then 0 else s.get f) ∧ t.events = s.events ∧ t.img = s.img) ∧
  (∀ (v : Word) (s : State) (f : Fld), s.awake = true → bit v.toNat 0 = true →
    f ∈ [Reg.SCHD_POLEARLY.COUNT, Reg.SCHD_POLLATE.COUNT, Reg.SCHD_NOWIN.COUNT, Reg.SCHD_NOCORR.COUNT, Reg.SCHD_STALE.COUNT, Reg.SCHD_SILENT.COUNT, Reg.SCHD_GATE.COUNT, Reg.SCHD_PUBSKIP.COUNT, Reg.SCHD_SUBLEN.COUNT, Reg.SCHD_SUBSTALE.COUNT] →
    ∃ t, exec (.blockCounterClear 0x300DC v) s = .next t ∧ t.get f = 0 ∧ t.events = s.events ∧ t.img = s.img) ∧
  (∀ (v : Word) (s : State) (f : Fld), s.awake = true → sameSpace (f.key / 32) 0x300DC = false →
    f.key ≠ Reg.GLB_STAT.NFAULT.key → f.key ≠ Reg.CMD_IRQ.CPL.key →
    ∃ t, exec (.blockCounterClear 0x300DC v) s = .next t ∧ t.get f = s.get f) ∧
  (∀ (a v : Word) (s : State), s.awake = true → bit v.toNat 0 = false →
    exec (.blockCounterClear a v) s = .next s.settle) ∧
  (∀ (v : Fin 64) (s : State), s.active = true → s.msix.pba.contains v.val = false →
    ∃ t, exec (.msixVectorUnmask v) s = .next t
      ∧ t.msix.table = s.msix.table.filter (fun e => e.1 ≠ v.val) ++ [(v.val, (s.msixEntry v).1, (s.msixEntry v).2.1, false)]
      ∧ t.events = s.events ∧ t.img = s.img ∧ t.cmd.slots = s.cmd.slots) ∧
  (∀ (a v : Word) (s : State), s.awake = true → exec (.irqFlagClear a v) s = .next (if isIrq a.toNat then s.clearIrq a.toNat v.toNat else s).settle) ∧
  (∀ (a v : Word) (s : State), s.awake = true → bit v.toNat 0 = true → exec (.blockCounterClear a v) s = .next (if isCntClr a.toNat then s.clearCounters a.toNat else s).settle) ∧
  (∀ (v : Fin 64) (s : State), s.active = true → exec (.msixVectorUnmask v) s = .next (s.unmask v.val).settle)

/-- Enabling, resetting and arming the command interface. A change of CMD_CTRL.EN from 0 to 1 sets CMD_SQHEAD and CMD_CQTAIL to 0 and PHASE to 1; a write of 0 to EN keeps them; a command reset of a node without open packets and without a configuration copy leaves EN at 0, no arm, the train keys, CMD_AUTH and the replay table as they are, and records 0x0D04; any write of CMD_CTRL and any command reset acts as the model's function of that write; a completed CMD_KEYARM pair with code 0xA5 arms its slot, one with another code leaves none armed, and CMD_KEYARM shows the code and the slot; an arm that has expired is dropped and CMD_KEYARM reads 0, and without an arm the expiry changes nothing. -/
def Obligations.CommandRings : Prop :=
  (∀ (s : State), s.active = true → s.flag Reg.CMD_CTRL.EN = false →
    ∃ t, exec (.cmdEnableWrite 1) s = .next t ∧ t.get Reg.CMD_CTRL.EN = 1 ∧ t.get Reg.CMD_SQHEAD.HEAD = 0 ∧ t.get Reg.CMD_CQTAIL.TAIL = 0
      ∧ t.cmd.phase = true ∧ t.cmd.slots = s.cmd.slots ∧ t.cmd.keys = s.cmd.keys ∧ t.events = s.events ∧ t.img = s.img) ∧
  (∀ (s : State), s.active = true → 
    ∃ t, exec (.cmdEnableWrite 0) s = .next t ∧ t.get Reg.CMD_CTRL.EN = 0 ∧ t.get Reg.CMD_SQHEAD.HEAD = s.get Reg.CMD_SQHEAD.HEAD
      ∧ t.get Reg.CMD_CQTAIL.TAIL = s.get Reg.CMD_CQTAIL.TAIL ∧ t.cmd.phase = s.cmd.phase ∧ t.cmd.slots = s.cmd.slots) ∧
  (∀ (s : State), s.active = true → s.cmd.slots = [] → s.cfgBest = none →
    ∃ t, exec .commandReset s = .next t ∧ t.get Reg.CMD_CTRL.EN = 0 ∧ t.cmd.arm = none ∧ t.cmd.keys = s.cmd.keys ∧ t.cmd.replay = s.cmd.replay
      ∧ t.glb.auth = s.glb.auth ∧ t.cmd.shut = false ∧ t.events.dropLast = s.events ∧ t.events.getLast?.map (fun e => (e.code, e.params)) = some (0x0D04, natBe 4 0)
      ∧ t.get Reg.INAU_STAT.STATE = s.get Reg.INAU_STAT.STATE ∧ t.img = s.img) ∧
  (∀ (v : Word) (s : State), s.awake = true →
    ∃ t, exec (.keyArm v) s = .next t ∧ t.cmd.arm = (if v.toNat / 256 % 256 = 0xA5 then some (v.toNat % 4, s.opTime) else none)
      ∧ t.get Reg.CMD_KEYARM.CODE = v.toNat / 256 % 256 ∧ t.get Reg.CMD_KEYARM.SLOT = v.toNat % 4 ∧ t.cmd.keys = s.cmd.keys ∧ t.events = s.events
      ∧ regsBut s t [Reg.CMD_KEYARM.CODE, Reg.CMD_KEYARM.SLOT] ∧ memSame s t) ∧
  (∀ (m a : Nat) (s : State), s.awake = true → s.cmd.arm = some (m, a) →
    ∃ t, exec .keyArmExpiry s = .next t ∧ t.cmd.arm = none ∧ t.get Reg.CMD_KEYARM.CODE = 0 ∧ t.get Reg.CMD_KEYARM.SLOT = 0 ∧ t.cmd.keys = s.cmd.keys
      ∧ s.now ≤ t.now ∧ t.events = s.events ∧ regsBut s t [Reg.CMD_KEYARM.CODE, Reg.CMD_KEYARM.SLOT] ∧ memSame s t) ∧
  (∀ (v : Word) (s : State), s.active = true → exec (.cmdEnableWrite v) s = .next (s.writeCmdCtrl v.toNat).settle) ∧
  (∀ (s : State), s.active = true → exec .commandReset s = .next s.commandReset.settle) ∧
  (∀ (s : State), s.awake = true → s.cmd.arm = none → exec .keyArmExpiry s = .next s.settle)

/-- A lane trains from DOWN to CONFIRM and on to ACTIVE. A signal on a DOWN lane that has been calibrated takes it to DETECT, and on any other lane it sets SIGDET only; 50 µs of it take DETECT to ALIGN and 50 µs without it back to DOWN; in ALIGN the 32nd good training set in a row takes the lane to EQ, and a damaged set ends the run and counts, whatever the state; an adapted receiver sets EQDONE, its result stands in LANE_EQRES and, once the peer has sent EQDONE, the lane goes to CONFIRM; in EQ a good TS1 that carries EQDONE takes a lane whose receiver has adapted to CONFIRM; in CONFIRM the 16th TS2 that says the peer's buffer is empty takes the lane to ACTIVE as R44 says, once 16 own ones were sent; in every other state a good set acts as the model's function says; a training state that lasts too long is recorded as 0x0103 and counted, and the lane detects again; where the lane is not in a state that the command concerns, nothing changes but SIGDET. That a damaged training set counts in LANE_CODEERR and ends the run of sets is the model’s choice (log entry 38, R40). -/
def Obligations.LaneTraining : Prop :=
  (∀ (n : Lane) (s : State), s.awake = true → s.laneSt n = .down → (s.cal n).result.isSome = true →
    ∃ t, exec (.laneSignalDetect n) s = .next t ∧ t.laneSt n = .detect ∧ t.get (Reg.LANE_STAT.SIGDET.at n) = 1 ∧ (t.lane n).since = s.now
      ∧ t.now = s.now ∧ t.events = s.events ∧ regsBut s t [Reg.LANE_STAT.SIGDET.at n, Reg.LANE_STAT.STATE.at n] ∧ memSame s t) ∧
  (∀ (n : Lane) (s : State), s.awake = true → s.laneSt n = .detect →
    ∃ t, exec (.detectSignalStable n) s = .next t ∧ t.laneSt n = .align ∧ (t.lane n).tsRun = 0 ∧ t.now = max s.now ((s.lane n).since + us 50)
      ∧ t.events = s.events ∧ regsBut s t [Reg.LANE_STAT.STATE.at n] ∧ memSame s t) ∧
  (∀ (n : Lane) (s : State), s.awake = true → s.laneSt n = .detect →
    ∃ t, exec (.detectSignalAbsent n) s = .next t ∧ t.laneSt n = .down ∧ t.get (Reg.LANE_STAT.SIGDET.at n) = 0
      ∧ t.events = s.events ∧ regsBut s t [Reg.LANE_STAT.SIGDET.at n, Reg.LANE_STAT.STATE.at n] ∧ memSame s t) ∧
  (∀ (n : Lane) (i : Bool) (c : Bytes) (s : State), s.awake = true → State.tsOk c = true → s.laneSt n = .align →
    ∃ t, exec (.trainingSetReceived n ⟨0, i⟩ c) s = .next t ∧ t.laneSt n = (if 32 ≤ (s.lane n).tsRun + 1 then .eq else .align)
      ∧ (t.lane n).tsRun = (if 32 ≤ (s.lane n).tsRun + 1 then 0 else (s.lane n).tsRun + 1) ∧ t.get (Reg.LANE_STAT.LOCK.at n) = 1
      ∧ t.events = s.events ∧ regsBut s t [Reg.LANE_STAT.STATE.at n, Reg.LANE_STAT.LOCK.at n, Reg.LANE_STAT.PEER_LINE.at n, Reg.LANE_STAT.PEER_END.at n] ∧ memSame s t) ∧
  (∀ (n : Lane) (l : TsLine) (c : Bytes) (s : State), s.awake = true → (decide (l.errors = 0) && State.tsOk c) = false →
    (s.laneUp n && decide (64 < max 1 l.errors + (((s.lane n).errs.filter fun e => s.now - e.1 ≤ us 100).map (·.2)).sum)) = false →
    ∃ t, exec (.trainingSetReceived n l c) s = .next t ∧ t.laneSt n = s.laneSt n ∧ (t.lane n).tsRun = 0 ∧ (t.lane n).ts2Run = 0
      ∧ t.get (Reg.LANE_CODEERR.COUNT.at n) = min (s.get (Reg.LANE_CODEERR.COUNT.at n) + max 1 l.errors) 0xFFFFFFFF ∧ t.events = s.events ∧ regsBut s t [Reg.LANE_CODEERR.COUNT.at n] ∧ memSame s t) ∧
  (∀ (n : Lane) (e : Nat) (d1 d2 d3 : Byte) (s : State), s.awake = true → s.laneSt n = .eq → (s.lane n).peerEq = false →
    s.flag (Reg.LANE_RXCFG.CTLE_AUTO.at n) = true → s.flag (Reg.LANE_RXCFG.DFE_EN.at n) = true →
    ∃ t, exec (.receiverAdapted n e d1 d2 d3) s = .next t ∧ t.laneSt n = .eq ∧ t.get (Reg.LANE_STAT.EQDONE.at n) = 1
      ∧ t.get (Reg.LANE_EQRES.DFE1.at n) = d1.toNat % 2 ^ Reg.LANE_EQRES.DFE1.width ∧ t.get (Reg.LANE_EQRES.DFE2.at n) = d2.toNat % 2 ^ Reg.LANE_EQRES.DFE2.width
      ∧ t.get (Reg.LANE_EQRES.DFE3.at n) = d3.toNat % 2 ^ Reg.LANE_EQRES.DFE3.width ∧ t.get (Reg.LANE_EQRES.CTLE_ACT.at n) = e % 2 ^ Reg.LANE_EQRES.CTLE_ACT.width
      ∧ t.events = s.events ∧ regsBut s t [Reg.LANE_STAT.EQDONE.at n, Reg.LANE_EQRES.CTLE_ACT.at n, Reg.LANE_EQRES.DFE1.at n, Reg.LANE_EQRES.DFE2.at n, Reg.LANE_EQRES.DFE3.at n] ∧ memSame s t) ∧
  (∀ (n : Lane) (e : Nat) (d1 d2 d3 : Byte) (s : State), s.awake = true → s.laneSt n = .eq → (s.lane n).peerEq = true →
    ∃ t, exec (.receiverAdapted n e d1 d2 d3) s = .next t ∧ t.laneSt n = .confirm ∧ (t.lane n).ts2Run = 0 ∧ (t.lane n).ts2Sent = 0 ∧ t.events = s.events ∧ memSame s t) ∧
  (∀ (n : Lane) (s : State), s.awake = true → (s.laneSt n = .align ∨ s.laneSt n = .eq ∨ s.laneSt n = .confirm) → s.flag (Reg.LANE_CTRL.EN.at n) = true →
    ∃ t, exec (.trainingTimeout n) s = .next t ∧ t.laneSt n = .detect ∧ newest t = some 0x0103 ∧ t.get (Reg.LANE_TRTO.COUNT.at n) = min (s.get (Reg.LANE_TRTO.COUNT.at n) + 1) 0xFFFFFFFF ∧ t.flag (Reg.LANE_IRQ.TRTO.at n) = true
      ∧ t.get (Reg.LANE_STAT.EQDONE.at n) = 0 ∧ regsBut s t [Reg.LANE_STAT.STATE.at n, Reg.LANE_STAT.EQDONE.at n, Reg.LANE_TRTO.COUNT.at n, Reg.LANE_IRQ.TRTO.at n] ∧ memSame s t) ∧
  (∀ (n : Lane) (s : State), s.awake = true → (s.laneSt n = .down → (s.cal n).result = none) → exec (.laneSignalDetect n) s = .next (s.put (Reg.LANE_STAT.SIGDET.at n) 1).settle) ∧
  (∀ (n : Lane) (s : State), s.awake = true → s.laneSt n ≠ .detect →
    exec (.detectSignalStable n) s = .next s.settle ∧ exec (.detectSignalAbsent n) s = .next (s.put (Reg.LANE_STAT.SIGDET.at n) 0).settle) ∧
  (∀ (n : Lane) (c : Bytes) (s : State), s.awake = true → State.tsOk c = true → s.laneSt n = .eq → byteAt c 0 = 0x4A → bit (byteAt c 1) 7 = true → s.flag (Reg.LANE_STAT.EQDONE.at n) = true →
    ∃ t, exec (.trainingSetReceived n ⟨0, false⟩ c) s = .next t ∧ t.laneSt n = .confirm ∧ (t.lane n).peerEq = true ∧ (t.lane n).ts2Run = 0 ∧ (t.lane n).ts2Sent = 0 ∧ t.events = s.events
      ∧ regsBut s t [Reg.LANE_STAT.STATE.at n, Reg.LANE_STAT.PEER_LINE.at n, Reg.LANE_STAT.PEER_END.at n] ∧ memSame s t) ∧
  (∀ (n : Lane) (c : Bytes) (s : State), s.awake = true → State.tsOk c = true → s.laneSt n = .confirm → byteAt c 0 = 0x45 → bit (byteAt c 1) 6 = true → 15 ≤ (s.lane n).ts2Run → 16 ≤ (s.lane n).ts2Sent →
    s.flag (Reg.LANE_STAT.RX_EMPTY.at n) = true → s.twinOn = false →
    ∃ t, exec (.trainingSetReceived n ⟨0, false⟩ c) s = .next t ∧ t.laneSt n = .active ∧ newest t = some 0x0101 ∧ t.flag (Reg.LANE_IRQ.UP.at n) = true ∧ t.get (Reg.LANE_CREDIT.TXD.at n) = 0 ∧ t.get (Reg.LANE_CREDIT.TXF.at n) = 0
      ∧ t.get (Reg.LANE_CREDIT.RXA.at n) = 0 ∧ t.get (Reg.LANE_CREDIT.RXOCC.at n) = 0 ∧ sent s t [.cr n 0, .idle n] ∧ (t.lane n).trailing = some (s.now + us 200) ∧ (t.lane n).probeAt = some s.now
      ∧ regsBut s t [Reg.LANE_STAT.STATE.at n, Reg.LANE_STAT.PEER_LINE.at n, Reg.LANE_STAT.PEER_END.at n, Reg.LANE_IRQ.UP.at n, Reg.LANE_CREDIT.TXD.at n, Reg.LANE_CREDIT.TXF.at n, Reg.LANE_CREDIT.RXA.at n, Reg.LANE_CREDIT.RXOCC.at n] ∧ memSame s t) ∧
  (∀ (n : Lane) (i : Bool) (c : Bytes) (s : State), s.awake = true → State.tsOk c = true →
    exec (.trainingSetReceived n ⟨0, i⟩ c) s = .next ((if i && s.laneUp n then s.endTrailing n else s).takeTs n c).settle) ∧
  (∀ (n : Lane) (l : TsLine) (c : Bytes) (s : State), s.awake = true → (decide (l.errors = 0) && State.tsOk c) = false →
    exec (.trainingSetReceived n l c) s = .next ((if l.idle && s.laneUp n then s.endTrailing n else s).badTs n l.errors).settle) ∧
  (∀ (n : Lane) (e : Nat) (d1 d2 d3 : Byte) (s : State), s.awake = true → s.laneSt n ≠ .eq → exec (.receiverAdapted n e d1 d2 d3) s = .next s.settle) ∧
  (∀ (n : Lane) (s : State), s.awake = true → State.trainLimit (s.laneSt n) = none → exec (.trainingTimeout n) s = .next s.settle)

/-- What takes a lane out of ACTIVE retrains it. On a lane in ACTIVE or RESYNC a loss of signal, a loss of alignment, more than 64 code errors within 100 µs (the K characters that R37 and R63 call errors among them) and a RETRAIN write each retrain it, and a RETRAIN write takes a lane that is training back to rest; a retrain of a lane without open frames whose joint is not working leaves it in DOWN, or DISABLED where EN is 0 or its end is held, with no credit, no measured path delay and no probe due, counts one retrain, sets DOWN and records 0x0102; a loss clears SIGDET and LOCK, or LOCK alone, whatever the lane's state; the errors are counted whatever their number; a write that changes EN from 1 to 0 takes the lane to DISABLED, with the end of what it had open where it was up, but counts no retrain, and one that changes EN from 0 to 1 brings a DISABLED lane to rest. That the exit by EN from 1 to 0 counts no retrain and is not recorded is the model’s choice (log entry 38, R41). -/
def Obligations.LaneLosses : Prop :=
  (∀ (n : Lane) (s : State), s.awake = true → s.laneUp n = true → laneIdle s n = true → noJoint s (endOf n) = true →
    ∃ t, exec (.laneSignalLoss n) s = .next t ∧ retrained s t n ∧ t.get (Reg.LANE_STAT.SIGDET.at n) = 0 ∧ t.get (Reg.LANE_STAT.LOCK.at n) = 0 ∧ t.now = s.now) ∧
  (∀ (n : Lane) (s : State), s.awake = true → s.laneUp n = true → laneIdle s n = true → noJoint s (endOf n) = true →
    ∃ t, exec (.laneAlignmentLoss n) s = .next t ∧ retrained s t n ∧ t.get (Reg.LANE_STAT.LOCK.at n) = 0 ∧ t.get (Reg.LANE_STAT.SIGDET.at n) = s.get (Reg.LANE_STAT.SIGDET.at n) ∧ t.now = s.now) ∧
  (∀ (n : Lane) (x : CodeErrors) (k : Nat) (s : State), s.awake = true → s.laneUp n = true → laneIdle s n = true → noJoint s (endOf n) = true →
    k = x.errors + (x.ks.filter (State.kError true)).length → 64 < k →
    ∃ t, exec (.codeErrorThreshold n x) s = .next t ∧ retrained s t n ∧ t.get (Reg.LANE_CODEERR.COUNT.at n) = min (s.get (Reg.LANE_CODEERR.COUNT.at n) + k) 0xFFFFFFFF ∧ t.now = s.now) ∧
  (∀ (n : Lane) (x : CodeErrors) (k : Nat) (l : List (Nat × Nat)) (s : State), s.awake = true → k = x.errors + (x.ks.filter (State.kError (s.laneUp n))).length → l = (s.lane n).errs.filter (fun e => s.now - e.1 ≤ us 100) → (l.map (·.2)).sum + k ≤ 64 ∨ s.laneUp n = false →
    ∃ t, exec (.codeErrorThreshold n x) s = .next t ∧ t.get (Reg.LANE_CODEERR.COUNT.at n) = min (s.get (Reg.LANE_CODEERR.COUNT.at n) + k) 0xFFFFFFFF
      ∧ t.lane n = { s.lane n with errs := if k = 0 then (s.lane n).errs else (s.now, k) :: l } ∧ (∀ i : Lane, i ≠ n → t.lane i = s.lane i) ∧ t.events = s.events ∧ regsBut s t [Reg.LANE_CODEERR.COUNT.at n] ∧ memSame s t) ∧
  (∀ (n : Lane) (v : Word) (s : State), s.awake = true → s.laneUp n = true → laneIdle s n = true → noJoint s (endOf n) = true → s.flag (Reg.LANE_CTRL.EN.at n) = true → bit v.toNat 1 = true → v.toNat % 2 = 1 →
    ∃ t, exec (.laneRetrainWrite n v) s = .next t ∧ retrained s t n ∧ t.get (Reg.LANE_CTRL.EN.at n) = 1 ∧ t.now = s.now) ∧
  (∀ (n : Lane) (v : Word) (s : State), s.awake = true → s.laneSt n = .disabled → s.get (Reg.LANE_CTRL.EN.at n) = 0 → bit v.toNat 1 = false → v.toNat % 2 = 1 →
    ∃ t, exec (.laneEnableWrite n v) s = .next t ∧ t.get (Reg.LANE_CTRL.EN.at n) = 1 ∧ t.laneSt n = (if s.endHeld (endOf n) then .disabled else .down) ∧ t.get (Reg.LANE_RETRAIN.COUNT.at n) = s.get (Reg.LANE_RETRAIN.COUNT.at n)
      ∧ t.events = s.events ∧ memSame s t) ∧
  (∀ (n : Lane) (s : State), s.awake = true →
    exec (.laneSignalLoss n) s = .next (if s.laneUp n then ((s.put (Reg.LANE_STAT.SIGDET.at n) 0).put (Reg.LANE_STAT.LOCK.at n) 0).retrain n else (s.put (Reg.LANE_STAT.SIGDET.at n) 0).put (Reg.LANE_STAT.LOCK.at n) 0).settle
      ∧ exec (.laneAlignmentLoss n) s = .next (if s.laneUp n then (s.put (Reg.LANE_STAT.LOCK.at n) 0).retrain n else s.put (Reg.LANE_STAT.LOCK.at n) 0).settle) ∧
  (∀ (n : Lane) (x : CodeErrors) (k : Nat) (s : State), s.awake = true → s.laneUp n = true → k = x.errors + (x.ks.filter (State.kError true)).length → 64 < k →
    exec (.codeErrorThreshold n x) s = .next ((s.bumpBy (Reg.LANE_CODEERR.COUNT.at n) k).retrain n).settle) ∧
  (∀ (n : Lane) (v : Word) (u s : State), s.awake = true → u = s.storeWord (Reg.LANE_CTRL.EN.at n).addr v.toNat → s.flag (Reg.LANE_CTRL.EN.at n) = true → v.toNat % 2 = 0 → bit v.toNat 1 = false →
    exec (.laneEnableWrite n v) s = .next (if s.laneUp n then u.leaveActive n else u.restLane n).settle) ∧
  (∀ (n : Lane) (v : Word) (u s : State), s.awake = true → u = s.storeWord (Reg.LANE_CTRL.EN.at n).addr v.toNat → s.get (Reg.LANE_CTRL.EN.at n) = v.toNat % 2 → bit v.toNat 1 = true →
    exec (.laneRetrainWrite n v) s = .next (if s.laneUp n then u.retrain n else if s.laneSt n ∈ [.detect, .align, .eq, .confirm] then u.restLane n else u).settle) ∧
  (∀ (n : Lane) (v : Word) (s : State), s.awake = true → exec (.laneEnableWrite n v) s = .next (s.writeLaneCtrl n v.toNat).settle ∧ exec (.laneRetrainWrite n v) s = .next (s.writeLaneCtrl n v.toNat).settle)

/-- Credit returns and the credit resync of a lane. On a lane in ACTIVE or RESYNC a damaged CR is counted and changes no credit, a good one sets F of the transmitter and lets it go on; every 20 µs a CR carries F; an SF whose debit equals A opens a frame stamped now, one whose debit differs starts a resync, and one inside an open frame ends that frame first; CRS REQ ends what the transmitter has in progress or preempted with EB, stops it in RESYNC and answers CRS ACK with D; CRS ACK ends the repetition of REQ; once the buffer is drained A takes the value of CRS ACK and CR and CRS DONE leave; CRS DONE restores F and the ACTIVE state; a resync that lasts 100 µs is recorded as 0x0107 and retrains the lane; a stray data character opens a frame, counts as a code error and starts a resync; in any other state of the lane, and for a CRS with a wrong code or check character, nothing changes. That a CRS with a wrong check character changes nothing is the model’s choice (log entry 38, R49 and R37). -/
def Obligations.LaneCredits : Prop :=
  (∀ (n : Lane) (a b c : Byte) (s : State), s.awake = true → s.laneUp n = true → ¬ (a = b ∧ c = ~~~a) →
    ∃ t, exec (.creditReturnReceived n a b c) s = .next t ∧ t.get (Reg.LANE_CRBAD.COUNT.at n) = min (s.get (Reg.LANE_CRBAD.COUNT.at n) + 1) 0xFFFFFFFF
      ∧ (t.lane n).trailing = none ∧ t.events = s.events ∧ regsBut s t [Reg.LANE_CRBAD.COUNT.at n] ∧ memSame s t) ∧
  (∀ (n : Lane) (a : Byte) (s : State), s.awake = true → s.laneUp n = true → txIdle s n = true →
    ∃ t, exec (.creditReturnReceived n a a (~~~a)) s = .next t ∧ t.get (Reg.LANE_CREDIT.TXF.at n) = a.toNat ∧ (t.lane n).trailing = none
      ∧ t.events = s.events ∧ regsBut s t [Reg.LANE_CREDIT.TXF.at n] ∧ memSame s t) ∧
  (∀ (n : Lane) (s : State), s.awake = true → s.laneUp n = true → (s.lane n).tx = none →
    ∃ t, exec (.creditReturnTimer n) s = .next t ∧ sent s t [.cr n (s.rxF n)] ∧ (t.lane n).crF = s.rxF n ∧ t.events = s.events ∧ regsBut s t [] ∧ memSame s t) ∧
  (∀ (n : Lane) (d : Byte) (s : State), s.awake = true → s.laneUp n = true → (s.lane n).rx = none → d.toNat = s.get (Reg.LANE_CREDIT.RXA.at n) →
    ∃ t, exec (.laneSfReceived n d) s = .next t ∧ (t.lane n).rx = some { stamp := s.now } ∧ (t.lane n).rxSkip = false ∧ (t.lane n).rxRest = false ∧ (t.lane n).trailing = none
      ∧ t.events = s.events ∧ regsBut s t [] ∧ memSame s t) ∧
  (∀ (n : Lane) (s : State), s.awake = true → s.laneUp n = true → txIdle s n = true →
    ∃ t, exec (.crsReqReceived n 1 0 (~~~ (1 ^^^ 0))) s = .next t ∧ t.laneSt n = .resync ∧ (t.lane n).rsTx = true ∧ (t.lane n).rsTxAt = some ((s.lane n).rsTxAt.getD (s.now + us 100))
      ∧ sent s t [.crs n 2 (s.get (Reg.LANE_CREDIT.TXD.at n))] ∧ t.events = s.events ∧ regsBut s t [Reg.LANE_STAT.STATE.at n] ∧ memSame s t) ∧
  (∀ (n : Lane) (v : Byte) (s : State), s.awake = true → s.laneUp n = true → (s.lane n).rsReq = true →
    ∃ t, exec (.crsAckReceived n 2 v (~~~ (2 ^^^ v))) s = .next t ∧ (t.lane n).rsReq = false ∧ (t.lane n).rsAck = some v.toNat ∧ sent s t [.crsEnd n]
      ∧ t.events = s.events ∧ regsBut s t [] ∧ memSame s t) ∧
  (∀ (n : Lane) (v : Byte) (s : State), s.awake = true → (s.lane n).rsAck = some v.toNat → s.get (Reg.LANE_CREDIT.RXOCC.at n) = 0 → (s.lane n).tx = none →
    ∃ t, exec (.resyncBufferDrained n) s = .next t ∧ t.get (Reg.LANE_CREDIT.RXA.at n) = v.toNat ∧ (t.lane n).rsAck = none ∧ (t.lane n).rsAt = none
      ∧ sent s t [.cr n v.toNat, .crs n 3 0] ∧ t.events = s.events ∧ regsBut s t [Reg.LANE_CREDIT.RXA.at n] ∧ memSame s t) ∧
  (∀ (n : Lane) (s : State), s.awake = true → (s.lane n).rsTx = true → txIdle s n = true →
    ∃ t, exec (.crsDoneReceived n 3 0 (~~~ (3 ^^^ 0))) s = .next t ∧ t.laneSt n = .active ∧ (t.lane n).rsTx = false ∧ (t.lane n).rsTxAt = none
      ∧ t.get (Reg.LANE_CREDIT.TXF.at n) = s.get (Reg.LANE_CREDIT.TXD.at n) % 256 ∧ t.events = s.events ∧ regsBut s t [Reg.LANE_STAT.STATE.at n, Reg.LANE_CREDIT.TXF.at n] ∧ memSame s t) ∧
  (∀ (n : Lane) (q : Nat) (s : State), s.awake = true → ((s.lane n).rsAt.toList ++ (s.lane n).rsTxAt.toList).min? = some q → laneIdle s n = true → noJoint s (endOf n) = true →
    ∃ t, exec (.creditResyncTimeout n) s = .next t ∧ retrained s t n ∧ t.now = max s.now q) ∧
  (∀ (n : Lane) (c : Byte) (s : State), s.awake = true → s.laneUp n = true → (s.lane n).rx = none → (s.lane n).rxHeld = none → (s.lane n).rxSkip = false → (s.lane n).rxRest = false →
    (s.lane n).rsReq = false → (s.lane n).rsAck = none → (s.lane n).errs = [] →
    ∃ t, exec (.strayDataCharacter n c) s = .next t ∧ newest t = some 0x0104 ∧ (t.lane n).rsReq = true ∧ (t.lane n).rsAt = some (s.now + us 100) ∧ (t.lane n).rx = none ∧ (t.lane n).rxRest = true ∧ (.crs n 1 0 ∈ t.outs ∨ (s.lane n).tx.isSome = true ∧ .crs n 1 0 ∈ (t.lane n).sets)
      ∧ t.get (Reg.LANE_CREDIT.RXA.at n) = (s.get (Reg.LANE_CREDIT.RXA.at n) + 1) % 256 ∧ t.get (Reg.LANE_CODEERR.COUNT.at n) = min (s.get (Reg.LANE_CODEERR.COUNT.at n) + 1) 0xFFFFFFFF
      ∧ t.get (Reg.LANE_CRSYNC.COUNT.at n) = min (s.get (Reg.LANE_CRSYNC.COUNT.at n) + 1) 0xFFFFFFFF ∧ t.flag (Reg.LANE_IRQ.CRSYNC.at n) = true ∧ memSame s t) ∧
  (∀ (n : Lane) (a : Byte) (s : State), s.awake = true → s.laneUp n = true → exec (.creditReturnReceived n a a (~~~a)) s = .next (((s.endTrailing n).put (Reg.LANE_CREDIT.TXF.at n) a.toNat).runTx n).settle) ∧
  (∀ (n : Lane) (s : State), s.awake = true → s.laneUp n = true → exec (.creditReturnTimer n) s = .next (s.sendCr n).settle) ∧
  (∀ (n : Lane) (d : Byte) (u s : State), s.awake = true → s.laneUp n = true → u = (((s.endTrailing n).cutOpen n).onLane n fun l => { l with rxRest := false, rxSkip := false, skipLen := 0 }) →
    exec (.laneSfReceived n d) s = .next (if d.toNat = u.get (Reg.LANE_CREDIT.RXA.at n) then u.onLane n fun l => { l with rx := some { stamp := u.now } } else u.startResync n).settle) ∧
  (∀ (n : Lane) (u s : State), s.awake = true → s.laneUp n = true → u = (s.endTrailing n).advance n → ((u.lane n).tx.isSome || (u.lane n).txHeld.isSome) = true →
    ∃ t, exec (.crsReqReceived n 1 0 (~~~ (1 ^^^ 0))) s = .next t ∧ t.laneSt n = .resync ∧ (t.lane n).tx = none ∧ (t.lane n).txHeld = none ∧ sent u t [.eb n, .crs n 2 (u.get (Reg.LANE_CREDIT.TXD.at n))]) ∧
  (∀ (n : Lane) (a b c : Byte) (s : State), s.awake = true → s.laneUp n = false →
    exec (.creditReturnReceived n a b c) s = .next s.settle ∧ exec (.creditReturnTimer n) s = .next s.settle ∧ exec (.laneSfReceived n a) s = .next s.settle
      ∧ exec (.crsReqReceived n a b c) s = .next s.settle ∧ exec (.crsAckReceived n a b c) s = .next s.settle ∧ exec (.strayDataCharacter n a) s = .next s.settle) ∧
  (∀ (n : Lane) (a b c : Byte) (s : State), s.awake = true →
    ((State.crsOk 1 a b c && decide (b = 0)) = false → exec (.crsReqReceived n a b c) s = .next s.settle)
      ∧ ((State.crsOk 2 a b c && (s.lane n).rsReq) = false → exec (.crsAckReceived n a b c) s = .next s.settle)
      ∧ ((State.crsOk 3 a b c && decide (b = 0) && (s.lane n).rsTx) = false → exec (.crsDoneReceived n a b c) s = .next s.settle)) ∧
  (∀ (n : Lane) (s : State), s.awake = true → (s.lane n).rsAck = none ∨ s.get (Reg.LANE_CREDIT.RXOCC.at n) ≠ 0 → exec (.resyncBufferDrained n) s = .next s.settle) ∧
  (∀ (n : Lane) (s : State), s.awake = true → exec (.creditResyncTimeout n) s = .next (match ((s.lane n).rsAt.toList ++ (s.lane n).rsTxAt.toList).min? with
      | none => s | some q => ((s.reach q).record 0x0107).retrain n).settle) ∧
  (∀ (n : Lane) (c : Byte) (s : State), s.awake = true → ((s.lane n).rx.isSome || (s.lane n).rxSkip || (s.lane n).rxRest) = true → exec (.strayDataCharacter n c) s = .next s.settle)

/-- Frames that a lane receives and sends. RES whose debit equals A continues the held frame; RES without a held frame is a protocol error and the receiver skips what follows up to the next SF or RES, and RES whose debit differs from A starts a resync; PRE where R59 allows it holds the frame, and elsewhere ends it as with EB and is a protocol error; byte 2,077 counts a giant and drops the frame; the decision consumes the frames of types 0x10 to 0x14, and a frame whose header check fails is counted and dropped; a frame that ends after 31 bytes or fewer is a runt, one that ends with EB is counted as such, and a good one that was consumed counts as received; a free transmitter starts an express frame that has credit; time moves on to the next express interval; a source that stalls makes its frame a bad one; with no frame open the commands of a reception take the bytes of a discarded frame, whose blocks still count, and end it. That RES inside an open frame that is not preempted ends it uncounted, and that PRE, EG and EB with no frame open count nothing, is the model’s choice (log entry 38, R61). -/
def Obligations.LaneFrames : Prop :=
  (∀ (n : Lane) (d : Byte) (f : RxFrame) (s : State), s.awake = true → s.laneUp n = true → (s.lane n).rx = none → (s.lane n).rxHeld = some f → d.toNat = s.get (Reg.LANE_CREDIT.RXA.at n) →
    ∃ t, exec (.resumeReceived n d) s = .next t ∧ (t.lane n).rx = some f ∧ (t.lane n).rxHeld = none ∧ (t.lane n).rxSkip = false ∧ (t.lane n).rxRest = false ∧ t.get (Reg.LANE_STAT.PREOPEN.at n) = 0
      ∧ t.events = s.events ∧ regsBut s t [Reg.LANE_STAT.PREOPEN.at n] ∧ memSame s t) ∧
  (∀ (n : Lane) (d : Byte) (s : State), s.awake = true → s.laneUp n = true → (s.lane n).rx = none → (s.lane n).rxHeld = none → d.toNat = s.get (Reg.LANE_CREDIT.RXA.at n) →
    ∃ t, exec (.resumeReceived n d) s = .next t ∧ (t.lane n).rx = none ∧ (t.lane n).rxSkip = true ∧ t.get (Reg.LANE_PROTO.COUNT.at n) = min (s.get (Reg.LANE_PROTO.COUNT.at n) + 1) 0xFFFFFFFF
      ∧ t.flag (Reg.LANE_IRQ.PROTO.at n) = true ∧ t.events = s.events ∧ regsBut s t [Reg.LANE_PROTO.COUNT.at n, Reg.LANE_IRQ.PROTO.at n] ∧ memSame s t) ∧
  (∀ (n : Lane) (bs : Bytes) (f : RxFrame) (s : State), s.awake = true → (s.lane n).rx = some f → f.giant = false → 2077 ≤ f.bytes.length + bs.length →
    f.stage = .open_ → (s.lane n).rxHeld = none →
    ∃ t, exec (.giantByteReceived n bs) s = .next t ∧ (t.lane n).rx = some { f with bytes := f.bytes ++ bs, giant := true, stage := .dropped }
      ∧ t.get (Reg.LANE_GIANT.COUNT.at n) = min (s.get (Reg.LANE_GIANT.COUNT.at n) + 1) 0xFFFFFFFF ∧ t.events = s.events ∧ memSame s t) ∧
  (∀ (n : Lane) (bs : Bytes) (f : RxFrame) (s : State), s.awake = true → (s.lane n).rx = some f → (s.lane n).rxHeld = none → (∀ fid, f.stage ≠ .kept fid) →
    (hCls (f.bytes ++ bs)).express = false → (f.bytes ++ bs).length % 64 = 0 → 64 ≤ (f.bytes ++ bs).length → (f.bytes ++ bs).length + 64 ≤ frameLen (f.bytes ++ bs) →
    ∃ t, exec (.preemptReceived n bs) s = .next t ∧ (t.lane n).rx = none ∧ (t.lane n).rxHeld = some { f with bytes := f.bytes ++ bs }
      ∧ t.get (Reg.LANE_STAT.PREOPEN.at n) = 1 ∧ t.events = s.events ∧ memSame s t) ∧
  (∀ (n : Lane) (it : QItem) (r : List QItem) (f : PFrame) (s : State), s.awake = true → s.txReady n = true → (s.lane n).qx = it :: r → it.crossing = false → s.frame? it.fid = some f →
    s.creditFor n (State.totalOf f) 0 = true → s.gateCode f = 0 → s.lanePass n f = true → hType f.bytes ≠ 0x13 →
    ∃ t, exec (.egressFrameStart n) s = .next t ∧ (t.lane n).tx = some { fid := it.fid, stamp := s.now, from_ := s.now + ns 8, off := 0, sent := 0 } ∧ sent s t [.sf n (s.get (Reg.LANE_CREDIT.TXD.at n))]
      ∧ t.events = s.events ∧ regsBut s t [] ∧ memSame s t) ∧
  (∀ (n : Lane) (x y : Nat) (s : State), s.awake = true → s.nextExpress n = some (x, y) → txIdle s n = true →
    ∃ t, exec (.expressIntervalStart n) s = .next t ∧ t.now = max s.now x ∧ t.lanes = s.lanes ∧ t.events = s.events ∧ regsBut s t [] ∧ memSame s t) ∧
  (∀ (n : Lane) (x : TxFrame) (f : PFrame) (s : State), s.awake = true → ((s.advance n).lane n).tx = some x → (s.advance n).frame? x.fid = some f →
    exec (.txSourceStall n) s = .next (if f.complete || decide (x.sent < f.bytes.length / 4 * 4) then s.advance n else ((s.advance n).stallFrame x.fid).runTx n).settle) ∧
  (∀ (n : Lane) (bs : Bytes) (f : RxFrame) (s : State), s.awake = true → (s.lane n).rx = some f → f.stage = .open_ → 32 ≤ (f.bytes ++ bs).length → headerCheck (f.bytes ++ bs) = .ok →
    (s.lane n).rxHeld = none → (s.lane n).tx = none → 0x10 ≤ hType (f.bytes ++ bs) → hType (f.bytes ++ bs) ≤ 0x14 → (s.lane n).heldOut = 0 →
    ∃ t, exec (.frameDecision n bs) s = .next t ∧ (t.lane n).rx = some { f with bytes := f.bytes ++ bs, stage := .consumed } ∧ t.events = s.events ∧ t.fab = s.fab ∧ memSame s t) ∧
  (∀ (n : Lane) (bs : Bytes) (good : Bool) (f : RxFrame) (s : State), s.awake = true → (s.lane n).rx = some f → f.giant = false → (f.bytes ++ bs).length ≤ 31 →
    f.stage = .open_ → (s.lane n).rxHeld = none → (s.lane n).tx = none →
    ∃ t, exec (.laneFrameEnd n bs good 0) s = .next t ∧ (t.lane n).rx = none ∧ t.get (Reg.LANE_RUNT.COUNT.at n) = min (s.get (Reg.LANE_RUNT.COUNT.at n) + 1) 0xFFFFFFFF
      ∧ t.events = s.events ∧ t.fab = s.fab ∧ memSame s t) ∧
  (∀ (n : Lane) (bs : Bytes) (f : RxFrame) (s : State), s.awake = true → (s.lane n).rx = some f → f.giant = false → f.codeErr = false → f.dev = none → f.stage = .consumed → (s.lane n).rxHeld = none → (s.lane n).tx = none →
    32 ≤ (f.bytes ++ bs).length → headerCheck (f.bytes ++ bs) = .ok → (f.bytes ++ bs).length = frameLen (f.bytes ++ bs) → fcsOk (f.bytes ++ bs) = true →
    ∃ t, exec (.laneFrameEnd n bs true 0) s = .next t ∧ (t.lane n).rx = none ∧ t.get (Reg.LANE_RXGOOD.COUNT.at n) = min (s.get (Reg.LANE_RXGOOD.COUNT.at n) + 1) 0xFFFFFFFF
      ∧ t.events = s.events ∧ t.fab = s.fab ∧ memSame s t) ∧
  (∀ (n : Lane) (bs : Bytes) (f : RxFrame) (s : State), s.awake = true → (s.lane n).rx = some f → f.giant = false → f.stage = .consumed → (s.lane n).rxHeld = none → (s.lane n).tx = none → 32 ≤ (f.bytes ++ bs).length →
    ∃ t, exec (.laneFrameEnd n bs false 0) s = .next t ∧ (t.lane n).rx = none ∧ t.get (Reg.LANE_EBIN.COUNT.at n) = min (s.get (Reg.LANE_EBIN.COUNT.at n) + 1) 0xFFFFFFFF
      ∧ t.events = s.events ∧ t.fab = s.fab ∧ memSame s t) ∧
  (∀ (n : Lane) (bs : Bytes) (f : RxFrame) (s : State), s.awake = true → (s.lane n).rx = some f → f.stage = .open_ → 32 ≤ (f.bytes ++ bs).length → headerCheck (f.bytes ++ bs) = .hcrc → (s.lane n).rxHeld = none → (s.lane n).tx = none →
    ∃ t, exec (.frameDecision n bs) s = .next t ∧ (t.lane n).rx = some { f with bytes := f.bytes ++ bs, stage := .dropped } ∧ t.get (Reg.LANE_HCRC.COUNT.at n) = min (s.get (Reg.LANE_HCRC.COUNT.at n) + 1) 0xFFFFFFFF
      ∧ t.events = s.events ∧ t.fab = s.fab ∧ memSame s t) ∧
  (∀ (n : Lane) (d : Byte) (u s : State), s.awake = true → s.laneUp n = true → u = (s.endTrailing n).endAsEb n → d.toNat ≠ u.get (Reg.LANE_CREDIT.RXA.at n) →
    exec (.resumeReceived n d) s = .next ((if (u.lane n).rxHeld.isNone then (u.protoErr n).onLane n (fun l => { l with rxSkip := true }) else u).startResync n).settle) ∧
  (∀ (n : Lane) (bs : Bytes) (f : RxFrame) (u s : State), s.awake = true → (s.lane n).rx.isSome = true → u = s.takeBytes n bs → (u.lane n).rx = some f →
    ((hCls f.bytes).express || decide (f.bytes.length % 64 ≠ 0) || decide (f.bytes.length < 64) || decide (frameLen f.bytes < f.bytes.length + 64) || (u.lane n).rxHeld.isSome) = true →
    exec (.preemptReceived n bs) s = .next ((u.endAsEb n).protoErr n).settle) ∧
  (∀ (n : Lane) (bs : Bytes) (f : RxFrame) (fid : Nat) (u s : State), s.awake = true → (s.lane n).rx.isSome = true → u = s.takeBytes n bs → (u.lane n).rx = some f → f.stage = .kept fid → (hCls f.bytes).express = false →
    f.bytes.length % 64 = 0 → 64 ≤ f.bytes.length → f.bytes.length + 64 ≤ frameLen f.bytes → (u.lane n).rxHeld = none →
    exec (.preemptReceived n bs) s = .next (((((u.onLane n fun l => { l with rx := none, rxHeld := some f }).onFrame fid fun p => { p with bytes := f.bytes }).preemptCopies fid f.bytes.length).put (Reg.LANE_STAT.PREOPEN.at n) 1).refreshOcc n).settle) ∧
  (∀ (n : Lane) (bs : Bytes) (f : RxFrame) (u s : State), s.awake = true → (s.lane n).rx.isSome = true → u = s.takeBytes n bs → (u.lane n).rx = some f →
    exec (.giantByteReceived n bs) s = .next ((if decide (f.bytes.length < 2077) || f.giant then u else ((u.abortRx (some f)).bump (Reg.LANE_GIANT.COUNT.at n)).onLane n fun l => { l with rx := some { f with giant := true, stage := .dropped } }).refreshOcc n).settle) ∧
  (∀ (n : Lane) (bs : Bytes) (good : Bool) (k : Nat) (s : State), s.awake = true → (s.lane n).rx.isSome = true →
    exec (.frameDecision n bs) s = .next ((((s.takeBytes n bs).decideFrame n).feedFrame n).refreshOcc n).settle ∧ exec (.laneFrameEnd n bs good k) s = .next ((s.takeBytes n bs).endFrame n good k).settle) ∧
  (∀ (n : Lane) (bs : Bytes) (good : Bool) (k : Nat) (s : State), s.awake = true → (s.lane n).rx = none →
    exec (.frameDecision n bs) s = .next ((s.takeBytes n bs).refreshOcc n).settle ∧ exec (.giantByteReceived n bs) s = .next ((s.takeBytes n bs).refreshOcc n).settle ∧ exec (.preemptReceived n bs) s = .next (s.passRest n bs).settle ∧ exec (.laneFrameEnd n bs good k) s = .next (((s.codeErrors n k).passRest n bs).judgeErrors n).settle) ∧
  (∀ (n : Lane) (bs : Bytes) (s : State), (s.lane n).rx = none → ((s.lane n).rxSkip = false → s.takeBytes n bs = s ∧ s.passRest n bs = (s.onLane n fun l => { l with rxRest := false, skipLen := 0 }).refreshOcc n)
      ∧ ((s.lane n).rxSkip = true → (s.passRest n bs).get (Reg.LANE_CREDIT.RXA.at n) = (s.get (Reg.LANE_CREDIT.RXA.at n) + (blocksOf ((s.lane n).skipLen + bs.length) - blocksOf (s.lane n).skipLen)) % 256)) ∧
  (∀ (n : Lane) (s : State), s.awake = true → exec (.egressFrameStart n) s = .next ((s.finishTx n).chooseTx n).settle
      ∧ exec (.expressIntervalStart n) s = .next (match s.nextExpress n with | none => s | some (x, _) => ((s.reach x).advance n).chooseTx n).settle) ∧
  (∀ (n : Lane) (s : State), s.awake = true → ((s.advance n).lane n).tx = none → exec (.txSourceStall n) s = .next (s.advance n).settle) ∧
  (∀ (n : Lane) (d : Byte) (s : State), s.awake = true → s.laneUp n = false → exec (.resumeReceived n d) s = .next s.settle)

/-- What the timers of inauguration do. A PROBE leaves an ACTIVE lane every 20 µs until the lane is working, then, and on a lane held out of service, every 1 ms, but none from a twin half that still seeks its partner; an answer that has not come 500 µs after ACTIVE is counted and recorded once, where the lane is up, not working and not held; the end of a quarantine is recorded and lets the lanes train again; T_STARTUP and T_SETTLE, once both have passed, let a due round start at a node that is no stack member; T_WAVE and T_AGREE fail the round, with the count of INAU_WAVETO, the self-exclusion and NOAGREE as R96 and R97 say, and a pending roster falls; the outage grace that ends without a return is recorded as 0x0222 and is a joint change; the spacing after NOAGREE lets the delayed round start; a timer that does not run changes nothing. -/
def Obligations.InauTimers : Prop :=
  (∀ (n : Lane) (q : Nat) (u s : State), s.awake = true → s.laneUp n = true → (s.lane n).probeAt = some q →
    u = (s.reach q).onLane n (fun l => { l with probeAt := some (max s.now q + if (s.lane n).working || (s.lane n).heldOut ≠ 0 then ms 1 else us 20) }) →
    exec (.probeSendTimer n) s = .next (if s.seeking then u else u.originate (u.inauFrame 0x10 (u.probePayload n)) [n.val]).settle) ∧
  (∀ (e : VEnd) (q : Nat) (s : State), s.awake = true → (s.vend e).quarantine = some q →
    ∃ t, exec (.quarantineExpiry e) s = .next t ∧ (t.vend e).quarantine = none ∧ newest t = some 0x022E ∧ t.now = max s.now q ∧ memSame s t) ∧
  (∀ (n : Lane) (q : Nat) (s : State), s.awake = true → (s.lane n).answerAt = some q → s.laneUp n = true → (s.lane n).working = false → (s.lane n).heldOut = 0 →
    ∃ t, exec (.probeAnswerTimeout n) s = .next t ∧ t.get Reg.INAU_PROBETO.COUNT = min (s.get Reg.INAU_PROBETO.COUNT + 1) 0xFFFFFFFF ∧ newest t = some 0x0206
      ∧ (t.lane n).answerAt = none ∧ t.now = max s.now q ∧ regsBut s t [Reg.INAU_PROBETO.COUNT] ∧ memSame s t) ∧
  (∀ (q : Nat) (s : State), s.awake = true → s.inau.startupAt = some q → s.inau.settleAt.isSome = true →
    ∃ t, exec .tStartupExpiry s = .next t ∧ t.inau = { s.inau with startupAt := none } ∧ t.now = max s.now q ∧ t.events = s.events ∧ regsBut s t [Reg.INAU_STAT.STATE] ∧ memSame s t) ∧
  (∀ (q : Nat) (s : State), s.awake = true → s.inau.startupAt = some q → s.inau.settleAt = none → s.inau.changed = true → s.flag Reg.INAU_STAT.NOAGREE = false → s.stackId = 0 →
    exec .tStartupExpiry s = .next ({ s.reach q with inau.startupAt := none } : State).startRound.settle) ∧
  (∀ (q : Nat) (s : State), s.awake = true → s.inau.settleAt = some q → s.inau.startupAt.isSome = true →
    ∃ t, exec .tSettleExpiry s = .next t ∧ t.inau = { s.inau with settleAt := none } ∧ t.now = max s.now q ∧ t.events = s.events ∧ regsBut s t [Reg.INAU_STAT.STATE] ∧ memSame s t) ∧
  (∀ (q : Nat) (s : State), s.awake = true → s.inau.settleAt = some q → s.inau.startupAt = none → s.inau.changed = true → s.flag Reg.INAU_STAT.NOAGREE = false → s.stackId = 0 →
    exec .tSettleExpiry s = .next ({ s.reach q with inau.settleAt := none } : State).startRound.settle) ∧
  (∀ (q : Nat) (r : Round) (s : State), s.awake = true → s.inau.waveAt = some q → s.inau.round = some r → s.roundRelays r = [] → s.mayStartRound = false →
    ∃ t, exec .tWaveExpiry s = .next t ∧ t.inau.round = some { r with phase := .failed, relays := [], minority := State.minorityNow r } ∧ t.inau.fails = s.inau.fails + 1 ∧ t.inau.waveAt = none
      ∧ t.inau.agreeAt = none ∧ t.inau.kept = none ∧ t.inau.minor = (if State.minorityNow r then s.inau.minor + 1 else 0) ∧ t.inau.mustStart = true
      ∧ t.get Reg.INAU_WAVETO.COUNT = min (s.get Reg.INAU_WAVETO.COUNT + 1) 0xFFFFFFFF ∧ t.now = max s.now q
      ∧ regsBut s t [Reg.INAU_WAVETO.COUNT, Reg.INAU_STAT.EXCL, Reg.INAU_STAT.NOAGREE, Reg.INAU_IRQ.NOAGREE, Reg.INAU_STAT.STATE] ∧ memSame s t) ∧
  (∀ (q : Nat) (r : Round) (s : State), s.awake = true → s.inau.agreeAt = some q → s.inau.round = some r → s.roundRelays r = [] → s.mayStartRound = false →
    ∃ t, exec .tAgreeExpiry s = .next t ∧ t.inau.round = some { r with phase := .failed, relays := [], minority := State.minorityNow r } ∧ t.inau.fails = s.inau.fails + 1 ∧ t.inau.waveAt = none
      ∧ t.inau.agreeAt = none ∧ t.inau.kept = none ∧ t.inau.minor = (if State.minorityNow r then s.inau.minor + 1 else 0) ∧ t.inau.mustStart = true ∧ t.now = max s.now q
      ∧ (r.phase = .pending → t.inau.pending = none ∧ t.inau.noon = none ∧ t.get Reg.INAU_NOON.NOON = s.inau.lastNoon % 2 ^ 32)
      ∧ regsBut s t [Reg.INAU_NOON.NOON, Reg.INAU_STAT.EXCL, Reg.INAU_STAT.NOAGREE, Reg.INAU_IRQ.NOAGREE, Reg.INAU_STAT.STATE] ∧ memSame s t) ∧
  (∀ (e : VEnd) (q : Nat) (s : State), s.awake = true → (s.vend e).grace = some q → (s.vend e).changes = [] → (s.inau.settleAt = none ∧ s.roundOpen = false ∨ s.inau.force = none) →
    ∃ t, exec (.outageGraceExpiry e) s = .next t ∧ (t.vend e).grace = none ∧ (t.vend e).quarantine = (s.vend e).quarantine ∧ t.inau.changed = true ∧ t.inau.fails = 0
      ∧ t.inau.settleAt = some (max s.now q + s.tSettle) ∧ newest t = some 0x0222 ∧ t.now = max s.now q ∧ regsBut s t [Reg.INAU_STAT.STATE]) ∧
  (∀ (q : Nat) (s : State), s.awake = true → s.inau.spacingAt = some q → s.mayStartRound = true →
    exec .noagreeRoundSpacing s = .next ({ s.reach q with inau.spacingAt := none } : State).startRound.settle) ∧
  (∀ (q : Nat) (s : State), s.awake = true → s.inau.spacingAt = some q → s.mayStartRound = false →
    ∃ t, exec .noagreeRoundSpacing s = .next t ∧ t.inau = { s.inau with spacingAt := none } ∧ t.now = max s.now q ∧ t.events = s.events ∧ regsBut s t [] ∧ memSame s t) ∧
  (∀ (n : Lane) (s : State), s.awake = true →
    ((s.laneUp n = false ∨ (s.lane n).probeAt = none) → exec (.probeSendTimer n) s = .next s.settle)
      ∧ ((s.lane n).answerAt = none → exec (.probeAnswerTimeout n) s = .next s.settle)) ∧
  (∀ (n : Lane) (q : Nat) (s : State), s.awake = true → (s.lane n).answerAt = some q → (s.laneUp n = false ∨ (s.lane n).working = true ∨ (s.lane n).heldOut ≠ 0) →
    exec (.probeAnswerTimeout n) s = .next ((s.reach q).onLane n fun l => { l with answerAt := none }).settle) ∧
  (∀ (e : VEnd) (s : State), s.awake = true → exec (.quarantineExpiry e) s = .next (match (s.vend e).quarantine with | none => s | some q => (s.reach q).endQuarantine e 1).settle
      ∧ exec (.outageGraceExpiry e) s = .next (match (s.vend e).grace with | none => s | some q => (((s.reach q).onEnd e fun v => { v with grace := none, graceIds := [] }).record 0x0222).jointChange (some e.val)).settle) ∧
  (∀ (s : State), s.awake = true →
    exec .tStartupExpiry s = .next (match s.inau.startupAt with | none => s | some q => ({ s.reach q with inau.startupAt := none } : State).judgeStart).settle
      ∧ exec .tSettleExpiry s = .next (match s.inau.settleAt with | none => s | some q => ({ s.reach q with inau.settleAt := none } : State).judgeStart).settle
      ∧ exec .tWaveExpiry s = .next (match s.inau.waveAt with | none => s | some q => ((s.reach q).bump Reg.INAU_WAVETO.COUNT).failRound true).settle
      ∧ exec .tAgreeExpiry s = .next (match s.inau.agreeAt with | none => s | some q => (if (s.inau.round.any fun r : Round => decide (r.phase = Phase.pending)) then (s.reach q).dropPending else s.reach q).failRound true).settle) ∧
  (∀ (s : State), s.awake = true → s.inau.spacingAt = none → exec .noagreeRoundSpacing s = .next s.settle)

/-- Frames of a round and the end of the compute phase. A PROBE that passes the checks is taken; a START of a better round is adopted and relayed, a START of a worse round is counted as stale; a COUNT segment of the held round whose wave goes no further is kept; the compute phase ends with the roster and its AGREE deadline, 0x0224 and 0x0227 recorded where they are due, or in NOTADM with position 0 where no admission is possible, a lone node then (the model’s choice, log entry 38) with no roster in force and none of its roles; an AGREE is kept, a DISAGREE already relayed fails the round, a DAYBREAK is kept until agreement completes; each frame that passes the checks of its kind acts as the function of the model named here says, any other frame, and the end of a compute phase that does not run, changes nothing. -/
def Obligations.InauFrames : Prop :=
  (∀ (n : Lane) (f : Bytes) (s : State), s.awake = true → s.laneUp n = true → headerCheck f = .ok → hCls f = .mgmt → hType f = 0x10 → hLen f = 48 →
    exec (.probeReceived n f) s = .next (s.takeProbe n (payload f)).settle) ∧
  (∀ (n : Lane) (f : Bytes) (s : State), s.awake = true → s.inauFrameOk n f 0x11 = true → hLen f = 16 → byteAt (payload f) 0 = 1 →
    s.isBetter (fieldAt (payload f) 2 2) (fieldAt (payload f) 4 8) = true →
    exec (.waveStartReceived n f) s = .next ((s.noteRnd (fieldAt (payload f) 2 2)).adoptFrom (endOf n) (fieldAt (payload f) 2 2) (fieldAt (payload f) 4 8)
      (bit (byteAt (payload f) 1) 7) (fieldAt (payload f) 12 4)).settle) ∧
  (∀ (n : Lane) (f : Bytes) (s : State), s.awake = true → s.inauFrameOk n f 0x11 = true → hLen f = 16 → byteAt (payload f) 0 = 1 →
    s.isBetter (fieldAt (payload f) 2 2) (fieldAt (payload f) 4 8) = false → s.heldIs (fieldAt (payload f) 2 2) (fieldAt (payload f) 4 8) = false →
    ∃ t, exec (.waveStartReceived n f) s = .next t ∧ t.inau.round = s.inau.round ∧ t.get Reg.INAU_STALE.COUNT = min (s.get Reg.INAU_STALE.COUNT + 1) 0xFFFFFFFF
      ∧ t.events = s.events ∧ regsBut s t [Reg.INAU_STALE.COUNT] ∧ memSame s t) ∧
  (∀ (n : Lane) (hd : Bytes) (s : State), s.awake = true → 56 ≤ hd.length → s.inauFrameOk n hd 0x11 = true → byteAt hd 24 = 2 →
    exec (.countRelayStart n hd) s = .next (s.startRelay n (hd.drop 24)).settle) ∧
  (∀ (n : Lane) (f : Bytes) (r : Round) (g : Seg) (s : State), s.awake = true → s.inauFrameOk n f 0x11 = true → byteAt (payload f) 0 = 2 → hLen f = 32 + 16 * fieldAt (payload f) 22 2 →
    s.isBetter (fieldAt (payload f) 2 2) (fieldAt (payload f) 4 8) = false → s.heldIs (fieldAt (payload f) 2 2) (fieldAt (payload f) 4 8) = true →
    s.inau.round = some r → r.phase = .count → g = State.parseSeg (payload f) (endOf n) → (r.segs.any fun x => State.segKey x = State.segKey g) = false → r.dead.contains (g.origin, g.oend) = false →
    ((r.segs ++ [g]).any fun x => s.relaysOut r x) = false → ((r.segs ++ [g]).any (·.ovf)) = false →
    s.heldChain { r with segs := r.segs ++ [g] } = none →
    ∃ t, exec (.waveCountReceived n f true) s = .next t ∧ t.inau.round = some { r with segs := r.segs ++ [g], copies := r.copies.filter (fun c => c.2.1 ≠ n.val), own := some (r.own.getD (s.waveEntry r.rnd 0, s.ownId)) }
      ∧ t.lanes = s.lanes ∧ t.events = s.events ∧ regsBut s t [] ∧ memSame s t) ∧
  (∀ (r : Round) (c : List Link) (loop : Bool) (s : State), s.awake = true → s.inau.round = some r → r.phase = .compute → s.heldChain r = some (c, loop) →
    computeRoster c loop s.entryUid s.cycleUnits s.ownGuard s.roundMode = none → (c.length ≠ 1 ∨ s.inau.force = none) →
    ∃ t, exec .rosterComputeComplete s = .next t ∧ t.inau.round = some { r with phase := .noAdm } ∧ t.inau.agreeAt = none ∧ t.get Reg.INAU_POS.POS = 0
      ∧ t.flag Reg.INAU_STAT.NOTADM = true ∧ t.flag Reg.INAU_IRQ.NOTADM = true ∧ t.events = s.events ∧ t.inau.force = s.inau.force ∧ t.lanes = s.lanes
      ∧ regsBut s t [Reg.INAU_POS.POS, Reg.INAU_STAT.NOTADM, Reg.INAU_IRQ.NOTADM, Reg.INAU_STAT.STATE] ∧ memSame s t) ∧
  (∀ (r : Round) (c : List Link) (loop : Bool) (hd : Held) (s : State), s.awake = true → s.inau.round = some r → r.phase = .compute → s.heldChain r = some (c, loop) →
    computeRoster c loop s.entryUid s.cycleUnits s.ownGuard s.roundMode = some hd → s.workEnds = [0, 1] → r.seam = false → r.agrees = [] →
    ∃ t, exec .rosterComputeComplete s = .next t ∧ t.inau.round = some { r with computed := some hd, phase := .agree }
      ∧ t.inau.agreeAt = some (s.now + if s.cycRun then 3 * s.tLen else ms 3) ∧ (hd.tiChanged = false → hd.collided = false → t.events = s.events)
      ∧ (hd.collided = true → newest t = some 0x0227) ∧ (hd.tiChanged = true → hd.collided = false → newest t = some 0x0224) ∧ regsBut s t [Reg.INAU_STAT.STATE] ∧ memSame s t) ∧
  (∀ (n : Lane) (f : Bytes) (r : Round) (s : State), s.awake = true → s.inauFrameOk n f 0x12 = true → hLen f = 48 → byteAt (payload f) 0 = 1 →
    s.inau.round = some r → r.rnd = fieldAt (payload f) 2 2 → r.phase ≠ .committed → r.computed = none → r.agrees = [] →
    ∃ t, exec (.agreeReceived n f) s = .next t ∧ t.inau.round = some { r with agrees := [{ arrived := endOf n, sum := fieldAt (payload f) 4 4, count := fieldAt (payload f) 8 2, cyc := fieldAt (payload f) 12 4, gen := fieldAt (payload f) 10 2, origin := fieldAt (payload f) 16 8, cold := bit (byteAt (payload f) 1) 7, done := false }] } ∧ t.events = s.events ∧ regsBut s t [] ∧ memSame s t) ∧
  (∀ (n : Lane) (f : Bytes) (r : Round) (s : State), s.awake = true → s.inauFrameOk n f 0x12 = true → hLen f = 48 → byteAt (payload f) 0 = 2 →
    s.inau.round = some r → r.rnd = fieldAt (payload f) 2 2 → (r.phase = .count ∨ r.phase = .compute ∨ r.phase = .agree) → (if oppEnd (endOf n) = 0 then r.dis1 else r.dis2) = true → s.roundRelays r = [] →
    ∃ t, exec (.disagreeReceived n f) s = .next t ∧ t.inau.round = some { r with phase := .failed, relays := [], minority := State.minorityNow r } ∧ t.inau.fails = s.inau.fails + 1 ∧ t.inau.waveAt = none
      ∧ t.inau.agreeAt = none ∧ t.inau.kept = none ∧ t.flag Reg.INAU_IRQ.DISAG = true ∧ t.lanes = s.lanes
      ∧ regsBut s t [Reg.INAU_IRQ.DISAG, Reg.INAU_STAT.EXCL, Reg.INAU_STAT.NOAGREE, Reg.INAU_IRQ.NOAGREE, Reg.INAU_STAT.STATE] ∧ memSame s t) ∧
  (∀ (n : Lane) (f : Bytes) (ago : Nat) (r : Round) (s : State), s.awake = true → s.inauFrameOk n f 0x12 = true → hLen f = 48 → byteAt (payload f) 0 = 3 →
    s.inau.round = some r → r.rnd = fieldAt (payload f) 2 2 → (r.phase = .count ∨ r.phase = .compute ∨ r.phase = .agree) → (if oppEnd (endOf n) = 0 then r.db1 else r.db2) = true → r.daybreak = none →
    hCorr f ≠ corrInvalid → (s.pdIn n).isSome = true →
    ∃ t, exec (.daybreakReceived n f ago) s = .next t ∧ t.inau.round = some { r with daybreak := some (((s.now - ago : Nat) : Int) - (signed 48 (hCorr f) + (s.pdIn n).getD 0) + ns (fieldAt (payload f) 28 4),
        fieldAt (payload f) 12 4, (ofSecNs (fieldAt (payload f) 32 6) (fieldAt (payload f) 38 4)).toNat, bit (byteAt (payload f) 1) 7, false) } ∧ t.events = s.events ∧ regsBut s t [] ∧ memSame s t) ∧
  (∀ (n : Lane) (f : Bytes) (ago : Nat) (r : Round) (s : State), s.awake = true → s.inauFrameOk n f 0x12 = true → hLen f = 48 → byteAt (payload f) 0 = 3 →
    s.inau.round = some r → r.rnd = fieldAt (payload f) 2 2 → (r.phase = .count ∨ r.phase = .compute ∨ r.phase = .agree) → (if oppEnd (endOf n) = 0 then r.db1 else r.db2) = true → r.daybreak = none →
    hCorr f ≠ corrInvalid → (s.pdIn n).isSome = true →
    ∃ t, exec (.mergeDaybreakReceived n f ago) s = .next t ∧ t.inau.round = some { r with daybreak := some (((s.now - ago : Nat) : Int) - (signed 48 (hCorr f) + (s.pdIn n).getD 0) + ns (fieldAt (payload f) 28 4),
        fieldAt (payload f) 12 4, (ofSecNs (fieldAt (payload f) 32 6) (fieldAt (payload f) 38 4)).toNat, bit (byteAt (payload f) 1) 7, false) } ∧ t.events = s.events ∧ regsBut s t [] ∧ memSame s t) ∧
  (∀ (n : Lane) (f : Bytes) (s : State), s.awake = true →
    exec (.probeReceived n f) s = .next (if s.laneUp n && headerCheck f = .ok && hCls f = .mgmt && hType f = 0x10 && hLen f = 48 then s.takeProbe n (payload f) else s).settle
      ∧ exec (.waveStartReceived n f) s = .next (if s.inauFrameOk n f 0x11 && hLen f = 16 && byteAt (payload f) 0 = 1 then s.takeStart (endOf n) (payload f) else s).settle
      ∧ exec (.countRelayStart n f) s = .next (if 56 ≤ f.length && s.inauFrameOk n f 0x11 && byteAt f 24 = 2 then s.startRelay n (f.drop 24) else s).settle
      ∧ exec (.agreeReceived n f) s = .next (if s.inauFrameOk n f 0x12 && hLen f = 48 && byteAt (payload f) 0 = 1 then s.takeAgree (endOf n) (payload f) else s).settle
      ∧ exec (.disagreeReceived n f) s = .next (if s.inauFrameOk n f 0x12 && hLen f = 48 && byteAt (payload f) 0 = 2 then s.takeDisagree (endOf n) (payload f) else s).settle) ∧
  (∀ (n : Lane) (f : Bytes) (good : Bool) (s : State), s.awake = true →
    exec (.waveCountReceived n f good) s = .next (if s.inauFrameOk n f 0x11 && byteAt (payload f) 0 = 2 then s.takeCount n (payload f) (good && hLen f = 32 + 16 * fieldAt (payload f) 22 2) else s).settle) ∧
  (∀ (n : Lane) (f : Bytes) (ago : Nat) (s : State), s.awake = true →
    exec (.daybreakReceived n f ago) s = .next (if s.inauFrameOk n f 0x12 && hLen f = 48 && byteAt (payload f) 0 = 3 then s.takeDaybreak n f ago else s).settle
      ∧ exec (.mergeDaybreakReceived n f ago) s = exec (.daybreakReceived n f ago) s) ∧
  (∀ (s : State), s.awake = true → (s.inau.round.any fun r => r.phase = .compute) = false → exec .rosterComputeComplete s = .next s.settle) ∧
  (∀ (r : Round) (c : List Link) (loop : Bool) (s : State), s.awake = true → s.inau.round = some r → r.phase = .compute → s.heldChain r = some (c, loop) →
    computeRoster c loop s.entryUid s.cycleUnits s.ownGuard s.roundMode = none → c.length = 1 → s.inau.force.isSome = true →
    ∃ t, exec .rosterComputeComplete s = .next t ∧ t.inau.round = some { r with phase := .noAdm } ∧ t.inau.force = none ∧ t.inau.prev = none ∧ t.inau.agreeAt = none ∧ t.flag Reg.INAU_STAT.NOTADM = true ∧ t.flag Reg.INAU_IRQ.NOTADM = true
      ∧ t.get Reg.INAU_GEN.GEN = 0 ∧ t.get Reg.INAU_POS.POS = 0 ∧ t.get Reg.INAU_POS.NPOS = 0 ∧ t.get Reg.INAU_ROLE.LEADER = 0 ∧ t.get Reg.INAU_ROLE.TIMEREF = 0 ∧ t.get Reg.INAU_STAT.INFORCE = 0) ∧
  (∀ (s : State), s.awake = true → exec .rosterComputeComplete s = .next s.computeComplete.settle)

/-- Writes to the inauguration registers. A change of INAU_CTRL.EN or LEADMASK and a write of 1 to REINAU each are a joint change that restarts T_SETTLE; REINAU also clears the self-exclusion; a write of INAU_MBSEL loads the mailbox. That the mailbox shows VALID 1 for an index outside Table 03.18 too is the model’s choice (log entry 38, R106). -/
def Obligations.InauWrites : Prop :=
  (∀ (v : Word) (s : State), s.awake = true → Reg.INAU_CTRL.EN.of v.toNat ≠ s.get Reg.INAU_CTRL.EN → bit v.toNat 1 = false →
    ∃ t, exec (.inauEnWrite v) s = .next t ∧ t.get Reg.INAU_CTRL.EN = Reg.INAU_CTRL.EN.of v.toNat ∧ t.inau.changed = true ∧ t.inau.settleAt = some (s.now + s.tSettle) ∧ t.inau.fails = 0
      ∧ t.lanes = s.lanes ∧ t.events = s.events ∧ t.img = s.img ∧ t.prg = s.prg ∧ t.recd = s.recd) ∧
  (∀ (v : Word) (s : State), s.awake = true → Reg.INAU_CTRL.LEADMASK.of v.toNat ≠ s.get Reg.INAU_CTRL.LEADMASK → bit v.toNat 1 = false →
    ∃ t, exec (.inauLeadmaskWrite v) s = .next t ∧ t.get Reg.INAU_CTRL.LEADMASK = Reg.INAU_CTRL.LEADMASK.of v.toNat ∧ t.inau.changed = true ∧ t.inau.settleAt = some (s.now + s.tSettle) ∧ t.inau.fails = 0
      ∧ t.lanes = s.lanes ∧ t.events = s.events ∧ t.img = s.img ∧ t.prg = s.prg ∧ t.recd = s.recd) ∧
  (∀ (v : Word) (s : State), s.awake = true → bit v.toNat 1 = true → (s.vend 0).quarantine = none → (s.vend 1).quarantine = none →
    ∃ t, exec (.inauReinauWrite v) s = .next t ∧ t.get Reg.INAU_STAT.EXCL = 0 ∧ t.inau.minor = 0 ∧ t.inau.changed = true ∧ t.inau.settleAt = some (s.now + s.tSettle) ∧ t.inau.fails = 0
      ∧ t.lanes = s.lanes ∧ t.events = s.events ∧ t.img = s.img ∧ t.prg = s.prg ∧ t.recd = s.recd) ∧
  (∀ (v : Word) (s : State), s.awake = true →
    ∃ t, exec (.inauMbselWrite v) s = .next t ∧ t.get Reg.INAU_MBSTAT.VALID = 1 ∧ t.get Reg.INAU_MBSEL.SRC = Reg.INAU_MBSEL.SRC.of v.toNat ∧ t.get Reg.INAU_MBSEL.INDEX = Reg.INAU_MBSEL.INDEX.of v.toNat
      ∧ (∀ b, b = s.mailBytes (Reg.INAU_MBSEL.SRC.of v.toNat) (Reg.INAU_MBSEL.INDEX.of v.toNat) →
          t.get Reg.INAU_MBD0.DATA = fieldAt b 0 4 % 2 ^ 32 ∧ t.get Reg.INAU_MBD1.DATA = fieldAt b 4 4 % 2 ^ 32 ∧ t.get Reg.INAU_MBD2.DATA = fieldAt b 8 4 % 2 ^ 32 ∧ t.get Reg.INAU_MBD3.DATA = fieldAt b 12 4 % 2 ^ 32)
      ∧ t.events = s.events ∧ memSame s t) ∧
  (∀ (v : Word) (s : State), s.awake = true →
    exec (.inauEnWrite v) s = .next (s.writeInauCtrl v.toNat).settle ∧ exec (.inauLeadmaskWrite v) s = .next (s.writeInauCtrl v.toNat).settle
      ∧ exec (.inauReinauWrite v) s = .next (s.writeInauCtrl v.toNat).settle ∧ exec (.inauMbselWrite v) s = .next (s.writeInauMb v.toNat).settle) ∧
  (∀ (v : Word) (s : State), s.awake = true → Reg.INAU_CTRL.EN.of v.toNat = s.get Reg.INAU_CTRL.EN → Reg.INAU_CTRL.LEADMASK.of v.toNat = s.get Reg.INAU_CTRL.LEADMASK → bit v.toNat 1 = false →
    ∃ t, exec (.inauEnWrite v) s = .next t ∧ t.get Reg.INAU_CTRL.LEADEND = Reg.INAU_CTRL.LEADEND.of v.toNat ∧ t.get Reg.INAU_CTRL.STICKY = Reg.INAU_CTRL.STICKY.of v.toNat ∧ t.get Reg.INAU_CTRL.SYNCCAP = Reg.INAU_CTRL.SYNCCAP.of v.toNat
      ∧ t.get Reg.INAU_CTRL.LHCAND = Reg.INAU_CTRL.LHCAND.of v.toNat ∧ t.inau = s.inau ∧ t.events = s.events ∧ memSame s t)

/-- Cycle boundaries and the conservation check. At a boundary that the node reaches by counting the cycle number counts by one, the next cycle begins T after the last, the agreement round of the cycle that ends runs, and then what every boundary runs, in the new cycle; a node counts from the cycle that a DAYBREAK names, after as many whole cycles as have passed since t_b, with the train time of the DAYBREAK; the t_b of a re-phase ends the cycle, is recorded as 0x0226, and at a merge its map is that of the DAYBREAK; the units that an epoch step passed fire with the boundary; where no boundary stands, nothing changes; the conservation check raises SUMERR exactly where the five counts of the pool do not sum to 16,384. -/
def Obligations.CycleBoundaries : Prop :=
  (∀ (u v w s : State), s.awake = true → s.cycRun = true → s.rephCycle = false → s.stackId = 0 → v = s.endSteer.reach (s.bnd + s.tLen) →
    u = ({ v with bnd := v.bnd + v.tLen, cyc := (v.cyc + 1) % 2 ^ 32 } : State).rebaseMap → w = (match u.roster with | some r => u.syncRound r v.residNow | none => u).closeCycle →
    exec .cycleBoundary s = .next (w.noonHere.openCycle (!w.time.noonSeen && w.noonHere.time.noonSeen) (decide (w.tLen ≠ w.noonHere.tLen)) false).fireStepped.settle
      ∧ u.cyc = (s.cyc + 1) % 2 ^ 32 ∧ u.bnd = s.bnd + s.tLen ∧ u.now = max s.now (s.bnd + s.tLen)) ∧
  (∀ (tb : Int) (k tt c : Nat) (u v w s : State), s.awake = true → s.inau.place = some (tb, k, tt) → s.inau.rephase = false → s.cycRun = false → v = s.reach tb.toNat → c = v.cyclesSince tb →
    u = State.setMap { v.rebaseAges (((k + c : Nat) : Int) - (v.cyc + 1 : Nat)) with cycRun := true, cyc := (k + c) % 2 ^ 32, bnd := (tb + c * s.tLen).toNat, inau := { s.inau with place := none } } k tt →
    w = u.syncRephase.closeCycle.freshCycle →
    exec .daybreakBoundary s = .next (w.noonHere.openCycle (!w.time.noonSeen && w.noonHere.time.noonSeen) false false).fireStepped.settle) ∧
  (∀ (tb : Int) (k tt c : Nat) (u v w x y s : State), s.awake = true → s.inau.place = some (tb, k, tt) → s.inau.rephase = true → v = s.endSteer.reach tb.toNat → c = v.cyclesSince tb →
    u = { v.rebaseAges ((((k + c) % 2 ^ 32 : Nat) : Int) - (v.cyc + 1 : Nat)) with cycRun := true, cyc := (k + c) % 2 ^ 32, bnd := (tb + c * v.tLen).toNat, time.map := if v.time.map.isSome then (v.mapAt (tb + c * v.tLen).toNat).map fun m => ((k + c) % 2 ^ 32, m) else none, inau := { v.inau with place := none, rephase := false, noon := if v.inau.noon = some k then some ((k + c) % 2 ^ 32) else v.inau.noon } } →
    w = u.syncRephase.closeCycle.freshCycle → x = (if decide (v.inau.noon = some k) || v.cycRun then w.record 0x0226 else w).noonHere →
    y = (if v.inau.noon = some k then x.adoptMap k tt else if x.time.map.isNone then x.setMap k tt else x) →
    exec .rephaseBoundary s = .next (y.openCycle (!w.time.noonSeen && y.time.noonSeen) (v.cycRun && decide (v.tLen ≠ y.tLen)) true).fireStepped.settle) ∧
  (∀ (s : State), s.awake = true → s.poolSumOk = false →
    ∃ t, exec .poolConservationCheck s = .next t ∧ t.flag Reg.FWD_STAT.SUMERR = true ∧ t.flag Reg.FWD_IRQ.SUMERR = true ∧ t.flag Reg.GLB_FAULT.SUMERR = true
      ∧ newest t = some 0x0F01 ∧ regsBut s t [Reg.FWD_STAT.SUMERR, Reg.FWD_IRQ.SUMERR, Reg.GLB_FAULT.SUMERR, Reg.GLB_IRQ.FAULT] ∧ memSame s t) ∧
  (∀ (s : State), s.awake = true → s.poolSumOk = true → exec .poolConservationCheck s = .next s.settle) ∧
  (∀ (s : State), s.awake = true → s.time.stepFrom = none →
    ((s.cycRun = false ∨ s.rephCycle = true ∨ s.stackId ≠ 0) → exec .cycleBoundary s = .next s.settle)
      ∧ ((s.inau.place = none ∨ s.inau.rephase = true ∨ s.cycRun = true) → exec .daybreakBoundary s = .next s.settle)
      ∧ ((s.inau.place = none ∨ s.inau.rephase = false) → exec .rephaseBoundary s = .next s.settle))

/-- The guardian point, the own window and the ages of a cycle. At the guardian point of a sweep the node decides whether it is silent, which is counted, and captures what is due for the cycle of the window, a twin half passing the frames to its partner; when the own window opens what was captured for this cycle is sent by a node that acts its roles, the relay copies by one that does not and sees its partner, or nothing where the node is silent or t_b has come before, and the capture and the waiting frames of stack members are gone after it; a subscription without a copy for MAXAGE cycles becomes STALE, is counted and signalled; a pending mode lapses 8 cycles after its last announcement; a point or window that does not exist, an entry not yet stale and a mode not yet lapsed change nothing. -/
def Obligations.TtCycle : Prop :=
  (∀ (fwd : Bool) (q k : Nat) (r : Roster) (w : Win) (u s : State), s.awake = true → s.nextGuard fwd = some (q, k, r, w) → u = ((s.reach q).commitBy q).progress → u.guardian.1 = true →
    ∃ t, exec (.guardianPoint fwd) s = .next t ∧ (if fwd then t.sched.silF else t.sched.silR) = true ∧ (if fwd then t.sched.cycF else t.sched.cycR) = k ∧ t.flag Reg.SCHD_STAT.SILENT = true
      ∧ t.get Reg.SCHD_SILENT.COUNT = min (u.get Reg.SCHD_SILENT.COUNT + 1) 0xFFFFFFFF ∧ t.lanes = u.lanes ∧ t.now = max s.now q) ∧
  (∀ (fwd : Bool) (q k : Nat) (r : Roster) (w : Win) (caps : List Captured) (u v s : State), s.awake = true → s.nextGuard fwd = some (q, k, r, w) → u = ((s.reach q).commitBy q).progress → u.guardian.1 = false →
    caps = (if u.holdsClaim then u.sched.pubs.filterMap fun e => if pubDue e.2 k r.mode && pubInSweep e.2 fwd r.loop then some ⟨e.1, e.2, natBe 4 k ++ u.img.read (pubSrc e.2) (pubLen e.2), 0⟩ else none else []) →
    v = u.guardian.2 →
    exec (.guardianPoint fwd) s = .next ((if fwd then { v with sched := { v.sched with silF := false, capF := caps, cycF := k } } else { v with sched := { v.sched with silR := false, capR := caps, cycR := k } }).passRelays fwd w k).settle) ∧
  (∀ (fwd : Bool) (w : Win) (s : State), s.awake = true → s.ownWin = some w → s.cycRun = true → w.d ≠ 0 → (if fwd then s.sched.silF else s.sched.silR) = true → s.sched.stackQ = [] →
    ∃ t, exec (.ownWindowOpen fwd) s = .next t ∧ (if fwd then t.sched.capF else t.sched.capR) = [] ∧ t.lanes = s.lanes ∧ t.fab = s.fab ∧ t.now = max s.now (s.bnd + ns (if fwd then w.oF else w.oR))
      ∧ t.events = s.events ∧ regsBut s t [] ∧ memSame s t) ∧
  (∀ (fwd : Bool) (w : Win) (o : Nat) (u v x s : State), s.awake = true → s.ownWin = some w → s.cycRun = true → w.d ≠ 0 → o = (if fwd then w.oF else w.oR) → u = s.reach (s.bnd + ns o) →
    v = (if (if fwd then u.sched.cycF else u.sched.cycR) = u.cyc then u else if fwd then { u with sched.capF := [] } else { u with sched.capR := [] }) →
    x = (if (if fwd then s.sched.silF else s.sched.silR) || (s.inau.rephase && s.inau.place.any fun (p : Int × Nat × Nat) => p.1 < (s.bnd + ns o : Int)) then v
      else if v.holdsClaim then v.sendWindow fwd w else if v.partnerPresent then v.sendRelays fwd w else v) →
    exec (.ownWindowOpen fwd) s = .next (if fwd then { x.dropMemberFrames fwd with sched.capF := [] } else { x.dropMemberFrames fwd with sched.capR := [] }).settle) ∧
  (∀ (i : Nat) (s : State), s.awake = true → subEn (s.subEntry i) = true → (s.subStat i).resolved = true → ((s.subStat i).state = 0 ∨ (s.subStat i).state = 1) → (subAge (s.subEntry i) : Int) ≤ sdiff32 s.cyc (s.subStat i).base →
    ∃ t, exec (.subscriptionMaxageExpiry i) s = .next t ∧ (t.subStat i).state = 2 ∧ t.get Reg.SCHD_SUBSTALE.COUNT = min (s.get Reg.SCHD_SUBSTALE.COUNT + 1) 0xFFFFFFFF
      ∧ t.flag Reg.SCHD_IRQ.SUBSTALE = true) ∧
  (∀ (s : State), s.awake = true → s.flag Reg.SCHD_STAT.PENDV = true → 8 ≤ sdiff32 s.cyc s.sched.annCyc →
    ∃ t, exec .pendingModeLapse s = .next t ∧ t.flag Reg.SCHD_STAT.PENDV = false ∧ t.get Reg.SCHD_STAT.PENDMODE = 0 ∧ t.events = s.events
      ∧ regsBut s t [Reg.SCHD_STAT.PENDV, Reg.SCHD_STAT.PENDMODE] ∧ memSame s t) ∧
  (∀ (fwd : Bool) (s : State), s.awake = true → (s.nextGuard fwd = none → exec (.guardianPoint fwd) s = .next s.settle)
      ∧ ((s.cycRun = false ∨ (s.ownWin.all fun w => w.d = 0) = true) → exec (.ownWindowOpen fwd) s = .next s.settle)) ∧
  (∀ (i : Nat) (s : State), s.awake = true →
    exec (.subscriptionMaxageExpiry i) s = .next (if subEn (s.subEntry i) && (s.subStat i).resolved && ((s.subStat i).state = 0 || (s.subStat i).state = 1) && (subAge (s.subEntry i) : Int) ≤ sdiff32 s.cyc (s.subStat i).base
      then s.goStale i else s).settle) ∧
  (∀ (s : State), s.awake = true → (s.flag Reg.SCHD_STAT.PENDV && decide (8 ≤ sdiff32 s.cyc s.sched.annCyc)) = false → exec .pendingModeLapse s = .next s.settle)

/-- The tables and the modes of the schedule. A write of SCHD_TSEL without WR loads the selected record and shows VALID; with WR it takes the 16 bytes of SCHD_TD as the entry that the next boundary brings into force, and VALID falls; while BUSY is 1 it is ignored with WIGN; a descriptor of the mode in force or of the pending mode is not written and shows WIGN, that of mode 0 is never written; a mode request at a node that is not the leader is refused at once, at the leader it begins with the announcement, and a write without GO or during a request changes MODE alone; an announcement from the leader that matches makes its mode pending, one of another generation or descriptor is refused and recorded. That GO during a running mode request changes MODE alone is the model’s reading (log entry 11). -/
def Obligations.TtTables : Prop :=
  (∀ (v : Word) (s : State), s.awake = true → s.flag Reg.SCHD_TSTAT.BUSY = false → Reg.SCHD_TSEL.WR.of v.toNat = 0 → Reg.SCHD_TSEL.TAB.of v.toNat = 1 →
    ∃ t, exec (.schdTableLoad v) s = .next t ∧ t.get Reg.SCHD_TSTAT.VALID = 1 ∧ t.get Reg.SCHD_TD0.DATA = fieldAt (s.subEntry (Reg.SCHD_TSEL.INDEX.of v.toNat)) 0 4 % 2 ^ 32
      ∧ t.get Reg.SCHD_TD1.DATA = fieldAt (s.subEntry (Reg.SCHD_TSEL.INDEX.of v.toNat)) 4 4 % 2 ^ 32 ∧ t.get Reg.SCHD_TD2.DATA = fieldAt (s.subEntry (Reg.SCHD_TSEL.INDEX.of v.toNat)) 8 4 % 2 ^ 32
      ∧ t.get Reg.SCHD_TD3.DATA = fieldAt (s.subEntry (Reg.SCHD_TSEL.INDEX.of v.toNat)) 12 4 % 2 ^ 32 ∧ t.sched = s.sched ∧ t.events = s.events
      ∧ regsBut s t [Reg.SCHD_TSEL.TAB, Reg.SCHD_TSEL.WR, Reg.SCHD_TSEL.INDEX, Reg.SCHD_TSTAT.VALID, Reg.SCHD_TD0.DATA, Reg.SCHD_TD1.DATA, Reg.SCHD_TD2.DATA, Reg.SCHD_TD3.DATA] ∧ memSame s t) ∧
  (∀ (v : Word) (s : State), s.awake = true → s.flag Reg.SCHD_TSTAT.BUSY = false → Reg.SCHD_TSEL.WR.of v.toNat = 1 → Reg.SCHD_TSEL.TAB.of v.toNat = 0 → Reg.SCHD_TSEL.INDEX.of v.toNat < 64 → s.cycRun = true →
    ∃ t, exec (.schdTableStore v) s = .next t ∧ t.get Reg.SCHD_TSTAT.VALID = 0 ∧ t.sched = { s.sched with pubsNext := s.sched.pubsNext.filter (·.1 ≠ Reg.SCHD_TSEL.INDEX.of v.toNat) ++ [(Reg.SCHD_TSEL.INDEX.of v.toNat, s.tdBytes)] }
      ∧ t.events = s.events ∧ regsBut s t [Reg.SCHD_TSEL.TAB, Reg.SCHD_TSEL.WR, Reg.SCHD_TSEL.INDEX, Reg.SCHD_TSTAT.VALID, Reg.REST_STAT.CFGDIRTY] ∧ memSame s t) ∧
  (∀ (m : Fin 8) (v : Word) (s : State), s.awake = true → (s.modeNow = m.val ∨ (s.flag Reg.SCHD_STAT.PENDV = true ∧ s.get Reg.SCHD_STAT.PENDMODE = m.val)) →
    ∃ t, exec (.schdModedescWrite m v) s = .next t ∧ t.flag Reg.SCHD_STAT.WIGN = true ∧ t.events = s.events ∧ regsBut s t [Reg.SCHD_STAT.WIGN] ∧ memSame s t) ∧
  (∀ (m : Fin 8) (v : Word) (s : State), s.awake = true → s.modeNow ≠ m.val → m ≠ 0 → (s.flag Reg.SCHD_STAT.PENDV = false ∨ s.get Reg.SCHD_STAT.PENDMODE ≠ m.val) →
    ∃ t, exec (.schdModedescWrite m v) s = .next t ∧ t.get (Reg.SCHD_MODEDESC.WRULE.ix m) = Reg.SCHD_MODEDESC.WRULE.of v.toNat ∧ t.get (Reg.SCHD_MODEDESC.BSHIFT.ix m) = Reg.SCHD_MODEDESC.BSHIFT.of v.toNat
      ∧ t.get (Reg.SCHD_MODEDESC.TAG.ix m) = Reg.SCHD_MODEDESC.TAG.of v.toNat ∧ t.events = s.events ∧ t.sched = s.sched) ∧
  (∀ (v : Word) (s : State), s.awake = true → bit v.toNat 31 = true → s.get Reg.SCHD_MODEREQ.MRSTAT ≠ 1 → s.isLeader = false → s.cmd.slots = [] →
    ∃ t, exec (.schdModereqGo v) s = .next t ∧ t.get Reg.SCHD_MODEREQ.MRSTAT = 3 ∧ t.flag Reg.SCHD_IRQ.MODEREF = true ∧ t.get Reg.SCHD_MODEREQ.MODE = Reg.SCHD_MODEREQ.MODE.of v.toNat ∧ t.sched = s.sched ∧ memSame s t) ∧
  (∀ (v : Word) (m : Nat) (u s : State), s.awake = true → bit v.toNat 31 = true → s.get Reg.SCHD_MODEREQ.MRSTAT ≠ 1 → s.isLeader = true → m = Reg.SCHD_MODEREQ.MODE.of v.toNat →
    u = (s.storeWord Reg.SCHD_MODEREQ.MODE.addr v.toNat).put Reg.SCHD_MODEREQ.MRSTAT 1 →
    exec (.schdModereqGo v) s = .next (({ u with sched := { u.sched with reqMode := m, reqRounds := 0, reqAnn := 1 } } : State).announceMode m).settle) ∧
  (∀ (f : Bytes) (s' s : State), s.awake = true → s.popNotice 0x50 = some (f, s') → (s'.roster.any fun r => r.leader = hSrc f) = true → byteAt (pkParams (wrPacket (payload f))) 0 ≤ 7 →
    fieldAt (pkParams (wrPacket (payload f))) 2 2 = s'.gen → fieldAt (pkParams (wrPacket (payload f))) 4 4 = s'.modeDesc (byteAt (pkParams (wrPacket (payload f))) 0) →
    ∃ t, exec .modeann s = .next t ∧ t.flag Reg.SCHD_STAT.PENDV = true ∧ t.get Reg.SCHD_STAT.PENDMODE = byteAt (pkParams (wrPacket (payload f))) 0 ∧ t.sched = { s'.sched with annCyc := s'.cyc }
      ∧ t.events = s'.events ∧ regsBut s' t [Reg.SCHD_STAT.PENDV, Reg.SCHD_STAT.PENDMODE] ∧ memSame s' t) ∧
  (∀ (v : Word) (s : State), s.awake = true →
    exec (.schdTableLoad v) s = .next (if s.busyAt 0x30080 then s.setOpt (wignOf 0x30080) else s.schdSel v.toNat).settle ∧ exec (.schdTableStore v) s = exec (.schdTableLoad v) s
      ∧ ((bit v.toNat 31 = false ∨ s.get Reg.SCHD_MODEREQ.MRSTAT = 1) → exec (.schdModereqGo v) s = .next (s.storeWord Reg.SCHD_MODEREQ.MODE.addr v.toNat).settle)) ∧
  (∀ (v : Word) (s : State), s.awake = true → s.modeNow ≠ 0 → (s.flag Reg.SCHD_STAT.PENDV = false ∨ s.get Reg.SCHD_STAT.PENDMODE ≠ 0) → exec (.schdModedescWrite 0 v) s = .next s.settle) ∧
  (∀ (f : Bytes) (u s : State), s.awake = true → s.popNotice 0x50 = some (f, u) → exec .modeann s = .next (u.takeModeAnn f).settle) ∧
  (∀ (f p : Bytes) (u s : State), s.awake = true → s.popNotice 0x50 = some (f, u) → p = pkParams (wrPacket (payload f)) → (7 < byteAt p 0 ∨ fieldAt p 2 2 ≠ u.gen ∨ fieldAt p 4 4 ≠ u.modeDesc (byteAt p 0)) →
    ∃ t, exec .modeann s = .next t ∧ t.flag Reg.SCHD_IRQ.MODEREF = true ∧ newest t = some 0x0307 ∧ t.sched = u.sched ∧ regsBut u t [Reg.SCHD_IRQ.MODEREF] ∧ memSame u t) ∧
  (∀ (s : State), s.awake = true → s.popNotice 0x50 = none → exec .modeann s = .next s.settle)

/-- The measurement of the path delay of a lane. A PDREQ goes out on its lane with the next sequence number, and the next is due 1 ms later where the lane is measured and not forming a new value, else 20 µs later; a good PDREQ is answered on its own lane with a PDRSP that carries its sequence number and the own estimate where there is one; a frame of the wrong length is counted; a matching PDRSP gives one sample; WCLR clears the worst value; a frame that fails the checks, and a timer that does not run, change nothing. That a sample is halved with truncation toward zero is the model’s choice (log entry 38, R176). -/
def Obligations.DelayMeasurement : Prop :=
  (∀ (n : Lane) (q : Nat) (u s : State), s.awake = true → (s.lane n).pdAt = some q → s.laneUp n = true →
    u = (s.reach q).onLane n (fun l => { l with pdAt := some (max s.now q + if !s.flag (Reg.SYNC_PD.MEAS.ix n) || (s.lane n).reform then us 20 else ms 1), pseq := (l.pseq + 1) % 65536, t1 := none }) →
    exec (.pdreqSendTimer n) s = .next (u.originate (u.inauFrame 0x13 (natBe 2 (s.lane n).pseq ++ List.replicate 14 0)) [n.val]).settle) ∧
  (∀ (n : Lane) (f : Bytes) (ago : Nat) (st m : Bool) (s : State), s.awake = true → s.laneUp n = true → headerCheck f = .ok → hCls f = .mgmt → hType f = 0x13 → hLen f = 16 → m = s.flag (Reg.SYNC_PD.MEAS.ix n) →
    exec (.pdreqReceived n f ago st) s = .next (s.originate (s.inauFrame 0x14 ((payload f).take 2 ++ natBe 1 ((if st then 0x80 else 0) + (if m then 0x40 else 0)) ++ [0] ++ natBe 6 0 ++ natBe 4 (if m then s.get (Reg.SYNC_PD.PD.ix n) else 0) ++ [0, 0])) [n.val] true 11
      fun x => { x with patch := if st then .turn (s.now - ago) else .none }).settle) ∧
  (∀ (n : Lane) (f : Bytes) (ago : Nat) (st : Bool) (s : State), s.awake = true → s.laneUp n = true → headerCheck f = .ok → hCls f = .mgmt → hType f = 0x13 → hLen f ≠ 16 →
    ∃ t, exec (.pdreqReceived n f ago st) s = .next t ∧ t.get Reg.SYNC_PDREJ.COUNT = min (s.get Reg.SYNC_PDREJ.COUNT + 1) 0xFFFFFFFF ∧ t.lanes = s.lanes ∧ t.events = s.events ∧ regsBut s t [Reg.SYNC_PDREJ.COUNT] ∧ memSame s t) ∧
  (∀ (n : Lane) (f : Bytes) (ago t1 : Nat) (s : State), s.awake = true → s.laneUp n = true → headerCheck f = .ok → hCls f = .mgmt → hType f = 0x14 → hLen f = 16 →
    bit (byteAt (payload f) 2) 6 = false → bit (byteAt (payload f) 2) 7 = true → (s.lane n).t1 = some t1 → fieldAt (payload f) 0 2 = ((s.lane n).pseq + 65535) % 65536 → signed 48 (fieldAt (payload f) 4 6) ≤ us 50 →
    -32 ≤ tdivI ((((s.now - ago : Nat) : Int) - t1) - signed 48 (fieldAt (payload f) 4 6)) 2 → tdivI ((((s.now - ago : Nat) : Int) - t1) - signed 48 (fieldAt (payload f) 4 6)) 2 ≤ 80000 →
    exec (.pdrspReceived n f ago) s = .next ((s.onLane n fun l => { l with t1 := none }).takeSample n (max (tdivI ((((s.now - ago : Nat) : Int) - t1) - signed 48 (fieldAt (payload f) 4 6)) 2) 0)).settle) ∧
  (∀ (v : Word) (s : State), s.awake = true → bit v.toNat 2 = true →
    ∃ t, exec (.syncWorstClear v) s = .next t ∧ t.get Reg.SYNC_WORST.PEAK = 0 ∧ t.get Reg.SYNC_CTRL.EN = Reg.SYNC_CTRL.EN.of v.toNat ∧ t.get Reg.SYNC_CTRL.RATEHOLD = Reg.SYNC_CTRL.RATEHOLD.of v.toNat ∧ t.get Reg.SYNC_WORST.LAST = s.get Reg.SYNC_WORST.LAST
      ∧ t.events = s.events ∧ memSame s t) ∧
  (∀ (n : Lane) (f : Bytes) (ago : Nat) (s : State), s.awake = true → s.laneUp n = true → headerCheck f = .ok → hCls f = .mgmt → hType f = 0x14 →
    exec (.pdrspReceived n f ago) s = .next (if hLen f ≠ 16 then s.bump Reg.SYNC_PDREJ.COUNT else s.takePdrsp n (payload f) (s.now - ago)).settle) ∧
  (∀ (n : Lane) (f : Bytes) (ago : Nat) (st : Bool) (s : State), s.awake = true → (s.laneUp n = false ∨ headerCheck f ≠ .ok ∨ hCls f ≠ .mgmt ∨ (hType f ≠ 0x13 ∧ hType f ≠ 0x14)) →
    exec (.pdreqReceived n f ago st) s = .next s.settle ∧ exec (.pdrspReceived n f ago) s = .next s.settle) ∧
  (∀ (n : Lane) (s : State), s.awake = true → ((s.lane n).pdAt = none ∨ s.laneUp n = false) → exec (.pdreqSendTimer n) s = .next s.settle) ∧
  (∀ (v : Word) (s : State), s.awake = true → bit v.toNat 2 = false → exec (.syncWorstClear v) s = .next (s.storeWord Reg.SYNC_CTRL.EN.addr v.toNat).settle)

/-- Train time and its reference. A catch-up that ends clears CATCHUP; a time notice that is not the reference’s is refused and counted, one that is replaces the notice held and names the map to adopt; a PPS edge with the time of day armed sets presented time before the first map and gives an offset after it; a Sync from the master followed gives an offset once the mean path delay is known, the event ending with the Follow_Up of a two-step one; the loss of the reference, 1.5 s after the last PPS edge or at the port’s loss of its master, begins HOLDOVER; at the end of a steering interval the reference steers by the mean offset, or announces σ 0 where it acts on no source, before the notice of the cycle; a time of day is armed by the low word written last; ACCEPT moves a HELD reference on; where nothing waits or ends, nothing changes but what the reference’s own state shows. That 1.5 s count from the PPS edge last seen, and the PTP port’s rules of qualification, are the model’s choice (log entry 21). -/
def Obligations.TrainTime : Prop :=
  (∀ (s : State), s.awake = true → s.flag Reg.TIME_STAT.CATCHUP = true →
    ∃ t, exec .catchUpComplete s = .next t ∧ t.flag Reg.TIME_STAT.CATCHUP = false ∧ t.flag Reg.TIME_IRQ.CATCH = true ∧ newest t = some 0x0604 ∧ t.time.kappa = 0
      ∧ t.now = max s.now (s.time.kAt + ceilDiv (s.time.kappa.natAbs * 1000000) s.catchPpm) ∧ t.time.map = s.time.map
      ∧ regsBut s t [Reg.TIME_STAT.CATCHUP, Reg.TIME_IRQ.CATCH, Reg.TIME_MBSTAT.VALID] ∧ memSame s t) ∧
  (∀ (f : Bytes) (u s : State), s.awake = true → s.popNotice 0x51 = some (f, u) → ((u.roster.any fun r => r.timeref = hSrc f && hSrc f ≠ 0) = false ∨ hGen f ≠ u.gen) →
    ∃ t, exec .timenot s = .next t ∧ t.get Reg.TIME_NOTREJ.COUNT = min (u.get Reg.TIME_NOTREJ.COUNT + 1) 0xFFFFFFFF ∧ t.flag Reg.TIME_IRQ.NOTREJ = true ∧ t.time = u.time ∧ t.sync = u.sync ∧ memSame u t) ∧
  (∀ (f p : Bytes) (n k0 : Nat) (m0 : Int) (u s : State), s.awake = true → s.popNotice 0x51 = some (f, u) → (u.roster.any fun r => r.timeref = hSrc f && hSrc f ≠ 0) = true → hGen f = u.gen → p = pkParams (wrPacket (payload f)) → n = fieldAt p 0 4 →
    fieldAt p 24 4 = n → signed 32 (fieldAt p 16 4) = u.sync.sigma → fieldAt p 38 4 = 0 → u.time.sigNext = none → u.time.map = some (k0, m0) → wrapT ((m0 + sdiff32 n k0 * u.tLen) / 16 * 16 - ofSecNs (fieldAt p 4 6) (fieldAt p 10 4)) ≠ 0 →
    ∃ t, exec .timenot s = .next t ∧ t.time = { u.time with notice := some (byteAt p 15, byteAt p 14, fieldAt p 42 2), adopt := some (n, ofSecNs (fieldAt p 4 6) (fieldAt p 10 4)) } ∧ t.sync = u.sync ∧ t.events = u.events ∧ regsBut u t [Reg.TIME_STAT.TAI] ∧ memSame u t) ∧
  (∀ (tod : Nat) (u s : State), s.active = true → s.refSrc = 1 → s.flag Reg.TIME_CTRL.EN = true → u = (s.stampEdge (s.get Reg.TIME_REF.PPSIN) true).refreshRef → u.time.map = none → u.time.todArmed = some tod → u.time.refSeen = false →
    ∃ t, exec .ppsEdge s = .next t ∧ t.time = { u.time with todArmed := none, todLast := tod, ppsAt := some u.now, pre := u.presented + wrapT (ofSecNs tod 0 - u.presented), preAt := u.now, refSeen := true } ∧ t.events = u.events ∧ regsBut u t [] ∧ memSame u t) ∧
  (∀ (tod : Nat) (m : Int) (u s : State), s.active = true → s.refSrc = 1 → s.flag Reg.TIME_CTRL.EN = true → u = (s.stampEdge (s.get Reg.TIME_REF.PPSIN) true).refreshRef → u.mapAt u.now = some m → u.refActs = true → u.time.todArmed = some tod →
    ∃ t, exec .ppsEdge s = .next t ∧ t.time = { u.time with todArmed := none, todLast := tod, ppsAt := some u.now, offsets := wrapT (ofSecNs tod 0 - m) :: u.time.offsets } ∧ t.get Reg.TIME_EOFF.VALUE = sat32 (tdivI (wrapT (ofSecNs tod 0 - m)) 16) % 2 ^ 32 ∧ t.events = u.events ∧ regsBut u t [Reg.TIME_EOFF.VALUE] ∧ memSame u t) ∧
  (∀ (p : Port) (m : Bytes) (ago : Nat) (d o : Int) (u s : State), s.active = true → s.ptpOn p = true → byteAt m 1 % 16 = 2 → ptpDom m = s.ptpDomain → 44 ≤ m.length → ptpType m = 0 → ptpTwo m = false → ptpAlt m = false →
    s.ptpSlave p = true → (s.ptpOf p).parent = some (ptpIdent m) → (s.ptpOf p).delay = some d → s.refSrc = 2 → s.get Reg.TIME_REF.PORT = p.val →
    o = wrapT (s.ptpLocal (((s.now - ago : Nat) : Int) - ns (s.pcor p).1) - (ptpTime m + ptpCorr m) - d) →
    u = (s.onPtp p fun t => { t with sync := none, last := some (ptpTime m + ptpCorr m, ((s.now - ago : Nat) : Int) - ns (s.pcor p).1), syncAt := some s.now }).refreshRef → u.time.map.isSome = true → u.refActs = true →
    ∃ t, exec (.ptpSyncReceived p ⟨m, none⟩ ago) s = .next t ∧ t.time = { u.time with refTai := (s.ptpParent p).any PtpMaster.tai, offsets := -o :: u.time.offsets } ∧ t.get Reg.TIME_EOFF.VALUE = sat32 (tdivI (-o) 16) % 2 ^ 32
      ∧ t.events = u.events ∧ regsBut u t [Reg.TIME_EOFF.VALUE, Reg.TIME_STAT.TAI] ∧ memSame u t) ∧
  (∀ (q : Nat) (u s : State), s.awake = true → u = s.refreshRef → u.refActs = true → u.get Reg.TIME_STAT.REFST ≠ 3 → u.refSrc = 1 → u.time.ppsAt = some q → u.time.sigNext = none → u.time.sigmaF ≠ u.sync.sigma →
    ∃ t, exec .referenceLost s = .next t ∧ t.get Reg.TIME_STAT.REFST = 3 ∧ t.flag Reg.TIME_IRQ.REF = true ∧ t.get Reg.TIME_REFLOSS.COUNT = min (u.get Reg.TIME_REFLOSS.COUNT + 1) 0xFFFFFFFF ∧ newest t = some 0x0605
      ∧ t.time.sigNext = some (u.time.sigmaF, (u.noticeCyc + 3) % 2 ^ 32) ∧ t.time.offsets = [] ∧ t.now = max u.now (q + ms 1500) ∧ regsBut u t [Reg.TIME_STAT.REFST, Reg.TIME_IRQ.REF, Reg.TIME_REFLOSS.COUNT] ∧ memSame u t) ∧
  (∀ (u v s : State), s.awake = true → s.time.notHeld = true → u = s.refreshRef → u.refActs = true → u.get Reg.TIME_STAT.REFST ≠ 3 → u.time.offsets ≠ [] → u.time.epNext = none → v = ({ u with time.offsets := [] } : State).steerBy (meanT u.time.offsets) →
    exec .steeringIntervalEnd s = .next (({ v with time := { v.time with notHeld := false, steerAt := some v.bnd } } : State).notify).settle) ∧
  (∀ (u v s : State), s.awake = true → s.time.notHeld = true → u = s.refreshRef → u.isTref = true → u.time.noonSeen = true → u.refActs = false → v = ({ u with time.offsets := [] } : State).announceSigma 0 →
    exec .steeringIntervalEnd s = .next (({ v with time := { v.time with notHeld := false, steerAt := some v.bnd } } : State).notify).settle) ∧
  (∀ (v : Word) (s : State), s.awake = true →
    ∃ t, exec (.todArmWrite v) s = .next t ∧ t.time = { s.time with todArmed := some (Reg.TIME_TODHI.TOD.of v.toNat * 2 ^ 32 + s.get Reg.TIME_TODLO.TOD) } ∧ t.get Reg.TIME_TODHI.TOD = Reg.TIME_TODHI.TOD.of v.toNat ∧ t.events = s.events ∧ memSame s t) ∧
  (∀ (v : Word) (s : State), s.awake = true → bit v.toNat 2 = true → bit v.toNat 0 = true → s.isTref = true → s.time.noonSeen = true → s.refSrc ≠ 0 → s.get Reg.TIME_STAT.REFST = 4 →
    ∃ t, exec (.timeAcceptWrite v) s = .next t ∧ t.get Reg.TIME_STAT.REFST = 5 ∧ t.flag Reg.TIME_IRQ.REF = true ∧ t.time.accepting = true ∧ newest t = some 0x060B ∧ memSame s t) ∧
  (∀ (f : Bytes) (u s : State), s.awake = true → s.popNotice 0x51 = some (f, u) → exec .timenot s = .next (u.takeTimeNot f).settle) ∧
  (∀ (s : State), s.awake = true → (s.flag Reg.TIME_STAT.CATCHUP = false → exec .catchUpComplete s = .next s.settle) ∧ (s.popNotice 0x51 = none → exec .timenot s = .next s.settle)
      ∧ (s.time.notHeld = false → exec .steeringIntervalEnd s = .next s.settle)) ∧
  (∀ (s : State), s.active = true → exec .ppsEdge s = .next (if s.refSrc = 1 || s.edgeSelected (s.get Reg.TIME_REF.PPSIN) true then s.stampEdge (s.get Reg.TIME_REF.PPSIN) true else s).takePps.settle) ∧
  (∀ (p : Port) (x : PtpSync) (ago : Nat) (s : State), s.active = true → exec (.ptpSyncReceived p x ago) s = .next (if ptpType x.message ≠ 0 then s
      else if (x.followUp.any fun f => ptpType f = 8) then (s.takePtp p x.message ago).takePtp p (x.followUp.getD []) 0 else s.takePtp p x.message ago).settle) ∧
  (∀ (q : Nat) (u s : State), s.awake = true → u = s.refreshRef → u.refActs = true → u.get Reg.TIME_STAT.REFST ≠ 3 → u.refSrc ≠ 1 → u.ptpLossAt (u.get Reg.TIME_REF.PORT) = some q →
    exec .referenceLost s = .next ((u.loseRef q).ptpDecide (u.get Reg.TIME_REF.PORT)).settle) ∧
  (∀ (u s : State), s.awake = true → u = s.refreshRef → (u.refActs = false ∨ u.get Reg.TIME_STAT.REFST = 3) → exec .referenceLost s = .next u.settle) ∧
  (∀ (v : Word) (s : State), s.awake = true → exec (.timeAcceptWrite v) s = .next (s.writeTimeCtrl v.toNat).settle)

/-- The boundary clock, the compare units and the capture inputs. A port that is not slave answers a Delay_Req and sends its Announce and Sync, and each port its delay request; an event message that ends is followed up; a target armed in the future waits for its time, one that has passed fires late and is recorded; a unit that fires drives its output for its width, and disarms where it is not periodic; an edge is stamped into the FIFO, or counted as an overflow where the FIFO is full or the last edge is less than 40 ns old; a load of the mailbox shows the value selected; a read of the last mailbox word removes the head of the FIFO; an edge that EDGE does not select, a unit not armed and a frame end without a frame change nothing. The bytes of the answers and messages of the boundary clock are the model’s (log entry 21). -/
def Obligations.TimePorts : Prop :=
  (∀ (p : Port) (m : Bytes) (ago : Nat) (s : State), s.active = true → s.ptpOn p = true → byteAt m 1 % 16 = 2 → ptpDom m = s.ptpDomain → 34 ≤ m.length → ptpType m = 1 → s.ptpPeer p = false → s.ptpSlave p = false →
    exec (.ptpMessageReceived p m ago) s = .next (s.ptpSend p (s.ptpMsg p 9 0 (fieldAt m 8 8) (ptpSeq m) (s.logSync p) (ptpStamp (s.presentedAt (s.now - ago) - ns (s.pcor p).1) ++ ptpPort m))).settle) ∧
  (∀ (p : Port) (s : State), s.active = true →
    exec (.ptpMessageInterval p .announce) s = .next (if s.ptpOn p && !s.ptpSlave p then s.sendAnnounce p else s).settle
      ∧ exec (.ptpMessageInterval p .sync) s = .next (if s.ptpOn p && !s.ptpSlave p then s.sendSync p else s).settle
      ∧ exec (.ptpMessageInterval p .delay) s = .next (if s.ptpOn p then s.sendDelayReq p else s).settle) ∧
  (∀ (p : Port) (x : PTx) (u s : State), s.active = true → (s.patchPtp p).endEth p = some (x, u) →
    exec (.consistTxFrameEnd p) s = .next ((u.followUp p x).runEth p).settle) ∧
  (∀ (n : Fin 4) (v : Word) (s w : State), s.awake = true → w = s.storeWord (Reg.TPO_CTRL.ARM.ix n).addr v.toNat → bit v.toNat 0 = false →
    ∃ t, exec (.tpoArmWrite n v) s = .next t ∧ (t.tpo n).target = none ∧ (t.tpo n).endAt = (w.tpo n).endAt ∧ t.get (Reg.TPO_CTRL.ARM.ix n) = 0 ∧ t.events = s.events ∧ memSame s t) ∧
  (∀ (n : Fin 4) (g : Nat) (s : State), s.active = true → (s.tpo n).target = some g → (s.tpo n).periodic = false →
    ∃ t, exec (.compareUnitFire n) s = .next t ∧ (t.tpo n).target = none ∧ (t.tpo n).endAt = some ((g + (s.tpo n).width) % 2 ^ 40) ∧ t.get (Reg.TPO_CTRL.ARM.ix n) = 0 ∧ t.events = s.events ∧ regsBut s t [Reg.TPO_CTRL.ARM.ix n] ∧ memSame s t) ∧
  (∀ (n : Fin 4) (g : Nat) (s : State), s.active = true → (s.tpo n).endAt = some g →
    ∃ t, exec (.tpoPulseEnd n) s = .next t ∧ (t.tpo n).endAt = none ∧ (t.tpo n).target = (s.tpo n).target ∧ sent s t [.pin ("TPO" ++ toString n.val) (b2n (s.flag (Reg.TPO_CTRL.POL.ix n)))] ∧ t.events = s.events ∧ regsBut s t [] ∧ memSame s t) ∧
  (∀ (n : Fin 4) (r : Bool) (s : State), s.active = true → s.edgeSelected n r = true → ((s.tci n).last.any fun x => s.now - x < ns 40) = false → (s.tci n).fifo.length < 16 →
    ∃ t, exec (.captureEdge n r) s = .next t ∧ (t.tci n).fifo = (s.tci n).fifo ++ [(s.presented, (if s.cycRun then s.cyc else 0), r, s.flag (Reg.TCI_CTRL.OVF.ix n), s.flag Reg.TIME_STAT.CATCHUP)] ∧ (t.tci n).last = some s.now
      ∧ t.get (Reg.TCI_CTRL.FILL.ix n) = (s.tci n).fifo.length + 1 ∧ t.events = s.events ∧ regsBut s t [Reg.TCI_CTRL.FILL.ix n, Reg.TIME_MBSTAT.VALID] ∧ memSame s t) ∧
  (∀ (n : Fin 4) (r : Bool) (s : State), s.active = true → s.edgeSelected n r = true → (((s.tci n).last.any fun x => s.now - x < ns 40) || 16 ≤ (s.tci n).fifo.length) = true →
    ∃ t, exec (.captureEdge n r) s = .next t ∧ t.flag (Reg.TCI_CTRL.OVF.ix n) = true ∧ t.get Reg.TIME_CAPOVF.COUNT = min (s.get Reg.TIME_CAPOVF.COUNT + 1) 0xFFFFFFFF ∧ t.flag Reg.TIME_IRQ.CAPOVF = true
      ∧ (t.tci n).fifo = (s.tci n).fifo ∧ (t.tci n).last = some s.now ∧ ((s.tci n).ovfRec = true → t.events = s.events) ∧ ((s.tci n).ovfRec = false → newest t = some 0x0608)
      ∧ regsBut s t [Reg.TCI_CTRL.OVF.ix n, Reg.TIME_CAPOVF.COUNT, Reg.TIME_IRQ.CAPOVF] ∧ memSame s t) ∧
  (∀ (v : Word) (s w : State), s.awake = true → w = s.storeWord Reg.TIME_MBSEL.SRC.addr v.toNat →
    ∃ t, exec (.timeMbselWrite v) s = .next t ∧ t.get Reg.TIME_MBSEL.SRC = Reg.TIME_MBSEL.SRC.of v.toNat ∧ t.get Reg.TIME_MBSEL.INDEX = Reg.TIME_MBSEL.INDEX.of v.toNat ∧ t.get Reg.TIME_MBSTAT.VALID = 1
      ∧ t.get Reg.TIME_MBD0.DATA = fieldAt w.timeMail 0 4 % 2 ^ 32 ∧ t.get Reg.TIME_MBD1.DATA = fieldAt w.timeMail 4 4 % 2 ^ 32 ∧ t.get Reg.TIME_MBD2.DATA = fieldAt w.timeMail 8 4 % 2 ^ 32 ∧ t.get Reg.TIME_MBD3.DATA = fieldAt w.timeMail 12 4 % 2 ^ 32
      ∧ t.time = s.time ∧ t.events = s.events ∧ memSame s t) ∧
  (∀ (n : Fin 4) (x : Int × Nat × Bool × Bool × Bool) (l : List (Int × Nat × Bool × Bool × Bool)) (s : State), s.awake = true → s.get Reg.TIME_MBSEL.SRC = 2 → s.flag Reg.TIME_MBSTAT.VALID = true → s.get Reg.TIME_MBSEL.INDEX = n.val → (s.tci n).fifo = x :: l → l ≠ [] → l.length < 16 →
    ∃ t, exec .captureFifoPop s = .next t ∧ (t.tci n).fifo = l ∧ t.get (Reg.TCI_CTRL.FILL.ix n) = l.length ∧ sent s t [.rdata Reg.TIME_MBD3.DATA.addr (s.get Reg.TIME_MBD3.DATA)] ∧ t.events = s.events ∧ memSame s t) ∧
  (∀ (p : Port) (m : Bytes) (ago : Nat) (s : State), s.active = true → exec (.ptpMessageReceived p m ago) s = .next (s.takePtp p m ago).settle) ∧
  (∀ (p : Port) (s : State), s.active = true → (s.patchPtp p).endEth p = none → exec (.consistTxFrameEnd p) s = .next s.settle) ∧
  (∀ (n : Fin 4) (v : Word) (g : Nat) (w s : State), s.awake = true → w = s.storeWord (Reg.TPO_CTRL.ARM.ix n).addr v.toNat → bit v.toNat 0 = true → g = w.get (Reg.TPO_TGTHI.TGTHI.ix n) * 2 ^ 32 + w.get (Reg.TPO_TGTLO.TGTLO.ix n) → sdiff40 (shortNs w.presented) g < 0 →
    ∃ t, exec (.tpoArmWrite n v) s = .next t ∧ (t.tpo n).target = some g ∧ (t.tpo n).period = max 100 (w.get (Reg.TPO_PERIOD.PERIOD.ix n)) ∧ (t.tpo n).periodic = w.flag (Reg.TPO_CTRL.PER.ix n) ∧ (t.tpo n).endAt = (w.tpo n).endAt
      ∧ t.get (Reg.TPO_CTRL.ARM.ix n) = 1 ∧ t.events = s.events ∧ regsBut w t [] ∧ memSame s t) ∧
  (∀ (n : Fin 4) (v : Word) (g : Nat) (w s : State), s.awake = true → w = s.storeWord (Reg.TPO_CTRL.ARM.ix n).addr v.toNat → bit v.toNat 0 = true → g = w.get (Reg.TPO_TGTHI.TGTHI.ix n) * 2 ^ 32 + w.get (Reg.TPO_TGTLO.TGTLO.ix n) → 0 ≤ sdiff40 (shortNs w.presented) g →
    ∃ t, exec (.tpoArmWrite n v) s = .next t ∧ t.flag (Reg.TPO_CTRL.LATE.ix n) = true ∧ t.get Reg.TIME_LATE.COUNT = min (s.get Reg.TIME_LATE.COUNT + 1) 0xFFFFFFFF ∧ t.flag Reg.TIME_IRQ.LATE = true ∧ newest t = some 0x0609 ∧ (t.tpo n).endAt.isSome = true ∧ memSame s t) ∧
  (∀ (n : Fin 4) (g : Nat) (s : State), s.active = true → (s.tpo n).target = some g → (s.tpo n).periodic = true →
    ∃ t, exec (.compareUnitFire n) s = .next t ∧ (t.tpo n).target = some (State.nextTarget (s.tpo n) (shortNs (s.reachShort g).presented) g) ∧ (t.tpo n).endAt = some ((g + (s.tpo n).width) % 2 ^ 40) ∧ t.events = s.events ∧ regsBut s t [] ∧ memSame s t) ∧
  (∀ (n : Fin 4) (r : Bool) (s : State), s.active = true → ((s.tpo n).target = none → exec (.compareUnitFire n) s = .next s.settle) ∧ ((s.tpo n).endAt = none → exec (.tpoPulseEnd n) s = .next s.settle)
      ∧ (s.edgeSelected n r = false → exec (.captureEdge n r) s = .next s.settle)) ∧
  (∀ (s : State), s.awake = true → exec .captureFifoPop s = .next (s.emit (.rdata Reg.TIME_MBD3.DATA.addr (s.get Reg.TIME_MBD3.DATA))).popCapture.settle)

/-- Links and reception of the consist ports. A link that comes up shows its speed, preemption active or its verification begun, and one that goes down clears LINK, each with its interrupt and record; the entry latch chooses the destinations of the frame, and a frame without one is counted and skipped; the first buffer of a frame is drawn, or the frame is dropped and counted; a byte beyond the longest frame drops it; a runt, a symbol error and a bad FCS are counted and end the frame; a good frame is accepted; the ends of fragments and of verification packets act as the functions of the model named here say; a write of W0 takes the four words of a filter rule. -/
def Obligations.ConsistLinks : Prop :=
  (∀ (p : Port) (v : Fin 3) (s : State), s.active = true → s.flag (Reg.CONS_CTRL.EN.at p) = true → s.linkUp p = false →
    ∃ t, exec (.consistLinkUp p v true) s = .next t ∧ t.flag (Reg.CONS_STAT.LINK.at p) = true ∧ t.get (Reg.CONS_STAT.SPEED.at p) = v.val ∧ t.get (Reg.CONS_STAT.SYNC.at p) = 1 ∧ t.get (Reg.CONS_STAT.HDX.at p) = 0
      ∧ t.flag (Reg.CONS_STAT.PACT.at p) = (s.flag (Reg.CONS_TXCFG.PREEN.at p) && !s.flag (Reg.CONS_TXCFG.VERIFY.at p)) ∧ (t.port p).verifying = (s.flag (Reg.CONS_TXCFG.PREEN.at p) && s.flag (Reg.CONS_TXCFG.VERIFY.at p))
      ∧ t.flag (Reg.CONS_IRQ.LINK.at p) = true ∧ newest t = some 0x0802 ∧ regsBut s t [Reg.CONS_STAT.SYNC.at p, Reg.CONS_STAT.LINK.at p, Reg.CONS_STAT.SPEED.at p, Reg.CONS_STAT.HDX.at p, Reg.CONS_STAT.PVFAIL.at p, Reg.CONS_STAT.PACT.at p, Reg.CONS_IRQ.LINK.at p] ∧ memSame s t) ∧
  (∀ (p : Port) (s : State), s.active = true → s.linkUp p = true → (s.port p).rx = none → (s.port p).frag = none → (s.port p).tx = none → (s.port p).txHeld = none → (s.port p).txq = [] →
    ∃ t, exec (.consistLinkDown p false) s = .next t ∧ t.flag (Reg.CONS_STAT.LINK.at p) = false ∧ t.get (Reg.CONS_STAT.SYNC.at p) = 0 ∧ t.get (Reg.CONS_STAT.PACT.at p) = 0
      ∧ t.flag (Reg.CONS_IRQ.LINK.at p) = true ∧ newest t = some 0x0803 ∧ t.fab = s.fab ∧ regsBut s t [Reg.CONS_STAT.LINK.at p, Reg.CONS_STAT.PACT.at p, Reg.CONS_STAT.SYNC.at p, Reg.CONS_IRQ.LINK.at p] ∧ memSame s t) ∧
  (∀ (p : Port) (l : Bytes) (ago : Nat) (s : State), s.active = true → s.linkUp p = true → (s.port p).rx = none → 64 ≤ l.length → State.noDest (s.steer p l) = false →
    ∃ t, exec (.consistSteeringDecision p l ago) s = .next t ∧ (t.port p).rx = some { bytes := l, stamp := s.now - ago, dest := s.steer p l, skip := false } ∧ t.fab = s.fab ∧ t.events = s.events ∧ regsBut s t [] ∧ memSame s t) ∧
  (∀ (p : Port) (l : Bytes) (ago : Nat) (s : State), s.active = true → s.linkUp p = true → (s.port p).rx = none → 64 ≤ l.length → State.noDest (s.steer p l) = true →
    ∃ t, exec (.consistSteeringDecision p l ago) s = .next t ∧ (t.port p).rx = some { bytes := l, stamp := s.now - ago, dest := s.steer p l, skip := true } ∧ t.get (Reg.CONS_FILTDROP.COUNT.at p) = min (s.get (Reg.CONS_FILTDROP.COUNT.at p) + 1) 0xFFFFFFFF
      ∧ t.fab = s.fab ∧ t.events = s.events ∧ regsBut s t [Reg.CONS_FILTDROP.COUNT.at p] ∧ memSame s t) ∧
  (∀ (p : Port) (b : Bytes) (r : EthRx) (s : State), s.active = true → (s.port p).rx = some r → r.skip = false → r.dest.ctl = false → r.fid = none → (s.draw (State.ethClass r.dest) (4 + p) 1).isSome = true →
    ∃ t, exec (.consistBufferDraw p b) s = .next t ∧ (t.port p).rx = some { r with bytes := r.bytes ++ b, fid := some s.fab.nextFid } ∧ t.fab.free = s.fab.free - 1 ∧ t.fab.nextFid = s.fab.nextFid + 1 ∧ t.fab.frames.length = s.fab.frames.length + 1
      ∧ t.events = s.events ∧ memSame s t) ∧
  (∀ (p : Port) (b : Bytes) (r : EthRx) (s : State), s.active = true → (s.port p).rx = some r → r.skip = false → r.fid = none →
    ∃ t, exec (.consistGiantByte p b) s = .next t ∧ (t.port p).rx = some { r with skip := true, bytes := r.bytes ++ b } ∧ t.get (Reg.CONS_RXGIANT.COUNT.at p) = min (s.get (Reg.CONS_RXGIANT.COUNT.at p) + 1) 0xFFFFFFFF
      ∧ t.fab = s.fab ∧ t.events = s.events ∧ regsBut s t [Reg.CONS_RXGIANT.COUNT.at p] ∧ memSame s t) ∧
  (∀ (p : Port) (b : Bytes) (e : Bool) (ago : Nat) (s : State), s.active = true → s.linkUp p = true → (s.port p).rx = none → b.length < 64 →
    ∃ t, exec (.consistFrameEnd p b ⟨e, .express⟩ ago) s = .next t ∧ t.get (Reg.CONS_RXRUNT.COUNT.at p) = min (s.get (Reg.CONS_RXRUNT.COUNT.at p) + 1) 0xFFFFFFFF ∧ t.ports = s.ports ∧ t.fab = s.fab ∧ t.events = s.events ∧ regsBut s t [Reg.CONS_RXRUNT.COUNT.at p] ∧ memSame s t) ∧
  (∀ (p : Port) (b : Bytes) (ago : Nat) (r : EthRx) (s : State), s.active = true → s.linkUp p = true → (s.port p).rx = some r → r.skip = false → (r.bytes ++ b).length ≤ s.maxLen p → bufsFor (r.bytes ++ b).length ≤ s.rxHolds r → r.dest.ctl = false → ethFcsOk (r.bytes ++ b) = true →
    exec (.consistFrameEnd p b ⟨false, .express⟩ ago) s = .next ((s.onPort p fun t => { t with rx := none }).acceptEth p { r with bytes := r.bytes ++ b }).settle) ∧
  (∀ (p : Port) (r : Fin 64) (v : Word) (s : State), s.awake = true →
    ∃ t, exec (.filterRuleCommit p r v) s = .next t ∧ (t.port p).rules = (s.port p).rules.filter (·.1 ≠ r.val) ++ [(r.val, (v.toNat, s.get ((Reg.CONS_FILT_W1.W1.at p).ix r), s.get ((Reg.CONS_FILT_W2.W2.at p).ix r), s.get ((Reg.CONS_FILT_W3.W3.at p).ix r)))]
      ∧ t.get ((Reg.CONS_FILT_W0.W0.at p).ix r) = v.toNat % 2 ^ 32 ∧ t.events = s.events ∧ regsBut s t [(Reg.CONS_FILT_W0.W0.at p).ix r] ∧ memSame s t) ∧
  (∀ (p : Port) (b : Bytes) (r : EthRx) (s : State), s.active = true → (s.port p).rx = some r → r.skip = false → r.dest.ctl = false → r.fid = none → s.draw (State.ethClass r.dest) (4 + p) 1 = none →
    ∃ t, exec (.consistBufferDraw p b) s = .next t ∧ (t.port p).rx = some { r with bytes := r.bytes ++ b, skip := true } ∧ t.get (Reg.CONS_RXNOBUF.COUNT.at p) = min (s.get (Reg.CONS_RXNOBUF.COUNT.at p) + 1) 0xFFFFFFFF
      ∧ t.flag (Reg.CONS_IRQ.DROP.at p) = true ∧ t.fab = s.fab ∧ regsBut s t [Reg.CONS_RXNOBUF.COUNT.at p, Reg.CONS_IRQ.DROP.at p] ∧ memSame s t) ∧
  (∀ (p : Port) (b : Bytes) (ago : Nat) (r : EthRx) (s : State), s.active = true → s.linkUp p = true → (s.port p).rx = some r → r.skip = false → (r.bytes ++ b).length ≤ s.maxLen p → bufsFor (r.bytes ++ b).length ≤ s.rxHolds r → ethFcsOk (r.bytes ++ b) = false →
    ∃ t, exec (.consistFrameEnd p b ⟨false, .express⟩ ago) s = .next t ∧ (t.port p).rx = none ∧ t.get (Reg.CONS_RXFCS.COUNT.at p) = min (s.get (Reg.CONS_RXFCS.COUNT.at p) + 1) 0xFFFFFFFF ∧ t.events = s.events ∧ memSame s t) ∧
  (∀ (p : Port) (b : Bytes) (ago : Nat) (r : EthRx) (s : State), s.active = true → s.linkUp p = true → (s.port p).rx = some r → r.skip = false → (r.bytes ++ b).length ≤ s.maxLen p → bufsFor (r.bytes ++ b).length ≤ s.rxHolds r →
    ∃ t, exec (.consistFrameEnd p b ⟨true, .express⟩ ago) s = .next t ∧ (t.port p).rx = none ∧ t.get (Reg.CONS_RXERR.COUNT.at p) = min (s.get (Reg.CONS_RXERR.COUNT.at p) + 1) 0xFFFFFFFF ∧ t.events = s.events ∧ memSame s t) ∧
  (∀ (p : Port) (v : Fin 3) (full sync : Bool) (s : State), s.active = true → exec (.consistLinkUp p v full) s = .next (s.takeLink p v full).settle
      ∧ exec (.consistLinkDown p sync) s = .next (((s.linkDown p).putB (Reg.CONS_STAT.SYNC.at p) (sync && (s.linkDown p).flag (Reg.CONS_CTRL.EN.at p))).onPort p fun t => { t with hdxRec := false }).settle) ∧
  (∀ (p : Port) (b : Bytes) (ago : Nat) (e : EthEnd) (u s : State), s.active = true → u = s.openCont p →
    exec (.consistSteeringDecision p b ago) s = .next (if s.linkUp p && (s.port p).rx.isNone && 64 ≤ b.length then s.openRx p b (s.now - ago) else s).settle
      ∧ exec (.consistBufferDraw p b) s = .next (if (u.port p).rx.isSome then (u.rxBytes p b).drawEth p else u).settle
      ∧ exec (.consistGiantByte p b) s = .next (if (u.port p).rx.all (fun r => r.skip) then u else ((u.rxBytes p b).dropEth p).bump (Reg.CONS_RXGIANT.COUNT.at p)).settle
      ∧ exec (.consistFrameEnd p b e ago) s = .next (if s.linkUp p then s.endPacket p b e.symbolError (s.now - ago) e.packet else s).settle)

/-- Transmission, rings and MDIO of the consist ports. On an idle port the highest queue whose head may start sends it; a telegram starts at its launch instant; a verification that succeeds makes preemption active, one that fails is recorded; a frame whose link is down is written back with LINK; enabling a ring sets its HEAD to 0; the moderation interval sets the bit of the ring; an MDIO frame runs 64 periods of the divider’s length, and its end gives the data read; a write while MDIO is busy is ignored with WIGN; the other forms act as the functions of the model named here say, and an end or a timer that does not run changes nothing. -/
def Obligations.ConsistTransmit : Prop :=
  (∀ (p : Port) (it : PItem) (s : State), s.active = true → s.linkUp p = true → s.dimmed = false → (s.port p).holdAt = none → (s.port p).pauseOut = [] → (s.port p).tx = none → (s.port p).txHeld = none → s.bestHead p [7, 6, 5, 4, 3, 2, 1, 0] = some it →
    exec (.consistTxFrameStart p) s = .next (s.startEth p it).settle) ∧
  (∀ (p : Port) (t0 : Nat) (s : State), s.active = true → ((s.port p).txq.filterMap (·.launch)).min? = some t0 →
    exec (.telegramLaunch p) s = .next ((s.reach t0).runEth p).settle) ∧
  (∀ (p : Port) (s : State), s.active = true → (s.port p).verifying = true →
    ∃ t, exec (.preemptionVerifyResult p true) s = .next t ∧ t.get (Reg.CONS_STAT.PACT.at p) = 1 ∧ (t.port p).verifying = false ∧ t.events = s.events ∧ regsBut s t [Reg.CONS_STAT.PACT.at p] ∧ memSame s t) ∧
  (∀ (p : Port) (s : State), s.active = true → (s.port p).verifying = true →
    ∃ t, exec (.preemptionVerifyResult p false) s = .next t ∧ t.get (Reg.CONS_STAT.PVFAIL.at p) = 1 ∧ t.flag (Reg.CONS_IRQ.PVFAIL.at p) = true ∧ newest t = some 0x0805 ∧ (t.port p).verifying = false ∧ regsBut s t [Reg.CONS_STAT.PVFAIL.at p, Reg.CONS_IRQ.PVFAIL.at p] ∧ memSame s t) ∧
  (∀ (p : Port) (q : Fin 8) (d : Bytes) (n i : Nat) (o : List Bytes) (s : State), s.active = true → s.flag ((Reg.CONS_TXQ_CFG.EN.at p).ix q) = true → s.dimmed = false → s.portOff = false → s.linkUp p = false → s.ringAbove p q = false →
    i = (s.get ((Reg.CONS_TXQ_HEAD.HEAD.at p).ix q) + s.txInFlight p q) % s.txSize p q → o = (State.descList d).take (s.txOwned p q) → o ≠ [] → State.txShape o 0 o = .good n →
    exec (.txRingFetchStart p q d) s = .next ((s.onPort p fun t => { t with waiting := t.waiting.filter (·.1 ≠ q.val) }).writeBack p ⟨q, i, d.take (16 * n), (o.take 1).any fun x => bit (State.dCtl x) 28⟩ 3 none).settle) ∧
  (∀ (p : Port) (b : Bool) (q : Fin 8) (v : Word) (e hd : Fld) (s : State), s.awake = true → e = ((if b then Reg.CONS_TXQ_CFG.EN else Reg.CONS_RXQ_CFG.EN).at p).ix q → hd = ((if b then Reg.CONS_TXQ_HEAD.HEAD else Reg.CONS_RXQ_HEAD.HEAD).at p).ix q → s.flag e = false → e.of v.toNat = 1 →
    ∃ t, exec (.ringEnableWrite p b q v) s = .next t ∧ t.get e = 1 ∧ t.get hd = 0 ∧ t.events = s.events ∧ memSame s t) ∧
  (∀ (p : Port) (b : Bool) (q : Fin 8) (k t0 : Nat) (s : State), s.active = true → s.modOf p (b, q.val) = (k, some t0) →
    ∃ t, exec (.ringIrqModeration p b q) s = .next t ∧ t.flag (State.ringBit p b q) = true ∧ t.modOf p (b, q.val) = (0, none) ∧ t.now = max s.now t0 ∧ t.events = s.events ∧ regsBut s t [State.ringBit p b q] ∧ memSame s t) ∧
  (∀ (p : Port) (v : Word) (w s : State), s.active = true → s.flag (Reg.CONS_MDIO.BUSY.at p) = false → bit v.toNat 31 = true → w = s.storeWord (Reg.CONS_MDIO.GO.at p).addr v.toNat →
    ∃ t, exec (.mdioFrameStart p v) s = .next t ∧ t.get (Reg.CONS_MDIO.BUSY.at p) = 1 ∧ (t.port p).mdioAt = some (s.now + 64 * (match w.get (Reg.CONS_MDIO.MDCDIV.at p) with | 1 => ns 800 | 2 => ns 1600 | _ => ns 400))
      ∧ sent w t [.mdio p (w.flag (Reg.CONS_MDIO.OP.at p)) (w.get (Reg.CONS_MDIO.PHYAD.at p)) (w.get (Reg.CONS_MDIO.REGAD.at p)) (w.get (Reg.CONS_MDIO.DATA.at p))] ∧ t.events = s.events ∧ memSame s t) ∧
  (∀ (p : Port) (d : Bool) (v : BitVec 16) (t0 : Nat) (s : State), s.active = true → (s.port p).mdioAt = some t0 → s.flag (Reg.CONS_MDIO.OP.at p) = true →
    ∃ t, exec (.mdioFrameEnd p d v) s = .next t ∧ t.get (Reg.CONS_MDIO.BUSY.at p) = 0 ∧ t.get (Reg.CONS_MDIO.DATA.at p) = v.toNat ∧ t.flag (Reg.CONS_MDIO.RDERR.at p) = !d ∧ t.flag (Reg.CONS_IRQ.MDIO.at p) = true ∧ (t.port p).mdioAt = none ∧ t.now = max s.now t0
      ∧ t.events = s.events ∧ regsBut s t [Reg.CONS_MDIO.BUSY.at p, Reg.CONS_MDIO.DATA.at p, Reg.CONS_MDIO.RDERR.at p, Reg.CONS_IRQ.MDIO.at p] ∧ memSame s t) ∧
  (∀ (p : Port) (ok : Bool) (s : State), s.active = true → exec (.consistTxFrameStart p) s = .next (s.runEth p).settle
      ∧ (((s.port p).txq.filterMap (·.launch)).min? = none → exec (.telegramLaunch p) s = .next s.settle)
      ∧ ((s.port p).verifying = false → exec (.preemptionVerifyResult p ok) s = .next s.settle)) ∧
  (∀ (p : Port) (b : Bool) (q : Fin 8) (d : Bytes) (v : Word) (s : State), s.active = true → exec (.txRingFetchStart p q d) s = .next (s.fetchTx p q d).settle
      ∧ exec (.ringEnableWrite p b q v) s = .next (s.writeRingCfg p b q v.toNat).settle ∧ ((s.modOf p (b, q.val)).2 = none → exec (.ringIrqModeration p b q) s = .next s.settle)) ∧
  (∀ (p : Port) (v : Word) (s : State), s.active = true → s.flag (Reg.CONS_MDIO.BUSY.at p) = true →
    ∃ t, exec (.mdioFrameStart p v) s = .next t ∧ t.flag (Reg.CONS_STAT.WIGN.at p) = true ∧ t.ports = s.ports ∧ t.events = s.events ∧ regsBut s t [Reg.CONS_STAT.WIGN.at p] ∧ memSame s t) ∧
  (∀ (p : Port) (v : Word) (s : State), s.active = true → s.flag (Reg.CONS_MDIO.BUSY.at p) = false → bit v.toNat 31 = false →
    exec (.mdioFrameStart p v) s = .next (s.storeWord (Reg.CONS_MDIO.GO.at p).addr v.toNat).settle) ∧
  (∀ (p : Port) (d : Bool) (v : BitVec 16) (t0 : Nat) (s : State), s.active = true → (s.port p).mdioAt = some t0 → s.flag (Reg.CONS_MDIO.OP.at p) = false →
    ∃ t, exec (.mdioFrameEnd p d v) s = .next t ∧ t.get (Reg.CONS_MDIO.BUSY.at p) = 0 ∧ t.flag (Reg.CONS_IRQ.MDIO.at p) = true ∧ (t.port p).mdioAt = none ∧ t.now = max s.now t0
      ∧ t.events = s.events ∧ regsBut s t [Reg.CONS_MDIO.BUSY.at p, Reg.CONS_IRQ.MDIO.at p] ∧ memSame s t) ∧
  (∀ (p : Port) (d : Bool) (v : BitVec 16) (s : State), s.active = true → (s.port p).mdioAt = none → exec (.mdioFrameEnd p d v) s = .next s.settle)

/-- Pause of the consist ports. A received pause is counted; it holds transmission for its quanta, one with 0 quanta ends the hold, and where reception of pause is off or the watchdog has tripped it does nothing more; the hold ends at its time; while XOFF is reached the pause frame repeats, and XON releases it, both only while TXEN is 1; a hold as long as the watchdog interval trips the watchdog, which is counted and recorded and lets transmission go on until its own end; a port without a link and a timer that does not run change nothing. -/
def Obligations.ConsistPause : Prop :=
  (∀ (p : Port) (v : BitVec 16) (s : State), s.active = true → s.linkUp p = true → s.flag (Reg.CONS_PAUSE.RXEN.at p) = true → (s.port p).wdAt = none → v ≠ 0 →
    ∃ t, exec (.pauseReceived p v) s = .next t ∧ (t.port p).holdAt = some (s.now + v.toNat * 64 * s.byteTime p) ∧ (t.port p).holdFrom = some ((s.port p).holdFrom.getD s.now) ∧ t.get (Reg.CONS_STAT.PAUSED.at p) = 1
      ∧ t.get (Reg.CONS_PAUSERX.COUNT.at p) = min (s.get (Reg.CONS_PAUSERX.COUNT.at p) + 1) 0xFFFFFFFF ∧ t.events = s.events ∧ regsBut s t [Reg.CONS_STAT.PAUSED.at p, Reg.CONS_PAUSERX.COUNT.at p] ∧ memSame s t) ∧
  (∀ (p : Port) (t0 : Nat) (s : State), s.active = true → (s.port p).holdAt = some t0 →
    exec (.pauseHoldExpiry p) s = .next ((((s.reach t0).onPort p fun t => { t with holdAt := none, holdFrom := none }).put (Reg.CONS_STAT.PAUSED.at p) 0).runEth p).settle) ∧
  (∀ (p : Port) (t0 : Nat) (s : State), s.active = true → (s.port p).xoffAt = some t0 → s.flag (Reg.CONS_PAUSE.TXEN.at p) = true → s.xon p ≤ s.ingressBufs p →
    exec (.pauseRepeatTimer p) s = .next (((s.reach t0).onPort p fun t => { t with pauseOut := t.pauseOut ++ [s.get (Reg.CONS_PAUSE.XOFFQ.at p)], xoffAt := some (max s.now t0 + s.halfXoffq p) }).flushPause p).settle) ∧
  (∀ (p : Port) (s : State), s.active = true → (s.port p).xoffAt.isSome = true → s.ingressBufs p < s.xon p → s.flag (Reg.CONS_PAUSE.TXEN.at p) = true →
    exec (.pauseXonReached p) s = .next ((s.onPort p fun t => { t with pauseOut := t.pauseOut ++ [0], xoffAt := none }).flushPause p).settle) ∧
  (∀ (p : Port) (a b : Nat) (s : State), s.active = true → (s.port p).holdFrom = some a → (s.port p).holdAt = some b → a + ms (s.wdms p) ≤ b →
    ∃ t, exec (.pauseWatchdogTrip p) s = .next t ∧ (t.port p).wdAt = some (max s.now (a + ms (s.wdms p)) + ms (s.wdms p)) ∧ (t.port p).holdAt = none ∧ (t.port p).holdFrom = none ∧ t.get (Reg.CONS_STAT.PWD.at p) = 1 ∧ t.get (Reg.CONS_STAT.PAUSED.at p) = 0
      ∧ t.get (Reg.CONS_PAUSEWD.COUNT.at p) = min (s.get (Reg.CONS_PAUSEWD.COUNT.at p) + 1) 0xFFFFFFFF ∧ t.flag (Reg.CONS_IRQ.PWD.at p) = true ∧ newest t = some 0x0801 ∧ t.now = max s.now (a + ms (s.wdms p)) ∧ memSame s t) ∧
  (∀ (p : Port) (t0 : Nat) (s : State), s.active = true → (s.port p).wdAt = some t0 →
    ∃ t, exec (.pauseWatchdogEnd p) s = .next t ∧ t.get (Reg.CONS_STAT.PWD.at p) = 0 ∧ (t.port p).wdAt = none ∧ t.now = max s.now t0 ∧ t.events = s.events ∧ regsBut s t [Reg.CONS_STAT.PWD.at p] ∧ memSame s t) ∧
  (∀ (p : Port) (s : State), s.active = true → s.linkUp p = true → s.flag (Reg.CONS_PAUSE.RXEN.at p) = true → (s.port p).wdAt = none →
    exec (.pauseReceived p 0) s = .next ((((s.bump (Reg.CONS_PAUSERX.COUNT.at p)).onPort p fun t => { t with holdAt := none, holdFrom := none }).put (Reg.CONS_STAT.PAUSED.at p) 0).runEth p).settle) ∧
  (∀ (p : Port) (v : BitVec 16) (s : State), s.active = true → s.linkUp p = true → (s.flag (Reg.CONS_PAUSE.RXEN.at p) = false ∨ (s.port p).wdAt.isSome = true) →
    exec (.pauseReceived p v) s = .next (s.bump (Reg.CONS_PAUSERX.COUNT.at p)).settle) ∧
  (∀ (p : Port) (t0 : Nat) (s : State), s.active = true → (s.port p).xoffAt = some t0 →
    (s.flag (Reg.CONS_PAUSE.TXEN.at p) = false → exec (.pauseRepeatTimer p) s = .next ((s.reach t0).onPort p fun t => { t with xoffAt := none }).settle)
      ∧ (s.flag (Reg.CONS_PAUSE.TXEN.at p) = true → s.ingressBufs p < s.xon p → exec (.pauseRepeatTimer p) s = .next (s.reach t0).settle)) ∧
  (∀ (p : Port) (v : BitVec 16) (s : State), s.active = true → (s.linkUp p = false → exec (.pauseReceived p v) s = .next s.settle) ∧ ((s.port p).holdAt = none → exec (.pauseHoldExpiry p) s = .next s.settle ∧ exec (.pauseWatchdogTrip p) s = .next s.settle)
      ∧ ((s.port p).xoffAt = none → exec (.pauseRepeatTimer p) s = .next s.settle) ∧ ((s.port p).wdAt = none → exec (.pauseWatchdogEnd p) s = .next s.settle)
      ∧ (((s.port p).xoffAt.isSome && decide (s.ingressBufs p < s.xon p) && s.flag (Reg.CONS_PAUSE.TXEN.at p)) = false → exec (.pauseXonReached p) s = .next s.settle)) ∧
  (∀ (p : Port) (a b : Nat) (s : State), s.active = true → (s.port p).holdFrom = some a → (s.port p).holdAt = some b → b < a + ms (s.wdms p) → exec (.pauseWatchdogTrip p) s = .next s.settle)

/-- Instances, commits and the process image. An instance that completes evaluates the blocks it has left, no longer runs, and is done where its period is its own; the commit instant acts once in a cycle, on the four tasks in their order; a task whose period ends with its instance done commits its output range with the forces, and one whose instance is not done overruns, which is counted and recorded; EN is set, or kept at 1 with WIGN while the engine runs; CFGALL makes every enabled station take its configuration; a host write of one byte of the retained area that no force covers is what is read there; how far a running instance has come when memory is written is a free value (log entry 22); a completion without an instance and a second commit change nothing, and every form acts as the function of the model named here says. -/
def Obligations.EngineInstances : Prop :=
  (∀ (n : Fin 4) (b : Bytes) (s : State), s.active = true → s.image? = some b → (s.task n).run = true → s.engineRuns = true → s.now ≤ s.bnd + ns s.commitNs → s.evaluating = some n.val →
    ∃ t, exec (.taskInstanceComplete n) s = .next t ∧ (t.task n).run = false ∧ (t.task n).first = false
      ∧ (t.task n).done_ = (!(s.task n).skipped && decide ((s.task n).ends = some (((s.task n).relCyc + s.taskPeriod n - 1) % 2 ^ 32)))
      ∧ t.img = (s.evalBlocks b n (s.blocksLeft b n)).img ∧ t.prg = (s.evalBlocks b n (s.blocksLeft b n)).prg
      ∧ t.get (Reg.CYCL_EVAL.LAST.ix n) = s.usSince (s.task n).relAt ∧ t.get (Reg.CYCL_EVAL.MAX.ix n) = max (s.usSince (s.task n).relAt) (s.get (Reg.CYCL_EVAL.MAX.ix n)) % 2 ^ 16
      ∧ t.events = s.events ∧ regsBut s t [Reg.CYCL_EVAL.LAST.ix n, Reg.CYCL_EVAL.MAX.ix n, Reg.CYCL_STAT.TRUN] ∧ t.recd = s.recd ∧ t.rest = s.rest ∧ t.hkp = s.hkp) ∧
  (∀ (u s : State), s.active = true → s.cycRun = true → s.eng.committed ≠ some s.cyc → u = { (s.reach (s.bnd + ns s.commitNs)).progress with eng.committed := some s.cyc } →
    exec .taskCommit s = .next (((((u.commitTask 0).commitTask 1).commitTask 2).commitTask 3).openMirror).settle) ∧
  (∀ (v : Word) (s : State), s.awake = true → bit v.toNat 0 = true → bit v.toNat 1 = false →
    ∃ t, exec (.cyclEnWrite v) s = .next t ∧ t.flag Reg.CYCL_CTRL.EN = true ∧ t.eng = s.eng ∧ t.events = s.events ∧ regsBut s t [Reg.CYCL_CTRL.EN] ∧ memSame s t) ∧
  (∀ (v : Word) (s : State), s.awake = true → bit v.toNat 0 = false → bit v.toNat 1 = false → s.flag Reg.CYCL_CTRL.EN = true → s.get Reg.CYCL_STAT.ESTATE = 2 →
    ∃ t, exec (.cyclEnWrite v) s = .next t ∧ t.flag Reg.CYCL_CTRL.EN = true ∧ t.flag Reg.CYCL_STAT.WIGN = true ∧ t.eng = s.eng ∧ t.events = s.events ∧ regsBut s t [Reg.CYCL_STAT.WIGN] ∧ memSame s t) ∧
  (∀ (v : Word) (m : Nat) (s : State), s.awake = true → bit v.toNat 0 = true → bit v.toNat 1 = true →
    ∃ t, exec (.stationCfgallWrite v) s = .next t ∧ t.station? m = ((s.station? m).map fun x => if s.eng.stations.any (fun y => y.1 = m && seEn y.2.entry) then { x with state := 1 } else x)
      ∧ t.flag Reg.CYCL_CTRL.EN = true ∧ t.events = s.events ∧ regsBut s t [Reg.CYCL_CTRL.EN, Reg.CYCL_SSTAT.VALID] ∧ memSame s t) ∧
  (∀ (o : Fin 262144) (b : Byte) (u s : State), s.active = true → u = s.progress → u.img.retained.wf = true → 0x20000 ≤ o.val → o.val < 0x30000 → u.forcedMem = [] →
    ∃ t, exec (.processImageHostWrite o [b]) s = .next t ∧ (∀ a, t.img.retained.read a = if a = o.val - 0x20000 then b else u.img.retained.read a) ∧ t.img.nonret = u.img.nonret ∧ t.img.comm = u.img.comm
      ∧ t.prg = u.prg ∧ t.events = s.events ∧ regsBut s t [] ∧ t.recd = s.recd ∧ t.rest = s.rest ∧ t.hkp = s.hkp) ∧
  (∀ (n : Fin 4) (o : Fin 262144) (d : Bytes) (v : Word) (s : State), s.active = true → exec (.taskInstanceComplete n) s = .next (s.completeTask n).settle ∧ exec .taskCommit s = .next s.commitPoint.settle
      ∧ exec (.processImageHostWrite o d) s = .next (s.imageWrite o d).settle ∧ exec (.cyclEnWrite v) s = .next (s.writeCyclCtrl v.toNat).settle ∧ exec (.stationCfgallWrite v) s = .next (s.writeCyclCtrl v.toNat).settle) ∧
  (∀ (n : Fin 4) (s : State), s.active = true → s.now ≤ s.bnd + ns s.commitNs → (s.image? = none ∨ (s.task n).run = false ∨ s.engineRuns = false) → exec (.taskInstanceComplete n) s = .next s.settle) ∧
  (∀ (s : State), s.active = true → (s.cycRun = false ∨ s.eng.committed = some s.cyc) → exec .taskCommit s = .next s.settle) ∧
  (∀ (n : Fin 4) (s : State), s.engineRuns = true → (s.task n).ends = some s.cyc → s.rephCycle = false → s.duskCycle = false → (s.task n).skipped = false → (s.task n).done_ = true →
    (s.commitTask n).img.comm = applyBits (s.img.comm.writeAll ((s.taskOut n).1 - 0x10000) (s.task n).snap) 0x10000 (s.taskOut n).1 ((s.taskOut n).1 + (s.taskOut n).2) s.forces
      ∧ ((s.commitTask n).task n).ends = none ∧ ((s.commitTask n).task n).overs = 0 ∧ (s.commitTask n).events = s.events ∧ regsBut s (s.commitTask n) [Reg.CYCL_STAT.OVR]) ∧
  (∀ (n : Fin 4) (s : State), s.engineRuns = true → (s.task n).ends = some s.cyc → s.rephCycle = false → s.duskCycle = false → (s.task n).done_ = false → (s.task n).overs = 0 →
    (s.commitTask n).img = s.img ∧ (s.commitTask n).get Reg.CYCL_OVERRUN.COUNT = min (s.get Reg.CYCL_OVERRUN.COUNT + 1) 0xFFFFFFFF ∧ ((s.commitTask n).task n).overs = 1 ∧ newest (s.commitTask n) = some 0x0905
      ∧ (s.commitTask n).flag Reg.CYCL_IRQ.OVERRUN = true ∧ regsBut s (s.commitTask n) [Reg.CYCL_OVERRUN.COUNT, Reg.CYCL_STAT.OVR, Reg.CYCL_IRQ.OVERRUN])

/-- The stations of the cycle engine. The telegram of a configured station of a running engine carries its output range, valid, and goes out on its port at its launch instant, after the commit of its cycle; a telegram of no station or not from its address and port is counted as stray, a malformed one as bad, a good one updates its station and, in its own cycle, its inputs; a station without a telegram for its acceptance window becomes LOST; the station table loads and stores by halves, and a write while it is busy is ignored with WIGN; a station that is not there, not enabled or already served changes nothing; every form acts as the function of the model named here says. -/
def Obligations.Stations : Prop :=
  (∀ (n : Fin 256) (x : StationS) (s u w : State) (f : Bytes), s.active = true → s.station? n = some x → seEn x.entry = true → s.mayRun = true → s.inau.rephase = false → s.eng.sent.contains (n.val, s.cyc) = false → x.state = 2 →
    u = ((s.reach (s.launchAt x.entry - us 2)).commitBy (s.launchAt x.entry - us 2)).progress → u.engineRuns = true → u.duskCycle = false → u.flag Reg.CYCL_IOCFG.TAGEN = false →
    f = natBe 6 (seMac x.entry) ++ natBe 6 u.ioAddress ++ natBe 2 (u.get (Reg.CONS_IOETYPE.ETYPE.at (sePort x.entry))) ++ telegram 1 n.val (128 + 64 * b2n (u.outForced x.entry true)) u.cyc u.claim (seTag x.entry) (u.img.comm.readN (seOut x.entry) (seOutLen x.entry)) →
    w = { u with eng.sent := (n.val, u.cyc) :: u.eng.sent.filter (·.2 = u.cyc) }.bump Reg.CYCL_OUTSENT.COUNT →
    exec (.telegramAssembly n) s = .next (w.sendEth (sePort x.entry) f (w.get (Reg.CONS_TXCFG.IOQ.at (sePort x.entry))) none (some (s.launchAt x.entry)) 0 13 w.claim).settle) ∧
  (∀ (p : Port) (f : Bytes) (s : State), s.active = true → s.linkUp p = true → (s.steer p f).io = true → s.station? (byteAt (f.drop (ethNext f)) 2) = none →
    ∃ t, exec (.ioInTelegramReceived p f) s = .next t ∧ t.get Reg.CYCL_INSTRAY.COUNT = min (s.get Reg.CYCL_INSTRAY.COUNT + 1) 0xFFFFFFFF ∧ t.eng = s.eng ∧ t.events = s.events ∧ regsBut s t [Reg.CYCL_INSTRAY.COUNT] ∧ memSame s t) ∧
  (∀ (p : Port) (f g : Bytes) (n : Nat) (x : StationS) (s : State), s.active = true → s.linkUp p = true → (s.steer p f).io = true → g = f.drop (ethNext f) → n = byteAt g 2 → s.station? n = some x →
    fieldAt f 0 6 = s.ioAddress → seEn x.entry = true → sePort x.entry = p.val → fieldAt f 6 6 = seMac x.entry → byteAt g 0 = 1 → byteAt g 1 = 2 → fieldAt g 16 2 = seInLen x.entry → 22 + seInLen x.entry ≤ g.length →
    crc16 (g.take (20 + seInLen x.entry)) = fieldAt g (20 + seInLen x.entry) 2 →
    exec (.ioInTelegramReceived p f) s = .next (s.takeIn n x g).settle) ∧
  (∀ (n : Fin 256) (x : StationS) (s : State), s.active = true → s.station? n = some x → seEn x.entry = true → x.state ≠ 3 → seAccWin x.entry ≤ x.miss →
    ∃ t, exec (.stationAccwinExpiry n) s = .next t ∧ t.station? n = some { x with state := 3 } ∧ t.get Reg.CYCL_STLOST.COUNT = min (s.get Reg.CYCL_STLOST.COUNT + 1) 0xFFFFFFFF ∧ t.flag Reg.CYCL_IRQ.STLOST = true ∧ newest t = some 0x0909
      ∧ regsBut s t [Reg.CYCL_STLOST.COUNT, Reg.CYCL_IRQ.STLOST, Reg.CYCL_SSTAT.VALID] ∧ memSame s t) ∧
  (∀ (v : Word) (x : StationS) (s : State), s.awake = true → s.flag Reg.CYCL_SSTAT.BUSY = false → Reg.CYCL_SSEL.WR.of v.toNat = 0 → Reg.CYCL_SSEL.TAB.of v.toNat = 0 → s.station? (Reg.CYCL_SSEL.INDEX.of v.toNat) = some x →
    ∃ t, exec (.stationTableLoad v) s = .next t ∧ t.get Reg.CYCL_SSTAT.VALID = 1 ∧ t.get Reg.CYCL_SD0.DATA = fieldAt (x.entry.take 16) 0 4 % 2 ^ 32 ∧ t.get Reg.CYCL_SD1.DATA = fieldAt (x.entry.take 16) 4 4 % 2 ^ 32
      ∧ t.get Reg.CYCL_SD2.DATA = fieldAt (x.entry.take 16) 8 4 % 2 ^ 32 ∧ t.get Reg.CYCL_SD3.DATA = fieldAt (x.entry.take 16) 12 4 % 2 ^ 32 ∧ t.eng = s.eng ∧ t.events = s.events
      ∧ regsBut s t [Reg.CYCL_SSEL.TAB, Reg.CYCL_SSEL.WR, Reg.CYCL_SSEL.INDEX, Reg.CYCL_SSTAT.VALID, Reg.CYCL_SD0.DATA, Reg.CYCL_SD1.DATA, Reg.CYCL_SD2.DATA, Reg.CYCL_SD3.DATA] ∧ memSame s t) ∧
  (∀ (v : Word) (s : State), s.awake = true → s.flag Reg.CYCL_SSTAT.BUSY = false → Reg.CYCL_SSEL.WR.of v.toNat = 1 → Reg.CYCL_SSEL.TAB.of v.toNat = 1 →
    ∃ t, exec (.stationTableStore v) s = .next t ∧ t.get Reg.CYCL_SSTAT.VALID = 0
      ∧ t.eng = { s.eng with half1 := s.eng.half1.filter (·.1 ≠ Reg.CYCL_SSEL.INDEX.of v.toNat) ++ [(Reg.CYCL_SSEL.INDEX.of v.toNat, natBe 4 (s.get Reg.CYCL_SD0.DATA) ++ natBe 4 (s.get Reg.CYCL_SD1.DATA) ++ natBe 4 (s.get Reg.CYCL_SD2.DATA) ++ natBe 4 (s.get Reg.CYCL_SD3.DATA))] }
      ∧ t.events = s.events ∧ regsBut s t [Reg.CYCL_SSEL.TAB, Reg.CYCL_SSEL.WR, Reg.CYCL_SSEL.INDEX, Reg.CYCL_SSTAT.VALID] ∧ memSame s t) ∧
  (∀ (n : Fin 256) (p : Port) (f : Bytes) (v : Word) (s : State), s.active = true → exec (.telegramAssembly n) s = .next (s.assemble n).settle
      ∧ exec (.ioInTelegramReceived p f) s = .next (if s.linkUp p && (s.steer p f).io then s.ioFrame p f else s).settle
      ∧ exec (.stationAccwinExpiry n) s = .next (s.loseStation n).settle ∧ exec (.stationTableLoad v) s = .next (s.posted 0x800A0 (·.stationSel v.toNat)).settle
      ∧ exec (.stationTableStore v) s = .next (s.posted 0x800A0 (·.stationSel v.toNat)).settle) ∧
  (∀ (n : Fin 256) (x : StationS) (s : State), s.active = true → s.station? n = some x → (seEn x.entry = false ∨ s.mayRun = false ∨ s.eng.sent.contains (n.val, s.cyc) = true) → exec (.telegramAssembly n) s = .next s.settle) ∧
  (∀ (n : Fin 256) (x : StationS) (s : State), s.active = true → s.station? n = some x → (seEn x.entry = false ∨ x.state = 3 ∨ x.miss < seAccWin x.entry) → exec (.stationAccwinExpiry n) s = .next s.settle) ∧
  (∀ (n : Fin 256) (s : State), s.active = true → s.station? n = none → exec (.telegramAssembly n) s = .next s.settle ∧ exec (.stationAccwinExpiry n) s = .next s.settle) ∧
  (∀ (p : Port) (f g : Bytes) (n : Nat) (x : StationS) (s : State), s.active = true → s.linkUp p = true → (s.steer p f).io = true → g = f.drop (ethNext f) → n = byteAt g 2 → s.station? n = some x → (fieldAt f 0 6 ≠ s.ioAddress ∨ seEn x.entry = false ∨ sePort x.entry ≠ p.val ∨ fieldAt f 6 6 ≠ seMac x.entry) →
    exec (.ioInTelegramReceived p f) s = .next (s.bump Reg.CYCL_INSTRAY.COUNT).settle) ∧
  (∀ (p : Port) (f g : Bytes) (n : Nat) (x : StationS) (s : State), s.active = true → s.linkUp p = true → (s.steer p f).io = true → g = f.drop (ethNext f) → n = byteAt g 2 → s.station? n = some x → fieldAt f 0 6 = s.ioAddress → seEn x.entry = true → sePort x.entry = p.val → fieldAt f 6 6 = seMac x.entry → 3 ≤ g.length → (byteAt g 0 ≠ 1 ∨ byteAt g 1 ≠ 2 ∨ (fieldAt g 16 2 ≠ 0 ∧ fieldAt g 16 2 ≠ seInLen x.entry) ∨ g.length < 22 + fieldAt g 16 2 ∨ crc16 (g.take (20 + fieldAt g 16 2)) ≠ fieldAt g (20 + fieldAt g 16 2) 2) →
    exec (.ioInTelegramReceived p f) s = .next (s.bump Reg.CYCL_INBAD.COUNT).settle) ∧
  (∀ (n : Nat) (x : StationS) (g : Bytes) (s : State), s.station? n = some x → (s.takeIn n x g).station? n = some { x with lastCyc := fieldAt g 4 4, claim := fieldAt g 8 4, tag := fieldAt g 12 4, heard := true, safe := bit (byteAt g 3) 5, err := bit (byteAt g 3) 4, hi := decide (s.claim < fieldAt g 8 4), state := (if bit (byteAt g 3) 6 && fieldAt g 12 4 = seTag x.entry then 2 else 1), wrote := x.wrote || (s.cycRun && decide (fieldAt g 4 4 = s.cyc) && decide (fieldAt g 16 2 ≠ 0)), late := x.late || (s.cycRun && decide (0 < sdiff32 s.cyc (fieldAt g 4 4))) }
      ∧ (s.takeIn n x g).img.recv = (if s.cycRun && decide (fieldAt g 4 4 = s.cyc) then s.img.recv.writeAll (seIn x.entry) ((g.drop 20).take (fieldAt g 16 2)) else s.img.recv)
      ∧ (s.takeIn n x g).get Reg.CYCL_INGOOD.COUNT = min (s.get Reg.CYCL_INGOOD.COUNT + 1) 0xFFFFFFFF) ∧
  (∀ (p : Port) (f : Bytes) (s : State), s.active = true → (s.linkUp p = false ∨ (s.steer p f).io = false) → exec (.ioInTelegramReceived p f) s = .next s.settle) ∧
  (∀ (v : Word) (s : State), s.awake = true → s.flag Reg.CYCL_SSTAT.BUSY = true → exec (.stationTableLoad v) s = .next (s.setOpt (wignOf 0x800A0)).settle ∧ exec (.stationTableStore v) s = .next (s.setOpt (wignOf 0x800A0)).settle)

/-- The program store. A write to the load window makes the inactive image invalid, or is refused with WIGN where the key is in RUN; VALIDATE starts and its end marks a good image valid and a bad one invalid; STORE starts for a valid image outside the start bank, and its end leaves the image in the MRAM bank; SWAP of a running engine is busy until its check at the next boundary, and of one that does not run exchanges the banks at once; SETSTART names the start bank; RELOAD takes the MRAM bank; CANCEL without a swap succeeds and with one ends it; an operation while another runs has result 3, one with the key in RUN result 1, and a SWAP so refused is recorded as 0x0915; a bank with bytes of an uncorrectable MRAM line fails its validation with result 2; a write while the mailbox is busy is ignored with WIGN; an end of an operation that does not run changes nothing; every form acts as the function of the model named here says. That a bank with an uncorrectable line answers RESULT 2, and that RELOAD is done at once, is the model’s reading (log entries 18 and 33). -/
def Obligations.Programs : Prop :=
  (∀ (o : Fin 524288) (d : Bytes) (s : State), s.active = true → s.get Reg.CYCL_STAT.KEY = 1 →
    ∃ t, exec (.loadWindowWrite o d) s = .next t ∧ t.flag Reg.CYCL_STAT.WIGN = true ∧ t.events = s.events ∧ regsBut s t [Reg.CYCL_STAT.WIGN] ∧ memSame s t) ∧
  (∀ (o : Fin 524288) (d : Bytes) (s : State), s.active = true → s.get Reg.CYCL_STAT.KEY ≠ 1 → s.flag Reg.PRG_STAT.BUSY = false → s.flag Reg.PRG_STAT.SWPEND = false →
    ∃ t, exec (.loadWindowWrite o d) s = .next t ∧ t.bank s.inaBank = { s.bank s.inaBank with exec := (s.bank s.inaBank).exec.writeAll o (d.take (0x80000 - o)), valid := false, stored := false, lost := (s.bank s.inaBank).lost.filter (fun a => a < o.val || o.val + d.length ≤ a) } ∧ t.flag Reg.PRG_STAT.IVALID = false ∧ t.flag Reg.PRG_STAT.ISTORED = false
      ∧ t.events = s.events ∧ t.img = s.img ∧ t.recd = s.recd ∧ t.rest = s.rest ∧ t.hkp = s.hkp) ∧
  (∀ (v : Word) (s : State), s.awake = true → s.flag Reg.PRG_STAT.BUSY = false → Reg.PRG_CMD.OP.of v.toNat = 1 → s.get Reg.PRG_STAT.OPRUN = 0 →
    ∃ t, exec (.validate v) s = .next t ∧ t.get Reg.PRG_STAT.OPRUN = 1 ∧ t.events = s.events ∧ regsBut s t [Reg.PRG_CMD.OP, Reg.PRG_CMD.FCLR, Reg.PRG_CMD.BANK, Reg.PRG_STAT.OPRUN] ∧ memSame s t) ∧
  (∀ (s : State), s.awake = true → s.get Reg.PRG_STAT.OPRUN = 1 → (State.validateBank (s.bank s.inaBank)).1 = 0 → s.cmd.slots = [] → s.actBank ≤ 1 →
    ∃ t, exec .validateComplete s = .next t ∧ t.bank s.inaBank = { s.bank s.inaBank with valid := true } ∧ t.flag Reg.PRG_STAT.IVALID = true ∧ t.get Reg.PRG_VSTAT.RESULT = 0 ∧ newest t = some 0x0910 ∧ t.get Reg.PRG_STAT.OPRUN = 0 ∧ t.get Reg.PRG_STAT.RES = 0
      ∧ t.flag Reg.PRG_IRQ.OPDONE = true ∧ t.img = s.img ∧ t.recd = s.recd ∧ t.rest = s.rest ∧ t.hkp = s.hkp) ∧
  (∀ (v : Word) (s : State), s.awake = true → s.flag Reg.PRG_STAT.BUSY = false → Reg.PRG_CMD.OP.of v.toNat = 2 → s.get Reg.PRG_STAT.OPRUN = 0 → s.get Reg.CYCL_STAT.KEY ≠ 1 → s.flag Reg.PRG_STAT.IVALID = true → s.inaBank ≠ s.prg.start → s.actTurn .store = true → s.hkp.waiting.contains .store = false →
    ∃ t, exec (.store v) s = .next t ∧ t.get Reg.PRG_STAT.OPRUN = 2 ∧ t.hkp = { s.hkp with running := s.hkp.running ++ [.store] } ∧ t.events = s.events ∧ regsBut s t [Reg.PRG_CMD.OP, Reg.PRG_CMD.FCLR, Reg.PRG_CMD.BANK, Reg.PRG_STAT.OPRUN, Reg.HKP_STAT.ACT]
      ∧ t.img = s.img ∧ t.prg = s.prg ∧ t.recd = s.recd ∧ t.rest = s.rest) ∧
  (∀ (s : State), s.awake = true → s.get Reg.PRG_STAT.OPRUN = 2 → s.hkp.running.contains .store = true → s.cmd.slots = [] → s.actBank ≤ 1 →
    ∃ t, exec (.storeComplete true) s = .next t ∧ t.bank s.inaBank = { s.bank s.inaBank with mram := (s.bank s.inaBank).mram.copyRange (s.bank s.inaBank).exec 0 (imLen ((s.bank s.inaBank).exec.bytes 0 64)), stored := true, bad := (s.bank s.inaBank).bad.filter (imLen ((s.bank s.inaBank).exec.bytes 0 64) ≤ 16 * ·) }
      ∧ newest t = some 0x0912 ∧ t.get Reg.PRG_STAT.OPRUN = 0 ∧ t.get Reg.PRG_STAT.RES = 0 ∧ t.flag Reg.PRG_STAT.ISTORED = true ∧ t.flag Reg.PRG_IRQ.OPDONE = true ∧ t.hkp.running = s.hkp.running.erase .store ∧ t.img = s.img ∧ t.recd = s.recd ∧ t.rest = s.rest) ∧
  (∀ (v : Word) (s : State), s.awake = true → s.flag Reg.PRG_STAT.BUSY = false → Reg.PRG_CMD.OP.of v.toNat = 3 → s.get Reg.PRG_STAT.OPRUN = 0 → s.get Reg.CYCL_STAT.KEY ≠ 1 → s.flag Reg.PRG_STAT.IVALID = true → s.engineRuns = true →
    ∃ t, exec (.swap v) s = .next t ∧ t.get Reg.PRG_STAT.OPRUN = 3 ∧ t.flag Reg.PRG_STAT.BUSY = true ∧ t.prg = { s.prg with swapReq := some false, swapFclr := decide (Reg.PRG_CMD.FCLR.of v.toNat ≠ 0) } ∧ t.events = s.events
      ∧ regsBut s t [Reg.PRG_CMD.OP, Reg.PRG_CMD.FCLR, Reg.PRG_CMD.BANK, Reg.PRG_STAT.OPRUN, Reg.PRG_STAT.BUSY] ∧ t.img = s.img ∧ t.recd = s.recd ∧ t.rest = s.rest ∧ t.hkp = s.hkp) ∧
  (∀ (v : Word) (n : Nat) (s : State), s.awake = true → s.flag Reg.PRG_STAT.BUSY = false → Reg.PRG_CMD.OP.of v.toNat = 4 → n = Reg.PRG_CMD.BANK.of v.toNat → s.get Reg.PRG_STAT.OPRUN = 0 → s.get Reg.CYCL_STAT.KEY ≠ 1 → (s.bank n).valid = true → (s.bank n).stored = true →
    ∃ t, exec (.setstart v) s = .next t ∧ t.prg = { s.prg with start := n } ∧ t.get Reg.PRG_STAT.STARTB = n % 2 ∧ t.get Reg.PRG_STAT.RES = 0 ∧ t.flag Reg.PRG_IRQ.OPDONE = true ∧ newest t = some 0x0913 ∧ t.img = s.img ∧ t.recd = s.recd ∧ t.rest = s.rest ∧ t.hkp = s.hkp) ∧
  (∀ (v : Word) (s : State), s.awake = true → s.flag Reg.PRG_STAT.BUSY = false → Reg.PRG_CMD.OP.of v.toNat = 5 → s.get Reg.PRG_STAT.OPRUN = 0 → s.get Reg.CYCL_STAT.KEY ≠ 1 →
    ∃ t, exec (.reload v) s = .next t ∧ t.bank s.inaBank = { s.bank s.inaBank with exec := (s.bank s.inaBank).mram, lost := (s.bank s.inaBank).bad.flatMap (fun l => (List.range 16).map (16 * l + ·)), valid := false, stored := true } ∧ t.flag Reg.PRG_STAT.IVALID = false ∧ t.flag Reg.PRG_STAT.ISTORED = true ∧ t.get Reg.PRG_STAT.RES = 0 ∧ t.flag Reg.PRG_IRQ.OPDONE = true
      ∧ t.events = s.events ∧ t.img = s.img ∧ t.recd = s.recd ∧ t.rest = s.rest ∧ t.hkp = s.hkp) ∧
  (∀ (v : Word) (s : State), s.awake = true → s.flag Reg.PRG_STAT.BUSY = false → Reg.PRG_CMD.OP.of v.toNat = 6 → s.prg.swapReq = none →
    ∃ t, exec (.cancel v) s = .next t ∧ t.get Reg.PRG_STAT.RES = 0 ∧ t.flag Reg.PRG_IRQ.OPDONE = true ∧ t.events = s.events ∧ regsBut s t [Reg.PRG_CMD.OP, Reg.PRG_CMD.FCLR, Reg.PRG_CMD.BANK, Reg.PRG_STAT.RES, Reg.PRG_IRQ.OPDONE] ∧ memSame s t) ∧
  (∀ (v : Word) (b : Bool) (s : State), s.awake = true → s.flag Reg.PRG_STAT.BUSY = false → Reg.PRG_CMD.OP.of v.toNat = 6 → s.prg.swapReq = some b → s.cmd.slots = [] →
    ∃ t, exec (.cancel v) s = .next t ∧ t.prg = { s.prg with swapReq := none, swapFclr := false, postponed := 0 } ∧ t.get Reg.PRG_STAT.SWPEND = 0 ∧ t.get Reg.PRG_STAT.OPRUN = 0 ∧ t.get Reg.PRG_STAT.RES = 8 ∧ newest t = some 0x0915
      ∧ t.flag Reg.PRG_IRQ.SWREF = true ∧ t.flag Reg.PRG_IRQ.OPDONE = true ∧ regsBut s t [Reg.PRG_CMD.OP, Reg.PRG_CMD.FCLR, Reg.PRG_CMD.BANK, Reg.PRG_STAT.SWPEND, Reg.PRG_STAT.OPRUN, Reg.PRG_STAT.RES, Reg.PRG_IRQ.SWREF, Reg.PRG_IRQ.OPDONE]
      ∧ t.img = s.img ∧ t.recd = s.recd ∧ t.rest = s.rest ∧ t.hkp = s.hkp) ∧
  (∀ (v : Word) (s : State), s.awake = true → s.flag Reg.PRG_STAT.BUSY = false → exec (.validate v) s = .next (s.prgCmd v.toNat).settle ∧ exec (.store v) s = .next (s.prgCmd v.toNat).settle ∧ exec (.swap v) s = .next (s.prgCmd v.toNat).settle
      ∧ exec (.setstart v) s = .next (s.prgCmd v.toNat).settle ∧ exec (.reload v) s = .next (s.prgCmd v.toNat).settle ∧ exec (.cancel v) s = .next (s.prgCmd v.toNat).settle) ∧
  (∀ (v : Word) (s : State), s.awake = true → s.flag Reg.PRG_STAT.BUSY = true → exec (.validate v) s = .next (s.setOpt (wignOf 0x80144)).settle ∧ exec (.store v) s = .next (s.setOpt (wignOf 0x80144)).settle ∧ exec (.swap v) s = .next (s.setOpt (wignOf 0x80144)).settle
      ∧ exec (.setstart v) s = .next (s.setOpt (wignOf 0x80144)).settle ∧ exec (.reload v) s = .next (s.setOpt (wignOf 0x80144)).settle ∧ exec (.cancel v) s = .next (s.setOpt (wignOf 0x80144)).settle) ∧
  (∀ (ok : Bool) (o : Fin 524288) (d : Bytes) (s : State), s.active = true → exec .validateComplete s = .next s.validated.settle ∧ exec (.storeComplete ok) s = .next (s.storeDone ok).settle ∧ exec (.loadWindowWrite o d) s = .next (s.loadWrite o d).settle) ∧
  (∀ (ok : Bool) (s : State), s.awake = true → (s.get Reg.PRG_STAT.OPRUN ≠ 1 → exec .validateComplete s = .next s.settle) ∧ (s.get Reg.PRG_STAT.OPRUN ≠ 2 → exec (.storeComplete ok) s = .next s.settle)) ∧
  (∀ (v : Word) (s : State), s.awake = true → s.flag Reg.PRG_STAT.BUSY = false → 1 ≤ Reg.PRG_CMD.OP.of v.toNat → Reg.PRG_CMD.OP.of v.toNat ≤ 5 → s.get Reg.PRG_STAT.OPRUN ≠ 0 →
    ∃ t, exec (.validate v) s = .next t ∧ t.get Reg.PRG_STAT.RES = 3 ∧ t.flag Reg.PRG_IRQ.OPDONE = true ∧ t.flag Reg.PRG_IRQ.SWREF = (decide (Reg.PRG_CMD.OP.of v.toNat = 3) || s.flag Reg.PRG_IRQ.SWREF) ∧ (Reg.PRG_CMD.OP.of v.toNat ≠ 3 → t.events = s.events)
      ∧ (Reg.PRG_CMD.OP.of v.toNat = 3 → newest t = some 0x0915) ∧ regsBut s t [Reg.PRG_CMD.OP, Reg.PRG_CMD.FCLR, Reg.PRG_CMD.BANK, Reg.PRG_STAT.RES, Reg.PRG_IRQ.OPDONE, Reg.PRG_IRQ.SWREF] ∧ memSame s t) ∧
  (∀ (v : Word) (s : State), s.awake = true → s.flag Reg.PRG_STAT.BUSY = false → 2 ≤ Reg.PRG_CMD.OP.of v.toNat → Reg.PRG_CMD.OP.of v.toNat ≤ 5 → s.get Reg.PRG_STAT.OPRUN = 0 → s.get Reg.CYCL_STAT.KEY = 1 →
    ∃ t, exec (.store v) s = .next t ∧ t.get Reg.PRG_STAT.RES = 1 ∧ t.flag Reg.PRG_IRQ.OPDONE = true ∧ t.flag Reg.PRG_IRQ.SWREF = (decide (Reg.PRG_CMD.OP.of v.toNat = 3) || s.flag Reg.PRG_IRQ.SWREF) ∧ (Reg.PRG_CMD.OP.of v.toNat ≠ 3 → t.events = s.events) ∧ (Reg.PRG_CMD.OP.of v.toNat = 3 → newest t = some 0x0915)
      ∧ regsBut s t [Reg.PRG_CMD.OP, Reg.PRG_CMD.FCLR, Reg.PRG_CMD.BANK, Reg.PRG_STAT.RES, Reg.PRG_IRQ.OPDONE, Reg.PRG_IRQ.SWREF] ∧ memSame s t) ∧
  (∀ (s : State), s.awake = true → s.get Reg.PRG_STAT.OPRUN = 1 → (State.validateBank (s.bank s.inaBank)).1 ≠ 0 → s.cmd.slots = [] → s.actBank ≤ 1 →
    ∃ t, exec .validateComplete s = .next t ∧ t.bank s.inaBank = { s.bank s.inaBank with valid := false } ∧ t.flag Reg.PRG_STAT.IVALID = false ∧ newest t = some 0x0911 ∧ t.get Reg.PRG_STAT.OPRUN = 0 ∧ t.get Reg.PRG_STAT.RES = 11
      ∧ t.flag Reg.PRG_IRQ.OPDONE = true ∧ t.img = s.img ∧ t.recd = s.recd ∧ t.rest = s.rest ∧ t.hkp = s.hkp) ∧
  (∀ (v : Word) (s : State), s.awake = true → s.flag Reg.PRG_STAT.BUSY = false → Reg.PRG_CMD.OP.of v.toNat = 3 → s.get Reg.PRG_STAT.OPRUN = 0 → s.get Reg.CYCL_STAT.KEY ≠ 1 → s.flag Reg.PRG_STAT.IVALID = true → s.engineRuns = false → Reg.PRG_CMD.FCLR.of v.toNat = 0 → s.actBank ≤ 1 →
    ∃ t, exec (.swap v) s = .next t ∧ t.actBank = s.inaBank ∧ t.get Reg.PRG_STAT.RES = 0 ∧ t.flag Reg.PRG_IRQ.OPDONE = true ∧ t.flag Reg.PRG_IRQ.SWAP = true ∧ newest t = some 0x0914 ∧ t.prg.a = s.prg.a ∧ t.prg.b = s.prg.b ∧ t.prg.force = s.prg.force
      ∧ t.img = s.img ∧ t.recd = s.recd ∧ t.rest = s.rest ∧ t.hkp = s.hkp) ∧
  (∀ (b : BankS), b.bad ≠ [] → State.validateBank (State.fromMram b) = (2, none))

/-- The force table. An entry that no rule refuses is stored and counted, one that a rule refuses is not and its cause is shown; an entry without EN is stored disabled, one of zeros removed; CLRALL clears every entry; a load shows the entry; a write while the mailbox is busy is ignored with WIGN; every form acts as the function of the model named here says. That a store of 16 zero bytes removes the entry is the model’s reading (log entry 33). -/
def Obligations.Forcing : Prop :=
  (∀ (v : Word) (i : Nat) (s : State), s.awake = true → s.flag Reg.FRC_STAT.BUSY = false → Reg.FRC_SEL.CLRALL.of v.toNat = 0 → Reg.FRC_SEL.WR.of v.toNat = 1 → i = Reg.FRC_SEL.INDEX.of v.toNat → fcEn s.frcBytes = true → s.forceCause i s.frcBytes = 0 → s.frcBytes.all (· = 0) = false →
    ∃ t, exec (.forceEntryStore v) s = .next t ∧ t.prg = { s.prg with force := s.prg.force.filter (·.1 ≠ i) ++ [(i, s.frcBytes)] } ∧ t.get Reg.FRC_STAT.FRES = 0 ∧ t.get Reg.FRC_STAT.VALID = 0
      ∧ t.get Reg.FRC_STAT.NACT = ((s.prg.force.filter (·.1 ≠ i) ++ [(i, s.frcBytes)]).filter fun e => fcEn e.2).length % 2 ^ Reg.FRC_STAT.NACT.width ∧ newest t = some 0x0917
      ∧ regsBut s t [Reg.FRC_SEL.CLRALL, Reg.FRC_SEL.WR, Reg.FRC_SEL.INDEX, Reg.FRC_STAT.FRES, Reg.FRC_STAT.NACT, Reg.FRC_STAT.VALID] ∧ t.img = s.img ∧ t.recd = s.recd ∧ t.rest = s.rest ∧ t.hkp = s.hkp) ∧
  (∀ (v : Word) (i c : Nat) (s : State), s.awake = true → s.flag Reg.FRC_STAT.BUSY = false → Reg.FRC_SEL.CLRALL.of v.toNat = 0 → Reg.FRC_SEL.WR.of v.toNat = 1 → i = Reg.FRC_SEL.INDEX.of v.toNat → c = s.forceCause i s.frcBytes → c ≠ 0 →
    ∃ t, exec (.forceEntryStore v) s = .next t ∧ t.get Reg.FRC_STAT.FRES = c ∧ t.get Reg.FRC_STAT.VALID = 0 ∧ t.flag Reg.PRG_IRQ.FREF = true ∧ newest t = some 0x091A
      ∧ regsBut s t [Reg.FRC_SEL.CLRALL, Reg.FRC_SEL.WR, Reg.FRC_SEL.INDEX, Reg.FRC_STAT.FRES, Reg.FRC_STAT.VALID, Reg.PRG_IRQ.FREF] ∧ memSame s t) ∧
  (∀ (v : Word) (s : State), s.awake = true → s.flag Reg.FRC_STAT.BUSY = false → Reg.FRC_SEL.CLRALL.of v.toNat = 1 →
    ∃ t, exec (.forceClearAll v) s = .next t ∧ t.prg = { s.prg with force := [] } ∧ t.get Reg.FRC_STAT.FRES = 0 ∧ t.get Reg.FRC_STAT.NACT = 0 ∧ t.get Reg.FRC_STAT.VALID = 0 ∧ newest t = some 0x0919 ∧ t.img = s.img ∧ t.recd = s.recd ∧ t.rest = s.rest ∧ t.hkp = s.hkp) ∧
  (∀ (v : Word) (b : Bytes) (s : State), s.awake = true → s.flag Reg.FRC_STAT.BUSY = false → Reg.FRC_SEL.CLRALL.of v.toNat = 0 → Reg.FRC_SEL.WR.of v.toNat = 0 → b = ((s.prg.force.find? (·.1 = Reg.FRC_SEL.INDEX.of v.toNat)).map (·.2)).getD (List.replicate 16 0) →
    ∃ t, exec (.forceEntryLoad v) s = .next t ∧ t.get Reg.FRC_STAT.VALID = 1 ∧ t.get Reg.FRC_D0.DATA = fieldAt b 0 4 % 2 ^ 32 ∧ t.get Reg.FRC_D1.DATA = fieldAt b 4 4 % 2 ^ 32 ∧ t.get Reg.FRC_D2.DATA = fieldAt b 8 4 % 2 ^ 32 ∧ t.get Reg.FRC_D3.DATA = fieldAt b 12 4 % 2 ^ 32
      ∧ t.events = s.events ∧ regsBut s t [Reg.FRC_SEL.CLRALL, Reg.FRC_SEL.WR, Reg.FRC_SEL.INDEX, Reg.FRC_STAT.VALID, Reg.FRC_D0.DATA, Reg.FRC_D1.DATA, Reg.FRC_D2.DATA, Reg.FRC_D3.DATA] ∧ memSame s t) ∧
  (∀ (v : Word) (s : State), s.awake = true → s.flag Reg.FRC_STAT.BUSY = false → exec (.forceEntryStore v) s = .next (s.frcSel v.toNat).settle ∧ exec (.forceClearAll v) s = .next (s.frcSel v.toNat).settle ∧ exec (.forceEntryLoad v) s = .next (s.frcSel v.toNat).settle) ∧
  (∀ (v : Word) (s : State), s.awake = true → s.flag Reg.FRC_STAT.BUSY = true → exec (.forceEntryStore v) s = .next (s.setOpt (wignOf 0x80170)).settle ∧ exec (.forceClearAll v) s = .next (s.setOpt (wignOf 0x80170)).settle ∧ exec (.forceEntryLoad v) s = .next (s.setOpt (wignOf 0x80170)).settle) ∧
  (∀ (v : Word) (i : Nat) (s : State), s.awake = true → s.flag Reg.FRC_STAT.BUSY = false → Reg.FRC_SEL.CLRALL.of v.toNat = 0 → Reg.FRC_SEL.WR.of v.toNat = 1 → i = Reg.FRC_SEL.INDEX.of v.toNat → fcEn s.frcBytes = false →
    ∃ t, exec (.forceEntryStore v) s = .next t ∧ t.prg = { s.prg with force := s.prg.force.filter (·.1 ≠ i) ++ (if s.frcBytes.all (· = 0) then [] else [(i, s.frcBytes)]) } ∧ t.get Reg.FRC_STAT.FRES = 0 ∧ newest t = some 0x0918
      ∧ regsBut s t [Reg.FRC_SEL.CLRALL, Reg.FRC_SEL.WR, Reg.FRC_SEL.INDEX, Reg.FRC_STAT.FRES, Reg.FRC_STAT.NACT, Reg.FRC_STAT.VALID] ∧ t.img = s.img ∧ t.recd = s.recd ∧ t.rest = s.rest ∧ t.hkp = s.hkp)

/-- Heartbeats and paths of a twin half. Each tick sends a heartbeat on the twin link, at once where its transmitter is free (one that waits leaves as log entry 43 says), and each cycle one on the consist path; a bad frame is counted and one of another chip discarded; a heartbeat of a partner that is present refreshes its path, its UID, its claim and the epoch, and a higher claim than the own makes the holder yield; a release it announces is acknowledged by the STANDBY, and its acknowledgement is noted by the holder; a path that falls silent is recorded, and with the other path silent too a STANDBY takes over at the next boundary; a half that hears no partner after SEEK becomes ALONE; a node that is no twin half, and a path or timer that does not run, change nothing; every form acts as the function of the model named here says. -/
def Obligations.TwinPaths : Prop :=
  (∀ (b : Bytes) (u s : State), s.active = true → s.twinOn = true → u = s.reach s.twin.tickAt → u.twin.txq = [] → u.twin.txFree ≤ u.now → b = natBe 1 1 ++ [0] ++ natBe 2 32 ++ natBe 2 s.twin.seq ++ natBe 2 0 ++ u.heartbeat true s.twin.hseqT →
    ∃ t, exec .twinHbTick s = .next t ∧ t.now = max s.now s.twin.tickAt ∧ t.twin = { s.twin with tickAt := max s.now s.twin.tickAt + us 100, hseqT := (s.twin.hseqT + 1) % 65536, seq := (s.twin.seq + 1) % 65536, txFree := max s.now s.twin.tickAt + ns 80 * 46 }
      ∧ sent s t [.twin (b ++ fcsBytes b)] ∧ t.events = s.events ∧ regsBut s t [] ∧ memSame s t) ∧
  (∀ (n : Nat) (u s : State), s.active = true → s.twinOn = true → s.partnerUid ≠ 0 → s.cycRun = true → n = s.bnd + us 10 → s.twin.cbAt ≠ n → u = { s.reach n with twin := { s.twin with cbAt := n, hseqC := (s.twin.hseqC + 1) % 65536 } } →
    exec .consistHbSend s = .next (u.sendEth (s.get Reg.TWIN_CFG.HBPORT) (natBe 6 (2 * 2 ^ 40 + s.partnerUid % 2 ^ 40) ++ natBe 6 s.ioAddress ++ natBe 2 (s.get Reg.TWIN_HBETYPE.ETYPE) ++ u.heartbeat false s.twin.hseqC)).settle) ∧
  (∀ (f : Bytes) (s : State), s.active = true → s.twinOn = true → twinFrame f = none →
    ∃ t, exec (.twinHbReceived f) s = .next t ∧ t.get Reg.TWIN_TLERR.COUNT = min (s.get Reg.TWIN_TLERR.COUNT + 1) 0xFFFFFFFF ∧ t.twin = s.twin ∧ t.events = s.events ∧ regsBut s t [Reg.TWIN_TLERR.COUNT] ∧ memSame s t) ∧
  (∀ (f pl : Bytes) (s : State), s.active = true → s.twinOn = true → twinFrame f = some (1, pl) → (s.partnerUid = 0 ∨ fieldAt pl 0 8 = s.partnerUid) → s.partnerPresent = true → s.claim ≠ 0 → s.flag Reg.TWIN_STAT.RELPEND = false →
    ∃ t, exec (.twinHbReceived f) s = .next t ∧ t.get Reg.TWIN_TLHB.COUNT = min (s.get Reg.TWIN_TLHB.COUNT + 1) 0xFFFFFFFF ∧ t.flag Reg.TWIN_STAT.TLOK = true ∧ t.get Reg.TWIN_PUIDHI.UID = fieldAt pl 0 4 % 2 ^ 32 ∧ t.get Reg.TWIN_PUIDLO.UID = fieldAt pl 4 4 % 2 ^ 32
      ∧ t.get Reg.TWIN_PCLAIM.VALUE = fieldAt pl 12 4 % 2 ^ 32 ∧ t.get Reg.TWIN_RANK.EPOCH = max (s.get Reg.TWIN_RANK.EPOCH) (fieldAt pl 12 4 / 65536) % 2 ^ 16
      ∧ t.twin = { s.twin with lastTl := some s.now, heard := true, pState := byteAt pl 8, pFlags := byteAt pl 9, pGen := fieldAt pl 10 2, pCyc := fieldAt pl 16 4, pRel := fieldAt pl 20 4, pMir := fieldAt pl 24 4, yieldDue := if s.claim < fieldAt pl 12 4 then some (s.twin.yieldDue.getD 1) else s.twin.yieldDue }
      ∧ t.events = s.events ∧ regsBut s t [Reg.TWIN_TLHB.COUNT, Reg.TWIN_STAT.TLOK, Reg.TWIN_PUIDHI.UID, Reg.TWIN_PUIDLO.UID, Reg.TWIN_PCLAIM.VALUE, Reg.TWIN_RANK.EPOCH] ∧ memSame s t) ∧
  (∀ (p : Port) (f h : Bytes) (s : State), s.active = true → s.twinOn = true → s.linkUp p = true → s.get Reg.TWIN_CFG.HBPORT = p.val → (s.steer p f).mcore = true → ethType f = s.get Reg.TWIN_HBETYPE.ETYPE → fieldAt f 0 6 = s.ioAddress → s.partnerUid ≠ 0 →
    h = (f.drop (ethNext f)).take 32 → h.length = 32 → fieldAt h 0 8 = s.partnerUid → exec (.consistHbReceived p f) s = .next (s.takeHb false h).settle) ∧
  (∀ (h : Bytes) (s : State), s.partnerPresent = true → s.claim ≠ 0 → s.flag Reg.TWIN_STAT.RELPEND = false → (s.takeHb false h).get Reg.TWIN_CBHB.COUNT = min (s.get Reg.TWIN_CBHB.COUNT + 1) 0xFFFFFFFF ∧ (s.takeHb false h).flag Reg.TWIN_STAT.CBOK = true ∧ (s.takeHb false h).twin.lastCb = some s.now ∧ (s.takeHb false h).twin.lastTl = s.twin.lastTl) ∧
  (∀ (n : Nat) (s : State), s.active = true → s.twin.lastTl = some n → s.flag Reg.TWIN_STAT.TLOK = true → s.flag Reg.TWIN_STAT.CBOK = true →
    ∃ t, exec .twinPathSilent s = .next t ∧ t.flag Reg.TWIN_STAT.TLOK = false ∧ newest t = some 0x0A03 ∧ t.flag Reg.TWIN_IRQ.ONEPATH = true ∧ t.now = max s.now (n + us 100 * s.hbMiss) ∧ t.twin = s.twin ∧ regsBut s t [Reg.TWIN_STAT.TLOK, Reg.TWIN_IRQ.ONEPATH] ∧ memSame s t) ∧
  (∀ (n : Nat) (s : State), s.active = true → s.twin.lastCb = some n → s.flag Reg.TWIN_STAT.CBOK = true → s.flag Reg.TWIN_STAT.TLOK = false → s.get Reg.TWIN_STAT.TSTATE = 4 →
    ∃ t, exec .consistPathSilent s = .next t ∧ t.flag Reg.TWIN_STAT.CBOK = false ∧ newest t = some 0x0A02 ∧ t.flag Reg.TWIN_IRQ.PLOST = true ∧ t.now = max s.now (n + (s.cbMiss - 1) * s.tOrMs + us 500) ∧ t.twin = { s.twin with takeover := true } ∧ regsBut s t [Reg.TWIN_STAT.CBOK, Reg.TWIN_IRQ.PLOST] ∧ memSame s t) ∧
  (∀ (n : Nat) (s : State), s.active = true → s.twin.seekAt = some n → s.twinOn = true → s.get Reg.TWIN_STAT.TSTATE = 1 →
    ∃ t, exec .seekTimeout s = .next t ∧ t.get Reg.TWIN_STAT.TSTATE = 2 ∧ t.flag Reg.TWIN_IRQ.STATE = true ∧ t.now = max s.now n ∧ t.twin = { s.twin with seekAt := none } ∧ t.events = s.events ∧ regsBut s t [Reg.TWIN_STAT.TSTATE, Reg.TWIN_IRQ.STATE] ∧ memSame s t) ∧
  (∀ (f pl : Bytes) (s : State), s.active = true → s.twinOn = true → twinFrame f = some (1, pl) → (s.partnerUid = 0 ∨ fieldAt pl 0 8 = s.partnerUid) → exec (.twinHbReceived f) s = .next (s.takeHb true pl).settle) ∧
  (∀ (f pl : Bytes) (s : State), s.active = true → s.twinOn = true → twinFrame f = some (1, pl) → s.partnerUid ≠ 0 → fieldAt pl 0 8 ≠ s.partnerUid → exec (.twinHbReceived f) s = .next s.settle) ∧
  (∀ (f pl : Bytes) (s : State), s.active = true → s.twinOn = true → twinFrame f = some (1, pl) → (s.partnerUid = 0 ∨ fieldAt pl 0 8 = s.partnerUid) → s.partnerPresent = true → s.claim = 0 → s.get Reg.TWIN_STAT.TSTATE = 4 → bit (byteAt pl 9) 7 = true →
    ∃ t, exec (.twinHbReceived f) s = .next t ∧ t.twin.ackRel = some (fieldAt pl 20 4) ∧ t.get Reg.TWIN_CLAIM.VALUE = 0 ∧ t.events = s.events) ∧
  (∀ (f pl : Bytes) (s : State), s.active = true → s.twinOn = true → twinFrame f = some (1, pl) → (s.partnerUid = 0 ∨ fieldAt pl 0 8 = s.partnerUid) → s.partnerPresent = true → s.claim ≠ 0 → s.flag Reg.TWIN_STAT.RELPEND = true → bit (byteAt pl 9) 6 = true → fieldAt pl 20 4 = s.get Reg.TWIN_RELCYC.RELCYC →
    ∃ t, exec (.twinHbReceived f) s = .next t ∧ t.twin.ackGot = true ∧ t.get Reg.TWIN_CLAIM.VALUE = s.get Reg.TWIN_CLAIM.VALUE ∧ t.events = s.events) ∧
  (∀ (p : Port) (f : Bytes) (s : State), s.twinOn = false → s.active = true → exec .twinHbTick s = .next s.settle ∧ exec .consistHbSend s = .next s.settle ∧ exec (.twinHbReceived f) s = .next s.settle ∧ exec (.consistHbReceived p f) s = .next s.settle ∧ exec .seekTimeout s = .next s.settle) ∧
  (∀ (s : State), s.active = true → ((s.twin.lastTl = none ∨ s.flag Reg.TWIN_STAT.TLOK = false) → exec .twinPathSilent s = .next s.settle) ∧ ((s.twin.lastCb = none ∨ s.flag Reg.TWIN_STAT.CBOK = false) → exec .consistPathSilent s = .next s.settle)
      ∧ ((s.twin.seekAt = none ∨ s.seeking = false) → exec .seekTimeout s = .next s.settle)) ∧
  (∀ (n : Nat) (s : State), s.active = true → (s.twin.lastTl = some n → s.flag Reg.TWIN_STAT.TLOK = true → exec .twinPathSilent s = .next ((s.reach (n + us 100 * s.hbMiss)).pathSilent true).settle)
      ∧ (s.twin.lastCb = some n → s.flag Reg.TWIN_STAT.CBOK = true → exec .consistPathSilent s = .next ((s.reach (n + (s.cbMiss - 1) * s.tOrMs + us 500)).pathSilent false).settle)) ∧
  (∀ (s : State), s.active = true → exec .twinHbTick s = .next s.hbTick.settle ∧ exec .consistHbSend s = .next s.hbConsist.settle) ∧
  (∀ (s : State), s.active = true → s.twinOn = true → (s.partnerUid = 0 ∨ (s.cycRun = true ∧ s.twin.cbAt = s.bnd + us 10)) → exec .consistHbSend s = .next s.settle)

/-- What the halves of a twin exchange. A take command of a half in FAULT, or in STANDBY with no partner present, is due at the next boundary, and elsewhere ignored with WIGN; a release command of the holder is announced for four cycles ahead; twin Y keeps the entry of twin X and records a difference once in a round; a relay frame that is not late waits for its window, and one that is late is counted and recorded; mirror blocks collect until their seal, which is applied when number and CRC are right, state slots only where program and revision are those of the active image, and counted otherwise; blocks of another set that had no seal are discarded; a bad frame is counted; role notices and verdicts for this position are kept, and verdicts of others leave nothing; every form acts as the function of the model named here says. That NEEDFULL clears at the first good SEAL is the model’s reading (log entry 43). -/
def Obligations.TwinExchange : Prop :=
  (∀ (v : Word) (s : State), s.active = true → s.twinOn = true → bit v.toNat 3 = true → bit v.toNat 2 = false → (s.get Reg.TWIN_STAT.TSTATE = 5 ∨ (s.get Reg.TWIN_STAT.TSTATE = 4 ∧ s.partnerPresent = false)) →
    ∃ t, exec (.twinTakeWrite v) s = .next t ∧ t.twin = { s.twin with takeDue := some 4 } ∧ t.get Reg.TWIN_CTRL.EN = Reg.TWIN_CTRL.EN.of v.toNat ∧ t.get Reg.TWIN_STAT.TSTATE = s.get Reg.TWIN_STAT.TSTATE ∧ t.get Reg.TWIN_CLAIM.VALUE = s.get Reg.TWIN_CLAIM.VALUE ∧ t.events = s.events ∧ memSame s t) ∧
  (∀ (v : Word) (s : State), s.active = true → s.twinOn = true → bit v.toNat 3 = false → bit v.toNat 2 = true → s.claim ≠ 0 → s.partnerPresent = true → s.twin.pState = 4 → s.flag Reg.TWIN_STAT.RELPEND = false →
    ∃ t, exec (.twinYieldWrite v) s = .next t ∧ t.flag Reg.TWIN_STAT.RELPEND = true ∧ t.get Reg.TWIN_RELCYC.RELCYC = (s.cyc + 4) % 2 ^ 32 ∧ t.twin = { s.twin with ackGot := false } ∧ t.get Reg.TWIN_CTRL.EN = Reg.TWIN_CTRL.EN.of v.toNat ∧ t.get Reg.TWIN_CLAIM.VALUE = s.get Reg.TWIN_CLAIM.VALUE ∧ t.events = s.events ∧ memSame s t) ∧
  (∀ (f pl : Bytes) (n : Nat) (it : Bytes) (s : State), s.active = true → s.twinOn = true → twinFrame f = some (2, pl) → s.half = 1 → n = fieldAt pl 8 2 → it = (pl.drop 16).take 16 → it ≠ (s.ownEntry 0).bytes → s.twin.diffRnd ≠ some n →
    ∃ t, exec (.twinEntryReceived f) s = .next t ∧ t.twin = { s.twin with entry := some (n, it), diffRnd := some n } ∧ newest t = some 0x0A0C ∧ regsBut s t [] ∧ memSame s t) ∧
  (∀ (f pl h : Bytes) (k : Nat) (w : Win) (u s : State), s.active = true → s.twinOn = true → twinFrame f = some (3, pl) → k = fieldAt pl 0 4 → h = (pl.drop 8).take 16 →
    u = (s.bump Reg.TWIN_RLYSENT.COUNT).setSeq (b2n (hCls h = .vital)) (hPub h) (hSeq h) k → u.ownWin = some w → sdiff32 s.cyc k < 1 →
    ∃ t, exec (.twinRelayReceived f) s = .next t ∧ t.get Reg.TWIN_RLYSENT.COUNT = min (s.get Reg.TWIN_RLYSENT.COUNT + 1) 0xFFFFFFFF ∧ t.sched = { s.sched with relays := s.sched.relays ++ [(k, decide (byteAt pl 4 = 1), h, pl.drop 24)], seqs := u.sched.seqs } ∧ t.twin = s.twin ∧ t.events = s.events ∧ regsBut s t [Reg.TWIN_RLYSENT.COUNT] ∧ memSame s t) ∧
  (∀ (f pl : Bytes) (n : Nat) (s : State), s.active = true → s.twinOn = true → twinFrame f = some (4, pl) → s.claim = 0 → n = fieldAt pl 0 4 → (s.twin.collNo = n ∨ s.twin.coll = []) →
    ∃ t, exec (.mirFrameReceived f) s = .next t ∧ t.twin = { s.twin with collNo := n, coll := (if s.twin.collNo = n then s.twin.coll else []) ++ State.mirBlocks 30 (pl.drop 4) } ∧ t.events = s.events ∧ regsBut s t [] ∧ memSame s t) ∧
  (∀ (f pl : Bytes) (got : List (Nat × Bytes)) (s : State), s.active = true → s.twinOn = true → twinFrame f = some (5, pl) → s.claim = 0 → (s.twin.collNo = fieldAt pl 0 4 ∨ s.twin.coll = []) → got = (if s.twin.collNo = fieldAt pl 0 4 then s.twin.coll else []) → got.length ≠ fieldAt pl 8 2 →
    ∃ t, exec (.mirrorSealReceived f) s = .next t ∧ t.twin = { s.twin with coll := [] } ∧ t.get Reg.TWIN_MIRBAD.COUNT = min (s.get Reg.TWIN_MIRBAD.COUNT + 1) 0xFFFFFFFF ∧ t.flag Reg.TWIN_IRQ.MIRBAD = true ∧ t.flag Reg.TWIN_STAT.NEEDFULL = true ∧ t.flag Reg.TWIN_STAT.MIRCONS = false
      ∧ t.events = s.events ∧ regsBut s t [Reg.TWIN_MIRBAD.COUNT, Reg.TWIN_IRQ.MIRBAD, Reg.TWIN_STAT.NEEDFULL, Reg.TWIN_STAT.MIRCONS] ∧ memSame s t) ∧
  (∀ (f pl : Bytes) (k : Bool) (got take : List (Nat × Bytes)) (s : State), s.active = true → s.twinOn = true → twinFrame f = some (5, pl) → s.claim = 0 → k = s.image?.any (fun b => decide (imProg b = fieldAt pl 12 4 ∧ imRev b = fieldAt pl 16 4)) → (s.twin.collNo = fieldAt pl 0 4 ∨ s.twin.coll = []) → take = (got.filter fun b => k || decide (b.1 / 2 ^ 28 ≠ 3)) → got = (if s.twin.collNo = fieldAt pl 0 4 then s.twin.coll else []) → got.length = fieldAt pl 8 2 → crc32 (got.flatMap fun b => natBe 4 b.1 ++ b.2) = fieldAt pl 20 4 →
    ∃ t, exec (.mirrorSealReceived f) s = .next t ∧ t.twin.applied = some (fieldAt pl 0 4) ∧ t.twin.setCyc = fieldAt pl 4 4 ∧ t.twin.store = s.twin.store.filter (fun b => !(take.any fun t => t.1 = b.1)) ++ take ∧ t.twin.coll = []
      ∧ t.flag Reg.TWIN_STAT.MIRSLOT = k ∧ t.flag Reg.TWIN_STAT.NEEDFULL = false ∧ t.get Reg.TWIN_STAT.MIRCONS = b2n (!bit (byteAt pl 10) 7) ∧ t.get Reg.TWIN_MIRSETS.COUNT = min (s.get Reg.TWIN_MIRSETS.COUNT + 1) 0xFFFFFFFF
      ∧ t.events = s.events ∧ regsBut s t [Reg.TWIN_STAT.MIRSLOT, Reg.TWIN_STAT.NEEDFULL, Reg.TWIN_STAT.MIRCONS, Reg.TWIN_MIRSETS.COUNT] ∧ memSame s t) ∧
  (∀ (f : Bytes) (r : List Bytes) (p : Bytes) (s : State), s.awake = true → s.cmd.notices = f :: r → pkOp (wrPacket (payload f)) = 0x52 → p = pkParams (wrPacket (payload f)) →
    ∃ t, exec .rolenot s = .next t ∧ t.cmd.notices = r ∧ t.twin = { s.twin with roles := (hSrc f, fieldAt p 0 8, fieldAt p 8 4, s.cyc) :: recent s.cyc 256 (·.2.2.2) s.twin.roles } ∧ t.events = s.events ∧ regsBut s t [] ∧ memSame s t) ∧
  (∀ (f : Bytes) (r : List Bytes) (p : Bytes) (s : State), s.awake = true → s.twinOn = true → s.cmd.notices = f :: r → pkOp (wrPacket (payload f)) = 0x53 → p = pkParams (wrPacket (payload f)) → s.voters.contains (hSrc f) = true → hGen f = s.gen → fieldAt p 0 2 = s.pos →
    ∃ t, exec .verdict s = .next t ∧ t.cmd.notices = r ∧ t.twin = { s.twin with verdRx := (hSrc f, byteAt p 2, fieldAt p 4 8, s.cyc) :: recent s.cyc 16 (·.2.2.2) s.twin.verdRx } ∧ t.get Reg.TWIN_VERDRX.COUNT = min (s.get Reg.TWIN_VERDRX.COUNT + 1) 0xFFFFFFFF ∧ t.events = s.events
      ∧ regsBut s t [Reg.TWIN_VERDRX.COUNT] ∧ memSame s t) ∧
  (∀ (v : Word) (f : Bytes) (s : State), s.active = true → exec (.twinTakeWrite v) s = .next (s.writeTwinCtrl v.toNat).settle ∧ exec (.twinYieldWrite v) s = .next (s.writeTwinCtrl v.toNat).settle
      ∧ exec (.twinEntryReceived f) s = .next (s.twinRx 2 f State.takeEntry).settle ∧ exec (.twinRelayReceived f) s = .next (s.twinRx 3 f State.takeRelay).settle
      ∧ exec (.mirFrameReceived f) s = .next (s.twinRx 4 f State.takeMir).settle ∧ exec (.mirrorSealReceived f) s = .next (s.twinRx 5 f State.takeSeal).settle) ∧
  (∀ (f : Bytes) (s : State), s.active = true → s.twinOn = true → twinFrame f = none → exec (.twinEntryReceived f) s = .next (s.bump Reg.TWIN_TLERR.COUNT).settle ∧ exec (.twinRelayReceived f) s = .next (s.bump Reg.TWIN_TLERR.COUNT).settle
      ∧ exec (.mirFrameReceived f) s = .next (s.bump Reg.TWIN_TLERR.COUNT).settle ∧ exec (.mirrorSealReceived f) s = .next (s.bump Reg.TWIN_TLERR.COUNT).settle) ∧
  (∀ (f pl : Bytes) (n : Nat) (it : Bytes) (s : State), s.active = true → s.twinOn = true → twinFrame f = some (2, pl) → s.half = 1 → n = fieldAt pl 8 2 → it = (pl.drop 16).take 16 → (it = (s.ownEntry 0).bytes ∨ s.twin.diffRnd = some n) →
    ∃ t, exec (.twinEntryReceived f) s = .next t ∧ t.twin = { s.twin with entry := some (n, it) } ∧ t.events = s.events ∧ regsBut s t [] ∧ memSame s t) ∧
  (∀ (f pl : Bytes) (s : State), s.active = true → s.twinOn = true → (twinFrame f = some (2, pl) → s.half = 0 → exec (.twinEntryReceived f) s = .next s.settle)
      ∧ (s.claim ≠ 0 → (twinFrame f = some (4, pl) → exec (.mirFrameReceived f) s = .next s.settle) ∧ (twinFrame f = some (5, pl) → exec (.mirrorSealReceived f) s = .next s.settle))) ∧
  (∀ (f pl h : Bytes) (k : Nat) (u s : State), s.active = true → s.twinOn = true → twinFrame f = some (3, pl) → k = fieldAt pl 0 4 → h = (pl.drop 8).take 16 → u = (s.bump Reg.TWIN_RLYSENT.COUNT).setSeq (b2n (hCls h = .vital)) (hPub h) (hSeq h) k → (u.ownWin = none ∨ 1 < sdiff32 s.cyc k) →
    exec (.twinRelayReceived f) s = .next ((u.bump Reg.TWIN_RLYSKIP.COUNT).recordGen 0x0A0B 0).settle) ∧
  (∀ (v : Word) (s : State), s.active = true → bit v.toNat 3 = true → bit v.toNat 2 = false → (s.twinOn = false ∨ s.get Reg.TWIN_STAT.TSTATE ≠ 5) → (s.get Reg.TWIN_STAT.TSTATE ≠ 4 ∨ s.partnerPresent = true) →
    ∃ t, exec (.twinTakeWrite v) s = .next t ∧ t.flag Reg.TWIN_STAT.WIGN = true ∧ t.twin = s.twin ∧ t.get Reg.TWIN_CLAIM.VALUE = s.get Reg.TWIN_CLAIM.VALUE ∧ t.events = s.events ∧ memSame s t) ∧
  (∀ (f : Bytes) (r : List Bytes) (s : State), s.awake = true → s.cmd.notices = f :: r → (pkOp (wrPacket (payload f)) = 0x52 → exec .rolenot s = .next (({ s with cmd.notices := r } : State).takeRole f).settle)
      ∧ (pkOp (wrPacket (payload f)) = 0x53 → exec .verdict s = .next (({ s with cmd.notices := r } : State).takeVerdict f).settle) ∧ (pkOp (wrPacket (payload f)) ≠ 0x52 → exec .rolenot s = .next s.settle) ∧ (pkOp (wrPacket (payload f)) ≠ 0x53 → exec .verdict s = .next s.settle)) ∧
  (∀ (s : State), s.awake = true → s.cmd.notices = [] → exec .rolenot s = .next s.settle ∧ exec .verdict s = .next s.settle) ∧
  (∀ (f : Bytes) (r : List Bytes) (p : Bytes) (s : State), s.awake = true → s.cmd.notices = f :: r → pkOp (wrPacket (payload f)) = 0x53 → p = pkParams (wrPacket (payload f)) → (s.twinOn = false ∨ s.voters.contains (hSrc f) = false ∨ hGen f ≠ s.gen ∨ fieldAt p 0 2 ≠ s.pos) →
    exec .verdict s = .next ({ s with cmd.notices := r } : State).settle) ∧
  (∀ (f pl : Bytes) (n : Nat) (s : State), s.active = true → s.twinOn = true → twinFrame f = some (4, pl) → s.claim = 0 → n = fieldAt pl 0 4 → s.twin.collNo ≠ n → s.twin.coll ≠ [] →
    ∃ t, exec (.mirFrameReceived f) s = .next t ∧ t.twin = { s.twin with collNo := n, coll := State.mirBlocks 30 (pl.drop 4) } ∧ t.get Reg.TWIN_MIRBAD.COUNT = min (s.get Reg.TWIN_MIRBAD.COUNT + 1) 0xFFFFFFFF ∧ t.flag Reg.TWIN_STAT.NEEDFULL = true ∧ t.flag Reg.TWIN_STAT.MIRCONS = false
      ∧ t.events = s.events ∧ regsBut s t [Reg.TWIN_MIRBAD.COUNT, Reg.TWIN_IRQ.MIRBAD, Reg.TWIN_STAT.NEEDFULL, Reg.TWIN_STAT.MIRCONS] ∧ memSame s t)

/-- The Dusk round. A request at a node that does not lead is refused with result 2, and at the leader it opens a round; a call is relayed and a token visits each node once, which vetoes it with its lowest reason or consents and passes it on; a token that comes again is recorded, its copy on the other line is not; a verdict of commit arms the commit and one of abort ends the round; a retract ends the round before dimming and holds its reason after it; a copy seen before leaves nothing, one across an isolated joint or the break joint is counted; a round without a verdict and a consent without a commit time out; dimming begins 100 µs before the commit; a save is ignored while one runs, and its end makes the older copy the newer; a timer that does not run changes nothing, and every form acts as the function of the model named here says. The cause numbers of 0x0406 and the key of a copy, its KIND, ROUND and sender, are the model’s reading (log entry 23). -/
def Obligations.DuskRound : Prop :=
  (∀ (v : Word) (r : Roster) (u s : State), s.awake = true → u = s.storeWord Reg.REST_CTRL.EN.addr v.toNat → bit v.toNat 1 = true → bit v.toNat 4 = false → u.roster = some r → u.isLeader = false → u.dState < 2 →
    ∃ t, exec (.restDuskWrite v) s = .next t ∧ t.get Reg.REST_STAT.RES = 2 ∧ t.get Reg.REST_STAT.DSTATE = s.get Reg.REST_STAT.DSTATE ∧ t.get Reg.REST_CTRL.EN = Reg.REST_CTRL.EN.of v.toNat ∧ t.get Reg.REST_CTRL.HOLD = Reg.REST_CTRL.HOLD.of v.toNat ∧ t.rest = s.rest ∧ t.events = s.events
      ∧ regsBut u t [Reg.REST_STAT.RES] ∧ memSame s t) ∧
  (∀ (v : Word) (r : Roster) (n : Nat) (m : DuskMsg) (u w s : State), s.awake = true → u = s.storeWord Reg.REST_CTRL.EN.addr v.toNat → bit v.toNat 1 = true → bit v.toNat 2 = false → bit v.toNat 4 = false → u.roster = some r → u.isLeader = true → u.dState = 0 →
    r.seqOf u.pos ≠ 1 → n = u.nextDuskRound → n < 65536 → u.get Reg.REST_ROUND.ROUND ≠ n → m = { kind := 1, round := n } → w = ({ ((u.put Reg.REST_STAT.RES 1).record 0x0401 (natBe 2 n ++ [0])).openDusk m with rest.seen := (1, n, u.pos) :: u.rest.seen } : State).noteDusk n →
    exec (.restDuskWrite v) s = .next ((({ w with rest.leadAt := some w.cyc }.put Reg.REST_STAT.DSTATE 1).sendDusk m [w.foreEnd]).wakeReason).settle
      ∧ w.get Reg.REST_STAT.RES = 1 ∧ w.get Reg.REST_ROUND.ROUND = n ∧ w.get Reg.REST_ROUND.VPOS = 0 ∧ w.flag Reg.REST_IRQ.ROUND = true ∧ newest w = some 0x0401) ∧
  (∀ (v : Word) (u s : State), s.awake = true → u = s.storeWord Reg.REST_CTRL.EN.addr v.toNat → bit v.toNat 1 = false → bit v.toNat 4 = true → s.flag Reg.REST_STAT.BUSY = true → s.dState < 2 →
    ∃ t, exec (.restSaveWrite v) s = .next t ∧ t.flag Reg.REST_STAT.WIGN = true ∧ t.flag Reg.REST_STAT.BUSY = true ∧ t.rest = s.rest ∧ t.events = s.events ∧ regsBut u t [Reg.REST_STAT.WIGN] ∧ memSame s t) ∧
  (∀ (v : Word) (u w s : State), s.awake = true → u = (((s.storeWord Reg.REST_CTRL.EN.addr v.toNat).readVoted 0xD000C).readVoted 0x100).readVoted 0x108 → bit v.toNat 1 = false → bit v.toNat 4 = true → s.flag Reg.REST_STAT.BUSY = false → w = { u.put Reg.REST_STAT.BUSY 1 with rest.saving := some (u.cfgNow (((u.cfgBest).map (·.seq)).getD 0 + 1), u.now + ms 200) } →
    exec (.restSaveWrite v) s = .next (w.requestAct .save).wakeReason.settle) ∧
  (∀ (c : CfgCopy) (d : Nat) (s : State), s.awake = true → s.rest.saving = some (c, d) → s.hkp.running.contains .save = true → s.rest.cfgA = none → s.cmd.slots = [] →
    ∃ t, exec .configSaveComplete s = .next t ∧ t.flag Reg.REST_STAT.BUSY = false ∧ t.flag Reg.REST_STAT.CFGDIRTY = false ∧ t.flag Reg.REST_IRQ.SAVED = true ∧ newest t = some 0x040A ∧ t.rest = { s.rest with saving := none, cfgA := some c } ∧ t.hkp.running = s.hkp.running.erase .save
      ∧ regsBut s t [Reg.REST_STAT.BUSY, Reg.REST_STAT.CFGDIRTY, Reg.REST_IRQ.SAVED, Reg.HKP_STAT.ACT, Reg.GLB_PACE.PBUSY] ∧ t.img = s.img ∧ t.prg = s.prg ∧ t.recd = s.recd) ∧
  (∀ (l : Lane) (f : Bytes) (m : DuskMsg) (r : Roster) (u s : State), s.awake = true → m = duskMsg (payload f) → s.laneUp l = true → headerCheck f = .ok → hCls f = .mgmt → hType f = 0x18 → hLen f = 32 → m.kind = 1 → (s.vend (endOf l)).isolated = false → s.breakEnd ≠ some (endOf l) → s.inau.force.isNone = false → hGen f = s.gen → s.rest.seen.contains (State.duskKey m (hSrc f)) = false → s.roster = some r → r.seqOf s.pos ≠ 1 → u = ({ s with rest.seen := State.duskKey m (hSrc f) :: s.rest.seen } : State).noteDusk m.round →
    exec (.duskCallReceived l f) s = .next (u.sendDusk m [u.foreEnd]).settle) ∧
  (∀ (l : Lane) (f : Bytes) (m : DuskMsg) (s : State), s.awake = true → m = duskMsg (payload f) → s.laneUp l = true → headerCheck f = .ok → hCls f = .mgmt → hType f = 0x18 → hLen f = 32 → m.kind = 2 → (s.vend (endOf l)).isolated = false → s.breakEnd ≠ some (endOf l) → s.inau.force.isNone = false → hGen f = s.gen → s.rest.seen.contains (State.duskKey m (hSrc f)) = false → s.rest.tokens.contains (m.round, hSrc f, lineOf l) = false → s.rest.answered.any (·.1 = m.round) = true →
    ∃ t, exec (.duskTokenReceived l f) s = .next t ∧ newest t = some 0x0402 ∧ t.rest = { s.rest with seen := State.duskKey m (hSrc f) :: s.rest.seen, tokens := (m.round, hSrc f, lineOf l) :: s.rest.tokens } ∧ regsBut s t [] ∧ t.img = s.img ∧ t.prg = s.prg ∧ t.recd = s.recd ∧ t.hkp = s.hkp) ∧
  (∀ (l : Lane) (f : Bytes) (m : DuskMsg) (u s : State), s.awake = true → m = duskMsg (payload f) → s.laneUp l = true → headerCheck f = .ok → hCls f = .mgmt → hType f = 0x18 → hLen f = 32 → m.kind = 2 → (s.vend (endOf l)).isolated = false → s.breakEnd ≠ some (endOf l) → s.inau.force.isNone = false → hGen f = s.gen → s.rest.seen.contains (State.duskKey m (hSrc f)) = false → s.rest.tokens.contains (m.round, hSrc f, lineOf l) = false → s.rest.answered.any (·.1 = m.round) = false → u = (({ s with rest.seen := State.duskKey m (hSrc f) :: s.rest.seen, rest.tokens := (m.round, hSrc f, lineOf l) :: s.rest.tokens } : State).noteDusk m.round).openDusk m →
    exec (.duskTokenReceived l f) s = .next (u.visitToken m.count).settle) ∧
  (∀ (n c : Nat) (l : List Nat) (w s : State), s.duskReasons = n :: l → s.rest.tw = false → s.rest.jointNew = false → w = { s with rest.answered := (s.rest.round, s.pos) :: s.rest.answered } → s.visitToken c = w.vetoDusk (l.foldl min n) c) ∧
  (∀ (c : Nat) (r : Roster) (w s : State), s.duskReasons = [] → s.rest.tw = false → s.roster = some r → s.pos ≠ 0 → r.seqOf s.pos ≠ r.n →
    w = { s.put Reg.REST_STAT.DSTATE 2 with rest := { s.rest with answered := (s.rest.round, s.pos) :: s.rest.answered, consentAt := some s.cyc, count := c + 1 } } → s.rest.jointNew = false → s.visitToken c = w.sendDusk { w.duskOf 2 with count := c + 1 } [w.aftEnd]) ∧
  (∀ (l : Lane) (f : Bytes) (m : DuskMsg) (x : Int) (w s : State), s.awake = true → m = duskMsg (payload f) → s.laneUp l = true → headerCheck f = .ok → hCls f = .mgmt → hType f = 0x18 → hLen f = 32 → m.kind = 3 → (s.vend (endOf l)).isolated = false → s.breakEnd ≠ some (endOf l) → s.inau.force.isNone = false → hGen f = s.gen → s.rest.seen.contains (State.duskKey m (hSrc f)) = false →
    w = ({ s with rest.seen := State.duskKey m (hSrc f) :: s.rest.seen } : State).sendDusk m [oppEnd (endOf l)] → m.commit = true → w.dState = 2 → m.round = w.rest.round → w.mapAt w.now = some x → us 100 ≤ wrapT (ofSecNs m.csec m.cns - x) → w.rest.leadAt = none → m.ccyc < 2 ^ 32 →
    ∃ t, exec (.duskVerdictReceived l f) s = .next t ∧ t.get Reg.REST_STAT.DSTATE = 3 ∧ t.get Reg.REST_COMMIT.CCYC = m.ccyc ∧ t.flag Reg.REST_IRQ.COMMIT = true ∧ newest t = some 0x0405
      ∧ t.rest = { w.rest with commit := some (ofSecNs m.csec m.cns), tcs := ((w.now : Int) + wrapT (ofSecNs m.csec m.cns - x)).toNat :: w.rest.tcs } ∧ regsBut w t [Reg.REST_STAT.DSTATE, Reg.REST_COMMIT.CCYC, Reg.REST_IRQ.COMMIT]) ∧
  (∀ (l : Lane) (f : Bytes) (m : DuskMsg) (w s : State), s.awake = true → m = duskMsg (payload f) → s.laneUp l = true → headerCheck f = .ok → hCls f = .mgmt → hType f = 0x18 → hLen f = 32 → m.kind = 4 → (s.vend (endOf l)).isolated = false → s.breakEnd ≠ some (endOf l) → s.inau.force.isNone = false → hGen f = s.gen → s.rest.seen.contains (State.duskKey m (hSrc f)) = false →
    w = ({ s with rest.seen := State.duskKey m (hSrc f) :: s.rest.seen } : State).sendDusk m [oppEnd (endOf l)] → w.get Reg.REST_ROUND.ROUND ≠ m.round → m.round = w.rest.round → w.dState = 4 → w.flag Reg.REST_STAT.HELD = false →
    ∃ t, exec (.duskRetractReceived l f) s = .next t ∧ t.flag Reg.REST_STAT.HELD = true ∧ newest t = some 0x040C ∧ t.get Reg.REST_STAT.DSTATE = 4 ∧ t.rest = w.rest ∧ regsBut w t [Reg.REST_STAT.HELD]) ∧
  (∀ (c : Nat) (m : DuskMsg) (u s : State), s.awake = true → s.rest.leadAt = some c → (s.dState = 1 ∨ s.dState = 2) → (s.tDusk : Int) ≤ sdiff32 s.cyc c → m = { s.duskOf 3 with vpos := s.pos, reason := 13, count := s.rest.count } → u = { s with rest.seen := State.duskKey m s.pos :: s.rest.seen } →
    exec .duskRoundTimeout s = .next (((u.sendDusk m [0, 1]).put Reg.REST_ROUND.VPOS s.pos).endDusk 4).settle) ∧
  (∀ (c : Nat) (s : State), s.awake = true → s.rest.consentAt = some c → s.dState = 2 → (s.tDusk + 2 : Int) ≤ sdiff32 s.cyc c → s.rest.leadAt = none →
    ∃ t, exec .duskConsentTimeout s = .next t ∧ t.get Reg.REST_STAT.DSTATE = 0 ∧ t.flag Reg.REST_STAT.HELD = false ∧ t.get Reg.REST_CANCEL.COUNT = min (s.get Reg.REST_CANCEL.COUNT + 1) 0xFFFFFFFF ∧ t.flag Reg.REST_IRQ.CANCEL = true ∧ newest t = some 0x0406 ∧ t.rest = { s.rest with consentAt := none, commit := none }
      ∧ regsBut s t [Reg.REST_STAT.DSTATE, Reg.REST_STAT.HELD, Reg.REST_CANCEL.COUNT, Reg.REST_IRQ.CANCEL] ∧ t.img = s.img ∧ t.prg = s.prg ∧ t.recd = s.recd ∧ t.hkp = s.hkp) ∧
  (∀ (n : Nat) (s : State), s.awake = true → s.commitAt = some n → s.dState = 3 → s.get Reg.BRDG_STACK.PRESENT = 0 →
    ∃ t, exec .duskDimming s = .next t ∧ t.get Reg.REST_STAT.DSTATE = 4 ∧ t.now = max s.now (n - us 100) ∧ t.rest = s.rest ∧ t.events = s.events ∧ regsBut s t [Reg.REST_STAT.DSTATE] ∧ memSame s t) ∧
  (∀ (v : Word) (l : Lane) (f : Bytes) (s : State), s.awake = true → exec (.restDuskWrite v) s = .next (s.writeRestCtrl v.toNat).settle ∧ exec (.restSaveWrite v) s = .next (s.writeRestCtrl v.toNat).settle ∧ exec .configSaveComplete s = .next s.saveDone.settle
      ∧ exec (.duskCallReceived l f) s = .next (s.takeDusk l f 1 State.takeCall).settle ∧ exec (.duskTokenReceived l f) s = .next (s.takeDusk l f 2 State.takeToken2).settle
      ∧ exec (.duskVerdictReceived l f) s = .next (s.takeDusk l f 3 fun s m => s.takeVerdict2 (endOf l) m).settle ∧ exec (.duskRetractReceived l f) s = .next (s.takeDusk l f 4 fun s m => s.takeRetract (endOf l) m).settle) ∧
  (∀ (l : Lane) (f : Bytes) (m : DuskMsg) (s : State), s.awake = true → m = duskMsg (payload f) → s.laneUp l = true → headerCheck f = .ok → hCls f = .mgmt → hType f = 0x18 → hLen f = 32 → m.kind = 3 → (s.vend (endOf l)).isolated = false → s.breakEnd ≠ some (endOf l) → s.inau.force.isNone = false → hGen f = s.gen → s.rest.seen.contains (State.duskKey m (hSrc f)) = true → exec (.duskVerdictReceived l f) s = .next s.settle) ∧
  (∀ (l : Lane) (f : Bytes) (m : DuskMsg) (s : State), s.awake = true → m = duskMsg (payload f) → s.laneUp l = true → headerCheck f = .ok → hCls f = .mgmt → hType f = 0x18 → hLen f = 32 → m.kind = 2 → (s.vend (endOf l)).isolated = true → exec (.duskTokenReceived l f) s = .next (s.bump Reg.FWD_ISOL.COUNT).settle) ∧
  (∀ (l : Lane) (f : Bytes) (m : DuskMsg) (s : State), s.awake = true → m = duskMsg (payload f) → s.laneUp l = true → headerCheck f = .ok → hCls f = .mgmt → hType f = 0x18 → hLen f = 32 → m.kind = 1 → (s.vend (endOf l)).isolated = false → s.breakEnd = some (endOf l) → exec (.duskCallReceived l f) s = .next (s.bump Reg.FWD_BREAK.COUNT).settle) ∧
  (∀ (l : Lane) (f : Bytes) (m : DuskMsg) (s : State), s.awake = true → m = duskMsg (payload f) → s.laneUp l = true → headerCheck f = .ok → hCls f = .mgmt → hType f = 0x18 → hLen f = 32 → m.kind = 2 → (s.vend (endOf l)).isolated = false → s.breakEnd ≠ some (endOf l) → s.inau.force.isNone = false → hGen f = s.gen → s.rest.seen.contains (State.duskKey m (hSrc f)) = true → s.rest.tokens.contains (m.round, hSrc f, lineOf l) = true →
    ∃ t, exec (.duskTokenReceived l f) s = .next t ∧ newest t = some 0x0402 ∧ t.rest = s.rest ∧ regsBut s t [] ∧ memSame s t) ∧
  (∀ (l : Lane) (f : Bytes) (m : DuskMsg) (s : State), s.awake = true → m = duskMsg (payload f) → s.laneUp l = true → headerCheck f = .ok → hCls f = .mgmt → hType f = 0x18 → hLen f = 32 → m.kind = 2 → (s.vend (endOf l)).isolated = false → s.breakEnd ≠ some (endOf l) → s.inau.force.isNone = false → hGen f = s.gen → s.rest.seen.contains (State.duskKey m (hSrc f)) = true → s.rest.tokens.contains (m.round, hSrc f, lineOf l) = false →
    exec (.duskTokenReceived l f) s = .next ({ s with rest.tokens := (m.round, hSrc f, lineOf l) :: s.rest.tokens } : State).settle) ∧
  (∀ (l : Lane) (f : Bytes) (m : DuskMsg) (w s : State), s.awake = true → m = duskMsg (payload f) → s.laneUp l = true → headerCheck f = .ok → hCls f = .mgmt → hType f = 0x18 → hLen f = 32 → m.kind = 4 → (s.vend (endOf l)).isolated = false → s.breakEnd ≠ some (endOf l) → s.inau.force.isNone = false → hGen f = s.gen → s.rest.seen.contains (State.duskKey m (hSrc f)) = false → w = ({ s with rest.seen := State.duskKey m (hSrc f) :: s.rest.seen } : State).sendDusk m [oppEnd (endOf l)] → w.get Reg.REST_ROUND.ROUND ≠ m.round → m.round = w.rest.round → w.dState ≠ 4 → exec (.duskRetractReceived l f) s = .next (w.endDusk 2).settle) ∧
  (∀ (l : Lane) (f : Bytes) (m : DuskMsg) (w s : State), s.awake = true → m = duskMsg (payload f) → s.laneUp l = true → headerCheck f = .ok → hCls f = .mgmt → hType f = 0x18 → hLen f = 32 → m.kind = 3 → (s.vend (endOf l)).isolated = false → s.breakEnd ≠ some (endOf l) → s.inau.force.isNone = false → hGen f = s.gen → s.rest.seen.contains (State.duskKey m (hSrc f)) = false → w = ({ s with rest.seen := State.duskKey m (hSrc f) :: s.rest.seen } : State).sendDusk m [oppEnd (endOf l)] → m.commit = false → w.get Reg.REST_ROUND.ROUND ≠ m.round → m.round = w.rest.round →
    exec (.duskVerdictReceived l f) s = .next (w.endDusk (if m.reason = 13 then 4 else 1)).settle) ∧
  (∀ (s : State), s.awake = true → (s.rest.leadAt = none → exec .duskRoundTimeout s = .next s.settle) ∧ (s.rest.consentAt = none → exec .duskConsentTimeout s = .next s.settle) ∧ ((s.commitAt = none ∨ s.dState ≠ 3) → exec .duskDimming s = .next s.settle)
      ∧ ((s.rest.saving = none ∨ s.hkp.running.contains .save = false) → exec .configSaveComplete s = .next s.settle))

/-- Sleeping and waking. At the commit time the node leaves for DUSK-SLEEP, writing its retained image there, or for TWILIGHT; energy on a lane, the LEAD and WAKE inputs, the key, the twin link, the alarm and a held reason start Dawn with their source code where they are enabled (energy between the limits of R63 wakes or not: a free value), and change no more than their own level where they are not; in an open Dusk round a source first retracts or holds, and from CONSENTED with a commit ahead waits for Tc + 50 µs; a DAWN frame is relayed as a frame of this node and starts Dawn, at an ACTIVE node it is relayed once per sending position, and across an isolated or break joint it is counted; the wake guard sends WAKE for 200 µs; a source that coincides with another names the lowest code; nWAKEOUT is released after 10 ms; a commit, timer or source that is not there changes nothing; every form acts as the function of the model named here says. The oscillator's error in sleep, which sources coincide, the end of the guard's WAKE, how DAWN is sent and the source that waits for a commit are the model's choice (log entry 24). -/
def Obligations.Waking : Prop :=
  (∀ (l : Lane) (mv ns : Nat) (s : State), s.wakeable = true → s.pwr.rst ≠ some 1 → s.flag (Reg.LANE_CTRL.WAKEEN.at l) = true → s.laneSt l = .sleep → s.dState < 2 → 100 ≤ mv → 16000 ≤ ns →
    exec (.laneEnergyWake l mv ns) s = .next ((((s.dawn 0 l 0).bump (Reg.LANE_WAKE.COUNT.at l)).raise (Reg.LANE_IRQ.WAKE.at l)).record 0x0108).settle) ∧
  (∀ (l : Lane) (mv ns : Nat) (s : State), s.power ≠ .off → s.pwr.rst ≠ some 1 → (mv ≤ 40 ∨ ns < 12000) → exec (.laneEnergyWake l mv ns) s = .next s.settle) ∧
  (∀ (l : Lane) (mv ns : Nat) (u s : State), s.wakeable = true → s.pwr.rst ≠ some 1 → s.flag (Reg.LANE_CTRL.WAKEEN.at l) = true → s.laneSt l = .sleep → s.dState < 2 → 40 < mv → 12000 ≤ ns → (mv < 100 ∨ ns < 16000) → u = { s with free := s.free + 1 } →
    exec (.laneEnergyWake l mv ns) s = .next u.settle ∨ exec (.laneEnergyWake l mv ns) s = .next ((((u.dawn 0 l 0).bump (Reg.LANE_WAKE.COUNT.at l)).raise (Reg.LANE_IRQ.WAKE.at l)).record 0x0108).settle) ∧
  (∀ (n l p : Nat) (s : State), s.wakeable = true → s.pwr.low = false → (s.dawn n l p).get Reg.REST_WAKESRC.SRC = n % 16 ∧ (s.dawn n l p).get Reg.REST_WAKESRC.LANE = l % 4 ∧ (s.dawn n l p).get Reg.REST_WAKESRC.POS = p % 65536 ∧ (s.dawn n l p).flag Reg.REST_IRQ.DAWN = true ∧ newest (s.dawn n l p) = some 0x0408) ∧
  (∀ (b : Bool) (s : State), s.wakeable = true → s.pwr.rst ≠ some 1 → s.pwr.vio1 = false → s.flag Reg.INAU_STAT.LEADIN = !b → s.flag Reg.REST_WAKE.WLEAD = true → exec (.leadInputDebounced b) s = .next ((if s.power = .twilight then s.takeLead b else s.putB Reg.INAU_STAT.LEADIN b).wakeUp 5 0 0).settle) ∧
  (∀ (b : Bool) (s : State), s.active = true → s.pwr.vio1 = false → s.flag Reg.INAU_STAT.LEADIN = (!b) → s.flag Reg.REST_WAKE.WLEAD = false → exec (.leadInputDebounced b) s = .next (s.takeLead b).wakeReason.settle) ∧
  (∀ (b : Bool) (s : State), s.active = true → s.pwr.vio1 = false → s.flag Reg.INAU_STAT.LEADIN = b → exec (.leadInputDebounced b) s = .next s.settle) ∧
  (∀ (a b : Bool) (u s : State), s.wakeable = true → s.pwr.rst ≠ some 1 → s.pwr.vio1 = false → s.rest.keyA ≠ a → s.flag Reg.REST_WAKE.WKEY = true → u = (if s.awake then State.takeKey { s with rest := { s.rest with keyA := a, keyB := b } } a b else { s with rest := { s.rest with keyA := a, keyB := b } }) →
    exec (.keyCodeDebounced a b) s = .next (if (u.wakeBy 4).awake then (u.wakeBy 4).wakeReason else u.wakeBy 4).settle) ∧
  (∀ (a b : Bool) (u s : State), s.active = true → s.pwr.vio1 = false → s.rest.keyA ≠ a → s.flag Reg.REST_WAKE.WKEY = false → u = { s with rest := { s.rest with keyA := a, keyB := b } } → exec (.keyCodeDebounced a b) s = .next (u.takeKey a b).wakeReason.settle) ∧
  (∀ (n : Nat) (s : State), s.active = true → s.rest.dawnAt ≠ some s.now →
    ∃ t, exec (.twinWakeDetected n) s = .next t ∧ t.get Reg.TWIN_TLERR.COUNT = min (s.get Reg.TWIN_TLERR.COUNT + n / 320) 0xFFFFFFFF ∧ t.rest = s.rest ∧ t.events = s.events ∧ regsBut s t [Reg.TWIN_TLERR.COUNT] ∧ memSame s t) ∧
  (∀ (n : Nat) (s : State), s.wakeable = true → s.pwr.rst ≠ some 1 → s.flag Reg.TWIN_CFG.TWEN = true → s.dState < 2 → 20000 ≤ n → exec (.twinWakeDetected n) s = .next (s.dawn 2 0 0).settle) ∧
  (∀ (s : State), s.power = .twilight → s.pwr.rst = none → s.rest.jointNew = true → s.dState < 2 → exec .duskWakeReason s = .next (s.dawn 7 0 0).settle) ∧
  (∀ (n : Nat) (l : List Nat) (s : State), s.active = true → s.dState = 4 → s.duskReasons = n :: l → s.flag Reg.REST_STAT.HELD = false →
    ∃ t, exec .duskWakeReason s = .next t ∧ t.flag Reg.REST_STAT.HELD = true ∧ newest t = some 0x040C ∧ t.rest = s.rest ∧ regsBut s t [Reg.REST_STAT.HELD] ∧ memSame s t) ∧
  (∀ (n : Nat) (u v s : State), s.awake = true → s.commitAt = some n → 3 ≤ s.dState → s.cyc = s.get Reg.REST_COMMIT.CCYC → s.rest.tw = false → u = ((s.reach n).record 0x0407 (natBe 1 2)).bump Reg.REST_COMMITS.COUNT → v = u.keepIdentity.stopForTc.enterSleep n →
    ∃ t, exec .duskCommit s = .next t ∧ t = (if v.pinWakes then v.holdWake 3 0 0 else v).settle ∧ t.power = .duskSleep ∧ t.cycRun = false ∧ t.rest.entering = some (n + ms 50)) ∧
  (∀ (n : Nat) (u v s : State), s.awake = true → s.commitAt = some n → 3 ≤ s.dState → s.cyc = s.get Reg.REST_COMMIT.CCYC → s.rest.tw = true → s.twinOn = false → s.stackId = 0 → u = ((s.reach n).record 0x0407 (natBe 1 1)).bump Reg.REST_COMMITS.COUNT → v = u.keepIdentity.stopForTc.enterTwilight →
    exec .duskCommit s = .next (if v.pinWakes then v.holdWake 3 0 0 else v).settle) ∧
  (∀ (n q : Nat) (s : State), s.power = .duskSleep → s.pwr.rst ≠ some 1 → q = ((s.rest.retB.map (·.seq)).getD 0) + 1 → s.rest.entering = some n → s.recd.stage = [] → s.recd.again = [] → s.events = [] → s.recd.job = .idle → s.rest.retA = none →
    ∃ t, exec .duskSleepEntry s = .next t ∧ t.rest = { s.rest with entering := none, retA := some ⟨q, s.get Reg.PRG_AID.VALUE, s.get Reg.PRG_AREV.VALUE, s.img.retained, State.retCrc (s.get Reg.PRG_AID.VALUE) (s.get Reg.PRG_AREV.VALUE) q s.img.retained⟩ } ∧ t.opBase = s.opTime ∧ t.opAt = s.now ∧ t.opPpm = (((Config.freeValue s.free).toNat % 40001 : Nat) : Int) - 20000 ∧ t.free = s.free + 1
      ∧ t.power = .duskSleep ∧ t.img = s.img ∧ t.prg = s.prg ∧ t.recd = s.recd ∧ regsBut s t []) ∧
  (∀ (s : State), s.wakeable = true → s.pwr.rst ≠ some 1 → s.dState < 3 → s.rest.wakePend = none → s.flag Reg.REST_STAT.HELD = true → exec .heldDawnStart s = .next (s.dawn 8 0 0).settle) ∧
  (∀ (l : Lane) (n c : Nat) (u s : State), s.active = true → s.laneUp l = false → (s.lane l).lostAt = some n → c ∈ s.rest.tcs → c ≤ n → n ≤ c + ms 2 → u = ((s.reach (n + us 50)).dropLane l).restLane l →
    ∃ t, exec (.wakeGuardSend l) s = .next t ∧ sent u t [.wake l] ∧ (t.lane l).guardEnd = some (u.now + us 200) ∧ (t.lane l).lostAt = none ∧ t.get Reg.REST_GUARD.COUNT = min (u.get Reg.REST_GUARD.COUNT + 1) 0xFFFFFFFF ∧ newest t = some 0x040B ∧ t.rest = u.rest ∧ regsBut u t [Reg.REST_GUARD.COUNT] ∧ memSame u t) ∧
  (∀ (l : Lane) (f : Bytes) (m : DuskMsg) (r : List (Nat × Bytes)) (u s : State), s.power = .twilight → s.pwr.rst = none → m = duskMsg (payload f) → s.laneUp l = true → headerCheck f = .ok → hCls f = .mgmt → hType f = 0x18 → hLen f = 32 → m.kind = 5 → (s.vend (endOf l)).isolated = false → s.breakEnd ≠ some (endOf l) →
    s.sendDawns [(laneAt (oppEnd (endOf l)) 0, s.inauFrame 0x18 (payload f))] = (r, u) → exec (.dawnFrameReceived l f) s = .next (u.wakeUp 1 0 m.vpos r).settle) ∧
  (∀ (b : Bool) (u s : State), s.wakeable = true → s.pwr.rst ≠ some 1 → s.pwr.vio1 = false → s.dState < 2 → b ≠ s.flag Reg.REST_WAKE.WPOL → s.flag Reg.REST_WAKE.WPIN = true → u = State.dawn { s with rest.wakeIn := some b } 3 0 0 → exec (.wakeInputActive b) s = .next (if u.awake then u.wakeReason else u).settle) ∧
  (∀ (b : Bool) (u s : State), s.active = true → s.pwr.vio1 = false → s.flag Reg.REST_WAKE.WPIN = false → u = { s with rest.wakeIn := some b } → exec (.wakeInputActive b) s = .next u.wakeReason.settle) ∧
  (∀ (n : Nat) (s : State), s.wakeable = true → s.pwr.rst ≠ some 1 → s.flag Reg.REST_WAKE.WALARM = true → n = s.get Reg.REST_ALARM.ALARM → n ≠ 0 → s.dState < 2 → exec .alarmWake s = .next ((s.reachOp (256 * n)).dawn 6 0 0).settle) ∧
  (∀ (n : Nat) (u s : State), s.awake = true → s.rest.pattern = some n → u = { s.reach n with rest.pattern := none } →
    exec .dawnWakePatternEnd s = .next ((List.range 4).foldl (fun s n => if s.laneUp n then s.leaveActive n else if s.laneSt n = .sleep then s.restLane n else s) u).settle) ∧
  (∀ (n : Nat) (s : State), s.active = true → s.rest.wakeout = some n →
    ∃ t, exec .nwakeoutRelease s = .next t ∧ sent s t [.pin "nWAKEOUT" 1] ∧ t.now = max s.now n ∧ t.rest = { s.rest with wakeout := none } ∧ t.events = s.events ∧ regsBut s t [] ∧ t.img = s.img ∧ t.prg = s.prg ∧ t.recd = s.recd ∧ t.hkp = s.hkp) ∧
  (∀ (l : Lane) (f : Bytes) (m : DuskMsg) (s : State), s.awake = true → m = duskMsg (payload f) → s.laneUp l = true → headerCheck f = .ok → hCls f = .mgmt → hType f = 0x18 → hLen f = 32 → m.kind = 5 → (s.vend (endOf l)).isolated = true →
    exec (.dawnFrameReceived l f) s = .next (s.bump Reg.FWD_ISOL.COUNT).settle) ∧
  (∀ (l : Lane) (f : Bytes) (s : State), s.awake = true → (s.laneUp l = false → exec (.dawnFrameReceived l f) s = .next s.settle) ∧ (s.rest.pattern = none → exec .dawnWakePatternEnd s = .next s.guardEnds.settle)) ∧
  (∀ (l : Lane) (f : Bytes) (m : DuskMsg) (s : State), s.awake = true → m = duskMsg (payload f) → s.laneUp l = true → headerCheck f = .ok → hCls f = .mgmt → hType f = 0x18 → hLen f = 32 → m.kind = 5 → (s.vend (endOf l)).isolated = false → s.breakEnd = some (endOf l) →
    exec (.dawnFrameReceived l f) s = .next (s.bump Reg.FWD_BREAK.COUNT).settle) ∧
  (∀ (s : State), s.awake = true → s.rest.pattern = none → s.lanes.toList.all (·.guardEnd.isNone) = true → exec .dawnWakePatternEnd s = .next s.settle) ∧
  (∀ (s : State), s.active = true → s.rest.dawnAt = some s.now → s.flag Reg.TWIN_CFG.TWEN = true → 2 < s.get Reg.REST_WAKESRC.SRC →
    ∃ t, exec (.twinWakeDetected 20000) s = .next t ∧ t.get Reg.REST_WAKESRC.SRC = 2 ∧ regsBut s t [Reg.TWIN_TLERR.COUNT, Reg.REST_WAKESRC.SRC]) ∧
  (∀ (a : Bool) (mv ns : Nat) (l : Lane) (s : State), s.power ≠ .off → s.pwr.rst ≠ some 1 → exec (.laneEnergyWake l mv ns) s = .next (s.laneEnergy l mv ns).settle ∧ exec .duskSleepEntry s = .next s.sleepEntry.settle ∧ exec (.wakeInputActive a) s = .next (s.wakeInput a).settle
      ∧ exec .alarmWake s = .next (if s.flag Reg.REST_WAKE.WALARM && decide (s.get Reg.REST_ALARM.ALARM ≠ 0) then (if s.wakeable then s.reachOp (256 * s.get Reg.REST_ALARM.ALARM) else s).wakeBy 6 else s).settle) ∧
  (∀ (s : State), s.awake = true → exec .duskCommit s = .next s.duskCommit.settle ∧ exec .duskWakeReason s = .next s.duskWakeReason.settle ∧ exec .dawnWakePatternEnd s = .next s.patternEnd.settle) ∧
  (∀ (l : Lane) (s : State), s.active = true → exec (.wakeGuardSend l) s = .next (s.wakeGuard l).settle ∧ exec .heldDawnStart s = .next s.settle ∧ (s.rest.dawnAt ≠ some s.now → exec .alarmWake s = .next s.settle) ∧ (s.rest.wakeout = none → exec .nwakeoutRelease s = .next s.settle) ∧ (s.rest.entering = none → exec .duskSleepEntry s = .next s.settle)
      ∧ ((s.lane l).lostAt = none → exec (.wakeGuardSend l) s = .next s.settle)) ∧
  (∀ (s : State), s.awake = true → (s.commitAt = none ∨ s.dState < 3) → exec .duskCommit s = .next s.settle) ∧
  (∀ (s : State), s.active = true → s.dState < 2 → exec .duskWakeReason s = .next s.settle) ∧
  (∀ (a b : Bool) (s : State), s.power ≠ .off → s.pwr.rst ≠ some 1 → s.rest.keyA = (a && !s.pwr.vio1) → s.rest.keyB = (b && !s.pwr.vio1) → exec (.keyCodeDebounced a b) s = .next s.settle) ∧
  (∀ (a b : Bool) (u s : State), s.wakeable = true → s.pwr.rst ≠ some 1 → s.pwr.vio1 = false → s.rest.keyA ≠ a → s.flag Reg.REST_WAKE.WKEY = false → u = { s with rest := { s.rest with keyA := a, keyB := b } } → (s.awake = false → exec (.keyCodeDebounced a b) s = .next u.settle) ∧ (s.awake = true → exec (.keyCodeDebounced a b) s = .next (u.takeKey a b).wakeReason.settle)) ∧
  (∀ (n : Nat) (s : State), s.wakeable = true → s.pwr.rst ≠ some 1 → (s.flag Reg.TWIN_CFG.TWEN = false ∨ n < 20000) → exec (.twinWakeDetected n) s = .next s.settle) ∧
  (∀ (n l p : Nat) (r : List (Nat × Bytes)) (s : State), (s.dState < 2 → s.wakeUp n l p r = s.dawnFrom n l p r) ∧ (n ≠ 0 → s.dawnFrom n l p r = s.dawn n l p r)) ∧
  (∀ (n : Nat) (s : State), s.power = .twilight → s.pwr.rst = none → s.dState = 4 → s.duskReasons = [] → s.flag Reg.TWIN_CFG.TWEN = true → 20000 ≤ n → s.rest.wakePend = none →
    ∃ t, exec (.twinWakeDetected n) s = .next t ∧ t.rest = { s.rest with wakePend := some (2, 0, 0) } ∧ t.power = .twilight ∧ t.events = s.events ∧ regsBut s t [] ∧ t.img = s.img ∧ t.prg = s.prg ∧ t.recd = s.recd ∧ t.hkp = s.hkp) ∧
  (∀ (c l p : Nat) (s : State), s.wakeable = true → s.pwr.rst ≠ some 1 → (s.dState < 3 → s.rest.wakePend = some (c, l, p) → exec .heldDawnStart s = .next (s.dawnFrom c l p).settle) ∧ (3 ≤ s.dState → exec .heldDawnStart s = .next s.settle)) ∧
  (∀ (l : Lane) (f : Bytes) (m : DuskMsg) (s : State), s.active = true → m = duskMsg (payload f) → s.laneUp l = true → headerCheck f = .ok → hCls f = .mgmt → hType f = 0x18 → hLen f = 32 → m.kind = 5 → (s.vend (endOf l)).isolated = false → s.breakEnd ≠ some (endOf l) →
    (s.rest.seen.contains (State.duskKey m (hSrc f)) = true → exec (.dawnFrameReceived l f) s = .next (s.alsoWoke 1).settle) ∧ (s.rest.seen.contains (State.duskKey m (hSrc f)) = false → exec (.dawnFrameReceived l f) s = .next (((s.sendDusk m [oppEnd (endOf l)]).noteSeen (State.duskKey m (hSrc f))).alsoWoke 1).settle)) ∧
  (∀ (l : Lane) (mv ns : Nat) (s : State), s.active = true → s.rest.dawnAt = some s.now → s.flag (Reg.LANE_CTRL.WAKEEN.at l) = true → s.laneSt l = .sleep → 100 ≤ mv → 16000 ≤ ns →
    ∃ t, exec (.laneEnergyWake l mv ns) s = .next t ∧ t.get Reg.REST_WAKESRC.SRC = 0 ∧ regsBut s t [Reg.REST_WAKESRC.SRC]) ∧
  (∀ (n r : Nat) (l : List Nat) (u s : State), s.power = .twilight → s.pwr.rst = none → s.dState = 2 → s.duskReasons = r :: l → s.flag Reg.TWIN_CFG.TWEN = true → 20000 ≤ n → u = s.wakeReason →
    exec (.twinWakeDetected n) s = .next (if u.power = .twilight ∧ 3 ≤ u.dState then u.holdWake 2 0 0 else u.dawn 2 0 0).settle ∧ u.flag Reg.REST_IRQ.VETO = true)

/-- Command packets. A packet that has its turn is executed as its opcode says and completes with the status and the result of its row; an operation that goes on keeps its packet waiting; a packet without its turn waits; one from another node whose group is not allowed, one with a wrong PLEN and one with reserved fields set complete with their status, one for a stack member is passed on; a key command without its arm or outside the key mode is refused, and one that the interlock does not admit waits and keeps its turn (R474, R433); every opcode acts as the function of the model named here says. The order of the checks, and that only the oldest packet not started acts, are the model’s reading (log entry 12). -/
def Obligations.CommandPackets : Prop :=
  (∀ (n : Fin 64) (c : CmdSlot) (s : State), s.awake = true → turn s n 0x01 c = true → exec (.nop n) s = .next (s.complete n 0 0 []).settle) ∧
  (∀ (n : Fin 64) (c : CmdSlot) (s : State), s.awake = true → turn s n 0x02 c = true → exec (.ident n) s = .next (s.complete n 0 0 s.identity).settle) ∧
  (∀ (n : Fin 64) (c : CmdSlot) (a k : Nat) (r : Bytes × State) (s : State), s.awake = true → turn s n 0x10 c = true → a = fieldAt (pkParams c.packet) 0 4 → k = fieldAt (pkParams c.packet) 4 2 → fieldAt (pkParams c.packet) 6 2 = 0 → 1 ≤ k → k ≤ 64 → State.regRange a k = true → s.brdg.writes = [] → r = State.wordsRead 0 k a s → exec (.regrd n) s = .next (r.2.complete n 0 0 r.1).settle) ∧
  (∀ (n : Fin 64) (c : CmdSlot) (a m v : Nat) (r : Bytes × State) (w : Nat) (s : State), s.awake = true → turn s n 0x11 c = true → a = fieldAt (pkParams c.packet) 0 4 → m = fieldAt (pkParams c.packet) 4 4 → v = fieldAt (pkParams c.packet) 8 4 → State.regRange a 1 = true → s.busyAt a = false → r = s.wordRead a 0 → w = (beNat r.1 &&& (m ^^^ 0xFFFFFFFF)) ||| (v &&& m) → r.2.sets (State.wignAt a) (fun s => s.wholeWrite a w 0) = false → r.2.sets (cperrOf a) (fun s => s.wholeWrite a w 0) = false → exec (.regwr n) s = .next ((r.2.wholeWrite a w 0).complete n 0 0 r.1).settle) ∧
  (∀ (n : Fin 64) (e : List (Fin 3)) (c : CmdSlot) (a : Nat) (b : Bytes) (u : State) (s : State), s.awake = true → turn s n 0x12 c = true → a = fieldAt (pkParams c.packet) 0 4 → mailboxSels.contains a = true → s.busyAt a = false → State.readOuts a (fieldAt (pkParams c.packet) 4 4) (e.head?.getD 0).val 8 s = (some b, u) → exec (.mbrd ⟨n, e⟩) s = .next (u.complete n 0 0 b).settle) ∧
  (∀ (n : Fin 64) (c : CmdSlot) (a : Bytes) (s : State), s.awake = true → turn s n 0x20 c = true → a = pkParams c.packet → s.get Reg.CYCL_STAT.KEY = 1 → exec (.prgload n) s = .next (s.complete n 6 0 []).settle) ∧
  (∀ (n : Fin 64) (c : CmdSlot) (a : Bytes) (s : State), s.awake = true → turn s n 0x20 c = true → a = pkParams c.packet → s.get Reg.CYCL_STAT.KEY ≠ 1 → fieldAt a 0 4 + (a.drop 4).length ≤ 0x80000 → s.sets (some Reg.CYCL_STAT.WIGN) (fun s => s.loadWrite (fieldAt a 0 4) (a.drop 4)) = false → exec (.prgload n) s = .next ((s.loadWrite (fieldAt a 0 4) (a.drop 4)).complete n 0 0 []).settle) ∧
  (∀ (n : Fin 64) (c : CmdSlot) (a : Bytes) (u : State) (s : State), s.awake = true → turn s n 0x21 c = true → a = pkParams c.packet → byteAt a 0 ≤ 15 → byteAt a 1 &&& 0x7E = 0 → fieldAt a 2 2 = 0 → s.flag Reg.PRG_STAT.BUSY = false → u = s.prgCmd (byteAt a 0 * 2 ^ 28 + byteAt a 1 / 128 * 256 + byteAt a 1 % 2) → u.get Reg.PRG_STAT.OPRUN = 0 → exec (.prgop n) s = .next (u.complete n (if u.get Reg.PRG_STAT.RES = 0 then 0 else 10) (u.get Reg.PRG_STAT.RES) []).settle) ∧
  (∀ (n : Fin 64) (c : CmdSlot) (a : Bytes) (u : State) (s : State), s.awake = true → turn s n 0x21 c = true → a = pkParams c.packet → byteAt a 0 ≤ 15 → byteAt a 1 &&& 0x7E = 0 → fieldAt a 2 2 = 0 → s.flag Reg.PRG_STAT.BUSY = false → s.get Reg.PRG_STAT.OPRUN = 0 → u = s.prgCmd (byteAt a 0 * 2 ^ 28 + byteAt a 1 / 128 * 256 + byteAt a 1 % 2) → u.get Reg.PRG_STAT.OPRUN ≠ 0 → exec (.prgop n) s = .next (u.onSlot n fun c => { c with started := true }).settle) ∧
  (∀ (n : Fin 64) (c : CmdSlot) (a : Bytes) (u : State) (s : State), s.awake = true → turn s n 0x22 c = true → a = pkParams c.packet → fieldAt a 0 2 ≤ 1023 → byteAt a 2 &&& 0x7F = 0 → byteAt a 3 = 0 → s.flag Reg.FRC_STAT.BUSY = false → u = ((((s.put Reg.FRC_D0.DATA (fieldAt a 4 4)).put Reg.FRC_D1.DATA (fieldAt a 8 4)).put Reg.FRC_D2.DATA (fieldAt a 12 4)).put Reg.FRC_D3.DATA (fieldAt a 16 4)).frcSel (byteAt a 2 / 128 * 2 ^ 31 + 2 ^ 30 + fieldAt a 0 2) → exec (.force n) s = .next (u.complete n (if u.get Reg.FRC_STAT.FRES = 0 then 0 else 10) (u.get Reg.FRC_STAT.FRES) []).settle) ∧
  (∀ (n : Fin 64) (c : CmdSlot) (a : Bytes) (k : Nat) (u : State) (s : State), s.awake = true → turn s n 0x30 c = true → a = pkParams c.packet → byteAt a 3 = 0 → fieldAt a 6 2 = 0 → s.flag Reg.RECD_STAT.BUSY = false → s.hostRecord (fieldAt a 0 2) (byteAt a 2) (a.drop 8) = (k, u) → exec (.recwr n) s = .next (u.complete n (if k = 0 then 0 else 10) k []).settle) ∧
  (∀ (n : Fin 64) (e : List (Fin 3)) (c : CmdSlot) (a : Bytes) (u : State) (r : Bytes × State) (s : State), s.awake = true → turn s n 0x31 c = true → a = pkParams c.packet → 1 ≤ fieldAt a 4 2 → fieldAt a 4 2 ≤ 62 → byteAt a 6 &&& 0x7F = 0 → byteAt a 7 = 0 → s.flag Reg.RECD_RSTAT.BUSY = false → u = ((s.put Reg.RECD_RSEL.SEQ (fieldAt a 0 4)).put Reg.RECD_RAREA.MORNING (byteAt a 6 / 128)).cursorSelect (bit (byteAt a 6) 7) (fieldAt a 0 4) (e.head?.getD 0).val → r = State.readLines (fieldAt a 4 2) ((e.map (·.val)).drop 1) u → exec (.recrd ⟨n, e⟩) s = .next (r.2.complete n 0 (r.2.get Reg.RECD_RSTAT.RES) r.1).settle) ∧
  (∀ (n : Fin 64) (c : CmdSlot) (a : Bytes) (s : State), s.awake = true → turn s n 0x32 c = true → a = pkParams c.packet → fieldAt a 1 3 = 0 → exec (.freeze n) s = .next ((s.wholeWrite 0xB0008 (byteAt a 0) 1).complete n 0 0 []).settle) ∧
  (∀ (n : Fin 64) (c : CmdSlot) (a : Bytes) (u : State) (s : State), s.awake = true → turn s n 0x40 c = true → a = pkParams c.packet → byteAt a 0 &&& 0xFE = 0 → fieldAt a 1 3 = 0 → u = (s.startSlot n).requestDusk (bit (byteAt a 0) 0) → 2 ≤ u.get Reg.REST_STAT.RES → u.get Reg.REST_STAT.RES ≤ 6 → exec (.duskreq n) s = .next (u.complete n 10 (u.get Reg.REST_STAT.RES) []).settle) ∧
  (∀ (n : Fin 64) (c : CmdSlot) (a : Bytes) (u : State) (s : State), s.awake = true → turn s n 0x40 c = true → a = pkParams c.packet → byteAt a 0 &&& 0xFE = 0 → fieldAt a 1 3 = 0 → u = (s.startSlot n).requestDusk (bit (byteAt a 0) 0) → u.get Reg.REST_STAT.RES = 1 → exec (.duskreq n) s = .next u.settle) ∧
  (∀ (n : Fin 64) (c : CmdSlot) (s : State), s.awake = true → turn s n 0x41 c = true → s.flag Reg.REST_STAT.BUSY = false → exec (.save n) s = .next (s.startSlot n).saveStart.settle) ∧
  (∀ (n : Fin 64) (c : CmdSlot) (s : State), s.awake = true → turn s n 0x41 c = true → s.flag Reg.REST_STAT.BUSY = true → exec (.save n) s = .next (s.waitSlot n.val).settle) ∧
  (∀ (n : Fin 64) (c : CmdSlot) (s : State), s.awake = true → turn s n 0x42 c = true → exec (.reinau n) s = .next ((s.reinau true).refreshInau.complete n 0 0 []).settle) ∧
  (∀ (n : Fin 64) (c : CmdSlot) (s : State), s.awake = true → turn s n 0x43 c = true → s.isLeader = false → exec (.compact n) s = .next (s.complete n 7 0 []).settle) ∧
  (∀ (n : Fin 64) (c : CmdSlot) (u : State) (s : State), s.awake = true → turn s n 0x43 c = true → s.isLeader = true → s.inau.compact = 0 → u = s.startSlot n → exec (.compact n) s = .next (({ u with inau.compact := 1 } : State).record 0x022A |>.reinau false).settle) ∧
  (∀ (n : Fin 64) (c : CmdSlot) (a : Bytes) (s : State), s.awake = true → turn s n 0x44 c = true → a = pkParams c.packet → byteAt a 0 ≤ 7 → fieldAt a 1 3 = 0 → exec (.modereq n) s = .next ((s.startSlot n).writeModeReq (2 ^ 31 + byteAt a 0)).settle) ∧
  (∀ (n : Fin 64) (c : CmdSlot) (k : Fin 4) (a key : Bytes) (v : Nat) (u s : State), s.awake = true → turn s n 0x60 c = true → s.hkp.running.contains (.key n.val) = false → s.actTurn (.key n.val) = true → a = pkParams c.packet → k.val = byteAt a 0 → fieldAt a 1 3 = 0 → s.armed = some k.val → s.get Reg.CYCL_STAT.KEY = 2 → key = (a.drop 4).take 16 → v = State.kcv key →
    u = (((({ s.dropArm with cmd.keys := s.cmd.keys.filter (·.1 ≠ k.val) ++ [(k.val, key)] } : State).put (Reg.CMD_KEYSTAT.SET.ix k) 1).put (Reg.CMD_KEYSTAT.KCV.ix k) v).raise Reg.CMD_IRQ.KEY).record 0x0D01 (natBe 1 k.val ++ natBe 3 v) → exec (.keyset n) s = .next (u.complete n 0 0 (0 :: natBe 3 v)).settle) ∧
  (∀ (n : Fin 64) (c : CmdSlot) (k : Fin 4) (a : Bytes) (u s : State), s.awake = true → turn s n 0x61 c = true → s.hkp.running.contains (.key n.val) = false → s.actTurn (.key n.val) = true → a = pkParams c.packet → k.val = byteAt a 0 → fieldAt a 1 3 = 0 → s.armed = some k.val → s.get Reg.CYCL_STAT.KEY = 2 →
    u = (((({ s.dropArm with cmd.keys := s.cmd.keys.filter (·.1 ≠ k.val) } : State).put (Reg.CMD_KEYSTAT.SET.ix k) 0).put (Reg.CMD_KEYSTAT.KCV.ix k) 0).raise Reg.CMD_IRQ.KEY).record 0x0D02 (natBe 1 k.val) → exec (.keydel n) s = .next (u.complete n 0 0 []).settle) ∧
  (∀ (n : Fin 64) (c : CmdSlot) (s : State), s.awake = true → s.hkp.running.contains (.key n.val) = false → s.actTurn (.key n.val) = false → (turn s n 0x60 c = true → exec (.keyset n) s = .next (s.requestAct (.key n.val)).settle) ∧ (turn s n 0x61 c = true → exec (.keydel n) s = .next (s.requestAct (.key n.val)).settle)) ∧
  (∀ (n : Fin 64) (c : CmdSlot) (a p : Bytes) (s : State), s.awake = true → turn s n 0x70 c = true → a = pkParams c.packet → fieldAt a 0 2 = 0 → fieldAt a 2 2 = 0 → p = a.drop 4 → exec (.rsend n) s = .next ((s.sendRemote 0x04 0 false (p.take 6 ++ [0] ++ p.drop 7)).complete n 0 0 []).settle) ∧
  (∀ (n : Fin 64) (c : CmdSlot) (d : Nat) (a p : Bytes) (s : State), s.awake = true → turn s n 0x70 c = true → a = pkParams c.packet → d = fieldAt a 0 2 → 1 ≤ d → d ≤ 1024 → fieldAt a 2 2 = 0 → p = a.drop 4 → s.openRsend d (pkTag p) = none → exec (.rsend n) s = .next ((s.onSlot n fun c => { c with started := true, rto := some (s.now + s.rto) }).sendRemote 0x04 d true (p.take 6 ++ [0] ++ p.drop 7)).settle) ∧
  (∀ (n k i : Nat) (r : Bytes) (x y z : Nat) (p : Bytes) (b : Nat) (m : Bool) (u s : State), s.slot? n = some { src := .host x y z, packet := p, at_ := b, started := m } → s.inD3 = false → k ≠ 1 → u = ({ s with cmd.slots := s.cmd.slots.filter (·.1 ≠ n) } : State).put Reg.CMD_STAT.OPEN (s.cmd.slots.filter (·.1 ≠ n)).length →
    s.complete n k i r = u.writeCompletion x y (pkTag p) k (pkOp p) i r) ∧
  (∀ (n : Fin 64) (e : List (Fin 3)) (s : State), s.awake = true → exec (.nop n) s = .next (s.runCmd n 0x01 (fun _ _ s => s.complete n 0 0 [])).settle ∧ exec (.ident n) s = .next (s.runCmd n 0x02 (fun _ _ s => s.complete n 0 0 s.identity)).settle ∧ exec (.regrd n) s = .next (s.runCmd n 0x10 (State.doRegrd n)).settle ∧ exec (.regwr n) s = .next (s.runCmd n 0x11 (State.doRegwr n)).settle ∧ exec (.mbrd ⟨n, e⟩) s = .next (s.runCmd n 0x12 (fun _ a s => s.doMbrd n (e.head?.getD 0).val a)).settle ∧ exec (.prgload n) s = .next (s.runCmd n 0x20 (fun _ a s => s.doPrgload n a)).settle ∧ exec (.prgop n) s = .next (s.runCmd n 0x21 (fun _ a s => s.doPrgop n a)).settle) ∧
  (∀ (n : Fin 64) (e : List (Fin 3)) (s : State), s.awake = true → exec (.force n) s = .next (s.runCmd n 0x22 (fun _ a s => s.doForce n a)).settle ∧ exec (.recwr n) s = .next (s.runCmd n 0x30 (fun _ a s => s.doRecwr n a)).settle ∧ exec (.recrd ⟨n, e⟩) s = .next (s.runCmd n 0x31 (fun _ a s => s.doRecrd n (e.map (·.val)) a)).settle ∧ exec (.freeze n) s = .next (s.runCmd n 0x32 (fun _ a s => s.doFreeze n a)).settle ∧ exec (.duskreq n) s = .next (s.runCmd n 0x40 (fun _ a s => s.doDuskreq n a)).settle ∧ exec (.save n) s = .next (s.runCmd n 0x41 (fun _ _ s => s.doSave n)).settle) ∧
  (∀ (n : Fin 64) (s : State), s.awake = true → exec (.reinau n) s = .next (s.runCmd n 0x42 (fun _ _ s => s.doReinau n)).settle ∧ exec (.compact n) s = .next (s.runCmd n 0x43 (fun _ _ s => s.doCompact n)).settle ∧ exec (.modereq n) s = .next (s.runCmd n 0x44 (fun _ a s => s.doModereq n a)).settle ∧ exec (.keyset n) s = .next (s.runCmd n 0x60 (fun _ a s => s.doKeyset n a)).settle ∧ exec (.keydel n) s = .next (s.runCmd n 0x61 (fun _ a s => s.doKeydel n a)).settle ∧ exec (.rsend n) s = .next (s.runCmd n 0x70 (fun _ a s => s.doRsend n a)).settle) ∧
  (∀ (n : Fin 64) (op : Nat) (f : CmdSlot → Bytes → State → State) (s : State), s.cmdTurn n op = none → s.runCmd n op f = s) ∧
  (∀ (n : Fin 64) (op : Nat) (f : CmdSlot → Bytes → State → State) (c : CmdSlot) (s : State), s.cmdTurn n op = some c → c.src.isRemote = true → (match opGroup op with | some g => bit s.auth (16 + g) | none => false) = false → s.runCmd n op f = s.complete n 5 0 []) ∧
  (∀ (n : Fin 64) (op : Nat) (f : CmdSlot → Bytes → State → State) (c : CmdSlot) (s : State), s.cmdTurn n op = some c → c.src.isRemote = false → pkMember c.packet ≠ 0 → s.runCmd n op f = s.passOn n (pkMember c.packet) c.packet) ∧
  (∀ (n : Fin 64) (op : Nat) (f : CmdSlot → Bytes → State → State) (c : CmdSlot) (s : State), s.cmdTurn n op = some c → c.src.isRemote = false → pkMember c.packet = 0 → plenOk c.packet = false → s.runCmd n op f = (s.useArm op).complete n 3 0 []) ∧
  (∀ (n : Fin 64) (op : Nat) (f : CmdSlot → Bytes → State → State) (c : CmdSlot) (s : State), s.cmdTurn n op = some c → c.src.isRemote = false → pkMember c.packet = 0 → plenOk c.packet = true → (byteAt c.packet 6 ≠ 0 ∨ byteAt c.packet 7 ≠ 0) → s.runCmd n op f = (s.useArm op).complete n 4 0 []) ∧
  (∀ (n : Fin 64) (op : Nat) (f : CmdSlot → Bytes → State → State) (c : CmdSlot) (g : Nat) (s : State), s.cmdTurn n op = some c → c.src.isRemote = true → opGroup op = some g → bit s.auth (16 + g) = true → byteAt c.packet 6 = 0 → byteAt c.packet 7 = 0 → plenOk c.packet = true → pkMember c.packet = 0 → s.runCmd n op f = f c (pkParams c.packet) s) ∧
  (∀ (n : Fin 64) (k : Fin 4) (c : CmdSlot) (a : Bytes) (s : State), s.awake = true → a = pkParams c.packet → k.val = byteAt a 0 → fieldAt a 1 3 = 0 → s.hkp.running.contains (.key n.val) = false → s.actTurn (.key n.val) = true → (s.armed ≠ some k.val → turn s n 0x60 c = true → exec (.keyset n) s = .next (s.dropArm.complete n 13 0 []).settle) ∧ (s.armed = some k.val → s.get Reg.CYCL_STAT.KEY ≠ 2 → turn s n 0x60 c = true → exec (.keyset n) s = .next (s.dropArm.complete n 6 0 []).settle)) ∧
  (∀ (n k i p : Nat) (r : Bytes) (c : CmdSlot) (b : Bool) (u s : State), s.slot? n = some c → k ≠ 1 → c.src = .remote p b → u = ({ s with cmd.slots := s.cmd.slots.filter (·.1 ≠ n) } : State).put Reg.CMD_STAT.OPEN (s.cmd.slots.filter (·.1 ≠ n)).length →
    s.complete n k i r = if b then u.sendRemote 0x05 p false (cplPacket c.packet k i r) else u)

/-- Fetching packets, timeouts, block resets. The next submission entry is read while the gate is open, and its packet after it, which is accepted or completed with BADLEN; a malformed entry completes with FORMAT; a waiting opcode and an RSEND without an answer time out; a read of FWD_POOLA latches the other counts; a write of BRDG_FSEL shows the far entry; a flush empties the prefetch buffers; each bit of GLB_BRST resets its block; each request of a read has a tag of its own, the lowest free one, and waits while all 32 are taken; a read is complete with the last of its requests (log entry 28); in a Dusk cycle what is read is not taken up; a gate that is closed, data nobody asked for and a slot that does not wait change nothing. The lowest free tag, and a read that waits while all 32 are taken, are the model’s choice (log entry 28). -/
def Obligations.CommandFlow : Prop :=
  (∀ (k a g : Nat) (s : State), s.active = true → s.fetchGate = true → (s.host.fetches.all fun o => o.parts.all fun p => p.tag.isSome) = true → s.freeTags.head? = some g → k = s.get Reg.CMD_SQHEAD.HEAD % s.cmdRing → k ≠ s.get Reg.CMD_SQTAIL.TAIL % s.cmdRing → a = s.get Reg.CMD_SQBASEHI.BASEHI * 2 ^ 32 + s.get Reg.CMD_SQBASELO.BASELO * 64 + 16 * k →
    ∃ t, exec .cmdSubmissionFetch s = .next t ∧ sent s t [.hostRead g a 16] ∧ t.host = { s.host with fetches := s.host.fetches ++ [⟨.subEntry k, [⟨a, 16, some g, none⟩]⟩] } ∧ t.events = s.events ∧ regsBut s t [] ∧ memSame s t) ∧
  (∀ (g i a l : Nat) (d : Bytes) (p : FetchPart) (u s : State), s.active = true → s.inD3 = false → (s.host.fetches.find? fun o => o.parts.any (State.partIs g)) = some ⟨.subEntry i, [p]⟩ → a = leNat (d.take 8) → l = leNat ((d.drop 8).take 2) → a % 64 = 0 → 8 ≤ l → l ≤ 2048 → u = State.issueReads { s with host.fetches := s.host.fetches.erase ⟨.subEntry i, [p]⟩ } → s.cmd.shut = false →
    exec (.hostFetchComplete g d) s = .next (u.fetch (.packet i a l) [(a, l)]).settle) ∧
  (∀ (g i a l : Nat) (d : Bytes) (p : FetchPart) (u s : State), s.active = true → s.inD3 = false → (s.host.fetches.find? fun o => o.parts.any (State.partIs g)) = some ⟨.packet i a l, [p]⟩ → u = State.issueReads { s with host.fetches := s.host.fetches.erase ⟨.packet i a l, [p]⟩ } → s.cmd.shut = false →
    exec (.hostFetchComplete g d) s = .next (u.takePacket i a l d).settle) ∧
  (∀ (n : Fin 64) (c : CmdSlot) (s : State), s.awake = true → s.slot? n = some c → (c.waits = true ∨ isWaiting (pkOp c.packet) = true) → c.member = 0 → c.rto = none → s.brdg.locked = false → exec (.cmdWaitTimeout n) s = .next ((s.reach (c.at_ + sec 10)).complete n 9 0 []).settle) ∧
  (∀ (n : Fin 64) (c : CmdSlot) (k : Nat) (s : State), s.awake = true → s.slot? n = some c → c.rto = some k → s.brdg.locked = false →
    exec (.rsendTimeout n) s = .next ((((s.reach k).raise Reg.CMD_IRQ.RTO).recordSec 0x0D11 0 ((pkParams c.packet).take 2)).complete n 9 0 []).settle) ∧
  (∀ (c : Nat × Nat × Nat × Nat × Nat) (s : State), s.awake = true → c = s.poolCounts →
    ∃ t, exec .fwdPoolaRead s = .next t ∧ sent s t [.rdata 0x60020 (s.readWord 0x60020)] ∧ t.get Reg.FWD_POOLB.HI = c.2.2.1 % 2 ^ 15 ∧ t.get Reg.FWD_POOLB.LO = c.2.2.2.1 % 2 ^ 15 ∧ t.get Reg.FWD_POOLC.LO = c.2.2.2.2 % 65536 % 2 ^ 15 ∧ t.events = s.events
      ∧ regsBut s t [Reg.FWD_POOLB.HI, Reg.FWD_POOLB.LO, Reg.FWD_POOLC.HI, Reg.FWD_POOLC.LO] ∧ memSame s t) ∧
  (∀ (v : Word) (q : Nat) (b : Bytes) (s : State), s.active = true → q = v.toNat % 65536 → b = (s.farEntry q).getD [] →
    ∃ t, exec (.brdgFselWrite v) s = .next t ∧ t.get Reg.BRDG_FSEL.FSEQ = q ∧ t.get Reg.BRDG_FD0.DATA = fieldAt b 0 4 % 2 ^ 32 ∧ t.get Reg.BRDG_FD1.DATA = fieldAt b 4 4 % 2 ^ 32 ∧ t.get Reg.BRDG_FD2.DATA = fieldAt b 8 4 % 2 ^ 32 ∧ t.get Reg.BRDG_FD3.DATA = fieldAt b 12 4 % 2 ^ 32 ∧ t.flag Reg.BRDG_FSTAT.VALID = true
      ∧ t.brdg = { s.brdg with log := s.brdg.log.map fun (x : Nat × Bytes × Bool) => if x.1 = q then (x.1, x.2.1, true) else x } ∧ t.events = s.events ∧ regsBut s t [Reg.BRDG_FSEL.FSEQ, Reg.BRDG_FD0.DATA, Reg.BRDG_FD1.DATA, Reg.BRDG_FD2.DATA, Reg.BRDG_FD3.DATA, Reg.BRDG_FSTAT.VALID] ∧ memSame s t) ∧
  (∀ (s : State), s.active = true → ∃ t, exec .prefetchFlush s = .next t ∧ t.brdg = { s.brdg with pre := [] } ∧ t.events = s.events ∧ regsBut s t [] ∧ memSame s t) ∧
  (∀ (b : Nat) (v : Word) (s : State), s.awake = true → 1 ≤ b → b ≤ 14 → b ≠ 13 → v.toNat = 2 ^ b → exec (.blockReset v) s = .next ((s.put Reg.GLB_BRST.BLK (2 ^ (b - 1))).abortSlots.blockReset b).settle) ∧
  (∀ (v : Word) (s : State), s.awake = true → v.toNat = 2 ^ 13 → exec (.blockReset v) s = .next (s.put Reg.GLB_BRST.BLK (2 ^ 12)).commandReset.settle) ∧
  (∀ (s : State), s.active = true → (s.fetchGate = false ∨ s.get Reg.CMD_SQHEAD.HEAD % s.cmdRing = s.get Reg.CMD_SQTAIL.TAIL % s.cmdRing) → exec .cmdSubmissionFetch s = .next s.settle) ∧
  (∀ (g i : Nat) (d : Bytes) (p : FetchPart) (u s : State), s.active = true → s.inD3 = false → (s.host.fetches.find? fun o => o.parts.any (State.partIs g)) = some ⟨.subEntry i, [p]⟩ → (leNat (d.take 8) % 64 ≠ 0 ∨ leNat ((d.drop 8).take 2) < 8 ∨ 2048 < leNat ((d.drop 8).take 2)) → u = State.issueReads { s with host.fetches := s.host.fetches.erase ⟨.subEntry i, [p]⟩ } → s.cmd.shut = false →
    exec (.hostFetchComplete g d) s = .next (((u.advanceSq.writeCompletion i (leNat (d.take 8)) 0xFFFF 14 0 0 []).raise Reg.CMD_IRQ.FORMAT).recordSec 0x0D03 0).settle) ∧
  (∀ (g : Nat) (d : Bytes) (s : State), s.active = true → (s.inD3 = true ∨ (s.host.fetches.find? fun o => o.parts.any (State.partIs g)) = none) → exec (.hostFetchComplete g d) s = .next s.settle) ∧
  (∀ (g : Nat) (d : Bytes) (s : State), s.active = true → s.inD3 = false → exec (.hostFetchComplete g d) s = .next (s.hostFetched g d).settle) ∧
  (∀ (g i : Nat) (d : Bytes) (p : FetchPart) (u s : State), s.active = true → s.inD3 = false → (s.host.fetches.find? fun o => o.parts.any (State.partIs g)) = some ⟨.subEntry i, [p]⟩ → u = State.issueReads { s with host.fetches := s.host.fetches.erase ⟨.subEntry i, [p]⟩ } → s.cmd.shut = true → exec (.hostFetchComplete g d) s = .next u.settle) ∧
  (∀ (k : Fetch) (r : List (Nat × Nat)) (s : State), s.freeTags = [] →
    s.fetch k r = { s with host.fetches := s.host.fetches ++ [⟨k, (r.flatMap fun x => State.cutAt s.mrrs x.1 x.2).map fun x => ⟨x.1, x.2, none, none⟩⟩] }) ∧
  (∀ (i a l n : Nat) (d p : Bytes) (u s : State), p = d.take (8 + pkPlen d) → u = s.advanceSq → 8 + pkPlen p ≤ l → pkPlen p ≤ 1008 → resultMax p ≤ l → u.freeSlot = some n → s.takePacket i a l d = (((u.bump Reg.CMD_ACCEPT.COUNT).accept n (.host i a l) p).screen n)) ∧
  (∀ (i a l : Nat) (d p : Bytes) (u s : State), p = d.take (8 + pkPlen d) → u = s.advanceSq → (l < 8 + pkPlen p ∨ 1008 < pkPlen p ∨ l < resultMax p) → s.takePacket i a l d = u.writeCompletion i a (pkTag p) 3 (pkOp p) 0 []) ∧
  (∀ (n : Fin 64) (s : State), s.awake = true → (s.slot? n = none ∨ s.brdg.locked = true) → exec (.cmdWaitTimeout n) s = .next s.settle ∧ exec (.rsendTimeout n) s = .next s.settle) ∧
  (∀ (n : Fin 64) (c : CmdSlot) (s : State), s.awake = true → s.slot? n = some c → (((c.waits = false ∧ isWaiting (pkOp c.packet) = false) ∨ c.member ≠ 0 ∨ c.rto ≠ none) → exec (.cmdWaitTimeout n) s = .next s.settle) ∧ (c.rto = none → exec (.rsendTimeout n) s = .next s.settle)) ∧
  (∀ (v : Word) (s : State), s.awake = true → exec (.blockReset v) s = .next (s.blockResets v.toNat).settle ∧ (v.toNat = 0 → exec (.blockReset v) s = .next (s.put Reg.GLB_BRST.BLK 0).settle)) ∧
  (∀ (g : Nat) (d : Bytes) (o n : FetchOp) (s : State), s.active = true → s.inD3 = false → (s.host.fetches.find? fun x => x.parts.any (State.partIs g)) = some o → n = { o with parts := o.parts.map fun p => if State.partIs g p then { p with data := some d } else p } → (n.parts.all fun p => p.data.isSome) = false →
    exec (.hostFetchComplete g d) s = .next (State.issueReads { s with host.fetches := s.host.fetches.map fun x => if x = o then n else x }).settle)

/-- What the recorder stages and writes. The oldest event is staged where its class is unlimited or has a token and it fits, noted as suppressed where its class has none, noted as lost where it does not fit, and sent to the stack master by a member; suppressed and lost records are owed and staged; a record that fits the open block gets the next SEQ and is written line by line, and one that does not closes the block; a line that fails retires its block; a good line of the last is the end of the record; the start-up scan ends; a host record with a device code is refused, another one is staged; nothing staged, owed or being written changes nothing; every form acts as the function of the model named here says. The MSG by which a member sends its record to the master and the DONE line as the end of a record are the model’s (log entries 26 and 17). -/
def Obligations.RecorderWrites : Prop :=
  (∀ (e : EventRec) (l : List EventRec) (r : StRec) (u s : State), s.recRuns = true → s.events = e :: l → s.stackId = 0 → r = ⟨e.code, e.body, e.ot, s.get Reg.RECD_PCC.VALUE % 2 ^ 24⟩ → u = { s with events := l } → u.clsUnlimited (devClass e.code) = true → u.stageFits r = true →
    ∃ t, exec .recordStage s = .next t ∧ t.events = l ∧ t.recd = { s.recd with stage := s.recd.stage ++ [r] } ∧ regsBut s t [Reg.RECD_STAGE.FILL, Reg.RECD_STAGE.PEAK] ∧ t.img = s.img ∧ t.prg = s.prg ∧ t.rest = s.rest ∧ t.hkp = s.hkp) ∧
  (∀ (e : EventRec) (l : List EventRec) (c : Nat) (u s : State), s.recRuns = true → s.events = e :: l → s.stackId = 0 → c = devClass e.code → u = { s with events := l } → u.clsUnlimited c = false → (u.cls c).tok < 256 →
    ∃ t, exec .recordStage s = .next t ∧ t.events = l ∧ t.recd = { s.recd with supp := tabPut c (noteMissed (tabGet c s.recd.supp) e.code e.ot) s.recd.supp } ∧ t.get Reg.RECD_SUPPR.COUNT = min (s.get Reg.RECD_SUPPR.COUNT + 1) 0xFFFFFFFF ∧ t.flag Reg.RECD_IRQ.SUPPR = true ∧ regsBut s t [Reg.RECD_SUPPR.COUNT, Reg.RECD_IRQ.SUPPR] ∧ t.img = s.img ∧ t.prg = s.prg) ∧
  (∀ (c : Fin 256) (m : Missed) (u w s : State), s.recRuns = true → tabGet c.val s.recd.supp = some m → u = s.reachOp ((m.ot1 + 2560) % 2 ^ 40) → w = { u with recd.supp := tabErase c.val u.recd.supp } → exec (.suppressionTimeout c) s = .next (w.stageOwn (u.recRecord 0x0B03 (m.body c))).settle) ∧
  (∀ (m : Missed) (u s : State), s.recRuns = true → s.recd.lost = some m → s.stageFill < 2048 → s.recd.scan = false → u = { s with recd.lost := none } → exec .lossRecordStage s = .next (u.stageOwn (s.recRecord 0x0B04 (m.body 0xFF))).settle) ∧
  (∀ (r : StRec) (s : State), s.stageFits r = true → (s.stageRec r).recd = { s.recd with stage := s.recd.stage ++ [r] } ∧ (s.stageRec r).events = s.events ∧ regsBut s (s.stageRec r) [Reg.RECD_STAGE.FILL, Reg.RECD_STAGE.PEAK]) ∧
  (∀ (r : StRec) (l : List StRec) (a p n : Nat) (b : RBlk) (s : State), s.recRuns = true → s.recd.scan = false → s.recFailed = false → s.recd.job = .idle → s.recd.again = [] → s.recd.stage = r :: l → s.recd.cur = some (a, p) → s.rblk p = some b → b.lines.length + r.lines ≤ 255 → n = s.nextRecSeq →
    ∃ t, exec .recordWriteStart s = .next t ∧ t.recd = { s.recd with job := .write r n (r.toLines n), lineAt := s.now + ns 400 } ∧ t.get Reg.RECD_NEXTSEQ.SEQ = (n + 1) % 2 ^ 32 ∧ t.events = s.events ∧ regsBut s t [Reg.RECD_NEXTSEQ.SEQ] ∧ t.img = s.img ∧ t.prg = s.prg ∧ t.rest = s.rest ∧ t.hkp = s.hkp) ∧
  (∀ (r : StRec) (x y : Bytes) (l : List Bytes) (q a p : Nat) (b : RBlk) (s : State), s.recRuns = true → s.recd.job = .write r q (x :: y :: l) → s.recd.cur = some (a, p) → s.rblk p = some b →
    ∃ t, exec (.recordLineWritten true) s = .next t ∧ t.now = max s.now s.recd.lineAt ∧ t.recd = { s.recd with blocks := tabPut p { b with lines := b.lines ++ [x] } s.recd.blocks, job := .write r q (y :: l), lineAt := t.now + ns 400 } ∧ t.events = s.events ∧ regsBut s t [] ∧ t.img = s.img ∧ t.prg = s.prg ∧ t.rest = s.rest ∧ t.hkp = s.hkp) ∧
  (∀ (r : StRec) (x : Bytes) (q a p : Nat) (b : RBlk) (u s : State), s.recRuns = true → s.recd.job = .write r q [x] → s.recd.cur = some (a, p) → s.rblk p = some b → u = { s.reach s.recd.lineAt with recd.blocks := tabPut p { b with lines := b.lines ++ [x] } s.recd.blocks } →
    exec (.recordLineWritten true) s = .next (u.recDone p q r).settle) ∧
  (∀ (s : State), s.recRuns = true → s.recd.scan = true → s.recd.job = .idle → s.recFailed = false → ∃ t, exec .recorderScanComplete s = .next t ∧ t.recd.scan = false ∧ t.recd.torn = none ∧ t.recd.mirStage = 0 ∧ t.img = s.img ∧ t.prg = s.prg ∧ t.rest = s.rest ∧ t.hkp = s.hkp) ∧
  (∀ (v : Word) (s : State), s.awake = true → s.flag Reg.RECD_STAT.BUSY = true → ∃ t, exec (.hostRecordWrite v) s = .next t ∧ t.flag Reg.RECD_STAT.WIGN = true ∧ t.events = s.events ∧ regsBut s t [Reg.RECD_STAT.WIGN] ∧ memSame s t) ∧
  (∀ (v : Word) (s : State), s.awake = true → s.flag Reg.RECD_STAT.BUSY = false → bit v.toNat 31 = true → s.get Reg.RECD_HWCODE.CODE < 0x1000 →
    ∃ t, exec (.hostRecordWrite v) s = .next t ∧ t.get Reg.RECD_STAT.HWRES = 1 ∧ t.get Reg.RECD_HWREF.COUNT = min (s.get Reg.RECD_HWREF.COUNT + 1) 0xFFFFFFFF ∧ t.flag Reg.RECD_IRQ.HW = true ∧ t.flag Reg.RECD_HWCTL.GO = true ∧ t.get Reg.RECD_HWCTL.CLASS = Reg.RECD_HWCTL.CLASS.of v.toNat ∧ t.get Reg.RECD_HWCTL.BLEN = Reg.RECD_HWCTL.BLEN.of v.toNat
      ∧ t.events = s.events ∧ regsBut s t [Reg.RECD_STAT.HWRES, Reg.RECD_HWREF.COUNT, Reg.RECD_IRQ.HW, Reg.RECD_HWCTL.GO, Reg.RECD_HWCTL.CLASS, Reg.RECD_HWCTL.BLEN] ∧ memSame s t) ∧
  (∀ (e : EventRec) (l : List EventRec) (r : StRec) (c : Nat) (u s : State), s.recRuns = true → s.events = e :: l → s.stackId = 0 → r = ⟨e.code, e.body, e.ot, s.get Reg.RECD_PCC.VALUE % 2 ^ 24⟩ → u = { s with events := l } → c = devClass e.code → u.clsUnlimited c = false → 256 ≤ (u.cls c).tok → u.recd.supp = [] → u.stageFits r = true →
    ∃ t, exec .recordStage s = .next t ∧ t.events = l ∧ t.recd = { s.recd with stage := s.recd.stage ++ [r], classes := tabPut c { u.cls c with tok := (u.cls c).tok - 256 } s.recd.classes } ∧ regsBut s t [Reg.RECD_STAGE.FILL, Reg.RECD_STAGE.PEAK] ∧ t.img = s.img ∧ t.prg = s.prg ∧ t.rest = s.rest ∧ t.hkp = s.hkp) ∧
  (∀ (e : EventRec) (l : List EventRec) (r : StRec) (u s : State), s.recRuns = true → s.events = e :: l → s.stackId ≠ 0 → r = ⟨e.code, e.body, e.ot, s.get Reg.RECD_PCC.VALUE % 2 ^ 24⟩ → u = { s with events := l } →
    exec .recordStage s = .next (u.stackMsg 0 2 (natBe 2 r.code ++ natBe 5 r.ot ++ natBe 3 r.pcc ++ r.body)).settle) ∧
  (∀ (r : StRec) (s : State), s.stageFits r = false → (s.stageRec r).recd = { s.recd with lost := some (noteMissed s.recd.lost r.code r.ot) } ∧ (s.stageRec r).get Reg.RECD_LOST.COUNT = min (s.get Reg.RECD_LOST.COUNT + 1) 0xFFFFFFFF ∧ (s.stageRec r).flag Reg.RECD_IRQ.LOST = true
      ∧ (s.stageRec r).events = s.events ∧ regsBut s (s.stageRec r) [Reg.RECD_LOST.COUNT, Reg.RECD_IRQ.LOST]) ∧
  (∀ (r : StRec) (l : List StRec) (a p : Nat) (b : RBlk) (s : State), s.recRuns = true → s.recd.scan = false → s.recFailed = false → s.recd.job = .idle → s.recd.again = [] → s.recd.stage = r :: l → s.recd.cur = some (a, p) → s.rblk p = some b → 255 < b.lines.length + r.lines → b.lines.length < 255 →
    ∃ t, exec .recordWriteStart s = .next t ∧ t.recd = { s.recd with job := .endLine, lineAt := s.now + ns 400 } ∧ t.events = s.events ∧ regsBut s t [] ∧ t.img = s.img ∧ t.prg = s.prg ∧ t.rest = s.rest ∧ t.hkp = s.hkp) ∧
  (∀ (r : StRec) (x : Bytes) (l : List Bytes) (q a p : Nat) (b : RBlk) (u s : State), s.recRuns = true → s.recd.job = .write r q (x :: l) → s.recd.cur = some (a, p) → s.rblk p = some b → u = s.reach s.recd.lineAt →
    exec (.recordLineWritten false) s = .next (u.retire a p 2 (b.lines.length + 1) (b.lines.take (b.lines.length - (r.lines - (l.length + 1))))).settle) ∧
  (∀ (a p i k : Nat) (x : List Bytes) (s : State), (s.retire a p i k x).get Reg.RECD_RETIRE.COUNT = min (s.get Reg.RECD_RETIRE.COUNT + 1) 0xFFFFFFFF ∧ (s.retire a p i k x).flag Reg.RECD_IRQ.RETIRE = true) ∧
  (∀ (b : Bool) (c : Fin 256) (s : State), s.recRuns = true → exec .recordStage s = .next s.stageEvent.settle ∧ exec .recordWriteStart s = .next s.writeStart.settle ∧ exec (.recordLineWritten b) s = .next (s.lineWritten b).settle ∧ exec .recorderScanComplete s = .next s.scanComplete.settle
      ∧ (s.events = [] → exec .recordStage s = .next s.settle) ∧ (tabGet c.val s.recd.supp = none → exec (.suppressionTimeout c) s = .next s.settle) ∧ (s.recd.lost = none → exec .lossRecordStage s = .next s.settle) ∧ (s.recd.scan = false → exec .recorderScanComplete s = .next s.settle)) ∧
  (∀ (b : Bool) (s : State), s.recRuns = true → ((s.recd.scan = true ∨ s.recFailed = true ∨ s.headRec = none) → exec .recordWriteStart s = .next s.settle) ∧ (s.recd.job = .idle → exec (.recordLineWritten b) s = .next (s.reach s.recd.lineAt).settle)) ∧
  (∀ (m : Missed) (s : State), s.recRuns = true → s.recd.lost = some m → (2048 ≤ s.stageFill ∨ s.recd.scan = true) → exec .lossRecordStage s = .next s.settle) ∧
  (∀ (v : Word) (s : State), s.awake = true → s.flag Reg.RECD_STAT.BUSY = false → exec (.hostRecordWrite v) s = .next (s.hwctl v.toNat).settle) ∧
  (∀ (k c : Nat) (b : Bytes) (r : StRec) (s : State), r = ⟨k, b, s.opTime, s.get Reg.RECD_PCC.VALUE % 2 ^ 24⟩ → 0x1000 ≤ k → b.length ≤ 496 → s.clsUnlimited c = true → s.stageFits r = true → s.recFailed = false →
    s.hostRecord k c b = (0, ((s.stageRec r).put Reg.RECD_STAT.HWRES 0).raise Reg.RECD_IRQ.HW))

/-- Reading, freezing and mirroring the recorder. A freeze holds for the seconds it names and ends with its record, at its time or by a write of 0; the cursor is set on the record with a SEQ or stands on no line; a read of RECD_RD3 moves it to the next line, and from the last one to the record that follows; rate classes are stored and loaded; operating time goes on from where it stands when its rate is corrected, and its seconds are read with the fraction latched; a checkpoint goes into the older copy; a failing copy puts the mirror in fault and a good retry ends it; a staged record of a FAILED recorder is copied with a free SEQ (log entry 44); a write while the mailbox is busy is ignored with WIGN; a mirror or freeze that is not there changes nothing; every form acts as the function of the model named here says. -/
def Obligations.RecorderReads : Prop :=
  (∀ (v : Word) (n : Nat) (s : State), s.awake = true → n = min 10 (v.toNat % 16) → n ≠ 0 → s.recd.freeze = none →
    ∃ t, exec (.recdFreezePair v) s = .next t ∧ t.recd = { s.recd with freeze := some ((s.opTime + 256 * n) % 2 ^ 40) } ∧ t.flag Reg.RECD_STAT.FROZEN = true ∧ t.get Reg.RECD_FREEZE.SECS = v.toNat % 16 ∧ newest t = some 0x0B06 ∧ t.flag Reg.RECD_IRQ.FREEZE = true ∧ regsBut s t [Reg.RECD_STAT.FROZEN, Reg.RECD_FREEZE.SECS, Reg.RECD_IRQ.FREEZE] ∧ t.img = s.img ∧ t.prg = s.prg ∧ t.rest = s.rest ∧ t.hkp = s.hkp) ∧
  (∀ (n : Nat) (u s : State), s.recRuns = true → s.recd.freeze = some n → u = s.reachOp n →
    ∃ t, exec .freezeExpiry s = .next t ∧ t.now = u.now ∧ t.recd = { s.recd with freeze := none } ∧ t.flag Reg.RECD_STAT.FROZEN = false ∧ newest t = some 0x0B07 ∧ t.flag Reg.RECD_IRQ.FREEZE = true ∧ regsBut s t [Reg.RECD_STAT.FROZEN, Reg.RECD_IRQ.FREEZE]) ∧
  (∀ (v : Word) (e : Fin 3) (s : State), s.awake = true → s.flag Reg.RECD_RSTAT.BUSY = false → (s.put Reg.RECD_RSEL.SEQ v.toNat).findRec (s.flag Reg.RECD_RAREA.MORNING) v.toNat = none →
    ∃ t, exec (.recordCursorSelect v e) s = .next t ∧ t.recd = { s.recd with cursor := none } ∧ t.flag Reg.RECD_RSTAT.VALID = false ∧ t.get Reg.RECD_RSTAT.RES = 2 ∧ t.get Reg.RECD_RSEL.SEQ = v.toNat % 2 ^ 32 ∧ t.events = s.events ∧ regsBut s t [Reg.RECD_RSTAT.VALID, Reg.RECD_RSTAT.RES, Reg.RECD_RSEL.SEQ]) ∧
  (∀ (v : Word) (x : Nat × RBlk × Nat × Bytes) (l : Bytes) (u s : State), s.awake = true → s.flag Reg.RECD_RSTAT.BUSY = false → u = s.put Reg.RECD_RSEL.SEQ v.toNat → u.findRec (s.flag Reg.RECD_RAREA.MORNING) v.toNat = some x → u.rblk x.1 = some x.2.1 → (x.2.1.lines.drop x.2.2.1).head? = some l →
    ∃ t, exec (.recordCursorSelect v 0) s = .next t ∧ t.recd = { s.recd with cursor := some ⟨s.flag Reg.RECD_RAREA.MORNING, lineSeq x.2.2.2, x.1, x.2.1.bseq, x.2.2.1, 0⟩ } ∧ t.flag Reg.RECD_RSTAT.VALID = true ∧ t.get Reg.RECD_RSTAT.RES = 0 ∧ t.get Reg.RECD_RSTAT.LINE = 0
      ∧ t.get Reg.RECD_RD0.DATA = fieldAt l 0 4 % 2 ^ 32 ∧ t.get Reg.RECD_RD1.DATA = fieldAt l 4 4 % 2 ^ 32 ∧ t.get Reg.RECD_RD2.DATA = fieldAt l 8 4 % 2 ^ 32 ∧ t.get Reg.RECD_RD3.DATA = fieldAt l 12 4 % 2 ^ 32 ∧ t.events = s.events) ∧
  (∀ (c : CurS) (b : RBlk) (x : Nat × RBlk × Nat × Bytes) (l : Bytes) (s : State), s.awake = true → s.recd.cursor = some c → s.rblk c.phys = some b → b.bseq = c.bseq → b.bstate ≠ 15 → s.findRec c.morning c.seq = some x → c.line + 1 < lineCount x.2.2.2 → (b.lines.drop (c.start + (c.line + 1))).head? = some l → c.line < 100 →
    ∃ t, exec (.recordCursorAdvance 0) s = .next t ∧ sent s t [.rdata 0xB0054 (s.get Reg.RECD_RD3.DATA)] ∧ t.recd = { s.recd with cursor := some { c with line := c.line + 1 } } ∧ t.flag Reg.RECD_RSTAT.VALID = true ∧ t.get Reg.RECD_RSTAT.RES = 0 ∧ t.get Reg.RECD_RSTAT.LINE = c.line + 1
      ∧ t.get Reg.RECD_RD0.DATA = fieldAt l 0 4 % 2 ^ 32 ∧ t.get Reg.RECD_RD3.DATA = fieldAt l 12 4 % 2 ^ 32 ∧ t.events = s.events) ∧
  (∀ (v : Word) (c d : Nat) (k : RateCls) (s : State), s.awake = true → s.flag Reg.RECD_STAT.BUSY = false → c = Reg.RECD_CSEL.CLASS.of v.toNat → Reg.RECD_CSEL.WR.of v.toNat = 1 → s.clsUnlimited c = false → k = s.cls c → d = max 1 (s.get Reg.RECD_CDATA.DEPTH) →
    ∃ t, exec (.rateClassStore v) s = .next t ∧ t.recd = { s.recd with classes := tabPut c { k with rate := s.get Reg.RECD_CDATA.RATE, depth := d, tok := min k.tok (256 * d) } s.recd.classes } ∧ t.flag Reg.REST_STAT.CFGDIRTY = true ∧ t.events = s.events ∧ regsBut s t [Reg.RECD_CSEL.WR, Reg.RECD_CSEL.CLASS, Reg.REST_STAT.CFGDIRTY]) ∧
  (∀ (v : Word) (c : Nat) (k : RateCls) (s : State), s.awake = true → s.flag Reg.RECD_STAT.BUSY = false → c = Reg.RECD_CSEL.CLASS.of v.toNat → Reg.RECD_CSEL.WR.of v.toNat = 0 → k = s.cls c →
    ∃ t, exec (.rateClassLoad v) s = .next t ∧ t.get Reg.RECD_CDATA.RATE = k.rate % 2 ^ 16 ∧ t.get Reg.RECD_CDATA.DEPTH = k.depth % 2 ^ 8 ∧ t.get Reg.RECD_CDATA.TOK = k.tok / 256 % 2 ^ 8 ∧ t.recd = s.recd ∧ t.events = s.events ∧ regsBut s t [Reg.RECD_CSEL.WR, Reg.RECD_CSEL.CLASS, Reg.RECD_CDATA.RATE, Reg.RECD_CDATA.DEPTH, Reg.RECD_CDATA.TOK]) ∧
  (∀ (e : Int) (s : State), s.awake = true → ∃ t, exec (.operatingTimeCalibrate e) s = .next t ∧ t.opBase = s.opTime ∧ t.opAt = s.now ∧ t.opPpm = clampInt (-100) 100 e ∧ t.events = s.events ∧ regsBut s t [] ∧ memSame s t) ∧
  (∀ (u s : State), s.recRuns = true → u = s.reachOp ((s.recd.ckAt + 4096) % 2 ^ 40) → u.hkp.running = [] → u.recd.ckA = none →
    ∃ t, exec .checkpointWrite s = .next t ∧ t.now = u.now ∧ t.recd = { u.recd with ckA := some (u.opTime, u.get Reg.RECD_PCC.VALUE), ckAt := u.opTime } ∧ t.events = u.events ∧ regsBut u t [] ∧ t.img = u.img ∧ t.prg = u.prg ∧ t.rest = u.rest ∧ t.hkp = u.hkp) ∧
  (∀ (s : State), s.active = true → s.mirrorOn = true → s.flag Reg.RECD_STAT.MIRFAIL = false → s.recd.mirQ ≠ [] →
    ∃ t, exec (.mirrorCopy false) s = .next t ∧ t.flag Reg.RECD_STAT.MIRFAIL = true ∧ t.flag Reg.RECD_IRQ.MIR = true ∧ t.get Reg.RECD_MIRSTAT.GAP = 0 ∧ t.get Reg.RECD_MIRERR.COUNT = min (s.get Reg.RECD_MIRERR.COUNT + 1) 0xFFFFFFFF ∧ newest t = some 0x0B20 ∧ t.recd = { s.recd with mirRetry := (s.opSec + 1) * 256 }
      ∧ regsBut s t [Reg.RECD_STAT.MIRFAIL, Reg.RECD_IRQ.MIR, Reg.RECD_MIRSTAT.GAP, Reg.RECD_MIRERR.COUNT]) ∧
  (∀ (q : Nat) (l : List Nat) (u s : State), s.active = true → s.mirrorOn = true → s.flag Reg.RECD_STAT.MIRFAIL = false → s.recd.mirQ ≠ [] → u = s.mirrorSkip → u.recd.mirQ = q :: l →
    exec (.mirrorCopy true) s = .next (({ u.mirrorAppend q with recd.mirQ := l } : State).put Reg.RECD_MIRSTAT.LAG (min 0xFFFF l.length)).settle) ∧
  (∀ (u s : State), s.active = true → s.mirrorOn = true → s.flag Reg.RECD_STAT.MIRFAIL = true → u = s.reachOp (s.recd.mirRetry % 2 ^ 40) →
    exec (.mirrorRetry true) s = .next ((((u.put Reg.RECD_STAT.MIRFAIL 0).raise Reg.RECD_IRQ.MIR).record 0x0B21).mirrorSkip).settle ∧ exec (.mirrorRetry false) s = .next u.mirrorFault.settle) ∧
  (∀ (s : State), s.awake = true → ∃ t, exec .recdOpsecRead s = .next t ∧ sent s t [.rdata 0xB0018 (s.opTime / 256)] ∧ t.get Reg.RECD_OPFRAC.FRAC = s.opTime % 256 ∧ t.events = s.events ∧ regsBut s t [Reg.RECD_OPFRAC.FRAC] ∧ memSame s t) ∧
  (∀ (b : Bool) (s : State), s.active = true → exec (.mirrorCopy b) s = .next (s.mirrorCopy b).settle ∧ ((s.mirrorOn = false ∨ s.flag Reg.RECD_STAT.MIRFAIL = false) → exec (.mirrorRetry b) s = .next s.settle) ∧ ((s.mirrorOn = false ∨ s.flag Reg.RECD_STAT.MIRFAIL = true) → exec (.mirrorCopy b) s = .next s.settle)) ∧
  (∀ (r : StRec) (l : List StRec) (u s : State), s.active = true → s.mirrorOn = true → s.flag Reg.RECD_STAT.MIRFAIL = false → s.recd.mirQ = [] → s.mirrorStaged = r :: l → u = s.mirrorSkip → exec (.mirrorCopy true) s = .next (u.mirrorStage r).settle) ∧
  (∀ (s : State), s.active = true → s.recd.mirQ = [] → s.mirrorStaged = [] → exec (.mirrorCopy true) s = .next s.settle) ∧
  (∀ (v : Word) (s : State), s.awake = true → exec (.recdFreezePair v) s = .next (s.writeFreeze v.toNat).settle ∧ (s.recd.freeze = none → exec .freezeExpiry s = .next s.settle)) ∧
  (∀ (v : Word) (n : Nat) (s : State), s.awake = true → v.toNat % 16 = 0 → s.recd.freeze = some n →
    ∃ t, exec (.recdFreezePair v) s = .next t ∧ t.recd = { s.recd with freeze := none } ∧ t.flag Reg.RECD_STAT.FROZEN = false ∧ newest t = some 0x0B07 ∧ t.flag Reg.RECD_IRQ.FREEZE = true ∧ regsBut s t [Reg.RECD_STAT.FROZEN, Reg.RECD_FREEZE.SECS, Reg.RECD_IRQ.FREEZE]) ∧
  (∀ (v : Word) (e : Fin 3) (s : State), s.awake = true → s.flag Reg.RECD_RSTAT.BUSY = false → exec (.recordCursorSelect v e) s = .next ((s.put Reg.RECD_RSEL.SEQ v.toNat).cursorSelect (s.flag Reg.RECD_RAREA.MORNING) v.toNat e).settle) ∧
  (∀ (v : Word) (e : Fin 3) (s : State), s.awake = true → s.flag Reg.RECD_RSTAT.BUSY = true → exec (.recordCursorSelect v e) s = .next (s.put Reg.RECD_STAT.WIGN 1).settle) ∧
  (∀ (e : Fin 3) (s : State), s.awake = true → exec (.recordCursorAdvance e) s = .next ((s.emit (.rdata 0xB0054 (s.get Reg.RECD_RD3.DATA))).cursorAdvance e).settle) ∧
  (∀ (v : Word) (s : State), s.awake = true → (s.flag Reg.RECD_STAT.BUSY = false → exec (.rateClassStore v) s = .next (s.classSel v.toNat).settle ∧ exec (.rateClassLoad v) s = .next (s.classSel v.toNat).settle)
      ∧ (s.flag Reg.RECD_STAT.BUSY = true → exec (.rateClassStore v) s = .next (s.put Reg.RECD_STAT.WIGN 1).settle ∧ exec (.rateClassLoad v) s = .next (s.put Reg.RECD_STAT.WIGN 1).settle)) ∧
  (∀ (s : State), s.recRuns = true → exec .checkpointWrite s = .next (s.reachOp ((s.recd.ckAt + 4096) % 2 ^ 40)).dueCheckpoint.settle) ∧
  (∀ (c : CurS) (b : RBlk) (x y : Nat × RBlk × Nat × Bytes) (u s : State), s.awake = true → s.recd.cursor = some c → s.rblk c.phys = some b → b.bseq = c.bseq → b.bstate ≠ 15 → s.findRec c.morning c.seq = some x → lineCount x.2.2.2 ≤ c.line + 1 → s.recAfter c.morning c.seq = some y → u = s.emit (.rdata 0xB0054 (s.get Reg.RECD_RD3.DATA)) →
    exec (.recordCursorAdvance 0) s = .next (u.setCursor c.morning y 0 0).settle)

/-- Host reads, host writes and fences. A read in D3 is answered UR and a write in D3 is dropped; a read in the dimming before a Dusk commit is answered CA or, with ERRMODE, with ones; a request that finds no entry is held back; a read outside every window answers zeros; an own register word is read and written; a read of an absent member is answered CA or, with ERRMODE, with ones, and a read of a present member is sent to it and kept until its answer or FTO; a write to an absent member is a far error, and one to a present member is sent and kept; a fence is answered at once where nothing is outstanding and waits otherwise; a copy read ahead is dropped after its time; a number, a fence or a copy that is not there changes nothing; on a stack member the host rows do nothing (R425); every form acts as the function of the model named here says. UR for reads and dropped writes in D3hot, requests held back at the entry limit, and the AER bits are the model’s choice (log entry 28). -/
def Obligations.HostAccess : Prop :=
  (∀ (tag : Nat) (bar : Fin 2) (addr : Fin 16777216) (dws : Nat) (fbe lbe : Fin 16) (ecc : Bool) (s : State), s.active = true → s.stackId = 0 → s.inD3 = true →
    ∃ t, exec (.hostRead tag bar addr dws fbe lbe ecc) s = .next t ∧ sent s t [.cpl tag 1 false [], .aer 1] ∧ t.get Reg.BRDG_NPREQ.COUNT = min (s.get Reg.BRDG_NPREQ.COUNT + 1) 0xFFFFFFFF ∧ t.get Reg.BRDG_UR.COUNT = min (s.get Reg.BRDG_UR.COUNT + 1) 0xFFFFFFFF ∧ t.flag Reg.BRDG_IRQ.RDERR = true ∧ regsBut s t [Reg.BRDG_NPREQ.COUNT, Reg.BRDG_UR.COUNT, Reg.BRDG_IRQ.RDERR] ∧ t.brdg = { s.brdg with aer := s.brdg.aer ||| 2 ^ 20 } ∧ memSame s t) ∧
  (∀ (tag : Nat) (addr : Fin 16777216) (dws : Nat) (fbe lbe : Fin 16) (s : State), s.active = true → s.stackId = 0 → s.inD3 = false → s.hostDim = false → s.noEntry false false = false → addr.val < 0x800000 → winKind (addr.val / 4 * 4) = none →
    ∃ t, exec (.hostRead tag 0 addr dws fbe lbe false) s = .next t ∧ sent s t [.cpl tag 0 false (List.replicate (4 * dws) 0)] ∧ regsBut s t [Reg.BRDG_NPREQ.COUNT] ∧ t.events = s.events ∧ t.brdg = s.brdg ∧ memSame s t) ∧
  (∀ (tag : Nat) (addr : Fin 16777216) (lbe : Fin 16) (r : Nat × State) (s : State), s.active = true → s.stackId = 0 → s.inD3 = false → s.hostDim = false → s.noEntry false false = false → addr.val / 4 * 4 < 0xF0000 → addr.val / 4 * 4 ≠ 0xC0028 → r = (s.bump Reg.BRDG_NPREQ.COUNT).regRead (addr.val / 4 * 4) 0 →
    exec (.hostRead tag 0 addr 1 15 lbe false) s = .next (r.2.emit (.cpl tag 0 false (r.2.laned 0 (natBe 4 r.1)))).settle) ∧
  (∀ (tag m : Nat) (addr : Fin 16777216) (dws : Nat) (fbe lbe : Fin 16) (u s : State), s.active = true → s.stackId = 0 → s.inD3 = false → s.hostDim = false → s.noEntry false true = false → 0x800000 ≤ addr.val → m = (addr.val / 4 * 4 - 0x800000) / 0x200000 → m ≠ 0 → winKind ((addr.val / 4 * 4 - 0x800000) % 0x200000) ≠ some 0 → winKind ((addr.val / 4 * 4 - 0x800000) % 0x200000) ≠ none → u = s.bump Reg.BRDG_NPREQ.COUNT → u.reachable m = false → s.flag Reg.BRDG_CTRL.ERRMODE = false →
    ∃ t, exec (.hostRead tag 0 addr dws fbe lbe false) s = .next t ∧ sent s t [.cpl tag 4 false [], .aer 2] ∧ t.get Reg.BRDG_CA.COUNT = min (s.get Reg.BRDG_CA.COUNT + 1) 0xFFFFFFFF ∧ t.flag Reg.BRDG_IRQ.RDERR = true ∧ regsBut s t [Reg.BRDG_NPREQ.COUNT, Reg.BRDG_CA.COUNT, Reg.BRDG_IRQ.RDERR] ∧ t.brdg = { s.brdg with aer := s.brdg.aer ||| 2 ^ 15 } ∧ memSame s t) ∧
  (∀ (tag m a : Nat) (addr : Fin 16777216) (dws : Nat) (fbe lbe : Fin 16) (u s : State), s.active = true → s.stackId = 0 → s.inD3 = false → s.hostDim = false → s.noEntry false true = false → 0x800000 ≤ addr.val → m = (addr.val / 4 * 4 - 0x800000) / 0x200000 → m ≠ 0 → a = (addr.val / 4 * 4 - 0x800000) % 0x200000 → winKind a = some 2 → u = s.bump Reg.BRDG_NPREQ.COUNT → u.reachable m = true → u.stackUp 1 = true → s.farAsked < 32 → s.brdg.reads.all (fun x : FarOp => x.sent) = true → s.brdg.writes.all (fun x : FarOp => x.sent) = true →
    ∃ t, exec (.hostRead tag 0 addr dws fbe lbe false) s = .next t ∧ sent s t [.stack 1 (rdPacket m 0 (s.brdg.nextId % 0xFFF0) a (16 * fbe.val + lbe.val) (4 * dws))] ∧ t.brdg = { s.brdg with nextId := s.brdg.nextId + 1, reads := s.brdg.reads ++ [{ id := s.brdg.nextId % 0xFFF0, tag := tag, src := 0, member := m, addr := 0x800000 + m * 0x200000 + a, len := 4 * dws, arrival := shortNs s.presented % 2 ^ 32, until_ := s.now + s.fto, win := 2, be := 16 * fbe.val + lbe.val, sent := true }] } ∧ regsBut s t [Reg.BRDG_NPREQ.COUNT] ∧ t.events = s.events ∧ memSame s t) ∧
  (∀ (bar : Fin 2) (addr : Fin 16777216) (data : Bytes) (fbe lbe : Fin 16) (s : State), s.active = true → s.stackId = 0 → s.inD3 = true → s.brdg.held = [] → s.brdg.waiting = [] → s.brdg.semWait = [] →
    ∃ t, exec (.hostPostedWrite bar addr data fbe lbe) s = .next t ∧ t.get Reg.BRDG_PWR.COUNT = min (s.get Reg.BRDG_PWR.COUNT + 1) 0xFFFFFFFF ∧ sent s t [] ∧ t.events = s.events ∧ regsBut s t [Reg.BRDG_PWR.COUNT] ∧ t.brdg = s.brdg ∧ memSame s t) ∧
  (∀ (addr : Fin 16777216) (data : Bytes) (lbe : Fin 16) (u s : State), s.active = true → s.stackId = 0 → s.inD3 = false → s.hostDim = false → s.noEntry true false = false → addr.val / 4 * 4 < 0xF0000 → data.length = 4 → s.get Reg.BRDG_WIN.BO0 = 0 → s.get Reg.BRDG_WIN.BO1 = 0 → s.get Reg.BRDG_WIN.BO2 = 0 → s.get Reg.BRDG_WIN.BO3 = 0 → u = s.bump Reg.BRDG_PWR.COUNT →
    exec (.hostPostedWrite 0 addr data 15 lbe) s = .next (u.regWrite (addr.val / 4 * 4) (beNat data) 0).drainWaiting.settle) ∧
  (∀ (m a : Nat) (addr : Fin 16777216) (data : Bytes) (fbe lbe : Fin 16) (u s : State), s.active = true → s.stackId = 0 → s.inD3 = false → s.hostDim = false → s.noEntry true true = false → 0x800000 ≤ addr.val → m = (addr.val / 4 * 4 - 0x800000) / 0x200000 → m ≠ 0 → a = (addr.val / 4 * 4 - 0x800000) % 0x200000 → winKind a = some 1 → s.get Reg.BRDG_WIN.BO0 = 0 → s.get Reg.BRDG_WIN.BO1 = 0 → s.get Reg.BRDG_WIN.BO2 = 0 → s.get Reg.BRDG_WIN.BO3 = 0 → u = s.bump Reg.BRDG_PWR.COUNT → u.reachable m = false →
    exec (.hostPostedWrite 0 addr data fbe lbe) s = .next (u.farError 1 0 m (0x800000 + m * 0x200000 + a) data (shortNs s.presented % 2 ^ 32)).drainWaiting.settle) ∧
  (∀ (c src m a q : Nat) (d : Bytes) (arr : Nat) (s : State), q = (if s.get Reg.BRDG_FSEQ.FSEQ = 65535 then 1 else s.get Reg.BRDG_FSEQ.FSEQ + 1) → q < 65536 → s.brdg.log.length < 32 →
    (s.farError c src m a d arr).get Reg.BRDG_FSEQ.FSEQ = q ∧ (s.farError c src m a d arr).brdg.log = s.brdg.log ++ [(q, natBe 2 q ++ natBe 1 c ++ natBe 1 (16 * src + m) ++ natBe 4 a ++ (d ++ [0, 0, 0, 0]).take 4 ++ natBe 4 arr, false)] ∧ (s.farError c src m a d arr).flag Reg.BRDG_IRQ.FERR = true ∧ (s.farError c src m a d arr).get Reg.BRDG_FERR.COUNT = min (s.get Reg.BRDG_FERR.COUNT + 1) 0xFFFFFFFF
      ∧ regsBut s (s.farError c src m a d arr) [Reg.BRDG_FSEQ.FSEQ, Reg.BRDG_IRQ.FERR, Reg.BRDG_FERR.COUNT]) ∧
  (∀ (id : Nat) (r : FarOp) (u s : State), s.active = true → s.brdg.reads.find? (·.id = id) = some r → s.flag Reg.BRDG_CTRL.ERRMODE = false → s.brdg.held = [] → s.brdg.behind = [] → s.brdg.retryAt = none → s.brdg.reads.all (fun x : FarOp => x.sent) = true → s.brdg.writes.all (fun x : FarOp => x.sent) = true → u = s.reach r.until_ →
    ∃ t, exec (.farTimeout id) s = .next t ∧ t.now = u.now ∧ sent s t [.cpl r.tag 4 false [], .aer 2] ∧ t.brdg = { s.brdg with reads := s.brdg.reads.filter (·.id ≠ id), aer := s.brdg.aer ||| 2 ^ 15 } ∧ t.get Reg.BRDG_FTO.COUNT = min (s.get Reg.BRDG_FTO.COUNT + 1) 0xFFFFFFFF ∧ t.flag Reg.BRDG_IRQ.RDERR = true ∧ regsBut s t [Reg.BRDG_FTO.COUNT, Reg.BRDG_IRQ.RDERR] ∧ memSame s t) ∧
  (∀ (id : Nat) (w : FarOp) (u s : State), s.active = true → s.brdg.reads.find? (·.id = id) = none → s.brdg.writes.find? (·.id = id) = some w → u = { s.reach w.until_ with brdg.writes := s.brdg.writes.filter (·.id ≠ id) } →
    exec (.farTimeout id) s = .next ((u.bump Reg.BRDG_FTO.COUNT).farError 3 w.src w.member w.addr w.data w.arrival).bridgeRoom.settle) ∧
  (∀ (tag : Nat) (s : State), s.active = true → s.stackId = 0 → s.inD3 = false → s.hostDim = false → s.noEntry false false = false → s.brdg.writes = [] → s.brdg.fences = [] → s.flag Reg.BRDG_WIN.BO0 = false →
    ∃ t, exec (.fseqFenceRead tag) s = .next t ∧ sent s t [.cpl tag 0 false (natBe 4 (s.get Reg.BRDG_FSEQ.FSEQ))] ∧ t.brdg = s.brdg ∧ t.events = s.events ∧ regsBut s t [Reg.BRDG_NPREQ.COUNT] ∧ memSame s t) ∧
  (∀ (tag : Nat) (s : State), s.active = true → s.stackId = 0 → s.inD3 = false → s.hostDim = false → s.noEntry false false = false → s.brdg.writes ≠ [] →
    ∃ t, exec (.fseqFenceRead tag) s = .next t ∧ sent s t [] ∧ t.brdg = { s.brdg with fences := s.brdg.fences ++ [(0, tag, s.brdg.writes.map (·.id))] } ∧ t.events = s.events ∧ regsBut s t [Reg.BRDG_NPREQ.COUNT] ∧ memSame s t) ∧
  (∀ (tag : Nat) (ids : List Nat) (l : List (Nat × Nat × List Nat)) (s : State), s.active = true → s.brdg.fences = (0, tag, ids) :: l → (s.brdg.writes.any fun w => ids.contains w.id) = false → s.flag Reg.BRDG_WIN.BO0 = false →
    ∃ t, exec .fenceComplete s = .next t ∧ sent s t [.cpl tag 0 false (natBe 4 (s.get Reg.BRDG_FSEQ.FSEQ))] ∧ t.brdg = { s.brdg with fences := l } ∧ t.events = s.events ∧ regsBut s t [] ∧ memSame s t) ∧
  (∀ (c : Prefetched) (l : List Prefetched) (s : State), s.active = true → s.brdg.pre = c :: l →
    ∃ t, exec .prefetchExpiry s = .next t ∧ t.now = max s.now c.until_ ∧ t.brdg = { s.brdg with pre := s.brdg.pre.filter fun x => t.now < x.until_ } ∧ t.events = s.events ∧ regsBut s t [] ∧ memSame s t) ∧
  (∀ (tag : Nat) (bar : Fin 2) (addr : Fin 16777216) (dws : Nat) (fbe lbe : Fin 16) (ecc : Bool) (s : State), s.active = true → s.stackId = 0 → exec (.hostRead tag bar addr dws fbe lbe ecc) s = .next (s.hostRead tag bar.val (addr.val / 4 * 4) dws fbe.val lbe.val ecc).settle
      ∧ exec (.fseqFenceRead tag) s = .next (s.hostRead tag 0 0xC0028 1 15 0 false).settle) ∧
  (∀ (bar : Fin 2) (addr : Fin 16777216) (data : Bytes) (fbe lbe : Fin 16) (id : Nat) (s : State), s.active = true → s.stackId = 0 → exec (.hostPostedWrite bar addr data fbe lbe) s = .next (s.hostWrite bar.val (addr.val / 4 * 4) data fbe.val lbe.val).drainWaiting.settle
      ∧ exec (.farTimeout id) s = .next (s.farTimeout id).bridgeRoom.settle) ∧
  (∀ (s : State), s.active = true → exec .fenceComplete s = .next s.fenceDone.settle ∧ exec .prefetchExpiry s = .next s.prefetchExpiry.settle ∧ (s.brdg.fences = [] → exec .fenceComplete s = .next s.settle) ∧ (s.brdg.pre = [] → exec .prefetchExpiry s = .next s.settle)) ∧
  (∀ (tag : Nat) (ids : List Nat) (l : List (Nat × Nat × List Nat)) (s : State), s.active = true → s.brdg.fences = (0, tag, ids) :: l → (s.brdg.writes.any fun w => ids.contains w.id) = true → exec .fenceComplete s = .next s.settle) ∧
  (∀ (tag : Nat) (bar : Fin 2) (addr : Fin 16777216) (dws : Nat) (fbe lbe : Fin 16) (ecc : Bool) (s : State), s.active = true → s.stackId = 0 → s.inD3 = false → s.hostDim = false → s.noEntry false (State.farTarget bar.val (addr.val / 4 * 4)) = true →
    exec (.hostRead tag bar addr dws fbe lbe ecc) s = .next ({ s with brdg.held := s.brdg.held ++ [⟨false, tag, bar.val, addr.val / 4 * 4, dws, fbe.val, lbe.val, ecc, [], 0⟩] } : State).settle) ∧
  (∀ (tag : Nat) (bar : Fin 2) (addr : Fin 16777216) (dws : Nat) (fbe lbe : Fin 16) (ecc : Bool) (s : State), s.active = true → s.stackId = 0 → s.inD3 = false → s.hostDim = true → s.flag Reg.BRDG_CTRL.ERRMODE = true →
    ∃ t, exec (.hostRead tag bar addr dws fbe lbe ecc) s = .next t ∧ sent s t [.cpl tag 0 false (List.replicate (4 * dws) 0xFF)] ∧ t.get Reg.BRDG_CA.COUNT = min (s.get Reg.BRDG_CA.COUNT + 1) 0xFFFFFFFF ∧ t.flag Reg.BRDG_IRQ.RDERR = true ∧ t.events = s.events
      ∧ regsBut s t [Reg.BRDG_NPREQ.COUNT, Reg.BRDG_CA.COUNT, Reg.BRDG_IRQ.RDERR] ∧ t.brdg = s.brdg ∧ memSame s t) ∧
  (∀ (bar : Fin 2) (addr : Fin 16777216) (data : Bytes) (fbe lbe : Fin 16) (s : State), s.active = true → s.stackId = 0 → s.inD3 = false → s.hostDim = false → s.noEntry true (State.farTarget bar.val (addr.val / 4 * 4)) = true →
    exec (.hostPostedWrite bar addr data fbe lbe) s = .next ({ s with brdg.held := s.brdg.held ++ [⟨true, 0, bar.val, addr.val / 4 * 4, 0, fbe.val, lbe.val, false, data, 0⟩] } : State).drainWaiting.settle) ∧
  (∀ (id : Nat) (s : State), s.active = true → s.brdg.reads.find? (·.id = id) = none → s.brdg.writes.find? (·.id = id) = none → exec (.farTimeout id) s = .next s.bridgeRoom.settle) ∧
  (∀ (s : State), s.brdg.held = [] → s.brdg.behind = [] → s.brdg.retryAt = none → s.brdg.reads.all (fun x : FarOp => x.sent) = true → s.brdg.writes.all (fun x : FarOp => x.sent) = true → s.bridgeRoom = s) ∧
  (∀ (m a : Nat) (addr : Fin 16777216) (data : Bytes) (op : FarOp) (u s : State), s.active = true → s.stackId = 0 → s.inD3 = false → s.hostDim = false → s.noEntry true true = false → 0x800000 ≤ addr.val → m = (addr.val / 4 * 4 - 0x800000) / 0x200000 → m ≠ 0 → a = (addr.val / 4 * 4 - 0x800000) % 0x200000 → winKind a = some 1 → s.winBo 1 = false → u = s.bump Reg.BRDG_PWR.COUNT → u.reachable m = true → s.farPosted < 32 → s.brdg.writes.all (fun x : FarOp => x.sent) = true →
    op = { id := s.brdg.nextId % 0xFFF0, tag := s.brdg.nextId % 0xFFF0, src := 0, member := m, addr := 0x800000 + m * 0x200000 + a, len := data.length, data := data.take 4, arrival := shortNs s.presented % 2 ^ 32, until_ := s.now + s.fto, win := 1, pay := data, be := 16 * 15 + 15, sent := true } →
    exec (.hostPostedWrite 0 addr data 15 15) s = .next (({ u with brdg := { s.brdg with writes := s.brdg.writes ++ [op], nextId := s.brdg.nextId + 1 } } : State).putFar true op).drainWaiting.settle)

/-- The PCIe function. A link that comes up shows its speed and width, and one that goes down resets the function; a reset of the function puts it back to D0 with its default sizes, takes the link down except for a function-level reset, and is recorded with its cause; a configuration request is answered with retry status at first, a read with its word, a write of the power state puts the function into D3 and back into D0, one of device control sets the sizes; a request that the function does not serve is refused with UR and reported; a write of a base address keeps the bits above its size, and one of the error status clears the bits that are 1; on a stack member nothing is done, nor by a link change where the link is already down; every form acts as the function of the model named here says. The configuration items, the AER bits, the reset of the MSI-X capability and that of kind PERST# are the model’s (log entries 28 and 19). -/
def Obligations.PcieFunction : Prop :=
  (∀ (p : Fin 2) (w : Fin 3) (s : State), s.active = true → s.stackId = 0 → s.cmd.late = [] → s.brdg.held = [] → s.brdg.waiting = [] → s.brdg.semWait = [] →
    ∃ t, exec (.pcieLinkChange true p w) s = .next t ∧ t.get Reg.BRDG_STAT.LINKUP = 1 ∧ t.get Reg.BRDG_PCIE.SPEED = p.val ∧ t.get Reg.BRDG_PCIE.WIDTH = w.val ∧ t.flag Reg.BRDG_IRQ.LINK = true ∧ newest t = some 0x0C01 ∧ t.get Reg.CMD_STAT.OPEN = s.slotsTaken % 256 ∧ regsBut s t [Reg.BRDG_STAT.LINKUP, Reg.BRDG_PCIE.SPEED, Reg.BRDG_PCIE.WIDTH, Reg.BRDG_IRQ.LINK, Reg.CMD_STAT.OPEN] ∧ t.brdg = s.brdg ∧ memSame s t) ∧
  (∀ (k : Fin 4) (s : State), s.active = true → s.stackId = 0 → s.brdg.held = [] → s.brdg.waiting = [] → s.brdg.semWait = [] →
    ∃ t, exec (.pcieReset k) s = .next t ∧ t.get Reg.BRDG_PCIE.DSTATE = 0 ∧ t.get Reg.BRDG_STAT.D3 = 0 ∧ t.get Reg.BRDG_PCIE.MRRS = 2 ∧ t.get Reg.BRDG_PCIE.MPS = 0 ∧ (k.val ≠ 3 → t.get Reg.BRDG_STAT.LINKUP = 0 ∧ t.get Reg.BRDG_PCIE.WIDTH = 0 ∧ t.get Reg.BRDG_PCIE.SPEED = 0) ∧ newest t = some 0x0C02 ∧ t.msix.enable = false ∧ t.msix.table = [] ∧ (k.val = 0 → t.brdg.crsUntil = t.now + ms 20 ∧ t.brdg.aer = 0) ∧ t.brdg.bar0 = 0 ∧ t.brdg.bar2 = 0 ∧ t.brdg.aspm = 0) ∧
  (∀ (tag : Nat) (w : Bool) (i : Fin 32) (v : Word) (s : State), s.active = true → s.stackId = 0 → i.val ≠ 15 → s.now < s.brdg.crsUntil →
    ∃ t, exec (.pcieConfigRequest tag w i v) s = .next t ∧ sent s t [.cpl tag 2 false []] ∧ regsBut s t [] ∧ t.events = s.events ∧ t.brdg = s.brdg ∧ memSame s t) ∧
  (∀ (tag : Nat) (v : Word) (s : State), s.active = true → s.stackId = 0 → s.brdg.crsUntil ≤ s.now →
    ∃ t, exec (.pcieConfigRequest tag false 0 v) s = .next t ∧ sent s t [.cpl tag 0 false (natLe 4 (0x9600 * 65536 + s.get Reg.BRDG_ID.VID))] ∧ regsBut s t [] ∧ t.events = s.events ∧ t.brdg = s.brdg ∧ memSame s t) ∧
  (∀ (tag : Nat) (v : Word) (s : State), s.active = true → s.stackId = 0 → s.brdg.crsUntil ≤ s.now → v.toNat % 4 = 3 →
    ∃ t, exec (.pcieConfigRequest tag true 2 v) s = .next t ∧ sent s t [.cpl tag 0 false []] ∧ t.get Reg.BRDG_PCIE.DSTATE = 3 ∧ t.get Reg.BRDG_STAT.D3 = 1 ∧ t.inD3 = true ∧ regsBut s t [Reg.BRDG_PCIE.DSTATE, Reg.BRDG_STAT.D3] ∧ t.events = s.events ∧ t.brdg = s.brdg ∧ memSame s t) ∧
  (∀ (b : Bool) (k : Fin 4) (p : Fin 2) (w : Fin 3) (tag : Nat) (i : Fin 32) (v : Word) (s : State), s.active = true →
    (s.stackId = 0 → exec (.pcieReset k) s = .next (s.pcieReset (k.val + 1)).drainWaiting.settle ∧ exec (.pcieConfigRequest tag b i v) s = .next (s.cfgRequest tag b i.val v.toNat).settle ∧ exec (.pcieLinkChange b p w) s = .next (s.pcieLink b p.val w.val).drainWaiting.settle)
      ∧ (s.stackId ≠ 0 → exec (.pcieReset k) s = .next s.settle ∧ exec (.pcieConfigRequest tag b i v) s = .next s.settle ∧ exec (.pcieLinkChange b p w) s = .next s.settle)) ∧
  (∀ (p : Fin 2) (w : Fin 3) (s : State), s.active = true → s.stackId = 0 → s.flag Reg.BRDG_STAT.LINKUP = false → s.brdg.held = [] → s.brdg.waiting = [] → s.brdg.semWait = [] → exec (.pcieLinkChange false p w) s = .next s.settle) ∧
  (∀ (tag : Nat) (v : Word) (u s : State), s.active = true → s.stackId = 0 → s.brdg.crsUntil ≤ s.now → v.toNat % 4 = 0 → s.inD3 = true → u = (s.put Reg.BRDG_PCIE.DSTATE 0).put Reg.BRDG_STAT.D3 0 → exec (.pcieConfigRequest tag true 2 v) s = .next (u.enterD0.emit (.cpl tag 0 false [])).settle) ∧
  (∀ (tag : Nat) (v : Word) (s : State), s.active = true → s.stackId = 0 → s.brdg.crsUntil ≤ s.now → bits v.toNat 7 5 ≤ 1 →
    ∃ t, exec (.pcieConfigRequest tag true 3 v) s = .next t ∧ sent s t [.cpl tag 0 false []] ∧ t.get Reg.BRDG_PCIE.MPS = bits v.toNat 7 5 ∧ t.get Reg.BRDG_PCIE.MRRS = bits v.toNat 14 12 ∧ regsBut s t [Reg.BRDG_PCIE.MPS, Reg.BRDG_PCIE.MRRS] ∧ t.events = s.events ∧ t.brdg = s.brdg ∧ memSame s t) ∧
  (∀ (tag : Nat) (v : Word) (s : State), s.active = true → s.stackId = 0 →
    ∃ t, exec (.pcieConfigRequest tag false 15 v) s = .next t ∧ sent s t [.cpl tag 1 false [], .aer 1] ∧ t.get Reg.BRDG_NPREQ.COUNT = min (s.get Reg.BRDG_NPREQ.COUNT + 1) 0xFFFFFFFF ∧ t.get Reg.BRDG_UR.COUNT = min (s.get Reg.BRDG_UR.COUNT + 1) 0xFFFFFFFF ∧ t.flag Reg.BRDG_IRQ.RDERR = true
      ∧ t.brdg = { s.brdg with aer := s.brdg.aer ||| 2 ^ 20 } ∧ regsBut s t [Reg.BRDG_NPREQ.COUNT, Reg.BRDG_UR.COUNT, Reg.BRDG_IRQ.RDERR] ∧ memSame s t) ∧
  (∀ (tag : Nat) (v : Word) (s : State), s.active = true → s.stackId = 0 → s.brdg.crsUntil ≤ s.now →
    ∃ t, exec (.pcieConfigRequest tag true 7 v) s = .next t ∧ sent s t [.cpl tag 0 false []] ∧ t.brdg = { s.brdg with bar0 := s.brdg.bar0 / 2 ^ 32 * 2 ^ 32 + v.toNat / 2 ^ 24 * 2 ^ 24 } ∧ regsBut s t [] ∧ t.events = s.events ∧ memSame s t) ∧
  (∀ (tag : Nat) (v : Word) (s : State), s.active = true → s.stackId = 0 → s.brdg.crsUntil ≤ s.now → s.brdg.aer < 2 ^ 32 →
    ∃ t, exec (.pcieConfigRequest tag true 13 v) s = .next t ∧ sent s t [.cpl tag 0 false []] ∧ (∀ i : Fin 32, bit t.brdg.aer i.val = (bit s.brdg.aer i.val && !bit v.toNat i.val)) ∧ regsBut s t [] ∧ t.events = s.events ∧ memSame s t) ∧
  (∀ (tag : Nat) (v : Word) (s : State), s.active = true → s.stackId = 0 →
    ∃ t, exec (.pcieConfigRequest tag true 15 v) s = .next t ∧ sent s t [.aer 1] ∧ t.brdg = { s.brdg with aer := s.brdg.aer ||| 2 ^ 20 } ∧ regsBut s t [] ∧ memSame s t) ∧
  (∀ (tag : Nat) (i : Fin 32) (v : Word) (s : State), s.active = true → s.stackId = 0 → 16 ≤ i.val → i.val ≤ 18 → s.brdg.crsUntil ≤ s.now →
    ∃ t, exec (.pcieConfigRequest tag false i v) s = .next t ∧ sent s t [.cpl tag 0 false (natLe 4 (if i.val = 16 then 3 else if i.val = 17 then 0x200000 else 0x201000))] ∧ regsBut s t [] ∧ t.events = s.events ∧ t.brdg = s.brdg ∧ memSame s t)

/-- The far-bus lock and the semaphores. A request made while a lock is pending or held sets WIGN; a request for a chip out of reach ends with result 4, one for a member asks it, one that finds the lock of a member’s core granted ends with result 1, and a member asks the master for any (R422, R424, log entry 26); a pending lock becomes HELD when it is granted, locking this chip where it is the target, and FREE when another holds it, after which a member’s core asks again 2 µs later; a release frees it with result 0 and a lock held for LOCKTO ends with result 2; at the master a free semaphore is taken by its reader, a taken one names its owner, and a semaphore is freed by its owner alone, while an access by a requester that does not hold the chip’s lock waits (R422); the host’s accesses are refused in D3hot and dimming and held back while a member’s core holds the lock; the master’s core asks again 2 µs after it lost an arbitration (R424); a member asks the master over the stack link (log entry 26); an answer without a pending lock and a release or timeout of a free one change nothing. -/
def Obligations.LocksAndSemaphores : Prop :=
  (∀ (v : Word) (s : State), s.active = true → bit v.toNat 31 = true → s.get Reg.BRDG_LOCK.STATE ≠ 0 → (s.stackId = 0 → s.noEntry true false = false) → s.brdg.held = [] → s.brdg.waiting = [] → s.brdg.semWait = [] →
    ∃ t, exec (.farLockRequest v) s = .next t ∧ t.flag Reg.BRDG_STAT.WIGN = true ∧ regsBut s t [Reg.BRDG_STAT.WIGN] ∧ t.brdg = s.brdg ∧ t.events = s.events ∧ memSame s t) ∧
  (∀ (v : Word) (s : State), s.active = true → bit v.toNat 31 = true → s.get Reg.BRDG_LOCK.STATE = 0 → (s.put Reg.BRDG_LOCK.MEMBER (v.toNat % 4)).lockReach (v.toNat % 4) = false → (s.stackId = 0 → s.noEntry true false = false) → s.farAsked < 32 → s.brdg.held = [] → s.brdg.waiting = [] → s.brdg.semWait = [] →
    ∃ t, exec (.farLockRequest v) s = .next t ∧ t.get Reg.BRDG_LOCK.STATE = 0 ∧ t.get Reg.BRDG_LOCK.LOCKRES = 4 ∧ t.get Reg.BRDG_LOCK.MEMBER = v.toNat % 4 ∧ t.flag Reg.BRDG_IRQ.LOCK = true ∧ regsBut s t [Reg.BRDG_LOCK.MEMBER, Reg.BRDG_LOCK.LOCKRES, Reg.BRDG_IRQ.LOCK] ∧ t.brdg = { s.brdg with retryAt := none } ∧ t.events = s.events ∧ memSame s t) ∧
  (∀ (v : Word) (m : Nat) (s : State), s.active = true → bit v.toNat 31 = true → s.get Reg.BRDG_LOCK.STATE = 0 → m = v.toNat % 4 → m ≠ 0 → s.stackId = 0 → (s.put Reg.BRDG_LOCK.MEMBER m).reachable m = true → s.stackUp 1 = true → (s.stackId = 0 → s.noEntry true false = false) → s.farAsked < 32 → s.brdg.held = [] → s.brdg.waiting = [] → s.brdg.semWait = [] → s.brdg.coreLock = none →
    ∃ t, exec (.farLockRequest v) s = .next t ∧ sent s t [.stack 1 (stackPacket 6 1 m 0 0xFFFF 0 0 [])] ∧ t.get Reg.BRDG_LOCK.STATE = 1 ∧ t.get Reg.BRDG_LOCK.MEMBER = m ∧ regsBut s t [Reg.BRDG_LOCK.MEMBER, Reg.BRDG_LOCK.STATE] ∧ t.brdg = { s.brdg with retryAt := none } ∧ t.events = s.events ∧ memSame s t) ∧
  (∀ (v : Word) (h k : Nat) (s : State), s.active = true → bit v.toNat 31 = true → s.get Reg.BRDG_LOCK.STATE = 0 → s.stackId = 0 → (s.put Reg.BRDG_LOCK.MEMBER (v.toNat % 4)).lockReach (v.toNat % 4) = true → (s.stackId = 0 → s.noEntry true false = false) → s.farAsked < 32 → s.brdg.held = [] → s.brdg.waiting = [] → s.brdg.semWait = [] → s.brdg.coreLock = some (h, k, true) →
    ∃ t, exec (.farLockRequest v) s = .next t ∧ t.get Reg.BRDG_LOCK.STATE = 0 ∧ t.get Reg.BRDG_LOCK.LOCKRES = 1 ∧ t.get Reg.BRDG_LOCK.MEMBER = v.toNat % 4 ∧ t.flag Reg.BRDG_IRQ.LOCK = true ∧ regsBut s t [Reg.BRDG_LOCK.MEMBER, Reg.BRDG_LOCK.LOCKRES, Reg.BRDG_IRQ.LOCK] ∧ t.brdg = { s.brdg with retryAt := none } ∧ t.events = s.events ∧ memSame s t) ∧
  (∀ (v : Word) (m : Nat) (s : State), s.active = true → bit v.toNat 31 = true → s.get Reg.BRDG_LOCK.STATE = 0 → m = v.toNat % 4 → s.stackId ≠ 0 → s.stackUp 0 = true → s.semOpen < 32 → s.brdg.held = [] → s.brdg.waiting = [] → s.brdg.semWait = [] →
    ∃ t, exec (.farLockRequest v) s = .next t ∧ sent s t [.stack 0 (stackPacket 6 1 0 s.stackId 0xFFFF 0 0 [BitVec.ofNat 8 m])] ∧ t.get Reg.BRDG_LOCK.STATE = 1 ∧ t.get Reg.BRDG_LOCK.MEMBER = m ∧ regsBut s t [Reg.BRDG_LOCK.MEMBER, Reg.BRDG_LOCK.STATE] ∧ t.brdg = { s.brdg with retryAt := none } ∧ t.events = s.events ∧ memSame s t) ∧
  (∀ (s : State), s.active = true → s.get Reg.BRDG_LOCK.STATE = 1 → s.get Reg.BRDG_LOCK.MEMBER ≠ s.stackId →
    ∃ t, exec (.farLockGrant true) s = .next t ∧ t.get Reg.BRDG_LOCK.STATE = 2 ∧ t.get Reg.BRDG_LOCK.LOCKRES = 0 ∧ t.flag Reg.BRDG_IRQ.LOCK = true ∧ t.brdg = { s.brdg with lockAt := some s.now } ∧ t.events = s.events ∧ regsBut s t [Reg.BRDG_LOCK.STATE, Reg.BRDG_LOCK.LOCKRES, Reg.BRDG_IRQ.LOCK] ∧ memSame s t) ∧
  (∀ (s : State), s.active = true → s.get Reg.BRDG_LOCK.STATE = 1 →
    ∃ t, exec (.farLockGrant false) s = .next t ∧ t.get Reg.BRDG_LOCK.STATE = 0 ∧ t.get Reg.BRDG_LOCK.LOCKRES = 1 ∧ t.flag Reg.BRDG_IRQ.LOCK = true ∧ t.brdg = (if s.stackId = 0 then s.brdg else { s.brdg with retryAt := some (s.now + us 2) }) ∧ t.events = s.events ∧ regsBut s t [Reg.BRDG_LOCK.STATE, Reg.BRDG_LOCK.LOCKRES, Reg.BRDG_IRQ.LOCK] ∧ memSame s t) ∧
  (∀ (s : State), s.active = true → s.get Reg.BRDG_LOCK.STATE = 2 → s.get Reg.BRDG_LOCK.MEMBER = 1 → s.stackId = 0 → s.stackUp 1 = true → s.unsent = none → s.brdg.held = [] → s.brdg.waiting = [] → s.brdg.semWait = [] →
    ∃ t, exec .farLockRelease s = .next t ∧ sent s t [.stack 1 (stackPacket 7 0 1 0 0 0 0 [])] ∧ t.get Reg.BRDG_LOCK.STATE = 0 ∧ t.get Reg.BRDG_LOCK.LOCKRES = 0 ∧ t.flag Reg.BRDG_IRQ.LOCK = true ∧ t.brdg = { s.brdg with lockAt := none, retryAt := none, lockWait := false } ∧ t.events = s.events ∧ regsBut s t [Reg.BRDG_LOCK.STATE, Reg.BRDG_LOCK.LOCKRES, Reg.BRDG_IRQ.LOCK] ∧ memSame s t) ∧
  (∀ (a : Nat) (w s : State), s.active = true → s.brdg.lockAt = some a → s.get Reg.BRDG_LOCK.STATE = 2 → w = (s.reach (a + s.lockTo)).endLock 2 →
    exec .farLockTimeout s = .next ((w.bump Reg.BRDG_LOCKTO.COUNT).record 0x0C07).drainWaiting.settle ∧ w.get Reg.BRDG_LOCK.STATE = 0 ∧ w.get Reg.BRDG_LOCK.LOCKRES = 2 ∧ w.flag Reg.BRDG_IRQ.LOCK = true ∧ w.now = max s.now (a + s.lockTo)) ∧
  (∀ (w : Fin 5) (n : Fin 32) (s : State), s.active = true → s.stackId = 0 → (w.val = 0 → s.inD3 = false ∧ s.hostDim = false ∧ s.noEntry false false = false) → (w.val ≠ 0 → s.semMustWait w.val = false) → s.get (Reg.BRDG_SEM.OWNER.ix n) = 0 →
    ∃ t, exec (.semaphoreRead w n) s = .next t ∧ sent s t [.rdata (0xC0080 + 4 * n.val) 0] ∧ t.get (Reg.BRDG_SEM.OWNER.ix n) = w.val + 1 ∧ t.get Reg.BRDG_NPREQ.COUNT = (if w.val = 0 then min (s.get Reg.BRDG_NPREQ.COUNT + 1) 0xFFFFFFFF else s.get Reg.BRDG_NPREQ.COUNT) ∧ regsBut s t [Reg.BRDG_SEM.OWNER.ix n, Reg.BRDG_NPREQ.COUNT] ∧ t.events = s.events ∧ t.brdg = s.brdg ∧ memSame s t) ∧
  (∀ (w : Fin 5) (n : Fin 32) (o : Nat) (s : State), s.active = true → s.stackId = 0 → (w.val = 0 → s.inD3 = false ∧ s.hostDim = false ∧ s.noEntry false false = false) → (w.val ≠ 0 → s.semMustWait w.val = false) → s.get (Reg.BRDG_SEM.OWNER.ix n) = o → o ≠ 0 →
    ∃ t, exec (.semaphoreRead w n) s = .next t ∧ sent s t [.rdata (0xC0080 + 4 * n.val) o] ∧ t.get Reg.BRDG_SEMBUSY.COUNT = min (s.get Reg.BRDG_SEMBUSY.COUNT + 1) 0xFFFFFFFF ∧ t.get Reg.BRDG_NPREQ.COUNT = (if w.val = 0 then min (s.get Reg.BRDG_NPREQ.COUNT + 1) 0xFFFFFFFF else s.get Reg.BRDG_NPREQ.COUNT) ∧ regsBut s t [Reg.BRDG_SEMBUSY.COUNT, Reg.BRDG_NPREQ.COUNT] ∧ t.events = s.events ∧ t.brdg = s.brdg ∧ memSame s t) ∧
  (∀ (w : Fin 5) (n : Fin 32) (v : Word) (s : State), s.active = true → s.stackId = 0 → (w.val = 0 → s.inD3 = false ∧ s.hostDim = false ∧ s.noEntry true false = false) → (w.val ≠ 0 → s.semMustWait w.val = false) → s.get (Reg.BRDG_SEM.OWNER.ix n) = w.val + 1 → v.toNat % 8 = 0 →
    ∃ t, exec (.semaphoreReleaseWrite w n v) s = .next t ∧ t.get (Reg.BRDG_SEM.OWNER.ix n) = 0 ∧ t.get Reg.BRDG_PWR.COUNT = (if w.val = 0 then min (s.get Reg.BRDG_PWR.COUNT + 1) 0xFFFFFFFF else s.get Reg.BRDG_PWR.COUNT) ∧ regsBut s t [Reg.BRDG_SEM.OWNER.ix n, Reg.BRDG_PWR.COUNT] ∧ t.events = s.events ∧ t.brdg = s.brdg ∧ memSame s t) ∧
  (∀ (w : Fin 5) (n : Fin 32) (v : Word) (s : State), s.active = true → s.stackId = 0 → (w.val = 0 → s.inD3 = false ∧ s.hostDim = false ∧ s.noEntry true false = false) → (w.val ≠ 0 → s.semMustWait w.val = false) → s.get (Reg.BRDG_SEM.OWNER.ix n) ≠ w.val + 1 →
    ∃ t, exec (.semaphoreReleaseWrite w n v) s = .next t ∧ t.flag Reg.BRDG_STAT.WIGN = true ∧ t.get Reg.BRDG_PWR.COUNT = (if w.val = 0 then min (s.get Reg.BRDG_PWR.COUNT + 1) 0xFFFFFFFF else s.get Reg.BRDG_PWR.COUNT) ∧ regsBut s t [Reg.BRDG_STAT.WIGN, Reg.BRDG_PWR.COUNT] ∧ t.events = s.events ∧ t.brdg = s.brdg ∧ memSame s t) ∧
  (∀ (v : Word) (b : Bool) (s : State), s.active = true → exec (.farLockRequest v) s = .next (s.hostLock v.toNat).drainWaiting.settle ∧ exec (.farLockGrant b) s = .next (s.lockAnswer b).settle
      ∧ exec .farLockRelease s = .next (s.writeLock (2 ^ 30 + s.get Reg.BRDG_LOCK.MEMBER)).drainWaiting.settle ∧ exec .farLockTimeout s = .next s.lockTimeout.drainWaiting.settle) ∧
  (∀ (s : State), s.active = true → s.get Reg.BRDG_LOCK.STATE = 1 → s.get Reg.BRDG_LOCK.MEMBER = s.stackId →
    exec (.farLockGrant true) s = .next ((({ s.put Reg.BRDG_LOCK.STATE 2 with brdg.lockAt := some s.now }.put Reg.BRDG_LOCK.LOCKRES 0).raise Reg.BRDG_IRQ.LOCK).setLocked true s.stackId).settle) ∧
  (∀ (b : Bool) (s : State), s.active = true → s.get Reg.BRDG_LOCK.STATE ≠ 1 → exec (.farLockGrant b) s = .next s.settle) ∧
  (∀ (w : Fin 5) (n : Fin 32) (v : Word) (s : State), s.active = true → s.stackId ≠ 0 → s.stackUp 0 = true → s.brdg.lockWait = false → (s.brdg.semReads.all fun x => x.2.2) = true → s.semOpen + b2n (s.get Reg.BRDG_LOCK.STATE = 1) < 32 →
    exec (.semaphoreRead w n) s = .next (({ s with brdg.semReads := s.brdg.semReads ++ [(n.val, none, true)] } : State).stackSend 8 1 0 0xFFFE (0xC0080 + 4 * n.val) 0 []).settle ∧ exec (.semaphoreReleaseWrite w n v) s = .next (({ s with brdg.semReads := s.brdg.semReads ++ [(n.val, some v.toNat, true)] } : State).stackSend 8 1 0 0xFFFE (0xC0080 + 4 * n.val) 0 (natBe 4 v.toNat)).settle) ∧
  (∀ (w : Fin 5) (n : Fin 32) (v : Word) (s : State), s.active = true → s.stackId ≠ 0 → s.stackUp 0 = false → exec (.semaphoreRead w n) s = .next s.settle ∧ exec (.semaphoreReleaseWrite w n v) s = .next s.settle) ∧
  (∀ (w : Fin 5) (n : Fin 32) (v : Word) (s : State), s.active = true → s.stackId = 0 → (w.val = 0 → s.inD3 = false ∧ s.hostDim = false ∧ s.noEntry true false = false) → (w.val ≠ 0 → s.semMustWait w.val = false) → s.get (Reg.BRDG_SEM.OWNER.ix n) = w.val + 1 → v.toNat % 8 ≠ 0 → exec (.semaphoreReleaseWrite w n v) s = .next (if w.val = 0 then s.bump Reg.BRDG_PWR.COUNT else s).settle) ∧
  (∀ (s : State), s.active = true → s.brdg.held = [] → s.brdg.waiting = [] → s.brdg.semWait = [] → (s.brdg.lockAt = none ∨ s.get Reg.BRDG_LOCK.STATE ≠ 2) → exec .farLockTimeout s = .next s.settle) ∧
  (∀ (s : State), s.active = true → s.brdg.held = [] → s.brdg.waiting = [] → s.brdg.semWait = [] → s.get Reg.BRDG_LOCK.STATE = 0 → exec .farLockRelease s = .next (State.settle { s with brdg.retryAt := none })) ∧
  (∀ (w : Fin 5) (n : Fin 32) (v : Word) (s : State), s.active = true → s.stackId = 0 → s.brdg.locked = true → w.val ≠ requester s.brdg.lockSrc → w.val ≠ 0 →
    exec (.semaphoreRead w n) s = .next (State.settle { s with brdg.semWait := s.brdg.semWait ++ [(w.val, n.val, none)] })
      ∧ exec (.semaphoreReleaseWrite w n v) s = .next (State.settle { s with brdg.semWait := s.brdg.semWait ++ [(w.val, n.val, some v.toNat)] })) ∧
  (∀ (w : Fin 5) (n : Fin 32) (v : Word) (s : State), s.active = true → s.stackId ≠ 0 → s.stackUp 0 = true → s.brdg.lockWait = false → 32 ≤ s.semOpen + b2n (s.get Reg.BRDG_LOCK.STATE = 1) →
    exec (.semaphoreRead w n) s = .next (State.settle { s with brdg.semReads := s.brdg.semReads ++ [(n.val, none, false)] }) ∧ exec (.semaphoreReleaseWrite w n v) s = .next (State.settle { s with brdg.semReads := s.brdg.semReads ++ [(n.val, some v.toNat, false)] })) ∧
  (∀ (k : Nat) (s : State), s.brdg.retryAt = some k → k ≤ s.now → s.get Reg.BRDG_LOCK.STATE = 0 → s.brdg.held = [] → s.brdg.behind = [] → s.brdg.reads.all (fun x : FarOp => x.sent) = true → s.brdg.writes.all (fun x : FarOp => x.sent) = true → s.bridgeRoom = s.writeLock (2 ^ 31 + s.get Reg.BRDG_LOCK.MEMBER) 1) ∧
  (∀ (n : Fin 32) (s : State), s.active = true → s.stackId = 0 → s.inD3 = true →
    ∃ t, exec (.semaphoreRead 0 n) s = .next t ∧ sent s t [.aer 1] ∧ t.get Reg.BRDG_NPREQ.COUNT = min (s.get Reg.BRDG_NPREQ.COUNT + 1) 0xFFFFFFFF ∧ t.get Reg.BRDG_UR.COUNT = min (s.get Reg.BRDG_UR.COUNT + 1) 0xFFFFFFFF ∧ t.flag Reg.BRDG_IRQ.RDERR = true ∧ t.brdg = { s.brdg with aer := s.brdg.aer ||| 2 ^ 20 } ∧ regsBut s t [Reg.BRDG_NPREQ.COUNT, Reg.BRDG_UR.COUNT, Reg.BRDG_IRQ.RDERR] ∧ memSame s t) ∧
  (∀ (n : Fin 32) (v : Word) (s : State), s.active = true → s.stackId = 0 → s.inD3 = true →
    ∃ t, exec (.semaphoreReleaseWrite 0 n v) s = .next t ∧ sent s t [] ∧ t.get Reg.BRDG_PWR.COUNT = min (s.get Reg.BRDG_PWR.COUNT + 1) 0xFFFFFFFF ∧ t.brdg = s.brdg ∧ t.events = s.events ∧ regsBut s t [Reg.BRDG_PWR.COUNT] ∧ memSame s t) ∧
  (∀ (n : Fin 32) (s : State), s.active = true → s.stackId = 0 → s.inD3 = false → s.hostDim = true → s.flag Reg.BRDG_CTRL.ERRMODE = false →
    ∃ t, exec (.semaphoreRead 0 n) s = .next t ∧ sent s t [.aer 2] ∧ t.get Reg.BRDG_NPREQ.COUNT = min (s.get Reg.BRDG_NPREQ.COUNT + 1) 0xFFFFFFFF ∧ t.get Reg.BRDG_CA.COUNT = min (s.get Reg.BRDG_CA.COUNT + 1) 0xFFFFFFFF ∧ t.flag Reg.BRDG_IRQ.RDERR = true ∧ t.brdg = { s.brdg with aer := s.brdg.aer ||| 2 ^ 15 } ∧ t.events = s.events ∧ regsBut s t [Reg.BRDG_NPREQ.COUNT, Reg.BRDG_CA.COUNT, Reg.BRDG_IRQ.RDERR] ∧ memSame s t) ∧
  (∀ (n : Fin 32) (v : Word) (s : State), s.active = true → s.stackId = 0 → s.inD3 = false → s.hostDim = true → s.flag Reg.BRDG_CTRL.ERRMODE = false →
    ∃ t, exec (.semaphoreReleaseWrite 0 n v) s = .next t ∧ sent s t [] ∧ t.get Reg.BRDG_PWR.COUNT = min (s.get Reg.BRDG_PWR.COUNT + 1) 0xFFFFFFFF ∧ t.brdg = s.brdg ∧ t.events = s.events ∧ regsBut s t [Reg.BRDG_PWR.COUNT] ∧ memSame s t) ∧
  (∀ (n : Fin 32) (v : Word) (s : State), s.active = true → s.stackId = 0 → s.inD3 = false → s.hostDim = false → s.brdg.locked = true → s.brdg.lockSrc ≠ 0 →
    exec (.semaphoreRead 0 n) s = .next (State.settle { s with brdg.held := s.brdg.held ++ [⟨false, 0, 0, 0xC0080 + 4 * n.val, 1, 15, 0, false, natBe 4 0, 1⟩] })
      ∧ exec (.semaphoreReleaseWrite 0 n v) s = .next (State.settle { s with brdg.held := s.brdg.held ++ [⟨true, 0, 0, 0xC0080 + 4 * n.val, 1, 15, 0, false, natBe 4 v.toNat, 1⟩] })
      ∧ exec (.farLockRequest v) s = .next (State.settle { s with brdg.held := s.brdg.held ++ [⟨true, 0, 0, 0xC0024, 1, 15, 0, false, natBe 4 v.toNat, 2⟩] })) ∧
  (∀ (m : Nat) (s : State), s.get Reg.BRDG_LOCK.STATE = 0 → s.stackId = 0 → (s.put Reg.BRDG_LOCK.MEMBER (m % 4)).lockReach (m % 4) = true → s.brdg.coreLock.any (fun x => x.2.2) = true →
    (s.writeLock (2 ^ 31 + m % 4) 1).brdg.retryAt = some (s.now + us 2) ∧ (s.writeLock (2 ^ 31 + m % 4) 1).get Reg.BRDG_LOCK.LOCKRES = 1)

/-- Packets on the stack link. A packet with a wrong CRC is counted and discarded and one on a port that is not ACTIVE is not received; one for another chip is passed on, and a write, read or semaphore access from a chip that does not hold the lock waits while this chip is locked, as does what may not pass a posted write that waits; a write is applied and confirmed to the master, and to a source below; a read is served with a completion; a completion ends the read with its tag, with its data or as failed; a frame too short for its tag is dropped and one without buffers refused; a write count confirms the writes up to its tag; a member takes its boundary and its mode from the master (log entries 26 and 28); a member grants what the master asks and an unlock frees it, and the master lets one lock stand in the stack, the lower member first among those not granted (R424, log entry 26); every form acts as the function of the model named here says. -/
def Obligations.StackPackets : Prop :=
  (∀ (o : Fin 2) (p : Bytes) (e : Bool) (s : State), s.active = true → s.stackUp o = true → spOk p = false → s.brdg.held = [] → s.brdg.waiting = [] → s.brdg.semWait = [] →
    ∃ t, exec (.stackWriteReceived o p e) s = .next t ∧ t.get Reg.BRDG_STKCRC.COUNT = min (s.get Reg.BRDG_STKCRC.COUNT + 1) 0xFFFFFFFF ∧ regsBut s t [Reg.BRDG_STKCRC.COUNT] ∧ sent s t [] ∧ t.brdg = s.brdg ∧ t.events = s.events ∧ memSame s t) ∧
  (∀ (o : Fin 2) (p b : Bytes) (u w s : State), s.active = true → s.stackUp o = true → spOk p = true → spKind p = 1 → spDst p = s.stackId → s.mustWait o.val p = false → s.stackId ≠ 0 → u = s.localWrite (spAddr p) (spPay p) (bits (spBe p) 7 4) (spBe p % 16) (requester (spSrc p)) → u.stackId = s.stackId →
    b = natBe 4 (u.brdg.applied + 1) ++ natBe 2 (spTag p) ++ natBe 1 (requester (spSrc p)) → w = State.stackMsg { u with brdg.applied := u.brdg.applied + 1 } 0 4 b →
    exec (.stackWriteReceived o p false) s = .next (if s.stackId < spSrc p then w.stackMsg (spSrc p) 4 b else w).drainWaiting.settle) ∧
  (∀ (o : Fin 2) (p : Bytes) (r : Bytes × State) (s : State), s.active = true → s.stackUp o = true → spOk p = true → spKind p = 2 → spDst p = s.stackId → s.mustWait o.val p = false → spLen p = 4 → r = s.localRead (spAddr p) 4 (requester (spSrc p)) →
    exec (.stackReadReceived o p false) s = .next (r.2.stackSend 3 2 (spSrc p) (spTag p) 0 0 r.1).settle) ∧
  (∀ (o : Fin 2) (p : Bytes) (e : Bool) (s : State), s.active = true → s.stackUp o = false →
    ∃ t, exec (.stackReadReceived o p e) s = .next t ∧ regsBut s t [] ∧ sent s t [] ∧ t.brdg = s.brdg ∧ t.events = s.events ∧ memSame s t) ∧
  (∀ (o : Fin 2) (p : Bytes) (r : FarOp) (s : State), s.active = true → s.stackUp o = true → spOk p = true → spKind p = 3 → spDst p = s.stackId → s.mustWait o.val p = false → spTag p < 0xFFF0 → s.brdg.held = [] → s.brdg.retryAt = none → s.brdg.reads.all (fun x : FarOp => x.sent) = true → s.brdg.writes.all (fun x : FarOp => x.sent) = true → spBe p = 0 → (s.brdg.reads.find? fun r => r.id = spTag p && r.member = spSrc p) = some r →
    ∃ t, exec (.stackCompletionReceived o p) s = .next t ∧ sent s t [.cpl r.tag 0 false (s.laned r.win (spPay p))] ∧ t.brdg = { s.brdg with reads := s.brdg.reads.filter (·.id ≠ r.id) } ∧ regsBut s t [] ∧ t.events = s.events ∧ memSame s t) ∧
  (∀ (o : Fin 2) (p : Bytes) (s : State), s.active = true → s.stackUp o = true → spOk p = true → spKind p = 4 → spDst p = s.stackId → s.mustWait o.val p = false → (spPay p).length < 16 →
    ∃ t, exec (.stackFrameReceived o p) s = .next t ∧ t.fab = s.fab ∧ t.brdg = s.brdg ∧ regsBut s t [] ∧ t.events = s.events ∧ memSame s t) ∧
  (∀ (o : Fin 2) (p : Bytes) (t : Bytes) (f : PFrame) (s : State), s.active = true → s.stackUp o = true → spOk p = true → spKind p = 4 → spDst p = s.stackId → s.mustWait o.val p = false → t = spPay p → 16 ≤ t.length → f = { fid := 0, ingress := 9 + o.val, cls := Cls.ofCode (byteAt t 2 / 64), bytes := (t.drop 16).take (fieldAt t 4 2), complete := true, stamp := none, claim := fieldAt t 10 4 } → s.enterPool f f.bytes.length = none →
    exec (.stackFrameReceived o p) s = .next (s.refuseBuf f.cls).settle) ∧
  (∀ (o : Fin 2) (p : Bytes) (t : Bytes) (m k : Nat) (f : PFrame) (u s : State), s.active = true → s.stackUp o = true → spOk p = true → spKind p = 4 → spDst p = s.stackId → s.mustWait o.val p = false → t = spPay p → 16 ≤ t.length → m = fieldAt t 0 2 → m = 16 → f = { fid := 0, ingress := 9 + o.val, cls := Cls.ofCode (byteAt t 2 / 64), bytes := (t.drop 16).take (fieldAt t 4 2), complete := true, stamp := none, claim := fieldAt t 10 4 } → s.enterPool f f.bytes.length = some (k, u) →
    exec (.stackFrameReceived o p) s = .next ((u.pushTx 0 { q := bits (byteAt t 3) 6 4, fid := k, bytes := withFcs f.bytes }).gc k).settle) ∧
  (∀ (o : Fin 2) (p b : Bytes) (s : State), s.active = true → s.stackUp o = true → spOk p = true → spKind p = 5 → spDst p = s.stackId → s.mustWait o.val p = false → byteAt (spPay p) 0 = 4 → s.brdg.held = [] → s.brdg.waiting = [] → s.brdg.semWait = [] → s.brdg.held = [] → s.brdg.retryAt = none → s.brdg.reads.all (fun x : FarOp => x.sent) = true → s.brdg.writes.all (fun x : FarOp => x.sent) = true → b = (spPay p).drop 2 →
    ∃ t, exec (.stackMsgReceived o p) s = .next t ∧ t.brdg = { s.brdg with writes := State.confirmUpTo (spSrc p) (byteAt b 6) (fieldAt b 4 2) s.brdg.writes, counts := s.brdg.counts.filter (·.1 ≠ spSrc p) ++ [(spSrc p, fieldAt b 0 4)] } ∧ regsBut s t [] ∧ sent s t [] ∧ t.events = s.events ∧ memSame s t) ∧
  (∀ (o : Fin 2) (p b : Bytes) (k : Nat) (u s : State), s.active = true → s.stackUp o = true → spOk p = true → spKind p = 5 → spDst p = s.stackId → s.mustWait o.val p = false → s.stackId ≠ 0 → byteAt (spPay p) 0 = 3 → b = (spPay p).drop 2 →
    k = fieldAt b 20 4 + s.stackId * (Config.stackHop.toNat % 6401) →
    u = { s with cycRun := true, cyc := fieldAt b 0 4, bnd := s.now - k, time := { s.time with map := if bit (byteAt b 15) 5 then some (fieldAt b 0 4, ofSecNs (fieldAt b 4 6) (fieldAt b 10 4)) else none }, brdg := { s.brdg with mode := byteAt b 14, onTrain := bit (byteAt b 15) 7, loop := bit (byteAt b 15) 6 } } →
    exec (.stackMsgReceived o p) s = .next ((((u.put Reg.TWIN_CLAIM.VALUE (fieldAt b 16 4)).refreshRole).applyTables.engineBoundary false false).memberPublish).drainWaiting.bridgeRoom.settle) ∧
  (∀ (o : Fin 2) (p : Bytes) (w s : State), s.active = true → s.stackUp o = true → spOk p = true → spKind p = 6 → spDst p = s.stackId → s.stackId ≠ 0 → w = { s.put Reg.CMD_STAT.LOCKWAIT 1 with brdg := { s.brdg with locked := true, lockSrc := byteAt (spPay p) 0, lockAt := some (s.brdg.lockAt.getD s.now) } } →
    exec (.stackLockReceived o p) s = .next (w.stackSend 3 2 (spSrc p) (spTag p) 0 0 []).settle) ∧
  (∀ (o : Fin 2) (p : Bytes) (s : State), s.active = true → s.stackUp o = true → spOk p = true → spKind p = 6 → spDst p = s.stackId → s.stackId = 0 → s.get Reg.BRDG_LOCK.STATE ≠ 0 →
    exec (.stackLockReceived o p) s = .next (s.stackSend 3 2 (spSrc p) 0xFFFF 0 2 [1]).drainWaiting.settle) ∧
  (∀ (o : Fin 2) (p : Bytes) (k : Nat) (s : State), s.active = true → s.stackUp o = true → spOk p = true → spKind p = 6 → spDst p = s.stackId → s.stackId = 0 → s.get Reg.BRDG_LOCK.STATE = 0 → s.brdg.coreLock = none → k = byteAt (spPay p) 0 % 4 → s.members.contains k = true →
    exec (.stackLockReceived o p) s = .next (State.stackSend { s with brdg.coreLock := some (spSrc p, k, false) } 6 1 k (0xFFF0 + spSrc p) 0 0 [BitVec.ofNat 8 (spSrc p)]).drainWaiting.settle) ∧
  (∀ (o : Fin 2) (p : Bytes) (h k : Nat) (s : State), s.active = true → s.stackUp o = true → spOk p = true → spKind p = 3 → spDst p = s.stackId → s.mustWait o.val p = false → 1 ≤ h → h ≤ 3 → spTag p = 0xFFF0 + h → s.brdg.coreLock = some (h, k, false) → spBe p = 0 →
    exec (.stackCompletionReceived o p) s = .next (State.stackSend { s with brdg.coreLock := some (h, k, true) } 3 2 h 0xFFFF 0 0 []).bridgeRoom.settle) ∧
  (∀ (h k m n : Nat) (s : State), s.get Reg.BRDG_LOCK.STATE = 0 → (m = 0 ∨ s.members.contains m = true) → (s.brdg.coreLock = some (k, n, true) ∨ (s.brdg.coreLock = some (k, n, false) ∧ k ≤ h) → s.takeCore h m = s.stackSend 3 2 h 0xFFFF 0 2 [1])
      ∧ (s.brdg.coreLock = some (k, n, false) → h < k → m ≠ 0 → s.takeCore h m = State.stackSend { s.dropCore (some 1) with brdg.coreLock := some (h, m, false) } 6 1 m (0xFFF0 + h) 0 0 [BitVec.ofNat 8 h])) ∧
  (∀ (o : Fin 2) (p : Bytes) (e : Bool) (s : State), s.active = true → exec (.stackWriteReceived o p e) s = .next (s.takeStack o.val p [1] (fun s p => s.stackWrite e p) e).drainWaiting.settle ∧ exec (.stackReadReceived o p e) s = .next (s.takeStack o.val p [2] (fun s p => s.stackRead e p) e).settle
      ∧ exec (.stackCompletionReceived o p) s = .next (s.takeStack o.val p [3] State.stackCpl).bridgeRoom.settle ∧ exec (.stackFrameReceived o p) s = .next (s.takeStack o.val p [4] fun s p => s.stackFrame o.val p).settle
      ∧ exec (.stackMsgReceived o p) s = .next (s.takeStack o.val p [5] State.stackMsgIn).drainWaiting.bridgeRoom.settle ∧ exec (.stackLockReceived o p) s = .next (s.takeStack o.val p [6, 7, 8] State.stackLock).drainWaiting.settle) ∧
  (∀ (o : Fin 2) (p : Bytes) (ks : List Nat) (f : State → Bytes → State) (e : Bool) (s : State), s.stackUp o = true → spOk p = true → ks.contains (spKind p) = true → spDst p ≠ s.stackId → s.takeStack o.val p ks f e = s.forwardStack o.val p) ∧
  (∀ (o : Fin 2) (p : Bytes) (ks : List Nat) (f : State → Bytes → State) (e : Bool) (s : State), s.stackUp o = true → spOk p = true → ks.contains (spKind p) = true → spDst p = s.stackId → (s.brdg.locked = true ∧ spSrc p ≠ s.brdg.lockSrc ∧ (spKind p = 1 ∨ spKind p = 2 ∨ spKind p = 8) ∨ (spKind p ≤ 5 ∧ ∃ x ∈ s.brdg.waiting, x.1 = o.val ∧ spSrc x.2.2 = spSrc p ∧ spKind x.2.2 = 1)) →
    s.takeStack o.val p ks f e = { s with brdg.waiting := s.brdg.waiting ++ [(o.val, e, p)] }) ∧
  (∀ (o : Fin 2) (p : Bytes) (s : State), s.active = true → s.stackUp o = true → spOk p = true → spKind p = 7 → spDst p = s.stackId → s.stackId ≠ 0 → s.brdg.locked = true → exec (.stackLockReceived o p) s = .next ((s.setLocked false).drainWaiting).settle) ∧
  (∀ (o : Fin 2) (p : Bytes) (r : FarOp) (s : State), s.active = true → s.stackUp o = true → spOk p = true → spKind p = 3 → spDst p = s.stackId → s.mustWait o.val p = false → spTag p < 0xFFF0 → spBe p = 2 → (s.brdg.reads.find? fun r => r.id = spTag p && r.member = spSrc p) = some r →
    exec (.stackCompletionReceived o p) s = .next (({ s with brdg.reads := s.brdg.reads.filter (·.id ≠ r.id) } : State).failRead 2 r.tag r.len).bridgeRoom.settle)

/-- Stack ports and stack resets. A port beside the wrong stack ID does not enter ACTIVE and sets IDERR, the first time in a power session recorded with 0x0C12, and one beside the right one does; the up port that leaves ACTIVE is counted and starts the 100 ms after which a member resets itself; where the down port of the master leaves ACTIVE every member is lost; the master’s stack reset is sent and recorded; a port that is not ACTIVE, the timer at the master and a reset written at a member do nothing; every form acts as the function of the model named here says. The MSG of a stack reset is the model’s choice and so is a port that comes up in one command (log entry 26). -/
def Obligations.StackPorts : Prop :=
  (∀ (q : Fin 4) (s : State), s.active = true → s.get Reg.BRDG_SPUP.STATE ≠ 0 → s.stackUp 0 = false → s.stackId ≠ q.val + 1 → s.brdg.idSeen = true → bridgeIdle s = true → s.brdg.semReads = [] → s.brdg.lockWait = false →
    ∃ t, exec (.stackPortDown 0 true q) s = .next t ∧ t.get Reg.BRDG_SPUP.STATE = 1 ∧ t.get Reg.BRDG_SPUP.PEERID = q.val ∧ t.get Reg.BRDG_STAT.IDERR = 1 ∧ t.brdg = s.brdg ∧ t.events = s.events ∧ regsBut s t [Reg.BRDG_SPUP.STATE, Reg.BRDG_SPUP.PEERID, Reg.BRDG_STAT.IDERR] ∧ memSame s t) ∧
  (∀ (q : Fin 4) (s : State), s.active = true → s.stackUp 0 = true → s.brdg.fwd = [] → bridgeIdle s = true → s.brdg.locked = false → s.get Reg.BRDG_LOCK.STATE = 0 → s.brdg.semReads = [] → s.brdg.lockWait = false → s.brdg.fences = [] → s.members = [] →
    ∃ t, exec (.stackPortDown 0 false q) s = .next t ∧ t.get Reg.BRDG_SPUP.STATE = 1 ∧ t.get Reg.BRDG_STKRETR.COUNT = min (s.get Reg.BRDG_STKRETR.COUNT + 1) 0xFFFFFFFF ∧ t.brdg = { s.brdg with upSince := some s.now } ∧ t.events = s.events ∧ regsBut s t [Reg.BRDG_SPUP.STATE, Reg.BRDG_STKRETR.COUNT] ∧ memSame s t) ∧
  (∀ (a : Nat) (s : State), s.active = true → s.brdg.upSince = some a → s.stackId ≠ 0 → s.pwr.hold = none →
    ∃ t, exec .stackUplinkTimeout s = .next t ∧ t.now = max s.now (a + ms 100) ∧ t.pwr.hold = some (4, t.now + ms 2) ∧ newest t = some 0x0001 ∧ regsBut s t [] ∧ memSame s t) ∧
  (∀ (v : Word) (s : State), s.active = true → s.stackId = 0 → s.stackUp 1 = true → bit v.toNat 9 = true → bit v.toNat 10 = false → bit v.toNat 11 = false →
    ∃ t, exec (.stackResetWrite v) s = .next t ∧ sent s t [.stack 1 (stackPacket 5 0 1 0 0 0 0 [7, 0])] ∧ newest t = some 0x0C14 ∧ regsBut s t [] ∧ t.brdg = s.brdg ∧ memSame s t) ∧
  (∀ (o : Fin 2) (b : Bool) (q : Fin 4) (v : Word) (s : State), s.active = true → exec (.stackPortDown o b q) s = .next (if b then s.stackTrained o.val q.val else s.portDown o.val).drainWaiting.bridgeRoom.settle ∧ exec (.stackResetWrite v) s = .next (s.writeStack v.toNat).settle) ∧
  (∀ (q : Fin 4) (u s : State), s.active = true → s.get Reg.BRDG_SPUP.STATE ≠ 0 → s.stackUp 0 = false → s.stackId = q.val + 1 → u = (s.put Reg.BRDG_SPUP.PEERID q.val).put Reg.BRDG_SPUP.STATE 6 →
    exec (.stackPortDown 0 true q) s = .next (({ u with brdg.upSince := none } : State).reportBelow).drainWaiting.bridgeRoom.settle) ∧
  (∀ (v : Word) (s : State), s.active = true → (s.brdg.upSince = none → exec .stackUplinkTimeout s = .next s.settle) ∧ (s.stackId = 0 → exec .stackUplinkTimeout s = .next s.settle) ∧ (s.stackId ≠ 0 → exec (.stackResetWrite v) s = .next s.settle)) ∧
  (∀ (o : Fin 2) (q : Fin 4) (s : State), s.active = true → s.stackUp o = false → exec (.stackPortDown o false q) s = .next s.drainWaiting.bridgeRoom.settle) ∧
  (∀ (q : Fin 4) (u s : State), s.active = true → s.stackUp 1 = true → s.stackId = 0 → s.brdg.waiting = [] → u = (s.put Reg.BRDG_SPDN.STATE 1).bump Reg.BRDG_STKRETR.COUNT → s.brdg.fwd = [] →
    exec (.stackPortDown 1 false q) s = .next (u.setBelow 0).drainWaiting.bridgeRoom.settle) ∧
  (∀ (q : Fin 4) (s : State), s.active = true → s.get Reg.BRDG_SPUP.STATE ≠ 0 → s.stackUp 0 = false → s.stackId ≠ q.val + 1 → s.brdg.idSeen = false → bridgeIdle s = true → s.brdg.semReads = [] → s.brdg.lockWait = false →
    ∃ t, exec (.stackPortDown 0 true q) s = .next t ∧ t.get Reg.BRDG_SPUP.STATE = 1 ∧ t.get Reg.BRDG_SPUP.PEERID = q.val ∧ t.get Reg.BRDG_STAT.IDERR = 1 ∧ t.brdg = { s.brdg with idSeen := true } ∧ newest t = some 0x0C12 ∧ t.events.dropLast = s.events ∧ regsBut s t [Reg.BRDG_SPUP.STATE, Reg.BRDG_SPUP.PEERID, Reg.BRDG_STAT.IDERR] ∧ memSame s t)

/-- Frames from remote nodes. A command or completion frame that this node does not consume changes nothing but what follows; one that fails its checks, or that its window of R239 has seen, is counted by its cause, and 0x0D10 with the cause and the source position is recorded once per source and second (R448), and a time notice so refused is counted with TIME_NOTREJ too; a command that passes takes the lowest free slot, is kept as a notice, or finds every slot taken and is answered BUSY where it asks for an answer; a completion that no open RSEND awaits is counted as late and one that is awaited completes it with its packet, by way of the stack where a member’s RSEND awaits it (log entry 26). CMD_AUTH is read by the majority of its copies (R458). -/
def Obligations.RemoteFrames : Prop :=
  (∀ (l : Lane) (f : Bytes) (k : Nat) (r s : State), s.awake = true → s.remoteFrameOk l f 0x04 = true → r = s.readVoted 0xD000C → k = r.remoteCause f → k ≠ 0 → exec (.cmdFrameReceived l f) s = .next (if pkOp (wrPacket (payload f)) = 0x51 then (r.refuseRemote k (hSrc f)).rejectTimeNot else r.refuseRemote k (hSrc f)).settle) ∧
  (∀ (c : Fin 6) (n : Nat) (r : Fld) (s : State), c.val ≠ 0 → r = (if c.val = 1 then Reg.CMD_REJFMT.COUNT else if c.val = 2 then Reg.CMD_REJGEN.COUNT else if c.val = 3 then Reg.CMD_REJSTALE.COUNT else if c.val = 4 then Reg.CMD_REJMAC.COUNT else Reg.CMD_REJREPLAY.COUNT) →
    (s.refuseRemote c.val n).get r = min (s.get r + 1) 0xFFFFFFFF ∧ (s.refuseRemote c.val n).flag Reg.CMD_IRQ.RREJ = true ∧ (s.refuseRemote c.val n).cmd = s.cmd ∧ regsBut s (s.refuseRemote c.val n) [r, Reg.CMD_IRQ.RREJ]) ∧
  (∀ (l : Lane) (f p : Bytes) (n : Nat) (u r s : State), s.awake = true → s.remoteFrameOk l f 0x04 = true → r = s.readVoted 0xD000C → r.remoteCause f = 0 → r.replayNew (wrOrigin (payload f)) (hSeq f) = some u → p = wrPacket (payload f) → isNotice (pkOp p) = false → u.cmd.shut = false → u.slotsTaken + u.cmdFetches < 64 → u.freeSlot = some n →
    exec (.cmdFrameReceived l f) s = .next (((u.bump Reg.CMD_RACCEPT.COUNT).accept n (.remote (hSrc f) (hAckReq f)) p).screen n).settle) ∧
  (∀ (l : Lane) (f : Bytes) (u r s : State), s.awake = true → s.remoteFrameOk l f 0x04 = true → r = s.readVoted 0xD000C → r.remoteCause f = 0 → r.replayNew (wrOrigin (payload f)) (hSeq f) = some u → isNotice (pkOp (wrPacket (payload f))) = true →
    exec (.cmdFrameReceived l f) s = .next ({ u with cmd.notices := u.cmd.notices ++ [f] } : State).settle) ∧
  (∀ (l : Lane) (f : Bytes) (u r s : State), s.awake = true → s.remoteFrameOk l f 0x05 = true → r = s.readVoted 0xD000C → r.remoteCause f = 0 → r.replayNew (wrOrigin (payload f)) (hSeq f) = some u → u.openRsend (hSrc f) (fieldAt (wrPacket (payload f)) 2 2) = none → u.memberRsend (hSrc f) (fieldAt (wrPacket (payload f)) 2 2) = none →
    exec (.cplFrameReceived l f) s = .next (u.bump Reg.CMD_CPLLATE.COUNT).settle) ∧
  (∀ (l : Lane) (f : Bytes) (n : Nat) (u r s : State), s.awake = true → s.remoteFrameOk l f 0x05 = true → r = s.readVoted 0xD000C → r.remoteCause f = 0 → r.replayNew (wrOrigin (payload f)) (hSeq f) = some u → u.openRsend (hSrc f) (fieldAt (wrPacket (payload f)) 2 2) = some n →
    exec (.cplFrameReceived l f) s = .next (u.complete n 0 0 (wrPacket (payload f))).settle) ∧
  (∀ (s : State), s.rejectTimeNot.get Reg.TIME_NOTREJ.COUNT = min (s.get Reg.TIME_NOTREJ.COUNT + 1) 0xFFFFFFFF ∧ s.rejectTimeNot.flag Reg.TIME_IRQ.NOTREJ = true ∧ s.rejectTimeNot.cmd = s.cmd ∧ regsBut s s.rejectTimeNot [Reg.TIME_NOTREJ.COUNT, Reg.TIME_IRQ.NOTREJ]) ∧
  (∀ (l : Lane) (f : Bytes) (r s : State), s.awake = true → s.remoteFrameOk l f 0x04 = false → exec (.cmdFrameReceived l f) s = .next s.settle) ∧
  (∀ (l : Lane) (f : Bytes) (r s : State), s.awake = true → s.remoteFrameOk l f 0x05 = false → exec (.cplFrameReceived l f) s = .next s.settle) ∧
  (∀ (l : Lane) (f : Bytes) (r s : State), s.awake = true → s.remoteFrameOk l f 0x04 = true → r = s.readVoted 0xD000C → r.remoteCause f = 0 → r.replayNew (wrOrigin (payload f)) (hSeq f) = none → exec (.cmdFrameReceived l f) s = .next (if pkOp (wrPacket (payload f)) = 0x51 then (r.refuseRemote 5 (hSrc f)).rejectTimeNot else r.refuseRemote 5 (hSrc f)).settle) ∧
  (∀ (l : Lane) (f : Bytes) (k : Nat) (r s : State), s.awake = true → s.remoteFrameOk l f 0x05 = true → r = s.readVoted 0xD000C → k = r.remoteCause f → k ≠ 0 → exec (.cplFrameReceived l f) s = .next (r.refuseRemote k (hSrc f)).settle) ∧
  (∀ (l : Lane) (f : Bytes) (r s : State), s.awake = true → s.remoteFrameOk l f 0x05 = true → r = s.readVoted 0xD000C → r.remoteCause f = 0 → r.replayNew (wrOrigin (payload f)) (hSeq f) = none → exec (.cplFrameReceived l f) s = .next (r.refuseRemote 5 (hSrc f)).settle) ∧
  (∀ (l : Lane) (f p : Bytes) (u r s : State), s.awake = true → s.remoteFrameOk l f 0x04 = true → r = s.readVoted 0xD000C → r.remoteCause f = 0 → r.replayNew (wrOrigin (payload f)) (hSeq f) = some u → p = wrPacket (payload f) → isNotice (pkOp p) = false → (u.cmd.shut = true ∨ 64 ≤ u.slotsTaken + u.cmdFetches) →
    exec (.cmdFrameReceived l f) s = .next (if hAckReq f then (u.bump Reg.CMD_RBUSY.COUNT).sendRemote 0x05 (hSrc f) false (cplPacket p 8 0 []) else u.bump Reg.CMD_RBUSY.COUNT).settle) ∧
  (∀ (l : Lane) (f : Bytes) (m : Nat) (u r s : State), s.awake = true → s.remoteFrameOk l f 0x05 = true → r = s.readVoted 0xD000C → r.remoteCause f = 0 → r.replayNew (wrOrigin (payload f)) (hSeq f) = some u → u.openRsend (hSrc f) (fieldAt (wrPacket (payload f)) 2 2) = none → u.memberRsend (hSrc f) (fieldAt (wrPacket (payload f)) 2 2) = some m →
    exec (.cplFrameReceived l f) s = .next (u.stackMsg m 12 (natBe 2 (hSrc f) ++ wrPacket (payload f))).settle) ∧
  (∀ (c n : Nat) (s : State), s.onceSec.contains (0x0D10, n, s.opSec) = false → newest (s.refuseRemote c n) = some 0x0D10 ∧ (s.refuseRemote c n).events.getLast?.map (·.params) = some (natBe 1 c ++ natBe 2 n) ∧ (s.refuseRemote c n).events.dropLast = s.events ∧ (s.refuseRemote c n).onceSec.contains (0x0D10, n, s.opSec) = true) ∧
  (∀ (c n : Nat) (s : State), s.onceSec.contains (0x0D10, n, s.opSec) = true → (s.refuseRemote c n).events = s.events ∧ (s.refuseRemote c n).onceSec = s.onceSec)

/-- Snapshots and Midnights. A write of NOW and an edge of SNAPIN that SNAPEDGE selects trigger a snapshot, another edge does not; a capture fills the next bank, shows it as the newest and counts, without a free bank it is counted as lost, and a trigger within the capture of another joins its snapshot; a selection of an empty bank is not VALID, one of a filled bank shows its word; a Midnight request without a train time or roster is refused with 1, one too early with 2, one too far with 3, a fifth with 4; an accepted one is numbered, sent and pending; a received one is relayed once per requester and MIDNO and armed, one missed is counted, one that finds the table full is refused; the pending one that comes first fires with a snapshot. -/
def Obligations.SnapshotsAndMidnights : Prop :=
  (∀ (v : Word) (u w x s : State), s.awake = true → u = s.storeWord Reg.HKP_CTRL.EN.addr v.toNat → w = (if bit v.toNat 1 then u.snapshot 1 none else u) → x = (if bit v.toNat 2 then w.calAll else w) → exec (.snapshotNow v) s = .next (if bit v.toNat 3 then x.requestAct .mpat else x).settle) ∧
  (∀ (k : Nat) (m : Option Midnight) (s : State), s.poolSumOk = true → (s.snapBank s.newestBank = none ∨ s.sameCapture = false) → s.snapshot k m = s.capture (s.snapHeader k m)) ∧
  (∀ (b : Fin 2) (h : Bytes) (s : State), s.nextBank = some b.val →
    (s.capture h).snapBank b = some ⟨h, snapAddrs.filterMap fun a => if s.snapWord a = 0 then none else some (a, s.snapWord a)⟩ ∧ (s.capture h).snapBank (1 - b.val) = s.snapBank (1 - b.val) ∧ (s.capture h).get Reg.HKP_SSTAT.NEWEST = b.val ∧ (s.capture h).flag (if b.val = 0 then Reg.HKP_SSTAT.FULL0 else Reg.HKP_SSTAT.FULL1) = true ∧ (s.capture h).get Reg.HKP_SNAPS.COUNT = min (s.get Reg.HKP_SNAPS.COUNT + 1) 0xFFFFFFFF ∧ (s.capture h).flag Reg.HKP_IRQ.SNAP = true ∧ (s.capture h).events = s.events ∧ regsBut s (s.capture h) [Reg.HKP_SSTAT.NEWEST, (if b.val = 0 then Reg.HKP_SSTAT.FULL0 else Reg.HKP_SSTAT.FULL1), Reg.HKP_SSTAT.VALID, Reg.HKP_SNAPS.COUNT, Reg.HKP_IRQ.SNAP]) ∧
  (∀ (h : Bytes) (s : State), s.nextBank = none → (s.capture h).get Reg.HKP_SNAPLOST.COUNT = min (s.get Reg.HKP_SNAPLOST.COUNT + 1) 0xFFFFFFFF ∧ (s.capture h).flag Reg.HKP_IRQ.SNAPLOST = true ∧ newest (s.capture h) = some 0x0E02 ∧ regsBut s (s.capture h) [Reg.HKP_SNAPLOST.COUNT, Reg.HKP_IRQ.SNAPLOST] ∧ (s.capture h).hkp = s.hkp) ∧
  (∀ (r : Bool) (s : State), s.awake = true → (s.get Reg.HKP_CTRL.SNAPEDGE = 3 ∨ (s.get Reg.HKP_CTRL.SNAPEDGE = 1 ∧ r = true) ∨ (s.get Reg.HKP_CTRL.SNAPEDGE = 2 ∧ r = false)) → exec (.snapinEdge r) s = .next (s.snapshot 2 none).settle) ∧
  (∀ (r : Bool) (s : State), s.awake = true → (s.get Reg.HKP_CTRL.SNAPEDGE = 0 ∨ (s.get Reg.HKP_CTRL.SNAPEDGE = 1 ∧ r = false) ∨ (s.get Reg.HKP_CTRL.SNAPEDGE = 2 ∧ r = true)) → exec (.snapinEdge r) s = .next s.settle) ∧
  (∀ (v : Word) (u s : State), s.awake = true → u = s.storeWord Reg.HKP_SSEL.BANK.addr v.toNat → u.snapBank (u.get Reg.HKP_SSEL.BANK) = none → ∃ t, exec (.hkpSselWrite v) s = .next t ∧ t.get Reg.HKP_SD.DATA = 0 ∧ t.get Reg.HKP_SSTAT.VALID = 0 ∧ t.get Reg.HKP_SSEL.OFFSET = u.get Reg.HKP_SSEL.OFFSET / 4 * 4 % 2 ^ Reg.HKP_SSEL.OFFSET.width ∧ t.events = s.events ∧ regsBut u t [Reg.HKP_SD.DATA, Reg.HKP_SSTAT.VALID, Reg.HKP_SSEL.OFFSET] ∧ memSame s t) ∧
  (∀ (v : Word) (x : Snap) (o d : Nat) (u s : State), s.awake = true → u = s.storeWord Reg.HKP_SSEL.BANK.addr v.toNat → u.snapBank (u.get Reg.HKP_SSEL.BANK) = some x → o = u.get Reg.HKP_SSEL.OFFSET / 4 * 4 % 2 ^ Reg.HKP_SSEL.OFFSET.width → d = (if u.get Reg.HKP_SSEL.BLOCK = 15 then fieldAt (x.header ++ List.replicate 4 0) o 4 else (lookupKey (if u.get Reg.HKP_SSEL.BLOCK = 1 then 0x10000 + 0x400 * u.get Reg.HKP_SSEL.UNIT + o else if u.get Reg.HKP_SSEL.BLOCK = 7 then 0x70000 + 0x4000 * u.get Reg.HKP_SSEL.UNIT + o else 0x10000 * u.get Reg.HKP_SSEL.BLOCK + o) x.words).getD 0) → ∃ t, exec (.hkpSselWrite v) s = .next t ∧ t.get Reg.HKP_SD.DATA = d % 2 ^ 32 ∧ t.get Reg.HKP_SSTAT.VALID = 1 ∧ t.events = s.events ∧ regsBut u t [Reg.HKP_SD.DATA, Reg.HKP_SSTAT.VALID, Reg.HKP_SSEL.OFFSET] ∧ memSame s t) ∧
  (∀ (v : Word) (u s : State), s.awake = true → bit v.toNat 31 = true → u = s.storeWord Reg.HKP_MIDNS.NS.addr v.toNat → (u.mapAt u.now = none ∨ u.inau.force = none) → ∃ t, exec (.midnightRequest v) s = .next t ∧ t.get Reg.HKP_MIDSTAT.RES = 1 ∧ t.events = s.events ∧ regsBut u t [Reg.HKP_MIDSTAT.RES] ∧ memSame s t) ∧
  (∀ (v : Word) (m t0 : Int) (u s : State), s.awake = true → bit v.toNat 31 = true → u = s.storeWord Reg.HKP_MIDNS.NS.addr v.toNat → u.mapAt u.now = some m → u.inau.force.isSome = true → t0 = ofSecNs (u.get Reg.HKP_MIDSECHI.SECHI * 2 ^ 32 + u.get Reg.HKP_MIDSECLO.SECLO) (u.get Reg.HKP_MIDNS.NS) → wrapT (t0 - m) < 4 * u.tLen → ∃ t, exec (.midnightRequest v) s = .next t ∧ t.get Reg.HKP_MIDSTAT.RES = 2 ∧ t.events = s.events ∧ regsBut u t [Reg.HKP_MIDSTAT.RES] ∧ memSame s t) ∧
  (∀ (v : Word) (m t0 : Int) (n : Nat) (d : Midnight) (u w s : State), s.awake = true → bit v.toNat 31 = true → u = s.storeWord Reg.HKP_MIDNS.NS.addr v.toNat → u.mapAt u.now = some m → u.inau.force.isSome = true → t0 = ofSecNs (u.get Reg.HKP_MIDSECHI.SECHI * 2 ^ 32 + u.get Reg.HKP_MIDSECLO.SECLO) (u.get Reg.HKP_MIDNS.NS) → 4 * u.tLen ≤ wrapT (t0 - m) → wrapT (t0 - m) ≤ 16 * 2 ^ 39 → u.hkp.mids.length < 4 → n = (if u.get Reg.HKP_MIDSTAT.MIDNO = 0xFFFF then 1 else u.get Reg.HKP_MIDSTAT.MIDNO + 1) → d = ⟨n, u.uid, t0⟩ → w = { (u.put Reg.HKP_MIDSTAT.RES 0).put Reg.HKP_MIDSTAT.MIDNO n with hkp := { u.hkp with mids := u.hkp.mids ++ [d], seen := (u.uid, n) :: u.hkp.seen } } →
    exec (.midnightRequest v) s = .next ((w.refreshMids.sendMidn d [0, 1]).record 0x0E05 (natBe 2 n ++ timeValue t0 0 (if u.cycRun then u.cyc else 0))).settle) ∧
  (∀ (l : Lane) (f p : Bytes) (m : Midnight) (u s : State), s.awake = true → s.laneUp l = true → headerCheck f = .ok → hCls f = .mgmt → hType f = 0x19 → hLen f = 32 → p = payload f → byteAt p 0 = 1 → (s.vend (endOf l)).isolated = false → s.breakEnd ≠ some (endOf l) → s.midnGen f = true → m = ⟨fieldAt p 2 2, fieldAt p 4 8, ofSecNs (fieldAt p 12 6) (fieldAt p 18 4)⟩ → s.hkp.seen.contains (m.uid, m.no) = false → u = { s with hkp.seen := (m.uid, m.no) :: s.hkp.seen } →
    exec (.midnFrameReceived l f) s = .next ((u.sendMidn m [oppEnd (endOf l)]).armMidnight m).settle) ∧
  (∀ (m : Midnight) (s : State), (s.mapAt s.now = none ∨ (s.mapAt s.now).any (fun t => decide (0 < wrapT (m.target - t))) = true) → s.hkp.mids.length < 4 → s.armMidnight m = ({ s with hkp.mids := s.hkp.mids ++ [m] } : State).refreshMids) ∧
  (∀ (m : Midnight) (s : State), (s.mapAt s.now = none ∨ (s.mapAt s.now).any (fun t => decide (0 < wrapT (m.target - t))) = true) → 4 ≤ s.hkp.mids.length → (s.armMidnight m).hkp = s.hkp ∧ newest (s.armMidnight m) = some 0x0E04 ∧ (s.armMidnight m).flag Reg.HKP_IRQ.MIDLATE = true ∧ (s.armMidnight m).get Reg.HKP_MIDREF.COUNT = min (s.get Reg.HKP_MIDREF.COUNT + 1) 0xFFFFFFFF ∧ regsBut s (s.armMidnight m) [Reg.HKP_IRQ.MIDLATE, Reg.HKP_MIDREF.COUNT]) ∧
  (∀ (m : Midnight) (x d : Int) (u s : State), s.awake = true → s.mapAt s.now = some x → s.hkp.mids.contains m = true → d = wrapT (m.target - x) → (∀ k ∈ s.hkp.mids, d ≤ wrapT (k.target - x)) → u = { s.reach ((s.now : Int) + d).toNat with hkp.mids := s.hkp.mids.filter fun k => max 0 d < wrapT (k.target - x) } →
    exec .midnightFire s = .next (u.snapshot 4 (s.hkp.mids.filter fun k => wrapT (k.target - x) ≤ max 0 d).head?).refreshMids.settle) ∧
  (∀ (s : State), s.awake = true → (s.mapAt s.now = none ∨ s.hkp.mids = []) → exec .midnightFire s = .next s.settle) ∧
  (∀ (k : Nat) (m : Option Midnight) (x : Snap) (h : Bytes) (s : State), s.poolSumOk = true → s.snapBank s.newestBank = some x → s.sameCapture = true → h = s.snapHeader k m →
    s.snapshot k m = s.setBank s.newestBank { x with header := x.header.take 4 ++ natBe 4 (fieldAt x.header 4 4 ||| fieldAt h 4 4) ++ (x.header.drop 8).take 16 ++ (if fieldAt x.header 24 4 = 0 then h.drop 24 else x.header.drop 24) }) ∧
  (∀ (v : Word) (u s : State), s.awake = true → bit v.toNat 31 = false → u = s.storeWord Reg.HKP_MIDNS.NS.addr v.toNat → exec (.midnightRequest v) s = .next u.settle) ∧
  (∀ (v : Word) (m t0 : Int) (u s : State), s.awake = true → bit v.toNat 31 = true → u = s.storeWord Reg.HKP_MIDNS.NS.addr v.toNat → u.mapAt u.now = some m → u.inau.force.isSome = true → t0 = ofSecNs (u.get Reg.HKP_MIDSECHI.SECHI * 2 ^ 32 + u.get Reg.HKP_MIDSECLO.SECLO) (u.get Reg.HKP_MIDNS.NS) → 4 * u.tLen ≤ wrapT (t0 - m) → 16 * 2 ^ 39 < wrapT (t0 - m) → ∃ t, exec (.midnightRequest v) s = .next t ∧ t.get Reg.HKP_MIDSTAT.RES = 3 ∧ t.events = s.events ∧ regsBut u t [Reg.HKP_MIDSTAT.RES] ∧ memSame s t) ∧
  (∀ (v : Word) (m t0 : Int) (u s : State), s.awake = true → bit v.toNat 31 = true → u = s.storeWord Reg.HKP_MIDNS.NS.addr v.toNat → u.mapAt u.now = some m → u.inau.force.isSome = true → t0 = ofSecNs (u.get Reg.HKP_MIDSECHI.SECHI * 2 ^ 32 + u.get Reg.HKP_MIDSECLO.SECLO) (u.get Reg.HKP_MIDNS.NS) → 4 * u.tLen ≤ wrapT (t0 - m) → wrapT (t0 - m) ≤ 16 * 2 ^ 39 → 4 ≤ u.hkp.mids.length → ∃ t, exec (.midnightRequest v) s = .next t ∧ t.get Reg.HKP_MIDSTAT.RES = 4 ∧ newest t = some 0x0E04 ∧ t.flag Reg.HKP_IRQ.MIDLATE = true ∧ t.get Reg.HKP_MIDREF.COUNT = min (u.get Reg.HKP_MIDREF.COUNT + 1) 0xFFFFFFFF ∧ t.hkp = u.hkp ∧ regsBut u t [Reg.HKP_MIDSTAT.RES, Reg.HKP_IRQ.MIDLATE, Reg.HKP_MIDREF.COUNT]) ∧
  (∀ (m : Midnight) (x : Int) (s : State), s.mapAt s.now = some x → wrapT (m.target - x) ≤ 0 → (s.armMidnight m).hkp = s.hkp ∧ newest (s.armMidnight m) = some 0x0E03 ∧ (s.armMidnight m).flag Reg.HKP_IRQ.MIDLATE = true ∧ (s.armMidnight m).get Reg.HKP_MIDLATE.COUNT = min (s.get Reg.HKP_MIDLATE.COUNT + 1) 0xFFFFFFFF ∧ regsBut s (s.armMidnight m) [Reg.HKP_IRQ.MIDLATE, Reg.HKP_MIDLATE.COUNT]) ∧
  (∀ (l : Lane) (f : Bytes) (s : State), s.awake = true → (s.laneUp l = false ∨ headerCheck f ≠ .ok ∨ hCls f ≠ .mgmt ∨ hType f ≠ 0x19 ∨ hLen f ≠ 32 ∨ byteAt (payload f) 0 ≠ 1) → exec (.midnFrameReceived l f) s = .next s.settle) ∧
  (∀ (l : Lane) (f : Bytes) (s : State), s.awake = true → s.laneUp l = true → headerCheck f = .ok → hCls f = .mgmt → hType f = 0x19 → hLen f = 32 → byteAt (payload f) 0 = 1 → (s.vend (endOf l)).isolated = true → exec (.midnFrameReceived l f) s = .next (s.bump Reg.FWD_ISOL.COUNT).settle) ∧
  (∀ (l : Lane) (f p : Bytes) (m : Midnight) (s : State), s.awake = true → s.laneUp l = true → headerCheck f = .ok → hCls f = .mgmt → hType f = 0x19 → hLen f = 32 → p = payload f → byteAt p 0 = 1 → (s.vend (endOf l)).isolated = false → s.breakEnd ≠ some (endOf l) → m = ⟨fieldAt p 2 2, fieldAt p 4 8, ofSecNs (fieldAt p 12 6) (fieldAt p 18 4)⟩ → (s.midnGen f = false ∨ s.hkp.seen.contains (m.uid, m.no) = true) → exec (.midnFrameReceived l f) s = .next s.settle) ∧
  (∀ (l : Lane) (f : Bytes) (s : State), s.awake = true → s.laneUp l = true → headerCheck f = .ok → hCls f = .mgmt → hType f = 0x19 → hLen f = 32 → byteAt (payload f) 0 = 1 → (s.vend (endOf l)).isolated = false → s.breakEnd = some (endOf l) → exec (.midnFrameReceived l f) s = .next (s.bump Reg.FWD_BREAK.COUNT).settle)

/-- Telemetry, scrubber, calibration, patrol and the interlock. A sweep shows what it measured, or waits where the interlock holds it; a quantity outside its limit raises its alarm once and 100 ms inside the limit end it; the scrubber counts what it finds and a repair copies its line from MRAM; a calibration is asked for after a move of 10 °C, its first result is used and lets a lane with signal leave DOWN, a later one within 5 ns is used, and a discarded one is counted, the second in a row suspends the lane; the pad delays that it measures besides are a free value (log entry 4); a patrol is asked for by its period or by software, and its sectors count what they find; the activity that comes next starts when the interlock admits one. The multiples of 24 h at which the patrol starts are the model’s reading (log entry 25), and so are the two failures in a row that suspend (log entry 18). -/
def Obligations.Housekeeping : Prop :=
  (∀ (j : Int) (a b c d e : Nat) (s : State), s.awake = true → s.actTurn (.tel ⟨j, a, b, c, d, e⟩) = true → exec (.telemetrySweep j a b c d e) s = .next (s.telemetry ⟨j, a, b, c, d, e⟩).settle) ∧
  (∀ (j : Int) (a b c d e m : Nat) (u s : State), 0 ≤ j → j < 1000 → j ≤ signed 16 (s.get Reg.HKP_TLIM.THI) → 1700 ≤ a → a ≤ 3600 → 1700 ≤ b → b ≤ 3600 → 1700 ≤ c → c ≤ 3600 → m = paceMv (s.get Reg.GLB_PACE.ACT) → 97 * m ≤ 100 * d → 100 * d ≤ 103 * m → 180 ≤ e → e < 2 ^ 9 → e ≤ s.get Reg.HKP_TLIM.SHI → s.hkp.alarms = [] → u = s.telemetry ⟨j, a, b, c, d, e⟩ →
    u.get Reg.HKP_TEMP.TJ = j.toNat ∧ u.get Reg.HKP_VIN.VIN = a ∧ u.get Reg.HKP_VIO.VIO1 = b ∧ u.get Reg.HKP_VIO.VIO2 = c ∧ u.get Reg.HKP_VIN.VCORE = d ∧ u.get Reg.HKP_SPEED.S = e ∧ u.events = s.events ∧ u.hkp = s.hkp ∧ regsBut s u [Reg.HKP_TEMP.TJ, Reg.HKP_TEMP.TMAX, Reg.HKP_VIN.VIN, Reg.HKP_VIN.VCORE, Reg.HKP_VIO.VIO1, Reg.HKP_VIO.VIO2, Reg.HKP_SPEED.S, Reg.HKP_SPEED.SMAX]) ∧
  (∀ (j : Int) (a b c d e : Nat) (k : Act) (s : State), s.awake = true → k = .tel ⟨j, a, b, c, d, e⟩ → s.actTurn k = false → s.hkp.running.contains k = false → s.hkp.waiting.contains k = false →
    ∃ t, exec (.telemetrySweep j a b c d e) s = .next t ∧ t.hkp = { s.hkp with waiting := s.hkp.waiting ++ [k] } ∧ t.get Reg.HKP_ILWAIT.COUNT = min (s.get Reg.HKP_ILWAIT.COUNT + 1) 0xFFFFFFFF ∧ t.events = s.events ∧ regsBut s t [Reg.HKP_ILWAIT.COUNT] ∧ t.img = s.img ∧ t.prg = s.prg ∧ t.recd = s.recd ∧ t.rest = s.rest) ∧
  (∀ (q : Fin 6) (k a : Nat) (s : State), s.awake = true → (s.hkp.alarms.find? fun a => a.1 = q.val + 1) = some (k, some a) →
    ∃ t, exec (.telemetryAlarmEnd q) s = .next t ∧ t.now = max s.now (a + ms 100) ∧ t.hkp = { s.hkp with alarms := s.hkp.alarms.filter fun a => a.1 ≠ q.val + 1 } ∧ t.flag (State.telIrq (q.val + 1)) = true ∧ newest t = some 0x0E19 ∧ regsBut s t [State.telIrq (q.val + 1)] ∧ t.img = s.img ∧ t.prg = s.prg ∧ t.recd = s.recd ∧ t.rest = s.rest) ∧
  (∀ (r : Fin 8) (a : BitVec 23) (s : State), s.awake = true → s.flag Reg.HKP_SCRUB.SEN = true → ∃ t, exec (.scrubStep r a 1) s = .next t ∧ t.get Reg.HKP_SCRCOR.COUNT = min (s.get Reg.HKP_SCRCOR.COUNT + 1) 0xFFFFFFFF ∧ t.events = s.events ∧ regsBut s t [Reg.HKP_SCRCOR.COUNT] ∧ memSame s t) ∧
  (∀ (r : Fin 8) (a : BitVec 23) (s : State), s.awake = true → s.flag Reg.HKP_SCRUB.SEN = true → (r.val = 0 ∨ 2 < r.val ∨ s.bankSame (r.val - 1) = false) → ∃ t, exec (.scrubStep r a 2) s = .next t ∧ t.get Reg.HKP_SCRUNC.COUNT = min (s.get Reg.HKP_SCRUNC.COUNT + 1) 0xFFFFFFFF ∧ t.get Reg.HKP_SCRADDR.REGION = r.val ∧ t.get Reg.HKP_SCRADDR.ADDR = a.toNat ∧ t.flag Reg.HKP_IRQ.SCRUNC = true ∧ newest t = some 0x0E10 ∧ regsBut s t [Reg.HKP_SCRUNC.COUNT, Reg.HKP_SCRADDR.REGION, Reg.HKP_SCRADDR.ADDR, Reg.HKP_IRQ.SCRUNC] ∧ memSame s t) ∧
  (∀ (r : Fin 8) (a : BitVec 23) (e : Fin 3) (s : State), s.awake = true → s.flag Reg.HKP_SCRUB.SEN = false → exec (.scrubStep r a e) s = .next s.settle) ∧
  (∀ (b o : Nat) (u s : State), s.awake = true → (s.hkp.running.find? fun a => a.kind = 3) = some (.repair b o) → u = s.onBank b (fun k => { k with exec := k.exec.copyRange k.mram o 64 }) → exec .scrubRepair s = .next (((u.endAct (.repair b o)).bump Reg.HKP_SCRREP.COUNT).record 0x0E11).settle) ∧
  (∀ (n : Lane) (r : Int) (k : Act) (s : State), s.awake = true → k = .lcal n.val → (s.cal n).result = some r → s.calSusp n = false → 80 ≤ (s.tjNow - (s.cal n).tcal).natAbs → s.hkp.running.contains k = false → s.hkp.waiting.contains k = false → s.actTurn k = true →
    ∃ t, exec (.laneCalibrationStart n) s = .next t ∧ t.hkp = { s.hkp with running := s.hkp.running ++ [k] } ∧ t.events = s.events ∧ regsBut s t [Reg.HKP_STAT.ACT]) ∧
  (∀ (n : Lane) (s : State), s.awake = true → (s.cal n).result = none → exec (.laneCalibrationStart n) s = .next s.settle) ∧
  (∀ (v : Word) (u w x s : State), s.awake = true → u = s.storeWord Reg.HKP_CTRL.EN.addr v.toNat → w = (if bit v.toNat 1 then u.snapshot 1 none else u) → x = (if bit v.toNat 2 then w.calAll else w) → exec (.hkpLcalWrite v) s = .next (if bit v.toNat 3 then x.requestAct .mpat else x).settle) ∧
  (∀ (n : Lane) (r : Int) (s : State), s.awake = true → (s.cal n).result = none → s.pwr.paceWait = false → (s.laneSt n ≠ .down ∨ s.flag (Reg.LANE_STAT.SIGDET.at n) = false) →
    ∃ t, exec (.laneCalibrationComplete n r) s = .next t ∧ t.cal n = { s.cal n with result := some r, target := r, tcal := s.tjNow } ∧ t.lane n = { s.lane n with cal := r } ∧ t.get Reg.HKP_LCALST.TCAL = s.get Reg.HKP_TEMP.TJ % 2 ^ 16 ∧ t.get Reg.HKP_LCALRUN.COUNT = min (s.get Reg.HKP_LCALRUN.COUNT + 1) 0xFFFFFFFF ∧ t.events = s.events ∧ regsBut s t [Reg.HKP_STAT.ACT, Reg.HKP_LCALST.TCAL, Reg.HKP_LCALST.CALD, Reg.HKP_LCALRUN.COUNT]) ∧
  (∀ (n : Lane) (r q : Int) (u s : State), s.awake = true → (s.cal n).result = some q → s.hkp.running.contains (.lcal n.val) = true → u = s.endAct (.lcal n.val) → 80 < (r - q).natAbs → (u.cal n).bad = 0 →
    ∃ t, exec (.laneCalibrationComplete n r) s = .next t ∧ (t.cal n).result = (u.cal n).result ∧ (t.cal n).bad = 1 ∧ newest t = some 0x0E1C ∧ t.get Reg.HKP_LCALRUN.COUNT = min (u.get Reg.HKP_LCALRUN.COUNT + 1) 0xFFFFFFFF ∧ t.lane n = u.lane n ∧ regsBut u t [Reg.HKP_LCALRUN.COUNT]) ∧
  (∀ (u w s : State), s.awake = true → u = s.reachOp ((s.opTime / State.patrolPeriod + 1) * State.patrolPeriod % 2 ^ 40) → w = { u with hkp.patrolAt := u.opTime } → exec .mramPatrolPeriod s = .next (w.requestAct .mpat).settle) ∧
  (∀ (v : Word) (u w x s : State), s.awake = true → u = s.storeWord Reg.HKP_CTRL.EN.addr v.toNat → w = (if bit v.toNat 1 then u.snapshot 1 none else u) → x = (if bit v.toNat 2 then w.calAll else w) → exec (.hkpMpatWrite v) s = .next (if bit v.toNat 3 then x.requestAct .mpat else x).settle) ∧
  (∀ (g : Fin 12) (l c : Nat) (s : State), s.awake = true → s.hkp.running.contains .mpat = true → s.hkp.waiting = [] → ∃ t, exec (.mramPatrolSector g l c false false) s = .next t ∧ t.get Reg.HKP_MPATCOR.COUNT = min (s.get Reg.HKP_MPATCOR.COUNT + c) 0xFFFFFFFF ∧ t.events = s.events ∧ regsBut s t [Reg.HKP_MPATCOR.COUNT] ∧ memSame s t) ∧
  (∀ (g : Fin 12) (l c : Nat) (s : State), s.awake = true → s.hkp.running.contains .mpat = true → s.hkp.waiting = [] → g.val = 2 → ∃ t, exec (.mramPatrolSector g l c true false) s = .next t ∧ t.rest = { s.rest with cfgA := none } ∧ t.get Reg.HKP_MPATUNC.COUNT = min (s.get Reg.HKP_MPATUNC.COUNT + 1) 0xFFFFFFFF ∧ t.flag Reg.HKP_IRQ.MPATUNC = true ∧ newest t = some 0x0E12 ∧ regsBut s t [Reg.HKP_MPATCOR.COUNT, Reg.HKP_MPATUNC.COUNT, Reg.HKP_IRQ.MPATUNC] ∧ t.img = s.img ∧ t.prg = s.prg ∧ t.recd = s.recd ∧ t.hkp = s.hkp) ∧
  (∀ (a : Act) (s : State), s.awake = true → s.nextAct = some a → a = .mpat → ∃ t, exec .activityStart s = .next t ∧ t.hkp = { s.hkp with waiting := dropAct a s.hkp.waiting, running := s.hkp.running ++ [a] } ∧ t.events = s.events ∧ regsBut s t [Reg.HKP_STAT.ACT] ∧ t.img = s.img ∧ t.prg = s.prg ∧ t.recd = s.recd ∧ t.rest = s.rest) ∧
  (∀ (x : Telem) (u s : State), s.awake = true → s.nextAct = some (.tel x) → u = { s with hkp.waiting := dropAct (.tel x) s.hkp.waiting } → exec .activityStart s = .next (u.telemetry x).settle) ∧
  (∀ (s : State), s.awake = true → s.nextAct = none → exec .activityStart s = .next s.settle) ∧
  (∀ (x : Telem) (y : Nat × Bool × Nat) (s : State), y ∈ s.telOutside x → y.2.1 = true → (s.hkp.alarms.find? fun a => a.1 = y.1) = none →
    (s.judgeAlarm y).hkp.alarms = (s.hkp.alarms.filter fun a => a.1 ≠ y.1) ++ [(y.1, none)] ∧ (s.judgeAlarm y).flag (State.telIrq y.1) = true ∧ newest (s.judgeAlarm y) = some 0x0E18 ∧ regsBut s (s.judgeAlarm y) [State.telIrq y.1]) ∧
  (∀ (k : Nat) (y : Nat × Bool × Nat) (t : Option Nat) (s : State), y.2.1 = true → (s.hkp.alarms.find? fun a => a.1 = y.1) = some (k, t) → s.judgeAlarm y = { s with hkp.alarms := (s.hkp.alarms.filter fun a => a.1 ≠ y.1) ++ [(y.1, none)] }) ∧
  (∀ (k : Nat) (y : Nat × Bool × Nat) (s : State), y.2.1 = false → (s.hkp.alarms.find? fun a => a.1 = y.1) = some (k, none) → s.judgeAlarm y = { s with hkp.alarms := (s.hkp.alarms.filter fun a => a.1 ≠ y.1) ++ [(y.1, some s.now)] }) ∧
  (∀ (q : Fin 6) (s : State), s.awake = true → (s.hkp.alarms.find? fun a => a.1 = q.val + 1) = none → exec (.telemetryAlarmEnd q) s = .next s.settle) ∧
  (∀ (q : Fin 6) (k : Nat) (s : State), s.awake = true → (s.hkp.alarms.find? fun a => a.1 = q.val + 1) = some (k, none) → exec (.telemetryAlarmEnd q) s = .next s.settle) ∧
  (∀ (r : Fin 8) (a : BitVec 23) (s : State), s.awake = true → exec (.scrubStep r a 0) s = .next s.settle) ∧
  (∀ (r : Fin 8) (a : BitVec 23) (s : State), s.awake = true → s.flag Reg.HKP_SCRUB.SEN = true → (r.val = 1 ∨ r.val = 2) → s.bankSame (r.val - 1) = true → exec (.scrubStep r a 2) s = .next (s.requestAct (.repair (r.val - 1) (a.toNat % 0x80000 / 64 * 64))).settle) ∧
  (∀ (s : State), s.awake = true → (s.hkp.running.find? fun a => a.kind = 3) = none → exec .scrubRepair s = .next s.settle) ∧
  (∀ (n : Lane) (r : Int) (s : State), s.awake = true → (s.cal n).result = some r → (s.calSusp n = true ∨ (s.tjNow - (s.cal n).tcal).natAbs < 80) → exec (.laneCalibrationStart n) s = .next s.settle) ∧
  (∀ (n : Lane) (r : Int) (s : State), s.awake = true → (s.cal n).result = some r → s.calSusp n = false → 80 ≤ (s.tjNow - (s.cal n).tcal).natAbs → exec (.laneCalibrationStart n) s = .next (s.requestAct (.lcal n.val)).settle) ∧
  (∀ (n : Lane) (r : Int) (s : State), s.awake = true → (s.cal n).result = none → s.pwr.paceWait = false → s.laneSt n = .down → s.flag (Reg.LANE_STAT.SIGDET.at n) = true →
    ∃ t, exec (.laneCalibrationComplete n r) s = .next t ∧ t.laneSt n = .detect ∧ t.cal n = { s.cal n with result := some r, target := r, tcal := s.tjNow } ∧ (t.lane n).cal = r) ∧
  (∀ (n : Lane) (r q : Int) (k : Nat) (v u w s : State), s.awake = true → (s.cal n).result = some q → s.hkp.running.contains (.lcal n.val) = true → s.freshFree = (k, v) → u = State.endAct { v with hkp.pads := some (k % 2 ^ 16, k / 2 ^ 16 % 2 ^ 16) } (.lcal n.val) → (r - q).natAbs ≤ 80 → w = u.onCal n.val (fun c => { c with result := some r, target := r, tcal := u.tjNow, bad := 0 }) →
    ∃ t, exec (.laneCalibrationComplete n r) s = .next t ∧ t.hkp = w.hkp ∧ t.lanes = u.lanes ∧ t.get Reg.HKP_LCALST.TCAL = u.get Reg.HKP_TEMP.TJ % 2 ^ 16 ∧ t.get Reg.HKP_LCALRUN.COUNT = min (u.get Reg.HKP_LCALRUN.COUNT + 1) 0xFFFFFFFF ∧ t.events = u.events ∧ regsBut u t [Reg.HKP_LCALST.TCAL, Reg.HKP_LCALST.CALD, Reg.HKP_LCALRUN.COUNT]) ∧
  (∀ (n : Lane) (r q : Int) (k : Nat) (v u w s : State), s.awake = true → (s.cal n).result = some q → s.hkp.running.contains (.lcal n.val) = true → s.freshFree = (k, v) → u = State.endAct { v with hkp.pads := some (k % 2 ^ 16, k / 2 ^ 16 % 2 ^ 16) } (.lcal n.val) → 80 < (r - q).natAbs → 0 < (u.cal n).bad → w = u.onCal n.val (fun c => { c with bad := c.bad + 1, tcal := u.tjNow }) →
    ∃ t, exec (.laneCalibrationComplete n r) s = .next t ∧ t.hkp = w.hkp ∧ t.lanes = u.lanes ∧ t.flag Reg.HKP_STAT.SUSP = true ∧ bit (t.get Reg.HKP_LCALST.SUSP) n.val = true ∧ t.flag Reg.HKP_IRQ.SUSP = true ∧ newest t = some 0x0E21 ∧ regsBut u t [Reg.HKP_LCALRUN.COUNT, Reg.HKP_LCALST.SUSP, Reg.HKP_STAT.SUSP, Reg.HKP_IRQ.SUSP]) ∧
  (∀ (n : Lane) (r q : Int) (k : Nat) (v s : State), s.awake = true → (s.cal n).result = some q → s.hkp.running.contains (.lcal n.val) = false → s.freshFree = (k, v) → exec (.laneCalibrationComplete n r) s = .next (State.settle { v with hkp.pads := some (k % 2 ^ 16, k / 2 ^ 16 % 2 ^ 16) })) ∧
  (∀ (a : Act) (s : State), s.hkp.running.contains a = true ∨ s.hkp.waiting.contains a = true → s.requestAct a = s) ∧
  (∀ (a : Act) (s : State), s.hkp.running.contains a = false → s.hkp.waiting.contains a = false → s.actTurn a = true → s.requestAct a = ({ s with hkp.running := s.hkp.running ++ [a] } : State).refreshAct) ∧
  (∀ (a : Act) (s : State), s.hkp.running.contains a = false → s.hkp.waiting.contains a = false → s.actTurn a = false → s.requestAct a = ({ s with hkp.waiting := s.hkp.waiting ++ [a] } : State).bump Reg.HKP_ILWAIT.COUNT) ∧
  (∀ (g : Fin 12) (l c : Nat) (b e : Bool) (s : State), s.awake = true → s.hkp.running.contains .mpat = false → exec (.mramPatrolSector g l c b e) s = .next s.settle) ∧
  (∀ (g : Fin 12) (l c : Nat) (b : Bool) (u w s : State), s.awake = true → s.hkp.running.contains .mpat = true → u = s.bumpBy Reg.HKP_MPATCOR.COUNT c → w = (if b then (((u.mramBad g.val l).bump Reg.HKP_MPATUNC.COUNT).raise Reg.HKP_IRQ.MPATUNC).record 0x0E12 (natBe 4 g.val ++ natBe 4 l) else u) → exec (.mramPatrolSector g l c b true) s = .next (w.endAct .mpat).settle) ∧
  (∀ (g : Fin 12) (l c : Nat) (b : Bool) (u w s : State), s.awake = true → s.hkp.running.contains .mpat = true → u = s.bumpBy Reg.HKP_MPATCOR.COUNT c → w = (if b then (((u.mramBad g.val l).bump Reg.HKP_MPATUNC.COUNT).raise Reg.HKP_IRQ.MPATUNC).record 0x0E12 (natBe 4 g.val ++ natBe 4 l) else u) → exec (.mramPatrolSector g l c b false) s = .next (if w.hkp.waiting.any (fun a => a.kind = 5) then ({ w with hkp.running := dropAct .mpat w.hkp.running, hkp.waiting := w.hkp.waiting ++ [.mpat] } : State).refreshAct else w).settle) ∧
  (∀ (l : Nat) (s : State), s.mramBad 0 l = s.onBank 0 (fun k => { k with bad := k.bad.filter (· ≠ l) ++ [l] }) ∧ s.mramBad 1 l = s.onBank 1 (fun k => { k with bad := k.bad.filter (· ≠ l) ++ [l] }) ∧ s.mramBad 2 l = { s with rest.cfgA := none } ∧ s.mramBad 3 l = { s with rest.cfgB := none } ∧ s.mramBad 4 l = { s with recd.ckA := none } ∧ s.mramBad 5 l = { s with recd.ckB := none } ∧ s.mramBad 6 l = { s with rest.retA := none } ∧ s.mramBad 7 l = { s with rest.retB := none } ∧ (s.mramBad 8 l).trainKey 0 = none ∧ (s.mramBad 8 l).get (Reg.CMD_KEYSTAT.KCV.ix 0) = 0 ∧ (s.mramBad 9 l).trainKey 1 = none ∧ (s.mramBad 9 l).get (Reg.CMD_KEYSTAT.KCV.ix 1) = 0 ∧ (s.mramBad 10 l).trainKey 2 = none ∧ (s.mramBad 10 l).get (Reg.CMD_KEYSTAT.KCV.ix 2) = 0 ∧ (s.mramBad 11 l).trainKey 3 = none ∧ (s.mramBad 11 l).get (Reg.CMD_KEYSTAT.KCV.ix 3) = 0) ∧
  (∀ (a : Act) (s : State), s.awake = true → s.nextAct = some a → a.kind ≠ 0 → exec .activityStart s = .next (({ s with hkp.waiting := dropAct a s.hkp.waiting, hkp.running := s.hkp.running ++ [a] } : State).refreshAct).settle)

/-- Loss of supply and resets. Loss of VIN switches the node off and staging is lost; a power-on reset leaves every register but the kept ones at its default, counts from kind 1, and keeps programs, configuration and retained copies in MRAM; a warm reset starts with its kind recorded and a hold-off of 2 ms, the first kind stays, and the hold-off's end resets with that kind while the retained area stands; a release starts the node, a reset that temperature holds, or joins, is released when both temperature and nRESET allow it (R488, R489); without a reset to start, end or release nothing changes but what follows. -/
def Obligations.Resets : Prop :=
  (∀ (s : State), ∃ t, exec .vinLoss s = .next t ∧ t.power = .off ∧ t.events = [] ∧ t.recd = { s.recd with stage := [], again := [], job := .idle, lost := none } ∧ t.pwr.rst = none ∧ t.pwr.hold = none ∧ t.rest = { s.rest with entering := none } ∧ t.img = s.img ∧ t.prg = s.prg ∧ t.hkp = s.hkp ∧ t.cmd.keys = s.cmd.keys ∧ t.pending = s.pending ∧ regsBut s t []) ∧
  (∀ (s : State), ∃ t, exec .powerOnReset s = .next t ∧ t.power = .active ∧ t.pwr.rst = some 1 ∧ t.pwr.hold = none ∧ t.get Reg.GLB_RST.KIND = 1 ∧ t.get Reg.GLB_RST.WARMCNT = 0 ∧ t.img = {} ∧ t.prg.a.mram = s.prg.a.mram ∧ t.prg.b.mram = s.prg.b.mram ∧ t.rest.cfgA = s.rest.cfgA ∧ t.rest.cfgB = s.rest.cfgB ∧ t.rest.retA = s.rest.retA ∧ t.rest.retB = s.rest.retB ∧ t.recd.blocks = s.recd.blocks ∧ t.cmd.keys = s.cmd.keys ∧ t.inau.kept = none ∧ t.events = []) ∧
  (∀ (f : Fld) (s : State), f.key ≠ Reg.GLB_STAT.NFAULT.key → f.key ≠ Reg.CMD_IRQ.CPL.key → f.key ≠ Reg.GLB_RST.KIND.key → f.key ≠ Reg.GLB_RST.WARMCNT.key → ∃ t, exec .powerOnReset s = .next t ∧ t.get f = if State.keptField f.key false then s.get f else f.default) ∧
  (∀ (a : Fin 4) (b : Fin 2) (c : Fin 4) (l : Flash) (k : Nat) (s : State), s.pwr.rst = some k → s.pwr.therm = false → exec (.resetRelease a b c l) s = .next ((State.releaseReset { s with pwr.low := false } k a b c (State.flashOf l.sfdp l.data)).settle)) ∧
  (∀ (a b c : Nat) (s : State), a < 4 → b < 2 → c < 4 → (s.latchStraps a b c).get Reg.GLB_STRAP.STACK_ID = a ∧ (s.latchStraps a b c).get Reg.GLB_STRAP.TWIN_HALF = b ∧ (s.latchStraps a b c).get Reg.GLB_STRAP.BOOT = c ∧ (s.latchStraps a b c).stackId = a ∧ (s.latchStraps a b c).flag Reg.BRDG_STAT.MASTER = decide (a = 0) ∧ (s.latchStraps a b c).events = s.events) ∧
  (∀ (s : State), s.active = true → s.pwr.hold = none → ∃ t, exec (.pinReset true) s = .next t ∧ t.pwr.hold = some (2, s.now + ms 2) ∧ t.pwr.low = true ∧ newest t = some 0x0001 ∧ t.power = s.power ∧ t.now = s.now ∧ regsBut s t [] ∧ memSame s t) ∧
  (∀ (s : State), s.power ≠ .active → ∃ t, exec (.pinReset true) s = .next t ∧ t.pwr.low = true ∧ t.pwr.hold = s.pwr.hold ∧ t.events = s.events ∧ t.power = s.power ∧ regsBut s t [] ∧ memSame s t) ∧
  (∀ (s : State), s.active = true → s.pwr.hold = none → ∃ t, exec .watchdogReset s = .next t ∧ t.pwr.hold = some (3, s.now + ms 2) ∧ newest t = some 0x0001 ∧ t.power = s.power ∧ t.now = s.now ∧ regsBut s t [] ∧ memSame s t) ∧
  (∀ (s : State), s.active = true → s.pwr.hold = none → ∃ t, exec .thermalReset s = .next t ∧ t.pwr.hold = some (5, s.now + ms 2) ∧ t.pwr.therm = true ∧ newest t = some 0x0001 ∧ t.power = s.power ∧ t.now = s.now ∧ regsBut s t [] ∧ memSame s t) ∧
  (∀ (h : Nat × Nat) (s : State), s.active = true → s.pwr.hold = some h → exec .thermalReset s = .next (State.settle { s with pwr.therm := true }) ∧ exec .watchdogReset s = .next s.settle) ∧
  (∀ (k t : Nat) (u s : State), s.awake = true → s.pwr.hold = some (k, t) → k < 8 → u = (if s.stagingDone then s else s.reach t) →
    ∃ w, exec .warmResetHoldoffEnd s = .next w ∧ w.now = u.now ∧ w.get Reg.GLB_RST.KIND = k ∧ w.pwr.rst = some k ∧ w.pwr.hold = none ∧ w.power = .active ∧ w.img = { retained := s.img.retained } ∧ w.inau.kept = none ∧ w.recd.blocks = s.recd.blocks ∧ w.rest.cfgA = s.rest.cfgA ∧ w.rest.cfgB = s.rest.cfgB ∧ w.cmd.keys = s.cmd.keys ∧ w.events = []) ∧
  (∀ (k : Nat) (s : State), s.pwr.rst = some k → k ≠ 1 → s.pwr.therm = true → s.pwr.low = false → exec .thermalResetRelease s = .next (State.releaseReset { s with pwr.therm := false } k (s.get Reg.GLB_STRAP.STACK_ID) (s.get Reg.GLB_STRAP.TWIN_HALF) (s.get Reg.GLB_STRAP.BOOT) s.pwr.flash).settle) ∧
  (∀ (s : State), ∃ t, exec (.pinReset false) s = .next t ∧ t.pwr.low = false ∧ t.pwr.hold = s.pwr.hold ∧ t.pwr.rst = s.pwr.rst ∧ t.events = s.events ∧ t.power = s.power ∧ t.now = s.now ∧ regsBut s t [] ∧ memSame s t) ∧
  (∀ (s : State), s.active = true → s.pwr.hold.isSome = true → ∃ t, exec (.pinReset true) s = .next t ∧ t.pwr.low = true ∧ t.pwr.hold = s.pwr.hold ∧ t.pwr.rst = s.pwr.rst ∧ t.events = s.events ∧ t.power = s.power ∧ regsBut s t [] ∧ memSame s t) ∧
  (∀ (s : State), s.active = false → exec .thermalReset s = .next s.settle ∧ exec .watchdogReset s = .next s.settle) ∧
  (∀ (a : Fin 4) (b : Fin 2) (c : Fin 4) (l : Flash) (s : State), (s.pwr.rst = none → exec (.resetRelease a b c l) s = .next s.settle) ∧ (s.pwr.rst.isSome = true → s.pwr.therm = true → exec (.resetRelease a b c l) s = .next (State.settle { s with pwr.low := false }))) ∧
  (∀ (s : State), (s.pwr.rst = none ∨ s.pwr.rst = some 1 ∨ s.pwr.therm = false ∨ s.pwr.low = true) → exec .thermalResetRelease s = .next (State.settle { s with pwr.therm := false })) ∧
  (∀ (s : State), s.awake = true → s.pwr.hold = none → exec .warmResetHoldoffEnd s = .next s.settle) ∧
  (∀ (k : Nat) (l : Bytes) (a b c : Nat) (s : State), (s.releaseReset k a b c l).power = .active ∧ (s.releaseReset k a b c l).pwr.rst = none ∧ (s.releaseReset k a b c l).pwr.flash = l) ∧
  (∀ (f : Fld) (k t : Nat) (s : State), s.awake = true → s.pwr.hold = some (k, t) → f.key ≠ Reg.GLB_STAT.NFAULT.key → f.key ≠ Reg.CMD_IRQ.CPL.key → f.key ≠ Reg.GLB_RST.KIND.key → f.key ≠ Reg.GLB_RST.WARMCNT.key → State.keptField f.key true = false → ∃ w, exec .warmResetHoldoffEnd s = .next w ∧ w.get f = f.default) ∧
  (∀ (h d : Bytes), (State.sfdpSize h = none → State.flashOf h d = []) ∧ (∀ n, State.sfdpSize h = some n → (n < 2 ^ 20 ∨ 2 ^ 28 < n → State.flashOf h d = []) ∧ (2 ^ 20 ≤ n → n ≤ 2 ^ 28 → State.flashOf h d = d)))

/-- Supplies, Twilight and PACE. In Twilight the watchdog is recorded and a high temperature stops the line-A transmitters until it ends; the loss and return of a VIO bank show in VIOOK and are recorded, and while a bank is lost, or a line-A transmitter stopped, its outputs do not leave the chip (R478, R491; the instant at which a bank’s outputs return is log entry 38); the regulator’s limit is noted and recorded once a second; a PACE level below 2 is refused while a roster is in force, another one starts a change, waits for an MRAM write job, also when it is written again, or needs none, and its end shows the level and holds or frees the lanes and stack ports; the retained image is saved over the older copy. -/
def Obligations.SuppliesAndPace : Prop :=
  (∀ (s : State), s.awake = true → s.power = .twilight → ∃ t, exec .twilightWatchdog s = .next t ∧ newest t = some 0x0020 ∧ t.power = .twilight ∧ t.pwr.hold = s.pwr.hold ∧ regsBut s t [] ∧ memSame s t) ∧
  (∀ (j : Int) (s : State), s.awake = true → s.power = .twilight → s.pwr.hot = false → (s.lane 0).tx = none → (s.lane 0).txHeld = none → (s.lane 2).tx = none → (s.lane 2).txHeld = none → ∃ t, exec (.twilightThermalHold j) s = .next t ∧ sent s t [.quiet 0, .quiet 2] ∧ t.pwr.hot = true ∧ newest t = some 0x0002 ∧ regsBut s t [] ∧ memSame s t) ∧
  (∀ (u s : State), s.awake = true → s.pwr.hot = true → u = { s with pwr.hot := false } → exec .twilightThermalHoldEnd s = .next ((u.chooseTx 0).chooseTx 2).settle) ∧
  (∀ (s : State), s.awake = true → s.pwr.hot = false → exec .twilightThermalHoldEnd s = .next s.settle) ∧
  (∀ (b : Fin 2) (s : State), s.power ≠ .off → s.pwr.rst ≠ some 1 → ∃ t, exec (.vioBankLoss b) s = .next t ∧ sent s t [.bankZ b true] ∧ t.pwr.vio1 = (if b.val = 0 then true else s.pwr.vio1) ∧ t.pwr.vio2 = (if b.val = 0 then s.pwr.vio2 else true) ∧ t.get Reg.GLB_REG.VIOOK = 0 ∧ newest t = some 0x0010 ∧ regsBut s t [Reg.GLB_REG.VIOOK] ∧ memSame s t) ∧
  (∀ (b : Fin 2) (s : State), s.power ≠ .off → s.pwr.rst ≠ some 1 → ∃ t, exec (.vioBankRestore b) s = .next t ∧ t.pwr.vio1 = (if b.val = 0 then false else s.pwr.vio1) ∧ t.pwr.vio2 = (if b.val = 0 then s.pwr.vio2 else false) ∧ t.get Reg.GLB_REG.VIOOK = (if b.val = 0 then b2n (!s.pwr.vio2) else b2n (!s.pwr.vio1)) ∧ newest t = some 0x0011 ∧ regsBut s t [Reg.GLB_REG.VIOOK] ∧ memSame s t) ∧
  (∀ (s : State), s.awake = true → ∃ t, exec .regulatorCurrentLimit s = .next t ∧ t.get Reg.GLB_REG.ILIM = 1 ∧ (s.onceSec.contains (0x0012, 0, s.opSec) = false → newest t = some 0x0012) ∧ (s.onceSec.contains (0x0012, 0, s.opSec) = true → t.events = s.events) ∧ regsBut s t [Reg.GLB_REG.ILIM] ∧ memSame s t) ∧
  (∀ (v : Word) (w u s : State), s.awake = true → w = s.readVoted 0x100 → u = w.storeWord Reg.GLB_PACE.LEVEL.addr v.toNat → v.toNat % 4 < 2 → u.inau.force.isSome = true →
    ∃ t, exec (.paceLevelWrite v) s = .next t ∧ t.flag Reg.GLB_PACE.REF = true ∧ newest t = some 0x0014 ∧ t.glb.pace = w.glb.pace ∧ t.pwr.paceWait = s.pwr.paceWait ∧ regsBut u t [Reg.GLB_PACE.REF] ∧ memSame s t) ∧
  (∀ (v : Word) (w u s : State), s.awake = true → w = s.readVoted 0x100 → u = w.storeWord Reg.GLB_PACE.LEVEL.addr v.toNat → (2 ≤ v.toNat % 4 ∨ u.inau.force = none) → u.glb.pace.value % 4 ≠ v.toNat % 4 → v.toNat % 4 ≠ u.get Reg.GLB_PACE.ACT → (u.hkp.running.any (fun a => a.kind = 5)) = false →
    ∃ t, exec (.paceLevelWrite v) s = .next t ∧ t.get Reg.GLB_PACE.PBUSY = 1 ∧ t.glb.pace = Voted.all (v.toNat % 4) ∧ t.get Reg.REST_STAT.CFGDIRTY = 1 ∧ t.events = w.events ∧ regsBut u t [Reg.GLB_PACE.PBUSY, Reg.REST_STAT.CFGDIRTY] ∧ memSame s t) ∧
  (∀ (a b : Nat) (s : State), s.awake = true → s.flag Reg.GLB_PACE.PBUSY = true → bridgeIdle s = true → s.readVoted 0x100 = s → a = s.get Reg.GLB_PACE.ACT → b = s.glb.pace.value % 4 → (2 ≤ a ↔ 2 ≤ b) → a ≠ b →
    ∃ t, exec .paceChangeComplete s = .next t ∧ t.get Reg.GLB_PACE.ACT = b ∧ t.get Reg.GLB_PACE.PBUSY = 0 ∧ newest t = some 0x0013 ∧ regsBut s t [Reg.GLB_PACE.ACT, Reg.GLB_PACE.PBUSY] ∧ memSame s t) ∧
  (∀ (s : State), s.awake = true → s.flag Reg.GLB_PACE.PBUSY = false → exec .paceChangeComplete s = .next s.drainWaiting.bridgeRoom.settle) ∧
  (∀ (v : Word) (s : State), s.awake = true → bit v.toNat 8 = true → s.rest.retA = none → s.rest.retB = none → ∃ t, exec (.retainedImageSave v) s = .next t ∧ t.rest = { s.rest with retA := some ⟨1, s.get Reg.PRG_AID.VALUE, s.get Reg.PRG_AREV.VALUE, s.img.retained, State.retCrc (s.get Reg.PRG_AID.VALUE) (s.get Reg.PRG_AREV.VALUE) 1 s.img.retained⟩ } ∧ t.img = s.img ∧ t.prg = s.prg ∧ t.recd = s.recd ∧ t.hkp = s.hkp ∧ t.events = s.events ∧ regsBut s t []) ∧
  (∀ (v : Word) (s : State), s.awake = true → bit v.toNat 8 = false → exec (.retainedImageSave v) s = .next s.settle) ∧
  (∀ (s : State), s.awake = true → s.power ≠ .twilight → exec .twilightWatchdog s = .next s.settle) ∧
  (∀ (j : Int) (s : State), s.awake = true → (s.power ≠ .twilight ∨ s.pwr.hot = true) → exec (.twilightThermalHold j) s = .next s.settle) ∧
  (∀ (v : Word) (w u s : State), s.awake = true → w = s.readVoted 0x100 → u = w.storeWord Reg.GLB_PACE.LEVEL.addr v.toNat → (2 ≤ v.toNat % 4 ∨ u.inau.force = none) → u.glb.pace.value % 4 = v.toNat % 4 → v.toNat % 4 = u.get Reg.GLB_PACE.ACT →
    ∃ t, exec (.paceLevelWrite v) s = .next t ∧ t.glb.pace = Voted.all (v.toNat % 4) ∧ t.pwr.paceWait = false ∧ t.events = w.events ∧ regsBut u t [] ∧ memSame s t) ∧
  (∀ (v : Word) (w u s : State), s.awake = true → w = s.readVoted 0x100 → u = w.storeWord Reg.GLB_PACE.LEVEL.addr v.toNat → (2 ≤ v.toNat % 4 ∨ u.inau.force = none) → u.glb.pace.value % 4 ≠ v.toNat % 4 → v.toNat % 4 = u.get Reg.GLB_PACE.ACT →
    ∃ t, exec (.paceLevelWrite v) s = .next t ∧ t.glb.pace = Voted.all (v.toNat % 4) ∧ t.pwr.paceWait = false ∧ t.get Reg.REST_STAT.CFGDIRTY = 1 ∧ t.events = w.events ∧ regsBut u t [Reg.REST_STAT.CFGDIRTY] ∧ memSame s t) ∧
  (∀ (v : Word) (w u s : State), s.awake = true → w = s.readVoted 0x100 → u = w.storeWord Reg.GLB_PACE.LEVEL.addr v.toNat → (2 ≤ v.toNat % 4 ∨ u.inau.force = none) → u.glb.pace.value % 4 ≠ v.toNat % 4 → v.toNat % 4 ≠ u.get Reg.GLB_PACE.ACT → (u.hkp.running.any (fun a => a.kind = 5)) = true →
    ∃ t, exec (.paceLevelWrite v) s = .next t ∧ t.glb.pace = Voted.all (v.toNat % 4) ∧ t.pwr.paceWait = true ∧ t.get Reg.REST_STAT.CFGDIRTY = 1 ∧ t.events = w.events ∧ regsBut u t [Reg.REST_STAT.CFGDIRTY] ∧ memSame s t) ∧
  (∀ (v : Word) (w u s : State), s.awake = true → w = s.readVoted 0x100 → u = w.storeWord Reg.GLB_PACE.LEVEL.addr v.toNat → (2 ≤ v.toNat % 4 ∨ u.inau.force = none) → u.glb.pace.value % 4 = v.toNat % 4 → v.toNat % 4 ≠ u.get Reg.GLB_PACE.ACT → (u.hkp.running.any (fun a => a.kind = 5)) = false →
    ∃ t, exec (.paceLevelWrite v) s = .next t ∧ t.glb.pace = Voted.all (v.toNat % 4) ∧ t.get Reg.GLB_PACE.PBUSY = 1 ∧ t.events = w.events ∧ regsBut u t [Reg.GLB_PACE.PBUSY] ∧ memSame s t) ∧
  (∀ (a b : Nat) (s : State), s.awake = true → s.flag Reg.GLB_PACE.PBUSY = true → bridgeIdle s = true → s.readVoted 0x100 = s → a = s.get Reg.GLB_PACE.ACT → b = s.glb.pace.value % 4 → a = b →
    ∃ t, exec .paceChangeComplete s = .next t ∧ t.get Reg.GLB_PACE.ACT = b ∧ t.get Reg.GLB_PACE.PBUSY = 0 ∧ t.events = s.events ∧ regsBut s t [Reg.GLB_PACE.PBUSY] ∧ memSame s t) ∧
  (∀ (a b : Nat) (u s : State), s.awake = true → s.flag Reg.GLB_PACE.PBUSY = true → s.readVoted 0x100 = s → a = s.get Reg.GLB_PACE.ACT → b = s.glb.pace.value % 4 → 2 ≤ b → a < 2 → u = (((s.put Reg.GLB_PACE.ACT b).put Reg.GLB_PACE.PBUSY 0).record 0x0013 (natBe 1 a ++ natBe 1 b)).holdStack false →
    exec .paceChangeComplete s = .next ((((u.restLane 0).restLane 1).restLane 2).restLane 3).judgeStart.drainWaiting.bridgeRoom.settle) ∧
  (∀ (a b : Nat) (u w x y z s : State), s.awake = true → s.flag Reg.GLB_PACE.PBUSY = true → s.readVoted 0x100 = s → a = s.get Reg.GLB_PACE.ACT → b = s.glb.pace.value % 4 → 2 ≤ a → b < 2 → u = (((s.put Reg.GLB_PACE.ACT b).put Reg.GLB_PACE.PBUSY 0).record 0x0013 (natBe 1 a ++ natBe 1 b)).holdStack true → w = (if u.laneUp 0 then u.leaveActive 0 else (u.dropLane 0).restLane 0) → x = (if w.laneUp 1 then w.leaveActive 1 else (w.dropLane 1).restLane 1) → y = (if x.laneUp 2 then x.leaveActive 2 else (x.dropLane 2).restLane 2) → z = (if y.laneUp 3 then y.leaveActive 3 else (y.dropLane 3).restLane 3) →
    exec .paceChangeComplete s = .next (z.failRound false).drainWaiting.bridgeRoom.settle) ∧
  (∀ (n : Fin 4) (s : State), s.get Reg.GLB_PACE.ACT < 2 → (s.restLane n.val).laneSt n.val = .disabled) ∧
  (∀ (v : Word) (q : Nat) (s : State), s.awake = true → bit v.toNat 8 = true → q = max ((s.rest.retA.map fun x => x.seq).getD 0) ((s.rest.retB.map fun x => x.seq).getD 0) + 1 → ∃ t, exec (.retainedImageSave v) s = .next t ∧
    t.rest = (if s.rest.retA = none ∨ (s.rest.retA.isSome = true ∧ s.rest.retB.isSome = true ∧ (s.rest.retA.map fun x => x.seq).getD 0 ≤ (s.rest.retB.map fun x => x.seq).getD 0) then { s.rest with retA := some ⟨q, s.get Reg.PRG_AID.VALUE, s.get Reg.PRG_AREV.VALUE, s.img.retained, State.retCrc (s.get Reg.PRG_AID.VALUE) (s.get Reg.PRG_AREV.VALUE) q s.img.retained⟩ } else { s.rest with retB := some ⟨q, s.get Reg.PRG_AID.VALUE, s.get Reg.PRG_AREV.VALUE, s.img.retained, State.retCrc (s.get Reg.PRG_AID.VALUE) (s.get Reg.PRG_AREV.VALUE) q s.img.retained⟩ }) ∧ t.img = s.img ∧ t.prg = s.prg ∧ t.recd = s.recd ∧ t.hkp = s.hkp ∧ t.events = s.events ∧ regsBut s t []) ∧
  (∀ (j : Int) (s : State), s.awake = true → s.power = .twilight → s.pwr.hot = false → exec (.twilightThermalHold j) s = .next (({ (s.cutLineA 0).cutLineA 2 with pwr.hot := true } : State).record 0x0002 (natBe 2 (unsigned 16 j))).settle) ∧
  (∀ (n : Nat) (s : State), n < 4 → ((s.cutLineA n).lane n).tx = none ∧ ((s.cutLineA n).lane n).txHeld = none ∧ ((s.cutLineA n).lane n).sets = []) ∧
  (∀ (v : Word) (w u s : State), s.awake = true → w = s.readVoted 0x100 → u = w.storeWord Reg.GLB_PACE.LEVEL.addr v.toNat → (2 ≤ v.toNat % 4 ∨ u.inau.force = none) → u.glb.pace.value % 4 = v.toNat % 4 → v.toNat % 4 ≠ u.get Reg.GLB_PACE.ACT → (u.hkp.running.any (fun a => a.kind = 5)) = true →
    ∃ t, exec (.paceLevelWrite v) s = .next t ∧ t.glb.pace = Voted.all (v.toNat % 4) ∧ t.pwr.paceWait = true ∧ t.events = w.events ∧ regsBut u t [] ∧ memSame s t) ∧
  (∀ (b : Fin 2) (s : State), s.power ≠ .off → s.pwr.rst ≠ some 1 → exec (.vioBankRestore b) s = .next (s.vioBank b false).settle) ∧
  (∀ (o : Out) (s : State), ((∃ p l, o = .pin p l) → s.pwr.vio1 = true → s.emit o = s) ∧ ((∃ p r a g d, o = .mdio p r a g d) → s.pwr.vio2 = true → s.emit o = s) ∧ (∀ n b, o = .data n b → s.pwr.hot = true → n % 2 = 0 → s.emit o = s) ∧ (s.pwr.vio1 = false → s.pwr.vio2 = false → s.pwr.hot = false → (s.emit o).outs = s.outs ++ [o]))

/-- A step runs the command at the front of the queue. For every command and every state, a step with the command at the front of the queue is exec of that command on the state with the queue's rest; the queue is the model's own (log entry 2). -/
def Obligations.QueueStep : Prop :=
  ∀ (c : Instr) (l : List Instr) (s : State), step { s with pending := c :: l } = exec c { s with pending := l }

/-- A step without a waiting command lets the time base move on. With no command waiting a step moves the time base on by one unit of 1/16 ns, stops nothing, records nothing, leaves every memory and every register field but those that follow other state, and drives only the outputs that follow the registers; this tick is the model's choice (log entry 2). -/
def Obligations.IdleStep : Prop :=
  ∀ (s : State), s.pending = [] → ∃ t, step s = .next t ∧ t.now = s.now + 1 ∧ t.pending = [] ∧ t.power = s.power ∧ t.events = s.events ∧ t.free = s.free ∧ t.lanes = s.lanes ∧ t.inau = s.inau ∧ t.ports = s.ports ∧ t.fab = s.fab ∧ t.host = s.host ∧ t.eng = s.eng ∧ memSame s t ∧ regsBut s t [] ∧ sent s t []

/-- Every step completes. Whatever the state and whatever command waits, a step answers a next state: no command stops the block by a fault or a refusal: one that finds the part it acts on not running is taken too (log entry 8). -/
def Obligations.StepTotal : Prop :=
  (∀ (s : State), ∃ t, step s = .next t) ∧
  (∀ (c : Instr) (s : State), ∃ t, exec c s = .next t)

/-- The state after reset is sound. After reset the pins and INTA stand as the registers say, no moderated completion is overdue, the register table is in rising order, every memory of the process image and the retained copies are canonical, no command waits and the node is ACTIVE. -/
def Obligations.ResetSound : Prop :=
  sound State.reset = true ∧ regsRise State.reset = true ∧ imageWf State.reset = true ∧ copiesWf State.reset = true ∧ State.reset.pending = [] ∧ State.reset.power = .active ∧ State.reset.events = [] ∧ State.reset.outs = []

/-- After every step the pins follow the registers. From every state, whatever command waits, a step leads to a sound state: INTA is asserted exactly while requests may leave the host port (the stack master, ACTIVE, not in D3hot), MSI-X is disabled and a vector is pending, INTn is low exactly while an interrupt block has an enabled flag set, ROLE is high exactly while the node acts for its position, GLB_STAT.NFAULT is 1 exactly while a GLB_FAULT bit is 1, and no completion whose moderation time has passed waits unsignalled. That the outputs follow the registers at every instant is the model’s reading (log entry 8). -/
def Obligations.StepSound : Prop :=
  ∀ (s : State), ∃ t, step s = .next t ∧ sound t = true

/-- What a power state lets run. While the node is in DUSK-SLEEP or OFF or a reset is asserted, and the recorder has written its staging, a command to a part that Table 01.4 does not let run changes nothing but what follows; in OFF and under a reset only the commands of the supply and the resets act; in OFF the node stays OFF until the power-on reset; it leaves DUSK-SLEEP only through the wake commands, the loss of VIN and the power-on reset. -/
def Obligations.PowerStates : Prop :=
  (∀ (c : Instr) (s : State), s.awake = false → s.rest.entering = none → c.aon = false → c.supply = false → exec c s = .next s.settle) ∧
  (∀ (c : Instr) (s : State), (s.power = .off ∨ s.pwr.rst = some 1 ∨ (s.pwr.rst.isSome = true ∧ c.aon = false)) → s.rest.entering = none → c.supply = false → exec c s = .next s.settle) ∧
  (∀ (c : Instr) (s : State), s.power = .off → s.pwr.rst = none → s.rest.entering = none → c ≠ .powerOnReset → ∃ t, exec c s = .next t ∧ t.power = .off ∧ t.pwr.rst = none ∧ t.rest.entering = none) ∧
  (∀ (c : Instr) (s : State), s.power = .duskSleep → s.pwr.rst = none → s.rest.entering = none → c.wakes = false → c ≠ .vinLoss → c ≠ .powerOnReset → ∃ t, exec c s = .next t ∧ t.power = .duskSleep ∧ t.pwr.rst = none ∧ t.rest.entering = none)

/-- A register field reads as it was last written. Whatever the state, a field reads as the value last put into it, cut to its width, every field at another place reads as before, and the table of the fields that stand off their defaults keeps its rising order; the table is the model's own form. -/
def Obligations.RegisterTable : Prop :=
  (∀ (s : State) (f : Fld) (v : Nat), regsRise s = true → regsRise (s.put f v) = true) ∧
  (∀ (s : State) (f g : Fld) (v : Nat), (s.put f v).get f = v % 2 ^ f.width ∧ (g.key ≠ f.key → (s.put f v).get g = s.get g))

/-- What a subscription's delivery leaves in the process image. Bytes delivered to a destination that R296 admits stand at that destination, in the receive view for the input area and in the area itself for the retained and the non-retained area; every other byte of every area stands, and every memory of the image keeps its canonical form. -/
def Obligations.ImageDeliveries : Prop :=
  (∀ (s : State) (o : Nat) (bs : Bytes), imageWf s = true → imageWf { s with img := s.img.deliver o bs } = true) ∧
  (∀ (s : State) (o : Nat) (bs : Bytes) (x : Nat), imageWf s = true → 0x140 ≤ o → o + bs.length ≤ 0x10000 → ((s.img.deliver o bs).recv.read x = if o ≤ x ∧ x < o + bs.length then bs.getD (x - o) 0 else s.img.recv.read x) ∧ (s.img.deliver o bs).latched = s.img.latched ∧ (s.img.deliver o bs).comm = s.img.comm ∧ (s.img.deliver o bs).work = s.img.work ∧ (s.img.deliver o bs).retained = s.img.retained ∧ (s.img.deliver o bs).nonret = s.img.nonret) ∧
  (∀ (s : State) (o : Nat) (bs : Bytes) (x : Nat), imageWf s = true → 0x20000 ≤ o → o < 0x30000 → o + bs.length ≤ 0x30000 → ((s.img.deliver o bs).retained.read x = if o ≤ 0x20000 + x ∧ 0x20000 + x < o + bs.length then bs.getD (0x20000 + x - o) 0 else s.img.retained.read x) ∧ (s.img.deliver o bs).recv = s.img.recv ∧ (s.img.deliver o bs).latched = s.img.latched ∧ (s.img.deliver o bs).comm = s.img.comm ∧ (s.img.deliver o bs).work = s.img.work ∧ (s.img.deliver o bs).nonret = s.img.nonret) ∧
  (∀ (s : State) (o : Nat) (bs : Bytes) (x : Nat), imageWf s = true → 0x30000 ≤ o → o + bs.length ≤ 0x40000 → ((s.img.deliver o bs).nonret.read x = if o ≤ 0x30000 + x ∧ 0x30000 + x < o + bs.length then bs.getD (0x30000 + x - o) 0 else s.img.nonret.read x) ∧ (s.img.deliver o bs).recv = s.img.recv ∧ (s.img.deliver o bs).latched = s.img.latched ∧ (s.img.deliver o bs).comm = s.img.comm ∧ (s.img.deliver o bs).work = s.img.work ∧ (s.img.deliver o bs).retained = s.img.retained)

/-- The line code is read back as it was sent. Whatever characters of the code leave one after the other, and whatever the running disparity at which they start, the receiver reads the same characters with no code error and stands at the same running disparity; each character takes ten bits, holds as many ones as zeros or two more of the kind that brings the disparity to the other side, and every character of what a lane sends is one of Table 02.3. The code's own tables are PRESUMED (log entry 42). -/
def Obligations.LineCode : Prop :=
  (∀ (cs : List LineChar) (rd : Bool), (∀ c ∈ cs, c ∈ allChars) → decodeChars cs.length rd (encodeChars rd cs).1 = cs.map some) ∧
  (∀ (c : LineChar) (rd : Bool), c ∈ allChars → (encodeChar rd c).1.length = 10 ∧ disparityAfter rd (encodeChar rd c).1 = (encodeChar rd c).2 ∧
    (disparity (encodeChar rd c).1 = 0 ∨ disparity (encodeChar rd c).1 = if rd then -2 else 2)) ∧
  (∀ (o : Out) (n : Nat) (cs : List LineChar) (c : LineChar), n < 4 → o.chars = some (n, cs) → c ∈ cs → c.sent = true ∧ c ∈ allChars) ∧
  (∀ (o : Out) (n : Nat) (rd : Bool) (bs : List Bool), o.bits rd = some (n, bs) → bs.length % 10 = 0)

/-- Every step keeps the register table canonical. From every state whose table of the fields that stand off their defaults is in rising order, whatever command waits, a step leads to a state whose table is in rising order; the table is the model's own form, and ResetSound says that it holds at reset. -/
def Obligations.RegistersStayCanonical : Prop :=
  ∀ (s : State), regsRise s = true → ∃ t, step s = .next t ∧ regsRise t = true

/-- Every step keeps the memories of the process image canonical. From every state in which the areas of the process image and the retained copies in MRAM are in canonical form, whatever command waits, a step leads to such a state, so that equal memories are equal data; ResetSound says that it holds at reset. -/
def Obligations.MemoriesStayCanonical : Prop :=
  ∀ (s : State), imageWf s = true → copiesWf s = true → ∃ t, step s = .next t ∧ imageWf t = true ∧ copiesWf t = true

/-- The counters of the SCHD block. Each counter of Table 05.9 is one register of its offset whose bits 31:0 are COUNT, read only, with default 0; it saturates at 0xFFFF_FFFF; a write of 1 to SCHD_CNTCLR bit 0, which reads as 0, clears all of them at once, and another write of it clears none. -/
def Obligations.SchdCounters : Prop :=
  (schdCounters.map (·.addr) = [0x300A0, 0x300A4, 0x300A8, 0x300AC, 0x300B0, 0x300B4, 0x300B8, 0x300BC, 0x300C0, 0x300C4]) ∧
  (∀ (f : Fld), f ∈ schdCounters → f.lo = 0 ∧ f.width = 32 ∧ f.dflt = 0) ∧
  (∀ (f : Fld) (v : Nat) (s : State), f ∈ schdCounters → (s.storeWord f.addr v).get f = s.get f ∧ s.wordAt f.addr = s.get f ∧ (s.bump f).get f = min (s.get f + 1) 0xFFFFFFFF) ∧
  (∀ (v : Word) (s : State), s.awake = true → bit v.toNat 0 = true → ∃ t, exec (.blockCounterClear 0x300DC v) s = .next t ∧ schdCounters.all (fun f => t.get f = 0) = true) ∧
  (∀ (v : Word) (s : State), s.awake = true → bit v.toNat 0 = false → exec (.blockCounterClear 0x300DC v) s = .next s.settle) ∧
  (∀ (s : State), s.wordAt 0x300DC = 0)

/-- The header CRC. HCRC starts at 0xFFFF and takes each byte from its most significant bit on with the polynomial 0x1021, without reflection and without a final XOR; over the ASCII bytes 123456789 it yields 0x29B1; it stands big-endian in bytes 22 and 23 of a header, where a receiver compares it. -/
def Obligations.HeaderCrc : Prop :=
  (crc16 [] = 0xFFFF) ∧
  (∀ (bs : Bytes) (b : Byte), crc16 (bs ++ [b]) = [7, 6, 5, 4, 3, 2, 1, 0].foldl (fun (c i : Nat) => if c.testBit 15 != b.getLsbD i then (c * 2 % 65536) ^^^ 0x1021 else c * 2 % 65536) (crc16 bs)) ∧
  (crc16 [0x31, 0x32, 0x33, 0x34, 0x35, 0x36, 0x37, 0x38, 0x39] = 0x29B1) ∧
  (∀ (f : Bytes), headerCheck f = .hcrc ↔ 256 * byteAt f 22 + byteAt f 23 ≠ crc16 (f.take 22)) ∧
  (∀ (f : Bytes) (n : Nat), 24 ≤ f.length → ((withCorr f n).drop 22).take 2 = natBe 2 (crc16 ((withCorr f n).take 22)))
end

