-- ==== Sys2Proof/Laws/Exec.lean ====
section
/-! SUPPORT. What exec calls for each command, as a rewriting rule. -/

namespace Sys2Proof.Machine

theorem exec_registerWrite (addr : Word) (value : Word) (s : State) : exec (.registerWrite addr value) s = execRegisterWrite addr value s := rfl
theorem exec_wpWriteTakesEffect (block : Fin 16) (s : State) : exec (.wpWriteTakesEffect block) s = execWpWriteTakesEffect block s := rfl
theorem exec_wcpFirstWord (addr : Word) (value : Word) (s : State) : exec (.wcpFirstWord addr value) s = execWcpFirstWord addr value s := rfl
theorem exec_wcpComplementWord (addr : Word) (value : Word) (s : State) : exec (.wcpComplementWord addr value) s = execWcpComplementWord addr value s := rfl
theorem exec_wcpPairTimeout (block : Fin 16) (s : State) : exec (.wcpPairTimeout block) s = execWcpPairTimeout block s := rfl
theorem exec_votedRegisterRead (addr : Word) (s : State) : exec (.votedRegisterRead addr) s = execVotedRegisterRead addr s := rfl
theorem exec_irqFlagClear (addr : Word) (value : Word) (s : State) : exec (.irqFlagClear addr value) s = execIrqFlagClear addr value s := rfl
theorem exec_msixVectorUnmask (vec : Fin 64) (s : State) : exec (.msixVectorUnmask vec) s = execMsixVectorUnmask vec s := rfl
theorem exec_blockCounterClear (addr : Word) (value : Word) (s : State) : exec (.blockCounterClear addr value) s = execBlockCounterClear addr value s := rfl
theorem exec_laneEnableWrite (lane : Lane) (value : Word) (s : State) : exec (.laneEnableWrite lane value) s = execLaneEnableWrite lane value s := rfl
theorem exec_laneRetrainWrite (lane : Lane) (value : Word) (s : State) : exec (.laneRetrainWrite lane value) s = execLaneRetrainWrite lane value s := rfl
theorem exec_laneSignalDetect (lane : Lane) (s : State) : exec (.laneSignalDetect lane) s = execLaneSignalDetect lane s := rfl
theorem exec_detectSignalStable (lane : Lane) (s : State) : exec (.detectSignalStable lane) s = execDetectSignalStable lane s := rfl
theorem exec_detectSignalAbsent (lane : Lane) (s : State) : exec (.detectSignalAbsent lane) s = execDetectSignalAbsent lane s := rfl
theorem exec_trainingSetReceived (lane : Lane) (line : TsLine) (chars : Bytes) (s : State) : exec (.trainingSetReceived lane line chars) s = execTrainingSetReceived lane line chars s := rfl
theorem exec_receiverAdapted (lane : Lane) (ctle : Nat) (dfe1 : Byte) (dfe2 : Byte) (dfe3 : Byte) (s : State) : exec (.receiverAdapted lane ctle dfe1 dfe2 dfe3) s = execReceiverAdapted lane ctle dfe1 dfe2 dfe3 s := rfl
theorem exec_trainingTimeout (lane : Lane) (s : State) : exec (.trainingTimeout lane) s = execTrainingTimeout lane s := rfl
theorem exec_laneSignalLoss (lane : Lane) (s : State) : exec (.laneSignalLoss lane) s = execLaneSignalLoss lane s := rfl
theorem exec_laneAlignmentLoss (lane : Lane) (s : State) : exec (.laneAlignmentLoss lane) s = execLaneAlignmentLoss lane s := rfl
theorem exec_codeErrorThreshold (lane : Lane) (seen : CodeErrors) (s : State) : exec (.codeErrorThreshold lane seen) s = execCodeErrorThreshold lane seen s := rfl
theorem exec_creditReturnReceived (lane : Lane) (f1 : Byte) (f2 : Byte) (nf : Byte) (s : State) : exec (.creditReturnReceived lane f1 f2 nf) s = execCreditReturnReceived lane f1 f2 nf s := rfl
theorem exec_creditReturnTimer (lane : Lane) (s : State) : exec (.creditReturnTimer lane) s = execCreditReturnTimer lane s := rfl
theorem exec_laneSfReceived (lane : Lane) (debit : Byte) (s : State) : exec (.laneSfReceived lane debit) s = execLaneSfReceived lane debit s := rfl
theorem exec_crsReqReceived (lane : Lane) (code : Byte) (value : Byte) (check : Byte) (s : State) : exec (.crsReqReceived lane code value check) s = execCrsReqReceived lane code value check s := rfl
theorem exec_crsAckReceived (lane : Lane) (code : Byte) (value : Byte) (check : Byte) (s : State) : exec (.crsAckReceived lane code value check) s = execCrsAckReceived lane code value check s := rfl
theorem exec_resyncBufferDrained (lane : Lane) (s : State) : exec (.resyncBufferDrained lane) s = execResyncBufferDrained lane s := rfl
theorem exec_crsDoneReceived (lane : Lane) (code : Byte) (value : Byte) (check : Byte) (s : State) : exec (.crsDoneReceived lane code value check) s = execCrsDoneReceived lane code value check s := rfl
theorem exec_creditResyncTimeout (lane : Lane) (s : State) : exec (.creditResyncTimeout lane) s = execCreditResyncTimeout lane s := rfl
theorem exec_strayDataCharacter (lane : Lane) (char : Byte) (s : State) : exec (.strayDataCharacter lane char) s = execStrayDataCharacter lane char s := rfl
theorem exec_preemptReceived (lane : Lane) (bytes : Bytes) (s : State) : exec (.preemptReceived lane bytes) s = execPreemptReceived lane bytes s := rfl
theorem exec_resumeReceived (lane : Lane) (debit : Byte) (s : State) : exec (.resumeReceived lane debit) s = execResumeReceived lane debit s := rfl
theorem exec_laneFrameEnd (lane : Lane) (bytes : Bytes) (good : Bool) (codeErrors : Nat) (s : State) : exec (.laneFrameEnd lane bytes good codeErrors) s = execLaneFrameEnd lane bytes good codeErrors s := rfl
theorem exec_txSourceStall (lane : Lane) (s : State) : exec (.txSourceStall lane) s = execTxSourceStall lane s := rfl
theorem exec_laneEnergyWake (lane : Lane) (mv : Nat) (ns : Nat) (s : State) : exec (.laneEnergyWake lane mv ns) s = execLaneEnergyWake lane mv ns s := rfl
theorem exec_frameDecision (lane : Lane) (bytes : Bytes) (s : State) : exec (.frameDecision lane bytes) s = execFrameDecision lane bytes s := rfl
theorem exec_egressFrameStart (lane : Lane) (s : State) : exec (.egressFrameStart lane) s = execEgressFrameStart lane s := rfl
theorem exec_expressIntervalStart (lane : Lane) (s : State) : exec (.expressIntervalStart lane) s = execExpressIntervalStart lane s := rfl
theorem exec_probeSendTimer (lane : Lane) (s : State) : exec (.probeSendTimer lane) s = execProbeSendTimer lane s := rfl
theorem exec_probeReceived (lane : Lane) (frame : Bytes) (s : State) : exec (.probeReceived lane frame) s = execProbeReceived lane frame s := rfl
theorem exec_quarantineExpiry (vend : VEnd) (s : State) : exec (.quarantineExpiry vend) s = execQuarantineExpiry vend s := rfl
theorem exec_probeAnswerTimeout (lane : Lane) (s : State) : exec (.probeAnswerTimeout lane) s = execProbeAnswerTimeout lane s := rfl
theorem exec_leadInputDebounced (level : Bool) (s : State) : exec (.leadInputDebounced level) s = execLeadInputDebounced level s := rfl
theorem exec_inauEnWrite (value : Word) (s : State) : exec (.inauEnWrite value) s = execInauEnWrite value s := rfl
theorem exec_inauLeadmaskWrite (value : Word) (s : State) : exec (.inauLeadmaskWrite value) s = execInauLeadmaskWrite value s := rfl
theorem exec_inauReinauWrite (value : Word) (s : State) : exec (.inauReinauWrite value) s = execInauReinauWrite value s := rfl
theorem exec_waveStartReceived (lane : Lane) (frame : Bytes) (s : State) : exec (.waveStartReceived lane frame) s = execWaveStartReceived lane frame s := rfl
theorem exec_countRelayStart (lane : Lane) (head : Bytes) (s : State) : exec (.countRelayStart lane head) s = execCountRelayStart lane head s := rfl
theorem exec_waveCountReceived (lane : Lane) (frame : Bytes) (good : Bool) (s : State) : exec (.waveCountReceived lane frame good) s = execWaveCountReceived lane frame good s := rfl
theorem exec_agreeReceived (lane : Lane) (frame : Bytes) (s : State) : exec (.agreeReceived lane frame) s = execAgreeReceived lane frame s := rfl
theorem exec_disagreeReceived (lane : Lane) (frame : Bytes) (s : State) : exec (.disagreeReceived lane frame) s = execDisagreeReceived lane frame s := rfl
theorem exec_daybreakReceived (lane : Lane) (frame : Bytes) (ago : Nat) (s : State) : exec (.daybreakReceived lane frame ago) s = execDaybreakReceived lane frame ago s := rfl
theorem exec_mergeDaybreakReceived (lane : Lane) (frame : Bytes) (ago : Nat) (s : State) : exec (.mergeDaybreakReceived lane frame ago) s = execMergeDaybreakReceived lane frame ago s := rfl
theorem exec_outageGraceExpiry (vend : VEnd) (s : State) : exec (.outageGraceExpiry vend) s = execOutageGraceExpiry vend s := rfl
theorem exec_compact (slot : Fin 64) (s : State) : exec (.compact slot) s = execCompact slot s := rfl
theorem exec_inauMbselWrite (value : Word) (s : State) : exec (.inauMbselWrite value) s = execInauMbselWrite value s := rfl
theorem exec_guardianPoint (fwd : Bool) (s : State) : exec (.guardianPoint fwd) s = execGuardianPoint fwd s := rfl
theorem exec_ownWindowOpen (fwd : Bool) (s : State) : exec (.ownWindowOpen fwd) s = execOwnWindowOpen fwd s := rfl
theorem exec_subscriptionMaxageExpiry (entry : Nat) (s : State) : exec (.subscriptionMaxageExpiry entry) s = execSubscriptionMaxageExpiry entry s := rfl
theorem exec_schdModereqGo (value : Word) (s : State) : exec (.schdModereqGo value) s = execSchdModereqGo value s := rfl
theorem exec_schdModedescWrite (mode : Fin 8) (value : Word) (s : State) : exec (.schdModedescWrite mode value) s = execSchdModedescWrite mode value s := rfl
theorem exec_schdTableLoad (value : Word) (s : State) : exec (.schdTableLoad value) s = execSchdTableLoad value s := rfl
theorem exec_schdTableStore (value : Word) (s : State) : exec (.schdTableStore value) s = execSchdTableStore value s := rfl
theorem exec_pdreqSendTimer (lane : Lane) (s : State) : exec (.pdreqSendTimer lane) s = execPdreqSendTimer lane s := rfl
theorem exec_pdreqReceived (lane : Lane) (frame : Bytes) (ago : Nat) (stamped : Bool) (s : State) : exec (.pdreqReceived lane frame ago stamped) s = execPdreqReceived lane frame ago stamped s := rfl
theorem exec_pdrspReceived (lane : Lane) (frame : Bytes) (ago : Nat) (s : State) : exec (.pdrspReceived lane frame ago) s = execPdrspReceived lane frame ago s := rfl
theorem exec_syncWorstClear (value : Word) (s : State) : exec (.syncWorstClear value) s = execSyncWorstClear value s := rfl
theorem exec_ptpSyncReceived (port : Port) (sync : PtpSync) (ago : Nat) (s : State) : exec (.ptpSyncReceived port sync ago) s = execPtpSyncReceived port sync ago s := rfl
theorem exec_ptpMessageReceived (port : Port) (message : Bytes) (ago : Nat) (s : State) : exec (.ptpMessageReceived port message ago) s = execPtpMessageReceived port message ago s := rfl
theorem exec_ptpMessageInterval (port : Port) (timer : PtpTimer) (s : State) : exec (.ptpMessageInterval port timer) s = execPtpMessageInterval port timer s := rfl
theorem exec_todArmWrite (value : Word) (s : State) : exec (.todArmWrite value) s = execTodArmWrite value s := rfl
theorem exec_timeAcceptWrite (value : Word) (s : State) : exec (.timeAcceptWrite value) s = execTimeAcceptWrite value s := rfl
theorem exec_tpoArmWrite (unit : Fin 4) (value : Word) (s : State) : exec (.tpoArmWrite unit value) s = execTpoArmWrite unit value s := rfl
theorem exec_compareUnitFire (unit : Fin 4) (s : State) : exec (.compareUnitFire unit) s = execCompareUnitFire unit s := rfl
theorem exec_tpoPulseEnd (unit : Fin 4) (s : State) : exec (.tpoPulseEnd unit) s = execTpoPulseEnd unit s := rfl
theorem exec_captureEdge (input : Fin 4) (rising : Bool) (s : State) : exec (.captureEdge input rising) s = execCaptureEdge input rising s := rfl
theorem exec_timeMbselWrite (value : Word) (s : State) : exec (.timeMbselWrite value) s = execTimeMbselWrite value s := rfl
theorem exec_consistLinkUp (port : Port) (speed : Fin 3) (fullDuplex : Bool) (s : State) : exec (.consistLinkUp port speed fullDuplex) s = execConsistLinkUp port speed fullDuplex s := rfl
theorem exec_consistLinkDown (port : Port) (sync : Bool) (s : State) : exec (.consistLinkDown port sync) s = execConsistLinkDown port sync s := rfl
theorem exec_consistSteeringDecision (port : Port) (latch : Bytes) (ago : Nat) (s : State) : exec (.consistSteeringDecision port latch ago) s = execConsistSteeringDecision port latch ago s := rfl
theorem exec_consistBufferDraw (port : Port) (bytes : Bytes) (s : State) : exec (.consistBufferDraw port bytes) s = execConsistBufferDraw port bytes s := rfl
theorem exec_consistFrameEnd (port : Port) (bytes : Bytes) (ending : EthEnd) (ago : Nat) (s : State) : exec (.consistFrameEnd port bytes ending ago) s = execConsistFrameEnd port bytes ending ago s := rfl
theorem exec_filterRuleCommit (port : Port) (rule : Fin 64) (value : Word) (s : State) : exec (.filterRuleCommit port rule value) s = execFilterRuleCommit port rule value s := rfl
theorem exec_consistTxFrameStart (port : Port) (s : State) : exec (.consistTxFrameStart port) s = execConsistTxFrameStart port s := rfl
theorem exec_consistTxFrameEnd (port : Port) (s : State) : exec (.consistTxFrameEnd port) s = execConsistTxFrameEnd port s := rfl
theorem exec_telegramLaunch (port : Port) (s : State) : exec (.telegramLaunch port) s = execTelegramLaunch port s := rfl
theorem exec_preemptionVerifyResult (port : Port) (ok : Bool) (s : State) : exec (.preemptionVerifyResult port ok) s = execPreemptionVerifyResult port ok s := rfl
theorem exec_pauseReceived (port : Port) (quanta : BitVec 16) (s : State) : exec (.pauseReceived port quanta) s = execPauseReceived port quanta s := rfl
theorem exec_pauseHoldExpiry (port : Port) (s : State) : exec (.pauseHoldExpiry port) s = execPauseHoldExpiry port s := rfl
theorem exec_pauseRepeatTimer (port : Port) (s : State) : exec (.pauseRepeatTimer port) s = execPauseRepeatTimer port s := rfl
theorem exec_pauseXonReached (port : Port) (s : State) : exec (.pauseXonReached port) s = execPauseXonReached port s := rfl
theorem exec_pauseWatchdogTrip (port : Port) (s : State) : exec (.pauseWatchdogTrip port) s = execPauseWatchdogTrip port s := rfl
theorem exec_pauseWatchdogEnd (port : Port) (s : State) : exec (.pauseWatchdogEnd port) s = execPauseWatchdogEnd port s := rfl
theorem exec_txRingFetchStart (port : Port) (queue : Fin 8) (descs : Bytes) (s : State) : exec (.txRingFetchStart port queue descs) s = execTxRingFetchStart port queue descs s := rfl
theorem exec_ringEnableWrite (port : Port) (tx : Bool) (queue : Fin 8) (value : Word) (s : State) : exec (.ringEnableWrite port tx queue value) s = execRingEnableWrite port tx queue value s := rfl
theorem exec_ringIrqModeration (port : Port) (tx : Bool) (queue : Fin 8) (s : State) : exec (.ringIrqModeration port tx queue) s = execRingIrqModeration port tx queue s := rfl
theorem exec_mdioFrameStart (port : Port) (value : Word) (s : State) : exec (.mdioFrameStart port value) s = execMdioFrameStart port value s := rfl
theorem exec_mdioFrameEnd (port : Port) (driven : Bool) (data : BitVec 16) (s : State) : exec (.mdioFrameEnd port driven data) s = execMdioFrameEnd port driven data s := rfl
theorem exec_keyCodeDebounced (keyA : Bool) (keyB : Bool) (s : State) : exec (.keyCodeDebounced keyA keyB) s = execKeyCodeDebounced keyA keyB s := rfl
theorem exec_taskInstanceComplete (task : Fin 4) (s : State) : exec (.taskInstanceComplete task) s = execTaskInstanceComplete task s := rfl
theorem exec_telegramAssembly (station : Fin 256) (s : State) : exec (.telegramAssembly station) s = execTelegramAssembly station s := rfl
theorem exec_ioInTelegramReceived (port : Port) (frame : Bytes) (s : State) : exec (.ioInTelegramReceived port frame) s = execIoInTelegramReceived port frame s := rfl
theorem exec_stationAccwinExpiry (station : Fin 256) (s : State) : exec (.stationAccwinExpiry station) s = execStationAccwinExpiry station s := rfl
theorem exec_cyclEnWrite (value : Word) (s : State) : exec (.cyclEnWrite value) s = execCyclEnWrite value s := rfl
theorem exec_stationCfgallWrite (value : Word) (s : State) : exec (.stationCfgallWrite value) s = execStationCfgallWrite value s := rfl
theorem exec_stationTableLoad (value : Word) (s : State) : exec (.stationTableLoad value) s = execStationTableLoad value s := rfl
theorem exec_stationTableStore (value : Word) (s : State) : exec (.stationTableStore value) s = execStationTableStore value s := rfl
theorem exec_processImageHostWrite (offset : Fin 262144) (data : Bytes) (s : State) : exec (.processImageHostWrite offset data) s = execProcessImageHostWrite offset data s := rfl
theorem exec_loadWindowWrite (offset : Fin 524288) (data : Bytes) (s : State) : exec (.loadWindowWrite offset data) s = execLoadWindowWrite offset data s := rfl
theorem exec_validate (value : Word) (s : State) : exec (.validate value) s = execValidate value s := rfl
theorem exec_store (value : Word) (s : State) : exec (.store value) s = execStore value s := rfl
theorem exec_storeComplete (ok : Bool) (s : State) : exec (.storeComplete ok) s = execStoreComplete ok s := rfl
theorem exec_swap (value : Word) (s : State) : exec (.swap value) s = execSwap value s := rfl
theorem exec_setstart (value : Word) (s : State) : exec (.setstart value) s = execSetstart value s := rfl
theorem exec_reload (value : Word) (s : State) : exec (.reload value) s = execReload value s := rfl
theorem exec_cancel (value : Word) (s : State) : exec (.cancel value) s = execCancel value s := rfl
theorem exec_forceEntryStore (value : Word) (s : State) : exec (.forceEntryStore value) s = execForceEntryStore value s := rfl
theorem exec_forceClearAll (value : Word) (s : State) : exec (.forceClearAll value) s = execForceClearAll value s := rfl
theorem exec_forceEntryLoad (value : Word) (s : State) : exec (.forceEntryLoad value) s = execForceEntryLoad value s := rfl
theorem exec_twinHbReceived (frame : Bytes) (s : State) : exec (.twinHbReceived frame) s = execTwinHbReceived frame s := rfl
theorem exec_consistHbReceived (port : Port) (frame : Bytes) (s : State) : exec (.consistHbReceived port frame) s = execConsistHbReceived port frame s := rfl
theorem exec_twinTakeWrite (value : Word) (s : State) : exec (.twinTakeWrite value) s = execTwinTakeWrite value s := rfl
theorem exec_twinYieldWrite (value : Word) (s : State) : exec (.twinYieldWrite value) s = execTwinYieldWrite value s := rfl
theorem exec_twinEntryReceived (frame : Bytes) (s : State) : exec (.twinEntryReceived frame) s = execTwinEntryReceived frame s := rfl
theorem exec_twinRelayReceived (frame : Bytes) (s : State) : exec (.twinRelayReceived frame) s = execTwinRelayReceived frame s := rfl
theorem exec_mirFrameReceived (frame : Bytes) (s : State) : exec (.mirFrameReceived frame) s = execMirFrameReceived frame s := rfl
theorem exec_mirrorSealReceived (frame : Bytes) (s : State) : exec (.mirrorSealReceived frame) s = execMirrorSealReceived frame s := rfl
theorem exec_twinWakeDetected (ns : Nat) (s : State) : exec (.twinWakeDetected ns) s = execTwinWakeDetected ns s := rfl
theorem exec_restDuskWrite (value : Word) (s : State) : exec (.restDuskWrite value) s = execRestDuskWrite value s := rfl
theorem exec_duskCallReceived (lane : Lane) (frame : Bytes) (s : State) : exec (.duskCallReceived lane frame) s = execDuskCallReceived lane frame s := rfl
theorem exec_duskTokenReceived (lane : Lane) (frame : Bytes) (s : State) : exec (.duskTokenReceived lane frame) s = execDuskTokenReceived lane frame s := rfl
theorem exec_duskVerdictReceived (lane : Lane) (frame : Bytes) (s : State) : exec (.duskVerdictReceived lane frame) s = execDuskVerdictReceived lane frame s := rfl
theorem exec_duskRetractReceived (lane : Lane) (frame : Bytes) (s : State) : exec (.duskRetractReceived lane frame) s = execDuskRetractReceived lane frame s := rfl
theorem exec_wakeGuardSend (lane : Lane) (s : State) : exec (.wakeGuardSend lane) s = execWakeGuardSend lane s := rfl
theorem exec_dawnFrameReceived (lane : Lane) (frame : Bytes) (s : State) : exec (.dawnFrameReceived lane frame) s = execDawnFrameReceived lane frame s := rfl
theorem exec_wakeInputActive (active : Bool) (s : State) : exec (.wakeInputActive active) s = execWakeInputActive active s := rfl
theorem exec_restSaveWrite (value : Word) (s : State) : exec (.restSaveWrite value) s = execRestSaveWrite value s := rfl
theorem exec_suppressionTimeout (cls : Fin 256) (s : State) : exec (.suppressionTimeout cls) s = execSuppressionTimeout cls s := rfl
theorem exec_recordLineWritten (ok : Bool) (s : State) : exec (.recordLineWritten ok) s = execRecordLineWritten ok s := rfl
theorem exec_operatingTimeCalibrate (ppm : Int) (s : State) : exec (.operatingTimeCalibrate ppm) s = execOperatingTimeCalibrate ppm s := rfl
theorem exec_hostRecordWrite (value : Word) (s : State) : exec (.hostRecordWrite value) s = execHostRecordWrite value s := rfl
theorem exec_recdFreezePair (value : Word) (s : State) : exec (.recdFreezePair value) s = execRecdFreezePair value s := rfl
theorem exec_recordCursorSelect (value : Word) (ecc : Fin 3) (s : State) : exec (.recordCursorSelect value ecc) s = execRecordCursorSelect value ecc s := rfl
theorem exec_recordCursorAdvance (ecc : Fin 3) (s : State) : exec (.recordCursorAdvance ecc) s = execRecordCursorAdvance ecc s := rfl
theorem exec_rateClassStore (value : Word) (s : State) : exec (.rateClassStore value) s = execRateClassStore value s := rfl
theorem exec_rateClassLoad (value : Word) (s : State) : exec (.rateClassLoad value) s = execRateClassLoad value s := rfl
theorem exec_mirrorCopy (ok : Bool) (s : State) : exec (.mirrorCopy ok) s = execMirrorCopy ok s := rfl
theorem exec_mirrorRetry (ok : Bool) (s : State) : exec (.mirrorRetry ok) s = execMirrorRetry ok s := rfl
theorem exec_hostRead (tag : Nat) (bar : Fin 2) (addr : Fin 16777216) (dws : Nat) (fbe : Fin 16) (lbe : Fin 16) (ecc : Bool) (s : State) : exec (.hostRead tag bar addr dws fbe lbe ecc) s = execHostRead tag bar addr dws fbe lbe ecc s := rfl
theorem exec_hostPostedWrite (bar : Fin 2) (addr : Fin 16777216) (data : Bytes) (fbe : Fin 16) (lbe : Fin 16) (s : State) : exec (.hostPostedWrite bar addr data fbe lbe) s = execHostPostedWrite bar addr data fbe lbe s := rfl
theorem exec_farTimeout (id : Nat) (s : State) : exec (.farTimeout id) s = execFarTimeout id s := rfl
theorem exec_fseqFenceRead (tag : Nat) (s : State) : exec (.fseqFenceRead tag) s = execFseqFenceRead tag s := rfl
theorem exec_brdgFselWrite (value : Word) (s : State) : exec (.brdgFselWrite value) s = execBrdgFselWrite value s := rfl
theorem exec_pcieReset (kind : Fin 4) (s : State) : exec (.pcieReset kind) s = execPcieReset kind s := rfl
theorem exec_pcieLinkChange (up : Bool) (speed : Fin 2) (width : Fin 3) (s : State) : exec (.pcieLinkChange up speed width) s = execPcieLinkChange up speed width s := rfl
theorem exec_farLockRequest (value : Word) (s : State) : exec (.farLockRequest value) s = execFarLockRequest value s := rfl
theorem exec_farLockGrant (ok : Bool) (s : State) : exec (.farLockGrant ok) s = execFarLockGrant ok s := rfl
theorem exec_semaphoreRead (who : Fin 5) (sem : Fin 32) (s : State) : exec (.semaphoreRead who sem) s = execSemaphoreRead who sem s := rfl
theorem exec_semaphoreReleaseWrite (who : Fin 5) (sem : Fin 32) (value : Word) (s : State) : exec (.semaphoreReleaseWrite who sem value) s = execSemaphoreReleaseWrite who sem value s := rfl
theorem exec_stackWriteReceived (port : Fin 2) (packet : Bytes) (ecc : Bool) (s : State) : exec (.stackWriteReceived port packet ecc) s = execStackWriteReceived port packet ecc s := rfl
theorem exec_stackReadReceived (port : Fin 2) (packet : Bytes) (ecc : Bool) (s : State) : exec (.stackReadReceived port packet ecc) s = execStackReadReceived port packet ecc s := rfl
theorem exec_stackCompletionReceived (port : Fin 2) (packet : Bytes) (s : State) : exec (.stackCompletionReceived port packet) s = execStackCompletionReceived port packet s := rfl
theorem exec_stackFrameReceived (port : Fin 2) (packet : Bytes) (s : State) : exec (.stackFrameReceived port packet) s = execStackFrameReceived port packet s := rfl
theorem exec_stackMsgReceived (port : Fin 2) (packet : Bytes) (s : State) : exec (.stackMsgReceived port packet) s = execStackMsgReceived port packet s := rfl
theorem exec_stackLockReceived (port : Fin 2) (packet : Bytes) (s : State) : exec (.stackLockReceived port packet) s = execStackLockReceived port packet s := rfl
theorem exec_stackPortDown (port : Fin 2) (trained : Bool) (peer : Fin 4) (s : State) : exec (.stackPortDown port trained peer) s = execStackPortDown port trained peer s := rfl
theorem exec_stackResetWrite (value : Word) (s : State) : exec (.stackResetWrite value) s = execStackResetWrite value s := rfl
theorem exec_nop (slot : Fin 64) (s : State) : exec (.nop slot) s = execNop slot s := rfl
theorem exec_ident (slot : Fin 64) (s : State) : exec (.ident slot) s = execIdent slot s := rfl
theorem exec_regrd (slot : Fin 64) (s : State) : exec (.regrd slot) s = execRegrd slot s := rfl
theorem exec_regwr (slot : Fin 64) (s : State) : exec (.regwr slot) s = execRegwr slot s := rfl
theorem exec_mbrd (slot : LineRead) (s : State) : exec (.mbrd slot) s = execMbrd slot s := rfl
theorem exec_prgload (slot : Fin 64) (s : State) : exec (.prgload slot) s = execPrgload slot s := rfl
theorem exec_prgop (slot : Fin 64) (s : State) : exec (.prgop slot) s = execPrgop slot s := rfl
theorem exec_force (slot : Fin 64) (s : State) : exec (.force slot) s = execForce slot s := rfl
theorem exec_recwr (slot : Fin 64) (s : State) : exec (.recwr slot) s = execRecwr slot s := rfl
theorem exec_recrd (slot : LineRead) (s : State) : exec (.recrd slot) s = execRecrd slot s := rfl
theorem exec_freeze (slot : Fin 64) (s : State) : exec (.freeze slot) s = execFreeze slot s := rfl
theorem exec_duskreq (slot : Fin 64) (s : State) : exec (.duskreq slot) s = execDuskreq slot s := rfl
theorem exec_save (slot : Fin 64) (s : State) : exec (.save slot) s = execSave slot s := rfl
theorem exec_reinau (slot : Fin 64) (s : State) : exec (.reinau slot) s = execReinau slot s := rfl
theorem exec_modereq (slot : Fin 64) (s : State) : exec (.modereq slot) s = execModereq slot s := rfl
theorem exec_keyset (slot : Fin 64) (s : State) : exec (.keyset slot) s = execKeyset slot s := rfl
theorem exec_keydel (slot : Fin 64) (s : State) : exec (.keydel slot) s = execKeydel slot s := rfl
theorem exec_rsend (slot : Fin 64) (s : State) : exec (.rsend slot) s = execRsend slot s := rfl
theorem exec_cmdWaitTimeout (slot : Fin 64) (s : State) : exec (.cmdWaitTimeout slot) s = execCmdWaitTimeout slot s := rfl
theorem exec_rsendTimeout (slot : Fin 64) (s : State) : exec (.rsendTimeout slot) s = execRsendTimeout slot s := rfl
theorem exec_cmdFrameReceived (lane : Lane) (frame : Bytes) (s : State) : exec (.cmdFrameReceived lane frame) s = execCmdFrameReceived lane frame s := rfl
theorem exec_cplFrameReceived (lane : Lane) (frame : Bytes) (s : State) : exec (.cplFrameReceived lane frame) s = execCplFrameReceived lane frame s := rfl
theorem exec_cmdEnableWrite (value : Word) (s : State) : exec (.cmdEnableWrite value) s = execCmdEnableWrite value s := rfl
theorem exec_keyArm (value : Word) (s : State) : exec (.keyArm value) s = execKeyArm value s := rfl
theorem exec_blockReset (value : Word) (s : State) : exec (.blockReset value) s = execBlockReset value s := rfl
theorem exec_snapshotNow (value : Word) (s : State) : exec (.snapshotNow value) s = execSnapshotNow value s := rfl
theorem exec_snapinEdge (rising : Bool) (s : State) : exec (.snapinEdge rising) s = execSnapinEdge rising s := rfl
theorem exec_midnightRequest (value : Word) (s : State) : exec (.midnightRequest value) s = execMidnightRequest value s := rfl
theorem exec_midnFrameReceived (lane : Lane) (frame : Bytes) (s : State) : exec (.midnFrameReceived lane frame) s = execMidnFrameReceived lane frame s := rfl
theorem exec_telemetrySweep (tj : Int) (vin : Nat) (vio1 : Nat) (vio2 : Nat) (vcore : Nat) (sp : Nat) (s : State) : exec (.telemetrySweep tj vin vio1 vio2 vcore sp) s = execTelemetrySweep tj vin vio1 vio2 vcore sp s := rfl
theorem exec_telemetryAlarmEnd (quantity : Fin 6) (s : State) : exec (.telemetryAlarmEnd quantity) s = execTelemetryAlarmEnd quantity s := rfl
theorem exec_scrubStep (region : Fin 8) (addr : BitVec 23) (err : Fin 3) (s : State) : exec (.scrubStep region addr err) s = execScrubStep region addr err s := rfl
theorem exec_laneCalibrationStart (lane : Lane) (s : State) : exec (.laneCalibrationStart lane) s = execLaneCalibrationStart lane s := rfl
theorem exec_hkpLcalWrite (value : Word) (s : State) : exec (.hkpLcalWrite value) s = execHkpLcalWrite value s := rfl
theorem exec_laneCalibrationComplete (lane : Lane) (result : Int) (s : State) : exec (.laneCalibrationComplete lane result) s = execLaneCalibrationComplete lane result s := rfl
theorem exec_hkpMpatWrite (value : Word) (s : State) : exec (.hkpMpatWrite value) s = execHkpMpatWrite value s := rfl
theorem exec_mramPatrolSector (region : Fin 12) (line : Nat) (corrected : Nat) (uncorrectable : Bool) (last : Bool) (s : State) : exec (.mramPatrolSector region line corrected uncorrectable last) s = execMramPatrolSector region line corrected uncorrectable last s := rfl
theorem exec_resetRelease (stack : Fin 4) (half : Fin 2) (boot : Fin 4) (flash : Flash) (s : State) : exec (.resetRelease stack half boot flash) s = execResetRelease stack half boot flash s := rfl
theorem exec_pinReset (low : Bool) (s : State) : exec (.pinReset low) s = execPinReset low s := rfl
theorem exec_twilightThermalHold (tj : Int) (s : State) : exec (.twilightThermalHold tj) s = execTwilightThermalHold tj s := rfl
theorem exec_vioBankLoss (bank : Fin 2) (s : State) : exec (.vioBankLoss bank) s = execVioBankLoss bank s := rfl
theorem exec_vioBankRestore (bank : Fin 2) (s : State) : exec (.vioBankRestore bank) s = execVioBankRestore bank s := rfl
theorem exec_paceLevelWrite (value : Word) (s : State) : exec (.paceLevelWrite value) s = execPaceLevelWrite value s := rfl
theorem exec_retainedImageSave (value : Word) (s : State) : exec (.retainedImageSave value) s = execRetainedImageSave value s := rfl
theorem exec_hkpSselWrite (value : Word) (s : State) : exec (.hkpSselWrite value) s = execHkpSselWrite value s := rfl
theorem exec_giantByteReceived (lane : Lane) (bytes : Bytes) (s : State) : exec (.giantByteReceived lane bytes) s = execGiantByteReceived lane bytes s := rfl
theorem exec_consistGiantByte (port : Port) (bytes : Bytes) (s : State) : exec (.consistGiantByte port bytes) s = execConsistGiantByte port bytes s := rfl
theorem exec_hostFetchComplete (tag : Nat) (data : Bytes) (s : State) : exec (.hostFetchComplete tag data) s = execHostFetchComplete tag data s := rfl
theorem exec_pcieConfigRequest (tag : Nat) (write : Bool) (item : Fin 32) (value : Word) (s : State) : exec (.pcieConfigRequest tag write item value) s = execPcieConfigRequest tag write item value s := rfl
theorem exec_cycleBoundary (s : State) : exec (.cycleBoundary) s = execCycleBoundary s := rfl
theorem exec_poolConservationCheck (s : State) : exec (.poolConservationCheck) s = execPoolConservationCheck s := rfl
theorem exec_fwdPoolaRead (s : State) : exec (.fwdPoolaRead) s = execFwdPoolaRead s := rfl
theorem exec_tStartupExpiry (s : State) : exec (.tStartupExpiry) s = execTStartupExpiry s := rfl
theorem exec_tSettleExpiry (s : State) : exec (.tSettleExpiry) s = execTSettleExpiry s := rfl
theorem exec_rosterComputeComplete (s : State) : exec (.rosterComputeComplete) s = execRosterComputeComplete s := rfl
theorem exec_tWaveExpiry (s : State) : exec (.tWaveExpiry) s = execTWaveExpiry s := rfl
theorem exec_tAgreeExpiry (s : State) : exec (.tAgreeExpiry) s = execTAgreeExpiry s := rfl
theorem exec_rephaseBoundary (s : State) : exec (.rephaseBoundary) s = execRephaseBoundary s := rfl
theorem exec_modeann (s : State) : exec (.modeann) s = execModeann s := rfl
theorem exec_pendingModeLapse (s : State) : exec (.pendingModeLapse) s = execPendingModeLapse s := rfl
theorem exec_catchUpComplete (s : State) : exec (.catchUpComplete) s = execCatchUpComplete s := rfl
theorem exec_timenot (s : State) : exec (.timenot) s = execTimenot s := rfl
theorem exec_ppsEdge (s : State) : exec (.ppsEdge) s = execPpsEdge s := rfl
theorem exec_referenceLost (s : State) : exec (.referenceLost) s = execReferenceLost s := rfl
theorem exec_steeringIntervalEnd (s : State) : exec (.steeringIntervalEnd) s = execSteeringIntervalEnd s := rfl
theorem exec_captureFifoPop (s : State) : exec (.captureFifoPop) s = execCaptureFifoPop s := rfl
theorem exec_taskCommit (s : State) : exec (.taskCommit) s = execTaskCommit s := rfl
theorem exec_validateComplete (s : State) : exec (.validateComplete) s = execValidateComplete s := rfl
theorem exec_twinHbTick (s : State) : exec (.twinHbTick) s = execTwinHbTick s := rfl
theorem exec_consistHbSend (s : State) : exec (.consistHbSend) s = execConsistHbSend s := rfl
theorem exec_twinPathSilent (s : State) : exec (.twinPathSilent) s = execTwinPathSilent s := rfl
theorem exec_consistPathSilent (s : State) : exec (.consistPathSilent) s = execConsistPathSilent s := rfl
theorem exec_seekTimeout (s : State) : exec (.seekTimeout) s = execSeekTimeout s := rfl
theorem exec_rolenot (s : State) : exec (.rolenot) s = execRolenot s := rfl
theorem exec_verdict (s : State) : exec (.verdict) s = execVerdict s := rfl
theorem exec_duskWakeReason (s : State) : exec (.duskWakeReason) s = execDuskWakeReason s := rfl
theorem exec_duskRoundTimeout (s : State) : exec (.duskRoundTimeout) s = execDuskRoundTimeout s := rfl
theorem exec_duskConsentTimeout (s : State) : exec (.duskConsentTimeout) s = execDuskConsentTimeout s := rfl
theorem exec_duskDimming (s : State) : exec (.duskDimming) s = execDuskDimming s := rfl
theorem exec_duskCommit (s : State) : exec (.duskCommit) s = execDuskCommit s := rfl
theorem exec_duskSleepEntry (s : State) : exec (.duskSleepEntry) s = execDuskSleepEntry s := rfl
theorem exec_heldDawnStart (s : State) : exec (.heldDawnStart) s = execHeldDawnStart s := rfl
theorem exec_alarmWake (s : State) : exec (.alarmWake) s = execAlarmWake s := rfl
theorem exec_dawnWakePatternEnd (s : State) : exec (.dawnWakePatternEnd) s = execDawnWakePatternEnd s := rfl
theorem exec_configSaveComplete (s : State) : exec (.configSaveComplete) s = execConfigSaveComplete s := rfl
theorem exec_recordStage (s : State) : exec (.recordStage) s = execRecordStage s := rfl
theorem exec_lossRecordStage (s : State) : exec (.lossRecordStage) s = execLossRecordStage s := rfl
theorem exec_recordWriteStart (s : State) : exec (.recordWriteStart) s = execRecordWriteStart s := rfl
theorem exec_recorderScanComplete (s : State) : exec (.recorderScanComplete) s = execRecorderScanComplete s := rfl
theorem exec_checkpointWrite (s : State) : exec (.checkpointWrite) s = execCheckpointWrite s := rfl
theorem exec_freezeExpiry (s : State) : exec (.freezeExpiry) s = execFreezeExpiry s := rfl
theorem exec_fenceComplete (s : State) : exec (.fenceComplete) s = execFenceComplete s := rfl
theorem exec_prefetchFlush (s : State) : exec (.prefetchFlush) s = execPrefetchFlush s := rfl
theorem exec_prefetchExpiry (s : State) : exec (.prefetchExpiry) s = execPrefetchExpiry s := rfl
theorem exec_farLockRelease (s : State) : exec (.farLockRelease) s = execFarLockRelease s := rfl
theorem exec_farLockTimeout (s : State) : exec (.farLockTimeout) s = execFarLockTimeout s := rfl
theorem exec_stackUplinkTimeout (s : State) : exec (.stackUplinkTimeout) s = execStackUplinkTimeout s := rfl
theorem exec_cmdSubmissionFetch (s : State) : exec (.cmdSubmissionFetch) s = execCmdSubmissionFetch s := rfl
theorem exec_commandReset (s : State) : exec (.commandReset) s = execCommandReset s := rfl
theorem exec_keyArmExpiry (s : State) : exec (.keyArmExpiry) s = execKeyArmExpiry s := rfl
theorem exec_midnightFire (s : State) : exec (.midnightFire) s = execMidnightFire s := rfl
theorem exec_scrubRepair (s : State) : exec (.scrubRepair) s = execScrubRepair s := rfl
theorem exec_mramPatrolPeriod (s : State) : exec (.mramPatrolPeriod) s = execMramPatrolPeriod s := rfl
theorem exec_activityStart (s : State) : exec (.activityStart) s = execActivityStart s := rfl
theorem exec_vinLoss (s : State) : exec (.vinLoss) s = execVinLoss s := rfl
theorem exec_powerOnReset (s : State) : exec (.powerOnReset) s = execPowerOnReset s := rfl
theorem exec_watchdogReset (s : State) : exec (.watchdogReset) s = execWatchdogReset s := rfl
theorem exec_thermalReset (s : State) : exec (.thermalReset) s = execThermalReset s := rfl
theorem exec_warmResetHoldoffEnd (s : State) : exec (.warmResetHoldoffEnd) s = execWarmResetHoldoffEnd s := rfl
theorem exec_twilightWatchdog (s : State) : exec (.twilightWatchdog) s = execTwilightWatchdog s := rfl
theorem exec_regulatorCurrentLimit (s : State) : exec (.regulatorCurrentLimit) s = execRegulatorCurrentLimit s := rfl
theorem exec_paceChangeComplete (s : State) : exec (.paceChangeComplete) s = execPaceChangeComplete s := rfl
theorem exec_recdOpsecRead (s : State) : exec (.recdOpsecRead) s = execRecdOpsecRead s := rfl
theorem exec_daybreakBoundary (s : State) : exec (.daybreakBoundary) s = execDaybreakBoundary s := rfl
theorem exec_noagreeRoundSpacing (s : State) : exec (.noagreeRoundSpacing) s = execNoagreeRoundSpacing s := rfl
theorem exec_nwakeoutRelease (s : State) : exec (.nwakeoutRelease) s = execNwakeoutRelease s := rfl
theorem exec_thermalResetRelease (s : State) : exec (.thermalResetRelease) s = execThermalResetRelease s := rfl
theorem exec_twilightThermalHoldEnd (s : State) : exec (.twilightThermalHoldEnd) s = execTwilightThermalHoldEnd s := rfl

end Sys2Proof.Machine
end

