-- ==== Sys2Proof/Laws/Memory.lean ====
section
/-! SUPPORT. Addressed memories: a read after a write, and that every operation keeps the canonical form. -/

namespace Sys2Proof.Machine

theorem Memory.wfFrom_mono {m : Memory} {lo lo' : Nat} (h : lo' ≤ lo) (hw : Memory.wfFrom lo m = true) : Memory.wfFrom lo' m = true := by
  cases m with
  | nil => rfl
  | cons c m =>
    obtain ⟨a, b⟩ := c
    simp only [Memory.wfFrom, Bool.and_eq_true, decide_eq_true_eq] at hw ⊢
    exact ⟨⟨le_trans h hw.1.1, hw.1.2⟩, hw.2⟩

theorem Memory.read_below {m : Memory} {lo x : Nat} (h : x < lo) (hw : Memory.wfFrom lo m = true) : m.read x = 0 := by
  induction m generalizing lo with
  | nil => rfl
  | cons c m ih =>
    obtain ⟨a, b⟩ := c
    simp only [Memory.wfFrom, Bool.and_eq_true, decide_eq_true_eq] at hw
    have : a ≠ x := by omega
    simp [Memory.read, this, ih (lo := a + 1) (by omega) hw.2]

theorem Memory.erase_wfFrom {m : Memory} {lo : Nat} (x : Nat) (hw : Memory.wfFrom lo m = true) : Memory.wfFrom lo (m.erase x) = true := by
  induction m generalizing lo with
  | nil => rfl
  | cons c m ih =>
    obtain ⟨a, b⟩ := c
    simp only [Memory.wfFrom, Bool.and_eq_true, decide_eq_true_eq] at hw
    unfold Memory.erase
    split
    · exact Memory.wfFrom_mono (by omega) hw.2
    · simp only [Memory.wfFrom, Bool.and_eq_true, decide_eq_true_eq]
      exact ⟨hw.1, ih hw.2⟩

theorem Memory.insert_wfFrom {m : Memory} {lo x : Nat} {v : Byte} (hx : lo ≤ x) (hv : v ≠ 0) (hw : Memory.wfFrom lo m = true) :
    Memory.wfFrom lo (m.insert x v) = true := by
  induction m generalizing lo with
  | nil => simpa [Memory.insert, Memory.wfFrom, hx] using hv
  | cons c m ih =>
    obtain ⟨a, b⟩ := c
    simp only [Memory.wfFrom, Bool.and_eq_true, decide_eq_true_eq] at hw
    unfold Memory.insert
    split
    · simp only [Memory.wfFrom, Bool.and_eq_true, decide_eq_true_eq]
      exact ⟨⟨hx, by simpa using hv⟩, ⟨by omega, hw.1.2⟩, hw.2⟩
    · split
      · simp only [Memory.wfFrom, Bool.and_eq_true, decide_eq_true_eq]
        rename_i h
        exact ⟨⟨hx, by simpa using hv⟩, h ▸ hw.2⟩
      · simp only [Memory.wfFrom, Bool.and_eq_true, decide_eq_true_eq]
        exact ⟨hw.1, ih (by omega) hw.2⟩

/-- A write keeps the canonical form. -/
theorem Memory.write_wf {m : Memory} (x : Nat) (v : Byte) (hw : m.wf = true) : (m.write x v).wf = true := by
  unfold Memory.write Memory.wf at *
  split
  · exact Memory.erase_wfFrom x hw
  · exact Memory.insert_wfFrom (Nat.zero_le x) (by assumption) hw

/-- A write of bytes keeps the canonical form. -/
theorem Memory.writeAll_wf {m : Memory} (x : Nat) (bs : Bytes) (hw : m.wf = true) : (m.writeAll x bs).wf = true := by
  induction bs generalizing m x with
  | nil => exact hw
  | cons b bs ih => exact ih (x + 1) (Memory.write_wf x b hw)

theorem Memory.read_erase {m : Memory} {lo : Nat} (x y : Nat) (hw : Memory.wfFrom lo m = true) :
    (m.erase x).read y = if x = y then 0 else m.read y := by
  induction m generalizing lo with
  | nil => simp [Memory.erase, Memory.read]
  | cons c m ih =>
    obtain ⟨a, b⟩ := c
    simp only [Memory.wfFrom, Bool.and_eq_true, decide_eq_true_eq] at hw
    unfold Memory.erase
    by_cases hax : a = x
    · simp only [hax, if_true]
      by_cases hxy : x = y
      · simp only [hxy, if_true]
        exact Memory.read_below (lo := a + 1) (by omega) hw.2
      · simp [hxy, Memory.read]
    · simp only [hax, if_false, Memory.read]
      by_cases hay : a = y
      · have : x ≠ y := by omega
        simp [hay, this]
      · simp [hay, ih hw.2]

theorem Memory.read_insert {m : Memory} {lo : Nat} (x y : Nat) (v : Byte) (hw : Memory.wfFrom lo m = true) :
    (m.insert x v).read y = if x = y then v else m.read y := by
  induction m generalizing lo with
  | nil => simp [Memory.insert, Memory.read]
  | cons c m ih =>
    obtain ⟨a, b⟩ := c
    simp only [Memory.wfFrom, Bool.and_eq_true, decide_eq_true_eq] at hw
    unfold Memory.insert
    split
    · simp [Memory.read]
    · split
      · rename_i h1 h2
        subst h2
        by_cases hay : a = y <;> simp [Memory.read, hay]
      · simp only [Memory.read]
        by_cases hay : a = y
        · have : x ≠ y := by omega
          simp [hay, this]
        · simp [hay, ih hw.2]

/-- A read after a write gives the byte written there and leaves every other address alone. -/
theorem Memory.read_write {m : Memory} (x y : Nat) (v : Byte) (hw : m.wf = true) :
    (m.write x v).read y = if x = y then v else m.read y := by
  unfold Memory.write
  split
  · rename_i h
    rw [Memory.read_erase x y hw, h]
  · exact Memory.read_insert x y v hw

theorem Memory.wfFrom_append {a b : Memory} {lo mid : Nat} (ha : Memory.wfFrom lo a = true) (hb : Memory.wfFrom mid b = true)
    (hlt : ∀ c ∈ a, c.1 < mid) (hlo : lo ≤ mid) : Memory.wfFrom lo (a ++ b) = true := by
  induction a generalizing lo with
  | nil => exact Memory.wfFrom_mono hlo hb
  | cons c a ih =>
    obtain ⟨x, v⟩ := c
    simp only [List.cons_append, Memory.wfFrom, Bool.and_eq_true, decide_eq_true_eq] at ha ⊢
    exact ⟨ha.1, ih ha.2 (fun c hc => hlt c (List.mem_cons_of_mem _ hc)) (hlt (x, v) (List.mem_cons_self ..))⟩

theorem Memory.wfFrom_filter {m : Memory} {lo : Nat} (p : Host.Cell → Bool) (hw : Memory.wfFrom lo m = true) :
    Memory.wfFrom lo (m.filter p) = true := by
  induction m generalizing lo with
  | nil => rfl
  | cons c m ih =>
    obtain ⟨x, v⟩ := c
    simp only [Memory.wfFrom, Bool.and_eq_true, decide_eq_true_eq] at hw
    rw [List.filter_cons]
    split
    · simp only [Memory.wfFrom, Bool.and_eq_true, decide_eq_true_eq]
      exact ⟨hw.1, ih hw.2⟩
    · exact Memory.wfFrom_mono (by omega) (ih hw.2)

theorem Memory.wfFrom_raise {m : Memory} {lo x : Nat} (hw : Memory.wfFrom lo m = true) (h : ∀ c ∈ m, x ≤ c.1) :
    Memory.wfFrom x m = true := by
  cases m with
  | nil => rfl
  | cons c m =>
    obtain ⟨a, v⟩ := c
    simp only [Memory.wfFrom, Bool.and_eq_true, decide_eq_true_eq] at hw ⊢
    exact ⟨⟨h (a, v) (List.mem_cons_self ..), hw.1.2⟩, hw.2⟩

/-- A copy of a range keeps the canonical form. -/
theorem Memory.copyRange_wf {dst src : Memory} (x n : Nat) (hd : dst.wf = true) (hs : src.wf = true) :
    (dst.copyRange src x n).wf = true := by
  unfold Memory.wf Memory.copyRange at *
  have h1 := Memory.wfFrom_filter (fun c => decide (c.1 < x)) hd
  have h2 : Memory.wfFrom x (src.filter fun c => decide (x ≤ c.1) && decide (c.1 < x + n)) = true :=
    Memory.wfFrom_raise (Memory.wfFrom_filter _ hs) (by simp; omega)
  have h3 : Memory.wfFrom (x + n) (dst.filter fun c => decide (x + n ≤ c.1)) = true :=
    Memory.wfFrom_raise (Memory.wfFrom_filter _ hd) (by simp)
  have h12 := Memory.wfFrom_append h1 h2 (by simp) (Nat.zero_le x)
  exact Memory.wfFrom_append h12 h3 (by simp; omega) (Nat.zero_le _)

end Sys2Proof.Machine
end

