-- ==== Sys2Proof/Laws/Regs.lean ====
section
/-! SUPPORT. Register fields: a read after a write, and that the register table keeps its rising order. -/

namespace Sys2Proof.Machine

@[simp] theorem Fld.at_width (f : Fld) (n : Nat) : (f.at n).width = f.width := rfl
@[simp] theorem Fld.ix_width (f : Fld) (n : Nat) : (f.ix n).width = f.width := rfl

theorem lookupKey_eraseKey (k j : Nat) (l : List (Nat × Nat)) :
    lookupKey k (eraseKey j l) = if k = j then none else lookupKey k l := by
  induction l with
  | nil => simp [eraseKey, lookupKey]
  | cons c l ih =>
    obtain ⟨a, v⟩ := c
    unfold eraseKey
    by_cases haj : a = j
    · simp only [haj, if_true, ih, lookupKey]
      by_cases hkj : k = j
      · simp [hkj]
      · have : j ≠ k := fun h => hkj h.symm
        simp [hkj, this]
    · simp only [haj, if_false, lookupKey]
      by_cases hak : a = k
      · have : k ≠ j := by omega
        simp [hak, this]
      · simp [hak, ih]

theorem lookupKey_insertKey (k j v : Nat) (l : List (Nat × Nat)) (h : lookupKey j l = none) :
    lookupKey k (insertKey j v l) = if k = j then some v else lookupKey k l := by
  induction l with
  | nil =>
    simp only [insertKey, lookupKey]
    by_cases hkj : k = j
    · simp [hkj]
    · have : j ≠ k := fun h => hkj h.symm
      simp [hkj, this]
  | cons c l ih =>
    obtain ⟨a, w⟩ := c
    simp only [lookupKey] at h
    have haj : a ≠ j := by intro e; simp [e] at h
    simp only [haj, if_false] at h
    unfold insertKey
    split
    · simp only [lookupKey]
      by_cases hkj : k = j
      · simp [hkj]
      · have : j ≠ k := fun h => hkj h.symm
        simp [hkj, this]
    · simp only [lookupKey, ih h]
      by_cases hak : a = k
      · have : k ≠ j := by omega
        simp [hak, this]
      · simp [hak]

/-- A list filtered by its keys shows what stands under the keys kept. -/
theorem lookupKey_filter (k : Nat) (p : Nat → Bool) (l : List (Nat × Nat)) :
    lookupKey k (l.filter fun e => p e.1) = if p k then lookupKey k l else none := by
  induction l with
  | nil => simp [lookupKey]
  | cons c l ih =>
    obtain ⟨a, v⟩ := c
    by_cases ha : p a
    · simp only [List.filter_cons, ha, if_true, lookupKey, ih]
      by_cases hak : a = k
      · subst hak; simp [ha]
      · simp [hak]
    · have ha' : p a = false := by simpa using ha
      rw [List.filter_cons_of_neg (by simp [ha']), ih]
      by_cases hak : a = k
      · subst hak; simp [ha']
      · simp [hak, lookupKey]

/-- What a field reads as after a write of that field or of another one. -/
theorem State.get_put (s : State) (f g : Fld) (v : Nat) :
    (s.put f v).get g = if g.key = f.key then (if v % 2 ^ f.width = f.default then g.default else v % 2 ^ f.width) else s.get g := by
  unfold State.put State.get
  by_cases hk : g.key = f.key
  · by_cases hd : v % 2 ^ f.width = f.default
    · simp [hk, hd, lookupKey_eraseKey]
    · simp [hk, hd, lookupKey_insertKey, lookupKey_eraseKey]
  · by_cases hd : v % 2 ^ f.width = f.default
    · simp [hk, hd, lookupKey_eraseKey]
    · simp [hk, hd, lookupKey_insertKey, lookupKey_eraseKey]

/-- A field reads as what was written, cut to its width. -/
@[simp] theorem State.get_put_self (s : State) (f : Fld) (v : Nat) : (s.put f v).get f = v % 2 ^ f.width := by
  rw [State.get_put, if_pos rfl]
  split
  · rename_i h; exact h.symm
  · rfl

/-- A field of another place stands as it was. -/
theorem State.get_put_ne (s : State) (f g : Fld) (v : Nat) (h : g.key ≠ f.key) : (s.put f v).get g = s.get g := by
  rw [State.get_put, if_neg h]

/-- A field reads from the register table alone. -/
theorem State.get_congr {s t : State} (h : s.regs = t.regs) (f : Fld) : s.get f = t.get f := by
  unfold State.get
  rw [h]

end Sys2Proof.Machine
end

