-- ==== Sys2Proof/Laws/State.lean ====
section
/-! SUPPORT. One lemma per field of the state and per named update: the fields that the update leaves alone. -/

namespace Sys2Proof.Machine.State

@[simp] theorem put_pending (s : State) (f : Fld) (v : Nat) : (s.put f v).pending = s.pending := rfl
@[simp] theorem put_now (s : State) (f : Fld) (v : Nat) : (s.put f v).now = s.now := rfl
@[simp] theorem put_power (s : State) (f : Fld) (v : Nat) : (s.put f v).power = s.power := rfl
@[simp] theorem put_cycRun (s : State) (f : Fld) (v : Nat) : (s.put f v).cycRun = s.cycRun := rfl
@[simp] theorem put_cyc (s : State) (f : Fld) (v : Nat) : (s.put f v).cyc = s.cyc := rfl
@[simp] theorem put_bnd (s : State) (f : Fld) (v : Nat) : (s.put f v).bnd = s.bnd := rfl
@[simp] theorem put_opBase (s : State) (f : Fld) (v : Nat) : (s.put f v).opBase = s.opBase := rfl
@[simp] theorem put_opAt (s : State) (f : Fld) (v : Nat) : (s.put f v).opAt = s.opAt := rfl
@[simp] theorem put_opPpm (s : State) (f : Fld) (v : Nat) : (s.put f v).opPpm = s.opPpm := rfl
@[simp] theorem put_events (s : State) (f : Fld) (v : Nat) : (s.put f v).events = s.events := rfl
@[simp] theorem put_outs (s : State) (f : Fld) (v : Nat) : (s.put f v).outs = s.outs := rfl
@[simp] theorem put_onceGen (s : State) (f : Fld) (v : Nat) : (s.put f v).onceGen = s.onceGen := rfl
@[simp] theorem put_onceSec (s : State) (f : Fld) (v : Nat) : (s.put f v).onceSec = s.onceSec := rfl
@[simp] theorem put_onceSess (s : State) (f : Fld) (v : Nat) : (s.put f v).onceSess = s.onceSess := rfl
@[simp] theorem put_free (s : State) (f : Fld) (v : Nat) : (s.put f v).free = s.free := rfl
@[simp] theorem put_lanes (s : State) (f : Fld) (v : Nat) : (s.put f v).lanes = s.lanes := rfl
@[simp] theorem put_inau (s : State) (f : Fld) (v : Nat) : (s.put f v).inau = s.inau := rfl
@[simp] theorem put_sched (s : State) (f : Fld) (v : Nat) : (s.put f v).sched = s.sched := rfl
@[simp] theorem put_sync (s : State) (f : Fld) (v : Nat) : (s.put f v).sync = s.sync := rfl
@[simp] theorem put_time (s : State) (f : Fld) (v : Nat) : (s.put f v).time = s.time := rfl
@[simp] theorem put_fab (s : State) (f : Fld) (v : Nat) : (s.put f v).fab = s.fab := rfl
@[simp] theorem put_msix (s : State) (f : Fld) (v : Nat) : (s.put f v).msix = s.msix := rfl
@[simp] theorem put_glb (s : State) (f : Fld) (v : Nat) : (s.put f v).glb = s.glb := rfl
@[simp] theorem put_twin (s : State) (f : Fld) (v : Nat) : (s.put f v).twin = s.twin := rfl
@[simp] theorem put_img (s : State) (f : Fld) (v : Nat) : (s.put f v).img = s.img := rfl
@[simp] theorem put_ports (s : State) (f : Fld) (v : Nat) : (s.put f v).ports = s.ports := rfl
@[simp] theorem put_host (s : State) (f : Fld) (v : Nat) : (s.put f v).host = s.host := rfl
@[simp] theorem put_cmd (s : State) (f : Fld) (v : Nat) : (s.put f v).cmd = s.cmd := rfl
@[simp] theorem put_eng (s : State) (f : Fld) (v : Nat) : (s.put f v).eng = s.eng := rfl
@[simp] theorem put_prg (s : State) (f : Fld) (v : Nat) : (s.put f v).prg = s.prg := rfl
@[simp] theorem put_recd (s : State) (f : Fld) (v : Nat) : (s.put f v).recd = s.recd := rfl
@[simp] theorem put_rest (s : State) (f : Fld) (v : Nat) : (s.put f v).rest = s.rest := rfl
@[simp] theorem put_pwr (s : State) (f : Fld) (v : Nat) : (s.put f v).pwr = s.pwr := rfl
@[simp] theorem put_brdg (s : State) (f : Fld) (v : Nat) : (s.put f v).brdg = s.brdg := rfl
@[simp] theorem put_hkp (s : State) (f : Fld) (v : Nat) : (s.put f v).hkp = s.hkp := rfl

@[simp] theorem putB_pending (s : State) (f : Fld) (b : Bool) : (s.putB f b).pending = s.pending := rfl
@[simp] theorem putB_now (s : State) (f : Fld) (b : Bool) : (s.putB f b).now = s.now := rfl
@[simp] theorem putB_power (s : State) (f : Fld) (b : Bool) : (s.putB f b).power = s.power := rfl
@[simp] theorem putB_cycRun (s : State) (f : Fld) (b : Bool) : (s.putB f b).cycRun = s.cycRun := rfl
@[simp] theorem putB_cyc (s : State) (f : Fld) (b : Bool) : (s.putB f b).cyc = s.cyc := rfl
@[simp] theorem putB_bnd (s : State) (f : Fld) (b : Bool) : (s.putB f b).bnd = s.bnd := rfl
@[simp] theorem putB_opBase (s : State) (f : Fld) (b : Bool) : (s.putB f b).opBase = s.opBase := rfl
@[simp] theorem putB_opAt (s : State) (f : Fld) (b : Bool) : (s.putB f b).opAt = s.opAt := rfl
@[simp] theorem putB_opPpm (s : State) (f : Fld) (b : Bool) : (s.putB f b).opPpm = s.opPpm := rfl
@[simp] theorem putB_events (s : State) (f : Fld) (b : Bool) : (s.putB f b).events = s.events := rfl
@[simp] theorem putB_outs (s : State) (f : Fld) (b : Bool) : (s.putB f b).outs = s.outs := rfl
@[simp] theorem putB_onceGen (s : State) (f : Fld) (b : Bool) : (s.putB f b).onceGen = s.onceGen := rfl
@[simp] theorem putB_onceSec (s : State) (f : Fld) (b : Bool) : (s.putB f b).onceSec = s.onceSec := rfl
@[simp] theorem putB_onceSess (s : State) (f : Fld) (b : Bool) : (s.putB f b).onceSess = s.onceSess := rfl
@[simp] theorem putB_free (s : State) (f : Fld) (b : Bool) : (s.putB f b).free = s.free := rfl
@[simp] theorem putB_lanes (s : State) (f : Fld) (b : Bool) : (s.putB f b).lanes = s.lanes := rfl
@[simp] theorem putB_inau (s : State) (f : Fld) (b : Bool) : (s.putB f b).inau = s.inau := rfl
@[simp] theorem putB_sched (s : State) (f : Fld) (b : Bool) : (s.putB f b).sched = s.sched := rfl
@[simp] theorem putB_sync (s : State) (f : Fld) (b : Bool) : (s.putB f b).sync = s.sync := rfl
@[simp] theorem putB_time (s : State) (f : Fld) (b : Bool) : (s.putB f b).time = s.time := rfl
@[simp] theorem putB_fab (s : State) (f : Fld) (b : Bool) : (s.putB f b).fab = s.fab := rfl
@[simp] theorem putB_msix (s : State) (f : Fld) (b : Bool) : (s.putB f b).msix = s.msix := rfl
@[simp] theorem putB_glb (s : State) (f : Fld) (b : Bool) : (s.putB f b).glb = s.glb := rfl
@[simp] theorem putB_twin (s : State) (f : Fld) (b : Bool) : (s.putB f b).twin = s.twin := rfl
@[simp] theorem putB_img (s : State) (f : Fld) (b : Bool) : (s.putB f b).img = s.img := rfl
@[simp] theorem putB_ports (s : State) (f : Fld) (b : Bool) : (s.putB f b).ports = s.ports := rfl
@[simp] theorem putB_host (s : State) (f : Fld) (b : Bool) : (s.putB f b).host = s.host := rfl
@[simp] theorem putB_cmd (s : State) (f : Fld) (b : Bool) : (s.putB f b).cmd = s.cmd := rfl
@[simp] theorem putB_eng (s : State) (f : Fld) (b : Bool) : (s.putB f b).eng = s.eng := rfl
@[simp] theorem putB_prg (s : State) (f : Fld) (b : Bool) : (s.putB f b).prg = s.prg := rfl
@[simp] theorem putB_recd (s : State) (f : Fld) (b : Bool) : (s.putB f b).recd = s.recd := rfl
@[simp] theorem putB_rest (s : State) (f : Fld) (b : Bool) : (s.putB f b).rest = s.rest := rfl
@[simp] theorem putB_pwr (s : State) (f : Fld) (b : Bool) : (s.putB f b).pwr = s.pwr := rfl
@[simp] theorem putB_brdg (s : State) (f : Fld) (b : Bool) : (s.putB f b).brdg = s.brdg := rfl
@[simp] theorem putB_hkp (s : State) (f : Fld) (b : Bool) : (s.putB f b).hkp = s.hkp := rfl

@[simp] theorem bumpBy_pending (s : State) (f : Fld) (n : Nat) : (s.bumpBy f n).pending = s.pending := rfl
@[simp] theorem bumpBy_now (s : State) (f : Fld) (n : Nat) : (s.bumpBy f n).now = s.now := rfl
@[simp] theorem bumpBy_power (s : State) (f : Fld) (n : Nat) : (s.bumpBy f n).power = s.power := rfl
@[simp] theorem bumpBy_cycRun (s : State) (f : Fld) (n : Nat) : (s.bumpBy f n).cycRun = s.cycRun := rfl
@[simp] theorem bumpBy_cyc (s : State) (f : Fld) (n : Nat) : (s.bumpBy f n).cyc = s.cyc := rfl
@[simp] theorem bumpBy_bnd (s : State) (f : Fld) (n : Nat) : (s.bumpBy f n).bnd = s.bnd := rfl
@[simp] theorem bumpBy_opBase (s : State) (f : Fld) (n : Nat) : (s.bumpBy f n).opBase = s.opBase := rfl
@[simp] theorem bumpBy_opAt (s : State) (f : Fld) (n : Nat) : (s.bumpBy f n).opAt = s.opAt := rfl
@[simp] theorem bumpBy_opPpm (s : State) (f : Fld) (n : Nat) : (s.bumpBy f n).opPpm = s.opPpm := rfl
@[simp] theorem bumpBy_events (s : State) (f : Fld) (n : Nat) : (s.bumpBy f n).events = s.events := rfl
@[simp] theorem bumpBy_outs (s : State) (f : Fld) (n : Nat) : (s.bumpBy f n).outs = s.outs := rfl
@[simp] theorem bumpBy_onceGen (s : State) (f : Fld) (n : Nat) : (s.bumpBy f n).onceGen = s.onceGen := rfl
@[simp] theorem bumpBy_onceSec (s : State) (f : Fld) (n : Nat) : (s.bumpBy f n).onceSec = s.onceSec := rfl
@[simp] theorem bumpBy_onceSess (s : State) (f : Fld) (n : Nat) : (s.bumpBy f n).onceSess = s.onceSess := rfl
@[simp] theorem bumpBy_free (s : State) (f : Fld) (n : Nat) : (s.bumpBy f n).free = s.free := rfl
@[simp] theorem bumpBy_lanes (s : State) (f : Fld) (n : Nat) : (s.bumpBy f n).lanes = s.lanes := rfl
@[simp] theorem bumpBy_inau (s : State) (f : Fld) (n : Nat) : (s.bumpBy f n).inau = s.inau := rfl
@[simp] theorem bumpBy_sched (s : State) (f : Fld) (n : Nat) : (s.bumpBy f n).sched = s.sched := rfl
@[simp] theorem bumpBy_sync (s : State) (f : Fld) (n : Nat) : (s.bumpBy f n).sync = s.sync := rfl
@[simp] theorem bumpBy_time (s : State) (f : Fld) (n : Nat) : (s.bumpBy f n).time = s.time := rfl
@[simp] theorem bumpBy_fab (s : State) (f : Fld) (n : Nat) : (s.bumpBy f n).fab = s.fab := rfl
@[simp] theorem bumpBy_msix (s : State) (f : Fld) (n : Nat) : (s.bumpBy f n).msix = s.msix := rfl
@[simp] theorem bumpBy_glb (s : State) (f : Fld) (n : Nat) : (s.bumpBy f n).glb = s.glb := rfl
@[simp] theorem bumpBy_twin (s : State) (f : Fld) (n : Nat) : (s.bumpBy f n).twin = s.twin := rfl
@[simp] theorem bumpBy_img (s : State) (f : Fld) (n : Nat) : (s.bumpBy f n).img = s.img := rfl
@[simp] theorem bumpBy_ports (s : State) (f : Fld) (n : Nat) : (s.bumpBy f n).ports = s.ports := rfl
@[simp] theorem bumpBy_host (s : State) (f : Fld) (n : Nat) : (s.bumpBy f n).host = s.host := rfl
@[simp] theorem bumpBy_cmd (s : State) (f : Fld) (n : Nat) : (s.bumpBy f n).cmd = s.cmd := rfl
@[simp] theorem bumpBy_eng (s : State) (f : Fld) (n : Nat) : (s.bumpBy f n).eng = s.eng := rfl
@[simp] theorem bumpBy_prg (s : State) (f : Fld) (n : Nat) : (s.bumpBy f n).prg = s.prg := rfl
@[simp] theorem bumpBy_recd (s : State) (f : Fld) (n : Nat) : (s.bumpBy f n).recd = s.recd := rfl
@[simp] theorem bumpBy_rest (s : State) (f : Fld) (n : Nat) : (s.bumpBy f n).rest = s.rest := rfl
@[simp] theorem bumpBy_pwr (s : State) (f : Fld) (n : Nat) : (s.bumpBy f n).pwr = s.pwr := rfl
@[simp] theorem bumpBy_brdg (s : State) (f : Fld) (n : Nat) : (s.bumpBy f n).brdg = s.brdg := rfl
@[simp] theorem bumpBy_hkp (s : State) (f : Fld) (n : Nat) : (s.bumpBy f n).hkp = s.hkp := rfl

@[simp] theorem bump_pending (s : State) (f : Fld) : (s.bump f).pending = s.pending := rfl
@[simp] theorem bump_now (s : State) (f : Fld) : (s.bump f).now = s.now := rfl
@[simp] theorem bump_power (s : State) (f : Fld) : (s.bump f).power = s.power := rfl
@[simp] theorem bump_cycRun (s : State) (f : Fld) : (s.bump f).cycRun = s.cycRun := rfl
@[simp] theorem bump_cyc (s : State) (f : Fld) : (s.bump f).cyc = s.cyc := rfl
@[simp] theorem bump_bnd (s : State) (f : Fld) : (s.bump f).bnd = s.bnd := rfl
@[simp] theorem bump_opBase (s : State) (f : Fld) : (s.bump f).opBase = s.opBase := rfl
@[simp] theorem bump_opAt (s : State) (f : Fld) : (s.bump f).opAt = s.opAt := rfl
@[simp] theorem bump_opPpm (s : State) (f : Fld) : (s.bump f).opPpm = s.opPpm := rfl
@[simp] theorem bump_events (s : State) (f : Fld) : (s.bump f).events = s.events := rfl
@[simp] theorem bump_outs (s : State) (f : Fld) : (s.bump f).outs = s.outs := rfl
@[simp] theorem bump_onceGen (s : State) (f : Fld) : (s.bump f).onceGen = s.onceGen := rfl
@[simp] theorem bump_onceSec (s : State) (f : Fld) : (s.bump f).onceSec = s.onceSec := rfl
@[simp] theorem bump_onceSess (s : State) (f : Fld) : (s.bump f).onceSess = s.onceSess := rfl
@[simp] theorem bump_free (s : State) (f : Fld) : (s.bump f).free = s.free := rfl
@[simp] theorem bump_lanes (s : State) (f : Fld) : (s.bump f).lanes = s.lanes := rfl
@[simp] theorem bump_inau (s : State) (f : Fld) : (s.bump f).inau = s.inau := rfl
@[simp] theorem bump_sched (s : State) (f : Fld) : (s.bump f).sched = s.sched := rfl
@[simp] theorem bump_sync (s : State) (f : Fld) : (s.bump f).sync = s.sync := rfl
@[simp] theorem bump_time (s : State) (f : Fld) : (s.bump f).time = s.time := rfl
@[simp] theorem bump_fab (s : State) (f : Fld) : (s.bump f).fab = s.fab := rfl
@[simp] theorem bump_msix (s : State) (f : Fld) : (s.bump f).msix = s.msix := rfl
@[simp] theorem bump_glb (s : State) (f : Fld) : (s.bump f).glb = s.glb := rfl
@[simp] theorem bump_twin (s : State) (f : Fld) : (s.bump f).twin = s.twin := rfl
@[simp] theorem bump_img (s : State) (f : Fld) : (s.bump f).img = s.img := rfl
@[simp] theorem bump_ports (s : State) (f : Fld) : (s.bump f).ports = s.ports := rfl
@[simp] theorem bump_host (s : State) (f : Fld) : (s.bump f).host = s.host := rfl
@[simp] theorem bump_cmd (s : State) (f : Fld) : (s.bump f).cmd = s.cmd := rfl
@[simp] theorem bump_eng (s : State) (f : Fld) : (s.bump f).eng = s.eng := rfl
@[simp] theorem bump_prg (s : State) (f : Fld) : (s.bump f).prg = s.prg := rfl
@[simp] theorem bump_recd (s : State) (f : Fld) : (s.bump f).recd = s.recd := rfl
@[simp] theorem bump_rest (s : State) (f : Fld) : (s.bump f).rest = s.rest := rfl
@[simp] theorem bump_pwr (s : State) (f : Fld) : (s.bump f).pwr = s.pwr := rfl
@[simp] theorem bump_brdg (s : State) (f : Fld) : (s.bump f).brdg = s.brdg := rfl
@[simp] theorem bump_hkp (s : State) (f : Fld) : (s.bump f).hkp = s.hkp := rfl

@[simp] theorem satInc_pending (s : State) (f : Fld) : (s.satInc f).pending = s.pending := rfl
@[simp] theorem satInc_now (s : State) (f : Fld) : (s.satInc f).now = s.now := rfl
@[simp] theorem satInc_power (s : State) (f : Fld) : (s.satInc f).power = s.power := rfl
@[simp] theorem satInc_cycRun (s : State) (f : Fld) : (s.satInc f).cycRun = s.cycRun := rfl
@[simp] theorem satInc_cyc (s : State) (f : Fld) : (s.satInc f).cyc = s.cyc := rfl
@[simp] theorem satInc_bnd (s : State) (f : Fld) : (s.satInc f).bnd = s.bnd := rfl
@[simp] theorem satInc_opBase (s : State) (f : Fld) : (s.satInc f).opBase = s.opBase := rfl
@[simp] theorem satInc_opAt (s : State) (f : Fld) : (s.satInc f).opAt = s.opAt := rfl
@[simp] theorem satInc_opPpm (s : State) (f : Fld) : (s.satInc f).opPpm = s.opPpm := rfl
@[simp] theorem satInc_events (s : State) (f : Fld) : (s.satInc f).events = s.events := rfl
@[simp] theorem satInc_outs (s : State) (f : Fld) : (s.satInc f).outs = s.outs := rfl
@[simp] theorem satInc_onceGen (s : State) (f : Fld) : (s.satInc f).onceGen = s.onceGen := rfl
@[simp] theorem satInc_onceSec (s : State) (f : Fld) : (s.satInc f).onceSec = s.onceSec := rfl
@[simp] theorem satInc_onceSess (s : State) (f : Fld) : (s.satInc f).onceSess = s.onceSess := rfl
@[simp] theorem satInc_free (s : State) (f : Fld) : (s.satInc f).free = s.free := rfl
@[simp] theorem satInc_lanes (s : State) (f : Fld) : (s.satInc f).lanes = s.lanes := rfl
@[simp] theorem satInc_inau (s : State) (f : Fld) : (s.satInc f).inau = s.inau := rfl
@[simp] theorem satInc_sched (s : State) (f : Fld) : (s.satInc f).sched = s.sched := rfl
@[simp] theorem satInc_sync (s : State) (f : Fld) : (s.satInc f).sync = s.sync := rfl
@[simp] theorem satInc_time (s : State) (f : Fld) : (s.satInc f).time = s.time := rfl
@[simp] theorem satInc_fab (s : State) (f : Fld) : (s.satInc f).fab = s.fab := rfl
@[simp] theorem satInc_msix (s : State) (f : Fld) : (s.satInc f).msix = s.msix := rfl
@[simp] theorem satInc_glb (s : State) (f : Fld) : (s.satInc f).glb = s.glb := rfl
@[simp] theorem satInc_twin (s : State) (f : Fld) : (s.satInc f).twin = s.twin := rfl
@[simp] theorem satInc_img (s : State) (f : Fld) : (s.satInc f).img = s.img := rfl
@[simp] theorem satInc_ports (s : State) (f : Fld) : (s.satInc f).ports = s.ports := rfl
@[simp] theorem satInc_host (s : State) (f : Fld) : (s.satInc f).host = s.host := rfl
@[simp] theorem satInc_cmd (s : State) (f : Fld) : (s.satInc f).cmd = s.cmd := rfl
@[simp] theorem satInc_eng (s : State) (f : Fld) : (s.satInc f).eng = s.eng := rfl
@[simp] theorem satInc_prg (s : State) (f : Fld) : (s.satInc f).prg = s.prg := rfl
@[simp] theorem satInc_recd (s : State) (f : Fld) : (s.satInc f).recd = s.recd := rfl
@[simp] theorem satInc_rest (s : State) (f : Fld) : (s.satInc f).rest = s.rest := rfl
@[simp] theorem satInc_pwr (s : State) (f : Fld) : (s.satInc f).pwr = s.pwr := rfl
@[simp] theorem satInc_brdg (s : State) (f : Fld) : (s.satInc f).brdg = s.brdg := rfl
@[simp] theorem satInc_hkp (s : State) (f : Fld) : (s.satInc f).hkp = s.hkp := rfl

@[simp] theorem emit_pending (s : State) (o : Out) : (s.emit o).pending = s.pending := rfl
@[simp] theorem emit_now (s : State) (o : Out) : (s.emit o).now = s.now := rfl
@[simp] theorem emit_power (s : State) (o : Out) : (s.emit o).power = s.power := rfl
@[simp] theorem emit_regs (s : State) (o : Out) : (s.emit o).regs = s.regs := rfl
@[simp] theorem emit_cycRun (s : State) (o : Out) : (s.emit o).cycRun = s.cycRun := rfl
@[simp] theorem emit_cyc (s : State) (o : Out) : (s.emit o).cyc = s.cyc := rfl
@[simp] theorem emit_bnd (s : State) (o : Out) : (s.emit o).bnd = s.bnd := rfl
@[simp] theorem emit_opBase (s : State) (o : Out) : (s.emit o).opBase = s.opBase := rfl
@[simp] theorem emit_opAt (s : State) (o : Out) : (s.emit o).opAt = s.opAt := rfl
@[simp] theorem emit_opPpm (s : State) (o : Out) : (s.emit o).opPpm = s.opPpm := rfl
@[simp] theorem emit_events (s : State) (o : Out) : (s.emit o).events = s.events := rfl
@[simp] theorem emit_onceGen (s : State) (o : Out) : (s.emit o).onceGen = s.onceGen := rfl
@[simp] theorem emit_onceSec (s : State) (o : Out) : (s.emit o).onceSec = s.onceSec := rfl
@[simp] theorem emit_onceSess (s : State) (o : Out) : (s.emit o).onceSess = s.onceSess := rfl
@[simp] theorem emit_free (s : State) (o : Out) : (s.emit o).free = s.free := rfl
@[simp] theorem emit_lanes (s : State) (o : Out) : (s.emit o).lanes = s.lanes := rfl
@[simp] theorem emit_inau (s : State) (o : Out) : (s.emit o).inau = s.inau := rfl
@[simp] theorem emit_sched (s : State) (o : Out) : (s.emit o).sched = s.sched := rfl
@[simp] theorem emit_sync (s : State) (o : Out) : (s.emit o).sync = s.sync := rfl
@[simp] theorem emit_time (s : State) (o : Out) : (s.emit o).time = s.time := rfl
@[simp] theorem emit_fab (s : State) (o : Out) : (s.emit o).fab = s.fab := rfl
@[simp] theorem emit_msix (s : State) (o : Out) : (s.emit o).msix = s.msix := rfl
@[simp] theorem emit_glb (s : State) (o : Out) : (s.emit o).glb = s.glb := rfl
@[simp] theorem emit_twin (s : State) (o : Out) : (s.emit o).twin = s.twin := rfl
@[simp] theorem emit_img (s : State) (o : Out) : (s.emit o).img = s.img := rfl
@[simp] theorem emit_ports (s : State) (o : Out) : (s.emit o).ports = s.ports := rfl
@[simp] theorem emit_host (s : State) (o : Out) : (s.emit o).host = s.host := rfl
@[simp] theorem emit_cmd (s : State) (o : Out) : (s.emit o).cmd = s.cmd := rfl
@[simp] theorem emit_eng (s : State) (o : Out) : (s.emit o).eng = s.eng := rfl
@[simp] theorem emit_prg (s : State) (o : Out) : (s.emit o).prg = s.prg := rfl
@[simp] theorem emit_recd (s : State) (o : Out) : (s.emit o).recd = s.recd := rfl
@[simp] theorem emit_rest (s : State) (o : Out) : (s.emit o).rest = s.rest := rfl
@[simp] theorem emit_pwr (s : State) (o : Out) : (s.emit o).pwr = s.pwr := rfl
@[simp] theorem emit_brdg (s : State) (o : Out) : (s.emit o).brdg = s.brdg := rfl
@[simp] theorem emit_hkp (s : State) (o : Out) : (s.emit o).hkp = s.hkp := rfl
@[simp] theorem emit_get (s : State) (o : Out) (g : Fld) : (s.emit o).get g = s.get g := rfl

@[simp] theorem reach_pending (s : State) (t : Nat) : (s.reach t).pending = s.pending := rfl
@[simp] theorem reach_power (s : State) (t : Nat) : (s.reach t).power = s.power := rfl
@[simp] theorem reach_regs (s : State) (t : Nat) : (s.reach t).regs = s.regs := rfl
@[simp] theorem reach_cycRun (s : State) (t : Nat) : (s.reach t).cycRun = s.cycRun := rfl
@[simp] theorem reach_cyc (s : State) (t : Nat) : (s.reach t).cyc = s.cyc := rfl
@[simp] theorem reach_bnd (s : State) (t : Nat) : (s.reach t).bnd = s.bnd := rfl
@[simp] theorem reach_opBase (s : State) (t : Nat) : (s.reach t).opBase = s.opBase := rfl
@[simp] theorem reach_opAt (s : State) (t : Nat) : (s.reach t).opAt = s.opAt := rfl
@[simp] theorem reach_opPpm (s : State) (t : Nat) : (s.reach t).opPpm = s.opPpm := rfl
@[simp] theorem reach_events (s : State) (t : Nat) : (s.reach t).events = s.events := rfl
@[simp] theorem reach_outs (s : State) (t : Nat) : (s.reach t).outs = s.outs := rfl
@[simp] theorem reach_onceGen (s : State) (t : Nat) : (s.reach t).onceGen = s.onceGen := rfl
@[simp] theorem reach_onceSec (s : State) (t : Nat) : (s.reach t).onceSec = s.onceSec := rfl
@[simp] theorem reach_onceSess (s : State) (t : Nat) : (s.reach t).onceSess = s.onceSess := rfl
@[simp] theorem reach_free (s : State) (t : Nat) : (s.reach t).free = s.free := rfl
@[simp] theorem reach_lanes (s : State) (t : Nat) : (s.reach t).lanes = s.lanes := rfl
@[simp] theorem reach_inau (s : State) (t : Nat) : (s.reach t).inau = s.inau := rfl
@[simp] theorem reach_sched (s : State) (t : Nat) : (s.reach t).sched = s.sched := rfl
@[simp] theorem reach_sync (s : State) (t : Nat) : (s.reach t).sync = s.sync := rfl
@[simp] theorem reach_time (s : State) (t : Nat) : (s.reach t).time = s.time := rfl
@[simp] theorem reach_fab (s : State) (t : Nat) : (s.reach t).fab = s.fab := rfl
@[simp] theorem reach_msix (s : State) (t : Nat) : (s.reach t).msix = s.msix := rfl
@[simp] theorem reach_glb (s : State) (t : Nat) : (s.reach t).glb = s.glb := rfl
@[simp] theorem reach_twin (s : State) (t : Nat) : (s.reach t).twin = s.twin := rfl
@[simp] theorem reach_img (s : State) (t : Nat) : (s.reach t).img = s.img := rfl
@[simp] theorem reach_ports (s : State) (t : Nat) : (s.reach t).ports = s.ports := rfl
@[simp] theorem reach_host (s : State) (t : Nat) : (s.reach t).host = s.host := rfl
@[simp] theorem reach_cmd (s : State) (t : Nat) : (s.reach t).cmd = s.cmd := rfl
@[simp] theorem reach_eng (s : State) (t : Nat) : (s.reach t).eng = s.eng := rfl
@[simp] theorem reach_prg (s : State) (t : Nat) : (s.reach t).prg = s.prg := rfl
@[simp] theorem reach_recd (s : State) (t : Nat) : (s.reach t).recd = s.recd := rfl
@[simp] theorem reach_rest (s : State) (t : Nat) : (s.reach t).rest = s.rest := rfl
@[simp] theorem reach_pwr (s : State) (t : Nat) : (s.reach t).pwr = s.pwr := rfl
@[simp] theorem reach_brdg (s : State) (t : Nat) : (s.reach t).brdg = s.brdg := rfl
@[simp] theorem reach_hkp (s : State) (t : Nat) : (s.reach t).hkp = s.hkp := rfl
@[simp] theorem reach_get (s : State) (t : Nat) (g : Fld) : (s.reach t).get g = s.get g := rfl

@[simp] theorem onLane_pending (s : State) (n : Nat) (h : LaneS → LaneS) : (s.onLane n h).pending = s.pending := rfl
@[simp] theorem onLane_now (s : State) (n : Nat) (h : LaneS → LaneS) : (s.onLane n h).now = s.now := rfl
@[simp] theorem onLane_power (s : State) (n : Nat) (h : LaneS → LaneS) : (s.onLane n h).power = s.power := rfl
@[simp] theorem onLane_regs (s : State) (n : Nat) (h : LaneS → LaneS) : (s.onLane n h).regs = s.regs := rfl
@[simp] theorem onLane_cycRun (s : State) (n : Nat) (h : LaneS → LaneS) : (s.onLane n h).cycRun = s.cycRun := rfl
@[simp] theorem onLane_cyc (s : State) (n : Nat) (h : LaneS → LaneS) : (s.onLane n h).cyc = s.cyc := rfl
@[simp] theorem onLane_bnd (s : State) (n : Nat) (h : LaneS → LaneS) : (s.onLane n h).bnd = s.bnd := rfl
@[simp] theorem onLane_opBase (s : State) (n : Nat) (h : LaneS → LaneS) : (s.onLane n h).opBase = s.opBase := rfl
@[simp] theorem onLane_opAt (s : State) (n : Nat) (h : LaneS → LaneS) : (s.onLane n h).opAt = s.opAt := rfl
@[simp] theorem onLane_opPpm (s : State) (n : Nat) (h : LaneS → LaneS) : (s.onLane n h).opPpm = s.opPpm := rfl
@[simp] theorem onLane_events (s : State) (n : Nat) (h : LaneS → LaneS) : (s.onLane n h).events = s.events := rfl
@[simp] theorem onLane_outs (s : State) (n : Nat) (h : LaneS → LaneS) : (s.onLane n h).outs = s.outs := rfl
@[simp] theorem onLane_onceGen (s : State) (n : Nat) (h : LaneS → LaneS) : (s.onLane n h).onceGen = s.onceGen := rfl
@[simp] theorem onLane_onceSec (s : State) (n : Nat) (h : LaneS → LaneS) : (s.onLane n h).onceSec = s.onceSec := rfl
@[simp] theorem onLane_onceSess (s : State) (n : Nat) (h : LaneS → LaneS) : (s.onLane n h).onceSess = s.onceSess := rfl
@[simp] theorem onLane_free (s : State) (n : Nat) (h : LaneS → LaneS) : (s.onLane n h).free = s.free := rfl
@[simp] theorem onLane_inau (s : State) (n : Nat) (h : LaneS → LaneS) : (s.onLane n h).inau = s.inau := rfl
@[simp] theorem onLane_sched (s : State) (n : Nat) (h : LaneS → LaneS) : (s.onLane n h).sched = s.sched := rfl
@[simp] theorem onLane_sync (s : State) (n : Nat) (h : LaneS → LaneS) : (s.onLane n h).sync = s.sync := rfl
@[simp] theorem onLane_time (s : State) (n : Nat) (h : LaneS → LaneS) : (s.onLane n h).time = s.time := rfl
@[simp] theorem onLane_fab (s : State) (n : Nat) (h : LaneS → LaneS) : (s.onLane n h).fab = s.fab := rfl
@[simp] theorem onLane_msix (s : State) (n : Nat) (h : LaneS → LaneS) : (s.onLane n h).msix = s.msix := rfl
@[simp] theorem onLane_glb (s : State) (n : Nat) (h : LaneS → LaneS) : (s.onLane n h).glb = s.glb := rfl
@[simp] theorem onLane_twin (s : State) (n : Nat) (h : LaneS → LaneS) : (s.onLane n h).twin = s.twin := rfl
@[simp] theorem onLane_img (s : State) (n : Nat) (h : LaneS → LaneS) : (s.onLane n h).img = s.img := rfl
@[simp] theorem onLane_ports (s : State) (n : Nat) (h : LaneS → LaneS) : (s.onLane n h).ports = s.ports := rfl
@[simp] theorem onLane_host (s : State) (n : Nat) (h : LaneS → LaneS) : (s.onLane n h).host = s.host := rfl
@[simp] theorem onLane_cmd (s : State) (n : Nat) (h : LaneS → LaneS) : (s.onLane n h).cmd = s.cmd := rfl
@[simp] theorem onLane_eng (s : State) (n : Nat) (h : LaneS → LaneS) : (s.onLane n h).eng = s.eng := rfl
@[simp] theorem onLane_prg (s : State) (n : Nat) (h : LaneS → LaneS) : (s.onLane n h).prg = s.prg := rfl
@[simp] theorem onLane_recd (s : State) (n : Nat) (h : LaneS → LaneS) : (s.onLane n h).recd = s.recd := rfl
@[simp] theorem onLane_rest (s : State) (n : Nat) (h : LaneS → LaneS) : (s.onLane n h).rest = s.rest := rfl
@[simp] theorem onLane_pwr (s : State) (n : Nat) (h : LaneS → LaneS) : (s.onLane n h).pwr = s.pwr := rfl
@[simp] theorem onLane_brdg (s : State) (n : Nat) (h : LaneS → LaneS) : (s.onLane n h).brdg = s.brdg := rfl
@[simp] theorem onLane_hkp (s : State) (n : Nat) (h : LaneS → LaneS) : (s.onLane n h).hkp = s.hkp := rfl
@[simp] theorem onLane_get (s : State) (n : Nat) (h : LaneS → LaneS) (g : Fld) : (s.onLane n h).get g = s.get g := rfl

@[simp] theorem onEnd_pending (s : State) (e : Nat) (h : EndS → EndS) : (s.onEnd e h).pending = s.pending := rfl
@[simp] theorem onEnd_now (s : State) (e : Nat) (h : EndS → EndS) : (s.onEnd e h).now = s.now := rfl
@[simp] theorem onEnd_power (s : State) (e : Nat) (h : EndS → EndS) : (s.onEnd e h).power = s.power := rfl
@[simp] theorem onEnd_regs (s : State) (e : Nat) (h : EndS → EndS) : (s.onEnd e h).regs = s.regs := rfl
@[simp] theorem onEnd_cycRun (s : State) (e : Nat) (h : EndS → EndS) : (s.onEnd e h).cycRun = s.cycRun := rfl
@[simp] theorem onEnd_cyc (s : State) (e : Nat) (h : EndS → EndS) : (s.onEnd e h).cyc = s.cyc := rfl
@[simp] theorem onEnd_bnd (s : State) (e : Nat) (h : EndS → EndS) : (s.onEnd e h).bnd = s.bnd := rfl
@[simp] theorem onEnd_opBase (s : State) (e : Nat) (h : EndS → EndS) : (s.onEnd e h).opBase = s.opBase := rfl
@[simp] theorem onEnd_opAt (s : State) (e : Nat) (h : EndS → EndS) : (s.onEnd e h).opAt = s.opAt := rfl
@[simp] theorem onEnd_opPpm (s : State) (e : Nat) (h : EndS → EndS) : (s.onEnd e h).opPpm = s.opPpm := rfl
@[simp] theorem onEnd_events (s : State) (e : Nat) (h : EndS → EndS) : (s.onEnd e h).events = s.events := rfl
@[simp] theorem onEnd_outs (s : State) (e : Nat) (h : EndS → EndS) : (s.onEnd e h).outs = s.outs := rfl
@[simp] theorem onEnd_onceGen (s : State) (e : Nat) (h : EndS → EndS) : (s.onEnd e h).onceGen = s.onceGen := rfl
@[simp] theorem onEnd_onceSec (s : State) (e : Nat) (h : EndS → EndS) : (s.onEnd e h).onceSec = s.onceSec := rfl
@[simp] theorem onEnd_onceSess (s : State) (e : Nat) (h : EndS → EndS) : (s.onEnd e h).onceSess = s.onceSess := rfl
@[simp] theorem onEnd_free (s : State) (e : Nat) (h : EndS → EndS) : (s.onEnd e h).free = s.free := rfl
@[simp] theorem onEnd_lanes (s : State) (e : Nat) (h : EndS → EndS) : (s.onEnd e h).lanes = s.lanes := rfl
@[simp] theorem onEnd_sched (s : State) (e : Nat) (h : EndS → EndS) : (s.onEnd e h).sched = s.sched := rfl
@[simp] theorem onEnd_sync (s : State) (e : Nat) (h : EndS → EndS) : (s.onEnd e h).sync = s.sync := rfl
@[simp] theorem onEnd_time (s : State) (e : Nat) (h : EndS → EndS) : (s.onEnd e h).time = s.time := rfl
@[simp] theorem onEnd_fab (s : State) (e : Nat) (h : EndS → EndS) : (s.onEnd e h).fab = s.fab := rfl
@[simp] theorem onEnd_msix (s : State) (e : Nat) (h : EndS → EndS) : (s.onEnd e h).msix = s.msix := rfl
@[simp] theorem onEnd_glb (s : State) (e : Nat) (h : EndS → EndS) : (s.onEnd e h).glb = s.glb := rfl
@[simp] theorem onEnd_twin (s : State) (e : Nat) (h : EndS → EndS) : (s.onEnd e h).twin = s.twin := rfl
@[simp] theorem onEnd_img (s : State) (e : Nat) (h : EndS → EndS) : (s.onEnd e h).img = s.img := rfl
@[simp] theorem onEnd_ports (s : State) (e : Nat) (h : EndS → EndS) : (s.onEnd e h).ports = s.ports := rfl
@[simp] theorem onEnd_host (s : State) (e : Nat) (h : EndS → EndS) : (s.onEnd e h).host = s.host := rfl
@[simp] theorem onEnd_cmd (s : State) (e : Nat) (h : EndS → EndS) : (s.onEnd e h).cmd = s.cmd := rfl
@[simp] theorem onEnd_eng (s : State) (e : Nat) (h : EndS → EndS) : (s.onEnd e h).eng = s.eng := rfl
@[simp] theorem onEnd_prg (s : State) (e : Nat) (h : EndS → EndS) : (s.onEnd e h).prg = s.prg := rfl
@[simp] theorem onEnd_recd (s : State) (e : Nat) (h : EndS → EndS) : (s.onEnd e h).recd = s.recd := rfl
@[simp] theorem onEnd_rest (s : State) (e : Nat) (h : EndS → EndS) : (s.onEnd e h).rest = s.rest := rfl
@[simp] theorem onEnd_pwr (s : State) (e : Nat) (h : EndS → EndS) : (s.onEnd e h).pwr = s.pwr := rfl
@[simp] theorem onEnd_brdg (s : State) (e : Nat) (h : EndS → EndS) : (s.onEnd e h).brdg = s.brdg := rfl
@[simp] theorem onEnd_hkp (s : State) (e : Nat) (h : EndS → EndS) : (s.onEnd e h).hkp = s.hkp := rfl
@[simp] theorem onEnd_get (s : State) (e : Nat) (h : EndS → EndS) (g : Fld) : (s.onEnd e h).get g = s.get g := rfl

@[simp] theorem record_pending (s : State) (c : Nat) (p : Bytes) : (s.record c p).pending = s.pending := rfl
@[simp] theorem record_now (s : State) (c : Nat) (p : Bytes) : (s.record c p).now = s.now := rfl
@[simp] theorem record_power (s : State) (c : Nat) (p : Bytes) : (s.record c p).power = s.power := rfl
@[simp] theorem record_regs (s : State) (c : Nat) (p : Bytes) : (s.record c p).regs = s.regs := rfl
@[simp] theorem record_cycRun (s : State) (c : Nat) (p : Bytes) : (s.record c p).cycRun = s.cycRun := rfl
@[simp] theorem record_cyc (s : State) (c : Nat) (p : Bytes) : (s.record c p).cyc = s.cyc := rfl
@[simp] theorem record_bnd (s : State) (c : Nat) (p : Bytes) : (s.record c p).bnd = s.bnd := rfl
@[simp] theorem record_opBase (s : State) (c : Nat) (p : Bytes) : (s.record c p).opBase = s.opBase := rfl
@[simp] theorem record_opAt (s : State) (c : Nat) (p : Bytes) : (s.record c p).opAt = s.opAt := rfl
@[simp] theorem record_opPpm (s : State) (c : Nat) (p : Bytes) : (s.record c p).opPpm = s.opPpm := rfl
@[simp] theorem record_outs (s : State) (c : Nat) (p : Bytes) : (s.record c p).outs = s.outs := rfl
@[simp] theorem record_onceGen (s : State) (c : Nat) (p : Bytes) : (s.record c p).onceGen = s.onceGen := rfl
@[simp] theorem record_onceSec (s : State) (c : Nat) (p : Bytes) : (s.record c p).onceSec = s.onceSec := rfl
@[simp] theorem record_onceSess (s : State) (c : Nat) (p : Bytes) : (s.record c p).onceSess = s.onceSess := rfl
@[simp] theorem record_free (s : State) (c : Nat) (p : Bytes) : (s.record c p).free = s.free := rfl
@[simp] theorem record_lanes (s : State) (c : Nat) (p : Bytes) : (s.record c p).lanes = s.lanes := rfl
@[simp] theorem record_inau (s : State) (c : Nat) (p : Bytes) : (s.record c p).inau = s.inau := rfl
@[simp] theorem record_sched (s : State) (c : Nat) (p : Bytes) : (s.record c p).sched = s.sched := rfl
@[simp] theorem record_sync (s : State) (c : Nat) (p : Bytes) : (s.record c p).sync = s.sync := rfl
@[simp] theorem record_time (s : State) (c : Nat) (p : Bytes) : (s.record c p).time = s.time := rfl
@[simp] theorem record_fab (s : State) (c : Nat) (p : Bytes) : (s.record c p).fab = s.fab := rfl
@[simp] theorem record_msix (s : State) (c : Nat) (p : Bytes) : (s.record c p).msix = s.msix := rfl
@[simp] theorem record_glb (s : State) (c : Nat) (p : Bytes) : (s.record c p).glb = s.glb := rfl
@[simp] theorem record_twin (s : State) (c : Nat) (p : Bytes) : (s.record c p).twin = s.twin := rfl
@[simp] theorem record_img (s : State) (c : Nat) (p : Bytes) : (s.record c p).img = s.img := rfl
@[simp] theorem record_ports (s : State) (c : Nat) (p : Bytes) : (s.record c p).ports = s.ports := rfl
@[simp] theorem record_host (s : State) (c : Nat) (p : Bytes) : (s.record c p).host = s.host := rfl
@[simp] theorem record_cmd (s : State) (c : Nat) (p : Bytes) : (s.record c p).cmd = s.cmd := rfl
@[simp] theorem record_eng (s : State) (c : Nat) (p : Bytes) : (s.record c p).eng = s.eng := rfl
@[simp] theorem record_prg (s : State) (c : Nat) (p : Bytes) : (s.record c p).prg = s.prg := rfl
@[simp] theorem record_recd (s : State) (c : Nat) (p : Bytes) : (s.record c p).recd = s.recd := rfl
@[simp] theorem record_rest (s : State) (c : Nat) (p : Bytes) : (s.record c p).rest = s.rest := rfl
@[simp] theorem record_pwr (s : State) (c : Nat) (p : Bytes) : (s.record c p).pwr = s.pwr := rfl
@[simp] theorem record_brdg (s : State) (c : Nat) (p : Bytes) : (s.record c p).brdg = s.brdg := rfl
@[simp] theorem record_hkp (s : State) (c : Nat) (p : Bytes) : (s.record c p).hkp = s.hkp := rfl
@[simp] theorem record_get (s : State) (c : Nat) (p : Bytes) (g : Fld) : (s.record c p).get g = s.get g := rfl

@[simp] theorem emit_outs (s : State) (o : Out) : (s.emit o).outs = s.outs ++ if s.mutes o then [] else [o] := rfl

/-- An output that no lost bank or hot line mutes leaves the chip. -/
theorem emit_outs_shown (s : State) (o : Out) (h : s.mutes o = false) : (s.emit o).outs = s.outs ++ [o] := by simp [h]
@[simp] theorem reach_now (s : State) (t : Nat) : (s.reach t).now = max s.now t := rfl

/-- A field reads from the register table alone, whatever else an update has set. -/
@[simp] theorem get_mk (x_pending x_now x_power x_regs x_cycRun x_cyc x_bnd x_opBase x_opAt x_opPpm x_events x_outs x_onceGen x_onceSec
    x_onceSess x_free x_lanes x_inau x_sched x_sync x_time x_fab x_msix x_glb x_twin x_img x_ports x_host x_cmd x_eng x_prg x_recd x_rest
    x_pwr x_brdg x_hkp) (f : Fld) :
    State.get (State.mk x_pending x_now x_power x_regs x_cycRun x_cyc x_bnd x_opBase x_opAt x_opPpm x_events x_outs x_onceGen x_onceSec
    x_onceSess x_free x_lanes x_inau x_sched x_sync x_time x_fab x_msix x_glb x_twin x_img x_ports x_host x_cmd x_eng x_prg x_recd x_rest
    x_pwr x_brdg x_hkp) f = (lookupKey f.key x_regs).getD f.default := rfl

@[simp] theorem lookup_get (s : State) (f : Fld) : (lookupKey f.key s.regs).getD f.default = s.get f := rfl

end Sys2Proof.Machine.State
end

