-- ==== Sys2Proof/Laws/Ops.lean ====
section
/-! SUPPORT. What each shared operation over registers, interrupts, outputs and records can change, once for each. -/

namespace Sys2Proof.Machine.State

/-- What a state becomes when registers, outputs, pending MSI-X messages, the levels of INTA, INTn and ROLE, and the completion
moderation move: nothing else does. -/
def shown (s : State) (r : List (Nat × Nat)) (o : List Out) (p : List Nat) (i n l : Bool) (m : Nat × Option Nat) : State :=
  { s with regs := r, outs := s.outs ++ o, msix := { s.msix with pba := p, inta := i }, pwr := { s.pwr with intn := n, role := l }
           cmd := { s.cmd with mods := m } }

theorem shown_refl (s : State) : s = s.shown s.regs [] s.msix.pba s.msix.inta s.pwr.intn s.pwr.role s.cmd.mods := by
  simp [shown]

theorem shown_shown (s : State) (r o p i n l m r' o' p' i' n' l' m') :
    (s.shown r o p i n l m).shown r' o' p' i' n' l' m' = s.shown r' (o ++ o') p' i' n' l' m' := by
  simp [shown, List.append_assoc]

/-- `t` is `s` but for what is shown. -/
def Shows (s t : State) : Prop := ∃ r o p i n l m, t = s.shown r o p i n l m

theorem Shows.refl (s : State) : Shows s s := ⟨_, _, _, _, _, _, _, shown_refl s⟩

theorem Shows.trans {s t u : State} (h1 : Shows s t) (h2 : Shows t u) : Shows s u := by
  obtain ⟨r, o, p, i, n, l, m, rfl⟩ := h1
  obtain ⟨r', o', p', i', n', l', m', rfl⟩ := h2
  exact ⟨_, _, _, _, _, _, _, shown_shown ..⟩

theorem put_shows (s : State) (f : Fld) (v : Nat) : Shows s (s.put f v) :=
  ⟨(s.put f v).regs, [], s.msix.pba, s.msix.inta, s.pwr.intn, s.pwr.role, s.cmd.mods, by simp [shown, put]⟩

theorem emit_shows (s : State) (x : Out) : Shows s (s.emit x) :=
  ⟨s.regs, if s.mutes x then [] else [x], s.msix.pba, s.msix.inta, s.pwr.intn, s.pwr.role, s.cmd.mods, by simp [shown, emit]⟩

/-- A packet to another chip is an output, or it waits behind a posted write (R418); nothing else moves. -/
theorem stackSend_shows (s : State) (a b c d e f : Nat) (pl : Bytes) :
    ∃ q, Shows { s with brdg.behind := q } (s.stackSend a b c d e f pl) := by
  unfold stackSend
  dsimp only
  split
  · exact ⟨s.brdg.behind, Shows.refl s⟩
  · split
    · exact ⟨_, Shows.refl _⟩
    · exact ⟨s.brdg.behind, s.regs, [_], s.msix.pba, s.msix.inta, s.pwr.intn, s.pwr.role, s.cmd.mods, by simp [shown]; rfl⟩

/-- On a member no packet waits behind a posted write. -/
theorem stackSend_member (s : State) (a b c d e f : Nat) (pl : Bytes) (h : s.stackId ≠ 0) : Shows s (s.stackSend a b c d e f pl) := by
  unfold stackSend
  dsimp only
  split
  · exact Shows.refl s
  · exact ⟨s.regs, [_], s.msix.pba, s.msix.inta, s.pwr.intn, s.pwr.role, s.cmd.mods, by simp [shown]; rfl⟩

theorem refreshInta_shows (s : State) : Shows s s.refreshInta := by
  unfold refreshInta
  dsimp only
  split
  · exact Shows.refl s
  · have h : Shows s { s with msix.inta := s.hostOpen && !s.msix.enable && (List.range 64).any s.vecPending } :=
      ⟨s.regs, [], s.msix.pba, _, s.pwr.intn, s.pwr.role, s.cmd.mods, by simp [shown]; rfl⟩
    split
    · exact h.trans (emit_shows _ _)
    · exact h

theorem signal_shows (s : State) (v : Nat) : Shows s (s.signal v) := by
  unfold signal
  dsimp only
  split_ifs
  · exact Shows.refl s
  · exact ⟨s.regs, [], _, s.msix.inta, s.pwr.intn, s.pwr.role, s.cmd.mods, by simp [shown]; rfl⟩
  · exact emit_shows s _
  · exact refreshInta_shows s

/-- An IRQ bit is set: registers, outputs, pending messages, INTA. -/
theorem raise_shows (s : State) (f : Fld) : Shows s (s.raise f) := by
  unfold raise
  dsimp only
  split_ifs
  · exact put_shows s f 1
  · exact (put_shows s f 1).trans (signal_shows _ _)
  · exact put_shows s f 1

theorem refreshFault_shows (s : State) : Shows s s.refreshFault := by
  unfold refreshFault
  dsimp only
  split
  · exact Shows.refl s
  · exact (put_shows s _ _).trans (emit_shows _ _)

theorem refreshCpl_shows (s : State) : Shows s s.refreshCpl := by
  unfold refreshCpl
  split
  · refine Shows.trans ?_ (raise_shows _ _)
    exact ⟨s.regs, [], s.msix.pba, s.msix.inta, s.pwr.intn, s.pwr.role, _, by simp [shown]; rfl⟩
  · exact Shows.refl s

theorem refreshIntn_shows (s : State) : Shows s s.refreshIntn := by
  have key : ∀ (s' : State) (x : Bytes), Shows s' (if s'.stackId = 0 then s' else s'.stackMsg 0 1 x) := by
    intro s' x
    split
    · exact Shows.refl s'
    · exact stackSend_member s' _ _ _ _ _ _ _ ‹_›
  unfold refreshIntn
  dsimp only
  by_cases h : s.irqAny = s.pwr.intn
  · rw [if_pos h]; exact Shows.refl s
  · rw [if_neg h]
    refine Shows.trans ?_ (key _ _)
    refine Shows.trans ?_ (emit_shows _ _)
    exact ⟨s.regs, [], s.msix.pba, s.msix.inta, _, s.pwr.role, s.cmd.mods, by simp [shown]; rfl⟩

theorem refreshRolePin_shows (s : State) : Shows s s.refreshRolePin := by
  unfold refreshRolePin
  dsimp only
  split
  · exact Shows.refl s
  · refine Shows.trans ?_ (emit_shows _ _)
    exact ⟨s.regs, [], s.msix.pba, s.msix.inta, s.pwr.intn, _, s.cmd.mods, by simp [shown]; rfl⟩

/-- The outputs that follow: registers, outputs, pending messages, pin levels and the completion moderation. -/
theorem settle_shows (s : State) : Shows s s.settle :=
  ((((refreshCpl_shows s).trans (refreshInta_shows _)).trans (refreshIntn_shows _)).trans (refreshRolePin_shows _)).trans (refreshFault_shows _)

/-- A GLB_FAULT bit is set: registers, outputs, pending messages, INTA. -/
theorem fault_shows (s : State) (f : Fld) : Shows s (s.fault f) :=
  ((put_shows s f 1).trans (raise_shows _ _)).trans (refreshFault_shows _)

theorem setOpt_shows (s : State) (f : Option Fld) : Shows s (s.setOpt f) := by
  unfold setOpt
  split
  · exact put_shows s _ _
  · exact Shows.refl s

theorem clearOpt_shows (s : State) (f : Option Fld) : Shows s (s.clearOpt f) := by
  unfold clearOpt
  split
  · exact put_shows s _ _
  · exact Shows.refl s

theorem storeField_shows (ok : Bool) (v : Nat) (s : State) (f : Fld) : Shows s (storeField ok v s f) := by
  unfold storeField
  split <;> first | exact put_shows _ _ _ | exact Shows.refl _ | (split <;> first | exact put_shows _ _ _ | exact Shows.refl _)

theorem foldl_shows {α : Type} (g : State → α → State) (hg : ∀ s x, Shows s (g s x)) (l : List α) (s : State) : Shows s (l.foldl g s) := by
  induction l generalizing s with
  | nil => exact Shows.refl s
  | cons x l ih => exact (hg s x).trans (ih _)

/-- A word is stored: registers, and nFAULT where GLB_FAULT changes. -/
theorem storeWord_shows (s : State) (a v : Nat) : Shows s (s.storeWord a v) := by
  have hd : ∀ u : State, Shows u u.dirtyCfg := fun u => put_shows u _ _
  unfold storeWord
  dsimp only
  refine Shows.trans ?_ (refreshFault_shows _)
  split_ifs
  · exact ((foldl_shows _ (storeField_shows _ _) _ s).trans (hd _)).trans (setOpt_shows _ _)
  · exact (foldl_shows _ (storeField_shows _ _) _ s).trans (setOpt_shows _ _)
  · exact (foldl_shows _ (storeField_shows _ _) _ s).trans (hd _)
  · exact foldl_shows _ (storeField_shows _ _) _ s

theorem Shows.outs {s t : State} (h : Shows s t) : ∃ o, t.outs = s.outs ++ o := by
  obtain ⟨r, o, p, i, n, l, m, rfl⟩ := h
  exact ⟨o, rfl⟩

theorem Shows.pending {s t : State} (h : Shows s t) : t.pending = s.pending := by obtain ⟨r, o, p, i, n, l, m, rfl⟩ := h; rfl
theorem Shows.now {s t : State} (h : Shows s t) : t.now = s.now := by obtain ⟨r, o, p, i, n, l, m, rfl⟩ := h; rfl
theorem Shows.power {s t : State} (h : Shows s t) : t.power = s.power := by obtain ⟨r, o, p, i, n, l, m, rfl⟩ := h; rfl
theorem Shows.cycRun {s t : State} (h : Shows s t) : t.cycRun = s.cycRun := by obtain ⟨r, o, p, i, n, l, m, rfl⟩ := h; rfl
theorem Shows.cyc {s t : State} (h : Shows s t) : t.cyc = s.cyc := by obtain ⟨r, o, p, i, n, l, m, rfl⟩ := h; rfl
theorem Shows.bnd {s t : State} (h : Shows s t) : t.bnd = s.bnd := by obtain ⟨r, o, p, i, n, l, m, rfl⟩ := h; rfl
theorem Shows.opBase {s t : State} (h : Shows s t) : t.opBase = s.opBase := by obtain ⟨r, o, p, i, n, l, m, rfl⟩ := h; rfl
theorem Shows.opAt {s t : State} (h : Shows s t) : t.opAt = s.opAt := by obtain ⟨r, o, p, i, n, l, m, rfl⟩ := h; rfl
theorem Shows.opPpm {s t : State} (h : Shows s t) : t.opPpm = s.opPpm := by obtain ⟨r, o, p, i, n, l, m, rfl⟩ := h; rfl
theorem Shows.events {s t : State} (h : Shows s t) : t.events = s.events := by obtain ⟨r, o, p, i, n, l, m, rfl⟩ := h; rfl
theorem Shows.onceGen {s t : State} (h : Shows s t) : t.onceGen = s.onceGen := by obtain ⟨r, o, p, i, n, l, m, rfl⟩ := h; rfl
theorem Shows.onceSec {s t : State} (h : Shows s t) : t.onceSec = s.onceSec := by obtain ⟨r, o, p, i, n, l, m, rfl⟩ := h; rfl
theorem Shows.onceSess {s t : State} (h : Shows s t) : t.onceSess = s.onceSess := by obtain ⟨r, o, p, i, n, l, m, rfl⟩ := h; rfl
theorem Shows.free {s t : State} (h : Shows s t) : t.free = s.free := by obtain ⟨r, o, p, i, n, l, m, rfl⟩ := h; rfl
theorem Shows.lanes {s t : State} (h : Shows s t) : t.lanes = s.lanes := by obtain ⟨r, o, p, i, n, l, m, rfl⟩ := h; rfl
theorem Shows.inau {s t : State} (h : Shows s t) : t.inau = s.inau := by obtain ⟨r, o, p, i, n, l, m, rfl⟩ := h; rfl
theorem Shows.sched {s t : State} (h : Shows s t) : t.sched = s.sched := by obtain ⟨r, o, p, i, n, l, m, rfl⟩ := h; rfl
theorem Shows.sync {s t : State} (h : Shows s t) : t.sync = s.sync := by obtain ⟨r, o, p, i, n, l, m, rfl⟩ := h; rfl
theorem Shows.time {s t : State} (h : Shows s t) : t.time = s.time := by obtain ⟨r, o, p, i, n, l, m, rfl⟩ := h; rfl
theorem Shows.fab {s t : State} (h : Shows s t) : t.fab = s.fab := by obtain ⟨r, o, p, i, n, l, m, rfl⟩ := h; rfl
theorem Shows.glb {s t : State} (h : Shows s t) : t.glb = s.glb := by obtain ⟨r, o, p, i, n, l, m, rfl⟩ := h; rfl
theorem Shows.twin {s t : State} (h : Shows s t) : t.twin = s.twin := by obtain ⟨r, o, p, i, n, l, m, rfl⟩ := h; rfl
theorem Shows.img {s t : State} (h : Shows s t) : t.img = s.img := by obtain ⟨r, o, p, i, n, l, m, rfl⟩ := h; rfl
theorem Shows.ports {s t : State} (h : Shows s t) : t.ports = s.ports := by obtain ⟨r, o, p, i, n, l, m, rfl⟩ := h; rfl
theorem Shows.host {s t : State} (h : Shows s t) : t.host = s.host := by obtain ⟨r, o, p, i, n, l, m, rfl⟩ := h; rfl
theorem Shows.eng {s t : State} (h : Shows s t) : t.eng = s.eng := by obtain ⟨r, o, p, i, n, l, m, rfl⟩ := h; rfl
theorem Shows.prg {s t : State} (h : Shows s t) : t.prg = s.prg := by obtain ⟨r, o, p, i, n, l, m, rfl⟩ := h; rfl
theorem Shows.recd {s t : State} (h : Shows s t) : t.recd = s.recd := by obtain ⟨r, o, p, i, n, l, m, rfl⟩ := h; rfl
theorem Shows.rest {s t : State} (h : Shows s t) : t.rest = s.rest := by obtain ⟨r, o, p, i, n, l, m, rfl⟩ := h; rfl
theorem Shows.brdg {s t : State} (h : Shows s t) : t.brdg = s.brdg := by obtain ⟨r, o, p, i, n, l, m, rfl⟩ := h; rfl
theorem Shows.hkp {s t : State} (h : Shows s t) : t.hkp = s.hkp := by obtain ⟨r, o, p, i, n, l, m, rfl⟩ := h; rfl
theorem Shows.msix_enable {s t : State} (h : Shows s t) : t.msix.enable = s.msix.enable := by obtain ⟨r, o, p, i, n, l, m, rfl⟩ := h; rfl
theorem Shows.msix_fmask {s t : State} (h : Shows s t) : t.msix.fmask = s.msix.fmask := by obtain ⟨r, o, p, i, n, l, m, rfl⟩ := h; rfl
theorem Shows.msix_table {s t : State} (h : Shows s t) : t.msix.table = s.msix.table := by obtain ⟨r, o, p, i, n, l, m, rfl⟩ := h; rfl
theorem Shows.msix_members {s t : State} (h : Shows s t) : t.msix.members = s.msix.members := by obtain ⟨r, o, p, i, n, l, m, rfl⟩ := h; rfl
theorem Shows.pwr_rst {s t : State} (h : Shows s t) : t.pwr.rst = s.pwr.rst := by obtain ⟨r, o, p, i, n, l, m, rfl⟩ := h; rfl
theorem Shows.pwr_hold {s t : State} (h : Shows s t) : t.pwr.hold = s.pwr.hold := by obtain ⟨r, o, p, i, n, l, m, rfl⟩ := h; rfl
theorem Shows.pwr_low {s t : State} (h : Shows s t) : t.pwr.low = s.pwr.low := by obtain ⟨r, o, p, i, n, l, m, rfl⟩ := h; rfl
theorem Shows.pwr_vio1 {s t : State} (h : Shows s t) : t.pwr.vio1 = s.pwr.vio1 := by obtain ⟨r, o, p, i, n, l, m, rfl⟩ := h; rfl
theorem Shows.pwr_vio2 {s t : State} (h : Shows s t) : t.pwr.vio2 = s.pwr.vio2 := by obtain ⟨r, o, p, i, n, l, m, rfl⟩ := h; rfl
theorem Shows.pwr_hot {s t : State} (h : Shows s t) : t.pwr.hot = s.pwr.hot := by obtain ⟨r, o, p, i, n, l, m, rfl⟩ := h; rfl
theorem Shows.pwr_paceWait {s t : State} (h : Shows s t) : t.pwr.paceWait = s.pwr.paceWait := by obtain ⟨r, o, p, i, n, l, m, rfl⟩ := h; rfl
theorem Shows.pwr_flash {s t : State} (h : Shows s t) : t.pwr.flash = s.pwr.flash := by obtain ⟨r, o, p, i, n, l, m, rfl⟩ := h; rfl
theorem Shows.cmd_slots {s t : State} (h : Shows s t) : t.cmd.slots = s.cmd.slots := by obtain ⟨r, o, p, i, n, l, m, rfl⟩ := h; rfl
theorem Shows.cmd_phase {s t : State} (h : Shows s t) : t.cmd.phase = s.cmd.phase := by obtain ⟨r, o, p, i, n, l, m, rfl⟩ := h; rfl
theorem Shows.cmd_seqCyc {s t : State} (h : Shows s t) : t.cmd.seqCyc = s.cmd.seqCyc := by obtain ⟨r, o, p, i, n, l, m, rfl⟩ := h; rfl
theorem Shows.cmd_seqCnt {s t : State} (h : Shows s t) : t.cmd.seqCnt = s.cmd.seqCnt := by obtain ⟨r, o, p, i, n, l, m, rfl⟩ := h; rfl
theorem Shows.cmd_outq {s t : State} (h : Shows s t) : t.cmd.outq = s.cmd.outq := by obtain ⟨r, o, p, i, n, l, m, rfl⟩ := h; rfl
theorem Shows.cmd_replay {s t : State} (h : Shows s t) : t.cmd.replay = s.cmd.replay := by obtain ⟨r, o, p, i, n, l, m, rfl⟩ := h; rfl
theorem Shows.cmd_keys {s t : State} (h : Shows s t) : t.cmd.keys = s.cmd.keys := by obtain ⟨r, o, p, i, n, l, m, rfl⟩ := h; rfl
theorem Shows.cmd_arm {s t : State} (h : Shows s t) : t.cmd.arm = s.cmd.arm := by obtain ⟨r, o, p, i, n, l, m, rfl⟩ := h; rfl
theorem Shows.cmd_notices {s t : State} (h : Shows s t) : t.cmd.notices = s.cmd.notices := by obtain ⟨r, o, p, i, n, l, m, rfl⟩ := h; rfl
theorem Shows.cmd_late {s t : State} (h : Shows s t) : t.cmd.late = s.cmd.late := by obtain ⟨r, o, p, i, n, l, m, rfl⟩ := h; rfl
theorem Shows.cmd_shut {s t : State} (h : Shows s t) : t.cmd.shut = s.cmd.shut := by obtain ⟨r, o, p, i, n, l, m, rfl⟩ := h; rfl

@[simp] theorem storeWord_pending (s : State) (a v : Nat) : (s.storeWord a v).pending = s.pending := (storeWord_shows s a v).pending
@[simp] theorem storeWord_now (s : State) (a v : Nat) : (s.storeWord a v).now = s.now := (storeWord_shows s a v).now
@[simp] theorem storeWord_power (s : State) (a v : Nat) : (s.storeWord a v).power = s.power := (storeWord_shows s a v).power
@[simp] theorem storeWord_cycRun (s : State) (a v : Nat) : (s.storeWord a v).cycRun = s.cycRun := (storeWord_shows s a v).cycRun
@[simp] theorem storeWord_cyc (s : State) (a v : Nat) : (s.storeWord a v).cyc = s.cyc := (storeWord_shows s a v).cyc
@[simp] theorem storeWord_bnd (s : State) (a v : Nat) : (s.storeWord a v).bnd = s.bnd := (storeWord_shows s a v).bnd
@[simp] theorem storeWord_opBase (s : State) (a v : Nat) : (s.storeWord a v).opBase = s.opBase := (storeWord_shows s a v).opBase
@[simp] theorem storeWord_opAt (s : State) (a v : Nat) : (s.storeWord a v).opAt = s.opAt := (storeWord_shows s a v).opAt
@[simp] theorem storeWord_opPpm (s : State) (a v : Nat) : (s.storeWord a v).opPpm = s.opPpm := (storeWord_shows s a v).opPpm
@[simp] theorem storeWord_events (s : State) (a v : Nat) : (s.storeWord a v).events = s.events := (storeWord_shows s a v).events
@[simp] theorem storeWord_onceGen (s : State) (a v : Nat) : (s.storeWord a v).onceGen = s.onceGen := (storeWord_shows s a v).onceGen
@[simp] theorem storeWord_onceSec (s : State) (a v : Nat) : (s.storeWord a v).onceSec = s.onceSec := (storeWord_shows s a v).onceSec
@[simp] theorem storeWord_onceSess (s : State) (a v : Nat) : (s.storeWord a v).onceSess = s.onceSess := (storeWord_shows s a v).onceSess
@[simp] theorem storeWord_free (s : State) (a v : Nat) : (s.storeWord a v).free = s.free := (storeWord_shows s a v).free
@[simp] theorem storeWord_lanes (s : State) (a v : Nat) : (s.storeWord a v).lanes = s.lanes := (storeWord_shows s a v).lanes
@[simp] theorem storeWord_inau (s : State) (a v : Nat) : (s.storeWord a v).inau = s.inau := (storeWord_shows s a v).inau
@[simp] theorem storeWord_sched (s : State) (a v : Nat) : (s.storeWord a v).sched = s.sched := (storeWord_shows s a v).sched
@[simp] theorem storeWord_sync (s : State) (a v : Nat) : (s.storeWord a v).sync = s.sync := (storeWord_shows s a v).sync
@[simp] theorem storeWord_time (s : State) (a v : Nat) : (s.storeWord a v).time = s.time := (storeWord_shows s a v).time
@[simp] theorem storeWord_fab (s : State) (a v : Nat) : (s.storeWord a v).fab = s.fab := (storeWord_shows s a v).fab
@[simp] theorem storeWord_glb (s : State) (a v : Nat) : (s.storeWord a v).glb = s.glb := (storeWord_shows s a v).glb
@[simp] theorem storeWord_twin (s : State) (a v : Nat) : (s.storeWord a v).twin = s.twin := (storeWord_shows s a v).twin
@[simp] theorem storeWord_img (s : State) (a v : Nat) : (s.storeWord a v).img = s.img := (storeWord_shows s a v).img
@[simp] theorem storeWord_ports (s : State) (a v : Nat) : (s.storeWord a v).ports = s.ports := (storeWord_shows s a v).ports
@[simp] theorem storeWord_host (s : State) (a v : Nat) : (s.storeWord a v).host = s.host := (storeWord_shows s a v).host
@[simp] theorem storeWord_eng (s : State) (a v : Nat) : (s.storeWord a v).eng = s.eng := (storeWord_shows s a v).eng
@[simp] theorem storeWord_prg (s : State) (a v : Nat) : (s.storeWord a v).prg = s.prg := (storeWord_shows s a v).prg
@[simp] theorem storeWord_recd (s : State) (a v : Nat) : (s.storeWord a v).recd = s.recd := (storeWord_shows s a v).recd
@[simp] theorem storeWord_rest (s : State) (a v : Nat) : (s.storeWord a v).rest = s.rest := (storeWord_shows s a v).rest
@[simp] theorem storeWord_brdg (s : State) (a v : Nat) : (s.storeWord a v).brdg = s.brdg := (storeWord_shows s a v).brdg
@[simp] theorem storeWord_hkp (s : State) (a v : Nat) : (s.storeWord a v).hkp = s.hkp := (storeWord_shows s a v).hkp
@[simp] theorem storeWord_msix_enable (s : State) (a v : Nat) : (s.storeWord a v).msix.enable = s.msix.enable := (storeWord_shows s a v).msix_enable
@[simp] theorem storeWord_msix_fmask (s : State) (a v : Nat) : (s.storeWord a v).msix.fmask = s.msix.fmask := (storeWord_shows s a v).msix_fmask
@[simp] theorem storeWord_msix_table (s : State) (a v : Nat) : (s.storeWord a v).msix.table = s.msix.table := (storeWord_shows s a v).msix_table
@[simp] theorem storeWord_msix_members (s : State) (a v : Nat) : (s.storeWord a v).msix.members = s.msix.members := (storeWord_shows s a v).msix_members
@[simp] theorem storeWord_pwr_rst (s : State) (a v : Nat) : (s.storeWord a v).pwr.rst = s.pwr.rst := (storeWord_shows s a v).pwr_rst
@[simp] theorem storeWord_pwr_hold (s : State) (a v : Nat) : (s.storeWord a v).pwr.hold = s.pwr.hold := (storeWord_shows s a v).pwr_hold
@[simp] theorem storeWord_pwr_low (s : State) (a v : Nat) : (s.storeWord a v).pwr.low = s.pwr.low := (storeWord_shows s a v).pwr_low
@[simp] theorem storeWord_pwr_vio1 (s : State) (a v : Nat) : (s.storeWord a v).pwr.vio1 = s.pwr.vio1 := (storeWord_shows s a v).pwr_vio1
@[simp] theorem storeWord_pwr_vio2 (s : State) (a v : Nat) : (s.storeWord a v).pwr.vio2 = s.pwr.vio2 := (storeWord_shows s a v).pwr_vio2
@[simp] theorem storeWord_pwr_hot (s : State) (a v : Nat) : (s.storeWord a v).pwr.hot = s.pwr.hot := (storeWord_shows s a v).pwr_hot
@[simp] theorem storeWord_pwr_paceWait (s : State) (a v : Nat) : (s.storeWord a v).pwr.paceWait = s.pwr.paceWait := (storeWord_shows s a v).pwr_paceWait
@[simp] theorem storeWord_pwr_flash (s : State) (a v : Nat) : (s.storeWord a v).pwr.flash = s.pwr.flash := (storeWord_shows s a v).pwr_flash
@[simp] theorem storeWord_cmd_slots (s : State) (a v : Nat) : (s.storeWord a v).cmd.slots = s.cmd.slots := (storeWord_shows s a v).cmd_slots
@[simp] theorem storeWord_cmd_phase (s : State) (a v : Nat) : (s.storeWord a v).cmd.phase = s.cmd.phase := (storeWord_shows s a v).cmd_phase
@[simp] theorem storeWord_cmd_seqCyc (s : State) (a v : Nat) : (s.storeWord a v).cmd.seqCyc = s.cmd.seqCyc := (storeWord_shows s a v).cmd_seqCyc
@[simp] theorem storeWord_cmd_seqCnt (s : State) (a v : Nat) : (s.storeWord a v).cmd.seqCnt = s.cmd.seqCnt := (storeWord_shows s a v).cmd_seqCnt
@[simp] theorem storeWord_cmd_outq (s : State) (a v : Nat) : (s.storeWord a v).cmd.outq = s.cmd.outq := (storeWord_shows s a v).cmd_outq
@[simp] theorem storeWord_cmd_replay (s : State) (a v : Nat) : (s.storeWord a v).cmd.replay = s.cmd.replay := (storeWord_shows s a v).cmd_replay
@[simp] theorem storeWord_cmd_keys (s : State) (a v : Nat) : (s.storeWord a v).cmd.keys = s.cmd.keys := (storeWord_shows s a v).cmd_keys
@[simp] theorem storeWord_cmd_arm (s : State) (a v : Nat) : (s.storeWord a v).cmd.arm = s.cmd.arm := (storeWord_shows s a v).cmd_arm
@[simp] theorem storeWord_cmd_notices (s : State) (a v : Nat) : (s.storeWord a v).cmd.notices = s.cmd.notices := (storeWord_shows s a v).cmd_notices
@[simp] theorem storeWord_cmd_late (s : State) (a v : Nat) : (s.storeWord a v).cmd.late = s.cmd.late := (storeWord_shows s a v).cmd_late
@[simp] theorem storeWord_cmd_shut (s : State) (a v : Nat) : (s.storeWord a v).cmd.shut = s.cmd.shut := (storeWord_shows s a v).cmd_shut

@[simp] theorem stackSend_pending (s : State) (a b c d e f : Nat) (pl : Bytes) : (s.stackSend a b c d e f pl).pending = s.pending := by
  obtain ⟨_, h⟩ := stackSend_shows s a b c d e f pl
  exact h.pending
@[simp] theorem stackSend_now (s : State) (a b c d e f : Nat) (pl : Bytes) : (s.stackSend a b c d e f pl).now = s.now := by
  obtain ⟨_, h⟩ := stackSend_shows s a b c d e f pl
  exact h.now
@[simp] theorem stackSend_power (s : State) (a b c d e f : Nat) (pl : Bytes) : (s.stackSend a b c d e f pl).power = s.power := by
  obtain ⟨_, h⟩ := stackSend_shows s a b c d e f pl
  exact h.power
@[simp] theorem stackSend_cycRun (s : State) (a b c d e f : Nat) (pl : Bytes) : (s.stackSend a b c d e f pl).cycRun = s.cycRun := by
  obtain ⟨_, h⟩ := stackSend_shows s a b c d e f pl
  exact h.cycRun
@[simp] theorem stackSend_cyc (s : State) (a b c d e f : Nat) (pl : Bytes) : (s.stackSend a b c d e f pl).cyc = s.cyc := by
  obtain ⟨_, h⟩ := stackSend_shows s a b c d e f pl
  exact h.cyc
@[simp] theorem stackSend_bnd (s : State) (a b c d e f : Nat) (pl : Bytes) : (s.stackSend a b c d e f pl).bnd = s.bnd := by
  obtain ⟨_, h⟩ := stackSend_shows s a b c d e f pl
  exact h.bnd
@[simp] theorem stackSend_opBase (s : State) (a b c d e f : Nat) (pl : Bytes) : (s.stackSend a b c d e f pl).opBase = s.opBase := by
  obtain ⟨_, h⟩ := stackSend_shows s a b c d e f pl
  exact h.opBase
@[simp] theorem stackSend_opAt (s : State) (a b c d e f : Nat) (pl : Bytes) : (s.stackSend a b c d e f pl).opAt = s.opAt := by
  obtain ⟨_, h⟩ := stackSend_shows s a b c d e f pl
  exact h.opAt
@[simp] theorem stackSend_opPpm (s : State) (a b c d e f : Nat) (pl : Bytes) : (s.stackSend a b c d e f pl).opPpm = s.opPpm := by
  obtain ⟨_, h⟩ := stackSend_shows s a b c d e f pl
  exact h.opPpm
@[simp] theorem stackSend_events (s : State) (a b c d e f : Nat) (pl : Bytes) : (s.stackSend a b c d e f pl).events = s.events := by
  obtain ⟨_, h⟩ := stackSend_shows s a b c d e f pl
  exact h.events
@[simp] theorem stackSend_onceGen (s : State) (a b c d e f : Nat) (pl : Bytes) : (s.stackSend a b c d e f pl).onceGen = s.onceGen := by
  obtain ⟨_, h⟩ := stackSend_shows s a b c d e f pl
  exact h.onceGen
@[simp] theorem stackSend_onceSec (s : State) (a b c d e f : Nat) (pl : Bytes) : (s.stackSend a b c d e f pl).onceSec = s.onceSec := by
  obtain ⟨_, h⟩ := stackSend_shows s a b c d e f pl
  exact h.onceSec
@[simp] theorem stackSend_onceSess (s : State) (a b c d e f : Nat) (pl : Bytes) : (s.stackSend a b c d e f pl).onceSess = s.onceSess := by
  obtain ⟨_, h⟩ := stackSend_shows s a b c d e f pl
  exact h.onceSess
@[simp] theorem stackSend_free (s : State) (a b c d e f : Nat) (pl : Bytes) : (s.stackSend a b c d e f pl).free = s.free := by
  obtain ⟨_, h⟩ := stackSend_shows s a b c d e f pl
  exact h.free
@[simp] theorem stackSend_lanes (s : State) (a b c d e f : Nat) (pl : Bytes) : (s.stackSend a b c d e f pl).lanes = s.lanes := by
  obtain ⟨_, h⟩ := stackSend_shows s a b c d e f pl
  exact h.lanes
@[simp] theorem stackSend_inau (s : State) (a b c d e f : Nat) (pl : Bytes) : (s.stackSend a b c d e f pl).inau = s.inau := by
  obtain ⟨_, h⟩ := stackSend_shows s a b c d e f pl
  exact h.inau
@[simp] theorem stackSend_sched (s : State) (a b c d e f : Nat) (pl : Bytes) : (s.stackSend a b c d e f pl).sched = s.sched := by
  obtain ⟨_, h⟩ := stackSend_shows s a b c d e f pl
  exact h.sched
@[simp] theorem stackSend_sync (s : State) (a b c d e f : Nat) (pl : Bytes) : (s.stackSend a b c d e f pl).sync = s.sync := by
  obtain ⟨_, h⟩ := stackSend_shows s a b c d e f pl
  exact h.sync
@[simp] theorem stackSend_time (s : State) (a b c d e f : Nat) (pl : Bytes) : (s.stackSend a b c d e f pl).time = s.time := by
  obtain ⟨_, h⟩ := stackSend_shows s a b c d e f pl
  exact h.time
@[simp] theorem stackSend_fab (s : State) (a b c d e f : Nat) (pl : Bytes) : (s.stackSend a b c d e f pl).fab = s.fab := by
  obtain ⟨_, h⟩ := stackSend_shows s a b c d e f pl
  exact h.fab
@[simp] theorem stackSend_glb (s : State) (a b c d e f : Nat) (pl : Bytes) : (s.stackSend a b c d e f pl).glb = s.glb := by
  obtain ⟨_, h⟩ := stackSend_shows s a b c d e f pl
  exact h.glb
@[simp] theorem stackSend_twin (s : State) (a b c d e f : Nat) (pl : Bytes) : (s.stackSend a b c d e f pl).twin = s.twin := by
  obtain ⟨_, h⟩ := stackSend_shows s a b c d e f pl
  exact h.twin
@[simp] theorem stackSend_img (s : State) (a b c d e f : Nat) (pl : Bytes) : (s.stackSend a b c d e f pl).img = s.img := by
  obtain ⟨_, h⟩ := stackSend_shows s a b c d e f pl
  exact h.img
@[simp] theorem stackSend_ports (s : State) (a b c d e f : Nat) (pl : Bytes) : (s.stackSend a b c d e f pl).ports = s.ports := by
  obtain ⟨_, h⟩ := stackSend_shows s a b c d e f pl
  exact h.ports
@[simp] theorem stackSend_host (s : State) (a b c d e f : Nat) (pl : Bytes) : (s.stackSend a b c d e f pl).host = s.host := by
  obtain ⟨_, h⟩ := stackSend_shows s a b c d e f pl
  exact h.host
@[simp] theorem stackSend_eng (s : State) (a b c d e f : Nat) (pl : Bytes) : (s.stackSend a b c d e f pl).eng = s.eng := by
  obtain ⟨_, h⟩ := stackSend_shows s a b c d e f pl
  exact h.eng
@[simp] theorem stackSend_prg (s : State) (a b c d e f : Nat) (pl : Bytes) : (s.stackSend a b c d e f pl).prg = s.prg := by
  obtain ⟨_, h⟩ := stackSend_shows s a b c d e f pl
  exact h.prg
@[simp] theorem stackSend_recd (s : State) (a b c d e f : Nat) (pl : Bytes) : (s.stackSend a b c d e f pl).recd = s.recd := by
  obtain ⟨_, h⟩ := stackSend_shows s a b c d e f pl
  exact h.recd
@[simp] theorem stackSend_rest (s : State) (a b c d e f : Nat) (pl : Bytes) : (s.stackSend a b c d e f pl).rest = s.rest := by
  obtain ⟨_, h⟩ := stackSend_shows s a b c d e f pl
  exact h.rest
theorem stackSend_brdg (s : State) (a b c d e f : Nat) (pl : Bytes) : ∃ q, (s.stackSend a b c d e f pl).brdg = { s.brdg with behind := q } := by
  obtain ⟨q, h⟩ := stackSend_shows s a b c d e f pl
  exact ⟨q, h.brdg⟩
@[simp] theorem stackSend_hkp (s : State) (a b c d e f : Nat) (pl : Bytes) : (s.stackSend a b c d e f pl).hkp = s.hkp := by
  obtain ⟨_, h⟩ := stackSend_shows s a b c d e f pl
  exact h.hkp
@[simp] theorem stackSend_msix_enable (s : State) (a b c d e f : Nat) (pl : Bytes) : (s.stackSend a b c d e f pl).msix.enable = s.msix.enable := by
  obtain ⟨_, h⟩ := stackSend_shows s a b c d e f pl
  exact h.msix_enable
@[simp] theorem stackSend_msix_fmask (s : State) (a b c d e f : Nat) (pl : Bytes) : (s.stackSend a b c d e f pl).msix.fmask = s.msix.fmask := by
  obtain ⟨_, h⟩ := stackSend_shows s a b c d e f pl
  exact h.msix_fmask
@[simp] theorem stackSend_msix_table (s : State) (a b c d e f : Nat) (pl : Bytes) : (s.stackSend a b c d e f pl).msix.table = s.msix.table := by
  obtain ⟨_, h⟩ := stackSend_shows s a b c d e f pl
  exact h.msix_table
@[simp] theorem stackSend_msix_members (s : State) (a b c d e f : Nat) (pl : Bytes) : (s.stackSend a b c d e f pl).msix.members = s.msix.members := by
  obtain ⟨_, h⟩ := stackSend_shows s a b c d e f pl
  exact h.msix_members
@[simp] theorem stackSend_pwr_rst (s : State) (a b c d e f : Nat) (pl : Bytes) : (s.stackSend a b c d e f pl).pwr.rst = s.pwr.rst := by
  obtain ⟨_, h⟩ := stackSend_shows s a b c d e f pl
  exact h.pwr_rst
@[simp] theorem stackSend_pwr_hold (s : State) (a b c d e f : Nat) (pl : Bytes) : (s.stackSend a b c d e f pl).pwr.hold = s.pwr.hold := by
  obtain ⟨_, h⟩ := stackSend_shows s a b c d e f pl
  exact h.pwr_hold
@[simp] theorem stackSend_pwr_low (s : State) (a b c d e f : Nat) (pl : Bytes) : (s.stackSend a b c d e f pl).pwr.low = s.pwr.low := by
  obtain ⟨_, h⟩ := stackSend_shows s a b c d e f pl
  exact h.pwr_low
@[simp] theorem stackSend_pwr_vio1 (s : State) (a b c d e f : Nat) (pl : Bytes) : (s.stackSend a b c d e f pl).pwr.vio1 = s.pwr.vio1 := by
  obtain ⟨_, h⟩ := stackSend_shows s a b c d e f pl
  exact h.pwr_vio1
@[simp] theorem stackSend_pwr_vio2 (s : State) (a b c d e f : Nat) (pl : Bytes) : (s.stackSend a b c d e f pl).pwr.vio2 = s.pwr.vio2 := by
  obtain ⟨_, h⟩ := stackSend_shows s a b c d e f pl
  exact h.pwr_vio2
@[simp] theorem stackSend_pwr_hot (s : State) (a b c d e f : Nat) (pl : Bytes) : (s.stackSend a b c d e f pl).pwr.hot = s.pwr.hot := by
  obtain ⟨_, h⟩ := stackSend_shows s a b c d e f pl
  exact h.pwr_hot
@[simp] theorem stackSend_pwr_paceWait (s : State) (a b c d e f : Nat) (pl : Bytes) : (s.stackSend a b c d e f pl).pwr.paceWait = s.pwr.paceWait := by
  obtain ⟨_, h⟩ := stackSend_shows s a b c d e f pl
  exact h.pwr_paceWait
@[simp] theorem stackSend_pwr_flash (s : State) (a b c d e f : Nat) (pl : Bytes) : (s.stackSend a b c d e f pl).pwr.flash = s.pwr.flash := by
  obtain ⟨_, h⟩ := stackSend_shows s a b c d e f pl
  exact h.pwr_flash
@[simp] theorem stackSend_cmd_slots (s : State) (a b c d e f : Nat) (pl : Bytes) : (s.stackSend a b c d e f pl).cmd.slots = s.cmd.slots := by
  obtain ⟨_, h⟩ := stackSend_shows s a b c d e f pl
  exact h.cmd_slots
@[simp] theorem stackSend_cmd_phase (s : State) (a b c d e f : Nat) (pl : Bytes) : (s.stackSend a b c d e f pl).cmd.phase = s.cmd.phase := by
  obtain ⟨_, h⟩ := stackSend_shows s a b c d e f pl
  exact h.cmd_phase
@[simp] theorem stackSend_cmd_seqCyc (s : State) (a b c d e f : Nat) (pl : Bytes) : (s.stackSend a b c d e f pl).cmd.seqCyc = s.cmd.seqCyc := by
  obtain ⟨_, h⟩ := stackSend_shows s a b c d e f pl
  exact h.cmd_seqCyc
@[simp] theorem stackSend_cmd_seqCnt (s : State) (a b c d e f : Nat) (pl : Bytes) : (s.stackSend a b c d e f pl).cmd.seqCnt = s.cmd.seqCnt := by
  obtain ⟨_, h⟩ := stackSend_shows s a b c d e f pl
  exact h.cmd_seqCnt
@[simp] theorem stackSend_cmd_outq (s : State) (a b c d e f : Nat) (pl : Bytes) : (s.stackSend a b c d e f pl).cmd.outq = s.cmd.outq := by
  obtain ⟨_, h⟩ := stackSend_shows s a b c d e f pl
  exact h.cmd_outq
@[simp] theorem stackSend_cmd_replay (s : State) (a b c d e f : Nat) (pl : Bytes) : (s.stackSend a b c d e f pl).cmd.replay = s.cmd.replay := by
  obtain ⟨_, h⟩ := stackSend_shows s a b c d e f pl
  exact h.cmd_replay
@[simp] theorem stackSend_cmd_keys (s : State) (a b c d e f : Nat) (pl : Bytes) : (s.stackSend a b c d e f pl).cmd.keys = s.cmd.keys := by
  obtain ⟨_, h⟩ := stackSend_shows s a b c d e f pl
  exact h.cmd_keys
@[simp] theorem stackSend_cmd_arm (s : State) (a b c d e f : Nat) (pl : Bytes) : (s.stackSend a b c d e f pl).cmd.arm = s.cmd.arm := by
  obtain ⟨_, h⟩ := stackSend_shows s a b c d e f pl
  exact h.cmd_arm
@[simp] theorem stackSend_cmd_notices (s : State) (a b c d e f : Nat) (pl : Bytes) : (s.stackSend a b c d e f pl).cmd.notices = s.cmd.notices := by
  obtain ⟨_, h⟩ := stackSend_shows s a b c d e f pl
  exact h.cmd_notices
@[simp] theorem stackSend_cmd_late (s : State) (a b c d e f : Nat) (pl : Bytes) : (s.stackSend a b c d e f pl).cmd.late = s.cmd.late := by
  obtain ⟨_, h⟩ := stackSend_shows s a b c d e f pl
  exact h.cmd_late
@[simp] theorem stackSend_cmd_shut (s : State) (a b c d e f : Nat) (pl : Bytes) : (s.stackSend a b c d e f pl).cmd.shut = s.cmd.shut := by
  obtain ⟨_, h⟩ := stackSend_shows s a b c d e f pl
  exact h.cmd_shut
@[simp] theorem stackSend_pwr (s : State) (a b c d e f : Nat) (pl : Bytes) : (s.stackSend a b c d e f pl).pwr = s.pwr := by
  unfold stackSend; dsimp only; repeat' split
  all_goals rfl
@[simp] theorem stackSend_cmd (s : State) (a b c d e f : Nat) (pl : Bytes) : (s.stackSend a b c d e f pl).cmd = s.cmd := by
  unfold stackSend; dsimp only; repeat' split
  all_goals rfl
@[simp] theorem stackSend_regs (s : State) (a b c d e f : Nat) (pl : Bytes) : (s.stackSend a b c d e f pl).regs = s.regs := by
  unfold stackSend; dsimp only; repeat' split
  all_goals rfl
@[simp] theorem stackSend_msix (s : State) (a b c d e f : Nat) (pl : Bytes) : (s.stackSend a b c d e f pl).msix = s.msix := by
  unfold stackSend; dsimp only; repeat' split
  all_goals rfl

@[simp] theorem refreshInta_pending (s : State) : (s.refreshInta).pending = s.pending := (refreshInta_shows s).pending
@[simp] theorem refreshInta_now (s : State) : (s.refreshInta).now = s.now := (refreshInta_shows s).now
@[simp] theorem refreshInta_power (s : State) : (s.refreshInta).power = s.power := (refreshInta_shows s).power
@[simp] theorem refreshInta_cycRun (s : State) : (s.refreshInta).cycRun = s.cycRun := (refreshInta_shows s).cycRun
@[simp] theorem refreshInta_cyc (s : State) : (s.refreshInta).cyc = s.cyc := (refreshInta_shows s).cyc
@[simp] theorem refreshInta_bnd (s : State) : (s.refreshInta).bnd = s.bnd := (refreshInta_shows s).bnd
@[simp] theorem refreshInta_opBase (s : State) : (s.refreshInta).opBase = s.opBase := (refreshInta_shows s).opBase
@[simp] theorem refreshInta_opAt (s : State) : (s.refreshInta).opAt = s.opAt := (refreshInta_shows s).opAt
@[simp] theorem refreshInta_opPpm (s : State) : (s.refreshInta).opPpm = s.opPpm := (refreshInta_shows s).opPpm
@[simp] theorem refreshInta_events (s : State) : (s.refreshInta).events = s.events := (refreshInta_shows s).events
@[simp] theorem refreshInta_onceGen (s : State) : (s.refreshInta).onceGen = s.onceGen := (refreshInta_shows s).onceGen
@[simp] theorem refreshInta_onceSec (s : State) : (s.refreshInta).onceSec = s.onceSec := (refreshInta_shows s).onceSec
@[simp] theorem refreshInta_onceSess (s : State) : (s.refreshInta).onceSess = s.onceSess := (refreshInta_shows s).onceSess
@[simp] theorem refreshInta_free (s : State) : (s.refreshInta).free = s.free := (refreshInta_shows s).free
@[simp] theorem refreshInta_lanes (s : State) : (s.refreshInta).lanes = s.lanes := (refreshInta_shows s).lanes
@[simp] theorem refreshInta_inau (s : State) : (s.refreshInta).inau = s.inau := (refreshInta_shows s).inau
@[simp] theorem refreshInta_sched (s : State) : (s.refreshInta).sched = s.sched := (refreshInta_shows s).sched
@[simp] theorem refreshInta_sync (s : State) : (s.refreshInta).sync = s.sync := (refreshInta_shows s).sync
@[simp] theorem refreshInta_time (s : State) : (s.refreshInta).time = s.time := (refreshInta_shows s).time
@[simp] theorem refreshInta_fab (s : State) : (s.refreshInta).fab = s.fab := (refreshInta_shows s).fab
@[simp] theorem refreshInta_glb (s : State) : (s.refreshInta).glb = s.glb := (refreshInta_shows s).glb
@[simp] theorem refreshInta_twin (s : State) : (s.refreshInta).twin = s.twin := (refreshInta_shows s).twin
@[simp] theorem refreshInta_img (s : State) : (s.refreshInta).img = s.img := (refreshInta_shows s).img
@[simp] theorem refreshInta_ports (s : State) : (s.refreshInta).ports = s.ports := (refreshInta_shows s).ports
@[simp] theorem refreshInta_host (s : State) : (s.refreshInta).host = s.host := (refreshInta_shows s).host
@[simp] theorem refreshInta_eng (s : State) : (s.refreshInta).eng = s.eng := (refreshInta_shows s).eng
@[simp] theorem refreshInta_prg (s : State) : (s.refreshInta).prg = s.prg := (refreshInta_shows s).prg
@[simp] theorem refreshInta_recd (s : State) : (s.refreshInta).recd = s.recd := (refreshInta_shows s).recd
@[simp] theorem refreshInta_rest (s : State) : (s.refreshInta).rest = s.rest := (refreshInta_shows s).rest
@[simp] theorem refreshInta_brdg (s : State) : (s.refreshInta).brdg = s.brdg := (refreshInta_shows s).brdg
@[simp] theorem refreshInta_hkp (s : State) : (s.refreshInta).hkp = s.hkp := (refreshInta_shows s).hkp
@[simp] theorem refreshInta_msix_enable (s : State) : (s.refreshInta).msix.enable = s.msix.enable := (refreshInta_shows s).msix_enable
@[simp] theorem refreshInta_msix_fmask (s : State) : (s.refreshInta).msix.fmask = s.msix.fmask := (refreshInta_shows s).msix_fmask
@[simp] theorem refreshInta_msix_table (s : State) : (s.refreshInta).msix.table = s.msix.table := (refreshInta_shows s).msix_table
@[simp] theorem refreshInta_msix_members (s : State) : (s.refreshInta).msix.members = s.msix.members := (refreshInta_shows s).msix_members
@[simp] theorem refreshInta_pwr_rst (s : State) : (s.refreshInta).pwr.rst = s.pwr.rst := (refreshInta_shows s).pwr_rst
@[simp] theorem refreshInta_pwr_hold (s : State) : (s.refreshInta).pwr.hold = s.pwr.hold := (refreshInta_shows s).pwr_hold
@[simp] theorem refreshInta_pwr_low (s : State) : (s.refreshInta).pwr.low = s.pwr.low := (refreshInta_shows s).pwr_low
@[simp] theorem refreshInta_pwr_vio1 (s : State) : (s.refreshInta).pwr.vio1 = s.pwr.vio1 := (refreshInta_shows s).pwr_vio1
@[simp] theorem refreshInta_pwr_vio2 (s : State) : (s.refreshInta).pwr.vio2 = s.pwr.vio2 := (refreshInta_shows s).pwr_vio2
@[simp] theorem refreshInta_pwr_hot (s : State) : (s.refreshInta).pwr.hot = s.pwr.hot := (refreshInta_shows s).pwr_hot
@[simp] theorem refreshInta_pwr_paceWait (s : State) : (s.refreshInta).pwr.paceWait = s.pwr.paceWait := (refreshInta_shows s).pwr_paceWait
@[simp] theorem refreshInta_pwr_flash (s : State) : (s.refreshInta).pwr.flash = s.pwr.flash := (refreshInta_shows s).pwr_flash
@[simp] theorem refreshInta_cmd_slots (s : State) : (s.refreshInta).cmd.slots = s.cmd.slots := (refreshInta_shows s).cmd_slots
@[simp] theorem refreshInta_cmd_phase (s : State) : (s.refreshInta).cmd.phase = s.cmd.phase := (refreshInta_shows s).cmd_phase
@[simp] theorem refreshInta_cmd_seqCyc (s : State) : (s.refreshInta).cmd.seqCyc = s.cmd.seqCyc := (refreshInta_shows s).cmd_seqCyc
@[simp] theorem refreshInta_cmd_seqCnt (s : State) : (s.refreshInta).cmd.seqCnt = s.cmd.seqCnt := (refreshInta_shows s).cmd_seqCnt
@[simp] theorem refreshInta_cmd_outq (s : State) : (s.refreshInta).cmd.outq = s.cmd.outq := (refreshInta_shows s).cmd_outq
@[simp] theorem refreshInta_cmd_replay (s : State) : (s.refreshInta).cmd.replay = s.cmd.replay := (refreshInta_shows s).cmd_replay
@[simp] theorem refreshInta_cmd_keys (s : State) : (s.refreshInta).cmd.keys = s.cmd.keys := (refreshInta_shows s).cmd_keys
@[simp] theorem refreshInta_cmd_arm (s : State) : (s.refreshInta).cmd.arm = s.cmd.arm := (refreshInta_shows s).cmd_arm
@[simp] theorem refreshInta_cmd_notices (s : State) : (s.refreshInta).cmd.notices = s.cmd.notices := (refreshInta_shows s).cmd_notices
@[simp] theorem refreshInta_cmd_late (s : State) : (s.refreshInta).cmd.late = s.cmd.late := (refreshInta_shows s).cmd_late
@[simp] theorem refreshInta_cmd_shut (s : State) : (s.refreshInta).cmd.shut = s.cmd.shut := (refreshInta_shows s).cmd_shut
@[simp] theorem refreshInta_pwr (s : State) : (s.refreshInta).pwr = s.pwr := by unfold refreshInta; dsimp only; split_ifs <;> simp
@[simp] theorem refreshInta_cmd (s : State) : (s.refreshInta).cmd = s.cmd := by unfold refreshInta; dsimp only; split_ifs <;> simp
@[simp] theorem refreshInta_regs (s : State) : (s.refreshInta).regs = s.regs := by unfold refreshInta; dsimp only; split_ifs <;> simp

@[simp] theorem signal_pending (s : State) (v : Nat) : (s.signal v).pending = s.pending := (signal_shows s v).pending
@[simp] theorem signal_now (s : State) (v : Nat) : (s.signal v).now = s.now := (signal_shows s v).now
@[simp] theorem signal_power (s : State) (v : Nat) : (s.signal v).power = s.power := (signal_shows s v).power
@[simp] theorem signal_cycRun (s : State) (v : Nat) : (s.signal v).cycRun = s.cycRun := (signal_shows s v).cycRun
@[simp] theorem signal_cyc (s : State) (v : Nat) : (s.signal v).cyc = s.cyc := (signal_shows s v).cyc
@[simp] theorem signal_bnd (s : State) (v : Nat) : (s.signal v).bnd = s.bnd := (signal_shows s v).bnd
@[simp] theorem signal_opBase (s : State) (v : Nat) : (s.signal v).opBase = s.opBase := (signal_shows s v).opBase
@[simp] theorem signal_opAt (s : State) (v : Nat) : (s.signal v).opAt = s.opAt := (signal_shows s v).opAt
@[simp] theorem signal_opPpm (s : State) (v : Nat) : (s.signal v).opPpm = s.opPpm := (signal_shows s v).opPpm
@[simp] theorem signal_events (s : State) (v : Nat) : (s.signal v).events = s.events := (signal_shows s v).events
@[simp] theorem signal_onceGen (s : State) (v : Nat) : (s.signal v).onceGen = s.onceGen := (signal_shows s v).onceGen
@[simp] theorem signal_onceSec (s : State) (v : Nat) : (s.signal v).onceSec = s.onceSec := (signal_shows s v).onceSec
@[simp] theorem signal_onceSess (s : State) (v : Nat) : (s.signal v).onceSess = s.onceSess := (signal_shows s v).onceSess
@[simp] theorem signal_free (s : State) (v : Nat) : (s.signal v).free = s.free := (signal_shows s v).free
@[simp] theorem signal_lanes (s : State) (v : Nat) : (s.signal v).lanes = s.lanes := (signal_shows s v).lanes
@[simp] theorem signal_inau (s : State) (v : Nat) : (s.signal v).inau = s.inau := (signal_shows s v).inau
@[simp] theorem signal_sched (s : State) (v : Nat) : (s.signal v).sched = s.sched := (signal_shows s v).sched
@[simp] theorem signal_sync (s : State) (v : Nat) : (s.signal v).sync = s.sync := (signal_shows s v).sync
@[simp] theorem signal_time (s : State) (v : Nat) : (s.signal v).time = s.time := (signal_shows s v).time
@[simp] theorem signal_fab (s : State) (v : Nat) : (s.signal v).fab = s.fab := (signal_shows s v).fab
@[simp] theorem signal_glb (s : State) (v : Nat) : (s.signal v).glb = s.glb := (signal_shows s v).glb
@[simp] theorem signal_twin (s : State) (v : Nat) : (s.signal v).twin = s.twin := (signal_shows s v).twin
@[simp] theorem signal_img (s : State) (v : Nat) : (s.signal v).img = s.img := (signal_shows s v).img
@[simp] theorem signal_ports (s : State) (v : Nat) : (s.signal v).ports = s.ports := (signal_shows s v).ports
@[simp] theorem signal_host (s : State) (v : Nat) : (s.signal v).host = s.host := (signal_shows s v).host
@[simp] theorem signal_eng (s : State) (v : Nat) : (s.signal v).eng = s.eng := (signal_shows s v).eng
@[simp] theorem signal_prg (s : State) (v : Nat) : (s.signal v).prg = s.prg := (signal_shows s v).prg
@[simp] theorem signal_recd (s : State) (v : Nat) : (s.signal v).recd = s.recd := (signal_shows s v).recd
@[simp] theorem signal_rest (s : State) (v : Nat) : (s.signal v).rest = s.rest := (signal_shows s v).rest
@[simp] theorem signal_brdg (s : State) (v : Nat) : (s.signal v).brdg = s.brdg := (signal_shows s v).brdg
@[simp] theorem signal_hkp (s : State) (v : Nat) : (s.signal v).hkp = s.hkp := (signal_shows s v).hkp
@[simp] theorem signal_msix_enable (s : State) (v : Nat) : (s.signal v).msix.enable = s.msix.enable := (signal_shows s v).msix_enable
@[simp] theorem signal_msix_fmask (s : State) (v : Nat) : (s.signal v).msix.fmask = s.msix.fmask := (signal_shows s v).msix_fmask
@[simp] theorem signal_msix_table (s : State) (v : Nat) : (s.signal v).msix.table = s.msix.table := (signal_shows s v).msix_table
@[simp] theorem signal_msix_members (s : State) (v : Nat) : (s.signal v).msix.members = s.msix.members := (signal_shows s v).msix_members
@[simp] theorem signal_pwr_rst (s : State) (v : Nat) : (s.signal v).pwr.rst = s.pwr.rst := (signal_shows s v).pwr_rst
@[simp] theorem signal_pwr_hold (s : State) (v : Nat) : (s.signal v).pwr.hold = s.pwr.hold := (signal_shows s v).pwr_hold
@[simp] theorem signal_pwr_low (s : State) (v : Nat) : (s.signal v).pwr.low = s.pwr.low := (signal_shows s v).pwr_low
@[simp] theorem signal_pwr_vio1 (s : State) (v : Nat) : (s.signal v).pwr.vio1 = s.pwr.vio1 := (signal_shows s v).pwr_vio1
@[simp] theorem signal_pwr_vio2 (s : State) (v : Nat) : (s.signal v).pwr.vio2 = s.pwr.vio2 := (signal_shows s v).pwr_vio2
@[simp] theorem signal_pwr_hot (s : State) (v : Nat) : (s.signal v).pwr.hot = s.pwr.hot := (signal_shows s v).pwr_hot
@[simp] theorem signal_pwr_paceWait (s : State) (v : Nat) : (s.signal v).pwr.paceWait = s.pwr.paceWait := (signal_shows s v).pwr_paceWait
@[simp] theorem signal_pwr_flash (s : State) (v : Nat) : (s.signal v).pwr.flash = s.pwr.flash := (signal_shows s v).pwr_flash
@[simp] theorem signal_cmd_slots (s : State) (v : Nat) : (s.signal v).cmd.slots = s.cmd.slots := (signal_shows s v).cmd_slots
@[simp] theorem signal_cmd_phase (s : State) (v : Nat) : (s.signal v).cmd.phase = s.cmd.phase := (signal_shows s v).cmd_phase
@[simp] theorem signal_cmd_seqCyc (s : State) (v : Nat) : (s.signal v).cmd.seqCyc = s.cmd.seqCyc := (signal_shows s v).cmd_seqCyc
@[simp] theorem signal_cmd_seqCnt (s : State) (v : Nat) : (s.signal v).cmd.seqCnt = s.cmd.seqCnt := (signal_shows s v).cmd_seqCnt
@[simp] theorem signal_cmd_outq (s : State) (v : Nat) : (s.signal v).cmd.outq = s.cmd.outq := (signal_shows s v).cmd_outq
@[simp] theorem signal_cmd_replay (s : State) (v : Nat) : (s.signal v).cmd.replay = s.cmd.replay := (signal_shows s v).cmd_replay
@[simp] theorem signal_cmd_keys (s : State) (v : Nat) : (s.signal v).cmd.keys = s.cmd.keys := (signal_shows s v).cmd_keys
@[simp] theorem signal_cmd_arm (s : State) (v : Nat) : (s.signal v).cmd.arm = s.cmd.arm := (signal_shows s v).cmd_arm
@[simp] theorem signal_cmd_notices (s : State) (v : Nat) : (s.signal v).cmd.notices = s.cmd.notices := (signal_shows s v).cmd_notices
@[simp] theorem signal_cmd_late (s : State) (v : Nat) : (s.signal v).cmd.late = s.cmd.late := (signal_shows s v).cmd_late
@[simp] theorem signal_cmd_shut (s : State) (v : Nat) : (s.signal v).cmd.shut = s.cmd.shut := (signal_shows s v).cmd_shut
@[simp] theorem signal_pwr (s : State) (v : Nat) : (s.signal v).pwr = s.pwr := by unfold signal; dsimp only; split_ifs <;> simp
@[simp] theorem signal_cmd (s : State) (v : Nat) : (s.signal v).cmd = s.cmd := by unfold signal; dsimp only; split_ifs <;> simp
@[simp] theorem signal_regs (s : State) (v : Nat) : (s.signal v).regs = s.regs := by unfold signal; dsimp only; split_ifs <;> simp

@[simp] theorem raise_pending (s : State) (f : Fld) : (s.raise f).pending = s.pending := (raise_shows s f).pending
@[simp] theorem raise_now (s : State) (f : Fld) : (s.raise f).now = s.now := (raise_shows s f).now
@[simp] theorem raise_power (s : State) (f : Fld) : (s.raise f).power = s.power := (raise_shows s f).power
@[simp] theorem raise_cycRun (s : State) (f : Fld) : (s.raise f).cycRun = s.cycRun := (raise_shows s f).cycRun
@[simp] theorem raise_cyc (s : State) (f : Fld) : (s.raise f).cyc = s.cyc := (raise_shows s f).cyc
@[simp] theorem raise_bnd (s : State) (f : Fld) : (s.raise f).bnd = s.bnd := (raise_shows s f).bnd
@[simp] theorem raise_opBase (s : State) (f : Fld) : (s.raise f).opBase = s.opBase := (raise_shows s f).opBase
@[simp] theorem raise_opAt (s : State) (f : Fld) : (s.raise f).opAt = s.opAt := (raise_shows s f).opAt
@[simp] theorem raise_opPpm (s : State) (f : Fld) : (s.raise f).opPpm = s.opPpm := (raise_shows s f).opPpm
@[simp] theorem raise_events (s : State) (f : Fld) : (s.raise f).events = s.events := (raise_shows s f).events
@[simp] theorem raise_onceGen (s : State) (f : Fld) : (s.raise f).onceGen = s.onceGen := (raise_shows s f).onceGen
@[simp] theorem raise_onceSec (s : State) (f : Fld) : (s.raise f).onceSec = s.onceSec := (raise_shows s f).onceSec
@[simp] theorem raise_onceSess (s : State) (f : Fld) : (s.raise f).onceSess = s.onceSess := (raise_shows s f).onceSess
@[simp] theorem raise_free (s : State) (f : Fld) : (s.raise f).free = s.free := (raise_shows s f).free
@[simp] theorem raise_lanes (s : State) (f : Fld) : (s.raise f).lanes = s.lanes := (raise_shows s f).lanes
@[simp] theorem raise_inau (s : State) (f : Fld) : (s.raise f).inau = s.inau := (raise_shows s f).inau
@[simp] theorem raise_sched (s : State) (f : Fld) : (s.raise f).sched = s.sched := (raise_shows s f).sched
@[simp] theorem raise_sync (s : State) (f : Fld) : (s.raise f).sync = s.sync := (raise_shows s f).sync
@[simp] theorem raise_time (s : State) (f : Fld) : (s.raise f).time = s.time := (raise_shows s f).time
@[simp] theorem raise_fab (s : State) (f : Fld) : (s.raise f).fab = s.fab := (raise_shows s f).fab
@[simp] theorem raise_glb (s : State) (f : Fld) : (s.raise f).glb = s.glb := (raise_shows s f).glb
@[simp] theorem raise_twin (s : State) (f : Fld) : (s.raise f).twin = s.twin := (raise_shows s f).twin
@[simp] theorem raise_img (s : State) (f : Fld) : (s.raise f).img = s.img := (raise_shows s f).img
@[simp] theorem raise_ports (s : State) (f : Fld) : (s.raise f).ports = s.ports := (raise_shows s f).ports
@[simp] theorem raise_host (s : State) (f : Fld) : (s.raise f).host = s.host := (raise_shows s f).host
@[simp] theorem raise_eng (s : State) (f : Fld) : (s.raise f).eng = s.eng := (raise_shows s f).eng
@[simp] theorem raise_prg (s : State) (f : Fld) : (s.raise f).prg = s.prg := (raise_shows s f).prg
@[simp] theorem raise_recd (s : State) (f : Fld) : (s.raise f).recd = s.recd := (raise_shows s f).recd
@[simp] theorem raise_rest (s : State) (f : Fld) : (s.raise f).rest = s.rest := (raise_shows s f).rest
@[simp] theorem raise_brdg (s : State) (f : Fld) : (s.raise f).brdg = s.brdg := (raise_shows s f).brdg
@[simp] theorem raise_hkp (s : State) (f : Fld) : (s.raise f).hkp = s.hkp := (raise_shows s f).hkp
@[simp] theorem raise_msix_enable (s : State) (f : Fld) : (s.raise f).msix.enable = s.msix.enable := (raise_shows s f).msix_enable
@[simp] theorem raise_msix_fmask (s : State) (f : Fld) : (s.raise f).msix.fmask = s.msix.fmask := (raise_shows s f).msix_fmask
@[simp] theorem raise_msix_table (s : State) (f : Fld) : (s.raise f).msix.table = s.msix.table := (raise_shows s f).msix_table
@[simp] theorem raise_msix_members (s : State) (f : Fld) : (s.raise f).msix.members = s.msix.members := (raise_shows s f).msix_members
@[simp] theorem raise_pwr_rst (s : State) (f : Fld) : (s.raise f).pwr.rst = s.pwr.rst := (raise_shows s f).pwr_rst
@[simp] theorem raise_pwr_hold (s : State) (f : Fld) : (s.raise f).pwr.hold = s.pwr.hold := (raise_shows s f).pwr_hold
@[simp] theorem raise_pwr_low (s : State) (f : Fld) : (s.raise f).pwr.low = s.pwr.low := (raise_shows s f).pwr_low
@[simp] theorem raise_pwr_vio1 (s : State) (f : Fld) : (s.raise f).pwr.vio1 = s.pwr.vio1 := (raise_shows s f).pwr_vio1
@[simp] theorem raise_pwr_vio2 (s : State) (f : Fld) : (s.raise f).pwr.vio2 = s.pwr.vio2 := (raise_shows s f).pwr_vio2
@[simp] theorem raise_pwr_hot (s : State) (f : Fld) : (s.raise f).pwr.hot = s.pwr.hot := (raise_shows s f).pwr_hot
@[simp] theorem raise_pwr_paceWait (s : State) (f : Fld) : (s.raise f).pwr.paceWait = s.pwr.paceWait := (raise_shows s f).pwr_paceWait
@[simp] theorem raise_pwr_flash (s : State) (f : Fld) : (s.raise f).pwr.flash = s.pwr.flash := (raise_shows s f).pwr_flash
@[simp] theorem raise_cmd_slots (s : State) (f : Fld) : (s.raise f).cmd.slots = s.cmd.slots := (raise_shows s f).cmd_slots
@[simp] theorem raise_cmd_phase (s : State) (f : Fld) : (s.raise f).cmd.phase = s.cmd.phase := (raise_shows s f).cmd_phase
@[simp] theorem raise_cmd_seqCyc (s : State) (f : Fld) : (s.raise f).cmd.seqCyc = s.cmd.seqCyc := (raise_shows s f).cmd_seqCyc
@[simp] theorem raise_cmd_seqCnt (s : State) (f : Fld) : (s.raise f).cmd.seqCnt = s.cmd.seqCnt := (raise_shows s f).cmd_seqCnt
@[simp] theorem raise_cmd_outq (s : State) (f : Fld) : (s.raise f).cmd.outq = s.cmd.outq := (raise_shows s f).cmd_outq
@[simp] theorem raise_cmd_replay (s : State) (f : Fld) : (s.raise f).cmd.replay = s.cmd.replay := (raise_shows s f).cmd_replay
@[simp] theorem raise_cmd_keys (s : State) (f : Fld) : (s.raise f).cmd.keys = s.cmd.keys := (raise_shows s f).cmd_keys
@[simp] theorem raise_cmd_arm (s : State) (f : Fld) : (s.raise f).cmd.arm = s.cmd.arm := (raise_shows s f).cmd_arm
@[simp] theorem raise_cmd_notices (s : State) (f : Fld) : (s.raise f).cmd.notices = s.cmd.notices := (raise_shows s f).cmd_notices
@[simp] theorem raise_cmd_late (s : State) (f : Fld) : (s.raise f).cmd.late = s.cmd.late := (raise_shows s f).cmd_late
@[simp] theorem raise_cmd_shut (s : State) (f : Fld) : (s.raise f).cmd.shut = s.cmd.shut := (raise_shows s f).cmd_shut
@[simp] theorem raise_pwr (s : State) (f : Fld) : (s.raise f).pwr = s.pwr := by unfold raise; dsimp only; split_ifs <;> simp
@[simp] theorem raise_cmd (s : State) (f : Fld) : (s.raise f).cmd = s.cmd := by unfold raise; dsimp only; split_ifs <;> simp

@[simp] theorem refreshFault_pending (s : State) : (s.refreshFault).pending = s.pending := (refreshFault_shows s).pending
@[simp] theorem refreshFault_now (s : State) : (s.refreshFault).now = s.now := (refreshFault_shows s).now
@[simp] theorem refreshFault_power (s : State) : (s.refreshFault).power = s.power := (refreshFault_shows s).power
@[simp] theorem refreshFault_cycRun (s : State) : (s.refreshFault).cycRun = s.cycRun := (refreshFault_shows s).cycRun
@[simp] theorem refreshFault_cyc (s : State) : (s.refreshFault).cyc = s.cyc := (refreshFault_shows s).cyc
@[simp] theorem refreshFault_bnd (s : State) : (s.refreshFault).bnd = s.bnd := (refreshFault_shows s).bnd
@[simp] theorem refreshFault_opBase (s : State) : (s.refreshFault).opBase = s.opBase := (refreshFault_shows s).opBase
@[simp] theorem refreshFault_opAt (s : State) : (s.refreshFault).opAt = s.opAt := (refreshFault_shows s).opAt
@[simp] theorem refreshFault_opPpm (s : State) : (s.refreshFault).opPpm = s.opPpm := (refreshFault_shows s).opPpm
@[simp] theorem refreshFault_events (s : State) : (s.refreshFault).events = s.events := (refreshFault_shows s).events
@[simp] theorem refreshFault_onceGen (s : State) : (s.refreshFault).onceGen = s.onceGen := (refreshFault_shows s).onceGen
@[simp] theorem refreshFault_onceSec (s : State) : (s.refreshFault).onceSec = s.onceSec := (refreshFault_shows s).onceSec
@[simp] theorem refreshFault_onceSess (s : State) : (s.refreshFault).onceSess = s.onceSess := (refreshFault_shows s).onceSess
@[simp] theorem refreshFault_free (s : State) : (s.refreshFault).free = s.free := (refreshFault_shows s).free
@[simp] theorem refreshFault_lanes (s : State) : (s.refreshFault).lanes = s.lanes := (refreshFault_shows s).lanes
@[simp] theorem refreshFault_inau (s : State) : (s.refreshFault).inau = s.inau := (refreshFault_shows s).inau
@[simp] theorem refreshFault_sched (s : State) : (s.refreshFault).sched = s.sched := (refreshFault_shows s).sched
@[simp] theorem refreshFault_sync (s : State) : (s.refreshFault).sync = s.sync := (refreshFault_shows s).sync
@[simp] theorem refreshFault_time (s : State) : (s.refreshFault).time = s.time := (refreshFault_shows s).time
@[simp] theorem refreshFault_fab (s : State) : (s.refreshFault).fab = s.fab := (refreshFault_shows s).fab
@[simp] theorem refreshFault_glb (s : State) : (s.refreshFault).glb = s.glb := (refreshFault_shows s).glb
@[simp] theorem refreshFault_twin (s : State) : (s.refreshFault).twin = s.twin := (refreshFault_shows s).twin
@[simp] theorem refreshFault_img (s : State) : (s.refreshFault).img = s.img := (refreshFault_shows s).img
@[simp] theorem refreshFault_ports (s : State) : (s.refreshFault).ports = s.ports := (refreshFault_shows s).ports
@[simp] theorem refreshFault_host (s : State) : (s.refreshFault).host = s.host := (refreshFault_shows s).host
@[simp] theorem refreshFault_eng (s : State) : (s.refreshFault).eng = s.eng := (refreshFault_shows s).eng
@[simp] theorem refreshFault_prg (s : State) : (s.refreshFault).prg = s.prg := (refreshFault_shows s).prg
@[simp] theorem refreshFault_recd (s : State) : (s.refreshFault).recd = s.recd := (refreshFault_shows s).recd
@[simp] theorem refreshFault_rest (s : State) : (s.refreshFault).rest = s.rest := (refreshFault_shows s).rest
@[simp] theorem refreshFault_brdg (s : State) : (s.refreshFault).brdg = s.brdg := (refreshFault_shows s).brdg
@[simp] theorem refreshFault_hkp (s : State) : (s.refreshFault).hkp = s.hkp := (refreshFault_shows s).hkp
@[simp] theorem refreshFault_msix_enable (s : State) : (s.refreshFault).msix.enable = s.msix.enable := (refreshFault_shows s).msix_enable
@[simp] theorem refreshFault_msix_fmask (s : State) : (s.refreshFault).msix.fmask = s.msix.fmask := (refreshFault_shows s).msix_fmask
@[simp] theorem refreshFault_msix_table (s : State) : (s.refreshFault).msix.table = s.msix.table := (refreshFault_shows s).msix_table
@[simp] theorem refreshFault_msix_members (s : State) : (s.refreshFault).msix.members = s.msix.members := (refreshFault_shows s).msix_members
@[simp] theorem refreshFault_pwr_rst (s : State) : (s.refreshFault).pwr.rst = s.pwr.rst := (refreshFault_shows s).pwr_rst
@[simp] theorem refreshFault_pwr_hold (s : State) : (s.refreshFault).pwr.hold = s.pwr.hold := (refreshFault_shows s).pwr_hold
@[simp] theorem refreshFault_pwr_low (s : State) : (s.refreshFault).pwr.low = s.pwr.low := (refreshFault_shows s).pwr_low
@[simp] theorem refreshFault_pwr_vio1 (s : State) : (s.refreshFault).pwr.vio1 = s.pwr.vio1 := (refreshFault_shows s).pwr_vio1
@[simp] theorem refreshFault_pwr_vio2 (s : State) : (s.refreshFault).pwr.vio2 = s.pwr.vio2 := (refreshFault_shows s).pwr_vio2
@[simp] theorem refreshFault_pwr_hot (s : State) : (s.refreshFault).pwr.hot = s.pwr.hot := (refreshFault_shows s).pwr_hot
@[simp] theorem refreshFault_pwr_paceWait (s : State) : (s.refreshFault).pwr.paceWait = s.pwr.paceWait := (refreshFault_shows s).pwr_paceWait
@[simp] theorem refreshFault_pwr_flash (s : State) : (s.refreshFault).pwr.flash = s.pwr.flash := (refreshFault_shows s).pwr_flash
@[simp] theorem refreshFault_cmd_slots (s : State) : (s.refreshFault).cmd.slots = s.cmd.slots := (refreshFault_shows s).cmd_slots
@[simp] theorem refreshFault_cmd_phase (s : State) : (s.refreshFault).cmd.phase = s.cmd.phase := (refreshFault_shows s).cmd_phase
@[simp] theorem refreshFault_cmd_seqCyc (s : State) : (s.refreshFault).cmd.seqCyc = s.cmd.seqCyc := (refreshFault_shows s).cmd_seqCyc
@[simp] theorem refreshFault_cmd_seqCnt (s : State) : (s.refreshFault).cmd.seqCnt = s.cmd.seqCnt := (refreshFault_shows s).cmd_seqCnt
@[simp] theorem refreshFault_cmd_outq (s : State) : (s.refreshFault).cmd.outq = s.cmd.outq := (refreshFault_shows s).cmd_outq
@[simp] theorem refreshFault_cmd_replay (s : State) : (s.refreshFault).cmd.replay = s.cmd.replay := (refreshFault_shows s).cmd_replay
@[simp] theorem refreshFault_cmd_keys (s : State) : (s.refreshFault).cmd.keys = s.cmd.keys := (refreshFault_shows s).cmd_keys
@[simp] theorem refreshFault_cmd_arm (s : State) : (s.refreshFault).cmd.arm = s.cmd.arm := (refreshFault_shows s).cmd_arm
@[simp] theorem refreshFault_cmd_notices (s : State) : (s.refreshFault).cmd.notices = s.cmd.notices := (refreshFault_shows s).cmd_notices
@[simp] theorem refreshFault_cmd_late (s : State) : (s.refreshFault).cmd.late = s.cmd.late := (refreshFault_shows s).cmd_late
@[simp] theorem refreshFault_cmd_shut (s : State) : (s.refreshFault).cmd.shut = s.cmd.shut := (refreshFault_shows s).cmd_shut
@[simp] theorem refreshFault_pwr (s : State) : (s.refreshFault).pwr = s.pwr := by unfold refreshFault; dsimp only; split <;> simp
@[simp] theorem refreshFault_cmd (s : State) : (s.refreshFault).cmd = s.cmd := by unfold refreshFault; dsimp only; split <;> simp
@[simp] theorem refreshFault_msix (s : State) : (s.refreshFault).msix = s.msix := by unfold refreshFault; dsimp only; split <;> simp

@[simp] theorem refreshCpl_pending (s : State) : (s.refreshCpl).pending = s.pending := (refreshCpl_shows s).pending
@[simp] theorem refreshCpl_now (s : State) : (s.refreshCpl).now = s.now := (refreshCpl_shows s).now
@[simp] theorem refreshCpl_power (s : State) : (s.refreshCpl).power = s.power := (refreshCpl_shows s).power
@[simp] theorem refreshCpl_cycRun (s : State) : (s.refreshCpl).cycRun = s.cycRun := (refreshCpl_shows s).cycRun
@[simp] theorem refreshCpl_cyc (s : State) : (s.refreshCpl).cyc = s.cyc := (refreshCpl_shows s).cyc
@[simp] theorem refreshCpl_bnd (s : State) : (s.refreshCpl).bnd = s.bnd := (refreshCpl_shows s).bnd
@[simp] theorem refreshCpl_opBase (s : State) : (s.refreshCpl).opBase = s.opBase := (refreshCpl_shows s).opBase
@[simp] theorem refreshCpl_opAt (s : State) : (s.refreshCpl).opAt = s.opAt := (refreshCpl_shows s).opAt
@[simp] theorem refreshCpl_opPpm (s : State) : (s.refreshCpl).opPpm = s.opPpm := (refreshCpl_shows s).opPpm
@[simp] theorem refreshCpl_events (s : State) : (s.refreshCpl).events = s.events := (refreshCpl_shows s).events
@[simp] theorem refreshCpl_onceGen (s : State) : (s.refreshCpl).onceGen = s.onceGen := (refreshCpl_shows s).onceGen
@[simp] theorem refreshCpl_onceSec (s : State) : (s.refreshCpl).onceSec = s.onceSec := (refreshCpl_shows s).onceSec
@[simp] theorem refreshCpl_onceSess (s : State) : (s.refreshCpl).onceSess = s.onceSess := (refreshCpl_shows s).onceSess
@[simp] theorem refreshCpl_free (s : State) : (s.refreshCpl).free = s.free := (refreshCpl_shows s).free
@[simp] theorem refreshCpl_lanes (s : State) : (s.refreshCpl).lanes = s.lanes := (refreshCpl_shows s).lanes
@[simp] theorem refreshCpl_inau (s : State) : (s.refreshCpl).inau = s.inau := (refreshCpl_shows s).inau
@[simp] theorem refreshCpl_sched (s : State) : (s.refreshCpl).sched = s.sched := (refreshCpl_shows s).sched
@[simp] theorem refreshCpl_sync (s : State) : (s.refreshCpl).sync = s.sync := (refreshCpl_shows s).sync
@[simp] theorem refreshCpl_time (s : State) : (s.refreshCpl).time = s.time := (refreshCpl_shows s).time
@[simp] theorem refreshCpl_fab (s : State) : (s.refreshCpl).fab = s.fab := (refreshCpl_shows s).fab
@[simp] theorem refreshCpl_glb (s : State) : (s.refreshCpl).glb = s.glb := (refreshCpl_shows s).glb
@[simp] theorem refreshCpl_twin (s : State) : (s.refreshCpl).twin = s.twin := (refreshCpl_shows s).twin
@[simp] theorem refreshCpl_img (s : State) : (s.refreshCpl).img = s.img := (refreshCpl_shows s).img
@[simp] theorem refreshCpl_ports (s : State) : (s.refreshCpl).ports = s.ports := (refreshCpl_shows s).ports
@[simp] theorem refreshCpl_host (s : State) : (s.refreshCpl).host = s.host := (refreshCpl_shows s).host
@[simp] theorem refreshCpl_eng (s : State) : (s.refreshCpl).eng = s.eng := (refreshCpl_shows s).eng
@[simp] theorem refreshCpl_prg (s : State) : (s.refreshCpl).prg = s.prg := (refreshCpl_shows s).prg
@[simp] theorem refreshCpl_recd (s : State) : (s.refreshCpl).recd = s.recd := (refreshCpl_shows s).recd
@[simp] theorem refreshCpl_rest (s : State) : (s.refreshCpl).rest = s.rest := (refreshCpl_shows s).rest
@[simp] theorem refreshCpl_brdg (s : State) : (s.refreshCpl).brdg = s.brdg := (refreshCpl_shows s).brdg
@[simp] theorem refreshCpl_hkp (s : State) : (s.refreshCpl).hkp = s.hkp := (refreshCpl_shows s).hkp
@[simp] theorem refreshCpl_msix_enable (s : State) : (s.refreshCpl).msix.enable = s.msix.enable := (refreshCpl_shows s).msix_enable
@[simp] theorem refreshCpl_msix_fmask (s : State) : (s.refreshCpl).msix.fmask = s.msix.fmask := (refreshCpl_shows s).msix_fmask
@[simp] theorem refreshCpl_msix_table (s : State) : (s.refreshCpl).msix.table = s.msix.table := (refreshCpl_shows s).msix_table
@[simp] theorem refreshCpl_msix_members (s : State) : (s.refreshCpl).msix.members = s.msix.members := (refreshCpl_shows s).msix_members
@[simp] theorem refreshCpl_pwr_rst (s : State) : (s.refreshCpl).pwr.rst = s.pwr.rst := (refreshCpl_shows s).pwr_rst
@[simp] theorem refreshCpl_pwr_hold (s : State) : (s.refreshCpl).pwr.hold = s.pwr.hold := (refreshCpl_shows s).pwr_hold
@[simp] theorem refreshCpl_pwr_low (s : State) : (s.refreshCpl).pwr.low = s.pwr.low := (refreshCpl_shows s).pwr_low
@[simp] theorem refreshCpl_pwr_vio1 (s : State) : (s.refreshCpl).pwr.vio1 = s.pwr.vio1 := (refreshCpl_shows s).pwr_vio1
@[simp] theorem refreshCpl_pwr_vio2 (s : State) : (s.refreshCpl).pwr.vio2 = s.pwr.vio2 := (refreshCpl_shows s).pwr_vio2
@[simp] theorem refreshCpl_pwr_hot (s : State) : (s.refreshCpl).pwr.hot = s.pwr.hot := (refreshCpl_shows s).pwr_hot
@[simp] theorem refreshCpl_pwr_paceWait (s : State) : (s.refreshCpl).pwr.paceWait = s.pwr.paceWait := (refreshCpl_shows s).pwr_paceWait
@[simp] theorem refreshCpl_pwr_flash (s : State) : (s.refreshCpl).pwr.flash = s.pwr.flash := (refreshCpl_shows s).pwr_flash
@[simp] theorem refreshCpl_cmd_slots (s : State) : (s.refreshCpl).cmd.slots = s.cmd.slots := (refreshCpl_shows s).cmd_slots
@[simp] theorem refreshCpl_cmd_phase (s : State) : (s.refreshCpl).cmd.phase = s.cmd.phase := (refreshCpl_shows s).cmd_phase
@[simp] theorem refreshCpl_cmd_seqCyc (s : State) : (s.refreshCpl).cmd.seqCyc = s.cmd.seqCyc := (refreshCpl_shows s).cmd_seqCyc
@[simp] theorem refreshCpl_cmd_seqCnt (s : State) : (s.refreshCpl).cmd.seqCnt = s.cmd.seqCnt := (refreshCpl_shows s).cmd_seqCnt
@[simp] theorem refreshCpl_cmd_outq (s : State) : (s.refreshCpl).cmd.outq = s.cmd.outq := (refreshCpl_shows s).cmd_outq
@[simp] theorem refreshCpl_cmd_replay (s : State) : (s.refreshCpl).cmd.replay = s.cmd.replay := (refreshCpl_shows s).cmd_replay
@[simp] theorem refreshCpl_cmd_keys (s : State) : (s.refreshCpl).cmd.keys = s.cmd.keys := (refreshCpl_shows s).cmd_keys
@[simp] theorem refreshCpl_cmd_arm (s : State) : (s.refreshCpl).cmd.arm = s.cmd.arm := (refreshCpl_shows s).cmd_arm
@[simp] theorem refreshCpl_cmd_notices (s : State) : (s.refreshCpl).cmd.notices = s.cmd.notices := (refreshCpl_shows s).cmd_notices
@[simp] theorem refreshCpl_cmd_late (s : State) : (s.refreshCpl).cmd.late = s.cmd.late := (refreshCpl_shows s).cmd_late
@[simp] theorem refreshCpl_cmd_shut (s : State) : (s.refreshCpl).cmd.shut = s.cmd.shut := (refreshCpl_shows s).cmd_shut
@[simp] theorem refreshCpl_pwr (s : State) : (s.refreshCpl).pwr = s.pwr := by unfold refreshCpl; split <;> simp

@[simp] theorem refreshIntn_pending (s : State) : (s.refreshIntn).pending = s.pending := (refreshIntn_shows s).pending
@[simp] theorem refreshIntn_now (s : State) : (s.refreshIntn).now = s.now := (refreshIntn_shows s).now
@[simp] theorem refreshIntn_power (s : State) : (s.refreshIntn).power = s.power := (refreshIntn_shows s).power
@[simp] theorem refreshIntn_cycRun (s : State) : (s.refreshIntn).cycRun = s.cycRun := (refreshIntn_shows s).cycRun
@[simp] theorem refreshIntn_cyc (s : State) : (s.refreshIntn).cyc = s.cyc := (refreshIntn_shows s).cyc
@[simp] theorem refreshIntn_bnd (s : State) : (s.refreshIntn).bnd = s.bnd := (refreshIntn_shows s).bnd
@[simp] theorem refreshIntn_opBase (s : State) : (s.refreshIntn).opBase = s.opBase := (refreshIntn_shows s).opBase
@[simp] theorem refreshIntn_opAt (s : State) : (s.refreshIntn).opAt = s.opAt := (refreshIntn_shows s).opAt
@[simp] theorem refreshIntn_opPpm (s : State) : (s.refreshIntn).opPpm = s.opPpm := (refreshIntn_shows s).opPpm
@[simp] theorem refreshIntn_events (s : State) : (s.refreshIntn).events = s.events := (refreshIntn_shows s).events
@[simp] theorem refreshIntn_onceGen (s : State) : (s.refreshIntn).onceGen = s.onceGen := (refreshIntn_shows s).onceGen
@[simp] theorem refreshIntn_onceSec (s : State) : (s.refreshIntn).onceSec = s.onceSec := (refreshIntn_shows s).onceSec
@[simp] theorem refreshIntn_onceSess (s : State) : (s.refreshIntn).onceSess = s.onceSess := (refreshIntn_shows s).onceSess
@[simp] theorem refreshIntn_free (s : State) : (s.refreshIntn).free = s.free := (refreshIntn_shows s).free
@[simp] theorem refreshIntn_lanes (s : State) : (s.refreshIntn).lanes = s.lanes := (refreshIntn_shows s).lanes
@[simp] theorem refreshIntn_inau (s : State) : (s.refreshIntn).inau = s.inau := (refreshIntn_shows s).inau
@[simp] theorem refreshIntn_sched (s : State) : (s.refreshIntn).sched = s.sched := (refreshIntn_shows s).sched
@[simp] theorem refreshIntn_sync (s : State) : (s.refreshIntn).sync = s.sync := (refreshIntn_shows s).sync
@[simp] theorem refreshIntn_time (s : State) : (s.refreshIntn).time = s.time := (refreshIntn_shows s).time
@[simp] theorem refreshIntn_fab (s : State) : (s.refreshIntn).fab = s.fab := (refreshIntn_shows s).fab
@[simp] theorem refreshIntn_glb (s : State) : (s.refreshIntn).glb = s.glb := (refreshIntn_shows s).glb
@[simp] theorem refreshIntn_twin (s : State) : (s.refreshIntn).twin = s.twin := (refreshIntn_shows s).twin
@[simp] theorem refreshIntn_img (s : State) : (s.refreshIntn).img = s.img := (refreshIntn_shows s).img
@[simp] theorem refreshIntn_ports (s : State) : (s.refreshIntn).ports = s.ports := (refreshIntn_shows s).ports
@[simp] theorem refreshIntn_host (s : State) : (s.refreshIntn).host = s.host := (refreshIntn_shows s).host
@[simp] theorem refreshIntn_eng (s : State) : (s.refreshIntn).eng = s.eng := (refreshIntn_shows s).eng
@[simp] theorem refreshIntn_prg (s : State) : (s.refreshIntn).prg = s.prg := (refreshIntn_shows s).prg
@[simp] theorem refreshIntn_recd (s : State) : (s.refreshIntn).recd = s.recd := (refreshIntn_shows s).recd
@[simp] theorem refreshIntn_rest (s : State) : (s.refreshIntn).rest = s.rest := (refreshIntn_shows s).rest
@[simp] theorem refreshIntn_brdg (s : State) : (s.refreshIntn).brdg = s.brdg := (refreshIntn_shows s).brdg
@[simp] theorem refreshIntn_hkp (s : State) : (s.refreshIntn).hkp = s.hkp := (refreshIntn_shows s).hkp
@[simp] theorem refreshIntn_msix_enable (s : State) : (s.refreshIntn).msix.enable = s.msix.enable := (refreshIntn_shows s).msix_enable
@[simp] theorem refreshIntn_msix_fmask (s : State) : (s.refreshIntn).msix.fmask = s.msix.fmask := (refreshIntn_shows s).msix_fmask
@[simp] theorem refreshIntn_msix_table (s : State) : (s.refreshIntn).msix.table = s.msix.table := (refreshIntn_shows s).msix_table
@[simp] theorem refreshIntn_msix_members (s : State) : (s.refreshIntn).msix.members = s.msix.members := (refreshIntn_shows s).msix_members
@[simp] theorem refreshIntn_pwr_rst (s : State) : (s.refreshIntn).pwr.rst = s.pwr.rst := (refreshIntn_shows s).pwr_rst
@[simp] theorem refreshIntn_pwr_hold (s : State) : (s.refreshIntn).pwr.hold = s.pwr.hold := (refreshIntn_shows s).pwr_hold
@[simp] theorem refreshIntn_pwr_low (s : State) : (s.refreshIntn).pwr.low = s.pwr.low := (refreshIntn_shows s).pwr_low
@[simp] theorem refreshIntn_pwr_vio1 (s : State) : (s.refreshIntn).pwr.vio1 = s.pwr.vio1 := (refreshIntn_shows s).pwr_vio1
@[simp] theorem refreshIntn_pwr_vio2 (s : State) : (s.refreshIntn).pwr.vio2 = s.pwr.vio2 := (refreshIntn_shows s).pwr_vio2
@[simp] theorem refreshIntn_pwr_hot (s : State) : (s.refreshIntn).pwr.hot = s.pwr.hot := (refreshIntn_shows s).pwr_hot
@[simp] theorem refreshIntn_pwr_paceWait (s : State) : (s.refreshIntn).pwr.paceWait = s.pwr.paceWait := (refreshIntn_shows s).pwr_paceWait
@[simp] theorem refreshIntn_pwr_flash (s : State) : (s.refreshIntn).pwr.flash = s.pwr.flash := (refreshIntn_shows s).pwr_flash
@[simp] theorem refreshIntn_cmd_slots (s : State) : (s.refreshIntn).cmd.slots = s.cmd.slots := (refreshIntn_shows s).cmd_slots
@[simp] theorem refreshIntn_cmd_phase (s : State) : (s.refreshIntn).cmd.phase = s.cmd.phase := (refreshIntn_shows s).cmd_phase
@[simp] theorem refreshIntn_cmd_seqCyc (s : State) : (s.refreshIntn).cmd.seqCyc = s.cmd.seqCyc := (refreshIntn_shows s).cmd_seqCyc
@[simp] theorem refreshIntn_cmd_seqCnt (s : State) : (s.refreshIntn).cmd.seqCnt = s.cmd.seqCnt := (refreshIntn_shows s).cmd_seqCnt
@[simp] theorem refreshIntn_cmd_outq (s : State) : (s.refreshIntn).cmd.outq = s.cmd.outq := (refreshIntn_shows s).cmd_outq
@[simp] theorem refreshIntn_cmd_replay (s : State) : (s.refreshIntn).cmd.replay = s.cmd.replay := (refreshIntn_shows s).cmd_replay
@[simp] theorem refreshIntn_cmd_keys (s : State) : (s.refreshIntn).cmd.keys = s.cmd.keys := (refreshIntn_shows s).cmd_keys
@[simp] theorem refreshIntn_cmd_arm (s : State) : (s.refreshIntn).cmd.arm = s.cmd.arm := (refreshIntn_shows s).cmd_arm
@[simp] theorem refreshIntn_cmd_notices (s : State) : (s.refreshIntn).cmd.notices = s.cmd.notices := (refreshIntn_shows s).cmd_notices
@[simp] theorem refreshIntn_cmd_late (s : State) : (s.refreshIntn).cmd.late = s.cmd.late := (refreshIntn_shows s).cmd_late
@[simp] theorem refreshIntn_cmd_shut (s : State) : (s.refreshIntn).cmd.shut = s.cmd.shut := (refreshIntn_shows s).cmd_shut
@[simp] theorem refreshIntn_cmd (s : State) : (s.refreshIntn).cmd = s.cmd := by unfold refreshIntn; dsimp only; split_ifs <;> simp [stackMsg]
@[simp] theorem refreshIntn_msix (s : State) : (s.refreshIntn).msix = s.msix := by unfold refreshIntn; dsimp only; split_ifs <;> simp [stackMsg]
@[simp] theorem refreshIntn_regs (s : State) : (s.refreshIntn).regs = s.regs := by unfold refreshIntn; dsimp only; split_ifs <;> simp [stackMsg]

@[simp] theorem refreshRolePin_pending (s : State) : (s.refreshRolePin).pending = s.pending := (refreshRolePin_shows s).pending
@[simp] theorem refreshRolePin_now (s : State) : (s.refreshRolePin).now = s.now := (refreshRolePin_shows s).now
@[simp] theorem refreshRolePin_power (s : State) : (s.refreshRolePin).power = s.power := (refreshRolePin_shows s).power
@[simp] theorem refreshRolePin_cycRun (s : State) : (s.refreshRolePin).cycRun = s.cycRun := (refreshRolePin_shows s).cycRun
@[simp] theorem refreshRolePin_cyc (s : State) : (s.refreshRolePin).cyc = s.cyc := (refreshRolePin_shows s).cyc
@[simp] theorem refreshRolePin_bnd (s : State) : (s.refreshRolePin).bnd = s.bnd := (refreshRolePin_shows s).bnd
@[simp] theorem refreshRolePin_opBase (s : State) : (s.refreshRolePin).opBase = s.opBase := (refreshRolePin_shows s).opBase
@[simp] theorem refreshRolePin_opAt (s : State) : (s.refreshRolePin).opAt = s.opAt := (refreshRolePin_shows s).opAt
@[simp] theorem refreshRolePin_opPpm (s : State) : (s.refreshRolePin).opPpm = s.opPpm := (refreshRolePin_shows s).opPpm
@[simp] theorem refreshRolePin_events (s : State) : (s.refreshRolePin).events = s.events := (refreshRolePin_shows s).events
@[simp] theorem refreshRolePin_onceGen (s : State) : (s.refreshRolePin).onceGen = s.onceGen := (refreshRolePin_shows s).onceGen
@[simp] theorem refreshRolePin_onceSec (s : State) : (s.refreshRolePin).onceSec = s.onceSec := (refreshRolePin_shows s).onceSec
@[simp] theorem refreshRolePin_onceSess (s : State) : (s.refreshRolePin).onceSess = s.onceSess := (refreshRolePin_shows s).onceSess
@[simp] theorem refreshRolePin_free (s : State) : (s.refreshRolePin).free = s.free := (refreshRolePin_shows s).free
@[simp] theorem refreshRolePin_lanes (s : State) : (s.refreshRolePin).lanes = s.lanes := (refreshRolePin_shows s).lanes
@[simp] theorem refreshRolePin_inau (s : State) : (s.refreshRolePin).inau = s.inau := (refreshRolePin_shows s).inau
@[simp] theorem refreshRolePin_sched (s : State) : (s.refreshRolePin).sched = s.sched := (refreshRolePin_shows s).sched
@[simp] theorem refreshRolePin_sync (s : State) : (s.refreshRolePin).sync = s.sync := (refreshRolePin_shows s).sync
@[simp] theorem refreshRolePin_time (s : State) : (s.refreshRolePin).time = s.time := (refreshRolePin_shows s).time
@[simp] theorem refreshRolePin_fab (s : State) : (s.refreshRolePin).fab = s.fab := (refreshRolePin_shows s).fab
@[simp] theorem refreshRolePin_glb (s : State) : (s.refreshRolePin).glb = s.glb := (refreshRolePin_shows s).glb
@[simp] theorem refreshRolePin_twin (s : State) : (s.refreshRolePin).twin = s.twin := (refreshRolePin_shows s).twin
@[simp] theorem refreshRolePin_img (s : State) : (s.refreshRolePin).img = s.img := (refreshRolePin_shows s).img
@[simp] theorem refreshRolePin_ports (s : State) : (s.refreshRolePin).ports = s.ports := (refreshRolePin_shows s).ports
@[simp] theorem refreshRolePin_host (s : State) : (s.refreshRolePin).host = s.host := (refreshRolePin_shows s).host
@[simp] theorem refreshRolePin_eng (s : State) : (s.refreshRolePin).eng = s.eng := (refreshRolePin_shows s).eng
@[simp] theorem refreshRolePin_prg (s : State) : (s.refreshRolePin).prg = s.prg := (refreshRolePin_shows s).prg
@[simp] theorem refreshRolePin_recd (s : State) : (s.refreshRolePin).recd = s.recd := (refreshRolePin_shows s).recd
@[simp] theorem refreshRolePin_rest (s : State) : (s.refreshRolePin).rest = s.rest := (refreshRolePin_shows s).rest
@[simp] theorem refreshRolePin_brdg (s : State) : (s.refreshRolePin).brdg = s.brdg := (refreshRolePin_shows s).brdg
@[simp] theorem refreshRolePin_hkp (s : State) : (s.refreshRolePin).hkp = s.hkp := (refreshRolePin_shows s).hkp
@[simp] theorem refreshRolePin_msix_enable (s : State) : (s.refreshRolePin).msix.enable = s.msix.enable := (refreshRolePin_shows s).msix_enable
@[simp] theorem refreshRolePin_msix_fmask (s : State) : (s.refreshRolePin).msix.fmask = s.msix.fmask := (refreshRolePin_shows s).msix_fmask
@[simp] theorem refreshRolePin_msix_table (s : State) : (s.refreshRolePin).msix.table = s.msix.table := (refreshRolePin_shows s).msix_table
@[simp] theorem refreshRolePin_msix_members (s : State) : (s.refreshRolePin).msix.members = s.msix.members := (refreshRolePin_shows s).msix_members
@[simp] theorem refreshRolePin_pwr_rst (s : State) : (s.refreshRolePin).pwr.rst = s.pwr.rst := (refreshRolePin_shows s).pwr_rst
@[simp] theorem refreshRolePin_pwr_hold (s : State) : (s.refreshRolePin).pwr.hold = s.pwr.hold := (refreshRolePin_shows s).pwr_hold
@[simp] theorem refreshRolePin_pwr_low (s : State) : (s.refreshRolePin).pwr.low = s.pwr.low := (refreshRolePin_shows s).pwr_low
@[simp] theorem refreshRolePin_pwr_vio1 (s : State) : (s.refreshRolePin).pwr.vio1 = s.pwr.vio1 := (refreshRolePin_shows s).pwr_vio1
@[simp] theorem refreshRolePin_pwr_vio2 (s : State) : (s.refreshRolePin).pwr.vio2 = s.pwr.vio2 := (refreshRolePin_shows s).pwr_vio2
@[simp] theorem refreshRolePin_pwr_hot (s : State) : (s.refreshRolePin).pwr.hot = s.pwr.hot := (refreshRolePin_shows s).pwr_hot
@[simp] theorem refreshRolePin_pwr_paceWait (s : State) : (s.refreshRolePin).pwr.paceWait = s.pwr.paceWait := (refreshRolePin_shows s).pwr_paceWait
@[simp] theorem refreshRolePin_pwr_flash (s : State) : (s.refreshRolePin).pwr.flash = s.pwr.flash := (refreshRolePin_shows s).pwr_flash
@[simp] theorem refreshRolePin_cmd_slots (s : State) : (s.refreshRolePin).cmd.slots = s.cmd.slots := (refreshRolePin_shows s).cmd_slots
@[simp] theorem refreshRolePin_cmd_phase (s : State) : (s.refreshRolePin).cmd.phase = s.cmd.phase := (refreshRolePin_shows s).cmd_phase
@[simp] theorem refreshRolePin_cmd_seqCyc (s : State) : (s.refreshRolePin).cmd.seqCyc = s.cmd.seqCyc := (refreshRolePin_shows s).cmd_seqCyc
@[simp] theorem refreshRolePin_cmd_seqCnt (s : State) : (s.refreshRolePin).cmd.seqCnt = s.cmd.seqCnt := (refreshRolePin_shows s).cmd_seqCnt
@[simp] theorem refreshRolePin_cmd_outq (s : State) : (s.refreshRolePin).cmd.outq = s.cmd.outq := (refreshRolePin_shows s).cmd_outq
@[simp] theorem refreshRolePin_cmd_replay (s : State) : (s.refreshRolePin).cmd.replay = s.cmd.replay := (refreshRolePin_shows s).cmd_replay
@[simp] theorem refreshRolePin_cmd_keys (s : State) : (s.refreshRolePin).cmd.keys = s.cmd.keys := (refreshRolePin_shows s).cmd_keys
@[simp] theorem refreshRolePin_cmd_arm (s : State) : (s.refreshRolePin).cmd.arm = s.cmd.arm := (refreshRolePin_shows s).cmd_arm
@[simp] theorem refreshRolePin_cmd_notices (s : State) : (s.refreshRolePin).cmd.notices = s.cmd.notices := (refreshRolePin_shows s).cmd_notices
@[simp] theorem refreshRolePin_cmd_late (s : State) : (s.refreshRolePin).cmd.late = s.cmd.late := (refreshRolePin_shows s).cmd_late
@[simp] theorem refreshRolePin_cmd_shut (s : State) : (s.refreshRolePin).cmd.shut = s.cmd.shut := (refreshRolePin_shows s).cmd_shut
@[simp] theorem refreshRolePin_cmd (s : State) : (s.refreshRolePin).cmd = s.cmd := by unfold refreshRolePin; dsimp only; split <;> simp
@[simp] theorem refreshRolePin_msix (s : State) : (s.refreshRolePin).msix = s.msix := by unfold refreshRolePin; dsimp only; split <;> simp
@[simp] theorem refreshRolePin_regs (s : State) : (s.refreshRolePin).regs = s.regs := by unfold refreshRolePin; dsimp only; split <;> simp

@[simp] theorem settle_pending (s : State) : (s.settle).pending = s.pending := (settle_shows s).pending
@[simp] theorem settle_now (s : State) : (s.settle).now = s.now := (settle_shows s).now
@[simp] theorem settle_power (s : State) : (s.settle).power = s.power := (settle_shows s).power
@[simp] theorem settle_cycRun (s : State) : (s.settle).cycRun = s.cycRun := (settle_shows s).cycRun
@[simp] theorem settle_cyc (s : State) : (s.settle).cyc = s.cyc := (settle_shows s).cyc
@[simp] theorem settle_bnd (s : State) : (s.settle).bnd = s.bnd := (settle_shows s).bnd
@[simp] theorem settle_opBase (s : State) : (s.settle).opBase = s.opBase := (settle_shows s).opBase
@[simp] theorem settle_opAt (s : State) : (s.settle).opAt = s.opAt := (settle_shows s).opAt
@[simp] theorem settle_opPpm (s : State) : (s.settle).opPpm = s.opPpm := (settle_shows s).opPpm
@[simp] theorem settle_events (s : State) : (s.settle).events = s.events := (settle_shows s).events
@[simp] theorem settle_onceGen (s : State) : (s.settle).onceGen = s.onceGen := (settle_shows s).onceGen
@[simp] theorem settle_onceSec (s : State) : (s.settle).onceSec = s.onceSec := (settle_shows s).onceSec
@[simp] theorem settle_onceSess (s : State) : (s.settle).onceSess = s.onceSess := (settle_shows s).onceSess
@[simp] theorem settle_free (s : State) : (s.settle).free = s.free := (settle_shows s).free
@[simp] theorem settle_lanes (s : State) : (s.settle).lanes = s.lanes := (settle_shows s).lanes
@[simp] theorem settle_inau (s : State) : (s.settle).inau = s.inau := (settle_shows s).inau
@[simp] theorem settle_sched (s : State) : (s.settle).sched = s.sched := (settle_shows s).sched
@[simp] theorem settle_sync (s : State) : (s.settle).sync = s.sync := (settle_shows s).sync
@[simp] theorem settle_time (s : State) : (s.settle).time = s.time := (settle_shows s).time
@[simp] theorem settle_fab (s : State) : (s.settle).fab = s.fab := (settle_shows s).fab
@[simp] theorem settle_glb (s : State) : (s.settle).glb = s.glb := (settle_shows s).glb
@[simp] theorem settle_twin (s : State) : (s.settle).twin = s.twin := (settle_shows s).twin
@[simp] theorem settle_img (s : State) : (s.settle).img = s.img := (settle_shows s).img
@[simp] theorem settle_ports (s : State) : (s.settle).ports = s.ports := (settle_shows s).ports
@[simp] theorem settle_host (s : State) : (s.settle).host = s.host := (settle_shows s).host
@[simp] theorem settle_eng (s : State) : (s.settle).eng = s.eng := (settle_shows s).eng
@[simp] theorem settle_prg (s : State) : (s.settle).prg = s.prg := (settle_shows s).prg
@[simp] theorem settle_recd (s : State) : (s.settle).recd = s.recd := (settle_shows s).recd
@[simp] theorem settle_rest (s : State) : (s.settle).rest = s.rest := (settle_shows s).rest
@[simp] theorem settle_brdg (s : State) : (s.settle).brdg = s.brdg := (settle_shows s).brdg
@[simp] theorem settle_hkp (s : State) : (s.settle).hkp = s.hkp := (settle_shows s).hkp
@[simp] theorem settle_msix_enable (s : State) : (s.settle).msix.enable = s.msix.enable := (settle_shows s).msix_enable
@[simp] theorem settle_msix_fmask (s : State) : (s.settle).msix.fmask = s.msix.fmask := (settle_shows s).msix_fmask
@[simp] theorem settle_msix_table (s : State) : (s.settle).msix.table = s.msix.table := (settle_shows s).msix_table
@[simp] theorem settle_msix_members (s : State) : (s.settle).msix.members = s.msix.members := (settle_shows s).msix_members
@[simp] theorem settle_pwr_rst (s : State) : (s.settle).pwr.rst = s.pwr.rst := (settle_shows s).pwr_rst
@[simp] theorem settle_pwr_hold (s : State) : (s.settle).pwr.hold = s.pwr.hold := (settle_shows s).pwr_hold
@[simp] theorem settle_pwr_low (s : State) : (s.settle).pwr.low = s.pwr.low := (settle_shows s).pwr_low
@[simp] theorem settle_pwr_vio1 (s : State) : (s.settle).pwr.vio1 = s.pwr.vio1 := (settle_shows s).pwr_vio1
@[simp] theorem settle_pwr_vio2 (s : State) : (s.settle).pwr.vio2 = s.pwr.vio2 := (settle_shows s).pwr_vio2
@[simp] theorem settle_pwr_hot (s : State) : (s.settle).pwr.hot = s.pwr.hot := (settle_shows s).pwr_hot
@[simp] theorem settle_pwr_paceWait (s : State) : (s.settle).pwr.paceWait = s.pwr.paceWait := (settle_shows s).pwr_paceWait
@[simp] theorem settle_pwr_flash (s : State) : (s.settle).pwr.flash = s.pwr.flash := (settle_shows s).pwr_flash
@[simp] theorem settle_cmd_slots (s : State) : (s.settle).cmd.slots = s.cmd.slots := (settle_shows s).cmd_slots
@[simp] theorem settle_cmd_phase (s : State) : (s.settle).cmd.phase = s.cmd.phase := (settle_shows s).cmd_phase
@[simp] theorem settle_cmd_seqCyc (s : State) : (s.settle).cmd.seqCyc = s.cmd.seqCyc := (settle_shows s).cmd_seqCyc
@[simp] theorem settle_cmd_seqCnt (s : State) : (s.settle).cmd.seqCnt = s.cmd.seqCnt := (settle_shows s).cmd_seqCnt
@[simp] theorem settle_cmd_outq (s : State) : (s.settle).cmd.outq = s.cmd.outq := (settle_shows s).cmd_outq
@[simp] theorem settle_cmd_replay (s : State) : (s.settle).cmd.replay = s.cmd.replay := (settle_shows s).cmd_replay
@[simp] theorem settle_cmd_keys (s : State) : (s.settle).cmd.keys = s.cmd.keys := (settle_shows s).cmd_keys
@[simp] theorem settle_cmd_arm (s : State) : (s.settle).cmd.arm = s.cmd.arm := (settle_shows s).cmd_arm
@[simp] theorem settle_cmd_notices (s : State) : (s.settle).cmd.notices = s.cmd.notices := (settle_shows s).cmd_notices
@[simp] theorem settle_cmd_late (s : State) : (s.settle).cmd.late = s.cmd.late := (settle_shows s).cmd_late
@[simp] theorem settle_cmd_shut (s : State) : (s.settle).cmd.shut = s.cmd.shut := (settle_shows s).cmd_shut

@[simp] theorem fault_pending (s : State) (f : Fld) : (s.fault f).pending = s.pending := (fault_shows s f).pending
@[simp] theorem fault_now (s : State) (f : Fld) : (s.fault f).now = s.now := (fault_shows s f).now
@[simp] theorem fault_power (s : State) (f : Fld) : (s.fault f).power = s.power := (fault_shows s f).power
@[simp] theorem fault_cycRun (s : State) (f : Fld) : (s.fault f).cycRun = s.cycRun := (fault_shows s f).cycRun
@[simp] theorem fault_cyc (s : State) (f : Fld) : (s.fault f).cyc = s.cyc := (fault_shows s f).cyc
@[simp] theorem fault_bnd (s : State) (f : Fld) : (s.fault f).bnd = s.bnd := (fault_shows s f).bnd
@[simp] theorem fault_opBase (s : State) (f : Fld) : (s.fault f).opBase = s.opBase := (fault_shows s f).opBase
@[simp] theorem fault_opAt (s : State) (f : Fld) : (s.fault f).opAt = s.opAt := (fault_shows s f).opAt
@[simp] theorem fault_opPpm (s : State) (f : Fld) : (s.fault f).opPpm = s.opPpm := (fault_shows s f).opPpm
@[simp] theorem fault_events (s : State) (f : Fld) : (s.fault f).events = s.events := (fault_shows s f).events
@[simp] theorem fault_onceGen (s : State) (f : Fld) : (s.fault f).onceGen = s.onceGen := (fault_shows s f).onceGen
@[simp] theorem fault_onceSec (s : State) (f : Fld) : (s.fault f).onceSec = s.onceSec := (fault_shows s f).onceSec
@[simp] theorem fault_onceSess (s : State) (f : Fld) : (s.fault f).onceSess = s.onceSess := (fault_shows s f).onceSess
@[simp] theorem fault_free (s : State) (f : Fld) : (s.fault f).free = s.free := (fault_shows s f).free
@[simp] theorem fault_lanes (s : State) (f : Fld) : (s.fault f).lanes = s.lanes := (fault_shows s f).lanes
@[simp] theorem fault_inau (s : State) (f : Fld) : (s.fault f).inau = s.inau := (fault_shows s f).inau
@[simp] theorem fault_sched (s : State) (f : Fld) : (s.fault f).sched = s.sched := (fault_shows s f).sched
@[simp] theorem fault_sync (s : State) (f : Fld) : (s.fault f).sync = s.sync := (fault_shows s f).sync
@[simp] theorem fault_time (s : State) (f : Fld) : (s.fault f).time = s.time := (fault_shows s f).time
@[simp] theorem fault_fab (s : State) (f : Fld) : (s.fault f).fab = s.fab := (fault_shows s f).fab
@[simp] theorem fault_glb (s : State) (f : Fld) : (s.fault f).glb = s.glb := (fault_shows s f).glb
@[simp] theorem fault_twin (s : State) (f : Fld) : (s.fault f).twin = s.twin := (fault_shows s f).twin
@[simp] theorem fault_img (s : State) (f : Fld) : (s.fault f).img = s.img := (fault_shows s f).img
@[simp] theorem fault_ports (s : State) (f : Fld) : (s.fault f).ports = s.ports := (fault_shows s f).ports
@[simp] theorem fault_host (s : State) (f : Fld) : (s.fault f).host = s.host := (fault_shows s f).host
@[simp] theorem fault_eng (s : State) (f : Fld) : (s.fault f).eng = s.eng := (fault_shows s f).eng
@[simp] theorem fault_prg (s : State) (f : Fld) : (s.fault f).prg = s.prg := (fault_shows s f).prg
@[simp] theorem fault_recd (s : State) (f : Fld) : (s.fault f).recd = s.recd := (fault_shows s f).recd
@[simp] theorem fault_rest (s : State) (f : Fld) : (s.fault f).rest = s.rest := (fault_shows s f).rest
@[simp] theorem fault_brdg (s : State) (f : Fld) : (s.fault f).brdg = s.brdg := (fault_shows s f).brdg
@[simp] theorem fault_hkp (s : State) (f : Fld) : (s.fault f).hkp = s.hkp := (fault_shows s f).hkp
@[simp] theorem fault_msix_enable (s : State) (f : Fld) : (s.fault f).msix.enable = s.msix.enable := (fault_shows s f).msix_enable
@[simp] theorem fault_msix_fmask (s : State) (f : Fld) : (s.fault f).msix.fmask = s.msix.fmask := (fault_shows s f).msix_fmask
@[simp] theorem fault_msix_table (s : State) (f : Fld) : (s.fault f).msix.table = s.msix.table := (fault_shows s f).msix_table
@[simp] theorem fault_msix_members (s : State) (f : Fld) : (s.fault f).msix.members = s.msix.members := (fault_shows s f).msix_members
@[simp] theorem fault_pwr_rst (s : State) (f : Fld) : (s.fault f).pwr.rst = s.pwr.rst := (fault_shows s f).pwr_rst
@[simp] theorem fault_pwr_hold (s : State) (f : Fld) : (s.fault f).pwr.hold = s.pwr.hold := (fault_shows s f).pwr_hold
@[simp] theorem fault_pwr_low (s : State) (f : Fld) : (s.fault f).pwr.low = s.pwr.low := (fault_shows s f).pwr_low
@[simp] theorem fault_pwr_vio1 (s : State) (f : Fld) : (s.fault f).pwr.vio1 = s.pwr.vio1 := (fault_shows s f).pwr_vio1
@[simp] theorem fault_pwr_vio2 (s : State) (f : Fld) : (s.fault f).pwr.vio2 = s.pwr.vio2 := (fault_shows s f).pwr_vio2
@[simp] theorem fault_pwr_hot (s : State) (f : Fld) : (s.fault f).pwr.hot = s.pwr.hot := (fault_shows s f).pwr_hot
@[simp] theorem fault_pwr_paceWait (s : State) (f : Fld) : (s.fault f).pwr.paceWait = s.pwr.paceWait := (fault_shows s f).pwr_paceWait
@[simp] theorem fault_pwr_flash (s : State) (f : Fld) : (s.fault f).pwr.flash = s.pwr.flash := (fault_shows s f).pwr_flash
@[simp] theorem fault_cmd_slots (s : State) (f : Fld) : (s.fault f).cmd.slots = s.cmd.slots := (fault_shows s f).cmd_slots
@[simp] theorem fault_cmd_phase (s : State) (f : Fld) : (s.fault f).cmd.phase = s.cmd.phase := (fault_shows s f).cmd_phase
@[simp] theorem fault_cmd_seqCyc (s : State) (f : Fld) : (s.fault f).cmd.seqCyc = s.cmd.seqCyc := (fault_shows s f).cmd_seqCyc
@[simp] theorem fault_cmd_seqCnt (s : State) (f : Fld) : (s.fault f).cmd.seqCnt = s.cmd.seqCnt := (fault_shows s f).cmd_seqCnt
@[simp] theorem fault_cmd_outq (s : State) (f : Fld) : (s.fault f).cmd.outq = s.cmd.outq := (fault_shows s f).cmd_outq
@[simp] theorem fault_cmd_replay (s : State) (f : Fld) : (s.fault f).cmd.replay = s.cmd.replay := (fault_shows s f).cmd_replay
@[simp] theorem fault_cmd_keys (s : State) (f : Fld) : (s.fault f).cmd.keys = s.cmd.keys := (fault_shows s f).cmd_keys
@[simp] theorem fault_cmd_arm (s : State) (f : Fld) : (s.fault f).cmd.arm = s.cmd.arm := (fault_shows s f).cmd_arm
@[simp] theorem fault_cmd_notices (s : State) (f : Fld) : (s.fault f).cmd.notices = s.cmd.notices := (fault_shows s f).cmd_notices
@[simp] theorem fault_cmd_late (s : State) (f : Fld) : (s.fault f).cmd.late = s.cmd.late := (fault_shows s f).cmd_late
@[simp] theorem fault_cmd_shut (s : State) (f : Fld) : (s.fault f).cmd.shut = s.cmd.shut := (fault_shows s f).cmd_shut
@[simp] theorem fault_pwr (s : State) (f : Fld) : (s.fault f).pwr = s.pwr := by unfold fault; simp
@[simp] theorem fault_cmd (s : State) (f : Fld) : (s.fault f).cmd = s.cmd := by unfold fault; simp

@[simp] theorem setOpt_pending (s : State) (f : Option Fld) : (s.setOpt f).pending = s.pending := (setOpt_shows s f).pending
@[simp] theorem setOpt_now (s : State) (f : Option Fld) : (s.setOpt f).now = s.now := (setOpt_shows s f).now
@[simp] theorem setOpt_power (s : State) (f : Option Fld) : (s.setOpt f).power = s.power := (setOpt_shows s f).power
@[simp] theorem setOpt_cycRun (s : State) (f : Option Fld) : (s.setOpt f).cycRun = s.cycRun := (setOpt_shows s f).cycRun
@[simp] theorem setOpt_cyc (s : State) (f : Option Fld) : (s.setOpt f).cyc = s.cyc := (setOpt_shows s f).cyc
@[simp] theorem setOpt_bnd (s : State) (f : Option Fld) : (s.setOpt f).bnd = s.bnd := (setOpt_shows s f).bnd
@[simp] theorem setOpt_opBase (s : State) (f : Option Fld) : (s.setOpt f).opBase = s.opBase := (setOpt_shows s f).opBase
@[simp] theorem setOpt_opAt (s : State) (f : Option Fld) : (s.setOpt f).opAt = s.opAt := (setOpt_shows s f).opAt
@[simp] theorem setOpt_opPpm (s : State) (f : Option Fld) : (s.setOpt f).opPpm = s.opPpm := (setOpt_shows s f).opPpm
@[simp] theorem setOpt_events (s : State) (f : Option Fld) : (s.setOpt f).events = s.events := (setOpt_shows s f).events
@[simp] theorem setOpt_onceGen (s : State) (f : Option Fld) : (s.setOpt f).onceGen = s.onceGen := (setOpt_shows s f).onceGen
@[simp] theorem setOpt_onceSec (s : State) (f : Option Fld) : (s.setOpt f).onceSec = s.onceSec := (setOpt_shows s f).onceSec
@[simp] theorem setOpt_onceSess (s : State) (f : Option Fld) : (s.setOpt f).onceSess = s.onceSess := (setOpt_shows s f).onceSess
@[simp] theorem setOpt_free (s : State) (f : Option Fld) : (s.setOpt f).free = s.free := (setOpt_shows s f).free
@[simp] theorem setOpt_lanes (s : State) (f : Option Fld) : (s.setOpt f).lanes = s.lanes := (setOpt_shows s f).lanes
@[simp] theorem setOpt_inau (s : State) (f : Option Fld) : (s.setOpt f).inau = s.inau := (setOpt_shows s f).inau
@[simp] theorem setOpt_sched (s : State) (f : Option Fld) : (s.setOpt f).sched = s.sched := (setOpt_shows s f).sched
@[simp] theorem setOpt_sync (s : State) (f : Option Fld) : (s.setOpt f).sync = s.sync := (setOpt_shows s f).sync
@[simp] theorem setOpt_time (s : State) (f : Option Fld) : (s.setOpt f).time = s.time := (setOpt_shows s f).time
@[simp] theorem setOpt_fab (s : State) (f : Option Fld) : (s.setOpt f).fab = s.fab := (setOpt_shows s f).fab
@[simp] theorem setOpt_glb (s : State) (f : Option Fld) : (s.setOpt f).glb = s.glb := (setOpt_shows s f).glb
@[simp] theorem setOpt_twin (s : State) (f : Option Fld) : (s.setOpt f).twin = s.twin := (setOpt_shows s f).twin
@[simp] theorem setOpt_img (s : State) (f : Option Fld) : (s.setOpt f).img = s.img := (setOpt_shows s f).img
@[simp] theorem setOpt_ports (s : State) (f : Option Fld) : (s.setOpt f).ports = s.ports := (setOpt_shows s f).ports
@[simp] theorem setOpt_host (s : State) (f : Option Fld) : (s.setOpt f).host = s.host := (setOpt_shows s f).host
@[simp] theorem setOpt_eng (s : State) (f : Option Fld) : (s.setOpt f).eng = s.eng := (setOpt_shows s f).eng
@[simp] theorem setOpt_prg (s : State) (f : Option Fld) : (s.setOpt f).prg = s.prg := (setOpt_shows s f).prg
@[simp] theorem setOpt_recd (s : State) (f : Option Fld) : (s.setOpt f).recd = s.recd := (setOpt_shows s f).recd
@[simp] theorem setOpt_rest (s : State) (f : Option Fld) : (s.setOpt f).rest = s.rest := (setOpt_shows s f).rest
@[simp] theorem setOpt_brdg (s : State) (f : Option Fld) : (s.setOpt f).brdg = s.brdg := (setOpt_shows s f).brdg
@[simp] theorem setOpt_hkp (s : State) (f : Option Fld) : (s.setOpt f).hkp = s.hkp := (setOpt_shows s f).hkp
@[simp] theorem setOpt_msix_enable (s : State) (f : Option Fld) : (s.setOpt f).msix.enable = s.msix.enable := (setOpt_shows s f).msix_enable
@[simp] theorem setOpt_msix_fmask (s : State) (f : Option Fld) : (s.setOpt f).msix.fmask = s.msix.fmask := (setOpt_shows s f).msix_fmask
@[simp] theorem setOpt_msix_table (s : State) (f : Option Fld) : (s.setOpt f).msix.table = s.msix.table := (setOpt_shows s f).msix_table
@[simp] theorem setOpt_msix_members (s : State) (f : Option Fld) : (s.setOpt f).msix.members = s.msix.members := (setOpt_shows s f).msix_members
@[simp] theorem setOpt_pwr_rst (s : State) (f : Option Fld) : (s.setOpt f).pwr.rst = s.pwr.rst := (setOpt_shows s f).pwr_rst
@[simp] theorem setOpt_pwr_hold (s : State) (f : Option Fld) : (s.setOpt f).pwr.hold = s.pwr.hold := (setOpt_shows s f).pwr_hold
@[simp] theorem setOpt_pwr_low (s : State) (f : Option Fld) : (s.setOpt f).pwr.low = s.pwr.low := (setOpt_shows s f).pwr_low
@[simp] theorem setOpt_pwr_vio1 (s : State) (f : Option Fld) : (s.setOpt f).pwr.vio1 = s.pwr.vio1 := (setOpt_shows s f).pwr_vio1
@[simp] theorem setOpt_pwr_vio2 (s : State) (f : Option Fld) : (s.setOpt f).pwr.vio2 = s.pwr.vio2 := (setOpt_shows s f).pwr_vio2
@[simp] theorem setOpt_pwr_hot (s : State) (f : Option Fld) : (s.setOpt f).pwr.hot = s.pwr.hot := (setOpt_shows s f).pwr_hot
@[simp] theorem setOpt_pwr_paceWait (s : State) (f : Option Fld) : (s.setOpt f).pwr.paceWait = s.pwr.paceWait := (setOpt_shows s f).pwr_paceWait
@[simp] theorem setOpt_pwr_flash (s : State) (f : Option Fld) : (s.setOpt f).pwr.flash = s.pwr.flash := (setOpt_shows s f).pwr_flash
@[simp] theorem setOpt_cmd_slots (s : State) (f : Option Fld) : (s.setOpt f).cmd.slots = s.cmd.slots := (setOpt_shows s f).cmd_slots
@[simp] theorem setOpt_cmd_phase (s : State) (f : Option Fld) : (s.setOpt f).cmd.phase = s.cmd.phase := (setOpt_shows s f).cmd_phase
@[simp] theorem setOpt_cmd_seqCyc (s : State) (f : Option Fld) : (s.setOpt f).cmd.seqCyc = s.cmd.seqCyc := (setOpt_shows s f).cmd_seqCyc
@[simp] theorem setOpt_cmd_seqCnt (s : State) (f : Option Fld) : (s.setOpt f).cmd.seqCnt = s.cmd.seqCnt := (setOpt_shows s f).cmd_seqCnt
@[simp] theorem setOpt_cmd_outq (s : State) (f : Option Fld) : (s.setOpt f).cmd.outq = s.cmd.outq := (setOpt_shows s f).cmd_outq
@[simp] theorem setOpt_cmd_replay (s : State) (f : Option Fld) : (s.setOpt f).cmd.replay = s.cmd.replay := (setOpt_shows s f).cmd_replay
@[simp] theorem setOpt_cmd_keys (s : State) (f : Option Fld) : (s.setOpt f).cmd.keys = s.cmd.keys := (setOpt_shows s f).cmd_keys
@[simp] theorem setOpt_cmd_arm (s : State) (f : Option Fld) : (s.setOpt f).cmd.arm = s.cmd.arm := (setOpt_shows s f).cmd_arm
@[simp] theorem setOpt_cmd_notices (s : State) (f : Option Fld) : (s.setOpt f).cmd.notices = s.cmd.notices := (setOpt_shows s f).cmd_notices
@[simp] theorem setOpt_cmd_late (s : State) (f : Option Fld) : (s.setOpt f).cmd.late = s.cmd.late := (setOpt_shows s f).cmd_late
@[simp] theorem setOpt_cmd_shut (s : State) (f : Option Fld) : (s.setOpt f).cmd.shut = s.cmd.shut := (setOpt_shows s f).cmd_shut
@[simp] theorem setOpt_pwr (s : State) (f : Option Fld) : (s.setOpt f).pwr = s.pwr := by unfold setOpt; split <;> rfl
@[simp] theorem setOpt_cmd (s : State) (f : Option Fld) : (s.setOpt f).cmd = s.cmd := by unfold setOpt; split <;> rfl
@[simp] theorem setOpt_msix (s : State) (f : Option Fld) : (s.setOpt f).msix = s.msix := by unfold setOpt; split <;> rfl
@[simp] theorem setOpt_outs (s : State) (f : Option Fld) : (s.setOpt f).outs = s.outs := by unfold setOpt; split <;> rfl

@[simp] theorem clearOpt_pending (s : State) (f : Option Fld) : (s.clearOpt f).pending = s.pending := (clearOpt_shows s f).pending
@[simp] theorem clearOpt_now (s : State) (f : Option Fld) : (s.clearOpt f).now = s.now := (clearOpt_shows s f).now
@[simp] theorem clearOpt_power (s : State) (f : Option Fld) : (s.clearOpt f).power = s.power := (clearOpt_shows s f).power
@[simp] theorem clearOpt_cycRun (s : State) (f : Option Fld) : (s.clearOpt f).cycRun = s.cycRun := (clearOpt_shows s f).cycRun
@[simp] theorem clearOpt_cyc (s : State) (f : Option Fld) : (s.clearOpt f).cyc = s.cyc := (clearOpt_shows s f).cyc
@[simp] theorem clearOpt_bnd (s : State) (f : Option Fld) : (s.clearOpt f).bnd = s.bnd := (clearOpt_shows s f).bnd
@[simp] theorem clearOpt_opBase (s : State) (f : Option Fld) : (s.clearOpt f).opBase = s.opBase := (clearOpt_shows s f).opBase
@[simp] theorem clearOpt_opAt (s : State) (f : Option Fld) : (s.clearOpt f).opAt = s.opAt := (clearOpt_shows s f).opAt
@[simp] theorem clearOpt_opPpm (s : State) (f : Option Fld) : (s.clearOpt f).opPpm = s.opPpm := (clearOpt_shows s f).opPpm
@[simp] theorem clearOpt_events (s : State) (f : Option Fld) : (s.clearOpt f).events = s.events := (clearOpt_shows s f).events
@[simp] theorem clearOpt_onceGen (s : State) (f : Option Fld) : (s.clearOpt f).onceGen = s.onceGen := (clearOpt_shows s f).onceGen
@[simp] theorem clearOpt_onceSec (s : State) (f : Option Fld) : (s.clearOpt f).onceSec = s.onceSec := (clearOpt_shows s f).onceSec
@[simp] theorem clearOpt_onceSess (s : State) (f : Option Fld) : (s.clearOpt f).onceSess = s.onceSess := (clearOpt_shows s f).onceSess
@[simp] theorem clearOpt_free (s : State) (f : Option Fld) : (s.clearOpt f).free = s.free := (clearOpt_shows s f).free
@[simp] theorem clearOpt_lanes (s : State) (f : Option Fld) : (s.clearOpt f).lanes = s.lanes := (clearOpt_shows s f).lanes
@[simp] theorem clearOpt_inau (s : State) (f : Option Fld) : (s.clearOpt f).inau = s.inau := (clearOpt_shows s f).inau
@[simp] theorem clearOpt_sched (s : State) (f : Option Fld) : (s.clearOpt f).sched = s.sched := (clearOpt_shows s f).sched
@[simp] theorem clearOpt_sync (s : State) (f : Option Fld) : (s.clearOpt f).sync = s.sync := (clearOpt_shows s f).sync
@[simp] theorem clearOpt_time (s : State) (f : Option Fld) : (s.clearOpt f).time = s.time := (clearOpt_shows s f).time
@[simp] theorem clearOpt_fab (s : State) (f : Option Fld) : (s.clearOpt f).fab = s.fab := (clearOpt_shows s f).fab
@[simp] theorem clearOpt_glb (s : State) (f : Option Fld) : (s.clearOpt f).glb = s.glb := (clearOpt_shows s f).glb
@[simp] theorem clearOpt_twin (s : State) (f : Option Fld) : (s.clearOpt f).twin = s.twin := (clearOpt_shows s f).twin
@[simp] theorem clearOpt_img (s : State) (f : Option Fld) : (s.clearOpt f).img = s.img := (clearOpt_shows s f).img
@[simp] theorem clearOpt_ports (s : State) (f : Option Fld) : (s.clearOpt f).ports = s.ports := (clearOpt_shows s f).ports
@[simp] theorem clearOpt_host (s : State) (f : Option Fld) : (s.clearOpt f).host = s.host := (clearOpt_shows s f).host
@[simp] theorem clearOpt_eng (s : State) (f : Option Fld) : (s.clearOpt f).eng = s.eng := (clearOpt_shows s f).eng
@[simp] theorem clearOpt_prg (s : State) (f : Option Fld) : (s.clearOpt f).prg = s.prg := (clearOpt_shows s f).prg
@[simp] theorem clearOpt_recd (s : State) (f : Option Fld) : (s.clearOpt f).recd = s.recd := (clearOpt_shows s f).recd
@[simp] theorem clearOpt_rest (s : State) (f : Option Fld) : (s.clearOpt f).rest = s.rest := (clearOpt_shows s f).rest
@[simp] theorem clearOpt_brdg (s : State) (f : Option Fld) : (s.clearOpt f).brdg = s.brdg := (clearOpt_shows s f).brdg
@[simp] theorem clearOpt_hkp (s : State) (f : Option Fld) : (s.clearOpt f).hkp = s.hkp := (clearOpt_shows s f).hkp
@[simp] theorem clearOpt_msix_enable (s : State) (f : Option Fld) : (s.clearOpt f).msix.enable = s.msix.enable := (clearOpt_shows s f).msix_enable
@[simp] theorem clearOpt_msix_fmask (s : State) (f : Option Fld) : (s.clearOpt f).msix.fmask = s.msix.fmask := (clearOpt_shows s f).msix_fmask
@[simp] theorem clearOpt_msix_table (s : State) (f : Option Fld) : (s.clearOpt f).msix.table = s.msix.table := (clearOpt_shows s f).msix_table
@[simp] theorem clearOpt_msix_members (s : State) (f : Option Fld) : (s.clearOpt f).msix.members = s.msix.members := (clearOpt_shows s f).msix_members
@[simp] theorem clearOpt_pwr_rst (s : State) (f : Option Fld) : (s.clearOpt f).pwr.rst = s.pwr.rst := (clearOpt_shows s f).pwr_rst
@[simp] theorem clearOpt_pwr_hold (s : State) (f : Option Fld) : (s.clearOpt f).pwr.hold = s.pwr.hold := (clearOpt_shows s f).pwr_hold
@[simp] theorem clearOpt_pwr_low (s : State) (f : Option Fld) : (s.clearOpt f).pwr.low = s.pwr.low := (clearOpt_shows s f).pwr_low
@[simp] theorem clearOpt_pwr_vio1 (s : State) (f : Option Fld) : (s.clearOpt f).pwr.vio1 = s.pwr.vio1 := (clearOpt_shows s f).pwr_vio1
@[simp] theorem clearOpt_pwr_vio2 (s : State) (f : Option Fld) : (s.clearOpt f).pwr.vio2 = s.pwr.vio2 := (clearOpt_shows s f).pwr_vio2
@[simp] theorem clearOpt_pwr_hot (s : State) (f : Option Fld) : (s.clearOpt f).pwr.hot = s.pwr.hot := (clearOpt_shows s f).pwr_hot
@[simp] theorem clearOpt_pwr_paceWait (s : State) (f : Option Fld) : (s.clearOpt f).pwr.paceWait = s.pwr.paceWait := (clearOpt_shows s f).pwr_paceWait
@[simp] theorem clearOpt_pwr_flash (s : State) (f : Option Fld) : (s.clearOpt f).pwr.flash = s.pwr.flash := (clearOpt_shows s f).pwr_flash
@[simp] theorem clearOpt_cmd_slots (s : State) (f : Option Fld) : (s.clearOpt f).cmd.slots = s.cmd.slots := (clearOpt_shows s f).cmd_slots
@[simp] theorem clearOpt_cmd_phase (s : State) (f : Option Fld) : (s.clearOpt f).cmd.phase = s.cmd.phase := (clearOpt_shows s f).cmd_phase
@[simp] theorem clearOpt_cmd_seqCyc (s : State) (f : Option Fld) : (s.clearOpt f).cmd.seqCyc = s.cmd.seqCyc := (clearOpt_shows s f).cmd_seqCyc
@[simp] theorem clearOpt_cmd_seqCnt (s : State) (f : Option Fld) : (s.clearOpt f).cmd.seqCnt = s.cmd.seqCnt := (clearOpt_shows s f).cmd_seqCnt
@[simp] theorem clearOpt_cmd_outq (s : State) (f : Option Fld) : (s.clearOpt f).cmd.outq = s.cmd.outq := (clearOpt_shows s f).cmd_outq
@[simp] theorem clearOpt_cmd_replay (s : State) (f : Option Fld) : (s.clearOpt f).cmd.replay = s.cmd.replay := (clearOpt_shows s f).cmd_replay
@[simp] theorem clearOpt_cmd_keys (s : State) (f : Option Fld) : (s.clearOpt f).cmd.keys = s.cmd.keys := (clearOpt_shows s f).cmd_keys
@[simp] theorem clearOpt_cmd_arm (s : State) (f : Option Fld) : (s.clearOpt f).cmd.arm = s.cmd.arm := (clearOpt_shows s f).cmd_arm
@[simp] theorem clearOpt_cmd_notices (s : State) (f : Option Fld) : (s.clearOpt f).cmd.notices = s.cmd.notices := (clearOpt_shows s f).cmd_notices
@[simp] theorem clearOpt_cmd_late (s : State) (f : Option Fld) : (s.clearOpt f).cmd.late = s.cmd.late := (clearOpt_shows s f).cmd_late
@[simp] theorem clearOpt_cmd_shut (s : State) (f : Option Fld) : (s.clearOpt f).cmd.shut = s.cmd.shut := (clearOpt_shows s f).cmd_shut
@[simp] theorem clearOpt_pwr (s : State) (f : Option Fld) : (s.clearOpt f).pwr = s.pwr := by unfold clearOpt; split <;> rfl
@[simp] theorem clearOpt_cmd (s : State) (f : Option Fld) : (s.clearOpt f).cmd = s.cmd := by unfold clearOpt; split <;> rfl
@[simp] theorem clearOpt_msix (s : State) (f : Option Fld) : (s.clearOpt f).msix = s.msix := by unfold clearOpt; split <;> rfl
@[simp] theorem clearOpt_outs (s : State) (f : Option Fld) : (s.clearOpt f).outs = s.outs := by unfold clearOpt; split <;> rfl

/-- A record made once: events and their filter. -/
theorem recordGen_frame (s : State) (c k : Nat) (p : Bytes) : ∃ e g, s.recordGen c k p = { s with events := e, onceGen := g } := by unfold recordGen; split <;> exact ⟨_, _, rfl⟩
@[simp] theorem recordGen_pending (s : State) (c k : Nat) (p : Bytes) : (s.recordGen c k p).pending = s.pending := by obtain ⟨_, _, h⟩ := recordGen_frame s c k p; rw [h]
@[simp] theorem recordGen_now (s : State) (c k : Nat) (p : Bytes) : (s.recordGen c k p).now = s.now := by obtain ⟨_, _, h⟩ := recordGen_frame s c k p; rw [h]
@[simp] theorem recordGen_power (s : State) (c k : Nat) (p : Bytes) : (s.recordGen c k p).power = s.power := by obtain ⟨_, _, h⟩ := recordGen_frame s c k p; rw [h]
@[simp] theorem recordGen_regs (s : State) (c k : Nat) (p : Bytes) : (s.recordGen c k p).regs = s.regs := by obtain ⟨_, _, h⟩ := recordGen_frame s c k p; rw [h]
@[simp] theorem recordGen_cycRun (s : State) (c k : Nat) (p : Bytes) : (s.recordGen c k p).cycRun = s.cycRun := by obtain ⟨_, _, h⟩ := recordGen_frame s c k p; rw [h]
@[simp] theorem recordGen_cyc (s : State) (c k : Nat) (p : Bytes) : (s.recordGen c k p).cyc = s.cyc := by obtain ⟨_, _, h⟩ := recordGen_frame s c k p; rw [h]
@[simp] theorem recordGen_bnd (s : State) (c k : Nat) (p : Bytes) : (s.recordGen c k p).bnd = s.bnd := by obtain ⟨_, _, h⟩ := recordGen_frame s c k p; rw [h]
@[simp] theorem recordGen_opBase (s : State) (c k : Nat) (p : Bytes) : (s.recordGen c k p).opBase = s.opBase := by obtain ⟨_, _, h⟩ := recordGen_frame s c k p; rw [h]
@[simp] theorem recordGen_opAt (s : State) (c k : Nat) (p : Bytes) : (s.recordGen c k p).opAt = s.opAt := by obtain ⟨_, _, h⟩ := recordGen_frame s c k p; rw [h]
@[simp] theorem recordGen_opPpm (s : State) (c k : Nat) (p : Bytes) : (s.recordGen c k p).opPpm = s.opPpm := by obtain ⟨_, _, h⟩ := recordGen_frame s c k p; rw [h]
@[simp] theorem recordGen_outs (s : State) (c k : Nat) (p : Bytes) : (s.recordGen c k p).outs = s.outs := by obtain ⟨_, _, h⟩ := recordGen_frame s c k p; rw [h]
@[simp] theorem recordGen_onceSec (s : State) (c k : Nat) (p : Bytes) : (s.recordGen c k p).onceSec = s.onceSec := by obtain ⟨_, _, h⟩ := recordGen_frame s c k p; rw [h]
@[simp] theorem recordGen_onceSess (s : State) (c k : Nat) (p : Bytes) : (s.recordGen c k p).onceSess = s.onceSess := by obtain ⟨_, _, h⟩ := recordGen_frame s c k p; rw [h]
@[simp] theorem recordGen_free (s : State) (c k : Nat) (p : Bytes) : (s.recordGen c k p).free = s.free := by obtain ⟨_, _, h⟩ := recordGen_frame s c k p; rw [h]
@[simp] theorem recordGen_lanes (s : State) (c k : Nat) (p : Bytes) : (s.recordGen c k p).lanes = s.lanes := by obtain ⟨_, _, h⟩ := recordGen_frame s c k p; rw [h]
@[simp] theorem recordGen_inau (s : State) (c k : Nat) (p : Bytes) : (s.recordGen c k p).inau = s.inau := by obtain ⟨_, _, h⟩ := recordGen_frame s c k p; rw [h]
@[simp] theorem recordGen_sched (s : State) (c k : Nat) (p : Bytes) : (s.recordGen c k p).sched = s.sched := by obtain ⟨_, _, h⟩ := recordGen_frame s c k p; rw [h]
@[simp] theorem recordGen_sync (s : State) (c k : Nat) (p : Bytes) : (s.recordGen c k p).sync = s.sync := by obtain ⟨_, _, h⟩ := recordGen_frame s c k p; rw [h]
@[simp] theorem recordGen_time (s : State) (c k : Nat) (p : Bytes) : (s.recordGen c k p).time = s.time := by obtain ⟨_, _, h⟩ := recordGen_frame s c k p; rw [h]
@[simp] theorem recordGen_fab (s : State) (c k : Nat) (p : Bytes) : (s.recordGen c k p).fab = s.fab := by obtain ⟨_, _, h⟩ := recordGen_frame s c k p; rw [h]
@[simp] theorem recordGen_msix (s : State) (c k : Nat) (p : Bytes) : (s.recordGen c k p).msix = s.msix := by obtain ⟨_, _, h⟩ := recordGen_frame s c k p; rw [h]
@[simp] theorem recordGen_glb (s : State) (c k : Nat) (p : Bytes) : (s.recordGen c k p).glb = s.glb := by obtain ⟨_, _, h⟩ := recordGen_frame s c k p; rw [h]
@[simp] theorem recordGen_twin (s : State) (c k : Nat) (p : Bytes) : (s.recordGen c k p).twin = s.twin := by obtain ⟨_, _, h⟩ := recordGen_frame s c k p; rw [h]
@[simp] theorem recordGen_img (s : State) (c k : Nat) (p : Bytes) : (s.recordGen c k p).img = s.img := by obtain ⟨_, _, h⟩ := recordGen_frame s c k p; rw [h]
@[simp] theorem recordGen_ports (s : State) (c k : Nat) (p : Bytes) : (s.recordGen c k p).ports = s.ports := by obtain ⟨_, _, h⟩ := recordGen_frame s c k p; rw [h]
@[simp] theorem recordGen_host (s : State) (c k : Nat) (p : Bytes) : (s.recordGen c k p).host = s.host := by obtain ⟨_, _, h⟩ := recordGen_frame s c k p; rw [h]
@[simp] theorem recordGen_cmd (s : State) (c k : Nat) (p : Bytes) : (s.recordGen c k p).cmd = s.cmd := by obtain ⟨_, _, h⟩ := recordGen_frame s c k p; rw [h]
@[simp] theorem recordGen_eng (s : State) (c k : Nat) (p : Bytes) : (s.recordGen c k p).eng = s.eng := by obtain ⟨_, _, h⟩ := recordGen_frame s c k p; rw [h]
@[simp] theorem recordGen_prg (s : State) (c k : Nat) (p : Bytes) : (s.recordGen c k p).prg = s.prg := by obtain ⟨_, _, h⟩ := recordGen_frame s c k p; rw [h]
@[simp] theorem recordGen_recd (s : State) (c k : Nat) (p : Bytes) : (s.recordGen c k p).recd = s.recd := by obtain ⟨_, _, h⟩ := recordGen_frame s c k p; rw [h]
@[simp] theorem recordGen_rest (s : State) (c k : Nat) (p : Bytes) : (s.recordGen c k p).rest = s.rest := by obtain ⟨_, _, h⟩ := recordGen_frame s c k p; rw [h]
@[simp] theorem recordGen_pwr (s : State) (c k : Nat) (p : Bytes) : (s.recordGen c k p).pwr = s.pwr := by obtain ⟨_, _, h⟩ := recordGen_frame s c k p; rw [h]
@[simp] theorem recordGen_brdg (s : State) (c k : Nat) (p : Bytes) : (s.recordGen c k p).brdg = s.brdg := by obtain ⟨_, _, h⟩ := recordGen_frame s c k p; rw [h]
@[simp] theorem recordGen_hkp (s : State) (c k : Nat) (p : Bytes) : (s.recordGen c k p).hkp = s.hkp := by obtain ⟨_, _, h⟩ := recordGen_frame s c k p; rw [h]

/-- A record made once: events and their filter. -/
theorem recordSec_frame (s : State) (c k : Nat) (p : Bytes) : ∃ e g, s.recordSec c k p = { s with events := e, onceSec := g } := by unfold recordSec; split <;> exact ⟨_, _, rfl⟩
@[simp] theorem recordSec_pending (s : State) (c k : Nat) (p : Bytes) : (s.recordSec c k p).pending = s.pending := by obtain ⟨_, _, h⟩ := recordSec_frame s c k p; rw [h]
@[simp] theorem recordSec_now (s : State) (c k : Nat) (p : Bytes) : (s.recordSec c k p).now = s.now := by obtain ⟨_, _, h⟩ := recordSec_frame s c k p; rw [h]
@[simp] theorem recordSec_power (s : State) (c k : Nat) (p : Bytes) : (s.recordSec c k p).power = s.power := by obtain ⟨_, _, h⟩ := recordSec_frame s c k p; rw [h]
@[simp] theorem recordSec_regs (s : State) (c k : Nat) (p : Bytes) : (s.recordSec c k p).regs = s.regs := by obtain ⟨_, _, h⟩ := recordSec_frame s c k p; rw [h]
@[simp] theorem recordSec_cycRun (s : State) (c k : Nat) (p : Bytes) : (s.recordSec c k p).cycRun = s.cycRun := by obtain ⟨_, _, h⟩ := recordSec_frame s c k p; rw [h]
@[simp] theorem recordSec_cyc (s : State) (c k : Nat) (p : Bytes) : (s.recordSec c k p).cyc = s.cyc := by obtain ⟨_, _, h⟩ := recordSec_frame s c k p; rw [h]
@[simp] theorem recordSec_bnd (s : State) (c k : Nat) (p : Bytes) : (s.recordSec c k p).bnd = s.bnd := by obtain ⟨_, _, h⟩ := recordSec_frame s c k p; rw [h]
@[simp] theorem recordSec_opBase (s : State) (c k : Nat) (p : Bytes) : (s.recordSec c k p).opBase = s.opBase := by obtain ⟨_, _, h⟩ := recordSec_frame s c k p; rw [h]
@[simp] theorem recordSec_opAt (s : State) (c k : Nat) (p : Bytes) : (s.recordSec c k p).opAt = s.opAt := by obtain ⟨_, _, h⟩ := recordSec_frame s c k p; rw [h]
@[simp] theorem recordSec_opPpm (s : State) (c k : Nat) (p : Bytes) : (s.recordSec c k p).opPpm = s.opPpm := by obtain ⟨_, _, h⟩ := recordSec_frame s c k p; rw [h]
@[simp] theorem recordSec_outs (s : State) (c k : Nat) (p : Bytes) : (s.recordSec c k p).outs = s.outs := by obtain ⟨_, _, h⟩ := recordSec_frame s c k p; rw [h]
@[simp] theorem recordSec_onceGen (s : State) (c k : Nat) (p : Bytes) : (s.recordSec c k p).onceGen = s.onceGen := by obtain ⟨_, _, h⟩ := recordSec_frame s c k p; rw [h]
@[simp] theorem recordSec_onceSess (s : State) (c k : Nat) (p : Bytes) : (s.recordSec c k p).onceSess = s.onceSess := by obtain ⟨_, _, h⟩ := recordSec_frame s c k p; rw [h]
@[simp] theorem recordSec_free (s : State) (c k : Nat) (p : Bytes) : (s.recordSec c k p).free = s.free := by obtain ⟨_, _, h⟩ := recordSec_frame s c k p; rw [h]
@[simp] theorem recordSec_lanes (s : State) (c k : Nat) (p : Bytes) : (s.recordSec c k p).lanes = s.lanes := by obtain ⟨_, _, h⟩ := recordSec_frame s c k p; rw [h]
@[simp] theorem recordSec_inau (s : State) (c k : Nat) (p : Bytes) : (s.recordSec c k p).inau = s.inau := by obtain ⟨_, _, h⟩ := recordSec_frame s c k p; rw [h]
@[simp] theorem recordSec_sched (s : State) (c k : Nat) (p : Bytes) : (s.recordSec c k p).sched = s.sched := by obtain ⟨_, _, h⟩ := recordSec_frame s c k p; rw [h]
@[simp] theorem recordSec_sync (s : State) (c k : Nat) (p : Bytes) : (s.recordSec c k p).sync = s.sync := by obtain ⟨_, _, h⟩ := recordSec_frame s c k p; rw [h]
@[simp] theorem recordSec_time (s : State) (c k : Nat) (p : Bytes) : (s.recordSec c k p).time = s.time := by obtain ⟨_, _, h⟩ := recordSec_frame s c k p; rw [h]
@[simp] theorem recordSec_fab (s : State) (c k : Nat) (p : Bytes) : (s.recordSec c k p).fab = s.fab := by obtain ⟨_, _, h⟩ := recordSec_frame s c k p; rw [h]
@[simp] theorem recordSec_msix (s : State) (c k : Nat) (p : Bytes) : (s.recordSec c k p).msix = s.msix := by obtain ⟨_, _, h⟩ := recordSec_frame s c k p; rw [h]
@[simp] theorem recordSec_glb (s : State) (c k : Nat) (p : Bytes) : (s.recordSec c k p).glb = s.glb := by obtain ⟨_, _, h⟩ := recordSec_frame s c k p; rw [h]
@[simp] theorem recordSec_twin (s : State) (c k : Nat) (p : Bytes) : (s.recordSec c k p).twin = s.twin := by obtain ⟨_, _, h⟩ := recordSec_frame s c k p; rw [h]
@[simp] theorem recordSec_img (s : State) (c k : Nat) (p : Bytes) : (s.recordSec c k p).img = s.img := by obtain ⟨_, _, h⟩ := recordSec_frame s c k p; rw [h]
@[simp] theorem recordSec_ports (s : State) (c k : Nat) (p : Bytes) : (s.recordSec c k p).ports = s.ports := by obtain ⟨_, _, h⟩ := recordSec_frame s c k p; rw [h]
@[simp] theorem recordSec_host (s : State) (c k : Nat) (p : Bytes) : (s.recordSec c k p).host = s.host := by obtain ⟨_, _, h⟩ := recordSec_frame s c k p; rw [h]
@[simp] theorem recordSec_cmd (s : State) (c k : Nat) (p : Bytes) : (s.recordSec c k p).cmd = s.cmd := by obtain ⟨_, _, h⟩ := recordSec_frame s c k p; rw [h]
@[simp] theorem recordSec_eng (s : State) (c k : Nat) (p : Bytes) : (s.recordSec c k p).eng = s.eng := by obtain ⟨_, _, h⟩ := recordSec_frame s c k p; rw [h]
@[simp] theorem recordSec_prg (s : State) (c k : Nat) (p : Bytes) : (s.recordSec c k p).prg = s.prg := by obtain ⟨_, _, h⟩ := recordSec_frame s c k p; rw [h]
@[simp] theorem recordSec_recd (s : State) (c k : Nat) (p : Bytes) : (s.recordSec c k p).recd = s.recd := by obtain ⟨_, _, h⟩ := recordSec_frame s c k p; rw [h]
@[simp] theorem recordSec_rest (s : State) (c k : Nat) (p : Bytes) : (s.recordSec c k p).rest = s.rest := by obtain ⟨_, _, h⟩ := recordSec_frame s c k p; rw [h]
@[simp] theorem recordSec_pwr (s : State) (c k : Nat) (p : Bytes) : (s.recordSec c k p).pwr = s.pwr := by obtain ⟨_, _, h⟩ := recordSec_frame s c k p; rw [h]
@[simp] theorem recordSec_brdg (s : State) (c k : Nat) (p : Bytes) : (s.recordSec c k p).brdg = s.brdg := by obtain ⟨_, _, h⟩ := recordSec_frame s c k p; rw [h]
@[simp] theorem recordSec_hkp (s : State) (c k : Nat) (p : Bytes) : (s.recordSec c k p).hkp = s.hkp := by obtain ⟨_, _, h⟩ := recordSec_frame s c k p; rw [h]

/-- A record made once: events and their filter. -/
theorem recordSess_frame (s : State) (c k : Nat) (p : Bytes) : ∃ e g, s.recordSess c k p = { s with events := e, onceSess := g } := by unfold recordSess; split <;> exact ⟨_, _, rfl⟩
@[simp] theorem recordSess_pending (s : State) (c k : Nat) (p : Bytes) : (s.recordSess c k p).pending = s.pending := by obtain ⟨_, _, h⟩ := recordSess_frame s c k p; rw [h]
@[simp] theorem recordSess_now (s : State) (c k : Nat) (p : Bytes) : (s.recordSess c k p).now = s.now := by obtain ⟨_, _, h⟩ := recordSess_frame s c k p; rw [h]
@[simp] theorem recordSess_power (s : State) (c k : Nat) (p : Bytes) : (s.recordSess c k p).power = s.power := by obtain ⟨_, _, h⟩ := recordSess_frame s c k p; rw [h]
@[simp] theorem recordSess_regs (s : State) (c k : Nat) (p : Bytes) : (s.recordSess c k p).regs = s.regs := by obtain ⟨_, _, h⟩ := recordSess_frame s c k p; rw [h]
@[simp] theorem recordSess_cycRun (s : State) (c k : Nat) (p : Bytes) : (s.recordSess c k p).cycRun = s.cycRun := by obtain ⟨_, _, h⟩ := recordSess_frame s c k p; rw [h]
@[simp] theorem recordSess_cyc (s : State) (c k : Nat) (p : Bytes) : (s.recordSess c k p).cyc = s.cyc := by obtain ⟨_, _, h⟩ := recordSess_frame s c k p; rw [h]
@[simp] theorem recordSess_bnd (s : State) (c k : Nat) (p : Bytes) : (s.recordSess c k p).bnd = s.bnd := by obtain ⟨_, _, h⟩ := recordSess_frame s c k p; rw [h]
@[simp] theorem recordSess_opBase (s : State) (c k : Nat) (p : Bytes) : (s.recordSess c k p).opBase = s.opBase := by obtain ⟨_, _, h⟩ := recordSess_frame s c k p; rw [h]
@[simp] theorem recordSess_opAt (s : State) (c k : Nat) (p : Bytes) : (s.recordSess c k p).opAt = s.opAt := by obtain ⟨_, _, h⟩ := recordSess_frame s c k p; rw [h]
@[simp] theorem recordSess_opPpm (s : State) (c k : Nat) (p : Bytes) : (s.recordSess c k p).opPpm = s.opPpm := by obtain ⟨_, _, h⟩ := recordSess_frame s c k p; rw [h]
@[simp] theorem recordSess_outs (s : State) (c k : Nat) (p : Bytes) : (s.recordSess c k p).outs = s.outs := by obtain ⟨_, _, h⟩ := recordSess_frame s c k p; rw [h]
@[simp] theorem recordSess_onceGen (s : State) (c k : Nat) (p : Bytes) : (s.recordSess c k p).onceGen = s.onceGen := by obtain ⟨_, _, h⟩ := recordSess_frame s c k p; rw [h]
@[simp] theorem recordSess_onceSec (s : State) (c k : Nat) (p : Bytes) : (s.recordSess c k p).onceSec = s.onceSec := by obtain ⟨_, _, h⟩ := recordSess_frame s c k p; rw [h]
@[simp] theorem recordSess_free (s : State) (c k : Nat) (p : Bytes) : (s.recordSess c k p).free = s.free := by obtain ⟨_, _, h⟩ := recordSess_frame s c k p; rw [h]
@[simp] theorem recordSess_lanes (s : State) (c k : Nat) (p : Bytes) : (s.recordSess c k p).lanes = s.lanes := by obtain ⟨_, _, h⟩ := recordSess_frame s c k p; rw [h]
@[simp] theorem recordSess_inau (s : State) (c k : Nat) (p : Bytes) : (s.recordSess c k p).inau = s.inau := by obtain ⟨_, _, h⟩ := recordSess_frame s c k p; rw [h]
@[simp] theorem recordSess_sched (s : State) (c k : Nat) (p : Bytes) : (s.recordSess c k p).sched = s.sched := by obtain ⟨_, _, h⟩ := recordSess_frame s c k p; rw [h]
@[simp] theorem recordSess_sync (s : State) (c k : Nat) (p : Bytes) : (s.recordSess c k p).sync = s.sync := by obtain ⟨_, _, h⟩ := recordSess_frame s c k p; rw [h]
@[simp] theorem recordSess_time (s : State) (c k : Nat) (p : Bytes) : (s.recordSess c k p).time = s.time := by obtain ⟨_, _, h⟩ := recordSess_frame s c k p; rw [h]
@[simp] theorem recordSess_fab (s : State) (c k : Nat) (p : Bytes) : (s.recordSess c k p).fab = s.fab := by obtain ⟨_, _, h⟩ := recordSess_frame s c k p; rw [h]
@[simp] theorem recordSess_msix (s : State) (c k : Nat) (p : Bytes) : (s.recordSess c k p).msix = s.msix := by obtain ⟨_, _, h⟩ := recordSess_frame s c k p; rw [h]
@[simp] theorem recordSess_glb (s : State) (c k : Nat) (p : Bytes) : (s.recordSess c k p).glb = s.glb := by obtain ⟨_, _, h⟩ := recordSess_frame s c k p; rw [h]
@[simp] theorem recordSess_twin (s : State) (c k : Nat) (p : Bytes) : (s.recordSess c k p).twin = s.twin := by obtain ⟨_, _, h⟩ := recordSess_frame s c k p; rw [h]
@[simp] theorem recordSess_img (s : State) (c k : Nat) (p : Bytes) : (s.recordSess c k p).img = s.img := by obtain ⟨_, _, h⟩ := recordSess_frame s c k p; rw [h]
@[simp] theorem recordSess_ports (s : State) (c k : Nat) (p : Bytes) : (s.recordSess c k p).ports = s.ports := by obtain ⟨_, _, h⟩ := recordSess_frame s c k p; rw [h]
@[simp] theorem recordSess_host (s : State) (c k : Nat) (p : Bytes) : (s.recordSess c k p).host = s.host := by obtain ⟨_, _, h⟩ := recordSess_frame s c k p; rw [h]
@[simp] theorem recordSess_cmd (s : State) (c k : Nat) (p : Bytes) : (s.recordSess c k p).cmd = s.cmd := by obtain ⟨_, _, h⟩ := recordSess_frame s c k p; rw [h]
@[simp] theorem recordSess_eng (s : State) (c k : Nat) (p : Bytes) : (s.recordSess c k p).eng = s.eng := by obtain ⟨_, _, h⟩ := recordSess_frame s c k p; rw [h]
@[simp] theorem recordSess_prg (s : State) (c k : Nat) (p : Bytes) : (s.recordSess c k p).prg = s.prg := by obtain ⟨_, _, h⟩ := recordSess_frame s c k p; rw [h]
@[simp] theorem recordSess_recd (s : State) (c k : Nat) (p : Bytes) : (s.recordSess c k p).recd = s.recd := by obtain ⟨_, _, h⟩ := recordSess_frame s c k p; rw [h]
@[simp] theorem recordSess_rest (s : State) (c k : Nat) (p : Bytes) : (s.recordSess c k p).rest = s.rest := by obtain ⟨_, _, h⟩ := recordSess_frame s c k p; rw [h]
@[simp] theorem recordSess_pwr (s : State) (c k : Nat) (p : Bytes) : (s.recordSess c k p).pwr = s.pwr := by obtain ⟨_, _, h⟩ := recordSess_frame s c k p; rw [h]
@[simp] theorem recordSess_brdg (s : State) (c k : Nat) (p : Bytes) : (s.recordSess c k p).brdg = s.brdg := by obtain ⟨_, _, h⟩ := recordSess_frame s c k p; rw [h]
@[simp] theorem recordSess_hkp (s : State) (c k : Nat) (p : Bytes) : (s.recordSess c k p).hkp = s.hkp := by obtain ⟨_, _, h⟩ := recordSess_frame s c k p; rw [h]

/-- A lane moves to a state: registers and that lane. -/
@[simp] theorem setLaneSt_pending (s : State) (n : Nat) (t : LaneSt) : (s.setLaneSt n t).pending = s.pending := rfl
@[simp] theorem setLaneSt_now (s : State) (n : Nat) (t : LaneSt) : (s.setLaneSt n t).now = s.now := rfl
@[simp] theorem setLaneSt_power (s : State) (n : Nat) (t : LaneSt) : (s.setLaneSt n t).power = s.power := rfl
@[simp] theorem setLaneSt_cycRun (s : State) (n : Nat) (t : LaneSt) : (s.setLaneSt n t).cycRun = s.cycRun := rfl
@[simp] theorem setLaneSt_cyc (s : State) (n : Nat) (t : LaneSt) : (s.setLaneSt n t).cyc = s.cyc := rfl
@[simp] theorem setLaneSt_bnd (s : State) (n : Nat) (t : LaneSt) : (s.setLaneSt n t).bnd = s.bnd := rfl
@[simp] theorem setLaneSt_opBase (s : State) (n : Nat) (t : LaneSt) : (s.setLaneSt n t).opBase = s.opBase := rfl
@[simp] theorem setLaneSt_opAt (s : State) (n : Nat) (t : LaneSt) : (s.setLaneSt n t).opAt = s.opAt := rfl
@[simp] theorem setLaneSt_opPpm (s : State) (n : Nat) (t : LaneSt) : (s.setLaneSt n t).opPpm = s.opPpm := rfl
@[simp] theorem setLaneSt_events (s : State) (n : Nat) (t : LaneSt) : (s.setLaneSt n t).events = s.events := rfl
@[simp] theorem setLaneSt_outs (s : State) (n : Nat) (t : LaneSt) : (s.setLaneSt n t).outs = s.outs := rfl
@[simp] theorem setLaneSt_onceGen (s : State) (n : Nat) (t : LaneSt) : (s.setLaneSt n t).onceGen = s.onceGen := rfl
@[simp] theorem setLaneSt_onceSec (s : State) (n : Nat) (t : LaneSt) : (s.setLaneSt n t).onceSec = s.onceSec := rfl
@[simp] theorem setLaneSt_onceSess (s : State) (n : Nat) (t : LaneSt) : (s.setLaneSt n t).onceSess = s.onceSess := rfl
@[simp] theorem setLaneSt_free (s : State) (n : Nat) (t : LaneSt) : (s.setLaneSt n t).free = s.free := rfl
@[simp] theorem setLaneSt_inau (s : State) (n : Nat) (t : LaneSt) : (s.setLaneSt n t).inau = s.inau := rfl
@[simp] theorem setLaneSt_sched (s : State) (n : Nat) (t : LaneSt) : (s.setLaneSt n t).sched = s.sched := rfl
@[simp] theorem setLaneSt_sync (s : State) (n : Nat) (t : LaneSt) : (s.setLaneSt n t).sync = s.sync := rfl
@[simp] theorem setLaneSt_time (s : State) (n : Nat) (t : LaneSt) : (s.setLaneSt n t).time = s.time := rfl
@[simp] theorem setLaneSt_fab (s : State) (n : Nat) (t : LaneSt) : (s.setLaneSt n t).fab = s.fab := rfl
@[simp] theorem setLaneSt_msix (s : State) (n : Nat) (t : LaneSt) : (s.setLaneSt n t).msix = s.msix := rfl
@[simp] theorem setLaneSt_glb (s : State) (n : Nat) (t : LaneSt) : (s.setLaneSt n t).glb = s.glb := rfl
@[simp] theorem setLaneSt_twin (s : State) (n : Nat) (t : LaneSt) : (s.setLaneSt n t).twin = s.twin := rfl
@[simp] theorem setLaneSt_img (s : State) (n : Nat) (t : LaneSt) : (s.setLaneSt n t).img = s.img := rfl
@[simp] theorem setLaneSt_ports (s : State) (n : Nat) (t : LaneSt) : (s.setLaneSt n t).ports = s.ports := rfl
@[simp] theorem setLaneSt_host (s : State) (n : Nat) (t : LaneSt) : (s.setLaneSt n t).host = s.host := rfl
@[simp] theorem setLaneSt_cmd (s : State) (n : Nat) (t : LaneSt) : (s.setLaneSt n t).cmd = s.cmd := rfl
@[simp] theorem setLaneSt_eng (s : State) (n : Nat) (t : LaneSt) : (s.setLaneSt n t).eng = s.eng := rfl
@[simp] theorem setLaneSt_prg (s : State) (n : Nat) (t : LaneSt) : (s.setLaneSt n t).prg = s.prg := rfl
@[simp] theorem setLaneSt_recd (s : State) (n : Nat) (t : LaneSt) : (s.setLaneSt n t).recd = s.recd := rfl
@[simp] theorem setLaneSt_rest (s : State) (n : Nat) (t : LaneSt) : (s.setLaneSt n t).rest = s.rest := rfl
@[simp] theorem setLaneSt_pwr (s : State) (n : Nat) (t : LaneSt) : (s.setLaneSt n t).pwr = s.pwr := rfl
@[simp] theorem setLaneSt_brdg (s : State) (n : Nat) (t : LaneSt) : (s.setLaneSt n t).brdg = s.brdg := rfl
@[simp] theorem setLaneSt_hkp (s : State) (n : Nat) (t : LaneSt) : (s.setLaneSt n t).hkp = s.hkp := rfl

/-- A field reads as before where the registers stand. -/
theorem get_of_regs {s t : State} (h : t.regs = s.regs) (f : Fld) : t.get f = s.get f := by
  unfold State.get
  rw [h]

@[simp] theorem emit_get' (s : State) (x : Out) (f : Fld) : (s.emit x).get f = s.get f := get_of_regs rfl f
@[simp] theorem signal_get (s : State) (v : Nat) (f : Fld) : (s.signal v).get f = s.get f := get_of_regs (by simp) f
@[simp] theorem refreshInta_get (s : State) (f : Fld) : s.refreshInta.get f = s.get f := get_of_regs (by simp) f
@[simp] theorem refreshIntn_get (s : State) (f : Fld) : s.refreshIntn.get f = s.get f := get_of_regs (by simp) f
@[simp] theorem refreshRolePin_get (s : State) (f : Fld) : s.refreshRolePin.get f = s.get f := get_of_regs (by simp) f
@[simp] theorem stackSend_get (s : State) (a b c d e g : Nat) (pl : Bytes) (f : Fld) : (s.stackSend a b c d e g pl).get f = s.get f :=
  get_of_regs (by simp) f
@[simp] theorem recordGen_get (s : State) (c k : Nat) (p : Bytes) (f : Fld) : (s.recordGen c k p).get f = s.get f := get_of_regs (by simp) f
@[simp] theorem recordSec_get (s : State) (c k : Nat) (p : Bytes) (f : Fld) : (s.recordSec c k p).get f = s.get f := get_of_regs (by simp) f
@[simp] theorem recordSess_get (s : State) (c k : Nat) (p : Bytes) (f : Fld) : (s.recordSess c k p).get f = s.get f := get_of_regs (by simp) f
@[simp] theorem onLane_get' (s : State) (n : Nat) (h : LaneS → LaneS) (f : Fld) : (s.onLane n h).get f = s.get f := get_of_regs rfl f

/-- A lane reads as the change made it; the other lanes stand. -/
theorem lane_onLane (s : State) (n m : Nat) (h : LaneS → LaneS) (hn : n < 4) :
    (s.onLane n h).lane m = if m = n then h (s.lane n) else s.lane m := by
  unfold State.onLane State.lane
  by_cases e : m = n
  · subst e; simp [hn]
  · have e' : n ≠ m := fun x => e x.symm
    simp [e, e']

/-- The IRQ bit is set, and every other field stands. -/
theorem raise_get (s : State) (f g : Fld) : (s.raise f).get g = (s.put f 1).get g := by
  unfold raise
  dsimp only
  split_ifs <;> simp

theorem raise_get_ne (s : State) (f g : Fld) (h : g.key ≠ f.key) : (s.raise f).get g = s.get g := by
  rw [raise_get, get_put_ne s f g 1 h]

theorem refreshFault_get_ne (s : State) (g : Fld) (h : g.key ≠ Reg.GLB_STAT.NFAULT.key) : s.refreshFault.get g = s.get g := by
  unfold refreshFault
  dsimp only
  split
  · rfl
  · simp [putB, get_put_ne s _ g _ h]

theorem refreshCpl_get_ne (s : State) (g : Fld) (h : g.key ≠ Reg.CMD_IRQ.CPL.key) : s.refreshCpl.get g = s.get g := by
  unfold refreshCpl
  split
  · rw [raise_get_ne _ _ _ h]; rfl
  · rfl

/-- What follows after a command touches two register fields at most. -/
theorem settle_get_ne (s : State) (g : Fld) (h1 : g.key ≠ Reg.GLB_STAT.NFAULT.key) (h2 : g.key ≠ Reg.CMD_IRQ.CPL.key) :
    s.settle.get g = s.get g := by
  unfold settle
  rw [refreshFault_get_ne _ _ h1]
  simp [refreshCpl_get_ne s g h2]

/-- A word stored leaves every field of other registers, but for the flags that follow. -/
theorem storeWord_get_ne (s : State) (a v : Nat) (g : Fld) (h : ∀ f ∈ fieldsAt a, g.key ≠ f.key) (h1 : g.key ≠ Reg.GLB_STAT.NFAULT.key)
    (h2 : g.key ≠ Reg.REST_STAT.CFGDIRTY.key) (h3 : ∀ w, wignOf a = some w → g.key ≠ w.key) : (s.storeWord a v).get g = s.get g := by
  have key : ∀ (ok : Bool) (l : List Fld) (u : State), (∀ f ∈ l, g.key ≠ f.key) → (l.foldl (State.storeField ok v) u).get g = u.get g := by
    intro ok l
    induction l with
    | nil => intro u _; rfl
    | cons x l ih =>
      intro u hl
      simp only [List.foldl_cons]
      rw [ih _ (fun f hf => hl f (List.mem_cons_of_mem _ hf))]
      have hx := hl x (by simp)
      unfold State.storeField
      split <;> first | exact State.get_put_ne _ _ _ _ hx | rfl | (split <;> first | exact State.get_put_ne _ _ _ _ hx | rfl)
  unfold State.storeWord
  dsimp only
  rw [State.refreshFault_get_ne _ _ h1]
  have k2 : ∀ u : State, u.dirtyCfg.get g = u.get g := fun u => State.get_put_ne _ _ _ _ h2
  have k3 : ∀ u : State, (u.setOpt (wignOf a)).get g = u.get g := by
    intro u; unfold State.setOpt; split
    · rename_i w hw; exact State.get_put_ne _ _ _ _ (h3 w hw)
    · rfl
  split_ifs <;> (try rw [k3]) <;> (try rw [k2]) <;> exact key _ _ _ h

theorem fault_get_ne (s : State) (f g : Fld) (h : g.key ≠ f.key) (h1 : g.key ≠ Reg.GLB_STAT.NFAULT.key)
    (h2 : g.key ≠ Reg.GLB_IRQ.FAULT.key) : (s.fault f).get g = s.get g := by
  unfold fault
  rw [refreshFault_get_ne _ _ h1, raise_get_ne _ _ _ h2, get_put_ne _ _ _ _ h]

end Sys2Proof.Machine.State

namespace Sys2Proof.Machine

/-- A meaning that completes answers a next state. -/
@[simp] theorem done_eq (s : State) : done s = .next s.settle := rfl

theorem live_awake {s : State} (h : s.awake = true) (f : State → Host.Outcome State Fault Refusal) : live s f = f s := by
  simp [live, h]

theorem liveActive_active {s : State} (h : s.active = true) (f : State → Host.Outcome State Fault Refusal) : liveActive s f = f s := by
  simp [liveActive, h]

end Sys2Proof.Machine
end

