-- ==== Sys2Proof/WellFormed.lean ====
section
/-! DEFINITION. Well-formed commands: operands that the spec's interfaces can carry. A meaning is total and does not ask for this. -/

namespace Sys2Proof

/-- The operands of a command fit the interface that carries it: register addresses are word addresses (chapter 00), blocks are those of
Table 16.11, host requests keep to whole words and to the sizes of Table 15.1, frames and packets keep to the sizes of Tables 02.5, 09.1,
12.6 and 15.6. Every other operand is held to its range by its type. -/
def Instr.wf : Instr → Bool
  | .registerWrite a _ => a.toNat % 4 = 0
  | .wcpFirstWord a _ => a.toNat % 4 = 0
  | .wcpComplementWord a _ => a.toNat % 4 = 0
  | .votedRegisterRead a => a.toNat % 4 = 0
  | .irqFlagClear a _ => a.toNat % 4 = 0
  | .blockCounterClear a _ => a.toNat % 4 = 0
  | .wpWriteTakesEffect b => b.val < 15
  | .wcpPairTimeout b => b.val < 15
  | .hostRead _ b a n _ _ _ => a.val % 4 = 0 && 1 ≤ n && n ≤ 128 && (b.val = 0 || a.val < 0x400000)
  | .hostPostedWrite b a d _ _ => a.val % 4 = 0 && d.length % 4 = 0 && 4 ≤ d.length && d.length ≤ 256 && (b.val = 0 || a.val < 0x400000)
  | .stackWriteReceived _ p _ => p.length ≤ 2108
  | .stackReadReceived _ p _ => p.length ≤ 2108
  | .stackCompletionReceived _ p => p.length ≤ 2108
  | .stackFrameReceived _ p => p.length ≤ 2108
  | .stackMsgReceived _ p => p.length ≤ 2108
  | .stackLockReceived _ p => p.length ≤ 2108
  | .processImageHostWrite o d => o.val + d.length ≤ 0x40000
  | .loadWindowWrite o d => o.val + d.length ≤ 0x80000
  | .pcieLinkChange up _ w => !up || w.val ≠ 0
  | _ => true

end Sys2Proof
end

