-- ==== Sys2Proof/Tests/Slice0.lean ====
section
/-! SUPPORT. Tests: commands that are not well formed, single steps checked by hand against the spec, and for every statement with
hypotheses a state and operands that meet them. -/

namespace Sys2Proof.Tests

set_option maxRecDepth 4000
set_option Elab.async false
set_option linter.unusedVariables false

open Sys2Proof Sys2Proof.Machine

/-- The state after reset of a node whose UID is 7. -/
def named : State := { State.reset with regs := (Reg.GLB_UIDHI.UID.key, 0) :: (Reg.GLB_UIDLO.UID.key, 7) :: State.reset.regs }

/-- Lane 0 in the state of the code `k`. -/
def laneIn (k : Nat) : State := named.put (Reg.LANE_STAT.STATE.at 0) k

/-- A received frame with its bytes and stage. -/
def rxOf (b : Bytes) (t : RxStage := .open_) : RxFrame := { bytes := b, stage := t }

/-- A MGMT frame of the type `t` with `n` payload bytes. -/
def mgmtFrame (t n : Nat) : Bytes := mkFrame { cls := .mgmt, type := t } (List.replicate n 0)

/-- Lane 0 ACTIVE, with the frame received so far and the frame preempted. -/
def rxAt (a b : Option RxFrame) : State := (laneIn 6).onLane 0 fun l => { l with rx := a, rxHeld := b }

/-- Lane 0 ACTIVE with one complete frame queued in class TT. -/
def txQueued : State :=
  { ((laneIn 6).onLane 0 fun l => { l with qx := [⟨1, false, false⟩] }) with
    fab.frames := [{ fid := 1, ingress := 11, cls := .tt, bytes := mkFrame { cls := .tt, type := 1 } [0, 0, 0, 0], complete := true }] }

/-- A roster of this node alone, in force, with its cycle running. -/
def aloneHeld : Held :=
  { roster := { tiUid := 1, tiLin := 1, gen := 1, sticky := false, loop := false, mode := 0, leader := 1, timeref := 1, loophead := 0,
                cycle := 4, guard_ := 100, nexcl := 0, entries := [⟨7, 1, 1, 0, 100⟩] }
    nb1 := none, nb2 := none, sum := 0, leadConf := false, leadNotAdm := false, joining := false, anchor := 0, inW := true, m := 1,
    collided := false, tiChanged := false, coldStart := false }
def alone : State :=
  { ((named.put Reg.INAU_GEN.GEN 1).put Reg.INAU_POS.POS 1) with inau.force := some aloneHeld, cycRun := true, bnd := 0, cyc := 5 }

/-- WAVE and RSUM frames of round 5 started by node 7. -/
def startFrame : Bytes := mkFrame { cls := .mgmt, type := 0x11 } (startPayload { rnd := 5, starter := 7, cold := true, ocyc := 0 })
def countFrame : Bytes := mkFrame { cls := .mgmt, type := 0x11 }
  (countPayload { rnd := 5, starter := 7, cold := true, ocyc := 0 } false true false 7 0 1 1 [.ident .null, .entry ⟨7, 0, 0, 0, 0⟩])
def rsumFrame (k : Nat) : Bytes := mkFrame { cls := .mgmt, type := 0x12 } (rsumPayload k true 5 0 1 0 0 7 0 0 0 0)

/-- A node between two others that holds both waves of round 5. -/
def lineSeg (e : Nat) : Seg := State.parseSeg (payload (mkFrame { cls := .mgmt, type := 0x11 }
  (countPayload { rnd := 5, starter := 7, cold := true, ocyc := 0 } false true false (7 + e) 0 1 1 [.ident .null, .entry ⟨7 + e, 0, 0, 64 * 0, 100⟩]))) e
def computing : State :=
  { ((named.onEnd 0 fun v => { v with working := true }).onEnd 1 fun v => { v with working := true }) with
    inau.round := some { rnd := 5, starter := 7, cold := true, ocyc := 0, phase := .compute, segs := [lineSeg 0, lineSeg 1] } }

/-- A roster of this node and another, in force. -/
def twoHeld : Held := { aloneHeld with roster := { aloneHeld.roster with entries := [⟨3, 2, 1, 0, 100⟩, ⟨7, 1, 1, 0, 100⟩, ⟨9, 3, 1, 0, 100⟩] } }

/-- An enabled TT subscription row. -/
def subRow : Bytes := [0, 0, 0, 0, 0, 0, 0, 9, 0, 1, 0x80, 5, 0, 4, 0, 1]

/-- A mode announcement of this node as leader, mode 0. -/
def modeFrame : Bytes := mkFrame { cls := .mgmt, type := 0x04, src := 1, gen := 1 }
  (List.replicate 16 0 ++ natBe 2 0x50 ++ natBe 2 0 ++ natBe 2 16 ++ [0, 0] ++ [0, 0] ++ natBe 2 1 ++ natBe 4 0 ++ natBe 4 5 ++ natBe 4 0 ++ List.replicate 8 0)

/-- A time notice from the node at position `src`, of cycle `n`, with `s` seconds and σ announced for cycle `c`. -/
def timeFrame (src n s c : Nat) : Bytes := mkFrame { cls := .mgmt, type := 0x04, src := src, gen := if src = 9 then 7 else 1 }
  (List.replicate 16 0 ++ natBe 2 0x51 ++ natBe 2 0 ++ natBe 2 48 ++ [0, 0] ++ natBe 4 n ++ natBe 6 s ++ natBe 4 0 ++ [0, 0] ++ natBe 4 0 ++ natBe 4 0 ++ natBe 4 c ++ List.replicate 20 0)

/-- Port 0 up with a frame on the wire. -/
def ethTx : PTx := { item := { q := 7, fid := 1, bytes := withFcs (List.replicate 60 0) }, stamp := 0, from_ := 0 }
def ethSending : State := { named with ports := named.ports.setIfInBounds 0 { tx := some ethTx } }

/-- Frames being received on port 2: one with its latch alone, one with the buffers for its 68 bytes. -/
def ethIn : EthRx := { bytes := List.replicate 64 0, stamp := 0, dest := { mcore := true } }
def ethOpen : State := (named.put (Reg.CONS_STAT.LINK.at 2) 1).onPort 2 fun t => { t with rx := some ethIn }
def ethHeld : EthRx := { ethIn with fid := some 1 }
def ethFull : State :=
  { ((named.put (Reg.CONS_STAT.LINK.at 2) 1).onPort 2 fun t => { t with rx := some ethHeld }) with
    fab.frames := [{ fid := 1, ingress := 6, cls := .mgmt, bytes := [], complete := false, nSh := 1 }] }

/-- A descriptor of a whole 100-byte frame. -/
def txDesc : Bytes := natLe 8 0x1000 ++ natLe 2 100 ++ natLe 2 0 ++ natLe 4 0x60000000

/-- Task 0 of a valid image in RUN. -/
def running : State := { named.put Reg.CYCL_STAT.ESTATE 2 with prg.a.valid := true, eng.tasks := (Vector.replicate 4 {}).setIfInBounds 0 { run := true } }

/-- An enabled station entry on port 0 with 4 bytes in and 4 bytes out, and a telegram of station 4 from it. -/
def stationRow : Bytes := [0, 0, 0, 0, 0, 9, 0x80, 16, 0, 0, 0, 0, 1, 1, 0, 20] ++ List.replicate 16 0
def inFrame : Bytes := natBe 6 0x020000000007 ++ [0, 0, 0, 0, 0, 9] ++ [0x88, 0xB5] ++ telegram 2 4 0 0 0 0 [1, 2, 3, 4]
def inReady : State :=
  { ((named.put (Reg.CONS_STAT.LINK.at 0) 1).put (Reg.CONS_CTRL.IOEN.at 0) 1).put (Reg.CONS_IOETYPE.ETYPE.at 0) 0x88B5 with eng.stations := [(4, { entry := stationRow, state := 2 })] }
def outReady : State := { (alone.put Reg.TWIN_CLAIM.VALUE 1).put Reg.CYCL_STAT.ESTATE 2 with eng.stations := [(4, { entry := stationRow, state := 2 })] }

/-- A force of the byte 0x20000 in the data registers. -/
def forceReady : State := named.put Reg.FRC_D0.DATA 0x80020000 |>.put Reg.FRC_D1.DATA 0x81000000 |>.put Reg.FRC_D2.DATA 5

/-- A whole image: one NOT instance of task 0. -/
def imageBytes : Bytes :=
  let h (c : Nat) : Bytes := natBe 4 0x4C485047 ++ natBe 2 1 ++ natBe 2 2 ++ natBe 4 128 ++ natBe 4 7 ++ natBe 4 1 ++ natBe 4 0 ++ natBe 4 1 ++ natBe 4 0
    ++ natBe 4 0x01000000 ++ natBe 4 0 ++ natBe 4 c ++ List.replicate 20 0
  let t : Bytes := natBe 2 1 ++ natBe 2 0 ++ natBe 4 88 ++ natBe 4 4 ++ natBe 2 2 ++ natBe 2 0 ++ natBe 4 92 ++ natBe 4 16
    ++ natBe 4 0x04000001 ++ natBe 4 0x04000200 ++ natBe 4 0 ++ natBe 4 0x140 ++ natBe 4 0x10000 ++ List.replicate 20 0
  h (crc32 (h 0 ++ t)) ++ t
def goodImage : Memory := Memory.writeAll [] 0 imageBytes

/-- A twin half in twin operation with its twin-link frames. -/
def twin : State := named.put Reg.TWIN_STAT.TWON 1
def twinBytes (k : Nat) (pl : Bytes) : Bytes := let b := natBe 1 k ++ [0] ++ natBe 2 pl.length ++ natBe 2 0 ++ natBe 2 0 ++ pl; b ++ fcsBytes b
def hbPayload (fl claim : Nat) : Bytes := natBe 8 9 ++ [3] ++ natBe 1 fl ++ natBe 2 1 ++ natBe 4 claim ++ natBe 4 5 ++ natBe 4 0 ++ natBe 4 0 ++ natBe 2 0 ++ natBe 2 0
def hbEth : Bytes := natBe 6 0x020000000007 ++ natBe 6 0x020000000009 ++ natBe 2 0x88B6 ++ hbPayload 0 0x20000 ++ List.replicate 20 0
def twinHeld : State := (twin.put Reg.TWIN_CLAIM.VALUE 0x10000).put Reg.TWIN_STAT.TLOK 1
/-- A notice from position 1 in generation 1. -/
def noticeFrame (op : Nat) (p : Bytes) : Bytes := mkFrame { cls := .mgmt, type := 0x04, src := 1, gen := 1 } (List.replicate 16 0 ++ natBe 2 op ++ natBe 2 0 ++ natBe 2 16 ++ [0, 0] ++ p)

/-- A DUSK frame in generation 1 from position 3, and a node at position 2 between two others that receives it. -/
def duskFrame (m : DuskMsg) : Bytes := mkFrame { cls := .mgmt, type := 0x18, src := 3, gen := 1 } m.bytes
def duskNode : State :=
  { (((laneIn 6).put Reg.INAU_GEN.GEN 1).put Reg.INAU_POS.POS 2) with
    inau.force := some { aloneHeld with roster := { aloneHeld.roster with entries := [⟨3, 1, 1, 0, 100⟩, ⟨7, 2, 1, 0, 100⟩, ⟨9, 3, 1, 0, 100⟩] } }, cycRun := true, bnd := 0, cyc := 5, time.map := some (5, 0) }
/-- A node in DUSK-SLEEP. -/
def asleep : State := { named with power := .duskSleep }

/-- A host packet in slot 0. -/
def hostPk (op : Nat) (p : Bytes) : CmdSlot := { src := .host 0 0x1000 2048, packet := natBe 2 op ++ natBe 2 9 ++ natBe 2 p.length ++ [0, 0] ++ p, at_ := 0 }
def holding (s : State) (op : Nat) (p : Bytes) : State := { s with cmd.slots := [(0, hostPk op p)] }

/-- Windows in fabric byte order. -/
def plainBo : State := (((named.put Reg.BRDG_WIN.BO0 0).put Reg.BRDG_WIN.BO1 0).put Reg.BRDG_WIN.BO2 0).put Reg.BRDG_WIN.BO3 0
/-- The master of a stack with member 1 below, and a far operation on it. -/
def brdgUp : State := ((plainBo.put Reg.BRDG_CTRL.EN 1).put Reg.BRDG_STACK.PRESENT 1).put Reg.BRDG_SPDN.STATE 6
def farRead : FarOp := { id := 4, tag := 3, src := 0, member := 1, addr := 0xB80000, len := 8, arrival := 0, until_ := 900, win := 2 }
/-- Member 2 of a stack, both ports ACTIVE, and a stack packet with its CRC. -/
def member : State := ((named.put Reg.BRDG_STAT.STACKID 2).put Reg.BRDG_SPUP.STATE 6).put Reg.BRDG_SPDN.STATE 6
/-- A roster is in force and lane 0 is up. -/
def rosterUp : State := duskNode.put Reg.FWD_CTRL.EN 1
/-- A remote frame of the type `t` with version `v` around a packet, of cycle 5, from position 3, without a signature. -/
def cmdFrame (t v : Nat) (p : Bytes) : Bytes :=
  mkFrame { cls := .mgmt, type := t, src := 3, gen := 1, seq := 5 * 256 + 1 } (natBe 1 v ++ [0xFF, 0, 0] ++ natBe 4 5 ++ natBe 8 9 ++ p ++ List.replicate 8 0)
/-- A pool without free buffers. -/
def poolFull : State := { member with fab.frames := [{ fid := 9, ingress := 9, cls := .tt, bytes := [], complete := false, nRes := 16384, nSh := 16384 }] }
/-- A MIDN frame of Midnight 1 requested by node 9. -/
def midnFrame : Bytes := mkFrame { cls := .mgmt, type := 0x19, src := 3, gen := 1 } (midnPayload 1 9 (16000000000 * 5))

/-! Commands that are not well formed, one for each check of Instr.wf. -/

theorem test_registerWrite_illFormed : Instr.wf (.registerWrite 2 0) = false := by decide
theorem test_wcpFirstWord_illFormed : Instr.wf (.wcpFirstWord 0xD0011 0) = false := by decide
theorem test_wcpComplementWord_illFormed : Instr.wf (.wcpComplementWord 0xD0013 0) = false := by decide
theorem test_votedRegisterRead_illFormed : Instr.wf (.votedRegisterRead 6) = false := by decide
theorem test_irqFlagClear_illFormed : Instr.wf (.irqFlagClear 1 0) = false := by decide
theorem test_blockCounterClear_illFormed : Instr.wf (.blockCounterClear 3 0) = false := by decide
theorem test_wpWriteTakesEffect_illFormed : Instr.wf (.wpWriteTakesEffect 15) = false := by decide
theorem test_wcpPairTimeout_illFormed : Instr.wf (.wcpPairTimeout 15) = false := by decide
theorem test_hostRead_unaligned_illFormed : Instr.wf (.hostRead 0 0 2 1 15 15 false) = false := by decide
theorem test_hostRead_empty_illFormed : Instr.wf (.hostRead 0 0 0 0 15 15 false) = false := by decide
theorem test_hostRead_long_illFormed : Instr.wf (.hostRead 0 0 0 129 15 15 false) = false := by decide
theorem test_hostRead_bar1_illFormed : Instr.wf (.hostRead 0 1 0x400000 1 15 15 false) = false := by decide
theorem test_hostPostedWrite_words_illFormed : Instr.wf (.hostPostedWrite 0 0 [1, 2, 3] 15 15) = false := by decide
theorem test_hostPostedWrite_long_illFormed : Instr.wf (.hostPostedWrite 0 0 (List.replicate 260 0) 15 15) = false := by decide
theorem test_hostPostedWrite_bar1_illFormed : Instr.wf (.hostPostedWrite 1 0x400000 [1, 2, 3, 4] 15 15) = false := by decide
theorem test_stackWriteReceived_illFormed : Instr.wf (.stackWriteReceived 0 (List.replicate 2109 0) false) = false := by decide +kernel
theorem test_stackReadReceived_illFormed : Instr.wf (.stackReadReceived 0 (List.replicate 2109 0) false) = false := by decide +kernel
theorem test_stackCompletionReceived_illFormed : Instr.wf (.stackCompletionReceived 0 (List.replicate 2109 0)) = false := by decide +kernel
theorem test_stackFrameReceived_illFormed : Instr.wf (.stackFrameReceived 0 (List.replicate 2109 0)) = false := by decide +kernel
theorem test_stackMsgReceived_illFormed : Instr.wf (.stackMsgReceived 0 (List.replicate 2109 0)) = false := by decide +kernel
theorem test_stackLockReceived_illFormed : Instr.wf (.stackLockReceived 0 (List.replicate 2109 0)) = false := by decide +kernel
theorem test_processImageHostWrite_illFormed : Instr.wf (.processImageHostWrite 0x3FFFF [1, 2]) = false := by decide
theorem test_loadWindowWrite_illFormed : Instr.wf (.loadWindowWrite 0x7FFFF [1, 2]) = false := by decide
theorem test_pcieLinkChange_illFormed : Instr.wf (.pcieLinkChange true 1 0) = false := by decide

/-! Values worked out by hand from the spec's own words. -/

/-- Table 02.3: IDLE keeps the running disparity, so the line may rest on it (R37). -/
theorem test_idle_keeps_disparity : (encodeChars false idleSet).2 = false ∧ (encodeChars true idleSet).2 = true := by decide +kernel

/-- R40: the CHECK byte of a TS1 of line B at end 1 that has nothing to report. -/
theorem test_trainingSet_check : (trainingSet false false false 1 1).map LineChar.byte = [0x3C, 0x4A, 0x30, 0, 0, 0, 0, 0x7A] := by decide

/-- Table 02.3: a CR of F = 5 is K28.4, F twice and its complement (R37, R39). -/
theorem test_creditReturn_chars : (Out.chars (.cr 2 5)).map (fun x => x.2.map LineChar.byte) = some [0x9C, 5, 5, 0xFA] := by decide

/-- R191: train time wraps at 2^48 s. -/
theorem test_trainTime_wraps : secNs (2 ^ 48 * 16000000000 + 32) = (0, 2) := by decide +kernel

theorem witness_PostedWrites_1a : let a : Word := 0xA0010; let v : Word := 5; let s : State := State.reset; s.awake = true ∧ isWp a.toNat = true ∧ s.busyAt a.toNat = false := by
  repeat' with_reducible apply And.intro
  all_goals first | with_reducible rfl | decide +kernel

theorem witness_PostedWrites_1b : let a : Word := 0x30080; let v : Word := 0xFFFFFFFF; let s : State := State.reset; s.awake = true ∧ isWp a.toNat = true ∧ s.busyAt a.toNat = false := by
  repeat' with_reducible apply And.intro
  all_goals first | with_reducible rfl | decide +kernel

theorem witness_PostedWrites_2a : let a : Word := 0xA0010; let v : Word := 5; let s : State := State.reset.put Reg.REST_STAT.BUSY 1; let g : Fld := Reg.REST_STAT.WIGN; s.awake = true ∧ isWp a.toNat = true ∧ s.busyAt a.toNat = true ∧ wignOf a.toNat = some g := by
  repeat' with_reducible apply And.intro
  all_goals first | with_reducible rfl | decide +kernel

theorem witness_PostedWrites_3a : let w : Nat := 5; let rest : List (Nat × Nat) := []; let s : State := { State.reset with glb.posted := [(0xA0010, 5)] }; s.awake = true ∧ s.glb.posted = (0xA0010, w) :: rest := by
  repeat' with_reducible apply And.intro
  all_goals first | with_reducible rfl | decide +kernel

theorem witness_PostedWrites_4a : let b : Fin 16 := 10; let p : Nat × Nat := (0xA0010, 5); let s : State := { State.reset with glb.posted := [(0xA0010, 5)] }; s.awake = true ∧ s.glb.posted.find? (fun p => p.1 / 0x10000 = b.val) = some p := by
  repeat' with_reducible apply And.intro
  all_goals first | with_reducible rfl | decide +kernel

theorem witness_PostedWrites_5a : let b : Fin 16 := 10; let s : State := State.reset; s.awake = true ∧ s.glb.posted.find? (fun p => p.1 / 0x10000 = b.val) = none := by
  repeat' with_reducible apply And.intro
  all_goals first | with_reducible rfl | decide +kernel

theorem witness_PostedWrites_6a : let a : Word := 0x40000; let v : Word := 5; let s : State := State.reset; s.awake = true := by
  decide +kernel

theorem witness_AccessCodes_1a : let v : Word := 0; let s : State := State.reset; s.awake = true ∧ s.flag Reg.SCHD_CTRL.EN = true ∧ (s.get Reg.SCHD_CFG.CYCLE ≠ Reg.SCHD_CFG.CYCLE.of v.toNat ∨ s.get Reg.SCHD_CFG.GUARD ≠ Reg.SCHD_CFG.GUARD.of v.toNat) := by
  repeat' with_reducible apply And.intro
  all_goals first | with_reducible rfl | decide +kernel

theorem witness_AccessCodes_2a : let v : Word := 0x040000C8; let s : State := State.reset; s.awake = true ∧ s.get Reg.SCHD_CFG.CYCLE = Reg.SCHD_CFG.CYCLE.of v.toNat ∧ s.get Reg.SCHD_CFG.GUARD = Reg.SCHD_CFG.GUARD.of v.toNat := by
  repeat' with_reducible apply And.intro
  all_goals first | with_reducible rfl | decide +kernel

theorem witness_AccessCodes_3a : let v : Word := 0xFFFFFFFF; let s : State := State.reset.put Reg.SCHD_CTRL.EN 0; s.awake = true ∧ s.flag Reg.SCHD_CTRL.EN = false := by
  repeat' with_reducible apply And.intro
  all_goals first | with_reducible rfl | decide +kernel

theorem witness_AccessCodes_4a : let v : Word := 0xFFFFFFFF; let s : State := State.reset; let f : Fld := Reg.SCHD_SELF.SEQ; s.awake = true ∧ f.key ≠ Reg.GLB_STAT.NFAULT.key ∧ f.key ≠ Reg.CMD_IRQ.CPL.key := by
  repeat' with_reducible apply And.intro
  all_goals first | with_reducible rfl | decide +kernel

theorem witness_WriteConfirmPairs_1a : let a : Word := 0xD0010; let v : Word := 0xA501; let s : State := State.reset; s.awake = true ∧ isWcp a.toNat = true ∧ s.pairOf (a.toNat / 0x10000) = none := by
  repeat' with_reducible apply And.intro
  all_goals first | with_reducible rfl | decide +kernel

theorem witness_WriteConfirmPairs_2a : let a : Word := 0xD0010; let v : Word := 0xA501; let p : Nat × Nat × Nat := (0xD0010, 1, 5); let s : State := { State.reset with glb.pairs := [(0xD0010, 1, 5)] }; let g : Fld := Reg.CMD_STAT.CPERR; s.awake = true ∧ isWcp a.toNat = true ∧ s.pairOf (a.toNat / 0x10000) = some p ∧ cperrOf (a.toNat / 0x10000 * 0x10000) = some g := by
  repeat' with_reducible apply And.intro
  all_goals first | with_reducible rfl | decide +kernel

theorem witness_WriteConfirmPairs_3a : let w : Nat := 0xA501; let d : Nat := 5; let c : Word := 0xFFFF5AFE; let rest : List (Nat × Nat × Nat) := []; let s : State := { State.reset with glb.pairs := [(0xD0010, 0xA501, 5)] }; s.awake = true ∧ s.glb.pairs = (0xD0010, w, d) :: rest ∧ w + c.toNat = 0xFFFFFFFF ∧ s.now ≤ d ∧ w / 256 % 256 = 0xA5 ∧ rest.all (fun p => p.1 / 0x10000 ≠ 0xD) = true := by
  repeat' with_reducible apply And.intro
  all_goals first | with_reducible rfl | decide +kernel

theorem witness_WriteConfirmPairs_4a : let a : Word := 0xD0810; let v : Word := 1; let s : State := { State.reset with glb.pairs := [(0xD0010, 1, 5)] }; let g : Fld := Reg.CMD_STAT.CPERR; s.awake = true ∧ isWcp (a.toNat - 0x800) = true ∧ cperrOf ((a.toNat - 0x800) / 0x10000 * 0x10000) = some g ∧ (∀ p, s.pairOf ((a.toNat - 0x800) / 0x10000) = some p → ¬ (p.1 = a.toNat - 0x800 ∧ p.2.1 + v.toNat = 0xFFFFFFFF ∧ s.now ≤ p.2.2)) := by
  repeat' with_reducible apply And.intro
  all_goals first | with_reducible rfl | decide +kernel

theorem witness_WriteConfirmPairs_5a : let b : Fin 16 := 13; let p : Nat × Nat × Nat := (0xD0010, 1, 5); let s : State := { State.reset with glb.pairs := [(0xD0010, 1, 5)] }; let g : Fld := Reg.CMD_STAT.CPERR; s.awake = true ∧ s.pairOf b.val = some p ∧ cperrOf (b.val * 0x10000) = some g := by
  repeat' with_reducible apply And.intro
  all_goals first | with_reducible rfl | decide +kernel

theorem witness_WriteConfirmPairs_6a : let a : Word := 0x814; let v : Word := 0xFFFFFFFD; let p : Nat × Nat × Nat := (0x14, 2, 5); let s : State := { State.reset with glb.pairs := [(0x14, 2, 5)] }; s.awake = true ∧ isWcp (a.toNat - 0x800) = true ∧ s.pairOf ((a.toNat - 0x800) / 0x10000) = some p ∧ p.1 = a.toNat - 0x800 ∧ p.2.1 + v.toNat = 0xFFFFFFFF ∧ s.now ≤ p.2.2 := by
  repeat' with_reducible apply And.intro
  all_goals first | with_reducible rfl | decide +kernel

theorem witness_WriteConfirmPairs_7a : let b : Fin 16 := 13; let s : State := State.reset; s.awake = true ∧ s.pairOf b.val = none := by
  repeat' with_reducible apply And.intro
  all_goals first | with_reducible rfl | decide +kernel

theorem witness_WriteConfirmPairs_8a : let a : Word := 0x40000; let v : Word := 5; let s : State := State.reset; s.awake = true := by
  decide +kernel

theorem witness_VotedReads_2a : let n : Nat := 0x1101F0; let s : State := State.reset; s.awake = true ∧ s.glb.auth = ⟨n, n, n⟩ := by
  repeat' with_reducible apply And.intro
  all_goals first | with_reducible rfl | decide +kernel

theorem witness_VotedReads_3a : let n : Nat := 0x15; let m : Nat := 4; let s : State := { State.reset with glb.emc := ⟨0x15, 4, 0x15⟩ }; s.awake = true ∧ s.glb.emc = ⟨n, m, n⟩ ∧ m ≠ n ∧ s.get Reg.GLB_RWVCNT.COUNT < 0xFFFFFFFF := by
  repeat' with_reducible apply And.intro
  all_goals first | with_reducible rfl | decide +kernel

theorem witness_VotedReads_4a : let a : Word := 0x100; let v : Voted := ⟨2, 2, 0⟩; let m : Nat := 2; let s : State := { State.reset with glb.pace := ⟨2, 2, 0⟩ }; s.awake = true ∧ s.votedAt a.toNat = some v ∧ (v = ⟨m, m, v.c2⟩ ∨ v = ⟨m, v.c1, m⟩ ∨ v = ⟨v.c0, m, m⟩) ∧ v ≠ ⟨m, m, m⟩ := by
  repeat' with_reducible apply And.intro
  all_goals first | with_reducible rfl | decide +kernel

theorem witness_VotedReads_5a : let a : Word := 0x104; let s : State := State.reset; s.awake = true ∧ s.votedAt a.toNat = none := by
  repeat' with_reducible apply And.intro
  all_goals first | with_reducible rfl | decide +kernel

theorem witness_VotedReads_6a : let a : Word := 0x108; let v : Voted := ⟨1, 2, 3⟩; let s : State := { named with glb.emc := ⟨1, 2, 3⟩ }; s.awake = true ∧ s.votedAt a.toNat = some v ∧ v.c0 ≠ v.c1 ∧ v.c1 ≠ v.c2 ∧ v.c0 ≠ v.c2 := by
  repeat' with_reducible apply And.intro
  all_goals first | with_reducible rfl | decide +kernel

theorem witness_VotedReads_7a : let a : Word := 0xD000C; let v : Voted := ⟨1, 1, 3⟩; let s : State := { named with glb.auth := ⟨1, 1, 3⟩ }; s.awake = true ∧ s.votedAt a.toNat = some v ∧ v ≠ ⟨v.c0, v.c0, v.c0⟩ ∧ s.onceSec.contains (0x0F03, a.toNat, s.opSec) = false := by
  repeat' with_reducible apply And.intro
  all_goals first | with_reducible rfl | decide +kernel

theorem witness_VotedReads_8a : let a : Word := 0xD000C; let v : Voted := ⟨1, 1, 3⟩; let s : State := { named with glb.auth := ⟨1, 1, 3⟩, onceSec := [(0x0F03, 0xD000C, named.opSec)] }; s.awake = true ∧ s.votedAt a.toNat = some v ∧ s.onceSec.contains (0x0F03, a.toNat, s.opSec) = true := by
  repeat' with_reducible apply And.intro
  all_goals first | with_reducible rfl | decide +kernel

theorem witness_FlagAndCounterClears_1a : let v : Word := 0xFFFFFFFF; let s : State := State.reset.put Reg.SCHD_IRQ.GATE 1; let f : Fld := Reg.SCHD_IRQ.GATE; s.awake = true ∧ f ∈ fieldsAt 0x30028 ∧ (f.of v.toNat ≠ 0 → f.acc = .w1c) := by
  repeat' with_reducible apply And.intro
  all_goals first | with_reducible rfl | decide +kernel

theorem witness_FlagAndCounterClears_2a : let v : Word := 1; let s : State := State.reset; let f : Fld := Reg.SCHD_POLEARLY.COUNT; s.awake = true ∧ bit v.toNat 0 = true ∧ f ∈ [Reg.SCHD_POLEARLY.COUNT, Reg.SCHD_POLLATE.COUNT, Reg.SCHD_NOWIN.COUNT, Reg.SCHD_NOCORR.COUNT, Reg.SCHD_STALE.COUNT, Reg.SCHD_SILENT.COUNT, Reg.SCHD_GATE.COUNT, Reg.SCHD_PUBSKIP.COUNT, Reg.SCHD_SUBLEN.COUNT, Reg.SCHD_SUBSTALE.COUNT] := by
  repeat' with_reducible apply And.intro
  all_goals first | with_reducible rfl | decide +kernel

theorem witness_FlagAndCounterClears_2b : let v : Word := 1; let s : State := State.reset; let f : Fld := Reg.SCHD_SUBSTALE.COUNT; s.awake = true ∧ bit v.toNat 0 = true ∧ f ∈ [Reg.SCHD_POLEARLY.COUNT, Reg.SCHD_POLLATE.COUNT, Reg.SCHD_NOWIN.COUNT, Reg.SCHD_NOCORR.COUNT, Reg.SCHD_STALE.COUNT, Reg.SCHD_SILENT.COUNT, Reg.SCHD_GATE.COUNT, Reg.SCHD_PUBSKIP.COUNT, Reg.SCHD_SUBLEN.COUNT, Reg.SCHD_SUBSTALE.COUNT] := by
  repeat' with_reducible apply And.intro
  all_goals first | with_reducible rfl | decide +kernel

theorem witness_FlagAndCounterClears_3a : let v : Word := 1; let s : State := State.reset; let f : Fld := Reg.LANE_CTRL.EN.at 0; s.awake = true ∧ sameSpace (f.key / 32) 0x300DC = false ∧ f.key ≠ Reg.GLB_STAT.NFAULT.key ∧ f.key ≠ Reg.CMD_IRQ.CPL.key := by
  repeat' with_reducible apply And.intro
  all_goals first | with_reducible rfl | decide +kernel

theorem witness_FlagAndCounterClears_4a : let a : Word := 0x300DC; let v : Word := 0; let s : State := State.reset; s.awake = true ∧ bit v.toNat 0 = false := by
  repeat' with_reducible apply And.intro
  all_goals first | with_reducible rfl | decide +kernel

theorem witness_FlagAndCounterClears_5a : let v : Fin 64 := 63; let s : State := State.reset; s.active = true ∧ s.msix.pba.contains v.val = false := by
  repeat' with_reducible apply And.intro
  all_goals first | with_reducible rfl | decide +kernel

theorem witness_FlagAndCounterClears_6a : let a : Word := 0x20; let v : Word := 1; let s : State := State.reset; s.awake = true := by
  decide +kernel

theorem witness_FlagAndCounterClears_7a : let a : Word := 0x1007C; let v : Word := 1; let s : State := State.reset; s.awake = true ∧ bit v.toNat 0 = true := by
  repeat' with_reducible apply And.intro
  all_goals first | with_reducible rfl | decide +kernel

theorem witness_FlagAndCounterClears_8a : let v : Fin 64 := 0; let s : State := { State.reset with msix.pba := [0] }; s.active = true := by
  decide +kernel

theorem witness_CommandRings_1a : let s : State := State.reset; s.active = true ∧ s.flag Reg.CMD_CTRL.EN = false := by
  repeat' with_reducible apply And.intro
  all_goals first | with_reducible rfl | decide +kernel

theorem witness_CommandRings_2a : let s : State := State.reset.put Reg.CMD_CTRL.EN 1; s.active = true := by
  decide +kernel

theorem witness_CommandRings_3a : let s : State := State.reset; s.active = true ∧ s.cmd.slots = [] ∧ s.cfgBest = none := by
  repeat' with_reducible apply And.intro
  all_goals first | with_reducible rfl | decide +kernel

theorem witness_CommandRings_4a : let v : Word := 0xA501; let s : State := State.reset; s.awake = true := by
  decide +kernel

theorem witness_CommandRings_5a : let m : Nat := 1; let a : Nat := 0; let s : State := { State.reset with cmd.arm := some (1, 0) }; s.awake = true ∧ s.cmd.arm = some (m, a) := by
  repeat' with_reducible apply And.intro
  all_goals first | with_reducible rfl | decide +kernel

theorem witness_CommandRings_6a : let v : Word := 3; let s : State := State.reset; s.active = true := by
  decide +kernel

theorem witness_CommandRings_7a : let s : State := State.reset; s.active = true := by
  decide +kernel

theorem witness_CommandRings_8a : let s : State := State.reset; s.awake = true ∧ s.cmd.arm = none := by
  repeat' with_reducible apply And.intro
  all_goals first | with_reducible rfl | decide +kernel

theorem witness_LaneTraining_1a : let n : Lane := 3; let s : State := { State.reset.put (Reg.LANE_STAT.STATE.at 3) 1 with hkp.cals := State.reset.hkp.cals.setIfInBounds 3 { result := some 0 } }; s.awake = true ∧ s.laneSt n = .down ∧ (s.cal n).result.isSome = true := by
  repeat' with_reducible apply And.intro
  all_goals first | with_reducible rfl | decide +kernel

theorem witness_LaneTraining_2a : let n : Lane := 3; let s : State := State.reset.put (Reg.LANE_STAT.STATE.at 3) 2; s.awake = true ∧ s.laneSt n = .detect := by
  repeat' with_reducible apply And.intro
  all_goals first | with_reducible rfl | decide +kernel

theorem witness_LaneTraining_3a : let n : Lane := 3; let s : State := State.reset.put (Reg.LANE_STAT.STATE.at 3) 2; s.awake = true ∧ s.laneSt n = .detect := by
  repeat' with_reducible apply And.intro
  all_goals first | with_reducible rfl | decide +kernel

theorem witness_LaneTraining_4a : let n : Lane := 3; let i : Bool := false; let c : Bytes := [0x4A, 0, 0, 0, 0, 0, 0x4A]; let s : State := State.reset.put (Reg.LANE_STAT.STATE.at 3) 3; s.awake = true ∧ State.tsOk c = true ∧ s.laneSt n = .align := by
  repeat' with_reducible apply And.intro
  all_goals first | with_reducible rfl | decide +kernel

theorem witness_LaneTraining_4b : let n : Lane := 3; let i : Bool := false; let c : Bytes := [0x4A, 0, 0, 0, 0, 0, 0x4A]; let s : State := (State.reset.put (Reg.LANE_STAT.STATE.at 3) 3).onLane 3 fun l => { l with tsRun := 31 }; s.awake = true ∧ State.tsOk c = true ∧ s.laneSt n = .align := by
  repeat' with_reducible apply And.intro
  all_goals first | with_reducible rfl | decide +kernel

theorem witness_LaneTraining_5a : let n : Lane := 3; let l : TsLine := ⟨2, false⟩; let c : Bytes := []; let s : State := State.reset; s.awake = true ∧ (decide (l.errors = 0) && State.tsOk c) = false ∧ (s.laneUp n && decide (64 < max 1 l.errors + (((s.lane n).errs.filter fun e => s.now - e.1 ≤ us 100).map (·.2)).sum)) = false := by
  repeat' with_reducible apply And.intro
  all_goals first | with_reducible rfl | decide +kernel

theorem witness_LaneTraining_6a : let n : Lane := 3; let e : Nat := 9; let d1 : Byte := 255; let d2 : Byte := 1; let d3 : Byte := 2; let s : State := (State.reset.put (Reg.LANE_STAT.STATE.at 3) 4).put (Reg.LANE_RXCFG.DFE_EN.at 3) 1; s.awake = true ∧ s.laneSt n = .eq ∧ (s.lane n).peerEq = false ∧ s.flag (Reg.LANE_RXCFG.CTLE_AUTO.at n) = true ∧ s.flag (Reg.LANE_RXCFG.DFE_EN.at n) = true := by
  repeat' with_reducible apply And.intro
  all_goals first | with_reducible rfl | decide +kernel

theorem witness_LaneTraining_7a : let n : Lane := 3; let e : Nat := 9; let d1 : Byte := 255; let d2 : Byte := 1; let d3 : Byte := 2; let s : State := (State.reset.put (Reg.LANE_STAT.STATE.at 3) 4).onLane 3 fun l => { l with peerEq := true }; s.awake = true ∧ s.laneSt n = .eq ∧ (s.lane n).peerEq = true := by
  repeat' with_reducible apply And.intro
  all_goals first | with_reducible rfl | decide +kernel

theorem witness_LaneTraining_8a : let n : Lane := 3; let s : State := State.reset.put (Reg.LANE_STAT.STATE.at 3) 3; s.awake = true ∧ (s.laneSt n = .align ∨ s.laneSt n = .eq ∨ s.laneSt n = .confirm) ∧ s.flag (Reg.LANE_CTRL.EN.at n) = true := by
  repeat' with_reducible apply And.intro
  all_goals first | with_reducible rfl | decide +kernel

theorem witness_LaneTraining_8b : let n : Lane := 3; let s : State := State.reset.put (Reg.LANE_STAT.STATE.at 3) 5; s.awake = true ∧ (s.laneSt n = .align ∨ s.laneSt n = .eq ∨ s.laneSt n = .confirm) ∧ s.flag (Reg.LANE_CTRL.EN.at n) = true := by
  repeat' with_reducible apply And.intro
  all_goals first | with_reducible rfl | decide +kernel

theorem witness_LaneTraining_9a : let n : Lane := 3; let s : State := State.reset.put (Reg.LANE_STAT.STATE.at 3) 1; s.awake = true ∧ (s.laneSt n = .down → (s.cal n).result = none) := by
  repeat' with_reducible apply And.intro
  all_goals first | with_reducible rfl | decide +kernel

theorem witness_LaneTraining_10a : let n : Lane := 3; let s : State := State.reset.put (Reg.LANE_STAT.STATE.at 3) 1; s.awake = true ∧ s.laneSt n ≠ .detect := by
  repeat' with_reducible apply And.intro
  all_goals first | with_reducible rfl | decide +kernel

theorem witness_LaneTraining_11a : let n : Lane := 3; let c : Bytes := [0x4A, 0x80, 0, 0, 0, 0, 0xCA]; let s : State := (State.reset.put (Reg.LANE_STAT.STATE.at 3) 4).put (Reg.LANE_STAT.EQDONE.at 3) 1; s.awake = true ∧ State.tsOk c = true ∧ s.laneSt n = .eq ∧ byteAt c 0 = 0x4A ∧ bit (byteAt c 1) 7 = true ∧ s.flag (Reg.LANE_STAT.EQDONE.at n) = true := by
  repeat' with_reducible apply And.intro
  all_goals first | with_reducible rfl | decide +kernel

theorem witness_LaneTraining_12a : let n : Lane := 3; let c : Bytes := [0x45, 0x40, 0, 0, 0, 0, 0x05]; let s : State := (State.reset.put (Reg.LANE_STAT.STATE.at 3) 5).onLane 3 fun l => { l with ts2Run := 15, ts2Sent := 16 }; s.awake = true ∧ State.tsOk c = true ∧ s.laneSt n = .confirm ∧ byteAt c 0 = 0x45 ∧ bit (byteAt c 1) 6 = true ∧ 15 ≤ (s.lane n).ts2Run ∧ 16 ≤ (s.lane n).ts2Sent ∧ s.flag (Reg.LANE_STAT.RX_EMPTY.at n) = true ∧ s.twinOn = false := by
  repeat' with_reducible apply And.intro
  all_goals first | with_reducible rfl | decide +kernel

theorem witness_LaneTraining_13a : let n : Lane := 3; let i : Bool := true; let c : Bytes := [0x4A, 0, 0, 0, 0, 0, 0x4A]; let s : State := State.reset.put (Reg.LANE_STAT.STATE.at 3) 6; s.awake = true ∧ State.tsOk c = true := by
  repeat' with_reducible apply And.intro
  all_goals first | with_reducible rfl | decide +kernel

theorem witness_LaneTraining_14a : let n : Lane := 3; let l : TsLine := ⟨2, false⟩; let c : Bytes := []; let s : State := State.reset.put (Reg.LANE_STAT.STATE.at 3) 6; s.awake = true ∧ (decide (l.errors = 0) && State.tsOk c) = false := by
  repeat' with_reducible apply And.intro
  all_goals first | with_reducible rfl | decide +kernel

theorem witness_LaneTraining_15a : let n : Lane := 3; let e : Nat := 9; let d1 : Byte := 255; let d2 : Byte := 1; let d3 : Byte := 2; let s : State := State.reset.put (Reg.LANE_STAT.STATE.at 3) 3; s.awake = true ∧ s.laneSt n ≠ .eq := by
  repeat' with_reducible apply And.intro
  all_goals first | with_reducible rfl | decide +kernel

theorem witness_LaneTraining_16a : let n : Lane := 3; let s : State := State.reset.put (Reg.LANE_STAT.STATE.at 3) 1; s.awake = true ∧ State.trainLimit (s.laneSt n) = none := by
  repeat' with_reducible apply And.intro
  all_goals first | with_reducible rfl | decide +kernel

theorem witness_LaneLosses_1a : let n : Lane := 0; let s : State := laneIn 6; s.awake = true ∧ s.laneUp n = true ∧ laneIdle s n = true ∧ noJoint s (endOf n) = true := by
  repeat' with_reducible apply And.intro
  all_goals first | with_reducible rfl | decide +kernel

theorem witness_LaneLosses_2a : let n : Lane := 0; let s : State := laneIn 6; s.awake = true ∧ s.laneUp n = true ∧ laneIdle s n = true ∧ noJoint s (endOf n) = true := by
  repeat' with_reducible apply And.intro
  all_goals first | with_reducible rfl | decide +kernel

theorem witness_LaneLosses_3a : let n : Lane := 0; let x : CodeErrors := ⟨64, [0x7C, 0xFB]⟩; let k : Nat := x.errors + (x.ks.filter (State.kError true)).length; let s : State := laneIn 6; s.awake = true ∧ s.laneUp n = true ∧ laneIdle s n = true ∧ noJoint s (endOf n) = true ∧ k = x.errors + (x.ks.filter (State.kError true)).length ∧ 64 < k := by
  repeat' with_reducible apply And.intro
  all_goals first | with_reducible rfl | decide +kernel

theorem witness_LaneLosses_3b : let n : Lane := 0; let x : CodeErrors := ⟨65, []⟩; let k : Nat := 65; let s : State := laneIn 6; s.awake = true ∧ s.laneUp n = true ∧ laneIdle s n = true ∧ noJoint s (endOf n) = true ∧ k = x.errors + (x.ks.filter (State.kError true)).length ∧ 64 < k := by
  repeat' with_reducible apply And.intro
  all_goals first | with_reducible rfl | decide +kernel

theorem witness_LaneLosses_4a : let n : Lane := 0; let x : CodeErrors := ⟨64, []⟩; let k : Nat := 64; let s : State := laneIn 6; let l : List (Nat × Nat) := (s.lane n).errs.filter (fun e => s.now - e.1 ≤ us 100); s.awake = true ∧ k = x.errors + (x.ks.filter (State.kError (s.laneUp n))).length ∧ l = (s.lane n).errs.filter (fun e => s.now - e.1 ≤ us 100) ∧ (l.map (·.2)).sum + k ≤ 64 ∨ s.laneUp n = false := by
  repeat' with_reducible apply And.intro
  all_goals first | with_reducible rfl | decide +kernel

theorem witness_LaneLosses_4b : let n : Lane := 0; let x : CodeErrors := ⟨65, []⟩; let k : Nat := 65; let s : State := laneIn 5; let l : List (Nat × Nat) := (s.lane n).errs.filter (fun e => s.now - e.1 ≤ us 100); s.awake = true ∧ k = x.errors + (x.ks.filter (State.kError (s.laneUp n))).length ∧ l = (s.lane n).errs.filter (fun e => s.now - e.1 ≤ us 100) ∧ (l.map (·.2)).sum + k ≤ 64 ∨ s.laneUp n = false := by
  repeat' with_reducible apply And.intro
  all_goals first | with_reducible rfl | decide +kernel

theorem witness_LaneLosses_5a : let n : Lane := 0; let v : Word := 3; let s : State := laneIn 6; s.awake = true ∧ s.laneUp n = true ∧ laneIdle s n = true ∧ noJoint s (endOf n) = true ∧ s.flag (Reg.LANE_CTRL.EN.at n) = true ∧ bit v.toNat 1 = true ∧ v.toNat % 2 = 1 := by
  repeat' with_reducible apply And.intro
  all_goals first | with_reducible rfl | decide +kernel

theorem witness_LaneLosses_6a : let n : Lane := 0; let v : Word := 1; let s : State := (laneIn 0).put (Reg.LANE_CTRL.EN.at 0) 0; s.awake = true ∧ s.laneSt n = .disabled ∧ s.get (Reg.LANE_CTRL.EN.at n) = 0 ∧ bit v.toNat 1 = false ∧ v.toNat % 2 = 1 := by
  repeat' with_reducible apply And.intro
  all_goals first | with_reducible rfl | decide +kernel

theorem witness_LaneLosses_7a : let n : Lane := 0; let s : State := laneIn 6; s.awake = true := by
  decide +kernel

theorem witness_LaneLosses_8a : let n : Lane := 0; let x : CodeErrors := ⟨65, []⟩; let k : Nat := 65; let s : State := laneIn 6; s.awake = true ∧ s.laneUp n = true ∧ k = x.errors + (x.ks.filter (State.kError true)).length ∧ 64 < k := by
  repeat' with_reducible apply And.intro
  all_goals first | with_reducible rfl | decide +kernel

theorem witness_LaneLosses_9a : let n : Lane := 0; let v : Word := 0; let s : State := laneIn 6; let u : State := s.storeWord (Reg.LANE_CTRL.EN.at n).addr v.toNat; s.awake = true ∧ u = s.storeWord (Reg.LANE_CTRL.EN.at n).addr v.toNat ∧ s.flag (Reg.LANE_CTRL.EN.at n) = true ∧ v.toNat % 2 = 0 ∧ bit v.toNat 1 = false := by
  repeat' with_reducible apply And.intro
  all_goals first | with_reducible rfl | decide +kernel

theorem witness_LaneLosses_10a : let n : Lane := 0; let v : Word := 3; let s : State := laneIn 3; let u : State := s.storeWord (Reg.LANE_CTRL.EN.at n).addr v.toNat; s.awake = true ∧ u = s.storeWord (Reg.LANE_CTRL.EN.at n).addr v.toNat ∧ s.get (Reg.LANE_CTRL.EN.at n) = v.toNat % 2 ∧ bit v.toNat 1 = true := by
  repeat' with_reducible apply And.intro
  all_goals first | with_reducible rfl | decide +kernel

theorem witness_LaneLosses_10b : let n : Lane := 0; let v : Word := 3; let s : State := laneIn 6; let u : State := s.storeWord (Reg.LANE_CTRL.EN.at n).addr v.toNat; s.awake = true ∧ u = s.storeWord (Reg.LANE_CTRL.EN.at n).addr v.toNat ∧ s.get (Reg.LANE_CTRL.EN.at n) = v.toNat % 2 ∧ bit v.toNat 1 = true := by
  repeat' with_reducible apply And.intro
  all_goals first | with_reducible rfl | decide +kernel

theorem witness_LaneLosses_11a : let n : Lane := 0; let v : Word := 2; let s : State := laneIn 6; s.awake = true := by
  decide +kernel

theorem witness_LaneCredits_1a : let n : Lane := 0; let a : Byte := 1; let b : Byte := 2; let c : Byte := 0; let s : State := laneIn 6; s.awake = true ∧ s.laneUp n = true ∧ ¬ (a = b ∧ c = ~~~a) := by
  repeat' with_reducible apply And.intro
  all_goals first | with_reducible rfl | decide +kernel

theorem witness_LaneCredits_2a : let n : Lane := 0; let a : Byte := 1; let s : State := laneIn 6; s.awake = true ∧ s.laneUp n = true ∧ txIdle s n = true := by
  repeat' with_reducible apply And.intro
  all_goals first | with_reducible rfl | decide +kernel

theorem witness_LaneCredits_3a : let n : Lane := 0; let s : State := laneIn 6; s.awake = true ∧ s.laneUp n = true ∧ (s.lane n).tx = none := by
  repeat' with_reducible apply And.intro
  all_goals first | with_reducible rfl | decide +kernel

theorem witness_LaneCredits_4a : let n : Lane := 0; let s : State := laneIn 6; let d : Byte := BitVec.ofNat 8 (s.get (Reg.LANE_CREDIT.RXA.at n)); s.awake = true ∧ s.laneUp n = true ∧ (s.lane n).rx = none ∧ d.toNat = s.get (Reg.LANE_CREDIT.RXA.at n) := by
  repeat' with_reducible apply And.intro
  all_goals first | with_reducible rfl | decide +kernel

theorem witness_LaneCredits_5a : let n : Lane := 0; let s : State := laneIn 6; s.awake = true ∧ s.laneUp n = true ∧ txIdle s n = true := by
  repeat' with_reducible apply And.intro
  all_goals first | with_reducible rfl | decide +kernel

theorem witness_LaneCredits_6a : let n : Lane := 0; let v : Byte := 1; let s : State := (laneIn 6).onLane 0 fun l => { l with rsReq := true }; s.awake = true ∧ s.laneUp n = true ∧ (s.lane n).rsReq = true := by
  repeat' with_reducible apply And.intro
  all_goals first | with_reducible rfl | decide +kernel

theorem witness_LaneCredits_7a : let n : Lane := 0; let v : Byte := 255; let s : State := (laneIn 6).onLane 0 fun l => { l with rsAck := some 255 }; s.awake = true ∧ (s.lane n).rsAck = some v.toNat ∧ s.get (Reg.LANE_CREDIT.RXOCC.at n) = 0 ∧ (s.lane n).tx = none := by
  repeat' with_reducible apply And.intro
  all_goals first | with_reducible rfl | decide +kernel

theorem witness_LaneCredits_8a : let n : Lane := 0; let s : State := (laneIn 6).onLane 0 fun l => { l with rsTx := true }; s.awake = true ∧ (s.lane n).rsTx = true ∧ txIdle s n = true := by
  repeat' with_reducible apply And.intro
  all_goals first | with_reducible rfl | decide +kernel

theorem witness_LaneCredits_9a : let n : Lane := 0; let q : Nat := 1; let s : State := (laneIn 6).onLane 0 fun l => { l with rsAt := some 3, rsTxAt := some 1 }; s.awake = true ∧ ((s.lane n).rsAt.toList ++ (s.lane n).rsTxAt.toList).min? = some q ∧ laneIdle s n = true ∧ noJoint s (endOf n) = true := by
  repeat' with_reducible apply And.intro
  all_goals first | with_reducible rfl | decide +kernel

theorem witness_LaneCredits_10a : let n : Lane := 0; let c : Byte := 1; let s : State := laneIn 6; s.awake = true ∧ s.laneUp n = true ∧ (s.lane n).rx = none ∧ (s.lane n).rxHeld = none ∧ (s.lane n).rxSkip = false ∧ (s.lane n).rxRest = false ∧ (s.lane n).rsReq = false ∧ (s.lane n).rsAck = none ∧ (s.lane n).errs = [] := by
  repeat' with_reducible apply And.intro
  all_goals first | with_reducible rfl | decide +kernel

theorem witness_LaneCredits_11a : let n : Lane := 0; let a : Byte := 1; let s : State := laneIn 6; s.awake = true ∧ s.laneUp n = true := by
  repeat' with_reducible apply And.intro
  all_goals first | with_reducible rfl | decide +kernel

theorem witness_LaneCredits_12a : let n : Lane := 0; let s : State := laneIn 6; s.awake = true ∧ s.laneUp n = true := by
  repeat' with_reducible apply And.intro
  all_goals first | with_reducible rfl | decide +kernel

theorem witness_LaneCredits_13a : let n : Lane := 0; let d : Byte := 0; let s : State := (laneIn 6).onLane 0 fun l => { l with rx := some (rxOf [1, 2]) }; let u : State := (((s.endTrailing n).cutOpen n).onLane n fun l => { l with rxRest := false, rxSkip := false, skipLen := 0 }); s.awake = true ∧ s.laneUp n = true ∧ u = (((s.endTrailing n).cutOpen n).onLane n fun l => { l with rxRest := false, rxSkip := false, skipLen := 0 }) := by
  repeat' with_reducible apply And.intro
  all_goals first | with_reducible rfl | decide +kernel

theorem witness_LaneCredits_13b : let n : Lane := 0; let d : Byte := 9; let s : State := laneIn 6; let u : State := (((s.endTrailing n).cutOpen n).onLane n fun l => { l with rxRest := false, rxSkip := false, skipLen := 0 }); s.awake = true ∧ s.laneUp n = true ∧ u = (((s.endTrailing n).cutOpen n).onLane n fun l => { l with rxRest := false, rxSkip := false, skipLen := 0 }) := by
  repeat' with_reducible apply And.intro
  all_goals first | with_reducible rfl | decide +kernel

theorem witness_LaneCredits_14a : let n : Lane := 0; let s : State := { ((laneIn 6).onLane 0 fun l => { l with tx := some ⟨1, 0, 0, 0, 0, [], false⟩ }) with fab.frames := [{ fid := 1, ingress := 11, cls := .mgmt, bytes := mgmtFrame 5 4, complete := true }] }; let u : State := (s.endTrailing n).advance n; s.awake = true ∧ s.laneUp n = true ∧ u = (s.endTrailing n).advance n ∧ ((u.lane n).tx.isSome || (u.lane n).txHeld.isSome) = true := by
  repeat' with_reducible apply And.intro
  all_goals first | with_reducible rfl | decide +kernel

theorem witness_LaneCredits_15a : let n : Lane := 0; let a : Byte := 1; let b : Byte := 0; let c : Byte := 0; let s : State := laneIn 5; s.awake = true ∧ s.laneUp n = false := by
  repeat' with_reducible apply And.intro
  all_goals first | with_reducible rfl | decide +kernel

theorem witness_LaneCredits_16a : let n : Lane := 0; let a : Byte := 1; let b : Byte := 0; let c : Byte := 0; let s : State := laneIn 6; s.awake = true := by
  decide +kernel

theorem witness_LaneCredits_17a : let n : Lane := 0; let s : State := laneIn 6; s.awake = true ∧ (s.lane n).rsAck = none ∨ s.get (Reg.LANE_CREDIT.RXOCC.at n) ≠ 0 := by
  repeat' with_reducible apply And.intro
  all_goals first | with_reducible rfl | decide +kernel

theorem witness_LaneCredits_17b : let n : Lane := 0; let s : State := ((laneIn 6).onLane 0 fun l => { l with rsAck := some 1 }).put (Reg.LANE_CREDIT.RXOCC.at 0) 1; s.awake = true ∧ (s.lane n).rsAck = none ∨ s.get (Reg.LANE_CREDIT.RXOCC.at n) ≠ 0 := by
  repeat' with_reducible apply And.intro
  all_goals first | with_reducible rfl | decide +kernel

theorem witness_LaneCredits_18a : let n : Lane := 0; let s : State := laneIn 6; s.awake = true := by
  decide +kernel

theorem witness_LaneCredits_19a : let n : Lane := 0; let c : Byte := 1; let s : State := (laneIn 6).onLane 0 fun l => { l with rxSkip := true }; s.awake = true ∧ ((s.lane n).rx.isSome || (s.lane n).rxSkip || (s.lane n).rxRest) = true := by
  repeat' with_reducible apply And.intro
  all_goals first | with_reducible rfl | decide +kernel

theorem witness_LaneFrames_1a : let n : Lane := 0; let d : Byte := 0; let f : RxFrame := rxOf []; let s : State := rxAt none (some (rxOf [])); s.awake = true ∧ s.laneUp n = true ∧ (s.lane n).rx = none ∧ (s.lane n).rxHeld = some f ∧ d.toNat = s.get (Reg.LANE_CREDIT.RXA.at n) := by
  repeat' with_reducible apply And.intro
  all_goals first | with_reducible rfl | decide +kernel

theorem witness_LaneFrames_2a : let n : Lane := 0; let d : Byte := 0; let s : State := rxAt none none; s.awake = true ∧ s.laneUp n = true ∧ (s.lane n).rx = none ∧ (s.lane n).rxHeld = none ∧ d.toNat = s.get (Reg.LANE_CREDIT.RXA.at n) := by
  repeat' with_reducible apply And.intro
  all_goals first | with_reducible rfl | decide +kernel

theorem witness_LaneFrames_3a : let n : Lane := 0; let bs : Bytes := [0]; let f : RxFrame := rxOf (List.replicate 2076 0); let s : State := rxAt (some (rxOf (List.replicate 2076 0))) none; s.awake = true ∧ (s.lane n).rx = some f ∧ f.giant = false ∧ 2077 ≤ f.bytes.length + bs.length ∧ f.stage = .open_ ∧ (s.lane n).rxHeld = none := by
  repeat' with_reducible apply And.intro
  all_goals first | with_reducible rfl | decide +kernel

theorem witness_LaneFrames_4a : let n : Lane := 0; let f : RxFrame := rxOf [] .dropped; let bs : Bytes := (mgmtFrame 6 100).take 64; let s : State := rxAt (some f) none; s.awake = true ∧ (s.lane n).rx = some f ∧ (s.lane n).rxHeld = none ∧ (∀ fid, f.stage ≠ .kept fid) ∧ (hCls (f.bytes ++ bs)).express = false ∧ (f.bytes ++ bs).length % 64 = 0 ∧ 64 ≤ (f.bytes ++ bs).length ∧ (f.bytes ++ bs).length + 64 ≤ frameLen (f.bytes ++ bs) := by
  repeat' with_reducible apply And.intro
  all_goals first | with_reducible rfl | decide +kernel | (intros; simp [rxOf])

theorem witness_LaneFrames_5a : let n : Lane := 0; let it : QItem := ⟨1, false, false⟩; let r : List QItem := []; let s : State := txQueued; let f : PFrame := (s.frame? 1).getD { fid := 0, ingress := 0, cls := .tt, bytes := [], complete := false }; s.awake = true ∧ s.txReady n = true ∧ (s.lane n).qx = it :: r ∧ it.crossing = false ∧ s.frame? it.fid = some f ∧ s.creditFor n (State.totalOf f) 0 = true ∧ s.gateCode f = 0 ∧ s.lanePass n f = true ∧ hType f.bytes ≠ 0x13 := by
  repeat' with_reducible apply And.intro
  all_goals first | with_reducible rfl | decide +kernel

theorem witness_LaneFrames_6a : let n : Lane := 0; let s : State := alone; let x : Nat := ((s.nextExpress n).getD (0, 0)).1; let y : Nat := ((s.nextExpress n).getD (0, 0)).2; s.awake = true ∧ s.nextExpress n = some (x, y) ∧ txIdle s n = true := by
  repeat' with_reducible apply And.intro
  all_goals first | with_reducible rfl | decide +kernel

theorem witness_LaneFrames_7a : let n : Lane := 0; let x : TxFrame := ⟨1, 0, 0, 0, 100, [], false⟩; let f : PFrame := { fid := 1, ingress := 0, cls := .bulk, bytes := [], complete := false }; let s : State := { ((laneIn 6).onLane 0 fun l => { l with tx := some ⟨1, 0, 0, 0, 100, [], false⟩ }) with fab.frames := [{ fid := 1, ingress := 0, cls := .bulk, bytes := [], complete := false }] }; s.awake = true ∧ ((s.advance n).lane n).tx = some x ∧ (s.advance n).frame? x.fid = some f := by
  repeat' with_reducible apply And.intro
  all_goals first | with_reducible rfl | decide +kernel

theorem witness_LaneFrames_8a : let n : Lane := 0; let bs : Bytes := mgmtFrame 0x10 4; let f : RxFrame := rxOf []; let s : State := rxAt (some (rxOf [])) none; s.awake = true ∧ (s.lane n).rx = some f ∧ f.stage = .open_ ∧ 32 ≤ (f.bytes ++ bs).length ∧ headerCheck (f.bytes ++ bs) = .ok ∧ (s.lane n).rxHeld = none ∧ (s.lane n).tx = none ∧ 0x10 ≤ hType (f.bytes ++ bs) ∧ hType (f.bytes ++ bs) ≤ 0x14 ∧ (s.lane n).heldOut = 0 := by
  repeat' with_reducible apply And.intro
  all_goals first | with_reducible rfl | decide +kernel

theorem witness_LaneFrames_9a : let n : Lane := 0; let bs : Bytes := List.replicate 31 1; let good : Bool := true; let f : RxFrame := rxOf []; let s : State := rxAt (some (rxOf [])) none; s.awake = true ∧ (s.lane n).rx = some f ∧ f.giant = false ∧ (f.bytes ++ bs).length ≤ 31 ∧ f.stage = .open_ ∧ (s.lane n).rxHeld = none ∧ (s.lane n).tx = none := by
  repeat' with_reducible apply And.intro
  all_goals first | with_reducible rfl | decide +kernel

theorem witness_LaneFrames_10a : let n : Lane := 0; let bs : Bytes := []; let f : RxFrame := rxOf (mgmtFrame 0x10 4) .consumed; let s : State := rxAt (some (rxOf (mgmtFrame 0x10 4) .consumed)) none; s.awake = true ∧ (s.lane n).rx = some f ∧ f.giant = false ∧ f.codeErr = false ∧ f.dev = none ∧ f.stage = .consumed ∧ (s.lane n).rxHeld = none ∧ (s.lane n).tx = none ∧ 32 ≤ (f.bytes ++ bs).length ∧ headerCheck (f.bytes ++ bs) = .ok ∧ (f.bytes ++ bs).length = frameLen (f.bytes ++ bs) ∧ fcsOk (f.bytes ++ bs) = true := by
  repeat' with_reducible apply And.intro
  all_goals first | with_reducible rfl | decide +kernel

theorem witness_LaneFrames_11a : let n : Lane := 0; let bs : Bytes := []; let f : RxFrame := rxOf (List.replicate 32 0) .consumed; let s : State := rxAt (some (rxOf (List.replicate 32 0) .consumed)) none; s.awake = true ∧ (s.lane n).rx = some f ∧ f.giant = false ∧ f.stage = .consumed ∧ (s.lane n).rxHeld = none ∧ (s.lane n).tx = none ∧ 32 ≤ (f.bytes ++ bs).length := by
  repeat' with_reducible apply And.intro
  all_goals first | with_reducible rfl | decide +kernel

theorem witness_LaneFrames_12a : let n : Lane := 0; let bs : Bytes := List.replicate 32 1; let f : RxFrame := rxOf []; let s : State := rxAt (some (rxOf [])) none; s.awake = true ∧ (s.lane n).rx = some f ∧ f.stage = .open_ ∧ 32 ≤ (f.bytes ++ bs).length ∧ headerCheck (f.bytes ++ bs) = .hcrc ∧ (s.lane n).rxHeld = none ∧ (s.lane n).tx = none := by
  repeat' with_reducible apply And.intro
  all_goals first | with_reducible rfl | decide +kernel

theorem witness_LaneFrames_13a : let n : Lane := 0; let d : Byte := 7; let s : State := rxAt none none; let u : State := (s.endTrailing n).endAsEb n; s.awake = true ∧ s.laneUp n = true ∧ u = (s.endTrailing n).endAsEb n ∧ d.toNat ≠ u.get (Reg.LANE_CREDIT.RXA.at n) := by
  repeat' with_reducible apply And.intro
  all_goals first | with_reducible rfl | decide +kernel

theorem witness_LaneFrames_14a : let n : Lane := 0; let bs : Bytes := [1, 2]; let f : RxFrame := rxOf [1, 2]; let s : State := rxAt (some (rxOf [])) none; let u : State := s.takeBytes n bs; s.awake = true ∧ (s.lane n).rx.isSome = true ∧ u = s.takeBytes n bs ∧ (u.lane n).rx = some f ∧ ((hCls f.bytes).express || decide (f.bytes.length % 64 ≠ 0) || decide (f.bytes.length < 64) || decide (frameLen f.bytes < f.bytes.length + 64) || (u.lane n).rxHeld.isSome) = true := by
  repeat' with_reducible apply And.intro
  all_goals first | with_reducible rfl | decide +kernel

theorem witness_LaneFrames_15a : let n : Lane := 0; let fid : Nat := 1; let bs : Bytes := (mgmtFrame 6 100).take 64; let f : RxFrame := rxOf bs (.kept 1); let s : State := { rxAt (some (rxOf [] (.kept 1))) none with fab.frames := [{ fid := 1, ingress := 0, cls := .mgmt, bytes := [], complete := false }] }; let u : State := s.takeBytes n bs; s.awake = true ∧ (s.lane n).rx.isSome = true ∧ u = s.takeBytes n bs ∧ (u.lane n).rx = some f ∧ f.stage = .kept fid ∧ (hCls f.bytes).express = false ∧ f.bytes.length % 64 = 0 ∧ 64 ≤ f.bytes.length ∧ f.bytes.length + 64 ≤ frameLen f.bytes ∧ (u.lane n).rxHeld = none := by
  repeat' with_reducible apply And.intro
  all_goals first | with_reducible rfl | decide +kernel

theorem witness_LaneFrames_16a : let n : Lane := 0; let bs : Bytes := [0]; let f : RxFrame := rxOf [0]; let s : State := rxAt (some (rxOf [])) none; let u : State := s.takeBytes n bs; s.awake = true ∧ (s.lane n).rx.isSome = true ∧ u = s.takeBytes n bs ∧ (u.lane n).rx = some f := by
  repeat' with_reducible apply And.intro
  all_goals first | with_reducible rfl | decide +kernel

theorem witness_LaneFrames_17a : let n : Lane := 0; let bs : Bytes := [0]; let good : Bool := true; let k : Nat := 1; let s : State := rxAt (some (rxOf [])) none; s.awake = true ∧ (s.lane n).rx.isSome = true := by
  repeat' with_reducible apply And.intro
  all_goals first | with_reducible rfl | decide +kernel

theorem witness_LaneFrames_18a : let n : Lane := 0; let bs : Bytes := [0]; let good : Bool := true; let k : Nat := 1; let s : State := rxAt none none; s.awake = true ∧ (s.lane n).rx = none := by
  repeat' with_reducible apply And.intro
  all_goals first | with_reducible rfl | decide +kernel

theorem witness_LaneFrames_19a : let n : Lane := 0; let bs : Bytes := [0]; let s : State := rxAt none none; (s.lane n).rx = none := by
  decide +kernel

theorem witness_LaneFrames_20a : let n : Lane := 0; let s : State := txQueued; s.awake = true := by
  decide +kernel

theorem witness_LaneFrames_21a : let n : Lane := 0; let s : State := laneIn 6; s.awake = true ∧ ((s.advance n).lane n).tx = none := by
  repeat' with_reducible apply And.intro
  all_goals first | with_reducible rfl | decide +kernel

theorem witness_LaneFrames_22a : let n : Lane := 0; let d : Byte := 0; let s : State := laneIn 5; s.awake = true ∧ s.laneUp n = false := by
  repeat' with_reducible apply And.intro
  all_goals first | with_reducible rfl | decide +kernel

theorem witness_InauTimers_1a : let n : Lane := 0; let q : Nat := 5; let s : State := (laneIn 6).onLane 0 fun l => { l with probeAt := some 5 }; let u : State := (s.reach q).onLane n (fun l => { l with probeAt := some (max s.now q + if (s.lane n).working || (s.lane n).heldOut ≠ 0 then ms 1 else us 20) }); s.awake = true ∧ s.laneUp n = true ∧ (s.lane n).probeAt = some q ∧ u = (s.reach q).onLane n (fun l => { l with probeAt := some (max s.now q + if (s.lane n).working || (s.lane n).heldOut ≠ 0 then ms 1 else us 20) }) := by
  repeat' with_reducible apply And.intro
  all_goals first | with_reducible rfl | decide +kernel

theorem witness_InauTimers_2a : let e : VEnd := 0; let q : Nat := 5; let s : State := named.onEnd 0 fun v => { v with quarantine := some 5 }; s.awake = true ∧ (s.vend e).quarantine = some q := by
  repeat' with_reducible apply And.intro
  all_goals first | with_reducible rfl | decide +kernel

theorem witness_InauTimers_3a : let n : Lane := 0; let q : Nat := 50; let s : State := (laneIn 6).onLane 0 fun l => { l with answerAt := some 50 }; s.awake = true ∧ (s.lane n).answerAt = some q ∧ s.laneUp n = true ∧ (s.lane n).working = false ∧ (s.lane n).heldOut = 0 := by
  repeat' with_reducible apply And.intro
  all_goals first | with_reducible rfl | decide +kernel

theorem witness_InauTimers_4a : let q : Nat := 5; let s : State := { named with inau.startupAt := some 5, inau.settleAt := some 9 }; s.awake = true ∧ s.inau.startupAt = some q ∧ s.inau.settleAt.isSome = true := by
  repeat' with_reducible apply And.intro
  all_goals first | with_reducible rfl | decide +kernel

theorem witness_InauTimers_5a : let q : Nat := 5; let s : State := { named with inau.startupAt := some 5, inau.settleAt := none, inau.changed := true }; s.awake = true ∧ s.inau.startupAt = some q ∧ s.inau.settleAt = none ∧ s.inau.changed = true ∧ s.flag Reg.INAU_STAT.NOAGREE = false ∧ s.stackId = 0 := by
  repeat' with_reducible apply And.intro
  all_goals first | with_reducible rfl | decide +kernel

theorem witness_InauTimers_6a : let q : Nat := 5; let s : State := { named with inau.startupAt := some 5, inau.settleAt := some 5 }; s.awake = true ∧ s.inau.settleAt = some q ∧ s.inau.startupAt.isSome = true := by
  repeat' with_reducible apply And.intro
  all_goals first | with_reducible rfl | decide +kernel

theorem witness_InauTimers_7a : let q : Nat := 5; let s : State := { named with inau.startupAt := none, inau.settleAt := some 5, inau.changed := true }; s.awake = true ∧ s.inau.settleAt = some q ∧ s.inau.startupAt = none ∧ s.inau.changed = true ∧ s.flag Reg.INAU_STAT.NOAGREE = false ∧ s.stackId = 0 := by
  repeat' with_reducible apply And.intro
  all_goals first | with_reducible rfl | decide +kernel

theorem witness_InauTimers_8a : let q : Nat := 5; let r : Round := { rnd := 1, starter := 1, cold := true, ocyc := 0 }; let s : State := { named with inau.waveAt := some 5, inau.settleAt := some 9, inau.round := some { rnd := 1, starter := 1, cold := true, ocyc := 0 } }; s.awake = true ∧ s.inau.waveAt = some q ∧ s.inau.round = some r ∧ s.roundRelays r = [] ∧ s.mayStartRound = false := by
  repeat' with_reducible apply And.intro
  all_goals first | with_reducible rfl | decide +kernel

theorem witness_InauTimers_9a : let q : Nat := 5; let r : Round := { rnd := 1, starter := 1, cold := true, ocyc := 0, phase := .agree }; let s : State := { named with inau.agreeAt := some 5, inau.settleAt := some 9, inau.lastNoon := 77, inau.noon := some 8, inau.round := some { rnd := 1, starter := 1, cold := true, ocyc := 0, phase := .agree } }; s.awake = true ∧ s.inau.agreeAt = some q ∧ s.inau.round = some r ∧ s.roundRelays r = [] ∧ s.mayStartRound = false := by
  repeat' with_reducible apply And.intro
  all_goals first | with_reducible rfl | decide +kernel

theorem witness_InauTimers_9b : let q : Nat := 5; let r : Round := { rnd := 1, starter := 1, cold := true, ocyc := 0, phase := .pending }; let s : State := { named with inau.agreeAt := some 5, inau.settleAt := some 9, inau.lastNoon := 77, inau.noon := some 8, inau.round := some { rnd := 1, starter := 1, cold := true, ocyc := 0, phase := .pending } }; s.awake = true ∧ s.inau.agreeAt = some q ∧ s.inau.round = some r ∧ s.roundRelays r = [] ∧ s.mayStartRound = false := by
  repeat' with_reducible apply And.intro
  all_goals first | with_reducible rfl | decide +kernel

theorem witness_InauTimers_10a : let e : VEnd := 1; let q : Nat := 7; let s : State := named.onEnd 1 fun v => { v with grace := some 7 }; s.awake = true ∧ (s.vend e).grace = some q ∧ (s.vend e).changes = [] ∧ (s.inau.settleAt = none ∧ s.roundOpen = false ∨ s.inau.force = none) := by
  repeat' with_reducible apply And.intro
  all_goals first | with_reducible rfl | decide +kernel

theorem witness_InauTimers_11a : let q : Nat := 5; let s : State := { named with inau.spacingAt := some 5, inau.startupAt := none, inau.settleAt := none }; s.awake = true ∧ s.inau.spacingAt = some q ∧ s.mayStartRound = true := by
  repeat' with_reducible apply And.intro
  all_goals first | with_reducible rfl | decide +kernel

theorem witness_InauTimers_12a : let q : Nat := 5; let s : State := { named with inau.spacingAt := some 5, inau.startupAt := some 9 }; s.awake = true ∧ s.inau.spacingAt = some q ∧ s.mayStartRound = false := by
  repeat' with_reducible apply And.intro
  all_goals first | with_reducible rfl | decide +kernel

theorem witness_InauTimers_13a : let n : Lane := 0; let s : State := laneIn 6; s.awake = true := by
  decide +kernel

theorem witness_InauTimers_14a : let n : Lane := 1; let q : Nat := 50; let s : State := (laneIn 6).onLane 1 fun l => { l with answerAt := some 50 }; s.awake = true ∧ (s.lane n).answerAt = some q ∧ (s.laneUp n = false ∨ (s.lane n).working = true ∨ (s.lane n).heldOut ≠ 0) := by
  repeat' with_reducible apply And.intro
  all_goals first | with_reducible rfl | decide +kernel

theorem witness_InauTimers_15a : let e : VEnd := 0; let s : State := named.onEnd 0 fun v => { v with quarantine := some 5, grace := some 7 }; s.awake = true := by
  decide +kernel

theorem witness_InauTimers_16a : let s : State := { named with inau.startupAt := some 5, inau.settleAt := some 9, inau.waveAt := some 3, inau.agreeAt := some 2 }; s.awake = true := by
  decide +kernel

theorem witness_InauTimers_16b : let s : State := { named with inau.startupAt := none, inau.settleAt := none, inau.waveAt := none, inau.agreeAt := some 2, inau.round := some { rnd := 1, starter := 1, cold := true, ocyc := 0, phase := .pending } }; s.awake = true := by
  decide +kernel

theorem witness_InauTimers_17a : let s : State := named; s.awake = true ∧ s.inau.spacingAt = none := by
  repeat' with_reducible apply And.intro
  all_goals first | with_reducible rfl | decide +kernel

theorem witness_InauFrames_1a : let n : Lane := 0; let f : Bytes := mgmtFrame 0x10 48; let s : State := laneIn 6; s.awake = true ∧ s.laneUp n = true ∧ headerCheck f = .ok ∧ hCls f = .mgmt ∧ hType f = 0x10 ∧ hLen f = 48 := by
  repeat' with_reducible apply And.intro
  all_goals first | with_reducible rfl | decide +kernel

theorem witness_InauFrames_2a : let n : Lane := 0; let f : Bytes := startFrame; let s : State := laneIn 6; s.awake = true ∧ s.inauFrameOk n f 0x11 = true ∧ hLen f = 16 ∧ byteAt (payload f) 0 = 1 ∧ s.isBetter (fieldAt (payload f) 2 2) (fieldAt (payload f) 4 8) = true := by
  repeat' with_reducible apply And.intro
  all_goals first | with_reducible rfl | decide +kernel

theorem witness_InauFrames_3a : let n : Lane := 0; let f : Bytes := startFrame; let s : State := { laneIn 6 with inau.round := some { rnd := 9, starter := 1, cold := true, ocyc := 0 } }; s.awake = true ∧ s.inauFrameOk n f 0x11 = true ∧ hLen f = 16 ∧ byteAt (payload f) 0 = 1 ∧ s.isBetter (fieldAt (payload f) 2 2) (fieldAt (payload f) 4 8) = false ∧ s.heldIs (fieldAt (payload f) 2 2) (fieldAt (payload f) 4 8) = false := by
  repeat' with_reducible apply And.intro
  all_goals first | with_reducible rfl | decide +kernel

theorem witness_InauFrames_4a : let n : Lane := 0; let hd : Bytes := countFrame; let s : State := laneIn 6; s.awake = true ∧ 56 ≤ hd.length ∧ s.inauFrameOk n hd 0x11 = true ∧ byteAt hd 24 = 2 := by
  repeat' with_reducible apply And.intro
  all_goals first | with_reducible rfl | decide +kernel

theorem witness_InauFrames_5a : let n : Lane := 0; let f : Bytes := countFrame; let r : Round := { rnd := 5, starter := 7, cold := true, ocyc := 0 }; let s : State := { (laneIn 6).onEnd 1 fun v => { v with working := true } with inau.round := some { rnd := 5, starter := 7, cold := true, ocyc := 0 } }; let g : Seg := State.parseSeg (payload f) (endOf n); s.awake = true ∧ s.inauFrameOk n f 0x11 = true ∧ byteAt (payload f) 0 = 2 ∧ hLen f = 32 + 16 * fieldAt (payload f) 22 2 ∧ s.isBetter (fieldAt (payload f) 2 2) (fieldAt (payload f) 4 8) = false ∧ s.heldIs (fieldAt (payload f) 2 2) (fieldAt (payload f) 4 8) = true ∧ s.inau.round = some r ∧ r.phase = .count ∧ g = State.parseSeg (payload f) (endOf n) ∧ (r.segs.any fun x => State.segKey x = State.segKey g) = false ∧ r.dead.contains (g.origin, g.oend) = false ∧ ((r.segs ++ [g]).any fun x => s.relaysOut r x) = false ∧ ((r.segs ++ [g]).any (·.ovf)) = false ∧ s.heldChain { r with segs := r.segs ++ [g] } = none := by
  repeat' with_reducible apply And.intro
  all_goals first | with_reducible rfl | decide +kernel

theorem witness_InauFrames_6a : let r : Round := { rnd := 5, starter := 7, cold := true, ocyc := 0, phase := .compute }; let s : State := { named.put Reg.INAU_CTRL.EN 0 with inau.round := some { rnd := 5, starter := 7, cold := true, ocyc := 0, phase := .compute } }; let c : List Link := lineChain (s.waveEntry 5 0) s.ownId none none; let loop : Bool := false; s.awake = true ∧ s.inau.round = some r ∧ r.phase = .compute ∧ s.heldChain r = some (c, loop) ∧ computeRoster c loop s.entryUid s.cycleUnits s.ownGuard s.roundMode = none ∧ (c.length ≠ 1 ∨ s.inau.force = none) := by
  repeat' with_reducible apply And.intro
  all_goals first | with_reducible rfl | decide +kernel

theorem witness_InauFrames_7a : let r : Round := { rnd := 5, starter := 7, cold := true, ocyc := 0, phase := .compute, segs := [lineSeg 0, lineSeg 1] }; let s : State := computing; let c : List Link := ((s.heldChain r).getD ([], false)).1; let loop : Bool := ((s.heldChain r).getD ([], false)).2; let hd : Held := (computeRoster c loop s.entryUid s.cycleUnits s.ownGuard s.roundMode).getD aloneHeld; s.awake = true ∧ s.inau.round = some r ∧ r.phase = .compute ∧ s.heldChain r = some (c, loop) ∧ computeRoster c loop s.entryUid s.cycleUnits s.ownGuard s.roundMode = some hd ∧ s.workEnds = [0, 1] ∧ r.seam = false ∧ r.agrees = [] := by
  repeat' with_reducible apply And.intro
  all_goals first | with_reducible rfl | decide +kernel

theorem witness_InauFrames_8a : let n : Lane := 0; let f : Bytes := rsumFrame 1; let r : Round := { rnd := 5, starter := 7, cold := true, ocyc := 0 }; let s : State := { laneIn 6 with inau.round := some { rnd := 5, starter := 7, cold := true, ocyc := 0 } }; s.awake = true ∧ s.inauFrameOk n f 0x12 = true ∧ hLen f = 48 ∧ byteAt (payload f) 0 = 1 ∧ s.inau.round = some r ∧ r.rnd = fieldAt (payload f) 2 2 ∧ r.phase ≠ .committed ∧ r.computed = none ∧ r.agrees = [] := by
  repeat' with_reducible apply And.intro
  all_goals first | with_reducible rfl | decide +kernel

theorem witness_InauFrames_9a : let n : Lane := 0; let f : Bytes := rsumFrame 2; let r : Round := { rnd := 5, starter := 7, cold := true, ocyc := 0, dis2 := true }; let s : State := { laneIn 6 with inau.round := some { rnd := 5, starter := 7, cold := true, ocyc := 0, dis2 := true } }; s.awake = true ∧ s.inauFrameOk n f 0x12 = true ∧ hLen f = 48 ∧ byteAt (payload f) 0 = 2 ∧ s.inau.round = some r ∧ r.rnd = fieldAt (payload f) 2 2 ∧ (r.phase = .count ∨ r.phase = .compute ∨ r.phase = .agree) ∧ (if oppEnd (endOf n) = 0 then r.dis1 else r.dis2) = true ∧ s.roundRelays r = [] := by
  repeat' with_reducible apply And.intro
  all_goals first | with_reducible rfl | decide +kernel

theorem witness_InauFrames_10a : let n : Lane := 0; let f : Bytes := rsumFrame 3; let ago : Nat := 0; let r : Round := { rnd := 5, starter := 7, cold := true, ocyc := 0, db2 := true }; let s : State := { (laneIn 6).put (Reg.SYNC_PD.MEAS.ix 0) 1 with inau.round := some { rnd := 5, starter := 7, cold := true, ocyc := 0, db2 := true } }; s.awake = true ∧ s.inauFrameOk n f 0x12 = true ∧ hLen f = 48 ∧ byteAt (payload f) 0 = 3 ∧ s.inau.round = some r ∧ r.rnd = fieldAt (payload f) 2 2 ∧ (r.phase = .count ∨ r.phase = .compute ∨ r.phase = .agree) ∧ (if oppEnd (endOf n) = 0 then r.db1 else r.db2) = true ∧ r.daybreak = none ∧ hCorr f ≠ corrInvalid ∧ (s.pdIn n).isSome = true := by
  repeat' with_reducible apply And.intro
  all_goals first | with_reducible rfl | decide +kernel

theorem witness_InauFrames_11a : let n : Lane := 0; let f : Bytes := rsumFrame 3; let ago : Nat := 0; let r : Round := { rnd := 5, starter := 7, cold := true, ocyc := 0, db2 := true }; let s : State := { (laneIn 6).put (Reg.SYNC_PD.MEAS.ix 0) 1 with inau.round := some { rnd := 5, starter := 7, cold := true, ocyc := 0, db2 := true } }; s.awake = true ∧ s.inauFrameOk n f 0x12 = true ∧ hLen f = 48 ∧ byteAt (payload f) 0 = 3 ∧ s.inau.round = some r ∧ r.rnd = fieldAt (payload f) 2 2 ∧ (r.phase = .count ∨ r.phase = .compute ∨ r.phase = .agree) ∧ (if oppEnd (endOf n) = 0 then r.db1 else r.db2) = true ∧ r.daybreak = none ∧ hCorr f ≠ corrInvalid ∧ (s.pdIn n).isSome = true := by
  repeat' with_reducible apply And.intro
  all_goals first | with_reducible rfl | decide +kernel

theorem witness_InauFrames_12a : let n : Lane := 0; let f : Bytes := []; let s : State := laneIn 6; s.awake = true := by
  decide +kernel

theorem witness_InauFrames_13a : let n : Lane := 0; let f : Bytes := []; let good : Bool := true; let s : State := laneIn 6; s.awake = true := by
  decide +kernel

theorem witness_InauFrames_14a : let n : Lane := 0; let f : Bytes := []; let ago : Nat := 0; let s : State := laneIn 6; s.awake = true := by
  decide +kernel

theorem witness_InauFrames_15a : let s : State := named; s.awake = true ∧ (s.inau.round.any fun r => r.phase = .compute) = false := by
  repeat' with_reducible apply And.intro
  all_goals first | with_reducible rfl | decide +kernel

theorem witness_InauFrames_16a : let r : Round := { rnd := 5, starter := 7, cold := true, ocyc := 0, phase := .compute }; let s : State := { alone.put Reg.INAU_CTRL.EN 0 with inau.round := some { rnd := 5, starter := 7, cold := true, ocyc := 0, phase := .compute } }; let c : List Link := lineChain (s.waveEntry 5 0) s.ownId none none; let loop : Bool := false; s.awake = true ∧ s.inau.round = some r ∧ r.phase = .compute ∧ s.heldChain r = some (c, loop) ∧ computeRoster c loop s.entryUid s.cycleUnits s.ownGuard s.roundMode = none ∧ c.length = 1 ∧ s.inau.force.isSome = true := by
  repeat' with_reducible apply And.intro
  all_goals first | with_reducible rfl | decide +kernel

theorem witness_InauFrames_17a : let s : State := named; s.awake = true := by
  decide +kernel

theorem witness_InauWrites_1a : let v : Word := 0; let s : State := named; s.awake = true ∧ Reg.INAU_CTRL.EN.of v.toNat ≠ s.get Reg.INAU_CTRL.EN ∧ bit v.toNat 1 = false := by
  repeat' with_reducible apply And.intro
  all_goals first | with_reducible rfl | decide +kernel

theorem witness_InauWrites_2a : let v : Word := 0x41; let s : State := named; s.awake = true ∧ Reg.INAU_CTRL.LEADMASK.of v.toNat ≠ s.get Reg.INAU_CTRL.LEADMASK ∧ bit v.toNat 1 = false := by
  repeat' with_reducible apply And.intro
  all_goals first | with_reducible rfl | decide +kernel

theorem witness_InauWrites_3a : let v : Word := 3; let s : State := named; s.awake = true ∧ bit v.toNat 1 = true ∧ (s.vend 0).quarantine = none ∧ (s.vend 1).quarantine = none := by
  repeat' with_reducible apply And.intro
  all_goals first | with_reducible rfl | decide +kernel

theorem witness_InauWrites_4a : let v : Word := 0; let s : State := named; s.awake = true := by
  decide +kernel

theorem witness_InauWrites_5a : let v : Word := 1; let s : State := named; s.awake = true := by
  decide +kernel

theorem witness_InauWrites_6a : let s : State := named; let v : Word := BitVec.ofNat 32 (s.wordAt Reg.INAU_CTRL.EN.addr); s.awake = true ∧ Reg.INAU_CTRL.EN.of v.toNat = s.get Reg.INAU_CTRL.EN ∧ Reg.INAU_CTRL.LEADMASK.of v.toNat = s.get Reg.INAU_CTRL.LEADMASK ∧ bit v.toNat 1 = false := by
  repeat' with_reducible apply And.intro
  all_goals first | with_reducible rfl | decide +kernel

theorem witness_CycleBoundaries_1a : let s : State := alone; let v : State := s.endSteer.reach (s.bnd + s.tLen); let u : State := ({ v with bnd := v.bnd + v.tLen, cyc := (v.cyc + 1) % 2 ^ 32 } : State).rebaseMap; let w : State := (match u.roster with | some r => u.syncRound r v.residNow | none => u).closeCycle; s.awake = true ∧ s.cycRun = true ∧ s.rephCycle = false ∧ s.stackId = 0 ∧ v = s.endSteer.reach (s.bnd + s.tLen) ∧ u = ({ v with bnd := v.bnd + v.tLen, cyc := (v.cyc + 1) % 2 ^ 32 } : State).rebaseMap ∧ w = (match u.roster with | some r => u.syncRound r v.residNow | none => u).closeCycle := by
  repeat' with_reducible apply And.intro
  all_goals first | with_reducible rfl | decide +kernel

theorem witness_CycleBoundaries_2a : let tb : Int := 100; let k : Nat := 0; let tt : Nat := 0; let s : State := { named with inau.place := some (100, 0, 0) }; let v : State := s.reach tb.toNat; let c : Nat := v.cyclesSince tb; let u : State := State.setMap { v.rebaseAges (((k + c : Nat) : Int) - (v.cyc + 1 : Nat)) with cycRun := true, cyc := (k + c) % 2 ^ 32, bnd := (tb + c * s.tLen).toNat, inau := { s.inau with place := none } } k tt; let w : State := u.syncRephase.closeCycle.freshCycle; s.awake = true ∧ s.inau.place = some (tb, k, tt) ∧ s.inau.rephase = false ∧ s.cycRun = false ∧ v = s.reach tb.toNat ∧ c = v.cyclesSince tb ∧ u = State.setMap { v.rebaseAges (((k + c : Nat) : Int) - (v.cyc + 1 : Nat)) with cycRun := true, cyc := (k + c) % 2 ^ 32, bnd := (tb + c * s.tLen).toNat, inau := { s.inau with place := none } } k tt ∧ w = u.syncRephase.closeCycle.freshCycle := by
  repeat' with_reducible apply And.intro
  all_goals first | with_reducible rfl | decide +kernel

theorem witness_CycleBoundaries_3a : let tb : Int := 100; let k : Nat := 9; let tt : Nat := 0; let s : State := { alone with inau.place := some (100, 9, 0), inau.rephase := true, inau.noon := none }; let v : State := s.endSteer.reach tb.toNat; let c : Nat := v.cyclesSince tb; let u : State := { v.rebaseAges ((((k + c) % 2 ^ 32 : Nat) : Int) - (v.cyc + 1 : Nat)) with cycRun := true, cyc := (k + c) % 2 ^ 32, bnd := (tb + c * v.tLen).toNat, time.map := if v.time.map.isSome then (v.mapAt (tb + c * v.tLen).toNat).map fun m => ((k + c) % 2 ^ 32, m) else none, inau := { v.inau with place := none, rephase := false, noon := if v.inau.noon = some k then some ((k + c) % 2 ^ 32) else v.inau.noon } }; let w : State := u.syncRephase.closeCycle.freshCycle; let x : State := (if decide (v.inau.noon = some k) || v.cycRun then w.record 0x0226 else w).noonHere; let y : State := (if v.inau.noon = some k then x.adoptMap k tt else if x.time.map.isNone then x.setMap k tt else x); s.awake = true ∧ s.inau.place = some (tb, k, tt) ∧ s.inau.rephase = true ∧ v = s.endSteer.reach tb.toNat ∧ c = v.cyclesSince tb ∧ u = { v.rebaseAges ((((k + c) % 2 ^ 32 : Nat) : Int) - (v.cyc + 1 : Nat)) with cycRun := true, cyc := (k + c) % 2 ^ 32, bnd := (tb + c * v.tLen).toNat, time.map := if v.time.map.isSome then (v.mapAt (tb + c * v.tLen).toNat).map fun m => ((k + c) % 2 ^ 32, m) else none, inau := { v.inau with place := none, rephase := false, noon := if v.inau.noon = some k then some ((k + c) % 2 ^ 32) else v.inau.noon } } ∧ w = u.syncRephase.closeCycle.freshCycle ∧ x = (if decide (v.inau.noon = some k) || v.cycRun then w.record 0x0226 else w).noonHere ∧ y = (if v.inau.noon = some k then x.adoptMap k tt else if x.time.map.isNone then x.setMap k tt else x) := by
  repeat' with_reducible apply And.intro
  all_goals first | with_reducible rfl | decide +kernel

theorem witness_CycleBoundaries_3b : let tb : Int := 100; let k : Nat := 9; let tt : Nat := 0; let s : State := { alone with inau.place := some (100, 9, 0), inau.rephase := true, inau.noon := some 9 }; let v : State := s.endSteer.reach tb.toNat; let c : Nat := v.cyclesSince tb; let u : State := { v.rebaseAges ((((k + c) % 2 ^ 32 : Nat) : Int) - (v.cyc + 1 : Nat)) with cycRun := true, cyc := (k + c) % 2 ^ 32, bnd := (tb + c * v.tLen).toNat, time.map := if v.time.map.isSome then (v.mapAt (tb + c * v.tLen).toNat).map fun m => ((k + c) % 2 ^ 32, m) else none, inau := { v.inau with place := none, rephase := false, noon := if v.inau.noon = some k then some ((k + c) % 2 ^ 32) else v.inau.noon } }; let w : State := u.syncRephase.closeCycle.freshCycle; let x : State := (if decide (v.inau.noon = some k) || v.cycRun then w.record 0x0226 else w).noonHere; let y : State := (if v.inau.noon = some k then x.adoptMap k tt else if x.time.map.isNone then x.setMap k tt else x); s.awake = true ∧ s.inau.place = some (tb, k, tt) ∧ s.inau.rephase = true ∧ v = s.endSteer.reach tb.toNat ∧ c = v.cyclesSince tb ∧ u = { v.rebaseAges ((((k + c) % 2 ^ 32 : Nat) : Int) - (v.cyc + 1 : Nat)) with cycRun := true, cyc := (k + c) % 2 ^ 32, bnd := (tb + c * v.tLen).toNat, time.map := if v.time.map.isSome then (v.mapAt (tb + c * v.tLen).toNat).map fun m => ((k + c) % 2 ^ 32, m) else none, inau := { v.inau with place := none, rephase := false, noon := if v.inau.noon = some k then some ((k + c) % 2 ^ 32) else v.inau.noon } } ∧ w = u.syncRephase.closeCycle.freshCycle ∧ x = (if decide (v.inau.noon = some k) || v.cycRun then w.record 0x0226 else w).noonHere ∧ y = (if v.inau.noon = some k then x.adoptMap k tt else if x.time.map.isNone then x.setMap k tt else x) := by
  repeat' with_reducible apply And.intro
  all_goals first | with_reducible rfl | decide +kernel

theorem witness_CycleBoundaries_4a : let s : State := { named with fab.free := 0 }; s.awake = true ∧ s.poolSumOk = false := by
  repeat' with_reducible apply And.intro
  all_goals first | with_reducible rfl | decide +kernel

theorem witness_CycleBoundaries_5a : let s : State := named; s.awake = true ∧ s.poolSumOk = true := by
  repeat' with_reducible apply And.intro
  all_goals first | with_reducible rfl | decide +kernel

theorem witness_CycleBoundaries_6a : let s : State := named; s.awake = true ∧ s.time.stepFrom = none := by
  repeat' with_reducible apply And.intro
  all_goals first | with_reducible rfl | decide +kernel

theorem witness_TtCycle_1a : let fwd : Bool := true; let s : State := { alone with inau.force := some twoHeld, sched.clear := 0 }; let q : Nat := ((s.nextGuard fwd).map (·.1)).getD 0; let k : Nat := ((s.nextGuard fwd).map (·.2.1)).getD 0; let r : Roster := ((s.nextGuard fwd).map (·.2.2.1)).getD aloneHeld.roster; let w : Win := ((s.nextGuard fwd).map (·.2.2.2)).getD ⟨0, 0, 0, 0, 0, 0, 0⟩; let u : State := ((s.reach q).commitBy q).progress; s.awake = true ∧ s.nextGuard fwd = some (q, k, r, w) ∧ u = ((s.reach q).commitBy q).progress ∧ u.guardian.1 = true := by
  repeat' with_reducible apply And.intro
  all_goals first | with_reducible rfl | decide +kernel

theorem witness_TtCycle_2a : let fwd : Bool := true; let s : State := { alone with inau.force := some twoHeld, sched.clear := 2 }; let q : Nat := ((s.nextGuard fwd).map (·.1)).getD 0; let k : Nat := ((s.nextGuard fwd).map (·.2.1)).getD 0; let r : Roster := ((s.nextGuard fwd).map (·.2.2.1)).getD aloneHeld.roster; let w : Win := ((s.nextGuard fwd).map (·.2.2.2)).getD ⟨0, 0, 0, 0, 0, 0, 0⟩; let u : State := ((s.reach q).commitBy q).progress; let caps : List Captured := (if u.holdsClaim then u.sched.pubs.filterMap fun e => if pubDue e.2 k r.mode && pubInSweep e.2 fwd r.loop then some ⟨e.1, e.2, natBe 4 k ++ u.img.read (pubSrc e.2) (pubLen e.2), 0⟩ else none else []); let v : State := u.guardian.2; s.awake = true ∧ s.nextGuard fwd = some (q, k, r, w) ∧ u = ((s.reach q).commitBy q).progress ∧ u.guardian.1 = false ∧ caps = (if u.holdsClaim then u.sched.pubs.filterMap fun e => if pubDue e.2 k r.mode && pubInSweep e.2 fwd r.loop then some ⟨e.1, e.2, natBe 4 k ++ u.img.read (pubSrc e.2) (pubLen e.2), 0⟩ else none else []) ∧ v = u.guardian.2 := by
  repeat' with_reducible apply And.intro
  all_goals first | with_reducible rfl | decide +kernel

theorem witness_TtCycle_3a : let fwd : Bool := true; let s : State := { alone with sched.silF := true }; let w : Win := (s.ownWin).getD ⟨0, 0, 0, 0, 0, 0, 0⟩; s.awake = true ∧ s.ownWin = some w ∧ s.cycRun = true ∧ w.d ≠ 0 ∧ (if fwd then s.sched.silF else s.sched.silR) = true ∧ s.sched.stackQ = [] := by
  repeat' with_reducible apply And.intro
  all_goals first | with_reducible rfl | decide +kernel

theorem witness_TtCycle_4a : let fwd : Bool := true; let s : State := alone; let w : Win := (s.ownWin).getD ⟨0, 0, 0, 0, 0, 0, 0⟩; let o : Nat := (if fwd then w.oF else w.oR); let u : State := s.reach (s.bnd + ns o); let v : State := (if (if fwd then u.sched.cycF else u.sched.cycR) = u.cyc then u else if fwd then { u with sched.capF := [] } else { u with sched.capR := [] }); let x : State := (if (if fwd then s.sched.silF else s.sched.silR) || (s.inau.rephase && s.inau.place.any fun (p : Int × Nat × Nat) => p.1 < (s.bnd + ns o : Int)) then v else if v.holdsClaim then v.sendWindow fwd w else if v.partnerPresent then v.sendRelays fwd w else v); s.awake = true ∧ s.ownWin = some w ∧ s.cycRun = true ∧ w.d ≠ 0 ∧ o = (if fwd then w.oF else w.oR) ∧ u = s.reach (s.bnd + ns o) ∧ v = (if (if fwd then u.sched.cycF else u.sched.cycR) = u.cyc then u else if fwd then { u with sched.capF := [] } else { u with sched.capR := [] }) ∧ x = (if (if fwd then s.sched.silF else s.sched.silR) || (s.inau.rephase && s.inau.place.any fun (p : Int × Nat × Nat) => p.1 < (s.bnd + ns o : Int)) then v else if v.holdsClaim then v.sendWindow fwd w else if v.partnerPresent then v.sendRelays fwd w else v) := by
  repeat' with_reducible apply And.intro
  all_goals first | with_reducible rfl | decide +kernel

theorem witness_TtCycle_5a : let i : Nat := 0; let s : State := { named with sched.subs := [(0, subRow)], sched.stats := [(0, { state := 1, resolved := true })], cyc := 100 }; s.awake = true ∧ subEn (s.subEntry i) = true ∧ (s.subStat i).resolved = true ∧ ((s.subStat i).state = 0 ∨ (s.subStat i).state = 1) ∧ (subAge (s.subEntry i) : Int) ≤ sdiff32 s.cyc (s.subStat i).base := by
  repeat' with_reducible apply And.intro
  all_goals first | with_reducible rfl | decide +kernel

theorem witness_TtCycle_6a : let s : State := { named.put Reg.SCHD_STAT.PENDV 1 with cyc := 9 }; s.awake = true ∧ s.flag Reg.SCHD_STAT.PENDV = true ∧ 8 ≤ sdiff32 s.cyc s.sched.annCyc := by
  repeat' with_reducible apply And.intro
  all_goals first | with_reducible rfl | decide +kernel

theorem witness_TtCycle_7a : let fwd : Bool := true; let s : State := named; s.awake = true := by
  decide +kernel

theorem witness_TtCycle_8a : let i : Nat := 0; let s : State := { named with sched.subs := [(0, subRow)], sched.stats := [(0, { state := 1, resolved := true })], cyc := 100 }; s.awake = true := by
  decide +kernel

theorem witness_TtCycle_9a : let s : State := named; s.awake = true ∧ (s.flag Reg.SCHD_STAT.PENDV && decide (8 ≤ sdiff32 s.cyc s.sched.annCyc)) = false := by
  repeat' with_reducible apply And.intro
  all_goals first | with_reducible rfl | decide +kernel

theorem witness_TtTables_1a : let v : Word := 0x10000000; let s : State := named; s.awake = true ∧ s.flag Reg.SCHD_TSTAT.BUSY = false ∧ Reg.SCHD_TSEL.WR.of v.toNat = 0 ∧ Reg.SCHD_TSEL.TAB.of v.toNat = 1 := by
  repeat' with_reducible apply And.intro
  all_goals first | with_reducible rfl | decide +kernel

theorem witness_TtTables_2a : let v : Word := 0x08000003; let s : State := { named with cycRun := true }; s.awake = true ∧ s.flag Reg.SCHD_TSTAT.BUSY = false ∧ Reg.SCHD_TSEL.WR.of v.toNat = 1 ∧ Reg.SCHD_TSEL.TAB.of v.toNat = 0 ∧ Reg.SCHD_TSEL.INDEX.of v.toNat < 64 ∧ s.cycRun = true := by
  repeat' with_reducible apply And.intro
  all_goals first | with_reducible rfl | decide +kernel

theorem witness_TtTables_3a : let m : Fin 8 := 0; let v : Word := 5; let s : State := named; s.awake = true ∧ (s.modeNow = m.val ∨ (s.flag Reg.SCHD_STAT.PENDV = true ∧ s.get Reg.SCHD_STAT.PENDMODE = m.val)) := by
  repeat' with_reducible apply And.intro
  all_goals first | with_reducible rfl | decide +kernel

theorem witness_TtTables_3b : let m : Fin 8 := 3; let v : Word := 5; let s : State := (named.put Reg.SCHD_STAT.PENDV 1).put Reg.SCHD_STAT.PENDMODE 3; s.awake = true ∧ (s.modeNow = m.val ∨ (s.flag Reg.SCHD_STAT.PENDV = true ∧ s.get Reg.SCHD_STAT.PENDMODE = m.val)) := by
  repeat' with_reducible apply And.intro
  all_goals first | with_reducible rfl | decide +kernel

theorem witness_TtTables_4a : let m : Fin 8 := 3; let v : Word := 5; let s : State := named; s.awake = true ∧ s.modeNow ≠ m.val ∧ m ≠ 0 ∧ (s.flag Reg.SCHD_STAT.PENDV = false ∨ s.get Reg.SCHD_STAT.PENDMODE ≠ m.val) := by
  repeat' with_reducible apply And.intro
  all_goals first | with_reducible rfl | decide +kernel

theorem witness_TtTables_5a : let v : Word := 0x80000001; let s : State := named; s.awake = true ∧ bit v.toNat 31 = true ∧ s.get Reg.SCHD_MODEREQ.MRSTAT ≠ 1 ∧ s.isLeader = false ∧ s.cmd.slots = [] := by
  repeat' with_reducible apply And.intro
  all_goals first | with_reducible rfl | decide +kernel

theorem witness_TtTables_6a : let v : Word := 0x80000001; let s : State := alone; let m : Nat := 1; let u : State := (s.storeWord Reg.SCHD_MODEREQ.MODE.addr v.toNat).put Reg.SCHD_MODEREQ.MRSTAT 1; s.awake = true ∧ bit v.toNat 31 = true ∧ s.get Reg.SCHD_MODEREQ.MRSTAT ≠ 1 ∧ s.isLeader = true ∧ m = Reg.SCHD_MODEREQ.MODE.of v.toNat ∧ u = (s.storeWord Reg.SCHD_MODEREQ.MODE.addr v.toNat).put Reg.SCHD_MODEREQ.MRSTAT 1 := by
  repeat' with_reducible apply And.intro
  all_goals first | with_reducible rfl | decide +kernel

theorem witness_TtTables_7a : let s : State := { alone with cmd.notices := [modeFrame] }; let f : Bytes := modeFrame; let s' : State := ((s.popNotice 0x50).map (·.2)).getD s; s.awake = true ∧ s.popNotice 0x50 = some (f, s') ∧ (s'.roster.any fun r => r.leader = hSrc f) = true ∧ byteAt (pkParams (wrPacket (payload f))) 0 ≤ 7 ∧ fieldAt (pkParams (wrPacket (payload f))) 2 2 = s'.gen ∧ fieldAt (pkParams (wrPacket (payload f))) 4 4 = s'.modeDesc (byteAt (pkParams (wrPacket (payload f))) 0) := by
  repeat' with_reducible apply And.intro
  all_goals first | with_reducible rfl | decide +kernel

theorem witness_TtTables_8a : let v : Word := 5; let s : State := named; s.awake = true := by
  decide +kernel

theorem witness_TtTables_9a : let v : Word := 5; let s : State := { alone with inau.force := some { aloneHeld with roster := { aloneHeld.roster with mode := 3 } } }; s.awake = true ∧ s.modeNow ≠ 0 ∧ (s.flag Reg.SCHD_STAT.PENDV = false ∨ s.get Reg.SCHD_STAT.PENDMODE ≠ 0) := by
  repeat' with_reducible apply And.intro
  all_goals first | with_reducible rfl | decide +kernel

theorem witness_TtTables_10a : let s : State := { alone with cmd.notices := [modeFrame] }; let f : Bytes := modeFrame; let u : State := ((s.popNotice 0x50).map (·.2)).getD s; s.awake = true ∧ s.popNotice 0x50 = some (f, u) := by
  repeat' with_reducible apply And.intro
  all_goals first | with_reducible rfl | decide +kernel

theorem witness_TtTables_11a : let s : State := { (alone.put Reg.INAU_GEN.GEN 77) with cmd.notices := [modeFrame] }; let f : Bytes := modeFrame; let u : State := ((s.popNotice 0x50).map (·.2)).getD s; let p : Bytes := pkParams (wrPacket (payload f)); s.awake = true ∧ s.popNotice 0x50 = some (f, u) ∧ p = pkParams (wrPacket (payload f)) ∧ (7 < byteAt p 0 ∨ fieldAt p 2 2 ≠ u.gen ∨ fieldAt p 4 4 ≠ u.modeDesc (byteAt p 0)) := by
  repeat' with_reducible apply And.intro
  all_goals first | with_reducible rfl | decide +kernel

theorem witness_TtTables_12a : let s : State := named; s.awake = true ∧ s.popNotice 0x50 = none := by
  repeat' with_reducible apply And.intro
  all_goals first | with_reducible rfl | decide +kernel

theorem witness_DelayMeasurement_1a : let n : Lane := 0; let q : Nat := 50; let s : State := (laneIn 6).onLane 0 fun l => { l with pdAt := some 50 }; let u : State := (s.reach q).onLane n (fun l => { l with pdAt := some (max s.now q + if !s.flag (Reg.SYNC_PD.MEAS.ix n) || (s.lane n).reform then us 20 else ms 1), pseq := (l.pseq + 1) % 65536, t1 := none }); s.awake = true ∧ (s.lane n).pdAt = some q ∧ s.laneUp n = true ∧ u = (s.reach q).onLane n (fun l => { l with pdAt := some (max s.now q + if !s.flag (Reg.SYNC_PD.MEAS.ix n) || (s.lane n).reform then us 20 else ms 1), pseq := (l.pseq + 1) % 65536, t1 := none }) := by
  repeat' with_reducible apply And.intro
  all_goals first | with_reducible rfl | decide +kernel

theorem witness_DelayMeasurement_2a : let n : Lane := 0; let f : Bytes := mgmtFrame 0x13 16; let ago : Nat := 0; let st : Bool := true; let s : State := laneIn 6; let m : Bool := s.flag (Reg.SYNC_PD.MEAS.ix n); s.awake = true ∧ s.laneUp n = true ∧ headerCheck f = .ok ∧ hCls f = .mgmt ∧ hType f = 0x13 ∧ hLen f = 16 ∧ m = s.flag (Reg.SYNC_PD.MEAS.ix n) := by
  repeat' with_reducible apply And.intro
  all_goals first | with_reducible rfl | decide +kernel

theorem witness_DelayMeasurement_2b : let n : Lane := 0; let f : Bytes := mgmtFrame 0x13 16; let ago : Nat := 0; let st : Bool := true; let s : State := ((laneIn 6).put (Reg.SYNC_PD.MEAS.ix 0) 1).put (Reg.SYNC_PD.PD.ix 0) 7; let m : Bool := s.flag (Reg.SYNC_PD.MEAS.ix n); s.awake = true ∧ s.laneUp n = true ∧ headerCheck f = .ok ∧ hCls f = .mgmt ∧ hType f = 0x13 ∧ hLen f = 16 ∧ m = s.flag (Reg.SYNC_PD.MEAS.ix n) := by
  repeat' with_reducible apply And.intro
  all_goals first | with_reducible rfl | decide +kernel

theorem witness_DelayMeasurement_3a : let n : Lane := 0; let f : Bytes := mgmtFrame 0x13 4; let ago : Nat := 0; let st : Bool := true; let s : State := laneIn 6; s.awake = true ∧ s.laneUp n = true ∧ headerCheck f = .ok ∧ hCls f = .mgmt ∧ hType f = 0x13 ∧ hLen f ≠ 16 := by
  repeat' with_reducible apply And.intro
  all_goals first | with_reducible rfl | decide +kernel

theorem witness_DelayMeasurement_4a : let n : Lane := 0; let f : Bytes := mkFrame { cls := .mgmt, type := 0x14 } ([0xFF, 0xFF, 0x80] ++ List.replicate 13 0); let ago : Nat := 0; let t1 : Nat := 0; let s : State := (laneIn 6).onLane 0 fun l => { l with t1 := some 0 }; s.awake = true ∧ s.laneUp n = true ∧ headerCheck f = .ok ∧ hCls f = .mgmt ∧ hType f = 0x14 ∧ hLen f = 16 ∧ bit (byteAt (payload f) 2) 6 = false ∧ bit (byteAt (payload f) 2) 7 = true ∧ (s.lane n).t1 = some t1 ∧ fieldAt (payload f) 0 2 = ((s.lane n).pseq + 65535) % 65536 ∧ signed 48 (fieldAt (payload f) 4 6) ≤ us 50 ∧ -32 ≤ tdivI ((((s.now - ago : Nat) : Int) - t1) - signed 48 (fieldAt (payload f) 4 6)) 2 ∧ tdivI ((((s.now - ago : Nat) : Int) - t1) - signed 48 (fieldAt (payload f) 4 6)) 2 ≤ 80000 := by
  repeat' with_reducible apply And.intro
  all_goals first | with_reducible rfl | decide +kernel

theorem witness_DelayMeasurement_5a : let v : Word := 5; let s : State := named; s.awake = true ∧ bit v.toNat 2 = true := by
  repeat' with_reducible apply And.intro
  all_goals first | with_reducible rfl | decide +kernel

theorem witness_DelayMeasurement_6a : let n : Lane := 0; let f : Bytes := mgmtFrame 0x14 16; let ago : Nat := 0; let st : Bool := true; let s : State := laneIn 6; s.awake = true ∧ s.laneUp n = true ∧ headerCheck f = .ok ∧ hCls f = .mgmt ∧ hType f = 0x14 := by
  repeat' with_reducible apply And.intro
  all_goals first | with_reducible rfl | decide +kernel

theorem witness_DelayMeasurement_7a : let n : Lane := 0; let f : Bytes := mgmtFrame 0x10 16; let ago : Nat := 0; let st : Bool := true; let s : State := laneIn 6; s.awake = true ∧ (s.laneUp n = false ∨ headerCheck f ≠ .ok ∨ hCls f ≠ .mgmt ∨ (hType f ≠ 0x13 ∧ hType f ≠ 0x14)) := by
  repeat' with_reducible apply And.intro
  all_goals first | with_reducible rfl | decide +kernel

theorem witness_DelayMeasurement_8a : let n : Lane := 0; let s : State := laneIn 6; s.awake = true ∧ ((s.lane n).pdAt = none ∨ s.laneUp n = false) := by
  repeat' with_reducible apply And.intro
  all_goals first | with_reducible rfl | decide +kernel

theorem witness_DelayMeasurement_9a : let v : Word := 1; let s : State := named; s.awake = true ∧ bit v.toNat 2 = false := by
  repeat' with_reducible apply And.intro
  all_goals first | with_reducible rfl | decide +kernel

theorem witness_TrainTime_1a : let s : State := named.put Reg.TIME_STAT.CATCHUP 1; s.awake = true ∧ s.flag Reg.TIME_STAT.CATCHUP = true := by
  repeat' with_reducible apply And.intro
  all_goals first | with_reducible rfl | decide +kernel

theorem witness_TrainTime_2a : let s : State := { alone with cmd.notices := [timeFrame 9 5 80 5] }; let f : Bytes := timeFrame 9 5 80 5; let u : State := ((s.popNotice 0x51).map (·.2)).getD s; s.awake = true ∧ s.popNotice 0x51 = some (f, u) ∧ ((u.roster.any fun r => r.timeref = hSrc f && hSrc f ≠ 0) = false ∨ hGen f ≠ u.gen) := by
  repeat' with_reducible apply And.intro
  all_goals first | with_reducible rfl | decide +kernel

theorem witness_TrainTime_3a : let s : State := { alone with time.map := some (5, 0), cmd.notices := [timeFrame 1 5 80 5] }; let f : Bytes := timeFrame 1 5 80 5; let u : State := ((s.popNotice 0x51).map (·.2)).getD s; let p : Bytes := pkParams (wrPacket (payload f)); let n : Nat := 5; let k0 : Nat := 5; let m0 : Int := 0; s.awake = true ∧ s.popNotice 0x51 = some (f, u) ∧ (u.roster.any fun r => r.timeref = hSrc f && hSrc f ≠ 0) = true ∧ hGen f = u.gen ∧ p = pkParams (wrPacket (payload f)) ∧ n = fieldAt p 0 4 ∧ fieldAt p 24 4 = n ∧ signed 32 (fieldAt p 16 4) = u.sync.sigma ∧ fieldAt p 38 4 = 0 ∧ u.time.sigNext = none ∧ u.time.map = some (k0, m0) ∧ wrapT ((m0 + sdiff32 n k0 * u.tLen) / 16 * 16 - ofSecNs (fieldAt p 4 6) (fieldAt p 10 4)) ≠ 0 := by
  repeat' with_reducible apply And.intro
  all_goals first | with_reducible rfl | decide +kernel

theorem witness_TrainTime_4a : let tod : Nat := 9; let s : State := { named.put Reg.TIME_REF.SRC 1 with time.todArmed := some 9 }; let u : State := (s.stampEdge (s.get Reg.TIME_REF.PPSIN) true).refreshRef; s.active = true ∧ s.refSrc = 1 ∧ s.flag Reg.TIME_CTRL.EN = true ∧ u = (s.stampEdge (s.get Reg.TIME_REF.PPSIN) true).refreshRef ∧ u.time.map = none ∧ u.time.todArmed = some tod ∧ u.time.refSeen = false := by
  repeat' with_reducible apply And.intro
  all_goals first | with_reducible rfl | decide +kernel

theorem witness_TrainTime_5a : let tod : Nat := 9; let s : State := { (alone.put Reg.TIME_REF.SRC 1) with time.todArmed := some 9, time.map := some (5, 0), time.noonSeen := true }; let u : State := (s.stampEdge (s.get Reg.TIME_REF.PPSIN) true).refreshRef; let m : Int := (u.mapAt u.now).getD 0; s.active = true ∧ s.refSrc = 1 ∧ s.flag Reg.TIME_CTRL.EN = true ∧ u = (s.stampEdge (s.get Reg.TIME_REF.PPSIN) true).refreshRef ∧ u.mapAt u.now = some m ∧ u.refActs = true ∧ u.time.todArmed = some tod := by
  repeat' with_reducible apply And.intro
  all_goals first | with_reducible rfl | decide +kernel

theorem witness_TrainTime_6a : let m : Bytes := [0, 2, 0, 44] ++ List.replicate 16 0 ++ [0, 0, 0, 0, 0, 0, 0, 5, 0, 1] ++ List.replicate 14 0; let p : Port := 0; let ago : Nat := 0; let d : Int := 3; let s : State := ((({ alone with time.map := some (5, 0), time.noonSeen := true } : State).put Reg.TIME_REF.SRC 2).put (Reg.TIME_PTP.PEN.ix 0) 1).put (Reg.CONS_STAT.LINK.at 0) 1 |>.onPtp 0 fun t => { t with parent := some (ptpIdent m), masters := [⟨ptpIdent m, 0, true, [0, 0]⟩], delay := some 3 }; let o : Int := wrapT (s.ptpLocal (((s.now - ago : Nat) : Int) - ns (s.pcor p).1) - (ptpTime m + ptpCorr m) - d); let u : State := (s.onPtp p fun t => { t with sync := none, last := some (ptpTime m + ptpCorr m, ((s.now - ago : Nat) : Int) - ns (s.pcor p).1), syncAt := some s.now }).refreshRef; s.active = true ∧ s.ptpOn p = true ∧ byteAt m 1 % 16 = 2 ∧ ptpDom m = s.ptpDomain ∧ 44 ≤ m.length ∧ ptpType m = 0 ∧ ptpTwo m = false ∧ ptpAlt m = false ∧ s.ptpSlave p = true ∧ (s.ptpOf p).parent = some (ptpIdent m) ∧ (s.ptpOf p).delay = some d ∧ s.refSrc = 2 ∧ s.get Reg.TIME_REF.PORT = p.val ∧ o = wrapT (s.ptpLocal (((s.now - ago : Nat) : Int) - ns (s.pcor p).1) - (ptpTime m + ptpCorr m) - d) ∧ u = (s.onPtp p fun t => { t with sync := none, last := some (ptpTime m + ptpCorr m, ((s.now - ago : Nat) : Int) - ns (s.pcor p).1), syncAt := some s.now }).refreshRef ∧ u.time.map.isSome = true ∧ u.refActs = true := by
  repeat' with_reducible apply And.intro
  all_goals first | with_reducible rfl | decide +kernel

theorem witness_TrainTime_7a : let q : Nat := 0; let s : State := { ((alone.put Reg.TIME_REF.SRC 1).put Reg.TIME_STAT.TREF 1) with time.ppsAt := some 0, time.noonSeen := true, time.sigmaF := 3 }; let u : State := s.refreshRef; s.awake = true ∧ u = s.refreshRef ∧ u.refActs = true ∧ u.get Reg.TIME_STAT.REFST ≠ 3 ∧ u.refSrc = 1 ∧ u.time.ppsAt = some q ∧ u.time.sigNext = none ∧ u.time.sigmaF ≠ u.sync.sigma := by
  repeat' with_reducible apply And.intro
  all_goals first | with_reducible rfl | decide +kernel

theorem witness_TrainTime_8a : let s : State := { ((alone.put Reg.TIME_REF.SRC 1).put Reg.TIME_STAT.TREF 1) with time.offsets := [16], time.noonSeen := true, time.notHeld := true }; let u : State := s.refreshRef; let v : State := ({ u with time.offsets := [] } : State).steerBy (meanT u.time.offsets); s.awake = true ∧ s.time.notHeld = true ∧ u = s.refreshRef ∧ u.refActs = true ∧ u.get Reg.TIME_STAT.REFST ≠ 3 ∧ u.time.offsets ≠ [] ∧ u.time.epNext = none ∧ v = ({ u with time.offsets := [] } : State).steerBy (meanT u.time.offsets) := by
  repeat' with_reducible apply And.intro
  all_goals first | with_reducible rfl | decide +kernel

theorem witness_TrainTime_9a : let s : State := { alone with time.noonSeen := true, sync.sigma := 3, time.notHeld := true }; let u : State := s.refreshRef; let v : State := ({ u with time.offsets := [] } : State).announceSigma 0; s.awake = true ∧ s.time.notHeld = true ∧ u = s.refreshRef ∧ u.isTref = true ∧ u.time.noonSeen = true ∧ u.refActs = false ∧ v = ({ u with time.offsets := [] } : State).announceSigma 0 := by
  repeat' with_reducible apply And.intro
  all_goals first | with_reducible rfl | decide +kernel

theorem witness_TrainTime_10a : let v : Word := 1; let s : State := named; s.awake = true := by
  decide +kernel

theorem witness_TrainTime_11a : let v : Word := 5; let s : State := { ((alone.put Reg.TIME_REF.SRC 1).put Reg.TIME_STAT.REFST 4) with time.noonSeen := true }; s.awake = true ∧ bit v.toNat 2 = true ∧ bit v.toNat 0 = true ∧ s.isTref = true ∧ s.time.noonSeen = true ∧ s.refSrc ≠ 0 ∧ s.get Reg.TIME_STAT.REFST = 4 := by
  repeat' with_reducible apply And.intro
  all_goals first | with_reducible rfl | decide +kernel

theorem witness_TrainTime_12a : let s : State := { alone with cmd.notices := [timeFrame 9 5 80 5] }; let f : Bytes := timeFrame 9 5 80 5; let u : State := ((s.popNotice 0x51).map (·.2)).getD s; s.awake = true ∧ s.popNotice 0x51 = some (f, u) := by
  repeat' with_reducible apply And.intro
  all_goals first | with_reducible rfl | decide +kernel

theorem witness_TrainTime_13a : let s : State := named; s.awake = true := by
  decide +kernel

theorem witness_TrainTime_14a : let s : State := named; s.active = true := by
  decide +kernel

theorem witness_TrainTime_15a : let p : Port := 0; let x : PtpSync := ⟨[], none⟩; let ago : Nat := 0; let s : State := named; s.active = true := by
  decide +kernel

theorem witness_TrainTime_16a : let s : State := ((({ alone with time.map := some (5, 0), time.noonSeen := true } : State).put Reg.TIME_REF.SRC 2).put (Reg.TIME_PTP.PEN.ix 0) 1).put (Reg.CONS_STAT.LINK.at 0) 1 |>.onPtp 0 fun t => { t with parent := some 9, masters := [⟨9, 0, true, [0, 0]⟩], delay := some 3 }; let u : State := s.refreshRef; let q : Nat := (u.ptpLossAt (u.get Reg.TIME_REF.PORT)).getD 0; s.awake = true ∧ u = s.refreshRef ∧ u.refActs = true ∧ u.get Reg.TIME_STAT.REFST ≠ 3 ∧ u.refSrc ≠ 1 ∧ u.ptpLossAt (u.get Reg.TIME_REF.PORT) = some q := by
  repeat' with_reducible apply And.intro
  all_goals first | with_reducible rfl | decide +kernel

theorem witness_TrainTime_17a : let s : State := named; let u : State := s.refreshRef; s.awake = true ∧ u = s.refreshRef ∧ (u.refActs = false ∨ u.get Reg.TIME_STAT.REFST = 3) := by
  repeat' with_reducible apply And.intro
  all_goals first | with_reducible rfl | decide +kernel

theorem witness_TrainTime_18a : let v : Word := 1; let s : State := named; s.awake = true := by
  decide +kernel

theorem witness_TimePorts_1a : let p : Port := 0; let m : Bytes := [1, 2, 0, 44, 0] ++ List.replicate 39 0; let ago : Nat := 0; let s : State := ((named.put Reg.TIME_CTRL.EN 1).put (Reg.TIME_PTP.PEN.ix 0) 1).put (Reg.CONS_STAT.LINK.at 0) 1; s.active = true ∧ s.ptpOn p = true ∧ byteAt m 1 % 16 = 2 ∧ ptpDom m = s.ptpDomain ∧ 34 ≤ m.length ∧ ptpType m = 1 ∧ s.ptpPeer p = false ∧ s.ptpSlave p = false := by
  repeat' with_reducible apply And.intro
  all_goals first | with_reducible rfl | decide +kernel

theorem witness_TimePorts_2a : let p : Port := 0; let s : State := ((named.put Reg.TIME_CTRL.EN 1).put (Reg.TIME_PTP.PEN.ix 0) 1).put (Reg.CONS_STAT.LINK.at 0) 1; s.active = true := by
  decide +kernel

theorem witness_TimePorts_3a : let s : State := ethSending; let p : Port := 0; let x : PTx := (((s.patchPtp 0).endEth 0).map (·.1)).getD ethTx; let u : State := (((s.patchPtp 0).endEth 0).map (·.2)).getD named; s.active = true ∧ (s.patchPtp p).endEth p = some (x, u) := by
  repeat' with_reducible apply And.intro
  all_goals first | with_reducible rfl | decide +kernel

theorem witness_TimePorts_4a : let n : Fin 4 := 1; let v : Word := 0; let s : State := named; let w : State := s.storeWord (Reg.TPO_CTRL.ARM.ix 1).addr 0; s.awake = true ∧ w = s.storeWord (Reg.TPO_CTRL.ARM.ix n).addr v.toNat ∧ bit v.toNat 0 = false := by
  repeat' with_reducible apply And.intro
  all_goals first | with_reducible rfl | decide +kernel

theorem witness_TimePorts_5a : let n : Fin 4 := 2; let g : Nat := 100; let s : State := named.onTpo 2 fun t => { t with target := some 100, width := 8 }; s.active = true ∧ (s.tpo n).target = some g ∧ (s.tpo n).periodic = false := by
  repeat' with_reducible apply And.intro
  all_goals first | with_reducible rfl | decide +kernel

theorem witness_TimePorts_6a : let n : Fin 4 := 2; let g : Nat := 100; let s : State := named.onTpo 2 fun t => { t with endAt := some 100 }; s.active = true ∧ (s.tpo n).endAt = some g := by
  repeat' with_reducible apply And.intro
  all_goals first | with_reducible rfl | decide +kernel

theorem witness_TimePorts_7a : let n : Fin 4 := 0; let r : Bool := true; let s : State := named.put (Reg.TCI_CTRL.EDGE.ix 0) 1; s.active = true ∧ s.edgeSelected n r = true ∧ ((s.tci n).last.any fun x => s.now - x < ns 40) = false ∧ (s.tci n).fifo.length < 16 := by
  repeat' with_reducible apply And.intro
  all_goals first | with_reducible rfl | decide +kernel

theorem witness_TimePorts_8a : let n : Fin 4 := 0; let r : Bool := true; let s : State := (named.put (Reg.TCI_CTRL.EDGE.ix 0) 1).onTci 0 fun t => { t with ovfRec := true, fifo := List.replicate 16 (0, 0, true, false, false) }; s.active = true ∧ s.edgeSelected n r = true ∧ (((s.tci n).last.any fun x => s.now - x < ns 40) || 16 ≤ (s.tci n).fifo.length) = true := by
  repeat' with_reducible apply And.intro
  all_goals first | with_reducible rfl | decide +kernel

theorem witness_TimePorts_8b : let n : Fin 4 := 0; let r : Bool := true; let s : State := (named.put (Reg.TCI_CTRL.EDGE.ix 0) 1).onTci 0 fun t => { t with last := some 0 }; s.active = true ∧ s.edgeSelected n r = true ∧ (((s.tci n).last.any fun x => s.now - x < ns 40) || 16 ≤ (s.tci n).fifo.length) = true := by
  repeat' with_reducible apply And.intro
  all_goals first | with_reducible rfl | decide +kernel

theorem witness_TimePorts_9a : let v : Word := 0; let s : State := named; let w : State := s.storeWord Reg.TIME_MBSEL.SRC.addr 0; s.awake = true ∧ w = s.storeWord Reg.TIME_MBSEL.SRC.addr v.toNat := by
  repeat' with_reducible apply And.intro
  all_goals first | with_reducible rfl | decide +kernel

theorem witness_TimePorts_10a : let n : Fin 4 := 1; let s : State := ((named.put Reg.TIME_MBSEL.SRC 2).put Reg.TIME_MBSEL.INDEX 1).put Reg.TIME_MBSTAT.VALID 1 |>.onTci 1 fun t => { t with fifo := [(0, 0, true, false, false), (9, 0, true, false, false)] }; let x : Int × Nat × Bool × Bool × Bool := (0, 0, true, false, false); let l : List (Int × Nat × Bool × Bool × Bool) := [(9, 0, true, false, false)]; s.awake = true ∧ s.get Reg.TIME_MBSEL.SRC = 2 ∧ s.flag Reg.TIME_MBSTAT.VALID = true ∧ s.get Reg.TIME_MBSEL.INDEX = n.val ∧ (s.tci n).fifo = x :: l ∧ l ≠ [] ∧ l.length < 16 := by
  repeat' with_reducible apply And.intro
  all_goals first | with_reducible rfl | decide +kernel

theorem witness_TimePorts_11a : let p : Port := 0; let m : Bytes := []; let ago : Nat := 0; let s : State := named; s.active = true := by
  decide +kernel

theorem witness_TimePorts_12a : let p : Port := 0; let s : State := named; s.active = true ∧ (s.patchPtp p).endEth p = none := by
  repeat' with_reducible apply And.intro
  all_goals first | with_reducible rfl | decide +kernel

theorem witness_TimePorts_13a : let n : Fin 4 := 1; let v : Word := 1; let s : State := named.put (Reg.TPO_TGTLO.TGTLO.ix 1) 5; let w : State := s.storeWord (Reg.TPO_CTRL.ARM.ix n).addr v.toNat; let g : Nat := w.get (Reg.TPO_TGTHI.TGTHI.ix n) * 2 ^ 32 + w.get (Reg.TPO_TGTLO.TGTLO.ix n); s.awake = true ∧ w = s.storeWord (Reg.TPO_CTRL.ARM.ix n).addr v.toNat ∧ bit v.toNat 0 = true ∧ g = w.get (Reg.TPO_TGTHI.TGTHI.ix n) * 2 ^ 32 + w.get (Reg.TPO_TGTLO.TGTLO.ix n) ∧ sdiff40 (shortNs w.presented) g < 0 := by
  repeat' with_reducible apply And.intro
  all_goals first | with_reducible rfl | decide +kernel

theorem witness_TimePorts_14a : let n : Fin 4 := 1; let v : Word := 1; let s : State := named.put (Reg.TPO_TGTLO.TGTLO.ix 1) 0; let w : State := s.storeWord (Reg.TPO_CTRL.ARM.ix n).addr v.toNat; let g : Nat := w.get (Reg.TPO_TGTHI.TGTHI.ix n) * 2 ^ 32 + w.get (Reg.TPO_TGTLO.TGTLO.ix n); s.awake = true ∧ w = s.storeWord (Reg.TPO_CTRL.ARM.ix n).addr v.toNat ∧ bit v.toNat 0 = true ∧ g = w.get (Reg.TPO_TGTHI.TGTHI.ix n) * 2 ^ 32 + w.get (Reg.TPO_TGTLO.TGTLO.ix n) ∧ 0 ≤ sdiff40 (shortNs w.presented) g := by
  repeat' with_reducible apply And.intro
  all_goals first | with_reducible rfl | decide +kernel

theorem witness_TimePorts_15a : let n : Fin 4 := 2; let g : Nat := 100; let s : State := named.onTpo 2 fun t => { t with target := some 100, width := 8, period := 1000, periodic := true }; s.active = true ∧ (s.tpo n).target = some g ∧ (s.tpo n).periodic = true := by
  repeat' with_reducible apply And.intro
  all_goals first | with_reducible rfl | decide +kernel

theorem witness_TimePorts_16a : let n : Fin 4 := 2; let r : Bool := true; let s : State := named; s.active = true := by
  decide +kernel

theorem witness_TimePorts_17a : let s : State := named; s.awake = true := by
  decide +kernel

theorem witness_ConsistLinks_1a : let p : Port := 2; let v : Fin 3 := 1; let s : State := named.put (Reg.CONS_CTRL.EN.at 2) 1; s.active = true ∧ s.flag (Reg.CONS_CTRL.EN.at p) = true ∧ s.linkUp p = false := by
  repeat' with_reducible apply And.intro
  all_goals first | with_reducible rfl | decide +kernel

theorem witness_ConsistLinks_2a : let p : Port := 2; let s : State := named.put (Reg.CONS_STAT.LINK.at 2) 1; s.active = true ∧ s.linkUp p = true ∧ (s.port p).rx = none ∧ (s.port p).frag = none ∧ (s.port p).tx = none ∧ (s.port p).txHeld = none ∧ (s.port p).txq = [] := by
  repeat' with_reducible apply And.intro
  all_goals first | with_reducible rfl | decide +kernel

theorem witness_ConsistLinks_3a : let p : Port := 2; let l : Bytes := List.replicate 12 0 ++ [0x88, 0x08] ++ List.replicate 50 0; let ago : Nat := 0; let s : State := named.put (Reg.CONS_STAT.LINK.at 2) 1; s.active = true ∧ s.linkUp p = true ∧ (s.port p).rx = none ∧ 64 ≤ l.length ∧ State.noDest (s.steer p l) = false := by
  repeat' with_reducible apply And.intro
  all_goals first | with_reducible rfl | decide +kernel

theorem witness_ConsistLinks_4a : let p : Port := 2; let l : Bytes := List.replicate 64 0; let ago : Nat := 0; let s : State := (named.put (Reg.CONS_STAT.LINK.at 2) 1).put (Reg.CONS_DEFA.W2.at 2) 0x80000000; s.active = true ∧ s.linkUp p = true ∧ (s.port p).rx = none ∧ 64 ≤ l.length ∧ State.noDest (s.steer p l) = true := by
  repeat' with_reducible apply And.intro
  all_goals first | with_reducible rfl | decide +kernel

theorem witness_ConsistLinks_5a : let p : Port := 2; let b : Bytes := [1]; let r : EthRx := ethIn; let s : State := ethOpen; s.active = true ∧ (s.port p).rx = some r ∧ r.skip = false ∧ r.dest.ctl = false ∧ r.fid = none ∧ (s.draw (State.ethClass r.dest) (4 + p) 1).isSome = true := by
  repeat' with_reducible apply And.intro
  all_goals first | with_reducible rfl | decide +kernel

theorem witness_ConsistLinks_6a : let p : Port := 2; let b : Bytes := [1]; let r : EthRx := ethIn; let s : State := ethOpen; s.active = true ∧ (s.port p).rx = some r ∧ r.skip = false ∧ r.fid = none := by
  repeat' with_reducible apply And.intro
  all_goals first | with_reducible rfl | decide +kernel

theorem witness_ConsistLinks_7a : let p : Port := 2; let b : Bytes := [1]; let e : Bool := true; let ago : Nat := 0; let s : State := named.put (Reg.CONS_STAT.LINK.at 2) 1; s.active = true ∧ s.linkUp p = true ∧ (s.port p).rx = none ∧ b.length < 64 := by
  repeat' with_reducible apply And.intro
  all_goals first | with_reducible rfl | decide +kernel

theorem witness_ConsistLinks_8a : let p : Port := 2; let b : Bytes := fcsBytes (List.replicate 64 0); let ago : Nat := 0; let r : EthRx := ethHeld; let s : State := ethFull; s.active = true ∧ s.linkUp p = true ∧ (s.port p).rx = some r ∧ r.skip = false ∧ (r.bytes ++ b).length ≤ s.maxLen p ∧ bufsFor (r.bytes ++ b).length ≤ s.rxHolds r ∧ r.dest.ctl = false ∧ ethFcsOk (r.bytes ++ b) = true := by
  repeat' with_reducible apply And.intro
  all_goals first | with_reducible rfl | decide +kernel

theorem witness_ConsistLinks_9a : let p : Port := 2; let r : Fin 64 := 3; let v : Word := 5; let s : State := named; s.awake = true := by
  decide +kernel

theorem witness_ConsistLinks_10a : let p : Port := 2; let b : Bytes := [1]; let r : EthRx := ethIn; let s : State := { ethOpen with fab.free := 0, fab.frames := [{ fid := 9, ingress := 6, cls := .mgmt, bytes := [], complete := false, nMin := 16384, nSh := 16384 }] }; s.active = true ∧ (s.port p).rx = some r ∧ r.skip = false ∧ r.dest.ctl = false ∧ r.fid = none ∧ s.draw (State.ethClass r.dest) (4 + p) 1 = none := by
  repeat' with_reducible apply And.intro
  all_goals first | with_reducible rfl | decide +kernel

theorem witness_ConsistLinks_11a : let p : Port := 2; let b : Bytes := [1, 2, 3, 4]; let ago : Nat := 0; let r : EthRx := ethHeld; let s : State := ethFull; s.active = true ∧ s.linkUp p = true ∧ (s.port p).rx = some r ∧ r.skip = false ∧ (r.bytes ++ b).length ≤ s.maxLen p ∧ bufsFor (r.bytes ++ b).length ≤ s.rxHolds r ∧ ethFcsOk (r.bytes ++ b) = false := by
  repeat' with_reducible apply And.intro
  all_goals first | with_reducible rfl | decide +kernel

theorem witness_ConsistLinks_12a : let p : Port := 2; let b : Bytes := [1, 2, 3, 4]; let ago : Nat := 0; let r : EthRx := ethHeld; let s : State := ethFull; s.active = true ∧ s.linkUp p = true ∧ (s.port p).rx = some r ∧ r.skip = false ∧ (r.bytes ++ b).length ≤ s.maxLen p ∧ bufsFor (r.bytes ++ b).length ≤ s.rxHolds r := by
  repeat' with_reducible apply And.intro
  all_goals first | with_reducible rfl | decide +kernel

theorem witness_ConsistLinks_13a : let p : Port := 2; let v : Fin 3 := 1; let full : Bool := false; let sync : Bool := true; let s : State := named; s.active = true := by
  decide +kernel

theorem witness_ConsistLinks_14a : let p : Port := 2; let b : Bytes := [1]; let ago : Nat := 0; let e : EthEnd := ⟨false, .bad⟩; let s : State := ethOpen; let u : State := s.openCont p; s.active = true ∧ u = s.openCont p := by
  repeat' with_reducible apply And.intro
  all_goals first | with_reducible rfl | decide +kernel

theorem witness_ConsistTransmit_1a : let p : Port := 0; let it : PItem := ethTx.item; let s : State := { named.put (Reg.CONS_STAT.LINK.at 0) 1 with ports := named.ports.setIfInBounds 0 { txq := [ethTx.item] } }; s.active = true ∧ s.linkUp p = true ∧ s.dimmed = false ∧ (s.port p).holdAt = none ∧ (s.port p).pauseOut = [] ∧ (s.port p).tx = none ∧ (s.port p).txHeld = none ∧ s.bestHead p [7, 6, 5, 4, 3, 2, 1, 0] = some it := by
  repeat' with_reducible apply And.intro
  all_goals first | with_reducible rfl | decide +kernel

theorem witness_ConsistTransmit_2a : let p : Port := 0; let t0 : Nat := 90; let s : State := { named with ports := named.ports.setIfInBounds 0 { txq := [{ ethTx.item with launch := some 90 }] } }; s.active = true ∧ ((s.port p).txq.filterMap (·.launch)).min? = some t0 := by
  repeat' with_reducible apply And.intro
  all_goals first | with_reducible rfl | decide +kernel

theorem witness_ConsistTransmit_3a : let p : Port := 1; let s : State := named.onPort 1 fun t => { t with verifying := true }; s.active = true ∧ (s.port p).verifying = true := by
  repeat' with_reducible apply And.intro
  all_goals first | with_reducible rfl | decide +kernel

theorem witness_ConsistTransmit_4a : let p : Port := 1; let s : State := named.onPort 1 fun t => { t with verifying := true }; s.active = true ∧ (s.port p).verifying = true := by
  repeat' with_reducible apply And.intro
  all_goals first | with_reducible rfl | decide +kernel

theorem witness_ConsistTransmit_5a : let p : Port := 0; let q : Fin 8 := 1; let d : Bytes := txDesc; let n : Nat := 1; let s : State := (named.put ((Reg.CONS_TXQ_CFG.EN.at 0).ix 1) 1).put ((Reg.CONS_TXQ_TAIL.TAIL.at 0).ix 1) 1; let i : Nat := 0; let o : List Bytes := [txDesc]; s.active = true ∧ s.flag ((Reg.CONS_TXQ_CFG.EN.at p).ix q) = true ∧ s.dimmed = false ∧ s.portOff = false ∧ s.linkUp p = false ∧ s.ringAbove p q = false ∧ i = (s.get ((Reg.CONS_TXQ_HEAD.HEAD.at p).ix q) + s.txInFlight p q) % s.txSize p q ∧ o = (State.descList d).take (s.txOwned p q) ∧ o ≠ [] ∧ State.txShape o 0 o = .good n := by
  repeat' with_reducible apply And.intro
  all_goals first | with_reducible rfl | decide +kernel

theorem witness_ConsistTransmit_6a : let p : Port := 1; let b : Bool := true; let q : Fin 8 := 3; let v : Word := 0x80000000; let e : Fld := (Reg.CONS_TXQ_CFG.EN.at 1).ix 3; let hd : Fld := (Reg.CONS_TXQ_HEAD.HEAD.at 1).ix 3; let s : State := named; s.awake = true ∧ e = ((if b then Reg.CONS_TXQ_CFG.EN else Reg.CONS_RXQ_CFG.EN).at p).ix q ∧ hd = ((if b then Reg.CONS_TXQ_HEAD.HEAD else Reg.CONS_RXQ_HEAD.HEAD).at p).ix q ∧ s.flag e = false ∧ e.of v.toNat = 1 := by
  repeat' with_reducible apply And.intro
  all_goals first | with_reducible rfl | decide +kernel

theorem witness_ConsistTransmit_7a : let p : Port := 1; let b : Bool := true; let q : Fin 8 := 3; let k : Nat := 2; let t0 : Nat := 50; let s : State := named.onPort 1 fun t => { t with mods := [((true, 3), (2, some 50))] }; s.active = true ∧ s.modOf p (b, q.val) = (k, some t0) := by
  repeat' with_reducible apply And.intro
  all_goals first | with_reducible rfl | decide +kernel

theorem witness_ConsistTransmit_8a : let p : Port := 1; let v : Word := 0x80410000; let s : State := named; let w : State := s.storeWord (Reg.CONS_MDIO.GO.at 1).addr 0x80410000; s.active = true ∧ s.flag (Reg.CONS_MDIO.BUSY.at p) = false ∧ bit v.toNat 31 = true ∧ w = s.storeWord (Reg.CONS_MDIO.GO.at p).addr v.toNat := by
  repeat' with_reducible apply And.intro
  all_goals first | with_reducible rfl | decide +kernel

theorem witness_ConsistTransmit_9a : let p : Port := 1; let d : Bool := true; let v : BitVec 16 := 9; let t0 : Nat := 60; let s : State := (named.put (Reg.CONS_MDIO.OP.at 1) 1).onPort 1 fun t => { t with mdioAt := some 60 }; s.active = true ∧ (s.port p).mdioAt = some t0 ∧ s.flag (Reg.CONS_MDIO.OP.at p) = true := by
  repeat' with_reducible apply And.intro
  all_goals first | with_reducible rfl | decide +kernel

theorem witness_ConsistTransmit_10a : let p : Port := 0; let ok : Bool := true; let s : State := named; s.active = true := by
  decide +kernel

theorem witness_ConsistTransmit_11a : let p : Port := 0; let b : Bool := true; let q : Fin 8 := 3; let d : Bytes := []; let v : Word := 1; let s : State := named; s.active = true := by
  decide +kernel

theorem witness_ConsistTransmit_12a : let p : Port := 1; let v : Word := 0x80410000; let s : State := named.put (Reg.CONS_MDIO.BUSY.at 1) 1; s.active = true ∧ s.flag (Reg.CONS_MDIO.BUSY.at p) = true := by
  repeat' with_reducible apply And.intro
  all_goals first | with_reducible rfl | decide +kernel

theorem witness_ConsistTransmit_13a : let p : Port := 1; let v : Word := 0x410000; let s : State := named; s.active = true ∧ s.flag (Reg.CONS_MDIO.BUSY.at p) = false ∧ bit v.toNat 31 = false := by
  repeat' with_reducible apply And.intro
  all_goals first | with_reducible rfl | decide +kernel

theorem witness_ConsistTransmit_14a : let p : Port := 1; let d : Bool := true; let v : BitVec 16 := 9; let t0 : Nat := 60; let s : State := named.onPort 1 fun t => { t with mdioAt := some 60 }; s.active = true ∧ (s.port p).mdioAt = some t0 ∧ s.flag (Reg.CONS_MDIO.OP.at p) = false := by
  repeat' with_reducible apply And.intro
  all_goals first | with_reducible rfl | decide +kernel

theorem witness_ConsistTransmit_15a : let p : Port := 1; let d : Bool := true; let v : BitVec 16 := 9; let s : State := named; s.active = true ∧ (s.port p).mdioAt = none := by
  repeat' with_reducible apply And.intro
  all_goals first | with_reducible rfl | decide +kernel

theorem witness_ConsistPause_1a : let p : Port := 1; let v : BitVec 16 := 9; let s : State := (named.put (Reg.CONS_STAT.LINK.at 1) 1).put (Reg.CONS_PAUSE.RXEN.at 1) 1; s.active = true ∧ s.linkUp p = true ∧ s.flag (Reg.CONS_PAUSE.RXEN.at p) = true ∧ (s.port p).wdAt = none ∧ v ≠ 0 := by
  repeat' with_reducible apply And.intro
  all_goals first | with_reducible rfl | decide +kernel

theorem witness_ConsistPause_2a : let p : Port := 1; let t0 : Nat := 60; let s : State := named.onPort 1 fun t => { t with holdAt := some 60 }; s.active = true ∧ (s.port p).holdAt = some t0 := by
  repeat' with_reducible apply And.intro
  all_goals first | with_reducible rfl | decide +kernel

theorem witness_ConsistPause_3a : let p : Port := 1; let t0 : Nat := 60; let s : State := ((named.put (Reg.CONS_PAUSETH.XON.at 1) 0).put (Reg.CONS_PAUSE.TXEN.at 1) 1).onPort 1 fun t => { t with xoffAt := some 60 }; s.active = true ∧ (s.port p).xoffAt = some t0 ∧ s.flag (Reg.CONS_PAUSE.TXEN.at p) = true ∧ s.xon p ≤ s.ingressBufs p := by
  repeat' with_reducible apply And.intro
  all_goals first | with_reducible rfl | decide +kernel

theorem witness_ConsistPause_4a : let p : Port := 1; let s : State := ((named.put (Reg.CONS_PAUSETH.XON.at 1) 9).put (Reg.CONS_PAUSE.TXEN.at 1) 1).onPort 1 fun t => { t with xoffAt := some 60 }; s.active = true ∧ (s.port p).xoffAt.isSome = true ∧ s.ingressBufs p < s.xon p ∧ s.flag (Reg.CONS_PAUSE.TXEN.at p) = true := by
  repeat' with_reducible apply And.intro
  all_goals first | with_reducible rfl | decide +kernel

theorem witness_ConsistPause_5a : let p : Port := 1; let a : Nat := 0; let b : Nat := ms 1000; let s : State := named.onPort 1 fun t => { t with holdFrom := some 0, holdAt := some (ms 1000) }; s.active = true ∧ (s.port p).holdFrom = some a ∧ (s.port p).holdAt = some b ∧ a + ms (s.wdms p) ≤ b := by
  repeat' with_reducible apply And.intro
  all_goals first | with_reducible rfl | decide +kernel

theorem witness_ConsistPause_6a : let p : Port := 1; let t0 : Nat := 60; let s : State := named.onPort 1 fun t => { t with wdAt := some 60 }; s.active = true ∧ (s.port p).wdAt = some t0 := by
  repeat' with_reducible apply And.intro
  all_goals first | with_reducible rfl | decide +kernel

theorem witness_ConsistPause_7a : let p : Port := 1; let s : State := (named.put (Reg.CONS_STAT.LINK.at 1) 1).put (Reg.CONS_PAUSE.RXEN.at 1) 1; s.active = true ∧ s.linkUp p = true ∧ s.flag (Reg.CONS_PAUSE.RXEN.at p) = true ∧ (s.port p).wdAt = none := by
  repeat' with_reducible apply And.intro
  all_goals first | with_reducible rfl | decide +kernel

theorem witness_ConsistPause_8a : let p : Port := 1; let v : BitVec 16 := 9; let s : State := (named.put (Reg.CONS_STAT.LINK.at 1) 1).put (Reg.CONS_PAUSE.RXEN.at 1) 0; s.active = true ∧ s.linkUp p = true ∧ (s.flag (Reg.CONS_PAUSE.RXEN.at p) = false ∨ (s.port p).wdAt.isSome = true) := by
  repeat' with_reducible apply And.intro
  all_goals first | with_reducible rfl | decide +kernel

theorem witness_ConsistPause_9a : let p : Port := 1; let t0 : Nat := 60; let s : State := (named.put (Reg.CONS_PAUSETH.XON.at 1) 9).onPort 1 fun t => { t with xoffAt := some 60 }; s.active = true ∧ (s.port p).xoffAt = some t0 := by
  repeat' with_reducible apply And.intro
  all_goals first | with_reducible rfl | decide +kernel

theorem witness_ConsistPause_10a : let p : Port := 1; let v : BitVec 16 := 9; let s : State := named; s.active = true := by
  decide +kernel

theorem witness_ConsistPause_11a : let p : Port := 1; let a : Nat := 0; let b : Nat := 9; let s : State := named.onPort 1 fun t => { t with holdFrom := some 0, holdAt := some 9 }; s.active = true ∧ (s.port p).holdFrom = some a ∧ (s.port p).holdAt = some b ∧ b < a + ms (s.wdms p) := by
  repeat' with_reducible apply And.intro
  all_goals first | with_reducible rfl | decide +kernel

theorem witness_EngineInstances_1a : let n : Fin 4 := 0; let s : State := running; let b : Bytes := (running.image?).getD []; s.active = true ∧ s.image? = some b ∧ (s.task n).run = true ∧ s.engineRuns = true ∧ s.now ≤ s.bnd + ns s.commitNs ∧ s.evaluating = some n.val := by
  repeat' with_reducible apply And.intro
  all_goals first | with_reducible rfl | decide +kernel

theorem witness_EngineInstances_2a : let s : State := alone; let u : State := { (s.reach (s.bnd + ns s.commitNs)).progress with eng.committed := some s.cyc }; s.active = true ∧ s.cycRun = true ∧ s.eng.committed ≠ some s.cyc ∧ u = { (s.reach (s.bnd + ns s.commitNs)).progress with eng.committed := some s.cyc } := by
  repeat' with_reducible apply And.intro
  all_goals first | with_reducible rfl | decide +kernel

theorem witness_EngineInstances_3a : let v : Word := 1; let s : State := named; s.awake = true ∧ bit v.toNat 0 = true ∧ bit v.toNat 1 = false := by
  repeat' with_reducible apply And.intro
  all_goals first | with_reducible rfl | decide +kernel

theorem witness_EngineInstances_4a : let v : Word := 0; let s : State := (named.put Reg.CYCL_CTRL.EN 1).put Reg.CYCL_STAT.ESTATE 2; s.awake = true ∧ bit v.toNat 0 = false ∧ bit v.toNat 1 = false ∧ s.flag Reg.CYCL_CTRL.EN = true ∧ s.get Reg.CYCL_STAT.ESTATE = 2 := by
  repeat' with_reducible apply And.intro
  all_goals first | with_reducible rfl | decide +kernel

theorem witness_EngineInstances_5a : let v : Word := 3; let m : Nat := 0; let s : State := { named with eng.stations := [(0, { entry := stationRow, state := 2 })] }; s.awake = true ∧ bit v.toNat 0 = true ∧ bit v.toNat 1 = true := by
  repeat' with_reducible apply And.intro
  all_goals first | with_reducible rfl | decide +kernel

theorem witness_EngineInstances_6a : let o : Fin 262144 := 0x20005; let b : Byte := 7; let s : State := named; let u : State := s.progress; s.active = true ∧ u = s.progress ∧ u.img.retained.wf = true ∧ 0x20000 ≤ o.val ∧ o.val < 0x30000 ∧ u.forcedMem = [] := by
  repeat' with_reducible apply And.intro
  all_goals first | with_reducible rfl | decide +kernel

theorem witness_EngineInstances_7a : let n : Fin 4 := 0; let o : Fin 262144 := 0x20005; let d : Bytes := [7]; let v : Word := 3; let s : State := named; s.active = true := by
  decide +kernel

theorem witness_EngineInstances_8a : let n : Fin 4 := 0; let s : State := named; s.active = true ∧ s.now ≤ s.bnd + ns s.commitNs ∧ (s.image? = none ∨ (s.task n).run = false ∨ s.engineRuns = false) := by
  repeat' with_reducible apply And.intro
  all_goals first | with_reducible rfl | decide +kernel

theorem witness_EngineInstances_9a : let s : State := named; s.active = true ∧ (s.cycRun = false ∨ s.eng.committed = some s.cyc) := by
  repeat' with_reducible apply And.intro
  all_goals first | with_reducible rfl | decide +kernel

theorem witness_EngineInstances_10a : let n : Fin 4 := 0; let s : State := { running with cyc := 5, eng.tasks := (Vector.replicate 4 {}).setIfInBounds 0 { ends := some 5, done_ := true, snap := [1, 2] } }; s.engineRuns = true ∧ (s.task n).ends = some s.cyc ∧ s.rephCycle = false ∧ s.duskCycle = false ∧ (s.task n).skipped = false ∧ (s.task n).done_ = true := by
  repeat' with_reducible apply And.intro
  all_goals first | with_reducible rfl | decide +kernel

theorem witness_EngineInstances_11a : let n : Fin 4 := 0; let s : State := { running with cyc := 5, eng.tasks := (Vector.replicate 4 {}).setIfInBounds 0 { ends := some 5, done_ := false, snap := [1, 2] } }; s.engineRuns = true ∧ (s.task n).ends = some s.cyc ∧ s.rephCycle = false ∧ s.duskCycle = false ∧ (s.task n).done_ = false ∧ (s.task n).overs = 0 := by
  repeat' with_reducible apply And.intro
  all_goals first | with_reducible rfl | decide +kernel

theorem witness_Stations_1a : let n : Fin 256 := 4; let s : State := outReady; let x : StationS := { entry := stationRow, state := 2 }; let u : State := ((s.reach (s.launchAt x.entry - us 2)).commitBy (s.launchAt x.entry - us 2)).progress; let w : State := ({ u with eng.sent := (n.val, u.cyc) :: u.eng.sent.filter (·.2 = u.cyc) }).bump Reg.CYCL_OUTSENT.COUNT; let f : Bytes := natBe 6 (seMac x.entry) ++ natBe 6 u.ioAddress ++ natBe 2 (u.get (Reg.CONS_IOETYPE.ETYPE.at (sePort x.entry))) ++ telegram 1 n.val (128 + 64 * b2n (u.outForced x.entry true)) u.cyc u.claim (seTag x.entry) (u.img.comm.readN (seOut x.entry) (seOutLen x.entry)); s.active = true ∧ s.station? n = some x ∧ seEn x.entry = true ∧ s.mayRun = true ∧ s.inau.rephase = false ∧ s.eng.sent.contains (n.val, s.cyc) = false ∧ x.state = 2 ∧ u = ((s.reach (s.launchAt x.entry - us 2)).commitBy (s.launchAt x.entry - us 2)).progress ∧ u.engineRuns = true ∧ u.duskCycle = false ∧ u.flag Reg.CYCL_IOCFG.TAGEN = false ∧ f = natBe 6 (seMac x.entry) ++ natBe 6 u.ioAddress ++ natBe 2 (u.get (Reg.CONS_IOETYPE.ETYPE.at (sePort x.entry))) ++ telegram 1 n.val (128 + 64 * b2n (u.outForced x.entry true)) u.cyc u.claim (seTag x.entry) (u.img.comm.readN (seOut x.entry) (seOutLen x.entry)) ∧ w = { u with eng.sent := (n.val, u.cyc) :: u.eng.sent.filter (·.2 = u.cyc) }.bump Reg.CYCL_OUTSENT.COUNT := by
  repeat' with_reducible apply And.intro
  all_goals first | with_reducible rfl | decide +kernel

theorem witness_Stations_2a : let p : Port := 0; let f : Bytes := List.replicate 12 0 ++ [0x88, 0xB5] ++ List.replicate 50 0; let s : State := ((named.put (Reg.CONS_STAT.LINK.at 0) 1).put (Reg.CONS_CTRL.IOEN.at 0) 1).put (Reg.CONS_IOETYPE.ETYPE.at 0) 0x88B5; s.active = true ∧ s.linkUp p = true ∧ (s.steer p f).io = true ∧ s.station? (byteAt (f.drop (ethNext f)) 2) = none := by
  repeat' with_reducible apply And.intro
  all_goals first | with_reducible rfl | decide +kernel

theorem witness_Stations_3a : let p : Port := 0; let f : Bytes := inFrame; let g : Bytes := inFrame.drop (ethNext inFrame); let n : Nat := 4; let x : StationS := { entry := stationRow, state := 2 }; let s : State := inReady; s.active = true ∧ s.linkUp p = true ∧ (s.steer p f).io = true ∧ g = f.drop (ethNext f) ∧ n = byteAt g 2 ∧ s.station? n = some x ∧ fieldAt f 0 6 = s.ioAddress ∧ seEn x.entry = true ∧ sePort x.entry = p.val ∧ fieldAt f 6 6 = seMac x.entry ∧ byteAt g 0 = 1 ∧ byteAt g 1 = 2 ∧ fieldAt g 16 2 = seInLen x.entry ∧ 22 + seInLen x.entry ≤ g.length ∧ crc16 (g.take (20 + seInLen x.entry)) = fieldAt g (20 + seInLen x.entry) 2 := by
  repeat' with_reducible apply And.intro
  all_goals first | with_reducible rfl | decide +kernel

theorem witness_Stations_4a : let n : Fin 256 := 4; let x : StationS := { entry := stationRow, state := 2, miss := 99 }; let s : State := { named with eng.stations := [(4, { entry := stationRow, state := 2, miss := 99 })] }; s.active = true ∧ s.station? n = some x ∧ seEn x.entry = true ∧ x.state ≠ 3 ∧ seAccWin x.entry ≤ x.miss := by
  repeat' with_reducible apply And.intro
  all_goals first | with_reducible rfl | decide +kernel

theorem witness_Stations_5a : let v : Word := 4; let x : StationS := { entry := stationRow, state := 2 }; let s : State := { named with eng.stations := [(4, { entry := stationRow, state := 2 })] }; s.awake = true ∧ s.flag Reg.CYCL_SSTAT.BUSY = false ∧ Reg.CYCL_SSEL.WR.of v.toNat = 0 ∧ Reg.CYCL_SSEL.TAB.of v.toNat = 0 ∧ s.station? (Reg.CYCL_SSEL.INDEX.of v.toNat) = some x := by
  repeat' with_reducible apply And.intro
  all_goals first | with_reducible rfl | decide +kernel

theorem witness_Stations_6a : let v : Word := 0x18000004; let s : State := named; s.awake = true ∧ s.flag Reg.CYCL_SSTAT.BUSY = false ∧ Reg.CYCL_SSEL.WR.of v.toNat = 1 ∧ Reg.CYCL_SSEL.TAB.of v.toNat = 1 := by
  repeat' with_reducible apply And.intro
  all_goals first | with_reducible rfl | decide +kernel

theorem witness_Stations_7a : let n : Fin 256 := 4; let p : Port := 0; let f : Bytes := inFrame; let v : Word := 4; let s : State := inReady; s.active = true := by
  decide +kernel

theorem witness_Stations_8a : let n : Fin 256 := 4; let x : StationS := { entry := stationRow, state := 2 }; let s : State := inReady; s.active = true ∧ s.station? n = some x ∧ (seEn x.entry = false ∨ s.mayRun = false ∨ s.eng.sent.contains (n.val, s.cyc) = true) := by
  repeat' with_reducible apply And.intro
  all_goals first | with_reducible rfl | decide +kernel

theorem witness_Stations_9a : let n : Fin 256 := 4; let x : StationS := { entry := stationRow, state := 2 }; let s : State := inReady; s.active = true ∧ s.station? n = some x ∧ (seEn x.entry = false ∨ x.state = 3 ∨ x.miss < seAccWin x.entry) := by
  repeat' with_reducible apply And.intro
  all_goals first | with_reducible rfl | decide +kernel

theorem witness_Stations_10a : let n : Fin 256 := 5; let s : State := inReady; s.active = true ∧ s.station? n = none := by
  repeat' with_reducible apply And.intro
  all_goals first | with_reducible rfl | decide +kernel

theorem witness_Stations_11a : let p : Port := 0; let f : Bytes := inFrame.set 5 8; let g : Bytes := f.drop (ethNext f); let n : Nat := 4; let x : StationS := { entry := stationRow, state := 2 }; let s : State := inReady; s.active = true ∧ s.linkUp p = true ∧ (s.steer p f).io = true ∧ g = f.drop (ethNext f) ∧ n = byteAt g 2 ∧ s.station? n = some x ∧ (fieldAt f 0 6 ≠ s.ioAddress ∨ seEn x.entry = false ∨ sePort x.entry ≠ p.val ∨ fieldAt f 6 6 ≠ seMac x.entry) := by
  repeat' with_reducible apply And.intro
  all_goals first | with_reducible rfl | decide +kernel

theorem witness_Stations_12a : let p : Port := 0; let f : Bytes := inFrame.set 33 8; let g : Bytes := f.drop (ethNext f); let n : Nat := 4; let x : StationS := { entry := stationRow, state := 2 }; let s : State := inReady; s.active = true ∧ s.linkUp p = true ∧ (s.steer p f).io = true ∧ g = f.drop (ethNext f) ∧ n = byteAt g 2 ∧ s.station? n = some x ∧ fieldAt f 0 6 = s.ioAddress ∧ seEn x.entry = true ∧ sePort x.entry = p.val ∧ fieldAt f 6 6 = seMac x.entry ∧ 3 ≤ g.length ∧ (byteAt g 0 ≠ 1 ∨ byteAt g 1 ≠ 2 ∨ (fieldAt g 16 2 ≠ 0 ∧ fieldAt g 16 2 ≠ seInLen x.entry) ∨ g.length < 22 + fieldAt g 16 2 ∨ crc16 (g.take (20 + fieldAt g 16 2)) ≠ fieldAt g (20 + fieldAt g 16 2) 2) := by
  repeat' with_reducible apply And.intro
  all_goals first | with_reducible rfl | decide +kernel

theorem witness_Stations_13a : let n : Nat := 4; let x : StationS := { entry := stationRow, state := 2 }; let g : Bytes := inFrame.drop 14; let s : State := inReady; s.station? n = some x := by
  decide +kernel

theorem witness_Stations_14a : let p : Port := 1; let f : Bytes := inFrame; let v : Word := 4; let s : State := inReady; s.active = true ∧ (s.linkUp p = false ∨ (s.steer p f).io = false) := by
  repeat' with_reducible apply And.intro
  all_goals first | with_reducible rfl | decide +kernel

theorem witness_Stations_15a : let v : Word := 4; let s : State := inReady.put Reg.CYCL_SSTAT.BUSY 1; s.awake = true ∧ s.flag Reg.CYCL_SSTAT.BUSY = true := by
  repeat' with_reducible apply And.intro
  all_goals first | with_reducible rfl | decide +kernel

theorem witness_Programs_1a : let o : Fin 524288 := 0; let d : Bytes := [1]; let s : State := named.put Reg.CYCL_STAT.KEY 1; s.active = true ∧ s.get Reg.CYCL_STAT.KEY = 1 := by
  repeat' with_reducible apply And.intro
  all_goals first | with_reducible rfl | decide +kernel

theorem witness_Programs_2a : let o : Fin 524288 := 0; let d : Bytes := [1]; let s : State := named; s.active = true ∧ s.get Reg.CYCL_STAT.KEY ≠ 1 ∧ s.flag Reg.PRG_STAT.BUSY = false ∧ s.flag Reg.PRG_STAT.SWPEND = false := by
  repeat' with_reducible apply And.intro
  all_goals first | with_reducible rfl | decide +kernel

theorem witness_Programs_3a : let v : Word := 0x10000000; let s : State := named; s.awake = true ∧ s.flag Reg.PRG_STAT.BUSY = false ∧ Reg.PRG_CMD.OP.of v.toNat = 1 ∧ s.get Reg.PRG_STAT.OPRUN = 0 := by
  repeat' with_reducible apply And.intro
  all_goals first | with_reducible rfl | decide +kernel

theorem witness_Programs_4a : let s : State := { named.put Reg.PRG_STAT.OPRUN 1 with prg.b.exec := goodImage }; s.awake = true ∧ s.get Reg.PRG_STAT.OPRUN = 1 ∧ (State.validateBank (s.bank s.inaBank)).1 = 0 ∧ s.cmd.slots = [] ∧ s.actBank ≤ 1 := by
  repeat' with_reducible apply And.intro
  all_goals first | with_reducible rfl | decide +kernel

theorem witness_Programs_5a : let v : Word := 0x20000000; let s : State := named.put Reg.PRG_STAT.IVALID 1; s.awake = true ∧ s.flag Reg.PRG_STAT.BUSY = false ∧ Reg.PRG_CMD.OP.of v.toNat = 2 ∧ s.get Reg.PRG_STAT.OPRUN = 0 ∧ s.get Reg.CYCL_STAT.KEY ≠ 1 ∧ s.flag Reg.PRG_STAT.IVALID = true ∧ s.inaBank ≠ s.prg.start ∧ s.actTurn .store = true ∧ s.hkp.waiting.contains .store = false := by
  repeat' with_reducible apply And.intro
  all_goals first | with_reducible rfl | decide +kernel

theorem witness_Programs_6a : let s : State := { named.put Reg.PRG_STAT.OPRUN 2 with hkp.running := [.store] }; s.awake = true ∧ s.get Reg.PRG_STAT.OPRUN = 2 ∧ s.hkp.running.contains .store = true ∧ s.cmd.slots = [] ∧ s.actBank ≤ 1 := by
  repeat' with_reducible apply And.intro
  all_goals first | with_reducible rfl | decide +kernel

theorem witness_Programs_7a : let v : Word := 0x30000000; let s : State := (named.put Reg.PRG_STAT.IVALID 1).put Reg.CYCL_STAT.ESTATE 2; s.awake = true ∧ s.flag Reg.PRG_STAT.BUSY = false ∧ Reg.PRG_CMD.OP.of v.toNat = 3 ∧ s.get Reg.PRG_STAT.OPRUN = 0 ∧ s.get Reg.CYCL_STAT.KEY ≠ 1 ∧ s.flag Reg.PRG_STAT.IVALID = true ∧ s.engineRuns = true := by
  repeat' with_reducible apply And.intro
  all_goals first | with_reducible rfl | decide +kernel

theorem witness_Programs_8a : let v : Word := 0x40000001; let n : Nat := Reg.PRG_CMD.BANK.of 0x40000001; let s : State := { named with prg.a.valid := true, prg.b.valid := true }; s.awake = true ∧ s.flag Reg.PRG_STAT.BUSY = false ∧ Reg.PRG_CMD.OP.of v.toNat = 4 ∧ n = Reg.PRG_CMD.BANK.of v.toNat ∧ s.get Reg.PRG_STAT.OPRUN = 0 ∧ s.get Reg.CYCL_STAT.KEY ≠ 1 ∧ (s.bank n).valid = true ∧ (s.bank n).stored = true := by
  repeat' with_reducible apply And.intro
  all_goals first | with_reducible rfl | decide +kernel

theorem witness_Programs_9a : let v : Word := 0x50000000; let s : State := named; s.awake = true ∧ s.flag Reg.PRG_STAT.BUSY = false ∧ Reg.PRG_CMD.OP.of v.toNat = 5 ∧ s.get Reg.PRG_STAT.OPRUN = 0 ∧ s.get Reg.CYCL_STAT.KEY ≠ 1 := by
  repeat' with_reducible apply And.intro
  all_goals first | with_reducible rfl | decide +kernel

theorem witness_Programs_10a : let v : Word := 0x60000000; let s : State := named; s.awake = true ∧ s.flag Reg.PRG_STAT.BUSY = false ∧ Reg.PRG_CMD.OP.of v.toNat = 6 ∧ s.prg.swapReq = none := by
  repeat' with_reducible apply And.intro
  all_goals first | with_reducible rfl | decide +kernel

theorem witness_Programs_11a : let v : Word := 0x60000000; let b : Bool := true; let s : State := { named with prg.swapReq := some true }; s.awake = true ∧ s.flag Reg.PRG_STAT.BUSY = false ∧ Reg.PRG_CMD.OP.of v.toNat = 6 ∧ s.prg.swapReq = some b ∧ s.cmd.slots = [] := by
  repeat' with_reducible apply And.intro
  all_goals first | with_reducible rfl | decide +kernel

theorem witness_Programs_12a : let v : Word := 0x40000001; let s : State := named; s.awake = true ∧ s.flag Reg.PRG_STAT.BUSY = false := by
  repeat' with_reducible apply And.intro
  all_goals first | with_reducible rfl | decide +kernel

theorem witness_Programs_13a : let v : Word := 0x40000001; let s : State := named.put Reg.PRG_STAT.BUSY 1; s.awake = true ∧ s.flag Reg.PRG_STAT.BUSY = true := by
  repeat' with_reducible apply And.intro
  all_goals first | with_reducible rfl | decide +kernel

theorem witness_Programs_14a : let ok : Bool := true; let o : Fin 524288 := 0; let d : Bytes := [1]; let s : State := named; s.active = true := by
  decide +kernel

theorem witness_Programs_15a : let ok : Bool := true; let s : State := named; s.awake = true := by
  decide +kernel

theorem witness_Programs_16a : let v : Word := 0x40000001; let s : State := named.put Reg.PRG_STAT.OPRUN 2; s.awake = true ∧ s.flag Reg.PRG_STAT.BUSY = false ∧ 1 ≤ Reg.PRG_CMD.OP.of v.toNat ∧ Reg.PRG_CMD.OP.of v.toNat ≤ 5 ∧ s.get Reg.PRG_STAT.OPRUN ≠ 0 := by
  repeat' with_reducible apply And.intro
  all_goals first | with_reducible rfl | decide +kernel

theorem witness_Programs_16b : let v : Word := 0x30000001; let s : State := named.put Reg.PRG_STAT.OPRUN 2; s.awake = true ∧ s.flag Reg.PRG_STAT.BUSY = false ∧ 1 ≤ Reg.PRG_CMD.OP.of v.toNat ∧ Reg.PRG_CMD.OP.of v.toNat ≤ 5 ∧ s.get Reg.PRG_STAT.OPRUN ≠ 0 := by
  repeat' with_reducible apply And.intro
  all_goals first | with_reducible rfl | decide +kernel

theorem witness_Programs_17a : let v : Word := 0x30000001; let s : State := named.put Reg.CYCL_STAT.KEY 1; s.awake = true ∧ s.flag Reg.PRG_STAT.BUSY = false ∧ 2 ≤ Reg.PRG_CMD.OP.of v.toNat ∧ Reg.PRG_CMD.OP.of v.toNat ≤ 5 ∧ s.get Reg.PRG_STAT.OPRUN = 0 ∧ s.get Reg.CYCL_STAT.KEY = 1 := by
  repeat' with_reducible apply And.intro
  all_goals first | with_reducible rfl | decide +kernel

theorem witness_Programs_17b : let v : Word := 0x40000001; let s : State := named.put Reg.CYCL_STAT.KEY 1; s.awake = true ∧ s.flag Reg.PRG_STAT.BUSY = false ∧ 2 ≤ Reg.PRG_CMD.OP.of v.toNat ∧ Reg.PRG_CMD.OP.of v.toNat ≤ 5 ∧ s.get Reg.PRG_STAT.OPRUN = 0 ∧ s.get Reg.CYCL_STAT.KEY = 1 := by
  repeat' with_reducible apply And.intro
  all_goals first | with_reducible rfl | decide +kernel

theorem witness_Programs_18a : let s : State := named.put Reg.PRG_STAT.OPRUN 1; s.awake = true ∧ s.get Reg.PRG_STAT.OPRUN = 1 ∧ (State.validateBank (s.bank s.inaBank)).1 ≠ 0 ∧ s.cmd.slots = [] ∧ s.actBank ≤ 1 := by
  repeat' with_reducible apply And.intro
  all_goals first | with_reducible rfl | decide +kernel

theorem witness_Programs_19a : let v : Word := 0x30000000; let s : State := named.put Reg.PRG_STAT.IVALID 1; s.awake = true ∧ s.flag Reg.PRG_STAT.BUSY = false ∧ Reg.PRG_CMD.OP.of v.toNat = 3 ∧ s.get Reg.PRG_STAT.OPRUN = 0 ∧ s.get Reg.CYCL_STAT.KEY ≠ 1 ∧ s.flag Reg.PRG_STAT.IVALID = true ∧ s.engineRuns = false ∧ Reg.PRG_CMD.FCLR.of v.toNat = 0 ∧ s.actBank ≤ 1 := by
  repeat' with_reducible apply And.intro
  all_goals first | with_reducible rfl | decide +kernel

theorem witness_Programs_20a : let b : BankS := { (named.bank 0) with bad := [3] }; b.bad ≠ [] := by
  decide +kernel

theorem witness_Forcing_1a : let v : Word := 0x40000003; let i : Nat := Reg.FRC_SEL.INDEX.of 0x40000003; let s : State := forceReady; s.awake = true ∧ s.flag Reg.FRC_STAT.BUSY = false ∧ Reg.FRC_SEL.CLRALL.of v.toNat = 0 ∧ Reg.FRC_SEL.WR.of v.toNat = 1 ∧ i = Reg.FRC_SEL.INDEX.of v.toNat ∧ fcEn s.frcBytes = true ∧ s.forceCause i s.frcBytes = 0 ∧ s.frcBytes.all (· = 0) = false := by
  repeat' with_reducible apply And.intro
  all_goals first | with_reducible rfl | decide +kernel

theorem witness_Forcing_2a : let v : Word := 0x40000003; let i : Nat := Reg.FRC_SEL.INDEX.of 0x40000003; let c : Nat := 1; let s : State := forceReady.put Reg.CYCL_STAT.KEY 1; s.awake = true ∧ s.flag Reg.FRC_STAT.BUSY = false ∧ Reg.FRC_SEL.CLRALL.of v.toNat = 0 ∧ Reg.FRC_SEL.WR.of v.toNat = 1 ∧ i = Reg.FRC_SEL.INDEX.of v.toNat ∧ c = s.forceCause i s.frcBytes ∧ c ≠ 0 := by
  repeat' with_reducible apply And.intro
  all_goals first | with_reducible rfl | decide +kernel

theorem witness_Forcing_3a : let v : Word := 0x80000000; let s : State := forceReady; s.awake = true ∧ s.flag Reg.FRC_STAT.BUSY = false ∧ Reg.FRC_SEL.CLRALL.of v.toNat = 1 := by
  repeat' with_reducible apply And.intro
  all_goals first | with_reducible rfl | decide +kernel

theorem witness_Forcing_4a : let v : Word := 3; let b : Bytes := forceReady.frcBytes; let s : State := { forceReady with prg.force := [(3, forceReady.frcBytes)] }; s.awake = true ∧ s.flag Reg.FRC_STAT.BUSY = false ∧ Reg.FRC_SEL.CLRALL.of v.toNat = 0 ∧ Reg.FRC_SEL.WR.of v.toNat = 0 ∧ b = ((s.prg.force.find? (·.1 = Reg.FRC_SEL.INDEX.of v.toNat)).map (·.2)).getD (List.replicate 16 0) := by
  repeat' with_reducible apply And.intro
  all_goals first | with_reducible rfl | decide +kernel

theorem witness_Forcing_5a : let v : Word := 3; let s : State := forceReady; s.awake = true ∧ s.flag Reg.FRC_STAT.BUSY = false := by
  repeat' with_reducible apply And.intro
  all_goals first | with_reducible rfl | decide +kernel

theorem witness_Forcing_6a : let v : Word := 3; let s : State := forceReady.put Reg.FRC_STAT.BUSY 1; s.awake = true ∧ s.flag Reg.FRC_STAT.BUSY = true := by
  repeat' with_reducible apply And.intro
  all_goals first | with_reducible rfl | decide +kernel

theorem witness_Forcing_7a : let v : Word := 0x40000003; let i : Nat := Reg.FRC_SEL.INDEX.of 0x40000003; let s : State := forceReady.put Reg.FRC_D1.DATA 0; s.awake = true ∧ s.flag Reg.FRC_STAT.BUSY = false ∧ Reg.FRC_SEL.CLRALL.of v.toNat = 0 ∧ Reg.FRC_SEL.WR.of v.toNat = 1 ∧ i = Reg.FRC_SEL.INDEX.of v.toNat ∧ fcEn s.frcBytes = false := by
  repeat' with_reducible apply And.intro
  all_goals first | with_reducible rfl | decide +kernel

theorem witness_TwinPaths_1a : let s : State := twin; let u : State := s.reach s.twin.tickAt; let b : Bytes := natBe 1 1 ++ [0] ++ natBe 2 32 ++ natBe 2 s.twin.seq ++ natBe 2 0 ++ u.heartbeat true s.twin.hseqT; s.active = true ∧ s.twinOn = true ∧ u = s.reach s.twin.tickAt ∧ u.twin.txq = [] ∧ u.twin.txFree ≤ u.now ∧ b = natBe 1 1 ++ [0] ++ natBe 2 32 ++ natBe 2 s.twin.seq ++ natBe 2 0 ++ u.heartbeat true s.twin.hseqT := by
  repeat' with_reducible apply And.intro
  all_goals first | with_reducible rfl | decide +kernel

theorem witness_TwinPaths_2a : let s : State := { twin.put Reg.TWIN_PUIDLO.UID 9 with cycRun := true, bnd := 100 }; let n : Nat := s.bnd + us 10; let u : State := { s.reach n with twin := { s.twin with cbAt := n, hseqC := (s.twin.hseqC + 1) % 65536 } }; s.active = true ∧ s.twinOn = true ∧ s.partnerUid ≠ 0 ∧ s.cycRun = true ∧ n = s.bnd + us 10 ∧ s.twin.cbAt ≠ n ∧ u = { s.reach n with twin := { s.twin with cbAt := n, hseqC := (s.twin.hseqC + 1) % 65536 } } := by
  repeat' with_reducible apply And.intro
  all_goals first | with_reducible rfl | decide +kernel

theorem witness_TwinPaths_3a : let f : Bytes := [1]; let s : State := twin; s.active = true ∧ s.twinOn = true ∧ twinFrame f = none := by
  repeat' with_reducible apply And.intro
  all_goals first | with_reducible rfl | decide +kernel

theorem witness_TwinPaths_4a : let f : Bytes := twinBytes 1 (hbPayload 0 0x20000); let pl : Bytes := hbPayload 0 0x20000; let s : State := twinHeld; s.active = true ∧ s.twinOn = true ∧ twinFrame f = some (1, pl) ∧ (s.partnerUid = 0 ∨ fieldAt pl 0 8 = s.partnerUid) ∧ s.partnerPresent = true ∧ s.claim ≠ 0 ∧ s.flag Reg.TWIN_STAT.RELPEND = false := by
  repeat' with_reducible apply And.intro
  all_goals first | with_reducible rfl | decide +kernel

theorem witness_TwinPaths_5a : let p : Port := 2; let f : Bytes := hbEth; let h : Bytes := hbPayload 0 0x20000; let s : State := ((((twin.put (Reg.CONS_STAT.LINK.at 2) 1).put Reg.TWIN_CFG.HBPORT 2).put (Reg.CONS_DEFA.W2.at 2) 0x100000).put Reg.TWIN_HBETYPE.ETYPE 0x88B6).put Reg.TWIN_PUIDLO.UID 9; s.active = true ∧ s.twinOn = true ∧ s.linkUp p = true ∧ s.get Reg.TWIN_CFG.HBPORT = p.val ∧ (s.steer p f).mcore = true ∧ ethType f = s.get Reg.TWIN_HBETYPE.ETYPE ∧ fieldAt f 0 6 = s.ioAddress ∧ s.partnerUid ≠ 0 ∧ h = (f.drop (ethNext f)).take 32 ∧ h.length = 32 ∧ fieldAt h 0 8 = s.partnerUid := by
  repeat' with_reducible apply And.intro
  all_goals first | with_reducible rfl | decide +kernel

theorem witness_TwinPaths_6a : let h : Bytes := hbPayload 0 0x20000; let s : State := twinHeld; s.partnerPresent = true ∧ s.claim ≠ 0 ∧ s.flag Reg.TWIN_STAT.RELPEND = false := by
  repeat' with_reducible apply And.intro
  all_goals first | with_reducible rfl | decide +kernel

theorem witness_TwinPaths_7a : let n : Nat := 0; let s : State := { (twin.put Reg.TWIN_STAT.TLOK 1).put Reg.TWIN_STAT.CBOK 1 with twin.lastTl := some 0 }; s.active = true ∧ s.twin.lastTl = some n ∧ s.flag Reg.TWIN_STAT.TLOK = true ∧ s.flag Reg.TWIN_STAT.CBOK = true := by
  repeat' with_reducible apply And.intro
  all_goals first | with_reducible rfl | decide +kernel

theorem witness_TwinPaths_8a : let n : Nat := 0; let s : State := { (twin.put Reg.TWIN_STAT.CBOK 1).put Reg.TWIN_STAT.TSTATE 4 with twin.lastCb := some 0 }; s.active = true ∧ s.twin.lastCb = some n ∧ s.flag Reg.TWIN_STAT.CBOK = true ∧ s.flag Reg.TWIN_STAT.TLOK = false ∧ s.get Reg.TWIN_STAT.TSTATE = 4 := by
  repeat' with_reducible apply And.intro
  all_goals first | with_reducible rfl | decide +kernel

theorem witness_TwinPaths_9a : let n : Nat := 0; let s : State := { twin.put Reg.TWIN_STAT.TSTATE 1 with twin.seekAt := some 0 }; s.active = true ∧ s.twin.seekAt = some n ∧ s.twinOn = true ∧ s.get Reg.TWIN_STAT.TSTATE = 1 := by
  repeat' with_reducible apply And.intro
  all_goals first | with_reducible rfl | decide +kernel

theorem witness_TwinPaths_10a : let f : Bytes := twinBytes 1 (hbPayload 0 0); let pl : Bytes := hbPayload 0 0; let s : State := twinHeld; s.active = true ∧ s.twinOn = true ∧ twinFrame f = some (1, pl) ∧ (s.partnerUid = 0 ∨ fieldAt pl 0 8 = s.partnerUid) := by
  repeat' with_reducible apply And.intro
  all_goals first | with_reducible rfl | decide +kernel

theorem witness_TwinPaths_11a : let f : Bytes := twinBytes 1 (hbPayload 0 0); let pl : Bytes := hbPayload 0 0; let s : State := twinHeld.put Reg.TWIN_PUIDLO.UID 8; s.active = true ∧ s.twinOn = true ∧ twinFrame f = some (1, pl) ∧ s.partnerUid ≠ 0 ∧ fieldAt pl 0 8 ≠ s.partnerUid := by
  repeat' with_reducible apply And.intro
  all_goals first | with_reducible rfl | decide +kernel

theorem witness_TwinPaths_12a : let f : Bytes := twinBytes 1 (hbPayload 128 0); let pl : Bytes := hbPayload 128 0; let s : State := (twin.put Reg.TWIN_STAT.TLOK 1).put Reg.TWIN_STAT.TSTATE 4; s.active = true ∧ s.twinOn = true ∧ twinFrame f = some (1, pl) ∧ (s.partnerUid = 0 ∨ fieldAt pl 0 8 = s.partnerUid) ∧ s.partnerPresent = true ∧ s.claim = 0 ∧ s.get Reg.TWIN_STAT.TSTATE = 4 ∧ bit (byteAt pl 9) 7 = true := by
  repeat' with_reducible apply And.intro
  all_goals first | with_reducible rfl | decide +kernel

theorem witness_TwinPaths_13a : let f : Bytes := twinBytes 1 (hbPayload 64 0); let pl : Bytes := hbPayload 64 0; let s : State := twinHeld.put Reg.TWIN_STAT.RELPEND 1; s.active = true ∧ s.twinOn = true ∧ twinFrame f = some (1, pl) ∧ (s.partnerUid = 0 ∨ fieldAt pl 0 8 = s.partnerUid) ∧ s.partnerPresent = true ∧ s.claim ≠ 0 ∧ s.flag Reg.TWIN_STAT.RELPEND = true ∧ bit (byteAt pl 9) 6 = true ∧ fieldAt pl 20 4 = s.get Reg.TWIN_RELCYC.RELCYC := by
  repeat' with_reducible apply And.intro
  all_goals first | with_reducible rfl | decide +kernel

theorem witness_TwinPaths_14a : let p : Port := 0; let f : Bytes := [1]; let s : State := named; s.twinOn = false ∧ s.active = true := by
  repeat' with_reducible apply And.intro
  all_goals first | with_reducible rfl | decide +kernel

theorem witness_TwinPaths_15a : let s : State := twin; s.active = true := by
  decide +kernel

theorem witness_TwinPaths_16a : let n : Nat := 0; let s : State := { (twin.put Reg.TWIN_STAT.TLOK 1).put Reg.TWIN_STAT.CBOK 1 with twin.lastTl := some 0, twin.lastCb := some 0 }; s.active = true := by
  decide +kernel

theorem witness_TwinPaths_17a : let s : State := twin; s.active = true := by
  decide +kernel

theorem witness_TwinPaths_18a : let s : State := twin; s.active = true ∧ s.twinOn = true ∧ (s.partnerUid = 0 ∨ (s.cycRun = true ∧ s.twin.cbAt = s.bnd + us 10)) := by
  repeat' with_reducible apply And.intro
  all_goals first | with_reducible rfl | decide +kernel

theorem witness_TwinExchange_1a : let v : Word := 9; let s : State := twin.put Reg.TWIN_STAT.TSTATE 5; s.active = true ∧ s.twinOn = true ∧ bit v.toNat 3 = true ∧ bit v.toNat 2 = false ∧ (s.get Reg.TWIN_STAT.TSTATE = 5 ∨ (s.get Reg.TWIN_STAT.TSTATE = 4 ∧ s.partnerPresent = false)) := by
  repeat' with_reducible apply And.intro
  all_goals first | with_reducible rfl | decide +kernel

theorem witness_TwinExchange_1b : let v : Word := 9; let s : State := twin.put Reg.TWIN_STAT.TSTATE 4; s.active = true ∧ s.twinOn = true ∧ bit v.toNat 3 = true ∧ bit v.toNat 2 = false ∧ (s.get Reg.TWIN_STAT.TSTATE = 5 ∨ (s.get Reg.TWIN_STAT.TSTATE = 4 ∧ s.partnerPresent = false)) := by
  repeat' with_reducible apply And.intro
  all_goals first | with_reducible rfl | decide +kernel

theorem witness_TwinExchange_2a : let v : Word := 5; let s : State := { twinHeld with twin.pState := 4 }; s.active = true ∧ s.twinOn = true ∧ bit v.toNat 3 = false ∧ bit v.toNat 2 = true ∧ s.claim ≠ 0 ∧ s.partnerPresent = true ∧ s.twin.pState = 4 ∧ s.flag Reg.TWIN_STAT.RELPEND = false := by
  repeat' with_reducible apply And.intro
  all_goals first | with_reducible rfl | decide +kernel

theorem witness_TwinExchange_3a : let f : Bytes := twinBytes 2 (List.replicate 32 255); let pl : Bytes := List.replicate 32 255; let n : Nat := 0xFFFF; let it : Bytes := List.replicate 16 255; let s : State := twin.put Reg.TWIN_STAT.HALF 1; s.active = true ∧ s.twinOn = true ∧ twinFrame f = some (2, pl) ∧ s.half = 1 ∧ n = fieldAt pl 8 2 ∧ it = (pl.drop 16).take 16 ∧ it ≠ (s.ownEntry 0).bytes ∧ s.twin.diffRnd ≠ some n := by
  repeat' with_reducible apply And.intro
  all_goals first | with_reducible rfl | decide +kernel

theorem witness_TwinExchange_4a : let s : State := { (twin.put Reg.INAU_GEN.GEN 1).put Reg.INAU_POS.POS 1 with inau.force := some aloneHeld, cycRun := true, bnd := 0, cyc := 5 }; let pl : Bytes := natBe 4 5 ++ [1, 0, 0, 0] ++ List.replicate 20 0; let f : Bytes := twinBytes 3 pl; let h : Bytes := (pl.drop 8).take 16; let k : Nat := 5; let u : State := (s.bump Reg.TWIN_RLYSENT.COUNT).setSeq (b2n (hCls h = .vital)) (hPub h) (hSeq h) k; let w : Win := u.ownWin.getD ⟨0, 0, 0, 0, 0, 0, 0⟩; s.active = true ∧ s.twinOn = true ∧ twinFrame f = some (3, pl) ∧ k = fieldAt pl 0 4 ∧ h = (pl.drop 8).take 16 ∧ u = (s.bump Reg.TWIN_RLYSENT.COUNT).setSeq (b2n (hCls h = .vital)) (hPub h) (hSeq h) k ∧ u.ownWin = some w ∧ sdiff32 s.cyc k < 1 := by
  repeat' with_reducible apply And.intro
  all_goals first | with_reducible rfl | decide +kernel

theorem witness_TwinExchange_5a : let pl : Bytes := List.replicate 72 0; let f : Bytes := twinBytes 4 pl; let n : Nat := 0; let s : State := twin; s.active = true ∧ s.twinOn = true ∧ twinFrame f = some (4, pl) ∧ s.claim = 0 ∧ n = fieldAt pl 0 4 ∧ (s.twin.collNo = n ∨ s.twin.coll = []) := by
  repeat' with_reducible apply And.intro
  all_goals first | with_reducible rfl | decide +kernel

theorem witness_TwinExchange_6a : let pl : Bytes := natBe 4 0 ++ natBe 4 0 ++ natBe 2 7 ++ List.replicate 14 0; let f : Bytes := twinBytes 5 pl; let got : List (Nat × Bytes) := []; let s : State := twin; s.active = true ∧ s.twinOn = true ∧ twinFrame f = some (5, pl) ∧ s.claim = 0 ∧ (s.twin.collNo = fieldAt pl 0 4 ∨ s.twin.coll = []) ∧ got = (if s.twin.collNo = fieldAt pl 0 4 then s.twin.coll else []) ∧ got.length ≠ fieldAt pl 8 2 := by
  repeat' with_reducible apply And.intro
  all_goals first | with_reducible rfl | decide +kernel

theorem witness_TwinExchange_7a : let pl : Bytes := natBe 4 0 ++ natBe 4 9 ++ natBe 2 1 ++ natBe 2 0 ++ natBe 8 0 ++ natBe 4 (crc32 (natBe 4 0x10000000 ++ [1, 2])); let f : Bytes := twinBytes 5 pl; let got : List (Nat × Bytes) := [(0x10000000, [1, 2])]; let s : State := { twin with twin.coll := [(0x10000000, [1, 2])] }; let k : Bool := s.image?.any (fun b => decide (imProg b = fieldAt pl 12 4 ∧ imRev b = fieldAt pl 16 4)); let take : List (Nat × Bytes) := got.filter fun b => k || decide (b.1 / 2 ^ 28 ≠ 3); s.active = true ∧ s.twinOn = true ∧ twinFrame f = some (5, pl) ∧ s.claim = 0 ∧ k = s.image?.any (fun b => decide (imProg b = fieldAt pl 12 4 ∧ imRev b = fieldAt pl 16 4)) ∧ (s.twin.collNo = fieldAt pl 0 4 ∨ s.twin.coll = []) ∧ take = (got.filter fun b => k || decide (b.1 / 2 ^ 28 ≠ 3)) ∧ got = (if s.twin.collNo = fieldAt pl 0 4 then s.twin.coll else []) ∧ got.length = fieldAt pl 8 2 ∧ crc32 (got.flatMap fun b => natBe 4 b.1 ++ b.2) = fieldAt pl 20 4 := by
  repeat' with_reducible apply And.intro
  all_goals first | with_reducible rfl | decide +kernel

theorem witness_TwinExchange_8a : let f : Bytes := noticeFrame 0x52 (List.replicate 16 1); let r : List Bytes := []; let p : Bytes := pkParams (wrPacket (payload f)); let s : State := { named with cmd.notices := [f] }; s.awake = true ∧ s.cmd.notices = f :: r ∧ pkOp (wrPacket (payload f)) = 0x52 ∧ p = pkParams (wrPacket (payload f)) := by
  repeat' with_reducible apply And.intro
  all_goals first | with_reducible rfl | decide +kernel

theorem witness_TwinExchange_9a : let f : Bytes := noticeFrame 0x53 (natBe 2 2 ++ [2, 0] ++ List.replicate 12 0); let r : List Bytes := []; let p : Bytes := pkParams (wrPacket (payload f)); let s : State := { ((twin.put Reg.INAU_GEN.GEN 1).put Reg.INAU_POS.POS 2) with inau.force := some { aloneHeld with roster := { aloneHeld.roster with entries := [⟨7, 2, 1, 0, 100⟩, ⟨9, 1, 1, 0, 100⟩] } }, cmd.notices := [f] }; s.awake = true ∧ s.twinOn = true ∧ s.cmd.notices = f :: r ∧ pkOp (wrPacket (payload f)) = 0x53 ∧ p = pkParams (wrPacket (payload f)) ∧ s.voters.contains (hSrc f) = true ∧ hGen f = s.gen ∧ fieldAt p 0 2 = s.pos := by
  repeat' with_reducible apply And.intro
  all_goals first | with_reducible rfl | decide +kernel

theorem witness_TwinExchange_10a : let v : Word := 9; let f : Bytes := [1]; let s : State := twin; s.active = true := by
  decide +kernel

theorem witness_TwinExchange_11a : let f : Bytes := [1]; let s : State := twin; s.active = true ∧ s.twinOn = true ∧ twinFrame f = none := by
  repeat' with_reducible apply And.intro
  all_goals first | with_reducible rfl | decide +kernel

theorem witness_TwinExchange_12a : let pl : Bytes := natBe 8 0 ++ natBe 2 7 ++ List.replicate 22 0; let f : Bytes := twinBytes 2 pl; let n : Nat := 7; let it : Bytes := List.replicate 16 0; let s : State := { twin.put Reg.TWIN_STAT.HALF 1 with twin.diffRnd := some 7 }; s.active = true ∧ s.twinOn = true ∧ twinFrame f = some (2, pl) ∧ s.half = 1 ∧ n = fieldAt pl 8 2 ∧ it = (pl.drop 16).take 16 ∧ (it = (s.ownEntry 0).bytes ∨ s.twin.diffRnd = some n) := by
  repeat' with_reducible apply And.intro
  all_goals first | with_reducible rfl | decide +kernel

theorem witness_TwinExchange_13a : let pl : Bytes := List.replicate 32 0; let f : Bytes := twinBytes 2 pl; let s : State := twin; s.active = true ∧ s.twinOn = true := by
  repeat' with_reducible apply And.intro
  all_goals first | with_reducible rfl | decide +kernel

theorem witness_TwinExchange_14a : let s : State := twin; let pl : Bytes := natBe 4 5 ++ [1, 0, 0, 0] ++ List.replicate 20 0; let f : Bytes := twinBytes 3 pl; let h : Bytes := (pl.drop 8).take 16; let k : Nat := 5; let u : State := (s.bump Reg.TWIN_RLYSENT.COUNT).setSeq (b2n (hCls h = .vital)) (hPub h) (hSeq h) k; s.active = true ∧ s.twinOn = true ∧ twinFrame f = some (3, pl) ∧ k = fieldAt pl 0 4 ∧ h = (pl.drop 8).take 16 ∧ u = (s.bump Reg.TWIN_RLYSENT.COUNT).setSeq (b2n (hCls h = .vital)) (hPub h) (hSeq h) k ∧ (u.ownWin = none ∨ 1 < sdiff32 s.cyc k) := by
  repeat' with_reducible apply And.intro
  all_goals first | with_reducible rfl | decide +kernel

theorem witness_TwinExchange_15a : let v : Word := 9; let s : State := twin.put Reg.TWIN_STAT.TSTATE 2; s.active = true ∧ bit v.toNat 3 = true ∧ bit v.toNat 2 = false ∧ (s.twinOn = false ∨ s.get Reg.TWIN_STAT.TSTATE ≠ 5) ∧ (s.get Reg.TWIN_STAT.TSTATE ≠ 4 ∨ s.partnerPresent = true) := by
  repeat' with_reducible apply And.intro
  all_goals first | with_reducible rfl | decide +kernel

theorem witness_TwinExchange_16a : let f : Bytes := noticeFrame 0x52 (List.replicate 16 1); let r : List Bytes := []; let s : State := { named with cmd.notices := [f] }; s.awake = true ∧ s.cmd.notices = f :: r := by
  repeat' with_reducible apply And.intro
  all_goals first | with_reducible rfl | decide +kernel

theorem witness_TwinExchange_17a : let s : State := named; s.awake = true ∧ s.cmd.notices = [] := by
  repeat' with_reducible apply And.intro
  all_goals first | with_reducible rfl | decide +kernel

theorem witness_TwinExchange_18a : let f : Bytes := noticeFrame 0x53 (List.replicate 16 1); let r : List Bytes := []; let p : Bytes := pkParams (wrPacket (payload f)); let s : State := { named with cmd.notices := [f] }; s.awake = true ∧ s.cmd.notices = f :: r ∧ pkOp (wrPacket (payload f)) = 0x53 ∧ p = pkParams (wrPacket (payload f)) ∧ (s.twinOn = false ∨ s.voters.contains (hSrc f) = false ∨ hGen f ≠ s.gen ∨ fieldAt p 0 2 ≠ s.pos) := by
  repeat' with_reducible apply And.intro
  all_goals first | with_reducible rfl | decide +kernel

theorem witness_TwinExchange_19a : let pl : Bytes := List.replicate 72 0; let f : Bytes := twinBytes 4 pl; let n : Nat := 0; let s : State := { twin with twin.collNo := 7, twin.coll := [(0x10000000, [1, 2])] }; s.active = true ∧ s.twinOn = true ∧ twinFrame f = some (4, pl) ∧ s.claim = 0 ∧ n = fieldAt pl 0 4 ∧ s.twin.collNo ≠ n ∧ s.twin.coll ≠ [] := by
  repeat' with_reducible apply And.intro
  all_goals first | with_reducible rfl | decide +kernel

theorem witness_DuskRound_1a : let v : Word := 3; let s : State := duskNode; let u : State := s.storeWord Reg.REST_CTRL.EN.addr 3; let r : Roster := (duskNode.roster.getD aloneHeld.roster); s.awake = true ∧ u = s.storeWord Reg.REST_CTRL.EN.addr v.toNat ∧ bit v.toNat 1 = true ∧ bit v.toNat 4 = false ∧ u.roster = some r ∧ u.isLeader = false ∧ u.dState < 2 := by
  repeat' with_reducible apply And.intro
  all_goals first | with_reducible rfl | decide +kernel

theorem witness_DuskRound_2a : let v : Word := 3; let s : State := { duskNode.put Reg.INAU_POS.POS 1 with inau.force := some { aloneHeld with roster := { aloneHeld.roster with entries := [⟨3, 2, 1, 0, 100⟩, ⟨7, 1, 1, 0, 100⟩] } } }; let u : State := s.storeWord Reg.REST_CTRL.EN.addr 3; let r : Roster := (s.roster.getD aloneHeld.roster); let n : Nat := 1; let m : DuskMsg := { kind := 1, round := 1 }; let w : State := ({ ((u.put Reg.REST_STAT.RES 1).record 0x0401 (natBe 2 n ++ [0])).openDusk m with rest.seen := (1, n, u.pos) :: u.rest.seen } : State).noteDusk n; s.awake = true ∧ u = s.storeWord Reg.REST_CTRL.EN.addr v.toNat ∧ bit v.toNat 1 = true ∧ bit v.toNat 2 = false ∧ bit v.toNat 4 = false ∧ u.roster = some r ∧ u.isLeader = true ∧ u.dState = 0 ∧ r.seqOf u.pos ≠ 1 ∧ n = u.nextDuskRound ∧ n < 65536 ∧ u.get Reg.REST_ROUND.ROUND ≠ n ∧ m = { kind := 1, round := n } ∧ w = ({ ((u.put Reg.REST_STAT.RES 1).record 0x0401 (natBe 2 n ++ [0])).openDusk m with rest.seen := (1, n, u.pos) :: u.rest.seen } : State).noteDusk n := by
  repeat' with_reducible apply And.intro
  all_goals first | with_reducible rfl | decide +kernel

theorem witness_DuskRound_3a : let v : Word := 17; let s : State := named.put Reg.REST_STAT.BUSY 1; let u : State := s.storeWord Reg.REST_CTRL.EN.addr v.toNat; s.awake = true ∧ u = s.storeWord Reg.REST_CTRL.EN.addr v.toNat ∧ bit v.toNat 1 = false ∧ bit v.toNat 4 = true ∧ s.flag Reg.REST_STAT.BUSY = true ∧ s.dState < 2 := by
  repeat' with_reducible apply And.intro
  all_goals first | with_reducible rfl | decide +kernel

theorem witness_DuskRound_4a : let v : Word := 17; let s : State := named; let u : State := (((s.storeWord Reg.REST_CTRL.EN.addr v.toNat).readVoted 0xD000C).readVoted 0x100).readVoted 0x108; let w : State := { u.put Reg.REST_STAT.BUSY 1 with rest.saving := some (u.cfgNow (((u.cfgBest).map (·.seq)).getD 0 + 1), u.now + ms 200) }; s.awake = true ∧ u = (((s.storeWord Reg.REST_CTRL.EN.addr v.toNat).readVoted 0xD000C).readVoted 0x100).readVoted 0x108 ∧ bit v.toNat 1 = false ∧ bit v.toNat 4 = true ∧ s.flag Reg.REST_STAT.BUSY = false ∧ w = { u.put Reg.REST_STAT.BUSY 1 with rest.saving := some (u.cfgNow (((u.cfgBest).map (·.seq)).getD 0 + 1), u.now + ms 200) } := by
  repeat' with_reducible apply And.intro
  all_goals first | with_reducible rfl | decide +kernel

theorem witness_DuskRound_5a : let c : CfgCopy := (named.cfgNow 1); let d : Nat := 0; let s : State := { named with rest.saving := some (c, 0), hkp.running := [.save] }; s.awake = true ∧ s.rest.saving = some (c, d) ∧ s.hkp.running.contains .save = true ∧ s.rest.cfgA = none ∧ s.cmd.slots = [] := by
  repeat' with_reducible apply And.intro
  all_goals first | with_reducible rfl | decide +kernel

theorem witness_DuskRound_6a : let m : DuskMsg := { kind := 1, round := 5 }; let l : Lane := 0; let f : Bytes := duskFrame m; let s : State := duskNode; let r : Roster := duskNode.roster.getD aloneHeld.roster; let u : State := ({ s with rest.seen := State.duskKey m (hSrc f) :: s.rest.seen } : State).noteDusk m.round; s.awake = true ∧ m = duskMsg (payload f) ∧ s.laneUp l = true ∧ headerCheck f = .ok ∧ hCls f = .mgmt ∧ hType f = 0x18 ∧ hLen f = 32 ∧ m.kind = 1 ∧ (s.vend (endOf l)).isolated = false ∧ s.breakEnd ≠ some (endOf l) ∧ s.inau.force.isNone = false ∧ hGen f = s.gen ∧ s.rest.seen.contains (State.duskKey m (hSrc f)) = false ∧ s.roster = some r ∧ r.seqOf s.pos ≠ 1 ∧ u = ({ s with rest.seen := State.duskKey m (hSrc f) :: s.rest.seen } : State).noteDusk m.round := by
  repeat' with_reducible apply And.intro
  all_goals first | with_reducible rfl | decide +kernel

theorem witness_DuskRound_7a : let m : DuskMsg := { kind := 2, round := 5 }; let l : Lane := 0; let f : Bytes := duskFrame m; let s : State := { duskNode with rest.answered := [(5, 2)] }; s.awake = true ∧ m = duskMsg (payload f) ∧ s.laneUp l = true ∧ headerCheck f = .ok ∧ hCls f = .mgmt ∧ hType f = 0x18 ∧ hLen f = 32 ∧ m.kind = 2 ∧ (s.vend (endOf l)).isolated = false ∧ s.breakEnd ≠ some (endOf l) ∧ s.inau.force.isNone = false ∧ hGen f = s.gen ∧ s.rest.seen.contains (State.duskKey m (hSrc f)) = false ∧ s.rest.tokens.contains (m.round, hSrc f, lineOf l) = false ∧ s.rest.answered.any (·.1 = m.round) = true := by
  repeat' with_reducible apply And.intro
  all_goals first | with_reducible rfl | decide +kernel

theorem witness_DuskRound_8a : let m : DuskMsg := { kind := 2, round := 5 }; let l : Lane := 0; let f : Bytes := duskFrame m; let s : State := duskNode; let u : State := (({ s with rest.seen := State.duskKey m (hSrc f) :: s.rest.seen, rest.tokens := (m.round, hSrc f, lineOf l) :: s.rest.tokens } : State).noteDusk m.round).openDusk m; s.awake = true ∧ m = duskMsg (payload f) ∧ s.laneUp l = true ∧ headerCheck f = .ok ∧ hCls f = .mgmt ∧ hType f = 0x18 ∧ hLen f = 32 ∧ m.kind = 2 ∧ (s.vend (endOf l)).isolated = false ∧ s.breakEnd ≠ some (endOf l) ∧ s.inau.force.isNone = false ∧ hGen f = s.gen ∧ s.rest.seen.contains (State.duskKey m (hSrc f)) = false ∧ s.rest.tokens.contains (m.round, hSrc f, lineOf l) = false ∧ s.rest.answered.any (·.1 = m.round) = false ∧ u = (({ s with rest.seen := State.duskKey m (hSrc f) :: s.rest.seen, rest.tokens := (m.round, hSrc f, lineOf l) :: s.rest.tokens } : State).noteDusk m.round).openDusk m := by
  repeat' with_reducible apply And.intro
  all_goals first | with_reducible rfl | decide +kernel

theorem witness_DuskRound_9a : let s : State := named.put Reg.REST_CTRL.HOLD 1; let n : Nat := 1; let c : Nat := 0; let l : List Nat := s.duskReasons.drop 1; let w : State := ({ s with rest.answered := (s.rest.round, s.pos) :: s.rest.answered } : State); s.duskReasons = n :: l ∧ s.rest.tw = false ∧ s.rest.jointNew = false ∧ w = { s with rest.answered := (s.rest.round, s.pos) :: s.rest.answered } := by
  repeat' with_reducible apply And.intro
  all_goals first | with_reducible rfl | decide +kernel

theorem witness_DuskRound_10a : let s : State := (duskNode.put Reg.REST_CTRL.EN 1).put Reg.INAU_STAT.STATE 0; let c : Nat := 1; let r : Roster := s.roster.getD aloneHeld.roster; let w : State := { s.put Reg.REST_STAT.DSTATE 2 with rest := { s.rest with answered := (s.rest.round, s.pos) :: s.rest.answered, consentAt := some s.cyc, count := c + 1 } }; s.duskReasons = [] ∧ s.rest.tw = false ∧ s.roster = some r ∧ s.pos ≠ 0 ∧ r.seqOf s.pos ≠ r.n ∧ w = { s.put Reg.REST_STAT.DSTATE 2 with rest := { s.rest with answered := (s.rest.round, s.pos) :: s.rest.answered, consentAt := some s.cyc, count := c + 1 } } ∧ s.rest.jointNew = false := by
  repeat' with_reducible apply And.intro
  all_goals first | with_reducible rfl | decide +kernel

theorem witness_DuskRound_11a : let m : DuskMsg := { kind := 3, round := 0, commit := true, ccyc := 9, csec := 1 }; let l : Lane := 0; let f : Bytes := duskFrame m; let s : State := duskNode.put Reg.REST_STAT.DSTATE 2; let w : State := ({ s with rest.seen := State.duskKey m (hSrc f) :: s.rest.seen } : State).sendDusk m [oppEnd (endOf l)]; let x : Int := (w.mapAt w.now).getD 0; s.awake = true ∧ m = duskMsg (payload f) ∧ s.laneUp l = true ∧ headerCheck f = .ok ∧ hCls f = .mgmt ∧ hType f = 0x18 ∧ hLen f = 32 ∧ m.kind = 3 ∧ (s.vend (endOf l)).isolated = false ∧ s.breakEnd ≠ some (endOf l) ∧ s.inau.force.isNone = false ∧ hGen f = s.gen ∧ s.rest.seen.contains (State.duskKey m (hSrc f)) = false ∧ w = ({ s with rest.seen := State.duskKey m (hSrc f) :: s.rest.seen } : State).sendDusk m [oppEnd (endOf l)] ∧ m.commit = true ∧ w.dState = 2 ∧ m.round = w.rest.round ∧ w.mapAt w.now = some x ∧ us 100 ≤ wrapT (ofSecNs m.csec m.cns - x) ∧ w.rest.leadAt = none ∧ m.ccyc < 2 ^ 32 := by
  repeat' with_reducible apply And.intro
  all_goals first | with_reducible rfl | decide +kernel

theorem witness_DuskRound_12a : let m : DuskMsg := { kind := 4, round := 0 }; let l : Lane := 0; let f : Bytes := duskFrame m; let s : State := (duskNode.put Reg.REST_STAT.DSTATE 4).put Reg.REST_ROUND.ROUND 3; let w : State := ({ s with rest.seen := State.duskKey m (hSrc f) :: s.rest.seen } : State).sendDusk m [oppEnd (endOf l)]; s.awake = true ∧ m = duskMsg (payload f) ∧ s.laneUp l = true ∧ headerCheck f = .ok ∧ hCls f = .mgmt ∧ hType f = 0x18 ∧ hLen f = 32 ∧ m.kind = 4 ∧ (s.vend (endOf l)).isolated = false ∧ s.breakEnd ≠ some (endOf l) ∧ s.inau.force.isNone = false ∧ hGen f = s.gen ∧ s.rest.seen.contains (State.duskKey m (hSrc f)) = false ∧ w = ({ s with rest.seen := State.duskKey m (hSrc f) :: s.rest.seen } : State).sendDusk m [oppEnd (endOf l)] ∧ w.get Reg.REST_ROUND.ROUND ≠ m.round ∧ m.round = w.rest.round ∧ w.dState = 4 ∧ w.flag Reg.REST_STAT.HELD = false := by
  repeat' with_reducible apply And.intro
  all_goals first | with_reducible rfl | decide +kernel

theorem witness_DuskRound_13a : let c : Nat := 5; let s : State := { duskNode.put Reg.REST_STAT.DSTATE 2 with rest.leadAt := some 5, cyc := 100000 }; let m : DuskMsg := { s.duskOf 3 with vpos := s.pos, reason := 13, count := s.rest.count }; let u : State := { s with rest.seen := State.duskKey m s.pos :: s.rest.seen }; s.awake = true ∧ s.rest.leadAt = some c ∧ (s.dState = 1 ∨ s.dState = 2) ∧ (s.tDusk : Int) ≤ sdiff32 s.cyc c ∧ m = { s.duskOf 3 with vpos := s.pos, reason := 13, count := s.rest.count } ∧ u = { s with rest.seen := State.duskKey m s.pos :: s.rest.seen } := by
  repeat' with_reducible apply And.intro
  all_goals first | with_reducible rfl | decide +kernel

theorem witness_DuskRound_14a : let c : Nat := 5; let s : State := { duskNode.put Reg.REST_STAT.DSTATE 2 with rest.consentAt := some 5, cyc := 100000 }; s.awake = true ∧ s.rest.consentAt = some c ∧ s.dState = 2 ∧ (s.tDusk + 2 : Int) ≤ sdiff32 s.cyc c ∧ s.rest.leadAt = none := by
  repeat' with_reducible apply And.intro
  all_goals first | with_reducible rfl | decide +kernel

theorem witness_DuskRound_15a : let n : Nat := ((duskNode.put Reg.REST_STAT.DSTATE 3).now + 5000000); let s : State := { duskNode.put Reg.REST_STAT.DSTATE 3 with rest.commit := (duskNode.mapAt duskNode.now).map (· + 5000000) }; s.awake = true ∧ s.commitAt = some n ∧ s.dState = 3 ∧ s.get Reg.BRDG_STACK.PRESENT = 0 := by
  repeat' with_reducible apply And.intro
  all_goals first | with_reducible rfl | decide +kernel

theorem witness_DuskRound_16a : let v : Word := 3; let l : Lane := 0; let f : Bytes := [1]; let s : State := duskNode; s.awake = true := by
  decide +kernel

theorem witness_DuskRound_17a : let m : DuskMsg := { kind := 3, round := 5 }; let l : Lane := 0; let f : Bytes := duskFrame m; let s : State := { duskNode with rest.seen := [State.duskKey m (hSrc f)] }; s.awake = true ∧ m = duskMsg (payload f) ∧ s.laneUp l = true ∧ headerCheck f = .ok ∧ hCls f = .mgmt ∧ hType f = 0x18 ∧ hLen f = 32 ∧ m.kind = 3 ∧ (s.vend (endOf l)).isolated = false ∧ s.breakEnd ≠ some (endOf l) ∧ s.inau.force.isNone = false ∧ hGen f = s.gen ∧ s.rest.seen.contains (State.duskKey m (hSrc f)) = true := by
  repeat' with_reducible apply And.intro
  all_goals first | with_reducible rfl | decide +kernel

theorem witness_DuskRound_18a : let m : DuskMsg := { kind := 2, round := 5 }; let l : Lane := 0; let f : Bytes := duskFrame m; let s : State := duskNode.onEnd 0 fun v => { v with isolated := true }; s.awake = true ∧ m = duskMsg (payload f) ∧ s.laneUp l = true ∧ headerCheck f = .ok ∧ hCls f = .mgmt ∧ hType f = 0x18 ∧ hLen f = 32 ∧ m.kind = 2 ∧ (s.vend (endOf l)).isolated = true := by
  repeat' with_reducible apply And.intro
  all_goals first | with_reducible rfl | decide +kernel

theorem witness_DuskRound_19a : let m : DuskMsg := { kind := 1, round := 5 }; let l : Lane := 0; let f : Bytes := duskFrame m; let s : State := ({ duskNode.put Reg.INAU_POS.POS 1 with inau.force := some { aloneHeld with roster := { aloneHeld.roster with loop := true, entries := [⟨7, 1, 1, 0, 100⟩, ⟨3, 2, 1, 0, 100⟩, ⟨9, 3, 1, 0, 100⟩] } } } : State); s.awake = true ∧ m = duskMsg (payload f) ∧ s.laneUp l = true ∧ headerCheck f = .ok ∧ hCls f = .mgmt ∧ hType f = 0x18 ∧ hLen f = 32 ∧ m.kind = 1 ∧ (s.vend (endOf l)).isolated = false ∧ s.breakEnd = some (endOf l) := by
  repeat' with_reducible apply And.intro
  all_goals first | with_reducible rfl | decide +kernel

theorem witness_DuskRound_20a : let m : DuskMsg := { kind := 2, round := 5 }; let l : Lane := 0; let f : Bytes := duskFrame m; let s : State := { duskNode with rest.seen := [State.duskKey m (hSrc f)], rest.tokens := [(m.round, hSrc f, lineOf l)] }; s.awake = true ∧ m = duskMsg (payload f) ∧ s.laneUp l = true ∧ headerCheck f = .ok ∧ hCls f = .mgmt ∧ hType f = 0x18 ∧ hLen f = 32 ∧ m.kind = 2 ∧ (s.vend (endOf l)).isolated = false ∧ s.breakEnd ≠ some (endOf l) ∧ s.inau.force.isNone = false ∧ hGen f = s.gen ∧ s.rest.seen.contains (State.duskKey m (hSrc f)) = true ∧ s.rest.tokens.contains (m.round, hSrc f, lineOf l) = true := by
  repeat' with_reducible apply And.intro
  all_goals first | with_reducible rfl | decide +kernel

theorem witness_DuskRound_21a : let m : DuskMsg := { kind := 2, round := 5 }; let l : Lane := 0; let f : Bytes := duskFrame m; let s : State := { duskNode with rest.seen := [State.duskKey m (hSrc f)] }; s.awake = true ∧ m = duskMsg (payload f) ∧ s.laneUp l = true ∧ headerCheck f = .ok ∧ hCls f = .mgmt ∧ hType f = 0x18 ∧ hLen f = 32 ∧ m.kind = 2 ∧ (s.vend (endOf l)).isolated = false ∧ s.breakEnd ≠ some (endOf l) ∧ s.inau.force.isNone = false ∧ hGen f = s.gen ∧ s.rest.seen.contains (State.duskKey m (hSrc f)) = true ∧ s.rest.tokens.contains (m.round, hSrc f, lineOf l) = false := by
  repeat' with_reducible apply And.intro
  all_goals first | with_reducible rfl | decide +kernel

theorem witness_DuskRound_22a : let m : DuskMsg := { kind := 4, round := 0 }; let l : Lane := 0; let f : Bytes := duskFrame m; let s : State := (duskNode.put Reg.REST_STAT.DSTATE 2).put Reg.REST_ROUND.ROUND 3; let w : State := ({ s with rest.seen := State.duskKey m (hSrc f) :: s.rest.seen } : State).sendDusk m [oppEnd (endOf l)]; s.awake = true ∧ m = duskMsg (payload f) ∧ s.laneUp l = true ∧ headerCheck f = .ok ∧ hCls f = .mgmt ∧ hType f = 0x18 ∧ hLen f = 32 ∧ m.kind = 4 ∧ (s.vend (endOf l)).isolated = false ∧ s.breakEnd ≠ some (endOf l) ∧ s.inau.force.isNone = false ∧ hGen f = s.gen ∧ s.rest.seen.contains (State.duskKey m (hSrc f)) = false ∧ w = ({ s with rest.seen := State.duskKey m (hSrc f) :: s.rest.seen } : State).sendDusk m [oppEnd (endOf l)] ∧ w.get Reg.REST_ROUND.ROUND ≠ m.round ∧ m.round = w.rest.round ∧ w.dState ≠ 4 := by
  repeat' with_reducible apply And.intro
  all_goals first | with_reducible rfl | decide +kernel

theorem witness_DuskRound_23a : let m : DuskMsg := { kind := 3, round := 0 }; let l : Lane := 0; let f : Bytes := duskFrame m; let s : State := (duskNode.put Reg.REST_STAT.DSTATE 2).put Reg.REST_ROUND.ROUND 3; let w : State := ({ s with rest.seen := State.duskKey m (hSrc f) :: s.rest.seen } : State).sendDusk m [oppEnd (endOf l)]; s.awake = true ∧ m = duskMsg (payload f) ∧ s.laneUp l = true ∧ headerCheck f = .ok ∧ hCls f = .mgmt ∧ hType f = 0x18 ∧ hLen f = 32 ∧ m.kind = 3 ∧ (s.vend (endOf l)).isolated = false ∧ s.breakEnd ≠ some (endOf l) ∧ s.inau.force.isNone = false ∧ hGen f = s.gen ∧ s.rest.seen.contains (State.duskKey m (hSrc f)) = false ∧ w = ({ s with rest.seen := State.duskKey m (hSrc f) :: s.rest.seen } : State).sendDusk m [oppEnd (endOf l)] ∧ m.commit = false ∧ w.get Reg.REST_ROUND.ROUND ≠ m.round ∧ m.round = w.rest.round := by
  repeat' with_reducible apply And.intro
  all_goals first | with_reducible rfl | decide +kernel

theorem witness_DuskRound_24a : let s : State := named; s.awake = true := by
  decide +kernel

theorem witness_Waking_1a : let l : Lane := 1; let mv : Nat := 200; let ns : Nat := 20000; let s : State := (asleep.put (Reg.LANE_STAT.STATE.at 1) 8).put (Reg.LANE_CTRL.WAKEEN.at 1) 1; s.wakeable = true ∧ s.pwr.rst ≠ some 1 ∧ s.flag (Reg.LANE_CTRL.WAKEEN.at l) = true ∧ s.laneSt l = .sleep ∧ s.dState < 2 ∧ 100 ≤ mv ∧ 16000 ≤ ns := by
  repeat' with_reducible apply And.intro
  all_goals first | with_reducible rfl | decide +kernel

theorem witness_Waking_2a : let l : Lane := 1; let mv : Nat := 40; let ns : Nat := 20000; let s : State := asleep; s.power ≠ .off ∧ s.pwr.rst ≠ some 1 ∧ (mv ≤ 40 ∨ ns < 12000) := by
  repeat' with_reducible apply And.intro
  all_goals first | with_reducible rfl | decide +kernel

theorem witness_Waking_3a : let l : Lane := 1; let mv : Nat := 50; let ns : Nat := 20000; let s : State := (asleep.put (Reg.LANE_STAT.STATE.at 1) 8).put (Reg.LANE_CTRL.WAKEEN.at 1) 1; let u : State := { s with free := s.free + 1 }; s.wakeable = true ∧ s.pwr.rst ≠ some 1 ∧ s.flag (Reg.LANE_CTRL.WAKEEN.at l) = true ∧ s.laneSt l = .sleep ∧ s.dState < 2 ∧ 40 < mv ∧ 12000 ≤ ns ∧ (mv < 100 ∨ ns < 16000) ∧ u = { s with free := s.free + 1 } := by
  repeat' with_reducible apply And.intro
  all_goals first | with_reducible rfl | decide +kernel

theorem witness_Waking_4a : let n : Nat := 3; let l : Nat := 0; let p : Nat := 0; let s : State := asleep; s.wakeable = true ∧ s.pwr.low = false := by
  repeat' with_reducible apply And.intro
  all_goals first | with_reducible rfl | decide +kernel

theorem witness_Waking_5a : let b : Bool := true; let s : State := asleep.put Reg.REST_WAKE.WLEAD 1; s.wakeable = true ∧ s.pwr.rst ≠ some 1 ∧ s.pwr.vio1 = false ∧ s.flag Reg.INAU_STAT.LEADIN = !b ∧ s.flag Reg.REST_WAKE.WLEAD = true := by
  repeat' with_reducible apply And.intro
  all_goals first | with_reducible rfl | decide +kernel

theorem witness_Waking_6a : let b : Bool := true; let s : State := named; s.active = true ∧ s.pwr.vio1 = false ∧ s.flag Reg.INAU_STAT.LEADIN = (!b) ∧ s.flag Reg.REST_WAKE.WLEAD = false := by
  repeat' with_reducible apply And.intro
  all_goals first | with_reducible rfl | decide +kernel

theorem witness_Waking_7a : let b : Bool := false; let s : State := named; s.active = true ∧ s.pwr.vio1 = false ∧ s.flag Reg.INAU_STAT.LEADIN = b := by
  repeat' with_reducible apply And.intro
  all_goals first | with_reducible rfl | decide +kernel

theorem witness_Waking_8a : let a : Bool := true; let b : Bool := false; let s : State := asleep.put Reg.REST_WAKE.WKEY 1; let u : State := if s.awake then State.takeKey { s with rest := { s.rest with keyA := a, keyB := b } } a b else { s with rest := { s.rest with keyA := a, keyB := b } }; s.wakeable = true ∧ s.pwr.rst ≠ some 1 ∧ s.pwr.vio1 = false ∧ s.rest.keyA ≠ a ∧ s.flag Reg.REST_WAKE.WKEY = true ∧ u = (if s.awake then State.takeKey { s with rest := { s.rest with keyA := a, keyB := b } } a b else { s with rest := { s.rest with keyA := a, keyB := b } }) := by
  repeat' with_reducible apply And.intro
  all_goals first | with_reducible rfl | decide +kernel

theorem witness_Waking_9a : let a : Bool := true; let b : Bool := false; let s : State := named; let u : State := { s with rest := { s.rest with keyA := true, keyB := false } }; s.active = true ∧ s.pwr.vio1 = false ∧ s.rest.keyA ≠ a ∧ s.flag Reg.REST_WAKE.WKEY = false ∧ u = { s with rest := { s.rest with keyA := a, keyB := b } } := by
  repeat' with_reducible apply And.intro
  all_goals first | with_reducible rfl | decide +kernel

theorem witness_Waking_10a : let n : Nat := 20000; let s : State := named; s.active = true ∧ s.rest.dawnAt ≠ some s.now := by
  repeat' with_reducible apply And.intro
  all_goals first | with_reducible rfl | decide +kernel

theorem witness_Waking_11a : let n : Nat := 20000; let s : State := asleep.put Reg.TWIN_CFG.TWEN 1; s.wakeable = true ∧ s.pwr.rst ≠ some 1 ∧ s.flag Reg.TWIN_CFG.TWEN = true ∧ s.dState < 2 ∧ 20000 ≤ n := by
  repeat' with_reducible apply And.intro
  all_goals first | with_reducible rfl | decide +kernel

theorem witness_Waking_12a : let s : State := { named with power := .twilight, rest.jointNew := true }; s.power = .twilight ∧ s.pwr.rst = none ∧ s.rest.jointNew = true ∧ s.dState < 2 := by
  repeat' with_reducible apply And.intro
  all_goals first | with_reducible rfl | decide +kernel

theorem witness_Waking_13a : let s : State := (named.put Reg.REST_STAT.DSTATE 4).put Reg.REST_CTRL.HOLD 1; let n : Nat := 1; let l : List Nat := s.duskReasons.drop 1; s.active = true ∧ s.dState = 4 ∧ s.duskReasons = n :: l ∧ s.flag Reg.REST_STAT.HELD = false := by
  repeat' with_reducible apply And.intro
  all_goals first | with_reducible rfl | decide +kernel

theorem witness_Waking_14a : let s : State := { (duskNode.put Reg.REST_STAT.DSTATE 3).put Reg.REST_COMMIT.CCYC 5 with rest.commit := (duskNode.mapAt duskNode.now).map (· + 5000000) }; let n : Nat := s.now + 5000000; let u : State := ((s.reach n).record 0x0407 (natBe 1 2)).bump Reg.REST_COMMITS.COUNT; let v : State := u.keepIdentity.stopForTc.enterSleep n; s.awake = true ∧ s.commitAt = some n ∧ 3 ≤ s.dState ∧ s.cyc = s.get Reg.REST_COMMIT.CCYC ∧ s.rest.tw = false ∧ u = ((s.reach n).record 0x0407 (natBe 1 2)).bump Reg.REST_COMMITS.COUNT ∧ v = u.keepIdentity.stopForTc.enterSleep n := by
  repeat' with_reducible apply And.intro
  all_goals first | with_reducible rfl | decide +kernel

theorem witness_Waking_15a : let s : State := { (duskNode.put Reg.REST_STAT.DSTATE 3).put Reg.REST_COMMIT.CCYC 5 with rest.commit := (duskNode.mapAt duskNode.now).map (· + 5000000), rest.tw := true }; let n : Nat := s.now + 5000000; let u : State := ((s.reach n).record 0x0407 (natBe 1 1)).bump Reg.REST_COMMITS.COUNT; let v : State := u.keepIdentity.stopForTc.enterTwilight; s.awake = true ∧ s.commitAt = some n ∧ 3 ≤ s.dState ∧ s.cyc = s.get Reg.REST_COMMIT.CCYC ∧ s.rest.tw = true ∧ s.twinOn = false ∧ s.stackId = 0 ∧ u = ((s.reach n).record 0x0407 (natBe 1 1)).bump Reg.REST_COMMITS.COUNT ∧ v = u.keepIdentity.stopForTc.enterTwilight := by
  repeat' with_reducible apply And.intro
  all_goals first | with_reducible rfl | decide +kernel

theorem witness_Waking_16a : let n : Nat := 9; let s : State := { asleep with rest.entering := some 9, events := [], recd.stage := [] }; let q : Nat := ((s.rest.retB.map (·.seq)).getD 0) + 1; s.power = .duskSleep ∧ s.pwr.rst ≠ some 1 ∧ q = ((s.rest.retB.map (·.seq)).getD 0) + 1 ∧ s.rest.entering = some n ∧ s.recd.stage = [] ∧ s.recd.again = [] ∧ s.events = [] ∧ s.recd.job = .idle ∧ s.rest.retA = none := by
  repeat' with_reducible apply And.intro
  all_goals first | with_reducible rfl | decide +kernel

theorem witness_Waking_17a : let s : State := asleep.put Reg.REST_STAT.HELD 1; s.wakeable = true ∧ s.pwr.rst ≠ some 1 ∧ s.dState < 3 ∧ s.rest.wakePend = none ∧ s.flag Reg.REST_STAT.HELD = true := by
  repeat' with_reducible apply And.intro
  all_goals first | with_reducible rfl | decide +kernel

theorem witness_Waking_18a : let l : Lane := 1; let n : Nat := 0; let c : Nat := 0; let s : State := { (named.put (Reg.LANE_STAT.STATE.at 1) 1).onLane 1 (fun x => { x with lostAt := some 0 }) with rest.tcs := [0] }; let u : State := ((s.reach (n + us 50)).dropLane l).restLane l; s.active = true ∧ s.laneUp l = false ∧ (s.lane l).lostAt = some n ∧ c ∈ s.rest.tcs ∧ c ≤ n ∧ n ≤ c + ms 2 ∧ u = ((s.reach (n + us 50)).dropLane l).restLane l := by
  repeat' with_reducible apply And.intro
  all_goals first | with_reducible rfl | decide +kernel

theorem witness_Waking_19a : let m : DuskMsg := { kind := 5, vpos := 3 }; let l : Lane := 0; let f : Bytes := duskFrame m; let s : State := { duskNode with power := .twilight }; let r : List (Nat × Bytes) := (s.sendDawns [(laneAt (oppEnd (endOf l)) 0, s.inauFrame 0x18 (payload f))]).1; let u : State := (s.sendDawns [(laneAt (oppEnd (endOf l)) 0, s.inauFrame 0x18 (payload f))]).2; s.power = .twilight ∧ s.pwr.rst = none ∧ m = duskMsg (payload f) ∧ s.laneUp l = true ∧ headerCheck f = .ok ∧ hCls f = .mgmt ∧ hType f = 0x18 ∧ hLen f = 32 ∧ m.kind = 5 ∧ (s.vend (endOf l)).isolated = false ∧ s.breakEnd ≠ some (endOf l) ∧ s.sendDawns [(laneAt (oppEnd (endOf l)) 0, s.inauFrame 0x18 (payload f))] = (r, u) := by
  repeat' with_reducible apply And.intro
  all_goals first | with_reducible rfl | decide +kernel

theorem witness_Waking_20a : let b : Bool := true; let s : State := asleep.put Reg.REST_WAKE.WPIN 1; let u : State := State.dawn { s with rest.wakeIn := some true } 3 0 0; s.wakeable = true ∧ s.pwr.rst ≠ some 1 ∧ s.pwr.vio1 = false ∧ s.dState < 2 ∧ b ≠ s.flag Reg.REST_WAKE.WPOL ∧ s.flag Reg.REST_WAKE.WPIN = true ∧ u = State.dawn { s with rest.wakeIn := some b } 3 0 0 := by
  repeat' with_reducible apply And.intro
  all_goals first | with_reducible rfl | decide +kernel

theorem witness_Waking_21a : let b : Bool := true; let s : State := named.put Reg.REST_WAKE.WPIN 0; let u : State := { s with rest.wakeIn := some true }; s.active = true ∧ s.pwr.vio1 = false ∧ s.flag Reg.REST_WAKE.WPIN = false ∧ u = { s with rest.wakeIn := some b } := by
  repeat' with_reducible apply And.intro
  all_goals first | with_reducible rfl | decide +kernel

theorem witness_Waking_22a : let n : Nat := 77; let s : State := (asleep.put Reg.REST_WAKE.WALARM 1).put Reg.REST_ALARM.ALARM 77; s.wakeable = true ∧ s.pwr.rst ≠ some 1 ∧ s.flag Reg.REST_WAKE.WALARM = true ∧ n = s.get Reg.REST_ALARM.ALARM ∧ n ≠ 0 ∧ s.dState < 2 := by
  repeat' with_reducible apply And.intro
  all_goals first | with_reducible rfl | decide +kernel

theorem witness_Waking_23a : let n : Nat := 5; let s : State := { named with rest.pattern := some 5 }; let u : State := { s.reach n with rest.pattern := none }; s.awake = true ∧ s.rest.pattern = some n ∧ u = { s.reach n with rest.pattern := none } := by
  repeat' with_reducible apply And.intro
  all_goals first | with_reducible rfl | decide +kernel

theorem witness_Waking_24a : let n : Nat := 5; let s : State := { named with rest.wakeout := some 5 }; s.active = true ∧ s.rest.wakeout = some n := by
  repeat' with_reducible apply And.intro
  all_goals first | with_reducible rfl | decide +kernel

theorem witness_Waking_25a : let m : DuskMsg := { kind := 5, vpos := 3 }; let l : Lane := 0; let f : Bytes := duskFrame m; let s : State := { duskNode.onEnd 0 fun v => { v with isolated := true } with power := .twilight }; s.awake = true ∧ m = duskMsg (payload f) ∧ s.laneUp l = true ∧ headerCheck f = .ok ∧ hCls f = .mgmt ∧ hType f = 0x18 ∧ hLen f = 32 ∧ m.kind = 5 ∧ (s.vend (endOf l)).isolated = true := by
  repeat' with_reducible apply And.intro
  all_goals first | with_reducible rfl | decide +kernel

theorem witness_Waking_26a : let l : Lane := 0; let f : Bytes := [1]; let s : State := { named with rest.pattern := none }; s.awake = true := by
  decide +kernel

theorem witness_Waking_27a : let m : DuskMsg := { kind := 5, vpos := 3 }; let l : Lane := 0; let f : Bytes := duskFrame m; let s : State := { ({ duskNode.put Reg.INAU_POS.POS 1 with inau.force := some { aloneHeld with roster := { aloneHeld.roster with loop := true, entries := [⟨7, 1, 1, 0, 100⟩, ⟨3, 2, 1, 0, 100⟩, ⟨9, 3, 1, 0, 100⟩] } } } : State) with power := .twilight }; s.awake = true ∧ m = duskMsg (payload f) ∧ s.laneUp l = true ∧ headerCheck f = .ok ∧ hCls f = .mgmt ∧ hType f = 0x18 ∧ hLen f = 32 ∧ m.kind = 5 ∧ (s.vend (endOf l)).isolated = false ∧ s.breakEnd = some (endOf l) := by
  repeat' with_reducible apply And.intro
  all_goals first | with_reducible rfl | decide +kernel

theorem witness_Waking_28a : let s : State := named; s.awake = true ∧ s.rest.pattern = none ∧ s.lanes.toList.all (·.guardEnd.isNone) = true := by
  repeat' with_reducible apply And.intro
  all_goals first | with_reducible rfl | decide +kernel

theorem witness_Waking_29a : let s : State := { (named.put Reg.TWIN_CFG.TWEN 1).put Reg.REST_WAKESRC.SRC 5 with rest.dawnAt := some named.now }; s.active = true ∧ s.rest.dawnAt = some s.now ∧ s.flag Reg.TWIN_CFG.TWEN = true ∧ 2 < s.get Reg.REST_WAKESRC.SRC := by
  repeat' with_reducible apply And.intro
  all_goals first | with_reducible rfl | decide +kernel

theorem witness_Waking_30a : let a : Bool := true; let b : Bool := true; let n : Nat := 0; let mv : Nat := 50; let ns : Nat := 14000; let l : Lane := 0; let s : State := asleep; s.power ≠ .off ∧ s.pwr.rst ≠ some 1 := by
  repeat' with_reducible apply And.intro
  all_goals first | with_reducible rfl | decide +kernel

theorem witness_Waking_31a : let l : Lane := 0; let s : State := named; s.awake = true := by
  decide +kernel

theorem witness_Waking_32a : let l : Lane := 0; let s : State := named; s.active = true := by
  decide +kernel

theorem witness_Waking_33a : let s : State := named; s.awake = true ∧ (s.commitAt = none ∨ s.dState < 3) := by
  repeat' with_reducible apply And.intro
  all_goals first | with_reducible rfl | decide +kernel

theorem witness_Waking_34a : let s : State := named; s.active = true ∧ s.dState < 2 := by
  repeat' with_reducible apply And.intro
  all_goals first | with_reducible rfl | decide +kernel

theorem witness_Waking_35a : let a : Bool := false; let b : Bool := false; let s : State := named; s.power ≠ .off ∧ s.pwr.rst ≠ some 1 ∧ s.rest.keyA = (a && !s.pwr.vio1) ∧ s.rest.keyB = (b && !s.pwr.vio1) := by
  repeat' with_reducible apply And.intro
  all_goals first | with_reducible rfl | decide +kernel

theorem witness_Waking_36a : let a : Bool := true; let b : Bool := false; let s : State := asleep; let u : State := { s with rest := { s.rest with keyA := true, keyB := false } }; s.wakeable = true ∧ s.pwr.rst ≠ some 1 ∧ s.pwr.vio1 = false ∧ s.rest.keyA ≠ a ∧ s.flag Reg.REST_WAKE.WKEY = false ∧ u = { s with rest := { s.rest with keyA := a, keyB := b } } := by
  repeat' with_reducible apply And.intro
  all_goals first | with_reducible rfl | decide +kernel

theorem witness_Waking_37a : let n : Nat := 20000; let s : State := asleep; s.wakeable = true ∧ s.pwr.rst ≠ some 1 ∧ (s.flag Reg.TWIN_CFG.TWEN = false ∨ n < 20000) := by
  repeat' with_reducible apply And.intro
  all_goals first | with_reducible rfl | decide +kernel

theorem witness_Waking_39a : let n : Nat := 20000; let s : State := { ((duskNode.put Reg.REST_STAT.DSTATE 4).put Reg.INAU_STAT.STATE 0).put Reg.TWIN_CFG.TWEN 1 with power := .twilight, rest.jointNew := false }; s.power = .twilight ∧ s.pwr.rst = none ∧ s.dState = 4 ∧ s.duskReasons = [] ∧ s.flag Reg.TWIN_CFG.TWEN = true ∧ 20000 ≤ n ∧ s.rest.wakePend = none := by
  repeat' with_reducible apply And.intro
  all_goals first | with_reducible rfl | decide +kernel

theorem witness_Waking_40a : let c : Nat := 2; let l : Nat := 0; let p : Nat := 0; let s : State := { asleep with rest.wakePend := some (2, 0, 0) }; s.wakeable = true ∧ s.pwr.rst ≠ some 1 := by
  repeat' with_reducible apply And.intro
  all_goals first | with_reducible rfl | decide +kernel

theorem witness_Waking_41a : let m : DuskMsg := { kind := 5, vpos := 3 }; let l : Lane := 0; let f : Bytes := duskFrame m; let s : State := duskNode; s.active = true ∧ m = duskMsg (payload f) ∧ s.laneUp l = true ∧ headerCheck f = .ok ∧ hCls f = .mgmt ∧ hType f = 0x18 ∧ hLen f = 32 ∧ m.kind = 5 ∧ (s.vend (endOf l)).isolated = false ∧ s.breakEnd ≠ some (endOf l) := by
  repeat' with_reducible apply And.intro
  all_goals first | with_reducible rfl | decide +kernel

theorem witness_Waking_42a : let l : Lane := 1; let mv : Nat := 100; let ns : Nat := 16000; let s : State := { (((named.put (Reg.LANE_STAT.STATE.at 1) 8).put (Reg.LANE_CTRL.WAKEEN.at 1) 1).put Reg.REST_WAKESRC.SRC 5) with rest.dawnAt := some named.now }; s.active = true ∧ s.rest.dawnAt = some s.now ∧ s.flag (Reg.LANE_CTRL.WAKEEN.at l) = true ∧ s.laneSt l = .sleep ∧ 100 ≤ mv ∧ 16000 ≤ ns := by
  repeat' with_reducible apply And.intro
  all_goals first | with_reducible rfl | decide +kernel

theorem witness_Waking_43a : let n : Nat := 20000; let s : State := { ((duskNode.put Reg.REST_STAT.DSTATE 2).put Reg.REST_CTRL.HOLD 1).put Reg.TWIN_CFG.TWEN 1 with power := .twilight }; let r : Nat := s.duskReasons.headD 0; let l : List Nat := s.duskReasons.drop 1; let u : State := s.wakeReason; s.power = .twilight ∧ s.pwr.rst = none ∧ s.dState = 2 ∧ s.duskReasons = r :: l ∧ s.flag Reg.TWIN_CFG.TWEN = true ∧ 20000 ≤ n ∧ u = s.wakeReason := by
  repeat' with_reducible apply And.intro
  all_goals first | with_reducible rfl | decide +kernel

theorem witness_CommandPackets_1a : let n : Fin 64 := 0; let c : CmdSlot := hostPk 0x01 ([]); let s : State := holding (named) 0x01 ([]); s.awake = true ∧ turn s n 0x01 c = true := by
  repeat' with_reducible apply And.intro
  all_goals first | with_reducible rfl | decide +kernel

theorem witness_CommandPackets_2a : let n : Fin 64 := 0; let c : CmdSlot := hostPk 0x02 ([]); let s : State := holding (named) 0x02 ([]); s.awake = true ∧ turn s n 0x02 c = true := by
  repeat' with_reducible apply And.intro
  all_goals first | with_reducible rfl | decide +kernel

theorem witness_CommandPackets_3a : let n : Fin 64 := 0; let c : CmdSlot := hostPk 0x10 (natBe 4 0xE0000 ++ natBe 2 1 ++ [0, 0]); let s : State := holding (named) 0x10 (natBe 4 0xE0000 ++ natBe 2 1 ++ [0, 0]); let a : Nat := 0xE0000; let k : Nat := 1; let r : Bytes × State := State.wordsRead 0 1 0xE0000 s; s.awake = true ∧ turn s n 0x10 c = true ∧ a = fieldAt (pkParams c.packet) 0 4 ∧ k = fieldAt (pkParams c.packet) 4 2 ∧ fieldAt (pkParams c.packet) 6 2 = 0 ∧ 1 ≤ k ∧ k ≤ 64 ∧ State.regRange a k = true ∧ s.brdg.writes = [] ∧ r = State.wordsRead 0 k a s := by
  repeat' with_reducible apply And.intro
  all_goals first | with_reducible rfl | decide +kernel

theorem witness_CommandPackets_4a : let n : Fin 64 := 0; let c : CmdSlot := hostPk 0x11 (natBe 4 0x10000 ++ natBe 4 0xFFFFFFFF ++ natBe 4 1); let s : State := holding (named) 0x11 (natBe 4 0x10000 ++ natBe 4 0xFFFFFFFF ++ natBe 4 1); let a : Nat := 0x10000; let m : Nat := 0xFFFFFFFF; let v : Nat := 1; let r : Bytes × State := s.wordRead a 0; let w : Nat := 1; s.awake = true ∧ turn s n 0x11 c = true ∧ a = fieldAt (pkParams c.packet) 0 4 ∧ m = fieldAt (pkParams c.packet) 4 4 ∧ v = fieldAt (pkParams c.packet) 8 4 ∧ State.regRange a 1 = true ∧ s.busyAt a = false ∧ r = s.wordRead a 0 ∧ w = (beNat r.1 &&& (m ^^^ 0xFFFFFFFF)) ||| (v &&& m) ∧ r.2.sets (State.wignAt a) (fun s => s.wholeWrite a w 0) = false ∧ r.2.sets (cperrOf a) (fun s => s.wholeWrite a w 0) = false := by
  repeat' with_reducible apply And.intro
  all_goals first | with_reducible rfl | decide +kernel

theorem witness_CommandPackets_5a : let n : Fin 64 := 0; let e : List (Fin 3) := [2]; let c : CmdSlot := hostPk 0x12 (natBe 4 0x50040 ++ natBe 4 0); let s : State := holding (named) 0x12 (natBe 4 0x50040 ++ natBe 4 0); let a : Nat := 0x50040; let b : Bytes := (State.readOuts 0x50040 0 2 8 s).1.getD []; let u : State := (State.readOuts 0x50040 0 2 8 s).2; s.awake = true ∧ turn s n 0x12 c = true ∧ a = fieldAt (pkParams c.packet) 0 4 ∧ mailboxSels.contains a = true ∧ s.busyAt a = false ∧ State.readOuts a (fieldAt (pkParams c.packet) 4 4) (e.head?.getD 0).val 8 s = (some b, u) := by
  repeat' with_reducible apply And.intro
  all_goals first | with_reducible rfl | decide +kernel

theorem witness_CommandPackets_6a : let n : Fin 64 := 0; let c : CmdSlot := hostPk 0x20 (natBe 4 0 ++ [1, 2, 3, 4]); let s : State := holding (named.put Reg.CYCL_STAT.KEY 1) 0x20 (natBe 4 0 ++ [1, 2, 3, 4]); let a : Bytes := pkParams c.packet; s.awake = true ∧ turn s n 0x20 c = true ∧ a = pkParams c.packet ∧ s.get Reg.CYCL_STAT.KEY = 1 := by
  repeat' with_reducible apply And.intro
  all_goals first | with_reducible rfl | decide +kernel

theorem witness_CommandPackets_7a : let n : Fin 64 := 0; let c : CmdSlot := hostPk 0x20 (natBe 4 0 ++ [1, 2, 3, 4]); let s : State := holding (named) 0x20 (natBe 4 0 ++ [1, 2, 3, 4]); let a : Bytes := pkParams c.packet; s.awake = true ∧ turn s n 0x20 c = true ∧ a = pkParams c.packet ∧ s.get Reg.CYCL_STAT.KEY ≠ 1 ∧ fieldAt a 0 4 + (a.drop 4).length ≤ 0x80000 ∧ s.sets (some Reg.CYCL_STAT.WIGN) (fun s => s.loadWrite (fieldAt a 0 4) (a.drop 4)) = false := by
  repeat' with_reducible apply And.intro
  all_goals first | with_reducible rfl | decide +kernel

theorem witness_CommandPackets_8a : let n : Fin 64 := 0; let c : CmdSlot := hostPk 0x21 ([6, 0, 0, 0]); let s : State := holding (named) 0x21 ([6, 0, 0, 0]); let a : Bytes := pkParams c.packet; let u : State := s.prgCmd (6 * 2 ^ 28); s.awake = true ∧ turn s n 0x21 c = true ∧ a = pkParams c.packet ∧ byteAt a 0 ≤ 15 ∧ byteAt a 1 &&& 0x7E = 0 ∧ fieldAt a 2 2 = 0 ∧ s.flag Reg.PRG_STAT.BUSY = false ∧ u = s.prgCmd (byteAt a 0 * 2 ^ 28 + byteAt a 1 / 128 * 256 + byteAt a 1 % 2) ∧ u.get Reg.PRG_STAT.OPRUN = 0 := by
  repeat' with_reducible apply And.intro
  all_goals first | with_reducible rfl | decide +kernel

theorem witness_CommandPackets_9a : let n : Fin 64 := 0; let c : CmdSlot := hostPk 0x21 ([1, 0, 0, 0]); let s : State := holding (named) 0x21 ([1, 0, 0, 0]); let a : Bytes := pkParams c.packet; let u : State := s.prgCmd (1 * 2 ^ 28); s.awake = true ∧ turn s n 0x21 c = true ∧ a = pkParams c.packet ∧ byteAt a 0 ≤ 15 ∧ byteAt a 1 &&& 0x7E = 0 ∧ fieldAt a 2 2 = 0 ∧ s.flag Reg.PRG_STAT.BUSY = false ∧ s.get Reg.PRG_STAT.OPRUN = 0 ∧ u = s.prgCmd (byteAt a 0 * 2 ^ 28 + byteAt a 1 / 128 * 256 + byteAt a 1 % 2) ∧ u.get Reg.PRG_STAT.OPRUN ≠ 0 := by
  repeat' with_reducible apply And.intro
  all_goals first | with_reducible rfl | decide +kernel

theorem witness_CommandPackets_10a : let n : Fin 64 := 0; let c : CmdSlot := hostPk 0x22 (natBe 4 0 ++ List.replicate 16 0); let s : State := holding (named) 0x22 (natBe 4 0 ++ List.replicate 16 0); let a : Bytes := pkParams c.packet; let u : State := ((((s.put Reg.FRC_D0.DATA (fieldAt a 4 4)).put Reg.FRC_D1.DATA (fieldAt a 8 4)).put Reg.FRC_D2.DATA (fieldAt a 12 4)).put Reg.FRC_D3.DATA (fieldAt a 16 4)).frcSel (byteAt a 2 / 128 * 2 ^ 31 + 2 ^ 30 + fieldAt a 0 2); s.awake = true ∧ turn s n 0x22 c = true ∧ a = pkParams c.packet ∧ fieldAt a 0 2 ≤ 1023 ∧ byteAt a 2 &&& 0x7F = 0 ∧ byteAt a 3 = 0 ∧ s.flag Reg.FRC_STAT.BUSY = false ∧ u = ((((s.put Reg.FRC_D0.DATA (fieldAt a 4 4)).put Reg.FRC_D1.DATA (fieldAt a 8 4)).put Reg.FRC_D2.DATA (fieldAt a 12 4)).put Reg.FRC_D3.DATA (fieldAt a 16 4)).frcSel (byteAt a 2 / 128 * 2 ^ 31 + 2 ^ 30 + fieldAt a 0 2) := by
  repeat' with_reducible apply And.intro
  all_goals first | with_reducible rfl | decide +kernel

theorem witness_CommandPackets_11a : let n : Fin 64 := 0; let c : CmdSlot := hostPk 0x30 (natBe 2 0x1000 ++ [7, 0] ++ natBe 2 0 ++ [0, 0]); let s : State := holding (named) 0x30 (natBe 2 0x1000 ++ [7, 0] ++ natBe 2 0 ++ [0, 0]); let a : Bytes := pkParams c.packet; let k : Nat := (s.hostRecord 0x1000 7 []).1; let u : State := (s.hostRecord 0x1000 7 []).2; s.awake = true ∧ turn s n 0x30 c = true ∧ a = pkParams c.packet ∧ byteAt a 3 = 0 ∧ fieldAt a 6 2 = 0 ∧ s.flag Reg.RECD_STAT.BUSY = false ∧ s.hostRecord (fieldAt a 0 2) (byteAt a 2) (a.drop 8) = (k, u) := by
  repeat' with_reducible apply And.intro
  all_goals first | with_reducible rfl | decide +kernel

theorem witness_CommandPackets_12a : let n : Fin 64 := 0; let e : List (Fin 3) := [1]; let c : CmdSlot := hostPk 0x31 (natBe 4 0 ++ natBe 2 1 ++ [0, 0]); let s : State := holding (named) 0x31 (natBe 4 0 ++ natBe 2 1 ++ [0, 0]); let a : Bytes := pkParams c.packet; let u : State := ((s.put Reg.RECD_RSEL.SEQ (fieldAt a 0 4)).put Reg.RECD_RAREA.MORNING (byteAt a 6 / 128)).cursorSelect (bit (byteAt a 6) 7) (fieldAt a 0 4) 1; let r : Bytes × State := State.readLines (fieldAt a 4 2) [] u; s.awake = true ∧ turn s n 0x31 c = true ∧ a = pkParams c.packet ∧ 1 ≤ fieldAt a 4 2 ∧ fieldAt a 4 2 ≤ 62 ∧ byteAt a 6 &&& 0x7F = 0 ∧ byteAt a 7 = 0 ∧ s.flag Reg.RECD_RSTAT.BUSY = false ∧ u = ((s.put Reg.RECD_RSEL.SEQ (fieldAt a 0 4)).put Reg.RECD_RAREA.MORNING (byteAt a 6 / 128)).cursorSelect (bit (byteAt a 6) 7) (fieldAt a 0 4) (e.head?.getD 0).val ∧ r = State.readLines (fieldAt a 4 2) ((e.map (·.val)).drop 1) u := by
  repeat' with_reducible apply And.intro
  all_goals first | with_reducible rfl | decide +kernel

theorem witness_CommandPackets_13a : let n : Fin 64 := 0; let c : CmdSlot := hostPk 0x32 ([1, 0, 0, 0]); let s : State := holding (named) 0x32 ([1, 0, 0, 0]); let a : Bytes := pkParams c.packet; s.awake = true ∧ turn s n 0x32 c = true ∧ a = pkParams c.packet ∧ fieldAt a 1 3 = 0 := by
  repeat' with_reducible apply And.intro
  all_goals first | with_reducible rfl | decide +kernel

theorem witness_CommandPackets_14a : let n : Fin 64 := 0; let c : CmdSlot := hostPk 0x40 ([0, 0, 0, 0]); let s : State := holding (named) 0x40 ([0, 0, 0, 0]); let a : Bytes := pkParams c.packet; let u : State := (s.startSlot 0).requestDusk false; s.awake = true ∧ turn s n 0x40 c = true ∧ a = pkParams c.packet ∧ byteAt a 0 &&& 0xFE = 0 ∧ fieldAt a 1 3 = 0 ∧ u = (s.startSlot n).requestDusk (bit (byteAt a 0) 0) ∧ 2 ≤ u.get Reg.REST_STAT.RES ∧ u.get Reg.REST_STAT.RES ≤ 6 := by
  repeat' with_reducible apply And.intro
  all_goals first | with_reducible rfl | decide +kernel

theorem witness_CommandPackets_15a : let n : Fin 64 := 0; let c : CmdSlot := hostPk 0x40 ([0, 0, 0, 0]); let s : State := holding ({ named.put Reg.INAU_POS.POS 1 with inau.force := some { aloneHeld with roster := { aloneHeld.roster with entries := [⟨3, 2, 1, 0, 100⟩, ⟨7, 1, 1, 0, 100⟩] } } }) 0x40 ([0, 0, 0, 0]); let a : Bytes := pkParams c.packet; let u : State := (s.startSlot 0).requestDusk false; s.awake = true ∧ turn s n 0x40 c = true ∧ a = pkParams c.packet ∧ byteAt a 0 &&& 0xFE = 0 ∧ fieldAt a 1 3 = 0 ∧ u = (s.startSlot n).requestDusk (bit (byteAt a 0) 0) ∧ u.get Reg.REST_STAT.RES = 1 := by
  repeat' with_reducible apply And.intro
  all_goals first | with_reducible rfl | decide +kernel

theorem witness_CommandPackets_16a : let n : Fin 64 := 0; let c : CmdSlot := hostPk 0x41 ([]); let s : State := holding (named) 0x41 ([]); s.awake = true ∧ turn s n 0x41 c = true ∧ s.flag Reg.REST_STAT.BUSY = false := by
  repeat' with_reducible apply And.intro
  all_goals first | with_reducible rfl | decide +kernel

theorem witness_CommandPackets_17a : let n : Fin 64 := 0; let c : CmdSlot := hostPk 0x41 ([]); let s : State := holding (named.put Reg.REST_STAT.BUSY 1) 0x41 ([]); s.awake = true ∧ turn s n 0x41 c = true ∧ s.flag Reg.REST_STAT.BUSY = true := by
  repeat' with_reducible apply And.intro
  all_goals first | with_reducible rfl | decide +kernel

theorem witness_CommandPackets_18a : let n : Fin 64 := 0; let c : CmdSlot := hostPk 0x42 ([]); let s : State := holding (named) 0x42 ([]); s.awake = true ∧ turn s n 0x42 c = true := by
  repeat' with_reducible apply And.intro
  all_goals first | with_reducible rfl | decide +kernel

theorem witness_CommandPackets_19a : let n : Fin 64 := 0; let c : CmdSlot := hostPk 0x43 ([]); let s : State := holding (named) 0x43 ([]); s.awake = true ∧ turn s n 0x43 c = true ∧ s.isLeader = false := by
  repeat' with_reducible apply And.intro
  all_goals first | with_reducible rfl | decide +kernel

theorem witness_CommandPackets_20a : let n : Fin 64 := 0; let c : CmdSlot := hostPk 0x43 ([]); let s : State := holding (alone) 0x43 ([]); let u : State := s.startSlot 0; s.awake = true ∧ turn s n 0x43 c = true ∧ s.isLeader = true ∧ s.inau.compact = 0 ∧ u = s.startSlot n := by
  repeat' with_reducible apply And.intro
  all_goals first | with_reducible rfl | decide +kernel

theorem witness_CommandPackets_21a : let n : Fin 64 := 0; let c : CmdSlot := hostPk 0x44 ([2, 0, 0, 0]); let s : State := holding (named) 0x44 ([2, 0, 0, 0]); let a : Bytes := pkParams c.packet; s.awake = true ∧ turn s n 0x44 c = true ∧ a = pkParams c.packet ∧ byteAt a 0 ≤ 7 ∧ fieldAt a 1 3 = 0 := by
  repeat' with_reducible apply And.intro
  all_goals first | with_reducible rfl | decide +kernel

theorem witness_CommandPackets_22a : let n : Fin 64 := 0; let c : CmdSlot := hostPk 0x60 ([1, 0, 0, 0] ++ List.replicate 16 5); let s : State := holding ({ named.put Reg.CYCL_STAT.KEY 2 with cmd.arm := some (1, named.opTime) }) 0x60 ([1, 0, 0, 0] ++ List.replicate 16 5); let k : Fin 4 := 1; let a : Bytes := pkParams c.packet; let key : Bytes := List.replicate 16 5; let v : Nat := State.kcv key; let u : State := ((((({ s.dropArm with cmd.keys := s.cmd.keys.filter (·.1 ≠ k.val) ++ [(k.val, key)] } : State).put (Reg.CMD_KEYSTAT.SET.ix k) 1).put (Reg.CMD_KEYSTAT.KCV.ix k) v).raise Reg.CMD_IRQ.KEY).record 0x0D01 (natBe 1 k.val ++ natBe 3 v)); s.awake = true ∧ turn s n 0x60 c = true ∧ s.hkp.running.contains (.key n.val) = false ∧ s.actTurn (.key n.val) = true ∧ a = pkParams c.packet ∧ k.val = byteAt a 0 ∧ fieldAt a 1 3 = 0 ∧ s.armed = some k.val ∧ s.get Reg.CYCL_STAT.KEY = 2 ∧ key = (a.drop 4).take 16 ∧ v = State.kcv key ∧ u = (((({ s.dropArm with cmd.keys := s.cmd.keys.filter (·.1 ≠ k.val) ++ [(k.val, key)] } : State).put (Reg.CMD_KEYSTAT.SET.ix k) 1).put (Reg.CMD_KEYSTAT.KCV.ix k) v).raise Reg.CMD_IRQ.KEY).record 0x0D01 (natBe 1 k.val ++ natBe 3 v) := by
  repeat' with_reducible apply And.intro
  all_goals first | with_reducible rfl | decide +kernel

theorem witness_CommandPackets_23a : let n : Fin 64 := 0; let c : CmdSlot := hostPk 0x61 ([1, 0, 0, 0]); let s : State := holding ({ named.put Reg.CYCL_STAT.KEY 2 with cmd.arm := some (1, named.opTime) }) 0x61 ([1, 0, 0, 0]); let k : Fin 4 := 1; let a : Bytes := pkParams c.packet; let u : State := ((((({ s.dropArm with cmd.keys := s.cmd.keys.filter (·.1 ≠ k.val) } : State).put (Reg.CMD_KEYSTAT.SET.ix k) 0).put (Reg.CMD_KEYSTAT.KCV.ix k) 0).raise Reg.CMD_IRQ.KEY).record 0x0D02 (natBe 1 k.val)); s.awake = true ∧ turn s n 0x61 c = true ∧ s.hkp.running.contains (.key n.val) = false ∧ s.actTurn (.key n.val) = true ∧ a = pkParams c.packet ∧ k.val = byteAt a 0 ∧ fieldAt a 1 3 = 0 ∧ s.armed = some k.val ∧ s.get Reg.CYCL_STAT.KEY = 2 ∧ u = (((({ s.dropArm with cmd.keys := s.cmd.keys.filter (·.1 ≠ k.val) } : State).put (Reg.CMD_KEYSTAT.SET.ix k) 0).put (Reg.CMD_KEYSTAT.KCV.ix k) 0).raise Reg.CMD_IRQ.KEY).record 0x0D02 (natBe 1 k.val) := by
  repeat' with_reducible apply And.intro
  all_goals first | with_reducible rfl | decide +kernel

theorem witness_CommandPackets_24a : let n : Fin 64 := 0; let c : CmdSlot := hostPk 0x61 ([1, 0, 0, 0]); let s : State := { holding named 0x61 ([1, 0, 0, 0]) with hkp.running := [.save] }; s.awake = true ∧ s.hkp.running.contains (.key n.val) = false ∧ s.actTurn (.key n.val) = false := by
  repeat' with_reducible apply And.intro
  all_goals first | with_reducible rfl | decide +kernel

theorem witness_CommandPackets_25a : let n : Fin 64 := 0; let c : CmdSlot := hostPk 0x70 (natBe 2 0 ++ [0, 0] ++ natBe 2 1 ++ natBe 2 9 ++ natBe 2 0 ++ [0, 0]); let s : State := holding (named) 0x70 (natBe 2 0 ++ [0, 0] ++ natBe 2 1 ++ natBe 2 9 ++ natBe 2 0 ++ [0, 0]); let a : Bytes := pkParams c.packet; let p : Bytes := a.drop 4; s.awake = true ∧ turn s n 0x70 c = true ∧ a = pkParams c.packet ∧ fieldAt a 0 2 = 0 ∧ fieldAt a 2 2 = 0 ∧ p = a.drop 4 := by
  repeat' with_reducible apply And.intro
  all_goals first | with_reducible rfl | decide +kernel

theorem witness_CommandPackets_26a : let n : Fin 64 := 0; let c : CmdSlot := hostPk 0x70 (natBe 2 3 ++ [0, 0] ++ natBe 2 1 ++ natBe 2 9 ++ natBe 2 0 ++ [0, 0]); let s : State := holding (named) 0x70 (natBe 2 3 ++ [0, 0] ++ natBe 2 1 ++ natBe 2 9 ++ natBe 2 0 ++ [0, 0]); let d : Nat := 3; let a : Bytes := pkParams c.packet; let p : Bytes := a.drop 4; s.awake = true ∧ turn s n 0x70 c = true ∧ a = pkParams c.packet ∧ d = fieldAt a 0 2 ∧ 1 ≤ d ∧ d ≤ 1024 ∧ fieldAt a 2 2 = 0 ∧ p = a.drop 4 ∧ s.openRsend d (pkTag p) = none := by
  repeat' with_reducible apply And.intro
  all_goals first | with_reducible rfl | decide +kernel

theorem witness_CommandPackets_27a : let n : Nat := 0; let k : Nat := 0; let i : Nat := 0; let r : Bytes := []; let x : Nat := 0; let y : Nat := 0x1000; let z : Nat := 2048; let p : Bytes := (hostPk 1 []).packet; let b : Nat := 0; let m : Bool := false; let s : State := holding named 1 []; let u : State := ({ s with cmd.slots := s.cmd.slots.filter (·.1 ≠ 0) } : State).put Reg.CMD_STAT.OPEN (s.cmd.slots.filter (·.1 ≠ 0)).length; s.slot? n = some { src := .host x y z, packet := p, at_ := b, started := m } ∧ s.inD3 = false ∧ k ≠ 1 ∧ u = ({ s with cmd.slots := s.cmd.slots.filter (·.1 ≠ n) } : State).put Reg.CMD_STAT.OPEN (s.cmd.slots.filter (·.1 ≠ n)).length := by
  repeat' with_reducible apply And.intro
  all_goals first | with_reducible rfl | decide +kernel

theorem witness_CommandPackets_28a : let n : Fin 64 := 0; let e : List (Fin 3) := [1]; let s : State := holding named 0x02 []; s.awake = true := by
  decide +kernel

theorem witness_CommandPackets_29a : let n : Fin 64 := 0; let e : List (Fin 3) := [1]; let s : State := holding named 0x02 []; s.awake = true := by
  decide +kernel

theorem witness_CommandPackets_30a : let n : Fin 64 := 0; let s : State := holding named 0x02 []; s.awake = true := by
  decide +kernel

theorem witness_CommandPackets_31a : let n : Fin 64 := 0; let op : Nat := 1; let f : CmdSlot → Bytes → State → State := fun _ _ s => s.put Reg.GLB_BRST.BLK 1; let s : State := holding named 0x02 []; s.cmdTurn n op = none := by
  decide +kernel

theorem witness_CommandPackets_32a : let n : Fin 64 := 0; let op : Nat := 2; let f : CmdSlot → Bytes → State → State := fun _ _ s => s.put Reg.GLB_BRST.BLK 1; let c : CmdSlot := { hostPk 0x02 [] with src := .remote 3 true }; let s : State := { named with glb.auth := Voted.all 0, cmd.slots := [(0, { hostPk 0x02 [] with src := .remote 3 true })] }; s.cmdTurn n op = some c ∧ c.src.isRemote = true ∧ (match opGroup op with | some g => bit s.auth (16 + g) | none => false) = false := by
  repeat' with_reducible apply And.intro
  all_goals first | with_reducible rfl | decide +kernel

theorem witness_CommandPackets_33a : let n : Fin 64 := 0; let op : Nat := 2; let f : CmdSlot → Bytes → State → State := fun _ _ s => s.put Reg.GLB_BRST.BLK 1; let c : CmdSlot := { hostPk 0x02 [] with packet := natBe 2 2 ++ natBe 2 9 ++ natBe 2 0 ++ [1, 0] }; let s : State := { brdgUp with cmd.slots := [(0, { hostPk 0x02 [] with packet := natBe 2 2 ++ natBe 2 9 ++ natBe 2 0 ++ [1, 0] })] }; s.cmdTurn n op = some c ∧ c.src.isRemote = false ∧ pkMember c.packet ≠ 0 := by
  repeat' with_reducible apply And.intro
  all_goals first | with_reducible rfl | decide +kernel

theorem witness_CommandPackets_34a : let n : Fin 64 := 0; let op : Nat := 2; let f : CmdSlot → Bytes → State → State := fun _ _ s => s.put Reg.GLB_BRST.BLK 1; let c : CmdSlot := hostPk 0x02 [1]; let s : State := holding named 0x02 [1]; s.cmdTurn n op = some c ∧ c.src.isRemote = false ∧ pkMember c.packet = 0 ∧ plenOk c.packet = false := by
  repeat' with_reducible apply And.intro
  all_goals first | with_reducible rfl | decide +kernel

theorem witness_CommandPackets_35a : let n : Fin 64 := 0; let op : Nat := 2; let f : CmdSlot → Bytes → State → State := fun _ _ s => s.put Reg.GLB_BRST.BLK 1; let c : CmdSlot := { hostPk 0x02 [] with packet := natBe 2 2 ++ natBe 2 9 ++ natBe 2 0 ++ [0, 1] }; let s : State := { named with cmd.slots := [(0, { hostPk 0x02 [] with packet := natBe 2 2 ++ natBe 2 9 ++ natBe 2 0 ++ [0, 1] })] }; s.cmdTurn n op = some c ∧ c.src.isRemote = false ∧ pkMember c.packet = 0 ∧ plenOk c.packet = true ∧ (byteAt c.packet 6 ≠ 0 ∨ byteAt c.packet 7 ≠ 0) := by
  repeat' with_reducible apply And.intro
  all_goals first | with_reducible rfl | decide +kernel

theorem witness_CommandPackets_36a : let n : Fin 64 := 0; let op : Nat := 2; let g : Nat := (opGroup 2).getD 0; let f : CmdSlot → Bytes → State → State := fun _ _ s => s.put Reg.GLB_BRST.BLK 1; let c : CmdSlot := { hostPk 0x02 [] with src := .remote 3 true }; let s : State := { named with cmd.slots := [(0, { hostPk 0x02 [] with src := .remote 3 true })], glb.auth := Voted.all (2 ^ (16 + (opGroup 2).getD 0)) }; s.cmdTurn n op = some c ∧ c.src.isRemote = true ∧ opGroup op = some g ∧ bit s.auth (16 + g) = true ∧ byteAt c.packet 6 = 0 ∧ byteAt c.packet 7 = 0 ∧ plenOk c.packet = true ∧ pkMember c.packet = 0 := by
  repeat' with_reducible apply And.intro
  all_goals first | with_reducible rfl | decide +kernel

theorem witness_CommandPackets_37a : let n : Fin 64 := 0; let k : Fin 4 := 1; let c : CmdSlot := hostPk 0x60 ([1, 0, 0, 0] ++ List.replicate 16 5); let s : State := holding named 0x60 ([1, 0, 0, 0] ++ List.replicate 16 5); let a : Bytes := pkParams c.packet; s.awake = true ∧ a = pkParams c.packet ∧ k.val = byteAt a 0 ∧ fieldAt a 1 3 = 0 ∧ s.hkp.running.contains (.key n.val) = false ∧ s.actTurn (.key n.val) = true := by
  repeat' with_reducible apply And.intro
  all_goals first | with_reducible rfl | decide +kernel

theorem witness_CommandPackets_38a : let n : Nat := 0; let k : Nat := 0; let i : Nat := 0; let p : Nat := 3; let r : Bytes := []; let c : CmdSlot := { hostPk 0x02 [] with src := .remote 3 true }; let b : Bool := true; let s : State := { named with cmd.slots := [(0, { hostPk 0x02 [] with src := .remote 3 true })] }; let u : State := ({ s with cmd.slots := s.cmd.slots.filter (·.1 ≠ 0) } : State).put Reg.CMD_STAT.OPEN (s.cmd.slots.filter (·.1 ≠ 0)).length; s.slot? n = some c ∧ k ≠ 1 ∧ c.src = .remote p b ∧ u = ({ s with cmd.slots := s.cmd.slots.filter (·.1 ≠ n) } : State).put Reg.CMD_STAT.OPEN (s.cmd.slots.filter (·.1 ≠ n)).length := by
  repeat' with_reducible apply And.intro
  all_goals first | with_reducible rfl | decide +kernel

theorem witness_CommandFlow_1a : let s : State := (named.put Reg.CMD_CTRL.EN 1).put Reg.CMD_SQTAIL.TAIL 3; let k : Nat := 0; let a : Nat := 0; let g : Nat := 0; s.active = true ∧ s.fetchGate = true ∧ (s.host.fetches.all fun o => o.parts.all fun p => p.tag.isSome) = true ∧ s.freeTags.head? = some g ∧ k = s.get Reg.CMD_SQHEAD.HEAD % s.cmdRing ∧ k ≠ s.get Reg.CMD_SQTAIL.TAIL % s.cmdRing ∧ a = s.get Reg.CMD_SQBASEHI.BASEHI * 2 ^ 32 + s.get Reg.CMD_SQBASELO.BASELO * 64 + 16 * k := by
  repeat' with_reducible apply And.intro
  all_goals first | with_reducible rfl | decide +kernel

theorem witness_CommandFlow_2a : let g : Nat := 0; let i : Nat := 0; let a : Nat := 0x1000; let l : Nat := 64; let d : Bytes := natLe 8 0x1000 ++ natLe 2 64 ++ List.replicate 6 0; let s : State := { named with host.fetches := [⟨.subEntry 0, [⟨0x1000, 16, some 0, none⟩]⟩] }; let u : State := State.issueReads { s with host.fetches := [] }; let p : FetchPart := ⟨0x1000, 16, some 0, none⟩; s.active = true ∧ s.inD3 = false ∧ (s.host.fetches.find? fun o => o.parts.any (State.partIs g)) = some ⟨.subEntry i, [p]⟩ ∧ a = leNat (d.take 8) ∧ l = leNat ((d.drop 8).take 2) ∧ a % 64 = 0 ∧ 8 ≤ l ∧ l ≤ 2048 ∧ u = State.issueReads { s with host.fetches := s.host.fetches.erase ⟨.subEntry i, [p]⟩ } ∧ s.cmd.shut = false := by
  repeat' with_reducible apply And.intro
  all_goals first | with_reducible rfl | decide +kernel

theorem witness_CommandFlow_3a : let g : Nat := 0; let i : Nat := 0; let a : Nat := 0x1000; let l : Nat := 64; let d : Bytes := List.replicate 64 0; let s : State := { named with host.fetches := [⟨.packet 0 0x1000 64, [⟨0x1000, 64, some 0, none⟩]⟩] }; let u : State := State.issueReads { s with host.fetches := [] }; let p : FetchPart := ⟨0x1000, 64, some 0, none⟩; s.active = true ∧ s.inD3 = false ∧ (s.host.fetches.find? fun o => o.parts.any (State.partIs g)) = some ⟨.packet i a l, [p]⟩ ∧ u = State.issueReads { s with host.fetches := s.host.fetches.erase ⟨.packet i a l, [p]⟩ } ∧ s.cmd.shut = false := by
  repeat' with_reducible apply And.intro
  all_goals first | with_reducible rfl | decide +kernel

theorem witness_CommandFlow_4a : let n : Fin 64 := 0; let c : CmdSlot := { hostPk 0x40 [0, 0, 0, 0] with started := true }; let s : State := { named with cmd.slots := [(0, { hostPk 0x40 [0, 0, 0, 0] with started := true })] }; s.awake = true ∧ s.slot? n = some c ∧ (c.waits = true ∨ isWaiting (pkOp c.packet) = true) ∧ c.member = 0 ∧ c.rto = none ∧ s.brdg.locked = false := by
  repeat' with_reducible apply And.intro
  all_goals first | with_reducible rfl | decide +kernel

theorem witness_CommandFlow_5a : let n : Fin 64 := 0; let c : CmdSlot := { hostPk 0x70 (List.replicate 12 0) with started := true, rto := some 9 }; let k : Nat := 9; let s : State := { named with cmd.slots := [(0, { hostPk 0x70 (List.replicate 12 0) with started := true, rto := some 9 })] }; s.awake = true ∧ s.slot? n = some c ∧ c.rto = some k ∧ s.brdg.locked = false := by
  repeat' with_reducible apply And.intro
  all_goals first | with_reducible rfl | decide +kernel

theorem witness_CommandFlow_6a : let s : State := named; let c : Nat × Nat × Nat × Nat × Nat := s.poolCounts; s.awake = true ∧ c = s.poolCounts := by
  repeat' with_reducible apply And.intro
  all_goals first | with_reducible rfl | decide +kernel

theorem witness_CommandFlow_7a : let v : Word := 5; let q : Nat := 5; let b : Bytes := []; let s : State := named; s.active = true ∧ q = v.toNat % 65536 ∧ b = (s.farEntry q).getD [] := by
  repeat' with_reducible apply And.intro
  all_goals first | with_reducible rfl | decide +kernel

theorem witness_CommandFlow_8a : let s : State := named; s.active = true := by
  decide +kernel

theorem witness_CommandFlow_9a : let b : Nat := 4; let v : Word := 16; let s : State := named; s.awake = true ∧ 1 ≤ b ∧ b ≤ 14 ∧ b ≠ 13 ∧ v.toNat = 2 ^ b := by
  repeat' with_reducible apply And.intro
  all_goals first | with_reducible rfl | decide +kernel

theorem witness_CommandFlow_10a : let v : Word := 8192; let s : State := named; s.awake = true ∧ v.toNat = 2 ^ 13 := by
  repeat' with_reducible apply And.intro
  all_goals first | with_reducible rfl | decide +kernel

theorem witness_CommandFlow_11a : let s : State := named; s.active = true ∧ (s.fetchGate = false ∨ s.get Reg.CMD_SQHEAD.HEAD % s.cmdRing = s.get Reg.CMD_SQTAIL.TAIL % s.cmdRing) := by
  repeat' with_reducible apply And.intro
  all_goals first | with_reducible rfl | decide +kernel

theorem witness_CommandFlow_12a : let g : Nat := 0; let i : Nat := 0; let d : Bytes := natLe 8 0x1000 ++ natLe 2 4 ++ List.replicate 6 0; let s : State := { named with host.fetches := [⟨.subEntry 0, [⟨0x1000, 16, some 0, none⟩]⟩] }; let u : State := State.issueReads { s with host.fetches := [] }; let p : FetchPart := ⟨0x1000, 16, some 0, none⟩; s.active = true ∧ s.inD3 = false ∧ (s.host.fetches.find? fun o => o.parts.any (State.partIs g)) = some ⟨.subEntry i, [p]⟩ ∧ (leNat (d.take 8) % 64 ≠ 0 ∨ leNat ((d.drop 8).take 2) < 8 ∨ 2048 < leNat ((d.drop 8).take 2)) ∧ u = State.issueReads { s with host.fetches := s.host.fetches.erase ⟨.subEntry i, [p]⟩ } ∧ s.cmd.shut = false := by
  repeat' with_reducible apply And.intro
  all_goals first | with_reducible rfl | decide +kernel

theorem witness_CommandFlow_13a : let g : Nat := 0; let d : Bytes := []; let s : State := named; s.active = true ∧ (s.inD3 = true ∨ (s.host.fetches.find? fun o => o.parts.any (State.partIs g)) = none) := by
  repeat' with_reducible apply And.intro
  all_goals first | with_reducible rfl | decide +kernel

theorem witness_CommandFlow_14a : let g : Nat := 0; let d : Bytes := []; let s : State := { named with host.fetches := [⟨.subEntry 0, [⟨0x1000, 16, some 0, none⟩]⟩] }; s.active = true ∧ s.inD3 = false := by
  repeat' with_reducible apply And.intro
  all_goals first | with_reducible rfl | decide +kernel

theorem witness_CommandFlow_15a : let g : Nat := 0; let i : Nat := 0; let d : Bytes := []; let s : State := { named with host.fetches := [⟨.subEntry 0, [⟨0x1000, 16, some 0, none⟩]⟩], cmd.shut := true }; let u : State := State.issueReads { s with host.fetches := [] }; let p : FetchPart := ⟨0x1000, 16, some 0, none⟩; s.active = true ∧ s.inD3 = false ∧ (s.host.fetches.find? fun o => o.parts.any (State.partIs g)) = some ⟨.subEntry i, [p]⟩ ∧ u = State.issueReads { s with host.fetches := s.host.fetches.erase ⟨.subEntry i, [p]⟩ } ∧ s.cmd.shut = true := by
  repeat' with_reducible apply And.intro
  all_goals first | with_reducible rfl | decide +kernel

theorem witness_CommandFlow_16a : let k : Fetch := .subEntry 0; let r : List (Nat × Nat) := [(0, 16)]; let s : State := { named with host.fetches := (List.range 32).map fun t => ⟨.subEntry 0, [⟨0x1000, 16, some t, none⟩]⟩ }; s.freeTags = [] := by
  decide +kernel

theorem witness_CommandFlow_17a : let i : Nat := 0; let a : Nat := 0x1000; let l : Nat := 64; let n : Nat := 0; let d : Bytes := natBe 2 2 ++ natBe 2 9 ++ natBe 2 0 ++ [0, 0]; let p : Bytes := d; let s : State := named; let u : State := s.advanceSq; p = d.take (8 + pkPlen d) ∧ u = s.advanceSq ∧ 8 + pkPlen p ≤ l ∧ pkPlen p ≤ 1008 ∧ resultMax p ≤ l ∧ u.freeSlot = some n := by
  repeat' with_reducible apply And.intro
  all_goals first | with_reducible rfl | decide +kernel

theorem witness_CommandFlow_18a : let i : Nat := 0; let a : Nat := 0x1000; let l : Nat := 8; let d : Bytes := natBe 2 2 ++ natBe 2 9 ++ natBe 2 4 ++ [0, 0, 1, 2, 3, 4]; let p : Bytes := d; let s : State := named; let u : State := s.advanceSq; p = d.take (8 + pkPlen d) ∧ u = s.advanceSq ∧ (l < 8 + pkPlen p ∨ 1008 < pkPlen p ∨ l < resultMax p) := by
  repeat' with_reducible apply And.intro
  all_goals first | with_reducible rfl | decide +kernel

theorem witness_CommandFlow_19a : let n : Fin 64 := 0; let s : State := named; s.awake = true ∧ (s.slot? n = none ∨ s.brdg.locked = true) := by
  repeat' with_reducible apply And.intro
  all_goals first | with_reducible rfl | decide +kernel

theorem witness_CommandFlow_20a : let n : Fin 64 := 0; let c : CmdSlot := hostPk 0x10 [0, 0, 0, 0]; let s : State := { named with cmd.slots := [(0, hostPk 0x10 [0, 0, 0, 0])] }; s.awake = true ∧ s.slot? n = some c := by
  repeat' with_reducible apply And.intro
  all_goals first | with_reducible rfl | decide +kernel

theorem witness_CommandFlow_21a : let v : Word := 0x18; let s : State := named; s.awake = true := by
  decide +kernel

theorem witness_CommandFlow_22a : let g : Nat := 0; let d : Bytes := [7]; let o : FetchOp := ⟨.packet 0 0x1000 1024, [⟨0x1000, 512, some 0, none⟩, ⟨0x1200, 512, some 1, none⟩]⟩; let n : FetchOp := ⟨.packet 0 0x1000 1024, [⟨0x1000, 512, some 0, some [7]⟩, ⟨0x1200, 512, some 1, none⟩]⟩; let s : State := { named with host.fetches := [⟨.packet 0 0x1000 1024, [⟨0x1000, 512, some 0, none⟩, ⟨0x1200, 512, some 1, none⟩]⟩] }; s.active = true ∧ s.inD3 = false ∧ (s.host.fetches.find? fun x => x.parts.any (State.partIs g)) = some o ∧ n = { o with parts := o.parts.map fun p => if State.partIs g p then { p with data := some d } else p } ∧ (n.parts.all fun p => p.data.isSome) = false := by
  repeat' with_reducible apply And.intro
  all_goals first | with_reducible rfl | decide +kernel

theorem witness_RecorderWrites_1a : let e : EventRec := { code := 0x0B01, cyc := 0, tsec := 0, tns := 0, gen := 0, pos := 0, tsv := false, stack := 0, ot := 0, params := [] }; let l : List EventRec := []; let s : State := { named with events := [e], recd.stage := [] }; let r : StRec := ⟨e.code, e.body, e.ot, s.get Reg.RECD_PCC.VALUE % 2 ^ 24⟩; let u : State := { s with events := l }; s.recRuns = true ∧ s.events = e :: l ∧ s.stackId = 0 ∧ r = ⟨e.code, e.body, e.ot, s.get Reg.RECD_PCC.VALUE % 2 ^ 24⟩ ∧ u = { s with events := l } ∧ u.clsUnlimited (devClass e.code) = true ∧ u.stageFits r = true := by
  repeat' with_reducible apply And.intro
  all_goals first | with_reducible rfl | decide +kernel

theorem witness_RecorderWrites_2a : let e : EventRec := { code := 0x0101, cyc := 0, tsec := 0, tns := 0, gen := 0, pos := 0, tsv := false, stack := 0, ot := 0, params := [] }; let l : List EventRec := []; let c : Nat := 16; let s : State := { named with events := [e], recd.classes := [(16, { tok := 0, at_ := named.opTime })] }; let u : State := { s with events := l }; s.recRuns = true ∧ s.events = e :: l ∧ s.stackId = 0 ∧ c = devClass e.code ∧ u = { s with events := l } ∧ u.clsUnlimited c = false ∧ (u.cls c).tok < 256 := by
  repeat' with_reducible apply And.intro
  all_goals first | with_reducible rfl | decide +kernel

theorem witness_RecorderWrites_3a : let c : Fin 256 := 16; let m : Missed := ⟨1, 0x0101, 0x0101, 0, 0⟩; let s : State := { named with recd.supp := [(16, ⟨1, 0x0101, 0x0101, 0, 0⟩)] }; let u : State := s.reachOp ((m.ot1 + 2560) % 2 ^ 40); let w : State := { u with recd.supp := tabErase 16 u.recd.supp }; s.recRuns = true ∧ tabGet c.val s.recd.supp = some m ∧ u = s.reachOp ((m.ot1 + 2560) % 2 ^ 40) ∧ w = { u with recd.supp := tabErase c.val u.recd.supp } := by
  repeat' with_reducible apply And.intro
  all_goals first | with_reducible rfl | decide +kernel

theorem witness_RecorderWrites_4a : let m : Missed := ⟨1, 0x0101, 0x0101, 0, 0⟩; let s : State := { named with recd.lost := some m, recd.scan := false, recd.stage := [] }; let u : State := { s with recd.lost := none }; s.recRuns = true ∧ s.recd.lost = some m ∧ s.stageFill < 2048 ∧ s.recd.scan = false ∧ u = { s with recd.lost := none } := by
  repeat' with_reducible apply And.intro
  all_goals first | with_reducible rfl | decide +kernel

theorem witness_RecorderWrites_5a : let r : StRec := ⟨0x0101, [], 0, 0⟩; let s : State := { named with recd.stage := [] }; s.stageFits r = true := by
  decide +kernel

theorem witness_RecorderWrites_6a : let r : StRec := ⟨0x0101, [], 0, 0⟩; let l : List StRec := []; let a : Nat := 0; let p : Nat := 0; let b : RBlk := ⟨0, 1, 0, 1, []⟩; let s : State := { named with recd.stage := [r], recd.scan := false, recd.again := [], recd.job := .idle, recd.cur := some (0, 0), recd.blocks := [(0, b)] }; let n : Nat := s.nextRecSeq; s.recRuns = true ∧ s.recd.scan = false ∧ s.recFailed = false ∧ s.recd.job = .idle ∧ s.recd.again = [] ∧ s.recd.stage = r :: l ∧ s.recd.cur = some (a, p) ∧ s.rblk p = some b ∧ b.lines.length + r.lines ≤ 255 ∧ n = s.nextRecSeq := by
  repeat' with_reducible apply And.intro
  all_goals first | with_reducible rfl | decide +kernel

theorem witness_RecorderWrites_7a : let r : StRec := ⟨0x0101, [1], 0, 0⟩; let x : Bytes := [1]; let y : Bytes := [2]; let l : List Bytes := []; let q : Nat := 5; let a : Nat := 0; let p : Nat := 0; let b : RBlk := ⟨0, 1, 0, 1, []⟩; let s : State := { named with recd.job := .write r 5 [[1], [2]], recd.cur := some (0, 0), recd.blocks := [(0, b)] }; s.recRuns = true ∧ s.recd.job = .write r q (x :: y :: l) ∧ s.recd.cur = some (a, p) ∧ s.rblk p = some b := by
  repeat' with_reducible apply And.intro
  all_goals first | with_reducible rfl | decide +kernel

theorem witness_RecorderWrites_8a : let r : StRec := ⟨0x0101, [], 0, 0⟩; let x : Bytes := [1]; let q : Nat := 5; let a : Nat := 0; let p : Nat := 0; let b : RBlk := ⟨0, 1, 0, 1, []⟩; let s : State := { named with recd.job := .write r 5 [[1]], recd.cur := some (0, 0), recd.blocks := [(0, b)] }; let u : State := { s.reach s.recd.lineAt with recd.blocks := tabPut p { b with lines := b.lines ++ [x] } s.recd.blocks }; s.recRuns = true ∧ s.recd.job = .write r q [x] ∧ s.recd.cur = some (a, p) ∧ s.rblk p = some b ∧ u = { s.reach s.recd.lineAt with recd.blocks := tabPut p { b with lines := b.lines ++ [x] } s.recd.blocks } := by
  repeat' with_reducible apply And.intro
  all_goals first | with_reducible rfl | decide +kernel

theorem witness_RecorderWrites_9a : let s : State := { named with recd.scan := true, recd.job := .idle }; s.recRuns = true ∧ s.recd.scan = true ∧ s.recd.job = .idle ∧ s.recFailed = false := by
  repeat' with_reducible apply And.intro
  all_goals first | with_reducible rfl | decide +kernel

theorem witness_RecorderWrites_10a : let v : Word := 0; let s : State := named.put Reg.RECD_STAT.BUSY 1; s.awake = true ∧ s.flag Reg.RECD_STAT.BUSY = true := by
  repeat' with_reducible apply And.intro
  all_goals first | with_reducible rfl | decide +kernel

theorem witness_RecorderWrites_11a : let v : Word := 0x80000000; let s : State := named; s.awake = true ∧ s.flag Reg.RECD_STAT.BUSY = false ∧ bit v.toNat 31 = true ∧ s.get Reg.RECD_HWCODE.CODE < 0x1000 := by
  repeat' with_reducible apply And.intro
  all_goals first | with_reducible rfl | decide +kernel

theorem witness_RecorderWrites_12a : let e : EventRec := { code := 0x0101, cyc := 0, tsec := 0, tns := 0, gen := 0, pos := 0, tsv := false, stack := 0, ot := 0, params := [] }; let l : List EventRec := []; let s : State := { named with events := [e], recd.stage := [], recd.supp := [] }; let r : StRec := ⟨e.code, e.body, e.ot, s.get Reg.RECD_PCC.VALUE % 2 ^ 24⟩; let c : Nat := 16; let u : State := { s with events := l }; s.recRuns = true ∧ s.events = e :: l ∧ s.stackId = 0 ∧ r = ⟨e.code, e.body, e.ot, s.get Reg.RECD_PCC.VALUE % 2 ^ 24⟩ ∧ u = { s with events := l } ∧ c = devClass e.code ∧ u.clsUnlimited c = false ∧ 256 ≤ (u.cls c).tok ∧ u.recd.supp = [] ∧ u.stageFits r = true := by
  repeat' with_reducible apply And.intro
  all_goals first | with_reducible rfl | decide +kernel

theorem witness_RecorderWrites_13a : let e : EventRec := { code := 0x0101, cyc := 0, tsec := 0, tns := 0, gen := 0, pos := 0, tsv := false, stack := 0, ot := 0, params := [] }; let l : List EventRec := []; let s : State := { member with events := [e] }; let r : StRec := ⟨e.code, e.body, e.ot, s.get Reg.RECD_PCC.VALUE % 2 ^ 24⟩; let u : State := { s with events := l }; s.recRuns = true ∧ s.events = e :: l ∧ s.stackId ≠ 0 ∧ r = ⟨e.code, e.body, e.ot, s.get Reg.RECD_PCC.VALUE % 2 ^ 24⟩ ∧ u = { s with events := l } := by
  repeat' with_reducible apply And.intro
  all_goals first | with_reducible rfl | decide +kernel

theorem witness_RecorderWrites_14a : let r : StRec := ⟨0x0101, List.replicate 65536 0, 0, 0⟩; let s : State := { named with recd.stage := [] }; s.stageFits r = false := by
  decide +kernel

theorem witness_RecorderWrites_15a : let r : StRec := ⟨0x0101, [1], 0, 0⟩; let l : List StRec := []; let a : Nat := 0; let p : Nat := 0; let b : RBlk := ⟨0, 1, 0, 1, List.replicate 254 []⟩; let s : State := { named with recd.stage := [⟨0x0101, [1], 0, 0⟩], recd.scan := false, recd.again := [], recd.job := .idle, recd.cur := some (0, 0), recd.blocks := [(0, b)] }; s.recRuns = true ∧ s.recd.scan = false ∧ s.recFailed = false ∧ s.recd.job = .idle ∧ s.recd.again = [] ∧ s.recd.stage = r :: l ∧ s.recd.cur = some (a, p) ∧ s.rblk p = some b ∧ 255 < b.lines.length + r.lines ∧ b.lines.length < 255 := by
  repeat' with_reducible apply And.intro
  all_goals first | with_reducible rfl | decide +kernel

theorem witness_RecorderWrites_16a : let r : StRec := ⟨0x0101, [], 0, 0⟩; let x : Bytes := [1]; let l : List Bytes := []; let q : Nat := 5; let a : Nat := 0; let p : Nat := 0; let b : RBlk := ⟨0, 1, 0, 1, []⟩; let s : State := { named with recd.job := .write r 5 [[1]], recd.cur := some (0, 0), recd.blocks := [(0, b)] }; let u : State := s.reach s.recd.lineAt; s.recRuns = true ∧ s.recd.job = .write r q (x :: l) ∧ s.recd.cur = some (a, p) ∧ s.rblk p = some b ∧ u = s.reach s.recd.lineAt := by
  repeat' with_reducible apply And.intro
  all_goals first | with_reducible rfl | decide +kernel

theorem witness_RecorderWrites_18a : let b : Bool := true; let c : Fin 256 := 3; let s : State := named; s.recRuns = true := by
  decide +kernel

theorem witness_RecorderWrites_19a : let b : Bool := true; let s : State := named; s.recRuns = true := by
  decide +kernel

theorem witness_RecorderWrites_20a : let m : Missed := ⟨1, 0x0101, 0x0101, 0, 0⟩; let s : State := { named with recd.lost := some m, recd.scan := true }; s.recRuns = true ∧ s.recd.lost = some m ∧ (2048 ≤ s.stageFill ∨ s.recd.scan = true) := by
  repeat' with_reducible apply And.intro
  all_goals first | with_reducible rfl | decide +kernel

theorem witness_RecorderWrites_21a : let v : Word := 0x80000000; let s : State := named; s.awake = true ∧ s.flag Reg.RECD_STAT.BUSY = false := by
  repeat' with_reducible apply And.intro
  all_goals first | with_reducible rfl | decide +kernel

theorem witness_RecorderWrites_22a : let k : Nat := 0x1000; let c : Nat := 0; let b : Bytes := [1]; let s : State := { named with recd.stage := [] }; let r : StRec := ⟨k, b, s.opTime, s.get Reg.RECD_PCC.VALUE % 2 ^ 24⟩; r = ⟨k, b, s.opTime, s.get Reg.RECD_PCC.VALUE % 2 ^ 24⟩ ∧ 0x1000 ≤ k ∧ b.length ≤ 496 ∧ s.clsUnlimited c = true ∧ s.stageFits r = true ∧ s.recFailed = false := by
  repeat' with_reducible apply And.intro
  all_goals first | with_reducible rfl | decide +kernel

theorem witness_RecorderReads_1a : let v : Word := 3; let n : Nat := 3; let s : State := named; s.awake = true ∧ n = min 10 (v.toNat % 16) ∧ n ≠ 0 ∧ s.recd.freeze = none := by
  repeat' with_reducible apply And.intro
  all_goals first | with_reducible rfl | decide +kernel

theorem witness_RecorderReads_2a : let n : Nat := 700; let s : State := { named with recd.freeze := some 700 }; let u : State := s.reachOp 700; s.recRuns = true ∧ s.recd.freeze = some n ∧ u = s.reachOp n := by
  repeat' with_reducible apply And.intro
  all_goals first | with_reducible rfl | decide +kernel

theorem witness_RecorderReads_3a : let v : Word := 9; let e : Fin 3 := 0; let s : State := { named with recd.blocks := [] }; s.awake = true ∧ s.flag Reg.RECD_RSTAT.BUSY = false ∧ (s.put Reg.RECD_RSEL.SEQ v.toNat).findRec (s.flag Reg.RECD_RAREA.MORNING) v.toNat = none := by
  repeat' with_reducible apply And.intro
  all_goals first | with_reducible rfl | decide +kernel

theorem witness_RecorderReads_4a : let v : Word := 5; let l : Bytes := syncLen syncDone 0 ++ natBe 2 0x101 ++ natBe 4 5 ++ List.replicate 8 0; let x : Nat × RBlk × Nat × Bytes := (64, ⟨64, 1, 5, 1, [syncLen syncDone 0 ++ natBe 2 0x101 ++ natBe 4 5 ++ List.replicate 8 0]⟩, 0, syncLen syncDone 0 ++ natBe 2 0x101 ++ natBe 4 5 ++ List.replicate 8 0); let s : State := { named with recd.blocks := [(64, ⟨64, 1, 5, 1, [syncLen syncDone 0 ++ natBe 2 0x101 ++ natBe 4 5 ++ List.replicate 8 0]⟩)] }; let u : State := s.put Reg.RECD_RSEL.SEQ 5; s.awake = true ∧ s.flag Reg.RECD_RSTAT.BUSY = false ∧ u = s.put Reg.RECD_RSEL.SEQ v.toNat ∧ u.findRec (s.flag Reg.RECD_RAREA.MORNING) v.toNat = some x ∧ u.rblk x.1 = some x.2.1 ∧ (x.2.1.lines.drop x.2.2.1).head? = some l := by
  repeat' with_reducible apply And.intro
  all_goals first | with_reducible rfl | decide +kernel

theorem witness_RecorderReads_5a : let l : Bytes := [1, 2]; let b : RBlk := ⟨64, 1, 5, 1, [syncLen syncDone 2 ++ natBe 2 0x101 ++ natBe 4 5 ++ List.replicate 8 0, [1, 2]]⟩; let x : Nat × RBlk × Nat × Bytes := (64, b, 0, syncLen syncDone 2 ++ natBe 2 0x101 ++ natBe 4 5 ++ List.replicate 8 0); let c : CurS := ⟨false, 5, 64, 1, 0, 0⟩; let s : State := { named with recd.cursor := some c, recd.blocks := [(64, b)] }; s.awake = true ∧ s.recd.cursor = some c ∧ s.rblk c.phys = some b ∧ b.bseq = c.bseq ∧ b.bstate ≠ 15 ∧ s.findRec c.morning c.seq = some x ∧ c.line + 1 < lineCount x.2.2.2 ∧ (b.lines.drop (c.start + (c.line + 1))).head? = some l ∧ c.line < 100 := by
  repeat' with_reducible apply And.intro
  all_goals first | with_reducible rfl | decide +kernel

theorem witness_RecorderReads_6a : let v : Word := 0x80000010; let c : Nat := 16; let s : State := named; let k : RateCls := s.cls 16; let d : Nat := 32; s.awake = true ∧ s.flag Reg.RECD_STAT.BUSY = false ∧ c = Reg.RECD_CSEL.CLASS.of v.toNat ∧ Reg.RECD_CSEL.WR.of v.toNat = 1 ∧ s.clsUnlimited c = false ∧ k = s.cls c ∧ d = max 1 (s.get Reg.RECD_CDATA.DEPTH) := by
  repeat' with_reducible apply And.intro
  all_goals first | with_reducible rfl | decide +kernel

theorem witness_RecorderReads_7a : let v : Word := 0x10; let c : Nat := 16; let s : State := named; let k : RateCls := s.cls 16; s.awake = true ∧ s.flag Reg.RECD_STAT.BUSY = false ∧ c = Reg.RECD_CSEL.CLASS.of v.toNat ∧ Reg.RECD_CSEL.WR.of v.toNat = 0 ∧ k = s.cls c := by
  repeat' with_reducible apply And.intro
  all_goals first | with_reducible rfl | decide +kernel

theorem witness_RecorderReads_8a : let e : Int := 50; let s : State := named; s.awake = true := by
  decide +kernel

theorem witness_RecorderReads_9a : let s : State := { named with recd.ckA := none }; let u : State := s.reachOp ((s.recd.ckAt + 4096) % 2 ^ 40); s.recRuns = true ∧ u = s.reachOp ((s.recd.ckAt + 4096) % 2 ^ 40) ∧ u.hkp.running = [] ∧ u.recd.ckA = none := by
  repeat' with_reducible apply And.intro
  all_goals first | with_reducible rfl | decide +kernel

theorem witness_RecorderReads_10a : let s : State := { ((named.put Reg.RECD_CTRL.MIREN 1).put Reg.RECD_MIRSIZE.SIZE 16) with recd.mirQ := [5] }; s.active = true ∧ s.mirrorOn = true ∧ s.flag Reg.RECD_STAT.MIRFAIL = false ∧ s.recd.mirQ ≠ [] := by
  repeat' with_reducible apply And.intro
  all_goals first | with_reducible rfl | decide +kernel

theorem witness_RecorderReads_11a : let s : State := { ((named.put Reg.RECD_CTRL.MIREN 1).put Reg.RECD_MIRSIZE.SIZE 16) with recd.mirQ := [5], recd.blocks := [(64, ⟨64, 1, 5, 1, [syncLen syncDone 0 ++ natBe 2 0x101 ++ natBe 4 5 ++ List.replicate 8 0]⟩)] }; let q : Nat := 5; let l : List Nat := []; let u : State := s.mirrorSkip; s.active = true ∧ s.mirrorOn = true ∧ s.flag Reg.RECD_STAT.MIRFAIL = false ∧ s.recd.mirQ ≠ [] ∧ u = s.mirrorSkip ∧ u.recd.mirQ = q :: l := by
  repeat' with_reducible apply And.intro
  all_goals first | with_reducible rfl | decide +kernel

theorem witness_RecorderReads_12a : let s : State := ((named.put Reg.RECD_CTRL.MIREN 1).put Reg.RECD_MIRSIZE.SIZE 16).put Reg.RECD_STAT.MIRFAIL 1; let u : State := s.reachOp (s.recd.mirRetry % 2 ^ 40); s.active = true ∧ s.mirrorOn = true ∧ s.flag Reg.RECD_STAT.MIRFAIL = true ∧ u = s.reachOp (s.recd.mirRetry % 2 ^ 40) := by
  repeat' with_reducible apply And.intro
  all_goals first | with_reducible rfl | decide +kernel

theorem witness_RecorderReads_13a : let s : State := named; s.awake = true := by
  decide +kernel

theorem witness_RecorderReads_14a : let b : Bool := true; let s : State := named; s.active = true := by
  decide +kernel

theorem witness_RecorderReads_15a : let r : StRec := ⟨0x0101, [1], 0, 0⟩; let l : List StRec := []; let s : State := { ((named.put Reg.RECD_CTRL.MIREN 1).put Reg.RECD_MIRSIZE.SIZE 16).put Reg.RECD_STAT.STATE 3 with recd.mirQ := [], recd.stage := [⟨0x0101, [1], 0, 0⟩], recd.mirStage := 0 }; let u : State := s.mirrorSkip; s.active = true ∧ s.mirrorOn = true ∧ s.flag Reg.RECD_STAT.MIRFAIL = false ∧ s.recd.mirQ = [] ∧ s.mirrorStaged = r :: l ∧ u = s.mirrorSkip := by
  repeat' with_reducible apply And.intro
  all_goals first | with_reducible rfl | decide +kernel

theorem witness_RecorderReads_16a : let s : State := ((named.put Reg.RECD_CTRL.MIREN 1).put Reg.RECD_MIRSIZE.SIZE 16); s.active = true ∧ s.recd.mirQ = [] ∧ s.mirrorStaged = [] := by
  repeat' with_reducible apply And.intro
  all_goals first | with_reducible rfl | decide +kernel

theorem witness_RecorderReads_17a : let v : Word := 3; let s : State := named; s.awake = true := by
  decide +kernel

theorem witness_RecorderReads_18a : let v : Word := 0; let n : Nat := 700; let s : State := { named with recd.freeze := some 700 }; s.awake = true ∧ v.toNat % 16 = 0 ∧ s.recd.freeze = some n := by
  repeat' with_reducible apply And.intro
  all_goals first | with_reducible rfl | decide +kernel

theorem witness_RecorderReads_19a : let v : Word := 3; let e : Fin 3 := 0; let s : State := named; s.awake = true ∧ s.flag Reg.RECD_RSTAT.BUSY = false := by
  repeat' with_reducible apply And.intro
  all_goals first | with_reducible rfl | decide +kernel

theorem witness_RecorderReads_20a : let v : Word := 3; let e : Fin 3 := 0; let s : State := named.put Reg.RECD_RSTAT.BUSY 1; s.awake = true ∧ s.flag Reg.RECD_RSTAT.BUSY = true := by
  repeat' with_reducible apply And.intro
  all_goals first | with_reducible rfl | decide +kernel

theorem witness_RecorderReads_21a : let e : Fin 3 := 0; let s : State := named; s.awake = true := by
  decide +kernel

theorem witness_RecorderReads_22a : let v : Word := 3; let s : State := named; s.awake = true := by
  decide +kernel

theorem witness_RecorderReads_23a : let s : State := named; s.recRuns = true := by
  decide +kernel

theorem witness_RecorderReads_24a : let b : RBlk := ⟨64, 1, 5, 1, [syncLen syncDone 0 ++ natBe 2 0x101 ++ natBe 4 5 ++ List.replicate 8 0, syncLen syncDone 0 ++ natBe 2 0x101 ++ natBe 4 6 ++ List.replicate 8 0]⟩; let x : Nat × RBlk × Nat × Bytes := (64, b, 0, syncLen syncDone 0 ++ natBe 2 0x101 ++ natBe 4 5 ++ List.replicate 8 0); let y : Nat × RBlk × Nat × Bytes := (64, b, 1, syncLen syncDone 0 ++ natBe 2 0x101 ++ natBe 4 6 ++ List.replicate 8 0); let c : CurS := ⟨false, 5, 64, 1, 0, 0⟩; let s : State := { named with recd.cursor := some c, recd.blocks := [(64, b)] }; let u : State := s.emit (.rdata 0xB0054 (s.get Reg.RECD_RD3.DATA)); s.awake = true ∧ s.recd.cursor = some c ∧ s.rblk c.phys = some b ∧ b.bseq = c.bseq ∧ b.bstate ≠ 15 ∧ s.findRec c.morning c.seq = some x ∧ lineCount x.2.2.2 ≤ c.line + 1 ∧ s.recAfter c.morning c.seq = some y ∧ u = s.emit (.rdata 0xB0054 (s.get Reg.RECD_RD3.DATA)) := by
  repeat' with_reducible apply And.intro
  all_goals first | with_reducible rfl | decide +kernel

theorem witness_HostAccess_1a : let tag : Nat := 3; let bar : Fin 2 := 0; let addr : Fin 16777216 := 0; let dws : Nat := 1; let fbe : Fin 16 := 15; let lbe : Fin 16 := 0; let ecc : Bool := false; let s : State := named.put Reg.BRDG_PCIE.DSTATE 3; s.active = true ∧ s.stackId = 0 ∧ s.inD3 = true := by
  repeat' with_reducible apply And.intro
  all_goals first | with_reducible rfl | decide +kernel

theorem witness_HostAccess_2a : let tag : Nat := 3; let addr : Fin 16777216 := 0xF8000; let dws : Nat := 2; let fbe : Fin 16 := 15; let lbe : Fin 16 := 15; let s : State := named; s.active = true ∧ s.stackId = 0 ∧ s.inD3 = false ∧ s.hostDim = false ∧ s.noEntry false false = false ∧ addr.val < 0x800000 ∧ winKind (addr.val / 4 * 4) = none := by
  repeat' with_reducible apply And.intro
  all_goals first | with_reducible rfl | decide +kernel

theorem witness_HostAccess_3a : let tag : Nat := 3; let addr : Fin 16777216 := 0x20000; let lbe : Fin 16 := 0; let s : State := named; let r : Nat × State := (s.bump Reg.BRDG_NPREQ.COUNT).regRead 0x20000 0; s.active = true ∧ s.stackId = 0 ∧ s.inD3 = false ∧ s.hostDim = false ∧ s.noEntry false false = false ∧ addr.val / 4 * 4 < 0xF0000 ∧ addr.val / 4 * 4 ≠ 0xC0028 ∧ r = (s.bump Reg.BRDG_NPREQ.COUNT).regRead (addr.val / 4 * 4) 0 := by
  repeat' with_reducible apply And.intro
  all_goals first | with_reducible rfl | decide +kernel

theorem witness_HostAccess_4a : let tag : Nat := 3; let m : Nat := 1; let addr : Fin 16777216 := 0xB00000; let dws : Nat := 2; let fbe : Fin 16 := 15; let lbe : Fin 16 := 15; let s : State := named; let u : State := s.bump Reg.BRDG_NPREQ.COUNT; s.active = true ∧ s.stackId = 0 ∧ s.inD3 = false ∧ s.hostDim = false ∧ s.noEntry false true = false ∧ 0x800000 ≤ addr.val ∧ m = (addr.val / 4 * 4 - 0x800000) / 0x200000 ∧ m ≠ 0 ∧ winKind ((addr.val / 4 * 4 - 0x800000) % 0x200000) ≠ some 0 ∧ winKind ((addr.val / 4 * 4 - 0x800000) % 0x200000) ≠ none ∧ u = s.bump Reg.BRDG_NPREQ.COUNT ∧ u.reachable m = false ∧ s.flag Reg.BRDG_CTRL.ERRMODE = false := by
  repeat' with_reducible apply And.intro
  all_goals first | with_reducible rfl | decide +kernel

theorem witness_HostAccess_5a : let tag : Nat := 3; let m : Nat := 1; let a : Nat := 0x180000; let addr : Fin 16777216 := 0xB80000; let dws : Nat := 2; let fbe : Fin 16 := 15; let lbe : Fin 16 := 15; let s : State := brdgUp; let u : State := s.bump Reg.BRDG_NPREQ.COUNT; s.active = true ∧ s.stackId = 0 ∧ s.inD3 = false ∧ s.hostDim = false ∧ s.noEntry false true = false ∧ 0x800000 ≤ addr.val ∧ m = (addr.val / 4 * 4 - 0x800000) / 0x200000 ∧ m ≠ 0 ∧ a = (addr.val / 4 * 4 - 0x800000) % 0x200000 ∧ winKind a = some 2 ∧ u = s.bump Reg.BRDG_NPREQ.COUNT ∧ u.reachable m = true ∧ u.stackUp 1 = true ∧ s.farAsked < 32 ∧ s.brdg.reads.all (fun x : FarOp => x.sent) = true ∧ s.brdg.writes.all (fun x : FarOp => x.sent) = true := by
  repeat' with_reducible apply And.intro
  all_goals first | with_reducible rfl | decide +kernel

theorem witness_HostAccess_6a : let bar : Fin 2 := 0; let addr : Fin 16777216 := 0; let data : Bytes := [0, 0, 0, 0]; let fbe : Fin 16 := 15; let lbe : Fin 16 := 0; let s : State := named.put Reg.BRDG_PCIE.DSTATE 3; s.active = true ∧ s.stackId = 0 ∧ s.inD3 = true ∧ s.brdg.held = [] ∧ s.brdg.waiting = [] ∧ s.brdg.semWait = [] := by
  repeat' with_reducible apply And.intro
  all_goals first | with_reducible rfl | decide +kernel

theorem witness_HostAccess_7a : let addr : Fin 16777216 := 0x20000; let data : Bytes := [0, 0, 0, 1]; let lbe : Fin 16 := 0; let s : State := plainBo; let u : State := s.bump Reg.BRDG_PWR.COUNT; s.active = true ∧ s.stackId = 0 ∧ s.inD3 = false ∧ s.hostDim = false ∧ s.noEntry true false = false ∧ addr.val / 4 * 4 < 0xF0000 ∧ data.length = 4 ∧ s.get Reg.BRDG_WIN.BO0 = 0 ∧ s.get Reg.BRDG_WIN.BO1 = 0 ∧ s.get Reg.BRDG_WIN.BO2 = 0 ∧ s.get Reg.BRDG_WIN.BO3 = 0 ∧ u = s.bump Reg.BRDG_PWR.COUNT := by
  repeat' with_reducible apply And.intro
  all_goals first | with_reducible rfl | decide +kernel

theorem witness_HostAccess_8a : let m : Nat := 1; let a : Nat := 0x100000; let addr : Fin 16777216 := 0xB00000; let data : Bytes := [1, 2, 3, 4]; let fbe : Fin 16 := 15; let lbe : Fin 16 := 0; let s : State := plainBo; let u : State := s.bump Reg.BRDG_PWR.COUNT; s.active = true ∧ s.stackId = 0 ∧ s.inD3 = false ∧ s.hostDim = false ∧ s.noEntry true true = false ∧ 0x800000 ≤ addr.val ∧ m = (addr.val / 4 * 4 - 0x800000) / 0x200000 ∧ m ≠ 0 ∧ a = (addr.val / 4 * 4 - 0x800000) % 0x200000 ∧ winKind a = some 1 ∧ s.get Reg.BRDG_WIN.BO0 = 0 ∧ s.get Reg.BRDG_WIN.BO1 = 0 ∧ s.get Reg.BRDG_WIN.BO2 = 0 ∧ s.get Reg.BRDG_WIN.BO3 = 0 ∧ u = s.bump Reg.BRDG_PWR.COUNT ∧ u.reachable m = false := by
  repeat' with_reducible apply And.intro
  all_goals first | with_reducible rfl | decide +kernel

theorem witness_HostAccess_9a : let c : Nat := 1; let src : Nat := 0; let m : Nat := 1; let a : Nat := 0xB00000; let q : Nat := 1; let d : Bytes := [1, 2]; let arr : Nat := 5; let s : State := named; q = (if s.get Reg.BRDG_FSEQ.FSEQ = 65535 then 1 else s.get Reg.BRDG_FSEQ.FSEQ + 1) ∧ q < 65536 ∧ s.brdg.log.length < 32 := by
  repeat' with_reducible apply And.intro
  all_goals first | with_reducible rfl | decide +kernel

theorem witness_HostAccess_10a : let id : Nat := 4; let r : FarOp := { farRead with sent := true }; let s : State := { brdgUp with brdg.reads := [{ farRead with sent := true }] }; let u : State := s.reach r.until_; s.active = true ∧ s.brdg.reads.find? (·.id = id) = some r ∧ s.flag Reg.BRDG_CTRL.ERRMODE = false ∧ s.brdg.held = [] ∧ s.brdg.behind = [] ∧ s.brdg.retryAt = none ∧ s.brdg.reads.all (fun x : FarOp => x.sent) = true ∧ s.brdg.writes.all (fun x : FarOp => x.sent) = true ∧ u = s.reach r.until_ := by
  repeat' with_reducible apply And.intro
  all_goals first | with_reducible rfl | decide +kernel

theorem witness_HostAccess_11a : let id : Nat := 4; let w : FarOp := farRead; let s : State := { brdgUp with brdg.writes := [farRead] }; let u : State := { s.reach w.until_ with brdg.writes := s.brdg.writes.filter (·.id ≠ id) }; s.active = true ∧ s.brdg.reads.find? (·.id = id) = none ∧ s.brdg.writes.find? (·.id = id) = some w ∧ u = { s.reach w.until_ with brdg.writes := s.brdg.writes.filter (·.id ≠ id) } := by
  repeat' with_reducible apply And.intro
  all_goals first | with_reducible rfl | decide +kernel

theorem witness_HostAccess_12a : let tag : Nat := 3; let s : State := plainBo; s.active = true ∧ s.stackId = 0 ∧ s.inD3 = false ∧ s.hostDim = false ∧ s.noEntry false false = false ∧ s.brdg.writes = [] ∧ s.brdg.fences = [] ∧ s.flag Reg.BRDG_WIN.BO0 = false := by
  repeat' with_reducible apply And.intro
  all_goals first | with_reducible rfl | decide +kernel

theorem witness_HostAccess_13a : let tag : Nat := 3; let s : State := { brdgUp with brdg.writes := [farRead] }; s.active = true ∧ s.stackId = 0 ∧ s.inD3 = false ∧ s.hostDim = false ∧ s.noEntry false false = false ∧ s.brdg.writes ≠ [] := by
  repeat' with_reducible apply And.intro
  all_goals first | with_reducible rfl | decide +kernel

theorem witness_HostAccess_14a : let tag : Nat := 3; let ids : List Nat := [4]; let l : List (Nat × Nat × List Nat) := []; let s : State := { brdgUp with brdg.fences := [(0, 3, [4])] }; s.active = true ∧ s.brdg.fences = (0, tag, ids) :: l ∧ (s.brdg.writes.any fun w => ids.contains w.id) = false ∧ s.flag Reg.BRDG_WIN.BO0 = false := by
  repeat' with_reducible apply And.intro
  all_goals first | with_reducible rfl | decide +kernel

theorem witness_HostAccess_15a : let c : Prefetched := { win := 2, addr := 0x180000, data := [1], until_ := 9 }; let l : List Prefetched := []; let s : State := { brdgUp with brdg.pre := [{ win := 2, addr := 0x180000, data := [1], until_ := 9 }] }; s.active = true ∧ s.brdg.pre = c :: l := by
  repeat' with_reducible apply And.intro
  all_goals first | with_reducible rfl | decide +kernel

theorem witness_HostAccess_16a : let tag : Nat := 3; let bar : Fin 2 := 0; let addr : Fin 16777216 := 0x20000; let dws : Nat := 1; let fbe : Fin 16 := 15; let lbe : Fin 16 := 0; let ecc : Bool := false; let s : State := named; s.active = true ∧ s.stackId = 0 := by
  repeat' with_reducible apply And.intro
  all_goals first | with_reducible rfl | decide +kernel

theorem witness_HostAccess_17a : let bar : Fin 2 := 0; let addr : Fin 16777216 := 0x20000; let data : Bytes := [0, 0, 0, 1]; let fbe : Fin 16 := 15; let lbe : Fin 16 := 0; let id : Nat := 4; let s : State := named; s.active = true ∧ s.stackId = 0 := by
  repeat' with_reducible apply And.intro
  all_goals first | with_reducible rfl | decide +kernel

theorem witness_HostAccess_18a : let s : State := named; s.active = true := by
  decide +kernel

theorem witness_HostAccess_19a : let tag : Nat := 3; let ids : List Nat := [4]; let l : List (Nat × Nat × List Nat) := []; let s : State := { brdgUp with brdg.fences := [(0, 3, [4])], brdg.writes := [farRead] }; s.active = true ∧ s.brdg.fences = (0, tag, ids) :: l ∧ (s.brdg.writes.any fun w => ids.contains w.id) = true := by
  repeat' with_reducible apply And.intro
  all_goals first | with_reducible rfl | decide +kernel

theorem witness_HostAccess_20a : let tag : Nat := 3; let bar : Fin 2 := 0; let addr : Fin 16777216 := 0x20000; let dws : Nat := 1; let fbe : Fin 16 := 15; let lbe : Fin 16 := 0; let ecc : Bool := false; let s : State := { named with brdg.held := [⟨false, 1, 0, 0, 1, 15, 0, false, [], 0⟩] }; s.active = true ∧ s.stackId = 0 ∧ s.inD3 = false ∧ s.hostDim = false ∧ s.noEntry false (State.farTarget bar.val (addr.val / 4 * 4)) = true := by
  repeat' with_reducible apply And.intro
  all_goals first | with_reducible rfl | decide +kernel

theorem witness_HostAccess_21a : let tag : Nat := 3; let bar : Fin 2 := 0; let addr : Fin 16777216 := 0x20000; let dws : Nat := 1; let fbe : Fin 16 := 15; let lbe : Fin 16 := 0; let ecc : Bool := false; let s : State := (named.put Reg.REST_STAT.DSTATE 4).put Reg.BRDG_CTRL.ERRMODE 1; s.active = true ∧ s.stackId = 0 ∧ s.inD3 = false ∧ s.hostDim = true ∧ s.flag Reg.BRDG_CTRL.ERRMODE = true := by
  repeat' with_reducible apply And.intro
  all_goals first | with_reducible rfl | decide +kernel

theorem witness_HostAccess_22a : let bar : Fin 2 := 0; let addr : Fin 16777216 := 0x20000; let data : Bytes := [0, 0, 0, 1]; let fbe : Fin 16 := 15; let lbe : Fin 16 := 0; let s : State := { named with brdg.held := [⟨false, 1, 0, 0, 1, 15, 0, false, [], 0⟩] }; s.active = true ∧ s.stackId = 0 ∧ s.inD3 = false ∧ s.hostDim = false ∧ s.noEntry true (State.farTarget bar.val (addr.val / 4 * 4)) = true := by
  repeat' with_reducible apply And.intro
  all_goals first | with_reducible rfl | decide +kernel

theorem witness_HostAccess_23a : let id : Nat := 4; let s : State := named; s.active = true ∧ s.brdg.reads.find? (·.id = id) = none ∧ s.brdg.writes.find? (·.id = id) = none := by
  repeat' with_reducible apply And.intro
  all_goals first | with_reducible rfl | decide +kernel

theorem witness_HostAccess_24a : let s : State := named; s.brdg.held = [] ∧ s.brdg.behind = [] ∧ s.brdg.retryAt = none ∧ s.brdg.reads.all (fun x : FarOp => x.sent) = true ∧ s.brdg.writes.all (fun x : FarOp => x.sent) = true := by
  repeat' with_reducible apply And.intro
  all_goals first | with_reducible rfl | decide +kernel

theorem witness_HostAccess_25a : let m : Nat := 1; let a : Nat := 0x100000; let addr : Fin 16777216 := 0xB00000; let data : Bytes := [1, 2, 3, 4, 5, 6, 7, 8]; let s : State := brdgUp; let u : State := s.bump Reg.BRDG_PWR.COUNT; let op : FarOp := { id := s.brdg.nextId % 0xFFF0, tag := s.brdg.nextId % 0xFFF0, src := 0, member := m, addr := 0x800000 + m * 0x200000 + a, len := data.length, data := data.take 4, arrival := shortNs s.presented % 2 ^ 32, until_ := s.now + s.fto, win := 1, pay := data, be := 16 * 15 + 15, sent := true }; s.active = true ∧ s.stackId = 0 ∧ s.inD3 = false ∧ s.hostDim = false ∧ s.noEntry true true = false ∧ 0x800000 ≤ addr.val ∧ m = (addr.val / 4 * 4 - 0x800000) / 0x200000 ∧ m ≠ 0 ∧ a = (addr.val / 4 * 4 - 0x800000) % 0x200000 ∧ winKind a = some 1 ∧ s.winBo 1 = false ∧ u = s.bump Reg.BRDG_PWR.COUNT ∧ u.reachable m = true ∧ s.farPosted < 32 ∧ s.brdg.writes.all (fun x : FarOp => x.sent) = true ∧ op = { id := s.brdg.nextId % 0xFFF0, tag := s.brdg.nextId % 0xFFF0, src := 0, member := m, addr := 0x800000 + m * 0x200000 + a, len := data.length, data := data.take 4, arrival := shortNs s.presented % 2 ^ 32, until_ := s.now + s.fto, win := 1, pay := data, be := 16 * 15 + 15, sent := true } := by
  repeat' with_reducible apply And.intro
  all_goals first | with_reducible rfl | decide +kernel

theorem witness_PcieFunction_1a : let p : Fin 2 := 1; let w : Fin 3 := 2; let s : State := named; s.active = true ∧ s.stackId = 0 ∧ s.cmd.late = [] ∧ s.brdg.held = [] ∧ s.brdg.waiting = [] ∧ s.brdg.semWait = [] := by
  repeat' with_reducible apply And.intro
  all_goals first | with_reducible rfl | decide +kernel

theorem witness_PcieFunction_2a : let k : Fin 4 := 0; let s : State := named; s.active = true ∧ s.stackId = 0 ∧ s.brdg.held = [] ∧ s.brdg.waiting = [] ∧ s.brdg.semWait = [] := by
  repeat' with_reducible apply And.intro
  all_goals first | with_reducible rfl | decide +kernel

theorem witness_PcieFunction_3a : let tag : Nat := 3; let w : Bool := false; let i : Fin 32 := 0; let v : Word := 0; let s : State := { named with brdg.crsUntil := 900 }; s.active = true ∧ s.stackId = 0 ∧ i.val ≠ 15 ∧ s.now < s.brdg.crsUntil := by
  repeat' with_reducible apply And.intro
  all_goals first | with_reducible rfl | decide +kernel

theorem witness_PcieFunction_4a : let tag : Nat := 3; let v : Word := 0; let s : State := named; s.active = true ∧ s.stackId = 0 ∧ s.brdg.crsUntil ≤ s.now := by
  repeat' with_reducible apply And.intro
  all_goals first | with_reducible rfl | decide +kernel

theorem witness_PcieFunction_5a : let tag : Nat := 3; let v : Word := 3; let s : State := named; s.active = true ∧ s.stackId = 0 ∧ s.brdg.crsUntil ≤ s.now ∧ v.toNat % 4 = 3 := by
  repeat' with_reducible apply And.intro
  all_goals first | with_reducible rfl | decide +kernel

theorem witness_PcieFunction_6a : let b : Bool := true; let k : Fin 4 := 1; let p : Fin 2 := 1; let w : Fin 3 := 2; let tag : Nat := 3; let i : Fin 32 := 0; let v : Word := 0; let s : State := named; s.active = true := by
  decide +kernel

theorem witness_PcieFunction_7a : let p : Fin 2 := 1; let w : Fin 3 := 2; let s : State := named; s.active = true ∧ s.stackId = 0 ∧ s.flag Reg.BRDG_STAT.LINKUP = false ∧ s.brdg.held = [] ∧ s.brdg.waiting = [] ∧ s.brdg.semWait = [] := by
  repeat' with_reducible apply And.intro
  all_goals first | with_reducible rfl | decide +kernel

theorem witness_PcieFunction_8a : let tag : Nat := 3; let v : Word := 0; let s : State := named.put Reg.BRDG_PCIE.DSTATE 3; let u : State := (s.put Reg.BRDG_PCIE.DSTATE 0).put Reg.BRDG_STAT.D3 0; s.active = true ∧ s.stackId = 0 ∧ s.brdg.crsUntil ≤ s.now ∧ v.toNat % 4 = 0 ∧ s.inD3 = true ∧ u = (s.put Reg.BRDG_PCIE.DSTATE 0).put Reg.BRDG_STAT.D3 0 := by
  repeat' with_reducible apply And.intro
  all_goals first | with_reducible rfl | decide +kernel

theorem witness_PcieFunction_9a : let tag : Nat := 3; let v : Word := 0x1020; let s : State := named; s.active = true ∧ s.stackId = 0 ∧ s.brdg.crsUntil ≤ s.now ∧ bits v.toNat 7 5 ≤ 1 := by
  repeat' with_reducible apply And.intro
  all_goals first | with_reducible rfl | decide +kernel

theorem witness_PcieFunction_10a : let tag : Nat := 3; let v : Word := 0; let s : State := named; s.active = true ∧ s.stackId = 0 := by
  repeat' with_reducible apply And.intro
  all_goals first | with_reducible rfl | decide +kernel

theorem witness_PcieFunction_11a : let tag : Nat := 3; let v : Word := 0x12345678; let s : State := named; s.active = true ∧ s.stackId = 0 ∧ s.brdg.crsUntil ≤ s.now := by
  repeat' with_reducible apply And.intro
  all_goals first | with_reducible rfl | decide +kernel

theorem witness_PcieFunction_12a : let tag : Nat := 3; let v : Word := 0x100000; let s : State := { named with brdg.aer := 0x101000 }; s.active = true ∧ s.stackId = 0 ∧ s.brdg.crsUntil ≤ s.now ∧ s.brdg.aer < 2 ^ 32 := by
  repeat' with_reducible apply And.intro
  all_goals first | with_reducible rfl | decide +kernel

theorem witness_PcieFunction_13a : let tag : Nat := 3; let v : Word := 0; let s : State := named; s.active = true ∧ s.stackId = 0 := by
  repeat' with_reducible apply And.intro
  all_goals first | with_reducible rfl | decide +kernel

theorem witness_PcieFunction_14a : let tag : Nat := 3; let i : Fin 32 := 17; let v : Word := 0; let s : State := named; s.active = true ∧ s.stackId = 0 ∧ 16 ≤ i.val ∧ i.val ≤ 18 ∧ s.brdg.crsUntil ≤ s.now := by
  repeat' with_reducible apply And.intro
  all_goals first | with_reducible rfl | decide +kernel

theorem witness_LocksAndSemaphores_1a : let v : Word := 0x80000001; let s : State := brdgUp.put Reg.BRDG_LOCK.STATE 1; s.active = true ∧ bit v.toNat 31 = true ∧ s.get Reg.BRDG_LOCK.STATE ≠ 0 ∧ (s.stackId = 0 → s.noEntry true false = false) ∧ s.brdg.held = [] ∧ s.brdg.waiting = [] ∧ s.brdg.semWait = [] := by
  repeat' with_reducible apply And.intro
  all_goals first | with_reducible rfl | decide +kernel

theorem witness_LocksAndSemaphores_2a : let v : Word := 0x80000002; let s : State := brdgUp; s.active = true ∧ bit v.toNat 31 = true ∧ s.get Reg.BRDG_LOCK.STATE = 0 ∧ (s.put Reg.BRDG_LOCK.MEMBER (v.toNat % 4)).lockReach (v.toNat % 4) = false ∧ (s.stackId = 0 → s.noEntry true false = false) ∧ s.farAsked < 32 ∧ s.brdg.held = [] ∧ s.brdg.waiting = [] ∧ s.brdg.semWait = [] := by
  repeat' with_reducible apply And.intro
  all_goals first | with_reducible rfl | decide +kernel

theorem witness_LocksAndSemaphores_3a : let v : Word := 0x80000001; let m : Nat := 1; let s : State := brdgUp; s.active = true ∧ bit v.toNat 31 = true ∧ s.get Reg.BRDG_LOCK.STATE = 0 ∧ m = v.toNat % 4 ∧ m ≠ 0 ∧ s.stackId = 0 ∧ (s.put Reg.BRDG_LOCK.MEMBER m).reachable m = true ∧ s.stackUp 1 = true ∧ (s.stackId = 0 → s.noEntry true false = false) ∧ s.farAsked < 32 ∧ s.brdg.held = [] ∧ s.brdg.waiting = [] ∧ s.brdg.semWait = [] ∧ s.brdg.coreLock = none := by
  repeat' with_reducible apply And.intro
  all_goals first | with_reducible rfl | decide +kernel

theorem witness_LocksAndSemaphores_4a : let v : Word := 0x80000001; let h : Nat := 1; let k : Nat := 1; let s : State := { brdgUp with brdg.coreLock := some (1, 1, true) }; s.active = true ∧ bit v.toNat 31 = true ∧ s.get Reg.BRDG_LOCK.STATE = 0 ∧ s.stackId = 0 ∧ (s.put Reg.BRDG_LOCK.MEMBER (v.toNat % 4)).lockReach (v.toNat % 4) = true ∧ (s.stackId = 0 → s.noEntry true false = false) ∧ s.farAsked < 32 ∧ s.brdg.held = [] ∧ s.brdg.waiting = [] ∧ s.brdg.semWait = [] ∧ s.brdg.coreLock = some (h, k, true) := by
  repeat' with_reducible apply And.intro
  all_goals first | with_reducible rfl | decide +kernel

theorem witness_LocksAndSemaphores_5a : let v : Word := 0x80000002; let m : Nat := 2; let s : State := member; s.active = true ∧ bit v.toNat 31 = true ∧ s.get Reg.BRDG_LOCK.STATE = 0 ∧ m = v.toNat % 4 ∧ s.stackId ≠ 0 ∧ s.stackUp 0 = true ∧ s.semOpen < 32 ∧ s.brdg.held = [] ∧ s.brdg.waiting = [] ∧ s.brdg.semWait = [] := by
  repeat' with_reducible apply And.intro
  all_goals first | with_reducible rfl | decide +kernel

theorem witness_LocksAndSemaphores_6a : let s : State := (brdgUp.put Reg.BRDG_LOCK.STATE 1).put Reg.BRDG_LOCK.MEMBER 1; s.active = true ∧ s.get Reg.BRDG_LOCK.STATE = 1 ∧ s.get Reg.BRDG_LOCK.MEMBER ≠ s.stackId := by
  repeat' with_reducible apply And.intro
  all_goals first | with_reducible rfl | decide +kernel

theorem witness_LocksAndSemaphores_7a : let s : State := brdgUp.put Reg.BRDG_LOCK.STATE 1; s.active = true ∧ s.get Reg.BRDG_LOCK.STATE = 1 := by
  repeat' with_reducible apply And.intro
  all_goals first | with_reducible rfl | decide +kernel

theorem witness_LocksAndSemaphores_7b : let s : State := member.put Reg.BRDG_LOCK.STATE 1; s.active = true ∧ s.get Reg.BRDG_LOCK.STATE = 1 := by
  repeat' with_reducible apply And.intro
  all_goals first | with_reducible rfl | decide +kernel

theorem witness_LocksAndSemaphores_8a : let s : State := (brdgUp.put Reg.BRDG_LOCK.STATE 2).put Reg.BRDG_LOCK.MEMBER 1; s.active = true ∧ s.get Reg.BRDG_LOCK.STATE = 2 ∧ s.get Reg.BRDG_LOCK.MEMBER = 1 ∧ s.stackId = 0 ∧ s.stackUp 1 = true ∧ s.unsent = none ∧ s.brdg.held = [] ∧ s.brdg.waiting = [] ∧ s.brdg.semWait = [] := by
  repeat' with_reducible apply And.intro
  all_goals first | with_reducible rfl | decide +kernel

theorem witness_LocksAndSemaphores_9a : let a : Nat := 5; let s : State := { (brdgUp.put Reg.BRDG_LOCK.STATE 2).put Reg.BRDG_LOCK.MEMBER 1 with brdg.lockAt := some 5 }; let w : State := (s.reach (a + s.lockTo)).endLock 2; s.active = true ∧ s.brdg.lockAt = some a ∧ s.get Reg.BRDG_LOCK.STATE = 2 ∧ w = (s.reach (a + s.lockTo)).endLock 2 := by
  repeat' with_reducible apply And.intro
  all_goals first | with_reducible rfl | decide +kernel

theorem witness_LocksAndSemaphores_10a : let w : Fin 5 := 1; let n : Fin 32 := 31; let s : State := named; s.active = true ∧ s.stackId = 0 ∧ (w.val = 0 → s.inD3 = false ∧ s.hostDim = false ∧ s.noEntry false false = false) ∧ (w.val ≠ 0 → s.semMustWait w.val = false) ∧ s.get (Reg.BRDG_SEM.OWNER.ix n) = 0 := by
  repeat' with_reducible apply And.intro
  all_goals first | with_reducible rfl | decide +kernel

theorem witness_LocksAndSemaphores_11a : let w : Fin 5 := 0; let n : Fin 32 := 31; let o : Nat := 2; let s : State := named.put (Reg.BRDG_SEM.OWNER.ix 31) 2; s.active = true ∧ s.stackId = 0 ∧ (w.val = 0 → s.inD3 = false ∧ s.hostDim = false ∧ s.noEntry false false = false) ∧ (w.val ≠ 0 → s.semMustWait w.val = false) ∧ s.get (Reg.BRDG_SEM.OWNER.ix n) = o ∧ o ≠ 0 := by
  repeat' with_reducible apply And.intro
  all_goals first | with_reducible rfl | decide +kernel

theorem witness_LocksAndSemaphores_12a : let w : Fin 5 := 1; let n : Fin 32 := 31; let v : Word := 0; let s : State := named.put (Reg.BRDG_SEM.OWNER.ix 31) 2; s.active = true ∧ s.stackId = 0 ∧ (w.val = 0 → s.inD3 = false ∧ s.hostDim = false ∧ s.noEntry true false = false) ∧ (w.val ≠ 0 → s.semMustWait w.val = false) ∧ s.get (Reg.BRDG_SEM.OWNER.ix n) = w.val + 1 ∧ v.toNat % 8 = 0 := by
  repeat' with_reducible apply And.intro
  all_goals first | with_reducible rfl | decide +kernel

theorem witness_LocksAndSemaphores_13a : let w : Fin 5 := 1; let n : Fin 32 := 31; let v : Word := 0; let s : State := named; s.active = true ∧ s.stackId = 0 ∧ (w.val = 0 → s.inD3 = false ∧ s.hostDim = false ∧ s.noEntry true false = false) ∧ (w.val ≠ 0 → s.semMustWait w.val = false) ∧ s.get (Reg.BRDG_SEM.OWNER.ix n) ≠ w.val + 1 := by
  repeat' with_reducible apply And.intro
  all_goals first | with_reducible rfl | decide +kernel

theorem witness_LocksAndSemaphores_14a : let v : Word := 0x80000001; let b : Bool := true; let s : State := brdgUp; s.active = true := by
  decide +kernel

theorem witness_LocksAndSemaphores_15a : let s : State := brdgUp.put Reg.BRDG_LOCK.STATE 1; s.active = true ∧ s.get Reg.BRDG_LOCK.STATE = 1 ∧ s.get Reg.BRDG_LOCK.MEMBER = s.stackId := by
  repeat' with_reducible apply And.intro
  all_goals first | with_reducible rfl | decide +kernel

theorem witness_LocksAndSemaphores_16a : let b : Bool := true; let s : State := brdgUp; s.active = true ∧ s.get Reg.BRDG_LOCK.STATE ≠ 1 := by
  repeat' with_reducible apply And.intro
  all_goals first | with_reducible rfl | decide +kernel

theorem witness_LocksAndSemaphores_17a : let w : Fin 5 := 1; let n : Fin 32 := 31; let v : Word := 0; let s : State := member; s.active = true ∧ s.stackId ≠ 0 ∧ s.stackUp 0 = true ∧ s.brdg.lockWait = false ∧ (s.brdg.semReads.all fun x => x.2.2) = true ∧ s.semOpen + b2n (s.get Reg.BRDG_LOCK.STATE = 1) < 32 := by
  repeat' with_reducible apply And.intro
  all_goals first | with_reducible rfl | decide +kernel

theorem witness_LocksAndSemaphores_18a : let w : Fin 5 := 1; let n : Fin 32 := 31; let v : Word := 0; let s : State := member.put Reg.BRDG_SPUP.STATE 1; s.active = true ∧ s.stackId ≠ 0 ∧ s.stackUp 0 = false := by
  repeat' with_reducible apply And.intro
  all_goals first | with_reducible rfl | decide +kernel

theorem witness_LocksAndSemaphores_19a : let w : Fin 5 := 1; let n : Fin 32 := 31; let v : Word := 1; let s : State := named.put (Reg.BRDG_SEM.OWNER.ix 31) 2; s.active = true ∧ s.stackId = 0 ∧ (w.val = 0 → s.inD3 = false ∧ s.hostDim = false ∧ s.noEntry true false = false) ∧ (w.val ≠ 0 → s.semMustWait w.val = false) ∧ s.get (Reg.BRDG_SEM.OWNER.ix n) = w.val + 1 ∧ v.toNat % 8 ≠ 0 := by
  repeat' with_reducible apply And.intro
  all_goals first | with_reducible rfl | decide +kernel

theorem witness_LocksAndSemaphores_20a : let s : State := brdgUp; s.active = true ∧ s.brdg.held = [] ∧ s.brdg.waiting = [] ∧ s.brdg.semWait = [] ∧ (s.brdg.lockAt = none ∨ s.get Reg.BRDG_LOCK.STATE ≠ 2) := by
  repeat' with_reducible apply And.intro
  all_goals first | with_reducible rfl | decide +kernel

theorem witness_LocksAndSemaphores_21a : let s : State := brdgUp; s.active = true ∧ s.brdg.held = [] ∧ s.brdg.waiting = [] ∧ s.brdg.semWait = [] ∧ s.get Reg.BRDG_LOCK.STATE = 0 := by
  repeat' with_reducible apply And.intro
  all_goals first | with_reducible rfl | decide +kernel

theorem witness_LocksAndSemaphores_22a : let w : Fin 5 := 1; let n : Fin 32 := 31; let v : Word := 0; let s : State := { named with brdg.locked := true, brdg.lockSrc := 2 }; s.active = true ∧ s.stackId = 0 ∧ s.brdg.locked = true ∧ w.val ≠ requester s.brdg.lockSrc ∧ w.val ≠ 0 := by
  repeat' with_reducible apply And.intro
  all_goals first | with_reducible rfl | decide +kernel

theorem witness_LocksAndSemaphores_23a : let w : Fin 5 := 1; let n : Fin 32 := 31; let v : Word := 0; let s : State := { member with brdg.semReads := List.replicate 32 (0, none, true) }; s.active = true ∧ s.stackId ≠ 0 ∧ s.stackUp 0 = true ∧ s.brdg.lockWait = false ∧ 32 ≤ s.semOpen + b2n (s.get Reg.BRDG_LOCK.STATE = 1) := by
  repeat' with_reducible apply And.intro
  all_goals first | with_reducible rfl | decide +kernel

theorem witness_LocksAndSemaphores_24a : let k : Nat := 0; let s : State := { member with brdg.retryAt := some 0 }; s.brdg.retryAt = some k ∧ k ≤ s.now ∧ s.get Reg.BRDG_LOCK.STATE = 0 ∧ s.brdg.held = [] ∧ s.brdg.behind = [] ∧ s.brdg.reads.all (fun x : FarOp => x.sent) = true ∧ s.brdg.writes.all (fun x : FarOp => x.sent) = true := by
  repeat' with_reducible apply And.intro
  all_goals first | with_reducible rfl | decide +kernel

theorem witness_LocksAndSemaphores_25a : let n : Fin 32 := 31; let s : State := named.put Reg.BRDG_PCIE.DSTATE 3; s.active = true ∧ s.stackId = 0 ∧ s.inD3 = true := by
  repeat' with_reducible apply And.intro
  all_goals first | with_reducible rfl | decide +kernel

theorem witness_LocksAndSemaphores_26a : let n : Fin 32 := 31; let v : Word := 0; let s : State := named.put Reg.BRDG_PCIE.DSTATE 3; s.active = true ∧ s.stackId = 0 ∧ s.inD3 = true := by
  repeat' with_reducible apply And.intro
  all_goals first | with_reducible rfl | decide +kernel

theorem witness_LocksAndSemaphores_27a : let n : Fin 32 := 31; let s : State := named.put Reg.REST_STAT.DSTATE 4; s.active = true ∧ s.stackId = 0 ∧ s.inD3 = false ∧ s.hostDim = true ∧ s.flag Reg.BRDG_CTRL.ERRMODE = false := by
  repeat' with_reducible apply And.intro
  all_goals first | with_reducible rfl | decide +kernel

theorem witness_LocksAndSemaphores_28a : let n : Fin 32 := 31; let v : Word := 0; let s : State := named.put Reg.REST_STAT.DSTATE 4; s.active = true ∧ s.stackId = 0 ∧ s.inD3 = false ∧ s.hostDim = true ∧ s.flag Reg.BRDG_CTRL.ERRMODE = false := by
  repeat' with_reducible apply And.intro
  all_goals first | with_reducible rfl | decide +kernel

theorem witness_LocksAndSemaphores_29a : let n : Fin 32 := 31; let v : Word := 0x80000001; let s : State := { named with brdg.locked := true, brdg.lockSrc := 2 }; s.active = true ∧ s.stackId = 0 ∧ s.inD3 = false ∧ s.hostDim = false ∧ s.brdg.locked = true ∧ s.brdg.lockSrc ≠ 0 := by
  repeat' with_reducible apply And.intro
  all_goals first | with_reducible rfl | decide +kernel

theorem witness_LocksAndSemaphores_30a : let m : Nat := 1; let s : State := { brdgUp with brdg.coreLock := some (1, 1, true) }; s.get Reg.BRDG_LOCK.STATE = 0 ∧ s.stackId = 0 ∧ (s.put Reg.BRDG_LOCK.MEMBER (m % 4)).lockReach (m % 4) = true ∧ s.brdg.coreLock.any (fun x => x.2.2) = true := by
  repeat' with_reducible apply And.intro
  all_goals first | with_reducible rfl | decide +kernel

theorem witness_StackPackets_1a : let o : Fin 2 := 0; let p : Bytes := [1]; let e : Bool := false; let s : State := member; s.active = true ∧ s.stackUp o = true ∧ spOk p = false ∧ s.brdg.held = [] ∧ s.brdg.waiting = [] ∧ s.brdg.semWait = [] := by
  repeat' with_reducible apply And.intro
  all_goals first | with_reducible rfl | decide +kernel

theorem witness_StackPackets_2a : let o : Fin 2 := 0; let p : Bytes := stackPacket 1 0 2 0 5 0x20000 0xF0 [0, 0, 0, 1]; let s : State := member; let u : State := s.localWrite (spAddr p) (spPay p) (bits (spBe p) 7 4) (spBe p % 16) (requester (spSrc p)); let b : Bytes := natBe 4 (u.brdg.applied + 1) ++ natBe 2 (spTag p) ++ natBe 1 (requester (spSrc p)); let w : State := State.stackMsg { u with brdg.applied := u.brdg.applied + 1 } 0 4 b; s.active = true ∧ s.stackUp o = true ∧ spOk p = true ∧ spKind p = 1 ∧ spDst p = s.stackId ∧ s.mustWait o.val p = false ∧ s.stackId ≠ 0 ∧ u = s.localWrite (spAddr p) (spPay p) (bits (spBe p) 7 4) (spBe p % 16) (requester (spSrc p)) ∧ u.stackId = s.stackId ∧ b = natBe 4 (u.brdg.applied + 1) ++ natBe 2 (spTag p) ++ natBe 1 (requester (spSrc p)) ∧ w = State.stackMsg { u with brdg.applied := u.brdg.applied + 1 } 0 4 b := by
  repeat' with_reducible apply And.intro
  all_goals first | with_reducible rfl | decide +kernel

theorem witness_StackPackets_3a : let o : Fin 2 := 0; let p : Bytes := rdPacket 2 0 5 0x20000 0xF 4; let s : State := member; let r : Bytes × State := s.localRead (spAddr p) 4 (requester (spSrc p)); s.active = true ∧ s.stackUp o = true ∧ spOk p = true ∧ spKind p = 2 ∧ spDst p = s.stackId ∧ s.mustWait o.val p = false ∧ spLen p = 4 ∧ r = s.localRead (spAddr p) 4 (requester (spSrc p)) := by
  repeat' with_reducible apply And.intro
  all_goals first | with_reducible rfl | decide +kernel

theorem witness_StackPackets_4a : let o : Fin 2 := 0; let p : Bytes := [1]; let e : Bool := false; let s : State := named; s.active = true ∧ s.stackUp o = false := by
  repeat' with_reducible apply And.intro
  all_goals first | with_reducible rfl | decide +kernel

theorem witness_StackPackets_5a : let o : Fin 2 := 1; let r : FarOp := { farRead with sent := true }; let p : Bytes := stackPacket 3 2 0 1 4 0 0 [1, 2, 3, 4, 5, 6, 7, 8]; let s : State := { brdgUp with brdg.reads := [{ farRead with sent := true }] }; s.active = true ∧ s.stackUp o = true ∧ spOk p = true ∧ spKind p = 3 ∧ spDst p = s.stackId ∧ s.mustWait o.val p = false ∧ spTag p < 0xFFF0 ∧ s.brdg.held = [] ∧ s.brdg.retryAt = none ∧ s.brdg.reads.all (fun x : FarOp => x.sent) = true ∧ s.brdg.writes.all (fun x : FarOp => x.sent) = true ∧ spBe p = 0 ∧ (s.brdg.reads.find? fun r => r.id = spTag p && r.member = spSrc p) = some r := by
  repeat' with_reducible apply And.intro
  all_goals first | with_reducible rfl | decide +kernel

theorem witness_StackPackets_6a : let o : Fin 2 := 0; let p : Bytes := stackPacket 4 0 2 0 0 0 0 [1]; let s : State := member; s.active = true ∧ s.stackUp o = true ∧ spOk p = true ∧ spKind p = 4 ∧ spDst p = s.stackId ∧ s.mustWait o.val p = false ∧ (spPay p).length < 16 := by
  repeat' with_reducible apply And.intro
  all_goals first | with_reducible rfl | decide +kernel

theorem witness_StackPackets_7a : let o : Fin 2 := 0; let p : Bytes := stackPacket 4 0 2 0 0 0 0 (List.replicate 16 0 ++ [1]); let t : Bytes := List.replicate 16 0 ++ [1]; let f : PFrame := { fid := 0, ingress := 9, cls := Cls.ofCode 0, bytes := [], complete := true, stamp := none, claim := 0 }; let s : State := poolFull; s.active = true ∧ s.stackUp o = true ∧ spOk p = true ∧ spKind p = 4 ∧ spDst p = s.stackId ∧ s.mustWait o.val p = false ∧ t = spPay p ∧ 16 ≤ t.length ∧ f = { fid := 0, ingress := 9 + o.val, cls := Cls.ofCode (byteAt t 2 / 64), bytes := (t.drop 16).take (fieldAt t 4 2), complete := true, stamp := none, claim := fieldAt t 10 4 } ∧ s.enterPool f f.bytes.length = none := by
  repeat' with_reducible apply And.intro
  all_goals first | with_reducible rfl | decide +kernel

theorem witness_StackPackets_8a : let o : Fin 2 := 0; let p : Bytes := stackPacket 4 0 2 0 0 0 0 ([0, 16] ++ List.replicate 14 0 ++ [1]); let t : Bytes := [0, 16] ++ List.replicate 14 0 ++ [1]; let m : Nat := 16; let s : State := member; let f : PFrame := { fid := 0, ingress := 9, cls := Cls.ofCode 0, bytes := [], complete := true, stamp := none, claim := 0 }; let k : Nat := ((s.enterPool f 0).getD (0, s)).1; let u : State := ((s.enterPool f 0).getD (0, s)).2; s.active = true ∧ s.stackUp o = true ∧ spOk p = true ∧ spKind p = 4 ∧ spDst p = s.stackId ∧ s.mustWait o.val p = false ∧ t = spPay p ∧ 16 ≤ t.length ∧ m = fieldAt t 0 2 ∧ m = 16 ∧ f = { fid := 0, ingress := 9 + o.val, cls := Cls.ofCode (byteAt t 2 / 64), bytes := (t.drop 16).take (fieldAt t 4 2), complete := true, stamp := none, claim := fieldAt t 10 4 } ∧ s.enterPool f f.bytes.length = some (k, u) := by
  repeat' with_reducible apply And.intro
  all_goals first | with_reducible rfl | decide +kernel

theorem witness_StackPackets_9a : let o : Fin 2 := 1; let p : Bytes := stackPacket 5 0 0 1 0 0 0 [4, 0, 0, 0, 0, 1, 0, 4, 0]; let b : Bytes := [0, 0, 0, 1, 0, 4, 0]; let s : State := { brdgUp with brdg.writes := [{ farRead with sent := true }] }; s.active = true ∧ s.stackUp o = true ∧ spOk p = true ∧ spKind p = 5 ∧ spDst p = s.stackId ∧ s.mustWait o.val p = false ∧ byteAt (spPay p) 0 = 4 ∧ s.brdg.held = [] ∧ s.brdg.waiting = [] ∧ s.brdg.semWait = [] ∧ s.brdg.held = [] ∧ s.brdg.retryAt = none ∧ s.brdg.reads.all (fun x : FarOp => x.sent) = true ∧ s.brdg.writes.all (fun x : FarOp => x.sent) = true ∧ b = (spPay p).drop 2 := by
  repeat' with_reducible apply And.intro
  all_goals first | with_reducible rfl | decide +kernel

theorem witness_StackPackets_10a : let o : Fin 2 := 0; let p : Bytes := stackPacket 5 0 2 0 0 0 0 ([3, 0] ++ List.replicate 24 1); let b : Bytes := List.replicate 24 1; let s : State := member; let k : Nat := fieldAt b 20 4 + s.stackId * (Config.stackHop.toNat % 6401); let u : State := { s with cycRun := true, cyc := fieldAt b 0 4, bnd := s.now - k, time := { s.time with map := if bit (byteAt b 15) 5 then some (fieldAt b 0 4, ofSecNs (fieldAt b 4 6) (fieldAt b 10 4)) else none }, brdg := { s.brdg with mode := byteAt b 14, onTrain := bit (byteAt b 15) 7, loop := bit (byteAt b 15) 6 } }; s.active = true ∧ s.stackUp o = true ∧ spOk p = true ∧ spKind p = 5 ∧ spDst p = s.stackId ∧ s.mustWait o.val p = false ∧ s.stackId ≠ 0 ∧ byteAt (spPay p) 0 = 3 ∧ b = (spPay p).drop 2 ∧ k = fieldAt b 20 4 + s.stackId * (Config.stackHop.toNat % 6401) ∧ u = { s with cycRun := true, cyc := fieldAt b 0 4, bnd := s.now - k, time := { s.time with map := if bit (byteAt b 15) 5 then some (fieldAt b 0 4, ofSecNs (fieldAt b 4 6) (fieldAt b 10 4)) else none }, brdg := { s.brdg with mode := byteAt b 14, onTrain := bit (byteAt b 15) 7, loop := bit (byteAt b 15) 6 } } := by
  repeat' with_reducible apply And.intro
  all_goals first | with_reducible rfl | decide +kernel

theorem witness_StackPackets_11a : let o : Fin 2 := 0; let p : Bytes := stackPacket 6 1 2 0 0xFFFF 0 0 []; let s : State := member; let w : State := { s.put Reg.CMD_STAT.LOCKWAIT 1 with brdg := { s.brdg with locked := true, lockSrc := byteAt (spPay p) 0, lockAt := some (s.brdg.lockAt.getD s.now) } }; s.active = true ∧ s.stackUp o = true ∧ spOk p = true ∧ spKind p = 6 ∧ spDst p = s.stackId ∧ s.stackId ≠ 0 ∧ w = { s.put Reg.CMD_STAT.LOCKWAIT 1 with brdg := { s.brdg with locked := true, lockSrc := byteAt (spPay p) 0, lockAt := some (s.brdg.lockAt.getD s.now) } } := by
  repeat' with_reducible apply And.intro
  all_goals first | with_reducible rfl | decide +kernel

theorem witness_StackPackets_12a : let o : Fin 2 := 1; let p : Bytes := stackPacket 6 1 0 1 0xFFFF 0 0 [1]; let s : State := brdgUp.put Reg.BRDG_LOCK.STATE 1; s.active = true ∧ s.stackUp o = true ∧ spOk p = true ∧ spKind p = 6 ∧ spDst p = s.stackId ∧ s.stackId = 0 ∧ s.get Reg.BRDG_LOCK.STATE ≠ 0 := by
  repeat' with_reducible apply And.intro
  all_goals first | with_reducible rfl | decide +kernel

theorem witness_StackPackets_13a : let o : Fin 2 := 1; let p : Bytes := stackPacket 6 1 0 1 0xFFFF 0 0 [1]; let k : Nat := 1; let s : State := brdgUp; s.active = true ∧ s.stackUp o = true ∧ spOk p = true ∧ spKind p = 6 ∧ spDst p = s.stackId ∧ s.stackId = 0 ∧ s.get Reg.BRDG_LOCK.STATE = 0 ∧ s.brdg.coreLock = none ∧ k = byteAt (spPay p) 0 % 4 ∧ s.members.contains k = true := by
  repeat' with_reducible apply And.intro
  all_goals first | with_reducible rfl | decide +kernel

theorem witness_StackPackets_14a : let o : Fin 2 := 1; let p : Bytes := stackPacket 3 2 0 1 0xFFF1 0 0 []; let h : Nat := 1; let k : Nat := 1; let s : State := { brdgUp with brdg.coreLock := some (1, 1, false) }; s.active = true ∧ s.stackUp o = true ∧ spOk p = true ∧ spKind p = 3 ∧ spDst p = s.stackId ∧ s.mustWait o.val p = false ∧ 1 ≤ h ∧ h ≤ 3 ∧ spTag p = 0xFFF0 + h ∧ s.brdg.coreLock = some (h, k, false) ∧ spBe p = 0 := by
  repeat' with_reducible apply And.intro
  all_goals first | with_reducible rfl | decide +kernel

theorem witness_StackPackets_15a : let h : Nat := 1; let k : Nat := 2; let m : Nat := 1; let n : Nat := 1; let s : State := { brdgUp with brdg.coreLock := some (2, 1, false) }; s.get Reg.BRDG_LOCK.STATE = 0 ∧ (m = 0 ∨ s.members.contains m = true) := by
  repeat' with_reducible apply And.intro
  all_goals first | with_reducible rfl | decide +kernel

theorem witness_StackPackets_16a : let o : Fin 2 := 0; let p : Bytes := [1]; let e : Bool := false; let s : State := member; s.active = true := by
  decide +kernel

theorem witness_StackPackets_17a : let o : Fin 2 := 0; let p : Bytes := stackPacket 1 0 3 0 5 0x20000 0xF0 [0, 0, 0, 1]; let ks : List Nat := [1]; let f : State → Bytes → State := fun s _ => s; let e : Bool := false; let s : State := member; s.stackUp o = true ∧ spOk p = true ∧ ks.contains (spKind p) = true ∧ spDst p ≠ s.stackId := by
  repeat' with_reducible apply And.intro
  all_goals first | with_reducible rfl | decide +kernel

theorem witness_StackPackets_18a : let o : Fin 2 := 0; let p : Bytes := stackPacket 1 0 2 1 5 0x20000 0xF0 [0, 0, 0, 1]; let ks : List Nat := [1]; let f : State → Bytes → State := fun s _ => s; let e : Bool := false; let s : State := { member with brdg.locked := true }; s.stackUp o = true ∧ spOk p = true ∧ ks.contains (spKind p) = true ∧ spDst p = s.stackId ∧ (s.brdg.locked = true ∧ spSrc p ≠ s.brdg.lockSrc ∧ (spKind p = 1 ∨ spKind p = 2 ∨ spKind p = 8) ∨ (spKind p ≤ 5 ∧ ∃ x ∈ s.brdg.waiting, x.1 = o.val ∧ spSrc x.2.2 = spSrc p ∧ spKind x.2.2 = 1)) := by
  repeat' with_reducible apply And.intro
  all_goals first | with_reducible rfl | decide +kernel

theorem witness_StackPackets_19a : let o : Fin 2 := 0; let p : Bytes := stackPacket 7 0 2 0 0 0 0 []; let s : State := { member with brdg.locked := true }; s.active = true ∧ s.stackUp o = true ∧ spOk p = true ∧ spKind p = 7 ∧ spDst p = s.stackId ∧ s.stackId ≠ 0 ∧ s.brdg.locked = true := by
  repeat' with_reducible apply And.intro
  all_goals first | with_reducible rfl | decide +kernel

theorem witness_StackPackets_20a : let o : Fin 2 := 1; let r : FarOp := { farRead with sent := true }; let p : Bytes := stackPacket 3 2 0 1 4 0 2 []; let s : State := { brdgUp with brdg.reads := [{ farRead with sent := true }] }; s.active = true ∧ s.stackUp o = true ∧ spOk p = true ∧ spKind p = 3 ∧ spDst p = s.stackId ∧ s.mustWait o.val p = false ∧ spTag p < 0xFFF0 ∧ spBe p = 2 ∧ (s.brdg.reads.find? fun r => r.id = spTag p && r.member = spSrc p) = some r := by
  repeat' with_reducible apply And.intro
  all_goals first | with_reducible rfl | decide +kernel

theorem witness_StackPorts_1a : let q : Fin 4 := 3; let s : State := { (named.put Reg.BRDG_STAT.STACKID 2).put Reg.BRDG_SPUP.STATE 1 with brdg.idSeen := true }; s.active = true ∧ s.get Reg.BRDG_SPUP.STATE ≠ 0 ∧ s.stackUp 0 = false ∧ s.stackId ≠ q.val + 1 ∧ s.brdg.idSeen = true ∧ bridgeIdle s = true ∧ s.brdg.semReads = [] ∧ s.brdg.lockWait = false := by
  repeat' with_reducible apply And.intro
  all_goals first | with_reducible rfl | decide +kernel

theorem witness_StackPorts_2a : let q : Fin 4 := 0; let s : State := member; s.active = true ∧ s.stackUp 0 = true ∧ s.brdg.fwd = [] ∧ bridgeIdle s = true ∧ s.brdg.locked = false ∧ s.get Reg.BRDG_LOCK.STATE = 0 ∧ s.brdg.semReads = [] ∧ s.brdg.lockWait = false ∧ s.brdg.fences = [] ∧ s.members = [] := by
  repeat' with_reducible apply And.intro
  all_goals first | with_reducible rfl | decide +kernel

theorem witness_StackPorts_3a : let a : Nat := 0; let s : State := { member with brdg.upSince := some 0 }; s.active = true ∧ s.brdg.upSince = some a ∧ s.stackId ≠ 0 ∧ s.pwr.hold = none := by
  repeat' with_reducible apply And.intro
  all_goals first | with_reducible rfl | decide +kernel

theorem witness_StackPorts_4a : let v : Word := 0x200; let s : State := brdgUp; s.active = true ∧ s.stackId = 0 ∧ s.stackUp 1 = true ∧ bit v.toNat 9 = true ∧ bit v.toNat 10 = false ∧ bit v.toNat 11 = false := by
  repeat' with_reducible apply And.intro
  all_goals first | with_reducible rfl | decide +kernel

theorem witness_StackPorts_5a : let o : Fin 2 := 0; let b : Bool := true; let q : Fin 4 := 1; let v : Word := 0x200; let s : State := member; s.active = true := by
  decide +kernel

theorem witness_StackPorts_6a : let q : Fin 4 := 1; let s : State := (named.put Reg.BRDG_STAT.STACKID 2).put Reg.BRDG_SPUP.STATE 1; let u : State := (s.put Reg.BRDG_SPUP.PEERID q.val).put Reg.BRDG_SPUP.STATE 6; s.active = true ∧ s.get Reg.BRDG_SPUP.STATE ≠ 0 ∧ s.stackUp 0 = false ∧ s.stackId = q.val + 1 ∧ u = (s.put Reg.BRDG_SPUP.PEERID q.val).put Reg.BRDG_SPUP.STATE 6 := by
  repeat' with_reducible apply And.intro
  all_goals first | with_reducible rfl | decide +kernel

theorem witness_StackPorts_7a : let v : Word := 0x200; let s : State := named; s.active = true := by
  decide +kernel

theorem witness_StackPorts_8a : let o : Fin 2 := 0; let q : Fin 4 := 1; let s : State := named; s.active = true ∧ s.stackUp o = false := by
  repeat' with_reducible apply And.intro
  all_goals first | with_reducible rfl | decide +kernel

theorem witness_StackPorts_9a : let q : Fin 4 := 0; let s : State := brdgUp; let u : State := (s.put Reg.BRDG_SPDN.STATE 1).bump Reg.BRDG_STKRETR.COUNT; s.active = true ∧ s.stackUp 1 = true ∧ s.stackId = 0 ∧ s.brdg.waiting = [] ∧ u = (s.put Reg.BRDG_SPDN.STATE 1).bump Reg.BRDG_STKRETR.COUNT ∧ s.brdg.fwd = [] := by
  repeat' with_reducible apply And.intro
  all_goals first | with_reducible rfl | decide +kernel

theorem witness_StackPorts_10a : let q : Fin 4 := 3; let s : State := { (named.put Reg.BRDG_STAT.STACKID 2).put Reg.BRDG_SPUP.STATE 1 with brdg.idSeen := false }; s.active = true ∧ s.get Reg.BRDG_SPUP.STATE ≠ 0 ∧ s.stackUp 0 = false ∧ s.stackId ≠ q.val + 1 ∧ s.brdg.idSeen = false ∧ bridgeIdle s = true ∧ s.brdg.semReads = [] ∧ s.brdg.lockWait = false := by
  repeat' with_reducible apply And.intro
  all_goals first | with_reducible rfl | decide +kernel

theorem witness_RemoteFrames_1a : let l : Lane := 0; let s : State := rosterUp; let r : State := s.readVoted 0xD000C; let f : Bytes := cmdFrame 0x04 2 [0, 1, 0, 9, 0, 0, 0, 0]; let k : Nat := r.remoteCause f; s.awake = true ∧ s.remoteFrameOk l f 0x04 = true ∧ r = s.readVoted 0xD000C ∧ k = r.remoteCause f ∧ k ≠ 0 := by
  repeat' with_reducible apply And.intro
  all_goals first | with_reducible rfl | decide +kernel

theorem witness_RemoteFrames_2a : let c : Fin 6 := 1; let n : Nat := 3; let r : Fld := Reg.CMD_REJFMT.COUNT; let s : State := named; c.val ≠ 0 ∧ r = (if c.val = 1 then Reg.CMD_REJFMT.COUNT else if c.val = 2 then Reg.CMD_REJGEN.COUNT else if c.val = 3 then Reg.CMD_REJSTALE.COUNT else if c.val = 4 then Reg.CMD_REJMAC.COUNT else Reg.CMD_REJREPLAY.COUNT) := by
  repeat' with_reducible apply And.intro
  all_goals first | with_reducible rfl | decide +kernel

theorem witness_RemoteFrames_2b : let c : Fin 6 := 5; let n : Nat := 3; let r : Fld := Reg.CMD_REJREPLAY.COUNT; let s : State := named; c.val ≠ 0 ∧ r = (if c.val = 1 then Reg.CMD_REJFMT.COUNT else if c.val = 2 then Reg.CMD_REJGEN.COUNT else if c.val = 3 then Reg.CMD_REJSTALE.COUNT else if c.val = 4 then Reg.CMD_REJMAC.COUNT else Reg.CMD_REJREPLAY.COUNT) := by
  repeat' with_reducible apply And.intro
  all_goals first | with_reducible rfl | decide +kernel

theorem witness_RemoteFrames_3a : let l : Lane := 0; let s : State := rosterUp; let r : State := s.readVoted 0xD000C; let f : Bytes := cmdFrame 0x04 1 [0, 1, 0, 9, 0, 0, 0, 0]; let p : Bytes := [0, 1, 0, 9, 0, 0, 0, 0]; let n : Nat := 0; let u : State := (r.replayNew (wrOrigin (payload f)) (hSeq f)).getD s; s.awake = true ∧ s.remoteFrameOk l f 0x04 = true ∧ r = s.readVoted 0xD000C ∧ r.remoteCause f = 0 ∧ r.replayNew (wrOrigin (payload f)) (hSeq f) = some u ∧ p = wrPacket (payload f) ∧ isNotice (pkOp p) = false ∧ u.cmd.shut = false ∧ u.slotsTaken + u.cmdFetches < 64 ∧ u.freeSlot = some n := by
  repeat' with_reducible apply And.intro
  all_goals first | with_reducible rfl | decide +kernel

theorem witness_RemoteFrames_4a : let l : Lane := 0; let s : State := rosterUp; let r : State := s.readVoted 0xD000C; let f : Bytes := cmdFrame 0x04 1 [0, 0x53, 0, 9, 0, 0, 0, 0]; let u : State := (r.replayNew (wrOrigin (payload f)) (hSeq f)).getD s; s.awake = true ∧ s.remoteFrameOk l f 0x04 = true ∧ r = s.readVoted 0xD000C ∧ r.remoteCause f = 0 ∧ r.replayNew (wrOrigin (payload f)) (hSeq f) = some u ∧ isNotice (pkOp (wrPacket (payload f))) = true := by
  repeat' with_reducible apply And.intro
  all_goals first | with_reducible rfl | decide +kernel

theorem witness_RemoteFrames_5a : let l : Lane := 0; let s : State := rosterUp; let r : State := s.readVoted 0xD000C; let f : Bytes := cmdFrame 0x05 1 (List.replicate 12 0); let u : State := (r.replayNew (wrOrigin (payload f)) (hSeq f)).getD s; s.awake = true ∧ s.remoteFrameOk l f 0x05 = true ∧ r = s.readVoted 0xD000C ∧ r.remoteCause f = 0 ∧ r.replayNew (wrOrigin (payload f)) (hSeq f) = some u ∧ u.openRsend (hSrc f) (fieldAt (wrPacket (payload f)) 2 2) = none ∧ u.memberRsend (hSrc f) (fieldAt (wrPacket (payload f)) 2 2) = none := by
  repeat' with_reducible apply And.intro
  all_goals first | with_reducible rfl | decide +kernel

theorem witness_RemoteFrames_6a : let l : Lane := 0; let n : Nat := 0; let s : State := { rosterUp with cmd.slots := [(0, { hostPk 0x70 (natBe 2 3 ++ [0, 0] ++ natBe 2 0 ++ natBe 2 0) with rto := some 900 })] }; let r : State := s.readVoted 0xD000C; let f : Bytes := cmdFrame 0x05 1 (List.replicate 12 0); let u : State := (r.replayNew (wrOrigin (payload f)) (hSeq f)).getD s; s.awake = true ∧ s.remoteFrameOk l f 0x05 = true ∧ r = s.readVoted 0xD000C ∧ r.remoteCause f = 0 ∧ r.replayNew (wrOrigin (payload f)) (hSeq f) = some u ∧ u.openRsend (hSrc f) (fieldAt (wrPacket (payload f)) 2 2) = some n := by
  repeat' with_reducible apply And.intro
  all_goals first | with_reducible rfl | decide +kernel

theorem witness_RemoteFrames_8a : let l : Lane := 0; let f : Bytes := []; let s : State := named; s.awake = true ∧ s.remoteFrameOk l f 0x04 = false := by
  repeat' with_reducible apply And.intro
  all_goals first | with_reducible rfl | decide +kernel

theorem witness_RemoteFrames_9a : let l : Lane := 0; let f : Bytes := []; let s : State := named; s.awake = true ∧ s.remoteFrameOk l f 0x05 = false := by
  repeat' with_reducible apply And.intro
  all_goals first | with_reducible rfl | decide +kernel

theorem witness_RemoteFrames_10a : let l : Lane := 0; let f : Bytes := cmdFrame 0x04 1 [0, 1, 0, 9, 0, 0, 0, 0]; let s : State := { rosterUp with cmd.replay := [(wrOrigin (payload f), (hSeq f, 1))] }; let r : State := s.readVoted 0xD000C; s.awake = true ∧ s.remoteFrameOk l f 0x04 = true ∧ r = s.readVoted 0xD000C ∧ r.remoteCause f = 0 ∧ r.replayNew (wrOrigin (payload f)) (hSeq f) = none := by
  repeat' with_reducible apply And.intro
  all_goals first | with_reducible rfl | decide +kernel

theorem witness_RemoteFrames_10b : let l : Lane := 0; let f : Bytes := cmdFrame 0x04 1 [0, 0x51, 0, 9, 0, 0, 0, 0]; let s : State := { rosterUp with cmd.replay := [(wrOrigin (payload f), (hSeq f, 1))] }; let r : State := s.readVoted 0xD000C; s.awake = true ∧ s.remoteFrameOk l f 0x04 = true ∧ r = s.readVoted 0xD000C ∧ r.remoteCause f = 0 ∧ r.replayNew (wrOrigin (payload f)) (hSeq f) = none := by
  repeat' with_reducible apply And.intro
  all_goals first | with_reducible rfl | decide +kernel

theorem witness_RemoteFrames_11a : let l : Lane := 0; let s : State := rosterUp; let r : State := s.readVoted 0xD000C; let f : Bytes := cmdFrame 0x05 2 (List.replicate 12 0); let k : Nat := r.remoteCause f; s.awake = true ∧ s.remoteFrameOk l f 0x05 = true ∧ r = s.readVoted 0xD000C ∧ k = r.remoteCause f ∧ k ≠ 0 := by
  repeat' with_reducible apply And.intro
  all_goals first | with_reducible rfl | decide +kernel

theorem witness_RemoteFrames_12a : let l : Lane := 0; let f : Bytes := cmdFrame 0x05 1 (List.replicate 12 0); let s : State := { rosterUp with cmd.replay := [(wrOrigin (payload f), (hSeq f, 1))] }; let r : State := s.readVoted 0xD000C; s.awake = true ∧ s.remoteFrameOk l f 0x05 = true ∧ r = s.readVoted 0xD000C ∧ r.remoteCause f = 0 ∧ r.replayNew (wrOrigin (payload f)) (hSeq f) = none := by
  repeat' with_reducible apply And.intro
  all_goals first | with_reducible rfl | decide +kernel

theorem witness_RemoteFrames_13a : let l : Lane := 0; let s : State := { rosterUp with cmd.shut := true }; let r : State := s.readVoted 0xD000C; let f : Bytes := cmdFrame 0x04 1 [0, 1, 0, 9, 0, 0, 0, 0]; let p : Bytes := [0, 1, 0, 9, 0, 0, 0, 0]; let u : State := (r.replayNew (wrOrigin (payload f)) (hSeq f)).getD s; s.awake = true ∧ s.remoteFrameOk l f 0x04 = true ∧ r = s.readVoted 0xD000C ∧ r.remoteCause f = 0 ∧ r.replayNew (wrOrigin (payload f)) (hSeq f) = some u ∧ p = wrPacket (payload f) ∧ isNotice (pkOp p) = false ∧ (u.cmd.shut = true ∨ 64 ≤ u.slotsTaken + u.cmdFetches) := by
  repeat' with_reducible apply And.intro
  all_goals first | with_reducible rfl | decide +kernel

theorem witness_RemoteFrames_14a : let l : Lane := 0; let m : Nat := 1; let s : State := { rosterUp with cmd.slots := [(0, { hostPk 0x70 (natBe 2 3 ++ [0, 0] ++ natBe 2 0 ++ natBe 2 0) with member := 1 })] }; let r : State := s.readVoted 0xD000C; let f : Bytes := cmdFrame 0x05 1 (List.replicate 12 0); let u : State := (r.replayNew (wrOrigin (payload f)) (hSeq f)).getD s; s.awake = true ∧ s.remoteFrameOk l f 0x05 = true ∧ r = s.readVoted 0xD000C ∧ r.remoteCause f = 0 ∧ r.replayNew (wrOrigin (payload f)) (hSeq f) = some u ∧ u.openRsend (hSrc f) (fieldAt (wrPacket (payload f)) 2 2) = none ∧ u.memberRsend (hSrc f) (fieldAt (wrPacket (payload f)) 2 2) = some m := by
  repeat' with_reducible apply And.intro
  all_goals first | with_reducible rfl | decide +kernel

theorem witness_RemoteFrames_15a : let c : Nat := 1; let n : Nat := 3; let s : State := named; s.onceSec.contains (0x0D10, n, s.opSec) = false := by
  decide +kernel

theorem witness_RemoteFrames_16a : let c : Nat := 1; let n : Nat := 3; let s : State := { named with onceSec := [(0x0D10, 3, named.opSec)] }; s.onceSec.contains (0x0D10, n, s.opSec) = true := by
  decide +kernel

theorem witness_SnapshotsAndMidnights_1a : let v : Word := 2; let s : State := named; let u : State := s.storeWord Reg.HKP_CTRL.EN.addr v.toNat; let w : State := (if bit v.toNat 1 then u.snapshot 1 none else u); let x : State := (if bit v.toNat 2 then w.calAll else w); s.awake = true ∧ u = s.storeWord Reg.HKP_CTRL.EN.addr v.toNat ∧ w = (if bit v.toNat 1 then u.snapshot 1 none else u) ∧ x = (if bit v.toNat 2 then w.calAll else w) := by
  repeat' with_reducible apply And.intro
  all_goals first | with_reducible rfl | decide +kernel

theorem witness_SnapshotsAndMidnights_1b : let v : Word := 14; let s : State := named; let u : State := s.storeWord Reg.HKP_CTRL.EN.addr v.toNat; let w : State := (if bit v.toNat 1 then u.snapshot 1 none else u); let x : State := (if bit v.toNat 2 then w.calAll else w); s.awake = true ∧ u = s.storeWord Reg.HKP_CTRL.EN.addr v.toNat ∧ w = (if bit v.toNat 1 then u.snapshot 1 none else u) ∧ x = (if bit v.toNat 2 then w.calAll else w) := by
  repeat' with_reducible apply And.intro
  all_goals first | with_reducible rfl | decide +kernel

theorem witness_SnapshotsAndMidnights_2a : let k : Nat := 1; let m : Option Midnight := none; let s : State := named; s.poolSumOk = true ∧ (s.snapBank s.newestBank = none ∨ s.sameCapture = false) := by
  repeat' with_reducible apply And.intro
  all_goals first | with_reducible rfl | decide +kernel

theorem witness_SnapshotsAndMidnights_2b : let k : Nat := 4; let m : Option Midnight := some ⟨1, 7, 900⟩; let s : State := { named with now := 8, hkp.bank0 := some ⟨List.replicate 36 1, []⟩, hkp.capAt := some 7 }; s.poolSumOk = true ∧ (s.snapBank s.newestBank = none ∨ s.sameCapture = false) := by
  repeat' with_reducible apply And.intro
  all_goals first | with_reducible rfl | decide +kernel

theorem witness_SnapshotsAndMidnights_3a : let b : Fin 2 := 0; let h : Bytes := []; let s : State := named; s.nextBank = some b.val := by
  decide +kernel

theorem witness_SnapshotsAndMidnights_4a : let h : Bytes := []; let s : State := (named.put Reg.HKP_SSTAT.HOLD0 1).put Reg.HKP_SSTAT.HOLD1 1; s.nextBank = none := by
  decide +kernel

theorem witness_SnapshotsAndMidnights_5a : let r : Bool := true; let s : State := named.put Reg.HKP_CTRL.SNAPEDGE 1; s.awake = true ∧ (s.get Reg.HKP_CTRL.SNAPEDGE = 3 ∨ (s.get Reg.HKP_CTRL.SNAPEDGE = 1 ∧ r = true) ∨ (s.get Reg.HKP_CTRL.SNAPEDGE = 2 ∧ r = false)) := by
  repeat' with_reducible apply And.intro
  all_goals first | with_reducible rfl | decide +kernel

theorem witness_SnapshotsAndMidnights_6a : let r : Bool := true; let s : State := named.put Reg.HKP_CTRL.SNAPEDGE 0; s.awake = true ∧ (s.get Reg.HKP_CTRL.SNAPEDGE = 0 ∨ (s.get Reg.HKP_CTRL.SNAPEDGE = 1 ∧ r = false) ∨ (s.get Reg.HKP_CTRL.SNAPEDGE = 2 ∧ r = true)) := by
  repeat' with_reducible apply And.intro
  all_goals first | with_reducible rfl | decide +kernel

theorem witness_SnapshotsAndMidnights_6b : let r : Bool := false; let s : State := named.put Reg.HKP_CTRL.SNAPEDGE 1; s.awake = true ∧ (s.get Reg.HKP_CTRL.SNAPEDGE = 0 ∨ (s.get Reg.HKP_CTRL.SNAPEDGE = 1 ∧ r = false) ∨ (s.get Reg.HKP_CTRL.SNAPEDGE = 2 ∧ r = true)) := by
  repeat' with_reducible apply And.intro
  all_goals first | with_reducible rfl | decide +kernel

theorem witness_SnapshotsAndMidnights_6c : let r : Bool := true; let s : State := named.put Reg.HKP_CTRL.SNAPEDGE 2; s.awake = true ∧ (s.get Reg.HKP_CTRL.SNAPEDGE = 0 ∨ (s.get Reg.HKP_CTRL.SNAPEDGE = 1 ∧ r = false) ∨ (s.get Reg.HKP_CTRL.SNAPEDGE = 2 ∧ r = true)) := by
  repeat' with_reducible apply And.intro
  all_goals first | with_reducible rfl | decide +kernel

theorem witness_SnapshotsAndMidnights_7a : let v : Word := 0; let s : State := named; let u : State := s.storeWord Reg.HKP_SSEL.BANK.addr v.toNat; s.awake = true ∧ u = s.storeWord Reg.HKP_SSEL.BANK.addr v.toNat ∧ u.snapBank (u.get Reg.HKP_SSEL.BANK) = none := by
  repeat' with_reducible apply And.intro
  all_goals first | with_reducible rfl | decide +kernel

theorem witness_SnapshotsAndMidnights_8a : let v : Word := 0xF0000000; let x : Snap := ⟨[1, 2, 3, 4], [(0x10404, 5)]⟩; let s : State := { named with hkp.bank0 := some ⟨[1, 2, 3, 4], [(0x10404, 5)]⟩ }; let u : State := s.storeWord Reg.HKP_SSEL.BANK.addr v.toNat; let o : Nat := u.get Reg.HKP_SSEL.OFFSET / 4 * 4 % 2 ^ Reg.HKP_SSEL.OFFSET.width; let d : Nat := (if u.get Reg.HKP_SSEL.BLOCK = 15 then fieldAt (x.header ++ List.replicate 4 0) o 4 else (lookupKey (if u.get Reg.HKP_SSEL.BLOCK = 1 then 0x10000 + 0x400 * u.get Reg.HKP_SSEL.UNIT + o else if u.get Reg.HKP_SSEL.BLOCK = 7 then 0x70000 + 0x4000 * u.get Reg.HKP_SSEL.UNIT + o else 0x10000 * u.get Reg.HKP_SSEL.BLOCK + o) x.words).getD 0); s.awake = true ∧ u = s.storeWord Reg.HKP_SSEL.BANK.addr v.toNat ∧ u.snapBank (u.get Reg.HKP_SSEL.BANK) = some x ∧ o = u.get Reg.HKP_SSEL.OFFSET / 4 * 4 % 2 ^ Reg.HKP_SSEL.OFFSET.width ∧ d = (if u.get Reg.HKP_SSEL.BLOCK = 15 then fieldAt (x.header ++ List.replicate 4 0) o 4 else (lookupKey (if u.get Reg.HKP_SSEL.BLOCK = 1 then 0x10000 + 0x400 * u.get Reg.HKP_SSEL.UNIT + o else if u.get Reg.HKP_SSEL.BLOCK = 7 then 0x70000 + 0x4000 * u.get Reg.HKP_SSEL.UNIT + o else 0x10000 * u.get Reg.HKP_SSEL.BLOCK + o) x.words).getD 0) := by
  repeat' with_reducible apply And.intro
  all_goals first | with_reducible rfl | decide +kernel

theorem witness_SnapshotsAndMidnights_9a : let v : Word := 0x80000000; let s : State := named; let u : State := s.storeWord Reg.HKP_MIDNS.NS.addr v.toNat; s.awake = true ∧ bit v.toNat 31 = true ∧ u = s.storeWord Reg.HKP_MIDNS.NS.addr v.toNat ∧ (u.mapAt u.now = none ∨ u.inau.force = none) := by
  repeat' with_reducible apply And.intro
  all_goals first | with_reducible rfl | decide +kernel

theorem witness_SnapshotsAndMidnights_9b : let v : Word := 0x80000000; let s : State := { named with time.map := some (0, 0) }; let u : State := s.storeWord Reg.HKP_MIDNS.NS.addr v.toNat; s.awake = true ∧ bit v.toNat 31 = true ∧ u = s.storeWord Reg.HKP_MIDNS.NS.addr v.toNat ∧ (u.mapAt u.now = none ∨ u.inau.force = none) := by
  repeat' with_reducible apply And.intro
  all_goals first | with_reducible rfl | decide +kernel

theorem witness_SnapshotsAndMidnights_10a : let v : Word := 0x80000000; let s : State := duskNode; let u : State := s.storeWord Reg.HKP_MIDNS.NS.addr v.toNat; let m : Int := (u.mapAt u.now).getD 0; let t0 : Int := ofSecNs (u.get Reg.HKP_MIDSECHI.SECHI * 2 ^ 32 + u.get Reg.HKP_MIDSECLO.SECLO) (u.get Reg.HKP_MIDNS.NS); s.awake = true ∧ bit v.toNat 31 = true ∧ u = s.storeWord Reg.HKP_MIDNS.NS.addr v.toNat ∧ u.mapAt u.now = some m ∧ u.inau.force.isSome = true ∧ t0 = ofSecNs (u.get Reg.HKP_MIDSECHI.SECHI * 2 ^ 32 + u.get Reg.HKP_MIDSECLO.SECLO) (u.get Reg.HKP_MIDNS.NS) ∧ wrapT (t0 - m) < 4 * u.tLen := by
  repeat' with_reducible apply And.intro
  all_goals first | with_reducible rfl | decide +kernel

theorem witness_SnapshotsAndMidnights_11a : let v : Word := 0x80000000; let s : State := duskNode.put Reg.HKP_MIDSECLO.SECLO 1; let u : State := s.storeWord Reg.HKP_MIDNS.NS.addr v.toNat; let m : Int := (u.mapAt u.now).getD 0; let t0 : Int := ofSecNs (u.get Reg.HKP_MIDSECHI.SECHI * 2 ^ 32 + u.get Reg.HKP_MIDSECLO.SECLO) (u.get Reg.HKP_MIDNS.NS); let n : Nat := (if u.get Reg.HKP_MIDSTAT.MIDNO = 0xFFFF then 1 else u.get Reg.HKP_MIDSTAT.MIDNO + 1); let d : Midnight := ⟨n, u.uid, t0⟩; let w : State := { (u.put Reg.HKP_MIDSTAT.RES 0).put Reg.HKP_MIDSTAT.MIDNO n with hkp := { u.hkp with mids := u.hkp.mids ++ [d], seen := (u.uid, n) :: u.hkp.seen } }; s.awake = true ∧ bit v.toNat 31 = true ∧ u = s.storeWord Reg.HKP_MIDNS.NS.addr v.toNat ∧ u.mapAt u.now = some m ∧ u.inau.force.isSome = true ∧ t0 = ofSecNs (u.get Reg.HKP_MIDSECHI.SECHI * 2 ^ 32 + u.get Reg.HKP_MIDSECLO.SECLO) (u.get Reg.HKP_MIDNS.NS) ∧ 4 * u.tLen ≤ wrapT (t0 - m) ∧ wrapT (t0 - m) ≤ 16 * 2 ^ 39 ∧ u.hkp.mids.length < 4 ∧ n = (if u.get Reg.HKP_MIDSTAT.MIDNO = 0xFFFF then 1 else u.get Reg.HKP_MIDSTAT.MIDNO + 1) ∧ d = ⟨n, u.uid, t0⟩ ∧ w = { (u.put Reg.HKP_MIDSTAT.RES 0).put Reg.HKP_MIDSTAT.MIDNO n with hkp := { u.hkp with mids := u.hkp.mids ++ [d], seen := (u.uid, n) :: u.hkp.seen } } := by
  repeat' with_reducible apply And.intro
  all_goals first | with_reducible rfl | decide +kernel

theorem witness_SnapshotsAndMidnights_12a : let l : Lane := 0; let s : State := duskNode; let f : Bytes := midnFrame; let p : Bytes := payload f; let m : Midnight := ⟨fieldAt p 2 2, fieldAt p 4 8, ofSecNs (fieldAt p 12 6) (fieldAt p 18 4)⟩; let u : State := { s with hkp.seen := (m.uid, m.no) :: s.hkp.seen }; s.awake = true ∧ s.laneUp l = true ∧ headerCheck f = .ok ∧ hCls f = .mgmt ∧ hType f = 0x19 ∧ hLen f = 32 ∧ p = payload f ∧ byteAt p 0 = 1 ∧ (s.vend (endOf l)).isolated = false ∧ s.breakEnd ≠ some (endOf l) ∧ s.midnGen f = true ∧ m = ⟨fieldAt p 2 2, fieldAt p 4 8, ofSecNs (fieldAt p 12 6) (fieldAt p 18 4)⟩ ∧ s.hkp.seen.contains (m.uid, m.no) = false ∧ u = { s with hkp.seen := (m.uid, m.no) :: s.hkp.seen } := by
  repeat' with_reducible apply And.intro
  all_goals first | with_reducible rfl | decide +kernel

theorem witness_SnapshotsAndMidnights_13a : let m : Midnight := ⟨1, 7, 900⟩; let s : State := named; (s.mapAt s.now = none ∨ (s.mapAt s.now).any (fun t => decide (0 < wrapT (m.target - t))) = true) ∧ s.hkp.mids.length < 4 := by
  repeat' with_reducible apply And.intro
  all_goals first | with_reducible rfl | decide +kernel

theorem witness_SnapshotsAndMidnights_13b : let m : Midnight := ⟨1, 7, 16000000000⟩; let s : State := { named with time.map := some (0, 0) }; (s.mapAt s.now = none ∨ (s.mapAt s.now).any (fun t => decide (0 < wrapT (m.target - t))) = true) ∧ s.hkp.mids.length < 4 := by
  repeat' with_reducible apply And.intro
  all_goals first | with_reducible rfl | decide +kernel

theorem witness_SnapshotsAndMidnights_14a : let m : Midnight := ⟨1, 7, 900⟩; let s : State := { named with hkp.mids := [⟨1, 7, 1⟩, ⟨2, 7, 2⟩, ⟨3, 7, 3⟩, ⟨4, 7, 4⟩] }; (s.mapAt s.now = none ∨ (s.mapAt s.now).any (fun t => decide (0 < wrapT (m.target - t))) = true) ∧ 4 ≤ s.hkp.mids.length := by
  repeat' with_reducible apply And.intro
  all_goals first | with_reducible rfl | decide +kernel

theorem witness_SnapshotsAndMidnights_15a : let m : Midnight := ⟨1, 7, 900⟩; let s : State := { duskNode with hkp.mids := [⟨1, 7, 900⟩] }; let x : Int := (s.mapAt s.now).getD 0; let d : Int := wrapT (m.target - x); let u : State := { s.reach ((s.now : Int) + d).toNat with hkp.mids := s.hkp.mids.filter fun k => max 0 d < wrapT (k.target - x) }; s.awake = true ∧ s.mapAt s.now = some x ∧ s.hkp.mids.contains m = true ∧ d = wrapT (m.target - x) ∧ (∀ k ∈ s.hkp.mids, d ≤ wrapT (k.target - x)) ∧ u = { s.reach ((s.now : Int) + d).toNat with hkp.mids := s.hkp.mids.filter fun k => max 0 d < wrapT (k.target - x) } := by
  repeat' with_reducible apply And.intro
  all_goals first | with_reducible rfl | decide +kernel

theorem witness_SnapshotsAndMidnights_15b : let m : Midnight := ⟨2, 7, 16000000000⟩; let s : State := { named with time.map := some (0, 0), hkp.mids := [⟨1, 7, 32000000000⟩, ⟨2, 7, 16000000000⟩] }; let x : Int := (s.mapAt s.now).getD 0; let d : Int := wrapT (m.target - x); let u : State := { s.reach ((s.now : Int) + d).toNat with hkp.mids := s.hkp.mids.filter fun k => max 0 d < wrapT (k.target - x) }; s.awake = true ∧ s.mapAt s.now = some x ∧ s.hkp.mids.contains m = true ∧ d = wrapT (m.target - x) ∧ (∀ k ∈ s.hkp.mids, d ≤ wrapT (k.target - x)) ∧ u = { s.reach ((s.now : Int) + d).toNat with hkp.mids := s.hkp.mids.filter fun k => max 0 d < wrapT (k.target - x) } := by
  repeat' with_reducible apply And.intro
  all_goals first | with_reducible rfl | decide +kernel

theorem witness_SnapshotsAndMidnights_16a : let s : State := named; s.awake = true ∧ (s.mapAt s.now = none ∨ s.hkp.mids = []) := by
  repeat' with_reducible apply And.intro
  all_goals first | with_reducible rfl | decide +kernel

theorem witness_SnapshotsAndMidnights_17a : let k : Nat := 4; let m : Option Midnight := some ⟨1, 7, 900⟩; let x : Snap := ⟨List.replicate 36 0, []⟩; let s : State := { named with hkp.bank0 := some ⟨List.replicate 36 0, []⟩, hkp.capAt := some named.now }; let h : Bytes := s.snapHeader k m; s.poolSumOk = true ∧ s.snapBank s.newestBank = some x ∧ s.sameCapture = true ∧ h = s.snapHeader k m := by
  repeat' with_reducible apply And.intro
  all_goals first | with_reducible rfl | decide +kernel

theorem witness_SnapshotsAndMidnights_18a : let v : Word := 5; let s : State := named; let u : State := s.storeWord Reg.HKP_MIDNS.NS.addr v.toNat; s.awake = true ∧ bit v.toNat 31 = false ∧ u = s.storeWord Reg.HKP_MIDNS.NS.addr v.toNat := by
  repeat' with_reducible apply And.intro
  all_goals first | with_reducible rfl | decide +kernel

theorem witness_SnapshotsAndMidnights_19a : let v : Word := 0x80000000; let s : State := duskNode.put Reg.HKP_MIDSECLO.SECLO 20000; let u : State := s.storeWord Reg.HKP_MIDNS.NS.addr v.toNat; let m : Int := (u.mapAt u.now).getD 0; let t0 : Int := ofSecNs (u.get Reg.HKP_MIDSECHI.SECHI * 2 ^ 32 + u.get Reg.HKP_MIDSECLO.SECLO) (u.get Reg.HKP_MIDNS.NS); s.awake = true ∧ bit v.toNat 31 = true ∧ u = s.storeWord Reg.HKP_MIDNS.NS.addr v.toNat ∧ u.mapAt u.now = some m ∧ u.inau.force.isSome = true ∧ t0 = ofSecNs (u.get Reg.HKP_MIDSECHI.SECHI * 2 ^ 32 + u.get Reg.HKP_MIDSECLO.SECLO) (u.get Reg.HKP_MIDNS.NS) ∧ 4 * u.tLen ≤ wrapT (t0 - m) ∧ 16 * 2 ^ 39 < wrapT (t0 - m) := by
  repeat' with_reducible apply And.intro
  all_goals first | with_reducible rfl | decide +kernel

theorem witness_SnapshotsAndMidnights_20a : let v : Word := 0x80000000; let s : State := { duskNode.put Reg.HKP_MIDSECLO.SECLO 1 with hkp.mids := [⟨1, 7, 1⟩, ⟨2, 7, 2⟩, ⟨3, 7, 3⟩, ⟨4, 7, 4⟩] }; let u : State := s.storeWord Reg.HKP_MIDNS.NS.addr v.toNat; let m : Int := (u.mapAt u.now).getD 0; let t0 : Int := ofSecNs (u.get Reg.HKP_MIDSECHI.SECHI * 2 ^ 32 + u.get Reg.HKP_MIDSECLO.SECLO) (u.get Reg.HKP_MIDNS.NS); s.awake = true ∧ bit v.toNat 31 = true ∧ u = s.storeWord Reg.HKP_MIDNS.NS.addr v.toNat ∧ u.mapAt u.now = some m ∧ u.inau.force.isSome = true ∧ t0 = ofSecNs (u.get Reg.HKP_MIDSECHI.SECHI * 2 ^ 32 + u.get Reg.HKP_MIDSECLO.SECLO) (u.get Reg.HKP_MIDNS.NS) ∧ 4 * u.tLen ≤ wrapT (t0 - m) ∧ wrapT (t0 - m) ≤ 16 * 2 ^ 39 ∧ 4 ≤ u.hkp.mids.length := by
  repeat' with_reducible apply And.intro
  all_goals first | with_reducible rfl | decide +kernel

theorem witness_SnapshotsAndMidnights_21a : let m : Midnight := ⟨1, 7, 0⟩; let s : State := { named with time.map := some (0, 0) }; let x : Int := (s.mapAt s.now).getD 0; s.mapAt s.now = some x ∧ wrapT (m.target - x) ≤ 0 := by
  repeat' with_reducible apply And.intro
  all_goals first | with_reducible rfl | decide +kernel

theorem witness_SnapshotsAndMidnights_22a : let l : Lane := 0; let f : Bytes := []; let s : State := named; s.awake = true ∧ (s.laneUp l = false ∨ headerCheck f ≠ .ok ∨ hCls f ≠ .mgmt ∨ hType f ≠ 0x19 ∨ hLen f ≠ 32 ∨ byteAt (payload f) 0 ≠ 1) := by
  repeat' with_reducible apply And.intro
  all_goals first | with_reducible rfl | decide +kernel

theorem witness_SnapshotsAndMidnights_23a : let l : Lane := 0; let s : State := { duskNode with inau := { duskNode.inau with ends := duskNode.inau.ends.map fun e => { e with isolated := true } } }; let f : Bytes := midnFrame; s.awake = true ∧ s.laneUp l = true ∧ headerCheck f = .ok ∧ hCls f = .mgmt ∧ hType f = 0x19 ∧ hLen f = 32 ∧ byteAt (payload f) 0 = 1 ∧ (s.vend (endOf l)).isolated = true := by
  repeat' with_reducible apply And.intro
  all_goals first | with_reducible rfl | decide +kernel

theorem witness_SnapshotsAndMidnights_24a : let l : Lane := 0; let f : Bytes := midnFrame; let p : Bytes := payload f; let m : Midnight := ⟨fieldAt p 2 2, fieldAt p 4 8, ofSecNs (fieldAt p 12 6) (fieldAt p 18 4)⟩; let s : State := { duskNode with hkp.seen := [(m.uid, m.no)] }; s.awake = true ∧ s.laneUp l = true ∧ headerCheck f = .ok ∧ hCls f = .mgmt ∧ hType f = 0x19 ∧ hLen f = 32 ∧ p = payload f ∧ byteAt p 0 = 1 ∧ (s.vend (endOf l)).isolated = false ∧ s.breakEnd ≠ some (endOf l) ∧ m = ⟨fieldAt p 2 2, fieldAt p 4 8, ofSecNs (fieldAt p 12 6) (fieldAt p 18 4)⟩ ∧ (s.midnGen f = false ∨ s.hkp.seen.contains (m.uid, m.no) = true) := by
  repeat' with_reducible apply And.intro
  all_goals first | with_reducible rfl | decide +kernel

theorem witness_SnapshotsAndMidnights_25a : let l : Lane := 0; let f : Bytes := midnFrame; let s : State := (duskNode.put Reg.INAU_POS.POS 1 : State) |> fun d => { d with inau.force := some { aloneHeld with roster := { aloneHeld.roster with loop := true, entries := [⟨7, 1, 1, 0, 100⟩, ⟨3, 2, 1, 0, 100⟩, ⟨9, 3, 1, 0, 100⟩] } } }; s.awake = true ∧ s.laneUp l = true ∧ headerCheck f = .ok ∧ hCls f = .mgmt ∧ hType f = 0x19 ∧ hLen f = 32 ∧ byteAt (payload f) 0 = 1 ∧ (s.vend (endOf l)).isolated = false ∧ s.breakEnd = some (endOf l) := by
  repeat' with_reducible apply And.intro
  all_goals first | with_reducible rfl | decide +kernel

theorem witness_Housekeeping_1a : let j : Int := 200; let a : Nat := 2400; let b : Nat := 3300; let c : Nat := 3300; let d : Nat := 880; let e : Nat := 256; let s : State := named; s.awake = true ∧ s.actTurn (.tel ⟨j, a, b, c, d, e⟩) = true := by
  repeat' with_reducible apply And.intro
  all_goals first | with_reducible rfl | decide +kernel

theorem witness_Housekeeping_2a : let j : Int := 200; let a : Nat := 2400; let b : Nat := 3300; let c : Nat := 3300; let e : Nat := 256; let s : State := named; let m : Nat := paceMv (s.get Reg.GLB_PACE.ACT); let d : Nat := m; let u : State := s.telemetry ⟨200, 2400, 3300, 3300, d, 256⟩; 0 ≤ j ∧ j < 1000 ∧ j ≤ signed 16 (s.get Reg.HKP_TLIM.THI) ∧ 1700 ≤ a ∧ a ≤ 3600 ∧ 1700 ≤ b ∧ b ≤ 3600 ∧ 1700 ≤ c ∧ c ≤ 3600 ∧ m = paceMv (s.get Reg.GLB_PACE.ACT) ∧ 97 * m ≤ 100 * d ∧ 100 * d ≤ 103 * m ∧ 180 ≤ e ∧ e < 2 ^ 9 ∧ e ≤ s.get Reg.HKP_TLIM.SHI ∧ s.hkp.alarms = [] ∧ u = s.telemetry ⟨j, a, b, c, d, e⟩ := by
  repeat' with_reducible apply And.intro
  all_goals first | with_reducible rfl | decide +kernel

theorem witness_Housekeeping_3a : let j : Int := 200; let a : Nat := 2400; let b : Nat := 3300; let c : Nat := 3300; let d : Nat := 880; let e : Nat := 256; let k : Act := .tel ⟨200, 2400, 3300, 3300, 880, 256⟩; let s : State := { named with hkp.running := [.lcal 0] }; s.awake = true ∧ k = .tel ⟨j, a, b, c, d, e⟩ ∧ s.actTurn k = false ∧ s.hkp.running.contains k = false ∧ s.hkp.waiting.contains k = false := by
  repeat' with_reducible apply And.intro
  all_goals first | with_reducible rfl | decide +kernel

theorem witness_Housekeeping_4a : let q : Fin 6 := 0; let k : Nat := 1; let a : Nat := 9; let s : State := { named with hkp.alarms := [(1, some 9)] }; s.awake = true ∧ (s.hkp.alarms.find? fun a => a.1 = q.val + 1) = some (k, some a) := by
  repeat' with_reducible apply And.intro
  all_goals first | with_reducible rfl | decide +kernel

theorem witness_Housekeeping_5a : let r : Fin 8 := 1; let a : BitVec 23 := 0; let s : State := named.put Reg.HKP_SCRUB.SEN 1; s.awake = true ∧ s.flag Reg.HKP_SCRUB.SEN = true := by
  repeat' with_reducible apply And.intro
  all_goals first | with_reducible rfl | decide +kernel

theorem witness_Housekeeping_6a : let r : Fin 8 := 3; let a : BitVec 23 := 5; let s : State := named.put Reg.HKP_SCRUB.SEN 1; s.awake = true ∧ s.flag Reg.HKP_SCRUB.SEN = true ∧ (r.val = 0 ∨ 2 < r.val ∨ s.bankSame (r.val - 1) = false) := by
  repeat' with_reducible apply And.intro
  all_goals first | with_reducible rfl | decide +kernel

theorem witness_Housekeeping_6b : let r : Fin 8 := 2; let a : BitVec 23 := 5; let s : State := named.put Reg.HKP_SCRUB.SEN 1; s.awake = true ∧ s.flag Reg.HKP_SCRUB.SEN = true ∧ (r.val = 0 ∨ 2 < r.val ∨ s.bankSame (r.val - 1) = false) := by
  repeat' with_reducible apply And.intro
  all_goals first | with_reducible rfl | decide +kernel

theorem witness_Housekeeping_7a : let r : Fin 8 := 3; let a : BitVec 23 := 5; let e : Fin 3 := 2; let s : State := named.put Reg.HKP_SCRUB.SEN 0; s.awake = true ∧ s.flag Reg.HKP_SCRUB.SEN = false := by
  repeat' with_reducible apply And.intro
  all_goals first | with_reducible rfl | decide +kernel

theorem witness_Housekeeping_8a : let b : Nat := 0; let o : Nat := 64; let s : State := { named with hkp.running := [.repair 0 64] }; let u : State := s.onBank b (fun k => { k with exec := k.exec.copyRange k.mram o 64 }); s.awake = true ∧ (s.hkp.running.find? fun a => a.kind = 3) = some (.repair b o) ∧ u = s.onBank b (fun k => { k with exec := k.exec.copyRange k.mram o 64 }) := by
  repeat' with_reducible apply And.intro
  all_goals first | with_reducible rfl | decide +kernel

theorem witness_Housekeeping_9a : let n : Lane := 0; let r : Int := 0; let k : Act := .lcal 0; let s : State := { named.put Reg.HKP_TEMP.TJ 200 with hkp.cals := (Vector.replicate 4 {}).setIfInBounds 0 { result := some 0 } }; s.awake = true ∧ k = .lcal n.val ∧ (s.cal n).result = some r ∧ s.calSusp n = false ∧ 80 ≤ (s.tjNow - (s.cal n).tcal).natAbs ∧ s.hkp.running.contains k = false ∧ s.hkp.waiting.contains k = false ∧ s.actTurn k = true := by
  repeat' with_reducible apply And.intro
  all_goals first | with_reducible rfl | decide +kernel

theorem witness_Housekeeping_10a : let n : Lane := 0; let s : State := named; s.awake = true ∧ (s.cal n).result = none := by
  repeat' with_reducible apply And.intro
  all_goals first | with_reducible rfl | decide +kernel

theorem witness_Housekeeping_11a : let v : Word := 4; let s : State := named; let u : State := s.storeWord Reg.HKP_CTRL.EN.addr v.toNat; let w : State := (if bit v.toNat 1 then u.snapshot 1 none else u); let x : State := (if bit v.toNat 2 then w.calAll else w); s.awake = true ∧ u = s.storeWord Reg.HKP_CTRL.EN.addr v.toNat ∧ w = (if bit v.toNat 1 then u.snapshot 1 none else u) ∧ x = (if bit v.toNat 2 then w.calAll else w) := by
  repeat' with_reducible apply And.intro
  all_goals first | with_reducible rfl | decide +kernel

theorem witness_Housekeeping_12a : let n : Lane := 0; let r : Int := 5; let s : State := named; s.awake = true ∧ (s.cal n).result = none ∧ s.pwr.paceWait = false ∧ (s.laneSt n ≠ .down ∨ s.flag (Reg.LANE_STAT.SIGDET.at n) = false) := by
  repeat' with_reducible apply And.intro
  all_goals first | with_reducible rfl | decide +kernel

theorem witness_Housekeeping_13a : let n : Lane := 0; let r : Int := 500; let q : Int := 0; let s : State := { named with hkp := { named.hkp with running := [.lcal 0], cals := (Vector.replicate 4 {}).setIfInBounds 0 { result := some 0 } } }; let u : State := s.endAct (.lcal n.val); s.awake = true ∧ (s.cal n).result = some q ∧ s.hkp.running.contains (.lcal n.val) = true ∧ u = s.endAct (.lcal n.val) ∧ 80 < (r - q).natAbs ∧ (u.cal n).bad = 0 := by
  repeat' with_reducible apply And.intro
  all_goals first | with_reducible rfl | decide +kernel

theorem witness_Housekeeping_14a : let s : State := named; let u : State := s.reachOp ((s.opTime / State.patrolPeriod + 1) * State.patrolPeriod % 2 ^ 40); let w : State := { u with hkp.patrolAt := u.opTime }; s.awake = true ∧ u = s.reachOp ((s.opTime / State.patrolPeriod + 1) * State.patrolPeriod % 2 ^ 40) ∧ w = { u with hkp.patrolAt := u.opTime } := by
  repeat' with_reducible apply And.intro
  all_goals first | with_reducible rfl | decide +kernel

theorem witness_Housekeeping_15a : let v : Word := 8; let s : State := named; let u : State := s.storeWord Reg.HKP_CTRL.EN.addr v.toNat; let w : State := (if bit v.toNat 1 then u.snapshot 1 none else u); let x : State := (if bit v.toNat 2 then w.calAll else w); s.awake = true ∧ u = s.storeWord Reg.HKP_CTRL.EN.addr v.toNat ∧ w = (if bit v.toNat 1 then u.snapshot 1 none else u) ∧ x = (if bit v.toNat 2 then w.calAll else w) := by
  repeat' with_reducible apply And.intro
  all_goals first | with_reducible rfl | decide +kernel

theorem witness_Housekeeping_16a : let g : Fin 12 := 0; let l : Nat := 0; let c : Nat := 3; let s : State := { named with hkp.running := [.mpat] }; s.awake = true ∧ s.hkp.running.contains .mpat = true ∧ s.hkp.waiting = [] := by
  repeat' with_reducible apply And.intro
  all_goals first | with_reducible rfl | decide +kernel

theorem witness_Housekeeping_17a : let g : Fin 12 := 2; let l : Nat := 0; let c : Nat := 0; let s : State := { named with hkp.running := [.mpat] }; s.awake = true ∧ s.hkp.running.contains .mpat = true ∧ s.hkp.waiting = [] ∧ g.val = 2 := by
  repeat' with_reducible apply And.intro
  all_goals first | with_reducible rfl | decide +kernel

theorem witness_Housekeeping_18a : let a : Act := .mpat; let s : State := { named with hkp.waiting := [.mpat] }; s.awake = true ∧ s.nextAct = some a ∧ a = .mpat := by
  repeat' with_reducible apply And.intro
  all_goals first | with_reducible rfl | decide +kernel

theorem witness_Housekeeping_19a : let x : Telem := ⟨200, 2400, 3300, 3300, 880, 256⟩; let s : State := { named with hkp.waiting := [.tel ⟨200, 2400, 3300, 3300, 880, 256⟩] }; let u : State := { s with hkp.waiting := dropAct (.tel x) s.hkp.waiting }; s.awake = true ∧ s.nextAct = some (.tel x) ∧ u = { s with hkp.waiting := dropAct (.tel x) s.hkp.waiting } := by
  repeat' with_reducible apply And.intro
  all_goals first | with_reducible rfl | decide +kernel

theorem witness_Housekeeping_20a : let s : State := named; s.awake = true ∧ s.nextAct = none := by
  repeat' with_reducible apply And.intro
  all_goals first | with_reducible rfl | decide +kernel

theorem witness_Housekeeping_21a : let y : Nat × Bool × Nat := (2, true, 1000); let x : Telem := ⟨2000, 1000, 3300, 3300, 880, 256⟩; let s : State := named; y ∈ s.telOutside x ∧ y.2.1 = true ∧ (s.hkp.alarms.find? fun a => a.1 = y.1) = none := by
  repeat' with_reducible apply And.intro
  all_goals first | with_reducible rfl | decide +kernel

theorem witness_Housekeeping_22a : let k : Nat := 2; let y : Nat × Bool × Nat := (2, true, 1000); let t : Option Nat := some 9; let s : State := { named with hkp.alarms := [(2, some 9)] }; y.2.1 = true ∧ (s.hkp.alarms.find? fun a => a.1 = y.1) = some (k, t) := by
  repeat' with_reducible apply And.intro
  all_goals first | with_reducible rfl | decide +kernel

theorem witness_Housekeeping_23a : let k : Nat := 2; let y : Nat × Bool × Nat := (2, false, 2400); let s : State := { named with hkp.alarms := [(2, none)] }; y.2.1 = false ∧ (s.hkp.alarms.find? fun a => a.1 = y.1) = some (k, none) := by
  repeat' with_reducible apply And.intro
  all_goals first | with_reducible rfl | decide +kernel

theorem witness_Housekeeping_24a : let q : Fin 6 := 0; let s : State := named; s.awake = true ∧ (s.hkp.alarms.find? fun a => a.1 = q.val + 1) = none := by
  repeat' with_reducible apply And.intro
  all_goals first | with_reducible rfl | decide +kernel

theorem witness_Housekeeping_25a : let q : Fin 6 := 1; let k : Nat := 2; let s : State := { named with hkp.alarms := [(2, none)] }; s.awake = true ∧ (s.hkp.alarms.find? fun a => a.1 = q.val + 1) = some (k, none) := by
  repeat' with_reducible apply And.intro
  all_goals first | with_reducible rfl | decide +kernel

theorem witness_Housekeeping_26a : let r : Fin 8 := 1; let a : BitVec 23 := 0; let s : State := named; s.awake = true := by
  decide +kernel

theorem witness_Housekeeping_27a : let r : Fin 8 := 2; let a : BitVec 23 := 100; let s : State := { named.put Reg.HKP_SCRUB.SEN 1 with prg.b.valid := true, prg.b.stored := true }; s.awake = true ∧ s.flag Reg.HKP_SCRUB.SEN = true ∧ (r.val = 1 ∨ r.val = 2) ∧ s.bankSame (r.val - 1) = true := by
  repeat' with_reducible apply And.intro
  all_goals first | with_reducible rfl | decide +kernel

theorem witness_Housekeeping_28a : let s : State := named; s.awake = true ∧ (s.hkp.running.find? fun a => a.kind = 3) = none := by
  repeat' with_reducible apply And.intro
  all_goals first | with_reducible rfl | decide +kernel

theorem witness_Housekeeping_29a : let n : Lane := 0; let r : Int := 0; let s : State := { named with hkp.cals := (Vector.replicate 4 {}).setIfInBounds 0 { result := some 0 } }; s.awake = true ∧ (s.cal n).result = some r ∧ (s.calSusp n = true ∨ (s.tjNow - (s.cal n).tcal).natAbs < 80) := by
  repeat' with_reducible apply And.intro
  all_goals first | with_reducible rfl | decide +kernel

theorem witness_Housekeeping_30a : let n : Lane := 0; let r : Int := 0; let s : State := { named.put Reg.HKP_TEMP.TJ 200 with hkp.cals := (Vector.replicate 4 {}).setIfInBounds 0 { result := some 0 } }; s.awake = true ∧ (s.cal n).result = some r ∧ s.calSusp n = false ∧ 80 ≤ (s.tjNow - (s.cal n).tcal).natAbs := by
  repeat' with_reducible apply And.intro
  all_goals first | with_reducible rfl | decide +kernel

theorem witness_Housekeeping_31a : let n : Lane := 0; let r : Int := 5; let s : State := named.put Reg.LANE_STAT.SIGDET 1; s.awake = true ∧ (s.cal n).result = none ∧ s.pwr.paceWait = false ∧ s.laneSt n = .down ∧ s.flag (Reg.LANE_STAT.SIGDET.at n) = true := by
  repeat' with_reducible apply And.intro
  all_goals first | with_reducible rfl | decide +kernel

theorem witness_Housekeeping_32a : let n : Lane := 0; let r : Int := 80; let q : Int := 0; let s : State := { named with hkp := { named.hkp with running := [.lcal 0], cals := (Vector.replicate 4 {}).setIfInBounds 0 { result := some 0 } } }; let k : Nat := s.freshFree.1; let v : State := s.freshFree.2; let u : State := State.endAct { v with hkp.pads := some (k % 2 ^ 16, k / 2 ^ 16 % 2 ^ 16) } (.lcal n.val); let w : State := u.onCal n.val (fun c => { c with result := some r, target := r, tcal := u.tjNow, bad := 0 }); s.awake = true ∧ (s.cal n).result = some q ∧ s.hkp.running.contains (.lcal n.val) = true ∧ s.freshFree = (k, v) ∧ u = State.endAct { v with hkp.pads := some (k % 2 ^ 16, k / 2 ^ 16 % 2 ^ 16) } (.lcal n.val) ∧ (r - q).natAbs ≤ 80 ∧ w = u.onCal n.val (fun c => { c with result := some r, target := r, tcal := u.tjNow, bad := 0 }) := by
  repeat' with_reducible apply And.intro
  all_goals first | with_reducible rfl | decide +kernel

theorem witness_Housekeeping_33a : let n : Lane := 0; let r : Int := 500; let q : Int := 0; let s : State := { named with hkp := { named.hkp with running := [.lcal 0], cals := (Vector.replicate 4 {}).setIfInBounds 0 { result := some 0, bad := 1 } } }; let k : Nat := s.freshFree.1; let v : State := s.freshFree.2; let u : State := State.endAct { v with hkp.pads := some (k % 2 ^ 16, k / 2 ^ 16 % 2 ^ 16) } (.lcal n.val); let w : State := u.onCal n.val (fun c => { c with bad := c.bad + 1, tcal := u.tjNow }); s.awake = true ∧ (s.cal n).result = some q ∧ s.hkp.running.contains (.lcal n.val) = true ∧ s.freshFree = (k, v) ∧ u = State.endAct { v with hkp.pads := some (k % 2 ^ 16, k / 2 ^ 16 % 2 ^ 16) } (.lcal n.val) ∧ 80 < (r - q).natAbs ∧ 0 < (u.cal n).bad ∧ w = u.onCal n.val (fun c => { c with bad := c.bad + 1, tcal := u.tjNow }) := by
  repeat' with_reducible apply And.intro
  all_goals first | with_reducible rfl | decide +kernel

theorem witness_Housekeeping_34a : let n : Lane := 0; let r : Int := 5; let q : Int := 0; let s : State := { named with hkp.cals := (Vector.replicate 4 {}).setIfInBounds 0 { result := some 0 } }; let k : Nat := s.freshFree.1; let v : State := s.freshFree.2; s.awake = true ∧ (s.cal n).result = some q ∧ s.hkp.running.contains (.lcal n.val) = false ∧ s.freshFree = (k, v) := by
  repeat' with_reducible apply And.intro
  all_goals first | with_reducible rfl | decide +kernel

theorem witness_Housekeeping_35a : let a : Act := .mpat; let s : State := { named with hkp.waiting := [.mpat] }; s.hkp.running.contains a = true ∨ s.hkp.waiting.contains a = true := by
  decide +kernel

theorem witness_Housekeeping_36a : let a : Act := .mpat; let s : State := named; s.hkp.running.contains a = false ∧ s.hkp.waiting.contains a = false ∧ s.actTurn a = true := by
  repeat' with_reducible apply And.intro
  all_goals first | with_reducible rfl | decide +kernel

theorem witness_Housekeeping_37a : let a : Act := .tel ⟨200, 2400, 3300, 3300, 880, 256⟩; let s : State := { named with hkp.running := [.lcal 0] }; s.hkp.running.contains a = false ∧ s.hkp.waiting.contains a = false ∧ s.actTurn a = false := by
  repeat' with_reducible apply And.intro
  all_goals first | with_reducible rfl | decide +kernel

theorem witness_Housekeeping_38a : let g : Fin 12 := 3; let l : Nat := 0; let c : Nat := 3; let b : Bool := true; let e : Bool := true; let s : State := named; s.awake = true ∧ s.hkp.running.contains .mpat = false := by
  repeat' with_reducible apply And.intro
  all_goals first | with_reducible rfl | decide +kernel

theorem witness_Housekeeping_39a : let g : Fin 12 := 3; let l : Nat := 0; let c : Nat := 3; let b : Bool := true; let s : State := { named with hkp.running := [.mpat] }; let u : State := s.bumpBy Reg.HKP_MPATCOR.COUNT c; let w : State := (if b then (((u.mramBad g.val l).bump Reg.HKP_MPATUNC.COUNT).raise Reg.HKP_IRQ.MPATUNC).record 0x0E12 (natBe 4 g.val ++ natBe 4 l) else u); s.awake = true ∧ s.hkp.running.contains .mpat = true ∧ u = s.bumpBy Reg.HKP_MPATCOR.COUNT c ∧ w = (if b then (((u.mramBad g.val l).bump Reg.HKP_MPATUNC.COUNT).raise Reg.HKP_IRQ.MPATUNC).record 0x0E12 (natBe 4 g.val ++ natBe 4 l) else u) := by
  repeat' with_reducible apply And.intro
  all_goals first | with_reducible rfl | decide +kernel

theorem witness_Housekeeping_40a : let g : Fin 12 := 8; let l : Nat := 0; let c : Nat := 3; let b : Bool := true; let s : State := { named with hkp.running := [.mpat] }; let u : State := s.bumpBy Reg.HKP_MPATCOR.COUNT c; let w : State := (if b then (((u.mramBad g.val l).bump Reg.HKP_MPATUNC.COUNT).raise Reg.HKP_IRQ.MPATUNC).record 0x0E12 (natBe 4 g.val ++ natBe 4 l) else u); s.awake = true ∧ s.hkp.running.contains .mpat = true ∧ u = s.bumpBy Reg.HKP_MPATCOR.COUNT c ∧ w = (if b then (((u.mramBad g.val l).bump Reg.HKP_MPATUNC.COUNT).raise Reg.HKP_IRQ.MPATUNC).record 0x0E12 (natBe 4 g.val ++ natBe 4 l) else u) := by
  repeat' with_reducible apply And.intro
  all_goals first | with_reducible rfl | decide +kernel

theorem witness_Housekeeping_40b : let g : Fin 12 := 8; let l : Nat := 0; let c : Nat := 3; let b : Bool := false; let s : State := { named with hkp.running := [.mpat], hkp.waiting := [.store] }; let u : State := s.bumpBy Reg.HKP_MPATCOR.COUNT c; let w : State := (if b then (((u.mramBad g.val l).bump Reg.HKP_MPATUNC.COUNT).raise Reg.HKP_IRQ.MPATUNC).record 0x0E12 (natBe 4 g.val ++ natBe 4 l) else u); s.awake = true ∧ s.hkp.running.contains .mpat = true ∧ u = s.bumpBy Reg.HKP_MPATCOR.COUNT c ∧ w = (if b then (((u.mramBad g.val l).bump Reg.HKP_MPATUNC.COUNT).raise Reg.HKP_IRQ.MPATUNC).record 0x0E12 (natBe 4 g.val ++ natBe 4 l) else u) := by
  repeat' with_reducible apply And.intro
  all_goals first | with_reducible rfl | decide +kernel

theorem witness_Housekeeping_42a : let a : Act := .mpat; let s : State := { named with hkp.waiting := [.mpat] }; s.awake = true ∧ s.nextAct = some a ∧ a.kind ≠ 0 := by
  repeat' with_reducible apply And.intro
  all_goals first | with_reducible rfl | decide +kernel

theorem witness_Resets_3a : let f : Fld := Reg.LANE_STAT.SIGDET; let s : State := named; f.key ≠ Reg.GLB_STAT.NFAULT.key ∧ f.key ≠ Reg.CMD_IRQ.CPL.key ∧ f.key ≠ Reg.GLB_RST.KIND.key ∧ f.key ≠ Reg.GLB_RST.WARMCNT.key := by
  repeat' with_reducible apply And.intro
  all_goals first | with_reducible rfl | decide +kernel

theorem witness_Resets_3b : let f : Fld := Reg.GLB_STRAP.TWIN_HALF; let s : State := named; f.key ≠ Reg.GLB_STAT.NFAULT.key ∧ f.key ≠ Reg.CMD_IRQ.CPL.key ∧ f.key ≠ Reg.GLB_RST.KIND.key ∧ f.key ≠ Reg.GLB_RST.WARMCNT.key := by
  repeat' with_reducible apply And.intro
  all_goals first | with_reducible rfl | decide +kernel

theorem witness_Resets_3c : let f : Fld := Reg.GLB_REG.VIOOK; let s : State := named; f.key ≠ Reg.GLB_STAT.NFAULT.key ∧ f.key ≠ Reg.CMD_IRQ.CPL.key ∧ f.key ≠ Reg.GLB_RST.KIND.key ∧ f.key ≠ Reg.GLB_RST.WARMCNT.key := by
  repeat' with_reducible apply And.intro
  all_goals first | with_reducible rfl | decide +kernel

theorem witness_Resets_4a : let a : Fin 4 := 2; let b : Fin 2 := 1; let c : Fin 4 := 0; let l : Flash := ⟨[], []⟩; let k : Nat := 1; let s : State := { named with pwr.rst := some 1 }; s.pwr.rst = some k ∧ s.pwr.therm = false := by
  repeat' with_reducible apply And.intro
  all_goals first | with_reducible rfl | decide +kernel

theorem witness_Resets_5a : let a : Nat := 2; let b : Nat := 1; let c : Nat := 0; let s : State := named; a < 4 ∧ b < 2 ∧ c < 4 := by
  repeat' with_reducible apply And.intro
  all_goals first | with_reducible rfl | decide +kernel

theorem witness_Resets_6a : let s : State := named; s.active = true ∧ s.pwr.hold = none := by
  repeat' with_reducible apply And.intro
  all_goals first | with_reducible rfl | decide +kernel

theorem witness_Resets_7a : let s : State := asleep; s.power ≠ .active := by
  decide +kernel

theorem witness_Resets_8a : let s : State := named; s.active = true ∧ s.pwr.hold = none := by
  repeat' with_reducible apply And.intro
  all_goals first | with_reducible rfl | decide +kernel

theorem witness_Resets_9a : let s : State := named; s.active = true ∧ s.pwr.hold = none := by
  repeat' with_reducible apply And.intro
  all_goals first | with_reducible rfl | decide +kernel

theorem witness_Resets_10a : let h : Nat × Nat := (2, 900); let s : State := { named with pwr.hold := some (2, 900) }; s.active = true ∧ s.pwr.hold = some h := by
  repeat' with_reducible apply And.intro
  all_goals first | with_reducible rfl | decide +kernel

theorem witness_Resets_11a : let k : Nat := 3; let t : Nat := 900; let s : State := { named with pwr.hold := some (3, 900) }; let u : State := (if s.stagingDone then s else s.reach t); s.awake = true ∧ s.pwr.hold = some (k, t) ∧ k < 8 ∧ u = (if s.stagingDone then s else s.reach t) := by
  repeat' with_reducible apply And.intro
  all_goals first | with_reducible rfl | decide +kernel

theorem witness_Resets_12a : let k : Nat := 5; let s : State := { named with pwr.rst := some 5, pwr.therm := true }; s.pwr.rst = some k ∧ k ≠ 1 ∧ s.pwr.therm = true ∧ s.pwr.low = false := by
  repeat' with_reducible apply And.intro
  all_goals first | with_reducible rfl | decide +kernel

theorem witness_Resets_14a : let s : State := { named with pwr.hold := some (3, 900) }; s.active = true ∧ s.pwr.hold.isSome = true := by
  repeat' with_reducible apply And.intro
  all_goals first | with_reducible rfl | decide +kernel

theorem witness_Resets_15a : let s : State := asleep; s.active = false := by
  decide +kernel

theorem witness_Resets_17a : let s : State := named; (s.pwr.rst = none ∨ s.pwr.rst = some 1 ∨ s.pwr.therm = false ∨ s.pwr.low = true) := by
  decide +kernel

theorem witness_Resets_18a : let s : State := named; s.awake = true ∧ s.pwr.hold = none := by
  repeat' with_reducible apply And.intro
  all_goals first | with_reducible rfl | decide +kernel

theorem witness_Resets_20a : let f : Fld := Reg.LANE_STAT.SIGDET; let k : Nat := 3; let t : Nat := 900; let s : State := { named with pwr.hold := some (3, 900) }; s.awake = true ∧ s.pwr.hold = some (k, t) ∧ f.key ≠ Reg.GLB_STAT.NFAULT.key ∧ f.key ≠ Reg.CMD_IRQ.CPL.key ∧ f.key ≠ Reg.GLB_RST.KIND.key ∧ f.key ≠ Reg.GLB_RST.WARMCNT.key ∧ State.keptField f.key true = false := by
  repeat' with_reducible apply And.intro
  all_goals first | with_reducible rfl | decide +kernel

theorem witness_Resets_20b : let f : Fld := Reg.REST_STAT.CFGDIRTY; let k : Nat := 3; let t : Nat := 900; let s : State := { named with pwr.hold := some (3, 900) }; s.awake = true ∧ s.pwr.hold = some (k, t) ∧ f.key ≠ Reg.GLB_STAT.NFAULT.key ∧ f.key ≠ Reg.CMD_IRQ.CPL.key ∧ f.key ≠ Reg.GLB_RST.KIND.key ∧ f.key ≠ Reg.GLB_RST.WARMCNT.key ∧ State.keptField f.key true = false := by
  repeat' with_reducible apply And.intro
  all_goals first | with_reducible rfl | decide +kernel

theorem witness_Resets_20c : let f : Fld := Reg.INAU_CTRL.EN; let k : Nat := 3; let t : Nat := 900; let s : State := { named with pwr.hold := some (3, 900) }; s.awake = true ∧ s.pwr.hold = some (k, t) ∧ f.key ≠ Reg.GLB_STAT.NFAULT.key ∧ f.key ≠ Reg.CMD_IRQ.CPL.key ∧ f.key ≠ Reg.GLB_RST.KIND.key ∧ f.key ≠ Reg.GLB_RST.WARMCNT.key ∧ State.keptField f.key true = false := by
  repeat' with_reducible apply And.intro
  all_goals first | with_reducible rfl | decide +kernel

theorem witness_SuppliesAndPace_1a : let s : State := { named with power := .twilight }; s.awake = true ∧ s.power = .twilight := by
  repeat' with_reducible apply And.intro
  all_goals first | with_reducible rfl | decide +kernel

theorem witness_SuppliesAndPace_2a : let j : Int := 900; let s : State := { named with power := .twilight }; s.awake = true ∧ s.power = .twilight ∧ s.pwr.hot = false ∧ (s.lane 0).tx = none ∧ (s.lane 0).txHeld = none ∧ (s.lane 2).tx = none ∧ (s.lane 2).txHeld = none := by
  repeat' with_reducible apply And.intro
  all_goals first | with_reducible rfl | decide +kernel

theorem witness_SuppliesAndPace_3a : let s : State := { named with power := .twilight, pwr.hot := true }; let u : State := { s with pwr.hot := false }; s.awake = true ∧ s.pwr.hot = true ∧ u = { s with pwr.hot := false } := by
  repeat' with_reducible apply And.intro
  all_goals first | with_reducible rfl | decide +kernel

theorem witness_SuppliesAndPace_4a : let s : State := named; s.awake = true ∧ s.pwr.hot = false := by
  repeat' with_reducible apply And.intro
  all_goals first | with_reducible rfl | decide +kernel

theorem witness_SuppliesAndPace_5a : let b : Fin 2 := 1; let s : State := named; s.power ≠ .off ∧ s.pwr.rst ≠ some 1 := by
  repeat' with_reducible apply And.intro
  all_goals first | with_reducible rfl | decide +kernel

theorem witness_SuppliesAndPace_5b : let b : Fin 2 := 0; let s : State := asleep; s.power ≠ .off ∧ s.pwr.rst ≠ some 1 := by
  repeat' with_reducible apply And.intro
  all_goals first | with_reducible rfl | decide +kernel

theorem witness_SuppliesAndPace_6a : let b : Fin 2 := 0; let s : State := { named with pwr.vio1 := true }; s.power ≠ .off ∧ s.pwr.rst ≠ some 1 := by
  repeat' with_reducible apply And.intro
  all_goals first | with_reducible rfl | decide +kernel

theorem witness_SuppliesAndPace_6b : let b : Fin 2 := 1; let s : State := { named with pwr.vio1 := true, pwr.vio2 := true }; s.power ≠ .off ∧ s.pwr.rst ≠ some 1 := by
  repeat' with_reducible apply And.intro
  all_goals first | with_reducible rfl | decide +kernel

theorem witness_SuppliesAndPace_7a : let s : State := named; s.awake = true := by
  decide +kernel

theorem witness_SuppliesAndPace_8a : let v : Word := 1; let s : State := alone; let w : State := s.readVoted 0x100; let u : State := w.storeWord Reg.GLB_PACE.LEVEL.addr v.toNat; s.awake = true ∧ w = s.readVoted 0x100 ∧ u = w.storeWord Reg.GLB_PACE.LEVEL.addr v.toNat ∧ v.toNat % 4 < 2 ∧ u.inau.force.isSome = true := by
  repeat' with_reducible apply And.intro
  all_goals first | with_reducible rfl | decide +kernel

theorem witness_SuppliesAndPace_9a : let v : Word := 3; let s : State := named; let w : State := s.readVoted 0x100; let u : State := w.storeWord Reg.GLB_PACE.LEVEL.addr v.toNat; s.awake = true ∧ w = s.readVoted 0x100 ∧ u = w.storeWord Reg.GLB_PACE.LEVEL.addr v.toNat ∧ (2 ≤ v.toNat % 4 ∨ u.inau.force = none) ∧ u.glb.pace.value % 4 ≠ v.toNat % 4 ∧ v.toNat % 4 ≠ u.get Reg.GLB_PACE.ACT ∧ (u.hkp.running.any (fun a => a.kind = 5)) = false := by
  repeat' with_reducible apply And.intro
  all_goals first | with_reducible rfl | decide +kernel

theorem witness_SuppliesAndPace_9b : let v : Word := 0; let s : State := { named with hkp.running := [.mpat] }; let w : State := s.readVoted 0x100; let u : State := w.storeWord Reg.GLB_PACE.LEVEL.addr v.toNat; s.awake = true ∧ w = s.readVoted 0x100 ∧ u = w.storeWord Reg.GLB_PACE.LEVEL.addr v.toNat ∧ (2 ≤ v.toNat % 4 ∨ u.inau.force = none) ∧ u.glb.pace.value % 4 ≠ v.toNat % 4 ∧ v.toNat % 4 ≠ u.get Reg.GLB_PACE.ACT ∧ (u.hkp.running.any (fun a => a.kind = 5)) = false := by
  repeat' with_reducible apply And.intro
  all_goals first | with_reducible rfl | decide +kernel

theorem witness_SuppliesAndPace_10a : let a : Nat := 2; let b : Nat := 3; let s : State := { (named.put Reg.GLB_PACE.PBUSY 1).put Reg.GLB_PACE.ACT 2 with glb.pace := Voted.all 3 }; s.awake = true ∧ s.flag Reg.GLB_PACE.PBUSY = true ∧ bridgeIdle s = true ∧ s.readVoted 0x100 = s ∧ a = s.get Reg.GLB_PACE.ACT ∧ b = s.glb.pace.value % 4 ∧ (2 ≤ a ↔ 2 ≤ b) ∧ a ≠ b := by
  repeat' with_reducible apply And.intro
  all_goals first | with_reducible rfl | decide +kernel

theorem witness_SuppliesAndPace_10b : let a : Nat := 1; let b : Nat := 0; let s : State := { (named.put Reg.GLB_PACE.PBUSY 1).put Reg.GLB_PACE.ACT 1 with glb.pace := Voted.all 0 }; s.awake = true ∧ s.flag Reg.GLB_PACE.PBUSY = true ∧ bridgeIdle s = true ∧ s.readVoted 0x100 = s ∧ a = s.get Reg.GLB_PACE.ACT ∧ b = s.glb.pace.value % 4 ∧ (2 ≤ a ↔ 2 ≤ b) ∧ a ≠ b := by
  repeat' with_reducible apply And.intro
  all_goals first | with_reducible rfl | decide +kernel

theorem witness_SuppliesAndPace_11a : let s : State := named; s.awake = true ∧ s.flag Reg.GLB_PACE.PBUSY = false := by
  repeat' with_reducible apply And.intro
  all_goals first | with_reducible rfl | decide +kernel

theorem witness_SuppliesAndPace_12a : let v : Word := 0x100; let s : State := named; s.awake = true ∧ bit v.toNat 8 = true ∧ s.rest.retA = none ∧ s.rest.retB = none := by
  repeat' with_reducible apply And.intro
  all_goals first | with_reducible rfl | decide +kernel

theorem witness_SuppliesAndPace_13a : let v : Word := 0; let s : State := named; s.awake = true ∧ bit v.toNat 8 = false := by
  repeat' with_reducible apply And.intro
  all_goals first | with_reducible rfl | decide +kernel

theorem witness_SuppliesAndPace_14a : let s : State := named; s.awake = true ∧ s.power ≠ .twilight := by
  repeat' with_reducible apply And.intro
  all_goals first | with_reducible rfl | decide +kernel

theorem witness_SuppliesAndPace_15a : let j : Int := 900; let s : State := named; s.awake = true ∧ (s.power ≠ .twilight ∨ s.pwr.hot = true) := by
  repeat' with_reducible apply And.intro
  all_goals first | with_reducible rfl | decide +kernel

theorem witness_SuppliesAndPace_16a : let v : Word := 2; let s : State := { named.put Reg.GLB_PACE.ACT 2 with glb.pace := Voted.all 2 }; let w : State := s.readVoted 0x100; let u : State := w.storeWord Reg.GLB_PACE.LEVEL.addr v.toNat; s.awake = true ∧ w = s.readVoted 0x100 ∧ u = w.storeWord Reg.GLB_PACE.LEVEL.addr v.toNat ∧ (2 ≤ v.toNat % 4 ∨ u.inau.force = none) ∧ u.glb.pace.value % 4 = v.toNat % 4 ∧ v.toNat % 4 = u.get Reg.GLB_PACE.ACT := by
  repeat' with_reducible apply And.intro
  all_goals first | with_reducible rfl | decide +kernel

theorem witness_SuppliesAndPace_17a : let v : Word := 2; let s : State := { named.put Reg.GLB_PACE.ACT 2 with glb.pace := Voted.all 3 }; let w : State := s.readVoted 0x100; let u : State := w.storeWord Reg.GLB_PACE.LEVEL.addr v.toNat; s.awake = true ∧ w = s.readVoted 0x100 ∧ u = w.storeWord Reg.GLB_PACE.LEVEL.addr v.toNat ∧ (2 ≤ v.toNat % 4 ∨ u.inau.force = none) ∧ u.glb.pace.value % 4 ≠ v.toNat % 4 ∧ v.toNat % 4 = u.get Reg.GLB_PACE.ACT := by
  repeat' with_reducible apply And.intro
  all_goals first | with_reducible rfl | decide +kernel

theorem witness_SuppliesAndPace_18a : let v : Word := 1; let s : State := { named.put Reg.GLB_PACE.ACT 2 with glb.pace := Voted.all 2, hkp.running := [.store] }; let w : State := s.readVoted 0x100; let u : State := w.storeWord Reg.GLB_PACE.LEVEL.addr v.toNat; s.awake = true ∧ w = s.readVoted 0x100 ∧ u = w.storeWord Reg.GLB_PACE.LEVEL.addr v.toNat ∧ (2 ≤ v.toNat % 4 ∨ u.inau.force = none) ∧ u.glb.pace.value % 4 ≠ v.toNat % 4 ∧ v.toNat % 4 ≠ u.get Reg.GLB_PACE.ACT ∧ (u.hkp.running.any (fun a => a.kind = 5)) = true := by
  repeat' with_reducible apply And.intro
  all_goals first | with_reducible rfl | decide +kernel

theorem witness_SuppliesAndPace_19a : let v : Word := 3; let s : State := { named.put Reg.GLB_PACE.ACT 2 with glb.pace := Voted.all 3 }; let w : State := s.readVoted 0x100; let u : State := w.storeWord Reg.GLB_PACE.LEVEL.addr v.toNat; s.awake = true ∧ w = s.readVoted 0x100 ∧ u = w.storeWord Reg.GLB_PACE.LEVEL.addr v.toNat ∧ (2 ≤ v.toNat % 4 ∨ u.inau.force = none) ∧ u.glb.pace.value % 4 = v.toNat % 4 ∧ v.toNat % 4 ≠ u.get Reg.GLB_PACE.ACT ∧ (u.hkp.running.any (fun a => a.kind = 5)) = false := by
  repeat' with_reducible apply And.intro
  all_goals first | with_reducible rfl | decide +kernel

theorem witness_SuppliesAndPace_20a : let a : Nat := 1; let b : Nat := 1; let s : State := { (named.put Reg.GLB_PACE.PBUSY 1).put Reg.GLB_PACE.ACT 1 with glb.pace := Voted.all 1 }; s.awake = true ∧ s.flag Reg.GLB_PACE.PBUSY = true ∧ bridgeIdle s = true ∧ s.readVoted 0x100 = s ∧ a = s.get Reg.GLB_PACE.ACT ∧ b = s.glb.pace.value % 4 ∧ a = b := by
  repeat' with_reducible apply And.intro
  all_goals first | with_reducible rfl | decide +kernel

theorem witness_SuppliesAndPace_21a : let a : Nat := 1; let b : Nat := 3; let s : State := { (named.put Reg.GLB_PACE.PBUSY 1).put Reg.GLB_PACE.ACT 1 with glb.pace := Voted.all 3 }; let u : State := (((s.put Reg.GLB_PACE.ACT b).put Reg.GLB_PACE.PBUSY 0).record 0x0013 (natBe 1 a ++ natBe 1 b)).holdStack false; s.awake = true ∧ s.flag Reg.GLB_PACE.PBUSY = true ∧ s.readVoted 0x100 = s ∧ a = s.get Reg.GLB_PACE.ACT ∧ b = s.glb.pace.value % 4 ∧ 2 ≤ b ∧ a < 2 ∧ u = (((s.put Reg.GLB_PACE.ACT b).put Reg.GLB_PACE.PBUSY 0).record 0x0013 (natBe 1 a ++ natBe 1 b)).holdStack false := by
  repeat' with_reducible apply And.intro
  all_goals first | with_reducible rfl | decide +kernel

theorem witness_SuppliesAndPace_22a : let a : Nat := 3; let b : Nat := 1; let s : State := { (named.put Reg.GLB_PACE.PBUSY 1).put Reg.GLB_PACE.ACT 3 with glb.pace := Voted.all 1 }; let u : State := (((s.put Reg.GLB_PACE.ACT b).put Reg.GLB_PACE.PBUSY 0).record 0x0013 (natBe 1 a ++ natBe 1 b)).holdStack true; let w : State := (if u.laneUp 0 then u.leaveActive 0 else (u.dropLane 0).restLane 0); let x : State := (if w.laneUp 1 then w.leaveActive 1 else (w.dropLane 1).restLane 1); let y : State := (if x.laneUp 2 then x.leaveActive 2 else (x.dropLane 2).restLane 2); let z : State := (if y.laneUp 3 then y.leaveActive 3 else (y.dropLane 3).restLane 3); s.awake = true ∧ s.flag Reg.GLB_PACE.PBUSY = true ∧ s.readVoted 0x100 = s ∧ a = s.get Reg.GLB_PACE.ACT ∧ b = s.glb.pace.value % 4 ∧ 2 ≤ a ∧ b < 2 ∧ u = (((s.put Reg.GLB_PACE.ACT b).put Reg.GLB_PACE.PBUSY 0).record 0x0013 (natBe 1 a ++ natBe 1 b)).holdStack true ∧ w = (if u.laneUp 0 then u.leaveActive 0 else (u.dropLane 0).restLane 0) ∧ x = (if w.laneUp 1 then w.leaveActive 1 else (w.dropLane 1).restLane 1) ∧ y = (if x.laneUp 2 then x.leaveActive 2 else (x.dropLane 2).restLane 2) ∧ z = (if y.laneUp 3 then y.leaveActive 3 else (y.dropLane 3).restLane 3) := by
  repeat' with_reducible apply And.intro
  all_goals first | with_reducible rfl | decide +kernel

theorem witness_SuppliesAndPace_23a : let n : Fin 4 := 0; let s : State := named.put Reg.GLB_PACE.ACT 1; s.get Reg.GLB_PACE.ACT < 2 := by
  decide +kernel

theorem witness_SuppliesAndPace_24a : let v : Word := 0x100; let s : State := named; let q : Nat := max ((s.rest.retA.map fun x => x.seq).getD 0) ((s.rest.retB.map fun x => x.seq).getD 0) + 1; s.awake = true ∧ bit v.toNat 8 = true ∧ q = max ((s.rest.retA.map fun x => x.seq).getD 0) ((s.rest.retB.map fun x => x.seq).getD 0) + 1 := by
  repeat' with_reducible apply And.intro
  all_goals first | with_reducible rfl | decide +kernel

theorem witness_SuppliesAndPace_24b : let v : Word := 0x100; let s : State := { named with rest.retA := some ⟨1, 0, 0, [], 0⟩ }; let q : Nat := max ((s.rest.retA.map fun x => x.seq).getD 0) ((s.rest.retB.map fun x => x.seq).getD 0) + 1; s.awake = true ∧ bit v.toNat 8 = true ∧ q = max ((s.rest.retA.map fun x => x.seq).getD 0) ((s.rest.retB.map fun x => x.seq).getD 0) + 1 := by
  repeat' with_reducible apply And.intro
  all_goals first | with_reducible rfl | decide +kernel

theorem witness_SuppliesAndPace_24c : let v : Word := 0x100; let s : State := { named with rest.retA := some ⟨1, 0, 0, [], 0⟩, rest.retB := some ⟨2, 0, 0, [], 0⟩ }; let q : Nat := max ((s.rest.retA.map fun x => x.seq).getD 0) ((s.rest.retB.map fun x => x.seq).getD 0) + 1; s.awake = true ∧ bit v.toNat 8 = true ∧ q = max ((s.rest.retA.map fun x => x.seq).getD 0) ((s.rest.retB.map fun x => x.seq).getD 0) + 1 := by
  repeat' with_reducible apply And.intro
  all_goals first | with_reducible rfl | decide +kernel

theorem witness_SuppliesAndPace_25a : let j : Int := 900; let s : State := { named with power := .twilight }; s.awake = true ∧ s.power = .twilight ∧ s.pwr.hot = false := by
  repeat' with_reducible apply And.intro
  all_goals first | with_reducible rfl | decide +kernel

theorem witness_SuppliesAndPace_26a : let n : Nat := 2; let s : State := named; n < 4 := by
  decide +kernel

theorem witness_SuppliesAndPace_27a : let v : Word := 3; let s : State := { named.put Reg.GLB_PACE.ACT 2 with glb.pace := Voted.all 3, pwr.paceWait := true, hkp.running := [.store] }; let w : State := s.readVoted 0x100; let u : State := w.storeWord Reg.GLB_PACE.LEVEL.addr v.toNat; s.awake = true ∧ w = s.readVoted 0x100 ∧ u = w.storeWord Reg.GLB_PACE.LEVEL.addr v.toNat ∧ (2 ≤ v.toNat % 4 ∨ u.inau.force = none) ∧ u.glb.pace.value % 4 = v.toNat % 4 ∧ v.toNat % 4 ≠ u.get Reg.GLB_PACE.ACT ∧ (u.hkp.running.any (fun a => a.kind = 5)) = true := by
  repeat' with_reducible apply And.intro
  all_goals first | with_reducible rfl | decide +kernel

theorem witness_SuppliesAndPace_28a : let b : Fin 2 := 1; let s : State := { named with pwr.vio2 := true }; s.power ≠ .off ∧ s.pwr.rst ≠ some 1 := by
  repeat' with_reducible apply And.intro
  all_goals first | with_reducible rfl | decide +kernel

theorem witness_IdleStep_1a : let s : State := named; s.pending = [] := by
  decide +kernel

theorem witness_PowerStates_1a : let c : Instr := .guardianPoint true; let s : State := { named with power := .duskSleep }; s.awake = false ∧ s.rest.entering = none ∧ c.aon = false ∧ c.supply = false := by
  repeat' with_reducible apply And.intro
  all_goals first | with_reducible rfl | decide +kernel

theorem witness_PowerStates_2a : let c : Instr := .alarmWake; let s : State := { named with power := .off }; (s.power = .off ∨ s.pwr.rst = some 1 ∨ (s.pwr.rst.isSome = true ∧ c.aon = false)) ∧ s.rest.entering = none ∧ c.supply = false := by
  repeat' with_reducible apply And.intro
  all_goals first | with_reducible rfl | decide +kernel

theorem witness_PowerStates_2b : let c : Instr := .alarmWake; let s : State := { named with pwr.rst := some 1 }; (s.power = .off ∨ s.pwr.rst = some 1 ∨ (s.pwr.rst.isSome = true ∧ c.aon = false)) ∧ s.rest.entering = none ∧ c.supply = false := by
  repeat' with_reducible apply And.intro
  all_goals first | with_reducible rfl | decide +kernel

theorem witness_PowerStates_2c : let c : Instr := .cycleBoundary; let s : State := { named with pwr.rst := some 2 }; (s.power = .off ∨ s.pwr.rst = some 1 ∨ (s.pwr.rst.isSome = true ∧ c.aon = false)) ∧ s.rest.entering = none ∧ c.supply = false := by
  repeat' with_reducible apply And.intro
  all_goals first | with_reducible rfl | decide +kernel

theorem witness_PowerStates_3a : let c : Instr := .vinLoss; let s : State := { named with power := .off }; s.power = .off ∧ s.pwr.rst = none ∧ s.rest.entering = none ∧ c ≠ .powerOnReset := by
  repeat' with_reducible apply And.intro
  all_goals first | with_reducible rfl | decide +kernel

theorem witness_PowerStates_4a : let c : Instr := .guardianPoint true; let s : State := { named with power := .duskSleep }; s.power = .duskSleep ∧ s.pwr.rst = none ∧ s.rest.entering = none ∧ c.wakes = false ∧ c ≠ .vinLoss ∧ c ≠ .powerOnReset := by
  repeat' with_reducible apply And.intro
  all_goals first | with_reducible rfl | decide +kernel

theorem witness_RegisterTable_1a : let s : State := State.reset; let f : Fld := Reg.GLB_FAULT.RWV; let v : Nat := 1; regsRise s = true := by
  decide +kernel

theorem witness_ImageDeliveries_1a : let s : State := State.reset; let o : Nat := 0x20000; let bs : Bytes := [1, 0, 2]; imageWf s = true := by
  decide +kernel

theorem witness_ImageDeliveries_2a : let s : State := State.reset; let o : Nat := 0x140; let bs : Bytes := [1, 0, 2]; let x : Nat := 0x142; imageWf s = true ∧ 0x140 ≤ o ∧ o + bs.length ≤ 0x10000 := by
  repeat' with_reducible apply And.intro
  all_goals first | with_reducible rfl | decide +kernel

theorem witness_ImageDeliveries_2b : let s : State := State.reset; let o : Nat := 0xFFFF; let bs : Bytes := [1]; let x : Nat := 0xFFFF; imageWf s = true ∧ 0x140 ≤ o ∧ o + bs.length ≤ 0x10000 := by
  repeat' with_reducible apply And.intro
  all_goals first | with_reducible rfl | decide +kernel

theorem witness_ImageDeliveries_3a : let s : State := State.reset; let o : Nat := 0x20000; let bs : Bytes := [1, 0, 2]; let x : Nat := 2; imageWf s = true ∧ 0x20000 ≤ o ∧ o < 0x30000 ∧ o + bs.length ≤ 0x30000 := by
  repeat' with_reducible apply And.intro
  all_goals first | with_reducible rfl | decide +kernel

theorem witness_ImageDeliveries_3b : let s : State := State.reset; let o : Nat := 0x2FFFF; let bs : Bytes := [1]; let x : Nat := 0xFFFF; imageWf s = true ∧ 0x20000 ≤ o ∧ o < 0x30000 ∧ o + bs.length ≤ 0x30000 := by
  repeat' with_reducible apply And.intro
  all_goals first | with_reducible rfl | decide +kernel

theorem witness_ImageDeliveries_4a : let s : State := State.reset; let o : Nat := 0x3FFFD; let bs : Bytes := [1, 0, 2]; let x : Nat := 0xFFFF; imageWf s = true ∧ 0x30000 ≤ o ∧ o + bs.length ≤ 0x40000 := by
  repeat' with_reducible apply And.intro
  all_goals first | with_reducible rfl | decide +kernel

theorem witness_LineCode_1a : let cs : List LineChar := [kChar 28 5, dChar 16 2, dChar 11 7]; let rd : Bool := false; (∀ c ∈ cs, c ∈ allChars) := by
  decide +kernel

theorem witness_LineCode_2a : let c : LineChar := kChar 28 5; let rd : Bool := true; c ∈ allChars := by
  decide +kernel

theorem witness_LineCode_3a : let o : Out := .cr 3 999; let n : Nat := 3; let cs : List LineChar := [kChar 28 4, dChar 7 7, dChar 7 7, dChar 24 0]; let c : LineChar := dChar 24 0; n < 4 ∧ o.chars = some (n, cs) ∧ c ∈ cs := by
  repeat' with_reducible apply And.intro
  all_goals first | with_reducible rfl | decide +kernel

theorem witness_LineCode_4a : let o : Out := .idle 2; let n : Nat := 2; let rd : Bool := false; let bs : List Bool := (encodeChars false idleSet).1; o.bits rd = some (n, bs) := by
  decide +kernel

theorem witness_RegistersStayCanonical_1a : let s : State := State.reset; regsRise s = true := by
  decide +kernel

theorem witness_MemoriesStayCanonical_1a : let s : State := State.reset; imageWf s = true ∧ copiesWf s = true := by
  repeat' with_reducible apply And.intro
  all_goals first | with_reducible rfl | decide +kernel

theorem witness_SchdCounters_2a : let f : Fld := Reg.SCHD_SUBSTALE.COUNT; f ∈ schdCounters := by
  decide +kernel

theorem witness_SchdCounters_3a : let f : Fld := Reg.SCHD_POLEARLY.COUNT; let v : Nat := 5; let s : State := named; f ∈ schdCounters := by
  decide +kernel

theorem witness_SchdCounters_4a : let v : Word := 1; let s : State := named; s.awake = true ∧ bit v.toNat 0 = true := by
  repeat' with_reducible apply And.intro
  all_goals first | with_reducible rfl | decide +kernel

theorem witness_SchdCounters_5a : let v : Word := 2; let s : State := named; s.awake = true ∧ bit v.toNat 0 = false := by
  repeat' with_reducible apply And.intro
  all_goals first | with_reducible rfl | decide +kernel

theorem witness_HeaderCrc_5a : let f : Bytes := List.replicate 24 255; let n : Nat := 7; 24 ≤ f.length := by
  decide +kernel

end Sys2Proof.Tests
end

section
/-! SUPPORT. The register table stays in rising order (log entry 1). `Rising.f` says that the state `f` answers has its table in rising order where
the state it starts from has, and `Completes.c` that the meaning of the command `c` answers a state and keeps that order. One lemma a function, in
the order of the model's files: its proof follows the function's body, and only `State.put` and the resets touch the table. -/

namespace Sys2Proof.Machine

set_option Elab.async false

variable {s : State}

/-! The table itself: keys leave it, and a key goes to its place. -/

theorem keysRise_mono {lo lo' : Nat} {l : List (Nat × Nat)} (hle : lo' ≤ lo) (hl : keysRise lo l = true) : keysRise lo' l = true := by
  cases l with
  | nil => rfl
  | cons c l =>
    simp only [keysRise, Bool.and_eq_true, decide_eq_true_eq] at hl ⊢
    exact ⟨hle.trans hl.1, hl.2⟩

theorem keysRise_filter {lo : Nat} {l : List (Nat × Nat)} (p : Nat × Nat → Bool) (hl : keysRise lo l = true) :
    keysRise lo (l.filter p) = true := by
  induction l generalizing lo with
  | nil => rfl
  | cons c l ih =>
    simp only [keysRise, Bool.and_eq_true, decide_eq_true_eq] at hl
    rw [List.filter_cons]
    split
    · simp only [keysRise, Bool.and_eq_true, decide_eq_true_eq]
      exact ⟨hl.1, ih hl.2⟩
    · exact ih (keysRise_mono (by omega) hl.2)

theorem eraseKey_eq_filter (k : Nat) (l : List (Nat × Nat)) : eraseKey k l = l.filter fun e => e.1 ≠ k := by
  induction l with
  | nil => rfl
  | cons c l ih => by_cases hk : c.1 = k <;> simp [eraseKey, hk, ih]

theorem keysRise_insertKey {lo k v : Nat} {l : List (Nat × Nat)} (hk : lo ≤ k) (hn : ∀ e ∈ l, e.1 ≠ k) (hl : keysRise lo l = true) :
    keysRise lo (insertKey k v l) = true := by
  induction l generalizing lo with
  | nil => simpa [insertKey, keysRise] using hk
  | cons c l ih =>
    obtain ⟨a, w⟩ := c
    have ha : a ≠ k := hn (a, w) (List.mem_cons_self ..)
    simp only [keysRise, Bool.and_eq_true, decide_eq_true_eq] at hl
    unfold insertKey
    split
    · simp only [keysRise, Bool.and_eq_true, decide_eq_true_eq]
      exact ⟨hk, by omega, hl.2⟩
    · simp only [keysRise, Bool.and_eq_true, decide_eq_true_eq]
      exact ⟨hl.1, ih (by omega) (fun e he => hn e (List.mem_cons_of_mem _ he)) hl.2⟩

/-- A write of a key, whether listed before or not, keeps the rising order. -/
theorem keysRise_write {l : List (Nat × Nat)} (k v : Nat) (hl : keysRise 0 l = true) : keysRise 0 (insertKey k v (eraseKey k l)) = true := by
  rw [eraseKey_eq_filter]
  exact keysRise_insertKey (Nat.zero_le k) (by simp) (keysRise_filter _ hl)

/-! The predicate on states, and how it passes through the forms in which the model builds a state. -/

/-- The register table of `s` is in rising order (log entry 1). -/
def Rising (s : State) : Prop := regsRise s = true

theorem Rising.put {f : Fld} {v : Nat} (h : Rising s) : Rising (s.put f v) := by
  show keysRise 0 (if v % 2 ^ f.width = f.default then eraseKey f.key s.regs else insertKey f.key (v % 2 ^ f.width) (eraseKey f.key s.regs)) = true
  split
  · rw [eraseKey_eq_filter]; exact keysRise_filter _ h
  · exact keysRise_write _ _ h

/-- An update of the other parts of the state leaves the table. -/
theorem Rising.upd (h : Rising s) {x_pending x_now x_power x_cycRun x_cyc x_bnd x_opBase x_opAt x_opPpm x_events x_outs x_onceGen x_onceSec
    x_onceSess x_free x_lanes x_inau x_sched x_sync x_time x_fab x_msix x_glb x_twin x_img x_ports x_host x_cmd x_eng x_prg x_recd x_rest
    x_pwr x_brdg x_hkp} : Rising (State.mk x_pending x_now x_power s.regs x_cycRun x_cyc x_bnd x_opBase x_opAt x_opPpm x_events x_outs x_onceGen
    x_onceSec x_onceSess x_free x_lanes x_inau x_sched x_sync x_time x_fab x_msix x_glb x_twin x_img x_ports x_host x_cmd x_eng x_prg x_recd
    x_rest x_pwr x_brdg x_hkp) := h

theorem Rising.ite {a b : State} {c : Prop} [Decidable c] (ha : Rising a) (hb : Rising b) : Rising (if c then a else b) := by
  split <;> assumption

theorem Rising.foldl {α : Type} {f : State → α → State} {l : List α} (h : Rising s)
    (hf : ∀ {t : State} {x : α}, Rising t → Rising (f t x)) : Rising (l.foldl f s) :=
  List.foldlRecOn l f h fun _ ht _ _ => hf ht

/-- The state that a pair was taken apart into. -/
theorem Rising.fst {α : Type} {p : State × α} {t : State} {x : α} (h : Rising p.1) (e : p = (t, x)) : Rising t := by
  rwa [e] at h

theorem Rising.snd {α : Type} {p : α × State} {t : State} {x : α} (h : Rising p.2) (e : p = (x, t)) : Rising t := by
  rwa [e] at h

/-- A meaning completes: it answers a state whose outputs follow its registers, and keeps the register table in rising order. -/
def Completes (s : State) (o : Host.Outcome State Fault Refusal) : Prop := ∃ t : State, o = .next t.settle ∧ (Rising s → Rising t)

theorem Completes.ite {a b : Host.Outcome State Fault Refusal} {c : Prop} [Decidable c] (ha : Completes s a)
    (hb : Completes s b) : Completes s (if c then a else b) := by
  split <;> assumption

theorem Completes.done {s t : State} (h : Rising s → Rising t) : Completes s (done t) := ⟨t, rfl, h⟩

theorem Completes.live {f : State → Host.Outcome State Fault Refusal} (h : Completes s (f s)) : Completes s (live s f) :=
  .ite h (.done id)

theorem Completes.liveActive {f : State → Host.Outcome State Fault Refusal} (h : Completes s (f s)) : Completes s (liveActive s f) :=
  .ite h (.done id)

/-! Machine/Regs.lean -/

theorem Rising.putB {f : Fld} {b : Bool} (h : Rising s) : Rising (s.putB f b) := h.put
theorem Rising.bumpBy {f : Fld} {n : Nat} (h : Rising s) : Rising (s.bumpBy f n) := h.put
theorem Rising.bump {f : Fld} (h : Rising s) : Rising (s.bump f) := h.bumpBy
theorem Rising.satInc {f : Fld} (h : Rising s) : Rising (s.satInc f) := h.put

theorem Rising.setOpt {f : Option Fld} (h : Rising s) : Rising (s.setOpt f) := by
  unfold State.setOpt
  split; exacts [h.put, h]

theorem Rising.dirtyCfg (h : Rising s) : Rising s.dirtyCfg := h.put

/-! Machine/Link.lean -/

theorem Rising.stackSend {kind cls dst tag addr bestat : Nat} {pl : Bytes} (h : Rising s) : Rising (s.stackSend kind cls dst tag addr bestat pl) :=
  .ite h (by split <;> exact h.upd)

theorem Rising.stackMsg {dst sub : Nat} {pl : Bytes} (h : Rising s) : Rising (s.stackMsg dst sub pl) := h.stackSend

/-! Machine/Flags.lean -/

theorem Rising.emit {o : Out} (h : Rising s) : Rising (s.emit o) := h.upd
theorem Rising.refreshInta (h : Rising s) : Rising s.refreshInta := .ite h (.ite h.upd.emit h.upd)
theorem Rising.signal {v : Nat} (h : Rising s) : Rising (s.signal v) := .ite (.ite (.ite h h.upd) h.emit) h.refreshInta
theorem Rising.raise {f : Fld} (h : Rising s) : Rising (s.raise f) := .ite h.put (.ite h.put.signal h.put)
theorem Rising.refreshFault (h : Rising s) : Rising s.refreshFault := .ite h h.putB.emit
theorem Rising.refreshCpl (h : Rising s) : Rising s.refreshCpl := .ite h.upd.raise h
theorem Rising.refreshIntn (h : Rising s) : Rising s.refreshIntn := .ite h (.ite h.upd.emit h.upd.emit.stackMsg)
theorem Rising.refreshRolePin (h : Rising s) : Rising s.refreshRolePin := .ite h h.upd.emit
theorem Rising.settle (h : Rising s) : Rising s.settle := h.refreshCpl.refreshInta.refreshIntn.refreshRolePin.refreshFault
theorem Rising.fault {f : Fld} (h : Rising s) : Rising (s.fault f) := h.put.raise.refreshFault

/-! Machine/Ops.lean -/

theorem Rising.onLane {n : Nat} {f : LaneS → LaneS} (h : Rising s) : Rising (s.onLane n f) := h.upd
theorem Rising.onEnd {e : Nat} {f : EndS → EndS} (h : Rising s) : Rising (s.onEnd e f) := h.upd
theorem Rising.reach {t : Nat} (h : Rising s) : Rising (s.reach t) := h.upd
theorem Rising.freshFree (h : Rising s) : Rising s.freshFree.2 := h.upd
theorem Rising.reachOp {target : Nat} (h : Rising s) : Rising (s.reachOp target) := .ite h h.upd
theorem Rising.record {code : Nat} {params : Bytes} (h : Rising s) : Rising (s.record code params) := h.upd
theorem Rising.secondFault {c1 c2 : Nat} (h : Rising s) : Rising (s.secondFault c1 c2) := h.record
theorem Rising.recordGen {code key : Nat} {params : Bytes} (h : Rising s) : Rising (s.recordGen code key params) := .ite h h.upd.record
theorem Rising.recordSec {code key : Nat} {params : Bytes} (h : Rising s) : Rising (s.recordSec code key params) := .ite h h.upd.record
theorem Rising.recordSess {code key : Nat} {params : Bytes} (h : Rising s) : Rising (s.recordSess code key params) := .ite h h.upd.record
theorem Rising.setLaneSt {n : Nat} {t : LaneSt} (h : Rising s) : Rising (s.setLaneSt n t) := h.put.onLane
theorem Rising.markDirty {region o n : Nat} (h : Rising s) : Rising (s.markDirty region o n) := .ite h h.upd

/-! Machine/Store.lean -/

theorem Rising.storeField {ok : Bool} {v : Nat} {f : Fld} (h : Rising s) : Rising (State.storeField ok v s f) := by
  unfold State.storeField
  split; exacts [h.put, .ite h.put h, h.put, h]

theorem Rising.storeWord {a v : Nat} (h : Rising s) : Rising (s.storeWord a v) :=
  .refreshFault (.ite (.setOpt (.ite (.dirtyCfg (.foldl h fun h => h.storeField)) (.foldl h fun h => h.storeField))) (.ite (.dirtyCfg (.foldl h
      fun h => h.storeField)) (.foldl h fun h => h.storeField)))

theorem Rising.setVoted {a : Nat} {v : Voted} (h : Rising s) : Rising (s.setVoted a v) := .ite h.upd (.ite h.upd (.ite h.upd h))

theorem Rising.readVoted {a : Nat} (h : Rising s) : Rising (s.readVoted a) := by
  unfold State.readVoted
  split; exacts [h, .ite h (.ite h.setVoted.bumpBy.recordSec.fault h.setVoted.bumpBy.recordSec)]

theorem Rising.clearIrq {a v : Nat} (h : Rising s) : Rising (s.clearIrq a v) :=
  .foldl (.foldl h fun h => h.put) fun h => .ite h.signal h.upd.refreshInta

theorem Rising.post {a v : Nat} (h : Rising s) : Rising (s.post a v) := .ite h.setOpt h.upd.setOpt

theorem Rising.clearOpt {f : Option Fld} (h : Rising s) : Rising (s.clearOpt f) := by
  unfold State.clearOpt
  split; exacts [h.put, h]

/-! Machine/Force.lean -/

theorem Rising.applyForceTable (h : Rising s) : Rising s.applyForceTable := h.upd
theorem Rising.refreshNact (h : Rising s) : Rising s.refreshNact := h.put
theorem Rising.clearForces (h : Rising s) : Rising s.clearForces := h.upd.record.refreshNact.put

theorem Rising.storeForce {i : Nat} {e : Bytes} (h : Rising s) : Rising (s.storeForce i e) :=
  .ite h.put.raise.record (.ite h.put.upd.refreshNact.record h.put.upd.refreshNact.record)

theorem Rising.frcSel {v : Nat} (h : Rising s) : Rising (s.frcSel v) :=
  .ite h.put.put.put.put.clearForces (.ite h.put.put.put.storeForce.put h.put.put.put.put.put.put.put.put)

theorem Rising.posted {a : Nat} {f : State → State} (h : Rising s) (hf : ∀ {t}, Rising t → Rising (f t)) : Rising (s.posted a f) :=
  .ite h.setOpt (hf h)

theorem Completes.forceEntryStore {value : Word} : Completes s (execForceEntryStore value s) := .live (.done fun h => h.posted fun h => h.frcSel)
theorem Completes.forceClearAll {value : Word} : Completes s (execForceClearAll value s) := .live (.done fun h => h.posted fun h => h.frcSel)
theorem Completes.forceEntryLoad {value : Word} : Completes s (execForceEntryLoad value s) := .live (.done fun h => h.posted fun h => h.frcSel)

/-! Machine/Claim.lean -/

theorem Rising.noteEpoch {c : Nat} (h : Rising s) : Rising (s.noteEpoch c) := h.put
theorem Rising.setTstate {c : Nat} (h : Rising s) : Rising (s.setTstate c) := .ite h h.put.raise
theorem Rising.refreshRole (h : Rising s) : Rising s.refreshRole := h.putB
theorem Rising.newClaim (h : Rising s) : Rising s.newClaim := .refreshRole (.noteEpoch (.put (.ite h.record h)))

theorem Rising.takeClaim {cause : Nat} (h : Rising s) : Rising (s.takeClaim cause) :=
  .setTstate (.upd (.ite h.newClaim.bump.raise.record.record h.newClaim.bump.raise.record))

theorem Rising.needFull (h : Rising s) : Rising s.needFull := h.put.put
theorem Rising.endRelease (h : Rising s) : Rising s.endRelease := h.put.put.upd

theorem Rising.yieldClaim {cause : Nat} (h : Rising s) : Rising (s.yieldClaim cause) :=
  .ite (.setTstate (.needFull (.record (.raise (.bump (.refreshRole (.put (.ite h.endRelease h)))))))) (.setTstate (.record (.raise (.bump
      (.refreshRole (.put (.ite h.endRelease h)))))))

theorem Rising.dueYield {cause : Nat} (h : Rising s) : Rising (s.dueYield cause) := by
  unfold State.dueYield
  split; exacts [h.upd, .ite h h.secondFault]

theorem Rising.stationClaim {c : Nat} (h : Rising s) : Rising (s.stationClaim c) :=
  .ite h.noteEpoch.put (.ite h.noteEpoch.put.stackMsg (.ite h.noteEpoch.put.upd (.ite h.noteEpoch.put.dueYield h.noteEpoch.put)))

theorem Rising.dropAck (h : Rising s) : Rising s.dropAck := h.upd

theorem Rising.judgeClaim {noon : Bool} (h : Rising s) : Rising (s.judgeClaim noon) := by
  refine .ite (.ite (.record (.newClaim (.upd (.ite h.newClaim h)))) (.ite h.newClaim h)) (.ite (.ite h.upd.yieldClaim ?_) (.ite h.upd (.ite
      h.upd.upd.takeClaim (.ite h.upd.takeClaim ?_))))
  · split
    · exact h.upd.yieldClaim
    · exact .ite h.upd.yieldClaim (.ite (.record (.raise (.bump (.newClaim (.ite h.upd.endRelease h.upd))))) (.ite h.upd.endRelease h.upd))
  · split; exacts [h.upd.takeClaim, .ite (.ite h.upd.takeClaim h.upd) h.upd]

theorem Rising.claimBoundary {noon : Bool} (h : Rising s) : Rising (s.claimBoundary noon) := h.judgeClaim.dropAck
theorem Rising.onBank {n : Nat} {f : BankS → BankS} (h : Rising s) : Rising (s.onBank n f) := .ite h.upd h.upd

theorem Rising.fillMirror (h : Rising s) : Rising s.fillMirror := by
  refine .ite h (.foldl h.upd fun h => ?_)
  extract_lets +onlyGivenNames _
  split
  · exact h.upd.markDirty
  · exact h.upd.markDirty
  · exact h.upd.markDirty
  · exact .ite h (by split; exacts [h.onBank.markDirty, h])

/-! Machine/Evaluate.lean -/

theorem Rising.onTask {n : Nat} {f : TaskS → TaskS} (h : Rising s) : Rising (s.onTask n f) := h.upd

theorem Rising.evalBlocks {b : Bytes} {n : Nat} {is : List (Nat × Inst)} (h : Rising s) : Rising (s.evalBlocks b n is) :=
  .onTask (.foldl h.upd.onBank fun h => h.markDirty)

theorem Rising.progress (h : Rising s) : Rising s.progress := by
  unfold State.progress
  split; exacts [.ite h h.freshFree.evalBlocks, h]

/-! Machine/Budget.lean -/

theorem Rising.onStation {n : Nat} {f : StationS → StationS} (h : Rising s) : Rising (s.onStation n f) := h.upd
theorem Rising.showBudget {b : Bytes} (h : Rising s) : Rising (s.showBudget b) := .foldl h fun h => h.put.put.put

/-! Machine/Fabric.lean -/

theorem Rising.onFrame {fid : Nat} {g : PFrame → PFrame} (h : Rising s) : Rising (s.onFrame fid g) := h.upd
theorem Rising.refuseBuf {cls : Cls} (h : Rising s) : Rising (s.refuseBuf cls) := h.bump.raise.recordSec
theorem Rising.refreshFloor (h : Rising s) : Rising s.refreshFloor := h.putB

theorem Rising.enterPool {t : State} {f : PFrame} {len fid : Nat} (h : Rising s) (e : s.enterPool f len = some (fid, t)) : Rising t := by
  obtain ⟨b, -, hb⟩ := Option.map_eq_some_iff.mp e
  exact .snd (p := (_, _)) h.upd.refreshFloor hb

theorem Rising.freeFrame {fid : Nat} (h : Rising s) : Rising (s.freeFrame fid) := by
  unfold State.freeFrame
  split; exacts [h, h.upd.refreshFloor]

theorem Rising.gc {fid : Nat} (h : Rising s) : Rising (s.gc fid) := by
  unfold State.gc
  split; exacts [h, .ite h.freeFrame h]

theorem Rising.sendTo {n k : Nat} (h : Rising s) : Rising (s.sendTo n k) := by
  unfold State.sendTo
  split
  · exact h
  · split; exacts [h, .ite h h.emit.put.onLane]

theorem Rising.flushSets {n : Nat} (h : Rising s) : Rising (s.flushSets n) := .onLane (.foldl h fun h => h.emit)

theorem Rising.endTx {n : Nat} {good : Bool} (h : Rising s) : Rising (s.endTx n good) := by
  unfold State.endTx
  split; exacts [h, h.emit.onLane.flushSets.gc]

theorem Rising.preTx {n p : Nat} (h : Rising s) : Rising (s.preTx n p) := h.sendTo.emit.onLane.flushSets

theorem Rising.placeSets {n : Nat} (h : Rising s) : Rising (s.placeSets n) := by
  unfold State.placeSets
  split
  · exact h.flushSets
  · split; exacts [h, .ite h h.sendTo.flushSets.onLane]

theorem Rising.advance {n : Nat} (h : Rising s) : Rising (s.advance n) := by
  unfold State.advance
  extract_lets +onlyGivenNames _
  split
  · exact h.placeSets
  · split
    · exact h.placeSets.onLane
    · refine .ite h.placeSets.sendTo.endTx ?_
      split; exacts [h.placeSets.preTx, .ite h.placeSets.sendTo.endTx h.placeSets.sendTo]

theorem Rising.advanceAll (h : Rising s) : Rising s.advanceAll := .foldl h fun h => h.advance
theorem Rising.insertSet {n : Nat} {o : Out} (h : Rising s) : Rising (s.insertSet n o) := h.advance.onLane.placeSets

theorem Rising.finishTx {n : Nat} (h : Rising s) : Rising (s.finishTx n) := by
  unfold State.finishTx
  extract_lets +onlyGivenNames _ t
  have ht : Rising t := by
    unfold t
    split; exacts [h.advance.reach.advance, h.advance]
  exact .ite ht.reach ht

theorem Rising.setSeq {cls id q c : Nat} (h : Rising s) : Rising (s.setSeq cls id q c) := h.upd

theorem Rising.nextSeq {cls id c : Nat} (h : Rising s) : Rising (s.nextSeq cls id c).2 := by
  unfold State.nextSeq
  split
  · exact h.setSeq
  · split; exacts [h, h.setSeq]

theorem Rising.setUsed {fwd : Bool} {k : Nat} (h : Rising s) : Rising (s.setUsed fwd k) := .ite h.upd h.upd

theorem Rising.numberOwn {fid : Nat} (h : Rising s) : Rising (s.numberOwn fid) := by
  unfold State.numberOwn
  split
  · exact h
  · split
    · exact h
    · refine .ite h ?_
      extract_lets +onlyGivenNames _ _ _ _ _
      split
      · exact h.setUsed.onFrame
      · exact .onFrame (by split; exacts [h.setUsed, h.setUsed.nextSeq])

theorem Rising.startTx {n fid : Nat} {crossing : Bool} (h : Rising s) : Rising (s.startTx n fid crossing) := by
  unfold State.startTx
  split; exacts [h, h.numberOwn.emit.onLane]

theorem Rising.dropItem {n fid : Nat} (h : Rising s) : Rising (s.dropItem n fid) := h.onLane.gc

theorem Rising.dropAged {n k : Nat} {q : List QItem} (h : Rising s) : Rising (s.dropAged n q k).1 := by
  induction k generalizing s q with
  | zero => rw [State.dropAged]; exact h
  | succ k ih =>
    unfold State.dropAged
    split
    · exact h
    · split
      · exact h
      · split
        · exact ih h.dropItem.bump.raise.recordSec
        · exact h

theorem Rising.resumeTx {n : Nat} (h : Rising s) : Rising (s.resumeTx n) := by
  unfold State.resumeTx
  split
  · exact h
  · split; exacts [h.onLane, .ite (.ite h.emit.onLane.endTx h) (.ite h.emit.onLane h)]

theorem Rising.purgeLane {n : Nat} (h : Rising s) : Rising (s.purgeLane n) := .foldl h fun h => .ite h h.dropItem

theorem Rising.refuseOwn {n fid code : Nat} (h : Rising s) : Rising (s.refuseOwn n fid code) := by
  unfold State.refuseOwn
  split
  · exact h
  · refine .dropItem ?_
    split
    · refine .ite h.onFrame (.ite h.onFrame.bump.raise.recordGen ?_)
      split; exacts [h.onFrame.bump.raise.recordGen, h.onFrame.bump.recordGen]
    · exact h.onFrame

theorem Rising.dropLate {n : Nat} {q : List QItem} (h : Rising s) : Rising (s.dropLate n q) := by
  induction q generalizing s with
  | nil => exact h
  | cons it q ih =>
    unfold State.dropLate
    split
    · exact h
    · exact .ite h (ih h.refuseOwn)

theorem Rising.startHead {t : State} {n : Nat} {q : List QItem} {ok : QItem → PFrame → Bool} (h : Rising s) (e : s.startHead n q ok = some t) :
    Rising t := by
  unfold State.startHead at e
  split at e
  · cases e
  · split at e
    · cases e; exact h.dropItem
    · split at e
      · cases e; exact h.startTx.onLane
      · cases e

theorem Rising.chooseTx {n : Nat} (h : Rising s) : Rising (s.chooseTx n) := by
  refine .ite (.ite h.resumeTx h) ?_
  extract_lets +onlyGivenNames t l
  have ht : Rising t := h.dropLate
  split
  next u e =>
    rcases (Option.orElse_eq_some _ _ _).mp e with e | ⟨-, e⟩
    · exact ht.startHead e
    · exact ht.startHead e
  next =>
    refine .ite ht.resumeTx ?_
    extract_lets +onlyGivenNames pass
    split
    next u qm e =>
    split
    next v qb e' =>
    have hv : Rising v := .fst (Rising.dropAged (.fst ht.dropAged e)) e'
    extract_lets +onlyGivenNames ok mFirst a b
    split
    next w e => exact hv.startHead e
    next =>
      refine .ite ?_ hv
      cases e : v.startHead n b ok with
      | none => exact hv
      | some w => exact hv.startHead e

theorem Rising.enqueue {n fid : Nat} {exempt crossing : Bool} (h : Rising s) : Rising (s.enqueue n fid exempt crossing) := by
  unfold State.enqueue
  split
  · exact h
  · extract_lets +onlyGivenNames _ _
    split; exacts [.ite h.onLane (.ite h.onLane h.bump.raise), .ite h.onLane h.bump.raise, h.onLane]

theorem Rising.originate {bytes : Bytes} {lanes : List Nat} {exempt : Bool} {code : Nat} {g : PFrame → PFrame} (h : Rising s) : Rising (s.originate
    bytes lanes exempt code g) := by
  refine .ite h ?_
  extract_lets +onlyGivenNames _
  split
  next => exact h.refuseBuf
  next fid s e => exact .gc (.foldl (.foldl (.onFrame (h.enterPool e)) fun h => h.enqueue) fun h => h.advance.chooseTx)

theorem Rising.flushLane {n : Nat} (h : Rising s) : Rising (s.flushLane n) := .foldl h.onLane fun h => h.gc

theorem Rising.badFrame {fid : Nat} (h : Rising s) : Rising (s.badFrame fid) :=
  .gc (.onFrame (.bumpBy (.foldl h.onFrame fun h => .ite h.bumpBy.onLane.advance (.ite h.bumpBy.onLane.chooseTx h.bumpBy.onLane))))

theorem Rising.stallFrame {fid : Nat} (h : Rising s) : Rising (s.stallFrame fid) := .foldl h.badFrame fun h => h.onLane

theorem Rising.setPoolByte {a : Nat} {v : Byte} (h : Rising s) : Rising (s.setPoolByte a v) := by
  unfold State.setPoolByte
  split; exacts [h, .ite h (.ite h.onFrame (.ite h.onFrame h.upd))]

/-! Machine/Joint.lean -/

theorem Rising.refreshInau (h : Rising s) : Rising s.refreshInau := h.put
theorem Rising.restLane {n : Nat} (h : Rising s) : Rising (s.restLane n) := h.setLaneSt.put.emit

theorem Rising.abortRx {r : Option RxFrame} (h : Rising s) : Rising (s.abortRx r) := by
  unfold State.abortRx
  split; exacts [h.badFrame, h]

theorem Rising.dropLane {n : Nat} (h : Rising s) : Rising (s.dropLane n) := h.abortRx.abortRx.bumpBy.advance.flushLane.onLane.put.put.put.put.put.put
theorem Rising.refreshHop (h : Rising s) : Rising s.refreshHop := .ite (.recordGen (.ite h.putB h.putB.raise)) h.putB
theorem Rising.dropPd {n : Nat} (h : Rising s) : Rising (s.dropPd n) := h.put.put.onLane.putB.refreshHop

theorem Rising.markChange {e : Option Nat} (h : Rising s) : Rising (s.markChange e) := by
  unfold State.markChange
  extract_lets +onlyGivenNames _ _ _ _ _
  split
  · exact .refreshInau (.ite h.upd.secondFault h.upd)
  · exact .refreshInau (.onEnd (.ite h.upd.secondFault h.upd))

theorem Rising.jointLost {e : Nat} (h : Rising s) : Rising (s.jointLost e) := .ite h.onEnd.record h.markChange

theorem Rising.checkQuarantine {e : Nat} (h : Rising s) : Rising (s.checkQuarantine e) := by
  refine .ite h ?_
  extract_lets +onlyGivenNames _ _ t _
  have ht : Rising t := .foldl h.onEnd.record fun h => .onLane (.restLane (.ite h.onLane.dropLane.dropPd.raise h))
  exact .ite ht.onEnd.jointLost ht.onEnd

theorem Rising.jointGone {e : Nat} (h : Rising s) : Rising (s.jointGone e) := h.jointLost.checkQuarantine

theorem Rising.jointChange {e : Option Nat} (h : Rising s) : Rising (s.jointChange e) := by
  unfold State.jointChange
  extract_lets +onlyGivenNames _
  split; exacts [h.markChange.checkQuarantine, h.markChange]

theorem Rising.refreshIsolation {e : Nat} (h : Rising s) : Rising (s.refreshIsolation e) :=
  .ite h.onEnd (.ite h (.ite h.onEnd.purgeLane.purgeLane.record h.onEnd))

theorem Rising.judgeJoint {e : Nat} (h : Rising s) : Rising (s.judgeJoint e) :=
  .refreshIsolation (.ite (.ite (.ite h.onEnd.onEnd.record h.onEnd.onEnd.jointChange) h.onEnd.jointChange) (.ite h.onEnd.jointGone h.onEnd))

theorem Rising.judgePair {e : Nat} (h : Rising s) : Rising (s.judgePair e) := .ite h.onLane.purgeLane.record (.ite h.onLane.onLane h)
theorem Rising.judgeLane {n : Nat} (h : Rising s) : Rising (s.judgeLane n) := h.onLane.judgePair.judgeJoint
theorem Rising.leaveActive {n : Nat} (h : Rising s) : Rising (s.leaveActive n) := h.onLane.dropLane.dropPd.restLane.raise.judgeLane
theorem Rising.retrain {n : Nat} (h : Rising s) : Rising (s.retrain n) := h.leaveActive.bump.record
theorem Rising.codeErrors {n k : Nat} (h : Rising s) : Rising (s.codeErrors n k) := .ite h h.bumpBy.onLane
theorem Rising.judgeErrors {n : Nat} (h : Rising s) : Rising (s.judgeErrors n) := .ite h.retrain h

/-! Machine/Ports.lean -/

theorem Rising.onPort {p : Nat} {f : PortS → PortS} (h : Rising s) : Rising (s.onPort p f) := h.upd

theorem Rising.routeOut {cls : Cls} {dst : Nat} {line? : Option Nat} (h : Rising s) : Rising (s.routeOut cls dst line?).2 := by
  unfold State.routeOut
  split
  · exact h
  · refine List.foldlRecOn (motive := fun p : List Nat × State => Rising p.2) _ _ h fun acc ih e _ => ?_
    split
    · exact .ite ih ih.bump
    · split
      · exact ih
      · split
        · exact ih
        · exact .ite ih.bump ih

theorem Rising.routeFrame {fid : Nat} {c : Cls} {dst : Nat} {bytes : Bytes} (h : Rising s) : Rising (s.routeFrame fid c dst bytes) :=
  .foldl (.foldl h.onFrame.routeOut.onFrame fun h => h.enqueue) fun h => h.advance.chooseTx

theorem Rising.frameTo {dst mask : Nat} {c : Cls} {code : Nat} {data : Bytes} (h : Rising s) : Rising (s.frameTo dst mask c code data) := h.stackSend
theorem Rising.frameUp {mask : Nat} {c : Cls} {code : Nat} {data : Bytes} (h : Rising s) : Rising (s.frameUp mask c code data) := h.frameTo
theorem Rising.toMembers {n : Nat} {f : Bytes} (h : Rising s) : Rising (s.toMembers n f) := .foldl h fun h => h.frameTo
theorem Rising.hostPut {addr : Nat} {b : Bytes} (h : Rising s) : Rising (s.hostPut addr b) := .foldl h fun h => h.emit

theorem Rising.dropFetch {x : Fetch} (h : Rising s) : Rising (s.dropFetch x) := by
  unfold State.dropFetch
  split; exacts [h.onFrame.gc, h.freeFrame, h]

theorem Rising.issueReads (h : Rising s) : Rising s.issueReads := .foldl h.upd fun h => h.emit
theorem Rising.fetch {k : Fetch} {reads : List (Nat × Nat)} (h : Rising s) : Rising (s.fetch k reads) := h.upd.issueReads
theorem Rising.setMod {p : Nat} {k : Bool × Nat} {m : Nat × Option Nat} (h : Rising s) : Rising (s.setMod p k m) := h.onPort

theorem Rising.ringDone {p : Nat} {tx : Bool} {q : Nat} (h : Rising s) : Rising (s.ringDone p tx q) := by
  unfold State.ringDone
  extract_lets +onlyGivenNames _ _
  split; exact .ite h.setMod.raise h.setMod

theorem Rising.passHead {p : Nat} {tx : Bool} {q idx n : Nat} (h : Rising s) : Rising (s.passHead p tx q idx n) :=
  .foldl h.onPort fun h => (by split; exacts [h, h.onPort.put])

theorem Rising.toRing {p q fid : Nat} {data : Bytes} {ts tci stat : Nat} (h : Rising s) : Rising (s.toRing p q fid data ts tci stat) :=
  .ite h.bump.bump.raise h.onFrame.fetch

theorem Rising.rxWrite {p q idx n fid : Nat} {data : Bytes} {ts tci stat : Nat} {descs : Bytes} (h : Rising s) : Rising (s.rxWrite p q idx n fid
    data ts tci stat descs) :=
  .ringDone (.upd (.passHead (.foldl (.foldl h fun h => h.hostPut) fun h => h.hostPut)))

theorem Rising.rxTaken {p q : Nat} (h : Rising s) : Rising (s.rxTaken p q) := .foldl h.upd fun h => h.onFrame.gc

theorem Rising.backNow {p : Nat} {h : HostTx} {result : Nat} {ts : Option Nat} (hs : Rising s) : Rising (s.backNow p h result ts) :=
  .ringDone (.passHead (.foldl hs fun h => h.hostPut))

theorem Rising.writeBack {p : Nat} {h : HostTx} {result : Nat} {ts : Option Nat} (hs : Rising s) : Rising (s.writeBack p h result ts) :=
  .ite hs.upd hs.backNow

theorem Rising.endCopy {p fid : Nat} (h : Rising s) : Rising (s.endCopy p fid) := h.onFrame.gc
theorem Rising.flushItem {p : Nat} {it : PItem} (h : Rising s) : Rising (s.flushItem p it) := .endCopy (by split; exacts [h.writeBack, h.bump])

theorem Rising.pushTx {p : Nat} {it : PItem} (h : Rising s) : Rising (s.pushTx p it) :=
  .ite h.onFrame.bump.endCopy (.ite h.onFrame.flushItem h.onFrame.onPort)

theorem Rising.sendEth {p : Nat} {data : Bytes} {q : Nat} {ptp : Option (Nat × Nat)} {launch : Option Nat} {cor code claim : Nat} (h : Rising s)
    : Rising (s.sendEth p data q ptp launch cor code claim) := by
  unfold State.sendEth
  extract_lets +onlyGivenNames _ _ _
  split
  next => exact h.refuseBuf
  next fid s e => exact .gc (.pushTx (h.enterPool e))

theorem Rising.flushPause {p : Nat} (h : Rising s) : Rising (s.flushPause p) := .ite h (.onPort (.foldl h fun h => h.emit.bump))
theorem Rising.checkXoff {p : Nat} (h : Rising s) : Rising (s.checkXoff p) := .ite h.onPort (.ite h.onPort.flushPause h)

/-! Machine/Consist.lean -/

theorem Rising.linkDown {p : Nat} (h : Rising s) : Rising (s.linkDown p) := by
  refine .ite h (.record (.raise (.foldl (.put (.put (.foldl (.onPort (.foldl h fun h => ?_)) fun h => .endCopy ?_))) fun h => h.flushItem)))
  · split
    · exact h.freeFrame
    · exact h
  · split
    · exact h.emit.writeBack
    · exact h.emit

theorem Rising.linkGain {p speed : Nat} (h : Rising s) : Rising (s.linkGain p speed) :=
  .record (.raise (.ite h.put.put.put.put.putB.onPort.emit h.put.put.put.put.putB.onPort))

theorem Rising.takeLink {p speed : Nat} {full : Bool} (h : Rising s) : Rising (s.takeLink p speed full) :=
  .ite h (.ite (.ite h.put.linkDown.put.onPort h.put.linkDown.put.onPort.record) (.ite h.put.linkGain (.ite h.put h.put.linkDown.linkGain)))

theorem Rising.openRx {p : Nat} {latch : Bytes} {stamp : Nat} (h : Rising s) : Rising (s.openRx p latch stamp) := .onPort (.ite h.bump h)
theorem Rising.rxBytes {p : Nat} {bs : Bytes} (h : Rising s) : Rising (s.rxBytes p bs) := h.onPort
theorem Rising.dropEth {p : Nat} (h : Rising s) : Rising (s.dropEth p) := .onPort (by split; exacts [h.freeFrame, h])

theorem Rising.drawEth {p : Nat} (h : Rising s) : Rising (s.drawEth p) := by
  unfold State.drawEth
  split
  · exact h
  · refine .ite h ?_
    split
    · exact h.dropEth.bump.raise.recordSec
    · exact .checkXoff (.refreshFloor (.upd (by split; exacts [h.onFrame, h.upd.onPort])))

theorem Rising.drawNeeded {p k : Nat} (h : Rising s) : Rising (s.drawNeeded p k) := by
  induction k generalizing s with
  | zero => exact h
  | succ k ih =>
    unfold State.drawNeeded
    split
    · exact h
    · exact .ite h (ih h.drawEth)

theorem Rising.bbCopy {p fid : Nat} {c : Cls} {dst pmask : Nat} {data : Bytes} (h : Rising s) : Rising (s.bbCopy p fid c dst pmask data) :=
  .ite h.bump.recordSec (.ite h (.ite h.frameUp (.ite h.bump h.routeFrame)))

theorem Rising.acceptEth {p : Nat} {r : EthRx} (h : Rising s) : Rising (s.acceptEth p r) := by
  unfold State.acceptEth
  extract_lets +onlyGivenNames _
  split
  · exact h.bump
  · refine .gc (.onFrame (.foldl ?_ fun h => .ite h.pushTx h))
    cases r.dest.bb <;> cases r.dest.host
    · exact h.bump.onFrame
    · exact h.bump.onFrame.toRing
    · exact h.bump.onFrame.bbCopy
    · exact h.bump.onFrame.bbCopy.toRing

theorem Rising.endRx {p : Nat} {bs : Bytes} {err : Bool} {stamp : Nat} (h : Rising s) : Rising (s.endRx p bs err stamp) := by
  unfold State.endRx
  extract_lets +onlyGivenNames t
  have ht : Rising t := by
    unfold t
    split; exacts [h.rxBytes, .ite h h.openRx.rxBytes]
  split
  · exact ht.bump
  · extract_lets +onlyGivenNames _ _
    split
    · exact .ite ht ht.drawNeeded
    · exact .ite (.onPort (.dropEth (.ite ht ht.drawNeeded))) (.ite (.bump (.onPort (.dropEth (.ite ht ht.drawNeeded)))) (.ite (.bump (.onPort
        (.dropEth (.ite ht ht.drawNeeded)))) (.ite (.bump (.onPort (.dropEth (.ite ht ht.drawNeeded)))) (.ite (.ite (.onPort (.dropEth (.ite ht
        ht.drawNeeded))) (.bump (.onPort (.dropEth (.ite ht ht.drawNeeded))))) (.acceptEth (.onPort (.ite ht ht.drawNeeded)))))))

theorem Rising.smdError {p : Nat} (h : Rising s) : Rising (s.smdError p) := .bump (.onPort (by split; exacts [h.freeFrame, h]))
theorem Rising.reopenFrag {p : Nat} {g : EthFrag} (h : Rising s) : Rising (s.reopenFrag p g) := h.onPort

theorem Rising.endFragment {p : Nat} {early bs : Bytes} {err : Bool} {stamp frame next : Nat} (h : Rising s) : Rising (s.endFragment p early bs err
    stamp frame next) :=
  .ite h.endRx h.onPort

theorem Rising.endPacket {p : Nat} {bs : Bytes} {err : Bool} {stamp : Nat} {k : Mpacket} (h : Rising s) : Rising (s.endPacket p bs err stamp k) := by
  unfold State.endPacket
  split
  · exact h.endRx
  · exact .ite h.bump h.emit
  · exact .ite h.bump (.ite h h.onPort.put)
  · exact .endFragment (.ite h.smdError h)
  · split
    · split; exacts [h.smdError, .ite h.endFragment h.dropEth.onPort.smdError]
    · exact .ite h.reopenFrag.endFragment h.dropEth.onPort.smdError
  · exact h.dropEth.onPort.smdError

theorem Rising.decideRx {p : Nat} {latch : Bytes} {stamp : Nat} (h : Rising s) : Rising (s.decideRx p latch stamp) := by
  unfold State.decideRx
  split; exacts [.ite h.openRx.onPort h.openRx, h.openRx]

theorem Rising.openCont {p : Nat} (h : Rising s) : Rising (s.openCont p) := by
  unfold State.openCont
  split
  · split; exacts [h.onPort, h]
  · exact h

theorem Rising.startEth {p : Nat} {it : PItem} (h : Rising s) : Rising (s.startEth p it) := .onPort (.ite h.bump h)

theorem Rising.runEth {p : Nat} (h : Rising s) : Rising (s.runEth p) := by
  refine .ite h.flushPause (.ite ?_ ?_)
  · split; exacts [.ite h.flushPause (.ite h.flushPause.onPort h.flushPause), h.flushPause]
  · extract_lets +onlyGivenNames _ _
    split
    · split; exacts [.ite h.flushPause.onPort.startEth h.flushPause, h.flushPause]
    · split
      · split; exacts [h.flushPause.startEth, .ite h.flushPause.onPort h.flushPause]
      · split; exacts [h.flushPause.startEth, h.flushPause]

theorem Rising.endEth {t : State} {p : Nat} {x : PTx} (h : Rising s) (e : s.endEth p = some (x, t)) : Rising t := by
  obtain ⟨b, -, hb⟩ := Option.map_eq_some_iff.mp e
  refine .snd (p := (_, _)) (.flushPause (.endCopy ?_)) hb
  split
  · exact h.reach.emit.bump.onPort.writeBack
  · exact h.reach.emit.bump.onPort

theorem Rising.takePause {p quanta : Nat} (h : Rising s) : Rising (s.takePause p quanta) :=
  .ite h.bump (.ite h.bump.onPort.put.runEth h.bump.onPort.put)

theorem Rising.endHold {p : Nat} (h : Rising s) : Rising (s.endHold p) := h.onPort.put.runEth

theorem Rising.fetchTx {p q : Nat} {descs : Bytes} (h : Rising s) : Rising (s.fetchTx p q descs) := by
  refine .ite h ?_
  split
  · exact h.onPort
  · exact .ite h.onPort.writeBack h.onPort.writeBack.recordSec
  · refine .ite h.onPort.writeBack ?_
    extract_lets +onlyGivenNames _ _
    split
    next => exact .ite h h.bump.onPort
    next fid s e => exact .fetch (.onPort (h.enterPool e))

theorem Rising.queueTx {p : Nat} {h : HostTx} {fcsins : Bool} {fid : Nat} {data : Bytes} (hs : Rising s) : Rising (s.queueTx p h fcsins fid data) :=
  .ite hs.writeBack.bump.freeFrame hs.onFrame.pushTx.gc

theorem Rising.takeRule {p r v : Nat} (h : Rising s) : Rising (s.takeRule p r v) := h.put.onPort

theorem Rising.writeRingCfg {p : Nat} {tx : Bool} {q v : Nat} (h : Rising s) : Rising (s.writeRingCfg p tx q v) :=
  .ite h.storeWord.put.onPort h.storeWord

theorem Rising.writeMdio {p v : Nat} (h : Rising s) : Rising (s.writeMdio p v) := .ite h.put (.ite h.storeWord h.storeWord.put.emit.onPort)
theorem Rising.writeConsCtrl {p v : Nat} (h : Rising s) : Rising (s.writeConsCtrl p v) := .ite h.storeWord h.storeWord.linkDown.put

theorem Completes.consistLinkUp {port : Port} {speed : Fin 3} {fullDuplex : Bool} : Completes s (execConsistLinkUp port speed fullDuplex s) :=
  .liveActive (.done fun h => h.takeLink)

theorem Completes.consistLinkDown {port : Port} {sync : Bool} : Completes s (execConsistLinkDown port sync s) :=
  .liveActive (.done fun h => h.linkDown.putB.onPort)

theorem Completes.consistSteeringDecision {port : Port} {latch : Bytes} {ago : Nat} : Completes s (execConsistSteeringDecision port latch ago s) :=
  .liveActive (.done fun h => .ite h.decideRx h)

theorem Completes.consistBufferDraw {port : Port} {bytes : Bytes} : Completes s (execConsistBufferDraw port bytes s) :=
  .liveActive (.done fun h => .ite h.openCont.rxBytes.drawEth h.openCont)

theorem Completes.consistGiantByte {port : Port} {bytes : Bytes} : Completes s (execConsistGiantByte port bytes s) := by
  refine .liveActive (.done fun h => ?_)
  split; exacts [h.openCont, .ite h.openCont h.openCont.rxBytes.dropEth.bump]

theorem Completes.consistFrameEnd {port : Port} {bytes : Bytes} {ending : EthEnd} {ago : Nat} : Completes s (execConsistFrameEnd port bytes ending
    ago s) :=
  .liveActive (.done fun h => .ite h.endPacket h)

theorem Completes.filterRuleCommit {port : Port} {rule : Fin 64} {value : Word} : Completes s (execFilterRuleCommit port rule value s) :=
  .live (.done fun h => h.takeRule)

theorem Completes.consistTxFrameStart {port : Port} : Completes s (execConsistTxFrameStart port s) := .liveActive (.done fun h => h.runEth)

theorem Completes.telegramLaunch {port : Port} : Completes s (execTelegramLaunch port s) :=
  .liveActive (.done fun h => (by split; exacts [h, h.reach.runEth]))

theorem Completes.preemptionVerifyResult {port : Port} {ok : Bool} : Completes s (execPreemptionVerifyResult port ok s) :=
  .liveActive (.done fun h => .ite h (.ite h.onPort.put h.onPort.put.raise.record))

theorem Completes.pauseReceived {port : Port} {quanta : BitVec 16} : Completes s (execPauseReceived port quanta s) :=
  .liveActive (.done fun h => .ite h.takePause h)

theorem Completes.pauseHoldExpiry {port : Port} : Completes s (execPauseHoldExpiry port s) :=
  .liveActive (.done fun h => (by split; exacts [h, h.reach.endHold]))

theorem Completes.pauseRepeatTimer {port : Port} : Completes s (execPauseRepeatTimer port s) := by
  refine .liveActive (.done fun h => ?_)
  split; exacts [h, .ite h.reach.onPort (.ite h.reach.onPort.flushPause h.reach)]

theorem Completes.pauseXonReached {port : Port} : Completes s (execPauseXonReached port s) := .liveActive (.done fun h => .ite h.onPort.flushPause h)

theorem Completes.pauseWatchdogTrip {port : Port} : Completes s (execPauseWatchdogTrip port s) := by
  refine .liveActive (.done fun h => ?_)
  split; exacts [.ite h h.reach.onPort.put.bump.record.raise.endHold, h]

theorem Completes.pauseWatchdogEnd {port : Port} : Completes s (execPauseWatchdogEnd port s) :=
  .liveActive (.done fun h => (by split; exacts [h, h.reach.onPort.put]))

theorem Completes.txRingFetchStart {port : Port} {queue : Fin 8} {descs : Bytes} : Completes s (execTxRingFetchStart port queue descs s) :=
  .liveActive (.done fun h => h.fetchTx)

theorem Completes.ringEnableWrite {port : Port} {tx : Bool} {queue : Fin 8} {value : Word} : Completes s (execRingEnableWrite port tx queue value s)
    :=
  .live (.done fun h => h.writeRingCfg)

theorem Completes.ringIrqModeration {port : Port} {tx : Bool} {queue : Fin 8} : Completes s (execRingIrqModeration port tx queue s) :=
  .liveActive (.done fun h => (by split; exacts [h.reach.setMod.raise, h]))

theorem Completes.mdioFrameStart {port : Port} {value : Word} : Completes s (execMdioFrameStart port value s) :=
  .liveActive (.done fun h => h.writeMdio)

theorem Completes.mdioFrameEnd {port : Port} {driven : Bool} {data : BitVec 16} : Completes s (execMdioFrameEnd port driven data s) := by
  refine .liveActive (.done fun h => ?_)
  split; exacts [h, .raise (.ite h.reach.onPort.put.put.putB h.reach.onPort.put)]

/-! Machine/Interlock.lean -/

theorem Rising.refreshAct (h : Rising s) : Rising s.refreshAct := h.put
theorem Rising.requestAct {a : Act} (h : Rising s) : Rising (s.requestAct a) := .ite h (.ite h.upd.refreshAct h.upd.bump)
theorem Rising.pacePending (h : Rising s) : Rising s.pacePending := .ite h.upd.put h
theorem Rising.endAct {a : Act} (h : Rising s) : Rising (s.endAct a) := h.upd.refreshAct.pacePending
theorem Rising.suspendAct (h : Rising s) : Rising s.suspendAct := h.put.raise.record

/-! Machine/Lanes.lean -/

theorem Rising.sendCr {n : Nat} (h : Rising s) : Rising (s.sendCr n) := h.onLane.insertSet
theorem Rising.refreshOcc {n : Nat} (h : Rising s) : Rising (s.refreshOcc n) := .ite h.put.putB h.put.putB.sendCr
theorem Rising.endTrailing {n : Nat} (h : Rising s) : Rising (s.endTrailing n) := h.onLane

theorem Rising.endAsEb {n : Nat} (h : Rising s) : Rising (s.endAsEb n) := by
  unfold State.endAsEb
  split; exacts [h, h.abortRx.onLane.refreshOcc]

theorem Rising.cutOpen {n : Nat} (h : Rising s) : Rising (s.cutOpen n) := by
  unfold State.cutOpen
  split; exacts [h, .ite h.endAsEb (.ite h.endAsEb.bump h.endAsEb.bump)]

theorem Rising.endHeldAsEb {n : Nat} (h : Rising s) : Rising (s.endHeldAsEb n) := h.abortRx.onLane.put.refreshOcc
theorem Rising.protoErr {n : Nat} (h : Rising s) : Rising (s.protoErr n) := h.bump.raise

theorem Rising.takeBytes {n : Nat} {bs : Bytes} (h : Rising s) : Rising (s.takeBytes n bs) := by
  unfold State.takeBytes
  split; exacts [.ite h h.put.onLane, .ite h.put.onLane.endHeldAsEb.protoErr h.put.onLane]

theorem Rising.passRest {n : Nat} {bs : Bytes} (h : Rising s) : Rising (s.passRest n bs) := h.takeBytes.onLane.refreshOcc

theorem Rising.startResync {n : Nat} (h : Rising s) : Rising (s.startResync n) :=
  .ite h.abortRx.abortRx.onLane.put.refreshOcc.secondFault h.abortRx.abortRx.onLane.put.refreshOcc.onLane.bump.raise.record.insertSet

theorem Rising.runTx {n : Nat} (h : Rising s) : Rising (s.runTx n) := h.advance.chooseTx
theorem Rising.preemptCopies {fid k : Nat} (h : Rising s) : Rising (s.preemptCopies fid k) := .foldl h fun h => h.onLane.runTx

theorem Rising.writeLaneCtrl {n v : Nat} (h : Rising s) : Rising (s.writeLaneCtrl n v) := by
  unfold State.writeLaneCtrl
  extract_lets +onlyGivenNames _ _ _ t
  have ht : Rising t := .ite (.ite h.storeWord.leaveActive h.storeWord.restLane) (.ite h.storeWord.restLane h.storeWord)
  refine .ite ht ?_
  split; exacts [ht.retrain, ht.retrain, ht.restLane, ht.restLane, ht.restLane, ht.restLane, ht]

theorem Rising.enterActive {n : Nat} (h : Rising s) : Rising (s.enterActive n) :=
  .ite h.setLaneSt.put.put.put.put.onLane.emit.emit.record.raise.record h.setLaneSt.put.put.put.put.onLane.emit.emit.record.raise

theorem Rising.tryActive {n : Nat} (h : Rising s) : Rising (s.tryActive n) := .ite h.enterActive h
theorem Rising.tryConfirm {n : Nat} (h : Rising s) : Rising (s.tryConfirm n) := .ite h.setLaneSt.onLane.emit h

theorem Rising.takeTs {n : Nat} {c : Bytes} (h : Rising s) : Rising (s.takeTs n c) := by
  unfold State.takeTs
  extract_lets +onlyGivenNames _ _ _
  split
  · exact .ite h.putB.putB.put.onLane.setLaneSt.onLane h.putB.putB.put.onLane
  · exact .ite h.putB.putB.onLane.tryConfirm h.putB.putB
  · exact h.putB.putB.onLane.tryActive
  · exact .ite h.putB.putB h.putB.putB.retrain
  · exact .ite h.putB.putB h.putB.putB.retrain
  · exact h.putB.putB

theorem Rising.badTs {n k : Nat} (h : Rising s) : Rising (s.badTs n k) := h.codeErrors.onLane.judgeErrors

theorem Completes.laneEnableWrite {lane : Lane} {value : Word} : Completes s (execLaneEnableWrite lane value s) :=
  .live (.done fun h => h.writeLaneCtrl)

theorem Completes.laneRetrainWrite {lane : Lane} {value : Word} : Completes s (execLaneRetrainWrite lane value s) :=
  .live (.done fun h => h.writeLaneCtrl)

theorem Completes.laneSignalDetect {lane : Lane} : Completes s (execLaneSignalDetect lane s) := .live (.done fun h => .ite h.put.setLaneSt h.put)

theorem Completes.detectSignalStable {lane : Lane} : Completes s (execDetectSignalStable lane s) :=
  .live (.done fun h => .ite h.reach.setLaneSt.onLane h)

theorem Completes.detectSignalAbsent {lane : Lane} : Completes s (execDetectSignalAbsent lane s) := .live (.done fun h => .ite h.put.setLaneSt h.put)

theorem Completes.trainingSetReceived {lane : Lane} {line : TsLine} {chars : Bytes} : Completes s (execTrainingSetReceived lane line chars s) :=
  .live (.done fun h => .ite (.takeTs (.ite h.endTrailing h)) (.badTs (.ite h.endTrailing h)))

theorem Completes.receiverAdapted {lane : Lane} {ctle : Nat} {dfe1 dfe2 dfe3 : Byte} : Completes s (execReceiverAdapted lane ctle dfe1 dfe2 dfe3 s) :=
  .live (.done fun h => .ite h.put.put.put.put.put.emit.tryConfirm h)

theorem Completes.trainingTimeout {lane : Lane} : Completes s (execTrainingTimeout lane s) := by
  refine .live (.done fun h => ?_)
  split; exacts [h, h.reach.bump.raise.record.restLane.setLaneSt]

theorem Completes.laneSignalLoss {lane : Lane} : Completes s (execLaneSignalLoss lane s) := .live (.done fun h => .ite h.put.put.retrain h.put.put)
theorem Completes.laneAlignmentLoss {lane : Lane} : Completes s (execLaneAlignmentLoss lane s) := .live (.done fun h => .ite h.put.retrain h.put)

theorem Completes.codeErrorThreshold {lane : Lane} {seen : CodeErrors} : Completes s (execCodeErrorThreshold lane seen s) :=
  .live (.done fun h => h.codeErrors.judgeErrors)

theorem Completes.creditReturnReceived {lane : Lane} {f1 f2 nf : Byte} : Completes s (execCreditReturnReceived lane f1 f2 nf s) :=
  .live (.done fun h => .ite (.ite h.endTrailing.put.runTx h.endTrailing.bump) h)

theorem Completes.creditReturnTimer {lane : Lane} : Completes s (execCreditReturnTimer lane s) := .live (.done fun h => .ite h.sendCr h)

theorem Completes.laneSfReceived {lane : Lane} {debit : Byte} : Completes s (execLaneSfReceived lane debit s) :=
  .live (.done fun h => .ite (.ite h.endTrailing.cutOpen.onLane.startResync h.endTrailing.cutOpen.onLane.onLane) h)

theorem Completes.crsReqReceived {lane : Lane} {code value check : Byte} : Completes s (execCrsReqReceived lane code value check s) := by
  refine .live (.done fun h => .ite (.onLane (.setLaneSt (.emit ?_))) h)
  split
  · exact .gc (.onLane (.ite h.endTrailing.advance.emit h.endTrailing.advance.endTx))
  · exact .ite h.endTrailing.advance.emit h.endTrailing.advance.endTx

theorem Completes.crsAckReceived {lane : Lane} {code value check : Byte} : Completes s (execCrsAckReceived lane code value check s) :=
  .live (.done fun h => .ite (.emit (.onLane (.ite h.endTrailing h))) (.ite h.endTrailing h))

theorem Completes.resyncBufferDrained {lane : Lane} : Completes s (execResyncBufferDrained lane s) := by
  refine .live (.done fun h => ?_)
  split; exacts [h, .ite h h.put.onLane.sendCr.insertSet]

theorem Completes.crsDoneReceived {lane : Lane} {code value check : Byte} : Completes s (execCrsDoneReceived lane code value check s) :=
  .live (.done fun h => .ite (.runTx (.setLaneSt (.onLane (.put (.ite h.endTrailing h))))) (.ite h.endTrailing h))

theorem Completes.creditResyncTimeout {lane : Lane} : Completes s (execCreditResyncTimeout lane s) := by
  refine .live (.done fun h => ?_)
  split; exacts [h, h.reach.record.retrain, h.reach.record.retrain, h.reach.record.retrain]

theorem Completes.strayDataCharacter {lane : Lane} {char : Byte} : Completes s (execStrayDataCharacter lane char s) :=
  .live (.done fun h => .ite h.onLane.put.codeErrors.startResync.judgeErrors h)

theorem Completes.preemptReceived {lane : Lane} {bytes : Bytes} : Completes s (execPreemptReceived lane bytes s) := by
  refine .live (.done fun h => ?_)
  split
  · exact h.passRest
  · extract_lets +onlyGivenNames _
    split
    · exact h.takeBytes
    · refine .ite (.refreshOcc (.put ?_)) h.takeBytes.endAsEb.protoErr
      split; exacts [h.takeBytes.onLane.onFrame.preemptCopies, h.takeBytes.onLane]

theorem Completes.resumeReceived {lane : Lane} {debit : Byte} : Completes s (execResumeReceived lane debit s) := by
  refine .live (.done fun h => .ite (.ite (.startResync (.ite h.endAsEb.protoErr.onLane h.endAsEb)) ?_) h)
  split
  · exact .ite h.endAsEb.protoErr.onLane h.endAsEb
  · exact .onLane (.put (.ite h.endAsEb.protoErr.onLane h.endAsEb))

theorem Completes.txSourceStall {lane : Lane} : Completes s (execTxSourceStall lane s) := by
  refine .live (.done fun h => ?_)
  split
  · exact h.advance
  · split; exacts [.ite h.advance h.advance.stallFrame.runTx, h.advance]

theorem Completes.egressFrameStart {lane : Lane} : Completes s (execEgressFrameStart lane s) := .live (.done fun h => h.finishTx.chooseTx)

theorem Completes.expressIntervalStart {lane : Lane} : Completes s (execExpressIntervalStart lane s) :=
  .live (.done fun h => (by split; exacts [h, h.reach.advance.chooseTx]))

theorem Completes.giantByteReceived {lane : Lane} {bytes : Bytes} : Completes s (execGiantByteReceived lane bytes s) := by
  refine .live (.done fun h => ?_)
  split
  · exact h.takeBytes.refreshOcc
  · extract_lets +onlyGivenNames _
    split; exacts [h.takeBytes, .ite h.takeBytes.refreshOcc h.takeBytes.abortRx.bump.onLane.refreshOcc]

/-! Machine/Rounds.lean -/

theorem Rising.mailCheck (h : Rising s) : Rising s.mailCheck := .ite h h.put
theorem Rising.onRound {f : Round → Round} (h : Rising s) : Rising (s.onRound f) := h.upd
theorem Rising.noteRnd {r : Nat} (h : Rising s) : Rising (s.noteRnd r) := .ite h.upd h
theorem Rising.stale (h : Rising s) : Rising s.stale := h.bump
theorem Rising.twinEmit {t kind : Nat} {pl : Bytes} (h : Rising s) : Rising (s.twinEmit t kind pl) := .emit (.upd (.ite h.bump.upd h))

theorem Rising.twinPump {k : Nat} (h : Rising s) : Rising (s.twinPump k) := by
  induction k generalizing s with
  | zero => exact h
  | succ k ih =>
    unfold State.twinPump
    split
    · exact h
    · exact .ite h (ih h.upd.twinEmit)

theorem Rising.twinRun (h : Rising s) : Rising s.twinRun := h.twinPump
theorem Rising.twinSend {kind : Nat} {pl : Bytes} (h : Rising s) : Rising (s.twinSend kind pl) := .ite h.twinRun.twinEmit h.twinRun.upd
theorem Rising.fixItem (h : Rising s) : Rising s.fixItem := h.onRound

theorem Rising.sendEntry (h : Rising s) : Rising s.sendEntry := by
  refine .ite ?_ h
  extract_lets +onlyGivenNames _
  split; exacts [h.fixItem, h.fixItem.twinSend]

theorem Rising.sendWave {pl : Bytes} {lanes : List Nat} (h : Rising s) : Rising (s.sendWave pl lanes) := h.originate
theorem Rising.sendRsum {pl : Bytes} {lanes : List Nat} (h : Rising s) : Rising (s.sendRsum pl lanes) := h.originate
theorem Rising.originWave {r : Round} {e : Nat} {loop : Bool} (h : Rising s) : Rising (s.originWave r e loop) := h.sendWave

theorem Rising.originWaves (h : Rising s) : Rising s.originWaves := by
  unfold State.originWaves
  extract_lets +onlyGivenNames _
  split
  · exact .ite h.fixItem h
  · refine .ite (.ite (.ite h.fixItem h) (.originWave (.originWave (.onRound (.ite h.fixItem h))))) ?_
    split
    · exact .upd (.onRound (.ite h.fixItem h))
    · exact .ite (.ite h.fixItem h) (.originWave (.onRound (.ite h.fixItem h)))
    · exact .ite h.fixItem h

theorem Rising.dropPending (h : Rising s) : Rising s.dropPending := h.upd.put.mailCheck

theorem Rising.endRelays (h : Rising s) : Rising s.endRelays := by
  unfold State.endRelays
  extract_lets +onlyGivenNames _
  split; exacts [h.advanceAll, .foldl h.advanceAll fun h => h.badFrame]

theorem Rising.adopt {rnd starter : Nat} {cold : Bool} {ocyc : Nat} (h : Rising s) : Rising (s.adopt rnd starter cold ocyc) :=
  .refreshInau (.ite (.put (.raise (.bump (.upd (.ite h.endRelays.noteRnd.dropPending h.endRelays.noteRnd))))) (.originWaves (.sendEntry (.put
      (.raise (.bump (.upd (.ite h.endRelays.noteRnd.dropPending h.endRelays.noteRnd))))))))

theorem Rising.startRound (h : Rising s) : Rising s.startRound := by
  unfold State.startRound
  extract_lets +onlyGivenNames _ _ _ _ _ _ _ _
  split; exacts [.sendWave (.onRound (.adopt (.bump h.record.upd))), .onRound (.adopt (.bump h.record.upd))]

theorem Rising.tryStart (h : Rising s) : Rising s.tryStart := .ite h.upd (.ite h.upd.refreshInau h.startRound)
theorem Rising.judgeStart (h : Rising s) : Rising s.judgeStart := .ite h.tryStart h.refreshInau

theorem Rising.failRound {start : Bool} (h : Rising s) : Rising (s.failRound start) := by
  unfold State.failRound
  split
  · exact h
  · exact .refreshInau (.ite (.tryStart (.ite (.record (.raise (.put (.ite (.record (.put (.upd (.ite h.onRound h.onRound.secondFault)))) (.upd
      (.ite h.onRound h.onRound.secondFault)))))) (.ite (.record (.put (.upd (.ite h.onRound h.onRound.secondFault)))) (.upd (.ite h.onRound
      h.onRound.secondFault))))) (.ite (.record (.raise (.put (.ite (.record (.put (.upd (.ite h.onRound h.onRound.secondFault)))) (.upd (.ite
      h.onRound h.onRound.secondFault)))))) (.ite (.record (.put (.upd (.ite h.onRound h.onRound.secondFault)))) (.upd (.ite h.onRound
      h.onRound.secondFault)))))

theorem Rising.abandonRound (h : Rising s) : Rising s.abandonRound := h.onRound.bump.upd.refreshInau

theorem Rising.relayStart {e : Nat} (h : Rising s) : Rising (s.relayStart e) := by
  unfold State.relayStart
  split; exacts [h, .ite h.stale h.onRound.sendWave]

theorem Rising.adoptFrom {e rnd starter : Nat} {cold : Bool} {ocyc : Nat} (h : Rising s) : Rising (s.adoptFrom e rnd starter cold ocyc) :=
  h.adopt.relayStart

theorem Rising.takeStart {e : Nat} {pl : Bytes} (h : Rising s) : Rising (s.takeStart e pl) := by
  refine .ite h.noteRnd.adoptFrom (.ite ?_ h.noteRnd.stale)
  split; exacts [.ite (.ite h.noteRnd.onRound h.noteRnd.onRound.originWaves) h.noteRnd.relayStart, h.noteRnd]

theorem Rising.judgeChain (h : Rising s) : Rising s.judgeChain := by
  unfold State.judgeChain
  split
  · exact h
  · refine .ite h (.ite h.record.bump.failRound ?_)
    split; exacts [h, .ite h.onRound.upd h.abandonRound]

theorem Rising.relaySeg {g : Seg} (h : Rising s) : Rising (s.relaySeg g) := by
  unfold State.relaySeg
  split
  · exact h
  · refine .ite h ?_
    extract_lets +onlyGivenNames ps begun t
    have ht : Rising t := h.onRound
    clear_value ps begun t
    split
    · extract_lets +onlyGivenNames full more
      have hfull : ∀ {b rest}, Rising (full t b rest) := .foldl (.foldl ht.onFrame fun h => h.runTx) fun h => h.sendWave
      clear_value full more
      split
      · exact .ite hfull (.ite hfull (.foldl ht.badFrame fun h => h.sendWave))
      · exact .foldl ht fun h => h.sendWave
    · exact .foldl ht fun h => h.sendWave

theorem Rising.beginRelay {n : Nat} {pl : Bytes} (h : Rising s) : Rising (s.beginRelay n pl) := by
  unfold State.beginRelay
  split
  · exact h
  · refine .ite h ?_
    extract_lets +onlyGivenNames _ _ _ _ _
    split
    next => exact h.refuseBuf
    next fid s e => exact .onRound (.foldl (h.enterPool e) fun h => h.enqueue.runTx)

theorem Rising.copyRelay {n fid : Nat} {pl : Bytes} (h : Rising s) : Rising (s.copyRelay n fid pl) := .foldl h.onFrame fun h => h.runTx

theorem Rising.relayWaiting (h : Rising s) : Rising s.relayWaiting := by
  refine .foldl h fun h => ?_
  split
  · exact h
  · split; exacts [h.relaySeg, h]

theorem Rising.countRound {e : Nat} {pl : Bytes} {whole : Bool} (h : Rising s) : Rising (s.countRound e pl whole).1 := by
  unfold State.countRound
  extract_lets +onlyGivenNames _ _ _
  split
  · exact h.noteRnd.adoptFrom
  · split; exacts [h.noteRnd, .ite h.noteRnd.stale h.noteRnd]

theorem Rising.startRelay {n : Nat} {pl : Bytes} (h : Rising s) : Rising (s.startRelay n pl) := by
  unfold State.startRelay
  split
  next s e => exact .fst h.countRound e
  next s e' =>
    extract_lets +onlyGivenNames _
    split
    · exact .fixItem (.fst h.countRound e')
    · refine .ite (.fixItem (.fst h.countRound e')) ?_
      extract_lets +onlyGivenNames _
      split
      · exact .copyRelay (.onRound (.fixItem (.fst h.countRound e')))
      · exact .beginRelay (.onRound (.fixItem (.fst h.countRound e')))

theorem Rising.discardWave {w : Nat × Nat} (h : Rising s) : Rising (s.discardWave w) := h.onRound

theorem Rising.failCopy {n : Nat} {key : Nat × Nat × Nat} (h : Rising s) : Rising (s.failCopy n key) := by
  unfold State.failCopy
  split
  · exact h
  · extract_lets +onlyGivenNames _ _ t
    have ht : Rising t := by
      unfold t
      split
      · exact h.onRound
      · extract_lets +onlyGivenNames _
        split
        · exact h.onRound.badFrame.onRound.relaySeg
        · exact h.onRound.badFrame.onRound.beginRelay
        · exact h.onRound.badFrame.onRound
    exact .ite ht (.ite ht.discardWave ht)

theorem Rising.takeCount {n : Nat} {pl : Bytes} {good : Bool} (h : Rising s) : Rising (s.takeCount n pl good) := by
  refine .ite ?_ ?_
  · split; exacts [h.onRound.failCopy, .ite h.onRound.failCopy h.onRound]
  · split
    next s e => exact .fst h.onRound.countRound e
    next s e' =>
      extract_lets +onlyGivenNames _
      split
      · exact .fixItem (.fst h.onRound.countRound e')
      · exact .ite (.fixItem (.fst h.onRound.countRound e')) (.judgeChain (.relayWaiting (.ite (.relaySeg (.ite (.onRound (.fixItem (.fst
          h.onRound.countRound e'))) (.fixItem (.fst h.onRound.countRound e')))) (.ite (.onRound (.fixItem (.fst h.onRound.countRound e')))
          (.fixItem (.fst h.onRound.countRound e'))))))

theorem Rising.coldDaybreak {h : Held} {rnd : Nat} (hs : Rising s) : Rising (s.coldDaybreak h rnd) := hs.onRound.sendRsum.upd.put
theorem Rising.mergeDaybreak {h : Held} {rnd : Nat} (hs : Rising s) : Rising (s.mergeDaybreak h rnd) := hs.onRound.originate.upd.put

theorem Rising.applyDaybreak {tb : ℤ} {k tt : Nat} {cold bad : Bool} (h : Rising s) : Rising (s.applyDaybreak tb k tt cold bad) := by
  unfold State.applyDaybreak
  split; exacts [h, .put (.upd (.ite h.put.record.upd h))]

theorem Rising.agreed {h : Held} (hs : Rising s) : Rising (s.agreed h) := by
  unfold State.agreed
  split
  · exact hs
  · refine .ite hs.record.failRound ?_
    extract_lets +onlyGivenNames _ _ _ t _
    have ht : Rising t := by
      unfold t
      split; exacts [hs.onRound.raise.upd.mailCheck.put, hs.onRound.raise.upd.mailCheck]
    exact .refreshInau (.ite ht.coldDaybreak (.ite (.ite ht.mergeDaybreak ht.coldDaybreak) (by split; exacts [ht.applyDaybreak, ht])))

theorem Rising.disagree {r : Round} {h : Held} {sum : Nat} (hs : Rising s) : Rising (s.disagree r h sum) :=
  hs.record.bump.raise.onRound.sendRsum.failRound

theorem Rising.judgeAgree {a : Agree} (h : Rising s) : Rising (s.judgeAgree a) := by
  unfold State.judgeAgree
  split
  · exact h
  · split; exacts [h, .ite h (.ite h.onRound.disagree (.ite h.onRound h.onRound.sendRsum))]

theorem Rising.judgeAgrees (h : Rising s) : Rising s.judgeAgrees := by
  unfold State.judgeAgrees
  split
  · exact h
  · extract_lets +onlyGivenNames _
    split
    · exact .foldl h fun h => h.judgeAgree
    · split
      · exact .foldl h fun h => h.judgeAgree
      · exact .ite (.agreed (.foldl h fun h => h.judgeAgree)) (.foldl h fun h => h.judgeAgree)

theorem Rising.originAgree {r : Round} {h : Held} (hs : Rising s) : Rising (s.originAgree r h) :=
  .ite hs.onRound.sendRsum (by split; exacts [hs.onRound.sendRsum, hs.onRound])

theorem Rising.computeEvents {h : Held} (hs : Rising s) : Rising (s.computeEvents h) := .ite (.record (.ite hs.record hs)) (.ite hs.record hs)

theorem Rising.noAdmission {lone : Bool} (h : Rising s) : Rising (s.noAdmission lone) :=
  .refreshInau (.ite (.upd h.onRound.put.raise.put.upd) h.onRound.put.raise.put.upd)

theorem Rising.computed (h : Rising s) : Rising s.computed := by
  unfold State.computed
  split
  · exact h
  · refine .ite h ?_
    split
    · exact h
    · split
      · exact h.noAdmission
      · extract_lets +onlyGivenNames _ _ _ t _
        have ht : Rising t := by
          unfold t
          split
          · exact h.computeEvents.onRound.upd.originAgree
          · exact h.computeEvents.onRound.upd.originAgree
          · exact .ite h.computeEvents.onRound.upd.originAgree h.computeEvents.onRound.upd
        exact .ite ht.refreshInau.agreed ht.refreshInau.judgeAgrees

theorem Rising.rsumRound {rnd : Nat} (h : Rising s) : Rising (s.rsumRound rnd).1 := by
  unfold State.rsumRound
  extract_lets +onlyGivenNames _
  split; exacts [h.noteRnd, h.noteRnd.stale]

theorem Rising.takeAgree {e : Nat} {pl : Bytes} (h : Rising s) : Rising (s.takeAgree e pl) := by
  unfold State.takeAgree
  split
  next s q0 => exact .fst h.rsumRound q0
  next s q1 => exact .ite (.fst h.rsumRound q1) (.judgeAgrees (.onRound (.fst h.rsumRound q1)))

theorem Rising.takeDisagree {e : Nat} {pl : Bytes} (h : Rising s) : Rising (s.takeDisagree e pl) := by
  unfold State.takeDisagree
  split
  next s q0 => exact .fst h.rsumRound q0
  next s q1 =>
    split
    · exact .fst h.rsumRound q1
    · extract_lets +onlyGivenNames _ _ _ t
      have ht : Rising t := .ite (.fst h.rsumRound q1) (.sendRsum (.onRound (.fst h.rsumRound q1)))
      exact .ite ht (.failRound (.ite ht.raise.dropPending ht.raise))

theorem Rising.takeDaybreak {n : Nat} {frame : Bytes} {ago : Nat} (h : Rising s) : Rising (s.takeDaybreak n frame ago) := by
  unfold State.takeDaybreak
  extract_lets +onlyGivenNames _
  split
  next s e => exact .fst h.rsumRound e
  next s e' =>
    split
    · exact .fst h.rsumRound e'
    · extract_lets +onlyGivenNames _ _ _ _ _ t _ _ _ _ _ _
      have ht : Rising t := .ite (.fst h.rsumRound e') (.originate (.onRound (.fst h.rsumRound e')))
      exact .ite (.ite ht ht.applyDaybreak) (.ite ht ht.onRound)

/-! Machine/Inauguration.lean -/

theorem Rising.endQuarantine {e c : Nat} (h : Rising s) : Rising (s.endQuarantine e c) := .ite h (.foldl h.onEnd.record fun h => .ite h.restLane h)
theorem Rising.reinau {clear : Bool} (h : Rising s) : Rising (s.reinau clear) := .jointChange (.endQuarantine (.endQuarantine (.ite h.put.upd h)))

theorem Rising.writeInauCtrl {v : Nat} (h : Rising s) : Rising (s.writeInauCtrl v) :=
  .refreshInau (.ite (.reinau (.ite (.jointChange (.ite h.storeWord.jointChange h.storeWord)) (.ite h.storeWord.jointChange h.storeWord))) (.ite
      (.jointChange (.ite h.storeWord.jointChange h.storeWord)) (.ite h.storeWord.jointChange h.storeWord)))

theorem Rising.takeLead {level : Bool} (h : Rising s) : Rising (s.takeLead level) := .ite h h.putB.raise.jointChange

theorem Rising.takeProbe {n : Nat} {pl : Bytes} (h : Rising s) : Rising (s.takeProbe n pl) := by
  unfold State.takeProbe
  extract_lets +onlyGivenNames _ _ _ _ _ _ _ _ t _ _ _ _ _ _ _
  have ht : Rising t := .ite h.noteRnd.onLane.mailCheck.onLane.bump.record h.noteRnd.onLane.mailCheck
  exact .ite (.ite (.onLane (.upd (.ite (.jointChange (.judgeLane (.upd (.ite ht.purgeLane ht)))) (.judgeLane (.upd (.ite ht.purgeLane ht))))))
      (.reinau (.record (.onLane (.upd (.ite (.jointChange (.judgeLane (.upd (.ite ht.purgeLane ht)))) (.judgeLane (.upd (.ite ht.purgeLane
      ht))))))))) (.onLane (.upd (.ite (.jointChange (.judgeLane (.upd (.ite ht.purgeLane ht)))) (.judgeLane (.upd (.ite ht.purgeLane ht))))))

theorem Rising.writeInauMb {v : Nat} (h : Rising s) : Rising (s.writeInauMb v) := h.storeWord.put.put.put.put.put
theorem Rising.startCompact (h : Rising s) : Rising s.startCompact := h.upd.record.reinau

theorem Completes.probeSendTimer {lane : Lane} : Completes s (execProbeSendTimer lane s) := by
  refine .live (.done fun h => ?_)
  split; exacts [h, .ite h (.ite h.reach.onLane h.reach.onLane.originate)]

theorem Completes.probeReceived {lane : Lane} {frame : Bytes} : Completes s (execProbeReceived lane frame s) :=
  .live (.done fun h => .ite h.takeProbe h)

theorem Completes.quarantineExpiry {vend : VEnd} : Completes s (execQuarantineExpiry vend s) :=
  .live (.done fun h => (by split; exacts [h, h.reach.endQuarantine]))

theorem Completes.probeAnswerTimeout {lane : Lane} : Completes s (execProbeAnswerTimeout lane s) := by
  refine .live (.done fun h => ?_)
  split; exacts [h, .ite h.reach.onLane.bump.record h.reach.onLane]

theorem Completes.inauEnWrite {value : Word} : Completes s (execInauEnWrite value s) := .live (.done fun h => h.writeInauCtrl)
theorem Completes.inauLeadmaskWrite {value : Word} : Completes s (execInauLeadmaskWrite value s) := .live (.done fun h => h.writeInauCtrl)
theorem Completes.inauReinauWrite {value : Word} : Completes s (execInauReinauWrite value s) := .live (.done fun h => h.writeInauCtrl)
theorem Completes.tStartupExpiry : Completes s (execTStartupExpiry s) := .live (.done fun h => (by split; exacts [h, .judgeStart h.reach.upd]))
theorem Completes.tSettleExpiry : Completes s (execTSettleExpiry s) := .live (.done fun h => (by split; exacts [h, .judgeStart h.reach.upd]))

theorem Completes.waveStartReceived {lane : Lane} {frame : Bytes} : Completes s (execWaveStartReceived lane frame s) :=
  .live (.done fun h => .ite h.takeStart h)

theorem Completes.countRelayStart {lane : Lane} {head : Bytes} : Completes s (execCountRelayStart lane head s) :=
  .live (.done fun h => .ite h.startRelay h)

theorem Completes.waveCountReceived {lane : Lane} {frame : Bytes} {good : Bool} : Completes s (execWaveCountReceived lane frame good s) :=
  .live (.done fun h => .ite h.takeCount h)

theorem Completes.agreeReceived {lane : Lane} {frame : Bytes} : Completes s (execAgreeReceived lane frame s) :=
  .live (.done fun h => .ite h.takeAgree h)

theorem Completes.disagreeReceived {lane : Lane} {frame : Bytes} : Completes s (execDisagreeReceived lane frame s) :=
  .live (.done fun h => .ite h.takeDisagree h)

theorem Completes.tWaveExpiry : Completes s (execTWaveExpiry s) := .live (.done fun h => (by split; exacts [h, h.reach.bump.failRound]))

theorem Completes.tAgreeExpiry : Completes s (execTAgreeExpiry s) := by
  refine .live (.done fun h => ?_)
  split; exacts [h, .ite h.reach.dropPending.failRound h.reach.failRound]

theorem Completes.daybreakReceived {lane : Lane} {frame : Bytes} {ago : Nat} : Completes s (execDaybreakReceived lane frame ago s) :=
  .live (.done fun h => .ite h.takeDaybreak h)

theorem Completes.mergeDaybreakReceived {lane : Lane} {frame : Bytes} {ago : Nat} : Completes s (execMergeDaybreakReceived lane frame ago s) :=
  .live (.done fun h => .ite h.takeDaybreak h)

theorem Completes.outageGraceExpiry {vend : VEnd} : Completes s (execOutageGraceExpiry vend s) := by
  refine .live (.done fun h => ?_)
  split; exacts [h, h.reach.onEnd.record.jointChange]

theorem Completes.inauMbselWrite {value : Word} : Completes s (execInauMbselWrite value s) := .live (.done fun h => h.writeInauMb)

theorem Completes.noagreeRoundSpacing : Completes s (execNoagreeRoundSpacing s) := by
  refine .live (.done fun h => ?_)
  split; exacts [h, .ite (.startRound h.reach.upd) h.reach.upd]

/-! Machine/Tt.lean -/

theorem Rising.refreshPubOver (h : Rising s) : Rising s.refreshPubOver := h.putB

theorem Rising.refreshSchd (h : Rising s) : Rising s.refreshSchd := by
  unfold State.refreshSchd
  split
  · exact h.put.put.put.put.put.put.put.put.put.put.put
  · exact .refreshPubOver (.ite h.put.put.put.put.put.put.put.put.put.put.put.putB.raise.recordGen
      h.put.put.put.put.put.put.put.put.put.put.put.putB)

theorem Rising.guardian (h : Rising s) : Rising s.guardian.2 := by
  unfold State.guardian
  extract_lets +onlyGivenNames hits hit silent was _ a b c
  have hc : Rising c := .ite h.upd.putB.putB.putB.bump h.upd.putB.putB.putB
  exact .ite hc.raise.record (.ite hc.raise.record hc)

theorem Rising.skipPub {i : Nat} (h : Rising s) : Rising (s.skipPub i) := h.bump.raise.recordGen
theorem Rising.sendOwn {g : Gate} {fwd : Bool} {f : Bytes} (h : Rising s) : Rising (s.sendOwn g fwd f) := h.originate
theorem Rising.dropMemberFrames {fwd : Bool} (h : Rising s) : Rising (s.dropMemberFrames fwd) := .foldl h.upd fun h => h.freeFrame

theorem Rising.windowFrames {fwd : Bool} {w : Win} {t : Nat} (h : Rising s) : Rising (s.windowFrames fwd w t).2 :=
  List.foldlRecOn (motive := fun p : List (Nat × Nat × Bytes) × State => Rising p.2) _ _ h fun _ ih _ _ => ih.nextSeq

theorem Rising.sendWindow {fwd : Bool} {w : Win} (h : Rising s) : Rising (s.sendWindow fwd w) :=
  .foldl h.setUsed fun h => .ite (.ite h.skipPub h) h.sendOwn

theorem Rising.passRelays {fwd : Bool} {w : Win} {k : Nat} (h : Rising s) : Rising (s.passRelays fwd w k) :=
  .ite h.upd (.foldl h.upd.windowFrames.upd fun h => h.twinSend.bump)

theorem Rising.sendRelays {fwd : Bool} {w : Win} (h : Rising s) : Rising (s.sendRelays fwd w) := .ite h.upd (.foldl h.upd.setUsed fun h => h.sendOwn)
theorem Rising.setStat {i : Nat} {t : SubStat} (h : Rising s) : Rising (s.setStat i t) := .upd (.ite h.put h)

theorem Rising.deliverImg {o : Nat} {bs : Bytes} (h : Rising s) : Rising (s.deliverImg o bs) :=
  .ite h.upd (.ite (.markDirty (.ite h.progress.upd.markDirty h.progress.upd)) (.ite h.progress.upd.markDirty h.progress.upd))

theorem Rising.clearSub {e : Bytes} (h : Rising s) : Rising (s.clearSub e) := .ite h h.deliverImg
theorem Rising.goStale {i : Nat} (h : Rising s) : Rising (s.goStale i) := h.setStat.bump.raise.clearSub
theorem Rising.tellRoster {ms : List Nat} (h : Rising s) : Rising (s.tellRoster ms) := .foldl h fun h => .foldl h fun h => h.stackMsg

theorem Rising.resolveSubs (h : Rising s) : Rising s.resolveSubs := by
  refine .ite h (.foldl h fun h => ?_)
  split
  · refine .ite h ?_
    extract_lets +onlyGivenNames _
    split; exacts [h.setStat, .ite h.setStat.recordGen h.setStat.recordGen.raise.clearSub]

theorem Rising.markLine {i line seq : Nat} (h : Rising s) : Rising (s.markLine i line seq) := .ite h.setStat h

theorem Rising.deliverOne {i line : Nat} {vital : Bool} {seq : Nat} {data : Bytes} (h : Rising s) : Rising (s.deliverOne i line vital seq data) :=
  .ite h.markLine (.ite h (.ite h.bump h.deliverImg.setStat))

theorem Rising.deliverSubs {line uid : Nat} {is : List Nat} {f : Bytes} (h : Rising s) : Rising (s.deliverSubs line uid is f) :=
  .foldl h fun h => .ite h.deliverOne h

theorem Rising.applyTables (h : Rising s) : Rising s.applyTables := by
  unfold State.applyTables
  extract_lets +onlyGivenNames _ _ _ _ _ _ _ _ _ t
  have ht : Rising t := by
    refine .foldl (.upd (.ite h.put h)) fun h => .ite h.setStat ?_
    split; exacts [h.setStat, h.setStat.raise.recordGen]
  exact .ite ht.refreshPubOver ht

theorem Rising.putTd {b : Bytes} (h : Rising s) : Rising (s.putTd b) := h.put.put.put.put

theorem Rising.schdSel {v : Nat} (h : Rising s) : Rising (s.schdSel v) :=
  .ite (.ite h.put.put.put.put.put (.ite (.ite h.put.put.put.put (.ite h.put.put.put.put.dirtyCfg.upd (.applyTables
      h.put.put.put.put.dirtyCfg.upd))) (.ite (.setStat h.put.put.put.put.dirtyCfg.upd) (.applyTables (.setStat h.put.put.put.put.dirtyCfg.upd)))))
      h.put.put.put.putTd.put

theorem Rising.ifIdle {a : Nat} {f : State → State} (h : Rising s) (hf : ∀ {t}, Rising t → Rising (f t)) : Rising (s.ifIdle a f) :=
  .ite h.setOpt (hf h)

theorem Rising.writeModeDesc {m v : Nat} (h : Rising s) : Rising (s.writeModeDesc m v) := .ite h.put (.ite h h.storeWord)

theorem Completes.ownWindowOpen {fwd : Bool} : Completes s (execOwnWindowOpen fwd s) := by
  refine .live (.done fun h => ?_)
  split
  · exact h
  · refine .ite h ?_
    extract_lets +onlyGivenNames o t silent _ u past v
    have hu : Rising u := .ite h.reach (.ite h.reach.upd h.reach.upd)
    have hv : Rising v := .ite hu (.ite hu.sendWindow (.ite hu.sendRelays hu))
    clear_value v
    exact .ite hv.dropMemberFrames.upd hv.dropMemberFrames.upd

theorem Completes.subscriptionMaxageExpiry {entry : Nat} : Completes s (execSubscriptionMaxageExpiry entry s) :=
  .live (.done fun h => .ite h.goStale h)

theorem Completes.schdModedescWrite {mode : Fin 8} {value : Word} : Completes s (execSchdModedescWrite mode value s) :=
  .live (.done fun h => h.writeModeDesc)

theorem Completes.schdTableLoad {value : Word} : Completes s (execSchdTableLoad value s) := .live (.done fun h => h.ifIdle fun h => h.schdSel)
theorem Completes.schdTableStore {value : Word} : Completes s (execSchdTableStore value s) := .live (.done fun h => h.ifIdle fun h => h.schdSel)

/-! Machine/Decision.lean -/

theorem Rising.setStage {n : Nat} {t : RxStage} (h : Rising s) : Rising (s.setStage n t) := h.onLane

theorem Rising.keepFrame {t : State} {n uid fid : Nat} {subs : List Nat} {own : Bool} (h : Rising s)
    (e : s.keepFrame n uid subs own = some (fid, t)) : Rising t := by
  unfold State.keepFrame at e
  split at e
  · cases e
  · obtain ⟨⟨k, u⟩, hu, e⟩ := Option.map_eq_some_iff.mp e
    cases e
    exact (h.enterPool hu).onLane

theorem Rising.forward {fid : Nat} {cls : Cls} {lanes : List Nat} {crossing : Bool} (h : Rising s) : Rising (s.forward fid cls lanes crossing) :=
  .onFrame (.foldl (.onFrame (.foldl h fun h => .ite h.advance.enqueue.bump h.advance.enqueue)) fun h => h.chooseTx)

theorem Rising.ttLanes {n : Nat} {f : Bytes} (h : Rising s) : Rising (s.ttLanes n f).2 := by
  unfold State.ttLanes
  extract_lets +onlyGivenNames _
  split
  · exact h
  · extract_lets +onlyGivenNames _ _ _ _
    split
    · extract_lets +onlyGivenNames _ _
      split; exacts [h.upd, h.upd.upd]
    · split
      · extract_lets +onlyGivenNames _ t
        have ht : Rising t := by
          unfold t
          split; exacts [h, h.upd.record]
        split; exacts [ht, ht.upd]
      · exact h

theorem Rising.timingFrame {n uid : Nat} {fwd : Bool} (h : Rising s) : Rising (s.timingFrame n uid fwd).2 := by
  unfold State.timingFrame
  extract_lets +onlyGivenNames _
  split; exacts [h, h.upd]

theorem Rising.markTiming {n uid : Nat} {first : Bool} {d : ℤ} (h : Rising s) : Rising (s.markTiming n uid first d) := .ite h.onLane h
theorem Rising.spoilTiming {n : Nat} {f : Bytes} (h : Rising s) : Rising (s.spoilTiming n f) := .ite h (by split; exacts [h.timingFrame, h])

theorem Rising.police {n src : Nat} {late later : Bool} (h : Rising s) : Rising (s.police n src late later) :=
  h.bump.putB.putB.put.put.raise.recordGen.setStage

theorem Rising.decideExpress {n : Nat} {f : Bytes} {stamp : Nat} (h : Rising s) : Rising (s.decideExpress n f stamp) := by
  refine .ite h.setStage.bump ?_
  split
  · exact h.setStage.bump
  · extract_lets +onlyGivenNames _
    split
    · exact h.setStage.bump
    · refine .ite h.setStage.bump ?_
      extract_lets +onlyGivenNames fwd crossing m t
      have ht : Rising t := by
        unfold t m
        split
        · exact h
        · exact h.timingFrame
      clear_value m t
      split
      · refine .ite ht.markTiming.police (.ite ht.markTiming.police (.ite ht.markTiming.setStage.bump (.ite ht.markTiming.setStage ?_)))
        extract_lets +onlyGivenNames u
        have hu : Rising u := ht.markTiming.onLane
        clear_value u
        split
        next => exact hu.setStage.refuseBuf
        next fid v e => exact .ite (hu.keepFrame e).forward (hu.keepFrame e).ttLanes.forward
      · exact ht.setStage.bump

theorem Rising.mbLanes {n : Nat} {f : Bytes} (h : Rising s) : Rising (s.mbLanes n f).2 := by
  unfold State.mbLanes
  extract_lets +onlyGivenNames _
  split
  · exact h
  · split
    · exact .ite h h.bump
    · split
      · exact h
      · split <;> exact .ite h.bump h

theorem Rising.decidePlain {n : Nat} {f : Bytes} (h : Rising s) : Rising (s.decidePlain n f) := by
  refine .ite h.setStage.bump ?_
  split
  · exact h.setStage.bump
  · refine .ite h.setStage.bump (.ite h.setStage.bump ?_)
    split
    next => exact h.setStage.refuseBuf
    next fid s e => exact .forward (.mbLanes (h.keepFrame e))

theorem Rising.decideFrame {n : Nat} (h : Rising s) : Rising (s.decideFrame n) := by
  unfold State.decideFrame
  split
  · exact h
  · refine .ite h ?_
    extract_lets +onlyGivenNames _ _
    split
    · exact h.setStage.spoilTiming.bump
    · exact h.setStage.spoilTiming.bump
    · exact .ite h.setStage (.ite h.setStage (.ite h.setStage (.ite h.setStage.bump (.ite (.ite h.setStage h.setStage.bump) (.ite h.decideExpress
        (.ite h.setStage h.decidePlain))))))

theorem Rising.runCopies {fid : Nat} (h : Rising s) : Rising (s.runCopies fid) := .foldl h fun h => .ite h.runTx h

theorem Rising.feedFrame {n : Nat} (h : Rising s) : Rising (s.feedFrame n) := by
  unfold State.feedFrame
  split
  · exact h
  · split; exacts [h.onFrame.runCopies, h]

theorem Rising.setVit {id : Nat} {v : VitS} (h : Rising s) : Rising (s.setVit id v) := h.upd

theorem Rising.takeVital {n : Nat} {f : Bytes} {uid : Nat} {is : List Nat} (h : Rising s) : Rising (s.takeVital n f uid is) := by
  refine .ite h (.ite (.ite h.recordGen h) ?_)
  extract_lets +onlyGivenNames _ _ _ _ _ _
  split
  · exact .deliverSubs (.setVit (.put (.toMembers (.ite h.recordGen h))))
  · exact .ite (.deliverSubs (.setVit (.put (.toMembers (.ite h.recordGen h))))) (.ite (.bump (.setVit (.put (.toMembers (.ite h.recordGen h)))))
      (.ite (.foldl (.bump (.setVit (.put (.toMembers (.ite h.recordGen h))))) fun h => .ite h.markLine h) (.deliverSubs (.setVit (.put (.toMembers
      (.ite h.recordGen h)))))))

theorem Rising.deliverEth {fid : Nat} {f : Bytes} (h : Rising s) : Rising (s.deliverEth fid f) := by
  refine .ite h ?_
  extract_lets +onlyGivenNames _ _ _ t
  have ht : Rising t := .foldl h fun h => .ite h.pushTx h
  exact .ite ht (by split; exacts [ht.bump, ht.toRing])

theorem Rising.deliver {n : Nat} {r : RxFrame} (h : Rising s) : Rising (s.deliver n r) := by
  unfold State.deliver
  extract_lets +onlyGivenNames _
  split
  · extract_lets +onlyGivenNames _
    split
    · exact .ite h.onFrame.deliverSubs.toMembers h.onFrame
    · exact .ite h.onFrame.takeVital h.onFrame
    · exact .ite h.onFrame.deliverEth h.onFrame
  · exact h

theorem Rising.takeDev {n : Nat} {dev : Option (Nat × ℤ)} (h : Rising s) : Rising (s.takeDev n dev) := by
  unfold State.takeDev
  split; exacts [h, h.upd]

theorem Rising.endFrame {n : Nat} {eg : Bool} {codeErrs : Nat} (h : Rising s) : Rising (s.endFrame n eg codeErrs) := by
  unfold State.endFrame
  extract_lets +onlyGivenNames _ _
  split
  · exact h.codeErrors.decideFrame
  · refine .ite h.codeErrors.decideFrame.feedFrame.onLane.refreshOcc (.ite h.codeErrors.decideFrame.feedFrame.onLane.refreshOcc.bump (.ite (.bump
      (.refreshOcc (.onLane ?_))) (.ite h.codeErrors.decideFrame.feedFrame.onLane.refreshOcc (.ite (.bump (.refreshOcc (.onLane ?_))) (.ite (.bump
      (.refreshOcc (.onLane ?_))) (.ite (.bump (.refreshOcc (.onLane ?_))) (.refreshOcc (.onLane ?_))))))))
    · split; exacts [h.codeErrors.decideFrame.feedFrame.badFrame, h.codeErrors.decideFrame.feedFrame]
    · split; exacts [h.codeErrors.decideFrame.feedFrame.badFrame, h.codeErrors.decideFrame.feedFrame]
    · split; exacts [h.codeErrors.decideFrame.feedFrame.badFrame, h.codeErrors.decideFrame.feedFrame]
    · split; exacts [h.codeErrors.decideFrame.feedFrame.badFrame, h.codeErrors.decideFrame.feedFrame]
    · split
      · exact h.codeErrors.decideFrame.feedFrame.bump.takeDev.deliver.onFrame.runCopies.gc
      · exact h.codeErrors.decideFrame.feedFrame.bump.takeDev.deliver

theorem Completes.frameDecision {lane : Lane} {bytes : Bytes} : Completes s (execFrameDecision lane bytes s) :=
  .live (.done fun h => .ite h.takeBytes.decideFrame.feedFrame.refreshOcc h.takeBytes.refreshOcc)

theorem Completes.laneFrameEnd {lane : Lane} {bytes : Bytes} {good : Bool} {codeErrors : Nat} : Completes s (execLaneFrameEnd lane bytes good
    codeErrors s) :=
  .live (.done fun h => .ite h.takeBytes.endFrame.judgeErrors h.codeErrors.passRest.judgeErrors)

/-! Machine/Remote.lean -/

theorem Rising.sendNow {x : RemoteOut} (h : Rising s) : Rising (s.sendNow x) :=
  .ite h.readVoted (.ite h.readVoted.bump h.readVoted.upd.routeOut.originate.originate)

theorem Rising.refreshOpen (h : Rising s) : Rising s.refreshOpen := h.put
theorem Rising.sendOut {x : RemoteOut} (h : Rising s) : Rising (s.sendOut x) := .ite h.stackMsg (.ite h.upd.refreshOpen h.sendNow)
theorem Rising.sendRemote {ty dst : Nat} {ack : Bool} {packet : Bytes} (h : Rising s) : Rising (s.sendRemote ty dst ack packet) := h.sendOut
theorem Rising.drainRemote (h : Rising s) : Rising s.drainRemote := .refreshOpen (.foldl h.upd fun h => h.sendNow)
theorem Rising.sendNotice {op : Nat} {params : Bytes} (h : Rising s) : Rising (s.sendNotice op params) := h.sendRemote
theorem Rising.onSlot {n : Nat} {f : CmdSlot → CmdSlot} (h : Rising s) : Rising (s.onSlot n f) := h.upd

theorem Rising.writeCompletion {sidx addr tag status op info : Nat} {result : Bytes} (h : Rising s) : Rising (s.writeCompletion sidx addr tag status
    op info result) :=
  .ite (.raise (.upd (.ite h.hostPut.hostPut.put.upd h.hostPut.hostPut.put))) (.upd (.ite h.hostPut.hostPut.put.upd h.hostPut.hostPut.put))

theorem Rising.dropKey {n : Nat} (h : Rising s) : Rising (s.dropKey n) := .ite h.endAct h

theorem Rising.complete {n status info : Nat} {result : Bytes} (h : Rising s) : Rising (s.complete n status info result) := by
  unfold State.complete
  split
  · exact h
  · extract_lets +onlyGivenNames _ _ _ _
    split
    · exact .ite (.refreshOpen (.upd (.ite h.upd.dropKey.refreshOpen.bump h.upd.dropKey.refreshOpen))) (.writeCompletion (.ite
        h.upd.dropKey.refreshOpen.bump h.upd.dropKey.refreshOpen))
    · exact .ite (.sendOut (.ite h.upd.dropKey.refreshOpen.bump h.upd.dropKey.refreshOpen)) (.ite h.upd.dropKey.refreshOpen.bump
        h.upd.dropKey.refreshOpen)
    · exact .stackMsg (.ite h.upd.dropKey.refreshOpen.bump h.upd.dropKey.refreshOpen)

theorem Rising.completeOp {op status info : Nat} (h : Rising s) : Rising (s.completeOp op status info) := .foldl h fun h => h.complete
theorem Rising.accept {n : Nat} {src : CmdSrc} {packet : Bytes} (h : Rising s) : Rising (s.accept n src packet) := h.upd.refreshOpen

theorem Rising.screen {n : Nat} (h : Rising s) : Rising (s.screen n) := by
  unfold State.screen
  split
  · exact h
  · exact .ite h.complete (by split <;> exact .ite h.complete h)

theorem Rising.replayNew {t : State} {origin seq : Nat} (h : Rising s) (e : s.replayNew origin seq = some t) : Rising t := by
  unfold State.replayNew at e
  extract_lets +onlyGivenNames table at e
  split at e
  · cases e; exact h.upd
  · extract_lets +onlyGivenNames d put at e
    split at e
    · cases e; exact h.upd
    · split at e
      · cases e
      · cases e; exact h.upd

theorem Rising.refuseRemote {cause src : Nat} (h : Rising s) : Rising (s.refuseRemote cause src) := h.bump.raise.recordSec

theorem Rising.remoteChecks {f : Bytes} (h : Rising s) : Rising (s.remoteChecks f).2 := by
  unfold State.remoteChecks
  extract_lets t c
  have ht : Rising t := h.readVoted
  clear_value t c
  split
  · dsimp only
    exact ht.refuseRemote
  · split
    next u e => exact ht.replayNew e
    next =>
      dsimp only
      exact ht.refuseRemote

theorem Rising.rejectTimeNot (h : Rising s) : Rising s.rejectTimeNot := h.bump.raise.recordGen

theorem Rising.takeCmd {f : Bytes} (h : Rising s) : Rising (s.takeCmd f) := by
  refine .ite (.ite h.remoteChecks.rejectTimeNot h.remoteChecks) (.ite h.remoteChecks.upd ?_)
  split; exacts [.ite h.remoteChecks.bump.sendRemote h.remoteChecks.bump, h.remoteChecks.bump.accept.screen]

theorem Rising.takeCpl {f : Bytes} (h : Rising s) : Rising (s.takeCpl f) := by
  refine .ite h.remoteChecks ?_
  dsimp only
  split; exacts [h.remoteChecks.complete, h.remoteChecks.stackMsg, h.remoteChecks.bump]

theorem Rising.popNotice {t : State} {op : Nat} {f : Bytes} (h : Rising s) (e : s.popNotice op = some (f, t)) : Rising t := by
  unfold State.popNotice at e
  split at e
  · cases e
  · split at e
    · cases e; exact h.upd
    · cases e

theorem Completes.cmdFrameReceived {lane : Lane} {frame : Bytes} : Completes s (execCmdFrameReceived lane frame s) :=
  .live (.done fun h => .ite h.takeCmd h)

theorem Completes.cplFrameReceived {lane : Lane} {frame : Bytes} : Completes s (execCplFrameReceived lane frame s) :=
  .live (.done fun h => .ite h.takeCpl h)

/-! Machine/Program.lean -/

theorem Rising.refreshPrg (h : Rising s) : Rising s.refreshPrg := h.putB.putB.putB.put.put.put.put.put
theorem Rising.opResult {r : Nat} (h : Rising s) : Rising (s.opResult r) := h.put.raise
theorem Rising.refuseOp {op r : Nat} (h : Rising s) : Rising (s.refuseOp op r) := .ite h.opResult.raise.record h.opResult
theorem Rising.endOp {r : Nat} (h : Rising s) : Rising (s.endOp r) := h.put.opResult.completeOp
theorem Rising.loadWrite {off : Nat} {data : Bytes} (h : Rising s) : Rising (s.loadWrite off data) := .ite h.upd.put h.upd.onBank.refreshPrg

theorem Rising.validated (h : Rising s) : Rising s.validated :=
  .ite h (.ite h.put.putB.put.onBank.refreshPrg.record.endOp h.put.putB.put.onBank.refreshPrg.record.endOp)

theorem Rising.storeDone {ok : Bool} (h : Rising s) : Rising (s.storeDone ok) :=
  .ite h (.ite h.endAct.onBank.refreshPrg.record.endOp.upd (.ite h.endAct.onBank.refreshPrg.upd.record.endOp.secondFault.suspendAct
      h.endAct.onBank.refreshPrg.upd.record.endOp))

theorem Rising.swapForces (h : Rising s) : Rising s.swapForces := .ite h.clearForces.applyForceTable h

theorem Rising.exchange {online : Bool} {kept init mism : Nat} (h : Rising s) : Rising (s.exchange online kept init mism) :=
  .raise (.record h.put.refreshPrg.upd.put.put.put.upd)

theorem Rising.coldSwap (h : Rising s) : Rising s.coldSwap := h.swapForces.exchange

theorem Rising.onlineSwap (h : Rising s) : Rising s.onlineSwap := by
  unfold State.onlineSwap
  split
  · exact .endOp (.markDirty (.showBudget (.exchange (.ite h.swapForces.onBank.upd.put.put.put.record h.swapForces.onBank.upd.put.put.put))))
  · exact h

theorem Rising.failSwap {r : Nat} (h : Rising s) : Rising (s.failSwap r) := .endOp (.raise (.record (.put h.put.put.upd)))
theorem Rising.cancelSwap {r : Nat} (h : Rising s) : Rising (s.cancelSwap r) := .ite h.failSwap h

theorem Rising.swapBoundary {reph : Bool} (h : Rising s) : Rising (s.swapBoundary reph) := by
  unfold State.swapBoundary
  split
  · exact h
  · exact .ite h.put.failSwap h.put.put.put.upd
  · exact .ite h.put (.ite (.ite h.upd.failSwap h.upd.put) h.onlineSwap)

theorem Rising.prgCmd {v : Nat} (h : Rising s) : Rising (s.prgCmd v) :=
  .ite (.ite h.put.put.put.failSwap h.put.put.put.opResult) (.ite h.put.put.put (.ite h.put.put.put.refuseOp (.ite h.put.put.put.put (.ite
      h.put.put.put.refuseOp (.ite (.ite h.put.put.put.opResult (.ite h.put.put.put.opResult (.requestAct (.put (.ite h.put.put.put.putB.upd
      h.put.put.put))))) (.ite (.ite h.put.put.put.refuseOp (.ite h.put.put.put.upd.put.put.upd h.put.put.put.upd.coldSwap.opResult)) (.ite (.ite
      h.put.put.put.opResult h.put.put.put.upd.refreshPrg.record.opResult) h.put.put.put.onBank.refreshPrg.opResult)))))))

theorem Rising.writePrgCmd {v : Nat} (h : Rising s) : Rising (s.writePrgCmd v) := h.posted fun h => h.prgCmd

theorem Rising.loadPrograms (h : Rising s) : Rising s.loadPrograms :=
  .ite h.upd.put.refreshPrg.refreshNact.record.raise h.upd.put.refreshPrg.refreshNact

theorem Completes.loadWindowWrite {offset : Fin 524288} {data : Bytes} : Completes s (execLoadWindowWrite offset data s) :=
  .liveActive (.done fun h => h.loadWrite)

theorem Completes.validate {value : Word} : Completes s (execValidate value s) := .live (.done fun h => h.writePrgCmd)
theorem Completes.validateComplete : Completes s (execValidateComplete s) := .live (.done fun h => h.validated)
theorem Completes.store {value : Word} : Completes s (execStore value s) := .live (.done fun h => h.writePrgCmd)
theorem Completes.storeComplete {ok : Bool} : Completes s (execStoreComplete ok s) := .live (.done fun h => h.storeDone)
theorem Completes.swap {value : Word} : Completes s (execSwap value s) := .live (.done fun h => h.writePrgCmd)
theorem Completes.setstart {value : Word} : Completes s (execSetstart value s) := .live (.done fun h => h.writePrgCmd)
theorem Completes.reload {value : Word} : Completes s (execReload value s) := .live (.done fun h => h.writePrgCmd)
theorem Completes.cancel {value : Word} : Completes s (execCancel value s) := .live (.done fun h => h.writePrgCmd)

/-! Machine/Modes.lean -/

theorem Rising.setPendMode {m : Nat} (h : Rising s) : Rising (s.setPendMode m) := h.put.put.upd
theorem Rising.announceMode {m : Nat} (h : Rising s) : Rising (s.announceMode m) := h.sendNotice.setPendMode
theorem Rising.endModeReq {code : Nat} (h : Rising s) : Rising (s.endModeReq code) := .ite h.upd.put.completeOp h.upd.put.raise.record.completeOp

theorem Rising.writeModeReq {v : Nat} (h : Rising s) : Rising (s.writeModeReq v) :=
  .ite h.storeWord (.ite h.storeWord.put.raise.completeOp h.storeWord.put.upd.announceMode)

theorem Rising.restoreBoundary (h : Rising s) : Rising s.restoreBoundary := .ite h.upd.announceMode (.ite h.upd.announceMode h.upd.reinau)

theorem Rising.modeBoundary (h : Rising s) : Rising s.modeBoundary :=
  .ite h.endModeReq (.ite h.restoreBoundary (.ite h (.ite h.upd.announceMode (.ite h.upd.reinau (.ite h (.ite h.endModeReq (.ite h.endModeReq
      h.upd.announceMode)))))))

theorem Rising.takeModeAnn {f : Bytes} (h : Rising s) : Rising (s.takeModeAnn f) := .ite h.setPendMode h.raise.record
theorem Completes.schdModereqGo {value : Word} : Completes s (execSchdModereqGo value s) := .live (.done fun h => h.writeModeReq)

theorem Completes.modeann : Completes s (execModeann s) := by
  refine .live (.done fun h => ?_)
  split
  next f s e => exact .takeModeAnn (h.popNotice e)
  next => exact h

theorem Completes.pendingModeLapse : Completes s (execPendingModeLapse s) := .live (.done fun h => .ite h.put.put h)

/-! Machine/TrainTime.lean -/

theorem Rising.onTpo {n : Nat} {f : TpoS → TpoS} (h : Rising s) : Rising (s.onTpo n f) := h.upd
theorem Rising.tpoPin {n : Nat} {active : Bool} (h : Rising s) : Rising (s.tpoPin n active) := h.emit
theorem Rising.lateUnit (h : Rising s) : Rising s.lateUnit := h.bump.raise.record
theorem Rising.staleMb {k : Nat} (h : Rising s) : Rising (s.staleMb k) := .ite h.put h

theorem Rising.fireTpo {n : Nat} {late : Bool} {now : Nat} (h : Rising s) : Rising (s.fireTpo n late now) := by
  unfold State.fireTpo
  extract_lets +onlyGivenNames _
  split
  · exact h
  · exact .ite (.tpoPin (.onTpo (.ite h.put.lateUnit h))) (.put (.tpoPin (.onTpo (.ite h.put.lateUnit h))))

theorem Rising.stepUnits {p e : ℤ} (h : Rising s) : Rising (s.stepUnits p e) := by
  refine .foldl h fun h => ?_
  split; exacts [h, .ite (.onTpo (.ite h.fireTpo h)) (.ite h.fireTpo h)]

theorem Rising.reachShort {target : Nat} (h : Rising s) : Rising (s.reachShort target) := h.reach
theorem Rising.refreshTime (h : Rising s) : Rising s.refreshTime := h.putB.putB.put
theorem Rising.refuseJump {e : ℤ} (h : Rising s) : Rising (s.refuseJump e) := .record (.raise (.staleMb h.put.bump.upd))

theorem Rising.changeMap {e : ℤ} (h : Rising s) : Rising (s.changeMap e) := by
  unfold State.changeMap
  extract_lets +onlyGivenNames _ _ _ _ _ _ _ t _
  have ht : Rising t := .ite h.upd (.ite h.upd.upd.record.raise.stepUnits.staleMb h.upd.refuseJump)
  exact .refreshTime (.staleMb (.staleMb (.ite ht.put.raise.record ht)))

theorem Rising.rebaseMap (h : Rising s) : Rising s.rebaseMap := by
  unfold State.rebaseMap
  split; exacts [h.upd, h]

theorem Rising.setMap {k : Nat} {tt : ℤ} (h : Rising s) : Rising (s.setMap k tt) := h.upd.put.staleMb.staleMb.refreshTime

theorem Rising.adoptMap {k : Nat} {tt : ℤ} (h : Rising s) : Rising (s.adoptMap k tt) := by
  unfold State.adoptMap
  split; exacts [h.setMap, h.upd.changeMap]

theorem Rising.timeSession (h : Rising s) : Rising s.timeSession := h.upd.put.refreshTime

theorem Rising.setRefst {c : Nat} (h : Rising s) : Rising (s.setRefst c) :=
  .ite h (.ite h.put.raise.record.bump (.ite h.put.raise.record h.put.raise))

theorem Rising.refreshRef (h : Rising s) : Rising s.refreshRef :=
  .ite (.setRefst (.putB (.ite h.upd h))) (.ite (.setRefst (.putB (.ite h.upd h))) (.putB (.ite h.upd h)))

theorem Rising.announceSigma {x : ℤ} (h : Rising s) : Rising (s.announceSigma x) := .ite h h.upd
theorem Rising.refreshTai (h : Rising s) : Rising s.refreshTai := h.putB

theorem Rising.applyAnnounced (h : Rising s) : Rising s.applyAnnounced := by
  unfold State.applyAnnounced
  extract_lets +onlyGivenNames _ a
  have ha : Rising a := by
    unfold a
    split
    · exact .ite h.upd.changeMap h
    · exact h
  clear_value a
  extract_lets +onlyGivenNames _ _ b
  have hb : Rising b := by
    unfold b
    split
    · exact .ite ha.upd ha
    · exact ha
  clear_value b
  extract_lets +onlyGivenNames _ _ c
  have hc : Rising c := by
    unfold c
    split
    · exact hb.upd
    · exact hb
  clear_value c
  split
  · exact hc.upd.adoptMap
  · exact hc

theorem Rising.timeNoon {old : Option Nat} (h : Rising s) : Rising (s.timeNoon old) := .ite h.upd h.upd.upd

theorem Rising.takeTimeNot {f : Bytes} (h : Rising s) : Rising (s.takeTimeNot f) := by
  refine .ite h.rejectTimeNot ?_
  extract_lets +onlyGivenNames _ _ _ _ _ _ _ _ _ _ _ _ _ t _ _ _ _ _
  have ht : Rising t := .ite (.ite h.upd.refreshTai h.upd.refreshTai.bump.upd) (.ite h.upd.refreshTai (.ite h.upd.refreshTai
      h.upd.refreshTai.bump.upd))
  split
  · exact .ite (.upd (.ite (.upd (.ite ht.upd ht)) (.ite ht.upd ht))) (.ite (.upd (.ite ht.upd ht)) (.ite ht.upd ht))
  · exact .ite (.upd (.ite ht.upd ht)) (.ite ht.upd ht)

theorem Rising.steerBy {e : ℤ} (h : Rising s) : Rising (s.steerBy e) :=
  .ite (.ite h.upd (.announceSigma (.setRefst (.ite h h.refuseJump)))) (.announceSigma (.upd (.ite h.upd.setRefst h)))

theorem Rising.steerMean (h : Rising s) : Rising s.steerMean :=
  .ite h.upd (.ite h.upd.announceSigma (.ite h.upd.announceSigma (.ite h.upd h.upd.steerBy)))

theorem Rising.notify (h : Rising s) : Rising s.notify := by
  unfold State.notify
  split; exacts [.ite h.sendNotice h, h]

theorem Rising.endSteer (h : Rising s) : Rising s.endSteer := .ite h h.refreshRef.steerMean.upd.notify

theorem Rising.timeBoundary (h : Rising s) : Rising s.timeBoundary := by
  unfold State.timeBoundary
  extract_lets +onlyGivenNames t
  have ht : Rising t := h.staleMb.applyAnnounced.refreshTime.refreshRef.refreshTai
  exact .ite ht.upd (.ite ht.upd ht.upd.notify)

theorem Rising.presetTime {off : ℤ} (h : Rising s) : Rising (s.presetTime off) := .ite h.upd h
theorem Rising.takeOffset {e : ℤ} (h : Rising s) : Rising (s.takeOffset e) := h.put.upd

theorem Rising.takePps (h : Rising s) : Rising s.takePps := by
  unfold State.takePps
  extract_lets +onlyGivenNames a _ b
  have hb : Rising b := .ite h.refreshRef.upd h.refreshRef
  clear_value b
  refine .ite hb ?_
  cases b.time.todArmed with
  | some t =>
    dsimp only
    split
    · exact hb.upd.takeOffset
    · exact hb.upd.presetTime
  | none =>
    dsimp only
    split
    · exact hb.put.record.upd.takeOffset
    · exact hb.put.record.upd.presetTime

theorem Completes.catchUpComplete : Completes s (execCatchUpComplete s) := .live (.done fun h => .ite h h.reach.upd.put.raise.staleMb.record)

theorem Completes.timenot : Completes s (execTimenot s) := by
  refine .live (.done fun h => ?_)
  split
  next f s e => exact .takeTimeNot (h.popNotice e)
  next => exact h

theorem Completes.steeringIntervalEnd : Completes s (execSteeringIntervalEnd s) := .live (.done fun h => h.endSteer)
theorem Completes.todArmWrite {value : Word} : Completes s (execTodArmWrite value s) := .live (.done fun h => h.storeWord.upd)

theorem Rising.writeTimeCtrl {v : Nat} (h : Rising s) : Rising (s.writeTimeCtrl v) :=
  .ite h.storeWord.refreshRef.upd.setRefst.record h.storeWord.refreshRef

theorem Completes.timeAcceptWrite {value : Word} : Completes s (execTimeAcceptWrite value s) := .live (.done fun h => h.writeTimeCtrl)

/-! Machine/Engine.lean -/

theorem Rising.refreshTrun (h : Rising s) : Rising s.refreshTrun := h.put
theorem Rising.setEngine {st cause : Nat} (h : Rising s) : Rising (s.setEngine st cause) := h.put.put
theorem Rising.haltTasks (h : Rising s) : Rising s.haltTasks := .refreshTrun h.progress.upd
theorem Rising.engineFault {cause : Nat} (h : Rising s) : Rising (s.engineFault cause) := h.haltTasks.cancelSwap.setEngine.record.raise
theorem Rising.engineRefuse {cause : Nat} (h : Rising s) : Rising (s.engineRefuse cause) := h.setEngine.record.raise

theorem Rising.checkStart (h : Rising s) : Rising s.checkStart := by
  unfold State.checkStart
  extract_lets +onlyGivenNames t _
  have ht : Rising t := by
    unfold t
    split; exacts [h.showBudget, h]
  exact .ite ht.engineRefuse ht

theorem Rising.applyKey (h : Rising s) : Rising s.applyKey := by
  unfold State.applyKey
  split
  · exact h
  · refine .ite h.upd ?_
    extract_lets +onlyGivenNames _ t
    have ht : Rising t := h.upd.put.record.raise.cancelSwap
    clear_value t
    exact .ite (.setEngine (.haltTasks (.ite ht.record ht))) (.ite ht.setEngine.checkStart ht)

theorem Rising.takeKey {a b : Bool} (h : Rising s) : Rising (s.takeKey a b) :=
  .ite (.upd (.ite h.putB.putB.putB.bump.record.raise h.putB.putB.putB)) (.applyKey (.upd (.ite h.putB.putB.putB.bump.record.raise h.putB.putB.putB)))

theorem Rising.updStation {n : Nat} {f : StationS → StationS} (h : Rising s) : Rising (s.updStation n f) := .ite h.onStation.put h.onStation
theorem Rising.latchStation {n : Nat} {t : StationS} (h : Rising s) : Rising (s.latchStation n t) := h.updStation.upd

theorem Rising.latch {task : Option Nat} (h : Rising s) : Rising (s.latch task) := by
  refine .put (.foldl ?_ fun h => .ite h.markDirty (.ite h.markDirty h))
  cases task with
  | none => exact h.upd
  | some n => exact .onTask (.upd (.foldl h fun h => .ite h.latchStation h))

theorem Rising.release {n : Nat} (h : Rising s) : Rising (s.release n) := .ite h.onTask h.latch.onTask

theorem Rising.startRun (h : Rising s) : Rising s.startRun := by
  unfold State.startRun
  extract_lets +onlyGivenNames _ _ _
  split
  · exact h.haltTasks.setEngine.upd.markDirty.put
  · exact h.haltTasks.setEngine.upd.markDirty.put.onBank.upd.markDirty

theorem Rising.waitBoundary (h : Rising s) : Rising s.waitBoundary := .ite h (.ite h.checkStart.startRun h.checkStart)
theorem Rising.loseRun (h : Rising s) : Rising s.loseRun := .ite h.haltTasks.setEngine.cancelSwap h

theorem Rising.noonCheck {changed : Bool} (h : Rising s) : Rising (s.noonCheck changed) := by
  refine .ite h ?_
  split; exacts [h, .ite h.showBudget h.showBudget.engineFault]

theorem Rising.applyStations (h : Rising s) : Rising s.applyStations :=
  .foldl h.upd fun h => .ite (.put (.ite h.upd h.upd.upd)) (.ite h.upd h.upd.upd)

theorem Rising.countMiss (h : Rising s) : Rising s.countMiss := .foldl h fun h => .ite h h.updStation

theorem Rising.engineBoundary {reph tchg : Bool} (h : Rising s) : Rising (s.engineBoundary reph tchg) :=
  .refreshTrun (.ite (.foldl (.fillMirror (.waitBoundary (.swapBoundary (.noonCheck (.loseRun (.ite
      h.progress.countMiss.applyStations.applyKey.applyForceTable.upd h.progress.countMiss.applyStations.applyKey.applyForceTable))))))
      fun h => h.release) (.ite (.latch (.fillMirror (.waitBoundary (.swapBoundary (.noonCheck (.loseRun (.ite
      h.progress.countMiss.applyStations.applyKey.applyForceTable.upd h.progress.countMiss.applyStations.applyKey.applyForceTable))))))) (.foldl
      (.fillMirror (.waitBoundary (.swapBoundary (.noonCheck (.loseRun (.ite h.progress.countMiss.applyStations.applyKey.applyForceTable.upd
      h.progress.countMiss.applyStations.applyKey.applyForceTable)))))) fun h => h.latch)))

theorem Rising.overrun {n : Nat} (h : Rising s) : Rising (s.overrun n) :=
  .ite h.bump.put.record.raise.onTask.secondFault.engineFault h.bump.put.record.raise.onTask

theorem Rising.commit {n : Nat} (h : Rising s) : Rising (s.commit n) := h.upd.markDirty.put.onTask
theorem Rising.commitTask {n : Nat} (h : Rising s) : Rising (s.commitTask n) := .ite h (.ite h.onTask.onTask (.ite h.onTask.overrun h.onTask.commit))
theorem Rising.allDirty (h : Rising s) : Rising s.allDirty := h.markDirty.markDirty.markDirty.markDirty

theorem Rising.sendMir {no k : Nat} {bs : List Bytes} (h : Rising s) : Rising (s.sendMir no k bs) := by
  induction k generalizing s bs with
  | zero => exact h
  | succ k ih => exact .ite h (ih h.twinSend)

theorem Rising.openMirror (h : Rising s) : Rising s.openMirror :=
  .ite h (.ite h.twinRun (.twinSend (.sendMir (.upd (.ite h.twinRun.allDirty.upd h.twinRun)))))

theorem Rising.commitPoint (h : Rising s) : Rising s.commitPoint := .ite h (.openMirror (.foldl h.reach.progress.upd fun h => h.commitTask))
theorem Rising.commitBy {t : Nat} (h : Rising s) : Rising (s.commitBy t) := .ite h.commitPoint h

theorem Rising.completeTask {n : Nat} (h : Rising s) : Rising (s.completeTask n) := by
  unfold State.completeTask
  extract_lets +onlyGivenNames _ _
  split
  · exact .ite h.commitPoint h
  · exact .ite (.ite h.commitPoint h) (.refreshTrun (.put (.put (.onTask (.evalBlocks (.ite h.commitPoint h))))))

theorem Rising.writeCyclCtrl {v : Nat} (h : Rising s) : Rising (s.writeCyclCtrl v) :=
  .ite (.ite h.put h.putB) (.foldl (.ite h.put h.putB) fun h => .ite h.updStation h)

theorem Rising.imageWrite {o : Nat} {data : Bytes} (h : Rising s) : Rising (s.imageWrite o data) :=
  .foldl h.progress.upd fun h => .ite h.put (.ite (.markDirty (.upd (.ite h.put h))) (.markDirty (.upd (.ite h.put h))))

theorem Completes.taskInstanceComplete {task : Fin 4} : Completes s (execTaskInstanceComplete task s) := .liveActive (.done fun h => h.completeTask)

theorem Completes.guardianPoint {fwd : Bool} : Completes s (execGuardianPoint fwd s) := by
  refine .live (.done fun h => ?_)
  split
  · exact h
  · extract_lets +onlyGivenNames _ t _ _ _
    have ht : Rising t := h.reach.commitBy.progress.guardian
    exact .ite (.ite ht.upd ht.upd) (.passRelays (.ite ht.upd ht.upd))

theorem Completes.taskCommit : Completes s (execTaskCommit s) := .liveActive (.done fun h => h.commitPoint)
theorem Completes.cyclEnWrite {value : Word} : Completes s (execCyclEnWrite value s) := .live (.done fun h => h.writeCyclCtrl)
theorem Completes.stationCfgallWrite {value : Word} : Completes s (execStationCfgallWrite value s) := .live (.done fun h => h.writeCyclCtrl)

theorem Completes.processImageHostWrite {offset : Fin 262144} {data : Bytes} : Completes s (execProcessImageHostWrite offset data s) :=
  .liveActive (.done fun h => h.imageWrite)

/-! Machine/Stations.lean -/

theorem Rising.assemble {n : Nat} (h : Rising s) : Rising (s.assemble n) := by
  unfold State.assemble
  split; exacts [h, .ite h h.reach.commitBy.progress.upd.bump.sendEth]

theorem Rising.takeIn {n : Nat} {t : StationS} {g : Bytes} (h : Rising s) : Rising (s.takeIn n t g) :=
  .ite (.ite (.stationClaim (.ite (.recordGen (.raise (.ite (.record (.ite h.bump.updStation.record.raise h.bump.updStation)) (.ite
      h.bump.updStation.record.raise h.bump.updStation)))) (.ite (.record (.ite h.bump.updStation.record.raise h.bump.updStation)) (.ite
      h.bump.updStation.record.raise h.bump.updStation)))) (.onStation (.upd (.stationClaim (.ite (.recordGen (.raise (.ite (.record (.ite
      h.bump.updStation.record.raise h.bump.updStation)) (.ite h.bump.updStation.record.raise h.bump.updStation)))) (.ite (.record (.ite
      h.bump.updStation.record.raise h.bump.updStation)) (.ite h.bump.updStation.record.raise h.bump.updStation))))))) (.ite (.onStation (.bump
      (.stationClaim (.ite (.recordGen (.raise (.ite (.record (.ite h.bump.updStation.record.raise h.bump.updStation)) (.ite
      h.bump.updStation.record.raise h.bump.updStation)))) (.ite (.record (.ite h.bump.updStation.record.raise h.bump.updStation)) (.ite
      h.bump.updStation.record.raise h.bump.updStation)))))) (.stationClaim (.ite (.recordGen (.raise (.ite (.record (.ite
      h.bump.updStation.record.raise h.bump.updStation)) (.ite h.bump.updStation.record.raise h.bump.updStation)))) (.ite (.record (.ite
      h.bump.updStation.record.raise h.bump.updStation)) (.ite h.bump.updStation.record.raise h.bump.updStation)))))

theorem Rising.ioFrame {p : Nat} {f : Bytes} (h : Rising s) : Rising (s.ioFrame p f) := by
  unfold State.ioFrame
  extract_lets +onlyGivenNames _ _
  split; exacts [h.bump, .ite h.bump (.ite h.bump h.takeIn)]

theorem Rising.loseStation {n : Nat} (h : Rising s) : Rising (s.loseStation n) := by
  unfold State.loseStation
  split; exacts [h, .ite h.updStation.bump.raise.record h]

theorem Rising.stationSel {v : Nat} (h : Rising s) : Rising (s.stationSel v) :=
  .ite (.ite h.put.put.put.put.upd (.ite (.ite h.put.put.put.put.put.record (.ite h.put.put.put.put.dirtyCfg.upd (.applyStations
      h.put.put.put.put.dirtyCfg.upd))) h.put.put.put.put.put)) h.put.put.put.put.put.put.put.put

theorem Completes.telegramAssembly {station : Fin 256} : Completes s (execTelegramAssembly station s) := .liveActive (.done fun h => h.assemble)

theorem Completes.ioInTelegramReceived {port : Port} {frame : Bytes} : Completes s (execIoInTelegramReceived port frame s) :=
  .liveActive (.done fun h => .ite h.ioFrame h)

theorem Completes.stationAccwinExpiry {station : Fin 256} : Completes s (execStationAccwinExpiry station s) :=
  .liveActive (.done fun h => h.loseStation)

theorem Completes.stationTableLoad {value : Word} : Completes s (execStationTableLoad value s) :=
  .live (.done fun h => h.posted fun h => h.stationSel)

theorem Completes.stationTableStore {value : Word} : Completes s (execStationTableStore value s) :=
  .live (.done fun h => h.posted fun h => h.stationSel)

/-! Machine/Clock.lean -/

theorem Rising.refreshMismatch (h : Rising s) : Rising s.refreshMismatch := .ite h.putB.raise h.putB

theorem Rising.takePdown {n pdown : Nat} (h : Rising s) : Rising (s.takePdown n pdown) :=
  .ite h (.ite h.onLane.refreshMismatch (.refreshMismatch (.ite h.onLane.recordGen h.onLane)))

theorem Rising.takeSample {n : Nat} {pd : ℤ} (h : Rising s) : Rising (s.takeSample n pd) :=
  .ite (.ite h.onLane (.refreshHop (.judgeLane (.ite h.put.put.onLane.raise.record h.put.put.onLane)))) (.ite (.ite h.bump.onLane h.bump.onLane)
      h.onLane.put.refreshHop)

theorem Rising.takePdrsp {n : Nat} {pl : Bytes} {t4 : Nat} (h : Rising s) : Rising (s.takePdrsp n pl t4) := by
  unfold State.takePdrsp
  extract_lets +onlyGivenNames _ _ _ _
  split
  · exact .ite h.takePdown h
  · exact .ite (.ite h.takePdown h) (.ite (.onLane (.ite h.takePdown h)) (.takeSample (.onLane (.ite h.takePdown h))))

theorem Rising.refreshSet (h : Rising s) : Rising s.refreshSet := .foldl h.put.put.putB fun h => h.put.put.put

theorem Rising.setSyncState {c : Nat} (h : Rising s) : Rising (s.setSyncState c) :=
  .ite (.secondFault (.ite (.record (.raise (.ite (.record (.raise (.ite h.put.raise.record h.put))) (.ite h.put.raise.record h.put)))) (.ite
      (.record (.raise (.ite h.put.raise.record h.put))) (.ite h.put.raise.record h.put)))) (.ite (.record (.raise (.ite (.record (.raise (.ite
      h.put.raise.record h.put))) (.ite h.put.raise.record h.put)))) (.ite (.record (.raise (.ite h.put.raise.record h.put))) (.ite
      h.put.raise.record h.put)))

theorem Rising.judgePrecision {c : Option ℤ} (h : Rising s) : Rising (s.judgePrecision c) :=
  .ite (.ite (.secondFault (.record (.raise (.ite (.bump (.putB (.ite h.upd h))) (.putB (.ite h.upd h)))))) (.ite (.secondFault (.record (.raise
      (.ite (.bump (.putB (.ite h.upd h))) (.putB (.ite h.upd h)))))) (.record (.raise (.ite (.bump (.putB (.ite h.upd h))) (.putB (.ite h.upd
      h))))))) (.ite (.record (.raise (.ite (.bump (.putB (.ite h.upd h))) (.putB (.ite h.upd h))))) (.ite (.bump (.putB (.ite h.upd h))) (.putB
      (.ite h.upd h))))

theorem Rising.rateRound {m : List Entry} {n : Nat} (h : Rising s) : Rising (s.rateRound m n) := by
  unfold State.rateRound
  extract_lets +onlyGivenNames _ _
  split
  · exact .ite h.bumpBy (.ite h.bumpBy.upd (.ite (.recordSess (.raise (.putB (.put (.upd (.ite h.bumpBy.upd.bump h.bumpBy.upd)))))) (.putB (.put
      (.upd (.ite h.bumpBy.upd.bump h.bumpBy.upd))))))

theorem Rising.syncRound {r : Roster} {carried : ℤ} (h : Rising s) : Rising (s.syncRound r carried) := by
  unfold State.syncRound
  extract_lets +onlyGivenNames _ _ _ _ _ _ _ _
  split
  · extract_lets +onlyGivenNames _ _ t _ _ _ _ _ _ _ _ _ _ _ u _ _ _ _ _
    have ht : Rising t := .foldl h.bump.upd.bumpBy.bumpBy.put.put fun h => h.put.put
    have hu : Rising u := by
      unfold u
      split; exacts [ht.put.put.put.bump.upd.setSyncState, .upd (.put (.put (.ite ht.put.put.bump ht.put.put)))]
    exact .judgePrecision (.ite (.ite hu.upd.rateRound hu.upd) (.setSyncState (.ite hu.upd.rateRound hu.upd)))

theorem Rising.clearDevs (h : Rising s) : Rising s.clearDevs := .foldl h.upd fun h => h.onLane
theorem Rising.refreshSyncOff (h : Rising s) : Rising s.refreshSyncOff := .ite h.setSyncState (.ite h.setSyncState h)
theorem Rising.syncRephase (h : Rising s) : Rising s.syncRephase := h.upd.setSyncState.refreshSyncOff

theorem Rising.pdFrame {n : Nat} {f : Bytes} {type : Nat} {take_ : State → Bytes → State} (h : Rising s) (htake_ : ∀ {t x1}, Rising t → Rising
    (take_ t x1)) : Rising (s.pdFrame n f type take_) :=
  .ite (.ite h.bump (htake_ h)) h

theorem Completes.pdreqSendTimer {lane : Lane} : Completes s (execPdreqSendTimer lane s) :=
  .live (.done fun h => (by split; exacts [h, .ite h h.reach.onLane.originate]))

theorem Completes.pdreqReceived {lane : Lane} {frame : Bytes} {ago : Nat} {stamped : Bool} : Completes s (execPdreqReceived lane frame ago stamped
    s) :=
  .live (.done fun h => h.pdFrame fun h => h.originate)

theorem Completes.pdrspReceived {lane : Lane} {frame : Bytes} {ago : Nat} : Completes s (execPdrspReceived lane frame ago s) :=
  .live (.done fun h => h.pdFrame fun h => h.takePdrsp)

theorem Completes.syncWorstClear {value : Word} : Completes s (execSyncWorstClear value s) := .live (.done fun h => .ite h.storeWord.put h.storeWord)

/-! Machine/Twin.lean -/

theorem Rising.hbTick (h : Rising s) : Rising s.hbTick := .ite h h.reach.twinRun.twinSend.upd
theorem Rising.hbConsist (h : Rising s) : Rising s.hbConsist := .ite h h.reach.twinRun.upd.sendEth
theorem Rising.formPair {seek : Bool} (h : Rising s) : Rising (s.formPair seek) := .ite h (.ite h.upd h.upd.jointChange)

theorem Rising.partnerBack (h : Rising s) : Rising s.partnerBack :=
  .ite h.record.raise.formPair.upd.allDirty.setTstate (.setTstate (.ite h.record.raise.formPair.upd.needFull h.record.raise.formPair.upd))

theorem Rising.takeHb {link : Bool} {h : Bytes} (hs : Rising s) : Rising (s.takeHb link h) := by
  unfold State.takeHb
  extract_lets +onlyGivenNames _ _ _ _ t _ _ _ _ _ _ _ _
  have ht : Rising t := .ite hs.bump.put hs.bump.put
  exact .ite (.ite (.upd (.ite (.upd (.ite (.dueYield (.ite (.upd (.noteEpoch (.put (.put (.put (.ite ht.upd ht.upd)))))) (.partnerBack (.upd
      (.noteEpoch (.put (.put (.put (.ite ht.upd ht.upd))))))))) (.ite (.upd (.noteEpoch (.put (.put (.put (.ite ht.upd ht.upd)))))) (.partnerBack
      (.upd (.noteEpoch (.put (.put (.put (.ite ht.upd ht.upd)))))))))) (.ite (.dueYield (.ite (.upd (.noteEpoch (.put (.put (.put (.ite ht.upd
      ht.upd)))))) (.partnerBack (.upd (.noteEpoch (.put (.put (.put (.ite ht.upd ht.upd))))))))) (.ite (.upd (.noteEpoch (.put (.put (.put (.ite
      ht.upd ht.upd)))))) (.partnerBack (.upd (.noteEpoch (.put (.put (.put (.ite ht.upd ht.upd))))))))))) (.ite (.upd (.ite (.dueYield (.ite (.upd
      (.noteEpoch (.put (.put (.put (.ite ht.upd ht.upd)))))) (.partnerBack (.upd (.noteEpoch (.put (.put (.put (.ite ht.upd ht.upd))))))))) (.ite
      (.upd (.noteEpoch (.put (.put (.put (.ite ht.upd ht.upd)))))) (.partnerBack (.upd (.noteEpoch (.put (.put (.put (.ite ht.upd ht.upd))))))))))
      (.ite (.dueYield (.ite (.upd (.noteEpoch (.put (.put (.put (.ite ht.upd ht.upd)))))) (.partnerBack (.upd (.noteEpoch (.put (.put (.put (.ite
      ht.upd ht.upd))))))))) (.ite (.upd (.noteEpoch (.put (.put (.put (.ite ht.upd ht.upd)))))) (.partnerBack (.upd (.noteEpoch (.put (.put (.put
      (.ite ht.upd ht.upd))))))))))) (.ite (.ite (.upd (.noteEpoch (.put (.put (.put (.ite ht.upd ht.upd)))))) (.partnerBack (.upd (.noteEpoch (.put
      (.put (.put (.ite ht.upd ht.upd)))))))) (.ite (.upd (.ite (.upd (.noteEpoch (.put (.put (.put (.ite ht.upd ht.upd)))))) (.partnerBack (.upd
      (.noteEpoch (.put (.put (.put (.ite ht.upd ht.upd))))))))) (.ite (.upd (.ite (.upd (.noteEpoch (.put (.put (.put (.ite ht.upd ht.upd))))))
      (.partnerBack (.upd (.noteEpoch (.put (.put (.put (.ite ht.upd ht.upd))))))))) (.ite (.upd (.noteEpoch (.put (.put (.put (.ite ht.upd
      ht.upd)))))) (.partnerBack (.upd (.noteEpoch (.put (.put (.put (.ite ht.upd ht.upd)))))))))))

theorem Rising.entryCame (h : Rising s) : Rising s.entryCame := .ite h.fixItem.originWaves.relayWaiting.judgeChain h

theorem Rising.pathSilent {link : Bool} (h : Rising s) : Rising (s.pathSilent link) := by
  unfold State.pathSilent
  extract_lets +onlyGivenNames t
  have ht : Rising t := .ite h.put.entryCame h.put
  exact .ite ht.record.raise (.ite ht.record.raise.setTstate (.ite ht.record.raise.upd ht.record.raise))

theorem Rising.writeTwinCtrl {v : Nat} (h : Rising s) : Rising (s.writeTwinCtrl v) :=
  .ite (.upd (.put (.put (.ite h.storeWord (.ite h.storeWord.upd h.storeWord.put))))) (.ite h.storeWord (.ite h.storeWord.upd h.storeWord.put))

theorem Rising.twinRx {kind : Nat} {b : Bytes} {f : State → Bytes → State} (h : Rising s) (hf : ∀ {t x1}, Rising t → Rising (f t x1)) : Rising
    (s.twinRx kind b f) :=
  .ite h (by split; exacts [h.bump, .ite (hf h) h])

theorem Rising.takeEntry {pl : Bytes} (h : Rising s) : Rising (s.takeEntry pl) := .ite h (.entryCame (.ite h.upd h.upd.record.upd))
theorem Rising.takeRelay {pl : Bytes} (h : Rising s) : Rising (s.takeRelay pl) := .ite h.bump.setSeq.bump.recordGen h.bump.setSeq.upd
theorem Rising.discardSet (h : Rising s) : Rising s.discardSet := h.bump.raise.needFull
theorem Rising.openSet {no : Nat} (h : Rising s) : Rising (s.openSet no) := .ite h h.upd.discardSet
theorem Rising.takeMir {pl : Bytes} (h : Rising s) : Rising (s.takeMir pl) := .ite h h.openSet.upd

theorem Rising.takeSeal {pl : Bytes} (h : Rising s) : Rising (s.takeSeal pl) :=
  .ite h (.ite h.openSet.upd.discardSet h.openSet.upd.putB.upd.putB.put.bump)

theorem Rising.sendRole (h : Rising s) : Rising s.sendRole := by
  unfold State.sendRole
  split; exacts [h, .ite h h.sendNotice]

theorem Rising.takeRole {f : Bytes} (h : Rising s) : Rising (s.takeRole f) := h.upd

theorem Rising.sendVerdict {pos kind chip claim : Nat} (h : Rising s) : Rising (s.sendVerdict pos kind chip claim) :=
  .record (.upd (.bump (.foldl h fun h => h.sendOut)))

theorem Rising.watchRoles (h : Rising s) : Rising s.watchRoles := by
  unfold State.watchRoles
  split
  · exact h
  · exact .ite h.upd (.foldl h.upd fun h => .ite h (by split; exacts [.sendVerdict (.ite h.upd h), h]))

theorem Rising.takeVerdict {f : Bytes} (h : Rising s) : Rising (s.takeVerdict f) := .ite h h.bump.upd

theorem Rising.actVerdict (h : Rising s) : Rising s.actVerdict := by
  refine .ite h ?_
  split
  · exact h
  · exact .ite (.ite h.upd.record.raise h.upd.record.raise.dueYield) (.ite (.ite h.upd.record.raise.dueYield h.upd.record.raise) (.ite
      h.upd.record.raise h.upd.record.raise.upd))

theorem Completes.twinHbTick : Completes s (execTwinHbTick s) := .liveActive (.done fun h => h.hbTick)
theorem Completes.consistHbSend : Completes s (execConsistHbSend s) := .liveActive (.done fun h => h.hbConsist)

theorem Completes.twinHbReceived {frame : Bytes} : Completes s (execTwinHbReceived frame s) :=
  .liveActive (.done fun h => h.twinRx fun h => .ite h.takeHb h)

theorem Completes.consistHbReceived {port : Port} {frame : Bytes} : Completes s (execConsistHbReceived port frame s) :=
  .liveActive (.done fun h => .ite h.takeHb h)

theorem Completes.twinPathSilent : Completes s (execTwinPathSilent s) :=
  .liveActive (.done fun h => (by split; exacts [.ite h.reach.pathSilent h, h]))

theorem Completes.consistPathSilent : Completes s (execConsistPathSilent s) :=
  .liveActive (.done fun h => (by split; exacts [.ite h.reach.pathSilent h, h]))

theorem Completes.seekTimeout : Completes s (execSeekTimeout s) :=
  .liveActive (.done fun h => (by split; exacts [.ite (.setTstate h.reach.upd) h, h]))

theorem Completes.twinTakeWrite {value : Word} : Completes s (execTwinTakeWrite value s) := .liveActive (.done fun h => h.writeTwinCtrl)
theorem Completes.twinYieldWrite {value : Word} : Completes s (execTwinYieldWrite value s) := .liveActive (.done fun h => h.writeTwinCtrl)

theorem Completes.twinEntryReceived {frame : Bytes} : Completes s (execTwinEntryReceived frame s) :=
  .liveActive (.done fun h => h.twinRx fun h => h.takeEntry)

theorem Completes.twinRelayReceived {frame : Bytes} : Completes s (execTwinRelayReceived frame s) :=
  .liveActive (.done fun h => h.twinRx fun h => h.takeRelay)

theorem Completes.mirFrameReceived {frame : Bytes} : Completes s (execMirFrameReceived frame s) :=
  .liveActive (.done fun h => h.twinRx fun h => h.takeMir)

theorem Completes.mirrorSealReceived {frame : Bytes} : Completes s (execMirrorSealReceived frame s) :=
  .liveActive (.done fun h => h.twinRx fun h => h.takeSeal)

theorem Completes.rolenot : Completes s (execRolenot s) := by
  refine .live (.done fun h => ?_)
  split
  next f s e => exact .takeRole (h.popNotice e)
  next => exact h

theorem Completes.verdict : Completes s (execVerdict s) := by
  refine .live (.done fun h => ?_)
  split
  next f s e => exact .takeVerdict (h.popNotice e)
  next => exact h

/-! Machine/Noon.lean -/

theorem Rising.showRoster {h : Held} (hs : Rising s) : Rising (s.showRoster h) := by
  refine .ite (.put ?_) ?_
  all_goals
    split
    · exact hs.put.put.put.put.put.put.put.put.put.put.putB.putB.putB
    · exact hs.put.put.put.put.put.put.put.put.put.put.putB.putB

theorem Rising.showModeMismatch {r : Roster} (h : Rising s) : Rising (s.showModeMismatch r) := .ite h.putB.raise.recordGen h.putB

theorem Rising.forceEvents {r : Roster} {had oldLoop : Bool} {oldMode : Nat} (h : Rising s) : Rising (s.forceEvents r had oldLoop oldMode) :=
  .put (.put (.ite (.record (.raise (.ite (.record (.ite h.record h)) (.ite h.record h)))) (.ite (.record (.ite h.record h)) (.ite h.record h))))

theorem Rising.forceFollow {oldRef : Option Nat} (h : Rising s) : Rising (s.forceFollow oldRef) :=
  h.refreshIsolation.refreshIsolation.resolveSubs.tellRoster.refreshSchd.refreshSet.putB.timeNoon.refreshRole

theorem Rising.takeForce {h : Held} (hs : Rising s) : Rising (s.takeForce h) := hs.upd.showRoster.bump.showModeMismatch.forceEvents.forceFollow

theorem Rising.commitFlags {h : Held} (hs : Rising s) : Rising (s.commitFlags h) :=
  .ite (.recordGen (.ite hs.putB.recordGen hs.putB)) (.ite hs.putB.recordGen hs.putB)

theorem Rising.commitAdmission (h : Rising s) : Rising s.commitAdmission := .ite (.record (.ite h.putB.raise h.putB)) (.ite h.putB.raise h.putB)

theorem Rising.commitJoin {h : Held} {oldMode : Nat} {had : Bool} (hs : Rising s) : Rising (s.commitJoin h oldMode had) :=
  .ite hs (.ite hs.upd.upd hs.upd)

theorem Rising.commitRound (h : Rising s) : Rising s.commitRound := by
  unfold State.commitRound
  split; exacts [h.onRound, .ite (.originWaves h.sendEntry.upd) h, h]

theorem Rising.commitCompact {rnd : Option (Nat × Nat)} (h : Rising s) : Rising (s.commitCompact rnd) :=
  .ite h (.ite (.ite h.upd.reinau h.upd.upd) h.upd.completeOp)

theorem Rising.commitPending (h : Rising s) : Rising s.commitPending := by
  unfold State.commitPending
  split
  · exact h
  · exact h.upd.takeForce.record.raise.put.commitFlags.commitAdmission.commitJoin.commitRound.commitCompact.refreshInau

theorem Rising.forceGone (h : Rising s) : Rising s.forceGone :=
  h.put.put.put.put.put.put.put.put.put.put.put.put.put.forceFollow.refreshSyncOff.mailCheck

theorem Rising.computeComplete (h : Rising s) : Rising s.computeComplete := .ite h.computed.forceGone h.computed
theorem Completes.rosterComputeComplete : Completes s (execRosterComputeComplete s) := .live (.done fun h => h.computeComplete)

/-! Machine/Recorder.lean -/

theorem Rising.refreshRecState (h : Rising s) : Rising s.refreshRecState := .ite h h.put
theorem Rising.takeToken {c : Nat} (h : Rising s) : Rising (s.takeToken c) := .ite h h.upd
theorem Rising.suppress {c code ot : Nat} (h : Rising s) : Rising (s.suppress c code ot) := h.upd.bump.raise
theorem Rising.refreshStage (h : Rising s) : Rising s.refreshStage := h.put.put
theorem Rising.loseRec {r : StRec} (h : Rising s) : Rising (s.loseRec r) := h.upd.bump.raise
theorem Rising.stageRec {r : StRec} (h : Rising s) : Rising (s.stageRec r) := .ite h.upd.refreshStage h.loseRec
theorem Rising.toMaster {r : StRec} (h : Rising s) : Rising (s.toMaster r) := h.stackMsg
theorem Rising.stageOwn {r : StRec} (h : Rising s) : Rising (s.stageOwn r) := .ite h.stageRec h.toMaster
theorem Rising.putFirst {r : StRec} (h : Rising s) : Rising (s.putFirst r) := .ite h.upd h.toMaster

theorem Rising.stageSuppressed {c : Nat} (h : Rising s) : Rising (s.stageSuppressed c) := by
  unfold State.stageSuppressed
  split; exacts [h, h.upd.stageOwn]

theorem Rising.stageIn {c : Nat} {r : StRec} (h : Rising s) : Rising (s.stageIn c r) :=
  .ite h.suppress (.stageRec (.takeToken (.ite h h.stageSuppressed)))

theorem Rising.stageEvent (h : Rising s) : Rising s.stageEvent := by
  unfold State.stageEvent
  split; exacts [h, .ite h.upd.stageIn h.upd.toMaster]

theorem Rising.onRblk {p : Nat} {f : RBlk → RBlk} (h : Rising s) : Rising (s.onRblk p f) := by
  unfold State.onRblk
  split; exacts [h.upd, h]

theorem Rising.refreshBlocks (h : Rising s) : Rising s.refreshBlocks := h.put.put.put.put
theorem Rising.giveSeq (h : Rising s) : Rising s.giveSeq.2 := h.put

theorem Rising.popHead (h : Rising s) : Rising s.popHead := by
  unfold State.popHead
  split; exacts [h.upd, h.upd.refreshStage]

theorem Rising.endMorning (h : Rising s) : Rising s.endMorning := h.put.putFirst.upd.refreshRecState

theorem Rising.openBlock (h : Rising s) : Rising s.openBlock := by
  unfold State.openBlock
  extract_lets +onlyGivenNames _
  split; exacts [.ite (.ite h.endMorning h) (.refreshBlocks (.upd (.ite h.endMorning h))), .ite h.endMorning h]

theorem Rising.closeBlock (h : Rising s) : Rising s.closeBlock := by
  unfold State.closeBlock
  split; exacts [h, h.onRblk.upd]

theorem Rising.place (h : Rising s) : Rising s.place := by
  unfold State.place
  split
  · exact h
  · split
    · exact h.openBlock
    · exact .ite (.upd (by split; exacts [h, h.giveSeq])) (.ite h.upd h.closeBlock.openBlock)

theorem Rising.recFail (h : Rising s) : Rising s.recFail := h.upd.put.stageOwn.raise.fault

theorem Rising.retire {pl p cause line : Nat} {copy : List Bytes} (h : Rising s) : Rising (s.retire pl p cause line copy) := by
  unfold State.retire
  extract_lets +onlyGivenNames _ a
  have ha : Rising a := by
    unfold a
    split
    · exact h.upd.refreshStage
    · exact h.upd
    · exact h
  clear_value a
  extract_lets +onlyGivenNames again b _ c d e
  have he : Rising e := .ite ha.upd.bump.raise.secondFault ha.upd.bump.raise
  clear_value e
  split
  · exact .refreshBlocks (.ite he.putFirst.upd.record he.putFirst.upd)
  · exact .ite he.upd.endMorning.refreshBlocks (.ite he.upd.record.refreshBlocks.recFail he.upd.record.refreshBlocks)

theorem Rising.recDone {p seq : Nat} {r : StRec} (h : Rising s) : Rising (s.recDone p seq r) :=
  .ite h.onRblk.upd.popHead.bump.upd.put h.onRblk.upd.popHead.bump

theorem Rising.lineWritten {ok : Bool} (h : Rising s) : Rising (s.lineWritten ok) := by
  unfold State.lineWritten
  extract_lets +onlyGivenNames _ _
  split
  · exact h.reach
  · exact h.reach
  · exact .ite h.reach.onRblk.upd.closeBlock.openBlock h.reach.retire
  · refine .ite ?_ h.reach.retire
    extract_lets +onlyGivenNames _ _ _
    split; exacts [h.reach.upd.refreshBlocks.place, h.reach.upd.refreshBlocks.upd]
  · split
    · exact h.reach.upd
    · refine .ite ?_ h.reach.retire
      extract_lets +onlyGivenNames _
      split; exacts [h.reach.onRblk.upd.place, h.reach.onRblk.upd]
  · split
    · exact h.reach.upd
    · refine .ite ?_ h.reach.retire
      extract_lets +onlyGivenNames _
      split; exacts [h.reach.onRblk.recDone, h.reach.onRblk.upd]

theorem Rising.writeStart (h : Rising s) : Rising s.writeStart := .ite h h.place

theorem Rising.scanBlocks (h : Rising s) : Rising s.scanBlocks := by
  unfold State.scanBlocks
  extract_lets +onlyGivenNames _ _ _ _ _ t newest _
  have ht : Rising t := h.upd
  clear_value t newest
  split
  · exact ht.upd
  · exact ht.upd.put

theorem Rising.countAway (h : Rising s) : Rising s.countAway := .ite h h.upd.bumpBy.raise

theorem Rising.scanComplete (h : Rising s) : Rising s.scanComplete := by
  refine .ite h ?_
  extract_lets +onlyGivenNames _ _ _ _ _ _ t _ _ u _ _ _ _
  have ht : Rising t := by
    unfold t
    split
    · exact .bump (.stageOwn (.ite (.stageOwn (.upd (.countAway (.ite h.scanBlocks h)))) (.upd (.countAway (.ite h.scanBlocks h)))))
    · exact .ite (.stageOwn (.upd (.countAway (.ite h.scanBlocks h)))) (.upd (.countAway (.ite h.scanBlocks h)))
  have hu : Rising u := by
    unfold u
    split; exacts [.stageOwn (.upd (.foldl ht fun h => h.stageSuppressed)), .foldl ht fun h => h.stageSuppressed]
  exact .ite (.recFail (.refreshBlocks (.refreshRecState (.upd (.foldl hu fun h => h.stageRec))))) (.refreshBlocks (.refreshRecState (.upd (.foldl
      hu fun h => h.stageRec))))

theorem Rising.hostRecord {code c : Nat} {body : Bytes} (h : Rising s) : Rising (s.hostRecord code c body).2 := by
  unfold State.hostRecord
  extract_lets +onlyGivenNames refuse r
  have hr {t n} (h : Rising t) : Rising (refuse t n).2 := h.put.bump.raise
  clear_value refuse
  split
  · exact hr h
  · split
    · exact hr h
    · split
      · exact hr h.suppress
      · extract_lets t
        have ht : Rising t := .ite h h.stageSuppressed
        clear_value t
        split
        · exact hr h
        · split
          · exact hr h
          · exact ht.takeToken.stageRec.put.raise

theorem Rising.hwctl {v : Nat} (h : Rising s) : Rising (s.hwctl v) := .ite h.put.put.put h.put.put.put.hostRecord
theorem Rising.endFreeze {cause : Nat} (h : Rising s) : Rising (s.endFreeze cause) := .ite h h.upd.put.record.raise
theorem Rising.writeFreeze {v : Nat} (h : Rising s) : Rising (s.writeFreeze v) := .ite h.put.endFreeze (.ite h.put.upd h.put.upd.put.record.raise)

theorem Rising.showLine {res ecc : Nat} (h : Rising s) : Rising (s.showLine res ecc) := by
  unfold State.showLine
  split; exacts [h, .put (.put (.put (.put (.put (.put (.put (.ite h.bump (.ite h.bump h))))))))]

theorem Rising.showNone {res : Nat} (h : Rising s) : Rising (s.showNone res) := h.put.put

theorem Rising.setCursor {morning : Bool} {x : Nat × RBlk × Nat × Bytes} {res ecc : Nat} (h : Rising s) : Rising (s.setCursor morning x res ecc) :=
  h.upd.showLine

theorem Rising.cursorSelect {morning : Bool} {seq ecc : Nat} (h : Rising s) : Rising (s.cursorSelect morning seq ecc) := by
  unfold State.cursorSelect
  split; exacts [h.setCursor, h.upd.showNone]

theorem Rising.cursorStep {ecc : Nat} (h : Rising s) : Rising (State.cursorAdvance.cursorStep s ecc) := by
  unfold State.cursorAdvance.cursorStep
  split
  · exact h
  · refine .ite h.upd.showLine ?_
    split
    · exact h.setCursor
    · split
      · exact h.setCursor
      · exact h.showNone

theorem Rising.cursorAdvance {ecc : Nat} (h : Rising s) : Rising (s.cursorAdvance ecc) := by
  unfold State.cursorAdvance
  split
  · exact h
  · extract_lets here
    clear_value here
    split
    · split
      · exact h.upd.cursorStep
      · split
        · exact h.setCursor
        · exact h.showNone
    · exact h.cursorStep

theorem Rising.classSel {v : Nat} (h : Rising s) : Rising (s.classSel v) := .ite h.put.put.dirtyCfg.upd h.put.put.put.put.put
theorem Rising.mirrorFault (h : Rising s) : Rising s.mirrorFault := .upd (.record (.bump (.ite h h.put.raise.put)))
theorem Rising.mirrorSkip (h : Rising s) : Rising s.mirrorSkip := h.upd.put.put

theorem Rising.mirrorPut {seq : Nat} {ls : List Bytes} (h : Rising s) : Rising (s.mirrorPut seq ls) := by
  unfold State.mirrorPut
  extract_lets +onlyGivenNames _ _ _ _ t _ _ u
  have ht : Rising t := by
    unfold t
    split
    · exact h.upd
    · exact h
  have hu : Rising u := .ite h ht.upd
  clear_value u
  split
  · exact hu
  · exact hu.upd

theorem Rising.mirrorAppend {seq : Nat} (h : Rising s) : Rising (s.mirrorAppend seq) := by
  unfold State.mirrorAppend
  split; exacts [h, h.mirrorPut]

theorem Rising.mirrorStage {r : StRec} (h : Rising s) : Rising (s.mirrorStage r) := h.freshFree.mirrorPut.upd

theorem Rising.mirrorCopy {ok : Bool} (h : Rising s) : Rising (s.mirrorCopy ok) := by
  refine .ite h (.ite h.mirrorFault ?_)
  extract_lets +onlyGivenNames _
  split
  · split; exacts [h.mirrorSkip.mirrorStage, h.mirrorSkip]
  · exact .put h.mirrorSkip.mirrorAppend.upd

theorem Rising.calibrate {ppm : ℤ} (h : Rising s) : Rising (s.calibrate ppm) := h.upd
theorem Rising.writeCheckpoint (h : Rising s) : Rising s.writeCheckpoint := h.upd
theorem Rising.dueCheckpoint (h : Rising s) : Rising s.dueCheckpoint := .ite h.writeCheckpoint h.requestAct
theorem Rising.resumeCounts (h : Rising s) : Rising s.resumeCounts := .writeCheckpoint (.ite h.upd.put.put.record h.upd.put)
theorem Completes.liveRec {f : State → Host.Outcome State Fault Refusal} (h : Completes s (f s)) : Completes s (liveRec s f) := .ite h (.done id)
theorem Completes.recordStage : Completes s (execRecordStage s) := .liveRec (.done fun h => h.stageEvent)

theorem Completes.suppressionTimeout {cls : Fin 256} : Completes s (execSuppressionTimeout cls s) :=
  .liveRec (.done fun h => (by split; exacts [h, h.reachOp.stageSuppressed]))

theorem Completes.lossRecordStage : Completes s (execLossRecordStage s) := .liveRec (.done fun h => (by split; exacts [.ite h.upd.stageOwn h, h]))
theorem Completes.recordWriteStart : Completes s (execRecordWriteStart s) := .liveRec (.done fun h => h.writeStart)
theorem Completes.recordLineWritten {ok : Bool} : Completes s (execRecordLineWritten ok s) := .liveRec (.done fun h => h.lineWritten)
theorem Completes.recorderScanComplete : Completes s (execRecorderScanComplete s) := .liveRec (.done fun h => h.scanComplete)
theorem Completes.operatingTimeCalibrate {ppm : ℤ} : Completes s (execOperatingTimeCalibrate ppm s) := .live (.done fun h => h.calibrate)
theorem Completes.checkpointWrite : Completes s (execCheckpointWrite s) := .liveRec (.done fun h => h.reachOp.dueCheckpoint)
theorem Completes.hostRecordWrite {value : Word} : Completes s (execHostRecordWrite value s) := .live (.done fun h => .ite h.put h.hwctl)
theorem Completes.recdFreezePair {value : Word} : Completes s (execRecdFreezePair value s) := .live (.done fun h => h.writeFreeze)
theorem Completes.freezeExpiry : Completes s (execFreezeExpiry s) := .liveRec (.done fun h => (by split; exacts [h, h.reachOp.endFreeze]))

theorem Completes.recordCursorSelect {value : Word} {ecc : Fin 3} : Completes s (execRecordCursorSelect value ecc s) :=
  .live (.done fun h => .ite h.put h.put.cursorSelect)

theorem Completes.recordCursorAdvance {ecc : Fin 3} : Completes s (execRecordCursorAdvance ecc s) := .live (.done fun h => h.emit.cursorAdvance)
theorem Completes.rateClassStore {value : Word} : Completes s (execRateClassStore value s) := .live (.done fun h => .ite h.put h.classSel)
theorem Completes.rateClassLoad {value : Word} : Completes s (execRateClassLoad value s) := .live (.done fun h => .ite h.put h.classSel)
theorem Completes.mirrorCopy {ok : Bool} : Completes s (execMirrorCopy ok s) := .liveActive (.done fun h => h.mirrorCopy)

theorem Completes.mirrorRetry {ok : Bool} : Completes s (execMirrorRetry ok s) :=
  .liveActive (.done fun h => .ite h (.ite h.reachOp.mirrorFault h.reachOp.put.raise.record.mirrorSkip))

theorem Completes.recdOpsecRead : Completes s (execRecdOpsecRead s) := .live (.done fun h => h.put.emit)

/-! Machine/Reset.lean -/

/-- The table filtered by its keys, with whatever other parts. -/
theorem Rising.of_filter {t : State} {p : Nat × Nat → Bool} (h : Rising s) (e : t.regs = s.regs.filter p) : Rising t := by
  unfold Rising regsRise
  rw [e]
  exact keysRise_filter p h

theorem Rising.applyCfg {c : CfgCopy} {b : Nat} (h : Rising s) : Rising (s.applyCfg c b) := by
  unfold State.applyCfg
  extract_lets +onlyGivenNames mine t
  have ht : Rising t := List.foldlRecOn (motive := fun r => keysRise 0 r = true) mine _ h fun _ ih e _ => keysRise_write e.1 e.2 ih
  split
  · exact ht.upd
  · exact .ite ht.upd ht.upd.applyTables
  · exact ht.upd
  · exact .ite ht.upd ht.upd.applyStations
  · exact ht.upd
  · exact ht.upd
  · exact ht

theorem Rising.restoreCfg (h : Rising s) : Rising s.restoreCfg := by
  unfold State.restoreCfg
  split; exacts [.foldl h fun h => h.applyCfg, h.put.raise.record]

theorem Rising.saveStart (h : Rising s) : Rising s.saveStart := .requestAct h.readVoted.readVoted.readVoted.put.upd

theorem Rising.saveDone (h : Rising s) : Rising s.saveDone := by
  unfold State.saveDone
  split; exacts [h, .ite h h.upd.endAct.put.put.raise.record.completeOp]

theorem Rising.saveRetained (h : Rising s) : Rising s.saveRetained := h.upd

theorem Rising.loadRetained (h : Rising s) : Rising s.loadRetained := by
  unfold State.loadRetained
  extract_lets best
  clear_value best
  split
  · exact h.record
  · exact .ite h.upd.record h.record

theorem Rising.loseStaged (h : Rising s) : Rising s.loseStaged := h.upd
theorem Rising.cutStore (h : Rising s) : Rising s.cutStore := .ite h.onBank h
theorem Rising.carry {aon : Bool} (h : Rising s) : Rising (s.carry aon) := .of_filter h.cutStore rfl

theorem Rising.startUp (h : Rising s) : Rising s.startUp :=
  .refreshStage (.refreshBlocks (.refreshInau (.refreshRole (.takeKey (.upd (.ite (.setTstate (.upd (.putB (.putB (.loadPrograms (.ite (.put (.put
      (.ite h.timeSession.restoreCfg.readVoted.put h.timeSession.restoreCfg.readVoted))) (.ite h.timeSession.restoreCfg.readVoted.put
      h.timeSession.restoreCfg.readVoted))))))) (.putB (.putB (.loadPrograms (.ite (.put (.put (.ite h.timeSession.restoreCfg.readVoted.put
      h.timeSession.restoreCfg.readVoted))) (.ite h.timeSession.restoreCfg.readVoted.put h.timeSession.restoreCfg.readVoted)))))))))))

theorem Rising.startWarm {kind : Nat} (h : Rising s) : Rising (s.startWarm kind) := .ite h h.record.upd
theorem Rising.warmReset {kind : Nat} (h : Rising s) : Rising (s.warmReset kind) := h.progress.loseStaged.upd.carry.put.satInc.upd
theorem Rising.latchStraps {stack half boot : Nat} (h : Rising s) : Rising (s.latchStraps stack half boot) := h.put.put.put.put.putB

theorem Rising.bootFirmware (h : Rising s) : Rising s.bootFirmware := by
  unfold State.bootFirmware
  split; exacts [.ite h.put.record h.put.record, h.put, h.put.record, h.put]

theorem Rising.releaseReset {kind stack half boot : Nat} {flash : Bytes} (h : Rising s) : Rising (s.releaseReset kind stack half boot flash) :=
  .ite (.loadRetained (.foldl (.startUp (.bootFirmware (.ite h.upd.putB.latchStraps.resumeCounts h.upd.putB))) fun h => h.restLane)) (.foldl
      (.startUp (.bootFirmware (.ite h.upd.putB.latchStraps.resumeCounts h.upd.putB))) fun h => h.restLane)

theorem Rising.clearRegs {b : Nat} {all : Bool} (h : Rising s) : Rising (s.clearRegs b all) := .of_filter h rfl

theorem Rising.endFrames {b : Nat} (h : Rising s) : Rising (s.endFrames b) := by
  unfold State.endFrames
  split
  · exact .foldl h fun h => .ite h.leaveActive h.dropLane.restLane
  · exact .foldl h fun h => h.badFrame
  · exact .foldl (.foldl (.foldl h.upd fun h => h.dropFetch) fun h => .foldl h fun h => h.rxTaken) fun h => h.linkDown.onPort
  · extract_lets +onlyGivenNames t
    have ht : Rising t := .ite h (.ite h.stackSend (.ite h.stackSend h))
    split; exacts [ht, .stackMsg (.ite ht.stackSend ht)]
  · exact h

theorem Rising.blockExtra {b : Nat} (h : Rising s) : Rising (s.blockExtra b) := by
  unfold State.blockExtra
  split
  · exact h.upd
  · exact h.upd
  · exact h.upd
  · exact .upd (.ite h.clearForces.applyForceTable.put.put h.clearForces.applyForceTable.put)
  · exact h.upd.endAct
  · exact h.upd
  · exact h.put.put.put.upd
  · exact h.upd
  · exact h

theorem Rising.blockReset {b : Nat} {counters : Bool} (h : Rising s) : Rising (s.blockReset b counters) := by
  unfold State.blockReset
  extract_lets +onlyGivenNames _ _ _ _ _ _ _ _ _ _ _ t _
  have ht : Rising t := by
    unfold t
    split
    · exact .applyCfg (.ite (.upd (.blockExtra (.clearRegs (.foldl (.upd (.ite h.endFrames.upd h.endFrames)) fun h => h.put)))) (.blockExtra
        (.clearRegs (.foldl (.upd (.ite h.endFrames.upd h.endFrames)) fun h => h.put))))
    · exact .ite (.upd (.blockExtra (.clearRegs (.foldl (.upd (.ite h.endFrames.upd h.endFrames)) fun h => h.put)))) (.blockExtra (.clearRegs
        (.foldl (.upd (.ite h.endFrames.upd h.endFrames)) fun h => h.put)))
  exact .ite (.foldl (.ite ht.jointChange ht) fun h => h.restLane) (.ite ht.jointChange ht)

/-! Machine/Dusk.lean -/

theorem Rising.sendDusk {m : DuskMsg} {ends : List Nat} (h : Rising s) : Rising (s.sendDusk m ends) := h.originate
theorem Rising.noteDusk {round : Nat} (h : Rising s) : Rising (s.noteDusk round) := .ite h h.put.put.bump.raise

theorem Rising.endDusk {cause : Nat} (h : Rising s) : Rising (s.endDusk cause) :=
  .ite h (.ite h.upd.put.put.bump.raise.record.put.completeOp h.upd.put.put.bump.raise.record)

theorem Rising.vetoDusk {reason count : Nat} (h : Rising s) : Rising (s.vetoDusk reason count) := h.upd.sendDusk.put.bump.raise.record.endDusk

theorem Rising.acceptCommit {ccyc : Nat} {tc : ℤ} (h : Rising s) : Rising (s.acceptCommit ccyc tc) := by
  unfold State.acceptCommit
  split; exacts [h, .ite h.upd.put.put.raise.record.completeOp h.upd.put.put.raise.record]

theorem Rising.lastConsent {count : Nat} (h : Rising s) : Rising (s.lastConsent count) :=
  .ite h.vetoDusk (by split; exacts [h, h.upd.sendDusk.acceptCommit])

theorem Rising.visitToken {count : Nat} (h : Rising s) : Rising (s.visitToken count) := by
  unfold State.visitToken
  extract_lets +onlyGivenNames _ _ t rs
  have ht : Rising t := h.upd
  clear_value t rs
  split
  · exact ht.vetoDusk
  · exact .ite (.lastConsent ht.put.upd) (.sendDusk ht.put.upd)

theorem Rising.noteSeen {k : Nat × Nat × Nat} (h : Rising s) : Rising (s.noteSeen k) := h.upd
theorem Rising.openDusk {m : DuskMsg} (h : Rising s) : Rising (s.openDusk m) := h.upd

theorem Rising.requestDusk {twl : Bool} (h : Rising s) : Rising (s.requestDusk twl) := by
  unfold State.requestDusk
  extract_lets +onlyGivenNames _
  split
  · exact h.put
  · exact .ite h.put (.ite h.put (.ite h.put (.ite h.put (.ite (.visitToken (.put (.upd (.noteDusk h.put.record.openDusk.upd)))) (.sendDusk (.put
      (.upd (.noteDusk h.put.record.openDusk.upd))))))))

theorem Rising.takeDusk {n : Nat} {f : Bytes} {kind : Nat} {act : State → DuskMsg → State} (h : Rising s) (hact : ∀ {t x1}, Rising t → Rising (act t
    x1)) : Rising (s.takeDusk n f kind act) :=
  .ite h (.ite h.bump (.ite h.bump (.ite h (.ite (.ite (.record (.ite h.upd h)) (.ite h.upd h)) (hact (.upd (.ite h.upd h)))))))

theorem Rising.takeCall {m : DuskMsg} (h : Rising s) : Rising (s.takeCall m) :=
  .ite (.ite h.noteDusk h.noteDusk.openDusk.visitToken) h.noteDusk.sendDusk

theorem Rising.takeToken2 {m : DuskMsg} (h : Rising s) : Rising (s.takeToken2 m) := .ite h.record h.noteDusk.openDusk.visitToken

theorem Rising.takeVerdict2 {e : Nat} {m : DuskMsg} (h : Rising s) : Rising (s.takeVerdict2 e m) :=
  .ite (.ite h.sendDusk.acceptCommit (by split; exacts [h.sendDusk.upd, h.sendDusk])) (.ite (.endDusk (.ite h.sendDusk.put h.sendDusk)) (.ite
      h.sendDusk.put h.sendDusk))

theorem Rising.takeRetract {e : Nat} {m : DuskMsg} (h : Rising s) : Rising (s.takeRetract e m) :=
  .ite (.ite h.sendDusk.put h.sendDusk) (.ite (.ite (.ite h.sendDusk.put h.sendDusk) (.record (.put (.ite h.sendDusk.put h.sendDusk)))) (.endDusk
      (.ite h.sendDusk.put h.sendDusk)))

theorem Rising.wakeReason (h : Rising s) : Rising s.wakeReason := by
  refine .ite h ?_
  split; exacts [h, .ite h.upd.sendDusk.put.bump.raise.record.endDusk (.ite h h.put.record)]

theorem Rising.writeRestCtrl {v : Nat} (h : Rising s) : Rising (s.writeRestCtrl v) :=
  .wakeReason (.ite (.ite (.put (.ite h.storeWord.requestDusk h.storeWord)) (.saveStart (.ite h.storeWord.requestDusk h.storeWord))) (.ite
      h.storeWord.requestDusk h.storeWord))

theorem Rising.abortSlots (h : Rising s) : Rising s.abortSlots := .foldl h fun h => h.complete
theorem Rising.duskBoundary (h : Rising s) : Rising s.duskBoundary := .ite h.upd.abortSlots h
theorem Completes.restDuskWrite {value : Word} : Completes s (execRestDuskWrite value s) := .live (.done fun h => h.writeRestCtrl)
theorem Completes.restSaveWrite {value : Word} : Completes s (execRestSaveWrite value s) := .live (.done fun h => h.writeRestCtrl)
theorem Completes.configSaveComplete : Completes s (execConfigSaveComplete s) := .live (.done fun h => h.saveDone)

theorem Completes.duskCallReceived {lane : Lane} {frame : Bytes} : Completes s (execDuskCallReceived lane frame s) :=
  .live (.done fun h => h.takeDusk fun h => h.takeCall)

theorem Completes.duskTokenReceived {lane : Lane} {frame : Bytes} : Completes s (execDuskTokenReceived lane frame s) :=
  .live (.done fun h => h.takeDusk fun h => h.takeToken2)

theorem Completes.duskVerdictReceived {lane : Lane} {frame : Bytes} : Completes s (execDuskVerdictReceived lane frame s) :=
  .live (.done fun h => h.takeDusk fun h => h.takeVerdict2)

theorem Completes.duskRetractReceived {lane : Lane} {frame : Bytes} : Completes s (execDuskRetractReceived lane frame s) :=
  .live (.done fun h => h.takeDusk fun h => h.takeRetract)

theorem Completes.duskRoundTimeout : Completes s (execDuskRoundTimeout s) := by
  refine .live (.done fun h => ?_)
  split; exacts [h, .ite h.upd.sendDusk.put.endDusk h]

theorem Completes.duskConsentTimeout : Completes s (execDuskConsentTimeout s) := .live (.done fun h => (by split; exacts [h, .ite h.endDusk h]))

theorem Completes.duskDimming : Completes s (execDuskDimming s) := by
  refine .live (.done fun h => ?_)
  split; exacts [h, .ite h (.foldl h.reach.put fun h => h.stackMsg)]

/-! Machine/Boundary.lean -/

theorem Rising.refreshVital {id : Nat} {v : VitS} (h : Rising s) : Rising (s.refreshVital id v) :=
  .ite h.put.put.putB.putB.putB.putB.raise.recordGen (.ite h.put.put.putB.putB.putB.putB.raise.recordGen h.put.put.putB.putB.putB.putB)

theorem Rising.vitalBoundary (h : Rising s) : Rising s.vitalBoundary := .put (.put (.foldl h.upd fun h => h.refreshVital))
theorem Rising.calStep (h : Rising s) : Rising s.calStep := .foldl h fun h => .ite h h.onLane
theorem Rising.closeCycle (h : Rising s) : Rising s.closeCycle := h.clearDevs.upd
theorem Rising.freshCycle (h : Rising s) : Rising s.freshCycle := h.upd
theorem Rising.rebaseAges {d : ℤ} (h : Rising s) : Rising (s.rebaseAges d) := .upd (.ite h.put h)
theorem Rising.noonHere (h : Rising s) : Rising s.noonHere := .ite (.commitPending (.ite h h.endDusk)) h
theorem Rising.tellMembers (h : Rising s) : Rising s.tellMembers := .foldl h fun h => h.stackMsg

theorem Rising.openCycle {noon tchg reph : Bool} (h : Rising s) : Rising (s.openCycle noon tchg reph) :=
  .tellMembers (.calStep (.duskBoundary (.drainRemote (.modeBoundary (.ite (.engineBoundary (.vitalBoundary (.applyTables (.watchRoles (.sendRole
      (.refreshRef (.refreshRole (.ite h.refreshSyncOff.timeBoundary.actVerdict.claimBoundary h.refreshSyncOff.timeBoundary.actVerdict))))))))
      (.vitalBoundary (.applyTables (.watchRoles (.sendRole (.refreshRef (.refreshRole (.ite h.refreshSyncOff.timeBoundary.actVerdict.claimBoundary
      h.refreshSyncOff.timeBoundary.actVerdict))))))))))))

theorem Rising.cycleBoundary (h : Rising s) : Rising s.cycleBoundary := by
  refine .ite h (.openCycle (.noonHere (.closeCycle ?_)))
  split; exacts [h.endSteer.reach.upd.rebaseMap.syncRound, h.endSteer.reach.upd.rebaseMap]

theorem Rising.daybreakBoundary (h : Rising s) : Rising s.daybreakBoundary := by
  unfold State.daybreakBoundary
  split; exacts [h, .ite h h.reach.rebaseAges.upd.setMap.syncRephase.closeCycle.freshCycle.noonHere.openCycle]

theorem Rising.rephaseBoundary (h : Rising s) : Rising s.rephaseBoundary := by
  unfold State.rephaseBoundary
  split
  · exact h
  · exact .ite h (.openCycle (.ite (.adoptMap (.noonHere (.ite h.endSteer.reach.rebaseAges.upd.syncRephase.closeCycle.freshCycle.record
      h.endSteer.reach.rebaseAges.upd.syncRephase.closeCycle.freshCycle))) (.ite (.setMap (.noonHere (.ite
      h.endSteer.reach.rebaseAges.upd.syncRephase.closeCycle.freshCycle.record h.endSteer.reach.rebaseAges.upd.syncRephase.closeCycle.freshCycle)))
      (.noonHere (.ite h.endSteer.reach.rebaseAges.upd.syncRephase.closeCycle.freshCycle.record
      h.endSteer.reach.rebaseAges.upd.syncRephase.closeCycle.freshCycle)))))

theorem Rising.poolCheck (h : Rising s) : Rising s.poolCheck := .ite h h.put.raise.record.fault
theorem Completes.poolConservationCheck : Completes s (execPoolConservationCheck s) := .live (.done fun h => h.poolCheck)

/-! Machine/Stack.lean -/

theorem Rising.farError {cause src member addr : Nat} {data : Bytes} {arrival : Nat} (h : Rising s) : Rising (s.farError cause src member addr data
    arrival) :=
  .recordSec (.raise (.bump (.put (.ite (.put (.ite h.upd.put.record h.upd)) (.ite h.upd.put.record h.upd)))))

theorem Rising.failWrite {cause : Nat} {w : FarOp} (h : Rising s) : Rising (s.failWrite cause w) := h.farError
theorem Rising.selectFar {v : Nat} (h : Rising s) : Rising (s.selectFar v) := h.put.upd.put.put.put.put.put
theorem Rising.setLocked {on : Bool} {src : Nat} (h : Rising s) : Rising (s.setLocked on src) := .ite h.putB.upd h.putB.upd
theorem Rising.refuseLock {res : Nat} (h : Rising s) : Rising (s.refuseLock res) := h.put.put.raise
theorem Rising.releaseTarget {t : Nat} (h : Rising s) : Rising (s.releaseTarget t) := .ite h.setLocked h.stackSend
theorem Rising.endLock {res : Nat} (h : Rising s) : Rising (s.endLock res) := .raise (.upd (.put (.put (.ite h.releaseTarget (.ite h h.stackSend)))))

theorem Rising.dropCore {res : Option Nat} (h : Rising s) : Rising (s.dropCore res) := by
  unfold State.dropCore
  split
  · exact h
  · extract_lets +onlyGivenNames _ _
    split; exacts [h.upd.releaseTarget, .ite h.upd.releaseTarget.stackMsg h.upd.releaseTarget.stackSend]

theorem Rising.takeCore {h t : Nat} (hs : Rising s) : Rising (s.takeCore h t) :=
  .ite hs.stackSend (.ite hs.stackSend (.ite (.stackSend (.setLocked hs.dropCore.upd)) (.stackSend hs.dropCore.upd)))

theorem Rising.coreAnswer {h : Nat} {ok : Bool} (hs : Rising s) : Rising (s.coreAnswer h ok) := by
  unfold State.coreAnswer
  split; exacts [.ite hs (.ite hs.upd.stackSend hs.upd.stackSend), hs]

theorem Rising.writeLock {v who : Nat} (h : Rising s) : Rising (s.writeLock v who) :=
  .ite (.ite h.put (.ite (.refuseLock h.put.upd) (.ite (.ite (.upd (.put h.put.upd)) (.stackSend (.put h.put.upd))) (.ite (.ite (.upd (.refuseLock
      h.put.upd)) (.refuseLock h.put.upd)) (.ite (.put (.dropCore h.put.upd)) (.stackSend (.put (.dropCore h.put.upd)))))))) (.ite (.ite h.upd
      h.upd.endLock) (.ite h.put h))

theorem Rising.lockAnswer {ok : Bool} {res : Nat} (h : Rising s) : Rising (s.lockAnswer ok res) :=
  .ite h (.ite (.ite (.setLocked (.raise (.put h.put.upd))) (.raise (.put h.put.upd))) (.ite h.refuseLock.upd h.refuseLock))

theorem Rising.lockRetry (h : Rising s) : Rising s.lockRetry := .ite h.writeLock h

theorem Rising.pathGone {path : Bool} (h : Rising s) : Rising (s.pathGone path) :=
  .ite (.ite h.endLock h) (.upd (.ite (.setLocked (.ite h.endLock h)) (.ite h.endLock h)))

theorem Rising.lockTimeout (h : Rising s) : Rising s.lockTimeout := by
  unfold State.lockTimeout
  split; exacts [h, .ite h h.reach.endLock.bump.record]

theorem Rising.semRead {n who : Nat} (h : Rising s) : Rising (s.semRead n who).2 := by
  unfold State.semRead
  extract_lets +onlyGivenNames _
  split; exacts [h.put, h.bump]

theorem Rising.semWrite {n v who : Nat} (h : Rising s) : Rising (s.semWrite n v who) := .ite h.put (.ite h.put h)
theorem Rising.aerReport {k : Nat} (h : Rising s) : Rising (s.aerReport k) := h.emit.upd
theorem Rising.countUr (h : Rising s) : Rising s.countUr := h.aerReport.bump.raise.recordSec
theorem Rising.answerUr {tag : Nat} (h : Rising s) : Rising (s.answerUr tag) := h.emit.countUr
theorem Rising.countCa {c : Fld} (h : Rising s) : Rising (s.countCa c) := .raise (.bump (.ite h h.aerReport))
theorem Rising.answerCa {tag len : Nat} {c : Fld} (h : Rising s) : Rising (s.answerCa tag len c) := h.emit.countCa
theorem Rising.failRead {cause tag len : Nat} (h : Rising s) : Rising (s.failRead cause tag len) := h.answerCa.recordSec

theorem Rising.fenceDone (h : Rising s) : Rising s.fenceDone := by
  unfold State.fenceDone
  split; exacts [h, .ite h (.ite h.upd.emit h.upd.stackSend)]

theorem Rising.openFence {tag src : Nat} (h : Rising s) : Rising (s.openFence tag src) := .ite h.upd.fenceDone h.upd
theorem Rising.checkExpect (h : Rising s) : Rising s.checkExpect := .ite h.raise h

theorem Rising.memberLost {m : Nat} (h : Rising s) : Rising (s.memberLost m) := by
  unfold State.memberLost
  extract_lets +onlyGivenNames _ _ _ _ _ _ _ _ _ t _ _ _ _
  have ht : Rising t := by
    unfold t
    split
    · exact .ite (.dropCore (.ite (.endLock (.foldl (.foldl h.put.upd fun h => h.failWrite) fun h => h.failRead)) (.foldl (.foldl h.put.upd
        fun h => h.failWrite) fun h => h.failRead))) (.ite (.dropCore (.ite (.endLock (.foldl (.foldl h.put.upd fun h => h.failWrite)
        fun h => h.failRead)) (.foldl (.foldl h.put.upd fun h => h.failWrite) fun h => h.failRead))) (.ite (.endLock (.foldl (.foldl h.put.upd
        fun h => h.failWrite) fun h => h.failRead)) (.foldl (.foldl h.put.upd fun h => h.failWrite) fun h => h.failRead)))
    · exact .ite (.endLock (.foldl (.foldl h.put.upd fun h => h.failWrite) fun h => h.failRead)) (.foldl (.foldl h.put.upd fun h => h.failWrite)
        fun h => h.failRead)
  exact .ite (.checkExpect (.raise (.record (.foldl (.foldl ht.upd fun h => .ite h.put h) fun h => h.complete)))) (.foldl (.foldl ht.upd
      fun h => .ite h.put h) fun h => h.complete)

theorem Rising.memberJoined {m : Nat} (h : Rising s) : Rising (s.memberJoined m) := .ite h.put.tellRoster.record.raise.checkExpect h.put

theorem Rising.setBelow {mask : Nat} (h : Rising s) : Rising (s.setBelow mask) :=
  .foldl (.ite h.secondFault h) fun h => .ite h.memberLost (.ite h.memberJoined h)

theorem Rising.reportBelow (h : Rising s) : Rising s.reportBelow := .ite h h.stackMsg
theorem Rising.reportFailed {cause : Nat} {w : FarOp} (h : Rising s) : Rising (s.reportFailed cause w) := .ite h.failWrite h.stackMsg

theorem Rising.portDown {port : Nat} (h : Rising s) : Rising (s.portDown port) :=
  .ite h (.ite (.reportBelow (.setBelow (.ite (.secondFault (.ite (.upd (.foldl h.put.bump.upd fun h => h.reportFailed)) (.foldl h.put.bump.upd
      fun h => h.reportFailed))) (.ite (.upd (.foldl h.put.bump.upd fun h => h.reportFailed)) (.foldl h.put.bump.upd fun h => h.reportFailed)))))
      (.pathGone (.upd (.foldl (.ite (.upd (.foldl h.put.bump.upd fun h => h.reportFailed)) (.foldl h.put.bump.upd fun h => h.reportFailed))
      fun h => h.stackMsg))))

theorem Rising.writeStack {v : Nat} (h : Rising s) : Rising (s.writeStack v) := .ite h (.foldl h fun h => .ite h.stackMsg.record h)

/-! Machine/Dawn.lean -/

theorem Rising.sleepLane {n : Nat} (h : Rising s) : Rising (s.sleepLane n) :=
  .onLane (.ite h.dropLane.dropPd.setLaneSt.emit.raise h.dropLane.dropPd.setLaneSt.emit)

theorem Rising.keepIdentity (h : Rising s) : Rising s.keepIdentity := h.upd

theorem Rising.stopForTc (h : Rising s) : Rising s.stopForTc :=
  .put (.upd (.put (.put (.upd (.put (.put (.put (.put (.upd (.ite (.portDown (.portDown (.foldl
      h.cancelSwap.endFreeze.dueCheckpoint.haltTasks.setEngine fun h => h.linkDown))) (.endLock (.portDown (.portDown (.foldl
      h.cancelSwap.endFreeze.dueCheckpoint.haltTasks.setEngine fun h => h.linkDown))))))))))))))

theorem Rising.twilightNoon (h : Rising s) : Rising s.twilightNoon := by
  unfold State.twilightNoon
  split; exacts [h.takeForce, h]

theorem Rising.enterTwilight (h : Rising s) : Rising s.enterTwilight :=
  .upd (.keepIdentity (.refreshRole (.twilightNoon (.upd (.put (.setTstate (.put (.put (.judgeJoint (.judgePair (.judgeJoint (.judgePair (.foldl
      h.upd fun h => h.sleepLane)))))))))))))

theorem Rising.enterSleep {tc : Nat} (h : Rising s) : Rising (s.enterSleep tc) := .upd (.foldl h.upd fun h => h.sleepLane)
theorem Rising.holdWake {src lane pos : Nat} (h : Rising s) : Rising (s.holdWake src lane pos) := .ite h h.upd

theorem Rising.commitNow {tc : Nat} (h : Rising s) : Rising (s.commitNow tc) := by
  unfold State.commitNow
  extract_lets +onlyGivenNames _ _ _ t _
  have ht : Rising t := .stopForTc (.keepIdentity (.ite h.reach.record.bump.twilightNoon h.reach.record.bump))
  exact .ite (.holdWake (.ite ht.enterTwilight ht.enterSleep)) (.ite ht.enterTwilight ht.enterSleep)

theorem Rising.duskCommit (h : Rising s) : Rising s.duskCommit := by
  unfold State.duskCommit
  split; exacts [h, .ite h (.ite (.ite h h.cycleBoundary) (.commitNow (.ite h h.cycleBoundary)))]

theorem Rising.finishEntry (h : Rising s) : Rising s.finishEntry := .saveRetained (.ite h.endAct.writeCheckpoint h)

theorem Rising.sleepEntry (h : Rising s) : Rising s.sleepEntry := by
  unfold State.sleepEntry
  split; exacts [h, .calibrate (.freshFree (.upd (.finishEntry (.ite h h.reach.loseStaged))))]

theorem Rising.sendDawn {f : Bytes} {n : Nat} (h : Rising s) : Rising (s.sendDawn f n).2 := by
  unfold State.sendDawn
  extract_lets +onlyGivenNames _ t
  have ht : Rising t := .ite h.finishTx.resumeTx.finishTx h.finishTx
  clear_value t
  split
  · split
    next =>
      dsimp only
      exact ht.refuseBuf
    next fid u e =>
      dsimp only
      exact (ht.enterPool e).emit.emit.emit.freeFrame.put
  · exact ht

theorem Rising.sendDawns {l : List (Nat × Bytes)} (h : Rising s) : Rising (s.sendDawns l).2 := by
  refine List.foldlRecOn (motive := fun p : List (Nat × Bytes) × State => Rising p.2) l _ h fun _ ih _ _ => ?_
  split
  · exact ih
  · exact ih.sendDawn

theorem Rising.dawnFrames (h : Rising s) : Rising s.dawnFrames.2 := h.sendDawns
theorem Rising.finishRec (h : Rising s) : Rising s.finishRec := .foldl h fun h => .ite h h.lineWritten

theorem Rising.wakeLanes {upA wake : List Nat} (h : Rising s) : Rising (s.wakeLanes upA wake) :=
  .foldl h fun h => .ite h.restLane (.ite h.setLaneSt (.ite h.setLaneSt h.restLane))

theorem Rising.dawnStart (h : Rising s) : Rising s.dawnStart := .ite h h.reach
theorem Rising.dawnTwin (h : Rising s) : Rising s.dawnTwin := .ite h.emit.emit h.emit

theorem Rising.dawnCore {tw : Bool} (h : Rising s) : Rising (s.dawnCore tw) :=
  .ite (.upd (.startUp (.upd (.ite h.calibrate.upd.carry.upd (.put h.calibrate.upd.carry.upd))))) (.loadRetained (.startUp (.upd (.ite
      h.calibrate.upd.carry.upd (.put h.calibrate.upd.carry.upd)))))

theorem Rising.dawnNote {src lane pos : Nat} (h : Rising s) : Rising (s.dawnNote src lane pos) := h.bump.raise.record.put.put.put
theorem Rising.cutEntry (h : Rising s) : Rising s.cutEntry := .ite h.finishRec.finishEntry.upd h

theorem Rising.keepCredit {s old : State} {upA : List Nat} {waits : List (Nat × Bytes)} (h : Rising s) : Rising (s.keepCredit old upA waits) :=
  .foldl (.foldl h fun h => .foldl h fun h => h.put) fun h => h.originate

theorem Rising.dawn {src lane pos : Nat} {relay : List (Nat × Bytes)} (h : Rising s) : Rising (s.dawn src lane pos relay) := by
  unfold State.dawn
  extract_lets +onlyGivenNames _ tw d t
  have ht : Rising t := by
    unfold t d
    split
    · exact h.dawnStart.abortSlots.dawnFrames
    · exact h.dawnStart
  clear_value d t
  extract_lets +onlyGivenNames upA wake u
  have hu : Rising u := .foldl ht fun h => h.emit
  clear_value u
  extract_lets +onlyGivenNames v
  have hv : Rising v := .dawnTwin (.ite hu.finishRec hu.cutEntry)
  clear_value v
  exact .ite hv.dawnCore.wakeLanes.keepCredit.dawnNote.upd.startWarm hv.dawnCore.wakeLanes.keepCredit.dawnNote.upd

theorem Rising.dawnFrom {src lane pos : Nat} {relay : List (Nat × Bytes)} (h : Rising s) : Rising (s.dawnFrom src lane pos relay) :=
  .ite h.dawn.bump.raise.record h.dawn

theorem Rising.wakeUp {src lane pos : Nat} {relay : List (Nat × Bytes)} (h : Rising s) : Rising (s.wakeUp src lane pos relay) :=
  .ite (.foldl h.wakeReason.holdWake fun h => h.originate) h.wakeReason.dawnFrom

theorem Rising.heldDawn (h : Rising s) : Rising s.heldDawn := .ite h (by split; exacts [h.dawnFrom, .ite h.dawn h])

theorem Rising.guardEnds (h : Rising s) : Rising s.guardEnds := by
  unfold State.guardEnds
  extract_lets t
  clear_value t
  split
  · exact h
  · exact .foldl h.reach fun h => .ite h.onLane.restLane h

theorem Rising.patternEnd (h : Rising s) : Rising s.patternEnd := by
  unfold State.patternEnd
  split; exacts [h.guardEnds, .foldl h.reach.upd fun h => .ite h.leaveActive (.ite h.restLane h)]

theorem Rising.alsoWoke {src : Nat} (h : Rising s) : Rising (s.alsoWoke src) := .ite h.put h
theorem Rising.wakeBy {src : Nat} (h : Rising s) : Rising (s.wakeBy src) := .ite h.wakeUp h.alsoWoke

theorem Rising.laneEnergy {n mv d : Nat} (h : Rising s) : Rising (s.laneEnergy n mv d) :=
  .ite h.alsoWoke (.ite h (.ite h (.ite h.wakeUp (.ite h.freshFree.wakeUp h.freshFree))))

theorem Rising.takeDawn {n : Nat} {f : Bytes} (h : Rising s) : Rising (s.takeDawn n f) :=
  .ite h (.ite h.bump (.ite h.bump (.ite h.sendDawns.wakeUp (.ite h.alsoWoke h.sendDusk.noteSeen.alsoWoke))))

theorem Rising.judgePin (h : Rising s) : Rising s.judgePin := .ite (.wakeReason (.ite h.wakeBy h)) (.ite h.wakeBy h)
theorem Rising.wakeInput {level : Bool} (h : Rising s) : Rising (s.wakeInput level) := h.upd.judgePin
theorem Rising.writeRestWake {v : Nat} (h : Rising s) : Rising (s.writeRestWake v) := h.storeWord.judgePin

theorem Rising.wakeGuard {n : Nat} (h : Rising s) : Rising (s.wakeGuard n) := by
  unfold State.wakeGuard
  split; exacts [h, .ite h.reach.dropLane.restLane.onLane.emit.bump.record h]

theorem Rising.duskWakeReason (h : Rising s) : Rising s.duskWakeReason := .ite h.wakeUp h.wakeReason
theorem Completes.liveAon {f : State → Host.Outcome State Fault Refusal} (h : Completes s (f s)) : Completes s (liveAon s f) := .ite h (.done id)
theorem Completes.duskCommit : Completes s (execDuskCommit s) := .live (.done fun h => h.duskCommit)
theorem Completes.duskSleepEntry : Completes s (execDuskSleepEntry s) := .liveAon (.done fun h => h.sleepEntry)
theorem Completes.heldDawnStart : Completes s (execHeldDawnStart s) := .liveAon (.done fun h => h.heldDawn)
theorem Completes.wakeGuardSend {lane : Lane} : Completes s (execWakeGuardSend lane s) := .liveActive (.done fun h => h.wakeGuard)

theorem Completes.dawnFrameReceived {lane : Lane} {frame : Bytes} : Completes s (execDawnFrameReceived lane frame s) :=
  .live (.done fun h => h.takeDawn)

theorem Completes.dawnWakePatternEnd : Completes s (execDawnWakePatternEnd s) := .live (.done fun h => h.patternEnd)
theorem Completes.wakeInputActive {level : Bool} : Completes s (execWakeInputActive level s) := .liveAon (.done fun h => h.wakeInput)
theorem Completes.alarmWake : Completes s (execAlarmWake s) := .liveAon (.done fun h => .ite (.wakeBy (.ite h.reachOp h)) h)
theorem Completes.duskWakeReason : Completes s (execDuskWakeReason s) := .live (.done fun h => h.duskWakeReason)
theorem Completes.laneEnergyWake {lane : Lane} {mv ns : Nat} : Completes s (execLaneEnergyWake lane mv ns s) := .liveAon (.done fun h => h.laneEnergy)

theorem Completes.twinWakeDetected {ns : Nat} : Completes s (execTwinWakeDetected ns s) :=
  .liveAon (.done fun h => .ite h.bumpBy.alsoWoke (.ite h.wakeBy h))

theorem Completes.keyCodeDebounced {keyA keyB : Bool} : Completes s (execKeyCodeDebounced keyA keyB s) :=
  .liveAon (.done fun h => .ite h.upd (.ite (.wakeReason (.ite (.wakeBy (.ite h.upd.takeKey h.upd)) (.ite h.upd.takeKey h.upd))) (.ite (.wakeBy
      (.ite h.upd.takeKey h.upd)) (.ite h.upd.takeKey h.upd))))

theorem Completes.leadInputDebounced {level : Bool} : Completes s (execLeadInputDebounced level s) :=
  .liveAon (.done fun h => .ite h (.ite (.ite (.wakeUp (.ite h.takeLead h.putB)) (.wakeReason (.ite h.takeLead h.putB))) (.ite (.wakeReason (.ite
      h.takeLead.alsoWoke h.takeLead)) h.putB)))

theorem Completes.nwakeoutRelease : Completes s (execNwakeoutRelease s) := .liveAon (.done fun h => (by split; exacts [.emit h.reach.upd, h]))

/-! Machine/CmdCtl.lean -/

theorem Rising.commandReset (h : Rising s) : Rising s.commandReset := h.abortSlots.upd.blockReset.upd.refreshOpen.put.record
theorem Rising.writeCmdCtrl {v : Nat} (h : Rising s) : Rising (s.writeCmdCtrl v) := .ite h.commandReset (.ite h.storeWord.put.put.upd h.storeWord)
theorem Rising.dropArm (h : Rising s) : Rising s.dropArm := h.put.put.upd
theorem Rising.keyArm {v : Nat} (h : Rising s) : Rising (s.keyArm v) := h.put.put.upd

theorem Rising.armExpiry (h : Rising s) : Rising s.armExpiry := by
  unfold State.armExpiry
  split; exacts [h, h.reachOp.dropArm]

theorem Completes.commandReset : Completes s (execCommandReset s) := .liveActive (.done fun h => h.writeCmdCtrl)
theorem Completes.cmdEnableWrite {value : Word} : Completes s (execCmdEnableWrite value s) := .liveActive (.done fun h => h.writeCmdCtrl)
theorem Completes.keyArm {value : Word} : Completes s (execKeyArm value s) := .live (.done fun h => h.keyArm)
theorem Completes.keyArmExpiry : Completes s (execKeyArmExpiry s) := .live (.done fun h => h.armExpiry)

/-! Machine/Housekeeping.lean -/

theorem Rising.setBank {b : Nat} {x : Snap} (h : Rising s) : Rising (s.setBank b x) := .ite h.upd h.upd

theorem Rising.capture {h : Bytes} (hs : Rising s) : Rising (s.capture h) := by
  unfold State.capture
  split; exacts [hs.bump.raise.record, .raise (.bump (.ite hs.setBank.upd.put.put.put hs.setBank.upd.put.put))]

theorem Rising.snapshot {src : Nat} {mid : Option Midnight} (h : Rising s) : Rising (s.snapshot src mid) := by
  unfold State.snapshot
  extract_lets +onlyGivenNames _ _
  split; exacts [.ite (.setBank (.ite h.poolCheck.put h.poolCheck)) h.poolCheck.capture, h.poolCheck.capture]

theorem Rising.snapSel {v : Nat} (h : Rising s) : Rising (s.snapSel v) := by
  unfold State.snapSel
  extract_lets +onlyGivenNames _ _ _ _
  split <;> exact h.storeWord.put.put.put

theorem Rising.refreshMids (h : Rising s) : Rising s.refreshMids := h.put
theorem Rising.midFull (h : Rising s) : Rising s.midFull := h.bump.raise.record
theorem Rising.armMidnight {m : Midnight} (h : Rising s) : Rising (s.armMidnight m) := .ite h.bump.raise.record (.ite h.midFull h.upd.refreshMids)
theorem Rising.sendMidn {m : Midnight} {ends : List Nat} (h : Rising s) : Rising (s.sendMidn m ends) := h.originate

theorem Rising.writeMidns {v : Nat} (h : Rising s) : Rising (s.writeMidns v) := by
  refine .ite h.storeWord ?_
  extract_lets +onlyGivenNames _
  split
  · exact .ite h.storeWord.put (.ite h.storeWord.put (.ite h.storeWord.midFull.put h.storeWord.put.put.upd.refreshMids.sendMidn.record))
  · exact h.storeWord.put

theorem Rising.takeMidn {n : Nat} {f : Bytes} (h : Rising s) : Rising (s.takeMidn n f) :=
  .ite h (.ite h.bump (.ite h.bump (.ite h h.upd.sendMidn.armMidnight)))

theorem Rising.fireMidnight (h : Rising s) : Rising s.fireMidnight := by
  unfold State.fireMidnight
  split; exacts [h.reach.upd.snapshot.refreshMids, h]

theorem Rising.judgeAlarm {x : Nat × Bool × Nat} (h : Rising s) : Rising (s.judgeAlarm x) := by
  unfold State.judgeAlarm
  extract_lets +onlyGivenNames _
  split; exacts [h.upd.raise.record, h.upd, h.upd, h]

theorem Rising.telemetry {t : Telem} (h : Rising s) : Rising (s.telemetry t) := .foldl h.put.put.put.put.put.put.put.put fun h => h.judgeAlarm
theorem Rising.sweep {t : Telem} (h : Rising s) : Rising (s.sweep t) := .ite h.telemetry h.requestAct

theorem Rising.alarmEnd {q : Nat} (h : Rising s) : Rising (s.alarmEnd q) := by
  unfold State.alarmEnd
  split; exacts [h.reach.upd.raise.record, h]

theorem Rising.scrub {region addr err : Nat} (h : Rising s) : Rising (s.scrub region addr err) := by
  refine .ite h ?_
  split; exacts [h, h.bump, .ite h.requestAct h.put.put.bump.raise.record]

theorem Rising.scrubRepair (h : Rising s) : Rising s.scrubRepair := by
  unfold State.scrubRepair
  split; exacts [h.onBank.endAct.bump.record, h]

theorem Rising.onCal {n : Nat} {f : CalS → CalS} (h : Rising s) : Rising (s.onCal n f) := h.upd
theorem Rising.calStart {n : Nat} (h : Rising s) : Rising (s.calStart n) := .ite h.requestAct h
theorem Rising.calAll (h : Rising s) : Rising s.calAll := .foldl h.put.putB fun h => .requestAct (.ite h.onCal h)

theorem Rising.calDone {n : Nat} {result : ℤ} (h : Rising s) : Rising (s.calDone n result) := by
  unfold State.calDone
  extract_lets +onlyGivenNames _ _ _ _ _
  split
  · exact .ite (.setLaneSt (.bump (.put (.put (.onLane (.onCal (.endAct h.freshFree.upd))))))) (.bump (.put (.put (.onLane (.onCal (.endAct
      h.freshFree.upd))))))
  · exact .ite h.freshFree.upd (.ite (.ite (.suspendAct (.secondFault (.put (.record (.bump (.onCal (.endAct h.freshFree.upd))))))) (.record (.bump
      (.onCal (.endAct h.freshFree.upd))))) (.bump (.put (.put (.onCal (.endAct h.freshFree.upd))))))

theorem Rising.patrolDue (h : Rising s) : Rising s.patrolDue := h.reachOp.upd.requestAct

theorem Rising.mramBad {region line : Nat} (h : Rising s) : Rising (s.mramBad region line) := by
  unfold State.mramBad
  split; exacts [h.onBank, h.onBank, h.upd, h.upd, h.upd, h.upd, h.upd, h.upd, h.put.put.upd]

theorem Rising.patrolSector {region line corrected : Nat} {bad last : Bool} (h : Rising s) : Rising (s.patrolSector region line corrected bad last)
    := by
  refine .ite h ?_
  extract_lets +onlyGivenNames _ t
  have ht : Rising t := .ite h.bumpBy.mramBad.bump.raise.record h.bumpBy
  exact .ite ht.endAct (.ite ht.upd.refreshAct ht)

theorem Rising.writeHkpCtrl {v : Nat} (h : Rising s) : Rising (s.writeHkpCtrl v) :=
  .ite (.requestAct (.ite (.calAll (.ite h.storeWord.snapshot h.storeWord)) (.ite h.storeWord.snapshot h.storeWord))) (.ite (.calAll (.ite
      h.storeWord.snapshot h.storeWord)) (.ite h.storeWord.snapshot h.storeWord))

theorem Rising.snapEdge {rising : Bool} (h : Rising s) : Rising (s.snapEdge rising) := .ite h.snapshot h

theorem Rising.startAct (h : Rising s) : Rising s.startAct := by
  unfold State.startAct
  split
  · exact h
  · extract_lets +onlyGivenNames _ _
    split; exacts [h.upd.telemetry, h.upd.writeCheckpoint, h.upd.upd.refreshAct]

theorem Completes.snapshotNow {value : Word} : Completes s (execSnapshotNow value s) := .live (.done fun h => h.writeHkpCtrl)
theorem Completes.snapinEdge {rising : Bool} : Completes s (execSnapinEdge rising s) := .live (.done fun h => h.snapEdge)
theorem Completes.midnightRequest {value : Word} : Completes s (execMidnightRequest value s) := .live (.done fun h => h.writeMidns)

theorem Completes.midnFrameReceived {lane : Lane} {frame : Bytes} : Completes s (execMidnFrameReceived lane frame s) :=
  .live (.done fun h => h.takeMidn)

theorem Completes.midnightFire : Completes s (execMidnightFire s) := .live (.done fun h => h.fireMidnight)

theorem Completes.telemetrySweep {tj : ℤ} {vin vio1 vio2 vcore sp : Nat} : Completes s (execTelemetrySweep tj vin vio1 vio2 vcore sp s) :=
  .live (.done fun h => h.sweep)

theorem Completes.telemetryAlarmEnd {quantity : Fin 6} : Completes s (execTelemetryAlarmEnd quantity s) := .live (.done fun h => h.alarmEnd)

theorem Completes.scrubStep {region : Fin 8} {addr : BitVec 23} {err : Fin 3} : Completes s (execScrubStep region addr err s) :=
  .live (.done fun h => h.scrub)

theorem Completes.scrubRepair : Completes s (execScrubRepair s) := .live (.done fun h => h.scrubRepair)
theorem Completes.laneCalibrationStart {lane : Lane} : Completes s (execLaneCalibrationStart lane s) := .live (.done fun h => h.calStart)
theorem Completes.hkpLcalWrite {value : Word} : Completes s (execHkpLcalWrite value s) := .live (.done fun h => h.writeHkpCtrl)

theorem Completes.laneCalibrationComplete {lane : Lane} {result : ℤ} : Completes s (execLaneCalibrationComplete lane result s) :=
  .live (.done fun h => h.calDone)

theorem Completes.mramPatrolPeriod : Completes s (execMramPatrolPeriod s) := .live (.done fun h => h.patrolDue)
theorem Completes.hkpMpatWrite {value : Word} : Completes s (execHkpMpatWrite value s) := .live (.done fun h => h.writeHkpCtrl)

theorem Completes.mramPatrolSector {region : Fin 12} {line corrected : Nat} {uncorrectable last : Bool} : Completes s (execMramPatrolSector region
    line corrected uncorrectable last s) :=
  .live (.done fun h => h.patrolSector)

theorem Completes.activityStart : Completes s (execActivityStart s) := .live (.done fun h => h.startAct)
theorem Completes.hkpSselWrite {value : Word} : Completes s (execHkpSselWrite value s) := .live (.done fun h => h.snapSel)

/-! Machine/Power.lean -/

theorem Rising.vinLoss (h : Rising s) : Rising s.vinLoss := h.upd
theorem Rising.powerOn (h : Rising s) : Rising s.powerOn := h.vinLoss.upd.carry.put.put.upd
theorem Rising.refreshVio (h : Rising s) : Rising s.refreshVio := h.putB
theorem Rising.driveBank1 (h : Rising s) : Rising s.driveBank1 := .foldl h.emit.emit.emit.emit fun h => h.tpoPin

theorem Rising.vioBank {bank : Nat} {lost : Bool} (h : Rising s) : Rising (s.vioBank bank lost) :=
  .record (.refreshVio (.ite (.driveBank1 (.ite h.emit.upd h.emit.upd)) (.ite h.emit.upd h.emit.upd)))

theorem Rising.writePace {v : Nat} (h : Rising s) : Rising (s.writePace v) :=
  .ite h.readVoted.storeWord.put.record (.ite (.upd (.upd (.ite h.readVoted.storeWord h.readVoted.storeWord.dirtyCfg))) (.ite (.upd (.upd (.ite
      h.readVoted.storeWord h.readVoted.storeWord.dirtyCfg))) (.put (.upd (.ite h.readVoted.storeWord h.readVoted.storeWord.dirtyCfg)))))

theorem Rising.holdStack {held : Bool} (h : Rising s) : Rising (s.holdStack held) := .put (.put (.ite h.portDown.portDown h))

theorem Rising.paceDone (h : Rising s) : Rising s.paceDone :=
  .ite h (.ite (.failRound (.foldl (.holdStack (.ite h.readVoted.put.put h.readVoted.put.put.record)) fun h => .ite h.leaveActive
      h.dropLane.restLane)) (.ite (.judgeStart (.foldl (.holdStack (.ite h.readVoted.put.put h.readVoted.put.put.record)) fun h => h.restLane))
      (.ite h.readVoted.put.put h.readVoted.put.put.record)))

theorem Rising.cutLineA {n : Nat} (h : Rising s) : Rising (s.cutLineA n) := .emit (.foldl h.advance.onLane fun h => h.gc)

theorem Rising.holdoffEnd (h : Rising s) : Rising s.holdoffEnd := by
  unfold State.holdoffEnd
  split; exacts [h, .warmReset (.ite h h.reach)]

theorem Rising.writeGlbRst {v : Nat} (h : Rising s) : Rising (s.writeGlbRst v) := .ite h.saveRetained h
theorem Completes.vinLoss : Completes s (execVinLoss s) := .done fun h => h.vinLoss
theorem Completes.powerOnReset : Completes s (execPowerOnReset s) := .done fun h => h.powerOn

theorem Completes.resetRelease {stack : Fin 4} {half : Fin 2} {boot : Fin 4} {flash : Flash} : Completes s (execResetRelease stack half boot flash
    s) :=
  .done fun h => (by split; exacts [.ite h.upd h.upd.releaseReset, h])

theorem Completes.pinReset {low : Bool} : Completes s (execPinReset low s) := .done fun h => .ite h.upd.startWarm h.upd
theorem Completes.watchdogReset : Completes s (execWatchdogReset s) := .liveActive (.done fun h => h.startWarm)
theorem Completes.thermalReset : Completes s (execThermalReset s) := .liveActive (.done fun h => h.upd.startWarm)

theorem Completes.thermalResetRelease : Completes s (execThermalResetRelease s) := by
  refine .done fun h => ?_
  extract_lets +onlyGivenNames _ _
  split; exacts [.ite h.upd.releaseReset h.upd, h.upd]

theorem Completes.warmResetHoldoffEnd : Completes s (execWarmResetHoldoffEnd s) := .live (.done fun h => h.holdoffEnd)
theorem Completes.twilightWatchdog : Completes s (execTwilightWatchdog s) := .live (.done fun h => .ite h.record h)

theorem Completes.twilightThermalHold {tj : ℤ} : Completes s (execTwilightThermalHold tj s) :=
  .live (.done fun h => .ite (.record h.cutLineA.cutLineA.upd) h)

theorem Completes.twilightThermalHoldEnd : Completes s (execTwilightThermalHoldEnd s) :=
  .live (.done fun h => .ite (.foldl h.upd fun h => h.chooseTx) h)

theorem Completes.vioBankLoss {bank : Fin 2} : Completes s (execVioBankLoss bank s) := .liveAon (.done fun h => h.vioBank)
theorem Completes.vioBankRestore {bank : Fin 2} : Completes s (execVioBankRestore bank s) := .liveAon (.done fun h => h.vioBank)
theorem Completes.regulatorCurrentLimit : Completes s (execRegulatorCurrentLimit s) := .live (.done fun h => h.put.recordSec)
theorem Completes.paceLevelWrite {value : Word} : Completes s (execPaceLevelWrite value s) := .live (.done fun h => h.writePace)
theorem Completes.retainedImageSave {value : Word} : Completes s (execRetainedImageSave value s) := .live (.done fun h => h.writeGlbRst)

/-! Machine/TimeIo.lean -/

theorem Rising.armTpo {n v : Nat} (h : Rising s) : Rising (s.armTpo n v) :=
  .ite h.storeWord.onTpo.tpoPin (.ite h.storeWord.onTpo.fireTpo h.storeWord.onTpo.tpoPin)

theorem Rising.onTci {n : Nat} {f : TciS → TciS} (h : Rising s) : Rising (s.onTci n f) := h.upd
theorem Rising.refreshFill {n : Nat} (h : Rising s) : Rising (s.refreshFill n) := .ite h.put.onTci h.put

theorem Rising.stampEdge {n : Nat} {rising : Bool} (h : Rising s) : Rising (s.stampEdge n rising) :=
  .ite (.ite h.onTci.put.bump.raise h.onTci.put.bump.raise.onTci.record) (.refreshFill (.onTci (.ite h.onTci.staleMb h.onTci)))

theorem Rising.takeEdge {n : Nat} {rising : Bool} (h : Rising s) : Rising (s.takeEdge n rising) := .ite h.stampEdge h

theorem Rising.takePpsEdge (h : Rising s) : Rising s.takePpsEdge := by
  unfold State.takePpsEdge
  exact .takePps (.ite h.stampEdge h)

theorem Rising.loadTimeMb (h : Rising s) : Rising s.loadTimeMb := h.put.put.put.put.put
theorem Rising.writeTimeMb {v : Nat} (h : Rising s) : Rising (s.writeTimeMb v) := h.storeWord.loadTimeMb
theorem Rising.popCapture (h : Rising s) : Rising s.popCapture := .ite h.onTci.refreshFill.loadTimeMb h
theorem Completes.tpoArmWrite {unit : Fin 4} {value : Word} : Completes s (execTpoArmWrite unit value s) := .live (.done fun h => h.armTpo)

theorem Completes.compareUnitFire {unit : Fin 4} : Completes s (execCompareUnitFire unit s) :=
  .liveActive (.done fun h => (by split; exacts [h, h.reachShort.fireTpo]))

theorem Completes.tpoPulseEnd {unit : Fin 4} : Completes s (execTpoPulseEnd unit s) :=
  .liveActive (.done fun h => (by split; exacts [h, h.reachShort.onTpo.tpoPin]))

theorem Completes.captureEdge {input : Fin 4} {rising : Bool} : Completes s (execCaptureEdge input rising s) :=
  .liveActive (.done fun h => h.takeEdge)

theorem Completes.ppsEdge : Completes s (execPpsEdge s) := .liveActive (.done fun h => h.takePpsEdge)
theorem Completes.timeMbselWrite {value : Word} : Completes s (execTimeMbselWrite value s) := .live (.done fun h => h.writeTimeMb)
theorem Completes.captureFifoPop : Completes s (execCaptureFifoPop s) := .live (.done fun h => h.emit.popCapture)

/-! Machine/Access.lean -/

theorem Rising.clearCounters {a : Nat} (h : Rising s) : Rising (s.clearCounters a) := by
  unfold State.clearCounters
  extract_lets +onlyGivenNames hit t
  have ht : Rising t := .of_filter h rfl
  split
  · exact .foldl ht fun h => h.put
  · exact ht.put
  · exact ht.put.put
  · exact ht

theorem Rising.writeFault {v : Nat} (h : Rising s) : Rising (s.writeFault v) :=
  .refreshFault (.ite (.fault (.ite h.storeWord.fault h.storeWord)) (.ite h.storeWord.fault h.storeWord))

theorem Rising.writeVoted {a v : Nat} (h : Rising s) : Rising (s.writeVoted a v) := .ite h.setVoted h.setVoted.dirtyCfg

theorem Rising.wpEffect {a v : Nat} (h : Rising s) : Rising (s.wpEffect a v) := by
  unfold State.wpEffect
  extract_lets +onlyGivenNames _
  split
  · exact h.clearOpt.schdSel
  · exact h.clearOpt.stationSel
  · exact h.clearOpt.prgCmd
  · exact h.clearOpt.frcSel
  · exact h.clearOpt.put
  · exact h.clearOpt.hwctl
  · exact h.clearOpt.classSel
  · exact h.clearOpt.put.cursorSelect
  · exact h.clearOpt

theorem Rising.wpNext {b : Nat} (h : Rising s) : Rising (s.wpNext b) := by
  unfold State.wpNext
  split; exacts [h, h.upd.wpEffect]

theorem Rising.dropPair {b : Nat} (h : Rising s) : Rising (s.dropPair b) := h.upd.setOpt
theorem Rising.wcpFirst {a v : Nat} (h : Rising s) : Rising (s.wcpFirst a v) := .upd (.ite h.dropPair h)

theorem Rising.blockResets {v : Nat} (h : Rising s) : Rising (s.blockResets v) :=
  .foldl (.ite h.put.commandReset (.ite h.put h.put.abortSlots)) fun h => .ite h h.blockReset

theorem Rising.wcpEffect {a v : Nat} (h : Rising s) : Rising (s.wcpEffect a v) := by
  unfold State.wcpEffect
  split; exacts [h.blockResets, h.writeFreeze, h.keyArm, h]

theorem Rising.wcpSecond {a v : Nat} (h : Rising s) : Rising (s.wcpSecond a v) := by
  unfold State.wcpSecond
  extract_lets +onlyGivenNames _
  split; exacts [h.dropPair, .ite h.upd.wcpEffect h.dropPair]

theorem Rising.wcpTimeout {b : Nat} (h : Rising s) : Rising (s.wcpTimeout b) := by
  unfold State.wcpTimeout
  split; exacts [h, h.reach.dropPair]

theorem Rising.writeLow {a v : Nat} (h : Rising s) : Rising (s.writeLow a v) := by
  unfold State.writeLow
  split
  · exact h.writeFault
  · exact h.writePace
  · exact h.writeVoted
  · exact h.writeGlbRst
  · exact h.writeInauCtrl
  · exact h.writeInauMb
  · exact h.writeModeReq
  · exact .ite h.storeWord.put h.storeWord
  · exact h.writeTimeCtrl
  · exact h.upd.storeWord
  · exact h.storeWord.refreshRef
  · exact h.storeWord.upd
  · exact h.writeTimeMb
  · exact h.storeWord.refreshFloor
  · exact h.storeWord.refreshFloor
  · exact .ite h.writeModeDesc (.ite h.armTpo h.storeWord)

theorem Rising.writeCons {a v : Nat} (h : Rising s) : Rising (s.writeCons a v) := by
  unfold State.writeCons
  extract_lets p o
  refine .ite h.writeConsCtrl (.ite h.writeMdio ?_)
  refine (.ite (.ite h.storeWord h.storeWord.onPort) ?_)
  refine (.ite h.writeRingCfg (.ite h.writeRingCfg (.ite h.storeWord.rxTaken (.ite h.storeWord.onPort (.ite h.takeRule h.storeWord)))))

theorem Rising.writeHigh {a v who : Nat} (h : Rising s) : Rising (s.writeHigh a v who) := by
  unfold State.writeHigh
  split
  · exact h.writeCyclCtrl
  · exact h.writeTwinCtrl
  · exact h.writeRestCtrl
  · exact h.writeRestWake
  · exact .ite h.storeWord.upd h.storeWord
  · exact h.writeStack
  · exact h.writeLock
  · exact h.selectFar
  · exact h.writeCmdCtrl
  · exact h.writeVoted
  · exact h.writeHkpCtrl
  · exact h.writeMidns
  · exact h.snapSel
  · exact .ite h.semWrite h.storeWord

theorem Rising.writeIen {a v : Nat} (h : Rising s) : Rising (s.writeIen a v) := .foldl h.storeWord fun h => .ite h.signal h

theorem Rising.regWrite {a v who : Nat} (h : Rising s) : Rising (s.regWrite a v who) := by
  unfold State.regWrite
  refine .ite h.post (.ite h.wcpFirst (.ite h.wcpSecond (.ite h.clearIrq (.ite (.ite h.clearCounters h) (.ite h.writeIen ?_)))))
  split
  · exact .ite h.writeLaneCtrl h.storeWord
  · exact h.writeCons
  · exact .ite h.writeLow h.writeHigh

theorem Rising.regRead {a who : Nat} (h : Rising s) : Rising (s.regRead a who).2 := by
  unfold State.regRead
  split
  · exact h.semRead
  · extract_lets +onlyGivenNames _ _
    split
    · exact h.readVoted.put.put.put.put
    · exact h.readVoted.popCapture
    · exact h.readVoted.put
    · exact h.readVoted.cursorAdvance
    · exact h.readVoted

theorem Completes.registerWrite {addr value : Word} : Completes s (execRegisterWrite addr value s) := .live (.done fun h => h.regWrite)
theorem Completes.wpWriteTakesEffect {block : Fin 16} : Completes s (execWpWriteTakesEffect block s) := .live (.done fun h => h.wpNext)
theorem Completes.wcpFirstWord {addr value : Word} : Completes s (execWcpFirstWord addr value s) := .live (.done fun h => .ite h.wcpFirst h)

theorem Completes.wcpComplementWord {addr value : Word} : Completes s (execWcpComplementWord addr value s) :=
  .live (.done fun h => .ite h.wcpSecond h)

theorem Completes.wcpPairTimeout {block : Fin 16} : Completes s (execWcpPairTimeout block s) := .live (.done fun h => h.wcpTimeout)
theorem Completes.votedRegisterRead {addr : Word} : Completes s (execVotedRegisterRead addr s) := .live (.done fun h => .ite h h.readVoted.emit)
theorem Completes.irqFlagClear {addr value : Word} : Completes s (execIrqFlagClear addr value s) := .live (.done fun h => .ite h.clearIrq h)

theorem Completes.blockCounterClear {addr value : Word} : Completes s (execBlockCounterClear addr value s) :=
  .live (.done fun h => .ite h.clearCounters h)

theorem Completes.fwdPoolaRead : Completes s (execFwdPoolaRead s) := .live (.done fun h => h.regRead.emit)
theorem Completes.blockReset {value : Word} : Completes s (execBlockReset value s) := .live (.done fun h => h.blockResets)
theorem Completes.brdgFselWrite {value : Word} : Completes s (execBrdgFselWrite value s) := .liveActive (.done fun h => h.selectFar)
theorem Completes.prefetchFlush : Completes s (execPrefetchFlush s) := .liveActive (.done fun h => h.upd)

/-! Machine/Windows.lean -/

theorem Rising.unmask {v : Nat} (h : Rising s) : Rising (s.unmask v) := .ite h.upd (.ite (.signal (.ite h.upd h.upd.upd)) (.ite h.upd h.upd.upd))

theorem Rising.msixWrite {o v : Nat} (h : Rising s) : Rising (s.msixWrite o v) := by
  unfold State.msixWrite
  extract_lets +onlyGivenNames _ _ _ _
  split; exacts [h.upd, h.upd, h.upd, .ite h.upd h.unmask]

theorem Rising.w0Read {a who : Nat} (h : Rising s) : Rising (s.w0Read a who).2 := by
  unfold State.w0Read
  split
  · exact h.regRead
  · split <;> exact h

theorem Rising.w0Write {a v who : Nat} (h : Rising s) : Rising (s.w0Write a v who) := .ite h.regWrite (.ite h.msixWrite h)

theorem Rising.winWrite {a : Nat} {rs : List (Nat × Bytes)} (h : Rising s) : Rising (s.winWrite a rs) :=
  .foldl h fun h => (by split; exacts [h.imageWrite, h.loadWrite, h])

theorem Rising.localRead {a n who : Nat} (h : Rising s) : Rising (s.localRead a n who).2 := by
  unfold State.localRead
  split; exacts [h.w0Read, h.progress]

theorem Rising.localWrite {a : Nat} {data : Bytes} {fbe lbe who : Nat} (h : Rising s) : Rising (s.localWrite a data fbe lbe who) := by
  unfold State.localWrite
  split; exacts [h.w0Write, h.winWrite]

theorem Completes.msixVectorUnmask {vec : Fin 64} : Completes s (execMsixVectorUnmask vec s) := .liveActive (.done fun h => h.unmask)

/-! Machine/Commands.lean -/

theorem Rising.submissionFetch (h : Rising s) : Rising s.submissionFetch := .ite h.fetch h
theorem Rising.advanceSq (h : Rising s) : Rising s.advanceSq := h.put

theorem Rising.takeEntry' {idx : Nat} {e : Bytes} (h : Rising s) : Rising (s.takeEntry' idx e) :=
  .ite h.advanceSq.writeCompletion.raise.recordSec h.fetch

theorem Rising.takePacket {idx addr len : Nat} {data : Bytes} (h : Rising s) : Rising (s.takePacket idx addr len data) := by
  refine .ite h.advanceSq.writeCompletion ?_
  split; exacts [h.advanceSq.writeCompletion, h.advanceSq.bump.accept.screen]

theorem Rising.fetchDone {k : Fetch} {data : Bytes} (h : Rising s) : Rising (s.fetchDone k data) := by
  unfold State.fetchDone
  split; exacts [h.rxWrite, h.queueTx, .ite h h.takeEntry', .ite h h.takePacket]

theorem Rising.hostFetched {tag : Nat} {data : Bytes} (h : Rising s) : Rising (s.hostFetched tag data) := by
  unfold State.hostFetched
  split; exacts [h, .ite h.upd.issueReads.fetchDone h.upd.issueReads]

theorem Rising.startSlot {n : Nat} (h : Rising s) : Rising (s.startSlot n) := h.onSlot
theorem Rising.waitSlot {n : Nat} (h : Rising s) : Rising (s.waitSlot n) := h.onSlot
theorem Rising.passOn {n m : Nat} {p : Bytes} (h : Rising s) : Rising (s.passOn n m p) := .ite h.complete h.onSlot.stackMsg
theorem Rising.useArm {op : Nat} (h : Rising s) : Rising (s.useArm op) := .ite h.dropArm h

theorem Rising.runCmd {slot : Fin 64} {op : Nat} {f : CmdSlot → Bytes → State → State} (h : Rising s) (hf : ∀ {x0 x1 t}, Rising t → Rising (f x0 x1
    t)) : Rising (s.runCmd slot op f) := by
  unfold State.runCmd
  extract_lets +onlyGivenNames _
  split
  · exact h
  · exact .ite (.complete (.ite h.readVoted h)) (.ite (.complete (.ite h.readVoted h)) (.ite (.passOn (.ite h.readVoted h)) (.ite (.complete
      (.useArm (.ite h.readVoted h))) (.ite (.complete (.useArm (.ite h.readVoted h))) (hf (.ite h.readVoted h))))))

theorem Rising.finish {n code : Nat} {result : Bytes} (h : Rising s) : Rising (s.finish n code result) := h.complete
theorem Rising.bad {n : Nat} (h : Rising s) : Rising (s.bad n) := h.complete
theorem Rising.wordRead {a who : Nat} (h : Rising s) : Rising (s.wordRead a who).2 := h.localRead

theorem Rising.wordsRead {who n a : Nat} (h : Rising s) : Rising (State.wordsRead who n a s).2 := by
  induction n generalizing s a with
  | zero => exact h
  | succ n ih => exact ih h.wordRead

theorem Rising.doRegrd {n : Nat} {c : CmdSlot} {a : Bytes} (h : Rising s) : Rising (State.doRegrd n c a s) := .ite h.bad (.ite h h.wordsRead.complete)
theorem Rising.wholeWrite {a v who : Nat} (h : Rising s) : Rising (s.wholeWrite a v who) := .ite h.wpEffect (.ite h.wcpFirst.wcpSecond h.localWrite)

theorem Rising.doRegwr {n : Nat} {c : CmdSlot} {a : Bytes} (h : Rising s) : Rising (State.doRegwr n c a s) :=
  .ite h.complete (.ite h.bad (.ite h.waitSlot h.wordRead.wholeWrite.finish))

theorem Rising.readOut {sel v ecc : Nat} (h : Rising s) : Rising (s.readOut sel v ecc).2 := by
  refine .wordsRead ?_
  split; exacts [h.wholeWrite.cursorSelect, h.wholeWrite]

theorem Rising.readOuts {sel v ecc k : Nat} (h : Rising s) : Rising (State.readOuts sel v ecc k s).2 := by
  induction k generalizing s with
  | zero => exact h
  | succ k ih =>
    unfold State.readOuts
    extract_lets +onlyGivenNames r
    have hr : Rising r.2 := h.readOut
    split
    · exact hr
    · exact ih hr

theorem Rising.doMbrd {n ecc : Nat} {a : Bytes} (h : Rising s) : Rising (State.doMbrd n ecc a s) := by
  refine .ite h.bad (.ite h ?_)
  extract_lets +onlyGivenNames _
  split <;> exact h.readOuts.complete

theorem Rising.doPrgload {n : Nat} {a : Bytes} (h : Rising s) : Rising (State.doPrgload n a s) := .ite h.complete (.ite h.bad h.loadWrite.finish)

theorem Rising.doPrgop {n : Nat} {a : Bytes} (h : Rising s) : Rising (State.doPrgop n a s) :=
  .ite h.bad (.ite h.waitSlot (.ite h.prgCmd.startSlot h.prgCmd.finish))

theorem Rising.doForce {n : Nat} {a : Bytes} (h : Rising s) : Rising (State.doForce n a s) := .ite h.bad (.ite h h.put.put.put.put.frcSel.finish)
theorem Rising.doRecwr {n : Nat} {a : Bytes} (h : Rising s) : Rising (State.doRecwr n a s) := .ite h.bad (.ite h h.hostRecord.finish)

theorem Rising.readLines {k : Nat} {ecc : List Nat} (h : Rising s) : Rising (State.readLines k ecc s).2 := by
  induction k generalizing s ecc with
  | zero => exact h
  | succ k ih =>
    unfold State.readLines
    split
    · exact h
    · exact ih (.ite h h.cursorAdvance)

theorem Rising.doRecrd {n : Nat} {ecc : List Nat} {a : Bytes} (h : Rising s) : Rising (State.doRecrd n ecc a s) :=
  .ite h.bad (.ite h h.put.put.cursorSelect.readLines.complete)

theorem Rising.doFreeze {n : Nat} {a : Bytes} (h : Rising s) : Rising (State.doFreeze n a s) := .ite h.bad (.ite h h.wholeWrite.complete)

theorem Rising.doDuskreq {n : Nat} {a : Bytes} (h : Rising s) : Rising (State.doDuskreq n a s) :=
  .ite h.bad (.ite h.startSlot.requestDusk.complete h.startSlot.requestDusk)

theorem Rising.doSave {n : Nat} (h : Rising s) : Rising (State.doSave n s) := .ite h.waitSlot h.startSlot.saveStart
theorem Rising.doReinau {n : Nat} (h : Rising s) : Rising (State.doReinau n s) := h.reinau.refreshInau.complete
theorem Rising.doCompact {n : Nat} (h : Rising s) : Rising (State.doCompact n s) := .ite h.complete (.ite h.complete h.startSlot.startCompact)
theorem Rising.doModereq {n : Nat} {a : Bytes} (h : Rising s) : Rising (State.doModereq n a s) := .ite h.bad h.startSlot.writeModeReq

theorem Rising.keyJob {n : Nat} {f : State → State} (h : Rising s) (hf : ∀ {t}, Rising t → Rising (f t)) : Rising (s.keyJob n f) :=
  .ite (.endAct (hf h)) (.ite (hf h) h.requestAct)

theorem Rising.doKeyset {n : Nat} {a : Bytes} (h : Rising s) : Rising (State.doKeyset n a s) :=
  h.keyJob fun h => .ite h.dropArm.bad (.ite h.dropArm.complete h.dropArm.upd.put.put.raise.record.complete)

theorem Rising.doKeydel {n : Nat} {a : Bytes} (h : Rising s) : Rising (State.doKeydel n a s) :=
  h.keyJob fun h => .ite h.dropArm.bad (.ite h.dropArm.complete h.dropArm.upd.put.put.raise.record.complete)

theorem Rising.doRsend {n : Nat} {a : Bytes} (h : Rising s) : Rising (State.doRsend n a s) :=
  .ite h.bad (.ite h.sendRemote.complete (.ite h.complete h.onSlot.sendRemote))

theorem Rising.waitTimeout {n : Nat} (h : Rising s) : Rising (s.waitTimeout n) := by
  unfold State.waitTimeout
  split; exacts [h, .ite h.reach.complete h]

theorem Rising.rsendTimeout {n : Nat} (h : Rising s) : Rising (s.rsendTimeout n) := by
  unfold State.rsendTimeout
  split; exacts [h, .ite h h.reach.raise.recordSec.complete]

theorem Completes.packetRow {slot : Fin 64} {op : Nat} {f : CmdSlot → Bytes → State → State}
    (hf : ∀ {c p t}, Rising t → Rising (f c p t)) : Completes s (packetRow s slot op f) :=
  .live (.done fun h => h.runCmd hf)

theorem Completes.cmdSubmissionFetch : Completes s (execCmdSubmissionFetch s) := .liveActive (.done fun h => h.submissionFetch)

theorem Completes.hostFetchComplete {tag : Nat} {data : Bytes} : Completes s (execHostFetchComplete tag data s) :=
  .liveActive (.done fun h => .ite h h.hostFetched)

theorem Completes.nop {slot : Fin 64} : Completes s (execNop slot s) := .packetRow fun h => h.complete
theorem Completes.ident {slot : Fin 64} : Completes s (execIdent slot s) := .packetRow fun h => h.complete
theorem Completes.regrd {slot : Fin 64} : Completes s (execRegrd slot s) := .packetRow fun h => h.doRegrd
theorem Completes.regwr {slot : Fin 64} : Completes s (execRegwr slot s) := .packetRow fun h => h.doRegwr
theorem Completes.mbrd {slot : LineRead} : Completes s (execMbrd slot s) := .packetRow fun h => h.doMbrd
theorem Completes.prgload {slot : Fin 64} : Completes s (execPrgload slot s) := .packetRow fun h => h.doPrgload
theorem Completes.prgop {slot : Fin 64} : Completes s (execPrgop slot s) := .packetRow fun h => h.doPrgop
theorem Completes.force {slot : Fin 64} : Completes s (execForce slot s) := .packetRow fun h => h.doForce
theorem Completes.recwr {slot : Fin 64} : Completes s (execRecwr slot s) := .packetRow fun h => h.doRecwr
theorem Completes.recrd {slot : LineRead} : Completes s (execRecrd slot s) := .packetRow fun h => h.doRecrd
theorem Completes.freeze {slot : Fin 64} : Completes s (execFreeze slot s) := .packetRow fun h => h.doFreeze
theorem Completes.duskreq {slot : Fin 64} : Completes s (execDuskreq slot s) := .packetRow fun h => h.doDuskreq
theorem Completes.save {slot : Fin 64} : Completes s (execSave slot s) := .packetRow fun h => h.doSave
theorem Completes.reinau {slot : Fin 64} : Completes s (execReinau slot s) := .packetRow fun h => h.doReinau
theorem Completes.compact {slot : Fin 64} : Completes s (execCompact slot s) := .packetRow fun h => h.doCompact
theorem Completes.modereq {slot : Fin 64} : Completes s (execModereq slot s) := .packetRow fun h => h.doModereq
theorem Completes.keyset {slot : Fin 64} : Completes s (execKeyset slot s) := .packetRow fun h => h.doKeyset
theorem Completes.keydel {slot : Fin 64} : Completes s (execKeydel slot s) := .packetRow fun h => h.doKeydel
theorem Completes.rsend {slot : Fin 64} : Completes s (execRsend slot s) := .packetRow fun h => h.doRsend
theorem Completes.cmdWaitTimeout {slot : Fin 64} : Completes s (execCmdWaitTimeout slot s) := .live (.done fun h => h.waitTimeout)
theorem Completes.rsendTimeout {slot : Fin 64} : Completes s (execRsendTimeout slot s) := .live (.done fun h => h.rsendTimeout)

/-! Machine/Bridge.lean -/

theorem Rising.answerData {tag k : Nat} {b : Bytes} {ecc : Bool} (h : Rising s) : Rising (s.answerData tag k b ecc) :=
  .ite h.emit.aerReport.bump.raise.recordSec h.emit

theorem Rising.readAhead {k a n : Nat} (h : Rising s) : Rising (s.readAhead k a n).2 := by
  unfold State.readAhead
  split; exacts [h, .ite h.progress.upd h.progress]

theorem Rising.readHere {tag a dws fbe : Nat} {ecc : Bool} (h : Rising s) : Rising (s.readHere tag a dws fbe ecc) := by
  unfold State.readHere
  split; exacts [h.emit, .ite h.answerUr (.ite h.openFence h.w0Read.answerData), h.readAhead.answerData]

theorem Rising.putFar {write : Bool} {w : FarOp} (h : Rising s) : Rising (s.putFar write w) := .ite h h.emit
theorem Rising.flushBehind (h : Rising s) : Rising s.flushBehind := .foldl h.upd fun h => h.emit

theorem Rising.pumpFar (h : Rising s) : Rising s.pumpFar :=
  .foldl (.foldl h.flushBehind fun h => .ite h h.upd.putFar.flushBehind) fun h => .ite h h.upd.putFar

theorem Rising.readFar {tag m a dws be : Nat} (h : Rising s) : Rising (s.readFar tag m a dws be) :=
  .ite h.answerUr (.ite h.failRead (.ite h.upd.putFar h.upd))

theorem Rising.holdHost {h : HostReq} (hs : Rising s) : Rising (s.holdHost h) := hs.upd

theorem Rising.serveRead {tag bar addr dws fbe lbe : Nat} {ecc : Bool} (h : Rising s) : Rising (s.serveRead tag bar addr dws fbe lbe ecc) :=
  .ite (.ite h.emit h.answerData) (.ite h.readHere (.ite h.readHere h.readFar))

theorem Rising.hostRead {tag bar addr dws fbe lbe : Nat} {ecc : Bool} (h : Rising s) : Rising (s.hostRead tag bar addr dws fbe lbe ecc) :=
  .ite h.bump.answerUr (.ite h.bump.answerCa (.ite h.holdHost h.bump.serveRead))

theorem Rising.refuseWrite (h : Rising s) : Rising s.refuseWrite := h.bump

theorem Rising.writeHere {a : Nat} {data : Bytes} {fbe lbe : Nat} (h : Rising s) : Rising (s.writeHere a data fbe lbe) := by
  unfold State.writeHere
  split; exacts [h, .ite h.refuseWrite h.w0Write, h.winWrite]

theorem Rising.writeFar {m a : Nat} {data : Bytes} {fbe lbe : Nat} (h : Rising s) : Rising (s.writeFar m a data fbe lbe) :=
  .ite h.refuseWrite (.ite h.farError (.ite h.upd.putFar h.upd))

theorem Rising.writePool {addr : Nat} {ws : List (Nat × Byte)} (h : Rising s) : Rising (s.writePool addr ws) :=
  .ite (.foldl h fun h => h.setPoolByte) (.refuseWrite (.foldl h fun h => h.setPoolByte))

theorem Rising.serveWrite {bar addr : Nat} {data : Bytes} {fbe lbe : Nat} (h : Rising s) : Rising (s.serveWrite bar addr data fbe lbe) :=
  .ite (.ite h h.writePool) (.ite h.writeHere h.writeFar)

theorem Rising.hostWrite {bar addr : Nat} {data : Bytes} {fbe lbe : Nat} (h : Rising s) : Rising (s.hostWrite bar addr data fbe lbe) :=
  .ite h.bump (.ite h.holdHost h.bump.serveWrite)

theorem Rising.semAccess {who n : Nat} {v : Option Nat} (h : Rising s) : Rising (s.semAccess who n v) := by
  unfold State.semAccess
  split; exacts [h.semRead.emit, h.semWrite]

theorem Rising.hostSem {n : Nat} {v : Option Nat} (h : Rising s) : Rising (s.hostSem n v) :=
  .ite (.ite h.bump.countUr h.bump) (.ite (.ite h.bump.countCa h.bump) (.ite h.holdHost h.bump.semAccess))

theorem Rising.hostLock {v : Nat} (h : Rising s) : Rising (s.hostLock v) := .ite h.holdHost h.writeLock

theorem Rising.arriveAgain {h : HostReq} (hs : Rising s) : Rising (s.arriveAgain h) := by
  unfold State.arriveAgain
  split; exacts [hs.hostSem, hs.hostLock, .ite hs.hostWrite hs.hostRead]

theorem Rising.bridgeRoom (h : Rising s) : Rising s.bridgeRoom := .foldl h.pumpFar.lockRetry.upd fun h => h.arriveAgain

theorem Rising.farTimeout {id : Nat} (h : Rising s) : Rising (s.farTimeout id) := by
  unfold State.farTimeout
  split
  · exact .failRead h.reach.upd
  · split; exacts [h, .failWrite (.bump h.reach.upd)]

theorem Rising.prefetchExpiry (h : Rising s) : Rising s.prefetchExpiry := by
  unfold State.prefetchExpiry
  split; exacts [h, h.reach.upd]

theorem Rising.dropRings (h : Rising s) : Rising s.dropRings :=
  .upd (.foldl (.foldl h.upd fun h => h.dropFetch) fun h => .foldl h fun h => h.put.put.rxTaken)

theorem Rising.drainLate (h : Rising s) : Rising s.drainLate := .foldl h.upd.refreshOpen fun h => (by split; exacts [h.writeCompletion, h])

theorem Rising.abortOpen {down : Bool} (h : Rising s) : Rising (s.abortOpen down) :=
  .ite (.abortSlots (.bumpBy (.refreshOpen (.foldl h.upd fun h => h.dropKey)))) (.drainLate (.abortSlots (.bumpBy (.refreshOpen (.foldl h.upd
      fun h => h.dropKey)))))

theorem Rising.pcieReset {cause : Nat} (h : Rising s) : Rising (s.pcieReset cause) := by
  unfold State.pcieReset
  extract_lets +onlyGivenNames _ _ _ _ _ _ _ t _ _ _
  have ht : Rising t := .ite h.dropRings.blockReset.abortOpen.put.put.put.put.upd.upd
      h.dropRings.blockReset.abortOpen.put.put.put.put.upd.upd.put.put.put
  exact .ite (.raise (.record (.ite ht.upd ht))) (.record (.ite ht.upd ht))

theorem Rising.pcieLink {up : Bool} {speed width : Nat} (h : Rising s) : Rising (s.pcieLink up speed width) :=
  .ite (.ite h.pcieReset h) h.put.put.put.raise.record.drainLate

theorem Rising.resendPba (h : Rising s) : Rising s.resendPba := .foldl h fun h => .ite h (.ite h.upd.signal h.upd)
theorem Rising.unmaskAll (h : Rising s) : Rising s.unmaskAll := .foldl h fun h => .ite h (.ite h.upd.signal h.upd)
theorem Rising.enterD0 (h : Rising s) : Rising s.enterD0 := .resendPba (.drainLate (.foldl h.upd fun h => h.backNow))

theorem Rising.cfgWrite {item v : Nat} (h : Rising s) : Rising (s.cfgWrite item v) := by
  unfold State.cfgWrite
  split
  · exact .ite h.put.put (.ite h.put.put.enterD0 h)
  · exact .put (.ite h.put h)
  · exact .ite h.upd.unmaskAll (.ite h.upd h.upd.resendPba)
  · exact h.upd
  · exact h.upd
  · exact h.upd
  · exact h.upd
  · exact h.upd
  · exact h.upd
  · exact h

theorem Rising.cfgRequest {tag : Nat} {write : Bool} {item v : Nat} (h : Rising s) : Rising (s.cfgRequest tag write item v) :=
  .ite (.ite h.aerReport h.bump.answerUr) (.ite h.emit (.ite h.cfgWrite.emit h.emit))

theorem Rising.forwardStack {port : Nat} {p : Bytes} (h : Rising s) : Rising (s.forwardStack port p) :=
  .ite (.emit (.ite (.upd (.ite h.upd h)) (.ite h.upd h))) (.ite (.reportFailed (.ite h.upd h)) (.ite (.stackSend (.ite h.upd h)) (.ite h.upd h)))

theorem Rising.takeStack {port : Nat} {p : Bytes} {kinds : List Nat} {f : State → Bytes → State} {ecc : Bool} (h : Rising s) (hf : ∀ {t x1}, Rising
    t → Rising (f t x1)) : Rising (s.takeStack port p kinds f ecc) :=
  .ite h (.ite h.bump (.ite h (.ite h.forwardStack (.ite h.upd (hf h)))))

theorem Rising.stackWrite {ecc : Bool} {p : Bytes} (h : Rising s) : Rising (s.stackWrite ecc p) :=
  .ite (.stackMsg (.ite (.upd (.ite h.reportFailed h.localWrite)) (.stackMsg (.upd (.ite h.reportFailed h.localWrite))))) (.ite (.upd (.ite
      h.reportFailed h.localWrite)) (.stackMsg (.upd (.ite h.reportFailed h.localWrite))))

theorem Rising.stackRead {ecc : Bool} {p : Bytes} (h : Rising s) : Rising (s.stackRead ecc p) :=
  .ite h.stackSend (.ite h.openFence h.localRead.stackSend)

theorem Rising.pumpCore (h : Rising s) : Rising s.pumpCore := .foldl (.ite h.upd.stackSend h) fun h => (by split; exacts [.ite h h.upd.stackSend, h])
theorem Rising.coreSem {n : Nat} {v : Option Nat} (h : Rising s) : Rising (s.coreSem n v) := .ite h h.upd.pumpCore

theorem Rising.stackCpl {p : Bytes} (h : Rising s) : Rising (s.stackCpl p) := by
  refine .ite h.lockAnswer.pumpCore (.ite h.coreAnswer (.ite ?_ ?_))
  · split; exacts [h, .pumpCore (.ite h.upd.emit h.upd)]
  · split
    · exact h
    · extract_lets +onlyGivenNames _ _
      split; exacts [h.upd.answerData, h.upd.answerUr, h.upd.answerData, h.upd.failRead]

theorem Rising.memberBackbone {fid : Nat} {f : Bytes} (h : Rising s) : Rising (s.memberBackbone fid f) :=
  .ite (.ite h h.bump) (.ite h.onFrame.upd (.ite h h.routeFrame))

theorem Rising.memberDeliver {n : Nat} {f : Bytes} (h : Rising s) : Rising (s.memberDeliver n f) := by
  unfold State.memberDeliver
  split; exacts [h, .ite h.takeVital h.deliverSubs]

theorem Rising.stackFrame {port : Nat} {p : Bytes} (h : Rising s) : Rising (s.stackFrame port p) := by
  refine .ite h ?_
  split
  next => exact h.refuseBuf
  next fid s e =>
    extract_lets +onlyGivenNames _ _ _ t _
    have ht : Rising t := .foldl (.ite (.memberDeliver (.ite (h.enterPool e) (.memberBackbone (h.enterPool e)))) (.ite (h.enterPool e)
        (.memberBackbone (h.enterPool e)))) fun h => .ite h.pushTx h
    exact .gc (.ite ht (by split; exacts [ht.bump, ht.toRing]))

theorem Rising.memberPublish (h : Rising s) : Rising s.memberPublish := .ite h (.foldl h fun h => .foldl h fun h => h.nextSeq.frameUp)

theorem Rising.memberBoundary {b : Bytes} (h : Rising s) : Rising (s.memberBoundary b) :=
  h.upd.put.refreshRole.applyTables.engineBoundary.memberPublish

theorem Rising.stackMsgIn {p : Bytes} (h : Rising s) : Rising (s.stackMsgIn p) := by
  unfold State.stackMsgIn
  extract_lets +onlyGivenNames _ _
  split
  · exact .ite h.upd.signal h.upd
  · exact h.stageIn
  · exact .ite h h.memberBoundary
  · exact h.upd
  · extract_lets +onlyGivenNames _ _
    split; exacts [h.upd.failWrite, .ite h h.farError]
  · split; exacts [h, .ite h h.acceptCommit.put]
  · exact .ite h h.startWarm
  · extract_lets +onlyGivenNames _
    split; exacts [h.stackMsg, h.bump.accept.screen]
  · extract_lets +onlyGivenNames _ _
    split; exacts [.ite h.complete h, h]
  · exact .ite h.sendRemote h
  · split; exacts [h.complete, h.bump]
  · exact .ite h.stationClaim h
  · exact .ite h (.ite h.upd h.upd.resolveSubs)
  · exact .ite h h.pathGone
  · exact .ite h.setBelow.reportBelow h
  · exact h

theorem Rising.stackSem {p : Bytes} (h : Rising s) : Rising (s.stackSem p) := .ite h.stackSend (.ite h.semRead.stackSend h.semWrite.stackSend)

theorem Rising.stackLock {p : Bytes} (h : Rising s) : Rising (s.stackLock p) := by
  unfold State.stackLock
  extract_lets +onlyGivenNames _
  split
  · exact .ite h.takeCore h.setLocked.stackSend
  · exact .ite (.ite h.setLocked h) (.ite h.dropCore h)
  · exact h.stackSem

theorem Rising.servePacket {port : Nat} {ecc : Bool} {p : Bytes} (h : Rising s) : Rising (s.servePacket port ecc p) := by
  unfold State.servePacket
  split; exacts [h.stackWrite, h.stackRead, h.stackCpl, h.stackFrame, h.stackMsgIn, h.stackSem]

theorem Rising.drainWaiting (h : Rising s) : Rising s.drainWaiting :=
  .ite h (.foldl (.upd (.foldl (.upd (.foldl h.upd fun h => h.arriveAgain)) fun h => .ite h.upd h.semAccess)) fun h => .ite h.upd h.servePacket)

theorem Rising.stackTrained {port peer : Nat} (h : Rising s) : Rising (s.stackTrained port peer) :=
  .ite h (.ite (.ite h.put.put.setBelow.reportBelow h.put.put.upd.reportBelow) (.ite h.put.put.put h.put.put.put.upd.record))

theorem Completes.hostRead {tag : Nat} {bar : Fin 2} {addr : Fin 16777216} {dws : Nat} {fbe lbe : Fin 16} {ecc : Bool} : Completes s (execHostRead
    tag bar addr dws fbe lbe ecc s) :=
  .liveActive (.done fun h => .ite h h.hostRead)

theorem Completes.hostPostedWrite {bar : Fin 2} {addr : Fin 16777216} {data : Bytes} {fbe lbe : Fin 16} : Completes s (execHostPostedWrite bar addr
    data fbe lbe s) :=
  .liveActive (.done fun h => .ite h h.hostWrite.drainWaiting)

theorem Completes.farTimeout {id : Nat} : Completes s (execFarTimeout id s) := .liveActive (.done fun h => h.farTimeout.bridgeRoom)
theorem Completes.fseqFenceRead {tag : Nat} : Completes s (execFseqFenceRead tag s) := .liveActive (.done fun h => .ite h h.hostRead)
theorem Completes.fenceComplete : Completes s (execFenceComplete s) := .liveActive (.done fun h => h.fenceDone)
theorem Completes.prefetchExpiry : Completes s (execPrefetchExpiry s) := .liveActive (.done fun h => h.prefetchExpiry)
theorem Completes.pcieReset {kind : Fin 4} : Completes s (execPcieReset kind s) := .liveActive (.done fun h => .ite h h.pcieReset.drainWaiting)

theorem Completes.pcieLinkChange {up : Bool} {speed : Fin 2} {width : Fin 3} : Completes s (execPcieLinkChange up speed width s) :=
  .liveActive (.done fun h => .ite h h.pcieLink.drainWaiting)

theorem Completes.pcieConfigRequest {tag : Nat} {write : Bool} {item : Fin 32} {value : Word} : Completes s (execPcieConfigRequest tag write item
    value s) :=
  .liveActive (.done fun h => .ite h h.cfgRequest)

theorem Completes.farLockRequest {value : Word} : Completes s (execFarLockRequest value s) := .liveActive (.done fun h => h.hostLock.drainWaiting)
theorem Completes.farLockGrant {ok : Bool} : Completes s (execFarLockGrant ok s) := .liveActive (.done fun h => h.lockAnswer)
theorem Completes.farLockRelease : Completes s (execFarLockRelease s) := .liveActive (.done fun h => h.writeLock.drainWaiting)
theorem Completes.farLockTimeout : Completes s (execFarLockTimeout s) := .liveActive (.done fun h => h.lockTimeout.drainWaiting)

theorem Completes.semaphoreRead {who : Fin 5} {sem : Fin 32} : Completes s (execSemaphoreRead who sem s) :=
  .liveActive (.done fun h => .ite h.coreSem (.ite h.hostSem (.ite h.upd h.semAccess)))

theorem Completes.semaphoreReleaseWrite {who : Fin 5} {sem : Fin 32} {value : Word} : Completes s (execSemaphoreReleaseWrite who sem value s) :=
  .liveActive (.done fun h => .ite h.coreSem (.ite h.hostSem (.ite h.upd h.semAccess)))

theorem Completes.stackWriteReceived {port : Fin 2} {packet : Bytes} {ecc : Bool} : Completes s (execStackWriteReceived port packet ecc s) :=
  .liveActive (.done fun h => .drainWaiting (h.takeStack fun h => h.stackWrite))

theorem Completes.stackReadReceived {port : Fin 2} {packet : Bytes} {ecc : Bool} : Completes s (execStackReadReceived port packet ecc s) :=
  .liveActive (.done fun h => h.takeStack fun h => h.stackRead)

theorem Completes.stackCompletionReceived {port : Fin 2} {packet : Bytes} : Completes s (execStackCompletionReceived port packet s) :=
  .liveActive (.done fun h => .bridgeRoom (h.takeStack fun h => h.stackCpl))

theorem Completes.stackFrameReceived {port : Fin 2} {packet : Bytes} : Completes s (execStackFrameReceived port packet s) :=
  .liveActive (.done fun h => h.takeStack fun h => h.stackFrame)

theorem Completes.stackMsgReceived {port : Fin 2} {packet : Bytes} : Completes s (execStackMsgReceived port packet s) :=
  .liveActive (.done fun h => .bridgeRoom (.drainWaiting (h.takeStack fun h => h.stackMsgIn)))

theorem Completes.stackLockReceived {port : Fin 2} {packet : Bytes} : Completes s (execStackLockReceived port packet s) :=
  .liveActive (.done fun h => .drainWaiting (h.takeStack fun h => h.stackLock))

theorem Completes.stackPortDown {port : Fin 2} {trained : Bool} {peer : Fin 4} : Completes s (execStackPortDown port trained peer s) :=
  .liveActive (.done fun h => .bridgeRoom (.drainWaiting (.ite h.stackTrained h.portDown)))

theorem Completes.stackUplinkTimeout : Completes s (execStackUplinkTimeout s) :=
  .liveActive (.done fun h => (by split; exacts [h, .ite h h.reach.startWarm]))

theorem Completes.paceChangeComplete : Completes s (execPaceChangeComplete s) := .live (.done fun h => h.paceDone.drainWaiting.bridgeRoom)
theorem Completes.stackResetWrite {value : Word} : Completes s (execStackResetWrite value s) := .liveActive (.done fun h => h.writeStack)

/-! Machine/EpochStep.lean -/

theorem Rising.fireStepped (h : Rising s) : Rising s.fireStepped := by
  unfold State.fireStepped
  split
  · exact .ite (.commitNow (.lateUnit (.ite (.foldl h.upd fun h => h.lateUnit) (.fireMidnight (.foldl h.upd fun h => h.lateUnit))))) (.ite (.foldl
      h.upd fun h => h.lateUnit) (.fireMidnight (.foldl h.upd fun h => h.lateUnit)))
  · exact h.upd

theorem Completes.cycleBoundary : Completes s (execCycleBoundary s) := .live (.done fun h => h.cycleBoundary.fireStepped)
theorem Completes.daybreakBoundary : Completes s (execDaybreakBoundary s) := .live (.done fun h => h.daybreakBoundary.fireStepped)
theorem Completes.rephaseBoundary : Completes s (execRephaseBoundary s) := .live (.done fun h => h.rephaseBoundary.fireStepped)

/-! Machine/Ptp.lean -/

theorem Rising.onPtp {p : Nat} {f : PtpS → PtpS} (h : Rising s) : Rising (s.onPtp p f) := h.upd
theorem Rising.ptpSend {p : Nat} {m : Bytes} {kind : Option (Nat × Nat)} {cor : Nat} (h : Rising s) : Rising (s.ptpSend p m kind cor) := h.sendEth

theorem Rising.sendAnnounce {p : Nat} (h : Rising s) : Rising (s.sendAnnounce p) := by
  unfold State.sendAnnounce
  split; exact h.onPtp.ptpSend

theorem Rising.sendSync {p : Nat} (h : Rising s) : Rising (s.sendSync p) := h.onPtp.ptpSend
theorem Rising.sendDelayReq {p : Nat} (h : Rising s) : Rising (s.sendDelayReq p) := .ite h h.onPtp.ptpSend
theorem Rising.ptpDecide {p : Nat} (h : Rising s) : Rising (s.ptpDecide p) := .ite h h.onPtp
theorem Rising.takeAnnounce {p : Nat} {m : Bytes} (h : Rising s) : Rising (s.takeAnnounce p m) := .ite h h.onPtp.ptpDecide

theorem Rising.takeSync {p : Nat} {offset : ℤ} {tai : Bool} (h : Rising s) : Rising (s.takeSync p offset tai) :=
  .ite h.refreshRef (.ite h.refreshRef.upd.refreshTai.takeOffset h.refreshRef.upd.presetTime)

theorem Rising.endSync {p : Nat} {t1 t2 : ℤ} (h : Rising s) : Rising (s.endSync p t1 t2) := by
  unfold State.endSync
  extract_lets +onlyGivenNames _
  split; exacts [h.onPtp, h.onPtp.takeSync]

theorem Rising.takeSyncMsg {p : Nat} {m : Bytes} {at_ : ℤ} (h : Rising s) : Rising (s.takeSyncMsg p m at_) :=
  .ite h (.ite (.ite h.onPtp h.endSync) (by split; exacts [.ite h.endSync h, h]))

theorem Rising.takeDelayResp {p : Nat} {m : Bytes} (h : Rising s) : Rising (s.takeDelayResp p m) := .ite h (by split; exacts [h.onPtp, h])
theorem Rising.endPdelay {p : Nat} {t1 t4 turn : ℤ} (h : Rising s) : Rising (s.endPdelay p t1 t4 turn) := h.onPtp

theorem Rising.takePdelayResp {p : Nat} {m : Bytes} {at_ : ℤ} (h : Rising s) : Rising (s.takePdelayResp p m at_) := by
  refine .ite h ?_
  split
  · exact h
  · exact .ite (.ite h.onPtp h.endPdelay) (by split; exacts [.ite h.endPdelay h, h])

theorem Rising.takePtp {p : Nat} {m : Bytes} {ago : Nat} (h : Rising s) : Rising (s.takePtp p m ago) := by
  refine .ite h ?_
  extract_lets +onlyGivenNames _ _
  split
  · exact .ite h h.ptpSend
  · exact .ite h h.ptpSend
  · exact h.takeSyncMsg
  · exact h.takeSyncMsg
  · exact h.takeDelayResp
  · exact h.takePdelayResp
  · exact h.takePdelayResp
  · exact h.takeAnnounce
  · exact h

theorem Rising.loseRef {t : Nat} (h : Rising s) : Rising (s.loseRef t) := .announceSigma (.setRefst h.reach.upd)

theorem Rising.patchPtp {p : Nat} (h : Rising s) : Rising (s.patchPtp p) := by
  unfold State.patchPtp
  split
  · exact h
  · split; exacts [h, .ite h h.onPort]

theorem Rising.followUp {p : Nat} {x : PTx} (h : Rising s) : Rising (s.followUp p x) := by
  unfold State.followUp
  split; exacts [h, .ite (.ite h.onPtp h) (.ite h.ptpSend (.ite h.ptpSend h))]

theorem Completes.ptpMessageReceived {port : Port} {message : Bytes} {ago : Nat} : Completes s (execPtpMessageReceived port message ago s) :=
  .liveActive (.done fun h => h.takePtp)

theorem Completes.ptpSyncReceived {port : Port} {sync : PtpSync} {ago : Nat} : Completes s (execPtpSyncReceived port sync ago s) := by
  refine .liveActive (.done fun h => .ite h ?_)
  split; exacts [h.takePtp, .ite h.takePtp.takePtp h.takePtp]

theorem Completes.ptpMessageInterval {port : Port} {timer : PtpTimer} : Completes s (execPtpMessageInterval port timer s) := by
  refine .liveActive (.done fun h => .ite h ?_)
  split; exacts [.ite h h.sendAnnounce, .ite h h.sendSync, h.sendDelayReq]

theorem Completes.referenceLost : Completes s (execReferenceLost s) := by
  refine .live (.done fun h => .ite h.refreshRef (.ite (by split; exacts [h.refreshRef, h.refreshRef.loseRef]) ?_))
  extract_lets +onlyGivenNames _
  split; exacts [h.refreshRef, h.refreshRef.loseRef.ptpDecide]

theorem Completes.consistTxFrameEnd {port : Port} : Completes s (execConsistTxFrameEnd port s) := by
  refine .liveActive (.done fun h => ?_)
  split
  next x s e => exact .runEth (.followUp (h.patchPtp.endEth e))
  next => exact h

/-! One step, and the statements. -/

theorem exec_completes (c : Instr) (s : State) : Completes s (exec c s) := by
  cases c with
  | registerWrite => exact .registerWrite
  | wpWriteTakesEffect => exact .wpWriteTakesEffect
  | wcpFirstWord => exact .wcpFirstWord
  | wcpComplementWord => exact .wcpComplementWord
  | wcpPairTimeout => exact .wcpPairTimeout
  | votedRegisterRead => exact .votedRegisterRead
  | irqFlagClear => exact .irqFlagClear
  | msixVectorUnmask => exact .msixVectorUnmask
  | blockCounterClear => exact .blockCounterClear
  | laneEnableWrite => exact .laneEnableWrite
  | laneRetrainWrite => exact .laneRetrainWrite
  | laneSignalDetect => exact .laneSignalDetect
  | detectSignalStable => exact .detectSignalStable
  | detectSignalAbsent => exact .detectSignalAbsent
  | trainingSetReceived => exact .trainingSetReceived
  | receiverAdapted => exact .receiverAdapted
  | trainingTimeout => exact .trainingTimeout
  | laneSignalLoss => exact .laneSignalLoss
  | laneAlignmentLoss => exact .laneAlignmentLoss
  | codeErrorThreshold => exact .codeErrorThreshold
  | creditReturnReceived => exact .creditReturnReceived
  | creditReturnTimer => exact .creditReturnTimer
  | laneSfReceived => exact .laneSfReceived
  | crsReqReceived => exact .crsReqReceived
  | crsAckReceived => exact .crsAckReceived
  | resyncBufferDrained => exact .resyncBufferDrained
  | crsDoneReceived => exact .crsDoneReceived
  | creditResyncTimeout => exact .creditResyncTimeout
  | strayDataCharacter => exact .strayDataCharacter
  | preemptReceived => exact .preemptReceived
  | resumeReceived => exact .resumeReceived
  | laneFrameEnd => exact .laneFrameEnd
  | txSourceStall => exact .txSourceStall
  | laneEnergyWake => exact .laneEnergyWake
  | frameDecision => exact .frameDecision
  | egressFrameStart => exact .egressFrameStart
  | expressIntervalStart => exact .expressIntervalStart
  | probeSendTimer => exact .probeSendTimer
  | probeReceived => exact .probeReceived
  | quarantineExpiry => exact .quarantineExpiry
  | probeAnswerTimeout => exact .probeAnswerTimeout
  | leadInputDebounced => exact .leadInputDebounced
  | inauEnWrite => exact .inauEnWrite
  | inauLeadmaskWrite => exact .inauLeadmaskWrite
  | inauReinauWrite => exact .inauReinauWrite
  | waveStartReceived => exact .waveStartReceived
  | countRelayStart => exact .countRelayStart
  | waveCountReceived => exact .waveCountReceived
  | agreeReceived => exact .agreeReceived
  | disagreeReceived => exact .disagreeReceived
  | daybreakReceived => exact .daybreakReceived
  | mergeDaybreakReceived => exact .mergeDaybreakReceived
  | outageGraceExpiry => exact .outageGraceExpiry
  | compact => exact .compact
  | inauMbselWrite => exact .inauMbselWrite
  | guardianPoint => exact .guardianPoint
  | ownWindowOpen => exact .ownWindowOpen
  | subscriptionMaxageExpiry => exact .subscriptionMaxageExpiry
  | schdModereqGo => exact .schdModereqGo
  | schdModedescWrite => exact .schdModedescWrite
  | schdTableLoad => exact .schdTableLoad
  | schdTableStore => exact .schdTableStore
  | pdreqSendTimer => exact .pdreqSendTimer
  | pdreqReceived => exact .pdreqReceived
  | pdrspReceived => exact .pdrspReceived
  | syncWorstClear => exact .syncWorstClear
  | ptpSyncReceived => exact .ptpSyncReceived
  | ptpMessageReceived => exact .ptpMessageReceived
  | ptpMessageInterval => exact .ptpMessageInterval
  | todArmWrite => exact .todArmWrite
  | timeAcceptWrite => exact .timeAcceptWrite
  | tpoArmWrite => exact .tpoArmWrite
  | compareUnitFire => exact .compareUnitFire
  | tpoPulseEnd => exact .tpoPulseEnd
  | captureEdge => exact .captureEdge
  | timeMbselWrite => exact .timeMbselWrite
  | consistLinkUp => exact .consistLinkUp
  | consistLinkDown => exact .consistLinkDown
  | consistSteeringDecision => exact .consistSteeringDecision
  | consistBufferDraw => exact .consistBufferDraw
  | consistFrameEnd => exact .consistFrameEnd
  | filterRuleCommit => exact .filterRuleCommit
  | consistTxFrameStart => exact .consistTxFrameStart
  | consistTxFrameEnd => exact .consistTxFrameEnd
  | telegramLaunch => exact .telegramLaunch
  | preemptionVerifyResult => exact .preemptionVerifyResult
  | pauseReceived => exact .pauseReceived
  | pauseHoldExpiry => exact .pauseHoldExpiry
  | pauseRepeatTimer => exact .pauseRepeatTimer
  | pauseXonReached => exact .pauseXonReached
  | pauseWatchdogTrip => exact .pauseWatchdogTrip
  | pauseWatchdogEnd => exact .pauseWatchdogEnd
  | txRingFetchStart => exact .txRingFetchStart
  | ringEnableWrite => exact .ringEnableWrite
  | ringIrqModeration => exact .ringIrqModeration
  | mdioFrameStart => exact .mdioFrameStart
  | mdioFrameEnd => exact .mdioFrameEnd
  | keyCodeDebounced => exact .keyCodeDebounced
  | taskInstanceComplete => exact .taskInstanceComplete
  | telegramAssembly => exact .telegramAssembly
  | ioInTelegramReceived => exact .ioInTelegramReceived
  | stationAccwinExpiry => exact .stationAccwinExpiry
  | cyclEnWrite => exact .cyclEnWrite
  | stationCfgallWrite => exact .stationCfgallWrite
  | stationTableLoad => exact .stationTableLoad
  | stationTableStore => exact .stationTableStore
  | processImageHostWrite => exact .processImageHostWrite
  | loadWindowWrite => exact .loadWindowWrite
  | validate => exact .validate
  | store => exact .store
  | storeComplete => exact .storeComplete
  | swap => exact .swap
  | setstart => exact .setstart
  | reload => exact .reload
  | cancel => exact .cancel
  | forceEntryStore => exact .forceEntryStore
  | forceClearAll => exact .forceClearAll
  | forceEntryLoad => exact .forceEntryLoad
  | twinHbReceived => exact .twinHbReceived
  | consistHbReceived => exact .consistHbReceived
  | twinTakeWrite => exact .twinTakeWrite
  | twinYieldWrite => exact .twinYieldWrite
  | twinEntryReceived => exact .twinEntryReceived
  | twinRelayReceived => exact .twinRelayReceived
  | mirFrameReceived => exact .mirFrameReceived
  | mirrorSealReceived => exact .mirrorSealReceived
  | twinWakeDetected => exact .twinWakeDetected
  | restDuskWrite => exact .restDuskWrite
  | duskCallReceived => exact .duskCallReceived
  | duskTokenReceived => exact .duskTokenReceived
  | duskVerdictReceived => exact .duskVerdictReceived
  | duskRetractReceived => exact .duskRetractReceived
  | wakeGuardSend => exact .wakeGuardSend
  | dawnFrameReceived => exact .dawnFrameReceived
  | wakeInputActive => exact .wakeInputActive
  | restSaveWrite => exact .restSaveWrite
  | suppressionTimeout => exact .suppressionTimeout
  | recordLineWritten => exact .recordLineWritten
  | operatingTimeCalibrate => exact .operatingTimeCalibrate
  | hostRecordWrite => exact .hostRecordWrite
  | recdFreezePair => exact .recdFreezePair
  | recordCursorSelect => exact .recordCursorSelect
  | recordCursorAdvance => exact .recordCursorAdvance
  | rateClassStore => exact .rateClassStore
  | rateClassLoad => exact .rateClassLoad
  | mirrorCopy => exact .mirrorCopy
  | mirrorRetry => exact .mirrorRetry
  | hostRead => exact .hostRead
  | hostPostedWrite => exact .hostPostedWrite
  | farTimeout => exact .farTimeout
  | fseqFenceRead => exact .fseqFenceRead
  | brdgFselWrite => exact .brdgFselWrite
  | pcieReset => exact .pcieReset
  | pcieLinkChange => exact .pcieLinkChange
  | farLockRequest => exact .farLockRequest
  | farLockGrant => exact .farLockGrant
  | semaphoreRead => exact .semaphoreRead
  | semaphoreReleaseWrite => exact .semaphoreReleaseWrite
  | stackWriteReceived => exact .stackWriteReceived
  | stackReadReceived => exact .stackReadReceived
  | stackCompletionReceived => exact .stackCompletionReceived
  | stackFrameReceived => exact .stackFrameReceived
  | stackMsgReceived => exact .stackMsgReceived
  | stackLockReceived => exact .stackLockReceived
  | stackPortDown => exact .stackPortDown
  | stackResetWrite => exact .stackResetWrite
  | nop => exact .nop
  | ident => exact .ident
  | regrd => exact .regrd
  | regwr => exact .regwr
  | mbrd => exact .mbrd
  | prgload => exact .prgload
  | prgop => exact .prgop
  | force => exact .force
  | recwr => exact .recwr
  | recrd => exact .recrd
  | freeze => exact .freeze
  | duskreq => exact .duskreq
  | save => exact .save
  | reinau => exact .reinau
  | modereq => exact .modereq
  | keyset => exact .keyset
  | keydel => exact .keydel
  | rsend => exact .rsend
  | cmdWaitTimeout => exact .cmdWaitTimeout
  | rsendTimeout => exact .rsendTimeout
  | cmdFrameReceived => exact .cmdFrameReceived
  | cplFrameReceived => exact .cplFrameReceived
  | cmdEnableWrite => exact .cmdEnableWrite
  | keyArm => exact .keyArm
  | blockReset => exact .blockReset
  | snapshotNow => exact .snapshotNow
  | snapinEdge => exact .snapinEdge
  | midnightRequest => exact .midnightRequest
  | midnFrameReceived => exact .midnFrameReceived
  | telemetrySweep => exact .telemetrySweep
  | telemetryAlarmEnd => exact .telemetryAlarmEnd
  | scrubStep => exact .scrubStep
  | laneCalibrationStart => exact .laneCalibrationStart
  | hkpLcalWrite => exact .hkpLcalWrite
  | laneCalibrationComplete => exact .laneCalibrationComplete
  | hkpMpatWrite => exact .hkpMpatWrite
  | mramPatrolSector => exact .mramPatrolSector
  | resetRelease => exact .resetRelease
  | pinReset => exact .pinReset
  | twilightThermalHold => exact .twilightThermalHold
  | vioBankLoss => exact .vioBankLoss
  | vioBankRestore => exact .vioBankRestore
  | paceLevelWrite => exact .paceLevelWrite
  | retainedImageSave => exact .retainedImageSave
  | hkpSselWrite => exact .hkpSselWrite
  | giantByteReceived => exact .giantByteReceived
  | consistGiantByte => exact .consistGiantByte
  | hostFetchComplete => exact .hostFetchComplete
  | pcieConfigRequest => exact .pcieConfigRequest
  | cycleBoundary => exact .cycleBoundary
  | poolConservationCheck => exact .poolConservationCheck
  | fwdPoolaRead => exact .fwdPoolaRead
  | tStartupExpiry => exact .tStartupExpiry
  | tSettleExpiry => exact .tSettleExpiry
  | rosterComputeComplete => exact .rosterComputeComplete
  | tWaveExpiry => exact .tWaveExpiry
  | tAgreeExpiry => exact .tAgreeExpiry
  | rephaseBoundary => exact .rephaseBoundary
  | modeann => exact .modeann
  | pendingModeLapse => exact .pendingModeLapse
  | catchUpComplete => exact .catchUpComplete
  | timenot => exact .timenot
  | ppsEdge => exact .ppsEdge
  | referenceLost => exact .referenceLost
  | steeringIntervalEnd => exact .steeringIntervalEnd
  | captureFifoPop => exact .captureFifoPop
  | taskCommit => exact .taskCommit
  | validateComplete => exact .validateComplete
  | twinHbTick => exact .twinHbTick
  | consistHbSend => exact .consistHbSend
  | twinPathSilent => exact .twinPathSilent
  | consistPathSilent => exact .consistPathSilent
  | seekTimeout => exact .seekTimeout
  | rolenot => exact .rolenot
  | verdict => exact .verdict
  | duskWakeReason => exact .duskWakeReason
  | duskRoundTimeout => exact .duskRoundTimeout
  | duskConsentTimeout => exact .duskConsentTimeout
  | duskDimming => exact .duskDimming
  | duskCommit => exact .duskCommit
  | duskSleepEntry => exact .duskSleepEntry
  | heldDawnStart => exact .heldDawnStart
  | alarmWake => exact .alarmWake
  | dawnWakePatternEnd => exact .dawnWakePatternEnd
  | configSaveComplete => exact .configSaveComplete
  | recordStage => exact .recordStage
  | lossRecordStage => exact .lossRecordStage
  | recordWriteStart => exact .recordWriteStart
  | recorderScanComplete => exact .recorderScanComplete
  | checkpointWrite => exact .checkpointWrite
  | freezeExpiry => exact .freezeExpiry
  | fenceComplete => exact .fenceComplete
  | prefetchFlush => exact .prefetchFlush
  | prefetchExpiry => exact .prefetchExpiry
  | farLockRelease => exact .farLockRelease
  | farLockTimeout => exact .farLockTimeout
  | stackUplinkTimeout => exact .stackUplinkTimeout
  | cmdSubmissionFetch => exact .cmdSubmissionFetch
  | commandReset => exact .commandReset
  | keyArmExpiry => exact .keyArmExpiry
  | midnightFire => exact .midnightFire
  | scrubRepair => exact .scrubRepair
  | mramPatrolPeriod => exact .mramPatrolPeriod
  | activityStart => exact .activityStart
  | vinLoss => exact .vinLoss
  | powerOnReset => exact .powerOnReset
  | watchdogReset => exact .watchdogReset
  | thermalReset => exact .thermalReset
  | warmResetHoldoffEnd => exact .warmResetHoldoffEnd
  | twilightWatchdog => exact .twilightWatchdog
  | regulatorCurrentLimit => exact .regulatorCurrentLimit
  | paceChangeComplete => exact .paceChangeComplete
  | recdOpsecRead => exact .recdOpsecRead
  | daybreakBoundary => exact .daybreakBoundary
  | noagreeRoundSpacing => exact .noagreeRoundSpacing
  | nwakeoutRelease => exact .nwakeoutRelease
  | thermalResetRelease => exact .thermalResetRelease
  | twilightThermalHoldEnd => exact .twilightThermalHoldEnd

/-- Whatever waits, a step answers a state, and leaves the register table in rising order. -/
theorem step_completes (s : State) : Completes s (step s) := by
  unfold step
  split
  · exact .done fun h => h.upd
  next c rest _ =>
    obtain ⟨t, ht, h⟩ := exec_completes c { s with pending := rest }
    exact ⟨t, ht, fun hs => h hs.upd⟩

/-- Settles O54: each function of the model keeps the rising order, down to the one that writes a field. -/
theorem registersStayCanonical : Obligations.RegistersStayCanonical := by
  unfold Obligations.RegistersStayCanonical
  intro s hs
  obtain ⟨t, ht, h⟩ := step_completes s
  exact ⟨t.settle, ht, (h hs).settle⟩

/-- Settles O47: every meaning ends in `done`. -/
theorem stepTotal : Obligations.StepTotal := by
  unfold Obligations.StepTotal
  refine ⟨fun s => ?_, fun c s => ?_⟩
  · obtain ⟨t, ht, -⟩ := step_completes s
    exact ⟨t.settle, ht⟩
  · obtain ⟨t, ht, -⟩ := exec_completes c s
    exact ⟨t.settle, ht⟩

/-- Settles O51: a write touches the one key of its field. -/
theorem registerTable : Obligations.RegisterTable := by
  unfold Obligations.RegisterTable
  exact ⟨fun _ _ _ h => Rising.put h, fun s f g v => ⟨s.get_put_self f v, s.get_put_ne f g v⟩⟩

end Sys2Proof.Machine
end

section
/-! SUPPORT. Writes of register words: which arm a write takes, and the flags that posted writes and confirmed pairs set (R4, R5). -/

namespace Sys2Proof.Machine

/-- A flag of one bit that only writes and commands change. -/
def Fld.plainFlag (f : Fld) : Bool := f.width == 1 && f.key != Reg.GLB_STAT.NFAULT.key && f.key != Reg.CMD_IRQ.CPL.key

/-- Such a flag stands when the command ends. -/
theorem State.settle_get_of_plainFlag {f : Fld} (h : f.plainFlag = true) (s : State) : s.settle.get f = s.get f := by
  simp only [Fld.plainFlag, Bool.and_eq_true, bne_iff_ne] at h
  obtain ⟨⟨-, hn⟩, hc⟩ := h
  exact s.settle_get_ne f hn hc

/-- The flag that a block has reads 1 once it is set. -/
theorem State.setOpt_get_self {o : Option Fld} {f : Fld} (ho : o = some f) (h : f.plainFlag = true) (s : State) :
    (s.setOpt o).get f = 1 := by
  simp only [Fld.plainFlag, Bool.and_eq_true, beq_iff_eq] at h
  obtain ⟨⟨hw, -⟩, -⟩ := h
  simp [ho, State.setOpt, hw]

theorem State.settle_setOpt_get {o : Option Fld} {f : Fld} (ho : o = some f) (h : f.plainFlag = true) (s : State) :
    (s.setOpt o).settle.get f = 1 := by
  rw [State.settle_get_of_plainFlag h, State.setOpt_get_self ho h]

/-- The WP registers, one by one (R3). -/
theorem isWp_iff {a : Nat} :
    isWp a = true ↔ a ∈ [0x30080, 0x800A0, 0x80144, 0x80170, 0xA0010, 0xB002C, 0xB0034, 0xB0040] := by
  simp [isWp]

/-- A WP register has a BUSY flag, its block a WIGN flag. -/
theorem flags_of_isWp {a : Nat} (h : isWp a = true) :
    (busyOf a).all Fld.plainFlag = true ∧ (wignOf a).all Fld.plainFlag = true := by
  have all : ∀ a ∈ [0x30080, 0x800A0, 0x80144, 0x80170, 0xA0010, 0xB002C, 0xB0034, 0xB0040],
      (busyOf a).all Fld.plainFlag = true ∧ (wignOf a).all Fld.plainFlag = true := by decide
  exact all a (isWp_iff.mp h)

/-- The CPERR flags are plain flags. -/
theorem plainFlag_of_cperrOf {a : Nat} {f : Fld} (h : cperrOf a = some f) : f.plainFlag = true := by
  unfold cperrOf at h
  split at h <;> cases h <;> decide

/-- A write to a WP register is posted (R4). -/
theorem State.regWrite_of_isWp {a : Nat} (h : isWp a = true) (s : State) (v who : Nat) : s.regWrite a v who = s.post a v := by
  simp [State.regWrite, h]

theorem State.post_of_busy {s : State} {a : Nat} (h : s.busyAt a = true) (v : Nat) : s.post a v = s.setOpt (wignOf a) := by
  simp [State.post, h]

theorem State.post_of_idle {s : State} {a : Nat} (h : s.busyAt a = false) (v : Nat) :
    s.post a v = { s with glb.posted := s.glb.posted ++ [(a, v)] }.setOpt (busyOf a) := by
  simp [State.post, h]

theorem exec_registerWrite_awake {s : State} (h : s.awake = true) (a v : Word) :
    exec (.registerWrite a v) s = .next (s.regWrite a.toNat v.toNat 0).settle := by
  rw [exec_registerWrite, execRegisterWrite, live_awake h, done_eq]

theorem exec_wpWriteTakesEffect_awake {s : State} (h : s.awake = true) (b : Fin 16) :
    exec (.wpWriteTakesEffect b) s = .next (s.wpNext b).settle := by
  rw [exec_wpWriteTakesEffect, execWpWriteTakesEffect, live_awake h, done_eq]

/-- The oldest write posted to the block, taken out, acts. -/
theorem State.wpNext_some {s : State} {b : Nat} {p : Nat × Nat} (h : s.glb.posted.find? (fun p => p.1 / 0x10000 = b) = some p) :
    s.wpNext b = { s with glb.posted := s.glb.posted.erase p }.wpEffect p.1 p.2 := by
  simp only [State.wpNext, h]

theorem State.wpNext_none {s : State} {b : Nat} (h : s.glb.posted.find? (fun p => p.1 / 0x10000 = b) = none) : s.wpNext b = s := by
  simp only [State.wpNext, h]

/-- REST_ALARM takes its word (R4). -/
theorem State.wpEffect_alarm (s : State) (v : Nat) :
    s.wpEffect 0xA0010 v = (s.put Reg.REST_STAT.BUSY 0).put Reg.REST_ALARM.ALARM v := rfl

/-- Settles O1: a write to a WP register is `post`, the command of the posted write is `wpNext`. -/
theorem postedWrites : Obligations.PostedWrites := by
  unfold Obligations.PostedWrites
  refine ⟨fun a v s hs ha hb => ?_, fun a v s g hs ha hb hg => ?_, fun w rest s hs hp => ?_, fun b p s hs hp => ?_,
    fun b s hs hp => ?_, fun a v s hs => exec_registerWrite_awake hs a v⟩
  · refine ⟨_, exec_registerWrite_awake hs a v, ?_⟩
    rw [State.regWrite_of_isWp ha, State.post_of_idle hb]
    refine ⟨by simp, fun f hf => ?_, by simp, by simp, by simp⟩
    exact State.settle_setOpt_get hf (by simpa [hf] using (flags_of_isWp ha).1) _
  · refine ⟨_, exec_registerWrite_awake hs a v, ?_⟩
    rw [State.regWrite_of_isWp ha, State.post_of_busy hb]
    refine ⟨by simp, State.settle_setOpt_get hg ?_ _⟩
    simpa [hg] using (flags_of_isWp ha).2
  · refine ⟨_, exec_wpWriteTakesEffect_awake hs 10, ?_⟩
    have hq : s.glb.posted.find? (fun p => p.1 / 0x10000 = ((10 : Fin 16) : Nat)) = some (0xA0010, w) := by
      simp [hp]
    rw [State.wpNext_some hq, State.wpEffect_alarm]
    refine ⟨by simp [hp], ?_, ?_, by simp, by simp, by simp⟩
    · rw [State.settle_get_ne _ _ (by decide) (by decide), State.get_put_self]
    · rw [State.settle_get_ne _ _ (by decide) (by decide), State.get_put_ne _ _ _ _ (by decide), State.get_put_self, Nat.zero_mod]
  · rw [exec_wpWriteTakesEffect_awake hs, State.wpNext_some hp]
  · rw [exec_wpWriteTakesEffect_awake hs, State.wpNext_none hp]

end Sys2Proof.Machine
end

section
/-! SUPPORT. A word stored under the access codes: SCHD_CFG, whose two fields are RWG, and registers that no write changes (R3, R501). -/

namespace Sys2Proof.Machine.State

variable {s : State} {a v : Nat}

/-- The word `v` would change an RWG field of the register at `a`. -/
def rwgChanges (s : State) (a v : Nat) : Bool := (fieldsAt a).any fun f => f.acc = .rwg && s.get f ≠ f.of v

/-- A fold whose every step stands still stands still. -/
theorem foldl_storeField_self {ok : Bool} {l : List Fld} (h : ∀ f ∈ l, s.storeField ok v f = s) : l.foldl (storeField ok v) s = s :=
  List.foldlRecOn (motive := (· = s)) _ _ rfl fun _ hu f hf => hu ▸ h f hf

/-- A refused word leaves a register of RWG fields, and sets WIGN. -/
theorem storeWord_of_refused (hen : s.enAt a = true) (hch : s.rwgChanges a v = true) (hall : ∀ f ∈ fieldsAt a, f.acc = .rwg) :
    s.storeWord a v = (s.setOpt (wignOf a)).refreshFault := by
  have fold : (fieldsAt a).foldl (storeField false v) s = s :=
    foldl_storeField_self fun f hf => by simp [storeField, hall f hf]
  unfold rwgChanges at hch
  simp only [storeWord, hen, hch, Bool.and_self, Bool.not_true, fold]
  simp

/-- A word not refused is stored field by field; besides, the flags CFGDIRTY and NFAULT may change. -/
theorem storeWord_get_of_taken {g : Fld} (h : (s.enAt a && s.rwgChanges a v) = false) (hn : g.key ≠ Reg.GLB_STAT.NFAULT.key)
    (hd : g.key ≠ Reg.REST_STAT.CFGDIRTY.key) :
    (s.storeWord a v).get g = ((fieldsAt a).foldl (storeField true v) s).get g := by
  unfold rwgChanges at h
  simp only [storeWord, h, Bool.not_false, Bool.false_eq_true, if_false]
  rw [refreshFault_get_ne _ _ hn]
  split
  · exact get_put_ne _ _ _ _ hd
  · rfl

/-- A register none of whose fields a write changes stands. -/
theorem storeWord_of_fixed (h : ∀ f ∈ fieldsAt a, f.acc ∉ [Acc.rw, .rwg, .w1c]) (s : State) (v : Nat) :
    s.storeWord a v = s.refreshFault := by
  have fold (ok : Bool) : (fieldsAt a).foldl (storeField ok v) s = s := by
    refine foldl_storeField_self fun f hf => ?_
    have hacc := h f hf
    unfold storeField
    split <;> simp_all
  have hch : ((fieldsAt a).any fun f => f.acc = .rwg && s.get f ≠ f.of v) = false := by
    rw [List.any_eq_false]
    intro f hf
    have hacc := h f hf
    simp_all
  simp only [storeWord, hch, fold]
  simp

/-- A write of a register of the scheduler with no meaning of its own stores its word. -/
theorem regWrite_schd (h : a ∈ [0x30008, 0x3000C]) (s : State) (v who : Nat) : s.regWrite a v who = s.storeWord a v := by
  fin_cases h <;> simp [regWrite, isWp, isWcp, isIrq, isCntClr, isIen, writeLow]

/-- SCHD_CFG holds CYCLE and GUARD, both RWG. -/
theorem fieldsAt_schdCfg : fieldsAt 0x30008 = [Reg.SCHD_CFG.CYCLE, Reg.SCHD_CFG.GUARD] := by decide +kernel

/-- Every field of SCHD_SELF is RO. -/
theorem fieldsAt_schdSelf : ∀ f ∈ fieldsAt 0x3000C, f.acc ∉ [Acc.rw, .rwg, .w1c] := by decide +kernel

theorem rwgChanges_schdCfg : s.rwgChanges 0x30008 v = true ↔
    s.get Reg.SCHD_CFG.CYCLE ≠ Reg.SCHD_CFG.CYCLE.of v ∨ s.get Reg.SCHD_CFG.GUARD ≠ Reg.SCHD_CFG.GUARD.of v := by
  simp [rwgChanges, fieldsAt_schdCfg]

/-- The fields that SCHD_CFG takes hold their bits of the word. -/
theorem foldl_schdCfg : (fieldsAt 0x30008).foldl (storeField true v) s =
    (s.put Reg.SCHD_CFG.CYCLE (Reg.SCHD_CFG.CYCLE.of v)).put Reg.SCHD_CFG.GUARD (Reg.SCHD_CFG.GUARD.of v) := by
  simp [fieldsAt_schdCfg, storeField]

/-- A word that SCHD_CFG takes leaves WIGN. -/
theorem settle_storeWord_schdCfg_wign (h : (s.enAt 0x30008 && s.rwgChanges 0x30008 v) = false) :
    (s.storeWord 0x30008 v).settle.get Reg.SCHD_STAT.WIGN = s.get Reg.SCHD_STAT.WIGN := by
  rw [settle_get_ne _ _ (by decide) (by decide), storeWord_get_of_taken h (by decide) (by decide), foldl_schdCfg,
    get_put_ne _ _ _ _ (by decide), get_put_ne _ _ _ _ (by decide)]

theorem settle_storeWord_schdCfg_cycle (h : (s.enAt 0x30008 && s.rwgChanges 0x30008 v) = false) :
    (s.storeWord 0x30008 v).settle.get Reg.SCHD_CFG.CYCLE = v / 2 ^ 24 % 2 ^ 7 := by
  rw [settle_get_ne _ _ (by decide) (by decide), storeWord_get_of_taken h (by decide) (by decide), foldl_schdCfg,
    get_put_ne _ _ _ _ (by decide), get_put_self]
  exact Nat.mod_mod _ _

theorem settle_storeWord_schdCfg_guard (h : (s.enAt 0x30008 && s.rwgChanges 0x30008 v) = false) :
    (s.storeWord 0x30008 v).settle.get Reg.SCHD_CFG.GUARD = v % 2 ^ 11 := by
  rw [settle_get_ne _ _ (by decide) (by decide), storeWord_get_of_taken h (by decide) (by decide), foldl_schdCfg, get_put_self]
  simp [Fld.of]

/-- A word that the enabled scheduler refuses leaves both fields of SCHD_CFG and sets WIGN. -/
theorem settle_storeWord_schdCfg_refused (hen : s.flag Reg.SCHD_CTRL.EN = true) (hch : s.rwgChanges 0x30008 v = true) (g : Fld)
    (hn : g.key ≠ Reg.GLB_STAT.NFAULT.key) (hc : g.key ≠ Reg.CMD_IRQ.CPL.key) :
    (s.storeWord 0x30008 v).settle.get g = (s.put Reg.SCHD_STAT.WIGN 1).get g := by
  rw [settle_get_ne _ _ hn hc, storeWord_of_refused (a := 0x30008) hen hch (by simp [fieldsAt_schdCfg]), refreshFault_get_ne _ _ hn]
  rfl

end Sys2Proof.Machine.State

namespace Sys2Proof.Machine

/-- Settles O2: SCHD_CFG and SCHD_SELF are stored as `storeWord` says. -/
theorem accessCodes : Obligations.AccessCodes := by
  unfold Obligations.AccessCodes
  have hcfg : (0x30008 : Word).toNat = 0x30008 := by decide
  have hself : (0x3000C : Word).toNat = 0x3000C := by decide
  refine ⟨fun v s hs hen hch => ?_, fun v s hs hc hg => ?_, fun v s hs hen => ?_, fun v s f hs hn hc => ?_⟩
  all_goals
    refine ⟨_, exec_registerWrite_awake hs _ v, ?_⟩
    rw [State.regWrite_schd (by decide)]
  · rw [hcfg]
    have get := State.settle_storeWord_schdCfg_refused hen (State.rwgChanges_schdCfg.mpr hch)
    refine ⟨?_, ?_, ?_, by simp, by simp⟩
    · rw [get _ (by decide) (by decide), State.get_put_ne _ _ _ _ (by decide)]
    · rw [get _ (by decide) (by decide), State.get_put_ne _ _ _ _ (by decide)]
    · rw [get _ (by decide) (by decide), State.get_put_self]
      decide
  · rw [hcfg]
    have same : s.rwgChanges 0x30008 v.toNat = false := by simp [← Bool.not_eq_true, State.rwgChanges_schdCfg, hc, hg]
    exact State.settle_storeWord_schdCfg_wign (by simp [same])
  · rw [hcfg]
    have off : (s.enAt 0x30008 && s.rwgChanges 0x30008 v.toNat) = false := by
      rw [show s.enAt 0x30008 = false from hen, Bool.false_and]
    exact ⟨State.settle_storeWord_schdCfg_cycle off, State.settle_storeWord_schdCfg_guard off, State.settle_storeWord_schdCfg_wign off,
      by simp, by simp⟩
  · rw [hself, State.storeWord_of_fixed State.fieldsAt_schdSelf]
    refine ⟨?_, by simp, by simp, by simp⟩
    rw [State.settle_get_ne _ _ hn hc, State.refreshFault_get_ne _ _ hn]

end Sys2Proof.Machine
end

section
/-! SUPPORT. Pairs of confirmed writes: opened, completed, discarded (R5). -/

namespace Sys2Proof.Machine

theorem exec_wcpFirstWord_awake {s : State} (h : s.awake = true) {a : Word} (ha : isWcp a.toNat = true) (v : Word) :
    exec (.wcpFirstWord a v) s = .next (s.wcpFirst a.toNat v.toNat).settle := by
  rw [exec_wcpFirstWord, execWcpFirstWord, live_awake h, done_eq, if_pos ha]

theorem exec_wcpComplementWord_awake {s : State} (h : s.awake = true) {a : Word} (ha : isWcp (a.toNat - 0x800) = true) (v : Word) :
    exec (.wcpComplementWord a v) s = .next (s.wcpSecond (a.toNat - 0x800) v.toNat).settle := by
  rw [exec_wcpComplementWord, execWcpComplementWord, live_awake h, done_eq, if_pos ha]

theorem exec_wcpPairTimeout_awake {s : State} (h : s.awake = true) (b : Fin 16) :
    exec (.wcpPairTimeout b) s = .next (s.wcpTimeout b).settle := by
  rw [exec_wcpPairTimeout, execWcpPairTimeout, live_awake h, done_eq]

namespace State

variable {s : State} {a b v : Nat} {p : Nat × Nat × Nat}

/-- A first word opens its pair. -/
theorem wcpFirst_of_none (h : s.pairOf (a / 0x10000) = none) :
    s.wcpFirst a v = { s with glb.pairs := s.glb.pairs ++ [(a, v, s.now + us 10)] } := by
  simp [wcpFirst, h]

/-- A first word while a pair of the block is open discards that pair, then opens its own. -/
theorem wcpFirst_of_some (h : s.pairOf (a / 0x10000) = some p) :
    s.wcpFirst a v = { s.dropPair (a / 0x10000) with
      glb.pairs := (s.dropPair (a / 0x10000)).glb.pairs ++ [(a, v, (s.dropPair (a / 0x10000)).now + us 10)] } := by
  simp [wcpFirst, h]

/-- The complement of the first word, in time, closes the pair and acts. -/
theorem wcpSecond_of_match (h : s.pairOf (a / 0x10000) = some p) (ha : p.1 = a) (hv : p.2.1 + v = 0xFFFFFFFF) (ht : s.now ≤ p.2.2) :
    s.wcpSecond a v
      = { s with glb.pairs := s.glb.pairs.filter fun (x : Nat × Nat × Nat) => x.1 / 0x10000 ≠ a / 0x10000 }.wcpEffect a p.2.1 := by
  simp [wcpSecond, h, ha, hv, ht]

/-- Every other complement word discards the pair of the block. -/
theorem wcpSecond_of_mismatch
    (h : ∀ p, s.pairOf (a / 0x10000) = some p → ¬ (p.1 = a ∧ p.2.1 + v = 0xFFFFFFFF ∧ s.now ≤ p.2.2)) :
    s.wcpSecond a v = s.dropPair (a / 0x10000) := by
  unfold wcpSecond
  dsimp only
  split
  · rfl
  next p hp => exact if_neg (by simpa [and_assoc] using h p hp)

theorem wcpTimeout_of_some (h : s.pairOf b = some p) : s.wcpTimeout b = (s.reach p.2.2).dropPair b := by
  simp only [wcpTimeout, h]

theorem wcpTimeout_of_none (h : s.pairOf b = none) : s.wcpTimeout b = s := by
  simp only [wcpTimeout, h]

/-- A discarded pair is no longer open. -/
theorem dropPair_pairs (s : State) (b : Nat) :
    (s.dropPair b).glb.pairs = s.glb.pairs.filter fun (p : Nat × Nat × Nat) => p.1 / 0x10000 ≠ b := by
  simp [dropPair]

/-- A discarded pair sets the CPERR flag of its block. -/
theorem dropPair_get {g : Fld} (h : cperrOf (b * 0x10000) = some g) (s : State) : (s.dropPair b).get g = 1 :=
  setOpt_get_self h (plainFlag_of_cperrOf h) _

theorem settle_dropPair_get {g : Fld} (h : cperrOf (b * 0x10000) = some g) (s : State) : (s.dropPair b).settle.get g = 1 := by
  rw [settle_get_of_plainFlag (plainFlag_of_cperrOf h), dropPair_get h]

/-- CMD_KEYARM with the code 0xA5 arms its slot (R453). -/
theorem keyArm_arm (h : v / 256 % 256 = 0xA5) (s : State) : (s.keyArm v).cmd.arm = some (v % 4, s.opTime) := by
  simp [keyArm, h, opTime]

theorem keyArm_glb (s : State) (v : Nat) : (s.keyArm v).glb = s.glb := by simp [keyArm]

/-- A confirmed CMD_KEYARM, the only open pair of its block, arms its slot. -/
theorem wcpSecond_keyArm {w d c : Nat} {rest : List (Nat × Nat × Nat)} (hp : s.glb.pairs = (0xD0010, w, d) :: rest)
    (hw : w + c = 0xFFFFFFFF) (hd : s.now ≤ d) (hr : rest.all (fun p => p.1 / 0x10000 ≠ 0xD) = true) :
    s.wcpSecond 0xD0010 c = { s with glb.pairs := rest }.keyArm w := by
  have hq : s.pairOf (0xD0010 / 0x10000) = some (0xD0010, w, d) := by simp [pairOf, hp]
  have hf : (s.glb.pairs.filter fun (x : Nat × Nat × Nat) => x.1 / 0x10000 ≠ 0xD0010 / 0x10000) = rest := by
    rw [hp, List.filter_cons_of_neg (by simp), List.filter_eq_self]
    simpa using hr
  rw [wcpSecond_of_match hq rfl hw hd, hf]
  rfl

end State

/-- Settles O3: the two words of a pair are `wcpFirst` and `wcpSecond`, its expiry `wcpTimeout`. -/
theorem writeConfirmPairs : Obligations.WriteConfirmPairs := by
  unfold Obligations.WriteConfirmPairs
  refine ⟨fun a v s hs ha hp => ?_, fun a v p s g hs ha hp hg => ?_, fun w d c rest s hs hp hw hd hk hr => ?_,
    fun a v s g hs ha hg hm => ?_, fun b p s g hs hp hg => ?_, fun a v p s hs ha hp h1 hv ht => ?_, fun b s hs hp => ?_,
    fun a v s hs => ⟨fun ha => ?_, fun ha => ?_⟩⟩
  · refine ⟨_, exec_wcpFirstWord_awake hs ha v, ?_⟩
    rw [State.wcpFirst_of_none hp]
    simp
  · refine ⟨_, exec_wcpFirstWord_awake hs ha v, ?_⟩
    rw [State.wcpFirst_of_some hp]
    refine ⟨by simp [State.dropPair], ?_⟩
    rw [State.settle_get_of_plainFlag (plainFlag_of_cperrOf hg), ← State.dropPair_get hg s]
    exact State.get_congr rfl g
  · have ha : (0xD0810 : Word).toNat - 0x800 = 0xD0010 := by decide
    have hx := exec_wcpComplementWord_awake hs (a := 0xD0810) (by rw [ha]; decide) c
    rw [ha, State.wcpSecond_keyArm hp hw hd hr] at hx
    refine ⟨_, hx, ?_⟩
    exact ⟨by simp [State.keyArm_glb], by simp [State.keyArm_arm hk, State.opTime]⟩
  · refine ⟨_, exec_wcpComplementWord_awake hs ha v, ?_⟩
    rw [State.wcpSecond_of_mismatch hm]
    refine ⟨?_, State.settle_dropPair_get hg s, ?_⟩
    · rw [State.settle_glb, State.dropPair_pairs]
    · simp [State.dropPair]
  · refine ⟨_, exec_wcpPairTimeout_awake hs b, ?_⟩
    rw [State.wcpTimeout_of_some hp]
    refine ⟨?_, State.settle_dropPair_get hg _, ?_⟩
    · rw [State.settle_glb, State.dropPair_pairs]
      rfl
    · simp [State.dropPair, State.reach]
  · rw [exec_wcpComplementWord_awake hs ha, State.wcpSecond_of_match hp h1 hv ht]
  · rw [exec_wcpPairTimeout_awake hs, State.wcpTimeout_of_none hp]
  · rw [exec_wcpFirstWord, execWcpFirstWord, live_awake hs, done_eq, ha]
    rfl
  · rw [exec_wcpComplementWord, execWcpComplementWord, live_awake hs, done_eq, ha]
    rfl

end Sys2Proof.Machine
end

section
/-! SUPPORT. The outputs that follow registers and time: what `settle` sends is of that kind alone (R455, R496, chapter 16). -/

namespace Sys2Proof.Machine

/-- Between `s` and `t` only outputs that follow the registers left the chip. -/
def Follows (s t : State) : Prop := ∃ o, t.outs = s.outs ++ o ∧ ∀ x ∈ o, outFollows x = true

namespace Follows

variable {s t u : State}

theorem of_outs (h : t.outs = s.outs) : Follows s t := ⟨[], by simp [h], by simp⟩

theorem trans (h : Follows s t) (k : Follows t u) : Follows s u := by
  obtain ⟨o, ho, fo⟩ := h
  obtain ⟨p, hp, fp⟩ := k
  exact ⟨o ++ p, by simp [ho, hp], fun x hx => (List.mem_append.mp hx).elim (fo x) (fp x)⟩

theorem ite {c : Prop} [Decidable c] (h : Follows s t) (k : Follows s u) : Follows s (if c then t else u) := by
  split
  · exact h
  · exact k

theorem ite_of_not {c : Prop} [Decidable c] (h : Follows s t) (k : ¬ c → Follows s u) : Follows s (if c then t else u) := by
  split
  · exact h
  next hc => exact k hc

theorem emit {x : Out} (h : outFollows x = true) (s : State) : Follows s (s.emit x) :=
  ⟨if s.mutes x then [] else [x], rfl, fun y hy => by split at hy <;> simp_all⟩

/-- What follows leaves the sent outputs as they are. -/
theorem sent_trans {l : List Out} (h : sent s t l) (k : Follows t u) : sent s u l := by
  obtain ⟨o, ho, fo⟩ := h
  obtain ⟨p, hp, fp⟩ := k
  refine ⟨o ++ p, by simp [ho, hp], ?_⟩
  have none : p.filter (fun x => !outFollows x) = [] := List.filter_eq_nil_iff.mpr fun x hx => by simp [fp x hx]
  rw [List.filter_append, none, List.append_nil, fo]

end Follows

namespace State

variable (s : State)

theorem refreshInta_follows : Follows s s.refreshInta := by
  unfold refreshInta
  exact .ite (.of_outs rfl) (.ite (Follows.emit rfl _) (.of_outs rfl))

theorem signal_follows (v : Nat) : Follows s (s.signal v) := by
  unfold signal
  exact .ite (.ite (.ite (.of_outs rfl) (.of_outs rfl)) (.emit rfl s)) s.refreshInta_follows

theorem raise_follows (f : Fld) : Follows s (s.raise f) := by
  unfold raise
  exact .ite (.of_outs rfl) (.ite (Follows.trans (.of_outs rfl) ((s.put f 1).signal_follows _)) (.of_outs rfl))

theorem refreshCpl_follows : Follows s s.refreshCpl := by
  unfold refreshCpl
  exact .ite (Follows.trans (.of_outs rfl) (raise_follows _ _)) (.of_outs rfl)

/-- The MSG by which a member tells its INTn has kind 5 and sub code 1 (R427). -/
theorem outFollows_intn (src x : Nat) : outFollows (.stack 0 (stackPacket 5 0 0 src 0 0 0 (natBe 1 1 ++ [0] ++ natBe 4 x))) = true := by
  simp [outFollows, stackPacket, natBe, spKind, spPay, spLen, byteAt, fieldAt, beNat]

theorem stackIntn_follows (h : s.stackId ≠ 0) (b : Bool) : Follows s (s.stackMsg 0 1 (natBe 4 (b2n b))) := by
  unfold stackMsg stackSend
  have up : s.stackToward 0 = 0 := by simp [stackToward]
  simp only [up, if_neg h]
  exact .ite (.of_outs rfl) ⟨_, rfl, fun x hx => by rw [List.mem_singleton.mp hx]; exact outFollows_intn _ _⟩

theorem refreshIntn_follows : Follows s s.refreshIntn := by
  have shown : Follows s (({ s with pwr.intn := s.irqAny } : State).emit (.pin "INTn" (if s.irqAny then 0 else 1))) :=
    .trans (.of_outs rfl) (Follows.emit rfl _)
  unfold refreshIntn
  exact .ite (.of_outs rfl) (.ite_of_not shown fun member => shown.trans (stackIntn_follows _ member _))

theorem refreshRolePin_follows : Follows s s.refreshRolePin := by
  unfold refreshRolePin
  exact .ite (.of_outs rfl) (.trans (.of_outs rfl) (Follows.emit rfl _))

theorem refreshFault_follows : Follows s s.refreshFault := by
  unfold refreshFault
  exact .ite (.of_outs rfl) (.trans (.of_outs rfl) (Follows.emit rfl _))

theorem settle_follows : Follows s s.settle :=
  s.refreshCpl_follows.trans <| (refreshInta_follows _).trans <| (refreshIntn_follows _).trans <|
    (refreshRolePin_follows _).trans (refreshFault_follows _)

end State

end Sys2Proof.Machine
end

section
/-! SUPPORT. Reads of host memory: the tags of their requests, what is issued, what completes a read (Table 15.1, R266, R435). -/

namespace Sys2Proof.Machine

/-- A range that lies between two multiples of `m` is not cut. -/
theorem State.cutAt_within {m a n : Nat} (hn : 0 < n) (hm : 0 < m) (h : (a + n - 1) / m = a / m) : State.cutAt m a n = [(a, n)] := by
  have low : a / m * m ≤ a := Nat.div_mul_le_self a m
  have high : a + n ≤ (a / m + 1) * m := by
    have := Nat.lt_mul_of_div_lt (show (a + n - 1) / m < a / m + 1 by omega) hm
    omega
  simp only [cutAt, if_neg hn.ne', h]
  simp [low, high]

/-- A submission entry lies within a read request. -/
theorem State.cutAt_entry {a : Nat} (s : State) (h : 16 ∣ a) : State.cutAt s.mrrs a 16 = [(a, 16)] := by
  obtain ⟨b, rfl⟩ := h
  have hm : s.mrrs = 16 * (8 * 2 ^ min 2 (s.get Reg.BRDG_PCIE.MRRS)) := by unfold mrrs; ring
  have hp : 0 < 2 ^ min 2 (s.get Reg.BRDG_PCIE.MRRS) := Nat.two_pow_pos _
  refine cutAt_within (by decide) (by omega) ?_
  generalize 8 * 2 ^ min 2 (s.get Reg.BRDG_PCIE.MRRS) = q at hm
  have block : (16 * b + 16 - 1) / 16 = 16 * b / 16 := by omega
  rw [hm, ← Nat.div_div_eq_div_mul, block, Nat.div_div_eq_div_mul]

namespace State

variable {s : State}

/-- A request that has its tag keeps it. -/
theorem tagParts_of_tagged (ts : List Nat) : ∀ {ps : List FetchPart}, (∀ p ∈ ps, p.tag.isSome = true) → tagParts ts ps = (ps, ts)
  | [], _ => by cases ts <;> rfl
  | p :: ps, h => by
    have hp := h p (List.mem_cons_self ..)
    have ih := tagParts_of_tagged ts (ps := ps) fun q hq => h q (List.mem_cons_of_mem _ hq)
    cases ts with
    | nil => rfl
    | cons t ts => simp [tagParts, hp, ih]

/-- Reads whose requests all have their tags leave the free tags to those behind them. -/
theorem tagOps_append_of_tagged (ts : List Nat) (new : List FetchOp) :
    ∀ {os : List FetchOp}, (∀ o ∈ os, ∀ p ∈ o.parts, p.tag.isSome = true) → tagOps ts (os ++ new) = os ++ tagOps ts new
  | [], _ => rfl
  | o :: os, h => by
    have ho := tagParts_of_tagged ts (h o (List.mem_cons_self ..))
    have ih := tagOps_append_of_tagged ts new (os := os) fun q hq => h q (List.mem_cons_of_mem _ hq)
    simp [tagOps, ho, ih]

/-- Without a free tag every request stays as it is. -/
theorem tagOps_nil : ∀ os : List FetchOp, tagOps [] os = os
  | [] => rfl
  | o :: os => by
    have ho : tagParts [] o.parts = (o.parts, []) := by cases o.parts <;> rfl
    simp [tagOps, ho, tagOps_nil os]

/-- The requests that leave when the reads `old` become `new`. -/
def newRequests (old new : List FetchOp) : List Out :=
  (old.zip new).flatMap fun x => (x.1.parts.zip x.2.parts).flatMap fun p =>
    match p.1.tag, p.2.tag with | none, some t => [.hostRead t p.2.addr p.2.len] | _, _ => []

theorem issueReads_eq (s : State) : s.issueReads =
    (newRequests s.host.fetches (tagOps s.freeTags s.host.fetches)).foldl emit
      { s with host.fetches := tagOps s.freeTags s.host.fetches } := rfl

/-- Reads that stand send nothing. -/
theorem newRequests_self (l : List FetchOp) : newRequests l l = [] := by
  have same {α : Type} (l : List α) : l.zip l = l.map fun a => (a, a) := List.zipWith_self
  simp only [newRequests, same, List.flatMap_map, List.flatMap_eq_nil_iff]
  intro o _ p _
  cases p.tag <;> rfl

theorem newRequests_append (l old new : List FetchOp) : newRequests (l ++ old) (l ++ new) = newRequests old new := by
  have self := newRequests_self l
  unfold newRequests at self ⊢
  rw [List.zip_append rfl, List.flatMap_append, self, List.nil_append]

/-- Requests that leave change nothing but the outputs. -/
theorem issueReads_cmd (s : State) : s.issueReads.cmd = s.cmd := by
  rw [issueReads_eq]
  exact List.foldlRecOn (motive := fun t : State => t.cmd = s.cmd) _ _ rfl fun t ht x _ => by rw [emit_cmd, ht]

/-- A request without a tag holds none. -/
theorem freeTags_append (s : State) (k : Fetch) (r : List (Nat × Nat)) :
    ({ s with host.fetches := s.host.fetches ++ [⟨k, r.map fun x => (⟨x.1, x.2, none, none⟩ : FetchPart)⟩] } : State).freeTags
      = s.freeTags := by
  simp [freeTags, partOpen, List.filter_map, Function.comp_def]

/-- Without a free tag a read waits. -/
theorem fetch_of_no_tag (h : s.freeTags = []) (k : Fetch) (r : List (Nat × Nat)) :
    s.fetch k r = { s with host.fetches := s.host.fetches
      ++ [⟨k, (r.flatMap fun x => cutAt s.mrrs x.1 x.2).map fun x => (⟨x.1, x.2, none, none⟩ : FetchPart)⟩] } := by
  unfold fetch
  dsimp only
  rw [issueReads_eq, freeTags_append, h]
  simp [tagOps_nil, newRequests_self]

/-- A read of one request, behind reads that are all issued, leaves under the lowest free tag. -/
theorem fetch_one {g a n : Nat} (k : Fetch) (hcut : cutAt s.mrrs a n = [(a, n)])
    (hall : ∀ o ∈ s.host.fetches, ∀ p ∈ o.parts, p.tag.isSome = true) (hg : s.freeTags.head? = some g) :
    s.fetch k [(a, n)]
      = ({ s with host.fetches := s.host.fetches ++ [⟨k, [⟨a, n, some g, none⟩]⟩] } : State).emit (.hostRead g a n) := by
  obtain ⟨ts, hts⟩ := List.head?_eq_some_iff.mp hg
  have free := freeTags_append s k [(a, n)]
  simp only [List.map_cons, List.map_nil] at free
  unfold fetch
  simp only [List.flatMap_cons, List.flatMap_nil, hcut, List.append_nil, List.map_cons, List.map_nil]
  rw [issueReads_eq, free, hts, tagOps_append_of_tagged _ _ hall, newRequests_append]
  rfl

/-- Data that nobody asked for change nothing. -/
theorem hostFetched_of_none {g : Nat} {d : Bytes} (h : (s.host.fetches.find? fun o => o.parts.any (partIs g)) = none) :
    s.hostFetched g d = s := by
  simp only [hostFetched, h]

/-- The data of its one request complete a read. -/
theorem hostFetched_of_one {g : Nat} {k : Fetch} {p : FetchPart} (d : Bytes)
    (h : (s.host.fetches.find? fun o => o.parts.any (partIs g)) = some ⟨k, [p]⟩) :
    s.hostFetched g d = (issueReads { s with host.fetches := s.host.fetches.erase ⟨k, [p]⟩ }).fetchDone k d := by
  have asked : partIs g p = true := by simpa using List.find?_some h
  simp [hostFetched, h, asked]

/-- A read is not complete while data of a request of it are missing. -/
theorem hostFetched_of_part {g : Nat} {d : Bytes} {o n : FetchOp}
    (h : (s.host.fetches.find? fun x => x.parts.any (partIs g)) = some o)
    (hn : n = { o with parts := o.parts.map fun p => if partIs g p then { p with data := some d } else p })
    (hd : (n.parts.all fun p => p.data.isSome) = false) :
    s.hostFetched g d = issueReads { s with host.fetches := s.host.fetches.map fun x => if x = o then n else x } := by
  subst hn
  simp only [hostFetched, h, hd, Bool.false_eq_true, if_false]

/-- In a Dusk cycle what is read is not taken up (R444). -/
theorem fetchDone_entry_of_shut (h : s.cmd.shut = true) (i : Nat) (d : Bytes) : s.fetchDone (.subEntry i) d = s := by
  simp [fetchDone, h]

/-- A submission entry is taken up: its packet is read. -/
theorem fetchDone_entry_of_wellFormed {i : Nat} {d : Bytes} (h : s.cmd.shut = false) (ha : leNat (d.take 8) % 64 = 0)
    (hl : 8 ≤ leNat ((d.drop 8).take 2)) (hh : leNat ((d.drop 8).take 2) ≤ 2048) :
    s.fetchDone (.subEntry i) d
      = s.fetch (.packet i (leNat (d.take 8)) (leNat ((d.drop 8).take 2))) [(leNat (d.take 8), leNat ((d.drop 8).take 2))] := by
  simp [fetchDone, h, takeEntry', ha, hl.not_gt, hh.not_gt]

theorem fetchDone_entry_of_malformed {i : Nat} {d : Bytes} (h : s.cmd.shut = false)
    (hd : leNat (d.take 8) % 64 ≠ 0 ∨ leNat ((d.drop 8).take 2) < 8 ∨ 2048 < leNat ((d.drop 8).take 2)) :
    s.fetchDone (.subEntry i) d
      = (((s.advanceSq.writeCompletion i (leNat (d.take 8)) 0xFFFF 14 0 0 []).raise Reg.CMD_IRQ.FORMAT).recordSec 0x0D03 0) := by
  simp only [fetchDone, h, takeEntry', Bool.false_eq_true, if_false, if_pos hd]

theorem fetchDone_packet (h : s.cmd.shut = false) (i a l : Nat) (d : Bytes) : s.fetchDone (.packet i a l) d = s.takePacket i a l d := by
  simp [fetchDone, h]

end State

end Sys2Proof.Machine
end

section
/-! SUPPORT. Register fields and memories that a command leaves; the commands of CommandFlow one by one. -/

namespace Sys2Proof.Machine

section
variable {s t : State} {fs : List Fld}

theorem regsBut_of_get (h : ∀ f, t.get f = s.get f) : regsBut s t fs := fun f _ => h f

theorem regsBut_emit (h : regsBut s t fs) (x : Out) : regsBut s (t.emit x) fs := fun g hg => by rw [State.emit_get', h g hg]

/-- A field of the list may be put. -/
theorem regsBut_put {f : Fld} (h : regsBut s t fs) (hf : f ∈ fs) (v : Nat) : regsBut s (t.put f v) fs := by
  intro g hg
  have ne : g.key ≠ f.key := fun e => hg (e ▸ List.mem_map_of_mem (List.mem_cons_of_mem _ (List.mem_cons_of_mem _ hf)))
  rw [State.get_put_ne _ _ _ _ ne, h g hg]

/-- What follows at the end of a command is outside the list. -/
theorem regsBut_settle (h : regsBut s t fs) : regsBut s t.settle fs := by
  intro g hg
  have ht := h g hg
  rw [List.map_cons, List.map_cons, List.mem_cons, List.mem_cons, not_or, not_or] at hg
  obtain ⟨hn, hc, -⟩ := hg
  rw [State.settle_get_ne _ _ hn hc, ht]

end

namespace State

variable {s : State}

theorem submissionFetch_of_closed (h : s.fetchGate = false ∨ s.get Reg.CMD_SQHEAD.HEAD % s.cmdRing = s.get Reg.CMD_SQTAIL.TAIL % s.cmdRing) :
    s.submissionFetch = s := by
  unfold submissionFetch
  exact if_neg (by rcases h with h | h <;> simp [h])

/-- The next submission entry is read. -/
theorem submissionFetch_of_open {k : Nat} (hg : s.fetchGate = true) (hk : k = s.get Reg.CMD_SQHEAD.HEAD % s.cmdRing)
    (ht : k ≠ s.get Reg.CMD_SQTAIL.TAIL % s.cmdRing) :
    s.submissionFetch
      = s.fetch (.subEntry k) [(s.get Reg.CMD_SQBASEHI.BASEHI * 2 ^ 32 + s.get Reg.CMD_SQBASELO.BASELO * 64 + 16 * k, 16)] := by
  subst hk
  unfold submissionFetch
  exact if_pos (by simpa [hg] using ht)

/-- A waiting packet times out 10 s after its acceptance (R439). -/
theorem waitTimeout_of_waiting {n : Nat} {c : CmdSlot} (hc : s.slot? n = some c) (hw : c.waits = true ∨ isWaiting (pkOp c.packet) = true)
    (hm : c.member = 0) (hr : c.rto = none) (hl : s.brdg.locked = false) :
    s.waitTimeout n = (s.reach (c.at_ + sec 10)).complete n 9 0 [] := by
  simp [waitTimeout, hc, hw, hm, hr, hl]

theorem waitTimeout_of_free {n : Nat} (h : s.slot? n = none ∨ s.brdg.locked = true) : s.waitTimeout n = s := by
  unfold waitTimeout
  rcases h with h | h
  · rw [h]
  · split
    · rfl
    · simp [h]

theorem waitTimeout_of_not_waiting {n : Nat} {c : CmdSlot} (hc : s.slot? n = some c)
    (h : (c.waits = false ∧ isWaiting (pkOp c.packet) = false) ∨ c.member ≠ 0 ∨ c.rto ≠ none) : s.waitTimeout n = s := by
  simp only [waitTimeout, hc]
  refine if_neg ?_
  rcases h with ⟨hw, ho⟩ | hm | hr
  · simp [hw, ho]
  · simp [hm]
  · simp [hr]

/-- An RSEND without its CPL times out (R443). -/
theorem rsendTimeout_of_due {n k : Nat} {c : CmdSlot} (hc : s.slot? n = some c) (hr : c.rto = some k) (hl : s.brdg.locked = false) :
    s.rsendTimeout n
      = (((s.reach k).raise Reg.CMD_IRQ.RTO).recordSec 0x0D11 0 ((pkParams c.packet).take 2)).complete n 9 0 [] := by
  simp [rsendTimeout, hc, hr, hl]

theorem rsendTimeout_of_free {n : Nat} (h : s.slot? n = none ∨ s.brdg.locked = true) : s.rsendTimeout n = s := by
  unfold rsendTimeout
  rcases h with h | h
  · rw [h]
    rfl
  · split
    · rfl
    · simp [h]

theorem rsendTimeout_of_none {n : Nat} {c : CmdSlot} (hc : s.slot? n = some c) (hr : c.rto = none) : s.rsendTimeout n = s := by
  simp [rsendTimeout, hc, hr]

/-- A read of FWD_POOLA latches the counts of FWD_POOLB and FWD_POOLC (R243). -/
theorem regRead_poolA (s : State) (who : Nat) : s.regRead 0x60020 who = (s.readWord 0x60020,
    (((s.put Reg.FWD_POOLB.HI s.poolCounts.2.2.1).put Reg.FWD_POOLB.LO s.poolCounts.2.2.2.1).put Reg.FWD_POOLC.HI
      (s.poolCounts.2.2.2.2 / 65536)).put Reg.FWD_POOLC.LO (s.poolCounts.2.2.2.2 % 65536)) := by
  simp [regRead, readVoted, votedAt]

/-- A write of BRDG_FSEL shows the words of its entry, which is then read (R7, R420). -/
theorem selectFar_eq (s : State) (v : Nat) :
    let q := v % 65536
    let b := (s.farEntry q).getD []
    let u : State := { s with brdg.log := s.brdg.log.map fun (x : Nat × Bytes × Bool) => if x.1 = q then (x.1, x.2.1, true) else x }
    s.selectFar v = (((((u.put Reg.BRDG_FSEL.FSEQ q).put Reg.BRDG_FD0.DATA (fieldAt b 0 4)).put Reg.BRDG_FD1.DATA (fieldAt b 4 4)).put
      Reg.BRDG_FD2.DATA (fieldAt b 8 4)).put Reg.BRDG_FD3.DATA (fieldAt b 12 4)).put Reg.BRDG_FSTAT.VALID 1 := rfl

/-- A completed GLB_BRST pair without a set bit only stores its word. -/
theorem blockResets_zero (s : State) : s.blockResets 0 = s.put Reg.GLB_BRST.BLK 0 := by
  have blocks : ((List.range 15).drop 1).filter (bit 0) = [] := by decide
  simp only [blockResets, blocks]
  rfl

/-- A word of one bit names its block. -/
theorem blocks_two_pow {b : Nat} (h1 : 1 ≤ b) (h14 : b ≤ 14) :
    ((List.range 15).drop 1).filter (bit (2 ^ b)) = [b] ∧ Reg.GLB_BRST.BLK.of (2 ^ b) = 2 ^ (b - 1) := by
  have all : ∀ b < 15, 1 ≤ b →
      ((List.range 15).drop 1).filter (bit (2 ^ b)) = [b] ∧ Reg.GLB_BRST.BLK.of (2 ^ b) = 2 ^ (b - 1) := by decide
  exact all b (Nat.lt_succ_of_le h14) h1

theorem blockResets_one {b : Nat} (h1 : 1 ≤ b) (h14 : b ≤ 14) (hb : b ≠ 13) (s : State) :
    s.blockResets (2 ^ b) = (s.put Reg.GLB_BRST.BLK (2 ^ (b - 1))).abortSlots.blockReset b := by
  obtain ⟨blocks, word⟩ := blocks_two_pow h1 h14
  simp only [blockResets, blocks, word]
  simp [hb, hb.symm]

theorem blockResets_cmd (s : State) : s.blockResets (2 ^ 13) = (s.put Reg.GLB_BRST.BLK (2 ^ 12)).commandReset := by
  obtain ⟨blocks, word⟩ := blocks_two_pow (b := 13) (by decide) (by decide)
  simp only [blockResets, blocks, word]
  simp

/-- A packet that fits its buffer takes the lowest free slot (R433, R438). -/
theorem takePacket_of_fits {i a l n : Nat} {d p : Bytes} {u : State} (hp : p = d.take (8 + pkPlen d)) (hu : u = s.advanceSq)
    (h8 : 8 + pkPlen p ≤ l) (hm : pkPlen p ≤ 1008) (hr : resultMax p ≤ l) (hn : u.freeSlot = some n) :
    s.takePacket i a l d = ((u.bump Reg.CMD_ACCEPT.COUNT).accept n (.host i a l) p).screen n := by
  subst hp hu
  simp only [takePacket, if_neg (not_or.mpr ⟨h8.not_gt, not_or.mpr ⟨hm.not_gt, hr.not_gt⟩⟩), hn]

theorem takePacket_of_badLen {i a l : Nat} {d p : Bytes} {u : State} (hp : p = d.take (8 + pkPlen d)) (hu : u = s.advanceSq)
    (h : l < 8 + pkPlen p ∨ 1008 < pkPlen p ∨ l < resultMax p) :
    s.takePacket i a l d = u.writeCompletion i a (pkTag p) 3 (pkOp p) 0 [] := by
  subst hp hu
  simp only [takePacket, if_pos h]

end State

section
variable {s : State}

theorem exec_cmdSubmissionFetch_active (h : s.active = true) : exec .cmdSubmissionFetch s = .next s.submissionFetch.settle := by
  rw [exec_cmdSubmissionFetch, execCmdSubmissionFetch, liveActive_active h, done_eq]

theorem exec_hostFetchComplete_active (h : s.active = true) (hd : s.inD3 = false) (g : Nat) (d : Bytes) :
    exec (.hostFetchComplete g d) s = .next (s.hostFetched g d).settle := by
  rw [exec_hostFetchComplete, execHostFetchComplete, liveActive_active h, done_eq, hd]
  rfl

theorem exec_hostFetchComplete_d3 (h : s.active = true) (hd : s.inD3 = true) (g : Nat) (d : Bytes) :
    exec (.hostFetchComplete g d) s = .next s.settle := by
  rw [exec_hostFetchComplete, execHostFetchComplete, liveActive_active h, done_eq, if_pos hd]

theorem exec_cmdWaitTimeout_awake (h : s.awake = true) (n : Fin 64) : exec (.cmdWaitTimeout n) s = .next (s.waitTimeout n).settle := by
  rw [exec_cmdWaitTimeout, execCmdWaitTimeout, live_awake h, done_eq]

theorem exec_rsendTimeout_awake (h : s.awake = true) (n : Fin 64) : exec (.rsendTimeout n) s = .next (s.rsendTimeout n).settle := by
  rw [exec_rsendTimeout, execRsendTimeout, live_awake h, done_eq]

theorem exec_blockReset_awake (h : s.awake = true) (v : Word) : exec (.blockReset v) s = .next (s.blockResets v.toNat).settle := by
  rw [exec_blockReset, execBlockReset, live_awake h, done_eq]

/-- The next submission entry is asked for under the lowest free tag (R435). -/
theorem exec_cmdSubmissionFetch_open {k a g : Nat} (hs : s.active = true) (hg : s.fetchGate = true)
    (hall : (s.host.fetches.all fun o => o.parts.all fun p => p.tag.isSome) = true) (ht : s.freeTags.head? = some g)
    (hk : k = s.get Reg.CMD_SQHEAD.HEAD % s.cmdRing) (hne : k ≠ s.get Reg.CMD_SQTAIL.TAIL % s.cmdRing)
    (ha : a = s.get Reg.CMD_SQBASEHI.BASEHI * 2 ^ 32 + s.get Reg.CMD_SQBASELO.BASELO * 64 + 16 * k) :
    exec .cmdSubmissionFetch s = .next (({ s with host.fetches := s.host.fetches ++ [⟨.subEntry k, [⟨a, 16, some g, none⟩]⟩] } : State).emit
      (.hostRead g a 16)).settle := by
  have aligned : 16 ∣ a := by omega
  have tagged : ∀ o ∈ s.host.fetches, ∀ p ∈ o.parts, p.tag.isSome = true := by simpa [List.all_eq_true] using hall
  rw [exec_cmdSubmissionFetch_active hs, State.submissionFetch_of_open hg hk hne, ← ha,
    State.fetch_one _ (State.cutAt_entry s aligned) tagged ht]

theorem exec_brdgFselWrite_active (h : s.active = true) (v : Word) : exec (.brdgFselWrite v) s = .next (s.selectFar v.toNat).settle := by
  rw [exec_brdgFselWrite, execBrdgFselWrite, liveActive_active h, done_eq]

theorem exec_prefetchFlush_active (h : s.active = true) : exec .prefetchFlush s = .next ({ s with brdg.pre := [] } : State).settle := by
  rw [exec_prefetchFlush, execPrefetchFlush, liveActive_active h, done_eq]

/-- What a read of FWD_POOLA leaves: the counts latched, its word sent. -/
theorem exec_fwdPoolaRead_awake (h : s.awake = true) :
    exec .fwdPoolaRead s = .next ((s.regRead 0x60020 0).2.emit (.rdata 0x60020 (s.regRead 0x60020 0).1)).settle := by
  rw [exec_fwdPoolaRead, execFwdPoolaRead, live_awake h, done_eq]

end

/-- Outputs that a state sends before the command ends. -/
theorem sent_settle {s t : State} {l : List Out} (h : t.outs = s.outs ++ l.filter fun x => !s.mutes x)
    (hl : ∀ x ∈ l, outFollows x = false) : sent s t.settle l := by
  refine Follows.sent_trans ⟨_, h, ?_⟩ t.settle_follows
  exact List.filter_eq_self.mpr fun x hx => by simp [hl x (List.mem_of_mem_filter hx)]

/-- Settles O32: every form is the function of the model that its command runs. -/
theorem commandFlow : Obligations.CommandFlow := by
  unfold Obligations.CommandFlow
  refine ⟨?_, ?_, ?_, ?_, ?_, ?_, ?_, ?_, ?_, ?_, ?_, ?_, ?_, ?_, ?_, ?_, ?_, ?_, ?_, ?_, ?_, ?_⟩
  · intro k a g s hs hg hall ht hk hne ha
    refine ⟨_, exec_cmdSubmissionFetch_open hs hg hall ht hk hne ha, sent_settle (by simp [State.mutes]) (by simp [outFollows]), by simp,
      by simp, regsBut_settle (regsBut_emit (regsBut_of_get fun f => ?_) _), by simp [memSame]⟩
    exact State.get_congr rfl f
  · intro g i a l d p u s hs hd hf ha hl h64 h8 h2048 hu hsh
    subst ha hl hu
    rw [exec_hostFetchComplete_active hs hd, State.hostFetched_of_one d hf,
      State.fetchDone_entry_of_wellFormed (by rw [State.issueReads_cmd]; exact hsh) h64 h8 h2048]
  · intro g i a l d p u s hs hd hf hu hsh
    rw [exec_hostFetchComplete_active hs hd, State.hostFetched_of_one d hf, hu, State.fetchDone_packet (by rw [State.issueReads_cmd]; exact hsh)]
  · intro n c s hs hc hw hm hr hl
    rw [exec_cmdWaitTimeout_awake hs, State.waitTimeout_of_waiting hc hw hm hr hl]
  · intro n c k s hs hc hr hl
    rw [exec_rsendTimeout_awake hs, State.rsendTimeout_of_due hc hr hl]
  · intro c s hs hc
    subst hc
    refine ⟨_, exec_fwdPoolaRead_awake hs, ?_⟩
    rw [State.regRead_poolA]
    refine ⟨sent_settle (by simp [State.mutes]) (by simp [outFollows]), ?_, ?_, ?_, by simp, ?_, by simp [memSame]⟩
    · simp (disch := decide) only [State.settle_get_ne, State.emit_get', State.get_put_ne, State.get_put_self]
    · simp (disch := decide) only [State.settle_get_ne, State.emit_get', State.get_put_ne, State.get_put_self]
    · simp (disch := decide) only [State.settle_get_ne, State.emit_get', State.get_put_self]
    · refine regsBut_settle (regsBut_emit ?_ _)
      iterate 4 refine regsBut_put ?_ (by simp) _
      exact regsBut_of_get fun _ => rfl
  · intro v q b s hs hq hb
    subst hq hb
    refine ⟨_, exec_brdgFselWrite_active hs v, ?_⟩
    rw [State.selectFar_eq]
    refine ⟨?_, ?_, ?_, ?_, ?_, ?_, by simp, by simp, ?_, by simp [memSame]⟩
    · simp (disch := decide) only [State.settle_get_ne, State.get_put_ne, State.get_put_self]
      exact Nat.mod_mod _ _
    · simp (disch := decide) only [State.settle_get_ne, State.get_put_ne, State.get_put_self]
    · simp (disch := decide) only [State.settle_get_ne, State.get_put_ne, State.get_put_self]
    · simp (disch := decide) only [State.settle_get_ne, State.get_put_ne, State.get_put_self]
    · simp (disch := decide) only [State.settle_get_ne, State.get_put_ne, State.get_put_self]
    · simp (disch := decide) only [State.flag, State.settle_get_ne, State.get_put_self]
      decide
    · refine regsBut_settle ?_
      iterate 6 refine regsBut_put ?_ (by simp) _
      exact regsBut_of_get fun f => State.get_congr rfl f
  · intro s hs
    refine ⟨_, exec_prefetchFlush_active hs, by simp, by simp, regsBut_settle (regsBut_of_get fun f => ?_), by simp [memSame]⟩
    exact State.get_congr rfl f
  · intro b v s hs h1 h14 hb hv
    rw [exec_blockReset_awake hs, hv, State.blockResets_one h1 h14 hb]
  · intro v s hs hv
    rw [exec_blockReset_awake hs, hv, State.blockResets_cmd]
  · intro s hs h
    rw [exec_cmdSubmissionFetch_active hs, State.submissionFetch_of_closed h]
  · intro g i d p u s hs hd hf hbad hu hsh
    rw [exec_hostFetchComplete_active hs hd, State.hostFetched_of_one d hf, hu,
      State.fetchDone_entry_of_malformed (by rw [State.issueReads_cmd]; exact hsh) hbad]
  · intro g d s hs h
    rcases h with hd | hf
    · exact exec_hostFetchComplete_d3 hs hd g d
    · rw [exec_hostFetchComplete, execHostFetchComplete, liveActive_active hs, done_eq, State.hostFetched_of_none hf, ite_self]
  · intro g d s hs hd
    exact exec_hostFetchComplete_active hs hd g d
  · intro g i d p u s hs hd hf hu hsh
    rw [exec_hostFetchComplete_active hs hd, State.hostFetched_of_one d hf, hu,
      State.fetchDone_entry_of_shut (by rw [State.issueReads_cmd]; exact hsh)]
  · intro k r s h
    exact State.fetch_of_no_tag h k r
  · intro i a l n d p u s hp hu h8 hm hr hn
    exact State.takePacket_of_fits hp hu h8 hm hr hn
  · intro i a l d p u s hp hu h
    exact State.takePacket_of_badLen hp hu h
  · intro n s hs h
    rw [exec_cmdWaitTimeout_awake hs, exec_rsendTimeout_awake hs, State.waitTimeout_of_free h, State.rsendTimeout_of_free h]
    exact ⟨rfl, rfl⟩
  · intro n c s hs hc
    refine ⟨fun h => ?_, fun h => ?_⟩
    · rw [exec_cmdWaitTimeout_awake hs, State.waitTimeout_of_not_waiting hc h]
    · rw [exec_rsendTimeout_awake hs, State.rsendTimeout_of_none hc h]
  · intro v s hs
    refine ⟨exec_blockReset_awake hs v, fun hv => ?_⟩
    rw [exec_blockReset_awake hs, hv, State.blockResets_zero]
  · intro g d o n s hs hd hf hn hp
    rw [exec_hostFetchComplete_active hs hd, State.hostFetched_of_part hf hn hp]

end Sys2Proof.Machine
end

section
/-! SUPPORT. A trigger within the capture of another, while the host has the newest bank selected (R464). -/

namespace Sys2Proof.Machine

/-- Bank 0 was filled at this instant, and the host has selected it since: HKP_SSTAT.VALID is 1. -/
def State.bankSelected : State :=
  { State.reset.put Reg.HKP_SSTAT.VALID 1 with
    hkp := { State.reset.hkp with bank0 := some ⟨List.replicate 36 0, []⟩, capAt := some State.reset.now } }

/-- A bank filled anew leaves every register. -/
theorem State.setBank_get (s : State) (b : Nat) (x : Snap) (f : Fld) : (s.setBank b x).get f = s.get f := by
  refine State.get_congr ?_ f
  unfold State.setBank
  split <;> rfl

/-- A trigger that joins the snapshot in the bank that the host has selected makes its selection no longer VALID. -/
theorem State.snapshot_bankSelected_valid : (State.bankSelected.snapshot 1 none).get Reg.HKP_SSTAT.VALID = 0 := by
  decide +kernel

/-- Refutes O41: a trigger within the capture of another changes not only the header of its bank; where that bank is the one selected, it
clears HKP_SSTAT.VALID too. -/
theorem not_snapshotsAndMidnights : ¬ Obligations.SnapshotsAndMidnights := by
  unfold Obligations.SnapshotsAndMidnights
  rintro ⟨-, -, -, -, -, -, -, -, -, -, -, -, -, -, -, -, joins, -⟩
  have eq := joins 1 none ⟨List.replicate 36 0, []⟩ _ State.bankSelected (by decide +kernel) rfl rfl rfl
  have stands : State.bankSelected.get Reg.HKP_SSTAT.VALID = 1 := by decide
  have cleared := State.snapshot_bankSelected_valid
  rw [eq, State.setBank_get, stands] at cleared
  exact absurd cleared (by decide)

end Sys2Proof.Machine
end

section
/-! SUPPORT. The parts of Table 01.4: the gate behind which each command's meaning stands, and what no power state lets run (R25, R479, R491). -/

namespace Sys2Proof.Machine

/-- The command's meaning stands behind the gate `g`, whatever the state. -/
def Behind (c : Instr) (g : State → (State → Host.Outcome State Fault Refusal) → Host.Outcome State Fault Refusal) : Prop :=
  ∃ f, ∀ s, exec c s = g s f

/-- Every command is one of the supply and the resets, or its meaning stands behind the gate of the always-on domain, of a running node, of an
ACTIVE node, or of the recorder. -/
theorem exec_gate (c : Instr) :
    c.supply = true ∨ (c.aon = true ∧ Behind c liveAon) ∨ Behind c live ∨ Behind c liveActive ∨ Behind c liveRec := by
  cases c with
  -- the supply and the resets
  | resetRelease | pinReset | vinLoss | powerOnReset | thermalResetRelease => exact .inl rfl
  -- the always-on domain
  | laneEnergyWake | leadInputDebounced | keyCodeDebounced | twinWakeDetected | wakeInputActive | vioBankLoss | vioBankRestore
  | duskSleepEntry | heldDawnStart | alarmWake | nwakeoutRelease => exact .inr (.inl ⟨rfl, _, fun _ => rfl⟩)
  -- a node that runs
  | registerWrite | wpWriteTakesEffect | wcpFirstWord | wcpComplementWord | wcpPairTimeout | votedRegisterRead | irqFlagClear
  | blockCounterClear | laneEnableWrite | laneRetrainWrite | laneSignalDetect | detectSignalStable | detectSignalAbsent
  | trainingSetReceived | receiverAdapted | trainingTimeout | laneSignalLoss | laneAlignmentLoss | codeErrorThreshold
  | creditReturnReceived | creditReturnTimer | laneSfReceived | crsReqReceived | crsAckReceived | resyncBufferDrained | crsDoneReceived
  | creditResyncTimeout | strayDataCharacter | preemptReceived | resumeReceived | laneFrameEnd | txSourceStall | frameDecision
  | egressFrameStart | expressIntervalStart | probeSendTimer | probeReceived | quarantineExpiry | probeAnswerTimeout | inauEnWrite
  | inauLeadmaskWrite | inauReinauWrite | waveStartReceived | countRelayStart | waveCountReceived | agreeReceived | disagreeReceived
  | daybreakReceived | mergeDaybreakReceived | outageGraceExpiry | inauMbselWrite | guardianPoint | ownWindowOpen
  | subscriptionMaxageExpiry | schdModereqGo | schdModedescWrite | schdTableLoad | schdTableStore | pdreqSendTimer | pdreqReceived
  | pdrspReceived | syncWorstClear | todArmWrite | timeAcceptWrite | tpoArmWrite | timeMbselWrite | filterRuleCommit | ringEnableWrite
  | cyclEnWrite | stationCfgallWrite | stationTableLoad | stationTableStore | validate | store | storeComplete | swap | setstart | reload
  | cancel | forceEntryStore | forceClearAll | forceEntryLoad | restDuskWrite | duskCallReceived | duskTokenReceived | duskVerdictReceived
  | duskRetractReceived | dawnFrameReceived | restSaveWrite | operatingTimeCalibrate | hostRecordWrite | recdFreezePair
  | recordCursorSelect | recordCursorAdvance | rateClassStore | rateClassLoad | cmdWaitTimeout | rsendTimeout | cmdFrameReceived
  | cplFrameReceived | keyArm | blockReset | snapshotNow | snapinEdge | midnightRequest | midnFrameReceived | telemetrySweep
  | telemetryAlarmEnd | scrubStep | laneCalibrationStart | hkpLcalWrite | laneCalibrationComplete | hkpMpatWrite | mramPatrolSector
  | twilightThermalHold | paceLevelWrite | retainedImageSave | hkpSselWrite | giantByteReceived | cycleBoundary | poolConservationCheck
  | fwdPoolaRead | tStartupExpiry | tSettleExpiry | rosterComputeComplete | tWaveExpiry | tAgreeExpiry | rephaseBoundary | modeann
  | pendingModeLapse | catchUpComplete | timenot | referenceLost | steeringIntervalEnd | captureFifoPop | validateComplete | rolenot
  | verdict | duskWakeReason | duskRoundTimeout | duskConsentTimeout | duskDimming | duskCommit | dawnWakePatternEnd | configSaveComplete
  | keyArmExpiry | midnightFire | scrubRepair | mramPatrolPeriod | activityStart | warmResetHoldoffEnd | twilightWatchdog
  | regulatorCurrentLimit | paceChangeComplete | recdOpsecRead | daybreakBoundary | noagreeRoundSpacing | twilightThermalHoldEnd | compact
  | nop | ident | regrd | regwr | mbrd | prgload | prgop | force | recwr | recrd | freeze | duskreq | save | reinau | modereq | keyset
  | keydel | rsend => exact .inr (.inr (.inl ⟨_, fun _ => rfl⟩))
  -- an ACTIVE node
  | msixVectorUnmask | ptpSyncReceived | ptpMessageReceived | ptpMessageInterval | compareUnitFire | tpoPulseEnd | captureEdge
  | consistLinkUp | consistLinkDown | consistSteeringDecision | consistBufferDraw | consistFrameEnd | consistTxFrameStart
  | consistTxFrameEnd | telegramLaunch | preemptionVerifyResult | pauseReceived | pauseHoldExpiry | pauseRepeatTimer | pauseXonReached
  | pauseWatchdogTrip | pauseWatchdogEnd | txRingFetchStart | ringIrqModeration | mdioFrameStart | mdioFrameEnd | taskInstanceComplete
  | telegramAssembly | ioInTelegramReceived | stationAccwinExpiry | processImageHostWrite | loadWindowWrite | twinHbReceived
  | consistHbReceived | twinTakeWrite | twinYieldWrite | twinEntryReceived | twinRelayReceived | mirFrameReceived | mirrorSealReceived
  | wakeGuardSend | mirrorCopy | mirrorRetry | hostRead | hostPostedWrite | farTimeout | fseqFenceRead | brdgFselWrite | pcieReset
  | pcieLinkChange | farLockRequest | farLockGrant | semaphoreRead | semaphoreReleaseWrite | stackWriteReceived | stackReadReceived
  | stackCompletionReceived | stackFrameReceived | stackMsgReceived | stackLockReceived | stackPortDown | stackResetWrite | cmdEnableWrite
  | consistGiantByte | hostFetchComplete | pcieConfigRequest | ppsEdge | taskCommit | twinHbTick | consistHbSend | twinPathSilent
  | consistPathSilent | seekTimeout | fenceComplete | prefetchFlush | prefetchExpiry | farLockRelease | farLockTimeout | stackUplinkTimeout
  | cmdSubmissionFetch | commandReset | watchdogReset | thermalReset => exact .inr (.inr (.inr (.inl ⟨_, fun _ => rfl⟩)))
  -- the recorder
  | suppressionTimeout | recordLineWritten | recordStage | lossRecordStage | recordWriteStart | recorderScanComplete | checkpointWrite
  | freezeExpiry => exact .inr (.inr (.inr (.inr ⟨_, fun _ => rfl⟩)))

section
variable {s : State} {f : State → Host.Outcome State Fault Refusal}

theorem State.active_of_not_awake (h : s.awake = false) : s.active = false := by
  simp only [State.awake, Bool.and_eq_false_iff, Bool.or_eq_false_iff] at h
  simp only [State.active, Bool.and_eq_false_iff]
  exact h.imp_left And.left

theorem live_not_awake (h : s.awake = false) : live s f = .next s.settle := if_neg (by simp [h])

theorem liveActive_not_awake (h : s.awake = false) : liveActive s f = .next s.settle := if_neg (by simp [State.active_of_not_awake h])

/-- The recorder runs on from Tc until DUSK-SLEEP is entered, and no longer. -/
theorem liveRec_not_awake (h : s.awake = false) (he : s.rest.entering = none) : liveRec s f = .next s.settle :=
  if_neg (by simp [State.recRuns, h, he])

theorem liveAon_of_off (h : s.power = .off ∨ s.pwr.rst = some 1) : liveAon s f = .next s.settle := if_neg (by rcases h with h | h <;> simp [h])

theorem State.awake_of_off (h : s.power = .off) : s.awake = false := by simp [State.awake, h]
theorem State.awake_of_duskSleep (h : s.power = .duskSleep) : s.awake = false := by simp [State.awake, h]
theorem State.awake_of_reset (h : s.pwr.rst.isSome = true) : s.awake = false := by simp [State.awake, Option.isNone_eq_false_iff.mpr h]

end

/-- A command that neither the supply nor the always-on domain takes changes nothing at a node that does not run (Table 01.4). -/
theorem exec_not_awake {c : Instr} {s : State} (hs : s.awake = false) (he : s.rest.entering = none) (ha : c.aon = false) (hc : c.supply = false) :
    exec c s = .next s.settle := by
  rcases exec_gate c with h | ⟨h, -⟩ | ⟨f, h⟩ | ⟨f, h⟩ | ⟨f, h⟩
  · exact absurd h (by simp [hc])
  · exact absurd h (by simp [ha])
  · rw [h, live_not_awake hs]
  · rw [h, liveActive_not_awake hs]
  · rw [h, liveRec_not_awake hs he]

/-- In OFF and under a power-on reset the always-on domain stands too (R479, R488). -/
theorem exec_off {c : Instr} {s : State} (hs : s.power = .off ∨ s.pwr.rst = some 1) (he : s.rest.entering = none) (hc : c.supply = false) :
    exec c s = .next s.settle := by
  rcases exec_gate c with h | ⟨-, f, h⟩ | h
  · exact absurd h (by simp [hc])
  · rw [h, liveAon_of_off hs]
  · have asleep : s.awake = false := by
      rcases hs with hs | hs
      · exact State.awake_of_off hs
      · exact State.awake_of_reset (by simp [hs])
    rcases h with ⟨f, h⟩ | ⟨f, h⟩ | ⟨f, h⟩
    · rw [h, live_not_awake asleep]
    · rw [h, liveActive_not_awake asleep]
    · rw [h, liveRec_not_awake asleep he]

/-- The node stands in the power state `p`: no reset is asserted, and the recorder has written its staging. -/
def State.Stands (p : Power) (s : State) : Prop := s.power = p ∧ s.pwr.rst = none ∧ s.rest.entering = none

/-- What follows moves no node out of its power state. -/
theorem State.Stands.settle {p : Power} {s : State} (h : s.Stands p) : s.settle.Stands p := by
  obtain ⟨hp, hr, he⟩ := h
  exact ⟨by rw [State.settle_power, hp], by rw [State.settle_pwr_rst, hr], by rw [State.settle_rest, he]⟩

/-- The commands of the supply and the resets. -/
theorem supply_cases {c : Instr} (h : c.supply = true) : c = .vinLoss ∨ c = .powerOnReset ∨ (∃ k i b f, c = .resetRelease k i b f)
    ∨ (∃ l, c = .pinReset l) ∨ c = .thermalResetRelease := by
  unfold Instr.supply at h
  split at h <;> simp_all

/-- The commands of the always-on domain besides its wake sources. -/
theorem aon_cases {c : Instr} (h : c.aon = true) (hw : c.wakes = false) : (∃ b, c = .vioBankLoss b) ∨ (∃ b, c = .vioBankRestore b)
    ∨ c = .duskSleepEntry ∨ c = .nwakeoutRelease := by
  unfold Instr.aon at h
  split at h <;> simp_all

section
variable {p : Power} {s : State}

/-- A reset that is not asserted is not released, and a pin resets only an ACTIVE node: the supply alone moves a node that does not run. -/
theorem supply_stands {c : Instr} (h : s.Stands p) (hp : p ≠ .active) (hc : c.supply = true) (hv : c ≠ .vinLoss) (ho : c ≠ .powerOnReset) :
    ∃ t : State, exec c s = .next t ∧ t.Stands p := by
  obtain ⟨hs, hr, he⟩ := h
  rcases supply_cases hc with rfl | rfl | ⟨k, i, b, f, rfl⟩ | ⟨l, rfl⟩ | rfl
  · exact absurd rfl hv
  · exact absurd rfl ho
  · refine ⟨s.settle, ?_, State.Stands.settle ⟨hs, hr, he⟩⟩
    rw [exec_resetRelease, execResetRelease, hr, done_eq]
  · have idle : s.active = false := by simp [State.active, hs, hp]
    refine ⟨_, ?_, State.Stands.settle (s := { s with pwr.low := l }) ⟨hs, hr, he⟩⟩
    simp [exec_pinReset, execPinReset, idle]
  · refine ⟨_, ?_, State.Stands.settle (s := { s with pwr.therm := false }) ⟨hs, hr, he⟩⟩
    simp [exec_thermalResetRelease, execThermalResetRelease, hr]

theorem State.Stands.ite {a b : State} {c : Prop} [Decidable c] (ha : a.Stands p) (hb : b.Stands p) : (if c then a else b).Stands p := by
  split
  · exact ha
  · exact hb

theorem State.Stands.driveBank1 (h : s.Stands p) : s.driveBank1.Stands p :=
  List.foldlRecOn (motive := State.Stands p) _ _ h fun _ ht _ _ => ht

/-- The loss and the return of a VIO bank touch its flag, its outputs, one register and the records. -/
theorem State.Stands.vioBank (h : s.Stands p) (n : Nat) (b : Bool) : (s.vioBank n b).Stands p := by
  unfold State.vioBank
  extract_lets +onlyGivenNames shown _ flagged driven
  have hf : flagged.Stands p := .ite h h
  have hd : driven.Stands p := .ite hf.driveBank1 hf
  exact hd

/-- Without the recorder at work the entry into DUSK-SLEEP has been made. -/
theorem State.sleepEntry_of_entered (h : s.rest.entering = none) : s.sleepEntry = s := by simp [State.sleepEntry, h]

/-- The always-on domain wakes a node by its wake sources alone. -/
theorem aon_stands {c : Instr} (h : s.Stands p) (hp : p ≠ .off) (ha : c.aon = true) (hw : c.wakes = false) :
    ∃ t : State, exec c s = .next t ∧ t.Stands p := by
  have ⟨hs, hr, he⟩ := h
  have runs : ∀ f, liveAon s f = f s := fun f => if_pos (by simp [hs, hr, hp])
  rcases aon_cases ha hw with ⟨b, rfl⟩ | ⟨b, rfl⟩ | rfl | rfl
  · exact ⟨_, by rw [exec_vioBankLoss, execVioBankLoss, runs, done_eq], (h.vioBank b true).settle⟩
  · exact ⟨_, by rw [exec_vioBankRestore, execVioBankRestore, runs, done_eq], (h.vioBank b false).settle⟩
  · exact ⟨_, by rw [exec_duskSleepEntry, execDuskSleepEntry, runs, done_eq, State.sleepEntry_of_entered he], h.settle⟩
  · refine ⟨_, by rw [exec_nwakeoutRelease, execNwakeoutRelease, runs, done_eq], State.Stands.settle ?_⟩
    split
    · exact h
    · exact h

/-- OFF ends with the power-on reset (R479). -/
theorem exec_stands_off {c : Instr} (h : s.Stands .off) (ho : c ≠ .powerOnReset) : ∃ t : State, exec c s = .next t ∧ t.Stands .off := by
  have ⟨hs, _, he⟩ := h
  cases hc : c.supply with
  | false => exact ⟨_, exec_off (.inl hs) he hc, h.settle⟩
  | true =>
    by_cases hv : c = .vinLoss
    · subst hv
      exact ⟨_, rfl, State.Stands.settle (s := s.vinLoss) ⟨rfl, rfl, rfl⟩⟩
    · exact supply_stands h (by decide) hc hv ho

/-- DUSK-SLEEP ends with a wake source, the loss of VIN or the power-on reset (R370, R376, R479). -/
theorem exec_stands_duskSleep {c : Instr} (h : s.Stands .duskSleep) (hw : c.wakes = false) (hv : c ≠ .vinLoss) (ho : c ≠ .powerOnReset) :
    ∃ t : State, exec c s = .next t ∧ t.Stands .duskSleep := by
  have ⟨hs, _, he⟩ := h
  cases hc : c.supply with
  | true => exact supply_stands h (by decide) hc hv ho
  | false =>
    cases ha : c.aon with
    | true => exact aon_stands h (by decide) ha hw
    | false => exact ⟨_, exec_not_awake (State.awake_of_duskSleep hs) he ha hc, h.settle⟩

end

/-- Settles O50: a command acts on a node that does not run only where the gate before its meaning lets it through. -/
theorem powerStates : Obligations.PowerStates := by
  unfold Obligations.PowerStates
  refine ⟨fun c s hs he ha hc => exec_not_awake hs he ha hc, fun c s hs he hc => ?_,
    fun c s hs hr he ho => exec_stands_off ⟨hs, hr, he⟩ ho, fun c s hs hr he hw hv ho => exec_stands_duskSleep ⟨hs, hr, he⟩ hw hv ho⟩
  rcases hs with hs | hs | ⟨hr, ha⟩
  · exact exec_off (.inl hs) he hc
  · exact exec_off (.inr hs) he hc
  · exact exec_not_awake (State.awake_of_reset hr) he ha hc

end Sys2Proof.Machine
end

section
/-! SUPPORT. A step without a waiting command: the time base and what follows (log entry 2). -/

namespace Sys2Proof.Machine

theorem step_of_idle {s : State} (h : s.pending = []) : step s = .next ({ s with now := s.now + 1 } : State).settle := by
  simp [step, h]

/-- Settles O46: the tick is one unit of the time base, then what follows. -/
theorem idleStep : Obligations.IdleStep := by
  unfold Obligations.IdleStep
  intro s hs
  have shows := State.settle_shows { s with now := s.now + 1 }
  refine ⟨_, step_of_idle hs, shows.now, shows.pending.trans hs, shows.power, shows.events, shows.free, shows.lanes, shows.inau, shows.ports,
    shows.fab, shows.host, shows.eng, ⟨shows.img, shows.prg, shows.recd, shows.rest, shows.hkp⟩, regsBut_settle (regsBut_of_get fun _ => rfl),
    sent_settle (by simp) (by simp)⟩

end Sys2Proof.Machine
end

section
/-! SUPPORT. The instant, the cycle and its length, which sending a frame leaves as they are: `OnBeat.f` says that the state `f` answers is at
the beat `b` where the state given is. Functions in the order of the model. -/

namespace Sys2Proof.Machine

/-- The instant, the boundary that began the present cycle, its number and its length T. -/
def State.beat (s : State) : Nat × Nat × Nat × Nat := (s.now, s.bnd, s.cyc, s.tLen)

/-- The state is at the beat `b`. -/
def OnBeat (b : Nat × Nat × Nat × Nat) (s : State) : Prop := s.beat = b

/-- T follows the roster in force, the master's T and SCHD_CFG.CYCLE alone. -/
theorem State.tLen_congr {s t : State} (hf : t.inau.force = s.inau.force) (hm : t.brdg.cycle = s.brdg.cycle)
    (hc : t.get Reg.SCHD_CFG.CYCLE = s.get Reg.SCHD_CFG.CYCLE) : t.tLen = s.tLen := by
  simp only [State.tLen, State.roster, State.cycleUnits, hf, hm, hc]

/-- The keys of LANE_CREDIT lie apart from that of SCHD_CFG.CYCLE, whatever the lane. -/
theorem cycle_key_ne_txd (n : Nat) : Reg.SCHD_CFG.CYCLE.key ≠ (Reg.LANE_CREDIT.TXD.at n).key := by
  simp only [Fld.key, Fld.at]
  omega

namespace OnBeat

variable {b : Nat × Nat × Nat × Nat} {s : State}

theorem upd (h : OnBeat b s) {x_pending x_power x_cycRun x_opBase x_opAt x_opPpm x_events x_outs x_onceGen x_onceSec x_onceSess x_free
    x_lanes x_sched x_sync x_time x_fab x_msix x_glb x_twin x_img x_ports x_host x_cmd x_eng x_prg x_recd x_rest x_pwr x_hkp} :
    OnBeat b (State.mk x_pending s.now x_power s.regs x_cycRun s.cyc s.bnd x_opBase x_opAt x_opPpm x_events x_outs x_onceGen x_onceSec
      x_onceSess x_free x_lanes s.inau x_sched x_sync x_time x_fab x_msix x_glb x_twin x_img x_ports x_host x_cmd x_eng x_prg x_recd x_rest
      x_pwr s.brdg x_hkp) := h

theorem of_shows {t : State} (h : OnBeat b s) (hs : State.Shows s t) (hg : t.get Reg.SCHD_CFG.CYCLE = s.get Reg.SCHD_CFG.CYCLE) : OnBeat b t := by
  unfold OnBeat State.beat at *
  rw [hs.now, hs.bnd, hs.cyc, State.tLen_congr (by rw [hs.inau]) (by rw [hs.brdg]) hg, h]

theorem ite {u t : State} {c : Prop} [Decidable c] (hu : OnBeat b u) (ht : OnBeat b t) : OnBeat b (if c then u else t) := by
  split <;> assumption

theorem foldl {α : Type} {f : State → α → State} {l : List α} (h : OnBeat b s)
    (hf : ∀ {t : State} {x : α}, OnBeat b t → OnBeat b (f t x)) : OnBeat b (l.foldl f s) :=
  List.foldlRecOn l f h fun _ ht _ _ => hf ht

/-- The state that a pair was taken apart into. -/
theorem fst {α : Type} {p : State × α} {t : State} {x : α} (h : OnBeat b p.1) (e : p = (t, x)) : OnBeat b t := by rwa [e] at h
theorem snd {α : Type} {p : α × State} {t : State} {x : α} (h : OnBeat b p.2) (e : p = (x, t)) : OnBeat b t := by rwa [e] at h

/-! Machine/Regs.lean, Link.lean, Flags.lean, Ops.lean -/

theorem put {f : Fld} {v : Nat} (h : OnBeat b s) (hf : Reg.SCHD_CFG.CYCLE.key ≠ f.key := by decide) : OnBeat b (s.put f v) :=
  h.of_shows (s.put_shows f v) (s.get_put_ne f _ v hf)

theorem putB {f : Fld} {v : Bool} (h : OnBeat b s) (hf : Reg.SCHD_CFG.CYCLE.key ≠ f.key := by decide) : OnBeat b (s.putB f v) := h.put hf
theorem bumpBy {f : Fld} {n : Nat} (h : OnBeat b s) (hf : Reg.SCHD_CFG.CYCLE.key ≠ f.key := by decide) : OnBeat b (s.bumpBy f n) := h.put hf
theorem bump {f : Fld} (h : OnBeat b s) (hf : Reg.SCHD_CFG.CYCLE.key ≠ f.key := by decide) : OnBeat b (s.bump f) := h.bumpBy hf

theorem raise {f : Fld} (h : OnBeat b s) (hf : Reg.SCHD_CFG.CYCLE.key ≠ f.key := by decide) : OnBeat b (s.raise f) :=
  h.of_shows (s.raise_shows f) (s.raise_get_ne f _ hf)

theorem fault {f : Fld} (h : OnBeat b s) (hf : Reg.SCHD_CFG.CYCLE.key ≠ f.key := by decide) : OnBeat b (s.fault f) :=
  h.of_shows (s.fault_shows f) (s.fault_get_ne f _ hf (by decide) (by decide))

theorem emit {o : Out} (h : OnBeat b s) : OnBeat b (s.emit o) := h.upd

theorem stackMsg {dst sub : Nat} {pl : Bytes} (h : OnBeat b s) : OnBeat b (s.stackMsg dst sub pl) := by
  obtain ⟨q, hs⟩ := State.stackSend_shows s 5 0 dst 0 0 0 (natBe 1 sub ++ [0] ++ pl)
  have waits : OnBeat b { s with brdg.behind := q } := h
  exact waits.of_shows hs (State.stackSend_get s _ _ _ _ _ _ _ _)

theorem onLane {n : Nat} {f : LaneS → LaneS} (h : OnBeat b s) : OnBeat b (s.onLane n f) := h.upd
theorem record {code : Nat} {params : Bytes} (h : OnBeat b s) : OnBeat b (s.record code params) := h.upd
theorem recordGen {code key : Nat} {params : Bytes} (h : OnBeat b s) : OnBeat b (s.recordGen code key params) := .ite h h.upd.record
theorem recordSec {code key : Nat} {params : Bytes} (h : OnBeat b s) : OnBeat b (s.recordSec code key params) := .ite h h.upd.record

/-! Machine/Store.lean -/

theorem setVoted {a : Nat} {v : Voted} (h : OnBeat b s) : OnBeat b (s.setVoted a v) := .ite h.upd (.ite h.upd (.ite h.upd h))

theorem readVoted {a : Nat} (h : OnBeat b s) : OnBeat b (s.readVoted a) := by
  unfold State.readVoted
  split
  · exact h
  · exact .ite h (.ite h.setVoted.bumpBy.recordSec.fault h.setVoted.bumpBy.recordSec)

/-! Machine/Fabric.lean -/

theorem onFrame {fid : Nat} {g : PFrame → PFrame} (h : OnBeat b s) : OnBeat b (s.onFrame fid g) := h.upd
theorem refreshFloor (h : OnBeat b s) : OnBeat b s.refreshFloor := h.putB

theorem refuseBuf {cls : Cls} (h : OnBeat b s) : OnBeat b (s.refuseBuf cls) := by
  cases cls <;> exact h.bump.raise.recordSec

theorem enterPool {t : State} {f : PFrame} {len fid : Nat} (h : OnBeat b s) (e : s.enterPool f len = some (fid, t)) : OnBeat b t := by
  obtain ⟨d, -, hd⟩ := Option.map_eq_some_iff.mp e
  exact .snd (p := (_, _)) h.upd.refreshFloor hd

theorem freeFrame {fid : Nat} (h : OnBeat b s) : OnBeat b (s.freeFrame fid) := by
  unfold State.freeFrame
  split
  · exact h
  · exact h.upd.refreshFloor

theorem gc {fid : Nat} (h : OnBeat b s) : OnBeat b (s.gc fid) := by
  unfold State.gc
  split
  · exact h
  · exact .ite h.freeFrame h

theorem sendTo {n k : Nat} (h : OnBeat b s) : OnBeat b (s.sendTo n k) := by
  unfold State.sendTo
  split
  · exact h
  · split
    · exact h
    · exact .ite h (h.emit.put (cycle_key_ne_txd n)).onLane

theorem flushSets {n : Nat} (h : OnBeat b s) : OnBeat b (s.flushSets n) := .onLane (.foldl h fun h => h.emit)

theorem endTx {n : Nat} {good : Bool} (h : OnBeat b s) : OnBeat b (s.endTx n good) := by
  unfold State.endTx
  split
  · exact h
  · exact h.emit.onLane.flushSets.gc

theorem preTx {n p : Nat} (h : OnBeat b s) : OnBeat b (s.preTx n p) := h.sendTo.emit.onLane.flushSets

theorem placeSets {n : Nat} (h : OnBeat b s) : OnBeat b (s.placeSets n) := by
  unfold State.placeSets
  split
  · exact h.flushSets
  · split
    · exact h
    · exact .ite h h.sendTo.flushSets.onLane

theorem advance {n : Nat} (h : OnBeat b s) : OnBeat b (s.advance n) := by
  unfold State.advance
  extract_lets +onlyGivenNames _
  split
  · exact h.placeSets
  · split
    · exact h.placeSets.onLane
    · refine .ite h.placeSets.sendTo.endTx ?_
      split
      · exact h.placeSets.preTx
      · exact .ite h.placeSets.sendTo.endTx h.placeSets.sendTo

theorem nextSeq {cls id c : Nat} (h : OnBeat b s) : OnBeat b (s.nextSeq cls id c).2 := by
  unfold State.nextSeq
  split
  · exact h.upd
  · split
    · exact h
    · exact h.upd

theorem setUsed {fwd : Bool} {k : Nat} (h : OnBeat b s) : OnBeat b (s.setUsed fwd k) := .ite h.upd h.upd

theorem numberOwn {fid : Nat} (h : OnBeat b s) : OnBeat b (s.numberOwn fid) := by
  unfold State.numberOwn
  split
  · exact h
  · split
    · exact h
    · refine .ite h ?_
      extract_lets +onlyGivenNames _ _ _ _ _
      split
      · exact h.setUsed.onFrame
      · refine .onFrame ?_
        split
        · exact h.setUsed
        · exact h.setUsed.nextSeq

theorem startTx {n fid : Nat} {crossing : Bool} (h : OnBeat b s) : OnBeat b (s.startTx n fid crossing) := by
  unfold State.startTx
  split
  · exact h
  · exact h.numberOwn.emit.onLane

theorem dropItem {n fid : Nat} (h : OnBeat b s) : OnBeat b (s.dropItem n fid) := h.onLane.gc

theorem dropAged {n k : Nat} {q : List QItem} (h : OnBeat b s) : OnBeat b (s.dropAged n q k).1 := by
  induction k generalizing s q with
  | zero =>
    rw [State.dropAged]
    exact h
  | succ k ih =>
    unfold State.dropAged
    split
    · exact h
    · split
      · exact h
      · split
        · exact ih h.dropItem.bump.raise.recordSec
        · exact h

theorem resumeTx {n : Nat} (h : OnBeat b s) : OnBeat b (s.resumeTx n) := by
  unfold State.resumeTx
  split
  · exact h
  · split
    · exact h.onLane
    · exact .ite (.ite h.emit.onLane.endTx h) (.ite h.emit.onLane h)

theorem refuseOwn {n fid code : Nat} (h : OnBeat b s) : OnBeat b (s.refuseOwn n fid code) := by
  unfold State.refuseOwn
  split
  · exact h
  · refine .dropItem ?_
    split
    · refine .ite h.onFrame (.ite h.onFrame.bump.raise.recordGen ?_)
      split
      · exact h.onFrame.bump.raise.recordGen
      · exact h.onFrame.bump.recordGen
    · exact h.onFrame

theorem dropLate {n : Nat} {q : List QItem} (h : OnBeat b s) : OnBeat b (s.dropLate n q) := by
  induction q generalizing s with
  | nil => exact h
  | cons it q ih =>
    unfold State.dropLate
    split
    · exact h
    · exact .ite h (ih h.refuseOwn)

theorem startHead {t : State} {n : Nat} {q : List QItem} {ok : QItem → PFrame → Bool} (h : OnBeat b s) (e : s.startHead n q ok = some t) :
    OnBeat b t := by
  unfold State.startHead at e
  split at e
  · cases e
  · split at e
    · cases e
      exact h.dropItem
    · split at e
      · cases e
        exact h.startTx.onLane
      · cases e

theorem chooseTx {n : Nat} (h : OnBeat b s) : OnBeat b (s.chooseTx n) := by
  refine .ite (.ite h.resumeTx h) ?_
  extract_lets +onlyGivenNames t l
  have ht : OnBeat b t := h.dropLate
  split
  next u e =>
    rcases (Option.orElse_eq_some _ _ _).mp e with e | ⟨-, e⟩
    · exact ht.startHead e
    · exact ht.startHead e
  next =>
    refine .ite ht.resumeTx ?_
    extract_lets +onlyGivenNames pass
    split
    next u qm e =>
    split
    next v qb e' =>
    have hv : OnBeat b v := .fst (OnBeat.dropAged (.fst ht.dropAged e)) e'
    extract_lets +onlyGivenNames ok mFirst first last
    split
    next w e => exact hv.startHead e
    next =>
      refine .ite ?_ hv
      cases e : v.startHead n last ok with
      | none => exact hv
      | some w => exact hv.startHead e

theorem enqueue {n fid : Nat} {exempt crossing : Bool} (h : OnBeat b s) : OnBeat b (s.enqueue n fid exempt crossing) := by
  unfold State.enqueue
  split
  · exact h
  · extract_lets +onlyGivenNames _ _
    split
    · exact .ite h.onLane (.ite h.onLane h.bump.raise)
    · exact .ite h.onLane h.bump.raise
    · exact h.onLane

theorem originate {bytes : Bytes} {lanes : List Nat} {exempt : Bool} {code : Nat} {g : PFrame → PFrame} (h : OnBeat b s) :
    OnBeat b (s.originate bytes lanes exempt code g) := by
  refine .ite h ?_
  extract_lets +onlyGivenNames _
  split
  next => exact h.refuseBuf
  next fid s e => exact .gc (.foldl (.foldl (.onFrame (h.enterPool e)) fun h => h.enqueue) fun h => h.advance.chooseTx)

/-! Machine/Ports.lean, Remote.lean -/

theorem routeOut {cls : Cls} {dst : Nat} {line? : Option Nat} (h : OnBeat b s) : OnBeat b (s.routeOut cls dst line?).2 := by
  unfold State.routeOut
  split
  · exact h
  · refine List.foldlRecOn (motive := fun p : List Nat × State => OnBeat b p.2) _ _ h fun acc ih e _ => ?_
    split
    · exact .ite ih ih.bump
    · split
      · exact ih
      · split
        · exact ih
        · exact .ite ih.bump ih

theorem sendNow {x : RemoteOut} (h : OnBeat b s) : OnBeat b (s.sendNow x) :=
  .ite h.readVoted (.ite h.readVoted.bump h.readVoted.upd.routeOut.originate.originate)

theorem sendNotice {op : Nat} {params : Bytes} (h : OnBeat b s) : OnBeat b (s.sendNotice op params) := .ite h.stackMsg (.ite h.upd.put h.sendNow)

/-! Machine/TrainTime.lean -/

theorem staleMb {k : Nat} (h : OnBeat b s) : OnBeat b (s.staleMb k) := .ite h.put h
theorem refuseJump {e : Int} (h : OnBeat b s) : OnBeat b (s.refuseJump e) := h.put.bump.upd.staleMb.raise.record

theorem setRefst {c : Nat} (h : OnBeat b s) : OnBeat b (s.setRefst c) := .ite h (.ite h.put.raise.record.bump (.ite h.put.raise.record h.put.raise))

theorem refreshRef (h : OnBeat b s) : OnBeat b s.refreshRef := by
  have started : OnBeat b (if s.isTref && !s.flag Reg.TIME_STAT.TREF then
      { s with time := { s.time with sigmaF := s.sync.sigma, accepting := false, offsets := [], steerAt := none } } else s) := .ite h.upd h
  exact .ite started.putB.setRefst (.ite started.putB.setRefst started.putB)

theorem announceSigma {x : Int} (h : OnBeat b s) : OnBeat b (s.announceSigma x) := .ite h h.upd

theorem steerBy {e : Int} (h : OnBeat b s) : OnBeat b (s.steerBy e) :=
  .ite (.ite h.upd (OnBeat.setRefst (.ite h h.refuseJump)).announceSigma) (OnBeat.upd (.ite h.upd.setRefst h)).announceSigma

theorem steerMean (h : OnBeat b s) : OnBeat b s.steerMean :=
  .ite h.upd (.ite h.upd.announceSigma (.ite h.upd.announceSigma (.ite h.upd h.upd.steerBy)))

theorem notify (h : OnBeat b s) : OnBeat b s.notify := by
  unfold State.notify
  split
  · exact .ite h.sendNotice h
  · exact h

/-- The end of a steering interval sends a notice, and leaves the instant and the cycle. -/
theorem endSteer (h : OnBeat b s) : OnBeat b s.endSteer := .ite h h.refreshRef.steerMean.upd.notify

end OnBeat

end Sys2Proof.Machine
end

section
/-! SUPPORT. Cycle boundaries and the conservation check (R23, R28, R102, R122, R243). -/

namespace Sys2Proof.Machine

namespace State

variable {s : State}

/-! What the parts of a boundary leave. -/

theorem beat_endSteer (s : State) : s.endSteer.beat = s.beat := OnBeat.endSteer (b := s.beat) rfl

theorem rebaseMap_frame (s : State) : ∃ m, s.rebaseMap = { s with time.map := m } := by
  unfold rebaseMap
  split
  · exact ⟨_, rfl⟩
  · exact ⟨s.time.map, rfl⟩

theorem rebaseAges_inau (s : State) (d : Int) : (s.rebaseAges d).inau = s.inau := by
  unfold rebaseAges
  split <;> rfl

theorem rebaseAges_time (s : State) (d : Int) : (s.rebaseAges d).time = s.time := by
  unfold rebaseAges
  split <;> rfl

theorem rebaseAges_brdg (s : State) (d : Int) : (s.rebaseAges d).brdg = s.brdg := by
  unfold rebaseAges
  split <;> rfl

/-- T stands where the cycles are numbered anew. -/
theorem rebaseAges_tLen (s : State) (d : Int) : (s.rebaseAges d).tLen = s.tLen := by
  refine tLen_congr (by rw [rebaseAges_inau]) (by rw [rebaseAges_brdg]) ?_
  unfold rebaseAges
  split
  · exact get_put_ne _ _ _ _ (by decide)
  · rfl

/-! Where no boundary stands. -/

theorem cycleBoundary_of_none (h : s.cycRun = false ∨ s.rephCycle = true ∨ s.stackId ≠ 0) : s.cycleBoundary = s := by
  unfold cycleBoundary
  exact if_pos (by rcases h with h | h | h <;> simp [h])

theorem daybreakBoundary_of_none (h : s.inau.place = none ∨ s.inau.rephase = true ∨ s.cycRun = true) : s.daybreakBoundary = s := by
  unfold daybreakBoundary
  split
  · rfl
  next p _ =>
    rcases h with h | h | h
    · simp_all
    · simp [h]
    · simp [h]

theorem rephaseBoundary_of_none (h : s.inau.place = none ∨ s.inau.rephase = false) : s.rephaseBoundary = s := by
  unfold rephaseBoundary
  split
  · rfl
  next p _ =>
    rcases h with h | h
    · simp_all
    · simp [h]

/-- Without a step of the epoch nothing is passed. -/
theorem fireStepped_of_none (h : s.time.stepFrom = none) : s.fireStepped = s := by
  unfold fireStepped
  rw [h]
  exact congrArg (fun x => { s with time := { s.time with stepFrom := x } }) h.symm

end State

section
variable {s : State} (hs : s.awake = true)
include hs

theorem exec_cycleBoundary_awake : exec .cycleBoundary s = .next s.cycleBoundary.fireStepped.settle := by
  rw [exec_cycleBoundary, execCycleBoundary, live_awake hs, done_eq]

theorem exec_daybreakBoundary_awake : exec .daybreakBoundary s = .next s.daybreakBoundary.fireStepped.settle := by
  rw [exec_daybreakBoundary, execDaybreakBoundary, live_awake hs, done_eq]

theorem exec_rephaseBoundary_awake : exec .rephaseBoundary s = .next s.rephaseBoundary.fireStepped.settle := by
  rw [exec_rephaseBoundary, execRephaseBoundary, live_awake hs, done_eq]

theorem exec_poolConservationCheck_awake : exec .poolConservationCheck s = .next s.poolCheck.settle := by
  rw [exec_poolConservationCheck, execPoolConservationCheck, live_awake hs, done_eq]

end

namespace State

variable {s : State}

/-- A boundary that the node reaches by counting. -/
theorem cycleBoundary_of_counting {u v w : State} (hr : s.cycRun = true) (hp : s.rephCycle = false) (hk : s.stackId = 0)
    (hv : v = s.endSteer.reach (s.bnd + s.tLen)) (hu : u = ({ v with bnd := v.bnd + v.tLen, cyc := (v.cyc + 1) % 2 ^ 32 } : State).rebaseMap)
    (hw : w = (match u.roster with | some r => u.syncRound r v.residNow | none => u).closeCycle) :
    s.cycleBoundary
      = w.noonHere.openCycle (!w.time.noonSeen && w.noonHere.time.noonSeen) (decide (w.tLen ≠ w.noonHere.tLen)) false := by
  subst hv hu hw
  unfold cycleBoundary
  exact if_neg (by simp [hr, hp, hk])

/-- The cycle number counts by one, and the next cycle begins T after the last. -/
theorem counted_boundary {u v : State} (hv : v = s.endSteer.reach (s.bnd + s.tLen))
    (hu : u = ({ v with bnd := v.bnd + v.tLen, cyc := (v.cyc + 1) % 2 ^ 32 } : State).rebaseMap) :
    u.cyc = (s.cyc + 1) % 2 ^ 32 ∧ u.bnd = s.bnd + s.tLen ∧ u.now = max s.now (s.bnd + s.tLen) := by
  obtain ⟨m, hm⟩ := rebaseMap_frame { v with bnd := v.bnd + v.tLen, cyc := (v.cyc + 1) % 2 ^ 32 }
  obtain ⟨now, bnd, cyc, len⟩ : s.endSteer.now = s.now ∧ s.endSteer.bnd = s.bnd ∧ s.endSteer.cyc = s.cyc ∧ s.endSteer.tLen = s.tLen := by
    simpa [beat] using s.beat_endSteer
  have len' : (s.endSteer.reach (s.bnd + s.tLen)).tLen = s.tLen := len
  subst hv hu
  rw [hm]
  simp [now, bnd, cyc, len']

/-- A boundary that a DAYBREAK places without a re-phase. -/
theorem daybreakBoundary_of_place {tb : Int} {k tt c : Nat} {u v w : State} (hp : s.inau.place = some (tb, k, tt)) (hf : s.inau.rephase = false)
    (hr : s.cycRun = false) (hv : v = s.reach tb.toNat) (hc : c = v.cyclesSince tb)
    (hu : u = State.setMap { v.rebaseAges (((k + c : Nat) : Int) - (v.cyc + 1 : Nat)) with
      cycRun := true, cyc := (k + c) % 2 ^ 32, bnd := (tb + c * s.tLen).toNat, inau := { s.inau with place := none } } k tt)
    (hw : w = u.syncRephase.closeCycle.freshCycle) :
    s.daybreakBoundary = w.noonHere.openCycle (!w.time.noonSeen && w.noonHere.time.noonSeen) false false := by
  have len : v.tLen = s.tLen := by rw [hv]; rfl
  have inau : v.inau = s.inau := by rw [hv]; rfl
  rw [← len, ← inau, ← v.rebaseAges_tLen (((k + c : Nat) : Int) - (v.cyc + 1 : Nat)),
    ← v.rebaseAges_inau (((k + c : Nat) : Int) - (v.cyc + 1 : Nat))] at hu
  subst hv hc hu hw
  unfold daybreakBoundary
  rw [hp]
  dsimp only
  rw [if_neg (by simp [hf, hr])]

/-- t_b of a re-phase. -/
theorem rephaseBoundary_of_place {tb : Int} {k tt c : Nat} {u v w x y : State} (hp : s.inau.place = some (tb, k, tt)) (hf : s.inau.rephase = true)
    (hv : v = s.endSteer.reach tb.toNat) (hc : c = v.cyclesSince tb)
    (hu : u = { v.rebaseAges ((((k + c) % 2 ^ 32 : Nat) : Int) - (v.cyc + 1 : Nat)) with
      cycRun := true, cyc := (k + c) % 2 ^ 32, bnd := (tb + c * v.tLen).toNat,
      time.map := if v.time.map.isSome then (v.mapAt (tb + c * v.tLen).toNat).map fun m => ((k + c) % 2 ^ 32, m) else none,
      inau := { v.inau with place := none, rephase := false, noon := if v.inau.noon = some k then some ((k + c) % 2 ^ 32) else v.inau.noon } })
    (hw : w = u.syncRephase.closeCycle.freshCycle)
    (hx : x = (if decide (v.inau.noon = some k) || v.cycRun then w.record 0x0226 else w).noonHere)
    (hy : y = (if v.inau.noon = some k then x.adoptMap k tt else if x.time.map.isNone then x.setMap k tt else x)) :
    s.rephaseBoundary = y.openCycle (!w.time.noonSeen && y.time.noonSeen) (v.cycRun && decide (v.tLen ≠ y.tLen)) true := by
  subst hc hu hw hx hy
  unfold rephaseBoundary
  rw [hp]
  dsimp only
  rw [if_neg (by simp [hf]), ← hv]
  simp only [rebaseAges_inau, rebaseAges_time]

/-! The conservation check. -/

theorem poolCheck_of_sum (h : s.poolSumOk = true) : s.poolCheck = s := if_pos h

theorem poolCheck_of_broken (h : s.poolSumOk = false) :
    s.poolCheck = (((s.put Reg.FWD_STAT.SUMERR 1).raise Reg.FWD_IRQ.SUMERR).record 0x0F01).fault Reg.GLB_FAULT.SUMERR :=
  if_neg (by simp [h])

end State

section
variable {s t : State} {fs : List Fld}

theorem regsBut_raise {f : Fld} (h : regsBut s t fs) (hf : f ∈ fs) : regsBut s (t.raise f) fs := fun g hg => by
  rw [State.raise_get, regsBut_put h hf 1 g hg]

theorem regsBut_fault {f : Fld} (h : regsBut s t fs) (hf : f ∈ fs) (hi : Reg.GLB_IRQ.FAULT ∈ fs) : regsBut s (t.fault f) fs := by
  intro g hg
  have hn : g.key ≠ Reg.GLB_STAT.NFAULT.key := fun e => hg (by simp [e])
  rw [State.fault, State.refreshFault_get_ne _ _ hn, regsBut_raise (regsBut_put h hf 1) hi g hg]

end

namespace State

variable {s : State}

/-- What the check raises where the counts do not sum to 16,384 (R28, R243). -/
theorem poolCheck_flags (h : s.poolSumOk = false) :
    s.poolCheck.get Reg.FWD_STAT.SUMERR = 1 ∧ s.poolCheck.get Reg.FWD_IRQ.SUMERR = 1 ∧ s.poolCheck.get Reg.GLB_FAULT.SUMERR = 1 := by
  rw [poolCheck_of_broken h]
  refine ⟨?_, ?_, ?_⟩
  · rw [fault_get_ne _ _ _ (by decide) (by decide) (by decide), record_get, raise_get_ne _ _ _ (by decide), get_put_self]
    rfl
  · rw [fault_get_ne _ _ _ (by decide) (by decide) (by decide), record_get, raise_get, get_put_self]
    rfl
  · rw [fault, refreshFault_get_ne _ _ (by decide), raise_get_ne _ _ _ (by decide), get_put_self]
    rfl

theorem poolCheck_regsBut (h : s.poolSumOk = false) :
    regsBut s s.poolCheck [Reg.FWD_STAT.SUMERR, Reg.FWD_IRQ.SUMERR, Reg.GLB_FAULT.SUMERR, Reg.GLB_IRQ.FAULT] := by
  rw [poolCheck_of_broken h]
  have stat : regsBut s (s.put Reg.FWD_STAT.SUMERR 1) [Reg.FWD_STAT.SUMERR, Reg.FWD_IRQ.SUMERR, Reg.GLB_FAULT.SUMERR, Reg.GLB_IRQ.FAULT] :=
    regsBut_put (regsBut_of_get fun _ => rfl) (by simp) 1
  exact regsBut_fault (regsBut_raise stat (by simp)) (by simp) (by simp)

theorem poolCheck_newest (h : s.poolSumOk = false) : newest s.poolCheck = some 0x0F01 := by
  rw [poolCheck_of_broken h]
  simp [newest, record]

theorem poolCheck_memSame (h : s.poolSumOk = false) : memSame s s.poolCheck := by
  rw [poolCheck_of_broken h]
  simp [memSame]

end State

/-- Settles O14: a boundary is `closeCycle`, `noonHere` and `openCycle` in this order, whichever way it comes. -/
theorem cycleBoundaries : Obligations.CycleBoundaries := by
  unfold Obligations.CycleBoundaries
  refine ⟨?_, ?_, ?_, ?_, ?_, ?_⟩
  · intro u v w s hs hr hp hk hv hu hw
    rw [exec_cycleBoundary_awake hs, State.cycleBoundary_of_counting hr hp hk hv hu hw]
    exact ⟨rfl, State.counted_boundary hv hu⟩
  · intro tb k tt c u v w s hs hp hf hr hv hc hu hw
    rw [exec_daybreakBoundary_awake hs, State.daybreakBoundary_of_place hp hf hr hv hc hu hw]
  · intro tb k tt c u v w x y s hs hp hf hv hc hu hw hx hy
    rw [exec_rephaseBoundary_awake hs, State.rephaseBoundary_of_place hp hf hv hc hu hw hx hy]
  · intro s hs h
    obtain ⟨stat, irq, fault⟩ := State.poolCheck_flags h
    obtain ⟨img, prg, recd, rest, hkp⟩ := State.poolCheck_memSame h
    have set {f : Fld} (hf : f.plainFlag = true) (h1 : s.poolCheck.get f = 1) : s.poolCheck.settle.flag f = true := by
      simp [State.flag, State.settle_get_of_plainFlag hf, h1]
    refine ⟨_, exec_poolConservationCheck_awake hs, set (by decide) stat, set (by decide) irq, set (by decide) fault, ?_,
      regsBut_settle (State.poolCheck_regsBut h), by simp [memSame, img, prg, recd, rest, hkp]⟩
    rw [← State.poolCheck_newest h]
    simp [newest]
  · intro s hs h
    rw [exec_poolConservationCheck_awake hs, State.poolCheck_of_sum h]
  · intro s hs h
    refine ⟨fun hn => ?_, fun hn => ?_, fun hn => ?_⟩
    · rw [exec_cycleBoundary_awake hs, State.cycleBoundary_of_none hn, State.fireStepped_of_none h]
    · rw [exec_daybreakBoundary_awake hs, State.daybreakBoundary_of_none hn, State.fireStepped_of_none h]
    · rw [exec_rephaseBoundary_awake hs, State.rephaseBoundary_of_none hn, State.fireStepped_of_none h]

end Sys2Proof.Machine
end

section
/-! SUPPORT. The line code (R36, R37): its table is read back uniquely, so that a receiver in step with the sender reads what was sent. -/

namespace Sys2Proof.Machine

set_option Elab.async false

/-! Every character takes ten bits, in the code's table or not. -/

theorem msbBits_length (n v : Nat) : (msbBits n v).length = n := by simp [msbBits]

theorem atDisparity_length (rd dep : Bool) (b : List Bool) : (atDisparity rd dep b).length = b.length := by
  unfold atDisparity
  split
  · exact List.length_map _
  · rfl

theorem encodeChar_length (rd : Bool) (c : LineChar) : (encodeChar rd c).1.length = 10 := by
  unfold encodeChar
  extract_lets x y k b6 rd' alt b4
  split
  · rw [atDisparity_length, msbBits_length]
  · have h6 : b6.length = 6 := by rw [atDisparity_length, msbBits_length]
    have h4 : b4.length = 4 := by
      unfold b4
      split_ifs
      · exact msbBits_length 4 _
      · exact msbBits_length 4 _
      · rw [atDisparity_length, msbBits_length]
    rw [List.length_append, h6, h4]

theorem encodeChars_length (rd : Bool) (cs : List LineChar) : (encodeChars rd cs).1.length = 10 * cs.length := by
  induction cs generalizing rd with
  | nil => rfl
  | cons c cs ih =>
    simp only [encodeChars, List.length_append, encodeChar_length, ih, List.length_cons]
    omega

/-! No two characters share a code word at one running disparity: a walk along the table meets no word again. -/

/-- The number that bits spell, the first one the most significant. -/
def bitsValue (b : List Bool) : Nat := b.foldl (fun n x => 2 * n + b2n x) 0

/-- None of the numbers is marked in `m`, and none comes twice. -/
def unmarked : Nat → List Nat → Bool
  | _, [] => true
  | m, n :: l => !m.testBit n && unmarked (m ||| 2 ^ n) l

theorem not_mem_of_unmarked {m k : Nat} {l : List Nat} (h : unmarked m l = true) (hk : m.testBit k = true) : k ∉ l := by
  induction l generalizing m with
  | nil => exact List.not_mem_nil
  | cons n l ih =>
    simp only [unmarked, Bool.and_eq_true, Bool.not_eq_true'] at h
    obtain ⟨hn, hl⟩ := h
    have ne : k ≠ n := fun e => by simp [e, hn] at hk
    exact List.not_mem_cons_of_ne_of_not_mem ne (ih hl (by simp [Nat.testBit_or, hk]))

theorem nodup_of_unmarked {m : Nat} {l : List Nat} (h : unmarked m l = true) : l.Nodup := by
  induction l generalizing m with
  | nil => exact List.nodup_nil
  | cons n l ih =>
    simp only [unmarked, Bool.and_eq_true] at h
    obtain ⟨-, hl⟩ := h
    exact List.nodup_cons.mpr ⟨not_mem_of_unmarked hl (by simp [Nat.testBit_or]), ih hl⟩

theorem codeWords_unmarked : ∀ rd, unmarked 0 ((allChars.map fun c => (encodeChar rd c).1).map bitsValue) = true := by decide +kernel

theorem encodeChar_injOn (rd : Bool) {c d : LineChar} (hc : c ∈ allChars) (hd : d ∈ allChars)
    (h : (encodeChar rd c).1 = (encodeChar rd d).1) : c = d :=
  List.inj_on_of_nodup_map (nodup_of_unmarked (codeWords_unmarked rd)).of_map hc hd h

/-- The sender's running disparity after a character is the receiver's. -/
theorem disparityAfter_encodeChar : ∀ rd, ∀ c ∈ allChars, disparityAfter rd (encodeChar rd c).1 = (encodeChar rd c).2 := by decide +kernel

/-- A character is balanced, or brings the disparity to the other side. -/
theorem disparity_encodeChar : ∀ rd, ∀ c ∈ allChars,
    disparity (encodeChar rd c).1 = 0 ∨ disparity (encodeChar rd c).1 = if rd then -2 else 2 := by decide +kernel

/-! Reading back. -/

theorem decodeChar_encodeChar (rd : Bool) {c : LineChar} (hc : c ∈ allChars) : decodeChar rd (encodeChar rd c).1 = some c := by
  unfold decodeChar
  cases hf : allChars.find? fun d => (encodeChar rd d).1 = (encodeChar rd c).1 with
  | none => exact absurd (List.find?_eq_none.mp hf c hc) (by simp)
  | some d =>
    have same : (encodeChar rd d).1 = (encodeChar rd c).1 := by simpa using List.find?_some hf
    rw [encodeChar_injOn rd (List.mem_of_find?_eq_some hf) hc same]

theorem decodeChars_encodeChars (cs : List LineChar) (rd : Bool) (h : ∀ c ∈ cs, c ∈ allChars) :
    decodeChars cs.length rd (encodeChars rd cs).1 = cs.map some := by
  induction cs generalizing rd with
  | nil => rfl
  | cons c cs ih =>
    obtain ⟨hc, hcs⟩ := List.forall_mem_cons.mp h
    simp only [encodeChars, List.length_cons, decodeChars, List.take_left' (encodeChar_length rd c),
      List.drop_left' (encodeChar_length rd c), decodeChar_encodeChar rd hc, disparityAfter_encodeChar rd c hc, ih _ hcs, List.map_cons]

/-! What a lane sends (Table 02.3). -/

/-- A character of the code that a node may send. -/
def LineChar.Sendable (c : LineChar) : Prop := c.sent = true ∧ c ∈ allChars

theorem sendable_data {b : Nat} (h : b < 256) : (⟨false, b⟩ : LineChar).Sendable := by
  refine ⟨by simp [LineChar.sent, h], ?_⟩
  simp only [allChars, List.mem_append, List.mem_map, List.mem_range]
  exact .inl (.inl ⟨b, h, rfl⟩)

/-- The K characters of Table 02.3 that have a use. -/
theorem sendable_k : ∀ c ∈ [kChar 27 7, kChar 29 7, kChar 30 7, kChar 28 0, kChar 28 2, kChar 28 5, kChar 28 4, kChar 23 7, kChar 28 1, kChar 28 6],
    c.Sendable := by
  unfold LineChar.Sendable
  decide +kernel

theorem sendable_trainingSet (ts2 eqdone rxEmpty : Bool) {n : Nat} (hn : n < 4) :
    ∀ c ∈ trainingSet ts2 eqdone rxEmpty (n % 2) (n / 2), c.Sendable := by
  unfold trainingSet
  extract_lets ty fl
  have bit (b : Bool) : b2n b ≤ 1 := by cases b <;> decide
  have hty : ty < 2 ^ 8 := by unfold ty; split <;> decide
  have hfl : fl < 2 ^ 8 := by
    have h1 := bit eqdone
    have h2 := bit rxEmpty
    unfold fl
    omega
  have hx : ty ^^^ fl < 2 ^ 8 := Nat.xor_lt_two_pow hty hfl
  simp only [List.map_cons, List.map_nil, List.forall_mem_cons]
  exact ⟨sendable_k _ (by simp), sendable_data hty, sendable_data hfl, sendable_data (by decide), sendable_data (by decide),
    sendable_data (by decide), sendable_data (by decide), sendable_data hx, by simp⟩

theorem sendable_of_chars {o : Out} {n : Nat} {cs : List LineChar} (hn : n < 4) (h : o.chars = some (n, cs)) : ∀ c ∈ cs, c.Sendable := by
  have byte (v : Nat) : (⟨false, v % 256⟩ : LineChar).Sendable := sendable_data (Nat.mod_lt v (by decide))
  have check (v : Nat) : (⟨false, 255 - v⟩ : LineChar).Sendable := sendable_data (by omega)
  cases o <;> cases h
  case sf d => exact List.forall_mem_cons.mpr ⟨sendable_k _ (by simp), by simpa using byte d⟩
  case res d => exact List.forall_mem_cons.mpr ⟨sendable_k _ (by simp), by simpa using byte d⟩
  case data bs =>
    intro c hc
    obtain ⟨b, -, rfl⟩ := List.mem_map.mp hc
    exact sendable_data b.isLt
  case eg => exact List.forall_mem_singleton.mpr (sendable_k _ (by simp))
  case eb => exact List.forall_mem_singleton.mpr (sendable_k _ (by simp))
  case pre => exact List.forall_mem_singleton.mpr (sendable_k _ (by simp))
  case cr f => simpa using ⟨sendable_k (kChar 28 4) (by simp), byte f, check (f % 256)⟩
  case crs c v => simpa using ⟨sendable_k (kChar 23 7) (by simp), byte c, byte v, check ((c ^^^ v) % 256)⟩
  case idle => simpa [idleSet] using ⟨sendable_k (kChar 28 5) (by simp), sendable_data (b := 32 * 2 + 16) (by decide)⟩
  case ts ts2 eqdone rxEmpty => exact sendable_trainingSet ts2 eqdone rxEmpty hn
  case wake => simpa [wakeSet] using ⟨sendable_k (kChar 28 6) (by simp), sendable_data (b := 32 * 2 + 10) (by decide)⟩

end Sys2Proof.Machine

namespace Sys2Proof

set_option Elab.async false

open Machine

/-- Settles O53: a code word names its character, and both ends keep one running disparity. -/
theorem lineCode : Obligations.LineCode := by
  unfold Obligations.LineCode
  refine ⟨fun cs rd h => decodeChars_encodeChars cs rd h, fun c rd hc => ?_, fun o n cs c hn h hc => sendable_of_chars hn h c hc,
    fun o n rd bs h => ?_⟩
  · exact ⟨encodeChar_length rd c, disparityAfter_encodeChar rd c hc, disparity_encodeChar rd c hc⟩
  · obtain ⟨x, -, hx⟩ := Option.map_eq_some_iff.mp h
    obtain ⟨-, rfl⟩ := Prod.mk.inj hx
    rw [encodeChars_length, Nat.mul_mod_right]

end Sys2Proof
end

section
/-! SUPPORT. The header CRC of a frame that breaks off within it (R54): `headerCheck` then takes the one byte there is for the whole field. -/

namespace Sys2Proof.Machine

set_option Elab.async false

/-- A header that breaks off after byte 22; the CRC of the bytes before, 0x00ED, equals that byte. -/
def cutHeader : Bytes := List.replicate 21 0 ++ [0x7E, 0xED]

theorem hHcrc_cutHeader : crc16 (cutHeader.take 22) = 0xED ∧ hHcrc cutHeader = 0xED := by decide

theorem headerCheck_cutHeader : headerCheck cutHeader ≠ .hcrc := by decide

/-- Refutes O57: bytes 22 and 23 of a frame cut off after byte 22 are 0xED and nothing, which is not its CRC 0x00ED, and yet the receiver's
comparison passes. -/
theorem not_headerCrc : ¬ Obligations.HeaderCrc := by
  unfold Obligations.HeaderCrc
  rintro ⟨-, -, -, compared, -⟩
  exact headerCheck_cutHeader ((compared cutHeader).mpr (by decide))

end Sys2Proof.Machine
end

section
/-! SUPPORT. A lane whose transmitter temperature has stopped (R491) finds a credit fault (R49, R58). -/

namespace Sys2Proof.Machine

set_option Elab.async false

/-- Lane E1A is ACTIVE in TWILIGHT, its transmitter stopped. -/
def State.stoppedLane : State := { State.reset.put (Reg.LANE_STAT.STATE.at 0) LaneSt.active.code with power := .twilight, pwr := { hot := true } }

/-- The outputs after a stray data character on that lane hold no CRS REQ. -/
theorem State.stray_stoppedLane_outs {t : State} (h : exec (.strayDataCharacter 0 0) State.stoppedLane = .next t) : .crs 0 1 0 ∉ t.outs := by
  have silent : (match exec (.strayDataCharacter 0 0) State.stoppedLane with | .next t => t.outs.contains (.crs 0 1 0) | _ => false) = false := by
    decide +kernel
  rw [h] at silent
  simpa using silent

/-- Refutes O9: a stray data character on a lane whose transmitter temperature has stopped starts a resync, but no CRS REQ leaves. -/
theorem not_laneCredits : ¬ Obligations.LaneCredits := by
  unfold Obligations.LaneCredits
  rintro ⟨-, -, -, -, -, -, -, -, -, stray, -⟩
  obtain ⟨t, next, -, -, -, -, -, req, -⟩ := stray 0 0 State.stoppedLane rfl rfl rfl rfl rfl rfl rfl rfl rfl
  rcases req with left | ⟨busy, -⟩
  · exact State.stray_stoppedLane_outs next left
  · exact absurd busy (by decide)

end Sys2Proof.Machine
end

section
/-! SUPPORT. A frame ends on a lane that became ACTIVE within 100 µs after 65 code errors of its training (R41). -/

namespace Sys2Proof.Machine

set_option Elab.async false

/-- Lane E1A is ACTIVE with a frame opened; 65 code errors have come within the last 100 µs. -/
def State.noisyLane : State :=
  (State.reset.put (Reg.LANE_STAT.STATE.at 0) LaneSt.active.code).onLane 0 fun l => { l with rx := some {}, errs := [(0, 65)] }

/-- The end of that frame retrains the lane, which is recorded. -/
theorem State.frameEnd_noisyLane_events {t : State} (h : exec (.laneFrameEnd 0 [] true 0) State.noisyLane = .next t) : newest t = some 0x0102 := by
  have retrains : (match exec (.laneFrameEnd 0 [] true 0) State.noisyLane with | .next t => newest t | _ => none) = some 0x0102 := by
    decide +kernel
  rwa [h] at retrains

/-- Refutes O10: the end of a runt judges the code errors of the last 100 µs, so that a lane with more than 64 of them retrains and records
0x0102. -/
theorem not_laneFrames : ¬ Obligations.LaneFrames := by
  unfold Obligations.LaneFrames
  rintro ⟨-, -, -, -, -, -, -, -, runt, -⟩
  obtain ⟨t, next, -, -, events, -⟩ := runt 0 [] true {} State.noisyLane rfl rfl rfl (by decide) rfl rfl rfl
  have recorded := State.frameEnd_noisyLane_events next
  rw [newest, events] at recorded
  exact absurd recorded (by decide)

end Sys2Proof.Machine
end

section
/-! SUPPORT. The entry into DUSK-SLEEP while the checkpoint of the commit still waits for the interlock (R391, R474). -/

namespace Sys2Proof.Machine

set_option Elab.async false

/-- On its way to DUSK-SLEEP, staging written, a checkpoint write waiting. -/
def State.checkpointWaits : State :=
  { State.reset with power := .duskSleep, rest := { entering := some 0 }, hkp := { waiting := [.ckpt] } }

/-- The entry writes the checkpoint that waits. -/
theorem State.sleepEntry_checkpointWaits : State.checkpointWaits.sleepEntry.recd.ckA.isSome = true := by decide +kernel

/-- Refutes O30: the entry into DUSK-SLEEP changes the recorder where a checkpoint write still waits for the interlock. -/
theorem not_waking : ¬ Obligations.Waking := by
  unfold Obligations.Waking
  rintro ⟨-, -, -, -, -, -, -, -, -, -, -, -, -, -, -, entry, -⟩
  obtain ⟨t, next, -, -, -, -, -, -, -, -, recd, -⟩ :=
    entry 0 1 State.checkpointWaits rfl (by decide) rfl rfl rfl rfl rfl rfl rfl
  have written := State.sleepEntry_checkpointWaits
  cases next
  rw [State.settle_recd] at recd
  rw [recd] at written
  exact absurd written (by decide)

end Sys2Proof.Machine
end

section
/-! SUPPORT. The rules of a lane's state: what a lane and its register fields read after each named change (Tables 02.4, 02.9). -/

namespace Sys2Proof.Machine

set_option Elab.async false

/-- The field stands in a register of one lane's block (chapter 02), of which there are four. -/
def Fld.ofLane (f : Fld) : Bool := f.s1 == 0x400 && 0x10000 ≤ f.addr && f.addr < 0x10400 && f.lo < 32

/-- Two fields of the lane block that are not one. -/
def Fld.apart (f g : Fld) : Bool := f.ofLane && g.ofLane && f.key != g.key

/-- The field stands in no lane's block. -/
def Fld.offLanes (f : Fld) : Bool := f.key < 0x10000 * 32 || 0x11000 * 32 ≤ f.key

theorem Fld.key_at (f : Fld) (n : Nat) : (f.at n).key = f.key + 32 * (n * f.s1) := by
  simp only [Fld.key, Fld.at]
  omega

theorem Fld.key_at_of_ofLane {f : Fld} (h : f.ofLane = true) (n : Lane) :
    0x10000 * 32 ≤ (f.at n).key ∧ (f.at n).key < 0x11000 * 32 := by
  simp only [Fld.ofLane, Bool.and_eq_true, beq_iff_eq, decide_eq_true_eq] at h
  obtain ⟨⟨⟨hs, hlo⟩, hhi⟩, hb⟩ := h
  have hn := n.isLt
  simp only [Fld.key, Fld.at, hs]
  omega

theorem Fld.key_at_ne_of_apart {f g : Fld} (h : f.apart g = true) (n : Nat) : (f.at n).key ≠ (g.at n).key := by
  simp only [Fld.apart, Fld.ofLane, Bool.and_eq_true, beq_iff_eq, bne_iff_ne] at h
  obtain ⟨⟨⟨⟨⟨hf, -⟩, -⟩, -⟩, ⟨⟨hg, -⟩, -⟩, -⟩, hne⟩ := h
  rw [Fld.key_at, Fld.key_at, hf, hg]
  omega

theorem Fld.key_at_ne_of_offLanes {f g : Fld} (hf : f.ofLane = true) (hg : g.offLanes = true) (n : Lane) : (f.at n).key ≠ g.key := by
  have := Fld.key_at_of_ofLane hf n
  simp only [Fld.offLanes, Bool.or_eq_true, decide_eq_true_eq] at hg
  omega

namespace State

section
variable {f g : Fld} {n : Lane} {s : State}

theorem get_put_at_of_apart (h : f.apart g = true) (v : Nat) : (s.put (g.at n) v).get (f.at n) = s.get (f.at n) :=
  get_put_ne _ _ _ _ (Fld.key_at_ne_of_apart h n)

theorem get_put_at_of_offLanes (hg : g.ofLane = true) (hf : f.offLanes = true) (v : Nat) : (s.put (g.at n) v).get f = s.get f :=
  get_put_ne _ _ _ _ (Fld.key_at_ne_of_offLanes hg hf n).symm

theorem get_settle_at (h : f.ofLane = true) : s.settle.get (f.at n) = s.get (f.at n) :=
  settle_get_ne _ _ (Fld.key_at_ne_of_offLanes h rfl n) (Fld.key_at_ne_of_offLanes h rfl n)

theorem get_raise_at_of_apart (h : f.apart g = true) : (s.raise (g.at n)).get (f.at n) = s.get (f.at n) := by
  rw [raise_get, get_put_at_of_apart h]

theorem get_setLaneSt_at (h : f.apart Reg.LANE_STAT.STATE = true) (t : LaneSt) : (s.setLaneSt n t).get (f.at n) = s.get (f.at n) := by
  rw [setLaneSt, onLane_get', get_put_at_of_apart h]

/-- A lane's state is read from LANE_STAT alone. -/
theorem laneSt_of_get {s t : State} {m : Nat} (h : t.get (Reg.LANE_STAT.STATE.at m) = s.get (Reg.LANE_STAT.STATE.at m)) :
    t.laneSt m = s.laneSt m := by
  rw [laneSt, h, laneSt]

theorem laneSt_put (h : Reg.LANE_STAT.STATE.apart f = true) (v : Nat) : (s.put (f.at n) v).laneSt n = s.laneSt n :=
  laneSt_of_get (get_put_at_of_apart h v)

theorem laneSt_raise (h : Reg.LANE_STAT.STATE.apart f = true) : (s.raise (f.at n)).laneSt n = s.laneSt n :=
  laneSt_of_get (get_raise_at_of_apart h)

end

section
variable (s : State) (n : Lane)

@[simp] theorem get_record (c : Nat) (p : Bytes) (f : Fld) : (s.record c p).get f = s.get f := rfl
@[simp] theorem get_reach (t : Nat) (f : Fld) : (s.reach t).get f = s.get f := rfl
@[simp] theorem get_bump_self (f : Fld) : (s.bump f).get f = min (s.get f + 1) 0xFFFFFFFF % 2 ^ f.width := get_put_self _ _ _
@[simp] theorem get_raise_self (f : Fld) : (s.raise f).get f = 1 % 2 ^ f.width := by rw [raise_get, get_put_self]

@[simp] theorem lane_put (m : Nat) (f : Fld) (v : Nat) : (s.put f v).lane m = s.lane m := rfl
@[simp] theorem lane_putB (m : Nat) (f : Fld) (b : Bool) : (s.putB f b).lane m = s.lane m := rfl
@[simp] theorem lane_bump (m : Nat) (f : Fld) : (s.bump f).lane m = s.lane m := rfl
@[simp] theorem lane_bumpBy (m : Nat) (f : Fld) (k : Nat) : (s.bumpBy f k).lane m = s.lane m := rfl
@[simp] theorem lane_emit (m : Nat) (x : Out) : (s.emit x).lane m = s.lane m := rfl
@[simp] theorem lane_record (m : Nat) (c : Nat) (p : Bytes) : (s.record c p).lane m = s.lane m := rfl
@[simp] theorem lane_reach (m t : Nat) : (s.reach t).lane m = s.lane m := rfl
@[simp] theorem lane_raise (m : Nat) (f : Fld) : (s.raise f).lane m = s.lane m := by simp [lane]
@[simp] theorem lane_settle (m : Nat) : s.settle.lane m = s.lane m := by simp [lane]
@[simp] theorem lane_onLane_self (h : LaneS → LaneS) : (s.onLane n h).lane n = h (s.lane n) := by
  rw [lane_onLane _ _ _ _ n.isLt, if_pos rfl]
@[simp] theorem lane_setLaneSt (t : LaneSt) : (s.setLaneSt n t).lane n = { s.lane n with since := s.now } := lane_onLane_self _ _ _

@[simp] theorem laneSt_onLane (m k : Nat) (h : LaneS → LaneS) : (s.onLane k h).laneSt m = s.laneSt m := rfl
@[simp] theorem laneSt_emit (m : Nat) (x : Out) : (s.emit x).laneSt m = s.laneSt m := rfl
@[simp] theorem laneSt_record (m : Nat) (c : Nat) (p : Bytes) : (s.record c p).laneSt m = s.laneSt m := rfl
@[simp] theorem laneSt_reach (m t : Nat) : (s.reach t).laneSt m = s.laneSt m := rfl
@[simp] theorem laneSt_settle : s.settle.laneSt n = s.laneSt n := laneSt_of_get (get_settle_at rfl)
@[simp] theorem laneSt_setLaneSt (t : LaneSt) : (s.setLaneSt n t).laneSt n = t := by
  have code : (s.setLaneSt n t).get (Reg.LANE_STAT.STATE.at n) = t.code := by
    rw [setLaneSt, onLane_get', get_put_self]
    cases t <;> rfl
  rw [laneSt, code]
  cases t <;> rfl

theorem laneUp_of_laneSt {s t : State} {m : Nat} (h : t.laneSt m = s.laneSt m) : t.laneUp m = s.laneUp m := by
  rw [laneUp, h, laneUp]

end

end State

/-- A lane comes to rest in DOWN or DISABLED, its receiver to adapt again, and says so on the wire. -/
theorem State.restLane_eq (s : State) (n : Nat) :
    ∃ o, s.restLane n = ((s.setLaneSt n (restOf s n)).put (Reg.LANE_STAT.EQDONE.at n) 0).emit o := ⟨_, rfl⟩

section
variable {s t : State} {fs : List Fld}

theorem regsBut_refl (s : State) (fs : List Fld) : regsBut s s fs := fun _ _ => rfl

theorem regsBut_trans {u : State} (h : regsBut s t fs) (k : regsBut t u fs) : regsBut s u fs := fun f hf => (k f hf).trans (h f hf)

theorem regsBut_onLane (h : regsBut s t fs) (n : Nat) (g : LaneS → LaneS) : regsBut s (t.onLane n g) fs := h

theorem regsBut_record (h : regsBut s t fs) (c : Nat) : regsBut s (t.record c) fs := h

theorem regsBut_reach (h : regsBut s t fs) (x : Nat) : regsBut s (t.reach x) fs := h

theorem regsBut_setLaneSt {n : Nat} (h : regsBut s t fs) (hf : Reg.LANE_STAT.STATE.at n ∈ fs) (x : LaneSt) : regsBut s (t.setLaneSt n x) fs :=
  regsBut_put h hf _

/-- A flag that follows no other state holds 1 after its interrupt. -/
theorem State.flag_of_get {s : State} {f : Fld} (h : s.get f = 1) : s.flag f = true := by simp [State.flag, h]

end

section
variable {s t : State} {l : List Out} {x : Out}

/-- What a lost bank or a hot line mutes depends on the supplies alone. -/
theorem State.mutes_of_pwr (h : t.pwr = s.pwr) : t.mutes x = s.mutes x := by
  unfold State.mutes
  rw [h]

theorem sent_of_outs (h : t.outs = s.outs) : sent s t [] := ⟨[], by simp [h], rfl⟩

theorem sent_of_start {u : State} (h : sent u t l) (ho : u.outs = s.outs) (hp : u.pwr = s.pwr) : sent s t l := by
  obtain ⟨o, sends, shown⟩ := h
  exact ⟨o, by rw [sends, ho], by simp only [shown, State.mutes_of_pwr hp]⟩

theorem sent_record (h : sent s t l) (c : Nat) : sent s (t.record c) l := h

/-- One more output leaves, unless it is muted. -/
theorem sent_emit (h : sent s t l) (hm : t.mutes x = s.mutes x) (hx : outFollows x = false) : sent s (t.emit x) (l ++ [x]) := by
  obtain ⟨o, ho, fo⟩ := h
  refine ⟨o ++ if s.mutes x then [] else [x], by simp [ho, hm], ?_⟩
  rw [List.filter_append, List.filter_append, fo]
  cases m : s.mutes x with
  | true => simp [m]
  | false => simp [hx, m]

end

end Sys2Proof.Machine
end

section
/-! SUPPORT. Training of a lane (R40, R44, Table 02.4): what each command does to the state of Table 02.4. -/

namespace Sys2Proof.Machine

set_option Elab.async false

section
variable {s : State} {n : Lane}

theorem exec_laneSignalDetect_awake (h : s.awake = true) : exec (.laneSignalDetect n) s = .next (if s.laneSt n = .down && (s.cal n).result.isSome
    then (s.put (Reg.LANE_STAT.SIGDET.at n) 1).setLaneSt n .detect else s.put (Reg.LANE_STAT.SIGDET.at n) 1).settle := by
  rw [exec_laneSignalDetect, execLaneSignalDetect, live_awake h, done_eq, State.laneSt_put rfl]
  rfl

theorem exec_detectSignalStable_awake (h : s.awake = true) : exec (.detectSignalStable n) s = .next (if s.laneSt n = .detect
    then ((s.reach ((s.lane n).since + us 50)).setLaneSt n .align).onLane n fun l => { l with tsRun := 0 } else s).settle := by
  rw [exec_detectSignalStable, execDetectSignalStable, live_awake h, done_eq]

theorem exec_detectSignalAbsent_awake (h : s.awake = true) : exec (.detectSignalAbsent n) s = .next (if s.laneSt n = .detect
    then (s.put (Reg.LANE_STAT.SIGDET.at n) 0).setLaneSt n .down else s.put (Reg.LANE_STAT.SIGDET.at n) 0).settle := by
  rw [exec_detectSignalAbsent, execDetectSignalAbsent, live_awake h, done_eq, State.laneSt_put rfl]

theorem exec_trainingSetReceived_good {c : Bytes} (h : s.awake = true) (hc : State.tsOk c = true) (i : Bool) :
    exec (.trainingSetReceived n ⟨0, i⟩ c) s = .next ((if i && s.laneUp n then s.endTrailing n else s).takeTs n c).settle := by
  rw [exec_trainingSetReceived, execTrainingSetReceived, live_awake h, done_eq]
  simp [hc]

theorem exec_trainingSetReceived_bad {c : Bytes} {l : TsLine} (h : s.awake = true) (hc : (decide (l.errors = 0) && State.tsOk c) = false) :
    exec (.trainingSetReceived n l c) s = .next ((if l.idle && s.laneUp n then s.endTrailing n else s).badTs n l.errors).settle := by
  rw [exec_trainingSetReceived, execTrainingSetReceived, live_awake h, done_eq]
  simp only [hc]
  rfl

theorem exec_receiverAdapted_idle {e : Nat} {d1 d2 d3 : Byte} (h : s.awake = true) (hs : s.laneSt n ≠ .eq) :
    exec (.receiverAdapted n e d1 d2 d3) s = .next s.settle := by
  rw [exec_receiverAdapted, execReceiverAdapted, live_awake h, done_eq, if_neg hs]

theorem exec_trainingTimeout_idle (h : s.awake = true) (hs : State.trainLimit (s.laneSt n) = none) :
    exec (.trainingTimeout n) s = .next s.settle := by
  rw [exec_trainingTimeout, execTrainingTimeout, live_awake h, done_eq, hs]

end

namespace State

/-- The two flags of the peer that every good training set carries (R40). -/
def peerFlags (s : State) (n fl : Nat) : State := (s.putB (Reg.LANE_STAT.PEER_LINE.at n) (bit fl 5)).putB (Reg.LANE_STAT.PEER_END.at n) (bit fl 4)

section
variable (s : State) (n : Lane) (fl : Nat)

theorem peerFlags_get {f : Fld} (h1 : f.apart Reg.LANE_STAT.PEER_LINE = true) (h2 : f.apart Reg.LANE_STAT.PEER_END = true) :
    (s.peerFlags n fl).get (f.at n) = s.get (f.at n) := by
  rw [peerFlags, putB, get_put_at_of_apart h2, putB, get_put_at_of_apart h1]

theorem peerFlags_get_of_offLanes {f : Fld} (h : f.offLanes = true) : (s.peerFlags n fl).get f = s.get f := by
  rw [peerFlags, putB, get_put_at_of_offLanes rfl h, putB, get_put_at_of_offLanes rfl h]

@[simp] theorem peerFlags_laneSt : (s.peerFlags n fl).laneSt n = s.laneSt n := laneSt_of_get (peerFlags_get s n fl rfl rfl)
@[simp] theorem peerFlags_lane (m : Nat) : (s.peerFlags n fl).lane m = s.lane m := rfl
@[simp] theorem peerFlags_now : (s.peerFlags n fl).now = s.now := rfl
@[simp] theorem peerFlags_events : (s.peerFlags n fl).events = s.events := rfl
@[simp] theorem peerFlags_outs : (s.peerFlags n fl).outs = s.outs := rfl

theorem peerFlags_regsBut {s : State} {fs : List Fld} (h1 : Reg.LANE_STAT.PEER_LINE.at n ∈ fs) (h2 : Reg.LANE_STAT.PEER_END.at n ∈ fs) :
    regsBut s (s.peerFlags n fl) fs := regsBut_put (regsBut_put (regsBut_refl s fs) h1 _) h2 _

end

section
variable {s : State} {n : Lane} {c : Bytes}

/-- One more good set in a row at a lane in ALIGN. -/
def aligned (s : State) (n fl : Nat) : State :=
  ((s.peerFlags n fl).put (Reg.LANE_STAT.LOCK.at n) 1).onLane n fun l => { l with tsRun := l.tsRun + 1 }

theorem aligned_get_lock (fl : Nat) : (s.aligned n fl).get (Reg.LANE_STAT.LOCK.at n) = 1 := by
  rw [aligned, onLane_get', get_put_self]
  rfl

theorem aligned_laneSt (fl : Nat) : (s.aligned n fl).laneSt n = s.laneSt n := by
  rw [aligned, laneSt_onLane, laneSt_put rfl, peerFlags_laneSt]

theorem aligned_regsBut (fl : Nat) : regsBut s (s.aligned n fl)
    [Reg.LANE_STAT.STATE.at n, Reg.LANE_STAT.LOCK.at n, Reg.LANE_STAT.PEER_LINE.at n, Reg.LANE_STAT.PEER_END.at n] :=
  regsBut_onLane (regsBut_put (peerFlags_regsBut n fl (by simp) (by simp)) (by simp) _) n _

/-- The 32nd good set in a row ends ALIGN. -/
theorem takeTs_align_last (h : s.laneSt n = .align) (hr : 32 ≤ (s.lane n).tsRun + 1) : s.takeTs n c =
    ((s.aligned n (byteAt c 1)).setLaneSt n .eq).onLane n fun l => { l with tsRun := 0, peerEq := false } := by
  have st : (s.peerFlags n (byteAt c 1)).laneSt n = .align := by rw [peerFlags_laneSt, h]
  rw [peerFlags] at st
  simp only [takeTs, st]
  simp [peerFlags, aligned, hr]

theorem takeTs_align_next (h : s.laneSt n = .align) (hr : ¬ 32 ≤ (s.lane n).tsRun + 1) : s.takeTs n c = s.aligned n (byteAt c 1) := by
  have st : (s.peerFlags n (byteAt c 1)).laneSt n = .align := by rw [peerFlags_laneSt, h]
  rw [peerFlags] at st
  simp only [takeTs, st]
  simp [peerFlags, aligned, hr]

theorem takeTs_eq (h : s.laneSt n = .eq) (ht : byteAt c 0 = 0x4A) (hb : bit (byteAt c 1) 7 = true) :
    s.takeTs n c = ((s.peerFlags n (byteAt c 1)).onLane n fun l => { l with peerEq := true }).tryConfirm n := by
  have st : (s.peerFlags n (byteAt c 1)).laneSt n = .eq := by rw [peerFlags_laneSt, h]
  rw [peerFlags] at st
  simp only [takeTs, st]
  simp [ht, hb, peerFlags]

/-- One more TS2 received, and one sent, that say that the buffer is empty. -/
def ts2Counted (s : State) (n fl : Nat) : State :=
  (s.peerFlags n fl).onLane n fun l => { l with ts2Run := l.ts2Run + 1, ts2Sent := l.ts2Sent + 1 }

@[simp] theorem ts2Counted_lane (fl : Nat) :
    (s.ts2Counted n fl).lane n = { s.lane n with ts2Run := (s.lane n).ts2Run + 1, ts2Sent := (s.lane n).ts2Sent + 1 } := by
  simp [ts2Counted]

theorem ts2Counted_flag (fl : Nat) : (s.ts2Counted n fl).flag (Reg.LANE_STAT.RX_EMPTY.at n) = s.flag (Reg.LANE_STAT.RX_EMPTY.at n) := by
  rw [flag, ts2Counted, onLane_get', peerFlags_get _ _ _ rfl rfl, ← flag]

theorem ts2Counted_twinOn (fl : Nat) : (s.ts2Counted n fl).twinOn = s.twinOn := by
  rw [twinOn, flag, ts2Counted, onLane_get', peerFlags_get_of_offLanes _ _ _ rfl, ← flag, ← twinOn]

theorem ts2Counted_frame (fl : Nat) : (s.ts2Counted n fl).now = s.now ∧ (s.ts2Counted n fl).outs = s.outs ∧ (s.ts2Counted n fl).pwr = s.pwr
    ∧ memSame s (s.ts2Counted n fl) := by
  simp [memSame, ts2Counted, peerFlags]

theorem takeTs_confirm (h : s.laneSt n = .confirm) (ht : byteAt c 0 = 0x45) (hb : bit (byteAt c 1) 6 = true)
    (he : s.flag (Reg.LANE_STAT.RX_EMPTY.at n) = true) : s.takeTs n c = (s.ts2Counted n (byteAt c 1)).tryActive n := by
  have st : (s.peerFlags n (byteAt c 1)).laneSt n = .confirm := by rw [peerFlags_laneSt, h]
  have em : (s.peerFlags n (byteAt c 1)).flag (Reg.LANE_STAT.RX_EMPTY.at n) = true := by rw [flag, peerFlags_get _ _ _ rfl rfl]; exact he
  rw [peerFlags] at st em
  simp only [takeTs, st, em]
  simp [ht, hb, ts2Counted, peerFlags, b2n]

/-- The lane goes to CONFIRM, where it counts TS2 anew. -/
def confirmed (s : State) (n : Nat) : State :=
  ((s.setLaneSt n .confirm).onLane n fun l => { l with ts2Run := 0, ts2Sent := 0 }).emit
    (.ts n true true (s.flag (Reg.LANE_STAT.RX_EMPTY.at n)))

theorem tryConfirm_of_met (h : (s.lane n).peerEq = true) (hq : s.flag (Reg.LANE_STAT.EQDONE.at n) = true) : s.tryConfirm n = s.confirmed n := by
  have em : ((s.setLaneSt n .confirm).onLane n fun l => { l with ts2Run := 0, ts2Sent := 0 }).flag (Reg.LANE_STAT.RX_EMPTY.at n)
      = s.flag (Reg.LANE_STAT.RX_EMPTY.at n) := by rw [flag, onLane_get', get_setLaneSt_at rfl, flag]
  simp only [tryConfirm, h, hq, em, Bool.and_self, if_true, confirmed]

theorem tryConfirm_of_waiting (h : (s.lane n).peerEq = false) : s.tryConfirm n = s := by simp [tryConfirm, h]

/-- The equaliser setting that the receiver has found. -/
def equalised (s : State) (n c t1 t2 t3 : Nat) : State :=
  (((s.put (Reg.LANE_EQRES.CTLE_ACT.at n) c).put (Reg.LANE_EQRES.DFE1.at n) t1).put (Reg.LANE_EQRES.DFE2.at n) t2).put (Reg.LANE_EQRES.DFE3.at n) t3

/-- The receiver has adapted, which the own TS1 say from now on. -/
def adapted (s : State) (n c t1 t2 t3 : Nat) : State :=
  ((s.equalised n c t1 t2 t3).put (Reg.LANE_STAT.EQDONE.at n) 1).emit
    (.ts n false true ((s.equalised n c t1 t2 t3).flag (Reg.LANE_STAT.RX_EMPTY.at n)))

theorem adapted_laneSt (c t1 t2 t3 : Nat) : (s.adapted n c t1 t2 t3).laneSt n = s.laneSt n := by
  rw [adapted, laneSt_emit, laneSt_put rfl, equalised, laneSt_put rfl, laneSt_put rfl, laneSt_put rfl, laneSt_put rfl]

theorem adapted_lane (c t1 t2 t3 : Nat) : (s.adapted n c t1 t2 t3).lane n = s.lane n := by simp [adapted, equalised]

theorem adapted_regsBut (c t1 t2 t3 : Nat) : regsBut s (s.adapted n c t1 t2 t3) [Reg.LANE_STAT.EQDONE.at n, Reg.LANE_EQRES.CTLE_ACT.at n,
    Reg.LANE_EQRES.DFE1.at n, Reg.LANE_EQRES.DFE2.at n, Reg.LANE_EQRES.DFE3.at n] := by
  refine regsBut_emit (regsBut_put ?_ (by simp) _) _
  exact regsBut_put (regsBut_put (regsBut_put (regsBut_put (regsBut_refl s _) (by simp) _) (by simp) _) (by simp) _) (by simp) _

theorem adapted_get_eqdone (c t1 t2 t3 : Nat) : (s.adapted n c t1 t2 t3).get (Reg.LANE_STAT.EQDONE.at n) = 1 := by
  rw [adapted, emit_get', get_put_self]
  rfl

theorem adapted_get_ctle (c t1 t2 t3 : Nat) :
    (s.adapted n c t1 t2 t3).get (Reg.LANE_EQRES.CTLE_ACT.at n) = c % 2 ^ Reg.LANE_EQRES.CTLE_ACT.width := by
  rw [adapted, emit_get', get_put_at_of_apart rfl, equalised, get_put_at_of_apart rfl, get_put_at_of_apart rfl, get_put_at_of_apart rfl,
    get_put_self, Fld.at_width]

theorem adapted_get_dfe1 (c t1 t2 t3 : Nat) : (s.adapted n c t1 t2 t3).get (Reg.LANE_EQRES.DFE1.at n) = t1 % 2 ^ Reg.LANE_EQRES.DFE1.width := by
  rw [adapted, emit_get', get_put_at_of_apart rfl, equalised, get_put_at_of_apart rfl, get_put_at_of_apart rfl, get_put_self, Fld.at_width]

theorem adapted_get_dfe2 (c t1 t2 t3 : Nat) : (s.adapted n c t1 t2 t3).get (Reg.LANE_EQRES.DFE2.at n) = t2 % 2 ^ Reg.LANE_EQRES.DFE2.width := by
  rw [adapted, emit_get', get_put_at_of_apart rfl, equalised, get_put_at_of_apart rfl, get_put_self, Fld.at_width]

theorem adapted_get_dfe3 (c t1 t2 t3 : Nat) : (s.adapted n c t1 t2 t3).get (Reg.LANE_EQRES.DFE3.at n) = t3 % 2 ^ Reg.LANE_EQRES.DFE3.width := by
  rw [adapted, emit_get', get_put_at_of_apart rfl, equalised, get_put_self, Fld.at_width]

/-- The lane holds 128 credits and counters at 0 as it enters ACTIVE (R44). -/
def credited (s : State) (n : Nat) : State :=
  ((((s.setLaneSt n .active).put (Reg.LANE_CREDIT.TXD.at n) 0).put (Reg.LANE_CREDIT.TXF.at n) 0).put (Reg.LANE_CREDIT.RXA.at n) 0).put
    (Reg.LANE_CREDIT.RXOCC.at n) 0

/-- What a lane holds as it enters ACTIVE at the instant `t`, held out of service or not. -/
def activeLane (t held : Nat) (l : LaneS) : LaneS :=
  { l with trailing := some (t + us 200), answerAt := some (t + us 500), probeAt := some t, pdAt := some t, echoOk := false, lineOk := true,
           heldOut := held, working := false, splitRun := 0, crF := 0 }

/-- The entry into ACTIVE: CR and IDLE leave, the event and the flag. -/
def entered (s : State) (n held : Nat) : State :=
  (((((s.credited n).onLane n (activeLane (s.credited n).now held)).emit (.cr n 0)).emit (.idle n)).record 0x0101).raise (Reg.LANE_IRQ.UP.at n)

theorem credited_get_of_offLanes {f : Fld} (h : f.offLanes = true) : (s.credited n).get f = s.get f := by
  rw [credited, get_put_at_of_offLanes rfl h, get_put_at_of_offLanes rfl h, get_put_at_of_offLanes rfl h, get_put_at_of_offLanes rfl h, setLaneSt,
    onLane_get', get_put_at_of_offLanes rfl h]

/-- Where a lane is held out as it enters ACTIVE: at a twin half, on the other half's line (R14). -/
def heldAtEntry (s : State) (n : Nat) : Nat := if (s.credited n).wrongHalf n then 2 else 0

theorem enterActive_eq (s : State) (n : Nat) : s.enterActive n =
    if (s.entered n (s.heldAtEntry n)).wrongHalf n then (s.entered n (s.heldAtEntry n)).record 0x0106 else s.entered n (s.heldAtEntry n) := by
  unfold enterActive entered heldAtEntry credited activeLane
  rfl

theorem wrongHalf_of_single {m : Nat} (h : s.twinOn = false) : s.wrongHalf m = false := by simp [wrongHalf, h]

theorem enterActive_of_single (h : s.twinOn = false) : s.enterActive n = s.entered n 0 := by
  have credited : (s.credited n).twinOn = false := by rw [twinOn, flag, credited_get_of_offLanes rfl]; exact h
  have entered : (s.entered n 0).twinOn = false := by
    rw [twinOn, flag, State.entered, raise_get, get_put_at_of_offLanes rfl rfl, get_record, emit_get', emit_get', onLane_get', ← flag, ← twinOn, credited]
  have served : s.heldAtEntry n = 0 := by rw [heldAtEntry, wrongHalf_of_single credited, if_neg Bool.false_ne_true]
  rw [enterActive_eq, served, wrongHalf_of_single entered, if_neg Bool.false_ne_true]

theorem tryActive_of_met (h1 : 16 ≤ (s.lane n).ts2Run) (h2 : 16 ≤ (s.lane n).ts2Sent) (he : s.flag (Reg.LANE_STAT.RX_EMPTY.at n) = true) :
    s.tryActive n = s.enterActive n := by
  rw [tryActive, if_pos ⟨h1, h2, he⟩]

theorem entered_laneSt (k : Nat) : (s.entered n k).laneSt n = .active := by
  rw [entered, laneSt_raise rfl, laneSt_record, laneSt_emit, laneSt_emit, laneSt_onLane, credited, laneSt_put rfl, laneSt_put rfl, laneSt_put rfl,
    laneSt_put rfl, laneSt_setLaneSt]

theorem entered_lane (k : Nat) : (s.entered n k).lane n = activeLane s.now k { s.lane n with since := s.now } := by
  simp [entered, credited]

theorem entered_newest (k : Nat) : newest (s.entered n k) = some 0x0101 := by simp [newest, entered, record]

theorem entered_up (k : Nat) : (s.entered n k).get (Reg.LANE_IRQ.UP.at n) = 1 := by rw [entered, get_raise_self]; rfl

/-- D, F, A and O stand at 0 (R44). -/
theorem entered_credit (k : Nat) : (s.entered n k).get (Reg.LANE_CREDIT.TXD.at n) = 0 ∧ (s.entered n k).get (Reg.LANE_CREDIT.TXF.at n) = 0
    ∧ (s.entered n k).get (Reg.LANE_CREDIT.RXA.at n) = 0 ∧ (s.entered n k).get (Reg.LANE_CREDIT.RXOCC.at n) = 0 := by
  have shown {f : Fld} (h : f.apart Reg.LANE_IRQ.UP = true) : (s.entered n k).get (f.at n) = (s.credited n).get (f.at n) := by
    rw [entered, get_raise_at_of_apart h, get_record, emit_get', emit_get', onLane_get']
  refine ⟨?_, ?_, ?_, ?_⟩
  · rw [shown rfl, credited, get_put_at_of_apart rfl, get_put_at_of_apart rfl, get_put_at_of_apart rfl, get_put_self]; rfl
  · rw [shown rfl, credited, get_put_at_of_apart rfl, get_put_at_of_apart rfl, get_put_self]; rfl
  · rw [shown rfl, credited, get_put_at_of_apart rfl, get_put_self]; rfl
  · rw [shown rfl, credited, get_put_self]; rfl

theorem entered_regsBut (k : Nat) : regsBut s (s.entered n k) [Reg.LANE_STAT.STATE.at n, Reg.LANE_STAT.PEER_LINE.at n, Reg.LANE_STAT.PEER_END.at n,
    Reg.LANE_IRQ.UP.at n, Reg.LANE_CREDIT.TXD.at n, Reg.LANE_CREDIT.TXF.at n, Reg.LANE_CREDIT.RXA.at n, Reg.LANE_CREDIT.RXOCC.at n] := by
  refine regsBut_raise (regsBut_record (regsBut_emit (regsBut_emit (regsBut_onLane ?_ n _) _) _) _) (by simp)
  refine regsBut_put (regsBut_put (regsBut_put (regsBut_put ?_ (by simp) _) (by simp) _) (by simp) _) (by simp) _
  exact regsBut_setLaneSt (regsBut_refl s _) (by simp) _

theorem entered_sent (k : Nat) : sent s (s.entered n k).settle [.cr n 0, .idle n] := by
  have cr := sent_emit (x := .cr n 0) (sent_of_outs (s := s) (t := (s.credited n).onLane n (activeLane (s.credited n).now k)) (by simp [credited]))
    (mutes_of_pwr (by simp [credited])) rfl
  have both := sent_emit (x := .idle n) cr (mutes_of_pwr (by simp [credited])) rfl
  rw [entered]
  exact Follows.sent_trans (Follows.sent_trans (sent_record both _) (raise_follows _ _)) (settle_follows _)

theorem codeErrors_of_pos {k : Nat} (h : 0 < k) : s.codeErrors n k = (s.bumpBy (Reg.LANE_CODEERR.COUNT.at n) k).onLane n
    fun l => { l with errs := (s.now, k) :: l.errs.filter fun e => s.now - e.1 ≤ us 100 } := by
  rw [codeErrors, if_neg (by omega)]

theorem laneSt_codeErrors (k : Nat) : (s.codeErrors n k).laneSt n = s.laneSt n := by
  rw [codeErrors]
  split
  · rfl
  · rw [laneSt_onLane, bumpBy, laneSt_put rfl]

/-- The code errors of lane `n` within the last 100 µs (R41). -/
def recentErrors (s : State) (n : Nat) : Nat := (((s.lane n).errs.filter fun e => s.now - e.1 ≤ us 100).map (·.2)).sum

theorem judgeErrors_of_quiet (h : ¬ (64 < s.recentErrors n ∧ s.laneUp n = true)) : s.judgeErrors n = s := if_neg h

/-- Newly counted errors join those of the last 100 µs. -/
theorem recentErrors_codeErrors {k : Nat} (h : 0 < k) : (s.codeErrors n k).recentErrors n = k + s.recentErrors n := by
  rw [codeErrors_of_pos h, recentErrors, lane_onLane_self]
  simp [recentErrors, List.filter_filter]

/-- A damaged set where too few errors have come for a retrain: it counts, and the run of sets ends. -/
theorem badTs_of_few {k : Nat} (h : (s.laneUp n && decide (64 < max 1 k + s.recentErrors n)) = false) :
    s.badTs n k = (s.codeErrors n (max 1 k)).onLane n fun l => { l with tsRun := 0, ts2Run := 0 } := by
  refine judgeErrors_of_quiet ?_
  rintro ⟨many, up⟩
  have recent : ((s.codeErrors n (max 1 k)).onLane n fun l => { l with tsRun := 0, ts2Run := 0 }).recentErrors n
      = (s.codeErrors n (max 1 k)).recentErrors n := by rw [recentErrors, lane_onLane_self]; rfl
  rw [recent, recentErrors_codeErrors (by omega)] at many
  rw [laneUp_of_laneSt (laneSt_onLane _ _ _ _), laneUp_of_laneSt (laneSt_codeErrors _)] at up
  rw [up, decide_eq_true many] at h
  exact absurd h (by decide)

/-- What a damaged set does where too few errors have come for a retrain. -/
theorem badTs_settles {k : Nat} (h : (s.laneUp n && decide (64 < max 1 k + s.recentErrors n)) = false) :
    (s.badTs n k).settle.laneSt n = s.laneSt n ∧ ((s.badTs n k).settle.lane n).tsRun = 0 ∧ ((s.badTs n k).settle.lane n).ts2Run = 0
      ∧ (s.badTs n k).settle.get (Reg.LANE_CODEERR.COUNT.at n) = min (s.get (Reg.LANE_CODEERR.COUNT.at n) + max 1 k) 0xFFFFFFFF
      ∧ (s.badTs n k).settle.events = s.events ∧ regsBut s (s.badTs n k).settle [Reg.LANE_CODEERR.COUNT.at n] ∧ memSame s (s.badTs n k).settle := by
  have counts : (s.codeErrors n (max 1 k)).get (Reg.LANE_CODEERR.COUNT.at n) = min (s.get (Reg.LANE_CODEERR.COUNT.at n) + max 1 k) 0xFFFFFFFF := by
    rw [codeErrors_of_pos (by omega), onLane_get', bumpBy, get_put_self]
    exact Nat.mod_eq_of_lt (by simp only [Fld.at_width]; omega)
  rw [badTs_of_few h]
  refine ⟨by rw [laneSt_settle, laneSt_onLane, laneSt_codeErrors], by simp, by simp, by rw [get_settle_at rfl, onLane_get', counts], ?_, ?_, ?_⟩
  · simp [codeErrors_of_pos]
  · rw [codeErrors_of_pos (by omega)]
    exact regsBut_settle (regsBut_onLane (regsBut_onLane (regsBut_put (regsBut_refl s _) (by simp) _) n _) n _)
  · simp [memSame, codeErrors_of_pos]

/-- The end of the trailing TS2 leaves the errors counted. -/
theorem recentErrors_endTrailing : (s.endTrailing n).recentErrors n = s.recentErrors n := by
  rw [recentErrors, endTrailing, lane_onLane_self]
  rfl

theorem trainLimit_of_training (h : s.laneSt n = .align ∨ s.laneSt n = .eq ∨ s.laneSt n = .confirm) : ∃ t, trainLimit (s.laneSt n) = some t := by
  rcases h with h | h | h <;> exact ⟨_, congrArg trainLimit h⟩

/-- A training state has lasted too long: counted, signalled, recorded. -/
def trainOverrun (s : State) (n t : Nat) : State :=
  (((s.reach ((s.lane n).since + t)).bump (Reg.LANE_TRTO.COUNT.at n)).raise (Reg.LANE_IRQ.TRTO.at n)).record 0x0103

/-- The lane then rests, and detects again. -/
def trainRetried (s : State) (n t : Nat) : State := ((s.trainOverrun n t).restLane n).setLaneSt n .detect

/-- The rest shows in STATE and EQDONE alone. -/
theorem trainRetried_get {t : Nat} {f : Fld} (h1 : f.apart Reg.LANE_STAT.STATE = true) (h2 : f.apart Reg.LANE_STAT.EQDONE = true) :
    (s.trainRetried n t).get (f.at n) = (s.trainOverrun n t).get (f.at n) := by
  obtain ⟨o, ho⟩ := (s.trainOverrun n t).restLane_eq n
  rw [trainRetried, ho, get_setLaneSt_at h1, emit_get', get_put_at_of_apart h2, get_setLaneSt_at h1]

theorem trainRetried_eqdone (t : Nat) : (s.trainRetried n t).get (Reg.LANE_STAT.EQDONE.at n) = 0 := by
  obtain ⟨o, ho⟩ := (s.trainOverrun n t).restLane_eq n
  rw [trainRetried, ho, get_setLaneSt_at rfl, emit_get', get_put_self]
  rfl

theorem trainRetried_frame (t : Nat) : newest (s.trainRetried n t) = some 0x0103 ∧ memSame s (s.trainRetried n t) := by
  obtain ⟨o, ho⟩ := (s.trainOverrun n t).restLane_eq n
  rw [trainRetried, ho]
  exact ⟨by simp [newest, trainOverrun, record], by simp [memSame, trainOverrun]⟩

theorem trainRetried_regsBut (t : Nat) : regsBut s (s.trainRetried n t)
    [Reg.LANE_STAT.STATE.at n, Reg.LANE_STAT.EQDONE.at n, Reg.LANE_TRTO.COUNT.at n, Reg.LANE_IRQ.TRTO.at n] := by
  obtain ⟨o, ho⟩ := (s.trainOverrun n t).restLane_eq n
  rw [trainRetried, ho]
  refine regsBut_setLaneSt (regsBut_emit (regsBut_put (regsBut_setLaneSt (regsBut_record ?_ _) (by simp) _) (by simp) _) _) (by simp) _
  exact regsBut_raise (regsBut_put (regsBut_reach (regsBut_refl s _) _) (by simp) _) (by simp)

end

end State

section
variable {s : State} {n : Lane}

theorem exec_trainingTimeout_training {t : Nat} (h : s.awake = true) (ht : State.trainLimit (s.laneSt n) = some t) :
    exec (.trainingTimeout n) s = .next (s.trainRetried n t).settle := by
  rw [exec_trainingTimeout, execTrainingTimeout, live_awake h, done_eq, ht]
  rfl

theorem exec_receiverAdapted_eq (h : s.awake = true) (hs : s.laneSt n = .eq) (e : Nat) (d1 d2 d3 : Byte) :
    ∃ c t1 t2 t3, exec (.receiverAdapted n e d1 d2 d3) s = .next ((s.adapted n c t1 t2 t3).tryConfirm n).settle ∧
      (s.flag (Reg.LANE_RXCFG.CTLE_AUTO.at n) = true → c = e) ∧
      (s.flag (Reg.LANE_RXCFG.DFE_EN.at n) = true → t1 = d1.toNat ∧ t2 = d2.toNat ∧ t3 = d3.toNat) := by
  rw [exec_receiverAdapted, execReceiverAdapted, live_awake h, done_eq, if_pos hs]
  refine ⟨_, _, _, _, rfl, fun auto => by rw [if_pos auto], fun dfe => ?_⟩
  simp [dfe]

end

end Sys2Proof.Machine
end

section
/-! SUPPORT. O7 from the rules above. -/

namespace Sys2Proof.Machine

set_option Elab.async false

/-- Settles O7: each command moves the lane along Table 02.4, or stands. -/
theorem laneTraining : Obligations.LaneTraining := by
  unfold Obligations.LaneTraining
  refine ⟨?_, ?_, ?_, ?_, ?_, ?_, ?_, ?_, ?_, ?_, ?_, ?_, ?_, ?_, ?_, ?_⟩
  · intro n s ha hd hr
    refine ⟨_, by rw [exec_laneSignalDetect_awake ha, if_pos (by simp [hd, hr])], ?_⟩
    refine ⟨by simp, ?_, by simp, by simp, by simp, ?_, by simp [memSame]⟩
    · rw [State.get_settle_at rfl, State.get_setLaneSt_at rfl, State.get_put_self]; rfl
    · exact regsBut_settle (regsBut_setLaneSt (regsBut_put (regsBut_refl s _) (by simp) _) (by simp) _)
  · intro n s ha hd
    refine ⟨_, by rw [exec_detectSignalStable_awake ha, if_pos hd], ?_⟩
    exact ⟨by simp, by simp, by simp, by simp,
      regsBut_settle (regsBut_onLane (regsBut_setLaneSt (regsBut_reach (regsBut_refl s _) _) (by simp) _) n _), by simp [memSame]⟩
  · intro n s ha hd
    refine ⟨_, by rw [exec_detectSignalAbsent_awake ha, if_pos hd], ?_⟩
    refine ⟨by simp, ?_, by simp, ?_, by simp [memSame]⟩
    · rw [State.get_settle_at rfl, State.get_setLaneSt_at rfl, State.get_put_self]; rfl
    · exact regsBut_settle (regsBut_setLaneSt (regsBut_put (regsBut_refl s _) (by simp) _) (by simp) _)
  · intro n i c s ha hc hs
    have down : s.laneUp n = false := by simp [State.laneUp, hs]
    refine ⟨_, by rw [exec_trainingSetReceived_good ha hc, down, Bool.and_false, if_neg Bool.false_ne_true], ?_⟩
    by_cases hr : 32 ≤ (s.lane n).tsRun + 1
    · rw [State.takeTs_align_last hs hr, if_pos hr, if_pos hr]
      refine ⟨by simp, by simp, ?_, by simp [State.aligned], ?_, by simp [memSame, State.aligned, State.peerFlags]⟩
      · rw [State.get_settle_at rfl, State.onLane_get', State.get_setLaneSt_at rfl, State.aligned_get_lock]
      · exact regsBut_settle (regsBut_onLane (regsBut_setLaneSt (State.aligned_regsBut _) (by simp) _) n _)
    · rw [State.takeTs_align_next hs hr, if_neg hr, if_neg hr]
      refine ⟨by rw [State.laneSt_settle, State.aligned_laneSt, hs], by simp [State.aligned], ?_, by simp [State.aligned], ?_,
        by simp [memSame, State.aligned, State.peerFlags]⟩
      · rw [State.get_settle_at rfl, State.aligned_get_lock]
      · exact regsBut_settle (State.aligned_regsBut _)
  · intro n l c s ha hc hf
    refine ⟨_, exec_trainingSetReceived_bad ha hc, ?_⟩
    split
    · exact State.badTs_settles (by rw [State.recentErrors_endTrailing]; exact hf)
    · exact State.badTs_settles hf
  · intro n e d1 d2 d3 s ha hs hp hc hd
    obtain ⟨c, t1, t2, t3, next, auto, dfe⟩ := exec_receiverAdapted_eq ha hs e d1 d2 d3
    obtain ⟨rfl, rfl, rfl⟩ := dfe hd
    obtain rfl := auto hc
    rw [State.tryConfirm_of_waiting (by rw [State.adapted_lane, hp])] at next
    refine ⟨_, next, ?_⟩
    refine ⟨by rw [State.laneSt_settle, State.adapted_laneSt, hs], ?_, ?_, ?_, ?_, ?_, by simp [State.adapted, State.equalised],
      regsBut_settle (State.adapted_regsBut _ _ _ _), by simp [memSame, State.adapted, State.equalised]⟩ <;>
      rw [State.get_settle_at rfl]
    · exact State.adapted_get_eqdone _ _ _ _
    · exact State.adapted_get_dfe1 _ _ _ _
    · exact State.adapted_get_dfe2 _ _ _ _
    · exact State.adapted_get_dfe3 _ _ _ _
    · exact State.adapted_get_ctle _ _ _ _
  · intro n e d1 d2 d3 s ha hs hp
    obtain ⟨c, t1, t2, t3, next, -, -⟩ := exec_receiverAdapted_eq ha hs e d1 d2 d3
    rw [State.tryConfirm_of_met (by rw [State.adapted_lane, hp]) (State.flag_of_get (State.adapted_get_eqdone _ _ _ _))] at next
    exact ⟨_, next, by simp [State.confirmed], by simp [State.confirmed], by simp [State.confirmed],
      by simp [State.confirmed, State.adapted, State.equalised], by simp [memSame, State.confirmed, State.adapted, State.equalised]⟩
  · intro n s ha hs he
    obtain ⟨t, ht⟩ := State.trainLimit_of_training hs
    obtain ⟨recorded, mem⟩ := State.trainRetried_frame (s := s) (n := n) t
    refine ⟨_, exec_trainingTimeout_training ha ht, by simp [State.trainRetried], by rw [newest, State.settle_events]; exact recorded, ?_,
      State.flag_of_get ?_, by rw [State.get_settle_at rfl, State.trainRetried_eqdone], regsBut_settle (State.trainRetried_regsBut t), ?_⟩
    · rw [State.get_settle_at rfl, State.trainRetried_get rfl rfl, State.trainOverrun, State.get_record, State.get_raise_at_of_apart rfl,
        State.get_bump_self, State.get_reach]
      exact Nat.mod_eq_of_lt (by simp only [Fld.at_width]; omega)
    · rw [State.get_settle_at rfl, State.trainRetried_get rfl rfl, State.trainOverrun, State.get_record, State.get_raise_self]
      rfl
    · obtain ⟨img, prg, recd, rest, hkp⟩ := mem
      simp [memSame, img, prg, recd, rest, hkp]
  · intro n s ha hs
    rw [exec_laneSignalDetect_awake ha, if_neg]
    rw [Bool.and_eq_true, decide_eq_true_eq]
    rintro ⟨down, calibrated⟩
    rw [hs down] at calibrated
    exact absurd calibrated (by decide)
  · intro n s ha hs
    exact ⟨by rw [exec_detectSignalStable_awake ha, if_neg hs], by rw [exec_detectSignalAbsent_awake ha, if_neg hs]⟩
  · intro n c s ha hc hs ht hb hq
    have down : s.laneUp n = false := by simp [State.laneUp, hs]
    have adapted : ((s.peerFlags n (byteAt c 1)).onLane n fun l => { l with peerEq := true }).flag (Reg.LANE_STAT.EQDONE.at n) = true := by
      rw [State.flag, State.onLane_get', State.peerFlags_get _ _ _ rfl rfl]
      exact hq
    refine ⟨_, by rw [exec_trainingSetReceived_good ha hc, down, Bool.and_false, if_neg Bool.false_ne_true, State.takeTs_eq hs ht hb,
      State.tryConfirm_of_met (by simp) adapted], ?_⟩
    refine ⟨by simp [State.confirmed], by simp [State.confirmed], by simp [State.confirmed], by simp [State.confirmed], by simp [State.confirmed],
      ?_, by simp [memSame, State.confirmed, State.peerFlags]⟩
    refine regsBut_settle (regsBut_emit (regsBut_onLane (regsBut_setLaneSt (regsBut_onLane ?_ n _) (by simp) _) n _) _)
    exact State.peerFlags_regsBut n _ (by simp) (by simp)
  · intro n c s ha hc hs ht hb h1 h2 he hw
    have down : s.laneUp n = false := by simp [State.laneUp, hs]
    obtain ⟨now, outs, pwr, mem⟩ := State.ts2Counted_frame (s := s) (n := n) (byteAt c 1)
    refine ⟨_, by rw [exec_trainingSetReceived_good ha hc, down, Bool.and_false, if_neg Bool.false_ne_true, State.takeTs_confirm hs ht hb he,
      State.tryActive_of_met (by simpa using h1) (by simpa using Nat.le_succ_of_le h2) (by rw [State.ts2Counted_flag, he]),
      State.enterActive_of_single (by rw [State.ts2Counted_twinOn, hw])], ?_⟩
    obtain ⟨txd, txf, rxa, rxocc⟩ := State.entered_credit (s := s.ts2Counted n (byteAt c 1)) (n := n) 0
    refine ⟨by rw [State.laneSt_settle, State.entered_laneSt], ?_, State.flag_of_get ?_, ?_, ?_, ?_, ?_, ?_, ?_, ?_, ?_, ?_⟩
    · rw [newest, State.settle_events]; exact State.entered_newest 0
    · rw [State.get_settle_at rfl, State.entered_up]
    · rw [State.get_settle_at rfl, txd]
    · rw [State.get_settle_at rfl, txf]
    · rw [State.get_settle_at rfl, rxa]
    · rw [State.get_settle_at rfl, rxocc]
    · exact sent_of_start (State.entered_sent 0) outs pwr
    · rw [State.lane_settle, State.entered_lane, now]; rfl
    · rw [State.lane_settle, State.entered_lane, now]; rfl
    · refine regsBut_trans ?_ (regsBut_settle (State.entered_regsBut 0))
      exact regsBut_onLane (State.peerFlags_regsBut n _ (by simp) (by simp)) n _
    · obtain ⟨img, prg, recd, rest, hkp⟩ := mem
      simp [memSame, State.entered, State.credited, img, prg, recd, rest, hkp]
  · intro n i c s ha hc
    exact exec_trainingSetReceived_good ha hc i
  · intro n l c s ha hc
    exact exec_trainingSetReceived_bad ha hc
  · intro n e d1 d2 d3 s ha hs
    exact exec_receiverAdapted_idle ha hs
  · intro n s ha hs
    exact exec_trainingTimeout_idle ha hs

end Sys2Proof.Machine
end

section
/-! SUPPORT. No code error comes on a lane whose counter holds more than its 32 bits, as no command leaves it but the type of the state allows. -/

namespace Sys2Proof.Machine

set_option Elab.async false

/-- LANE_CODEERR of lane E1A holds 2^32. -/
def State.overfullCount : State := { State.reset with regs := [((Reg.LANE_CODEERR.COUNT.at 0).key, 2 ^ 32)] }

/-- A command that names no error leaves the counter as it stands. -/
theorem State.codeErrorThreshold_overfullCount :
    exec (.codeErrorThreshold 0 ⟨0, []⟩) State.overfullCount = .next State.overfullCount.settle := by
  rw [exec_codeErrorThreshold, execCodeErrorThreshold, live_awake rfl, done_eq]
  rfl

/-- Refutes O8: where no code error is named, the counter stands, and is not cut to 0xFFFFFFFF, which it exceeds in a state whose register list
holds 2^32 for it. -/
theorem not_laneLosses : ¬ Obligations.LaneLosses := by
  unfold Obligations.LaneLosses
  rintro ⟨-, -, -, few, -⟩
  obtain ⟨t, next, count, -⟩ := few 0 ⟨0, []⟩ 0 [] State.overfullCount rfl rfl rfl (.inl (by decide))
  rw [State.codeErrorThreshold_overfullCount] at next
  obtain rfl := Host.Outcome.next.inj next
  rw [State.get_settle_at rfl] at count
  exact absurd count (by decide)

end Sys2Proof.Machine
end

section
/-! SUPPORT. A word stored in a register of RW fields (R3): each of them takes its bits of the word. -/

namespace Sys2Proof.Machine

set_option Elab.async false

namespace State

section
variable {f : Fld} {l : List Fld} {a v : Nat}

theorem storeField_get_of_rw (h : f.acc = .rw) (ok : Bool) (s : State) : (storeField ok v s f).get f = f.of v := by
  simp [storeField, h, Fld.of]

theorem storeField_get_ne {g : Fld} (h : f.key ≠ g.key) (ok : Bool) (s : State) : (storeField ok v s g).get f = s.get f := by
  unfold storeField
  split
  · exact get_put_ne _ _ _ _ h
  · split
    · exact get_put_ne _ _ _ _ h
    · rfl
  · exact get_put_ne _ _ _ _ h
  · rfl

theorem foldl_storeField_get_of_notMem (h : f.key ∉ l.map Fld.key) (ok : Bool) (s : State) :
    (l.foldl (storeField ok v) s).get f = s.get f := by
  induction l generalizing s with
  | nil => rfl
  | cons g l ih =>
    rw [List.map_cons, List.mem_cons, not_or] at h
    obtain ⟨hg, hl⟩ := h
    rw [List.foldl_cons, ih hl, storeField_get_ne hg]

theorem foldl_storeField_get_of_rw (hl : (l.map Fld.key).Nodup) (hf : f ∈ l) (hrw : f.acc = .rw) (ok : Bool) (s : State) :
    (l.foldl (storeField ok v) s).get f = f.of v := by
  induction l generalizing s with
  | nil => exact absurd hf List.not_mem_nil
  | cons g l ih =>
    rw [List.map_cons, List.nodup_cons] at hl
    obtain ⟨hg, hl⟩ := hl
    rw [List.foldl_cons]
    obtain rfl | hf := List.mem_cons.mp hf
    · rw [foldl_storeField_get_of_notMem hg, storeField_get_of_rw hrw]
    · exact ih hl hf _

/-- An RW field of the register at `a`, whose fields have places of their own and none of which EN governs. -/
def rwFieldAt (a : Nat) (f : Fld) : Bool :=
  decide (f ∈ fieldsAt a) && f.acc == .rw && decide ((fieldsAt a).map Fld.key).Nodup && (fieldsAt a).all (·.acc != .rwg)
    && f.key != Reg.GLB_STAT.NFAULT.key && f.key != Reg.REST_STAT.CFGDIRTY.key

theorem storeWord_get_of_rw (h : rwFieldAt a f = true) (s : State) (v : Nat) : (s.storeWord a v).get f = f.of v := by
  simp only [rwFieldAt, Bool.and_eq_true, decide_eq_true_eq, beq_iff_eq, bne_iff_ne, List.all_eq_true] at h
  obtain ⟨⟨⟨⟨⟨hf, hrw⟩, hkeys⟩, hg⟩, hn⟩, hd⟩ := h
  have taken : s.rwgChanges a v = false := List.any_eq_false.mpr fun g hg' => by simp [hg g hg']
  rw [storeWord_get_of_taken (by rw [taken, Bool.and_false]) hn hd, foldl_storeField_get_of_rw hkeys hf hrw]

end

end State
end Sys2Proof.Machine
end

section
/-! SUPPORT. The writes of INAU_CTRL and INAU_MBSEL (R7, R73, R106, R133). -/

namespace Sys2Proof.Machine

set_option Elab.async false

namespace State

/-! A joint change that belongs to no end (R73). -/

/-- What such a change makes of the inauguration logic: the change waits for a round, T_SETTLE restarts, no failure counts. -/
def changedInau (s : State) : InauS := { s.inau with changed := true, settleAt := some (s.now + s.tSettle), fails := 0 }

/-- Such a joint change where the condition holds. -/
def changeIf (p : Prop) [Decidable p] (s : State) : State := if p then s.jointChange none else s

theorem refreshInau_get_ne {f : Fld} (h : f.key ≠ Reg.INAU_STAT.STATE.key) (s : State) : s.refreshInau.get f = s.get f :=
  get_put_ne _ _ _ _ h

section
variable (s : State) (p : Prop) [Decidable p]

theorem jointChange_none : s.jointChange none = ({ s with inau := s.changedInau, rest.jointNew := true } : State).refreshInau := rfl

theorem changeIf_of_not {s : State} {p : Prop} [Decidable p] (h : ¬ p) : s.changeIf p = s := if_neg h

theorem changeIf_inau : (s.changeIf p).inau = if p then s.changedInau else s.inau := by unfold changeIf; split <;> rfl
@[simp] theorem changeIf_now : (s.changeIf p).now = s.now := by unfold changeIf; split <;> rfl
@[simp] theorem changeIf_lanes : (s.changeIf p).lanes = s.lanes := by unfold changeIf; split <;> rfl
@[simp] theorem changeIf_events : (s.changeIf p).events = s.events := by unfold changeIf; split <;> rfl
@[simp] theorem changeIf_img : (s.changeIf p).img = s.img := by unfold changeIf; split <;> rfl
@[simp] theorem changeIf_prg : (s.changeIf p).prg = s.prg := by unfold changeIf; split <;> rfl
@[simp] theorem changeIf_recd : (s.changeIf p).recd = s.recd := by unfold changeIf; split <;> rfl
@[simp] theorem changeIf_vend (e : Nat) : (s.changeIf p).vend e = s.vend e := by unfold changeIf; split <;> rfl

theorem jointChange_none_get_ne {f : Fld} (h : f.key ≠ Reg.INAU_STAT.STATE.key) : (s.jointChange none).get f = s.get f :=
  refreshInau_get_ne h _

theorem changeIf_get_ne {f : Fld} (h : f.key ≠ Reg.INAU_STAT.STATE.key) : (s.changeIf p).get f = s.get f := by
  unfold changeIf
  split
  · exact jointChange_none_get_ne s h
  · rfl

@[simp] theorem changeIf_tSettle : (s.changeIf p).tSettle = s.tSettle := by rw [tSettle, changeIf_get_ne s p (by decide), tSettle]

end

/-! INAU_CTRL. -/

section
variable {s : State} {v : Nat}

/-- The word stored, with the joint changes that EN and LEADMASK bring. -/
def inauCtrlStored (s : State) (v : Nat) : State :=
  ((s.storeWord 0x20000 v).changeIf (Reg.INAU_CTRL.EN.of v ≠ s.get Reg.INAU_CTRL.EN)).changeIf
    (Reg.INAU_CTRL.LEADMASK.of v ≠ s.get Reg.INAU_CTRL.LEADMASK)

theorem storeWord_inauCtrl_tSettle : (s.storeWord 0x20000 v).tSettle = s.tSettle := by
  rw [tSettle, storeWord_get_ne _ _ _ _ (by decide +kernel) (by decide) (by decide) (by simp [wignOf]), tSettle]

theorem inauCtrlStored_get {f : Fld} (h : rwFieldAt 0x20000 f = true) (hs : f.key ≠ Reg.INAU_STAT.STATE.key) :
    (s.inauCtrlStored v).get f = f.of v := by
  rw [inauCtrlStored, changeIf_get_ne _ _ hs, changeIf_get_ne _ _ hs, storeWord_get_of_rw h]

/-- Where EN and LEADMASK stand, the word is stored and nothing else follows. -/
theorem inauCtrlStored_of_same (hen : Reg.INAU_CTRL.EN.of v = s.get Reg.INAU_CTRL.EN)
    (hlm : Reg.INAU_CTRL.LEADMASK.of v = s.get Reg.INAU_CTRL.LEADMASK) : s.inauCtrlStored v = s.storeWord 0x20000 v := by
  rw [inauCtrlStored, changeIf_of_not (not_not.mpr hlm), changeIf_of_not (not_not.mpr hen)]

theorem inauCtrlStored_vend (e : Nat) : (s.inauCtrlStored v).vend e = s.vend e := by
  rw [inauCtrlStored, changeIf_vend, changeIf_vend, vend, storeWord_inau, vend]

theorem writeInauCtrl_eq : s.writeInauCtrl v =
    (if bit v 1 then (s.inauCtrlStored v).reinau true else s.inauCtrlStored v).refreshInau := by
  have en : (s.storeWord 0x20000 v).get Reg.INAU_CTRL.EN = Reg.INAU_CTRL.EN.of v := storeWord_get_of_rw (by decide +kernel) _ _
  have lm (p : Prop) [Decidable p] : ((s.storeWord 0x20000 v).changeIf p).get Reg.INAU_CTRL.LEADMASK = Reg.INAU_CTRL.LEADMASK.of v := by
    rw [changeIf_get_ne _ p (by decide), storeWord_get_of_rw (by decide +kernel)]
  simp only [changeIf] at lm
  simp only [writeInauCtrl, en, lm]
  rfl

/-- What the logic holds after one joint change, or after two at one instant. -/
theorem inauCtrlStored_inau : (s.inauCtrlStored v).inau =
    if Reg.INAU_CTRL.EN.of v ≠ s.get Reg.INAU_CTRL.EN ∨ Reg.INAU_CTRL.LEADMASK.of v ≠ s.get Reg.INAU_CTRL.LEADMASK then s.changedInau
    else s.inau := by
  have stored : (s.storeWord 0x20000 v).changedInau = s.changedInau := by
    simp [changedInau, storeWord_inauCtrl_tSettle]
  have again (u : State) (p : Prop) [Decidable p] : (u.changeIf p).changedInau = u.changedInau := by
    by_cases h : p <;> simp [changedInau, changeIf_inau, h]
  rw [inauCtrlStored, changeIf_inau, changeIf_inau, again, stored, storeWord_inau]
  by_cases mask : Reg.INAU_CTRL.LEADMASK.of v ≠ s.get Reg.INAU_CTRL.LEADMASK
  · rw [if_pos mask, if_pos (.inr mask)]
  · simp only [mask, if_false, or_false]

end

/-! A write that is a joint change: T_SETTLE restarts, and neither lanes nor memories nor the record change. -/

section
variable {s t : State} {v : Nat}

/-- Between `s` and `t` a joint change has restarted T_SETTLE; lanes, events and memories stand. -/
def Restarts (s t : State) : Prop :=
  t.inau.changed = true ∧ t.inau.settleAt = some (s.now + s.tSettle) ∧ t.inau.fails = 0 ∧ t.lanes = s.lanes ∧ t.events = s.events
    ∧ t.img = s.img ∧ t.prg = s.prg ∧ t.recd = s.recd

theorem writeInauCtrl_of_zero (h : bit v 1 = false) : s.writeInauCtrl v = (s.inauCtrlStored v).refreshInau := by
  rw [writeInauCtrl_eq, h]
  rfl

theorem writeInauCtrl_restarts (h : bit v 1 = false)
    (hc : Reg.INAU_CTRL.EN.of v ≠ s.get Reg.INAU_CTRL.EN ∨ Reg.INAU_CTRL.LEADMASK.of v ≠ s.get Reg.INAU_CTRL.LEADMASK) :
    s.Restarts (s.writeInauCtrl v).settle := by
  rw [writeInauCtrl_of_zero h]
  simp only [Restarts, refreshInau, settle_inau, put_inau, inauCtrlStored_inau, if_pos hc]
  simp [changedInau, inauCtrlStored]

theorem writeInauCtrl_settle_get (h : bit v 1 = false) {f : Fld} (hf : rwFieldAt 0x20000 f = true)
    (hs : f.key ∉ [Reg.INAU_STAT.STATE.key, Reg.GLB_STAT.NFAULT.key, Reg.CMD_IRQ.CPL.key]) :
    (s.writeInauCtrl v).settle.get f = f.of v := by
  simp only [List.mem_cons, not_or, List.not_mem_nil, not_false_eq_true, and_true] at hs
  obtain ⟨hs, hn, hc⟩ := hs
  rw [writeInauCtrl_of_zero h, settle_get_ne _ _ hn hc, refreshInau_get_ne hs, inauCtrlStored_get hf hs]

theorem endQuarantine_of_none {e : Nat} (h : (s.vend e).quarantine = none) (c : Nat) : s.endQuarantine e c = s := by
  simp [endQuarantine, h]

/-- REINAU clears the self-exclusion, with the count that led to it. -/
def admitted (s : State) : State := { s.put Reg.INAU_STAT.EXCL 0 with inau.minor := 0 }

theorem admitted_get (f : Fld) : s.admitted.get f = (s.put Reg.INAU_STAT.EXCL 0).get f := rfl

/-- REINAU at a node without quarantine is a joint change after that (R133). -/
theorem reinau_of_none (h0 : (s.vend 0).quarantine = none) (h1 : (s.vend 1).quarantine = none) :
    s.reinau true = s.admitted.jointChange none := by
  have q0 : (s.admitted.vend 0).quarantine = none := h0
  have q1 : (s.admitted.vend 1).quarantine = none := h1
  have clears : s.reinau true = ((s.admitted.endQuarantine 0 2).endQuarantine 1 2).jointChange none := rfl
  rw [clears, endQuarantine_of_none q0, endQuarantine_of_none q1]

theorem writeInauCtrl_reinau (h : bit v 1 = true) (h0 : (s.vend 0).quarantine = none) (h1 : (s.vend 1).quarantine = none) :
    s.writeInauCtrl v = ((s.inauCtrlStored v).admitted.jointChange none).refreshInau := by
  rw [writeInauCtrl_eq, if_pos h, reinau_of_none (by rw [inauCtrlStored_vend, h0]) (by rw [inauCtrlStored_vend, h1])]

theorem inauCtrlStored_admitted_tSettle : (s.inauCtrlStored v).admitted.tSettle = s.tSettle := by
  rw [tSettle, admitted_get, get_put_ne _ _ _ _ (by decide), ← tSettle, inauCtrlStored, changeIf_tSettle, changeIf_tSettle,
    storeWord_inauCtrl_tSettle]

theorem writeInauCtrl_reinau_restarts (h : bit v 1 = true) (h0 : (s.vend 0).quarantine = none) (h1 : (s.vend 1).quarantine = none) :
    s.Restarts (s.writeInauCtrl v).settle := by
  rw [writeInauCtrl_reinau h h0 h1, jointChange_none]
  simp only [Restarts, refreshInau, settle_inau, put_inau, changedInau, inauCtrlStored_admitted_tSettle]
  simp [admitted, inauCtrlStored]

end

/-! INAU_MBSEL. -/

section
variable {s : State} {v : Nat}

/-- What INAU_MBSEL selects does not rest on a register. -/
theorem mailBytes_storeWord (a src ix : Nat) : (s.storeWord a v).mailBytes src ix = s.mailBytes src ix := by
  simp [mailBytes, roster, lane]

/-- The mailbox shows 16 bytes. -/
def mailShown (s : State) (b : Bytes) : State :=
  ((((s.put Reg.INAU_MBD0.DATA (fieldAt b 0 4)).put Reg.INAU_MBD1.DATA (fieldAt b 4 4)).put Reg.INAU_MBD2.DATA (fieldAt b 8 4)).put
    Reg.INAU_MBD3.DATA (fieldAt b 12 4)).put Reg.INAU_MBSTAT.VALID 1

/-- The registers that show them. -/
def mailFields : List Fld := [Reg.INAU_MBD0.DATA, Reg.INAU_MBD1.DATA, Reg.INAU_MBD2.DATA, Reg.INAU_MBD3.DATA, Reg.INAU_MBSTAT.VALID]

theorem mailShown_regsBut (b : Bytes) : regsBut s (s.mailShown b) mailFields := by
  unfold mailShown mailFields
  refine regsBut_put (regsBut_put (regsBut_put (regsBut_put (regsBut_put (regsBut_refl s _) ?_ _) ?_ _) ?_ _) ?_ _) ?_ _ <;> simp

theorem mailShown_data (b : Bytes) : (s.mailShown b).get Reg.INAU_MBD0.DATA = fieldAt b 0 4 % 2 ^ 32
    ∧ (s.mailShown b).get Reg.INAU_MBD1.DATA = fieldAt b 4 4 % 2 ^ 32 ∧ (s.mailShown b).get Reg.INAU_MBD2.DATA = fieldAt b 8 4 % 2 ^ 32
    ∧ (s.mailShown b).get Reg.INAU_MBD3.DATA = fieldAt b 12 4 % 2 ^ 32 := by
  unfold mailShown
  refine ⟨?_, ?_, ?_, ?_⟩
  · rw [get_put_ne _ _ _ _ (by decide), get_put_ne _ _ _ _ (by decide), get_put_ne _ _ _ _ (by decide), get_put_ne _ _ _ _ (by decide),
      get_put_self]
  · rw [get_put_ne _ _ _ _ (by decide), get_put_ne _ _ _ _ (by decide), get_put_ne _ _ _ _ (by decide), get_put_self]
  · rw [get_put_ne _ _ _ _ (by decide), get_put_ne _ _ _ _ (by decide), get_put_self]
  · rw [get_put_ne _ _ _ _ (by decide), get_put_self]

theorem mailShown_valid (b : Bytes) : (s.mailShown b).get Reg.INAU_MBSTAT.VALID = 1 := by
  rw [mailShown, get_put_self]
  rfl

/-- A write of INAU_MBSEL shows what the word selects. -/
theorem writeInauMb_eq : s.writeInauMb v =
    (s.storeWord 0x20040 v).mailShown (s.mailBytes (Reg.INAU_MBSEL.SRC.of v) (Reg.INAU_MBSEL.INDEX.of v)) := by
  have src : (s.storeWord 0x20040 v).get Reg.INAU_MBSEL.SRC = Reg.INAU_MBSEL.SRC.of v := storeWord_get_of_rw (by decide +kernel) _ _
  have index : (s.storeWord 0x20040 v).get Reg.INAU_MBSEL.INDEX = Reg.INAU_MBSEL.INDEX.of v := storeWord_get_of_rw (by decide +kernel) _ _
  simp only [writeInauMb, src, index, mailBytes_storeWord, mailShown]

theorem writeInauMb_settle_get {f : Fld} (hf : rwFieldAt 0x20040 f = true)
    (h : f.key ∉ (Reg.GLB_STAT.NFAULT :: Reg.CMD_IRQ.CPL :: mailFields).map Fld.key) : (s.writeInauMb v).settle.get f = f.of v := by
  rw [writeInauMb_eq, regsBut_settle (mailShown_regsBut _) f h, storeWord_get_of_rw hf]

end

end State

section
variable {s : State} {v : Word}

theorem exec_inauEnWrite_awake (h : s.awake = true) : exec (.inauEnWrite v) s = .next (s.writeInauCtrl v.toNat).settle := by
  rw [exec_inauEnWrite, execInauEnWrite, live_awake h, done_eq]

theorem exec_inauLeadmaskWrite_awake (h : s.awake = true) : exec (.inauLeadmaskWrite v) s = .next (s.writeInauCtrl v.toNat).settle := by
  rw [exec_inauLeadmaskWrite, execInauLeadmaskWrite, live_awake h, done_eq]

theorem exec_inauReinauWrite_awake (h : s.awake = true) : exec (.inauReinauWrite v) s = .next (s.writeInauCtrl v.toNat).settle := by
  rw [exec_inauReinauWrite, execInauReinauWrite, live_awake h, done_eq]

theorem exec_inauMbselWrite_awake (h : s.awake = true) : exec (.inauMbselWrite v) s = .next (s.writeInauMb v.toNat).settle := by
  rw [exec_inauMbselWrite, execInauMbselWrite, live_awake h, done_eq]

end

/-- Settles O13: INAU_CTRL is stored, with a joint change for each of EN, LEADMASK and REINAU; INAU_MBSEL loads what it selects. -/
theorem inauWrites : Obligations.InauWrites := by
  unfold Obligations.InauWrites
  refine ⟨fun v s hs hc hb => ?_, fun v s hs hc hb => ?_, fun v s hs hb h0 h1 => ?_, fun v s hs => ?_, fun v s hs => ?_,
    fun v s hs hen hlm hb => ?_⟩
  · exact ⟨_, exec_inauEnWrite_awake hs, State.writeInauCtrl_settle_get hb (by decide +kernel) (by decide),
      State.writeInauCtrl_restarts hb (.inl hc)⟩
  · exact ⟨_, exec_inauLeadmaskWrite_awake hs, State.writeInauCtrl_settle_get hb (by decide +kernel) (by decide),
      State.writeInauCtrl_restarts hb (.inr hc)⟩
  · refine ⟨_, exec_inauReinauWrite_awake hs, ?_, ?_, State.writeInauCtrl_reinau_restarts hb h0 h1⟩
    · rw [State.settle_get_ne _ _ (by decide) (by decide), State.writeInauCtrl_reinau hb h0 h1, State.refreshInau_get_ne (by decide),
        State.jointChange_none_get_ne _ (by decide), State.admitted_get, State.get_put_self, Nat.zero_mod]
    · rw [State.writeInauCtrl_reinau hb h0 h1]
      simp [State.jointChange_none, State.refreshInau, State.changedInau, State.admitted]
  · refine ⟨_, exec_inauMbselWrite_awake hs, ?_⟩
    refine ⟨?_, State.writeInauMb_settle_get (by decide +kernel) (by decide),
      State.writeInauMb_settle_get (by decide +kernel) (by decide), ?_, ?_⟩
    · rw [State.settle_get_ne _ _ (by decide) (by decide), State.writeInauMb_eq, State.mailShown_valid]
    · rintro b rfl
      rw [State.writeInauMb_eq]
      iterate 4 rw [State.settle_get_ne _ _ (by decide) (by decide)]
      exact State.mailShown_data _
    · simp [State.writeInauMb_eq, State.mailShown, memSame]
  · exact ⟨exec_inauEnWrite_awake hs, exec_inauLeadmaskWrite_awake hs, exec_inauReinauWrite_awake hs, exec_inauMbselWrite_awake hs⟩
  · refine ⟨_, exec_inauEnWrite_awake hs, State.writeInauCtrl_settle_get hb (by decide +kernel) (by decide),
      State.writeInauCtrl_settle_get hb (by decide +kernel) (by decide), State.writeInauCtrl_settle_get hb (by decide +kernel) (by decide),
      State.writeInauCtrl_settle_get hb (by decide +kernel) (by decide), ?_⟩
    rw [State.writeInauCtrl_of_zero hb, State.inauCtrlStored_of_same hen hlm]
    simp [State.refreshInau, memSame]

end Sys2Proof.Machine
end

section
/-! SUPPORT. T_STARTUP ends at PACE level 0, where no roster can form (R105, R483). -/

namespace Sys2Proof.Machine

set_option Elab.async false

/-- PACE level 0 is in force; T_SETTLE has passed after a joint change, T_STARTUP runs. -/
def State.slowest : State :=
  { State.reset.put Reg.GLB_PACE.ACT 0 with inau := { State.reset.inau with startupAt := some 5, settleAt := none, changed := true } }

/-- T_STARTUP ends there without a round. -/
theorem State.tStartupExpiry_slowest_events {t : State} (h : exec .tStartupExpiry State.slowest = .next t) : t.events = [] := by
  have waits : (match exec .tStartupExpiry State.slowest with | .next t => t.events.isEmpty | _ => false) = true := by decide +kernel
  rw [h] at waits
  simpa using waits

/-- Every round start is recorded. -/
theorem State.startRound_slowest_events :
    ({ State.slowest.reach 5 with inau.startupAt := none } : State).startRound.events ≠ [] := by decide +kernel

/-- Refutes O11: at PACE level 0, where no roster can form, the end of T_STARTUP starts no round. -/
theorem not_inauTimers : ¬ Obligations.InauTimers := by
  unfold Obligations.InauTimers
  rintro ⟨-, -, -, -, starts, -⟩
  have next := starts 5 State.slowest (by decide) rfl rfl rfl (by decide) (by decide)
  have events := State.tStartupExpiry_slowest_events next
  rw [State.settle_events] at events
  exact State.startRound_slowest_events events

end Sys2Proof.Machine
end

section
/-! SUPPORT. A COUNT segment reaches twin Y before the item that twin X appends in the round (R84, R333). -/

namespace Sys2Proof.Machine

set_option Elab.async false

/-- The round held. -/
def heldRound : Round := { rnd := 5, starter := 7, cold := true, ocyc := 0 }

/-- The wave that its starter sends out of end 1, in one COUNT segment. -/
def firstCount : Bytes :=
  mkFrame { cls := .mgmt, type := 0x11 } (countPayload heldRound false true false 7 0 1 1 [.ident .null, .entry ⟨7, 0, 0, 0, 0⟩])

/-- Twin Y between two neighbours on line B; the twin link works, and twin X's item has not come. -/
def State.twinWaits : State :=
  let lines := (State.reset.put (Reg.LANE_STAT.STATE.at 1) LaneSt.active.code).put (Reg.LANE_STAT.STATE.at 3) LaneSt.active.code
  let twin := ((lines.put Reg.TWIN_STAT.TWON 1).put Reg.TWIN_STAT.HALF 1).put Reg.TWIN_STAT.TLOK 1
  let works := (twin.onLane 1 fun l => { l with working := true }).onLane 3 fun l => { l with working := true }
  let joints := (works.onEnd 0 fun v => { v with working := true }).onEnd 1 fun v => { v with working := true }
  { joints with inau := { joints.inau with round := some heldRound, pair := some (3, 0) } }

/-- The segment leaves the item of this node open. -/
theorem State.waveCount_twinWaits_own {t : State} {r : Round} (h : exec (.waveCountReceived 1 firstCount true) State.twinWaits = .next t)
    (hr : t.inau.round = some r) : r.own = none := by
  have waits : (match exec (.waveCountReceived 1 firstCount true) State.twinWaits with
      | .next t => t.inau.round.all fun r => r.own.isNone
      | _ => false) = true := by decide +kernel
  rw [h] at waits
  simpa [hr] using waits

/-- Refutes O12: a COUNT segment that twin Y keeps before twin X's item has come leaves the item of the node open; it is not the entry that the
node would take alone. -/
theorem not_inauFrames : ¬ Obligations.InauFrames := by
  unfold Obligations.InauFrames
  rintro ⟨-, -, -, -, kept, -⟩
  obtain ⟨t, next, round, -⟩ := kept 1 firstCount heldRound _ State.twinWaits (by decide) (by decide +kernel) (by decide +kernel)
    (by decide +kernel) (by decide +kernel) (by decide +kernel) rfl rfl rfl rfl rfl (by decide +kernel) (by decide +kernel) (by decide +kernel)
  exact absurd (State.waveCount_twinWaits_own next round) nofun

end Sys2Proof.Machine
end

section
/-! SUPPORT. Interrupt flags, counter clears and the mask of a vector: what each command leaves (R171, R455). -/

namespace Sys2Proof.Machine

namespace State

variable {s : State}

/-! Interrupt flags. -/

/-- Fields of default 0 put to 0, one after the other. -/
theorem foldl_put_zero_get {f : Fld} {l : List Fld} (hf : f.default = 0) (hl : ∀ g ∈ l, g.default = 0) (s : State) :
    (l.foldl (fun s g => s.put g 0) s).get f = if f.key ∈ l.map Fld.key then 0 else s.get f := by
  induction l generalizing s with
  | nil => rfl
  | cons g l ih =>
    rw [List.foldl_cons, ih (fun x hx => hl x (List.mem_cons_of_mem g hx)), get_put, Nat.zero_mod, if_pos (hl g List.mem_cons_self).symm, hf]
    by_cases hk : f.key = g.key <;> simp [hk]

/-- A fold whose every step leaves a field leaves it. -/
theorem foldl_get {α : Type} {g : State → α → State} {f : Fld} (hg : ∀ u x, (g u x).get f = u.get f) (l : List α) (s : State) :
    (l.foldl g s).get f = s.get f := by
  induction l generalizing s with
  | nil => rfl
  | cons x l ih => rw [List.foldl_cons, ih, hg]

theorem shows_of_pba (s : State) (p : List Nat) : Shows s { s with msix.pba := p } :=
  ⟨s.regs, [], p, s.msix.inta, s.pwr.intn, s.pwr.role, s.cmd.mods, by simp [shown]⟩

/-- A vector whose flags have been cleared resends its message, or is no longer pending. -/
def resignal (s : State) (v : Nat) : State :=
  if s.vecPending v then s.signal v else { s with msix.pba := s.msix.pba.filter (· ≠ v) }.refreshInta

theorem resignal_shows (s : State) (v : Nat) : Shows s (s.resignal v) := by
  unfold resignal
  split
  · exact s.signal_shows v
  · exact (shows_of_pba s _).trans (refreshInta_shows _)

theorem resignal_get (s : State) (v : Nat) (f : Fld) : (s.resignal v).get f = s.get f := by
  unfold resignal
  split
  · exact signal_get s v f
  · exact refreshInta_get _ f

/-- The W1C flags of the register at `a` that the word `v` clears. -/
def flagsHit (s : State) (a v : Nat) : List Fld :=
  ((fieldsAt a).filter (·.acc = .w1c)).filter fun f => f.of v ≠ 0 && s.get f ≠ 0

theorem mem_flagsHit {a v : Nat} {f : Fld} : f ∈ s.flagsHit a v ↔ f ∈ fieldsAt a ∧ f.acc = .w1c ∧ f.of v ≠ 0 ∧ s.get f ≠ 0 := by
  simp only [flagsHit, List.mem_filter, decide_eq_true_eq, Bool.and_eq_true, and_assoc]

theorem clearIrq_eq (s : State) (a v : Nat) :
    s.clearIrq a v = (((s.flagsHit a v).map vecOf).dedup).foldl resignal ((s.flagsHit a v).foldl (fun s g => s.put g 0) s) := rfl

/-- A clear moves registers and what follows them. -/
theorem clearIrq_shows (s : State) (a v : Nat) : Shows s (s.clearIrq a v) := by
  rw [clearIrq_eq]
  exact (foldl_shows _ (fun u f => put_shows u f 0) _ s).trans (foldl_shows _ resignal_shows _ _)

theorem clearIrq_get (s : State) (a v : Nat) (f : Fld) : (s.clearIrq a v).get f = ((s.flagsHit a v).foldl (fun s g => s.put g 0) s).get f := by
  rw [clearIrq_eq]
  exact foldl_get (fun u x => resignal_get u x f) _ _

/-- A W1C flag under a 1 reads 0 after a clear, every other field of the register as before. -/
theorem clearIrq_get_of_mem {a v : Nat} {f : Fld} (hkeys : ((fieldsAt a).map Fld.key).Nodup) (hd : ∀ g ∈ fieldsAt a, g.default = 0)
    (hf : f ∈ fieldsAt a) (hw : f.of v ≠ 0 → f.acc = .w1c) (s : State) :
    (s.clearIrq a v).get f = if f.of v ≠ 0 then 0 else s.get f := by
  have key : f.key ∈ (s.flagsHit a v).map Fld.key ↔ f ∈ s.flagsHit a v := by
    refine ⟨fun h => ?_, List.mem_map_of_mem⟩
    obtain ⟨g, hg, e⟩ := List.mem_map.mp h
    rwa [← List.inj_on_of_nodup_map hkeys (mem_flagsHit.mp hg).1 hf e]
  rw [clearIrq_get, foldl_put_zero_get (hd f hf) (fun g hg => hd g (mem_flagsHit.mp hg).1)]
  simp only [key, mem_flagsHit]
  by_cases ho : f.of v = 0
  · simp [ho]
  · by_cases hg : s.get f = 0 <;> simp [ho, hf, hw ho, hg]

/-- The fields of SCHD_IRQ are plain flags in places of their own, 0 by default. -/
theorem schdIrq_fields : ((fieldsAt 0x30028).map Fld.key).Nodup ∧ ∀ f ∈ fieldsAt 0x30028, f.default = 0 ∧ f.plainFlag = true := by
  decide +kernel

/-! Counter clears. -/

/-- A clear of the SCHD counters takes the field to its default. -/
def schdCleared (f : Fld) : Bool :=
  sameSpace (f.key / 32) 0x300DC && (fieldsAt (f.key / 32)).any fun g => g.key = f.key && g.acc = .cnt

/-- A clear of the SCHD counters changes the register table alone. -/
theorem clearCounters_schd (s : State) : ∃ r, s.clearCounters 0x300DC = { s with regs := r } := ⟨_, rfl⟩

theorem clearCounters_schd_get (s : State) (f : Fld) : (s.clearCounters 0x300DC).get f = if schdCleared f then f.default else s.get f := by
  have kept := lookupKey_filter f.key (fun k => !(sameSpace (k / 32) 0x300DC && (fieldsAt (k / 32)).any fun g => g.key = k && g.acc = .cnt)) s.regs
  have here : (s.clearCounters 0x300DC).get f = (if (!schdCleared f) = true then lookupKey f.key s.regs else none).getD f.default :=
    congrArg (·.getD f.default) kept
  rw [here]
  cases schdCleared f <;> rfl

/-- The counters of Table 05.9 are cleared, to 0. -/
theorem schdCleared_of_counter : ∀ f ∈ schdCounters,
    schdCleared f = true ∧ f.default = 0 ∧ f.key ≠ Reg.GLB_STAT.NFAULT.key ∧ f.key ≠ Reg.CMD_IRQ.CPL.key := by
  decide +kernel

/-! The mask of a vector. -/

/-- The entry of vector `v`, its mask removed. -/
def unmasked (s : State) (v : Nat) : List (Nat × Nat × Nat × Bool) :=
  s.msix.table.filter (·.1 ≠ v) ++ [(v, (s.msixEntry v).1, (s.msixEntry v).2.1, false)]

/-- Besides the entry only what follows moves. -/
theorem unmask_shows (s : State) (v : Nat) : Shows { s with msix.table := s.unmasked v } (s.unmask v) := by
  have sent (u : State) : Shows u (if u.vecPending v then u.signal v else u) := by
    split
    · exact u.signal_shows v
    · exact Shows.refl u
  unfold unmask
  dsimp only
  split
  · exact Shows.refl _
  · refine Shows.trans ?_ (sent _)
    split
    · exact Shows.refl _
    · exact shows_of_pba _ _

end State

section
variable {s : State}

theorem exec_irqFlagClear_awake (h : s.awake = true) (a v : Word) :
    exec (.irqFlagClear a v) s = .next (if isIrq a.toNat then s.clearIrq a.toNat v.toNat else s).settle := by
  rw [exec_irqFlagClear, execIrqFlagClear, live_awake h, done_eq]

theorem exec_blockCounterClear_awake (h : s.awake = true) (a v : Word) :
    exec (.blockCounterClear a v) s = .next (if isCntClr a.toNat && bit v.toNat 0 then s.clearCounters a.toNat else s).settle := by
  rw [exec_blockCounterClear, execBlockCounterClear, live_awake h, done_eq]

/-- A clear without bit 0 clears nothing. -/
theorem exec_blockCounterClear_of_zero (h : s.awake = true) {v : Word} (hv : bit v.toNat 0 = false) (a : Word) :
    exec (.blockCounterClear a v) s = .next s.settle := by
  rw [exec_blockCounterClear_awake h, hv, Bool.and_false]
  rfl

theorem exec_msixVectorUnmask_active (h : s.active = true) (v : Fin 64) : exec (.msixVectorUnmask v) s = .next (s.unmask v).settle := by
  rw [exec_msixVectorUnmask, execMsixVectorUnmask, liveActive_active h, done_eq]

end

/-- Settles O5: the flags are those of `clearIrq`, the counters those of `clearCounters`, the mask that of `unmask`. -/
theorem flagAndCounterClears : Obligations.FlagAndCounterClears := by
  unfold Obligations.FlagAndCounterClears
  have irq : (0x30028 : Word).toNat = 0x30028 := by decide
  have clr : (0x300DC : Word).toNat = 0x300DC := by decide
  have cleared (v : Word) {s : State} (hs : s.awake = true) (hv : bit v.toNat 0 = true) :
      exec (.blockCounterClear 0x300DC v) s = .next (s.clearCounters 0x300DC).settle := by
    rw [exec_blockCounterClear_awake hs, clr, hv]
    rfl
  refine ⟨fun v s f hs hf hw => ?_, fun v s f hs hv hf => ?_, fun v s f hs hsp hn hc => ?_, fun a v s hs hv => ?_, fun v s hs _ => ?_,
    fun a v s hs => exec_irqFlagClear_awake hs a v, fun a v s hs hv => ?_, fun v s hs => exec_msixVectorUnmask_active hs v⟩
  · obtain ⟨hkeys, hall⟩ := State.schdIrq_fields
    have moves := s.clearIrq_shows 0x30028 v.toNat
    refine ⟨(s.clearIrq 0x30028 v.toNat).settle, ?_, ?_, ?_, ?_⟩
    · rw [exec_irqFlagClear_awake hs, irq]
      rfl
    · rw [State.settle_get_of_plainFlag (hall f hf).2, State.clearIrq_get_of_mem hkeys (fun g hg => (hall g hg).1) hf hw]
    · rw [State.settle_events, moves.events]
    · rw [State.settle_img, moves.img]
  · obtain ⟨hclr, hd, hn, hc⟩ := State.schdCleared_of_counter f hf
    obtain ⟨r, hr⟩ := s.clearCounters_schd
    refine ⟨_, cleared v hs hv, ?_, ?_, ?_⟩
    · rw [State.settle_get_ne _ _ hn hc, State.clearCounters_schd_get, if_pos hclr, hd]
    · rw [State.settle_events, hr]
    · rw [State.settle_img, hr]
  · cases hv : bit v.toNat 0
    · exact ⟨_, exec_blockCounterClear_of_zero hs hv _, State.settle_get_ne _ _ hn hc⟩
    · refine ⟨_, cleared v hs hv, ?_⟩
      rw [State.settle_get_ne _ _ hn hc, State.clearCounters_schd_get, if_neg (by simp [State.schdCleared, hsp])]
  · exact exec_blockCounterClear_of_zero hs hv a
  · have moves := s.unmask_shows v
    refine ⟨_, exec_msixVectorUnmask_active hs v, ?_, ?_, ?_, ?_⟩
    · rw [State.settle_msix_table, moves.msix_table, State.unmasked]
    · rw [State.settle_events, moves.events]
    · rw [State.settle_img, moves.img]
    · rw [State.settle_cmd_slots, moves.cmd_slots]
  · rw [exec_blockCounterClear_awake hs, hv, Bool.and_true]

end Sys2Proof.Machine
end

section
/-! SUPPORT. A counter of the SCHD block that holds more than its 32 bits, as no command leaves it but the type of the state allows: the word of its
register does not show it (R171). -/

namespace Sys2Proof.Machine

/-- A word has no bit beyond those that its register does not reserve (Table 09.3). -/
theorem State.openBits_le (a : Nat) : State.openBits a ≤ 0xFFFFFFFF := by
  unfold State.openBits
  dsimp only
  split_ifs <;> omega

/-- The word of a register has 32 bits, whatever its fields hold. -/
theorem State.wordAt_le (s : State) (a : Nat) : s.wordAt a ≤ 0xFFFFFFFF :=
  Nat.and_le_left.trans (State.openBits_le a)

/-- SCHD_POLEARLY holds 2^32. -/
def State.overfullPolearly : State := { State.reset with regs := [(Reg.SCHD_POLEARLY.COUNT.key, 2 ^ 32)] }

/-- Refutes O56: the word of SCHD_POLEARLY is not its counter in a state whose register list holds 2^32 for it. -/
theorem not_schdCounters : ¬ Obligations.SchdCounters := by
  unfold Obligations.SchdCounters
  rintro ⟨-, -, reads, -⟩
  obtain ⟨-, word, -⟩ := reads Reg.SCHD_POLEARLY.COUNT 0 State.overfullPolearly (by decide)
  have count : State.overfullPolearly.get Reg.SCHD_POLEARLY.COUNT = 2 ^ 32 := by decide
  have short := State.overfullPolearly.wordAt_le Reg.SCHD_POLEARLY.COUNT.addr
  rw [word, count] at short
  exact absurd short (by decide)

end Sys2Proof.Machine
end

section
/-! SUPPORT. The tables and modes of the schedule: the mailbox of SCHD_TSEL, mode descriptors, mode requests and announcements (R163 to R170). -/

namespace Sys2Proof.Machine

section
variable {s t u : State} {fs : List Fld}

/-- An update that leaves the register table leaves what regsBut says. -/
theorem regsBut_of_regs (h : regsBut s u fs) (e : t.regs = u.regs) : regsBut s t fs := fun g hg => (State.get_congr e g).trans (h g hg)

theorem exec_schdTableLoad_awake (h : s.awake = true) (v : Word) :
    exec (.schdTableLoad v) s = .next (s.ifIdle 0x30080 (·.schdSel v.toNat)).settle := by
  rw [exec_schdTableLoad, execSchdTableLoad, live_awake h, done_eq]

/-- A load and a store are the same write: WR in its word tells them apart (Table 05.8). -/
theorem exec_schdTableStore_eq (v : Word) (s : State) : exec (.schdTableStore v) s = exec (.schdTableLoad v) s := rfl

theorem exec_schdModedescWrite_awake (h : s.awake = true) (m : Fin 8) (v : Word) :
    exec (.schdModedescWrite m v) s = .next (s.writeModeDesc m v.toNat).settle := by
  rw [exec_schdModedescWrite, execSchdModedescWrite, live_awake h, done_eq]

theorem exec_schdModereqGo_awake (h : s.awake = true) (v : Word) : exec (.schdModereqGo v) s = .next (s.writeModeReq v.toNat).settle := by
  rw [exec_schdModereqGo, execSchdModereqGo, live_awake h, done_eq]

theorem exec_modeann_some (h : s.awake = true) {f : Bytes} (hp : s.popNotice 0x50 = some (f, u)) :
    exec .modeann s = .next (u.takeModeAnn f).settle := by
  rw [exec_modeann, execModeann, live_awake h, done_eq, hp]

theorem exec_modeann_none (h : s.awake = true) (hp : s.popNotice 0x50 = none) : exec .modeann s = .next s.settle := by
  rw [exec_modeann, execModeann, live_awake h, done_eq, hp]

end

namespace State

variable {s : State} {v : Nat}

/-! The mailbox. -/

/-- The fields of SCHD_TSEL hold their bits of the word `v`. -/
def selected (s : State) (v : Nat) : State :=
  ((s.put Reg.SCHD_TSEL.TAB (Reg.SCHD_TSEL.TAB.of v)).put Reg.SCHD_TSEL.WR (Reg.SCHD_TSEL.WR.of v)).put Reg.SCHD_TSEL.INDEX (Reg.SCHD_TSEL.INDEX.of v)

theorem selected_tab (s : State) (v : Nat) : (s.selected v).get Reg.SCHD_TSEL.TAB = Reg.SCHD_TSEL.TAB.of v := by
  rw [selected, get_put_ne _ _ _ _ (by decide), get_put_ne _ _ _ _ (by decide), get_put_self]
  exact Nat.mod_mod _ _

theorem selected_wr (s : State) (v : Nat) : (s.selected v).get Reg.SCHD_TSEL.WR = Reg.SCHD_TSEL.WR.of v := by
  rw [selected, get_put_ne _ _ _ _ (by decide), get_put_self]
  exact Nat.mod_mod _ _

theorem selected_index (s : State) (v : Nat) : (s.selected v).get Reg.SCHD_TSEL.INDEX = Reg.SCHD_TSEL.INDEX.of v := by
  rw [selected, get_put_self]
  exact Nat.mod_mod _ _

theorem selected_regsBut {fs : List Fld} (h : [Reg.SCHD_TSEL.TAB, Reg.SCHD_TSEL.WR, Reg.SCHD_TSEL.INDEX] ⊆ fs) (s : State) (v : Nat) :
    regsBut s (s.selected v) fs :=
  regsBut_put (regsBut_put (regsBut_put (regsBut_of_get fun _ => rfl) (h (by simp)) _) (h (by simp)) _) (h (by simp)) _

/-- A selection changes the register table alone. -/
theorem selected_frame (s : State) (v : Nat) : ∃ r, s.selected v = { s with regs := r } := ⟨_, rfl⟩

theorem putTd_frame (s : State) (b : Bytes) : ∃ r, s.putTd b = { s with regs := r } := ⟨_, rfl⟩

theorem putTd_regsBut {fs : List Fld} (hs : [Reg.SCHD_TD0.DATA, Reg.SCHD_TD1.DATA, Reg.SCHD_TD2.DATA, Reg.SCHD_TD3.DATA] ⊆ fs) {u : State}
    (h : regsBut s u fs) (b : Bytes) : regsBut s (u.putTd b) fs :=
  regsBut_put (regsBut_put (regsBut_put (regsBut_put h (hs (by simp)) _) (hs (by simp)) _) (hs (by simp)) _) (hs (by simp)) _

/-- The four words that the mailbox shows. -/
theorem putTd_get (s : State) (b : Bytes) :
    (s.putTd b).get Reg.SCHD_TD0.DATA = fieldAt b 0 4 % 2 ^ 32 ∧ (s.putTd b).get Reg.SCHD_TD1.DATA = fieldAt b 4 4 % 2 ^ 32
      ∧ (s.putTd b).get Reg.SCHD_TD2.DATA = fieldAt b 8 4 % 2 ^ 32 ∧ (s.putTd b).get Reg.SCHD_TD3.DATA = fieldAt b 12 4 % 2 ^ 32 := by
  simp (disch := decide) only [putTd, get_put_ne, get_put_self, and_self]

section
variable (hw : Reg.SCHD_TSEL.WR.of v = 0) (ht : Reg.SCHD_TSEL.TAB.of v = 1)
include hw ht

/-- A load of a subscription entry shows its 16 bytes (R169). -/
theorem schdSel_of_load_subs (s : State) :
    s.schdSel v = ((s.selected v).putTd (s.subEntry (Reg.SCHD_TSEL.INDEX.of v))).put Reg.SCHD_TSTAT.VALID 1 := by
  have flag : (s.selected v).flag Reg.SCHD_TSEL.WR = false := by rw [State.flag, selected_wr, hw]; rfl
  have tab := (selected_tab s v).trans ht
  have index := selected_index s v
  unfold selected at flag tab index
  unfold schdSel
  simp only [flag, tab, index]
  rfl

/-- What a load of a subscription entry shows. -/
theorem schdSel_load_subs_get (s : State) {e : Bytes}
    (he : e = s.subEntry (Reg.SCHD_TSEL.INDEX.of v)) :
    let t := (s.schdSel v).settle
    t.get Reg.SCHD_TSTAT.VALID = 1 ∧ t.get Reg.SCHD_TD0.DATA = fieldAt e 0 4 % 2 ^ 32 ∧ t.get Reg.SCHD_TD1.DATA = fieldAt e 4 4 % 2 ^ 32
      ∧ t.get Reg.SCHD_TD2.DATA = fieldAt e 8 4 % 2 ^ 32 ∧ t.get Reg.SCHD_TD3.DATA = fieldAt e 12 4 % 2 ^ 32 := by
  obtain ⟨d0, d1, d2, d3⟩ := (s.selected v).putTd_get e
  dsimp only
  rw [schdSel_of_load_subs hw ht, ← he]
  simp (disch := decide) only [settle_get_ne, get_put_ne, get_put_self, d0, d1, d2, d3, and_self, and_true]
  rfl

/-- A load of a subscription entry changes the register table alone, and there the mailbox. -/
theorem schdSel_load_subs_frame (s : State) :
    ∃ r, s.schdSel v = { s with regs := r } := by
  obtain ⟨r, hr⟩ := s.selected_frame v
  obtain ⟨r', hr'⟩ := (s.selected v).putTd_frame (s.subEntry (Reg.SCHD_TSEL.INDEX.of v))
  rw [schdSel_of_load_subs hw ht, hr', hr]
  exact ⟨_, rfl⟩

theorem schdSel_load_subs_regsBut (s : State) :
    regsBut s (s.schdSel v) [Reg.SCHD_TSEL.TAB, Reg.SCHD_TSEL.WR, Reg.SCHD_TSEL.INDEX, Reg.SCHD_TSTAT.VALID, Reg.SCHD_TD0.DATA, Reg.SCHD_TD1.DATA,
      Reg.SCHD_TD2.DATA, Reg.SCHD_TD3.DATA] := by
  rw [schdSel_of_load_subs hw ht]
  exact regsBut_put (putTd_regsBut (by simp) (selected_regsBut (by simp) s v) _) (by simp) 1

end

section
variable (hw : Reg.SCHD_TSEL.WR.of v = 1) (ht : Reg.SCHD_TSEL.TAB.of v = 0) (hi : Reg.SCHD_TSEL.INDEX.of v < 64) (hr : s.cycRun = true)
include hw ht hi hr

/-- A store of a publication entry while cycles run waits for the next boundary (R170). -/
theorem schdSel_of_store_pubs :
    s.schdSel v = { ((s.selected v).put Reg.SCHD_TSTAT.VALID 0).dirtyCfg with
      sched.pubsNext := s.sched.pubsNext.filter (·.1 ≠ Reg.SCHD_TSEL.INDEX.of v) ++ [(Reg.SCHD_TSEL.INDEX.of v, s.tdBytes)] } := by
  have flag : (s.selected v).flag Reg.SCHD_TSEL.WR = true := by rw [State.flag, selected_wr, hw]; rfl
  have tab := (selected_tab s v).trans ht
  have index := selected_index s v
  have data : ((s.selected v).put Reg.SCHD_TSTAT.VALID 0).tdBytes = s.tdBytes := by
    simp (disch := decide) only [tdBytes, selected, get_put_ne]
  unfold selected at flag tab index data
  unfold schdSel
  simp only [flag, tab, index, data, if_neg (Nat.not_le.mpr hi)]
  simp [hr, selected, dirtyCfg]

/-- A store of a publication entry while cycles run changes the register table and the entries that wait. -/
theorem schdSel_store_pubs_frame : ∃ r, s.schdSel v = { s with
      regs := r
      sched := { s.sched with
        pubsNext := s.sched.pubsNext.filter (·.1 ≠ Reg.SCHD_TSEL.INDEX.of v) ++ [(Reg.SCHD_TSEL.INDEX.of v, s.tdBytes)] } } := by
  obtain ⟨r, hs⟩ := s.selected_frame v
  rw [schdSel_of_store_pubs hw ht hi hr, hs]
  exact ⟨_, rfl⟩

theorem schdSel_store_pubs_regsBut :
    regsBut s (s.schdSel v) [Reg.SCHD_TSEL.TAB, Reg.SCHD_TSEL.WR, Reg.SCHD_TSEL.INDEX, Reg.SCHD_TSTAT.VALID, Reg.REST_STAT.CFGDIRTY] := by
  rw [schdSel_of_store_pubs hw ht hi hr]
  refine regsBut_of_regs (u := ((s.selected v).put Reg.SCHD_TSTAT.VALID 0).dirtyCfg) ?_ rfl
  exact regsBut_put (regsBut_put (selected_regsBut (by simp) s v) (by simp) 0) (by simp) 1

theorem schdSel_store_pubs_valid : (s.schdSel v).settle.get Reg.SCHD_TSTAT.VALID = 0 := by
  rw [settle_get_ne _ _ (by decide) (by decide), schdSel_of_store_pubs hw ht hi hr]
  exact (get_put_ne _ Reg.REST_STAT.CFGDIRTY Reg.SCHD_TSTAT.VALID 1 (by decide)).trans (get_put_self _ _ 0)

end

/-! Mode descriptors (R163, R168). -/

/-- The descriptor of a mode in force or pending is not written. -/
theorem writeModeDesc_of_used {m : Nat}
    (h : s.modeNow = m ∨ (s.flag Reg.SCHD_STAT.PENDV = true ∧ s.get Reg.SCHD_STAT.PENDMODE = m)) (v : Nat) :
    s.writeModeDesc m v = s.put Reg.SCHD_STAT.WIGN 1 := by
  unfold writeModeDesc
  exact if_pos (by simpa using h)

theorem writeModeDesc_of_free {m : Nat} (hm : s.modeNow ≠ m)
    (hp : s.flag Reg.SCHD_STAT.PENDV = false ∨ s.get Reg.SCHD_STAT.PENDMODE ≠ m) (v : Nat) :
    s.writeModeDesc m v = if m = 0 then s else s.storeWord (Reg.SCHD_MODEDESC.WRULE.ix m).addr v := by
  unfold writeModeDesc
  refine if_neg ?_
  rcases hp with hp | hp <;> simp [hm, hp]

/-- The fields of SCHD_MODEDESC are RW. -/
theorem rwFieldAt_modedesc : ∀ m : Fin 8, ∀ f ∈ [Reg.SCHD_MODEDESC.WRULE, Reg.SCHD_MODEDESC.BSHIFT, Reg.SCHD_MODEDESC.TAG],
    rwFieldAt (Reg.SCHD_MODEDESC.WRULE.ix m).addr (f.ix m) = true ∧ (f.ix m).key ≠ Reg.GLB_STAT.NFAULT.key
      ∧ (f.ix m).key ≠ Reg.CMD_IRQ.CPL.key := by
  decide +kernel

theorem settle_storeWord_modedesc {m : Fin 8} {f : Fld} (hf : f ∈ [Reg.SCHD_MODEDESC.WRULE, Reg.SCHD_MODEDESC.BSHIFT, Reg.SCHD_MODEDESC.TAG])
    (s : State) (v : Nat) : (s.storeWord (Reg.SCHD_MODEDESC.WRULE.ix m).addr v).settle.get (f.ix m) = f.of v := by
  obtain ⟨hrw, hn, hc⟩ := rwFieldAt_modedesc m f hf
  rw [settle_get_ne _ _ hn hc, storeWord_get_of_rw hrw]
  rfl

/-! Mode requests (R165). -/

theorem fieldsAt_modereq : fieldsAt 0x30024 = [Reg.SCHD_MODEREQ.GO, Reg.SCHD_MODEREQ.MRSTAT, Reg.SCHD_MODEREQ.MODE] := by
  decide +kernel

/-- Of SCHD_MODEREQ a write stores MODE; besides, the flags CFGDIRTY and NFAULT may change. -/
theorem storeWord_modereq_get {g : Fld} (hn : g.key ≠ Reg.GLB_STAT.NFAULT.key) (hd : g.key ≠ Reg.REST_STAT.CFGDIRTY.key) (s : State) (v : Nat) :
    (s.storeWord 0x30024 v).get g = (s.put Reg.SCHD_MODEREQ.MODE (Reg.SCHD_MODEREQ.MODE.of v)).get g := by
  have taken : s.rwgChanges 0x30024 v = false := by rw [rwgChanges, fieldsAt_modereq]; rfl
  rw [storeWord_get_of_taken (by rw [taken, Bool.and_false]) hn hd, fieldsAt_modereq]
  rfl

theorem storeWord_modereq_mode (s : State) (v : Nat) :
    (s.storeWord 0x30024 v).get Reg.SCHD_MODEREQ.MODE = Reg.SCHD_MODEREQ.MODE.of v := by
  rw [storeWord_modereq_get (by decide) (by decide), get_put_self]
  exact Nat.mod_mod _ _

theorem storeWord_modereq_mrstat (s : State) (v : Nat) :
    (s.storeWord 0x30024 v).get Reg.SCHD_MODEREQ.MRSTAT = s.get Reg.SCHD_MODEREQ.MRSTAT := by
  rw [storeWord_modereq_get (by decide) (by decide), get_put_ne _ _ _ _ (by decide)]

/-- A write of SCHD_MODEREQ does not move the leader. -/
theorem storeWord_modereq_isLeader (s : State) (v : Nat) : (s.storeWord 0x30024 v).isLeader = s.isLeader := by
  have stands {g : Fld} (h : g ∈ [Reg.TWIN_STAT.TWON, Reg.TWIN_CLAIM.VALUE, Reg.INAU_POS.POS]) : (s.storeWord 0x30024 v).get g = s.get g := by
    obtain ⟨hn, hd, hm⟩ : g.key ≠ Reg.GLB_STAT.NFAULT.key ∧ g.key ≠ Reg.REST_STAT.CFGDIRTY.key ∧ g.key ≠ Reg.SCHD_MODEREQ.MODE.key := by
      revert g; decide
    rw [storeWord_modereq_get hn hd, get_put_ne _ _ _ _ hm]
  unfold isLeader holdsClaim twinOn State.flag pos roster
  rw [storeWord_inau, stands (by simp), stands (by simp), stands (by simp)]

theorem writeModeReq_of_idle (h : bit v 31 = false ∨ s.get Reg.SCHD_MODEREQ.MRSTAT = 1) :
    s.writeModeReq v = s.storeWord 0x30024 v := by
  unfold writeModeReq
  refine if_pos ?_
  rw [storeWord_modereq_mrstat]
  rcases h with h | h <;> simp [h]

theorem completeOp_of_no_slot (h : s.cmd.slots = []) (op status info : Nat) : s.completeOp op status info = s := by
  simp [completeOp, h]

/-- A request at a node that is not the leader is refused; no MODEREQ command waits for it. -/
theorem writeModeReq_of_follower (hb : bit v 31 = true) (hr : s.get Reg.SCHD_MODEREQ.MRSTAT ≠ 1) (hl : s.isLeader = false) (hs : s.cmd.slots = []) :
    s.writeModeReq v = ((s.storeWord 0x30024 v).put Reg.SCHD_MODEREQ.MRSTAT 3).raise Reg.SCHD_IRQ.MODEREF := by
  have slots : (((s.storeWord 0x30024 v).put Reg.SCHD_MODEREQ.MRSTAT 3).raise Reg.SCHD_IRQ.MODEREF).cmd.slots = [] := by
    rw [raise_cmd_slots, put_cmd, storeWord_cmd_slots, hs]
  unfold writeModeReq
  simp only [storeWord_modereq_mrstat, storeWord_modereq_isLeader, hb, hr, hl, completeOp_of_no_slot slots]
  simp

/-- A request at the leader begins with the announcement. -/
theorem writeModeReq_of_leader (hb : bit v 31 = true) (hr : s.get Reg.SCHD_MODEREQ.MRSTAT ≠ 1) (hl : s.isLeader = true) {u : State}
    (hu : u = (s.storeWord 0x30024 v).put Reg.SCHD_MODEREQ.MRSTAT 1) :
    s.writeModeReq v = ({ u with sched := { u.sched with reqMode := Reg.SCHD_MODEREQ.MODE.of v, reqRounds := 0, reqAnn := 1 } } : State).announceMode
      (Reg.SCHD_MODEREQ.MODE.of v) := by
  have mode : u.get Reg.SCHD_MODEREQ.MODE = Reg.SCHD_MODEREQ.MODE.of v := by
    rw [hu, get_put_ne _ _ _ _ (by decide), storeWord_modereq_mode]
  unfold writeModeReq
  simp only [storeWord_modereq_mrstat, storeWord_modereq_isLeader, hb, hr, hl, ← hu, mode]
  simp

/-! Announcements (R166). -/

theorem takeModeAnn_of_match {f p : Bytes} (hp : p = pkParams (wrPacket (payload f))) (hl : (s.roster.any fun r => r.leader = hSrc f) = true)
    (hm : byteAt p 0 ≤ 7) (hg : fieldAt p 2 2 = s.gen) (hd : fieldAt p 4 4 = s.modeDesc (byteAt p 0)) :
    s.takeModeAnn f = s.setPendMode (byteAt p 0) := by
  subst hp
  unfold takeModeAnn
  exact if_pos (by simp only [hl, hm, hg, hd, Bool.true_or, decide_true, Bool.and_self])

theorem takeModeAnn_of_mismatch {f p : Bytes} (hp : p = pkParams (wrPacket (payload f)))
    (h : 7 < byteAt p 0 ∨ fieldAt p 2 2 ≠ s.gen ∨ fieldAt p 4 4 ≠ s.modeDesc (byteAt p 0)) :
    s.takeModeAnn f = (s.raise Reg.SCHD_IRQ.MODEREF).record 0x0307 := by
  subst hp
  unfold takeModeAnn
  refine if_neg ?_
  rcases h with h | h | h
  · simp [Nat.not_le.mpr h]
  · simp [h]
  · simp [h]

/-- What becomes pending with an announcement; nothing else changes. -/
theorem setPendMode_frame (s : State) (m : Nat) : ∃ r, s.setPendMode m = { s with regs := r, sched.annCyc := s.cyc } := ⟨_, rfl⟩

theorem setPendMode_regsBut (s : State) (m : Nat) : regsBut s (s.setPendMode m) [Reg.SCHD_STAT.PENDV, Reg.SCHD_STAT.PENDMODE] :=
  regsBut_of_regs (regsBut_put (regsBut_put (regsBut_of_get fun _ => rfl) (by simp) 1) (by simp) m) rfl

theorem settle_setPendMode_get {m : Nat} (hm : m ≤ 7) (s : State) :
    (s.setPendMode m).settle.flag Reg.SCHD_STAT.PENDV = true ∧ (s.setPendMode m).settle.get Reg.SCHD_STAT.PENDMODE = m := by
  have get (f : Fld) : (s.setPendMode m).get f = ((s.put Reg.SCHD_STAT.PENDV 1).put Reg.SCHD_STAT.PENDMODE m).get f := get_congr rfl f
  rw [State.flag]
  simp (disch := decide) only [settle_get_ne, get, get_put_ne, get_put_self]
  exact ⟨rfl, Nat.mod_eq_of_lt (Nat.lt_succ_of_le hm)⟩

end State

/-- Settles O16: writes of SCHD_TSEL are `schdSel`, of a mode descriptor `writeModeDesc`, of SCHD_MODEREQ `writeModeReq`; an announcement is
`takeModeAnn`. -/
theorem ttTables : Obligations.TtTables := by
  unfold Obligations.TtTables
  have idle {s : State} (hb : s.flag Reg.SCHD_TSTAT.BUSY = false) (v : Nat) : s.ifIdle 0x30080 (·.schdSel v) = s.schdSel v :=
    if_neg (ne_true_of_eq_false hb)
  refine ⟨?_, ?_, ?_, ?_, ?_, ?_, ?_, ?_, ?_, ?_, ?_, ?_⟩
  · intro v s hs hb hw ht
    obtain ⟨r, hr⟩ := s.schdSel_load_subs_frame hw ht
    obtain ⟨valid, d0, d1, d2, d3⟩ := s.schdSel_load_subs_get hw ht rfl
    refine ⟨_, (exec_schdTableLoad_awake hs v).trans (by rw [idle hb]), valid, d0, d1, d2, d3, ?_, ?_,
      regsBut_settle (s.schdSel_load_subs_regsBut hw ht), ?_⟩
    all_goals simp [hr, memSame]
  · intro v s hs hb hw ht hi hc
    obtain ⟨r, hr⟩ := State.schdSel_store_pubs_frame hw ht hi hc
    refine ⟨_, (exec_schdTableStore_eq v s).trans ((exec_schdTableLoad_awake hs v).trans (by rw [idle hb])),
      State.schdSel_store_pubs_valid hw ht hi hc, ?_, ?_, regsBut_settle (State.schdSel_store_pubs_regsBut hw ht hi hc), ?_⟩
    · rw [State.settle_sched, hr]
    · rw [State.settle_events, hr]
    · simp [hr, memSame]
  · intro m v s hs h
    refine ⟨_, exec_schdModedescWrite_awake hs m v, ?_⟩
    rw [State.writeModeDesc_of_used h]
    refine ⟨?_, by simp, regsBut_settle (regsBut_put (regsBut_of_get fun _ => rfl) (by simp) 1), by simp [memSame]⟩
    rw [State.flag, State.settle_get_of_plainFlag (by decide), State.get_put_self]
    rfl
  · intro m v s hs hm h0 hp
    refine ⟨_, exec_schdModedescWrite_awake hs m v, ?_⟩
    rw [State.writeModeDesc_of_free hm hp, if_neg (Fin.val_ne_zero_iff.mpr h0)]
    exact ⟨State.settle_storeWord_modedesc (by simp) s _, State.settle_storeWord_modedesc (by simp) s _,
      State.settle_storeWord_modedesc (by simp) s _, by simp, by simp⟩
  · intro v s hs hb hr hl hc
    refine ⟨_, exec_schdModereqGo_awake hs v, ?_⟩
    rw [State.writeModeReq_of_follower hb hr hl hc]
    refine ⟨?_, ?_, ?_, by simp, by simp [memSame]⟩
    · rw [State.settle_get_ne _ _ (by decide) (by decide), State.raise_get_ne _ _ _ (by decide), State.get_put_self]
      rfl
    · rw [State.flag, State.settle_get_of_plainFlag (by decide), State.raise_get, State.get_put_self]
      rfl
    · rw [State.settle_get_ne _ _ (by decide) (by decide), State.raise_get_ne _ _ _ (by decide), State.get_put_ne _ _ _ _ (by decide),
        State.storeWord_modereq_mode]
  · intro v m u s hs hb hr hl hm hu
    rw [exec_schdModereqGo_awake hs, State.writeModeReq_of_leader hb hr hl hu, hm]
  · intro f s' s hs hp hl hm hg hd
    refine ⟨_, exec_modeann_some hs hp, ?_⟩
    obtain ⟨r, hr⟩ := s'.setPendMode_frame (byteAt (pkParams (wrPacket (payload f))) 0)
    obtain ⟨pendv, pendmode⟩ := s'.settle_setPendMode_get hm
    rw [State.takeModeAnn_of_match rfl hl hm hg hd]
    refine ⟨pendv, pendmode, ?_, ?_, regsBut_settle (s'.setPendMode_regsBut _), ?_⟩
    · rw [State.settle_sched, hr]
    · rw [State.settle_events, hr]
    · simp [hr, memSame]
  · intro v s hs
    refine ⟨exec_schdTableLoad_awake hs v, rfl, fun h => ?_⟩
    rw [exec_schdModereqGo_awake hs, State.writeModeReq_of_idle h]
  · intro v s hs hm hp
    rw [exec_schdModedescWrite_awake hs, State.writeModeDesc_of_free (m := ((0 : Fin 8) : Nat)) hm hp]
    rfl
  · intro f u s hs hp
    exact exec_modeann_some hs hp
  · intro f p u s hs hp hf h
    refine ⟨_, exec_modeann_some hs hp, ?_⟩
    rw [State.takeModeAnn_of_mismatch hf h]
    refine ⟨?_, by simp [newest, State.record], by simp, regsBut_settle ?_, by simp [memSame]⟩
    · rw [State.flag, State.settle_get_of_plainFlag (by decide), State.record_get, State.raise_get, State.get_put_self]
      rfl
    · exact regsBut_of_regs (regsBut_raise (regsBut_of_get fun _ => rfl) (by simp)) rfl
  · intro s hs hp
    exact exec_modeann_none hs hp

end Sys2Proof.Machine
end

section
/-! SUPPORT. The commit instant of a cycle leaves the instant and the cycle as they are: the forms of `OnBeat` for evaluation, completions, the twin
link and the engine. Functions in the order of the model. -/

namespace Sys2Proof.Machine

/-- `t` is `s` but for what evaluation moves: the process image, the banks, the tasks, the mirror's blocks and the count of free values. -/
def Evaluates (s t : State) : Prop := t = { s with free := t.free, img := t.img, twin := t.twin, eng := t.eng, prg := t.prg }

namespace Evaluates

variable {s t : State}

theorem refl (s : State) : Evaluates s s := rfl

theorem upd (h : Evaluates s t) {f : Nat} {i : ImgS} {w : TwinS} {e : EngS} {p : PrgS} :
    Evaluates s { t with free := f, img := i, twin := w, eng := e, prg := p } := by
  unfold Evaluates at h ⊢
  exact congrArg (fun u : State => { u with free := f, img := i, twin := w, eng := e, prg := p }) h

theorem ite {u : State} {c : Prop} [Decidable c] (hu : Evaluates s u) (ht : Evaluates s t) : Evaluates s (if c then u else t) := by
  split <;> assumption

theorem foldl {α : Type} {f : State → α → State} {l : List α} (h : Evaluates s t)
    (hf : ∀ {u : State} {x : α}, Evaluates s u → Evaluates s (f u x)) : Evaluates s (l.foldl f t) :=
  List.foldlRecOn l f h fun _ hu _ _ => hf hu

theorem markDirty {r o n : Nat} (h : Evaluates s t) : Evaluates s (t.markDirty r o n) := .ite h h.upd
theorem onBank {n : Nat} {f : BankS → BankS} (h : Evaluates s t) : Evaluates s (t.onBank n f) := .ite h.upd h.upd
theorem onTask {n : Nat} {f : TaskS → TaskS} (h : Evaluates s t) : Evaluates s (t.onTask n f) := h.upd

theorem evalBlocks {b : Bytes} {n : Nat} {is : List (Nat × Inst)} (h : Evaluates s t) : Evaluates s (t.evalBlocks b n is) := by
  unfold State.evalBlocks
  exact .onTask (.foldl h.upd.onBank fun h => h.markDirty)

theorem progress (h : Evaluates s t) : Evaluates s t.progress := by
  unfold State.progress
  split
  · exact .ite h (Evaluates.evalBlocks h.upd)
  · exact h

/-- A delivery evaluates up to here and writes the process image. -/
theorem deliverImg {o : Nat} {bs : Bytes} (h : Evaluates s t) : Evaluates s (t.deliverImg o bs) :=
  .ite h.upd (.ite (.markDirty (.ite h.progress.upd.markDirty h.progress.upd)) (.ite h.progress.upd.markDirty h.progress.upd))

theorem clearSub {e : Bytes} (h : Evaluates s t) : Evaluates s (t.clearSub e) := .ite h h.deliverImg

theorem now (h : Evaluates s t) : t.now = s.now := congrArg (·.now) h
theorem regs (h : Evaluates s t) : t.regs = s.regs := congrArg (·.regs) h
theorem sched (h : Evaluates s t) : t.sched = s.sched := congrArg (·.sched) h

end Evaluates

namespace OnBeat

variable {b : Nat × Nat × Nat × Nat} {s : State}

/-! Machine/Ops.lean, Fabric.lean, Ports.lean -/

/-- An instant that does not lie ahead is reached already. -/
theorem reach {t : Nat} (h : OnBeat b s) (ht : t ≤ s.now) : OnBeat b (s.reach t) := by
  have stands : s.reach t = s := by unfold State.reach; rw [max_eq_left ht]
  rwa [stands]

theorem markDirty {r o n : Nat} (h : OnBeat b s) : OnBeat b (s.markDirty r o n) := .ite h h.upd
theorem onTask {n : Nat} {f : TaskS → TaskS} (h : OnBeat b s) : OnBeat b (s.onTask n f) := h.upd

theorem progress (h : OnBeat b s) : OnBeat b s.progress := by
  have evaluates : Evaluates s s.progress := (Evaluates.refl s).progress
  rw [evaluates]
  exact h.upd

theorem hostPut {a : Nat} {d : Bytes} (h : OnBeat b s) : OnBeat b (s.hostPut a d) := .foldl h fun h => h.emit

/-! Machine/Interlock.lean -/

theorem pacePending (h : OnBeat b s) : OnBeat b s.pacePending := .ite h.upd.put h
theorem endAct {a : Act} (h : OnBeat b s) : OnBeat b (s.endAct a) := h.upd.put.pacePending

/-! Machine/Rounds.lean: the twin link -/

theorem twinEmit {t k : Nat} {pl : Bytes} (h : OnBeat b s) : OnBeat b (s.twinEmit t k pl) := .emit (.upd (.ite h.bump.upd h))

theorem twinPump {k : Nat} (h : OnBeat b s) : OnBeat b (s.twinPump k) := by
  induction k generalizing s with
  | zero => exact h
  | succ k ih =>
    unfold State.twinPump
    split
    · exact h
    · exact .ite h (ih h.upd.twinEmit)

theorem twinRun (h : OnBeat b s) : OnBeat b s.twinRun := h.twinPump
theorem twinSend {k : Nat} {pl : Bytes} (h : OnBeat b s) : OnBeat b (s.twinSend k pl) := .ite h.twinRun.twinEmit h.twinRun.upd

/-! Machine/Remote.lean: completions -/

theorem refreshOpen (h : OnBeat b s) : OnBeat b s.refreshOpen := h.put
theorem sendOut {x : RemoteOut} (h : OnBeat b s) : OnBeat b (s.sendOut x) := .ite h.stackMsg (.ite h.upd.refreshOpen h.sendNow)

theorem writeCompletion {sidx addr tag status op info : Nat} {result : Bytes} (h : OnBeat b s) :
    OnBeat b (s.writeCompletion sidx addr tag status op info result) := by
  unfold State.writeCompletion
  extract_lets +onlyGivenNames _ _ _ _ _ _ _ _ t
  have ht : OnBeat b t := .ite h.hostPut.hostPut.put.upd h.hostPut.hostPut.put
  exact .ite ht.upd.raise ht.upd

theorem dropKey {n : Nat} (h : OnBeat b s) : OnBeat b (s.dropKey n) := .ite h.endAct h

theorem complete {n status info : Nat} {result : Bytes} (h : OnBeat b s) : OnBeat b (s.complete n status info result) := by
  unfold State.complete
  split
  · exact h
  · extract_lets +onlyGivenNames _ _ _ t
    have ht : OnBeat b t := .ite h.upd.dropKey.refreshOpen.bump h.upd.dropKey.refreshOpen
    split
    · exact .ite ht.upd.refreshOpen ht.writeCompletion
    · exact .ite ht.sendOut ht
    · exact ht.stackMsg

theorem completeOp {op status info : Nat} (h : OnBeat b s) : OnBeat b (s.completeOp op status info) := .foldl h fun h => h.complete

/-! Machine/Program.lean, Engine.lean -/

theorem endOp {r : Nat} (h : OnBeat b s) : OnBeat b (s.endOp r) := (OnBeat.raise (OnBeat.put h.put)).completeOp
theorem cancelSwap {r : Nat} (h : OnBeat b s) : OnBeat b (s.cancelSwap r) := .ite (.endOp (.raise (.record (.put h.put.put.upd)))) h
theorem haltTasks (h : OnBeat b s) : OnBeat b s.haltTasks := .put h.progress.upd
theorem engineFault {c : Nat} (h : OnBeat b s) : OnBeat b (s.engineFault c) := h.haltTasks.cancelSwap.put.put.record.raise

theorem overrun {n : Nat} (h : OnBeat b s) : OnBeat b (s.overrun n) :=
  .ite h.bump.put.record.raise.onTask.record.engineFault h.bump.put.record.raise.onTask

/-- A commit drops what is read ahead, and T of the master stands. -/
theorem commit {n : Nat} (h : OnBeat b s) : OnBeat b (s.commit n) := by
  unfold State.commit
  extract_lets +onlyGivenNames _ _ _ _ _ _ _ _ _ t
  have ht : OnBeat b t := .markDirty h
  exact ht.put.onTask

theorem commitTask {n : Nat} (h : OnBeat b s) : OnBeat b (s.commitTask n) :=
  .ite h (.ite h.onTask.onTask (.ite h.onTask.overrun h.onTask.commit))

theorem sendMir {no k : Nat} {bs : List Bytes} (h : OnBeat b s) : OnBeat b (s.sendMir no k bs) := by
  induction k generalizing s bs with
  | zero => exact h
  | succ k ih => exact .ite h (ih h.twinSend)

theorem openMirror (h : OnBeat b s) : OnBeat b s.openMirror :=
  .ite h (.ite h.twinRun (.twinSend (.sendMir (.upd (.ite h.twinRun.markDirty.markDirty.markDirty.markDirty.upd h.twinRun)))))

/-- The commit instant, where it does not lie ahead. -/
theorem commitPoint (h : OnBeat b s) (ht : s.bnd + ns s.commitNs ≤ s.now) : OnBeat b s.commitPoint :=
  .ite h (.openMirror (.foldl (h.reach ht).progress.upd fun h => h.commitTask))

end OnBeat

namespace State

/-- A commit instant taken before `t` does not move an instant that is at `t` or behind it. -/
theorem commitBy_now {t : Nat} (s : State) (ht : t ≤ s.now) : (s.commitBy t).now = s.now := by
  unfold commitBy
  split
  next h => exact congrArg Prod.fst (OnBeat.commitPoint (b := s.beat) rfl (h.trans ht))
  next => rfl

end State

end Sys2Proof.Machine
end

section
/-! SUPPORT. The guardian point, the own window and the ages of a cycle (R146, R147, R154, R162, R166). -/

namespace Sys2Proof.Machine

section
variable {s : State} (hs : s.awake = true)
include hs

theorem exec_subscriptionMaxageExpiry_awake (i : Nat) : exec (.subscriptionMaxageExpiry i) s =
    .next (if subEn (s.subEntry i) && (s.subStat i).resolved && ((s.subStat i).state = 0 || (s.subStat i).state = 1)
      && (subAge (s.subEntry i) : Int) ≤ sdiff32 s.cyc (s.subStat i).base then s.goStale i else s).settle := by
  rw [exec_subscriptionMaxageExpiry, execSubscriptionMaxageExpiry, live_awake hs, done_eq]

theorem exec_pendingModeLapse_awake : exec .pendingModeLapse s = .next (if s.flag Reg.SCHD_STAT.PENDV && 8 ≤ sdiff32 s.cyc s.sched.annCyc then
    (s.put Reg.SCHD_STAT.PENDV 0).put Reg.SCHD_STAT.PENDMODE 0 else s).settle := by
  rw [exec_pendingModeLapse, execPendingModeLapse, live_awake hs, done_eq]

end

namespace State

variable {s : State}

/-! A subscription that becomes STALE (R162). -/

/-- A status other than that of a fresh entry is held as set. -/
theorem subStat_setStat {t : SubStat} (ht : t ≠ {}) (s : State) (i : Nat) : (s.setStat i t).subStat i = t := by
  simp [subStat, setStat, ht]

theorem setStat_get {f : Fld} (h : f.key ≠ Reg.SCHD_TSTAT.VALID.key) (s : State) (i : Nat) (t : SubStat) : (s.setStat i t).get f = s.get f := by
  unfold setStat
  dsimp only
  split
  · exact (get_congr rfl f).trans (get_put_ne s _ f 0 h)
  · exact get_congr rfl f

theorem subStat_congr {u t : State} (h : t.sched = u.sched) (i : Nat) : t.subStat i = u.subStat i := by rw [subStat, subStat, h]

theorem bump_get_self {f : Fld} (hw : f.width = 32) (s : State) : (s.bump f).get f = min (s.get f + 1) 0xFFFFFFFF := by
  rw [bump, bumpBy, get_put_self, hw]
  exact Nat.mod_eq_of_lt (by omega)

theorem goStale_subStat (s : State) (i : Nat) : ((s.goStale i).subStat i).state = 2 := by
  have stale : ({ s.subStat i with state := 2 } : SubStat) ≠ {} := fun e => absurd (congrArg SubStat.state e) (Nat.succ_ne_zero 1)
  have status : (s.goStale i).subStat i = { s.subStat i with state := 2 } := by
    refine (subStat_congr (Evaluates.refl _).clearSub.sched i).trans ?_
    rw [subStat_congr (raise_sched _ _)]
    exact subStat_setStat stale s i
  rw [status]

theorem goStale_get (s : State) (i : Nat) : (s.goStale i).get Reg.SCHD_SUBSTALE.COUNT = min (s.get Reg.SCHD_SUBSTALE.COUNT + 1) 0xFFFFFFFF
    ∧ (s.goStale i).get Reg.SCHD_IRQ.SUBSTALE = 1 := by
  have regs (u : State) (e : Bytes) (f : Fld) : (u.clearSub e).get f = u.get f := get_congr (Evaluates.refl u).clearSub.regs f
  unfold goStale
  dsimp only
  constructor
  · rw [regs, raise_get_ne _ _ _ (by decide), bump_get_self rfl, setStat_get (by decide)]
  · rw [regs, raise_get, get_put_self]
    rfl

/-! The guardian's decision (R154, R155). -/

/-- The decision: a condition of R154 holds, or fewer than two cycles have been clear. -/
def guardSilent (s : State) : Bool := (s.guardHit.1 || s.guardHit.2.1 || s.guardHit.2.2) || s.sched.clear < 2

/-- The decision as SCHD_STAT shows it. -/
def guardJudged (s : State) : State :=
  let hit := s.guardHit.1 || s.guardHit.2.1 || s.guardHit.2.2
  let u : State := { s with sched := { s.sched with dirty := s.sched.dirty || hit, clear := if hit then 0 else s.sched.clear } }
  ((u.putB Reg.SCHD_STAT.OOP s.guardHit.1).putB Reg.SCHD_STAT.MARGIN s.guardHit.2.1).putB Reg.SCHD_STAT.SILENT s.guardSilent

/-- A silent window is counted. -/
def guardCounted (s : State) : State := if s.guardSilent then s.guardJudged.bump Reg.SCHD_SILENT.COUNT else s.guardJudged

/-- Where the decision turns, it is signalled and recorded. -/
theorem guardian_snd (s : State) : s.guardian.2 =
    if s.guardSilent && !s.flag Reg.SCHD_STAT.SILENT then (s.guardCounted.raise Reg.SCHD_IRQ.SILENT).record 0x0302
    else if !s.guardSilent && s.flag Reg.SCHD_STAT.SILENT then (s.guardCounted.raise Reg.SCHD_IRQ.SILENT).record 0x0303 else s.guardCounted := rfl

theorem guardian_fst (s : State) : s.guardian.1 = s.guardSilent := rfl

theorem guardian_get_of_counted {f : Fld} (h : f.key ≠ Reg.SCHD_IRQ.SILENT.key) (s : State) : s.guardian.2.get f = s.guardCounted.get f := by
  rw [guardian_snd]
  split_ifs
  · rw [record_get, raise_get_ne _ _ _ h]
  · rw [record_get, raise_get_ne _ _ _ h]
  · rfl

theorem guardJudged_get_ne {f : Fld} (h : f.key ∉ [Reg.SCHD_STAT.OOP, Reg.SCHD_STAT.MARGIN, Reg.SCHD_STAT.SILENT].map Fld.key) (s : State) :
    s.guardJudged.get f = s.get f := by
  simp only [List.map_cons, List.map_nil, List.mem_cons, List.not_mem_nil, or_false, not_or] at h
  obtain ⟨ho, hm, hs⟩ := h
  unfold guardJudged putB
  rw [get_put_ne _ _ _ _ hs, get_put_ne _ _ _ _ hm, get_put_ne _ _ _ _ ho]
  rfl

/-- Fields beside those of the decision stand. -/
theorem guardian_get_ne {f : Fld} (h : f.key ∉ [Reg.SCHD_STAT.OOP, Reg.SCHD_STAT.MARGIN, Reg.SCHD_STAT.SILENT].map Fld.key)
    (hc : f.key ≠ Reg.SCHD_SILENT.COUNT.key) (hi : f.key ≠ Reg.SCHD_IRQ.SILENT.key) (s : State) : s.guardian.2.get f = s.get f := by
  rw [guardian_get_of_counted hi, guardCounted]
  split
  · exact (get_put_ne _ _ _ _ hc).trans (guardJudged_get_ne h s)
  · exact guardJudged_get_ne h s

/-- A silent window shows in SCHD_STAT and in SCHD_SILENT. -/
theorem guardian_get_of_silent (h : s.guardian.1 = true) :
    s.guardian.2.get Reg.SCHD_STAT.SILENT = 1 ∧ s.guardian.2.get Reg.SCHD_SILENT.COUNT = min (s.get Reg.SCHD_SILENT.COUNT + 1) 0xFFFFFFFF := by
  rw [guardian_fst] at h
  rw [guardian_get_of_counted (by decide), guardian_get_of_counted (by decide), guardCounted, if_pos h]
  constructor
  · refine (get_put_ne _ _ _ _ (by decide)).trans ?_
    rw [guardJudged, putB, get_put_self, h]
    rfl
  · rw [bump_get_self rfl, guardJudged_get_ne (by decide)]

/-- The decision leaves lanes, the instant, the process image and the publications. -/
theorem guardian_leaves (s : State) : s.guardian.2.lanes = s.lanes ∧ s.guardian.2.now = s.now ∧ s.guardian.2.img = s.img
    ∧ s.guardian.2.sched.pubs = s.sched.pubs := by
  have counted : s.guardCounted.lanes = s.lanes ∧ s.guardCounted.now = s.now ∧ s.guardCounted.img = s.img
      ∧ s.guardCounted.sched.pubs = s.sched.pubs := by
    unfold guardCounted
    split <;> exact ⟨rfl, rfl, rfl, rfl⟩
  rw [guardian_snd]
  split_ifs <;> simpa using counted

theorem guardian_holdsClaim (s : State) : s.guardian.2.holdsClaim = s.holdsClaim := by
  unfold holdsClaim twinOn State.flag
  rw [guardian_get_ne (by decide) (by decide) (by decide), guardian_get_ne (by decide) (by decide) (by decide)]

/-- What is due at the guardian point of cycle `k` and roster `r`. -/
def captured (s : State) (fwd : Bool) (k : Nat) (r : Roster) : List Captured :=
  if s.holdsClaim then s.sched.pubs.filterMap fun e =>
    if pubDue e.2 k r.mode && pubInSweep e.2 fwd r.loop then some ⟨e.1, e.2, natBe 4 k ++ s.img.read (pubSrc e.2) (pubLen e.2), 0⟩ else none
  else []

theorem guardian_captured (s : State) (fwd : Bool) (k : Nat) (r : Roster) : s.guardian.2.captured fwd k r = s.captured fwd k r := by
  obtain ⟨-, -, img, pubs⟩ := s.guardian_leaves
  unfold captured
  rw [guardian_holdsClaim, img, pubs]

/-- The state with the decision and the captured frames of a sweep. -/
def withCapture (s : State) (fwd silent : Bool) (caps : List Captured) (k : Nat) : State :=
  if fwd then { s with sched := { s.sched with silF := silent, capF := caps, cycF := k } }
  else { s with sched := { s.sched with silR := silent, capR := caps, cycR := k } }

/-- A capture changes the scheduler's state alone. -/
theorem withCapture_frame (s : State) (fwd silent : Bool) (caps : List Captured) (k : Nat) :
    ∃ c, s.withCapture fwd silent caps k = { s with sched := c } := by
  cases fwd <;> exact ⟨_, rfl⟩

theorem withCapture_sweep (s : State) (fwd silent : Bool) (caps : List Captured) (k : Nat) :
    (if fwd then (s.withCapture fwd silent caps k).sched.silF else (s.withCapture fwd silent caps k).sched.silR) = silent
      ∧ (if fwd then (s.withCapture fwd silent caps k).sched.cycF else (s.withCapture fwd silent caps k).sched.cycR) = k := by
  cases fwd <;> exact ⟨rfl, rfl⟩

/-- Time at the guardian point: a commit before it and the evaluation up to it do not move it. -/
theorem guardPoint_now (s : State) (q : Nat) : ((s.reach q).commitBy q).progress.now = max s.now q := by
  rw [(Evaluates.refl _).progress.now, commitBy_now _ (le_max_right s.now q)]
  rfl

end State

section
variable {s : State} (hs : s.awake = true)
include hs

/-- The guardian point `q` of the window `w` in cycle `k`. -/
theorem exec_guardianPoint_some {fwd : Bool} {q k : Nat} {r : Roster} {w : Win} {u : State} (hg : s.nextGuard fwd = some (q, k, r, w))
    (hu : u = ((s.reach q).commitBy q).progress) : exec (.guardianPoint fwd) s =
      .next (if u.guardian.1 then u.guardian.2.withCapture fwd u.guardian.1 (u.captured fwd k r) k
        else (u.guardian.2.withCapture fwd u.guardian.1 (u.captured fwd k r) k).passRelays fwd w k).settle := by
  rw [exec_guardianPoint, execGuardianPoint, live_awake hs, done_eq, hg, hu, ← State.guardian_captured]
  rfl

theorem exec_guardianPoint_none {fwd : Bool} (hg : s.nextGuard fwd = none) : exec (.guardianPoint fwd) s = .next s.settle := by
  rw [exec_guardianPoint, execGuardianPoint, live_awake hs, done_eq, hg]

end

namespace State

variable {s : State}

/-! The own window (R147). -/

/-- The capture of a sweep is gone. -/
def dropCapture (s : State) (fwd : Bool) : State := if fwd then { s with sched.capF := [] } else { s with sched.capR := [] }

/-- What the guardian point of another cycle captured is not sent. -/
def dropStale (s : State) (fwd : Bool) : State :=
  if (if fwd then s.sched.cycF else s.sched.cycR) = s.cyc then s else s.dropCapture fwd

/-- A re-phase places t_b before the window, which opens at `o` (R123). -/
def pastRephase (s : State) (o : Nat) : Bool :=
  s.inau.rephase && s.inau.place.any fun (p : Int × Nat × Nat) => p.1 < (s.bnd + ns o : Int)

/-- What a window sends as it opens, where nothing keeps it `shut`. -/
def sentInWindow (s : State) (fwd shut : Bool) (w : Win) : State :=
  if shut then s else if s.holdsClaim then s.sendWindow fwd w else if s.partnerPresent then s.sendRelays fwd w else s

/-- What a stale capture leaves differs in the scheduler's state alone, and frames of stack members still wait. -/
theorem dropStale_frame (s : State) (fwd : Bool) : ∃ c, s.dropStale fwd = { s with sched := c } ∧ c.stackQ = s.sched.stackQ := by
  by_cases h : (if fwd then s.sched.cycF else s.sched.cycR) = s.cyc
  · exact ⟨s.sched, if_pos h, rfl⟩
  · rw [dropStale, if_neg h]
    cases fwd <;> exact ⟨_, rfl, rfl⟩

/-- Without frames of stack members that wait, only the list that names them is written. -/
theorem dropMemberFrames_of_none (h : s.sched.stackQ = []) (fwd : Bool) : s.dropMemberFrames fwd = s := by
  have same : ({ s with sched.stackQ := [] } : State) = s := by rw [← h]
  simp [dropMemberFrames, h, same]

/-- A silent window changes time and the scheduler's state alone. -/
theorem silentWindow_frame (h : s.sched.stackQ = []) (fwd : Bool) (o : Nat) :
    ∃ c, ((((s.reach o).dropStale fwd).dropMemberFrames fwd).dropCapture fwd) = { s with now := max s.now o, sched := c }
      ∧ (if fwd then c.capF else c.capR) = [] := by
  obtain ⟨c, hc, hq⟩ := (s.reach o).dropStale_frame fwd
  have none : ((s.reach o).dropStale fwd).sched.stackQ = [] := by rw [hc]; exact hq.trans h
  rw [dropMemberFrames_of_none none, hc]
  cases fwd <;> exact ⟨_, rfl, rfl⟩

end State

section
variable {s : State} (hs : s.awake = true)
include hs

/-- The own window `w` opens `o` ns after the boundary. -/
theorem exec_ownWindowOpen_some {fwd : Bool} {w : Win} {o : Nat} {v : State} (hw : s.ownWin = some w) (hr : s.cycRun = true) (hd : w.d ≠ 0)
    (ho : o = if fwd then w.oF else w.oR) (hv : v = (s.reach (s.bnd + ns o)).dropStale fwd) : exec (.ownWindowOpen fwd) s =
      .next (((v.sentInWindow fwd ((if fwd then s.sched.silF else s.sched.silR) || s.pastRephase o) w).dropMemberFrames fwd).dropCapture
        fwd).settle := by
  obtain ⟨c, hc, -⟩ := (s.reach (s.bnd + ns o)).dropStale_frame fwd
  have past : v.pastRephase o = s.pastRephase o := by rw [hv, hc]; rfl
  rw [exec_ownWindowOpen, execOwnWindowOpen, live_awake hs, done_eq, hw, ← past, hv, ho]
  dsimp only
  rw [if_neg (by simp [hr, hd])]
  rfl

theorem exec_ownWindowOpen_none {fwd : Bool} (h : s.cycRun = false ∨ (s.ownWin.all fun w => w.d = 0) = true) :
    exec (.ownWindowOpen fwd) s = .next s.settle := by
  rw [exec_ownWindowOpen, execOwnWindowOpen, live_awake hs, done_eq]
  cases hw : s.ownWin with
  | none => rfl
  | some w =>
    have shut : (!s.cycRun || w.d = 0) = true := by
      rcases h with h | h
      · simp [h]
      · simpa [hw] using Or.inr h
    dsimp only
    rw [if_pos shut]

end

/-- Settles O15: the guardian point is `guardian` and the capture, the window `sendWindow` or `sendRelays`, the age `goStale`. -/
theorem ttCycle : Obligations.TtCycle := by
  unfold Obligations.TtCycle
  refine ⟨?_, ?_, ?_, ?_, ?_, ?_, ?_, fun i s hs => exec_subscriptionMaxageExpiry_awake hs i, ?_⟩
  · intro fwd q k r w u s hs hg hu hsil
    obtain ⟨silent, count⟩ := State.guardian_get_of_silent hsil
    obtain ⟨lanes, now, -, -⟩ := u.guardian_leaves
    obtain ⟨c, hc⟩ := u.guardian.2.withCapture_frame fwd u.guardian.1 (u.captured fwd k r) k
    obtain ⟨sil, cyc⟩ := u.guardian.2.withCapture_sweep fwd u.guardian.1 (u.captured fwd k r) k
    refine ⟨_, (exec_guardianPoint_some hs hg hu).trans (by rw [if_pos hsil]), ?_, ?_, ?_, ?_, ?_, ?_⟩
    · rw [State.settle_sched, sil, hsil]
    · rw [State.settle_sched, cyc]
    · rw [State.flag, State.settle_get_of_plainFlag (by decide), hc]
      exact congrArg (· != 0) silent
    · rw [State.settle_get_ne _ _ (by decide) (by decide), hc]
      exact count
    · rw [State.settle_lanes, hc, lanes]
    · rw [State.settle_now, hc, now, hu, State.guardPoint_now]
  · intro fwd q k r w caps u v s hs hg hu hsil hcaps hv
    rw [exec_guardianPoint_some hs hg hu, hsil, hcaps, hv]
    cases fwd <;> rfl
  · intro fwd w s hs hw hr hd hsil hq
    obtain ⟨c, hc, cap⟩ := State.silentWindow_frame hq fwd (s.bnd + ns (if fwd then w.oF else w.oR))
    refine ⟨_, (exec_ownWindowOpen_some hs hw hr hd rfl rfl).trans (by rw [hsil, Bool.true_or, State.sentInWindow, if_pos rfl, hc]), ?_⟩
    refine ⟨by rw [State.settle_sched]; exact cap, by simp, by simp, by simp, by simp, regsBut_settle (regsBut_of_get fun f => ?_),
      by simp [memSame]⟩
    exact State.get_congr rfl f
  · intro fwd w o u v x s hs hw hr hd ho hu hv hx
    subst hu hx
    rw [exec_ownWindowOpen_some hs hw hr hd ho hv]
    cases fwd <;> rfl
  · intro i s hs hen hres hst hage
    obtain ⟨count, flag⟩ := s.goStale_get i
    refine ⟨(s.goStale i).settle, ?_, ?_, ?_, ?_⟩
    · rw [exec_subscriptionMaxageExpiry_awake hs, if_pos (by simpa [hen, hres, hage] using hst)]
    · rw [State.subStat_congr (State.settle_sched _), State.goStale_subStat]
    · rw [State.settle_get_ne _ _ (by decide) (by decide), count]
    · rw [State.flag, State.settle_get_of_plainFlag (by decide), flag]
      rfl
  · intro s hs hp hage
    refine ⟨_, (exec_pendingModeLapse_awake hs).trans (by rw [if_pos (by simp [hp, hage])]), ?_, ?_, by simp, regsBut_settle ?_,
      by simp [memSame]⟩
    · rw [State.flag, State.settle_get_of_plainFlag (by decide), State.get_put_ne _ _ _ _ (by decide), State.get_put_self]
      rfl
    · rw [State.settle_get_ne _ _ (by decide) (by decide), State.get_put_self]
      rfl
    · exact regsBut_put (regsBut_put (regsBut_of_get fun _ => rfl) (by simp) 0) (by simp) 0
  · intro fwd s hs
    exact ⟨exec_guardianPoint_none hs, exec_ownWindowOpen_none hs⟩
  · intro s hs h
    rw [exec_pendingModeLapse_awake hs, if_neg (ne_true_of_eq_false h)]

end Sys2Proof.Machine
end

section
/-! SUPPORT. The path delay of a lane: its PDREQ and PDRSP frames, the sample that a PDRSP gives, and SYNC_CTRL.WCLR (R173 to R177, R189). -/

namespace Sys2Proof.Machine

section
variable {s : State} (hs : s.awake = true)
include hs

theorem exec_pdreqReceived_awake (n : Lane) (f : Bytes) (ago : Nat) (st : Bool) : exec (.pdreqReceived n f ago st) s =
    .next (s.pdFrame n f 0x13 fun s pl => s.originate (s.inauFrame 0x14 (pl.take 2
        ++ natBe 1 ((if st then 0x80 else 0) + (if s.flag (Reg.SYNC_PD.MEAS.ix n) then 0x40 else 0)) ++ [0] ++ natBe 6 0
        ++ natBe 4 (if s.flag (Reg.SYNC_PD.MEAS.ix n) then s.get (Reg.SYNC_PD.PD.ix n) else 0) ++ [0, 0]))
      [n.val] true 11 fun x => { x with patch := if st then .turn (s.now - ago) else .none }).settle := by
  rw [exec_pdreqReceived, execPdreqReceived, live_awake hs, done_eq]

theorem exec_pdrspReceived_awake (n : Lane) (f : Bytes) (ago : Nat) : exec (.pdrspReceived n f ago) s =
    .next (s.pdFrame n f 0x14 fun s pl => s.takePdrsp n pl (s.now - ago)).settle := by
  rw [exec_pdrspReceived, execPdrspReceived, live_awake hs, done_eq]

theorem exec_syncWorstClear_awake (v : Word) : exec (.syncWorstClear v) s =
    .next (if bit v.toNat 2 then (s.storeWord Reg.SYNC_CTRL.EN.addr v.toNat).put Reg.SYNC_WORST.PEAK 0
      else s.storeWord Reg.SYNC_CTRL.EN.addr v.toNat).settle := by
  rw [exec_syncWorstClear, execSyncWorstClear, live_awake hs, done_eq]

/-- The timer of a lane that is up has come to `q`: a PDREQ goes out and the next is due (R173, R175). -/
theorem exec_pdreqSendTimer_due {n : Lane} {q : Nat} {u : State} (hq : (s.lane n).pdAt = some q) (hl : s.laneUp n = true)
    (hu : u = (s.reach q).onLane n fun l => { l with
      pdAt := some (max s.now q + if !s.flag (Reg.SYNC_PD.MEAS.ix n) || (s.lane n).reform then us 20 else ms 1)
      pseq := (l.pseq + 1) % 65536
      t1 := none }) :
    exec (.pdreqSendTimer n) s = .next (u.originate (u.inauFrame 0x13 (natBe 2 (s.lane n).pseq ++ List.replicate 14 0)) [n.val]).settle := by
  subst hu
  rw [exec_pdreqSendTimer, execPdreqSendTimer, live_awake hs, done_eq, hq]
  simp only [hl]
  rfl

theorem exec_pdreqSendTimer_idle {n : Lane} (h : (s.lane n).pdAt = none ∨ s.laneUp n = false) :
    exec (.pdreqSendTimer n) s = .next s.settle := by
  rw [exec_pdreqSendTimer, execPdreqSendTimer, live_awake hs, done_eq]
  rcases h with h | h
  · rw [h]
  · cases (s.lane n).pdAt with
    | none => rfl
    | some q => simp only [h]; rfl

end

namespace State

variable {s : State} {n type : Nat} {f : Bytes} {take_ : State → Bytes → State}

/-! The frame that ends on a lane (R174). -/

/-- A good frame of the type, on a lane that is up. -/
theorem pdFrame_of_good (hu : s.laneUp n = true) (hc : headerCheck f = .ok) (hm : hCls f = .mgmt) (ht : hType f = type) :
    s.pdFrame n f type take_ = if hLen f ≠ 16 then s.bump Reg.SYNC_PDREJ.COUNT else take_ s (payload f) :=
  if_pos (by simp [hu, hc, hm, ht])

theorem pdFrame_of_other (h : s.laneUp n = false ∨ headerCheck f ≠ .ok ∨ hCls f ≠ .mgmt ∨ hType f ≠ type) :
    s.pdFrame n f type take_ = s :=
  if_neg (by rcases h with h | h | h | h <;> simp [h])

/-! The sample of a PDRSP (R176). -/

/-- A PDRSP without the peer's estimate, that carries a turn time and answers the PDREQ sent at `t1`, gives one sample where half the
difference lies within the bounds. -/
theorem takePdrsp_of_sample {pl : Bytes} {t1 t4 : Nat} {pd : Int} (hv : bit (byteAt pl 2) 6 = false) (ht : bit (byteAt pl 2) 7 = true)
    (h1 : (s.lane n).t1 = some t1) (hq : fieldAt pl 0 2 = ((s.lane n).pseq + 65535) % 65536) (hd : signed 48 (fieldAt pl 4 6) ≤ us 50)
    (hpd : pd = tdivI (((t4 : Int) - t1) - signed 48 (fieldAt pl 4 6)) 2) (hlo : -32 ≤ pd) (hhi : pd ≤ 80000) :
    s.takePdrsp n pl t4 = (s.onLane n fun l => { l with t1 := none }).takeSample n (max pd 0) := by
  have bounded : ¬ (pd < -32 ∨ 80000 < pd) := by omega
  have timely : ¬ (us 50 : Int) < signed 48 (fieldAt pl 4 6) := not_lt.mpr hd
  subst hpd
  simp [takePdrsp, hv, ht, h1, hq, timely, bounded]

/-! SYNC_CTRL (R189). -/

/-- The fields of SYNC_CTRL that hold what is written are RW. -/
theorem rwFieldAt_syncCtrl : ∀ f ∈ [Reg.SYNC_CTRL.EN, Reg.SYNC_CTRL.RATEHOLD], rwFieldAt 0x40000 f = true ∧ f.key ≠ Reg.SYNC_WORST.PEAK.key
    ∧ f.key ≠ Reg.GLB_STAT.NFAULT.key ∧ f.key ≠ Reg.CMD_IRQ.CPL.key := by
  decide +kernel

theorem settle_worstClear_get {f : Fld} (hf : f ∈ [Reg.SYNC_CTRL.EN, Reg.SYNC_CTRL.RATEHOLD]) (s : State) (v : Nat) :
    ((s.storeWord 0x40000 v).put Reg.SYNC_WORST.PEAK 0).settle.get f = f.of v := by
  obtain ⟨hrw, hp, hn, hc⟩ := rwFieldAt_syncCtrl f hf
  rw [settle_get_ne _ _ hn hc, get_put_ne _ _ _ _ hp, storeWord_get_of_rw hrw]

theorem settle_worstClear_last (s : State) (v : Nat) :
    ((s.storeWord 0x40000 v).put Reg.SYNC_WORST.PEAK 0).settle.get Reg.SYNC_WORST.LAST = s.get Reg.SYNC_WORST.LAST := by
  rw [settle_get_ne _ _ (by decide) (by decide), get_put_ne _ _ _ _ (by decide),
    storeWord_get_ne _ _ _ _ (by decide +kernel) (by decide) (by decide) (by rintro _ ⟨⟩; decide)]

end State

/-- Settles O17: a frame that ends on the lane is `pdFrame`, which takes a PDREQ with `originate` and a PDRSP with `takePdrsp`. -/
theorem delayMeasurement : Obligations.DelayMeasurement := by
  unfold Obligations.DelayMeasurement
  refine ⟨?_, ?_, ?_, ?_, ?_, ?_, ?_, ?_, ?_⟩
  · intro n q u s hs hq hl hu
    exact exec_pdreqSendTimer_due hs hq hl hu
  · intro n f ago st m s hs hu hc hm ht hl he
    rw [exec_pdreqReceived_awake hs, State.pdFrame_of_good hu hc hm ht, if_neg (not_not.mpr hl), he]
  · intro n f ago st s hs hu hc hm ht hl
    refine ⟨_, exec_pdreqReceived_awake hs n f ago st, ?_⟩
    rw [State.pdFrame_of_good hu hc hm ht, if_pos hl]
    refine ⟨?_, by simp, by simp, regsBut_settle (regsBut_put (regsBut_refl s _) (by simp) _), by simp [memSame]⟩
    rw [State.settle_get_ne _ _ (by decide) (by decide), State.bump_get_self rfl]
  · intro n f ago t1 s hs hu hc hm ht hl hv hb h1 hq hd hlo hhi
    rw [exec_pdrspReceived_awake hs, State.pdFrame_of_good hu hc hm ht, if_neg (not_not.mpr hl),
      State.takePdrsp_of_sample hv hb h1 hq hd rfl hlo hhi]
  · intro v s hs hb
    refine ⟨_, exec_syncWorstClear_awake hs v, ?_⟩
    rw [if_pos hb]
    refine ⟨?_, State.settle_worstClear_get (by simp) s _, State.settle_worstClear_get (by simp) s _, State.settle_worstClear_last s _,
      by simp, by simp [memSame]⟩
    rw [State.settle_get_ne _ _ (by decide) (by decide), State.get_put_self]
    rfl
  · intro n f ago s hs hu hc hm ht
    rw [exec_pdrspReceived_awake hs, State.pdFrame_of_good hu hc hm ht]
  · intro n f ago st s hs h
    rw [exec_pdreqReceived_awake hs, exec_pdrspReceived_awake hs, State.pdFrame_of_other, State.pdFrame_of_other]
    · exact ⟨rfl, rfl⟩
    · exact h.imp_right (.imp_right (.imp_right And.right))
    · exact h.imp_right (.imp_right (.imp_right And.left))
  · intro n s hs h
    exact exec_pdreqSendTimer_idle hs h
  · intro v s hs hb
    rw [exec_syncWorstClear_awake hs, if_neg (ne_true_of_eq_false hb)]

end Sys2Proof.Machine
end

section
/-! SUPPORT. IEEE 1588 messages whose majorSdoId is not 0, as those of IEEE 802.1AS, which Table 07.4 does not support (R212): a consist port
discards them whatever their type. -/

namespace Sys2Proof.Machine

/-- The first octet of a message carries majorSdoId above its type. -/
theorem State.takePtp_of_majorSdoId {m : Bytes} (h : 16 ≤ byteAt m 0) (s : State) (p ago : Nat) : s.takePtp p m ago = s :=
  if_pos (by simp [h])

section
variable {s : State} {m : Bytes} (hs : s.active = true) (h : 16 ≤ byteAt m 0)
include hs h

theorem exec_ptpMessageReceived_majorSdoId (p : Port) (ago : Nat) : exec (.ptpMessageReceived p m ago) s = .next s.settle := by
  rw [exec_ptpMessageReceived, execPtpMessageReceived, liveActive_active hs, done_eq, State.takePtp_of_majorSdoId h]

theorem exec_ptpSyncReceived_majorSdoId (p : Port) (ago : Nat) : exec (.ptpSyncReceived p ⟨m, none⟩ ago) s = .next s.settle := by
  rw [exec_ptpSyncReceived, execPtpSyncReceived, liveActive_active hs, done_eq]
  simp only [State.takePtp_of_majorSdoId h, ite_self]

end

/-- A message of 44 bytes with majorSdoId 1, as a station of IEEE 802.1AS sends it: port 1 of the clock 5, one-step. -/
def sdoMessage (type : Byte) : Bytes :=
  [0x10 ||| type, 2, 0, 44] ++ List.replicate 16 0 ++ natBe 8 5 ++ natBe 2 1 ++ List.replicate 14 0

/-- IEEE 1588 runs on port C0, whose link is up. -/
def State.ptpRuns : State :=
  (State.reset.put (Reg.TIME_PTP.PEN.ix 0) 1).put (Reg.CONS_STAT.LINK.at 0) 1

/-- The roster of a node alone, which is its own time reference. -/
def soleHeld : Held :=
  { roster := { tiUid := 1, tiLin := 1, gen := 1, sticky := false, loop := false, mode := 0, leader := 1, timeref := 1, loophead := 0,
                cycle := 4, guard_ := 100, nexcl := 0, entries := [⟨7, 1, 1, 0, 100⟩] }
    nb1 := none, nb2 := none, sum := 0, leadConf := false, leadNotAdm := false, joining := false, anchor := 0, inW := true, m := 1,
    collided := false, tiChanged := false, coldStart := false }

/-- The node is the time reference; its source is PTP at C0, where it follows port 1 of the clock 5, to which it knows the path delay. -/
def State.ptpReference : State :=
  let source := (State.ptpRuns.put Reg.TIME_REF.SRC 2).put Reg.INAU_POS.POS 1
  let held : State := { source with inau.force := some soleHeld, time.map := some (5, 0), time.noonSeen := true }
  held.onPtp 0 fun t => { t with
    parent := some (ptpIdent (sdoMessage 0)), masters := [⟨ptpIdent (sdoMessage 0), 0, true, [0, 0]⟩], delay := some 3 }

/-- Refutes O18: a Sync from the master followed, one-step and of the node's domain, gives no offset where its majorSdoId is not 0. -/
theorem not_trainTime : ¬ Obligations.TrainTime := by
  unfold Obligations.TrainTime
  rintro ⟨-, -, -, -, -, sync, -⟩
  obtain ⟨t, next, time, -⟩ := sync 0 (sdoMessage 0) 0 3 _ _ State.ptpReference (by decide +kernel) (by decide +kernel) (by decide)
    (by decide +kernel) (by decide) (by decide) (by decide) (by decide) (by decide +kernel) (by decide +kernel) (by decide +kernel)
    (by decide +kernel) (by decide +kernel) rfl rfl (by decide +kernel) (by decide +kernel)
  rw [exec_ptpSyncReceived_majorSdoId (by decide +kernel) (by decide)] at next
  cases next
  have offsets := congrArg TimeS.offsets time
  rw [State.settle_time] at offsets
  exact absurd offsets (List.cons_ne_nil _ _).symm

/-- The Delay_Resp of port `p` to the Delay_Req `m` that has come now, as O19 writes it out. -/
def State.delayResp (s : State) (p : Nat) (m : Bytes) : Bytes :=
  s.ptpMsg p 9 0 (fieldAt m 8 8) (ptpSeq m) (s.logSync p) (ptpStamp (s.presentedAt s.now - ns (s.pcor p).1) ++ ptpPort m)

/-- A Delay_Resp that C0 sends in that state waits in its transmit queue, with an 802.1Q tag or without. -/
theorem State.delayResp_ptpRuns_waits :
    (State.ptpRuns.ptpSend 0 (State.ptpRuns.delayResp 0 (sdoMessage 1))).ports ≠ State.ptpRuns.ports := by
  unfold State.ptpSend State.ptpWrap State.ptpTag
  generalize Config.ptpTagged 0 = tagged
  cases tagged <;> decide +kernel

/-- Refutes O19: a port that is not slave does not answer a Delay_Req of its domain whose majorSdoId is not 0. -/
theorem not_timePorts : ¬ Obligations.TimePorts := by
  unfold Obligations.TimePorts
  rintro ⟨answered, -⟩
  have next := answered 0 (sdoMessage 1) 0 State.ptpRuns (by decide +kernel) (by decide +kernel) (by decide) (by decide +kernel) (by decide)
    (by decide) (by decide +kernel) (by decide +kernel)
  rw [exec_ptpMessageReceived_majorSdoId (by decide +kernel) (by decide)] at next
  injection next with settled
  have ports := congrArg State.ports settled
  rw [State.settle_ports, State.settle_ports] at ports
  exact State.delayResp_ptpRuns_waits ports.symm

end Sys2Proof.Machine
end

section
/-! SUPPORT. The rules of a consist port's state: what a port and its register fields read after each named change (chapter 09). -/

namespace Sys2Proof.Machine

/-- A register field that each consist port holds for itself. -/
def Fld.ofPort (f : Fld) : Bool := f.s1 == 0x4000 && decide (0x70000 * 32 ≤ f.key) && decide (f.key < 0x74000 * 32)

/-- Two fields of a consist port that have places of their own. -/
def Fld.portApart (f g : Fld) : Bool := f.ofPort && g.ofPort && f.key != g.key

/-- A field outside the registers of the consist ports. -/
def Fld.offPorts (f : Fld) : Bool := f.key < 0x70000 * 32 || 0x80000 * 32 ≤ f.key

theorem Fld.key_at_of_ofPort {f : Fld} (h : f.ofPort = true) (p : Port) : 0x70000 * 32 ≤ (f.at p).key ∧ (f.at p).key < 0x80000 * 32 := by
  simp only [Fld.ofPort, Bool.and_eq_true, beq_iff_eq, decide_eq_true_eq] at h
  obtain ⟨⟨hs, hlo⟩, hhi⟩ := h
  have hp := p.isLt
  rw [Fld.key_at, hs]
  omega

theorem Fld.key_at_ne_of_offPorts {f g : Fld} (hf : f.ofPort = true) (hg : g.offPorts = true) (p : Port) : (f.at p).key ≠ g.key := by
  have := Fld.key_at_of_ofPort hf p
  simp only [Fld.offPorts, Bool.or_eq_true, decide_eq_true_eq] at hg
  omega

theorem Fld.key_at_ne_of_portApart {f g : Fld} (h : f.portApart g = true) (p : Nat) : (f.at p).key ≠ (g.at p).key := by
  simp only [Fld.portApart, Fld.ofPort, Bool.and_eq_true, beq_iff_eq, bne_iff_ne] at h
  obtain ⟨⟨⟨⟨hf, -⟩, -⟩, ⟨hg, -⟩, -⟩, hne⟩ := h
  rw [Fld.key_at, Fld.key_at, hf, hg]
  omega

namespace State

variable {s : State} {p : Port} {f g : Fld}

theorem get_put_port (h : f.portApart g = true) (v : Nat) : (s.put (g.at p) v).get (f.at p) = s.get (f.at p) :=
  get_put_ne _ _ _ _ (Fld.key_at_ne_of_portApart h p)

theorem get_bump_port (h : f.portApart g = true) : (s.bump (g.at p)).get (f.at p) = s.get (f.at p) := get_put_port h _

theorem get_raise_port (h : f.portApart g = true) : (s.raise (g.at p)).get (f.at p) = s.get (f.at p) :=
  raise_get_ne _ _ _ (Fld.key_at_ne_of_portApart h p)

theorem get_settle_port (h : f.ofPort = true) : s.settle.get (f.at p) = s.get (f.at p) :=
  settle_get_ne _ _ (Fld.key_at_ne_of_offPorts h rfl p) (Fld.key_at_ne_of_offPorts h rfl p)

variable (s) (p : Nat) (h : PortS → PortS)

@[simp] theorem onPort_now : (s.onPort p h).now = s.now := rfl
@[simp] theorem onPort_events : (s.onPort p h).events = s.events := rfl
@[simp] theorem onPort_img : (s.onPort p h).img = s.img := rfl
@[simp] theorem onPort_prg : (s.onPort p h).prg = s.prg := rfl
@[simp] theorem onPort_recd : (s.onPort p h).recd = s.recd := rfl
@[simp] theorem onPort_rest : (s.onPort p h).rest = s.rest := rfl
@[simp] theorem onPort_hkp : (s.onPort p h).hkp = s.hkp := rfl
@[simp] theorem onPort_get (f : Fld) : (s.onPort p h).get f = s.get f := rfl

@[simp] theorem port_put (f : Fld) (v : Nat) : (s.put f v).port p = s.port p := rfl
@[simp] theorem port_putB (f : Fld) (b : Bool) : (s.putB f b).port p = s.port p := rfl
@[simp] theorem port_bump (f : Fld) : (s.bump f).port p = s.port p := rfl
@[simp] theorem port_record (c : Nat) (l : Bytes) : (s.record c l).port p = s.port p := rfl
@[simp] theorem port_reach (t : Nat) : (s.reach t).port p = s.port p := rfl
@[simp] theorem port_raise (f : Fld) : (s.raise f).port p = s.port p := by simp [port]
@[simp] theorem port_settle : s.settle.port p = s.port p := by simp [port]
@[simp] theorem port_onPort_self (p : Port) : (s.onPort p h).port p = h (s.port p) := by simp [port, onPort]

/-- A change that leaves what the port holds leaves the state. -/
theorem onPort_eq_self {p : Port} {h : PortS → PortS} (hp : h (s.port p) = s.port p) : s.onPort p h = s := by
  have same : s.ports.setIfInBounds p (s.port p) = s.ports := by
    ext i hi
    by_cases e : (p : Nat) = i
    · subst e; simp [port]
    · simp [Vector.getElem_setIfInBounds_ne, e]
  rw [onPort, hp, same]

end State

theorem regsBut_onPort {s t : State} {fs : List Fld} (h : regsBut s t fs) (p : Nat) (g : PortS → PortS) : regsBut s (t.onPort p g) fs := h

theorem sent_onPort {s t : State} {l : List Out} (h : sent s t l) (p : Nat) (g : PortS → PortS) : sent s (t.onPort p g) l := h

end Sys2Proof.Machine
end

section
/-! SUPPORT. A steering decision of a consist port while a preempted frame awaits its next fragment (R255, R264). -/

namespace Sys2Proof.Machine

/-- The decision in the continuation of a frame whose first fragment the latch begins with is one of that frame: the fragment that must follow is
marked in it. -/
theorem State.decideRx_of_awaited {s : State} {p : Port} {g : EthFrag} {latch : Bytes} (hg : (s.port p).frag = some g) (hr : g.rx = none)
    (he : latch.take g.early.length = g.early) (stamp : Nat) :
    ((s.decideRx p latch stamp).port p).rx.map EthRx.cont = some (some (g.frame, g.next)) := by
  simp [decideRx, hg, hr, he, openRx]

theorem exec_consistSteeringDecision_open {s : State} {p : Port} {latch : Bytes} (hs : s.active = true) (hl : s.linkUp p = true)
    (hr : (s.port p).rx = none) (hb : 64 ≤ latch.length) (ago : Nat) :
    exec (.consistSteeringDecision p latch ago) s = .next (s.decideRx p latch (s.now - ago)).settle := by
  rw [exec_consistSteeringDecision, execConsistSteeringDecision, liveActive_active hs, done_eq, if_pos (by simp [hl, hr, hb])]

/-- A first fragment of 60 bytes with its CRC: the FCS so far with its last two bytes inverted. -/
def shortFragment : Bytes :=
  let crc := fcsBytes (List.replicate 60 0)
  List.replicate 60 0 ++ crc.take 2 ++ (crc.drop 2).map fun x => x ^^^ 0xFF

/-- Port C0, whose link is up, has received that fragment of a preemptable frame. -/
def State.fragmentHeld : State := (State.reset.put (Reg.CONS_STAT.LINK.at 0) 1).endPacket 0 shortFragment false 0 (.start 0)

/-- Refutes O20: a decision while a preempted frame, whose first fragment was shorter than the latch, awaits its next one is a decision on that
frame, and `decideRx` marks in it the fragment that must follow; the statement has `openRx` there, which marks none. -/
theorem not_consistLinks : ¬ Obligations.ConsistLinks := by
  unfold Obligations.ConsistLinks
  rintro ⟨-, -, decided, -⟩
  obtain ⟨t, next, opened, -⟩ := decided 0 (List.replicate 64 0) 0 State.fragmentHeld (by decide +kernel) (by decide +kernel) (by decide +kernel)
    (by decide) (by decide +kernel)
  rw [exec_consistSteeringDecision_open (by decide +kernel) (by decide +kernel) (by decide +kernel) (by decide)] at next
  injection next with settled
  rw [← settled, State.port_settle] at opened
  have marked := State.decideRx_of_awaited (s := State.fragmentHeld) (p := 0)
    (g := { frame := 0, next := 0, early := List.replicate 60 0, rx := none, stamp := 0 }) (latch := List.replicate 64 0)
    (by decide +kernel) rfl (by decide) (State.fragmentHeld.now - 0)
  rw [opened] at marked
  exact absurd marked (by simp)

end Sys2Proof.Machine
end

section
/-! SUPPORT. What the transmitter of a consist port leaves: pause frames and frames that start move its queues, its outputs and two counters. -/

namespace Sys2Proof.Machine

/-- From `s` to `t` the transmitter of port `p` may have sent and started frames; pause, its watchdog and every other part of the node stand. -/
structure Transmits (p : Port) (s t : State) : Prop where
  frame : ∃ r o x, t = { s with regs := r, outs := o, ports := x }
  regs : regsBut s t [Reg.CONS_PAUSETX.COUNT.at p, Reg.CONS_LAUNCHLATE.COUNT.at p]
  holdAt : (t.port p).holdAt = (s.port p).holdAt
  holdFrom : (t.port p).holdFrom = (s.port p).holdFrom
  wdAt : (t.port p).wdAt = (s.port p).wdAt

namespace Transmits

variable {p : Port} {s t : State}

theorem refl (p : Port) (s : State) : Transmits p s s := ⟨⟨_, _, _, rfl⟩, regsBut_refl s _, rfl, rfl, rfl⟩

theorem ite {u : State} {c : Prop} [Decidable c] (hu : Transmits p s u) (ht : Transmits p s t) : Transmits p s (if c then u else t) := by
  split
  · exact hu
  · exact ht

theorem foldl {α : Type} {f : State → α → State} {l : List α} (h : Transmits p s t) (hf : ∀ {u x}, Transmits p s u → Transmits p s (f u x)) :
    Transmits p s (l.foldl f t) :=
  List.foldlRecOn (motive := Transmits p s) _ _ h fun _ hu _ _ => hf hu

theorem emit {x : Out} (h : Transmits p s t) : Transmits p s (t.emit x) := by
  obtain ⟨⟨r, o, x, rfl⟩, regs, holdAt, holdFrom, wdAt⟩ := h
  exact ⟨⟨_, _, _, rfl⟩, regsBut_emit regs _, holdAt, holdFrom, wdAt⟩

theorem bump {f : Fld} (h : Transmits p s t) (hf : f ∈ [Reg.CONS_PAUSETX.COUNT.at p, Reg.CONS_LAUNCHLATE.COUNT.at p]) :
    Transmits p s (t.bump f) := by
  obtain ⟨⟨r, o, x, rfl⟩, regs, holdAt, holdFrom, wdAt⟩ := h
  exact ⟨⟨_, _, _, rfl⟩, regsBut_put regs hf _, holdAt, holdFrom, wdAt⟩

theorem onPort {g : PortS → PortS} (h : Transmits p s t)
    (hg : ∀ x, (g x).holdAt = x.holdAt ∧ (g x).holdFrom = x.holdFrom ∧ (g x).wdAt = x.wdAt) : Transmits p s (t.onPort p g) := by
  obtain ⟨frame, regs, holdAt, holdFrom, wdAt⟩ := h
  obtain ⟨ga, gf, gw⟩ := hg (t.port p)
  refine ⟨?_, regsBut_onPort regs p g, ?_, ?_, ?_⟩
  · obtain ⟨r, o, x, rfl⟩ := frame
    exact ⟨_, _, _, rfl⟩
  · rw [State.port_onPort_self, ga, holdAt]
  · rw [State.port_onPort_self, gf, holdFrom]
  · rw [State.port_onPort_self, gw, wdAt]

theorem flushPause (h : Transmits p s t) : Transmits p s (t.flushPause p) :=
  .ite h (.onPort (.foldl h fun h => h.emit.bump (by simp)) fun _ => ⟨rfl, rfl, rfl⟩)

theorem startEth {it : PItem} (h : Transmits p s t) : Transmits p s (t.startEth p it) := by
  unfold State.startEth
  exact .onPort (.ite (h.bump (by simp)) h) fun _ => ⟨rfl, rfl, rfl⟩

/-- The choice of R263 to R265 starts a frame, goes on with the preempted one, preempts the one on the wire, or leaves things as they are. -/
theorem runEth (h : Transmits p s t) : Transmits p s (t.runEth p) := by
  have flushed := h.flushPause
  have resumed {b : Bool} {x : PTx} : Transmits p s (if b then (t.flushPause p).onPort p fun y => { y with txHeld := none, tx := some x }
      else t.flushPause p) := .ite (flushed.onPort fun _ => ⟨rfl, rfl, rfl⟩) flushed
  refine .ite flushed (.ite ?dimmed ?running)
  case dimmed =>
    split
    · exact .ite flushed resumed
    · exact flushed
  case running =>
    dsimp only
    split
    · split
      · exact .ite (.startEth (flushed.onPort fun _ => ⟨rfl, rfl, rfl⟩)) flushed
      · exact flushed
    · split
      · split
        · exact flushed.startEth
        · exact resumed
      · split
        · exact flushed.startEth
        · exact flushed

theorem get {f : Fld} (h : Transmits p s t) (hp : f.portApart Reg.CONS_PAUSETX.COUNT = true) (hl : f.portApart Reg.CONS_LAUNCHLATE.COUNT = true) :
    t.get (f.at p) = s.get (f.at p) := by
  have ofPort : f.ofPort = true := by
    simp only [Fld.portApart, Bool.and_eq_true] at hp
    exact hp.1.1
  refine h.regs _ ?_
  simp only [List.map_cons, List.map_nil, List.mem_cons, List.not_mem_nil, or_false, not_or]
  exact ⟨Fld.key_at_ne_of_offPorts ofPort rfl p, Fld.key_at_ne_of_offPorts ofPort rfl p, Fld.key_at_ne_of_portApart hp p,
    Fld.key_at_ne_of_portApart hl p⟩

theorem now (h : Transmits p s t) : t.now = s.now := by obtain ⟨⟨_, _, _, rfl⟩, -⟩ := h; rfl
theorem events (h : Transmits p s t) : t.events = s.events := by obtain ⟨⟨_, _, _, rfl⟩, -⟩ := h; rfl
theorem memSame (h : Transmits p s t) : memSame s t := by obtain ⟨⟨_, _, _, rfl⟩, -⟩ := h; exact ⟨rfl, rfl, rfl, rfl, rfl⟩

end Transmits

end Sys2Proof.Machine
end

section
/-! SUPPORT. Pause of the consist ports (R267 to R269). -/

namespace Sys2Proof.Machine

namespace State

variable {s : State} {p : Port}

/-! A received pause (R267). -/

/-- Reception of pause is off, or the watchdog has tripped. -/
theorem takePause_of_ignored (h : s.flag (Reg.CONS_PAUSE.RXEN.at p) = false ∨ (s.port p).wdAt.isSome = true) (v : Nat) :
    s.takePause p v = s.bump (Reg.CONS_PAUSERX.COUNT.at p) := by
  rw [flag, ← get_bump_port (p := p) (f := Reg.CONS_PAUSE.RXEN) (g := Reg.CONS_PAUSERX.COUNT) rfl, ← flag] at h
  exact if_pos (by rcases h with h | h <;> simp [h])

theorem takePause_of_honoured (hr : s.flag (Reg.CONS_PAUSE.RXEN.at p) = true) (hw : (s.port p).wdAt = none) (v : Nat) :
    s.takePause p v = if v = 0 then (s.bump (Reg.CONS_PAUSERX.COUNT.at p)).endHold p
      else ((s.bump (Reg.CONS_PAUSERX.COUNT.at p)).onPort p fun t => { t with
          holdAt := some (s.now + v * 64 * s.byteTime p), holdFrom := some (t.holdFrom.getD s.now) }).put (Reg.CONS_STAT.PAUSED.at p) 1 := by
  rw [flag, ← get_bump_port (p := p) (f := Reg.CONS_PAUSE.RXEN) (g := Reg.CONS_PAUSERX.COUNT) rfl, ← flag] at hr
  have speed : (s.bump (Reg.CONS_PAUSERX.COUNT.at p)).byteTime p = s.byteTime p := by rw [byteTime, get_bump_port rfl, byteTime]
  rw [takePause, if_neg (by simp [hr, hw]), speed]
  rfl

/-! The watchdog (R269). -/

/-- A hold from `a` on has lasted WDMS: the trip, before the hold ends. -/
def tripped (s : State) (p a : Nat) : State :=
  ((((((s.reach (a + ms (s.wdms p))).onPort p fun t => { t with wdAt := some (max s.now (a + ms (s.wdms p)) + ms (s.wdms p)) }).put
    (Reg.CONS_STAT.PWD.at p) 1).bump (Reg.CONS_PAUSEWD.COUNT.at p)).record 0x0801).raise (Reg.CONS_IRQ.PWD.at p))

theorem endHold_transmits (s : State) (p : Port) :
    Transmits p ((s.onPort p fun t => { t with holdAt := none, holdFrom := none }).put (Reg.CONS_STAT.PAUSED.at p) 0) (s.endHold p) :=
  .runEth (.refl p _)

/-- A field of the port that the end of a hold does not touch. -/
theorem endHold_get {f : Fld} (hs : f.portApart Reg.CONS_STAT.PAUSED = true) (hp : f.portApart Reg.CONS_PAUSETX.COUNT = true)
    (hl : f.portApart Reg.CONS_LAUNCHLATE.COUNT = true) : (s.endHold p).get (f.at p) = s.get (f.at p) := by
  rw [(endHold_transmits s p).get hp hl, get_put_port hs, onPort_get]

theorem endHold_paused (s : State) (p : Port) : (s.endHold p).get (Reg.CONS_STAT.PAUSED.at p) = 0 := by
  rw [(endHold_transmits s p).get rfl rfl, get_put_self, Nat.zero_mod]

theorem endHold_port (s : State) (p : Port) : ((s.endHold p).port p).holdAt = none ∧ ((s.endHold p).port p).holdFrom = none
    ∧ ((s.endHold p).port p).wdAt = (s.port p).wdAt := by
  have h := endHold_transmits s p
  rw [h.holdAt, h.holdFrom, h.wdAt]
  simp

theorem endHold_leaves (s : State) (p : Port) : (s.endHold p).now = s.now ∧ (s.endHold p).events = s.events ∧ memSame s (s.endHold p) := by
  have h := endHold_transmits s p
  exact ⟨h.now, h.events, h.memSame⟩

theorem tripped_get (a : Nat) : (s.tripped p a).get (Reg.CONS_STAT.PWD.at p) = 1
    ∧ (s.tripped p a).get (Reg.CONS_PAUSEWD.COUNT.at p) = min (s.get (Reg.CONS_PAUSEWD.COUNT.at p) + 1) 0xFFFFFFFF
    ∧ (s.tripped p a).get (Reg.CONS_IRQ.PWD.at p) = 1 := by
  refine ⟨?_, ?_, get_raise_self _ _⟩
  · rw [tripped, get_raise_port rfl, get_record, get_bump_port rfl, get_put_self]
    rfl
  · rw [tripped, get_raise_port rfl, get_record, bump_get_self rfl, get_put_port rfl, onPort_get, get_reach]

theorem tripped_leaves (a : Nat) : (s.tripped p a).now = max s.now (a + ms (s.wdms p)) ∧ newest (s.tripped p a) = some 0x0801
    ∧ ((s.tripped p a).port p).wdAt = some (max s.now (a + ms (s.wdms p)) + ms (s.wdms p)) ∧ memSame s (s.tripped p a) := by
  refine ⟨?_, ?_, ?_, ?_⟩
  · simp [tripped]
  · simp [tripped, newest, record]
  · simp [tripped]
  · simp [tripped, memSame]

end State

section
variable {s : State} {p : Port} (hs : s.active = true)
include hs

theorem exec_pauseReceived_active (v : BitVec 16) :
    exec (.pauseReceived p v) s = .next (if s.linkUp p then s.takePause p v.toNat else s).settle := by
  rw [exec_pauseReceived, execPauseReceived, liveActive_active hs, done_eq]

theorem exec_pauseHoldExpiry_due {t0 : Nat} (h : (s.port p).holdAt = some t0) :
    exec (.pauseHoldExpiry p) s = .next ((s.reach t0).endHold p).settle := by
  rw [exec_pauseHoldExpiry, execPauseHoldExpiry, liveActive_active hs, done_eq, h]

theorem exec_pauseHoldExpiry_idle (h : (s.port p).holdAt = none) : exec (.pauseHoldExpiry p) s = .next s.settle := by
  rw [exec_pauseHoldExpiry, execPauseHoldExpiry, liveActive_active hs, done_eq, h]

/-- The repeat of the own pause frame is due: it goes out again while XON has not released it, and TXEN at 0 ends the repeats (R268). -/
theorem exec_pauseRepeatTimer_due {t0 : Nat} (h : (s.port p).xoffAt = some t0) :
    exec (.pauseRepeatTimer p) s = .next (
      if !s.flag (Reg.CONS_PAUSE.TXEN.at p) then (s.reach t0).onPort p fun t => { t with xoffAt := none }
      else if s.xon p ≤ s.ingressBufs p then
        ((s.reach t0).onPort p fun t => { t with pauseOut := t.pauseOut ++ [s.get (Reg.CONS_PAUSE.XOFFQ.at p)],
                                                 xoffAt := some (max s.now t0 + s.halfXoffq p) }).flushPause p
      else s.reach t0).settle := by
  rw [exec_pauseRepeatTimer, execPauseRepeatTimer, liveActive_active hs, done_eq, h]
  rfl

theorem exec_pauseRepeatTimer_idle (h : (s.port p).xoffAt = none) : exec (.pauseRepeatTimer p) s = .next s.settle := by
  rw [exec_pauseRepeatTimer, execPauseRepeatTimer, liveActive_active hs, done_eq, h]

theorem exec_pauseXonReached_active : exec (.pauseXonReached p) s = .next (
    if (s.port p).xoffAt.isSome && s.ingressBufs p < s.xon p && s.flag (Reg.CONS_PAUSE.TXEN.at p) then
      (s.onPort p fun t => { t with pauseOut := t.pauseOut ++ [0], xoffAt := none }).flushPause p
    else s).settle := by
  rw [exec_pauseXonReached, execPauseXonReached, liveActive_active hs, done_eq]

theorem exec_pauseWatchdogTrip_held {a b : Nat} (ha : (s.port p).holdFrom = some a) (hb : (s.port p).holdAt = some b) :
    exec (.pauseWatchdogTrip p) s = .next (if b < a + ms (s.wdms p) then s else (s.tripped p a).endHold p).settle := by
  rw [exec_pauseWatchdogTrip, execPauseWatchdogTrip, liveActive_active hs, done_eq, ha, hb]
  rfl

theorem exec_pauseWatchdogTrip_free (h : (s.port p).holdAt = none) : exec (.pauseWatchdogTrip p) s = .next s.settle := by
  rw [exec_pauseWatchdogTrip, execPauseWatchdogTrip, liveActive_active hs, done_eq, h]
  cases (s.port p).holdFrom <;> rfl

theorem exec_pauseWatchdogEnd_due {t0 : Nat} (h : (s.port p).wdAt = some t0) : exec (.pauseWatchdogEnd p) s =
    .next (((s.reach t0).onPort p fun t => { t with wdAt := none }).put (Reg.CONS_STAT.PWD.at p) 0).settle := by
  rw [exec_pauseWatchdogEnd, execPauseWatchdogEnd, liveActive_active hs, done_eq, h]

theorem exec_pauseWatchdogEnd_idle (h : (s.port p).wdAt = none) : exec (.pauseWatchdogEnd p) s = .next s.settle := by
  rw [exec_pauseWatchdogEnd, execPauseWatchdogEnd, liveActive_active hs, done_eq, h]

end

/-- Settles O22: a hold that ends is `endHold`, whose transmitter may start a frame but keeps what `Transmits` says. -/
theorem consistPause : Obligations.ConsistPause := by
  unfold Obligations.ConsistPause
  refine ⟨?_, ?_, ?_, ?_, ?_, ?_, ?_, ?_, ?_, ?_, ?_⟩
  · intro p v s hs hl hr hw hv
    have quanta : v.toNat ≠ 0 := fun e => hv (BitVec.eq_of_toNat_eq e)
    refine ⟨_, exec_pauseReceived_active hs v, ?_⟩
    rw [if_pos hl, State.takePause_of_honoured hr hw, if_neg quanta]
    refine ⟨by simp, by simp, ?_, ?_, by simp, ?_, by simp [memSame]⟩
    · rw [State.get_settle_port rfl, State.get_put_self]
      rfl
    · rw [State.get_settle_port rfl, State.get_put_port rfl, State.onPort_get, State.bump_get_self rfl]
    · exact regsBut_settle (regsBut_put (regsBut_onPort (regsBut_put (regsBut_refl s _) (by simp) _) p _) (by simp) _)
  · intro p t0 s hs h
    rw [exec_pauseHoldExpiry_due hs h, State.endHold]
  · intro p t0 s hs h ht hx
    rw [exec_pauseRepeatTimer_due hs h, if_neg (by simp [ht]), if_pos hx]
  · intro p s hs h hx ht
    rw [exec_pauseXonReached_active hs, if_pos (by simp [h, hx, ht])]
  · intro p a b s hs ha hb hab
    obtain ⟨pwd, count, irq⟩ := State.tripped_get (s := s) (p := p) a
    obtain ⟨now, code, wdAt, mem⟩ := State.tripped_leaves (s := s) (p := p) a
    obtain ⟨holdAt, holdFrom, wdSame⟩ := State.endHold_port (s.tripped p a) p
    obtain ⟨nowSame, events, memEnd⟩ := State.endHold_leaves (s.tripped p a) p
    refine ⟨_, exec_pauseWatchdogTrip_held hs ha hb, ?_⟩
    rw [if_neg (Nat.not_lt.mpr hab)]
    refine ⟨?_, ?_, ?_, ?_, ?_, ?_, ?_, ?_, ?_, ?_⟩
    · rw [State.port_settle, wdSame, wdAt]
    · rw [State.port_settle, holdAt]
    · rw [State.port_settle, holdFrom]
    · rw [State.get_settle_port rfl, State.endHold_get rfl rfl rfl, pwd]
    · rw [State.get_settle_port rfl, State.endHold_paused]
    · rw [State.get_settle_port rfl, State.endHold_get rfl rfl rfl, count]
    · exact State.flag_of_get (by rw [State.get_settle_port rfl, State.endHold_get rfl rfl rfl, irq])
    · rw [newest, State.settle_events, events]
      exact code
    · rw [State.settle_now, nowSame, now]
    · simp only [memSame] at mem memEnd ⊢
      simp [mem, memEnd]
  · intro p t0 s hs h
    refine ⟨_, exec_pauseWatchdogEnd_due hs h, ?_, by simp, by simp, by simp, ?_, by simp [memSame]⟩
    · rw [State.get_settle_port rfl, State.get_put_self, Nat.zero_mod]
    · exact regsBut_settle (regsBut_put (regsBut_refl s _) (by simp) _)
  · intro p s hs hl hr hw
    rw [exec_pauseReceived_active hs, if_pos hl, State.takePause_of_honoured hr hw, if_pos (by simp)]
    rfl
  · intro p v s hs hl h
    rw [exec_pauseReceived_active hs, if_pos hl, State.takePause_of_ignored h]
  · intro p t0 s hs h
    rw [exec_pauseRepeatTimer_due hs h]
    exact ⟨fun ht => by rw [if_pos (by simp [ht])], fun ht hx => by rw [if_neg (by simp [ht]), if_neg (Nat.not_le.mpr hx)]⟩
  · intro p v s hs
    refine ⟨fun hl => ?_, fun h => ⟨exec_pauseHoldExpiry_idle hs h, exec_pauseWatchdogTrip_free hs h⟩,
      exec_pauseRepeatTimer_idle hs, exec_pauseWatchdogEnd_idle hs, fun h => ?_⟩
    · rw [exec_pauseReceived_active hs, if_neg (by simp [hl])]
    · rw [exec_pauseXonReached_active hs, if_neg (ne_true_of_eq_false h)]
  · intro p a b s hs ha hb hab
    rw [exec_pauseWatchdogTrip_held hs ha hb, if_pos hab]

end Sys2Proof.Machine
end

section
/-! SUPPORT. Transmission of the consist ports: the start of a frame, verification, fetches of transmit rings (R263 to R265, R274). -/

namespace Sys2Proof.Machine

namespace State

variable {s : State} {p : Port}

/-- Without a pause frame that waits there is none to send. -/
theorem flushPause_of_none (h : (s.port p).pauseOut = []) : s.flushPause p = s := by
  have kept : (s.onPort p fun t => { t with pauseOut := [] }) = s := onPort_eq_self _ (by rw [← h])
  rw [flushPause, h]
  split
  · rfl
  · exact kept

/-- On an idle port the highest queue whose head may start sends it. -/
theorem runEth_of_idle {it : PItem} (hl : s.linkUp p = true) (hd : s.dimmed = false) (hh : (s.port p).holdAt = none)
    (hp : (s.port p).pauseOut = []) (ht : (s.port p).tx = none) (hk : (s.port p).txHeld = none)
    (hb : s.bestHead p [7, 6, 5, 4, 3, 2, 1, 0] = some it) : s.runEth p = s.startEth p it := by
  rw [runEth, flushPause_of_none hp]
  simp [hl, hd, hh, ht, hk, hb]

/-- A whole frame at the head of an enabled ring whose link is down is written back with LINK. -/
theorem fetchTx_of_linkDown {q n : Nat} {d : Bytes} {o : List Bytes} (he : s.flag ((Reg.CONS_TXQ_CFG.EN.at p).ix q) = true) (hd : s.dimmed = false)
    (hf : s.portOff = false) (hl : s.linkUp p = false) (ha : s.ringAbove p q = false) (ho : o = (descList d).take (s.txOwned p q)) (hn : o ≠ [])
    (hg : txShape o 0 o = .good n) :
    s.fetchTx p q d = (s.onPort p fun t => { t with waiting := t.waiting.filter (·.1 ≠ q) }).writeBack p
      ⟨q, (s.get ((Reg.CONS_TXQ_HEAD.HEAD.at p).ix q) + s.txInFlight p q) % s.txSize p q, d.take (16 * n),
        (o.take 1).any fun x => bit (dCtl x) 28⟩ 3 none := by
  subst ho
  rw [fetchTx, if_neg (by simp [he, hd, hf, ha, hn]), hg]
  simp only [hl]
  rfl

end State

section
variable {s : State} {p : Port} (hs : s.active = true)
include hs

theorem exec_consistTxFrameStart_active : exec (.consistTxFrameStart p) s = .next (s.runEth p).settle := by
  rw [exec_consistTxFrameStart, execConsistTxFrameStart, liveActive_active hs, done_eq]

theorem exec_telegramLaunch_due {t0 : Nat} (h : ((s.port p).txq.filterMap (·.launch)).min? = some t0) :
    exec (.telegramLaunch p) s = .next ((s.reach t0).runEth p).settle := by
  rw [exec_telegramLaunch, execTelegramLaunch, liveActive_active hs, done_eq, h]

theorem exec_telegramLaunch_idle (h : ((s.port p).txq.filterMap (·.launch)).min? = none) :
    exec (.telegramLaunch p) s = .next s.settle := by
  rw [exec_telegramLaunch, execTelegramLaunch, liveActive_active hs, done_eq, h]

theorem exec_preemptionVerifyResult_running (h : (s.port p).verifying = true) (ok : Bool) : exec (.preemptionVerifyResult p ok) s = .next (
    if ok then (s.onPort p fun t => { t with verifying := false }).put (Reg.CONS_STAT.PACT.at p) 1
    else (((s.onPort p fun t => { t with verifying := false }).put (Reg.CONS_STAT.PVFAIL.at p) 1).raise (Reg.CONS_IRQ.PVFAIL.at p)).record
      0x0805).settle := by
  rw [exec_preemptionVerifyResult, execPreemptionVerifyResult, liveActive_active hs, done_eq, if_neg (by simp [h])]

theorem exec_preemptionVerifyResult_idle (h : (s.port p).verifying = false) (ok : Bool) :
    exec (.preemptionVerifyResult p ok) s = .next s.settle := by
  rw [exec_preemptionVerifyResult, execPreemptionVerifyResult, liveActive_active hs, done_eq, if_pos (by simp [h])]

theorem exec_txRingFetchStart_active (q : Fin 8) (d : Bytes) : exec (.txRingFetchStart p q d) s = .next (s.fetchTx p q d).settle := by
  rw [exec_txRingFetchStart, execTxRingFetchStart, liveActive_active hs, done_eq]

end

end Sys2Proof.Machine
end

section
/-! SUPPORT. An RW field beside RWG fields takes its bits of a stored word whether those are refused or not (R3, R501). -/

namespace Sys2Proof.Machine

/-- The unit at which a descriptor is located has that address. -/
theorem Fld.addr_of_locate {f : Fld} {a i j : Nat} (h : f.locate a = some (i, j)) : ((f.at i).ix j).addr = a := by
  have units : (if f.s1 = 0 then 0 else (a - f.addr) / f.s1) * f.s1 ≤ a - f.addr := by
    split
    · simp
    · exact Nat.div_mul_le_self _ _
  simp only [Fld.locate] at h
  generalize (if f.s1 = 0 then 0 else (a - f.addr) / f.s1) = m at h units
  generalize (if f.s2 = 0 then 0 else (a - f.addr - m * f.s1) / f.s2) = n at h
  split_ifs at h with below inside
  obtain ⟨rest, -, -⟩ := inside
  obtain ⟨rfl, rfl⟩ := Prod.mk.inj (Option.some.inj h)
  simp only [Fld.at, Fld.ix]
  omega

theorem mem_fieldsAt {a : Nat} {g : Fld} : g ∈ fieldsAt a ↔ ∃ f ∈ Reg.table, ∃ i j, f.locate a = some (i, j) ∧ (f.at i).ix j = g := by
  simp [fieldsAt, List.mem_filterMap]

namespace State

variable {s : State} {a v : Nat} {f : Fld}

/-- A word stored goes to the fields of its register; besides, only flags that follow a write may change. -/
theorem storeWord_get_of_fields (hn : f.key ≠ Reg.GLB_STAT.NFAULT.key) (hd : f.key ≠ Reg.REST_STAT.CFGDIRTY.key)
    (hw : ∀ w, wignOf a = some w → f.key ≠ w.key) : ∃ ok, (s.storeWord a v).get f = ((fieldsAt a).foldl (storeField ok v) s).get f := by
  have wign (u : State) : (u.setOpt (wignOf a)).get f = u.get f := by
    unfold setOpt
    split
    · exact get_put_ne _ _ _ _ (hw _ ‹_›)
    · rfl
  have dirty (u : State) : u.dirtyCfg.get f = u.get f := get_put_ne _ _ _ _ hd
  refine ⟨!(s.enAt a && (fieldsAt a).any fun f => f.acc = .rwg && s.get f ≠ f.of v), ?_⟩
  simp only [storeWord]
  rw [refreshFault_get_ne _ _ hn, apply_ite (fun u : State => u.get f), wign, ite_self, apply_ite (fun u : State => u.get f), dirty, ite_self]

/-- Fields stored one after the other: an RW field whose place no other one has. -/
theorem foldl_storeField_get_of_alone {l : List Fld} (hf : f ∈ l) (hrw : f.acc = .rw) (hu : ∀ g ∈ l, g.key = f.key → g = f) (ok : Bool) (s : State) :
    (l.foldl (storeField ok v) s).get f = f.of v := by
  induction l generalizing s with
  | nil => exact absurd hf List.not_mem_nil
  | cons g l ih =>
    have rest := fun x hx => hu x (List.mem_cons_of_mem g hx)
    rw [List.foldl_cons]
    by_cases later : f ∈ l
    · exact ih later rest _
    · obtain rfl : f = g := (List.mem_cons.mp hf).resolve_right later
      rw [foldl_storeField_get_of_notMem, storeField_get_of_rw hrw]
      intro hk
      obtain ⟨x, hx, e⟩ := List.mem_map.mp hk
      exact later (rest x hx e ▸ hx)

end State

end Sys2Proof.Machine
end

section
/-! SUPPORT. Rings and MDIO of the consist ports (R272, R276, R277). -/

namespace Sys2Proof.Machine

/-- The descriptors of EN and of HEAD of a ring: of a transmit ring where `tx`, else of a receive ring. -/
def ringEnOf (tx : Bool) : Fld := if tx then Reg.CONS_TXQ_CFG.EN else Reg.CONS_RXQ_CFG.EN
def ringHeadOf (tx : Bool) : Fld := if tx then Reg.CONS_TXQ_HEAD.HEAD else Reg.CONS_RXQ_HEAD.HEAD

theorem ringEn_locate : ∀ (tx : Bool) (p : Port) (q : Fin 8), (ringEnOf tx).locate (((ringEnOf tx).at p).ix q).addr = some (p.val, q.val) := by
  decide +kernel

/-- No other field lies at bit 31 of a ring's register. -/
theorem ringEn_of_topBit : ∀ f ∈ Reg.table.filter (·.lo = 31), ∀ (tx : Bool) (p : Port) (q : Fin 8),
    (f.locate (((ringEnOf tx).at p).ix q).addr).isSome = true → f = ringEnOf tx := by
  decide +kernel

/-- The flags that follow a write, and HEAD, have places of their own. -/
theorem ringEn_apart : ∀ (tx : Bool) (p : Port) (q : Fin 8), (((ringEnOf tx).at p).ix q).key ≠ (((ringHeadOf tx).at p).ix q).key
    ∧ (((ringEnOf tx).at p).ix q).key ≠ (Reg.CONS_STAT.WIGN.at p).key ∧ (((ringEnOf tx).at p).ix q).key ≠ Reg.GLB_STAT.NFAULT.key
    ∧ (((ringEnOf tx).at p).ix q).key ≠ Reg.REST_STAT.CFGDIRTY.key ∧ (((ringEnOf tx).at p).ix q).key ≠ Reg.CMD_IRQ.CPL.key := by
  decide +kernel

theorem ringHead_apart : ∀ (tx : Bool) (p : Port) (q : Fin 8), (((ringHeadOf tx).at p).ix q).key ≠ Reg.GLB_STAT.NFAULT.key
    ∧ (((ringHeadOf tx).at p).ix q).key ≠ Reg.CMD_IRQ.CPL.key := by
  decide +kernel

theorem wignOf_ringEn : ∀ (tx : Bool) (p : Port) (q : Fin 8), wignOf (((ringEnOf tx).at p).ix q).addr = some (Reg.CONS_STAT.WIGN.at p) := by
  decide +kernel

theorem ringEn_mem : ∀ tx : Bool, ringEnOf tx ∈ Reg.table := by
  decide +kernel

namespace State

variable {s : State} {p : Port}

/-! The register of a ring (R272). -/

theorem storeWord_ringEn (s : State) (tx : Bool) (p : Port) (q : Fin 8) (v : Nat) :
    (s.storeWord (((ringEnOf tx).at p).ix q).addr v).get (((ringEnOf tx).at p).ix q) = (((ringEnOf tx).at p).ix q).of v := by
  obtain ⟨-, hw, hn, hd, -⟩ := ringEn_apart tx p q
  obtain ⟨ok, stored⟩ := storeWord_get_of_fields (s := s) (v := v) hn hd fun w h => by
    cases (wignOf_ringEn tx p q).symm.trans h
    exact hw
  rw [stored]
  refine foldl_storeField_get_of_alone (mem_fieldsAt.mpr ⟨_, ringEn_mem tx, _, _, ringEn_locate tx p q, rfl⟩) (by cases tx <;> rfl) ?_ ok s
  intro g hg hk
  obtain ⟨f, hf, i, j, located, rfl⟩ := mem_fieldsAt.mp hg
  have lo : f.lo = 31 := by
    have addr := Fld.addr_of_locate located
    have top : (((ringEnOf tx).at p).ix q).lo = 31 := by cases tx <;> rfl
    simp only [Fld.key] at hk
    rw [addr, top] at hk
    exact Nat.add_left_cancel hk
  obtain rfl := ringEn_of_topBit f (List.mem_filter.mpr ⟨hf, by simpa using lo⟩) tx p q (by rw [located]; rfl)
  rw [ringEn_locate tx p q] at located
  cases located
  rfl

/-- A change of EN from 0 to 1 sets HEAD to 0; the port forgets what it held of the ring. -/
theorem writeRingCfg_of_enable {tx : Bool} {q : Fin 8} {v : Nat} (hw : s.flag (((ringEnOf tx).at p).ix q) = false)
    (hv : (((ringEnOf tx).at p).ix q).of v = 1) :
    ∃ g, s.writeRingCfg p tx q v = ((s.storeWord (((ringEnOf tx).at p).ix q).addr v).put (((ringHeadOf tx).at p).ix q) 0).onPort p g := by
  have enabled := flag_of_get ((storeWord_ringEn s tx p q v).trans hv)
  exact ⟨_, if_pos (Bool.and_eq_true_iff.mpr ⟨congrArg (! ·) hw, enabled⟩)⟩

/-! Moderation (R277). -/

theorem modOf_setMod_clear (s : State) (p : Port) (k : Bool × Nat) : (s.setMod p k (0, none)).modOf p k = (0, none) := by
  have gone : ((s.setMod p k (0, none)).port p).mods.find? (·.1 = k) = none := by
    rw [List.find?_eq_none]
    simp [setMod]
  rw [modOf, gone]
  rfl

theorem modOf_congr {s t : State} {p : Nat} (h : t.port p = s.port p) (k : Bool × Nat) : t.modOf p k = s.modOf p k := by
  rw [modOf, h, modOf]

/-- The interrupt bit of a ring is one bit, apart from the flags that follow other state. -/
theorem ringBit_place : ∀ (p : Port) (tx : Bool) (q : Fin 8), (ringBit p tx q).width = 1 ∧ (ringBit p tx q).key ≠ Reg.GLB_STAT.NFAULT.key
    ∧ (ringBit p tx q).key ≠ Reg.CMD_IRQ.CPL.key := by
  decide +kernel

/-! MDIO (R276). -/

/-- One period of MDC, as MDCDIV says. -/
def mdcPeriod (s : State) (p : Nat) : Nat := match s.get (Reg.CONS_MDIO.MDCDIV.at p) with | 1 => ns 800 | 2 => ns 1600 | _ => ns 400

/-- The MDIO frame that the fields of CONS_MDIO describe. -/
def mdioFrame (s : State) (p : Nat) : Out := .mdio p (s.flag (Reg.CONS_MDIO.OP.at p)) (s.get (Reg.CONS_MDIO.PHYAD.at p))
  (s.get (Reg.CONS_MDIO.REGAD.at p)) (s.get (Reg.CONS_MDIO.DATA.at p))

theorem writeMdio_of_busy (h : s.flag (Reg.CONS_MDIO.BUSY.at p) = true) (v : Nat) : s.writeMdio p v = s.put (Reg.CONS_STAT.WIGN.at p) 1 :=
  if_pos h

theorem writeMdio_of_free (h : s.flag (Reg.CONS_MDIO.BUSY.at p) = false) {v : Nat} {w : State}
    (hw : w = s.storeWord (Reg.CONS_MDIO.GO.at p).addr v) :
    s.writeMdio p v = if bit v 31 then ((w.put (Reg.CONS_MDIO.BUSY.at p) 1).emit (w.mdioFrame p)).onPort p fun t =>
      { t with mdioAt := some (w.now + 64 * w.mdcPeriod p) } else w := by
  subst hw
  have frame (w : State) : (w.put (Reg.CONS_MDIO.BUSY.at p) 1).mdioFrame p = w.mdioFrame p := by
    simp only [mdioFrame, flag]
    rw [get_put_port rfl, get_put_port rfl, get_put_port rfl, get_put_port rfl]
  rw [writeMdio, if_neg (ne_true_of_eq_false h), ← frame]
  cases bit v 31 <;> rfl

/-- The end of an MDIO frame, but for what a read gives. -/
def mdioEnded (s : State) (p t0 : Nat) : State :=
  ((s.reach t0).onPort p fun t => { t with mdioAt := none }).put (Reg.CONS_MDIO.BUSY.at p) 0

theorem mdioEnded_flag_op (t0 : Nat) : (s.mdioEnded p t0).flag (Reg.CONS_MDIO.OP.at p) = s.flag (Reg.CONS_MDIO.OP.at p) := by
  rw [flag, mdioEnded, get_put_port rfl, onPort_get, get_reach, flag]

end State

section
variable {s : State} {p : Port} (hs : s.active = true)
include hs

theorem exec_ringIrqModeration_due {tx : Bool} {q : Fin 8} {k t0 : Nat} (h : s.modOf p (tx, q.val) = (k, some t0)) :
    exec (.ringIrqModeration p tx q) s = .next (((s.reach t0).setMod p (tx, q.val) (0, none)).raise (State.ringBit p tx q)).settle := by
  rw [exec_ringIrqModeration, execRingIrqModeration, liveActive_active hs, done_eq, h]

theorem exec_ringIrqModeration_idle {tx : Bool} {q : Fin 8} (h : (s.modOf p (tx, q.val)).2 = none) :
    exec (.ringIrqModeration p tx q) s = .next s.settle := by
  have none_due : s.modOf p (tx, q.val) = ((s.modOf p (tx, q.val)).1, none) := by rw [← h]
  rw [exec_ringIrqModeration, execRingIrqModeration, liveActive_active hs, done_eq, none_due]

theorem exec_mdioFrameStart_active (v : Word) : exec (.mdioFrameStart p v) s = .next (s.writeMdio p v.toNat).settle := by
  rw [exec_mdioFrameStart, execMdioFrameStart, liveActive_active hs, done_eq]

/-- The end of a frame; a read stores its data, and whether the PHY drove the turnaround. -/
theorem exec_mdioFrameEnd_due {t0 : Nat} (h : (s.port p).mdioAt = some t0) (d : Bool) (v : BitVec 16) : exec (.mdioFrameEnd p d v) s =
    .next ((if s.flag (Reg.CONS_MDIO.OP.at p) then
        ((s.mdioEnded p t0).put (Reg.CONS_MDIO.DATA.at p) v.toNat).putB (Reg.CONS_MDIO.RDERR.at p) (!d)
      else s.mdioEnded p t0).raise (Reg.CONS_IRQ.MDIO.at p)).settle := by
  rw [← State.mdioEnded_flag_op t0, exec_mdioFrameEnd, execMdioFrameEnd, liveActive_active hs, done_eq, h]
  rfl

theorem exec_mdioFrameEnd_idle (h : (s.port p).mdioAt = none) (d : Bool) (v : BitVec 16) :
    exec (.mdioFrameEnd p d v) s = .next s.settle := by
  rw [exec_mdioFrameEnd, execMdioFrameEnd, liveActive_active hs, done_eq, h]

end

theorem State.awake_of_active {s : State} (h : s.active = true) : s.awake = true := by
  simp only [State.active, Bool.and_eq_true] at h
  obtain ⟨power, rst⟩ := h
  simp [State.awake, power, rst]

theorem exec_ringEnableWrite_awake {s : State} (hs : s.awake = true) (p : Port) (tx : Bool) (q : Fin 8) (v : Word) :
    exec (.ringEnableWrite p tx q v) s = .next (s.writeRingCfg p tx q v.toNat).settle := by
  rw [exec_ringEnableWrite, execRingEnableWrite, live_awake hs, done_eq]

/-- EN of a ring turned on reads 1, its HEAD 0. -/
theorem exec_ringEnableWrite_enable {s : State} (hs : s.awake = true) {p : Port} {tx : Bool} {q : Fin 8} {v : Word}
    (hw : s.flag (((ringEnOf tx).at p).ix q) = false) (hv : (((ringEnOf tx).at p).ix q).of v.toNat = 1) :
    ∃ t, exec (.ringEnableWrite p tx q v) s = .next t ∧ t.get (((ringEnOf tx).at p).ix q) = 1 ∧ t.get (((ringHeadOf tx).at p).ix q) = 0
      ∧ t.events = s.events ∧ memSame s t := by
  obtain ⟨hh, -, hn, -, hc⟩ := ringEn_apart tx p q
  obtain ⟨hn', hc'⟩ := ringHead_apart tx p q
  obtain ⟨g, enabled⟩ := State.writeRingCfg_of_enable hw hv
  refine ⟨_, exec_ringEnableWrite_awake hs p tx q v, ?_⟩
  rw [enabled]
  refine ⟨?_, ?_, by simp, by simp [memSame]⟩
  · rw [State.settle_get_ne _ _ hn hc, State.onPort_get, State.get_put_ne _ _ _ _ hh, State.storeWord_ringEn, hv]
  · rw [State.settle_get_ne _ _ hn' hc', State.onPort_get, State.get_put_self, Nat.zero_mod]

/-- Settles O21: an idle port starts the head that `bestHead` gives, EN of a ring is stored beside its RWG fields, and an MDIO frame is
`mdioFrame`, which ends in `mdioEnded`. -/
theorem consistTransmit : Obligations.ConsistTransmit := by
  unfold Obligations.ConsistTransmit
  refine ⟨?_, ?_, ?_, ?_, ?_, ?_, ?_, ?_, ?_, ?_, ?_, ?_, ?_, ?_, ?_⟩
  · intro p it s hs hl hd hh hp ht hk hb
    rw [exec_consistTxFrameStart_active hs, State.runEth_of_idle hl hd hh hp ht hk hb]
  · intro p t0 s hs h
    exact exec_telegramLaunch_due hs h
  · intro p s hs h
    refine ⟨_, exec_preemptionVerifyResult_running hs h true, ?_⟩
    rw [if_pos rfl]
    refine ⟨?_, by simp, by simp, regsBut_settle (regsBut_put (regsBut_onPort (regsBut_refl s _) p _) (by simp) _), by simp [memSame]⟩
    rw [State.get_settle_port rfl, State.get_put_self]
    rfl
  · intro p s hs h
    refine ⟨_, exec_preemptionVerifyResult_running hs h false, ?_⟩
    rw [if_neg Bool.false_ne_true]
    refine ⟨?_, ?_, by simp [newest, State.record], by simp, ?_, by simp [memSame]⟩
    · rw [State.get_settle_port rfl, State.get_record, State.get_raise_port rfl, State.get_put_self]
      rfl
    · exact State.flag_of_get (by rw [State.get_settle_port rfl, State.get_record, State.get_raise_self]; rfl)
    · exact regsBut_settle (regsBut_record (regsBut_raise (regsBut_put (regsBut_onPort (regsBut_refl s _) p _) (by simp) _) (by simp)) _)
  · intro p q d n i o s hs he hd hf hl ha hi ho hn hg
    rw [exec_txRingFetchStart_active hs, State.fetchTx_of_linkDown he hd hf hl ha ho hn hg, hi]
  · rintro p b q v _ _ s hs rfl rfl hw hv
    exact exec_ringEnableWrite_enable hs hw hv
  · intro p b q k t0 s hs h
    obtain ⟨width, hn, hc⟩ := State.ringBit_place p b q
    refine ⟨_, exec_ringIrqModeration_due hs h, ?_, ?_, by simp [State.setMod], by simp [State.setMod], ?_, by simp [memSame, State.setMod]⟩
    · exact State.flag_of_get (by rw [State.settle_get_ne _ _ hn hc, State.get_raise_self, width]; rfl)
    · exact (State.modOf_congr (by rw [State.port_settle, State.port_raise]) _).trans (State.modOf_setMod_clear _ p _)
    · exact regsBut_settle (regsBut_raise (regsBut_refl s _) (by simp))
  · intro p v w s hs hb hg hw
    have stored : w.now = s.now ∧ w.events = s.events ∧ memSame s w := by subst hw; simp [memSame]
    obtain ⟨now, events, mem⟩ := stored
    refine ⟨_, exec_mdioFrameStart_active hs v, ?_⟩
    rw [State.writeMdio_of_free hb hw, if_pos hg, now]
    refine ⟨?_, ?_, ?_, by simp [events], ?_⟩
    · rw [State.get_settle_port rfl, State.onPort_get, State.emit_get', State.get_put_self]
      rfl
    · rw [State.port_settle, State.port_onPort_self]
      rfl
    · have frame : sent w ((w.put (Reg.CONS_MDIO.BUSY.at p) 1).emit (w.mdioFrame p)) [w.mdioFrame p] :=
        sent_emit (l := []) (sent_of_outs rfl) (State.mutes_of_pwr rfl) rfl
      exact Follows.sent_trans (sent_onPort frame p _) (State.settle_follows _)
    · simpa [memSame] using mem
  · intro p d v t0 s hs h ho
    refine ⟨_, exec_mdioFrameEnd_due hs h d v, ?_⟩
    rw [if_pos ho]
    refine ⟨?_, ?_, ?_, ?_, by simp [State.mdioEnded], by simp [State.mdioEnded], by simp [State.mdioEnded], ?_, by simp [memSame, State.mdioEnded]⟩
    · rw [State.get_settle_port rfl, State.get_raise_port rfl, State.putB, State.get_put_port rfl, State.get_put_port rfl, State.mdioEnded,
        State.get_put_self, Nat.zero_mod]
    · rw [State.get_settle_port rfl, State.get_raise_port rfl, State.putB, State.get_put_port rfl, State.get_put_self]
      exact Nat.mod_eq_of_lt v.isLt
    · rw [State.flag, State.get_settle_port rfl, State.get_raise_port rfl, State.putB, State.get_put_self]
      cases d <;> rfl
    · exact State.flag_of_get (by rw [State.get_settle_port rfl, State.get_raise_self]; rfl)
    · exact regsBut_settle (regsBut_raise (regsBut_put (regsBut_put (regsBut_put (regsBut_refl s _) (by simp) _) (by simp) _) (by simp) _) (by simp))
  · intro p ok s hs
    exact ⟨exec_consistTxFrameStart_active hs, exec_telegramLaunch_idle hs, fun h => exec_preemptionVerifyResult_idle hs h ok⟩
  · intro p b q d v s hs
    exact ⟨exec_txRingFetchStart_active hs q d, exec_ringEnableWrite_awake (State.awake_of_active hs) p b q v, exec_ringIrqModeration_idle hs⟩
  · intro p v s hs hb
    refine ⟨_, exec_mdioFrameStart_active hs v, ?_⟩
    rw [State.writeMdio_of_busy hb]
    refine ⟨?_, by simp, by simp, regsBut_settle (regsBut_put (regsBut_refl s _) (by simp) _), by simp [memSame]⟩
    exact State.flag_of_get (by rw [State.get_settle_port rfl, State.get_put_self]; rfl)
  · intro p v s hs hb hg
    rw [exec_mdioFrameStart_active hs, State.writeMdio_of_free hb rfl, if_neg (ne_true_of_eq_false hg)]
  · intro p d v t0 s hs h ho
    refine ⟨_, exec_mdioFrameEnd_due hs h d v, ?_⟩
    rw [if_neg (ne_true_of_eq_false ho)]
    refine ⟨?_, ?_, by simp [State.mdioEnded], by simp [State.mdioEnded], by simp [State.mdioEnded], ?_, by simp [memSame, State.mdioEnded]⟩
    · rw [State.get_settle_port rfl, State.get_raise_port rfl, State.mdioEnded, State.get_put_self, Nat.zero_mod]
    · exact State.flag_of_get (by rw [State.get_settle_port rfl, State.get_raise_self]; rfl)
    · exact regsBut_settle (regsBut_raise (regsBut_put (regsBut_refl s _) (by simp) _) (by simp))
  · intro p d v s hs h
    exact exec_mdioFrameEnd_idle hs h d v

end Sys2Proof.Machine
end

section
/-! SUPPORT. The memories of the process image and the retained copies stay in canonical form (log entry 30, R292, R296, R493). `Canonical.f` says that
the state `f` answers has canonical memories where the state it starts from has, and `Keeps.c` that the meaning of the command `c` answers a state and
keeps them canonical. One lemma a function, in the order of the model's files: its proof follows the function's body, down to the few that write an
area (`Canonical.write`) or a copy; all others hand the memories on (`Canonical.upd`). -/

namespace Sys2Proof.Machine

set_option Elab.async false

variable {s : State}

/-! The memories themselves. -/

/-- Forced bits are written byte by byte. -/
theorem applyBits_wf {m : Memory} (base lo hi : Nat) (fs : List (Nat × Nat × Nat)) (hm : m.wf = true) : (applyBits m base lo hi fs).wf = true :=
  List.foldlRecOn (motive := fun m : Memory => m.wf = true) fs _ hm fun m hm f _ => by
    split
    · exact Memory.write_wf _ _ hm
    · exact hm

/-- Every area of the process image is in canonical form. -/
structure ImgS.Wf (i : ImgS) : Prop where
  recv : i.recv.wf = true
  latched : i.latched.wf = true
  work : i.work.wf = true
  comm : i.comm.wf = true
  retained : i.retained.wf = true
  nonret : i.nonret.wf = true

theorem ImgS.Wf.withRecv {i : ImgS} {m : Memory} (h : i.Wf) (hm : m.wf = true) : ({ i with recv := m } : ImgS).Wf := { h with recv := hm }
theorem ImgS.Wf.withComm {i : ImgS} {m : Memory} (h : i.Wf) (hm : m.wf = true) : ({ i with comm := m } : ImgS).Wf := { h with comm := hm }
theorem ImgS.Wf.withRetained {i : ImgS} {m : Memory} (h : i.Wf) (hm : m.wf = true) : ({ i with retained := m } : ImgS).Wf := { h with retained := hm }
theorem ImgS.Wf.withNonret {i : ImgS} {m : Memory} (h : i.Wf) (hm : m.wf = true) : ({ i with nonret := m } : ImgS).Wf := { h with nonret := hm }

/-- A delivery writes the receive view, or the retained and the non-retained area (R296). -/
theorem ImgS.Wf.deliver {i : ImgS} (h : i.Wf) (o : Nat) (bs : Bytes) : (i.deliver o bs).Wf := by
  unfold ImgS.deliver
  split
  · exact h.withRecv (Memory.writeAll_wf _ _ h.recv)
  · split
    · exact h
    · exact (h.withRetained (Memory.writeAll_wf _ _ h.retained)).withNonret (Memory.writeAll_wf _ _ h.nonret)

/-! Evaluation writes the working view, the retained and the non-retained area alone (R313). -/

theorem Ev.putByte_wf {e : Ev} (h : e.img.Wf) (a v : Nat) : (e.putByte a v).img.Wf := by
  unfold Ev.putByte
  split
  · exact h
  · split
    · exact { h with work := Memory.write_wf _ _ h.work }
    · dsimp only
      split
      · exact { h with retained := Memory.write_wf _ _ h.retained }
      · exact { h with nonret := Memory.write_wf _ _ h.nonret }

theorem Ev.putBytes_wf {e : Ev} (h : e.img.Wf) (a : Nat) (bs : Bytes) : (e.putBytes a bs).img.Wf := by
  induction bs generalizing e a with
  | nil => exact h
  | cons b bs ih => exact ih (Ev.putByte_wf h a b.toNat) (a + 1)

theorem Ev.set_wf {e : Ev} (h : e.img.Wf) (w : Nat) (v : Int) : (e.set w v).img.Wf := by
  unfold Ev.set
  dsimp only
  split
  · exact Ev.putByte_wf h _ _
  · exact Ev.putBytes_wf h _ _
  · exact Ev.putBytes_wf h _ _

theorem Ev.setAll_wf {e : Ev} (h : e.img.Wf) (ws : List Nat) (vs : List Int) : (e.setAll ws vs).img.Wf := by
  induction ws generalizing e vs with
  | nil => exact h
  | cons w ws ih =>
    cases vs with
    | nil => exact h
    | cons v vs => exact ih (Ev.set_wf h w v) vs

theorem Ev.inst_wf {e : Ev} {consts : Bytes} {base : Nat} {dt : Int} {sync : List Nat} {i : Inst} (h : e.img.Wf) :
    (e.inst consts base dt sync i).img.Wf := by
  unfold Ev.inst
  dsimp only
  split
  · exact Ev.setAll_wf (e := e.setSlot ..) h _ _
  · exact Ev.setAll_wf h _ _

theorem Ev.blocks_wf {b : Bytes} {dt : Int} {resync : List (Nat × Nat)} {e : Ev} {is : List (Nat × Inst)} (h : e.img.Wf) :
    (e.blocks b dt resync is).img.Wf :=
  List.foldlRecOn (motive := fun e : Ev => e.img.Wf) is _ h fun _ h _ _ => Ev.inst_wf h

/-- Every area of the process image and every retained copy in MRAM of `s` is in canonical form. -/
structure Canonical (s : State) : Prop where
  image : s.img.Wf
  copyA : ∀ c, s.rest.retA = some c → c.area.wf = true
  copyB : ∀ c, s.rest.retB = some c → c.area.wf = true

theorem imageWf_iff : imageWf s = true ↔ s.img.Wf := by
  simp only [imageWf, Bool.and_eq_true]
  constructor
  · rintro ⟨⟨⟨⟨⟨recv, latched⟩, work⟩, comm⟩, retained⟩, nonret⟩
    exact ⟨recv, latched, work, comm, retained, nonret⟩
  · rintro ⟨recv, latched, work, comm, retained, nonret⟩
    exact ⟨⟨⟨⟨⟨recv, latched⟩, work⟩, comm⟩, retained⟩, nonret⟩

theorem canonical_iff : Canonical s ↔ imageWf s = true ∧ copiesWf s = true := by
  simp only [imageWf_iff, copiesWf, Bool.and_eq_true, Option.all_eq_true]
  exact ⟨fun ⟨image, copyA, copyB⟩ => ⟨image, copyA, copyB⟩, fun ⟨image, copyA, copyB⟩ => ⟨image, copyA, copyB⟩⟩

/-! How the predicate passes through the forms in which the model builds a state. -/

/-- An update of parts other than the image and the chapter 13 state leaves the memories. -/
theorem Canonical.upd (h : Canonical s) {x_pending x_now x_power x_regs x_cycRun x_cyc x_bnd x_opBase x_opAt x_opPpm x_events x_outs x_onceGen x_onceSec
    x_onceSess x_free x_lanes x_inau x_sched x_sync x_time x_fab x_msix x_glb x_twin x_ports x_host x_cmd x_eng x_prg x_recd x_pwr x_brdg x_hkp} :
    Canonical (State.mk x_pending x_now x_power x_regs x_cycRun x_cyc x_bnd x_opBase x_opAt x_opPpm x_events x_outs x_onceGen x_onceSec x_onceSess x_free
      x_lanes x_inau x_sched x_sync x_time x_fab x_msix x_glb x_twin s.img x_ports x_host x_cmd x_eng x_prg x_recd s.rest x_pwr x_brdg x_hkp) :=
  ⟨h.image, h.copyA, h.copyB⟩

/-- An update of the chapter 13 state that leaves both copies. -/
theorem Canonical.updRest (h : Canonical s) {x_pending x_now x_power x_regs x_cycRun x_cyc x_bnd x_opBase x_opAt x_opPpm x_events x_outs x_onceGen
    x_onceSec x_onceSess x_free x_lanes x_inau x_sched x_sync x_time x_fab x_msix x_glb x_twin x_ports x_host x_cmd x_eng x_prg x_recd x_pwr x_brdg x_hkp
    y_answered y_consentAt y_jointNew y_round y_tw y_twMode y_desc y_count y_leadAt y_seen y_tokens y_commit y_tcs y_entering y_pattern y_wakeout y_cfgA
    y_cfgB y_saving y_wakeIn y_wakePend y_dawnAt y_keyA y_keyB} :
    Canonical (State.mk x_pending x_now x_power x_regs x_cycRun x_cyc x_bnd x_opBase x_opAt x_opPpm x_events x_outs x_onceGen x_onceSec x_onceSess x_free
      x_lanes x_inau x_sched x_sync x_time x_fab x_msix x_glb x_twin s.img x_ports x_host x_cmd x_eng x_prg x_recd
      (RestS.mk y_answered y_consentAt y_jointNew y_round y_tw y_twMode y_desc y_count y_leadAt y_seen y_tokens y_commit y_tcs y_entering y_pattern
        y_wakeout y_cfgA y_cfgB y_saving s.rest.retA s.rest.retB y_wakeIn y_wakePend y_dawnAt y_keyA y_keyB) x_pwr x_brdg x_hkp) :=
  ⟨h.image, h.copyA, h.copyB⟩

/-- A write of the process image that leaves its areas canonical. -/
theorem Canonical.write (h : Canonical s) {i : ImgS} (hi : i.Wf) {x_pending x_now x_power x_regs x_cycRun x_cyc x_bnd x_opBase x_opAt x_opPpm x_events
    x_outs x_onceGen x_onceSec x_onceSess x_free x_lanes x_inau x_sched x_sync x_time x_fab x_msix x_glb x_twin x_ports x_host x_cmd x_eng x_prg x_recd x_pwr
    x_brdg x_hkp} :
    Canonical (State.mk x_pending x_now x_power x_regs x_cycRun x_cyc x_bnd x_opBase x_opAt x_opPpm x_events x_outs x_onceGen x_onceSec x_onceSess x_free
      x_lanes x_inau x_sched x_sync x_time x_fab x_msix x_glb x_twin i x_ports x_host x_cmd x_eng x_prg x_recd s.rest x_pwr x_brdg x_hkp) :=
  ⟨hi, h.copyA, h.copyB⟩

theorem Canonical.ite {a b : State} {c : Prop} [Decidable c] (ha : Canonical a) (hb : Canonical b) : Canonical (if c then a else b) := by
  split <;> assumption

theorem Canonical.foldl {α : Type} {f : State → α → State} {l : List α} (h : Canonical s)
    (hf : ∀ {t : State} {x : α}, Canonical t → Canonical (f t x)) : Canonical (l.foldl f s) :=
  List.foldlRecOn l f h fun _ ht _ _ => hf ht

/-- The state that a pair was taken apart into. -/
theorem Canonical.fst {α : Type} {p : State × α} {t : State} {x : α} (h : Canonical p.1) (e : p = (t, x)) : Canonical t := by
  rwa [e] at h

theorem Canonical.snd {α : Type} {p : α × State} {t : State} {x : α} (h : Canonical p.2) (e : p = (x, t)) : Canonical t := by
  rwa [e] at h

/-- A meaning completes: it answers a state whose outputs follow its registers, and keeps the memories canonical. -/
def Keeps (s : State) (o : Host.Outcome State Fault Refusal) : Prop := ∃ t : State, o = .next t.settle ∧ (Canonical s → Canonical t)

theorem Keeps.ite {a b : Host.Outcome State Fault Refusal} {c : Prop} [Decidable c] (ha : Keeps s a) (hb : Keeps s b) : Keeps s (if c then a else b) := by
  split <;> assumption

theorem Keeps.done {s t : State} (h : Canonical s → Canonical t) : Keeps s (done t) := ⟨t, rfl, h⟩
theorem Keeps.live {f : State → Host.Outcome State Fault Refusal} (h : Keeps s (f s)) : Keeps s (live s f) := .ite h (.done id)
theorem Keeps.liveActive {f : State → Host.Outcome State Fault Refusal} (h : Keeps s (f s)) : Keeps s (liveActive s f) := .ite h (.done id)

/-! Machine/Regs.lean -/

theorem Canonical.put {f : Fld} {v : Nat} (h : Canonical s) : Canonical (s.put f v) := h.upd

theorem Canonical.putB {f : Fld} {b : Bool} (h : Canonical s) : Canonical (s.putB f b) := h.put
theorem Canonical.bumpBy {f : Fld} {n : Nat} (h : Canonical s) : Canonical (s.bumpBy f n) := h.put
theorem Canonical.bump {f : Fld} (h : Canonical s) : Canonical (s.bump f) := h.bumpBy
theorem Canonical.satInc {f : Fld} (h : Canonical s) : Canonical (s.satInc f) := h.put

theorem Canonical.setOpt {f : Option Fld} (h : Canonical s) : Canonical (s.setOpt f) := by
  unfold State.setOpt
  split; exacts [h.put, h]

theorem Canonical.dirtyCfg (h : Canonical s) : Canonical s.dirtyCfg := h.put

/-! Machine/Link.lean -/

theorem Canonical.stackSend {kind cls dst tag addr bestat : Nat} {pl : Bytes} (h : Canonical s) : Canonical (s.stackSend kind cls dst tag addr bestat pl) :=
  .ite h (by split <;> exact h.upd)

theorem Canonical.stackMsg {dst sub : Nat} {pl : Bytes} (h : Canonical s) : Canonical (s.stackMsg dst sub pl) := h.stackSend

/-! Machine/Flags.lean -/

theorem Canonical.emit {o : Out} (h : Canonical s) : Canonical (s.emit o) := h.upd
theorem Canonical.refreshInta (h : Canonical s) : Canonical s.refreshInta := .ite h (.ite h.upd.emit h.upd)
theorem Canonical.signal {v : Nat} (h : Canonical s) : Canonical (s.signal v) := .ite (.ite (.ite h h.upd) h.emit) h.refreshInta
theorem Canonical.raise {f : Fld} (h : Canonical s) : Canonical (s.raise f) := .ite h.put (.ite h.put.signal h.put)
theorem Canonical.refreshFault (h : Canonical s) : Canonical s.refreshFault := .ite h h.putB.emit
theorem Canonical.refreshCpl (h : Canonical s) : Canonical s.refreshCpl := .ite h.upd.raise h
theorem Canonical.refreshIntn (h : Canonical s) : Canonical s.refreshIntn := .ite h (.ite h.upd.emit h.upd.emit.stackMsg)
theorem Canonical.refreshRolePin (h : Canonical s) : Canonical s.refreshRolePin := .ite h h.upd.emit
theorem Canonical.settle (h : Canonical s) : Canonical s.settle := h.refreshCpl.refreshInta.refreshIntn.refreshRolePin.refreshFault
theorem Canonical.fault {f : Fld} (h : Canonical s) : Canonical (s.fault f) := h.put.raise.refreshFault

/-! Machine/Ops.lean -/

theorem Canonical.onLane {n : Nat} {f : LaneS → LaneS} (h : Canonical s) : Canonical (s.onLane n f) := h.upd
theorem Canonical.onEnd {e : Nat} {f : EndS → EndS} (h : Canonical s) : Canonical (s.onEnd e f) := h.upd
theorem Canonical.reach {t : Nat} (h : Canonical s) : Canonical (s.reach t) := h.upd
theorem Canonical.freshFree (h : Canonical s) : Canonical s.freshFree.2 := h.upd
theorem Canonical.reachOp {target : Nat} (h : Canonical s) : Canonical (s.reachOp target) := .ite h h.upd
theorem Canonical.record {code : Nat} {params : Bytes} (h : Canonical s) : Canonical (s.record code params) := h.upd
theorem Canonical.secondFault {c1 c2 : Nat} (h : Canonical s) : Canonical (s.secondFault c1 c2) := h.record
theorem Canonical.recordGen {code key : Nat} {params : Bytes} (h : Canonical s) : Canonical (s.recordGen code key params) := .ite h h.upd.record
theorem Canonical.recordSec {code key : Nat} {params : Bytes} (h : Canonical s) : Canonical (s.recordSec code key params) := .ite h h.upd.record
theorem Canonical.recordSess {code key : Nat} {params : Bytes} (h : Canonical s) : Canonical (s.recordSess code key params) := .ite h h.upd.record
theorem Canonical.setLaneSt {n : Nat} {t : LaneSt} (h : Canonical s) : Canonical (s.setLaneSt n t) := h.put.onLane
theorem Canonical.markDirty {region o n : Nat} (h : Canonical s) : Canonical (s.markDirty region o n) := .ite h h.upd

/-! Machine/Store.lean -/

theorem Canonical.storeField {ok : Bool} {v : Nat} {f : Fld} (h : Canonical s) : Canonical (State.storeField ok v s f) := by
  unfold State.storeField
  split; exacts [h.put, .ite h.put h, h.put, h]

theorem Canonical.storeWord {a v : Nat} (h : Canonical s) : Canonical (s.storeWord a v) :=
  .refreshFault (.ite (.setOpt (.ite (.dirtyCfg (.foldl h fun h => h.storeField)) (.foldl h fun h => h.storeField))) (.ite (.dirtyCfg (.foldl h
      fun h => h.storeField)) (.foldl h fun h => h.storeField)))

theorem Canonical.setVoted {a : Nat} {v : Voted} (h : Canonical s) : Canonical (s.setVoted a v) := .ite h.upd (.ite h.upd (.ite h.upd h))

theorem Canonical.readVoted {a : Nat} (h : Canonical s) : Canonical (s.readVoted a) := by
  unfold State.readVoted
  split; exacts [h, .ite h (.ite h.setVoted.bumpBy.recordSec.fault h.setVoted.bumpBy.recordSec)]

theorem Canonical.clearIrq {a v : Nat} (h : Canonical s) : Canonical (s.clearIrq a v) :=
  .foldl (.foldl h fun h => h.put) fun h => .ite h.signal h.upd.refreshInta

theorem Canonical.post {a v : Nat} (h : Canonical s) : Canonical (s.post a v) := .ite h.setOpt h.upd.setOpt

theorem Canonical.clearOpt {f : Option Fld} (h : Canonical s) : Canonical (s.clearOpt f) := by
  unfold State.clearOpt
  split; exacts [h.put, h]

/-! Machine/Force.lean -/

theorem Canonical.applyForceTable (h : Canonical s) : Canonical s.applyForceTable := h.upd
theorem Canonical.refreshNact (h : Canonical s) : Canonical s.refreshNact := h.put
theorem Canonical.clearForces (h : Canonical s) : Canonical s.clearForces := h.upd.record.refreshNact.put

theorem Canonical.storeForce {i : Nat} {e : Bytes} (h : Canonical s) : Canonical (s.storeForce i e) :=
  .ite h.put.raise.record (.ite h.put.upd.refreshNact.record h.put.upd.refreshNact.record)

theorem Canonical.frcSel {v : Nat} (h : Canonical s) : Canonical (s.frcSel v) :=
  .ite h.put.put.put.put.clearForces (.ite h.put.put.put.storeForce.put h.put.put.put.put.put.put.put.put)

theorem Canonical.posted {a : Nat} {f : State → State} (h : Canonical s) (hf : ∀ {t}, Canonical t → Canonical (f t)) : Canonical (s.posted a f) :=
  .ite h.setOpt (hf h)

theorem Keeps.forceEntryStore {value : Word} : Keeps s (execForceEntryStore value s) := .live (.done fun h => h.posted fun h => h.frcSel)
theorem Keeps.forceClearAll {value : Word} : Keeps s (execForceClearAll value s) := .live (.done fun h => h.posted fun h => h.frcSel)
theorem Keeps.forceEntryLoad {value : Word} : Keeps s (execForceEntryLoad value s) := .live (.done fun h => h.posted fun h => h.frcSel)

/-! Machine/Claim.lean -/

theorem Canonical.noteEpoch {c : Nat} (h : Canonical s) : Canonical (s.noteEpoch c) := h.put
theorem Canonical.setTstate {c : Nat} (h : Canonical s) : Canonical (s.setTstate c) := .ite h h.put.raise
theorem Canonical.refreshRole (h : Canonical s) : Canonical s.refreshRole := h.putB
theorem Canonical.newClaim (h : Canonical s) : Canonical s.newClaim := .refreshRole (.noteEpoch (.put (.ite h.record h)))

theorem Canonical.takeClaim {cause : Nat} (h : Canonical s) : Canonical (s.takeClaim cause) :=
  .setTstate (.upd (.ite h.newClaim.bump.raise.record.record h.newClaim.bump.raise.record))

theorem Canonical.needFull (h : Canonical s) : Canonical s.needFull := h.put.put
theorem Canonical.endRelease (h : Canonical s) : Canonical s.endRelease := h.put.put.upd

theorem Canonical.yieldClaim {cause : Nat} (h : Canonical s) : Canonical (s.yieldClaim cause) :=
  .ite (.setTstate (.needFull (.record (.raise (.bump (.refreshRole (.put (.ite h.endRelease h)))))))) (.setTstate (.record (.raise (.bump
      (.refreshRole (.put (.ite h.endRelease h)))))))

theorem Canonical.dueYield {cause : Nat} (h : Canonical s) : Canonical (s.dueYield cause) := by
  unfold State.dueYield
  split; exacts [h.upd, .ite h h.secondFault]

theorem Canonical.stationClaim {c : Nat} (h : Canonical s) : Canonical (s.stationClaim c) :=
  .ite h.noteEpoch.put (.ite h.noteEpoch.put.stackMsg (.ite h.noteEpoch.put.upd (.ite h.noteEpoch.put.dueYield h.noteEpoch.put)))

theorem Canonical.dropAck (h : Canonical s) : Canonical s.dropAck := h.upd

theorem Canonical.judgeClaim {noon : Bool} (h : Canonical s) : Canonical (s.judgeClaim noon) := by
  refine .ite (.ite (.record (.newClaim (.upd (.ite h.newClaim h)))) (.ite h.newClaim h)) (.ite (.ite h.upd.yieldClaim ?_) (.ite h.upd (.ite
      h.upd.upd.takeClaim (.ite h.upd.takeClaim ?_))))
  · split
    · exact h.upd.yieldClaim
    · exact .ite h.upd.yieldClaim (.ite (.record (.raise (.bump (.newClaim (.ite h.upd.endRelease h.upd))))) (.ite h.upd.endRelease h.upd))
  · split; exacts [h.upd.takeClaim, .ite (.ite h.upd.takeClaim h.upd) h.upd]

theorem Canonical.claimBoundary {noon : Bool} (h : Canonical s) : Canonical (s.claimBoundary noon) := h.judgeClaim.dropAck
theorem Canonical.onBank {n : Nat} {f : BankS → BankS} (h : Canonical s) : Canonical (s.onBank n f) := .ite h.upd h.upd

theorem Canonical.fillMirror (h : Canonical s) : Canonical s.fillMirror := by
  refine .ite h (.foldl h.upd fun h => ?_)
  extract_lets +onlyGivenNames _
  split
  · exact .markDirty (h.write (h.image.withRetained (Memory.writeAll_wf _ _ h.image.retained)))
  · exact .markDirty (h.write (h.image.withNonret (Memory.writeAll_wf _ _ h.image.nonret)))
  · exact .markDirty (h.write (h.image.withComm (Memory.writeAll_wf _ _ h.image.comm)))
  · exact .ite h (by split; exacts [h.onBank.markDirty, h])

/-! Machine/Evaluate.lean -/

theorem Canonical.onTask {n : Nat} {f : TaskS → TaskS} (h : Canonical s) : Canonical (s.onTask n f) := h.upd

theorem Canonical.evalBlocks {b : Bytes} {n : Nat} {is : List (Nat × Inst)} (h : Canonical s) : Canonical (s.evalBlocks b n is) := by
  unfold State.evalBlocks
  extract_lets +onlyGivenNames _ _ e e'
  have he : e'.img.Wf := Ev.blocks_wf (e := e) h.image
  exact .onTask (.foldl (h.write he).onBank fun h => h.markDirty)

theorem Canonical.progress (h : Canonical s) : Canonical s.progress := by
  unfold State.progress
  split; exacts [.ite h h.freshFree.evalBlocks, h]

/-! Machine/Budget.lean -/

theorem Canonical.onStation {n : Nat} {f : StationS → StationS} (h : Canonical s) : Canonical (s.onStation n f) := h.upd
theorem Canonical.showBudget {b : Bytes} (h : Canonical s) : Canonical (s.showBudget b) := .foldl h fun h => h.put.put.put

/-! Machine/Fabric.lean -/

theorem Canonical.onFrame {fid : Nat} {g : PFrame → PFrame} (h : Canonical s) : Canonical (s.onFrame fid g) := h.upd
theorem Canonical.refuseBuf {cls : Cls} (h : Canonical s) : Canonical (s.refuseBuf cls) := h.bump.raise.recordSec
theorem Canonical.refreshFloor (h : Canonical s) : Canonical s.refreshFloor := h.putB

theorem Canonical.enterPool {t : State} {f : PFrame} {len fid : Nat} (h : Canonical s) (e : s.enterPool f len = some (fid, t)) : Canonical t := by
  obtain ⟨b, -, hb⟩ := Option.map_eq_some_iff.mp e
  exact .snd (p := (_, _)) h.upd.refreshFloor hb

theorem Canonical.freeFrame {fid : Nat} (h : Canonical s) : Canonical (s.freeFrame fid) := by
  unfold State.freeFrame
  split; exacts [h, h.upd.refreshFloor]

theorem Canonical.gc {fid : Nat} (h : Canonical s) : Canonical (s.gc fid) := by
  unfold State.gc
  split; exacts [h, .ite h.freeFrame h]

theorem Canonical.sendTo {n k : Nat} (h : Canonical s) : Canonical (s.sendTo n k) := by
  unfold State.sendTo
  split
  · exact h
  · split; exacts [h, .ite h h.emit.put.onLane]

theorem Canonical.flushSets {n : Nat} (h : Canonical s) : Canonical (s.flushSets n) := .onLane (.foldl h fun h => h.emit)

theorem Canonical.endTx {n : Nat} {good : Bool} (h : Canonical s) : Canonical (s.endTx n good) := by
  unfold State.endTx
  split; exacts [h, h.emit.onLane.flushSets.gc]

theorem Canonical.preTx {n p : Nat} (h : Canonical s) : Canonical (s.preTx n p) := h.sendTo.emit.onLane.flushSets

theorem Canonical.placeSets {n : Nat} (h : Canonical s) : Canonical (s.placeSets n) := by
  unfold State.placeSets
  split
  · exact h.flushSets
  · split; exacts [h, .ite h h.sendTo.flushSets.onLane]

theorem Canonical.advance {n : Nat} (h : Canonical s) : Canonical (s.advance n) := by
  unfold State.advance
  extract_lets +onlyGivenNames _
  split
  · exact h.placeSets
  · split
    · exact h.placeSets.onLane
    · refine .ite h.placeSets.sendTo.endTx ?_
      split; exacts [h.placeSets.preTx, .ite h.placeSets.sendTo.endTx h.placeSets.sendTo]

theorem Canonical.advanceAll (h : Canonical s) : Canonical s.advanceAll := .foldl h fun h => h.advance
theorem Canonical.insertSet {n : Nat} {o : Out} (h : Canonical s) : Canonical (s.insertSet n o) := h.advance.onLane.placeSets

theorem Canonical.finishTx {n : Nat} (h : Canonical s) : Canonical (s.finishTx n) := by
  unfold State.finishTx
  extract_lets +onlyGivenNames _ t
  have ht : Canonical t := by
    unfold t
    split; exacts [h.advance.reach.advance, h.advance]
  exact .ite ht.reach ht

theorem Canonical.setSeq {cls id q c : Nat} (h : Canonical s) : Canonical (s.setSeq cls id q c) := h.upd

theorem Canonical.nextSeq {cls id c : Nat} (h : Canonical s) : Canonical (s.nextSeq cls id c).2 := by
  unfold State.nextSeq
  split
  · exact h.setSeq
  · split; exacts [h, h.setSeq]

theorem Canonical.setUsed {fwd : Bool} {k : Nat} (h : Canonical s) : Canonical (s.setUsed fwd k) := .ite h.upd h.upd

theorem Canonical.numberOwn {fid : Nat} (h : Canonical s) : Canonical (s.numberOwn fid) := by
  unfold State.numberOwn
  split
  · exact h
  · split
    · exact h
    · refine .ite h ?_
      extract_lets +onlyGivenNames _ _ _ _ _
      split
      · exact h.setUsed.onFrame
      · exact .onFrame (by split; exacts [h.setUsed, h.setUsed.nextSeq])

theorem Canonical.startTx {n fid : Nat} {crossing : Bool} (h : Canonical s) : Canonical (s.startTx n fid crossing) := by
  unfold State.startTx
  split; exacts [h, h.numberOwn.emit.onLane]

theorem Canonical.dropItem {n fid : Nat} (h : Canonical s) : Canonical (s.dropItem n fid) := h.onLane.gc

theorem Canonical.dropAged {n k : Nat} {q : List QItem} (h : Canonical s) : Canonical (s.dropAged n q k).1 := by
  induction k generalizing s q with
  | zero => rw [State.dropAged]; exact h
  | succ k ih =>
    unfold State.dropAged
    split
    · exact h
    · split
      · exact h
      · split
        · exact ih h.dropItem.bump.raise.recordSec
        · exact h

theorem Canonical.resumeTx {n : Nat} (h : Canonical s) : Canonical (s.resumeTx n) := by
  unfold State.resumeTx
  split
  · exact h
  · split; exacts [h.onLane, .ite (.ite h.emit.onLane.endTx h) (.ite h.emit.onLane h)]

theorem Canonical.purgeLane {n : Nat} (h : Canonical s) : Canonical (s.purgeLane n) := .foldl h fun h => .ite h h.dropItem

theorem Canonical.refuseOwn {n fid code : Nat} (h : Canonical s) : Canonical (s.refuseOwn n fid code) := by
  unfold State.refuseOwn
  split
  · exact h
  · refine .dropItem ?_
    split
    · refine .ite h.onFrame (.ite h.onFrame.bump.raise.recordGen ?_)
      split; exacts [h.onFrame.bump.raise.recordGen, h.onFrame.bump.recordGen]
    · exact h.onFrame

theorem Canonical.dropLate {n : Nat} {q : List QItem} (h : Canonical s) : Canonical (s.dropLate n q) := by
  induction q generalizing s with
  | nil => exact h
  | cons it q ih =>
    unfold State.dropLate
    split
    · exact h
    · exact .ite h (ih h.refuseOwn)

theorem Canonical.startHead {t : State} {n : Nat} {q : List QItem} {ok : QItem → PFrame → Bool} (h : Canonical s) (e : s.startHead n q ok = some t) :
    Canonical t := by
  unfold State.startHead at e
  split at e
  · cases e
  · split at e
    · cases e; exact h.dropItem
    · split at e
      · cases e; exact h.startTx.onLane
      · cases e

theorem Canonical.chooseTx {n : Nat} (h : Canonical s) : Canonical (s.chooseTx n) := by
  refine .ite (.ite h.resumeTx h) ?_
  extract_lets +onlyGivenNames t l
  have ht : Canonical t := h.dropLate
  split
  next u e =>
    rcases (Option.orElse_eq_some _ _ _).mp e with e | ⟨-, e⟩
    · exact ht.startHead e
    · exact ht.startHead e
  next =>
    refine .ite ht.resumeTx ?_
    extract_lets +onlyGivenNames pass
    split
    next u qm e =>
    split
    next v qb e' =>
    have hv : Canonical v := .fst (Canonical.dropAged (.fst ht.dropAged e)) e'
    extract_lets +onlyGivenNames ok mFirst a b
    split
    next w e => exact hv.startHead e
    next =>
      refine .ite ?_ hv
      cases e : v.startHead n b ok with
      | none => exact hv
      | some w => exact hv.startHead e

theorem Canonical.enqueue {n fid : Nat} {exempt crossing : Bool} (h : Canonical s) : Canonical (s.enqueue n fid exempt crossing) := by
  unfold State.enqueue
  split
  · exact h
  · extract_lets +onlyGivenNames _ _
    split; exacts [.ite h.onLane (.ite h.onLane h.bump.raise), .ite h.onLane h.bump.raise, h.onLane]

theorem Canonical.originate {bytes : Bytes} {lanes : List Nat} {exempt : Bool} {code : Nat} {g : PFrame → PFrame} (h : Canonical s) : Canonical (s.originate
    bytes lanes exempt code g) := by
  refine .ite h ?_
  extract_lets +onlyGivenNames _
  split
  next => exact h.refuseBuf
  next fid s e => exact .gc (.foldl (.foldl (.onFrame (h.enterPool e)) fun h => h.enqueue) fun h => h.advance.chooseTx)

theorem Canonical.flushLane {n : Nat} (h : Canonical s) : Canonical (s.flushLane n) := .foldl h.onLane fun h => h.gc

theorem Canonical.badFrame {fid : Nat} (h : Canonical s) : Canonical (s.badFrame fid) :=
  .gc (.onFrame (.bumpBy (.foldl h.onFrame fun h => .ite h.bumpBy.onLane.advance (.ite h.bumpBy.onLane.chooseTx h.bumpBy.onLane))))

theorem Canonical.stallFrame {fid : Nat} (h : Canonical s) : Canonical (s.stallFrame fid) := .foldl h.badFrame fun h => h.onLane

theorem Canonical.setPoolByte {a : Nat} {v : Byte} (h : Canonical s) : Canonical (s.setPoolByte a v) := by
  unfold State.setPoolByte
  split; exacts [h, .ite h (.ite h.onFrame (.ite h.onFrame h.upd))]

/-! Machine/Joint.lean -/

theorem Canonical.refreshInau (h : Canonical s) : Canonical s.refreshInau := h.put
theorem Canonical.restLane {n : Nat} (h : Canonical s) : Canonical (s.restLane n) := h.setLaneSt.put.emit

theorem Canonical.abortRx {r : Option RxFrame} (h : Canonical s) : Canonical (s.abortRx r) := by
  unfold State.abortRx
  split; exacts [h.badFrame, h]

theorem Canonical.dropLane {n : Nat} (h : Canonical s) : Canonical (s.dropLane n) := h.abortRx.abortRx.bumpBy.advance.flushLane.onLane.put.put.put.put.put.put
theorem Canonical.refreshHop (h : Canonical s) : Canonical s.refreshHop := .ite (.recordGen (.ite h.putB h.putB.raise)) h.putB
theorem Canonical.dropPd {n : Nat} (h : Canonical s) : Canonical (s.dropPd n) := h.put.put.onLane.putB.refreshHop

theorem Canonical.markChange {e : Option Nat} (h : Canonical s) : Canonical (s.markChange e) := by
  unfold State.markChange
  extract_lets +onlyGivenNames _ _ _ _ _
  split
  · exact .refreshInau (.ite h.updRest.secondFault h.updRest)
  · exact .refreshInau (.onEnd (.ite h.updRest.secondFault h.updRest))

theorem Canonical.jointLost {e : Nat} (h : Canonical s) : Canonical (s.jointLost e) := .ite h.onEnd.record h.markChange

theorem Canonical.checkQuarantine {e : Nat} (h : Canonical s) : Canonical (s.checkQuarantine e) := by
  refine .ite h ?_
  extract_lets +onlyGivenNames _ _ t _
  have ht : Canonical t := .foldl h.onEnd.record fun h => .onLane (.restLane (.ite h.onLane.dropLane.dropPd.raise h))
  exact .ite ht.onEnd.jointLost ht.onEnd

theorem Canonical.jointGone {e : Nat} (h : Canonical s) : Canonical (s.jointGone e) := h.jointLost.checkQuarantine

theorem Canonical.jointChange {e : Option Nat} (h : Canonical s) : Canonical (s.jointChange e) := by
  unfold State.jointChange
  extract_lets +onlyGivenNames _
  split; exacts [h.markChange.checkQuarantine, h.markChange]

theorem Canonical.refreshIsolation {e : Nat} (h : Canonical s) : Canonical (s.refreshIsolation e) :=
  .ite h.onEnd (.ite h (.ite h.onEnd.purgeLane.purgeLane.record h.onEnd))

theorem Canonical.judgeJoint {e : Nat} (h : Canonical s) : Canonical (s.judgeJoint e) :=
  .refreshIsolation (.ite (.ite (.ite h.onEnd.onEnd.record h.onEnd.onEnd.jointChange) h.onEnd.jointChange) (.ite h.onEnd.jointGone h.onEnd))

theorem Canonical.judgePair {e : Nat} (h : Canonical s) : Canonical (s.judgePair e) := .ite h.onLane.purgeLane.record (.ite h.onLane.onLane h)
theorem Canonical.judgeLane {n : Nat} (h : Canonical s) : Canonical (s.judgeLane n) := h.onLane.judgePair.judgeJoint
theorem Canonical.leaveActive {n : Nat} (h : Canonical s) : Canonical (s.leaveActive n) := h.onLane.dropLane.dropPd.restLane.raise.judgeLane
theorem Canonical.retrain {n : Nat} (h : Canonical s) : Canonical (s.retrain n) := h.leaveActive.bump.record
theorem Canonical.codeErrors {n k : Nat} (h : Canonical s) : Canonical (s.codeErrors n k) := .ite h h.bumpBy.onLane
theorem Canonical.judgeErrors {n : Nat} (h : Canonical s) : Canonical (s.judgeErrors n) := .ite h.retrain h

/-! Machine/Ports.lean -/

theorem Canonical.onPort {p : Nat} {f : PortS → PortS} (h : Canonical s) : Canonical (s.onPort p f) := h.upd

theorem Canonical.routeOut {cls : Cls} {dst : Nat} {line? : Option Nat} (h : Canonical s) : Canonical (s.routeOut cls dst line?).2 := by
  unfold State.routeOut
  split
  · exact h
  · refine List.foldlRecOn (motive := fun p : List Nat × State => Canonical p.2) _ _ h fun acc ih e _ => ?_
    split
    · exact .ite ih ih.bump
    · split
      · exact ih
      · split
        · exact ih
        · exact .ite ih.bump ih

theorem Canonical.routeFrame {fid : Nat} {c : Cls} {dst : Nat} {bytes : Bytes} (h : Canonical s) : Canonical (s.routeFrame fid c dst bytes) :=
  .foldl (.foldl h.onFrame.routeOut.onFrame fun h => h.enqueue) fun h => h.advance.chooseTx

theorem Canonical.frameTo {dst mask : Nat} {c : Cls} {code : Nat} {data : Bytes} (h : Canonical s) : Canonical (s.frameTo dst mask c code data) := h.stackSend
theorem Canonical.frameUp {mask : Nat} {c : Cls} {code : Nat} {data : Bytes} (h : Canonical s) : Canonical (s.frameUp mask c code data) := h.frameTo
theorem Canonical.toMembers {n : Nat} {f : Bytes} (h : Canonical s) : Canonical (s.toMembers n f) := .foldl h fun h => h.frameTo
theorem Canonical.hostPut {addr : Nat} {b : Bytes} (h : Canonical s) : Canonical (s.hostPut addr b) := .foldl h fun h => h.emit

theorem Canonical.dropFetch {x : Fetch} (h : Canonical s) : Canonical (s.dropFetch x) := by
  unfold State.dropFetch
  split; exacts [h.onFrame.gc, h.freeFrame, h]

theorem Canonical.issueReads (h : Canonical s) : Canonical s.issueReads := .foldl h.upd fun h => h.emit
theorem Canonical.fetch {k : Fetch} {reads : List (Nat × Nat)} (h : Canonical s) : Canonical (s.fetch k reads) := h.upd.issueReads
theorem Canonical.setMod {p : Nat} {k : Bool × Nat} {m : Nat × Option Nat} (h : Canonical s) : Canonical (s.setMod p k m) := h.onPort

theorem Canonical.ringDone {p : Nat} {tx : Bool} {q : Nat} (h : Canonical s) : Canonical (s.ringDone p tx q) := by
  unfold State.ringDone
  extract_lets +onlyGivenNames _ _
  split; exact .ite h.setMod.raise h.setMod

theorem Canonical.passHead {p : Nat} {tx : Bool} {q idx n : Nat} (h : Canonical s) : Canonical (s.passHead p tx q idx n) :=
  .foldl h.onPort fun h => (by split; exacts [h, h.onPort.put])

theorem Canonical.toRing {p q fid : Nat} {data : Bytes} {ts tci stat : Nat} (h : Canonical s) : Canonical (s.toRing p q fid data ts tci stat) :=
  .ite h.bump.bump.raise h.onFrame.fetch

theorem Canonical.rxWrite {p q idx n fid : Nat} {data : Bytes} {ts tci stat : Nat} {descs : Bytes} (h : Canonical s) : Canonical (s.rxWrite p q idx n fid
    data ts tci stat descs) :=
  .ringDone (.upd (.passHead (.foldl (.foldl h fun h => h.hostPut) fun h => h.hostPut)))

theorem Canonical.rxTaken {p q : Nat} (h : Canonical s) : Canonical (s.rxTaken p q) := .foldl h.upd fun h => h.onFrame.gc

theorem Canonical.backNow {p : Nat} {h : HostTx} {result : Nat} {ts : Option Nat} (hs : Canonical s) : Canonical (s.backNow p h result ts) :=
  .ringDone (.passHead (.foldl hs fun h => h.hostPut))

theorem Canonical.writeBack {p : Nat} {h : HostTx} {result : Nat} {ts : Option Nat} (hs : Canonical s) : Canonical (s.writeBack p h result ts) :=
  .ite hs.upd hs.backNow

theorem Canonical.endCopy {p fid : Nat} (h : Canonical s) : Canonical (s.endCopy p fid) := h.onFrame.gc
theorem Canonical.flushItem {p : Nat} {it : PItem} (h : Canonical s) : Canonical (s.flushItem p it) := .endCopy (by split; exacts [h.writeBack, h.bump])

theorem Canonical.pushTx {p : Nat} {it : PItem} (h : Canonical s) : Canonical (s.pushTx p it) :=
  .ite h.onFrame.bump.endCopy (.ite h.onFrame.flushItem h.onFrame.onPort)

theorem Canonical.sendEth {p : Nat} {data : Bytes} {q : Nat} {ptp : Option (Nat × Nat)} {launch : Option Nat} {cor code claim : Nat} (h : Canonical s)
    : Canonical (s.sendEth p data q ptp launch cor code claim) := by
  unfold State.sendEth
  extract_lets +onlyGivenNames _ _ _
  split
  next => exact h.refuseBuf
  next fid s e => exact .gc (.pushTx (h.enterPool e))

theorem Canonical.flushPause {p : Nat} (h : Canonical s) : Canonical (s.flushPause p) := .ite h (.onPort (.foldl h fun h => h.emit.bump))
theorem Canonical.checkXoff {p : Nat} (h : Canonical s) : Canonical (s.checkXoff p) := .ite h.onPort (.ite h.onPort.flushPause h)

/-! Machine/Consist.lean -/

theorem Canonical.linkDown {p : Nat} (h : Canonical s) : Canonical (s.linkDown p) := by
  refine .ite h (.record (.raise (.foldl (.put (.put (.foldl (.onPort (.foldl h fun h => ?_)) fun h => .endCopy ?_))) fun h => h.flushItem)))
  · split
    · exact h.freeFrame
    · exact h
  · split
    · exact h.emit.writeBack
    · exact h.emit

theorem Canonical.linkGain {p speed : Nat} (h : Canonical s) : Canonical (s.linkGain p speed) :=
  .record (.raise (.ite h.put.put.put.put.putB.onPort.emit h.put.put.put.put.putB.onPort))

theorem Canonical.takeLink {p speed : Nat} {full : Bool} (h : Canonical s) : Canonical (s.takeLink p speed full) :=
  .ite h (.ite (.ite h.put.linkDown.put.onPort h.put.linkDown.put.onPort.record) (.ite h.put.linkGain (.ite h.put h.put.linkDown.linkGain)))

theorem Canonical.openRx {p : Nat} {latch : Bytes} {stamp : Nat} (h : Canonical s) : Canonical (s.openRx p latch stamp) := by
  unfold State.openRx
  exact .onPort (.ite h.bump h)
theorem Canonical.rxBytes {p : Nat} {bs : Bytes} (h : Canonical s) : Canonical (s.rxBytes p bs) := h.onPort
theorem Canonical.dropEth {p : Nat} (h : Canonical s) : Canonical (s.dropEth p) := by
  unfold State.dropEth
  exact .onPort (by split; exacts [h.freeFrame, h])

theorem Canonical.drawEth {p : Nat} (h : Canonical s) : Canonical (s.drawEth p) := by
  unfold State.drawEth
  split
  · exact h
  · refine .ite h ?_
    split
    · exact h.dropEth.bump.raise.recordSec
    · exact .checkXoff (.refreshFloor (.upd (by split; exacts [h.onFrame, h.upd.onPort])))

theorem Canonical.drawNeeded {p k : Nat} (h : Canonical s) : Canonical (s.drawNeeded p k) := by
  induction k generalizing s with
  | zero => exact h
  | succ k ih =>
    unfold State.drawNeeded
    split
    · exact h
    · exact .ite h (ih h.drawEth)

theorem Canonical.bbCopy {p fid : Nat} {c : Cls} {dst pmask : Nat} {data : Bytes} (h : Canonical s) : Canonical (s.bbCopy p fid c dst pmask data) :=
  .ite h.bump.recordSec (.ite h (.ite h.frameUp (.ite h.bump h.routeFrame)))

theorem Canonical.acceptEth {p : Nat} {r : EthRx} (h : Canonical s) : Canonical (s.acceptEth p r) := by
  unfold State.acceptEth
  extract_lets +onlyGivenNames _
  split
  · exact h.bump
  · refine .gc (.onFrame (.foldl ?_ fun h => .ite h.pushTx h))
    cases r.dest.bb <;> cases r.dest.host
    · exact h.bump.onFrame
    · exact h.bump.onFrame.toRing
    · exact h.bump.onFrame.bbCopy
    · exact h.bump.onFrame.bbCopy.toRing

theorem Canonical.endRx {p : Nat} {bs : Bytes} {err : Bool} {stamp : Nat} (h : Canonical s) : Canonical (s.endRx p bs err stamp) := by
  unfold State.endRx
  extract_lets +onlyGivenNames t
  have ht : Canonical t := by
    unfold t
    split; exacts [h.rxBytes, .ite h h.openRx.rxBytes]
  split
  · exact ht.bump
  · extract_lets +onlyGivenNames _ _
    split
    · exact .ite ht ht.drawNeeded
    · exact .ite (.onPort (.dropEth (.ite ht ht.drawNeeded))) (.ite (.bump (.onPort (.dropEth (.ite ht ht.drawNeeded)))) (.ite (.bump (.onPort
        (.dropEth (.ite ht ht.drawNeeded)))) (.ite (.bump (.onPort (.dropEth (.ite ht ht.drawNeeded)))) (.ite (.ite (.onPort (.dropEth (.ite ht
        ht.drawNeeded))) (.bump (.onPort (.dropEth (.ite ht ht.drawNeeded))))) (.acceptEth (.onPort (.ite ht ht.drawNeeded)))))))

theorem Canonical.smdError {p : Nat} (h : Canonical s) : Canonical (s.smdError p) := .bump (.onPort (by split; exacts [h.freeFrame, h]))
theorem Canonical.reopenFrag {p : Nat} {g : EthFrag} (h : Canonical s) : Canonical (s.reopenFrag p g) := h.onPort

theorem Canonical.endFragment {p : Nat} {early bs : Bytes} {err : Bool} {stamp frame next : Nat} (h : Canonical s) : Canonical (s.endFragment p early bs err
    stamp frame next) :=
  .ite h.endRx h.onPort

theorem Canonical.endPacket {p : Nat} {bs : Bytes} {err : Bool} {stamp : Nat} {k : Mpacket} (h : Canonical s) : Canonical (s.endPacket p bs err stamp k) := by
  unfold State.endPacket
  split
  · exact h.endRx
  · exact .ite h.bump h.emit
  · exact .ite h.bump (.ite h h.onPort.put)
  · exact .endFragment (.ite h.smdError h)
  · split
    · split; exacts [h.smdError, .ite h.endFragment h.dropEth.onPort.smdError]
    · exact .ite h.reopenFrag.endFragment h.dropEth.onPort.smdError
  · exact h.dropEth.onPort.smdError

theorem Canonical.decideRx {p : Nat} {latch : Bytes} {stamp : Nat} (h : Canonical s) : Canonical (s.decideRx p latch stamp) := by
  unfold State.decideRx
  split; exacts [.ite h.openRx.onPort h.openRx, h.openRx]

theorem Canonical.openCont {p : Nat} (h : Canonical s) : Canonical (s.openCont p) := by
  unfold State.openCont
  split
  · split; exacts [h.onPort, h]
  · exact h

theorem Canonical.startEth {p : Nat} {it : PItem} (h : Canonical s) : Canonical (s.startEth p it) := by
  unfold State.startEth
  exact .onPort (.ite h.bump h)

theorem Canonical.runEth {p : Nat} (h : Canonical s) : Canonical (s.runEth p) := by
  refine .ite h.flushPause (.ite ?_ ?_)
  · split; exacts [.ite h.flushPause (.ite h.flushPause.onPort h.flushPause), h.flushPause]
  · extract_lets +onlyGivenNames _ _
    split
    · split; exacts [.ite h.flushPause.onPort.startEth h.flushPause, h.flushPause]
    · split
      · split; exacts [h.flushPause.startEth, .ite h.flushPause.onPort h.flushPause]
      · split; exacts [h.flushPause.startEth, h.flushPause]

theorem Canonical.endEth {t : State} {p : Nat} {x : PTx} (h : Canonical s) (e : s.endEth p = some (x, t)) : Canonical t := by
  obtain ⟨b, -, hb⟩ := Option.map_eq_some_iff.mp e
  refine .snd (p := (_, _)) (.flushPause (.endCopy ?_)) hb
  split
  · exact h.reach.emit.bump.onPort.writeBack
  · exact h.reach.emit.bump.onPort

theorem Canonical.takePause {p quanta : Nat} (h : Canonical s) : Canonical (s.takePause p quanta) :=
  .ite h.bump (.ite h.bump.onPort.put.runEth h.bump.onPort.put)

theorem Canonical.endHold {p : Nat} (h : Canonical s) : Canonical (s.endHold p) := h.onPort.put.runEth

theorem Canonical.fetchTx {p q : Nat} {descs : Bytes} (h : Canonical s) : Canonical (s.fetchTx p q descs) := by
  refine .ite h ?_
  split
  · exact h.onPort
  · exact .ite h.onPort.writeBack h.onPort.writeBack.recordSec
  · refine .ite h.onPort.writeBack ?_
    extract_lets +onlyGivenNames _ _
    split
    next => exact .ite h h.bump.onPort
    next fid s e => exact .fetch (.onPort (h.enterPool e))

theorem Canonical.queueTx {p : Nat} {h : HostTx} {fcsins : Bool} {fid : Nat} {data : Bytes} (hs : Canonical s) : Canonical (s.queueTx p h fcsins fid data) :=
  .ite hs.writeBack.bump.freeFrame hs.onFrame.pushTx.gc

theorem Canonical.takeRule {p r v : Nat} (h : Canonical s) : Canonical (s.takeRule p r v) := by
  unfold State.takeRule
  exact h.put.onPort

theorem Canonical.writeRingCfg {p : Nat} {tx : Bool} {q v : Nat} (h : Canonical s) : Canonical (s.writeRingCfg p tx q v) :=
  .ite h.storeWord.put.onPort h.storeWord

theorem Canonical.writeMdio {p v : Nat} (h : Canonical s) : Canonical (s.writeMdio p v) := .ite h.put (.ite h.storeWord h.storeWord.put.emit.onPort)
theorem Canonical.writeConsCtrl {p v : Nat} (h : Canonical s) : Canonical (s.writeConsCtrl p v) := .ite h.storeWord h.storeWord.linkDown.put

theorem Keeps.consistLinkUp {port : Port} {speed : Fin 3} {fullDuplex : Bool} : Keeps s (execConsistLinkUp port speed fullDuplex s) :=
  .liveActive (.done fun h => h.takeLink)

theorem Keeps.consistLinkDown {port : Port} {sync : Bool} : Keeps s (execConsistLinkDown port sync s) :=
  .liveActive (.done fun h => h.linkDown.putB.onPort)

theorem Keeps.consistSteeringDecision {port : Port} {latch : Bytes} {ago : Nat} : Keeps s (execConsistSteeringDecision port latch ago s) :=
  .liveActive (.done fun h => .ite h.decideRx h)

theorem Keeps.consistBufferDraw {port : Port} {bytes : Bytes} : Keeps s (execConsistBufferDraw port bytes s) :=
  .liveActive (.done fun h => .ite h.openCont.rxBytes.drawEth h.openCont)

theorem Keeps.consistGiantByte {port : Port} {bytes : Bytes} : Keeps s (execConsistGiantByte port bytes s) := by
  refine .liveActive (.done fun h => ?_)
  split; exacts [h.openCont, .ite h.openCont h.openCont.rxBytes.dropEth.bump]

theorem Keeps.consistFrameEnd {port : Port} {bytes : Bytes} {ending : EthEnd} {ago : Nat} : Keeps s (execConsistFrameEnd port bytes ending
    ago s) :=
  .liveActive (.done fun h => .ite h.endPacket h)

theorem Keeps.filterRuleCommit {port : Port} {rule : Fin 64} {value : Word} : Keeps s (execFilterRuleCommit port rule value s) :=
  .live (.done fun h => h.takeRule)

theorem Keeps.consistTxFrameStart {port : Port} : Keeps s (execConsistTxFrameStart port s) := .liveActive (.done fun h => h.runEth)

theorem Keeps.telegramLaunch {port : Port} : Keeps s (execTelegramLaunch port s) :=
  .liveActive (.done fun h => (by split; exacts [h, h.reach.runEth]))

theorem Keeps.preemptionVerifyResult {port : Port} {ok : Bool} : Keeps s (execPreemptionVerifyResult port ok s) :=
  .liveActive (.done fun h => .ite h (.ite h.onPort.put h.onPort.put.raise.record))

theorem Keeps.pauseReceived {port : Port} {quanta : BitVec 16} : Keeps s (execPauseReceived port quanta s) :=
  .liveActive (.done fun h => .ite h.takePause h)

theorem Keeps.pauseHoldExpiry {port : Port} : Keeps s (execPauseHoldExpiry port s) :=
  .liveActive (.done fun h => (by split; exacts [h, h.reach.endHold]))

theorem Keeps.pauseRepeatTimer {port : Port} : Keeps s (execPauseRepeatTimer port s) := by
  refine .liveActive (.done fun h => ?_)
  split; exacts [h, .ite h.reach.onPort (.ite h.reach.onPort.flushPause h.reach)]

theorem Keeps.pauseXonReached {port : Port} : Keeps s (execPauseXonReached port s) := .liveActive (.done fun h => .ite h.onPort.flushPause h)

theorem Keeps.pauseWatchdogTrip {port : Port} : Keeps s (execPauseWatchdogTrip port s) := by
  refine .liveActive (.done fun h => ?_)
  split; exacts [.ite h h.reach.onPort.put.bump.record.raise.endHold, h]

theorem Keeps.pauseWatchdogEnd {port : Port} : Keeps s (execPauseWatchdogEnd port s) :=
  .liveActive (.done fun h => (by split; exacts [h, h.reach.onPort.put]))

theorem Keeps.txRingFetchStart {port : Port} {queue : Fin 8} {descs : Bytes} : Keeps s (execTxRingFetchStart port queue descs s) :=
  .liveActive (.done fun h => h.fetchTx)

theorem Keeps.ringEnableWrite {port : Port} {tx : Bool} {queue : Fin 8} {value : Word} : Keeps s (execRingEnableWrite port tx queue value s)
    :=
  .live (.done fun h => h.writeRingCfg)

theorem Keeps.ringIrqModeration {port : Port} {tx : Bool} {queue : Fin 8} : Keeps s (execRingIrqModeration port tx queue s) :=
  .liveActive (.done fun h => (by split; exacts [h.reach.setMod.raise, h]))

theorem Keeps.mdioFrameStart {port : Port} {value : Word} : Keeps s (execMdioFrameStart port value s) :=
  .liveActive (.done fun h => h.writeMdio)

theorem Keeps.mdioFrameEnd {port : Port} {driven : Bool} {data : BitVec 16} : Keeps s (execMdioFrameEnd port driven data s) := by
  refine .liveActive (.done fun h => ?_)
  split; exacts [h, .raise (.ite h.reach.onPort.put.put.putB h.reach.onPort.put)]

/-! Machine/Interlock.lean -/

theorem Canonical.refreshAct (h : Canonical s) : Canonical s.refreshAct := h.put
theorem Canonical.requestAct {a : Act} (h : Canonical s) : Canonical (s.requestAct a) := .ite h (.ite h.upd.refreshAct h.upd.bump)
theorem Canonical.pacePending (h : Canonical s) : Canonical s.pacePending := .ite h.upd.put h
theorem Canonical.endAct {a : Act} (h : Canonical s) : Canonical (s.endAct a) := h.upd.refreshAct.pacePending
theorem Canonical.suspendAct (h : Canonical s) : Canonical s.suspendAct := h.put.raise.record

/-! Machine/Lanes.lean -/

theorem Canonical.sendCr {n : Nat} (h : Canonical s) : Canonical (s.sendCr n) := h.onLane.insertSet
theorem Canonical.refreshOcc {n : Nat} (h : Canonical s) : Canonical (s.refreshOcc n) := .ite h.put.putB h.put.putB.sendCr
theorem Canonical.endTrailing {n : Nat} (h : Canonical s) : Canonical (s.endTrailing n) := h.onLane

theorem Canonical.endAsEb {n : Nat} (h : Canonical s) : Canonical (s.endAsEb n) := by
  unfold State.endAsEb
  split; exacts [h, h.abortRx.onLane.refreshOcc]

theorem Canonical.cutOpen {n : Nat} (h : Canonical s) : Canonical (s.cutOpen n) := by
  unfold State.cutOpen
  split; exacts [h, .ite h.endAsEb (.ite h.endAsEb.bump h.endAsEb.bump)]

theorem Canonical.endHeldAsEb {n : Nat} (h : Canonical s) : Canonical (s.endHeldAsEb n) := h.abortRx.onLane.put.refreshOcc
theorem Canonical.protoErr {n : Nat} (h : Canonical s) : Canonical (s.protoErr n) := h.bump.raise

theorem Canonical.takeBytes {n : Nat} {bs : Bytes} (h : Canonical s) : Canonical (s.takeBytes n bs) := by
  unfold State.takeBytes
  split; exacts [.ite h h.put.onLane, .ite h.put.onLane.endHeldAsEb.protoErr h.put.onLane]

theorem Canonical.passRest {n : Nat} {bs : Bytes} (h : Canonical s) : Canonical (s.passRest n bs) := h.takeBytes.onLane.refreshOcc

theorem Canonical.startResync {n : Nat} (h : Canonical s) : Canonical (s.startResync n) :=
  .ite h.abortRx.abortRx.onLane.put.refreshOcc.secondFault h.abortRx.abortRx.onLane.put.refreshOcc.onLane.bump.raise.record.insertSet

theorem Canonical.runTx {n : Nat} (h : Canonical s) : Canonical (s.runTx n) := h.advance.chooseTx
theorem Canonical.preemptCopies {fid k : Nat} (h : Canonical s) : Canonical (s.preemptCopies fid k) := .foldl h fun h => h.onLane.runTx

theorem Canonical.writeLaneCtrl {n v : Nat} (h : Canonical s) : Canonical (s.writeLaneCtrl n v) := by
  unfold State.writeLaneCtrl
  extract_lets +onlyGivenNames _ _ _ t
  have ht : Canonical t := .ite (.ite h.storeWord.leaveActive h.storeWord.restLane) (.ite h.storeWord.restLane h.storeWord)
  refine .ite ht ?_
  split; exacts [ht.retrain, ht.retrain, ht.restLane, ht.restLane, ht.restLane, ht.restLane, ht]

theorem Canonical.enterActive {n : Nat} (h : Canonical s) : Canonical (s.enterActive n) :=
  .ite h.setLaneSt.put.put.put.put.onLane.emit.emit.record.raise.record h.setLaneSt.put.put.put.put.onLane.emit.emit.record.raise

theorem Canonical.tryActive {n : Nat} (h : Canonical s) : Canonical (s.tryActive n) := .ite h.enterActive h
theorem Canonical.tryConfirm {n : Nat} (h : Canonical s) : Canonical (s.tryConfirm n) := .ite h.setLaneSt.onLane.emit h

theorem Canonical.takeTs {n : Nat} {c : Bytes} (h : Canonical s) : Canonical (s.takeTs n c) := by
  unfold State.takeTs
  extract_lets +onlyGivenNames _ _ _
  split
  · exact .ite h.putB.putB.put.onLane.setLaneSt.onLane h.putB.putB.put.onLane
  · exact .ite h.putB.putB.onLane.tryConfirm h.putB.putB
  · exact h.putB.putB.onLane.tryActive
  · exact .ite h.putB.putB h.putB.putB.retrain
  · exact .ite h.putB.putB h.putB.putB.retrain
  · exact h.putB.putB

theorem Canonical.badTs {n k : Nat} (h : Canonical s) : Canonical (s.badTs n k) := h.codeErrors.onLane.judgeErrors

theorem Keeps.laneEnableWrite {lane : Lane} {value : Word} : Keeps s (execLaneEnableWrite lane value s) :=
  .live (.done fun h => h.writeLaneCtrl)

theorem Keeps.laneRetrainWrite {lane : Lane} {value : Word} : Keeps s (execLaneRetrainWrite lane value s) :=
  .live (.done fun h => h.writeLaneCtrl)

theorem Keeps.laneSignalDetect {lane : Lane} : Keeps s (execLaneSignalDetect lane s) := .live (.done fun h => .ite h.put.setLaneSt h.put)

theorem Keeps.detectSignalStable {lane : Lane} : Keeps s (execDetectSignalStable lane s) :=
  .live (.done fun h => .ite h.reach.setLaneSt.onLane h)

theorem Keeps.detectSignalAbsent {lane : Lane} : Keeps s (execDetectSignalAbsent lane s) := .live (.done fun h => .ite h.put.setLaneSt h.put)

theorem Keeps.trainingSetReceived {lane : Lane} {line : TsLine} {chars : Bytes} : Keeps s (execTrainingSetReceived lane line chars s) :=
  .live (.done fun h => .ite (.takeTs (.ite h.endTrailing h)) (.badTs (.ite h.endTrailing h)))

theorem Keeps.receiverAdapted {lane : Lane} {ctle : Nat} {dfe1 dfe2 dfe3 : Byte} : Keeps s (execReceiverAdapted lane ctle dfe1 dfe2 dfe3 s) :=
  .live (.done fun h => .ite h.put.put.put.put.put.emit.tryConfirm h)

theorem Keeps.trainingTimeout {lane : Lane} : Keeps s (execTrainingTimeout lane s) := by
  refine .live (.done fun h => ?_)
  split; exacts [h, h.reach.bump.raise.record.restLane.setLaneSt]

theorem Keeps.laneSignalLoss {lane : Lane} : Keeps s (execLaneSignalLoss lane s) := .live (.done fun h => .ite h.put.put.retrain h.put.put)
theorem Keeps.laneAlignmentLoss {lane : Lane} : Keeps s (execLaneAlignmentLoss lane s) := .live (.done fun h => .ite h.put.retrain h.put)

theorem Keeps.codeErrorThreshold {lane : Lane} {seen : CodeErrors} : Keeps s (execCodeErrorThreshold lane seen s) :=
  .live (.done fun h => h.codeErrors.judgeErrors)

theorem Keeps.creditReturnReceived {lane : Lane} {f1 f2 nf : Byte} : Keeps s (execCreditReturnReceived lane f1 f2 nf s) :=
  .live (.done fun h => .ite (.ite h.endTrailing.put.runTx h.endTrailing.bump) h)

theorem Keeps.creditReturnTimer {lane : Lane} : Keeps s (execCreditReturnTimer lane s) := .live (.done fun h => .ite h.sendCr h)

theorem Keeps.laneSfReceived {lane : Lane} {debit : Byte} : Keeps s (execLaneSfReceived lane debit s) :=
  .live (.done fun h => .ite (.ite h.endTrailing.cutOpen.onLane.startResync h.endTrailing.cutOpen.onLane.onLane) h)

theorem Keeps.crsReqReceived {lane : Lane} {code value check : Byte} : Keeps s (execCrsReqReceived lane code value check s) := by
  refine .live (.done fun h => .ite (.onLane (.setLaneSt (.emit ?_))) h)
  split
  · exact .gc (.onLane (.ite h.endTrailing.advance.emit h.endTrailing.advance.endTx))
  · exact .ite h.endTrailing.advance.emit h.endTrailing.advance.endTx

theorem Keeps.crsAckReceived {lane : Lane} {code value check : Byte} : Keeps s (execCrsAckReceived lane code value check s) :=
  .live (.done fun h => .ite (.emit (.onLane (.ite h.endTrailing h))) (.ite h.endTrailing h))

theorem Keeps.resyncBufferDrained {lane : Lane} : Keeps s (execResyncBufferDrained lane s) := by
  refine .live (.done fun h => ?_)
  split; exacts [h, .ite h h.put.onLane.sendCr.insertSet]

theorem Keeps.crsDoneReceived {lane : Lane} {code value check : Byte} : Keeps s (execCrsDoneReceived lane code value check s) :=
  .live (.done fun h => .ite (.runTx (.setLaneSt (.onLane (.put (.ite h.endTrailing h))))) (.ite h.endTrailing h))

theorem Keeps.creditResyncTimeout {lane : Lane} : Keeps s (execCreditResyncTimeout lane s) := by
  refine .live (.done fun h => ?_)
  split; exacts [h, h.reach.record.retrain, h.reach.record.retrain, h.reach.record.retrain]

theorem Keeps.strayDataCharacter {lane : Lane} {char : Byte} : Keeps s (execStrayDataCharacter lane char s) :=
  .live (.done fun h => .ite h.onLane.put.codeErrors.startResync.judgeErrors h)

theorem Keeps.preemptReceived {lane : Lane} {bytes : Bytes} : Keeps s (execPreemptReceived lane bytes s) := by
  refine .live (.done fun h => ?_)
  split
  · exact h.passRest
  · extract_lets +onlyGivenNames _
    split
    · exact h.takeBytes
    · refine .ite (.refreshOcc (.put ?_)) h.takeBytes.endAsEb.protoErr
      split; exacts [h.takeBytes.onLane.onFrame.preemptCopies, h.takeBytes.onLane]

theorem Keeps.resumeReceived {lane : Lane} {debit : Byte} : Keeps s (execResumeReceived lane debit s) := by
  refine .live (.done fun h => .ite (.ite (.startResync (.ite h.endAsEb.protoErr.onLane h.endAsEb)) ?_) h)
  split
  · exact .ite h.endAsEb.protoErr.onLane h.endAsEb
  · exact .onLane (.put (.ite h.endAsEb.protoErr.onLane h.endAsEb))

theorem Keeps.txSourceStall {lane : Lane} : Keeps s (execTxSourceStall lane s) := by
  refine .live (.done fun h => ?_)
  split
  · exact h.advance
  · split; exacts [.ite h.advance h.advance.stallFrame.runTx, h.advance]

theorem Keeps.egressFrameStart {lane : Lane} : Keeps s (execEgressFrameStart lane s) := .live (.done fun h => h.finishTx.chooseTx)

theorem Keeps.expressIntervalStart {lane : Lane} : Keeps s (execExpressIntervalStart lane s) :=
  .live (.done fun h => (by split; exacts [h, h.reach.advance.chooseTx]))

theorem Keeps.giantByteReceived {lane : Lane} {bytes : Bytes} : Keeps s (execGiantByteReceived lane bytes s) := by
  refine .live (.done fun h => ?_)
  split
  · exact h.takeBytes.refreshOcc
  · extract_lets +onlyGivenNames _
    split; exacts [h.takeBytes, .ite h.takeBytes.refreshOcc h.takeBytes.abortRx.bump.onLane.refreshOcc]

/-! Machine/Rounds.lean -/

theorem Canonical.mailCheck (h : Canonical s) : Canonical s.mailCheck := .ite h h.put
theorem Canonical.onRound {f : Round → Round} (h : Canonical s) : Canonical (s.onRound f) := h.upd
theorem Canonical.noteRnd {r : Nat} (h : Canonical s) : Canonical (s.noteRnd r) := .ite h.upd h
theorem Canonical.stale (h : Canonical s) : Canonical s.stale := h.bump
theorem Canonical.twinEmit {t kind : Nat} {pl : Bytes} (h : Canonical s) : Canonical (s.twinEmit t kind pl) := .emit (.upd (.ite h.bump.upd h))

theorem Canonical.twinPump {k : Nat} (h : Canonical s) : Canonical (s.twinPump k) := by
  induction k generalizing s with
  | zero => exact h
  | succ k ih =>
    unfold State.twinPump
    split
    · exact h
    · exact .ite h (ih h.upd.twinEmit)

theorem Canonical.twinRun (h : Canonical s) : Canonical s.twinRun := h.twinPump
theorem Canonical.twinSend {kind : Nat} {pl : Bytes} (h : Canonical s) : Canonical (s.twinSend kind pl) := .ite h.twinRun.twinEmit h.twinRun.upd
theorem Canonical.fixItem (h : Canonical s) : Canonical s.fixItem := h.onRound

theorem Canonical.sendEntry (h : Canonical s) : Canonical s.sendEntry := by
  refine .ite ?_ h
  extract_lets +onlyGivenNames _
  split; exacts [h.fixItem, h.fixItem.twinSend]

theorem Canonical.sendWave {pl : Bytes} {lanes : List Nat} (h : Canonical s) : Canonical (s.sendWave pl lanes) := h.originate
theorem Canonical.sendRsum {pl : Bytes} {lanes : List Nat} (h : Canonical s) : Canonical (s.sendRsum pl lanes) := h.originate
theorem Canonical.originWave {r : Round} {e : Nat} {loop : Bool} (h : Canonical s) : Canonical (s.originWave r e loop) := h.sendWave

theorem Canonical.originWaves (h : Canonical s) : Canonical s.originWaves := by
  unfold State.originWaves
  extract_lets +onlyGivenNames _
  split
  · exact .ite h.fixItem h
  · refine .ite (.ite (.ite h.fixItem h) (.originWave (.originWave (.onRound (.ite h.fixItem h))))) ?_
    split
    · exact .upd (.onRound (.ite h.fixItem h))
    · exact .ite (.ite h.fixItem h) (.originWave (.onRound (.ite h.fixItem h)))
    · exact .ite h.fixItem h

theorem Canonical.dropPending (h : Canonical s) : Canonical s.dropPending := h.upd.put.mailCheck

theorem Canonical.endRelays (h : Canonical s) : Canonical s.endRelays := by
  unfold State.endRelays
  extract_lets +onlyGivenNames _
  split; exacts [h.advanceAll, .foldl h.advanceAll fun h => h.badFrame]

theorem Canonical.adopt {rnd starter : Nat} {cold : Bool} {ocyc : Nat} (h : Canonical s) : Canonical (s.adopt rnd starter cold ocyc) :=
  .refreshInau (.ite (.put (.raise (.bump (.upd (.ite h.endRelays.noteRnd.dropPending h.endRelays.noteRnd))))) (.originWaves (.sendEntry (.put
      (.raise (.bump (.upd (.ite h.endRelays.noteRnd.dropPending h.endRelays.noteRnd))))))))

theorem Canonical.startRound (h : Canonical s) : Canonical s.startRound := by
  unfold State.startRound
  extract_lets +onlyGivenNames _ _ _ _ _ _ _ _
  split; exacts [.sendWave (.onRound (.adopt (.bump h.record.upd))), .onRound (.adopt (.bump h.record.upd))]

theorem Canonical.tryStart (h : Canonical s) : Canonical s.tryStart := .ite h.upd (.ite h.upd.refreshInau h.startRound)
theorem Canonical.judgeStart (h : Canonical s) : Canonical s.judgeStart := .ite h.tryStart h.refreshInau

theorem Canonical.failRound {start : Bool} (h : Canonical s) : Canonical (s.failRound start) := by
  unfold State.failRound
  split
  · exact h
  · exact .refreshInau (.ite (.tryStart (.ite (.record (.raise (.put (.ite (.record (.put (.upd (.ite h.onRound h.onRound.secondFault)))) (.upd
      (.ite h.onRound h.onRound.secondFault)))))) (.ite (.record (.put (.upd (.ite h.onRound h.onRound.secondFault)))) (.upd (.ite h.onRound
      h.onRound.secondFault))))) (.ite (.record (.raise (.put (.ite (.record (.put (.upd (.ite h.onRound h.onRound.secondFault)))) (.upd (.ite
      h.onRound h.onRound.secondFault)))))) (.ite (.record (.put (.upd (.ite h.onRound h.onRound.secondFault)))) (.upd (.ite h.onRound
      h.onRound.secondFault)))))

theorem Canonical.abandonRound (h : Canonical s) : Canonical s.abandonRound := h.onRound.bump.upd.refreshInau

theorem Canonical.relayStart {e : Nat} (h : Canonical s) : Canonical (s.relayStart e) := by
  unfold State.relayStart
  split; exacts [h, .ite h.stale h.onRound.sendWave]

theorem Canonical.adoptFrom {e rnd starter : Nat} {cold : Bool} {ocyc : Nat} (h : Canonical s) : Canonical (s.adoptFrom e rnd starter cold ocyc) :=
  h.adopt.relayStart

theorem Canonical.takeStart {e : Nat} {pl : Bytes} (h : Canonical s) : Canonical (s.takeStart e pl) := by
  refine .ite h.noteRnd.adoptFrom (.ite ?_ h.noteRnd.stale)
  split; exacts [.ite (.ite h.noteRnd.onRound h.noteRnd.onRound.originWaves) h.noteRnd.relayStart, h.noteRnd]

theorem Canonical.judgeChain (h : Canonical s) : Canonical s.judgeChain := by
  unfold State.judgeChain
  split
  · exact h
  · refine .ite h (.ite h.record.bump.failRound ?_)
    split; exacts [h, .ite h.onRound.upd h.abandonRound]

theorem Canonical.relaySeg {g : Seg} (h : Canonical s) : Canonical (s.relaySeg g) := by
  unfold State.relaySeg
  split
  · exact h
  · refine .ite h ?_
    extract_lets +onlyGivenNames ps begun t
    have ht : Canonical t := h.onRound
    clear_value ps begun t
    split
    · extract_lets +onlyGivenNames full more
      have hfull : ∀ {b rest}, Canonical (full t b rest) := .foldl (.foldl ht.onFrame fun h => h.runTx) fun h => h.sendWave
      clear_value full more
      split
      · exact .ite hfull (.ite hfull (.foldl ht.badFrame fun h => h.sendWave))
      · exact .foldl ht fun h => h.sendWave
    · exact .foldl ht fun h => h.sendWave

theorem Canonical.beginRelay {n : Nat} {pl : Bytes} (h : Canonical s) : Canonical (s.beginRelay n pl) := by
  unfold State.beginRelay
  split
  · exact h
  · refine .ite h ?_
    extract_lets +onlyGivenNames _ _ _ _ _
    split
    next => exact h.refuseBuf
    next fid s e => exact .onRound (.foldl (h.enterPool e) fun h => h.enqueue.runTx)

theorem Canonical.copyRelay {n fid : Nat} {pl : Bytes} (h : Canonical s) : Canonical (s.copyRelay n fid pl) := .foldl h.onFrame fun h => h.runTx

theorem Canonical.relayWaiting (h : Canonical s) : Canonical s.relayWaiting := by
  refine .foldl h fun h => ?_
  split
  · exact h
  · split; exacts [h.relaySeg, h]

theorem Canonical.countRound {e : Nat} {pl : Bytes} {whole : Bool} (h : Canonical s) : Canonical (s.countRound e pl whole).1 := by
  unfold State.countRound
  extract_lets +onlyGivenNames _ _ _
  split
  · exact h.noteRnd.adoptFrom
  · split; exacts [h.noteRnd, .ite h.noteRnd.stale h.noteRnd]

theorem Canonical.startRelay {n : Nat} {pl : Bytes} (h : Canonical s) : Canonical (s.startRelay n pl) := by
  unfold State.startRelay
  split
  next s e => exact .fst h.countRound e
  next s e' =>
    extract_lets +onlyGivenNames _
    split
    · exact .fixItem (.fst h.countRound e')
    · refine .ite (.fixItem (.fst h.countRound e')) ?_
      extract_lets +onlyGivenNames _
      split
      · exact .copyRelay (.onRound (.fixItem (.fst h.countRound e')))
      · exact .beginRelay (.onRound (.fixItem (.fst h.countRound e')))

theorem Canonical.discardWave {w : Nat × Nat} (h : Canonical s) : Canonical (s.discardWave w) := h.onRound

theorem Canonical.failCopy {n : Nat} {key : Nat × Nat × Nat} (h : Canonical s) : Canonical (s.failCopy n key) := by
  unfold State.failCopy
  split
  · exact h
  · extract_lets +onlyGivenNames _ _ t
    have ht : Canonical t := by
      unfold t
      split
      · exact h.onRound
      · extract_lets +onlyGivenNames _
        split
        · exact h.onRound.badFrame.onRound.relaySeg
        · exact h.onRound.badFrame.onRound.beginRelay
        · exact h.onRound.badFrame.onRound
    exact .ite ht (.ite ht.discardWave ht)

theorem Canonical.takeCount {n : Nat} {pl : Bytes} {good : Bool} (h : Canonical s) : Canonical (s.takeCount n pl good) := by
  refine .ite ?_ ?_
  · split; exacts [h.onRound.failCopy, .ite h.onRound.failCopy h.onRound]
  · split
    next s e => exact .fst h.onRound.countRound e
    next s e' =>
      extract_lets +onlyGivenNames _
      split
      · exact .fixItem (.fst h.onRound.countRound e')
      · exact .ite (.fixItem (.fst h.onRound.countRound e')) (.judgeChain (.relayWaiting (.ite (.relaySeg (.ite (.onRound (.fixItem (.fst
          h.onRound.countRound e'))) (.fixItem (.fst h.onRound.countRound e')))) (.ite (.onRound (.fixItem (.fst h.onRound.countRound e')))
          (.fixItem (.fst h.onRound.countRound e'))))))

theorem Canonical.coldDaybreak {h : Held} {rnd : Nat} (hs : Canonical s) : Canonical (s.coldDaybreak h rnd) := hs.onRound.sendRsum.upd.put
theorem Canonical.mergeDaybreak {h : Held} {rnd : Nat} (hs : Canonical s) : Canonical (s.mergeDaybreak h rnd) := hs.onRound.originate.upd.put

theorem Canonical.applyDaybreak {tb : ℤ} {k tt : Nat} {cold bad : Bool} (h : Canonical s) : Canonical (s.applyDaybreak tb k tt cold bad) := by
  unfold State.applyDaybreak
  split; exacts [h, .put (.upd (.ite h.put.record.upd h))]

theorem Canonical.agreed {h : Held} (hs : Canonical s) : Canonical (s.agreed h) := by
  unfold State.agreed
  split
  · exact hs
  · refine .ite hs.record.failRound ?_
    extract_lets +onlyGivenNames _ _ _ t _
    have ht : Canonical t := by
      unfold t
      split; exacts [hs.onRound.raise.upd.mailCheck.put, hs.onRound.raise.upd.mailCheck]
    exact .refreshInau (.ite ht.coldDaybreak (.ite (.ite ht.mergeDaybreak ht.coldDaybreak) (by split; exacts [ht.applyDaybreak, ht])))

theorem Canonical.disagree {r : Round} {h : Held} {sum : Nat} (hs : Canonical s) : Canonical (s.disagree r h sum) :=
  hs.record.bump.raise.onRound.sendRsum.failRound

theorem Canonical.judgeAgree {a : Agree} (h : Canonical s) : Canonical (s.judgeAgree a) := by
  unfold State.judgeAgree
  split
  · exact h
  · split; exacts [h, .ite h (.ite h.onRound.disagree (.ite h.onRound h.onRound.sendRsum))]

theorem Canonical.judgeAgrees (h : Canonical s) : Canonical s.judgeAgrees := by
  unfold State.judgeAgrees
  split
  · exact h
  · extract_lets +onlyGivenNames _
    split
    · exact .foldl h fun h => h.judgeAgree
    · split
      · exact .foldl h fun h => h.judgeAgree
      · exact .ite (.agreed (.foldl h fun h => h.judgeAgree)) (.foldl h fun h => h.judgeAgree)

theorem Canonical.originAgree {r : Round} {h : Held} (hs : Canonical s) : Canonical (s.originAgree r h) :=
  .ite hs.onRound.sendRsum (by split; exacts [hs.onRound.sendRsum, hs.onRound])

theorem Canonical.computeEvents {h : Held} (hs : Canonical s) : Canonical (s.computeEvents h) := .ite (.record (.ite hs.record hs)) (.ite hs.record hs)

theorem Canonical.noAdmission {lone : Bool} (h : Canonical s) : Canonical (s.noAdmission lone) :=
  .refreshInau (.ite (.upd h.onRound.put.raise.put.upd) h.onRound.put.raise.put.upd)

theorem Canonical.computed (h : Canonical s) : Canonical s.computed := by
  unfold State.computed
  split
  · exact h
  · refine .ite h ?_
    split
    · exact h
    · split
      · exact h.noAdmission
      · extract_lets +onlyGivenNames _ _ _ t _
        have ht : Canonical t := by
          unfold t
          split
          · exact h.computeEvents.onRound.upd.originAgree
          · exact h.computeEvents.onRound.upd.originAgree
          · exact .ite h.computeEvents.onRound.upd.originAgree h.computeEvents.onRound.upd
        exact .ite ht.refreshInau.agreed ht.refreshInau.judgeAgrees

theorem Canonical.rsumRound {rnd : Nat} (h : Canonical s) : Canonical (s.rsumRound rnd).1 := by
  unfold State.rsumRound
  extract_lets +onlyGivenNames _
  split; exacts [h.noteRnd, h.noteRnd.stale]

theorem Canonical.takeAgree {e : Nat} {pl : Bytes} (h : Canonical s) : Canonical (s.takeAgree e pl) := by
  unfold State.takeAgree
  split
  next s q0 => exact .fst h.rsumRound q0
  next s q1 => exact .ite (.fst h.rsumRound q1) (.judgeAgrees (.onRound (.fst h.rsumRound q1)))

theorem Canonical.takeDisagree {e : Nat} {pl : Bytes} (h : Canonical s) : Canonical (s.takeDisagree e pl) := by
  unfold State.takeDisagree
  split
  next s q0 => exact .fst h.rsumRound q0
  next s q1 =>
    split
    · exact .fst h.rsumRound q1
    · extract_lets +onlyGivenNames _ _ _ t
      have ht : Canonical t := .ite (.fst h.rsumRound q1) (.sendRsum (.onRound (.fst h.rsumRound q1)))
      exact .ite ht (.failRound (.ite ht.raise.dropPending ht.raise))

theorem Canonical.takeDaybreak {n : Nat} {frame : Bytes} {ago : Nat} (h : Canonical s) : Canonical (s.takeDaybreak n frame ago) := by
  unfold State.takeDaybreak
  extract_lets +onlyGivenNames _
  split
  next s e => exact .fst h.rsumRound e
  next s e' =>
    split
    · exact .fst h.rsumRound e'
    · extract_lets +onlyGivenNames _ _ _ _ _ t _ _ _ _ _ _
      have ht : Canonical t := .ite (.fst h.rsumRound e') (.originate (.onRound (.fst h.rsumRound e')))
      exact .ite (.ite ht ht.applyDaybreak) (.ite ht ht.onRound)

/-! Machine/Inauguration.lean -/

theorem Canonical.endQuarantine {e c : Nat} (h : Canonical s) : Canonical (s.endQuarantine e c) := .ite h (.foldl h.onEnd.record fun h => .ite h.restLane h)
theorem Canonical.reinau {clear : Bool} (h : Canonical s) : Canonical (s.reinau clear) := by
  unfold State.reinau
  exact .jointChange (.endQuarantine (.endQuarantine (.ite h.put.upd h)))

theorem Canonical.writeInauCtrl {v : Nat} (h : Canonical s) : Canonical (s.writeInauCtrl v) :=
  .refreshInau (.ite (.reinau (.ite (.jointChange (.ite h.storeWord.jointChange h.storeWord)) (.ite h.storeWord.jointChange h.storeWord))) (.ite
      (.jointChange (.ite h.storeWord.jointChange h.storeWord)) (.ite h.storeWord.jointChange h.storeWord)))

theorem Canonical.takeLead {level : Bool} (h : Canonical s) : Canonical (s.takeLead level) := .ite h h.putB.raise.jointChange

theorem Canonical.takeProbe {n : Nat} {pl : Bytes} (h : Canonical s) : Canonical (s.takeProbe n pl) := by
  unfold State.takeProbe
  extract_lets +onlyGivenNames _ _ _ _ _ _ _ _ t _ _ _ u v _ w
  have ht : Canonical t := .ite h.noteRnd.onLane.mailCheck.onLane.bump.record h.noteRnd.onLane.mailCheck
  clear_value t
  have hu : Canonical u := .judgeLane (.updRest (.ite ht.purgeLane ht))
  clear_value u
  have hv : Canonical v := .ite hu.jointChange hu
  clear_value v
  have hw : Canonical w := hv.updRest
  exact .ite (.ite hw.onLane hw.onLane.record.reinau) hw.onLane

theorem Canonical.writeInauMb {v : Nat} (h : Canonical s) : Canonical (s.writeInauMb v) := h.storeWord.put.put.put.put.put
theorem Canonical.startCompact (h : Canonical s) : Canonical s.startCompact := h.upd.record.reinau

theorem Keeps.probeSendTimer {lane : Lane} : Keeps s (execProbeSendTimer lane s) := by
  refine .live (.done fun h => ?_)
  split; exacts [h, .ite h (.ite h.reach.onLane h.reach.onLane.originate)]

theorem Keeps.probeReceived {lane : Lane} {frame : Bytes} : Keeps s (execProbeReceived lane frame s) :=
  .live (.done fun h => .ite h.takeProbe h)

theorem Keeps.quarantineExpiry {vend : VEnd} : Keeps s (execQuarantineExpiry vend s) :=
  .live (.done fun h => (by split; exacts [h, h.reach.endQuarantine]))

theorem Keeps.probeAnswerTimeout {lane : Lane} : Keeps s (execProbeAnswerTimeout lane s) := by
  refine .live (.done fun h => ?_)
  split; exacts [h, .ite h.reach.onLane.bump.record h.reach.onLane]

theorem Keeps.inauEnWrite {value : Word} : Keeps s (execInauEnWrite value s) := .live (.done fun h => h.writeInauCtrl)
theorem Keeps.inauLeadmaskWrite {value : Word} : Keeps s (execInauLeadmaskWrite value s) := .live (.done fun h => h.writeInauCtrl)
theorem Keeps.inauReinauWrite {value : Word} : Keeps s (execInauReinauWrite value s) := .live (.done fun h => h.writeInauCtrl)
theorem Keeps.tStartupExpiry : Keeps s (execTStartupExpiry s) := .live (.done fun h => (by split; exacts [h, .judgeStart h.reach.upd]))
theorem Keeps.tSettleExpiry : Keeps s (execTSettleExpiry s) := .live (.done fun h => (by split; exacts [h, .judgeStart h.reach.upd]))

theorem Keeps.waveStartReceived {lane : Lane} {frame : Bytes} : Keeps s (execWaveStartReceived lane frame s) :=
  .live (.done fun h => .ite h.takeStart h)

theorem Keeps.countRelayStart {lane : Lane} {head : Bytes} : Keeps s (execCountRelayStart lane head s) :=
  .live (.done fun h => .ite h.startRelay h)

theorem Keeps.waveCountReceived {lane : Lane} {frame : Bytes} {good : Bool} : Keeps s (execWaveCountReceived lane frame good s) :=
  .live (.done fun h => .ite h.takeCount h)

theorem Keeps.agreeReceived {lane : Lane} {frame : Bytes} : Keeps s (execAgreeReceived lane frame s) :=
  .live (.done fun h => .ite h.takeAgree h)

theorem Keeps.disagreeReceived {lane : Lane} {frame : Bytes} : Keeps s (execDisagreeReceived lane frame s) :=
  .live (.done fun h => .ite h.takeDisagree h)

theorem Keeps.tWaveExpiry : Keeps s (execTWaveExpiry s) := .live (.done fun h => (by split; exacts [h, h.reach.bump.failRound]))

theorem Keeps.tAgreeExpiry : Keeps s (execTAgreeExpiry s) := by
  refine .live (.done fun h => ?_)
  split; exacts [h, .ite h.reach.dropPending.failRound h.reach.failRound]

theorem Keeps.daybreakReceived {lane : Lane} {frame : Bytes} {ago : Nat} : Keeps s (execDaybreakReceived lane frame ago s) :=
  .live (.done fun h => .ite h.takeDaybreak h)

theorem Keeps.mergeDaybreakReceived {lane : Lane} {frame : Bytes} {ago : Nat} : Keeps s (execMergeDaybreakReceived lane frame ago s) :=
  .live (.done fun h => .ite h.takeDaybreak h)

theorem Keeps.outageGraceExpiry {vend : VEnd} : Keeps s (execOutageGraceExpiry vend s) := by
  refine .live (.done fun h => ?_)
  split; exacts [h, h.reach.onEnd.record.jointChange]

theorem Keeps.inauMbselWrite {value : Word} : Keeps s (execInauMbselWrite value s) := .live (.done fun h => h.writeInauMb)

theorem Keeps.noagreeRoundSpacing : Keeps s (execNoagreeRoundSpacing s) := by
  refine .live (.done fun h => ?_)
  split; exacts [h, .ite (.startRound h.reach.upd) h.reach.upd]

/-! Machine/Tt.lean -/

theorem Canonical.refreshPubOver (h : Canonical s) : Canonical s.refreshPubOver := h.putB

theorem Canonical.refreshSchd (h : Canonical s) : Canonical s.refreshSchd := by
  unfold State.refreshSchd
  split
  · exact h.put.put.put.put.put.put.put.put.put.put.put
  · exact .refreshPubOver (.ite h.put.put.put.put.put.put.put.put.put.put.put.putB.raise.recordGen
      h.put.put.put.put.put.put.put.put.put.put.put.putB)

theorem Canonical.guardian (h : Canonical s) : Canonical s.guardian.2 := by
  unfold State.guardian
  extract_lets +onlyGivenNames hits hit silent was _ a b c
  have hc : Canonical c := .ite h.upd.putB.putB.putB.bump h.upd.putB.putB.putB
  exact .ite hc.raise.record (.ite hc.raise.record hc)

theorem Canonical.skipPub {i : Nat} (h : Canonical s) : Canonical (s.skipPub i) := h.bump.raise.recordGen
theorem Canonical.sendOwn {g : Gate} {fwd : Bool} {f : Bytes} (h : Canonical s) : Canonical (s.sendOwn g fwd f) := h.originate
theorem Canonical.dropMemberFrames {fwd : Bool} (h : Canonical s) : Canonical (s.dropMemberFrames fwd) := .foldl h.upd fun h => h.freeFrame

theorem Canonical.windowFrames {fwd : Bool} {w : Win} {t : Nat} (h : Canonical s) : Canonical (s.windowFrames fwd w t).2 :=
  List.foldlRecOn (motive := fun p : List (Nat × Nat × Bytes) × State => Canonical p.2) _ _ h fun _ ih _ _ => ih.nextSeq

theorem Canonical.sendWindow {fwd : Bool} {w : Win} (h : Canonical s) : Canonical (s.sendWindow fwd w) :=
  .foldl h.setUsed fun h => .ite (.ite h.skipPub h) h.sendOwn

theorem Canonical.passRelays {fwd : Bool} {w : Win} {k : Nat} (h : Canonical s) : Canonical (s.passRelays fwd w k) :=
  .ite h.upd (.foldl h.upd.windowFrames.upd fun h => h.twinSend.bump)

theorem Canonical.sendRelays {fwd : Bool} {w : Win} (h : Canonical s) : Canonical (s.sendRelays fwd w) := .ite h.upd (.foldl h.upd.setUsed fun h => h.sendOwn)
theorem Canonical.setStat {i : Nat} {t : SubStat} (h : Canonical s) : Canonical (s.setStat i t) := .upd (.ite h.put h)

theorem Canonical.deliverImg {o : Nat} {bs : Bytes} (h : Canonical s) : Canonical (s.deliverImg o bs) := by
  refine .ite (h.write (h.image.deliver _ _)) ?_
  extract_lets +onlyGivenNames _ _ _ _ _ u v
  have hu : Canonical u := h.progress.write (h.progress.image.deliver _ _)
  have hv : Canonical v := .ite hu.markDirty hu
  exact .ite hv.markDirty hv

theorem Canonical.clearSub {e : Bytes} (h : Canonical s) : Canonical (s.clearSub e) := .ite h h.deliverImg
theorem Canonical.goStale {i : Nat} (h : Canonical s) : Canonical (s.goStale i) := h.setStat.bump.raise.clearSub
theorem Canonical.tellRoster {ms : List Nat} (h : Canonical s) : Canonical (s.tellRoster ms) := .foldl h fun h => .foldl h fun h => h.stackMsg

theorem Canonical.resolveSubs (h : Canonical s) : Canonical s.resolveSubs := by
  refine .ite h (.foldl h fun h => ?_)
  split
  · refine .ite h ?_
    extract_lets +onlyGivenNames _
    split; exacts [h.setStat, .ite h.setStat.recordGen h.setStat.recordGen.raise.clearSub]

theorem Canonical.markLine {i line seq : Nat} (h : Canonical s) : Canonical (s.markLine i line seq) := .ite h.setStat h

theorem Canonical.deliverOne {i line : Nat} {vital : Bool} {seq : Nat} {data : Bytes} (h : Canonical s) : Canonical (s.deliverOne i line vital seq data) :=
  .ite h.markLine (.ite h (.ite h.bump h.deliverImg.setStat))

theorem Canonical.deliverSubs {line uid : Nat} {is : List Nat} {f : Bytes} (h : Canonical s) : Canonical (s.deliverSubs line uid is f) :=
  .foldl h fun h => .ite h.deliverOne h

theorem Canonical.applyTables (h : Canonical s) : Canonical s.applyTables := by
  unfold State.applyTables
  extract_lets +onlyGivenNames _ _ _ _ _ _ _ _ _ t
  have ht : Canonical t := by
    refine .foldl (.upd (.ite h.put h)) fun h => .ite h.setStat ?_
    split; exacts [h.setStat, h.setStat.raise.recordGen]
  exact .ite ht.refreshPubOver ht

theorem Canonical.putTd {b : Bytes} (h : Canonical s) : Canonical (s.putTd b) := h.put.put.put.put

theorem Canonical.schdSel {v : Nat} (h : Canonical s) : Canonical (s.schdSel v) :=
  .ite (.ite h.put.put.put.put.put (.ite (.ite h.put.put.put.put (.ite h.put.put.put.put.dirtyCfg.upd (.applyTables
      h.put.put.put.put.dirtyCfg.upd))) (.ite (.setStat h.put.put.put.put.dirtyCfg.upd) (.applyTables (.setStat h.put.put.put.put.dirtyCfg.upd)))))
      h.put.put.put.putTd.put

theorem Canonical.ifIdle {a : Nat} {f : State → State} (h : Canonical s) (hf : ∀ {t}, Canonical t → Canonical (f t)) : Canonical (s.ifIdle a f) :=
  .ite h.setOpt (hf h)

theorem Canonical.writeModeDesc {m v : Nat} (h : Canonical s) : Canonical (s.writeModeDesc m v) := .ite h.put (.ite h h.storeWord)

theorem Keeps.ownWindowOpen {fwd : Bool} : Keeps s (execOwnWindowOpen fwd s) := by
  refine .live (.done fun h => ?_)
  split
  · exact h
  · refine .ite h ?_
    extract_lets +onlyGivenNames o t silent _ u past v
    have hu : Canonical u := .ite h.reach (.ite h.reach.upd h.reach.upd)
    have hv : Canonical v := .ite hu (.ite hu.sendWindow (.ite hu.sendRelays hu))
    clear_value v
    exact .ite hv.dropMemberFrames.upd hv.dropMemberFrames.upd

theorem Keeps.subscriptionMaxageExpiry {entry : Nat} : Keeps s (execSubscriptionMaxageExpiry entry s) :=
  .live (.done fun h => .ite h.goStale h)

theorem Keeps.schdModedescWrite {mode : Fin 8} {value : Word} : Keeps s (execSchdModedescWrite mode value s) :=
  .live (.done fun h => h.writeModeDesc)

theorem Keeps.schdTableLoad {value : Word} : Keeps s (execSchdTableLoad value s) := .live (.done fun h => h.ifIdle fun h => h.schdSel)
theorem Keeps.schdTableStore {value : Word} : Keeps s (execSchdTableStore value s) := .live (.done fun h => h.ifIdle fun h => h.schdSel)

/-! Machine/Decision.lean -/

theorem Canonical.setStage {n : Nat} {t : RxStage} (h : Canonical s) : Canonical (s.setStage n t) := h.onLane

theorem Canonical.keepFrame {t : State} {n uid fid : Nat} {subs : List Nat} {own : Bool} (h : Canonical s)
    (e : s.keepFrame n uid subs own = some (fid, t)) : Canonical t := by
  unfold State.keepFrame at e
  split at e
  · cases e
  · obtain ⟨⟨k, u⟩, hu, e⟩ := Option.map_eq_some_iff.mp e
    cases e
    exact (h.enterPool hu).onLane

theorem Canonical.forward {fid : Nat} {cls : Cls} {lanes : List Nat} {crossing : Bool} (h : Canonical s) : Canonical (s.forward fid cls lanes crossing) :=
  .onFrame (.foldl (.onFrame (.foldl h fun h => .ite h.advance.enqueue.bump h.advance.enqueue)) fun h => h.chooseTx)

theorem Canonical.ttLanes {n : Nat} {f : Bytes} (h : Canonical s) : Canonical (s.ttLanes n f).2 := by
  unfold State.ttLanes
  extract_lets +onlyGivenNames _
  split
  · exact h
  · extract_lets +onlyGivenNames _ _ _ _
    split
    · extract_lets +onlyGivenNames _ _
      split; exacts [h.upd, h.upd.upd]
    · split
      · extract_lets +onlyGivenNames _ t
        have ht : Canonical t := by
          unfold t
          split; exacts [h, h.upd.record]
        split; exacts [ht, ht.upd]
      · exact h

theorem Canonical.timingFrame {n uid : Nat} {fwd : Bool} (h : Canonical s) : Canonical (s.timingFrame n uid fwd).2 := by
  unfold State.timingFrame
  extract_lets +onlyGivenNames _
  split; exacts [h, h.upd]

theorem Canonical.markTiming {n uid : Nat} {first : Bool} {d : ℤ} (h : Canonical s) : Canonical (s.markTiming n uid first d) := .ite h.onLane h
theorem Canonical.spoilTiming {n : Nat} {f : Bytes} (h : Canonical s) : Canonical (s.spoilTiming n f) := .ite h (by split; exacts [h.timingFrame, h])

theorem Canonical.police {n src : Nat} {late later : Bool} (h : Canonical s) : Canonical (s.police n src late later) :=
  h.bump.putB.putB.put.put.raise.recordGen.setStage

theorem Canonical.decideExpress {n : Nat} {f : Bytes} {stamp : Nat} (h : Canonical s) : Canonical (s.decideExpress n f stamp) := by
  refine .ite h.setStage.bump ?_
  split
  · exact h.setStage.bump
  · extract_lets +onlyGivenNames _
    split
    · exact h.setStage.bump
    · refine .ite h.setStage.bump ?_
      extract_lets +onlyGivenNames fwd crossing m t
      have ht : Canonical t := by
        unfold t m
        split
        · exact h
        · exact h.timingFrame
      clear_value m t
      split
      · refine .ite ht.markTiming.police (.ite ht.markTiming.police (.ite ht.markTiming.setStage.bump (.ite ht.markTiming.setStage ?_)))
        extract_lets +onlyGivenNames u
        have hu : Canonical u := ht.markTiming.onLane
        clear_value u
        split
        next => exact hu.setStage.refuseBuf
        next fid v e => exact .ite (hu.keepFrame e).forward (hu.keepFrame e).ttLanes.forward
      · exact ht.setStage.bump

theorem Canonical.mbLanes {n : Nat} {f : Bytes} (h : Canonical s) : Canonical (s.mbLanes n f).2 := by
  unfold State.mbLanes
  extract_lets +onlyGivenNames _
  split
  · exact h
  · split
    · exact .ite h h.bump
    · split
      · exact h
      · split <;> exact .ite h.bump h

theorem Canonical.decidePlain {n : Nat} {f : Bytes} (h : Canonical s) : Canonical (s.decidePlain n f) := by
  refine .ite h.setStage.bump ?_
  split
  · exact h.setStage.bump
  · refine .ite h.setStage.bump (.ite h.setStage.bump ?_)
    split
    next => exact h.setStage.refuseBuf
    next fid s e => exact .forward (.mbLanes (h.keepFrame e))

theorem Canonical.decideFrame {n : Nat} (h : Canonical s) : Canonical (s.decideFrame n) := by
  unfold State.decideFrame
  split
  · exact h
  · refine .ite h ?_
    extract_lets +onlyGivenNames _ _
    split
    · exact h.setStage.spoilTiming.bump
    · exact h.setStage.spoilTiming.bump
    · exact .ite h.setStage (.ite h.setStage (.ite h.setStage (.ite h.setStage.bump (.ite (.ite h.setStage h.setStage.bump) (.ite h.decideExpress
        (.ite h.setStage h.decidePlain))))))

theorem Canonical.runCopies {fid : Nat} (h : Canonical s) : Canonical (s.runCopies fid) := .foldl h fun h => .ite h.runTx h

theorem Canonical.feedFrame {n : Nat} (h : Canonical s) : Canonical (s.feedFrame n) := by
  unfold State.feedFrame
  split
  · exact h
  · split; exacts [h.onFrame.runCopies, h]

theorem Canonical.setVit {id : Nat} {v : VitS} (h : Canonical s) : Canonical (s.setVit id v) := h.upd

theorem Canonical.takeVital {n : Nat} {f : Bytes} {uid : Nat} {is : List Nat} (h : Canonical s) : Canonical (s.takeVital n f uid is) := by
  refine .ite h (.ite (.ite h.recordGen h) ?_)
  extract_lets +onlyGivenNames _ _ _ _ _ _
  split
  · exact .deliverSubs (.setVit (.put (.toMembers (.ite h.recordGen h))))
  · exact .ite (.deliverSubs (.setVit (.put (.toMembers (.ite h.recordGen h))))) (.ite (.bump (.setVit (.put (.toMembers (.ite h.recordGen h)))))
      (.ite (.foldl (.bump (.setVit (.put (.toMembers (.ite h.recordGen h))))) fun h => .ite h.markLine h) (.deliverSubs (.setVit (.put (.toMembers
      (.ite h.recordGen h)))))))

theorem Canonical.deliverEth {fid : Nat} {f : Bytes} (h : Canonical s) : Canonical (s.deliverEth fid f) := by
  refine .ite h ?_
  extract_lets +onlyGivenNames _ _ _ t
  have ht : Canonical t := .foldl h fun h => .ite h.pushTx h
  exact .ite ht (by split; exacts [ht.bump, ht.toRing])

theorem Canonical.deliver {n : Nat} {r : RxFrame} (h : Canonical s) : Canonical (s.deliver n r) := by
  unfold State.deliver
  extract_lets +onlyGivenNames _
  split
  · extract_lets +onlyGivenNames _
    split
    · exact .ite h.onFrame.deliverSubs.toMembers h.onFrame
    · exact .ite h.onFrame.takeVital h.onFrame
    · exact .ite h.onFrame.deliverEth h.onFrame
  · exact h

theorem Canonical.takeDev {n : Nat} {dev : Option (Nat × ℤ)} (h : Canonical s) : Canonical (s.takeDev n dev) := by
  unfold State.takeDev
  split; exacts [h, h.upd]

theorem Canonical.endFrame {n : Nat} {eg : Bool} {codeErrs : Nat} (h : Canonical s) : Canonical (s.endFrame n eg codeErrs) := by
  unfold State.endFrame
  extract_lets +onlyGivenNames _ _
  split
  · exact h.codeErrors.decideFrame
  · refine .ite h.codeErrors.decideFrame.feedFrame.onLane.refreshOcc (.ite h.codeErrors.decideFrame.feedFrame.onLane.refreshOcc.bump (.ite (.bump
      (.refreshOcc (.onLane ?_))) (.ite h.codeErrors.decideFrame.feedFrame.onLane.refreshOcc (.ite (.bump (.refreshOcc (.onLane ?_))) (.ite (.bump
      (.refreshOcc (.onLane ?_))) (.ite (.bump (.refreshOcc (.onLane ?_))) (.refreshOcc (.onLane ?_))))))))
    · split; exacts [h.codeErrors.decideFrame.feedFrame.badFrame, h.codeErrors.decideFrame.feedFrame]
    · split; exacts [h.codeErrors.decideFrame.feedFrame.badFrame, h.codeErrors.decideFrame.feedFrame]
    · split; exacts [h.codeErrors.decideFrame.feedFrame.badFrame, h.codeErrors.decideFrame.feedFrame]
    · split; exacts [h.codeErrors.decideFrame.feedFrame.badFrame, h.codeErrors.decideFrame.feedFrame]
    · split
      · exact h.codeErrors.decideFrame.feedFrame.bump.takeDev.deliver.onFrame.runCopies.gc
      · exact h.codeErrors.decideFrame.feedFrame.bump.takeDev.deliver

theorem Keeps.frameDecision {lane : Lane} {bytes : Bytes} : Keeps s (execFrameDecision lane bytes s) :=
  .live (.done fun h => .ite h.takeBytes.decideFrame.feedFrame.refreshOcc h.takeBytes.refreshOcc)

theorem Keeps.laneFrameEnd {lane : Lane} {bytes : Bytes} {good : Bool} {codeErrors : Nat} : Keeps s (execLaneFrameEnd lane bytes good
    codeErrors s) :=
  .live (.done fun h => .ite h.takeBytes.endFrame.judgeErrors h.codeErrors.passRest.judgeErrors)

/-! Machine/Remote.lean -/

theorem Canonical.sendNow {x : RemoteOut} (h : Canonical s) : Canonical (s.sendNow x) :=
  .ite h.readVoted (.ite h.readVoted.bump h.readVoted.upd.routeOut.originate.originate)

theorem Canonical.refreshOpen (h : Canonical s) : Canonical s.refreshOpen := h.put
theorem Canonical.sendOut {x : RemoteOut} (h : Canonical s) : Canonical (s.sendOut x) := .ite h.stackMsg (.ite h.upd.refreshOpen h.sendNow)
theorem Canonical.sendRemote {ty dst : Nat} {ack : Bool} {packet : Bytes} (h : Canonical s) : Canonical (s.sendRemote ty dst ack packet) := h.sendOut
theorem Canonical.drainRemote (h : Canonical s) : Canonical s.drainRemote := .refreshOpen (.foldl h.upd fun h => h.sendNow)
theorem Canonical.sendNotice {op : Nat} {params : Bytes} (h : Canonical s) : Canonical (s.sendNotice op params) := h.sendRemote
theorem Canonical.onSlot {n : Nat} {f : CmdSlot → CmdSlot} (h : Canonical s) : Canonical (s.onSlot n f) := h.upd

theorem Canonical.writeCompletion {sidx addr tag status op info : Nat} {result : Bytes} (h : Canonical s) : Canonical (s.writeCompletion sidx addr tag status
    op info result) :=
  .ite (.raise (.upd (.ite h.hostPut.hostPut.put.upd h.hostPut.hostPut.put))) (.upd (.ite h.hostPut.hostPut.put.upd h.hostPut.hostPut.put))

theorem Canonical.dropKey {n : Nat} (h : Canonical s) : Canonical (s.dropKey n) := .ite h.endAct h

theorem Canonical.complete {n status info : Nat} {result : Bytes} (h : Canonical s) : Canonical (s.complete n status info result) := by
  unfold State.complete
  split
  · exact h
  · extract_lets +onlyGivenNames _ _ _ _
    split
    · exact .ite (.refreshOpen (.upd (.ite h.upd.dropKey.refreshOpen.bump h.upd.dropKey.refreshOpen))) (.writeCompletion (.ite
        h.upd.dropKey.refreshOpen.bump h.upd.dropKey.refreshOpen))
    · exact .ite (.sendOut (.ite h.upd.dropKey.refreshOpen.bump h.upd.dropKey.refreshOpen)) (.ite h.upd.dropKey.refreshOpen.bump
        h.upd.dropKey.refreshOpen)
    · exact .stackMsg (.ite h.upd.dropKey.refreshOpen.bump h.upd.dropKey.refreshOpen)

theorem Canonical.completeOp {op status info : Nat} (h : Canonical s) : Canonical (s.completeOp op status info) := .foldl h fun h => h.complete
theorem Canonical.accept {n : Nat} {src : CmdSrc} {packet : Bytes} (h : Canonical s) : Canonical (s.accept n src packet) := h.upd.refreshOpen

theorem Canonical.screen {n : Nat} (h : Canonical s) : Canonical (s.screen n) := by
  unfold State.screen
  split
  · exact h
  · exact .ite h.complete (by split <;> exact .ite h.complete h)

theorem Canonical.replayNew {t : State} {origin seq : Nat} (h : Canonical s) (e : s.replayNew origin seq = some t) : Canonical t := by
  unfold State.replayNew at e
  extract_lets +onlyGivenNames table at e
  split at e
  · cases e; exact h.upd
  · extract_lets +onlyGivenNames d put at e
    split at e
    · cases e; exact h.upd
    · split at e
      · cases e
      · cases e; exact h.upd

theorem Canonical.refuseRemote {cause src : Nat} (h : Canonical s) : Canonical (s.refuseRemote cause src) := h.bump.raise.recordSec

theorem Canonical.remoteChecks {f : Bytes} (h : Canonical s) : Canonical (s.remoteChecks f).2 := by
  unfold State.remoteChecks
  extract_lets t c
  have ht : Canonical t := h.readVoted
  clear_value t c
  split
  · dsimp only
    exact ht.refuseRemote
  · split
    next u e => exact ht.replayNew e
    next =>
      dsimp only
      exact ht.refuseRemote

theorem Canonical.rejectTimeNot (h : Canonical s) : Canonical s.rejectTimeNot := h.bump.raise.recordGen

theorem Canonical.takeCmd {f : Bytes} (h : Canonical s) : Canonical (s.takeCmd f) := by
  refine .ite (.ite h.remoteChecks.rejectTimeNot h.remoteChecks) (.ite h.remoteChecks.upd ?_)
  split; exacts [.ite h.remoteChecks.bump.sendRemote h.remoteChecks.bump, h.remoteChecks.bump.accept.screen]

theorem Canonical.takeCpl {f : Bytes} (h : Canonical s) : Canonical (s.takeCpl f) := by
  refine .ite h.remoteChecks ?_
  dsimp only
  split; exacts [h.remoteChecks.complete, h.remoteChecks.stackMsg, h.remoteChecks.bump]

theorem Canonical.popNotice {t : State} {op : Nat} {f : Bytes} (h : Canonical s) (e : s.popNotice op = some (f, t)) : Canonical t := by
  unfold State.popNotice at e
  split at e
  · cases e
  · split at e
    · cases e; exact h.upd
    · cases e

theorem Keeps.cmdFrameReceived {lane : Lane} {frame : Bytes} : Keeps s (execCmdFrameReceived lane frame s) :=
  .live (.done fun h => .ite h.takeCmd h)

theorem Keeps.cplFrameReceived {lane : Lane} {frame : Bytes} : Keeps s (execCplFrameReceived lane frame s) :=
  .live (.done fun h => .ite h.takeCpl h)

/-! Machine/Program.lean -/

theorem Canonical.refreshPrg (h : Canonical s) : Canonical s.refreshPrg := h.putB.putB.putB.put.put.put.put.put
theorem Canonical.opResult {r : Nat} (h : Canonical s) : Canonical (s.opResult r) := h.put.raise
theorem Canonical.refuseOp {op r : Nat} (h : Canonical s) : Canonical (s.refuseOp op r) := .ite h.opResult.raise.record h.opResult
theorem Canonical.endOp {r : Nat} (h : Canonical s) : Canonical (s.endOp r) := h.put.opResult.completeOp
theorem Canonical.loadWrite {off : Nat} {data : Bytes} (h : Canonical s) : Canonical (s.loadWrite off data) := .ite h.upd.put h.upd.onBank.refreshPrg

theorem Canonical.validated (h : Canonical s) : Canonical s.validated :=
  .ite h (.ite h.put.putB.put.onBank.refreshPrg.record.endOp h.put.putB.put.onBank.refreshPrg.record.endOp)

theorem Canonical.storeDone {ok : Bool} (h : Canonical s) : Canonical (s.storeDone ok) :=
  .ite h (.ite h.endAct.onBank.refreshPrg.record.endOp.upd (.ite h.endAct.onBank.refreshPrg.upd.record.endOp.secondFault.suspendAct
      h.endAct.onBank.refreshPrg.upd.record.endOp))

theorem Canonical.swapForces (h : Canonical s) : Canonical s.swapForces := .ite h.clearForces.applyForceTable h

theorem Canonical.exchange {online : Bool} {kept init mism : Nat} (h : Canonical s) : Canonical (s.exchange online kept init mism) :=
  .raise (.record h.put.refreshPrg.upd.put.put.put.upd)

theorem Canonical.coldSwap (h : Canonical s) : Canonical s.coldSwap := h.swapForces.exchange

theorem Canonical.onlineSwap (h : Canonical s) : Canonical s.onlineSwap := by
  unfold State.onlineSwap
  split
  · exact .endOp (.markDirty (.showBudget (.exchange (.ite h.swapForces.onBank.upd.put.put.put.record h.swapForces.onBank.upd.put.put.put))))
  · exact h

theorem Canonical.failSwap {r : Nat} (h : Canonical s) : Canonical (s.failSwap r) := .endOp (.raise (.record (.put h.put.put.upd)))
theorem Canonical.cancelSwap {r : Nat} (h : Canonical s) : Canonical (s.cancelSwap r) := .ite h.failSwap h

theorem Canonical.swapBoundary {reph : Bool} (h : Canonical s) : Canonical (s.swapBoundary reph) := by
  unfold State.swapBoundary
  split
  · exact h
  · exact .ite h.put.failSwap h.put.put.put.upd
  · exact .ite h.put (.ite (.ite h.upd.failSwap h.upd.put) h.onlineSwap)

theorem Canonical.prgCmd {v : Nat} (h : Canonical s) : Canonical (s.prgCmd v) :=
  .ite (.ite h.put.put.put.failSwap h.put.put.put.opResult) (.ite h.put.put.put (.ite h.put.put.put.refuseOp (.ite h.put.put.put.put (.ite
      h.put.put.put.refuseOp (.ite (.ite h.put.put.put.opResult (.ite h.put.put.put.opResult (.requestAct (.put (.ite h.put.put.put.putB.upd
      h.put.put.put))))) (.ite (.ite h.put.put.put.refuseOp (.ite h.put.put.put.upd.put.put.upd h.put.put.put.upd.coldSwap.opResult)) (.ite (.ite
      h.put.put.put.opResult h.put.put.put.upd.refreshPrg.record.opResult) h.put.put.put.onBank.refreshPrg.opResult)))))))

theorem Canonical.writePrgCmd {v : Nat} (h : Canonical s) : Canonical (s.writePrgCmd v) := h.posted fun h => h.prgCmd

theorem Canonical.loadPrograms (h : Canonical s) : Canonical s.loadPrograms :=
  .ite h.upd.put.refreshPrg.refreshNact.record.raise h.upd.put.refreshPrg.refreshNact

theorem Keeps.loadWindowWrite {offset : Fin 524288} {data : Bytes} : Keeps s (execLoadWindowWrite offset data s) :=
  .liveActive (.done fun h => h.loadWrite)

theorem Keeps.validate {value : Word} : Keeps s (execValidate value s) := .live (.done fun h => h.writePrgCmd)
theorem Keeps.validateComplete : Keeps s (execValidateComplete s) := .live (.done fun h => h.validated)
theorem Keeps.store {value : Word} : Keeps s (execStore value s) := .live (.done fun h => h.writePrgCmd)
theorem Keeps.storeComplete {ok : Bool} : Keeps s (execStoreComplete ok s) := .live (.done fun h => h.storeDone)
theorem Keeps.swap {value : Word} : Keeps s (execSwap value s) := .live (.done fun h => h.writePrgCmd)
theorem Keeps.setstart {value : Word} : Keeps s (execSetstart value s) := .live (.done fun h => h.writePrgCmd)
theorem Keeps.reload {value : Word} : Keeps s (execReload value s) := .live (.done fun h => h.writePrgCmd)
theorem Keeps.cancel {value : Word} : Keeps s (execCancel value s) := .live (.done fun h => h.writePrgCmd)

/-! Machine/Modes.lean -/

theorem Canonical.setPendMode {m : Nat} (h : Canonical s) : Canonical (s.setPendMode m) := h.put.put.upd
theorem Canonical.announceMode {m : Nat} (h : Canonical s) : Canonical (s.announceMode m) := h.sendNotice.setPendMode
theorem Canonical.endModeReq {code : Nat} (h : Canonical s) : Canonical (s.endModeReq code) := .ite h.upd.put.completeOp h.upd.put.raise.record.completeOp

theorem Canonical.writeModeReq {v : Nat} (h : Canonical s) : Canonical (s.writeModeReq v) :=
  .ite h.storeWord (.ite h.storeWord.put.raise.completeOp h.storeWord.put.upd.announceMode)

theorem Canonical.restoreBoundary (h : Canonical s) : Canonical s.restoreBoundary := .ite h.upd.announceMode (.ite h.upd.announceMode h.upd.reinau)

theorem Canonical.modeBoundary (h : Canonical s) : Canonical s.modeBoundary :=
  .ite h.endModeReq (.ite h.restoreBoundary (.ite h (.ite h.upd.announceMode (.ite h.upd.reinau (.ite h (.ite h.endModeReq (.ite h.endModeReq
      h.upd.announceMode)))))))

theorem Canonical.takeModeAnn {f : Bytes} (h : Canonical s) : Canonical (s.takeModeAnn f) := .ite h.setPendMode h.raise.record
theorem Keeps.schdModereqGo {value : Word} : Keeps s (execSchdModereqGo value s) := .live (.done fun h => h.writeModeReq)

theorem Keeps.modeann : Keeps s (execModeann s) := by
  refine .live (.done fun h => ?_)
  split
  next f s e => exact .takeModeAnn (h.popNotice e)
  next => exact h

theorem Keeps.pendingModeLapse : Keeps s (execPendingModeLapse s) := .live (.done fun h => .ite h.put.put h)

/-! Machine/TrainTime.lean -/

theorem Canonical.onTpo {n : Nat} {f : TpoS → TpoS} (h : Canonical s) : Canonical (s.onTpo n f) := h.upd
theorem Canonical.tpoPin {n : Nat} {active : Bool} (h : Canonical s) : Canonical (s.tpoPin n active) := h.emit
theorem Canonical.lateUnit (h : Canonical s) : Canonical s.lateUnit := h.bump.raise.record
theorem Canonical.staleMb {k : Nat} (h : Canonical s) : Canonical (s.staleMb k) := .ite h.put h

theorem Canonical.fireTpo {n : Nat} {late : Bool} {now : Nat} (h : Canonical s) : Canonical (s.fireTpo n late now) := by
  unfold State.fireTpo
  extract_lets +onlyGivenNames _
  split
  · exact h
  · exact .ite (.tpoPin (.onTpo (.ite h.put.lateUnit h))) (.put (.tpoPin (.onTpo (.ite h.put.lateUnit h))))

theorem Canonical.stepUnits {p e : ℤ} (h : Canonical s) : Canonical (s.stepUnits p e) := by
  refine .foldl h fun h => ?_
  split; exacts [h, .ite (.onTpo (.ite h.fireTpo h)) (.ite h.fireTpo h)]

theorem Canonical.reachShort {target : Nat} (h : Canonical s) : Canonical (s.reachShort target) := h.reach
theorem Canonical.refreshTime (h : Canonical s) : Canonical s.refreshTime := h.putB.putB.put
theorem Canonical.refuseJump {e : ℤ} (h : Canonical s) : Canonical (s.refuseJump e) := .record (.raise (.staleMb h.put.bump.upd))

theorem Canonical.changeMap {e : ℤ} (h : Canonical s) : Canonical (s.changeMap e) := by
  unfold State.changeMap
  extract_lets +onlyGivenNames _ _ _ _ _ _ _ t _
  have ht : Canonical t := .ite h.upd (.ite h.upd.upd.record.raise.stepUnits.staleMb h.upd.refuseJump)
  exact .refreshTime (.staleMb (.staleMb (.ite ht.put.raise.record ht)))

theorem Canonical.rebaseMap (h : Canonical s) : Canonical s.rebaseMap := by
  unfold State.rebaseMap
  split; exacts [h.upd, h]

theorem Canonical.setMap {k : Nat} {tt : ℤ} (h : Canonical s) : Canonical (s.setMap k tt) := h.upd.put.staleMb.staleMb.refreshTime

theorem Canonical.adoptMap {k : Nat} {tt : ℤ} (h : Canonical s) : Canonical (s.adoptMap k tt) := by
  unfold State.adoptMap
  split; exacts [h.setMap, h.upd.changeMap]

theorem Canonical.timeSession (h : Canonical s) : Canonical s.timeSession := h.upd.put.refreshTime

theorem Canonical.setRefst {c : Nat} (h : Canonical s) : Canonical (s.setRefst c) :=
  .ite h (.ite h.put.raise.record.bump (.ite h.put.raise.record h.put.raise))

theorem Canonical.refreshRef (h : Canonical s) : Canonical s.refreshRef :=
  .ite (.setRefst (.putB (.ite h.upd h))) (.ite (.setRefst (.putB (.ite h.upd h))) (.putB (.ite h.upd h)))

theorem Canonical.announceSigma {x : ℤ} (h : Canonical s) : Canonical (s.announceSigma x) := .ite h h.upd
theorem Canonical.refreshTai (h : Canonical s) : Canonical s.refreshTai := h.putB

theorem Canonical.applyAnnounced (h : Canonical s) : Canonical s.applyAnnounced := by
  unfold State.applyAnnounced
  extract_lets +onlyGivenNames _ a
  have ha : Canonical a := by
    unfold a
    split
    · exact .ite h.upd.changeMap h
    · exact h
  clear_value a
  extract_lets +onlyGivenNames _ _ b
  have hb : Canonical b := by
    unfold b
    split
    · exact .ite ha.upd ha
    · exact ha
  clear_value b
  extract_lets +onlyGivenNames _ _ c
  have hc : Canonical c := by
    unfold c
    split
    · exact hb.upd
    · exact hb
  clear_value c
  split
  · exact hc.upd.adoptMap
  · exact hc

theorem Canonical.timeNoon {old : Option Nat} (h : Canonical s) : Canonical (s.timeNoon old) := .ite h.upd h.upd.upd

theorem Canonical.takeTimeNot {f : Bytes} (h : Canonical s) : Canonical (s.takeTimeNot f) := by
  refine .ite h.rejectTimeNot ?_
  extract_lets +onlyGivenNames _ _ _ _ _ _ _ _ _ _ _ _ _ t _ _ _ _ _
  have ht : Canonical t := .ite (.ite h.upd.refreshTai h.upd.refreshTai.bump.upd) (.ite h.upd.refreshTai (.ite h.upd.refreshTai
      h.upd.refreshTai.bump.upd))
  split
  · exact .ite (.upd (.ite (.upd (.ite ht.upd ht)) (.ite ht.upd ht))) (.ite (.upd (.ite ht.upd ht)) (.ite ht.upd ht))
  · exact .ite (.upd (.ite ht.upd ht)) (.ite ht.upd ht)

theorem Canonical.steerBy {e : ℤ} (h : Canonical s) : Canonical (s.steerBy e) :=
  .ite (.ite h.upd (.announceSigma (.setRefst (.ite h h.refuseJump)))) (.announceSigma (.upd (.ite h.upd.setRefst h)))

theorem Canonical.steerMean (h : Canonical s) : Canonical s.steerMean :=
  .ite h.upd (.ite h.upd.announceSigma (.ite h.upd.announceSigma (.ite h.upd h.upd.steerBy)))

theorem Canonical.notify (h : Canonical s) : Canonical s.notify := by
  unfold State.notify
  split; exacts [.ite h.sendNotice h, h]

theorem Canonical.endSteer (h : Canonical s) : Canonical s.endSteer := .ite h h.refreshRef.steerMean.upd.notify

theorem Canonical.timeBoundary (h : Canonical s) : Canonical s.timeBoundary := by
  unfold State.timeBoundary
  extract_lets +onlyGivenNames t
  have ht : Canonical t := h.staleMb.applyAnnounced.refreshTime.refreshRef.refreshTai
  exact .ite ht.upd (.ite ht.upd ht.upd.notify)

theorem Canonical.presetTime {off : ℤ} (h : Canonical s) : Canonical (s.presetTime off) := .ite h.upd h
theorem Canonical.takeOffset {e : ℤ} (h : Canonical s) : Canonical (s.takeOffset e) := h.put.upd

theorem Canonical.takePps (h : Canonical s) : Canonical s.takePps := by
  unfold State.takePps
  extract_lets +onlyGivenNames a _ b
  have hb : Canonical b := .ite h.refreshRef.upd h.refreshRef
  clear_value b
  refine .ite hb ?_
  cases b.time.todArmed with
  | some t =>
    dsimp only
    split
    · exact hb.upd.takeOffset
    · exact hb.upd.presetTime
  | none =>
    dsimp only
    split
    · exact hb.put.record.upd.takeOffset
    · exact hb.put.record.upd.presetTime

theorem Keeps.catchUpComplete : Keeps s (execCatchUpComplete s) := .live (.done fun h => .ite h h.reach.upd.put.raise.staleMb.record)

theorem Keeps.timenot : Keeps s (execTimenot s) := by
  refine .live (.done fun h => ?_)
  split
  next f s e => exact .takeTimeNot (h.popNotice e)
  next => exact h

theorem Keeps.steeringIntervalEnd : Keeps s (execSteeringIntervalEnd s) := .live (.done fun h => h.endSteer)
theorem Keeps.todArmWrite {value : Word} : Keeps s (execTodArmWrite value s) := .live (.done fun h => h.storeWord.upd)

theorem Canonical.writeTimeCtrl {v : Nat} (h : Canonical s) : Canonical (s.writeTimeCtrl v) :=
  .ite h.storeWord.refreshRef.upd.setRefst.record h.storeWord.refreshRef

theorem Keeps.timeAcceptWrite {value : Word} : Keeps s (execTimeAcceptWrite value s) := .live (.done fun h => h.writeTimeCtrl)

/-! Machine/Engine.lean -/

theorem Canonical.refreshTrun (h : Canonical s) : Canonical s.refreshTrun := h.put
theorem Canonical.setEngine {st cause : Nat} (h : Canonical s) : Canonical (s.setEngine st cause) := h.put.put
theorem Canonical.haltTasks (h : Canonical s) : Canonical s.haltTasks := .refreshTrun h.progress.upd
theorem Canonical.engineFault {cause : Nat} (h : Canonical s) : Canonical (s.engineFault cause) := h.haltTasks.cancelSwap.setEngine.record.raise
theorem Canonical.engineRefuse {cause : Nat} (h : Canonical s) : Canonical (s.engineRefuse cause) := h.setEngine.record.raise

theorem Canonical.checkStart (h : Canonical s) : Canonical s.checkStart := by
  unfold State.checkStart
  extract_lets +onlyGivenNames t _
  have ht : Canonical t := by
    unfold t
    split; exacts [h.showBudget, h]
  exact .ite ht.engineRefuse ht

theorem Canonical.applyKey (h : Canonical s) : Canonical s.applyKey := by
  unfold State.applyKey
  split
  · exact h
  · refine .ite h.upd ?_
    extract_lets +onlyGivenNames _ t
    have ht : Canonical t := h.upd.put.record.raise.cancelSwap
    clear_value t
    exact .ite (.setEngine (.haltTasks (.ite ht.record ht))) (.ite ht.setEngine.checkStart ht)

theorem Canonical.takeKey {a b : Bool} (h : Canonical s) : Canonical (s.takeKey a b) :=
  .ite (.upd (.ite h.putB.putB.putB.bump.record.raise h.putB.putB.putB)) (.applyKey (.upd (.ite h.putB.putB.putB.bump.record.raise h.putB.putB.putB)))

theorem Canonical.updStation {n : Nat} {f : StationS → StationS} (h : Canonical s) : Canonical (s.updStation n f) := .ite h.onStation.put h.onStation
theorem Canonical.latchStation {n : Nat} {t : StationS} (h : Canonical s) : Canonical (s.latchStation n t) := by
  unfold State.latchStation
  extract_lets b u r e
  have hu : Canonical u := h.updStation
  have hr : r.wf = true := Memory.write_wf _ _ hu.image.recv
  refine hu.write (hu.image.withRecv ?_)
  split
  · exact hr
  · exact Memory.writeAll_wf _ _ hr

theorem Canonical.latch {task : Option Nat} (h : Canonical s) : Canonical (s.latch task) := by
  unfold State.latch
  extract_lets +onlyGivenNames u r _ _ _ _ l ret non _ _ v w
  have hu : Canonical u := by
    unfold u
    split
    · exact .foldl h fun h => .ite h.latchStation h
    · exact h
  have hr : r.wf = true := Memory.writeAll_wf _ _ hu.image.recv
  have hl : l.wf = true :=
    applyBits_wf _ _ _ _ (applyBits_wf _ _ _ _ (Memory.copyRange_wf _ _ (Memory.copyRange_wf _ _ hu.image.latched hr) hr))
  have hret : ret.wf = true := applyBits_wf _ _ _ _ hu.image.retained
  have hnon : non.wf = true := applyBits_wf _ _ _ _ hu.image.nonret
  clear_value u r l ret non
  have hi : ImgS.Wf ⟨r, l, u.img.work, u.img.comm, ret, non⟩ := ⟨hr, hl, hu.image.work, hu.image.comm, hret, hnon⟩
  have hv : Canonical v := hu.write hi
  have hw : Canonical w := by
    unfold w
    split
    · exact hv.onTask
    · exact hv
  exact .put (.foldl hw fun h => .ite h.markDirty (.ite h.markDirty h))

theorem Canonical.release {n : Nat} (h : Canonical s) : Canonical (s.release n) := .ite h.onTask h.latch.onTask

theorem Canonical.startRun (h : Canonical s) : Canonical s.startRun := by
  unfold State.startRun
  extract_lets +onlyGivenNames t _ u
  have ht : Canonical t := h.haltTasks.setEngine
  have hu : Canonical u := .put (.markDirty (ht.write (ht.image.withNonret (m := []) rfl)))
  split
  · exact hu
  · exact hu.onBank.upd.markDirty

theorem Canonical.waitBoundary (h : Canonical s) : Canonical s.waitBoundary := .ite h (.ite h.checkStart.startRun h.checkStart)
theorem Canonical.loseRun (h : Canonical s) : Canonical s.loseRun := .ite h.haltTasks.setEngine.cancelSwap h

theorem Canonical.noonCheck {changed : Bool} (h : Canonical s) : Canonical (s.noonCheck changed) := by
  refine .ite h ?_
  split; exacts [h, .ite h.showBudget h.showBudget.engineFault]

theorem Canonical.applyStations (h : Canonical s) : Canonical s.applyStations := by
  refine .foldl h.upd fun h => ?_
  extract_lets +onlyGivenNames _ _ u _ v
  have hu : Canonical u := h.upd
  have hv : Canonical v := .ite hu (hu.write (hu.image.withRecv (Memory.write_wf _ _ hu.image.recv)))
  exact .ite hv.put hv

theorem Canonical.countMiss (h : Canonical s) : Canonical s.countMiss := .foldl h fun h => .ite h h.updStation

theorem Canonical.engineBoundary {reph tchg : Bool} (h : Canonical s) : Canonical (s.engineBoundary reph tchg) :=
  .refreshTrun (.ite (.foldl (.fillMirror (.waitBoundary (.swapBoundary (.noonCheck (.loseRun (.ite
      h.progress.countMiss.applyStations.applyKey.applyForceTable.upd h.progress.countMiss.applyStations.applyKey.applyForceTable))))))
      fun h => h.release) (.ite (.latch (.fillMirror (.waitBoundary (.swapBoundary (.noonCheck (.loseRun (.ite
      h.progress.countMiss.applyStations.applyKey.applyForceTable.upd h.progress.countMiss.applyStations.applyKey.applyForceTable))))))) (.foldl
      (.fillMirror (.waitBoundary (.swapBoundary (.noonCheck (.loseRun (.ite h.progress.countMiss.applyStations.applyKey.applyForceTable.upd
      h.progress.countMiss.applyStations.applyKey.applyForceTable)))))) fun h => h.latch)))

theorem Canonical.overrun {n : Nat} (h : Canonical s) : Canonical (s.overrun n) :=
  .ite h.bump.put.record.raise.onTask.secondFault.engineFault h.bump.put.record.raise.onTask

theorem Canonical.commit {n : Nat} (h : Canonical s) : Canonical (s.commit n) := by
  unfold State.commit
  extract_lets +onlyGivenNames _ _ _ c _ _ _ _ _ t
  have hc : c.wf = true := applyBits_wf _ _ _ _ (Memory.writeAll_wf _ _ h.image.comm)
  have ht : Canonical t := .markDirty (h.write (h.image.withComm hc))
  exact ht.put.onTask
theorem Canonical.commitTask {n : Nat} (h : Canonical s) : Canonical (s.commitTask n) := .ite h (.ite h.onTask.onTask (.ite h.onTask.overrun h.onTask.commit))
theorem Canonical.allDirty (h : Canonical s) : Canonical s.allDirty := h.markDirty.markDirty.markDirty.markDirty

theorem Canonical.sendMir {no k : Nat} {bs : List Bytes} (h : Canonical s) : Canonical (s.sendMir no k bs) := by
  induction k generalizing s bs with
  | zero => exact h
  | succ k ih => exact .ite h (ih h.twinSend)

theorem Canonical.openMirror (h : Canonical s) : Canonical s.openMirror :=
  .ite h (.ite h.twinRun (.twinSend (.sendMir (.upd (.ite h.twinRun.allDirty.upd h.twinRun)))))

theorem Canonical.commitPoint (h : Canonical s) : Canonical s.commitPoint := .ite h (.openMirror (.foldl h.reach.progress.upd fun h => h.commitTask))
theorem Canonical.commitBy {t : Nat} (h : Canonical s) : Canonical (s.commitBy t) := .ite h.commitPoint h

theorem Canonical.completeTask {n : Nat} (h : Canonical s) : Canonical (s.completeTask n) := by
  unfold State.completeTask
  extract_lets +onlyGivenNames _ _
  split
  · exact .ite h.commitPoint h
  · exact .ite (.ite h.commitPoint h) (.refreshTrun (.put (.put (.onTask (.evalBlocks (.ite h.commitPoint h))))))

theorem Canonical.writeCyclCtrl {v : Nat} (h : Canonical s) : Canonical (s.writeCyclCtrl v) :=
  .ite (.ite h.put h.putB) (.foldl (.ite h.put h.putB) fun h => .ite h.updStation h)

theorem Canonical.imageWrite {o : Nat} {data : Bytes} (h : Canonical s) : Canonical (s.imageWrite o data) := by
  refine .foldl h.progress.upd fun h => .ite h.put ?_
  extract_lets +onlyGivenNames _ t _ _ _ 
  have ht : Canonical t := .ite h.put h
  exact .ite (.markDirty (ht.write (ht.image.withRetained (Memory.write_wf _ _ ht.image.retained))))
    (.markDirty (ht.write (ht.image.withNonret (Memory.write_wf _ _ ht.image.nonret))))

theorem Keeps.taskInstanceComplete {task : Fin 4} : Keeps s (execTaskInstanceComplete task s) := .liveActive (.done fun h => h.completeTask)

theorem Keeps.guardianPoint {fwd : Bool} : Keeps s (execGuardianPoint fwd s) := by
  refine .live (.done fun h => ?_)
  split
  · exact h
  · extract_lets +onlyGivenNames _ t _ _ _
    have ht : Canonical t := h.reach.commitBy.progress.guardian
    exact .ite (.ite ht.upd ht.upd) (.passRelays (.ite ht.upd ht.upd))

theorem Keeps.taskCommit : Keeps s (execTaskCommit s) := .liveActive (.done fun h => h.commitPoint)
theorem Keeps.cyclEnWrite {value : Word} : Keeps s (execCyclEnWrite value s) := .live (.done fun h => h.writeCyclCtrl)
theorem Keeps.stationCfgallWrite {value : Word} : Keeps s (execStationCfgallWrite value s) := .live (.done fun h => h.writeCyclCtrl)

theorem Keeps.processImageHostWrite {offset : Fin 262144} {data : Bytes} : Keeps s (execProcessImageHostWrite offset data s) :=
  .liveActive (.done fun h => h.imageWrite)

/-! Machine/Stations.lean -/

theorem Canonical.assemble {n : Nat} (h : Canonical s) : Canonical (s.assemble n) := by
  unfold State.assemble
  split; exacts [h, .ite h h.reach.commitBy.progress.upd.bump.sendEth]

theorem Canonical.takeIn {n : Nat} {t : StationS} {g : Bytes} (h : Canonical s) : Canonical (s.takeIn n t g) := by
  unfold State.takeIn
  extract_lets e fl cyc claim tag dlen u ok err hi v w x y z
  have hv : Canonical v := h.bump.updStation
  have hw : Canonical w := .ite hv.record.raise hv
  have hx : Canonical x := .ite hw.record hw
  have hz : Canonical z := .stationClaim (.ite hx.raise.recordGen hx)
  clear_value z
  exact .ite (.ite hz (.onStation (hz.write (hz.image.withRecv (Memory.writeAll_wf _ _ hz.image.recv))))) (.ite hz.bump.onStation hz)

theorem Canonical.ioFrame {p : Nat} {f : Bytes} (h : Canonical s) : Canonical (s.ioFrame p f) := by
  unfold State.ioFrame
  extract_lets +onlyGivenNames _ _
  split; exacts [h.bump, .ite h.bump (.ite h.bump h.takeIn)]

theorem Canonical.loseStation {n : Nat} (h : Canonical s) : Canonical (s.loseStation n) := by
  unfold State.loseStation
  split; exacts [h, .ite h.updStation.bump.raise.record h]

theorem Canonical.stationSel {v : Nat} (h : Canonical s) : Canonical (s.stationSel v) :=
  .ite (.ite h.put.put.put.put.upd (.ite (.ite h.put.put.put.put.put.record (.ite h.put.put.put.put.dirtyCfg.upd (.applyStations
      h.put.put.put.put.dirtyCfg.upd))) h.put.put.put.put.put)) h.put.put.put.put.put.put.put.put

theorem Keeps.telegramAssembly {station : Fin 256} : Keeps s (execTelegramAssembly station s) := .liveActive (.done fun h => h.assemble)

theorem Keeps.ioInTelegramReceived {port : Port} {frame : Bytes} : Keeps s (execIoInTelegramReceived port frame s) :=
  .liveActive (.done fun h => .ite h.ioFrame h)

theorem Keeps.stationAccwinExpiry {station : Fin 256} : Keeps s (execStationAccwinExpiry station s) :=
  .liveActive (.done fun h => h.loseStation)

theorem Keeps.stationTableLoad {value : Word} : Keeps s (execStationTableLoad value s) :=
  .live (.done fun h => h.posted fun h => h.stationSel)

theorem Keeps.stationTableStore {value : Word} : Keeps s (execStationTableStore value s) :=
  .live (.done fun h => h.posted fun h => h.stationSel)

/-! Machine/Clock.lean -/

theorem Canonical.refreshMismatch (h : Canonical s) : Canonical s.refreshMismatch := .ite h.putB.raise h.putB

theorem Canonical.takePdown {n pdown : Nat} (h : Canonical s) : Canonical (s.takePdown n pdown) :=
  .ite h (.ite h.onLane.refreshMismatch (.refreshMismatch (.ite h.onLane.recordGen h.onLane)))

theorem Canonical.takeSample {n : Nat} {pd : ℤ} (h : Canonical s) : Canonical (s.takeSample n pd) :=
  .ite (.ite h.onLane (.refreshHop (.judgeLane (.ite h.put.put.onLane.raise.record h.put.put.onLane)))) (.ite (.ite h.bump.onLane h.bump.onLane)
      h.onLane.put.refreshHop)

theorem Canonical.takePdrsp {n : Nat} {pl : Bytes} {t4 : Nat} (h : Canonical s) : Canonical (s.takePdrsp n pl t4) := by
  unfold State.takePdrsp
  extract_lets +onlyGivenNames _ _ _ _
  split
  · exact .ite h.takePdown h
  · exact .ite (.ite h.takePdown h) (.ite (.onLane (.ite h.takePdown h)) (.takeSample (.onLane (.ite h.takePdown h))))

theorem Canonical.refreshSet (h : Canonical s) : Canonical s.refreshSet := .foldl h.put.put.putB fun h => h.put.put.put

theorem Canonical.setSyncState {c : Nat} (h : Canonical s) : Canonical (s.setSyncState c) :=
  .ite (.secondFault (.ite (.record (.raise (.ite (.record (.raise (.ite h.put.raise.record h.put))) (.ite h.put.raise.record h.put)))) (.ite
      (.record (.raise (.ite h.put.raise.record h.put))) (.ite h.put.raise.record h.put)))) (.ite (.record (.raise (.ite (.record (.raise (.ite
      h.put.raise.record h.put))) (.ite h.put.raise.record h.put)))) (.ite (.record (.raise (.ite h.put.raise.record h.put))) (.ite
      h.put.raise.record h.put)))

theorem Canonical.judgePrecision {c : Option ℤ} (h : Canonical s) : Canonical (s.judgePrecision c) :=
  .ite (.ite (.secondFault (.record (.raise (.ite (.bump (.putB (.ite h.upd h))) (.putB (.ite h.upd h)))))) (.ite (.secondFault (.record (.raise
      (.ite (.bump (.putB (.ite h.upd h))) (.putB (.ite h.upd h)))))) (.record (.raise (.ite (.bump (.putB (.ite h.upd h))) (.putB (.ite h.upd
      h))))))) (.ite (.record (.raise (.ite (.bump (.putB (.ite h.upd h))) (.putB (.ite h.upd h))))) (.ite (.bump (.putB (.ite h.upd h))) (.putB
      (.ite h.upd h))))

theorem Canonical.rateRound {m : List Entry} {n : Nat} (h : Canonical s) : Canonical (s.rateRound m n) := by
  unfold State.rateRound
  extract_lets +onlyGivenNames _ _
  split
  · exact .ite h.bumpBy (.ite h.bumpBy.upd (.ite (.recordSess (.raise (.putB (.put (.upd (.ite h.bumpBy.upd.bump h.bumpBy.upd)))))) (.putB (.put
      (.upd (.ite h.bumpBy.upd.bump h.bumpBy.upd))))))

theorem Canonical.syncRound {r : Roster} {carried : ℤ} (h : Canonical s) : Canonical (s.syncRound r carried) := by
  unfold State.syncRound
  extract_lets +onlyGivenNames _ _ _ _ _ _ _ _
  split
  · extract_lets +onlyGivenNames _ _ t _ _ _ _ _ _ _ _ _ _ _ u _ _ _ _ _
    have ht : Canonical t := .foldl h.bump.upd.bumpBy.bumpBy.put.put fun h => h.put.put
    have hu : Canonical u := by
      unfold u
      split; exacts [ht.put.put.put.bump.upd.setSyncState, .upd (.put (.put (.ite ht.put.put.bump ht.put.put)))]
    exact .judgePrecision (.ite (.ite hu.upd.rateRound hu.upd) (.setSyncState (.ite hu.upd.rateRound hu.upd)))

theorem Canonical.clearDevs (h : Canonical s) : Canonical s.clearDevs := .foldl h.upd fun h => h.onLane
theorem Canonical.refreshSyncOff (h : Canonical s) : Canonical s.refreshSyncOff := .ite h.setSyncState (.ite h.setSyncState h)
theorem Canonical.syncRephase (h : Canonical s) : Canonical s.syncRephase := h.upd.setSyncState.refreshSyncOff

theorem Canonical.pdFrame {n : Nat} {f : Bytes} {type : Nat} {take_ : State → Bytes → State} (h : Canonical s) (htake_ : ∀ {t x1}, Canonical t → Canonical
    (take_ t x1)) : Canonical (s.pdFrame n f type take_) :=
  .ite (.ite h.bump (htake_ h)) h

theorem Keeps.pdreqSendTimer {lane : Lane} : Keeps s (execPdreqSendTimer lane s) :=
  .live (.done fun h => (by split; exacts [h, .ite h h.reach.onLane.originate]))

theorem Keeps.pdreqReceived {lane : Lane} {frame : Bytes} {ago : Nat} {stamped : Bool} : Keeps s (execPdreqReceived lane frame ago stamped
    s) :=
  .live (.done fun h => h.pdFrame fun h => h.originate)

theorem Keeps.pdrspReceived {lane : Lane} {frame : Bytes} {ago : Nat} : Keeps s (execPdrspReceived lane frame ago s) :=
  .live (.done fun h => h.pdFrame fun h => h.takePdrsp)

theorem Keeps.syncWorstClear {value : Word} : Keeps s (execSyncWorstClear value s) := .live (.done fun h => .ite h.storeWord.put h.storeWord)

/-! Machine/Twin.lean -/

theorem Canonical.hbTick (h : Canonical s) : Canonical s.hbTick := .ite h h.reach.twinRun.twinSend.upd
theorem Canonical.hbConsist (h : Canonical s) : Canonical s.hbConsist := .ite h h.reach.twinRun.upd.sendEth
theorem Canonical.formPair {seek : Bool} (h : Canonical s) : Canonical (s.formPair seek) := .ite h (.ite h.upd h.upd.jointChange)

theorem Canonical.partnerBack (h : Canonical s) : Canonical s.partnerBack :=
  .ite h.record.raise.formPair.upd.allDirty.setTstate (.setTstate (.ite h.record.raise.formPair.upd.needFull h.record.raise.formPair.upd))

theorem Canonical.takeHb {link : Bool} {h : Bytes} (hs : Canonical s) : Canonical (s.takeHb link h) := by
  unfold State.takeHb
  extract_lets +onlyGivenNames _ _ _ _ t _ _ _ _ _ _ _ _
  have ht : Canonical t := .ite hs.bump.put hs.bump.put
  exact .ite (.ite (.upd (.ite (.upd (.ite (.dueYield (.ite (.upd (.noteEpoch (.put (.put (.put (.ite ht.upd ht.upd)))))) (.partnerBack (.upd
      (.noteEpoch (.put (.put (.put (.ite ht.upd ht.upd))))))))) (.ite (.upd (.noteEpoch (.put (.put (.put (.ite ht.upd ht.upd)))))) (.partnerBack
      (.upd (.noteEpoch (.put (.put (.put (.ite ht.upd ht.upd)))))))))) (.ite (.dueYield (.ite (.upd (.noteEpoch (.put (.put (.put (.ite ht.upd
      ht.upd)))))) (.partnerBack (.upd (.noteEpoch (.put (.put (.put (.ite ht.upd ht.upd))))))))) (.ite (.upd (.noteEpoch (.put (.put (.put (.ite
      ht.upd ht.upd)))))) (.partnerBack (.upd (.noteEpoch (.put (.put (.put (.ite ht.upd ht.upd))))))))))) (.ite (.upd (.ite (.dueYield (.ite (.upd
      (.noteEpoch (.put (.put (.put (.ite ht.upd ht.upd)))))) (.partnerBack (.upd (.noteEpoch (.put (.put (.put (.ite ht.upd ht.upd))))))))) (.ite
      (.upd (.noteEpoch (.put (.put (.put (.ite ht.upd ht.upd)))))) (.partnerBack (.upd (.noteEpoch (.put (.put (.put (.ite ht.upd ht.upd))))))))))
      (.ite (.dueYield (.ite (.upd (.noteEpoch (.put (.put (.put (.ite ht.upd ht.upd)))))) (.partnerBack (.upd (.noteEpoch (.put (.put (.put (.ite
      ht.upd ht.upd))))))))) (.ite (.upd (.noteEpoch (.put (.put (.put (.ite ht.upd ht.upd)))))) (.partnerBack (.upd (.noteEpoch (.put (.put (.put
      (.ite ht.upd ht.upd))))))))))) (.ite (.ite (.upd (.noteEpoch (.put (.put (.put (.ite ht.upd ht.upd)))))) (.partnerBack (.upd (.noteEpoch (.put
      (.put (.put (.ite ht.upd ht.upd)))))))) (.ite (.upd (.ite (.upd (.noteEpoch (.put (.put (.put (.ite ht.upd ht.upd)))))) (.partnerBack (.upd
      (.noteEpoch (.put (.put (.put (.ite ht.upd ht.upd))))))))) (.ite (.upd (.ite (.upd (.noteEpoch (.put (.put (.put (.ite ht.upd ht.upd))))))
      (.partnerBack (.upd (.noteEpoch (.put (.put (.put (.ite ht.upd ht.upd))))))))) (.ite (.upd (.noteEpoch (.put (.put (.put (.ite ht.upd
      ht.upd)))))) (.partnerBack (.upd (.noteEpoch (.put (.put (.put (.ite ht.upd ht.upd)))))))))))

theorem Canonical.entryCame (h : Canonical s) : Canonical s.entryCame := .ite h.fixItem.originWaves.relayWaiting.judgeChain h

theorem Canonical.pathSilent {link : Bool} (h : Canonical s) : Canonical (s.pathSilent link) := by
  unfold State.pathSilent
  extract_lets +onlyGivenNames t
  have ht : Canonical t := .ite h.put.entryCame h.put
  exact .ite ht.record.raise (.ite ht.record.raise.setTstate (.ite ht.record.raise.upd ht.record.raise))

theorem Canonical.writeTwinCtrl {v : Nat} (h : Canonical s) : Canonical (s.writeTwinCtrl v) :=
  .ite (.upd (.put (.put (.ite h.storeWord (.ite h.storeWord.upd h.storeWord.put))))) (.ite h.storeWord (.ite h.storeWord.upd h.storeWord.put))

theorem Canonical.twinRx {kind : Nat} {b : Bytes} {f : State → Bytes → State} (h : Canonical s) (hf : ∀ {t x1}, Canonical t → Canonical (f t x1)) : Canonical
    (s.twinRx kind b f) :=
  .ite h (by split; exacts [h.bump, .ite (hf h) h])

theorem Canonical.takeEntry {pl : Bytes} (h : Canonical s) : Canonical (s.takeEntry pl) := .ite h (.entryCame (.ite h.upd h.upd.record.upd))
theorem Canonical.takeRelay {pl : Bytes} (h : Canonical s) : Canonical (s.takeRelay pl) := .ite h.bump.setSeq.bump.recordGen h.bump.setSeq.upd
theorem Canonical.discardSet (h : Canonical s) : Canonical s.discardSet := h.bump.raise.needFull
theorem Canonical.openSet {no : Nat} (h : Canonical s) : Canonical (s.openSet no) := .ite h h.upd.discardSet
theorem Canonical.takeMir {pl : Bytes} (h : Canonical s) : Canonical (s.takeMir pl) := .ite h h.openSet.upd

theorem Canonical.takeSeal {pl : Bytes} (h : Canonical s) : Canonical (s.takeSeal pl) :=
  .ite h (.ite h.openSet.upd.discardSet h.openSet.upd.putB.upd.putB.put.bump)

theorem Canonical.sendRole (h : Canonical s) : Canonical s.sendRole := by
  unfold State.sendRole
  split; exacts [h, .ite h h.sendNotice]

theorem Canonical.takeRole {f : Bytes} (h : Canonical s) : Canonical (s.takeRole f) := h.upd

theorem Canonical.sendVerdict {pos kind chip claim : Nat} (h : Canonical s) : Canonical (s.sendVerdict pos kind chip claim) :=
  .record (.upd (.bump (.foldl h fun h => h.sendOut)))

theorem Canonical.watchRoles (h : Canonical s) : Canonical s.watchRoles := by
  unfold State.watchRoles
  split
  · exact h
  · exact .ite h.upd (.foldl h.upd fun h => .ite h (by split; exacts [.sendVerdict (.ite h.upd h), h]))

theorem Canonical.takeVerdict {f : Bytes} (h : Canonical s) : Canonical (s.takeVerdict f) := .ite h h.bump.upd

theorem Canonical.actVerdict (h : Canonical s) : Canonical s.actVerdict := by
  refine .ite h ?_
  split
  · exact h
  · exact .ite (.ite h.upd.record.raise h.upd.record.raise.dueYield) (.ite (.ite h.upd.record.raise.dueYield h.upd.record.raise) (.ite
      h.upd.record.raise h.upd.record.raise.upd))

theorem Keeps.twinHbTick : Keeps s (execTwinHbTick s) := .liveActive (.done fun h => h.hbTick)
theorem Keeps.consistHbSend : Keeps s (execConsistHbSend s) := .liveActive (.done fun h => h.hbConsist)

theorem Keeps.twinHbReceived {frame : Bytes} : Keeps s (execTwinHbReceived frame s) :=
  .liveActive (.done fun h => h.twinRx fun h => .ite h.takeHb h)

theorem Keeps.consistHbReceived {port : Port} {frame : Bytes} : Keeps s (execConsistHbReceived port frame s) :=
  .liveActive (.done fun h => .ite h.takeHb h)

theorem Keeps.twinPathSilent : Keeps s (execTwinPathSilent s) :=
  .liveActive (.done fun h => (by split; exacts [.ite h.reach.pathSilent h, h]))

theorem Keeps.consistPathSilent : Keeps s (execConsistPathSilent s) :=
  .liveActive (.done fun h => (by split; exacts [.ite h.reach.pathSilent h, h]))

theorem Keeps.seekTimeout : Keeps s (execSeekTimeout s) :=
  .liveActive (.done fun h => (by split; exacts [.ite (.setTstate h.reach.upd) h, h]))

theorem Keeps.twinTakeWrite {value : Word} : Keeps s (execTwinTakeWrite value s) := .liveActive (.done fun h => h.writeTwinCtrl)
theorem Keeps.twinYieldWrite {value : Word} : Keeps s (execTwinYieldWrite value s) := .liveActive (.done fun h => h.writeTwinCtrl)

theorem Keeps.twinEntryReceived {frame : Bytes} : Keeps s (execTwinEntryReceived frame s) :=
  .liveActive (.done fun h => h.twinRx fun h => h.takeEntry)

theorem Keeps.twinRelayReceived {frame : Bytes} : Keeps s (execTwinRelayReceived frame s) :=
  .liveActive (.done fun h => h.twinRx fun h => h.takeRelay)

theorem Keeps.mirFrameReceived {frame : Bytes} : Keeps s (execMirFrameReceived frame s) :=
  .liveActive (.done fun h => h.twinRx fun h => h.takeMir)

theorem Keeps.mirrorSealReceived {frame : Bytes} : Keeps s (execMirrorSealReceived frame s) :=
  .liveActive (.done fun h => h.twinRx fun h => h.takeSeal)

theorem Keeps.rolenot : Keeps s (execRolenot s) := by
  refine .live (.done fun h => ?_)
  split
  next f s e => exact .takeRole (h.popNotice e)
  next => exact h

theorem Keeps.verdict : Keeps s (execVerdict s) := by
  refine .live (.done fun h => ?_)
  split
  next f s e => exact .takeVerdict (h.popNotice e)
  next => exact h

/-! Machine/Noon.lean -/

theorem Canonical.showRoster {h : Held} (hs : Canonical s) : Canonical (s.showRoster h) := by
  refine .ite (.put ?_) ?_
  all_goals
    split
    · exact hs.put.put.put.put.put.put.put.put.put.put.putB.putB.putB
    · exact hs.put.put.put.put.put.put.put.put.put.put.putB.putB

theorem Canonical.showModeMismatch {r : Roster} (h : Canonical s) : Canonical (s.showModeMismatch r) := .ite h.putB.raise.recordGen h.putB

theorem Canonical.forceEvents {r : Roster} {had oldLoop : Bool} {oldMode : Nat} (h : Canonical s) : Canonical (s.forceEvents r had oldLoop oldMode) :=
  .put (.put (.ite (.record (.raise (.ite (.record (.ite h.record h)) (.ite h.record h)))) (.ite (.record (.ite h.record h)) (.ite h.record h))))

theorem Canonical.forceFollow {oldRef : Option Nat} (h : Canonical s) : Canonical (s.forceFollow oldRef) :=
  h.refreshIsolation.refreshIsolation.resolveSubs.tellRoster.refreshSchd.refreshSet.putB.timeNoon.refreshRole

theorem Canonical.takeForce {h : Held} (hs : Canonical s) : Canonical (s.takeForce h) := hs.upd.showRoster.bump.showModeMismatch.forceEvents.forceFollow

theorem Canonical.commitFlags {h : Held} (hs : Canonical s) : Canonical (s.commitFlags h) :=
  .ite (.recordGen (.ite hs.putB.recordGen hs.putB)) (.ite hs.putB.recordGen hs.putB)

theorem Canonical.commitAdmission (h : Canonical s) : Canonical s.commitAdmission := .ite (.record (.ite h.putB.raise h.putB)) (.ite h.putB.raise h.putB)

theorem Canonical.commitJoin {h : Held} {oldMode : Nat} {had : Bool} (hs : Canonical s) : Canonical (s.commitJoin h oldMode had) :=
  .ite hs (.ite hs.upd.upd hs.upd)

theorem Canonical.commitRound (h : Canonical s) : Canonical s.commitRound := by
  unfold State.commitRound
  split; exacts [h.onRound, .ite (.originWaves h.sendEntry.upd) h, h]

theorem Canonical.commitCompact {rnd : Option (Nat × Nat)} (h : Canonical s) : Canonical (s.commitCompact rnd) :=
  .ite h (.ite (.ite h.upd.reinau h.upd.upd) h.upd.completeOp)

theorem Canonical.commitPending (h : Canonical s) : Canonical s.commitPending := by
  unfold State.commitPending
  split
  · exact h
  · exact h.upd.takeForce.record.raise.put.commitFlags.commitAdmission.commitJoin.commitRound.commitCompact.refreshInau

theorem Canonical.forceGone (h : Canonical s) : Canonical s.forceGone :=
  h.put.put.put.put.put.put.put.put.put.put.put.put.put.forceFollow.refreshSyncOff.mailCheck

theorem Canonical.computeComplete (h : Canonical s) : Canonical s.computeComplete := .ite h.computed.forceGone h.computed
theorem Keeps.rosterComputeComplete : Keeps s (execRosterComputeComplete s) := .live (.done fun h => h.computeComplete)

/-! Machine/Recorder.lean -/

theorem Canonical.refreshRecState (h : Canonical s) : Canonical s.refreshRecState := .ite h h.put
theorem Canonical.takeToken {c : Nat} (h : Canonical s) : Canonical (s.takeToken c) := .ite h h.upd
theorem Canonical.suppress {c code ot : Nat} (h : Canonical s) : Canonical (s.suppress c code ot) := h.upd.bump.raise
theorem Canonical.refreshStage (h : Canonical s) : Canonical s.refreshStage := h.put.put
theorem Canonical.loseRec {r : StRec} (h : Canonical s) : Canonical (s.loseRec r) := h.upd.bump.raise
theorem Canonical.stageRec {r : StRec} (h : Canonical s) : Canonical (s.stageRec r) := .ite h.upd.refreshStage h.loseRec
theorem Canonical.toMaster {r : StRec} (h : Canonical s) : Canonical (s.toMaster r) := h.stackMsg
theorem Canonical.stageOwn {r : StRec} (h : Canonical s) : Canonical (s.stageOwn r) := .ite h.stageRec h.toMaster
theorem Canonical.putFirst {r : StRec} (h : Canonical s) : Canonical (s.putFirst r) := .ite h.upd h.toMaster

theorem Canonical.stageSuppressed {c : Nat} (h : Canonical s) : Canonical (s.stageSuppressed c) := by
  unfold State.stageSuppressed
  split; exacts [h, h.upd.stageOwn]

theorem Canonical.stageIn {c : Nat} {r : StRec} (h : Canonical s) : Canonical (s.stageIn c r) :=
  .ite h.suppress (.stageRec (.takeToken (.ite h h.stageSuppressed)))

theorem Canonical.stageEvent (h : Canonical s) : Canonical s.stageEvent := by
  unfold State.stageEvent
  split; exacts [h, .ite h.upd.stageIn h.upd.toMaster]

theorem Canonical.onRblk {p : Nat} {f : RBlk → RBlk} (h : Canonical s) : Canonical (s.onRblk p f) := by
  unfold State.onRblk
  split; exacts [h.upd, h]

theorem Canonical.refreshBlocks (h : Canonical s) : Canonical s.refreshBlocks := h.put.put.put.put
theorem Canonical.giveSeq (h : Canonical s) : Canonical s.giveSeq.2 := h.put

theorem Canonical.popHead (h : Canonical s) : Canonical s.popHead := by
  unfold State.popHead
  split; exacts [h.upd, h.upd.refreshStage]

theorem Canonical.endMorning (h : Canonical s) : Canonical s.endMorning := h.put.putFirst.upd.refreshRecState

theorem Canonical.openBlock (h : Canonical s) : Canonical s.openBlock := by
  unfold State.openBlock
  extract_lets +onlyGivenNames _
  split; exacts [.ite (.ite h.endMorning h) (.refreshBlocks (.upd (.ite h.endMorning h))), .ite h.endMorning h]

theorem Canonical.closeBlock (h : Canonical s) : Canonical s.closeBlock := by
  unfold State.closeBlock
  split; exacts [h, h.onRblk.upd]

theorem Canonical.place (h : Canonical s) : Canonical s.place := by
  unfold State.place
  split
  · exact h
  · split
    · exact h.openBlock
    · exact .ite (.upd (by split; exacts [h, h.giveSeq])) (.ite h.upd h.closeBlock.openBlock)

theorem Canonical.recFail (h : Canonical s) : Canonical s.recFail := h.upd.put.stageOwn.raise.fault

theorem Canonical.retire {pl p cause line : Nat} {copy : List Bytes} (h : Canonical s) : Canonical (s.retire pl p cause line copy) := by
  unfold State.retire
  extract_lets +onlyGivenNames _ a
  have ha : Canonical a := by
    unfold a
    split
    · exact h.upd.refreshStage
    · exact h.upd
    · exact h
  clear_value a
  extract_lets +onlyGivenNames again b _ c d e
  have he : Canonical e := .ite ha.upd.bump.raise.secondFault ha.upd.bump.raise
  clear_value e
  split
  · exact .refreshBlocks (.ite he.putFirst.upd.record he.putFirst.upd)
  · exact .ite he.upd.endMorning.refreshBlocks (.ite he.upd.record.refreshBlocks.recFail he.upd.record.refreshBlocks)

theorem Canonical.recDone {p seq : Nat} {r : StRec} (h : Canonical s) : Canonical (s.recDone p seq r) :=
  .ite h.onRblk.upd.popHead.bump.upd.put h.onRblk.upd.popHead.bump

theorem Canonical.lineWritten {ok : Bool} (h : Canonical s) : Canonical (s.lineWritten ok) := by
  unfold State.lineWritten
  extract_lets +onlyGivenNames _ _
  split
  · exact h.reach
  · exact h.reach
  · exact .ite h.reach.onRblk.upd.closeBlock.openBlock h.reach.retire
  · refine .ite ?_ h.reach.retire
    extract_lets +onlyGivenNames _ _ _
    split; exacts [h.reach.upd.refreshBlocks.place, h.reach.upd.refreshBlocks.upd]
  · split
    · exact h.reach.upd
    · refine .ite ?_ h.reach.retire
      extract_lets +onlyGivenNames _
      split; exacts [h.reach.onRblk.upd.place, h.reach.onRblk.upd]
  · split
    · exact h.reach.upd
    · refine .ite ?_ h.reach.retire
      extract_lets +onlyGivenNames _
      split; exacts [h.reach.onRblk.recDone, h.reach.onRblk.upd]

theorem Canonical.writeStart (h : Canonical s) : Canonical s.writeStart := .ite h h.place

theorem Canonical.scanBlocks (h : Canonical s) : Canonical s.scanBlocks := by
  unfold State.scanBlocks
  extract_lets +onlyGivenNames _ _ _ _ _ t newest _
  have ht : Canonical t := h.upd
  clear_value t newest
  split
  · exact ht.upd
  · exact ht.upd.put

theorem Canonical.countAway (h : Canonical s) : Canonical s.countAway := .ite h h.upd.bumpBy.raise

theorem Canonical.scanComplete (h : Canonical s) : Canonical s.scanComplete := by
  refine .ite h ?_
  extract_lets +onlyGivenNames _ _ _ _ _ _ t _ _ u _ _ _ _
  have ht : Canonical t := by
    unfold t
    split
    · exact .bump (.stageOwn (.ite (.stageOwn (.upd (.countAway (.ite h.scanBlocks h)))) (.upd (.countAway (.ite h.scanBlocks h)))))
    · exact .ite (.stageOwn (.upd (.countAway (.ite h.scanBlocks h)))) (.upd (.countAway (.ite h.scanBlocks h)))
  have hu : Canonical u := by
    unfold u
    split; exacts [.stageOwn (.upd (.foldl ht fun h => h.stageSuppressed)), .foldl ht fun h => h.stageSuppressed]
  exact .ite (.recFail (.refreshBlocks (.refreshRecState (.upd (.foldl hu fun h => h.stageRec))))) (.refreshBlocks (.refreshRecState (.upd (.foldl
      hu fun h => h.stageRec))))

theorem Canonical.hostRecord {code c : Nat} {body : Bytes} (h : Canonical s) : Canonical (s.hostRecord code c body).2 := by
  unfold State.hostRecord
  extract_lets +onlyGivenNames refuse r
  have hr {t n} (h : Canonical t) : Canonical (refuse t n).2 := h.put.bump.raise
  clear_value refuse
  split
  · exact hr h
  · split
    · exact hr h
    · split
      · exact hr h.suppress
      · extract_lets t
        have ht : Canonical t := .ite h h.stageSuppressed
        clear_value t
        split
        · exact hr h
        · split
          · exact hr h
          · exact ht.takeToken.stageRec.put.raise

theorem Canonical.hwctl {v : Nat} (h : Canonical s) : Canonical (s.hwctl v) := .ite h.put.put.put h.put.put.put.hostRecord
theorem Canonical.endFreeze {cause : Nat} (h : Canonical s) : Canonical (s.endFreeze cause) := .ite h h.upd.put.record.raise
theorem Canonical.writeFreeze {v : Nat} (h : Canonical s) : Canonical (s.writeFreeze v) := .ite h.put.endFreeze (.ite h.put.upd h.put.upd.put.record.raise)

theorem Canonical.showLine {res ecc : Nat} (h : Canonical s) : Canonical (s.showLine res ecc) := by
  unfold State.showLine
  split; exacts [h, .put (.put (.put (.put (.put (.put (.put (.ite h.bump (.ite h.bump h))))))))]

theorem Canonical.showNone {res : Nat} (h : Canonical s) : Canonical (s.showNone res) := h.put.put

theorem Canonical.setCursor {morning : Bool} {x : Nat × RBlk × Nat × Bytes} {res ecc : Nat} (h : Canonical s) : Canonical (s.setCursor morning x res ecc) :=
  h.upd.showLine

theorem Canonical.cursorSelect {morning : Bool} {seq ecc : Nat} (h : Canonical s) : Canonical (s.cursorSelect morning seq ecc) := by
  unfold State.cursorSelect
  split; exacts [h.setCursor, h.upd.showNone]

theorem Canonical.cursorStep {ecc : Nat} (h : Canonical s) : Canonical (State.cursorAdvance.cursorStep s ecc) := by
  unfold State.cursorAdvance.cursorStep
  split
  · exact h
  · refine .ite h.upd.showLine ?_
    split
    · exact h.setCursor
    · split
      · exact h.setCursor
      · exact h.showNone

theorem Canonical.cursorAdvance {ecc : Nat} (h : Canonical s) : Canonical (s.cursorAdvance ecc) := by
  unfold State.cursorAdvance
  split
  · exact h
  · extract_lets here
    clear_value here
    split
    · split
      · exact h.upd.cursorStep
      · split
        · exact h.setCursor
        · exact h.showNone
    · exact h.cursorStep

theorem Canonical.classSel {v : Nat} (h : Canonical s) : Canonical (s.classSel v) := .ite h.put.put.dirtyCfg.upd h.put.put.put.put.put
theorem Canonical.mirrorFault (h : Canonical s) : Canonical s.mirrorFault := .upd (.record (.bump (.ite h h.put.raise.put)))
theorem Canonical.mirrorSkip (h : Canonical s) : Canonical s.mirrorSkip := h.upd.put.put

theorem Canonical.mirrorPut {seq : Nat} {ls : List Bytes} (h : Canonical s) : Canonical (s.mirrorPut seq ls) := by
  unfold State.mirrorPut
  extract_lets +onlyGivenNames _ _ _ _ t _ _ u
  have ht : Canonical t := by
    unfold t
    split
    · exact h.upd
    · exact h
  have hu : Canonical u := .ite h ht.upd
  clear_value u
  split
  · exact hu
  · exact hu.upd

theorem Canonical.mirrorAppend {seq : Nat} (h : Canonical s) : Canonical (s.mirrorAppend seq) := by
  unfold State.mirrorAppend
  split; exacts [h, h.mirrorPut]

theorem Canonical.mirrorStage {r : StRec} (h : Canonical s) : Canonical (s.mirrorStage r) := h.freshFree.mirrorPut.upd

theorem Canonical.mirrorCopy {ok : Bool} (h : Canonical s) : Canonical (s.mirrorCopy ok) := by
  refine .ite h (.ite h.mirrorFault ?_)
  extract_lets +onlyGivenNames _
  split
  · split; exacts [h.mirrorSkip.mirrorStage, h.mirrorSkip]
  · exact .put h.mirrorSkip.mirrorAppend.upd

theorem Canonical.calibrate {ppm : ℤ} (h : Canonical s) : Canonical (s.calibrate ppm) := h.upd
theorem Canonical.writeCheckpoint (h : Canonical s) : Canonical s.writeCheckpoint := h.upd
theorem Canonical.dueCheckpoint (h : Canonical s) : Canonical s.dueCheckpoint := .ite h.writeCheckpoint h.requestAct
theorem Canonical.resumeCounts (h : Canonical s) : Canonical s.resumeCounts := .writeCheckpoint (.ite h.upd.put.put.record h.upd.put)
theorem Keeps.liveRec {f : State → Host.Outcome State Fault Refusal} (h : Keeps s (f s)) : Keeps s (liveRec s f) := .ite h (.done id)
theorem Keeps.recordStage : Keeps s (execRecordStage s) := .liveRec (.done fun h => h.stageEvent)

theorem Keeps.suppressionTimeout {cls : Fin 256} : Keeps s (execSuppressionTimeout cls s) :=
  .liveRec (.done fun h => (by split; exacts [h, h.reachOp.stageSuppressed]))

theorem Keeps.lossRecordStage : Keeps s (execLossRecordStage s) := .liveRec (.done fun h => (by split; exacts [.ite h.upd.stageOwn h, h]))
theorem Keeps.recordWriteStart : Keeps s (execRecordWriteStart s) := .liveRec (.done fun h => h.writeStart)
theorem Keeps.recordLineWritten {ok : Bool} : Keeps s (execRecordLineWritten ok s) := .liveRec (.done fun h => h.lineWritten)
theorem Keeps.recorderScanComplete : Keeps s (execRecorderScanComplete s) := .liveRec (.done fun h => h.scanComplete)
theorem Keeps.operatingTimeCalibrate {ppm : ℤ} : Keeps s (execOperatingTimeCalibrate ppm s) := .live (.done fun h => h.calibrate)
theorem Keeps.checkpointWrite : Keeps s (execCheckpointWrite s) := .liveRec (.done fun h => h.reachOp.dueCheckpoint)
theorem Keeps.hostRecordWrite {value : Word} : Keeps s (execHostRecordWrite value s) := .live (.done fun h => .ite h.put h.hwctl)
theorem Keeps.recdFreezePair {value : Word} : Keeps s (execRecdFreezePair value s) := .live (.done fun h => h.writeFreeze)
theorem Keeps.freezeExpiry : Keeps s (execFreezeExpiry s) := .liveRec (.done fun h => (by split; exacts [h, h.reachOp.endFreeze]))

theorem Keeps.recordCursorSelect {value : Word} {ecc : Fin 3} : Keeps s (execRecordCursorSelect value ecc s) :=
  .live (.done fun h => .ite h.put h.put.cursorSelect)

theorem Keeps.recordCursorAdvance {ecc : Fin 3} : Keeps s (execRecordCursorAdvance ecc s) := .live (.done fun h => h.emit.cursorAdvance)
theorem Keeps.rateClassStore {value : Word} : Keeps s (execRateClassStore value s) := .live (.done fun h => .ite h.put h.classSel)
theorem Keeps.rateClassLoad {value : Word} : Keeps s (execRateClassLoad value s) := .live (.done fun h => .ite h.put h.classSel)
theorem Keeps.mirrorCopy {ok : Bool} : Keeps s (execMirrorCopy ok s) := .liveActive (.done fun h => h.mirrorCopy)

theorem Keeps.mirrorRetry {ok : Bool} : Keeps s (execMirrorRetry ok s) :=
  .liveActive (.done fun h => .ite h (.ite h.reachOp.mirrorFault h.reachOp.put.raise.record.mirrorSkip))

theorem Keeps.recdOpsecRead : Keeps s (execRecdOpsecRead s) := .live (.done fun h => h.put.emit)

/-! Machine/Reset.lean -/



theorem Canonical.applyCfg {c : CfgCopy} {b : Nat} (h : Canonical s) : Canonical (s.applyCfg c b) := by
  unfold State.applyCfg
  extract_lets +onlyGivenNames mine t
  have ht : Canonical t := h.upd
  clear_value t
  split
  · exact ht.upd
  · exact .ite ht.upd ht.upd.applyTables
  · exact ht.upd
  · exact .ite ht.upd ht.upd.applyStations
  · exact ht.upd
  · exact ht.upd
  · exact ht

theorem Canonical.restoreCfg (h : Canonical s) : Canonical s.restoreCfg := by
  unfold State.restoreCfg
  split; exacts [.foldl h fun h => h.applyCfg, h.put.raise.record]

theorem Canonical.saveStart (h : Canonical s) : Canonical s.saveStart := .requestAct h.readVoted.readVoted.readVoted.put.updRest

theorem Canonical.saveDone (h : Canonical s) : Canonical s.saveDone := by
  unfold State.saveDone
  split; exacts [h, .ite h h.updRest.endAct.put.put.raise.record.completeOp]

/-- The copy written holds the retained area as it stands (R493). -/
theorem Canonical.saveRetained (h : Canonical s) : Canonical s.saveRetained := by
  unfold State.saveRetained
  extract_lets seq prog rev c older
  have hc : ∀ x, some c = some x → x.area.wf = true := by
    rintro x ⟨⟩
    exact h.image.retained
  clear_value older
  cases older
  · exact ⟨h.image, h.copyA, hc⟩
  · exact ⟨h.image, hc, h.copyB⟩

/-- The copy taken is one of the two. -/
theorem Canonical.loadRetained (h : Canonical s) : Canonical s.loadRetained := by
  unfold State.loadRetained
  extract_lets best
  have fromA : ∀ c, s.rest.retA.filter State.retValid = some c → c.area.wf = true := fun c hc => h.copyA c (Option.eq_some_of_filter_eq_some hc)
  have fromB : ∀ c, s.rest.retB.filter State.retValid = some c → c.area.wf = true := fun c hc => h.copyB c (Option.eq_some_of_filter_eq_some hc)
  have hbest : ∀ c, best = some c → c.area.wf = true := by
    intro c hc
    unfold best at hc
    split at hc
    next ea eb =>
      split at hc
      · exact fromA c (ea.trans hc)
      · exact fromB c (eb.trans hc)
    next ea _ => exact fromA c (ea.trans hc)
    next => exact fromB c hc
  clear_value best
  split
  · exact h.record
  next c => exact .ite (.record (h.write (h.image.withRetained (hbest c rfl)))) h.record

theorem Canonical.loseStaged (h : Canonical s) : Canonical s.loseStaged := h.upd
theorem Canonical.cutStore (h : Canonical s) : Canonical s.cutStore := .ite h.onBank h
/-- A reset leaves the process image empty and the copies in MRAM as they were (Table 18.8). -/
theorem Canonical.carry {aon : Bool} (h : Canonical s) : Canonical (s.carry aon) :=
  ⟨⟨rfl, rfl, rfl, rfl, rfl, rfl⟩, h.cutStore.copyA, h.cutStore.copyB⟩

theorem Canonical.startUp (h : Canonical s) : Canonical s.startUp :=
  .refreshStage (.refreshBlocks (.refreshInau (.refreshRole (.takeKey (.upd (.ite (.setTstate (.upd (.putB (.putB (.loadPrograms (.ite (.put (.put
      (.ite h.timeSession.restoreCfg.readVoted.put h.timeSession.restoreCfg.readVoted))) (.ite h.timeSession.restoreCfg.readVoted.put
      h.timeSession.restoreCfg.readVoted))))))) (.putB (.putB (.loadPrograms (.ite (.put (.put (.ite h.timeSession.restoreCfg.readVoted.put
      h.timeSession.restoreCfg.readVoted))) (.ite h.timeSession.restoreCfg.readVoted.put h.timeSession.restoreCfg.readVoted)))))))))))

theorem Canonical.startWarm {kind : Nat} (h : Canonical s) : Canonical (s.startWarm kind) := .ite h h.record.upd
theorem Canonical.warmReset {kind : Nat} (h : Canonical s) : Canonical (s.warmReset kind) := by
  unfold State.warmReset
  extract_lets +onlyGivenNames t area _ u v
  have ht : Canonical t := h.progress.loseStaged
  have hu : Canonical u := .carry ht.upd
  have hv : Canonical v := hu.put.satInc
  exact hv.write (hv.image.withRetained ht.image.retained)
theorem Canonical.latchStraps {stack half boot : Nat} (h : Canonical s) : Canonical (s.latchStraps stack half boot) := h.put.put.put.put.putB

theorem Canonical.bootFirmware (h : Canonical s) : Canonical s.bootFirmware := by
  unfold State.bootFirmware
  split; exacts [.ite h.put.record h.put.record, h.put, h.put.record, h.put]

theorem Canonical.releaseReset {kind stack half boot : Nat} {flash : Bytes} (h : Canonical s) : Canonical (s.releaseReset kind stack half boot flash) :=
  .ite (.loadRetained (.foldl (.startUp (.bootFirmware (.ite h.upd.putB.latchStraps.resumeCounts h.upd.putB))) fun h => h.restLane)) (.foldl
      (.startUp (.bootFirmware (.ite h.upd.putB.latchStraps.resumeCounts h.upd.putB))) fun h => h.restLane)

theorem Canonical.clearRegs {b : Nat} {all : Bool} (h : Canonical s) : Canonical (s.clearRegs b all) := h.upd

theorem Canonical.endFrames {b : Nat} (h : Canonical s) : Canonical (s.endFrames b) := by
  unfold State.endFrames
  split
  · exact .foldl h fun h => .ite h.leaveActive h.dropLane.restLane
  · exact .foldl h fun h => h.badFrame
  · exact .foldl (.foldl (.foldl h.upd fun h => h.dropFetch) fun h => .foldl h fun h => h.rxTaken) fun h => h.linkDown.onPort
  · extract_lets +onlyGivenNames t
    have ht : Canonical t := .ite h (.ite h.stackSend (.ite h.stackSend h))
    split; exacts [ht, .stackMsg (.ite ht.stackSend ht)]
  · exact h

theorem Canonical.blockExtra {b : Nat} (h : Canonical s) : Canonical (s.blockExtra b) := by
  unfold State.blockExtra
  split
  · exact h.upd
  · exact h.upd
  · exact h.upd
  · exact .upd (.ite h.clearForces.applyForceTable.put.put h.clearForces.applyForceTable.put)
  · exact h.updRest.endAct
  · exact h.upd
  · exact h.put.put.put.upd
  · exact h.upd
  · exact h

theorem Canonical.blockReset {b : Nat} {counters : Bool} (h : Canonical s) : Canonical (s.blockReset b counters) := by
  unfold State.blockReset
  extract_lets +onlyGivenNames _ _ _ _ _ _ _ _ _ _ _ t _
  have ht : Canonical t := by
    unfold t
    split
    · exact .applyCfg (.ite (.upd (.blockExtra (.clearRegs (.foldl (.upd (.ite h.endFrames.upd h.endFrames)) fun h => h.put)))) (.blockExtra
        (.clearRegs (.foldl (.upd (.ite h.endFrames.upd h.endFrames)) fun h => h.put))))
    · exact .ite (.upd (.blockExtra (.clearRegs (.foldl (.upd (.ite h.endFrames.upd h.endFrames)) fun h => h.put)))) (.blockExtra (.clearRegs
        (.foldl (.upd (.ite h.endFrames.upd h.endFrames)) fun h => h.put)))
  exact .ite (.foldl (.ite ht.jointChange ht) fun h => h.restLane) (.ite ht.jointChange ht)

/-! Machine/Dusk.lean -/

theorem Canonical.sendDusk {m : DuskMsg} {ends : List Nat} (h : Canonical s) : Canonical (s.sendDusk m ends) := h.originate
theorem Canonical.noteDusk {round : Nat} (h : Canonical s) : Canonical (s.noteDusk round) := .ite h h.put.put.bump.raise

theorem Canonical.endDusk {cause : Nat} (h : Canonical s) : Canonical (s.endDusk cause) :=
  .ite h (.ite h.updRest.put.put.bump.raise.record.put.completeOp h.updRest.put.put.bump.raise.record)

theorem Canonical.vetoDusk {reason count : Nat} (h : Canonical s) : Canonical (s.vetoDusk reason count) := h.updRest.sendDusk.put.bump.raise.record.endDusk

theorem Canonical.acceptCommit {ccyc : Nat} {tc : ℤ} (h : Canonical s) : Canonical (s.acceptCommit ccyc tc) := by
  unfold State.acceptCommit
  split; exacts [h, .ite h.updRest.put.put.raise.record.completeOp h.updRest.put.put.raise.record]

theorem Canonical.lastConsent {count : Nat} (h : Canonical s) : Canonical (s.lastConsent count) :=
  .ite h.vetoDusk (by split; exacts [h, h.updRest.sendDusk.acceptCommit])

theorem Canonical.visitToken {count : Nat} (h : Canonical s) : Canonical (s.visitToken count) := by
  unfold State.visitToken
  extract_lets +onlyGivenNames _ _ t rs
  have ht : Canonical t := h.updRest
  clear_value t rs
  split
  · exact ht.vetoDusk
  · exact .ite (.lastConsent ht.put.updRest) (.sendDusk ht.put.updRest)

theorem Canonical.noteSeen {k : Nat × Nat × Nat} (h : Canonical s) : Canonical (s.noteSeen k) := h.updRest
theorem Canonical.openDusk {m : DuskMsg} (h : Canonical s) : Canonical (s.openDusk m) := h.updRest

theorem Canonical.requestDusk {twl : Bool} (h : Canonical s) : Canonical (s.requestDusk twl) := by
  unfold State.requestDusk
  extract_lets +onlyGivenNames _
  split
  · exact h.put
  · refine .ite h.put (.ite h.put (.ite h.put (.ite h.put ?_)))
    extract_lets +onlyGivenNames _ _ t _ u v _ w x
    have ht : Canonical t := h.put.record.openDusk
    clear_value t
    have hv : Canonical v := .noteDusk ht.updRest
    clear_value v
    have hx : Canonical x := .put hv.updRest
    clear_value x
    exact .ite hx.visitToken hx.sendDusk

theorem Canonical.takeDusk {n : Nat} {f : Bytes} {kind : Nat} {act : State → DuskMsg → State} (h : Canonical s) (hact : ∀ {t x1}, Canonical t → Canonical (act t
    x1)) : Canonical (s.takeDusk n f kind act) :=
  .ite h (.ite h.bump (.ite h.bump (.ite h (.ite (.ite (.record (.ite h.updRest h)) (.ite h.updRest h)) (hact (.updRest (.ite h.updRest h)))))))

theorem Canonical.takeCall {m : DuskMsg} (h : Canonical s) : Canonical (s.takeCall m) :=
  .ite (.ite h.noteDusk h.noteDusk.openDusk.visitToken) h.noteDusk.sendDusk

theorem Canonical.takeToken2 {m : DuskMsg} (h : Canonical s) : Canonical (s.takeToken2 m) := .ite h.record h.noteDusk.openDusk.visitToken

theorem Canonical.takeVerdict2 {e : Nat} {m : DuskMsg} (h : Canonical s) : Canonical (s.takeVerdict2 e m) :=
  .ite (.ite h.sendDusk.acceptCommit (by split; exacts [h.sendDusk.updRest, h.sendDusk])) (.ite (.endDusk (.ite h.sendDusk.put h.sendDusk)) (.ite
      h.sendDusk.put h.sendDusk))

theorem Canonical.takeRetract {e : Nat} {m : DuskMsg} (h : Canonical s) : Canonical (s.takeRetract e m) :=
  .ite (.ite h.sendDusk.put h.sendDusk) (.ite (.ite (.ite h.sendDusk.put h.sendDusk) (.record (.put (.ite h.sendDusk.put h.sendDusk)))) (.endDusk
      (.ite h.sendDusk.put h.sendDusk)))

theorem Canonical.wakeReason (h : Canonical s) : Canonical s.wakeReason := by
  refine .ite h ?_
  split; exacts [h, .ite h.updRest.sendDusk.put.bump.raise.record.endDusk (.ite h h.put.record)]

theorem Canonical.writeRestCtrl {v : Nat} (h : Canonical s) : Canonical (s.writeRestCtrl v) :=
  .wakeReason (.ite (.ite (.put (.ite h.storeWord.requestDusk h.storeWord)) (.saveStart (.ite h.storeWord.requestDusk h.storeWord))) (.ite
      h.storeWord.requestDusk h.storeWord))

theorem Canonical.abortSlots (h : Canonical s) : Canonical s.abortSlots := .foldl h fun h => h.complete
theorem Canonical.duskBoundary (h : Canonical s) : Canonical s.duskBoundary := .ite h.upd.abortSlots h
theorem Keeps.restDuskWrite {value : Word} : Keeps s (execRestDuskWrite value s) := .live (.done fun h => h.writeRestCtrl)
theorem Keeps.restSaveWrite {value : Word} : Keeps s (execRestSaveWrite value s) := .live (.done fun h => h.writeRestCtrl)
theorem Keeps.configSaveComplete : Keeps s (execConfigSaveComplete s) := .live (.done fun h => h.saveDone)

theorem Keeps.duskCallReceived {lane : Lane} {frame : Bytes} : Keeps s (execDuskCallReceived lane frame s) :=
  .live (.done fun h => h.takeDusk fun h => h.takeCall)

theorem Keeps.duskTokenReceived {lane : Lane} {frame : Bytes} : Keeps s (execDuskTokenReceived lane frame s) :=
  .live (.done fun h => h.takeDusk fun h => h.takeToken2)

theorem Keeps.duskVerdictReceived {lane : Lane} {frame : Bytes} : Keeps s (execDuskVerdictReceived lane frame s) :=
  .live (.done fun h => h.takeDusk fun h => h.takeVerdict2)

theorem Keeps.duskRetractReceived {lane : Lane} {frame : Bytes} : Keeps s (execDuskRetractReceived lane frame s) :=
  .live (.done fun h => h.takeDusk fun h => h.takeRetract)

theorem Keeps.duskRoundTimeout : Keeps s (execDuskRoundTimeout s) := by
  refine .live (.done fun h => ?_)
  split; exacts [h, .ite h.updRest.sendDusk.put.endDusk h]

theorem Keeps.duskConsentTimeout : Keeps s (execDuskConsentTimeout s) := .live (.done fun h => (by split; exacts [h, .ite h.endDusk h]))

theorem Keeps.duskDimming : Keeps s (execDuskDimming s) := by
  refine .live (.done fun h => ?_)
  split; exacts [h, .ite h (.foldl h.reach.put fun h => h.stackMsg)]

/-! Machine/Boundary.lean -/

theorem Canonical.refreshVital {id : Nat} {v : VitS} (h : Canonical s) : Canonical (s.refreshVital id v) :=
  .ite h.put.put.putB.putB.putB.putB.raise.recordGen (.ite h.put.put.putB.putB.putB.putB.raise.recordGen h.put.put.putB.putB.putB.putB)

theorem Canonical.vitalBoundary (h : Canonical s) : Canonical s.vitalBoundary := .put (.put (.foldl h.upd fun h => h.refreshVital))
theorem Canonical.calStep (h : Canonical s) : Canonical s.calStep := .foldl h fun h => .ite h h.onLane
theorem Canonical.closeCycle (h : Canonical s) : Canonical s.closeCycle := h.clearDevs.upd
theorem Canonical.freshCycle (h : Canonical s) : Canonical s.freshCycle := h.upd
theorem Canonical.rebaseAges {d : ℤ} (h : Canonical s) : Canonical (s.rebaseAges d) := .upd (.ite h.put h)
theorem Canonical.noonHere (h : Canonical s) : Canonical s.noonHere := .ite (.commitPending (.ite h h.endDusk)) h
theorem Canonical.tellMembers (h : Canonical s) : Canonical s.tellMembers := .foldl h fun h => h.stackMsg

theorem Canonical.openCycle {noon tchg reph : Bool} (h : Canonical s) : Canonical (s.openCycle noon tchg reph) :=
  .tellMembers (.calStep (.duskBoundary (.drainRemote (.modeBoundary (.ite (.engineBoundary (.vitalBoundary (.applyTables (.watchRoles (.sendRole
      (.refreshRef (.refreshRole (.ite h.refreshSyncOff.timeBoundary.actVerdict.claimBoundary h.refreshSyncOff.timeBoundary.actVerdict))))))))
      (.vitalBoundary (.applyTables (.watchRoles (.sendRole (.refreshRef (.refreshRole (.ite h.refreshSyncOff.timeBoundary.actVerdict.claimBoundary
      h.refreshSyncOff.timeBoundary.actVerdict))))))))))))

theorem Canonical.cycleBoundary (h : Canonical s) : Canonical s.cycleBoundary := by
  refine .ite h (.openCycle (.noonHere (.closeCycle ?_)))
  split; exacts [h.endSteer.reach.upd.rebaseMap.syncRound, h.endSteer.reach.upd.rebaseMap]

theorem Canonical.daybreakBoundary (h : Canonical s) : Canonical s.daybreakBoundary := by
  unfold State.daybreakBoundary
  split; exacts [h, .ite h h.reach.rebaseAges.upd.setMap.syncRephase.closeCycle.freshCycle.noonHere.openCycle]

theorem Canonical.rephaseBoundary (h : Canonical s) : Canonical s.rephaseBoundary := by
  unfold State.rephaseBoundary
  split
  · exact h
  · exact .ite h (.openCycle (.ite (.adoptMap (.noonHere (.ite h.endSteer.reach.rebaseAges.upd.syncRephase.closeCycle.freshCycle.record
      h.endSteer.reach.rebaseAges.upd.syncRephase.closeCycle.freshCycle))) (.ite (.setMap (.noonHere (.ite
      h.endSteer.reach.rebaseAges.upd.syncRephase.closeCycle.freshCycle.record h.endSteer.reach.rebaseAges.upd.syncRephase.closeCycle.freshCycle)))
      (.noonHere (.ite h.endSteer.reach.rebaseAges.upd.syncRephase.closeCycle.freshCycle.record
      h.endSteer.reach.rebaseAges.upd.syncRephase.closeCycle.freshCycle)))))

theorem Canonical.poolCheck (h : Canonical s) : Canonical s.poolCheck := .ite h h.put.raise.record.fault
theorem Keeps.poolConservationCheck : Keeps s (execPoolConservationCheck s) := .live (.done fun h => h.poolCheck)

/-! Machine/Stack.lean -/

theorem Canonical.farError {cause src member addr : Nat} {data : Bytes} {arrival : Nat} (h : Canonical s) : Canonical (s.farError cause src member addr data
    arrival) :=
  .recordSec (.raise (.bump (.put (.ite (.put (.ite h.upd.put.record h.upd)) (.ite h.upd.put.record h.upd)))))

theorem Canonical.failWrite {cause : Nat} {w : FarOp} (h : Canonical s) : Canonical (s.failWrite cause w) := h.farError
theorem Canonical.selectFar {v : Nat} (h : Canonical s) : Canonical (s.selectFar v) := h.put.upd.put.put.put.put.put
theorem Canonical.setLocked {on : Bool} {src : Nat} (h : Canonical s) : Canonical (s.setLocked on src) := .ite h.putB.upd h.putB.upd
theorem Canonical.refuseLock {res : Nat} (h : Canonical s) : Canonical (s.refuseLock res) := h.put.put.raise
theorem Canonical.releaseTarget {t : Nat} (h : Canonical s) : Canonical (s.releaseTarget t) := .ite h.setLocked h.stackSend
theorem Canonical.endLock {res : Nat} (h : Canonical s) : Canonical (s.endLock res) := .raise (.upd (.put (.put (.ite h.releaseTarget (.ite h h.stackSend)))))

theorem Canonical.dropCore {res : Option Nat} (h : Canonical s) : Canonical (s.dropCore res) := by
  unfold State.dropCore
  split
  · exact h
  · extract_lets +onlyGivenNames _ _
    split; exacts [h.upd.releaseTarget, .ite h.upd.releaseTarget.stackMsg h.upd.releaseTarget.stackSend]

theorem Canonical.takeCore {h t : Nat} (hs : Canonical s) : Canonical (s.takeCore h t) :=
  .ite hs.stackSend (.ite hs.stackSend (.ite (.stackSend (.setLocked hs.dropCore.upd)) (.stackSend hs.dropCore.upd)))

theorem Canonical.coreAnswer {h : Nat} {ok : Bool} (hs : Canonical s) : Canonical (s.coreAnswer h ok) := by
  unfold State.coreAnswer
  split; exacts [.ite hs (.ite hs.upd.stackSend hs.upd.stackSend), hs]

theorem Canonical.writeLock {v who : Nat} (h : Canonical s) : Canonical (s.writeLock v who) :=
  .ite (.ite h.put (.ite (.refuseLock h.put.upd) (.ite (.ite (.upd (.put h.put.upd)) (.stackSend (.put h.put.upd))) (.ite (.ite (.upd (.refuseLock
      h.put.upd)) (.refuseLock h.put.upd)) (.ite (.put (.dropCore h.put.upd)) (.stackSend (.put (.dropCore h.put.upd)))))))) (.ite (.ite h.upd
      h.upd.endLock) (.ite h.put h))

theorem Canonical.lockAnswer {ok : Bool} {res : Nat} (h : Canonical s) : Canonical (s.lockAnswer ok res) :=
  .ite h (.ite (.ite (.setLocked (.raise (.put h.put.upd))) (.raise (.put h.put.upd))) (.ite h.refuseLock.upd h.refuseLock))

theorem Canonical.lockRetry (h : Canonical s) : Canonical s.lockRetry := .ite h.writeLock h

theorem Canonical.pathGone {path : Bool} (h : Canonical s) : Canonical (s.pathGone path) :=
  .ite (.ite h.endLock h) (.upd (.ite (.setLocked (.ite h.endLock h)) (.ite h.endLock h)))

theorem Canonical.lockTimeout (h : Canonical s) : Canonical s.lockTimeout := by
  unfold State.lockTimeout
  split; exacts [h, .ite h h.reach.endLock.bump.record]

theorem Canonical.semRead {n who : Nat} (h : Canonical s) : Canonical (s.semRead n who).2 := by
  unfold State.semRead
  extract_lets +onlyGivenNames _
  split; exacts [h.put, h.bump]

theorem Canonical.semWrite {n v who : Nat} (h : Canonical s) : Canonical (s.semWrite n v who) := .ite h.put (.ite h.put h)
theorem Canonical.aerReport {k : Nat} (h : Canonical s) : Canonical (s.aerReport k) := h.emit.upd
theorem Canonical.countUr (h : Canonical s) : Canonical s.countUr := h.aerReport.bump.raise.recordSec
theorem Canonical.answerUr {tag : Nat} (h : Canonical s) : Canonical (s.answerUr tag) := h.emit.countUr
theorem Canonical.countCa {c : Fld} (h : Canonical s) : Canonical (s.countCa c) := .raise (.bump (.ite h h.aerReport))
theorem Canonical.answerCa {tag len : Nat} {c : Fld} (h : Canonical s) : Canonical (s.answerCa tag len c) := h.emit.countCa
theorem Canonical.failRead {cause tag len : Nat} (h : Canonical s) : Canonical (s.failRead cause tag len) := h.answerCa.recordSec

theorem Canonical.fenceDone (h : Canonical s) : Canonical s.fenceDone := by
  unfold State.fenceDone
  split; exacts [h, .ite h (.ite h.upd.emit h.upd.stackSend)]

theorem Canonical.openFence {tag src : Nat} (h : Canonical s) : Canonical (s.openFence tag src) := .ite h.upd.fenceDone h.upd
theorem Canonical.checkExpect (h : Canonical s) : Canonical s.checkExpect := .ite h.raise h

theorem Canonical.memberLost {m : Nat} (h : Canonical s) : Canonical (s.memberLost m) := by
  unfold State.memberLost
  extract_lets +onlyGivenNames _ _ _ _ _ _ _ _ _ t _ _ _ _
  have ht : Canonical t := by
    unfold t
    split
    · exact .ite (.dropCore (.ite (.endLock (.foldl (.foldl h.put.upd fun h => h.failWrite) fun h => h.failRead)) (.foldl (.foldl h.put.upd
        fun h => h.failWrite) fun h => h.failRead))) (.ite (.dropCore (.ite (.endLock (.foldl (.foldl h.put.upd fun h => h.failWrite)
        fun h => h.failRead)) (.foldl (.foldl h.put.upd fun h => h.failWrite) fun h => h.failRead))) (.ite (.endLock (.foldl (.foldl h.put.upd
        fun h => h.failWrite) fun h => h.failRead)) (.foldl (.foldl h.put.upd fun h => h.failWrite) fun h => h.failRead)))
    · exact .ite (.endLock (.foldl (.foldl h.put.upd fun h => h.failWrite) fun h => h.failRead)) (.foldl (.foldl h.put.upd fun h => h.failWrite)
        fun h => h.failRead)
  exact .ite (.checkExpect (.raise (.record (.foldl (.foldl ht.upd fun h => .ite h.put h) fun h => h.complete)))) (.foldl (.foldl ht.upd
      fun h => .ite h.put h) fun h => h.complete)

theorem Canonical.memberJoined {m : Nat} (h : Canonical s) : Canonical (s.memberJoined m) := .ite h.put.tellRoster.record.raise.checkExpect h.put

theorem Canonical.setBelow {mask : Nat} (h : Canonical s) : Canonical (s.setBelow mask) :=
  .foldl (.ite h.secondFault h) fun h => .ite h.memberLost (.ite h.memberJoined h)

theorem Canonical.reportBelow (h : Canonical s) : Canonical s.reportBelow := .ite h h.stackMsg
theorem Canonical.reportFailed {cause : Nat} {w : FarOp} (h : Canonical s) : Canonical (s.reportFailed cause w) := .ite h.failWrite h.stackMsg

theorem Canonical.portDown {port : Nat} (h : Canonical s) : Canonical (s.portDown port) :=
  .ite h (.ite (.reportBelow (.setBelow (.ite (.secondFault (.ite (.upd (.foldl h.put.bump.upd fun h => h.reportFailed)) (.foldl h.put.bump.upd
      fun h => h.reportFailed))) (.ite (.upd (.foldl h.put.bump.upd fun h => h.reportFailed)) (.foldl h.put.bump.upd fun h => h.reportFailed)))))
      (.pathGone (.upd (.foldl (.ite (.upd (.foldl h.put.bump.upd fun h => h.reportFailed)) (.foldl h.put.bump.upd fun h => h.reportFailed))
      fun h => h.stackMsg))))

theorem Canonical.writeStack {v : Nat} (h : Canonical s) : Canonical (s.writeStack v) := .ite h (.foldl h fun h => .ite h.stackMsg.record h)

/-! Machine/Dawn.lean -/

theorem Canonical.sleepLane {n : Nat} (h : Canonical s) : Canonical (s.sleepLane n) := by
  unfold State.sleepLane
  exact .onLane (.ite h.dropLane.dropPd.setLaneSt.emit.raise h.dropLane.dropPd.setLaneSt.emit)

theorem Canonical.keepIdentity (h : Canonical s) : Canonical s.keepIdentity := h.upd

theorem Canonical.stopForTc (h : Canonical s) : Canonical s.stopForTc := by
  unfold State.stopForTc
  extract_lets t u v w x y z a b
  have hu : Canonical u := .foldl h.cancelSwap.endFreeze.dueCheckpoint.haltTasks.setEngine fun h => h.linkDown
  have hw : Canonical w := .ite hu.portDown.portDown hu.portDown.portDown.endLock
  exact hw.upd.put.put.put.put.upd.put.put.updRest.put

theorem Canonical.twilightNoon (h : Canonical s) : Canonical s.twilightNoon := by
  unfold State.twilightNoon
  split; exacts [h.takeForce, h]

theorem Canonical.enterTwilight (h : Canonical s) : Canonical s.enterTwilight := by
  unfold State.enterTwilight
  extract_lets +onlyGivenNames _ u _ _ _ v _ w x
  have hu : Canonical u := .foldl h.upd fun h => h.sleepLane
  have hv : Canonical v := hu.judgePair.judgeJoint.judgePair.judgeJoint.put.put.setTstate.put
  clear_value v
  have hx : Canonical x := .keepIdentity (.refreshRole (.twilightNoon hv.upd))
  clear_value x
  exact hx.updRest

theorem Canonical.enterSleep {tc : Nat} (h : Canonical s) : Canonical (s.enterSleep tc) := by
  unfold State.enterSleep
  extract_lets t u
  have hu : Canonical u := .foldl h.upd fun h => h.sleepLane
  exact hu.updRest
theorem Canonical.holdWake {src lane pos : Nat} (h : Canonical s) : Canonical (s.holdWake src lane pos) := .ite h h.updRest

theorem Canonical.commitNow {tc : Nat} (h : Canonical s) : Canonical (s.commitNow tc) := by
  unfold State.commitNow
  extract_lets +onlyGivenNames _ _ _ t _
  have ht : Canonical t := .stopForTc (.keepIdentity (.ite h.reach.record.bump.twilightNoon h.reach.record.bump))
  exact .ite (.holdWake (.ite ht.enterTwilight ht.enterSleep)) (.ite ht.enterTwilight ht.enterSleep)

theorem Canonical.duskCommit (h : Canonical s) : Canonical s.duskCommit := by
  unfold State.duskCommit
  split; exacts [h, .ite h (.ite (.ite h h.cycleBoundary) (.commitNow (.ite h h.cycleBoundary)))]

theorem Canonical.finishEntry (h : Canonical s) : Canonical s.finishEntry := .saveRetained (.ite h.endAct.writeCheckpoint h)

theorem Canonical.sleepEntry (h : Canonical s) : Canonical s.sleepEntry := by
  unfold State.sleepEntry
  split; exacts [h, .calibrate (.freshFree (.updRest (.finishEntry (.ite h h.reach.loseStaged))))]

theorem Canonical.sendDawn {f : Bytes} {n : Nat} (h : Canonical s) : Canonical (s.sendDawn f n).2 := by
  unfold State.sendDawn
  extract_lets +onlyGivenNames _ t
  have ht : Canonical t := .ite h.finishTx.resumeTx.finishTx h.finishTx
  clear_value t
  split
  · split
    next =>
      dsimp only
      exact ht.refuseBuf
    next fid u e =>
      dsimp only
      exact (ht.enterPool e).emit.emit.emit.freeFrame.put
  · exact ht

theorem Canonical.sendDawns {l : List (Nat × Bytes)} (h : Canonical s) : Canonical (s.sendDawns l).2 := by
  refine List.foldlRecOn (motive := fun p : List (Nat × Bytes) × State => Canonical p.2) l _ h fun _ ih _ _ => ?_
  split
  · exact ih
  · exact ih.sendDawn

theorem Canonical.dawnFrames (h : Canonical s) : Canonical s.dawnFrames.2 := h.sendDawns
theorem Canonical.finishRec (h : Canonical s) : Canonical s.finishRec := .foldl h fun h => .ite h h.lineWritten

theorem Canonical.wakeLanes {upA wake : List Nat} (h : Canonical s) : Canonical (s.wakeLanes upA wake) :=
  .foldl h fun h => .ite h.restLane (.ite h.setLaneSt (.ite h.setLaneSt h.restLane))

theorem Canonical.dawnStart (h : Canonical s) : Canonical s.dawnStart := .ite h h.reach
theorem Canonical.dawnTwin (h : Canonical s) : Canonical s.dawnTwin := .ite h.emit.emit h.emit

/-- From TWILIGHT the retained area stays as it stood before the core was reset. -/
theorem Canonical.dawnCore {tw : Bool} (h : Canonical s) : Canonical (s.dawnCore tw) := by
  unfold State.dawnCore
  extract_lets +onlyGivenNames area _ _ _ c u v _ w x
  have hc : Canonical c := .carry h.calibrate.upd
  clear_value c
  have hu : Canonical u := hc.upd
  have hv : Canonical v := .ite hu hu.put
  clear_value v
  have hx : Canonical x := .startUp hv.updRest
  clear_value x
  exact .ite (hx.write (hx.image.withRetained h.image.retained)) hx.loadRetained

theorem Canonical.dawnNote {src lane pos : Nat} (h : Canonical s) : Canonical (s.dawnNote src lane pos) := h.bump.raise.record.put.put.put
theorem Canonical.cutEntry (h : Canonical s) : Canonical s.cutEntry := .ite h.finishRec.finishEntry.updRest h

theorem Canonical.keepCredit {s old : State} {upA : List Nat} {waits : List (Nat × Bytes)} (h : Canonical s) : Canonical (s.keepCredit old upA waits) :=
  .foldl (.foldl h fun h => .foldl h fun h => h.put) fun h => h.originate

theorem Canonical.dawn {src lane pos : Nat} {relay : List (Nat × Bytes)} (h : Canonical s) : Canonical (s.dawn src lane pos relay) := by
  unfold State.dawn
  extract_lets +onlyGivenNames _ tw d t
  have ht : Canonical t := by
    unfold t d
    split
    · exact h.dawnStart.abortSlots.dawnFrames
    · exact h.dawnStart
  clear_value d t
  extract_lets +onlyGivenNames upA wake u
  have hu : Canonical u := .foldl ht fun h => h.emit
  clear_value u
  extract_lets +onlyGivenNames v
  have hv : Canonical v := .dawnTwin (.ite hu.finishRec hu.cutEntry)
  clear_value v
  exact .ite hv.dawnCore.wakeLanes.keepCredit.dawnNote.updRest.startWarm hv.dawnCore.wakeLanes.keepCredit.dawnNote.updRest

theorem Canonical.dawnFrom {src lane pos : Nat} {relay : List (Nat × Bytes)} (h : Canonical s) : Canonical (s.dawnFrom src lane pos relay) :=
  .ite h.dawn.bump.raise.record h.dawn

theorem Canonical.wakeUp {src lane pos : Nat} {relay : List (Nat × Bytes)} (h : Canonical s) : Canonical (s.wakeUp src lane pos relay) :=
  .ite (.foldl h.wakeReason.holdWake fun h => h.originate) h.wakeReason.dawnFrom

theorem Canonical.heldDawn (h : Canonical s) : Canonical s.heldDawn := .ite h (by split; exacts [h.dawnFrom, .ite h.dawn h])

theorem Canonical.guardEnds (h : Canonical s) : Canonical s.guardEnds := by
  unfold State.guardEnds
  extract_lets t
  clear_value t
  split
  · exact h
  · exact .foldl h.reach fun h => .ite h.onLane.restLane h

theorem Canonical.patternEnd (h : Canonical s) : Canonical s.patternEnd := by
  unfold State.patternEnd
  split; exacts [h.guardEnds, .foldl h.reach.updRest fun h => .ite h.leaveActive (.ite h.restLane h)]

theorem Canonical.alsoWoke {src : Nat} (h : Canonical s) : Canonical (s.alsoWoke src) := .ite h.put h
theorem Canonical.wakeBy {src : Nat} (h : Canonical s) : Canonical (s.wakeBy src) := .ite h.wakeUp h.alsoWoke

theorem Canonical.laneEnergy {n mv d : Nat} (h : Canonical s) : Canonical (s.laneEnergy n mv d) :=
  .ite h.alsoWoke (.ite h (.ite h (.ite h.wakeUp (.ite h.freshFree.wakeUp h.freshFree))))

theorem Canonical.takeDawn {n : Nat} {f : Bytes} (h : Canonical s) : Canonical (s.takeDawn n f) :=
  .ite h (.ite h.bump (.ite h.bump (.ite h.sendDawns.wakeUp (.ite h.alsoWoke h.sendDusk.noteSeen.alsoWoke))))

theorem Canonical.judgePin (h : Canonical s) : Canonical s.judgePin := .ite (.wakeReason (.ite h.wakeBy h)) (.ite h.wakeBy h)
theorem Canonical.wakeInput {level : Bool} (h : Canonical s) : Canonical (s.wakeInput level) := h.updRest.judgePin
theorem Canonical.writeRestWake {v : Nat} (h : Canonical s) : Canonical (s.writeRestWake v) := h.storeWord.judgePin

theorem Canonical.wakeGuard {n : Nat} (h : Canonical s) : Canonical (s.wakeGuard n) := by
  unfold State.wakeGuard
  split; exacts [h, .ite h.reach.dropLane.restLane.onLane.emit.bump.record h]

theorem Canonical.duskWakeReason (h : Canonical s) : Canonical s.duskWakeReason := .ite h.wakeUp h.wakeReason
theorem Keeps.liveAon {f : State → Host.Outcome State Fault Refusal} (h : Keeps s (f s)) : Keeps s (liveAon s f) := .ite h (.done id)
theorem Keeps.duskCommit : Keeps s (execDuskCommit s) := .live (.done fun h => h.duskCommit)
theorem Keeps.duskSleepEntry : Keeps s (execDuskSleepEntry s) := .liveAon (.done fun h => h.sleepEntry)
theorem Keeps.heldDawnStart : Keeps s (execHeldDawnStart s) := .liveAon (.done fun h => h.heldDawn)
theorem Keeps.wakeGuardSend {lane : Lane} : Keeps s (execWakeGuardSend lane s) := .liveActive (.done fun h => h.wakeGuard)

theorem Keeps.dawnFrameReceived {lane : Lane} {frame : Bytes} : Keeps s (execDawnFrameReceived lane frame s) :=
  .live (.done fun h => h.takeDawn)

theorem Keeps.dawnWakePatternEnd : Keeps s (execDawnWakePatternEnd s) := .live (.done fun h => h.patternEnd)
theorem Keeps.wakeInputActive {level : Bool} : Keeps s (execWakeInputActive level s) := .liveAon (.done fun h => h.wakeInput)
theorem Keeps.alarmWake : Keeps s (execAlarmWake s) := .liveAon (.done fun h => .ite (.wakeBy (.ite h.reachOp h)) h)
theorem Keeps.duskWakeReason : Keeps s (execDuskWakeReason s) := .live (.done fun h => h.duskWakeReason)
theorem Keeps.laneEnergyWake {lane : Lane} {mv ns : Nat} : Keeps s (execLaneEnergyWake lane mv ns s) := .liveAon (.done fun h => h.laneEnergy)

theorem Keeps.twinWakeDetected {ns : Nat} : Keeps s (execTwinWakeDetected ns s) :=
  .liveAon (.done fun h => .ite h.bumpBy.alsoWoke (.ite h.wakeBy h))

theorem Keeps.keyCodeDebounced {keyA keyB : Bool} : Keeps s (execKeyCodeDebounced keyA keyB s) :=
  .liveAon (.done fun h => .ite h.updRest (.ite (.wakeReason (.ite (.wakeBy (.ite h.updRest.takeKey h.updRest)) (.ite h.updRest.takeKey h.updRest)))
    (.ite (.wakeBy (.ite h.updRest.takeKey h.updRest)) (.ite h.updRest.takeKey h.updRest))))

theorem Keeps.leadInputDebounced {level : Bool} : Keeps s (execLeadInputDebounced level s) :=
  .liveAon (.done fun h => .ite h (.ite (.ite (.wakeUp (.ite h.takeLead h.putB)) (.wakeReason (.ite h.takeLead h.putB))) (.ite (.wakeReason (.ite
      h.takeLead.alsoWoke h.takeLead)) h.putB)))

theorem Keeps.nwakeoutRelease : Keeps s (execNwakeoutRelease s) := .liveAon (.done fun h => (by split; exacts [.emit h.reach.updRest, h]))

/-! Machine/CmdCtl.lean -/

theorem Canonical.commandReset (h : Canonical s) : Canonical s.commandReset := h.abortSlots.upd.blockReset.upd.refreshOpen.put.record
theorem Canonical.writeCmdCtrl {v : Nat} (h : Canonical s) : Canonical (s.writeCmdCtrl v) := .ite h.commandReset (.ite h.storeWord.put.put.upd h.storeWord)
theorem Canonical.dropArm (h : Canonical s) : Canonical s.dropArm := h.put.put.upd
theorem Canonical.keyArm {v : Nat} (h : Canonical s) : Canonical (s.keyArm v) := h.put.put.upd

theorem Canonical.armExpiry (h : Canonical s) : Canonical s.armExpiry := by
  unfold State.armExpiry
  split; exacts [h, h.reachOp.dropArm]

theorem Keeps.commandReset : Keeps s (execCommandReset s) := .liveActive (.done fun h => h.writeCmdCtrl)
theorem Keeps.cmdEnableWrite {value : Word} : Keeps s (execCmdEnableWrite value s) := .liveActive (.done fun h => h.writeCmdCtrl)
theorem Keeps.keyArm {value : Word} : Keeps s (execKeyArm value s) := .live (.done fun h => h.keyArm)
theorem Keeps.keyArmExpiry : Keeps s (execKeyArmExpiry s) := .live (.done fun h => h.armExpiry)

/-! Machine/Housekeeping.lean -/

theorem Canonical.setBank {b : Nat} {x : Snap} (h : Canonical s) : Canonical (s.setBank b x) := .ite h.upd h.upd

theorem Canonical.capture {h : Bytes} (hs : Canonical s) : Canonical (s.capture h) := by
  unfold State.capture
  split; exacts [hs.bump.raise.record, .raise (.bump (.ite hs.setBank.upd.put.put.put hs.setBank.upd.put.put))]

theorem Canonical.snapshot {src : Nat} {mid : Option Midnight} (h : Canonical s) : Canonical (s.snapshot src mid) := by
  unfold State.snapshot
  extract_lets +onlyGivenNames _ _
  split; exacts [.ite (.setBank (.ite h.poolCheck.put h.poolCheck)) h.poolCheck.capture, h.poolCheck.capture]

theorem Canonical.snapSel {v : Nat} (h : Canonical s) : Canonical (s.snapSel v) := by
  unfold State.snapSel
  extract_lets +onlyGivenNames _ _ _ _
  split <;> exact h.storeWord.put.put.put

theorem Canonical.refreshMids (h : Canonical s) : Canonical s.refreshMids := h.put
theorem Canonical.midFull (h : Canonical s) : Canonical s.midFull := h.bump.raise.record
theorem Canonical.armMidnight {m : Midnight} (h : Canonical s) : Canonical (s.armMidnight m) := .ite h.bump.raise.record (.ite h.midFull h.upd.refreshMids)
theorem Canonical.sendMidn {m : Midnight} {ends : List Nat} (h : Canonical s) : Canonical (s.sendMidn m ends) := h.originate

theorem Canonical.writeMidns {v : Nat} (h : Canonical s) : Canonical (s.writeMidns v) := by
  refine .ite h.storeWord ?_
  extract_lets +onlyGivenNames _
  split
  · exact .ite h.storeWord.put (.ite h.storeWord.put (.ite h.storeWord.midFull.put h.storeWord.put.put.upd.refreshMids.sendMidn.record))
  · exact h.storeWord.put

theorem Canonical.takeMidn {n : Nat} {f : Bytes} (h : Canonical s) : Canonical (s.takeMidn n f) :=
  .ite h (.ite h.bump (.ite h.bump (.ite h h.upd.sendMidn.armMidnight)))

theorem Canonical.fireMidnight (h : Canonical s) : Canonical s.fireMidnight := by
  unfold State.fireMidnight
  split; exacts [h.reach.upd.snapshot.refreshMids, h]

theorem Canonical.judgeAlarm {x : Nat × Bool × Nat} (h : Canonical s) : Canonical (s.judgeAlarm x) := by
  unfold State.judgeAlarm
  extract_lets +onlyGivenNames _
  split; exacts [h.upd.raise.record, h.upd, h.upd, h]

theorem Canonical.telemetry {t : Telem} (h : Canonical s) : Canonical (s.telemetry t) := .foldl h.put.put.put.put.put.put.put.put fun h => h.judgeAlarm
theorem Canonical.sweep {t : Telem} (h : Canonical s) : Canonical (s.sweep t) := .ite h.telemetry h.requestAct

theorem Canonical.alarmEnd {q : Nat} (h : Canonical s) : Canonical (s.alarmEnd q) := by
  unfold State.alarmEnd
  split; exacts [h.reach.upd.raise.record, h]

theorem Canonical.scrub {region addr err : Nat} (h : Canonical s) : Canonical (s.scrub region addr err) := by
  refine .ite h ?_
  split; exacts [h, h.bump, .ite h.requestAct h.put.put.bump.raise.record]

theorem Canonical.scrubRepair (h : Canonical s) : Canonical s.scrubRepair := by
  unfold State.scrubRepair
  split; exacts [h.onBank.endAct.bump.record, h]

theorem Canonical.onCal {n : Nat} {f : CalS → CalS} (h : Canonical s) : Canonical (s.onCal n f) := h.upd
theorem Canonical.calStart {n : Nat} (h : Canonical s) : Canonical (s.calStart n) := .ite h.requestAct h
theorem Canonical.calAll (h : Canonical s) : Canonical s.calAll := .foldl h.put.putB fun h => .requestAct (.ite h.onCal h)

theorem Canonical.calDone {n : Nat} {result : ℤ} (h : Canonical s) : Canonical (s.calDone n result) := by
  unfold State.calDone
  extract_lets +onlyGivenNames _ _ _ _ _
  split
  · exact .ite (.setLaneSt (.bump (.put (.put (.onLane (.onCal (.endAct h.freshFree.upd))))))) (.bump (.put (.put (.onLane (.onCal (.endAct
      h.freshFree.upd))))))
  · exact .ite h.freshFree.upd (.ite (.ite (.suspendAct (.secondFault (.put (.record (.bump (.onCal (.endAct h.freshFree.upd))))))) (.record (.bump
      (.onCal (.endAct h.freshFree.upd))))) (.bump (.put (.put (.onCal (.endAct h.freshFree.upd))))))

theorem Canonical.patrolDue (h : Canonical s) : Canonical s.patrolDue := h.reachOp.upd.requestAct

/-- A copy whose line cannot be corrected is gone. -/
theorem Canonical.mramBad {region line : Nat} (h : Canonical s) : Canonical (s.mramBad region line) := by
  unfold State.mramBad
  split
  · exact h.onBank
  · exact h.onBank
  · exact h.updRest
  · exact h.updRest
  · exact h.upd
  · exact h.upd
  · exact ⟨h.image, nofun, h.copyB⟩
  · exact ⟨h.image, h.copyA, nofun⟩
  · exact h.put.put.upd

theorem Canonical.patrolSector {region line corrected : Nat} {bad last : Bool} (h : Canonical s) : Canonical (s.patrolSector region line corrected bad last)
    := by
  refine .ite h ?_
  extract_lets +onlyGivenNames _ t
  have ht : Canonical t := .ite h.bumpBy.mramBad.bump.raise.record h.bumpBy
  exact .ite ht.endAct (.ite ht.upd.refreshAct ht)

theorem Canonical.writeHkpCtrl {v : Nat} (h : Canonical s) : Canonical (s.writeHkpCtrl v) :=
  .ite (.requestAct (.ite (.calAll (.ite h.storeWord.snapshot h.storeWord)) (.ite h.storeWord.snapshot h.storeWord))) (.ite (.calAll (.ite
      h.storeWord.snapshot h.storeWord)) (.ite h.storeWord.snapshot h.storeWord))

theorem Canonical.snapEdge {rising : Bool} (h : Canonical s) : Canonical (s.snapEdge rising) := .ite h.snapshot h

theorem Canonical.startAct (h : Canonical s) : Canonical s.startAct := by
  unfold State.startAct
  split
  · exact h
  · extract_lets +onlyGivenNames _ _
    split; exacts [h.upd.telemetry, h.upd.writeCheckpoint, h.upd.upd.refreshAct]

theorem Keeps.snapshotNow {value : Word} : Keeps s (execSnapshotNow value s) := .live (.done fun h => h.writeHkpCtrl)
theorem Keeps.snapinEdge {rising : Bool} : Keeps s (execSnapinEdge rising s) := .live (.done fun h => h.snapEdge)
theorem Keeps.midnightRequest {value : Word} : Keeps s (execMidnightRequest value s) := .live (.done fun h => h.writeMidns)

theorem Keeps.midnFrameReceived {lane : Lane} {frame : Bytes} : Keeps s (execMidnFrameReceived lane frame s) :=
  .live (.done fun h => h.takeMidn)

theorem Keeps.midnightFire : Keeps s (execMidnightFire s) := .live (.done fun h => h.fireMidnight)

theorem Keeps.telemetrySweep {tj : ℤ} {vin vio1 vio2 vcore sp : Nat} : Keeps s (execTelemetrySweep tj vin vio1 vio2 vcore sp s) :=
  .live (.done fun h => h.sweep)

theorem Keeps.telemetryAlarmEnd {quantity : Fin 6} : Keeps s (execTelemetryAlarmEnd quantity s) := .live (.done fun h => h.alarmEnd)

theorem Keeps.scrubStep {region : Fin 8} {addr : BitVec 23} {err : Fin 3} : Keeps s (execScrubStep region addr err s) :=
  .live (.done fun h => h.scrub)

theorem Keeps.scrubRepair : Keeps s (execScrubRepair s) := .live (.done fun h => h.scrubRepair)
theorem Keeps.laneCalibrationStart {lane : Lane} : Keeps s (execLaneCalibrationStart lane s) := .live (.done fun h => h.calStart)
theorem Keeps.hkpLcalWrite {value : Word} : Keeps s (execHkpLcalWrite value s) := .live (.done fun h => h.writeHkpCtrl)

theorem Keeps.laneCalibrationComplete {lane : Lane} {result : ℤ} : Keeps s (execLaneCalibrationComplete lane result s) :=
  .live (.done fun h => h.calDone)

theorem Keeps.mramPatrolPeriod : Keeps s (execMramPatrolPeriod s) := .live (.done fun h => h.patrolDue)
theorem Keeps.hkpMpatWrite {value : Word} : Keeps s (execHkpMpatWrite value s) := .live (.done fun h => h.writeHkpCtrl)

theorem Keeps.mramPatrolSector {region : Fin 12} {line corrected : Nat} {uncorrectable last : Bool} : Keeps s (execMramPatrolSector region
    line corrected uncorrectable last s) :=
  .live (.done fun h => h.patrolSector)

theorem Keeps.activityStart : Keeps s (execActivityStart s) := .live (.done fun h => h.startAct)
theorem Keeps.hkpSselWrite {value : Word} : Keeps s (execHkpSselWrite value s) := .live (.done fun h => h.snapSel)

/-! Machine/Power.lean -/

theorem Canonical.vinLoss (h : Canonical s) : Canonical s.vinLoss := h.updRest
theorem Canonical.powerOn (h : Canonical s) : Canonical s.powerOn := h.vinLoss.upd.carry.put.put.upd
theorem Canonical.refreshVio (h : Canonical s) : Canonical s.refreshVio := h.putB
theorem Canonical.driveBank1 (h : Canonical s) : Canonical s.driveBank1 := .foldl h.emit.emit.emit.emit fun h => h.tpoPin

theorem Canonical.vioBank {bank : Nat} {lost : Bool} (h : Canonical s) : Canonical (s.vioBank bank lost) :=
  .record (.refreshVio (.ite (.driveBank1 (.ite h.emit.upd h.emit.upd)) (.ite h.emit.upd h.emit.upd)))

theorem Canonical.writePace {v : Nat} (h : Canonical s) : Canonical (s.writePace v) :=
  .ite h.readVoted.storeWord.put.record (.ite (.upd (.upd (.ite h.readVoted.storeWord h.readVoted.storeWord.dirtyCfg))) (.ite (.upd (.upd (.ite
      h.readVoted.storeWord h.readVoted.storeWord.dirtyCfg))) (.put (.upd (.ite h.readVoted.storeWord h.readVoted.storeWord.dirtyCfg)))))

theorem Canonical.holdStack {held : Bool} (h : Canonical s) : Canonical (s.holdStack held) := .put (.put (.ite h.portDown.portDown h))

theorem Canonical.paceDone (h : Canonical s) : Canonical s.paceDone :=
  .ite h (.ite (.failRound (.foldl (.holdStack (.ite h.readVoted.put.put h.readVoted.put.put.record)) fun h => .ite h.leaveActive
      h.dropLane.restLane)) (.ite (.judgeStart (.foldl (.holdStack (.ite h.readVoted.put.put h.readVoted.put.put.record)) fun h => h.restLane))
      (.ite h.readVoted.put.put h.readVoted.put.put.record)))

theorem Canonical.cutLineA {n : Nat} (h : Canonical s) : Canonical (s.cutLineA n) := .emit (.foldl h.advance.onLane fun h => h.gc)

theorem Canonical.holdoffEnd (h : Canonical s) : Canonical s.holdoffEnd := by
  unfold State.holdoffEnd
  split; exacts [h, .warmReset (.ite h h.reach)]

theorem Canonical.writeGlbRst {v : Nat} (h : Canonical s) : Canonical (s.writeGlbRst v) := .ite h.saveRetained h
theorem Keeps.vinLoss : Keeps s (execVinLoss s) := .done fun h => h.vinLoss
theorem Keeps.powerOnReset : Keeps s (execPowerOnReset s) := .done fun h => h.powerOn

theorem Keeps.resetRelease {stack : Fin 4} {half : Fin 2} {boot : Fin 4} {flash : Flash} : Keeps s (execResetRelease stack half boot flash
    s) :=
  .done fun h => (by split; exacts [.ite h.upd h.upd.releaseReset, h])

theorem Keeps.pinReset {low : Bool} : Keeps s (execPinReset low s) := .done fun h => .ite h.upd.startWarm h.upd
theorem Keeps.watchdogReset : Keeps s (execWatchdogReset s) := .liveActive (.done fun h => h.startWarm)
theorem Keeps.thermalReset : Keeps s (execThermalReset s) := .liveActive (.done fun h => h.upd.startWarm)

theorem Keeps.thermalResetRelease : Keeps s (execThermalResetRelease s) := by
  refine .done fun h => ?_
  extract_lets +onlyGivenNames _ _
  split; exacts [.ite h.upd.releaseReset h.upd, h.upd]

theorem Keeps.warmResetHoldoffEnd : Keeps s (execWarmResetHoldoffEnd s) := .live (.done fun h => h.holdoffEnd)
theorem Keeps.twilightWatchdog : Keeps s (execTwilightWatchdog s) := .live (.done fun h => .ite h.record h)

theorem Keeps.twilightThermalHold {tj : ℤ} : Keeps s (execTwilightThermalHold tj s) :=
  .live (.done fun h => .ite (.record h.cutLineA.cutLineA.upd) h)

theorem Keeps.twilightThermalHoldEnd : Keeps s (execTwilightThermalHoldEnd s) :=
  .live (.done fun h => .ite (.foldl h.upd fun h => h.chooseTx) h)

theorem Keeps.vioBankLoss {bank : Fin 2} : Keeps s (execVioBankLoss bank s) := .liveAon (.done fun h => h.vioBank)
theorem Keeps.vioBankRestore {bank : Fin 2} : Keeps s (execVioBankRestore bank s) := .liveAon (.done fun h => h.vioBank)
theorem Keeps.regulatorCurrentLimit : Keeps s (execRegulatorCurrentLimit s) := .live (.done fun h => h.put.recordSec)
theorem Keeps.paceLevelWrite {value : Word} : Keeps s (execPaceLevelWrite value s) := .live (.done fun h => h.writePace)
theorem Keeps.retainedImageSave {value : Word} : Keeps s (execRetainedImageSave value s) := .live (.done fun h => h.writeGlbRst)

/-! Machine/TimeIo.lean -/

theorem Canonical.armTpo {n v : Nat} (h : Canonical s) : Canonical (s.armTpo n v) :=
  .ite h.storeWord.onTpo.tpoPin (.ite h.storeWord.onTpo.fireTpo h.storeWord.onTpo.tpoPin)

theorem Canonical.onTci {n : Nat} {f : TciS → TciS} (h : Canonical s) : Canonical (s.onTci n f) := h.upd
theorem Canonical.refreshFill {n : Nat} (h : Canonical s) : Canonical (s.refreshFill n) := .ite h.put.onTci h.put

theorem Canonical.stampEdge {n : Nat} {rising : Bool} (h : Canonical s) : Canonical (s.stampEdge n rising) :=
  .ite (.ite h.onTci.put.bump.raise h.onTci.put.bump.raise.onTci.record) (.refreshFill (.onTci (.ite h.onTci.staleMb h.onTci)))

theorem Canonical.takeEdge {n : Nat} {rising : Bool} (h : Canonical s) : Canonical (s.takeEdge n rising) := .ite h.stampEdge h

theorem Canonical.takePpsEdge (h : Canonical s) : Canonical s.takePpsEdge := by
  unfold State.takePpsEdge
  exact .takePps (.ite h.stampEdge h)

theorem Canonical.loadTimeMb (h : Canonical s) : Canonical s.loadTimeMb := h.put.put.put.put.put
theorem Canonical.writeTimeMb {v : Nat} (h : Canonical s) : Canonical (s.writeTimeMb v) := h.storeWord.loadTimeMb
theorem Canonical.popCapture (h : Canonical s) : Canonical s.popCapture := .ite h.onTci.refreshFill.loadTimeMb h
theorem Keeps.tpoArmWrite {unit : Fin 4} {value : Word} : Keeps s (execTpoArmWrite unit value s) := .live (.done fun h => h.armTpo)

theorem Keeps.compareUnitFire {unit : Fin 4} : Keeps s (execCompareUnitFire unit s) :=
  .liveActive (.done fun h => (by split; exacts [h, h.reachShort.fireTpo]))

theorem Keeps.tpoPulseEnd {unit : Fin 4} : Keeps s (execTpoPulseEnd unit s) :=
  .liveActive (.done fun h => (by split; exacts [h, h.reachShort.onTpo.tpoPin]))

theorem Keeps.captureEdge {input : Fin 4} {rising : Bool} : Keeps s (execCaptureEdge input rising s) :=
  .liveActive (.done fun h => h.takeEdge)

theorem Keeps.ppsEdge : Keeps s (execPpsEdge s) := .liveActive (.done fun h => h.takePpsEdge)
theorem Keeps.timeMbselWrite {value : Word} : Keeps s (execTimeMbselWrite value s) := .live (.done fun h => h.writeTimeMb)
theorem Keeps.captureFifoPop : Keeps s (execCaptureFifoPop s) := .live (.done fun h => h.emit.popCapture)

/-! Machine/Access.lean -/

theorem Canonical.clearCounters {a : Nat} (h : Canonical s) : Canonical (s.clearCounters a) := by
  unfold State.clearCounters
  extract_lets +onlyGivenNames hit t
  have ht : Canonical t := h.upd
  split
  · exact .foldl ht fun h => h.put
  · exact ht.put
  · exact ht.put.put
  · exact ht

theorem Canonical.writeFault {v : Nat} (h : Canonical s) : Canonical (s.writeFault v) :=
  .refreshFault (.ite (.fault (.ite h.storeWord.fault h.storeWord)) (.ite h.storeWord.fault h.storeWord))

theorem Canonical.writeVoted {a v : Nat} (h : Canonical s) : Canonical (s.writeVoted a v) := .ite h.setVoted h.setVoted.dirtyCfg

theorem Canonical.wpEffect {a v : Nat} (h : Canonical s) : Canonical (s.wpEffect a v) := by
  unfold State.wpEffect
  extract_lets +onlyGivenNames _
  split
  · exact h.clearOpt.schdSel
  · exact h.clearOpt.stationSel
  · exact h.clearOpt.prgCmd
  · exact h.clearOpt.frcSel
  · exact h.clearOpt.put
  · exact h.clearOpt.hwctl
  · exact h.clearOpt.classSel
  · exact h.clearOpt.put.cursorSelect
  · exact h.clearOpt

theorem Canonical.wpNext {b : Nat} (h : Canonical s) : Canonical (s.wpNext b) := by
  unfold State.wpNext
  split; exacts [h, h.upd.wpEffect]

theorem Canonical.dropPair {b : Nat} (h : Canonical s) : Canonical (s.dropPair b) := h.upd.setOpt
theorem Canonical.wcpFirst {a v : Nat} (h : Canonical s) : Canonical (s.wcpFirst a v) := .upd (.ite h.dropPair h)

theorem Canonical.blockResets {v : Nat} (h : Canonical s) : Canonical (s.blockResets v) :=
  .foldl (.ite h.put.commandReset (.ite h.put h.put.abortSlots)) fun h => .ite h h.blockReset

theorem Canonical.wcpEffect {a v : Nat} (h : Canonical s) : Canonical (s.wcpEffect a v) := by
  unfold State.wcpEffect
  split; exacts [h.blockResets, h.writeFreeze, h.keyArm, h]

theorem Canonical.wcpSecond {a v : Nat} (h : Canonical s) : Canonical (s.wcpSecond a v) := by
  unfold State.wcpSecond
  extract_lets +onlyGivenNames _
  split; exacts [h.dropPair, .ite h.upd.wcpEffect h.dropPair]

theorem Canonical.wcpTimeout {b : Nat} (h : Canonical s) : Canonical (s.wcpTimeout b) := by
  unfold State.wcpTimeout
  split; exacts [h, h.reach.dropPair]

theorem Canonical.writeLow {a v : Nat} (h : Canonical s) : Canonical (s.writeLow a v) := by
  unfold State.writeLow
  split
  · exact h.writeFault
  · exact h.writePace
  · exact h.writeVoted
  · exact h.writeGlbRst
  · exact h.writeInauCtrl
  · exact h.writeInauMb
  · exact h.writeModeReq
  · exact .ite h.storeWord.put h.storeWord
  · exact h.writeTimeCtrl
  · exact h.upd.storeWord
  · exact h.storeWord.refreshRef
  · exact h.storeWord.upd
  · exact h.writeTimeMb
  · exact h.storeWord.refreshFloor
  · exact h.storeWord.refreshFloor
  · exact .ite h.writeModeDesc (.ite h.armTpo h.storeWord)

theorem Canonical.writeCons {a v : Nat} (h : Canonical s) : Canonical (s.writeCons a v) := by
  unfold State.writeCons
  extract_lets p o
  refine .ite h.writeConsCtrl (.ite h.writeMdio ?_)
  refine (.ite (.ite h.storeWord h.storeWord.onPort) ?_)
  refine (.ite h.writeRingCfg (.ite h.writeRingCfg (.ite h.storeWord.rxTaken (.ite h.storeWord.onPort (.ite h.takeRule h.storeWord)))))

theorem Canonical.writeHigh {a v who : Nat} (h : Canonical s) : Canonical (s.writeHigh a v who) := by
  unfold State.writeHigh
  split
  · exact h.writeCyclCtrl
  · exact h.writeTwinCtrl
  · exact h.writeRestCtrl
  · exact h.writeRestWake
  · exact .ite h.storeWord.upd h.storeWord
  · exact h.writeStack
  · exact h.writeLock
  · exact h.selectFar
  · exact h.writeCmdCtrl
  · exact h.writeVoted
  · exact h.writeHkpCtrl
  · exact h.writeMidns
  · exact h.snapSel
  · exact .ite h.semWrite h.storeWord

theorem Canonical.writeIen {a v : Nat} (h : Canonical s) : Canonical (s.writeIen a v) := .foldl h.storeWord fun h => .ite h.signal h

theorem Canonical.regWrite {a v who : Nat} (h : Canonical s) : Canonical (s.regWrite a v who) := by
  unfold State.regWrite
  refine .ite h.post (.ite h.wcpFirst (.ite h.wcpSecond (.ite h.clearIrq (.ite (.ite h.clearCounters h) (.ite h.writeIen ?_)))))
  split
  · exact .ite h.writeLaneCtrl h.storeWord
  · exact h.writeCons
  · exact .ite h.writeLow h.writeHigh

theorem Canonical.regRead {a who : Nat} (h : Canonical s) : Canonical (s.regRead a who).2 := by
  unfold State.regRead
  split
  · exact h.semRead
  · extract_lets +onlyGivenNames _ _
    split
    · exact h.readVoted.put.put.put.put
    · exact h.readVoted.popCapture
    · exact h.readVoted.put
    · exact h.readVoted.cursorAdvance
    · exact h.readVoted

theorem Keeps.registerWrite {addr value : Word} : Keeps s (execRegisterWrite addr value s) := .live (.done fun h => h.regWrite)
theorem Keeps.wpWriteTakesEffect {block : Fin 16} : Keeps s (execWpWriteTakesEffect block s) := .live (.done fun h => h.wpNext)
theorem Keeps.wcpFirstWord {addr value : Word} : Keeps s (execWcpFirstWord addr value s) := .live (.done fun h => .ite h.wcpFirst h)

theorem Keeps.wcpComplementWord {addr value : Word} : Keeps s (execWcpComplementWord addr value s) :=
  .live (.done fun h => .ite h.wcpSecond h)

theorem Keeps.wcpPairTimeout {block : Fin 16} : Keeps s (execWcpPairTimeout block s) := .live (.done fun h => h.wcpTimeout)
theorem Keeps.votedRegisterRead {addr : Word} : Keeps s (execVotedRegisterRead addr s) := .live (.done fun h => .ite h h.readVoted.emit)
theorem Keeps.irqFlagClear {addr value : Word} : Keeps s (execIrqFlagClear addr value s) := .live (.done fun h => .ite h.clearIrq h)

theorem Keeps.blockCounterClear {addr value : Word} : Keeps s (execBlockCounterClear addr value s) :=
  .live (.done fun h => .ite h.clearCounters h)

theorem Keeps.fwdPoolaRead : Keeps s (execFwdPoolaRead s) := .live (.done fun h => h.regRead.emit)
theorem Keeps.blockReset {value : Word} : Keeps s (execBlockReset value s) := .live (.done fun h => h.blockResets)
theorem Keeps.brdgFselWrite {value : Word} : Keeps s (execBrdgFselWrite value s) := .liveActive (.done fun h => h.selectFar)
theorem Keeps.prefetchFlush : Keeps s (execPrefetchFlush s) := .liveActive (.done fun h => h.upd)

/-! Machine/Windows.lean -/

theorem Canonical.unmask {v : Nat} (h : Canonical s) : Canonical (s.unmask v) := .ite h.upd (.ite (.signal (.ite h.upd h.upd.upd)) (.ite h.upd h.upd.upd))

theorem Canonical.msixWrite {o v : Nat} (h : Canonical s) : Canonical (s.msixWrite o v) := by
  unfold State.msixWrite
  extract_lets +onlyGivenNames _ _ _ _
  split; exacts [h.upd, h.upd, h.upd, .ite h.upd h.unmask]

theorem Canonical.w0Read {a who : Nat} (h : Canonical s) : Canonical (s.w0Read a who).2 := by
  unfold State.w0Read
  split
  · exact h.regRead
  · split <;> exact h

theorem Canonical.w0Write {a v who : Nat} (h : Canonical s) : Canonical (s.w0Write a v who) := .ite h.regWrite (.ite h.msixWrite h)

theorem Canonical.winWrite {a : Nat} {rs : List (Nat × Bytes)} (h : Canonical s) : Canonical (s.winWrite a rs) :=
  .foldl h fun h => (by split; exacts [h.imageWrite, h.loadWrite, h])

theorem Canonical.localRead {a n who : Nat} (h : Canonical s) : Canonical (s.localRead a n who).2 := by
  unfold State.localRead
  split; exacts [h.w0Read, h.progress]

theorem Canonical.localWrite {a : Nat} {data : Bytes} {fbe lbe who : Nat} (h : Canonical s) : Canonical (s.localWrite a data fbe lbe who) := by
  unfold State.localWrite
  split; exacts [h.w0Write, h.winWrite]

theorem Keeps.msixVectorUnmask {vec : Fin 64} : Keeps s (execMsixVectorUnmask vec s) := .liveActive (.done fun h => h.unmask)

/-! Machine/Commands.lean -/

theorem Canonical.submissionFetch (h : Canonical s) : Canonical s.submissionFetch := .ite h.fetch h
theorem Canonical.advanceSq (h : Canonical s) : Canonical s.advanceSq := h.put

theorem Canonical.takeEntry' {idx : Nat} {e : Bytes} (h : Canonical s) : Canonical (s.takeEntry' idx e) :=
  .ite h.advanceSq.writeCompletion.raise.recordSec h.fetch

theorem Canonical.takePacket {idx addr len : Nat} {data : Bytes} (h : Canonical s) : Canonical (s.takePacket idx addr len data) := by
  refine .ite h.advanceSq.writeCompletion ?_
  split; exacts [h.advanceSq.writeCompletion, h.advanceSq.bump.accept.screen]

theorem Canonical.fetchDone {k : Fetch} {data : Bytes} (h : Canonical s) : Canonical (s.fetchDone k data) := by
  unfold State.fetchDone
  split; exacts [h.rxWrite, h.queueTx, .ite h h.takeEntry', .ite h h.takePacket]

theorem Canonical.hostFetched {tag : Nat} {data : Bytes} (h : Canonical s) : Canonical (s.hostFetched tag data) := by
  unfold State.hostFetched
  split; exacts [h, .ite h.upd.issueReads.fetchDone h.upd.issueReads]

theorem Canonical.startSlot {n : Nat} (h : Canonical s) : Canonical (s.startSlot n) := h.onSlot
theorem Canonical.waitSlot {n : Nat} (h : Canonical s) : Canonical (s.waitSlot n) := h.onSlot
theorem Canonical.passOn {n m : Nat} {p : Bytes} (h : Canonical s) : Canonical (s.passOn n m p) := .ite h.complete h.onSlot.stackMsg
theorem Canonical.useArm {op : Nat} (h : Canonical s) : Canonical (s.useArm op) := .ite h.dropArm h

theorem Canonical.runCmd {slot : Fin 64} {op : Nat} {f : CmdSlot → Bytes → State → State} (h : Canonical s) (hf : ∀ {x0 x1 t}, Canonical t → Canonical (f x0 x1
    t)) : Canonical (s.runCmd slot op f) := by
  unfold State.runCmd
  extract_lets +onlyGivenNames _
  split
  · exact h
  · exact .ite (.complete (.ite h.readVoted h)) (.ite (.complete (.ite h.readVoted h)) (.ite (.passOn (.ite h.readVoted h)) (.ite (.complete
      (.useArm (.ite h.readVoted h))) (.ite (.complete (.useArm (.ite h.readVoted h))) (hf (.ite h.readVoted h))))))

theorem Canonical.finish {n code : Nat} {result : Bytes} (h : Canonical s) : Canonical (s.finish n code result) := h.complete
theorem Canonical.bad {n : Nat} (h : Canonical s) : Canonical (s.bad n) := h.complete
theorem Canonical.wordRead {a who : Nat} (h : Canonical s) : Canonical (s.wordRead a who).2 := h.localRead

theorem Canonical.wordsRead {who n a : Nat} (h : Canonical s) : Canonical (State.wordsRead who n a s).2 := by
  induction n generalizing s a with
  | zero => exact h
  | succ n ih => exact ih h.wordRead

theorem Canonical.doRegrd {n : Nat} {c : CmdSlot} {a : Bytes} (h : Canonical s) : Canonical (State.doRegrd n c a s) := .ite h.bad (.ite h h.wordsRead.complete)
theorem Canonical.wholeWrite {a v who : Nat} (h : Canonical s) : Canonical (s.wholeWrite a v who) := .ite h.wpEffect (.ite h.wcpFirst.wcpSecond h.localWrite)

theorem Canonical.doRegwr {n : Nat} {c : CmdSlot} {a : Bytes} (h : Canonical s) : Canonical (State.doRegwr n c a s) :=
  .ite h.complete (.ite h.bad (.ite h.waitSlot h.wordRead.wholeWrite.finish))

theorem Canonical.readOut {sel v ecc : Nat} (h : Canonical s) : Canonical (s.readOut sel v ecc).2 := by
  refine .wordsRead ?_
  split; exacts [h.wholeWrite.cursorSelect, h.wholeWrite]

theorem Canonical.readOuts {sel v ecc k : Nat} (h : Canonical s) : Canonical (State.readOuts sel v ecc k s).2 := by
  induction k generalizing s with
  | zero => exact h
  | succ k ih =>
    unfold State.readOuts
    extract_lets +onlyGivenNames r
    have hr : Canonical r.2 := h.readOut
    split
    · exact hr
    · exact ih hr

theorem Canonical.doMbrd {n ecc : Nat} {a : Bytes} (h : Canonical s) : Canonical (State.doMbrd n ecc a s) := by
  refine .ite h.bad (.ite h ?_)
  extract_lets +onlyGivenNames _
  split <;> exact h.readOuts.complete

theorem Canonical.doPrgload {n : Nat} {a : Bytes} (h : Canonical s) : Canonical (State.doPrgload n a s) := .ite h.complete (.ite h.bad h.loadWrite.finish)

theorem Canonical.doPrgop {n : Nat} {a : Bytes} (h : Canonical s) : Canonical (State.doPrgop n a s) :=
  .ite h.bad (.ite h.waitSlot (.ite h.prgCmd.startSlot h.prgCmd.finish))

theorem Canonical.doForce {n : Nat} {a : Bytes} (h : Canonical s) : Canonical (State.doForce n a s) := .ite h.bad (.ite h h.put.put.put.put.frcSel.finish)
theorem Canonical.doRecwr {n : Nat} {a : Bytes} (h : Canonical s) : Canonical (State.doRecwr n a s) := .ite h.bad (.ite h h.hostRecord.finish)

theorem Canonical.readLines {k : Nat} {ecc : List Nat} (h : Canonical s) : Canonical (State.readLines k ecc s).2 := by
  induction k generalizing s ecc with
  | zero => exact h
  | succ k ih =>
    unfold State.readLines
    split
    · exact h
    · exact ih (.ite h h.cursorAdvance)

theorem Canonical.doRecrd {n : Nat} {ecc : List Nat} {a : Bytes} (h : Canonical s) : Canonical (State.doRecrd n ecc a s) :=
  .ite h.bad (.ite h h.put.put.cursorSelect.readLines.complete)

theorem Canonical.doFreeze {n : Nat} {a : Bytes} (h : Canonical s) : Canonical (State.doFreeze n a s) := .ite h.bad (.ite h h.wholeWrite.complete)

theorem Canonical.doDuskreq {n : Nat} {a : Bytes} (h : Canonical s) : Canonical (State.doDuskreq n a s) :=
  .ite h.bad (.ite h.startSlot.requestDusk.complete h.startSlot.requestDusk)

theorem Canonical.doSave {n : Nat} (h : Canonical s) : Canonical (State.doSave n s) := .ite h.waitSlot h.startSlot.saveStart
theorem Canonical.doReinau {n : Nat} (h : Canonical s) : Canonical (State.doReinau n s) := h.reinau.refreshInau.complete
theorem Canonical.doCompact {n : Nat} (h : Canonical s) : Canonical (State.doCompact n s) := .ite h.complete (.ite h.complete h.startSlot.startCompact)
theorem Canonical.doModereq {n : Nat} {a : Bytes} (h : Canonical s) : Canonical (State.doModereq n a s) := .ite h.bad h.startSlot.writeModeReq

theorem Canonical.keyJob {n : Nat} {f : State → State} (h : Canonical s) (hf : ∀ {t}, Canonical t → Canonical (f t)) : Canonical (s.keyJob n f) :=
  .ite (.endAct (hf h)) (.ite (hf h) h.requestAct)

theorem Canonical.doKeyset {n : Nat} {a : Bytes} (h : Canonical s) : Canonical (State.doKeyset n a s) :=
  h.keyJob fun h => .ite h.dropArm.bad (.ite h.dropArm.complete h.dropArm.upd.put.put.raise.record.complete)

theorem Canonical.doKeydel {n : Nat} {a : Bytes} (h : Canonical s) : Canonical (State.doKeydel n a s) :=
  h.keyJob fun h => .ite h.dropArm.bad (.ite h.dropArm.complete h.dropArm.upd.put.put.raise.record.complete)

theorem Canonical.doRsend {n : Nat} {a : Bytes} (h : Canonical s) : Canonical (State.doRsend n a s) :=
  .ite h.bad (.ite h.sendRemote.complete (.ite h.complete h.onSlot.sendRemote))

theorem Canonical.waitTimeout {n : Nat} (h : Canonical s) : Canonical (s.waitTimeout n) := by
  unfold State.waitTimeout
  split; exacts [h, .ite h.reach.complete h]

theorem Canonical.rsendTimeout {n : Nat} (h : Canonical s) : Canonical (s.rsendTimeout n) := by
  unfold State.rsendTimeout
  split; exacts [h, .ite h h.reach.raise.recordSec.complete]

theorem Keeps.packetRow {slot : Fin 64} {op : Nat} {f : CmdSlot → Bytes → State → State}
    (hf : ∀ {c p t}, Canonical t → Canonical (f c p t)) : Keeps s (packetRow s slot op f) :=
  .live (.done fun h => h.runCmd hf)

theorem Keeps.cmdSubmissionFetch : Keeps s (execCmdSubmissionFetch s) := .liveActive (.done fun h => h.submissionFetch)

theorem Keeps.hostFetchComplete {tag : Nat} {data : Bytes} : Keeps s (execHostFetchComplete tag data s) :=
  .liveActive (.done fun h => .ite h h.hostFetched)

theorem Keeps.nop {slot : Fin 64} : Keeps s (execNop slot s) := .packetRow fun h => h.complete
theorem Keeps.ident {slot : Fin 64} : Keeps s (execIdent slot s) := .packetRow fun h => h.complete
theorem Keeps.regrd {slot : Fin 64} : Keeps s (execRegrd slot s) := .packetRow fun h => h.doRegrd
theorem Keeps.regwr {slot : Fin 64} : Keeps s (execRegwr slot s) := .packetRow fun h => h.doRegwr
theorem Keeps.mbrd {slot : LineRead} : Keeps s (execMbrd slot s) := .packetRow fun h => h.doMbrd
theorem Keeps.prgload {slot : Fin 64} : Keeps s (execPrgload slot s) := .packetRow fun h => h.doPrgload
theorem Keeps.prgop {slot : Fin 64} : Keeps s (execPrgop slot s) := .packetRow fun h => h.doPrgop
theorem Keeps.force {slot : Fin 64} : Keeps s (execForce slot s) := .packetRow fun h => h.doForce
theorem Keeps.recwr {slot : Fin 64} : Keeps s (execRecwr slot s) := .packetRow fun h => h.doRecwr
theorem Keeps.recrd {slot : LineRead} : Keeps s (execRecrd slot s) := .packetRow fun h => h.doRecrd
theorem Keeps.freeze {slot : Fin 64} : Keeps s (execFreeze slot s) := .packetRow fun h => h.doFreeze
theorem Keeps.duskreq {slot : Fin 64} : Keeps s (execDuskreq slot s) := .packetRow fun h => h.doDuskreq
theorem Keeps.save {slot : Fin 64} : Keeps s (execSave slot s) := .packetRow fun h => h.doSave
theorem Keeps.reinau {slot : Fin 64} : Keeps s (execReinau slot s) := .packetRow fun h => h.doReinau
theorem Keeps.compact {slot : Fin 64} : Keeps s (execCompact slot s) := .packetRow fun h => h.doCompact
theorem Keeps.modereq {slot : Fin 64} : Keeps s (execModereq slot s) := .packetRow fun h => h.doModereq
theorem Keeps.keyset {slot : Fin 64} : Keeps s (execKeyset slot s) := .packetRow fun h => h.doKeyset
theorem Keeps.keydel {slot : Fin 64} : Keeps s (execKeydel slot s) := .packetRow fun h => h.doKeydel
theorem Keeps.rsend {slot : Fin 64} : Keeps s (execRsend slot s) := .packetRow fun h => h.doRsend
theorem Keeps.cmdWaitTimeout {slot : Fin 64} : Keeps s (execCmdWaitTimeout slot s) := .live (.done fun h => h.waitTimeout)
theorem Keeps.rsendTimeout {slot : Fin 64} : Keeps s (execRsendTimeout slot s) := .live (.done fun h => h.rsendTimeout)

/-! Machine/Bridge.lean -/

theorem Canonical.answerData {tag k : Nat} {b : Bytes} {ecc : Bool} (h : Canonical s) : Canonical (s.answerData tag k b ecc) :=
  .ite h.emit.aerReport.bump.raise.recordSec h.emit

theorem Canonical.readAhead {k a n : Nat} (h : Canonical s) : Canonical (s.readAhead k a n).2 := by
  unfold State.readAhead
  split; exacts [h, .ite h.progress.upd h.progress]

theorem Canonical.readHere {tag a dws fbe : Nat} {ecc : Bool} (h : Canonical s) : Canonical (s.readHere tag a dws fbe ecc) := by
  unfold State.readHere
  split; exacts [h.emit, .ite h.answerUr (.ite h.openFence h.w0Read.answerData), h.readAhead.answerData]

theorem Canonical.putFar {write : Bool} {w : FarOp} (h : Canonical s) : Canonical (s.putFar write w) := .ite h h.emit
theorem Canonical.flushBehind (h : Canonical s) : Canonical s.flushBehind := .foldl h.upd fun h => h.emit

theorem Canonical.pumpFar (h : Canonical s) : Canonical s.pumpFar :=
  .foldl (.foldl h.flushBehind fun h => .ite h h.upd.putFar.flushBehind) fun h => .ite h h.upd.putFar

theorem Canonical.readFar {tag m a dws be : Nat} (h : Canonical s) : Canonical (s.readFar tag m a dws be) :=
  .ite h.answerUr (.ite h.failRead (.ite h.upd.putFar h.upd))

theorem Canonical.holdHost {h : HostReq} (hs : Canonical s) : Canonical (s.holdHost h) := hs.upd

theorem Canonical.serveRead {tag bar addr dws fbe lbe : Nat} {ecc : Bool} (h : Canonical s) : Canonical (s.serveRead tag bar addr dws fbe lbe ecc) :=
  .ite (.ite h.emit h.answerData) (.ite h.readHere (.ite h.readHere h.readFar))

theorem Canonical.hostRead {tag bar addr dws fbe lbe : Nat} {ecc : Bool} (h : Canonical s) : Canonical (s.hostRead tag bar addr dws fbe lbe ecc) :=
  .ite h.bump.answerUr (.ite h.bump.answerCa (.ite h.holdHost h.bump.serveRead))

theorem Canonical.refuseWrite (h : Canonical s) : Canonical s.refuseWrite := h.bump

theorem Canonical.writeHere {a : Nat} {data : Bytes} {fbe lbe : Nat} (h : Canonical s) : Canonical (s.writeHere a data fbe lbe) := by
  unfold State.writeHere
  split; exacts [h, .ite h.refuseWrite h.w0Write, h.winWrite]

theorem Canonical.writeFar {m a : Nat} {data : Bytes} {fbe lbe : Nat} (h : Canonical s) : Canonical (s.writeFar m a data fbe lbe) :=
  .ite h.refuseWrite (.ite h.farError (.ite h.upd.putFar h.upd))

theorem Canonical.writePool {addr : Nat} {ws : List (Nat × Byte)} (h : Canonical s) : Canonical (s.writePool addr ws) :=
  .ite (.foldl h fun h => h.setPoolByte) (.refuseWrite (.foldl h fun h => h.setPoolByte))

theorem Canonical.serveWrite {bar addr : Nat} {data : Bytes} {fbe lbe : Nat} (h : Canonical s) : Canonical (s.serveWrite bar addr data fbe lbe) :=
  .ite (.ite h h.writePool) (.ite h.writeHere h.writeFar)

theorem Canonical.hostWrite {bar addr : Nat} {data : Bytes} {fbe lbe : Nat} (h : Canonical s) : Canonical (s.hostWrite bar addr data fbe lbe) :=
  .ite h.bump (.ite h.holdHost h.bump.serveWrite)

theorem Canonical.semAccess {who n : Nat} {v : Option Nat} (h : Canonical s) : Canonical (s.semAccess who n v) := by
  unfold State.semAccess
  split; exacts [h.semRead.emit, h.semWrite]

theorem Canonical.hostSem {n : Nat} {v : Option Nat} (h : Canonical s) : Canonical (s.hostSem n v) :=
  .ite (.ite h.bump.countUr h.bump) (.ite (.ite h.bump.countCa h.bump) (.ite h.holdHost h.bump.semAccess))

theorem Canonical.hostLock {v : Nat} (h : Canonical s) : Canonical (s.hostLock v) := .ite h.holdHost h.writeLock

theorem Canonical.arriveAgain {h : HostReq} (hs : Canonical s) : Canonical (s.arriveAgain h) := by
  unfold State.arriveAgain
  split; exacts [hs.hostSem, hs.hostLock, .ite hs.hostWrite hs.hostRead]

theorem Canonical.bridgeRoom (h : Canonical s) : Canonical s.bridgeRoom := .foldl h.pumpFar.lockRetry.upd fun h => h.arriveAgain

theorem Canonical.farTimeout {id : Nat} (h : Canonical s) : Canonical (s.farTimeout id) := by
  unfold State.farTimeout
  split
  · exact .failRead h.reach.upd
  · split; exacts [h, .failWrite (.bump h.reach.upd)]

theorem Canonical.prefetchExpiry (h : Canonical s) : Canonical s.prefetchExpiry := by
  unfold State.prefetchExpiry
  split; exacts [h, h.reach.upd]

theorem Canonical.dropRings (h : Canonical s) : Canonical s.dropRings :=
  .upd (.foldl (.foldl h.upd fun h => h.dropFetch) fun h => .foldl h fun h => h.put.put.rxTaken)

theorem Canonical.drainLate (h : Canonical s) : Canonical s.drainLate := .foldl h.upd.refreshOpen fun h => (by split; exacts [h.writeCompletion, h])

theorem Canonical.abortOpen {down : Bool} (h : Canonical s) : Canonical (s.abortOpen down) :=
  .ite (.abortSlots (.bumpBy (.refreshOpen (.foldl h.upd fun h => h.dropKey)))) (.drainLate (.abortSlots (.bumpBy (.refreshOpen (.foldl h.upd
      fun h => h.dropKey)))))

theorem Canonical.pcieReset {cause : Nat} (h : Canonical s) : Canonical (s.pcieReset cause) := by
  unfold State.pcieReset
  extract_lets +onlyGivenNames _ _ _ _ _ _ _ t _ _ _
  have ht : Canonical t := .ite h.dropRings.blockReset.abortOpen.put.put.put.put.upd.upd
      h.dropRings.blockReset.abortOpen.put.put.put.put.upd.upd.put.put.put
  exact .ite (.raise (.record (.ite ht.upd ht))) (.record (.ite ht.upd ht))

theorem Canonical.pcieLink {up : Bool} {speed width : Nat} (h : Canonical s) : Canonical (s.pcieLink up speed width) :=
  .ite (.ite h.pcieReset h) h.put.put.put.raise.record.drainLate

theorem Canonical.resendPba (h : Canonical s) : Canonical s.resendPba := .foldl h fun h => .ite h (.ite h.upd.signal h.upd)
theorem Canonical.unmaskAll (h : Canonical s) : Canonical s.unmaskAll := .foldl h fun h => .ite h (.ite h.upd.signal h.upd)
theorem Canonical.enterD0 (h : Canonical s) : Canonical s.enterD0 := .resendPba (.drainLate (.foldl h.upd fun h => h.backNow))

theorem Canonical.cfgWrite {item v : Nat} (h : Canonical s) : Canonical (s.cfgWrite item v) := by
  unfold State.cfgWrite
  split
  · exact .ite h.put.put (.ite h.put.put.enterD0 h)
  · exact .put (.ite h.put h)
  · exact .ite h.upd.unmaskAll (.ite h.upd h.upd.resendPba)
  · exact h.upd
  · exact h.upd
  · exact h.upd
  · exact h.upd
  · exact h.upd
  · exact h.upd
  · exact h

theorem Canonical.cfgRequest {tag : Nat} {write : Bool} {item v : Nat} (h : Canonical s) : Canonical (s.cfgRequest tag write item v) :=
  .ite (.ite h.aerReport h.bump.answerUr) (.ite h.emit (.ite h.cfgWrite.emit h.emit))

theorem Canonical.forwardStack {port : Nat} {p : Bytes} (h : Canonical s) : Canonical (s.forwardStack port p) :=
  .ite (.emit (.ite (.upd (.ite h.upd h)) (.ite h.upd h))) (.ite (.reportFailed (.ite h.upd h)) (.ite (.stackSend (.ite h.upd h)) (.ite h.upd h)))

theorem Canonical.takeStack {port : Nat} {p : Bytes} {kinds : List Nat} {f : State → Bytes → State} {ecc : Bool} (h : Canonical s) (hf : ∀ {t x1}, Canonical
    t → Canonical (f t x1)) : Canonical (s.takeStack port p kinds f ecc) :=
  .ite h (.ite h.bump (.ite h (.ite h.forwardStack (.ite h.upd (hf h)))))

theorem Canonical.stackWrite {ecc : Bool} {p : Bytes} (h : Canonical s) : Canonical (s.stackWrite ecc p) :=
  .ite (.stackMsg (.ite (.upd (.ite h.reportFailed h.localWrite)) (.stackMsg (.upd (.ite h.reportFailed h.localWrite))))) (.ite (.upd (.ite
      h.reportFailed h.localWrite)) (.stackMsg (.upd (.ite h.reportFailed h.localWrite))))

theorem Canonical.stackRead {ecc : Bool} {p : Bytes} (h : Canonical s) : Canonical (s.stackRead ecc p) :=
  .ite h.stackSend (.ite h.openFence h.localRead.stackSend)

theorem Canonical.pumpCore (h : Canonical s) : Canonical s.pumpCore := .foldl (.ite h.upd.stackSend h) fun h => (by split; exacts [.ite h h.upd.stackSend, h])
theorem Canonical.coreSem {n : Nat} {v : Option Nat} (h : Canonical s) : Canonical (s.coreSem n v) := .ite h h.upd.pumpCore

theorem Canonical.stackCpl {p : Bytes} (h : Canonical s) : Canonical (s.stackCpl p) := by
  refine .ite h.lockAnswer.pumpCore (.ite h.coreAnswer (.ite ?_ ?_))
  · split; exacts [h, .pumpCore (.ite h.upd.emit h.upd)]
  · split
    · exact h
    · extract_lets +onlyGivenNames _ _
      split; exacts [h.upd.answerData, h.upd.answerUr, h.upd.answerData, h.upd.failRead]

theorem Canonical.memberBackbone {fid : Nat} {f : Bytes} (h : Canonical s) : Canonical (s.memberBackbone fid f) :=
  .ite (.ite h h.bump) (.ite h.onFrame.upd (.ite h h.routeFrame))

theorem Canonical.memberDeliver {n : Nat} {f : Bytes} (h : Canonical s) : Canonical (s.memberDeliver n f) := by
  unfold State.memberDeliver
  split; exacts [h, .ite h.takeVital h.deliverSubs]

theorem Canonical.stackFrame {port : Nat} {p : Bytes} (h : Canonical s) : Canonical (s.stackFrame port p) := by
  refine .ite h ?_
  split
  next => exact h.refuseBuf
  next fid s e =>
    extract_lets +onlyGivenNames _ _ _ t _
    have ht : Canonical t := .foldl (.ite (.memberDeliver (.ite (h.enterPool e) (.memberBackbone (h.enterPool e)))) (.ite (h.enterPool e)
        (.memberBackbone (h.enterPool e)))) fun h => .ite h.pushTx h
    exact .gc (.ite ht (by split; exacts [ht.bump, ht.toRing]))

theorem Canonical.memberPublish (h : Canonical s) : Canonical s.memberPublish := .ite h (.foldl h fun h => .foldl h fun h => h.nextSeq.frameUp)

theorem Canonical.memberBoundary {b : Bytes} (h : Canonical s) : Canonical (s.memberBoundary b) :=
  h.upd.put.refreshRole.applyTables.engineBoundary.memberPublish

theorem Canonical.stackMsgIn {p : Bytes} (h : Canonical s) : Canonical (s.stackMsgIn p) := by
  unfold State.stackMsgIn
  extract_lets +onlyGivenNames _ _
  split
  · exact .ite h.upd.signal h.upd
  · exact h.stageIn
  · exact .ite h h.memberBoundary
  · exact h.upd
  · extract_lets +onlyGivenNames _ _
    split; exacts [h.upd.failWrite, .ite h h.farError]
  · split; exacts [h, .ite h h.acceptCommit.put]
  · exact .ite h h.startWarm
  · extract_lets +onlyGivenNames _
    split; exacts [h.stackMsg, h.bump.accept.screen]
  · extract_lets +onlyGivenNames _ _
    split; exacts [.ite h.complete h, h]
  · exact .ite h.sendRemote h
  · split; exacts [h.complete, h.bump]
  · exact .ite h.stationClaim h
  · exact .ite h (.ite h.upd h.upd.resolveSubs)
  · exact .ite h h.pathGone
  · exact .ite h.setBelow.reportBelow h
  · exact h

theorem Canonical.stackSem {p : Bytes} (h : Canonical s) : Canonical (s.stackSem p) := .ite h.stackSend (.ite h.semRead.stackSend h.semWrite.stackSend)

theorem Canonical.stackLock {p : Bytes} (h : Canonical s) : Canonical (s.stackLock p) := by
  unfold State.stackLock
  extract_lets +onlyGivenNames _
  split
  · exact .ite h.takeCore h.setLocked.stackSend
  · exact .ite (.ite h.setLocked h) (.ite h.dropCore h)
  · exact h.stackSem

theorem Canonical.servePacket {port : Nat} {ecc : Bool} {p : Bytes} (h : Canonical s) : Canonical (s.servePacket port ecc p) := by
  unfold State.servePacket
  split; exacts [h.stackWrite, h.stackRead, h.stackCpl, h.stackFrame, h.stackMsgIn, h.stackSem]

theorem Canonical.drainWaiting (h : Canonical s) : Canonical s.drainWaiting :=
  .ite h (.foldl (.upd (.foldl (.upd (.foldl h.upd fun h => h.arriveAgain)) fun h => .ite h.upd h.semAccess)) fun h => .ite h.upd h.servePacket)

theorem Canonical.stackTrained {port peer : Nat} (h : Canonical s) : Canonical (s.stackTrained port peer) :=
  .ite h (.ite (.ite h.put.put.setBelow.reportBelow h.put.put.upd.reportBelow) (.ite h.put.put.put h.put.put.put.upd.record))

theorem Keeps.hostRead {tag : Nat} {bar : Fin 2} {addr : Fin 16777216} {dws : Nat} {fbe lbe : Fin 16} {ecc : Bool} : Keeps s (execHostRead
    tag bar addr dws fbe lbe ecc s) :=
  .liveActive (.done fun h => .ite h h.hostRead)

theorem Keeps.hostPostedWrite {bar : Fin 2} {addr : Fin 16777216} {data : Bytes} {fbe lbe : Fin 16} : Keeps s (execHostPostedWrite bar addr
    data fbe lbe s) :=
  .liveActive (.done fun h => .ite h h.hostWrite.drainWaiting)

theorem Keeps.farTimeout {id : Nat} : Keeps s (execFarTimeout id s) := .liveActive (.done fun h => h.farTimeout.bridgeRoom)
theorem Keeps.fseqFenceRead {tag : Nat} : Keeps s (execFseqFenceRead tag s) := .liveActive (.done fun h => .ite h h.hostRead)
theorem Keeps.fenceComplete : Keeps s (execFenceComplete s) := .liveActive (.done fun h => h.fenceDone)
theorem Keeps.prefetchExpiry : Keeps s (execPrefetchExpiry s) := .liveActive (.done fun h => h.prefetchExpiry)
theorem Keeps.pcieReset {kind : Fin 4} : Keeps s (execPcieReset kind s) := .liveActive (.done fun h => .ite h h.pcieReset.drainWaiting)

theorem Keeps.pcieLinkChange {up : Bool} {speed : Fin 2} {width : Fin 3} : Keeps s (execPcieLinkChange up speed width s) :=
  .liveActive (.done fun h => .ite h h.pcieLink.drainWaiting)

theorem Keeps.pcieConfigRequest {tag : Nat} {write : Bool} {item : Fin 32} {value : Word} : Keeps s (execPcieConfigRequest tag write item
    value s) :=
  .liveActive (.done fun h => .ite h h.cfgRequest)

theorem Keeps.farLockRequest {value : Word} : Keeps s (execFarLockRequest value s) := .liveActive (.done fun h => h.hostLock.drainWaiting)
theorem Keeps.farLockGrant {ok : Bool} : Keeps s (execFarLockGrant ok s) := .liveActive (.done fun h => h.lockAnswer)
theorem Keeps.farLockRelease : Keeps s (execFarLockRelease s) := .liveActive (.done fun h => h.writeLock.drainWaiting)
theorem Keeps.farLockTimeout : Keeps s (execFarLockTimeout s) := .liveActive (.done fun h => h.lockTimeout.drainWaiting)

theorem Keeps.semaphoreRead {who : Fin 5} {sem : Fin 32} : Keeps s (execSemaphoreRead who sem s) :=
  .liveActive (.done fun h => .ite h.coreSem (.ite h.hostSem (.ite h.upd h.semAccess)))

theorem Keeps.semaphoreReleaseWrite {who : Fin 5} {sem : Fin 32} {value : Word} : Keeps s (execSemaphoreReleaseWrite who sem value s) :=
  .liveActive (.done fun h => .ite h.coreSem (.ite h.hostSem (.ite h.upd h.semAccess)))

theorem Keeps.stackWriteReceived {port : Fin 2} {packet : Bytes} {ecc : Bool} : Keeps s (execStackWriteReceived port packet ecc s) :=
  .liveActive (.done fun h => .drainWaiting (h.takeStack fun h => h.stackWrite))

theorem Keeps.stackReadReceived {port : Fin 2} {packet : Bytes} {ecc : Bool} : Keeps s (execStackReadReceived port packet ecc s) :=
  .liveActive (.done fun h => h.takeStack fun h => h.stackRead)

theorem Keeps.stackCompletionReceived {port : Fin 2} {packet : Bytes} : Keeps s (execStackCompletionReceived port packet s) :=
  .liveActive (.done fun h => .bridgeRoom (h.takeStack fun h => h.stackCpl))

theorem Keeps.stackFrameReceived {port : Fin 2} {packet : Bytes} : Keeps s (execStackFrameReceived port packet s) :=
  .liveActive (.done fun h => h.takeStack fun h => h.stackFrame)

theorem Keeps.stackMsgReceived {port : Fin 2} {packet : Bytes} : Keeps s (execStackMsgReceived port packet s) :=
  .liveActive (.done fun h => .bridgeRoom (.drainWaiting (h.takeStack fun h => h.stackMsgIn)))

theorem Keeps.stackLockReceived {port : Fin 2} {packet : Bytes} : Keeps s (execStackLockReceived port packet s) :=
  .liveActive (.done fun h => .drainWaiting (h.takeStack fun h => h.stackLock))

theorem Keeps.stackPortDown {port : Fin 2} {trained : Bool} {peer : Fin 4} : Keeps s (execStackPortDown port trained peer s) :=
  .liveActive (.done fun h => .bridgeRoom (.drainWaiting (.ite h.stackTrained h.portDown)))

theorem Keeps.stackUplinkTimeout : Keeps s (execStackUplinkTimeout s) :=
  .liveActive (.done fun h => (by split; exacts [h, .ite h h.reach.startWarm]))

theorem Keeps.paceChangeComplete : Keeps s (execPaceChangeComplete s) := .live (.done fun h => h.paceDone.drainWaiting.bridgeRoom)
theorem Keeps.stackResetWrite {value : Word} : Keeps s (execStackResetWrite value s) := .liveActive (.done fun h => h.writeStack)

/-! Machine/EpochStep.lean -/

theorem Canonical.fireStepped (h : Canonical s) : Canonical s.fireStepped := by
  unfold State.fireStepped
  split
  · exact .ite (.commitNow (.lateUnit (.ite (.foldl h.upd fun h => h.lateUnit) (.fireMidnight (.foldl h.upd fun h => h.lateUnit))))) (.ite (.foldl
      h.upd fun h => h.lateUnit) (.fireMidnight (.foldl h.upd fun h => h.lateUnit)))
  · exact h.upd

theorem Keeps.cycleBoundary : Keeps s (execCycleBoundary s) := .live (.done fun h => h.cycleBoundary.fireStepped)
theorem Keeps.daybreakBoundary : Keeps s (execDaybreakBoundary s) := .live (.done fun h => h.daybreakBoundary.fireStepped)
theorem Keeps.rephaseBoundary : Keeps s (execRephaseBoundary s) := .live (.done fun h => h.rephaseBoundary.fireStepped)

/-! Machine/Ptp.lean -/

theorem Canonical.onPtp {p : Nat} {f : PtpS → PtpS} (h : Canonical s) : Canonical (s.onPtp p f) := h.upd
theorem Canonical.ptpSend {p : Nat} {m : Bytes} {kind : Option (Nat × Nat)} {cor : Nat} (h : Canonical s) : Canonical (s.ptpSend p m kind cor) := h.sendEth

theorem Canonical.sendAnnounce {p : Nat} (h : Canonical s) : Canonical (s.sendAnnounce p) := by
  unfold State.sendAnnounce
  split; exact h.onPtp.ptpSend

theorem Canonical.sendSync {p : Nat} (h : Canonical s) : Canonical (s.sendSync p) := h.onPtp.ptpSend
theorem Canonical.sendDelayReq {p : Nat} (h : Canonical s) : Canonical (s.sendDelayReq p) := .ite h h.onPtp.ptpSend
theorem Canonical.ptpDecide {p : Nat} (h : Canonical s) : Canonical (s.ptpDecide p) := .ite h h.onPtp
theorem Canonical.takeAnnounce {p : Nat} {m : Bytes} (h : Canonical s) : Canonical (s.takeAnnounce p m) := .ite h h.onPtp.ptpDecide

theorem Canonical.takeSync {p : Nat} {offset : ℤ} {tai : Bool} (h : Canonical s) : Canonical (s.takeSync p offset tai) :=
  .ite h.refreshRef (.ite h.refreshRef.upd.refreshTai.takeOffset h.refreshRef.upd.presetTime)

theorem Canonical.endSync {p : Nat} {t1 t2 : ℤ} (h : Canonical s) : Canonical (s.endSync p t1 t2) := by
  unfold State.endSync
  extract_lets +onlyGivenNames _
  split; exacts [h.onPtp, h.onPtp.takeSync]

theorem Canonical.takeSyncMsg {p : Nat} {m : Bytes} {at_ : ℤ} (h : Canonical s) : Canonical (s.takeSyncMsg p m at_) :=
  .ite h (.ite (.ite h.onPtp h.endSync) (by split; exacts [.ite h.endSync h, h]))

theorem Canonical.takeDelayResp {p : Nat} {m : Bytes} (h : Canonical s) : Canonical (s.takeDelayResp p m) := .ite h (by split; exacts [h.onPtp, h])
theorem Canonical.endPdelay {p : Nat} {t1 t4 turn : ℤ} (h : Canonical s) : Canonical (s.endPdelay p t1 t4 turn) := h.onPtp

theorem Canonical.takePdelayResp {p : Nat} {m : Bytes} {at_ : ℤ} (h : Canonical s) : Canonical (s.takePdelayResp p m at_) := by
  refine .ite h ?_
  split
  · exact h
  · exact .ite (.ite h.onPtp h.endPdelay) (by split; exacts [.ite h.endPdelay h, h])

theorem Canonical.takePtp {p : Nat} {m : Bytes} {ago : Nat} (h : Canonical s) : Canonical (s.takePtp p m ago) := by
  refine .ite h ?_
  extract_lets +onlyGivenNames _ _
  split
  · exact .ite h h.ptpSend
  · exact .ite h h.ptpSend
  · exact h.takeSyncMsg
  · exact h.takeSyncMsg
  · exact h.takeDelayResp
  · exact h.takePdelayResp
  · exact h.takePdelayResp
  · exact h.takeAnnounce
  · exact h

theorem Canonical.loseRef {t : Nat} (h : Canonical s) : Canonical (s.loseRef t) := .announceSigma (.setRefst h.reach.upd)

theorem Canonical.patchPtp {p : Nat} (h : Canonical s) : Canonical (s.patchPtp p) := by
  unfold State.patchPtp
  split
  · exact h
  · split; exacts [h, .ite h h.onPort]

theorem Canonical.followUp {p : Nat} {x : PTx} (h : Canonical s) : Canonical (s.followUp p x) := by
  unfold State.followUp
  split; exacts [h, .ite (.ite h.onPtp h) (.ite h.ptpSend (.ite h.ptpSend h))]

theorem Keeps.ptpMessageReceived {port : Port} {message : Bytes} {ago : Nat} : Keeps s (execPtpMessageReceived port message ago s) :=
  .liveActive (.done fun h => h.takePtp)

theorem Keeps.ptpSyncReceived {port : Port} {sync : PtpSync} {ago : Nat} : Keeps s (execPtpSyncReceived port sync ago s) := by
  refine .liveActive (.done fun h => .ite h ?_)
  split; exacts [h.takePtp, .ite h.takePtp.takePtp h.takePtp]

theorem Keeps.ptpMessageInterval {port : Port} {timer : PtpTimer} : Keeps s (execPtpMessageInterval port timer s) := by
  refine .liveActive (.done fun h => .ite h ?_)
  split; exacts [.ite h h.sendAnnounce, .ite h h.sendSync, h.sendDelayReq]

theorem Keeps.referenceLost : Keeps s (execReferenceLost s) := by
  refine .live (.done fun h => .ite h.refreshRef (.ite (by split; exacts [h.refreshRef, h.refreshRef.loseRef]) ?_))
  extract_lets +onlyGivenNames _
  split; exacts [h.refreshRef, h.refreshRef.loseRef.ptpDecide]

theorem Keeps.consistTxFrameEnd {port : Port} : Keeps s (execConsistTxFrameEnd port s) := by
  refine .liveActive (.done fun h => ?_)
  split
  next x s e => exact .runEth (.followUp (h.patchPtp.endEth e))
  next => exact h

/-! One step, and the statement. -/

theorem exec_keeps (c : Instr) (s : State) : Keeps s (exec c s) := by
  cases c with
  | registerWrite => exact .registerWrite
  | wpWriteTakesEffect => exact .wpWriteTakesEffect
  | wcpFirstWord => exact .wcpFirstWord
  | wcpComplementWord => exact .wcpComplementWord
  | wcpPairTimeout => exact .wcpPairTimeout
  | votedRegisterRead => exact .votedRegisterRead
  | irqFlagClear => exact .irqFlagClear
  | msixVectorUnmask => exact .msixVectorUnmask
  | blockCounterClear => exact .blockCounterClear
  | laneEnableWrite => exact .laneEnableWrite
  | laneRetrainWrite => exact .laneRetrainWrite
  | laneSignalDetect => exact .laneSignalDetect
  | detectSignalStable => exact .detectSignalStable
  | detectSignalAbsent => exact .detectSignalAbsent
  | trainingSetReceived => exact .trainingSetReceived
  | receiverAdapted => exact .receiverAdapted
  | trainingTimeout => exact .trainingTimeout
  | laneSignalLoss => exact .laneSignalLoss
  | laneAlignmentLoss => exact .laneAlignmentLoss
  | codeErrorThreshold => exact .codeErrorThreshold
  | creditReturnReceived => exact .creditReturnReceived
  | creditReturnTimer => exact .creditReturnTimer
  | laneSfReceived => exact .laneSfReceived
  | crsReqReceived => exact .crsReqReceived
  | crsAckReceived => exact .crsAckReceived
  | resyncBufferDrained => exact .resyncBufferDrained
  | crsDoneReceived => exact .crsDoneReceived
  | creditResyncTimeout => exact .creditResyncTimeout
  | strayDataCharacter => exact .strayDataCharacter
  | preemptReceived => exact .preemptReceived
  | resumeReceived => exact .resumeReceived
  | laneFrameEnd => exact .laneFrameEnd
  | txSourceStall => exact .txSourceStall
  | laneEnergyWake => exact .laneEnergyWake
  | frameDecision => exact .frameDecision
  | egressFrameStart => exact .egressFrameStart
  | expressIntervalStart => exact .expressIntervalStart
  | probeSendTimer => exact .probeSendTimer
  | probeReceived => exact .probeReceived
  | quarantineExpiry => exact .quarantineExpiry
  | probeAnswerTimeout => exact .probeAnswerTimeout
  | leadInputDebounced => exact .leadInputDebounced
  | inauEnWrite => exact .inauEnWrite
  | inauLeadmaskWrite => exact .inauLeadmaskWrite
  | inauReinauWrite => exact .inauReinauWrite
  | waveStartReceived => exact .waveStartReceived
  | countRelayStart => exact .countRelayStart
  | waveCountReceived => exact .waveCountReceived
  | agreeReceived => exact .agreeReceived
  | disagreeReceived => exact .disagreeReceived
  | daybreakReceived => exact .daybreakReceived
  | mergeDaybreakReceived => exact .mergeDaybreakReceived
  | outageGraceExpiry => exact .outageGraceExpiry
  | compact => exact .compact
  | inauMbselWrite => exact .inauMbselWrite
  | guardianPoint => exact .guardianPoint
  | ownWindowOpen => exact .ownWindowOpen
  | subscriptionMaxageExpiry => exact .subscriptionMaxageExpiry
  | schdModereqGo => exact .schdModereqGo
  | schdModedescWrite => exact .schdModedescWrite
  | schdTableLoad => exact .schdTableLoad
  | schdTableStore => exact .schdTableStore
  | pdreqSendTimer => exact .pdreqSendTimer
  | pdreqReceived => exact .pdreqReceived
  | pdrspReceived => exact .pdrspReceived
  | syncWorstClear => exact .syncWorstClear
  | ptpSyncReceived => exact .ptpSyncReceived
  | ptpMessageReceived => exact .ptpMessageReceived
  | ptpMessageInterval => exact .ptpMessageInterval
  | todArmWrite => exact .todArmWrite
  | timeAcceptWrite => exact .timeAcceptWrite
  | tpoArmWrite => exact .tpoArmWrite
  | compareUnitFire => exact .compareUnitFire
  | tpoPulseEnd => exact .tpoPulseEnd
  | captureEdge => exact .captureEdge
  | timeMbselWrite => exact .timeMbselWrite
  | consistLinkUp => exact .consistLinkUp
  | consistLinkDown => exact .consistLinkDown
  | consistSteeringDecision => exact .consistSteeringDecision
  | consistBufferDraw => exact .consistBufferDraw
  | consistFrameEnd => exact .consistFrameEnd
  | filterRuleCommit => exact .filterRuleCommit
  | consistTxFrameStart => exact .consistTxFrameStart
  | consistTxFrameEnd => exact .consistTxFrameEnd
  | telegramLaunch => exact .telegramLaunch
  | preemptionVerifyResult => exact .preemptionVerifyResult
  | pauseReceived => exact .pauseReceived
  | pauseHoldExpiry => exact .pauseHoldExpiry
  | pauseRepeatTimer => exact .pauseRepeatTimer
  | pauseXonReached => exact .pauseXonReached
  | pauseWatchdogTrip => exact .pauseWatchdogTrip
  | pauseWatchdogEnd => exact .pauseWatchdogEnd
  | txRingFetchStart => exact .txRingFetchStart
  | ringEnableWrite => exact .ringEnableWrite
  | ringIrqModeration => exact .ringIrqModeration
  | mdioFrameStart => exact .mdioFrameStart
  | mdioFrameEnd => exact .mdioFrameEnd
  | keyCodeDebounced => exact .keyCodeDebounced
  | taskInstanceComplete => exact .taskInstanceComplete
  | telegramAssembly => exact .telegramAssembly
  | ioInTelegramReceived => exact .ioInTelegramReceived
  | stationAccwinExpiry => exact .stationAccwinExpiry
  | cyclEnWrite => exact .cyclEnWrite
  | stationCfgallWrite => exact .stationCfgallWrite
  | stationTableLoad => exact .stationTableLoad
  | stationTableStore => exact .stationTableStore
  | processImageHostWrite => exact .processImageHostWrite
  | loadWindowWrite => exact .loadWindowWrite
  | validate => exact .validate
  | store => exact .store
  | storeComplete => exact .storeComplete
  | swap => exact .swap
  | setstart => exact .setstart
  | reload => exact .reload
  | cancel => exact .cancel
  | forceEntryStore => exact .forceEntryStore
  | forceClearAll => exact .forceClearAll
  | forceEntryLoad => exact .forceEntryLoad
  | twinHbReceived => exact .twinHbReceived
  | consistHbReceived => exact .consistHbReceived
  | twinTakeWrite => exact .twinTakeWrite
  | twinYieldWrite => exact .twinYieldWrite
  | twinEntryReceived => exact .twinEntryReceived
  | twinRelayReceived => exact .twinRelayReceived
  | mirFrameReceived => exact .mirFrameReceived
  | mirrorSealReceived => exact .mirrorSealReceived
  | twinWakeDetected => exact .twinWakeDetected
  | restDuskWrite => exact .restDuskWrite
  | duskCallReceived => exact .duskCallReceived
  | duskTokenReceived => exact .duskTokenReceived
  | duskVerdictReceived => exact .duskVerdictReceived
  | duskRetractReceived => exact .duskRetractReceived
  | wakeGuardSend => exact .wakeGuardSend
  | dawnFrameReceived => exact .dawnFrameReceived
  | wakeInputActive => exact .wakeInputActive
  | restSaveWrite => exact .restSaveWrite
  | suppressionTimeout => exact .suppressionTimeout
  | recordLineWritten => exact .recordLineWritten
  | operatingTimeCalibrate => exact .operatingTimeCalibrate
  | hostRecordWrite => exact .hostRecordWrite
  | recdFreezePair => exact .recdFreezePair
  | recordCursorSelect => exact .recordCursorSelect
  | recordCursorAdvance => exact .recordCursorAdvance
  | rateClassStore => exact .rateClassStore
  | rateClassLoad => exact .rateClassLoad
  | mirrorCopy => exact .mirrorCopy
  | mirrorRetry => exact .mirrorRetry
  | hostRead => exact .hostRead
  | hostPostedWrite => exact .hostPostedWrite
  | farTimeout => exact .farTimeout
  | fseqFenceRead => exact .fseqFenceRead
  | brdgFselWrite => exact .brdgFselWrite
  | pcieReset => exact .pcieReset
  | pcieLinkChange => exact .pcieLinkChange
  | farLockRequest => exact .farLockRequest
  | farLockGrant => exact .farLockGrant
  | semaphoreRead => exact .semaphoreRead
  | semaphoreReleaseWrite => exact .semaphoreReleaseWrite
  | stackWriteReceived => exact .stackWriteReceived
  | stackReadReceived => exact .stackReadReceived
  | stackCompletionReceived => exact .stackCompletionReceived
  | stackFrameReceived => exact .stackFrameReceived
  | stackMsgReceived => exact .stackMsgReceived
  | stackLockReceived => exact .stackLockReceived
  | stackPortDown => exact .stackPortDown
  | stackResetWrite => exact .stackResetWrite
  | nop => exact .nop
  | ident => exact .ident
  | regrd => exact .regrd
  | regwr => exact .regwr
  | mbrd => exact .mbrd
  | prgload => exact .prgload
  | prgop => exact .prgop
  | force => exact .force
  | recwr => exact .recwr
  | recrd => exact .recrd
  | freeze => exact .freeze
  | duskreq => exact .duskreq
  | save => exact .save
  | reinau => exact .reinau
  | modereq => exact .modereq
  | keyset => exact .keyset
  | keydel => exact .keydel
  | rsend => exact .rsend
  | cmdWaitTimeout => exact .cmdWaitTimeout
  | rsendTimeout => exact .rsendTimeout
  | cmdFrameReceived => exact .cmdFrameReceived
  | cplFrameReceived => exact .cplFrameReceived
  | cmdEnableWrite => exact .cmdEnableWrite
  | keyArm => exact .keyArm
  | blockReset => exact .blockReset
  | snapshotNow => exact .snapshotNow
  | snapinEdge => exact .snapinEdge
  | midnightRequest => exact .midnightRequest
  | midnFrameReceived => exact .midnFrameReceived
  | telemetrySweep => exact .telemetrySweep
  | telemetryAlarmEnd => exact .telemetryAlarmEnd
  | scrubStep => exact .scrubStep
  | laneCalibrationStart => exact .laneCalibrationStart
  | hkpLcalWrite => exact .hkpLcalWrite
  | laneCalibrationComplete => exact .laneCalibrationComplete
  | hkpMpatWrite => exact .hkpMpatWrite
  | mramPatrolSector => exact .mramPatrolSector
  | resetRelease => exact .resetRelease
  | pinReset => exact .pinReset
  | twilightThermalHold => exact .twilightThermalHold
  | vioBankLoss => exact .vioBankLoss
  | vioBankRestore => exact .vioBankRestore
  | paceLevelWrite => exact .paceLevelWrite
  | retainedImageSave => exact .retainedImageSave
  | hkpSselWrite => exact .hkpSselWrite
  | giantByteReceived => exact .giantByteReceived
  | consistGiantByte => exact .consistGiantByte
  | hostFetchComplete => exact .hostFetchComplete
  | pcieConfigRequest => exact .pcieConfigRequest
  | cycleBoundary => exact .cycleBoundary
  | poolConservationCheck => exact .poolConservationCheck
  | fwdPoolaRead => exact .fwdPoolaRead
  | tStartupExpiry => exact .tStartupExpiry
  | tSettleExpiry => exact .tSettleExpiry
  | rosterComputeComplete => exact .rosterComputeComplete
  | tWaveExpiry => exact .tWaveExpiry
  | tAgreeExpiry => exact .tAgreeExpiry
  | rephaseBoundary => exact .rephaseBoundary
  | modeann => exact .modeann
  | pendingModeLapse => exact .pendingModeLapse
  | catchUpComplete => exact .catchUpComplete
  | timenot => exact .timenot
  | ppsEdge => exact .ppsEdge
  | referenceLost => exact .referenceLost
  | steeringIntervalEnd => exact .steeringIntervalEnd
  | captureFifoPop => exact .captureFifoPop
  | taskCommit => exact .taskCommit
  | validateComplete => exact .validateComplete
  | twinHbTick => exact .twinHbTick
  | consistHbSend => exact .consistHbSend
  | twinPathSilent => exact .twinPathSilent
  | consistPathSilent => exact .consistPathSilent
  | seekTimeout => exact .seekTimeout
  | rolenot => exact .rolenot
  | verdict => exact .verdict
  | duskWakeReason => exact .duskWakeReason
  | duskRoundTimeout => exact .duskRoundTimeout
  | duskConsentTimeout => exact .duskConsentTimeout
  | duskDimming => exact .duskDimming
  | duskCommit => exact .duskCommit
  | duskSleepEntry => exact .duskSleepEntry
  | heldDawnStart => exact .heldDawnStart
  | alarmWake => exact .alarmWake
  | dawnWakePatternEnd => exact .dawnWakePatternEnd
  | configSaveComplete => exact .configSaveComplete
  | recordStage => exact .recordStage
  | lossRecordStage => exact .lossRecordStage
  | recordWriteStart => exact .recordWriteStart
  | recorderScanComplete => exact .recorderScanComplete
  | checkpointWrite => exact .checkpointWrite
  | freezeExpiry => exact .freezeExpiry
  | fenceComplete => exact .fenceComplete
  | prefetchFlush => exact .prefetchFlush
  | prefetchExpiry => exact .prefetchExpiry
  | farLockRelease => exact .farLockRelease
  | farLockTimeout => exact .farLockTimeout
  | stackUplinkTimeout => exact .stackUplinkTimeout
  | cmdSubmissionFetch => exact .cmdSubmissionFetch
  | commandReset => exact .commandReset
  | keyArmExpiry => exact .keyArmExpiry
  | midnightFire => exact .midnightFire
  | scrubRepair => exact .scrubRepair
  | mramPatrolPeriod => exact .mramPatrolPeriod
  | activityStart => exact .activityStart
  | vinLoss => exact .vinLoss
  | powerOnReset => exact .powerOnReset
  | watchdogReset => exact .watchdogReset
  | thermalReset => exact .thermalReset
  | warmResetHoldoffEnd => exact .warmResetHoldoffEnd
  | twilightWatchdog => exact .twilightWatchdog
  | regulatorCurrentLimit => exact .regulatorCurrentLimit
  | paceChangeComplete => exact .paceChangeComplete
  | recdOpsecRead => exact .recdOpsecRead
  | daybreakBoundary => exact .daybreakBoundary
  | noagreeRoundSpacing => exact .noagreeRoundSpacing
  | nwakeoutRelease => exact .nwakeoutRelease
  | thermalResetRelease => exact .thermalResetRelease
  | twilightThermalHoldEnd => exact .twilightThermalHoldEnd

/-- Whatever waits, a step answers a state, and leaves the memories canonical. -/
theorem step_keeps (s : State) : Keeps s (step s) := by
  unfold step
  split
  · exact .done fun h => h.upd
  next c rest _ =>
    obtain ⟨t, ht, h⟩ := exec_keeps c { s with pending := rest }
    exact ⟨t, ht, fun hs => h hs.upd⟩

/-- Settles O55: each function of the model keeps the memories canonical, down to those that write an area or a copy. -/
theorem memoriesStayCanonical : Obligations.MemoriesStayCanonical := by
  unfold Obligations.MemoriesStayCanonical
  intro s image copies
  obtain ⟨t, answers, keeps⟩ := step_keeps s
  have settled : Canonical t.settle := (keeps (canonical_iff.mpr ⟨image, copies⟩)).settle
  exact ⟨t.settle, answers, canonical_iff.mp settled⟩

end Sys2Proof.Machine
end

section
/-! SUPPORT. What a delivery leaves in the process image (R292, R296): the bytes stand where they were written, every other byte as it was. -/

namespace Sys2Proof.Machine

/-- Bytes written read back in order; every other byte stands. -/
theorem Memory.read_writeAll {m : Memory} (a x : Nat) (bs : Bytes) (hm : m.wf = true) :
    (m.writeAll a bs).read x = if a ≤ x ∧ x < a + bs.length then bs.getD (x - a) 0 else m.read x := by
  induction bs generalizing m a with
  | nil => simp [Memory.writeAll]
  | cons b bs ih =>
    rw [Memory.writeAll, ih (a + 1) (Memory.write_wf a b hm), Memory.read_write a x b hm, List.length_cons]
    by_cases here : a = x
    · subst here
      simp
    · rw [if_neg here]
      by_cases inside : a + 1 ≤ x ∧ x < a + 1 + bs.length
      · obtain ⟨k, rfl⟩ : ∃ k, x = a + 1 + k := ⟨x - (a + 1), by omega⟩
        have next : a + 1 + k - a = k + 1 := by omega
        rw [if_pos inside, if_pos (by omega), next, List.getD_cons_succ, Nat.add_sub_cancel_left]
      · rw [if_neg inside, if_neg (by omega)]

namespace ImgS

variable {i : ImgS} {o : Nat} {bs : Bytes}

theorem deliver_input (h : o < 0x10000) : i.deliver o bs = { i with recv := i.recv.writeAll o bs } := by
  rw [deliver, if_pos h]

theorem deliver_retained (low : 0x20000 ≤ o) (fits : o + bs.length ≤ 0x30000) :
    i.deliver o bs = { i with retained := i.retained.writeAll (o - 0x20000) bs } := by
  rw [deliver, if_neg (by omega), if_neg (by omega)]
  dsimp only
  rw [List.take_of_length_le (by omega), List.drop_of_length_le (by omega), Memory.writeAll]

theorem deliver_nonret (low : 0x30000 ≤ o) : i.deliver o bs = { i with nonret := i.nonret.writeAll (o - 0x30000) bs } := by
  rw [deliver, if_neg (by omega), if_neg (by omega), Nat.sub_eq_zero_of_le low]
  rfl

end ImgS

/-- Settles O52: a delivery is one write of one area. -/
theorem imageDeliveries : Obligations.ImageDeliveries := by
  unfold Obligations.ImageDeliveries
  refine ⟨?_, ?_, ?_, ?_⟩
  · intro s o bs h
    exact imageWf_iff.mpr ((imageWf_iff.mp h).deliver o bs)
  · intro s o bs x h _ fits
    by_cases inside : o < 0x10000
    · rw [ImgS.deliver_input inside]
      exact ⟨Memory.read_writeAll o x bs (imageWf_iff.mp h).recv, rfl, rfl, rfl, rfl, rfl⟩
    · obtain rfl : bs = [] := List.eq_nil_of_length_eq_zero (by omega)
      have nothing : s.img.deliver o [] = s.img := by
        rw [ImgS.deliver, if_neg inside, if_pos (by omega)]
      rw [nothing]
      refine ⟨?_, rfl, rfl, rfl, rfl, rfl⟩
      rw [if_neg (by rw [List.length_nil]; omega)]
  · intro s o bs x h low _ fits
    rw [ImgS.deliver_retained low fits]
    refine ⟨?_, rfl, rfl, rfl, rfl, rfl⟩
    have at_ : 0x20000 + x - o = x - (o - 0x20000) := by omega
    have range : (o ≤ 0x20000 + x ∧ 0x20000 + x < o + bs.length) ↔ (o - 0x20000 ≤ x ∧ x < o - 0x20000 + bs.length) := by omega
    rw [Memory.read_writeAll _ x bs (imageWf_iff.mp h).retained, at_, if_congr range rfl rfl]
  · intro s o bs x h low _
    rw [ImgS.deliver_nonret low]
    refine ⟨?_, rfl, rfl, rfl, rfl, rfl⟩
    have at_ : 0x30000 + x - o = x - (o - 0x30000) := by omega
    have range : (o ≤ 0x30000 + x ∧ 0x30000 + x < o + bs.length) ↔ (o - 0x30000 ≤ x ∧ x < o - 0x30000 + bs.length) := by omega
    rw [Memory.read_writeAll _ x bs (imageWf_iff.mp h).nonret, at_, if_congr range rfl rfl]

end Sys2Proof.Machine
end

section
/-! SUPPORT. The rules of a station's state: what a station reads after each named change, and what such a change leaves (R294, R301, R304). -/

namespace Sys2Proof.Machine

/-- A change of the values under one key, read back under any key. -/
theorem find?_map_key {α : Type} (n m : Nat) (g : α → α) (l : List (Nat × α)) :
    ((l.map fun x => if x.1 = n then (n, g x.2) else x).find? (·.1 = m)).map (·.2)
      = if m = n then ((l.find? (·.1 = m)).map (·.2)).map g else (l.find? (·.1 = m)).map (·.2) := by
  induction l with
  | nil => simp
  | cons x l ih =>
    by_cases here : x.1 = n <;> by_cases read : x.1 = m <;> by_cases same : m = n <;> simp_all

namespace State

variable {s t : State} {n m : Nat} {g : StationS → StationS} {fs : List Fld} {f : Fld}

/-- Stations are read from the engine alone. -/
theorem station?_of_eng (h : t.eng = s.eng) (m : Nat) : t.station? m = s.station? m := by
  rw [station?, h, station?]

theorem station?_onStation (s : State) (n m : Nat) (g : StationS → StationS) :
    (s.onStation n g).station? m = if m = n then (s.station? m).map g else s.station? m :=
  find?_map_key n m g s.eng.stations

/-- An update of a station moves the stations, and the register table by VALID of the mailbox alone. -/
theorem updStation_frame (s : State) (n : Nat) (g : StationS → StationS) : ∃ r, s.updStation n g = { s.onStation n g with regs := r } := by
  unfold updStation
  dsimp only
  split
  · exact ⟨_, rfl⟩
  · exact ⟨_, rfl⟩

theorem updStation_regsBut (h : regsBut s t fs) (hf : Reg.CYCL_SSTAT.VALID ∈ fs) : regsBut s (t.updStation n g) fs := by
  unfold updStation
  dsimp only
  split
  · exact regsBut_put h hf 0
  · exact h

theorem updStation_get_ne (s : State) (n : Nat) (g : StationS → StationS) (hf : f.key ≠ Reg.CYCL_SSTAT.VALID.key) :
    (s.updStation n g).get f = s.get f := by
  unfold updStation
  dsimp only
  split
  · exact get_put_ne _ _ _ _ hf
  · rfl

theorem station?_updStation (s : State) (n m : Nat) (g : StationS → StationS) :
    (s.updStation n g).station? m = if m = n then (s.station? m).map g else s.station? m := by
  obtain ⟨r, hr⟩ := updStation_frame s n g
  rw [hr, ← station?_onStation]
  rfl

@[simp] theorem updStation_cycRun : (s.updStation n g).cycRun = s.cycRun := by obtain ⟨_, h⟩ := updStation_frame s n g; rw [h]; rfl
@[simp] theorem updStation_cyc : (s.updStation n g).cyc = s.cyc := by obtain ⟨_, h⟩ := updStation_frame s n g; rw [h]; rfl
@[simp] theorem updStation_events : (s.updStation n g).events = s.events := by obtain ⟨_, h⟩ := updStation_frame s n g; rw [h]; rfl
@[simp] theorem updStation_img : (s.updStation n g).img = s.img := by obtain ⟨_, h⟩ := updStation_frame s n g; rw [h]; rfl
@[simp] theorem updStation_prg : (s.updStation n g).prg = s.prg := by obtain ⟨_, h⟩ := updStation_frame s n g; rw [h]; rfl
@[simp] theorem updStation_recd : (s.updStation n g).recd = s.recd := by obtain ⟨_, h⟩ := updStation_frame s n g; rw [h]; rfl
@[simp] theorem updStation_rest : (s.updStation n g).rest = s.rest := by obtain ⟨_, h⟩ := updStation_frame s n g; rw [h]; rfl
@[simp] theorem updStation_hkp : (s.updStation n g).hkp = s.hkp := by obtain ⟨_, h⟩ := updStation_frame s n g; rw [h]; rfl

end State

end Sys2Proof.Machine
end

section
/-! SUPPORT. The instances of the tasks, the commit instant, CYCL_CTRL and a host write of the process image (R281, R283, R287, R288, R295, R301). -/

namespace Sys2Proof.Machine

/-- The fields of CYCL_EVAL of a task, CYCL_STAT.TRUN and the flags that follow have places of their own. -/
theorem cyclEval_apart : ∀ n : Fin 4, (Reg.CYCL_EVAL.LAST.ix n).key ≠ (Reg.CYCL_EVAL.MAX.ix n).key
    ∧ (Reg.CYCL_EVAL.LAST.ix n).key ≠ Reg.CYCL_STAT.TRUN.key ∧ (Reg.CYCL_EVAL.MAX.ix n).key ≠ Reg.CYCL_STAT.TRUN.key
    ∧ (Reg.CYCL_EVAL.LAST.ix n).key ≠ Reg.GLB_STAT.NFAULT.key ∧ (Reg.CYCL_EVAL.LAST.ix n).key ≠ Reg.CMD_IRQ.CPL.key
    ∧ (Reg.CYCL_EVAL.MAX.ix n).key ≠ Reg.GLB_STAT.NFAULT.key ∧ (Reg.CYCL_EVAL.MAX.ix n).key ≠ Reg.CMD_IRQ.CPL.key := by
  decide

namespace Evaluates

variable {s t : State}

theorem events (h : Evaluates s t) : t.events = s.events := congrArg (·.events) h
theorem recd (h : Evaluates s t) : t.recd = s.recd := congrArg (·.recd) h
theorem rest (h : Evaluates s t) : t.rest = s.rest := congrArg (·.rest) h
theorem hkp (h : Evaluates s t) : t.hkp = s.hkp := congrArg (·.hkp) h

end Evaluates

namespace State

variable {s : State}

/-! Tasks. -/

theorem task_onTask (s : State) (n : Fin 4) (g : TaskS → TaskS) : (s.onTask n g).task n = g (s.task n) := by
  simp [task, onTask]

@[simp] theorem onTask_get (s : State) (n : Nat) (g : TaskS → TaskS) (f : Fld) : (s.onTask n g).get f = s.get f := get_of_regs rfl f

@[simp] theorem task_put (f : Fld) (v n : Nat) : (s.put f v).task n = s.task n := rfl
@[simp] theorem task_bump (f : Fld) (n : Nat) : (s.bump f).task n = s.task n := rfl
@[simp] theorem task_record (c : Nat) (p : Bytes) (n : Nat) : (s.record c p).task n = s.task n := rfl
@[simp] theorem task_raise (f : Fld) (n : Nat) : (s.raise f).task n = s.task n := by simp [task]
@[simp] theorem task_settle (n : Nat) : s.settle.task n = s.task n := by simp [task]

/-! Completion of the run of a task (R283). -/

/-- The run of task `n` is in the period that it was released for. -/
def ownPeriod (s : State) (n : Nat) : Bool :=
  !(s.task n).skipped && decide ((s.task n).ends = some (((s.task n).relCyc + s.taskPeriod n - 1) % 2 ^ 32))

/-- A run that has evaluated its last block ends, done where its period is its own. -/
def instanceEnded (s : State) (own : Bool) (out : Nat × Nat) (t : TaskS) : TaskS :=
  { t with run := false, first := false, done_ := own, snap := if own then s.img.work.bytes (out.1 - 0x10000) out.2 else t.snap }

/-- The duration of a run is shown. -/
def evalShown (s : State) (n d : Nat) : State :=
  (s.put (Reg.CYCL_EVAL.LAST.ix n) d).put (Reg.CYCL_EVAL.MAX.ix n) (max d (s.get (Reg.CYCL_EVAL.MAX.ix n)))

theorem completeTask_of_evaluating {n : Nat} {b : Bytes} (hb : s.image? = some b) (hr : (s.task n).run = true) (he : s.engineRuns = true)
    (hn : s.now ≤ s.bnd + ns s.commitNs) (hv : s.evaluating = some n) :
    let u := s.evalBlocks b n (s.blocksLeft b n)
    s.completeTask n = ((u.onTask n (u.instanceEnded (s.ownPeriod n) (u.taskOut n))).evalShown n (s.usSince (s.task n).relAt)).refreshTrun := by
  intro u
  have evaluates : Evaluates s u := (Evaluates.refl s).evalBlocks
  have period : u.taskPeriod n = s.taskPeriod n := by rw [taskPeriod, get_of_regs evaluates.regs, taskPeriod]
  have since : ∀ g, (u.onTask n g).usSince (s.task n).relAt = s.usSince (s.task n).relAt := fun _ => by
    rw [usSince, usSince, ← evaluates.now]
    rfl
  unfold completeTask
  rw [if_neg (Nat.not_lt.mpr hn)]
  simp only [hb, hr, he, hv]
  rw [if_neg (by simp), period, since]
  rfl

theorem completeTask_of_idle {n : Nat} (hn : s.now ≤ s.bnd + ns s.commitNs)
    (h : s.image? = none ∨ (s.task n).run = false ∨ s.engineRuns = false) : s.completeTask n = s := by
  unfold completeTask
  rw [if_neg (Nat.not_lt.mpr hn)]
  dsimp only
  split
  · rfl
  next b hb =>
    refine if_pos ?_
    rcases h with h | h | h
    · rw [h] at hb
      cases hb
    · rw [h]
      rfl
    · rw [h]
      simp

/-- What the end of a run shows in CYCL_EVAL. -/
theorem instanceEnd_get (s : State) (n : Fin 4) (d : Nat) :
    (s.evalShown n d).refreshTrun.settle.get (Reg.CYCL_EVAL.LAST.ix n) = d % 2 ^ 16
      ∧ (s.evalShown n d).refreshTrun.settle.get (Reg.CYCL_EVAL.MAX.ix n) = max d (s.get (Reg.CYCL_EVAL.MAX.ix n)) % 2 ^ 16 := by
  obtain ⟨apart, lastTrun, maxTrun, lastFault, lastCpl, maxFault, maxCpl⟩ := cyclEval_apart n
  rw [settle_get_ne _ _ lastFault lastCpl, settle_get_ne _ _ maxFault maxCpl, refreshTrun, get_put_ne _ _ _ _ lastTrun,
    get_put_ne _ _ _ _ maxTrun, evalShown, get_put_ne _ _ _ _ apart, get_put_self, get_put_self]
  exact ⟨rfl, rfl⟩

/-- The end of a run moves its task and what is shown of it. -/
theorem instanceEnd_frame (s : State) (n : Nat) (g : TaskS → TaskS) (d : Nat) :
    ∃ r, ((s.onTask n g).evalShown n d).refreshTrun = { s.onTask n g with regs := r } := ⟨_, rfl⟩

theorem instanceEnd_regsBut {t : State} {n : Nat} (h : regsBut s t [Reg.CYCL_EVAL.LAST.ix n, Reg.CYCL_EVAL.MAX.ix n, Reg.CYCL_STAT.TRUN]) (d : Nat) :
    regsBut s (t.evalShown n d).refreshTrun [Reg.CYCL_EVAL.LAST.ix n, Reg.CYCL_EVAL.MAX.ix n, Reg.CYCL_STAT.TRUN] :=
  regsBut_put (regsBut_put (regsBut_put h (by simp) _) (by simp) _) (by simp) _

theorem usSince_lt (s : State) (t : Nat) : s.usSince t < 2 ^ 16 := by
  unfold usSince
  omega

/-! The commit instant (R287, R288). -/

theorem commitPoint_of_open (hr : s.cycRun = true) (hc : s.eng.committed ≠ some s.cyc) {u : State}
    (hu : u = { (s.reach (s.bnd + ns s.commitNs)).progress with eng.committed := some s.cyc }) :
    s.commitPoint = ((((u.commitTask 0).commitTask 1).commitTask 2).commitTask 3).openMirror := by
  subst hu
  unfold commitPoint
  rw [if_neg (by simp [hr, hc])]
  rfl

theorem commitPoint_of_taken (h : s.cycRun = false ∨ s.eng.committed = some s.cyc) : s.commitPoint = s := by
  unfold commitPoint
  exact if_pos (by rcases h with h | h <;> simp [h])

section
variable {n : Fin 4} (he : s.engineRuns = true) (hn : (s.task n).ends = some s.cyc) (hp : s.rephCycle = false) (hd : s.duskCycle = false)
include he hn hp hd

theorem commitTask_of_done (hs : (s.task n).skipped = false) (hdone : (s.task n).done_ = true) :
    s.commitTask n = (s.onTask n fun t => { t with ends := none }).commit n := by
  have reph : (s.onTask n fun t => { t with ends := none }).rephCycle = false := hp
  have dusk : (s.onTask n fun t => { t with ends := none }).duskCycle = false := hd
  unfold commitTask
  simp only [he, hn, hs, hdone, reph, dusk]
  rw [if_neg (by simp), if_neg (by simp), if_neg (by simp)]

theorem commitTask_of_not_done (hdone : (s.task n).done_ = false) :
    s.commitTask n = (s.onTask n fun t => { t with ends := none }).overrun n := by
  have reph : (s.onTask n fun t => { t with ends := none }).rephCycle = false := hp
  have dusk : (s.onTask n fun t => { t with ends := none }).duskCycle = false := hd
  unfold commitTask
  simp only [he, hn, hdone, reph, dusk]
  simp

end

/-- A range marked for the mirror moves the twin state alone. -/
theorem markDirty_frame (s : State) (r o k : Nat) : ∃ w, s.markDirty r o k = { s with twin := w } := by
  unfold markDirty
  split
  · exact ⟨_, rfl⟩
  · exact ⟨_, rfl⟩

/-- A commit moves the committed view, the forces that it carries, what is read ahead, the mirror's blocks, the task and its OVR bit. -/
theorem commit_frame (s : State) (n : Fin 4) : ∃ b p w k, s.commit n
    = (({ s with img.comm := applyBits (s.img.comm.writeAll ((s.taskOut n).1 - 0x10000) (s.task n).snap) 0x10000 (s.taskOut n).1
                               ((s.taskOut n).1 + (s.taskOut n).2) s.forces
                 brdg := b, prg := p, twin := w } : State).put Reg.CYCL_STAT.OVR k).onTask n fun t => { t with overs := 0 } := by
  unfold commit
  extract_lets +onlyGivenNames _ _ _ c _ fo _ _ _ t u
  obtain ⟨w, hw⟩ := markDirty_frame { s with img.comm := c, brdg.pre := [], prg.forcedOut := fo } 2 ((s.taskOut n).1 - 0x10000) (s.taskOut n).2
  have marked : t = { s with img.comm := c, brdg.pre := [], prg.forcedOut := fo, twin := w } := hw
  clear_value t
  subst marked
  exact ⟨_, _, w, _, rfl⟩

theorem task_commit (s : State) (n : Fin 4) : (s.commit n).task n = { s.task n with overs := 0 } := by
  obtain ⟨b, p, w, k, committed⟩ := s.commit_frame n
  rw [committed, task_onTask]
  rfl

theorem commit_regsBut (s : State) (n : Fin 4) : regsBut s (s.commit n) [Reg.CYCL_STAT.OVR] := by
  obtain ⟨b, p, w, k, committed⟩ := s.commit_frame n
  rw [committed]
  exact regsBut_put (s := s) (f := Reg.CYCL_STAT.OVR) (regsBut_of_regs (regsBut_refl s _) rfl) (List.mem_singleton_self _) k

/-- A first overrun is counted, shown and recorded. -/
theorem overrun_of_first {n : Fin 4} (h : (s.task n).overs = 0) : s.overrun n
    = ((((s.bump Reg.CYCL_OVERRUN.COUNT).put Reg.CYCL_STAT.OVR (s.get Reg.CYCL_STAT.OVR ||| 2 ^ n.val)).record 0x0905).raise
        Reg.CYCL_IRQ.OVERRUN).onTask n fun t => { t with overs := t.overs + 1 } := by
  have ovr : (s.bump Reg.CYCL_OVERRUN.COUNT).get Reg.CYCL_STAT.OVR = s.get Reg.CYCL_STAT.OVR := get_put_ne _ _ _ _ (by decide)
  unfold overrun
  dsimp only
  rw [task_onTask, task_raise, task_record, task_put, task_bump, h, ovr]
  rfl

/-- What a first overrun leaves in CYCL_OVERRUN, CYCL_IRQ and its task. -/
theorem overrun_shows {n : Fin 4} (h : (s.task n).overs = 0) :
    (s.overrun n).get Reg.CYCL_OVERRUN.COUNT = min (s.get Reg.CYCL_OVERRUN.COUNT + 1) 0xFFFFFFFF ∧ ((s.overrun n).task n).overs = 1
      ∧ newest (s.overrun n) = some 0x0905 ∧ (s.overrun n).flag Reg.CYCL_IRQ.OVERRUN = true := by
  rw [overrun_of_first h]
  refine ⟨?_, ?_, ?_, flag_of_get ?_⟩
  · rw [onTask_get, raise_get_ne _ _ _ (by decide), record_get, get_put_ne _ _ _ _ (by decide)]
    exact bump_get_self rfl s
  · simp [task_onTask, h]
  · simp [newest, record, onTask]
  · rw [onTask_get, get_raise_self]
    rfl

theorem overrun_regsBut {n : Fin 4} (h : (s.task n).overs = 0) :
    regsBut s (s.overrun n) [Reg.CYCL_OVERRUN.COUNT, Reg.CYCL_STAT.OVR, Reg.CYCL_IRQ.OVERRUN] := by
  rw [overrun_of_first h]
  refine regsBut_of_regs (regsBut_raise (f := Reg.CYCL_IRQ.OVERRUN) (regsBut_record (regsBut_put ?_ (by simp) _) _) (by simp)) rfl
  exact regsBut_put (regsBut_refl s _) (by simp) _

/-! CYCL_CTRL (R281, R301). -/

theorem writeCyclCtrl_of_enable {v : Nat} (h0 : bit v 0 = true) (h1 : bit v 1 = false) : s.writeCyclCtrl v = s.putB Reg.CYCL_CTRL.EN true := by
  simp [writeCyclCtrl, h0, h1]

/-- A running engine keeps EN. -/
theorem writeCyclCtrl_of_kept {v : Nat} (h0 : bit v 0 = false) (h1 : bit v 1 = false) (he : s.flag Reg.CYCL_CTRL.EN = true)
    (hr : s.get Reg.CYCL_STAT.ESTATE = 2) : s.writeCyclCtrl v = s.put Reg.CYCL_STAT.WIGN 1 := by
  simp [writeCyclCtrl, h0, h1, he, hr]

/-- An enabled station of the table takes its configuration. -/
def cfgStation (s : State) (x : Nat × StationS) : State := if seEn x.2.entry then s.updStation x.1 fun t => { t with state := 1 } else s

theorem writeCyclCtrl_of_cfgall {v : Nat} (h0 : bit v 0 = true) (h1 : bit v 1 = true) :
    s.writeCyclCtrl v = s.eng.stations.foldl cfgStation (s.putB Reg.CYCL_CTRL.EN true) := by
  simp only [writeCyclCtrl, h0, h1]
  rfl

theorem cfgStation_frame (s : State) (x : Nat × StationS) : ∃ r e, s.cfgStation x = { s with regs := r, eng := e } := by
  unfold cfgStation
  split
  · obtain ⟨r, hr⟩ := s.updStation_frame x.1 fun t => { t with state := 1 }
    exact ⟨r, _, hr⟩
  · exact ⟨_, _, rfl⟩

theorem cfgStations_frame (s : State) (l : List (Nat × StationS)) : ∃ r e, l.foldl cfgStation s = { s with regs := r, eng := e } := by
  induction l generalizing s with
  | nil => exact ⟨_, _, rfl⟩
  | cons x l ih =>
    obtain ⟨r, e, hx⟩ := s.cfgStation_frame x
    obtain ⟨r', e', hl⟩ := ih (s.cfgStation x)
    exact ⟨r', e', by rw [List.foldl_cons, hl, hx]⟩

theorem cfgStations_regsBut {t : State} {fs : List Fld} (h : regsBut s t fs) (hf : Reg.CYCL_SSTAT.VALID ∈ fs) (l : List (Nat × StationS)) :
    regsBut s (l.foldl cfgStation t) fs :=
  List.foldlRecOn (motive := fun u => regsBut s u fs) l _ h fun u hu x _ => by
    unfold cfgStation
    split
    · exact updStation_regsBut hu hf
    · exact hu

theorem station?_cfgStation (s : State) (x : Nat × StationS) (m : Nat) : (s.cfgStation x).station? m
    = (s.station? m).map fun y => if x.1 = m && seEn x.2.entry then { y with state := 1 } else y := by
  unfold cfgStation
  by_cases en : seEn x.2.entry
  · rw [if_pos en, station?_updStation]
    by_cases here : m = x.1
    · simp [here, en]
    · have off : x.1 ≠ m := fun e => here e.symm
      simp [here, off]
  · simp [en]

/-- Every station of which an enabled entry stands takes its configuration. -/
theorem station?_cfgStations (s : State) (l : List (Nat × StationS)) (m : Nat) : (l.foldl cfgStation s).station? m
    = (s.station? m).map fun y => if l.any (fun x => x.1 = m && seEn x.2.entry) then { y with state := 1 } else y := by
  induction l generalizing s with
  | nil => simp
  | cons x l ih =>
    rw [List.foldl_cons, ih, station?_cfgStation, Option.map_map, List.any_cons]
    congr 1
    funext y
    rw [Function.comp_apply]
    generalize (decide (x.1 = m) && seEn x.2.entry) = one
    generalize l.any (fun x => decide (x.1 = m) && seEn x.2.entry) = others
    cases one <;> cases others <;> rfl

/-! A host write (R295). -/

/-- No bit of the byte is held at its old value. -/
theorem byte_of_unforced (old b : Byte) : BitVec.ofNat 8 ((old.toNat &&& 0) ||| (b.toNat &&& (255 - 0))) = b := by
  refine BitVec.eq_of_toNat_eq ?_
  rw [BitVec.toNat_ofNat, Nat.and_zero, Nat.zero_or, Nat.and_two_pow_sub_one_eq_mod b.toNat 8, Nat.mod_mod]
  exact Nat.mod_eq_of_lt b.isLt

/-- A byte that no force covers is written as it comes. -/
theorem imageWrite_of_unforced {u : State} {o : Nat} (b : Byte) (hu : u = s.progress) (lo : 0x20000 ≤ o) (hi : o < 0x30000)
    (hf : u.forcedMem = []) :
    s.imageWrite o [b] = ({ u with img.retained := u.img.retained.write (o - 0x20000) b
                                   brdg := { u.brdg with pre := s.brdg.pre.filter (·.win ≠ 1) } } : State).markDirty 0 (o - 0x20000) 1 := by
  have one : (List.range [b].length).zip [b] = [(0, b)] := rfl
  unfold imageWrite
  extract_lets +onlyGivenNames _ _ v
  rw [one, List.foldl_cons, List.foldl_nil]
  extract_lets +onlyGivenNames a m w keep
  have unforced : m = 0 := by
    have forced : v.forcedMem = [] := by
      rw [← hf, hu]
      rfl
    show forcedMask v.forcedMem a = 0
    rw [forced]
    rfl
  have stands : w = v := if_neg (not_not.mpr unforced)
  have whole : keep = fun _ => b := funext fun old => by
    show BitVec.ofNat 8 ((old.toNat &&& m) ||| (b.toNat &&& (255 - m))) = b
    rw [unforced, byte_of_unforced]
  clear_value keep w
  subst stands hu whole
  rw [if_neg (by simp [a, imageSize]; omega), if_pos (by simp [a]; omega)]
  rfl

end State

section
variable {s : State}

theorem exec_taskInstanceComplete_active (hs : s.active = true) (n : Fin 4) :
    exec (.taskInstanceComplete n) s = .next (s.completeTask n).settle := by
  rw [exec_taskInstanceComplete, execTaskInstanceComplete, liveActive_active hs, done_eq]

theorem exec_taskCommit_active (hs : s.active = true) : exec .taskCommit s = .next s.commitPoint.settle := by
  rw [exec_taskCommit, execTaskCommit, liveActive_active hs, done_eq]

theorem exec_processImageHostWrite_active (hs : s.active = true) (o : Fin 262144) (d : Bytes) :
    exec (.processImageHostWrite o d) s = .next (s.imageWrite o d).settle := by
  rw [exec_processImageHostWrite, execProcessImageHostWrite, liveActive_active hs, done_eq]

theorem exec_cyclEnWrite_awake (hs : s.awake = true) (v : Word) : exec (.cyclEnWrite v) s = .next (s.writeCyclCtrl v.toNat).settle := by
  rw [exec_cyclEnWrite, execCyclEnWrite, live_awake hs, done_eq]

/-- CFGALL stands in the register of EN: its write is the same. -/
theorem exec_stationCfgallWrite_eq (v : Word) (s : State) : exec (.stationCfgallWrite v) s = exec (.cyclEnWrite v) s := rfl

end

/-- Settles O23, form by form from the rules above. -/
theorem engineInstances : Obligations.EngineInstances := by
  unfold Obligations.EngineInstances
  refine ⟨?_, ?_, ?_, ?_, ?_, ?_, ?_, ?_, ?_, ?_, ?_⟩
  · intro n b s hs hb hr he hn hv
    refine ⟨_, exec_taskInstanceComplete_active hs n, ?_⟩
    rw [State.completeTask_of_evaluating hb hr he hn hv]
    have evaluates : Evaluates s (s.evalBlocks b n (s.blocksLeft b n)) := (Evaluates.refl s).evalBlocks
    generalize s.evalBlocks b n (s.blocksLeft b n) = u at evaluates ⊢
    generalize ended : u.instanceEnded (s.ownPeriod n) (u.taskOut n) = g
    have task : (((u.onTask n g).evalShown n (s.usSince (s.task n).relAt)).refreshTrun.settle).task n = g (u.task n) := by
      rw [State.task_settle, State.refreshTrun, State.task_put, State.evalShown, State.task_put, State.task_put, State.task_onTask]
    obtain ⟨last, max⟩ := State.instanceEnd_get (u.onTask n g) n (s.usSince (s.task n).relAt)
    have before : (u.onTask n g).get (Reg.CYCL_EVAL.MAX.ix n) = s.get (Reg.CYCL_EVAL.MAX.ix n) := State.get_of_regs evaluates.regs _
    rw [Nat.mod_eq_of_lt (s.usSince_lt _)] at last
    rw [before] at max
    have regs := State.instanceEnd_regsBut (n := n.val) (regsBut_of_regs (t := u.onTask n g) (regsBut_refl s _) evaluates.regs) (s.usSince (s.task n).relAt)
    obtain ⟨r, moved⟩ := State.instanceEnd_frame u n g (s.usSince (s.task n).relAt)
    rw [task, ← ended]
    rw [← ended] at last max regs moved
    refine ⟨rfl, rfl, rfl, ?_, ?_, last, max, ?_, regsBut_settle regs, ?_, ?_, ?_⟩
    · rw [State.settle_img, moved]
      rfl
    · rw [State.settle_prg, moved]
      rfl
    · rw [State.settle_events, moved]
      exact evaluates.events
    · rw [State.settle_recd, moved]
      exact evaluates.recd
    · rw [State.settle_rest, moved]
      exact evaluates.rest
    · rw [State.settle_hkp, moved]
      exact evaluates.hkp
  · intro u s hs hr hc hu
    rw [exec_taskCommit_active hs, State.commitPoint_of_open hr hc hu]
  · intro v s hs h0 h1
    refine ⟨_, exec_cyclEnWrite_awake hs v, ?_⟩
    rw [State.writeCyclCtrl_of_enable h0 h1]
    refine ⟨State.flag_of_get ?_, by simp, by simp, regsBut_settle (regsBut_put (regsBut_refl s _) (by simp) _), by simp [memSame]⟩
    rw [State.settle_get_ne _ _ (by decide) (by decide), State.putB, State.get_put_self]
    rfl
  · intro v s hs h0 h1 he hr
    refine ⟨_, exec_cyclEnWrite_awake hs v, ?_⟩
    rw [State.writeCyclCtrl_of_kept h0 h1 he hr]
    have en : (s.put Reg.CYCL_STAT.WIGN 1).settle.get Reg.CYCL_CTRL.EN = s.get Reg.CYCL_CTRL.EN := by
      rw [State.settle_get_ne _ _ (by decide) (by decide), State.get_put_ne _ _ _ _ (by decide)]
    refine ⟨by rw [State.flag, en]; exact he, State.flag_of_get ?_, by simp, by simp, ?_, by simp [memSame]⟩
    · rw [State.settle_get_ne _ _ (by decide) (by decide), State.get_put_self]
      rfl
    · exact regsBut_settle (regsBut_put (regsBut_refl s _) (by simp) _)
  · intro v m s hs h0 h1
    refine ⟨_, (exec_stationCfgallWrite_eq v s).trans (exec_cyclEnWrite_awake hs v), ?_⟩
    rw [State.writeCyclCtrl_of_cfgall h0 h1]
    have stations := State.station?_cfgStations (s.putB Reg.CYCL_CTRL.EN true) s.eng.stations m
    have valid := State.cfgStations_regsBut (regsBut_refl (s.putB Reg.CYCL_CTRL.EN true) [Reg.CYCL_SSTAT.VALID]) (by simp) s.eng.stations
    have enabled : regsBut s (s.putB Reg.CYCL_CTRL.EN true) [Reg.CYCL_CTRL.EN, Reg.CYCL_SSTAT.VALID] :=
      regsBut_put (regsBut_refl s _) (by simp) _
    have regs := State.cfgStations_regsBut enabled (by simp) s.eng.stations
    obtain ⟨r, e, moved⟩ := State.cfgStations_frame (s.putB Reg.CYCL_CTRL.EN true) s.eng.stations
    refine ⟨?_, State.flag_of_get ?_, ?_, regsBut_settle regs, ?_⟩
    · rw [State.station?_of_eng (State.settle_eng _), stations]
      rfl
    · rw [State.settle_get_ne _ _ (by decide) (by decide), valid _ (by decide), State.putB, State.get_put_self]
      rfl
    · rw [moved]
      simp
    · rw [moved]
      simp [memSame]
  · intro o b u s hs hu hw lo hi hf
    refine ⟨_, exec_processImageHostWrite_active hs o [b], ?_⟩
    have evaluates : Evaluates s u := hu ▸ (Evaluates.refl s).progress
    rw [State.imageWrite_of_unforced b hu lo hi hf]
    obtain ⟨w, marked⟩ := State.markDirty_frame { u with img.retained := u.img.retained.write (o - 0x20000) b
                                                         brdg := { u.brdg with pre := s.brdg.pre.filter (·.win ≠ 1) } } 0 (o - 0x20000) 1
    rw [marked]
    refine ⟨fun a => ?_, ?_, ?_, ?_, ?_, regsBut_settle (regsBut_of_regs (regsBut_refl s _) evaluates.regs), ?_, ?_, ?_⟩
    · rw [State.settle_img]
      exact (Memory.read_write (o - 0x20000) a b hw).trans (if_congr eq_comm rfl rfl)
    · rw [State.settle_img]
    · rw [State.settle_img]
    · rw [State.settle_prg]
    · rw [State.settle_events]
      exact evaluates.events
    · rw [State.settle_recd]
      exact evaluates.recd
    · rw [State.settle_rest]
      exact evaluates.rest
    · rw [State.settle_hkp]
      exact evaluates.hkp
  · intro n o d v s hs
    have awake := State.awake_of_active hs
    exact ⟨exec_taskInstanceComplete_active hs n, exec_taskCommit_active hs, exec_processImageHostWrite_active hs o d,
      exec_cyclEnWrite_awake awake v, exec_cyclEnWrite_awake awake v⟩
  · intro n s hs hn h
    rw [exec_taskInstanceComplete_active hs, State.completeTask_of_idle hn h]
  · intro s hs h
    rw [exec_taskCommit_active hs, State.commitPoint_of_taken h]
  · intro n s he hn hp hd hsk hdone
    rw [State.commitTask_of_done he hn hp hd hsk hdone]
    have regs := State.commit_regsBut (s.onTask n fun t => { t with ends := none }) n
    obtain ⟨b, p, w, k, committed⟩ := State.commit_frame (s.onTask n fun t => { t with ends := none }) n
    refine ⟨?_, ?_, ?_, ?_, regs⟩
    · rw [committed, State.task_onTask]
      rfl
    · rw [State.task_commit, State.task_onTask]
    · rw [State.task_commit]
    · rw [committed]
      rfl
  · intro n s he hn hp hd hdone ho
    have first : ((s.onTask n fun t => { t with ends := none }).task n).overs = 0 := by
      rw [State.task_onTask]
      exact ho
    rw [State.commitTask_of_not_done he hn hp hd hdone]
    obtain ⟨counted, overs, recorded, raised⟩ := State.overrun_shows first
    refine ⟨?_, counted, overs, recorded, raised, State.overrun_regsBut (s := s.onTask n fun t => { t with ends := none }) first⟩
    rw [State.overrun_of_first first]
    simp [State.onTask]

end Sys2Proof.Machine
end

section
/-! SUPPORT. The stations of the cycle engine: their telegrams out and in, their loss and their table (R298, R300 to R304, R306). -/

namespace Sys2Proof.Machine

section
variable {s : State}

theorem exec_telegramAssembly_active (hs : s.active = true) (n : Fin 256) : exec (.telegramAssembly n) s = .next (s.assemble n).settle := by
  rw [exec_telegramAssembly, execTelegramAssembly, liveActive_active hs, done_eq]

theorem exec_ioInTelegramReceived_active (hs : s.active = true) (p : Port) (f : Bytes) :
    exec (.ioInTelegramReceived p f) s = .next (if s.linkUp p && (s.steer p f).io then s.ioFrame p f else s).settle := by
  rw [exec_ioInTelegramReceived, execIoInTelegramReceived, liveActive_active hs, done_eq]

theorem exec_ioInTelegramReceived_steered (hs : s.active = true) {p : Port} {f : Bytes} (hl : s.linkUp p = true) (hi : (s.steer p f).io = true) :
    exec (.ioInTelegramReceived p f) s = .next (s.ioFrame p f).settle := by
  rw [exec_ioInTelegramReceived_active hs, hl, hi]
  rfl

theorem exec_stationAccwinExpiry_active (hs : s.active = true) (n : Fin 256) :
    exec (.stationAccwinExpiry n) s = .next (s.loseStation n).settle := by
  rw [exec_stationAccwinExpiry, execStationAccwinExpiry, liveActive_active hs, done_eq]

theorem exec_stationTableLoad_awake (hs : s.awake = true) (v : Word) :
    exec (.stationTableLoad v) s = .next (s.posted 0x800A0 (·.stationSel v.toNat)).settle := by
  rw [exec_stationTableLoad, execStationTableLoad, live_awake hs, done_eq]

/-- A load and a store are the same write: WR in its word tells them apart. -/
theorem exec_stationTableStore_eq (v : Word) (s : State) : exec (.stationTableStore v) s = exec (.stationTableLoad v) s := rfl

end

namespace State

variable {s : State} {n : Nat} {x : StationS}

/-! Telegrams out (R298, R300). -/

theorem assemble_of_none (h : s.station? n = none) : s.assemble n = s := by
  unfold assemble
  rw [h]

theorem assemble_of_idle (h : s.station? n = some x) (idle : seEn x.entry = false ∨ s.mayRun = false ∨ s.eng.sent.contains (n, s.cyc) = true) :
    s.assemble n = s := by
  unfold assemble
  rw [h]
  refine if_pos ?_
  rcases idle with off | stopped | sent
  · simp [off]
  · simp [stopped]
  · rw [sent, Bool.or_true]

/-- The telegram of station `n` is noted as sent in the cycle. -/
def noteSent (s : State) (n : Nat) : State := { s with eng.sent := (n, s.cyc) :: s.eng.sent.filter (·.2 = s.cyc) }

/-- A configured station's OUT data go out for its launch instant, after the commit of the cycle. -/
theorem assemble_of_configured {u w : State} {f : Bytes} (h : s.station? n = some x) (en : seEn x.entry = true) (run : s.mayRun = true)
    (calm : s.inau.rephase = false) (unsent : s.eng.sent.contains (n, s.cyc) = false) (configured : x.state = 2)
    (hu : u = ((s.reach (s.launchAt x.entry - us 2)).commitBy (s.launchAt x.entry - us 2)).progress) (runs : u.engineRuns = true)
    (light : u.duskCycle = false) (bare : u.flag Reg.CYCL_IOCFG.TAGEN = false)
    (hf : f = natBe 6 (seMac x.entry) ++ natBe 6 u.ioAddress ++ natBe 2 (u.get (Reg.CONS_IOETYPE.ETYPE.at (sePort x.entry)))
      ++ telegram 1 n (128 + 64 * b2n (u.outForced x.entry true)) u.cyc u.claim (seTag x.entry) (u.img.comm.readN (seOut x.entry) (seOutLen x.entry)))
    (hw : w = (u.noteSent n).bump Reg.CYCL_OUTSENT.COUNT) :
    s.assemble n
      = w.sendEth (sePort x.entry) f (w.get (Reg.CONS_TXCFG.IOQ.at (sePort x.entry))) none (some (s.launchAt x.entry)) 0 13 w.claim := by
  have due : ¬(!seEn x.entry || !s.mayRun
      || s.inau.rephase && s.inau.place.any (fun q : Int × Nat × Nat => q.1 < (s.launchAt x.entry : Int)) || s.eng.sent.contains (n, s.cyc)) = true := by
    simp only [en, run, calm, unsent]
    simp
  have valid : ((u.noteSent n).engineRuns && !(u.noteSent n).duskCycle) = true := Bool.and_eq_true_iff.mpr ⟨runs, congrArg not light⟩
  have untagged : (u.noteSent n).flag Reg.CYCL_IOCFG.TAGEN = false := bare
  unfold noteSent at valid untagged hw
  subst hf hw
  unfold assemble
  dsimp only
  rw [h]
  dsimp only
  rw [if_neg due, ← hu]
  simp only [configured, valid, untagged]
  simp only [reduceCtorEq]
  rfl

/-! Telegrams in (R302). -/

section
variable {p : Nat} {f g : Bytes}

theorem ioFrame_of_none (h : s.station? (byteAt (f.drop (ethNext f)) 2) = none) : s.ioFrame p f = s.bump Reg.CYCL_INSTRAY.COUNT := by
  unfold ioFrame
  dsimp only
  rw [h]

variable (hg : g = f.drop (ethNext f)) (hn : n = byteAt g 2) (h : s.station? n = some x)
include hg hn h

theorem ioFrame_of_stray
    (stray : fieldAt f 0 6 ≠ s.ioAddress ∨ seEn x.entry = false ∨ sePort x.entry ≠ p ∨ fieldAt f 6 6 ≠ seMac x.entry) :
    s.ioFrame p f = s.bump Reg.CYCL_INSTRAY.COUNT := by
  subst hg hn
  unfold ioFrame
  dsimp only
  rw [h]
  exact if_pos (by rcases stray with e | e | e | e <;> simp [e])

variable (address : fieldAt f 0 6 = s.ioAddress) (en : seEn x.entry = true) (port : sePort x.entry = p) (mac : fieldAt f 6 6 = seMac x.entry)
include address en port mac

theorem ioFrame_of_bad (long : 3 ≤ g.length)
    (bad : byteAt g 0 ≠ 1 ∨ byteAt g 1 ≠ 2 ∨ (fieldAt g 16 2 ≠ 0 ∧ fieldAt g 16 2 ≠ seInLen x.entry) ∨ g.length < 22 + fieldAt g 16 2
      ∨ crc16 (g.take (20 + fieldAt g 16 2)) ≠ fieldAt g (20 + fieldAt g 16 2) 2) :
    s.ioFrame p f = s.bump Reg.CYCL_INBAD.COUNT := by
  subst hn
  unfold ioFrame
  dsimp only
  rw [← hg, h]
  refine (if_neg ?_).trans (if_pos ?_)
  · simpa [address, en, port, mac] using long
  · simpa [or_assoc] using bad

theorem ioFrame_of_good (version : byteAt g 0 = 1) (kind : byteAt g 1 = 2) (len : fieldAt g 16 2 = seInLen x.entry)
    (long : 22 + seInLen x.entry ≤ g.length) (crc : crc16 (g.take (20 + seInLen x.entry)) = fieldAt g (20 + seInLen x.entry) 2) :
    s.ioFrame p f = s.takeIn n x g := by
  subst hn
  unfold ioFrame
  dsimp only
  rw [← hg, h]
  refine (if_neg ?_).trans (if_neg ?_)
  · simp [address, en, port, mac]
    omega
  · simp [version, kind, len, crc, long]

end

/-! A valid IN (R301, R303, R304). -/

/-- What a valid IN telegram tells of its station. -/
def told (s : State) (e : Bytes) (g : Bytes) (t : StationS) : StationS :=
  { t with lastCyc := fieldAt g 4 4, claim := fieldAt g 8 4, tag := fieldAt g 12 4, heard := true, safe := bit (byteAt g 3) 5,
           err := bit (byteAt g 3) 4, hi := decide (s.claim < fieldAt g 8 4), state := if bit (byteAt g 3) 6 && fieldAt g 12 4 = seTag e then 2 else 1 }

/-- The telegram is counted and its station updated. -/
def heard (s : State) (n : Nat) (e g : Bytes) : State := (s.bump Reg.CYCL_INGOOD.COUNT).updStation n ((s.bump Reg.CYCL_INGOOD.COUNT).told e g)

/-- What the telegram reports is recorded and shown. -/
def reported (s : State) (n : Nat) (t : StationS) (hi : Bool) (g : Bytes) : State :=
  let s := if (bit (byteAt g 3) 6 && fieldAt g 12 4 = seTag t.entry) && t.state ≠ 2 then (s.record 0x0908).raise Reg.CYCL_IRQ.STCFG else s
  let s := if bit (byteAt g 3) 4 && !t.err then s.record 0x090C else s
  let s := if hi then (s.raise Reg.CYCL_IRQ.CLAIMHI).recordGen 0x090A n else s
  s.stationClaim (fieldAt g 8 4)

/-- The data of a telegram of the cycle are taken; one that is late is counted. -/
def inputsTaken (s : State) (n : Nat) (e g : Bytes) : State :=
  if s.cycRun && fieldAt g 4 4 = s.cyc then
    if fieldAt g 16 2 = 0 then s
    else ({ s with img.recv := s.img.recv.writeAll (seIn e) ((g.drop 20).take (fieldAt g 16 2)) } : State).onStation n fun t => { t with wrote := true }
  else if s.cycRun && 0 < sdiff32 s.cyc (fieldAt g 4 4) then (s.bump Reg.CYCL_INLATE.COUNT).onStation n fun t => { t with late := true }
  else s

theorem takeIn_eq (s : State) (n : Nat) (t : StationS) (g : Bytes) : s.takeIn n t g
    = ((s.heard n t.entry g).reported n t (decide ((s.bump Reg.CYCL_INGOOD.COUNT).claim < fieldAt g 8 4)) g).inputsTaken n t.entry g := rfl

/-- What a telegram reports moves neither the engine nor the image nor the cycle. -/
structure Reports (s t : State) : Prop where
  eng : t.eng = s.eng
  img : t.img = s.img
  cycRun : t.cycRun = s.cycRun
  cyc : t.cyc = s.cyc
  good : t.get Reg.CYCL_INGOOD.COUNT = s.get Reg.CYCL_INGOOD.COUNT

theorem Reports.refl (s : State) : Reports s s := ⟨rfl, rfl, rfl, rfl, rfl⟩

theorem Reports.trans {s t u : State} (h : Reports s t) (k : Reports t u) : Reports s u :=
  ⟨k.eng.trans h.eng, k.img.trans h.img, k.cycRun.trans h.cycRun, k.cyc.trans h.cyc, k.good.trans h.good⟩

theorem Reports.ite {s t u : State} {c : Prop} [Decidable c] (h : Reports s t) (k : Reports s u) : Reports s (if c then t else u) := by
  split
  · exact h
  · exact k

theorem reports_record (s : State) (c : Nat) (b : Bytes) : Reports s (s.record c b) := ⟨rfl, rfl, rfl, rfl, rfl⟩

theorem reports_put (s : State) {f : Fld} (v : Nat) (hf : Reg.CYCL_INGOOD.COUNT.key ≠ f.key) : Reports s (s.put f v) :=
  ⟨rfl, rfl, rfl, rfl, get_put_ne _ _ _ _ hf⟩

theorem reports_raise (s : State) {f : Fld} (hf : Reg.CYCL_INGOOD.COUNT.key ≠ f.key) : Reports s (s.raise f) :=
  ⟨by simp, by simp, by simp, by simp, raise_get_ne _ _ _ hf⟩

theorem reports_dueYield (s : State) (c : Nat) : Reports s (s.dueYield c) := by
  unfold dueYield
  split
  · exact ⟨rfl, rfl, rfl, rfl, rfl⟩
  · exact .ite (.refl s) (reports_record ..)

theorem reports_stationClaim (s : State) (c : Nat) : Reports s (s.stationClaim c) := by
  unfold stationClaim
  extract_lets +onlyGivenNames u
  have noted : Reports s u := (reports_put s _ (by decide)).trans (reports_put _ _ (by decide))
  have renewed : Reports u { u with twin.renew := true } := ⟨rfl, rfl, rfl, rfl, rfl⟩
  refine .ite noted (.ite (noted.trans ?_) (.ite (noted.trans renewed) (.ite (noted.trans (reports_dueYield u 2)) noted)))
  exact ⟨by simp [stackMsg], by simp [stackMsg], by simp [stackMsg], by simp [stackMsg], stackSend_get ..⟩

theorem reports_reported (s : State) (n : Nat) (t : StationS) (hi : Bool) (g : Bytes) : Reports s (s.reported n t hi g) := by
  unfold reported
  extract_lets a b c
  have configured : Reports s a := .ite ((reports_record s _ _).trans (reports_raise _ (by decide))) (.refl s)
  have failing : Reports s b := .ite (configured.trans (reports_record ..)) configured
  have higher : Reports s c :=
    .ite ((failing.trans (reports_raise _ (by decide))).trans ⟨by simp, by simp, by simp, by simp, recordGen_get ..⟩) failing
  exact higher.trans (reports_stationClaim ..)

@[simp] theorem station?_bump (s : State) (f : Fld) (n : Nat) : (s.bump f).station? n = s.station? n := rfl

theorem station?_heard (h : s.station? n = some x) (e g : Bytes) : (s.heard n e g).station? n = some (s.told e g x) := by
  have claim : (s.bump Reg.CYCL_INGOOD.COUNT).claim = s.claim := get_put_ne _ _ _ _ (by decide)
  rw [heard, station?_updStation, if_pos rfl, station?_bump, h]
  simp only [told, claim, Option.map_some]

theorem sdiff32_self (a : Nat) : sdiff32 a a = 0 := by
  unfold sdiff32 signed
  dsimp only
  rw [if_pos (by omega)]
  omega

/-- What taking the inputs leaves in the station, in the image and in the count of good telegrams. -/
theorem inputsTaken_shows (h : s.station? n = some x) (e g : Bytes) :
    (s.inputsTaken n e g).station? n = some { x with
        wrote := x.wrote || (s.cycRun && decide (fieldAt g 4 4 = s.cyc) && decide (fieldAt g 16 2 ≠ 0))
        late := x.late || (s.cycRun && decide (0 < sdiff32 s.cyc (fieldAt g 4 4))) }
      ∧ (s.inputsTaken n e g).img.recv
          = (if s.cycRun && decide (fieldAt g 4 4 = s.cyc) then s.img.recv.writeAll (seIn e) ((g.drop 20).take (fieldAt g 16 2)) else s.img.recv)
      ∧ (s.inputsTaken n e g).get Reg.CYCL_INGOOD.COUNT = s.get Reg.CYCL_INGOOD.COUNT := by
  unfold inputsTaken
  by_cases now : (s.cycRun && decide (fieldAt g 4 4 = s.cyc)) = true
  · obtain ⟨run, same⟩ := Bool.and_eq_true_iff.mp now
    have same := of_decide_eq_true same
    have fresh := sdiff32_self s.cyc
    rw [if_pos now]
    by_cases empty : fieldAt g 16 2 = 0
    · rw [if_pos empty]
      refine ⟨?_, ?_, rfl⟩
      · rw [h]
        simp [empty, same, fresh]
      · rw [if_pos now, empty]
        rfl
    · rw [if_neg empty]
      refine ⟨?_, ?_, rfl⟩
      · rw [station?_onStation, if_pos rfl]
        show (s.station? n).map _ = _
        rw [h]
        simp [run, empty, same, fresh]
      · rw [if_pos now]
        rfl
  · rw [if_neg now]
    have other := Bool.eq_false_iff.mpr now
    by_cases late : (s.cycRun && decide (0 < sdiff32 s.cyc (fieldAt g 4 4))) = true
    · rw [if_pos late]
      refine ⟨?_, ?_, ?_⟩
      · rw [station?_onStation, if_pos rfl, station?_bump, h, late, other]
        simp
      · rw [if_neg now]
        rfl
      · exact get_put_ne _ _ _ _ (by decide)
    · rw [if_neg late, if_neg now, Bool.eq_false_iff.mpr late, other, h]
      simp

/-! Loss of a station (R304). -/

theorem loseStation_of_none (h : s.station? n = none) : s.loseStation n = s := by
  unfold loseStation
  rw [h]

theorem loseStation_of_idle (h : s.station? n = some x) (idle : seEn x.entry = false ∨ x.state = 3 ∨ x.miss < seAccWin x.entry) :
    s.loseStation n = s := by
  unfold loseStation
  rw [h]
  refine if_neg ?_
  rcases idle with off | lost | within
  · simp [off]
  · simp [lost]
  · simp [within]

theorem loseStation_of_due (h : s.station? n = some x) (en : seEn x.entry = true) (found : x.state ≠ 3) (late : seAccWin x.entry ≤ x.miss) :
    s.loseStation n
      = (((s.updStation n fun t => { t with state := 3 }).bump Reg.CYCL_STLOST.COUNT).raise Reg.CYCL_IRQ.STLOST).record 0x0909 := by
  unfold loseStation
  rw [h]
  exact if_pos (by simp [en, found, late])

/-! The mailbox of the station table (R306). -/

/-- The fields of CYCL_SSEL hold their bits of the word `v`. -/
def stationPicked (s : State) (v : Nat) : State :=
  ((s.put Reg.CYCL_SSEL.TAB (Reg.CYCL_SSEL.TAB.of v)).put Reg.CYCL_SSEL.WR (Reg.CYCL_SSEL.WR.of v)).put Reg.CYCL_SSEL.INDEX (Reg.CYCL_SSEL.INDEX.of v)

/-- The four words that the mailbox shows, and that they are valid. -/
def putSd (s : State) (b : Bytes) : State :=
  ((((s.put Reg.CYCL_SD0.DATA (fieldAt b 0 4)).put Reg.CYCL_SD1.DATA (fieldAt b 4 4)).put Reg.CYCL_SD2.DATA (fieldAt b 8 4)).put Reg.CYCL_SD3.DATA
    (fieldAt b 12 4)).put Reg.CYCL_SSTAT.VALID 1

/-- The 16 bytes of the mailbox's words. -/
def sdBytes (s : State) : Bytes :=
  natBe 4 (s.get Reg.CYCL_SD0.DATA) ++ natBe 4 (s.get Reg.CYCL_SD1.DATA) ++ natBe 4 (s.get Reg.CYCL_SD2.DATA) ++ natBe 4 (s.get Reg.CYCL_SD3.DATA)

theorem stationPicked_get (s : State) (v : Nat) :
    (s.stationPicked v).get Reg.CYCL_SSEL.TAB = Reg.CYCL_SSEL.TAB.of v ∧ (s.stationPicked v).get Reg.CYCL_SSEL.WR = Reg.CYCL_SSEL.WR.of v
      ∧ (s.stationPicked v).get Reg.CYCL_SSEL.INDEX = Reg.CYCL_SSEL.INDEX.of v := by
  simp (disch := decide) only [stationPicked, get_put_ne, get_put_self]
  exact ⟨Nat.mod_mod _ _, Nat.mod_mod _ _, Nat.mod_mod _ _⟩

theorem stationPicked_sdBytes (s : State) (v : Nat) : (s.stationPicked v).sdBytes = s.sdBytes := by
  simp (disch := decide) only [sdBytes, stationPicked, get_put_ne]

theorem stationPicked_regsBut {fs : List Fld} (h : [Reg.CYCL_SSEL.TAB, Reg.CYCL_SSEL.WR, Reg.CYCL_SSEL.INDEX] ⊆ fs) (s : State) (v : Nat) :
    regsBut s (s.stationPicked v) fs :=
  regsBut_put (regsBut_put (regsBut_put (regsBut_refl s _) (h (by simp)) _) (h (by simp)) _) (h (by simp)) _

theorem putSd_get (s : State) (b : Bytes) :
    (s.putSd b).get Reg.CYCL_SSTAT.VALID = 1 ∧ (s.putSd b).get Reg.CYCL_SD0.DATA = fieldAt b 0 4 % 2 ^ 32
      ∧ (s.putSd b).get Reg.CYCL_SD1.DATA = fieldAt b 4 4 % 2 ^ 32 ∧ (s.putSd b).get Reg.CYCL_SD2.DATA = fieldAt b 8 4 % 2 ^ 32
      ∧ (s.putSd b).get Reg.CYCL_SD3.DATA = fieldAt b 12 4 % 2 ^ 32 := by
  simp (disch := decide) only [putSd, get_put_ne, get_put_self, and_self, and_true]
  rfl

theorem putSd_regsBut {fs : List Fld} {u : State}
    (hs : [Reg.CYCL_SSTAT.VALID, Reg.CYCL_SD0.DATA, Reg.CYCL_SD1.DATA, Reg.CYCL_SD2.DATA, Reg.CYCL_SD3.DATA] ⊆ fs) (h : regsBut s u fs) (b : Bytes) :
    regsBut s (u.putSd b) fs :=
  regsBut_put (regsBut_put (regsBut_put (regsBut_put (regsBut_put h (hs (by simp)) _) (hs (by simp)) _) (hs (by simp)) _) (hs (by simp)) _)
    (hs (by simp)) _

/-- A load of the first half of an entry shows its bytes. -/
theorem stationSel_of_load {v : Nat} (hw : Reg.CYCL_SSEL.WR.of v = 0) (ht : Reg.CYCL_SSEL.TAB.of v = 0)
    (h : s.station? (Reg.CYCL_SSEL.INDEX.of v) = some x) : s.stationSel v = (s.stationPicked v).putSd (x.entry.take 16) := by
  obtain ⟨tab, wr, index⟩ := s.stationPicked_get v
  have flag : (s.stationPicked v).flag Reg.CYCL_SSEL.WR = false := by rw [State.flag, wr, hw]; rfl
  have entry : (s.stationPicked v).station? (Reg.CYCL_SSEL.INDEX.of v) = some x := h
  rw [ht] at tab
  unfold stationPicked at flag tab index entry
  unfold stationSel
  simp only [flag, tab, index, entry]
  rfl

theorem stationPicked_frame (s : State) (v : Nat) : ∃ r, s.stationPicked v = { s with regs := r } := ⟨_, rfl⟩

theorem putSd_frame (s : State) (b : Bytes) : ∃ r, s.putSd b = { s with regs := r } := ⟨_, rfl⟩

/-- A load changes the register table alone, and there the mailbox. -/
theorem stationLoad_frame (s : State) (v : Nat) (b : Bytes) : ∃ r, (s.stationPicked v).putSd b = { s with regs := r } := by
  obtain ⟨_, picked⟩ := s.stationPicked_frame v
  obtain ⟨_, shown⟩ := (s.stationPicked v).putSd_frame b
  rw [shown, picked]
  exact ⟨_, rfl⟩

theorem stationLoad_regsBut (s : State) (v : Nat) (b : Bytes) :
    regsBut s ((s.stationPicked v).putSd b) [Reg.CYCL_SSEL.TAB, Reg.CYCL_SSEL.WR, Reg.CYCL_SSEL.INDEX, Reg.CYCL_SSTAT.VALID, Reg.CYCL_SD0.DATA,
      Reg.CYCL_SD1.DATA, Reg.CYCL_SD2.DATA, Reg.CYCL_SD3.DATA] :=
  putSd_regsBut (by simp) (stationPicked_regsBut (by simp) s v) b

/-- A store of a second half waits for the first. -/
theorem stationSel_of_store_half {v : Nat} (hw : Reg.CYCL_SSEL.WR.of v = 1) (ht : Reg.CYCL_SSEL.TAB.of v = 1) :
    s.stationSel v = { (s.stationPicked v).put Reg.CYCL_SSTAT.VALID 0 with
      eng.half1 := s.eng.half1.filter (·.1 ≠ Reg.CYCL_SSEL.INDEX.of v) ++ [(Reg.CYCL_SSEL.INDEX.of v, s.sdBytes)] } := by
  obtain ⟨tab, wr, index⟩ := s.stationPicked_get v
  have flag : (s.stationPicked v).flag Reg.CYCL_SSEL.WR = true := by rw [State.flag, wr, hw]; rfl
  have data := s.stationPicked_sdBytes v
  rw [ht] at tab
  unfold stationPicked sdBytes at data
  unfold stationPicked at flag tab index
  unfold stationSel
  simp only [flag, tab, index, data]
  rfl

/-- The mailbox is busy while CYCL_SSTAT.BUSY stands. -/
theorem posted_ssel (f : State → State) : s.posted 0x800A0 f = if s.flag Reg.CYCL_SSTAT.BUSY then s.setOpt (wignOf 0x800A0) else f s := rfl

end State

/-- Settles O24, form by form from the rules above. -/
theorem stations : Obligations.Stations := by
  unfold Obligations.Stations
  refine ⟨?_, ?_, ?_, ?_, ?_, ?_, ?_, ?_, ?_, ?_, ?_, ?_, ?_, ?_, ?_⟩
  · intro n x s u w f hs h en run calm unsent configured hu runs light bare hf hw
    rw [exec_telegramAssembly_active hs, State.assemble_of_configured h en run calm unsent configured hu runs light bare hf hw]
  · intro p f s hs hl hi h
    refine ⟨_, exec_ioInTelegramReceived_steered hs hl hi, ?_⟩
    rw [State.ioFrame_of_none h]
    refine ⟨?_, by simp, by simp, regsBut_settle (regsBut_put (regsBut_refl s _) (by simp) _), by simp [memSame]⟩
    rw [State.settle_get_ne _ _ (by decide) (by decide)]
    exact State.bump_get_self rfl s
  · intro p f g n x s hs hl hi hg hn h address en port mac version kind len long crc
    rw [exec_ioInTelegramReceived_steered hs hl hi, State.ioFrame_of_good hg hn h address en port mac version kind len long crc]
  · intro n x s hs h en found late
    refine ⟨_, exec_stationAccwinExpiry_active hs n, ?_⟩
    rw [State.loseStation_of_due h en found late]
    refine ⟨?_, ?_, State.flag_of_get ?_, by simp [newest, State.record], ?_, by simp [memSame]⟩
    · rw [State.station?_of_eng (s := s.updStation n fun t => { t with state := 3 }) (by simp), State.station?_updStation, if_pos rfl, h]
      rfl
    · rw [State.settle_get_ne _ _ (by decide) (by decide), State.record_get, State.raise_get_ne _ _ _ (by decide), State.bump_get_self rfl,
        State.updStation_get_ne _ _ _ (by decide)]
    · rw [State.settle_get_ne _ _ (by decide) (by decide), State.record_get, State.get_raise_self]
      rfl
    · exact regsBut_settle (regsBut_record (regsBut_raise (regsBut_put (State.updStation_regsBut (regsBut_refl s _) (by simp)) (by simp) _) (by simp)) _)
  · intro v x s hs idle hw ht h
    refine ⟨_, exec_stationTableLoad_awake hs v, ?_⟩
    rw [State.posted_ssel, idle, if_neg Bool.false_ne_true, State.stationSel_of_load hw ht h]
    obtain ⟨valid, d0, d1, d2, d3⟩ := (s.stationPicked v.toNat).putSd_get (x.entry.take 16)
    have regs := s.stationLoad_regsBut v.toNat (x.entry.take 16)
    obtain ⟨r, moved⟩ := s.stationLoad_frame v.toNat (x.entry.take 16)
    simp (disch := decide) only [State.settle_get_ne, State.settle_eng, State.settle_events]
    exact ⟨valid, d0, d1, d2, d3, by rw [moved], by rw [moved], regsBut_settle regs, by simp [moved, memSame]⟩
  · intro v s hs idle hw ht
    refine ⟨_, (exec_stationTableStore_eq v s).trans (exec_stationTableLoad_awake hs v), ?_⟩
    rw [State.posted_ssel, idle, if_neg Bool.false_ne_true, State.stationSel_of_store_half hw ht]
    obtain ⟨r, picked⟩ := s.stationPicked_frame v.toNat
    refine ⟨?_, ?_, by simp [picked], ?_, by simp [picked, memSame]⟩
    · rw [State.settle_get_ne _ _ (by decide) (by decide)]
      exact State.get_put_self _ _ 0
    · rw [State.settle_eng]
      rfl
    · exact regsBut_settle (regsBut_of_regs (regsBut_put (f := Reg.CYCL_SSTAT.VALID) (State.stationPicked_regsBut (by simp) s v.toNat) (by simp) 0) rfl)
  · intro n p f v s hs
    have awake := State.awake_of_active hs
    exact ⟨exec_telegramAssembly_active hs n, exec_ioInTelegramReceived_active hs p f, exec_stationAccwinExpiry_active hs n,
      exec_stationTableLoad_awake awake v, exec_stationTableLoad_awake awake v⟩
  · intro n x s hs h idle
    rw [exec_telegramAssembly_active hs, State.assemble_of_idle h idle]
  · intro n x s hs h idle
    rw [exec_stationAccwinExpiry_active hs, State.loseStation_of_idle h idle]
  · intro n s hs h
    rw [exec_telegramAssembly_active hs, State.assemble_of_none h, exec_stationAccwinExpiry_active hs, State.loseStation_of_none h]
    exact ⟨rfl, rfl⟩
  · intro p f g n x s hs hl hi hg hn h stray
    rw [exec_ioInTelegramReceived_steered hs hl hi, State.ioFrame_of_stray hg hn h stray]
  · intro p f g n x s hs hl hi hg hn h address en port mac long bad
    rw [exec_ioInTelegramReceived_steered hs hl hi, State.ioFrame_of_bad hg hn h address en port mac long bad]
  · intro n x g s h
    rw [State.takeIn_eq]
    have heard := State.station?_heard h x.entry g
    obtain ⟨eng, img, cycRun, cyc, good⟩ :=
      State.reports_reported (s.heard n x.entry g) n x (decide ((s.bump Reg.CYCL_INGOOD.COUNT).claim < fieldAt g 8 4)) g
    obtain ⟨station, recv, count⟩ := State.inputsTaken_shows ((State.station?_of_eng eng n).trans heard) x.entry g
    have run : (s.heard n x.entry g).cycRun = s.cycRun := State.updStation_cycRun
    have cycle : (s.heard n x.entry g).cyc = s.cyc := State.updStation_cyc
    rw [cycRun, cyc, run, cycle] at station
    rw [cycRun, cyc, run, cycle, img, State.heard, State.updStation_img] at recv
    refine ⟨station, recv, ?_⟩
    rw [count, good, State.heard, State.updStation_get_ne _ _ _ (by decide)]
    exact State.bump_get_self rfl s
  · intro p f s hs h
    rw [exec_ioInTelegramReceived_active hs, if_neg (by rcases h with h | h <;> simp [h])]
  · intro v s hs busy
    have ignored : s.posted 0x800A0 (·.stationSel v.toNat) = s.setOpt (wignOf 0x800A0) := by rw [State.posted_ssel, busy, if_pos rfl]
    rw [exec_stationTableStore_eq, exec_stationTableLoad_awake hs, ignored]
    exact ⟨rfl, rfl⟩

end Sys2Proof.Machine
end

section
/-! SUPPORT. The end of a STORE while the inactive bank holds bytes beyond its image (R318). -/

namespace Sys2Proof.Machine

/-- A STORE is in progress; the header in the inactive bank gives a length of 128 bytes, and the byte at 200 is not 0. -/
def State.storeBeyondImage : State :=
  { State.reset.put Reg.PRG_STAT.OPRUN 2 with hkp := { running := [.store] }, prg.b.exec := [(11, 128), (200, 1)] }

/-- The end of that STORE copies the bank whole. -/
theorem State.storeDone_storeBeyondImage_mram :
    ((State.storeBeyondImage.storeDone true).settle.bank State.storeBeyondImage.inaBank).mram = [(11, 128), (200, 1)] := by
  decide +kernel

/-- Refutes O25: at its end a STORE copies the whole inactive bank into its MRAM bank, as R318 says, and not the bytes of the image alone: here
the byte at 200 comes along with an image of 128 bytes. -/
theorem not_programs : ¬ Obligations.Programs := by
  unfold Obligations.Programs
  rintro ⟨-, -, -, -, -, stored, -⟩
  obtain ⟨t, next, bank, -⟩ := stored State.storeBeyondImage rfl rfl rfl rfl (by decide)
  cases next
  have copied := State.storeDone_storeBeyondImage_mram
  rw [bank] at copied
  exact absurd copied (by decide)

end Sys2Proof.Machine
end

section
/-! SUPPORT. The force table: the mailbox of FRC_SEL, stores of entries, clearing, loads (R325, R327, R330). -/

namespace Sys2Proof.Machine

section
variable {s : State}

theorem exec_forceEntryStore_awake (hs : s.awake = true) (v : Word) :
    exec (.forceEntryStore v) s = .next (s.posted 0x80170 (·.frcSel v.toNat)).settle := by
  rw [exec_forceEntryStore, execForceEntryStore, live_awake hs, done_eq]

/-- A store, a clearing of all and a load are the same write: CLRALL and WR in its word tell them apart (Table 11.14). -/
theorem exec_forceClearAll_eq (v : Word) (s : State) : exec (.forceClearAll v) s = exec (.forceEntryStore v) s := rfl

theorem exec_forceEntryLoad_eq (v : Word) (s : State) : exec (.forceEntryLoad v) s = exec (.forceEntryStore v) s := rfl

/-- The mailbox is busy while FRC_STAT.BUSY stands. -/
theorem State.posted_frcSel (s : State) (f : State → State) :
    s.posted 0x80170 f = if s.flag Reg.FRC_STAT.BUSY then s.setOpt (wignOf 0x80170) else f s := rfl

theorem exec_forceEntryStore_idle (hs : s.awake = true) (idle : s.flag Reg.FRC_STAT.BUSY = false) (v : Word) :
    exec (.forceEntryStore v) s = .next (s.frcSel v.toNat).settle := by
  rw [exec_forceEntryStore_awake hs, State.posted_frcSel, idle, if_neg Bool.false_ne_true]

theorem exec_forceEntryStore_busy (hs : s.awake = true) (busy : s.flag Reg.FRC_STAT.BUSY = true) (v : Word) :
    exec (.forceEntryStore v) s = .next (s.setOpt (wignOf 0x80170)).settle := by
  rw [exec_forceEntryStore_awake hs, State.posted_frcSel, busy, if_pos rfl]

end

namespace State

variable {s t : State} {v i : Nat} {e : Bytes}

/-! The fields of FRC_SEL. -/

/-- The fields of FRC_SEL hold their bits of the word `v`. -/
def forcePicked (s : State) (v : Nat) : State :=
  ((s.put Reg.FRC_SEL.CLRALL (Reg.FRC_SEL.CLRALL.of v)).put Reg.FRC_SEL.WR (Reg.FRC_SEL.WR.of v)).put Reg.FRC_SEL.INDEX (Reg.FRC_SEL.INDEX.of v)

theorem forcePicked_get (s : State) (v : Nat) :
    (s.forcePicked v).get Reg.FRC_SEL.CLRALL = Reg.FRC_SEL.CLRALL.of v ∧ (s.forcePicked v).get Reg.FRC_SEL.WR = Reg.FRC_SEL.WR.of v
      ∧ (s.forcePicked v).get Reg.FRC_SEL.INDEX = Reg.FRC_SEL.INDEX.of v := by
  simp (disch := decide) only [forcePicked, get_put_ne, get_put_self]
  exact ⟨Nat.mod_mod _ _, Nat.mod_mod _ _, Nat.mod_mod _ _⟩

theorem forcePicked_regsBut {fs : List Fld} (h : [Reg.FRC_SEL.CLRALL, Reg.FRC_SEL.WR, Reg.FRC_SEL.INDEX] ⊆ fs) (s : State) (v : Nat) :
    regsBut s (s.forcePicked v) fs :=
  regsBut_put (regsBut_put (regsBut_put (regsBut_refl s _) (h (by simp)) _) (h (by simp)) _) (h (by simp)) _

@[simp] theorem forcePicked_events (s : State) (v : Nat) : (s.forcePicked v).events = s.events := rfl
@[simp] theorem forcePicked_img (s : State) (v : Nat) : (s.forcePicked v).img = s.img := rfl
@[simp] theorem forcePicked_prg (s : State) (v : Nat) : (s.forcePicked v).prg = s.prg := rfl
@[simp] theorem forcePicked_recd (s : State) (v : Nat) : (s.forcePicked v).recd = s.recd := rfl
@[simp] theorem forcePicked_rest (s : State) (v : Nat) : (s.forcePicked v).rest = s.rest := rfl
@[simp] theorem forcePicked_hkp (s : State) (v : Nat) : (s.forcePicked v).hkp = s.hkp := rfl

theorem forcePicked_frcBytes (s : State) (v : Nat) : (s.forcePicked v).frcBytes = s.frcBytes := by
  simp (disch := decide) only [frcBytes, forcePicked, get_put_ne]

/-! Which entries are refused (R325, R327). -/

/-- The register fields that decide on a force store: the key and the output ranges of the tasks. -/
def forceReads : List Fld :=
  Reg.CYCL_STAT.KEY :: (List.range 4).flatMap fun n => [Reg.CYCL_TASK.TEN.ix n, Reg.CYCL_TOUT.START.ix n, Reg.CYCL_TOUT.LEN.ix n]

theorem forceCause_of_get (hp : t.prg = s.prg) (h : ∀ f ∈ forceReads, t.get f = s.get f) (i : Nat) (e : Bytes) :
    t.forceCause i e = s.forceCause i e := by
  have key : t.get Reg.CYCL_STAT.KEY = s.get Reg.CYCL_STAT.KEY := h _ List.mem_cons_self
  have ranges : ∀ n ∈ List.range 4, t.taskOn n = s.taskOn n ∧ t.taskOut n = s.taskOut n := fun n hn => by
    have of_task : ∀ f ∈ [Reg.CYCL_TASK.TEN.ix n, Reg.CYCL_TOUT.START.ix n, Reg.CYCL_TOUT.LEN.ix n], t.get f = s.get f := fun f hf =>
      h f (List.mem_cons_of_mem _ (List.mem_flatMap.mpr ⟨n, hn, hf⟩))
    simp only [List.mem_cons, List.not_mem_nil, or_false, forall_eq_or_imp, forall_eq] at of_task
    obtain ⟨ten, start, len⟩ := of_task
    simp only [taskOn, taskOut, toutLen, State.flag, ten, start, len, and_self]
  have inside : ∀ a n : Nat,
      ((List.range 4).any fun k => t.taskOn k && (t.taskOut k).1 ≤ a && a + n ≤ (t.taskOut k).1 + (t.taskOut k).2)
        = (List.range 4).any fun k => s.taskOn k && (s.taskOut k).1 ≤ a && a + n ≤ (s.taskOut k).1 + (s.taskOut k).2 := fun a n => by
    rw [Bool.eq_iff_iff, List.any_eq_true, List.any_eq_true]
    refine exists_congr fun k => and_congr_right fun hk => ?_
    obtain ⟨on, out⟩ := ranges k hk
    rw [on, out]
  simp only [forceCause, key, hp, inside]

theorem forcePicked_forceCause (s : State) (v i : Nat) (e : Bytes) : (s.forcePicked v).forceCause i e = s.forceCause i e :=
  forceCause_of_get (s := s) (t := s.forcePicked v) rfl
    (fun f hf => s.forcePicked_regsBut (List.Subset.refl _) v f ((by decide : ∀ f ∈ forceReads, f.key ∉ _) f hf)) i e

/-- A cause fits FRC_STAT.FRES (Table 11.15). -/
theorem forceCause_lt (s : State) (i : Nat) (e : Bytes) : s.forceCause i e < 2 ^ Reg.FRC_STAT.FRES.width := by
  unfold forceCause
  dsimp only
  split_ifs <;> decide

theorem forceCause_of_disabled (h : fcEn e = false) (s : State) (i : Nat) : s.forceCause i e = 0 := by
  rw [forceCause, h]
  rfl

/-! Stores (R325). -/

/-- The force table with `e` as its entry `i`, or without that entry where `e` is all zeros. -/
def forcesWith (s : State) (i : Nat) (e : Bytes) : List (Nat × Bytes) :=
  s.prg.force.filter (·.1 ≠ i) ++ if e.all (· = 0) then [] else [(i, e)]

/-- The force table is `l`: FRES 0, and NACT counts its enabled entries. -/
def forceTable (s : State) (l : List (Nat × Bytes)) : State := ({ s.put Reg.FRC_STAT.FRES 0 with prg.force := l } : State).refreshNact

@[simp] theorem forceTable_img (s : State) (l : List (Nat × Bytes)) : (s.forceTable l).img = s.img := rfl
@[simp] theorem forceTable_prg (s : State) (l : List (Nat × Bytes)) : (s.forceTable l).prg = { s.prg with force := l } := rfl
@[simp] theorem forceTable_recd (s : State) (l : List (Nat × Bytes)) : (s.forceTable l).recd = s.recd := rfl
@[simp] theorem forceTable_rest (s : State) (l : List (Nat × Bytes)) : (s.forceTable l).rest = s.rest := rfl
@[simp] theorem forceTable_hkp (s : State) (l : List (Nat × Bytes)) : (s.forceTable l).hkp = s.hkp := rfl

theorem forceTable_get (s : State) (l : List (Nat × Bytes)) :
    (s.forceTable l).get Reg.FRC_STAT.FRES = 0
      ∧ (s.forceTable l).get Reg.FRC_STAT.NACT = (l.filter fun x => fcEn x.2).length % 2 ^ Reg.FRC_STAT.NACT.width :=
  ⟨(get_put_ne _ Reg.FRC_STAT.NACT _ _ (by decide)).trans (get_put_self s Reg.FRC_STAT.FRES 0), get_put_self _ _ _⟩

theorem forceTable_regsBut {fs : List Fld} {u : State} (hs : [Reg.FRC_STAT.FRES, Reg.FRC_STAT.NACT] ⊆ fs) (h : regsBut s u fs)
    (l : List (Nat × Bytes)) : regsBut s (u.forceTable l) fs :=
  regsBut_put (f := Reg.FRC_STAT.NACT) (regsBut_of_regs (regsBut_put (f := Reg.FRC_STAT.FRES) h (hs (by simp)) 0) rfl) (hs (by simp)) _

theorem storeForce_of_accepted (h : s.forceCause i e = 0) :
    ∃ p, s.storeForce i e = (s.forceTable (s.forcesWith i e)).record (if fcEn e then 0x0917 else 0x0918) p := by
  have table : (if e.all (· = 0) then s.prg.force.filter (·.1 ≠ i) else s.prg.force.filter (·.1 ≠ i) ++ [(i, e)]) = s.forcesWith i e := by
    unfold forcesWith
    split <;> simp
  unfold storeForce
  simp only [h, ne_eq, not_true_eq_false, if_false, put_prg] at table ⊢
  rw [table]
  cases fcEn e <;> exact ⟨_, rfl⟩

theorem storeForce_of_refused (h : s.forceCause i e ≠ 0) :
    s.storeForce i e
      = ((s.put Reg.FRC_STAT.FRES (s.forceCause i e)).raise Reg.PRG_IRQ.FREF).record 0x091A (natBe 1 (s.forceCause i e)) := by
  unfold storeForce
  exact if_pos h

/-! The force table cleared (R330). -/

@[simp] theorem clearForces_img (s : State) : s.clearForces.img = s.img := rfl
@[simp] theorem clearForces_prg (s : State) : s.clearForces.prg = { s.prg with force := [] } := rfl
@[simp] theorem clearForces_recd (s : State) : s.clearForces.recd = s.recd := rfl
@[simp] theorem clearForces_rest (s : State) : s.clearForces.rest = s.rest := rfl
@[simp] theorem clearForces_hkp (s : State) : s.clearForces.hkp = s.hkp := rfl

theorem newest_clearForces (s : State) : newest s.clearForces = some 0x0919 := by simp [newest, clearForces, refreshNact, record]

theorem clearForces_get (s : State) :
    s.clearForces.get Reg.FRC_STAT.FRES = s.get Reg.FRC_STAT.FRES ∧ s.clearForces.get Reg.FRC_STAT.NACT = 0
      ∧ s.clearForces.get Reg.FRC_STAT.VALID = 0 := by
  simp (disch := decide) only [clearForces, refreshNact, get_put_ne, get_put_self, record_get]
  exact ⟨rfl, rfl, rfl⟩

/-! A write of FRC_SEL (R330, Table 11.14). -/

/-- The entry that a load of `i` shows: zeros where the table has none. -/
def forceEntry (s : State) (i : Nat) : Bytes := ((s.prg.force.find? (·.1 = i)).map (·.2)).getD (List.replicate 16 0)

/-- The mailbox shows the four words of an entry. -/
def putFrc (s : State) (b : Bytes) : State :=
  ((((s.put Reg.FRC_D0.DATA (fieldAt b 0 4)).put Reg.FRC_D1.DATA (fieldAt b 4 4)).put Reg.FRC_D2.DATA (fieldAt b 8 4)).put Reg.FRC_D3.DATA
    (fieldAt b 12 4)).put Reg.FRC_STAT.VALID 1

@[simp] theorem putFrc_events (s : State) (b : Bytes) : (s.putFrc b).events = s.events := rfl
@[simp] theorem putFrc_img (s : State) (b : Bytes) : (s.putFrc b).img = s.img := rfl
@[simp] theorem putFrc_prg (s : State) (b : Bytes) : (s.putFrc b).prg = s.prg := rfl
@[simp] theorem putFrc_recd (s : State) (b : Bytes) : (s.putFrc b).recd = s.recd := rfl
@[simp] theorem putFrc_rest (s : State) (b : Bytes) : (s.putFrc b).rest = s.rest := rfl
@[simp] theorem putFrc_hkp (s : State) (b : Bytes) : (s.putFrc b).hkp = s.hkp := rfl

theorem putFrc_get (s : State) (b : Bytes) :
    (s.putFrc b).get Reg.FRC_STAT.VALID = 1 ∧ (s.putFrc b).get Reg.FRC_D0.DATA = fieldAt b 0 4 % 2 ^ 32
      ∧ (s.putFrc b).get Reg.FRC_D1.DATA = fieldAt b 4 4 % 2 ^ 32 ∧ (s.putFrc b).get Reg.FRC_D2.DATA = fieldAt b 8 4 % 2 ^ 32
      ∧ (s.putFrc b).get Reg.FRC_D3.DATA = fieldAt b 12 4 % 2 ^ 32 := by
  simp (disch := decide) only [putFrc, get_put_ne, get_put_self, and_self, and_true]
  rfl

theorem putFrc_regsBut {fs : List Fld} {u : State}
    (hs : [Reg.FRC_STAT.VALID, Reg.FRC_D0.DATA, Reg.FRC_D1.DATA, Reg.FRC_D2.DATA, Reg.FRC_D3.DATA] ⊆ fs) (h : regsBut s u fs) (b : Bytes) :
    regsBut s (u.putFrc b) fs :=
  regsBut_put (regsBut_put (regsBut_put (regsBut_put (regsBut_put h (hs (by simp)) _) (hs (by simp)) _) (hs (by simp)) _) (hs (by simp)) _)
    (hs (by simp)) _

/-- What a write of FRC_SEL does, by its CLRALL and WR. -/
theorem frcSel_eq (s : State) (v : Nat) :
    s.frcSel v =
      if (s.forcePicked v).flag Reg.FRC_SEL.CLRALL then ((s.forcePicked v).put Reg.FRC_STAT.FRES 0).clearForces
      else if (s.forcePicked v).flag Reg.FRC_SEL.WR then
        ((s.forcePicked v).storeForce ((s.forcePicked v).get Reg.FRC_SEL.INDEX) (s.forcePicked v).frcBytes).put Reg.FRC_STAT.VALID 0
      else (s.forcePicked v).putFrc ((s.forcePicked v).forceEntry ((s.forcePicked v).get Reg.FRC_SEL.INDEX)) := rfl

theorem frcSel_of_clearAll (hc : Reg.FRC_SEL.CLRALL.of v = 1) : s.frcSel v = ((s.forcePicked v).put Reg.FRC_STAT.FRES 0).clearForces := by
  obtain ⟨all, -, -⟩ := s.forcePicked_get v
  rw [frcSel_eq, flag_of_get (all.trans hc), if_pos rfl]

section
variable (hc : Reg.FRC_SEL.CLRALL.of v = 0)
include hc

theorem frcSel_of_store (hw : Reg.FRC_SEL.WR.of v = 1) :
    s.frcSel v = ((s.forcePicked v).storeForce (Reg.FRC_SEL.INDEX.of v) s.frcBytes).put Reg.FRC_STAT.VALID 0 := by
  obtain ⟨all, wr, index⟩ := s.forcePicked_get v
  rw [frcSel_eq, State.flag, all, hc, flag_of_get (wr.trans hw), index, forcePicked_frcBytes]
  rfl

theorem frcSel_of_load (hw : Reg.FRC_SEL.WR.of v = 0) :
    s.frcSel v = (s.forcePicked v).putFrc (s.forceEntry (Reg.FRC_SEL.INDEX.of v)) := by
  obtain ⟨all, wr, index⟩ := s.forcePicked_get v
  rw [frcSel_eq, State.flag, State.flag, all, hc, wr, hw, index]
  rfl

/-- What a store that no rule refuses leaves. -/
theorem frcSel_accepted_shows (hw : Reg.FRC_SEL.WR.of v = 1) (hi : i = Reg.FRC_SEL.INDEX.of v) (h : s.forceCause i s.frcBytes = 0) :
    let t := (s.frcSel v).settle
    t.prg = { s.prg with force := s.forcesWith i s.frcBytes } ∧ t.get Reg.FRC_STAT.FRES = 0 ∧ t.get Reg.FRC_STAT.VALID = 0
      ∧ t.get Reg.FRC_STAT.NACT = ((s.forcesWith i s.frcBytes).filter fun x => fcEn x.2).length % 2 ^ Reg.FRC_STAT.NACT.width
      ∧ newest t = some (if fcEn s.frcBytes then 0x0917 else 0x0918)
      ∧ regsBut s t [Reg.FRC_SEL.CLRALL, Reg.FRC_SEL.WR, Reg.FRC_SEL.INDEX, Reg.FRC_STAT.FRES, Reg.FRC_STAT.NACT, Reg.FRC_STAT.VALID]
      ∧ t.img = s.img ∧ t.recd = s.recd ∧ t.rest = s.rest ∧ t.hkp = s.hkp := by
  obtain ⟨p, stored⟩ := storeForce_of_accepted ((s.forcePicked_forceCause v _ _).trans h)
  have same : (s.forcePicked v).forcesWith i s.frcBytes = s.forcesWith i s.frcBytes := by rw [forcesWith, forcePicked_prg, forcesWith]
  obtain ⟨fres, nact⟩ := (s.forcePicked v).forceTable_get (s.forcesWith i s.frcBytes)
  dsimp only
  rw [frcSel_of_store hc hw, ← hi, stored, same]
  refine ⟨by simp, ?_, ?_, ?_, by simp [newest, record], regsBut_settle (regsBut_put (regsBut_of_regs ?_ (record_regs _ _ _)) (by simp) 0), by simp⟩
  · simp (disch := decide) only [settle_get_ne, get_put_ne, record_get, fres]
  · simp (disch := decide) only [settle_get_ne, get_put_self]
    rfl
  · simp (disch := decide) only [settle_get_ne, get_put_ne, record_get, nact]
  · exact forceTable_regsBut (by simp) (forcePicked_regsBut (by simp) s v) _

/-- What a refused store leaves. -/
theorem frcSel_refused_shows (hw : Reg.FRC_SEL.WR.of v = 1) (hi : i = Reg.FRC_SEL.INDEX.of v) (h : s.forceCause i s.frcBytes ≠ 0) :
    let t := (s.frcSel v).settle
    t.get Reg.FRC_STAT.FRES = s.forceCause i s.frcBytes ∧ t.get Reg.FRC_STAT.VALID = 0 ∧ t.flag Reg.PRG_IRQ.FREF = true ∧ newest t = some 0x091A
      ∧ regsBut s t [Reg.FRC_SEL.CLRALL, Reg.FRC_SEL.WR, Reg.FRC_SEL.INDEX, Reg.FRC_STAT.FRES, Reg.FRC_STAT.VALID, Reg.PRG_IRQ.FREF]
      ∧ memSame s t := by
  have cause := s.forcePicked_forceCause v i s.frcBytes
  have refused := storeForce_of_refused (cause.symm ▸ h)
  rw [cause] at refused
  dsimp only
  rw [frcSel_of_store hc hw, ← hi, refused]
  refine ⟨?_, ?_, flag_of_get ?_, by simp [newest, record], regsBut_settle (regsBut_put (regsBut_of_regs ?_ (record_regs _ _ _)) (by simp) 0),
    by simp [memSame]⟩
  · simp (disch := decide) only [settle_get_ne, get_put_ne, record_get, raise_get_ne, get_put_self]
    exact Nat.mod_eq_of_lt (s.forceCause_lt i _)
  · simp (disch := decide) only [settle_get_ne, get_put_self]
    rfl
  · simp (disch := decide) only [settle_get_ne, get_put_ne, record_get, get_raise_self]
    rfl
  · exact regsBut_raise (regsBut_put (forcePicked_regsBut (by simp) s v) (by simp) _) (by simp)

end

end State

/-- Settles O26, form by form from the rules above. -/
theorem forcing : Obligations.Forcing := by
  unfold Obligations.Forcing
  refine ⟨?_, ?_, ?_, ?_, ?_, ?_, ?_⟩
  · intro v i s hs idle hc hw hi en accepted nonzero
    refine ⟨_, exec_forceEntryStore_idle hs idle v, ?_⟩
    obtain ⟨prg, fres, valid, nact, event, frame⟩ := State.frcSel_accepted_shows hc hw hi accepted
    have table : s.forcesWith i s.frcBytes = s.prg.force.filter (·.1 ≠ i) ++ [(i, s.frcBytes)] := by
      rw [State.forcesWith, nonzero, if_neg Bool.false_ne_true]
    rw [table] at prg nact
    rw [en] at event
    exact ⟨prg, fres, valid, nact, event, frame⟩
  · intro v i c s hs idle hc hw hi cause refused
    subst cause
    exact ⟨_, exec_forceEntryStore_idle hs idle v, State.frcSel_refused_shows hc hw hi refused⟩
  · intro v s hs idle hc
    refine ⟨_, (exec_forceClearAll_eq v s).trans (exec_forceEntryStore_idle hs idle v), ?_⟩
    rw [State.frcSel_of_clearAll hc]
    obtain ⟨fres, nact, valid⟩ := ((s.forcePicked v.toNat).put Reg.FRC_STAT.FRES 0).clearForces_get
    simp (disch := decide) only [State.settle_get_ne, fres, nact, valid, State.get_put_self, true_and]
    refine ⟨by simp, rfl, ?_, by simp, by simp, by simp, by simp⟩
    rw [newest, State.settle_events]
    exact State.newest_clearForces _
  · intro v b s hs idle hc hw hb
    subst hb
    refine ⟨_, (exec_forceEntryLoad_eq v s).trans (exec_forceEntryStore_idle hs idle v), ?_⟩
    rw [State.frcSel_of_load hc hw]
    obtain ⟨valid, d0, d1, d2, d3⟩ := (s.forcePicked v.toNat).putFrc_get (s.forceEntry (Reg.FRC_SEL.INDEX.of v.toNat))
    simp (disch := decide) only [State.settle_get_ne, valid, d0, d1, d2, d3, true_and]
    have regs := State.forcePicked_regsBut (fs := [Reg.FRC_SEL.CLRALL, Reg.FRC_SEL.WR, Reg.FRC_SEL.INDEX, Reg.FRC_STAT.VALID, Reg.FRC_D0.DATA,
      Reg.FRC_D1.DATA, Reg.FRC_D2.DATA, Reg.FRC_D3.DATA]) (by simp) s v.toNat
    exact ⟨rfl, rfl, rfl, rfl, by simp, regsBut_settle (State.putFrc_regsBut (by simp) regs _), by simp [memSame]⟩
  · intro v s hs idle
    have acts := exec_forceEntryStore_idle hs idle v
    exact ⟨acts, acts, acts⟩
  · intro v s hs busy
    have ignored := exec_forceEntryStore_busy hs busy v
    exact ⟨ignored, ignored, ignored⟩
  · intro v i s hs idle hc hw hi off
    refine ⟨_, exec_forceEntryStore_idle hs idle v, ?_⟩
    obtain ⟨prg, fres, -, -, event, frame⟩ := State.frcSel_accepted_shows hc hw hi (State.forceCause_of_disabled off s i)
    rw [off] at event
    exact ⟨prg, fres, event, frame⟩

end Sys2Proof.Machine
end

section
/-! SUPPORT. A frame that waits for the twin link while the consist heartbeat of a cycle is sent (R334, R336, log entry 43). -/

namespace Sys2Proof.Machine

theorem exec_consistHbSend_active {s : State} (h : s.active = true) : exec .consistHbSend s = .next s.hbConsist.settle := by
  rw [exec_consistHbSend, execConsistHbSend, liveActive_active h, done_eq]

/-- A twin half whose partner is known, in a cycle; an HB frame waits for the twin link, whose transmitter has become free. -/
def State.twinFrameWaits : State :=
  { (State.reset.put Reg.TWIN_STAT.TWON 1).put Reg.TWIN_PUIDLO.UID 9 with cycRun := true, twin.txq := [(1, List.replicate 32 0)] }

/-- The waiting frame leaves as the transmitter comes up to the instant of the consist heartbeat. -/
theorem State.hbConsist_twinFrameWaits_txq : State.twinFrameWaits.hbConsist.twin.txq = [] := by
  decide +kernel

/-- Refutes O27: at the instant of the consist heartbeat a frame that has waited for the twin link leaves too, and does not go on waiting. -/
theorem not_twinPaths : ¬ Obligations.TwinPaths := by
  unfold Obligations.TwinPaths
  rintro ⟨-, consist, -⟩
  have next := consist _ _ State.twinFrameWaits (by decide +kernel) (by decide +kernel) (by decide +kernel) rfl rfl (by decide) rfl
  rw [exec_consistHbSend_active (by decide +kernel)] at next
  injection next with settled
  have waiting := congrArg (·.twin.txq) settled
  simp only [State.settle_twin, State.hbConsist_twinFrameWaits_txq] at waiting
  exact absurd waiting (by decide +kernel)

end Sys2Proof.Machine
end

section
/-! SUPPORT. Twin X's item reaches a twin Y that waits for it with a wave in which one UID stands twice (R84, R86, R87, R333). -/

namespace Sys2Proof.Machine

theorem exec_twinEntryReceived_active {s : State} (h : s.active = true) (f : Bytes) :
    exec (.twinEntryReceived f) s = .next (s.twinRx 2 f State.takeEntry).settle := by
  rw [exec_twinEntryReceived, execTwinEntryReceived, liveActive_active h, done_eq]

/-- What twin X, whose UID is 3, sends for the round held: its UID, the number of the round, an item of zeros (Table 12.2). -/
def entryPayload : Bytes := natBe 8 3 ++ natBe 2 heldRound.rnd ++ natBe 6 0 ++ List.replicate 16 0

/-- Its ENTRY frame (Table 12.1). -/
def entryFrame : Bytes :=
  let b := natBe 1 2 ++ [0] ++ natBe 2 32 ++ natBe 2 0 ++ natBe 2 0 ++ entryPayload
  b ++ fcsBytes b

/-- The whole wave that has come in at end 0, from two nodes that both have the UID 7. -/
def doubledWave : Seg :=
  { origin := 7, oend := 1, seg := 0, last := true, ovf := false, loop := false,
    items := [.ident .null, .entry ⟨7, 0, 0, 0, 0⟩, .entry ⟨7, 0, 0, 0, 0⟩], entries := 2, arrived := 0 }

/-- Twin Y at the end of a train; the twin link works, the wave is held, and twin X's item has not come. -/
def State.twinEndWaits : State :=
  let half := ((State.reset.put Reg.TWIN_STAT.TWON 1).put Reg.TWIN_STAT.HALF 1).put Reg.TWIN_STAT.TLOK 1
  let joint := half.onEnd 0 fun v => { v with working := true }
  { joint with inau := { joint.inau with round := some { heldRound with segs := [doubledWave] }, pair := some (3, 0), waveAt := some 1 } }

/-- With the item the chain is held; it is that of no train, so the round is abandoned and counted. -/
theorem State.takeEntry_twinEndWaits_waveto : (State.twinEndWaits.twinRx 2 entryFrame State.takeEntry).get Reg.INAU_WAVETO.COUNT = 1 := by
  decide +kernel

/-- Refutes O28: an ENTRY frame with an item that differs from the own does not leave every register as it was where the held round waits for
the item; here it ends that round. -/
theorem not_twinExchange : ¬ Obligations.TwinExchange := by
  unfold Obligations.TwinExchange
  rintro ⟨-, -, differs, -⟩
  obtain ⟨t, next, -, -, regs, -⟩ := differs entryFrame entryPayload _ _ State.twinEndWaits (by decide +kernel) (by decide +kernel)
    (by decide +kernel) (by decide +kernel) rfl rfl (by decide +kernel) (by decide +kernel)
  rw [exec_twinEntryReceived_active (by decide +kernel)] at next
  injection next with settled
  have stands := regs Reg.INAU_WAVETO.COUNT (by decide)
  rw [← settled, State.settle_get_ne _ _ (by decide) (by decide), State.takeEntry_twinEndWaits_waveto] at stands
  exact absurd stands (by decide +kernel)

end Sys2Proof.Machine
end

section
/-! SUPPORT. What follows at the end of every command: after `settle` the pins and INTA stand as the registers say, and no moderated completion
is overdue (R374, R409, R455, R456, R496, log entry 8). -/

namespace Sys2Proof.Machine

set_option Elab.async false

theorem any_congr_of_mem {α : Type} {l : List α} {p q : α → Bool} (h : ∀ x ∈ l, p x = q x) : l.any p = l.any q := by
  induction l with
  | nil => rfl
  | cons x l ih => rw [List.any_cons, List.any_cons, h x (by simp), ih fun y hy => h y (List.mem_cons_of_mem x hy)]

/-- No source of a vector lies below GLB_IRQ (Table 16.10). -/
theorem vecSrc_addr_ge {v : Nat} (hv : v < 64) : ∀ x ∈ vecSrc v, 0x20 ≤ x.1 := by
  have all : ∀ v < 64, (vecSrc v).all (0x20 ≤ ·.1) = true := by decide
  simpa only [List.all_eq_true, decide_eq_true_eq] using all v hv

namespace State

variable (s : State)

/-- A raw bit at another key stands while a field is put. -/
theorem rawBit_put_ne {f : Fld} {k : Nat} (h : k ≠ f.key) (v : Nat) : (s.put f v).rawBit k = s.rawBit k := by
  unfold rawBit put
  dsimp only
  split
  · rw [lookupKey_eraseKey, if_neg h]
  · rw [lookupKey_insertKey _ _ _ _ (by simp [lookupKey_eraseKey]), if_neg h, lookupKey_eraseKey, if_neg h]

/-- GLB_STAT.NFAULT is no source of a vector. -/
theorem vecPending_putB_nfault {v : Nat} (hv : v < 64) (b : Bool) : (s.putB Reg.GLB_STAT.NFAULT b).vecPending v = s.vecPending v := by
  have key : Reg.GLB_STAT.NFAULT.key = 384 := by decide
  have src : ∀ x ∈ vecSrc v, ((List.range (x.2.2 + 1 - x.2.1)).any fun i =>
        (s.putB Reg.GLB_STAT.NFAULT b).rawBit (x.1 * 32 + x.2.1 + i) && (s.putB Reg.GLB_STAT.NFAULT b).rawBit ((x.1 + 4) * 32 + x.2.1 + i))
      = (List.range (x.2.2 + 1 - x.2.1)).any fun i => s.rawBit (x.1 * 32 + x.2.1 + i) && s.rawBit ((x.1 + 4) * 32 + x.2.1 + i) := by
    intro x hx
    have ge : 0x20 ≤ x.1 := vecSrc_addr_ge hv x hx
    refine any_congr_of_mem fun i _ => ?_
    rw [putB, rawBit_put_ne s (by rw [key]; omega), rawBit_put_ne s (by rw [key]; omega)]
  exact congrArg (· || (56 ≤ v && v ≤ 58 && s.msix.members.contains (v - 55))) (any_congr_of_mem src)

/-- A vector's state follows the register table and the flags of the stack members. -/
theorem vecPending_congr {s t : State} (hr : t.regs = s.regs) (hm : t.msix.members = s.msix.members) : t.vecPending = s.vecPending := by
  funext v
  simp only [vecPending, rawBit, hr, hm]

/-- INTA as the registers have it: asserted while requests may leave, MSI-X is disabled and a vector is pending (R374, R409, R456). -/
def intaDue : Bool := s.hostOpen && !s.msix.enable && (List.range 64).any s.vecPending

theorem intaDue_congr {s t : State} (hr : t.regs = s.regs) (hp : t.power = s.power) (he : t.msix.enable = s.msix.enable)
    (hm : t.msix.members = s.msix.members) : t.intaDue = s.intaDue := by
  have hs : t.stackId = s.stackId := get_of_regs hr _
  have hd : t.inD3 = s.inD3 := by rw [inD3, inD3, get_of_regs hr]
  simp only [intaDue, hostOpen, hs, hd, hp, he, vecPending_congr hr hm]

theorem irqAny_congr {s t : State} (hr : t.regs = s.regs) (hm : t.msix.members = s.msix.members) : t.irqAny = s.irqAny := by
  simp only [irqAny, vecPending_congr hr hm]

theorem roleHigh_congr {s t : State} (hr : t.regs = s.regs) (hf : t.inau = s.inau) : t.roleHigh = s.roleHigh := by
  simp only [roleHigh, get_of_regs hr, hf]

/-! What each part of `settle` brings up to date. -/

theorem refreshInta_inta : s.refreshInta.msix.inta = s.intaDue := by
  unfold refreshInta
  dsimp only
  split
  next h => exact h.symm
  next => split <;> rfl

theorem refreshIntn_intn : s.refreshIntn.pwr.intn = s.irqAny := by
  unfold refreshIntn
  dsimp only
  split
  next h => exact h.symm
  next => rw [apply_ite (fun t : State => t.pwr), stackMsg, stackSend_pwr, ite_self]; rfl

theorem refreshRolePin_role : s.refreshRolePin.pwr.role = s.roleHigh := by
  unfold refreshRolePin
  dsimp only
  split
  next h => exact h.symm
  next => rfl

theorem refreshRolePin_intn : s.refreshRolePin.pwr.intn = s.pwr.intn := by
  unfold refreshRolePin
  dsimp only
  split <;> rfl

theorem refreshFault_nfault : s.refreshFault.flag Reg.GLB_STAT.NFAULT
    = (s.flag Reg.GLB_FAULT.RWV || s.flag Reg.GLB_FAULT.RECFAIL || s.flag Reg.GLB_FAULT.SUMERR) := by
  unfold refreshFault
  dsimp only
  split
  next h => exact h.symm
  next =>
    generalize (s.flag Reg.GLB_FAULT.RWV || s.flag Reg.GLB_FAULT.RECFAIL || s.flag Reg.GLB_FAULT.SUMERR) = low
    rw [flag, emit_get', putB, get_put_self]
    cases low <;> rfl

/-- A moderated completion whose time has come is signalled (CMD_IMOD). -/
theorem refreshCpl_signalled : cplSignalled s.refreshCpl = true := by
  unfold refreshCpl
  split
  next => simp [cplSignalled]
  next h =>
    rw [cplSignalled]
    cases hm : s.cmd.mods.2 with
    | none => rfl
    | some d => simpa [hm] using h

/-- nFAULT moves no vector, and no level but its own. -/
theorem refreshFault_vecPending {v : Nat} (hv : v < 64) : s.refreshFault.vecPending v = s.vecPending v := by
  unfold refreshFault
  dsimp only
  split
  next => rfl
  next => exact vecPending_putB_nfault s hv _

theorem refreshFault_intaDue : s.refreshFault.intaDue = s.intaDue := by
  have any : (List.range 64).any s.refreshFault.vecPending = (List.range 64).any s.vecPending :=
    any_congr_of_mem fun v hv => s.refreshFault_vecPending (List.mem_range.mp hv)
  have hs : s.refreshFault.stackId = s.stackId := refreshFault_get_ne s _ (by decide)
  have hd : s.refreshFault.inD3 = s.inD3 := by rw [inD3, inD3, refreshFault_get_ne s _ (by decide)]
  simp only [intaDue, hostOpen, hs, hd, any, refreshFault_power, refreshFault_msix]

theorem refreshFault_irqAny : s.refreshFault.irqAny = s.irqAny :=
  any_congr_of_mem fun v hv => s.refreshFault_vecPending ((List.mem_range.mp hv).trans (by decide))

theorem refreshFault_roleHigh : s.refreshFault.roleHigh = s.roleHigh := by
  simp only [roleHigh, refreshFault_inau]
  rw [refreshFault_get_ne s _ (by decide), refreshFault_get_ne s _ (by decide)]

end State
open State

/-- What follows at the end of a command leaves a sound state. -/
theorem settle_sound (s : State) : sound s.settle = true := by
  have inta : s.settle.msix.inta = s.settle.intaDue := by
    rw [settle, refreshFault_intaDue, intaDue_congr (s := s.refreshCpl.refreshInta) (by simp) (by simp) (by simp) (by simp),
      intaDue_congr (s := s.refreshCpl) (by simp) (by simp) (by simp) (by simp), ← refreshInta_inta]
    simp
  have intn : s.settle.pwr.intn = s.settle.irqAny := by
    rw [settle, refreshFault_irqAny, irqAny_congr (s := s.refreshCpl.refreshInta) (by simp) (by simp), ← refreshIntn_intn]
    rw [refreshFault_pwr, refreshRolePin_intn]
  have role : s.settle.pwr.role = s.settle.roleHigh := by
    rw [settle, refreshFault_roleHigh, roleHigh_congr (s := s.refreshCpl.refreshInta.refreshIntn) (by simp) (by simp), ← refreshRolePin_role,
      refreshFault_pwr]
  have nfault : s.settle.flag Reg.GLB_STAT.NFAULT
      = (s.settle.flag Reg.GLB_FAULT.RWV || s.settle.flag Reg.GLB_FAULT.RECFAIL || s.settle.flag Reg.GLB_FAULT.SUMERR) := by
    rw [settle, refreshFault_nfault]
    simp only [flag, refreshFault_get_ne _ Reg.GLB_FAULT.RWV (by decide), refreshFault_get_ne _ Reg.GLB_FAULT.RECFAIL (by decide),
      refreshFault_get_ne _ Reg.GLB_FAULT.SUMERR (by decide)]
  have cpl : cplSignalled s.settle = true := by
    have same : cplSignalled s.settle = cplSignalled s.refreshCpl := by simp [cplSignalled, settle]
    rw [same, refreshCpl_signalled]
  simp only [sound, pinsFollow, inta, intn, role, nfault, cpl, intaDue, beq_self_eq_true, Bool.and_self]

/-- Whatever waits, a step ends in what follows. -/
theorem step_settles (s : State) : ∃ t : State, step s = .next t.settle := by
  obtain ⟨t, ht, -⟩ := step_completes s
  exact ⟨t, ht⟩

/-- Settles O49: every meaning and the tick end in `settle`. -/
theorem stepSound : Obligations.StepSound := by
  unfold Obligations.StepSound
  intro s
  obtain ⟨t, ht⟩ := step_settles s
  exact ⟨t.settle, ht, settle_sound t⟩

/-- Settles O48: after reset no register stands off its default, no memory holds a byte, nothing waits and nothing has left the chip. -/
theorem resetSound : Obligations.ResetSound := by
  unfold Obligations.ResetSound
  refine ⟨by decide +kernel, rfl, rfl, rfl, rfl, rfl, rfl, rfl⟩

/-- Settles O45: `step` takes the front of the queue. -/
theorem queueStep : Obligations.QueueStep := by
  unfold Obligations.QueueStep
  intro c l s
  rfl

end Sys2Proof.Machine
end

section
/-! SUPPORT. The master of a stack while a posted write of its host waits for room on the stack link (R417, R418). -/

namespace Sys2Proof.Machine

set_option Elab.async false

/-- The master of a stack: member 1 is present below and the down port is ACTIVE. -/
def State.stackMaster : State :=
  ((State.reset.put Reg.BRDG_CTRL.EN 1).put Reg.BRDG_STACK.PRESENT 1).put Reg.BRDG_SPDN.STATE 6

/-- The master of a stack with one posted write to member 1 that has not been sent yet. -/
def State.writeUnsent : State :=
  { State.stackMaster with
    brdg.writes := [{ id := 4, tag := 3, src := 0, member := 1, addr := 0xA00000, len := 4, arrival := 0, until_ := 900, win := 2, sent := false }] }

/-- The packets that have left this chip since reset, of the outcome of a command. -/
def outsAfter : Host.Outcome State Fault Refusal → List Out
  | .next t => t.outs
  | _ => []

/-- The fences that stand open after a command. -/
def fencesAfter : Host.Outcome State Fault Refusal → List (Nat × Nat × List Nat)
  | .next t => t.brdg.fences
  | _ => []

/-- A stack reset written while a posted write waits does not leave: it goes behind that write. -/
theorem outs_stackReset_writeUnsent : outsAfter (exec (.stackResetWrite 0x200) State.writeUnsent) = [] := by
  decide +kernel

/-- Member 1 reads BRDG_FSEQ of the master. -/
def fenceRead : Bytes := rdPacket 0 1 5 0xC0028 0xF 4

/-- A read of BRDG_FSEQ from below opens a fence behind the posted write that waits. -/
theorem fences_fenceRead_writeUnsent :
    fencesAfter (exec (.stackReadReceived 1 fenceRead false) State.writeUnsent) = [(1, 5, [4])] := by
  decide +kernel


/-- No packet of the stack link can have left where nothing left. -/
theorem not_sent_stack_of_outs_nil {s t : State} {p : Nat} {b : Bytes} (hs : s.mutes (.stack p b) = false) (ht : t.outs = []) :
    ¬ sent s t [.stack p b] := by
  rintro ⟨o, split, left⟩
  rw [ht] at split
  have nothing : o = [] := (List.append_eq_nil_iff.1 split.symm).2
  simp [nothing, hs] at left

/-- Refutes O39: the stack reset of a master with a posted write that waits for the stack link goes behind that write (R418), and does not
leave when it is written. -/
theorem not_stackPorts : ¬ Obligations.StackPorts := by
  unfold Obligations.StackPorts
  rintro ⟨-, -, -, reset, -⟩
  obtain ⟨t, ran, left, -⟩ :=
    reset 0x200 State.writeUnsent (by decide +kernel) (by decide +kernel) (by decide +kernel) (by decide) (by decide) (by decide)
  have outs := outs_stackReset_writeUnsent
  rw [ran] at outs
  exact not_sent_stack_of_outs_nil (by decide) outs left

/-- A FREE lock whose MEMBER reads above its two bits. -/
def State.lockNamed : State := { State.reset with regs := (Reg.BRDG_LOCK.MEMBER.key, 2 ^ 30) :: State.reset.regs }

/-- STATE of BRDG_LOCK after a command. -/
def lockAfter : Host.Outcome State Fault Refusal → Nat
  | .next t => t.get Reg.BRDG_LOCK.STATE
  | _ => 0

/-- The word that releases the lock of a MEMBER of 2^30 has bit 31 set: it asks for the lock. -/
theorem lock_release_lockNamed : lockAfter (exec .farLockRelease State.lockNamed) = 1 := by
  decide +kernel

/-- Refutes O37: a release writes 2^30 plus BRDG_LOCK.MEMBER; where MEMBER reads 2^30, a value no field rule of the state excludes, that
word is a request, and the FREE lock becomes PENDING. -/
theorem not_locksAndSemaphores : ¬ Obligations.LocksAndSemaphores := by
  unfold Obligations.LocksAndSemaphores
  rintro ⟨-, -, -, -, -, -, -, -, -, -, -, -, -, -, -, -, -, -, -, -, release, -⟩
  have ran := release State.lockNamed (by decide +kernel) rfl rfl rfl (by decide)
  have pending := lock_release_lockNamed
  have free : lockAfter (.next (State.settle { State.lockNamed with brdg.retryAt := none })) = 0 := by decide +kernel
  rw [ran, free] at pending
  exact absurd pending (by decide)

/-- Refutes O38: a read of BRDG_FSEQ from a member is no register read but opens a fence (R421), which stays open while a posted write
waits. -/
theorem not_stackPackets : ¬ Obligations.StackPackets := by
  unfold Obligations.StackPackets
  rintro ⟨-, -, read, -⟩
  have ran := read 1 fenceRead _ State.writeUnsent (by decide +kernel) (by decide +kernel) (by decide +kernel) (by decide +kernel)
    (by decide +kernel) (by decide +kernel) (by decide +kernel) rfl
  have fences := fences_fenceRead_writeUnsent
  have none_open : ((State.writeUnsent.localRead (spAddr fenceRead) 4 (requester (spSrc fenceRead))).2.stackSend 3 2 (spSrc fenceRead)
      (spTag fenceRead) 0 0 (State.writeUnsent.localRead (spAddr fenceRead) 4 (requester (spSrc fenceRead))).1).settle.brdg.fences = [] := by
    decide +kernel
  rw [ran] at fences
  exact absurd (fences.symm.trans none_open) (by decide)

end Sys2Proof.Machine
end

section
/-! SUPPORT. Reads of voted registers: what a read mends, counts, records and answers (R458, R495). -/

namespace Sys2Proof.Machine

set_option Elab.async false

namespace State

variable {s t : State} {a : Nat} {v : Voted}

theorem votedAt_isSome_iff : (s.votedAt a).isSome = true ↔ a = 0xD000C ∨ a = 0x100 ∨ a = 0x108 := by
  unfold votedAt
  by_cases auth : a = 0xD000C
  · simp [auth]
  by_cases pace : a = 0x100
  · simp [pace]
  by_cases emc : a = 0x108 <;> simp [auth, pace, emc]

/-- A voted register stands at one of three offsets. -/
theorem addr_of_votedAt (h : s.votedAt a = some v) : a = 0xD000C ∨ a = 0x100 ∨ a = 0x108 :=
  votedAt_isSome_iff.1 (Option.isSome_of_mem h)

theorem votedAt_of_glb (h : t.glb = s.glb) (a : Nat) : t.votedAt a = s.votedAt a := by
  unfold votedAt
  rw [h]

theorem setVoted_frame (s : State) (a : Nat) (v : Voted) : ∃ g, s.setVoted a v = { s with glb := g } := by
  unfold setVoted
  split_ifs <;> exact ⟨_, rfl⟩

theorem setVoted_votedAt (h : (s.votedAt a).isSome = true) (v : Voted) : (s.setVoted a v).votedAt a = some v := by
  obtain rfl | rfl | rfl := votedAt_isSome_iff.1 h <;> rfl

/-- What a word reads as depends on the copies of its register and its fields alone. -/
theorem wordAt_congr (hv : t.votedAt a = s.votedAt a) (hf : ∀ f ∈ fieldsAt a, t.get f = s.get f) : t.wordAt a = s.wordAt a := by
  unfold wordAt
  simp only [hv]
  congr 2
  refine List.map_congr_left fun f member => ?_
  rw [hf f member]

/-- The fields at the offsets of the voted registers are none that a vote puts. -/
theorem fieldsAt_voted (h : a = 0xD000C ∨ a = 0x100 ∨ a = 0x108) :
    ∀ f ∈ fieldsAt a, f.key ∉ (Reg.GLB_STAT.NFAULT :: Reg.CMD_IRQ.CPL :: [Reg.GLB_RWVCNT.COUNT, Reg.GLB_FAULT.RWV, Reg.GLB_IRQ.FAULT]).map Fld.key := by
  obtain rfl | rfl | rfl := h <;> decide +kernel

theorem readWord_voted (h : a = 0xD000C ∨ a = 0x100 ∨ a = 0x108) (s : State) : s.readWord a = s.wordAt a := by
  obtain rfl | rfl | rfl := h <;> rfl

/-- The copies of the register at `a` all hold `m`; `n` of them were rewritten, which counts and is recorded once a second. -/
def mended (s : State) (a m n : Nat) : State :=
  ((s.setVoted a (Voted.all m)).bumpBy Reg.GLB_RWVCNT.COUNT n).recordSec 0x0F03 a (natBe 4 a)

theorem readVoted_agree {m : Nat} (h : s.votedAt a = some ⟨m, m, m⟩) : s.readVoted a = s := by
  unfold readVoted
  simp [h, Voted.value, Voted.all]

/-- Two copies that agree outvote the third. -/
theorem value_of_two {m : Nat} (two : v = ⟨m, m, v.c2⟩ ∨ v = ⟨m, v.c1, m⟩ ∨ v = ⟨v.c0, m, m⟩) : v.value = m := by
  unfold Voted.value
  grind

/-- One copy differs from the two others. -/
theorem disagreeing_of_two {m : Nat} (two : v = ⟨m, m, v.c2⟩ ∨ v = ⟨m, v.c1, m⟩ ∨ v = ⟨v.c0, m, m⟩) (odd : v ≠ ⟨m, m, m⟩) :
    b2n (v.c0 ≠ m) + b2n (v.c1 ≠ m) + b2n (v.c2 ≠ m) = 1 ∧ ¬ (v.c0 ≠ v.c1 ∧ v.c0 ≠ v.c2 ∧ v.c1 ≠ v.c2) := by
  unfold b2n
  grind

theorem readVoted_odd {m : Nat} (h : s.votedAt a = some v) (two : v = ⟨m, m, v.c2⟩ ∨ v = ⟨m, v.c1, m⟩ ∨ v = ⟨v.c0, m, m⟩)
    (odd : v ≠ ⟨m, m, m⟩) : s.readVoted a = s.mended a m 1 := by
  obtain ⟨one, two_agree⟩ := disagreeing_of_two two odd
  unfold readVoted
  simp only [h, value_of_two two, Voted.all, if_neg odd, one, if_neg two_agree, mended]

/-- Where all three copies differ the first is kept, two are rewritten, and GLB_FAULT.RWV is set. -/
theorem readVoted_apart (h : s.votedAt a = some v) (h01 : v.c0 ≠ v.c1) (h12 : v.c1 ≠ v.c2) (h02 : v.c0 ≠ v.c2) :
    s.readVoted a = (s.mended a v.c0 2).fault Reg.GLB_FAULT.RWV := by
  have first : v.value = v.c0 := if_neg h12
  have odd : v ≠ Voted.all v.c0 := fun e => h01 (by rw [e]; rfl)
  have two : b2n (v.c0 ≠ v.c0) + b2n (v.c1 ≠ v.c0) + b2n (v.c2 ≠ v.c0) = 2 := by simp [b2n, h01.symm, h02.symm]
  unfold readVoted
  simp only [h, first, if_neg odd, two, if_pos (And.intro h01 (And.intro h02 h12)), mended]

/-! What the mended register shows. -/

theorem mended_frame (s : State) (a m n : Nat) :
    ∃ g e k, s.mended a m n = { (s.setVoted a (Voted.all m)).bumpBy Reg.GLB_RWVCNT.COUNT n with glb := g, events := e, onceSec := k } := by
  obtain ⟨e, k, h⟩ := recordSec_frame ((s.setVoted a (Voted.all m)).bumpBy Reg.GLB_RWVCNT.COUNT n) 0x0F03 a (natBe 4 a)
  exact ⟨_, e, k, h⟩

theorem mended_memSame (s : State) (a m n : Nat) : memSame s (s.mended a m n) := by
  obtain ⟨g, set⟩ := s.setVoted_frame a (Voted.all m)
  simp [mended, memSame, set]

theorem mended_votedAt (h : s.votedAt a = some v) (m n : Nat) : (s.mended a m n).votedAt a = some ⟨m, m, m⟩ :=
  (votedAt_of_glb (s := s.setVoted a (Voted.all m)) (by simp [mended]) a).trans (setVoted_votedAt (Option.isSome_of_mem h) _)

theorem setVoted_get (s : State) (a : Nat) (v : Voted) (f : Fld) : (s.setVoted a v).get f = s.get f := by
  obtain ⟨g, set⟩ := s.setVoted_frame a v
  rw [set]
  rfl

theorem mended_count (s : State) (a m n : Nat) :
    (s.mended a m n).get Reg.GLB_RWVCNT.COUNT = min (s.get Reg.GLB_RWVCNT.COUNT + n) 0xFFFFFFFF := by
  rw [mended, recordSec_get, bumpBy, get_put_self, setVoted_get]
  exact Nat.mod_eq_of_lt (by simp [Reg.GLB_RWVCNT.COUNT])

theorem mended_regsBut (s : State) (a m n : Nat) {fs : List Fld} (h : Reg.GLB_RWVCNT.COUNT ∈ fs) : regsBut s (s.mended a m n) fs := by
  refine regsBut_trans (t := (s.setVoted a (Voted.all m)).bumpBy Reg.GLB_RWVCNT.COUNT n) (regsBut_put ?_ h _) ?_
  · exact regsBut_of_get fun f => setVoted_get s a _ f
  · exact regsBut_of_get fun f => recordSec_get _ _ _ _ f

theorem mended_outs (s : State) (a m n : Nat) : (s.mended a m n).outs = s.outs := by
  obtain ⟨g, e, k, h⟩ := s.mended_frame a m n
  obtain ⟨g, set⟩ := s.setVoted_frame a (Voted.all m)
  simp [h, set]

theorem mended_pwr (s : State) (a m n : Nat) : (s.mended a m n).pwr = s.pwr := by
  obtain ⟨g, set⟩ := s.setVoted_frame a (Voted.all m)
  simp [mended, set]

/-- The mending of a register is recorded once a second (R458). -/
theorem mended_records (h : s.onceSec.contains (0x0F03, a, s.opSec) = false) (m n : Nat) :
    newest (s.mended a m n) = some 0x0F03 ∧ (s.mended a m n).events.getLast?.map (·.params) = some (natBe 4 a)
      ∧ (s.mended a m n).events.dropLast = s.events ∧ (s.mended a m n).onceSec.contains (0x0F03, a, s.opSec) = true := by
  obtain ⟨g, set⟩ := s.setVoted_frame a (Voted.all m)
  have second : ((s.setVoted a (Voted.all m)).bumpBy Reg.GLB_RWVCNT.COUNT n).opSec = s.opSec := by rw [set]; rfl
  have before : ((s.setVoted a (Voted.all m)).bumpBy Reg.GLB_RWVCNT.COUNT n).onceSec = s.onceSec := by simp [set]
  unfold mended recordSec
  rw [second, before, h]
  simp [newest, record, set]

/-- What the same second has recorded is not recorded again. -/
theorem mended_recorded (h : s.onceSec.contains (0x0F03, a, s.opSec) = true) (m n : Nat) : (s.mended a m n).events = s.events := by
  obtain ⟨g, set⟩ := s.setVoted_frame a (Voted.all m)
  have second : ((s.setVoted a (Voted.all m)).bumpBy Reg.GLB_RWVCNT.COUNT n).opSec = s.opSec := by rw [set]; rfl
  have before : ((s.setVoted a (Voted.all m)).bumpBy Reg.GLB_RWVCNT.COUNT n).onceSec = s.onceSec := by simp [set]
  unfold mended recordSec
  rw [second, before, if_pos h]
  simp [set]

/-- A read leaves the copies equal: two were rewritten and the fault raised, or one, or none. -/
theorem readVoted_cases (h : s.votedAt a = some v) :
    (∃ m, v = ⟨m, m, m⟩ ∧ s.readVoted a = s) ∨ (v ≠ ⟨v.c0, v.c0, v.c0⟩ ∧ ∃ m, s.readVoted a = s.mended a m 1)
      ∨ (v ≠ ⟨v.c0, v.c0, v.c0⟩ ∧ s.readVoted a = (s.mended a v.c0 2).fault Reg.GLB_FAULT.RWV) := by
  by_cases same : v = ⟨v.c0, v.c0, v.c0⟩
  · exact .inl ⟨v.c0, same, readVoted_agree (same ▸ h)⟩
  by_cases two : ∃ m, v = ⟨m, m, v.c2⟩ ∨ v = ⟨m, v.c1, m⟩ ∨ v = ⟨v.c0, m, m⟩
  · obtain ⟨m, two⟩ := two
    exact .inr (.inl ⟨same, m, readVoted_odd h two fun e => same (by rw [e])⟩)
  · have apart : v.c0 ≠ v.c1 ∧ v.c1 ≠ v.c2 ∧ v.c0 ≠ v.c2 := by
      refine ⟨fun e => two ⟨v.c0, .inl ?_⟩, fun e => two ⟨v.c1, .inr (.inr ?_)⟩, fun e => two ⟨v.c0, .inr (.inl ?_)⟩⟩ <;> cases v <;> simp_all
    obtain ⟨h01, h12, h02⟩ := apart
    exact .inr (.inr ⟨same, readVoted_apart h h01 h12 h02⟩)

/-- The answer to a read: the word of the register with its copies mended. -/
theorem wordAt_readVoted {m : Nat} (h : s.votedAt a = some v) (ht : t.votedAt a = some ⟨m, m, m⟩)
    (hr : regsBut s t [Reg.GLB_RWVCNT.COUNT, Reg.GLB_FAULT.RWV, Reg.GLB_IRQ.FAULT]) :
    t.wordAt a = (s.setVoted a ⟨m, m, m⟩).wordAt a := by
  refine wordAt_congr (ht.trans (setVoted_votedAt (Option.isSome_of_mem h) _).symm) fun f member => ?_
  rw [hr f (fieldsAt_voted (addr_of_votedAt h) f member), setVoted_get]

theorem settle_flag_ne {f : Fld} (h1 : f.key ≠ Reg.GLB_STAT.NFAULT.key) (h2 : f.key ≠ Reg.CMD_IRQ.CPL.key) : s.settle.flag f = s.flag f := by
  rw [flag, flag, settle_get_ne _ _ h1 h2]

/-- A fault of the voting sets its bit and the interrupt flag. -/
theorem faulted (s : State) : (s.fault Reg.GLB_FAULT.RWV).flag Reg.GLB_FAULT.RWV = true ∧ (s.fault Reg.GLB_FAULT.RWV).flag Reg.GLB_IRQ.FAULT = true := by
  constructor
  · simp (disch := decide) [flag, fault, refreshFault_get_ne, raise_get_ne]
  · simp (disch := decide) [flag, fault, refreshFault_get_ne]

theorem fault_follows (s : State) (f : Fld) : Follows s (s.fault f) :=
  (Follows.of_outs rfl).trans ((raise_follows (s.put f 1) _).trans (refreshFault_follows _))

/-- nFAULT is low while GLB_FAULT.RWV is 1. -/
theorem nfault_of_rwv (h : s.settle.flag Reg.GLB_FAULT.RWV = true) : s.settle.flag Reg.GLB_STAT.NFAULT = true := by
  rw [settle, flag, refreshFault_get_ne _ _ (by decide), ← flag] at h
  rw [settle, refreshFault_nfault, h]
  rfl

end State

/-- What a read of a voted register runs. -/
theorem exec_votedRegisterRead_voted {s : State} {a : Word} {v : Voted} (hs : s.awake = true) (h : s.votedAt a.toNat = some v) :
    exec (.votedRegisterRead a) s =
      .next ((s.readVoted a.toNat).emit (.rdata a.toNat ((s.readVoted a.toNat).wordAt a.toNat))).settle := by
  have word := State.readWord_voted (State.addr_of_votedAt h) (s.readVoted a.toNat)
  rw [exec_votedRegisterRead, execVotedRegisterRead, live_awake hs, done_eq]
  simp [h, word]

/-- The answer of a read leaves the chip. -/
theorem sent_rdata {s t : State} {a w : Nat} (h : Follows s t) (hp : t.pwr = s.pwr) : sent s (t.emit (.rdata a w)).settle [.rdata a w] := by
  have before : sent s t [] := Follows.sent_trans (sent_of_outs rfl) h
  exact Follows.sent_trans (sent_emit before (State.mutes_of_pwr hp) rfl) (State.settle_follows _)

namespace State

theorem settle_emit_flag {s : State} {f : Fld} (x : Out) (h1 : f.key ≠ Reg.GLB_STAT.NFAULT.key) (h2 : f.key ≠ Reg.CMD_IRQ.CPL.key) :
    (s.emit x).settle.flag f = s.flag f := by
  rw [settle_flag_ne h1 h2]
  rfl

/-- Where all three copies differ, copy 0 stands in all, two rewritten copies count, and the fault shows. -/
theorem apart_shows {s u : State} {a : Nat} {v : Voted} (copies : s.votedAt a = some v)
    (read : u = (s.mended a v.c0 2).fault Reg.GLB_FAULT.RWV) :
    u.votedAt a = some ⟨v.c0, v.c0, v.c0⟩ ∧ u.get Reg.GLB_RWVCNT.COUNT = min (s.get Reg.GLB_RWVCNT.COUNT + 2) 0xFFFFFFFF
      ∧ u.flag Reg.GLB_FAULT.RWV = true ∧ u.flag Reg.GLB_IRQ.FAULT = true
      ∧ regsBut s u [Reg.GLB_RWVCNT.COUNT, Reg.GLB_FAULT.RWV, Reg.GLB_IRQ.FAULT] ∧ Follows s u ∧ u.pwr = s.pwr ∧ memSame s u := by
  subst read
  obtain ⟨rwv, irq⟩ := faulted (s.mended a v.c0 2)
  refine ⟨(votedAt_of_glb (fault_glb _ _) _).trans (mended_votedAt copies v.c0 2), ?_, rwv, irq,
    regsBut_fault (s.mended_regsBut _ _ _ (by simp)) (by simp) (by simp),
    (Follows.of_outs (s.mended_outs _ _ _)).trans (fault_follows _ _), (fault_pwr _ _).trans (s.mended_pwr _ _ _), ?_⟩
  · rw [fault_get_ne _ _ _ (by decide) (by decide) (by decide), mended_count]
  · simpa [memSame] using s.mended_memSame a v.c0 2

end State

/-- Settles O4: a read runs `readVoted`, which mends by majority. -/
theorem votedReads : Obligations.VotedReads := by
  unfold Obligations.VotedReads
  refine ⟨fun a s => State.votedAt_isSome_iff, ?agree, ?one, ?majority, ?none, ?apart, ?records, ?silent⟩
  case agree =>
    intro n s hs ha
    have copies : s.votedAt (0xD000C : Word).toNat = some ⟨n, n, n⟩ := congrArg some ha
    refine ⟨_, exec_votedRegisterRead_voted hs copies, ?_⟩
    rw [State.readVoted_agree copies]
    exact ⟨by simp, by simp, by simp, sent_rdata (.of_outs rfl) rfl⟩
  case one =>
    intro n m s hs he ne hc
    have copies : s.votedAt (0x108 : Word).toNat = some ⟨n, m, n⟩ := congrArg some he
    have mended := State.readVoted_odd copies (.inr (.inl rfl)) (by simp [ne])
    refine ⟨_, exec_votedRegisterRead_voted hs copies, ?_⟩
    rw [mended]
    have count := s.mended_count (0x108 : Word).toNat n 1
    refine ⟨by simp [State.mended, State.setVoted, Voted.all], by simp [State.mended, State.setVoted], by simp [State.mended, State.setVoted],
      ?_, by simp [State.mended, State.setVoted]⟩
    rw [State.settle_get_ne _ _ (by decide) (by decide), State.emit_get', count]
    omega
  case majority =>
    intro a v m s hs copies two odd
    refine ⟨_, exec_votedRegisterRead_voted hs copies, ?_⟩
    have regs : regsBut s (s.mended a.toNat m 1) [Reg.GLB_RWVCNT.COUNT] := s.mended_regsBut _ _ _ (by simp)
    have votes : (s.mended a.toNat m 1).votedAt a.toNat = some ⟨m, m, m⟩ := State.mended_votedAt copies m 1
    have word := State.wordAt_readVoted copies votes (s.mended_regsBut _ _ _ (by simp))
    rw [State.readVoted_odd copies two odd]
    refine ⟨(State.votedAt_of_glb (by simp) _).trans votes, ?_, ?_, regsBut_settle (regsBut_emit regs _), ?_⟩
    · rw [State.settle_get_ne _ _ (by decide) (by decide), State.emit_get', State.mended_count]
    · rw [word]
      exact sent_rdata (.of_outs (s.mended_outs _ _ _)) (s.mended_pwr _ _ _)
    · simpa [memSame] using s.mended_memSame a.toNat m 1
  case none =>
    intro a s hs copies
    rw [exec_votedRegisterRead, execVotedRegisterRead, live_awake hs, done_eq]
    simp [copies]
  case apart =>
    intro a v s hs copies h01 h12 h02
    refine ⟨_, exec_votedRegisterRead_voted hs copies, ?_⟩
    obtain ⟨votes, count, rwv, irq, regs, follows, pwr, mem⟩ := State.apart_shows copies (State.readVoted_apart copies h01 h12 h02)
    have word := State.wordAt_readVoted copies votes regs
    generalize s.readVoted a.toNat = u at *
    have rwv_shows : (u.emit (.rdata a.toNat (u.wordAt a.toNat))).settle.flag Reg.GLB_FAULT.RWV = true := by
      rw [State.settle_emit_flag _ (by decide) (by decide), rwv]
    refine ⟨(State.votedAt_of_glb (by simp) _).trans votes, ?_, rwv_shows, State.nfault_of_rwv rwv_shows, ?_, ?_,
      regsBut_settle (regsBut_emit regs _), ?_⟩
    · rw [State.settle_get_ne _ _ (by decide) (by decide), State.emit_get', count]
    · rw [State.settle_emit_flag _ (by decide) (by decide), irq]
    · rw [← word]
      exact sent_rdata follows pwr
    · simpa [memSame] using mem
  case records =>
    intro a v s hs copies odd fresh
    refine ⟨_, exec_votedRegisterRead_voted hs copies, ?_⟩
    have shown : ∀ t : State, newest (t.emit (.rdata a.toNat (t.wordAt a.toNat))).settle = newest t := fun t => by simp [newest]
    obtain ⟨m, same, -⟩ | ⟨-, m, read⟩ | ⟨-, read⟩ := State.readVoted_cases copies
    · exact absurd (by rw [same]) odd
    · rw [shown, read]
      simpa using State.mended_records fresh m 1
    · rw [shown, read]
      simpa [newest] using State.mended_records fresh v.c0 2
  case silent =>
    intro a v s hs copies before
    refine ⟨_, exec_votedRegisterRead_voted hs copies, ?_⟩
    obtain ⟨m, -, read⟩ | ⟨-, m, read⟩ | ⟨-, read⟩ := State.readVoted_cases copies
    · simp [read]
    · simp [read, State.mended_recorded before]
    · simp [read, State.mended_recorded before]

end Sys2Proof.Machine
end

section
/-! SUPPORT. The command interface as its registers drive it: its enable, its reset, its key arm (R435, R453, R460). -/

namespace Sys2Proof.Machine

set_option Elab.async false

namespace State

variable {s : State}

/-- The fields of CMD_CTRL in the order of the table. -/
theorem enable_rw : rwFieldAt Reg.CMD_CTRL.EN.addr Reg.CMD_CTRL.EN = true := by decide +kernel

theorem storeWord_ctrl_en (s : State) (v : Nat) : (s.storeWord Reg.CMD_CTRL.EN.addr v).get Reg.CMD_CTRL.EN = Reg.CMD_CTRL.EN.of v :=
  storeWord_get_of_rw enable_rw s v

/-- A word stored in CMD_CTRL leaves the ring indices. -/
theorem storeWord_ctrl_get_ne {f : Fld} (h : f ∈ [Reg.CMD_SQHEAD.HEAD, Reg.CMD_CQTAIL.TAIL]) (s : State) (v : Nat) :
    (s.storeWord Reg.CMD_CTRL.EN.addr v).get f = s.get f := by
  have apart : ∀ f ∈ [Reg.CMD_SQHEAD.HEAD, Reg.CMD_CQTAIL.TAIL], (∀ g ∈ fieldsAt Reg.CMD_CTRL.EN.addr, f.key ≠ g.key)
      ∧ f.key ≠ Reg.GLB_STAT.NFAULT.key ∧ f.key ≠ Reg.REST_STAT.CFGDIRTY.key ∧ f.key ≠ Reg.CMD_STAT.WIGN.key := by decide +kernel
  have wign : wignOf Reg.CMD_CTRL.EN.addr = some Reg.CMD_STAT.WIGN := by decide +kernel
  obtain ⟨fields, nfault, dirty, ne⟩ := apart f h
  exact storeWord_get_ne s _ v f fields nfault dirty fun w hw => by rwa [← Option.some.inj (wign.symm.trans hw)]

/-- A write that takes EN from 0 to 1 starts the rings afresh (R435). -/
theorem writeCmdCtrl_rise (h : s.flag Reg.CMD_CTRL.EN = false) :
    s.writeCmdCtrl 1 =
      { ((s.storeWord Reg.CMD_CTRL.EN.addr 1).put Reg.CMD_SQHEAD.HEAD 0).put Reg.CMD_CQTAIL.TAIL 0 with cmd.phase := true } := by
  have on : (s.storeWord Reg.CMD_CTRL.EN.addr 1).flag Reg.CMD_CTRL.EN = true := by
    rw [flag, storeWord_ctrl_en]
    rfl
  have stays : bit 1 1 = false := rfl
  simp only [writeCmdCtrl, stays, h, on]
  rfl

/-- A write of 0 stores its word alone. -/
theorem writeCmdCtrl_zero (s : State) : s.writeCmdCtrl 0 = s.storeWord Reg.CMD_CTRL.EN.addr 0 := by
  have off : (s.storeWord Reg.CMD_CTRL.EN.addr 0).flag Reg.CMD_CTRL.EN = false := by
    rw [flag, storeWord_ctrl_en]
    rfl
  have stays : bit 0 1 = false := rfl
  simp only [writeCmdCtrl, stays, off, Bool.and_false]
  rfl

/-- Where no configuration is stored, a reset of the block CMD changes registers and discards WP and WCP writes, nothing else. -/
theorem blockReset_cmd (h : s.cfgBest = none) (counters : Bool) :
    ∃ g : GlbS, g.auth = s.glb.auth ∧ s.blockReset 13 counters = { s with glb := g, regs := (s.clearRegs 13 counters).regs } := by
  have best : ∀ u : State, u.rest = s.rest → u.cfgBest = none := fun u e => by rw [← h, cfgBest, cfgBest, e]
  refine ⟨{ s.glb with pairs := s.glb.pairs.filter fun (p : Nat × Nat × Nat) => p.1 / 0x10000 ≠ 13
                       posted := s.glb.posted.filter fun (p : Nat × Nat) => p.1 / 0x10000 ≠ 13 }, rfl, ?_⟩
  simp [blockReset, endFrames, blockExtra, best, clearRegs]

/-- Where operating time is to reach an instant, time alone moves on. -/
theorem reachOp_frame (s : State) (x : Nat) : ∃ n, s.now ≤ n ∧ s.reachOp x = { s with now := n } := by
  unfold reachOp
  dsimp only
  split
  · exact ⟨s.now, le_rfl, rfl⟩
  · exact ⟨_, le_max_left _ _, rfl⟩

/-- A reset of the block CMD leaves the registers of other blocks. -/
theorem clearRegs_get_ne {b : Nat} {f : Fld} (h : f.key / 32 / 0x10000 ≠ b) (s : State) (all : Bool) : (s.clearRegs b all).get f = s.get f := by
  have kept := lookupKey_filter f.key (fun k => decide (k / 32 / 0x10000 ≠ b)
    || (fieldsAt (k / 32)).all fun g => decide (g.key ≠ k) || !blockField b g || ((decide (g.acc = .cnt) || decide (g.acc = .ro)) && !all)) s.regs
  rw [decide_eq_true h, Bool.true_or, if_pos rfl] at kept
  exact congrArg (·.getD f.default) kept

/-- A command reset without open packets and without a stored configuration (R460). -/
theorem commandReset_idle (hs : s.cmd.slots = []) (hc : s.cfgBest = none) :
    ∃ (g : GlbS) (x : HostS) (r : List (Nat × Nat)), s.commandReset =
      (({ s with glb := { g with auth := s.glb.auth }, host := x, regs := r,
                 cmd := { s.cmd with arm := none, mods := (0, none), shut := false } } : State).refreshOpen.put Reg.CMD_CTRL.EN 0).record 0x0D04 (natBe 4 0)
      ∧ ∀ f : Fld, f.key / 32 / 0x10000 ≠ 13 → (lookupKey f.key r).getD f.default = s.get f := by
  have none_open : s.abortSlots = s := by simp [abortSlots, hs]
  let mine (k : Fetch) : Bool := match k with | .subEntry _ => true | .packet _ _ _ => true | _ => false
  let u : State := { s with host := { s.host with fetches := s.host.fetches.filter fun x => !mine x.kind } }
  obtain ⟨g, -, reset⟩ := blockReset_cmd (s := u) hc true
  refine ⟨g, u.host, (u.clearRegs 13 true).regs, ?_, fun f hf => clearRegs_get_ne hf u true⟩
  unfold commandReset
  rw [none_open, hs]
  exact congrArg (fun x : State => (({ x with glb.auth := s.glb.auth, cmd := { x.cmd with arm := none, mods := (0, none), shut := false } } :
    State).refreshOpen.put Reg.CMD_CTRL.EN 0).record 0x0D04 (natBe 4 0)) reset

end State

/-- Settles O6: a write of CMD_CTRL runs `writeCmdCtrl`, which stores its word or resets the interface; the key arm is `keyArm`'s and
`dropArm`'s. -/
theorem commandRings : Obligations.CommandRings := by
  unfold Obligations.CommandRings
  have write (s : State) (v : Word) (hs : s.active = true) : exec (.cmdEnableWrite v) s = .next (s.writeCmdCtrl v.toNat).settle := by
    rw [exec_cmdEnableWrite, execCmdEnableWrite, liveActive_active hs, done_eq]
  have reset (s : State) (hs : s.active = true) : exec .commandReset s = .next s.commandReset.settle := by
    rw [exec_commandReset, execCommandReset, liveActive_active hs, done_eq]
    rfl
  have expiry (s : State) (hs : s.awake = true) : exec .keyArmExpiry s = .next s.armExpiry.settle := by
    rw [exec_keyArmExpiry, execKeyArmExpiry, live_awake hs, done_eq]
  refine ⟨?on, ?off, ?idle, ?arm, ?expires, fun v s hs => write s v hs, reset, ?unarmed⟩
  case on =>
    intro s hs off
    refine ⟨_, write s 1 hs, ?_⟩
    rw [show ((1 : Word).toNat) = 1 from rfl, State.writeCmdCtrl_rise off]
    have en : (s.storeWord Reg.CMD_CTRL.EN.addr 1).get Reg.CMD_CTRL.EN = 1 := State.storeWord_ctrl_en s 1
    refine ⟨?_, ?_, ?_, by simp, by simp, by simp, by simp, by simp⟩ <;> rw [State.settle_get_ne _ _ (by decide) (by decide)]
    all_goals refine (State.get_congr (t := ((s.storeWord Reg.CMD_CTRL.EN.addr 1).put Reg.CMD_SQHEAD.HEAD 0).put Reg.CMD_CQTAIL.TAIL 0) rfl _).trans ?_
    · rw [State.get_put_ne _ _ _ _ (by decide), State.get_put_ne _ _ _ _ (by decide), en]
    · rw [State.get_put_ne _ _ _ _ (by decide), State.get_put_self]
      rfl
    · rw [State.get_put_self]
      rfl
  case off =>
    intro s hs
    refine ⟨_, write s 0 hs, ?_⟩
    rw [show ((0 : Word).toNat) = 0 from rfl, State.writeCmdCtrl_zero]
    refine ⟨?_, ?_, ?_, by simp, by simp⟩ <;> rw [State.settle_get_ne _ _ (by decide) (by decide)]
    · exact State.storeWord_ctrl_en s 0
    · exact State.storeWord_ctrl_get_ne (by simp) s 0
    · exact State.storeWord_ctrl_get_ne (by simp) s 0
  case idle =>
    intro s hs none_open none_stored
    obtain ⟨g, x, r, run, kept⟩ := State.commandReset_idle none_open none_stored
    refine ⟨_, reset s hs, ?_⟩
    rw [run]
    refine ⟨?_, (State.settle_cmd_arm _).trans rfl, (State.settle_cmd_keys _).trans rfl, (State.settle_cmd_replay _).trans rfl,
      (congrArg _ (State.settle_glb _)).trans rfl, (State.settle_cmd_shut _).trans rfl, by simp [State.record, State.refreshOpen],
      by simp [State.record], ?_, (State.settle_img _).trans rfl⟩
    · rw [State.settle_get_ne _ _ (by decide) (by decide), State.record_get, State.get_put_self]
      rfl
    · rw [State.settle_get_ne _ _ (by decide) (by decide), State.record_get, State.get_put_ne _ _ _ _ (by decide), State.refreshOpen,
        State.get_put_ne _ _ _ _ (by decide)]
      exact kept Reg.INAU_STAT.STATE (by decide)
  case arm =>
    intro v s hs
    have regs : regsBut s (s.keyArm v.toNat) [Reg.CMD_KEYARM.CODE, Reg.CMD_KEYARM.SLOT] :=
      regsBut_put (regsBut_put (regsBut_refl s _) (by simp) _) (by simp) _
    refine ⟨(s.keyArm v.toNat).settle, ?_, (State.settle_cmd_arm _).trans rfl, ?_, ?_, (State.settle_cmd_keys _).trans rfl,
      (State.settle_events _).trans rfl, regsBut_settle regs, by simp [memSame, State.keyArm]⟩
    · rw [exec_keyArm, execKeyArm, live_awake hs, done_eq]
    · rw [State.settle_get_ne _ _ (by decide) (by decide)]
      refine (State.get_congr (t := (s.put Reg.CMD_KEYARM.CODE (v.toNat / 256)).put Reg.CMD_KEYARM.SLOT v.toNat) rfl _).trans ?_
      rw [State.get_put_ne _ _ _ _ (by decide), State.get_put_self]
      rfl
    · rw [State.settle_get_ne _ _ (by decide) (by decide)]
      exact (State.get_congr (t := (s.put Reg.CMD_KEYARM.CODE (v.toNat / 256)).put Reg.CMD_KEYARM.SLOT v.toNat) rfl _).trans
        (State.get_put_self _ _ _)
  case expires =>
    intro m a s hs armed
    obtain ⟨n, later, reached⟩ := State.reachOp_frame s ((a + 256) % 2 ^ 40)
    have run : s.armExpiry = ({ s with now := n } : State).dropArm := by rw [State.armExpiry, armed, ← reached]
    have regs : regsBut s ((({ s with now := n } : State).put Reg.CMD_KEYARM.CODE 0).put Reg.CMD_KEYARM.SLOT 0)
        [Reg.CMD_KEYARM.CODE, Reg.CMD_KEYARM.SLOT] :=
      regsBut_put (regsBut_put (regsBut_of_get fun _ => rfl) (by simp) _) (by simp) _
    refine ⟨_, expiry s hs, ?_⟩
    rw [run]
    refine ⟨(State.settle_cmd_arm _).trans rfl, ?_, ?_, (State.settle_cmd_keys _).trans rfl,
      (by rw [State.settle_now]; exact later), (State.settle_events _).trans rfl, regsBut_settle (regsBut_of_regs regs rfl),
      by simp [memSame, State.dropArm]⟩
    · rw [State.settle_get_ne _ _ (by decide) (by decide)]
      refine (State.get_congr (t := (({ s with now := n } : State).put Reg.CMD_KEYARM.CODE 0).put Reg.CMD_KEYARM.SLOT 0) rfl _).trans ?_
      rw [State.get_put_ne _ _ _ _ (by decide), State.get_put_self]
      rfl
    · rw [State.settle_get_ne _ _ (by decide) (by decide)]
      exact (State.get_congr (t := (({ s with now := n } : State).put Reg.CMD_KEYARM.CODE 0).put Reg.CMD_KEYARM.SLOT 0) rfl _).trans
        (State.get_put_self _ _ _)
  case unarmed =>
    intro s hs none_armed
    rw [expiry s hs, State.armExpiry, none_armed]

end Sys2Proof.Machine
end

section
/-! SUPPORT. Frames from remote nodes: what a refusal leaves and how the checks of Table 16.8 end (R448 to R450). -/

namespace Sys2Proof.Machine

set_option Elab.async false

namespace State

variable {s u : State} {f : Bytes}

/-- The counter of a cause of refusal (Table 16.8). -/
def refusals (c : Nat) : Fld :=
  match c with
  | 1 => Reg.CMD_REJFMT.COUNT | 2 => Reg.CMD_REJGEN.COUNT | 3 => Reg.CMD_REJSTALE.COUNT | 4 => Reg.CMD_REJMAC.COUNT
  | _ => Reg.CMD_REJREPLAY.COUNT

theorem refuseRemote_eq (s : State) (c n : Nat) :
    s.refuseRemote c n = ((s.bump (refusals c)).raise Reg.CMD_IRQ.RREJ).recordSec 0x0D10 n (natBe 1 c ++ natBe 2 n) := rfl

/-- What a counter reads after it has counted and a flag of another place was raised. -/
theorem bump_raise_get {c i : Fld} (h : c.key ≠ i.key) (hw : c.width = 32) (s : State) :
    ((s.bump c).raise i).get c = min (s.get c + 1) 0xFFFFFFFF := by
  rw [raise_get_ne _ _ _ h, bump, bumpBy, get_put_self, hw]
  exact Nat.mod_eq_of_lt (by omega)

theorem bump_raise_regsBut (s : State) (c i : Fld) : regsBut s ((s.bump c).raise i) [c, i] :=
  regsBut_raise (regsBut_put (regsBut_refl s _) (by simp) _) (by simp)

theorem bump_raise_cmd (s : State) (c i : Fld) : ((s.bump c).raise i).cmd = s.cmd := by simp

/-- A counter of refusals is a whole word of its own. -/
theorem refusals_place (c : Nat) : (refusals c).key ≠ Reg.CMD_IRQ.RREJ.key ∧ (refusals c).width = 32 := by
  unfold refusals
  split <;> decide

/-- A refusal is counted by its cause and signalled (R448). -/
theorem refuseRemote_shows (s : State) (c n : Nat) :
    (s.refuseRemote c n).get (refusals c) = min (s.get (refusals c) + 1) 0xFFFFFFFF ∧ (s.refuseRemote c n).flag Reg.CMD_IRQ.RREJ = true
      ∧ (s.refuseRemote c n).cmd = s.cmd ∧ regsBut s (s.refuseRemote c n) [refusals c, Reg.CMD_IRQ.RREJ] := by
  obtain ⟨ne, width⟩ := refusals_place c
  rw [refuseRemote_eq]
  refine ⟨?_, ?_, ?_, regsBut_of_regs (bump_raise_regsBut s _ _) (recordSec_regs _ _ _ _)⟩
  · rw [recordSec_get, bump_raise_get ne width]
  · rw [flag, recordSec_get, get_raise_self]
    rfl
  · rw [recordSec_cmd, bump_raise_cmd]

/-- Seconds of operating time and what they have recorded do not depend on registers. -/
theorem bump_raise_once (s : State) (c i : Fld) : ((s.bump c).raise i).onceSec = s.onceSec ∧ ((s.bump c).raise i).opSec = s.opSec
    ∧ ((s.bump c).raise i).events = s.events := by
  simp [opSec, opTime]

/-- A refusal is recorded once per source and second (R448). -/
theorem refuseRemote_records {n : Nat} (c : Nat) (h : s.onceSec.contains (0x0D10, n, s.opSec) = false) :
    newest (s.refuseRemote c n) = some 0x0D10 ∧ (s.refuseRemote c n).events.getLast?.map (·.params) = some (natBe 1 c ++ natBe 2 n)
      ∧ (s.refuseRemote c n).events.dropLast = s.events ∧ (s.refuseRemote c n).onceSec.contains (0x0D10, n, s.opSec) = true := by
  obtain ⟨once, second, events⟩ := bump_raise_once s (refusals c) Reg.CMD_IRQ.RREJ
  rw [refuseRemote_eq, recordSec, once, second, h]
  simp [newest, record]

theorem refuseRemote_recorded {n : Nat} (c : Nat) (h : s.onceSec.contains (0x0D10, n, s.opSec) = true) :
    (s.refuseRemote c n).events = s.events ∧ (s.refuseRemote c n).onceSec = s.onceSec := by
  obtain ⟨once, second, events⟩ := bump_raise_once s (refusals c) Reg.CMD_IRQ.RREJ
  rw [refuseRemote_eq, recordSec, once, second, if_pos h]
  exact ⟨events, once⟩

/-- A time notice refused is counted and signalled too (R200). -/
theorem rejectTimeNot_shows (s : State) :
    s.rejectTimeNot.get Reg.TIME_NOTREJ.COUNT = min (s.get Reg.TIME_NOTREJ.COUNT + 1) 0xFFFFFFFF ∧ s.rejectTimeNot.flag Reg.TIME_IRQ.NOTREJ = true
      ∧ s.rejectTimeNot.cmd = s.cmd ∧ regsBut s s.rejectTimeNot [Reg.TIME_NOTREJ.COUNT, Reg.TIME_IRQ.NOTREJ] := by
  unfold rejectTimeNot
  refine ⟨?_, ?_, ?_, regsBut_of_regs (bump_raise_regsBut s _ _) (recordGen_regs _ _ _ _)⟩
  · rw [recordGen_get, bump_raise_get (by decide) rfl]
  · rw [flag, recordGen_get, get_raise_self]
    rfl
  · rw [recordGen_cmd, bump_raise_cmd]

/-! How the checks end. -/

theorem remoteChecks_of_cause (h : (s.readVoted 0xD000C).remoteCause f ≠ 0) :
    s.remoteChecks f = (false, (s.readVoted 0xD000C).refuseRemote ((s.readVoted 0xD000C).remoteCause f) (hSrc f)) := by
  simp [remoteChecks, h]

theorem remoteChecks_of_seen (h : (s.readVoted 0xD000C).remoteCause f = 0)
    (hr : (s.readVoted 0xD000C).replayNew (wrOrigin (payload f)) (hSeq f) = none) :
    s.remoteChecks f = (false, (s.readVoted 0xD000C).refuseRemote 5 (hSrc f)) := by
  simp [remoteChecks, h, hr]

theorem remoteChecks_of_new (h : (s.readVoted 0xD000C).remoteCause f = 0)
    (hr : (s.readVoted 0xD000C).replayNew (wrOrigin (payload f)) (hSeq f) = some u) : s.remoteChecks f = (true, u) := by
  simp [remoteChecks, h, hr]

/-- A command frame refused: where it carries a time notice, that is counted too. -/
theorem takeCmd_of_refused (h : s.remoteChecks f = (false, u)) :
    s.takeCmd f = if pkOp (wrPacket (payload f)) = 0x51 then u.rejectTimeNot else u := by
  simp [takeCmd, h]

theorem takeCmd_of_notice (h : s.remoteChecks f = (true, u)) (hn : isNotice (pkOp (wrPacket (payload f))) = true) :
    s.takeCmd f = { u with cmd.notices := u.cmd.notices ++ [f] } := by
  simp [takeCmd, h, hn]

theorem takeCmd_of_slot {n : Nat} (h : s.remoteChecks f = (true, u)) (hn : isNotice (pkOp (wrPacket (payload f))) = false)
    (hs : u.cmd.shut = false) (hr : u.slotsTaken + u.cmdFetches < 64) (hf : u.freeSlot = some n) :
    s.takeCmd f = ((u.bump Reg.CMD_RACCEPT.COUNT).accept n (.remote (hSrc f) (hAckReq f)) (wrPacket (payload f))).screen n := by
  simp [takeCmd, h, hn, hs, hr.not_ge, hf]

theorem takeCmd_of_full (h : s.remoteChecks f = (true, u)) (hn : isNotice (pkOp (wrPacket (payload f))) = false)
    (hs : u.cmd.shut = true ∨ 64 ≤ u.slotsTaken + u.cmdFetches) :
    s.takeCmd f = if hAckReq f then (u.bump Reg.CMD_RBUSY.COUNT).sendRemote 0x05 (hSrc f) false (cplPacket (wrPacket (payload f)) 8 0 [])
      else u.bump Reg.CMD_RBUSY.COUNT := by
  have none_free : (u.cmd.shut || decide (64 ≤ u.slotsTaken + u.cmdFetches)) = true := by simpa using hs
  simp only [takeCmd, h, hn, none_free]
  rfl

theorem takeCpl_of_refused (h : s.remoteChecks f = (false, u)) : s.takeCpl f = u := by simp [takeCpl, h]

/-- A completion that passes goes to the RSEND that awaits it, to the member whose RSEND does, or is late. -/
theorem takeCpl_of_new (h : s.remoteChecks f = (true, u)) :
    s.takeCpl f = match u.openRsend (hSrc f) (fieldAt (wrPacket (payload f)) 2 2), u.memberRsend (hSrc f) (fieldAt (wrPacket (payload f)) 2 2) with
      | some n, _ => u.complete n 0 0 (wrPacket (payload f))
      | none, some m => u.stackMsg m 12 (natBe 2 (hSrc f) ++ wrPacket (payload f))
      | none, none => u.bump Reg.CMD_CPLLATE.COUNT := by
  simp only [takeCpl, h]
  rfl

end State

/-- Settles O40: a frame for this node runs `takeCmd` or `takeCpl`, whose checks end in one of three ways. -/
theorem remoteFrames : Obligations.RemoteFrames := by
  unfold Obligations.RemoteFrames
  have cmd (l : Lane) (f : Bytes) (s : State) (hs : s.awake = true) (ok : s.remoteFrameOk l f 0x04 = true) :
      exec (.cmdFrameReceived l f) s = .next (s.takeCmd f).settle := by
    rw [exec_cmdFrameReceived, execCmdFrameReceived, live_awake hs, done_eq, if_pos ok]
  have cpl (l : Lane) (f : Bytes) (s : State) (hs : s.awake = true) (ok : s.remoteFrameOk l f 0x05 = true) :
      exec (.cplFrameReceived l f) s = .next (s.takeCpl f).settle := by
    rw [exec_cplFrameReceived, execCplFrameReceived, live_awake hs, done_eq, if_pos ok]
  refine ⟨?cmdCause, ?counts, ?slot, ?notice, ?late, ?awaited, State.rejectTimeNot_shows, ?cmdOther, ?cplOther, ?cmdSeen, ?cplCause, ?cplSeen,
    ?busy, ?member, fun c n s h => State.refuseRemote_records c h, fun c n s h => State.refuseRemote_recorded c h⟩
  case cmdCause =>
    rintro l f k r s hs ok rfl rfl cause
    rw [cmd l f s hs ok, State.takeCmd_of_refused (State.remoteChecks_of_cause cause)]
  case counts =>
    rintro c n r s nonzero rfl
    have named : (if c.val = 1 then Reg.CMD_REJFMT.COUNT else if c.val = 2 then Reg.CMD_REJGEN.COUNT else if c.val = 3 then Reg.CMD_REJSTALE.COUNT
        else if c.val = 4 then Reg.CMD_REJMAC.COUNT else Reg.CMD_REJREPLAY.COUNT) = State.refusals c.val := by
      revert nonzero
      exact (by decide : ∀ c : Fin 6, c.val ≠ 0 → (if c.val = 1 then Reg.CMD_REJFMT.COUNT else if c.val = 2 then Reg.CMD_REJGEN.COUNT
        else if c.val = 3 then Reg.CMD_REJSTALE.COUNT else if c.val = 4 then Reg.CMD_REJMAC.COUNT else Reg.CMD_REJREPLAY.COUNT)
          = State.refusals c.val) c
    rw [named]
    exact State.refuseRemote_shows s c.val n
  case slot =>
    rintro l f p n u r s hs ok rfl passes new rfl plain admits room free
    rw [cmd l f s hs ok, State.takeCmd_of_slot (State.remoteChecks_of_new passes new) plain admits room free]
  case notice =>
    rintro l f u r s hs ok rfl passes new notice
    rw [cmd l f s hs ok, State.takeCmd_of_notice (State.remoteChecks_of_new passes new) notice]
  case late =>
    rintro l f u r s hs ok rfl passes new none_open none_below
    rw [cpl l f s hs ok, State.takeCpl_of_new (State.remoteChecks_of_new passes new), none_open, none_below]
  case awaited =>
    rintro l f n u r s hs ok rfl passes new awaits
    rw [cpl l f s hs ok, State.takeCpl_of_new (State.remoteChecks_of_new passes new), awaits]
  case cmdOther =>
    intro l f r s hs other
    rw [exec_cmdFrameReceived, execCmdFrameReceived, live_awake hs, done_eq]
    simp [other]
  case cplOther =>
    intro l f r s hs other
    rw [exec_cplFrameReceived, execCplFrameReceived, live_awake hs, done_eq]
    simp [other]
  case cmdSeen =>
    rintro l f r s hs ok rfl passes seen
    rw [cmd l f s hs ok, State.takeCmd_of_refused (State.remoteChecks_of_seen passes seen)]
  case cplCause =>
    rintro l f k r s hs ok rfl rfl cause
    rw [cpl l f s hs ok, State.takeCpl_of_refused (State.remoteChecks_of_cause cause)]
  case cplSeen =>
    rintro l f r s hs ok rfl passes seen
    rw [cpl l f s hs ok, State.takeCpl_of_refused (State.remoteChecks_of_seen passes seen)]
  case busy =>
    rintro l f p u r s hs ok rfl passes new rfl plain full
    rw [cmd l f s hs ok, State.takeCmd_of_full (State.remoteChecks_of_new passes new) plain full]
  case member =>
    rintro l f m u r s hs ok rfl passes new none_open below
    rw [cpl l f s hs ok, State.takeCpl_of_new (State.remoteChecks_of_new passes new), none_open, below]

end Sys2Proof.Machine
end

section
/-! SUPPORT. A checkpoint that waits (R391, R474), copies to a mirror that the supply cuts short (R479), a CR that waits to go out (R38). -/

namespace Sys2Proof.Machine

set_option Elab.async false

/-- A checkpoint write waits, and nothing runs. -/
def State.ckptWaits : State := { State.reset with hkp.waiting := [.ckpt] }

/-- The activities that run after a command. -/
def runningAfter : Host.Outcome State Fault Refusal → List Act
  | .next t => t.hkp.running
  | _ => []

/-- A checkpoint that comes next is written at once: it does not run. -/
theorem running_activityStart_ckptWaits : runningAfter (exec .activityStart State.ckptWaits) = [] := by
  decide +kernel

/-- Refutes O42: a checkpoint has a row of Table 17.5 as the other MRAM writes have, but its start writes it at once (R391), and it is not
among the activities that run. -/
theorem not_housekeeping : ¬ Obligations.Housekeeping := by
  unfold Obligations.Housekeeping
  rintro ⟨-, -, -, -, -, -, -, -, -, -, -, -, -, -, -, -, -, -, -, -, -, -, -, -, -, -, -, -, -, -, -, -, -, -, -, -, -, -, -, -, -, starts⟩
  have ran := starts .ckpt State.ckptWaits (by decide +kernel) (by decide +kernel) (by decide)
  have none_runs := running_activityStart_ckptWaits
  rw [ran] at none_runs
  simp [runningAfter, State.refreshAct] at none_runs

/-- One staged record of a FAILED recorder has been copied to the mirror. -/
def State.mirrored : State := { State.reset with recd.mirStage := 1 }

/-- Copies to the mirror that a command leaves counted. -/
def mirroredAfter : Host.Outcome State Fault Refusal → Nat
  | .next t => t.recd.mirStage
  | _ => 0

/-- The loss of the supply forgets what was copied. -/
theorem mirrored_vinLoss : mirroredAfter (exec .vinLoss State.mirrored) = 0 := by
  decide +kernel

/-- Refutes O43: loss of VIN empties staging, and with it the count of its records that are copied to the mirror (R404) returns to 0; the
recorder stands but for more than the fields named. -/
theorem not_resets : ¬ Obligations.Resets := by
  unfold Obligations.Resets
  rintro ⟨loss, -⟩
  obtain ⟨t, ran, -, -, recd, -⟩ := loss State.mirrored
  have forgotten := mirrored_vinLoss
  rw [ran] at forgotten
  have kept : t.recd.mirStage = 1 := by rw [recd]; rfl
  exact absurd (kept.symm.trans forgotten) (by decide)

/-- TWILIGHT, with a CR that waits to go out on lane 0, whose transmitter has no frame. -/
def State.creditWaits : State :=
  { State.reset with power := .twilight }.onLane 0 fun l => { l with sets := [.cr 0 5] }

/-- The CR leaves before the transmitter stops. -/
theorem outs_twilightThermalHold_creditWaits :
    outsAfter (exec (.twilightThermalHold 0) State.creditWaits) = [.cr 0 5, .quiet 0, .quiet 2] := by
  decide +kernel

/-- Refutes O44: a transmitter that temperature stops first sends the CR that waits between frames (R38). -/
theorem not_suppliesAndPace : ¬ Obligations.SuppliesAndPace := by
  unfold Obligations.SuppliesAndPace
  rintro ⟨-, hold, -⟩
  obtain ⟨t, ran, ⟨o, split, left⟩, -⟩ :=
    hold 0 State.creditWaits (by decide +kernel) rfl rfl (by decide +kernel) (by decide +kernel) (by decide +kernel) (by decide +kernel)
  have outs := outs_twilightThermalHold_creditWaits
  rw [ran] at outs
  have nothing_before : State.creditWaits.outs = [] := rfl
  have all : o = [.cr 0 5, .quiet 0, .quiet 2] := by rw [nothing_before, List.nil_append] at split; exact split.symm.trans outs
  rw [all] at left
  exact absurd left (by decide)

end Sys2Proof.Machine
end

section
/-! SUPPORT. A packet from another node while one copy of CMD_AUTH differs (R458). -/

namespace Sys2Proof.Machine

set_option Elab.async false

/-- A NOP from position 1 that asks for no answer waits in slot 0, and copy 2 of CMD_AUTH differs. -/
def State.authOdd : State :=
  { State.reset with
    cmd.slots := [(0, { src := .remote 1 false, packet := [0, 1, 0, 9, 0, 0, 0, 0], at_ := 0 })]
    glb.auth := ⟨0, 0, 1⟩ }

/-- What the packet runs reads CMD_AUTH, which mends its odd copy. -/
theorem auth_runCmd_authOdd : (State.authOdd.runCmd 0 0x01 fun _ _ s => s).glb.auth = ⟨0, 0, 0⟩ := by
  decide +kernel

theorem auth_complete_authOdd : (State.authOdd.complete 0 5 0 []).glb.auth = ⟨0, 0, 1⟩ := by
  decide +kernel

/-- Refutes O31: before a packet of another node whose group is not allowed completes, CMD_AUTH is read, and a copy of it that differs is
mended and counted (R458). -/
theorem not_commandPackets : ¬ Obligations.CommandPackets := by
  unfold Obligations.CommandPackets
  rintro ⟨-, -, -, -, -, -, -, -, -, -, -, -, -, -, -, -, -, -, -, -, -, -, -, -, -, -, -, -, -, -, -, refused, -⟩
  have ran := refused 0 0x01 (fun _ _ s => s) _ State.authOdd rfl (by decide) (by decide +kernel)
  have mended := auth_runCmd_authOdd
  rw [ran] at mended
  exact absurd (auth_complete_authOdd.symm.trans mended) (by decide)

end Sys2Proof.Machine
end

section
/-! SUPPORT. The Dusk round: how a DUSK frame is taken, what a write of REST_CTRL starts, how a round ends (R362 to R369, R380). -/

namespace Sys2Proof.Machine

set_option Elab.async false

namespace State

variable {s u : State}

/-! Frames. -/

/-- A good DUSK frame of the kind `k` has come on a lane that is up (R362). -/
def duskHeard (s : State) (l : Lane) (f : Bytes) (k : Nat) : Bool :=
  s.laneUp l && headerCheck f = .ok && hCls f = .mgmt && hType f = 0x18 && hLen f = 32 && (duskMsg (payload f)).kind = k

/-- It comes neither across an isolated joint nor the break joint, under the roster in force (R227, R362). -/
def duskNear (s : State) (l : Lane) (f : Bytes) : Bool :=
  !(s.vend (endOf l)).isolated && s.breakEnd ≠ some (endOf l) && !s.inau.force.isNone && hGen f = s.gen

/-- A TOKEN by its round, sender and line (R30). -/
def duskToken (l : Lane) (f : Bytes) : Nat × Nat × Nat := ((duskMsg (payload f)).round, hSrc f, lineOf l)

/-- The frame's key is noted as seen (R362). -/
def duskSeen (s : State) (f : Bytes) : State := s.noteSeen (duskKey (duskMsg (payload f)) (hSrc f))

section
variable {l : Lane} {f : Bytes} {m : DuskMsg} {k : Nat} {act : State → DuskMsg → State}

theorem duskHeard_of (hm : m = duskMsg (payload f)) (up : s.laneUp l = true) (ok : headerCheck f = .ok) (cls : hCls f = .mgmt)
    (ty : hType f = 0x18) (len : hLen f = 32) (kind : m.kind = k) : s.duskHeard l f k = true := by
  subst hm
  simp [duskHeard, up, ok, cls, ty, len, kind]

theorem duskNear_of (iso : (s.vend (endOf l)).isolated = false) (brk : s.breakEnd ≠ some (endOf l)) (force : s.inau.force.isNone = false)
    (gen : hGen f = s.gen) : s.duskNear l f = true := by
  simp [duskNear, iso, force, gen, brk]

theorem takeDusk_isolated (heard : s.duskHeard l f k = true) (iso : (s.vend (endOf l)).isolated = true) :
    s.takeDusk l f k act = s.bump Reg.FWD_ISOL.COUNT := by
  unfold duskHeard at heard
  simp only [takeDusk, heard, iso]
  rfl

theorem takeDusk_break (heard : s.duskHeard l f k = true) (iso : (s.vend (endOf l)).isolated = false) (brk : s.breakEnd = some (endOf l)) :
    s.takeDusk l f k act = s.bump Reg.FWD_BREAK.COUNT := by
  unfold duskHeard at heard
  simp only [takeDusk, heard, iso, brk]
  rfl

/-- The branches of `takeDusk` before the copies are told apart, for a frame that is heard from near. -/
theorem takeDusk_near (heard : s.duskHeard l f k = true) (near : s.duskNear l f = true) :
    s.takeDusk l f k act =
      let again := k = 2 && s.rest.tokens.contains (duskToken l f)
      let t : State := if k = 2 && !again then { s with rest.tokens := duskToken l f :: s.rest.tokens } else s
      if t.rest.seen.contains (duskKey (duskMsg (payload f)) (hSrc f)) then (if again then t.record 0x0402 else t)
      else act (t.duskSeen f) (duskMsg (payload f)) := by
  unfold duskHeard at heard
  simp only [duskNear, Bool.and_eq_true, Bool.not_eq_true', decide_eq_true_eq] at near
  obtain ⟨⟨⟨iso, brk⟩, force⟩, gen⟩ := near
  have skip : (s.inau.force.isNone || decide (hGen f ≠ s.gen)) = false := by simp [force, gen]
  unfold takeDusk
  simp only [heard, iso, if_neg brk, skip]
  rfl

/-- A first copy of a CALL, VERDICT or RETRACT acts (R362). -/
theorem takeDusk_first (hk : k ≠ 2) (heard : s.duskHeard l f k = true) (near : s.duskNear l f = true)
    (new : s.rest.seen.contains (duskKey (duskMsg (payload f)) (hSrc f)) = false) :
    s.takeDusk l f k act = act (s.duskSeen f) (duskMsg (payload f)) := by
  rw [takeDusk_near heard near]
  simp only [decide_eq_false hk, Bool.false_and, Bool.false_eq_true, if_false, new]

theorem takeDusk_copy (hk : k ≠ 2) (heard : s.duskHeard l f k = true) (near : s.duskNear l f = true)
    (seen : s.rest.seen.contains (duskKey (duskMsg (payload f)) (hSrc f)) = true) : s.takeDusk l f k act = s := by
  rw [takeDusk_near heard near]
  simp only [decide_eq_false hk, Bool.false_and, Bool.false_eq_true, if_false, seen, if_true]

/-- A TOKEN not seen before acts, and is noted (R364). -/
theorem takeDusk_token (heard : s.duskHeard l f 2 = true) (near : s.duskNear l f = true)
    (new : s.rest.seen.contains (duskKey (duskMsg (payload f)) (hSrc f)) = false) (tok : s.rest.tokens.contains (duskToken l f) = false) :
    s.takeDusk l f 2 act = act (({ s with rest.tokens := duskToken l f :: s.rest.tokens } : State).duskSeen f) (duskMsg (payload f)) := by
  rw [takeDusk_near heard near]
  simp only [tok, decide_true, Bool.true_and, Bool.not_false, if_true, Bool.false_eq_true, if_false, new]

/-- A TOKEN that comes again from its sender on its line is recorded (R30, R364). -/
theorem takeDusk_token_again (heard : s.duskHeard l f 2 = true) (near : s.duskNear l f = true)
    (seen : s.rest.seen.contains (duskKey (duskMsg (payload f)) (hSrc f)) = true) (tok : s.rest.tokens.contains (duskToken l f) = true) :
    s.takeDusk l f 2 act = s.record 0x0402 := by
  rw [takeDusk_near heard near]
  simp only [tok, decide_true, Bool.true_and, Bool.not_true, if_true, Bool.false_eq_true, if_false, seen]

/-- Its copy on the other line is noted. -/
theorem takeDusk_token_copy (heard : s.duskHeard l f 2 = true) (near : s.duskNear l f = true)
    (seen : s.rest.seen.contains (duskKey (duskMsg (payload f)) (hSrc f)) = true) (tok : s.rest.tokens.contains (duskToken l f) = false) :
    s.takeDusk l f 2 act = { s with rest.tokens := duskToken l f :: s.rest.tokens } := by
  rw [takeDusk_near heard near]
  simp only [tok, decide_true, Bool.true_and, Bool.not_false, if_true, Bool.false_eq_true, if_false, seen]

end

/-! The token. -/

theorem noteDusk_shows (s : State) (n : Nat) : (s.noteDusk n).roster = s.roster ∧ (s.noteDusk n).pos = s.pos ∧ (s.noteDusk n).rest = s.rest := by
  unfold noteDusk
  split
  · exact ⟨rfl, rfl, rfl⟩
  · refine ⟨by simp [roster], ?_, by simp⟩
    simp (disch := decide) only [pos, raise_get_ne, bump, bumpBy, get_put_ne]

/-- At a node that is not at q = 1 a CALL is relayed (R363). -/
theorem takeCall_relayed {m : DuskMsg} {r : Roster} (hr : s.roster = some r) (hq : r.seqOf s.pos ≠ 1) :
    s.takeCall m = (s.noteDusk m.round).sendDusk m [(s.noteDusk m.round).foreEnd] := by
  obtain ⟨roster, pos, -⟩ := s.noteDusk_shows m.round
  simp [takeCall, roster, pos, hr, hq]

/-- Without a new joint a visit only notes the round as answered before the reasons are asked (R364). -/
theorem answered_of_joint (joint : s.rest.jointNew = false) :
    ({ s with rest := { s.rest with answered := (s.rest.round, s.pos) :: s.rest.answered, jointNew := false } } : State)
      = { s with rest.answered := (s.rest.round, s.pos) :: s.rest.answered } := by rw [← joint]

/-- With a reason, and without a TWILIGHT round, the lowest reason vetoes (R364). -/
theorem visitToken_veto {n c : Nat} {l : List Nat} (reasons : s.duskReasons = n :: l) (tw : s.rest.tw = false) (joint : s.rest.jointNew = false) :
    s.visitToken c = ({ s with rest.answered := (s.rest.round, s.pos) :: s.rest.answered } : State).vetoDusk (l.foldl min n) c := by
  unfold visitToken
  extract_lets bad src w rs
  have hw : w = { s with rest.answered := (s.rest.round, s.pos) :: s.rest.answered } := answered_of_joint joint
  have hrs : rs = n :: l := by
    have : w.duskReasons = n :: l := by rw [hw]; exact reasons
    simp only [rs, this, bad, tw, Bool.false_and, Bool.false_eq_true, if_false, List.append_nil]
  clear_value rs w
  subst hrs hw
  rfl

/-- Without a reason and a TWILIGHT round, a node that is neither the leader nor the last consents and passes the token on (R364). -/
theorem visitToken_consent {c : Nat} {r : Roster} (reasons : s.duskReasons = []) (tw : s.rest.tw = false) (joint : s.rest.jointNew = false)
    (hr : s.roster = some r) (pos : s.pos ≠ 0) (last : r.seqOf s.pos ≠ r.n) (hu : u = { s.put Reg.REST_STAT.DSTATE 2 with
      rest := { s.rest with answered := (s.rest.round, s.pos) :: s.rest.answered, consentAt := some s.cyc, count := c + 1 } }) :
    s.visitToken c = u.sendDusk { u.duskOf 2 with count := c + 1 } [u.aftEnd] := by
  unfold visitToken
  extract_lets bad src w rs count src2 src3 x fin
  have hw : w = { s with rest.answered := (s.rest.round, s.pos) :: s.rest.answered } := answered_of_joint joint
  have hrs : rs = [] := by
    have : w.duskReasons = [] := by rw [hw]; exact reasons
    simp only [rs, this, bad, tw, Bool.false_and, Bool.false_eq_true, if_false, List.append_nil]
  clear_value rs w
  subst hrs hw
  have hpos : u.pos = s.pos := by
    subst hu
    exact (State.get_congr (t := s.put Reg.REST_STAT.DSTATE 2) rfl _).trans (s.get_put_ne _ _ _ (by decide))
  have hlast : (u.roster.any fun r => u.pos ≠ 0 && r.seqOf u.pos = r.n) = false := by
    have hroster : u.roster = some r := by rw [hu]; exact hr
    simp [hroster, hpos, last]
  have hcount : count = c + 1 := if_pos pos
  have hx : x = u := by
    rw [hu, ← hcount]
    rfl
  have hfin : fin = false := by rw [← hlast, ← hx]
  clear_value fin x
  subst hx hfin
  rw [← hcount]
  rfl

end State

end Sys2Proof.Machine
end

section
namespace Sys2Proof.Machine

set_option Elab.async false

namespace State

variable {s u : State}

/-! Writes of REST_CTRL (R363, R380). -/

theorem wakeReason_idle (h : s.dState < 2) : s.wakeReason = s := if_pos h

theorem restCtrl_keeps (s : State) (v : Nat) : ∀ f ∈ [Reg.REST_STAT.BUSY, Reg.REST_STAT.DSTATE],
    (s.storeWord Reg.REST_CTRL.EN.addr v).get f = s.get f := by
  have apart : ∀ f ∈ [Reg.REST_STAT.BUSY, Reg.REST_STAT.DSTATE], (∀ g ∈ fieldsAt Reg.REST_CTRL.EN.addr, f.key ≠ g.key)
      ∧ f.key ≠ Reg.GLB_STAT.NFAULT.key ∧ f.key ≠ Reg.REST_STAT.CFGDIRTY.key ∧ f.key ≠ Reg.REST_STAT.WIGN.key := by decide +kernel
  intro f hf
  obtain ⟨fields, nfault, dirty, wign⟩ := apart f hf
  exact storeWord_get_ne s _ v f fields nfault dirty fun w hw => by rwa [← Option.some.inj ((rfl : wignOf Reg.REST_CTRL.EN.addr = _).symm.trans hw)]

theorem requestDusk_refused {r : Roster} {twl : Bool} (hr : s.roster = some r) (lead : s.isLeader = false) :
    s.requestDusk twl = s.put Reg.REST_STAT.RES 2 := by
  simp only [requestDusk, hr, lead]
  rfl

theorem requestDusk_opened {r : Roster} {n : Nat} {m : DuskMsg} {w : State} (hr : s.roster = some r) (lead : s.isLeader = true) (idle : s.dState = 0)
    (seq : r.seqOf s.pos ≠ 1) (hn : n = s.nextDuskRound) (hm : m = { kind := 1, round := n })
    (hw : w = ({ ((s.put Reg.REST_STAT.RES 1).record 0x0401 (natBe 2 n ++ [0])).openDusk m with rest.seen := (1, n, s.pos) :: s.rest.seen } : State).noteDusk n) :
    s.requestDusk false = ({ w with rest.leadAt := some w.cyc }.put Reg.REST_STAT.DSTATE 1).sendDusk m [w.foreEnd] := by
  have hpos : w.pos = s.pos := by
    rw [hw, (noteDusk_shows _ _).2.1]
    exact s.get_put_ne Reg.REST_STAT.RES Reg.INAU_POS.POS 1 (by decide)
  have hcyc : w.cyc = s.cyc := by
    rw [hw]
    unfold noteDusk
    split
    · rfl
    · simp [openDusk]
  have called (x : State) (hx : x = w) :
      (if r.seqOf (({ x with rest.leadAt := some s.cyc } : State).put Reg.REST_STAT.DSTATE 1).pos = 1
        then (({ x with rest.leadAt := some s.cyc } : State).put Reg.REST_STAT.DSTATE 1).visitToken 0
        else (({ x with rest.leadAt := some s.cyc } : State).put Reg.REST_STAT.DSTATE 1).sendDusk m
          [(({ x with rest.leadAt := some s.cyc } : State).put Reg.REST_STAT.DSTATE 1).foreEnd])
      = ({ w with rest.leadAt := some w.cyc }.put Reg.REST_STAT.DSTATE 1).sendDusk m [w.foreEnd] := by
    subst hx
    have pos : (({ x with rest.leadAt := some s.cyc } : State).put Reg.REST_STAT.DSTATE 1).pos = s.pos := by
      rw [← hpos]
      exact get_put_ne _ Reg.REST_STAT.DSTATE Reg.INAU_POS.POS 1 (by decide)
    have fore : (({ x with rest.leadAt := some s.cyc } : State).put Reg.REST_STAT.DSTATE 1).foreEnd = x.foreEnd := by
      simp (disch := decide) only [foreEnd, orient, flag, get_put_ne]
      rfl
    rw [if_neg (by rw [pos]; exact seq), fore, hcyc]
  unfold requestDusk
  simp only [hr, lead, idle, Bool.not_true, Bool.false_eq_true, if_false, Bool.false_and, ne_eq, not_true]
  subst hm hn
  refine called _ ?_
  have pos : ((s.put Reg.REST_STAT.RES 1).record 0x0401 (natBe 2 s.nextDuskRound ++ natBe 1 (b2n false))).pos = s.pos := 
    s.get_put_ne Reg.REST_STAT.RES Reg.INAU_POS.POS 1 (by decide)
  rw [hw, pos]
  rfl

theorem dState_put {f : Fld} {v : Nat} (h : Reg.REST_STAT.DSTATE.key ≠ f.key) : (s.put f v).dState = s.dState := get_put_ne _ _ _ _ h

/-! The end of a save (R380). -/

theorem endAct_keeps (s : State) (a : Act) : (s.endAct a).rest = s.rest ∧ (s.endAct a).events = s.events ∧ (s.endAct a).img = s.img ∧ (s.endAct a).prg = s.prg
    ∧ (s.endAct a).recd = s.recd ∧ (s.endAct a).cmd = s.cmd ∧ (s.endAct a).hkp.running = s.hkp.running.erase a
    ∧ regsBut s (s.endAct a) [Reg.HKP_STAT.ACT, Reg.GLB_PACE.PBUSY] := by
  have act := regsBut_put (f := Reg.HKP_STAT.ACT) (regsBut_refl s [Reg.HKP_STAT.ACT, Reg.GLB_PACE.PBUSY]) (by simp)
  unfold endAct pacePending
  split
  · exact ⟨by simp [refreshAct], by simp [refreshAct], by simp [refreshAct], by simp [refreshAct], by simp [refreshAct], by simp [refreshAct],
      by simp [refreshAct, dropAct], regsBut_put (act _) (by simp) _⟩
  · exact ⟨rfl, rfl, rfl, rfl, rfl, rfl, rfl, act _⟩

theorem endAct_cmd (s : State) (a : Act) : (s.endAct a).cmd = s.cmd := by
  obtain ⟨-, -, -, -, -, cmd, -⟩ := s.endAct_keeps a
  exact cmd

/-- The first copy of a save with no command that waits (R380). -/
theorem saveDone_first {c : CfgCopy} {d : Nat} (saving : s.rest.saving = some (c, d)) (runs : s.hkp.running.contains .save = true)
    (first : s.rest.cfgA = none) (idle : s.cmd.slots = []) :
    s.saveDone = (((({ s with rest := { s.rest with saving := none, cfgA := some c } } : State).endAct .save).put Reg.REST_STAT.BUSY 0).put Reg.REST_STAT.CFGDIRTY 0
      |>.raise Reg.REST_IRQ.SAVED).record 0x040A := by
  have slots (u : State) (h : u.cmd.slots = []) : u.completeOp 0x41 0 0 = u := by
    unfold completeOp
    rw [h]
    rfl
  unfold saveDone
  simp only [saving, runs, first]
  refine slots _ ?_
  simp only [record_cmd, raise_cmd_slots, put_cmd]
  rw [endAct_cmd]
  exact idle

/-! Commit, retract and the end of a round (R366 to R369). -/

section
variable {m : DuskMsg} {e : Nat}

theorem takeVerdict2_commit {x : Int} (hu : u = s.sendDusk m [oppEnd e]) (commit : m.commit = true) (d : u.dState = 2) (round : m.round = u.rest.round)
    (map : u.mapAt u.now = some x) (early : us 100 ≤ wrapT (ofSecNs m.csec m.cns - x)) :
    s.takeVerdict2 e m = u.acceptCommit m.ccyc (ofSecNs m.csec m.cns) := by
  have late : ¬ wrapT (ofSecNs m.csec m.cns - x) < us 100 := by omega
  simp only [takeVerdict2, ← hu, commit, map, d, decide_eq_false late, round]
  rfl

theorem acceptCommit_follower {k : Nat} {tc x : Int} (map : s.mapAt s.now = some x) (follower : s.rest.leadAt = none) :
    s.acceptCommit k tc = (((({ s with rest := { s.rest with commit := some tc, tcs := ((s.now : Int) + wrapT (tc - x)).toNat :: s.rest.tcs } } : State).put
      Reg.REST_STAT.DSTATE 3).put Reg.REST_COMMIT.CCYC k).raise Reg.REST_IRQ.COMMIT).record 0x0405 (natBe 4 k) := by
  unfold acceptCommit
  simp only [map]
  refine if_neg ?_
  simp [follower]

theorem takeVerdict2_abort (hu : u = s.sendDusk m [oppEnd e]) (abort : m.commit = false) (shown : u.get Reg.REST_ROUND.ROUND ≠ m.round)
    (round : m.round = u.rest.round) : s.takeVerdict2 e m = u.endDusk (if m.reason = 13 then 4 else 1) := by
  simp only [takeVerdict2, ← hu, abort, if_neg shown]
  exact if_pos round

theorem takeRetract_held (hu : u = s.sendDusk m [oppEnd e]) (shown : u.get Reg.REST_ROUND.ROUND ≠ m.round) (round : m.round = u.rest.round)
    (d : u.dState = 4) (free : u.flag Reg.REST_STAT.HELD = false) : s.takeRetract e m = (u.put Reg.REST_STAT.HELD 1).record 0x040C := by
  simp only [takeRetract, ← hu, if_neg shown, ← round, d, free, ne_eq, not_true, if_false, if_true, Bool.false_eq_true]

theorem takeRetract_ends (hu : u = s.sendDusk m [oppEnd e]) (shown : u.get Reg.REST_ROUND.ROUND ≠ m.round) (round : m.round = u.rest.round)
    (d : u.dState ≠ 4) : s.takeRetract e m = u.endDusk 2 := by
  simp only [takeRetract, ← hu, if_neg shown, ← round, if_neg d, ne_eq, not_true, if_false]

end

theorem endDusk_follower {cause : Nat} (d : s.dState ≠ 0) (follower : s.rest.leadAt = none) :
    s.endDusk cause = ((((({ s with cmd.shut := false, rest := { s.rest with leadAt := none, consentAt := none, commit := none } } : State).put Reg.REST_STAT.DSTATE 0).put
      Reg.REST_STAT.HELD 0).bump Reg.REST_CANCEL.COUNT).raise Reg.REST_IRQ.CANCEL).record 0x0406 (natBe 4 cause) := by
  have led : ¬ s.rest.leadAt.isSome = true := by simp [follower]
  unfold endDusk
  rw [if_neg d]
  exact if_neg led

theorem newest_recorded (s : State) (c : Nat) (p : Bytes) : newest (s.record c p).settle = some c := by
  rw [newest, settle_events]
  simp [record]

theorem flag_raise {f : Fld} (h : f.width = 1) : (s.raise f).flag f = true := flag_of_get (by rw [get_raise_self, h]; rfl)

theorem noteDusk_new {n : Nat} (h : s.get Reg.REST_ROUND.ROUND ≠ n) :
    s.noteDusk n = (((s.put Reg.REST_ROUND.ROUND n).put Reg.REST_ROUND.VPOS 0).bump Reg.REST_ROUNDS.COUNT).raise Reg.REST_IRQ.ROUND := if_neg h

theorem members_nil (h : s.get Reg.BRDG_STACK.PRESENT = 0) : s.members = [] := by
  simp [members, h, bit]

end State

/-- A record of an event with its data leaves every register. -/
theorem regsBut_recordWith {s t : State} {fs : List Fld} {c : Nat} {p : Bytes} (h : regsBut s t fs) : regsBut s (t.record c p) fs := h

/-! The instructions of a Dusk round. -/

section
variable {s : State} (hs : s.awake = true)
include hs

theorem exec_restDuskWrite_awake (v : Word) : exec (.restDuskWrite v) s = .next (s.writeRestCtrl v.toNat).settle := by
  rw [exec_restDuskWrite, execRestDuskWrite, live_awake hs, done_eq]

theorem exec_restSaveWrite_awake (v : Word) : exec (.restSaveWrite v) s = .next (s.writeRestCtrl v.toNat).settle := by
  rw [exec_restSaveWrite, execRestSaveWrite, live_awake hs, done_eq]

theorem exec_configSaveComplete_awake : exec .configSaveComplete s = .next s.saveDone.settle := by
  rw [exec_configSaveComplete, execConfigSaveComplete, live_awake hs, done_eq]

theorem exec_duskCallReceived_awake (l : Lane) (f : Bytes) : exec (.duskCallReceived l f) s = .next (s.takeDusk l f 1 State.takeCall).settle := by
  rw [exec_duskCallReceived, execDuskCallReceived, live_awake hs, done_eq]

theorem exec_duskTokenReceived_awake (l : Lane) (f : Bytes) : exec (.duskTokenReceived l f) s = .next (s.takeDusk l f 2 State.takeToken2).settle := by
  rw [exec_duskTokenReceived, execDuskTokenReceived, live_awake hs, done_eq]

theorem exec_duskVerdictReceived_awake (l : Lane) (f : Bytes) :
    exec (.duskVerdictReceived l f) s = .next (s.takeDusk l f 3 fun s m => s.takeVerdict2 (endOf l) m).settle := by
  rw [exec_duskVerdictReceived, execDuskVerdictReceived, live_awake hs, done_eq]

theorem exec_duskRetractReceived_awake (l : Lane) (f : Bytes) :
    exec (.duskRetractReceived l f) s = .next (s.takeDusk l f 4 fun s m => s.takeRetract (endOf l) m).settle := by
  rw [exec_duskRetractReceived, execDuskRetractReceived, live_awake hs, done_eq]

end

/-- Settles O29: a DUSK frame is taken by the lemmas of `takeDusk`; each other form runs the model's function of it. -/
theorem duskRound : Obligations.DuskRound := by
  unfold Obligations.DuskRound
  refine ⟨?refused, ?opened, ?saveIgnored, ?save, ?saved, ?call, ?tokenAgain, ?token, ?veto, ?consent, ?commit, ?held, ?roundTimeout, ?consentTimeout,
    ?dimming, ?acts, ?verdictCopy, ?isolated, ?breaks, ?secondToken, ?tokenCopy, ?retract, ?abort, ?idle⟩
  case refused =>
    rintro v r u s hs rfl dusk save hr lead d
    have written : s.writeRestCtrl v.toNat = (s.storeWord Reg.REST_CTRL.EN.addr v.toNat).put Reg.REST_STAT.RES 2 := by
      simp only [State.writeRestCtrl, dusk, save, if_true, Bool.false_eq_true, if_false, State.requestDusk_refused hr lead]
      exact State.wakeReason_idle (by rwa [State.dState_put (by decide)])
    refine ⟨_, by rw [exec_restDuskWrite_awake hs, written], ?_⟩
    have stored {f : Fld} (h : State.rwFieldAt Reg.REST_CTRL.EN.addr f = true) := State.storeWord_get_of_rw h s v.toNat
    refine ⟨?_, ?_, ?_, ?_, by simp, by simp, regsBut_settle (regsBut_put (regsBut_refl _ _) (by simp) _), by simp [memSame]⟩
    · rw [State.settle_get_ne _ _ (by decide) (by decide), State.get_put_self]
      rfl
    · rw [State.settle_get_ne _ _ (by decide) (by decide), State.get_put_ne _ _ _ _ (by decide), State.restCtrl_keeps _ _ _ (by simp)]
    · rw [State.settle_get_ne _ _ (by decide) (by decide), State.get_put_ne _ _ _ _ (by decide), stored (by decide +kernel)]
    · rw [State.settle_get_ne _ _ (by decide) (by decide), State.get_put_ne _ _ _ _ (by decide), stored (by decide +kernel)]
  case opened =>
    intro v r n m u w s hs hu dusk twl save hr lead idle seq hn small shown hm hw
    have written : s.writeRestCtrl v.toNat = (({ w with rest.leadAt := some w.cyc }.put Reg.REST_STAT.DSTATE 1).sendDusk m [w.foreEnd]).wakeReason := by
      simp only [State.writeRestCtrl, ← hu, dusk, twl, save, if_true, Bool.false_eq_true, if_false, State.requestDusk_opened hr lead idle seq hn hm hw]
    rw [exec_restDuskWrite_awake hs, written]
    have new : w = ((({ ((u.put Reg.REST_STAT.RES 1).record 0x0401 (natBe 2 n ++ [0])).openDusk m with
        rest.seen := (1, n, u.pos) :: u.rest.seen } : State).put Reg.REST_ROUND.ROUND n).put Reg.REST_ROUND.VPOS 0
          |>.bump Reg.REST_ROUNDS.COUNT).raise Reg.REST_IRQ.ROUND := by
      refine hw.trans (State.noteDusk_new fun e => shown ?_)
      exact (u.get_put_ne Reg.REST_STAT.RES Reg.REST_ROUND.ROUND 1 (by decide)).symm.trans e
    refine ⟨rfl, ?_, ?_, ?_, ?_, ?_⟩
    · simp (disch := decide) only [new, State.raise_get_ne, State.bump, State.bumpBy, State.get_put_ne]
      exact u.get_put_self Reg.REST_STAT.RES 1
    · simp (disch := decide) only [new, State.raise_get_ne, State.bump, State.bumpBy, State.get_put_ne, State.get_put_self]
      exact Nat.mod_eq_of_lt small
    · simp (disch := decide) only [new, State.raise_get_ne, State.bump, State.bumpBy, State.get_put_ne, State.get_put_self]
      rfl
    · rw [new]
      exact State.flag_raise rfl
    · rw [new, newest]
      simp [State.openDusk, State.record]
  case saveIgnored =>
    rintro v u s hs rfl dusk save busy d
    have busy' : (s.storeWord Reg.REST_CTRL.EN.addr v.toNat).flag Reg.REST_STAT.BUSY = true := by
      rw [State.flag, State.restCtrl_keeps _ _ _ (by simp)]
      exact busy
    have written : s.writeRestCtrl v.toNat = (s.storeWord Reg.REST_CTRL.EN.addr v.toNat).put Reg.REST_STAT.WIGN 1 := by
      simp only [State.writeRestCtrl, dusk, save, if_true, Bool.false_eq_true, if_false, busy']
      refine State.wakeReason_idle ?_
      rw [State.dState_put (by decide), State.dState, State.restCtrl_keeps _ _ _ (by simp)]
      exact d
    refine ⟨_, by rw [exec_restSaveWrite_awake hs, written], ?_, ?_, by simp, by simp, regsBut_settle (regsBut_put (regsBut_refl _ _) (by simp) _), by simp [memSame]⟩
    · rw [State.settle_flag_ne (by decide) (by decide)]
      exact State.flag_of_get (State.get_put_self _ _ _)
    · rw [State.settle_flag_ne (by decide) (by decide), State.flag, State.get_put_ne _ _ _ _ (by decide)]
      exact busy'
  case save =>
    intro v u w s hs hu dusk save free hw
    have free' : (s.storeWord Reg.REST_CTRL.EN.addr v.toNat).flag Reg.REST_STAT.BUSY = false := by
      rw [State.flag, State.restCtrl_keeps _ _ _ (by simp)]
      exact free
    rw [exec_restSaveWrite_awake hs]
    simp only [State.writeRestCtrl, dusk, save, if_true, Bool.false_eq_true, if_false, free', State.saveStart, ← hu, ← hw]
  case saved =>
    intro c d s hs saving runs first idle
    obtain ⟨rest, events, img, prg, recd, -, hkp, regs⟩ :=
      State.endAct_keeps ({ s with rest := { s.rest with saving := none, cfgA := some c } } : State) .save
    refine ⟨_, by rw [exec_configSaveComplete_awake hs, State.saveDone_first saving runs first idle], ?_⟩
    generalize ({ s with rest := { s.rest with saving := none, cfgA := some c } } : State).endAct .save = u at *
    refine ⟨?_, ?_, ?_, State.newest_recorded _ _ _, by simpa using rest, by simpa using hkp, ?_, by simpa using img, by simpa using prg, by simpa using recd⟩
    · simp (disch := decide) [State.flag, State.settle_get_ne, State.raise_get_ne, State.get_put_ne]
    · simp (disch := decide) [State.flag, State.settle_get_ne, State.raise_get_ne]
    · simp (disch := decide) [State.flag, State.settle_get_ne]
    · have since : regsBut s u [Reg.REST_STAT.BUSY, Reg.REST_STAT.CFGDIRTY, Reg.REST_IRQ.SAVED, Reg.HKP_STAT.ACT, Reg.GLB_PACE.PBUSY] := fun f hf =>
        regs f fun h => hf (by simp only [List.map_cons, List.map_nil, List.mem_cons, List.not_mem_nil, or_false] at h ⊢; tauto)
      exact regsBut_settle (regsBut_recordWith (regsBut_raise (regsBut_put (regsBut_put since (by simp) _) (by simp) _) (by simp)))
  case call =>
    rintro l f m r u s hs rfl up ok cls ty len kind iso brk force gen new hr hq rfl
    rw [exec_duskCallReceived_awake hs, State.takeDusk_first (by decide) (State.duskHeard_of rfl up ok cls ty len kind) (State.duskNear_of iso brk force gen) new]
    exact congrArg (fun t : State => Host.Outcome.next t.settle) (State.takeCall_relayed hr hq)
  case tokenAgain =>
    rintro l f m s hs rfl up ok cls ty len kind iso brk force gen new tok answered
    refine ⟨((({ s with rest.tokens := State.duskToken l f :: s.rest.tokens } : State).duskSeen f).record 0x0402).settle, ?_, State.newest_recorded _ _ _, ?_,
      regsBut_settle (regsBut_recordWith (regsBut_of_regs (regsBut_refl s _) rfl)), ?_, ?_, ?_, ?_⟩
    · rw [exec_duskTokenReceived_awake hs, State.takeDusk_token (State.duskHeard_of rfl up ok cls ty len kind) (State.duskNear_of iso brk force gen) new tok]
      exact congrArg (fun t : State => Host.Outcome.next t.settle) (if_pos answered)
    · exact State.settle_rest _
    · exact State.settle_img _
    · exact State.settle_prg _
    · exact State.settle_recd _
    · exact State.settle_hkp _
  case token =>
    rintro l f m u s hs rfl up ok cls ty len kind iso brk force gen new tok answered rfl
    rw [exec_duskTokenReceived_awake hs, State.takeDusk_token (State.duskHeard_of rfl up ok cls ty len kind) (State.duskNear_of iso brk force gen) new tok]
    exact congrArg (fun t : State => Host.Outcome.next t.settle) (if_neg (Bool.eq_false_iff.mp answered))
  case veto =>
    rintro n c l w s reasons tw joint rfl
    exact State.visitToken_veto reasons tw joint
  case consent =>
    intro c r w s reasons tw hr pos last hw joint
    exact State.visitToken_consent reasons tw joint hr pos last hw
  case commit =>
    rintro l f m x w s hs rfl up ok cls ty len kind iso brk force gen new hw commit d round map early follower small
    refine ⟨_, by
      rw [exec_duskVerdictReceived_awake hs,
        State.takeDusk_first (by decide) (State.duskHeard_of rfl up ok cls ty len kind) (State.duskNear_of iso brk force gen) new]
      exact congrArg (fun t : State => Host.Outcome.next t.settle)
        ((State.takeVerdict2_commit hw commit d round map early).trans (State.acceptCommit_follower map follower)), ?_, ?_, ?_,
      State.newest_recorded _ _ _, ?_, ?_⟩
    · simp (disch := decide) only [State.settle_get_ne, State.record_get, State.raise_get_ne, State.get_put_ne, State.get_put_self]
      rfl
    · simp (disch := decide) only [State.settle_get_ne, State.record_get, State.raise_get_ne, State.get_put_self]
      exact Nat.mod_eq_of_lt small
    · rw [State.settle_flag_ne (by decide) (by decide)]
      exact State.flag_raise rfl
    · simp
    · refine regsBut_settle (regsBut_recordWith (regsBut_raise (regsBut_put (regsBut_put ?_ (by simp) _) (by simp) _) (by simp)))
      exact regsBut_of_regs (regsBut_refl w _) rfl
  case held =>
    rintro l f m w s hs rfl up ok cls ty len kind iso brk force gen new hw shown round d free
    refine ⟨_, by
      rw [exec_duskRetractReceived_awake hs,
        State.takeDusk_first (by decide) (State.duskHeard_of rfl up ok cls ty len kind) (State.duskNear_of iso brk force gen) new]
      exact congrArg (fun t : State => Host.Outcome.next t.settle) (State.takeRetract_held hw shown round d free), ?_,
      State.newest_recorded _ _ _, ?_, by simp, regsBut_settle (regsBut_recordWith (regsBut_put (regsBut_refl _ _) (by simp) _))⟩
    · rw [State.settle_flag_ne (by decide) (by decide)]
      exact State.flag_of_get (w.get_put_self Reg.REST_STAT.HELD 1)
    · simp (disch := decide) only [State.settle_get_ne, State.record_get, State.get_put_ne]
      exact d
  case roundTimeout =>
    rintro c m u s hs lead d late rfl rfl
    have due : (s.dState = 1 || s.dState = 2) && (s.tDusk : Int) ≤ sdiff32 s.cyc c := by
      simp [d, late]
    rw [exec_duskRoundTimeout, execDuskRoundTimeout, live_awake hs, done_eq, lead]
    exact congrArg (fun t : State => Host.Outcome.next t.settle) (if_pos due)
  case consentTimeout =>
    intro c s hs consent d late follower
    have due : s.dState = 2 && (s.tDusk + 2 : Int) ≤ sdiff32 s.cyc c := by
      simp [d, late]
    have nonzero : s.dState ≠ 0 := by omega
    refine ⟨_, by
      rw [exec_duskConsentTimeout, execDuskConsentTimeout, live_awake hs, done_eq, consent]
      exact congrArg (fun t : State => Host.Outcome.next t.settle) ((if_pos due).trans (State.endDusk_follower nonzero follower)), ?_, ?_, ?_, ?_,
      State.newest_recorded _ _ _, ?_, ?_, ?_, ?_, ?_, ?_⟩
    · simp (disch := decide) only [State.settle_get_ne, State.record_get, State.raise_get_ne, State.bump, State.bumpBy, State.get_put_ne, State.get_put_self]
      rfl
    · rw [State.settle_flag_ne (by decide) (by decide)]
      simp (disch := decide) only [State.flag, State.record_get, State.raise_get_ne, State.bump, State.bumpBy, State.get_put_ne, State.get_put_self]
      rfl
    · simp (disch := decide) only [State.settle_get_ne, State.record_get, State.raise_get_ne]
      rw [State.bump_get_self rfl, State.get_put_ne _ _ _ _ (by decide), State.get_put_ne _ _ _ _ (by decide)]
      rfl
    · rw [State.settle_flag_ne (by decide) (by decide)]
      exact State.flag_raise rfl
    · simp [follower]
    · refine regsBut_settle (regsBut_recordWith (regsBut_raise (regsBut_put (regsBut_put (regsBut_put ?_ (by simp) _) (by simp) _) (by simp) _) (by simp)))
      exact regsBut_of_regs (regsBut_refl s _) rfl
    · simp
    · simp
    · simp
    · simp
  case dimming =>
    intro n s hs due d alone
    have alone' : ((s.reach (n - us 100)).put Reg.REST_STAT.DSTATE 4).members = [] :=
      State.members_nil ((s.get_put_ne Reg.REST_STAT.DSTATE Reg.BRDG_STACK.PRESENT 4 (by decide)).trans alone)
    refine ⟨((s.reach (n - us 100)).put Reg.REST_STAT.DSTATE 4).settle, ?_, ?_, ?_, ?_, ?_, ?_, ?_⟩
    · rw [exec_duskDimming, execDuskDimming, live_awake hs, done_eq, due]
      simp only [d, ne_eq, not_true, if_false, alone', List.foldl_nil]
    · rw [State.settle_get_ne _ _ (by decide) (by decide), State.get_put_self]
      rfl
    · exact State.settle_now _
    · exact State.settle_rest _
    · exact State.settle_events _
    · exact regsBut_settle (regsBut_put (regsBut_reach (regsBut_refl _ _) _) (by simp) _)
    · exact ⟨State.settle_img _, State.settle_prg _, State.settle_recd _, State.settle_rest _, State.settle_hkp _⟩
  case acts =>
    intro v l f s hs
    exact ⟨exec_restDuskWrite_awake hs v, exec_restSaveWrite_awake hs v, exec_configSaveComplete_awake hs, exec_duskCallReceived_awake hs l f,
      exec_duskTokenReceived_awake hs l f, exec_duskVerdictReceived_awake hs l f, exec_duskRetractReceived_awake hs l f⟩
  case verdictCopy =>
    rintro l f m s hs rfl up ok cls ty len kind iso brk force gen seen
    rw [exec_duskVerdictReceived_awake hs, State.takeDusk_copy (by decide) (State.duskHeard_of rfl up ok cls ty len kind) (State.duskNear_of iso brk force gen) seen]
  case isolated =>
    rintro l f m s hs rfl up ok cls ty len kind iso
    rw [exec_duskTokenReceived_awake hs, State.takeDusk_isolated (State.duskHeard_of rfl up ok cls ty len kind) iso]
  case breaks =>
    rintro l f m s hs rfl up ok cls ty len kind iso brk
    rw [exec_duskCallReceived_awake hs, State.takeDusk_break (State.duskHeard_of rfl up ok cls ty len kind) iso brk]
  case secondToken =>
    rintro l f m s hs rfl up ok cls ty len kind iso brk force gen seen tok
    refine ⟨_, by rw [exec_duskTokenReceived_awake hs, State.takeDusk_token_again (State.duskHeard_of rfl up ok cls ty len kind) (State.duskNear_of iso brk force gen) seen tok],
      State.newest_recorded _ _ _, by simp, regsBut_settle (regsBut_recordWith (regsBut_refl _ _)), by simp [memSame]⟩
  case tokenCopy =>
    rintro l f m s hs rfl up ok cls ty len kind iso brk force gen seen tok
    rw [exec_duskTokenReceived_awake hs, State.takeDusk_token_copy (State.duskHeard_of rfl up ok cls ty len kind) (State.duskNear_of iso brk force gen) seen tok]
    rfl
  case retract =>
    rintro l f m w s hs rfl up ok cls ty len kind iso brk force gen new hw shown round d
    rw [exec_duskRetractReceived_awake hs, State.takeDusk_first (by decide) (State.duskHeard_of rfl up ok cls ty len kind) (State.duskNear_of iso brk force gen) new]
    exact congrArg (fun t : State => Host.Outcome.next t.settle) (State.takeRetract_ends hw shown round d)
  case abort =>
    rintro l f m w s hs rfl up ok cls ty len kind iso brk force gen new hw abort shown round
    rw [exec_duskVerdictReceived_awake hs, State.takeDusk_first (by decide) (State.duskHeard_of rfl up ok cls ty len kind) (State.duskNear_of iso brk force gen) new]
    exact congrArg (fun t : State => Host.Outcome.next t.settle) (State.takeVerdict2_abort hw abort shown round)
  case idle =>
    intro s hs
    refine ⟨fun none_led => ?_, fun none_given => ?_, fun no_commit => ?_, fun no_save => ?_⟩
    · rw [exec_duskRoundTimeout, execDuskRoundTimeout, live_awake hs, done_eq, none_led]
    · rw [exec_duskConsentTimeout, execDuskConsentTimeout, live_awake hs, done_eq, none_given]
    · rw [exec_duskDimming, execDuskDimming, live_awake hs, done_eq]
      cases due : s.commitAt with
      | none => rfl
      | some n =>
        have d : s.dState ≠ 3 := no_commit.resolve_left (by simp [due])
        simp only [if_pos d]
    · rw [exec_configSaveComplete_awake hs, State.saveDone]
      cases saving : s.rest.saving with
      | none => rfl
      | some c =>
        have rests : s.hkp.running.contains .save = false := no_save.resolve_left (by simp [saving])
        simp only [rests]
        rfl

end Sys2Proof.Machine
end

section
/-! SUPPORT. Reading the recorder: freeze, cursor, rate classes, operating time, checkpoint and mirror (R387, R390 to R392, R402 to R404). -/

namespace Sys2Proof.Machine

set_option Elab.async false

theorem liveRec_runs {s : State} (h : s.recRuns = true) (f : State → Host.Outcome State Fault Refusal) : liveRec s f = f s := by
  simp [liveRec, h]

/-- The answer of a read leaves the chip where what follows it sends nothing more. -/
theorem sent_rdata_then {s t : State} {a w : Nat} (h : t.outs = (s.emit (.rdata a w)).outs) : sent s t.settle [.rdata a w] :=
  Follows.sent_trans (sent_emit (sent_of_outs rfl) rfl rfl) ((Follows.of_outs h).trans (State.settle_follows _))

namespace State

variable {s : State}

/-! The freeze (R402). -/

theorem endFreeze_frozen {n cause : Nat} (h : s.recd.freeze = some n) :
    s.endFreeze cause = (((({ s with recd.freeze := none } : State).put Reg.RECD_STAT.FROZEN 0).record 0x0B07 (natBe 1 cause)).raise Reg.RECD_IRQ.FREEZE) := by
  unfold endFreeze
  rw [h]
  rfl

theorem writeFreeze_starts {v n : Nat} (hn : n = min 10 (v % 16)) (nonzero : n ≠ 0) (free : s.recd.freeze = none) :
    s.writeFreeze v = (((({ s.put Reg.RECD_FREEZE.SECS v with recd.freeze := some ((s.opTime + 256 * n) % 2 ^ 40) } : State).put Reg.RECD_STAT.FROZEN 1).record
      0x0B06 (natBe 1 n)).raise Reg.RECD_IRQ.FREEZE) := by
  have fresh : ¬ (s.put Reg.RECD_FREEZE.SECS v).recd.freeze.isSome = true := by simp [free]
  unfold writeFreeze
  rw [← hn]
  exact (if_neg nonzero).trans (if_neg fresh)

theorem newest_recorded_raise (s : State) (c : Nat) (p : Bytes) (f : Fld) : newest ((s.record c p).raise f).settle = some c := by
  rw [newest, settle_events, raise_events]
  simp [record]

/-! The read cursor (R403). -/

/-- A line without an error stands in the data registers (R403). -/
def lineShown (s : State) (n : Nat) (l : Bytes) : State :=
  ((((((s.put Reg.RECD_RD0.DATA (fieldAt l 0 4)).put Reg.RECD_RD1.DATA (fieldAt l 4 4)).put Reg.RECD_RD2.DATA (fieldAt l 8 4)).put
    Reg.RECD_RD3.DATA (fieldAt l 12 4)).put Reg.RECD_RSTAT.LINE n).put Reg.RECD_RSTAT.RES 0).put Reg.RECD_RSTAT.VALID 1

theorem showLine_clean {c : CurS} {b : RBlk} {l : Bytes} (hc : s.recd.cursor = some c) (hb : s.rblk c.phys = some b)
    (hl : (b.lines.drop (c.start + c.line)).head? = some l) : s.showLine 0 0 = s.lineShown c.line l := by
  simp only [showLine, hc, hb, Option.bind_some, hl]
  rfl

theorem lineShown_get (s : State) (n : Nat) (l : Bytes) :
    (s.lineShown n l).get Reg.RECD_RSTAT.VALID = 1 ∧ (s.lineShown n l).get Reg.RECD_RSTAT.RES = 0 ∧ (s.lineShown n l).get Reg.RECD_RSTAT.LINE = n % 2 ^ 7
      ∧ (s.lineShown n l).get Reg.RECD_RD0.DATA = fieldAt l 0 4 % 2 ^ 32 ∧ (s.lineShown n l).get Reg.RECD_RD1.DATA = fieldAt l 4 4 % 2 ^ 32
      ∧ (s.lineShown n l).get Reg.RECD_RD2.DATA = fieldAt l 8 4 % 2 ^ 32 ∧ (s.lineShown n l).get Reg.RECD_RD3.DATA = fieldAt l 12 4 % 2 ^ 32 := by
  unfold lineShown
  simp (disch := decide) only [get_put_ne, get_put_self, and_true]
  exact ⟨rfl, rfl⟩

@[simp] theorem lineShown_recd (s : State) (n : Nat) (l : Bytes) : (s.lineShown n l).recd = s.recd := by simp only [lineShown, put_recd]
@[simp] theorem lineShown_events (s : State) (n : Nat) (l : Bytes) : (s.lineShown n l).events = s.events := by simp only [lineShown, put_events]
@[simp] theorem lineShown_outs (s : State) (n : Nat) (l : Bytes) : (s.lineShown n l).outs = s.outs := by simp only [lineShown, put_outs]

/-- What the line shown reads after the step. -/
theorem lineShown_settle (s : State) (n : Nat) (l : Bytes) :
    (s.lineShown n l).settle.recd = s.recd ∧ (s.lineShown n l).settle.flag Reg.RECD_RSTAT.VALID = true ∧ (s.lineShown n l).settle.get Reg.RECD_RSTAT.RES = 0
      ∧ (s.lineShown n l).settle.get Reg.RECD_RSTAT.LINE = n % 2 ^ 7 ∧ (s.lineShown n l).settle.get Reg.RECD_RD0.DATA = fieldAt l 0 4 % 2 ^ 32
      ∧ (s.lineShown n l).settle.get Reg.RECD_RD1.DATA = fieldAt l 4 4 % 2 ^ 32 ∧ (s.lineShown n l).settle.get Reg.RECD_RD2.DATA = fieldAt l 8 4 % 2 ^ 32
      ∧ (s.lineShown n l).settle.get Reg.RECD_RD3.DATA = fieldAt l 12 4 % 2 ^ 32 ∧ (s.lineShown n l).settle.events = s.events := by
  obtain ⟨valid, res, line, rd0, rd1, rd2, rd3⟩ := s.lineShown_get n l
  refine ⟨?_, ?_, ?_, ?_, ?_, ?_, ?_, ?_, ?_⟩
  · rw [settle_recd, lineShown_recd]
  · rw [settle_flag_ne (by decide) (by decide), flag_of_get valid]
  · rw [settle_get_ne _ _ (by decide) (by decide), res]
  · rw [settle_get_ne _ _ (by decide) (by decide), line]
  · rw [settle_get_ne _ _ (by decide) (by decide), rd0]
  · rw [settle_get_ne _ _ (by decide) (by decide), rd1]
  · rw [settle_get_ne _ _ (by decide) (by decide), rd2]
  · rw [settle_get_ne _ _ (by decide) (by decide), rd3]
  · rw [settle_events, lineShown_events]

theorem cursorSelect_found {m : Bool} {q : Nat} {x : Nat × RBlk × Nat × Bytes} {l : Bytes} (hx : s.findRec m q = some x) (hb : s.rblk x.1 = some x.2.1)
    (hl : (x.2.1.lines.drop x.2.2.1).head? = some l) :
    s.cursorSelect m q 0 = ({ s with recd.cursor := some ⟨m, lineSeq x.2.2.2, x.1, x.2.1.bseq, x.2.2.1, 0⟩ } : State).lineShown 0 l := by
  unfold cursorSelect
  rw [hx]
  exact showLine_clean (c := ⟨m, lineSeq x.2.2.2, x.1, x.2.1.bseq, x.2.2.1, 0⟩) (b := x.2.1) rfl hb hl

theorem cursorSelect_gone {m : Bool} {q e : Nat} (hx : s.findRec m q = none) :
    s.cursorSelect m q e = (({ s with recd.cursor := none } : State).put Reg.RECD_RSTAT.RES 2).put Reg.RECD_RSTAT.VALID 0 := by
  unfold cursorSelect
  rw [hx]
  rfl

/-- Where its block still holds the record, the cursor steps on from the line it shows (R403). -/
theorem cursorAdvance_here {c : CurS} {b : RBlk} {e : Nat} (hc : s.recd.cursor = some c) (hb : s.rblk c.phys = some b) (seq : b.bseq = c.bseq)
    (state : b.bstate ≠ 15) : s.cursorAdvance e = State.cursorAdvance.cursorStep s e := by
  have here : (s.rblk c.phys).filter (fun b => b.bseq = c.bseq && b.bstate ≠ 15) = some b := by simp [hb, seq, state]
  simp only [cursorAdvance, hc, here]

theorem cursorStep_within {c : CurS} {x : Nat × RBlk × Nat × Bytes} {b : RBlk} {l : Bytes} (hc : s.recd.cursor = some c) (hx : s.findRec c.morning c.seq = some x)
    (within : c.line + 1 < lineCount x.2.2.2) (hb : s.rblk c.phys = some b) (hl : (b.lines.drop (c.start + (c.line + 1))).head? = some l) :
    State.cursorAdvance.cursorStep s 0 = ({ s with recd.cursor := some { c with line := c.line + 1 } } : State).lineShown (c.line + 1) l := by
  simp only [State.cursorAdvance.cursorStep, hc, hx]
  exact (if_pos within).trans (showLine_clean (c := { c with line := c.line + 1 }) (b := b) rfl hb hl)

theorem cursorStep_next {c : CurS} {x y : Nat × RBlk × Nat × Bytes} {e : Nat} (hc : s.recd.cursor = some c) (hx : s.findRec c.morning c.seq = some x)
    (last : lineCount x.2.2.2 ≤ c.line + 1) (hy : s.recAfter c.morning c.seq = some y) :
    State.cursorAdvance.cursorStep s e = s.setCursor c.morning y 0 e := by
  simp only [State.cursorAdvance.cursorStep, hc, hx, hy]
  exact if_neg (Nat.not_lt.mpr last)

/-! Rate classes by register (R392). -/

/-- RECD_CSEL holds what was written. -/
def classNamed (s : State) (v : Nat) : State := (s.put Reg.RECD_CSEL.WR (Reg.RECD_CSEL.WR.of v)).put Reg.RECD_CSEL.CLASS (Reg.RECD_CSEL.CLASS.of v)

theorem classNamed_get (s : State) (v : Nat) : (s.classNamed v).get Reg.RECD_CSEL.CLASS = Reg.RECD_CSEL.CLASS.of v
    ∧ (s.classNamed v).get Reg.RECD_CSEL.WR = Reg.RECD_CSEL.WR.of v ∧ (s.classNamed v).get Reg.RECD_CDATA.RATE = s.get Reg.RECD_CDATA.RATE
    ∧ (s.classNamed v).get Reg.RECD_CDATA.DEPTH = s.get Reg.RECD_CDATA.DEPTH := by
  unfold classNamed
  refine ⟨?_, ?_, ?_, ?_⟩
  · rw [get_put_self]
    exact Nat.mod_eq_of_lt (Nat.mod_lt _ (by decide))
  · rw [get_put_ne _ _ _ _ (by decide), get_put_self]
    exact Nat.mod_eq_of_lt (Nat.mod_lt _ (by decide))
  · rw [get_put_ne _ _ _ _ (by decide), get_put_ne _ _ _ _ (by decide)]
  · rw [get_put_ne _ _ _ _ (by decide), get_put_ne _ _ _ _ (by decide)]

theorem classSel_store {v c : Nat} (hc : c = Reg.RECD_CSEL.CLASS.of v) (wr : Reg.RECD_CSEL.WR.of v = 1) (limited : s.clsUnlimited c = false) :
    s.classSel v = { (s.classNamed v).dirtyCfg with recd.classes := tabPut c { s.cls c with
      rate := s.get Reg.RECD_CDATA.RATE, depth := max 1 (s.get Reg.RECD_CDATA.DEPTH),
      tok := min (s.cls c).tok (256 * max 1 (s.get Reg.RECD_CDATA.DEPTH)) } s.recd.classes } := by
  subst hc
  obtain ⟨cls, wr', rate, depth⟩ := s.classNamed_get v
  have flag : (s.classNamed v).flag Reg.RECD_CSEL.WR = true := flag_of_get (wr'.trans wr)
  have same (c : Nat) : (s.classNamed v).cls c = s.cls c := rfl
  have limited' : (s.classNamed v).clsUnlimited (Reg.RECD_CSEL.CLASS.of v) = false := limited
  unfold classSel
  rw [← classNamed]
  simp only [cls, rate, depth, flag, same, limited']
  rfl

theorem classSel_load {v c : Nat} (hc : c = Reg.RECD_CSEL.CLASS.of v) (rd : Reg.RECD_CSEL.WR.of v = 0) :
    s.classSel v = (((s.classNamed v).put Reg.RECD_CDATA.RATE (s.cls c).rate).put Reg.RECD_CDATA.DEPTH (s.cls c).depth).put Reg.RECD_CDATA.TOK ((s.cls c).tok / 256) := by
  subst hc
  obtain ⟨cls, wr', rate, depth⟩ := s.classNamed_get v
  have flag : (s.classNamed v).flag Reg.RECD_CSEL.WR = false := by simp [flag, wr', rd]
  have same (c : Nat) : (s.classNamed v).cls c = s.cls c := rfl
  unfold classSel
  rw [← classNamed]
  simp only [cls, flag, same]
  rfl

/-! The checkpoint (R391, R474). -/

/-- Every other activity ranks after the checkpoint. -/
theorem one_lt_rank {a : Act} (h : a ≠ .ckpt) : 1 < a.rank := by
  cases a <;> simp_all [Act.rank, Act.kind]

/-- With nothing running the checkpoint has its turn. -/
theorem actTurn_ckpt (h : s.hkp.running = []) : s.actTurn .ckpt = true := by
  have ahead : (s.hkp.waiting.any fun b => b ≠ .ckpt && b.rank ≤ Act.ckpt.rank && s.actFits b) = false := by
    refine List.any_eq_false.mpr fun b _ => ?_
    by_cases hb : b = .ckpt
    · simp [hb]
    · have : ¬ b.rank ≤ Act.ckpt.rank := Nat.not_le.mpr (one_lt_rank hb)
      simp [this]
  have fits : s.actFits .ckpt = true := by simp [actFits, h]
  rw [actTurn, ahead, fits]
  rfl

theorem dueCheckpoint_idle (idle : s.hkp.running = []) (first : s.recd.ckA = none) :
    s.dueCheckpoint = { s with recd := { s.recd with ckA := some (s.opTime, s.get Reg.RECD_PCC.VALUE), ckAt := s.opTime } } := by
  rw [dueCheckpoint, if_pos (actTurn_ckpt idle), writeCheckpoint, first]
  rfl

/-! The mirror (R404). -/

/-- The mirror has just failed (R404). -/
def mirrorFailed (s : State) : State :=
  (((s.put Reg.RECD_STAT.MIRFAIL 1).raise Reg.RECD_IRQ.MIR).put Reg.RECD_MIRSTAT.GAP 0).bump Reg.RECD_MIRERR.COUNT

theorem mirrorFault_first (h : s.flag Reg.RECD_STAT.MIRFAIL = false) :
    s.mirrorFault = { s.mirrorFailed.record 0x0B20 with recd.mirRetry := (s.opSec + 1) * 256 } := by
  have clock : (((s.put Reg.RECD_STAT.MIRFAIL 1).raise Reg.RECD_IRQ.MIR).put Reg.RECD_MIRSTAT.GAP 0).opSec = s.opSec := by
    simp [opSec, opTime]
  unfold mirrorFault
  rw [h]
  exact congrArg (fun n : Nat => { s.mirrorFailed.record 0x0B20 with recd.mirRetry := (n + 1) * 256 }) clock

theorem mirrorSkip_mirQ_nil (h : s.recd.mirQ = []) : s.mirrorSkip.recd.mirQ = [] := by
  simp [mirrorSkip, h]

theorem mirrorSkip_staged (s : State) : s.mirrorSkip.mirrorStaged = s.mirrorStaged := by
  simp (disch := decide) [mirrorSkip, mirrorStaged, recFailed, get_put_ne]

theorem mirrorCopy_off {b : Bool} (h : s.mirrorOn = false ∨ s.flag Reg.RECD_STAT.MIRFAIL = true) : s.mirrorCopy b = s := by
  rcases h with h | h <;> simp [mirrorCopy, h]

section
variable (on : s.mirrorOn = true) (ok : s.flag Reg.RECD_STAT.MIRFAIL = false)
include on ok

theorem mirrorCopy_fails (queued : s.recd.mirQ ≠ []) : s.mirrorCopy false = s.mirrorFault := by
  simp [mirrorCopy, on, ok, queued]

theorem mirrorCopy_queued {q : Nat} {l : List Nat} (queued : s.recd.mirQ ≠ []) (hq : s.mirrorSkip.recd.mirQ = q :: l) :
    s.mirrorCopy true = ({ s.mirrorSkip.mirrorAppend q with recd.mirQ := l } : State).put Reg.RECD_MIRSTAT.LAG (min 0xFFFF l.length) := by
  simp [mirrorCopy, on, ok, queued, hq]

theorem mirrorCopy_staged {r : StRec} {l : List StRec} (none_queued : s.recd.mirQ = []) (staged : s.mirrorStaged = r :: l) :
    s.mirrorCopy true = s.mirrorSkip.mirrorStage r := by
  simp [mirrorCopy, on, ok, none_queued, staged, mirrorSkip_mirQ_nil none_queued, mirrorSkip_staged]

end

theorem mirrorCopy_empty {b : Bool} (none_queued : s.recd.mirQ = []) (none_staged : s.mirrorStaged = []) : s.mirrorCopy b = s := by
  simp [mirrorCopy, none_queued, none_staged]

end State

/-- Settles O34: each form by the lemma of the function it runs. -/
theorem recorderReads : Obligations.RecorderReads := by
  unfold Obligations.RecorderReads
  have advance (e : Fin 3) (s : State) (hs : s.awake = true) :
      exec (.recordCursorAdvance e) s = .next ((s.emit (.rdata 0xB0054 (s.get Reg.RECD_RD3.DATA))).cursorAdvance e).settle := by
    rw [exec_recordCursorAdvance, execRecordCursorAdvance, live_awake hs, done_eq]
  have select (v : Word) (e : Fin 3) (s : State) (hs : s.awake = true) (idle : s.flag Reg.RECD_RSTAT.BUSY = false) :
      exec (.recordCursorSelect v e) s = .next ((s.put Reg.RECD_RSEL.SEQ v.toNat).cursorSelect (s.flag Reg.RECD_RAREA.MORNING) v.toNat e).settle := by
    rw [exec_recordCursorSelect, execRecordCursorSelect, live_awake hs, done_eq, idle]
    rfl
  have freeze (v : Word) (s : State) (hs : s.awake = true) : exec (.recdFreezePair v) s = .next (s.writeFreeze v.toNat).settle := by
    rw [exec_recdFreezePair, execRecdFreezePair, live_awake hs, done_eq]
  have store (v : Word) (s : State) (hs : s.awake = true) (idle : s.flag Reg.RECD_STAT.BUSY = false) :
      exec (.rateClassStore v) s = .next (s.classSel v.toNat).settle := by
    rw [exec_rateClassStore, execRateClassStore, live_awake hs, done_eq, idle]
    rfl
  have load (v : Word) (s : State) (hs : s.awake = true) (idle : s.flag Reg.RECD_STAT.BUSY = false) :
      exec (.rateClassLoad v) s = .next (s.classSel v.toNat).settle := by
    rw [exec_rateClassLoad, execRateClassLoad, live_awake hs, done_eq, idle]
    rfl
  have copy (b : Bool) (s : State) (hs : s.active = true) : exec (.mirrorCopy b) s = .next (s.mirrorCopy b).settle := by
    rw [exec_mirrorCopy, execMirrorCopy, liveActive_active hs, done_eq]
  have due (s : State) (hs : s.recRuns = true) : exec .checkpointWrite s = .next (s.reachOp ((s.recd.ckAt + 4096) % 2 ^ 40)).dueCheckpoint.settle := by
    rw [exec_checkpointWrite, execCheckpointWrite, liveRec_runs hs, done_eq]
  refine ⟨?freezes, ?thaws, ?selectGone, ?selectFound, ?advanceWithin, ?stores, ?loads, ?calibrates, ?checkpoint, ?mirrorFails, ?mirrorCopies, ?mirrorRetries,
    ?opsec, ?mirrorForms, ?mirrorStages, ?mirrorEmpty, ?freezeForms, ?freezeEnds, fun v e s hs idle => select v e s hs idle, ?selectBusy,
    fun e s hs => advance e s hs, ?classForms, fun s hs => due s hs, ?advanceNext⟩
  case freezes =>
    intro v n s hs hn nonzero free
    refine ⟨_, by rw [freeze v s hs, State.writeFreeze_starts hn nonzero free], ?_, ?_, ?_, State.newest_recorded_raise _ _ _ _, ?_, ?_, ?_, ?_, ?_, ?_⟩
    · simp
    · rw [State.settle_flag_ne (by decide) (by decide)]
      simp (disch := decide) only [State.flag, State.raise_get_ne, State.record_get, State.get_put_self]
      rfl
    · simp (disch := decide) only [State.settle_get_ne, State.raise_get_ne, State.record_get, State.get_put_ne]
      exact s.get_put_self Reg.RECD_FREEZE.SECS _
    · rw [State.settle_flag_ne (by decide) (by decide)]
      exact State.flag_raise rfl
    · refine regsBut_settle (regsBut_raise (regsBut_recordWith (regsBut_put ?_ (by simp) _)) (by simp))
      exact regsBut_of_regs (regsBut_put (regsBut_refl s _) (f := Reg.RECD_FREEZE.SECS) (by simp) v.toNat) rfl
    all_goals simp
  case thaws =>
    rintro n u s hs hn rfl
    obtain ⟨k, -, reached⟩ := s.reachOp_frame n
    have run : exec .freezeExpiry s = .next ((s.reachOp n).endFreeze 1).settle := by
      rw [exec_freezeExpiry, execFreezeExpiry, liveRec_runs hs, done_eq, hn]
    rw [reached] at run ⊢
    refine ⟨_, run.trans (congrArg (fun t : State => Host.Outcome.next t.settle) (State.endFreeze_frozen hn)), ?_, ?_, ?_,
      State.newest_recorded_raise _ _ _ _, ?_, ?_⟩
    · simp
    · simp
    · rw [State.settle_flag_ne (by decide) (by decide)]
      simp (disch := decide) [State.flag, State.raise_get_ne]
    · rw [State.settle_flag_ne (by decide) (by decide)]
      exact State.flag_raise rfl
    · refine regsBut_settle (regsBut_raise (regsBut_recordWith (regsBut_put ?_ (by simp) _)) (by simp))
      exact regsBut_of_regs (regsBut_refl s _) rfl
  case selectGone =>
    intro v e s hs idle gone
    refine ⟨_, by rw [select v e s hs idle, State.cursorSelect_gone gone], by simp, ?_, ?_, ?_, by simp, ?_⟩
    · rw [State.settle_flag_ne (by decide) (by decide)]
      simp [State.flag]
    · simp (disch := decide) only [State.settle_get_ne, State.get_put_ne, State.get_put_self]
      rfl
    · simp (disch := decide) only [State.settle_get_ne, State.get_put_ne]
      exact s.get_put_self Reg.RECD_RSEL.SEQ _
    · refine regsBut_settle (regsBut_put (regsBut_put ?_ (by simp) _) (by simp) _)
      exact regsBut_of_regs (regsBut_put (regsBut_refl s _) (f := Reg.RECD_RSEL.SEQ) (by simp) v.toNat) rfl
  case selectFound =>
    rintro v x l u s hs idle rfl hx hb hl
    refine ⟨_, (select v 0 s hs idle).trans (congrArg (fun t : State => Host.Outcome.next t.settle) (State.cursorSelect_found hx hb hl)), ?_⟩
    obtain ⟨recd, valid, res, line, rd0, rd1, rd2, rd3, events⟩ := State.lineShown_settle
      ({ s.put Reg.RECD_RSEL.SEQ v.toNat with recd.cursor := some ⟨s.flag Reg.RECD_RAREA.MORNING, lineSeq x.2.2.2, x.1, x.2.1.bseq, x.2.2.1, 0⟩ } : State) 0 l
    exact ⟨recd, valid, res, line, rd0, rd1, rd2, rd3, events⟩
  case advanceWithin =>
    intro c b x l s hs hc hb seq state hx within hl small
    have runs := (State.cursorAdvance_here (s := s.emit (.rdata 0xB0054 (s.get Reg.RECD_RD3.DATA))) (e := 0) hc hb seq state).trans
      (State.cursorStep_within hc hx within hb hl)
    obtain ⟨recd, valid, res, line, rd0, -, -, rd3, events⟩ := State.lineShown_settle
      ({ s.emit (.rdata 0xB0054 (s.get Reg.RECD_RD3.DATA)) with recd.cursor := some { c with line := c.line + 1 } } : State) (c.line + 1) l
    refine ⟨_, (advance 0 s hs).trans (congrArg (fun t : State => Host.Outcome.next t.settle) runs), ?_, recd, valid, res, ?_, rd0, rd3, events⟩
    · exact sent_rdata_then (State.lineShown_outs _ _ _)
    · exact line.trans (Nat.mod_eq_of_lt (by omega))
  case stores =>
    rintro v c d k s hs idle hc wr limited rfl rfl
    refine ⟨_, by rw [store v s hs idle, State.classSel_store hc wr limited], ?_, ?_, ?_, ?_⟩
    · simp [State.classNamed, State.dirtyCfg]
    · rw [State.settle_flag_ne (by decide) (by decide)]
      exact State.flag_of_get ((s.classNamed v.toNat).get_put_self Reg.REST_STAT.CFGDIRTY 1)
    · simp [State.classNamed, State.dirtyCfg]
    · refine regsBut_settle (regsBut_of_regs (u := (s.classNamed v.toNat).dirtyCfg) ?_ rfl)
      exact regsBut_put (regsBut_put (regsBut_put (regsBut_refl s _) (by simp) _) (by simp) _) (by simp) _
  case loads =>
    rintro v c k s hs idle hc rd rfl
    refine ⟨_, by rw [load v s hs idle, State.classSel_load hc rd], ?_, ?_, ?_, ?_, ?_, ?_⟩
    · simp (disch := decide) only [State.settle_get_ne, State.get_put_ne, State.get_put_self]
    · simp (disch := decide) only [State.settle_get_ne, State.get_put_ne, State.get_put_self]
    · simp (disch := decide) only [State.settle_get_ne, State.get_put_self]
    · simp [State.classNamed]
    · simp [State.classNamed]
    · refine regsBut_settle (regsBut_put (regsBut_put (regsBut_put ?_ (by simp) _) (by simp) _) (by simp) _)
      exact regsBut_put (regsBut_put (regsBut_refl s _) (by simp) _) (by simp) _
  case calibrates =>
    intro e s hs
    refine ⟨(s.calibrate (clampInt (-100) 100 e)).settle, ?_, by simp [State.calibrate], by simp [State.calibrate], by simp [State.calibrate], by simp [State.calibrate],
      regsBut_settle (regsBut_of_regs (regsBut_refl s _) rfl), by simp [memSame, State.calibrate]⟩
    rw [exec_operatingTimeCalibrate, execOperatingTimeCalibrate, live_awake hs, done_eq]
  case checkpoint =>
    rintro u s hs hu idle first
    refine ⟨_, (due s hs).trans (by rw [← hu, State.dueCheckpoint_idle idle first]), ?_⟩
    refine ⟨State.settle_now _, State.settle_recd _, State.settle_events _, regsBut_settle (regsBut_of_regs (regsBut_refl u _) rfl), State.settle_img _,
      State.settle_prg _, State.settle_rest _, State.settle_hkp _⟩
  case mirrorFails =>
    intro s hs on ok queued
    refine ⟨_, by rw [copy false s hs, State.mirrorCopy_fails on ok queued, State.mirrorFault_first ok], ?_, ?_, ?_, ?_, ?_, ?_, ?_⟩
    · rw [State.settle_flag_ne (by decide) (by decide)]
      refine (State.flag_of_get (s := s.mirrorFailed) ?_)
      simp (disch := decide) only [State.mirrorFailed, State.bump, State.bumpBy, State.raise_get_ne, State.get_put_ne, State.get_put_self]
      rfl
    · rw [State.settle_flag_ne (by decide) (by decide)]
      refine (State.flag_of_get (s := s.mirrorFailed) ?_)
      simp (disch := decide) only [State.mirrorFailed, State.bump, State.bumpBy, State.get_raise_self, State.get_put_ne]
      rfl
    · rw [State.settle_get_ne _ _ (by decide) (by decide)]
      refine (State.get_congr (t := s.mirrorFailed) rfl _).trans ?_
      simp (disch := decide) only [State.mirrorFailed, State.bump, State.bumpBy, State.get_put_ne, State.get_put_self]
      rfl
    · rw [State.settle_get_ne _ _ (by decide) (by decide)]
      refine (State.get_congr (t := s.mirrorFailed) rfl _).trans ?_
      rw [State.mirrorFailed, State.bump_get_self rfl]
      simp (disch := decide) only [State.raise_get_ne, State.get_put_ne]
    · rw [newest, State.settle_events]
      simp [State.record]
    · simp [State.mirrorFailed]
    · refine regsBut_settle (regsBut_of_regs (u := s.mirrorFailed) ?_ rfl)
      exact regsBut_put (regsBut_put (regsBut_raise (regsBut_put (regsBut_refl s _) (by simp) _) (by simp)) (by simp) _) (by simp) _
  case mirrorCopies =>
    rintro q l u s hs on ok queued rfl hq
    rw [copy true s hs, State.mirrorCopy_queued on ok queued hq]
  case mirrorRetries =>
    rintro u s hs on failed rfl
    constructor <;> rw [exec_mirrorRetry, execMirrorRetry, liveActive_active hs, done_eq, on, failed] <;> rfl
  case opsec =>
    intro s hs
    have run : exec .recdOpsecRead s = .next ((s.put Reg.RECD_OPFRAC.FRAC (s.opTime % 256)).emit (.rdata 0xB0018 (s.opTime / 256))).settle := by
      rw [exec_recdOpsecRead, execRecdOpsecRead, live_awake hs, done_eq]
      rfl
    refine ⟨_, run, ?_, ?_, by simp, regsBut_settle (regsBut_emit (regsBut_put (regsBut_refl s _) (by simp) _) _), by simp [memSame]⟩
    · exact sent_rdata (Follows.of_outs rfl) rfl
    · simp (disch := decide) only [State.settle_get_ne, State.emit_get', State.get_put_self]
      exact Nat.mod_mod _ _
  case mirrorForms =>
    intro b s hs
    refine ⟨copy b s hs, fun off => ?_, fun off => by rw [copy b s hs, State.mirrorCopy_off off]⟩
    rw [exec_mirrorRetry, execMirrorRetry, liveActive_active hs, done_eq]
    rcases off with off | off <;> simp [off]
  case mirrorStages =>
    rintro r l u s hs on ok none_queued staged rfl
    rw [copy true s hs, State.mirrorCopy_staged on ok none_queued staged]
  case mirrorEmpty =>
    intro s hs none_queued none_staged
    rw [copy true s hs, State.mirrorCopy_empty none_queued none_staged]
  case freezeForms =>
    intro v s hs
    refine ⟨freeze v s hs, fun free => ?_⟩
    rw [exec_freezeExpiry, execFreezeExpiry, liveRec_runs (by simp [State.recRuns, hs]), done_eq, free]
  case freezeEnds =>
    intro v n s hs zero frozen
    have ends : s.writeFreeze v.toNat = (((({ s.put Reg.RECD_FREEZE.SECS v.toNat with recd.freeze := none } : State).put Reg.RECD_STAT.FROZEN 0).record
        0x0B07 (natBe 1 2)).raise Reg.RECD_IRQ.FREEZE) := by
      have none_asked : min 10 (v.toNat % 16) = 0 := by rw [zero]; rfl
      unfold State.writeFreeze
      rw [none_asked]
      exact State.endFreeze_frozen (s := s.put Reg.RECD_FREEZE.SECS v.toNat) frozen
    refine ⟨_, by rw [freeze v s hs, ends], ?_, ?_, State.newest_recorded_raise _ _ _ _, ?_, ?_⟩
    · simp
    · rw [State.settle_flag_ne (by decide) (by decide)]
      simp (disch := decide) [State.flag, State.raise_get_ne]
    · rw [State.settle_flag_ne (by decide) (by decide)]
      exact State.flag_raise rfl
    · refine regsBut_settle (regsBut_raise (regsBut_recordWith (regsBut_put ?_ (by simp) _)) (by simp))
      exact regsBut_of_regs (regsBut_put (regsBut_refl s _) (f := Reg.RECD_FREEZE.SECS) (by simp) v.toNat) rfl
  case selectBusy =>
    intro v e s hs busy
    rw [exec_recordCursorSelect, execRecordCursorSelect, live_awake hs, done_eq, busy]
    rfl
  case classForms =>
    intro v s hs
    refine ⟨fun idle => ⟨store v s hs idle, load v s hs idle⟩, fun busy => ⟨?_, ?_⟩⟩
    · rw [exec_rateClassStore, execRateClassStore, live_awake hs, done_eq, busy]
      rfl
    · rw [exec_rateClassLoad, execRateClassLoad, live_awake hs, done_eq, busy]
      rfl
  case advanceNext =>
    rintro c b x y u s hs hc hb seq state hx last hy rfl
    rw [advance 0 s hs]
    exact congrArg (fun t : State => Host.Outcome.next t.settle)
      ((State.cursorAdvance_here (s := s.emit (.rdata 0xB0054 (s.get Reg.RECD_RD3.DATA))) hc hb seq state).trans (State.cursorStep_next hc hx last hy))

end Sys2Proof.Machine
end

section
/-! SUPPORT. What the recorder keeps while records are staged and written, and the forms of staging and of a line written (R385 to R401). -/

namespace Sys2Proof.Machine

set_option Elab.async false

/-- The fields of the retirement count and its flag. -/
def retireFields : List Fld := [Reg.RECD_RETIRE.COUNT, Reg.RECD_IRQ.RETIRE]

/-- Staging a record, or following the blocks, keeps the scan, the torn record, the mirror's place in staging, the retirement count, and every memory
outside the recorder. -/
structure RecordKept (s t : State) : Prop where
  scan : t.recd.scan = s.recd.scan
  torn : t.recd.torn = s.recd.torn
  mirStage : t.recd.mirStage = s.recd.mirStage
  img : t.img = s.img
  prg : t.prg = s.prg
  rest : t.rest = s.rest
  hkp : t.hkp = s.hkp
  retire : ∀ g ∈ retireFields, t.get g = s.get g

namespace RecordKept

variable {s t u : State}

theorem refl (s : State) : RecordKept s s := ⟨rfl, rfl, rfl, rfl, rfl, rfl, rfl, fun _ _ => rfl⟩

theorem trans (h : RecordKept s t) (k : RecordKept t u) : RecordKept s u :=
  ⟨k.scan.trans h.scan, k.torn.trans h.torn, k.mirStage.trans h.mirStage, k.img.trans h.img, k.prg.trans h.prg, k.rest.trans h.rest, k.hkp.trans h.hkp,
    fun g hg => (k.retire g hg).trans (h.retire g hg)⟩

theorem put {f : Fld} {v : Nat} (k : RecordKept s t) (h : ∀ g ∈ retireFields, g.key ≠ f.key) : RecordKept s (t.put f v) :=
  k.trans ⟨by simp, by simp, by simp, by simp, by simp, by simp, by simp, fun g hg => t.get_put_ne f g v (h g hg)⟩

theorem raise {f : Fld} (k : RecordKept s t) (h : ∀ g ∈ retireFields, g.key ≠ f.key) : RecordKept s (t.raise f) :=
  k.trans ⟨by simp, by simp, by simp, by simp, by simp, by simp, by simp, fun g hg => t.raise_get_ne f g (h g hg)⟩

theorem fault {f : Fld} (k : RecordKept s t) (h : ∀ g ∈ retireFields, g.key ≠ f.key) : RecordKept s (t.fault f) :=
  k.trans ⟨by simp, by simp, by simp, by simp, by simp, by simp, by simp, fun g hg =>
    t.fault_get_ne f g (h g hg) ((by decide : ∀ g ∈ retireFields, g.key ≠ Reg.GLB_STAT.NFAULT.key) g hg)
      ((by decide : ∀ g ∈ retireFields, g.key ≠ Reg.GLB_IRQ.FAULT.key) g hg)⟩

theorem record {c : Nat} {p : Bytes} (k : RecordKept s t) : RecordKept s (t.record c p) :=
  k.trans ⟨rfl, rfl, rfl, rfl, rfl, rfl, rfl, fun _ _ => rfl⟩

theorem upd {r : RecS} (k : RecordKept s t) (scan : r.scan = t.recd.scan) (torn : r.torn = t.recd.torn) (mirStage : r.mirStage = t.recd.mirStage) :
    RecordKept s { t with recd := r } := k.trans ⟨scan, torn, mirStage, rfl, rfl, rfl, rfl, fun _ _ => rfl⟩

theorem refreshStage (k : RecordKept s t) : RecordKept s t.refreshStage := put (put k (by decide)) (by decide)

theorem loseRec {r : StRec} (k : RecordKept s t) : RecordKept s (t.loseRec r) := raise (put (upd k rfl rfl rfl) (by decide)) (by decide)

theorem stageRec {r : StRec} (k : RecordKept s t) : RecordKept s (t.stageRec r) := by
  unfold State.stageRec
  split
  · exact refreshStage (upd k rfl rfl rfl)
  · exact loseRec k

theorem toMaster {r : StRec} (k : RecordKept s t) : RecordKept s (t.toMaster r) :=
  k.trans ⟨by simp [State.toMaster, State.stackMsg], by simp [State.toMaster, State.stackMsg], by simp [State.toMaster, State.stackMsg],
    by simp [State.toMaster, State.stackMsg], by simp [State.toMaster, State.stackMsg], by simp [State.toMaster, State.stackMsg],
    by simp [State.toMaster, State.stackMsg], fun g _ => by simp [State.toMaster, State.stackMsg]⟩

theorem stageOwn {r : StRec} (k : RecordKept s t) : RecordKept s (t.stageOwn r) := by
  unfold State.stageOwn
  split
  · exact stageRec k
  · exact toMaster k

theorem putFirst {r : StRec} (k : RecordKept s t) : RecordKept s (t.putFirst r) := by
  unfold State.putFirst
  split
  · exact upd k rfl rfl rfl
  · exact toMaster k

theorem stageSuppressed {c : Nat} (k : RecordKept s t) : RecordKept s (t.stageSuppressed c) := by
  unfold State.stageSuppressed
  split
  · exact k
  · exact stageOwn (upd k rfl rfl rfl)

theorem foldl {α : Type} {op : State → α → State} (step : ∀ {t : State} {a : α}, RecordKept s t → RecordKept s (op t a)) (l : List α) :
    ∀ {t : State}, RecordKept s t → RecordKept s (l.foldl op t) := by
  induction l with
  | nil => exact id
  | cons a l ih => exact fun k => ih (step k)

theorem refreshRecState (k : RecordKept s t) : RecordKept s t.refreshRecState := by
  unfold State.refreshRecState
  split
  · exact k
  · exact put k (by decide)

theorem refreshBlocks (k : RecordKept s t) : RecordKept s t.refreshBlocks :=
  put (put (put (put k (by decide)) (by decide)) (by decide)) (by decide)

theorem endMorning (k : RecordKept s t) : RecordKept s t.endMorning := by
  unfold State.endMorning
  exact refreshRecState (upd (putFirst (put k (by decide))) rfl rfl rfl)

theorem recFail (k : RecordKept s t) : RecordKept s t.recFail := by
  unfold State.recFail
  exact fault (raise (stageOwn (put (upd k rfl rfl rfl) (by decide))) (by decide)) (by decide)

theorem countAway (k : RecordKept s t) : RecordKept s t.countAway := by
  unfold State.countAway
  split
  · exact k
  · exact raise (put (upd k rfl rfl rfl) (by decide)) (by decide)

end RecordKept

/-- The scan has ended, with nothing torn owed any more; the memories outside the recorder stand (R399). -/
structure ScanEnded (s t : State) : Prop where
  scan : t.recd.scan = false
  torn : t.recd.torn = none
  mirStage : t.recd.mirStage = 0
  img : t.img = s.img
  prg : t.prg = s.prg
  rest : t.rest = s.rest
  hkp : t.hkp = s.hkp

theorem ScanEnded.kept {s t u : State} (h : ScanEnded s t) (k : RecordKept t u) : ScanEnded s u :=
  ⟨k.scan.trans h.scan, k.torn.trans h.torn, k.mirStage.trans h.mirStage, k.img.trans h.img, k.prg.trans h.prg, k.rest.trans h.rest, k.hkp.trans h.hkp⟩

/-- A block has been retired: it is counted and flagged (R397). -/
structure RetireCounted (s t : State) : Prop where
  count : t.get Reg.RECD_RETIRE.COUNT = min (s.get Reg.RECD_RETIRE.COUNT + 1) 0xFFFFFFFF
  flag : t.flag Reg.RECD_IRQ.RETIRE = true

theorem RetireCounted.kept {s t u : State} (h : RetireCounted s t) (k : RecordKept t u) : RetireCounted s u :=
  ⟨(k.retire _ (by decide)).trans h.count, by rw [State.flag, k.retire _ (by decide)]; exact h.flag⟩

/-- What stands outside the recorder. -/
structure OutsideKept (s t : State) : Prop where
  img : t.img = s.img
  prg : t.prg = s.prg
  rest : t.rest = s.rest
  hkp : t.hkp = s.hkp

namespace State

variable {s : State}

theorem scanBlocks_outside (s : State) : OutsideKept s s.scanBlocks := by
  unfold scanBlocks
  extract_lets _ _ _ _ _ _ newest _
  clear_value newest
  cases newest with
  | none => exact ⟨rfl, rfl, rfl, rfl⟩
  | some e => exact ⟨rfl, rfl, rfl, rfl⟩

theorem scanComplete_ends (scans : s.recd.scan = true) (idle : s.recd.job = .idle) (runs : s.recFailed = false) : ScanEnded s s.scanComplete := by
  unfold scanComplete
  rw [if_neg (by simp [scans])]
  extract_lets found counted waiting _ u session torn supp _ lost staged _ v w
  have outside : OutsideKept s counted := by
    have hfound : OutsideKept s found := by
      simp only [found, idle, runs]
      exact scanBlocks_outside s
    have k := RecordKept.countAway (RecordKept.refl found)
    exact ⟨k.img.trans hfound.img, k.prg.trans hfound.prg, k.rest.trans hfound.rest, k.hkp.trans hfound.hkp⟩
  have hsession : RecordKept u session := by
    simp only [session]
    split
    · exact RecordKept.stageOwn (RecordKept.refl u)
    · exact RecordKept.refl u
  have htorn : RecordKept u torn := by
    simp only [torn]
    split
    · exact RecordKept.put (RecordKept.stageOwn hsession) (by decide)
    · exact hsession
  have hsupp : RecordKept u supp := RecordKept.foldl RecordKept.stageSuppressed _ htorn
  have hlost : RecordKept u lost := by
    simp only [lost]
    split
    · exact RecordKept.stageOwn (RecordKept.upd hsupp rfl rfl rfl)
    · exact hsupp
  have hstaged : RecordKept u staged := RecordKept.foldl RecordKept.stageRec _ hlost
  have ended : ScanEnded s v := ⟨hstaged.scan, rfl, hstaged.mirStage, hstaged.img.trans outside.img, hstaged.prg.trans outside.prg,
    hstaged.rest.trans outside.rest, hstaged.hkp.trans outside.hkp⟩
  have followed : RecordKept v w := RecordKept.refreshBlocks (RecordKept.refreshRecState (RecordKept.refl v))
  split
  · exact ended.kept (RecordKept.recFail followed)
  · exact ended.kept followed

/-! A retired block (R397). -/

theorem retire_counts (s : State) (a p i k : Nat) (x : List Bytes) : RetireCounted s (s.retire a p i k x) := by
  unfold retire
  extract_lets _ cut again b _ retired counted second first n hb _ last dropped
  have hcut : RecordKept s cut := by
    simp only [cut]
    split
    · exact RecordKept.refreshStage (RecordKept.upd (RecordKept.refl s) rfl rfl rfl)
    · exact RecordKept.upd (RecordKept.refl s) rfl rfl rfl
    · exact RecordKept.refl s
  have hretired : RecordKept s retired := RecordKept.upd hcut rfl rfl rfl
  have hcounted : RetireCounted s counted := by
    refine ⟨?_, flag_raise rfl⟩
    rw [raise_get_ne _ _ _ (by decide), bump_get_self rfl, hretired.retire _ (by decide)]
  have hsecond : RecordKept counted second := by
    exact iteInduction (motive := RecordKept counted) (fun _ => RecordKept.record (RecordKept.refl counted)) fun _ => RecordKept.refl counted
  split
  · extract_lets r own _ spare
    refine (hcounted.kept hsecond).kept (RecordKept.refreshBlocks ?_)
    have hspare : RecordKept second spare := RecordKept.upd (RecordKept.putFirst (RecordKept.refl second)) rfl rfl rfl
    split
    · exact RecordKept.record hspare
    · exact hspare
  · have hlast : RecordKept second last := RecordKept.upd (RecordKept.refl second) rfl rfl rfl
    have hdropped : RecordKept second dropped := RecordKept.refreshBlocks (RecordKept.record hlast)
    refine (hcounted.kept hsecond).kept ?_
    split
    · exact RecordKept.refreshBlocks (RecordKept.endMorning hlast)
    · split
      · exact RecordKept.recFail hdropped
      · exact hdropped

/-! Staging (R392 to R395). -/

theorem stageRec_of_fits {r : StRec} (fits : s.stageFits r = true) : s.stageRec r = ({ s with recd.stage := s.recd.stage ++ [r] } : State).refreshStage := if_pos fits

theorem stageRec_of_full {r : StRec} (full : s.stageFits r = false) : s.stageRec r = s.loseRec r := if_neg (by simp [full])

theorem refreshStage_regsBut (s : State) : regsBut s s.refreshStage [Reg.RECD_STAGE.FILL, Reg.RECD_STAGE.PEAK] :=
  regsBut_put (regsBut_put (regsBut_refl s _) (by simp) _) (by simp) _

theorem stageRec_staged {r : StRec} (fits : s.stageFits r = true) : (s.stageRec r).recd = { s.recd with stage := s.recd.stage ++ [r] }
    ∧ (s.stageRec r).events = s.events ∧ regsBut s (s.stageRec r) [Reg.RECD_STAGE.FILL, Reg.RECD_STAGE.PEAK] := by
  rw [stageRec_of_fits fits]
  exact ⟨rfl, rfl, fun g hg => refreshStage_regsBut _ g hg⟩

theorem stageRec_lost {r : StRec} (full : s.stageFits r = false) : (s.stageRec r).recd = { s.recd with lost := some (noteMissed s.recd.lost r.code r.ot) }
    ∧ (s.stageRec r).get Reg.RECD_LOST.COUNT = min (s.get Reg.RECD_LOST.COUNT + 1) 0xFFFFFFFF ∧ (s.stageRec r).flag Reg.RECD_IRQ.LOST = true
    ∧ (s.stageRec r).events = s.events ∧ regsBut s (s.stageRec r) [Reg.RECD_LOST.COUNT, Reg.RECD_IRQ.LOST] := by
  rw [stageRec_of_full full]
  refine ⟨by simp [loseRec], ?_, flag_raise rfl, by simp [loseRec], ?_⟩
  · simp only [loseRec]
    rw [raise_get_ne _ _ _ (by decide), bump_get_self rfl]
    rfl
  · exact regsBut_raise (regsBut_put (regsBut_of_regs (regsBut_refl s _) rfl) (by simp) _) (by simp)

/-- The record that an event becomes (R388). -/
def stagedOf (s : State) (e : EventRec) : StRec := ⟨e.code, e.body, e.ot, s.get Reg.RECD_PCC.VALUE % 2 ^ 24⟩

theorem stageEvent_master {e : EventRec} {l : List EventRec} (he : s.events = e :: l) (master : s.stackId = 0) :
    s.stageEvent = ({ s with events := l } : State).stageIn (devClass e.code) (s.stagedOf e) := by
  unfold stageEvent
  rw [he]
  exact if_pos master

theorem stageEvent_member {e : EventRec} {l : List EventRec} (he : s.events = e :: l) (member : s.stackId ≠ 0) :
    s.stageEvent = ({ s with events := l } : State).toMaster (s.stagedOf e) := by
  unfold stageEvent
  rw [he]
  exact if_neg member

theorem stageIn_unlimited {c : Nat} {r : StRec} (free : s.clsUnlimited c = true) : s.stageIn c r = s.stageRec r := by
  simp [stageIn, clsAdmits, takeToken, free]

theorem stageIn_suppressed {c : Nat} {r : StRec} (limited : s.clsUnlimited c = false) (empty : (s.cls c).tok < 256) :
    s.stageIn c r = s.suppress c r.code r.ot := by
  have admits : s.clsAdmits c = false := by simp [clsAdmits, limited, empty]
  simp [stageIn, admits]

theorem takeToken_limited {c : Nat} (limited : s.clsUnlimited c = false) :
    s.takeToken c = { s with recd.classes := tabPut c { s.cls c with tok := (s.cls c).tok - 256 } s.recd.classes } := if_neg (by simp [limited])

theorem stageIn_limited {c : Nat} {r : StRec} (limited : s.clsUnlimited c = false) (token : 256 ≤ (s.cls c).tok) (none_owed : s.recd.supp = []) :
    s.stageIn c r = (s.takeToken c).stageRec r := by
  have admits : s.clsAdmits c = true := by simp [clsAdmits, token]
  have owed : s.stageSuppressed c = s := by simp [stageSuppressed, none_owed, tabGet]
  simp [stageIn, admits, limited, owed]

theorem stageSuppressed_owed {c : Nat} {m : Missed} (owed : tabGet c s.recd.supp = some m) :
    s.stageSuppressed c = ({ s with recd.supp := tabErase c s.recd.supp } : State).stageOwn (s.recRecord 0x0B03 (m.body c)) := by
  simp only [stageSuppressed, owed]

theorem reachOp_recd (s : State) (n : Nat) : (s.reachOp n).recd = s.recd := by
  obtain ⟨k, -, reached⟩ := s.reachOp_frame n
  rw [reached]

/-! Lines written (R385, R386, R397). -/

theorem writeStart_idle (scans : s.recd.scan = false) (runs : s.recFailed = false) (idle : s.recd.job = .idle) : s.writeStart = s.place :=
  if_neg (by simp [scans, runs, idle])

theorem writeStart_none (h : s.recd.scan = true ∨ s.recFailed = true ∨ s.headRec = none) : s.writeStart = s := by
  unfold writeStart
  refine ite_eq_left_iff.mpr fun goes => ?_
  have none_next : s.headRec = none := by
    refine (h.resolve_left fun scans => goes ?_).resolve_left fun failed => goes ?_
    · simp [scans]
    · simp [failed]
  rw [place, none_next]

section
variable {r : StRec} {l : List StRec} {a p : Nat} {b : RBlk} (again : s.recd.again = []) (stage : s.recd.stage = r :: l) (cur : s.recd.cur = some (a, p))
  (blk : s.rblk p = some b)
include again stage cur blk

theorem place_fits (fits : b.lines.length + r.lines ≤ 255) : s.place = { s.put Reg.RECD_NEXTSEQ.SEQ (s.nextRecSeq + 1) with
    recd := { s.recd with job := .write r s.nextRecSeq (r.toLines s.nextRecSeq), lineAt := s.now + ns 400 } } := by
  have head : s.headRec = some (r, none) := by simp [headRec, again, stage]
  simp only [place, head, cur, blk]
  refine (if_pos fits).trans ?_
  rw [← cur]
  rfl

theorem place_closes (full : 255 < b.lines.length + r.lines) (room : b.lines.length < 255) :
    s.place = { s with recd := { s.recd with job := .endLine, lineAt := s.now + ns 400 } } := by
  have head : s.headRec = some (r, none) := by simp [headRec, again, stage]
  simp only [place, head, cur, blk]
  exact (if_neg (Nat.not_le.mpr full)).trans (if_pos room)

end

section
variable {r : StRec} {x : Bytes} {l : List Bytes} {q a p : Nat} {b : RBlk} (job : s.recd.job = .write r q (x :: l)) (cur : s.recd.cur = some (a, p))
  (blk : s.rblk p = some b)
include job cur blk

theorem lineWritten_more {y : Bytes} {ys : List Bytes} (more : l = y :: ys) :
    s.lineWritten true = { s.reach s.recd.lineAt with recd := { s.recd with
      blocks := tabPut p { b with lines := b.lines ++ [x] } s.recd.blocks, job := .write r q (y :: ys), lineAt := max s.now s.recd.lineAt + ns 400 } } := by
  subst more
  have blk' : (s.reach s.recd.lineAt).rblk p = some b := blk
  have job' : (s.reach s.recd.lineAt).recd.job = .write r q (x :: y :: ys) := job
  have cur' : (s.reach s.recd.lineAt).recd.cur = some (a, p) := cur
  simp only [lineWritten, job', cur', onRblk, blk', if_true]
  rw [← cur]
  rfl

theorem lineWritten_last (last : l = []) :
    s.lineWritten true = ({ s.reach s.recd.lineAt with recd.blocks := tabPut p { b with lines := b.lines ++ [x] } s.recd.blocks } : State).recDone p q r := by
  subst last
  have blk' : (s.reach s.recd.lineAt).rblk p = some b := blk
  have job' : (s.reach s.recd.lineAt).recd.job = .write r q [x] := job
  have cur' : (s.reach s.recd.lineAt).recd.cur = some (a, p) := cur
  simp only [lineWritten, job', cur', onRblk, blk', if_true]
  rfl

theorem lineWritten_bad : s.lineWritten false =
    (s.reach s.recd.lineAt).retire a p 2 (b.lines.length + 1) (b.lines.take (b.lines.length - (r.lines - (l.length + 1)))) := by
  have blk' : (s.reach s.recd.lineAt).rblk p = some b := blk
  have job' : (s.reach s.recd.lineAt).recd.job = .write r q (x :: l) := job
  have cur' : (s.reach s.recd.lineAt).recd.cur = some (a, p) := cur
  simp only [lineWritten, job', cur', blk', Bool.false_eq_true, if_false]
  rfl

end

theorem lineWritten_idle {b : Bool} (idle : s.recd.job = .idle) : s.lineWritten b = s.reach s.recd.lineAt := by
  have idle' : (s.reach s.recd.lineAt).recd.job = .idle := idle
  simp only [lineWritten, idle']

/-! Host records (R401). -/

/-- RECD_HWCTL holds what was written. -/
def hostAsked (s : State) (v : Nat) : State :=
  ((s.put Reg.RECD_HWCTL.GO (Reg.RECD_HWCTL.GO.of v)).put Reg.RECD_HWCTL.CLASS (Reg.RECD_HWCTL.CLASS.of v)).put Reg.RECD_HWCTL.BLEN (Reg.RECD_HWCTL.BLEN.of v)

theorem hwctl_deviceCode {v : Nat} (go : bit v 31 = true) (device : s.get Reg.RECD_HWCODE.CODE < 0x1000) :
    s.hwctl v = (((s.hostAsked v).put Reg.RECD_STAT.HWRES 1).bump Reg.RECD_HWREF.COUNT).raise Reg.RECD_IRQ.HW := by
  have code : (s.hostAsked v).get Reg.RECD_HWCODE.CODE < 0x1000 := by
    simpa (disch := decide) only [hostAsked, get_put_ne] using device
  unfold hwctl
  rw [← hostAsked, go]
  simp only [Bool.not_true, Bool.false_eq_true, if_false, hostRecord, if_pos code]

theorem hostRecord_staged {k c : Nat} {b : Bytes} (code : 0x1000 ≤ k) (len : b.length ≤ 496) (free : s.clsUnlimited c = true)
    (fits : s.stageFits ⟨k, b, s.opTime, s.get Reg.RECD_PCC.VALUE % 2 ^ 24⟩ = true) (runs : s.recFailed = false) :
    s.hostRecord k c b = (0, ((s.stageRec ⟨k, b, s.opTime, s.get Reg.RECD_PCC.VALUE % 2 ^ 24⟩).put Reg.RECD_STAT.HWRES 0).raise Reg.RECD_IRQ.HW) := by
  have admits : s.clsAdmits c = true := by simp [clsAdmits, free]
  have token : s.takeToken c = s := if_pos free
  simp only [hostRecord, if_neg (Nat.not_lt.mpr code), if_neg (Nat.not_lt.mpr len), admits, free, if_true, fits, runs, token, Bool.not_true, Bool.false_eq_true,
    if_false]

end State

/-- Settles O33: each form by the lemma of staging, of a line written or of the scan. -/
theorem recorderWrites : Obligations.RecorderWrites := by
  unfold Obligations.RecorderWrites
  have stage (s : State) (hs : s.recRuns = true) : exec .recordStage s = .next s.stageEvent.settle := by
    rw [exec_recordStage, execRecordStage, liveRec_runs hs, done_eq]
  have start (s : State) (hs : s.recRuns = true) : exec .recordWriteStart s = .next s.writeStart.settle := by
    rw [exec_recordWriteStart, execRecordWriteStart, liveRec_runs hs, done_eq]
  have line (b : Bool) (s : State) (hs : s.recRuns = true) : exec (.recordLineWritten b) s = .next (s.lineWritten b).settle := by
    rw [exec_recordLineWritten, execRecordLineWritten, liveRec_runs hs, done_eq]
  have scan (s : State) (hs : s.recRuns = true) : exec .recorderScanComplete s = .next s.scanComplete.settle := by
    rw [exec_recorderScanComplete, execRecorderScanComplete, liveRec_runs hs, done_eq]
  have host (v : Word) (s : State) (hs : s.awake = true) (free : s.flag Reg.RECD_STAT.BUSY = false) :
      exec (.hostRecordWrite v) s = .next (s.hwctl v.toNat).settle := by
    rw [exec_hostRecordWrite, execHostRecordWrite, live_awake hs, done_eq, free]
    rfl
  refine ⟨?unlimited, ?suppressed, ?suppressionDue, ?lossDue, fun r s fits => State.stageRec_staged fits, ?fits, ?more, ?last, ?scanEnds, ?hostBusy,
    ?deviceCode, ?limited, ?member, fun r s full => State.stageRec_lost full, ?closes, ?bad, ?retired, ?forms, ?nothing, ?lossWaits, fun v s hs free => host v s hs free,
    ?hostStaged⟩
  case unlimited =>
    rintro e l r u s hs he master rfl rfl free fits
    have runs : s.stageEvent = ({ s with events := l } : State).stageRec (s.stagedOf e) :=
      (State.stageEvent_master he master).trans (State.stageIn_unlimited free)
    obtain ⟨recd, events, regs⟩ := State.stageRec_staged fits
    have kept := RecordKept.stageRec (r := s.stagedOf e) (RecordKept.refl ({ s with events := l } : State))
    exact ⟨_, (stage s hs).trans (congrArg (fun t : State => Host.Outcome.next t.settle) runs), (State.settle_events _).trans events, (State.settle_recd _).trans recd,
      regsBut_settle (fun g hg => regs g hg), (State.settle_img _).trans kept.img, (State.settle_prg _).trans kept.prg,
      (State.settle_rest _).trans kept.rest, (State.settle_hkp _).trans kept.hkp⟩
  case suppressed =>
    rintro e l c u s hs he master rfl rfl limited empty
    have runs : s.stageEvent = ({ s with events := l } : State).suppress (devClass e.code) e.code e.ot :=
      (State.stageEvent_master he master).trans (State.stageIn_suppressed limited empty)
    refine ⟨_, (stage s hs).trans (by rw [runs]), ?_, ?_, ?_, ?_, ?_, ?_, ?_⟩
    · simp [State.suppress]
    · simp [State.suppress]
    · simp only [State.suppress]
      rw [State.settle_get_ne _ _ (by decide) (by decide), State.raise_get_ne _ _ _ (by decide), State.bump_get_self rfl]
      rfl
    · rw [State.settle_flag_ne (by decide) (by decide)]
      exact State.flag_raise rfl
    · exact regsBut_settle (regsBut_raise (regsBut_put (regsBut_of_regs (regsBut_refl s _) rfl) (by simp) _) (by simp))
    · simp [State.suppress]
    · simp [State.suppress]
  case suppressionDue =>
    rintro c m u w s hs owed rfl rfl
    rw [exec_suppressionTimeout, execSuppressionTimeout, liveRec_runs hs, done_eq, owed]
    exact congrArg (fun t : State => Host.Outcome.next t.settle) (State.stageSuppressed_owed (by rw [State.reachOp_recd]; exact owed))
  case lossDue =>
    rintro m u s hs lost room scanned rfl
    rw [exec_lossRecordStage, execLossRecordStage, liveRec_runs hs, done_eq, lost]
    exact congrArg (fun t : State => Host.Outcome.next t.settle) (if_pos (by simp [room, scanned]))
  case fits =>
    rintro r l a p n b s hs scanned ok idle again staged cur blk fits rfl
    have runs := (State.writeStart_idle scanned ok idle).trans (State.place_fits again staged cur blk fits)
    refine ⟨_, (start s hs).trans (by rw [runs]), ?_, ?_, ?_, ?_, ?_, ?_, ?_, ?_⟩
    · simp
    · rw [State.settle_get_ne _ _ (by decide) (by decide)]
      exact s.get_put_self Reg.RECD_NEXTSEQ.SEQ _
    · simp
    · exact regsBut_settle (regsBut_of_regs (regsBut_put (regsBut_refl s _) (f := Reg.RECD_NEXTSEQ.SEQ) (by simp) (s.nextRecSeq + 1)) rfl)
    all_goals simp
  case more =>
    intro r x y l q a p b s hs job cur blk
    refine ⟨_, (line true s hs).trans (by rw [State.lineWritten_more job cur blk rfl]), ?_⟩
    exact ⟨by simp [State.reach], by simp [State.reach], by simp [State.reach], regsBut_settle (regsBut_of_regs (regsBut_refl s _) rfl),
      by simp [State.reach], by simp [State.reach], by simp [State.reach], by simp [State.reach]⟩
  case last =>
    rintro r x q a p b u s hs job cur blk rfl
    rw [line true s hs, State.lineWritten_last job cur blk rfl]
  case scanEnds =>
    intro s hs scans idle ok
    obtain ⟨scan', torn, mirStage, img, prg, rest, hkp⟩ := State.scanComplete_ends scans idle ok
    exact ⟨_, scan s hs, by simpa using scan', by simpa using torn, by simpa using mirStage, by simpa using img, by simpa using prg, by simpa using rest,
      by simpa using hkp⟩
  case hostBusy =>
    intro v s hs busy
    refine ⟨(s.put Reg.RECD_STAT.WIGN 1).settle, ?_, ?_, by simp, regsBut_settle (regsBut_put (regsBut_refl s _) (by simp) _), by simp [memSame]⟩
    · rw [exec_hostRecordWrite, execHostRecordWrite, live_awake hs, done_eq, busy]
      rfl
    · rw [State.settle_flag_ne (by decide) (by decide)]
      exact State.flag_of_get (s.get_put_self Reg.RECD_STAT.WIGN 1)
  case deviceCode =>
    intro v s hs free go device
    have runs := (host v s hs free).trans (congrArg (fun t : State => Host.Outcome.next t.settle) (State.hwctl_deviceCode go device))
    refine ⟨_, runs, ?_, ?_, ?_, ?_, ?_, ?_, ?_, ?_, ?_⟩
    · simp (disch := decide) only [State.settle_get_ne, State.raise_get_ne, State.bump, State.bumpBy, State.get_put_ne, State.get_put_self]
      rfl
    · rw [State.settle_get_ne _ _ (by decide) (by decide), State.raise_get_ne _ _ _ (by decide), State.bump_get_self rfl]
      simp (disch := decide) only [State.hostAsked, State.get_put_ne]
    · rw [State.settle_flag_ne (by decide) (by decide)]
      exact State.flag_raise rfl
    · rw [State.settle_flag_ne (by decide) (by decide)]
      refine State.flag_of_get ?_
      simp (disch := decide) only [State.raise_get_ne, State.bump, State.bumpBy, State.hostAsked, State.get_put_ne, State.get_put_self]
      simpa [Fld.of, bit, Nat.testBit_eq_decide_div_mod_eq] using go
    · simp (disch := decide) only [State.settle_get_ne, State.raise_get_ne, State.bump, State.bumpBy, State.hostAsked, State.get_put_ne, State.get_put_self]
      exact Nat.mod_eq_of_lt (Nat.mod_lt _ (by decide))
    · simp (disch := decide) only [State.settle_get_ne, State.raise_get_ne, State.bump, State.bumpBy, State.hostAsked, State.get_put_ne, State.get_put_self]
      exact Nat.mod_eq_of_lt (Nat.mod_lt _ (by decide))
    · simp [State.hostAsked]
    · refine regsBut_settle (regsBut_raise (regsBut_put (regsBut_put ?_ (by simp) _) (by simp) _) (by simp))
      exact regsBut_put (regsBut_put (regsBut_put (regsBut_refl s _) (by simp) _) (by simp) _) (by simp) _
    · simp [memSame, State.hostAsked]
  case limited =>
    rintro e l r c u s hs he master rfl rfl rfl limited token none_owed fits
    have runs := (State.stageEvent_master he master).trans (State.stageIn_limited limited token none_owed)
    have taken := State.takeToken_limited limited
    obtain ⟨recd, events, regs⟩ := State.stageRec_staged (s := ({ s with events := l } : State).takeToken (devClass e.code)) (r := s.stagedOf e)
      (by rw [taken]; exact fits)
    have kept := RecordKept.stageRec (r := s.stagedOf e) (RecordKept.refl (({ s with events := l } : State).takeToken (devClass e.code)))
    refine ⟨_, (stage s hs).trans (congrArg (fun t : State => Host.Outcome.next t.settle) runs), (State.settle_events _).trans (events.trans ?_),
      (State.settle_recd _).trans (recd.trans (by rw [taken]; rfl)), regsBut_settle (fun g hg => (regs g hg).trans (by rw [taken]; rfl)), (State.settle_img _).trans (kept.img.trans ?_),
      (State.settle_prg _).trans (kept.prg.trans ?_), (State.settle_rest _).trans (kept.rest.trans ?_), (State.settle_hkp _).trans (kept.hkp.trans ?_)⟩
    all_goals rw [taken]
  case member =>
    rintro e l r u s hs he member rfl rfl
    rw [stage s hs, State.stageEvent_member he member]
    rfl
  case closes =>
    intro r l a p b s hs scanned ok idle again staged cur blk full room
    have runs := (State.writeStart_idle scanned ok idle).trans (State.place_closes again staged cur blk full room)
    refine ⟨_, (start s hs).trans (by rw [runs]), ?_⟩
    exact ⟨by simp, by simp, regsBut_settle (regsBut_of_regs (regsBut_refl s _) rfl), by simp, by simp, by simp, by simp⟩
  case bad =>
    rintro r x l q a p b u s hs job cur blk rfl
    rw [line false s hs, State.lineWritten_bad job cur blk]
  case retired =>
    intro a p i k x s
    obtain ⟨count, flag⟩ := s.retire_counts a p i k x
    exact ⟨count, flag⟩
  case forms =>
    intro b c s hs
    refine ⟨stage s hs, start s hs, line b s hs, scan s hs, fun none_new => ?_, fun none_owed => ?_, fun none_lost => ?_, fun scanned => ?_⟩
    · rw [stage s hs, State.stageEvent, none_new]
    · rw [exec_suppressionTimeout, execSuppressionTimeout, liveRec_runs hs, done_eq, none_owed]
    · rw [exec_lossRecordStage, execLossRecordStage, liveRec_runs hs, done_eq, none_lost]
    · rw [scan s hs, State.scanComplete, scanned]
      rfl
  case nothing =>
    intro b s hs
    refine ⟨fun stands => ?_, fun idle => ?_⟩
    · rw [start s hs, State.writeStart_none stands]
    · rw [line b s hs, State.lineWritten_idle idle]
  case lossWaits =>
    intro m s hs lost waits
    rw [exec_lossRecordStage, execLossRecordStage, liveRec_runs hs, done_eq, lost]
    refine congrArg (fun t : State => Host.Outcome.next t.settle) (if_neg ?_)
    rcases waits with full | scans
    · simp [full]
    · simp [scans]
  case hostStaged =>
    rintro k c b r s rfl code len free fits ok
    exact State.hostRecord_staged code len free fits ok

end Sys2Proof.Machine
end

section
/-! SUPPORT. What the bridge answers and keeps: answers of reads, far errors, fences, and the link with nothing that waits (R410 to R421). -/

namespace Sys2Proof.Machine

set_option Elab.async false

/-- One output of a command, where nothing else but what follows registers has left. -/
theorem sent_emitted {s t : State} {x : Out} (outs : t.outs = s.outs) (pwr : t.pwr = s.pwr) (plain : outFollows x = false) :
    sent s (t.emit x).settle [x] :=
  Follows.sent_trans (sent_emit (sent_of_outs outs) (State.mutes_of_pwr pwr) plain) (State.settle_follows _)

/-- What stands but for some fields stands but for more. -/
theorem regsBut_of_subset {s t : State} {fs gs : List Fld} (h : regsBut s t fs) (sub : fs ⊆ gs) : regsBut s t gs := fun g hg =>
  h g fun hk => hg (List.map_subset _ (List.cons_subset_cons _ (List.cons_subset_cons _ sub)) hk)

namespace State

variable {s u : State}

/-! Answers without data (R419). -/

/-- An error is reported to the host (R419). -/
theorem aerReport_brdg (s : State) (k : Nat) : (s.aerReport k).brdg = { s.brdg with aer := s.brdg.aer ||| 2 ^ (if k = 1 then 20 else if k = 2 then 15 else 12) } := rfl

/-- A read has been answered without data, from `s` to `t`: counted in `c` and flagged, `l` sent, `b` left in the bridge. -/
structure ReadRefused (s t : State) (c : Fld) (l : List Out) (b : BrdgS) : Prop where
  sends : sent s t l
  count : t.get c = min (s.get c + 1) 0xFFFFFFFF
  flag : t.flag Reg.BRDG_IRQ.RDERR = true
  regs : regsBut s t [c, Reg.BRDG_IRQ.RDERR]
  brdg : t.brdg = b
  mem : memSame s t
  now : t.now = s.now

theorem memSame_trans {t : State} (h : memSame s u) (k : memSame u t) : memSame s t := by
  obtain ⟨i, p, c, r, k'⟩ := h
  obtain ⟨i', p', c', r', k''⟩ := k
  exact ⟨i'.trans i, p'.trans p, c'.trans c, r'.trans r, k''.trans k'⟩

namespace ReadRefused

variable {t : State} {c : Fld} {l : List Out} {b : BrdgS}

/-- The count and the flag, after what was sent. -/
theorem of_sent (sends : sent s u l) (regs : u.regs = s.regs) (brdg : u.brdg = b) (mem : memSame s u) (now : u.now = s.now) (wide : c.width = 32)
    (apart : c.key ≠ Reg.BRDG_IRQ.RDERR.key) : ReadRefused s ((u.bump c).raise Reg.BRDG_IRQ.RDERR) c l b where
  sends := Follows.sent_trans sends ((Follows.of_outs rfl).trans (raise_follows _ _))
  count := by rw [raise_get_ne _ _ _ apart, bump_get_self wide, get_congr regs]
  flag := flag_raise rfl
  regs := regsBut_raise (regsBut_put (regsBut_of_regs (regsBut_refl s _) regs) (by simp) _) (by simp)
  brdg := by simpa using brdg
  mem := memSame_trans mem (by simp [memSame])
  now := by simpa using now

theorem recordSec (h : ReadRefused s t c l b) (k n : Nat) (p : Bytes) : ReadRefused s (t.recordSec k n p) c l b where
  sends := Follows.sent_trans h.sends (Follows.of_outs (by simp))
  count := by simpa using h.count
  flag := by simpa [State.flag] using h.flag
  regs := fun g hg => (recordSec_get _ _ _ _ g).trans (h.regs g hg)
  brdg := by simpa using h.brdg
  mem := memSame_trans h.mem (by simp [memSame])
  now := by simpa using h.now

theorem settle (h : ReadRefused s t c l b) (n1 : c.key ≠ Reg.GLB_STAT.NFAULT.key) (n2 : c.key ≠ Reg.CMD_IRQ.CPL.key) : ReadRefused s t.settle c l b where
  sends := Follows.sent_trans h.sends t.settle_follows
  count := (settle_get_ne _ _ n1 n2).trans h.count
  flag := (settle_flag_ne (by decide) (by decide)).trans h.flag
  regs := regsBut_settle h.regs
  brdg := by simpa using h.brdg
  mem := memSame_trans h.mem (by simp [memSame])
  now := by simpa using h.now

end ReadRefused

/-- UR, with the error reported (R409, R413). -/
theorem answerUr_refused (s : State) (tag : Nat) :
    ReadRefused s (s.answerUr tag) Reg.BRDG_UR.COUNT [.cpl tag 1 false [], .aer 1] { s.brdg with aer := s.brdg.aer ||| 2 ^ 20 } :=
  (ReadRefused.of_sent (u := (s.emit (.cpl tag 1 false [])).aerReport 1)
    (sent_emit (sent_emit (sent_of_outs rfl) rfl rfl) rfl rfl) rfl rfl ⟨rfl, rfl, rfl, rfl, rfl⟩ rfl rfl (by decide)).recordSec _ _ _

/-- CA, with the error reported (R419). -/
theorem answerCa_refused {c : Fld} (s : State) (tag n : Nat) (mode : s.flag Reg.BRDG_CTRL.ERRMODE = false) (wide : c.width = 32)
    (apart : c.key ≠ Reg.BRDG_IRQ.RDERR.key) :
    ReadRefused s (s.answerCa tag n c) c [.cpl tag 4 false [], .aer 2] { s.brdg with aer := s.brdg.aer ||| 2 ^ 15 } := by
  have mode' : (s.emit (.cpl tag 4 false [])).flag Reg.BRDG_CTRL.ERRMODE = false := mode
  have runs : s.answerCa tag n c = ((((s.emit (.cpl tag 4 false [])).aerReport 2).bump c).raise Reg.BRDG_IRQ.RDERR) := by
    simp only [answerCa, mode, Bool.false_eq_true, if_false, countCa, mode']
  rw [runs]
  exact ReadRefused.of_sent (sent_emit (sent_emit (sent_of_outs rfl) rfl rfl) rfl rfl) rfl rfl ⟨rfl, rfl, rfl, rfl, rfl⟩ rfl wide apart

/-- With ERRMODE a read that fails is answered with ones, and only counted (R419). -/
theorem answerCa_ones {c : Fld} (s : State) (tag n : Nat) (mode : s.flag Reg.BRDG_CTRL.ERRMODE = true) (wide : c.width = 32)
    (apart : c.key ≠ Reg.BRDG_IRQ.RDERR.key) : ReadRefused s (s.answerCa tag n c) c [.cpl tag 0 false (List.replicate n 0xFF)] s.brdg := by
  have mode' : (s.emit (.cpl tag 0 false (List.replicate n 0xFF))).flag Reg.BRDG_CTRL.ERRMODE = true := mode
  have runs : s.answerCa tag n c = ((s.emit (.cpl tag 0 false (List.replicate n 0xFF))).bump c).raise Reg.BRDG_IRQ.RDERR := by
    simp only [answerCa, mode, if_true, countCa, mode']
  rw [runs]
  exact ReadRefused.of_sent (sent_emit (sent_of_outs rfl) rfl rfl) rfl rfl ⟨rfl, rfl, rfl, rfl, rfl⟩ rfl wide apart

/-- A read of a chip out of reach, or one that is silent, fails (R419). -/
theorem failRead_refused {cause : Nat} (s : State) (tag n : Nat) (mode : s.flag Reg.BRDG_CTRL.ERRMODE = false) :
    ReadRefused s (s.failRead cause tag n) (if cause = 3 then Reg.BRDG_FTO.COUNT else Reg.BRDG_CA.COUNT) [.cpl tag 4 false [], .aer 2]
      { s.brdg with aer := s.brdg.aer ||| 2 ^ 15 } := by
  refine (answerCa_refused s tag n mode ?_ ?_).recordSec _ _ _
  · exact iteInduction (motive := fun f : Fld => f.width = 32) (fun _ => rfl) fun _ => rfl
  · exact iteInduction (motive := fun f : Fld => f.key ≠ Reg.BRDG_IRQ.RDERR.key) (fun _ => by decide) fun _ => by decide

/-! The link with nothing that waits (R417, R418). -/

theorem unsent_none (sent_ : s.brdg.writes.all (fun x : FarOp => x.sent) = true) : s.unsent = none := by
  have none_waits : (s.brdg.writes.filter fun w : FarOp => !w.sent) = [] := by
    refine List.filter_eq_nil_iff.mpr fun w hw => ?_
    simpa using List.all_eq_true.mp sent_ w hw
  rw [unsent, none_waits]
  rfl

theorem flushBehind_nil (h : s.brdg.behind = []) : s.flushBehind = s := by
  unfold flushBehind
  rw [h]
  simp only [List.takeWhile_nil, List.length_nil, List.drop_nil, List.foldl_nil]
  rw [← h]

/-- A fold that leaves the state for each element leaves it for the list. -/
theorem foldl_eq_self {α : Type} {f : State → α → State} {l : List α} (h : ∀ x ∈ l, f s x = s) : l.foldl f s = s := by
  induction l with
  | nil => rfl
  | cons x l ih => rw [List.foldl_cons, h x List.mem_cons_self, ih fun y hy => h y (List.mem_cons_of_mem _ hy)]

theorem pumpFar_sent (behind : s.brdg.behind = []) (reads : s.brdg.reads.all (fun x : FarOp => x.sent) = true)
    (writes : s.brdg.writes.all (fun x : FarOp => x.sent) = true) : s.pumpFar = s := by
  unfold pumpFar
  rw [flushBehind_nil behind]
  have pumped : s.brdg.writes.foldl (fun s (w : FarOp) =>
      if w.sent || 32 ≤ s.farPosted then s
      else ({ s with brdg.writes := s.brdg.writes.map fun (x : FarOp) => if x.id = w.id then { x with sent := true } else x }.putFar true w).flushBehind) s = s :=
    foldl_eq_self fun w hw => if_pos (by simp [List.all_eq_true.mp writes w hw])
  refine Eq.trans ?_ (foldl_eq_self (s := s) (l := s.brdg.reads) (f := fun s (r : FarOp) =>
      if r.sent || 32 ≤ s.farAsked || s.unsent.isSome then s
      else { s with brdg.reads := s.brdg.reads.map fun (x : FarOp) => if x.id = r.id then { x with sent := true } else x }.putFar false r)
    fun r hr => if_pos (by simp [List.all_eq_true.mp reads r hr]))
  exact congrArg (fun t : State => t.brdg.reads.foldl (fun s (r : FarOp) =>
      if r.sent || 32 ≤ s.farAsked || s.unsent.isSome then s
      else { s with brdg.reads := s.brdg.reads.map fun (x : FarOp) => if x.id = r.id then { x with sent := true } else x }.putFar false r) t) pumped

theorem bridgeRoom_empty (held : s.brdg.held = []) (behind : s.brdg.behind = []) (retry : s.brdg.retryAt = none)
    (reads : s.brdg.reads.all (fun x : FarOp => x.sent) = true) (writes : s.brdg.writes.all (fun x : FarOp => x.sent) = true) : s.bridgeRoom = s := by
  have lock : s.lockRetry = s := if_neg (by simp [retry])
  simp only [bridgeRoom, pumpFar_sent behind reads writes, lock]
  rw [held, List.foldl_nil, ← held]

theorem drainWaiting_empty (held : s.brdg.held = []) (waiting : s.brdg.waiting = []) (sems : s.brdg.semWait = []) : s.drainWaiting = s := by
  unfold drainWaiting
  refine ite_eq_left_iff.mpr fun _ => ?_
  have served : ([0, 1, 2, 3].flatMap fun k => s.brdg.waiting.filter fun x => spSrc x.2.2 = k) = [] := by simp [waiting]
  simp only [held, List.foldl_nil, sems, served]
  rw [← held, ← sems, ← waiting]

/-! Far errors (R420). -/

theorem recordSec_flag {f : Fld} (s : State) (c k : Nat) (p : Bytes) : (s.recordSec c k p).flag f = s.flag f := by simp [flag]

theorem regsBut_recordSec {t : State} {fs : List Fld} {c k : Nat} {p : Bytes} (h : regsBut s t fs) : regsBut s (t.recordSec c k p) fs :=
  fun g hg => (recordSec_get _ _ _ _ g).trans (h g hg)

theorem farError_room {c src m a q : Nat} {d : Bytes} {arr : Nat} (hq : q = if s.get Reg.BRDG_FSEQ.FSEQ = 65535 then 1 else s.get Reg.BRDG_FSEQ.FSEQ + 1)
    (room : s.brdg.log.length < 32) :
    s.farError c src m a d arr = (((({ s with brdg.log := s.brdg.log ++ [(q, natBe 2 q ++ natBe 1 c ++ natBe 1 (16 * src + m) ++ natBe 4 a
      ++ (d ++ [0, 0, 0, 0]).take 4 ++ natBe 4 arr, false)] } : State).put Reg.BRDG_FSEQ.FSEQ q).bump Reg.BRDG_FERR.COUNT).raise Reg.BRDG_IRQ.FERR).recordSec
        0x0C05 0 (natBe 2 q) := by
  have fits : ¬ 32 ≤ s.brdg.log.length := by omega
  unfold farError
  simp only [← hq, fits, decide_false, Bool.false_and, Bool.false_eq_true, if_false]
  rfl

theorem farError_logged (c src m a q : Nat) (d : Bytes) (arr : Nat) (hq : q = if s.get Reg.BRDG_FSEQ.FSEQ = 65535 then 1 else s.get Reg.BRDG_FSEQ.FSEQ + 1)
    (small : q < 65536) (room : s.brdg.log.length < 32) :
    (s.farError c src m a d arr).get Reg.BRDG_FSEQ.FSEQ = q
      ∧ (s.farError c src m a d arr).brdg.log = s.brdg.log ++ [(q, natBe 2 q ++ natBe 1 c ++ natBe 1 (16 * src + m) ++ natBe 4 a ++ (d ++ [0, 0, 0, 0]).take 4
        ++ natBe 4 arr, false)] ∧ (s.farError c src m a d arr).flag Reg.BRDG_IRQ.FERR = true
      ∧ (s.farError c src m a d arr).get Reg.BRDG_FERR.COUNT = min (s.get Reg.BRDG_FERR.COUNT + 1) 0xFFFFFFFF
      ∧ regsBut s (s.farError c src m a d arr) [Reg.BRDG_FSEQ.FSEQ, Reg.BRDG_IRQ.FERR, Reg.BRDG_FERR.COUNT] := by
  rw [farError_room hq room]
  refine ⟨?_, by simp, ?_, ?_, ?_⟩
  · simp (disch := decide) only [recordSec_get, raise_get_ne, bump, bumpBy, get_put_ne, get_put_self]
    exact Nat.mod_eq_of_lt small
  · rw [recordSec_flag]
    exact flag_raise rfl
  · rw [recordSec_get, raise_get_ne _ _ _ (by decide), bump_get_self rfl, get_put_ne _ _ _ _ (by decide)]
    rfl
  · exact regsBut_recordSec (regsBut_raise (regsBut_put (regsBut_put (regsBut_of_regs (regsBut_refl s _) rfl) (by simp) _) (by simp) _) (by simp))

/-! Fences (R421). -/

theorem fenceDone_ready {tag : Nat} {ids : List Nat} {l : List (Nat × Nat × List Nat)} (first : s.brdg.fences = (0, tag, ids) :: l)
    (done_ : (s.brdg.writes.any fun w => ids.contains w.id) = false) (plain : s.flag Reg.BRDG_WIN.BO0 = false) :
    s.fenceDone = ({ s with brdg.fences := l } : State).emit (.cpl tag 0 false (natBe 4 (s.get Reg.BRDG_FSEQ.FSEQ))) := by
  simp only [fenceDone, first, done_, plain, Bool.false_eq_true, if_false, if_true]

theorem fenceDone_waits {tag src : Nat} {ids : List Nat} {l : List (Nat × Nat × List Nat)} (first : s.brdg.fences = (src, tag, ids) :: l)
    (waits : (s.brdg.writes.any fun w => ids.contains w.id) = true) : s.fenceDone = s := by
  simp only [fenceDone, first, waits, if_true]

theorem fenceDone_nil (h : s.brdg.fences = []) : s.fenceDone = s := by simp only [fenceDone, h]

/-- With nothing to wait for a fence is answered at once. -/
theorem openFence_free {tag : Nat} (writes : s.brdg.writes = []) (fences : s.brdg.fences = []) (plain : s.flag Reg.BRDG_WIN.BO0 = false) :
    s.openFence tag = s.emit (.cpl tag 0 false (natBe 4 (s.get Reg.BRDG_FSEQ.FSEQ))) := by
  have fence : ({ s with brdg.fences := [(0, tag, [])] } : State).fenceDone = ({ s with brdg.fences := [] } : State).emit
      (.cpl tag 0 false (natBe 4 (s.get Reg.BRDG_FSEQ.FSEQ))) := fenceDone_ready (s := { s with brdg.fences := [(0, tag, [])] }) rfl (by simp) plain
  have ids : (s.brdg.writes.map fun w : FarOp => w.id) = [] := by rw [writes]; rfl
  unfold openFence
  rw [ids, fences]
  refine (if_pos rfl).trans (fence.trans ?_)
  rw [← fences]

theorem openFence_waits {tag : Nat} (writes : s.brdg.writes ≠ []) :
    s.openFence tag = { s with brdg.fences := s.brdg.fences ++ [(0, tag, s.brdg.writes.map fun w : FarOp => w.id)] } := by
  unfold openFence
  refine if_neg ?_
  simp [writes]

end State
end Sys2Proof.Machine
end

section
/-! SUPPORT. Host reads and writes by window: refused, held back, served here, sent to a member (R410 to R421). -/

namespace Sys2Proof.Machine

set_option Elab.async false

namespace State

variable {s u : State}

/-! Registers that a count of the bridge leaves. -/

theorem get_bump_ne (s : State) {f g : Fld} (h : g.key ≠ f.key) : (s.bump f).get g = s.get g := s.get_put_ne f g _ h

theorem flag_bump_ne (s : State) {f g : Fld} (h : g.key ≠ f.key) : (s.bump f).flag g = s.flag g := by rw [flag, flag, get_bump_ne s h]

/-- A count of host requests leaves the byte order, the clock of the far operations and the link. -/
theorem bump_bridge (s : State) {f : Fld} (hf : f ∈ [Reg.BRDG_NPREQ.COUNT, Reg.BRDG_PWR.COUNT]) :
    (∀ k, (s.bump f).winBo k = s.winBo k) ∧ (s.bump f).presented = s.presented ∧ (s.bump f).fto = s.fto ∧ (s.bump f).farAsked = s.farAsked
      ∧ (s.bump f).stackUp 1 = s.stackUp 1 := by
  have apart : ∀ f ∈ [Reg.BRDG_NPREQ.COUNT, Reg.BRDG_PWR.COUNT], ∀ g ∈ [Reg.BRDG_WIN.BO0, Reg.BRDG_WIN.BO1, Reg.BRDG_WIN.BO2, Reg.BRDG_WIN.BO3,
      Reg.SCHD_CFG.CYCLE, Reg.TIME_CFG2.CATCH, Reg.BRDG_CFG.FTO, Reg.BRDG_LOCK.STATE, Reg.BRDG_LOCK.MEMBER, Reg.BRDG_SPDN.STATE], g.key ≠ f.key := by decide
  have same (g : Fld) (hg : g ∈ [Reg.BRDG_WIN.BO0, Reg.BRDG_WIN.BO1, Reg.BRDG_WIN.BO2, Reg.BRDG_WIN.BO3,
      Reg.SCHD_CFG.CYCLE, Reg.TIME_CFG2.CATCH, Reg.BRDG_CFG.FTO, Reg.BRDG_LOCK.STATE, Reg.BRDG_LOCK.MEMBER, Reg.BRDG_SPDN.STATE]) : (s.bump f).get g = s.get g :=
    get_bump_ne s (apart f hf g hg)
  refine ⟨fun k => ?_, ?_, ?_, ?_, ?_⟩
  · rw [winBo, same _ (by simp), same _ (by simp), same _ (by simp), same _ (by simp)]
    rfl
  · have cycle := same Reg.SCHD_CFG.CYCLE (by simp)
    have catch_ := same Reg.TIME_CFG2.CATCH (by simp)
    simp only [presented, presentedAt, mapAt, kappaAt, tLen, cycleUnits, catchPpm, roster, cycle, catch_]
    rfl
  · rw [fto, same _ (by simp)]
    rfl
  · rw [farAsked, lockOut, same _ (by simp), same _ (by simp)]
    rfl
  · exact congrArg (fun n => decide (n = 6)) (same _ (by simp))

theorem winBo_plain (b0 : s.get Reg.BRDG_WIN.BO0 = 0) (b1 : s.get Reg.BRDG_WIN.BO1 = 0) (b2 : s.get Reg.BRDG_WIN.BO2 = 0) (b3 : s.get Reg.BRDG_WIN.BO3 = 0)
    (k : Nat) : s.winBo k = false := by
  simp [winBo, b0, b1, b2, b3, bit]

theorem laned_plain {k : Nat} (h : s.winBo k = false) (b : Bytes) : s.laned k b = b := by
  simp [laned, h]

/-- A read that fails is no event of its own. -/
theorem answerCa_events {c : Fld} (s : State) (tag n : Nat) : (s.answerCa tag n c).events = s.events := by
  have counted (u : State) : (u.countCa c).events = u.events := by
    unfold countCa
    rw [raise_events, bump_events]
    exact iteInduction (motive := fun x : State => x.events = u.events) (fun _ => rfl) fun _ => rfl
  exact counted _

/-! Host reads (R413, R416, R417, R419). -/

section
variable {tag bar addr dws fbe lbe : Nat} {ecc : Bool}

theorem hostRead_d3 (d3 : s.inD3 = true) : s.hostRead tag bar addr dws fbe lbe ecc = (s.bump Reg.BRDG_NPREQ.COUNT).answerUr tag := if_pos d3

theorem hostRead_dims (d0 : s.inD3 = false) (dim : s.hostDim = true) :
    s.hostRead tag bar addr dws fbe lbe ecc = (s.bump Reg.BRDG_NPREQ.COUNT).answerCa tag (4 * dws) Reg.BRDG_CA.COUNT := by
  simp only [hostRead, d0, dim, Bool.false_eq_true, if_false, if_true]

section
variable (d0 : s.inD3 = false) (bright : s.hostDim = false)
include d0 bright

theorem hostRead_held (full : s.noEntry false (farTarget bar addr) = true) : s.hostRead tag bar addr dws fbe lbe ecc =
    { s with brdg.held := s.brdg.held ++ [⟨false, tag, bar, addr, dws, fbe, lbe, ecc, [], 0⟩] } := by
  simp only [hostRead, d0, bright, full, Bool.false_eq_true, if_false, if_true]
  rfl

theorem hostRead_served (room : s.noEntry false (farTarget bar addr) = false) :
    s.hostRead tag bar addr dws fbe lbe ecc = (s.bump Reg.BRDG_NPREQ.COUNT).serveRead tag bar addr dws fbe lbe ecc := by
  simp only [hostRead, d0, bright, room, Bool.false_eq_true, if_false]

end

/-- BAR0 below the members is this chip. -/
theorem farTarget_near (h : addr < 0xA00000) : farTarget 0 addr = false := by
  simp [farTarget, h]

theorem farTarget_far (h : 0xA00000 ≤ addr) : farTarget 0 addr = true := by
  simp [farTarget, h]

theorem serveRead_here (near : addr < 0x800000) : s.serveRead tag 0 addr dws fbe lbe ecc = s.readHere tag addr dws fbe ecc := by
  simp [serveRead, near]

theorem serveRead_far {m a : Nat} (far : 0x800000 ≤ addr) (hm : m = (addr - 0x800000) / 0x200000) (member : m ≠ 0) (ha : a = (addr - 0x800000) % 0x200000) :
    s.serveRead tag 0 addr dws fbe lbe ecc = s.readFar tag m a dws (16 * fbe + lbe) := by
  unfold serveRead
  rw [if_neg (fun h => h rfl), if_neg (Nat.not_lt.mpr far), ← hm, ← ha]
  exact if_neg member

theorem readHere_none (none_ : winKind addr = none) : s.readHere tag addr dws fbe ecc = s.emit (.cpl tag 0 false (List.replicate (4 * dws) 0)) := by
  simp only [readHere, none_]

theorem winKind_registers (h : addr < 0xF0000) : winKind addr = some 0 := if_pos h

theorem readHere_register (register : addr < 0xF0000) (plain : addr ≠ 0xC0028) : s.readHere tag addr 1 15 false =
    (s.regRead addr 0).2.emit (.cpl tag 0 false ((s.regRead addr 0).2.laned 0 (natBe 4 (s.regRead addr 0).1))) := by
  have word : s.w0Read addr 0 = s.regRead addr 0 := if_pos register
  simp only [readHere, winKind_registers register]
  refine (if_neg (by decide)).trans ((if_neg plain).trans ?_)
  rw [word]
  rfl

theorem readHere_fence : s.readHere tag 0xC0028 1 15 false = s.openFence tag := by
  simp only [readHere, winKind_registers (show 0xC0028 < 0xF0000 by decide)]
  exact (if_neg (by decide)).trans (if_pos trivial)

theorem readFar_lost {m a k be : Nat} (kind : winKind a = some k) (data : k ≠ 0) (lost : s.reachable m = false) :
    s.readFar tag m a dws be = s.failRead 1 tag (4 * dws) := by
  simp [readFar, kind, data, lost]

theorem readFar_sent {m a k be : Nat} (kind : winKind a = some k) (data : k ≠ 0) (reached : s.reachable m = true) (up : s.stackUp 1 = true)
    (room : s.farAsked < 32) (reads : s.brdg.reads.all (fun x : FarOp => x.sent) = true) (writes : s.brdg.writes.all (fun x : FarOp => x.sent) = true) :
    s.readFar tag m a dws be = ({ s with brdg := { s.brdg with nextId := s.brdg.nextId + 1, reads := s.brdg.reads ++ [{
      id := s.brdg.nextId % 0xFFF0, tag := tag, src := 0, member := m, addr := 0x800000 + m * 0x200000 + a, len := 4 * dws,
      arrival := shortNs s.presented % 2 ^ 32, until_ := s.now + s.fto, win := k, be := be, sent := true }] } } : State).emit
        (.stack 1 (rdPacket m 0 (s.brdg.nextId % 0xFFF0) a be (4 * dws))) := by
  have goes : (s.farAsked < 32 && s.unsent.isNone && s.brdg.reads.all (fun (x : FarOp) => x.sent)) = true := by
    simp [room, unsent_none writes, reads]
  have offset : 0x800000 + m * 0x200000 + a - 0x800000 - m * 0x200000 = a := by omega
  have up' (b : BrdgS) : ({ s with brdg := b } : State).stackUp 1 = true := up
  unfold readFar
  rw [kind, if_neg (by simp [data]), if_neg (by simp [reached]), goes]
  dsimp only
  rw [if_pos rfl, putFar]
  dsimp only
  rw [up', offset]
  rfl

end

/-! Host writes (R413, R414, R420, R421). -/

section
variable {bar addr fbe lbe : Nat} {data : Bytes}

theorem hostWrite_d3 (d3 : s.inD3 = true) : s.hostWrite bar addr data fbe lbe = s.bump Reg.BRDG_PWR.COUNT := if_pos (by simp [d3])

section
variable (d0 : s.inD3 = false) (bright : s.hostDim = false)
include d0 bright

theorem hostWrite_held (full : s.noEntry true (farTarget bar addr) = true) : s.hostWrite bar addr data fbe lbe =
    { s with brdg.held := s.brdg.held ++ [⟨true, 0, bar, addr, 0, fbe, lbe, false, data, 0⟩] } := by
  simp only [hostWrite, d0, bright, full, Bool.or_self, Bool.false_eq_true, if_false, if_true]
  rfl

theorem hostWrite_served (room : s.noEntry true (farTarget bar addr) = false) :
    s.hostWrite bar addr data fbe lbe = (s.bump Reg.BRDG_PWR.COUNT).serveWrite bar addr data fbe lbe := by
  simp only [hostWrite, d0, bright, room, Bool.or_self, Bool.false_eq_true, if_false]

end

theorem serveWrite_register (register : addr < 0xF0000) (word : data.length = 4) (plain : s.winBo 0 = false) :
    s.serveWrite 0 addr data 15 lbe = s.regWrite addr (beNat data) 0 := by
  have near : addr < 0x800000 := by omega
  unfold serveWrite
  rw [if_neg (fun h => h rfl)]
  extract_lets m a k b f l
  have ha : a = addr := if_pos near
  have hk : k = 0 := by rw [show k = (winKind a).getD 1 from rfl, ha, winKind_registers register]; rfl
  have hb : b = data := by rw [show b = s.laned k data from rfl, hk, laned_plain plain]
  have hf : f = 15 := by rw [show f = if s.winBo k then swapBe 15 else 15 from rfl, hk, plain]; rfl
  rw [if_pos (Or.inl near), ha, hb, hf]
  unfold writeHere
  rw [winKind_registers register, if_neg (by simp [word])]
  exact if_pos register

theorem serveWrite_far {m a k : Nat} (far : 0x800000 ≤ addr) (hm : m = (addr - 0x800000) / 0x200000) (member : m ≠ 0) (ha : a = (addr - 0x800000) % 0x200000)
    (kind : winKind a = some k) (plain : s.winBo k = false) : s.serveWrite 0 addr data fbe lbe = s.writeFar m a data fbe lbe := by
  unfold serveWrite
  rw [if_neg (fun h => h rfl), ← hm, ← ha]
  extract_lets m' a' k' b f l
  have ha' : a' = a := if_neg (Nat.not_lt.mpr far)
  have hk : k' = k := by rw [show k' = (winKind a').getD 1 from rfl, ha', kind]; rfl
  have hb : b = data := by rw [show b = s.laned k' data from rfl, hk, laned_plain plain]
  have hf : f = fbe := by rw [show f = if s.winBo k' then swapBe fbe else fbe from rfl, hk, plain]; rfl
  have hl : l = lbe := by rw [show l = if s.winBo k' then swapBe lbe else lbe from rfl, hk, plain]; rfl
  rw [if_neg (by simp [Nat.not_lt.mpr far, member, m']), ha', hb, hf, hl]

theorem writeFar_lost {m a k : Nat} (kind : winKind a = some k) (memory : k ≠ 0) (lost : s.reachable m = false) : s.writeFar m a data fbe lbe =
    s.farError 1 0 m (0x800000 + m * 0x200000 + a) data (shortNs s.presented % 2 ^ 32) := by
  unfold writeFar
  rw [kind]
  dsimp only
  rw [if_neg (by simp [memory]), if_pos (by simp [lost])]

theorem writeFar_sent {m a k : Nat} (kind : winKind a = some k) (memory : k ≠ 0) (reached : s.reachable m = true) (room : s.farPosted < 32)
    (writes : s.brdg.writes.all (fun x : FarOp => x.sent) = true) (op : FarOp) (hop : op = {
      id := s.brdg.nextId % 0xFFF0, tag := s.brdg.nextId % 0xFFF0, src := 0, member := m, addr := 0x800000 + m * 0x200000 + a, len := data.length,
      data := data.take 4, arrival := shortNs s.presented % 2 ^ 32, until_ := s.now + s.fto, win := k, pay := data, be := 16 * fbe + lbe, sent := true }) :
    s.writeFar m a data fbe lbe = ({ s with brdg := { s.brdg with writes := s.brdg.writes ++ [op], nextId := s.brdg.nextId + 1 } } : State).putFar true op := by
  have goes : (s.farPosted < 32 && s.unsent.isNone) = true := by simp [room, unsent_none writes]
  subst hop
  unfold writeFar
  rw [kind]
  dsimp only
  rw [if_neg (by simp [memory]), if_neg (by simp [reached]), goes]
  rfl

end

end State

/-! The instructions of the host port, on the stack master. -/

section
variable {s : State} (hs : s.active = true)
include hs

theorem exec_hostRead_master (master : s.stackId = 0) (tag : Nat) (bar : Fin 2) (addr : Fin 16777216) (dws : Nat) (fbe lbe : Fin 16) (ecc : Bool) :
    exec (.hostRead tag bar addr dws fbe lbe ecc) s = .next (s.hostRead tag bar.val (addr.val / 4 * 4) dws fbe.val lbe.val ecc).settle := by
  rw [exec_hostRead, execHostRead, liveActive_active hs, done_eq, if_neg (not_not.mpr master)]

theorem exec_fseqFenceRead_master (master : s.stackId = 0) (tag : Nat) : exec (.fseqFenceRead tag) s = .next (s.hostRead tag 0 0xC0028 1 15 0 false).settle := by
  rw [exec_fseqFenceRead, execFseqFenceRead, liveActive_active hs, done_eq, if_neg (not_not.mpr master)]

theorem exec_hostPostedWrite_master (master : s.stackId = 0) (bar : Fin 2) (addr : Fin 16777216) (data : Bytes) (fbe lbe : Fin 16) :
    exec (.hostPostedWrite bar addr data fbe lbe) s = .next (s.hostWrite bar.val (addr.val / 4 * 4) data fbe.val lbe.val).drainWaiting.settle := by
  rw [exec_hostPostedWrite, execHostPostedWrite, liveActive_active hs, done_eq, if_neg (not_not.mpr master)]

theorem exec_farTimeout_active (id : Nat) : exec (.farTimeout id) s = .next (s.farTimeout id).bridgeRoom.settle := by
  rw [exec_farTimeout, execFarTimeout, liveActive_active hs, done_eq]

theorem exec_fenceComplete_active : exec .fenceComplete s = .next s.fenceDone.settle := by
  rw [exec_fenceComplete, execFenceComplete, liveActive_active hs, done_eq]

theorem exec_prefetchExpiry_active : exec .prefetchExpiry s = .next s.prefetchExpiry.settle := by
  rw [exec_prefetchExpiry, execPrefetchExpiry, liveActive_active hs, done_eq]

end

/-- What a command shows after a host read was counted and answered without data. -/
theorem State.ReadRefused.counted {s t : State} {c : Fld} {l : List Out} {b : BrdgS} (h : State.ReadRefused (s.bump Reg.BRDG_NPREQ.COUNT) t c l b)
    (hc : c ∈ [Reg.BRDG_UR.COUNT, Reg.BRDG_CA.COUNT]) :
    sent s t.settle l ∧ t.settle.get Reg.BRDG_NPREQ.COUNT = min (s.get Reg.BRDG_NPREQ.COUNT + 1) 0xFFFFFFFF
      ∧ t.settle.get c = min (s.get c + 1) 0xFFFFFFFF ∧ t.settle.flag Reg.BRDG_IRQ.RDERR = true
      ∧ regsBut s t.settle [Reg.BRDG_NPREQ.COUNT, c, Reg.BRDG_IRQ.RDERR] ∧ t.settle.brdg = b ∧ memSame s t.settle := by
  have apart : ∀ c ∈ [Reg.BRDG_UR.COUNT, Reg.BRDG_CA.COUNT], c.key ≠ Reg.GLB_STAT.NFAULT.key ∧ c.key ≠ Reg.CMD_IRQ.CPL.key ∧ c.key ≠ Reg.BRDG_NPREQ.COUNT.key
      ∧ Reg.BRDG_NPREQ.COUNT.key ∉ (Reg.GLB_STAT.NFAULT :: Reg.CMD_IRQ.CPL :: [c, Reg.BRDG_IRQ.RDERR]).map Fld.key := by decide
  obtain ⟨nfault, cpl, other, counted⟩ := apart c hc
  obtain ⟨sends, count, flag, regs, brdg, mem, now⟩ := h.settle nfault cpl
  refine ⟨sent_of_start sends rfl rfl, ?_, ?_, flag, ?_, brdg, mem⟩
  · rw [regs _ counted, State.bump_get_self rfl]
  · rw [count, State.get_bump_ne s other]
  · exact regsBut_trans (regsBut_put (regsBut_refl s _) (by simp) _) (regsBut_of_subset regs (by simp))

/-- Settles O35: a request by the window it is for, an answer by the lemmas of what was sent and counted. -/
theorem hostAccess : Obligations.HostAccess := by
  unfold Obligations.HostAccess
  have near (addr : Fin 16777216) (h : addr.val < 0x800000) : addr.val / 4 * 4 < 0x800000 ∧ State.farTarget 0 (addr.val / 4 * 4) = false :=
    ⟨by omega, State.farTarget_near (by omega)⟩
  have far (addr : Fin 16777216) (m : Nat) (h : 0x800000 ≤ addr.val) (hm : m = (addr.val / 4 * 4 - 0x800000) / 0x200000) (member : m ≠ 0) :
      0x800000 ≤ addr.val / 4 * 4 ∧ State.farTarget 0 (addr.val / 4 * 4) = true :=
    ⟨by omega, State.farTarget_far (by omega)⟩
  refine ⟨?readD3, ?readNone, ?readRegister, ?readLost, ?readSent, ?writeD3, ?writeRegister, ?writeLost, ?farError, ?readSilent, ?writeSilent, ?fenceNow, ?fenceLater,
    ?fenceEnds, ?copyEnds, ?readForms, ?writeForms, ?fenceForms, ?fenceWaits, ?readHeld, ?readDim, ?writeHeld, ?silentNone, ?room, ?writeSent⟩
  case readD3 =>
    intro tag bar addr dws fbe lbe ecc s hs master d3
    refine ⟨_, (exec_hostRead_master hs master ..).trans (by rw [State.hostRead_d3 d3]), ?_⟩
    exact (State.answerUr_refused _ tag).counted (by simp)
  case readNone =>
    intro tag addr dws fbe lbe s hs master d0 bright room low none_
    obtain ⟨here, target⟩ := near addr low
    refine ⟨_, (exec_hostRead_master hs master tag 0 addr dws fbe lbe false).trans (by
      rw [State.hostRead_served d0 bright (by rw [show (0 : Fin 2).val = 0 from rfl, target]; exact room), show (0 : Fin 2).val = 0 from rfl, State.serveRead_here here,
        State.readHere_none none_]), ?_⟩
    exact ⟨sent_emitted rfl rfl rfl, regsBut_settle (regsBut_emit (regsBut_put (regsBut_refl s _) (by simp) _) _), by simp, by simp, by simp [memSame]⟩
  case readRegister =>
    rintro tag addr lbe r s hs master d0 bright room register plain rfl
    obtain ⟨here, target⟩ := near addr (by omega)
    rw [exec_hostRead_master hs master, State.hostRead_served d0 bright (by rw [show (0 : Fin 2).val = 0 from rfl, target]; exact room), show (0 : Fin 2).val = 0 from rfl,
      State.serveRead_here here]
    exact congrArg (fun t : State => Host.Outcome.next t.settle) (State.readHere_register register plain)
  case readLost =>
    rintro tag m addr dws fbe lbe u s hs master d0 bright room high hm member memory window rfl lost mode
    obtain ⟨there, target⟩ := far addr m high hm member
    obtain ⟨k, kind⟩ := Option.ne_none_iff_exists'.mp window
    have data : k ≠ 0 := fun h => memory (h ▸ kind)
    refine ⟨_, (exec_hostRead_master hs master tag 0 addr dws fbe lbe false).trans (by
      rw [State.hostRead_served d0 bright (by rw [show (0 : Fin 2).val = 0 from rfl, target]; exact room), show (0 : Fin 2).val = 0 from rfl,
        State.serveRead_far there hm member rfl, State.readFar_lost kind data lost]), ?_⟩
    have refused := State.failRead_refused (cause := 1) _ tag (4 * dws) ((s.flag_bump_ne (f := Reg.BRDG_NPREQ.COUNT) (by decide)).trans mode)
    obtain ⟨sends, -, count, flag, regs, brdg, mem⟩ := refused.counted (by simp)
    exact ⟨sends, count, flag, regs, brdg, mem⟩
  case readSent =>
    rintro tag m a addr dws fbe lbe u s hs master d0 bright room high hm member ha kind rfl reached up few reads writes
    obtain ⟨there, target⟩ := far addr m high hm member
    obtain ⟨-, clock, wait, asked, -⟩ := s.bump_bridge (f := Reg.BRDG_NPREQ.COUNT) (by simp)
    refine ⟨_, (exec_hostRead_master hs master tag 0 addr dws fbe lbe false).trans (by
      rw [State.hostRead_served d0 bright (by rw [show (0 : Fin 2).val = 0 from rfl, target]; exact room), show (0 : Fin 2).val = 0 from rfl,
        State.serveRead_far there hm member ha, State.readFar_sent kind (by decide) reached up (by rw [asked]; exact few) reads writes, clock, wait]), ?_⟩
    exact ⟨sent_emitted rfl rfl rfl, by simp, regsBut_settle (regsBut_of_regs (regsBut_put (regsBut_refl s _) (by simp) _) rfl), by simp,
      by simp [memSame]⟩
  case writeD3 =>
    intro bar addr data fbe lbe s hs master d3 held waiting sems
    refine ⟨_, (exec_hostPostedWrite_master hs master ..).trans (by
      rw [State.hostWrite_d3 d3, State.drainWaiting_empty (by simpa using held) (by simpa using waiting) (by simpa using sems)]), ?_⟩
    refine ⟨?_, ?_, by simp, regsBut_settle (regsBut_put (regsBut_refl s _) (by simp) _), by simp, by simp [memSame]⟩
    · rw [State.settle_get_ne _ _ (by decide) (by decide), State.bump_get_self rfl]
    · exact Follows.sent_trans (sent_of_outs rfl) (State.settle_follows _)
  case writeRegister =>
    rintro addr data lbe u s hs master d0 bright room register word b0 b1 b2 b3 rfl
    obtain ⟨-, target⟩ := near addr (by omega)
    obtain ⟨lanes, -⟩ := s.bump_bridge (f := Reg.BRDG_PWR.COUNT) (by simp)
    rw [exec_hostPostedWrite_master hs master, State.hostWrite_served d0 bright (by rw [show (0 : Fin 2).val = 0 from rfl, target]; exact room), show (0 : Fin 2).val = 0 from rfl,
      show (15 : Fin 16).val = 15 from rfl, State.serveWrite_register register word (by rw [lanes, State.winBo_plain b0 b1 b2 b3])]
  case writeLost =>
    rintro m a addr data fbe lbe u s hs master d0 bright room high hm member ha kind b0 b1 b2 b3 rfl lost
    obtain ⟨there, target⟩ := far addr m high hm member
    obtain ⟨lanes, clock, -⟩ := s.bump_bridge (f := Reg.BRDG_PWR.COUNT) (by simp)
    rw [exec_hostPostedWrite_master hs master, State.hostWrite_served d0 bright (by rw [show (0 : Fin 2).val = 0 from rfl, target]; exact room), show (0 : Fin 2).val = 0 from rfl,
      State.serveWrite_far there hm member ha kind (by rw [lanes, State.winBo_plain b0 b1 b2 b3]), State.writeFar_lost kind (by decide) lost, clock]
  case farError =>
    intro c src m a q d arr s hq small room
    exact s.farError_logged c src m a q d arr hq small room
  case readSilent =>
    rintro id r u s hs found mode held behind retry reads writes rfl
    have runs : s.farTimeout id = ({ s.reach r.until_ with brdg.reads := s.brdg.reads.filter (·.id ≠ id) } : State).failRead 3 r.tag r.len := by
      simp only [State.farTimeout, found]
    have refused := State.failRead_refused (cause := 3) ({ s.reach r.until_ with brdg.reads := s.brdg.reads.filter (·.id ≠ id) } : State) r.tag r.len mode
    have link := refused.brdg
    have quiet : (s.farTimeout id).bridgeRoom = s.farTimeout id := by
      rw [runs]
      refine State.bridgeRoom_empty (by rw [link]; exact held) (by rw [link]; exact behind) (by rw [link]; exact retry) ?_ (by rw [link]; exact writes)
      rw [link]
      exact List.all_eq_true.mpr fun x hx => List.all_eq_true.mp reads x (List.mem_of_mem_filter hx)
    refine ⟨_, (exec_farTimeout_active hs id).trans (by rw [quiet, runs]), ?_⟩
    obtain ⟨sends, count, flag, regs, brdg, mem, now⟩ := refused.settle (by decide) (by decide)
    exact ⟨now, sent_of_start sends rfl rfl, brdg, count, flag, regs, mem⟩
  case writeSilent =>
    rintro id w u s hs none_read found rfl
    rw [exec_farTimeout_active hs]
    simp only [State.farTimeout, none_read, found]
    rfl
  case fenceNow =>
    intro tag s hs master d0 bright room writes fences plain
    refine ⟨_, (exec_fseqFenceRead_master hs master tag).trans (by
      rw [State.hostRead_served d0 bright (by rw [State.farTarget_near (by decide)]; exact room), State.serveRead_here (by decide), State.readHere_fence,
        State.openFence_free (s := s.bump Reg.BRDG_NPREQ.COUNT) writes fences ((s.flag_bump_ne (f := Reg.BRDG_NPREQ.COUNT) (by decide)).trans plain), State.get_bump_ne s (by decide)]), ?_⟩
    exact ⟨sent_emitted rfl rfl rfl, by simp, by simp, regsBut_settle (regsBut_emit (regsBut_put (regsBut_refl s _) (by simp) _) _), by simp [memSame]⟩
  case fenceLater =>
    intro tag s hs master d0 bright room writes
    refine ⟨_, (exec_fseqFenceRead_master hs master tag).trans (by
      rw [State.hostRead_served d0 bright (by rw [State.farTarget_near (by decide)]; exact room), State.serveRead_here (by decide), State.readHere_fence, State.openFence_waits (s := s.bump Reg.BRDG_NPREQ.COUNT) writes]), ?_⟩
    refine ⟨Follows.sent_trans (sent_of_outs ?_) (State.settle_follows _), by simp, by simp,
      regsBut_settle (regsBut_of_regs (u := s.bump Reg.BRDG_NPREQ.COUNT) (regsBut_put (regsBut_refl s _) (by simp) _) ?_), by simp [memSame]⟩
    · exact s.bump_outs Reg.BRDG_NPREQ.COUNT
    · rfl
  case fenceEnds =>
    intro tag ids l s hs first done_ plain
    refine ⟨_, (exec_fenceComplete_active hs).trans (by rw [State.fenceDone_ready first done_ plain]), ?_⟩
    exact ⟨sent_emitted rfl rfl rfl, by simp, by simp, regsBut_settle (regsBut_of_regs (regsBut_refl s _) rfl), by simp [memSame]⟩
  case copyEnds =>
    intro c l s hs copies
    have runs : s.prefetchExpiry = { s.reach c.until_ with brdg.pre := (s.reach c.until_).brdg.pre.filter fun x : Prefetched => (s.reach c.until_).now < x.until_ } := by
      unfold State.prefetchExpiry
      rw [copies]
    refine ⟨_, (exec_prefetchExpiry_active hs).trans (by rw [runs]), ?_⟩
    exact ⟨by simp [State.reach], by simp [State.reach], by simp, regsBut_settle (regsBut_of_regs (regsBut_refl s _) rfl), by simp [memSame]⟩
  case readForms =>
    intro tag bar addr dws fbe lbe ecc s hs master
    exact ⟨exec_hostRead_master hs master .., exec_fseqFenceRead_master hs master tag⟩
  case writeForms =>
    intro bar addr data fbe lbe id s hs master
    exact ⟨exec_hostPostedWrite_master hs master .., exec_farTimeout_active hs id⟩
  case fenceForms =>
    intro s hs
    refine ⟨exec_fenceComplete_active hs, exec_prefetchExpiry_active hs, fun none_open => ?_, fun none_kept => ?_⟩
    · rw [exec_fenceComplete_active hs, State.fenceDone_nil none_open]
    · rw [exec_prefetchExpiry_active hs, State.prefetchExpiry, none_kept]
  case fenceWaits =>
    intro tag ids l s hs first waits
    rw [exec_fenceComplete_active hs, State.fenceDone_waits first waits]
  case readHeld =>
    intro tag bar addr dws fbe lbe ecc s hs master d0 bright full
    rw [exec_hostRead_master hs master, State.hostRead_held d0 bright full]
  case readDim =>
    intro tag bar addr dws fbe lbe ecc s hs master d0 dim mode
    refine ⟨_, (exec_hostRead_master hs master ..).trans (by rw [State.hostRead_dims d0 dim]), ?_⟩
    have refused := State.answerCa_ones (c := Reg.BRDG_CA.COUNT) _ tag (4 * dws) ((s.flag_bump_ne (f := Reg.BRDG_NPREQ.COUNT) (by decide)).trans mode) rfl (by decide)
    obtain ⟨sends, -, count, flag, regs, brdg, mem⟩ := refused.counted (by simp)
    exact ⟨sends, count, flag, by simp [State.answerCa_events], regs, by rw [brdg]; simp, mem⟩
  case writeHeld =>
    intro bar addr data fbe lbe s hs master d0 bright full
    rw [exec_hostPostedWrite_master hs master, State.hostWrite_held d0 bright full]
  case silentNone =>
    intro id s hs none_read none_written
    rw [exec_farTimeout_active hs]
    simp only [State.farTimeout, none_read, none_written]
  case room =>
    intro s held behind retry reads writes
    exact State.bridgeRoom_empty held behind retry reads writes
  case writeSent =>
    rintro m a addr data op u s hs master d0 bright room high hm member ha kind plain rfl reached posted writes hop
    obtain ⟨there, target⟩ := far addr m high hm member
    obtain ⟨lanes, clock, wait, -⟩ := s.bump_bridge (f := Reg.BRDG_PWR.COUNT) (by simp)
    rw [exec_hostPostedWrite_master hs master, State.hostWrite_served d0 bright (by rw [show (0 : Fin 2).val = 0 from rfl, target]; exact room),
      show (0 : Fin 2).val = 0 from rfl, State.serveWrite_far there hm member ha kind (by rw [lanes, plain]),
      State.writeFar_sent kind (by decide) reached posted writes op (by rw [clock, wait]; exact hop)]
    rfl

end Sys2Proof.Machine
end

section
/-! SUPPORT. What a reset of the PCIe function runs through leaves nothing held back at the bridge and nothing that waits for its lock (R409, R417, R422):
`NoneWaits.f` says so of the state that `f` answers. Functions in the order of the model. -/

namespace Sys2Proof.Machine

set_option Elab.async false

/-- No host request is held back, no packet and no semaphore access waits. -/
def NoneWaits (s : State) : Prop := s.brdg.held = [] ∧ s.brdg.waiting = [] ∧ s.brdg.semWait = []

theorem NoneWaits.drainWaiting {s : State} (h : NoneWaits s) : s.drainWaiting = s := by
  obtain ⟨held, waiting, sems⟩ := h
  exact State.drainWaiting_empty held waiting sems

namespace NoneWaits

variable {s t : State}

theorem of_brdg (h : NoneWaits s) (e : t.brdg = s.brdg) : NoneWaits t := by
  unfold NoneWaits at *
  rwa [e]

theorem upd (h : NoneWaits s) {x_pending x_now x_power x_regs x_cycRun x_cyc x_bnd x_opBase x_opAt x_opPpm x_events x_outs x_onceGen x_onceSec x_onceSess x_free
    x_lanes x_inau x_sched x_sync x_time x_fab x_msix x_glb x_twin x_img x_ports x_host x_cmd x_eng x_prg x_recd x_rest x_pwr x_hkp} :
    NoneWaits (State.mk x_pending x_now x_power x_regs x_cycRun x_cyc x_bnd x_opBase x_opAt x_opPpm x_events x_outs x_onceGen x_onceSec
      x_onceSess x_free x_lanes x_inau x_sched x_sync x_time x_fab x_msix x_glb x_twin x_img x_ports x_host x_cmd x_eng x_prg x_recd x_rest
      x_pwr s.brdg x_hkp) := h

theorem ite {u : State} {c : Prop} [Decidable c] (hu : NoneWaits u) (ht : NoneWaits t) : NoneWaits (if c then u else t) := by
  split <;> assumption

theorem foldl {α : Type} {f : State → α → State} {l : List α} (h : NoneWaits s)
    (hf : ∀ {t : State} {x : α}, NoneWaits t → NoneWaits (f t x)) : NoneWaits (l.foldl f s) :=
  List.foldlRecOn l f h fun _ ht _ _ => hf ht

/-- The state that a pair was taken apart into. -/
theorem fst {α : Type} {p : State × α} {x : α} (h : NoneWaits p.1) (e : p = (t, x)) : NoneWaits t := by rwa [e] at h
theorem snd {α : Type} {p : α × State} {x : α} (h : NoneWaits p.2) (e : p = (x, t)) : NoneWaits t := by rwa [e] at h

/-! Machine/Regs.lean, Link.lean, Flags.lean, Ops.lean -/

theorem put {f : Fld} {v : Nat} (h : NoneWaits s) : NoneWaits (s.put f v) := h.of_brdg (s.put_brdg f v)
theorem putB {f : Fld} {v : Bool} (h : NoneWaits s) : NoneWaits (s.putB f v) := h.put
theorem bumpBy {f : Fld} {n : Nat} (h : NoneWaits s) : NoneWaits (s.bumpBy f n) := h.put
theorem bump {f : Fld} (h : NoneWaits s) : NoneWaits (s.bump f) := h.bumpBy
theorem raise {f : Fld} (h : NoneWaits s) : NoneWaits (s.raise f) := h.of_brdg (s.raise_brdg f)
theorem fault {f : Fld} (h : NoneWaits s) : NoneWaits (s.fault f) := h.of_brdg (s.fault_brdg f)
theorem emit {o : Out} (h : NoneWaits s) : NoneWaits (s.emit o) := h.upd
theorem onLane {n : Nat} {f : LaneS → LaneS} (h : NoneWaits s) : NoneWaits (s.onLane n f) := h.upd
theorem record {code : Nat} {params : Bytes} (h : NoneWaits s) : NoneWaits (s.record code params) := h.upd
theorem recordGen {code key : Nat} {params : Bytes} (h : NoneWaits s) : NoneWaits (s.recordGen code key params) := h.of_brdg (s.recordGen_brdg code key params)
theorem recordSec {code key : Nat} {params : Bytes} (h : NoneWaits s) : NoneWaits (s.recordSec code key params) := h.of_brdg (s.recordSec_brdg code key params)

theorem stackSend {k c d n a b : Nat} {pl : Bytes} (h : NoneWaits s) : NoneWaits (s.stackSend k c d n a b pl) := by
  obtain ⟨q, e⟩ := State.stackSend_brdg s k c d n a b pl
  unfold NoneWaits at *
  rw [e]
  exact h

theorem stackMsg {dst sub : Nat} {pl : Bytes} (h : NoneWaits s) : NoneWaits (s.stackMsg dst sub pl) := h.stackSend

/-! Machine/Store.lean -/

theorem setVoted {a : Nat} {v : Voted} (h : NoneWaits s) : NoneWaits (s.setVoted a v) := .ite h.upd (.ite h.upd (.ite h.upd h))

theorem readVoted {a : Nat} (h : NoneWaits s) : NoneWaits (s.readVoted a) := by
  unfold State.readVoted
  split
  · exact h
  · exact .ite h (.ite h.setVoted.bumpBy.recordSec.fault h.setVoted.bumpBy.recordSec)

/-! Machine/Fabric.lean -/

theorem onFrame {fid : Nat} {g : PFrame → PFrame} (h : NoneWaits s) : NoneWaits (s.onFrame fid g) := h.upd
theorem refreshFloor (h : NoneWaits s) : NoneWaits s.refreshFloor := h.putB

theorem refuseBuf {cls : Cls} (h : NoneWaits s) : NoneWaits (s.refuseBuf cls) := by
  cases cls <;> exact h.bump.raise.recordSec

theorem enterPool {f : PFrame} {len fid : Nat} (h : NoneWaits s) (e : s.enterPool f len = some (fid, t)) : NoneWaits t := by
  obtain ⟨d, -, hd⟩ := Option.map_eq_some_iff.mp e
  exact .snd (p := (_, _)) h.upd.refreshFloor hd

theorem freeFrame {fid : Nat} (h : NoneWaits s) : NoneWaits (s.freeFrame fid) := by
  unfold State.freeFrame
  split
  · exact h
  · exact h.upd.refreshFloor

theorem gc {fid : Nat} (h : NoneWaits s) : NoneWaits (s.gc fid) := by
  unfold State.gc
  split
  · exact h
  · exact .ite h.freeFrame h

theorem sendTo {n k : Nat} (h : NoneWaits s) : NoneWaits (s.sendTo n k) := by
  unfold State.sendTo
  split
  · exact h
  · split
    · exact h
    · exact .ite h h.emit.put.onLane

theorem flushSets {n : Nat} (h : NoneWaits s) : NoneWaits (s.flushSets n) := .onLane (.foldl h fun h => h.emit)

theorem endTx {n : Nat} {good : Bool} (h : NoneWaits s) : NoneWaits (s.endTx n good) := by
  unfold State.endTx
  split
  · exact h
  · exact h.emit.onLane.flushSets.gc

theorem preTx {n p : Nat} (h : NoneWaits s) : NoneWaits (s.preTx n p) := h.sendTo.emit.onLane.flushSets

theorem placeSets {n : Nat} (h : NoneWaits s) : NoneWaits (s.placeSets n) := by
  unfold State.placeSets
  split
  · exact h.flushSets
  · split
    · exact h
    · exact .ite h h.sendTo.flushSets.onLane

theorem advance {n : Nat} (h : NoneWaits s) : NoneWaits (s.advance n) := by
  unfold State.advance
  extract_lets +onlyGivenNames _
  split
  · exact h.placeSets
  · split
    · exact h.placeSets.onLane
    · refine .ite h.placeSets.sendTo.endTx ?_
      split
      · exact h.placeSets.preTx
      · exact .ite h.placeSets.sendTo.endTx h.placeSets.sendTo

theorem nextSeq {cls id c : Nat} (h : NoneWaits s) : NoneWaits (s.nextSeq cls id c).2 := by
  unfold State.nextSeq
  split
  · exact h.upd
  · split
    · exact h
    · exact h.upd

theorem setUsed {fwd : Bool} {k : Nat} (h : NoneWaits s) : NoneWaits (s.setUsed fwd k) := .ite h.upd h.upd

theorem numberOwn {fid : Nat} (h : NoneWaits s) : NoneWaits (s.numberOwn fid) := by
  unfold State.numberOwn
  split
  · exact h
  · split
    · exact h
    · refine .ite h ?_
      extract_lets +onlyGivenNames _ _ _ _ _
      split
      · exact h.setUsed.onFrame
      · refine .onFrame ?_
        split
        · exact h.setUsed
        · exact h.setUsed.nextSeq

theorem startTx {n fid : Nat} {crossing : Bool} (h : NoneWaits s) : NoneWaits (s.startTx n fid crossing) := by
  unfold State.startTx
  split
  · exact h
  · exact h.numberOwn.emit.onLane

theorem dropItem {n fid : Nat} (h : NoneWaits s) : NoneWaits (s.dropItem n fid) := h.onLane.gc

theorem dropAged {n k : Nat} {q : List QItem} (h : NoneWaits s) : NoneWaits (s.dropAged n q k).1 := by
  induction k generalizing s q with
  | zero =>
    rw [State.dropAged]
    exact h
  | succ k ih =>
    unfold State.dropAged
    split
    · exact h
    · split
      · exact h
      · split
        · exact ih h.dropItem.bump.raise.recordSec
        · exact h

theorem resumeTx {n : Nat} (h : NoneWaits s) : NoneWaits (s.resumeTx n) := by
  unfold State.resumeTx
  split
  · exact h
  · split
    · exact h.onLane
    · exact .ite (.ite h.emit.onLane.endTx h) (.ite h.emit.onLane h)

theorem refuseOwn {n fid code : Nat} (h : NoneWaits s) : NoneWaits (s.refuseOwn n fid code) := by
  unfold State.refuseOwn
  split
  · exact h
  · refine .dropItem ?_
    split
    · refine .ite h.onFrame (.ite h.onFrame.bump.raise.recordGen ?_)
      split
      · exact h.onFrame.bump.raise.recordGen
      · exact h.onFrame.bump.recordGen
    · exact h.onFrame

theorem dropLate {n : Nat} {q : List QItem} (h : NoneWaits s) : NoneWaits (s.dropLate n q) := by
  induction q generalizing s with
  | nil => exact h
  | cons it q ih =>
    unfold State.dropLate
    split
    · exact h
    · exact .ite h (ih h.refuseOwn)

theorem startHead {n : Nat} {q : List QItem} {ok : QItem → PFrame → Bool} (h : NoneWaits s) (e : s.startHead n q ok = some t) : NoneWaits t := by
  unfold State.startHead at e
  split at e
  · cases e
  · split at e
    · cases e
      exact h.dropItem
    · split at e
      · cases e
        exact h.startTx.onLane
      · cases e

theorem chooseTx {n : Nat} (h : NoneWaits s) : NoneWaits (s.chooseTx n) := by
  refine .ite (.ite h.resumeTx h) ?_
  extract_lets +onlyGivenNames t l
  have ht : NoneWaits t := h.dropLate
  split
  next u e =>
    rcases (Option.orElse_eq_some _ _ _).mp e with e | ⟨-, e⟩
    · exact ht.startHead e
    · exact ht.startHead e
  next =>
    refine .ite ht.resumeTx ?_
    extract_lets +onlyGivenNames pass
    split
    next u qm e =>
    split
    next v qb e' =>
    have hv : NoneWaits v := .fst (NoneWaits.dropAged (.fst ht.dropAged e)) e'
    extract_lets +onlyGivenNames ok mFirst first last
    split
    next w e => exact hv.startHead e
    next =>
      refine .ite ?_ hv
      cases e : v.startHead n last ok with
      | none => exact hv
      | some w => exact hv.startHead e

theorem enqueue {n fid : Nat} {exempt crossing : Bool} (h : NoneWaits s) : NoneWaits (s.enqueue n fid exempt crossing) := by
  unfold State.enqueue
  split
  · exact h
  · extract_lets +onlyGivenNames _ _
    split
    · exact .ite h.onLane (.ite h.onLane h.bump.raise)
    · exact .ite h.onLane h.bump.raise
    · exact h.onLane

theorem originate {bytes : Bytes} {lanes : List Nat} {exempt : Bool} {code : Nat} {g : PFrame → PFrame} (h : NoneWaits s) :
    NoneWaits (s.originate bytes lanes exempt code g) := by
  refine .ite h ?_
  extract_lets +onlyGivenNames _
  split
  next => exact h.refuseBuf
  next fid s e => exact .gc (.foldl (.foldl (.onFrame (h.enterPool e)) fun h => h.enqueue) fun h => h.advance.chooseTx)

/-! Machine/Ports.lean -/

theorem hostPut {a : Nat} {d : Bytes} (h : NoneWaits s) : NoneWaits (s.hostPut a d) := .foldl h fun h => h.emit

theorem dropFetch {x : Fetch} (h : NoneWaits s) : NoneWaits (s.dropFetch x) := by
  unfold State.dropFetch
  split
  · exact h.onFrame.gc
  · exact h.freeFrame
  · exact h

theorem rxTaken {p q : Nat} (h : NoneWaits s) : NoneWaits (s.rxTaken p q) := .foldl h.upd fun h => h.onFrame.gc

/-! Machine/Interlock.lean -/

theorem pacePending (h : NoneWaits s) : NoneWaits s.pacePending := .ite h.upd.put h
theorem endAct {a : Act} (h : NoneWaits s) : NoneWaits (s.endAct a) := h.upd.put.pacePending

/-! Machine/Remote.lean: completions -/

theorem routeOut {cls : Cls} {dst : Nat} {line? : Option Nat} (h : NoneWaits s) : NoneWaits (s.routeOut cls dst line?).2 := by
  unfold State.routeOut
  split
  · exact h
  · refine List.foldlRecOn (motive := fun p : List Nat × State => NoneWaits p.2) _ _ h fun acc ih e _ => ?_
    split
    · exact .ite ih ih.bump
    · split
      · exact ih
      · split
        · exact ih
        · exact .ite ih.bump ih

theorem sendNow {x : RemoteOut} (h : NoneWaits s) : NoneWaits (s.sendNow x) :=
  .ite h.readVoted (.ite h.readVoted.bump h.readVoted.upd.routeOut.originate.originate)

theorem refreshOpen (h : NoneWaits s) : NoneWaits s.refreshOpen := h.put
theorem sendOut {x : RemoteOut} (h : NoneWaits s) : NoneWaits (s.sendOut x) := .ite h.stackMsg (.ite h.upd.refreshOpen h.sendNow)

theorem writeCompletion {sidx addr tag status op info : Nat} {result : Bytes} (h : NoneWaits s) :
    NoneWaits (s.writeCompletion sidx addr tag status op info result) := by
  unfold State.writeCompletion
  extract_lets +onlyGivenNames _ _ _ _ _ _ _ _ t
  have ht : NoneWaits t := .ite h.hostPut.hostPut.put.upd h.hostPut.hostPut.put
  exact .ite ht.upd.raise ht.upd

theorem dropKey {n : Nat} (h : NoneWaits s) : NoneWaits (s.dropKey n) := .ite h.endAct h

theorem complete {n status info : Nat} {result : Bytes} (h : NoneWaits s) : NoneWaits (s.complete n status info result) := by
  unfold State.complete
  split
  · exact h
  · extract_lets +onlyGivenNames _ _ _ t
    have ht : NoneWaits t := .ite h.upd.dropKey.refreshOpen.bump h.upd.dropKey.refreshOpen
    split
    · exact .ite ht.upd.refreshOpen ht.writeCompletion
    · exact .ite ht.sendOut ht
    · exact ht.stackMsg

/-! Machine/BlockReset.lean, Machine/Pcie.lean -/

theorem abortSlots (h : NoneWaits s) : NoneWaits s.abortSlots := .foldl h fun h => h.complete

theorem endFrames_bridge (h : NoneWaits s) : NoneWaits (s.endFrames 12) := by
  have released : NoneWaits (if s.get Reg.BRDG_LOCK.STATE = 0 then s
      else if s.stackId ≠ 0 then s.stackSend 7 0 0 0 0 0 []
      else if s.get Reg.BRDG_LOCK.MEMBER ≠ 0 then s.stackSend 7 0 (s.get Reg.BRDG_LOCK.MEMBER) 0 0 0 []
      else s) := .ite h (.ite h.stackSend (.ite h.stackSend h))
  simp only [State.endFrames]
  split
  · exact released
  · exact .stackMsg (.ite released.stackSend released)

theorem blockExtra_bridge (h : NoneWaits s) : NoneWaits (s.blockExtra 12) := by
  obtain ⟨-, waiting, sems⟩ := h
  exact ⟨rfl, waiting, by simp [State.blockExtra, sems]⟩

theorem blockReset_bridge (h : NoneWaits s) : NoneWaits (s.blockReset 12 false) := by
  unfold State.blockReset
  extract_lets +onlyGivenNames _ _ _ _ _ _ _ _ _ _ _ t _
  have ht : NoneWaits t := by
    unfold t
    split
    · exact h.endFrames_bridge.upd.blockExtra_bridge.upd
    · exact h.endFrames_bridge.upd.blockExtra_bridge
  exact ht

theorem dropRings (h : NoneWaits s) : NoneWaits s.dropRings :=
  .upd (.foldl (.foldl h.upd fun h => h.dropFetch) fun h => .foldl h fun h => h.put.put.rxTaken)

theorem drainLate (h : NoneWaits s) : NoneWaits s.drainLate :=
  .foldl h.upd.refreshOpen fun h => (by split; exacts [h.writeCompletion, h])

theorem abortOpen {down : Bool} (h : NoneWaits s) : NoneWaits (s.abortOpen down) :=
  .ite (.abortSlots (.bumpBy (.refreshOpen (.foldl h.upd fun h => h.dropKey))))
    (.drainLate (.abortSlots (.bumpBy (.refreshOpen (.foldl h.upd fun h => h.dropKey)))))

end NoneWaits

end Sys2Proof.Machine
end

section
/-! SUPPORT. The PCIe function: its link, its resets, its configuration space (R408, R409, R485). -/

namespace Sys2Proof.Machine

set_option Elab.async false

namespace State

variable {s : State}

/-! A reset of the function, once its packets have ended (R409, R485). -/

/-- D0 and the default sizes. -/
def resetSizes (s : State) : State := (((s.put Reg.BRDG_PCIE.DSTATE 0).put Reg.BRDG_STAT.D3 0).put Reg.BRDG_PCIE.MRRS 2).put Reg.BRDG_PCIE.MPS 0

/-- The link is down. -/
def linkGone (s : State) : State := ((s.put Reg.BRDG_STAT.LINKUP 0).put Reg.BRDG_PCIE.WIDTH 0).put Reg.BRDG_PCIE.SPEED 0

theorem linkGone_get (s : State) : s.linkGone.get Reg.BRDG_STAT.LINKUP = 0 ∧ s.linkGone.get Reg.BRDG_PCIE.WIDTH = 0 ∧ s.linkGone.get Reg.BRDG_PCIE.SPEED = 0 := by
  refine ⟨?_, ?_, ?_⟩
  all_goals simp (disch := decide) only [linkGone, get_put_ne, get_put_self, Nat.zero_mod]

/-- D0 and the default sizes read so, whether or not the link goes down. -/
theorem resetSizes_get (s : State) (cause : Nat) :
    (if cause = 4 then s.resetSizes else s.resetSizes.linkGone).get Reg.BRDG_PCIE.DSTATE = 0
      ∧ (if cause = 4 then s.resetSizes else s.resetSizes.linkGone).get Reg.BRDG_STAT.D3 = 0
      ∧ (if cause = 4 then s.resetSizes else s.resetSizes.linkGone).get Reg.BRDG_PCIE.MRRS = 2
      ∧ (if cause = 4 then s.resetSizes else s.resetSizes.linkGone).get Reg.BRDG_PCIE.MPS = 0 := by
  split
  all_goals
    simp (disch := decide) only [linkGone, resetSizes, get_put_ne, get_put_self, Nat.zero_mod]
    decide

/-- Base addresses, ASPM, the MSI-X capability and, for PERST#, the AER status and the retry time at their defaults. -/
def resetSpace (s : State) (cause : Nat) : State :=
  let u : State := { s.resetSizes with brdg := { s.brdg with bar0 := 0, bar2 := 0, aspm := 0, aer := if cause = 1 then 0 else s.brdg.aer } }
  let u : State := { u with msix := { members := u.msix.members, inta := u.msix.inta } }
  let u := if cause = 4 then u else u.linkGone
  if cause = 1 then { u with brdg.crsUntil := u.now + ms 20 } else u

/-- The function's own state is reset and the reset recorded. -/
def resetFunction (s : State) (cause : Nat) (was : Bool) : State :=
  let u := (s.resetSpace cause).record 0x0C02 (natBe 1 cause)
  if was && cause ≠ 4 then u.raise Reg.BRDG_IRQ.LINK else u

theorem pcieReset_eq (s : State) (cause : Nat) : s.pcieReset cause =
    ((s.dropRings.blockReset 12 false).abortOpen (cause ≠ 4)).resetFunction cause (s.flag Reg.BRDG_STAT.LINKUP) := rfl

theorem resetSpace_brdg (s : State) (cause : Nat) : (s.resetSpace cause).brdg = { s.brdg with
    bar0 := 0, bar2 := 0, aspm := 0, aer := if cause = 1 then 0 else s.brdg.aer
    crsUntil := if cause = 1 then s.now + ms 20 else s.brdg.crsUntil } := by
  unfold resetSpace
  split <;> split <;> rfl

theorem resetSpace_msix (s : State) (cause : Nat) : (s.resetSpace cause).msix = { members := s.msix.members, inta := s.msix.inta } := by
  unfold resetSpace
  split <;> split <;> rfl

theorem resetSpace_now (s : State) (cause : Nat) : (s.resetSpace cause).now = s.now := by
  unfold resetSpace
  split <;> split <;> rfl

/-- The sizes alone, or with the link's fields, are the registers that are reset here. -/
theorem resetSpace_get (s : State) (cause : Nat) (g : Fld) : (s.resetSpace cause).get g = (if cause = 4 then s.resetSizes else s.resetSizes.linkGone).get g := by
  refine get_congr ?_ g
  unfold resetSpace
  extract_lets _ _ _ _ w
  have linked : w.regs = (if cause = 4 then s.resetSizes else s.resetSizes.linkGone).regs :=
    (apply_ite regs _ _ _).trans (apply_ite regs (cause = 4) s.resetSizes s.resetSizes.linkGone).symm
  exact iteInduction (motive := fun x : State => x.regs = (if cause = 4 then s.resetSizes else s.resetSizes.linkGone).regs) (fun _ => linked) fun _ => linked

/-- The record and the flag that is raised leave every other field as reset. -/
theorem resetFunction_get (s : State) (cause : Nat) (was : Bool) {g : Fld} (hg : g.key ≠ Reg.BRDG_IRQ.LINK.key) :
    (s.resetFunction cause was).get g = (s.resetSpace cause).get g := by
  unfold resetFunction
  extract_lets u
  have recorded : u.get g = (s.resetSpace cause).get g := rfl
  exact iteInduction (motive := fun x : State => x.get g = (s.resetSpace cause).get g) (fun _ => (raise_get_ne _ _ _ hg).trans recorded) fun _ => recorded

theorem resetFunction_frame (s : State) (cause : Nat) (was : Bool) : (s.resetFunction cause was).brdg = (s.resetSpace cause).brdg
    ∧ (s.resetFunction cause was).now = s.now ∧ newest (s.resetFunction cause was).settle = some 0x0C02
    ∧ (s.resetFunction cause was).msix.enable = false ∧ (s.resetFunction cause was).msix.table = [] := by
  have msix := s.resetSpace_msix cause
  have now := s.resetSpace_now cause
  unfold resetFunction
  extract_lets u
  have kept : u.brdg = (s.resetSpace cause).brdg ∧ u.now = s.now ∧ u.msix.enable = false ∧ u.msix.table = [] :=
    ⟨rfl, now, congrArg MsixS.enable msix, congrArg MsixS.table msix⟩
  obtain ⟨brdg, time, enable, table⟩ := kept
  split
  · exact ⟨(raise_brdg ..).trans brdg, (raise_now ..).trans time, newest_recorded_raise .., (raise_msix_enable ..).trans enable,
      (raise_msix_table ..).trans table⟩
  · exact ⟨brdg, time, newest_recorded .., enable, table⟩


theorem resetFunction_noneWaits {cause : Nat} {was : Bool} (h : NoneWaits s) : NoneWaits (s.resetFunction cause was) := by
  obtain ⟨brdg, -⟩ := s.resetFunction_frame cause was
  unfold NoneWaits at *
  rw [brdg, resetSpace_brdg]
  exact h

theorem pcieReset_noneWaits (h : NoneWaits s) (cause : Nat) : NoneWaits (s.pcieReset cause) := by
  rw [pcieReset_eq]
  exact resetFunction_noneWaits h.dropRings.blockReset_bridge.abortOpen

/-! The link (R408). -/

theorem drainLate_nil (h : s.cmd.late = []) : s.drainLate = s.refreshOpen := by
  unfold drainLate
  rw [h]
  exact congrArg refreshOpen (by rw [← h])

/-- The link is up with its speed and width, which is raised and recorded. -/
def linkShown (s : State) (speed width : Nat) : State :=
  ((((s.put Reg.BRDG_STAT.LINKUP 1).put Reg.BRDG_PCIE.SPEED speed).put Reg.BRDG_PCIE.WIDTH width).raise Reg.BRDG_IRQ.LINK).record 0x0C01 (natBe 1 speed ++ natBe 1 width)

theorem linkShown_get (s : State) {speed width : Nat} (hs : speed < 2) (hw : width < 3) : (s.linkShown speed width).get Reg.BRDG_STAT.LINKUP = 1
    ∧ (s.linkShown speed width).get Reg.BRDG_PCIE.SPEED = speed ∧ (s.linkShown speed width).get Reg.BRDG_PCIE.WIDTH = width
    ∧ (s.linkShown speed width).flag Reg.BRDG_IRQ.LINK = true := by
  refine ⟨?_, ?_, ?_, flag_raise rfl⟩
  all_goals simp (disch := decide) only [linkShown, record_get, raise_get_ne, get_put_ne, get_put_self]
  · exact Nat.mod_eq_of_lt (by decide)
  · exact Nat.mod_eq_of_lt (hs.trans_le (by decide))
  · exact Nat.mod_eq_of_lt (hw.trans_le (by decide))

theorem linkShown_frame (s : State) (speed width : Nat) : (s.linkShown speed width).brdg = s.brdg ∧ memSame s (s.linkShown speed width)
    ∧ newest (s.linkShown speed width) = some 0x0C01
    ∧ regsBut s (s.linkShown speed width) [Reg.BRDG_STAT.LINKUP, Reg.BRDG_PCIE.SPEED, Reg.BRDG_PCIE.WIDTH, Reg.BRDG_IRQ.LINK] :=
  ⟨by simp [linkShown], by simp [linkShown, memSame], by simp [linkShown, newest, record],
    regsBut_recordWith (regsBut_raise (regsBut_put (regsBut_put (regsBut_put (regsBut_refl s _) (by simp) _) (by simp) _) (by simp) _) (by simp))⟩

theorem pcieLink_up (late : s.cmd.late = []) (speed width : Nat) :
    s.pcieLink true speed width = (s.linkShown speed width).put Reg.CMD_STAT.OPEN s.slotsTaken := by
  have cmd : (s.linkShown speed width).cmd = s.cmd := raise_cmd _ _
  have taken : (s.linkShown speed width).slotsTaken = s.slotsTaken := by unfold slotsTaken; rw [cmd]
  exact (drainLate_nil (s := s.linkShown speed width) (by rw [cmd, late])).trans (by rw [refreshOpen, taken])

theorem pcieLink_down (down : s.flag Reg.BRDG_STAT.LINKUP = false) (speed width : Nat) : s.pcieLink false speed width = s := by
  simp [pcieLink, down]

/-! Configuration requests (R409, R485). -/

section
variable {tag item v : Nat} {write : Bool}

theorem cfgRequest_refusedRead : s.cfgRequest tag false 15 v = (s.bump Reg.BRDG_NPREQ.COUNT).answerUr tag := by
  simp only [cfgRequest, if_true, Bool.false_eq_true, if_false]

theorem cfgRequest_refusedWrite : s.cfgRequest tag true 15 v = s.aerReport 1 := by
  simp only [cfgRequest, if_true]

theorem cfgRequest_retry (served : item ≠ 15) (early : s.now < s.brdg.crsUntil) : s.cfgRequest tag write item v = s.emit (.cpl tag 2 false []) := by
  simp [cfgRequest, served, early]

theorem cfgRequest_write (served : item ≠ 15) (due : s.brdg.crsUntil ≤ s.now) :
    s.cfgRequest tag true item v = (s.cfgWrite item v).emit (.cpl tag 0 false []) := by
  simp [cfgRequest, served, Nat.not_lt.mpr due]

theorem cfgRequest_read (served : item ≠ 15) (due : s.brdg.crsUntil ≤ s.now) :
    s.cfgRequest tag false item v = s.emit (.cpl tag 0 false (natLe 4 (s.cfgRead item))) := by
  simp [cfgRequest, served, Nat.not_lt.mpr due]

/-- The identification capability and the places of the tables (Table 15.1). -/
theorem cfgRead_places (low : 16 ≤ item) (high : item ≤ 18) :
    s.cfgRead item = if item = 16 then 3 else if item = 17 then 0x200000 else 0x201000 := by
  obtain rfl | rfl | rfl : item = 16 ∨ item = 17 ∨ item = 18 := by omega
  · rfl
  · rfl
  · rfl

theorem cfgWrite_sleep (d3 : v % 4 = 3) : s.cfgWrite 2 v = (s.put Reg.BRDG_PCIE.DSTATE 3).put Reg.BRDG_STAT.D3 1 := by simp [cfgWrite, d3]

theorem cfgWrite_wake (d0 : v % 4 = 0) (d3 : s.inD3 = true) : s.cfgWrite 2 v = ((s.put Reg.BRDG_PCIE.DSTATE 0).put Reg.BRDG_STAT.D3 0).enterD0 := by
  simp [cfgWrite, d0, d3]

theorem cfgWrite_sizes (small : bits v 7 5 ≤ 1) :
    s.cfgWrite 3 v = (s.put Reg.BRDG_PCIE.MPS (bits v 7 5)).put Reg.BRDG_PCIE.MRRS (bits v 14 12) := by simp [cfgWrite, small]

theorem cfgWrite_base (word : v < 2 ^ 32) :
    s.cfgWrite 7 v = { s with brdg.bar0 := s.brdg.bar0 / 2 ^ 32 * 2 ^ 32 + v / 2 ^ 24 * 2 ^ 24 } := by
  simp only [cfgWrite, barWrite, Bool.false_eq_true, if_false, Nat.mod_eq_of_lt word]
  rfl

theorem cfgWrite_errors : s.cfgWrite 13 v = { s with brdg.aer := s.brdg.aer &&& (2 ^ 32 - 1 - v % 2 ^ 32) } := rfl

/-- A status bit that is written 1 is cleared. -/
theorem bit_cleared {a i : Nat} (word : v < 2 ^ 32) (hi : i < 32) : bit (a &&& (2 ^ 32 - 1 - v % 2 ^ 32)) i = (bit a i && !bit v i) := by
  have mask : 2 ^ 32 - 1 - v % 2 ^ 32 = 2 ^ 32 - (v + 1) := by
    rw [Nat.mod_eq_of_lt word]
    omega
  rw [bit, bit, bit, mask, Nat.testBit_and, Nat.testBit_two_pow_sub_succ word]
  simp [hi]

end

/-- An error that is reported and nothing else. -/
theorem aerReport_sent (s : State) (k : Nat) : sent s (s.aerReport k) [.aer k] ∧ (s.aerReport k).regs = s.regs ∧ memSame s (s.aerReport k) :=
  ⟨sent_emit (sent_of_outs rfl) rfl rfl, rfl, ⟨rfl, rfl, rfl, rfl, rfl⟩⟩

end State

section
variable {s : State} (hs : s.active = true)
include hs

section
variable (master : s.stackId = 0)
include master

theorem exec_pcieReset_master (k : Fin 4) : exec (.pcieReset k) s = .next (s.pcieReset (k.val + 1)).drainWaiting.settle := by
  rw [exec_pcieReset, execPcieReset, liveActive_active hs, done_eq, if_neg (not_not.mpr master)]

theorem exec_pcieConfigRequest_master (tag : Nat) (w : Bool) (i : Fin 32) (v : Word) :
    exec (.pcieConfigRequest tag w i v) s = .next (s.cfgRequest tag w i.val v.toNat).settle := by
  rw [exec_pcieConfigRequest, execPcieConfigRequest, liveActive_active hs, done_eq, if_neg (not_not.mpr master)]

theorem exec_pcieLinkChange_master (up : Bool) (p : Fin 2) (w : Fin 3) :
    exec (.pcieLinkChange up p w) s = .next (s.pcieLink up p.val w.val).drainWaiting.settle := by
  rw [exec_pcieLinkChange, execPcieLinkChange, liveActive_active hs, done_eq, if_neg (not_not.mpr master)]

end

theorem exec_pcie_member (member : s.stackId ≠ 0) (b : Bool) (k : Fin 4) (p : Fin 2) (w : Fin 3) (tag : Nat) (i : Fin 32) (v : Word) :
    exec (.pcieReset k) s = .next s.settle ∧ exec (.pcieConfigRequest tag b i v) s = .next s.settle
      ∧ exec (.pcieLinkChange b p w) s = .next s.settle := by
  refine ⟨?_, ?_, ?_⟩
  · rw [exec_pcieReset, execPcieReset, liveActive_active hs, done_eq, if_pos member]
  · rw [exec_pcieConfigRequest, execPcieConfigRequest, liveActive_active hs, done_eq, if_pos member]
  · rw [exec_pcieLinkChange, execPcieLinkChange, liveActive_active hs, done_eq, if_pos member]

end

/-- A configuration request that was answered and left the registers `fs` written. -/
theorem answered {s t : State} {x : Out} {fs : List Fld} (outs : t.outs = s.outs) (pwr : t.pwr = s.pwr) (plain : outFollows x = false)
    (regs : regsBut s t fs) (events : t.events = s.events) (mem : memSame s t) :
    sent s (t.emit x).settle [x] ∧ regsBut s (t.emit x).settle fs ∧ (t.emit x).settle.events = s.events ∧ memSame s (t.emit x).settle :=
  ⟨sent_emitted outs pwr plain, regsBut_settle (regsBut_emit regs x), by simpa using events, State.memSame_trans mem (by simp [memSame])⟩

/-- Settles O36: a reset by what its parts leave at the bridge and its last records, a configuration request by its item. -/
theorem pcieFunction : Obligations.PcieFunction := by
  unfold Obligations.PcieFunction
  refine ⟨?up, ?reset, ?retry, ?ids, ?sleep, ?forms, ?down, ?wake, ?sizes, ?refusedRead, ?base, ?errors, ?refusedWrite, ?places⟩
  case up =>
    intro p w s hs master late held waiting sems
    have none_ : NoneWaits s := ⟨held, waiting, sems⟩
    have linked : NoneWaits ((s.linkShown p.val w.val).put Reg.CMD_STAT.OPEN s.slotsTaken) := none_.put.put.put.raise.record.put
    refine ⟨_, (exec_pcieLinkChange_master hs master true p w).trans (by rw [State.pcieLink_up late, linked.drainWaiting]), ?_⟩
    obtain ⟨up, speed, width, raised⟩ := s.linkShown_get p.isLt w.isLt
    obtain ⟨brdg, mem, recorded, regs⟩ := s.linkShown_frame p.val w.val
    have shown {g : Fld} (hg : g ∈ [Reg.BRDG_STAT.LINKUP, Reg.BRDG_PCIE.SPEED, Reg.BRDG_PCIE.WIDTH, Reg.BRDG_IRQ.LINK]) :
        ((s.linkShown p.val w.val).put Reg.CMD_STAT.OPEN s.slotsTaken).settle.get g = (s.linkShown p.val w.val).get g := by
      have apart : ∀ g ∈ [Reg.BRDG_STAT.LINKUP, Reg.BRDG_PCIE.SPEED, Reg.BRDG_PCIE.WIDTH, Reg.BRDG_IRQ.LINK], g.key ≠ Reg.GLB_STAT.NFAULT.key
          ∧ g.key ≠ Reg.CMD_IRQ.CPL.key ∧ g.key ≠ Reg.CMD_STAT.OPEN.key := by decide
      obtain ⟨nfault, cpl, open_⟩ := apart g hg
      rw [State.settle_get_ne _ _ nfault cpl, State.get_put_ne _ _ _ _ open_]
    refine ⟨(shown (by simp)).trans up, (shown (by simp)).trans speed, (shown (by simp)).trans width, ?_, ?_, ?_, ?_, ?_, ?_⟩
    · rw [State.flag, shown (by simp)]
      exact raised
    · rw [newest, State.settle_events, State.put_events]
      exact recorded
    · rw [State.settle_get_ne _ _ (by decide) (by decide), State.get_put_self]
      rfl
    · exact regsBut_settle (regsBut_put (regsBut_of_subset regs (by simp)) (by simp) _)
    · rw [State.settle_brdg, State.put_brdg, brdg]
    · exact State.memSame_trans mem (by simp [memSame])
  case reset =>
    intro k s hs master held waiting sems
    have none_ : NoneWaits s := ⟨held, waiting, sems⟩
    refine ⟨_, (exec_pcieReset_master hs master k).trans (by rw [(State.pcieReset_noneWaits none_ _).drainWaiting, State.pcieReset_eq]), ?_⟩
    generalize (s.dropRings.blockReset 12 false).abortOpen (decide (k.val + 1 ≠ 4)) = u
    generalize s.flag Reg.BRDG_STAT.LINKUP = was
    obtain ⟨brdg, now, recorded, enable, table⟩ := u.resetFunction_frame (k.val + 1) was
    rw [State.resetSpace_brdg] at brdg
    have shown {g : Fld} (hg : g ∈ [Reg.BRDG_PCIE.DSTATE, Reg.BRDG_STAT.D3, Reg.BRDG_PCIE.MRRS, Reg.BRDG_PCIE.MPS, Reg.BRDG_STAT.LINKUP, Reg.BRDG_PCIE.WIDTH,
        Reg.BRDG_PCIE.SPEED]) : (u.resetFunction (k.val + 1) was).settle.get g = (if k.val + 1 = 4 then u.resetSizes else u.resetSizes.linkGone).get g := by
      have apart : ∀ g ∈ [Reg.BRDG_PCIE.DSTATE, Reg.BRDG_STAT.D3, Reg.BRDG_PCIE.MRRS, Reg.BRDG_PCIE.MPS, Reg.BRDG_STAT.LINKUP, Reg.BRDG_PCIE.WIDTH,
          Reg.BRDG_PCIE.SPEED], g.key ≠ Reg.GLB_STAT.NFAULT.key ∧ g.key ≠ Reg.CMD_IRQ.CPL.key ∧ g.key ≠ Reg.BRDG_IRQ.LINK.key := by decide
      obtain ⟨nfault, cpl, link⟩ := apart g hg
      rw [State.settle_get_ne _ _ nfault cpl, State.resetFunction_get _ _ _ link, State.resetSpace_get]
    obtain ⟨state, d3, mrrs, mps⟩ := u.resetSizes_get (k.val + 1)
    have perst : k.val + 1 = 1 ↔ k.val = 0 := by omega
    refine ⟨(shown (by simp)).trans state, (shown (by simp)).trans d3, (shown (by simp)).trans mrrs, (shown (by simp)).trans mps, fun hk => ?_, recorded,
      (State.settle_msix_enable _).trans enable, (State.settle_msix_table _).trans table, fun hk => ?_, ?_, ?_, ?_⟩
    · obtain ⟨up, width, speed⟩ := u.resetSizes.linkGone_get
      rw [shown (by simp), shown (by simp), shown (by simp), if_neg (by omega)]
      exact ⟨up, width, speed⟩
    all_goals rw [State.settle_brdg, brdg]
    · rw [State.settle_now, now, if_pos (perst.mpr hk), if_pos (perst.mpr hk)]
      exact ⟨rfl, rfl⟩
  case retry =>
    intro tag w i v s hs master served early
    refine ⟨_, (exec_pcieConfigRequest_master hs master tag w i v).trans (by rw [State.cfgRequest_retry served early]), ?_⟩
    obtain ⟨sends, regs, events, mem⟩ := answered (x := .cpl tag 2 false []) (fs := []) (rfl : s.outs = s.outs) rfl rfl (regsBut_refl s _) rfl ⟨rfl, rfl, rfl, rfl, rfl⟩
    exact ⟨sends, regs, events, by simp, mem⟩
  case ids =>
    intro tag v s hs master due
    refine ⟨_, (exec_pcieConfigRequest_master hs master tag false 0 v).trans (by rw [State.cfgRequest_read (by decide) due]), ?_⟩
    obtain ⟨sends, regs, events, mem⟩ := answered (x := .cpl tag 0 false (natLe 4 (s.cfgRead 0))) (fs := []) (rfl : s.outs = s.outs) rfl rfl (regsBut_refl s _) rfl
      ⟨rfl, rfl, rfl, rfl, rfl⟩
    exact ⟨sends, regs, events, by simp, mem⟩
  case sleep =>
    intro tag v s hs master due d3
    refine ⟨_, (exec_pcieConfigRequest_master hs master tag true 2 v).trans (by
      rw [show (2 : Fin 32).val = 2 from rfl, State.cfgRequest_write (by decide) due, State.cfgWrite_sleep d3]), ?_⟩
    obtain ⟨sends, regs, events, mem⟩ := answered (x := .cpl tag 0 false []) (fs := [Reg.BRDG_PCIE.DSTATE, Reg.BRDG_STAT.D3])
      (t := (s.put Reg.BRDG_PCIE.DSTATE 3).put Reg.BRDG_STAT.D3 1) (s := s) (by simp) (by simp) rfl
      (regsBut_put (regsBut_put (regsBut_refl s _) (by simp) _) (by simp) _) (by simp) (by simp [memSame])
    have asleep : ((((s.put Reg.BRDG_PCIE.DSTATE 3).put Reg.BRDG_STAT.D3 1).emit (.cpl tag 0 false [])).settle).get Reg.BRDG_PCIE.DSTATE = 3 := by
      rw [State.settle_get_ne _ _ (by decide) (by decide), State.emit_get', State.get_put_ne _ _ _ _ (by decide), State.get_put_self]
      rfl
    refine ⟨sends, asleep, ?_, ?_, regs, events, by simp, mem⟩
    · rw [State.settle_get_ne _ _ (by decide) (by decide), State.emit_get', State.get_put_self]
      rfl
    · exact decide_eq_true asleep
  case forms =>
    intro b k p w tag i v s hs
    exact ⟨fun master => ⟨exec_pcieReset_master hs master k, exec_pcieConfigRequest_master hs master tag b i v, exec_pcieLinkChange_master hs master b p w⟩,
      fun member => exec_pcie_member hs member b k p w tag i v⟩
  case down =>
    intro p w s hs master down held waiting sems
    have none_ : NoneWaits s := ⟨held, waiting, sems⟩
    rw [exec_pcieLinkChange_master hs master, State.pcieLink_down down, none_.drainWaiting]
  case wake =>
    rintro tag v u s hs master due d0 d3 rfl
    rw [exec_pcieConfigRequest_master hs master, show (2 : Fin 32).val = 2 from rfl, State.cfgRequest_write (by decide) due, State.cfgWrite_wake d0 d3]
  case sizes =>
    intro tag v s hs master due small
    refine ⟨_, (exec_pcieConfigRequest_master hs master tag true 3 v).trans (by
      rw [show (3 : Fin 32).val = 3 from rfl, State.cfgRequest_write (by decide) due, State.cfgWrite_sizes small]), ?_⟩
    obtain ⟨sends, regs, events, mem⟩ := answered (x := .cpl tag 0 false []) (fs := [Reg.BRDG_PCIE.MPS, Reg.BRDG_PCIE.MRRS])
      (t := (s.put Reg.BRDG_PCIE.MPS (bits v.toNat 7 5)).put Reg.BRDG_PCIE.MRRS (bits v.toNat 14 12)) (s := s) (by simp) (by simp) rfl
      (regsBut_put (regsBut_put (regsBut_refl s _) (by simp) _) (by simp) _) (by simp) (by simp [memSame])
    refine ⟨sends, ?_, ?_, regs, events, by simp, mem⟩
    · rw [State.settle_get_ne _ _ (by decide) (by decide), State.emit_get', State.get_put_ne _ _ _ _ (by decide), State.get_put_self]
      exact Nat.mod_eq_of_lt (small.trans_lt (by decide))
    · rw [State.settle_get_ne _ _ (by decide) (by decide), State.emit_get', State.get_put_self]
      exact Nat.mod_eq_of_lt (Nat.mod_lt _ (by decide))
  case refusedRead =>
    intro tag v s hs master
    refine ⟨_, (exec_pcieConfigRequest_master hs master tag false 15 v).trans (by
      rw [show (15 : Fin 32).val = 15 from rfl, State.cfgRequest_refusedRead]), ?_⟩
    obtain ⟨sends, asked, count, flag, regs, brdg, mem⟩ := (State.answerUr_refused (s.bump Reg.BRDG_NPREQ.COUNT) tag).counted (by simp)
    exact ⟨sends, asked, count, flag, brdg, regs, mem⟩
  case base =>
    intro tag v s hs master due
    refine ⟨_, (exec_pcieConfigRequest_master hs master tag true 7 v).trans (by
      rw [show (7 : Fin 32).val = 7 from rfl, State.cfgRequest_write (by decide) due, State.cfgWrite_base (BitVec.isLt v)]), ?_⟩
    generalize s.brdg.bar0 / 2 ^ 32 * 2 ^ 32 + v.toNat / 2 ^ 24 * 2 ^ 24 = address
    obtain ⟨sends, regs, events, mem⟩ := answered (s := s) (t := { s with brdg.bar0 := address }) (x := .cpl tag 0 false []) (fs := []) rfl rfl rfl
      (regsBut_of_regs (regsBut_refl s _) rfl) rfl ⟨rfl, rfl, rfl, rfl, rfl⟩
    exact ⟨sends, by rw [State.settle_brdg, State.emit_brdg], regs, events, mem⟩
  case errors =>
    intro tag v s hs master due small
    refine ⟨_, (exec_pcieConfigRequest_master hs master tag true 13 v).trans (by
      rw [show (13 : Fin 32).val = 13 from rfl, State.cfgRequest_write (by decide) due]), ?_⟩
    obtain ⟨sends, regs, events, mem⟩ := answered (s := s) (t := s.cfgWrite 13 v.toNat) (x := .cpl tag 0 false []) (fs := []) rfl rfl rfl
      (regsBut_of_regs (regsBut_refl s _) rfl) rfl ⟨rfl, rfl, rfl, rfl, rfl⟩
    refine ⟨sends, fun i => ?_, regs, events, mem⟩
    rw [State.settle_brdg, State.emit_brdg, State.cfgWrite_errors]
    exact State.bit_cleared (BitVec.isLt v) i.isLt
  case refusedWrite =>
    intro tag v s hs master
    refine ⟨_, (exec_pcieConfigRequest_master hs master tag true 15 v).trans (by
      rw [show (15 : Fin 32).val = 15 from rfl, State.cfgRequest_refusedWrite]), ?_⟩
    obtain ⟨sends, regs, mem⟩ := s.aerReport_sent 1
    exact ⟨Follows.sent_trans sends (State.settle_follows _), (State.settle_brdg _).trans (s.aerReport_brdg 1), regsBut_settle (regsBut_of_regs (regsBut_refl s _) regs),
      State.memSame_trans mem (by simp [memSame])⟩
  case places =>
    intro tag i v s hs master low high due
    refine ⟨_, (exec_pcieConfigRequest_master hs master tag false i v).trans (by rw [State.cfgRequest_read (by omega) due, State.cfgRead_places low high]), ?_⟩
    obtain ⟨sends, regs, events, mem⟩ := answered (s := s) (t := s)
      (x := .cpl tag 0 false (natLe 4 (if i.val = 16 then 3 else if i.val = 17 then 0x200000 else 0x201000))) (fs := []) rfl rfl rfl (regsBut_refl s _) rfl
      ⟨rfl, rfl, rfl, rfl, rfl⟩
    exact ⟨sends, regs, events, by simp, mem⟩

end Sys2Proof.Machine
end
